-- ==== Sys2Proof/Word.lean ====
section
/-! DEFINITION. The machine's word (every register is 32 bits wide, R5) and byte. -/

namespace Sys2Proof

/-- a register word (R5) -/
abbrev Word := BitVec 32

/-- a byte of a memory, a frame or a register -/
abbrev Byte := BitVec 8

end Sys2Proof
end

