-- ==== Sys2Proof/Syntax.lean ====
section
/-! DEFINITION. The commands the block takes: one constructor per row of spec/opcode_table.json. A command that arrives
from outside carries dt, the device time since the last command in units of 2^-20 PMCLK period (log entry 1); a command
that is the expiry of a timer the machine holds carries none (log entry 2). -/

namespace Sys2Proof

/-- an IRIG-B frame as its bits decode (R250 to R252): code, time fields, markers, field values and parity in order, the
control functions of the extension: leap pending and its sign, summer time pending, in force, offset, time quality -/
structure IrigFrame where
  code : Nat := 0
  sec : Nat := 0
  min : Nat := 0
  hour : Nat := 0
  doy : Nat := 0
  year : Nat := 0
  markersOk : Bool := false
  bcdOk : Bool := false
  parityOk : Bool := false
  lsp : Bool := false
  ls : Bool := false
  dsp : Bool := false
  dst : Bool := false
  offMin : Int := 0
  tq : Nat := 0
  deriving DecidableEq, Repr, Inhabited

/-- what a rail detector reads (R477, R489): the rail, 0 VDD_CORE to 10, and its level in mV -/
structure RailAt where
  rail : Nat := 0
  mv : Nat := 0
  deriving DecidableEq, Repr, Inhabited

/-- a level of RESET_N as RCLK samples it (R484), dt after the last command: for how many edges in a row it has been read -/
structure LevelFor where
  dt : Nat := 0
  n : Nat := 0
  deriving DecidableEq, Repr, Inhabited

/-- a supply dt after the last command, in mV (R255) -/
structure SupplyAt where
  dt : Nat := 0
  mv : Nat := 0
  deriving DecidableEq, Repr, Inhabited

/-- a supply dt after the last command, in mV, and for how many ns it has not come back past that level (R491) -/
structure SupplyFor where
  dt : Nat := 0
  mv : Nat := 0
  ns : Nat := 0
  deriving DecidableEq, Repr, Inhabited

/-- an edge at a reference input (R95): the input, its leg (false INn_P, true INn_N), whether it rises -/
structure LegEdge where
  n : Nat := 0
  leg : Bool := false
  rise : Bool := true
  deriving DecidableEq, Repr, Inhabited

/-- an edge at an input of a postmark unit (R128, R139): rising or falling at its source, the tap it had passed at the PMCLK edge that
sampled it, how many PMCLK periods before the command that edge was -/
structure InEdge where
  rise : Bool := true
  tap : Nat := 0
  age : Nat := 0
  deriving DecidableEq, Repr, Inhabited

/-- a Courier frame as it arrives or leaves (R375): destination, source, EVP, RETRY, SEQ, payload, the counter and tag of a
franked frame; bad: it breaks the line code, the byte count or the CRC of R376 -/
structure CrlFrame where
  dst : Nat := 0
  src : Nat := 0
  evp : Bool := false
  retry : Bool := false
  seq : Nat := 0
  payload : List Byte := []
  frank : Option (Nat × Nat) := none
  bad : Bool := false
  deriving DecidableEq, Repr, Inhabited

/-- the data of an Announce (R350, R356): grandmaster identity and quality, priorities, stepsRemoved, timeSource, currentUtcOffset and
the flags -/
structure AnnData where
  gmId : Nat := 0
  cls : Nat := 0
  acc : Nat := 0
  var : Nat := 0
  p1 : Nat := 0
  p2 : Nat := 0
  steps : Nat := 0
  timeSource : Nat := 0
  utcOff : Nat := 0
  leap61 : Bool := false
  leap59 : Bool := false
  utcOk : Bool := false
  ptpScale : Bool := false
  timeTrace : Bool := false
  freqTrace : Bool := false
  deriving DecidableEq, Repr, Inhabited

/-- an Ethernet frame as it arrives (R341, R342): addresses, VID and PCP of its tag, EtherType, length; UDP to port 319 or 320; bad: runt,
bad FCS -/
structure FrameHdr where
  dst : Nat := 0
  src : Nat := 0
  tag : Option (Nat × Nat) := none
  etype : Nat := 0
  len : Nat := 64
  udpPtp : Bool := false
  bad : Bool := false
  deriving DecidableEq, Repr, Inhabited

/-- the AUTHENTICATION TLV of a message (R359): SPP, keyID, ICV, and the octets the ICV covers -/
structure PtpAuth where
  spp : Nat := 0
  keyId : Nat := 0
  icv : List Byte := []
  octets : List Byte := []
  deriving DecidableEq, Repr, Inhabited

/-- what every PTP message carries: its frame, domain, sender, sequence, correctionField (2^-16 ns), twoStepFlag, TLV -/
structure PtpMsg where
  hdr : FrameHdr := {}
  domain : Nat := 0
  srcId : Nat := 0
  srcPort : Nat := 0
  seq : Nat := 0
  corr : Int := 0
  twoStep : Bool := false
  auth : Option PtpAuth := none
  deriving DecidableEq, Repr, Inhabited

inductive Instr where
  /-- REGISTER_WRITE (R499): A host write, through the plain, set, clear or toggle alias, to a register that has no row of its own is carried out with the access, lock and batching checks. -/
  | registerWrite (dt addr n data : Nat)
  /-- READ_CLEAR (R6): A read of a clear-on-read field returns its value and then clears the bytes read. -/
  | readClear (dt addr n : Nat)
  /-- HIGH_WORD_READ (R507): A read of the high word of a wide value loads the port hold with the value's other words. -/
  | highWordRead (dt addr : Nat)
  /-- SSTAT_READ (R157): A read of PMU.STATg_SSTAT loads the hold with the whole statistics set of group g. -/
  | sstatRead (dt g : Nat)
  /-- QSPI_WRITE (R515): A Quad-SPI WRITE frame posts 4-byte words as a burst. -/
  | qspiWrite (dt addr : Nat) (bytes : List Byte)
  /-- QSPI_WRITE_FIXED (R515): A Quad-SPI WRITE_FIXED frame posts 4-byte words, all to the one address given. -/
  | qspiWriteFixed (dt addr : Nat) (bytes : List Byte)
  /-- QSPI_WRITE8 (R515): A Quad-SPI WRITE8 frame posts a one-byte write. -/
  | qspiWrite8 (dt addr : Nat) (bytes : List Byte)
  /-- QSPI_WRITE16 (R515): A Quad-SPI WRITE16 frame posts a two-byte write. -/
  | qspiWrite16 (dt addr : Nat) (bytes : List Byte)
  /-- QSPI_READ (R516): A Quad-SPI READ frame fetches 4-byte words as a burst, with wait and start nibbles. -/
  | qspiRead (dt addr n : Nat)
  /-- QSPI_READ_FIXED (R516): A Quad-SPI READ_FIXED frame fetches 4-byte words repeatedly from the one address given. -/
  | qspiReadFixed (dt addr n : Nat)
  /-- QSPI_READ8 (R516): A Quad-SPI READ8 frame fetches one byte. -/
  | qspiRead8 (dt addr : Nat)
  /-- QSPI_READ16 (R516): A Quad-SPI READ16 frame fetches two bytes. -/
  | qspiRead16 (dt addr : Nat)
  /-- QSPI_STATUS (R515): A Quad-SPI STATUS frame returns the status byte and clears OVF and HAF. -/
  | qspiStatus (dt : Nat)
  /-- POSTED_WRITE_EXECUTE (R517): A word waiting in the posted-write buffer is carried out in issue order. -/
  | postedWriteExecute (dt : Nat)
  /-- PARALLEL_READ (R521): A parallel-port read strobe is carried out, with HP_RDY handshake and optional half-word pairing. -/
  | parallelRead (dt addr be : Nat) (both : Bool)
  /-- PARALLEL_WRITE (R521): A parallel-port write strobe is carried out, or staged as a low half for pairing. -/
  | parallelWrite (dt addr be : Nat) (both : Bool) (data : Nat)
  /-- HALF_WORD_PAIR_TIMEOUT (R522): A staged low half-word that waits 10 µs without its completing access is carried out alone as a narrow write. -/
  | halfWordPairTimeout
  /-- RWS_BATCH_LAND (R509): A batch of always-on register writes lands at the third slow edge after it opened, and PENDING clears when nothing remains in flight. -/
  | rwsBatchLand (g : Nat)
  /-- GEN_MODE_WRITE (R46): A write to GEN.MODE is refused, carried out without change, or starts the exit and entry sequences of the differing mode bits. -/
  | genModeWrite (dt al data : Nat)
  /-- MODE_SEQUENCE_DONE (R46): A mode bit's entry or exit sequence completes; its IN_TRANSIT bit clears, EFFECTIVE updates and the next sequence starts. -/
  | modeSequenceDone (dt : Nat)
  /-- GEN_ISOLATE_WRITE (R55): A write to GEN.ISOLATE requests isolation or release of blocks, or is refused outside maintenance mode. -/
  | genIsolateWrite (dt al data : Nat)
  /-- ISOLATION_DONE (R55): A block reaches its isolated state and its ISO_DONE bit becomes 1. -/
  | isolationDone (dt b : Nat)
  /-- RELEASE_DONE (R55): An isolated block completes its release and returns to service, and the MT exit releases the next block. -/
  | releaseDone (dt b : Nat)
  /-- SE_LOCK_WRITE (R511): A write of 1 to GEN.LOCK.SE_LOCK sets the secure-mode lock. -/
  | seLockWrite (dt : Nat)
  /-- SYSCLK_PRESENCE_WINDOW (R107): A 12-cycle RCLK presence window ends and sets or clears SYSCLK_PRES from its SYSCLK_IN edge count. -/
  | sysclkPresenceWindow (dt edges : Nat)
  /-- CORE_ALIGN_DONE (R225): The relocked core synthesiser finishes pulling its frame back into alignment and CORE_FROZEN returns to 0. -/
  | coreAlignDone (dt : Nat)
  /-- RCLK_MEASUREMENT_END (R27): A 1024-cycle RCLK measurement interval ends and RCLK_OK is updated. -/
  | rclkMeasurementEnd (n : Nat)
  /-- OCXO_RDY_RISE (R108): OCXO_RDY rises and restarts the 1 s count of the warm-up. -/
  | ocxoRdyRise (dt : Nat)
  /-- OCXO_RDY_FALL (R108): OCXO_RDY falls, breaking the count or, outside a warm-up, starting one and raising the oven-ready-lost fault source. -/
  | ocxoRdyFall (dt : Nat)
  /-- WARMUP_END (R108): OCXO_RDY has held 1 for 1 s and the warm-up ends normally. -/
  | warmupEnd
  /-- WARMUP_TIMEOUT (R108): ELAPSED reaches WARM_MAX and the warm-up ends by timeout, setting WARM_TO. -/
  | warmupTimeout
  /-- WARM_MAX_WRITE (R109): A write of WARM_MAX applies at once to a running warm-up and may end it by timeout. -/
  | warmMaxWrite (dt al data : Nat)
  /-- RAIL_FALL (R477): A rail detector reads its rail below the falling threshold and asserts the power-on reset source. -/
  | railFall (dt i mv : Nat)
  /-- RAIL_RISE (R489): A rail passes its rising threshold, starting the power-on delay once every rail is up. -/
  | railRise (dt : Nat) (at_ : RailAt)
  /-- POR_DELAY_END (R477): The 8192-cycle delay after every rail is up ends and the power-on source releases. -/
  | porDelayEnd
  /-- RESET_N_LOW (R484): RESET_N is recognised low after four low samples and asserts its reset source. -/
  | resetNLow (level : LevelFor)
  /-- RESET_N_HIGH (R484): RESET_N is recognised high after four high samples and releases its source. -/
  | resetNHigh (level : LevelFor)
  /-- FLT_CHIP_RESET_END (R477): The 16-cycle FLT chip-reset pulse ends. -/
  | fltChipResetEnd
  /-- RESET_HOLD_DONE (R482): The hold step of a reset level completes, after any save of step 2 or running save has ended. -/
  | resetHoldDone
  /-- RESET_RELEASE (R482): With no source asserted, the sequencer senses fuses and samples straps at L0 and releases the device, updating RST.CAUSE. -/
  | resetRelease (s1 s2 s3 d1 : Nat) (bad : Bool) (banks : List Nat)
  /-- SUPPLY_AND_VBAT_LOSS (R255): Loss of both the main supply and VBAT returns every VBAT field to its stated value and clears the backup clock's SET. -/
  | supplyAndVbatLoss (dt : Nat)
  /-- IMG_BOOT_START (R84): Once R24 and SEC READY allow it, IMG reads the pointer, starts the flash read or enters DL_WAIT. -/
  | imgBootStart (dt : Nat)
  /-- FLASH_READ_DONE (R80): A flash candidate has been copied into the spare bank and is ready for verification. -/
  | flashReadDone (dt : Nat) (bytes : List Byte)
  /-- PASS1_DONE (R81): Pass 1 of a candidate ends, succeeding or recording a failure code and moving to the next candidate. -/
  | pass1Done (dt : Nat)
  /-- PASS2_DONE (R82): Pass 2 finishes applying the segments, writes TIME_DPLL and INIT_MODE, activates image-set locks and starts the mode entries. -/
  | pass2Done (dt : Nat)
  /-- DL_START (R90): IMG.CTRL.DL_START begins an in-service full download. -/
  | dlStart (dt : Nat)
  /-- DLDATA_WRITE (R80): A write to IMG.DLDATA stores the next four image bytes in the spare bank. -/
  | dldataWrite (dt data : Nat)
  /-- DL_DONE (R80): IMG.CTRL.DL_DONE ends the word transfer and starts verification. -/
  | dlDone (dt : Nat)
  /-- DL_ABORT (R90): IMG.CTRL.DL_ABORT abandons or restarts a download, or ends a partial reload. -/
  | dlAbort (dt : Nat)
  /-- DL_VERIFY_DONE (R88): Verification of an in-service download ends and sets SPARE_VALID on success. -/
  | dlVerifyDone (dt : Nat)
  /-- IMG_COMMIT (R88): IMG.CTRL.COMMIT points the next MRAM boot at the spare bank. -/
  | imgCommit (dt : Nat)
  /-- PR_START (R87): IMG.CTRL.PR_START begins a partial reload in PR_LOAD. -/
  | prStart (dt : Nat)
  /-- PR_ABORT (R93): IMG.CTRL.PR_ABORT abandons a partial reload before its commit cycle. -/
  | prAbort (dt : Nat)
  /-- PR_VERIFY_DONE (R87): Pass 1 of a partial image ends and, on success, shadow writing begins. -/
  | prVerifyDone (dt : Nat)
  /-- PR_COMMIT_CYCLE (R87): With shadows complete, the partial reload commits in one core cycle or fails on a locked field. -/
  | prCommitCycle (dt : Nat)
  /-- ROLLFWD (R88): IMG.CTRL.ROLLFWD programs anti-rollback bits up to the running SECVER. -/
  | rollfwd (dt : Nat)
  /-- IMG_LOCK_WRITE (R92): A write of 1 to IMG.LOCK.LOCK sets the image lock. -/
  | imgLockWrite (dt : Nat)
  /-- INPUT_CONFIG_WRITE (R98): A write changing LEG, POL, DIV or NOM of an input restarts its monitors and disqualifies its slot. -/
  | inputConfigWrite (dt n r al data : Nat)
  /-- REFERENCE_EDGE (R100): A divided reference edge arrives and updates the activity, frequency and phase-hit monitors. The operand is
  an edge of a leg; the model selects and divides (R95). -/
  | referenceEdge (dt : Nat) (edge : LegEdge)
  /-- MISSING_EDGE (R100): (1 + τ)T, or a further T, passes without an edge and a missing-edge event adds to BUCKET. -/
  | missingEdge (n : Nat)
  /-- QUALIFICATION_COMPLETE (R119): REMAIN reaches 0 and the slot enters QUALIFIED, delivering its EFF_QL to SEL. -/
  | qualificationComplete (i : Nat)
  /-- SLOT_CFG_WRITE (R121): A write to REF.SLOTs_CFG overrides the QL, forces disqualification or releases it. -/
  | slotCfgWrite (dt i al data : Nat)
  /-- NMEA_SENTENCE (R111): A complete NMEA sentence arrives on TOD_RXk and is accepted or rejected. -/
  | nmeaSentence (dt k : Nat) (bytes : List Byte)
  /-- LABEL_TIMEOUT (R112): TIMEOUT seconds pass after the last labelled pulse and LBL_VALID clears. -/
  | labelTimeout (k : Nat)
  /-- EDGE_CAPTURE (R129): A slice captures a passed edge, positions it and stamps, pairs or accumulates it. The operands are
  the edges at the start and at the stop input of unit b within one reorder window. -/
  | edgeCapture (dt b : Nat) (starts stops : List InEdge)
  /-- PAIR_TIMEOUT (R145): W_post passes after an open start with no stop, producing a TIMEOUT result. -/
  | pairTimeout (b : Nat)
  /-- EARLY_STOP_EXPIRY (R145): W_pre passes after a pending stop with no start, and EARLY is counted. -/
  | earlyStopExpiry (b : Nat)
  /-- GATE_NOSIG_TIMEOUT (R149): No closing edge arrives within 2 × GATE ms and the gate ends with NOSIG. -/
  | gateNosigTimeout (b : Nat)
  /-- LOOP_CHECK (R132): The periodic delay-line replica check trims the line and updates LOOP_LOCK. -/
  | loopCheck (dt n : Nat) (e : Int)
  /-- TABLE_REPLACE (R133): A code-density histogram reaches 2^20 hits and the new linearity table replaces the live one. -/
  | tableReplace (dt n : Nat) (hist : List Nat)
  /-- TABLE_AGE_EXPIRY (R135): TABLE_AGE exceeds AGE_MAX, making stamps uncalibrated and raising the calibration-stale fault source. -/
  | tableAgeExpiry (n : Nat)
  /-- SKEW_RUN (R134): PMU.CALCTL.SKEW_RUN starts a skew run. -/
  | skewRun (dt : Nat)
  /-- SKEW_RUN_DONE (R134): A skew run collects 4096 common edges and sets the K values or fails on range. -/
  | skewRunDone (dt : Nat) (sums : List Int)
  /-- SKEW_RUN_TIMEOUT (R134): A skew run fails because 10 ms pass without 4096 edges on every slice. -/
  | skewRunTimeout
  /-- REBUILD (R158): PMU.CALCTL.REBUILD restarts every table build from an empty histogram. -/
  | rebuildCmd (dt : Nat)
  /-- PMU_POP_SQ (R154): CTL.POP_SQ pops the stamp-queue head. -/
  | pmuPopSq (dt b : Nat)
  /-- PMU_POP_RQ (R154): CTL.POP_RQ pops the result-queue head. -/
  | pmuPopRq (dt b : Nat)
  /-- PMU_FLUSH_SQ (R154): CTL.FLUSH_SQ flushes the stamp queue. -/
  | pmuFlushSq (dt b : Nat)
  /-- PMU_FLUSH_RQ (R154): CTL.FLUSH_RQ flushes the result queue. -/
  | pmuFlushRq (dt b : Nat)
  /-- UNIT_RESTART (R141): CTL.RESTART returns a unit to WAIT, discarding partial state. -/
  | unitRestart (dt b : Nat)
  /-- UNIT_CONFIG_WRITE (R141): A write to a unit's CFG, windows, GATE or NOM returns the unit to WAIT. -/
  | unitConfigWrite (dt b r al data : Nat)
  /-- TEST_PAIR (R162): PMU.TEST.GO feeds an isolated unit a test pair and writes TESTRES. -/
  | testPair (dt al data cs cp : Nat)
  /-- HOLDOFF_EXPIRY (R169): The hold-off timer of a switch expires and PREPARE starts. -/
  | holdoffExpiry (d : Nat)
  /-- PREPARE_TIMEOUT (R171): No phase sample of the target arrives for 2.5 s in PREPARE and the switch is abandoned. -/
  | prepareTimeout (d : Nat)
  /-- SETTLE_END (R169): The settle period ends and the selector returns to IDLE. -/
  | settleEnd (d : Nat)
  /-- DWELL_END (R173): The dwell period ends after DWELL s. -/
  | dwellEnd (d : Nat)
  /-- DWELL_CLR (R173): CTL.DWELL_CLR ends a dwell period at once. -/
  | dwellClr (dt d : Nat)
  /-- RERUN (R166): CTL.RERUN makes the selector compute its target again. -/
  | rerunCmd (dt d : Nat)
  /-- SEL_ABORT (R174): CTL.ABORT ends a switch in DECIDE or PREPARE with outcome 0x4. -/
  | selAbort (dt d : Nat)
  /-- SELECTION_CONFIG_WRITE (R167): A write to a selector's CFG, MASK or PRI changes its inputs or mode, or is refused for an invalid MAN_SLOT. -/
  | selectionConfigWrite (dt d r al data : Nat)
  /-- FREQ_ESTIMATE_UPDATE (R175): SEL updates the per-slot frequency estimates and re-evaluates disagreement. -/
  | freqEstimateUpdate (dt : Nat)
  /-- PHASE_SAMPLE (R186): A phase sample of a slot reaches a DPLL's phase detector. -/
  | phaseSample (dt i : Nat) (diff : Int)
  /-- FORCED_SAMPLE_TIMEOUT (R191): In forced selection 2.5 s pass without a sample and the input is lost. -/
  | forcedSampleTimeout (d : Nat)
  /-- PHASE_STEP_WRITE (R192): A write of DPLLd_PSTEP_HI carries out an immediate step or adds to a slew. -/
  | phaseStepWrite (dt d al data : Nat)
  /-- SLEW_CANCEL (R192): CTL.SLEW_CANCEL sets PEND to 0 and keeps the part applied. -/
  | slewCancel (dt d : Nat)
  /-- MODEL_CLR (R190): CTL.MODEL_CLR discards buckets, model and w_avg, taking a DPLL in HOLDOVER to FREERUN. -/
  | modelClr (dt d : Nat)
  /-- FRW_HI_WRITE (R190): A write of DPLLd_FRW_HI stores FR_WORD and loads it into the word in FREERUN. -/
  | frwHiWrite (dt d al data : Nat)
  /-- HOLDOVER_SECOND (R195): Each second in HOLDOVER the word, HOTE, IN_SPEC and the sanity check are updated. -/
  | holdoverSecond (d : Nat)
  /-- HOLDOVER_DELAY_EXPIRY (R202): HO_DLY passes in HOLDOVER and the holdover fault source is raised. -/
  | holdoverDelayExpiry (d : Nat)
  /-- MINUTE_SAMPLE (R197): A 60 s learning minute ends and gives a drift-model sample if its conditions held. -/
  | minuteSample
  /-- BUCKET_CLOSE (R197): Sixty minute slots close an hour bucket, the model refits and the buckets are written back. -/
  | bucketClose (dt : Nat)
  /-- TEMP_READING (R199): The on-die temperature sensor reads and VALID is evaluated. -/
  | tempReading (dt : Nat) (t : Int)
  /-- BAND_SEARCH_DONE (R211): A synthesiser band search completes and enters LOCKING or FAILED. The operands are the
  measured centre of band b₀ and those of b₀ - 1 and b₀ + 1, in Hz. -/
  | bandSearchDone (dt k centre : Nat) (beside : Nat × Nat)
  /-- SYNTH_LOCK_DECLARED (R212): The TDC error stays within ±20 ps for 1024 PFD cycles and the synthesiser enters LOCKED, aligning its frame. -/
  | synthLockDeclared (dt k : Nat) (err : Int)
  /-- SYNTH_LOCK_LOST (R212): A synthesiser loses lock and enters FROZEN, raising its lock-lost fault source. -/
  | synthLockLost (dt k : Nat) (err : Int)
  /-- SYN_COMMIT (R219): A write of SYN.COMMIT schedules shadowed values for the next frame-tick boundary, or is refused. -/
  | synCommit (dt al data : Nat)
  /-- COMMIT_BOUNDARY (R219): At the commit boundary frame tick the named shadows become live, starting a glide or band change. -/
  | commitBoundary
  /-- GLIDE_DONE (R222): A glide ramp reaches the new f_nom and the synthesiser returns to LOCKED. -/
  | glideDone (k : Nat)
  /-- MUTE_DONE (R223): Every output of a muting synthesiser is stopped or moved, and the band search starts. -/
  | muteDone (dt k : Nat)
  /-- REALIGN (R216): SYNk_CTL.REALIGN starts realignment of the frame counter. -/
  | realignCmd (dt k : Nat)
  /-- REALIGN_DONE (R216): Realignment completes and PH_ALIGNED becomes 1. -/
  | realignDone (dt k : Nat)
  /-- RELOCK (R224): SYNk_CTL.RELOCK forces MUTE and a full search from FROZEN or FAILED. -/
  | relockCmd (dt k : Nat)
  /-- OUTPUT_START (R226): An enabled output starts at a frame tick of its locked synthesiser. -/
  | outputStart (dt n : Nat)
  /-- OUTPUT_STOP_DONE (R226): A stopping output completes its high phase and holds its STOP level. -/
  | outputStopDone (dt n : Nat)
  /-- OUTPUT_MOVE_DONE (R227): A hitless move of an output to another synthesiser completes and ALIGNED becomes 1. -/
  | outputMoveDone (dt n : Nat)
  /-- SYN_TEST_GO (R234): SYN.TEST.GO starts the test of a synthesiser while SYN is isolated. -/
  | synTestGo (dt al data : Nat)
  /-- SYN_TEST_DONE (R234): A synthesiser test ends and sets DONE and PASS. The operands are the spur check, none where
  the synthesiser did not lock, the bands out of range and the worst spur. -/
  | synTestDone (dt : Nat) (check : Option Bool) (nfail spur : Nat)
  /-- SNAP (R237): TKP.CTL.SNAP latches the time of day and its UTC and civil views. -/
  | snapCmd (dt : Nat)
  /-- SET (R241): TKP.CTL.SET loads the TSET values into the time of day in the next core cycle. -/
  | setCmd (dt : Nat)
  /-- SET_SEC (R241): TKP.CTL.SET_SEC requests a seconds-only set at the next whole second. -/
  | setSec (dt : Nat)
  /-- SET_SEC_LOAD (R241): The waiting SET_SEC loads its seconds at the first whole second at least 1 µs after the write. -/
  | setSecLoad
  /-- LEAP_CANCEL (R245): TKP.CTL.LEAP_CANCEL clears a pending leap before 23:59:00. -/
  | leapCancel (dt : Nat)
  /-- RTC_SYNC (R255): TKP.CTL.RTC_SYNC sets the backup clock from the time of day at its next whole second. -/
  | rtcSync (dt : Nat)
  /-- ADJ_HI_WRITE (R242): A write of TKP.ADJ_HI requests a slew of the time DPLL. -/
  | adjHiWrite (dt al data : Nat)
  /-- SECONDS_CHECK (R239): Each second TKP tests the whole-second error and jams it after SEC_CONF consistent seconds. -/
  | secondsCheck (dt : Nat)
  /-- PPS (R248): The time of day passes a whole TAI second, issuing the timekeeper 1PPS. -/
  | pps
  /-- LEAP_LATCH (R245): At 23:59:00 UTC of the leap day the pending leap is latched. -/
  | leapLatch
  /-- LEAP_EXECUTE (R245): A leap second is inserted or deleted in the UTC view and ΔAT changes. -/
  | leapExecute
  /-- UTC_WRITE (R245): A host write of TKP.UTC announces or withdraws a leap while the host is the source. -/
  | utcWrite (dt al data : Nat)
  /-- CIVIL_OFFSET_CHANGE (R246): The civil offset changes at a rule or table instant, setting EVT.DST. -/
  | civilOffsetChange (dt : Nat)
  /-- TOD_TX_START (R249): START ms after the 1PPS the serial output sends its ZDA and RMC sentences. -/
  | todTxStart (k : Nat)
  /-- IRIG_FRAME (R250): An IRIG-B frame is decoded, judged valid or not, and updates FLOCK and the slot 29 sample. -/
  | irigFrame (dt age : Nat) (els : List (Nat × Nat))
  /-- IRIG_FRAME_TIMEOUT (R250): 2 s pass without a valid frame and FLOCK clears. -/
  | irigFrameTimeout
  /-- RTC_SECOND (R255): A backup-clock second boundary delivers a slot 31 sample and a discipline comparison. -/
  | rtcSecond
  /-- RTC_TRIM_UPDATE (R254): After 1024 s of unbroken discipline TRIM is adjusted by the observed drift. -/
  | rtcTrimUpdate (dt : Nat)
  /-- RTC_LOAD (R254): After L0 the time of day takes the backup clock's seconds at its first second boundary after CORE_LOCK. -/
  | rtcLoad
  /-- RTC_SEC_HI_WRITE (R255): A write of TKP.RTC_SEC_HI sets the backup clock with SUBSEC 0. -/
  | rtcSecHiWrite (dt al data : Nat)
  /-- RTC_OSC_FAIL (R253): Sixteen missing crystal cycles set OSC_FAIL and clear RUN. -/
  | rtcOscFail (dt : Nat)
  /-- VBAT_LOW (R255): VBAT falls below 1.9 V and sets VBAT_LOW. -/
  | vbatLow (at_ : SupplyAt)
  /-- MAINS_UPDATE (R266): A 40 µs decimated sample completes the mains estimator update for every channel. -/
  | mainsUpdate (xs : List Int)
  /-- DROPOUT_EXPIRY (R270): DROP_MAX cycles pass in DROPOUT and the channel enters LOST. -/
  | dropoutExpiry (n : Nat)
  /-- CLIP_CLEAR (R264): One nominal cycle passes after the last clipped sample and CLIP clears. -/
  | clipClear (n : Nat)
  /-- ZC_PULSE (R275): The predicted instant of the next positive-going crossing arrives and the route pulse is issued. -/
  | zcPulse (n : Nat)
  /-- SEQUENCE_CHECK (R277): Once per cycle the phase sequence of a group is classified. -/
  | sequenceCheck (dt g : Nat)
  /-- MNS_SNAP (R283): MNS.CTL.SNAP latches the latest update of every channel and grid time. -/
  | mnsSnap (dt : Nat)
  /-- POP_ZQ (R276): MNS.CTL.POP_ZQ pops the zero-crossing queue head. -/
  | popZq (dt : Nat)
  /-- FLUSH_ZQ (R276): MNS.CTL.FLUSH_ZQ flushes the zero-crossing queue. -/
  | flushZq (dt : Nat)
  /-- GT_ALIGN (R279): MNS.CTL.GT_ALIGN requests alignment of grid time at the next grid crossing in TRACK. -/
  | gtAlign (dt : Nat)
  /-- GT_CFG_WRITE (R280): A write to GT_CFG changes grid channels, acting as a leave of TRACK if the channel in use is unnamed. -/
  | gtCfgWrite (dt al data : Nat)
  /-- GRID_F_WRITE (R265): A write changing GRID_F restarts every channel, or is refused while grid time is on. -/
  | gridFWrite (dt al data : Nat)
  /-- MNS_TEST_GO (R287): MNS.TEST.GO starts the modulator test of a channel while MNS is isolated. -/
  | mnsTestGo (dt al data : Nat)
  /-- MNS_TEST_DONE (R287): After 100 ms the modulator test reports MEAN, DONE and PASS. -/
  | mnsTestDone (mean : Int)
  /-- AST_SITE_WRITE (R297): A write changing the site, DUT1 or a threshold triggers a full computation. -/
  | astSiteWrite (dt r al data : Nat)
  /-- RECALC (R297): AST.CTL.RECALC triggers a full computation. -/
  | recalc (dt : Nat)
  /-- AST_COMPUTE_DONE (R297): A solar computation completes and its result set is published. -/
  | astComputeDone (dt : Nat)
  /-- AST_MIDNIGHT (R298): At local civil midnight day 1 becomes day 0 and the new day 1 is computed. -/
  | astMidnight
  /-- AST_TEST_GO (R303): AST.TEST.GO starts the vector test while AST is isolated. -/
  | astTestGo (dt al data : Nat)
  /-- AST_TEST_DONE (R303): The vector test ends and reports PASS and FIRST. -/
  | astTestDone (dt : Nat) (bad : Option Nat)
  /-- ENT_WRITE (R308): SCH.ENT_CTL.WRITE checks and stores a schedule entry and writes it back. -/
  | entWrite (dt : Nat)
  /-- ENT_READ (R308): SCH.ENT_CTL.READ copies a stored entry into ENT_D0-D3. -/
  | entRead (dt : Nat)
  /-- COMPARATOR_LOAD (R313): At T_b − 1 ms SCH loads a channel's dispatch comparator, applying any mains-phase qualifier. -/
  | comparatorLoad (n : Nat)
  /-- DISPATCH (R314): A loaded instant arrives and the channel's action executes. -/
  | dispatchCmd (n : Nat)
  /-- PULSE_END (R316): A pulse or coil pulse ends, the channel leaves BUSY and any delayed action executes. -/
  | pulseEnd (n : Nat)
  /-- FEEDBACK_EDGE (R317): A feedback edge is stamped and may resolve the action awaiting it. -/
  | feedbackEdge (dt n : Nat) (level : Bool)
  /-- FEEDBACK_TIMEOUT (R317): FB_WIN passes without the expected feedback, giving FB_FAIL and the feedback-mismatch fault source. -/
  | feedbackTimeout (n : Nat)
  /-- SCAN_ADVANCE (R322): Each second SCH advances SCAN_T. -/
  | scanAdvance
  /-- RECOVERY_START (R322): Once its conditions hold, SCH starts a recovery pass over the missed interval. -/
  | recoveryStart (dt : Nat)
  /-- RECOVERY_DONE (R323): The recovery pass completes its folded, late and restore actions and SCH enters RUN. -/
  | recoveryDone (dt : Nat)
  /-- REMOTE_SEND (R325): RLEAD ms before a remote instant SCH issues the SWITCH transaction. -/
  | remoteSend
  /-- SCH_CMD (R332): A write of SCH.CMD executes an action at once on a local or remote target. -/
  | schCmd (dt al data : Nat)
  /-- ISSUE (R327): RCk_CTL.ISSUE starts a registered command in ARMING. -/
  | issueCmd (dt k g act : Nat)
  /-- RC_ABORT (R329): RCk_CTL.ABORT aborts a registered or plain command. -/
  | rcAbort (dt k : Nat)
  /-- PLAIN (R330): RCk_CTL.PLAIN sends a plain group command to every target. -/
  | plainCmd (dt k g act : Nat) (atOnce : Bool)
  /-- RC_ARM_TIME (R327): At T_f − ALEAD a scheduled registered command arms in a free slot or records NO_SLOT. -/
  | rcArmTime
  /-- RC_DEADLINE (R327): T_d passes with a target unarmed and the command is cancelled. -/
  | rcDeadline (k : Nat)
  /-- RC_COMMIT_RETRY (R327): Every 1 ms unacknowledged commit or cancel transactions are repeated. -/
  | rcCommitRetry (k : Nat)
  /-- RC_FIRE (R327): At T_f committed local targets execute. -/
  | rcFire (k : Nat)
  /-- RC_PENDING_TIMEOUT (R327): At T_f + 1 s outstanding remote outcomes become PENDING records and the slot reaches DONE. -/
  | rcPendingTimeout (k : Nat)
  /-- OQ_POP (R320): SCH.OQCTL.POP pops the outcome-queue head. -/
  | oqPop (dt : Nat)
  /-- OQ_FLUSH (R320): SCH.OQCTL.FLUSH flushes the outcome queue. -/
  | oqFlush (dt : Nat)
  /-- SCH_TEST_GO (R334): SCH.TEST.GO runs the spare comparator test while SCH is isolated. -/
  | schTestGo (dt al data : Nat)
  /-- SCH_TEST_DONE (R334): The spare comparator test edge fires and TESTRES reports its error. -/
  | schTestDone (err : Int)
  /-- FRAME_RECEIVE (R341): An Ethernet frame is received, checked, learned and forwarded or discarded. -/
  | frameReceive (dt p : Nat) (h : FrameHdr)
  /-- SYNC_RECEIVE (R352): A Sync message is received and, in SLAVE, gives a raw offset. -/
  | syncReceive (dt p : Nat) (m : PtpMsg) (t1 : Int)
  /-- FOLLOW_UP_RECEIVE (R351): A Follow_Up completes a two-step Sync with its origin time. -/
  | followUpReceive (dt p : Nat) (m : PtpMsg) (t1 : Int)
  /-- DELAY_REQ_RECEIVE (R357): A MASTER port receives a Delay_Req and answers with Delay_Resp. -/
  | delayReqReceive (dt p : Nat) (m : PtpMsg)
  /-- DELAY_RESP_RECEIVE (R351): A Delay_Resp completes an E2E exchange and the path delay is filtered. -/
  | delayRespReceive (dt p : Nat) (m : PtpMsg) (t4 : Int) (reqId reqPort : Nat)
  /-- ANNOUNCE_RECEIVE (R350): An Announce is accepted and the BMCA runs. -/
  | announceReceive (dt p : Nat) (m : PtpMsg) (a : AnnData)
  /-- PDELAY_REQ_RECEIVE (R357): A Pdelay_Req is received and the responder answers. -/
  | pdelayReqReceive (dt p : Nat) (m : PtpMsg)
  /-- PDELAY_RESP_RECEIVE (R351): A Pdelay_Resp is received for the peer-delay measurement. -/
  | pdelayRespReceive (dt p : Nat) (m : PtpMsg) (t2 : Int) (reqId reqPort : Nat)
  /-- PDELAY_RESP_FOLLOW_UP_RECEIVE (R351): A Pdelay_Resp_Follow_Up completes a P2P exchange and the link delay is filtered. -/
  | pdelayRespFollowUpReceive (dt p : Nat) (m : PtpMsg) (t3 : Int) (reqId reqPort : Nat)
  /-- SYNC_INTERVAL (R357): A MASTER port's Sync interval expires and it sends Sync. -/
  | syncInterval (p : Nat)
  /-- ANNOUNCE_INTERVAL (R350): An announce interval expires; the BMCA runs and MASTER ports send Announce. -/
  | announceInterval (p : Nat)
  /-- DELAY_REQ_INTERVAL (R351): The delay-request interval expires and the port sends Delay_Req or Pdelay_Req. -/
  | delayReqInterval (p : Nat)
  /-- ANNOUNCE_RECEIPT_TIMEOUT (R349): ANN_TO intervals pass without a qualified Announce and the port returns to LISTENING. -/
  | announceReceiptTimeout (p : Nat)
  /-- QUALIFICATION_TIMEOUT (R349): The PRE_MASTER qualification timeout expires and the port enters MASTER. -/
  | qualificationTimeout (p : Nat)
  /-- FOLLOW_UP_HOLD_EXPIRY (R358): A transparent-clock Follow_Up correction waits 1 s and the late Follow_Up is forwarded unchanged. -/
  | followUpHoldExpiry
  /-- SCHEDULED_LAUNCH (R361): A franked self-timed event message is launched at its fixed instant t_L. -/
  | scheduledLaunch (p : Nat)
  /-- FDB_AGE (R341): A dynamic address-table entry reaches AGE s and is removed. -/
  | fdbAge
  /-- LINK_UP (R339): A port's link comes up and the port goes through INITIALIZING. -/
  | linkUp (dt p speed : Nat) (half : Bool)
  /-- LINK_DOWN (R339): A port's link goes down and the port enters FAULTY. -/
  | linkDown (dt p : Nat)
  /-- PORT_INIT_DONE (R349): INITIALIZING completes and the port enters LISTENING. -/
  | portInitDone (dt p : Nat)
  /-- CDR_LOCK_CHANGE (R362): A port's recovered-clock lock changes, starting or stopping slot 22 + p samples. -/
  | cdrLockChange (dt p : Nat) (lock : Bool)
  /-- ESMC_PDU_RECEIVE (R363): An ESMC information or event PDU is received and its QL decoded. -/
  | esmcPduReceive (dt p : Nat) (event : Bool) (ssm : Nat) (ext : Option Nat)
  /-- ESMC_TIMEOUT (R363): 5 s pass without an information PDU and ESMC_OK clears. -/
  | esmcTimeout (p : Nat)
  /-- ESMC_INFO_TX (R364): Each second a SyncE-capable port sends an ESMC information PDU. -/
  | esmcInfoTx (p : Nat)
  /-- AN_RESTART (R339): Pp_CTL.AN_RESTART takes the link down and restarts it. -/
  | anRestart (dt p : Nat)
  /-- PORT_TSQ_FLUSH (R346): Pp_CTL.FLUSH flushes the port timestamp queue. -/
  | portTsqFlush (dt p : Nat)
  /-- PORT_TSQ_POP (R346): Pp_CTL.POP pops the port timestamp-queue head. -/
  | portTsqPop (dt p : Nat)
  /-- FDB_LOOKUP (R369): FDB_CTL GO with OP look up searches the address table. -/
  | fdbLookup (dt : Nat)
  /-- FDB_ADD (R369): FDB_CTL GO with OP add static adds a static entry. -/
  | fdbAdd (dt ports : Nat)
  /-- FDB_DELETE (R369): FDB_CTL GO with OP delete removes an entry. -/
  | fdbDelete (dt : Nat)
  /-- FDB_FLUSH (R369): FDB_CTL GO with OP flush removes every dynamic entry. -/
  | fdbFlush (dt : Nat)
  /-- PORT_CONFIG_WRITE (R353): A write changing a port's PTP settings returns it to INITIALIZING or applies to later computations. -/
  | portConfigWrite (dt p r al data : Nat)
  /-- CLK_CFG_WRITE (R353): A write changing PROFILE or DOMAIN returns every port to INITIALIZING. -/
  | clkCfgWrite (dt al data : Nat)
  /-- PTP_TEST_GO (R371): PTP.TEST.GO loops a port internally and measures its loop delay while PTP is isolated. -/
  | ptpTestGo (dt al data : Nat)
  /-- PTP_TEST_DONE (R371): The loopback test ends and reports ERR and PASS. -/
  | ptpTestDone (dt : Nat) (err : Int)
  /-- POLL (R381): A POLL frame reaches a partner, which answers with PRES or IDENT. -/
  | pollCmd (dt k : Nat) (f : CrlFrame)
  /-- PRES (R382): A PRES frame reaches the controller, keeping or restoring PRESENT. -/
  | presCmd (dt k : Nat) (f : CrlFrame)
  /-- HELLO (R381): A HELLO frame reaches a partner, which answers with IDENT. -/
  | helloCmd (dt k : Nat) (f : CrlFrame)
  /-- IDENT (R382): An IDENT frame reaches the controller and starts negotiation or records an identity change. -/
  | identCmd (dt k : Nat) (f : CrlFrame)
  /-- NEG (R384): A NEG frame offers versions to a partner, which answers NEG_ACK. -/
  | negCmd (dt k : Nat) (f : CrlFrame)
  /-- NEG_ACK (R384): A NEG_ACK is checked and the controller confirms or rejects the partner. -/
  | negAck (dt k : Nat) (f : CrlFrame)
  /-- NEG_CFM (R384): A NEG_CFM reaches a partner, which answers NEG_DONE or NAK. -/
  | negCfm (dt k : Nat) (f : CrlFrame)
  /-- NEG_DONE (R384): A NEG_DONE completes negotiation and the partner enters PRESENT or REJECTED. -/
  | negDone (dt k : Nat) (f : CrlFrame)
  /-- READ (R401): A Courier READ reaches a partner-role link and is answered with DATA or NAK. -/
  | readCmd (dt k : Nat) (f : CrlFrame)
  /-- DATA (R401): A DATA response completes a READ and enters the inbound letterbox. -/
  | dataCmd (dt k : Nat) (f : CrlFrame)
  /-- WRITE (R401): A Courier WRITE reaches a partner-role link and is carried out and acknowledged. -/
  | writeCmd (dt k : Nat) (f : CrlFrame)
  /-- ACK (R377): An ACK completes a WRITE, SWITCH, COMMIT or CANCEL transaction. -/
  | ackCmd (dt k : Nat) (f : CrlFrame)
  /-- EVT_GET (R386): An EVT_GET acknowledges an event and asks the partner for the next one. -/
  | evtGet (dt k : Nat) (f : CrlFrame)
  /-- EVT (R386): An EVT frame delivers a partner event to SCH or the inbound letterbox. -/
  | evtCmd (dt k : Nat) (f : CrlFrame)
  /-- SWITCH (R385): A SWITCH frame schedules a timed action on a partner's channel. -/
  | switchCmd (dt k : Nat) (f : CrlFrame)
  /-- ARM (R385): An ARM frame arms a partner target for a registered command. -/
  | armCmd (dt k : Nat) (f : CrlFrame)
  /-- ARM_RSP (R327): An ARM_RSP reports a target armed or refused to the controller. -/
  | armRsp (dt k : Nat) (f : CrlFrame)
  /-- COMMIT (R328): A Courier COMMIT makes an armed partner target fire at T_f. -/
  | commitCmd (dt k : Nat) (f : CrlFrame)
  /-- CANCEL (R328): A Courier CANCEL disarms a partner target. -/
  | cancelCmd (dt k : Nat) (f : CrlFrame)
  /-- ARM_EXPIRY (R328): An armed partner target reaches T_f with neither commit nor cancel, disarms and reports NO_COMMIT. -/
  | armExpiry (k : Nat)
  /-- TT_REQ (R395): A TT_REQ reaches a partner, which stamps t2 and schedules its TT_RESP launch. -/
  | ttReq (dt k : Nat) (f : CrlFrame)
  /-- TT_RESP_LAUNCH (R395): At its fixed launch instant the partner sends TT_RESP with t2 and t3. -/
  | ttRespLaunch (k : Nat)
  /-- TT_RESP (R395): A TT_RESP reaches the controller, which records t4 and d_raw and sends TT_FUP. -/
  | ttResp (dt k : Nat) (f : CrlFrame)
  /-- TT_FUP (R398): A TT_FUP reaches the partner, which computes the slot 28 sample. -/
  | ttFup (dt k : Nat) (f : CrlFrame)
  /-- NAK (R377): A NAK response reports a refused request. -/
  | nakCmd (dt k : Nat) (f : CrlFrame)
  /-- RESPONSE_TIMEOUT (R378): RESP_TO passes without an accepted response; NORESP is counted and the request retried. -/
  | responseTimeout (k : Nat)
  /-- ROUND_START (R381): A round starts on a controller-role link, polling and probing addresses. -/
  | roundStart (k : Nat)
  /-- BUS_FREE (R379): The bus becomes free and the link engine sends the head of the best class. -/
  | busFree (dt k : Nat)
  /-- PR_EXPIRY (R388): A held transaction reaches PR_LIFE and goes to the dead-letter queue. -/
  | prExpiry (k a : Nat)
  /-- SESSION_TIMEOUT (R401): A partner-role link receives no addressed frame for RPER ms and its session ends. -/
  | sessionTimeout (k : Nat)
  /-- TT_EXCHANGE_DUE (R394): A time-transfer exchange falls due for a served cascade partner. -/
  | ttExchangeDue (k a : Nat)
  /-- CASCADE_TIMEOUT (R399): 2.5 s pass without an accepted exchange and slot 28 is no longer valid from that link. -/
  | cascadeTimeout (k : Nat)
  /-- CAL_START (R400): P_CTL.CAL_START starts a cable-delay calibration run. -/
  | calStart (dt : Nat)
  /-- CAL_EXCHANGE_DUE (R400): Each 1 ms of a calibration run an extra exchange falls due. -/
  | calExchangeDue (k a : Nat)
  /-- CAL_TIMEOUT (R400): 2 s pass before 1024 calibration exchanges complete and the run fails. -/
  | calTimeout (k a : Nat)
  /-- RENEG (R382): P_CTL.RENEG returns a REJECTED partner to NEGOTIATE. -/
  | renegCmd (dt : Nat)
  /-- FORGET (R382): P_CTL.FORGET makes the address VACANT and dead-letters its held transactions. -/
  | forgetCmd (dt : Nat)
  /-- LINK_CONFIG_WRITE (R382): A write clearing EN or changing ROLE of a link makes its addresses VACANT. -/
  | linkConfigWrite (dt k r al data : Nat)
  /-- LBO_DATA_WRITE (R405): A write of CRL.LBO_DATA stages the next outbound payload word. -/
  | lboDataWrite (dt data : Nat)
  /-- POST (R402): LBO_CTL.POST enters the staged READ or WRITE in the pool, or is refused. -/
  | postCmd (dt : Nat)
  /-- DISCARD (R405): LBO_CTL.DISCARD clears the staged words. -/
  | discardCmd (dt : Nat)
  /-- TSQ_FLUSH (R405): CRL.CTL.TSQ_FLUSH flushes a link's timestamp queue. -/
  | tsqFlush (dt k : Nat)
  /-- TSQ_POP (R405): CRL.CTL.TSQ_POP pops a link's timestamp-queue head. -/
  | tsqPop (dt k : Nat)
  /-- DLQ_RESEND (R389): CRL.CTL.DLQ_RESEND posts the dead-letter head again and pops it. -/
  | dlqResend (dt : Nat)
  /-- DLQ_POP (R405): CRL.CTL.DLQ_POP pops the dead-letter head. -/
  | dlqPop (dt : Nat)
  /-- LBI_POP (R405): CRL.CTL.LBI_POP pops the inbound letterbox head. -/
  | lbiPop (dt : Nat)
  /-- CRL_TEST_GO (R405): CRL.TEST.GO starts a link loopback test while CRL is isolated. -/
  | crlTestGo (dt al data : Nat)
  /-- CRL_TEST_DONE (R405): A link loopback test ends and reports PASS and LOOP. -/
  | crlTestDone (dt : Nat) (ok : Bool) (loop : Nat)
  /-- POWER_FAIL_WARNING (R491): VMAIN_SENSE stays below 1.200 V for 2 µs; the warning rises, raises source 3 and may start a save and shed the lanes. -/
  | powerFailWarning (at_ : SupplyFor)
  /-- POWER_FAIL_CLEAR (R491): VMAIN_SENSE stays above 1.240 V for 1 ms and the warning falls. -/
  | powerFailClear (at_ : SupplyFor)
  /-- PERIODIC_SAVE (R417): A whole multiple of 2^PERIOD s arrives and a save of cause 2 starts. -/
  | periodicSave
  /-- SAVE (R417): NVM.CTL.SAVE starts a save of cause 3. -/
  | saveCmd (dt : Nat)
  /-- SAVE_DONE (R418): A save finishes programming its ring slot, and any flush, and updates SLOT and SEQ. -/
  | saveDone (dt : Nat) (ok : Bool)
  /-- PAGE_PROGRAM_DONE (R411): An MRAM page program completes its verify, retrying once and reporting failure if needed. -/
  | pageProgramDone (dt : Nat) (ok : Bool)
  /-- WRITE_BACK_OFFER (R413): A requester offers a write-back item again when a place in the queue frees. -/
  | writeBackOffer (dt : Nat)
  /-- PB_PROG (R412): NVM.CTL.PB_PROG programs the marked page-buffer bytes into a host-area page. -/
  | pbProg (dt : Nat)
  /-- PB_CLR (R424): NVM.CTL.PB_CLR clears the page buffer and its marks. -/
  | pbClr (dt : Nat)
  /-- COUNTER_RAM_RESTORE (R420): After L0 the ring slots are read and the counter RAM is loaded, merged on a tie. -/
  | counterRamRestore (dt : Nat)
  /-- NVM_TEST_GO (R426): NVM.TEST.GO starts a march test over a page range while NVM is isolated. -/
  | nvmTestGo (dt al data : Nat)
  /-- NVM_TEST_DONE (R426): The march test ends, or is stopped by a save, and reports its result. -/
  | nvmTestDone (dt : Nat) (bad : Option Nat)
  /-- FUSE_PROGRAM (R434): A write of SEC.FUSE_CTL programs a staged fuse field, or is refused. -/
  | fuseProgram (dt key field : Nat)
  /-- FUSE_PROGRAM_DONE (R436): A fuse program's read-back ends, setting FUSE_DONE or FAIL. -/
  | fuseProgramDone (ok : Bool)
  /-- FUSE_LOCK_WRITE (R449): A write of 1 to SEC.LOCK.FUSE_LOCK sets the fuse lock. -/
  | fuseLockWrite (dt : Nat)
  /-- SLOT_LOCK_WRITE (R439): A write to SEC.SLOT_LOCK sets lock bits of key slots. -/
  | slotLockWrite (dt al data : Nat)
  /-- LOAD (R440): The SVC LOAD service unwraps a key into a slot. -/
  | loadCmd (dt key slot usage : Nat)
  /-- CLEAR (R440): The SVC CLEAR service zeroises a key slot. -/
  | clearCmd (dt key slot : Nat)
  /-- WRAP (R440): The SVC WRAP service wraps a staged key under the KEK. -/
  | wrapCmd (dt key : Nat)
  /-- SHA_256 (R440): The SVC SHA-256 service hashes the staged message. -/
  | sha256 (dt key len : Nat)
  /-- HMAC (R440): The SVC HMAC service tags the staged message under a host key. -/
  | hmacCmd (dt key slot len : Nat)
  /-- VERIFY (R440): The SVC VERIFY service checks an ECDSA P-256 signature. -/
  | verifyCmd (dt key : Nat)
  /-- SERVICE_DONE (R441): A SEC service completes, clears BUF and sets RESULT and SVC_DONE. -/
  | serviceDone (dt : Nat)
  /-- RNG_READ (R442): A read of SEC.RNG returns 32 bits from the DRBG. -/
  | rngRead (dt : Nat)
  /-- DRBG_RESEED (R442): After 2^20 requests or an hour the DRBG reseeds from the entropy source. -/
  | drbgReseed
  /-- RESEED (R442): SEC.CTL.RESEED reseeds the DRBG. -/
  | reseed (dt key : Nat)
  /-- SELFTEST (R443): SEC.CTL.SELFTEST reruns the self-tests on demand. -/
  | selftest (dt key : Nat)
  /-- SELFTEST_DONE (R443): The self-tests end; SEC becomes READY or enters ERROR. -/
  | selftestDone (dt code : Nat)
  /-- ZEROISE (R446): SEC.CTL.ZEROISE clears every slot, the KEK, the DRBG and the buffers. -/
  | zeroise (dt key : Nat)
  /-- ENTROPY_HEALTH_FAIL (R444): A conditional entropy test fails and SEC enters ERROR. -/
  | entropyHealthFail (dt : Nat) (proportion : Bool)
  /-- FAULT_FORCE (R471): A write to FLT.FORCEk raises the named sources once in the next cycle. -/
  | faultForce (dt k al data : Nat)
  /-- BLOCK_RESET_END (R473): A block reset ends and its settle window and check-bit test begin. -/
  | blockResetEnd (b : Nat)
  /-- SETTLE_WINDOW_END (R466): A block's settle window ends and QLEFT restarts. -/
  | settleWindowEnd (b : Nat)
  /-- QUIET_EXPIRY (R462): QLEFT reaches 0; the collector returns to NORMAL, ALIVE restarts and the recovery counter increases. -/
  | quietExpiry
  /-- CHKTEST (R472): FLT.CHKTEST.GO starts a check-bit test of a parity checker. -/
  | chktest (dt al data : Nat)
  /-- CHECK_BIT_TEST_END (R472): A check-bit test ends after 2 cycles, setting PASS or raising source 5. -/
  | checkBitTestEnd (fired : Bool)
  /-- STICKY_CLEAR_WRITE (R474): A write of 0 to FLT.STK or CSTK bits clears them and their instance masks. -/
  | stickyClearWrite (dt k al data : Nat)
  /-- RINST_WRITE (R474): A write of 0 to FLT.RINST clears instance bits of the selected source. -/
  | rinstWrite (dt al data : Nat)
  /-- PARITY_ERROR (R456): A parity, ECC or state check of a block's tables, queues, registers or the collector's own protected state fails and raises that block's parity fault source. -/
  | parityError (dt src j : Nat) (stored one : Bool)
  /-- FRAME_EGRESS (R344): A queued frame leaves a port at the PCS; the transmit timestamp unit stamps it, feeding the Follow_Up, the timestamp queue and the order of event messages. -/
  | frameEgress (dt p : Nat)
  /-- ALWAYS_ON_REFRESH (R6): Each 32.768 kHz edge refreshes the copies of the RWS registers that host reads return. -/
  | alwaysOnRefresh
  /-- BACKUP_OSCILLATOR_START (R253): The 32.768 kHz crystal oscillator starts, or restarts after failing, and RTC_STAT.RUN becomes 1. -/
  | backupOscillatorStart (dt : Nat)
  /-- QSPI_FRAME_ERROR (R519): A Quad-SPI frame with a command not listed, or one that ends before its address is complete, is ignored and raises the host access fault with cause 0x5. -/
  | qspiFrameError (dt : Nat)
  /-- APPLIED_WORD_RAMP_DONE (R210): A synthesiser's rate-limited applied word reaches the delivered word and WRATE_ACT clears. -/
  | appliedWordRampDone (k : Nat)
  deriving DecidableEq, Repr

end Sys2Proof
end

