-- ==== Sys2Proof/Decode.lean ====
section
/-! DEFINITION. The command that a word spells by the bits of spec/opcode_table.json. No row of the table gives bits: no word spells
a command. -/

namespace Sys2Proof

/-- the command of a word of nbits bits: none, since no row gives bits -/
def decodeTableWord (_nbits _w : Nat) : Option Instr := none

end Sys2Proof
end

