-- ==== Sys2Proof/Machine/Bits.lean ====
section
/-! DEFINITION. Bit fields, two's complement, rounding and saturation (R4, R10, R102), sparse tables in canonical
form, and total access to vectors. -/

namespace Sys2Proof.Machine

/-- bits [hi:lo] of w (R4) -/
def bitsOf (w hi lo : Nat) : Nat := (w >>> lo) % 2 ^ (hi + 1 - lo)

/-- bit i of w is 1 -/
def bitAt (w i : Nat) : Bool := Nat.testBit w i

/-- 1 for true, 0 for false -/
def b2n (b : Bool) : Nat := if b then 1 else 0

/-- w with bit i set -/
def setBit (w i : Nat) : Nat := w ||| (1 <<< i)

/-- w (of any width) with bit i cleared -/
def clrBit (w i : Nat) : Nat := if w.testBit i then w - 2 ^ i else w

/-- w with the bits of the mask m cleared -/
def clrMask (w m : Nat) : Nat := w ^^^ (w &&& m)

/-- the numbers below n whose bit is set in w, ascending -/
def bitList (n w : Nat) : List Nat := (List.range n).filter (fun i => w.testBit i)

/-- the signed value of a w-bit field (R10) -/
def sgn (w v : Nat) : Int := if v % 2 ^ w < 2 ^ (w - 1) then (v % 2 ^ w : Nat) else (v % 2 ^ w : Nat) - (2 ^ w : Nat)

/-- the w-bit two's complement of an integer (R10) -/
def uns (w : Nat) (i : Int) : Nat := (i % ((2 ^ w : Nat) : Int)).toNat

/-- i limited to -m .. m -/
def clampI (i m : Int) : Int := if i < -m then -m else if m < i then m else i

/-- saturation at ±(2^(w-1) - 1) (R102, R184) -/
def satS (w : Nat) (i : Int) : Int := clampI i ((2 ^ (w - 1) : Nat) - 1)

/-- a / b rounded to nearest, ties away from zero (R102); 0 for b = 0 -/
def roundDiv (a : Int) (b : Int) : Int :=
  if b = 0 then 0 else
  let n := a.natAbs; let d := b.natAbs
  let q : Int := ((2 * n + d) / (2 * d) : Nat)
  if (a < 0) = (b < 0) then q else -q

/-- the natural-number quotient rounded to nearest, ties up -/
def roundDivN (a b : Nat) : Nat := if b = 0 then 0 else (2 * a + b) / (2 * b)

/-- a / b rounded up; 0 for b = 0 -/
def ceilDiv (a b : Nat) : Nat := if b = 0 then 0 else (a + b - 1) / b

/-- v limited to lo .. hi -/
def clampN (lo hi v : Nat) : Nat := if v < lo then lo else if hi < v then hi else v

/-- v, with 0 acting as d -/
def orElse0 (v d : Nat) : Nat := if v = 0 then d else v

/-- x + 1 up to a ceiling (R155 and every saturating counter) -/
def satInc (x top : Nat) : Nat := if x < top then x + 1 else top

/-- the largest r with r * r ≤ n (structural: one bit of r per round) -/
def sqrtBits : Nat → Nat → Nat → Nat
  | 0, _, r => r
  | k + 1, n, r => let r' := r + 2 ^ k; sqrtBits k n (if r' * r' ≤ n then r' else r)

/-- ⌊√(a / b)⌋ rounded to the nearest integer, the root being exact before rounding (R151) -/
def roundSqrtDiv (a b : Nat) : Nat :=
  if b = 0 then 0 else (sqrtBits 130 (4 * a / b) 0 + 1) / 2

/-- the base-2 logarithm rounded down, 0 for 0 -/
def log2f (n : Nat) : Nat := Nat.log2 n

/-! Sparse tables: (key, value) pairs with rising keys and no entry equal to its default. -/

/-- a sparse table of numbers by key -/
abbrev Tab := List (Nat × Nat)

/-- the entry at key k, d where none is listed -/
def tabGet (t : Tab) (k d : Nat) : Nat :=
  match t with
  | [] => d
  | (a, v) :: r => if a = k then v else tabGet r k d

/-- the table with the entry of key k removed -/
def tabDel (t : Tab) (k : Nat) : Tab :=
  match t with
  | [] => []
  | (a, v) :: r => if a = k then tabDel r k else (a, v) :: tabDel r k

/-- the table with v inserted at key k, keys rising -/
def tabIns (t : Tab) (k v : Nat) : Tab :=
  match t with
  | [] => [(k, v)]
  | (a, w) :: r => if k < a then (k, v) :: (a, w) :: r else if a = k then (k, v) :: r else (a, w) :: tabIns r k v

/-- the table with v at key k, where an unlisted key reads d: listing the default removes the entry -/
def tabPut (t : Tab) (k v d : Nat) : Tab := if v = d then tabDel t k else tabIns t k v

/-- the table without the entries whose key satisfies p -/
def tabErase (t : Tab) (p : Nat → Bool) : Tab := t.filter (fun e => !p e.1)

/-- keys rise strictly from above lo and no entry equals its default -/
def tabWf (d : Nat → Nat) (lo : Nat) (t : Tab) : Bool :=
  match t with
  | [] => true
  | (a, v) :: r => decide (lo ≤ a) && decide (v ≠ d a) && tabWf d (a + 1) r

/-! Total access to vectors. -/

/-- element i of v, the default value outside it -/
def ix {α : Type} [Inhabited α] {n : Nat} (v : Vector α n) (i : Nat) : α := if h : i < n then v[i] else default

/-- v with element i changed by f; unchanged for i outside it -/
def upd {α : Type} {n : Nat} (v : Vector α n) (i : Nat) (f : α → α) : Vector α n :=
  if h : i < n then v.set i (f v[i]) h else v

/-- v with x at i -/
def vset {α : Type} {n : Nat} (v : Vector α n) (i : Nat) (x : α) : Vector α n := upd v i (fun _ => x)

/-- the list with x at position i replaced by f x -/
def lupd {α : Type} (l : List α) (i : Nat) (f : α → α) : List α :=
  match l, i with
  | [], _ => []
  | a :: r, 0 => f a :: r
  | a :: r, i + 1 => a :: lupd r i f

/-- a number's little-endian bytes -/
def leBytes : Nat → Nat → List Byte
  | 0, _ => []
  | k + 1, v => BitVec.ofNat 8 v :: leBytes k (v / 256)

/-- the number a little-endian byte list spells -/
def leNat : List Byte → Nat
  | [] => 0
  | b :: r => b.toNat + 256 * leNat r

/-- a register field: word address and bits [hi:lo] -/
structure Fld where
  addr : Nat
  hi : Nat
  lo : Nat
  deriving DecidableEq, Repr

/-- the key of a field in the register file: one per (word address, low bit) -/
def fldKey (f : Fld) : Nat := f.addr * 8 + f.lo

/-- the number of bits of a field -/
def fldWidth (f : Fld) : Nat := f.hi + 1 - f.lo

end Sys2Proof.Machine
end

