-- ==== Sys2Proof/Machine/RegMap.lean ====
section
/-! DEFINITION. The register MAP as the host port sees it: for each register of each block its address, its
repetition, the whole-word mark (R5) and its fields with their access codes (R6), from the register tables of spec/;
and the nonzero reset values of the Reset columns (R7). -/

namespace Sys2Proof.Machine

/-- one register (or bank of registers) of a block: base address, count and stride of the bank, words per entry and
their step, whether narrow writes are refused (R503), and (hi, lo, access) of each field that is not reserved;
access 0 RO, 1 RW, 2 RC, 3 WO, 4 RWL, 5 RWS (R6) -/
structure RegRow where
  base : Nat
  count : Nat
  stride : Nat
  inner : Nat
  istep : Nat
  whole : Bool
  flds : List (Nat × Nat × Nat)
  deriving DecidableEq, Repr

def regRowsGEN0 : List RegRow :=
  [⟨0x0, 1, 0x0, 1, 4, false, [(31, 16, 0), (15, 12, 0), (11, 8, 0), (7, 0, 0)]⟩,
   ⟨0x4, 1, 0x0, 1, 4, false, [(7, 5, 0), (4, 4, 0), (3, 3, 0), (2, 2, 0), (1, 1, 0), (0, 0, 0)]⟩,
   ⟨0x8, 1, 0x0, 1, 4, false, [(7, 7, 4), (6, 6, 1), (5, 5, 1), (4, 4, 1), (3, 3, 1), (2, 2, 1), (1, 1, 1), (0, 0, 1)]⟩,
   ⟨0xC, 1, 0x0, 1, 4, false, [(23, 16, 0), (9, 9, 2), (8, 8, 0), (7, 0, 0)]⟩,
   ⟨0x10, 1, 0x0, 1, 4, false, [(30, 20, 0), (14, 4, 1)]⟩,
   ⟨0x14, 1, 0x0, 1, 4, false, [(16, 16, 0), (15, 7, 0), (6, 6, 0), (5, 4, 0), (2, 2, 0), (0, 0, 2)]⟩,
   ⟨0x18, 1, 0x0, 1, 4, false, [(31, 0, 1)]⟩,
   ⟨0x1C, 1, 0x0, 1, 4, false, [(1, 1, 1), (0, 0, 1)]⟩,
   ⟨0x20, 1, 0x0, 1, 4, false, [(31, 31, 2), (30, 28, 2), (27, 24, 2), (23, 0, 2)]⟩,
   ⟨0x24, 1, 0x0, 1, 4, false, [(0, 0, 4)]⟩]

/-- the registers of block GEN -/
def regRowsGEN : List RegRow := regRowsGEN0

def regRowsRST0 : List RegRow :=
  [⟨0x100000, 1, 0x0, 1, 4, false, [(31, 31, 0), (17, 17, 5), (16, 12, 5), (11, 10, 5), (7, 5, 5), (2, 2, 5), (1, 1, 5), (0, 0, 5)]⟩,
   ⟨0x100004, 1, 0x0, 1, 4, false, [(4, 4, 0), (3, 2, 0), (1, 0, 0)]⟩,
   ⟨0x100008, 1, 0x0, 1, 4, false, [(5, 4, 0), (3, 2, 0), (1, 0, 0)]⟩]

/-- the registers of block RST -/
def regRowsRST : List RegRow := regRowsRST0

def regRowsFLT0 : List RegRow :=
  [⟨0x200000, 1, 0x0, 1, 4, false, [(31, 30, 0), (29, 29, 0), (28, 28, 0), (27, 27, 0), (26, 26, 0), (15, 0, 0)]⟩,
   ⟨0x200004, 1, 0x0, 1, 4, false, [(15, 0, 1)]⟩,
   ⟨0x200008, 1, 0x0, 1, 4, false, [(31, 31, 2), (30, 30, 2), (6, 0, 2)]⟩,
   ⟨0x20000C, 1, 0x0, 1, 4, false, [(15, 0, 0)]⟩,
   ⟨0x200010, 3, 0x4, 1, 4, false, [(31, 0, 1)]⟩,
   ⟨0x20001C, 3, 0x4, 1, 4, false, [(31, 0, 1)]⟩,
   ⟨0x200028, 3, 0x4, 1, 4, false, [(31, 0, 3)]⟩,
   ⟨0x200034, 1, 0x0, 1, 4, false, [(6, 0, 1)]⟩,
   ⟨0x200038, 1, 0x0, 1, 4, false, [(31, 31, 0), (4, 0, 1)]⟩,
   ⟨0x20003C, 1, 0x0, 1, 4, false, [(31, 0, 1)]⟩,
   ⟨0x200040, 1, 0x0, 1, 4, false, [(3, 0, 1)]⟩,
   ⟨0x200044, 1, 0x0, 1, 4, false, [(15, 0, 1)]⟩,
   ⟨0x200048, 3, 0x4, 1, 4, false, [(31, 0, 1)]⟩,
   ⟨0x200054, 1, 0x0, 1, 4, false, [(14, 4, 0)]⟩,
   ⟨0x200058, 1, 0x0, 1, 4, false, [(31, 31, 1), (6, 0, 1)]⟩,
   ⟨0x20005C, 1, 0x0, 1, 4, false, [(31, 31, 0), (30, 30, 0), (6, 0, 0)]⟩,
   ⟨0x200060, 1, 0x0, 1, 4, false, [(3, 3, 2), (2, 2, 2), (1, 1, 2), (0, 0, 2)]⟩,
   ⟨0x200064, 1, 0x0, 1, 4, false, [(31, 0, 1)]⟩]

/-- the registers of block FLT -/
def regRowsFLT : List RegRow := regRowsFLT0

def regRowsIMG0 : List RegRow :=
  [⟨0x300000, 1, 0x0, 1, 4, false, [(23, 20, 0), (19, 18, 0), (17, 17, 0), (16, 16, 0), (15, 15, 0), (14, 12, 0), (7, 4, 0), (3, 0, 0)]⟩,
   ⟨0x300004, 1, 0x0, 1, 4, true, [(31, 24, 3), (7, 7, 3), (6, 6, 3), (5, 5, 3), (4, 4, 3), (3, 3, 3), (2, 2, 3), (1, 1, 3)]⟩,
   ⟨0x300008, 1, 0x0, 1, 4, false, [(31, 24, 0), (23, 16, 0), (8, 8, 0), (7, 0, 0)]⟩,
   ⟨0x30000C, 1, 0x0, 1, 4, true, [(31, 0, 3)]⟩,
   ⟨0x300010, 1, 0x0, 1, 4, false, [(31, 0, 0)]⟩,
   ⟨0x300014, 1, 0x0, 1, 4, false, [(0, 0, 4)]⟩]

/-- the registers of block IMG -/
def regRowsIMG : List RegRow := regRowsIMG0

def regRowsREF0 : List RegRow :=
  [⟨0x400000, 16, 0x20, 1, 4, false, [(31, 31, 1), (30, 30, 1), (29, 29, 1), (27, 24, 1), (23, 0, 1)]⟩,
   ⟨0x400004, 16, 0x20, 1, 4, false, [(31, 0, 1)]⟩,
   ⟨0x400008, 16, 0x20, 1, 4, false, [(31, 24, 1), (23, 16, 1), (15, 8, 1), (7, 0, 1)]⟩,
   ⟨0x40000C, 16, 0x20, 1, 4, false, [(31, 28, 1), (27, 27, 1), (23, 0, 1)]⟩,
   ⟨0x400010, 16, 0x20, 1, 4, false, [(31, 16, 1), (15, 0, 1)]⟩,
   ⟨0x400014, 16, 0x20, 1, 4, false, [(31, 24, 0), (15, 15, 0), (14, 14, 0), (8, 8, 0), (7, 7, 0), (6, 6, 2), (5, 5, 2), (4, 4, 2), (1, 1, 0), (0, 0, 0)]⟩,
   ⟨0x400018, 16, 0x20, 1, 4, false, [(31, 0, 0)]⟩,
   ⟨0x40001C, 16, 0x20, 1, 4, false, [(31, 0, 0)]⟩,
   ⟨0x400200, 32, 0x8, 1, 4, false, [(31, 30, 1), (27, 24, 1), (15, 0, 1)]⟩,
   ⟨0x400204, 32, 0x8, 1, 4, false, [(31, 28, 0), (27, 24, 0), (23, 22, 0), (21, 21, 0), (15, 0, 0)]⟩,
   ⟨0x400300, 1, 0x0, 1, 4, false, [(31, 0, 0)]⟩,
   ⟨0x400304, 1, 0x0, 1, 4, false, [(31, 0, 2)]⟩,
   ⟨0x400308, 1, 0x0, 1, 4, false, [(31, 0, 1)]⟩,
   ⟨0x400310, 2, 0x10, 1, 4, false, [(31, 31, 1), (30, 30, 1), (29, 27, 1), (26, 25, 1), (23, 20, 1), (19, 16, 1), (15, 12, 1), (11, 8, 1), (7, 0, 1)]⟩,
   ⟨0x400314, 2, 0x10, 1, 4, false, [(31, 24, 2), (15, 12, 0), (11, 11, 0), (10, 10, 0), (7, 0, 0)]⟩,
   ⟨0x400318, 2, 0x10, 1, 4, false, [(31, 16, 0), (15, 8, 0), (7, 0, 0)]⟩,
   ⟨0x40031C, 2, 0x10, 1, 4, false, [(23, 16, 0), (15, 8, 0), (7, 0, 0)]⟩,
   ⟨0x400330, 1, 0x0, 1, 4, false, [(31, 30, 0), (29, 29, 0), (28, 28, 0), (27, 27, 2), (23, 12, 0), (11, 0, 1)]⟩,
   ⟨0x400334, 1, 0x0, 1, 4, false, [(3, 0, 1)]⟩]

/-- the registers of block REF -/
def regRowsREF : List RegRow := regRowsREF0

def regRowsPMU0 : List RegRow :=
  [⟨0x500000, 12, 0x80, 1, 4, false, [(31, 31, 1), (30, 28, 1), (27, 27, 1), (26, 26, 1), (25, 25, 1), (24, 24, 1), (23, 20, 1), (19, 16, 1), (9, 0, 1)]⟩,
   ⟨0x500004, 12, 0x80, 1, 4, false, [(31, 0, 1)]⟩,
   ⟨0x500008, 12, 0x80, 1, 4, false, [(31, 0, 1)]⟩,
   ⟨0x50000C, 12, 0x80, 1, 4, false, [(31, 0, 1)]⟩,
   ⟨0x500010, 12, 0x80, 1, 4, false, [(31, 0, 1)]⟩,
   ⟨0x500014, 12, 0x80, 1, 4, false, [(31, 0, 1)]⟩,
   ⟨0x500018, 12, 0x80, 1, 4, false, [(4, 4, 3), (3, 3, 3), (2, 2, 3), (1, 1, 3), (0, 0, 3)]⟩,
   ⟨0x50001C, 12, 0x80, 1, 4, false, [(31, 31, 0), (30, 29, 0), (28, 28, 0), (27, 26, 0)]⟩,
   ⟨0x500020, 12, 0x80, 4, 4, false, [(31, 0, 0)]⟩,
   ⟨0x500030, 12, 0x80, 1, 4, false, [(31, 16, 2), (13, 13, 2), (9, 0, 0)]⟩,
   ⟨0x500034, 12, 0x80, 1, 4, false, [(31, 16, 2), (13, 13, 2), (9, 0, 0)]⟩,
   ⟨0x500038, 12, 0x80, 1, 4, false, [(31, 31, 0), (30, 30, 0), (29, 29, 0), (23, 0, 0)]⟩,
   ⟨0x50003C, 12, 0x80, 1, 4, false, [(31, 16, 2), (15, 0, 2)]⟩,
   ⟨0x500040, 12, 0x80, 4, 4, false, [(31, 0, 0)]⟩,
   ⟨0x500050, 12, 0x80, 1, 4, false, [(31, 0, 0)]⟩,
   ⟨0x500054, 12, 0x80, 1, 4, false, [(31, 0, 0)]⟩,
   ⟨0x500058, 12, 0x80, 1, 4, false, [(31, 0, 0)]⟩,
   ⟨0x50005C, 12, 0x80, 1, 4, false, [(31, 0, 0)]⟩,
   ⟨0x500060, 12, 0x80, 1, 4, false, [(31, 0, 0)]⟩,
   ⟨0x500064, 12, 0x80, 1, 4, false, [(31, 0, 0)]⟩]

def regRowsPMU1 : List RegRow :=
  [⟨0x500068, 12, 0x80, 1, 4, false, [(31, 0, 0)]⟩,
   ⟨0x50006C, 12, 0x80, 1, 4, false, [(31, 0, 0)]⟩,
   ⟨0x500070, 12, 0x80, 1, 4, false, [(31, 0, 0)]⟩,
   ⟨0x500074, 12, 0x80, 1, 4, false, [(31, 0, 0)]⟩,
   ⟨0x500078, 12, 0x80, 1, 4, false, [(31, 0, 0)]⟩,
   ⟨0x50007C, 12, 0x80, 1, 4, false, [(31, 24, 0), (15, 0, 0)]⟩,
   ⟨0x500600, 1, 0x0, 1, 4, false, [(31, 16, 1)]⟩,
   ⟨0x500604, 1, 0x0, 1, 4, false, [(1, 1, 3), (0, 0, 3)]⟩,
   ⟨0x500608, 1, 0x0, 1, 4, false, [(25, 25, 2), (24, 24, 2), (23, 12, 2), (11, 0, 2)]⟩,
   ⟨0x50060C, 1, 0x0, 1, 4, false, [(31, 0, 1)]⟩,
   ⟨0x500610, 1, 0x0, 1, 4, false, [(31, 31, 1), (27, 24, 1), (11, 0, 1)]⟩,
   ⟨0x500614, 1, 0x0, 1, 4, false, [(31, 0, 0)]⟩,
   ⟨0x500618, 1, 0x0, 1, 4, false, [(19, 16, 1), (8, 0, 1)]⟩,
   ⟨0x50061C, 1, 0x0, 1, 4, false, [(20, 0, 0)]⟩,
   ⟨0x500640, 12, 0x4, 1, 4, false, [(31, 0, 0)]⟩,
   ⟨0x500700, 3, 0x40, 1, 4, false, [(31, 0, 0)]⟩,
   ⟨0x500704, 3, 0x40, 1, 4, false, [(31, 0, 0)]⟩,
   ⟨0x500708, 3, 0x40, 1, 4, false, [(31, 0, 0)]⟩,
   ⟨0x50070C, 3, 0x40, 1, 4, false, [(31, 0, 0)]⟩,
   ⟨0x500710, 3, 0x40, 1, 4, false, [(31, 0, 0)]⟩]

def regRowsPMU2 : List RegRow :=
  [⟨0x500714, 3, 0x40, 1, 4, false, [(31, 0, 0)]⟩,
   ⟨0x500718, 3, 0x40, 1, 4, false, [(31, 0, 0)]⟩,
   ⟨0x50071C, 3, 0x40, 1, 4, false, [(31, 0, 0)]⟩,
   ⟨0x500720, 3, 0x40, 1, 4, false, [(24, 0, 0)]⟩,
   ⟨0x500724, 3, 0x40, 1, 4, false, [(31, 0, 0)]⟩,
   ⟨0x500728, 3, 0x40, 1, 4, false, [(31, 24, 0), (15, 0, 0)]⟩]

/-- the registers of block PMU -/
def regRowsPMU : List RegRow := regRowsPMU0 ++ regRowsPMU1 ++ regRowsPMU2

def regRowsSEL0 : List RegRow :=
  [⟨0x600000, 8, 0x40, 1, 4, false, [(31, 30, 1), (29, 29, 1), (28, 28, 1), (27, 24, 1), (20, 16, 1)]⟩,
   ⟨0x600004, 8, 0x40, 1, 4, false, [(31, 0, 1)]⟩,
   ⟨0x600008, 8, 0x40, 4, 4, false, [(31, 0, 1)]⟩,
   ⟨0x600018, 8, 0x40, 1, 4, false, [(31, 16, 1), (15, 0, 1)]⟩,
   ⟨0x60001C, 8, 0x40, 1, 4, false, [(31, 24, 1), (15, 0, 1)]⟩,
   ⟨0x600020, 8, 0x40, 1, 4, false, [(23, 0, 1)]⟩,
   ⟨0x600024, 8, 0x40, 1, 4, false, [(2, 2, 3), (1, 1, 3), (0, 0, 3)]⟩,
   ⟨0x600028, 8, 0x40, 1, 4, false, [(31, 27, 0), (26, 26, 0), (25, 21, 0), (20, 18, 0), (17, 14, 0), (13, 13, 0), (12, 12, 0), (11, 8, 0), (7, 4, 0)]⟩,
   ⟨0x60002C, 8, 0x40, 1, 4, false, [(5, 5, 2), (4, 4, 2), (3, 3, 2), (2, 2, 2), (1, 1, 2), (0, 0, 2)]⟩,
   ⟨0x600030, 8, 0x40, 1, 4, false, [(31, 0, 1)]⟩,
   ⟨0x600034, 8, 0x40, 1, 4, false, [(31, 0, 0)]⟩,
   ⟨0x600038, 8, 0x40, 1, 4, false, [(31, 0, 0)]⟩,
   ⟨0x60003C, 8, 0x40, 1, 4, false, [(31, 27, 0), (26, 22, 0), (21, 17, 0), (16, 16, 0), (15, 12, 0)]⟩,
   ⟨0x600200, 1, 0x0, 1, 4, false, [(3, 0, 1)]⟩,
   ⟨0x600204, 1, 0x0, 1, 4, false, [(4, 0, 1)]⟩,
   ⟨0x600208, 1, 0x0, 1, 4, false, [(31, 0, 0)]⟩,
   ⟨0x60020C, 1, 0x0, 1, 4, false, [(31, 31, 0), (15, 0, 0)]⟩,
   ⟨0x600210, 1, 0x0, 1, 4, false, [(7, 0, 0)]⟩,
   ⟨0x600400, 8, 0x80, 1, 4, false, [(31, 26, 1), (25, 20, 1), (19, 19, 1), (18, 17, 1), (15, 0, 1)]⟩,
   ⟨0x600404, 8, 0x80, 1, 4, false, [(23, 0, 1)]⟩]

def regRowsSEL1 : List RegRow :=
  [⟨0x600408, 8, 0x80, 1, 4, false, [(31, 16, 1), (15, 8, 1)]⟩,
   ⟨0x60040C, 8, 0x80, 1, 4, false, [(23, 0, 1)]⟩,
   ⟨0x600410, 8, 0x80, 1, 4, false, [(31, 28, 1), (27, 24, 1), (23, 22, 1), (21, 21, 1), (20, 20, 1), (15, 0, 1)]⟩,
   ⟨0x600414, 8, 0x80, 1, 4, false, [(31, 16, 1), (15, 0, 1)]⟩,
   ⟨0x600418, 8, 0x80, 1, 4, false, [(31, 0, 1)]⟩,
   ⟨0x60041C, 8, 0x80, 1, 4, false, [(15, 0, 1)]⟩,
   ⟨0x600420, 8, 0x80, 1, 4, false, [(31, 0, 1)]⟩,
   ⟨0x600424, 8, 0x80, 1, 4, true, [(31, 30, 1), (15, 0, 1)]⟩,
   ⟨0x600428, 8, 0x80, 1, 4, false, [(15, 0, 1)]⟩,
   ⟨0x60042C, 8, 0x80, 1, 4, false, [(31, 0, 1)]⟩,
   ⟨0x600430, 8, 0x80, 1, 4, false, [(15, 0, 1)]⟩,
   ⟨0x600434, 8, 0x80, 1, 4, false, [(1, 1, 3), (0, 0, 3)]⟩,
   ⟨0x600438, 8, 0x80, 1, 4, false, [(31, 30, 0), (29, 29, 0), (28, 28, 0), (27, 27, 0), (26, 26, 0), (25, 25, 0), (24, 24, 0), (23, 23, 0), (22, 22, 0), (21, 21, 0), (20, 20, 0), (19, 16, 0), (15, 0, 0)]⟩,
   ⟨0x60043C, 8, 0x80, 1, 4, false, [(6, 6, 2), (5, 5, 2), (4, 4, 2), (3, 3, 2), (2, 2, 2), (1, 1, 2), (0, 0, 2)]⟩,
   ⟨0x600440, 8, 0x80, 1, 4, false, [(31, 0, 1)]⟩,
   ⟨0x600444, 8, 0x80, 1, 4, false, [(31, 0, 0)]⟩,
   ⟨0x600448, 8, 0x80, 1, 4, false, [(31, 0, 0)]⟩,
   ⟨0x60044C, 8, 0x80, 1, 4, false, [(31, 0, 0)]⟩,
   ⟨0x600450, 8, 0x80, 1, 4, false, [(31, 0, 0)]⟩,
   ⟨0x600454, 8, 0x80, 1, 4, false, [(31, 31, 0), (15, 0, 0)]⟩]

def regRowsSEL2 : List RegRow :=
  [⟨0x600458, 8, 0x80, 1, 4, false, [(31, 0, 0)]⟩,
   ⟨0x60045C, 8, 0x80, 1, 4, false, [(31, 0, 0)]⟩,
   ⟨0x600460, 8, 0x80, 1, 4, false, [(31, 0, 0)]⟩,
   ⟨0x600464, 8, 0x80, 1, 4, false, [(31, 0, 0)]⟩,
   ⟨0x600468, 8, 0x80, 1, 4, false, [(31, 0, 0)]⟩,
   ⟨0x60046C, 8, 0x80, 1, 4, false, [(31, 0, 0)]⟩,
   ⟨0x600470, 8, 0x80, 1, 4, false, [(31, 0, 0)]⟩,
   ⟨0x600474, 8, 0x80, 1, 4, false, [(31, 0, 0)]⟩,
   ⟨0x600478, 8, 0x80, 1, 4, false, [(31, 21, 0), (20, 16, 0), (15, 0, 0)]⟩,
   ⟨0x60047C, 8, 0x80, 1, 4, false, [(31, 16, 0), (15, 0, 0)]⟩,
   ⟨0x600800, 1, 0x0, 1, 4, false, [(31, 31, 0), (17, 0, 0)]⟩,
   ⟨0x600804, 1, 0x0, 1, 4, false, [(7, 0, 0)]⟩]

/-- the registers of block SEL -/
def regRowsSEL : List RegRow := regRowsSEL0 ++ regRowsSEL1 ++ regRowsSEL2

def regRowsSYN0 : List RegRow :=
  [⟨0x700000, 4, 0x40, 1, 4, false, [(31, 31, 1), (30, 30, 1), (15, 0, 1)]⟩,
   ⟨0x700004, 4, 0x40, 1, 4, false, [(31, 30, 1), (10, 0, 1)]⟩,
   ⟨0x700008, 4, 0x40, 1, 4, false, [(31, 0, 1)]⟩,
   ⟨0x70000C, 4, 0x40, 1, 4, false, [(7, 0, 1)]⟩,
   ⟨0x700010, 4, 0x40, 1, 4, false, [(31, 0, 1)]⟩,
   ⟨0x700014, 4, 0x40, 1, 4, false, [(7, 0, 1)]⟩,
   ⟨0x700018, 4, 0x40, 1, 4, false, [(15, 0, 1)]⟩,
   ⟨0x70001C, 4, 0x40, 1, 4, false, [(1, 1, 3), (0, 0, 3)]⟩,
   ⟨0x700020, 4, 0x40, 1, 4, false, [(31, 29, 0), (28, 21, 0), (20, 20, 0), (19, 19, 0), (18, 18, 0), (15, 0, 0)]⟩,
   ⟨0x700024, 4, 0x40, 1, 4, false, [(5, 5, 2), (4, 4, 2), (3, 3, 2), (2, 2, 2), (1, 1, 2), (0, 0, 2)]⟩,
   ⟨0x700028, 4, 0x40, 1, 4, false, [(31, 0, 1)]⟩,
   ⟨0x700100, 1, 0x0, 1, 4, false, [(31, 29, 0), (28, 21, 0), (15, 0, 0)]⟩,
   ⟨0x700180, 1, 0x0, 1, 4, true, [(31, 16, 3), (2, 2, 3), (1, 0, 3)]⟩,
   ⟨0x700184, 1, 0x0, 1, 4, false, [(0, 0, 0)]⟩,
   ⟨0x700188, 1, 0x0, 1, 4, false, [(31, 31, 1), (1, 0, 1)]⟩,
   ⟨0x70018C, 1, 0x0, 1, 4, false, [(31, 31, 0), (30, 30, 0), (23, 16, 0), (15, 0, 0)]⟩,
   ⟨0x700190, 1, 0x0, 1, 4, false, [(4, 4, 0), (3, 0, 0)]⟩,
   ⟨0x700400, 16, 0x20, 1, 4, false, [(31, 31, 1), (30, 30, 1), (29, 28, 1), (27, 26, 1), (25, 25, 1)]⟩,
   ⟨0x700404, 16, 0x20, 1, 4, false, [(31, 0, 1)]⟩,
   ⟨0x700408, 16, 0x20, 1, 4, false, [(31, 31, 1), (29, 28, 1), (3, 0, 1)]⟩]

def regRowsSYN1 : List RegRow :=
  [⟨0x70040C, 16, 0x20, 1, 4, false, [(31, 0, 1)]⟩,
   ⟨0x700410, 16, 0x20, 1, 4, false, [(9, 0, 1)]⟩,
   ⟨0x700414, 16, 0x20, 1, 4, false, [(31, 0, 1)]⟩,
   ⟨0x700418, 16, 0x20, 1, 4, false, [(31, 30, 0), (29, 28, 0), (27, 27, 0), (26, 26, 0), (25, 25, 0), (24, 22, 0)]⟩]

/-- the registers of block SYN -/
def regRowsSYN : List RegRow := regRowsSYN0 ++ regRowsSYN1

def regRowsTKP0 : List RegRow :=
  [⟨0x800000, 1, 0x0, 1, 4, false, [(31, 30, 1), (29, 26, 1), (15, 0, 1)]⟩,
   ⟨0x800004, 1, 0x0, 1, 4, false, [(31, 31, 0), (30, 28, 0), (27, 27, 0), (26, 26, 0), (25, 24, 0), (23, 23, 0), (22, 21, 0), (20, 20, 0), (19, 19, 0), (15, 8, 0)]⟩,
   ⟨0x800008, 1, 0x0, 1, 4, false, [(4, 4, 3), (3, 3, 3), (2, 2, 3), (1, 1, 3), (0, 0, 3)]⟩,
   ⟨0x80000C, 1, 0x0, 1, 4, false, [(5, 5, 2), (4, 4, 2), (3, 3, 2), (2, 2, 2), (1, 1, 2), (0, 0, 2)]⟩,
   ⟨0x800010, 1, 0x0, 1, 4, false, [(31, 0, 1)]⟩,
   ⟨0x800014, 1, 0x0, 1, 4, false, [(15, 0, 0)]⟩,
   ⟨0x800018, 1, 0x0, 1, 4, false, [(29, 0, 0)]⟩,
   ⟨0x80001C, 1, 0x0, 1, 4, false, [(31, 0, 0)]⟩,
   ⟨0x800020, 1, 0x0, 1, 4, false, [(15, 0, 0)]⟩,
   ⟨0x800024, 1, 0x0, 1, 4, false, [(31, 16, 0), (15, 8, 0), (7, 0, 0)]⟩,
   ⟨0x800028, 1, 0x0, 1, 4, false, [(31, 24, 0), (23, 16, 0), (15, 8, 0), (7, 0, 0)]⟩,
   ⟨0x80002C, 1, 0x0, 1, 4, false, [(31, 16, 0), (15, 8, 0), (7, 0, 0)]⟩,
   ⟨0x800030, 1, 0x0, 1, 4, false, [(31, 24, 0), (23, 16, 0), (15, 8, 0), (7, 0, 0)]⟩,
   ⟨0x800034, 1, 0x0, 1, 4, false, [(29, 0, 1)]⟩,
   ⟨0x800038, 1, 0x0, 1, 4, false, [(31, 0, 1)]⟩,
   ⟨0x80003C, 1, 0x0, 1, 4, false, [(15, 0, 1)]⟩,
   ⟨0x800040, 1, 0x0, 1, 4, false, [(31, 0, 1)]⟩,
   ⟨0x800044, 1, 0x0, 1, 4, true, [(15, 0, 1)]⟩,
   ⟨0x800048, 1, 0x0, 1, 4, false, [(31, 24, 1), (23, 23, 1), (22, 22, 1), (21, 21, 1)]⟩,
   ⟨0x80004C, 1, 0x0, 1, 4, false, [(31, 30, 1), (23, 16, 1), (11, 8, 1)]⟩]

def regRowsTKP1 : List RegRow :=
  [⟨0x800050, 2, 0x4, 1, 4, false, [(31, 31, 1), (30, 28, 1), (27, 26, 1), (25, 16, 1), (15, 0, 1)]⟩,
   ⟨0x800058, 1, 0x0, 1, 4, false, [(31, 31, 1), (30, 30, 1), (29, 29, 1), (28, 27, 1), (26, 24, 1), (15, 0, 1)]⟩,
   ⟨0x80005C, 1, 0x0, 1, 4, false, [(31, 31, 0), (30, 28, 0), (27, 24, 0), (23, 23, 0), (22, 22, 0), (21, 21, 0), (20, 20, 0), (15, 8, 2)]⟩,
   ⟨0x800060, 1, 0x0, 1, 4, false, [(31, 31, 1), (30, 28, 1), (27, 26, 1), (25, 25, 1)]⟩,
   ⟨0x800080, 1, 0x0, 1, 4, false, [(31, 31, 0), (30, 30, 5), (23, 16, 5), (15, 0, 5)]⟩,
   ⟨0x800084, 1, 0x0, 1, 4, false, [(31, 31, 5), (30, 30, 5), (29, 29, 5), (28, 28, 5), (27, 27, 5)]⟩,
   ⟨0x800088, 1, 0x0, 1, 4, false, [(31, 0, 5)]⟩,
   ⟨0x80008C, 1, 0x0, 1, 4, false, [(31, 16, 5), (14, 0, 5)]⟩,
   ⟨0x800100, 32, 0x8, 1, 4, false, [(31, 0, 1)]⟩,
   ⟨0x800104, 32, 0x8, 1, 4, false, [(31, 31, 1), (30, 30, 1), (15, 0, 1)]⟩]

/-- the registers of block TKP -/
def regRowsTKP : List RegRow := regRowsTKP0 ++ regRowsTKP1

def regRowsMNS0 : List RegRow :=
  [⟨0x900000, 6, 0x20, 1, 4, false, [(31, 31, 1), (30, 30, 1), (29, 28, 1), (27, 22, 1), (21, 16, 1), (15, 8, 1), (7, 0, 1)]⟩,
   ⟨0x900004, 6, 0x20, 1, 4, false, [(31, 16, 1), (15, 0, 1)]⟩,
   ⟨0x900008, 6, 0x20, 1, 4, false, [(31, 0, 1)]⟩,
   ⟨0x90000C, 6, 0x20, 1, 4, false, [(31, 29, 0), (28, 28, 0), (27, 27, 0), (26, 26, 0), (25, 25, 0)]⟩,
   ⟨0x900010, 6, 0x20, 1, 4, false, [(31, 0, 0)]⟩,
   ⟨0x900014, 6, 0x20, 1, 4, false, [(31, 0, 0)]⟩,
   ⟨0x900018, 6, 0x20, 1, 4, false, [(31, 16, 0), (15, 0, 0)]⟩,
   ⟨0x90001C, 6, 0x20, 1, 4, false, [(31, 0, 0)]⟩,
   ⟨0x900100, 1, 0x0, 1, 4, false, [(31, 31, 1), (30, 30, 1), (29, 29, 1), (23, 16, 1), (15, 0, 1)]⟩,
   ⟨0x900104, 1, 0x0, 1, 4, false, [(31, 30, 0), (29, 28, 0)]⟩,
   ⟨0x900108, 1, 0x0, 1, 4, false, [(31, 31, 1), (30, 30, 1), (26, 24, 1), (22, 20, 1)]⟩,
   ⟨0x90010C, 1, 0x0, 1, 4, false, [(31, 31, 0), (30, 30, 0), (29, 29, 0), (28, 28, 0), (27, 27, 0), (26, 26, 0), (23, 21, 0)]⟩,
   ⟨0x900110, 1, 0x0, 1, 4, false, [(31, 0, 0)]⟩,
   ⟨0x900114, 1, 0x0, 1, 4, false, [(31, 0, 0)]⟩,
   ⟨0x900118, 1, 0x0, 1, 4, false, [(31, 0, 0)]⟩,
   ⟨0x90011C, 1, 0x0, 1, 4, false, [(31, 0, 0)]⟩,
   ⟨0x900120, 1, 0x0, 1, 4, false, [(31, 0, 0)]⟩,
   ⟨0x900124, 1, 0x0, 1, 4, false, [(3, 3, 3), (2, 2, 3), (1, 1, 3), (0, 0, 3)]⟩,
   ⟨0x900128, 1, 0x0, 1, 4, false, [(21, 16, 2), (13, 8, 2), (5, 5, 2), (4, 4, 2), (3, 3, 2), (2, 2, 2)]⟩,
   ⟨0x90012C, 1, 0x0, 1, 4, false, [(31, 0, 1)]⟩]

def regRowsMNS1 : List RegRow :=
  [⟨0x900130, 1, 0x0, 1, 4, false, [(29, 0, 0)]⟩,
   ⟨0x900134, 1, 0x0, 1, 4, false, [(31, 0, 0)]⟩,
   ⟨0x900138, 1, 0x0, 1, 4, false, [(31, 0, 0)]⟩,
   ⟨0x90013C, 1, 0x0, 1, 4, false, [(29, 24, 1), (21, 16, 1), (8, 0, 1)]⟩,
   ⟨0x900140, 1, 0x0, 1, 4, false, [(31, 16, 2), (13, 13, 2), (8, 0, 0)]⟩,
   ⟨0x900144, 4, 0x4, 1, 4, false, [(31, 0, 0)]⟩,
   ⟨0x900154, 1, 0x0, 1, 4, false, [(31, 31, 1), (2, 0, 1)]⟩,
   ⟨0x900158, 1, 0x0, 1, 4, false, [(31, 31, 0), (30, 30, 0), (23, 0, 0)]⟩]

/-- the registers of block MNS -/
def regRowsMNS : List RegRow := regRowsMNS0 ++ regRowsMNS1

def regRowsAST0 : List RegRow :=
  [⟨0xA00000, 1, 0x0, 1, 4, false, [(31, 0, 1)]⟩,
   ⟨0xA00004, 1, 0x0, 1, 4, false, [(31, 0, 1)]⟩,
   ⟨0xA00008, 1, 0x0, 1, 4, false, [(31, 16, 1), (15, 15, 1)]⟩,
   ⟨0xA0000C, 1, 0x0, 1, 4, false, [(31, 31, 1), (23, 16, 1)]⟩,
   ⟨0xA00010, 4, 0x4, 1, 4, false, [(31, 31, 1), (15, 0, 1)]⟩,
   ⟨0xA00020, 1, 0x0, 1, 4, false, [(0, 0, 3)]⟩,
   ⟨0xA00024, 1, 0x0, 1, 4, false, [(31, 29, 0), (28, 28, 0), (27, 27, 0), (23, 16, 0)]⟩,
   ⟨0xA00028, 1, 0x0, 1, 4, false, [(2, 2, 2), (1, 1, 2), (0, 0, 2)]⟩,
   ⟨0xA0002C, 1, 0x0, 1, 4, false, [(31, 0, 1)]⟩,
   ⟨0xA00030, 1, 0x0, 1, 4, false, [(31, 31, 1)]⟩,
   ⟨0xA00034, 1, 0x0, 1, 4, false, [(31, 31, 0), (30, 30, 0), (4, 0, 0)]⟩,
   ⟨0xA00100, 2, 0x100, 17, 8, false, [(31, 0, 0)]⟩,
   ⟨0xA00104, 2, 0x100, 17, 8, false, [(31, 31, 0), (30, 29, 0), (28, 28, 0), (25, 16, 0), (15, 0, 0)]⟩,
   ⟨0xA00188, 2, 0x100, 1, 4, false, [(31, 16, 0), (15, 8, 0), (7, 0, 0)]⟩,
   ⟨0xA0018C, 2, 0x100, 1, 4, false, [(15, 0, 0)]⟩]

/-- the registers of block AST -/
def regRowsAST : List RegRow := regRowsAST0

def regRowsSCH0 : List RegRow :=
  [⟨0xB00000, 1, 0x0, 1, 4, false, [(31, 31, 1), (30, 30, 1), (23, 16, 1), (15, 0, 1)]⟩,
   ⟨0xB00004, 1, 0x0, 1, 4, false, [(31, 29, 0), (28, 28, 0), (27, 24, 0), (12, 0, 0)]⟩,
   ⟨0xB00008, 1, 0x0, 1, 4, false, [(15, 8, 2), (3, 3, 2), (2, 2, 2), (1, 1, 2), (0, 0, 2)]⟩,
   ⟨0xB0000C, 1, 0x0, 1, 4, false, [(31, 0, 1)]⟩,
   ⟨0xB00010, 1, 0x0, 1, 4, false, [(11, 0, 1)]⟩,
   ⟨0xB00014, 1, 0x0, 1, 4, false, [(1, 1, 3), (0, 0, 3)]⟩,
   ⟨0xB00018, 4, 0x4, 1, 4, false, [(31, 0, 1)]⟩,
   ⟨0xB00030, 1, 0x0, 1, 4, true, [(18, 16, 3), (15, 0, 3)]⟩,
   ⟨0xB00040, 1, 0x0, 1, 4, false, [(31, 16, 2), (13, 13, 2), (8, 0, 0)]⟩,
   ⟨0xB00044, 1, 0x0, 1, 4, false, [(31, 31, 3), (30, 30, 3), (8, 0, 1)]⟩,
   ⟨0xB00060, 8, 0x4, 1, 4, false, [(31, 0, 0)]⟩,
   ⟨0xB00100, 48, 0x10, 1, 4, false, [(31, 31, 1), (30, 29, 1), (28, 28, 1), (27, 27, 1), (26, 26, 1), (23, 16, 1), (15, 0, 1)]⟩,
   ⟨0xB00104, 48, 0x10, 1, 4, false, [(31, 31, 0), (30, 30, 0), (29, 29, 0), (28, 28, 0), (27, 26, 0), (25, 25, 0), (24, 24, 0), (12, 12, 0), (11, 0, 0)]⟩,
   ⟨0xB00108, 48, 0x10, 1, 4, false, [(31, 0, 1)]⟩,
   ⟨0xB0010C, 48, 0x10, 1, 4, false, [(31, 0, 1)]⟩,
   ⟨0xB00400, 32, 0x4, 1, 4, false, [(31, 31, 1), (30, 24, 1), (23, 20, 1), (19, 15, 1), (7, 0, 1)]⟩,
   ⟨0xB00500, 64, 0x8, 1, 4, false, [(24, 16, 1), (9, 0, 1)]⟩,
   ⟨0xB00504, 64, 0x8, 1, 4, false, [(31, 16, 1), (15, 0, 1)]⟩,
   ⟨0xB00700, 1, 0x0, 1, 4, false, [(8, 0, 1)]⟩,
   ⟨0xB00704, 1, 0x0, 1, 4, false, [(15, 0, 1)]⟩]

def regRowsSCH1 : List RegRow :=
  [⟨0xB00780, 8, 0x20, 1, 4, true, [(31, 31, 3), (30, 30, 3), (29, 29, 3), (28, 28, 3), (21, 16, 3), (14, 12, 3)]⟩,
   ⟨0xB00784, 8, 0x20, 1, 4, false, [(31, 0, 1)]⟩,
   ⟨0xB00788, 8, 0x20, 1, 4, false, [(31, 30, 1), (29, 0, 1)]⟩,
   ⟨0xB0078C, 8, 0x20, 1, 4, false, [(31, 28, 0), (27, 26, 0), (25, 25, 0), (23, 12, 0), (11, 0, 0)]⟩,
   ⟨0xB00790, 8, 0x20, 1, 4, false, [(29, 20, 0), (19, 10, 0), (9, 0, 0)]⟩,
   ⟨0xB00900, 1, 0x0, 1, 4, false, [(31, 31, 1), (15, 0, 1)]⟩,
   ⟨0xB00904, 1, 0x0, 1, 4, false, [(31, 31, 0), (15, 0, 0)]⟩]

/-- the registers of block SCH -/
def regRowsSCH : List RegRow := regRowsSCH0 ++ regRowsSCH1

def regRowsPTP0 : List RegRow :=
  [⟨0xC00000, 1, 0x0, 1, 4, false, [(31, 29, 1), (28, 28, 1), (27, 27, 1), (26, 26, 1), (23, 16, 1), (15, 8, 1), (7, 0, 1)]⟩,
   ⟨0xC00004, 1, 0x0, 1, 4, false, [(31, 0, 1)]⟩,
   ⟨0xC00008, 1, 0x0, 1, 4, false, [(31, 0, 1)]⟩,
   ⟨0xC0000C, 1, 0x0, 1, 4, false, [(31, 31, 1), (23, 16, 1), (15, 0, 1)]⟩,
   ⟨0xC00010, 1, 0x0, 1, 4, false, [(31, 24, 0), (23, 16, 0), (15, 15, 0), (14, 14, 0), (13, 11, 0), (10, 10, 0), (7, 0, 0)]⟩,
   ⟨0xC00014, 1, 0x0, 1, 4, false, [(31, 0, 0)]⟩,
   ⟨0xC00018, 1, 0x0, 1, 4, false, [(31, 0, 0)]⟩,
   ⟨0xC0001C, 1, 0x0, 1, 4, false, [(31, 16, 0), (15, 0, 0)]⟩,
   ⟨0xC00020, 1, 0x0, 1, 4, false, [(31, 0, 0)]⟩,
   ⟨0xC00024, 1, 0x0, 1, 4, false, [(31, 0, 0)]⟩,
   ⟨0xC00028, 1, 0x0, 1, 4, false, [(31, 24, 0), (23, 16, 0), (15, 0, 0)]⟩,
   ⟨0xC0002C, 1, 0x0, 1, 4, false, [(15, 8, 0), (7, 0, 0)]⟩,
   ⟨0xC00030, 1, 0x0, 1, 4, false, [(5, 5, 2), (4, 4, 2), (3, 3, 2), (2, 2, 2), (1, 1, 2), (0, 0, 2)]⟩,
   ⟨0xC00034, 1, 0x0, 1, 4, false, [(31, 0, 1)]⟩,
   ⟨0xC00040, 1, 0x0, 1, 4, false, [(31, 31, 1), (2, 0, 1)]⟩,
   ⟨0xC00044, 1, 0x0, 1, 4, false, [(31, 31, 0), (30, 30, 0), (15, 0, 0)]⟩,
   ⟨0xC00100, 1, 0x0, 1, 4, false, [(31, 16, 1), (15, 0, 1)]⟩,
   ⟨0xC00104, 1, 0x0, 1, 4, false, [(31, 0, 1)]⟩,
   ⟨0xC00108, 1, 0x0, 1, 4, false, [(27, 16, 1), (15, 0, 1)]⟩,
   ⟨0xC0010C, 1, 0x0, 1, 4, false, [(31, 31, 1), (30, 29, 1), (28, 28, 0), (27, 27, 0), (26, 26, 0), (5, 0, 1)]⟩]

def regRowsPTP1 : List RegRow :=
  [⟨0xC00110, 1, 0x0, 1, 4, false, [(11, 0, 1)]⟩,
   ⟨0xC00114, 1, 0x0, 1, 4, false, [(13, 8, 1), (5, 0, 1)]⟩,
   ⟨0xC00118, 1, 0x0, 1, 4, false, [(23, 0, 1)]⟩,
   ⟨0xC00200, 4, 0x8, 1, 4, false, [(31, 31, 1), (30, 30, 1), (28, 24, 4), (23, 16, 1), (15, 8, 1), (0, 0, 0)]⟩,
   ⟨0xC00204, 4, 0x8, 1, 4, false, [(31, 0, 1)]⟩,
   ⟨0xC00400, 6, 0x80, 1, 4, false, [(31, 31, 1), (30, 29, 1), (28, 28, 1), (27, 27, 1), (26, 25, 1), (24, 24, 1), (23, 23, 1), (22, 22, 1), (21, 21, 1), (11, 0, 1)]⟩,
   ⟨0xC00404, 6, 0x80, 1, 4, false, [(31, 31, 0), (30, 29, 0), (28, 28, 0), (27, 27, 0), (26, 24, 0), (23, 20, 0), (19, 19, 0), (18, 18, 0)]⟩,
   ⟨0xC00408, 6, 0x80, 1, 4, false, [(31, 24, 1), (23, 16, 1), (15, 8, 1), (7, 0, 1)]⟩,
   ⟨0xC0040C, 6, 0x80, 1, 4, false, [(31, 0, 1)]⟩,
   ⟨0xC00410, 6, 0x80, 1, 4, false, [(31, 0, 1)]⟩,
   ⟨0xC00414, 6, 0x80, 1, 4, false, [(31, 0, 1)]⟩,
   ⟨0xC00418, 6, 0x80, 1, 4, false, [(31, 30, 1), (27, 24, 1), (19, 16, 1), (15, 0, 1)]⟩,
   ⟨0xC0041C, 6, 0x80, 1, 4, false, [(8, 8, 1), (7, 0, 1)]⟩,
   ⟨0xC00420, 6, 0x80, 1, 4, false, [(31, 0, 0)]⟩,
   ⟨0xC00424, 6, 0x80, 1, 4, false, [(31, 0, 0)]⟩,
   ⟨0xC00428, 6, 0x80, 1, 4, false, [(31, 0, 0)]⟩,
   ⟨0xC0042C, 6, 0x80, 1, 4, false, [(31, 0, 0)]⟩,
   ⟨0xC00430, 6, 0x80, 1, 4, false, [(31, 0, 0)]⟩,
   ⟨0xC00434, 6, 0x80, 1, 4, false, [(31, 0, 0)]⟩,
   ⟨0xC00438, 6, 0x80, 1, 4, false, [(31, 31, 1), (30, 30, 1), (29, 29, 1), (28, 28, 1), (23, 20, 1)]⟩]

def regRowsPTP2 : List RegRow :=
  [⟨0xC0043C, 6, 0x80, 1, 4, false, [(31, 28, 0), (27, 20, 0), (19, 19, 0), (18, 18, 0), (17, 14, 0), (13, 13, 0)]⟩,
   ⟨0xC00440, 6, 0x80, 1, 4, false, [(31, 16, 2), (15, 0, 2)]⟩,
   ⟨0xC00444, 6, 0x80, 1, 4, false, [(31, 16, 2), (15, 0, 2)]⟩,
   ⟨0xC00448, 6, 0x80, 1, 4, false, [(31, 31, 1), (30, 30, 1), (24, 16, 1), (15, 0, 1)]⟩,
   ⟨0xC0044C, 6, 0x80, 1, 4, false, [(31, 16, 2), (13, 13, 2), (8, 0, 0)]⟩,
   ⟨0xC00450, 6, 0x80, 4, 4, false, [(31, 0, 0)]⟩,
   ⟨0xC00460, 6, 0x80, 1, 4, false, [(2, 2, 3), (1, 1, 3), (0, 0, 3)]⟩]

/-- the registers of block PTP -/
def regRowsPTP : List RegRow := regRowsPTP0 ++ regRowsPTP1 ++ regRowsPTP2

def regRowsCRL0 : List RegRow :=
  [⟨0xD00000, 4, 0x40, 1, 4, false, [(31, 31, 1), (30, 30, 1), (29, 28, 1), (24, 20, 1), (19, 14, 1), (13, 8, 1)]⟩,
   ⟨0xD00004, 4, 0x40, 1, 4, false, [(31, 16, 1), (15, 8, 1), (7, 4, 1), (3, 0, 1)]⟩,
   ⟨0xD00008, 4, 0x40, 1, 4, false, [(31, 0, 1)]⟩,
   ⟨0xD0000C, 4, 0x40, 1, 4, false, [(31, 0, 1)]⟩,
   ⟨0xD00010, 4, 0x40, 1, 4, false, [(31, 28, 1), (15, 0, 1)]⟩,
   ⟨0xD00014, 4, 0x40, 1, 4, false, [(31, 31, 4), (28, 24, 4)]⟩,
   ⟨0xD00018, 4, 0x40, 1, 4, false, [(31, 30, 0), (29, 28, 0), (27, 27, 0), (26, 24, 0)]⟩,
   ⟨0xD0001C, 4, 0x40, 1, 4, false, [(31, 16, 2), (15, 0, 2)]⟩,
   ⟨0xD00020, 4, 0x40, 1, 4, false, [(31, 16, 2), (15, 0, 2)]⟩,
   ⟨0xD00024, 4, 0x40, 1, 4, false, [(31, 0, 0)]⟩,
   ⟨0xD00028, 4, 0x40, 1, 4, false, [(31, 31, 1), (30, 30, 1), (6, 0, 1)]⟩,
   ⟨0xD0002C, 4, 0x40, 1, 4, false, [(31, 16, 2), (13, 13, 2), (9, 0, 0)]⟩,
   ⟨0xD00030, 4, 0x40, 4, 4, false, [(31, 0, 0)]⟩,
   ⟨0xD00100, 1, 0x0, 1, 4, false, [(6, 5, 1), (4, 0, 1)]⟩,
   ⟨0xD00104, 1, 0x0, 1, 4, false, [(31, 31, 1), (30, 30, 4), (29, 29, 1), (28, 24, 4), (23, 22, 1), (15, 8, 1), (7, 0, 1)]⟩,
   ⟨0xD00108, 1, 0x0, 1, 4, false, [(31, 29, 0), (28, 27, 0), (26, 24, 0), (23, 21, 0), (20, 20, 0), (19, 16, 0), (15, 8, 0), (7, 0, 0)]⟩,
   ⟨0xD0010C, 1, 0x0, 1, 4, false, [(31, 0, 0)]⟩,
   ⟨0xD00110, 1, 0x0, 1, 4, false, [(31, 0, 0)]⟩,
   ⟨0xD00114, 1, 0x0, 1, 4, false, [(31, 0, 1)]⟩,
   ⟨0xD00118, 1, 0x0, 1, 4, false, [(31, 0, 1)]⟩]

def regRowsCRL1 : List RegRow :=
  [⟨0xD0011C, 1, 0x0, 1, 4, false, [(31, 0, 0)]⟩,
   ⟨0xD00120, 1, 0x0, 1, 4, false, [(31, 31, 1), (30, 30, 0), (29, 29, 0), (15, 0, 0)]⟩,
   ⟨0xD00124, 1, 0x0, 1, 4, false, [(2, 2, 3), (1, 1, 3), (0, 0, 3)]⟩,
   ⟨0xD00140, 1, 0x0, 1, 4, false, [(31, 31, 0), (30, 29, 0), (28, 24, 0), (23, 20, 0)]⟩,
   ⟨0xD00144, 1, 0x0, 1, 4, false, [(31, 24, 0), (23, 16, 0), (15, 8, 0)]⟩,
   ⟨0xD00148, 1, 0x0, 1, 4, false, [(31, 0, 0)]⟩,
   ⟨0xD0014C, 1, 0x0, 1, 4, false, [(31, 16, 2), (15, 0, 2)]⟩,
   ⟨0xD00180, 1, 0x0, 1, 4, false, [(31, 30, 1), (28, 24, 1), (20, 20, 1), (19, 12, 1), (8, 0, 1)]⟩,
   ⟨0xD00184, 1, 0x0, 1, 4, true, [(31, 0, 3)]⟩,
   ⟨0xD00188, 1, 0x0, 1, 4, false, [(1, 1, 3), (0, 0, 3)]⟩,
   ⟨0xD0018C, 1, 0x0, 1, 4, false, [(31, 28, 0), (25, 16, 0), (6, 0, 0)]⟩,
   ⟨0xD00190, 1, 0x0, 1, 4, false, [(31, 16, 2), (13, 13, 2), (9, 0, 0)]⟩,
   ⟨0xD00194, 1, 0x0, 1, 4, false, [(31, 0, 0)]⟩,
   ⟨0xD00198, 1, 0x0, 1, 4, false, [(31, 16, 2), (13, 13, 2), (9, 0, 0)]⟩,
   ⟨0xD0019C, 1, 0x0, 1, 4, false, [(31, 0, 0)]⟩,
   ⟨0xD001A0, 1, 0x0, 1, 4, false, [(15, 12, 3), (11, 8, 3), (2, 2, 3), (1, 1, 3), (0, 0, 3)]⟩,
   ⟨0xD001A4, 1, 0x0, 1, 4, false, [(8, 8, 2), (7, 7, 2), (6, 6, 2), (5, 5, 2), (4, 4, 2), (3, 3, 2), (2, 2, 2), (1, 1, 2), (0, 0, 2)]⟩,
   ⟨0xD001A8, 1, 0x0, 1, 4, false, [(31, 0, 1)]⟩,
   ⟨0xD001AC, 1, 0x0, 1, 4, false, [(31, 31, 1), (30, 30, 1), (9, 8, 1), (7, 0, 1)]⟩,
   ⟨0xD001B0, 1, 0x0, 1, 4, false, [(31, 31, 0), (30, 30, 0), (15, 0, 0)]⟩]

def regRowsCRL2 : List RegRow :=
  [⟨0xD00200, 64, 0x4, 1, 4, false, [(31, 0, 0)]⟩,
   ⟨0xD00300, 64, 0x4, 1, 4, false, [(31, 0, 0)]⟩]

/-- the registers of block CRL -/
def regRowsCRL : List RegRow := regRowsCRL0 ++ regRowsCRL1 ++ regRowsCRL2

def regRowsNVM0 : List RegRow :=
  [⟨0xE00000, 1, 0x0, 1, 4, false, [(31, 31, 1), (30, 30, 1), (27, 24, 1)]⟩,
   ⟨0xE00004, 1, 0x0, 1, 4, false, [(31, 31, 0), (30, 30, 0), (29, 29, 0), (28, 24, 0), (23, 23, 0), (22, 22, 0), (21, 21, 0), (18, 16, 0), (15, 8, 0), (2, 0, 0)]⟩,
   ⟨0xE00008, 1, 0x0, 1, 4, false, [(31, 0, 0)]⟩,
   ⟨0xE0000C, 1, 0x0, 1, 4, false, [(2, 2, 3), (1, 1, 3), (0, 0, 3)]⟩,
   ⟨0xE00010, 1, 0x0, 1, 4, false, [(3, 3, 2), (2, 2, 2), (1, 1, 2), (0, 0, 2)]⟩,
   ⟨0xE00014, 1, 0x0, 1, 4, false, [(31, 0, 1)]⟩,
   ⟨0xE00018, 1, 0x0, 1, 4, false, [(10, 0, 1)]⟩,
   ⟨0xE0001C, 1, 0x0, 1, 4, false, [(31, 31, 0), (30, 30, 0), (29, 29, 2), (28, 28, 2), (15, 0, 2)]⟩,
   ⟨0xE00020, 1, 0x0, 1, 4, false, [(31, 31, 1), (26, 16, 1), (10, 0, 1)]⟩,
   ⟨0xE00024, 1, 0x0, 1, 4, false, [(31, 31, 0), (30, 30, 0), (29, 29, 0), (10, 0, 0)]⟩,
   ⟨0xE00400, 64, 0x4, 1, 4, false, [(31, 0, 1)]⟩,
   ⟨0xE00800, 64, 0x4, 1, 4, false, [(31, 0, 0)]⟩,
   ⟨0xE01000, 1024, 0x4, 1, 4, false, [(31, 0, 0)]⟩]

/-- the registers of block NVM -/
def regRowsNVM : List RegRow := regRowsNVM0

def regRowsSEC0 : List RegRow :=
  [⟨0xF00000, 1, 0x0, 1, 4, false, [(31, 30, 0), (29, 29, 0), (28, 28, 0), (27, 27, 0), (26, 26, 0), (25, 25, 0), (24, 24, 0), (23, 20, 0), (19, 16, 0), (6, 0, 0)]⟩,
   ⟨0xF00004, 1, 0x0, 1, 4, true, [(31, 24, 3), (2, 2, 3), (1, 1, 3), (0, 0, 3)]⟩,
   ⟨0xF00008, 1, 0x0, 1, 4, false, [(0, 0, 4)]⟩,
   ⟨0xF0000C, 1, 0x0, 1, 4, false, [(31, 0, 4)]⟩,
   ⟨0xF00010, 1, 0x0, 1, 4, true, [(31, 24, 3), (23, 20, 3), (19, 15, 3), (14, 12, 3), (7, 0, 3)]⟩,
   ⟨0xF00014, 1, 0x0, 1, 4, false, [(31, 31, 0), (3, 0, 0)]⟩,
   ⟨0xF00018, 1, 0x0, 1, 4, true, [(31, 24, 3), (3, 0, 3)]⟩,
   ⟨0xF0001C, 1, 0x0, 1, 4, false, [(31, 31, 0), (30, 30, 2), (29, 29, 2), (23, 8, 0), (3, 0, 0)]⟩,
   ⟨0xF00020, 1, 0x0, 1, 4, false, [(5, 0, 1)]⟩,
   ⟨0xF00024, 1, 0x0, 1, 4, false, [(31, 0, 0)]⟩,
   ⟨0xF00028, 1, 0x0, 1, 4, false, [(31, 0, 0)]⟩,
   ⟨0xF0002C, 1, 0x0, 1, 4, false, [(3, 3, 2), (2, 2, 2), (1, 1, 2), (0, 0, 2)]⟩,
   ⟨0xF00030, 1, 0x0, 1, 4, false, [(31, 0, 1)]⟩,
   ⟨0xF00040, 4, 0x4, 1, 4, false, [(31, 0, 0)]⟩,
   ⟨0xF00080, 10, 0x4, 1, 4, false, [(31, 0, 0)]⟩,
   ⟨0xF00100, 48, 0x4, 1, 4, true, [(31, 0, 3)]⟩]

/-- the registers of block SEC -/
def regRowsSEC : List RegRow := regRowsSEC0

/-- the registers of block number b (R17) -/
def regRows : Nat → List RegRow
  | 0 => regRowsGEN
  | 1 => regRowsRST
  | 2 => regRowsFLT
  | 3 => regRowsIMG
  | 4 => regRowsREF
  | 5 => regRowsPMU
  | 6 => regRowsSEL
  | 7 => regRowsSYN
  | 8 => regRowsTKP
  | 9 => regRowsMNS
  | 10 => regRowsAST
  | 11 => regRowsSCH
  | 12 => regRowsPTP
  | 13 => regRowsCRL
  | 14 => regRowsNVM
  | 15 => regRowsSEC
  | _ => []

/-- the nonzero entries of the Reset columns (R7), by key of the field (see fldKey); every other field resets to 0 -/
def resetOf (k : Nat) : Nat :=
  if k = 16 then 37696 else  -- GEN_ID_PART
  if k = 8 then 1 else  -- GEN_ID_STEPPING
  if k = 0 then 2 else  -- GEN_ID_IMGVER
  if k = 224 then 1 else  -- GEN_HOSTCFG_PAIR
  if k = 16777243 then 1 else  -- FLT_STAT_RCLK_SAMPLE
  if k = 16777248 then 1000 else  -- FLT_QUIET_QUIET
  if 33558588 ≤ k ∧ k ≤ 33560572 ∧ (k - 33558588) % 64 = 0 then 15 else  -- REF_SLOTs_STAT_EFF_QL
  if 33558584 ≤ k ∧ k ≤ 33560568 ∧ (k - 33558584) % 64 = 0 then 15 else  -- REF_SLOTs_STAT_ADV_QL
  if k = 33560960 then 600 else  -- REF_SYSCLK_WARM_MAX
  if 41943292 ≤ k ∧ k ≤ 41954556 ∧ (k - 41943292) % 1024 = 0 then 1 else  -- PMU_PMn_STAT_UNCAL
  if 50331982 ≤ k ∧ k ≤ 50335566 ∧ (k - 50331982) % 512 = 0 then 15 else  -- SEL_SELd_STAT_ACT_QL
  if 83888189 ≤ k ∧ k ≤ 83889213 ∧ (k - 83888189) % 64 = 0 then 3 else  -- AST_DAYd_EVe_HI_NOEVT
  if 83890237 ≤ k ∧ k ≤ 83891261 ∧ (k - 83890237) % 64 = 0 then 3 else  -- AST_DAYd_EVe_HI_NOEVT
  if 92276793 ≤ k ∧ k ≤ 92282809 ∧ (k - 92276793) % 128 = 0 then 1 else  -- SCH_CHn_STAT_IN_FAIL
  if k = 100663448 then 248 else  -- PTP_CLK_STAT_CLASS
  if k = 100663440 then 254 else  -- PTP_CLK_STAT_ACCURACY
  if k = 100663435 then 7 else  -- PTP_CLK_STAT_SLAVE_PORT
  if k = 100663424 then 160 else  -- PTP_CLK_STAT_TIME_SOURCE
  if k = 109054484 then 15 else  -- CRL_FOL_STAT_QL
  if k = 109055088 then 512 else  -- CRL_LBO_STAT_POOL_FREE
  if k = 125829147 then 1 else  -- SEC_STAT_FUSE_OK, blank fuses sensed alike (R433)
  0

end Sys2Proof.Machine
end

