-- ==== Sys2Proof/Machine/RegsA.lean ====
section
/-! DEFINITION. The register FIELDS of blocks GEN, RST, FLT, IMG, REF, PMU, one name per field, with the address and the bits that the
register tables of spec/ give it (BLOCK_REGISTER_FIELD; n is the index of a register bank, j the word of a
register that spans several). -/

namespace Sys2Proof.Reg
open Sys2Proof.Machine

/-! GEN -/

def GEN_ID_PART : Fld := ⟨0x0, 31, 16⟩
def GEN_ID_GRADE : Fld := ⟨0x0, 15, 12⟩
def GEN_ID_STEPPING : Fld := ⟨0x0, 11, 8⟩
def GEN_ID_IMGVER : Fld := ⟨0x0, 7, 0⟩
def GEN_CLKSTAT_TIME_DPLL : Fld := ⟨0x4, 7, 5⟩
def GEN_CLKSTAT_RCLK_OK : Fld := ⟨0x4, 4, 4⟩
def GEN_CLKSTAT_PMCLK_CAL : Fld := ⟨0x4, 3, 3⟩
def GEN_CLKSTAT_CORE_FROZEN : Fld := ⟨0x4, 2, 2⟩
def GEN_CLKSTAT_CORE_LOCK : Fld := ⟨0x4, 1, 1⟩
def GEN_CLKSTAT_SYSCLK_PRES : Fld := ⟨0x4, 0, 0⟩
def GEN_MODE_MODE_SE : Fld := ⟨0x8, 7, 7⟩
def GEN_MODE_MODE_MT : Fld := ⟨0x8, 6, 6⟩
def GEN_MODE_MODE_CA : Fld := ⟨0x8, 5, 5⟩
def GEN_MODE_MODE_AS : Fld := ⟨0x8, 4, 4⟩
def GEN_MODE_MODE_MS : Fld := ⟨0x8, 3, 3⟩
def GEN_MODE_MODE_FR : Fld := ⟨0x8, 2, 2⟩
def GEN_MODE_MODE_TC : Fld := ⟨0x8, 1, 1⟩
def GEN_MODE_MODE_TS : Fld := ⟨0x8, 0, 0⟩
def GEN_MODESTAT_IN_TRANSIT : Fld := ⟨0xC, 23, 16⟩
def GEN_MODESTAT_REJECT : Fld := ⟨0xC, 9, 9⟩
def GEN_MODESTAT_BUSY : Fld := ⟨0xC, 8, 8⟩
def GEN_MODESTAT_EFFECTIVE : Fld := ⟨0xC, 7, 0⟩
def GEN_ISOLATE_ISO_DONE : Fld := ⟨0x10, 30, 20⟩
def GEN_ISOLATE_ISO_REQ : Fld := ⟨0x10, 14, 4⟩
def GEN_IRQ_STAT_DPLL : Fld := ⟨0x14, 16, 16⟩
def GEN_IRQ_STAT_BLK : Fld := ⟨0x14, 15, 7⟩
def GEN_IRQ_STAT_SEL : Fld := ⟨0x14, 6, 6⟩
def GEN_IRQ_STAT_BLK_4 : Fld := ⟨0x14, 5, 4⟩
def GEN_IRQ_STAT_FLT : Fld := ⟨0x14, 2, 2⟩
def GEN_IRQ_STAT_MODECHG : Fld := ⟨0x14, 0, 0⟩
def GEN_IRQ_EN_EN : Fld := ⟨0x18, 31, 0⟩
def GEN_HOSTCFG_IRQ_OD : Fld := ⟨0x1C, 1, 1⟩
def GEN_HOSTCFG_PAIR : Fld := ⟨0x1C, 0, 0⟩
def GEN_HAF_VALID : Fld := ⟨0x20, 31, 31⟩
def GEN_HAF_MORE : Fld := ⟨0x20, 30, 28⟩
def GEN_HAF_CAUSE : Fld := ⟨0x20, 27, 24⟩
def GEN_HAF_ADDR : Fld := ⟨0x20, 23, 0⟩
def GEN_LOCK_SE_LOCK : Fld := ⟨0x24, 0, 0⟩

/-! RST -/

def RST_CAUSE_PENDING : Fld := ⟨0x100000, 31, 31⟩
def RST_CAUSE_FULL : Fld := ⟨0x100000, 17, 17⟩
def RST_CAUSE_RAIL : Fld := ⟨0x100000, 16, 12⟩
def RST_CAUSE_LAST_LEVEL : Fld := ⟨0x100000, 11, 10⟩
def RST_CAUSE_LAST_SRC : Fld := ⟨0x100000, 7, 5⟩
def RST_CAUSE_FLT : Fld := ⟨0x100000, 2, 2⟩
def RST_CAUSE_PIN : Fld := ⟨0x100000, 1, 1⟩
def RST_CAUSE_POR : Fld := ⟨0x100000, 0, 0⟩
def RST_STRAP_HOSTSEL : Fld := ⟨0x100004, 4, 4⟩
def RST_STRAP_CLKMODE : Fld := ⟨0x100004, 3, 2⟩
def RST_STRAP_BOOT : Fld := ⟨0x100004, 1, 0⟩
def RST_MAP_FLT : Fld := ⟨0x100008, 5, 4⟩
def RST_MAP_PIN : Fld := ⟨0x100008, 3, 2⟩
def RST_MAP_POR : Fld := ⟨0x100008, 1, 0⟩

/-! FLT -/

def FLT_STAT_STATE : Fld := ⟨0x200000, 31, 30⟩
def FLT_STAT_ALIVE_STOP : Fld := ⟨0x200000, 29, 29⟩
def FLT_STAT_NMI : Fld := ⟨0x200000, 28, 28⟩
def FLT_STAT_RCLK_SAMPLE : Fld := ⟨0x200000, 27, 27⟩
def FLT_STAT_IMG_HOLD : Fld := ⟨0x200000, 26, 26⟩
def FLT_STAT_QLEFT : Fld := ⟨0x200000, 15, 0⟩
def FLT_QUIET_QUIET : Fld := ⟨0x200004, 15, 0⟩
def FLT_FIRST_VALID : Fld := ⟨0x200008, 31, 31⟩
def FLT_FIRST_MULTI : Fld := ⟨0x200008, 30, 30⟩
def FLT_FIRST_SRC : Fld := ⟨0x200008, 6, 0⟩
def FLT_RECOV_COUNT : Fld := ⟨0x20000C, 15, 0⟩
def FLT_STK_STK (n : Nat) : Fld := ⟨0x200010 + 0x4 * n, 31, 0⟩
def FLT_CSTK_CSTK (n : Nat) : Fld := ⟨0x20001C + 0x4 * n, 31, 0⟩
def FLT_FORCE_FORCE (n : Nat) : Fld := ⟨0x200028 + 0x4 * n, 31, 0⟩
def FLT_RIDX_SRC : Fld := ⟨0x200034, 6, 0⟩
def FLT_REACT_FIXED : Fld := ⟨0x200038, 31, 31⟩
def FLT_REACT_REACT : Fld := ⟨0x200038, 4, 0⟩
def FLT_RINST_INST : Fld := ⟨0x20003C, 31, 0⟩
def FLT_DIDX_BLOCK : Fld := ⟨0x200040, 3, 0⟩
def FLT_DSETTLE_SETTLE : Fld := ⟨0x200044, 15, 0⟩
def FLT_DMASK_MASK (n : Nat) : Fld := ⟨0x200048 + 0x4 * n, 31, 0⟩
def FLT_RSTBUSY_BUSY : Fld := ⟨0x200054, 14, 4⟩
def FLT_CHKTEST_GO : Fld := ⟨0x200058, 31, 31⟩
def FLT_CHKTEST_SRC : Fld := ⟨0x200058, 6, 0⟩
def FLT_CHKRES_DONE : Fld := ⟨0x20005C, 31, 31⟩
def FLT_CHKRES_PASS : Fld := ⟨0x20005C, 30, 30⟩
def FLT_CHKRES_SRC : Fld := ⟨0x20005C, 6, 0⟩
def FLT_EVT_CHK_DONE : Fld := ⟨0x200060, 3, 3⟩
def FLT_EVT_RECOVERED : Fld := ⟨0x200060, 2, 2⟩
def FLT_EVT_FAULT : Fld := ⟨0x200060, 1, 1⟩
def FLT_EVT_SAFE : Fld := ⟨0x200060, 0, 0⟩
def FLT_EVT_EN_EN : Fld := ⟨0x200064, 31, 0⟩

/-! IMG -/

def IMG_STATUS_PR_BLOCK : Fld := ⟨0x300000, 23, 20⟩
def IMG_STATUS_PR_OUTCOME : Fld := ⟨0x300000, 19, 18⟩
def IMG_STATUS_SPARE_VALID : Fld := ⟨0x300000, 17, 17⟩
def IMG_STATUS_PTR : Fld := ⟨0x300000, 16, 16⟩
def IMG_STATUS_RUN_BANK : Fld := ⟨0x300000, 15, 15⟩
def IMG_STATUS_SOURCE : Fld := ⟨0x300000, 14, 12⟩
def IMG_STATUS_VERSION : Fld := ⟨0x300000, 7, 4⟩
def IMG_STATUS_STATE : Fld := ⟨0x300000, 3, 0⟩
def IMG_CTRL_KEY : Fld := ⟨0x300004, 31, 24⟩
def IMG_CTRL_ROLLFWD : Fld := ⟨0x300004, 7, 7⟩
def IMG_CTRL_PR_ABORT : Fld := ⟨0x300004, 6, 6⟩
def IMG_CTRL_PR_START : Fld := ⟨0x300004, 5, 5⟩
def IMG_CTRL_COMMIT : Fld := ⟨0x300004, 4, 4⟩
def IMG_CTRL_DL_ABORT : Fld := ⟨0x300004, 3, 3⟩
def IMG_CTRL_DL_DONE : Fld := ⟨0x300004, 2, 2⟩
def IMG_CTRL_DL_START : Fld := ⟨0x300004, 1, 1⟩
def IMG_ERR_CAND : Fld := ⟨0x300008, 31, 24⟩
def IMG_ERR_SEG : Fld := ⟨0x300008, 23, 16⟩
def IMG_ERR_PASS2 : Fld := ⟨0x300008, 8, 8⟩
def IMG_ERR_CODE : Fld := ⟨0x300008, 7, 0⟩
def IMG_DLDATA_DATA : Fld := ⟨0x30000C, 31, 0⟩
def IMG_RUNID_IMAGE_ID : Fld := ⟨0x300010, 31, 0⟩
def IMG_LOCK_LOCK : Fld := ⟨0x300014, 0, 0⟩

/-! REF -/

def REF_INn_CFG_EN (n : Nat) : Fld := ⟨0x400000 + 0x20 * n, 31, 31⟩
def REF_INn_CFG_LEG (n : Nat) : Fld := ⟨0x400000 + 0x20 * n, 30, 30⟩
def REF_INn_CFG_POL (n : Nat) : Fld := ⟨0x400000 + 0x20 * n, 29, 29⟩
def REF_INn_CFG_QL (n : Nat) : Fld := ⟨0x400000 + 0x20 * n, 27, 24⟩
def REF_INn_CFG_DIV (n : Nat) : Fld := ⟨0x400000 + 0x20 * n, 23, 0⟩
def REF_INn_NOM_NOM (n : Nat) : Fld := ⟨0x400004 + 0x20 * n, 31, 0⟩
def REF_INn_ACT_TOL (n : Nat) : Fld := ⟨0x400008 + 0x20 * n, 31, 24⟩
def REF_INn_ACT_SET (n : Nat) : Fld := ⟨0x400008 + 0x20 * n, 23, 16⟩
def REF_INn_ACT_CLR (n : Nat) : Fld := ⟨0x400008 + 0x20 * n, 15, 8⟩
def REF_INn_ACT_LEAK (n : Nat) : Fld := ⟨0x400008 + 0x20 * n, 7, 0⟩
def REF_INn_FM_GATE (n : Nat) : Fld := ⟨0x40000C + 0x20 * n, 31, 28⟩
def REF_INn_FM_BASE (n : Nat) : Fld := ⟨0x40000C + 0x20 * n, 27, 27⟩
def REF_INn_FM_THR (n : Nat) : Fld := ⟨0x40000C + 0x20 * n, 23, 0⟩
def REF_INn_PH_THR (n : Nat) : Fld := ⟨0x400010 + 0x20 * n, 31, 16⟩
def REF_INn_PH_DEC (n : Nat) : Fld := ⟨0x400010 + 0x20 * n, 15, 0⟩
def REF_INn_STAT_BUCKET (n : Nat) : Fld := ⟨0x400014 + 0x20 * n, 31, 24⟩
def REF_INn_STAT_FM_VALID (n : Nat) : Fld := ⟨0x400014 + 0x20 * n, 15, 15⟩
def REF_INn_STAT_WARM (n : Nat) : Fld := ⟨0x400014 + 0x20 * n, 14, 14⟩
def REF_INn_STAT_OVERSPEED (n : Nat) : Fld := ⟨0x400014 + 0x20 * n, 8, 8⟩
def REF_INn_STAT_CFG_ERR (n : Nat) : Fld := ⟨0x400014 + 0x20 * n, 7, 7⟩
def REF_INn_STAT_PH_HIT (n : Nat) : Fld := ⟨0x400014 + 0x20 * n, 6, 6⟩
def REF_INn_STAT_ACT_FAIL (n : Nat) : Fld := ⟨0x400014 + 0x20 * n, 5, 5⟩
def REF_INn_STAT_FM_FAIL (n : Nat) : Fld := ⟨0x400014 + 0x20 * n, 4, 4⟩
def REF_INn_STAT_FM_OK (n : Nat) : Fld := ⟨0x400014 + 0x20 * n, 1, 1⟩
def REF_INn_STAT_ACT_OK (n : Nat) : Fld := ⟨0x400014 + 0x20 * n, 0, 0⟩
def REF_INn_FOFF_LO_O (n : Nat) : Fld := ⟨0x400018 + 0x20 * n, 31, 0⟩
def REF_INn_FOFF_HI_O (n : Nat) : Fld := ⟨0x40001C + 0x20 * n, 31, 0⟩
def REF_SLOTs_CFG_OVR (n : Nat) : Fld := ⟨0x400200 + 0x8 * n, 31, 30⟩
def REF_SLOTs_CFG_OVR_QL (n : Nat) : Fld := ⟨0x400200 + 0x8 * n, 27, 24⟩
def REF_SLOTs_CFG_QUAL_TIME (n : Nat) : Fld := ⟨0x400200 + 0x8 * n, 15, 0⟩
def REF_SLOTs_STAT_EFF_QL (n : Nat) : Fld := ⟨0x400204 + 0x8 * n, 31, 28⟩
def REF_SLOTs_STAT_ADV_QL (n : Nat) : Fld := ⟨0x400204 + 0x8 * n, 27, 24⟩
def REF_SLOTs_STAT_STATE (n : Nat) : Fld := ⟨0x400204 + 0x8 * n, 23, 22⟩
def REF_SLOTs_STAT_VALID (n : Nat) : Fld := ⟨0x400204 + 0x8 * n, 21, 21⟩
def REF_SLOTs_STAT_REMAIN (n : Nat) : Fld := ⟨0x400204 + 0x8 * n, 15, 0⟩
def REF_QLSUM_USABLE : Fld := ⟨0x400300, 31, 0⟩
def REF_QEVT_CHANGE : Fld := ⟨0x400304, 31, 0⟩
def REF_QEVT_EN_EN : Fld := ⟨0x400308, 31, 0⟩
def REF_TODk_CFG_EN (n : Nat) : Fld := ⟨0x400310 + 0x10 * n, 31, 31⟩
def REF_TODk_CFG_SENSE (n : Nat) : Fld := ⟨0x400310 + 0x10 * n, 30, 30⟩
def REF_TODk_CFG_BAUD (n : Nat) : Fld := ⟨0x400310 + 0x10 * n, 29, 27⟩
def REF_TODk_CFG_SRC (n : Nat) : Fld := ⟨0x400310 + 0x10 * n, 26, 25⟩
def REF_TODk_CFG_QL_VALID (n : Nat) : Fld := ⟨0x400310 + 0x10 * n, 23, 20⟩
def REF_TODk_CFG_QL_EST (n : Nat) : Fld := ⟨0x400310 + 0x10 * n, 19, 16⟩
def REF_TODk_CFG_QL_NOLABEL (n : Nat) : Fld := ⟨0x400310 + 0x10 * n, 15, 12⟩
def REF_TODk_CFG_CONF (n : Nat) : Fld := ⟨0x400310 + 0x10 * n, 11, 8⟩
def REF_TODk_CFG_TIMEOUT (n : Nat) : Fld := ⟨0x400310 + 0x10 * n, 7, 0⟩
def REF_TODk_STAT_ERRCNT (n : Nat) : Fld := ⟨0x400314 + 0x10 * n, 31, 24⟩
def REF_TODk_STAT_FIX (n : Nat) : Fld := ⟨0x400314 + 0x10 * n, 15, 12⟩
def REF_TODk_STAT_LBL_VALID (n : Nat) : Fld := ⟨0x400314 + 0x10 * n, 11, 11⟩
def REF_TODk_STAT_CFG_ERR (n : Nat) : Fld := ⟨0x400314 + 0x10 * n, 10, 10⟩
def REF_TODk_STAT_CONSEC (n : Nat) : Fld := ⟨0x400314 + 0x10 * n, 7, 0⟩
def REF_TODk_LBL_DATE_YEAR (n : Nat) : Fld := ⟨0x400318 + 0x10 * n, 31, 16⟩
def REF_TODk_LBL_DATE_MONTH (n : Nat) : Fld := ⟨0x400318 + 0x10 * n, 15, 8⟩
def REF_TODk_LBL_DATE_DAY (n : Nat) : Fld := ⟨0x400318 + 0x10 * n, 7, 0⟩
def REF_TODk_LBL_TIME_HOUR (n : Nat) : Fld := ⟨0x40031C + 0x10 * n, 23, 16⟩
def REF_TODk_LBL_TIME_MIN (n : Nat) : Fld := ⟨0x40031C + 0x10 * n, 15, 8⟩
def REF_TODk_LBL_TIME_SEC (n : Nat) : Fld := ⟨0x40031C + 0x10 * n, 7, 0⟩
def REF_SYSCLK_CLASS : Fld := ⟨0x400330, 31, 30⟩
def REF_SYSCLK_OCXO_RDY : Fld := ⟨0x400330, 29, 29⟩
def REF_SYSCLK_WARMING : Fld := ⟨0x400330, 28, 28⟩
def REF_SYSCLK_WARM_TO : Fld := ⟨0x400330, 27, 27⟩
def REF_SYSCLK_ELAPSED : Fld := ⟨0x400330, 23, 12⟩
def REF_SYSCLK_WARM_MAX : Fld := ⟨0x400330, 11, 0⟩
def REF_SRCQL_IRIG_QL : Fld := ⟨0x400334, 3, 0⟩

/-! PMU -/

def PMU_PMn_CFG_EN (n : Nat) : Fld := ⟨0x500000 + 0x80 * n, 31, 31⟩
def PMU_PMn_CFG_MODE (n : Nat) : Fld := ⟨0x500000 + 0x80 * n, 30, 28⟩
def PMU_PMn_CFG_BASE (n : Nat) : Fld := ⟨0x500000 + 0x80 * n, 27, 27⟩
def PMU_PMn_CFG_SQ_EN (n : Nat) : Fld := ⟨0x500000 + 0x80 * n, 26, 26⟩
def PMU_PMn_CFG_INV_S (n : Nat) : Fld := ⟨0x500000 + 0x80 * n, 25, 25⟩
def PMU_PMn_CFG_INV_P (n : Nat) : Fld := ⟨0x500000 + 0x80 * n, 24, 24⟩
def PMU_PMn_CFG_PRE_S (n : Nat) : Fld := ⟨0x500000 + 0x80 * n, 23, 20⟩
def PMU_PMn_CFG_PRE_P (n : Nat) : Fld := ⟨0x500000 + 0x80 * n, 19, 16⟩
def PMU_PMn_CFG_QTHR (n : Nat) : Fld := ⟨0x500000 + 0x80 * n, 9, 0⟩
def PMU_PMn_WPOST_WPOST (n : Nat) : Fld := ⟨0x500004 + 0x80 * n, 31, 0⟩
def PMU_PMn_WPRE_WPRE (n : Nat) : Fld := ⟨0x500008 + 0x80 * n, 31, 0⟩
def PMU_PMn_GATE_GATE (n : Nat) : Fld := ⟨0x50000C + 0x80 * n, 31, 0⟩
def PMU_PMn_NOM_LO_NOM (n : Nat) : Fld := ⟨0x500010 + 0x80 * n, 31, 0⟩
def PMU_PMn_NOM_HI_NOM (n : Nat) : Fld := ⟨0x500014 + 0x80 * n, 31, 0⟩
def PMU_PMn_CTL_POP_RQ (n : Nat) : Fld := ⟨0x500018 + 0x80 * n, 4, 4⟩
def PMU_PMn_CTL_POP_SQ (n : Nat) : Fld := ⟨0x500018 + 0x80 * n, 3, 3⟩
def PMU_PMn_CTL_FLUSH_RQ (n : Nat) : Fld := ⟨0x500018 + 0x80 * n, 2, 2⟩
def PMU_PMn_CTL_FLUSH_SQ (n : Nat) : Fld := ⟨0x500018 + 0x80 * n, 1, 1⟩
def PMU_PMn_CTL_RESTART (n : Nat) : Fld := ⟨0x500018 + 0x80 * n, 0, 0⟩
def PMU_PMn_STAT_CFG_ERR (n : Nat) : Fld := ⟨0x50001C + 0x80 * n, 31, 31⟩
def PMU_PMn_STAT_STATE (n : Nat) : Fld := ⟨0x50001C + 0x80 * n, 30, 29⟩
def PMU_PMn_STAT_UNCAL (n : Nat) : Fld := ⟨0x50001C + 0x80 * n, 28, 28⟩
def PMU_PMn_STAT_PAIR (n : Nat) : Fld := ⟨0x50001C + 0x80 * n, 27, 26⟩
def PMU_PMn_SQ_HEAD (n j : Nat) : Fld := ⟨0x500020 + 0x80 * n + 4 * j, 31, 0⟩
def PMU_PMn_SQSTAT_LOST (n : Nat) : Fld := ⟨0x500030 + 0x80 * n, 31, 16⟩
def PMU_PMn_SQSTAT_OVF (n : Nat) : Fld := ⟨0x500030 + 0x80 * n, 13, 13⟩
def PMU_PMn_SQSTAT_LEVEL (n : Nat) : Fld := ⟨0x500030 + 0x80 * n, 9, 0⟩
def PMU_PMn_RQSTAT_LOST (n : Nat) : Fld := ⟨0x500034 + 0x80 * n, 31, 16⟩
def PMU_PMn_RQSTAT_OVF (n : Nat) : Fld := ⟨0x500034 + 0x80 * n, 13, 13⟩
def PMU_PMn_RQSTAT_LEVEL (n : Nat) : Fld := ⟨0x500034 + 0x80 * n, 9, 0⟩
def PMU_PMn_CALSTAT_LOOP_LOCK (n : Nat) : Fld := ⟨0x500038 + 0x80 * n, 31, 31⟩
def PMU_PMn_CALSTAT_TABLE_VALID (n : Nat) : Fld := ⟨0x500038 + 0x80 * n, 30, 30⟩
def PMU_PMn_CALSTAT_SKEW_VALID (n : Nat) : Fld := ⟨0x500038 + 0x80 * n, 29, 29⟩
def PMU_PMn_CALSTAT_TABLE_AGE (n : Nat) : Fld := ⟨0x500038 + 0x80 * n, 23, 0⟩
def PMU_PMn_CNT_LOST_EDGE (n : Nat) : Fld := ⟨0x50003C + 0x80 * n, 31, 16⟩
def PMU_PMn_CNT_EARLY (n : Nat) : Fld := ⟨0x50003C + 0x80 * n, 15, 0⟩
def PMU_PMn_RQ_HEAD (n j : Nat) : Fld := ⟨0x500040 + 0x80 * n + 4 * j, 31, 0⟩
def PMU_PMn_FA_LO_FA (n : Nat) : Fld := ⟨0x500050 + 0x80 * n, 31, 0⟩
def PMU_PMn_FA_FA_HI_FA (n : Nat) : Fld := ⟨0x500054 + 0x80 * n, 31, 0⟩
def PMU_PMn_OA_LO_OA (n : Nat) : Fld := ⟨0x500058 + 0x80 * n, 31, 0⟩
def PMU_PMn_OA_OA_HI_OA (n : Nat) : Fld := ⟨0x50005C + 0x80 * n, 31, 0⟩
def PMU_PMn_FB_LO_FB (n : Nat) : Fld := ⟨0x500060 + 0x80 * n, 31, 0⟩
def PMU_PMn_FB_FB_HI_FB (n : Nat) : Fld := ⟨0x500064 + 0x80 * n, 31, 0⟩
def PMU_PMn_OB_LO_OB (n : Nat) : Fld := ⟨0x500068 + 0x80 * n, 31, 0⟩
def PMU_PMn_OB_OB_HI_OB (n : Nat) : Fld := ⟨0x50006C + 0x80 * n, 31, 0⟩
def PMU_PMn_OBA_LO_OBA (n : Nat) : Fld := ⟨0x500070 + 0x80 * n, 31, 0⟩
def PMU_PMn_OBA_OBA_HI_OBA (n : Nat) : Fld := ⟨0x500074 + 0x80 * n, 31, 0⟩
def PMU_PMn_NSTAMP_N (n : Nat) : Fld := ⟨0x500078 + 0x80 * n, 31, 0⟩
def PMU_PMn_RSTAT_RFLAGS (n : Nat) : Fld := ⟨0x50007C + 0x80 * n, 31, 24⟩
def PMU_PMn_RSTAT_RSEQ (n : Nat) : Fld := ⟨0x50007C + 0x80 * n, 15, 0⟩
def PMU_CALCFG_AGE_MAX : Fld := ⟨0x500600, 31, 16⟩
def PMU_CALCTL_REBUILD : Fld := ⟨0x500604, 1, 1⟩
def PMU_CALCTL_SKEW_RUN : Fld := ⟨0x500604, 0, 0⟩
def PMU_IRQ_TABLE : Fld := ⟨0x500608, 25, 25⟩
def PMU_IRQ_SKEW_DONE : Fld := ⟨0x500608, 24, 24⟩
def PMU_IRQ_SQT : Fld := ⟨0x500608, 23, 12⟩
def PMU_IRQ_RES : Fld := ⟨0x500608, 11, 0⟩
def PMU_IRQ_EN_EN : Fld := ⟨0x50060C, 31, 0⟩
def PMU_TEST_GO : Fld := ⟨0x500610, 31, 31⟩
def PMU_TEST_UNIT : Fld := ⟨0x500610, 27, 24⟩
def PMU_TEST_SEP : Fld := ⟨0x500610, 11, 0⟩
def PMU_TESTRES_RESULT : Fld := ⟨0x500614, 31, 0⟩
def PMU_LINIDX_SLICE : Fld := ⟨0x500618, 19, 16⟩
def PMU_LINIDX_TAP : Fld := ⟨0x500618, 8, 0⟩
def PMU_LINDATA_L : Fld := ⟨0x50061C, 20, 0⟩
def PMU_SKEWn_K (n : Nat) : Fld := ⟨0x500640 + 0x4 * n, 31, 0⟩
def PMU_STATg_MEAN_LO_MEAN (n : Nat) : Fld := ⟨0x500700 + 0x40 * n, 31, 0⟩
def PMU_STATg_MEAN_HI_MEAN (n : Nat) : Fld := ⟨0x500704 + 0x40 * n, 31, 0⟩
def PMU_STATg_SD_LO_SD (n : Nat) : Fld := ⟨0x500708 + 0x40 * n, 31, 0⟩
def PMU_STATg_SD_HI_SD (n : Nat) : Fld := ⟨0x50070C + 0x40 * n, 31, 0⟩
def PMU_STATg_MIN_LO_MIN (n : Nat) : Fld := ⟨0x500710 + 0x40 * n, 31, 0⟩
def PMU_STATg_MIN_HI_MIN (n : Nat) : Fld := ⟨0x500714 + 0x40 * n, 31, 0⟩
def PMU_STATg_MAX_LO_MAX (n : Nat) : Fld := ⟨0x500718 + 0x40 * n, 31, 0⟩
def PMU_STATg_MAX_HI_MAX (n : Nat) : Fld := ⟨0x50071C + 0x40 * n, 31, 0⟩
def PMU_STATg_COUNT_N (n : Nat) : Fld := ⟨0x500720 + 0x40 * n, 24, 0⟩
def PMU_STATg_EXCL_EXCL (n : Nat) : Fld := ⟨0x500724 + 0x40 * n, 31, 0⟩
def PMU_STATg_SSTAT_RFLAGS (n : Nat) : Fld := ⟨0x500728 + 0x40 * n, 31, 24⟩
def PMU_STATg_SSTAT_SSEQ (n : Nat) : Fld := ⟨0x500728 + 0x40 * n, 15, 0⟩

end Sys2Proof.Reg
end

