-- ==== Sys2Proof/Machine/RegsB.lean ====
section
/-! DEFINITION. The register FIELDS of blocks SEL, SYN, TKP, MNS, AST, SCH, one name per field, with the address and the bits that the
register tables of spec/ give it (BLOCK_REGISTER_FIELD; n is the index of a register bank, j the word of a
register that spans several). -/

namespace Sys2Proof.Reg
open Sys2Proof.Machine

/-! SEL -/

def SEL_SELd_CFG_SELMODE (n : Nat) : Fld := ⟨0x600000 + 0x40 * n, 31, 30⟩
def SEL_SELd_CFG_REVERT (n : Nat) : Fld := ⟨0x600000 + 0x40 * n, 29, 29⟩
def SEL_SELd_CFG_PBO (n : Nat) : Fld := ⟨0x600000 + 0x40 * n, 28, 28⟩
def SEL_SELd_CFG_QL_LIMIT (n : Nat) : Fld := ⟨0x600000 + 0x40 * n, 27, 24⟩
def SEL_SELd_CFG_MAN_SLOT (n : Nat) : Fld := ⟨0x600000 + 0x40 * n, 20, 16⟩
def SEL_SELd_MASK_EN (n : Nat) : Fld := ⟨0x600004 + 0x40 * n, 31, 0⟩
def SEL_SELd_PRI_PRI (n j : Nat) : Fld := ⟨0x600008 + 0x40 * n + 4 * j, 31, 0⟩
def SEL_SELd_TIMERS_HOLDOFF (n : Nat) : Fld := ⟨0x600018 + 0x40 * n, 31, 16⟩
def SEL_SELd_TIMERS_DWELL (n : Nat) : Fld := ⟨0x600018 + 0x40 * n, 15, 0⟩
def SEL_SELd_SWCFG_PREP (n : Nat) : Fld := ⟨0x60001C + 0x40 * n, 31, 24⟩
def SEL_SELd_SWCFG_SETTLE (n : Nat) : Fld := ⟨0x60001C + 0x40 * n, 15, 0⟩
def SEL_SELd_DISCFG_THR (n : Nat) : Fld := ⟨0x600020 + 0x40 * n, 23, 0⟩
def SEL_SELd_CTL_DWELL_CLR (n : Nat) : Fld := ⟨0x600024 + 0x40 * n, 2, 2⟩
def SEL_SELd_CTL_RERUN (n : Nat) : Fld := ⟨0x600024 + 0x40 * n, 1, 1⟩
def SEL_SELd_CTL_ABORT (n : Nat) : Fld := ⟨0x600024 + 0x40 * n, 0, 0⟩
def SEL_SELd_STAT_ACT_SLOT (n : Nat) : Fld := ⟨0x600028 + 0x40 * n, 31, 27⟩
def SEL_SELd_STAT_ACT_VALID (n : Nat) : Fld := ⟨0x600028 + 0x40 * n, 26, 26⟩
def SEL_SELd_STAT_PEND_SLOT (n : Nat) : Fld := ⟨0x600028 + 0x40 * n, 25, 21⟩
def SEL_SELd_STAT_STAGE (n : Nat) : Fld := ⟨0x600028 + 0x40 * n, 20, 18⟩
def SEL_SELd_STAT_ACT_QL (n : Nat) : Fld := ⟨0x600028 + 0x40 * n, 17, 14⟩
def SEL_SELd_STAT_DWELL_RUN (n : Nat) : Fld := ⟨0x600028 + 0x40 * n, 13, 13⟩
def SEL_SELd_STAT_DISAGREE (n : Nat) : Fld := ⟨0x600028 + 0x40 * n, 12, 12⟩
def SEL_SELd_STAT_LAST_OUT (n : Nat) : Fld := ⟨0x600028 + 0x40 * n, 11, 8⟩
def SEL_SELd_STAT_LAST_WHY (n : Nat) : Fld := ⟨0x600028 + 0x40 * n, 7, 4⟩
def SEL_SELd_EVT_NOREF (n : Nat) : Fld := ⟨0x60002C + 0x40 * n, 5, 5⟩
def SEL_SELd_EVT_DISAGREE (n : Nat) : Fld := ⟨0x60002C + 0x40 * n, 4, 4⟩
def SEL_SELd_EVT_ABANDON (n : Nat) : Fld := ⟨0x60002C + 0x40 * n, 3, 3⟩
def SEL_SELd_EVT_COMMIT (n : Nat) : Fld := ⟨0x60002C + 0x40 * n, 2, 2⟩
def SEL_SELd_EVT_SETTLED (n : Nat) : Fld := ⟨0x60002C + 0x40 * n, 1, 1⟩
def SEL_SELd_EVT_BEGIN (n : Nat) : Fld := ⟨0x60002C + 0x40 * n, 0, 0⟩
def SEL_SELd_EVT_EN_EN (n : Nat) : Fld := ⟨0x600030 + 0x40 * n, 31, 0⟩
def SEL_SELd_PBO_LO_B (n : Nat) : Fld := ⟨0x600034 + 0x40 * n, 31, 0⟩
def SEL_SELd_PBO_HI_B (n : Nat) : Fld := ⟨0x600038 + 0x40 * n, 31, 0⟩
def SEL_SELd_DIS_SLOT_A (n : Nat) : Fld := ⟨0x60003C + 0x40 * n, 31, 27⟩
def SEL_SELd_DIS_SLOT_B (n : Nat) : Fld := ⟨0x60003C + 0x40 * n, 26, 22⟩
def SEL_SELd_DIS_THIRD (n : Nat) : Fld := ⟨0x60003C + 0x40 * n, 21, 17⟩
def SEL_SELd_DIS_THIRD_VALID (n : Nat) : Fld := ⟨0x60003C + 0x40 * n, 16, 16⟩
def SEL_SELd_DIS_RULE (n : Nat) : Fld := ⟨0x60003C + 0x40 * n, 15, 12⟩
def SEL_FEST_CFG_WIN : Fld := ⟨0x600200, 3, 0⟩
def SEL_FEST_IDX_SLOT : Fld := ⟨0x600204, 4, 0⟩
def SEL_FEST_LO_F : Fld := ⟨0x600208, 31, 0⟩
def SEL_FEST_HI_VALID : Fld := ⟨0x60020C, 31, 31⟩
def SEL_FEST_HI_F : Fld := ⟨0x60020C, 15, 0⟩
def SEL_IRQ_DPLL : Fld := ⟨0x600210, 7, 0⟩
def SEL_DPLLd_CFG_BW (n : Nat) : Fld := ⟨0x600400 + 0x80 * n, 31, 26⟩
def SEL_DPLLd_CFG_ACQ_BW (n : Nat) : Fld := ⟨0x600400 + 0x80 * n, 25, 20⟩
def SEL_DPLLd_CFG_ACQ_EN (n : Nat) : Fld := ⟨0x600400 + 0x80 * n, 19, 19⟩
def SEL_DPLLd_CFG_DAMP (n : Nat) : Fld := ⟨0x600400 + 0x80 * n, 18, 17⟩
def SEL_DPLLd_CFG_PSL (n : Nat) : Fld := ⟨0x600400 + 0x80 * n, 15, 0⟩
def SEL_DPLLd_FLIM_FLIM (n : Nat) : Fld := ⟨0x600404 + 0x80 * n, 23, 0⟩
def SEL_DPLLd_LOCK_LOCK_N (n : Nat) : Fld := ⟨0x600408 + 0x80 * n, 31, 16⟩
def SEL_DPLLd_LOCK_UN (n : Nat) : Fld := ⟨0x600408 + 0x80 * n, 15, 8⟩
def SEL_DPLLd_LOCKW_W (n : Nat) : Fld := ⟨0x60040C + 0x80 * n, 23, 0⟩
def SEL_DPLLd_HOCFG_AVG (n : Nat) : Fld := ⟨0x600410 + 0x80 * n, 31, 28⟩
def SEL_DPLLd_HOCFG_GUARD (n : Nat) : Fld := ⟨0x600410 + 0x80 * n, 27, 24⟩
def SEL_DPLLd_HOCFG_GACT (n : Nat) : Fld := ⟨0x600410 + 0x80 * n, 23, 22⟩
def SEL_DPLLd_HOCFG_LEARN (n : Nat) : Fld := ⟨0x600410 + 0x80 * n, 21, 21⟩
def SEL_DPLLd_HOCFG_MODEL_USE (n : Nat) : Fld := ⟨0x600410 + 0x80 * n, 20, 20⟩
def SEL_DPLLd_HOCFG_HO_DLY (n : Nat) : Fld := ⟨0x600410 + 0x80 * n, 15, 0⟩
def SEL_DPLLd_MODCFG_MODEL_MIN (n : Nat) : Fld := ⟨0x600414 + 0x80 * n, 31, 16⟩
def SEL_DPLLd_MODCFG_RES_MAX (n : Nat) : Fld := ⟨0x600414 + 0x80 * n, 15, 0⟩
def SEL_DPLLd_TEMAX_TEMAX (n : Nat) : Fld := ⟨0x600418 + 0x80 * n, 31, 0⟩
def SEL_DPLLd_GTOL_GTOL (n : Nat) : Fld := ⟨0x60041C + 0x80 * n, 15, 0⟩
def SEL_DPLLd_PSTEP_LO_P (n : Nat) : Fld := ⟨0x600420 + 0x80 * n, 31, 0⟩
def SEL_DPLLd_PSTEP_HI_MODE (n : Nat) : Fld := ⟨0x600424 + 0x80 * n, 31, 30⟩
def SEL_DPLLd_PSTEP_HI_P (n : Nat) : Fld := ⟨0x600424 + 0x80 * n, 15, 0⟩
def SEL_DPLLd_SLEW_SLEW (n : Nat) : Fld := ⟨0x600428 + 0x80 * n, 15, 0⟩
def SEL_DPLLd_FRW_LO_FR_WORD (n : Nat) : Fld := ⟨0x60042C + 0x80 * n, 31, 0⟩
def SEL_DPLLd_FRW_HI_FR_WORD (n : Nat) : Fld := ⟨0x600430 + 0x80 * n, 15, 0⟩
def SEL_DPLLd_CTL_MODEL_CLR (n : Nat) : Fld := ⟨0x600434 + 0x80 * n, 1, 1⟩
def SEL_DPLLd_CTL_SLEW_CANCEL (n : Nat) : Fld := ⟨0x600434 + 0x80 * n, 0, 0⟩
def SEL_DPLLd_STAT_STATE (n : Nat) : Fld := ⟨0x600438 + 0x80 * n, 31, 30⟩
def SEL_DPLLd_STAT_BRIDGE (n : Nat) : Fld := ⟨0x600438 + 0x80 * n, 29, 29⟩
def SEL_DPLLd_STAT_BW_CLAMP (n : Nat) : Fld := ⟨0x600438 + 0x80 * n, 28, 28⟩
def SEL_DPLLd_STAT_FSAT (n : Nat) : Fld := ⟨0x600438 + 0x80 * n, 27, 27⟩
def SEL_DPLLd_STAT_PSL_ACT (n : Nat) : Fld := ⟨0x600438 + 0x80 * n, 26, 26⟩
def SEL_DPLLd_STAT_IN_SPEC (n : Nat) : Fld := ⟨0x600438 + 0x80 * n, 25, 25⟩
def SEL_DPLLd_STAT_MODEL_VALID (n : Nat) : Fld := ⟨0x600438 + 0x80 * n, 24, 24⟩
def SEL_DPLLd_STAT_RESTORED (n : Nat) : Fld := ⟨0x600438 + 0x80 * n, 23, 23⟩
def SEL_DPLLd_STAT_SANITY_ACT (n : Nat) : Fld := ⟨0x600438 + 0x80 * n, 22, 22⟩
def SEL_DPLLd_STAT_SANITY_FAIL (n : Nat) : Fld := ⟨0x600438 + 0x80 * n, 21, 21⟩
def SEL_DPLLd_STAT_SLEWING (n : Nat) : Fld := ⟨0x600438 + 0x80 * n, 20, 20⟩
def SEL_DPLLd_STAT_TERMS (n : Nat) : Fld := ⟨0x600438 + 0x80 * n, 19, 16⟩
def SEL_DPLLd_STAT_LOCKCNT (n : Nat) : Fld := ⟨0x600438 + 0x80 * n, 15, 0⟩
def SEL_DPLLd_EVT_SANITY (n : Nat) : Fld := ⟨0x60043C + 0x80 * n, 6, 6⟩
def SEL_DPLLd_EVT_SPEC_LOST (n : Nat) : Fld := ⟨0x60043C + 0x80 * n, 5, 5⟩
def SEL_DPLLd_EVT_FSAT (n : Nat) : Fld := ⟨0x60043C + 0x80 * n, 4, 4⟩
def SEL_DPLLd_EVT_HOLDOVER (n : Nat) : Fld := ⟨0x60043C + 0x80 * n, 3, 3⟩
def SEL_DPLLd_EVT_UNLOCK (n : Nat) : Fld := ⟨0x60043C + 0x80 * n, 2, 2⟩
def SEL_DPLLd_EVT_LOCK (n : Nat) : Fld := ⟨0x60043C + 0x80 * n, 1, 1⟩
def SEL_DPLLd_EVT_STEP_DONE (n : Nat) : Fld := ⟨0x60043C + 0x80 * n, 0, 0⟩
def SEL_DPLLd_EVT_EN_EN (n : Nat) : Fld := ⟨0x600440 + 0x80 * n, 31, 0⟩
def SEL_DPLLd_FREQ_LO_W (n : Nat) : Fld := ⟨0x600444 + 0x80 * n, 31, 0⟩
def SEL_DPLLd_FREQ_HI_W (n : Nat) : Fld := ⟨0x600448 + 0x80 * n, 31, 0⟩
def SEL_DPLLd_PERR_E (n : Nat) : Fld := ⟨0x60044C + 0x80 * n, 31, 0⟩
def SEL_DPLLd_HOFREQ_LO_WH (n : Nat) : Fld := ⟨0x600450 + 0x80 * n, 31, 0⟩
def SEL_DPLLd_HOFREQ_HI_AVG_VALID (n : Nat) : Fld := ⟨0x600454 + 0x80 * n, 31, 31⟩
def SEL_DPLLd_HOFREQ_HI_WH (n : Nat) : Fld := ⟨0x600454 + 0x80 * n, 15, 0⟩
def SEL_DPLLd_HOTE_TE (n : Nat) : Fld := ⟨0x600458 + 0x80 * n, 31, 0⟩
def SEL_DPLLd_PEND_LO_PEND (n : Nat) : Fld := ⟨0x60045C + 0x80 * n, 31, 0⟩
def SEL_DPLLd_PEND_HI_PEND (n : Nat) : Fld := ⟨0x600460 + 0x80 * n, 31, 0⟩
def SEL_DPLLd_A0_LO_A0 (n : Nat) : Fld := ⟨0x600464 + 0x80 * n, 31, 0⟩
def SEL_DPLLd_A0_HI_A0 (n : Nat) : Fld := ⟨0x600468 + 0x80 * n, 31, 0⟩
def SEL_DPLLd_A1_A1 (n : Nat) : Fld := ⟨0x60046C + 0x80 * n, 31, 0⟩
def SEL_DPLLd_C1_C1 (n : Nat) : Fld := ⟨0x600470 + 0x80 * n, 31, 0⟩
def SEL_DPLLd_C2_C2 (n : Nat) : Fld := ⟨0x600474 + 0x80 * n, 31, 0⟩
def SEL_DPLLd_MSTAT_COUNT (n : Nat) : Fld := ⟨0x600478 + 0x80 * n, 31, 21⟩
def SEL_DPLLd_MSTAT_BUCKETS (n : Nat) : Fld := ⟨0x600478 + 0x80 * n, 20, 16⟩
def SEL_DPLLd_MSTAT_RES (n : Nat) : Fld := ⟨0x600478 + 0x80 * n, 15, 0⟩
def SEL_DPLLd_MREF_THETA_W (n : Nat) : Fld := ⟨0x60047C + 0x80 * n, 31, 16⟩
def SEL_DPLLd_MREF_AGE (n : Nat) : Fld := ⟨0x60047C + 0x80 * n, 15, 0⟩
def SEL_TEMP_VALID : Fld := ⟨0x600800, 31, 31⟩
def SEL_TEMP_T : Fld := ⟨0x600800, 17, 0⟩
def SEL_DPLL_IRQ_DPLL : Fld := ⟨0x600804, 7, 0⟩

/-! SYN -/

def SYN_SYNk_CFG_EN (n : Nat) : Fld := ⟨0x700000 + 0x40 * n, 31, 31⟩
def SYN_SYNk_CFG_AUTO_REALIGN (n : Nat) : Fld := ⟨0x700000 + 0x40 * n, 30, 30⟩
def SYN_SYNk_CFG_WRATE (n : Nat) : Fld := ⟨0x700000 + 0x40 * n, 15, 0⟩
def SYN_SYNk_MULT_REFMODE (n : Nat) : Fld := ⟨0x700004 + 0x40 * n, 31, 30⟩
def SYN_SYNk_MULT_MINT (n : Nat) : Fld := ⟨0x700004 + 0x40 * n, 10, 0⟩
def SYN_SYNk_MFRAC_LO_MFRAC (n : Nat) : Fld := ⟨0x700008 + 0x40 * n, 31, 0⟩
def SYN_SYNk_MFRAC_HI_MFRAC (n : Nat) : Fld := ⟨0x70000C + 0x40 * n, 7, 0⟩
def SYN_SYNk_FRAME_LO_FRAME (n : Nat) : Fld := ⟨0x700010 + 0x40 * n, 31, 0⟩
def SYN_SYNk_FRAME_HI_FRAME (n : Nat) : Fld := ⟨0x700014 + 0x40 * n, 7, 0⟩
def SYN_SYNk_GLIDE_GLIDE (n : Nat) : Fld := ⟨0x700018 + 0x40 * n, 15, 0⟩
def SYN_SYNk_CTL_RELOCK (n : Nat) : Fld := ⟨0x70001C + 0x40 * n, 1, 1⟩
def SYN_SYNk_CTL_REALIGN (n : Nat) : Fld := ⟨0x70001C + 0x40 * n, 0, 0⟩
def SYN_SYNk_STAT_STATE (n : Nat) : Fld := ⟨0x700020 + 0x40 * n, 31, 29⟩
def SYN_SYNk_STAT_BAND (n : Nat) : Fld := ⟨0x700020 + 0x40 * n, 28, 21⟩
def SYN_SYNk_STAT_PH_ALIGNED (n : Nat) : Fld := ⟨0x700020 + 0x40 * n, 20, 20⟩
def SYN_SYNk_STAT_CFG_ERR (n : Nat) : Fld := ⟨0x700020 + 0x40 * n, 19, 19⟩
def SYN_SYNk_STAT_WRATE_ACT (n : Nat) : Fld := ⟨0x700020 + 0x40 * n, 18, 18⟩
def SYN_SYNk_STAT_TDC_ERR (n : Nat) : Fld := ⟨0x700020 + 0x40 * n, 15, 0⟩
def SYN_SYNk_EVT_SEARCH_FAIL (n : Nat) : Fld := ⟨0x700024 + 0x40 * n, 5, 5⟩
def SYN_SYNk_EVT_FROZEN (n : Nat) : Fld := ⟨0x700024 + 0x40 * n, 4, 4⟩
def SYN_SYNk_EVT_LOCK (n : Nat) : Fld := ⟨0x700024 + 0x40 * n, 3, 3⟩
def SYN_SYNk_EVT_BAND_CHG (n : Nat) : Fld := ⟨0x700024 + 0x40 * n, 2, 2⟩
def SYN_SYNk_EVT_COMMIT_DONE (n : Nat) : Fld := ⟨0x700024 + 0x40 * n, 1, 1⟩
def SYN_SYNk_EVT_ALIGNED (n : Nat) : Fld := ⟨0x700024 + 0x40 * n, 0, 0⟩
def SYN_SYNk_EVT_EN_EN (n : Nat) : Fld := ⟨0x700028 + 0x40 * n, 31, 0⟩
def SYN_CORE_STAT_STATE : Fld := ⟨0x700100, 31, 29⟩
def SYN_CORE_STAT_BAND : Fld := ⟨0x700100, 28, 21⟩
def SYN_CORE_STAT_FREEZES : Fld := ⟨0x700100, 15, 0⟩
def SYN_COMMIT_OUT : Fld := ⟨0x700180, 31, 16⟩
def SYN_COMMIT_MULT : Fld := ⟨0x700180, 2, 2⟩
def SYN_COMMIT_SYN : Fld := ⟨0x700180, 1, 0⟩
def SYN_STAT_COMMIT_PEND : Fld := ⟨0x700184, 0, 0⟩
def SYN_TEST_GO : Fld := ⟨0x700188, 31, 31⟩
def SYN_TEST_SYN : Fld := ⟨0x700188, 1, 0⟩
def SYN_TESTRES_DONE : Fld := ⟨0x70018C, 31, 31⟩
def SYN_TESTRES_PASS : Fld := ⟨0x70018C, 30, 30⟩
def SYN_TESTRES_NFAIL : Fld := ⟨0x70018C, 23, 16⟩
def SYN_TESTRES_SPUR : Fld := ⟨0x70018C, 15, 0⟩
def SYN_IRQ_OUT : Fld := ⟨0x700190, 4, 4⟩
def SYN_IRQ_SYN : Fld := ⟨0x700190, 3, 0⟩
def SYN_OUTn_CFG_EN (n : Nat) : Fld := ⟨0x700400 + 0x20 * n, 31, 31⟩
def SYN_OUTn_CFG_SEL (n : Nat) : Fld := ⟨0x700400 + 0x20 * n, 30, 30⟩
def SYN_OUTn_CFG_STOP (n : Nat) : Fld := ⟨0x700400 + 0x20 * n, 29, 28⟩
def SYN_OUTn_CFG_LEG (n : Nat) : Fld := ⟨0x700400 + 0x20 * n, 27, 26⟩
def SYN_OUTn_CFG_BYP (n : Nat) : Fld := ⟨0x700400 + 0x20 * n, 25, 25⟩
def SYN_OUTn_DIV_DIV (n : Nat) : Fld := ⟨0x700404 + 0x20 * n, 31, 0⟩
def SYN_OUTn_DIVX_HALF (n : Nat) : Fld := ⟨0x700408 + 0x20 * n, 31, 31⟩
def SYN_OUTn_DIVX_PRE (n : Nat) : Fld := ⟨0x700408 + 0x20 * n, 29, 28⟩
def SYN_OUTn_DIVX_COARSE (n : Nat) : Fld := ⟨0x700408 + 0x20 * n, 3, 0⟩
def SYN_OUTn_COARSE_COARSE (n : Nat) : Fld := ⟨0x70040C + 0x20 * n, 31, 0⟩
def SYN_OUTn_FINE_FINE (n : Nat) : Fld := ⟨0x700410 + 0x20 * n, 9, 0⟩
def SYN_OUTn_FMAX_FMAX (n : Nat) : Fld := ⟨0x700414 + 0x20 * n, 31, 0⟩
def SYN_OUTn_STAT_STATE (n : Nat) : Fld := ⟨0x700418 + 0x20 * n, 31, 30⟩
def SYN_OUTn_STAT_SRC (n : Nat) : Fld := ⟨0x700418 + 0x20 * n, 29, 28⟩
def SYN_OUTn_STAT_ON_ALT (n : Nat) : Fld := ⟨0x700418 + 0x20 * n, 27, 27⟩
def SYN_OUTn_STAT_ALIGNED (n : Nat) : Fld := ⟨0x700418 + 0x20 * n, 26, 26⟩
def SYN_OUTn_STAT_CFG_ERR (n : Nat) : Fld := ⟨0x700418 + 0x20 * n, 25, 25⟩
def SYN_OUTn_STAT_ERR (n : Nat) : Fld := ⟨0x700418 + 0x20 * n, 24, 22⟩

/-! TKP -/

def TKP_CFG_JAM : Fld := ⟨0x800000, 31, 30⟩
def TKP_CFG_SEC_CONF : Fld := ⟨0x800000, 29, 26⟩
def TKP_CFG_JAM_THR : Fld := ⟨0x800000, 15, 0⟩
def TKP_STAT_TIME_SET : Fld := ⟨0x800004, 31, 31⟩
def TKP_STAT_TIME_SRC : Fld := ⟨0x800004, 30, 28⟩
def TKP_STAT_LEAP_PEND : Fld := ⟨0x800004, 27, 27⟩
def TKP_STAT_LEAP_DEL : Fld := ⟨0x800004, 26, 26⟩
def TKP_STAT_LEAP_SRC : Fld := ⟨0x800004, 25, 24⟩
def TKP_STAT_DST_ACT : Fld := ⟨0x800004, 23, 23⟩
def TKP_STAT_DAT_SRC : Fld := ⟨0x800004, 22, 21⟩
def TKP_STAT_SEC_DIS : Fld := ⟨0x800004, 20, 20⟩
def TKP_STAT_CIV_ERR : Fld := ⟨0x800004, 19, 19⟩
def TKP_STAT_DAT : Fld := ⟨0x800004, 15, 8⟩
def TKP_CTL_RTC_SYNC : Fld := ⟨0x800008, 4, 4⟩
def TKP_CTL_LEAP_CANCEL : Fld := ⟨0x800008, 3, 3⟩
def TKP_CTL_SET_SEC : Fld := ⟨0x800008, 2, 2⟩
def TKP_CTL_SET : Fld := ⟨0x800008, 1, 1⟩
def TKP_CTL_SNAP : Fld := ⟨0x800008, 0, 0⟩
def TKP_EVT_FLOCK : Fld := ⟨0x80000C, 5, 5⟩
def TKP_EVT_SECDIS : Fld := ⟨0x80000C, 4, 4⟩
def TKP_EVT_DST : Fld := ⟨0x80000C, 3, 3⟩
def TKP_EVT_LEAP : Fld := ⟨0x80000C, 2, 2⟩
def TKP_EVT_SET : Fld := ⟨0x80000C, 1, 1⟩
def TKP_EVT_PPS : Fld := ⟨0x80000C, 0, 0⟩
def TKP_EVT_EN_EN : Fld := ⟨0x800010, 31, 0⟩
def TKP_SNAP_FRAC_FRAC : Fld := ⟨0x800014, 15, 0⟩
def TKP_SNAP_NS_NS : Fld := ⟨0x800018, 29, 0⟩
def TKP_SNAP_SEC_LO_SEC : Fld := ⟨0x80001C, 31, 0⟩
def TKP_SNAP_SEC_HI_SEC : Fld := ⟨0x800020, 15, 0⟩
def TKP_SNAP_UTC_DATE_YEAR : Fld := ⟨0x800024, 31, 16⟩
def TKP_SNAP_UTC_DATE_MONTH : Fld := ⟨0x800024, 15, 8⟩
def TKP_SNAP_UTC_DATE_DAY : Fld := ⟨0x800024, 7, 0⟩
def TKP_SNAP_UTC_TIME_WDAY : Fld := ⟨0x800028, 31, 24⟩
def TKP_SNAP_UTC_TIME_HOUR : Fld := ⟨0x800028, 23, 16⟩
def TKP_SNAP_UTC_TIME_MIN : Fld := ⟨0x800028, 15, 8⟩
def TKP_SNAP_UTC_TIME_SEC : Fld := ⟨0x800028, 7, 0⟩
def TKP_SNAP_LOC_DATE_YEAR : Fld := ⟨0x80002C, 31, 16⟩
def TKP_SNAP_LOC_DATE_MONTH : Fld := ⟨0x80002C, 15, 8⟩
def TKP_SNAP_LOC_DATE_DAY : Fld := ⟨0x80002C, 7, 0⟩
def TKP_SNAP_LOC_TIME_WDAY : Fld := ⟨0x800030, 31, 24⟩
def TKP_SNAP_LOC_TIME_HOUR : Fld := ⟨0x800030, 23, 16⟩
def TKP_SNAP_LOC_TIME_MIN : Fld := ⟨0x800030, 15, 8⟩
def TKP_SNAP_LOC_TIME_SEC : Fld := ⟨0x800030, 7, 0⟩
def TKP_TSET_NS_NS : Fld := ⟨0x800034, 29, 0⟩
def TKP_TSET_SEC_LO_SEC : Fld := ⟨0x800038, 31, 0⟩
def TKP_TSET_SEC_HI_SEC : Fld := ⟨0x80003C, 15, 0⟩
def TKP_ADJ_LO_ADJ : Fld := ⟨0x800040, 31, 0⟩
def TKP_ADJ_HI_ADJ : Fld := ⟨0x800044, 15, 0⟩
def TKP_UTC_DAT_HOST : Fld := ⟨0x800048, 31, 24⟩
def TKP_UTC_HOST_LEAP : Fld := ⟨0x800048, 23, 23⟩
def TKP_UTC_HOST_DEL : Fld := ⟨0x800048, 22, 22⟩
def TKP_UTC_DAT_FORCE : Fld := ⟨0x800048, 21, 21⟩
def TKP_CIVIL_RULE : Fld := ⟨0x80004C, 31, 30⟩
def TKP_CIVIL_ZONE : Fld := ⟨0x80004C, 23, 16⟩
def TKP_CIVIL_DST_OFF : Fld := ⟨0x80004C, 11, 8⟩
def TKP_TODTXk_CFG_EN (n : Nat) : Fld := ⟨0x800050 + 0x4 * n, 31, 31⟩
def TKP_TODTXk_CFG_BAUD (n : Nat) : Fld := ⟨0x800050 + 0x4 * n, 30, 28⟩
def TKP_TODTXk_CFG_SENT (n : Nat) : Fld := ⟨0x800050 + 0x4 * n, 27, 26⟩
def TKP_TODTXk_CFG_START (n : Nat) : Fld := ⟨0x800050 + 0x4 * n, 25, 16⟩
def TKP_TODTXk_CFG_TALKER (n : Nat) : Fld := ⟨0x800050 + 0x4 * n, 15, 0⟩
def TKP_IRIGIN_CFG_EN : Fld := ⟨0x800058, 31, 31⟩
def TKP_IRIGIN_CFG_EXT : Fld := ⟨0x800058, 30, 30⟩
def TKP_IRIGIN_CFG_PAR : Fld := ⟨0x800058, 29, 29⟩
def TKP_IRIGIN_CFG_SCALE : Fld := ⟨0x800058, 28, 27⟩
def TKP_IRIGIN_CFG_LOCK_N : Fld := ⟨0x800058, 26, 24⟩
def TKP_IRIGIN_CFG_YEAR : Fld := ⟨0x800058, 15, 0⟩
def TKP_IRIGIN_STAT_FLOCK : Fld := ⟨0x80005C, 31, 31⟩
def TKP_IRIGIN_STAT_CODE : Fld := ⟨0x80005C, 30, 28⟩
def TKP_IRIGIN_STAT_TQ : Fld := ⟨0x80005C, 27, 24⟩
def TKP_IRIGIN_STAT_LSP : Fld := ⟨0x80005C, 23, 23⟩
def TKP_IRIGIN_STAT_LS : Fld := ⟨0x80005C, 22, 22⟩
def TKP_IRIGIN_STAT_DSP : Fld := ⟨0x80005C, 21, 21⟩
def TKP_IRIGIN_STAT_DST : Fld := ⟨0x80005C, 20, 20⟩
def TKP_IRIGIN_STAT_ERRCNT : Fld := ⟨0x80005C, 15, 8⟩
def TKP_IRIGOUT_CFG_EN : Fld := ⟨0x800060, 31, 31⟩
def TKP_IRIGOUT_CFG_CODE : Fld := ⟨0x800060, 30, 28⟩
def TKP_IRIGOUT_CFG_SCALE : Fld := ⟨0x800060, 27, 26⟩
def TKP_IRIGOUT_CFG_EXT : Fld := ⟨0x800060, 25, 25⟩
def TKP_RTC_CTL_PENDING : Fld := ⟨0x800080, 31, 31⟩
def TKP_RTC_CTL_DISC : Fld := ⟨0x800080, 30, 30⟩
def TKP_RTC_CTL_DAT : Fld := ⟨0x800080, 23, 16⟩
def TKP_RTC_CTL_TRIM : Fld := ⟨0x800080, 15, 0⟩
def TKP_RTC_STAT_SET : Fld := ⟨0x800084, 31, 31⟩
def TKP_RTC_STAT_RUN : Fld := ⟨0x800084, 30, 30⟩
def TKP_RTC_STAT_OSC_FAIL : Fld := ⟨0x800084, 29, 29⟩
def TKP_RTC_STAT_VBAT_LOW : Fld := ⟨0x800084, 28, 28⟩
def TKP_RTC_STAT_DSYNC : Fld := ⟨0x800084, 27, 27⟩
def TKP_RTC_SEC_LO_SECONDS : Fld := ⟨0x800088, 31, 0⟩
def TKP_RTC_SEC_HI_SECONDS : Fld := ⟨0x80008C, 31, 16⟩
def TKP_RTC_SEC_HI_SUBSEC : Fld := ⟨0x80008C, 14, 0⟩
def TKP_DSTk_T_T (n : Nat) : Fld := ⟨0x800100 + 0x8 * n, 31, 0⟩
def TKP_DSTk_O_VALID (n : Nat) : Fld := ⟨0x800104 + 0x8 * n, 31, 31⟩
def TKP_DSTk_O_DST (n : Nat) : Fld := ⟨0x800104 + 0x8 * n, 30, 30⟩
def TKP_DSTk_O_OFFSET (n : Nat) : Fld := ⟨0x800104 + 0x8 * n, 15, 0⟩

/-! MNS -/

def MNS_CHn_CFG_EN (n : Nat) : Fld := ⟨0x900000 + 0x20 * n, 31, 31⟩
def MNS_CHn_CFG_INV (n : Nat) : Fld := ⟨0x900000 + 0x20 * n, 30, 30⟩
def MNS_CHn_CFG_WCYC (n : Nat) : Fld := ⟨0x900000 + 0x20 * n, 29, 28⟩
def MNS_CHn_CFG_FWIN (n : Nat) : Fld := ⟨0x900000 + 0x20 * n, 27, 22⟩
def MNS_CHn_CFG_VALID_N (n : Nat) : Fld := ⟨0x900000 + 0x20 * n, 21, 16⟩
def MNS_CHn_CFG_DROP_MAX (n : Nat) : Fld := ⟨0x900000 + 0x20 * n, 15, 8⟩
def MNS_CHn_CFG_PJUMP (n : Nat) : Fld := ⟨0x900000 + 0x20 * n, 7, 0⟩
def MNS_CHn_LIM_AMIN (n : Nat) : Fld := ⟨0x900004 + 0x20 * n, 31, 16⟩
def MNS_CHn_LIM_ADROP (n : Nat) : Fld := ⟨0x900004 + 0x20 * n, 15, 0⟩
def MNS_CHn_PHCAL_PHCAL (n : Nat) : Fld := ⟨0x900008 + 0x20 * n, 31, 0⟩
def MNS_CHn_STAT_STATE (n : Nat) : Fld := ⟨0x90000C + 0x20 * n, 31, 29⟩
def MNS_CHn_STAT_VALID (n : Nat) : Fld := ⟨0x90000C + 0x20 * n, 28, 28⟩
def MNS_CHn_STAT_CLIP (n : Nat) : Fld := ⟨0x90000C + 0x20 * n, 27, 27⟩
def MNS_CHn_STAT_DISTORTED (n : Nat) : Fld := ⟨0x90000C + 0x20 * n, 26, 26⟩
def MNS_CHn_STAT_CFG_ERR (n : Nat) : Fld := ⟨0x90000C + 0x20 * n, 25, 25⟩
def MNS_CHn_PHASE_PHASE (n : Nat) : Fld := ⟨0x900010 + 0x20 * n, 31, 0⟩
def MNS_CHn_FREQ_FREQ (n : Nat) : Fld := ⟨0x900014 + 0x20 * n, 31, 0⟩
def MNS_CHn_AMP_AMP (n : Nat) : Fld := ⟨0x900018 + 0x20 * n, 31, 16⟩
def MNS_CHn_AMP_DIST (n : Nat) : Fld := ⟨0x900018 + 0x20 * n, 15, 0⟩
def MNS_CHn_DFDT_DFDT (n : Nat) : Fld := ⟨0x90001C + 0x20 * n, 31, 0⟩
def MNS_GCFG_GRID_F : Fld := ⟨0x900100, 31, 31⟩
def MNS_GCFG_SEQ0_EN : Fld := ⟨0x900100, 30, 30⟩
def MNS_GCFG_SEQ1_EN : Fld := ⟨0x900100, 29, 29⟩
def MNS_GCFG_SEQ_TOL : Fld := ⟨0x900100, 23, 16⟩
def MNS_GCFG_DIST_THR : Fld := ⟨0x900100, 15, 0⟩
def MNS_SEQSTAT_G0 : Fld := ⟨0x900104, 31, 30⟩
def MNS_SEQSTAT_G1 : Fld := ⟨0x900104, 29, 28⟩
def MNS_GT_CFG_EN : Fld := ⟨0x900108, 31, 31⟩
def MNS_GT_CFG_ALT_EN : Fld := ⟨0x900108, 30, 30⟩
def MNS_GT_CFG_GT_CH : Fld := ⟨0x900108, 26, 24⟩
def MNS_GT_CFG_GT_ALT : Fld := ⟨0x900108, 22, 20⟩
def MNS_GT_STAT_VALID : Fld := ⟨0x90010C, 31, 31⟩
def MNS_GT_STAT_EXTRAP : Fld := ⟨0x90010C, 30, 30⟩
def MNS_GT_STAT_AMBIG : Fld := ⟨0x90010C, 29, 29⟩
def MNS_GT_STAT_RESTORED : Fld := ⟨0x90010C, 28, 28⟩
def MNS_GT_STAT_CFG_ERR : Fld := ⟨0x90010C, 27, 27⟩
def MNS_GT_STAT_D_VALID : Fld := ⟨0x90010C, 26, 26⟩
def MNS_GT_STAT_SRC : Fld := ⟨0x90010C, 23, 21⟩
def MNS_GT_CNT_LO_N : Fld := ⟨0x900110, 31, 0⟩
def MNS_GT_CNT_HI_N : Fld := ⟨0x900114, 31, 0⟩
def MNS_GT_PHASE_PHASE : Fld := ⟨0x900118, 31, 0⟩
def MNS_GT_DEV_DEV : Fld := ⟨0x90011C, 31, 0⟩
def MNS_GT_STEP_STEP : Fld := ⟨0x900120, 31, 0⟩
def MNS_CTL_GT_ALIGN : Fld := ⟨0x900124, 3, 3⟩
def MNS_CTL_FLUSH_ZQ : Fld := ⟨0x900124, 2, 2⟩
def MNS_CTL_POP_ZQ : Fld := ⟨0x900124, 1, 1⟩
def MNS_CTL_SNAP : Fld := ⟨0x900124, 0, 0⟩
def MNS_EVT_PJUMP : Fld := ⟨0x900128, 21, 16⟩
def MNS_EVT_VALID_CHG : Fld := ⟨0x900128, 13, 8⟩
def MNS_EVT_GT_SRC : Fld := ⟨0x900128, 5, 5⟩
def MNS_EVT_GT_ALIGN : Fld := ⟨0x900128, 4, 4⟩
def MNS_EVT_SEQ : Fld := ⟨0x900128, 3, 3⟩
def MNS_EVT_ZQT : Fld := ⟨0x900128, 2, 2⟩
def MNS_EVT_EN_EN : Fld := ⟨0x90012C, 31, 0⟩
def MNS_SNAP_NS_NS : Fld := ⟨0x900130, 29, 0⟩
def MNS_SNAP_SEC_LO_SEC : Fld := ⟨0x900134, 31, 0⟩
def MNS_SNAP_SEC_HI_SEC : Fld := ⟨0x900138, 31, 0⟩
def MNS_ZQCFG_NEG_EN : Fld := ⟨0x90013C, 29, 24⟩
def MNS_ZQCFG_POS_EN : Fld := ⟨0x90013C, 21, 16⟩
def MNS_ZQCFG_QTHR : Fld := ⟨0x90013C, 8, 0⟩
def MNS_ZQSTAT_LOST : Fld := ⟨0x900140, 31, 16⟩
def MNS_ZQSTAT_OVF : Fld := ⟨0x900140, 13, 13⟩
def MNS_ZQSTAT_LEVEL : Fld := ⟨0x900140, 8, 0⟩
def MNS_ZQ_HEAD (n : Nat) : Fld := ⟨0x900144 + 0x4 * n, 31, 0⟩
def MNS_TEST_GO : Fld := ⟨0x900154, 31, 31⟩
def MNS_TEST_CH : Fld := ⟨0x900154, 2, 0⟩
def MNS_TESTRES_DONE : Fld := ⟨0x900158, 31, 31⟩
def MNS_TESTRES_PASS : Fld := ⟨0x900158, 30, 30⟩
def MNS_TESTRES_MEAN : Fld := ⟨0x900158, 23, 0⟩

/-! AST -/

def AST_LAT_LAT : Fld := ⟨0xA00000, 31, 0⟩
def AST_LON_LON : Fld := ⟨0xA00004, 31, 0⟩
def AST_ALT_ALT : Fld := ⟨0xA00008, 31, 16⟩
def AST_ALT_DIP : Fld := ⟨0xA00008, 15, 15⟩
def AST_CFG_EN : Fld := ⟨0xA0000C, 31, 31⟩
def AST_CFG_DUT1 : Fld := ⟨0xA0000C, 23, 16⟩
def AST_THRk_EN (n : Nat) : Fld := ⟨0xA00010 + 0x4 * n, 31, 31⟩
def AST_THRk_ELEV (n : Nat) : Fld := ⟨0xA00010 + 0x4 * n, 15, 0⟩
def AST_CTL_RECALC : Fld := ⟨0xA00020, 0, 0⟩
def AST_STAT_STATE : Fld := ⟨0xA00024, 31, 29⟩
def AST_STAT_CFG_ERR : Fld := ⟨0xA00024, 28, 28⟩
def AST_STAT_RANGE : Fld := ⟨0xA00024, 27, 27⟩
def AST_STAT_GEN : Fld := ⟨0xA00024, 23, 16⟩
def AST_EVT_HALT : Fld := ⟨0xA00028, 2, 2⟩
def AST_EVT_ROLL : Fld := ⟨0xA00028, 1, 1⟩
def AST_EVT_DONE : Fld := ⟨0xA00028, 0, 0⟩
def AST_EVT_EN_EN : Fld := ⟨0xA0002C, 31, 0⟩
def AST_TEST_GO : Fld := ⟨0xA00030, 31, 31⟩
def AST_TESTRES_DONE : Fld := ⟨0xA00034, 31, 31⟩
def AST_TESTRES_PASS : Fld := ⟨0xA00034, 30, 30⟩
def AST_TESTRES_FIRST : Fld := ⟨0xA00034, 4, 0⟩
def AST_DAYd_EVe_LO_SEC (n j : Nat) : Fld := ⟨0xA00100 + 0x100 * n + 8 * j, 31, 0⟩
def AST_DAYd_EVe_HI_VALID (n j : Nat) : Fld := ⟨0xA00104 + 0x100 * n + 8 * j, 31, 31⟩
def AST_DAYd_EVe_HI_NOEVT (n j : Nat) : Fld := ⟨0xA00104 + 0x100 * n + 8 * j, 30, 29⟩
def AST_DAYd_EVe_HI_GRAZE (n j : Nat) : Fld := ⟨0xA00104 + 0x100 * n + 8 * j, 28, 28⟩
def AST_DAYd_EVe_HI_MS (n j : Nat) : Fld := ⟨0xA00104 + 0x100 * n + 8 * j, 25, 16⟩
def AST_DAYd_EVe_HI_SEC (n j : Nat) : Fld := ⟨0xA00104 + 0x100 * n + 8 * j, 15, 0⟩
def AST_DAYd_DATE_YEAR (n : Nat) : Fld := ⟨0xA00188 + 0x100 * n, 31, 16⟩
def AST_DAYd_DATE_MONTH (n : Nat) : Fld := ⟨0xA00188 + 0x100 * n, 15, 8⟩
def AST_DAYd_DATE_DAY (n : Nat) : Fld := ⟨0xA00188 + 0x100 * n, 7, 0⟩
def AST_DAYd_NOONEL_ELEV (n : Nat) : Fld := ⟨0xA0018C + 0x100 * n, 15, 0⟩

/-! SCH -/

def SCH_CFG_EN : Fld := ⟨0xB00000, 31, 31⟩
def SCH_CFG_RESTORE : Fld := ⟨0xB00000, 30, 30⟩
def SCH_CFG_RWIN : Fld := ⟨0xB00000, 23, 16⟩
def SCH_CFG_RLEAD : Fld := ⟨0xB00000, 15, 0⟩
def SCH_STAT_STATE : Fld := ⟨0xB00004, 31, 29⟩
def SCH_STAT_ENT_BUSY : Fld := ⟨0xB00004, 28, 28⟩
def SCH_STAT_ENT_ERR : Fld := ⟨0xB00004, 27, 24⟩
def SCH_STAT_NVALID : Fld := ⟨0xB00004, 12, 0⟩
def SCH_EVT_RC_DONE : Fld := ⟨0xB00008, 15, 8⟩
def SCH_EVT_FB_FAIL : Fld := ⟨0xB00008, 3, 3⟩
def SCH_EVT_RECOV : Fld := ⟨0xB00008, 2, 2⟩
def SCH_EVT_OQT : Fld := ⟨0xB00008, 1, 1⟩
def SCH_EVT_ENT_DONE : Fld := ⟨0xB00008, 0, 0⟩
def SCH_EVT_EN_EN : Fld := ⟨0xB0000C, 31, 0⟩
def SCH_ENT_IDX_IDX : Fld := ⟨0xB00010, 11, 0⟩
def SCH_ENT_CTL_READ : Fld := ⟨0xB00014, 1, 1⟩
def SCH_ENT_CTL_WRITE : Fld := ⟨0xB00014, 0, 0⟩
def SCH_ENT_D_D (n : Nat) : Fld := ⟨0xB00018 + 0x4 * n, 31, 0⟩
def SCH_CMD_ACT : Fld := ⟨0xB00030, 18, 16⟩
def SCH_CMD_TARGET : Fld := ⟨0xB00030, 15, 0⟩
def SCH_OQSTAT_LOST : Fld := ⟨0xB00040, 31, 16⟩
def SCH_OQSTAT_OVF : Fld := ⟨0xB00040, 13, 13⟩
def SCH_OQSTAT_LEVEL : Fld := ⟨0xB00040, 8, 0⟩
def SCH_OQCTL_POP : Fld := ⟨0xB00044, 31, 31⟩
def SCH_OQCTL_FLUSH : Fld := ⟨0xB00044, 30, 30⟩
def SCH_OQCTL_QTHR : Fld := ⟨0xB00044, 8, 0⟩
def SCH_OQ_HEAD (n : Nat) : Fld := ⟨0xB00060 + 0x4 * n, 31, 0⟩
def SCH_CHn_CFG_EN (n : Nat) : Fld := ⟨0xB00100 + 0x10 * n, 31, 31⟩
def SCH_CHn_CFG_FORM (n : Nat) : Fld := ⟨0xB00100 + 0x10 * n, 30, 29⟩
def SCH_CHn_CFG_POL (n : Nat) : Fld := ⟨0xB00100 + 0x10 * n, 28, 28⟩
def SCH_CHn_CFG_FBEN (n : Nat) : Fld := ⟨0xB00100 + 0x10 * n, 27, 27⟩
def SCH_CHn_CFG_FBPOL (n : Nat) : Fld := ⟨0xB00100 + 0x10 * n, 26, 26⟩
def SCH_CHn_CFG_PWIDTH (n : Nat) : Fld := ⟨0xB00100 + 0x10 * n, 23, 16⟩
def SCH_CHn_CFG_FB_WIN (n : Nat) : Fld := ⟨0xB00100 + 0x10 * n, 15, 0⟩
def SCH_CHn_STAT_STATE (n : Nat) : Fld := ⟨0xB00104 + 0x10 * n, 31, 31⟩
def SCH_CHn_STAT_DRIVE (n : Nat) : Fld := ⟨0xB00104 + 0x10 * n, 30, 30⟩
def SCH_CHn_STAT_FB (n : Nat) : Fld := ⟨0xB00104 + 0x10 * n, 29, 29⟩
def SCH_CHn_STAT_BUSY (n : Nat) : Fld := ⟨0xB00104 + 0x10 * n, 28, 28⟩
def SCH_CHn_STAT_FAILST (n : Nat) : Fld := ⟨0xB00104 + 0x10 * n, 27, 26⟩
def SCH_CHn_STAT_IN_FAIL (n : Nat) : Fld := ⟨0xB00104 + 0x10 * n, 25, 25⟩
def SCH_CHn_STAT_CFG_ERR (n : Nat) : Fld := ⟨0xB00104 + 0x10 * n, 24, 24⟩
def SCH_CHn_STAT_NEXT_V (n : Nat) : Fld := ⟨0xB00104 + 0x10 * n, 12, 12⟩
def SCH_CHn_STAT_NEXT (n : Nat) : Fld := ⟨0xB00104 + 0x10 * n, 11, 0⟩
def SCH_CHn_OPS_OPS (n : Nat) : Fld := ⟨0xB00108 + 0x10 * n, 31, 0⟩
def SCH_CHn_ONTIME_SECS (n : Nat) : Fld := ⟨0xB0010C + 0x10 * n, 31, 0⟩
def SCH_HOLh_VALID (n : Nat) : Fld := ⟨0xB00400 + 0x4 * n, 31, 31⟩
def SCH_HOLh_YEAR (n : Nat) : Fld := ⟨0xB00400 + 0x4 * n, 30, 24⟩
def SCH_HOLh_MONTH (n : Nat) : Fld := ⟨0xB00400 + 0x4 * n, 23, 20⟩
def SCH_HOLh_DAY (n : Nat) : Fld := ⟨0xB00400 + 0x4 * n, 19, 15⟩
def SCH_HOLh_CLASS (n : Nat) : Fld := ⟨0xB00400 + 0x4 * n, 7, 0⟩
def SCH_GRPg_MEM_START (n : Nat) : Fld := ⟨0xB00500 + 0x8 * n, 24, 16⟩
def SCH_GRPg_MEM_COUNT (n : Nat) : Fld := ⟨0xB00500 + 0x8 * n, 9, 0⟩
def SCH_GRPg_TIM_ALEAD (n : Nat) : Fld := ⟨0xB00504 + 0x8 * n, 31, 16⟩
def SCH_GRPg_TIM_DL (n : Nat) : Fld := ⟨0xB00504 + 0x8 * n, 15, 0⟩
def SCH_MEM_IDX_IDX : Fld := ⟨0xB00700, 8, 0⟩
def SCH_MEM_DATA_CODE : Fld := ⟨0xB00704, 15, 0⟩
def SCH_RCk_CTL_ISSUE (n : Nat) : Fld := ⟨0xB00780 + 0x20 * n, 31, 31⟩
def SCH_RCk_CTL_ABORT (n : Nat) : Fld := ⟨0xB00780 + 0x20 * n, 30, 30⟩
def SCH_RCk_CTL_PLAIN (n : Nat) : Fld := ⟨0xB00780 + 0x20 * n, 29, 29⟩
def SCH_RCk_CTL_NOW (n : Nat) : Fld := ⟨0xB00780 + 0x20 * n, 28, 28⟩
def SCH_RCk_CTL_GROUP (n : Nat) : Fld := ⟨0xB00780 + 0x20 * n, 21, 16⟩
def SCH_RCk_CTL_ACT (n : Nat) : Fld := ⟨0xB00780 + 0x20 * n, 14, 12⟩
def SCH_RCk_TF_LO_SEC (n : Nat) : Fld := ⟨0xB00784 + 0x20 * n, 31, 0⟩
def SCH_RCk_TF_HI_SEC (n : Nat) : Fld := ⟨0xB00788 + 0x20 * n, 31, 30⟩
def SCH_RCk_TF_HI_NS (n : Nat) : Fld := ⟨0xB00788 + 0x20 * n, 29, 0⟩
def SCH_RCk_STAT_PHASE (n : Nat) : Fld := ⟨0xB0078C + 0x20 * n, 31, 28⟩
def SCH_RCk_STAT_DECISION (n : Nat) : Fld := ⟨0xB0078C + 0x20 * n, 27, 26⟩
def SCH_RCk_STAT_ABORT_LATE (n : Nat) : Fld := ⟨0xB0078C + 0x20 * n, 25, 25⟩
def SCH_RCk_STAT_ARMED (n : Nat) : Fld := ⟨0xB0078C + 0x20 * n, 23, 12⟩
def SCH_RCk_STAT_TARGETS (n : Nat) : Fld := ⟨0xB0078C + 0x20 * n, 11, 0⟩
def SCH_RCk_RES_FIRED (n : Nat) : Fld := ⟨0xB00790 + 0x20 * n, 29, 20⟩
def SCH_RCk_RES_NOTFIRED (n : Nat) : Fld := ⟨0xB00790 + 0x20 * n, 19, 10⟩
def SCH_RCk_RES_PENDING (n : Nat) : Fld := ⟨0xB00790 + 0x20 * n, 9, 0⟩
def SCH_TEST_GO : Fld := ⟨0xB00900, 31, 31⟩
def SCH_TEST_DELAY : Fld := ⟨0xB00900, 15, 0⟩
def SCH_TESTRES_DONE : Fld := ⟨0xB00904, 31, 31⟩
def SCH_TESTRES_ERR : Fld := ⟨0xB00904, 15, 0⟩

end Sys2Proof.Reg
end

