-- ==== Sys2Proof/Machine/RegsC.lean ====
section
/-! DEFINITION. The register FIELDS of blocks PTP, CRL, NVM, SEC, one name per field, with the address and the bits that the
register tables of spec/ give it (BLOCK_REGISTER_FIELD; n is the index of a register bank, j the word of a
register that spans several). -/

namespace Sys2Proof.Reg
open Sys2Proof.Machine

/-! PTP -/

def PTP_CLK_CFG_PROFILE : Fld := ⟨0xC00000, 31, 29⟩
def PTP_CLK_CFG_ATOI : Fld := ⟨0xC00000, 28, 28⟩
def PTP_CLK_CFG_DEGRADE : Fld := ⟨0xC00000, 27, 27⟩
def PTP_CLK_CFG_AUTH_TX : Fld := ⟨0xC00000, 26, 26⟩
def PTP_CLK_CFG_DOMAIN : Fld := ⟨0xC00000, 23, 16⟩
def PTP_CLK_CFG_PRIORITY1 : Fld := ⟨0xC00000, 15, 8⟩
def PTP_CLK_CFG_PRIORITY2 : Fld := ⟨0xC00000, 7, 0⟩
def PTP_CLK_ID_LO_ID : Fld := ⟨0xC00004, 31, 0⟩
def PTP_CLK_ID_HI_ID : Fld := ⟨0xC00008, 31, 0⟩
def PTP_CLK_Q_CLASS_OVR_EN : Fld := ⟨0xC0000C, 31, 31⟩
def PTP_CLK_Q_CLASS_OVR : Fld := ⟨0xC0000C, 23, 16⟩
def PTP_CLK_Q_VARIANCE : Fld := ⟨0xC0000C, 15, 0⟩
def PTP_CLK_STAT_CLASS : Fld := ⟨0xC00010, 31, 24⟩
def PTP_CLK_STAT_ACCURACY : Fld := ⟨0xC00010, 23, 16⟩
def PTP_CLK_STAT_GM : Fld := ⟨0xC00010, 15, 15⟩
def PTP_CLK_STAT_BCTYPE : Fld := ⟨0xC00010, 14, 14⟩
def PTP_CLK_STAT_SLAVE_PORT : Fld := ⟨0xC00010, 13, 11⟩
def PTP_CLK_STAT_CFG_ERR : Fld := ⟨0xC00010, 10, 10⟩
def PTP_CLK_STAT_TIME_SOURCE : Fld := ⟨0xC00010, 7, 0⟩
def PTP_PARENT_LO_ID : Fld := ⟨0xC00014, 31, 0⟩
def PTP_PARENT_HI_ID : Fld := ⟨0xC00018, 31, 0⟩
def PTP_PARENT_PORT_STEPS : Fld := ⟨0xC0001C, 31, 16⟩
def PTP_PARENT_PORT_PORT : Fld := ⟨0xC0001C, 15, 0⟩
def PTP_GM_LO_ID : Fld := ⟨0xC00020, 31, 0⟩
def PTP_GM_HI_ID : Fld := ⟨0xC00024, 31, 0⟩
def PTP_GM_Q_CLASS : Fld := ⟨0xC00028, 31, 24⟩
def PTP_GM_Q_ACCURACY : Fld := ⟨0xC00028, 23, 16⟩
def PTP_GM_Q_VARIANCE : Fld := ⟨0xC00028, 15, 0⟩
def PTP_GM_PRI_PRIORITY1 : Fld := ⟨0xC0002C, 15, 8⟩
def PTP_GM_PRI_PRIORITY2 : Fld := ⟨0xC0002C, 7, 0⟩
def PTP_EVT_AUTH_FAIL : Fld := ⟨0xC00030, 5, 5⟩
def PTP_EVT_ESMC_CHG : Fld := ⟨0xC00030, 4, 4⟩
def PTP_EVT_CLASS_CHG : Fld := ⟨0xC00030, 3, 3⟩
def PTP_EVT_PARENT_CHG : Fld := ⟨0xC00030, 2, 2⟩
def PTP_EVT_PORT_STATE : Fld := ⟨0xC00030, 1, 1⟩
def PTP_EVT_LINK : Fld := ⟨0xC00030, 0, 0⟩
def PTP_EVT_EN_EN : Fld := ⟨0xC00034, 31, 0⟩
def PTP_TEST_GO : Fld := ⟨0xC00040, 31, 31⟩
def PTP_TEST_PORT : Fld := ⟨0xC00040, 2, 0⟩
def PTP_TESTRES_DONE : Fld := ⟨0xC00044, 31, 31⟩
def PTP_TESTRES_PASS : Fld := ⟨0xC00044, 30, 30⟩
def PTP_TESTRES_ERR : Fld := ⟨0xC00044, 15, 0⟩
def PTP_SW_CFG_MAXFRAME : Fld := ⟨0xC00100, 31, 16⟩
def PTP_SW_CFG_AGE : Fld := ⟨0xC00100, 15, 0⟩
def PTP_FDB_LO_MAC : Fld := ⟨0xC00104, 31, 0⟩
def PTP_FDB_HI_VID : Fld := ⟨0xC00108, 27, 16⟩
def PTP_FDB_HI_MAC : Fld := ⟨0xC00108, 15, 0⟩
def PTP_FDB_CTL_GO : Fld := ⟨0xC0010C, 31, 31⟩
def PTP_FDB_CTL_OP : Fld := ⟨0xC0010C, 30, 29⟩
def PTP_FDB_CTL_FOUND : Fld := ⟨0xC0010C, 28, 28⟩
def PTP_FDB_CTL_FULL : Fld := ⟨0xC0010C, 27, 27⟩
def PTP_FDB_CTL_STATIC : Fld := ⟨0xC0010C, 26, 26⟩
def PTP_FDB_CTL_PORTS : Fld := ⟨0xC0010C, 5, 0⟩
def PTP_VLAN_IDX_VID : Fld := ⟨0xC00110, 11, 0⟩
def PTP_VLAN_DATA_UNTAG : Fld := ⟨0xC00114, 13, 8⟩
def PTP_VLAN_DATA_MEMBER : Fld := ⟨0xC00114, 5, 0⟩
def PTP_PCP_MAP_MAP : Fld := ⟨0xC00118, 23, 0⟩
def PTP_SAi_CFG_VALID (n : Nat) : Fld := ⟨0xC00200 + 0x8 * n, 31, 31⟩
def PTP_SAi_CFG_TX (n : Nat) : Fld := ⟨0xC00200 + 0x8 * n, 30, 30⟩
def PTP_SAi_CFG_SLOT (n : Nat) : Fld := ⟨0xC00200 + 0x8 * n, 28, 24⟩
def PTP_SAi_CFG_SPP (n : Nat) : Fld := ⟨0xC00200 + 0x8 * n, 23, 16⟩
def PTP_SAi_CFG_DOMAIN (n : Nat) : Fld := ⟨0xC00200 + 0x8 * n, 15, 8⟩
def PTP_SAi_CFG_CFG_ERR (n : Nat) : Fld := ⟨0xC00200 + 0x8 * n, 0, 0⟩
def PTP_SAi_KEYID_KEYID (n : Nat) : Fld := ⟨0xC00204 + 0x8 * n, 31, 0⟩
def PTP_Pp_CFG_EN (n : Nat) : Fld := ⟨0xC00400 + 0x80 * n, 31, 31⟩
def PTP_Pp_CFG_SERDES (n : Nat) : Fld := ⟨0xC00400 + 0x80 * n, 30, 29⟩
def PTP_Pp_CFG_AN (n : Nat) : Fld := ⟨0xC00400 + 0x80 * n, 28, 28⟩
def PTP_Pp_CFG_PTP_EN (n : Nat) : Fld := ⟨0xC00400 + 0x80 * n, 27, 27⟩
def PTP_Pp_CFG_TRANSPORT (n : Nat) : Fld := ⟨0xC00400 + 0x80 * n, 26, 25⟩
def PTP_Pp_CFG_STEP (n : Nat) : Fld := ⟨0xC00400 + 0x80 * n, 24, 24⟩
def PTP_Pp_CFG_NFWD (n : Nat) : Fld := ⟨0xC00400 + 0x80 * n, 23, 23⟩
def PTP_Pp_CFG_TAG (n : Nat) : Fld := ⟨0xC00400 + 0x80 * n, 22, 22⟩
def PTP_Pp_CFG_PTP_Q7 (n : Nat) : Fld := ⟨0xC00400 + 0x80 * n, 21, 21⟩
def PTP_Pp_CFG_PVID (n : Nat) : Fld := ⟨0xC00400 + 0x80 * n, 11, 0⟩
def PTP_Pp_STAT_LINK (n : Nat) : Fld := ⟨0xC00404 + 0x80 * n, 31, 31⟩
def PTP_Pp_STAT_SPEED (n : Nat) : Fld := ⟨0xC00404 + 0x80 * n, 30, 29⟩
def PTP_Pp_STAT_CDR_LOCK (n : Nat) : Fld := ⟨0xC00404 + 0x80 * n, 28, 28⟩
def PTP_Pp_STAT_CFG_ERR (n : Nat) : Fld := ⟨0xC00404 + 0x80 * n, 27, 27⟩
def PTP_Pp_STAT_ERR (n : Nat) : Fld := ⟨0xC00404 + 0x80 * n, 26, 24⟩
def PTP_Pp_STAT_STATE (n : Nat) : Fld := ⟨0xC00404 + 0x80 * n, 23, 20⟩
def PTP_Pp_STAT_MPD_VALID (n : Nat) : Fld := ⟨0xC00404 + 0x80 * n, 19, 19⟩
def PTP_Pp_STAT_NRR_VALID (n : Nat) : Fld := ⟨0xC00404 + 0x80 * n, 18, 18⟩
def PTP_Pp_INTV_LOG_SYNC (n : Nat) : Fld := ⟨0xC00408 + 0x80 * n, 31, 24⟩
def PTP_Pp_INTV_LOG_ANN (n : Nat) : Fld := ⟨0xC00408 + 0x80 * n, 23, 16⟩
def PTP_Pp_INTV_LOG_DREQ (n : Nat) : Fld := ⟨0xC00408 + 0x80 * n, 15, 8⟩
def PTP_Pp_INTV_ANN_TO (n : Nat) : Fld := ⟨0xC00408 + 0x80 * n, 7, 0⟩
def PTP_Pp_TXLAT_LAT (n : Nat) : Fld := ⟨0xC0040C + 0x80 * n, 31, 0⟩
def PTP_Pp_RXLAT_LAT (n : Nat) : Fld := ⟨0xC00410 + 0x80 * n, 31, 0⟩
def PTP_Pp_ASYM_A (n : Nat) : Fld := ⟨0xC00414 + 0x80 * n, 31, 0⟩
def PTP_Pp_FILT_FMODE (n : Nat) : Fld := ⟨0xC00418 + 0x80 * n, 31, 30⟩
def PTP_Pp_FILT_FN (n : Nat) : Fld := ⟨0xC00418 + 0x80 * n, 27, 24⟩
def PTP_Pp_FILT_DLY_FILT (n : Nat) : Fld := ⟨0xC00418 + 0x80 * n, 19, 16⟩
def PTP_Pp_FILT_DLY_REJ (n : Nat) : Fld := ⟨0xC00418 + 0x80 * n, 15, 0⟩
def PTP_Pp_LPRIO_MASTER_ONLY (n : Nat) : Fld := ⟨0xC0041C + 0x80 * n, 8, 8⟩
def PTP_Pp_LPRIO_LOCAL_PRIO (n : Nat) : Fld := ⟨0xC0041C + 0x80 * n, 7, 0⟩
def PTP_Pp_MPD_LO_D (n : Nat) : Fld := ⟨0xC00420 + 0x80 * n, 31, 0⟩
def PTP_Pp_MPD_HI_D (n : Nat) : Fld := ⟨0xC00424 + 0x80 * n, 31, 0⟩
def PTP_Pp_OFM_LO_O (n : Nat) : Fld := ⟨0xC00428 + 0x80 * n, 31, 0⟩
def PTP_Pp_OFM_HI_O (n : Nat) : Fld := ⟨0xC0042C + 0x80 * n, 31, 0⟩
def PTP_Pp_NRR_LO_R (n : Nat) : Fld := ⟨0xC00430 + 0x80 * n, 31, 0⟩
def PTP_Pp_NRR_HI_R (n : Nat) : Fld := ⟨0xC00434 + 0x80 * n, 31, 0⟩
def PTP_Pp_SE_CFG_SE_EN (n : Nat) : Fld := ⟨0xC00438 + 0x80 * n, 31, 31⟩
def PTP_Pp_SE_CFG_OPT (n : Nat) : Fld := ⟨0xC00438 + 0x80 * n, 30, 30⟩
def PTP_Pp_SE_CFG_EXT (n : Nat) : Fld := ⟨0xC00438 + 0x80 * n, 29, 29⟩
def PTP_Pp_SE_CFG_ESMC_TX (n : Nat) : Fld := ⟨0xC00438 + 0x80 * n, 28, 28⟩
def PTP_Pp_SE_CFG_QL_HO (n : Nat) : Fld := ⟨0xC00438 + 0x80 * n, 23, 20⟩
def PTP_Pp_SE_STAT_RX_SSM (n : Nat) : Fld := ⟨0xC0043C + 0x80 * n, 31, 28⟩
def PTP_Pp_SE_STAT_RX_ESSM (n : Nat) : Fld := ⟨0xC0043C + 0x80 * n, 27, 20⟩
def PTP_Pp_SE_STAT_RX_EXT (n : Nat) : Fld := ⟨0xC0043C + 0x80 * n, 19, 19⟩
def PTP_Pp_SE_STAT_ESMC_OK (n : Nat) : Fld := ⟨0xC0043C + 0x80 * n, 18, 18⟩
def PTP_Pp_SE_STAT_TX_SSM (n : Nat) : Fld := ⟨0xC0043C + 0x80 * n, 17, 14⟩
def PTP_Pp_SE_STAT_TX_DNU (n : Nat) : Fld := ⟨0xC0043C + 0x80 * n, 13, 13⟩
def PTP_Pp_CNT0_AUTH_FAIL (n : Nat) : Fld := ⟨0xC00440 + 0x80 * n, 31, 16⟩
def PTP_Pp_CNT0_DROP (n : Nat) : Fld := ⟨0xC00440 + 0x80 * n, 15, 0⟩
def PTP_Pp_CNT1_DLY_REJ (n : Nat) : Fld := ⟨0xC00444 + 0x80 * n, 31, 16⟩
def PTP_Pp_CNT1_TC_NOKEY (n : Nat) : Fld := ⟨0xC00444 + 0x80 * n, 15, 0⟩
def PTP_Pp_TSQCFG_CAP_PTP (n : Nat) : Fld := ⟨0xC00448 + 0x80 * n, 31, 31⟩
def PTP_Pp_TSQCFG_CAP_ET (n : Nat) : Fld := ⟨0xC00448 + 0x80 * n, 30, 30⟩
def PTP_Pp_TSQCFG_QTHR (n : Nat) : Fld := ⟨0xC00448 + 0x80 * n, 24, 16⟩
def PTP_Pp_TSQCFG_ETYPE (n : Nat) : Fld := ⟨0xC00448 + 0x80 * n, 15, 0⟩
def PTP_Pp_TSQSTAT_LOST (n : Nat) : Fld := ⟨0xC0044C + 0x80 * n, 31, 16⟩
def PTP_Pp_TSQSTAT_OVF (n : Nat) : Fld := ⟨0xC0044C + 0x80 * n, 13, 13⟩
def PTP_Pp_TSQSTAT_LEVEL (n : Nat) : Fld := ⟨0xC0044C + 0x80 * n, 8, 0⟩
def PTP_Pp_TSQ_HEAD (n j : Nat) : Fld := ⟨0xC00450 + 0x80 * n + 4 * j, 31, 0⟩
def PTP_Pp_CTL_AN_RESTART (n : Nat) : Fld := ⟨0xC00460 + 0x80 * n, 2, 2⟩
def PTP_Pp_CTL_FLUSH (n : Nat) : Fld := ⟨0xC00460 + 0x80 * n, 1, 1⟩
def PTP_Pp_CTL_POP (n : Nat) : Fld := ⟨0xC00460 + 0x80 * n, 0, 0⟩

/-! CRL -/

def CRL_LKk_CFG_EN (n : Nat) : Fld := ⟨0xD00000 + 0x40 * n, 31, 31⟩
def CRL_LKk_CFG_ROLE (n : Nat) : Fld := ⟨0xD00000 + 0x40 * n, 30, 30⟩
def CRL_LKk_CFG_REMOTE (n : Nat) : Fld := ⟨0xD00000 + 0x40 * n, 29, 28⟩
def CRL_LKk_CFG_ADDR (n : Nat) : Fld := ⟨0xD00000 + 0x40 * n, 24, 20⟩
def CRL_LKk_CFG_CBASE (n : Nat) : Fld := ⟨0xD00000 + 0x40 * n, 19, 14⟩
def CRL_LKk_CFG_PROBE_N (n : Nat) : Fld := ⟨0xD00000 + 0x40 * n, 13, 8⟩
def CRL_LKk_TIM_RPER (n : Nat) : Fld := ⟨0xD00004 + 0x40 * n, 31, 16⟩
def CRL_LKk_TIM_RESP_TO (n : Nat) : Fld := ⟨0xD00004 + 0x40 * n, 15, 8⟩
def CRL_LKk_TIM_RETRY (n : Nat) : Fld := ⟨0xD00004 + 0x40 * n, 7, 4⟩
def CRL_LKk_TIM_MISS (n : Nat) : Fld := ⟨0xD00004 + 0x40 * n, 3, 0⟩
def CRL_LKk_TXLAT_LAT (n : Nat) : Fld := ⟨0xD00008 + 0x40 * n, 31, 0⟩
def CRL_LKk_RXLAT_LAT (n : Nat) : Fld := ⟨0xD0000C + 0x40 * n, 31, 0⟩
def CRL_LKk_TT_TT_RATE (n : Nat) : Fld := ⟨0xD00010 + 0x40 * n, 31, 28⟩
def CRL_LKk_TT_DTOL (n : Nat) : Fld := ⟨0xD00010 + 0x40 * n, 15, 0⟩
def CRL_LKk_KEY_KEY_EN (n : Nat) : Fld := ⟨0xD00014 + 0x40 * n, 31, 31⟩
def CRL_LKk_KEY_KEYSLOT (n : Nat) : Fld := ⟨0xD00014 + 0x40 * n, 28, 24⟩
def CRL_LKk_STAT_PSTATE (n : Nat) : Fld := ⟨0xD00018 + 0x40 * n, 31, 30⟩
def CRL_LKk_STAT_VER (n : Nat) : Fld := ⟨0xD00018 + 0x40 * n, 29, 28⟩
def CRL_LKk_STAT_CFG_ERR (n : Nat) : Fld := ⟨0xD00018 + 0x40 * n, 27, 27⟩
def CRL_LKk_STAT_ERR (n : Nat) : Fld := ⟨0xD00018 + 0x40 * n, 26, 24⟩
def CRL_LKk_CNT0_REJ (n : Nat) : Fld := ⟨0xD0001C + 0x40 * n, 31, 16⟩
def CRL_LKk_CNT0_NORESP (n : Nat) : Fld := ⟨0xD0001C + 0x40 * n, 15, 0⟩
def CRL_LKk_CNT1_FRANK_FAIL (n : Nat) : Fld := ⟨0xD00020 + 0x40 * n, 31, 16⟩
def CRL_LKk_CNT1_REPLAY (n : Nat) : Fld := ⟨0xD00020 + 0x40 * n, 15, 0⟩
def CRL_LKk_PRES_PRESENT (n : Nat) : Fld := ⟨0xD00024 + 0x40 * n, 31, 0⟩
def CRL_LKk_TSQCFG_CAP_TT (n : Nat) : Fld := ⟨0xD00028 + 0x40 * n, 31, 31⟩
def CRL_LKk_TSQCFG_CAP_ALL (n : Nat) : Fld := ⟨0xD00028 + 0x40 * n, 30, 30⟩
def CRL_LKk_TSQCFG_QTHR (n : Nat) : Fld := ⟨0xD00028 + 0x40 * n, 6, 0⟩
def CRL_LKk_TSQSTAT_LOST (n : Nat) : Fld := ⟨0xD0002C + 0x40 * n, 31, 16⟩
def CRL_LKk_TSQSTAT_OVF (n : Nat) : Fld := ⟨0xD0002C + 0x40 * n, 13, 13⟩
def CRL_LKk_TSQSTAT_LEVEL (n : Nat) : Fld := ⟨0xD0002C + 0x40 * n, 9, 0⟩
def CRL_LKk_TSQ_HEAD (n j : Nat) : Fld := ⟨0xD00030 + 0x40 * n + 4 * j, 31, 0⟩
def CRL_PIDX_LINK : Fld := ⟨0xD00100, 6, 5⟩
def CRL_PIDX_ADDR : Fld := ⟨0xD00100, 4, 0⟩
def CRL_P_CFG_EXPECT : Fld := ⟨0xD00104, 31, 31⟩
def CRL_P_CFG_KEY_EN : Fld := ⟨0xD00104, 30, 30⟩
def CRL_P_CFG_TT_EN : Fld := ⟨0xD00104, 29, 29⟩
def CRL_P_CFG_KEYSLOT : Fld := ⟨0xD00104, 28, 24⟩
def CRL_P_CFG_VMAX : Fld := ⟨0xD00104, 23, 22⟩
def CRL_P_CFG_PR_MAX : Fld := ⟨0xD00104, 15, 8⟩
def CRL_P_CFG_PR_LIFE : Fld := ⟨0xD00104, 7, 0⟩
def CRL_P_STAT_STATE : Fld := ⟨0xD00108, 31, 29⟩
def CRL_P_STAT_VER : Fld := ⟨0xD00108, 28, 27⟩
def CRL_P_STAT_RJ : Fld := ⟨0xD00108, 26, 24⟩
def CRL_P_STAT_PTYPE : Fld := ⟨0xD00108, 23, 21⟩
def CRL_P_STAT_ID_VALID : Fld := ⟨0xD00108, 20, 20⟩
def CRL_P_STAT_NCH : Fld := ⟨0xD00108, 19, 16⟩
def CRL_P_STAT_HELD : Fld := ⟨0xD00108, 15, 8⟩
def CRL_P_STAT_MISSCNT : Fld := ⟨0xD00108, 7, 0⟩
def CRL_P_ID_LO_ID : Fld := ⟨0xD0010C, 31, 0⟩
def CRL_P_ID_HI_ID : Fld := ⟨0xD00110, 31, 0⟩
def CRL_P_CABD_CABLE_D : Fld := ⟨0xD00114, 31, 0⟩
def CRL_P_ASYM_ASYM : Fld := ⟨0xD00118, 31, 0⟩
def CRL_P_DLY_D : Fld := ⟨0xD0011C, 31, 0⟩
def CRL_P_CAL_CALV : Fld := ⟨0xD00120, 31, 31⟩
def CRL_P_CAL_CAL_RUN : Fld := ⟨0xD00120, 30, 30⟩
def CRL_P_CAL_CAL_ERR : Fld := ⟨0xD00120, 29, 29⟩
def CRL_P_CAL_CAL_SD : Fld := ⟨0xD00120, 15, 0⟩
def CRL_P_CTL_CAL_START : Fld := ⟨0xD00124, 2, 2⟩
def CRL_P_CTL_RENEG : Fld := ⟨0xD00124, 1, 1⟩
def CRL_P_CTL_FORGET : Fld := ⟨0xD00124, 0, 0⟩
def CRL_FOL_STAT_VALID : Fld := ⟨0xD00140, 31, 31⟩
def CRL_FOL_STAT_LINK : Fld := ⟨0xD00140, 30, 29⟩
def CRL_FOL_STAT_TFLAGS : Fld := ⟨0xD00140, 28, 24⟩
def CRL_FOL_STAT_QL : Fld := ⟨0xD00140, 23, 20⟩
def CRL_FOL_Q_CLASS : Fld := ⟨0xD00144, 31, 24⟩
def CRL_FOL_Q_ACCURACY : Fld := ⟨0xD00144, 23, 16⟩
def CRL_FOL_Q_DAT : Fld := ⟨0xD00144, 15, 8⟩
def CRL_FOL_OFF_SAMPLE : Fld := ⟨0xD00148, 31, 0⟩
def CRL_FOL_CNT_DREJ : Fld := ⟨0xD0014C, 31, 16⟩
def CRL_FOL_CNT_FUP_LATE : Fld := ⟨0xD0014C, 15, 0⟩
def CRL_LBO_HDR_LINK : Fld := ⟨0xD00180, 31, 30⟩
def CRL_LBO_HDR_ADDR : Fld := ⟨0xD00180, 28, 24⟩
def CRL_LBO_HDR_KIND : Fld := ⟨0xD00180, 20, 20⟩
def CRL_LBO_HDR_TAG : Fld := ⟨0xD00180, 19, 12⟩
def CRL_LBO_HDR_LEN : Fld := ⟨0xD00180, 8, 0⟩
def CRL_LBO_DATA_DATA : Fld := ⟨0xD00184, 31, 0⟩
def CRL_LBO_CTL_DISCARD : Fld := ⟨0xD00188, 1, 1⟩
def CRL_LBO_CTL_POST : Fld := ⟨0xD00188, 0, 0⟩
def CRL_LBO_STAT_REFUSE : Fld := ⟨0xD0018C, 31, 28⟩
def CRL_LBO_STAT_POOL_FREE : Fld := ⟨0xD0018C, 25, 16⟩
def CRL_LBO_STAT_STAGED : Fld := ⟨0xD0018C, 6, 0⟩
def CRL_LBI_STAT_LOST : Fld := ⟨0xD00190, 31, 16⟩
def CRL_LBI_STAT_OVF : Fld := ⟨0xD00190, 13, 13⟩
def CRL_LBI_STAT_LEVEL : Fld := ⟨0xD00190, 9, 0⟩
def CRL_LBI_HDR0_HDR : Fld := ⟨0xD00194, 31, 0⟩
def CRL_DLQ_STAT_LOST : Fld := ⟨0xD00198, 31, 16⟩
def CRL_DLQ_STAT_OVF : Fld := ⟨0xD00198, 13, 13⟩
def CRL_DLQ_STAT_LEVEL : Fld := ⟨0xD00198, 9, 0⟩
def CRL_DLQ_HDR_HDR : Fld := ⟨0xD0019C, 31, 0⟩
def CRL_CTL_TSQ_FLUSH : Fld := ⟨0xD001A0, 15, 12⟩
def CRL_CTL_TSQ_POP : Fld := ⟨0xD001A0, 11, 8⟩
def CRL_CTL_DLQ_RESEND : Fld := ⟨0xD001A0, 2, 2⟩
def CRL_CTL_DLQ_POP : Fld := ⟨0xD001A0, 1, 1⟩
def CRL_CTL_LBI_POP : Fld := ⟨0xD001A0, 0, 0⟩
def CRL_EVT_CAL : Fld := ⟨0xD001A4, 8, 8⟩
def CRL_EVT_CASCADE : Fld := ⟨0xD001A4, 7, 7⟩
def CRL_EVT_IDCHG : Fld := ⟨0xD001A4, 6, 6⟩
def CRL_EVT_REJECT : Fld := ⟨0xD001A4, 5, 5⟩
def CRL_EVT_ABSENT : Fld := ⟨0xD001A4, 4, 4⟩
def CRL_EVT_PRESENT : Fld := ⟨0xD001A4, 3, 3⟩
def CRL_EVT_DLQ : Fld := ⟨0xD001A4, 2, 2⟩
def CRL_EVT_LBI : Fld := ⟨0xD001A4, 1, 1⟩
def CRL_EVT_TSQT : Fld := ⟨0xD001A4, 0, 0⟩
def CRL_EVT_EN_EN : Fld := ⟨0xD001A8, 31, 0⟩
def CRL_TEST_GO : Fld := ⟨0xD001AC, 31, 31⟩
def CRL_TEST_EXT : Fld := ⟨0xD001AC, 30, 30⟩
def CRL_TEST_LINK : Fld := ⟨0xD001AC, 9, 8⟩
def CRL_TEST_COUNT : Fld := ⟨0xD001AC, 7, 0⟩
def CRL_TESTRES_DONE : Fld := ⟨0xD001B0, 31, 31⟩
def CRL_TESTRES_PASS : Fld := ⟨0xD001B0, 30, 30⟩
def CRL_TESTRES_LOOP : Fld := ⟨0xD001B0, 15, 0⟩
def CRL_LBI_DATA_DATA (n : Nat) : Fld := ⟨0xD00200 + 0x4 * n, 31, 0⟩
def CRL_DLQ_DATA_DATA (n : Nat) : Fld := ⟨0xD00300 + 0x4 * n, 31, 0⟩

/-! NVM -/

def NVM_CFG_PF_EN : Fld := ⟨0xE00000, 31, 31⟩
def NVM_CFG_SHED : Fld := ⟨0xE00000, 30, 30⟩
def NVM_CFG_PERIOD : Fld := ⟨0xE00000, 27, 24⟩
def NVM_STAT_SAVE_RUN : Fld := ⟨0xE00004, 31, 31⟩
def NVM_STAT_PF_WARN : Fld := ⟨0xE00004, 30, 30⟩
def NVM_STAT_CRAM_BAD : Fld := ⟨0xE00004, 29, 29⟩
def NVM_STAT_WB_LEVEL : Fld := ⟨0xE00004, 28, 24⟩
def NVM_STAT_RESTORED : Fld := ⟨0xE00004, 23, 23⟩
def NVM_STAT_TIE : Fld := ⟨0xE00004, 22, 22⟩
def NVM_STAT_SKIP : Fld := ⟨0xE00004, 21, 21⟩
def NVM_STAT_SLOT : Fld := ⟨0xE00004, 18, 16⟩
def NVM_STAT_INVALID : Fld := ⟨0xE00004, 15, 8⟩
def NVM_STAT_LAST_CAUSE : Fld := ⟨0xE00004, 2, 0⟩
def NVM_SEQ_SEQ : Fld := ⟨0xE00008, 31, 0⟩
def NVM_CTL_PB_CLR : Fld := ⟨0xE0000C, 2, 2⟩
def NVM_CTL_PB_PROG : Fld := ⟨0xE0000C, 1, 1⟩
def NVM_CTL_SAVE : Fld := ⟨0xE0000C, 0, 0⟩
def NVM_EVT_ECC_COR : Fld := ⟨0xE00010, 3, 3⟩
def NVM_EVT_PROG_DONE : Fld := ⟨0xE00010, 2, 2⟩
def NVM_EVT_SAVE_DONE : Fld := ⟨0xE00010, 1, 1⟩
def NVM_EVT_PF : Fld := ⟨0xE00010, 0, 0⟩
def NVM_EVT_EN_EN : Fld := ⟨0xE00014, 31, 0⟩
def NVM_PADDR_PAGE : Fld := ⟨0xE00018, 10, 0⟩
def NVM_PSTAT_BUSY : Fld := ⟨0xE0001C, 31, 31⟩
def NVM_PSTAT_PB_PEND : Fld := ⟨0xE0001C, 30, 30⟩
def NVM_PSTAT_REFUSED : Fld := ⟨0xE0001C, 29, 29⟩
def NVM_PSTAT_PB_FAIL : Fld := ⟨0xE0001C, 28, 28⟩
def NVM_PSTAT_ECC_CNT : Fld := ⟨0xE0001C, 15, 0⟩
def NVM_TEST_GO : Fld := ⟨0xE00020, 31, 31⟩
def NVM_TEST_LAST : Fld := ⟨0xE00020, 26, 16⟩
def NVM_TEST_FIRST : Fld := ⟨0xE00020, 10, 0⟩
def NVM_TESTRES_DONE : Fld := ⟨0xE00024, 31, 31⟩
def NVM_TESTRES_PASS : Fld := ⟨0xE00024, 30, 30⟩
def NVM_TESTRES_STOPPED : Fld := ⟨0xE00024, 29, 29⟩
def NVM_TESTRES_FAILPAGE : Fld := ⟨0xE00024, 10, 0⟩
def NVM_PBUF_DATA (n : Nat) : Fld := ⟨0xE00400 + 0x4 * n, 31, 0⟩
def NVM_PREAD_DATA (n : Nat) : Fld := ⟨0xE00800 + 0x4 * n, 31, 0⟩
def NVM_CRAM_DATA (n : Nat) : Fld := ⟨0xE01000 + 0x4 * n, 31, 0⟩

/-! SEC -/

def SEC_STAT_STATE : Fld := ⟨0xF00000, 31, 30⟩
def SEC_STAT_APPROVED : Fld := ⟨0xF00000, 29, 29⟩
def SEC_STAT_IMG_AUTH : Fld := ⟨0xF00000, 28, 28⟩
def SEC_STAT_FUSE_OK : Fld := ⟨0xF00000, 27, 27⟩
def SEC_STAT_KEK_VALID : Fld := ⟨0xF00000, 26, 26⟩
def SEC_STAT_SIGNED_BOOT : Fld := ⟨0xF00000, 25, 25⟩
def SEC_STAT_DUK_KILL : Fld := ⟨0xF00000, 24, 24⟩
def SEC_STAT_USABLE : Fld := ⟨0xF00000, 23, 20⟩
def SEC_STAT_ERRTEST : Fld := ⟨0xF00000, 19, 16⟩
def SEC_STAT_ARB : Fld := ⟨0xF00000, 6, 0⟩
def SEC_CTL_KEY : Fld := ⟨0xF00004, 31, 24⟩
def SEC_CTL_RESEED : Fld := ⟨0xF00004, 2, 2⟩
def SEC_CTL_SELFTEST : Fld := ⟨0xF00004, 1, 1⟩
def SEC_CTL_ZEROISE : Fld := ⟨0xF00004, 0, 0⟩
def SEC_LOCK_FUSE_LOCK : Fld := ⟨0xF00008, 0, 0⟩
def SEC_SLOT_LOCK_LOCK : Fld := ⟨0xF0000C, 31, 0⟩
def SEC_SVC_KEY : Fld := ⟨0xF00010, 31, 24⟩
def SEC_SVC_OP : Fld := ⟨0xF00010, 23, 20⟩
def SEC_SVC_SLOT : Fld := ⟨0xF00010, 19, 15⟩
def SEC_SVC_USAGE : Fld := ⟨0xF00010, 14, 12⟩
def SEC_SVC_LEN : Fld := ⟨0xF00010, 7, 0⟩
def SEC_SVC_STAT_BUSY : Fld := ⟨0xF00014, 31, 31⟩
def SEC_SVC_STAT_RESULT : Fld := ⟨0xF00014, 3, 0⟩
def SEC_FUSE_CTL_KEY : Fld := ⟨0xF00018, 31, 24⟩
def SEC_FUSE_CTL_FIELD : Fld := ⟨0xF00018, 3, 0⟩
def SEC_FUSE_STAT_BUSY : Fld := ⟨0xF0001C, 31, 31⟩
def SEC_FUSE_STAT_FAIL : Fld := ⟨0xF0001C, 30, 30⟩
def SEC_FUSE_STAT_TORN : Fld := ⟨0xF0001C, 29, 29⟩
def SEC_FUSE_STAT_LEFT : Fld := ⟨0xF0001C, 23, 8⟩
def SEC_FUSE_STAT_REFUSE : Fld := ⟨0xF0001C, 3, 0⟩
def SEC_FUSE_RIDX_WORD : Fld := ⟨0xF00020, 5, 0⟩
def SEC_FUSE_RDATA_DATA : Fld := ⟨0xF00024, 31, 0⟩
def SEC_RNG_DATA : Fld := ⟨0xF00028, 31, 0⟩
def SEC_EVT_ERROR : Fld := ⟨0xF0002C, 3, 3⟩
def SEC_EVT_FUSE_DONE : Fld := ⟨0xF0002C, 2, 2⟩
def SEC_EVT_SVC_DONE : Fld := ⟨0xF0002C, 1, 1⟩
def SEC_EVT_ZEROISED : Fld := ⟨0xF0002C, 0, 0⟩
def SEC_EVT_EN_EN : Fld := ⟨0xF00030, 31, 0⟩
def SEC_SLOT_USE_USE (n : Nat) : Fld := ⟨0xF00040 + 0x4 * n, 31, 0⟩
def SEC_OUT_DATA (n : Nat) : Fld := ⟨0xF00080 + 0x4 * n, 31, 0⟩
def SEC_BUF_DATA (n : Nat) : Fld := ⟨0xF00100 + 0x4 * n, 31, 0⟩

end Sys2Proof.Reg
end

