-- ==== Sys2Proof/Config.lean ====
section
/-! DEFINITION. What the spec leaves open or gives only by the name of an outside standard: constants without a body, of
which no proof can use more than their type. -/

namespace Sys2Proof

/-- free values, by the counter State.free (log entry 10) -/
opaque Config.freeNat : Nat → Nat

/-- the evaluation error of a loop gain, by gain code (R188; log entry 11) -/
opaque Config.gainError : Nat → Int

/-- the error of the estimator's sine at an angle in 2^-48 turn (R266; log entry 15) -/
opaque Config.sinError : Nat → Int

/-- the error of the estimator's arctangent (R266; log entry 15) -/
opaque Config.atanError : Int → Int → Int

/-- D_src, the fixed delay stored in silicon for each route source, in units of 2^-20 PMCLK period (R130; log entry 16) -/
opaque Config.srcDelay : Nat → Int

/-! The algorithms of R430, known to the spec by the name of their standard only (log entry 8). -/

/-- SHA-256 of a message (FIPS 180-4) -/
opaque Config.sha256 : List Byte → Vector Byte 32

/-- HMAC-SHA-256 of key and message (FIPS 198-1) -/
opaque Config.hmac : List Byte → List Byte → Vector Byte 32

/-- AES-256 key wrap of a 32-byte key (SP 800-38F) -/
opaque Config.kwWrap : List Byte → List Byte → Vector Byte 40

/-- AES-256 key unwrap; none when the integrity check fails -/
opaque Config.kwUnwrap : List Byte → List Byte → Option (Vector Byte 32)

/-- AES-256-GCM decryption: key, IV, additional data, ciphertext, tag (SP 800-38D) -/
opaque Config.gcmOpen : List Byte → List Byte → List Byte → List Byte → List Byte → Option (List Byte)

/-- the 64-bit AES-CMAC tag of key and message (SP 800-38B) -/
opaque Config.cmac : List Byte → List Byte → BitVec 64

/-- ECDSA P-256 verification: public key, SHA-256 digest, signature (FIPS 186-5) -/
opaque Config.ecdsaOk : List Byte → List Byte → List Byte → Bool

/-- the 28 bytes in which a drift-model bucket is stored: samples (time before the close, word, temperature), recorded g (R423; the
spec gives no layout, log entry 17) -/
opaque Config.bucketCode : List (Int × Int × Int) → Option (Int × Int) → Vector Byte 28

/-- what a restored bucket holds, read from its 28 bytes -/
opaque Config.bucketOpen : List Byte → List (Int × Int × Int) × Option (Int × Int)

/-- what a solar computation starts from (R289 to R294): latitude and longitude in 10^-6 degree, height in m, DUT1
in 10 ms, ΔAT, the TAI second of local civil noon of the date, the day number of the date, threshold in 10^-6 degree -/
structure SolarIn where
  lat : Int := 0
  lon : Int := 0
  alt : Int := 0
  dut1 : Int := 0
  dat : Nat := 0
  noon : Nat := 0
  date : Nat := 0
  elev : Int := 0
  deriving DecidableEq, Repr, Inhabited

/-- the Sun as a high-precision ephemeris gives it for a site and a date (R295): the upper transit in ms after the Unix epoch in TAI; the
geometric elevation there in 10^-6 degree; for a threshold and a half-day (true: the rising one) whether the crossing exists (0), the Sun
stays above (1) or below (2), and its distance from the upper transit in ms -/
structure SunTrue where
  noon : Nat := 0
  elev : Int := 0
  code : Fin 3 := 0
  dist : Nat := 0
  deriving DecidableEq, Repr, Inhabited

/-- the Sun as it is: a free value (log entry 9) -/
opaque Config.sun : SolarIn → Bool → SunTrue

/-- UT1 - UTC as it is at a TAI second, in ms (R294, R295) -/
opaque Config.trueDut1 : Nat → Int

/-- what the device's own ephemeris makes of the same: errors of the noon and of the crossing in ms, of the noon elevation in 10^-6 degree;
its code where GRAZE leaves the code open; ms from the upper transit to the lower transit of the half-day; elevation there in 10^-6 degree -/
structure SunDevice where
  noonErr : Int := 0
  crossErr : Int := 0
  elevErr : Int := 0
  code : Fin 3 := 0
  half : Nat := 0
  low : Int := 0
  deriving DecidableEq, Repr, Inhabited

/-- the device's ephemeris: a free value within the bounds of R295 (log entry 9) -/
opaque Config.sunDevice : SolarIn → Bool → SunDevice

/-- t_PD, the propagation delay of an output under its standard, before R545's range is taken (R215; log entry 152) -/
opaque Config.outDelay : Nat → Nat → Nat

/-- the DRBG's output: seedings so far, requests since (SP 800-90A; random) -/
opaque Config.drbg : Nat → Nat → BitVec 32

end Sys2Proof
end

