-- ==== Sys2Proof/Machine/State.lean ====
section
/-! DEFINITION. The state of the PG-9340 as plain data. Registers live in ONE field-keyed register file (State.regs);
what no register shows lives in one structure per block. Times are in units of 2^-20 PMCLK period (log entry 1). -/

namespace Sys2Proof.Machine

/-- A step of this block never faults: the spec describes every refused access as an effect (R513). Nobody raises
`none`; it exists because the interface asks for a fault type. Safe. -/
inductive Fault where
  /-- raised by no meaning; safe -/
  | none
  deriving DecidableEq, Repr

/-- The reasons a step can be refused. -/
inductive Refusal where
  /-- the command of that mnemonic has no meaning yet; raised only by an arm of exec; safe (the model stops) -/
  | notModelled (mnemonic : String)
  deriving DecidableEq, Repr

/-! ### Queues of records (R36 to R42, R152 to R154) -/

/-- a queued postmark: its time in 2^-16 ns since 1970 TAI, source ID, flags, sequence (R13, R143) -/
structure Postmark where
  t : Nat := 0
  src : Nat := 0
  flags : Nat := 0
  seq : Nat := 0
  deriving DecidableEq, Repr, Inhabited

/-- a queued result record (R147) -/
structure ResultRec where
  interval : Int := 0
  rflags : Nat := 0
  seq : Nat := 0
  deriving DecidableEq, Repr, Inhabited

/-- a record queue: its records oldest first, the next number of its 16-bit series, whether the next record accepted
carries LOSS, the latest time accepted in the present segment (R42), and how many records were accepted in which core cycle (R37, R41) -/
structure Queue (α : Type) where
  recs : List α := []
  seq : Nat := 0
  loss : Bool := false
  last : Nat := 0
  cyc : Nat := 0
  cycN : Nat := 0
  deriving DecidableEq, Repr, Inhabited

/-! ### GEN, RST, FLT and the host port -/

/-- where a block stands in maintenance isolation (R55) -/
inductive IsoPhase where
  | none
  | isolating
  | isolated
  | releasing
  | releasingAgain
  deriving DecidableEq, Repr, Inhabited

/-- GEN: mode sequences still to run (bit, true for an entry), oldest first (R46); whether the MT exit is releasing
blocks (R55); the isolation phase of each block and the core cycle after the one its isolation was requested in (R60); the latest
accepted write of GEN.MODE or GEN.ISOLATE: the core cycle after its own, with both registers, the sequences and the phases before it (R60,
R494); MODECHG and the rest are registers -/
structure GenS where
  todo : List (Nat × Bool) := []
  mtRel : Bool := false
  iso : Vector IsoPhase 16 := Vector.replicate 16 .none
  isoAt : Vector Nat 16 := Vector.replicate 16 0
  wrAt : Nat := 0
  modeOld : Nat := 0
  reqOld : Nat := 0
  todoOld : List (Nat × Bool) := []
  isoOld : Vector IsoPhase 16 := Vector.replicate 16 .none
  deriving DecidableEq, Repr, Inhabited

/-- where the reset sequencer stands (R482): out of reset; step 2 save of cause 4; the hold of a level (step 3);
step 4 waiting for the sources -/
inductive SeqPhase where
  | run
  | save
  | hold (level : Nat)
  | wait
  deriving DecidableEq, Repr, Inhabited

/-- RST: the sources asserted (R477); rails below threshold, index 0 VDD_CORE, 1 VDD_SD, 2 VDD_A18, 3 VDD_MRAM, 4 to 10
the VDD_IO banks; VDD_CORE below retention since the last L0; end of the power-on delay and of the FLT pulse; the
sequencer phase, the effective level E, the levels already held, sources and rails seen since entry, the time of day at which the hold in progress
began in 2^-16 ns (R40); the RESET_N and
VMAIN_SENSE levels as recognised; bank levels sampled (R489); the step-2 save has run; balls SW0-SW47 high impedance; FORM and POL
of each switching channel as latched or read from the channel-form record, FORM + 4 POL (R487) -/
structure RstS where
  por : Bool := false
  pin : Bool := false
  flt : Bool := false
  low : Vector Bool 11 := Vector.replicate 11 false
  lost : Bool := false
  porEnd : Option Nat := none
  fltEnd : Option Nat := none
  phase : SeqPhase := .run
  level : Nat := 2
  held : List Nat := []
  seen : Nat := 0
  rails : Nat := 0
  holdEnd : Nat := 0
  holdT : Nat := 0
  saved : Bool := false
  bank33 : Vector Nat 7 := Vector.replicate 7 2
  hiZ : Bool := true
  form : Vector Nat 48 := Vector.replicate 48 0
  deriving DecidableEq, Repr, Inhabited

/-- the reset window of a block (R466): none; in reset until; in its settle window until -/
inductive ResetWin where
  | none
  | inReset (until_ : Nat)
  | settle (until_ : Nat)
  deriving DecidableEq, Repr, Inhabited

/-- FLT: raises of the command in progress (the model's own, log entry 5), each a source and its instance; tables that
differ from their defaults: reaction sets, settle windows, dependency masks, instance masks; sources whose raise applied
IRQ or NMI and whose sticky bit is still set (R457); the reset window of each block; when QLEFT reaches 0 while it counts
(R463); whether a stored word of the protected state is corrupted (R468); the end of the check-bit test in progress, the source whose
checker it tests, the sources still to be tested, a genuine mismatch diverted meanwhile (its instance) (R472); the settle window and
dependency mask in force for each block since its latest reset began (R474); for the coincidences of R476: the sampling cycle + 1 in which
FIRST was captured, the core cycle + 1 of the latest REACT write with the sets it replaced, the core cycle + 1 in which a settle window
ended with the masks it ended -/
structure FltS where
  raised : List (Nat × Option Nat) := []
  react : Tab := []
  settle : Tab := []
  dmask : Tab := []
  inst : Tab := []
  irqBy : Nat := 0
  nmiBy : Nat := 0
  win : Vector ResetWin 16 := Vector.replicate 16 .none
  quietEnd : Option Nat := none
  corrupt : Bool := false
  chkEnd : Option Nat := none
  chkSrc : Nat := 0
  chkQ : List Nat := []
  chkDiv : Option Nat := none
  dep : Vector (Nat × Nat) 16 := Vector.replicate 16 (0, 0)
  firstAt : Nat := 0
  reactAt : Nat := 0
  reactWas : Tab := []
  endAt : Nat := 0
  endMask : Nat := 0
  deriving DecidableEq, Repr, Inhabited

/-- a posted write of the Quad-SPI port (R517): address as issued, size in bytes, data -/
structure Posted where
  addr : Nat
  size : Nat
  data : Nat
  deriving DecidableEq, Repr, Inhabited

/-- one write to an always-on register waiting in a batch (R509): key address, alias, byte enables, data -/
structure RwsWrite where
  addr : Nat
  alias_ : Nat
  be : Nat
  data : Nat
  deriving DecidableEq, Repr, Inhabited

/-- an RWS group (R509): the batch in flight (oldest first), the slow edge at which it lands, the writes of the next batch, and
hardware updates in flight (slow edge at which they land, field key, value) -/
structure RwsGroup where
  batch : List RwsWrite := []
  landAt : Option Nat := none
  nextB : List RwsWrite := []
  hw : List (Nat × Nat × Nat) := []
  deriving DecidableEq, Repr, Inhabited

/-- the host port: posted-write buffer, STATUS flags OVF and HAF since the last STATUS read, the hold of R507 (high word
address and the held words), a staged low half and its limit (R522), a held high half, the data last returned and its
size in bytes, the last STATUS byte; cur is the address, as issued, of the access being carried out or last carried out, curAt the core
cycle after the one it was carried out in (R494) -/
structure HostS where
  cur : Nat := 0
  curAt : Nat := 0
  posted : List Posted := []
  ovf : Bool := false
  haf : Bool := false
  holdHi : Option Nat := none
  holdW : List (Nat × Nat) := []
  staged : Option (Nat × Nat × Nat) := none
  heldHalf : Option (Nat × Nat) := none
  rdata : List Nat := []
  rsize : Nat := 0
  status : Nat := 0
  deriving DecidableEq, Repr, Inhabited

/-- the always-on domain (VBAT): the actual values of the RWS fields by field key (the register file holds the copy,
R6), the two batch groups (0 RTC, 1 RST.CAUSE), the crystal counter of trim
windows, the slow edges counted so far; unbroken discipline in seconds, the drift at its start, time of the last comparison without a
rewrite (R254) -/
structure AonS where
  val : Tab := []
  grp : Vector RwsGroup 2 := Vector.replicate 2 {}
  win : Nat := 0
  edge : Nat := 0
  unbroken : Nat := 0
  drift0 : Int := 0
  lastOk : Option Nat := none
  deriving DecidableEq, Repr, Inhabited

/-! ### TKP (R236 to R262) -/

/-- TKP beyond its registers: whether the counter runs (R236); whether the start value waits for the backup clock (R254);
a waiting SET_SEC: the latched seconds and the whole second at which it loads (R241); the UTC midnight of a latched leap
(R245); the seconds test of R239: value, count, latest whole-second part; a waiting RTC_SYNC and its whole second (R255);
the second of the last 1PPS event, and the second the time of day stood in at the last one or time set (R248); the civil offset last in force in minutes (R246); the sentences last sent on
each TOD_TX line and the second they label (R249); outputs that hold until the first whole second after the image (R261);
the IRIG decoder: label of the last valid frame (twice its UTC second, 1 more for 23:59:60), consistent frames in a row, device time of the last valid frame
(R250), device time from which it takes frames (R261); the second and the symbols of the frame on IRIG_OUT (R252); the time of day at
which the sentences on each line began; levels that TOD_TX0, TOD_TX1 and IRIG_OUT hold after a reset (R261); the ΔAT in the latest message
of each slot that carries one (R244);
the amount of a time set or jam of the command in progress, and whether a leap executed in it (the model's own, none and false
between commands) -/
structure TkpS where
  run : Bool := false
  waitRtc : Bool := false
  setSec : Option (Nat × Nat) := none
  latched : Option Nat := none
  disVal : Int := 0
  disCnt : Nat := 0
  lastErr : Int := 0
  rtcSync : Option Nat := none
  ppsSec : Nat := 0
  secAt : Nat := 0
  civ : Int := 0
  tx : Vector (List Byte) 2 := Vector.replicate 2 []
  txSec : Vector Nat 2 := Vector.replicate 2 0
  txHold : Bool := false
  irigLast : Option Nat := none
  irigOk : Nat := 0
  irigAt : Nat := 0
  irigFrom : Nat := 0
  irigOut : Option (Nat × List Nat) := none
  txAt : Vector Nat 2 := Vector.replicate 2 0
  held : Vector (Option Bool) 3 := Vector.replicate 3 none
  slotDat : Vector (Option Nat) 32 := Vector.replicate 32 none
  moved : Option Int := none
  leapt : Bool := false
  deriving DecidableEq, Repr, Inhabited

/-! ### SEL: selectors and DPLLs (R164 to R207) -/

/-- a slot's frequency estimate (R175): value, validity, when the present unbroken validity began, samples (time, phase), newest first -/
structure SlotEst where
  f : Int := 0
  valid : Bool := false
  since : Option Nat := none
  smp : List (Nat × Int) := []
  deriving DecidableEq, Repr, Inhabited

/-- one minute sample of the drift model (R197): mid-time, word, temperature -/
structure MinSample where
  t : Int := 0
  w : Int := 0
  th : Int := 0
  deriving DecidableEq, Repr, Inhabited

/-- a closed hour bucket: its close, its samples, minimum and maximum of g in ms when recorded (R201) -/
structure Bucket where
  close : Int := 0
  smp : List MinSample := []
  g : Option (Int × Int) := none
  restored : Bool := false
  deriving DecidableEq, Repr, Inhabited

/-- one selector beyond its registers: end of hold-off, settle and dwell; the prepare samples (sum, count, time of the
last or of entry); suppressed target after an abort (R174); reason of a switch from no slot (6 or 7, R182); whether the
active slot's input is lost (R191); whether the forced slot is known not qualified (R167); what the command in progress gives it to
compute (bit 0 the target; bit 1 an input of R166 changed; bit 2 a write of SELMODE; bit 3 a write of another input), 0 between commands;
whether the latest target named a slot; whether the producer of a forced slot was out when its switch began (R171) -/
structure SelS where
  holdEnd : Option Nat := none
  settleEnd : Option Nat := none
  dwellEnd : Option Nat := none
  prepSum : Int := 0
  prepCnt : Nat := 0
  prepAt : Nat := 0
  noTarget : Option Nat := none
  why0 : Nat := 6
  lost : Bool := false
  forcedNq : Bool := false
  due : Nat := 0
  tgt : Bool := false
  outKnown : Bool := false
  deriving DecidableEq, Repr, Inhabited

/-- one selector as it stood before its computations of a core cycle (R180): the cycle, what was given to compute, whether an abort ended
the switch, the status fields and the selector itself -/
structure SelWas where
  cyc : Nat
  bits : Nat := 0
  aborted : Bool := false
  stage : Nat := 0
  pend : Nat := 0
  out : Nat := 0
  why : Nat := 0
  evBegin : Nat := 0
  evAbandon : Nat := 0
  was : SelS := {}
  deriving DecidableEq, Repr, Inhabited

/-- a drift model (R196): coefficients, window centre time and temperature, residual, validity -/
structure HoModel where
  a0 : Int := 0
  a1 : Int := 0
  c1 : Int := 0
  c2 : Int := 0
  tW : Int := 0
  thW : Int := 0
  res : Nat := 0
  ok : Bool := false
  deriving DecidableEq, Repr, Inhabited

/-- one DPLL beyond its registers: accumulator (units of 2^-16 ns / (20 * 2^48)), integrator, written offset, the group
in progress (sum, count), time of the last update and the interval to the next, time of the last sample, present slew term and the time it
has been moved to; the holdover average history (time, word, temperature) while LOCKED; when LOCKED began; the average ever valid, its
validity, value, temperature and midpoint; holdover entry (time, Δ, g, the model as it stood), w_h without a slew; fault of R202 given,
whether the sanity word is w_avg, IN_SPEC forced to 0; minute and bucket in progress; closed buckets newest first; window centre time; the
model before the latest refit with the core cycle of that (R207); the word before the latest write of FRW_HI, and the latest written step
with its MODE, each with its core cycle (R207) -/
structure DpllS where
  acc : Int := 0
  integ : Int := 0
  ow : Int := 0
  gsum : Int := 0
  gcnt : Nat := 0
  updAt : Nat := 0
  updI : Nat := 0
  smpAt : Nat := 0
  slew : Int := 0
  slewAt : Nat := 0
  un : Nat := 0
  hist : List (Nat × Int × Int) := []
  lockAt : Nat := 0
  avgEver : Bool := false
  avgOk : Bool := false
  wAvg : Int := 0
  thAvg : Int := 0
  tAvg : Nat := 0
  hoAt : Nat := 0
  hoDelta : Int := 0
  hoG : Option Int := none
  ho : HoModel := {}
  wh : Int := 0
  hoRep : Bool := false
  hoAvg : Bool := false
  specOff : Bool := false
  minOk : Bool := false
  slots : Nat := 0
  open_ : List MinSample := []
  openG : Option (Int × Int) := none
  buckets : List Bucket := []
  tW : Int := 0
  mWas : Option (Nat × HoModel) := none
  frw : Option (Nat × Int) := none
  step : Option (Nat × Int × Nat) := none
  deriving DecidableEq, Repr, Inhabited

/-! ### REF (R94 to R127) -/

/-- monitors of one pin beyond its registers: running, reference edges that pass before the next divided one (R95), latest divided edge, good intervals in a row, next missing-edge
instant, frequency measurement (first edge, edges), latest offset against the time base, phase-hit interval (start, periods) -/
structure PinS where
  run : Bool := false
  skip : Nat := 0
  last : Option Nat := none
  good : Nat := 0
  miss : Nat := 0
  fm0 : Option Nat := none
  fmE : Nat := 0
  off : Int := 0
  ph0 : Option Nat := none
  phN : Nat := 0
  deriving DecidableEq, Repr, Inhabited

/-- one time-of-day receiver beyond its registers: previous accepted label (UTC seconds) and pulses since; the pulse
that a sentence may label (its time of day and device time); end of the label timeout; a ZDA or RMC label waiting for
its partner (SRC 0b00); the last RMC status; whether any RMC came -/
structure TodS where
  prev : Option Nat := none
  pulses : Nat := 0
  pulseAt : Option Nat := none
  labelEnd : Option Nat := none
  zda : Option Nat := none
  rmc : Option Nat := none
  next : Option Nat := none
  lblDelta : Int := 0
  deriving DecidableEq, Repr, Inhabited

/-- a sentence with the core cycle its final LF came in and the receiver before it (R127) -/
structure TodWas where
  cyc : Nat
  bytes : List Byte
  was : TodS
  deriving DecidableEq, Repr, Inhabited

/-- one reference slot beyond its registers: validity and advertised QL given by its producer (slots 16 to 31), end of
the qualification time -/
structure SlotS where
  srcOk : Bool := false
  srcQl : Nat := 15
  qualEnd : Option Nat := none
  deriving DecidableEq, Repr, Inhabited

/-- REF's SYSCLK side: consecutive passing presence windows, OCXO_RDY level and its last rise, start of the warm-up,
whether it runs, ELAPSED held when it stopped -/
structure ClkS where
  pass : Nat := 0
  rdy : Bool := false
  rdyAt : Nat := 0
  warmAt : Nat := 0
  warmRun : Bool := false
  elapsed : Nat := 0
  rclkAt : Nat := 0
  deriving DecidableEq, Repr, Inhabited

/-! ### PMU (R128 to R163) -/

/-- one slice: device time of its latest capture and the time it stamped, its live linearity table where it differs from the linear one
(by tap), the table before that, when the table was replaced, loop checks in a row within one tap, whether its table age has been reported -/
structure SliceS where
  cap : Option Nat := none
  capT : Nat := 0
  lin : Tab := []
  old : Tab := []
  tabAt : Option Nat := none
  good : Nat := 0
  stale : Bool := false
  deriving DecidableEq, Repr, Inhabited

/-- the pairing state of a unit (R145): position in units of R129, uncalibrated, an edge lost since -/
inductive PairSt where
  | idle
  | open_ (s : Nat) (uncal lossy : Bool)
  | pend (p : Nat) (uncal lossy : Bool)
  deriving DecidableEq, Repr, Inhabited

/-- one stream of a frequency gate: edges, first position, Σ(u_i - u_0), Σ i (u_i - u_0) -/
structure StreamS where
  n : Nat := 0
  u0 : Nat := 0
  su : Int := 0
  siu : Int := 0
  deriving DecidableEq, Repr, Inhabited

/-- a frequency gate (R149): its first edge, the start stream, the stop stream up to the last start edge and beyond it, uncalibrated up to
that edge and beyond it, edges lost, the time DPLL's word at the last start edge (R150) -/
structure GateS where
  u0 : Nat := 0
  strA : StreamS := {}
  strB : StreamS := {}
  strX : StreamS := {}
  uncal : Bool := false
  uncalX : Bool := false
  loss : Bool := false
  w : Int := 0
  deriving DecidableEq, Repr, Inhabited

/-- what a gate is judged by: GATE, BASE, NOM, the prescalers of both streams -/
structure GateCfg where
  gate : Nat := 0
  base : Bool := false
  nom : Nat := 0
  kS : Nat := 0
  kP : Nat := 0
  deriving DecidableEq, Repr, Inhabited

/-- one unit beyond its registers: edges each prescaler has seen since the last it passed (R139), which slice of each pair captures
next, pairing, gate, the gate that a write discarded in a core cycle (R163), statistics sums, its two queues -/
structure UnitS where
  cntS : Nat := 0
  cntP : Nat := 0
  altS : Bool := false
  altP : Bool := false
  pair : PairSt := .idle
  gate : Option GateS := none
  cut : Option (Nat × GateS × GateCfg) := none
  sN : Nat := 0
  s1 : Int := 0
  s2 : Int := 0
  sMin : Int := 0
  sMax : Int := 0
  sExcl : Nat := 0
  sUncal : Bool := false
  sLoss : Bool := false
  sq : Queue Postmark := {}
  rq : Queue ResultRec := {}
  deriving DecidableEq, Repr, Inhabited

/-- PMU common: origin of the coarse counters, end of a skew run, the slices whose table a REBUILD still waits for, the first automatic
skew run done; the tables last delivered over path P-10, by slice (R162); the held statistics words of each group (R157) -/
structure PmuS where
  coarse0 : Nat := 0
  skewEnd : Option Nat := none
  rebuild : Nat := 0
  auto : Bool := false
  p10 : Vector Tab 12 := Vector.replicate 12 []
  hold : Vector (List Nat) 3 := Vector.replicate 3 []
  deriving DecidableEq, Repr, Inhabited

/-! ### SYN (R208 to R235) -/

/-- the double-buffered values of a synthesiser, live (R218) -/
structure SynLive where
  refmode : Nat := 0
  mint : Nat := 0
  mfrac : Nat := 0
  frame : Nat := 0
  deriving DecidableEq, Repr, Inhabited

/-- one synthesiser beyond its registers: live values; applied word, the word delivered and when, the rate limit in force (R210); a word
held while FROZEN (R224); ever locked since L0; realignment owed (R216); the ramp of GLIDE: its start value (while FROZEN the
frequency held), start and end; the frame counter at a device time (R214), one DCO half-period being hpU of its units -/
structure SynS where
  live : SynLive := {}
  wa : Int := 0
  wd : Int := 0
  waAt : Nat := 0
  held : Option Int := none
  ever : Bool := false
  realign : Bool := false
  fFrom : Nat := 0
  glide0 : Nat := 0
  glideEnd : Nat := 0
  wrate : Nat := 0
  ph : Nat := 0
  phT : Nat := 0
  deriving DecidableEq, Repr, Inhabited

/-- one output beyond its registers: live divider values (R218); live fine delay at a device time, and where it moves to (R220); moved by
the device itself, moving to a synthesiser, the last move asked for refused (R227); a change since the last read of its STAT (R231);
stopped by its synthesiser (R223); running on values that the image did not give it (R233); started since L0; STOP and LEG in force;
the end of the high phase in hand when its grid last changed, until when the rises of the grid are passed over, and the phase, in units
of hpU per half-period, by which that low phase was lengthened (R216, R220, R226, R227) -/
structure OutS where
  div : Nat := 0
  half : Nat := 0
  pre : Nat := 0
  coarse : Nat := 0
  fine : Int := 0
  auto : Bool := false
  moving : Option Nat := none
  chg : Bool := false
  muted : Bool := false
  fineAt : Nat := 0
  fineTo : Int := 0
  refused : Bool := false
  kept : Bool := false
  started : Bool := false
  stop : Nat := 0
  leg : Nat := 0
  fallAt : Nat := 0
  quiet : Nat := 0
  low : Nat := 0
  deriving DecidableEq, Repr, Inhabited

/-- a pending commit (R219): synthesiser, outputs, whether MULT, MFRAC and FRAME take part, boundary, whether an L1 reset asked for
it (R233), whether it waits for the synthesiser to return to LOCKED, the earliest device time of its boundary -/
structure CommitS where
  k : Nat
  mask : Nat
  mult : Bool
  atT : Nat
  l1 : Bool := false
  wait : Bool := false
  nb : Nat := 0
  deriving DecidableEq, Repr, Inhabited


/-! ### MNS (R263 to R288) -/

/-- one update kept for the slope: centre time (R266), unwrapped phase in 2^-48 turn, the f̂ that follows it -/
structure FreqPt where
  tc : Nat := 0
  ph : Int := 0
  f : Int := 0
  deriving DecidableEq, Repr, Inhabited

/-- one sample of the estimator window: x, its reference phase ψ (unwrapped, 2^-48 turn) and its instant -/
structure WinPt where
  x : Int := 0
  psi : Int := 0
  t : Nat := 0
  deriving DecidableEq, Repr, Inhabited

/-- one mains channel beyond its registers: f̂ in 2^-48 Hz, window (newest first) and its length L, updates of the last FWIN
cycles (newest first), raw samples of the half cycle, reference phase, unwrapped phase φ and its instant, whether an
estimate stands behind φ; updates since ACQUIRE, good updates in a row; f_hold, device time of the DROP_MAX deadline,
the phase extrapolated since the dropout (R272); AMP, DIST, DFDT of the latest update; clipped samples in a row, instant of the last; the last
crossing that gave a pulse (R275) -/
structure ChanS where
  f : Int := 0
  win : List WinPt := []
  len : Nat := 0
  pts : List FreqPt := []
  raw : List Int := []
  psi : Int := 0
  phi : Int := 0
  t : Nat := 0
  est : Bool := false
  ups : Nat := 0
  okRun : Nat := 0
  fHold : Int := 0
  drop : Nat := 0
  ext : Option Int := none
  amp : Nat := 0
  dist : Nat := 0
  dfdt : Int := 0
  clips : Nat := 0
  clipAt : Nat := 0
  pulsed : Option Int := none
  pulseT : Nat := 0
  deriving DecidableEq, Repr, Inhabited

/-- grid time beyond its registers (R278 to R282): running; E in 2^-64 s; N and φ_GT as one unwrapped phase in 2^-48 turn;
the offset O; D averaged, per-cycle sums of D (sum, count) newest first, the last D, updates both in TRACK; the last offset
of each channel; the rate and the updates of an extrapolation; GT_ALIGN waiting; the saved deviation of a restore (R282);
G less the time of day at the last update -/
structure GridS where
  run : Bool := false
  e : Int := 0
  p : Int := 0
  off : Int := 0
  d : Int := 0
  dLast : Option Int := none
  dSums : List (Int × Nat) := []
  both : Nat := 0
  offs : Vector Int 8 := Vector.replicate 8 0
  fExt : Int := 0
  exts : Nat := 0
  align : Bool := false
  restore : Option (Int × Int × Nat) := none
  dev : Int := 0
  deriving DecidableEq, Repr, Inhabited

/-- MNS: channels, grid time, instant of the latest update (time of day; device time), its zero-crossing queue, the three
latest classifications of each sequence group and the last of ABC and ACB (R277), the end of a modulator test, the core cycle + 1 of the
latest SNAP (R288) -/
structure MnsS where
  ch : Vector ChanS 6 := Vector.replicate 6 {}
  grid : GridS := {}
  t : Nat := 0
  at_ : Nat := 0
  zq : Queue Postmark := {}
  seqLast : Vector (List Nat) 2 := Vector.replicate 2 []
  seqDir : Vector Nat 2 := Vector.replicate 2 0
  testEnd : Option Nat := none
  snapAt : Nat := 0
  deriving DecidableEq, Repr, Inhabited

/-! ### NVM (R409 to R427) -/

/-- a write-back item (R413): who offered it (0 schedule, 1 + d drift model of DPLL d), up to two pages with their bytes -/
structure WbItem where
  owner : Nat := 0
  pages : List (Nat × List Byte) := []
  deriving DecidableEq, Repr, Inhabited

/-- a running save (R418): cause, slot, sequence number, SAVES, the snapshot by word, whether step 6 flushes the queue -/
structure SaveRun where
  cause : Nat := 0
  slot : Nat := 0
  seq : Nat := 0
  saves : Nat := 0
  snap : Tab := []
  flush : Bool := false
  deriving DecidableEq, Repr, Inhabited

/-- NVM beyond its registers: the running save, the write-back queue, items waiting with their requesters (R413), whether
the page in progress failed its first verify, page-buffer marks by byte, a pending PB_PROG (page, marks, bytes), the cause
of a save waiting for the end of isolation (R426), release of the last L0, the instant of the last periodic save, whether the
counter RAM was loaded since L0, whether a march test runs; whom the array is programming for (0 nobody or the save, 1 the oldest item of
the write-back queue, 2 the host, R33); the core cycle in which page-buffer bytes were last marked and those bytes (R427) -/
structure NvmS where
  save : Option SaveRun := none
  wb : List WbItem := []
  offers : List WbItem := []
  retry : Bool := false
  marks : Nat := 0
  pb : Option (Nat × Nat × List Byte) := none
  waitCause : Option Nat := none
  l0At : Nat := 0
  perAt : Nat := 0
  loaded : Bool := false
  testRun : Bool := false
  prog : Nat := 0
  markAt : Nat := 0
  markNew : Nat := 0
  deriving DecidableEq, Repr, Inhabited

/-! ### SEC (R428 to R452) -/

/-- a running fuse program (R436): field code (9 for ROLLFWD), bits of the array still to program when it began, begin -/
structure FuseRun where
  field : Nat := 0
  todo : List Nat := []
  start : Nat := 0
  deriving DecidableEq, Repr, Inhabited

/-- a service in progress (R441): operation, slot, usage, length, whether zeroisation ended it -/
structure SvcRun where
  op : Nat := 0
  slot : Nat := 0
  usage : Nat := 0
  len : Nat := 0
  ended : Bool := false
  deriving DecidableEq, Repr, Inhabited

/-- SEC beyond its registers: the sensed fuse copies (R433), the slot keys, KEK, DRBG requests since the last reseed and
reseeds, device time of the last reseed, service and fuse program in progress, a self-test run in progress (R443), whether one ever passed since
L0; the command in progress changed a key slot (the model's own mark) -/
structure SecS where
  sensed : Nat := 0
  keys : Vector (List Byte) 32 := Vector.replicate 32 []
  kek : Option (List Byte) := none
  req : Nat := 0
  seeds : Nat := 0
  seedAt : Nat := 0
  svc : Option SvcRun := none
  fuse : Option FuseRun := none
  testing : Bool := false
  ready : Bool := false
  rekeyed : Bool := false
  deriving DecidableEq, Repr, Inhabited

/-! ### IMG (R61 to R93) -/

/-- the STRUCT segment in force (R66): PM_GANG, SYNCE_DPLL, the DPLL of each synthesiser, OUT_SYN of each output, the
candidate mask of each DPLL, port and link masks -/
structure StructS where
  pmGang : Nat := 0
  synceDpll : Nat := 255
  dpllSyn : List Nat := []
  outSyn : List Nat := []
  dpllCand : List Nat := []
  portMaster : Nat := 0
  portSlave : Nat := 0
  portTc : Nat := 0
  cascade : Nat := 0
  syncePorts : Nat := 0
  deriving DecidableEq, Repr, Inhabited

/-- a BLOCKCFG record (R68): word address, byte enables, value, directory index of its segment -/
structure CfgRec where
  addr : Nat := 0
  be : Nat := 0
  val : Nat := 0
  seg : Nat := 0
  deriving DecidableEq, Repr, Inhabited

/-- a verified partial image waiting for its commit cycle (R87) -/
structure Shadow where
  recs : List CfgRec := []
  routes : List (Nat × Nat) := []
  sched : Option (Nat × List Byte) := none
  deriving DecidableEq, Repr, Inhabited

/-- IMG beyond its registers: whether an image stands applied; structure; tables of routes, I/O standards (standard and
options by class and index) and pins (function and pull by ball); the candidate in hand: its number, bytes downloaded; whether the spare bank holds
a verified full image that COMMIT may name; facts of the running image: signed, SECVER, KEYIDX, INIT_MODE; whether the first
candidate since L0 has been read; a recovery download; the shadow of a partial reload, that of one aborted with its core cycle (R93); the
records still to be applied in pass 2, always-on records of a partial reload that IMG holds (R68); whether an L1 has the
running image applied again (R85); the source the candidate came from (R89) -/
structure ImgS where
  applied : Bool := false
  struct_ : StructS := {}
  routes : Tab := []
  iostd : Tab := []
  pinmux : Tab := []
  cand : Nat := 0
  dl : Nat := 0
  dlService : Bool := false
  spareOk : Bool := false
  signed : Bool := false
  secver : Nat := 0
  keyIdx : Nat := 0
  initMode : Nat := 0
  recovery : Bool := false
  shadow : Option Shadow := none
  abort : Option (Nat × Shadow) := none
  work : Option (List CfgRec) := none
  rws : List CfgRec := []
  reapply : Bool := false
  src : Nat := 0
  deriving DecidableEq, Repr, Inhabited

/-! ### AST (R289 to R304) -/

/-- AST beyond its registers: the computation in progress (true: both days, false: day 1 alone), the core cycle + 1 of its latest
full start, whether a vector test runs, whether anything was ever published since L0, the core cycle + 1 of the latest publication,
the core cycle of the latest completion with what published was before it -/
structure AstS where
  busy : Option Bool := none
  busyAt : Nat := 0
  testRun : Bool := false
  published : Bool := false
  pubAt : Nat := 0
  done : Option (Nat × Bool) := none
  deriving DecidableEq, Repr, Inhabited

/-! ### SCH (R305 to R337) -/

/-- an outcome record before it has its sequence number (R320): feedback postmark, instant (2^-16 ns), entry, origin, target
code, result, FLAGS bits [27:16] as bits 0 to 11; a gap record's sequence is given at insertion -/
structure OutRec where
  fbpm : Nat := 0
  t : Nat := 0
  entry : Nat := 0
  origin : Nat := 0
  target : Nat := 0
  result : Nat := 0
  flags : Nat := 0
  seq : Nat := 0
  deriving DecidableEq, Repr, Inhabited

/-- an action under way: its record so far, the action code, the command slot it belongs to (8: none) with the command's identity,
the link and the SEQ or command identity of a partner-role request it answers -/
structure ActS where
  rec_ : OutRec := {}
  act : Nat := 0
  slot : Nat := 8
  ident : Nat := 0
  ref : Option (Nat × Nat) := none
  deriving DecidableEq, Repr, Inhabited

/-- a place in the record order of R320: the identity of an action, its target, its record when final -/
structure OpenRec where
  id : Nat := 0
  target : Nat := 0
  rec_ : Option OutRec := none
  deriving DecidableEq, Repr, Inhabited

/-- an action awaiting its feedback (R317): its place, the action, the expected level (a pulse channel: an active edge), the
end of its window -/
structure FbWait where
  id : Nat := 0
  act : ActS := {}
  want : Bool := false
  dl : Nat := 0
  deriving DecidableEq, Repr, Inhabited

/-- an action loaded into a dispatch comparator (R313): the instant loaded and the base instant (2^-16 ns), the action -/
structure LoadedS where
  at_ : Nat := 0
  base : Nat := 0
  act : ActS := {}
  deriving DecidableEq, Repr, Inhabited

/-- one switching channel beyond its registers: the comparator, actions waiting for BUSY, end of the running pulse, the ball it
drives and the level to return to, feedback waits, the feedback stamp series, whether an active coil pulse is the set coil's -/
structure ChanSw where
  load : List LoadedS := []
  wait : List (Nat × ActS) := []
  pulseEnd : Nat := 0
  ball : Nat := 0
  back : Bool := false
  fb : List FbWait := []
  fbSeq : Nat := 0
  deriving DecidableEq, Repr, Inhabited

/-- a target of a registered or plain command (R327): code, armed (a plain command's remote target: sent), outcome final, PENDING given, COMMIT or
CANCEL owed and not acknowledged -/
structure TgtS where
  code : Nat := 0
  armed : Bool := false
  final : Bool := false
  pend : Bool := false
  owed : Bool := false
  deriving DecidableEq, Repr, Inhabited

/-- a command slot (R327, R330): plain or registered, action, group, T_f in 2^-16 ns, DL in ms, entry (4096: host), targets,
whether T_f has passed, command identity -/
structure RcS where
  plain : Bool := false
  act : Nat := 0
  group : Nat := 0
  tf : Nat := 0
  dl : Nat := 0
  entry : Nat := 4096
  tgts : List TgtS := []
  fired : Bool := false
  ident : Nat := 0
  deriving DecidableEq, Repr, Inhabited

/-- a remote action sent and not yet reported (R325): its transaction, link, address, channel, SEQ once sent (a SWITCH), command
identity (an ARM), its place in the record order, its action -/
structure RemoteS where
  txn : Nat := 0
  link : Nat := 0
  addr : Nat := 0
  chan : Nat := 0
  seq : Option Nat := none
  ident : Option Nat := none
  id : Nat := 0
  act : ActS := {}
  deriving DecidableEq, Repr, Inhabited

/-- what a recovery pass was triggered by (R322) -/
inductive RecovWhy where
  | l0
  | rebuilt
  | modeAs
  | timeSet
  deriving DecidableEq, Repr, Inhabited

/-- SCH beyond its registers: the working copy (word w of entry i at key 4 i + w), group members, latest instant handled per
entry and target, the instant up to which solar entries are served where it lies before SCAN_T, whether MODE_AS entered again asks for
their pass, whether the running pass serves them (R51), NO_EVENT records given (entry, date), an entry write waiting for its write-back,
channels, remote actions, places in the record order and the next identity, command slots and the next command identity, the
recovery trigger waiting and when its wait ends, the instant t_R of a running pass (2^-16 ns), STATE before the pass, end of the guard after a backward set, groups in error (R326), the outcome
queue, whether the schedule has been built, end of a comparator test, the second of the latest scan (R322) -/
structure SchS where
  ents : Tab := []
  mem : Tab := []
  last : Tab := []
  solScan : Option Nat := none
  solAsk : Bool := false
  solPass : Bool := false
  noEv : List (Nat × Nat) := []
  ch : Vector ChanSw 48 := Vector.replicate 48 {}
  remote : List RemoteS := []
  open_ : List OpenRec := []
  nextId : Nat := 0
  rc : Vector RcS 8 := Vector.replicate 8 {}
  ident : Nat := 0
  why : Option RecovWhy := none
  whyAt : Nat := 0
  tR : Option Nat := none
  guardEnd : Option Nat := none
  grpErr : Nat := 2 ^ 64 - 1
  oq : Queue OutRec := {}
  built : Bool := false
  testEnd : Option Nat := none
  scanSec : Nat := 0
  deriving DecidableEq, Repr, Inhabited

/-! ### CRL (R373 to R408) -/

/-- a transaction in the pool (R388): its identity, link, address, frame type, payload, letterbox tag, SEQ once sent, whether its
next attempt is a repetition, attempts made, when it began to be held, whether the letterbox posted it, the command slot and
target code it serves -/
structure Txn where
  id : Nat := 0
  link : Nat := 0
  addr : Nat := 0
  type : Nat := 0
  payload : List Byte := []
  tag : Nat := 0
  seq : Option Nat := none
  retry : Bool := false
  att : Nat := 0
  heldAt : Option Nat := none
  host : Bool := false
  rc : Option (Nat × Nat) := none
  deriving DecidableEq, Repr, Inhabited

/-- the request a controller link has on the line (R378): address, type, SEQ, payload, attempts made, the pool transaction it
serves, when its answer is late -/
structure CurReq where
  addr : Nat := 0
  type : Nat := 0
  seq : Nat := 0
  payload : List Byte := []
  att : Nat := 0
  txn : Option Nat := none
  dl : Nat := 0
  deriving DecidableEq, Repr, Inhabited

/-- a time-transfer exchange of a controller link (R395): address, SEQ, t1 (2^-16 ns), whether it belongs to
a calibration run -/
structure TtS where
  addr : Nat := 0
  seq : Nat := 0
  t1 : Int := 0
  cal : Bool := false
  deriving DecidableEq, Repr, Inhabited

/-- an armed target of a partner-role link (R328): command identity, channel, action, T_f (2^-16 ns), committed -/
structure ArmedS where
  ident : Nat := 0
  chan : Nat := 0
  act : Nat := 0
  tf : Nat := 0
  committed : Bool := false
  deriving DecidableEq, Repr, Inhabited

/-- one link beyond its registers. Controller: the request on the line, a failed one to repeat, next SEQ, frames of the round
still to send (address, HELLO), a round due while one runs, round number, when the next falls due, rotation of the probe, address served last
per class, negotiation frames due (address, type), the exchange under way. Partner: last SEQ executed and its stored response (type, SEQ, payload), time of the last addressed frame, events with
their SEQ, LOSS due, next event SEQ, armed targets, t2 and t3 with the SEQ of the exchange under way, launch due (device time); slot 28: time
of the last accepted exchange, whether the last TT_FUP carried TIME_SET, its QL, cascade-unauthenticated reported. Both: the last frame sent with
its type, times of the frames rejected within the last second, its timestamp queue -/
structure LinkS where
  cur : Option CurReq := none
  seq : Nat := 1
  round : List (Nat × Bool) := []
  roundDue : Bool := false
  roundNo : Nat := 0
  roundAt : Nat := 0
  probe : Nat := 1
  served : Vector Nat 5 := Vector.replicate 5 0
  neg : List (Nat × Nat) := []
  tt : Option TtS := none
  pSeq : Option Nat := none
  resp : Nat × Nat × List Byte := (0, 0, [])
  frameAt : Nat := 0
  events : List (Nat × List Byte) := []
  evLoss : Bool := false
  evSeq : Nat := 1
  armed : List ArmedS := []
  t2 : Int := 0
  t3 : Int := 0
  ttSeq : Option Nat := none
  launch : Option Nat := none
  exchAt : Option Nat := none
  timeSet : Bool := false
  ql : Nat := 15
  unauth : Bool := false
  sent : Option (Nat × CrlFrame) := none
  rej : List Nat := []
  tsq : Queue Postmark := {}
  deriving DecidableEq, Repr, Inhabited

/-- one address of a controller link beyond its registers: VMAP of its IDENT, the version being negotiated, SEQ of the last event
received, cascade-unauthenticated already reported, when the next exchange falls due, the calibration run: start, next exchange,
samples -/
structure PartS where
  vmap : Nat := 0
  chosen : Nat := 0
  evLast : Nat := 0
  unauth : Bool := false
  ttAt : Nat := 0
  calAt : Nat := 0
  calNext : Nat := 0
  calSmp : List Int := []
  deriving DecidableEq, Repr, Inhabited

/-- an inbound letterbox message (R405): link, address, kind, tag, payload -/
structure LbiMsg where
  link : Nat := 0
  addr : Nat := 0
  kind : Nat := 0
  tag : Nat := 0
  payload : List Byte := []
  deriving DecidableEq, Repr, Inhabited

/-- CRL: links, addresses (32 k + a), the pool in issue order and the next identity, staged words, inbound letterbox, the
dead-letter queue (transaction, reason), identities of transactions dead-lettered by the command in progress (the model's own,
none between commands), the link slot 28 is taken from -/
structure CrlS where
  link : Vector LinkS 4 := Vector.replicate 4 {}
  part : Vector PartS 128 := Vector.replicate 128 {}
  pool : List Txn := []
  nextId : Nat := 0
  staged : List Word := []
  lbi : List LbiMsg := []
  dlq : List (Txn × Nat) := []
  dead : List Nat := []
  fol : Option Nat := none
  deriving DecidableEq, Repr, Inhabited

/-! ### PTP (R338 to R372) -/

/-- a foreign master (R350): its sender, the data its latest Announce carried, when the latest two came -/
structure Foreign where
  srcId : Nat := 0
  srcPort : Nat := 0
  ann : AnnData := {}
  at_ : Nat := 0
  prev : Option Nat := none
  deriving DecidableEq, Repr, Inhabited

/-- a frame in an egress queue (R342, R343). length; kind: 0 a frame that is no PTP message, 1 + messageType for a PTP message, 32 an
ESMC PDU; whether the device made it; sequence, domain, sender; requester of a response; the time it carries (2^-16 ns); its
correction; Announce data, with the civil offset in minutes of its ALTERNATE_TIME_OFFSET_INDICATOR TLV (R356); the association that signs it; matched ETYPE; carried a TLV that passed; untagged; device time of
ingress of a message to be corrected, with the link delay to add; one-step; corrected in transit; a fixed launch instant; SSM
and extended code of an ESMC PDU; destination address, UDP port (0: Layer 2) and VID of the tag of an own PTP message (R348) -/
structure Egress where
  len : Nat := 64
  kind : Nat := 0
  own : Bool := false
  seq : Nat := 0
  domain : Nat := 0
  srcId : Nat := 0
  srcPort : Nat := 0
  reqId : Nat := 0
  reqPort : Nat := 0
  t : Int := 0
  corr : Int := 0
  ann : Option AnnData := none
  ato : Option Int := none
  sa : Option Nat := none
  etMatch : Bool := false
  authOk : Bool := false
  untag : Bool := false
  ingress : Option Nat := none
  link : Int := 0
  oneStep : Bool := false
  tc : Bool := false
  launch : Option Nat := none
  ssm : Nat := 0
  ext : Option Nat := none
  dst : Nat := 0
  udp : Nat := 0
  tag : Option Nat := none
  event : Bool := false
  cyc : Nat := 0
  ord : Nat := 0
  txHz : Nat := 0
  txW : Int := 0
  deriving DecidableEq, Repr, Inhabited

/-- a transparent-clock correction waiting for its Follow_Up (R358): egress port, domain, sender, sequence, amount in
2^-16 ns, when the Sync came -/
structure TcWait where
  port : Nat := 0
  domain : Nat := 0
  srcId : Nat := 0
  seq : Nat := 0
  corr : Int := 0
  at_ : Nat := 0
  deriving DecidableEq, Repr, Inhabited

/-- one port beyond its registers. Foreign masters; the latest Sync (sequence, t1 once known, t2, correction) and the latest completed
(t1, t2, c_s); Delay_Req in flight (sequence, t3 once sent); Pdelay exchange (sequence, t1 once sent, then t2, t4 and correction of
a two-step response); the last eight (t4, t3); discards in a row; the group of R352 (count, sum, least t2 - t1 - c_s with its
offset); whether a value was passed on since UNCALIBRATED; ends of the announce receipt timeout and of the qualification; due times
of Sync, Announce and delay request; sequence numbers sent; time of the last information PDU, due time of the next one sent, SSM
last sent (16: none); its QL; egress queues 0 to 7; the frame that left last; timestamp queue -/
structure PortS where
  foreign : List Foreign := []
  sync : Option (Nat × Option Int × Int × Int) := none
  syncDone : Option (Int × Int × Int) := none
  dreq : Option (Nat × Option Int) := none
  pd : Option (Nat × Option Int) := none
  pdResp : Option (Int × Int × Int) := none
  nrr : List (Nat × Int) := []
  rejRun : Nat := 0
  grpN : Nat := 0
  grpSum : Int := 0
  grpBest : Option (Int × Int) := none
  passed : Bool := false
  annDl : Option Nat := none
  qualDl : Option Nat := none
  syncAt : Nat := 0
  annAt : Nat := 0
  dreqAt : Nat := 0
  sSync : Nat := 0
  sAnn : Nat := 0
  sDreq : Nat := 0
  esmcAt : Option Nat := none
  esmcDue : Nat := 0
  esmcTx : Nat := 16
  ql : Nat := 15
  q : Vector (List Egress) 8 := Vector.replicate 8 []
  ord : Nat := 0
  sent : Option Egress := none
  tsq : Queue Postmark := {}
  deriving DecidableEq, Repr, Inhabited

/-- an entry of the address table (R341): MAC, VID, port mask, static, time last seen -/
structure FdbEnt where
  mac : Nat := 0
  vid : Nat := 0
  ports : Nat := 0
  static_ : Bool := false
  seen : Nat := 0
  deriving DecidableEq, Repr, Inhabited

/-- PTP: ports, address table, VLAN table (UNTAG and MEMBER by VID), corrections waiting, C_lock and its accuracy (R354), the port in
UNCALIBRATED or SLAVE with its parent, whether a loopback test runs; whether the command in progress changed what R355 and R364
follow, and whether the time DPLL entered LOCKED in it (both the model's own, false between commands) -/
structure PtpS where
  port : Vector PortS 6 := Vector.replicate 6 {}
  fdb : List FdbEnt := []
  vlan : Tab := []
  tc : List TcWait := []
  cLock : Nat := 248
  aLock : Nat := 254
  parent : Option (Nat × Foreign) := none
  testRun : Bool := false
  stale : Bool := false
  entered : Bool := false
  deriving DecidableEq, Repr, Inhabited


/-- the core cycle in progress: the register file and the counter RAM as the cycle began, and what was set or counted in register fields
since, by field key (R155, R163, R427 and the coincidence tables of the blocks) -/
structure CycS where
  regs : Tab := []
  cram : Tab := []
  set : Tab := []
  deriving DecidableEq, Repr, Inhabited

/-! ### The whole state -/

/-- Everything the spec gives the block, and the queue of waiting commands.
pending: commands waiting, first in first out. now: device time. tod: time of day (units of 1/20 of 2^-64 ns since 1970 TAI,
R236). regs: the register file, one entry per field that is not at its reset value (R7). cyc: the core cycle in progress. free: the counter of free values
(log entry 10), the model's own. mram: the MRAM (R409). mramJ: MRAM writes of the command in progress, empty between
commands, the model's own. cram: the counter RAM by word (R414). otp: the fuse array (R431). The rest: one structure per
block for what no register shows. tempHeld: the last valid temperature; tempAt: when the
low 16 bits of the reading last changed; tempStuck: whether 600 s without a change have been reported (R199). minAt: the latest learning minute's end (R197) -/
structure State where
  pending : List Instr := []
  now : Nat := 0
  tod : Nat := 0
  regs : Tab := []
  cyc : CycS := {}
  free : Nat := 0
  mram : List Host.Cell := []
  mramJ : List Host.Cell := []
  cram : Tab := []
  otp : Nat := 0
  tempHeld : Int := 0
  tempAt : Nat := 0
  tempStuck : Bool := false
  minAt : Nat := 0
  gen : GenS := {}
  rst : RstS := {}
  flt : FltS := {}
  host : HostS := {}
  aon : AonS := {}
  img : ImgS := {}
  clk : ClkS := {}
  pin : Vector PinS 16 := Vector.replicate 16 {}
  todr : Vector TodS 2 := Vector.replicate 2 {}
  todWas : Vector (Option TodWas) 2 := Vector.replicate 2 none
  slot : Vector SlotS 32 := Vector.replicate 32 {}
  pmu : PmuS := {}
  slice : Vector SliceS 12 := Vector.replicate 12 {}
  unit : Vector UnitS 12 := Vector.replicate 12 {}
  sel : Vector SelS 8 := Vector.replicate 8 {}
  selWas : Vector (Option SelWas) 8 := Vector.replicate 8 none
  dpll : Vector DpllS 8 := Vector.replicate 8 {}
  est : Vector SlotEst 32 := Vector.replicate 32 {}
  syn : Vector SynS 5 := Vector.replicate 5 {}
  out : Vector OutS 16 := Vector.replicate 16 {}
  commit : List CommitS := []
  tkp : TkpS := {}
  mns : MnsS := {}
  nvm : NvmS := {}
  sec : SecS := {}
  ast : AstS := {}
  sch : SchS := {}
  crl : CrlS := {}
  ptp : PtpS := {}
  deriving DecidableEq, Repr, Inhabited

/-- the machine right after an L0 reset at power-on -/
def State.reset : State := {}

end Sys2Proof.Machine
end

