-- ==== Sys2Proof/Machine/Ops.lean ====
section
/-! DEFINITION. The named operations every block shares: reading and writing a register field, passing of time,
raising a fault source, the record queues of R36 to R42 and R152 to R154, and what holds a block from running. -/

namespace Sys2Proof.Machine
open Sys2Proof.Reg

/-! ### Register fields -/

/-- the value of a register field (R4, R7) -/
def rd (s : State) (f : Fld) : Nat := tabGet s.regs (fldKey f) (resetOf (fldKey f))

/-- v recorded as set or counted in field f in the present core cycle -/
def cycMark (f : Fld) (v : Nat) (s : State) : State := { s with cyc := { s.cyc with set := tabPut s.cyc.set (fldKey f) v 0 } }

/-- what was set or counted in field f in the present core cycle -/
def cycSet (s : State) (f : Fld) : Nat := tabGet s.cyc.set (fldKey f) 0

/-- the field as the present core cycle began -/
def cycWas (s : State) (f : Fld) : Nat := tabGet s.cyc.regs (fldKey f) (resetOf (fldKey f))

/-- the field set to v, cut to its width; a one-bit field set to 1 is recorded for the core cycle -/
def put (f : Fld) (v : Nat) (s : State) : State :=
  { s with
    regs := tabPut s.regs (fldKey f) (v % 2 ^ fldWidth f) (resetOf (fldKey f))
    cyc := if fldWidth f = 1 ∧ v % 2 = 1 then { s.cyc with set := tabPut s.cyc.set (fldKey f) 1 0 } else s.cyc }

/-- the signed value of a field (R10) -/
def rdS (s : State) (f : Fld) : Int := sgn (fldWidth f) (rd s f)

/-- a field set to a signed value -/
def putS (f : Fld) (v : Int) (s : State) : State := put f (uns (fldWidth f) v) s

/-- a one-bit field as a truth value -/
def on (s : State) (f : Fld) : Bool := rd s f == 1

/-- a one-bit field set to a truth value -/
def putB (f : Fld) (b : Bool) (s : State) : State := put f (b2n b) s

/-- bit i of a field set, recorded for the core cycle -/
def putBit (f : Fld) (i : Nat) (s : State) : State := cycMark f (setBit (cycSet s f) i) (put f (setBit (rd s f) i) s)

/-- bit i of a field cleared -/
def clearBit (f : Fld) (i : Nat) (s : State) : State := put f (clrBit (rd s f) i) s

/-- n added to a counting field, saturating at its width, recorded for the core cycle (R155, R512) -/
def bumpBy (f : Fld) (n : Nat) (s : State) : State := cycMark f (cycSet s f + n) (put f (min (rd s f + n) (2 ^ fldWidth f - 1)) s)

/-- one added to a counting field -/
def bump (f : Fld) (s : State) : State := bumpBy f 1 s

/-- a wrapping counter -/
def bumpWrap (f : Fld) (s : State) : State := put f (rd s f + 1) s

/-- the value of a pair of words, lo below hi (R9) -/
def rdPair (s : State) (lo hi : Fld) : Nat := rd s lo + rd s hi * 2 ^ 32

/-- a pair of words set -/
def putPair (lo hi : Fld) (v : Nat) (s : State) : State := s |> put lo v |> put hi (v / 2 ^ 32)

/-- a pair of words set to a signed value, the high word sign-extended (R9, R10) -/
def putPairS (lo hi : Fld) (v : Int) (s : State) : State := putPair lo hi (uns 64 v) s

/-- the signed 48-bit value of a pair whose high word carries bits [47:32] in [15:0] -/
def rdPair48 (s : State) (lo hi : Fld) : Int := sgn 48 (rd s lo + rd s hi % 65536 * 2 ^ 32)

/-! Registers that an index register selects (the partner entries of R404): bank b of a field. -/

def bankKey (b : Nat) (f : Fld) : Nat := fldKey f + (b + 1) * 2 ^ 40
def rdB (s : State) (b : Nat) (f : Fld) : Nat := tabGet s.regs (bankKey b f) 0
def putIn (b : Nat) (f : Fld) (v : Nat) (s : State) : State :=
  { s with regs := tabPut s.regs (bankKey b f) (v % 2 ^ fldWidth f) 0 }
def onB (s : State) (b : Nat) (f : Fld) : Bool := rdB s b f == 1
def rdBS (s : State) (b : Nat) (f : Fld) : Int := sgn (fldWidth f) (rdB s b f)

/-! ### Free values (log entry 10) -/

/-- the next free value, a number nothing constrains, and the state that has used it up -/
def fresh (s : State) : Nat × State := (Config.freeNat s.free, { s with free := s.free + 1 })

/-! ### Time (R20, R185, R236) -/

/-- one nanosecond in units of 2^-20 PMCLK period (R131) -/
def nsU : Nat := 1310720
def usU : Nat := 1310720000
def msU : Nat := 1310720000000
def secU : Nat := 1310720000000000
/-- one core cycle, 2.5 ns (R19) -/
def cycU : Nat := 3276800
/-- one PMCLK period, 800 ps -/
def pmU : Nat := 1048576
/-- one RCLK cycle at 8.192 MHz (R21) -/
def rclkU : Nat := 160000000
/-- one period of the 32.768 kHz clock -/
def slowU : Nat := 40000000000

/-- one nanosecond of the time-of-day counter and of the accumulators: units of 1/20 of 2^-64 ns -/
def nsT : Nat := 20 * 2 ^ 64
def secT : Nat := 1000000000 * nsT
/-- 2^-16 ns in the same units -/
def t16T : Nat := 20 * 2 ^ 48

/-- the time DPLL (R18) -/
def timeDpll (s : State) : Nat := rd s GEN_CLKSTAT_TIME_DPLL

/-- the word of DPLL d (R184) -/
def wordOf (s : State) (d : Nat) : Int := rdPair48 s (SEL_DPLLd_FREQ_LO_W d) (SEL_DPLLd_FREQ_HI_W d)

/-- the state of DPLL d: 0 FREERUN, 1 ACQUIRING, 2 LOCKED, 3 HOLDOVER (R190) -/
def dpllState (s : State) (d : Nat) : Nat := rd s (SEL_DPLLd_STAT_STATE d)

/-- an accumulator or the time of day after dt units of device time at word w: each unit adds (2^48 + w) of 1/20 of
2^-64 ns (R185, R236) -/
def accAdd (a : Int) (dt : Nat) (w : Int) : Int := a + (dt : Int) * (2 ^ 48 + w)

/-- the number of the core cycle that device time t lies in -/
def cycleOf (t : Nat) : Nat := t / cycU

/-- the record of the core cycle at device time t: kept within the cycle, begun anew in a later one -/
def cycleAt (t : Nat) (s : State) : CycS := if cycleOf t = cycleOf s.now then s.cyc else { regs := s.regs, cram := s.cram }

/-- device time moved on to t: the time of day and the eight accumulators advance by their words (R185, R236) -/
def advanceTo (t : Nat) (s : State) : State :=
  if t ≤ s.now then s else
  if s.tkp.run then
    { s with
      now := t
      cyc := cycleAt t s
      tod := (accAdd s.tod (t - s.now) (wordOf s (timeDpll s))).toNat
      dpll := (List.range 8).foldl (fun v d => upd v d (fun x => { x with acc := accAdd x.acc (t - s.now) (wordOf s d) })) s.dpll }
  else { s with now := t, cyc := cycleAt t s }

/-- dt units pass -/
def pass (dt : Nat) (s : State) : State := advanceTo (s.now + dt) s

/-- the time of day at device time t, later or earlier than now (R130) -/
def todAt (s : State) (t : Nat) : Nat :=
  (if s.now ≤ t then accAdd s.tod (t - s.now) (wordOf s (timeDpll s))
   else accAdd s.tod (s.now - t) (-(wordOf s (timeDpll s)) - 2 * 2 ^ 48)).toNat

/-- whole TAI seconds of the time of day -/
def todSec (s : State) : Nat := s.tod / secT

/-- a time of day rounded to 2^-16 ns (R236, R102) -/
def t16 (tod : Nat) : Nat := roundDivN tod t16T

/-- the time of day now in 2^-16 ns -/
def now16 (s : State) : Nat := t16 s.tod

/-- the device time at which the time of day reaches the value a (units of nsT), never before now -/
def whenTod (s : State) (a : Nat) : Nat :=
  if a ≤ s.tod then s.now else s.now + ceilDiv (a - s.tod) ((2 ^ 48 + wordOf s (timeDpll s)).toNat)

/-- the accumulator of DPLL d; the time DPLL's is the time of day (R185) -/
def accOf (s : State) (d : Nat) : Int := if d = timeDpll s then s.tod else (ix s.dpll d).acc

/-- seconds, nanoseconds and fraction of a time in 2^-16 ns (R13) -/
def secOf16 (t : Nat) : Nat := t / 65536000000000
def nsOf16 (t : Nat) : Nat := t / 65536 % 1000000000
def fracOf16 (t : Nat) : Nat := t % 65536

/-- milliseconds elapsed since device time t -/
def msSince (s : State) (t : Nat) : Nat := (s.now - t) / msU
def secSince (s : State) (t : Nat) : Nat := (s.now - t) / secU

/-- slow edges (32.768 kHz) at or before device time t -/
def slowEdges (t : Nat) : Nat := t / slowU

/-! ### Changing one block's hidden state -/

def modSel (d : Nat) (f : SelS → SelS) (s : State) : State := { s with sel := upd s.sel d f }
def modDpll (d : Nat) (f : DpllS → DpllS) (s : State) : State := { s with dpll := upd s.dpll d f }
def modPin (n : Nat) (f : PinS → PinS) (s : State) : State := { s with pin := upd s.pin n f }
def modTodr (k : Nat) (f : TodS → TodS) (s : State) : State := { s with todr := upd s.todr k f }
def modSlot (i : Nat) (f : SlotS → SlotS) (s : State) : State := { s with slot := upd s.slot i f }
def modEst (i : Nat) (f : SlotEst → SlotEst) (s : State) : State := { s with est := upd s.est i f }
def modSlice (n : Nat) (f : SliceS → SliceS) (s : State) : State := { s with slice := upd s.slice n f }
def modUnit (b : Nat) (f : UnitS → UnitS) (s : State) : State := { s with unit := upd s.unit b f }
def modSyn (k : Nat) (f : SynS → SynS) (s : State) : State := { s with syn := upd s.syn k f }
def modOut (n : Nat) (f : OutS → OutS) (s : State) : State := { s with out := upd s.out n f }

/-! ### Faults (R453, R454) -/

/-- fault source src raised, for instance j where it has instances; the collector takes it at the end of the command
(log entry 5) -/
def raise (src : Nat) (j : Option Nat) (s : State) : State :=
  { s with flt := { s.flt with raised := s.flt.raised ++ [(src, j)] } }

/-- the host access fault with its cause and the address as issued: HAF captures the first (R513) -/
def haf (cause addr : Nat) (s : State) : State :=
  let s := raise 0 none { s with host := { s.host with haf := true } }
  if on s GEN_HAF_VALID then put GEN_HAF_MORE (satInc (rd s GEN_HAF_MORE) 7) s
  else
    s |> put GEN_HAF_VALID 1 |> put GEN_HAF_CAUSE cause |> cycMark GEN_HAF_CAUSE cause |> put GEN_HAF_ADDR addr |> cycMark GEN_HAF_ADDR addr
      |> put GEN_HAF_MORE 0

/-- the access being carried out is refused by its block or its chapter: the host access fault with cause 0x4 (R513) -/
def refuse (s : State) : State := haf 4 s.host.cur s

/-- is block b held in its block reset (R457) -/
def inReset (s : State) (b : Nat) : Bool :=
  match ix s.flt.win b with
  | .inReset _ => true
  | _ => false

/-- is block b isolated for test, from ISO_DONE until its release is complete (R55, R56) -/
def isolated (s : State) (b : Nat) : Bool :=
  match ix s.gen.iso b with
  | .isolated | .releasing | .releasingAgain => true
  | _ => false

/-- is a reset sequence running (R482) -/
def inSequence (s : State) : Bool := s.rst.phase != SeqPhase.run

/-- does a reset sequence of level L0 or L1 hold the logic of blocks 4 to 14 (R479, R482) -/
def seqHeld (s : State) : Bool := inSequence s && decide (s.rst.level < 2)

/-- may block b act: not held by a sequence or a block reset -/
def live (s : State) (b : Nat) : Bool := !seqHeld s && !inReset s b

/-- the effect f where the condition holds, nothing otherwise (an event that finds no timer or state of its own has no
effect, log entry 3) -/
def whenB (c : Bool) (f : State → State) (s : State) : State := if c then f s else s

/-- f applied for each i of a list, in order -/
def forEach {α : Type} (l : List α) (f : α → State → State) (s : State) : State := l.foldl (fun s i => f i s) s

/-- the mode bit in force (R45): 0 TS, 1 TC, 2 FR, 3 MS, 4 AS, 5 CA, 6 MT, 7 SE -/
def mode (s : State) (i : Nat) : Bool := bitAt (rd s GEN_MODESTAT_EFFECTIVE) i

/-- what PTP announces and sends may follow something this command changed (R355, R364) -/
def ptpStale (s : State) : State := { s with ptp := { s.ptp with stale := true } }

/-- is IMG.STATUS.STATE RUN (R89) -/
def imgRun (s : State) : Bool := rd s IMG_STATUS_STATE == 4

/-! ### Record queues (R36 to R42, R152 to R154) -/

/-- what a queue needs to know of its records: the time one carries, its number in the series and its LOSS mark, how a number and LOSS
are put on it, which of two records leaves first, and which are gap records -/
structure RecKind (α : Type) where
  time : α → Nat
  num : α → Nat × Bool
  fin : Nat → Bool → α → α
  before : α → α → Bool
  isGap : α → Bool

/-- how many of the youngest records were accepted in core cycle cy -/
def qFresh {α : Type} (cy : Nat) (q : Queue α) : Nat := if q.cyc = cy then min q.cycN q.recs.length else 0

/-- record a into a list, youngest first, ahead of at most n younger ones that leave after it; numbers and LOSS marks stay in the order
of the series (R37) -/
def qMerge {α : Type} (k : RecKind α) (a : α) : Nat → List α → List α
  | 0, l => a :: l
  | _ + 1, [] => [a]
  | n + 1, b :: r =>
    if k.before a b then k.fin (k.num a).1 (k.num a).2 b :: qMerge k (k.fin (k.num b).1 (k.num b).2 a) n r else a :: b :: r

/-- a record accepted: it takes the next number and joins the tail, ahead of equal-time records of higher source IDs; the head stays
unless it came in the same core cycle (R37, R41, R154) -/
def qAccept {α : Type} (k : RecKind α) (cy : Nat) (loss : Bool) (a : α) (q : Queue α) : Queue α :=
  let lim := if qFresh cy q = q.recs.length then q.recs.length else q.recs.length - 1
  { q with
    recs := (qMerge k (k.fin q.seq loss a) lim q.recs.reverse).reverse, seq := (q.seq + 1) % 65536, last := max q.last (k.time a)
    cyc := cy, cycN := qFresh cy q + 1 }

/-- a data record offered to a queue of capacity cap: discarded when earlier than a record of its segment (R42) or when the queue is
full (R153); the answer's counts are LOST and whether the overflow is raised -/
def qPut {α : Type} (k : RecKind α) (cap cy : Nat) (a : α) (q : Queue α) : Queue α × Nat × Bool :=
  if k.time a < q.last then ({ q with loss := true }, 1, false)
  else if cap ≤ q.recs.length then ({ q with loss := true }, 1, true)
  else ({ qAccept k cy q.loss a q with loss := false }, 0, false)

/-- the records without the youngest that is no gap record; none when all are gap records -/
def dropYoungest {α : Type} (isGap : α → Bool) (l : List α) : Option (List α) :=
  let rec go : List α → Option (List α)
    | [] => none
    | a :: r => if isGap a then (go r).map (fun x => a :: x) else some r
  (go l.reverse).map List.reverse

/-- the gap record of a reset inserted, merged by time and source ID (R37, R39, R40, R153): a full queue gives up its youngest data
record; a queue of gap records only discards it; carries says whether it carries a LOSS due -/
def qGap {α : Type} (k : RecKind α) (cap cy : Nat) (carries : Bool) (a : α) (q : Queue α) : Queue α × Nat × Bool :=
  let add (q : Queue α) : Queue α := { qAccept k cy (q.loss && carries) a q with loss := q.loss && !carries }
  if q.recs.length < cap then (add q, 0, false)
  else
    match dropYoungest k.isGap q.recs with
    | some l => (add { q with recs := l, loss := true }, 1, true)
    | none => ({ q with loss := true }, 1, true)

/-- the data records at the tail that were accepted in core cycle cy taken back, oldest first, with the queue as it was before them -/
def qTakeBack {α : Type} (k : RecKind α) (cy : Nat) (q : Queue α) : Queue α × List α :=
  let n := (((q.recs.reverse).take (qFresh cy q)).takeWhile (fun a => !k.isGap a)).length
  let l := q.recs.drop (q.recs.length - n)
  match l with
  | [] => (q, [])
  | a :: _ => ({ q with recs := q.recs.take (q.recs.length - n), seq := (k.num a).1, loss := (k.num a).2, cycN := qFresh cy q - n }, l)

/-- the gap record of a time discontinuity inserted (R37, R38): it follows every record but those accepted in its own core cycle, which
follow it with the time after the step, moved by f (R41), and it starts a new ordered segment -/
def qStep {α : Type} (k : RecKind α) (cap cy : Nat) (carries : Bool) (f : α → α) (a : α) (q : Queue α) : Queue α × Nat × Bool :=
  let b := qTakeBack k cy q
  let g := qGap { k with before := fun _ _ => false } cap cy carries a b.1
  b.2.foldl (fun r x => let p := qPut k cap cy (f x) r.1; (p.1, r.2.1 + p.2.1, r.2.2 || p.2.2)) ({ g.1 with last := 0 }, g.2.1, g.2.2)

/-- the reset of a producer begins: the data records accepted in the same core cycle are discarded; the answer counts them (R41) -/
def qCut {α : Type} (k : RecKind α) (cy : Nat) (q : Queue α) : Queue α × Nat :=
  let b := qTakeBack k cy q
  ({ b.1 with loss := b.1.loss || !b.2.isEmpty }, b.2.length)

/-- the head leaves; an empty queue stays (R154) -/
def qPop {α : Type} (q : Queue α) : Queue α := { q with recs := q.recs.tail }

/-- every record leaves, none counted, the series runs on (R154) -/
def qFlush {α : Type} (q : Queue α) : Queue α := { q with recs := [] }

/-- every record leaves at an L1 reset; the answer counts them (R39, R40) -/
def qEmpty {α : Type} (q : Queue α) : Queue α × Nat := ({ q with recs := [], loss := q.loss || !q.recs.isEmpty }, q.recs.length)

/-- flag bits of a postmark (R143) -/
def flGap : Nat := 1
def flUncal : Nat := 2
def flLoss : Nat := 4
def flUnlock : Nat := 8
def flPresc : Nat := 16

/-- a postmark before it is numbered -/
def mkStamp (t src flags : Nat) : Postmark := { t := t, src := src, flags := flags }

def stampIsGap (p : Postmark) : Bool := bitAt p.flags 0

/-- postmarks leave by time, then by source ID; nothing passes the gap record of a time discontinuity, source 0x120 (R37) -/
def stampKind : RecKind Postmark where
  time := fun p => p.t
  num := fun p => (p.seq, bitAt p.flags 2)
  fin := fun n l p => { p with seq := n, flags := clrBit p.flags 2 ||| (if l then flLoss else 0) }
  before := fun a b => (decide (a.t < b.t) || (a.t == b.t && decide (a.src < b.src))) && !(stampIsGap b && b.src == 0x120)
  isGap := stampIsGap

/-- the four head words of a postmark, packed as R13 lays them out -/
def stampNat (p : Postmark) : Nat :=
  p.seq % 65536 + p.flags % 256 * 2 ^ 16 + p.src % 1024 * 2 ^ 24 + fracOf16 p.t * 2 ^ 34 + nsOf16 p.t * 2 ^ 50
    + secOf16 p.t % 2 ^ 48 * 2 ^ 80

/-- the 128 bits of a result record (R147) -/
def resNat (r : ResultRec) : Nat := r.seq % 65536 + r.rflags % 256 * 2 ^ 40 + uns 64 r.interval * 2 ^ 64

def resIsGap (r : ResultRec) : Bool := bitAt r.rflags 0

/-- a postmark with its time moved by d units of 2^-16 ns -/
def stampMove (d : Int) (p : Postmark) : Postmark := { p with t := ((p.t : Int) + d).toNat }

/-- result records leave as they came; LOSS is result flag 6, none on a gap record (R147, R148) -/
def resKind : RecKind ResultRec where
  time := fun _ => 0
  num := fun r => (r.seq, bitAt r.rflags 6)
  fin := fun n l r => { r with seq := n, rflags := if l then r.rflags ||| 64 else r.rflags }
  before := fun _ _ => false
  isGap := resIsGap

/-- word j of a queue's head, 0 for an empty queue (R154) -/
def headWord {α : Type} (enc : α → Nat) (q : Queue α) (j : Nat) : Nat :=
  match q.recs with
  | [] => 0
  | a :: _ => enc a / 2 ^ (32 * j) % 2 ^ 32

/-- was the time DPLL out of its locked state (flag TOD_UNLOCK, R143) -/
def unlockFlag (s : State) : Nat := if dpllState s (timeDpll s) = 2 then 0 else flUnlock

/-- LOST and OVF of a queue counted, and its overflow source raised (R153) -/
def countLost (lost ovf : Fld) (src : Nat) (j : Option Nat) (n : Nat) (full : Bool) (s : State) : State :=
  if n = 0 then s
  else
    let s := s |> bumpBy lost n |> put ovf 1
    if full then raise src j s else s

/-- the core cycle in progress -/
def cycleNow (s : State) : Nat := cycleOf s.now

/-- unit b's size in slices, 0 for a slice that is not the lowest of its unit (R66, R137) -/
def unitSize (s : State) (n : Nat) : Nat :=
  let g := n / 4
  let c := bitsOf s.img.struct_.pmGang (3 * g + 2) (3 * g)
  match c, n % 4 with
  | 4, 0 => 4
  | 4, _ => 0
  | 1, 0 => 2
  | 1, 1 => 0
  | 2, 2 => 2
  | 2, 3 => 0
  | 3, 0 => 2
  | 3, 1 => 0
  | 3, 2 => 2
  | 3, 3 => 0
  | _, _ => 1

/-- the lowest slices of the units in force -/
def unitsOf (s : State) : List Nat := (List.range 12).filter (fun n => unitSize s n != 0)

/-- the stamp-queue level of unit b reached QTHR (R158) -/
def sqLevel (b : Nat) (s : State) : State :=
  let thr := rd s (PMU_PMn_CFG_QTHR b)
  if thr != 0 && (ix s.unit b).sq.recs.length == thr then putBit PMU_IRQ_SQT b s else s

/-- a new stamp queue of unit b, with the records it lost counted -/
def sqTake (b : Nat) (r : Queue Postmark × Nat × Bool) (s : State) : State :=
  countLost (PMU_PMn_SQSTAT_LOST b) (PMU_PMn_SQSTAT_OVF b) 19 none r.2.1 r.2.2 (modUnit b (fun u => { u with sq := r.1 }) s)

/-- a new result queue of unit b, with the records it lost counted -/
def rqTake (b : Nat) (r : Queue ResultRec × Nat × Bool) (s : State) : State :=
  countLost (PMU_PMn_RQSTAT_LOST b) (PMU_PMn_RQSTAT_OVF b) 19 none r.2.1 r.2.2 (modUnit b (fun u => { u with rq := r.1 }) s)

/-- a postmark into unit b's stamp queue (R144, R152, R153) -/
def sqPush (b t src flags : Nat) (s : State) : State :=
  let r := qPut stampKind (128 * unitSize s b) (cycleNow s) (mkStamp t src flags) (ix s.unit b).sq
  let s := sqTake b r s
  if r.2.1 = 0 then sqLevel b s else s

/-- a result record into unit b's result queue (R147, R152, R153) -/
def rqPush (b : Nat) (interval : Int) (rflags : Nat) (s : State) : State :=
  putBit PMU_IRQ_RES b
    (rqTake b (qPut resKind (32 * unitSize s b) (cycleNow s) { interval := interval, rflags := rflags } (ix s.unit b).rq) s)

/-- the gap record of a reset into both queues of unit b (R39, R40, R147) -/
def unitGap (b t src : Nat) (s : State) : State :=
  let r := qGap stampKind (128 * unitSize s b) (cycleNow s) true (mkStamp t src flGap) (ix s.unit b).sq
  let s := rqTake b (qGap resKind (32 * unitSize s b) (cycleNow s) false { rflags := flGap } (ix s.unit b).rq) (sqTake b r s)
  if r.2.1 = 0 then sqLevel b s else s

/-- the gap record of a time discontinuity into both queues of unit b; d moves the stamps of its core cycle (R38, R41) -/
def unitStep (b t : Nat) (d : Int) (s : State) : State :=
  let r := qStep stampKind (128 * unitSize s b) (cycleNow s) true (stampMove d) (mkStamp t 0x120 flGap) (ix s.unit b).sq
  let s := rqTake b (qStep resKind (32 * unitSize s b) (cycleNow s) false id { rflags := flGap } (ix s.unit b).rq) (sqTake b r s)
  if r.2.1 = 0 then sqLevel b s else s

/-- the records that unit b's queues accepted in the core cycle in which its reset begins are lost (R41) -/
def unitCut (b : Nat) (s : State) : State :=
  let q := qCut stampKind (cycleNow s) (ix s.unit b).sq
  let s := sqTake b (q.1, q.2, false) s
  let r := qCut resKind (cycleNow s) (ix s.unit b).rq
  rqTake b (r.1, r.2, false) s

/-- both queues of unit b emptied by an L1 reset, the records counted (R39, R40) -/
def unitEmpty (b : Nat) (s : State) : State :=
  let q := qEmpty (ix s.unit b).sq
  let s := sqTake b (q.1, q.2, false) s
  let r := qEmpty (ix s.unit b).rq
  rqTake b (r.1, r.2, false) s

end Sys2Proof.Machine
end

