-- ==== Sys2Proof/Machine/Tkp.lean ====
section
/-! DEFINITION. TKP operations: the time-scale conversions (R243 to R247), leap seconds (R245), the sentences and frames
it sends (R249, R252), the backup clock and the always-on batches (R253 to R255, R509), and SNAP (R237). -/

namespace Sys2Proof.Machine
open Sys2Proof.Reg

/-! ### Calendar (R243: days of 86 400 s) -/

/-- year, month, day of day z counted from 1970-01-01 -/
def civilOfDay (z : Nat) : Nat × Nat × Nat :=
  let z := z + 719468
  let era := z / 146097
  let doe := z % 146097
  let yoe := (doe - doe / 1460 + doe / 36524 - doe / 146096) / 365
  let doy := doe - (365 * yoe + yoe / 4 - yoe / 100)
  let mp := (5 * doy + 2) / 153
  let d := doy - (153 * mp + 2) / 5 + 1
  let m := if mp < 10 then mp + 3 else mp - 9
  (yoe + era * 400 + (if m ≤ 2 then 1 else 0), m, d)

/-- day number from 1970-01-01 of a date -/
def dayOfCivil (y m d : Nat) : Nat :=
  let y := if m ≤ 2 then y - 1 else y
  let era := y / 400
  let yoe := y % 400
  let mp := if 2 < m then m - 3 else m + 9
  let doy := (153 * mp + 2) / 5 + d - 1
  era * 146097 + yoe * 365 + yoe / 4 - yoe / 100 + doy - 719468

/-- weekday of day z, 0 Monday to 6 Sunday (R257); 1970-01-01 was a Thursday -/
def weekday (z : Nat) : Nat := (z + 3) % 7

def leapYear (y : Nat) : Bool := (y % 4 = 0 && y % 100 != 0) || y % 400 = 0

def monthDays (y m : Nat) : Nat :=
  match m with
  | 2 => if leapYear y then 29 else 28
  | 4 | 6 | 9 | 11 => 30
  | _ => 31

/-- day number of the last Sunday of a month -/
def lastSunday (y m : Nat) : Nat :=
  let z := dayOfCivil y m (monthDays y m)
  z - (weekday z + 1) % 7

/-- day number of the n-th Sunday of a month, n from 1 -/
def nthSunday (y m n : Nat) : Nat :=
  let z := dayOfCivil y m 1
  z + (6 - weekday z) + 7 * (n - 1)

/-- day of the year, from 1 -/
def dayOfYear (y m d : Nat) : Nat := dayOfCivil y m d - dayOfCivil y 1 1 + 1

/-! ### UTC and local time (R243, R246, R247) -/

/-- ΔAT in force (R244) -/
def deltaAT (s : State) : Nat := rd s TKP_STAT_DAT

/-- the UTC second counted as TAI − ΔAT since 1970 (R243) -/
def utcCount (s : State) (tai : Nat) : Int := (tai : Int) - deltaAT s

/-- the same where a count from 1970 on is asked for -/
def utcOfTai (s : State) (tai : Nat) : Nat := (utcCount s tai).toNat

/-- is a latched insertion showing 23:59:60 at this UTC count (R245) -/
def leapShown (s : State) (utc : Nat) : Bool :=
  match s.tkp.latched with
  | some m => utc == m && !on s TKP_STAT_LEAP_DEL
  | none => false

/-- is the civil configuration in error (R246, R247) -/
def civErr (s : State) : Bool :=
  let z := rdS s TKP_CIVIL_ZONE
  let bad := decide (z < -48) || decide (56 < z) || decide (8 < rd s TKP_CIVIL_DST_OFF)
  if rd s TKP_CIVIL_RULE = 3 then
    let valid := (List.range 32).filter (fun k => on s (TKP_DSTk_O_VALID k))
    let offBad := valid.any (fun k => decide (rdS s (TKP_DSTk_O_OFFSET k) < -720) || decide (840 < rdS s (TKP_DSTk_O_OFFSET k)))
    let ts := valid.map (fun k => rd s (TKP_DSTk_T_T k))
    let ordBad := (ts.zip ts.tail).any (fun p => decide (p.2 ≤ p.1))
    bad || offBad || ordBad
  else bad

/-- the civil offset in minutes and DST_ACT at a UTC instant (R246, R247); 0 while the configuration is in error -/
def civilOffset (s : State) (utc : Nat) : Int × Bool :=
  if civErr s then (0, false) else
  let zone := rdS s TKP_CIVIL_ZONE * 15
  let dst : Int := (rd s TKP_CIVIL_DST_OFF * 15 : Nat)
  match rd s TKP_CIVIL_RULE with
  | 1 =>
    let y := (civilOfDay (utc / 86400)).1
    let a := lastSunday y 3 * 86400 + 3600
    let b := lastSunday y 10 * 86400 + 3600
    let act := decide (a ≤ utc) && decide (utc < b) && decide (0 < dst)
    (if act then zone + dst else zone, act)
  | 2 =>
    let loc := ((utc : Int) + zone * 60).toNat
    let y := (civilOfDay (loc / 86400)).1
    let a : Int := (nthSunday y 3 2 * 86400 + 7200 : Nat) - zone * 60
    let b : Int := (nthSunday y 11 1 * 86400 + 7200 : Nat) - (zone + dst) * 60
    let act := decide (a ≤ utc) && decide ((utc : Int) < b) && decide (0 < dst)
    (if act then zone + dst else zone, act)
  | 3 =>
    let past := (List.range 32).filter (fun k => on s (TKP_DSTk_O_VALID k) && decide (rd s (TKP_DSTk_T_T k) ≤ utc))
    match past.getLast? with
    | some k => (rdS s (TKP_DSTk_O_OFFSET k), on s (TKP_DSTk_O_DST k))
    | none => (zone, false)
  | _ => (zone, false)

/-- date and time of day of a count of seconds since 1970 -/
structure DateTime where
  year : Nat
  month : Nat
  day : Nat
  wday : Nat
  hour : Nat
  min : Nat
  sec : Nat
  deriving DecidableEq, Repr, Inhabited

/-- days are counted from 400 years, or 146 097 days, before, so that a count below 0 has its date in 1969 -/
def dateTimeOf (t : Int) : DateTime :=
  let z := (t / 86400 + 146097).toNat
  let n := (t % 86400).toNat
  let c := civilOfDay z
  { year := c.1 - 400, month := c.2.1, day := c.2.2, wday := weekday z, hour := n / 3600, min := n % 3600 / 60, sec := n % 60 }

/-- the UTC view of a TAI second, 23:59:60 shown during an inserted second (R245) -/
def utcView (s : State) (tai : Nat) : DateTime :=
  let u := utcCount s tai
  if leapShown s u.toNat then { dateTimeOf (u - 1) with sec := 60 } else dateTimeOf u

/-- the local civil view of a TAI second (R246) -/
def civilView (s : State) (tai : Nat) : DateTime :=
  let u := utcCount s tai
  let off := (civilOffset s u.toNat).1 * 60
  if leapShown s u.toNat then { dateTimeOf (u - 1 + off) with sec := 60 } else dateTimeOf (u + off)

/-- the civil offset, DST_ACT and CIV_ERR brought up to date: a change sets EVT.DST (R246), a rise of CIV_ERR raises
source 39 (R260); not between a reset and the image, whose configuration it is -/
def civilUpdate (s : State) : State :=
  if !s.img.applied then s else
  let e := civErr s
  let c := civilOffset s (utcOfTai s (todSec s))
  let s := if e && !on s TKP_STAT_CIV_ERR then raise 39 none s else s
  let s := putB TKP_STAT_CIV_ERR e s
  let s := putB TKP_STAT_DST_ACT c.2 s
  if c.1 = s.tkp.civ then s else put TKP_EVT_DST 1 { s with tkp := { s.tkp with civ := c.1 } }

/-! ### SNAP (R237) -/

def putDate (y m d : Fld) (x : DateTime) (s : State) : State := s |> put y x.year |> put m x.month |> put d x.day
def putTime (w h m c : Fld) (x : DateTime) (s : State) : State := s |> put w x.wday |> put h x.hour |> put m x.min |> put c x.sec

/-- the time of day of the core cycle of the write, in 2^-16 ns: its beginning, or the whole second that begins in it (R237, R262) -/
def snapOf (s : State) : Nat :=
  let a := todAt s (cycleNow s * cycU)
  let b := todAt s ((cycleNow s + 1) * cycU - 1)
  if a / secT < b / secT then b / secT * 65536000000000 else t16 a

/-- the time of day and its UTC and civil views latched into the SNAP registers (R237) -/
def snapTime (s : State) : State :=
  let t := snapOf s
  let sec := secOf16 t
  s |> put TKP_SNAP_FRAC_FRAC (fracOf16 t) |> put TKP_SNAP_NS_NS (nsOf16 t) |> put TKP_SNAP_SEC_LO_SEC sec
    |> put TKP_SNAP_SEC_HI_SEC (sec / 2 ^ 32)
    |> putDate TKP_SNAP_UTC_DATE_YEAR TKP_SNAP_UTC_DATE_MONTH TKP_SNAP_UTC_DATE_DAY (utcView s sec)
    |> putTime TKP_SNAP_UTC_TIME_WDAY TKP_SNAP_UTC_TIME_HOUR TKP_SNAP_UTC_TIME_MIN TKP_SNAP_UTC_TIME_SEC (utcView s sec)
    |> putDate TKP_SNAP_LOC_DATE_YEAR TKP_SNAP_LOC_DATE_MONTH TKP_SNAP_LOC_DATE_DAY (civilView s sec)
    |> putTime TKP_SNAP_LOC_TIME_WDAY TKP_SNAP_LOC_TIME_HOUR TKP_SNAP_LOC_TIME_MIN TKP_SNAP_LOC_TIME_SEC (civilView s sec)

/-! ### The always-on domain (R6, R253, R509) -/

/-- the actual value of an always-on field -/
def aonGet (s : State) (f : Fld) : Nat := tabGet s.aon.val (fldKey f) 0

/-- an always-on value changed by hardware within the domain -/
def aonPut (f : Fld) (v : Nat) (s : State) : State :=
  { s with aon := { s.aon with val := tabPut s.aon.val (fldKey f) (v % 2 ^ fldWidth f) 0 } }

/-- the k-th slow edge after device time t -/
def slowEdgeAfter (t k : Nat) : Nat := (t / slowU + k) * slowU

def modGrp (g : Nat) (f : RwsGroup → RwsGroup) (s : State) : State := { s with aon := { s.aon with grp := upd s.aon.grp g f } }

/-- the PENDING bit of a group: anything in flight (R509) -/
def grpPending (s : State) (g : Nat) : State :=
  let x := ix s.aon.grp g
  let p := x.landAt.isSome || !x.hw.isEmpty
  putB (if g = 0 then TKP_RTC_CTL_PENDING else RST_CAUSE_PENDING) p s

/-- a hardware update of an always-on field from the core side: it lands at the third slow edge (R6, R254, R492) -/
def aonHw (g : Nat) (f : Fld) (v : Nat) (s : State) : State :=
  let s := modGrp g (fun x => { x with hw := x.hw ++ [(slowEdgeAfter s.now 3, fldKey f, v % 2 ^ fldWidth f)] }) s
  grpPending s g

/-- the RWS fields of both groups (R259, R492) -/
def rwsFields : List Fld :=
  [TKP_RTC_CTL_DISC, TKP_RTC_CTL_DAT, TKP_RTC_CTL_TRIM, TKP_RTC_STAT_SET, TKP_RTC_STAT_RUN, TKP_RTC_STAT_OSC_FAIL,
   TKP_RTC_STAT_VBAT_LOW, TKP_RTC_STAT_DSYNC, TKP_RTC_SEC_LO_SECONDS, TKP_RTC_SEC_HI_SECONDS, TKP_RTC_SEC_HI_SUBSEC,
   RST_CAUSE_FULL, RST_CAUSE_RAIL, RST_CAUSE_LAST_LEVEL, RST_CAUSE_LAST_SRC, RST_CAUSE_FLT, RST_CAUSE_PIN, RST_CAUSE_POR]

/-- the copies in the registers refreshed from the always-on values (R6) -/
def aonCopy (s : State) : State := forEach rwsFields (fun f s => put f (aonGet s f) s) s

/-- hardware updates of a group that are due at device time t land -/
def aonLandHw (g t : Nat) (s : State) : State :=
  let x := ix s.aon.grp g
  let due := x.hw.filter (fun e => decide (e.1 ≤ t))
  let s := { s with aon := { s.aon with val := due.foldl (fun v e => tabPut v e.2.1 e.2.2 0) s.aon.val } }
  let s := modGrp g (fun x => { x with hw := x.hw.filter (fun e => decide (t < e.1)) }) s
  grpPending s g

/-- SECONDS of the backup clock (R253) -/
def rtcSec (s : State) : Nat := aonGet s TKP_RTC_SEC_LO_SECONDS + aonGet s TKP_RTC_SEC_HI_SECONDS * 2 ^ 32
def putRtcSec (v : Nat) (s : State) : State := s |> aonPut TKP_RTC_SEC_LO_SECONDS v |> aonPut TKP_RTC_SEC_HI_SECONDS (v / 2 ^ 32)

/-! ### Leap seconds and ΔAT (R244, R245) -/

/-- the active slot of DPLL d -/
def actSlot (s : State) (d : Nat) : Option Nat :=
  if on s (SEL_SELd_STAT_ACT_VALID d) then some (rd s (SEL_SELd_STAT_ACT_SLOT d)) else none

def isPtpSlot (i : Nat) : Bool := decide (16 ≤ i) && decide (i ≤ 21)

/-- does the time DPLL's active slot give announcements (R244) -/
def leapFromSlot (s : State) : Bool :=
  !on s TKP_UTC_DAT_FORCE &&
  match actSlot s (timeDpll s) with
  | some i => isPtpSlot i || i == 28 || (i == 29 && on s TKP_IRIGIN_CFG_EXT)
  | none => false

/-- an announcement of the source in use, src 1 the active slot, 2 the host: until a leap is latched it sets or clears the
pending leap (R245) -/
def announceLeap (src : Nat) (leap del : Bool) (s : State) : State :=
  if s.tkp.latched.isSome then s
  else s |> putB TKP_STAT_LEAP_PEND leap |> putB TKP_STAT_LEAP_DEL (leap && del) |> put TKP_STAT_LEAP_SRC src

/-- ΔAT taken from a source: 0 host, 1 active slot, 2 backup clock at L0 (R244) -/
def takeDat (src dat : Nat) (s : State) : State := s |> put TKP_STAT_DAT dat |> put TKP_STAT_DAT_SRC src

/-- ΔAT of the time DPLL's active slot taken where that slot carries one and DAT_FORCE is 0: at each of its messages, when the slot
becomes the active one, and when DAT_FORCE clears (R244) -/
def datOfSlot (s : State) : State :=
  if on s TKP_UTC_DAT_FORCE then s
  else
    match (actSlot s (timeDpll s)).bind (fun i => ix s.tkp.slotDat i) with
    | some v => takeDat 1 v s
    | none => s

/-- a message of slot i with its ΔAT, when it carries one, and its announcement (R244, R245) -/
def slotTimeInfo (i : Nat) (dat : Option Nat) (leap del : Bool) (s : State) : State :=
  let s := { s with tkp := { s.tkp with slotDat := vset s.tkp.slotDat i dat } }
  if on s TKP_UTC_DAT_FORCE || actSlot s (timeDpll s) != some i then s
  else
    let s := datOfSlot s
    if leapFromSlot s then announceLeap 1 leap del s else s

/-- UTC midnight that ends the month's last day holding or following this UTC count -/
def monthEnd (utc : Nat) : Nat :=
  let c := civilOfDay (utc / 86400)
  (dayOfCivil c.1 c.2.1 (monthDays c.1 c.2.1) + 1) * 86400

/-- LEAP_PEND and LEAP_DEL latched for the leap at UTC midnight m (R245) -/
def latchLeap (m : Nat) (s : State) : State := { s with tkp := { s.tkp with latched := some m } }

/-- the leap executes: ΔAT moves by one second, LEAP_PEND clears, EVT.LEAP, RTC_CTL.DAT takes ΔAT (R245) -/
def executeLeap (s : State) : State :=
  let dat := if on s TKP_STAT_LEAP_DEL then deltaAT s - 1 else deltaAT s + 1
  let s := { s with tkp := { s.tkp with latched := none, disCnt := 0, leapt := true } }
  s |> put TKP_STAT_DAT dat |> put TKP_STAT_LEAP_PEND 0 |> put TKP_STAT_LEAP_DEL 0 |> put TKP_EVT_LEAP 1
    |> put TKP_STAT_SEC_DIS 0 |> aonHw 0 TKP_RTC_CTL_DAT dat |> civilUpdate

/-! ### Serial output (R249) -/

def asciiOf (c : Char) : Byte := BitVec.ofNat 8 c.toNat
def text (t : String) : List Byte := t.toList.map asciiOf

/-- the last n decimal digits of v as ASCII -/
def digits (n v : Nat) : List Byte := (List.range n).map (fun i => BitVec.ofNat 8 (48 + v / 10 ^ (n - 1 - i) % 10))

def hexDigit (v : Nat) : Byte := BitVec.ofNat 8 (if v % 16 < 10 then 48 + v % 16 else 55 + v % 16)

/-- exclusive-or of the characters -/
def nmeaSum (l : List Byte) : Byte := l.foldl (fun a b => a ^^^ b) 0

/-- $ body * checksum CR LF -/
def nmeaFrame (body : List Byte) : List Byte :=
  let c := (nmeaSum body).toNat
  text "$" ++ body ++ text "*" ++ [hexDigit (c / 16), hexDigit c] ++ [13, 10]

/-- S and M of R249 -/
def nmeaStatus (s : State) : Char × Char :=
  let d := timeDpll s
  match dpllState s d with
  | 2 => ('A', 'A')
  | 3 => if on s (SEL_DPLLd_STAT_IN_SPEC d) then ('A', 'E') else ('V', 'N')
  | _ => ('V', 'N')

def talker (s : State) (k : Nat) : List Byte :=
  let t := rd s (TKP_TODTXk_CFG_TALKER k)
  [BitVec.ofNat 8 (t / 256), BitVec.ofNat 8 t]

/-- the ZDA sentence for the second tai (R249) -/
def zdaSentence (s : State) (k tai : Nat) : List Byte :=
  let u := utcView s tai
  let off := (civilOffset s (utcOfTai s tai)).1
  let z := off.natAbs
  nmeaFrame (talker s k ++ text "ZDA," ++ digits 2 u.hour ++ digits 2 u.min ++ digits 2 u.sec ++ text ".00," ++ digits 2 u.day
    ++ text "," ++ digits 2 u.month ++ text "," ++ digits 4 u.year ++ text "," ++ (if off < 0 then text "-" else [])
    ++ digits 2 (z / 60) ++ text "," ++ digits 2 (z % 60))

/-- the RMC sentence for the second tai (R249) -/
def rmcSentence (s : State) (k tai : Nat) : List Byte :=
  let u := utcView s tai
  let st := nmeaStatus s
  nmeaFrame (talker s k ++ text "RMC," ++ digits 2 u.hour ++ digits 2 u.min ++ digits 2 u.sec ++ text ".00," ++ [asciiOf st.1]
    ++ text ",,,,,,," ++ digits 2 u.day ++ digits 2 u.month ++ digits 2 (u.year % 100) ++ text ",,," ++ [asciiOf st.2])

/-- the baud rate of a BAUD code (R110); 6 and 7 act as 5 (R258) -/
def baudOf (b : Nat) : Nat :=
  match b with
  | 0 => 4800 | 1 => 9600 | 2 => 19200 | 3 => 38400 | 4 => 57600 | _ => 115200

/-- the sentences of output k for the second tai; none when they would not end by 990 ms (R249) -/
def txSentences (s : State) (k tai : Nat) : List Byte :=
  let sent := rd s (TKP_TODTXk_CFG_SENT k)
  let l := (if sent = 2 then [] else zdaSentence s k tai) ++ (if sent = 1 then [] else rmcSentence s k tai)
  let start := min (rd s (TKP_TODTXk_CFG_START k)) 989
  if start * baudOf (rd s (TKP_TODTXk_CFG_BAUD k)) + l.length * 10 * 1000 ≤ 990 * baudOf (rd s (TKP_TODTXk_CFG_BAUD k)) then l else []

/-! ### IRIG-B output (R252) -/

/-- the lowest code of 0x1 to 0xB whose bound, 1 ns for 0x1 and ten times more for each next code, is at least te ns -/
def tqCode (te : Nat) : Nat :=
  match (List.range 11).find? (fun i => decide (te ≤ 10 ^ i)) with
  | some i => i + 1
  | none => 11

/-- the frame the encoder sends for the second tai (R252) -/
def irigFrameOf (s : State) (tai : Nat) : IrigFrame :=
  let d := timeDpll s
  let ctl := on s TKP_IRIGOUT_CFG_EXT && [0, 1, 4, 5].contains (rd s TKP_IRIGOUT_CFG_CODE)
  let civil := rd s TKP_IRIGOUT_CFG_SCALE == 1
  let u := utcOfTai s tai
  let v := if civil then civilView s tai else utcView s tai
  let off := (civilOffset s u).1
  let lsp := match s.tkp.latched with
    | some m => let e := if on s TKP_STAT_LEAP_DEL then m - 1 else m
      decide (e ≤ u + 59) && decide (u < e)
    | none => false
  let dsp := (List.range 59).any (fun i => decide ((civilOffset s (u + i + 1)).1 ≠ off))
  let tq := match dpllState s d with
    | 2 => if rd s (SEL_SELd_STAT_ACT_QL d) ≤ 1 then 0 else 4
    | 3 => tqCode (rd s (SEL_DPLLd_HOTE_TE d))
    | _ => 15
  { code := rd s TKP_IRIGOUT_CFG_CODE, sec := v.sec, min := v.min, hour := v.hour, doy := dayOfYear v.year v.month v.day,
    year := v.year, markersOk := true, bcdOk := true, parityOk := true,
    lsp := ctl && lsp, ls := ctl && lsp && on s TKP_STAT_LEAP_DEL, dsp := ctl && dsp, dst := ctl && on s TKP_STAT_DST_ACT,
    offMin := if ctl && civil then -off else 0, tq := if ctl then tq else 0 }

/-! The bits of a frame (IRIG Standard 200 and the extension of IEEE C37.118.1, which the spec names: log entry 156). A symbol is 0, 1,
or 2 for a marker, as its high time of 2, 5 or 8 ms says. -/

/-- does code c carry the year, control functions, straight binary seconds -/
def codeYear (c : Nat) : Bool := decide (4 ≤ c)
def codeCtl (c : Nat) : Bool := [0, 1, 4, 5].contains c
def codeSbs (c : Nat) : Bool := [0, 3, 4, 7].contains c

/-- is position i of a frame a marker -/
def irigMark (i : Nat) : Bool := i == 0 || i % 10 == 9

/-- the fields of a frame: first position, width, value; the parity bit apart -/
def irigFields (f : IrigFrame) : List (Nat × Nat × Nat) :=
  let off := f.offMin.natAbs
  let sod := f.hour * 3600 + f.min * 60 + f.sec
  [(1, 4, f.sec % 10), (6, 3, f.sec / 10), (10, 4, f.min % 10), (15, 3, f.min / 10), (20, 4, f.hour % 10), (25, 2, f.hour / 10),
   (30, 4, f.doy % 10), (35, 4, f.doy / 10 % 10), (40, 2, f.doy / 100)]
  ++ (if codeYear f.code then [(50, 4, f.year % 10), (55, 4, f.year / 10 % 10)] else [])
  ++ (if codeCtl f.code then [(60, 1, b2n f.lsp), (61, 1, b2n f.ls), (62, 1, b2n f.dsp), (63, 1, b2n f.dst), (64, 1, b2n (decide (f.offMin < 0))),
        (65, 4, off / 60), (70, 1, b2n (decide (30 ≤ off % 60))), (71, 4, f.tq)] else [])
  ++ (if codeSbs f.code then [(80, 9, sod), (90, 8, sod / 512)] else [])

/-- symbol i of a frame with these fields, no parity bit in it -/
def irigSym (l : List (Nat × Nat × Nat)) (i : Nat) : Nat :=
  if irigMark i then 2
  else l.foldl (fun v p => if p.1 ≤ i && decide (i < p.1 + p.2.1) then b2n (bitAt p.2.2 (i - p.1)) else v) 0

/-- is the number of ones at positions 1 to 74 odd -/
def irigOdd (l : List Nat) : Bool := (((l.drop 1).take 74).filter (fun x => x == 1)).length % 2 == 1

/-- the hundred symbols of a frame; parity, where the code carries control functions, makes the ones at positions 1 to 75 even -/
def irigSyms (f : IrigFrame) : List Nat :=
  let l := (List.range 100).map (irigSym (irigFields f))
  if codeCtl f.code then l.set 75 (b2n (irigOdd l)) else l

/-- the symbol of a high time and a period in ns, 3 for an error (R250) -/
def irigClass (e : Nat × Nat) : Nat :=
  if e.2 < 9000000 || decide (11000000 < e.2) then 3
  else if e.1 < 1000000 then 3
  else if e.1 < 3500000 then 0
  else if e.1 < 6500000 then 1
  else if e.1 ≤ 9000000 then 2
  else 3

/-- the w bits from position i on -/
def irigGet (l : List Nat) (i w : Nat) : Nat := (List.range w).foldl (fun v j => v + (l.getD (i + j) 0 % 2) * 2 ^ j) 0

/-- the code by the fields present, year, control functions and seconds of the day counting as present where a bit of them is 1 -/
def irigCode (l : List Nat) : Nat :=
  let any (i w : Nat) : Bool := irigGet l i w != 0
  let y := any 50 4 || any 55 4
  let c := any 60 9 || any 70 9
  let b := any 80 9 || any 90 9
  if y then (if c then (if b then 4 else 5) else if b then 7 else 6) else if c then (if b then 0 else 1) else if b then 3 else 2

/-- the frame that a hundred elements spell (R250) -/
def irigDecode (els : List (Nat × Nat)) : IrigFrame :=
  let l := els.map irigClass
  let marks := l.length == 100 && (List.range 100).all (fun i => if irigMark i then l.getD i 3 == 2 else decide (l.getD i 3 < 2))
  let two (i a j b : Nat) : Nat := irigGet l i a + 10 * irigGet l j b
  let bcd := [(1, 4), (10, 4), (20, 4), (30, 4), (35, 4), (50, 4), (55, 4)].all (fun p => decide (irigGet l p.1 p.2 ≤ 9))
  let off : Int := (irigGet l 65 4 * 60 + irigGet l 70 1 * 30 : Nat)
  { code := irigCode l, sec := two 1 4 6 3, min := two 10 4 15 3, hour := two 20 4 25 2, doy := two 30 4 35 4 + 100 * irigGet l 40 2
    year := 2000 + two 50 4 55 4, markersOk := marks, bcdOk := bcd, parityOk := irigOdd l == (l.getD 75 0 == 1)
    lsp := irigGet l 60 1 == 1, ls := irigGet l 61 1 == 1, dsp := irigGet l 62 1 == 1, dst := irigGet l 63 1 == 1
    offMin := if irigGet l 64 1 = 1 then -off else off, tq := irigGet l 71 4 }

/-! ### The lines (R249, R252, R261) -/

/-- the level of TOD_TX line k: idle high, each character a start bit, eight data bits from the lowest, a stop bit -/
def txLevel (s : State) (k : Nat) : Bool :=
  match ix s.tkp.held k with
  | some b => b
  | none =>
    let l := ix s.tkp.tx k
    let i := (s.tod - ix s.tkp.txAt k) * baudOf (rd s (TKP_TODTXk_CFG_BAUD k)) / secT
    if s.tod < ix s.tkp.txAt k || decide (10 * l.length ≤ i) then true
    else if i % 10 = 0 then false
    else if i % 10 = 9 then true
    else bitAt (l.getD (i / 10) 0).toNat (i % 10 - 1)

/-- the level of IRIG_OUT: high for 2, 5 or 8 ms at the beginning of each 10 ms -/
def irigLevel (s : State) : Bool :=
  match ix s.tkp.held 2 with
  | some b => b
  | none =>
    match s.tkp.irigOut with
    | none => false
    | some (sec, l) =>
      let t := s.tod - sec * secT
      let i := t * 100 / secT
      let w := match l.getD i 0 with
        | 0 => 2
        | 1 => 5
        | _ => 8
      decide (i < 100) && decide (t * 1000 < (10 * i + w) * secT)

/-- the lines hold their levels until the next whole second after the image is applied -/
def holdLines (s : State) : State :=
  { s with tkp := { s.tkp with held := Vector.ofFn (fun i : Fin 3 => some (if i.val = 2 then irigLevel s else txLevel s i.val)), irigOut := none, txHold := true } }

end Sys2Proof.Machine
end

