-- ==== Sys2Proof/Machine/Ast.lean ====
section
/-! DEFINITION. AST operations: configuration error, the state machine, computation and publication (R289 to R301). -/

namespace Sys2Proof.Machine
open Sys2Proof.Reg

def modAst (f : AstS → AstS) (s : State) : State := { s with ast := f s.ast }

/-- AST.STAT.STATE: 0 OFF 1 WAIT_TIME 2 COMPUTE 3 READY 4 HALTED (R300) -/
def astState (s : State) : Nat := rd s AST_STAT_STATE

/-- configuration error (R290) -/
def astErr (s : State) : Bool :=
  let out (v lo hi : Int) : Bool := decide (v < lo) || decide (hi < v)
  out (rdS s AST_LAT_LAT) (-90000000) 90000000 || out (rdS s AST_LON_LON) (-180000000) 180000000
    || out (rdS s AST_ALT_ALT) (-500) 9000 || out (rdS s AST_CFG_DUT1) (-90) 90
    || (List.range 4).any (fun k => on s (AST_THRk_EN k) && out (rdS s (AST_THRk_ELEV k)) (-9000) 9000)

/-- local civil seconds of the time of day (R246) -/
def localSec (s : State) : Nat :=
  let u := utcOfTai s (todSec s)
  ((u : Int) + (civilOffset s u).1 * 60).toNat

/-- the local civil date of the time of day, as a day number: day 0 (R292) -/
def localDay (s : State) : Nat := localSec s / 86400

/-- the first u in (lo, hi] at which the offset differs from oa (structural: one halving per round) -/
def offChange (off : Nat → Int) (oa : Int) : Nat → Nat → Nat → Nat
  | 0, _, hi => hi
  | k + 1, lo, hi =>
    if hi ≤ lo + 1 then hi
    else
      let m := (lo + hi) / 2
      if off m = oa then offChange off oa k m hi else offChange off oa k lo m

/-- the UTC second at which local civil time first shows local second l since 1970; a local time that an offset change skips gives
the instant of the change (R246, R309) -/
def utcOfLocal (s : State) (l : Nat) : Nat :=
  let off (u : Nat) : Int := (civilOffset s u).1 * 60
  let oa := off (l - 57600)
  let ob := off (l + 43200)
  let ua := ((l : Int) - oa).toNat
  let ub := ((l : Int) - ob).toNat
  if off ua = oa then ua else if off ub = ob then ub else offChange off oa 18 (l - 57600) (l + 43200)

/-- the TAI second at which local civil time shows second x of local day z (R246) -/
def taiOfLocal (s : State) (z x : Nat) : Nat := utcOfLocal s (z * 86400 + x) + deltaAT s

/-- the threshold of event e in 10^-6 degree and whether it is in use; DIP lowers that of sunrise and sunset (R291) -/
def solarThr (s : State) (e : Nat) : Int × Bool :=
  let alt := rdS s AST_ALT_ALT
  if e ≤ 2 then (-833000 - (if on s AST_ALT_DIP && decide (0 < alt) then roundSqrtDiv (34700 ^ 2 * alt.natAbs) 1 else 0 : Nat), true)
  else if e ≤ 4 then (-6000000, true) else if e ≤ 6 then (-12000000, true) else if e ≤ 8 then (-18000000, true)
  else
    let k := (e - 9) / 2
    (rdS s (AST_THRk_ELEV k) * 10000, on s (AST_THRk_EN k))

/-- the site for civil day z and event e -/
def solarIn (s : State) (z e : Nat) : SolarIn :=
  { lat := rdS s AST_LAT_LAT, lon := rdS s AST_LON_LON, alt := rdS s AST_ALT_ALT, dut1 := rdS s AST_CFG_DUT1
    dat := deltaAT s, noon := taiOfLocal s z 43200, date := z, elev := if e = 0 then 0 else (solarThr s e).1 }

/-- may R295's bounds be claimed: for its dates; with DUT1 within 0.1 s of UT1 - UTC no slack is added, with DUT1 at 0 that of |UT1 - UTC|
up to 0.9 s; else nothing is stated -/
def solarSlack (i : SolarIn) : Option Nat :=
  let u := Config.trueDut1 i.noon
  let miss := (i.dut1 * 10 - u).natAbs
  if i.date < 10957 || 84006 ≤ i.date then none
  else if miss ≤ 100 then some 0 else if i.dut1 = 0 && miss ≤ 900 then some miss else none

/-- an error within its bound, when there is one -/
def boundErr (b : Option Nat) (e : Int) : Int :=
  match b with
  | some m => clampI e ((m : Nat) : Int)
  | none => e

/-- solar noon in ms: within 1 s of the true one (R295) -/
def solarNoon (i : SolarIn) : Nat :=
  (((Config.sun i true).noon : Int) + boundErr ((solarSlack i).map (1000 + ·)) (Config.sunDevice i true).noonErr).toNat

/-- the noon elevation as the device forms it, in 10^-6 degree, and rounded to 0.01 degree: within 0.01 degree of the true one (R295) -/
def solarHigh (i : SolarIn) : Int := (Config.sun i true).elev + boundErr ((solarSlack i).map (fun _ => 10000)) (Config.sunDevice i true).elevErr
def solarNoonElev (i : SolarIn) : Int :=
  let t := (Config.sun i true).elev
  let v := roundDiv (solarHigh i) 10000
  if (solarSlack i).isSome && decide (10000 < (v * 10000 - t).natAbs) then t / 10000 else v

/-- GRAZE of outcome c at ms d from the upper transit: the extreme elevation that decides it lies within 0.5 degree of the threshold; that
of the nearer transit for a crossing (R293) -/
def solarGraze (i : SolarIn) (rising : Bool) (c : Fin 3) (d : Nat) : Bool :=
  let v := Config.sunDevice i rising
  let high := c = 2 || (c = 0 && decide (2 * d ≤ v.half))
  decide (((if high then solarHigh { i with elev := 0 } else v.low) - i.elev).natAbs ≤ 500000)

/-- R295's bound of a crossing by latitude, in ms -/
def crossBound (i : SolarIn) : Nat :=
  if i.lat.natAbs ≤ 60000000 then 1000 else if i.lat.natAbs ≤ 72000000 then 30000 else 300000

/-- the outcome of a half-day as the device gives it: code, instant in ms, GRAZE. Without GRAZE the code is the true one and the
instant within its bound; with GRAZE both are the device's own (R293, R295) -/
def solarCross (i : SolarIn) (rising : Bool) : Fin 3 × Nat × Bool :=
  let u := Config.sun i rising
  let v := Config.sunDevice i rising
  let side (n d : Nat) : Nat := if rising then n - d else n + d
  let own := min v.half (v.crossErr.natAbs)
  if (solarSlack i).isNone || solarGraze i rising v.code own then
    (v.code, side (solarNoon { i with elev := 0 }) own, solarGraze i rising v.code own)
  else
    (u.code, ((side u.noon u.dist : Nat) + boundErr ((solarSlack i).map (crossBound i + ·)) v.crossErr).toNat, solarGraze i rising u.code u.dist)

/-- event e of day register d written: code, instant in ms, GRAZE (R296) -/
def putEvent (d e code ms : Nat) (graze : Bool) (s : State) : State :=
  let sec := if code = 0 then ms / 1000 else 0
  s |> put (AST_DAYd_EVe_LO_SEC d e) sec |> put (AST_DAYd_EVe_HI_SEC d e) (sec / 2 ^ 32)
    |> put (AST_DAYd_EVe_HI_MS d e) (if code = 0 then ms % 1000 else 0) |> putB (AST_DAYd_EVe_HI_GRAZE d e) (graze && code != 3)
    |> put (AST_DAYd_EVe_HI_NOEVT d e) code |> putB (AST_DAYd_EVe_HI_VALID d e) (code != 3)

/-- event e of civil day z computed into day register d: a rising event lies before the upper transit, a setting one after
it (R292, R293) -/
def computeEvent (d z e : Nat) (s : State) : State :=
  let i := solarIn s z e
  if e = 0 then putEvent d 0 0 (solarNoon i) false s
  else if !(solarThr s e).2 then putEvent d e 3 0 false s
  else
    let r := solarCross i (e % 2 == 1)
    putEvent d e r.1.val r.2.1 r.2.2 s

/-- the date register of day d -/
def putDayDate (d z : Nat) (s : State) : State :=
  let c := civilOfDay z
  s |> put (AST_DAYd_DATE_YEAR d) c.1 |> put (AST_DAYd_DATE_MONTH d) c.2.1 |> put (AST_DAYd_DATE_DAY d) c.2.2

/-- the day number the date register of day d holds -/
def dayOf (s : State) (d : Nat) : Nat := dayOfCivil (rd s (AST_DAYd_DATE_YEAR d)) (rd s (AST_DAYd_DATE_MONTH d)) (rd s (AST_DAYd_DATE_DAY d))

/-- every result of day d computed for civil day z (R291, R296) -/
def computeDay (d z : Nat) (s : State) : State :=
  let s := forEach (List.range 17) (computeEvent d z) s
  putDayDate d z (putS (AST_DAYd_NOONEL_ELEV d) (solarNoonElev (solarIn s z 0)) s)

/-- every event of day d not computed (NOEVT 0b11) -/
def blankDay (d : Nat) (s : State) : State :=
  put (AST_DAYd_NOONEL_ELEV d) 0 (forEach (List.range 17) (fun e s => putEvent d e 3 0 false s) s)

/-- the fields of the result set (R296) -/
def resultFields : List Fld :=
  (List.range 2).flatMap (fun d => [AST_DAYd_DATE_YEAR d, AST_DAYd_DATE_MONTH d, AST_DAYd_DATE_DAY d, AST_DAYd_NOONEL_ELEV d]
    ++ (List.range 17).flatMap (fun e => [AST_DAYd_EVe_LO_SEC d e, AST_DAYd_EVe_HI_VALID d e, AST_DAYd_EVe_HI_NOEVT d e, AST_DAYd_EVe_HI_GRAZE d e,
      AST_DAYd_EVe_HI_MS d e, AST_DAYd_EVe_HI_SEC d e]))

/-- a publication: GEN increases (R296) -/
def publish (s : State) : State := bumpWrap AST_STAT_GEN (modAst (fun a => { a with published := true, pubAt := cycleNow s + 1 }) s)

/-- has a set been published in the present core cycle -/
def pubNow (s : State) : Bool := s.ast.pubAt == cycleNow s + 1

/-- may AST compute: neither halted nor isolated nor in reset (R297, R303) -/
def astFree (s : State) : Bool := !isolated s 10 && live s 10

/-- RANGE: day 0 outside 2000-01-01 to 2199-12-31 (R299) -/
def astRange (s : State) : Bool := decide (localDay s < 10957) || decide (84006 ≤ localDay s)

/-- STATE set; entering HALTED sets its event -/
def putAstState (v : Nat) (s : State) : State :=
  if astState s = v then s else
  let s := put AST_STAT_STATE v s
  if v = 4 then put AST_EVT_HALT 1 (modAst (fun a => { a with busy := none }) s) else s

/-- CFG_ERR and RANGE judged, their sources raised when they rise (R302) -/
def astJudge (s : State) : State :=
  let e := s.img.applied && astErr s
  let s := if e && !on s AST_STAT_CFG_ERR then raise 51 none s else s
  let s := putB AST_STAT_CFG_ERR e s
  let r := on s AST_CFG_EN && on s TKP_STAT_TIME_SET && astRange s
  let s := if r && !on s AST_STAT_RANGE then raise 52 none s else s
  putB AST_STAT_RANGE r s

/-- the publication of a computation that completed in the present core cycle undone (R304) -/
def unpublish (s : State) : State :=
  match s.ast.done with
  | none => s
  | some (c, was) =>
    if c != cycleNow s then s
    else
      let s := forEach (AST_STAT_GEN :: AST_EVT_DONE :: resultFields) (fun f s => put f (cycWas s f) s) s
      modAst (fun a => { a with published := was, pubAt := 0, done := none }) s

/-- a full computation begun, or begun again (R297); one that completes in the same core cycle publishes nothing (R304) -/
def astCompute (s : State) : State :=
  modAst (fun a => { a with busy := some true, busyAt := cycleNow s + 1 }) (putAstState 2 (unpublish s))

/-- the table of R299 evaluated; trig is a trigger of R297 -/
def astEval (trig : Bool) (s : State) : State :=
  let s := astJudge s
  if !on s AST_CFG_EN then
    if astState s = 0 && (List.range 2).all (fun d => rd s (AST_DAYd_EVe_HI_NOEVT d 0) == 3) then s
    else publish (blankDay 0 (blankDay 1 (modAst (fun a => { a with busy := none }) (putAstState 0 s))))
  else
    let bad := on s AST_STAT_CFG_ERR || on s AST_STAT_RANGE
    match astState s with
    | 0 | 1 => if !on s TKP_STAT_TIME_SET then putAstState 1 s else if astFree s then (if bad then putAstState 4 (putAstState 2 s) else astCompute s) else s
    | 4 => if bad then s else if astFree s then astCompute s else putAstState 2 s
    | _ => if bad then putAstState 4 s else if trig && astFree s then astCompute s else s

/-- the computation in progress completes and is published (R297, R299) -/
def astDone (s : State) : State :=
  match s.ast.busy with
  | none => s
  | some full =>
    if !astFree s || s.ast.busyAt == cycleNow s + 1 then s else
    let z := localDay s
    let s := modAst (fun a => { a with busy := none, done := some (cycleNow s, a.published) }) s
    let s := if full then computeDay 1 (z + 1) (computeDay 0 z s) else computeDay 1 (dayOf s 0 + 1) s
    put AST_EVT_DONE 1 (publish (putAstState 3 s))

/-- one event of day 1 moved to day 0 -/
def rollEvent (e : Nat) (s : State) : State :=
  let ms := (rd s (AST_DAYd_EVe_LO_SEC 1 e) + rd s (AST_DAYd_EVe_HI_SEC 1 e) * 2 ^ 32) * 1000 + rd s (AST_DAYd_EVe_HI_MS 1 e)
  putEvent 0 e (rd s (AST_DAYd_EVe_HI_NOEVT 1 e)) ms (on s (AST_DAYd_EVe_HI_GRAZE 1 e)) s

/-- local civil midnight: day 1 becomes day 0, day 1 is computed anew unless halted (R298) -/
def astRoll (s : State) : State :=
  let z := dayOf s 1
  let s := forEach (List.range 17) rollEvent s
  let s := putDayDate 0 z (put (AST_DAYd_NOONEL_ELEV 0) (rd s (AST_DAYd_NOONEL_ELEV 1)) s)
  let s := put AST_EVT_ROLL 1 (publish (putDayDate 1 (z + 1) (blankDay 1 s)))
  let s := astJudge s
  if on s AST_STAT_CFG_ERR || on s AST_STAT_RANGE then putAstState 4 s
  else if s.ast.busy = some true then s
  else if astState s = 3 || astState s = 2 then modAst (fun a => { a with busy := some false }) (putAstState 2 s)
  else s

/-- does AST hold a published set that midnight moves -/
def astRolls (s : State) : Bool := decide (2 ≤ astState s) && s.ast.published && astFree s

/-- the instant of event e of civil day z as AST delivers it (R301): none for a day it does not hold; else code, ms, GRAZE. In the core
cycle of a publication the set is the one before it (R304) -/
def solarEvent (s : State) (z e : Nat) : Option (Nat × Nat × Bool) :=
  let v (f : Fld) : Nat := if pubNow s then cycWas s f else rd s f
  let day (d : Nat) : Nat := dayOfCivil (v (AST_DAYd_DATE_YEAR d)) (v (AST_DAYd_DATE_MONTH d)) (v (AST_DAYd_DATE_DAY d))
  let get (d : Nat) : Option (Nat × Nat × Bool) :=
    let ms := (v (AST_DAYd_EVe_LO_SEC d e) + v (AST_DAYd_EVe_HI_SEC d e) * 2 ^ 32) * 1000 + v (AST_DAYd_EVe_HI_MS d e)
    some (v (AST_DAYd_EVe_HI_NOEVT d e), ms, v (AST_DAYd_EVe_HI_GRAZE d e) == 1)
  if !s.ast.published then none else if day 0 = z then get 0 else if day 1 = z then get 1 else none

end Sys2Proof.Machine
end

