-- ==== Sys2Proof/Machine/Queues.lean ====
section
/-! DEFINITION. The postmark queues outside PMU (the zero-crossing queue, the port and link timestamp queues) and the gap
records that enter every postmark queue (R38 to R40). -/

namespace Sys2Proof.Machine
open Sys2Proof.Reg

def modMns (f : MnsS → MnsS) (s : State) : State := { s with mns := f s.mns }

/-- a new zero-crossing queue, with the records it lost counted; a full queue raises the queue-overflow source (R153, R276) -/
def zqTake (r : Queue Postmark × Nat × Bool) (s : State) : State :=
  countLost MNS_ZQSTAT_LOST MNS_ZQSTAT_OVF 19 none r.2.1 r.2.2 (modMns (fun m => { m with zq := r.1 }) s)

/-- LEVEL of the zero-crossing queue reached QTHR (R276) -/
def zqLevel (s : State) : State :=
  let thr := rd s MNS_ZQCFG_QTHR
  if thr != 0 && s.mns.zq.recs.length == thr then put MNS_EVT_ZQT 1 s else s

/-- a postmark into the zero-crossing queue of 256 records -/
def zqPush (t src flags : Nat) (s : State) : State :=
  let r := qPut stampKind 256 (cycleNow s) (mkStamp t src flags) s.mns.zq
  let s := zqTake r s
  if r.2.1 = 0 then zqLevel s else s

/-- the gap record of a reset into the zero-crossing queue (R39) -/
def zqGap (t src : Nat) (s : State) : State :=
  let r := qGap stampKind 256 (cycleNow s) true (mkStamp t src flGap) s.mns.zq
  let s := zqTake r s
  if r.2.1 = 0 then zqLevel s else s

/-! ### CRL and PTP state -/

def modCrl (f : CrlS → CrlS) (s : State) : State := { s with crl := f s.crl }
def modLink (k : Nat) (f : LinkS → LinkS) (s : State) : State := modCrl (fun c => { c with link := upd c.link k f }) s
def modPtp (f : PtpS → PtpS) (s : State) : State := { s with ptp := f s.ptp }
def modPort (p : Nat) (f : PortS → PortS) (s : State) : State := modPtp (fun c => { c with port := upd c.port p f }) s

/-- a new timestamp queue of link k, with the records it lost counted; a full queue raises source 77 (R405) -/
def linkTsTake (k : Nat) (r : Queue Postmark × Nat × Bool) (s : State) : State :=
  countLost (CRL_LKk_TSQSTAT_LOST k) (CRL_LKk_TSQSTAT_OVF k) 77 none r.2.1 r.2.2 (modLink k (fun l => { l with tsq := r.1 }) s)

/-- LEVEL of the timestamp queue of link k reached QTHR -/
def linkTsLevel (k : Nat) (s : State) : State :=
  let thr := rd s (CRL_LKk_TSQCFG_QTHR k)
  if thr != 0 && (ix s.crl.link k).tsq.recs.length == thr then put CRL_EVT_TSQT 1 s else s

/-- a postmark into the timestamp queue of link k, 64 records (R405) -/
def linkTsPush (k t flags : Nat) (s : State) : State :=
  let r := qPut stampKind 64 (cycleNow s) (mkStamp t (0x110 + k) flags) (ix s.crl.link k).tsq
  let s := linkTsTake k r s
  if r.2.1 = 0 then linkTsLevel k s else s

/-- the gap record of a reset into the timestamp queue of link k -/
def linkTsGap (k t src : Nat) (s : State) : State :=
  let r := qGap stampKind 64 (cycleNow s) true (mkStamp t src flGap) (ix s.crl.link k).tsq
  let s := linkTsTake k r s
  if r.2.1 = 0 then linkTsLevel k s else s

/-- a new timestamp queue of port p, with the records it lost counted; a full queue raises the queue-overflow source (R153, R346) -/
def portTsTake (p : Nat) (r : Queue Postmark × Nat × Bool) (s : State) : State :=
  countLost (PTP_Pp_TSQSTAT_LOST p) (PTP_Pp_TSQSTAT_OVF p) 19 none r.2.1 r.2.2 (modPort p (fun l => { l with tsq := r.1 }) s)

/-- a postmark into the timestamp queue of port p, 128 records (R346) -/
def portTsPush (p t src flags : Nat) (s : State) : State :=
  portTsTake p (qPut stampKind 128 (cycleNow s) (mkStamp t src flags) (ix s.ptp.port p).tsq) s

/-- the gap record of a reset into the timestamp queue of port p -/
def portTsGap (p t src : Nat) (s : State) : State :=
  portTsTake p (qGap stampKind 128 (cycleNow s) true (mkStamp t src flGap) (ix s.ptp.port p).tsq) s

/-! ### What enters every postmark queue, result queues among them (R38 to R41) -/

/-- the gap record of an L1 reset, of time t and source 0x121 -/
def gapAll (t : Nat) (s : State) : State :=
  let s := forEach (unitsOf s) (fun b s => unitGap b t 0x121 s) s
  let s := zqGap t 0x121 s
  let s := forEach (List.range 6) (fun p s => portTsGap p t 0x121 s) s
  forEach (List.range 4) (fun k s => linkTsGap k t 0x121 s) s

/-- the gap record of a time discontinuity of d units of 2^-16 ns that began at time t -/
def stepAll (t : Nat) (d : Int) (s : State) : State :=
  let g := mkStamp t 0x120 flGap
  let s := forEach (unitsOf s) (fun b s => unitStep b t d s) s
  let r := qStep stampKind 256 (cycleNow s) true (stampMove d) g s.mns.zq
  let s := whenB (r.2.1 == 0) zqLevel (zqTake r s)
  let s := forEach (List.range 6) (fun p s => portTsTake p (qStep stampKind 128 (cycleNow s) true (stampMove d) g (ix s.ptp.port p).tsq) s) s
  forEach (List.range 4) (fun k s =>
    let r := qStep stampKind 64 (cycleNow s) true (stampMove d) g (ix s.crl.link k).tsq
    whenB (r.2.1 == 0) (linkTsLevel k) (linkTsTake k r s)) s

/-- the records that the zero-crossing queue, or the queue of port p or link k, accepted in the core cycle in which the reset of its
block begins are lost (R41) -/
def zqCut (s : State) : State := let q := qCut stampKind (cycleNow s) s.mns.zq; zqTake (q.1, q.2, false) s
def portTsCut (p : Nat) (s : State) : State := let q := qCut stampKind (cycleNow s) (ix s.ptp.port p).tsq; portTsTake p (q.1, q.2, false) s
def linkTsCut (k : Nat) (s : State) : State := let q := qCut stampKind (cycleNow s) (ix s.crl.link k).tsq; linkTsTake k (q.1, q.2, false) s

/-- every postmark queue emptied by an L1 reset, the records counted (R39, R40) -/
def emptyAll (s : State) : State :=
  let s := forEach (List.range 12) unitEmpty s
  let s := let q := qEmpty s.mns.zq; zqTake (q.1, q.2, false) s
  let s := forEach (List.range 6) (fun p s => let q := qEmpty (ix s.ptp.port p).tsq; portTsTake p (q.1, q.2, false) s) s
  forEach (List.range 4) (fun k s => let q := qEmpty (ix s.crl.link k).tsq; linkTsTake k (q.1, q.2, false) s) s

end Sys2Proof.Machine
end

