-- ==== Sys2Proof/Machine/Mem.lean ====
section
/-! DEFINITION. The MRAM array as a list of (address, byte) cells in canonical form (R409), and the byte helpers of the
stores that live in it. A byte never written reads 0 (log entry 7). -/

namespace Sys2Proof.Machine

/-- what a byte that nothing has written reads as (log entry 7) -/
def memDefault : Byte := 0

/-- the byte at address a -/
def memGet : List Host.Cell → Nat → Byte
  | [], _ => memDefault
  | (k, v) :: r, a => if k = a then v else memGet r a

/-- cell a listed with value b, addresses rising -/
def memIns : List Host.Cell → Nat → Byte → List Host.Cell
  | [], a, b => [(a, b)]
  | (k, v) :: r, a, b => if a < k then (a, b) :: (k, v) :: r else if k = a then (a, b) :: r else (k, v) :: memIns r a b

/-- cell a no longer listed -/
def memDel : List Host.Cell → Nat → List Host.Cell
  | [], _ => []
  | (k, v) :: r, a => if k = a then memDel r a else (k, v) :: memDel r a

/-- byte b stored at address a; storing what an unlisted address reads as removes the entry -/
def memPut (m : List Host.Cell) (a : Nat) (b : Byte) : List Host.Cell :=
  if b = memDefault then memDel m a else memIns m a b

/-- every write of a list stored, in order -/
def memPutAll (m : List Host.Cell) (w : List Host.Cell) : List Host.Cell := w.foldl (fun m c => memPut m c.1 c.2) m

/-- the canonical form: addresses rise from lo and no entry holds the default -/
def memWfFrom : Nat → List Host.Cell → Bool
  | _, [] => true
  | lo, (k, v) :: r => decide (lo ≤ k) && decide (v ≠ memDefault) && memWfFrom (k + 1) r

/-- the canonical form of the MRAM -/
def Memory.wf (m : List Host.Cell) : Bool := memWfFrom 0 m

/-! Within one command MRAM writes collect in a journal that the command's end stores (see settle); reads look there
first. -/

/-- the latest journal entry for address a -/
def journalGet : List Host.Cell → Nat → Option Byte
  | [], _ => none
  | (k, v) :: r, a => match journalGet r a with
    | some b => some b
    | none => if k = a then some v else none

/-- a byte of the MRAM as this command sees it -/
def mrd (s : State) (a : Nat) : Byte := (journalGet s.mramJ a).getD (memGet s.mram a)

/-- bytes stored from address a on -/
def mwr (a : Nat) (l : List Byte) (s : State) : State :=
  { s with mramJ := s.mramJ ++ (l.mapIdx (fun i b => (a + i, b))) }

/-- n bytes from address a on -/
def mrdList (s : State) (a n : Nat) : List Byte :=
  if s.mramJ.isEmpty && s.mram.all (fun c => decide (c.1 < a) || decide (a + n ≤ c.1)) then List.replicate n memDefault
  else (List.range n).map (fun i => mrd s (a + i))

/-- the CRC-32 of R63 over one more byte: 8 shifts of the reflected polynomial -/
def crcBits : Nat → Nat → Nat
  | 0, c => c
  | k + 1, c => crcBits k (if c % 2 = 1 then (c / 2) ^^^ 0xEDB88320 else c / 2)

/-- the CRC-32 of IEEE 802.3 (R63) -/
def crc32 (l : List Byte) : Nat :=
  (l.foldl (fun c b => crcBits 8 (c ^^^ b.toNat)) 0xFFFFFFFF) ^^^ 0xFFFFFFFF

/-! ### The counter RAM (R414, R415) -/

/-- the word at word index i -/
def cram (s : State) (i : Nat) : Nat := tabGet s.cram i 0
def putCram (i v : Nat) (s : State) : State := { s with cram := tabPut s.cram i (v % 2 ^ 32) 0 }
/-- two words, low first -/
def cram64 (s : State) (i : Nat) : Nat := cram s i + cram s (i + 1) * 2 ^ 32
def putCram64 (i v : Nat) (s : State) : State := s |> putCram i v |> putCram (i + 1) (v / 2 ^ 32)

/-- the words of R415 whose class is monotonic, as (first word, words per value, count): the tie rule of R421 keeps the
largest value -/
def cramMono : List (Nat × Nat × Nat) := [(0, 1, 1), (0x40 / 4, 1, 48), (0x100 / 4, 1, 48), (0x300 / 4, 2, 256)]

/-- the recovery counter (offset 0x008) -/
def cramRecovery : Nat := 2
/-- SCAN_T (offset 0x010), channel states (0x018), grid values (0x020 to 0x037) -/
def cramScan : Nat := 4
def cramState : Nat := 6
def cramGrid : Nat := 8
def cramOps : Nat := 16
def cramOn : Nat := 64
def cramRemote : Nat := 112
def cramFcnt : Nat := 192

end Sys2Proof.Machine
end

