-- ==== Sys2Proof/Machine/SchEntry.lean ====
section
/-! DEFINITION. A schedule entry of four words and its check (R305 to R308); IMG applies the same check to SCHED segments
(R308). -/

namespace Sys2Proof.Machine

/-- an entry: words 0 to 3 (R305) -/
structure EntW where
  w0 : Nat := 0
  w1 : Nat := 0
  w2 : Nat := 0
  w3 : Nat := 0
  deriving DecidableEq, Repr, Inhabited

def entValid (e : EntW) : Bool := bitAt e.w0 31
/-- TB: 0 absolute, 1 civil, 2 solar -/
def entTb (e : EntW) : Nat := bitsOf e.w0 30 29
/-- REC: 0 SKIP, 1 LATE, 2 STATE -/
def entRec (e : EntW) : Nat := bitsOf e.w0 28 27
def entQen (e : EntW) : Bool := bitAt e.w0 26
def entQch (e : EntW) : Nat := bitsOf e.w0 25 23
/-- ACT: 0 OFF, 1 ON, 2 TOGGLE, 3 PULSE -/
def entAct (e : EntW) : Nat := bitsOf e.w0 22 20
def entKind (e : EntW) : Nat := bitsOf e.w0 19 18
def entTgt (e : EntW) : Nat := bitsOf e.w0 17 7
/-- the target code of R306 -/
def entCode (e : EntW) : Nat := entKind e * 16384 + entTgt e
def entQang (e : EntW) : Nat := bitsOf e.w1 31 16
def entHol (e : EntW) : Nat := bitsOf e.w1 15 8
def entHmode (e : EntW) : Nat := bitsOf e.w1 7 6
def entQfb (e : EntW) : Bool := bitAt e.w1 5
/-- the instant of an absolute entry in 2^-16 ns (R307) -/
def entAbs (e : EntW) : Nat := ((e.w2 + bitsOf e.w3 31 30 * 2 ^ 32) * 1000000000 + bitsOf e.w3 29 0) * 65536
/-- WMASK of a civil or solar entry, bit 0 Monday -/
def entWmask (e : EntW) : Nat := if entTb e = 2 then bitsOf e.w2 26 20 else bitsOf e.w2 31 25
def entDay (e : EntW) : Nat := bitsOf e.w2 24 20
def entMonth (e : EntW) : Nat := bitsOf e.w2 19 16
/-- the event of a solar entry and NOEV -/
def entEv (e : EntW) : Nat := bitsOf e.w2 31 27
def entNoev (e : EntW) : Bool := bitAt e.w2 19
/-- the local second of the day and the milliseconds of a civil entry -/
def entHms (e : EntW) : Nat := bitsOf e.w3 31 27 * 3600 + bitsOf e.w3 26 21 * 60 + bitsOf e.w3 20 15
def entMs (e : EntW) : Nat := bitsOf e.w3 14 5
/-- OFFSET of a solar entry in ms -/
def entOff (e : EntW) : Int := sgn 32 e.w3

/-- is a code that of a local channel, of a remote channel, of a group (R306) -/
def isLocal (c : Nat) : Bool := decide (c < 48)
def isRemote (c : Nat) : Bool := decide (16384 ≤ c) && decide (c < 16384 + 2048) && c / 16 % 32 != 0
def isGroup (c : Nat) : Bool := (c / 16384 == 2 || c / 16384 == 3) && decide (c % 16384 < 64)

/-- link, address, channel of a remote code -/
def remLink (c : Nat) : Nat := c / 512 % 4
def remAddr (c : Nat) : Nat := c / 16 % 32
def remChan (c : Nat) : Nat := c % 16
/-- its bit in the counter RAM (R415) -/
def remIx (c : Nat) : Nat := 496 * remLink c + 16 * (remAddr c - 1) + remChan c

/-- is a field of R307 out of range (code 0x4) -/
def entRange (e : EntW) : Bool :=
  match entTb e with
  | 0 => decide (1000000000 ≤ bitsOf e.w3 29 0)
  | 1 => (entWmask e == 0 && entValid e) || decide (12 < entMonth e) || decide (23 < bitsOf e.w3 31 27) || decide (59 < bitsOf e.w3 26 21)
      || decide (59 < bitsOf e.w3 20 15) || decide (999 < entMs e)
  | _ => (entWmask e == 0 && entValid e) || decide (16 < entEv e) || decide (entOff e < -86400000) || decide (86400000 < entOff e)

/-- is a reserved bit set (code 0x5) -/
def entReserved (e : EntW) : Bool :=
  bitsOf e.w0 6 0 != 0 || bitsOf e.w1 4 0 != 0
    || (entTb e == 1 && (bitsOf e.w2 15 0 != 0 || bitsOf e.w3 4 0 != 0)) || (entTb e == 2 && bitsOf e.w2 18 0 != 0)

/-- the code of R308, 0 when the entry passes; form gives the FORM of a channel -/
def entCheck (form : Nat → Nat) (e : EntW) : Nat :=
  let c := entCode e
  if entTb e = 3 || entRec e = 3 || decide (3 < entAct e) || entHmode e = 3 then 1
  else if decide (5 < entQch e) || decide (35999 < entQang e) || (entQen e && entKind e != 0) then 2
  else if !(isLocal c || isRemote c || isGroup c) || (isLocal c && entAct e == 3 && form c == 2) then 3
  else if entRange e then 4
  else if entReserved e then 5
  else 0

/-- the entry 16 bytes spell -/
def entOf (l : List Byte) : EntW :=
  { w0 := leNat (l.take 4), w1 := leNat ((l.drop 4).take 4), w2 := leNat ((l.drop 8).take 4), w3 := leNat ((l.drop 12).take 4) }

def entBytes (e : EntW) : List Byte := leBytes 4 e.w0 ++ leBytes 4 e.w1 ++ leBytes 4 e.w2 ++ leBytes 4 e.w3

end Sys2Proof.Machine
end

