-- ==== Sys2Proof/Machine/ImgCheck.lean ====
section
/-! DEFINITION. The Yelyen image format (R61 to R77, R554, R560) and pass 1 of its verification (R81), as functions of the
image's bytes. -/

namespace Sys2Proof.Machine

/-! ### The ball grid (R554) -/

/-- what a ball is, as far as PINMUX rules ask (R560): supply; INn, MEASn, OUTn, SWn, FBn, CLk, TOD_RXk, TOD_TXk or IRIG_OUT,
OCXO_RDY; straps, RESET_N and HP_* (no code 1, no pull); other LVCMOS; the rest -/
inductive Ball where
  | supply
  | inp (n : Nat)
  | meas (n : Nat)
  | out (n : Nat)
  | sw (n : Nat)
  | fb (n : Nat)
  | cl (k : Nat)
  | todRx (k : Nat)
  | tod
  | ocxo
  | fixed
  | lvcmos
  | other
  deriving DecidableEq, Repr, Inhabited

/-- row A -/
def ballRow0 : List Ball :=
  [.supply, .supply, .supply, .other, .other, .supply, .other, .other, .supply, .other, .other, .supply, .other, .other, .supply, .other, .other, .supply, .other, .other, .supply, .supply]

/-- row B -/
def ballRow1 : List Ball :=
  [.supply, .supply, .supply, .supply, .supply, .supply, .supply, .supply, .supply, .supply, .supply, .supply, .supply, .supply, .supply, .supply, .supply, .supply, .supply, .supply, .supply, .supply]

/-- row C -/
def ballRow2 : List Ball :=
  [.supply, .supply, .supply, .other, .other, .supply, .other, .other, .supply, .other, .other, .supply, .other, .other, .supply, .other, .other, .supply, .other, .other, .supply, .supply]

/-- row D -/
def ballRow3 : List Ball :=
  [.inp 0, .inp 0, .inp 1, .inp 1, .fixed, .fixed, .fixed, .fixed, .fixed, .fixed, .fixed, .fixed, .fixed, .fixed, .fixed, .fixed, .fixed, .fixed, .supply, .supply, .supply, .supply]

/-- row E -/
def ballRow4 : List Ball :=
  [.inp 2, .inp 2, .inp 3, .inp 3, .fixed, .fixed, .fixed, .fixed, .fixed, .fixed, .fixed, .fixed, .fixed, .fixed, .fixed, .fixed, .fixed, .fixed, .out 1, .out 1, .out 0, .out 0]

/-- row F -/
def ballRow5 : List Ball :=
  [.inp 4, .inp 4, .inp 5, .inp 5, .other, .supply, .supply, .supply, .supply, .supply, .supply, .supply, .supply, .supply, .supply, .supply, .lvcmos, .fixed, .out 3, .out 3, .out 2, .out 2]

/-- row G -/
def ballRow6 : List Ball :=
  [.inp 6, .inp 6, .inp 7, .inp 7, .supply, .supply, .supply, .supply, .supply, .supply, .supply, .supply, .supply, .supply, .supply, .supply, .fixed, .fixed, .supply, .supply, .supply, .supply]

/-- row H -/
def ballRow7 : List Ball :=
  [.inp 8, .inp 8, .inp 9, .inp 9, .other, .other, .supply, .supply, .supply, .supply, .supply, .supply, .supply, .supply, .supply, .supply, .fixed, .fixed, .out 5, .out 5, .out 4, .out 4]

/-- row J -/
def ballRow8 : List Ball :=
  [.inp 10, .inp 10, .inp 11, .inp 11, .other, .other, .supply, .supply, .supply, .supply, .supply, .supply, .supply, .supply, .supply, .supply, .fixed, .lvcmos, .out 7, .out 7, .out 6, .out 6]

/-- row K -/
def ballRow9 : List Ball :=
  [.supply, .supply, .supply, .supply, .other, .other, .supply, .supply, .supply, .supply, .supply, .supply, .supply, .supply, .supply, .supply, .fixed, .lvcmos, .supply, .supply, .supply, .supply]

/-- row L -/
def ballRow10 : List Ball :=
  [.inp 12, .inp 12, .inp 13, .inp 13, .other, .other, .supply, .supply, .supply, .supply, .supply, .supply, .supply, .supply, .supply, .supply, .fixed, .lvcmos, .out 9, .out 9, .out 8, .out 8]

/-- row M -/
def ballRow11 : List Ball :=
  [.inp 14, .inp 14, .inp 15, .inp 15, .other, .other, .supply, .supply, .supply, .supply, .supply, .supply, .supply, .supply, .supply, .supply, .ocxo, .fixed, .out 11, .out 11, .out 10, .out 10]

/-- row N -/
def ballRow12 : List Ball :=
  [.meas 0, .meas 0, .meas 1, .meas 1, .other, .other, .supply, .supply, .supply, .supply, .supply, .supply, .supply, .supply, .supply, .supply, .supply, .lvcmos, .supply, .supply, .supply, .supply]

/-- row P -/
def ballRow13 : List Ball :=
  [.meas 2, .meas 2, .meas 3, .meas 3, .other, .supply, .supply, .supply, .supply, .supply, .supply, .supply, .supply, .supply, .supply, .supply, .supply, .lvcmos, .out 13, .out 13, .out 12, .out 12]

/-- row T -/
def ballRow14 : List Ball :=
  [.meas 4, .meas 4, .meas 5, .meas 5, .other, .other, .supply, .supply, .supply, .supply, .supply, .supply, .supply, .supply, .supply, .supply, .supply, .lvcmos, .out 15, .out 15, .out 14, .out 14]

/-- row U -/
def ballRow15 : List Ball :=
  [.meas 6, .meas 6, .meas 7, .meas 7, .todRx 0, .todRx 1, .tod, .tod, .tod, .supply, .supply, .supply, .supply, .supply, .supply, .supply, .supply, .supply, .supply, .supply, .supply, .supply]

/-- row V -/
def ballRow16 : List Ball :=
  [.supply, .supply, .supply, .supply, .cl 0, .cl 0, .cl 0, .cl 1, .cl 1, .cl 1, .cl 2, .cl 2, .cl 2, .cl 3, .cl 3, .cl 3, .supply, .supply, .supply, .supply, .supply, .supply]

/-- row W -/
def ballRow17 : List Ball :=
  [.fb 20, .fb 21, .fb 22, .fb 23, .supply, .supply, .supply, .supply, .supply, .supply, .supply, .fb 44, .fb 45, .fb 46, .fb 47, .supply, .supply, .supply, .supply, .supply, .supply, .supply]

/-- row Y -/
def ballRow18 : List Ball :=
  [.fb 9, .fb 10, .fb 11, .fb 12, .fb 13, .fb 14, .fb 15, .fb 16, .fb 17, .fb 18, .fb 19, .fb 33, .fb 34, .fb 35, .fb 36, .fb 37, .fb 38, .fb 39, .fb 40, .fb 41, .fb 42, .fb 43]

/-- row AA -/
def ballRow19 : List Ball :=
  [.sw 22, .sw 23, .fb 0, .fb 1, .fb 2, .fb 3, .fb 4, .fb 5, .fb 6, .fb 7, .fb 8, .sw 46, .sw 47, .fb 24, .fb 25, .fb 26, .fb 27, .fb 28, .fb 29, .fb 30, .fb 31, .fb 32]

/-- row AB -/
def ballRow20 : List Ball :=
  [.sw 11, .sw 12, .sw 13, .sw 14, .sw 15, .sw 16, .sw 17, .sw 18, .sw 19, .sw 20, .sw 21, .sw 35, .sw 36, .sw 37, .sw 38, .sw 39, .sw 40, .sw 41, .sw 42, .sw 43, .sw 44, .sw 45]

/-- row AC -/
def ballRow21 : List Ball :=
  [.sw 0, .sw 1, .sw 2, .sw 3, .sw 4, .sw 5, .sw 6, .sw 7, .sw 8, .sw 9, .sw 10, .sw 24, .sw 25, .sw 26, .sw 27, .sw 28, .sw 29, .sw 30, .sw 31, .sw 32, .sw 33, .sw 34]

/-- the rows of the grid by row index (R554, R560) -/
def ballRows : List (List Ball) :=
  [ballRow0, ballRow1, ballRow2, ballRow3, ballRow4, ballRow5, ballRow6, ballRow7, ballRow8, ballRow9, ballRow10, ballRow11, ballRow12, ballRow13, ballRow14, ballRow15, ballRow16, ballRow17, ballRow18, ballRow19, ballRow20, ballRow21]

/-- the ball at a row index and a column 1 to 22 -/
def ballAt (row col : Nat) : Ball := if col = 0 then .supply else (ballRows.getD row []).getD (col - 1) .supply

/-- does a ball accept function code 1 (R560) -/
def ballMayDisable : Ball → Bool
  | .inp _ | .meas _ | .out _ | .sw _ | .fb _ | .cl _ | .todRx _ | .tod | .ocxo => true
  | _ => false

/-! ### Reading an image's bytes (R61) -/

def b8 (l : List Byte) (i : Nat) : Nat := (l.getD i 0).toNat
def b16 (l : List Byte) (i : Nat) : Nat := b8 l i + 256 * b8 l (i + 1)
def b32 (l : List Byte) (i : Nat) : Nat := b16 l i + 65536 * b16 l (i + 2)
def cut (l : List Byte) (off n : Nat) : List Byte := (l.drop off).take n
def allZero (l : List Byte) : Bool := l.all (fun b => b == 0)

/-- pieces of n bytes -/
def chunks : Nat → Nat → List Byte → List (List Byte)
  | 0, _, _ => []
  | k + 1, n, l => if l.isEmpty then [] else l.take n :: chunks k n (l.drop n)

/-- the header fields of R62 -/
structure Header where
  version : Nat
  hdrLen : Nat
  flags : Nat
  imgLen : Nat
  segs : Nat
  part : Nat
  secver : Nat
  imageId : Nat
  initMode : Nat
  timeDpll : Nat
  pBlock : Nat
  crc : Nat
  deriving DecidableEq, Repr, Inhabited

def headerOf (l : List Byte) : Header :=
  { version := b8 l 4, hdrLen := b8 l 5, flags := b16 l 6, imgLen := b32 l 8, segs := b16 l 12, part := b16 l 14
    secver := b32 l 16, imageId := b32 l 20, initMode := b8 l 32, timeDpll := b8 l 33, pBlock := b8 l 34, crc := b32 l 36 }

def Header.enc (h : Header) : Bool := bitAt h.flags 0
def Header.signed (h : Header) : Bool := bitAt h.flags 1
def Header.partial_ (h : Header) : Bool := bitAt h.flags 2
/-- where the signature block begins, or the image ends (R63, R75) -/
def Header.sigAt (h : Header) : Nat := if h.signed then h.imgLen - 144 else h.imgLen
/-- an unsigned image is treated as SECVER 0 (R77) -/
def Header.effSecver (h : Header) : Nat := if h.signed then h.secver else 0

/-- a directory entry (R64), with its index -/
structure SegEnt where
  idx : Nat
  type : Nat
  block : Nat
  sflags : Nat
  off : Nat
  len : Nat
  crc : Nat
  deriving DecidableEq, Repr, Inhabited

def dirOf (h : Header) (l : List Byte) : List SegEnt :=
  (List.range (min h.segs 64)).map (fun i =>
    let o := h.hdrLen * 16 + 16 * i
    { idx := i, type := b8 l o, block := b8 l (o + 1), sflags := b16 l (o + 2), off := b32 l (o + 4), len := b32 l (o + 8), crc := b32 l (o + 12) })

def SegEnt.enc (e : SegEnt) : Bool := bitAt e.sflags 0

/-- the additional authenticated data of a segment (R74) -/
def aadOf (h : Header) (l : List Byte) (e : SegEnt) : List Byte := cut l 16 8 ++ cut l (h.hdrLen * 16 + 16 * e.idx) 12

/-- what surrounds the verification: the fuses' view of keys and rollback, the KEK, whether SEC can work, whether a signature
is required, the locks and values a partial image meets -/
structure CheckEnv where
  required : Bool
  arb : Nat
  usable : Nat
  pkh : Nat → List Byte
  kek : Option (List Byte)
  secOk : Bool
  partialRun : Bool
  isoDone : Nat
  locked : List CfgRec → Bool
  pmGang : Nat
  stdMismatch : List (Nat × Nat × Nat) → Bool
  noSig : Bool
  form : Nat → Nat

/-- the CEK of an encrypted image, where its segment unwraps (R74, R437) -/
def cekOf (env : CheckEnv) (l : List Byte) (dir : List SegEnt) : Option (List Byte) :=
  match dir.find? (fun e => e.type == 9) with
  | some e =>
    if env.secOk then
      match env.kek with
      | some k => (Config.kwUnwrap k (cut l e.off 40)).map (fun v => v.toList)
      | none => none
    else none
  | none => none

/-- the plain content of a segment; none when its tag fails (R74) -/
def segBytes (env : CheckEnv) (h : Header) (l : List Byte) (cek : Option (List Byte)) (e : SegEnt) : Option (List Byte) :=
  let raw := cut l e.off e.len
  if !e.enc then some raw
  else if e.len < 28 || !env.secOk then none
  else
    match cek with
    | some k => Config.gcmOpen k (raw.take 12) (aadOf h l e) (cut raw 12 (e.len - 28)) (raw.drop (e.len - 16))
    | none => none

/-! ### Content rules (R66 to R74, R560) -/

def structOf (c : List Byte) : StructS :=
  { pmGang := b16 c 0, synceDpll := b8 c 2, dpllSyn := (List.range 4).map (fun n => b8 c (4 + n))
    outSyn := (List.range 16).map (fun n => b8 c (12 + n)), dpllCand := (List.range 8).map (fun d => b32 c (28 + 4 * d))
    portMaster := b8 c 60, portSlave := b8 c 61, portTc := b8 c 62, cascade := b8 c 63, syncePorts := b8 c 64 }

/-- the structure of a version 1 image (R67) -/
def structV1 : StructS :=
  { pmGang := 0, synceDpll := 255, dpllSyn := [0, 1, 2, 3], outSyn := (List.range 16).map (fun n => n / 4)
    dpllCand := 0xE000FFFF :: List.replicate 7 0x0000FFFF }

/-- the STRUCT rules of R66 -/
def structOk (c : List Byte) : Bool :=
  let t := structOf c
  c.length == 80 && decide (t.pmGang < 512) && ((List.range 3).all (fun g => decide (bitsOf t.pmGang (3 * g + 2) (3 * g) ≤ 4)))
    && (decide (t.synceDpll < 8) || t.synceDpll == 255) && b8 c 3 == 0 && (t.dpllSyn.all (fun d => decide (d < 8)))
    && allZero (cut c 8 4) && (t.outSyn.all (fun o => decide (o < 32))) && decide (t.portMaster < 64) && decide (t.portSlave < 64)
    && decide (t.portTc < 64) && decide (t.cascade < 16) && decide (t.syncePorts < 64) && allZero (c.drop 65)
    && (t.dpllCand.all (fun m =>
      ((List.range 6).all (fun p => (!bitAt m (16 + p) || bitAt t.portSlave p) && (!bitAt m (22 + p) || bitAt t.syncePorts p)))
        && (!bitAt m 28 || t.cascade != 0)))

/-- the register row at a canonical word address of a block (R68: not through aliasing) -/
def rowAt (addr : Nat) : Option RegRow :=
  (regRows (addr / 2 ^ 20)).find? (fun r => (List.range r.count).any (fun i => (List.range r.inner).any (fun j =>
    r.base + i * r.stride + j * r.istep == addr)))

def cfgRecOf (block seg : Nat) (r : List Byte) : CfgRec :=
  { addr := block * 2 ^ 20 + b16 r 0 * 4, be := b8 r 2, val := b32 r 4, seg := seg }

/-- the BLOCKCFG rules of R68 for one record, but for the locks -/
def cfgRecOk (block : Nat) (r : List Byte) : Bool :=
  let c := cfgRecOf block 0 r
  let special := if block = 3 then c.addr == 0x300014 else if block = 15 then c.addr == 0xF00008 || c.addr == 0xF0000C else true
  b8 r 3 == 0 && c.be != 0 && decide (c.be < 16) && special && c.addr != 0x000008 && c.addr != 0x000010
    && match rowAt c.addr with
      | some row => !(row.whole && c.be != 15)
      | none => false

/-- may BLOCK be the target of a BLOCKCFG (R65, R68) -/
def cfgBlockOk (h : Header) (b : Nat) : Bool :=
  if h.version = 1 then decide (4 ≤ b) && decide (b ≤ 8) else b == 0 || b == 3 || (decide (4 ≤ b) && decide (b ≤ 15))

def dupFree : List Nat → Bool
  | [] => true
  | a :: r => !r.contains a && dupFree r

/-- the lowest slices of the units of a PM_GANG value (R66) -/
def gangLead (pmGang n : Nat) : Bool :=
  let c := bitsOf pmGang (3 * (n / 4) + 2) (3 * (n / 4))
  match n % 4 with
  | 0 => true
  | 1 => !(c == 1 || c == 3 || c == 4)
  | 2 => c != 4
  | _ => !(c == 2 || c == 3 || c == 4)

/-- ROUTE destinations and sources (R70) -/
def routeOk (pmGang dst src : Nat) : Bool :=
  let pin := decide (src < 16)
  let any := pin || (decide (0x10 ≤ src) && decide (src < 0x18)) || (decide (0x20 ≤ src) && decide (src < 0x36))
    || (decide (0x40 ≤ src) && decide (src < 0x70)) || src == 0x70 || src == 0xFF
  if decide (0x100 ≤ dst) && decide (dst < 0x10C) then any && gangLead pmGang (dst - 0x100)
  else if decide (0x110 ≤ dst) && decide (dst < 0x11C) then any && gangLead pmGang (dst - 0x110)
  else if dst = 0x120 || dst = 0x121 || dst = 0x130 then pin
  else false

def routesOf (c : List Byte) : List (Nat × Nat) := (chunks 30000 4 c).map (fun r => (b16 r 0, b16 r 2))

/-- an IOSTD record (R70): class, index, standard, options -/
def stdRecOk (r : List Byte) : Bool :=
  let cl := b8 r 0; let i := b8 r 1; let st := b8 r 2; let op := b8 r 3
  let cnt := match cl with
    | 0 => 7 | 1 => 16 | 2 => 16 | 3 => 8 | _ => 0
  decide (i < cnt) && decide (1 ≤ st) && decide (st ≤ 5) && decide (op < 4) && (cl != 0 || decide (st ≤ 2))

def stdsOf (c : List Byte) : List (Nat × Nat × Nat) := (chunks 30000 4 c).map (fun r => (b8 r 0 * 256 + b8 r 1, b8 r 2, b8 r 3))

/-- does a ball carry an LVCMOS standard under the image's I/O standards (R560) -/
def ballLvcmos (stds : List (Nat × Nat × Nat)) (b : Ball) : Bool :=
  let std (k : Nat) : Bool := stds.any (fun e => e.1 == k && decide (e.2.1 ≤ 2))
  match b with
  | .inp n => std (512 + n)
  | .meas n => std (768 + n)
  | .out n => std (256 + n)
  | .sw _ | .fb _ | .cl _ | .todRx _ | .tod | .ocxo | .lvcmos => true
  | _ => false

/-- PINMUX rules (R70, R560) -/
def pinmuxOk (stds : List (Nat × Nat × Nat)) (c : List Byte) : Bool :=
  let rs := chunks 30000 4 c
  let one (r : List Byte) : Bool :=
    let b := ballAt (b8 r 0) (b8 r 1)
    decide (b8 r 0 < 22) && decide (1 ≤ b8 r 1) && decide (b8 r 1 ≤ 22) && b != .supply && decide (b8 r 2 ≤ 1)
      && (b8 r 2 == 0 || ballMayDisable b) && decide (b8 r 3 ≤ 2) && (b8 r 3 == 0 || ballLvcmos stds b)
  let code (row col : Nat) : Nat := match rs.find? (fun r => b8 r 0 == row && b8 r 1 == col) with
    | some r => b8 r 2
    | none => 0
  let pairs (r : List Byte) : Bool :=
    match ballAt (b8 r 0) (b8 r 1) with
    | .inp n => code (b8 r 0) (b8 r 1 + 1) == b8 r 2 && ballAt (b8 r 0) (b8 r 1 + 1) == .inp n
        || code (b8 r 0) (b8 r 1 - 1) == b8 r 2 && ballAt (b8 r 0) (b8 r 1 - 1) == .inp n
    | .meas n => code (b8 r 0) (b8 r 1 + 1) == b8 r 2 && ballAt (b8 r 0) (b8 r 1 + 1) == .meas n
        || code (b8 r 0) (b8 r 1 - 1) == b8 r 2 && ballAt (b8 r 0) (b8 r 1 - 1) == .meas n
    | .out n => code (b8 r 0) (b8 r 1 + 1) == b8 r 2 && ballAt (b8 r 0) (b8 r 1 + 1) == .out n
        || code (b8 r 0) (b8 r 1 - 1) == b8 r 2 && ballAt (b8 r 0) (b8 r 1 - 1) == .out n
    | _ => true
  c.length % 4 == 0 && rs.all one && rs.all pairs && dupFree (rs.map (fun r => b8 r 0 * 32 + b8 r 1))

/-- FLTREACT rules (R72) -/
def reactOk (c : List Byte) : Bool :=
  c.length == 196 && decide (1 ≤ b16 c 0) && decide (b16 c 0 ≤ 65000) && b16 c 2 == 0
    && (List.range 96).all (fun i => decide (b16 c (4 + 2 * i) < 32))

/-- FLTDEP rules (R72, R466) -/
def depOk (c : List Byte) : Bool :=
  let rs := chunks 30000 16 c
  c.length % 16 == 0 && rs.all (fun r => decide (4 ≤ b8 r 0) && decide (b8 r 0 ≤ 14) && b8 r 1 == 0 && b16 r 2 != 0) && dupFree (rs.map (fun r => b8 r 0))

/-- the FORM of channel n as the records of an image leave it, dflt before them -/
def formIn (recs : List CfgRec) (dflt : Nat → Nat) (n : Nat) : Nat :=
  recs.foldl (fun v r => if r.addr = 0xB00100 + 0x10 * n && bitAt r.be 3 then bitsOf r.val 30 29 else v) (dflt n)

/-- SCHED rules (R73, R308) -/
def schedOk (form : Nat → Nat) (c : List Byte) : Bool :=
  decide (8 ≤ c.length) && decide (b16 c 4 + b16 c 6 ≤ 4096) && c.length == 8 + 16 * b16 c 6
    && (chunks 30000 16 (c.drop 8)).all (fun r => entCheck form (entOf r) == 0)

/-- KEYWRAP rules (R74, R437, R438) -/
def keywrapOk (env : CheckEnv) (c : List Byte) : Bool :=
  c.length % 44 == 0 && (chunks 30000 44 c).all (fun r =>
    decide (b8 r 0 < 32) && decide (1 ≤ b8 r 1) && decide (b8 r 1 ≤ 3) && b16 r 2 == 0 && env.secOk
      && match env.kek with
        | some k => (Config.kwUnwrap k (r.drop 4)).isSome
        | none => false)

/-- the content rules by segment type. DESIGN CHOICE, log entry 134: a ROUTE destination of another block in a partial image fails here
(R86); destinations 0x120 and 0x121 belong to REF, 0x130 to TKP -/
def contentOk (env : CheckEnv) (h : Header) (dir : List SegEnt) (plain : SegEnt → List Byte) (e : SegEnt) : Bool :=
  let c := plain e
  let gang := match dir.find? (fun x => x.type == 1) with
    | some x => b16 (plain x) 0
    | none => if h.partial_ then env.pmGang else 0
  let stds := match dir.find? (fun x => x.type == 5) with
    | some x => stdsOf (plain x)
    | none => []
  match e.type with
  | 1 => structOk c
  | 2 =>
    let rs := chunks 30000 8 c
    c.length % 8 == 0 && rs.all (cfgRecOk e.block) && !(env.partialRun && env.locked (rs.map (cfgRecOf e.block 0)))
  | 3 =>
    let rs := routesOf c
    let owner (d : Nat) : Nat := if d < 0x120 then 5 else if d < 0x130 then 4 else 8
    rs.all (fun r => routeOk gang r.1 r.2 && (!h.partial_ || owner r.1 == h.pBlock)) && dupFree (rs.map (fun r => r.1))
  | 4 => pinmuxOk stds c
  | 5 => c.length % 4 == 0 && (chunks 30000 4 c).all stdRecOk
  | 6 => reactOk c
  | 7 => depOk c
  | 8 =>
    let recs := (dir.filter (fun x => x.type == 2 && x.block == 11)).flatMap (fun x => (chunks 30000 8 (plain x)).map (cfgRecOf 11 0))
    schedOk (formIn recs (if h.partial_ then env.form else fun _ => 0)) c
  | 9 => e.len == 48 && allZero (c.drop 40)
  | 10 => keywrapOk env c
  | _ => false

/-! ### Pass 1 (R81) -/

/-- the first entry beyond the permitted number of a kind -/
def beyond (dir : List SegEnt) (p : SegEnt → Bool) (n : Nat) : Option Nat := ((dir.filter p).drop n).head?.map (fun e => e.idx)

/-- step 11: none, or the index at fault, 255 for an absence (R65, R81, R86, R91). DESIGN CHOICE, log entry 133: the entries that break a
rule of their own come first, then the counts in the order of the types; 255 also for a header field of step 11; a CEK entry with
SFLAGS.ENC = 1 fails here -/
def typesFault (h : Header) (dir : List SegEnt) : Option Nat :=
  let v2only (t : Nat) : Bool := t != 2 && t != 3
  let bad := dir.find? (fun e =>
    e.type = 0 || decide (10 < e.type) || (h.version == 1 && v2only e.type)
      || (e.type != 2 && e.block != 255) || (e.type == 2 && !cfgBlockOk h e.block) || (e.type == 9 && (e.enc || !h.enc))
      || (h.partial_ && !(e.type == 3 || e.type == 9 || (e.type == 2 && e.block == h.pBlock) || (e.type == 8 && h.pBlock == 11))))
  match bad with
  | some e => some e.idx
  | none =>
    let beyondEnd := ([1, 3, 4, 5, 6, 7, 8, 9, 10].filterMap (fun t => beyond dir (fun e => e.type == t) 1))
      ++ ((List.range 16).filterMap (fun b => beyond dir (fun e => e.type == 2 && e.block == b) 1))
    match beyondEnd with
    | i :: _ => some i
    | [] =>
      let has (t : Nat) : Bool := dir.any (fun e => e.type == t)
      if h.enc && !has 9 then some 255
      else if h.partial_ then
        if h.timeDpll = 255 && decide (4 ≤ h.pBlock) && decide (h.pBlock ≤ 14) && h.initMode = 0 then none else some 255
      else if h.version = 2 && !has 1 then some 255
      else if (h.version = 1 || decide (h.timeDpll < 8)) && h.pBlock = 255 then none else some 255

/-- step 10 (R61, R64, R81) -/
def directoryOk (h : Header) (l : List Byte) (dir : List SegEnt) : Bool :=
  let first := h.hdrLen * 16 + 16 * h.segs
  let gaps := (List.range (h.sigAt - first)).all (fun i =>
    let a := first + i
    l.getD a 0 == 0 || dir.any (fun e => decide (e.off ≤ a) && decide (a < e.off + e.len)))
  dir.all (fun e => e.off % 16 == 0 && e.len % 4 == 0 && decide (4 ≤ e.len) && decide (first ≤ e.off) && decide (e.off + e.len ≤ h.sigAt)
      && decide (e.sflags < 2) && dir.all (fun f => e.idx == f.idx || decide (e.off + e.len ≤ f.off) || decide (f.off + f.len ≤ e.off)))
    && b8 l 0x23 == 0 && allZero (cut l 0x28 24) && (h.version == 1 || allZero (cut l 0x40 32)) && b16 l 0x1E == 0
    && (!h.signed || allZero (cut l (h.sigAt + 6) 10)) && gaps

/-- SHA-256 of the signed message and of the public key (R75) -/
def sigKeyOk (env : CheckEnv) (h : Header) (l : List Byte) : Bool :=
  let o := h.sigAt
  cut l o 4 == [0x59, 0x53, 0x49, 0x47] && b8 l (o + 5) == 1 && decide (b8 l (o + 4) < 4) && bitAt env.usable (b8 l (o + 4)) && env.secOk
    && (Config.sha256 (cut l (o + 16) 64)).toList == env.pkh (b8 l (o + 4))

def sigOk (env : CheckEnv) (h : Header) (l : List Byte) : Bool :=
  let o := h.sigAt
  env.secOk && Config.ecdsaOk (cut l (o + 16) 64) (Config.sha256 (l.take (o + 80))).toList (cut l (o + 80) 64)

/-- IMG_CRC over the bytes before the signature block, its own four as 0 (R63) -/
def imgCrc (h : Header) (l : List Byte) : Nat := crc32 (l.take 0x24 ++ [0, 0, 0, 0] ++ cut l 0x28 (h.sigAt - 0x28))

/-- steps 12 to 15 for one segment: the code of the first failure (R81) -/
def segFault (env : CheckEnv) (h : Header) (l : List Byte) (dir : List SegEnt) (cek : Option (List Byte)) (e : SegEnt) : Option Nat :=
  if crc32 (cut l e.off e.len) != e.crc then some 0x0C
  else if e.type = 9 && cek.isNone then some 0x0E
  else if (segBytes env h l cek e).isNone then some 0x0D
  else if !contentOk env h dir (fun x => (segBytes env h l cek x).getD []) e then some 0x0F
  else none

/-- pass 1 over the bytes of a candidate, without step 16 where skipStd says so: none, or code and SEG of the first failure (R81, R91).
DESIGN CHOICE, log entry 133: code 0x11 comes after step 11 and before step 12, with SEG 0xFF; a partial image as a boot candidate or an
in-service full download fails at step 11 with SEG 0xFF -/
def pass1 (env : CheckEnv) (skipStd : Bool) (l : List Byte) : Option (Nat × Nat) :=
  let h := headerOf l
  let verOk := ((h.version == 1 && h.hdrLen == 4 && !h.enc && h.initMode == 0) || (h.version == 2 && h.hdrLen == 6)) && decide (h.flags < 8)
  if l.take 4 != [0x59, 0x4C, 0x59, 0x4E] then some (0x01, 255)
  else if !verOk then some (0x02, 255)
  else if h.part != (if h.version = 2 then 0x9340 else 0x7120) then some (0x03, 255)
  else if h.imgLen % 16 != 0 || decide (98304 < h.imgLen) || h.segs = 0 || decide (64 < h.segs)
      || decide (h.imgLen < h.hdrLen * 16 + 16 * h.segs + (if h.signed then 144 else 0)) then some (0x04, 255)
  else if imgCrc h l != h.crc then some (0x05, 255)
  else if env.required && !h.signed then some (0x06, 255)
  else if !env.noSig && (decide (h.effSecver < env.arb) || decide (64 < h.effSecver)) then some (0x09, 255)
  else if !env.noSig && h.signed && !sigKeyOk env h l then some (0x07, 255)
  else if !env.noSig && h.signed && !sigOk env h l then some (0x08, 255)
  else
    let dir := dirOf h l
    if !directoryOk h l dir then some (0x0A, 255)
    else
      match typesFault h dir with
      | some i => some (0x0B, i)
      | none =>
        if env.partialRun && !(h.partial_ && bitAt env.isoDone h.pBlock) then (if h.partial_ then some (0x11, 255) else some (0x0B, 255))
        else if !env.partialRun && h.partial_ then some (0x0B, 255)
        else
          let cek := cekOf env l dir
          match dir.findSome? (fun e => (segFault env h l dir cek e).map (fun c => (c, e.idx))) with
          | some r => some r
          | none =>
            let stds := match dir.find? (fun x => x.type == 5) with
              | some x => stdsOf ((segBytes env h l cek x).getD [])
              | none => []
            if !skipStd && env.stdMismatch stds then some (0x10, 255) else none

end Sys2Proof.Machine
end

