-- ==== Sys2Proof/Machine/Nvm.lean ====
section
/-! DEFINITION. NVM operations: write-back queue (R413), saves and their ring (R416 to R418), restore (R420, R421), page
programs (R411, R412), the march test (R426). -/

namespace Sys2Proof.Machine
open Sys2Proof.Reg

def modNvm (f : NvmS → NvmS) (s : State) : State := { s with nvm := f s.nvm }

/-- first byte of a page -/
def pageAt (p : Nat) : Nat := p * 256

/-- first byte of ring slot i (R410) -/
def ringAt (i : Nat) : Nat := pageAt (0x310 + 16 * i)

/-! ### Saves -/

/-- the bytes of a table of words -/
def cramBytes (t : Tab) : List Byte := (List.range 1024).flatMap (fun i => leBytes 4 (tabGet t i 0))

/-- the sequence number and validity of ring slot i (R416) -/
def ringSeq (s : State) (i : Nat) : Nat := leNat (mrdList s (ringAt i + 0xFF8) 4)
def ringValid (s : State) (i : Nat) : Bool :=
  ringSeq s i != 0 && crc32 (mrdList s (ringAt i) 0xFFC) == leNat (mrdList s (ringAt i + 0xFFC) 4)

/-- is sequence number a newer than b (R416) -/
def seqNewer (a b : Nat) : Bool :=
  let d := (a + 2 ^ 32 - b) % 2 ^ 32
  decide (1 ≤ d) && decide (d < 2 ^ 31)

/-- the newest slots: valid slots that no valid slot is newer than (R416) -/
def newestSlots (s : State) : List Nat :=
  let v := (List.range 8).filter (ringValid s)
  v.filter (fun i => v.all (fun j => !seqNewer (ringSeq s j) (ringSeq s i)))

/-- the slot and sequence number of the next save (R416) -/
def nextSlot (s : State) : Nat × Nat :=
  match (newestSlots s).getLast? with
  | some i =>
    let q := (ringSeq s i + 1) % 2 ^ 32
    ((i + 1) % 8, if q = 0 then 1 else q)
  | none => (0, 1)

/-- the running march test is stopped (R418 step 1) -/
def stopMarch (s : State) : State :=
  if s.nvm.testRun then
    (modNvm (fun n => { n with testRun := false }) s) |> put NVM_TEST_GO 0 |> put NVM_TESTRES_DONE 1 |> put NVM_TESTRES_STOPPED 1
      |> put NVM_TESTRES_PASS 0
  else s

/-- the counter RAM as the snapshot finds it: without what its owners change in the same core cycle (R427), but with SCAN_T, advanced for
the save (R322), and with the count whose increment is the trigger -/
def snapBase (cause : Nat) (s : State) : Tab :=
  (if cause = 5 then [cramScan, cramScan + 1, cramRecovery] else [cramScan, cramScan + 1]).foldl (fun t i => tabPut t i (cram s i) 0) s.cyc.cram

/-- a save of a cause begins: snapshot, slot, sequence (R417, R418); a host program that has not started is discarded (R427) -/
def beginSave (cause : Nat) (s : State) : State :=
  if on s NVM_STAT_CRAM_BAD then put NVM_STAT_SKIP 1 s
  else
    let s := stopMarch s
    let s := if s.nvm.pb.isSome && s.nvm.prog != 2 then modNvm (fun n => { n with pb := none }) (s |> put NVM_PSTAT_PB_PEND 0 |> put NVM_PSTAT_REFUSED 1) else s
    let q := nextSlot s
    let saves := (cram s 0 + 1) % 2 ^ 32
    let snap := tabPut (tabPut (tabPut (snapBase cause s) 0 saves 0) 1 cause 0) (0xFF8 / 4) q.2 0
    let body := (cramBytes snap).take 0xFFC
    let snap := tabPut snap (0xFFC / 4) (crc32 body) 0
    let s := modNvm (fun n => { n with save := some { cause := cause, slot := q.1, seq := q.2, saves := saves, snap := snap, flush := cause == 1 || cause == 4 } }) s
    s |> put NVM_STAT_SAVE_RUN 1 |> put NVM_STAT_LAST_CAUSE cause

/-- a trigger of R417: none while a save runs, but that the power-fail warning turns it into a cause 1 save; while NVM is
isolated causes 2, 3 and 5 wait (R426) -/
def triggerSave (cause : Nat) (s : State) : State :=
  match s.nvm.save with
  | some _ =>
    if cause = 1 then put NVM_STAT_LAST_CAUSE 1 (modNvm (fun n => { n with save := n.save.map (fun r => { r with cause := 1, flush := true }) }) s)
    else s
  | none =>
    if isolated s 14 && (cause = 2 || cause = 3 || cause = 5) then
      modNvm (fun n => { n with waitCause := some (n.waitCause.getD cause) }) s
    else beginSave cause s

/-- the array, when free, takes up the next request by priority: a save holds it; the oldest write-back item, while NVM is not isolated; the
host's page (R33) -/
def progNext (s : State) : State :=
  if s.nvm.prog != 0 || s.nvm.save.isSome then s
  else if s.nvm.wb != [] && !isolated s 14 then modNvm (fun n => { n with prog := 1 }) s
  else if s.nvm.pb.isSome then modNvm (fun n => { n with prog := 2 }) s
  else s

/-- every item of the write-back queue programmed (R418 step 6) -/
def flushWb (s : State) : State :=
  let s := s.nvm.wb.foldl (fun s it => it.pages.foldl (fun s p => mwr (pageAt p.1) p.2 s) s) s
  put NVM_STAT_WB_LEVEL 0 (modNvm (fun n => { n with wb := [] }) s)

/-- the running save completes (R418 step 7); it cannot while a page program in progress has not ended (step 3) -/
def saveDone (s : State) : State :=
  match s.nvm.save with
  | none => s
  | some r =>
    if s.nvm.prog != 0 then s else
    let s := mwr (ringAt r.slot) (cramBytes r.snap) s
    let s := if r.flush then flushWb s else s
    let s := putCram 0 r.saves (modNvm (fun n => { n with save := none }) s)
    s |> put NVM_STAT_SAVE_RUN 0 |> put NVM_EVT_SAVE_DONE 1 |> put NVM_STAT_SLOT r.slot |> put NVM_SEQ_SEQ r.seq |> clearBit NVM_STAT_INVALID r.slot
      |> progNext

/-- ring slot i left with bytes that disagree with its CRC (R416); the other bytes stay as they were (DESIGN CHOICE, log entry 121) -/
def tearSlot (i : Nat) (s : State) : State :=
  mwr (ringAt i + 0xFFC) (leBytes 4 (crc32 (mrdList s (ringAt i) 0xFFC) ^^^ 1)) s

/-- a save whose programming failed its verify twice leaves its slot not valid (R411, R424) -/
def saveFailed (s : State) : State :=
  match s.nvm.save with
  | none => s
  | some r =>
    if s.nvm.prog != 0 then s else
    let s := tearSlot r.slot s
    let s := if r.flush then flushWb s else s
    raise 83 none (s |> put NVM_STAT_SAVE_RUN 0 |> putBit NVM_STAT_INVALID r.slot) |> modNvm (fun n => { n with save := none }) |> progNext

/-! ### Restore at L0 (R420, R421) -/

/-- the value of w words at word i of a ring slot -/
def ringVal (s : State) (slot i w : Nat) : Nat := leNat (mrdList s (ringAt slot + 4 * i) (4 * w))

/-- the counter RAM loaded from the ring -/
def ringRestore (s : State) : State :=
  let v := (List.range 8).map (ringValid s)
  let s := (List.range 8).foldl (fun s i => if v.getD i false then s else putBit NVM_STAT_INVALID i s) (put NVM_STAT_INVALID 0 s)
  let blank := (List.range 8).all (fun i => (mrdList s (ringAt i) 4096).all (fun b => b == 0))
  let s := if v.all (fun b => b) || blank then s else raise 81 none s
  let ns := newestSlots s
  match ns with
  | [] => raise 80 none (put NVM_STAT_RESTORED 0 { s with cram := [] })
  | lo :: rest =>
    let words := (List.range 1024).map (fun i => (i, ringVal s lo i 1))
    let tab := words.foldl (fun t w => tabPut t w.1 w.2 0) []
    let hi := (lo :: rest).getLastD lo
    let mono := cramMono.flatMap (fun m => (List.range m.2.2).map (fun j => (m.1 + j * m.2.1, m.2.1)))
    let tab := if rest = [] then tab else
      mono.foldl (fun t m =>
        let top := ns.foldl (fun a i => max a (ringVal s i m.1 m.2)) 0
        let t := tabPut t m.1 (top % 2 ^ 32) 0
        if m.2 = 2 then tabPut t (m.1 + 1) (top / 2 ^ 32) 0 else t) tab
    let rec_ := ns.foldl (fun a i => max a (ringVal s i cramRecovery 1 % 65536)) 0
    let tab := if rest = [] then tab else tabPut tab cramRecovery rec_ 0
    let s := { s with cram := tab }
    let s := s |> put NVM_STAT_RESTORED 1 |> put NVM_STAT_SLOT hi |> put NVM_SEQ_SEQ (ringSeq s hi)
    if rest = [] then s else raise 79 none (put NVM_STAT_TIE 1 s)

/-! ### Write-back queue (R413) -/

/-- an item offered: entered when there is place (and NVM may take it), kept by its requester otherwise -/
def wbOffer (it : WbItem) (s : State) : State :=
  if s.nvm.wb.length < 16 && !isolated s 14 then
    progNext (put NVM_STAT_WB_LEVEL (s.nvm.wb.length + 1) (modNvm (fun n => { n with wb := n.wb ++ [it] }) s))
  else modNvm (fun n => { n with offers := n.offers ++ [it] }) s

/-- the oldest waiting item offered again (R413) -/
def wbOfferAgain (s : State) : State :=
  match s.nvm.offers with
  | [] => s
  | it :: r => if s.nvm.wb.length < 16 && !isolated s 14 then wbOffer it (modNvm (fun n => { n with offers := r }) s) else s

/-- a page of the oldest write-back item ends; the item goes on with its next page unless a save waits for the array (R33, R413) -/
def itemPage (ok : Bool) (s : State) : State :=
  match s.nvm.wb with
  | { owner := ow, pages := p :: more } :: r =>
    let s := if ok then mwr (pageAt p.1) p.2 s else raise 83 none s
    let wb := if more = [] then r else { owner := ow, pages := more } :: r
    let go := more != [] && s.nvm.save.isNone && !isolated s 14
    put NVM_STAT_WB_LEVEL wb.length (modNvm (fun n => { n with wb := wb, prog := if go then 1 else 0 }) s)
  | l => put NVM_STAT_WB_LEVEL (l.tail).length (modNvm (fun n => { n with wb := l.tail, prog := 0 }) s)

/-- the host's page ends (R412): the marked bytes are programmed, the buffer and its marks cleared but for bytes marked since -/
def hostPage (ok : Bool) (s : State) : State :=
  match s.nvm.pb with
  | none => modNvm (fun n => { n with prog := 0 }) s
  | some (page, marks, bytes) =>
    let s := if ok then (bitList 256 marks).foldl (fun s i => mwr (pageAt page + i) [bytes.getD i 0] s) s
      else raise 83 none (put NVM_PSTAT_PB_FAIL 1 s)
    let s := modNvm (fun n => { n with pb := none, prog := 0, marks := clrMask n.marks marks }) s
    let s := forEach (List.range 64) (fun w s =>
      let keep (j : Nat) : Nat := if bitAt s.nvm.marks (4 * w + j) then 255 * 2 ^ (8 * j) else 0
      put (NVM_PBUF_DATA w) (rd s (NVM_PBUF_DATA w) &&& (keep 0 + keep 1 + keep 2 + keep 3)) s) s
    s |> put NVM_PSTAT_PB_PEND 0 |> put NVM_EVT_PROG_DONE 1

/-- the page program in progress ends, with its verify (R411): the first failure programs the page once more, the second reports it; then
the array takes up the next request (R33) -/
def pageDone (ok : Bool) (s : State) : State :=
  if s.nvm.prog = 0 then s
  else if !ok && !s.nvm.retry then modNvm (fun n => { n with retry := true }) s
  else
    let s := modNvm (fun n => { n with retry := false }) s
    progNext (if s.nvm.prog = 1 then itemPage ok s else hostPage ok s)

/-- the page buffer and its marks cleared -/
def pbClear (s : State) : State :=
  forEach (List.range 64) (fun w s => put (NVM_PBUF_DATA w) 0 s) (modNvm (fun n => { n with marks := 0 }) s)

/-- CTL.PB_PROG (R412) -/
def pbProg (s : State) : State :=
  let p := rd s NVM_PADDR_PAGE
  if decide (p < 0x500) || s.nvm.pb.isSome || isolated s 14 || on s NVM_STAT_SAVE_RUN then
    refuse (put NVM_PSTAT_REFUSED 1 s)
  else
    let bytes := (List.range 64).flatMap (fun w => leBytes 4 (rd s (NVM_PBUF_DATA w)))
    let new := if s.nvm.markAt = cycleNow s + 1 then s.nvm.markNew else 0
    progNext (put NVM_PSTAT_PB_PEND 1 (modNvm (fun n => { n with pb := some (p, clrMask n.marks new, bytes) }) s))

/-- bytes of the page buffer written are marked (R412); a byte written while its program waits, or in the core cycle of PB_PROG, stays for
the next (R427) -/
def pbMark (w be : Nat) (s : State) : State :=
  let m := be <<< (4 * w)
  modNvm (fun n => { n with
    marks := n.marks ||| m, markAt := cycleNow s + 1, markNew := if n.markAt = cycleNow s + 1 then n.markNew ||| m else m }) s

/-- is page p being programmed (PSTAT.BUSY) -/
def pageBusy (s : State) (p : Nat) : Bool :=
  match s.nvm.prog, s.nvm.wb, s.nvm.pb with
  | 1, { owner := _, pages := q :: _ } :: _, _ => q.1 == p
  | 2, _, some (q, _, _) => q == p
  | _, _, _ => false

/-- the march test over FIRST to LAST may run: it leaves out the run bank, page 0x300 and the save ring (R426) -/
def marchOk (s : State) (a b : Nat) : Bool :=
  let run := if on s IMG_STATUS_RUN_BANK then 0x180 else 0
  let out (lo hi : Nat) : Bool := decide (hi < a) || decide (b < lo)
  out run (run + 0x17F) && out 0x300 0x300 && out 0x310 0x38F

end Sys2Proof.Machine
end

