-- ==== Sys2Proof/Machine/Sec.lean ====
section
/-! DEFINITION. SEC operations: fuses (R431 to R436), key slots (R437 to R439), services (R440, R441), DRBG (R442), self-tests
and the error state (R443 to R445), zeroisation (R446). -/

namespace Sys2Proof.Machine
open Sys2Proof.Reg

def modSec (f : SecS → SecS) (s : State) : State := { s with sec := f s.sec }

/-! ### Fuses -/

/-- n bits of a fuse value from bit lo on -/
def fuseBits (v lo n : Nat) : Nat := (v >>> lo) % 2 ^ n

/-- n bytes of the sensed copy from byte j on (R431) -/
def fuseBytes (s : State) (j n : Nat) : List Byte := (List.range n).map (fun i => BitVec.ofNat 8 (fuseBits s.sec.sensed (8 * (j + i)) 8))

/-- hash r as the sensed copy holds it -/
def pkh (s : State) (r : Nat) : List Byte := fuseBytes s (32 * r) 32

/-- usable hashes as a mask: FINAL 1 and REVOKE 0 (R432) -/
def usableOf (keystate : Nat) : Nat := (keystate / 16 % 16) &&& (15 - keystate % 16)
def usable (s : State) : Nat := usableOf (fuseBits s.sec.sensed (8 * 0xBD) 8)

/-- the anti-rollback count: ARB bits programmed (R432) -/
def arbCount (s : State) : Nat := (bitList 64 (fuseBits s.sec.sensed (8 * 0xA0) 64)).length

def signedBoot (s : State) : Bool := Nat.testBit s.sec.sensed (8 * 0xBE)
def dukKill (s : State) : Bool := Nat.testBit s.sec.sensed (8 * 0xBE + 1)

/-- the fail state of channel n in fuses (R318) -/
def failFuse (s : State) (n : Nat) : Nat := fuseBits s.sec.sensed (8 * 0xA8 + 2 * n) 2

/-- the level RESETMAP gives a source: 0 power-on, 1 RESET_N, 2 FLT chip reset (R431) -/
def resetMap (s : State) (i : Nat) : Nat :=
  match fuseBits s.sec.sensed (8 * 0xBC + 2 * i) 2 with
  | 1 => 1
  | 2 => 2
  | _ => 0

/-- the fields that follow the sensed copies take effect (R433, R436) -/
def fuseEffect (s : State) : State :=
  let s := s |> putB SEC_STAT_SIGNED_BOOT (signedBoot s) |> putB SEC_STAT_DUK_KILL (dukKill s) |> put SEC_STAT_USABLE (usable s)
    |> put SEC_STAT_ARB (arbCount s) |> put GEN_ID_GRADE (fuseBits s.sec.sensed (8 * 0xBF) 4)
    |> put RST_MAP_POR (fuseBits s.sec.sensed (8 * 0xBC) 2) |> put RST_MAP_PIN (fuseBits s.sec.sensed (8 * 0xBC + 2) 2)
    |> put RST_MAP_FLT (fuseBits s.sec.sensed (8 * 0xBC + 4) 2)
  forEach (List.range 48) (fun n s => put (SCH_CHn_STAT_FAILST n) (failFuse s n) s) s

/-- SEC enters ERROR with a test code; src is the fault source (R443, R444, R450). In ERROR, which only L0 leaves, the source alone is
raised -/
def secError (code src : Nat) (s : State) : State :=
  if rd s SEC_STAT_STATE = 2 then raise src none s else
  let s := modSec (fun x => { x with testing := false, rekeyed := true }) s
  raise src none (s |> put SEC_STAT_STATE 2 |> put SEC_STAT_APPROVED 0 |> put SEC_STAT_ERRTEST code |> put SEC_EVT_ERROR 1)

/-- the fuse words sensed twice, a differing bit counting as programmed; d1 gives the bits that read 1 though not programmed in
one of the passes, bad whether a Wilmir field still differs the third time (R433) -/
def senseFuses (d1 : Nat) (bad : Bool) (s : State) : State :=
  let s := fuseEffect (putB SEC_STAT_FUSE_OK (!bad) (modSec (fun x => { x with sensed := (s.otp ||| d1) % 2 ^ 2048 }) s))
  if bad then secError 1 89 s else s

/-- first bit and width of a programmable field (R431, R434) -/
def fuseField (f : Nat) : Nat × Nat :=
  match f with
  | 0 => (0, 256)
  | 1 => (256, 256)
  | 2 => (512, 256)
  | 3 => (768, 256)
  | 4 => (8 * 0xBD + 4, 4)
  | 5 => (8 * 0xBD, 4)
  | 6 => (8 * 0xA8, 96)
  | 7 => (8 * 0xBC, 6)
  | 8 => (8 * 0xBE, 2)
  | _ => (8 * 0xA0, 64)

/-- the staged operand bytes BUF0 to BUF47 (R440) -/
def bufBytes (s : State) (n : Nat) : List Byte := ((List.range 48).flatMap (fun i => leBytes 4 (rd s (SEC_BUF_DATA i)))).take n
def bufNat (s : State) (bits : Nat) : Nat := leNat (bufBytes s 192) % 2 ^ bits

/-- the KEYIDX of the image in a bank, where it is signed (R75) -/
def bankKeyIdx (s : State) (base : Nat) : Option Nat :=
  let l := mrdList s base 96
  let h := headerOf l
  if h.signed then some ((mrd s (base + h.sigAt + 4)).toNat) else none

/-- first byte of bank b (R78) -/
def bankAt (b : Nat) : Nat := if b = 0 then 0 else 0x180 * 256

/-- the field rules of R435 for staged value v of field f -/
def fuseRulesOk (s : State) (f v : Nat) : Bool :=
  let ks := fuseBits s.sec.sensed (8 * 0xBD) 8
  match f with
  | 0 | 1 | 2 | 3 => !bitAt ks (4 + f)
  | 4 => (bitList 4 v).all (fun r => bitAt ks (4 + r) || leNat (pkh s r) != 0)
  | 5 =>
    let left := usableOf ((ks ||| v) % 256)
    let runNamed := s.img.signed && bitAt v s.img.keyIdx && !bitAt ks s.img.keyIdx
    let spare := on s IMG_STATUS_SPARE_VALID && match bankKeyIdx s (bankAt (1 - rd s IMG_STATUS_RUN_BANK)) with
      | some k => k != s.img.keyIdx && bitAt left k
      | none => false
    !(signedBoot s && left == 0) && (!runNamed || spare)
  | 8 => !bitAt v 0 || signedBoot s || (usable s != 0 && on s SEC_STAT_IMG_AUTH)
  | _ => true

/-- a fuse program begins: the bits of mask v (already shifted) not yet programmed, ascending, 20 µs each (R436) -/
def fuseBegin (f v : Nat) (s : State) : State :=
  let todo := (bitList 2048 v).filter (fun i => !Nat.testBit s.otp i)
  s |> modSec (fun x => { x with fuse := some { field := f, todo := todo, start := s.now } }) |> put SEC_FUSE_STAT_BUSY 1
    |> put SEC_FUSE_STAT_LEFT todo.length

/-- the REFUSE code of a fuse write, 0 when accepted (R434) -/
def fuseRefuse (s : State) (key f : Nat) : Nat :=
  let w := fuseField f
  let v := bufNat s w.2
  let old := fuseBits s.otp w.1 w.2
  if on s SEC_LOCK_FUSE_LOCK || key != 0x5A then 1
  else if rd s SEC_STAT_STATE != 1 then 2
  else if s.sec.fuse.isSome then 3
  else if on s NVM_STAT_PF_WARN || on s NVM_STAT_SAVE_RUN then 4
  else if decide (9 ≤ f) then 7
  else if old &&& v != old then 5
  else if !fuseRulesOk s f v then 6 else 0

/-- a write of SEC.FUSE_CTL (R434) -/
def fuseWrite (key f : Nat) (s : State) : State :=
  let c := fuseRefuse s key f
  let s := put SEC_FUSE_STAT_REFUSE c s
  if c != 0 then refuse s
  else
    let w := fuseField f
    fuseBegin f (bufNat s w.2 <<< w.1) s

/-- the array with the bits of a list programmed -/
def burn (l : List Nat) (s : State) : State := { s with otp := l.foldl (fun v i => v ||| (1 <<< i)) s.otp }

/-- bits a running program has completed by now, the present one included (R436, R451) -/
def fuseDoneBits (s : State) (r : FuseRun) : Nat := min r.todo.length ((s.now - r.start) / (20 * usU) + 1)

/-- a fuse program's read-back ends (R436); what it wrote takes effect in the core cycle after. A failed one leaves free which bits were
programmed -/
def fuseDone (pass : Bool) (s : State) : State :=
  match s.sec.fuse with
  | none => s
  | some r =>
    let s := advanceTo (r.start + (20 * r.todo.length + 10) * usU) s
    let s := s |> modSec (fun x => { x with fuse := none }) |> put SEC_FUSE_STAT_BUSY 0 |> put SEC_FUSE_STAT_LEFT 0
    if pass then
      let s := burn r.todo s
      let s := modSec (fun x => { x with sensed := r.todo.foldl (fun v i => v ||| (1 <<< i)) x.sensed }) s
      fuseEffect (advanceTo ((cycleNow s + 1) * cycU) (put SEC_EVT_FUSE_DONE 1 s))
    else
      let f := fresh s
      raise 90 none (put SEC_FUSE_STAT_FAIL 1 (burn (r.todo.filter (fun i => Nat.testBit f.1 i)) f.2))

/-- a fuse program stopped after its present bit: TORN (R451, R452) -/
def fuseTear (s : State) : State :=
  match s.sec.fuse with
  | none => s
  | some r =>
    let n := fuseDoneBits s r
    burn (r.todo.take n) (modSec (fun x => { x with fuse := none }) s) |> put SEC_FUSE_STAT_BUSY 0 |> put SEC_FUSE_STAT_TORN 1
      |> put SEC_FUSE_STAT_LEFT (r.todo.length - n)

/-- the fuse word the host reads: sensed, the DUK reading 0 (R431, R449) -/
def fuseWord (s : State) (w : Nat) : Nat := if decide (0x20 ≤ w) && decide (w < 0x28) then 0 else fuseBits s.sec.sensed (32 * w) 32

/-! ### Key slots -/

/-- the usage of slot k (R438) -/
def slotUse (s : State) (k : Nat) : Nat := rd s (SEC_SLOT_USE_USE (k / 8)) / 16 ^ (k % 8) % 16

def putSlotUse (k u : Nat) (s : State) : State :=
  let f := SEC_SLOT_USE_USE (k / 8)
  let old := rd s f
  put f (old - old / 16 ^ (k % 8) % 16 * 16 ^ (k % 8) + u * 16 ^ (k % 8)) s

/-- the key of slot k for a usage: none when the slot is empty, has another usage, or SEC is in ERROR (R445) -/
def keyFor (s : State) (k u : Nat) : Option (List Byte) :=
  if rd s SEC_STAT_STATE = 2 || slotUse s k != u || 32 ≤ k then none else some (ix s.sec.keys k)

/-- a key written into a slot, without what LOAD does to the franking counters -/
def putKey (k u : Nat) (key : List Byte) (s : State) : State :=
  putSlotUse k u (modSec (fun x => { x with keys := vset x.keys k key, rekeyed := true }) s)

/-- the franking pairs that name slot k (R392, R438): partner entries of a controller link, the partner-role link itself -/
def pairsOf (s : State) (k : Nat) : List Nat :=
  (List.range 128).filter (fun i =>
    if i % 32 = 0 then on s (CRL_LKk_CFG_ROLE (i / 32)) && rd s (CRL_LKk_KEY_KEYSLOT (i / 32)) == k
    else rdB s i CRL_P_CFG_KEYSLOT == k)

/-- both counters of every pair that names slot k restarted (R393, R438) -/
def restartFcnt (k : Nat) (s : State) : State :=
  forEach (pairsOf s k) (fun i s => s |> putCram64 (cramFcnt + 4 * i) 0 |> putCram64 (cramFcnt + 4 * i + 2) 0) s

/-- the KEK derived from the DUK, none with DUK_KILL (R437) -/
def deriveKek (s : State) : State :=
  let label : List Byte := [0x59, 0x45, 0x4C, 0x59, 0x45, 0x4E, 0x2D, 0x4B, 0x45, 0x4B]
  let msg : List Byte := [0, 0, 0, 1] ++ label ++ [0] ++ fuseBytes s 0xB4 8 ++ [0, 0, 1, 0]
  let k := if dukKill s then none else some (Config.hmac (fuseBytes s 0x80 32) msg).toList
  putB SEC_STAT_KEK_VALID k.isSome (modSec (fun x => { x with kek := k }) s)

/-! ### Services -/

/-- a write of SEC.SVC (R441) -/
def svcWrite (key op slot usage len : Nat) (s : State) : State :=
  if key != 0x5A || on s SEC_SVC_STAT_BUSY || op = 0 || decide (6 < op) then refuse s
  else
    let s := forEach (List.range 10) (fun i s => put (SEC_OUT_DATA i) 0 s) (put SEC_SVC_STAT_BUSY 1 s)
    modSec (fun x => { x with svc := some { op := op, slot := slot, usage := usage, len := len } }) s

/-- an octet string into OUT0 on -/
def putOut (l : List Byte) (s : State) : State :=
  forEach (List.range ((l.length + 3) / 4)) (fun i s => put (SEC_OUT_DATA i) (leNat ((l.drop (4 * i)).take 4)) s) s

/-- the effect and RESULT of a service (R440, R441) -/
def svcRun (r : SvcRun) (s : State) : Nat × State :=
  if r.ended then (8, s)
  else if rd s SEC_STAT_STATE != 1 then (1, s)
  else
    let s := if s.sec.kek.isNone then deriveKek s else s
    let locked := bitAt (rd s SEC_SLOT_LOCK_LOCK) r.slot
    match r.op with
    | 1 =>
      if locked then (2, s)
      else if r.usage = 0 || decide (3 < r.usage) then (4, s)
      else
        match s.sec.kek with
        | none => (7, s)
        | some kek =>
          match Config.kwUnwrap kek (bufBytes s 40) with
          | none => (3, s)
          | some k => (0, restartFcnt r.slot (putKey r.slot r.usage k.toList s))
    | 2 => if locked then (2, s) else (0, restartFcnt r.slot (putKey r.slot 0 [] s))
    | 3 =>
      match s.sec.kek with
      | none => (7, s)
      | some kek => (0, putOut (Config.kwWrap kek (bufBytes s 32)).toList s)
    | 4 => if decide (192 < r.len) then (5, s) else (0, putOut (Config.sha256 (bufBytes s r.len)).toList s)
    | 5 =>
      if decide (192 < r.len) then (5, s)
      else
        match keyFor s r.slot 3 with
        | none => (4, s)
        | some k => (0, putOut (Config.hmac k (bufBytes s r.len)).toList s)
    | _ => (if Config.ecdsaOk (bufBytes s 64) ((bufBytes s 160).drop 128) (((bufBytes s 128).drop 64)) then 0 else 6, s)

/-- BUF0 to BUF47 cleared -/
def clearBuf (s : State) : State := forEach (List.range 48) (fun i s => put (SEC_BUF_DATA i) 0 s) s

/-- the service in progress completes (R441); it waits for a rerun of the self-tests (R443) -/
def svcDone (s : State) : State :=
  match s.sec.svc with
  | none => s
  | some r =>
    if s.sec.testing && s.sec.ready && !r.ended then s
    else
    let q := svcRun r s
    let s := clearBuf (modSec (fun x => { x with svc := none }) q.2)
    s |> put SEC_SVC_STAT_RESULT q.1 |> put SEC_SVC_STAT_BUSY 0 |> put SEC_EVT_SVC_DONE 1

/-! ### DRBG, self-tests, zeroisation -/

/-- the DRBG reseeded (R442) -/
def reseed (s : State) : State := modSec (fun x => { x with seeds := x.seeds + 1, req := 0, seedAt := s.now }) s

/-- the reseed that 2^20 requests, or an hour since the last one, bring (R442) -/
def reseedDue (s : State) : State :=
  if rd s SEC_STAT_STATE != 1 then s
  else if 2 ^ 20 ≤ s.sec.req then reseed s else reseed (advanceTo (s.sec.seedAt + 3600 * secU) s)

/-- a read of SEC.RNG: 32 bits from the DRBG, or 0 with the host access fault while not READY (R442) -/
def rngRead (s : State) : Nat × State :=
  if rd s SEC_STAT_STATE = 1 then
    ((Config.drbg s.sec.seeds s.sec.req).toNat, modSec (fun x => { x with req := x.req + 1 }) s)
  else (0, refuse s)

/-- the self-test sequence begins (R443 step 2); a rerun keeps ERROR, which only L0 leaves -/
def selfTestBegin (s : State) : State :=
  if rd s SEC_STAT_STATE = 2 then s
  else s |> put SEC_STAT_STATE 0 |> put SEC_STAT_APPROVED 0 |> modSec (fun x => { x with testing := true })

/-- the self-tests end: READY, or ERROR with the code of the test that failed (R443 steps 4 and 5) -/
def selfTestEnd (code : Nat) (s : State) : State :=
  if !s.sec.testing then s
  else if code = 0 then
    let s := reseed (deriveKek (modSec (fun x => { x with testing := false, ready := true }) s))
    s |> put SEC_STAT_STATE 1 |> put SEC_STAT_APPROVED 1
  else secError code 87 s

/-- every key slot and usage, the KEK, the DRBG state and the buffers cleared (R446) -/
def zeroiseKeys (s : State) : State :=
  let s := modSec (fun x => { x with keys := Vector.replicate 32 [], kek := none, req := 0, rekeyed := true }) s
  let s := forEach (List.range 4) (fun i s => put (SEC_SLOT_USE_USE i) 0 s) s
  forEach (List.range 10) (fun i s => put (SEC_OUT_DATA i) 0 s) (clearBuf (put SEC_SLOT_LOCK_LOCK 0 (put SEC_STAT_KEK_VALID 0 s)))

/-- a write of CTL.ZEROISE (R446): a service whose engine has begun completes first, at once; one that waits for a rerun of the self-tests
has not begun and ends with RESULT 0x8 (log entry 123) -/
def zeroise (s : State) : State :=
  let s := if s.sec.testing && s.sec.ready then modSec (fun x => { x with svc := x.svc.map (fun r => { r with ended := true }) }) s
    else svcDone s
  reseed (put SEC_EVT_ZEROISED 1 (zeroiseKeys s))

end Sys2Proof.Machine
end

