-- ==== Sys2Proof/Machine/CrlPool.lean ====
section
/-! DEFINITION. CRL: the transaction pool and the dead-letter queue (R387 to R389), keys and tags (R390 to R393), frames sent,
and the events a partner-role link keeps (R386). -/

namespace Sys2Proof.Machine
open Sys2Proof.Reg

/-! ### Links and partners -/

/-- the entry of address a on link k (R404) -/
def pIx (k a : Nat) : Nat := 32 * k + a

/-- P_STAT.STATE: 0 VACANT 1 NEGOTIATE 2 PRESENT 3 SUSPECT 4 ABSENT 5 REJECTED (R382) -/
def pState (s : State) (k a : Nat) : Nat := rdB s (pIx k a) CRL_P_STAT_STATE

def modPart (i : Nat) (f : PartS → PartS) (s : State) : State := modCrl (fun c => { c with part := upd c.part i f }) s

/-- does link k run: enabled, without configuration error of its address, an image applied, CRL neither isolated nor held (R407) -/
def linkUp (s : State) (k : Nat) : Bool :=
  on s (CRL_LKk_CFG_EN k) && s.img.applied && !isolated s 13 && live s 13 && rd s (CRL_LKk_STAT_ERR k) != 1

/-- link k runs as controller; as partner -/
def ctlUp (s : State) (k : Nat) : Bool := linkUp s k && !on s (CRL_LKk_CFG_ROLE k)
def parUp (s : State) (k : Nat) : Bool := linkUp s k && on s (CRL_LKk_CFG_ROLE k)

/-- is link k marked for cascade by the image (R66) -/
def isCascade (s : State) (k : Nat) : Bool := bitAt s.img.struct_.cascade k

/-! ### Franking (R390 to R393) -/

/-- the pair of a frame: the partner entry of a controller, the link itself as partner (R393) -/
def pairIx (s : State) (k a : Nat) : Nat := if on s (CRL_LKk_CFG_ROLE k) then pIx k 0 else pIx k a

/-- KEY_EN and the key slot of a pair (R390, R392) -/
def keyEn (s : State) (k a : Nat) : Bool :=
  if on s (CRL_LKk_CFG_ROLE k) then on s (CRL_LKk_KEY_KEY_EN k) else onB s (pIx k a) CRL_P_CFG_KEY_EN
def keySlot (s : State) (k a : Nat) : Nat :=
  if on s (CRL_LKk_CFG_ROLE k) then rd s (CRL_LKk_KEY_KEYSLOT k) else rdB s (pIx k a) CRL_P_CFG_KEYSLOT

/-- the usable key of a pair: usage Courier CMAC (R392, R438) -/
def frankKey (s : State) (k a : Nat) : Option (List Byte) := keyFor s (keySlot s k a) 2

/-- FLAGS of a frame (R375) -/
def crlFlags (f : CrlFrame) : Nat := (if f.frank.isSome then 1 else 0) + (if f.evp then 2 else 0) + (if f.retry then 4 else 0)

/-- the octets a tag covers: header, FCNT, payload (R391) -/
def crlOctets (type : Nat) (f : CrlFrame) : List Byte :=
  let fcnt := match f.frank with
    | some p => leBytes 8 p.1
    | none => []
  [BitVec.ofNat 8 f.dst, BitVec.ofNat 8 f.src, BitVec.ofNat 8 type, BitVec.ofNat 8 (crlFlags f)] ++ leBytes 2 f.seq
    ++ leBytes 2 f.payload.length ++ fcnt ++ f.payload

/-- is this a round frame, never franked (R377) -/
def isRoundType (t : Nat) : Bool := decide (t ≤ 6)

/-- a frame of a type franked under the pair's key with the next transmit count (R393) -/
def frankFrame (k a type : Nat) (f : CrlFrame) (s : State) : CrlFrame × State :=
  match frankKey s k a with
  | none => (f, s)
  | some key =>
    let w := cramFcnt + 4 * pairIx s k a
    let n := (cram64 s w + 1) % 2 ^ 64
    let f := { f with frank := some (n, 0) }
    ({ f with frank := some (n, (Config.cmac key (crlOctets type f)).toNat) }, putCram64 w n s)

/-- must a frame of this type between the device and address a be franked (R390, R50) -/
def mustFrank (s : State) (k a type : Nat) : Bool :=
  if isRoundType type then false
  else if mode s 7 then true
  else if on s (CRL_LKk_CFG_ROLE k) then keyEn s k a
  else keyEn s k a && (rdB s (pIx k a) CRL_P_STAT_VER == 3 || (pState s k a == 1 && (ix s.crl.part (pIx k a)).chosen == 3))

/-- a frame of a type sent on link k, to or from address a, its SOF at now (R374); its stamp enters the timestamp queue as
CAP_ALL and CAP_TT ask (R403) -/
def sendFrame (k a type seq : Nat) (retry evp : Bool) (payload : List Byte) (s : State) : State :=
  let own := if on s (CRL_LKk_CFG_ROLE k) then a else 0
  let dst := if on s (CRL_LKk_CFG_ROLE k) then 0 else a
  let f : CrlFrame := { dst := dst, src := own, evp := evp, retry := retry, seq := seq, payload := payload }
  let r := if mustFrank s k a type then frankFrame k a type f s else (f, s)
  let s := modLink k (fun l => { l with sent := some (type, r.1) }) r.2
  let tt := decide (0x30 ≤ type) && decide (type ≤ 0x32)
  if on s (CRL_LKk_TSQCFG_CAP_TT k) && tt then
    linkTsPush k (now16 s) (unlockFlag s ||| 32 ||| 64) s
  else s

/-- franking failure: FRANK_FAIL counted, source 72 (R390) -/
def frankFail (k : Nat) (s : State) : State := raise 72 (some k) (bump (CRL_LKk_CNT1_FRANK_FAIL k) s)

/-- the check of a received frame (R390, R393): the accepted frame advances the receive count; whether its tag was good -/
def frankCheck (k a type : Nat) (f : CrlFrame) (s : State) : Option Bool × State :=
  match f.frank with
  | none => if mustFrank s k a type then (none, frankFail k s) else (some false, s)
  | some (n, tag) =>
    match frankKey s k a with
    | none => (none, frankFail k s)
    | some key =>
      let w := cramFcnt + 4 * pairIx s k a + 2
      if (Config.cmac key (crlOctets type f)).toNat != tag then (none, frankFail k s)
      else if n ≤ cram64 s w then (none, frankFail k (bump (CRL_LKk_CNT1_REPLAY k) s))
      else (some true, putCram64 w n s)

/-- a frame rejected by R376: REJ counted; 16 within 1 s raise source 75 (R406) -/
def rejectFrame (k : Nat) (s : State) : State :=
  let old := (ix s.crl.link k).rej.filter (fun t => decide (s.now < t + secU))
  let l := old ++ [s.now]
  let s := bump (CRL_LKk_CNT0_REJ k) s
  if 16 ≤ l.length then raise 75 (some k) (modLink k (fun x => { x with rej := [] }) s)
  else modLink k (fun x => { x with rej := l }) s

/-! ### The pool and the dead-letter queue (R387 to R389) -/

/-- the transactions held for an address -/
def heldFor (s : State) (k a : Nat) : List Txn := s.crl.pool.filter (fun t => t.link == k && t.addr == a && t.heldAt.isSome)

/-- kinds that poste restante holds: READ, WRITE, SWITCH (R388) -/
def holds (type : Nat) : Bool := type == 0x10 || type == 0x12 || type == 0x20

/-- a transaction to the dead-letter queue (R389); SCH hears of its own at the end of the command -/
def deadLetter (reason : Nat) (t : Txn) (s : State) : State :=
  let s := modCrl (fun c => { c with dead := c.dead ++ [t.id] }) s
  if 32 ≤ s.crl.dlq.length then
    raise 77 none (bump CRL_DLQ_STAT_LOST s |> put CRL_DLQ_STAT_OVF 1)
  else
    raise 73 none (put CRL_EVT_DLQ 1 (modCrl (fun c => { c with dlq := c.dlq ++ [({ t with heldAt := none }, reason)] }) s))

/-- transaction i leaves the pool -/
def poolDrop (i : Nat) (s : State) : State := modCrl (fun c => { c with pool := c.pool.filter (fun t => t.id != i) }) s

/-- a transaction of the pool changed -/
def modTxn (i : Nat) (f : Txn → Txn) (s : State) : State :=
  modCrl (fun c => { c with pool := c.pool.map (fun t => if t.id = i then f t else t) }) s

/-- a transaction of the pool dead-lettered -/
def poolDead (reason i : Nat) (s : State) : State :=
  match s.crl.pool.find? (fun t => t.id == i) with
  | some t => deadLetter reason t (poolDrop i s)
  | none => s

/-- every transaction held for an address dead-lettered (R382, R383) -/
def flushHeld (reason k a : Nat) (s : State) : State :=
  forEach (heldFor s k a) (fun t s => deadLetter reason t (poolDrop t.id s)) s

/-- is the key of address a refused to a transaction: MODE_SE without a usable key, or a key slot that is unusable (R50, R392) -/
def noKey (s : State) (k a : Nat) : Bool :=
  (mode s 7 && (!keyEn s k a || (frankKey s k a).isNone)) || (keyEn s k a && (frankKey s k a).isNone)

/-- held transactions would exceed PR_MAX (R388) -/
def heldFull (s : State) (k a : Nat) : Bool := decide (rdB s (pIx k a) CRL_P_CFG_PR_MAX ≤ (heldFor s k a).length)

/-- a transaction issued (R382, R387 to R389): it enters the pool, is held, goes to the dead-letter queue or is discarded; the answer
is its identity. Where several reasons of R389 hold, the order taken here is the model's (log entry 150) -/
def issueTxn (t : Txn) (s : State) : Nat × State :=
  let i := s.crl.nextId
  let t := { t with id := i }
  let s := modCrl (fun c => { c with nextId := i + 1 }) s
  let k := t.link
  let a := t.addr
  let st := pState s k a
  let dl (r : Nat) : State := if holds t.type then deadLetter r t s else s
  let r :=
    if !on s (CRL_LKk_CFG_EN k) || on s (CRL_LKk_CFG_ROLE k) || st = 0 then dl 2
    else if noKey s k a then dl 3
    else if st = 5 then dl 2
    else if 512 ≤ s.crl.pool.length then dl 6
    else if t.type = 0x20 && decide (2 ≤ st) && rdB s (pIx k a) CRL_P_STAT_VER == 1 then dl 4
    else if decide (0x22 ≤ t.type) && decide (t.type ≤ 0x25) && rdB s (pIx k a) CRL_P_STAT_VER != 3 then s
    else if isolated s 13 then modCrl (fun c => { c with pool := c.pool ++ [{ t with heldAt := some s.now }] }) s
    else if st = 4 then
      if !holds t.type then s
      else if heldFull s k a then dl 6
      else modCrl (fun c => { c with pool := c.pool ++ [{ t with heldAt := some s.now }] }) s
    else modCrl (fun c => { c with pool := c.pool ++ [t] }) s
  (i, r)

/-- a partner enters ABSENT: READ, WRITE and SWITCH are held as far as PR_MAX allows, the rest is discarded (R388) -/
def holdAll (k a : Nat) (s : State) : State :=
  forEach (s.crl.pool.filter (fun t => t.link == k && t.addr == a)) (fun t s =>
    if !holds t.type then poolDrop t.id s
    else if t.heldAt.isSome then s
    else if heldFull s k a then poolDead 6 t.id s
    else modTxn t.id (fun x => { x with heldAt := some s.now, att := 0 }) s) s

/-- a partner is PRESENT: held transactions are released in issue order (R388) -/
def releaseHeld (k a : Nat) (s : State) : State :=
  modCrl (fun c => { c with pool := c.pool.map (fun t => if t.link = k && t.addr = a then { t with heldAt := none, att := 0 } else t) }) s

/-- a 12-byte time (R396) of a time in 2^-16 ns -/
def time12 (t : Nat) : List Byte := leBytes 6 (secOf16 t) ++ leBytes 4 (nsOf16 t) ++ leBytes 2 (fracOf16 t)

/-- the time a 12-byte time spells -/
def of12 (l : List Byte) : Nat :=
  (leNat (l.take 6) * 1000000000 + leNat ((l.drop 6).take 4) % 2 ^ 30) * 65536 + leNat ((l.drop 10).take 2)

/-- the 16 bytes of SWITCH and ARM (R385); a command identity of 0 for SWITCH -/
def timedBody (chan act ident t : Nat) : List Byte :=
  [BitVec.ofNat 8 chan, BitVec.ofNat 8 act] ++ leBytes 2 ident ++ leBytes 6 (secOf16 t) ++ leBytes 4 (nsOf16 t) ++ [0, 0]

/-! ### Events of a partner-role link (R386, R401) -/

/-- an event kept for the controller of link k: at most 64 unacknowledged, the next one after a loss carries LOSS; source 77 -/
def linkEvent (k : Nat) (body : List Byte) (s : State) : State :=
  let l := ix s.crl.link k
  if 64 ≤ l.events.length then raise 77 none (modLink k (fun l => { l with evLoss := true }) s)
  else
    let body := if l.evLoss then body.mapIdx (fun i b => if i = 7 then b ||| 8 else b) else body
    modLink k (fun l => { l with events := l.events ++ [(l.evSeq, body)], evLoss := false, evSeq := if l.evSeq = 65535 then 1 else l.evSeq + 1 }) s

/-- the 36 bytes of a switching outcome: channel, SEQ or command identity, the record (R386) -/
def outcomeBody (chan ref : Nat) (r : OutRec) : List Byte :=
  [1, BitVec.ofNat 8 chan] ++ leBytes 2 ref ++ [BitVec.ofNat 8 (r.result % 16), 0] ++ leBytes 2 (r.flags % 4096) ++ time12 r.t ++ leBytes 16 r.fbpm

/-! ### The inbound letterbox (R402, R405) -/

/-- a message into the inbound letterbox of 64; one that finds it full is discarded (R153, R402) -/
def lbiPush (m : LbiMsg) (s : State) : State :=
  if 64 ≤ s.crl.lbi.length then raise 77 none (bump CRL_LBI_STAT_LOST s |> put CRL_LBI_STAT_OVF 1)
  else put CRL_EVT_LBI 1 (modCrl (fun c => { c with lbi := c.lbi ++ [m] }) s)

/-- layout of LBO_HDR with KIND in [23:20] and REASON in [11:9] (R405) -/
def lbHeader (link addr kind tag reason len : Nat) : Nat :=
  link * 2 ^ 30 + addr * 2 ^ 24 + kind * 2 ^ 20 + tag * 2 ^ 12 + reason * 2 ^ 9 + len % 512

/-- KIND of a dead-lettered transaction (R405) -/
def dlqKind (type : Nat) : Nat := if type = 0x12 then 1 else if type = 0x20 then 2 else 0

end Sys2Proof.Machine
end

