-- ==== Sys2Proof/Machine/Grid.lean ====
section
/-! DEFINITION. Fixed-point trigonometry as the estimator uses it (R266), and grid time as the other blocks read it
(R278). Angles are in units of 2^-48 turn, values in units of 2^-60. -/

namespace Sys2Proof.Machine

/-- one turn -/
def turn : Nat := 2 ^ 48

/-- 2π in units of 2^-60 -/
def twoPi60 : Nat := 7244019458077122842

/-- the sum x - x³/3! + x⁵/5! ... of k more terms; t is the present term, n its power (values in 2^-60) -/
def sinSeries : Nat → Nat → Int → Int → Int
  | 0, _, _, _ => 0
  | k + 1, n, t, x2 => t + sinSeries k (n + 2) (-(t * x2 / ((2 ^ 60 : Nat) : Int)) / (((n + 1) * (n + 2) : Nat) : Int)) x2

/-- sine of r, 0 ≤ r ≤ a quarter turn -/
def sinQuarter (r : Nat) : Int :=
  let x : Int := (r * twoPi60 / 2 ^ 48 : Nat)
  sinSeries 11 1 x (x * x / ((2 ^ 60 : Nat) : Int))

/-- the nominal sine of an angle -/
def sinNom (a : Int) : Int :=
  let m := (a % ((turn : Nat) : Int)).toNat
  let q := m / 2 ^ 46
  let r := m % 2 ^ 46
  match q with
  | 0 => sinQuarter r
  | 1 => sinQuarter (2 ^ 46 - r)
  | 2 => -sinQuarter r
  | _ => -sinQuarter (2 ^ 46 - r)

/-- the sine as the device forms it: within 2^-30 of the exact value, the error free (R266, log entry 15) -/
def sinT (a : Int) : Int := sinNom a + clampI (Config.sinError (a % ((turn : Nat) : Int)).toNat) ((2 ^ 29 : Nat) : Int)

/-- the cosine, likewise -/
def cosT (a : Int) : Int := sinT (a + (2 ^ 46 : Nat))

/-- the greatest r of k bits with tan r ≤ y / x, in the first quadrant -/
def atanBits : Nat → Nat → Nat → Nat → Nat
  | 0, _, _, r => r
  | k + 1, y, x, r =>
    let r' := r + 2 ^ k
    atanBits k y x (if (x : Int) * sinQuarter r' ≤ y * sinQuarter (2 ^ 46 - r') then r' else r)

/-- the nominal four-quadrant arctangent -/
def atanNom (y x : Int) : Int :=
  if x = 0 && y = 0 then 0 else
  let r : Int := atanBits 46 y.natAbs x.natAbs 0
  if 0 ≤ x then (if 0 ≤ y then r else -r) else (if 0 ≤ y then (2 ^ 47 : Nat) - r else r - (2 ^ 47 : Nat))

/-- the arctangent as the device forms it: within 2^-40 turn, the error free (R266, log entry 15) -/
def atanT (y x : Int) : Int := atanNom y x + clampI (Config.atanError y x) 128

/-- a phase difference wrapped to [-½, ½) turn -/
def wrapHalf (a : Int) : Int := (a + (2 ^ 47 : Nat)) % ((turn : Nat) : Int) - (2 ^ 47 : Nat)

/-- phase gained at f (2^-48 Hz) over a time of dt (units of nsT) -/
def phaseGain (f dt : Int) : Int := roundDiv (f * dt) ((secT : Nat) : Int)

/-- grid time now, in units of nsT: the deviation of the latest update on the present time of day (R278) -/
def gridT (s : State) : Int := s.tod + s.mns.grid.dev

end Sys2Proof.Machine
end

