-- ==== Sys2Proof/Machine/Syn.lean ====
section
/-! DEFINITION. SYN operations: nominal frequency and configuration checks (R209, R217), the applied word (R210), the
frame counter (R214), the synthesiser and output state machines (R213, R223 to R227), the edges of an output (R215 to R217, R220),
commits (R218 to R222), realignment (R216). Synthesiser number 4 is the core synthesiser. -/

namespace Sys2Proof.Machine
open Sys2Proof.Reg

/-- f_SYS in Hz by SYSCLK class (R106) -/
def fSys (s : State) : Nat :=
  match rd s RST_STRAP_CLKMODE with
  | 1 => 25000000
  | 2 => 50000000
  | _ => 10000000

/-- twice the reference-stage ratio r (R209) -/
def ref2 (m : Nat) : Nat := if m = 1 then 4 else if m = 2 then 1 else 2

/-- f_nom in units of 2^-41 Hz (R209) -/
def fNom (s : State) (v : SynLive) : Nat := fSys s * ref2 v.refmode * (v.mint * 2 ^ 40 + v.mfrac)

/-- 1 Hz in the units of fNom -/
def hz41 : Nat := 2 ^ 41

/-- is a synthesiser configuration in error (R209) -/
def synErr (s : State) (v : SynLive) : Bool :=
  let pfd2 := fSys s * ref2 v.refmode
  v.refmode == 3 || decide (pfd2 < 10000000) || decide (200000000 < pfd2) || decide (fNom s v < 5000000000 * hz41)
    || decide (6250000000 * hz41 < fNom s v)

/-- the shadow values of synthesiser k (R218) -/
def synShadow (s : State) (k : Nat) : SynLive :=
  { refmode := rd s (SYN_SYNk_MULT_REFMODE k), mint := rd s (SYN_SYNk_MULT_MINT k)
    mfrac := rd s (SYN_SYNk_MFRAC_LO_MFRAC k) + rd s (SYN_SYNk_MFRAC_HI_MFRAC k) * 2 ^ 32
    frame := rd s (SYN_SYNk_FRAME_LO_FRAME k) + rd s (SYN_SYNk_FRAME_HI_FRAME k) * 2 ^ 32 }

/-- the divider values of an output: DIV, HALF, PRE, COARSE (R217, R218) -/
structure OutVals where
  div : Nat
  half : Nat
  pre : Nat
  coarse : Nat
  deriving DecidableEq, Repr, Inhabited

def outShadow (s : State) (n : Nat) : OutVals :=
  { div := rd s (SYN_OUTn_DIV_DIV n), half := rd s (SYN_OUTn_DIVX_HALF n), pre := rd s (SYN_OUTn_DIVX_PRE n)
    coarse := rd s (SYN_OUTn_COARSE_COARSE n) + rd s (SYN_OUTn_DIVX_COARSE n) * 2 ^ 32 }

def outLive (s : State) (n : Nat) : OutVals :=
  let o := ix s.out n
  { div := o.div, half := o.half, pre := o.pre, coarse := o.coarse }

/-- P_h in DCO half-periods (R217) -/
def halfPeriods (v : OutVals) : Nat := 2 ^ v.pre * (2 * v.div + v.half)

/-- OUT_SYN of output n: primary, alternate, alternate valid (R66) -/
def outSyn (s : State) (n : Nat) : Nat × Nat × Bool :=
  let b := s.img.struct_.outSyn.getD n 0
  (bitsOf b 1 0, bitsOf b 3 2, bitAt b 4)

/-- the highest output frequency of a standard in Hz (R217); an absent record is LVDS (R71) -/
def stdLimit (c : Nat) : Nat :=
  match c with
  | 1 => 250000000
  | 2 => 200000000
  | 4 => 400000000
  | _ => 1250000000

/-- the standard code of output n (R70, R71) -/
def outStd (s : State) (n : Nat) : Nat := tabGet s.img.iostd (256 + n) 3

/-- the error code of R217 for output n with values v on synthesiser k, whose nominal frequency is f and frame fr; 0 for none -/
def outErr (s : State) (n : Nat) (v : OutVals) (k f fr : Nat) : Nat :=
  let nom (j : Nat) : Nat := if j = k then f else fNom s (ix s.syn j).live
  let ph := halfPeriods v
  let std := outStd s n
  let fmax := rd s (SYN_OUTn_FMAX_FMAX n)
  let lim := if fmax = 0 then stdLimit std else min fmax (stdLimit std)
  let leg := rd s (SYN_OUTn_CFG_LEG n)
  let os := outSyn s n
  if 2 * f * 4097 > lim * ph * 4096 * hz41 then 1
  else if 2 * f < ph * hz41 || v.div < 4 then 2
  else if fr % ph != 0 || decide (ph ≤ v.coarse) then 3
  else if leg = 3 || (leg != 0 && decide (3 ≤ std)) then 4
  else if on s (SYN_OUTn_CFG_SEL n) && (!os.2.2 || nom os.2.1 != nom os.1) then 5
  else 0

/-- the state of synthesiser k: 0 OFF 1 SEARCH 2 LOCKING 3 LOCKED 4 GLIDE 5 MUTE 6 FROZEN 7 FAILED -/
def synState (s : State) (k : Nat) : Nat := if k = 4 then rd s SYN_CORE_STAT_STATE else rd s (SYN_SYNk_STAT_STATE k)

/-- does synthesiser k have frame ticks: it is LOCKED or glides -/
def ticks (s : State) (k : Nat) : Bool := synState s k == 3 || synState s k == 4

def outState (s : State) (n : Nat) : Nat := rd s (SYN_OUTn_STAT_STATE n)

/-- output n's STATE set; a change shows in SYN.IRQ.OUT until its STAT is read (R231) -/
def putOutState (n v : Nat) (s : State) : State :=
  if outState s n = v then s else put (SYN_OUTn_STAT_STATE n) v (modOut n (fun o => { o with chg := true }) s)

/-- output n's CFG_ERR and ERR set; a rise raises source 35 (R232) -/
def putOutErr (n code : Nat) (s : State) : State :=
  let was := on s (SYN_OUTn_STAT_CFG_ERR n)
  let s := s |> put (SYN_OUTn_STAT_ERR n) code |> putB (SYN_OUTn_STAT_CFG_ERR n) (code != 0)
  let s := if was = (code != 0) then s else modOut n (fun o => { o with chg := true }) s
  if !was && code != 0 then raise 35 (some n) s else s

/-- the outputs fed by synthesiser k now -/
def outsOf (s : State) (k : Nat) : List Nat := (List.range 16).filter (fun n => rd s (SYN_OUTn_STAT_SRC n) == k)

/-! ### The DCO and the frame counter (R208, R210, R214, R222) -/

/-- one DCO half-period in the units of a frame counter: 2 f in 2^-41 Hz, times 2^48 + w, times device time -/
def hpU : Nat := secT * 2 ^ 41

/-- the applied word of synthesiser k at device time t: it moves towards the delivered word at WRATE ppb/ms (R210) -/
def appliedWord (s : State) (k t : Nat) : Int :=
  let x := ix s.syn k
  if x.wrate = 0 then x.wd
  else
    let lim : Int := (x.wrate * 2 ^ 48 * (t - x.waAt) / (1000000000 * msU) : Nat)
    x.wa + clampI (x.wd - x.wa) lim

/-- when the applied word reaches the delivered word -/
def rampEnd (x : SynS) : Nat := x.waAt + ceilDiv ((x.wd - x.wa).natAbs * (1000000000 * msU)) (x.wrate * 2 ^ 48)

/-- f_nom of k at device time t: on its ramp while it glides (R222), what it was at the loss while FROZEN (R224) -/
def fAt (s : State) (k t : Nat) : Nat :=
  let x := ix s.syn k
  let f1 := fNom s x.live
  if synState s k = 6 then x.fFrom
  else if synState s k = 4 && decide (t < x.glideEnd) then
    if x.fFrom ≤ f1 then x.fFrom + (f1 - x.fFrom) * (t - x.glide0) / (x.glideEnd - x.glide0)
    else x.fFrom - (x.fFrom - f1) * (t - x.glide0) / (x.glideEnd - x.glide0)
  else f1

/-- what the frame counter of k gains in a unit of device time at t: f_DCO (R210) in half-periods -/
def dcoRate (s : State) (k t : Nat) : Nat := 2 * fAt s k t * (2 ^ 48 + appliedWord s k t).toNat

/-- what it gains from a to b with no end of a ramp between: f_nom and the word are linear there, so Simpson's rule is exact -/
def dcoSeg (s : State) (k a b : Nat) : Nat := (dcoRate s k a + 4 * dcoRate s k ((a + b) / 2) + dcoRate s k b) * (b - a) / 6

/-- what it gains from a to b -/
def dcoSpan (s : State) (k a b : Nat) : Nat :=
  let x := ix s.syn k
  let p := clampN a b x.glideEnd
  let q := clampN a b (rampEnd x)
  dcoSeg s k a (min p q) + dcoSeg s k (min p q) (max p q) + dcoSeg s k (max p q) b

/-- the frame counter of k at device time t, modulo FRAME (R214) -/
def phaseAt (s : State) (k t : Nat) : Nat :=
  let x := ix s.syn k
  (x.ph + dcoSpan s k x.phT t) % (x.live.frame * hpU)

/-- the least of the 2^n numbers from lo on at which p holds; from there on p holds -/
def leastT : Nat → (Nat → Bool) → Nat → Nat
  | 0, _, lo => lo
  | n + 1, p, lo => if p (lo + 2 ^ n - 1) then leastT n p lo else leastT n p (lo + 2 ^ n)

/-- the device time from t on at which the frame counter of k has gained g -/
def whenPhase (s : State) (k t g : Nat) : Nat := leastT 60 (fun x => decide (g ≤ dcoSpan s k t x)) t

/-- the first frame tick of k from device time t on (R214) -/
def tickFrom (s : State) (k t : Nat) : Nat :=
  let r := phaseAt s k t
  if r < dcoRate s k t then t else whenPhase s k t ((ix s.syn k).live.frame * hpU - r)

/-! ### The edges of an output (R215 to R217, R220) -/

/-- the high phase and the low phase of an output in DCO half-periods (R217) -/
def highHalf (v : OutVals) : Nat := (halfPeriods v + 1) / 2
def lowHalf (v : OutVals) : Nat := halfPeriods v / 2

/-- f_out of output n in units of 2^-89 Hz: 2 f_DCO / P_h (R217) -/
def outFreq (s : State) (n : Nat) : Nat := dcoRate s (rd s (SYN_OUTn_STAT_SRC n)) s.now / halfPeriods (outLive s n)

/-- how far output n is past a rising edge of its grid at t: the edges stand at COARSE + j P_h from a frame tick (R215) -/
def outPhase (s : State) (n t : Nat) : Nat :=
  let v := outLive s n
  let p := halfPeriods v
  (phaseAt s (rd s (SYN_OUTn_STAT_SRC n)) t + (p - v.coarse % p) * hpU) % (p * hpU)

/-- the first rising edge of the grid of output n from t on, before FINE and t_PD -/
def gridRise (s : State) (n t : Nat) : Nat :=
  let k := rd s (SYN_OUTn_STAT_SRC n)
  let r := outPhase s n t
  if r < dcoRate s k t then t else whenPhase s k t (halfPeriods (outLive s n) * hpU - r)

/-- the first rising edge of running output n from t on: rises that a lengthened low phase passes over do not count -/
def nextRise (s : State) (n t : Nat) : Nat := gridRise s n (max t (ix s.out n).quiet)

/-- is running output n in a high phase at t -/
def outHigh (s : State) (n t : Nat) : Bool :=
  decide (t < (ix s.out n).fallAt)
    || (decide ((ix s.out n).quiet ≤ t) && decide (outPhase s n t < highHalf (outLive s n) * hpU))

/-- the end of the high phase of output n in hand at t, t itself in a low phase -/
def highEnd (s : State) (n t : Nat) : Nat :=
  if t < (ix s.out n).fallAt then (ix s.out n).fallAt
  else if outHigh s n t then whenPhase s (rd s (SYN_OUTn_STAT_SRC n)) t (highHalf (outLive s n) * hpU - outPhase s n t)
  else t

/-- the live fine delay of output n now: since the last change it moved by at most 10 steps at each falling edge (R220) -/
def fineNow (s : State) (n : Nat) : Int :=
  let o := ix s.out n
  let v := outLive s n
  let k := rd s (SYN_OUTn_STAT_SRC n)
  let q := (outPhase s n o.fineAt + lowHalf v * hpU) % (halfPeriods v * hpU)
  let falls := (q + dcoSpan s k o.fineAt s.now) / (halfPeriods v * hpU)
  if outState s n = 2 then o.fine + clampI (o.fineTo - o.fine) ((10 * falls : Nat) : Int) else o.fine

/-- the live fine delay taken as it stands -/
def fineFix (n : Nat) (s : State) : State := modOut n (fun o => { o with fine := fineNow s n, fineAt := s.now }) s

/-- the range of t_PD in ps by standard (R545) -/
def delayRange (std : Nat) : Nat × Nat :=
  match std with
  | 1 => (2400, 3500)
  | 2 => (2000, 2900)
  | 4 => (900, 1200)
  | 5 => (800, 1100)
  | _ => (950, 1250)

/-- t_PD of output n in ps: a value of the device in R545's range (log entry 152) -/
def tPd (s : State) (n : Nat) : Nat :=
  let r := delayRange (outStd s n)
  r.1 + Config.outDelay n (outStd s n) % (r.2 + 1 - r.1)

/-- what lies between an edge of the grid and the ball, in units of device time: FINE × 2 ps + t_PD (R215) -/
def outLag (s : State) (n : Nat) : Int := (2 * fineNow s n + tPd s n) * 131072 / 100

/-- the instant of a rising edge at the ball of running output n: of the first edge from t on,
t_tick + (COARSE + j P_h) / (2 f_DCO) + FINE × 2 ps + t_PD (R215) -/
def ballRise (s : State) (n t : Nat) : Int := (nextRise s n t : Int) + outLag s n

/-- the counter of k and the fine delays of its outputs taken as they stand, before something changes their course -/
def synTouch (k : Nat) (s : State) : State :=
  modSyn k (fun x => { x with ph := phaseAt s k s.now, phT := s.now }) (forEach (outsOf s k) fineFix s)

/-- a quarter of a period before a rise of output n's grid: up to there the rises of the grid are passed over -/
def quietTo (s : State) (n rise : Nat) : Nat :=
  rise - halfPeriods (outLive s n) * hpU / (4 * dcoRate s (rd s (SYN_OUTn_STAT_SRC n)) s.now)

/-- f changes the grid of the running outputs of l: each completes its high phase and lengthens the low phase that follows to the first
edge of its new grid from its next old one on; where its period changes, to the first one from the change on (R216, R219, R220, R227) -/
def regrid (l : List Nat) (f : State → State) (s : State) : State :=
  let was := (l.filter (fun n => decide (2 ≤ outState s n))).map (fun n =>
    (n, highEnd s n s.now, nextRise s n s.now, halfPeriods (outLive s n)))
  forEach was (fun p s =>
    let n := p.1
    let k := rd s (SYN_OUTn_STAT_SRC n)
    let same := p.2.2.2 == halfPeriods (outLive s n)
    let from_ := if same then p.2.2.1 else max s.now p.2.1
    let rise := gridRise s n from_
    modOut n (fun o => { o with fallAt := p.2.1, quiet := max p.2.1 (quietTo s n rise), low := dcoSpan s k from_ rise }) s) (f s)

/-! ### States of synthesisers and outputs (R213, R223 to R227) -/

/-- a move of an output to synthesiser k that has not switched yet is abandoned with code 0x5 (R235) -/
def abandonMoves (k : Nat) (s : State) : State :=
  forEach ((List.range 16).filter (fun n => (ix s.out n).moving == some k)) (fun n s =>
    putOutErr n 5 (put (SYN_OUTn_STAT_ALIGNED n) 1 (modOut n (fun o => { o with moving := none, refused := true }) s))) s

/-- the commits of k that its boundary has not reached wait until k is LOCKED again (R219) -/
def commitHold (k : Nat) (s : State) : State := { s with commit := s.commit.map (fun c => if c.k = k then { c with wait := true } else c) }

/-- they have their boundary at the first frame tick now that k is LOCKED -/
def commitWake (k : Nat) (s : State) : State :=
  { s with commit := s.commit.map (fun c =>
      if c.k = k && c.wait then { c with wait := false, atT := tickFrom s k (max s.now c.nb) } else c) }

/-- the boundaries of k still to come, its rate being a new one -/
def commitAim (k : Nat) (s : State) : State :=
  if !ticks s k then s
  else { s with commit := s.commit.map (fun c =>
      if c.k = k && !c.wait && decide (s.now < c.atT) then { c with atT := tickFrom s k (max s.now c.nb) } else c) }

/-- the state of synthesiser k set; leaving LOCKED abandons the moves to it, and its frame ticks stop for a commit that waits -/
def putSynState (k v : Nat) (s : State) : State :=
  if k = 4 then put SYN_CORE_STAT_STATE v s
  else
    let was := synState s k
    let s := put (SYN_SYNk_STAT_STATE k) v s
    let s := if v = 0 || v = 3 || v = 4 then s else commitHold k s
    if was = 3 && v != 3 then abandonMoves k s else s

/-- output n stops: RUNNING completes its high phase in STOPPING, STARTING never began (R226) -/
def stopOut (n : Nat) (s : State) : State :=
  match outState s n with
  | 2 => putOutState n 3 (modOut n (fun o => { o with fallAt := highEnd s n s.now }) (fineFix n s))
  | 1 => putOutState n 0 s
  | _ => s

/-- the synthesiser that OUTn_CFG.SEL asks for -/
def wantedSyn (s : State) (n : Nat) : Nat := if on s (SYN_OUTn_CFG_SEL n) then (outSyn s n).2.1 else (outSyn s n).1

/-- the configuration of output n judged again, and its start or stop begun by R226: not before an image is applied, so that an L1
reset changes no output (R233). A move that R227 refuses, and values that an L1 reset did not make live, are errors too -/
def outEval (n : Nat) (s : State) : State :=
  if !s.img.applied then s
  else
    let k := rd s (SYN_OUTn_STAT_SRC n)
    let live := (ix s.syn k).live
    let s := modOut n (fun o => { o with stop := rd s (SYN_OUTn_CFG_STOP n), leg := rd s (SYN_OUTn_CFG_LEG n)
                                         refused := o.refused && wantedSyn s n != k }) s
    let o := ix s.out n
    let e := outErr s n (outLive s n) k (fNom s live) live.frame
    let e := if e = 0 && o.kept then outErr s n (outShadow s n) k (fNom s live) live.frame else e
    let s := putOutErr n (if e = 0 && o.refused then 5 else e) s
    if !on s (SYN_OUTn_CFG_EN n) then stopOut n s
    else if outState s n = 0 && !on s (SYN_OUTn_STAT_CFG_ERR n) && !o.muted then putOutState n 1 s
    else s

/-- may output n move to synthesiser k (R227) -/
def moveOk (s : State) (n k : Nat) : Bool :=
  let os := outSyn s n
  let cur := rd s (SYN_OUTn_STAT_SRC n)
  (k == os.1 || (k == os.2.1 && os.2.2)) && synState s k == 3 && on s (SYN_SYNk_STAT_PH_ALIGNED k)
    && fNom s (ix s.syn k).live == fNom s (ix s.syn cur).live && (ix s.syn k).live.frame % halfPeriods (outLive s n) == 0

/-- a move of output n to synthesiser k begun, or refused with code 0x5 (R227) -/
def moveOut (n k : Nat) (s : State) : State :=
  if rd s (SYN_OUTn_STAT_SRC n) = k then s
  else if moveOk s n k then
    put (SYN_OUTn_STAT_ALIGNED n) 0 (modOut n (fun o => { o with moving := some k, refused := false }) s)
  else putOutErr n 5 (modOut n (fun o => { o with refused := true }) s)

/-- the outputs fed by k move to their alternate where R227 allows, for a band change only with BYP, and otherwise stop (R223 step 1,
R234 step 1) -/
def clearOuts (k : Nat) (band : Bool) (s : State) : State :=
  forEach (outsOf s k) (fun n s =>
    let os := outSyn s n
    let alt := if os.1 = k then os.2.1 else os.1
    if (on s (SYN_OUTn_CFG_BYP n) || !band) && moveOk s n alt then moveOut n alt (modOut n (fun o => { o with auto := true }) s)
    else stopOut n (modOut n (fun o => { o with muted := true }) s)) s

/-- MUTE entered (R213, R223); for the test of R234 where band is false -/
def muteSyn (k : Nat) (band : Bool) (s : State) : State :=
  clearOuts k band (s |> synTouch k |> putSynState k 5 |> put (SYN_SYNk_EVT_BAND_CHG k) 1)

/-- SEARCH entered (R211) -/
def startSearch (k : Nat) (s : State) : State := putSynState k 1 s

/-- EN, CFG_ERR and SYSCLK_PRES of synthesiser k judged: OFF to SEARCH, or the outputs stopped and OFF (R213); not before an image is
applied, so that an L1 reset changes nothing that runs (R233) -/
def synEval (k : Nat) (s : State) : State :=
  if !s.img.applied then s
  else
    let s := putB (SYN_SYNk_STAT_CFG_ERR k) (synErr s (ix s.syn k).live) s
    if on s (SYN_SYNk_CFG_EN k) then
      if synState s k = 0 && !on s (SYN_SYNk_STAT_CFG_ERR k) && on s GEN_CLKSTAT_SYSCLK_PRES && !isolated s 7 then startSearch k s
      else s
    else if synState s k = 0 then s
    else
      let s := forEach (outsOf s k) (fun n s => stopOut n (modOut n (fun o => { o with muted := true }) s)) s
      if (outsOf s k).all (fun n => outState s n == 0) then putSynState k 0 s else s

/-! ### The applied word (R210) -/

/-- the applied word of synthesiser k goes on from where it stands towards w at a rate limit r -/
def wordTo (k : Nat) (w : Int) (r : Nat) (s : State) : State :=
  let wa := appliedWord s k s.now
  let s := modSyn k (fun x => { x with wa := if r = 0 then w else wa, wd := w, waAt := s.now, wrate := r }) (synTouch k s)
  commitAim k (putB (SYN_SYNk_STAT_WRATE_ACT k) (r != 0 && wa != w) s)

/-- word w delivered to synthesiser k over P-5: held while FROZEN, at once with WRATE 0, else ramped (R210, R224) -/
def deliverTo (k : Nat) (w : Int) (s : State) : State :=
  let x := ix s.syn k
  if synState s k = 6 then putB (SYN_SYNk_STAT_WRATE_ACT k) (x.wrate != 0 && x.wa != w) (modSyn k (fun x => { x with held := some w }) s)
  else wordTo k w x.wrate s

/-- a word held while FROZEN is applied (R224) -/
def giveHeld (k : Nat) (s : State) : State :=
  match (ix s.syn k).held with
  | some w => deliverTo k w (modSyn k (fun x => { x with held := none }) s)
  | none => s

/-- the applied word of synthesiser k reaches the delivered word: WRATE_ACT clears (R210) -/
def rampDone (k : Nat) (s : State) : State :=
  let x := ix s.syn k
  if !on s (SYN_SYNk_STAT_WRATE_ACT k) || x.wrate = 0 || synState s k = 6 then s
  else
    let s := synTouch k (advanceTo (rampEnd x) s)
    put (SYN_SYNk_STAT_WRATE_ACT k) 0 (modSyn k (fun y => { y with wa := x.wd, waAt := s.now }) s)

/-- the synthesisers DPLL d steers (R66) -/
def synsOf (s : State) (d : Nat) : List Nat := (List.range 4).filter (fun k => s.img.struct_.dpllSyn.getD k 0 == d)

/-- the word of DPLL d set and delivered to the synthesisers it steers (R184, P-5) -/
def setWord (d : Nat) (w : Int) (s : State) : State :=
  let w := satS 48 w
  let s := putPairS (SEL_DPLLd_FREQ_LO_W d) (SEL_DPLLd_FREQ_HI_W d) w s
  forEach (synsOf s d) (fun k s => deliverTo k w s) s

/-! ### Alignment (R214, R216) -/

/-- a realignment of k owed at once or by CTL.REALIGN -/
def askRealign (k : Nat) (s : State) : State :=
  if on s (SYN_SYNk_STAT_PH_ALIGNED k) then s else modSyn k (fun x => { x with realign := true }) s

/-- PH_ALIGNED of k cleared; realignment runs at once where AUTO_REALIGN is 1 (R216) -/
def unalignSyn (k : Nat) (s : State) : State :=
  let s := put (SYN_SYNk_STAT_PH_ALIGNED k) 0 s
  if on s (SYN_SYNk_CFG_AUTO_REALIGN k) then askRealign k s else s

/-- the accumulator of DPLL d stepped: every synthesiser it steers that is aligned loses PH_ALIGNED (R216, R240) -/
def unalign (d : Nat) (s : State) : State :=
  forEach (synsOf s d) (fun k s => if on s (SYN_SYNk_STAT_PH_ALIGNED k) then unalignSyn k s else s) s

/-- the frame counter of k at which its ticks fall on the multiples of T_F of the steering accumulator (R214) -/
def alignedPhase (s : State) (k : Nat) : Nat :=
  let x := ix s.syn k
  (2 * (fNom s x.live : Int) * accOf s (s.img.struct_.dpllSyn.getD k 0) % ((x.live.frame * hpU : Nat) : Int)).toNat

/-- the outputs that the device moved away from k, and those whose move to k was refused, move to it (R227) -/
def outsBack (k : Nat) (s : State) : State :=
  forEach ((List.range 16).filter (fun n => ((ix s.out n).auto || (ix s.out n).refused) && wantedSyn s n == k && !(ix s.out n).muted))
    (fun n s => moveOut n k (modOut n (fun o => { o with auto := false }) s)) s

/-- the frame counter of k takes its aligned value and PH_ALIGNED rises; the outputs lengthen a low phase onto the new grid (R214, R216) -/
def alignSyn (k : Nat) (s : State) : State :=
  let s := regrid (outsOf s k) (fun s => modSyn k (fun x => { x with realign := false, ph := alignedPhase s k, phT := s.now }) s) (synTouch k s)
  let s := if on s (SYN_SYNk_STAT_PH_ALIGNED k) then s else s |> put (SYN_SYNk_STAT_PH_ALIGNED k) 1 |> put (SYN_SYNk_EVT_ALIGNED k) 1
  outsBack k (commitAim k s)

/-- an output starts at a frame tick of its LOCKED synthesiser: its first edge is the first rise of its grid (R226). Its edges stand on
that grid from then on, so ALIGNED is 1 -/
def outStart (n : Nat) (s : State) : State :=
  let k := rd s (SYN_OUTn_STAT_SRC n)
  if outState s n = 1 && synState s k == 3 && (on s (SYN_OUTn_CFG_EN n) || !s.img.applied) && !on s (SYN_OUTn_STAT_CFG_ERR n) then
    let s := advanceTo (tickFrom s k s.now) s
    let s := modOut n (fun o => { o with started := true, fallAt := s.now, quiet := quietTo s n (gridRise s n s.now), low := 0, fineAt := s.now }) s
    putOutState n 2 (put (SYN_OUTn_STAT_ALIGNED n) 1 s)
  else s

/-- an output has completed its high phase and holds its STOP level (R226) -/
def outStopped (n : Nat) (s : State) : State :=
  if outState s n = 3 then
    let s := advanceTo (ix s.out n).fallAt s
    let s := outEval n (putOutState n 0 (put (SYN_OUTn_STAT_ALIGNED n) 0 s))
    let k := rd s (SYN_OUTn_STAT_SRC n)
    if on s (SYN_SYNk_CFG_EN k) then s else synEval k s
  else s

/-- the hitless move of an output completes: its edges stand on the grid of the new synthesiser (R227) -/
def outMoved (n : Nat) (s : State) : State :=
  match (ix s.out n).moving with
  | none => s
  | some k =>
    let os := outSyn s n
    let s := modOut n (fun o => { o with moving := none }) (fineFix n s)
    outEval n (regrid [n] (fun s => s |> put (SYN_OUTn_STAT_SRC n) k |> putB (SYN_OUTn_STAT_ON_ALT n) (k == os.2.1 && k != os.1)) s
      |> put (SYN_OUTn_STAT_ALIGNED n) 1)

/-- every output of a muting synthesiser is stopped or moved: the search starts (R223 step 2); a test keeps it muted (R234) -/
def muteDone (k : Nat) (s : State) : State :=
  if synState s k = 5 && (outsOf s k).all (fun n => outState s n == 0) && !(on s SYN_TEST_GO && rd s SYN_TEST_SYN == k) then startSearch k s else s

/-- the ramp of a gliding synthesiser ends (R222) -/
def glideDone (k : Nat) (s : State) : State :=
  if synState s k = 4 then commitAim k (putSynState k 3 (synTouch k (advanceTo (ix s.syn k).glideEnd s))) else s

/-- a realignment completes; during a ramp it waits (R216, R235) -/
def realignDone (k : Nat) (s : State) : State := if (ix s.syn k).realign && synState s k == 3 then alignSyn k s else s

/-! ### Bands and commits (R211, R219 to R222) -/

/-- centre of band b in units of 2^-41 Hz: 5000 MHz + b * 4.8828125 MHz -/
def bandCentre (b : Nat) : Nat := (50000000000000 + b * 48828125000) * hz41 / 10000

/-- b₀ of R211 -/
def bandGuess (f : Nat) : Nat :=
  min 255 (((f - 5000000000 * hz41) * 20000 + 48828125000 * hz41) / (2 * 48828125000 * hz41))

/-- does a change to f glide from the band in use (R221) -/
def glides (b f : Nat) : Bool :=
  let c := bandCentre b
  decide ((if c ≤ f then f - c else c - f) ≤ 16000000 * hz41)

/-- the band taken from the measured centres of b₀ - 1, b₀ and b₀ + 1 in Hz, those outside 0 to 255 left out: the one nearest f, with its
centre (R211); of two equally near the lower (log entry 153) -/
def bandTaken (f : Nat) (l : List Nat) : Nat × Nat :=
  let b := bandGuess f
  let far (c : Nat) : Nat := let c := c * hz41; if c ≤ f then f - c else c - f
  let cand := ((List.range 3).filter (fun i => decide (1 ≤ b + i) && decide (b + i ≤ 256))).map (fun i => (b + i - 1, l.getD i 0))
  match cand with
  | [] => (b, 0)
  | a :: r => r.foldl (fun x y => if far y.2 < far x.2 then y else x) a

/-- does f lie in the fine range about a measured centre: 20 MHz below to 25 MHz above (R211) -/
def inFineRange (f c : Nat) : Bool := decide (c * hz41 ≤ f + 20000000 * hz41) && decide (f ≤ c * hz41 + 25000000 * hz41)

/-- new MULT, MFRAC and FRAME made live on k: a ramp, a band change, or nothing but the frame (R221 to R223). A band change moves its
outputs by the f_nom they ran at -/
def goLive (k : Nat) (v : SynLive) (s : State) : State :=
  let s := synTouch k s
  let f0 := fAt s k s.now
  let f1 := fNom s v
  let st := synState s k
  let live (s : State) : State := modSyn k (fun x => { x with live := v }) s
  if f0 = f1 || !(st = 3 || st = 4) then live s
  else if glides (rd s (SYN_SYNk_STAT_BAND k)) f1 then
    let rate := orElse0 (rd s (SYN_SYNk_GLIDE_GLIDE k)) 1
    let df := if f0 ≤ f1 then f1 - f0 else f0 - f1
    let dt := ceilDiv (df * 1000000000 * msU) (rate * f0)
    putSynState k 4 (modSyn k (fun x => { x with fFrom := f0, glide0 := s.now, glideEnd := s.now + dt }) (live s))
  else live (muteSyn k true s)

/-- the divider values of output n made live: its old period ends, a change of COARSE lengthens a low phase (R219, R220) -/
def outGoLive (n : Nat) (s : State) : State :=
  let v := outShadow s n
  regrid [n] (fun s => modOut n (fun o => { o with div := v.div, half := v.half, pre := v.pre, coarse := v.coarse, kept := false }) s) (fineFix n s)

/-- would the commit put k or an output fed by it in configuration error: an output it names, or another that is in none now (R219) -/
def commitBad (s : State) (k mask : Nat) (mult : Bool) : Bool :=
  let v := if mult then synShadow s k else (ix s.syn k).live
  synErr s v ||
    (outsOf s k).any (fun n =>
      outErr s n (if bitAt mask n then outShadow s n else outLive s n) k (fNom s v) v.frame != 0
        && (bitAt mask n || !on s (SYN_OUTn_STAT_CFG_ERR n)))

/-- is a commit refused (R219, R234) -/
def commitRefused (s : State) (k mask : Nat) (mult : Bool) : Bool :=
  on s SYN_STAT_COMMIT_PEND || isolated s 7 || (bitList 16 mask).any (fun n => rd s (SYN_OUTn_STAT_SRC n) != k)
    || commitBad s k mask mult || synState s k == 6 || synState s k == 7

/-- the commit of k with its boundary at the first frame tick from a device time on; with k OFF, which has no ticks, at that time itself,
and with k on its way to LOCKED at the first tick after it is there (R219; log entry 14) -/
def newCommit (s : State) (k mask : Nat) (mult l1 : Bool) (nb : Nat) : CommitS :=
  { k := k, mask := mask, mult := mult, l1 := l1, nb := nb, atT := if ticks s k then tickFrom s k nb else nb
    wait := !ticks s k && synState s k != 0 }

/-- a commit accepted: it waits for its boundary (R219) -/
def commitAsk (k mask : Nat) (mult : Bool) (s : State) : State :=
  put SYN_STAT_COMMIT_PEND 1 { s with commit := s.commit ++ [newCommit s k mask mult false (s.now + usU)] }

/-- the values of a commit made live (R219); of an L1 reset's commit only those that make no configuration error (R233) -/
def commitNow (c : CommitS) (s : State) : State :=
  let s := put (SYN_SYNk_EVT_COMMIT_DONE c.k) 1 { s with commit := s.commit.filter (fun x => x != c) }
  let s := if c.l1 then s else put SYN_STAT_COMMIT_PEND 0 s
  let v := synShadow s c.k
  let mult := c.mult && !(c.l1 && synErr s v)
  let f := if mult then v else (ix s.syn c.k).live
  let bad := (bitList 16 c.mask).filter (fun n => c.l1 && outErr s n (outShadow s n) c.k (fNom s f) f.frame != 0)
  let s := forEach bad (fun n s => modOut n (fun o => { o with kept := true }) s) s
  let s := forEach ((bitList 16 c.mask).filter (fun n => !bad.contains n)) outGoLive s
  let s := if mult then goLive c.k v s else s
  commitAim c.k (forEach (List.range 16) outEval s)

/-- FROZEN entered: the DCO keeps its frequency, the rest of a ramp of the word waits (R224) -/
def freezeSyn (k : Nat) (s : State) : State :=
  let s := synTouch k s
  let f := fAt s k s.now
  let wa := appliedWord s k s.now
  let s := modSyn k (fun x => { x with fFrom := f, wa := wa, wd := wa, waAt := s.now, held := if wa = x.wd then none else some x.wd }) s
  s |> putSynState k 6 |> put (SYN_SYNk_EVT_FROZEN k) 1 |> raise 32 (some k)

/-- the TDC reports loss of lock on SYN0-SYN3: FROZEN after a first lock (R212, R213, R224) -/
def synFreeze (k : Nat) (s : State) : State :=
  if (synState s k = 2 || synState s k = 3 || synState s k = 4) && (ix s.syn k).ever then freezeSyn k s else s

/-- SYSCLK_PRES falls: the same, also out of a search after a previous lock; before any lock SEARCH, which starts again with SYSCLK_PRES
(R213, R235) -/
def synPresFall (k : Nat) (s : State) : State :=
  let st := synState s k
  if st = 1 && (ix s.syn k).ever then freezeSyn k s
  else if st = 2 && !(ix s.syn k).ever then putSynState k 1 s
  else synFreeze k s

/-- what follows the lock of a synthesiser: its outputs judged for starting, and those that the device moved away back again (R223,
R226) -/
def lockFollow (k : Nat) (s : State) : State :=
  let s := forEach (outsOf s k) (fun n s => modOut n (fun o => { o with muted := false }) s) s
  outsBack k (forEach (outsOf s k) outEval (commitWake k s))

/-- lock declared on SYN0-SYN3: from LOCKING the frame is aligned and the outputs may start; from FROZEN the loop
re-engages with PH_ALIGNED = 0 and the held word is applied (R213, R214, R223, R224). Where the frame counter stands after a freeze is
a free value: the spec bounds the frozen DCO to ±50 ppm (log entry 154) -/
def synLocked (k : Nat) (s : State) : State :=
  let from_ := synState s k
  if from_ = 2 then
    let s := s |> putSynState k 3 |> put (SYN_SYNk_EVT_LOCK k) 1
    lockFollow k (alignSyn k (modSyn k (fun x => { x with ever := true }) s))
  else if from_ = 6 then
    let f := fresh (synTouch k s)
    let s := modSyn k (fun x => { x with ph := f.1 % (x.live.frame * hpU), phT := s.now }) f.2
    giveHeld k (lockFollow k (s |> putSynState k 3 |> put (SYN_SYNk_EVT_LOCK k) 1 |> unalignSyn k))
  else s

end Sys2Proof.Machine
end

