-- ==== Sys2Proof/Machine/Dpll.lean ====
section
/-! DEFINITION. DPLL operations: the loop filter and its gains (R187 to R189), states and lock (R190, R191), steps and
slews (R192), the holdover average and word (R194, R195), the drift model (R196 to R198), holdover quality (R200, R201). -/

namespace Sys2Proof.Machine
open Sys2Proof.Reg

/-! ### Gains (R188) -/

/-- the largest r of k bits with r^63 ≤ n -/
def root63 : Nat → Nat → Nat → Nat
  | 0, _, r => r
  | k + 1, n, r => root63 k n (if (r + 2 ^ k) ^ 63 ≤ n then r + 2 ^ k else r)

/-- f_bw(b) = 10^-4 (4 * 10^7)^(b/63) Hz in units of 2^-48 Hz (R188) -/
def fBw (b : Nat) : Nat := root63 87 (40000000 ^ b * 2 ^ (63 * 60)) 0 / (10000 * 2 ^ 12)

/-- ζ and k(ζ) of a damping code, in thousandths (R188) -/
def damping (c : Nat) : Nat × Nat :=
  match c with
  | 0 => (707, 2058)
  | 1 => (1000, 2482)
  | 2 => (2000, 4249)
  | _ => (5000, 10100)

/-- π in units of 10^-18 -/
def pi18 : Nat := 3141592653589793238

/-- a gain as the device evaluates it: the nominal value of R188 moved by a free error below 2^-24 of it (log entry 11) -/
def gainAs (nominal : Nat) (code : Nat) : Int :=
  let lim : Int := (nominal / 2 ^ 24 : Nat)
  nominal + clampI (Config.gainError code) lim

/-- KP of bandwidth code b and damping code c (R188) -/
def gainKP (b c : Nat) : Int :=
  let z := damping c
  gainAs (roundDivN (fBw b * 2 ^ 24 * 4 * pi18 * z.1) (z.2 * 10 ^ 27)) (b * 8 + c)

/-- KI of bandwidth code b and damping code c (R188) -/
def gainKI (b c : Nat) : Int :=
  let z := damping c
  gainAs (roundDivN (4 * pi18 ^ 2 * fBw b ^ 2 * 10 ^ 6) (z.2 ^ 2 * 10 ^ 45 * 2 ^ 24)) (b * 8 + c + 4)

/-! ### Sample and update rates (R187, R189) -/

/-- the sample rate of a slot as (numerator, denominator) in Hz; dt is the time since the last sample for slots whose
source sets its own rate -/
def sampleRate (s : State) (i dt : Nat) : Nat × Nat :=
  if i < 16 then (rd s (REF_INn_NOM_NOM i), 64)
  else if decide (22 ≤ i) && decide (i ≤ 27) then (8000, 1)
  else (secU, if dt = 0 then secU else dt)

/-- D, the smallest power of two that brings the rate to 1 MHz or less; 1 for slots 16 to 31 (R187) -/
def groupSize (s : State) (i : Nat) : Nat :=
  if i < 16 then
    let q := ceilDiv (rd s (REF_INn_NOM_NOM i)) (64 * 1000000)
    if q ≤ 1 then 1 else 2 ^ (log2f (q - 1) + 1)
  else 1

/-- the bandwidth code in use and BW_CLAMP (R189), by the values the core cycle began with (R207) -/
def codeInUse (s : State) (d i dt : Nat) : Nat × Bool :=
  let want := if cycWas s (SEL_DPLLd_CFG_ACQ_EN d) = 1 && dpllState s d == 1 then cycWas s (SEL_DPLLd_CFG_ACQ_BW d)
    else cycWas s (SEL_DPLLd_CFG_BW d)
  let r := sampleRate s i dt
  let ok (b : Nat) : Bool := decide (fBw b * 64 * r.2 * groupSize s i ≤ r.1 * 2 ^ 48)
  if ok want then (want, false) else (((List.range (want + 1)).reverse.find? ok).getD 0, true)

/-! ### Temperature (R199) -/

/-- the temperature the holdover word uses: the present reading, or the last valid one while VALID = 0 (R199) -/
def tempNow (s : State) : Int := if on s SEL_TEMP_VALID then rdS s SEL_TEMP_T else s.tempHeld

/-! ### The holdover average (R194) -/

/-- the word and temperature in force noted in the history of a LOCKED DPLL; entries that no window can need are dropped (the longest
window is 4096 s with a GUARD of 15 s, the longest minute 60 s) -/
def histPush (d : Nat) (s : State) : State :=
  if dpllState s d = 2 then
    let keep := (15 + 4096 + 61) * secU
    let rec prune : List (Nat × Int × Int) → List (Nat × Int × Int)
      | [] => []
      | e :: r => if e.1 + keep < s.now then [e] else e :: prune r
    modDpll d (fun x => { x with hist := prune ((s.now, wordOf s d, tempNow s) :: x.hist) }) s
  else s

/-- sums of word and temperature times duration over [a, b] of a history (newest first), top the end of its newest entry -/
def histSum (a b : Nat) : Nat → List (Nat × Int × Int) → Int × Int
  | _, [] => (0, 0)
  | top, e :: r =>
    let lo := max e.1 a
    let hi := min top b
    let dt : Int := (hi - lo : Nat)
    let q := histSum a b e.1 r
    (q.1 + dt * e.2.1, q.2 + dt * e.2.2)

/-- the averaging span in device time: GUARD and 2^AVG s (R194) -/
def avgGuard (s : State) (d : Nat) : Nat := rd s (SEL_DPLLd_HOCFG_GUARD d) * secU
def avgSpan (s : State) (d : Nat) : Nat := 2 ^ min (rd s (SEL_DPLLd_HOCFG_AVG d)) 12 * secU

/-- has DPLL d been LOCKED without a break long enough for its average (R194) -/
def avgReady (s : State) (d : Nat) : Bool :=
  dpllState s d == 2 && decide ((ix s.dpll d).lockAt + avgGuard s d + avgSpan s d ≤ s.now)

/-- the average of a LOCKED DPLL brought up to now when its interval is full (R194) -/
def avgUpdate (d : Nat) (s : State) : State :=
  if avgReady s d then
    let b := s.now - avgGuard s d
    let a := b - avgSpan s d
    let q := histSum a b s.now (ix s.dpll d).hist
    let dt : Int := (avgSpan s d : Nat)
    modDpll d (fun x => { x with avgEver := true, avgOk := true, wAvg := roundDiv q.1 dt, thAvg := roundDiv q.2 dt, tAvg := (a + b) / 2 }) s
  else s

/-- HOFREQ shows w_h in HOLDOVER and w_avg otherwise (R203) -/
def showHoFreq (d : Nat) (s : State) : State :=
  let x := ix s.dpll d
  let v := uns 48 (if dpllState s d = 3 then x.wh else x.wAvg)
  s |> put (SEL_DPLLd_HOFREQ_LO_WH d) v |> put (SEL_DPLLd_HOFREQ_HI_WH d) (v / 2 ^ 32) |> putB (SEL_DPLLd_HOFREQ_HI_AVG_VALID d) x.avgOk

/-! ### The drift model (R196) -/

/-- the model as its registers hold it -/
def modelNow (s : State) (d : Nat) : HoModel :=
  { a0 := rdPair48 s (SEL_DPLLd_A0_LO_A0 d) (SEL_DPLLd_A0_HI_A0 d), a1 := rdS s (SEL_DPLLd_A1_A1 d), c1 := rdS s (SEL_DPLLd_C1_C1 d)
    c2 := rdS s (SEL_DPLLd_C2_C2 d), tW := (ix s.dpll d).tW, thW := rdS s (SEL_DPLLd_MREF_THETA_W d), res := rd s (SEL_DPLLd_MSTAT_RES d)
    ok := on s (SEL_DPLLd_STAT_MODEL_VALID d) }

/-- the word a model gives at device time t and temperature th (R196) -/
def modelWord (m : HoModel) (t : Int) (th : Int) : Int :=
  m.a0 + roundDiv (m.a1 * (t - m.tW)) ((3600 * 256 * secU : Nat) : Int) + roundDiv (m.c1 * (th - m.thW)) 256
    + roundDiv (m.c2 * (th - m.thW) * (th - m.thW)) ((2 ^ 20 : Nat) : Int)

/-- w_model of DPLL d at device time t and temperature th (R196) -/
def wModel (s : State) (d : Nat) (t : Int) (th : Int) : Int := modelWord (modelNow s d) t th

/-- a value of FLIM in word units (R187, R203) -/
def flimOf (v : Nat) : Int := (orElse0 v (2 ^ 24 - 1) * 4096 : Nat)

/-- FLIM in word units (R187, R203) -/
def flimWord (s : State) (d : Nat) : Int := flimOf (rd s (SEL_DPLLd_FLIM_FLIM d))

/-- the word set; FSAT rises where |w| has reached the limit lim, with its event and source 29 (R189) -/
def wordLim (d : Nat) (lim w : Int) (s : State) : State :=
  let s := setWord d w s
  if decide (lim ≤ ((wordOf s d).natAbs : Int)) && !on s (SEL_DPLLd_STAT_FSAT d) then
    s |> put (SEL_DPLLd_STAT_FSAT d) 1 |> put (SEL_DPLLd_EVT_FSAT d) 1 |> raise 29 (some d)
  else s

/-- the word set between updates -/
def wordPut (d : Nat) (w : Int) (s : State) : State := wordLim d (flimWord s d) w s

/-- the word set by an update, which also clears FSAT where |w| lies below the limit lim (R189) -/
def wordUpdate (d : Nat) (lim w : Int) (s : State) : State :=
  let s := wordLim d lim w s
  if ((wordOf s d).natAbs : Int) < lim then put (SEL_DPLLd_STAT_FSAT d) 0 s else s

/-- does the holdover word use the model now (R195, R201) -/
def hoUses (s : State) (d : Nat) : Bool :=
  on s (SEL_DPLLd_HOCFG_MODEL_USE d) && on s (SEL_DPLLd_STAT_MODEL_VALID d) && !(ix s.dpll d).hoAvg

/-- w_h at this moment (R195): w_avg, or the model as it stood at entry with the offset Δ fixed then, within FLIM -/
def holdoverWord (s : State) (d : Nat) (uses : Bool) : Int :=
  let x := ix s.dpll d
  clampI (if uses then modelWord x.ho s.now (tempNow s) + x.hoDelta else x.wAvg) (flimWord s d)

/-- w_h computed and, with the slew term, made the word (R195, R192) -/
def holdoverUpdate (d : Nat) (uses : Bool) (s : State) : State :=
  let s := modDpll d (fun x => { x with wh := holdoverWord s d uses }) s
  let x := ix s.dpll d
  wordUpdate d (flimWord s d) (clampI (x.wh + x.slew) (flimWord s d)) s

/-- σ × 2^36 of R200: RES when the word uses the model, RES_MAX otherwise -/
def hoSigma (s : State) (d : Nat) : Nat := if hoUses s d then (ix s.dpll d).ho.res else rd s (SEL_DPLLd_MODCFG_RES_MAX d)

/-- HO_TE as a fraction of ns over 2^36 * 16 (R200): W 2^-4 ns and 3 σ τ 10^9 ns, τ in whole seconds since entry -/
def hoTe (s : State) (d : Nat) : Nat :=
  let tau := secSince s (ix s.dpll d).hoAt
  rd s (SEL_DPLLd_LOCKW_W d) * 2 ^ 36 + 3 * hoSigma s d * tau * 1000000000 * 16

/-- IN_SPEC and HOTE judged (R200); IN_SPEC falling in HOLDOVER sets SPEC_LOST and raises source 27 -/
def inSpecEval (d : Nat) (s : State) : State :=
  let st := dpllState s d
  let te := hoTe s d
  let ok := if st = 2 then true
    else if st = 3 then decide (te ≤ rd s (SEL_DPLLd_TEMAX_TEMAX d) * 2 ^ 40) && !on s GEN_CLKSTAT_CORE_FROZEN && !(ix s.dpll d).specOff
    else false
  let was := on s (SEL_DPLLd_STAT_IN_SPEC d)
  let s := putB (SEL_DPLLd_STAT_IN_SPEC d) ok s
  let s := put (SEL_DPLLd_HOTE_TE d) (if st = 3 then min (ceilDiv te (2 ^ 40)) (2 ^ 32 - 1) else 0) s
  if st = 3 && was && !ok then s |> put (SEL_DPLLd_EVT_SPEC_LOST d) 1 |> raise 27 (some d) else s

/-! ### States (R190) -/

/-- the minute in progress of DPLL d gives no sample (R197) -/
def minBreak (d : Nat) (s : State) : State := modDpll d (fun x => { x with minOk := false }) s
def minBreakAll (s : State) : State := forEach (List.range 8) minBreak s

/-- WARMING rises: the minute in progress gives no sample, nor does one that ended in the same core cycle (R197, R207) -/
def minWarm (s : State) : State :=
  let drop_ (l : List MinSample) : List MinSample :=
    match l with
    | m :: r => if m.t = (s.minAt : Int) - (30 * secU : Nat) then r else l
    | [] => []
  let s := minBreakAll s
  if s.minAt != 0 && cycleOf s.minAt == cycleNow s then forEach (List.range 8) (fun d s => modDpll d (fun x => { x with open_ := drop_ x.open_ }) s) s
  else s

/-- an event bit taken back to what it was before the present core cycle -/
def evtBack (f : Fld) (s : State) : State := cycMark f 0 (put f (cycWas s f) s)

/-- LOCKED entered in the present core cycle gives way to what else happens in it: no LOCK event (R207) -/
def lockUndo (d : Nat) (s : State) : State :=
  if dpllState s d = 2 && cycWas s (SEL_DPLLd_STAT_STATE d) != 2 then evtBack (SEL_DPLLd_EVT_LOCK d) (put (SEL_DPLLd_STAT_STATE d) 1 s) else s

/-- the state of DPLL d set, with the effects of entering and leaving LOCKED (R190); the average is brought up to date
before LOCKED is left (R194); a sanity failure of the core cycle that leaves HOLDOVER did not happen (R207) -/
def putDpllState (d st : Nat) (s : State) : State :=
  let s := if st = 2 then s else lockUndo d s
  let old := dpllState s d
  if old = st then s else
  let s := if old = 2 then avgUpdate d s else s
  let s := ptpStale (put (SEL_DPLLd_STAT_STATE d) st s)
  let s := if st = 2 && d = timeDpll s then { s with ptp := { s.ptp with entered := true } } else s
  let s := if st = 2 then
      histPush d (put (SEL_DPLLd_EVT_LOCK d) 1 (modDpll d (fun x => { x with lockAt := s.now, hist := [], un := 0 }) s))
    else s
  let s := if old = 2 then minBreak d (s |> put (SEL_DPLLd_EVT_UNLOCK d) 1 |> raise 25 (some d)) else s
  let s := if old = 3 then
      let s := if on s (SEL_DPLLd_STAT_SANITY_FAIL d) && cycWas s (SEL_DPLLd_STAT_SANITY_FAIL d) = 0 then evtBack (SEL_DPLLd_EVT_SANITY d) s else s
      s |> put (SEL_DPLLd_STAT_SANITY_FAIL d) 0 |> put (SEL_DPLLd_STAT_SANITY_ACT d) 0 |> put (SEL_DPLLd_STAT_BRIDGE d) 0
    else s
  inSpecEval d (showHoFreq d s)

/-- the integrator restarted at the word in force (R190) -/
def restartInteg (d : Nat) (s : State) : State :=
  modDpll d (fun x => { x with integ := (wordOf s d - x.slew) * 2 ^ 40, gsum := 0, gcnt := 0, updAt := s.now }) s

/-- FREERUN is left in the core cycle of a write of FRW_HI: the word is as before it (R207) -/
def frwUndo (d : Nat) (s : State) : State :=
  match (ix s.dpll d).frw with
  | some (c, w) => if c = cycleNow s && dpllState s d == 0 then setWord d w s else s
  | none => s

/-- ACQUIRING entered (R190) -/
def toAcquiring (d : Nat) (s : State) : State :=
  let s := frwUndo d s
  let old := dpllState s d
  let s := if old = 0 || old = 3 then restartInteg d s else s
  putDpllState d 1 (modDpll d (fun x => { x with un := 0 }) (put (SEL_DPLLd_STAT_LOCKCNT d) 0 s))

/-- FREERUN entered holding the word (R190) -/
def toFreerun (d : Nat) (s : State) : State := putDpllState d 0 s

/-- g of R201 in ms: grid time less the accumulator -/
def gridG (s : State) (d : Nat) : Int := roundDiv (gridT s - accOf s d) ((1000000 * nsT : Nat) : Int)

/-- SANITY_ACT: 24 buckets with g recorded, slot 30 valid and not the active slot, in HOLDOVER (R201) -/
def sanityAct (s : State) (d : Nat) : Bool :=
  dpllState s d == 3 && (ix s.dpll d).buckets.length == 24 && (ix s.dpll d).buckets.all (fun b => b.g.isSome)
    && on s MNS_GT_STAT_VALID && actSlot s d != some 30 && !isolated s 6

/-- the model that a holdover entered now runs on: the one before a refit of the same core cycle (R197, R207) -/
def entryModel (s : State) (d : Nat) : HoModel :=
  match (ix s.dpll d).mWas with
  | some (c, m) => if c = cycleNow s then m else modelNow s d
  | none => modelNow s d

/-- HOLDOVER entered (R195, R202): the model, Δ and the entry values fixed, the word computed, the event set; the fault source at
once when HO_DLY = 0 -/
def enterHoldover (d : Nat) (s : State) : State :=
  let s := avgUpdate d (lockUndo d s)
  let m := entryModel s d
  let g := if on s MNS_GT_STAT_VALID then some (gridG s d) else none
  let s := modDpll d (fun x => { x with
    hoAt := s.now, ho := m, hoDelta := x.wAvg - modelWord m x.tAvg x.thAvg, hoG := g, hoRep := false, hoAvg := false
    specOff := false, gsum := 0, gcnt := 0 }) s
  let s := put (SEL_DPLLd_EVT_HOLDOVER d) 1 (putDpllState d 3 s)
  let s := holdoverUpdate d (on s (SEL_DPLLd_HOCFG_MODEL_USE d) && m.ok) s
  let s := putB (SEL_DPLLd_STAT_SANITY_ACT d) (sanityAct s d) (inSpecEval d (showHoFreq d s))
  if rd s (SEL_DPLLd_HOCFG_HO_DLY d) = 0 then raise 26 (some d) (modDpll d (fun x => { x with hoRep := true }) s) else s

/-- the DPLL's input is lost (R190, R191): HOLDOVER when its average has been valid, FREERUN otherwise -/
def inputLost (d : Nat) (s : State) : State :=
  let s := lockUndo d s
  let st := dpllState s d
  if st = 1 || st = 2 then
    let s := if avgReady s d then avgUpdate d s else s
    if (ix s.dpll d).avgEver then enterHoldover d s else toFreerun d s
  else s

/-! ### The loop (R187) -/

/-- the next whole second since HOLDOVER was entered, after the latest update (R202 step 5) -/
def hoSecond (s : State) (d : Nat) : Nat :=
  let x := ix s.dpll d
  x.hoAt + ((x.updAt - x.hoAt) / secU + 1) * secU

/-- the time from now to the next update of the word: a second in FREERUN, the next second of a holdover, the interval of the loop (R187,
R195; log entry 142) -/
def updIn (s : State) (d : Nat) : Nat :=
  let x := ix s.dpll d
  let t := if dpllState s d = 0 || x.updI = 0 then secU
    else if dpllState s d = 3 then hoSecond s d - s.now
    else if s.now < x.updAt + x.updI then x.updAt + x.updI - s.now else x.updI
  orElse0 t 1

/-- the slew term s_n for what is pending (R192): no more than what the time to the next update needs, so that the last update moves only
the remainder; none while SEL is isolated and its words are frozen (R206, log entry 142) -/
def slewRate (s : State) (d : Nat) (pend : Int) : Int :=
  let rate := roundDivN (rd s (SEL_DPLLd_SLEW_SLEW d) * 2 ^ 48) 1000000000
  let need := roundDivN (pend.natAbs * 2 ^ 48 * secU) (65536000000000 * updIn s d)
  let r : Int := min rate need
  if pend = 0 || isolated s 6 then 0 else if 0 < pend then r else -r

/-- PEND of DPLL d (R192) -/
def pendOf (s : State) (d : Nat) : Int := rdPair48 s (SEL_DPLLd_PEND_LO_PEND d) (SEL_DPLLd_PEND_HI_PEND d)

/-- what the slew has moved the accumulator by since O_w last took it in (R192) -/
def slewMoved (s : State) (d : Nat) : Int :=
  let x := ix s.dpll d
  clampI (roundDiv (x.slew * ((s.now : Int) - x.slewAt)) ((20 * 2 ^ 48 : Nat) : Int)) ((pendOf s d).natAbs : Int)

/-- O_w now, the slew in progress included, so that a written step leaves e unchanged (R186) -/
def owNow (s : State) (d : Nat) : Int := (ix s.dpll d).ow + slewMoved s d

/-- the slew moved on by the time since it last was: O_w and PEND, STEP_DONE when PEND reaches 0 (R192) -/
def slewMove (d : Nat) (s : State) : State :=
  let pend := pendOf s d
  if pend = 0 then s
  else
    let mv := slewMoved s d
    let left := pend - mv
    let s := modDpll d (fun x => { x with ow := x.ow + mv, slew := slewRate s d left, slewAt := s.now }) s
    let s := putPairS (SEL_DPLLd_PEND_LO_PEND d) (SEL_DPLLd_PEND_HI_PEND d) left s
    if left = 0 then s |> put (SEL_DPLLd_STAT_SLEWING d) 0 |> put (SEL_DPLLd_EVT_STEP_DONE d) 1 else s

/-- a loop update with the group's sum over n samples of slot i (R187); a write of BW, DAMP or FLIM in the same core cycle counts from the
next one on (R207) -/
def loopUpdate (d i : Nat) (sum : Int) (n : Nat) (s : State) : State :=
  let dt := s.now - (ix s.dpll d).updAt
  let c := codeInUse s d i dt
  let r := sampleRate s i dt
  let s := putB (SEL_DPLLd_STAT_BW_CLAMP d) c.2 s
  let damp := cycWas s (SEL_DPLLd_CFG_DAMP d)
  let s := slewMove d (modDpll d (fun x => { x with updAt := s.now, updI := groupSize s i * secU * r.2 / orElse0 r.1 1 }) s)
  let x := ix s.dpll d
  let lim := flimOf (cycWas s (SEL_DPLLd_FLIM_FLIM d))
  let integ := clampI (x.integ + roundDiv (gainKI c.1 damp * sum * (dt : Int)) ((n * secU : Nat) : Int)) (lim * 2 ^ 40)
  let p0 := roundDiv (gainKP c.1 damp * sum) (n : Int)
  let psl := rd s (SEL_DPLLd_CFG_PSL d)
  let pl : Int := (psl * 2 ^ 88 / 1000000000 : Nat)
  let p := if psl = 0 then p0 else clampI p0 pl
  let w := clampI (roundDiv (integ + p) ((2 ^ 40 : Nat) : Int) + x.slew) lim
  let s := putB (SEL_DPLLd_STAT_PSL_ACT d) (psl != 0 && p != p0) s
  let s := modDpll d (fun x => { x with integ := integ, gsum := 0, gcnt := 0 }) s
  showHoFreq d (avgUpdate d (histPush d (wordUpdate d lim w s)))

/-- one sample judged for lock (R190): LOCKCNT, LOCK_N samples within W lock, UN samples beyond 2 W unlock -/
def lockSample (d : Nat) (e : Int) (s : State) : State :=
  let w : Int := (rd s (SEL_DPLLd_LOCKW_W d) * 4096 : Nat)
  let a : Int := e.natAbs
  let s := if a ≤ w then bump (SEL_DPLLd_STAT_LOCKCNT d) s else put (SEL_DPLLd_STAT_LOCKCNT d) 0 s
  let s := modDpll d (fun x => { x with un := if 2 * w < a then x.un + 1 else 0 }) s
  let st := dpllState s d
  if isolated s 6 then s
  else if st = 1 && decide (orElse0 (rd s (SEL_DPLLd_LOCK_LOCK_N d)) 1 ≤ rd s (SEL_DPLLd_STAT_LOCKCNT d)) then putDpllState d 2 s
  else if st = 2 && decide (orElse0 (rd s (SEL_DPLLd_LOCK_UN d)) 1 ≤ (ix s.dpll d).un) then
    putDpllState d 1 (put (SEL_DPLLd_STAT_LOCKCNT d) 0 s)
  else s

/-- a tracked sample e of slot i: PERR, lock, and the group (R186, R187) -/
def trackSample (d i : Nat) (e : Int) (s : State) : State :=
  let s := putS (SEL_DPLLd_PERR_E d) (satS 32 e) s
  let s := modDpll d (fun x => { x with smpAt := s.now }) s
  let s := if dpllState s d = 3 then toAcquiring d s else s
  let s := lockSample d e s
  let x := ix s.dpll d
  if groupSize s i ≤ x.gcnt + 1 then loopUpdate d i (x.gsum + e) (x.gcnt + 1) s
  else modDpll d (fun x => { x with gsum := x.gsum + e, gcnt := x.gcnt + 1 }) s

/-! ### Written steps (R192) -/

/-- the accumulator of DPLL d moved by p (2^-16 ns); the time DPLL's is the time of day (R185) -/
def moveAcc (d : Nat) (p : Int) (s : State) : State :=
  if d = timeDpll s then { s with tod := ((s.tod : Int) + p * (t16T : Int)).toNat }
  else modDpll d (fun x => { x with acc := x.acc + p * (t16T : Int) }) s

/-- an immediate step (MODE 0b00) without what R38 makes of it (R192, R216) -/
def stepNow (d : Nat) (p : Int) (s : State) : State :=
  let s := moveAcc d p (modDpll d (fun x => { x with ow := x.ow + p }) s)
  unalign d (put (SEL_DPLLd_EVT_STEP_DONE d) 1 s)

/-- the slew term made what PEND asks for now, PEND set to pend: the word takes the change within FLIM (R192) -/
def slewSet (d : Nat) (pend : Int) (s : State) : State :=
  let old := (ix s.dpll d).slew
  let sn := slewRate s d pend
  let s := putPairS (SEL_DPLLd_PEND_LO_PEND d) (SEL_DPLLd_PEND_HI_PEND d) pend s
  let s := modDpll d (fun x => { x with slew := sn, slewAt := s.now }) s
  histPush d (if sn = old then s else wordPut d (clampI (wordOf s d - old + sn) (flimWord s d)) s)

/-- a slew of p added to PEND (MODE 0b01, R192) -/
def slewAdd (d : Nat) (p : Int) (s : State) : State :=
  let s := modDpll d (fun x => { x with ow := owNow s d }) s |> fun t => putPairS (SEL_DPLLd_PEND_LO_PEND d) (SEL_DPLLd_PEND_HI_PEND d) (pendOf s d - slewMoved s d) t
  let pend := satS 48 (pendOf s d + p)
  let s := slewSet d pend s
  if pend = 0 then s |> put (SEL_DPLLd_STAT_SLEWING d) 0 |> put (SEL_DPLLd_EVT_STEP_DONE d) 1
  else put (SEL_DPLLd_STAT_SLEWING d) 1 s

/-- CTL.SLEW_CANCEL: the part applied is kept, no STEP_DONE (R192) -/
def slewCancel (d : Nat) (s : State) : State :=
  if pendOf s d = 0 then s
  else put (SEL_DPLLd_STAT_SLEWING d) 0 (slewSet d 0 (modDpll d (fun x => { x with ow := owNow s d }) s))

/-- a step written in the core cycle in which a reset sequence begins is lost (R207); a gap record it made stands (log entry 132) -/
def stepUndo (d : Nat) (s : State) : State :=
  match (ix s.dpll d).step with
  | none => s
  | some (c, p, m) =>
    if c != cycleNow s then s
    else
      let s := evtBack (SEL_DPLLd_EVT_STEP_DONE d) (modDpll d (fun x => { x with step := none }) s)
      if m = 0 then moveAcc d (-p) (modDpll d (fun x => { x with ow := x.ow - p }) s)
      else
        let pend := satS 48 (pendOf s d - p)
        putB (SEL_DPLLd_STAT_SLEWING d) (pend != 0) (slewSet d pend s)

/-- SEL isolated or released: the slew in progress is taken into O_w and its term set for what follows (R206) -/
def slewHold (d : Nat) (s : State) : State :=
  let left := pendOf s d - slewMoved s d
  if pendOf s d = 0 then s else slewSet d left (modDpll d (fun x => { x with ow := owNow s d }) s)

/-! ### Learning (R197, R198) -/

/-- the determinant of a square matrix of integers, by expansion along its first row -/
def det : Nat → List (List Int) → Int
  | 0, _ => 1
  | n + 1, m =>
    match m with
    | [] => 1
    | row :: rest =>
      (List.range (n + 1)).foldl (fun acc j =>
        let minor := rest.map (fun r => r.take j ++ r.drop (j + 1))
        let t := row.getD j 0 * det n minor
        if j % 2 = 0 then acc + t else acc - t) 0

/-- column j of m replaced by b -/
def replaceCol (m : List (List Int)) (b : List Int) (j : Nat) : List (List Int) :=
  (m.zip b).map (fun p => p.1.take j ++ [p.2] ++ p.1.drop (j + 1))

/-- the result of a fit (R197): coefficients as integers of their fields, terms, residual -/
structure Fit where
  a0 : Int := 0
  a1 : Int := 0
  c1 : Int := 0
  c2 : Int := 0
  terms : Nat := 0
  res : Nat := 0
  tW : Int := 0
  thW : Int := 0
  deriving DecidableEq, Repr, Inhabited

def sumI (l : List Int) : Int := l.foldl (fun a b => a + b) 0
def minI (l : List Int) : Int := l.foldl (fun a b => if b < a then b else a) (l.headD 0)
def maxI (l : List Int) : Int := l.foldl (fun a b => if a < b then b else a) (l.headD 0)

/-- the least-squares fit of w against (1, Δt, Δθ, Δθ²) over the samples, normal equations in exact arithmetic; singular
equations leave the coefficients open (log entry 12) -/
def fitModel (smp : List MinSample) (free : Nat) : Fit :=
  let n := smp.length
  if n = 0 then {} else
  let tW := roundDiv (sumI (smp.map (fun x => x.t))) (n : Int)
  let thW := roundDiv (sumI (smp.map (fun x => x.th))) (n : Int)
  let ts := smp.map (fun x => x.t - tW)
  let hs := smp.map (fun x => x.th - thW)
  let ws := smp.map (fun x => x.w)
  let useA := decide ((6 * 3600 * secU : Int) ≤ maxI ts - minI ts)
  let use1 := decide (256 ≤ maxI hs - minI hs)
  let use2 := decide (1024 ≤ maxI hs - minI hs)
  let cols : List (List Int) := [ts.map (fun _ => 1)] ++ (if useA then [ts] else []) ++ (if use1 then [hs] else [])
    ++ (if use2 then [hs.map (fun h => h * h)] else [])
  let k := cols.length
  let dot (a b : List Int) : Int := sumI ((a.zip b).map (fun p => p.1 * p.2))
  let m := cols.map (fun a => cols.map (fun b => dot a b))
  let b := cols.map (fun a => dot a ws)
  let dm := det k m
  let c (j : Nat) : Int := det k (replaceCol m b j)
  let co (w j : Nat) (v : Int) : Int := if dm = 0 then sgn w (Config.freeNat (free + j)) else satS w v
  let i1 := 1
  let i2 := if useA then 2 else 1
  let i3 := i2 + 1
  let rss := dot ws ws * dm - sumI ((List.range k).map (fun j => c j * b.getD j 0))
  { a0 := co 48 0 (roundDiv (c 0) dm)
    a1 := if useA then co 32 1 (roundDiv (c i1 * ((3600 * 256 * secU : Nat) : Int)) dm) else 0
    c1 := if use1 then co 32 2 (roundDiv (c i2 * 256) dm) else 0
    c2 := if use2 then co 32 3 (roundDiv (c i3 * ((2 ^ 20 : Nat) : Int)) dm) else 0
    terms := 1 + (if useA then 2 else 0) + (if use1 then 4 else 0) + (if use2 then 8 else 0)
    res := if dm = 0 then Config.freeNat (free + 4) % 65536 else min 65535 (roundSqrtDiv rss.natAbs (dm.natAbs * n * 4096 * 4096))
    tW := tW, thW := thW }

/-- every sample of the buckets in the window -/
def windowSamples (s : State) (d : Nat) : List MinSample := ((ix s.dpll d).buckets.map (fun b => b.smp)).flatten

/-- MODEL_VALID judged (R197) -/
def modelValidEval (d : Nat) (s : State) : State :=
  let mn := clampN 1 1440 (rd s (SEL_DPLLd_MODCFG_MODEL_MIN d))
  putB (SEL_DPLLd_STAT_MODEL_VALID d)
    (decide (mn ≤ rd s (SEL_DPLLd_MSTAT_COUNT d)) && decide (rd s (SEL_DPLLd_MSTAT_RES d) ≤ rd s (SEL_DPLLd_MODCFG_RES_MAX d))
      && !on s (SEL_DPLLd_STAT_RESTORED d) && (ix s.dpll d).buckets != []) s

/-- the model fitted again over the window (R197) -/
def refit (d : Nat) (s : State) : State :=
  let smp := windowSamples s d
  let f := fitModel smp s.free
  let s := { s with free := s.free + 5 }
  let s := modDpll d (fun x => { x with tW := f.tW, mWas := some (cycleNow s, modelNow s d) }) s
  let a := uns 64 f.a0
  let s := s |> put (SEL_DPLLd_A0_LO_A0 d) a |> put (SEL_DPLLd_A0_HI_A0 d) (a / 2 ^ 32) |> putS (SEL_DPLLd_A1_A1 d) f.a1
    |> putS (SEL_DPLLd_C1_C1 d) f.c1 |> putS (SEL_DPLLd_C2_C2 d) f.c2 |> put (SEL_DPLLd_STAT_TERMS d) f.terms
    |> putS (SEL_DPLLd_MREF_THETA_W d) f.thW |> put (SEL_DPLLd_MSTAT_COUNT d) (min smp.length 1440)
    |> put (SEL_DPLLd_MSTAT_BUCKETS d) (ix s.dpll d).buckets.length |> put (SEL_DPLLd_MSTAT_RES d) f.res
  modelValidEval d s

/-- the conditions a minute needs, as they stand now (R197) -/
def minCond (s : State) (d : Nat) : Bool :=
  dpllState s d == 2 && on s (SEL_DPLLd_HOCFG_LEARN d) && !on s REF_SYSCLK_WARMING && !on s GEN_CLKSTAT_CORE_FROZEN
    && on s SEL_TEMP_VALID && decide (rdS s SEL_TEMP_T ≤ 32767) && !isolated s 6

/-- a new learning minute begun at now -/
def minStart (d : Nat) (s : State) : State := modDpll d (fun x => { x with minOk := minCond s d }) s

/-- w_avg is no longer valid: what it holds is a free value (R194, R206; log entry 143) -/
def avgDrop (d : Nat) (s : State) : State :=
  let v := Config.freeNat s.free
  modDpll d (fun x => { x with avgOk := false, wAvg := sgn 48 v, thAvg := sgn 18 (v / 2 ^ 48), hist := [] }) { s with free := s.free + 1 }

/-- the drift model dropped: buckets, coefficients, validity, the average (R190, R203 MODEL_CLR); a LOCKED DPLL gathers its average anew -/
def modelClear (d : Nat) (s : State) : State :=
  let s := avgDrop d (minBreak d (modDpll d (fun x => { x with buckets := [], open_ := [], openG := none, lockAt := s.now }) s))
  let s := put (SEL_DPLLd_STAT_RESTORED d) 0 s
  histPush d (showHoFreq d (put (SEL_DPLLd_STAT_MODEL_VALID d) 0 (put (SEL_DPLLd_STAT_TERMS d) 0 (refit d s))))

end Sys2Proof.Machine
end

