-- ==== Sys2Proof/Machine/TimeSet.lean ====
section
/-! DEFINITION. Time sets and jams (R238 to R241): the time of day moved, with what R38 and R240 make of it. -/

namespace Sys2Proof.Machine
open Sys2Proof.Reg

def modTkp (f : TkpS → TkpS) (s : State) : State := { s with tkp := f s.tkp }

/-- a time set or jam: the time of day moved by d (units of nsT); src 2 a set, 3 a jam (R240, R241). What grid time, AST and
SCH make of it follows at the end of the command (tkp.moved). -/
def timeJump (d : Int) (src : Nat) (s : State) : State :=
  let s := stepAll (now16 s) (roundDiv d (t16T : Int)) s
  let s := { s with tod := ((s.tod : Int) + d).toNat }
  let s := s |> put TKP_STAT_TIME_SET 1 |> put TKP_STAT_TIME_SRC src |> put TKP_EVT_SET 1
  let sec := roundDiv d ((secT : Nat) : Int)
  let s := forEach (List.range 2) (fun k s => modTodr k (fun x => { x with lblDelta := x.lblDelta - sec }) s) s
  unalign (timeDpll s) (modTkp (fun x => { x with moved := some (x.moved.getD 0 + d), lastErr := 0, disCnt := 0, disVal := 0 }) s)

/-- a written phase step of the time DPLL by p (2^-16 ns): a gap record when it goes back or is 1 s or more (R38) -/
def stepGap (d : Nat) (p : Int) (s : State) : State :=
  if d = timeDpll s && (decide (p < 0) || decide ((65536000000000 : Int) ≤ p)) then stepAll (now16 s) p s else s

/-! ### Slots that carry time (R172) -/

/-- the time-of-day receiver whose route names pin n (R110, R112) -/
def recvOf (s : State) (n : Nat) : Option Nat :=
  (List.range 2).find? (fun k => on s (REF_TODk_CFG_EN k) && !on s (REF_TODk_STAT_CFG_ERR k) && tabGet s.img.routes (0x120 + k) 255 == n)

/-- does slot i carry time: 16 to 21, 28 to 31, or a labelled pin (R172) -/
def carriesTime (s : State) (i : Nat) : Bool := isPtpSlot i || decide (28 ≤ i) || (decide (i < 16) && (recvOf s i).isSome)

/-- one second in 2^-16 ns -/
def sec16 : Int := 65536000000000

/-- E wrapped to [-0.5 s, 0.5 s) (R238) -/
def wrapSec (e : Int) : Int := (e + sec16 / 2) % sec16 - sec16 / 2

/-- the time error of a sample of slot i: a valid label adds its whole seconds (R238) -/
def timeError (s : State) (i : Nat) (phi : Int) : Int :=
  match (if i < 16 then recvOf s i else none) with
  | some k => if on s (REF_TODk_STAT_LBL_VALID k) then phi + (ix s.todr k).lblDelta * sec16 else phi
  | none => phi

/-- the jam of R238 when the time DPLL commits slot i with the prepare sample phi (2^-16 ns); a waiting SET_SEC is abandoned -/
def commitJam (i : Nat) (phi : Int) (s : State) : State :=
  if !carriesTime s i then s
  else
    let s := modTkp (fun x => { x with setSec := none, disCnt := 0, disVal := 0, lastErr := 0 }) s
    let s := put TKP_STAT_SEC_DIS 0 s
    if i = 30 then s
    else
      let e := timeError s i phi
      let f := wrapSec e
      let thr : Int := (orElse0 (rd s TKP_CFG_JAM_THR) 1 * 65536000 : Nat)
      let sub := match rd s TKP_CFG_JAM with
        | 1 => decide (thr ≤ (f.natAbs : Int)) && !on s TKP_STAT_TIME_SET
        | 2 => false
        | _ => decide (thr ≤ (f.natAbs : Int))
      let j := (e - f) + (if sub then f else 0)
      if j = 0 then s else timeJump (j * (t16T : Int)) 3 s

/-- a tracked sample of a time-carrying slot other than 30: its whole-second part is kept for R239 -/
def noteError (i : Nat) (phi : Int) (s : State) : State :=
  if carriesTime s i && i != 30 then
    let e := timeError s i phi
    modTkp (fun x => { x with lastErr := (e - wrapSec e) / sec16 }) s
  else s

end Sys2Proof.Machine
end

