-- ==== Sys2Proof/Machine/SelCore.lean ====
section
/-! DEFINITION. Selectors (R164 to R183): eligibility, target, disagreement, the stages of a switch, and the samples of a
slot on their way to the DPLLs (R186). -/

namespace Sys2Proof.Machine
open Sys2Proof.Reg

/-! ### Slots as SEL sees them (P-1) -/

def slotQualified (s : State) (i : Nat) : Bool := rd s (REF_SLOTs_STAT_STATE i) == 2
def effQl (s : State) (i : Nat) : Nat := rd s (REF_SLOTs_STAT_EFF_QL i)

/-- the block that produces slot i (R115) -/
def slotBlock (i : Nat) : Nat :=
  if i < 16 then 4 else if i < 28 then 12 else if i = 28 then 13 else if i = 30 then 9 else 8

/-- is the producing block of slot i isolated or in reset (R119) -/
def producerOut (s : State) (i : Nat) : Bool := isolated s (slotBlock i) || inReset s (slotBlock i)

def candMask (s : State) (d : Nat) : Nat := s.img.struct_.dpllCand.getD d 0

/-- eligibility (R164) -/
def eligible (s : State) (d i : Nat) : Bool :=
  bitAt (candMask s d) i && bitAt (rd s (SEL_SELd_MASK_EN d)) i && slotQualified s i
    && decide (effQl s i ≤ min 14 (rd s (SEL_SELd_CFG_QL_LIMIT d)))

/-- priority nibble of slot i (R178) -/
def slotPrio (s : State) (d i : Nat) : Nat := bitsOf (rd s (SEL_SELd_PRI_PRI d (i / 8))) (4 * (i % 8) + 3) (4 * (i % 8))

/-- the rank, as one number: EFF_QL first, priority second (R164) -/
def slotRank (s : State) (d i : Nat) : Nat := effQl s i * 16 + slotPrio s d i

def eligibles (s : State) (d : Nat) : List Nat := (List.range 32).filter (eligible s d)

/-- the least value of f over a list, 1000 for an empty one -/
def leastOf (f : Nat → Nat) (l : List Nat) : Nat := l.foldl (fun a i => min a (f i)) 1000

/-- the best set (R164) -/
def bestSet (s : State) (d : Nat) : List Nat :=
  let el := eligibles s d
  let b := leastOf (slotRank s d) el
  el.filter (fun i => slotRank s d i == b)

/-! ### Frequency estimates and disagreement (R175, R176) -/

/-- f_s and its validity (R175) -/
def slotFreq (s : State) (i : Nat) : Int × Bool :=
  if i < 16 then ((ix s.pin i).off, on s (REF_INn_STAT_FM_VALID i)) else ((ix s.est i).f, (ix s.est i).valid)

/-- the members of a set with a valid estimate -/
def withEst (s : State) (l : List Nat) : List Nat := l.filter (fun i => (slotFreq s i).2)

def freqGap (s : State) (a b : Nat) : Nat := ((slotFreq s a).1 - (slotFreq s b).1).natAbs

/-- the lowest pair a < b of a set whose estimates differ by more than lim -/
def pairBeyond (s : State) (l : List Nat) (lim : Nat) : Option (Nat × Nat) :=
  let v := withEst s l
  (v.flatMap (fun a => (v.filter (fun b => decide (a < b))).map (fun b => (a, b)))).find? (fun p => decide (lim < freqGap s p.1 p.2))

/-- the pair that makes a disagreement, with the hysteresis of R176 -/
def disPair (s : State) (d : Nat) : Option (Nat × Nat) :=
  let thr := rd s (SEL_SELd_DISCFG_THR d)
  if thr = 0 then none
  else if on s (SEL_SELd_STAT_DISAGREE d) then pairBeyond s (bestSet s d) ((thr - thr / 8) * 4096)
  else pairBeyond s (bestSet s d) (thr * 4096)

/-- the active slot, unless its input has been lost, in forced selection too (R165, R191) -/
def actAlive (s : State) (d : Nat) : Option Nat := if (ix s.sel d).lost then none else actSlot s d

/-- the third slot of R176 step 2 -/
def thirdSlot (s : State) (d : Nat) (best : List Nat) : Option Nat :=
  let l := (withEst s (eligibles s d)).filter (fun i => !best.contains i)
  let b := leastOf (slotRank s d) l
  l.find? (fun i => slotRank s d i == b)

/-- the members whose estimate is nearest to f -/
def nearest (s : State) (l : List Nat) (f : Int) : List Nat :=
  let dist (i : Nat) : Nat := ((slotFreq s i).1 - f).natAbs
  let lo := l.foldl (fun a i => min a (dist i)) (l.head?.elim 0 dist)
  l.filter (fun i => dist i == lo)

/-- the choice among disagreeing slots (R176): slot, rule, third slot -/
def disChoice (s : State) (d : Nat) (best : List Nat) : Option Nat × Nat × Option Nat :=
  let v := withEst s best
  match actAlive s d with
  | some a =>
    if best.contains a then (some a, 1, none)
    else
      match thirdSlot s d best with
      | some t => let n := nearest s v (slotFreq s t).1; (n.head?, if n.length = 1 then 2 else 4, some t)
      | none =>
        if on s (SEL_DPLLd_STAT_MODEL_VALID d) then
          let n := nearest s v (wModel s d s.now (tempNow s)); (n.head?, if n.length = 1 then 3 else 4, none)
        else (v.head?, 4, none)
  | none =>
    match thirdSlot s d best with
    | some t => let n := nearest s v (slotFreq s t).1; (n.head?, if n.length = 1 then 2 else 4, some t)
    | none =>
      if on s (SEL_DPLLd_STAT_MODEL_VALID d) then
        let n := nearest s v (wModel s d s.now (tempNow s)); (n.head?, if n.length = 1 then 3 else 4, none)
      else (v.head?, 4, none)

/-- the disagreement state brought up to date; a start is recorded and reported (R176, R177) -/
def disEval (d : Nat) (s : State) : State :=
  match disPair s d with
  | none => put (SEL_SELd_STAT_DISAGREE d) 0 s
  | some p =>
    if on s (SEL_SELd_STAT_DISAGREE d) then s
    else
      let c := disChoice s d (bestSet s d)
      s |> put (SEL_SELd_STAT_DISAGREE d) 1 |> put (SEL_SELd_DIS_SLOT_A d) p.1 |> put (SEL_SELd_DIS_SLOT_B d) p.2
        |> put (SEL_SELd_DIS_THIRD d) (c.2.2.getD 0) |> putB (SEL_SELd_DIS_THIRD_VALID d) c.2.2.isSome
        |> put (SEL_SELd_DIS_RULE d) c.2.1 |> put (SEL_SELd_EVT_DISAGREE d) 1 |> raise 22 (some d)

/-! ### The target (R165, R167) -/

def selMode (s : State) (d : Nat) : Nat := rd s (SEL_SELd_CFG_SELMODE d)
def manSlot (s : State) (d : Nat) : Nat := rd s (SEL_SELd_CFG_MAN_SLOT d)

/-- the automatic target (R165) -/
def autoTarget (s : State) (d : Nat) : Option Nat :=
  let el := eligibles s d
  let best := bestSet s d
  let pick : Option Nat := if decide (2 ≤ best.length) && on s (SEL_SELd_STAT_DISAGREE d) then (disChoice s d best).1 else best.head?
  match actAlive s d with
  | some a =>
    if el.contains a && !on s (SEL_SELd_CFG_REVERT d) && effQl s a == leastOf (effQl s) el then some a
    else if best.contains a then some a
    else pick
  | none => pick

/-- the target (R167) -/
def selTarget (s : State) (d : Nat) : Option Nat :=
  match selMode s d with
  | 0 => autoTarget s d
  | 1 => if eligible s d (manSlot s d) then some (manSlot s d) else autoTarget s d
  | 2 => some (manSlot s d)
  | _ => none

def selStage (s : State) (d : Nat) : Nat := rd s (SEL_SELd_STAT_STAGE d)
def inSwitch (s : State) (d : Nat) : Bool := selStage s d == 1 || selStage s d == 2

/-- selector d given something to compute when the command in progress ends, as SelS lists it (R166, log entry 144) -/
def selMark (d bits : Nat) (s : State) : State := modSel d (fun x => { x with due := x.due ||| bits }) s

/-- an input of selector d changed: it computes its target, and an abort's suppression ends (R166, R174) -/
def selEval (d : Nat) (s : State) : State := selMark d 3 s

/-- the present switch of selector d stands: no later computation of this core cycle goes back behind it -/
def selFix (d : Nat) (s : State) : State := { s with selWas := vset s.selWas d none }

/-- selector d as it stands, for a later command of the same core cycle (R180) -/
def selNow (s : State) (d bits : Nat) (aborted : Bool) : SelWas :=
  { cyc := cycleNow s, bits := bits, aborted := aborted, stage := selStage s d, pend := rd s (SEL_SELd_STAT_PEND_SLOT d)
    out := rd s (SEL_SELd_STAT_LAST_OUT d), why := rd s (SEL_SELd_STAT_LAST_WHY d), evBegin := rd s (SEL_SELd_EVT_BEGIN d)
    evAbandon := rd s (SEL_SELd_EVT_ABANDON d), was := ix s.sel d }

/-- an event bit back to v; where that is 0, nothing set it in this core cycle -/
def evtTo (f : Fld) (v : Nat) (s : State) : State := if v = 0 then cycMark f 0 (put f 0 s) else put f 1 s

/-- selector d back to where w has it: its stage, its timers and samples, what the last switch reports -/
def selBack (d : Nat) (w : SelWas) (s : State) : State :=
  let s := s |> put (SEL_SELd_STAT_STAGE d) w.stage |> put (SEL_SELd_STAT_PEND_SLOT d) w.pend |> put (SEL_SELd_STAT_LAST_OUT d) w.out
    |> put (SEL_SELd_STAT_LAST_WHY d) w.why |> evtTo (SEL_SELd_EVT_BEGIN d) w.evBegin |> evtTo (SEL_SELd_EVT_ABANDON d) w.evAbandon
  modSel d (fun x => { x with
    holdEnd := w.was.holdEnd, settleEnd := w.was.settleEnd, prepSum := w.was.prepSum, prepCnt := w.was.prepCnt, prepAt := w.was.prepAt
    noTarget := w.was.noTarget, outKnown := w.was.outKnown }) s

/-- BRIDGE: HOLDOVER with a switch in DECIDE or PREPARE (R191) -/
def bridgeEval (d : Nat) (s : State) : State := putB (SEL_DPLLd_STAT_BRIDGE d) (dpllState s d == 3 && inSwitch s d) s

/-- a switch or SETTLE ends: IDLE, no pending slot, timers off -/
def selIdle (d : Nat) (s : State) : State :=
  modSel d (fun x => { x with holdEnd := none, settleEnd := none }) (s |> put (SEL_SELd_STAT_STAGE d) 0 |> put (SEL_SELd_STAT_PEND_SLOT d) 0)

/-- a switch ends without commit, with its outcome (R178) -/
def selEnd (d code : Nat) (s : State) : State :=
  if inSwitch s d then selIdle d (s |> put (SEL_SELd_STAT_LAST_OUT d) code |> put (SEL_SELd_EVT_ABANDON d) 1) else s

/-- PREPARE starts (R169 step 4) -/
def toPrepare (d : Nat) (s : State) : State :=
  modSel d (fun x => { x with holdEnd := none, prepSum := 0, prepCnt := 0, prepAt := s.now }) (put (SEL_SELd_STAT_STAGE d) 2 s)

/-- the reason of a switch to slot t (R178, R182) -/
def selWhy (s : State) (d t : Nat) : Nat :=
  match actSlot s d with
  | none => (ix s.sel d).why0
  | some a =>
    if selMode s d = 2 then 5
    else if (ix s.sel d).lost then 1
    else if selMode s d = 1 && t == manSlot s d then 4
    else if effQl s t < effQl s a then 2 else 3

/-- a switch to slot t begins (R169 steps 1 to 3) -/
def selBegin (d t why : Nat) (noHold : Bool) (s : State) : State :=
  let s := s |> put (SEL_SELd_STAT_PEND_SLOT d) t |> put (SEL_SELd_STAT_LAST_WHY d) why |> put (SEL_SELd_EVT_BEGIN d) 1
  let s := modSel d (fun x => { x with outKnown := producerOut s t }) s
  let h := rd s (SEL_SELd_TIMERS_HOLDOFF d)
  if (why = 2 || why = 3) && !noHold && h != 0 then
    modSel d (fun x => { x with holdEnd := some (s.now + h * msU) }) (put (SEL_SELd_STAT_STAGE d) 1 s)
  else toPrepare d s

/-- the DPLL has no reference: the target is none (R169, R170) -/
def selNone (d : Nat) (s : State) : State :=
  let forced := selMode s d == 3
  let had := (ix s.sel d).tgt
  let ended := (actSlot s d).isSome || inSwitch s d || had
  let s := if inSwitch s d then selEnd d (if forced then 5 else 3) s else if selStage s d = 4 then selIdle d s else s
  let s := ptpStale s |> put (SEL_SELd_STAT_ACT_VALID d) 0 |> put (SEL_SELd_STAT_ACT_SLOT d) 0 |> put (SEL_SELd_STAT_ACT_QL d) 15
  let s := modSel d (fun x => { x with lost := false, noTarget := none, tgt := false, why0 := if ended then 6 else x.why0 }) s
  let s := inputLost d (selFix d s)
  bridgeEval d (if had && !forced then s |> put (SEL_SELd_EVT_NOREF d) 1 |> raise 21 (some d) else s)

/-- the forced slot is not QUALIFIED: reported once on each entry (R167) -/
def forcedEval (d : Nat) (s : State) : State :=
  let nq := selMode s d == 2 && !slotQualified s (manSlot s d)
  let s := if nq && !(ix s.sel d).forcedNq then raise 23 (some d) s else s
  modSel d (fun x => { x with forcedNq := nq }) s

/-- may the pending slot still become active (R171); in forced selection it may not once its producing block goes out -/
def pendOk (s : State) (d p : Nat) : Bool := if selMode s d = 2 then !producerOut s p || (ix s.sel d).outKnown else eligible s d p

/-- the input of the active slot judged in automatic and manual selection (R191) -/
def lossEval (d : Nat) (s : State) : State :=
  match actSlot s d with
  | some a =>
    if selMode s d != 2 && !(ix s.sel d).lost && !eligible s d a then
      inputLost d (modSel d (fun x => { x with lost := true }) s)
    else s
  | none => s

/-- ACT_QL follows the active slot's QL (R168) -/
def actQlEval (d : Nat) (s : State) : State :=
  match actSlot s d with
  | some a => if rd s (SEL_SELd_STAT_ACT_QL d) = effQl s a then s else ptpStale (put (SEL_SELd_STAT_ACT_QL d) (effQl s a) s)
  | none => if rd s (SEL_SELd_STAT_ACT_QL d) = 15 then s else ptpStale (put (SEL_SELd_STAT_ACT_QL d) 15 s)

/-- a switch to t where the rules let one begin: not to the slot already active (in forced selection even one whose input is lost, whose
samples may resume, R191, log entry 145), not held by the dwell period (R173), not suppressed by an abort (R174) -/
def selTry (d t : Nat) (noHold : Bool) (s : State) : State :=
  let why := selWhy s d t
  let held := why == 2 && !on s (SEL_SELd_CFG_REVERT d) && on s (SEL_SELd_STAT_DWELL_RUN d)
  let cur := if selMode s d = 2 then actSlot s d else actAlive s d
  if cur == some t || held || (ix s.sel d).noTarget == some t then s else selBegin d t why noHold s

/-- the outcome of a switch to p that the new target t ends (R178, R180): a write of SELMODE that changes the target, the loss of p by no
write of the selector, or a new target -/
def endCode (s : State) (d p t bits : Nat) : Nat :=
  if p = t then 3 else if bitAt bits 2 then 5 else if !pendOk s d p && !bitAt bits 3 then 3 else 2

/-- the selector of DPLL d computes its target (R166, R169, R171, R180); bits is what it was given -/
def selCompute (d bits : Nat) (s : State) : State :=
  let s := actQlEval d (forcedEval d (disEval d s))
  match selTarget s d with
  | none => selNone d s
  | some t =>
    let was := (ix s.sel d).lost
    let s := lossEval d (modSel d (fun x => { x with tgt := true, outKnown := x.outKnown && producerOut s (rd s (SEL_SELd_STAT_PEND_SLOT d)) }) s)
    let newLoss := (ix s.sel d).lost && !was
    let modeWr := bitAt bits 2
    let p := rd s (SEL_SELd_STAT_PEND_SLOT d)
    let s :=
      if inSwitch s d then
        if p = t && pendOk s d p then s else selTry d t modeWr (selEnd d (endCode s d p t bits) s)
      else if selStage s d = 4 then
        if newLoss || (modeWr && actSlot s d != some t) then selTry d t true (selIdle d s) else s
      else selTry d t false s
    bridgeEval d s

/-- what the command gave selector d to compute, together with what earlier commands of the same core cycle gave it: all of one cycle is one
computation (R180, R181); none while SEL is isolated or held in reset -/
def selRun (d : Nat) (s : State) : State :=
  let due := (ix s.sel d).due
  if due = 0 then s
  else
    let s := modSel d (fun x => { x with due := 0 }) s
    if isolated s 6 || !live s 6 then s
    else
      let again := match ix s.selWas d with
        | some w => if w.cyc = cycleNow s && !w.aborted then some w else none
        | none => none
      let bits := due ||| again.elim 0 (fun w => w.bits)
      let s := match again with
        | some w => selBack d w s
        | none => s
      let w := selNow s d bits false
      let s := modSel d (fun x => { x with noTarget := if bitAt bits 1 then none else x.noTarget }) s
      selCompute d bits { s with selWas := vset s.selWas d (some w) }

/-- slot i changed: every selector that has it as a candidate computes its target (R166) -/
def selSlotChanged (i : Nat) (s : State) : State :=
  forEach (List.range 8) (fun d s => if bitAt (candMask s d) i then selEval d s else s) s

/-- the producing block of slot i came to stand still or runs again: a forced selection of it is judged (R171) -/
def selProducer (i : Nat) (s : State) : State :=
  forEach (List.range 8) (fun d s => if selMode s d == 2 && manSlot s d == i then selMark d 1 s else s) s

/-! ### Commit, settle, dwell (R169, R172, R173) -/

/-- does the switch build out (R172) -/
def buildsOut (s : State) (d i : Nat) : Bool := on s (SEL_SELd_CFG_PBO d) && !(d == timeDpll s && carriesTime s i)

/-- the commit cycle: slot p becomes active with build-out b (R169 step 5, R172, R190); phi is the last prepare sample; no dwell period
runs for a revertive DPLL (R173) -/
def selCommit (d p : Nat) (b : Int) (pbo : Bool) (phi : Int) (s : State) : State :=
  let s := selFix d s
  let s := if d = timeDpll s then commitJam p phi s else s
  let s := ptpStale s |> put (SEL_SELd_STAT_ACT_SLOT d) p |> put (SEL_SELd_STAT_ACT_VALID d) 1 |> put (SEL_SELd_STAT_ACT_QL d) (effQl s p)
    |> put (SEL_SELd_STAT_LAST_OUT d) 1 |> put (SEL_SELd_EVT_COMMIT d) 1 |> putPairS (SEL_SELd_PBO_LO_B d) (SEL_SELd_PBO_HI_B d) b
  let s := modSel d (fun x => { x with lost := false, noTarget := none, why0 := 6, holdEnd := none }) s
  let s := modDpll d (fun x => { x with smpAt := s.now, gsum := 0, gcnt := 0, un := 0 }) s
  let s := put (SEL_DPLLd_STAT_LOCKCNT d) 0 s
  let s := if pbo && dpllState s d == 2 then s else toAcquiring d s
  let dw := if on s (SEL_SELd_CFG_REVERT d) then 0 else rd s (SEL_SELd_TIMERS_DWELL d)
  let s := if dw = 0 then modSel d (fun x => { x with dwellEnd := none }) (put (SEL_SELd_STAT_DWELL_RUN d) 0 s)
    else modSel d (fun x => { x with dwellEnd := some (s.now + dw * secU) }) (put (SEL_SELd_STAT_DWELL_RUN d) 1 s)
  let s := if d = timeDpll s then datOfSlot s else s
  let s := put (SEL_SELd_STAT_STAGE d) 4 s
  bridgeEval d (modSel d (fun x => { x with settleEnd := some (s.now + rd s (SEL_SELd_SWCFG_SETTLE d) * msU) }) s)

/-- SETTLE ends: IDLE, the SETTLED event, and the target again (R169 step 7, R166) -/
def settleEnd (d : Nat) (s : State) : State := selEval d (put (SEL_SELd_EVT_SETTLED d) 1 (selIdle d (selFix d s)))

/-- the dwell period ends (R173) -/
def dwellEnd (d : Nat) (s : State) : State :=
  selEval d (modSel d (fun x => { x with dwellEnd := none }) (put (SEL_SELd_STAT_DWELL_RUN d) 0 s))

/-! ### Samples (R186, R172) -/

/-- an accumulator phase against edges expected at whole multiples of num / den of nsT from 0: the nearest expected
instant less the phase, wrapped, in 2^-16 ns (R186) -/
def edgeDiff (a : Int) (num den : Nat) : Int :=
  let m := (-(a * (den : Int))) % (num : Int)
  let w := if (num : Int) ≤ 2 * m then m - num else m
  roundDiv w ((t16T * den : Nat) : Int)

/-- reference phase less accumulator phase of DPLL d for a sample of slot i now (R186); diff is source time less time of
day where the producer delivers it -/
def sampleOf (s : State) (d i : Nat) (diff : Int) : Int :=
  if i < 16 then edgeDiff (accOf s d) (64 * secT) (rd s (REF_INn_NOM_NOM i))
  else if decide (22 ≤ i) && decide (i ≤ 27) then edgeDiff (accOf s d) (125000 * nsT) 1
  else diff + roundDiv ((s.tod : Int) - accOf s d) ((t16T : Nat) : Int)

/-- how many samples a PREPARE of slot i collects (R172) -/
def prepNeed (s : State) (d i : Nat) : Nat := if buildsOut s d i then orElse0 (rd s (SEL_SELd_SWCFG_PREP d)) 1 else 1

/-- a prepare sample (R172): the last one of PREP commits -/
def prepSample (d i : Nat) (x : Int) (s : State) : State :=
  let pbo := buildsOut s d i
  let need := prepNeed s d i
  let sum := (ix s.sel d).prepSum + x + owNow s d
  let n := (ix s.sel d).prepCnt + 1
  if need ≤ n then selCommit d i (if pbo then roundDiv sum (n : Int) else 0) pbo x s
  else modSel d (fun y => { y with prepSum := sum, prepCnt := n, prepAt := s.now }) s

/-- this core cycle ended a PREPARE of slot i, for a new target or by CTL.ABORT, that this sample completes: the commit of the cycle wins
(R180) -/
def prepBack (d i : Nat) (s : State) : State :=
  match ix s.selWas d with
  | some w =>
    let ended := w.cyc == cycleNow s && w.stage == 2 && w.pend == i && !(selStage s d == 2 && rd s (SEL_SELd_STAT_PEND_SLOT d) == i)
      && (rd s (SEL_SELd_STAT_LAST_OUT d) == 2 || rd s (SEL_SELd_STAT_LAST_OUT d) == 4)
    if ended && decide (prepNeed s d i ≤ w.was.prepCnt + 1) then selBack d w s else s
  | none => s

/-- the sample of slot i at the phase detector of DPLL d: tracked while the slot is active and its input not lost, collected in PREPARE; a
slot that leaves eligibility in this core cycle is neither (R180, R202) -/
def dpllSample (d i : Nat) (diff : Int) (s : State) : State :=
  if isolated s 6 || !live s 6 then s
  else
    let s := prepBack d i s
    let x := sampleOf s d i diff
    let forced := selMode s d == 2
    let prep := selStage s d == 2 && rd s (SEL_SELd_STAT_PEND_SLOT d) == i && pendOk s d i
    let s :=
      if actSlot s d == some i && (forced || (!(ix s.sel d).lost && eligible s d i)) then
        let s := modSel d (fun y => { y with lost := false }) s
        let s := if forced && (dpllState s d == 0 || dpllState s d == 3) then bridgeEval d (toAcquiring d s) else s
        let s := if d = timeDpll s then noteError i x s else s
        trackSample d i (x - rdPair s (SEL_SELd_PBO_LO_B d) (SEL_SELd_PBO_HI_B d) + owNow s d
          + (if bitAt (rd s (SEL_SELd_PBO_HI_B d)) 31 then 2 ^ 64 else 0)) s
      else s
    if prep then prepSample d i x s else s

/-- 125 µs -/
def synceU : Nat := 125 * usU

/-- the source phase of a sample of slot i less device time, in units of it (R175): a SyncE edge is the whole number of 125 µs after the
one before it that is nearest to the time passed (log entry 146) -/
def estPhase (s : State) (i : Nat) (diff : Int) : Int :=
  if decide (22 ≤ i) && decide (i ≤ 27) then
    match (ix s.est i).smp with
    | [] => 0
    | p :: _ => p.2 + (roundDivN (s.now - p.1) synceU * synceU : Nat) - ((s.now - p.1 : Nat) : Int)
  else roundDiv (s.tod + diff * (t16T : Int)) ((2 ^ 48 : Nat) : Int) - s.now

/-- a sample kept for the frequency estimate of a valid slot 16 to 31, as long as the longest window can need it (R175) -/
def estSample (i : Nat) (diff : Int) (s : State) : State :=
  if decide (16 ≤ i) && on s (REF_SLOTs_STAT_VALID i) then
    let y := estPhase s i diff
    modEst i (fun e => { e with smp := (s.now, y) :: e.smp.filter (fun p => decide (s.now ≤ p.1 + 1024 * secU)) }) s
  else s

/-- a sample of slot i reaches every phase detector (R186) -/
def slotSample (i : Nat) (diff : Int) (s : State) : State :=
  forEach (List.range 8) (fun d s => dpllSample d i diff s) (estSample i diff s)

/-- the least-squares slope of y against time over samples, in 2^-48; none for fewer than two (R175) -/
def slopeOf (l : List (Nat × Int)) : Option Int :=
  match l with
  | [] => none
  | [_] => none
  | p0 :: _ =>
    let xs := l.map (fun p => (p.1 : Int) - p0.1)
    let ys := l.map (fun p => p.2 - p0.2)
    let n : Int := l.length
    let den := n * sumI (xs.map (fun a => a * a)) - sumI xs * sumI xs
    if den = 0 then none
    else some (satS 48 (roundDiv ((n * sumI ((xs.zip ys).map (fun q => q.1 * q.2)) - sumI xs * sumI ys) * 2 ^ 48) den))

/-- the estimate of slot i, 16 to 31, brought up to date (R175): valid once a full window has passed in unbroken validity; samples that fix
no slope leave its value free (log entry 146) -/
def estUpdate (i : Nat) (s : State) : State :=
  let e := ix s.est i
  let win := 2 ^ min 10 (rd s SEL_FEST_CFG_WIN) * secU
  let full := e.since.elim false (fun t0 => decide (t0 + win ≤ s.now))
  if !full then modEst i (fun e => { e with valid := false }) s
  else
    match slopeOf (e.smp.filter (fun p => decide (s.now ≤ p.1 + win))) with
    | some f => modEst i (fun e => { e with f := f, valid := true }) s
    | none => modEst i (fun e => { e with f := sgn 48 (Config.freeNat s.free), valid := true }) { s with free := s.free + 1 }

/-- has the disagreement state of selector d changed (R176) -/
def disChanged (s : State) (d : Nat) : Bool := (disPair s d).isSome != on s (SEL_SELd_STAT_DISAGREE d)

/-- disagreement judged again with the estimates as they stand; a selector where it changes computes its target (R166, R176) -/
def estJudge (s : State) : State := forEach (List.range 8) (fun d s => if disChanged s d then selEval d s else s) s

/-- the estimates updated and disagreement judged again (R175, R176) -/
def estAll (s : State) : State := estJudge (forEach ((List.range 16).map (fun j => 16 + j)) estUpdate s)

/-! ### Resets and isolation (R181, R206) -/

/-- the active slot of DPLL d dropped, the next switch carrying why -/
def dropActive (d why : Nat) (s : State) : State :=
  let s := ptpStale s |> put (SEL_SELd_STAT_ACT_VALID d) 0 |> put (SEL_SELd_STAT_ACT_SLOT d) 0 |> put (SEL_SELd_STAT_ACT_QL d) 15
  modSel d (fun x => { x with lost := false, noTarget := none, why0 := why }) s

/-- SEL isolated: switches end with outcome 6; DPLLs enter HOLDOVER or FREERUN; the word of a holdover is computed once, without a slew, and
then stands; the sanity check stops (R181, R206) -/
def selIsolate (s : State) : State :=
  forEach (List.range 8) (fun d s =>
    let s := slewHold d (selIdle d (selEnd d 6 (selFix d s)))
    let s := if dpllState s d = 0 then s
      else if dpllState s d = 3 then
        showHoFreq d (put (SEL_DPLLd_STAT_SANITY_ACT d) 0 (holdoverUpdate d (hoUses s d) s))
      else inputLost d s
    bridgeEval d (minBreak d s)) s

/-- SEL released from isolation: no active slot, the first switch with reason 7 (R181); slews go on -/
def selRelease (s : State) : State := forEach (List.range 8) (fun d s => selEval d (dropActive d 7 (slewHold d s))) s

/-- a SEL block reset (R181, R206) -/
def selBlockReset (s : State) : State :=
  let s := forEach ((List.range 16).map (fun j => 16 + j)) (fun i s =>
    modEst i (fun e => { valid := false, f := 0, smp := [], since := e.since.map (fun _ => s.now) }) s) s
  forEach (List.range 8) (fun d s =>
    let s := restartInteg d (selIdle d (selEnd d 6 (selFix d s)))
    let keep := match actSlot s d with
      | some a => eligible s d a
      | none => false
    let s := if keep then toAcquiring d (modSel d (fun x => { x with lost := false }) s) else toFreerun d (dropActive d 7 s)
    bridgeEval d (showHoFreq d (avgDrop d (minBreak d s)))) s

/-- an L1 reset: every selector with no active slot; a DPLL keeps its average and its word, a DPLL in HOLDOVER stays in it; LOCKED is left as the
reset begins, so that the reset has cleared its event; the open hour bucket is discarded (R181, R206) -/
def selL1 (s : State) : State :=
  forEach (List.range 8) (fun d s =>
    let s := modSel d (fun _ => { why0 := 7 }) (selFix d s)
    let s := if dpllState s d = 2 then ptpStale (put (SEL_DPLLd_STAT_STATE d) 1 (avgUpdate d s)) else s
    modDpll d (fun x => { x with open_ := [], openG := none, slots := 0, minOk := false, un := 0, gsum := 0, gcnt := 0, slew := 0 }) s) s

/-- the release of an L1 reset: HOLDOVER or FREERUN (R206); the holdover source follows HO_DLY as the image will set it -/
def dpllL1 (d : Nat) (s : State) : State :=
  if dpllState s d = 3 then s
  else if (ix s.dpll d).avgEver then put (SEL_DPLLd_HOCFG_HO_DLY d) 0 (enterHoldover d (put (SEL_DPLLd_HOCFG_HO_DLY d) 1 s))
  else toFreerun d s

end Sys2Proof.Machine
end

