-- ==== Sys2Proof/Machine/Ref.lean ====
section
/-! DEFINITION. REF operations: input monitors (R94 to R105), the oven-compatible warm-up (R108), NMEA labels (R110 to
R114), advertised QL and slot qualification (R115 to R123). -/

namespace Sys2Proof.Machine
open Sys2Proof.Reg

/-! ### Slots (R115, R119, R120) -/

/-- advertised QL (R113, R115) -/
def advQl (s : State) (i : Nat) : Nat :=
  if i < 16 then
    match recvOf s i with
    | some k =>
      if !on s (REF_TODk_STAT_LBL_VALID k) then rd s (REF_TODk_CFG_QL_NOLABEL k)
      else if rd s (REF_TODk_CFG_SRC k) = 1 then rd s (REF_TODk_CFG_QL_VALID k)
      else match rd s (REF_TODk_STAT_FIX k) with
        | 1 => rd s (REF_TODk_CFG_QL_VALID k)
        | 2 => rd s (REF_TODk_CFG_QL_EST k)
        | _ => 15
    | none => rd s (REF_INn_CFG_QL i)
  else if i = 30 then 12 else if i = 31 then 13 else (ix s.slot i).srcQl

/-- validity (R115) -/
def slotValid (s : State) (i : Nat) : Bool :=
  if i < 16 then
    on s (REF_INn_CFG_EN i) && !on s (REF_INn_STAT_CFG_ERR i) && on s (REF_INn_STAT_ACT_OK i) && on s (REF_INn_STAT_FM_OK i)
      && (on s (REF_INn_STAT_FM_VALID i) || rd s (REF_INn_FM_THR i) == 0)
  else (ix s.slot i).srcOk

/-- effective QL (R120) -/
def effQlOf (s : State) (i : Nat) : Nat :=
  if rd s (REF_SLOTs_STAT_STATE i) != 2 then 15
  else if rd s (REF_SLOTs_CFG_OVR i) = 1 then rd s (REF_SLOTs_CFG_OVR_QL i)
  else advQl s i

/-- the status of slot i published: QLs, VALID, QLSUM, QEVT, and SEL informed of a change (R122, R123, R166); was and wasQl
are STATE and EFF_QL before -/
def slotPublish (i was wasQl : Nat) (s : State) : State :=
  let e := effQlOf s i
  let st := rd s (REF_SLOTs_STAT_STATE i)
  let s := s |> put (REF_SLOTs_STAT_ADV_QL i) (advQl s i) |> put (REF_SLOTs_STAT_EFF_QL i) e |> putB (REF_SLOTs_STAT_VALID i) (slotValid s i)
  let s := if st = 2 && decide (e < 15) then putBit REF_QLSUM_USABLE i s else clearBit REF_QLSUM_USABLE i s
  if (was == 2) != (st == 2) || wasQl != e then selSlotChanged i (putBit REF_QEVT_CHANGE i s) else s

/-- slot i leaves QUALIFYING or QUALIFIED (R119) -/
def slotDrop (i : Nat) (s : State) : State :=
  let was := rd s (REF_SLOTs_STAT_STATE i)
  let e := effQl s i
  slotPublish i was e (modSlot i (fun x => { x with qualEnd := none }) (s |> put (REF_SLOTs_STAT_STATE i) 0 |> put (REF_SLOTs_STAT_REMAIN i) 0))

/-- may slot i qualify: valid, not forced off, its producer in service (R119) -/
def slotMay (s : State) (i : Nat) : Bool :=
  slotValid s i && rd s (REF_SLOTs_CFG_OVR i) != 2 && !producerOut s i && s.img.applied && !seqHeld s

/-- the state machine of slot i judged now (R119); with QUAL_TIME 0 it qualifies one core cycle later -/
def slotEval (i : Nat) (s : State) : State :=
  if 32 ≤ i then s else
  let st := rd s (REF_SLOTs_STAT_STATE i)
  let e := effQl s i
  if !slotMay s i then (if st = 0 then slotPublish i st e s else slotDrop i s)
  else if st = 0 then
    let q := rd s (REF_SLOTs_CFG_QUAL_TIME i)
    let d := if q = 0 then cycU else q * 10 * msU
    slotPublish i st e (modSlot i (fun x => { x with qualEnd := some (s.now + d) }) (put (REF_SLOTs_STAT_STATE i) 1 s))
  else slotPublish i st e s

/-- REMAIN reaches 0 (R119) -/
def slotQualify (i : Nat) (s : State) : State :=
  let st := rd s (REF_SLOTs_STAT_STATE i)
  if st = 1 && slotMay s i then
    slotPublish i st (effQl s i) (modSlot i (fun x => { x with qualEnd := none }) (put (REF_SLOTs_STAT_STATE i) 2 s))
  else slotEval i s

/-- a producer gives slot i its validity and advertised QL (R115); the frequency estimate runs while it is valid (R175) -/
def setSrc (i : Nat) (ok : Bool) (ql : Nat) (s : State) : State :=
  let was := (ix s.slot i).srcOk
  let s := modSlot i (fun x => { x with srcOk := ok, srcQl := ql }) s
  let s := if was == ok then s
    else modEst i (fun _ => { since := if ok then some s.now else none }) s
  slotEval i s

/-- a producer gives slot i its validity, its QL as it stands -/
def setSrcOk (i : Nat) (ok : Bool) (s : State) : State := setSrc i ok (ix s.slot i).srcQl s

/-- every slot of block b judged again: it enters or leaves isolation or reset (R29, R119) -/
def slotsOfBlock (b : Nat) (s : State) : State :=
  forEach ((List.range 32).filter (fun i => slotBlock i == b)) (fun i s => selProducer i (slotEval i s)) s

/-! ### Input monitors (R97 to R104) -/

/-- the clock limit of input n's standard in Hz (R94) -/
def inLimit (s : State) (n : Nat) : Nat :=
  let c := tabGet s.img.iostd (512 + n) 3
  if c = 1 || c = 2 then 250000000 else 1250000000

/-- a configuration error of input n (R97) -/
def pinErr (s : State) (n : Nat) : Bool :=
  let nom := rd s (REF_INn_NOM_NOM n)
  decide (nom < 64) || decide (3200000000 < nom) || decide (inLimit s n * 64 < nom * (rd s (REF_INn_CFG_DIV n) + 1))
    || rd s (REF_INn_ACT_TOL n) == 0 || decide (rd s (REF_INn_ACT_SET n) ≤ rd s (REF_INn_ACT_CLR n)) || rd s (REF_INn_ACT_LEAK n) == 0

/-- the monitors of input n start (R100), or stand still while EN = 0 or in configuration error; the falls of ACT_OK and FM_OK are
recorded (R105), and a frequency result of the same core cycle is discarded (R127) -/
def pinStart (n : Nat) (s : State) : State :=
  let run := on s (REF_INn_CFG_EN n) && !on s (REF_INn_STAT_CFG_ERR n) && live s 4
  let fm := run && rd s (REF_INn_FM_THR n) == 0
  let s := if on s (REF_INn_STAT_ACT_OK n) then put (REF_INn_STAT_ACT_FAIL n) 1 s else s
  let s := if on s (REF_INn_STAT_FM_OK n) && !fm then put (REF_INn_STAT_FM_FAIL n) 1 s else s
  let s := s |> put (REF_INn_FOFF_LO_O n) (cycWas s (REF_INn_FOFF_LO_O n)) |> put (REF_INn_FOFF_HI_O n) (cycWas s (REF_INn_FOFF_HI_O n))
  let s := modPin n (fun x => { run := run, off := x.off }) s
  let s := s |> put (REF_INn_STAT_FM_VALID n) 0 |> put (REF_INn_STAT_WARM n) 0 |> put (REF_INn_STAT_OVERSPEED n) 0
    |> put (REF_INn_STAT_ACT_OK n) 0 |> putB (REF_INn_STAT_FM_OK n) fm
  let s := if run then put (REF_INn_STAT_BUCKET n) (rd s (REF_INn_ACT_SET n)) s else s
  slotEval n s

/-- CFG_ERR of input n judged; a change restarts its monitors, a rise raises source 10 (R97, R125) -/
def pinErrEval (n : Nat) (s : State) : State :=
  let e := s.img.applied && pinErr s n
  if e == on s (REF_INn_STAT_CFG_ERR n) then s
  else
    let s := putB (REF_INn_STAT_CFG_ERR n) e s
    pinStart n (if e then raise 10 (some n) s else s)

/-- (1 + τ)T and T of input n in units, rounded up (R99, R100) -/
def pinLong (s : State) (n : Nat) : Nat := ceilDiv ((256 + rd s (REF_INn_ACT_TOL n)) * 64 * secU) (256 * rd s (REF_INn_NOM_NOM n))
def pinT (s : State) (n : Nat) : Nat := ceilDiv (64 * secU) (rd s (REF_INn_NOM_NOM n))

/-- k events add to BUCKET and restart the count of good intervals (R100) -/
def pinEvents (n k : Nat) (s : State) : State :=
  let s := put (REF_INn_STAT_BUCKET n) (min (rd s (REF_INn_ACT_SET n)) (rd s (REF_INn_STAT_BUCKET n) + k)) s
  modPin n (fun x => { x with good := 0 }) s

/-- ACT_OK follows BUCKET (R100) -/
def pinActOk (n : Nat) (s : State) : State :=
  let b := rd s (REF_INn_STAT_BUCKET n)
  let was := on s (REF_INn_STAT_ACT_OK n)
  let ok := if on s (REF_INn_STAT_OVERSPEED n) || decide (rd s (REF_INn_ACT_SET n) ≤ b) then false
    else if b ≤ rd s (REF_INn_ACT_CLR n) then true else was
  let s := putB (REF_INn_STAT_ACT_OK n) ok s
  if was && !ok then put (REF_INn_STAT_ACT_FAIL n) 1 s else s

/-- missing-edge events due strictly before now (R100) -/
def pinMissed (s : State) (n : Nat) : Nat :=
  let x := ix s.pin n
  if x.last.isSome && decide (x.miss < s.now) then 1 + (s.now - x.miss - 1) / pinT s n else 0

/-- an interval closed by a divided edge, classified (R100) -/
def pinInterval (n : Nat) (s : State) : State :=
  match (ix s.pin n).last with
  | none => s
  | some l =>
    let i := s.now - l
    let t := rd s (REF_INn_ACT_TOL n)
    let lhs := i * rd s (REF_INn_NOM_NOM n) * 256
    let s := if i < 10 * nsU then put (REF_INn_STAT_OVERSPEED n) 1 s else s
    if lhs < (256 - t) * 64 * secU then pinEvents n 1 s
    else if lhs ≤ (256 + t) * 64 * secU then
      let g := (ix s.pin n).good + 1
      let s := modPin n (fun x => { x with good := g }) s
      if g % orElse0 (rd s (REF_INn_ACT_LEAK n)) 1 = 0 then put (REF_INn_STAT_BUCKET n) (rd s (REF_INn_STAT_BUCKET n) - 1) s else s
    else pinEvents n (pinMissed s n) s

/-- the frequency offset of e edges over d units at NOM (R102) -/
def freqOffset (e d nom : Nat) : Int :=
  let den : Int := (roundDivN d 20 * nom : Nat)
  satS 48 (roundDiv ((((e - 1) * 64 * 1000000000 * 65536 : Nat) : Int) * 2 ^ 48 - den * 2 ^ 48) den)

/-- FM_OK after a result r (R102) -/
def pinFmOk (n : Nat) (r : Int) (s : State) : State :=
  let thr := rd s (REF_INn_FM_THR n)
  let k := if on s REF_SYSCLK_WARMING then 16 else 1
  let was := on s (REF_INn_STAT_FM_OK n)
  let ok := if thr = 0 then true
    else if thr * 4096 * k < r.natAbs then false
    else if r.natAbs ≤ (thr - thr / 8) * 4096 * k then true else was
  let s := putB (REF_INn_STAT_FM_OK n) ok s
  if was && !ok then put (REF_INn_STAT_FM_FAIL n) 1 s else s

/-- the frequency monitor at a divided edge (R102) -/
def pinFreq (n : Nat) (s : State) : State :=
  let x := ix s.pin n
  match x.fm0 with
  | none => modPin n (fun x => { x with fm0 := some s.now, fmE := 1 }) s
  | some t0 =>
    if s.now - t0 < 2 ^ rd s (REF_INn_FM_GATE n) * msU then modPin n (fun x => { x with fmE := x.fmE + 1 }) s
    else
      let o := freqOffset (x.fmE + 1) (s.now - t0) (rd s (REF_INn_NOM_NOM n))
      let w := wordOf s (timeDpll s)
      let r := if on s (REF_INn_FM_BASE n) then satS 48 (roundDiv ((o - w) * 2 ^ 48) (2 ^ 48 + w)) else o
      let first := !on s (REF_INn_STAT_FM_VALID n)
      let s := modPin n (fun x => { x with off := o, fm0 := some s.now, fmE := 1, ph0 := if first then some s.now else x.ph0,
                                           phN := if first then 0 else x.phN }) s
      let s := s |> put (REF_INn_STAT_FM_VALID n) 1 |> putB (REF_INn_STAT_WARM n) (on s REF_SYSCLK_WARMING)
        |> putPairS (REF_INn_FOFF_LO_O n) (REF_INn_FOFF_HI_O n) r
      pinFmOk n r s

/-- does an observed interval of d units differ from I_e by more than the threshold (R104) -/
def phaseHit (s : State) (n d : Nat) : Bool :=
  let o := (ix s.pin n).off
  let nom : Int := rd s (REF_INn_NOM_NOM n)
  let thr := rd s (REF_INn_PH_THR n)
  let im : Int := roundDivN d 20
  let base : Int := 2 ^ 48 + o
  let ie : Int := ((rd s (REF_INn_PH_DEC n) + 1) * 64 * 65536 * 1000000000 * 2 ^ 48 : Nat)
  thr != 0 && decide (((thr * 65536 : Nat) : Int) * nom * base < (im * nom * base - ie).natAbs)

/-- the phase-hit monitor at a divided edge (R104) -/
def pinPhase (n : Nat) (s : State) : State :=
  match (ix s.pin n).ph0 with
  | none => s
  | some t0 =>
    if t0 = s.now then s
    else if (ix s.pin n).phN + 1 < rd s (REF_INn_PH_DEC n) + 1 then modPin n (fun x => { x with phN := x.phN + 1 }) s
    else
      let hit := phaseHit s n (s.now - t0)
      let s := modPin n (fun x => { x with ph0 := some s.now, phN := 0 }) s
      if hit then
        let s := put (REF_INn_STAT_PH_HIT n) 1 s
        if rd s (REF_SLOTs_STAT_STATE n) = 0 then s else slotDrop n s
      else s

/-! ### Time-of-day receivers (R110 to R113) -/

/-- the seconds of one label, doubled, with 1 for 23:59:60 (which shares the count of the midnight after it) -/
def labelSec (l : Nat) : Nat := l / 2

/-- does label b follow label a by n pulses; a second inserted or deleted at the end of 30 June or 31 December counts as
consistent (R112) -/
def labelFollows (a b n : Nat) : Bool :=
  let x := labelSec a
  let y := labelSec b
  let m := y / 86400 * 86400
  let edge := (civilOfDay (y / 86400)).2.2 == 1 && ((civilOfDay (y / 86400)).2.1 == 1 || (civilOfDay (y / 86400)).2.1 == 7)
  let crosses := edge && decide (x < m)
  let afterLeap := a % 2 == 1
  if b % 2 = 1 then y == x + n
  else if afterLeap then y + 1 == x + n
  else y == x + n || (crosses && (y + 1 == x + n || y == x + n + 1))

/-- a label of the time DPLL's slot that shows a leap while none is pending executes it: 23:59:60 as an insertion at the end of that
second, a step over 23:59:59 on the last day of a month as a deletion at once (R245); a is the label n pulses before, valid whether
LBL_VALID was 1 before this label -/
def labelLeap (k a n l : Nat) (valid : Bool) (s : State) : State :=
  if on s TKP_STAT_LEAP_PEND || s.tkp.latched.isSome || !valid
      || actSlot s (timeDpll s) != some (tabGet s.img.routes (0x120 + k) 255) then s
  else if l % 2 = 1 then latchLeap (labelSec l) (s |> put TKP_STAT_LEAP_PEND 1 |> put TKP_STAT_LEAP_DEL 0)
  else if a % 2 = 0 && labelSec l = labelSec a + n + 1 && labelSec a < labelSec l / 86400 * 86400 && (civilOfDay (labelSec l / 86400)).2.2 = 1 then executeLeap (put TKP_STAT_LEAP_DEL 1 s)
  else s

/-- the pulse of receiver k that a label names: consistency, CONSEC, LBL_VALID, the label registers, the timeout (R112);
what TKP makes of the label is lblDelta (R238). An inconsistent label leaves LBL_VALID 0 even where CONF is 1 (DESIGN CHOICE, log entry
141) -/
def acceptLabel (k l : Nat) (s : State) : State :=
  let x := ix s.todr k
  match x.pulseAt with
  | none => s
  | some t =>
    let ok := match x.prev with
      | some a => labelFollows a l x.pulses
      | none => true
    let valid := on s (REF_TODk_STAT_LBL_VALID k)
    let s := if ok && x.prev.isSome then bump (REF_TODk_STAT_CONSEC k) s else put (REF_TODk_STAT_CONSEC k) 1 s
    let s := if ok then s else s |> put (REF_TODk_STAT_LBL_VALID k) 0 |> bump (REF_TODk_STAT_ERRCNT k)
    let s := if ok && decide (rd s (REF_TODk_CFG_CONF k) ≤ rd s (REF_TODk_STAT_CONSEC k)) then put (REF_TODk_STAT_LBL_VALID k) 1 s else s
    let s := match x.prev with
      | some a => labelLeap k a x.pulses l (valid || on s (REF_TODk_STAT_LBL_VALID k)) s
      | none => s
    let day := if l % 2 = 1 then labelSec l / 86400 - 1 else labelSec l / 86400
    let c := civilOfDay day
    let sec := if l % 2 = 1 then 86400 else labelSec l % 86400
    let s := s |> put (REF_TODk_LBL_DATE_YEAR k) c.1 |> put (REF_TODk_LBL_DATE_MONTH k) c.2.1 |> put (REF_TODk_LBL_DATE_DAY k) c.2.2
      |> put (REF_TODk_LBL_TIME_HOUR k) (if sec = 86400 then 23 else sec / 3600)
      |> put (REF_TODk_LBL_TIME_MIN k) (if sec = 86400 then 59 else sec / 60 % 60)
      |> put (REF_TODk_LBL_TIME_SEC k) (if sec = 86400 then 60 else sec % 60)
    let delta : Int := ((labelSec l + deltaAT s : Nat) : Int) - roundDivN (todAt s t) secT
    modTodr k (fun x => { x with prev := some l, pulses := 0, lblDelta := delta,
                                 labelEnd := some (t + rd s (REF_TODk_CFG_TIMEOUT k) * secU) }) s

/-- a missing-edge event of input n, its time reached (R100) -/
def pinMiss (n : Nat) (s : State) : State :=
  if (ix s.pin n).run && (ix s.pin n).last.isSome then
    let s := pinActOk n (pinEvents n 1 s)
    slotEval n (modPin n (fun x => { x with miss := x.miss + pinT s n }) s)
  else s

/-! NMEA sentences (R111). The field layout of ZDA and RMC is NMEA 0183's. -/

/-- a list split at the commas -/
def splitComma : List Byte → List (List Byte)
  | [] => [[]]
  | b :: r =>
    if b == asciiOf ',' then [] :: splitComma r
    else match splitComma r with
      | [] => [[b]]
      | h :: t => (b :: h) :: t

/-- the number a list of decimal digits spells -/
def decOf : List Byte → Option Nat
  | [] => none
  | l => if l.all (fun b => decide (48 ≤ b.toNat) && decide (b.toNat ≤ 57)) then some (l.foldl (fun a b => a * 10 + (b.toNat - 48)) 0) else none

/-- the value of a hexadecimal digit -/
def hexOf (b : Byte) : Option Nat :=
  let v := b.toNat
  if 48 ≤ v && v ≤ 57 then some (v - 48) else if 65 ≤ v && v ≤ 70 then some (v - 55) else if 97 ≤ v && v ≤ 102 then some (v - 87) else none

/-- hhmmss with an optional fraction of zeros: seconds of the day, 86400 for 23:59:60 -/
def timeField (f : List Byte) : Option Nat :=
  let frac := f.drop 6
  let fracOk := frac.isEmpty || (frac.head? == some (asciiOf '.') && frac.tail.all (fun b => b == asciiOf '0'))
  match decOf (f.take 2), decOf ((f.drop 2).take 2), decOf ((f.drop 4).take 2) with
  | some h, some m, some c =>
    if f.length < 6 || !fracOk || 23 < h || 59 < m then none
    else if c ≤ 59 then some (h * 3600 + m * 60 + c)
    else if c = 60 && h = 23 && m = 59 then some 86400 else none
  | _, _, _ => none

/-- a label of year, month, day and second of the day, as labels are kept; none for an impossible or missing date, or for a second 60
other than at 23:59 on the last day of a month: such a sentence is rejected and counted (DESIGN CHOICE, log entry 140) -/
def labelOf (y m d sec : Nat) : Option Nat :=
  if m = 0 || 12 < m || d = 0 || monthDays y m < d || y < 1970 then none
  else
    let z := dayOfCivil y m d
    if sec = 86400 then (if d = monthDays y m then some (((z + 1) * 86400) * 2 + 1) else none)
    else some ((z * 86400 + sec) * 2)

/-- what a sentence says: a ZDA label, or an RMC label with FIX code -/
inductive Sentence where
  | zda (l : Nat)
  | rmc (l fix : Nat)
  deriving DecidableEq, Repr

/-- FIX code of an RMC's status and mode, in the order of precedence of R113 -/
def fixOf (status mode : List Byte) : Nat :=
  let good := ['A', 'D', 'F', 'P', 'R'].map (fun c => [asciiOf c])
  if status == [asciiOf 'A'] && (mode.isEmpty || good.contains mode) then 1
  else if mode == [asciiOf 'E'] then 2 else 3

/-- a sentence accepted by R111, none for a rejected one -/
def parseNmea (l : List Byte) : Option Sentence :=
  let n := l.length
  let body := (l.drop 1).take (n - 6)
  let tail := l.drop (n - 5)
  let sum := match tail with
    | [star, h, o, cr, lf] =>
      if star == asciiOf '*' && cr == 13 && lf == 10 then
        match hexOf h, hexOf o with
        | some a, some b => some (16 * a + b)
        | _, _ => none
      else none
    | _ => none
  let f := splitComma body
  let field (i : Nat) : List Byte := f.getD i []
  if 82 < n || n < 12 || l.head? != some (asciiOf '$') || sum != some (nmeaSum body).toNat then none
  else
    match timeField (field 1) with
    | none => none
    | some sec =>
      if (field 0).length = 5 && (field 0).drop 2 == text "ZDA" then
        match decOf (field 2), decOf (field 3), decOf (field 4) with
        | some d, some m, some y => (labelOf y m d sec).map Sentence.zda
        | _, _, _ => none
      else if (field 0).length = 5 && (field 0).drop 2 == text "RMC" then
        match decOf ((field 9).take 2), decOf (((field 9).drop 2).take 2), decOf ((field 9).drop 4) with
        | some d, some m, some y => if (field 9).length = 6 then (labelOf (2000 + y) m d sec).map (fun x => Sentence.rmc x (fixOf (field 2) (field 12))) else none
        | _, _, _ => none
      else none

/-- the label of receiver k's pulse: before the sentence (SENSE 0) or the next one (SENSE 1), within 990 ms (R112) -/
def giveLabel (k l : Nat) (s : State) : State :=
  let x := ix s.todr k
  match x.pulseAt with
  | none => s
  | some t =>
    if t + 990 * msU < s.now then s
    else if on s (REF_TODk_CFG_SENSE k) then modTodr k (fun x => { x with next := some l }) s
    else if x.pulses = 0 && x.prev.isSome then s
    else acceptLabel k l s

/-- the label timeout of receiver k: it clears LBL_VALID and CONSEC (R112) -/
def labelOut (k : Nat) (s : State) : State :=
  modTodr k (fun x => { x with labelEnd := none }) (s |> put (REF_TODk_STAT_LBL_VALID k) 0 |> put (REF_TODk_STAT_CONSEC k) 0)

/-- a timeout whose core cycle has come takes effect before a label of that cycle (R127) -/
def labelDue (k : Nat) (s : State) : State :=
  match (ix s.todr k).labelEnd with
  | some t => if cycleOf t ≤ cycleNow s then labelOut k s else s
  | none => s

/-- what a complete sentence does at a receiver that is on (R111 to R113) -/
def sentenceIn (k : Nat) (l : List Byte) (s : State) : State :=
  let s := labelDue k s
  let x := ix s.todr k
  let src := rd s (REF_TODk_CFG_SRC k)
  let s := match parseNmea l with
    | none => bump (REF_TODk_STAT_ERRCNT k) s
    | some (.zda t) =>
      if src = 2 then s
      else if src = 0 && x.rmc.isSome && x.rmc != some t then bump (REF_TODk_STAT_ERRCNT k) s
      else giveLabel k t (modTodr k (fun x => { x with zda := some t }) s)
    | some (.rmc t fix) =>
      if src = 1 then s
      else if src = 0 && x.zda.isSome && x.zda != some t then bump (REF_TODk_STAT_ERRCNT k) s
      else
        let s := put (REF_TODk_STAT_FIX k) fix (modTodr k (fun x => { x with rmc := some t }) s)
        if src = 2 then giveLabel k t s else s
  slotEval (tabGet s.img.routes (0x120 + k) 255) s

/-- a complete sentence at receiver k, kept with what stood before it for its core cycle (R111, R127) -/
def nmeaIn (k : Nat) (l : List Byte) (s : State) : State :=
  if !on s (REF_TODk_CFG_EN k) || on s (REF_TODk_STAT_CFG_ERR k) || !live s 4 then s
  else sentenceIn k l { s with todWas := vset s.todWas k (some { cyc := cycleNow s, bytes := l, was := ix s.todr k }) }

/-- what receiver k's registers show of its labels -/
def labelFields (k : Nat) : List Fld :=
  [REF_TODk_STAT_ERRCNT k, REF_TODk_STAT_FIX k, REF_TODk_STAT_LBL_VALID k, REF_TODk_STAT_CONSEC k, REF_TODk_LBL_DATE_YEAR k, REF_TODk_LBL_DATE_MONTH k,
   REF_TODk_LBL_DATE_DAY k, REF_TODk_LBL_TIME_HOUR k, REF_TODk_LBL_TIME_MIN k, REF_TODk_LBL_TIME_SEC k]

/-- a pulse of receiver k: it takes a label that waits for it -/
def pulseOf (k : Nat) (s : State) : State :=
  let nx := (ix s.todr k).next
  let s := modTodr k (fun x => { x with pulses := x.pulses + 1, pulseAt := some s.now, zda := none, rmc := none, next := none }) s
  match nx with
  | some l => acceptLabel k l s
  | none => s

/-- a pulse of pin n at the receiver that names it (R112): a sentence of the same core cycle counts as after it (R127) -/
def todPulse (n : Nat) (s : State) : State :=
  match recvOf s n with
  | none => s
  | some k =>
    match ix s.todWas k with
    | some w =>
      if w.cyc = cycleNow s then
        let s := forEach (labelFields k) (fun f s => put f (cycWas s f) s) (modTodr k (fun _ => w.was) s)
        sentenceIn k w.bytes (pulseOf k { s with todWas := vset s.todWas k none })
      else slotEval n (pulseOf k s)
    | none => slotEval n (pulseOf k s)

/-- a divided edge of input n now (R95, R100 to R104, R112) -/
def pinEdge (n : Nat) (s : State) : State :=
  let s := pinActOk n (pinInterval n s)
  let s := pinPhase n (pinFreq n s)
  let s := modPin n (fun x => { x with last := some s.now, miss := s.now + pinLong s n }) s
  todPulse n (slotEval n s)

/-- is an edge of a leg of input n, rising or falling, a reference edge: single-ended standards take the leg that LEG selects (R95, R96) -/
def edgeSelected (s : State) (n : Nat) (leg rise : Bool) : Bool :=
  let std := tabGet s.img.iostd (512 + n) 3
  (decide (2 < std) || leg == on s (REF_INn_CFG_LEG n)) && rise != on s (REF_INn_CFG_POL n)

/-- an edge of a leg of input n: the first reference edge of running monitors and every (DIV + 1)-th after it is a divided edge (R95) -/
def legEdge (n : Nat) (leg rise : Bool) (s : State) : State :=
  let x := ix s.pin n
  if !x.run || !edgeSelected s n leg rise then s
  else if 0 < x.skip then modPin n (fun x => { x with skip := x.skip - 1 }) s
  else pinEdge n (modPin n (fun x => { x with skip := rd s (REF_INn_CFG_DIV n) }) s)

/-- the label of receiver k times out (R112) -/
def labelLost (k : Nat) (s : State) : State :=
  match (ix s.todr k).labelEnd with
  | none => s
  | some t =>
  let s := labelOut k (advanceTo t s)
  slotEval (tabGet s.img.routes (0x120 + k) 255) s

/-- a configuration error of receiver k (R110) -/
def todErr (s : State) (k : Nat) : Bool :=
  let r := tabGet s.img.routes (0x120 + k) 255
  decide (5 < rd s (REF_TODk_CFG_BAUD k)) || rd s (REF_TODk_CFG_SRC k) == 3 || rd s (REF_TODk_CFG_CONF k) == 0
    || decide (rd s (REF_TODk_CFG_TIMEOUT k) < 2) || r == 255 || (k == 1 && r == tabGet s.img.routes 0x120 255)

/-- receiver k starts afresh -/
def todStart (k : Nat) (s : State) : State :=
  let s := s |> put (REF_TODk_STAT_LBL_VALID k) 0 |> put (REF_TODk_STAT_CONSEC k) 0 |> put (REF_TODk_STAT_FIX k) 0
  let s := modTodr k (fun _ => {}) s
  let r := tabGet s.img.routes (0x120 + k) 255
  if r < 16 then slotEval r s else s

/-- CFG_ERR of receiver k judged (R110, R125) -/
def todErrEval (k : Nat) (s : State) : State :=
  let e := s.img.applied && todErr s k
  if e == on s (REF_TODk_STAT_CFG_ERR k) then s
  else
    let s := putB (REF_TODk_STAT_CFG_ERR k) e s
    todStart k (if e then raise 10 (some (16 + k)) s else s)

/-! ### Warm-up (R108, R109) -/

def modClk (f : ClkS → ClkS) (s : State) : State := { s with clk := f s.clk }
def ovenClass (s : State) : Bool := rd s REF_SYSCLK_CLASS == 3

/-- the warm-up stops counting: ELAPSED holds (R108, R109) -/
def warmStop (s : State) : State :=
  if s.clk.warmRun then modClk (fun c => { c with warmRun := false, elapsed := min 4095 (secSince s c.warmAt) }) s else s

/-- the warm-up ends and WARMING becomes 0; on a timeout WARM_TO is set and source 12 raised -/
def warmEnd (timeout : Bool) (s : State) : State :=
  let s := put REF_SYSCLK_WARMING 0 (warmStop s)
  if timeout then s |> put REF_SYSCLK_WARM_TO 1 |> raise 12 none else s

/-- a warm-up starts; WARM_MAX = 0 ends it at once (R108, R109) -/
def warmStart (s : State) : State :=
  let s := modClk (fun c => { c with warmRun := true, warmAt := s.now, elapsed := 0 }) (put REF_SYSCLK_WARMING 1 s)
  let s := minWarm s
  if rd s REF_SYSCLK_WARM_MAX = 0 then warmEnd true s else s

/-- does a running warm-up stand at or beyond WARM_MAX -/
def warmOver (s : State) : Bool := s.clk.warmRun && decide (rd s REF_SYSCLK_WARM_MAX ≤ min 4095 (secSince s s.clk.warmAt))

/-- when a running warm-up ends normally: 1 s after the later of its start and the last rise (R108) -/
def warmReady (s : State) : Nat := max s.clk.warmAt s.clk.rdyAt + secU

/-- OCXO_RDY falls (R108 step 5, R127) -/
def ovenFall (s : State) : State :=
  let s := modClk (fun c => { c with rdy := false }) s
  if !ovenClass s then s
  else
    let s := put REF_SYSCLK_OCXO_RDY 0 s
    let s := if warmOver s then warmEnd true s else s
    if on s REF_SYSCLK_WARMING then s
    else
      let s := raise 13 none (warmStart s)
      if on s GEN_CLKSTAT_SYSCLK_PRES then s else warmStop s

/-- OCXO_RDY rises: the count of 1 s starts (R108) -/
def ovenRise (s : State) : State :=
  let s := if s.clk.rdy then s else modClk (fun c => { c with rdy := true, rdyAt := s.now }) s
  if ovenClass s then put REF_SYSCLK_OCXO_RDY 1 s else s

/-- does the running warm-up end normally: OCXO_RDY 1 for 1 s no later than the limit -/
def warmOk (s : State) : Bool :=
  s.clk.warmRun && s.clk.rdy && decide (warmReady s ≤ s.clk.warmAt + rd s REF_SYSCLK_WARM_MAX * secU)

/-- a running warm-up ends normally once OCXO_RDY has been 1 for 1 s, unless the limit comes first (R108 steps 2 and 3) -/
def warmNormal (s : State) : State :=
  if warmOk s then warmEnd false (advanceTo (warmReady s) s) else s

/-- ELAPSED reaches WARM_MAX in a running warm-up (R108 step 3) -/
def warmLimit (s : State) : State :=
  if s.clk.warmRun && !warmOk s then warmEnd true (advanceTo (s.clk.warmAt + rd s REF_SYSCLK_WARM_MAX * secU) s) else s

/-! ### Resets (R126) -/

/-- monitors, receivers and slots 0 to 15 restart: REF block reset and its end, release from isolation, image applied -/
def refRestart (s : State) : State :=
  let s := forEach (List.range 16) (fun n s => slotDrop n s) s
  let s := forEach (List.range 16) (fun n s => pinStart n s) s
  forEach (List.range 2) todStart s

/-- every input and receiver judged for configuration errors -/
def refErrs (s : State) : State := forEach (List.range 2) todErrEval (forEach (List.range 16) pinErrEval s)

end Sys2Proof.Machine
end

