-- ==== Sys2Proof/Machine/PtpCore.lean ====
section
/-! DEFINITION. PTP: own clock quality and announced data (R354 to R356), configuration errors (R338, R347), franking (R359, R360),
the address table and the egress queues (R341 to R343), ESMC transmission (R364). -/

namespace Sys2Proof.Machine
open Sys2Proof.Reg

/-- the signed 64-bit value of a pair of words -/
def rdPairI (s : State) (lo hi : Fld) : Int := sgn 64 (rdPair s lo hi)

/-- STATE of port p: 1 INITIALIZING 2 FAULTY 3 DISABLED 4 LISTENING 5 PRE_MASTER 6 MASTER 7 PASSIVE 8 UNCALIBRATED 9 SLAVE (R368) -/
def portState (s : State) (p : Nat) : Nat := rd s (PTP_Pp_STAT_STATE p)

/-- CLK_CFG.PROFILE: 0 and 1 default, 2 61850-9-3, 3 C37.238, 4 G.8275.1 (R347) -/
def profile (s : State) : Nat := rd s PTP_CLK_CFG_PROFILE

/-- the delay mechanism is peer-to-peer -/
def isP2p (s : State) : Bool := profile s == 1 || profile s == 2 || profile s == 3

/-- does PTP run: an image applied, neither isolated nor held -/
def ptpUp (s : State) : Bool := s.img.applied && !isolated s 12 && live s 12

def ownClockId (s : State) : Nat := rdPair s PTP_CLK_ID_LO_ID PTP_CLK_ID_HI_ID

/-- the SYNCE_DPLL, none when the image names none (R66) -/
def synceDpll (s : State) : Option Nat := if s.img.struct_.synceDpll < 8 then some s.img.struct_.synceDpll else none

/-! ### Own clock quality (R354, R355) -/

/-- clockClass and clockAccuracy of an ACT_QL (R354) -/
def classOfQl (ql : Nat) : Nat × Nat :=
  match ql with
  | 0 => (6, 0x21)
  | 1 => (6, 0x22)
  | 2 => (6, 0xFE)
  | 3 => (7, 0xFE)
  | 4 => (135, 0xFE)
  | 5 => (140, 0xFE)
  | 6 => (150, 0xFE)
  | 7 => (160, 0xFE)
  | 8 => (13, 0xFE)
  | 9 => (14, 0xFE)
  | 10 => (52, 0xFE)
  | 11 => (187, 0xFE)
  | _ => (248, 0xFE)

/-- QL of a PTP clock quality (R116) -/
def qlOfClass (cls acc : Nat) : Nat :=
  match cls with
  | 6 => if acc ≤ 0x21 then 0 else if acc ≤ 0x23 then 1 else 2
  | 7 => 3
  | 135 => 4
  | 140 => 5
  | 150 => 6
  | 160 => 7
  | 13 => 8
  | 14 => 9
  | 52 | 58 => 10
  | 165 | 187 | 193 => 11
  | 248 => 14
  | _ => 15

/-- the bounds of clockAccuracy codes 0x20 to 0x2F in ns (IEEE 1588-2019; log entry 60) -/
def accBounds : List Nat :=
  [25, 100, 250, 1000, 2500, 10000, 25000, 100000, 250000, 1000000, 2500000, 10000000, 25000000, 100000000, 250000000, 1000000000]

/-- the smallest clockAccuracy code whose bound is at least ns -/
def accOfNs (ns : Nat) : Nat :=
  if ns ≤ 1 then 0x1D
  else if ns ≤ 2 then 0x1E
  else if ns ≤ 10 then 0x1F
  else match accBounds.findIdx? (fun b => decide (ns ≤ b)) with
    | some i => 0x20 + i
    | none => if ns ≤ 10000000000 then 0x30 else 0x31

/-- K_out of the profile for class c (R355) -/
def kOut (s : State) (c : Nat) : Nat :=
  let d := on s PTP_CLK_CFG_DEGRADE
  if profile s = 4 then
    if on s PTP_CLK_STAT_BCTYPE then 165
    else
      let q := match synceDpll s with
        | some d => rd s (SEL_SELd_STAT_ACT_QL d)
        | none => 15
      if q ≤ 3 then 140 else if q ≤ 5 then 150 else 160
  else
    let k := if c = 6 then 7 else if c = 13 then 14 else c
    if k = 7 then (if d then 187 else 52) else if k = 14 then (if d then 193 else 58) else c

/-- own clockClass and clockAccuracy (R355) -/
def ownQuality (s : State) : Nat × Nat :=
  let d := timeDpll s
  let g := profile s == 4
  let bc := on s PTP_CLK_STAT_BCTYPE
  let c := s.ptp.cLock
  let base : Nat × Nat :=
    match dpllState s d with
    | 2 => if bc then (248, 0xFE) else if g then (if c = 6 then 6 else 248, s.ptp.aLock) else (c, s.ptp.aLock)
    | 3 =>
      let acc := accOfNs (rd s (SEL_DPLLd_HOTE_TE d))
      if on s (SEL_DPLLd_STAT_IN_SPEC d) then
        (if g then (if !bc && c == 6 then 7 else 135) else if c = 6 then 7 else if c = 13 then 14 else c, acc)
      else (kOut s c, acc)
    | _ => (248, 0xFE)
  let q := if on s PTP_CLK_Q_CLASS_OVR_EN then (rd s PTP_CLK_Q_CLASS_OVR, base.2) else base
  if rd s FLT_STAT_STATE = 2 && q.1 != 248 then (kOut s c, 0xFE) else q

/-- C_lock recorded as the time DPLL enters LOCKED (R354) -/
def recordLock (s : State) : State :=
  let d := timeDpll s
  match actSlot s d with
  | none => s
  | some i =>
    if isPtpSlot i || i = 28 then
      let q := if i = 28 then (rd s CRL_FOL_Q_CLASS, rd s CRL_FOL_Q_ACCURACY) else (rd s PTP_GM_Q_CLASS, rd s PTP_GM_Q_ACCURACY)
      put PTP_CLK_STAT_BCTYPE 1 { s with ptp := { s.ptp with cLock := q.1, aLock := q.2 } }
    else
      let q := classOfQl (rd s (SEL_SELd_STAT_ACT_QL d))
      put PTP_CLK_STAT_BCTYPE 0 { s with ptp := { s.ptp with cLock := q.1, aLock := q.2 } }

/-- does a latched leap of a kind execute at the end of the current UTC day (R356) -/
def leapToday (s : State) (del : Bool) : Bool :=
  match s.tkp.latched with
  | some m => on s TKP_STAT_LEAP_DEL == del && decide (m ≤ utcOfTai s (todSec s) + 86400)
  | none => false

/-- timeSource while GM (R356) -/
def ownTimeSource (s : State) : Nat :=
  let d := timeDpll s
  match dpllState s d with
  | 2 =>
    match actSlot s d with
    | some i => if decide (i < 16) && (recvOf s i).isSome then 0x20 else if i = 29 then 0x39 else 0x90
    | none => 0xA0
  | 0 => if rd s TKP_STAT_TIME_SRC = 2 then 0x60 else 0xA0
  | _ => 0xA0

/-- the data the device announces as its own grandmaster (R355, R356) -/
def ownAnn (s : State) : AnnData :=
  let st := dpllState s (timeDpll s)
  let c := rd s PTP_CLK_STAT_CLASS
  let tr := (st == 2 && (c == 6 || c == 7 || c == 13)) || (st == 3 && on s (SEL_DPLLd_STAT_IN_SPEC (timeDpll s)))
  { gmId := ownClockId s, cls := c, acc := rd s PTP_CLK_STAT_ACCURACY, var := rd s PTP_CLK_Q_VARIANCE
    p1 := if profile s = 4 then 128 else rd s PTP_CLK_CFG_PRIORITY1, p2 := rd s PTP_CLK_CFG_PRIORITY2, timeSource := ownTimeSource s
    utcOff := deltaAT s, leap61 := leapToday s false, leap59 := leapToday s true, utcOk := on s TKP_STAT_TIME_SET, ptpScale := true
    timeTrace := tr, freqTrace := tr }

/-- what a MASTER port announces: its own data, or the parent's one step further (R350, R356) -/
def annOut (s : State) : AnnData :=
  match s.ptp.parent with
  | some (_, f) => { f.ann with steps := f.ann.steps + 1 }
  | none => ownAnn s

/-- CLK_STAT and the parent registers follow the state (R355, R356, R367) -/
def clkEval (s : State) : State :=
  let q := ownQuality s
  let s := if rd s PTP_CLK_STAT_CLASS = q.1 then s else put PTP_EVT_CLASS_CHG 1 s
  let s := s |> put PTP_CLK_STAT_CLASS q.1 |> put PTP_CLK_STAT_ACCURACY q.2 |> putB PTP_CLK_STAT_GM (s.img.applied && s.ptp.parent.isNone)
    |> put PTP_CLK_STAT_SLAVE_PORT (match s.ptp.parent with
      | some (p, _) => p
      | none => 7)
  let a := match s.ptp.parent with
    | some (_, f) => f.ann
    | none => ownAnn s
  let id := match s.ptp.parent with
    | some (_, f) => (f.srcId, f.srcPort)
    | none => if s.img.applied then (ownClockId s, 0) else (0, 0)
  let s := put PTP_CLK_STAT_TIME_SOURCE a.timeSource s
  if !s.img.applied then s
  else
    let changed := rdPair s PTP_PARENT_LO_ID PTP_PARENT_HI_ID != id.1 || rd s PTP_PARENT_PORT_PORT != id.2
    let s := if changed then put PTP_EVT_PARENT_CHG 1 s else s
    s |> putPair PTP_PARENT_LO_ID PTP_PARENT_HI_ID id.1 |> put PTP_PARENT_PORT_PORT id.2 |> put PTP_PARENT_PORT_STEPS a.steps
      |> putPair PTP_GM_LO_ID PTP_GM_HI_ID a.gmId |> put PTP_GM_Q_CLASS a.cls |> put PTP_GM_Q_ACCURACY a.acc |> put PTP_GM_Q_VARIANCE a.var
      |> put PTP_GM_PRI_PRIORITY1 a.p1 |> put PTP_GM_PRI_PRIORITY2 a.p2

/-! ### Configuration errors -/

/-- PROFILE or DOMAIN outside R347 -/
def clkBad (s : State) : Bool :=
  let d := rd s PTP_CLK_CFG_DOMAIN
  match profile s with
  | 0 | 1 | 2 => decide (127 < d)
  | 3 => d != 254
  | 4 => decide (d < 24) || decide (43 < d)
  | _ => true

/-- is an interval outside the profile's column (R347) -/
def intvBad (s : State) (p : Nat) : Bool :=
  let a := rdS s (PTP_Pp_INTV_LOG_SYNC p)
  let b := rdS s (PTP_Pp_INTV_LOG_ANN p)
  let c := rdS s (PTP_Pp_INTV_LOG_DREQ p)
  match profile s with
  | 0 | 1 => decide (a < -7) || decide (4 < a) || decide (b < -3) || decide (4 < b) || decide (c < -7) || decide (5 < c)
  | 2 | 3 => a != 0 || b != 0 || c != 0
  | 4 => a != -4 || b != -3 || c != -4
  | _ => false

/-- ERR code of port p, 0 for none; half is a partner's half duplex report (R338, R339, R347, R368) -/
def portErr (s : State) (p : Nat) : Nat :=
  let sd := rd s (PTP_Pp_CFG_SERDES p)
  if sd = 3 || (sd = 2 && decide (p < 4)) then 1
  else if rd s (PTP_Pp_CFG_TRANSPORT p) = 3 || (2 ≤ profile s && rd s (PTP_Pp_CFG_TRANSPORT p) != 0) then 2
  else if intvBad s p then 3
  else if rd s (PTP_Pp_INTV_ANN_TO p) < 2 then 4
  else if rd s (PTP_Pp_STAT_ERR p) = 5 then 5
  else 0

/-- a CFG_ERR set as judged; a rise raises source 66 (R370) -/
def ptpErr (f : Fld) (e : Bool) (s : State) : State :=
  let s := if e && !on s f then raise 66 none s else s
  putB f e s

/-- the key of association i: usage PTP HMAC (R359) -/
def saKey (s : State) (i : Nat) : Option (List Byte) := keyFor s (rd s (PTP_SAi_CFG_SLOT i)) 1

/-- association i is in use and sound -/
def saOk (s : State) (i : Nat) : Bool := on s (PTP_SAi_CFG_VALID i) && (saKey s i).isSome

/-- the associations judged: one whose slot is empty or has another usage is in error (R359) -/
def saEval (s : State) : State :=
  if !s.img.applied then s else forEach (List.range 4) (fun i s => ptpErr (PTP_SAi_CFG_CFG_ERR i) (saKey s i).isNone s) s

/-- the configuration errors of PTP judged once an image is applied, whatever EN, PTP_EN and VALID hold (R338, R347, R359; DEDUCED, log
entry 161) -/
def ptpCfgEval (s : State) : State :=
  if !s.img.applied then s
  else
    let s := ptpErr PTP_CLK_STAT_CFG_ERR (clkBad s) s
    let s := forEach (List.range 6) (fun p s =>
      let e := portErr s p
      ptpErr (PTP_Pp_STAT_CFG_ERR p) (e != 0) (put (PTP_Pp_STAT_ERR p) e s)) s
    saEval s

/-! ### Franking (R359, R360) -/

/-- the association a received TLV names, in a domain -/
def saFor (s : State) (a : PtpAuth) (domain : Nat) : Option Nat :=
  (List.range 4).find? (fun i => saOk s i && rd s (PTP_SAi_CFG_SPP i) == a.spp && rd s (PTP_SAi_KEYID_KEYID i) == a.keyId
    && rd s (PTP_SAi_CFG_DOMAIN i) == domain)

/-- does a received TLV pass its check -/
def authPass (s : State) (a : PtpAuth) (domain : Nat) : Bool :=
  match saFor s a domain with
  | none => false
  | some i =>
    match saKey s i with
    | none => false
    | some k => ((Config.hmac k a.octets).toList.take 16) == a.icv

/-- are messages signed: the association that signs them, if any -/
def txSigns (s : State) : Bool := mode s 7 || on s PTP_CLK_CFG_AUTH_TX
def txSa (s : State) : Option Nat :=
  if !txSigns s then none
  else (List.range 4).find? (fun i => saOk s i && on s (PTP_SAi_CFG_TX i) && rd s (PTP_SAi_CFG_DOMAIN i) == rd s PTP_CLK_CFG_DOMAIN)

/-- a check failed on port p: AUTH_FAIL counted, source 63 (R360, R370) -/
def authFail (p : Nat) (s : State) : State :=
  raise 63 (some p) (put PTP_EVT_AUTH_FAIL 1 (bump (PTP_Pp_CNT0_AUTH_FAIL p) s))

/-! ### The address table (R341) -/

def modFdb (f : List FdbEnt → List FdbEnt) (s : State) : State := modPtp (fun x => { x with fdb := f x.fdb }) s
def fdbFind (s : State) (mac vid : Nat) : Option FdbEnt := s.ptp.fdb.find? (fun e => e.mac == mac && e.vid == vid)

/-- a source address learned on port p -/
def fdbLearn (p mac vid : Nat) (s : State) : State :=
  match fdbFind s mac vid with
  | some e => if e.static_ then s else modFdb (fun l => l.map (fun x => if x.mac = mac && x.vid = vid then { x with ports := 2 ^ p, seen := s.now } else x)) s
  | none => if 2048 ≤ s.ptp.fdb.length then s else modFdb (fun l => l ++ [{ mac := mac, vid := vid, ports := 2 ^ p, seen := s.now }]) s

/-- UNTAG and MEMBER of a VID -/
def vlanMember (s : State) (vid : Nat) : Nat := tabGet s.ptp.vlan vid 0 % 64
def vlanUntag (s : State) (vid : Nat) : Nat := bitsOf (tabGet s.ptp.vlan vid 0) 13 8

/-! ### Egress queues (R342, R343) -/

/-- bytes in queue j of port p -/
def qBytes (s : State) (p j : Nat) : Nat := ((ix (ix s.ptp.port p).q j).map (fun e => e.len)).foldl (fun a b => a + b) 0

/-- has queue j of port p room for n bytes: 16 KiB of its own for queue 7, the rest of 1 MiB for the others together -/
def qRoom (s : State) (p j n : Nat) : Bool :=
  if j = 7 then decide (qBytes s p 7 + n ≤ 16384)
  else
    let used := (List.range 6).foldl (fun a r => (List.range 7).foldl (fun a k => a + qBytes s r k) a) 0
    decide (used + n ≤ 1048576 - 98304)

/-- is this egress frame a PTP event message -/
def isEvent (e : Egress) : Bool := decide (1 ≤ e.kind) && decide (e.kind ≤ 4)

/-- a frame enters queue j of port p with its number in the port's order (R36), or is discarded where its share is full; a discarded
event message counts in DROP -/
def enqueue (p j : Nat) (e : Egress) (s : State) : State :=
  if qRoom s p j e.len then modPort p (fun x => { x with q := upd x.q j (fun l => l ++ [{ e with ord := x.ord }]), ord := x.ord + 1 }) s
  else if isEvent e then bump (PTP_Pp_CNT0_DROP p) s else s

/-- destination address and UDP port, 0 for Layer 2, of a PTP message of a kind that port p generates (R348) -/
def ptpAddr (s : State) (p kind : Nat) : Nat × Nat :=
  let peer := kind == 3 || kind == 4 || kind == 11
  let port := if decide (kind ≤ 4) then 319 else 320
  match rd s (PTP_Pp_CFG_TRANSPORT p) with
  | 1 => (if peer then 0xE000006B else 0xE0000181, port)
  | 2 => (if peer then 0xFF02 * 2 ^ 112 + 0x6B else 0xFF0E * 2 ^ 112 + 0x181, port)
  | _ => (if peer || on s (PTP_Pp_CFG_NFWD p) then 0x0180C200000E else 0x011B19000000, 0)

/-- MODE_SE is entered: messages of the device itself queued unsigned take the TLV or do not leave; a one-step message is given its
launch (R50, R361) -/
def seEntered (launch : Nat) (s : State) : State :=
  let sa := txSa s
  let open_ (e : Egress) : Bool := e.own && e.kind != 32 && e.sa.isNone
  forEach (List.range 6) (fun p s =>
    let l := ix (ix s.ptp.port p).q 7
    let s := if sa.isSome then s else forEach (l.filter (fun e => open_ e && isEvent e)) (fun _ s => bump (PTP_Pp_CNT0_DROP p) s) s
    modPort p (fun x => { x with q := upd x.q 7 (fun l => (l.filter (fun e => sa.isSome || !open_ e)).map (fun e =>
      if open_ e then { e with sa := sa, launch := if e.oneStep then some launch else e.launch } else e)) }) s) s

/-- a message of the device itself: queue 7, signed as R360 asks; none leaves unsigned while MODE_SE is 1 (R50) -/
def sendOwn (p : Nat) (e : Egress) (s : State) : State :=
  let sa := txSa s
  if mode s 7 && sa.isNone then s
  else
    let port := p + 1
    let dest := ptpAddr s p e.kind
    let tag := if on s (PTP_Pp_CFG_TAG p) then some (rd s (PTP_Pp_CFG_PVID p)) else none
    enqueue p 7 { e with own := true, domain := rd s PTP_CLK_CFG_DOMAIN, srcId := ownClockId s, srcPort := port, sa := sa, dst := dest.1
                         udp := dest.2, tag := tag } s

/-! ### ESMC transmission (R364) -/

/-- is port p SyncE-capable (R66) -/
def isSynce (s : State) (p : Nat) : Bool := bitAt s.img.struct_.syncePorts p

/-- the QL port p transmits, and whether DNU or DUS stands for its own slot -/
def esmcQl (s : State) (p : Nat) : Nat × Bool :=
  match synceDpll s with
  | none => (rd s (PTP_Pp_SE_CFG_QL_HO p), false)
  | some d =>
    match actSlot s d with
    | none => (rd s (PTP_Pp_SE_CFG_QL_HO p), false)
    | some i => if i = 22 + p then (15, true) else (rd s (SEL_SELd_STAT_ACT_QL d), false)

/-- SSM of a QL under an option (R364) -/
def ssmOf (opt : Bool) (ql : Nat) : Nat :=
  if opt then
    if ql ≤ 3 then 1 else if ql = 4 then 4 else if ql ≤ 6 then 7 else if ql = 7 then 0 else if ql ≤ 9 then 13 else if ql = 10 then 10
    else if ql ≤ 13 then 12 else if ql = 14 then 14 else 15
  else if ql ≤ 3 then 2 else if ql ≤ 5 then 4 else if ql ≤ 7 then 8 else if ql ≤ 10 then 11 else 15

/-- the extended code of a QL, where it has one (R364) -/
def essmOf (ql : Nat) : Option Nat :=
  match ql with
  | 0 => some 0x21
  | 1 => some 0x20
  | 9 => some 0x22
  | _ => none

/-- QL of a received SSM and extended code under an option (R117) -/
def qlOfSsm (opt : Bool) (ssm : Nat) (ext : Option Nat) : Nat :=
  match ext with
  | some 0x21 | some 0x23 => 0
  | some 0x20 => 1
  | some 0x22 => 9
  | _ =>
    if opt then
      match ssm with
      | 0 => 7
      | 1 => 1
      | 4 => 4
      | 7 => 5
      | 10 => 10
      | 12 => 11
      | 13 => 8
      | 14 => 14
      | _ => 15
    else
      match ssm with
      | 2 => 1
      | 4 => 4
      | 8 => 6
      | 11 => 10
      | _ => 15

/-- the clock port p transmits on: the frequency of the SerDes reference of its group in Hz (R338), and the word that scales it by
1 + w × 2^-48: that of the SYNCE_DPLL under FR on a SyncE-capable port, else 0 (R48, R53, R365). A frame leaves in one step, so a change
falls into an inter-frame gap. The interpolator has no WRATE of its own and takes the DPLL's word as it is: log entry 151 -/
def txClock (s : State) (p : Nat) : Nat × Int :=
  (if rd s (PTP_Pp_CFG_SERDES p) = 2 then 156250000 else 125000000,
   match synceDpll s with
   | some d => if mode s 2 && isSynce s p then wordOf s d else 0
   | none => 0)

/-- does port p send ESMC PDUs -/
def esmcSends (s : State) (p : Nat) : Bool :=
  ptpUp s && mode s 2 && on s (PTP_Pp_SE_CFG_ESMC_TX p) && isSynce s p && on s (PTP_Pp_STAT_LINK p)

/-- an ESMC PDU of port p, an event PDU or an information PDU, queued with the QL it transmits. Of a change and an information PDU due in
one core cycle one information PDU remains, with the new QL (R372) -/
def esmcSend (p : Nat) (event : Bool) (s : State) : State :=
  let q := esmcQl s p
  let ssm := ssmOf (on s (PTP_Pp_SE_CFG_OPT p)) q.1
  let c := cycleNow s + 1
  let same (e : Egress) : Bool := e.kind == 32 && e.cyc == c
  let info := (ix (ix s.ptp.port p).q 7).any (fun e => same e && !e.event)
  let e : Egress := { kind := 32, own := true, ssm := ssm, ext := if on s (PTP_Pp_SE_CFG_EXT p) then essmOf q.1 else none
                      event := event && !info, cyc := c }
  let s := enqueue p 7 e (modPort p (fun x => { x with esmcTx := ssm, q := upd x.q 7 (fun l => l.filter (fun e => !same e)) }) s)
  s |> put (PTP_Pp_SE_STAT_TX_SSM p) ssm |> putB (PTP_Pp_SE_STAT_TX_DNU p) q.2

/-- ESMC PDUs still queued go with an FR exit (R48) -/
def esmcStop (s : State) : State :=
  forEach (List.range 6) (fun p s => modPort p (fun x => { x with q := upd x.q 7 (fun l => l.filter (fun e => e.kind != 32)) }) s) s

/-- an event PDU on every port whose transmitted QL changed (R364) -/
def esmcEval (s : State) : State :=
  forEach (List.range 6) (fun p s =>
    if esmcSends s p then
      if (ix s.ptp.port p).esmcTx != ssmOf (on s (PTP_Pp_SE_CFG_OPT p)) (esmcQl s p).1 then esmcSend p true s else s
    else if (ix s.ptp.port p).esmcTx != 16 then modPort p (fun x => { x with esmcTx := 16 }) s
    else s) s

/-- what PTP makes of changes elsewhere in the command in progress -/
def ptpFollow (s : State) : State :=
  let s := if s.ptp.entered then recordLock s else s
  let s := modPtp (fun x => { x with stale := false, entered := false }) s
  esmcEval (clkEval s)

end Sys2Proof.Machine
end

