-- ==== Sys2Proof/Machine/SchCore.lean ====
section
/-! DEFINITION. SCH: the working copy (R305 to R308), instances (R309 to R312), the outcome queue and its order (R320, R321),
channels and their feedback (R315 to R319). -/

namespace Sys2Proof.Machine
open Sys2Proof.Reg

def modSch (f : SchS → SchS) (s : State) : State := { s with sch := f s.sch }
def modSw (n : Nat) (f : ChanSw → ChanSw) (s : State) : State := modSch (fun c => { c with ch := upd c.ch n f }) s
def modRc (k : Nat) (f : RcS → RcS) (s : State) : State := modSch (fun c => { c with rc := upd c.rc k f }) s

/-- STAT.STATE: 0 OFF 1 WAIT_TIME 2 RECOVER 3 RUN 4 ISOLATED (R331) -/
def schState (s : State) : Nat := rd s SCH_STAT_STATE

/-- is the collector in SAFE (R469) -/
def inSafe (s : State) : Bool := rd s FLT_STAT_STATE == 2

/-- do registered commands and CMD run (R331, R469) -/
def schActs (s : State) : Bool := (schState s == 2 || schState s == 3) && !inSafe s && live s 11

/-! ### The working copy -/

/-- entry i of the working copy -/
def ent (s : State) (i : Nat) : EntW :=
  { w0 := tabGet s.sch.ents (4 * i) 0, w1 := tabGet s.sch.ents (4 * i + 1) 0, w2 := tabGet s.sch.ents (4 * i + 2) 0
    w3 := tabGet s.sch.ents (4 * i + 3) 0 }

/-- entry i set, NVALID following -/
def putEnt (i : Nat) (e : EntW) (s : State) : State :=
  let n := rd s SCH_STAT_NVALID + b2n (entValid e) - b2n (entValid (ent s i))
  let t := s.sch.ents
  let t := tabPut (tabPut (tabPut (tabPut t (4 * i) e.w0 0) (4 * i + 1) e.w1 0) (4 * i + 2) e.w2 0) (4 * i + 3) e.w3 0
  put SCH_STAT_NVALID n (modSch (fun c => { c with ents := t }) s)

/-- the valid entries, ascending -/
def validEnts (s : State) : List Nat := (s.sch.ents.filter (fun p => p.1 % 4 == 0 && bitAt p.2 31)).map (fun p => p.1 / 4)

/-- the bytes of entry page p: entries 16 p to 16 p + 15 -/
def entPage (s : State) (p : Nat) : List Byte := (List.range 16).flatMap (fun j => entBytes (ent s (16 * p + j)))

/-- the CRC-32 of entry page p; that of 256 zero bytes is 0x0D968558 -/
def entPageCrc (s : State) (p : Nat) : Nat :=
  if s.sch.ents.any (fun e => e.1 / 64 == p) then crc32 (entPage s p) else 0x0D968558

/-- page c of the CRC table -/
def crcPage (s : State) (c : Nat) : List Byte := (List.range 64).flatMap (fun j => leBytes 4 (entPageCrc s (64 * c + j)))

/-- the write-back of entry i: its page and the CRC page (R410, R413) -/
def entBack (i : Nat) (s : State) : State :=
  let p := i / 16
  wbOffer { owner := 0, pages := [(0x395 + p, entPage s p), (0x391 + p / 64, crcPage s (p / 64))] } s

/-- ENT_BUSY: an entry's write-back waits for a place (R413) -/
def entBusy (s : State) : Bool := s.nvm.offers.any (fun o => o.owner == 0)

/-! ### Groups (R326) -/

/-- the member codes of group g -/
def groupMembers (s : State) (g : Nat) : List Nat :=
  (List.range (rd s (SCH_GRPg_MEM_COUNT g))).map (fun j => tabGet s.sch.mem (rd s (SCH_GRPg_MEM_START g) + j) 0)

/-- is group g in error -/
def groupErr (s : State) (g : Nat) : Bool :=
  let n := rd s (SCH_GRPg_MEM_COUNT g)
  n == 0 || decide (512 < rd s (SCH_GRPg_MEM_START g) + n) || decide (rd s (SCH_GRPg_TIM_DL g) < 5)
    || (groupMembers s g).any (fun c => decide (2 ≤ c / 16384))

/-- the group errors judged once an image is applied; one that rises raises source 59 (R335) -/
def groupsEval (s : State) : State :=
  if !s.img.applied then s
  else
    let e := (List.range 64).foldl (fun v g => if groupErr s g then setBit v g else v) 0
    let s := if clrMask e s.sch.grpErr = 0 then s else raise 59 none s
    modSch (fun c => { c with grpErr := e }) s

/-- the targets of entry e: none for a group in error (R326) -/
def targetsOf (s : State) (e : EntW) : List Nat :=
  if entKind e < 2 then [entCode e] else if groupErr s (entTgt e % 64) then [] else groupMembers s (entTgt e % 64)

/-! ### Instances -/

/-- an instance: its base instant (2^-16 ns), the record flags it brings, its local date (a day number) -/
structure Inst where
  t : Nat := 0
  flags : Nat := 0
  date : Nat := 0
  deriving DecidableEq, Repr, Inhabited

/-- the holiday classes of civil day z (R311) -/
def dateClasses (s : State) (z : Nat) : Nat :=
  let c := civilOfDay z
  (List.range 32).foldl (fun v h =>
    if on s (SCH_HOLh_VALID h) && (rd s (SCH_HOLh_YEAR h) == 127 || rd s (SCH_HOLh_YEAR h) + 2000 == c.1)
        && rd s (SCH_HOLh_MONTH h) == c.2.1 && rd s (SCH_HOLh_DAY h) == c.2.2 then v ||| rd s (SCH_HOLh_CLASS h) else v) 0

/-- does date z yield an instance of entry e (R309 to R311) -/
def dateOk (s : State) (e : EntW) (z : Nat) : Bool :=
  let c := civilOfDay z
  let day := entTb e == 2 || ((entDay e == 0 || entDay e == c.2.2) && (entMonth e == 0 || entMonth e == c.2.1))
  bitAt (entWmask e) (weekday z) && day
    && match entHmode e with
      | 1 => (dateClasses s z &&& entHol e) == 0
      | 2 => (dateClasses s z &&& entHol e) != 0
      | _ => true

/-- ms in 2^-16 ns -/
def ms16 (ms : Nat) : Nat := ms * 65536000000

/-- the solar instance of entry e on date z: day 0 and day 1 as AST delivers them, an earlier date from day 0's event (R310, R322) -/
def solarInst (s : State) (e : EntW) (z : Nat) : Option Inst :=
  let d0 := dayOf s 0
  let back := d0 - z
  let zz := z + back
  let ap := if back = 0 then 0 else 32
  let at_ (r : Nat × Nat × Bool) (fl : Nat) : Inst :=
    { t := ms16 ((r.2.1 : Int) + entOff e - ((back * 86400000 : Nat) : Int)).toNat, flags := fl ||| ap ||| (if r.2.2 then 64 else 0), date := z }
  match solarEvent s zz (entEv e) with
  | none => none
  | some r =>
    match r.1 with
    | 0 => some (at_ r 0)
    | 3 => none
    | _ => if entNoev e then (solarEvent s zz 0).map (fun n => at_ n 0) else none

/-- the instance of entry e on date z -/
def instOn (s : State) (e : EntW) (z : Nat) : Option Inst :=
  if !dateOk s e z then none
  else if entTb e = 2 then solarInst s e z
  else some { t := taiOfLocal s z (entHms e) * 65536000000000 + ms16 (entMs e), flags := 0, date := z }

/-- the local day of time t (2^-16 ns) -/
def dayAt (s : State) (t : Nat) : Nat :=
  let u := utcOfTai s (secOf16 t)
  ((u : Int) + (civilOffset s u).1 * 60).toNat / 86400

/-- the first civil instance after lo on day z or one of the k days that follow -/
def firstCivil (s : State) (e : EntW) (lo : Nat) : Nat → Nat → Option Inst
  | 0, _ => none
  | k + 1, z =>
    match instOn s e z with
    | some i => if lo < i.t then some i else firstCivil s e lo k (z + 1)
    | none => firstCivil s e lo k (z + 1)

/-- the earliest of a list of instances -/
def earliest (l : List Inst) : Option Inst :=
  l.foldl (fun b i => match b with
    | none => some i
    | some x => if i.t < x.t then some i else b) none

/-- the key of what was last handled of entry i on target key x (0 to 47 a channel, 48 the remote targets, 49 a registered
command): the instant; the date plus 1 is kept at the key above it -/
def lastKey (i x : Nat) : Nat := 2 * (64 * i + x)

/-- the earliest instance of entry i for target key x after SCAN_T and after what was handled; a solar entry yields at most one
instance a date, and none while MODE_AS is 0 (R48, R322) -/
def pendAt (s : State) (i x : Nat) : Option Inst :=
  let e := ent s i
  let scan := (cram64 s cramScan % 2 ^ 34 * 1000000000 + cram64 s cramScan / 2 ^ 34) * 65536
  let lo := max scan (tabGet s.sch.last (lastKey i x) 0)
  if !entValid e then none
  else match entTb e with
    | 0 => if lo < entAbs e then some { t := entAbs e } else none
    | 1 => firstCivil s e lo 15000 (dayAt s lo - 1)
    | _ =>
      if !mode s 4 then none
      else
        let d := dayOf s 0
        earliest (([d - 1, d, d + 1].filter (fun z => z + 1 != tabGet s.sch.last (lastKey i x + 1) 0)).filterMap (instOn s e)
          |>.filter (fun j => decide (lo < j.t)))

/-- SCAN_T in 2^-16 ns (R322, R415: whole nanoseconds) -/
def scanT (s : State) : Nat := (cram64 s cramScan % 2 ^ 34 * 1000000000 + cram64 s cramScan / 2 ^ 34) * 65536
def putScanT (t : Nat) (s : State) : State := putCram64 cramScan (secOf16 t % 2 ^ 34 + nsOf16 t * 2 ^ 34) s

/-- entry i handled on target key x up to instance j -/
def putLast (i x : Nat) (j : Inst) (s : State) : State :=
  modSch (fun c => { c with last := tabPut (tabPut c.last (lastKey i x) j.t 0) (lastKey i x + 1) (j.date + 1) 0 }) s

/-- every instance of entry i with lo < t ≤ hi, by instant (R322) -/
def instsIn (s : State) (i lo hi : Nat) : List Inst :=
  let e := ent s i
  let inW (j : Inst) : Bool := decide (lo < j.t) && decide (j.t ≤ hi)
  match entTb e with
  | 0 => if inW { t := entAbs e } then [{ t := entAbs e }] else []
  | _ =>
    let z0 := dayAt s lo - 2
    let z1 := min (dayAt s hi + 2) (z0 + 400)
    ((List.range (z1 + 1 - z0)).filterMap (fun d => instOn s e (z0 + d))).filter inW

/-- does entry e act as one command: a registered one, or a plain one of a group in error, which gets one record (R326, R327) -/
def asOne (s : State) (e : EntW) : Bool := entKind e == 3 || (entKind e == 2 && groupErr s (entTgt e % 64))

/-- the target keys entry e acts through (R325, R327) -/
def keysOf (s : State) (e : EntW) : List Nat :=
  if asOne s e then [49]
  else
    let l := targetsOf s e
    let loc := (List.range 48).filter (fun n => l.contains n)
    loc ++ (if l.any isRemote then [48] else [])

/-- an absolute entry whose instance every target has handled is no longer valid (R312) -/
def absSpent (i : Nat) (s : State) : State :=
  let e := ent s i
  if entValid e && entTb e == 0 && (keysOf s e).all (fun x => decide (entAbs e ≤ tabGet s.sch.last (lastKey i x) 0)) then
    entBack i (putEnt i { e with w0 := clrBit e.w0 31 } s)
  else s

/-- the same once its instant has come: an action sent ahead, a command armed ahead -/
def absPassed (i : Nat) (s : State) : State := if entAbs (ent s i) ≤ now16 s then absSpent i s else s

/-! ### Outcome records (R320, R321) -/

def flLate : Nat := 1
def flDelayed : Nat := 2
def flQual : Nat := 4
def flQualSkipped : Nat := 8
def flQualFail : Nat := 16
def flFbFail : Nat := 128
def flFbSame : Nat := 256
def flAbortLate : Nat := 512
def flBit26 : Nat := 1024
def flOqLoss : Nat := 2048

/-- outcome records leave in the order in which they became final (R320) -/
def outKind : RecKind OutRec where
  time := fun _ => 0
  num := fun r => (r.seq, bitAt r.flags 11)
  fin := fun n l r => { r with seq := n, flags := if l then r.flags ||| flOqLoss else r.flags }
  before := fun _ _ => false
  isGap := fun r => r.result == 15

/-- a new outcome queue, with the records it lost counted (R153) -/
def oqTake (r : Queue OutRec × Nat × Bool) (s : State) : State :=
  countLost SCH_OQSTAT_LOST SCH_OQSTAT_OVF 58 none r.2.1 r.2.2 (modSch (fun c => { c with oq := r.1 }) s)

/-- LEVEL of the outcome queue reached QTHR -/
def oqLevel (s : State) : State :=
  let thr := rd s SCH_OQCTL_QTHR
  if thr != 0 && s.sch.oq.recs.length == thr then put SCH_EVT_OQT 1 s else s

/-- a record accepted by the outcome queue or lost (R153) -/
def oqIn (r : OutRec) (s : State) : State :=
  let q := qPut outKind 256 (cycleNow s) r s.sch.oq
  let s := oqTake q s
  if q.2.1 = 0 then oqLevel s else s

/-- the gap record of a reset (R39, R320) -/
def oqGap (t : Nat) (s : State) : State :=
  let q := qGap outKind 256 (cycleNow s) true { t := t, result := 15 } s.sch.oq
  let s := oqTake q s
  if q.2.1 = 0 then oqLevel s else s

/-- the places that stay and the records that may enter: final, with no earlier place of the same target (R320) -/
def readyRecs : List Nat → List OpenRec → List OpenRec × List OutRec
  | _, [] => ([], [])
  | blocked, o :: l =>
    match o.rec_ with
    | some r =>
      if blocked.contains o.target then
        let x := readyRecs blocked l
        (o :: x.1, x.2)
      else
        let x := readyRecs blocked l
        (x.1, r :: x.2)
    | none =>
      let x := readyRecs (o.target :: blocked) l
      (o :: x.1, x.2)

/-- every record that may enter enters -/
def emitReady (s : State) : State :=
  let x := readyRecs [] s.sch.open_
  forEach x.2 oqIn (modSch (fun c => { c with open_ := x.1 }) s)

/-- a place in the record order of a target -/
def openPlace (target : Nat) (s : State) : Nat × State :=
  (s.sch.nextId, modSch (fun c => { c with open_ := c.open_ ++ [{ id := c.nextId, target := target }], nextId := c.nextId + 1 }) s)

/-- the record of a place is final; one that follows a PENDING record has no place left and enters at once -/
def closePlace (id : Nat) (r : OutRec) (s : State) : State :=
  if !s.sch.open_.any (fun o => o.id == id) then oqIn r s else
  emitReady (modSch (fun c => { c with open_ := c.open_.map (fun o => if o.id = id then { o with rec_ := some r } else o) }) s)

/-- a record whose outcome is final at once -/
def recordNow (r : OutRec) (s : State) : State :=
  let p := openPlace r.target s
  closePlace p.1 r p.2

/-- the 256 bits of a record (R320) -/
def outNat (r : OutRec) : Nat :=
  r.seq % 65536 + r.flags % 4096 * 2 ^ 16 + r.result % 16 * 2 ^ 28 + r.target % 65536 * 2 ^ 32 + r.origin % 16 * 2 ^ 48
    + r.entry % 4096 * 2 ^ 52 + nsOf16 r.t * 2 ^ 64 + secOf16 r.t % 2 ^ 34 * 2 ^ 94 + r.fbpm % 2 ^ 128 * 2 ^ 128

/-! ### Command slots: counting outcomes (R327 steps 6 to 8) -/

def rcPhase (s : State) (k : Nat) : Nat := rd s (SCH_RCk_STAT_PHASE k)

/-- slot k is DONE -/
def rcDone (k : Nat) (s : State) : State := putBit SCH_EVT_RC_DONE k (put (SCH_RCk_STAT_PHASE k) 4 s)

/-- the outcome of target code c of command ident in slot k is final -/
def rcFinal (k ident c result : Nat) (s : State) : State :=
  let r := ix s.sch.rc k
  if r.ident != ident || 8 ≤ k then s
  else
    let was := r.tgts.any (fun t => t.code == c && t.pend && !t.final)
    let s := if was then put (SCH_RCk_RES_PENDING k) (rd s (SCH_RCk_RES_PENDING k) - 1) s else s
    let s := bump (if result = 0 then SCH_RCk_RES_FIRED k else SCH_RCk_RES_NOTFIRED k) s
    let s := modRc k (fun r => { r with tgts := r.tgts.map (fun t => if t.code = c then { t with final := true, owed := false } else t) }) s
    if rcPhase s k != 4 && (ix s.sch.rc k).tgts.all (fun t => t.final || t.pend) then rcDone k s else s

/-- ABORT_LATE of the slot an action belongs to, as a record flag (R329) -/
def lateAbort (s : State) (a : ActS) : Nat :=
  if a.slot < 8 && (ix s.sch.rc a.slot).ident == a.ident && on s (SCH_RCk_STAT_ABORT_LATE a.slot) then flAbortLate else 0

/-- the outcome of an action is final: its record, the count of its slot, the event of a partner-role request (R320, R327, R386) -/
def finish (id : Nat) (a : ActS) (r : OutRec) (s : State) : State :=
  let r := { r with flags := r.flags ||| lateAbort s a }
  let s := closePlace id r s
  let s := if r.origin = 0 && isRemote r.target then absPassed r.entry s else s
  let s := rcFinal a.slot a.ident r.target r.result s
  match a.ref with
  | some (k, n) => linkEvent k (outcomeBody (r.target - rd s (CRL_LKk_CFG_CBASE k)) n r) s
  | none => s

/-! ### Channels (R315 to R319) -/

/-- FORM: 0 level, 1 pulse, 2 bistable pair -/
def chForm (s : State) (n : Nat) : Nat := rd s (SCH_CHn_CFG_FORM n)

/-- the form in force on channel n: the live one once an image is applied, before it the latched one (R487) -/
def failForm (s : State) (n : Nat) : Nat := if s.img.applied then chForm s n else ix s.rst.form n % 4

/-- is channel n the coupled one of a pair -/
def chCoupled (s : State) (n : Nat) : Bool := n % 2 == 1 && chForm s (n - 1) == 2

/-- configuration error of a channel (R315) -/
def chCfgErr (s : State) (n : Nat) : Bool :=
  chForm s n == 3 || (chForm s n == 2 && n % 2 == 1) || rd s (SCH_CHn_CFG_PWIDTH n) == 0

/-- CFG_ERR of a channel judged once an image is applied; a rise raises source 59 (R335) -/
def chanEval (n : Nat) (s : State) : State :=
  let e := s.img.applied && chCfgErr s n
  let s := if e && !on s (SCH_CHn_STAT_CFG_ERR n) then raise 59 none s else s
  putB (SCH_CHn_STAT_CFG_ERR n) e s

/-- may a target naming channel n act -/
def chUsable (s : State) (n : Nat) : Bool :=
  decide (n < 48) && on s (SCH_CHn_CFG_EN n) && !on s (SCH_CHn_STAT_CFG_ERR n) && !chCoupled s n

/-- can channel n take action act (R315) -/
def chTakes (s : State) (n act : Nat) : Bool := chUsable s n && decide (act < 4) && !(chForm s n == 2 && act == 3)

def chStateOn (s : State) (n : Nat) : Bool := on s (SCH_CHn_STAT_STATE n)

/-- STATE of a channel once a running pulse has ended: a level channel returns to its previous level (R315) -/
def settledOn (s : State) (n : Nat) : Bool :=
  if failForm s n = 0 && on s (SCH_CHn_STAT_BUSY n) then (ix s.sch.ch n).back else chStateOn s n

/-- STATE of a channel, in its register and in the counter RAM (R319) -/
def putChanState (n : Nat) (b : Bool) (s : State) : State :=
  let w := cram64 s cramState
  putCram64 cramState (if b then setBit w n else clrBit w n) (putB (SCH_CHn_STAT_STATE n) b s)

/-- OPS counted, saturating (R319) -/
def bumpOps (n : Nat) (s : State) : State := putCram (cramOps + n) (satInc (cram s (cramOps + n)) (2 ^ 32 - 1)) s

/-- the STATE an action leaves (R315, R323): PULSE leaves it -/
def actResult (act : Nat) (v : Bool) : Bool :=
  match act with
  | 0 => false
  | 1 => true
  | 2 => !v
  | _ => v

/-- a pulse begins on channel n: the ball it drives, the level it returns to, its width in ms; the STATE of a level channel is its level
(R315), the counter RAM keeps the one it returns to (log entry 101) -/
def startPulse (n ball : Nat) (back : Bool) (ms : Nat) (s : State) : State :=
  let s := if failForm s n = 0 then put (SCH_CHn_STAT_STATE n) 1 s else s
  s |> put (SCH_CHn_STAT_DRIVE ball) 1 |> put (SCH_CHn_STAT_BUSY n) 1 |> modSw n (fun c => { c with pulseEnd := s.now + ms * msU, ball := ball, back := back })

/-- the record of an executed action without feedback: TOD_UNLOCK in bit 26 (R321) -/
def execRec (s : State) (a : ActS) : OutRec :=
  { a.rec_ with flags := a.rec_.flags ||| (if a.rec_.result = 0 && unlockFlag s != 0 then flBit26 else 0) }

/-- what follows the edge of an action: without FBEN its record is final; else feedback at the expected level is FB_SAME, or the
action waits for its edge (R317) -/
def awaitFb (n id : Nat) (a : ActS) (pulse want : Bool) (s : State) : State :=
  if !on s (SCH_CHn_CFG_FBEN n) then finish id a (execRec s a) s
  else if !pulse && (on s (SCH_CHn_STAT_FB n) ^^ on s (SCH_CHn_CFG_FBPOL n)) == want then
    let r := execRec s a
    finish id a { r with flags := r.flags ||| flFbSame } s
  else
    let dl := s.now + orElse0 (rd s (SCH_CHn_CFG_FB_WIN n)) 1 * msU
    modSw n (fun c => { c with fb := c.fb ++ [{ id := id, act := a, want := want, dl := dl }] }) s

/-- one action executed on an idle channel; want is the level a level channel is left at by the actions of this instant -/
def chOne (n : Nat) (want : Bool) (id : Nat) (a : ActS) (s : State) : State :=
  let st := chStateOn s n
  let a := { a with rec_ := { a.rec_ with t := now16 s } }
  let s := put (SCH_CHn_STAT_IN_FAIL n) 0 s
  let w := rd s (SCH_CHn_CFG_PWIDTH n)
  match chForm s n with
  | 0 =>
    if a.act = 3 then awaitFb n id a false true (bumpOps n (startPulse n n (on s (SCH_CHn_STAT_DRIVE n)) w s))
    else
      let v := actResult a.act st
      let s := if v = st then s else bumpOps n s
      awaitFb n id a false want (putB (SCH_CHn_STAT_DRIVE n) want (putChanState n v s))
  | 1 =>
    if a.act = 0 then finish id a (execRec s a) s
    else awaitFb n id a true true (bumpOps n (startPulse n n false w s))
  | _ =>
    let v := actResult a.act st
    awaitFb n id a false v (bumpOps n (startPulse n (if v then n else n + 1) false w (putChanState n v s)))

/-- the level a level channel is left at by actions of one instant, up to a PULSE (R316) -/
def foldLevel (v : Bool) : List (Nat × ActS) → Bool
  | [] => v
  | p :: r => if p.2.act = 3 then v else foldLevel (actResult p.2.act v) r

/-- actions of one instant on channel n in order; one that finds the channel BUSY waits for the pulse's end and is DELAYED (R316) -/
def chRun (n : Nat) : List (Nat × ActS) → State → State
  | [], s => s
  | p :: r, s =>
    if on s (SCH_CHn_STAT_BUSY n) then
      let delayed := (p :: r).map (fun q => (q.1, { q.2 with rec_ := { q.2.rec_ with flags := q.2.rec_.flags ||| flDelayed } }))
      modSw n (fun c => { c with wait := c.wait ++ delayed }) s
    else chRun n r (chOne n (foldLevel (chStateOn s n) (p :: r)) p.1 p.2 s)

/-- a target that cannot act: TARGET_ERR (R315, R326) -/
def targetErr (a : ActS) (s : State) : State :=
  let p := openPlace a.rec_.target s
  finish p.1 a { a.rec_ with t := now16 s, result := 6 } p.2

/-- actions that fall due now on channel n, in order; their places in the record order are taken here -/
def chDo (n : Nat) (l : List ActS) (s : State) : State :=
  let good := l.filter (fun a => chTakes s n a.act)
  let bad := l.filter (fun a => !chTakes s n a.act)
  let r := good.foldl (fun (x : List (Nat × ActS) × State) a => let p := openPlace n x.2; (x.1 ++ [(p.1, a)], p.2)) ([], s)
  forEach bad targetErr (chRun n r.1 r.2)

/-- channel n's pulse is over: its ball, and the level of a level channel -/
def pulseOff (n : Nat) (s : State) : State :=
  let c := ix s.sch.ch n
  let s := if failForm s n = 0 then putB (SCH_CHn_STAT_STATE n) c.back s else s
  putB (SCH_CHn_STAT_DRIVE n) c.back (put (SCH_CHn_STAT_DRIVE c.ball) 0 (put (SCH_CHn_STAT_BUSY n) 0 s))

/-- the running pulse of channel n ends, and the actions that wait for it execute (R316), those of an isolated SCH once it is released
(R56; log entry 149) -/
def pulseDone (n : Nat) (s : State) : State :=
  if !on s (SCH_CHn_STAT_BUSY n) then s
  else
    let c := ix s.sch.ch n
    let s := pulseOff n (advanceTo c.pulseEnd s)
    if isolated s 11 then s else chRun n c.wait (modSw n (fun c => { c with wait := [] }) s)

/-- an edge of FBn to a level: stamped once an image has set the unit up (R486), and the actions whose window it meets at the expected
level resolve (R317) -/
def fbEdge (n : Nat) (level : Bool) (s : State) : State :=
  let c := ix s.sch.ch n
  let pm : Postmark := { t := now16 s, src := 0x080 + n, flags := unlockFlag s, seq := c.fbSeq }
  let s := putB (SCH_CHn_STAT_FB n) level s
  let act := level ^^ on s (SCH_CHn_CFG_FBPOL n)
  let hit (w : FbWait) : Bool := w.want == act && decide (cycleNow s ≤ cycleOf w.dl)
  let s := modSw n (fun c => { c with fbSeq := if s.img.applied || s.img.reapply then (c.fbSeq + 1) % 65536 else c.fbSeq, fb := c.fb.filter (fun w => !hit w) }) s
  forEach (c.fb.filter hit) (fun w s => finish w.id w.act { w.act.rec_ with fbpm := stampNat pm } s) s

/-- the earliest feedback window of channel n ends: FB_FAIL, source 54 (R317) -/
def fbTimeout (n : Nat) (s : State) : State :=
  match (ix s.sch.ch n).fb.map (fun w => w.dl) with
  | [] => s
  | d :: r =>
    let dl := r.foldl min d
    let s := advanceTo dl s
    let late := (ix s.sch.ch n).fb.filter (fun w => decide (w.dl ≤ s.now))
    let s := modSw n (fun c => { c with fb := c.fb.filter (fun w => !decide (w.dl ≤ s.now)) }) s
    let s := raise 54 none (put SCH_EVT_FB_FAIL 1 s)
    forEach late (fun w s => let r := execRec s w.act; finish w.id w.act { r with flags := r.flags ||| flFbFail } s) s

/-- actions that wait for channel n's pulse never execute: SKIPPED -/
def dropWaiting (n : Nat) (s : State) : State :=
  let w := (ix s.sch.ch n).wait
  forEach w (fun p s => finish p.1 p.2 { p.2.rec_ with result := 1 } s) (modSw n (fun c => { c with wait := [] }) s)

/-- a running pulse of channel n is cut short -/
def cutPulse (n : Nat) (s : State) : State := if on s (SCH_CHn_STAT_BUSY n) then pulseOff n s else s

/-- channel n driven to its fail state (R318): 0 off, 1 on, else hold; a pair pulses its coil, a pulse channel its ball, for ms; the
fail state is no action: the counter RAM keeps STATE and OPS -/
def chFail (n ms : Nat) (s : State) : State :=
  if n % 2 = 1 && failForm s (n - 1) = 2 then put (SCH_CHn_STAT_IN_FAIL n) 1 s
  else
    let s := dropWaiting n (put (SCH_CHn_STAT_IN_FAIL n) 1 s)
    let f := rd s (SCH_CHn_STAT_FAILST n)
    if 2 ≤ f then s
    else
      let s := cutPulse n s
      let v := f == 1
      if failForm s n = 2 && n % 2 = 0 then startPulse n (if v then n else n + 1) false ms (putB (SCH_CHn_STAT_STATE n) v s)
      else if failForm s n = 1 then (if v then startPulse n n false ms s else s)
      else putB (SCH_CHn_STAT_DRIVE n) v (putB (SCH_CHn_STAT_STATE n) v s)

/-- every channel driven to its fail state -/
def allFail (ms : Nat) (s : State) : State :=
  forEach (List.range 48) (fun n s => chFail n (if ms = 0 then rd s (SCH_CHn_CFG_PWIDTH n) else ms) s) s

/-! ### The mains-phase qualifier (R313) -/

/-- the instant entry e is loaded for, with its record flags; none for an instance that is missed -/
def qualify (s : State) (e : EntW) (tb : Nat) : Option Nat × Nat :=
  if !entQen e then (some tb, 0)
  else
    let c := ix s.mns.ch (entQch e)
    if !mode s 3 || isolated s 9 then (some tb, flQualSkipped)
    else if !on s (MNS_CHn_STAT_VALID (entQch e)) || decide (c.f ≤ 0) then ((if entQfb e then none else some tb), flQualFail)
    else
      let phi := c.phi + phaseGain c.f (((tb * t16T : Nat) : Int) - ((c.t : Nat) : Int))
      let q : Int := (roundDivN (entQang e * turn) 36000 : Nat)
      let d := (q - phi) % ((turn : Nat) : Int)
      (some (tb + (roundDiv (d * 65536000000000) c.f).toNat), flQual)

end Sys2Proof.Machine
end

