-- ==== Sys2Proof/Machine/Sch.lean ====
section
/-! DEFINITION. SCH running: comparators and dispatch (R313, R314), remote actions (R325), registered and plain commands (R326 to
R330), recovery (R322 to R324), entry writes (R308, R312), the store (R336, R422). -/

namespace Sys2Proof.Machine
open Sys2Proof.Reg

/-- device time moved on to the time of day t (2^-16 ns), never back -/
def goTo16 (t : Nat) (s : State) : State := advanceTo (whenTod s (t * t16T)) s

/-! ### Remote actions (R325) -/

/-- the last STATE commanded of a remote channel (R319) -/
def remOn (s : State) (c : Nat) : Bool := bitAt (cram s (cramRemote + remIx c / 32)) (remIx c % 32)
def putRemOn (c : Nat) (b : Bool) (s : State) : State :=
  let w := cramRemote + remIx c / 32
  putCram w (if b then setBit (cram s w) (remIx c % 32) else clrBit (cram s w) (remIx c % 32)) s

/-- transactions dead-lettered by this command that SCH had issued: TARGET_ERR (R387, R389) -/
def schDead (s : State) : State :=
  let ids := s.crl.dead
  let hit := s.sch.remote.filter (fun r => ids.contains r.txn && r.ident.isNone)
  let s := modCrl (fun c => { c with dead := [] }) s
  let s := modSch (fun c => { c with remote := c.remote.filter (fun r => !(ids.contains r.txn && r.ident.isNone)) }) s
  forEach hit (fun r s => finish r.id r.act { r.act.rec_ with t := now16 s, result := 6 } s) s

/-- a SWITCH to remote code c for instant t -/
def sendRemote (c t : Nat) (a : ActS) (s : State) : State :=
  let p := openPlace c s
  let x : Txn := { link := remLink c, addr := remAddr c, type := 0x20, payload := timedBody (remChan c) a.act 0 t }
  let q := issueTxn x p.2
  let r : RemoteS := { txn := q.1, link := remLink c, addr := remAddr c, chan := remChan c, id := p.1, act := { a with rec_ := { a.rec_ with t := t } } }
  let s := modSch (fun x => { x with remote := x.remote ++ [r] }) q.2
  schDead (putRemOn c (actResult a.act (remOn s c)) s)

/-! ### Registered and plain commands (R326 to R330) -/

/-- the action of slot k on target code c -/
def rcAct (s : State) (k c : Nat) : ActS :=
  let r := ix s.sch.rc k
  { rec_ := { entry := k, origin := if r.plain then 2 else 1, target := c }, act := r.act, slot := k, ident := r.ident }

/-- an ARM, COMMIT or CANCEL transaction of slot k to target code c -/
def rcSend (type k c : Nat) (s : State) : State :=
  let r := ix s.sch.rc k
  let body := if type = 0x22 then timedBody (remChan c) r.act r.ident r.tf else leBytes 2 r.ident ++ [0, 0]
  (issueTxn { link := remLink c, addr := remAddr c, type := type, payload := body, rc := some (k, c) } s).2

def modTgt (k c : Nat) (f : TgtS → TgtS) (s : State) : State :=
  modRc k (fun r => { r with tgts := r.tgts.map (fun t => if t.code = c then f t else t) }) s

/-- can local channel n arm (R327) -/
def canArm (s : State) (n act : Nat) : Bool := chTakes s n act && !on s (SCH_CHn_STAT_IN_FAIL n) && !isolated s 11

/-- the record of a target of slot k whose outcome is final without an action -/
def rcRecord (k c result : Nat) (s : State) : State :=
  let p := openPlace c s
  let a := rcAct s k c
  finish p.1 a { a.rec_ with t := (ix s.sch.rc k).tf, result := result } p.2

/-- the commit cycle of slot k (R327 step 3) -/
def rcCommit (k : Nat) (s : State) : State :=
  let r := ix s.sch.rc k
  let s := s |> put (SCH_RCk_STAT_DECISION k) 1 |> put (SCH_RCk_STAT_PHASE k) 2
  forEach (r.tgts.filter (fun t => isRemote t.code)) (fun t s =>
    let p := openPlace t.code s
    let x : RemoteS := { txn := 0, link := remLink t.code, addr := remAddr t.code, chan := remChan t.code, ident := some r.ident, id := p.1, act := rcAct s k t.code }
    rcSend 0x24 k t.code (modTgt k t.code (fun t => { t with owed := true }) (modSch (fun c => { c with remote := c.remote ++ [x] }) p.2))) s

/-- a commit follows when every target is armed (R327) -/
def rcCheck (k : Nat) (s : State) : State :=
  let r := ix s.sch.rc k
  if rcPhase s k = 1 && r.tgts.all (fun t => t.armed) then rcCommit k s else s

/-- what follows the decision that the command in slot k does not fire (2 cancelled, 3 aborted): CANCEL to every armed remote target,
the record of every target (R327 step 4, R329) -/
def rcCancelRest (k dec : Nat) (s : State) : State :=
  let r := ix s.sch.rc k
  let s := forEach (r.tgts.filter (fun t => t.armed && isRemote t.code)) (fun t s =>
    rcSend 0x25 k t.code (modTgt k t.code (fun t => { t with owed := true }) s)) s
  let owed := (ix s.sch.rc k).tgts.map (fun t => (t.code, t.owed))
  let s := forEach r.tgts (fun t s => rcRecord k t.code (if dec = 3 then 9 else if t.armed then 8 else 7) s) s
  let s := if r.entry < 4096 then absSpent r.entry s else s
  modRc k (fun r => { r with tgts := r.tgts.map (fun t => { t with owed := owed.contains (t.code, true) }) }) s

/-- the command in slot k ends without firing: DECISION 2 cancelled or 3 aborted (R327 step 4, R329) -/
def rcCancel (k dec : Nat) (s : State) : State :=
  let s := s |> put (SCH_RCk_STAT_DECISION k) dec |> put (SCH_RCk_STAT_PHASE k) 3
  rcCancelRest k dec (if dec = 2 then raise 56 (some k) s else s)

/-- a command enters slot k: its identity, targets, counters (R327 step 1, R330) -/
def rcStart (k : Nat) (plain : Bool) (act g tf dl entry : Nat) (s : State) : State :=
  let ident := s.sch.ident % 65535 + 1
  let tgts : List TgtS := (groupMembers s g).map (fun c => { code := c, armed := !plain && isLocal c && canArm s c act })
  let s := modSch (fun c => { c with ident := ident }) s
  let s := modRc k (fun _ => { plain := plain, act := act, group := g, tf := tf, dl := dl, entry := entry, tgts := tgts, ident := ident }) s
  let s := s |> put (SCH_RCk_STAT_PHASE k) (if plain then 2 else 1) |> put (SCH_RCk_STAT_DECISION k) 0 |> put (SCH_RCk_STAT_ABORT_LATE k) 0
    |> put (SCH_RCk_STAT_ARMED k) (tgts.filter (fun t => t.armed)).length |> put (SCH_RCk_STAT_TARGETS k) tgts.length
    |> put (SCH_RCk_RES_FIRED k) 0 |> put (SCH_RCk_RES_NOTFIRED k) 0 |> put (SCH_RCk_RES_PENDING k) 0
  if plain then s else rcCheck k (forEach (tgts.filter (fun t => isRemote t.code)) (fun t s => rcSend 0x22 k t.code s) s)

/-- remote target c of the registered command ident answered its ARM (R327 step 2) -/
def rcArmed (k ident c : Nat) (s : State) : State :=
  let r := ix s.sch.rc k
  if r.ident != ident || rcPhase s k != 1 || r.tgts.any (fun t => t.code == c && t.armed) then s
  else rcCheck k (bump (SCH_RCk_STAT_ARMED k) (modTgt k c (fun t => { t with armed := true }) s))

/-- COMMIT or CANCEL of target c of slot k acknowledged -/
def rcAcked (k c : Nat) (s : State) : State := modTgt k c (fun t => { t with owed := false }) s

/-- an action flagged LATE where it is -/
def lateIf (late : Bool) (a : ActS) : ActS := if late then { a with rec_ := { a.rec_ with flags := a.rec_.flags ||| flLate } } else a

/-- T_f of slot k: local targets execute; a plain command sends what it has not sent (R327 step 5, R330). A T_f that passed during a
reset is executed by the recovery pass, flagged LATE (R336) -/
def rcFire (k : Nat) (late : Bool) (s : State) : State :=
  let r := ix s.sch.rc k
  if rcPhase s k != 2 || r.fired || !schActs s then s
  else
    let s := modRc k (fun r => { r with fired := true, tgts := r.tgts.map (fun t => { t with owed := false }) }) s
    let s := forEach r.tgts (fun t s =>
      if isLocal t.code then chDo t.code [lateIf late (rcAct s k t.code)] s
      else if r.plain && !t.armed then sendRemote t.code r.tf (rcAct s k t.code) (modTgt k t.code (fun t => { t with armed := true }) s)
      else s) s
    if r.entry < 4096 then absSpent r.entry s else s

/-- T_f + 1 s of slot k: outstanding remote outcomes become PENDING records (R327 step 7) -/
def rcPending (k : Nat) (s : State) : State :=
  let r := ix s.sch.rc k
  if rcPhase s k != 2 || !r.fired then s
  else
    let s := goTo16 (r.tf + 65536000000000) s
    let out := (ix s.sch.rc k).tgts.filter (fun t => !t.final && isRemote t.code)
    let s := forEach out (fun t s =>
      match s.sch.remote.find? (fun x => x.act.slot == k && x.act.ident == r.ident && x.act.rec_.target == t.code) with
      | some x =>
        let s := closePlace x.id { x.act.rec_ with t := r.tf, result := 12, flags := x.act.rec_.flags ||| lateAbort s x.act } s
        bump (SCH_RCk_RES_PENDING k) (modTgt k t.code (fun t => { t with pend := true }) s)
      | none => s) s
    rcDone k s

/-- ABORT of slot k (R329) -/
def rcAbort (k : Nat) (s : State) : State :=
  let r := ix s.sch.rc k
  match rcPhase s k with
  | 1 => rcCancel k 3 s
  | 2 =>
    if !r.plain then put (SCH_RCk_STAT_ABORT_LATE k) 1 s
    else if r.fired then s
    else
      let sent := s.sch.remote.filter (fun x => x.act.slot == k && x.act.ident == r.ident)
      let s := modSch (fun c => { c with remote := c.remote.filter (fun x => !(x.act.slot == k && x.act.ident == r.ident)) }) s
      let s := put (SCH_RCk_STAT_DECISION k) 3 s
      let s := forEach sent (fun x s =>
        let s := match x.seq with
          | some q => (issueTxn { link := x.link, addr := x.addr, type := 0x25, payload := leBytes 2 q ++ [0, 0] } s).2
          | none => poolDrop x.txn s
        finish x.id x.act { x.act.rec_ with result := 9 } s) s
      forEach ((ix s.sch.rc k).tgts.filter (fun t => !t.final)) (fun t s => rcRecord k t.code 9 s) s
  | 4 => if on s (SCH_RCk_STAT_DECISION k) && rd s (SCH_RCk_STAT_DECISION k) == 1 then put (SCH_RCk_STAT_ABORT_LATE k) 1 s else s
  | _ => s

/-- the T_f a slot's registers hold (R334) -/
def rcTf (s : State) (k : Nat) : Nat :=
  ((rd s (SCH_RCk_TF_LO_SEC k) + rd s (SCH_RCk_TF_HI_SEC k) * 2 ^ 32) * 1000000000 + rd s (SCH_RCk_TF_HI_NS k)) * 65536

/-- is slot k free -/
def rcFree (s : State) (k : Nat) : Bool := rcPhase s k == 0 || rcPhase s k == 4

/-- a TARGET_ERR record for a group in error (R326) -/
def groupErrRec (origin entry g kind : Nat) (s : State) : State :=
  recordNow { t := now16 s, entry := entry, origin := origin, target := kind * 16384 + g, result := 6 } s

/-- a write of RCk_CTL.ISSUE (R327 step 1) -/
def rcIssue (k g act : Nat) (s : State) : State :=
  let tf := rcTf s k
  let dl := ms16 (rd s (SCH_GRPg_TIM_DL g))
  if 4 ≤ k || !schActs s || !rcFree s k || decide (3 < act) then refuse s
  else if groupErr s g then refuse (groupErrRec 1 k g 3 s)
  else if tf < now16 s + dl + ms16 1 then refuse s
  else rcStart k false act g tf (rd s (SCH_GRPg_TIM_DL g)) 4096 s

/-- a write of RCk_CTL.PLAIN (R330) -/
def rcPlain (k g act : Nat) (atOnce : Bool) (s : State) : State :=
  if 4 ≤ k || !schActs s || !rcFree s k || decide (3 < act) then refuse s
  else if groupErr s g then groupErrRec 2 k g 2 s
  else
    let tf := if atOnce then now16 s else rcTf s k
    let s := rcStart k true act g tf 0 4096 s
    if tf ≤ now16 s then rcFire k false s else s

/-- T_d of slot k with a target not armed (R327 step 4) -/
def rcDeadline (k : Nat) (s : State) : State :=
  let r := ix s.sch.rc k
  if rcPhase s k != 1 || r.plain then s else rcCancel k 2 (goTo16 (r.tf - ms16 r.dl) s)

/-- 1 ms later COMMIT or CANCEL is issued again to every target that has not acknowledged it, until T_f (R327 steps 3 and 4) -/
def rcRetry (k : Nat) (s : State) : State :=
  let r := ix s.sch.rc k
  if !r.tgts.any (fun t => t.owed) then s
  else
    let s := pass msU s
    if r.tf ≤ now16 s then s
    else
      let type := if rd s (SCH_RCk_STAT_DECISION k) = 1 then 0x24 else 0x25
      forEach (r.tgts.filter (fun t => t.owed && !s.crl.pool.any (fun x => x.rc == some (k, t.code) && x.type == type)))
        (fun t s => rcSend type k t.code s) s

/-! ### Comparators and dispatch -/

/-- the record-to-be of an instance of entry i on target code c -/
def entAct0 (s : State) (i c : Nat) (j : Inst) : ActS := { rec_ := { t := j.t, entry := i, target := c, flags := j.flags }, act := entAct (ent s i) }

/-- an instance missed and settled at once by its entry's policy: the QFB fallback (R313, R322) -/
def settleMissed (n i : Nat) (j : Inst) (fl : Nat) (s : State) : State :=
  let a := entAct0 s i n j
  let a := { a with rec_ := { a.rec_ with flags := a.rec_.flags ||| fl } }
  match entRec (ent s i) with
  | 0 => recordNow { a.rec_ with result := 1 } s
  | 1 => chDo n [{ a with rec_ := { a.rec_ with flags := a.rec_.flags ||| flLate } }] s
  | _ =>
    let v := actResult a.act (settledOn s n)
    let s := recordNow { a.rec_ with result := 3 } s
    if v = settledOn s n || chForm s n = 1 then s
    else chDo n [{ rec_ := { entry := i, origin := 4, target := n, result := 2 }, act := b2n v }] s

/-- the instances that comparator n may load: entry and instance, without those it holds -/
def loadable (s : State) (n : Nat) : List (Nat × Inst) :=
  (validEnts s).filterMap (fun i =>
    if (keysOf s (ent s i)).contains n then
      match pendAt s i n with
      | some j => if (ix s.sch.ch n).load.any (fun l => l.act.rec_.origin == 0 && l.act.rec_.entry == i && l.base == j.t) then none else some (i, j)
      | none => none
    else none)

/-- may comparators be loaded and fire (R331, R469) -/
def schRuns (s : State) : Bool := schState s == 3 && !inSafe s && live s 11

/-- comparator n takes the earliest pending instances at T_b - 1 ms, unless an instant it holds comes first (R313) -/
def loadComp (n : Nat) (s : State) : State :=
  if !schRuns s then s
  else
    let l := loadable s n
    match earliest (l.map (fun p => p.2)) with
    | none => s
    | some j =>
      if (ix s.sch.ch n).load.any (fun x => decide (x.at_ + ms16 1 < j.t)) then s
      else
        let s := goTo16 (j.t - ms16 1) s
        forEach (l.filter (fun p => p.2.t == j.t)) (fun p s =>
          let q := qualify s (ent s p.1) j.t
          match q.1 with
          | some t =>
            let a := entAct0 s p.1 n p.2
            let a := { a with rec_ := { a.rec_ with flags := a.rec_.flags ||| q.2 } }
            modSw n (fun c => { c with load := c.load ++ [{ at_ := t, base := j.t, act := a }] }) s
          | none => absSpent p.1 (settleMissed n p.1 p.2 q.2 (putLast p.1 n p.2 s))) s

/-- by scheduled instant; at one instant entries' actions before the rest, in ascending entry index (R36, R337) -/
def insLoad (x : LoadedS) : List LoadedS → List LoadedS
  | [] => [x]
  | y :: r =>
    let k (l : LoadedS) : Nat := if l.act.rec_.origin = 0 then l.act.rec_.entry else 4096
    if x.at_ < y.at_ || (x.at_ == y.at_ && decide (k x < k y)) then x :: y :: r else y :: insLoad x r

/-- the actions of a list of loads execute on channel n now -/
def fireLoads (n : Nat) (l : List LoadedS) (s : State) : State :=
  let l := l.foldl (fun r x => insLoad x r) []
  let s := forEach (l.filter (fun x => x.act.rec_.origin == 0)) (fun x s =>
    putLast x.act.rec_.entry n { t := x.base, date := dayAt s x.base } s) s
  let s := chDo n (l.map (fun x => x.act)) s
  forEach (l.filter (fun x => x.act.rec_.origin == 0)) (fun x s => absSpent x.act.rec_.entry s) s

/-- the earliest instant of comparator n arrives (R314) -/
def dispatchAt (n : Nat) (s : State) : State :=
  if !schRuns s then s
  else
    match (ix s.sch.ch n).load.map (fun l => l.at_) with
    | [] => s
    | a :: r =>
      let t := r.foldl min a
      let s := goTo16 t s
      let due := (ix s.sch.ch n).load.filter (fun l => decide (l.at_ ≤ t))
      fireLoads n due (modSw n (fun c => { c with load := c.load.filter (fun l => !decide (l.at_ ≤ t)) }) s)

/-- the remote actions due next: RLEAD before the earliest pending instant of an entry with remote targets, or of a plain command
(R325) -/
def remoteSend (s : State) : State :=
  if !schRuns s then s
  else
    let l := (validEnts s).filterMap (fun i => if (keysOf s (ent s i)).contains 48 then (pendAt s i 48).map (fun j => (i, j)) else none)
    let slots := (List.range 8).filter (fun k => let r := ix s.sch.rc k
      r.plain && rcPhase s k == 2 && !r.fired && r.tgts.any (fun t => isRemote t.code && !t.armed))
    let ts := l.map (fun p => p.2.t) ++ slots.map (fun k => (ix s.sch.rc k).tf)
    match ts with
    | [] => s
    | a :: r =>
      let t := r.foldl min a
      let s := goTo16 (t - ms16 (orElse0 (rd s SCH_CFG_RLEAD) 1)) s
      let s := forEach (l.filter (fun p => p.2.t == t)) (fun p s =>
        let s := putLast p.1 48 p.2 s
        let s := forEach ((targetsOf s (ent s p.1)).filter isRemote) (fun c s => sendRemote c t (entAct0 s p.1 c p.2) s) s
        absPassed p.1 s) s
      forEach (slots.filter (fun k => (ix s.sch.rc k).tf == t)) (fun k s =>
        forEach ((ix s.sch.rc k).tgts.filter (fun x => isRemote x.code && !x.armed)) (fun x s =>
          sendRemote x.code t (rcAct s k x.code) (modTgt k x.code (fun y => { y with armed := true }) s)) s) s

/-- T_f - ALEAD of the earliest registered-group entry: it arms in a free slot, or its record says why not (R326, R327); a plain-group
entry whose group is in error gets its record at its instant -/
def rcArmTime (s : State) : State :=
  if !schRuns s then s
  else
    let alead (i : Nat) : Nat := if entKind (ent s i) = 3 then ms16 (rd s (SCH_GRPg_TIM_ALEAD (entTgt (ent s i) % 64))) else 0
    let l := (validEnts s).filterMap (fun i =>
      if asOne s (ent s i) then (pendAt s i 49).map (fun j => (i, j)) else none)
    match l with
    | [] => s
    | p :: r =>
      let b := r.foldl (fun (x y : Nat × Inst) => if y.2.t - alead y.1 < x.2.t - alead x.1 then y else x) p
      let i := b.1
      let j := b.2
      let g := entTgt (ent s i) % 64
      let s := putLast i 49 j (goTo16 (j.t - alead i) s)
      if groupErr s g then absSpent i (groupErrRec 0 i g (entKind (ent s i)) s)
      else
        match [4, 5, 6, 7].find? (rcFree s) with
        | none => absSpent i (recordNow { t := j.t, entry := i, target := 49152 + g, result := 11 } s)
        | some k =>
          let dl := rd s (SCH_GRPg_TIM_DL g)
          let s := rcStart k false (entAct (ent s i)) g j.t dl i s
          if j.t < now16 s + ms16 dl + ms16 1 && rcPhase s k = 1 then
            rcCancel k 2 (modRc k (fun r => { r with tgts := r.tgts.map (fun t => { t with armed := false }) }) s)
          else s

/-! ### SCAN_T (R322, R324) -/

/-- what was handled up to time t -/
def lastUpTo (t : Nat) (l : Tab) : Tab := l.filter (fun p => decide (tabGet l (p.1 - p.1 % 2) 0 ≤ t))

/-- SCAN_T follows the present instant as far as every instance has been dispatched; held at a later value by the guard of R324 -/
def scanMove (s : State) : State :=
  let now := now16 s
  if schState s = 0 && s.img.applied && on s TKP_STAT_TIME_SET then putScanT now s
  else if !schRuns s then s
  else if now < scanT s then
    match s.sch.guardEnd with
    | some e => if e ≤ s.now then putScanT now (modSch (fun c => { c with guardEnd := none, last := lastUpTo now c.last }) s) else s
    | none => s
  else
    let pend := (validEnts s).flatMap (fun i => (keysOf s (ent s i)).filterMap (fun x => (pendAt s i x).map (fun j => j.t)))
    putScanT (max (scanT s) (pend.foldl (fun m t => min m (t - 65536)) now)) s

/-- a second passes: SCAN_T and ONTIME, and absolute entries whose instant has passed (R312, R319, R322) -/
def scanSecond (s : State) : State :=
  let s := if todSec s = s.sch.scanSec then goTo16 ((todSec s + 1) * 65536000000000) s else s
  let s := modSch (fun c => { c with scanSec := todSec s }) s
  let s := forEach (List.range 48) (fun n s =>
    if chStateOn s n then putCram (cramOn + n) (satInc (cram s (cramOn + n)) (2 ^ 32 - 1)) s else s) s
  scanMove (if schRuns s then forEach (validEnts s) absPassed s else s)

/-- a save of a cause, SCAN_T advanced first (R322) -/
def saveWith (cause : Nat) (s : State) : State := triggerSave cause (scanMove s)

/-! ### Recovery (R322, R323) -/

/-- a missed instance: its instant, entry, flags, whether it lies before the latest 16 -/
structure Miss where
  t : Nat := 0
  i : Nat := 0
  flags : Nat := 0
  trunc : Bool := false
  deriving DecidableEq, Repr, Inhabited

def insMiss (x : Miss) : List Miss → List Miss
  | [] => [x]
  | y :: r => if x.t < y.t || (x.t == y.t && decide (x.i < y.i)) then x :: y :: r else y :: insMiss x r

/-- the missed instances of entry i for target key x -/
def missedOf (s : State) (i x lo hi : Nat) : List Miss :=
  let lo := max lo (tabGet s.sch.last (lastKey i x) 0)
  let d := tabGet s.sch.last (lastKey i x + 1) 0
  let l := (instsIn s i lo hi).filter (fun j => entTb (ent s i) != 2 || j.date + 1 != d)
  l.mapIdx (fun n j => { t := j.t, i := i, flags := j.flags, trunc := decide (n + 16 < l.length) })

/-- the entries a pass looks at: solar ones only where MODE_AS was 1 at its start, and alone for a MODE_AS entry (R51, R322) -/
def passEnts (s : State) (solar : Bool) : List Nat :=
  (validEnts s).filter (fun i => if entTb (ent s i) = 2 then s.sch.solPass else !solar)

/-- what the pass makes of the missed instances of one target: v, STATE after the queued actions, the queue, the last one folded;
SKIPPED and FOLDED are recorded at once -/
structure PassAcc where
  v : Bool := false
  st : Bool := false
  queue : List Miss := []
  fold : Option Nat := none
  deriving DecidableEq, Repr, Inhabited

def passOne (code : Nat) (x : PassAcc × State) (m : Miss) : PassAcc × State :=
  let e := ent x.2 m.i
  let r : OutRec := { t := m.t, entry := m.i, target := code, flags := m.flags ||| (if m.trunc then flBit26 else 0) }
  let p := x.1
  match (if m.trunc then 0 else entRec e) with
  | 0 => (p, recordNow { r with result := 1 } x.2)
  | 1 => ({ p with v := actResult (entAct e) p.v, st := actResult (entAct e) p.st, queue := p.queue ++ [m] }, x.2)
  | _ => ({ p with v := actResult (entAct e) p.v, fold := some m.i }, recordNow { r with result := 3 } x.2)

/-- the action of a queued missed instance, flagged LATE -/
def lateAct (s : State) (code : Nat) (m : Miss) : ActS :=
  { rec_ := { t := m.t, entry := m.i, target := code, flags := m.flags ||| flLate }, act := entAct (ent s m.i) }

/-- the pass on local channel n (R323) -/
def passLocal (n : Nat) (l : List Miss) (s : State) : State :=
  if !chUsable s n then s
  else
    let saved := s.sch.why == some .l0 && on s SCH_CFG_RESTORE
    let v0 := if saved then bitAt (cram64 s cramState) n else settledOn s n
    let r := l.foldl (passOne n) ({ v := v0, st := settledOn s n }, s)
    let s := forEach r.1.queue (fun m s => chDo n [lateAct s n m] s) r.2
    if r.1.v = r.1.st || chForm s n = 1 then s
    else
      let a : ActS := { rec_ := { entry := r.1.fold.getD 0, origin := 4, target := n, result := 2 }, act := b2n r.1.v }
      match r.1.fold with
      | none => chDo n [a] s
      | some i =>
        let q := qualify s (ent s i) (now16 s)
        let a := { a with rec_ := { a.rec_ with flags := q.2 } }
        match q.1 with
        | some t => if t ≤ now16 s then chDo n [a] s else modSw n (fun c => { c with load := c.load ++ [{ at_ := t, base := now16 s, act := a }] }) s
        | none => chDo n [a] s

/-- the pass on remote code c -/
def passRemote (c : Nat) (l : List Miss) (s : State) : State :=
  let v := remOn s c
  let r := l.foldl (passOne c) ({ v := v, st := v }, s)
  let s := forEach r.1.queue (fun m s => sendRemote c (now16 s) (lateAct s c m) s) r.2
  if r.1.v = r.1.st then s
  else sendRemote c (now16 s) { rec_ := { entry := r.1.fold.getD 0, origin := 4, target := c, result := 2 }, act := b2n r.1.v } s

/-- does the pass have what its trigger asks for (R322, R331) -/
def recoverMay (s : State) : Bool :=
  !inSafe s && live s 11 && on s TKP_STAT_TIME_SET && (schState s == 1 || (schState s == 3 && (s.sch.why.isSome || (s.sch.solAsk && mode s 4))))

/-- a pass starts: t_R (R322) -/
def recoverStart (s : State) : State :=
  if !recoverMay s then s
  else
    let wait := s.sch.why == some .l0 && (validEnts s).any (fun i => entTb (ent s i) == 2) && !s.ast.published
    let s := if wait then advanceTo (s.sch.whyAt + 10 * secU) s else s
    let solar := mode s 4
    put SCH_STAT_STATE 2 (modSch (fun c => { c with tR := some (now16 s), solPass := solar, solAsk := c.solAsk && !solar
                                                    why := some (c.why.getD .modeAs) }) s)

/-- the target code whose instances target key x of entry i stands for: a channel, or each member -/
def codesOf (s : State) (i : Nat) : List Nat := targetsOf s (ent s i)

/-- the key that remembers what entry i did to target code c -/
def keyFor0 (s : State) (i c : Nat) : Nat := if entKind (ent s i) = 3 then 49 else if isLocal c then c else 48

/-- the running pass completes (R323) -/
def recoverDone (s : State) : State :=
  match s.sch.tR with
  | none => s
  | some hi =>
    if schState s != 2 || inSafe s then s
    else
      let solar := s.sch.why == some .modeAs
      let rwin := clampN 1 168 (rd s SCH_CFG_RWIN)
      let clip (t : Nat) : Nat := max t (hi - rwin * 3600 * 65536000000000)
      let lo := clip (scanT s)
      let lo2 := clip (min (scanT s) (s.sch.solScan.getD (scanT s)))
      let es := passEnts s solar
      let all := es.map (fun i =>
        (i, (codesOf s i).map (fun c => (c, missedOf s i (keyFor0 s i c) (if entTb (ent s i) = 2 then lo2 else lo) hi))))
      let of (c : Nat) : List Miss := all.foldl (fun r p => (p.2.filter (fun q => q.1 == c)).foldl (fun r q => q.2.foldl (fun r m => insMiss m r) r) r) []
      let rem := (all.flatMap (fun p => (p.2.filter (fun q => isRemote q.1)).map (fun q => q.1))).eraseDups
      let any := all.any (fun p => p.2.any (fun q => !q.2.isEmpty && (isRemote q.1 || chUsable s q.1)))
      let s := forEach (List.range 48) (fun n s => passLocal n (of n) s) s
      let s := forEach rem (fun c s => passRemote c (of c) s) s
      let s := if any then raise 55 none s else s
      let s := forEach es (fun i s => if entTb (ent s i) = 0 && decide (lo < entAbs (ent s i)) && decide (entAbs (ent s i) ≤ hi) then
          absSpent i (forEach (keysOf s (ent s i)) (fun x s => putLast i x { t := entAbs (ent s i) } s) s) else s) s
      let sol := if !s.sch.solPass then some (s.sch.solScan.getD (scanT s)) else if mode s 4 then none else some hi
      let s := if solar then s else putScanT hi s
      let s := forEach (List.range 8) (fun k s => if decide ((ix s.sch.rc k).tf ≤ hi) then rcFire k true s else s) s
      let s := modSch (fun c => { c with tR := none, why := none, solScan := sol }) s
      s |> put SCH_EVT_RECOV 1 |> put SCH_STAT_STATE 3

/-- a trigger of R322 noted; an L0 or rebuild trigger is not overtaken by a later one -/
def recoverAsk (w : RecovWhy) (s : State) : State :=
  modSch (fun c => { c with why := match c.why with
    | some .l0 => some .l0
    | some .rebuilt => some .rebuilt
    | _ => some w }) s

/-- MODE_AS left: solar instants pass as missed from here, or from where they already were; entered again: the pass over them, at once
in RUN, else with the pass that comes first (R51, R322) -/
def asLeft (s : State) : State := modSch (fun c => { c with solScan := some (c.solScan.getD (scanT s)) }) s
def asEntered (s : State) : State := modSch (fun c => { c with solAsk := c.solAsk || c.solScan.isSome }) s

/-! ### States (R331) -/

/-- comparators hold nothing -/
def clearLoads (s : State) : State := forEach (List.range 48) (fun n s => modSw n (fun c => { c with load := [] }) s) s

/-- CFG.EN and the working copy decide between OFF and WAIT_TIME (R331) -/
def schEval (s : State) : State :=
  let st := schState s
  if isolated s 11 then s
  else if !on s SCH_CFG_EN then
    if st = 0 then s else put SCH_STAT_STATE 0 (clearLoads (modSch (fun c => { c with tR := none, why := none }) s))
  else if st = 0 && s.sch.built && s.img.applied then
    put SCH_STAT_STATE 1 (modSch (fun c => { c with whyAt := s.now }) s)
  else s

/-- SCH isolated; released (R56, R331) -/
def schIsolate (s : State) : State := put SCH_STAT_STATE 4 (clearLoads (modSch (fun c => { c with tR := none }) s))
def schRelease (s : State) : State :=
  let s := forEach (List.range 48) (fun n s =>
    if on s (SCH_CHn_STAT_BUSY n) then s else chRun n (ix s.sch.ch n).wait (modSw n (fun c => { c with wait := [] }) s)) s
  if on s SCH_CFG_EN then
    recoverStart (put SCH_STAT_STATE (if on s TKP_STAT_TIME_SET then 3 else 1) (modSch (fun c => { c with why := some .rebuilt, whyAt := s.now }) s))
  else put SCH_STAT_STATE 0 s

/-! ### A moved time of day (R322, R324, R331) -/

/-- the instances less than 10 ms past execute at once, DELAYED, with source 57; earlier ones are left to the pass -/
def lateInstances (s : State) : State :=
  let now := now16 s
  let recent (t : Nat) : Bool := decide (t ≤ now) && decide (now < t + ms16 10)
  forEach (List.range 48) (fun n s =>
    let ls := (ix s.sch.ch n).load.filter (fun l => decide (l.at_ ≤ now))
    let s := modSw n (fun c => { c with load := c.load.filter (fun l => !decide (l.at_ ≤ now)) }) s
    let fresh := (loadable s n).filter (fun p => recent p.2.t && !ls.any (fun l => l.act.rec_.origin == 0 && l.act.rec_.entry == p.1 && l.base == p.2.t))
    let due := ls.filter (fun l => recent l.at_) ++ fresh.map (fun p => { at_ := p.2.t, base := p.2.t, act := entAct0 s p.1 n p.2 : LoadedS })
    if due = [] then s
    else raise 57 none (fireLoads n (due.map (fun l => { l with act := { l.act with rec_ := { l.act.rec_ with flags := l.act.rec_.flags ||| flDelayed } } })) s)) s

/-- the time of day was set or jammed by d (units of nsT) -/
def schMoved (d : Int) (s : State) : State :=
  let s := modSch (fun c => { c with scanSec := todSec s }) s
  if schState s != 3 then s
  else if d < 0 then
    modSch (fun c => { c with guardEnd := some (s.now + clampN 1 168 (rd s SCH_CFG_RWIN) * 3600 * secU) }) s
  else recoverAsk .timeSet (lateInstances s)

/-! ### Solar dates without an event (R310) -/

/-- the NO_EVENT or NOEV_SUB records of day 0, once per entry and date; a date without an instance leaves the instant open -/
def noEvents (s : State) : State :=
  if !s.ast.published || schState s != 3 then s
  else
    let z := dayOf s 0
    forEach (validEnts s) (fun i s =>
      let e := ent s i
      if entTb e != 2 || !dateOk s e z || s.sch.noEv.contains (i, z) then s
      else
        match solarEvent s z (entEv e) with
        | some (1, _) | some (2, _) =>
          let s := modSch (fun c => { c with noEv := c.noEv.filter (fun p => decide (z ≤ p.2 + 1)) ++ [(i, z)] }) s
          if entNoev e then
            match solarInst s e z with
            | some j => recordNow { t := j.t, entry := i, target := entCode e, result := 4, flags := flBit26 } s
            | none => s
          else
            let f := fresh s
            recordNow { t := f.1, entry := i, target := entCode e, result := 4 } f.2
        | _ => s) s

/-! ### Entry writes (R308, R312) and reads -/

def staged (s : State) : EntW := { w0 := rd s (SCH_ENT_D_D 0), w1 := rd s (SCH_ENT_D_D 1), w2 := rd s (SCH_ENT_D_D 2), w3 := rd s (SCH_ENT_D_D 3) }

/-- entry i replaced: loaded instances of the old entry go, instances up to now count as handled (R337) -/
def replaceEnt (i : Nat) (e : EntW) (s : State) : State :=
  let s := putEnt i e s
  let s := forEach (List.range 48) (fun n s =>
    modSw n (fun c => { c with load := c.load.filter (fun l => !(l.act.rec_.origin == 0 && l.act.rec_.entry == i)) }) s) s
  let last := tabErase s.sch.last (fun k => k / 128 == i)
  let last := (keysOf s e).foldl (fun t x => tabPut t (lastKey i x) (now16 s) 0) last
  modSch (fun c => { c with last := last }) s

/-- ENT_CTL.WRITE -/
def entWrite (s : State) : State :=
  if entBusy s || !live s 11 then refuse s
  else
    let e := staged s
    let i := rd s SCH_ENT_IDX_IDX
    let code := entCheck (chForm s) e
    if code != 0 then refuse (put SCH_STAT_ENT_ERR code s)
    else
      let s := put SCH_STAT_ENT_ERR 0 s
      let past := entValid e && entTb e == 0 && decide (entAbs e ≤ now16 s)
      let s := replaceEnt i (if past then { e with w0 := clrBit e.w0 31 } else e) s
      let s := if past then recordNow { t := entAbs e, entry := i, target := entCode e, result := 5 } s else s
      entBack i (put SCH_EVT_ENT_DONE 1 s)

/-- ENT_CTL.READ -/
def entRead (s : State) : State :=
  let e := ent s (rd s SCH_ENT_IDX_IDX)
  s |> put (SCH_ENT_D_D 0) e.w0 |> put (SCH_ENT_D_D 1) e.w1 |> put (SCH_ENT_D_D 2) e.w2 |> put (SCH_ENT_D_D 3) e.w3

/-! ### The store (R73, R336, R422) -/

/-- is the stored schedule valid: header, its CRC, every entry page (R422) -/
def storeValid (s : State) : Bool :=
  let h := mrdList s (pageAt 0x390) 12
  leNat (h.take 4) == 0x53434801 && crc32 (h.take 8) == leNat (h.drop 8)
    && (List.range 256).all (fun p => crc32 (mrdList s (pageAt (0x395 + p)) 256) == leNat (mrdList s (pageAt 0x391 + 4 * p) 4))

/-- the seed generation of the store -/
def storeSeed (s : State) : Nat := leNat (mrdList s (pageAt 0x390 + 4) 4)

/-- the working copy with the entries of a list of (index, entry) alone -/
def setEnts (l : List (Nat × EntW)) (s : State) : State :=
  let s := put SCH_STAT_NVALID 0 (modSch (fun c => { c with ents := [], last := [], noEv := [], built := true }) s)
  forEach l (fun p s => putEnt p.1 p.2 s) s

/-- the working copy rebuilt from the store, empty where the store is not valid -/
def rebuildEnts (s : State) : State :=
  if !storeValid s then setEnts [] s
  else
    setEnts ((List.range 256).flatMap (fun p =>
      let l := mrdList s (pageAt (0x395 + p)) 256
      if l.all (fun b => b == 0) then []
      else ((List.range 16).map (fun j => (16 * p + j, entOf ((l.drop (16 * j)).take 16)))).filter (fun q => decide (q.2 ≠ {})))) s

/-- the whole working copy written to the store with a seed generation; pages that were and stay zero are not touched -/
def storeAll (gen : Nat) (s : State) : State :=
  let used (p : Nat) : Bool := s.sch.ents.any (fun e => e.1 / 64 == p) || !(mrdList s (pageAt (0x395 + p)) 256).all (fun b => b == 0)
  let s := forEach ((List.range 256).filter used) (fun p s => mwr (pageAt (0x395 + p)) (entPage s p) s) s
  let s := forEach (List.range 4) (fun c s => mwr (pageAt (0x391 + c)) (crcPage s c) s) s
  let h := leBytes 4 0x53434801 ++ leBytes 4 gen
  mwr (pageAt 0x390) (h ++ leBytes 4 (crc32 h)) s

/-- the SCHED segment of an image at L0 (R73) -/
def schedSegment (gen first : Nat) (l : List (List Byte)) (s : State) : State :=
  if storeValid s && storeSeed s == gen then rebuildEnts s
  else storeAll gen (setEnts (l.mapIdx (fun j r => (first + j, entOf r))) s)

/-- no SCHED segment, an L1 or a reset of SCH: the working copy comes from the store (R73, R336) -/
def schedRebuild (s : State) : State := rebuildEnts s

/-- the SCHED segment of a partial reload: its entries replace those it names and are written back (R87) -/
def schedReplace (first : Nat) (l : List (List Byte)) (s : State) : State :=
  let s := forEach (l.mapIdx (fun j r => (first + j, entOf r))) (fun p s => replaceEnt p.1 p.2 s) s
  let pages := ((l.mapIdx (fun j _ => (first + j) / 16))).eraseDups
  forEach pages (fun p s => entBack (16 * p) s) s

/-! ### Host and partner-role commands -/

/-- a write of SCH.CMD (R332) -/
def schCmd (act target : Nat) (s : State) : State :=
  if !schActs s || decide (3 < act) || !(isLocal target || isRemote target) then refuse s
  else
    let a : ActS := { rec_ := { origin := 3, target := target }, act := act }
    if isLocal target then chDo target [a] s else sendRemote target (now16 s) a s

/-- an action asked for by the controller of link k on remote channel c for instant t; ref its SEQ or command identity; true when
the channel takes it (R401) -/
def partnerAct (k c act t ref : Nat) (s : State) : Bool × State :=
  let n := rd s (CRL_LKk_CFG_CBASE k) + c
  if 15 < c || !chTakes s n act then (false, s)
  else
    let a : ActS := { rec_ := { t := t, origin := 3, target := n }, act := act, ref := some (k, ref) }
    if t ≤ now16 s then (true, chDo n [{ a with rec_ := { a.rec_ with flags := flLate } }] s)
    else (true, modSw n (fun x => { x with load := x.load ++ [{ at_ := t, base := t, act := a }] }) s)

/-- a partner's outcome event: the record of the remote action it answers (R325, R327) -/
def remoteOutcome (link addr chan ref result flags t fbpm : Nat) (s : State) : State :=
  let hit (r : RemoteS) : Bool := r.link == link && r.addr == addr && r.chan == chan && (r.seq == some ref || r.ident == some ref)
  match s.sch.remote.find? hit with
  | none => s
  | some r =>
    let s := if r.ident.isSome && !(ix s.sch.rc r.act.slot).fired then rcFire r.act.slot false s else s
    let s := modSch (fun c => { c with remote := c.remote.filter (fun x => x.id != r.id) }) s
    let res := if r.act.rec_.result = 2 && result = 0 then 2 else result
    finish r.id r.act { r.act.rec_ with t := t, result := res, flags := r.act.rec_.flags ||| (flags % 2048), fbpm := fbpm } s

/-! ### The comparator test (R56, R334) -/

def schTestGo (s : State) : State :=
  if !isolated s 11 then refuse s
  else s |> put SCH_TEST_GO 1 |> put SCH_TESTRES_DONE 0 |> modSch (fun c => { c with testEnd := some (s.now + rd s SCH_TEST_DELAY * usU) })

/-- the test edge fires, with the error the hardware measured -/
def schTestDone (err : Int) (s : State) : State :=
  match s.sch.testEnd with
  | none => s
  | some t =>
    advanceTo t s |> modSch (fun c => { c with testEnd := none }) |> put SCH_TEST_GO 0 |> put SCH_TESTRES_DONE 1 |> putS SCH_TESTRES_ERR err

/-! ### Resets (R336) -/

/-- comparators clear (R336) -/
def schClear (s : State) : State := modSch (fun c => { c with tR := none, testEnd := none }) (clearLoads s)

/-- commands not committed are cancelled after a reset (R336) -/
def schCancel (s : State) : State := forEach (List.range 8) (fun k s => if rcPhase s k = 1 then rcCancel k 2 s else s) s

/-- a reset of block SCH: pending write-backs complete, the working copy reloads; a pass follows the reset (R322, R331) -/
def schReset (t0 : Nat) (s : State) : State :=
  let s := rebuildEnts (oqGap t0 (schClear (flushWb s)))
  if schState s = 2 || schState s = 3 then put SCH_STAT_STATE 3 (modSch (fun c => { c with why := some .rebuilt, whyAt := s.now }) s) else s

/-- SCH leaves its block reset -/
def schResume (s : State) : State := recoverStart (schCancel s)

end Sys2Proof.Machine
end

