-- ==== Sys2Proof/Machine/Crl.lean ====
section
/-! DEFINITION. CRL: the link engine (R378 to R384), the answers of a partner-role link (R384 to R386, R395, R401), time transfer
and slot 28 (R394 to R400), the letterbox (R402), resets (R407). -/

namespace Sys2Proof.Machine
open Sys2Proof.Reg

/-! ### Timers of a link -/

/-- RPER in device time, below 10 ms as 10 (R403) -/
def rper (s : State) (k : Nat) : Nat := max 10 (rd s (CRL_LKk_TIM_RPER k)) * msU

/-- RETRY attempts, 0 as 1; MISS rounds, 0 as 1 -/
def retries (s : State) (k : Nat) : Nat := orElse0 (rd s (CRL_LKk_TIM_RETRY k)) 1
def missMax (s : State) (k : Nat) : Nat := orElse0 (rd s (CRL_LKk_TIM_MISS k)) 1

/-- from the SOF of a frame to the end of its EOF (R374) -/
def frameTime (len : Nat) (franked : Bool) : Nat := (14 + len + (if franked then 16 else 0)) * 320 * nsU

/-! ### Configuration (R392, R403) -/

/-- ERR of link k, whatever EN holds (log entry 161): 1 a partner at address 0, 2 an unusable key slot (R403) -/
def linkErr (s : State) (k : Nat) : Nat :=
  if on s (CRL_LKk_CFG_ROLE k) then
    if rd s (CRL_LKk_CFG_ADDR k) = 0 then 1
    else if on s (CRL_LKk_KEY_KEY_EN k) && (frankKey s k 0).isNone then 2 else 0
  else if (List.range 31).any (fun j => onB s (pIx k (j + 1)) CRL_P_CFG_KEY_EN && (frankKey s k (j + 1)).isNone) then 2 else 0

/-- CFG_ERR and ERR of link k; a rise raises source 76 (R392, R406) -/
def linkCfgEval (k : Nat) (s : State) : State :=
  if !s.img.applied then s
  else
    let e := linkErr s k
    let s := if e != 0 && !on s (CRL_LKk_STAT_CFG_ERR k) then raise 76 none s else s
    s |> putB (CRL_LKk_STAT_CFG_ERR k) (e != 0) |> put (CRL_LKk_STAT_ERR k) e

def linksCfgEval (s : State) : State := forEach (List.range 4) linkCfgEval s

/-! ### Slot 28 (R399) -/

/-- may link k serve slot 28 -/
def folOk (s : State) (k : Nat) : Bool :=
  let l := ix s.crl.link k
  parUp s k && isCascade s k && mode s 5 && rd s (CRL_LKk_STAT_PSTATE k) == 2 && decide (2 ≤ rd s (CRL_LKk_STAT_VER k))
    && (!mode s 7 || (keyEn s k 0 && (frankKey s k 0).isSome)) && l.timeSet && l.exchAt.isSome

/-- slot 28 and FOL_STAT with their source -/
def folPublish (c : Option Nat) (s : State) : State :=
  let s := modCrl (fun x => { x with fol := c }) s
  let s := if on s CRL_FOL_STAT_VALID == c.isSome then s else put CRL_EVT_CASCADE 1 s
  let s := putB CRL_FOL_STAT_VALID c.isSome s
  match c with
  | some k => setSrc 28 true (ix s.crl.link k).ql (put CRL_FOL_STAT_LINK k s)
  | none => setSrc 28 false 15 s

/-- the link slot 28 is taken from: it stays while valid; then, one core cycle later, the lowest-numbered valid link. A cascade
partner without a key under MODE_SE is reported once (R399, R54) -/
def folEval (s : State) : State :=
  let s := forEach (List.range 4) (fun k s =>
    let bad := parUp s k && isCascade s k && mode s 5 && mode s 7 && (frankKey s k 0).isNone
    let s := if bad && !(ix s.crl.link k).unauth then raise 74 (some k) s else s
    modLink k (fun l => { l with unauth := bad }) s) s
  let s := match s.crl.fol with
    | some k =>
      if folOk s k then s
      else
        let s := folPublish none s
        if (List.range 4).any (folOk s) then advanceTo ((cycleNow s + 1) * cycU) s else s
    | none => s
  match s.crl.fol with
  | some k => folPublish (some k) s
  | none =>
    match (List.range 4).find? (folOk s) with
    | some k => folPublish (some k) s
    | none => folPublish none s

/-! ### Calibration of a partner's cable delay (R400) -/

/-- a calibration run ends -/
def calEnd (i : Nat) (ok : Bool) (s : State) : State :=
  let s := modPart i (fun p => { p with calSmp := [] }) s
  s |> putIn i CRL_P_CAL_CAL_RUN 0 |> putIn i CRL_P_CAL_CAL_ERR (b2n (!ok)) |> put CRL_EVT_CAL 1

/-- a run that is under way fails -/
def calFail (i : Nat) (s : State) : State := if onB s i CRL_P_CAL_CAL_RUN then calEnd i false s else s

/-- d_raw of an exchange of the run; the 1024th ends it, with the deviation over the 1024 themselves (log entry 162) -/
def calSample (i : Nat) (d : Int) (s : State) : State :=
  if !onB s i CRL_P_CAL_CAL_RUN then s
  else
    let s := modPart i (fun p => { p with calSmp := p.calSmp ++ [d] }) s
    let l := (ix s.crl.part i).calSmp
    if l.length < 1024 then s
    else
      let n := l.length
      let sum := l.foldl (fun a b => a + b) (0 : Int)
      let sq := l.foldl (fun a b => a + b * b) (0 : Int)
      let sd := roundSqrtDiv (((n : Int) * sq - sum * sum).toNat * 1000000) (2 ^ 32 * n * n)
      let s := putIn i CRL_P_CAL_CAL_SD (min sd 65535) s
      if 2000 < sd then calEnd i false s
      else calEnd i true (s |> putIn i CRL_P_CABD_CABLE_D (uns 32 (satS 32 (roundDiv sum (n : Int)))) |> putIn i CRL_P_CAL_CALV 1)

/-! ### States of an address (R382) -/

/-- every transaction of an address leaves the pool: what poste restante would hold is dead-lettered, FLUSHED (R382) -/
def flushTxns (k a : Nat) (s : State) : State :=
  forEach (s.crl.pool.filter (fun t => t.link == k && t.addr == a)) (fun t s => if holds t.type then poolDead 7 t.id s else poolDrop t.id s) s

/-- transactions above the version of the session: SWITCH is dead-lettered, the others are not sent (R387) -/
def dropAbove (k a : Nat) (s : State) : State :=
  let v := rdB s (pIx k a) CRL_P_STAT_VER
  forEach (s.crl.pool.filter (fun t => t.link == k && t.addr == a)) (fun t s =>
    if t.type = 0x20 && decide (v < 2) then poolDead 4 t.id s
    else if (decide (0x22 ≤ t.type) && decide (t.type ≤ 0x25) && decide (v < 3)) || (t.type = 0x30 && decide (v < 2)) then poolDrop t.id s
    else s) s

/-- address a of link k enters state st, with what the entry does -/
def setPState (k a st : Nat) (s : State) : State :=
  let i := pIx k a
  if pState s k a = st then s
  else
    let s := if pState s k a = 2 then calFail i s else s
    let m := rd s (CRL_LKk_PRES_PRESENT k)
    let s := put (CRL_LKk_PRES_PRESENT k) (if st = 2 || st = 3 then setBit m a else clrBit m a) (putIn i CRL_P_STAT_STATE st s)
    match st with
    | 2 => dropAbove k a (releaseHeld k a (putIn i CRL_P_STAT_MISSCNT 0 (put CRL_EVT_PRESENT 1 s)))
    | 4 => holdAll k a (raise 69 (some k) (put CRL_EVT_ABSENT 1 s))
    | 5 => raise 70 (some k) (put CRL_EVT_REJECT 1 s)
    | _ => s

/-- a partner is rejected for a reason (R384) -/
def reject (k a why : Nat) (s : State) : State := setPState k a 5 (putIn (pIx k a) CRL_P_STAT_RJ why s)

/-- the address no longer counts on frames under way: requests to it and frames owed to it end -/
def dropOwed (k a : Nat) (s : State) : State :=
  modLink k (fun l => { l with
    cur := match l.cur with
      | some c => if c.addr = a then none else some c
      | none => none
    tt := none, round := l.round.filter (fun p => p.1 != a), neg := l.neg.filter (fun p => p.1 != a) }) s

/-- the address becomes VACANT (R382) -/
def makeVacant (k a : Nat) (s : State) : State :=
  putIn (pIx k a) CRL_P_STAT_MISSCNT 0 (putIn (pIx k a) CRL_P_STAT_VER 0 (setPState k a 0 (flushTxns k a (dropOwed k a s))))

/-- P_CTL.FORGET (R382, R388) -/
def forget (k a : Nat) (s : State) : State := putIn (pIx k a) CRL_P_STAT_ID_VALID 0 (makeVacant k a s)

/-- negotiation begins or begins again (R384) -/
def negotiate (k a : Nat) (s : State) : State :=
  let s := setPState k a 1 s
  let s := modPart (pIx k a) (fun p => { p with chosen := 0 }) s
  modLink k (fun l => { l with neg := l.neg.filter (fun p => p.1 != a) ++ [(a, 5)] }) s

/-- P_CTL.RENEG: a REJECTED partner negotiates again (R382) -/
def reneg (k a : Nat) (s : State) : State := if pState s k a = 5 then negotiate k a s else s

/-! ### The round (R381) -/

/-- addresses in ascending rotation from a -/
def rotation (a : Nat) : List Nat := (List.range 31).map (fun j => (a - 1 + j) % 31 + 1)

/-- the frames of the next round (address, HELLO) and where the probe stops -/
def roundList (s : State) (k : Nat) : List (Nat × Bool) × Nat :=
  let l := ix s.crl.link k
  let all := (List.range 31).map (fun j => j + 1)
  let st (a : Nat) : Nat := pState s k a
  let exp (a : Nat) : Bool := onB s (pIx k a) CRL_P_CFG_EXPECT
  let polls := all.filter (fun a => st a == 2 || st a == 3)
  let hellos := all.filter (fun a => st a == 4 || (st a == 0 && exp a))
  let probes := ((rotation l.probe).filter (fun a => st a == 0 && !exp a)).take (rd s (CRL_LKk_CFG_PROBE_N k))
  let rej := if l.roundNo % 64 = 0 then all.filter (fun a => st a == 5) else []
  (polls.map (fun a => (a, false)) ++ (hellos ++ probes ++ rej).map (fun a => (a, true)),
    match probes.getLast? with
    | some a => a % 31 + 1
    | none => l.probe)

/-- a round begins -/
def roundBegin (k : Nat) (s : State) : State :=
  let r := roundList s k
  modLink k (fun l => { l with round := r.1, probe := r.2, roundNo := l.roundNo + 1, roundDue := false }) s

/-- is a round under way: frames still to send, or one on the line -/
def inRound (s : State) (k : Nat) : Bool :=
  let l := ix s.crl.link k
  !l.round.isEmpty || (match l.cur with
    | some c => c.type == 1 || c.type == 3
    | none => false)

/-- a round falls due: it begins, or waits for the one under way -/
def roundStart (k : Nat) (s : State) : State :=
  if !ctlUp s k then s
  else
    let s := advanceTo (ix s.crl.link k).roundAt s
    let s := modLink k (fun l => { l with roundAt := l.roundAt + rper s k }) s
    if inRound s k then modLink k (fun l => { l with roundDue := true }) s else roundBegin k s

/-- the request on the line has ended; a round that waited begins once the one under way is over -/
def reqEnd (k : Nat) (s : State) : State :=
  let s := modLink k (fun l => { l with cur := none }) s
  if (ix s.crl.link k).roundDue && !inRound s k then roundBegin k s else s

/-! ### Sending (R378, R379) -/

/-- the next SEQ of link k: 1 to 65535 -/
def takeSeq (k : Nat) (s : State) : Nat × State :=
  ((ix s.crl.link k).seq, modLink k (fun l => { l with seq := if 65535 ≤ l.seq then 1 else l.seq + 1 }) s)

/-- a request on the line; its answer is due RESP_TO after its EOF -/
def sendReq (k : Nat) (c : CurReq) (retry : Bool) (s : State) : State :=
  let s := sendFrame k c.addr c.type c.seq retry false c.payload s
  let fr := match (ix s.crl.link k).sent with
    | some (_, f) => f.frank.isSome
    | none => false
  let dl := s.now + frameTime c.payload.length fr + max 25 (rd s (CRL_LKk_TIM_RESP_TO k)) * usU
  modLink k (fun l => { l with cur := some { c with att := c.att + 1, dl := dl } }) s

/-- class of a transaction (R379) -/
def txnClass (type : Nat) : Nat :=
  match type with
  | 0x24 | 0x25 => 0
  | 0x22 | 0x30 => 1
  | 0x20 => 2
  | _ => 4

/-- the head of address a: its oldest transaction, where it can be sent (R379, R382, R469) -/
def headOf (s : State) (k a : Nat) : Option Txn :=
  if pState s k a != 2 && pState s k a != 3 then none
  else
    match s.crl.pool.find? (fun t => t.link == k && t.addr == a && t.heldAt.isNone) with
    | some t => if retries s k ≤ t.att || (inSafe s && (t.type == 0x20 || t.type == 0x22)) then none else some t
    | none => none

/-- the addresses that have something to send in class c -/
def candidates (s : State) (k c : Nat) : List Nat :=
  let l := ix s.crl.link k
  ((List.range 31).map (fun j => j + 1)).filter (fun a =>
    if c = 3 then l.round.any (fun p => p.1 == a) || l.neg.any (fun p => p.1 == a)
    else match headOf s k a with
      | some t => txnClass t.type == c
      | none => false)

/-- in ascending order, starting after the address served last -/
def nextAfter (a : Nat) (l : List Nat) : Option Nat :=
  match l.find? (fun x => decide (a < x)) with
  | some x => some x
  | none => l.head?

/-- the VMAP a negotiation offers: versions 1 to VMAX, 0 acting as 3 (R384, R404) -/
def vOffer (s : State) (k a : Nat) : Nat := 2 ^ (orElse0 (rdB s (pIx k a) CRL_P_CFG_VMAX) 3 + 1) - 2

/-- the highest version in both maps, 0 for none -/
def topVersion (m n : Nat) : Nat := if bitAt (m &&& n) 3 then 3 else if bitAt (m &&& n) 2 then 2 else if bitAt (m &&& n) 1 then 1 else 0

/-- a negotiation or round frame to address a -/
def sendClass3 (k a : Nat) (s : State) : State :=
  let l := ix s.crl.link k
  match l.neg.find? (fun p => p.1 == a) with
  | some (_, t) =>
    let s := modLink k (fun l => { l with neg := l.neg.filter (fun p => p.1 != a) }) s
    if t = 5 then sendReq k { addr := a, type := 5, payload := [BitVec.ofNat 8 (vOffer s k a), 0, 0, 0] } false s
    else
      let q := takeSeq k s
      sendReq k { addr := a, type := 7, seq := q.1, payload := [BitVec.ofNat 8 (ix s.crl.part (pIx k a)).chosen, 0, 0, 0] } false q.2
  | none =>
    let hello := l.round.any (fun p => p.1 == a && p.2)
    let s := modLink k (fun l => { l with round := l.round.filter (fun p => p.1 != a) }) s
    sendReq k { addr := a, type := if hello then 3 else 1 } false s

/-- a transaction sent: its SEQ is fixed at the first attempt (R378) -/
def sendTxn (k : Nat) (t : Txn) (s : State) : State :=
  let q := match t.seq with
    | some n => (n, s)
    | none => takeSeq k s
  let s := modTxn t.id (fun x => { x with seq := some q.1 }) q.2
  let s := if t.type = 0x20 then
      modSch (fun c => { c with remote := c.remote.map (fun r => if r.txn = t.id && r.ident.isNone then { r with seq := some q.1 } else r) }) s
    else s
  let s := if t.type = 0x30 then
      modLink k (fun l => { l with tt := some { addr := t.addr, seq := q.1, t1 := (now16 s : Int) + rdS s (CRL_LKk_TXLAT_LAT k), cal := t.tag == 1 } }) s
    else s
  let body := if t.type = 0x14 then leBytes 2 (ix s.crl.part (pIx k t.addr)).evLast else t.payload
  sendReq k { addr := t.addr, type := t.type, seq := q.1, payload := body, txn := some t.id } t.retry s

/-- the bus is free: the head of the lowest class goes out (R379); one that may not be sent for want of a key leaves the pool (R50) -/
def busFree (k : Nat) (s : State) : State :=
  if !ctlUp s k || (ix s.crl.link k).cur.isSome then s
  else
    match (List.range 5).find? (fun c => !(candidates s k c).isEmpty) with
    | none => s
    | some c =>
      match nextAfter (ix (ix s.crl.link k).served c) (candidates s k c) with
      | none => s
      | some a =>
        let s := modLink k (fun l => { l with served := vset l.served c a }) s
        if c = 3 then sendClass3 k a s
        else
          match headOf s k a with
          | none => s
          | some t =>
            if noKey s k a then (if holds t.type then poolDead 3 t.id s else poolDrop t.id s)
            else sendTxn k t s

/-- EVT_GET to address a enters the pool (R386) -/
def askEvent (k a : Nat) (s : State) : State := (issueTxn { link := k, addr := a, type := 0x14 } s).2

/-! ### No answer (R378, R382) -/

/-- a POLL or HELLO to address a went unanswered -/
def roundMiss (k a : Nat) (s : State) : State :=
  let i := pIx k a
  let s := putIn i CRL_P_STAT_MISSCNT (satInc (rdB s i CRL_P_STAT_MISSCNT) 255) s
  let s := if pState s k a = 2 then setPState k a 3 s else s
  if pState s k a = 3 && decide (missMax s k ≤ rdB s i CRL_P_STAT_MISSCNT) then setPState k a 4 s else s

/-- the attempts of a request are exhausted -/
def exhausted (k : Nat) (c : CurReq) (s : State) : State :=
  match c.txn with
  | some i =>
    let s := modTxn i (fun t => { t with att := retries s k, retry := true }) s
    if pState s k c.addr = 2 then setPState k c.addr 3 s else s
  | none => setPState k c.addr (if onB s (pIx k c.addr) CRL_P_STAT_ID_VALID then 4 else 0) s

/-- RESP_TO passed without an accepted response: NORESP, and the request again while attempts are left; round frames and time-transfer
requests are not repeated (R378, R395) -/
def respTimeout (k : Nat) (s : State) : State :=
  match (ix s.crl.link k).cur with
  | none => s
  | some c =>
    if !ctlUp s k then s
    else
      let s := bump (CRL_LKk_CNT0_NORESP k) (advanceTo c.dl s)
      if c.type = 1 || c.type = 3 then reqEnd k (roundMiss k c.addr s)
      else if c.type = 0x30 then
        let s := modLink k (fun l => { l with tt := none }) s
        reqEnd k (match c.txn with
          | some i => poolDrop i s
          | none => s)
      else if c.att < retries s k then sendReq k c true s
      else reqEnd k (exhausted k c s)

/-! ### Receiving -/

/-- the stamp of an accepted frame enters the queue as CAP_ALL and CAP_TT ask; bit 7: its tag passed (R403) -/
def rxStamp (k type : Nat) (passed : Bool) (s : State) : State :=
  let tt := decide (0x30 ≤ type) && decide (type ≤ 0x32)
  if on s (CRL_LKk_TSQCFG_CAP_ALL k) || (on s (CRL_LKk_TSQCFG_CAP_TT k) && tt) then
    linkTsPush k (now16 s) (unlockFlag s ||| (if tt then 64 else 0) ||| (if passed then 128 else 0)) s
  else s

/-- does a frame of type t answer a request of type r (R377) -/
def answersReq (r t : Nat) : Bool :=
  match r with
  | 0x01 => t == 0x02 || t == 0x04
  | 0x03 => t == 0x04
  | 0x05 => t == 0x06 || t == 0x3F
  | 0x07 => t == 0x08 || t == 0x3F
  | 0x10 => t == 0x11 || t == 0x3F
  | 0x14 => t == 0x15 || t == 0x3F
  | 0x22 => t == 0x23 || t == 0x3F
  | 0x30 => t == 0x31 || t == 0x3F
  | _ => t == 0x13 || t == 0x3F

/-- a frame arrives at a controller (R376, R390): accepted only from the partner addressed; act has the request it answers; fail what
follows a tag that did not pass -/
def ctlFrame (k type : Nat) (f : CrlFrame) (fail act : CurReq → State → State) (s : State) : State :=
  if !ctlUp s k then s
  else
    match (ix s.crl.link k).cur with
    | none => rejectFrame k s
    | some c =>
      if f.bad || f.dst != 0 || f.src != c.addr || decide (256 < f.payload.length) then rejectFrame k s
      else
        let r := frankCheck k c.addr type f s
        match r.1 with
        | none => fail c r.2
        | some passed =>
          let s := rxStamp k type passed r.2
          if !answersReq c.type type || (type != 0x15 && f.seq != c.seq) then s
          else act c (reqEnd k s)

/-- no action -/
def keepOn (_ : CurReq) (s : State) : State := s

/-- the transaction of a request is complete (R388): it leaves the pool -/
def txnDone (c : CurReq) (f : Txn → State → State) (s : State) : State :=
  match c.txn with
  | none => s
  | some i =>
    match s.crl.pool.find? (fun t => t.id == i) with
    | none => s
    | some t => f t (poolDrop i s)

/-- byte j of a payload -/
def byteAt (l : List Byte) (j : Nat) : Nat := (l.getD j 0).toNat

/-- a little-endian field of a payload -/
def fieldAt (l : List Byte) (j n : Nat) : Nat := leNat ((l.drop j).take n)

/-- the response to a letterbox transaction, with its TAG (R402) -/
def lbiAnswer (t : Txn) (kind : Nat) (body : List Byte) (s : State) : State :=
  lbiPush { link := t.link, addr := t.addr, kind := kind, tag := t.tag, payload := body } s

def rxPres (k : Nat) (f : CrlFrame) (s : State) : State :=
  ctlFrame k 0x02 f keepOn (fun c s =>
    let a := c.addr
    if pState s k a != 2 && pState s k a != 3 then s
    else
      let s := putIn (pIx k a) CRL_P_STAT_MISSCNT 0 (if pState s k a = 3 then setPState k a 2 s else s)
      if f.evp then askEvent k a s else s) s

/-- an IDENT (R382, R383, R384 step 1) -/
def rxIdent (k : Nat) (f : CrlFrame) (s : State) : State :=
  ctlFrame k 0x04 f keepOn (fun c s =>
    let a := c.addr
    let i := pIx k a
    let id := fieldAt f.payload 0 8
    let vmap := byteAt f.payload 9
    let nch := byteAt f.payload 10
    let s := putIn i CRL_P_STAT_MISSCNT 0 s
    if f.payload.length != 16 || vmap == 0 || nch == 0 || decide (16 < nch) then s
    else
      let differs := onB s i CRL_P_STAT_ID_VALID && (rdB s i CRL_P_ID_LO_ID + rdB s i CRL_P_ID_HI_ID * 2 ^ 32) != id
      if pState s k a = 1 || (pState s k a = 5 && !differs) then s
      else
        let s := if differs then raise 71 (some k) (put CRL_EVT_IDCHG 1 (flushHeld 5 k a s)) else s
        let s := modPart i (fun p => { p with vmap := vmap }) s
        let s := s |> putIn i CRL_P_ID_LO_ID id |> putIn i CRL_P_ID_HI_ID (id / 2 ^ 32) |> putIn i CRL_P_STAT_PTYPE (byteAt f.payload 8)
          |> putIn i CRL_P_STAT_NCH (nch - 1) |> putIn i CRL_P_STAT_ID_VALID 1
        negotiate k a s) s

/-- a NEG_ACK (R384 step 3) -/
def rxNegAck (k : Nat) (f : CrlFrame) (s : State) : State :=
  ctlFrame k 0x06 f keepOn (fun c s =>
    let a := c.addr
    let v := byteAt f.payload 1
    if pState s k a != 1 then s
    else if v = 0 then reject k a 1 s
    else if v != topVersion (vOffer s k a) (byteAt f.payload 0) then reject k a 4 s
    else if v < 3 && keyEn s k a then reject k a 3 s
    else modLink k (fun l => { l with neg := l.neg ++ [(a, 7)] }) (modPart (pIx k a) (fun p => { p with chosen := v }) s)) s

/-- a NEG_DONE (R384 steps 5 and 6) -/
def rxNegDone (k : Nat) (f : CrlFrame) (s : State) : State :=
  ctlFrame k 0x08 f (fun c s => if c.type = 7 then reject k c.addr 2 (reqEnd k s) else s) (fun c s =>
    let a := c.addr
    let v := (ix s.crl.part (pIx k a)).chosen
    if pState s k a != 1 then s
    else if byteAt f.payload 0 != v then reject k a 2 s
    else setPState k a 2 (putIn (pIx k a) CRL_P_STAT_VER v s)) s

/-- DATA completes a READ -/
def rxData (k : Nat) (f : CrlFrame) (s : State) : State := ctlFrame k 0x11 f keepOn (fun c => txnDone c (fun t s => lbiAnswer t 1 f.payload s)) s

/-- ACK completes WRITE, SWITCH, COMMIT or CANCEL -/
def rxAck (k : Nat) (f : CrlFrame) (s : State) : State :=
  ctlFrame k 0x13 f keepOn (fun c => txnDone c (fun t s =>
    if t.type = 0x12 then lbiAnswer t 2 [] s
    else match t.rc with
      | some (j, code) => if t.type = 0x24 || t.type = 0x25 then rcAcked j code s else s
      | none => s)) s

/-- EVT (R386): a switching outcome to SCH, any other event to the letterbox; then the next is asked for -/
def rxEvt (k : Nat) (f : CrlFrame) (s : State) : State :=
  ctlFrame k 0x15 f keepOn (fun c => txnDone c (fun t s =>
    if f.payload.isEmpty then s
    else
      let p := f.payload
      let s := modPart (pIx k t.addr) (fun x => { x with evLast := f.seq }) s
      let s := if byteAt p 0 = 1 && p.length == 36 then
          remoteOutcome k t.addr (byteAt p 1) (fieldAt p 2 2) (byteAt p 4 % 16) (fieldAt p 6 2 % 4096) (of12 (p.drop 8)) (fieldAt p 20 16) s
        else lbiPush { link := k, addr := t.addr, kind := 3, payload := p } s
      askEvent k t.addr s)) s

/-- ARM_RSP (R327 step 2): a result of 0 is armed -/
def rxArmRsp (k : Nat) (f : CrlFrame) (s : State) : State :=
  ctlFrame k 0x23 f keepOn (fun c => txnDone c (fun t s =>
    match t.rc with
    | some (j, code) => if byteAt f.payload 2 = 0 then rcArmed j (fieldAt f.payload 0 2) code s else s
    | none => s)) s

/-- NAK: a letterbox transaction gets its message; a SWITCH refused is a TARGET_ERR; a negotiation refused rejects the partner -/
def rxNak (k : Nat) (f : CrlFrame) (s : State) : State :=
  ctlFrame k 0x3F f keepOn (fun c s =>
    if c.type = 5 || c.type = 7 then (if pState s k c.addr = 1 then reject k c.addr 2 s else s)
    else
      let s := if c.type = 0x30 then modLink k (fun l => { l with tt := none }) s else s
      txnDone c (fun t s =>
        if t.host then lbiAnswer t 4 f.payload s
        else if t.type = 0x20 then modCrl (fun x => { x with dead := x.dead ++ [t.id] }) s
        else s) s) s

/-! ### Time served to a partner (R394 to R397) -/

/-- CLASS and ACCURACY of a TT_FUP -/
def ttQuality (s : State) : Nat × Nat :=
  let d := timeDpll s
  if (List.range 6).any (fun p => portState s p == 9) then (rd s PTP_GM_Q_CLASS, rd s PTP_GM_Q_ACCURACY)
  else if dpllState s d == 2 && actSlot s d == some 28 then (rd s CRL_FOL_Q_CLASS, rd s CRL_FOL_Q_ACCURACY)
  else (rd s PTP_CLK_STAT_CLASS, rd s PTP_CLK_STAT_ACCURACY)

/-- the payload of TT_FUP (R397) -/
def fupBody (s : State) (i : Nat) (t1 t4 : Int) : List Byte :=
  let q := ttQuality s
  let leap (d : Bool) : Bool := on s TKP_STAT_LEAP_PEND && on s TKP_STAT_LEAP_DEL == d
  let fl := b2n (on s TKP_STAT_TIME_SET) + 2 * b2n (leap false) + 4 * b2n (leap true) + 8 * b2n (onB s i CRL_P_CAL_CALV)
    + 16 * b2n (dpllState s (timeDpll s) == 2)
  time12 t1.toNat ++ time12 t4.toNat ++ leBytes 8 (uns 64 (rdBS s i CRL_P_CABD_CABLE_D)) ++ leBytes 8 (uns 64 (rdBS s i CRL_P_ASYM_ASYM))
    ++ [BitVec.ofNat 8 (qlOfClass q.1 q.2), BitVec.ofNat 8 q.1, BitVec.ofNat 8 q.2, BitVec.ofNat 8 (deltaAT s), BitVec.ofNat 8 fl, 0, 0, 0]

/-- the raw delay of an exchange (R398) -/
def rawDelay (t1 t2 t3 t4 : Int) : Int := roundDiv ((t4 - t1) - (t3 - t2)) 2

/-- TT_RESP (R395 steps 4 and 5): d_raw, and TT_FUP at once -/
def rxTtResp (k : Nat) (f : CrlFrame) (s : State) : State :=
  ctlFrame k 0x31 f keepOn (fun c => txnDone c (fun t s =>
    match (ix s.crl.link k).tt with
    | none => s
    | some x =>
      let i := pIx k t.addr
      let t4 := (now16 s : Int) - rdS s (CRL_LKk_RXLAT_LAT k)
      let d := rawDelay x.t1 (of12 f.payload : Nat) (of12 (f.payload.drop 12) : Nat) t4
      let s := putIn i CRL_P_DLY_D (uns 32 (satS 32 d)) s
      let s := modLink k (fun l => { l with tt := none }) s
      let s := sendFrame k t.addr 0x32 x.seq false false (fupBody s i x.t1 t4) s
      if x.cal then calSample i d s else s)) s

/-- is address a served but for its key, and is it served (R394) -/
def ttWanted (s : State) (k a : Nat) : Bool :=
  ctlUp s k && isCascade s k && mode s 5 && pState s k a == 2 && decide (2 ≤ rdB s (pIx k a) CRL_P_STAT_VER) && onB s (pIx k a) CRL_P_CFG_TT_EN
    && s.gen.todo.head? != some (5, false)
def ttServed (s : State) (k a : Nat) : Bool := ttWanted s k a && !noKey s k a

/-- the cascade partner without a key under MODE_SE reported once (R394) -/
def ttUnauth (k a : Nat) (s : State) : State :=
  let bad := ttWanted s k a && noKey s k a
  let s := if bad && !(ix s.crl.part (pIx k a)).unauth then raise 74 (some k) s else s
  modPart (pIx k a) (fun p => { p with unauth := bad }) s

/-- an exchange with address a falls due (R394) -/
def ttDue (k a : Nat) (s : State) : State :=
  let i := pIx k a
  let s := ttUnauth k a s
  if !ttServed s k a then s
  else
    let s := advanceTo (ix s.crl.part i).ttAt s
    let s := modPart i (fun p => { p with ttAt := s.now + secU / 2 ^ min 6 (rd s (CRL_LKk_TT_TT_RATE k)) }) s
    (issueTxn { link := k, addr := a, type := 0x30 } s).2

/-- P_CTL.CAL_START (R400) -/
def calStart (k a : Nat) (s : State) : State :=
  let i := pIx k a
  if pState s k a != 2 || decide (rdB s i CRL_P_STAT_VER < 2) then refuse s
  else putIn i CRL_P_CAL_CAL_RUN 1 (modPart i (fun p => { p with calAt := s.now, calNext := s.now, calSmp := [] }) s)

/-- may a time-transfer exchange be issued: MODE_CA is 1 and its exit has not started (R48, R60) -/
def ttMay (s : State) : Bool := mode s 5 && s.gen.todo.head? != some (5, false)

/-- one of the 1024 extra exchanges of the run; none is issued while MODE_CA is 0 or its exit runs (R48, R60) -/
def calDue (k a : Nat) (s : State) : State :=
  let i := pIx k a
  if !onB s i CRL_P_CAL_CAL_RUN || (ix s.crl.part i).calAt + 1024 * msU ≤ (ix s.crl.part i).calNext then s
  else
    let s := advanceTo (ix s.crl.part i).calNext s
    let s := modPart i (fun p => { p with calNext := p.calNext + msU }) s
    if ttMay s then (issueTxn { link := k, addr := a, type := 0x30, tag := 1 } s).2 else s

/-- 2 s after its start a run fails -/
def calTimeout (k a : Nat) (s : State) : State :=
  let i := pIx k a
  if !onB s i CRL_P_CAL_CAL_RUN then s else calFail i (advanceTo ((ix s.crl.part i).calAt + 2 * secU) s)

/-! ### The partner role (R384, R385, R401) -/

/-- a session of link k in partner role -/
def inSession (s : State) (k : Nat) : Bool := rd s (CRL_LKk_STAT_PSTATE k) == 2

/-- the session ends; targets already armed act by R328 -/
def endSession (k : Nat) (s : State) : State := folEval (s |> put (CRL_LKk_STAT_PSTATE k) 0 |> put (CRL_LKk_STAT_VER k) 0)

/-- a response of a partner -/
def sendResp (k : Nat) (r : Nat × Nat × List Byte) (s : State) : State :=
  sendFrame k (rd s (CRL_LKk_CFG_ADDR k)) r.1 r.2.1 false (!(ix s.crl.link k).events.isEmpty) r.2.2 s

/-- a frame arrives at a partner-role link (R376, R390); fail what follows a tag that did not pass -/
def parFrame (k type : Nat) (f : CrlFrame) (fail : State → State) (act : Bool → State → State) (s : State) : State :=
  if !parUp s k then s
  else if f.bad || f.dst != rd s (CRL_LKk_CFG_ADDR k) || decide (256 < f.payload.length) then rejectFrame k s
  else
    let s := modLink k (fun l => { l with frameAt := s.now }) s
    let r := frankCheck k (rd s (CRL_LKk_CFG_ADDR k)) type f s
    match r.1 with
    | none => fail r.2
    | some passed => act passed (rxStamp k type passed r.2)

/-- a request within a session: a repeated one gets the stored response, a new one is carried out and its response stored (R378); one of
a version above the session's is answered as unknown -/
def parRequest (k type : Nat) (f : CrlFrame) (act : State → (Nat × Nat × List Byte) × State) (s : State) : State :=
  parFrame k type f id (fun _ s =>
    if !inSession s k then s
    else
      let l := ix s.crl.link k
      if f.retry && l.pSeq == some f.seq then sendResp k l.resp s
      else
        let v := rd s (CRL_LKk_STAT_VER k)
        let low := (type == 0x20 && decide (v < 2)) || (decide (0x22 ≤ type) && decide (type ≤ 0x25) && decide (v < 3))
        let r := if low then ((0x3F, f.seq, [1, BitVec.ofNat 8 type, 0, 0]), s) else act s
        sendResp k r.1 (modLink k (fun l => { l with pSeq := some f.seq, resp := r.1 }) r.2)) s

/-- the answers ACK and NAK -/
def ackResp (f : CrlFrame) : Nat × Nat × List Byte := (0x13, f.seq, [])
def nakResp (f : CrlFrame) (code type : Nat) : Nat × Nat × List Byte := (0x3F, f.seq, [BitVec.ofNat 8 code, BitVec.ofNat 8 type, 0, 0])

/-- the IDENT of a partner-role link: the device's unique identity, type 3, VMAP 0x0E, 16 channels, time transfer and franking
supported (R380, R401) -/
def identBody (s : State) : List Byte := fuseBytes s 0xB4 8 ++ [3, 0x0E, 16, 3, 0, 0, 0, 0]

def rxPoll (k : Nat) (f : CrlFrame) (s : State) : State :=
  parFrame k 0x01 f id (fun _ s => sendResp k (if inSession s k then (0x02, 0, []) else (0x04, 0, identBody s)) s) s

def rxHello (k : Nat) (f : CrlFrame) (s : State) : State := parFrame k 0x03 f id (fun _ s => sendResp k (0x04, 0, identBody s) s) s

/-- NEG: the highest common version is chosen (R384) -/
def rxNeg (k : Nat) (f : CrlFrame) (s : State) : State :=
  parFrame k 0x05 f id (fun _ s =>
    let v := topVersion 0x0E (byteAt f.payload 0)
    let s := modPart (pIx k 0) (fun p => { p with chosen := v }) (endSession k s)
    let s := put (CRL_LKk_STAT_PSTATE k) (if v = 0 then 0 else 1) s
    sendResp k (0x06, 0, [0x0E, BitVec.ofNat 8 v, 0, 0]) s) s

/-- NEG_CFM: a session begins; one that ought to be franked and is not, or whose tag fails, is answered NAK 0x03 (R384) -/
def rxNegCfm (k : Nat) (f : CrlFrame) (s : State) : State :=
  let no (s : State) : State := sendResp k (nakResp f 3 7) (endSession k s)
  parFrame k 0x07 f no (fun passed s =>
    let v := (ix s.crl.part (pIx k 0)).chosen
    if (keyEn s k 0 && !passed) || (mode s 7 && (frankKey s k 0).isNone) || v == 0 || byteAt f.payload 0 != v then no s
    else
      let s := s |> put (CRL_LKk_STAT_PSTATE k) 2 |> put (CRL_LKk_STAT_VER k) v
      folEval (sendResp k (0x08, f.seq, [BitVec.ofNat 8 v, 0, 0, 0]) s)) s

/-- EVT_GET: the event its SEQ names is acknowledged, the oldest one left is sent (R386) -/
def rxEvtGet (k : Nat) (f : CrlFrame) (s : State) : State :=
  parRequest k 0x14 f (fun s =>
    let n := fieldAt f.payload 0 2
    let s := modLink k (fun l => { l with events := l.events.filter (fun e => e.1 != n) }) s
    match (ix s.crl.link k).events with
    | [] => ((0x15, f.seq, []), s)
    | e :: _ => ((0x15, e.1, e.2), s)) s

/-- SWITCH: a timed action, acknowledged on receipt (R385, R401) -/
def rxSwitch (k : Nat) (f : CrlFrame) (s : State) : State :=
  parRequest k 0x20 f (fun s =>
    let t := (fieldAt f.payload 4 6 * 1000000000 + fieldAt f.payload 10 4) * 65536
    let r := if schActs s then partnerAct k (byteAt f.payload 0) (byteAt f.payload 1) t f.seq s else (false, s)
    (if r.1 then ackResp f else nakResp f 4 0x20, r.2)) s

/-- ARM: the target waits (R328) -/
def rxArm (k : Nat) (f : CrlFrame) (s : State) : State :=
  parRequest k 0x22 f (fun s =>
    let p := f.payload
    let c := byteAt p 0
    let n := rd s (CRL_LKk_CFG_CBASE k) + c
    let t := (fieldAt p 4 6 * 1000000000 + fieldAt p 10 4) * 65536
    let ok := decide (c ≤ 15) && canArm s n (byteAt p 1) && schActs s
    let s := if ok then modLink k (fun l => { l with armed := l.armed ++ [{ ident := fieldAt p 2 2, chan := c, act := byteAt p 1, tf := t }] }) s else s
    ((0x23, f.seq, (p.drop 2).take 2 ++ [if ok then 0 else 4, 0]), s)) s

/-- COMMIT: the armed targets of the identity fire at T_f (R328) -/
def rxCommit (k : Nat) (f : CrlFrame) (s : State) : State :=
  parRequest k 0x24 f (fun s =>
    let i := fieldAt f.payload 0 2
    let l := (ix s.crl.link k).armed.filter (fun a => a.ident == i)
    if l.isEmpty then (nakResp f 5 0x24, s)
    else
      let s := modLink k (fun x => { x with armed := x.armed.map (fun a => if a.ident = i then { a with committed := true } else a) }) s
      (ackResp f, forEach (l.filter (fun a => !a.committed)) (fun a s => (partnerAct k a.chan a.act a.tf i s).2) s)) s

/-- CANCEL: armed targets disarm; an action that a SWITCH of that SEQ scheduled is dropped (R328, R329) -/
def rxCancel (k : Nat) (f : CrlFrame) (s : State) : State :=
  parRequest k 0x25 f (fun s =>
    let i := fieldAt f.payload 0 2
    let arm := (ix s.crl.link k).armed.any (fun a => a.ident == i && !a.committed)
    let mine (x : LoadedS) : Bool := x.act.ref == some (k, i)
    let sw := (List.range 48).any (fun n => (ix s.sch.ch n).load.any mine)
    if arm then (ackResp f, modLink k (fun x => { x with armed := x.armed.filter (fun a => a.ident != i) }) s)
    else if sw then
      (ackResp f, forEach (List.range 48) (fun n s => modSw n (fun c => { c with load := c.load.filter (fun x => !mine x) }) s) s)
    else (nakResp f 5 0x25, s)) s

/-- the earliest armed target without commit reaches T_f: it disarms and reports NO_COMMIT (R328) -/
def armExpiry (k : Nat) (s : State) : State :=
  match ((ix s.crl.link k).armed.filter (fun a => !a.committed)).map (fun a => a.tf) with
  | [] => s
  | t :: r =>
    let s := goTo16 (r.foldl (fun a b => min a b) t) s
    let gone := (ix s.crl.link k).armed.filter (fun a => !a.committed && decide (a.tf ≤ now16 s))
    let s := modLink k (fun l => { l with armed := l.armed.filter (fun a => decide (now16 s < a.tf)) }) s
    forEach gone (fun a s =>
      let n := rd s (CRL_LKk_CFG_CBASE k) + a.chan
      let p := openPlace n s
      finish p.1 { ref := some (k, a.ident) } { t := a.tf, origin := 3, target := n, result := 10 } p.2) s

/-- TT_REQ (R395 steps 2 and 3): t2, and the launch at the first bit boundary at or after t2 + 16 µs -/
def rxTtReq (k : Nat) (f : CrlFrame) (s : State) : State :=
  parFrame k 0x30 f id (fun _ s =>
    if !inSession s k || !mode s 5 then s
    else if rd s (CRL_LKk_STAT_VER k) < 2 then sendResp k (nakResp f 1 0x30) s
    else
      let lat := rdS s (CRL_LKk_RXLAT_LAT k)
      let r := fresh s
      let at_ := ((r.2.now + 16 * usU : Nat) : Int) - 20 * lat + ((r.1 % (32 * nsU) : Nat) : Int)
      modLink k (fun l => { l with t2 := (now16 r.2 : Int) - lat, ttSeq := some f.seq, launch := some at_.toNat }) r.2) s

/-- TT_RESP leaves at its launch -/
def ttLaunch (k : Nat) (s : State) : State :=
  match (ix s.crl.link k).launch with
  | none => s
  | some t =>
    let s := advanceTo t s
    let t3 := (now16 s : Int) + rdS s (CRL_LKk_TXLAT_LAT k)
    let s := modLink k (fun l => { l with launch := none, t3 := t3 }) s
    let l := ix s.crl.link k
    sendResp k (0x31, l.ttSeq.getD 0, time12 l.t2.toNat ++ time12 t3.toNat) s

/-- what a TT_FUP carries for slot 28 (R397, R399): validity, quality, the sample, ΔAT and the leap announcement -/
def folTake (k : Nat) (p : List Byte) (smp : Option Int) (s : State) : State :=
  let fl := byteAt p 44
  let s := modLink k (fun l => { l with timeSet := bitAt fl 0, ql := byteAt p 40 % 16, exchAt := if smp.isSome then some s.now else l.exchAt }) s
  let s := folEval s
  if s.crl.fol.isSome && s.crl.fol != some k then s
  else
    let s := s |> put CRL_FOL_STAT_TFLAGS fl |> put CRL_FOL_STAT_QL (byteAt p 40) |> put CRL_FOL_Q_CLASS (byteAt p 41)
      |> put CRL_FOL_Q_ACCURACY (byteAt p 42) |> put CRL_FOL_Q_DAT (byteAt p 43)
    match smp with
    | none => s
    | some x =>
      let s := put CRL_FOL_OFF_SAMPLE (uns 32 (satS 32 x)) s
      if s.crl.fol = some k then
        slotSample 28 x (slotTimeInfo 28 (some (byteAt p 43)) (bitAt fl 1 || bitAt fl 2) (bitAt fl 2) s)
      else s

/-- TT_FUP (R395 step 6, R398) -/
def rxTtFup (k : Nat) (f : CrlFrame) (s : State) : State :=
  parFrame k 0x32 f id (fun _ s =>
    let l := ix s.crl.link k
    let p := f.payload
    if !inSession s k then s
    else if l.launch.isSome || l.ttSeq != some f.seq || p.length != 48 || decide (65536000000 < ((now16 s : Int) - l.t3).natAbs) then bump CRL_FOL_CNT_FUP_LATE s
    else
      let s := modLink k (fun l => { l with ttSeq := none }) s
      let t1 : Int := of12 p
      let t4 : Int := of12 (p.drop 12)
      let cable := sgn 64 (fieldAt p 24 8)
      let raw := rawDelay t1 l.t2 l.t3 t4
      let calv := bitAt (byteAt p 44) 3
      let tol := rd s (CRL_LKk_TT_DTOL k)
      if calv && tol != 0 && decide (tol * 65536 < (raw - cable).natAbs) then folTake k p none (bump CRL_FOL_CNT_DREJ s)
      else folTake k p (some (-(l.t2 - t1 - (if calv then cable else raw) - sgn 64 (fieldAt p 32 8)))) s) s

/-- RPER without an addressed frame: the session ends (R401) -/
def sessionTimeout (k : Nat) (s : State) : State :=
  if parUp s k && rd s (CRL_LKk_STAT_PSTATE k) != 0 then endSession k (advanceTo ((ix s.crl.link k).frameAt + rper s k) s) else s

/-- 2.5 s without an accepted exchange (R399) -/
def cascadeTimeout (k : Nat) (s : State) : State :=
  match (ix s.crl.link k).exchAt with
  | none => s
  | some t => folEval (modLink k (fun l => { l with exchAt := none }) (advanceTo (t + 2 * secU + secU / 2) s))

/-! ### Poste restante and the letterbox (R388, R389, R402) -/

/-- the oldest transaction held for address a reaches PR_LIFE (R388) -/
def prExpiry (k a : Nat) (s : State) : State :=
  let life := rdB s (pIx k a) CRL_P_CFG_PR_LIFE
  if life = 0 || pState s k a != 4 then s
  else
    match heldFor s k a with
    | [] => s
    | t :: _ => poolDead 1 t.id (advanceTo (t.heldAt.getD 0 + life * 60 * secU) s)

/-- the check of a POST (R402): its REFUSE code, 0 for none -/
def postRefuse (s : State) (k a type len words : Nat) (body : List Byte) : Nat :=
  let count := fieldAt body 4 2
  let bad := if type = 0x10 then len != 8 || count == 0 || decide (256 < count) else decide (len < 5)
  if 256 < len || bad then 1
  else if words != (len + 3) / 4 then 2
  else if !on s (CRL_LKk_CFG_EN k) || on s (CRL_LKk_CFG_ROLE k) then 3
  else if 512 ≤ s.crl.pool.length then 4
  else if a = 0 then 5
  else 0

/-- a READ or WRITE posted through the checks of R402 -/
def postTxn (k a type tag len words : Nat) (body : List Byte) (s : State) : Nat × State :=
  let r := postRefuse s k a type len words body
  if r != 0 then (r, s)
  else (0, (issueTxn { link := k, addr := a, type := type, payload := body, tag := tag, host := true } s).2)

/-- LBO_CTL.POST -/
def lbPost (s : State) : State :=
  let body := (s.crl.staged.flatMap (fun w => leBytes 4 w.toNat)).take (rd s CRL_LBO_HDR_LEN)
  let r := postTxn (rd s CRL_LBO_HDR_LINK) (rd s CRL_LBO_HDR_ADDR) (if on s CRL_LBO_HDR_KIND then 0x12 else 0x10) (rd s CRL_LBO_HDR_TAG)
    (rd s CRL_LBO_HDR_LEN) s.crl.staged.length body s
  let s := put CRL_LBO_STAT_REFUSE r.1 r.2
  if r.1 = 0 then modCrl (fun c => { c with staged := [] }) s else refuse s

/-- LBO_DATA: the next word; a 65th is ignored with the host access fault (R405) -/
def lbData (w : Nat) (s : State) : State :=
  if 64 ≤ s.crl.staged.length then refuse s else modCrl (fun c => { c with staged := c.staged ++ [BitVec.ofNat 32 w] }) s

/-- CTL.DLQ_RESEND: the head is posted again and popped (R389) -/
def dlqResend (s : State) : State :=
  match s.crl.dlq with
  | [] => s
  | (t, _) :: rest =>
    if t.type != 0x10 && t.type != 0x12 then refuse s
    else
      let n := t.payload.length
      let r := postTxn t.link t.addr t.type t.tag n ((n + 3) / 4) t.payload s
      let s := put CRL_LBO_STAT_REFUSE r.1 r.2
      if r.1 = 0 then modCrl (fun c => { c with dlq := rest ++ c.dlq.drop (rest.length + 1) }) s else refuse s

def dlqPop (s : State) : State := modCrl (fun c => { c with dlq := c.dlq.tail }) s
def lbiPop (s : State) : State := modCrl (fun c => { c with lbi := c.lbi.tail }) s

/-! ### Links on and off (R382, R407) -/

/-- the frame in flight and what waits for an answer are abandoned; each partner's head goes again from its first attempt (R407) -/
def abandonFrames (k : Nat) (s : State) : State :=
  let s := match (ix s.crl.link k).cur with
    | some c => if c.type = 5 || c.type = 7 then modLink k (fun l => { l with neg := (c.addr, c.type) :: l.neg }) s else s
    | none => s
  let s := modLink k (fun l => { l with cur := none, tt := none, launch := none, ttSeq := none }) s
  modCrl (fun c => { c with pool := c.pool.map (fun t => if t.link = k then { t with att := 0, retry := t.retry || t.seq.isSome } else t) }) s

/-- link k off, or its ROLE changed: its addresses VACANT, its session over (R382) -/
def linkStop (k : Nat) (s : State) : State :=
  let s := forEach (List.range 31) (fun j s => makeVacant k (j + 1) s) s
  let s := modLink k (fun l => { l with cur := none, tt := none, launch := none, ttSeq := none, round := [], roundDue := false, neg := [], pSeq := none, timeSet := false, exchAt := none }) s
  endSession k s

/-- link k on: its first round is due at once -/
def linkStart (k : Nat) (s : State) : State := modLink k (fun l => { l with roundAt := s.now, roundDue := false, round := [], frameAt := s.now }) s

/-- CRL isolated; released, when a round starts at once (R56, R407) -/
def crlIsolate (s : State) : State := folEval (forEach (List.range 4) abandonFrames s)
def crlRelease (s : State) : State :=
  let s := modCrl (fun c => { c with pool := c.pool.map (fun t => if pState s t.link t.addr = 4 then t else { t with heldAt := none }) }) s
  folEval (forEach (List.range 4) (fun k s =>
    if ctlUp s k then roundBegin k (modLink k (fun l => { l with roundAt := s.now + rper s k }) s) else s) s)

/-- a reset of block CRL: frames abandoned, a gap record per timestamp queue (R39, R407) -/
def crlBlockReset (t0 : Nat) (s : State) : State :=
  forEach (List.range 4) (fun k s => linkTsGap k t0 (0x110 + k) (abandonFrames k (linkTsCut k s))) s

/-- what an L1 reset discards, counted in DLQ_STAT.LOST (R407); stored identities and the counters of franking stay -/
def crlL1 (s : State) : State :=
  let n := s.crl.pool.length + s.crl.lbi.length + s.crl.dlq.length
  let s := put CRL_DLQ_STAT_LOST (min 65535 (rd s CRL_DLQ_STAT_LOST + n)) s
  let s := modCrl (fun c => { c with
    pool := [], lbi := [], dlq := [], staged := [], fol := none
    link := c.link.map (fun l => { tsq := l.tsq, seq := l.seq, armed := l.armed, events := l.events, evLoss := l.evLoss, evSeq := l.evSeq, sent := l.sent })
    part := c.part.map (fun _ => {}) }) s
  forEach (List.range 128) (fun i s => s |> putIn i CRL_P_STAT_STATE 0 |> putIn i CRL_P_STAT_VER 0 |> putIn i CRL_P_STAT_RJ 0 |> putIn i CRL_P_STAT_MISSCNT 0) s

/-! ### The loopback test (R405) -/

def crlTestGo (s : State) : State :=
  if isolated s 13 then s |> put CRL_TEST_GO 1 |> put CRL_TESTRES_DONE 0 else refuse s

/-- the test ends with what the hardware measured -/
def crlTestDone (pass : Bool) (loop : Nat) (s : State) : State :=
  if on s CRL_TEST_GO then
    s |> put CRL_TEST_GO 0 |> put CRL_TESTRES_DONE 1 |> putB CRL_TESTRES_PASS pass |> put CRL_TESTRES_LOOP (min loop 65535)
  else s

end Sys2Proof.Machine
end

