-- ==== Sys2Proof/Machine/Mns.lean ====
section
/-! DEFINITION. MNS operations: the mains estimator (R263 to R273), zero crossings (R274 to R276), phase sequence (R277),
grid time (R278 to R282). -/

namespace Sys2Proof.Machine
open Sys2Proof.Reg

def modChan (n : Nat) (f : ChanS → ChanS) (s : State) : State := modMns (fun m => { m with ch := upd m.ch n f }) s
def modGrid (f : GridS → GridS) (s : State) : State := modMns (fun m => { m with grid := f m.grid }) s

/-- f_g in Hz (R265) -/
def fGrid (s : State) : Nat := if on s MNS_GCFG_GRID_F then 60 else 50
/-- T_g in units of device time and of the time of day -/
def tGridU (s : State) : Nat := roundDivN secU (fGrid s)
/-- updates in c nominal cycles -/
def cycUps (s : State) (c : Nat) : Nat := ceilDiv (c * 25000) (fGrid s)
/-- h Hz as f̂ is kept -/
def hz48 (h : Nat) : Int := (h * 2 ^ 48 : Nat)
/-- the sample interval, 40 µs -/
def sampleU : Nat := 40 * usU

def chState (s : State) (n : Nat) : Nat := rd s (MNS_CHn_STAT_STATE n)

/-- is n a channel in TRACK -/
def inTrack (s : State) (n : Nat) : Bool := decide (n < 6) && chState s n == 2

/-- CHn_STAT.DISTORTED: DIST above DIST_THR, which 0 switches off (R268) -/
def putDistorted (n : Nat) (s : State) : State :=
  let thr := rd s MNS_GCFG_DIST_THR
  putB (MNS_CHn_STAT_DISTORTED n) (thr != 0 && decide (thr < (ix s.mns.ch n).dist)) s

/-- FWIN, with 0 acting as 1 (R283) -/
def fwin (s : State) (n : Nat) : Nat := orElse0 (rd s (MNS_CHn_CFG_FWIN n)) 1

/-! ### Estimator (R266 to R268) -/

/-- weighted sums over a window, oldest sample first: Σ h, Σ h x sin, Σ h x cos -/
structure WinSums where
  h : Int := 0
  sn : Int := 0
  cs : Int := 0
  deriving DecidableEq, Repr, Inhabited

/-- h_i = sin²(π (i + ½) / L) in units of 2^-60 -/
def hann (L i : Nat) : Int :=
  let v := sinT (((2 * i + 1) * turn / (4 * L) : Nat) : Int)
  v * v / ((2 ^ 60 : Nat) : Int)

def winSums (L : Nat) : Nat → List WinPt → WinSums
  | _, [] => {}
  | i, w :: r =>
    let q := winSums L (i + 1) r
    let h := hann L i
    { h := q.h + h, sn := q.sn + h * w.x * sinT w.psi, cs := q.cs + h * w.x * cosT w.psi }

/-- Σ h e² of R268, e in 2^-24 counts, apk the amplitude in 2^-24 counts, del = δ -/
def winResid (L apk : Nat) (del : Int) : Nat → List WinPt → Int
  | _, [] => 0
  | i, w :: r =>
    let e := w.x * ((2 ^ 24 : Nat) : Int) - roundDiv ((apk : Int) * sinT (w.psi + del)) ((2 ^ 60 : Nat) : Int)
    hann L i * e * e + winResid L apk del (i + 1) r

/-- the least-squares slope of phase against centre time, in 2^-48 Hz (R267); none for fewer than two updates -/
def phaseSlope (pts : List FreqPt) : Option Int :=
  match pts with
  | [] => none
  | [_] => none
  | p0 :: _ =>
    let xs := pts.map (fun p => (p.tc : Int) - p0.tc)
    let ys := pts.map (fun p => p.ph - p0.ph)
    let n : Int := pts.length
    let sx := xs.foldl (fun a b => a + b) 0
    let sy := ys.foldl (fun a b => a + b) 0
    let sxx := (xs.map (fun a => a * a)).foldl (fun a b => a + b) 0
    let sxy := ((xs.zip ys).map (fun q => q.1 * q.2)).foldl (fun a b => a + b) 0
    some (roundDiv ((n * sxy - sx * sy) * ((secT : Nat) : Int)) (n * sxx - sx * sx))

/-- the fixed phase correction of channel n: PHCAL and INV (R266) -/
def phaseFix (s : State) (n : Nat) : Int :=
  rdS s (MNS_CHn_PHCAL_PHCAL n) * 65536 + (if on s (MNS_CHn_CFG_INV n) then ((2 ^ 47 : Nat) : Int) else 0)

/-- one estimate of channel n at time of day t from a full window of L samples (newest first) -/
def estimate (n L t : Nat) (s : State) : State :=
  let c := ix s.mns.ch n
  let w := c.win.take L
  let newest := w.headD {}
  let oldest := w.getLastD {}
  let q := winSums L 0 w.reverse
  let del := atanT q.cs q.sn
  let tc := (oldest.t + newest.t) / 2
  let psiC := ((w.getD ((L - 1) / 2) {}).psi + (w.getD (L / 2) {}).psi) / 2
  let base := psiC + del
  let phi := base + phaseGain c.f ((t : Int) - tc) + phaseFix s n
  let phiU := if c.est then c.phi + wrapHalf (phi - c.phi) else phi % ((turn : Nat) : Int)
  let pu := match c.pts with
    | p :: _ =>
      let guess := p.ph + phaseGain c.f ((tc : Int) - p.tc)
      guess + wrapHalf (base - guess)
    | [] => base
  let span := secT / fGrid s * fwin s n
  let m := roundDivN (fwin s n * 25000) (fGrid s)
  let now_ : FreqPt := { tc := tc, ph := pu, f := c.f }
  let inWin := (now_ :: c.pts).filter (fun p => decide (tc ≤ p.tc + span))
  let f := (phaseSlope inWin).getD c.f
  let pts := ({ now_ with f := f } :: c.pts).take (m + 2)
  let dfdt := if pts.length ≤ m then 0
    else roundDiv ((f - (pts.getD m {}).f) * 25000) (((2 ^ 28 * m : Nat)) : Int)
  let s2 := (2 * (q.sn * q.sn + q.cs * q.cs)).natAbs
  let hh := (q.h * ((2 ^ 60 : Nat) : Int)).natAbs
  let amp := roundSqrtDiv s2 (hh * hh * 2 ^ 14)
  let apk := roundSqrtDiv (2 * s2 * 2 ^ 48) (hh * hh)
  let res := (winResid L apk del 0 w.reverse).natAbs
  let dist := min 65535 (roundSqrtDiv (2 ^ 33 * res) (q.h.natAbs * apk * apk))
  modChan n (fun c => { c with phi := phiU, est := true, pts := pts, f := f, dfdt := dfdt, amp := amp, dist := dist }) s

/-! ### Channel states (R264, R270 to R272) -/

/-- STATE, VALID and their events; DROPOUT and OUTRANGE raise their sources (R270, R285) -/
def putChState (n st : Nat) (s : State) : State :=
  let old := chState s n
  if old = st then s else
  let s := put (MNS_CHn_STAT_STATE n) st s
  let s := if (old == 2) = (st == 2) then s else putBit MNS_EVT_VALID_CHG n (putB (MNS_CHn_STAT_VALID n) (st == 2) s)
  if st = 4 then raise 43 (some n) s else if st = 3 then raise 44 (some n) s else s

/-- ACQUIRE entered at frequency f, the window emptied when asked (R267, R270) -/
def acquire (n : Nat) (f : Int) (empty : Bool) (s : State) : State :=
  putChState n 1 (modChan n (fun c =>
    if empty then { c with f := f, win := [], pts := [], est := false, ups := 0, okRun := 0, pulsed := none }
    else { c with f := f, pts := [], ups := 0, okRun := 0, pulsed := none }) s)

/-- channel n OFF -/
def chanOff (n : Nat) (s : State) : State :=
  if chState s n = 0 then s
  else putChState n 0 (modChan n (fun c => { c with win := [], pts := [], raw := [], est := false, ups := 0, okRun := 0, ext := none }) s)

/-- f̂ of the update one nominal cycle earlier (R271) -/
def fEarlier (s : State) (n : Nat) : Int :=
  let c := ix s.mns.ch n
  match c.pts.drop (cycUps s 1) with
  | p :: _ => p.f
  | [] => c.f

/-- DROPOUT declared (R271) -/
def dropout (n : Nat) (s : State) : State :=
  let f := fEarlier s n
  putChState n 4 (modChan n (fun c => { c with fHold := f, ext := some c.phi, drop := s.now + orElse0 (rd s (MNS_CHn_CFG_DROP_MAX n)) 1 * tGridU s }) s)

/-- TRACK entered, with the phase-jump check where a dropout stands behind it (R272) -/
def toTrack (n : Nat) (s : State) : State :=
  let c := ix s.mns.ch n
  let lim : Int := (rd s (MNS_CHn_CFG_PJUMP n) * turn / 3600 : Nat)
  let jump := match c.ext with
    | some e => lim != 0 && decide (lim < (wrapHalf (c.phi - e)).natAbs)
    | none => false
  let s := putChState n 2 (modChan n (fun c => { c with ext := none, okRun := 0 }) s)
  if jump then raise 46 (some n) (putBit MNS_EVT_PJUMP n s) else s

/-- sum of squares of the half-cycle samples -/
def halfSum (s : State) (n : Nat) : Int := ((ix s.mns.ch n).raw.map (fun x => x * x)).foldl (fun a b => a + b) 0

/-- is the half-cycle RMS below a level in AMP units (R271) -/
def halfBelow (s : State) (n lvl : Nat) : Bool :=
  decide (halfSum s n < ((lvl * lvl * 2 ^ 14 * roundDivN 12500 (fGrid s) : Nat) : Int))

/-- configuration error of channel n (R270) -/
def chErr (s : State) (n : Nat) : Bool :=
  rd s (MNS_CHn_LIM_AMIN n) == 0 || decide (rd s (MNS_CHn_LIM_AMIN n) ≤ rd s (MNS_CHn_LIM_ADROP n))

/-- a CFG_ERR bit set to e; a rise raises source 49 (R285) -/
def mnsErr (f : Fld) (e : Bool) (s : State) : State :=
  let s := if e && !on s f then raise 49 none s else s
  putB f e s

/-- clipping of sample x (R264): four in a row set CLIP -/
def clipSample (n : Nat) (x : Int) (s : State) : State :=
  if 100 * (x.natAbs : Int) < 98 * ((2 ^ 23 : Nat) : Int) then modChan n (fun c => { c with clips := 0 }) s
  else
    let s := modChan n (fun c => { c with clips := c.clips + 1, clipAt := s.now }) s
    if 4 ≤ (ix s.mns.ch n).clips && !on s (MNS_CHn_STAT_CLIP n) then raise 48 (some n) (put (MNS_CHn_STAT_CLIP n) 1 s) else s

/-- the state table of R270 for a channel whose window gave an estimate -/
def chanState (n : Nat) (s : State) : State :=
  let c := ix s.mns.ch n
  let weak := decide (c.amp < rd s (MNS_CHn_LIM_AMIN n))
  let lost := halfBelow s n (rd s (MNS_CHn_LIM_ADROP n))
  let far := decide (c.f < hz48 35) || decide (hz48 75 < c.f)
  let inR := decide (hz48 40 ≤ c.f) && decide (c.f ≤ hz48 70)
  let inner := decide (10 * hz48 40 + hz48 1 ≤ 10 * c.f) && decide (10 * c.f ≤ 10 * hz48 70 - hz48 1)
  let need := orElse0 (rd s (MNS_CHn_CFG_VALID_N n)) 1 * 25000
  match chState s n with
  | 1 =>
    if far then acquire n (hz48 (fGrid s)) false s
    else if c.ups < cycUps s (rd s (MNS_CHn_CFG_WCYC n) + 1 + fwin s n) then s
    else
      let run := if inR && !weak then c.okRun + 1 else 0
      let s := modChan n (fun c => { c with okRun := run }) s
      if need ≤ run * fGrid s && run != 0 then toTrack n s else s
  | 2 => if lost || weak then dropout n s else if inR then s else putChState n 3 (modChan n (fun c => { c with okRun := 0 }) s)
  | 3 =>
    if lost || weak then dropout n s
    else if far then acquire n (hz48 (fGrid s)) false s
    else
      let run := if inner then c.okRun + 1 else 0
      let s := modChan n (fun c => { c with okRun := run }) s
      if need ≤ run * fGrid s && run != 0 then putChState n 2 (modChan n (fun c => { c with okRun := 0 }) s) else s
  | _ => s

/-- may channel n run (R270) -/
def chanMay (s : State) (n : Nat) : Bool :=
  on s (MNS_CHn_CFG_EN n) && !on s (MNS_CHn_STAT_CFG_ERR n) && !isolated s 9 && live s 9

/-- one update of channel n with sample x at time of day t (R266 to R272) -/
def chanUpdate (n : Nat) (x : Int) (t : Nat) (s : State) : State :=
  let s := mnsErr (MNS_CHn_STAT_CFG_ERR n) (s.img.applied && chErr s n) s
  let s := clipSample n x (modChan n (fun c => { c with raw := (x :: c.raw).take (roundDivN 12500 (fGrid s)) }) s)
  if !chanMay s n then chanOff n (modChan n (fun c => { c with t := t }) s)
  else
    let c := ix s.mns.ch n
    let dt : Int := (t : Int) - c.t
    let s := modChan n (fun c => { c with t := t, ext := c.ext.map (fun e => e + phaseGain c.fHold dt) }) s
    match chState s n with
    | 0 => acquire n (hz48 (fGrid s)) true s
    | 4 | 5 =>
      let s := modChan n (fun c => { c with phi := c.phi + phaseGain c.fHold dt }) s
      if halfBelow s n (rd s (MNS_CHn_LIM_AMIN n)) then s else acquire n (ix s.mns.ch n).fHold true s
    | _ =>
      let psi := c.psi + phaseGain c.f dt
      let newCyc := c.len = 0 || (c.ups + 1) * fGrid s / 25000 != c.ups * fGrid s / 25000 || c.ups = 0
      let L := if newCyc then (roundDiv (25000 * ((rd s (MNS_CHn_CFG_WCYC n) + 1 : Nat) : Int) * hz48 1) c.f).toNat else c.len
      let s := modChan n (fun c => { c with psi := psi, len := L, ups := c.ups + 1, win := ({ x := x, psi := psi, t := t } :: c.win).take 3000 }) s
      let s := if L ≤ (ix s.mns.ch n).win.length && L != 0 then estimate n L t s
        else modChan n (fun c => { c with phi := c.phi + phaseGain c.f dt }) s
      let s := putDistorted n s
      if (ix s.mns.ch n).est then chanState n s else s

/-! ### Crossings (R274) -/

/-- the instant at which a phase that ran from p0 at t0 to p1 at t1 passed the value m (2^-48 turn) -/
def crossAt (p0 p1 m : Int) (t0 t1 : Nat) : Nat :=
  ((t0 : Int) + roundDiv ((m - p0) * ((t1 : Int) - t0)) (p1 - p0)).toNat

/-- the whole number of turns passed on the way from p0 to p1, when there is one -/
def passed (p0 p1 : Int) : Option Int :=
  let m := p1 / ((turn : Nat) : Int)
  if p0 / ((turn : Nat) : Int) < m then some m else none

/-- the enabled crossings of channel n between its phases p0 at t0 and now, as (time, source, flags) -/
def crossings (s : State) (n : Nat) (p0 : Int) (t0 : Nat) : List (Nat × Nat × Nat) :=
  let c := ix s.mns.ch n
  let st := chState s n
  let half : Int := (2 ^ 47 : Nat)
  let fl := (if on s GEN_CLKSTAT_CORE_FROZEN then flUncal else 0) + unlockFlag s + (if on s (MNS_CHn_STAT_DISTORTED n) then 64 else 0)
    + (if st = 3 then 128 else 0)
  if st = 2 || st = 3 then
    let pos := match passed p0 c.phi with
      | some m => if bitAt (rd s MNS_ZQCFG_POS_EN) n then [(t16 (crossAt p0 c.phi (m * ((turn : Nat) : Int)) t0 c.t), 64 + n, fl)] else []
      | none => []
    let neg := match passed (p0 + half) (c.phi + half) with
      | some m => if bitAt (rd s MNS_ZQCFG_NEG_EN) n then [(t16 (crossAt p0 c.phi (m * ((turn : Nat) : Int) - half) t0 c.t), 64 + n, fl + 32)] else []
      | none => []
    pos ++ neg
  else []

/-- insertion of a record in time order, equal times in ascending source (R37) -/
def insRec (a : Nat × Nat × Nat) : List (Nat × Nat × Nat) → List (Nat × Nat × Nat)
  | [] => [a]
  | b :: r => if a.1 < b.1 || (a.1 == b.1 && decide (a.2.1 ≤ b.2.1)) then a :: b :: r else b :: insRec a r

/-! ### Grid time (R278 to R282) -/

/-- N · T_g (+ φ) as a time in units of nsT, for an unwrapped grid phase p (2^-48 turn) -/
def gridSpan (s : State) (p : Int) : Int := roundDiv (p * ((20000000000 * 65536 : Nat) : Int)) ((fGrid s : Nat) : Int)

/-- E as a time in units of nsT, and a time as E (R278: 2^-64 s) -/
def epochT (e : Int) : Int := e * ((20000000000 : Nat) : Int)
def epochOf (t : Int) : Int := roundDiv t ((20000000000 : Nat) : Int)

/-- configuration error of grid time (R280) -/
def gridErr (s : State) : Bool :=
  on s MNS_GT_CFG_EN && (decide (5 < rd s MNS_GT_CFG_GT_CH)
    || (on s MNS_GT_CFG_ALT_EN && (decide (5 < rd s MNS_GT_CFG_GT_ALT) || rd s MNS_GT_CFG_GT_ALT == rd s MNS_GT_CFG_GT_CH)))

/-- the standby channel: the named channel that is not in use, when the alternate is enabled -/
def standby (s : State) : Option Nat :=
  if !on s MNS_GT_CFG_ALT_EN then none
  else if rd s MNS_GT_STAT_SRC = rd s MNS_GT_CFG_GT_CH then some (rd s MNS_GT_CFG_GT_ALT) else some (rd s MNS_GT_CFG_GT_CH)


/-- slot 30's validity and GT_STAT.VALID: running, no error, no extrapolation (R281) -/
def gridValid (s : State) : State :=
  let v := on s MNS_GT_CFG_EN && !on s MNS_GT_STAT_CFG_ERR && !on s MNS_GT_STAT_EXTRAP && s.mns.grid.run
  setSrcOk 30 v (putB MNS_GT_STAT_VALID v s)

/-- D and D_VALID dropped -/
def dropD (s : State) : State :=
  put MNS_GT_STAT_D_VALID 0 (modGrid (fun g => { g with dSums := [], both := 0 }) s)

/-- extrapolation begins at frequency f (R280 rule 3): the offsets of R280 rule 4 are kept -/
def startExtrap (f : Int) (s : State) : State :=
  if on s MNS_GT_STAT_EXTRAP || !s.mns.grid.run then s else
  let src := rd s MNS_GT_STAT_SRC
  let s := modGrid (fun g => { g with
    fExt := f, exts := 0
    offs := vset (match standby s with
      | some b => vset (Vector.replicate 8 0) b (g.dLast.getD 0)
      | none => Vector.replicate 8 0) src g.off }) s
  gridValid (raise 47 none (put MNS_EVT_GT_SRC 1 (put MNS_GT_STAT_EXTRAP 1 (dropD s))))

/-- the standby takes over with O = D (R280 rule 2); D is averaged anew against the former channel in use -/
def switchGrid (b : Nat) (s : State) : State :=
  let s := modGrid (fun g => { g with off := g.d, dLast := none }) s
  gridValid (put MNS_EVT_GT_SRC 1 (put MNS_GT_STAT_SRC b (dropD s)))

/-- channel b takes grid time over at the end of an extrapolation (R280 rule 4) -/
def rejoin (b : Nat) (s : State) : State :=
  let g := s.mns.grid
  let off := ix g.offs b
  let delta := wrapHalf ((ix s.mns.ch b).phi - off - g.p)
  let s := modGrid (fun g => { g with p := g.p + delta, off := off, dLast := none }) s
  let s := putS MNS_GT_STEP_STEP (satS 32 (roundDiv (gridSpan s delta) ((1000 * nsT : Nat) : Int))) s
  gridValid (put MNS_EVT_GT_SRC 1 (put MNS_GT_STAT_EXTRAP 0 (put MNS_GT_STAT_SRC b s)))

/-- D averaged over the last 50 cycles while both channels are in TRACK (R280 rule 1) -/
def gridD (s : State) : State :=
  match standby s with
  | none => dropD s
  | some b =>
    if inTrack s (rd s MNS_GT_STAT_SRC) && inTrack s b && !on s MNS_GT_STAT_EXTRAP then
      let g := s.mns.grid
      let raw := (ix s.mns.ch b).phi - g.p
      let d := match g.dSums with
        | (sm, c) :: _ => let near := roundDiv sm c; near + wrapHalf (raw - near)
        | [] => wrapHalf raw
      let newCyc := g.dSums = [] || (g.both + 1) * fGrid s / 25000 != g.both * fGrid s / 25000
      let sums := if newCyc then (d, 1) :: g.dSums.take 49
        else match g.dSums with
          | (sm, c) :: r => (sm + d, c + 1) :: r
          | [] => [(d, 1)]
      let full := decide (cycUps s 50 ≤ g.both + 1)
      let avg := roundDiv (sums.foldl (fun a q => a + q.1) 0) ((sums.foldl (fun a q => a + q.2) 0 : Nat) : Int)
      let s := modGrid (fun g => { g with dSums := sums, both := g.both + 1, d := if full then wrapHalf avg else g.d
                                          dLast := if full then some (wrapHalf avg) else g.dLast }) s
      putB MNS_GT_STAT_D_VALID full s
    else dropD s

/-- a positive-going grid crossing at time of day tz: N = 0 and E, or a restore, where grid time starts (R279, R282) -/
def gridStart (tz : Nat) (s : State) : State :=
  let ch := rd s MNS_GT_STAT_SRC
  let frac := (ix s.mns.ch ch).phi % ((turn : Nat) : Int)
  let s := match s.mns.grid.restore with
    | some (e, dv, gf) =>
      if rd s TKP_STAT_TIME_SRC = 1 && gf = rd s MNS_GCFG_GRID_F then
        let n := roundDiv (((tz : Int) + dv - epochT e) * ((fGrid s : Nat) : Int)) ((secT : Nat) : Int)
        let s := modGrid (fun g => { g with run := true, restore := none, e := e, p := n * ((turn : Nat) : Int) + frac, off := 0 }) s
        s |> put MNS_GT_STAT_RESTORED 1 |> put MNS_GT_STAT_AMBIG 1
      else modGrid (fun g => { g with run := true, restore := none, e := epochOf tz, p := frac, off := 0 }) s
    | none => modGrid (fun g => { g with run := true, e := epochOf tz, p := frac, off := 0 }) s
  gridValid s

/-- a grid crossing at whole phase m (2^-48 turn) and time of day tz: a waiting alignment, and the slot 30 sample
(R279, R281, R288) -/
def gridCross (m : Int) (tz : Nat) (s : State) : State :=
  let s := if s.mns.grid.align && inTrack s (rd s MNS_GT_STAT_SRC) then
      let s := modGrid (fun g => { g with align := false, e := epochOf ((tz : Int) - gridSpan s m) }) s
      s |> put MNS_EVT_GT_ALIGN 1 |> put MNS_GT_STAT_AMBIG 0
    else s
  if on s MNS_GT_STAT_VALID then
    slotSample 30 (roundDiv (epochT s.mns.grid.e + gridSpan s m - tz) ((t16T : Nat) : Int)) s
  else s

/-- does grid time run on: enabled, or kept through an L1 reset until the image is applied again (R279, R286) -/
def gridOn (s : State) : Bool := on s MNS_GT_CFG_EN || (!s.img.applied && s.mns.grid.run)

/-- grid time at one update: before the update the in-use channel was in TRACK when was is true; phases p0 at t0 of the
channels (R280) -/
def gridUpdate (was : List Bool) (p0 : List Int) (t0 t : Nat) (s : State) : State :=
  let s := mnsErr MNS_GT_STAT_CFG_ERR (s.img.applied && gridErr s) s
  if !gridOn s then s
  else
    let src := rd s MNS_GT_STAT_SRC
    let dphi := (ix s.mns.ch src).phi - p0.getD src 0
    if !s.mns.grid.run then
      match passed (p0.getD src 0) (ix s.mns.ch src).phi with
      | some m =>
        if inTrack s src && was.getD src false then
          let tz := crossAt (p0.getD src 0) (ix s.mns.ch src).phi (m * ((turn : Nat) : Int)) t0 t
          let s := gridStart tz s
          gridCross (s.mns.grid.p / ((turn : Nat) : Int) * ((turn : Nat) : Int)) tz s
        else s
      | none => s
    else
      let g0 := s.mns.grid.p
      let s :=
        if !on s MNS_GT_STAT_EXTRAP then
          if inTrack s src then modGrid (fun g => { g with p := g.p + dphi }) s
          else
            match standby s with
            | some b =>
              if on s MNS_GT_STAT_D_VALID && inTrack s b then
                let s := switchGrid b s
                modGrid (fun g => { g with p := g.p + wrapHalf ((ix s.mns.ch b).phi - g.off - g.p) }) s
              else
                let f := if chState s src = 4 then (ix s.mns.ch src).fHold else fEarlier s src
                modGrid (fun g => { g with p := g.p + phaseGain f ((t : Int) - t0) }) (startExtrap f s)
            | none =>
              let f := if chState s src = 4 then (ix s.mns.ch src).fHold else fEarlier s src
              modGrid (fun g => { g with p := g.p + phaseGain f ((t : Int) - t0) }) (startExtrap f s)
        else
          modGrid (fun g => { g with p := g.p + phaseGain g.fExt ((t : Int) - t0), exts := g.exts + 1 }) s
      let s :=
        if on s MNS_GT_STAT_EXTRAP then
          let s := if cycUps s (orElse0 (rd s (MNS_CHn_CFG_DROP_MAX src)) 1) < s.mns.grid.exts then put MNS_GT_STAT_AMBIG 1 s else s
          if inTrack s (rd s MNS_GT_CFG_GT_CH) then rejoin (rd s MNS_GT_CFG_GT_CH) s
          else if on s MNS_GT_CFG_ALT_EN && inTrack s (rd s MNS_GT_CFG_GT_ALT) then rejoin (rd s MNS_GT_CFG_GT_ALT) s
          else s
        else s
      let s := match passed g0 s.mns.grid.p with
        | some m => gridCross (m * ((turn : Nat) : Int)) (crossAt g0 s.mns.grid.p (m * ((turn : Nat) : Int)) t0 t) s
        | none => s
      gridD s

/-- grid time at epoch e and unwrapped phase p, rounded to 2^-16 ns (R278), in units of nsT -/
def gridAt (s : State) (e p : Int) : Int :=
  let f := fGrid s
  roundDiv (epochT e * (f : Int) + p * ((20000000000 * 65536 : Nat) : Int)) ((f * t16T : Nat) : Int) * ((t16T : Nat) : Int)

/-- G less the time of day, kept after each update (R278) -/
def gridDev (t : Nat) (s : State) : State :=
  modGrid (fun g => { g with dev := if gridOn s && g.run then gridAt s g.e g.p - t else 0 }) s

/-- E, GRID_F and the latest GT_DEV kept in the counter RAM while grid time runs (R282, R415) -/
def gridKeep (s : State) : State :=
  let g := s.mns.grid
  if !g.run then s
  else
    let e := uns 128 g.e
    s |> putCram64 cramGrid (e % 2 ^ 64) |> putCram64 (cramGrid + 2) (e / 2 ^ 64)
      |> putCram (cramGrid + 4) (uns 32 (satS 32 (roundDiv g.dev ((1000 * nsT : Nat) : Int)))) |> putCram (cramGrid + 5) (rd s MNS_GCFG_GRID_F + 2)

/-- the kept values wait for the first grid crossing after L0 (R282) -/
def gridRestore (s : State) : State :=
  let w := cram s (cramGrid + 5)
  if bitAt w 1 then
    let e := sgn 128 (cram64 s cramGrid + cram64 s (cramGrid + 2) * 2 ^ 64)
    modGrid (fun g => { g with restore := some (e, sgn 32 (cram s (cramGrid + 4)) * ((1000 * nsT : Nat) : Int), w % 2) }) s
  else s

/-- grid time stopped: EN = 0 reads 0 (R279); no values are kept while it is stopped; AMBIG and RESTORED stay (R280 rule 5) -/
def gridStop (s : State) : State :=
  let s := if s.mns.grid.run then putCram (cramGrid + 5) 0 s else s
  let s := modGrid (fun _ => {}) s
  s |> put MNS_GT_STAT_EXTRAP 0 |> put MNS_GT_STAT_D_VALID 0
    |> put MNS_GT_STAT_SRC (rd s MNS_GT_CFG_GT_CH) |> gridValid

/-- the next sample instant that has had no update -/
def nextSample (s : State) : Nat := (if s.now % sampleU = 0 && s.mns.at_ != s.now then s.now / sampleU else s.now / sampleU + 1) * sampleU

/-- SEQ_TOL as an angle in 2^-48 turn: 0 acts as 1, above 60 acts as 60 (R284) -/
def seqTol (s : State) : Int := (clampN 1 60 (rd s MNS_GCFG_SEQ_TOL) * turn / 360 : Nat)

/-- the cycle of a group classified: 1 ABC, 2 ACB, 3 angle error (R277) -/
def seqClass (s : State) (g : Nat) : Nat :=
  let p (i : Nat) : Int := (ix s.mns.ch (3 * g + i)).phi
  let d1 := wrapHalf (p 1 - p 0)
  let d2 := wrapHalf (p 2 - p 1)
  let third : Int := (turn / 3 : Nat)
  let near (d c : Int) : Bool := decide ((wrapHalf (d - c)).natAbs ≤ seqTol s)
  if near d1 (-third) && near d2 (-third) then 1 else if near d1 third && near d2 third then 2 else 3

/-- SEQSTAT of group g set to v: EVT.SEQ at a change, source 45 between ABC and ACB however reached (R277) -/
def putSeq (g v : Nat) (s : State) : State :=
  let f := if g = 0 then MNS_SEQSTAT_G0 else MNS_SEQSTAT_G1
  if rd s f = v then s else
  let s := put MNS_EVT_SEQ 1 (put f v s)
  if v = 1 || v = 2 then
    let old := ix s.mns.seqDir g
    let s := modMns (fun m => { m with seqDir := vset m.seqDir g v }) s
    if old != 0 && old != v then raise 45 (some g) s else s
  else s

/-- the once-a-cycle check of group g (R277) -/
def sequenceCheck (g : Nat) (s : State) : State :=
  let en := if g = 0 then on s MNS_GCFG_SEQ0_EN else on s MNS_GCFG_SEQ1_EN
  if en && ((List.range 3).all (fun i => inTrack s (3 * g + i))) then
    let c := seqClass s g
    let l := (c :: ix s.mns.seqLast g).take 3
    let s := modMns (fun m => { m with seqLast := vset m.seqLast g l }) s
    if l = [c, c, c] then putSeq g c s else s
  else putSeq g 0 (modMns (fun m => { m with seqLast := vset m.seqLast g [] }) s)

/-- a group with a channel that is not VALID is unknown at once (R277) -/
def seqDrop (s : State) : State :=
  forEach [0, 1] (fun g s => if (List.range 3).all (fun i => inTrack s (3 * g + i)) then s else sequenceCheck g s) s

/-- CTL.SNAP: every channel's latest update and grid time latched (R283 preamble) -/
def mnsSnap (s : State) : State :=
  let s := modMns (fun m => { m with snapAt := cycleNow s + 1 }) s
  let s := forEach (List.range 6) (fun n s =>
    let c := ix s.mns.ch n
    s |> put (MNS_CHn_PHASE_PHASE n) (roundDiv (c.phi % ((turn : Nat) : Int)) 65536).toNat
      |> put (MNS_CHn_FREQ_FREQ n) (roundDiv c.f ((2 ^ 28 : Nat) : Int)).toNat
      |> put (MNS_CHn_AMP_AMP n) (min 65535 c.amp) |> put (MNS_CHn_AMP_DIST n) c.dist |> putS (MNS_CHn_DFDT_DFDT n) (satS 32 c.dfdt)) s
  let g := s.mns.grid
  let n := (g.p / ((turn : Nat) : Int)).toNat
  let t := t16 s.mns.t
  s |> put MNS_GT_CNT_LO_N n |> put MNS_GT_CNT_HI_N (n / 2 ^ 32)
    |> put MNS_GT_PHASE_PHASE (roundDiv (g.p % ((turn : Nat) : Int)) 65536).toNat
    |> putS MNS_GT_DEV_DEV (satS 32 (roundDiv g.dev ((1000 * nsT : Nat) : Int)))
    |> put MNS_SNAP_NS_NS (nsOf16 t) |> put MNS_SNAP_SEC_LO_SEC (secOf16 t) |> put MNS_SNAP_SEC_HI_SEC (secOf16 t / 2 ^ 32)

/-- a sample of 24 bits, full scale at the ends (R263) -/
def sample24 (x : Int) : Int := max (-((2 ^ 23 : Nat) : Int)) (min x (2 ^ 23 - 1 : Nat))

/-- a pulse of route source 0x0030 + n for crossing m, stamped with its predicted instant tz (time of day) (R275) -/
def giveZcPulse (n : Nat) (m : Int) (tz : Nat) (s : State) : State := modChan n (fun c => { c with pulsed := some m, pulseT := tz }) s

/-- the predicted instant of crossing m of channel n, from its latest update (R275) -/
def predicted (s : State) (n : Nat) (m : Int) : Nat :=
  let c := ix s.mns.ch n
  ((c.t : Int) + roundDiv ((m * ((turn : Nat) : Int) - c.phi) * ((secT : Nat) : Int)) c.f).toNat

/-- the crossing that channel n has passed since phase p0 without a pulse: its predicted instant has passed, so it gives it at once (R275) -/
def lateZcPulse (n : Nat) (p0 : Int) (s : State) : State :=
  let c := ix s.mns.ch n
  match passed p0 c.phi with
  | some m => if inTrack s n && decide (0 < c.f) && c.pulsed != some m then giveZcPulse n m (predicted s n m) s else s
  | none => s

/-- one update of the six channels and of grid time with samples xs at the next sample instant (R263 to R281); a snapshot written in the
same core cycle holds it (R288) -/
def mnsUpdate (xs : List Int) (s : State) : State :=
  let s := advanceTo (nextSample s) s
  let t := s.tod
  let t0 := s.mns.t
  let p0 := (List.range 6).map (fun n => (ix s.mns.ch n).phi)
  let e0 := (List.range 6).map (fun n => (ix s.mns.ch n).est)
  let was := (List.range 6).map (inTrack s)
  let s := seqDrop (forEach (List.range 6) (fun n s => chanUpdate n (sample24 (xs.getD n 0)) t s) s)
  let s := forEach ((List.range 6).filter (fun n => was.getD n false)) (fun n s => lateZcPulse n (p0.getD n 0) s) s
  let recs := ((List.range 6).filter (fun n => e0.getD n false)).flatMap (fun n => crossings s n (p0.getD n 0) t0)
  let s := forEach (recs.foldl (fun l a => insRec a l) []) (fun r s => zqPush r.1 r.2.1 r.2.2 s) s
  let s := gridUpdate was p0 t0 t s
  let s := gridKeep (gridDev t (modMns (fun m => { m with t := t, at_ := s.now }) s))
  if s.mns.snapAt = cycleNow s + 1 then mnsSnap s else s

/-! ### Commands of the block -/

/-- DROP_MAX cycles passed in DROPOUT: LOST (R270) -/
def dropExpiry (n : Nat) (s : State) : State :=
  if chState s n = 4 then
    let s := advanceTo (ix s.mns.ch n).drop s
    putChState n 5 (modChan n (fun c => { c with ext := none }) s)
  else s

/-- one nominal cycle after the last clipped sample CLIP clears (R264) -/
def clipClear (n : Nat) (s : State) : State :=
  if on s (MNS_CHn_STAT_CLIP n) then put (MNS_CHn_STAT_CLIP n) 0 (advanceTo ((ix s.mns.ch n).clipAt + tGridU s) s) else s

/-- the predicted instant of the next positive-going crossing of channel n arrives (R275): one pulse of route source
0x0030 + n per crossing number, in TRACK only -/
def zcPulse (n : Nat) (s : State) : State :=
  let c := ix s.mns.ch n
  let m := c.phi / ((turn : Nat) : Int) + 1
  if chState s n = 2 && decide (0 < c.f) && c.pulsed != some m && live s 9 then
    let tz := predicted s n m
    giveZcPulse n m tz (advanceTo (whenTod s tz) s)
  else s

/-- a time set or jam of the time of day by d (units of nsT) moves E with it (R279) -/
def gridMove (d : Int) (s : State) : State :=
  if s.mns.grid.run then gridKeep (modGrid (fun g => { g with e := g.e + epochOf d }) s) else s

/-- what follows a write of GT_CFG: EN cleared stops grid time; EN set starts it on GT_CH; a channel in use no longer
named has left TRACK (R279, R280) -/
def gtCfgChanged (enBefore : Bool) (s : State) : State :=
  let s := mnsErr MNS_GT_STAT_CFG_ERR (s.img.applied && gridErr s) s
  if !on s MNS_GT_CFG_EN || !enBefore then gridStop s
  else if !s.mns.grid.run then gridValid (put MNS_GT_STAT_SRC (rd s MNS_GT_CFG_GT_CH) s)
  else
    let s := gridValid s
    let src := rd s MNS_GT_STAT_SRC
    let named := src == rd s MNS_GT_CFG_GT_CH || (on s MNS_GT_CFG_ALT_EN && src == rd s MNS_GT_CFG_GT_ALT)
    if named then s
    else
      let oldStandby := if rd s MNS_GT_CFG_GT_CH = src then rd s MNS_GT_CFG_GT_ALT else rd s MNS_GT_CFG_GT_CH
      if on s MNS_GT_STAT_D_VALID && inTrack s oldStandby then switchGrid oldStandby s
      else startExtrap (fEarlier s src) s

/-- every channel restarts as if its EN had been cleared and set (R265, R286) -/
def chansRestart (s : State) : State :=
  seqDrop (forEach (List.range 6) (fun n s => let was := chState s n; let s := chanOff n s; if was = 0 then s else acquire n (hz48 (fGrid s)) true s) s)

/-- grid time extrapolates because its channels stop: isolation, MNS reset, L1 (R286, R287) -/
def gridHold (s : State) : State :=
  if s.mns.grid.run then startExtrap (fEarlier s (rd s MNS_GT_STAT_SRC)) s else s

end Sys2Proof.Machine
end

