-- ==== Sys2Proof/Machine/Balls.lean ====
section
/-! DEFINITION. Where the signals stand in the ball grid (R554), and which balls the image's PINMUX disables (R560, R561). Rows count from
A = 0; of a pair the _P ball is named, both having one function code. -/

namespace Sys2Proof.Machine

/-- the function code and the pull of the ball at row, col: 0 the grid's function, 1 disabled; 0 none, 1 up, 2 down (R70, R560) -/
def ballCode (s : State) (row col : Nat) : Nat := tabGet s.img.pinmux (row * 32 + col) 0 % 4
def ballPull (s : State) (row col : Nat) : Nat := tabGet s.img.pinmux (row * 32 + col) 0 / 4

/-- the ball of INn, MEASn, OUTn, SWn, FBn as row and column (R554) -/
def inBall (n : Nat) : Nat × Nat := (if n < 12 then 3 + n / 2 else 4 + n / 2, 1 + 2 * (n % 2))
def measBall (n : Nat) : Nat × Nat := (12 + n / 2, 1 + 2 * (n % 2))
def outBall (n : Nat) : Nat × Nat := ([4, 5, 7, 8, 10, 11, 13, 14].getD (n / 2) 4, 22 - 2 * (n % 2))
def swBall (n : Nat) : Nat × Nat :=
  if n < 11 then (21, n + 1) else if n < 22 then (20, n - 10) else if n < 24 then (19, n - 21)
  else if n < 35 then (21, n - 12) else if n < 46 then (20, n - 23) else (19, n - 34)
def fbBall (n : Nat) : Nat × Nat :=
  if n < 9 then (19, n + 3) else if n < 20 then (18, n - 8) else if n < 24 then (17, n - 19)
  else if n < 33 then (19, n - 10) else if n < 44 then (18, n - 21) else (17, n - 32)

/-- TOD_RXk, TOD_TXk, IRIG_OUT, OCXO_RDY; TXD, RXD and DE of link k -/
def todRxBall (k : Nat) : Nat × Nat := (15, 5 + k)
def todTxBall (k : Nat) : Nat × Nat := (15, 7 + k)
def irigBall : Nat × Nat := (15, 9)
def ocxoBall : Nat × Nat := (11, 17)
def txdBall (k : Nat) : Nat × Nat := (16, 5 + 3 * k)
def rxdBall (k : Nat) : Nat × Nat := (16, 6 + 3 * k)
def deBall (k : Nat) : Nat × Nat := (16, 7 + 3 * k)

/-- is a ball disabled: the block acts with its input held low and its output driving nothing (R561) -/
def ballOff (s : State) (b : Nat × Nat) : Bool := ballCode s b.1 b.2 == 1

/-- does route source r come from a disabled ball (R70, R561) -/
def routeOff (s : State) (r : Nat) : Bool :=
  if r < 16 then ballOff s (inBall r) else if r < 24 then ballOff s (measBall (r - 16))
  else if decide (64 ≤ r) && decide (r < 112) then ballOff s (fbBall (r - 64)) else false

end Sys2Proof.Machine
end

