-- ==== Sys2Proof/Machine/Pmu.lean ====
section
/-! DEFINITION. PMU operations: positions and calibration (R129 to R135), units and their states (R137 to R141), stamps,
intervals, frequency gates and statistics (R144 to R151). -/

namespace Sys2Proof.Machine
open Sys2Proof.Reg

/-! ### Positions (R128 to R130) -/

/-- the coarse count of the PMCLK edge that samples an event at device time now (R128) -/
def coarseNow (s : State) : Nat := (s.now - s.pmu.coarse0) / pmU + 1

/-- the live table entry of tap c of slice n (R133) -/
def linLive (s : State) (n c : Nat) : Nat := tabGet (ix s.slice n).lin c (2048 * c + 1024)

/-- is device time t in the present core cycle -/
def thisCycle (s : State) (t : Option Nat) : Bool := t.any (fun t => cycleOf t == cycleNow s)

/-- the table entry a capture now uses: a table replaced in the same core cycle still stands as it was (R163) -/
def linOf (s : State) (n c : Nat) : Nat :=
  if thisCycle s (ix s.slice n).tabAt then tabGet (ix s.slice n).old c (2048 * c + 1024) else linLive s n c

def skewOf (s : State) (n : Nat) : Int := rdS s (PMU_SKEWn_K n)

/-- u of an edge captured at coarse count k at tap c of slice n, modulo 2^76 (R129) -/
def positionOf (s : State) (n c k : Nat) : Nat := uns 76 (((k * pmU : Nat) : Int) - linOf s n c - skewOf s n)

/-- the difference of two positions (R129) -/
def posDiff (a b : Nat) : Int := sgn 76 (uns 76 ((a : Int) - b))

/-- the time of a postmark in 2^-16 ns, captured at coarse count k at tap c: TOD(C) - round((L + K + D_src) / 20) (R130) -/
def stampTime (s : State) (n c src k : Nat) : Nat :=
  ((t16 (todAt s (s.pmu.coarse0 + k * pmU)) : Int) - roundDiv ((linOf s n c : Int) + skewOf s n + Config.srcDelay src) 20).toNat

/-- the time in a stamp of route source r: the predicted instant for a mains crossing pulse (R275), else the captured one (R130) -/
def edgeTime (s : State) (n c r k : Nat) : Nat :=
  if decide (48 ≤ r) && decide (r < 54) then t16 (ix s.mns.ch (r - 48)).pulseT else stampTime s n c r k

/-- TABLE_AGE of slice n in ms, 0 before the first replacement since L0 (R133, R156) -/
def tableAge (s : State) (n : Nat) : Nat :=
  match (ix s.slice n).tabAt with
  | some t => min (2 ^ 24 - 1) (msSince s t)
  | none => 0

/-- does TABLE_AGE exceed AGE_MAX s (R135) -/
def tableOld (s : State) (n : Nat) : Bool :=
  rd s PMU_CALCFG_AGE_MAX != 0 && decide (rd s PMU_CALCFG_AGE_MAX * 1000 < tableAge s n)

/-- is a capture of slice n uncalibrated (R135) -/
def sliceUncal (s : State) (n : Nat) : Bool :=
  !on s (PMU_PMn_CALSTAT_LOOP_LOCK n) || on s GEN_CLKSTAT_CORE_FROZEN || !on s (PMU_PMn_CALSTAT_TABLE_VALID n)
    || !on s (PMU_PMn_CALSTAT_SKEW_VALID n) || tableOld s n

/-! ### Units (R137 to R141) -/

/-- the unit that holds slice n -/
def unitOf (s : State) (n : Nat) : Nat := ((unitsOf s).filter (fun b => decide (b ≤ n))).getLastD 0

def startRoute (s : State) (b : Nat) : Nat := tabGet s.img.routes (0x100 + b) 255
def stopRoute (s : State) (b : Nat) : Nat := tabGet s.img.routes (0x110 + b) 255
def unitMode (s : State) (b : Nat) : Nat := rd s (PMU_PMn_CFG_MODE b)
def unitState (s : State) (b : Nat) : Nat := rd s (PMU_PMn_STAT_STATE b)

/-- a configuration error of unit b (R140) -/
def unitErr (s : State) (b : Nat) : Bool :=
  let m := unitMode s b
  let g := rd s (PMU_PMn_GATE_GATE b)
  decide (4 ≤ m) || (m == 3 && unitSize s b != 4) || decide (10 < rd s (PMU_PMn_CFG_PRE_S b)) || decide (10 < rd s (PMU_PMn_CFG_PRE_P b))
    || startRoute s b == 255 || ((m == 1 || m == 3) && (stopRoute s b == 255 || rd s (PMU_PMn_WPOST_WPOST b) == 0))
    || (m == 2 && (g == 0 || decide (1000000 < g))) || (m == 3 && decide (16777215 < g))

/-- what the gate of unit b is judged by, as the core cycle began -/
def gateCfg (s : State) (b : Nat) : GateCfg :=
  { gate := cycWas s (PMU_PMn_GATE_GATE b), base := cycWas s (PMU_PMn_CFG_BASE b) == 1
    nom := cycWas s (PMU_PMn_NOM_LO_NOM b) + cycWas s (PMU_PMn_NOM_HI_NOM b) * 2 ^ 32
    kS := cycWas s (PMU_PMn_CFG_PRE_S b), kP := cycWas s (PMU_PMn_CFG_PRE_P b) }

/-- partial gate, pairing state, statistics and prescaler counts discarded (R139, R141) -/
def unitClear (b : Nat) (s : State) : State :=
  put (PMU_PMn_STAT_PAIR b) 0 (modUnit b (fun u => { sq := u.sq, rq := u.rq }) s)

/-- WAIT entered; stamp and interval modes run on to RUN in the next cycle (R141) -/
def unitWait (b : Nat) (s : State) : State :=
  put (PMU_PMn_STAT_STATE b) (if unitMode s b ≤ 1 then 2 else 1) (unitClear b s)

/-- OFF or WAIT as the conditions of R141 have it; CFG_ERR judged and its rise reported (R140, R160) -/
def unitEval (b : Nat) (s : State) : State :=
  if unitSize s b = 0 then s
  else
    let e := if s.img.applied then unitErr s b else on s (PMU_PMn_STAT_CFG_ERR b)
    let s := if e && !on s (PMU_PMn_STAT_CFG_ERR b) then raise 18 (some b) s else s
    let s := putB (PMU_PMn_STAT_CFG_ERR b) e s
    if !on s (PMU_PMn_CFG_EN b) || e || isolated s 5 || !live s 5 || !s.img.applied then put (PMU_PMn_STAT_STATE b) 0 (unitClear b s)
    else if unitState s b = 0 then unitWait b s else s

/-- every unit judged -/
def unitsEval (s : State) : State := forEach (unitsOf s) unitEval s

/-- a restart: RUN or WAIT goes to WAIT (R141); a frequency gate it discards is kept until the core cycle ends (R163) -/
def unitRestart (b : Nat) (s : State) : State :=
  if unitState s b = 0 then s
  else
    let g := (ix s.unit b).gate.map (fun g => (cycleNow s, g, gateCfg s b))
    modUnit b (fun u => { u with cut := g }) (unitWait b s)

/-- every unit passes through OFF, its partial work discarded, its queues taking a gap record of source 0x140 + b (R161, R162) -/
def pmuInterrupt (s : State) : State :=
  forEach (unitsOf s) (fun b s =>
    unitGap b (now16 s) (0x140 + b) (put (PMU_PMn_STAT_STATE b) 0 (unitClear b s))) s

/-- a reset of PMU begins: the records of its core cycle are lost and every unit is interrupted (R41, R161) -/
def pmuReset (s : State) : State := pmuInterrupt (forEach (unitsOf s) unitCut s)

/-! ### Results (R146 to R148) -/

def rfUncal : Nat := 2
def rfCoinc : Nat := 4
def rfOrder : Nat := 8
def rfTimeout : Nat := 16
def rfDead : Nat := 32
def rfLoss : Nat := 64
def rfNosig : Nat := 128

/-- the interval field and its flags for Δ in units of 2^-20 PMCLK period (R146) -/
def intervalOf (d : Int) : Int × Nat :=
  if d.natAbs < 2048 then (0, rfCoinc) else (roundDiv d 20, if d < 0 then rfOrder else 0)

/-- the flags of a pair -/
def pairFlags (uncal lossy : Bool) : Nat := (if uncal then rfUncal else 0) ||| (if lossy then rfLoss else 0)

/-- the statistics of a finished collection latched, the next one started (R151) -/
def statsLatch (b : Nat) (s : State) : State :=
  let g := b / 4
  let u := ix s.unit b
  let n : Int := u.sN
  let sd := roundSqrtDiv (n * u.s2 - u.s1 * u.s1).toNat (u.sN * (u.sN - 1))
  let s := s |> putPairS (PMU_STATg_MEAN_LO_MEAN g) (PMU_STATg_MEAN_HI_MEAN g) (roundDiv u.s1 n)
    |> putPair (PMU_STATg_SD_LO_SD g) (PMU_STATg_SD_HI_SD g) sd
    |> putPairS (PMU_STATg_MIN_LO_MIN g) (PMU_STATg_MIN_HI_MIN g) u.sMin
    |> putPairS (PMU_STATg_MAX_LO_MAX g) (PMU_STATg_MAX_HI_MAX g) u.sMax
    |> put (PMU_STATg_COUNT_N g) u.sN |> put (PMU_STATg_EXCL_EXCL g) u.sExcl
    |> put (PMU_STATg_SSTAT_RFLAGS g) (pairFlags u.sUncal u.sLoss) |> bumpWrap (PMU_STATg_SSTAT_SSEQ g)
  let s := modUnit b (fun u => { u with sN := 0, s1 := 0, s2 := 0, sMin := 0, sMax := 0, sExcl := 0, sUncal := false, sLoss := false }) s
  putBit PMU_IRQ_RES b s

/-- a result of the pairing of unit b: into the result queue, and in statistics mode into the collection (R145, R151) -/
def pairResult (b : Nat) (x : Int) (flags : Nat) (s : State) : State :=
  let s := rqPush b x flags s
  if unitMode s b != 3 then s
  else
    let s := put (PMU_PMn_STAT_STATE b) 2 s
    if bitAt flags 4 || bitAt flags 5 then modUnit b (fun u => { u with sExcl := satInc u.sExcl (2 ^ 32 - 1) }) s
    else
      let s := modUnit b (fun u => { u with
        sN := u.sN + 1, s1 := u.s1 + x, s2 := u.s2 + x * x
        sMin := if u.sN = 0 || x < u.sMin then x else u.sMin
        sMax := if u.sN = 0 || u.sMax < x then x else u.sMax
        sUncal := u.sUncal || bitAt flags 1, sLoss := u.sLoss || bitAt flags 6 }) s
      if rd s (PMU_PMn_GATE_GATE b) + 1 ≤ (ix s.unit b).sN then statsLatch b s else s

/-- the pairing state of unit b set, with STAT.PAIR -/
def putPair_ (b : Nat) (p : PairSt) (s : State) : State :=
  let code := match p with
    | .idle => 0
    | .open_ _ _ _ => 1
    | .pend _ _ _ => 2
  put (PMU_PMn_STAT_PAIR b) code (modUnit b (fun u => { u with pair := p }) s)

def wPost (s : State) (b : Nat) : Int := (rd s (PMU_PMn_WPOST_WPOST b) * usU : Nat)
def wPre (s : State) (b : Nat) : Int := (max (rd s (PMU_PMn_WPRE_WPRE b) * nsU) 2048 : Nat)

/-- the window of an open start passes: TIMEOUT (R145) -/
def openTimeout (b : Nat) (s : State) : State :=
  match (ix s.unit b).pair with
  | .open_ _ u l => pairResult b 0 (rfTimeout ||| pairFlags u l) (putPair_ b .idle s)
  | _ => s

/-- the window of a pending stop passes: EARLY counted (R145) -/
def pendEarly (b : Nat) (s : State) : State :=
  match (ix s.unit b).pair with
  | .pend _ _ _ => bump (PMU_PMn_CNT_EARLY b) (putPair_ b .idle s)
  | _ => s

/-- a start edge at position p in the pairing of unit b (R145) -/
def pairStart (b p : Nat) (uncal : Bool) (s : State) : State :=
  match (ix s.unit b).pair with
  | .idle => putPair_ b (.open_ p uncal false) s
  | .open_ _ _ _ => putPair_ b (.open_ p uncal false) (openTimeout b s)
  | .pend q u l =>
    if posDiff p q ≤ wPre s b then
      let r := intervalOf (posDiff q p)
      pairResult b r.1 (r.2 ||| pairFlags (u || uncal) l) (putPair_ b .idle s)
    else putPair_ b (.open_ p uncal false) (pendEarly b s)

/-- a stop edge at position p in the pairing of unit b (R145) -/
def pairStop (b p : Nat) (uncal : Bool) (s : State) : State :=
  match (ix s.unit b).pair with
  | .idle => putPair_ b (.pend p uncal false) s
  | .open_ q u l =>
    if posDiff p q ≤ wPost s b then
      let r := intervalOf (posDiff p q)
      pairResult b r.1 (r.2 ||| pairFlags (u || uncal) l) (putPair_ b .idle s)
    else putPair_ b (.pend p uncal false) (openTimeout b s)
  | .pend _ _ _ => putPair_ b (.pend p uncal false) (pendEarly b s)

/-! ### Frequency (R149, R150) -/

/-- an edge at position p added to a stream -/
def streamAdd (p : Nat) (x : StreamS) : StreamS :=
  if x.n = 0 then { n := 1, u0 := p }
  else
    let r := posDiff p x.u0
    { x with n := x.n + 1, su := x.su + r, siu := x.siu + (x.n : Int) * r }

/-- the exact frequency of a stream in 2^-24 Hz as (numerator, denominator): prescaler k, referred to the time DPLL's word w
when base (R150) -/
def streamFreq (x : StreamS) (k : Nat) (base : Bool) (w : Int) : Int × Int :=
  let n : Int := x.n
  let num := n * (n * n - 1) * (2 ^ k * 1250000000 * 2 ^ 44 : Nat)
  let den := 12 * x.siu - 6 * (n - 1) * x.su
  if base then (num * 2 ^ 48, den * (2 ^ 48 + w)) else (num, den)

/-- F rounded, saturating at 2^64 - 1 -/
def freqOf (q : Int × Int) : Nat := min (2 ^ 64 - 1) (roundDiv q.1 q.2).toNat
/-- O against NOM; 0 for NOM = 0 -/
def offsetOf (q : Int × Int) (nom : Nat) : Int := if nom = 0 then 0 else satS 48 (roundDiv ((q.1 - nom * q.2) * 2 ^ 48) (nom * q.2))
/-- O_BA -/
def offsetBA (a b : Int × Int) : Int := satS 48 (roundDiv ((b.1 * a.2 - a.1 * b.2) * 2 ^ 48) (a.1 * b.2))

/-- a gate ends; nosig when no closing edge came (R149, R150). Its results are latched. -/
def gateEnd (b : Nat) (nosig : Bool) (g : GateS) (c : GateCfg) (s : State) : State :=
  let two := decide (2 ≤ unitSize s b)
  let okA := decide (3 ≤ g.strA.n)
  let okB := !two || decide (3 ≤ g.strB.n)
  let no := nosig || !okA || !okB
  let x := streamFreq g.strA c.kS c.base g.w
  let y := streamFreq g.strB c.kP c.base g.w
  let hasB := two && decide (3 ≤ g.strB.n)
  let rf := pairFlags g.uncal g.loss ||| (if no then rfNosig else 0)
  let s := s |> putPair (PMU_PMn_FA_LO_FA b) (PMU_PMn_FA_FA_HI_FA b) (if okA then freqOf x else 0)
    |> putPairS (PMU_PMn_OA_LO_OA b) (PMU_PMn_OA_OA_HI_OA b) (if okA then offsetOf x c.nom else 0)
    |> putPair (PMU_PMn_FB_LO_FB b) (PMU_PMn_FB_FB_HI_FB b) (if hasB then freqOf y else 0)
    |> putPairS (PMU_PMn_OB_LO_OB b) (PMU_PMn_OB_OB_HI_OB b) (if hasB then offsetOf y c.nom else 0)
    |> putPairS (PMU_PMn_OBA_LO_OBA b) (PMU_PMn_OBA_OBA_HI_OBA b) (if okA && hasB then offsetBA x y else 0)
    |> put (PMU_PMn_NSTAMP_N b) (min (2 ^ 32 - 1) g.strA.n) |> put (PMU_PMn_RSTAT_RFLAGS b) rf |> bumpWrap (PMU_PMn_RSTAT_RSEQ b)
    |> putBit PMU_IRQ_RES b
  if no then unitWait b s else s

/-- what the gate of unit b is judged by now -/
def gateNow (s : State) (b : Nat) : GateCfg :=
  { gate := rd s (PMU_PMn_GATE_GATE b), base := on s (PMU_PMn_CFG_BASE b), nom := rdPair s (PMU_PMn_NOM_LO_NOM b) (PMU_PMn_NOM_HI_NOM b)
    kS := rd s (PMU_PMn_CFG_PRE_S b), kP := rd s (PMU_PMn_CFG_PRE_P b) }

/-- a gate begins at position p (R149) -/
def gateBegin (b p : Nat) (uncal : Bool) (s : State) : State :=
  put (PMU_PMn_STAT_STATE b) 2
    (modUnit b (fun u => { u with gate := some { u0 := p, strA := streamAdd p {}, uncal := uncal, w := wordOf s (timeDpll s) } }) s)

/-- a gate with a start edge at position p: the stops before it belong to the gate (R149) -/
def gateAdd (p : Nat) (uncal : Bool) (w : Int) (g : GateS) : GateS :=
  { g with strA := streamAdd p g.strA, strB := g.strX, uncal := g.uncal || g.uncalX || uncal, uncalX := false, w := w }

/-- does a start edge at position p close the gate -/
def gateCloses (g : GateS) (c : GateCfg) (p : Nat) : Bool := decide (((c.gate * msU : Nat) : Int) ≤ posDiff p g.u0)

/-- has twice GATE passed at position p -/
def gateLate (g : GateS) (c : GateCfg) (p : Nat) : Bool := decide (((2 * c.gate * msU : Nat) : Int) < posDiff p g.u0)

/-- a start edge at position p in frequency mode (R149): it adds to the gate or closes it, and a closing edge opens the next one; a gate
that a write of the same core cycle discarded is closed first (R163) -/
def gateStart (b p : Nat) (uncal : Bool) (s : State) : State :=
  let w := wordOf s (timeDpll s)
  let s := match (ix s.unit b).cut with
    | some (c, g, cfg) =>
      let s := modUnit b (fun u => { u with cut := none }) s
      if c = cycleNow s && gateCloses g cfg p && !gateLate g cfg p then unitWait b (gateEnd b false (gateAdd p uncal w g) cfg s) else s
    | none => s
  match (ix s.unit b).gate with
  | none => gateBegin b p uncal s
  | some g =>
    let c := gateNow s b
    if gateLate g c p then gateBegin b p uncal (gateEnd b true g c s)
    else if gateCloses g c p then
      let s := gateEnd b false (gateAdd p uncal w g) c s
      if unitState s b = 2 then gateBegin b p uncal s else s
    else modUnit b (fun u => { u with gate := some (gateAdd p uncal w g) }) s

/-- a stop edge at position p in frequency mode: stream B of a unit of two or four slices (R149) -/
def gateStop (b p : Nat) (uncal : Bool) (s : State) : State :=
  if 2 ≤ unitSize s b then
    modUnit b (fun u => { u with gate := u.gate.map (fun g => { g with strX := streamAdd p g.strX, uncalX := g.uncalX || uncal }) }) s
  else s

/-! ### Captures (R137 to R139, R144) -/

/-- may slice n capture at device time t: outside the dead time of 4 PMCLK periods after its previous capture (R138) -/
def sliceFree (s : State) (n t : Nat) : Bool :=
  match (ix s.slice n).cap with
  | some c => decide (c + 4 * pmU ≤ t)
  | none => true

/-- the slice that captures a start or stop edge of unit b at device time t, none when it is blind (R137, R138) -/
def sliceFor (s : State) (b : Nat) (stop : Bool) (t : Nat) : Option Nat :=
  match unitSize s b with
  | 4 =>
    let base := if stop then b + 2 else b
    let alt := if stop then (ix s.unit b).altP else (ix s.unit b).altS
    let first := base + b2n alt
    let other := base + 1 - b2n alt
    if sliceFree s first t then some first else if sliceFree s other t then some other else none
  | 2 => let n := if stop then b + 1 else b; if sliceFree s n t then some n else none
  | _ => if sliceFree s b t then some b else none

/-- the source ID of a route code (R70, R142) -/
def sourceId (r : Nat) : Nat :=
  if r < 16 then r else if r < 32 then r + 16 else if r < 48 then r + 16 else if r < 64 then r + 16
  else if r < 112 then r + 64 else 0x120

/-- an edge lost to the dead time (R138, R146) -/
def edgeLost (b : Nat) (stop : Bool) (s : State) : State :=
  let s := bump (PMU_PMn_CNT_LOST_EDGE b) s
  let s := modUnit b (fun u => { u with gate := u.gate.map (fun g => { g with loss := true }), sLoss := true }) s
  if unitMode s b != 1 && unitMode s b != 3 then s
  else
    match (ix s.unit b).pair with
    | .idle => s
    | .open_ p u _ =>
      if stop && unitSize s b == 1 then pairResult b 0 (rfDead ||| pairFlags u true) (putPair_ b .idle s)
      else putPair_ b (.open_ p u true) s
    | .pend p u _ =>
      if !stop && unitSize s b == 1 then pairResult b 0 (rfDead ||| pairFlags u true) (putPair_ b .idle s)
      else putPair_ b (.pend p u true) s

/-- is the edge one that the stop or the start input takes: rising at its source, or falling where the POL of a pin or INV inverts it (R95,
R139) -/
def edgeTaken (s : State) (b route : Nat) (stop : Bool) (e : InEdge) : Bool :=
  let inv := on s (if stop then PMU_PMn_CFG_INV_P b else PMU_PMn_CFG_INV_S b)
  let pol := decide (route < 16) && on s (REF_INn_CFG_POL route)
  (e.rise != pol) != inv

/-- the prescaler of the stop or the start input counts an edge: does it pass (R139) -/
def preCount (b : Nat) (stop : Bool) (s : State) : Bool × State :=
  let k := rd s (if stop then PMU_PMn_CFG_PRE_P b else PMU_PMn_CFG_PRE_S b)
  let c := if stop then (ix s.unit b).cntP else (ix s.unit b).cntS
  let c' := (c + 1) % 2 ^ k
  (c == 0, modUnit b (fun u => if stop then { u with cntP := c' } else { u with cntS := c' }) s)

/-- what became of an edge that passed the prescaler: its position, the stamp's time and flags; lost: to the dead time -/
structure CapEv where
  stop : Bool := false
  p : Nat := 0
  t : Nat := 0
  flags : Nat := 0
  uncal : Bool := false
  lost : Bool := false

/-- an edge at the stop or the start input of unit b: counted by the prescaler, and if it passes captured or lost (R129, R130, R135, R138,
R139) -/
def takeEdge (b : Nat) (stop : Bool) (e : InEdge) (s : State) : List CapEv × State :=
  let route := if stop then stopRoute s b else startRoute s b
  if route = 255 || routeOff s route || !edgeTaken s b route stop e || (stop && unitMode s b == 2 && unitSize s b == 1) then ([], s)
  else
    let r := preCount b stop s
    let s := r.2
    if !r.1 then ([], s)
    else
      let at_ := s.now - e.age * pmU
      let k := coarseNow s - e.age
      let c := e.tap % 512
      match sliceFor s b stop at_ with
      | none => ([{ stop := stop, p := uns 76 (((k * pmU : Nat) : Int) - (2048 * c + 1024 : Nat)), lost := true }], s)
      | some n =>
        let uncal := sliceUncal s n
        let t := edgeTime s n c route k
        let pre := rd s (if stop then PMU_PMn_CFG_PRE_P b else PMU_PMn_CFG_PRE_S b)
        let fl := (if uncal then flUncal else 0) ||| unlockFlag s ||| (if pre = 0 then 0 else flPresc) ||| (if stop then 32 else 0)
        let p := positionOf s n c k
        let s := modSlice n (fun x => { x with cap := some at_, capT := t }) s
        let s := modUnit b (fun u => if stop then { u with altP := !u.altP } else { u with altS := !u.altS }) s
        ([{ stop := stop, p := p, t := t, flags := fl, uncal := uncal }], s)

/-- does capture a come before capture c: by position, a start before a stop at the same one (R138, R145) -/
def capBefore (a c : CapEv) : Bool :=
  let d := posDiff a.p c.p
  decide (d < 0) || (d == 0 && !a.stop && c.stop)

/-- a list in the order of before, which keeps the order of what it does not part -/
def orderBy {α : Type} (before : α → α → Bool) : List α → List α
  | [] => []
  | a :: l =>
    let rec ins : List α → List α
      | [] => [a]
      | c :: r => if before c a then c :: ins r else a :: c :: r
    ins (orderBy before l)

/-- a capture of unit b used: stamped, paired or accumulated (R144, R145, R149) -/
def useCapture (b : Nat) (x : CapEv) (s : State) : State :=
  if unitState s b = 0 then s
  else if x.lost then edgeLost b x.stop s
  else
    let m := unitMode s b
    let route := if x.stop then stopRoute s b else startRoute s b
    let s := if m = 0 || on s (PMU_PMn_CFG_SQ_EN b) then sqPush b x.t (sourceId route) x.flags s else s
    match m, x.stop with
    | 1, false => pairStart b x.p x.uncal s
    | 1, true => pairStop b x.p x.uncal s
    | 2, false => gateStart b x.p x.uncal s
    | 2, true => gateStop b x.p x.uncal s
    | 3, false => pairStart b x.p x.uncal s
    | 3, true => pairStop b x.p x.uncal s
    | _, _ => s

/-- the edges at the inputs of unit b (true: the stop input) within one reorder window, in the order in which they reached the slices -/
def arrivals (es : List (Bool × InEdge)) : List (Bool × InEdge) :=
  orderBy (fun a c => decide (c.2.age < a.2.age) || (a.2.age == c.2.age && decide (c.2.tap < a.2.tap))) es

/-- the edges at the inputs of unit b within one reorder window: taken as they reach the slices, their captures used in the order of their
positions (R138) -/
def unitEdges (b : Nat) (es : List (Bool × InEdge)) (s : State) : State :=
  if unitSize s b = 0 || unitState s b = 0 then s
  else
    let r := (arrivals es).foldl (fun (r : List CapEv × State) e => let q := takeEdge b e.1 e.2 r.2; (r.1 ++ q.1, q.2)) ([], s)
    forEach (orderBy capBefore r.1) (useCapture b) r.2

/-- the device time at which a position is reached -/
def posTime (s : State) (p : Nat) : Nat := s.pmu.coarse0 + p

/-! ### Calibration (R132 to R134) -/

/-- is slice n part of an enabled unit (R160) -/
def sliceEnabled (s : State) (n : Nat) : Bool := on s (PMU_PMn_CFG_EN (unitOf s n))

/-- the capture of slice n in the present core cycle, if it took one, becomes uncalibrated: its stamp, the pairing or gate it stands in, the
results it gave (R163) -/
def captureUncal (n : Nat) (s : State) : State :=
  let x := ix s.slice n
  if !thisCycle s x.cap then s
  else
    let cy := cycleNow s
    let mark (p : Postmark) : Postmark := if p.t = x.capT && !stampIsGap p then { p with flags := p.flags ||| flUncal } else p
    let bad (r : ResultRec) : ResultRec := if resIsGap r || bitAt r.rflags 4 then r else { r with rflags := r.rflags ||| rfUncal }
    modUnit (unitOf s n) (fun u => { u with
      sq := { u.sq with recs := u.sq.recs.map mark }
      rq := { u.rq with recs := u.rq.recs.take (u.rq.recs.length - qFresh cy u.rq) ++ (u.rq.recs.drop (u.rq.recs.length - qFresh cy u.rq)).map bad }
      pair := match u.pair with
        | .open_ p _ l => .open_ p true l
        | .pend p _ l => .pend p true l
        | .idle => .idle
      gate := u.gate.map (fun g => { g with uncalX := true }) }) s

/-- a check of slice n's loop with an error of e taps (R132) -/
def loopCheck (n : Nat) (e : Int) (s : State) : State :=
  let f := PMU_PMn_CALSTAT_LOOP_LOCK n
  let good := if e.natAbs ≤ 1 then (ix s.slice n).good + 1 else 0
  let s := modSlice n (fun x => { x with good := min good 256 }) s
  if 4 < e.natAbs then
    if !on s f then s
    else
      let s := captureUncal n (put f 0 s)
      if sliceEnabled s n then raise 15 (some n) s else s
  else if 256 ≤ good then put f 1 s else s

/-- L[c] for every tap of a histogram of total m (R133) -/
def linTable (m : Nat) : Nat → Nat → List Nat → List (Nat × Nat)
  | _, _, [] => []
  | c, acc, h :: r => (c, roundDivN (2 ^ 20 * (2 * acc + h)) (2 * m)) :: linTable m (c + 1) (acc + h) r

/-- a skew run starts; one that runs goes on (R134) -/
def skewStart (s : State) : State :=
  match s.pmu.skewEnd with
  | some _ => s
  | none => { s with pmu := { s.pmu with skewEnd := some (s.now + 10 * msU) } }

/-- a histogram of slice n completes: the new table replaces the live one (R133) and, unless PMU is isolated, is delivered over path P-10 (R162); the first tables of all slices start the
skew run (R134, R136); the last table of a REBUILD sets TABLE (R158) -/
def tableReplace (n : Nat) (h : List Nat) (s : State) : State :=
  if h.length != 512 || h.foldl (fun a b => a + b) 0 != 2 ^ 20 then s
  else
    let lin := (linTable (2 ^ 20) 0 0 h).foldr (fun e t => if e.2 = 2048 * e.1 + 1024 then t else e :: t) []
    let s := modSlice n (fun x => { x with lin := lin, old := x.lin, tabAt := some s.now, stale := false }) s
    let s := if isolated s 5 then s else { s with pmu := { s.pmu with p10 := vset s.pmu.p10 n lin } }
    let s := put (PMU_PMn_CALSTAT_TABLE_VALID n) 1 s
    let was := s.pmu.rebuild
    let left := clrBit was n
    let s := { s with pmu := { s.pmu with rebuild := left } }
    let s := if was != 0 && left = 0 then put PMU_IRQ_TABLE 1 s else s
    if !s.pmu.auto && (List.range 12).all (fun i => on s (PMU_PMn_CALSTAT_TABLE_VALID i)) then
      skewStart { s with pmu := { s.pmu with auto := true } }
    else s

/-- a skew run ends without success (R134) -/
def skewFail (s : State) : State :=
  raise 17 none (put PMU_IRQ_SKEW_DONE 1 { s with pmu := { s.pmu with skewEnd := none } })

/-- 4096 common edges on every slice: sums of u_n - u_0 (R134) -/
def skewDone (sums : List Int) (s : State) : State :=
  let k (n : Nat) : Int := if n = 0 then 0 else roundDiv (sums.getD n 0) 4096
  if (List.range 12).any (fun n => decide (131072 < (k n).natAbs)) then skewFail s
  else
    let s := forEach (List.range 12) (fun n s => s |> putS (PMU_SKEWn_K n) (k n) |> put (PMU_PMn_CALSTAT_SKEW_VALID n) 1) s
    put PMU_IRQ_SKEW_DONE 1 { s with pmu := { s.pmu with skewEnd := none } }

/-- a test pair on unit b: start at tap cs, stop SEP periods later at tap cp (R162) -/
def testPair (b sep cs cp : Nat) (s : State) : State :=
  let stopSlice := match unitSize s b with
    | 4 => b + 2
    | 2 => b + 1
    | _ => b
  if stopSlice = b && sep < 4 then put PMU_TESTRES_RESULT 0 s
  else
    let d : Int := ((sep * pmU : Nat) : Int) - linOf s stopSlice (cp % 512) - skewOf s stopSlice + linOf s b (cs % 512) + skewOf s b
    putS PMU_TESTRES_RESULT (intervalOf d).1 s

end Sys2Proof.Machine
end

