-- ==== Sys2Proof/Machine/Ptp.lean ====
section
/-! DEFINITION. PTP running: port states and the best master clock algorithm (R349, R350; the comparison itself is that of IEEE
1588-2019 and ITU-T G.8275.1, log entry 61), path delay and offsets (R351, R352), forwarding and correction (R341, R357, R358),
egress (R344, R346, R361, R366), links, SyncE and ESMC (R339, R362, R363), the table operations (R369). -/

namespace Sys2Proof.Machine
open Sys2Proof.Reg

/-! ### Port states (R349) -/

/-- 2^log seconds, log signed -/
def intvU (log : Int) : Nat := if 0 ≤ log then secU * 2 ^ log.toNat else secU / 2 ^ (-log).toNat

def annU (s : State) (p : Nat) : Nat := intvU (rdS s (PTP_Pp_INTV_LOG_ANN p))

/-- may port p be a master, a slave (R48, R349) -/
def mayMaster (s : State) (p : Nat) : Bool := mode s 0 && bitAt s.img.struct_.portMaster p
def slaveCap (s : State) (p : Nat) : Bool := bitAt s.img.struct_.portSlave p && !on s (PTP_Pp_LPRIO_MASTER_ONLY p)
def maySlave (s : State) (p : Nat) : Bool := mode s 1 && slaveCap s p

/-- the end of the announce receipt timeout set anew -/
def annRestart (p : Nat) (s : State) : State :=
  modPort p (fun x => { x with annDl := some (s.now + rd s (PTP_Pp_INTV_ANN_TO p) * annU s p) }) s

/-- port p enters a state -/
def enterPort (p st : Nat) (s : State) : State :=
  let old := portState s p
  if old = st then s
  else
    let s := put PTP_EVT_PORT_STATE 1 (put (PTP_Pp_STAT_STATE p) st s)
    let s := if old = 9 then setSrcOk (16 + p) false s else s
    let s := if old = 5 then modPort p (fun x => { x with qualDl := none }) s else s
    match st with
    | 4 => annRestart p s
    | 6 => modPort p (fun x => { x with syncAt := s.now, annAt := s.now, annDl := none }) s
    | 8 => annRestart p (modPort p (fun x => { x with passed := false, sync := none, syncDone := none, grpN := 0, grpSum := 0, grpBest := none, dreq := none, dreqAt := s.now }) s)
    | 9 =>
      match s.ptp.parent with
      | some (_, f) => setSrc (16 + p) true (qlOfClass f.ann.cls f.ann.acc) s
      | none => s
    | _ => s

/-- must port p be DISABLED -/
def portOff (s : State) (p : Nat) : Bool :=
  !on s (PTP_Pp_CFG_EN p) || !on s (PTP_Pp_CFG_PTP_EN p) || on s (PTP_Pp_STAT_CFG_ERR p) || on s PTP_CLK_STAT_CFG_ERR
    || !(bitAt s.img.struct_.portMaster p || bitAt s.img.struct_.portSlave p)

/-- the parent goes with its port -/
def dropParent (p : Nat) (s : State) : State :=
  match s.ptp.parent with
  | some (q, _) => if q = p then modPtp (fun x => { x with parent := none, stale := true }) s else s
  | none => s

/-- port p is DISABLED, FAULTY or starts in INITIALIZING as R349 asks -/
def portEval (p : Nat) (s : State) : State :=
  if !ptpUp s then s
  else
    let st := portState s p
    if portOff s p then enterPort p 3 (dropParent p s)
    else if !on s (PTP_Pp_STAT_LINK p) then enterPort p 2 (dropParent p s)
    else if st = 0 || st = 2 || st = 3 then enterPort p 1 s
    else s

/-- port p back to INITIALIZING (R353, R371) -/
def portInit (p : Nat) (s : State) : State :=
  if portState s p = 2 || portState s p = 3 then portEval p s
  else portEval p (enterPort p 1 (dropParent p (modPort p (fun x => { x with foreign := [] }) s)))

/-! ### The best master clock algorithm (R350) -/

/-- a data set to compare: Announce data, sender, local priority -/
structure DataSet where
  ann : AnnData := {}
  srcId : Nat := 0
  srcPort : Nat := 0
  prio : Nat := 128
  port : Nat := 0
  deriving DecidableEq, Repr, Inhabited

/-- is list a below list b, compared from the left -/
def lexLt : List Nat → List Nat → Bool
  | a :: r, b :: q => decide (a < b) || (a == b && lexLt r q)
  | _, _ => false

/-- how a compares with b: 2 better, 1 better by topology, 0 worse or the same -/
def dsBetter (own : Nat) (g8275 : Bool) (a b : DataSet) : Nat :=
  let topo : Nat :=
    if a.ann.steps + 1 < b.ann.steps then 2
    else if a.ann.steps < b.ann.steps then (if own < b.srcId then 2 else 1)
    else if b.ann.steps < a.ann.steps then 0
    else if lexLt [a.srcId, a.srcPort, a.port] [b.srcId, b.srcPort, b.port] then 1 else 0
  if g8275 then
    let ka := [a.ann.cls, a.ann.acc, a.ann.var, a.ann.p2, a.prio]
    let kb := [b.ann.cls, b.ann.acc, b.ann.var, b.ann.p2, b.prio]
    if ka = kb then
      if a.ann.gmId = b.ann.gmId || decide (a.ann.cls < 128) then topo else if a.ann.gmId < b.ann.gmId then 2 else 0
    else if lexLt ka kb then 2 else 0
  else if a.ann.gmId = b.ann.gmId then topo
  else
    let k (x : DataSet) : List Nat := [x.ann.p1, x.ann.cls, x.ann.acc, x.ann.var, x.ann.p2, x.ann.gmId]
    if lexLt (k a) (k b) then 2 else 0

def better (s : State) (a b : DataSet) : Nat := dsBetter (ownClockId s) (profile s == 4) a b

/-- the data set of a foreign master on port p -/
def foreignSet (s : State) (p : Nat) (f : Foreign) : DataSet :=
  { ann := f.ann, srcId := f.srcId, srcPort := f.srcPort, prio := orElse0 (rd s (PTP_Pp_LPRIO_LOCAL_PRIO p)) 128, port := p }

/-- is a foreign master qualified: two Announces within four announce intervals, steps removed below 255 (IEEE 1588) -/
def qualified (s : State) (p : Nat) (f : Foreign) : Bool :=
  decide (f.ann.steps < 255) && match f.prev with
    | some t => decide (s.now ≤ t + 4 * annU s p)
    | none => false

/-- the best of a list of data sets -/
def bestOf (s : State) : List DataSet → Option DataSet
  | [] => none
  | a :: r => some (r.foldl (fun b x => if better s x b = 0 then b else x) a)

/-- the best qualified foreign master of port p -/
def erBest (s : State) (p : Nat) : Option DataSet :=
  bestOf s (((ix s.ptp.port p).foreign.filter (qualified s p)).map (foreignSet s p))

/-- does port p take part -/
def inBmca (s : State) (p : Nat) : Bool := decide (4 ≤ portState s p)

/-- the best of all ports; under G.8275.1 ports that may not be slaves do not count -/
def eBest (s : State) : Option DataSet :=
  bestOf s (((List.range 6).filter (fun p => inBmca s p && (profile s != 4 || slaveCap s p))).filterMap (erBest s))

def ownSet (s : State) : DataSet := { ann := ownAnn s, srcId := ownClockId s }

/-- the recommended state of port p: 6 MASTER (with its qualification interval count), 9 SLAVE, 7 PASSIVE, none: no change -/
def recommend (s : State) (p : Nat) (force : Bool) : Option (Nat × Nat) :=
  let er := erBest s p
  let own := ownSet s
  if er.isNone && portState s p = 4 && !force then none
  else if decide (1 ≤ own.ann.cls) && decide (own.ann.cls ≤ 127) then
    match er with
    | none => some (6, 0)
    | some e => if better s own e = 0 then some (7, 0) else some (6, 0)
  else
    match eBest s with
    | none => some (6, 0)
    | some eb =>
      if better s own eb != 0 then some (6, 0)
      else if eb.port = p && er == some eb then some (9, 0)
      else
        match er with
        | some e => if better s eb e = 1 then some (7, 0) else some (6, eb.ann.steps + 1)
        | none => some (6, eb.ann.steps + 1)

/-- port p takes its recommended state as far as it may (R349) -/
def takeState (p : Nat) (r : Nat × Nat) (s : State) : State :=
  let st := portState s p
  match r.1 with
  | 6 =>
    let s := dropParent p s
    if !mayMaster s p then enterPort p 4 s
    else if st = 5 || st = 6 then s
    else if profile s = 4 then enterPort p 6 s
    else modPort p (fun x => { x with qualDl := some (s.now + r.2 * annU s p) }) (enterPort p 5 s)
  | 9 =>
    match erBest s p with
    | none => s
    | some e =>
      if !maySlave s p then enterPort p 4 (dropParent p s)
      else
        let same := match s.ptp.parent with
          | some (q, f) => q == p && f.srcId == e.srcId && f.srcPort == e.srcPort
          | none => false
        match (ix s.ptp.port p).foreign.find? (fun f => f.srcId == e.srcId && f.srcPort == e.srcPort) with
        | none => s
        | some f =>
          let s := modPtp (fun x => { x with parent := some (p, f), stale := true }) s
          if same && (st = 8 || st = 9) then s else enterPort p 8 (if st = 9 then enterPort p 4 s else s)
  | _ => enterPort p 7 (dropParent p s)

/-- the BMCA runs; force names a port whose announce receipt timeout has passed (R349, R350) -/
def runBmca (force : Option Nat) (s : State) : State :=
  if !ptpUp s then s
  else
    let rs := ((List.range 6).filter (inBmca s)).filterMap (fun p => (recommend s p (force == some p)).map (fun r => (p, r)))
    let s := forEach (rs.filter (fun x => x.2.1 != 9)) (fun x s => takeState x.1 x.2 s) s
    ptpStale (forEach (rs.filter (fun x => x.2.1 == 9)) (fun x s => takeState x.1 x.2 s) s)

/-- a port that may no longer hold its state leaves it: the exits of TS and TC (R48) -/
def portModes (s : State) : State :=
  forEach (List.range 6) (fun p s =>
    let st := portState s p
    if (st = 5 || st = 6) && !mayMaster s p then enterPort p (if mode s 1 then 4 else 3) s
    else if (st = 8 || st = 9) && !maySlave s p then enterPort p (if mode s 0 then 4 else 3) (dropParent p s)
    else if st = 3 && !portOff s p && (mode s 0 || mode s 1) then portEval p s
    else s) s

/-! ### Path delay and offset (R351, R352) -/

def mpd (s : State) (p : Nat) : Int := rdPairI s (PTP_Pp_MPD_LO_D p) (PTP_Pp_MPD_HI_D p)

/-- UNCALIBRATED is left once a delay is valid and a value has been passed on (R352) -/
def calibrated (p : Nat) (s : State) : State :=
  if portState s p = 8 && on s (PTP_Pp_STAT_MPD_VALID p) && (ix s.ptp.port p).passed then enterPort p 9 s else s

/-- a raw delay enters the filter of port p (R351) -/
def delayIn (p : Nat) (raw : Int) (s : State) : State :=
  let d := mpd s p
  let valid := on s (PTP_Pp_STAT_MPD_VALID p)
  let rej := rd s (PTP_Pp_FILT_DLY_REJ p)
  let setD (v : Int) (s : State) : State := put (PTP_Pp_STAT_MPD_VALID p) 1 (putPairS (PTP_Pp_MPD_LO_D p) (PTP_Pp_MPD_HI_D p) v s)
  let far := valid && rej != 0 && decide (rej * 65536 < (raw - d).natAbs)
  if far then
    let s := bump (PTP_Pp_CNT1_DLY_REJ p) s
    let n := (ix s.ptp.port p).rejRun + 1
    if n = 8 then setD raw (modPort p (fun x => { x with rejRun := 0 }) s) else modPort p (fun x => { x with rejRun := n }) s
  else
    let s := modPort p (fun x => { x with rejRun := 0 }) s
    let w : Int := (2 ^ min 10 (rd s (PTP_Pp_FILT_DLY_FILT p)) : Nat)
    calibrated p (setD (if valid then d + roundDiv (raw - d) w else raw) s)

/-- a value passed on: to slot 16 + p in SLAVE (R352) -/
def passOn (p : Nat) (o : Int) (s : State) : State :=
  let s := putPairS (PTP_Pp_OFM_LO_O p) (PTP_Pp_OFM_HI_O p) o s
  if portState s p = 9 then slotSample (16 + p) (-o) s
  else calibrated p (modPort p (fun x => { x with passed := true }) s)

/-- a raw offset and its t2 - t1 - c_s enter the group of R352 -/
def offsetIn (p : Nat) (o m : Int) (s : State) : State :=
  let fm := rd s (PTP_Pp_FILT_FMODE p)
  if fm = 0 || fm = 3 then passOn p o s
  else
    let x := ix s.ptp.port p
    let n := x.grpN + 1
    let best := match x.grpBest with
      | some b => if m < b.1 then (m, o) else b
      | none => (m, o)
    let size := 2 ^ min 8 (rd s (PTP_Pp_FILT_FN p))
    if size ≤ n then
      let v := if fm = 1 then roundDiv (x.grpSum + o) (n : Int) else best.2
      passOn p v (modPort p (fun y => { y with grpN := 0, grpSum := 0, grpBest := none }) s)
    else modPort p (fun y => { y with grpN := n, grpSum := x.grpSum + o, grpBest := some best }) s

/-- a Sync complete with its origin time (R352) -/
def syncIn (p : Nat) (t1 t2 c : Int) (s : State) : State :=
  let s := modPort p (fun x => { x with sync := none, syncDone := some (t1, t2, c) }) s
  let m := t2 - t1 - c
  offsetIn p (m - mpd s p - rdS s (PTP_Pp_ASYM_A p)) m s

/-! ### Forwarding (R341, R342, R358) -/

/-- a frame that may enter port p -/
def rxOk (s : State) (p : Nat) (h : FrameHdr) : Bool :=
  ptpUp s && on s (PTP_Pp_CFG_EN p) && on s (PTP_Pp_STAT_LINK p) && !h.bad && decide (64 ≤ h.len)
    && decide (h.len ≤ clampN 1518 9216 (rd s PTP_SW_CFG_MAXFRAME))

/-- VID and PCP of a frame on port p (R342) -/
def vidOf (s : State) (p : Nat) (h : FrameHdr) : Nat :=
  match h.tag with
  | some (v, _) => if v = 0 then rd s (PTP_Pp_CFG_PVID p) else v
  | none => rd s (PTP_Pp_CFG_PVID p)
def pcpOf (h : FrameHdr) : Nat :=
  match h.tag with
  | some (_, c) => c % 8
  | none => 0

def isPtpFrame (h : FrameHdr) : Bool := h.etype == 0x88F7 || h.udpPtp

/-- the egress ports of a frame of port p: its known port, or every other member (R341) -/
def egressPorts (s : State) (p : Nat) (h : FrameHdr) : List Nat :=
  let v := vidOf s p h
  let m := vlanMember s v
  let multicast := bitAt h.dst 40
  let want := if multicast then 63 else match fdbFind s h.dst v with
    | some e => e.ports
    | none => 63
  (List.range 6).filter (fun q => q != p && bitAt m q && bitAt want q && on s (PTP_Pp_CFG_EN q) && on s (PTP_Pp_STAT_LINK q))

/-- t_L: 16 µs after now, rounded up to a whole 8 ns (R361) -/
def launchAt (s : State) : Nat := whenTod s (ceilDiv (s.tod + 16000 * nsT) (8 * nsT) * (8 * nsT))

/-- a frame of port p forwarded; e gives what is sent to an egress port -/
def forward (p : Nat) (h : FrameHdr) (e : Nat → Egress) (s : State) : State :=
  let v := vidOf s p h
  if !bitAt (vlanMember s v) p then s
  else
    let outs := egressPorts s p h
    let s := fdbLearn p h.src v s
    forEach outs (fun q s =>
      let j := if isPtpFrame h && on s (PTP_Pp_CFG_PTP_Q7 q) then 7 else bitsOf (rd s PTP_PCP_MAP_MAP) (3 * pcpOf h + 2) (3 * pcpOf h)
      enqueue q j { e q with len := h.len, untag := bitAt (vlanUntag s v) q, etMatch := h.etype == rd s (PTP_Pp_TSQCFG_ETYPE q) } s) s

/-- a PTP message of another domain, or of a port without PTP, forwarded: corrected between ports with PORT_TC; peer delay stays (R358,
R360); pass: its TLV passed its check, which its timestamp on the way out shows too (R346) -/
def forwardPtp (p kind : Nat) (m : PtpMsg) (pass : Bool) (s : State) : State :=
  if kind = 3 || kind = 4 || kind = 11 then s
  else
    let tcIn := bitAt s.img.struct_.portTc p && m.domain != rd s PTP_CLK_CFG_DOMAIN && (kind == 1 || kind == 2 || kind == 9)
    let sa := match m.auth with
      | some a => saFor s a m.domain
      | none => none
    let noKey := tcIn && m.auth.isSome && sa.isNone
    let s := if noKey then bump (PTP_Pp_CNT1_TC_NOKEY p) s else s
    let link := if isP2p s then mpd s p else 0
    let s0 := s
    forward p m.hdr (fun q =>
      let tc := tcIn && !noKey && bitAt s0.img.struct_.portTc q
      { kind := kind, seq := m.seq, domain := m.domain, srcId := m.srcId, srcPort := m.srcPort, corr := m.corr, tc := tc, oneStep := !m.twoStep
        ingress := if tc && kind != 9 then some s0.now else none, link := link, sa := sa, authOk := pass
        launch := if tc && kind != 9 && !m.twoStep && sa.isSome then some (launchAt s0) else none }) s

/-! ### Received messages -/

/-- the corrected receive time of now on port p (R344) -/
def rxTime (s : State) (p : Nat) : Int := (now16 s : Int) - rdS s (PTP_Pp_RXLAT_LAT p)

/-- a PTP message received on port p: stamped, checked, terminated where it is of the instance's domain, else forwarded (R346, R348,
R360) -/
def ptpRx (p kind : Nat) (m : PtpMsg) (body : State → State) (s : State) : State :=
  if !rxOk s p m.hdr then s
  else
    let pass := match m.auth with
      | some a => authPass s a m.domain
      | none => false
    let et := m.hdr.etype == rd s (PTP_Pp_TSQCFG_ETYPE p)
    let event := decide (kind ≤ 4)
    let stamp := (event && on s (PTP_Pp_TSQCFG_CAP_PTP p)) || (et && on s (PTP_Pp_TSQCFG_CAP_ET p))
    let fl := unlockFlag s ||| (if event then 32 else 0) ||| (if et then 64 else 0) ||| (if pass && txSigns s then 128 else 0)
    let s := if stamp then portTsPush p (rxTime s p).toNat (0x100 + 2 * p) fl s else s
    if m.domain = rd s PTP_CLK_CFG_DOMAIN && on s (PTP_Pp_CFG_PTP_EN p) then
      if mode s 7 && !pass then authFail p s
      else
        let s := if txSigns s && m.auth.isSome && !pass then authFail p s else s
        if portState s p < 4 && !(portState s p == 1 && (kind == 3 || kind == 4 || kind == 11)) then s else body s
    else forwardPtp p kind m (pass && txSigns s) s

/-- is a message from the parent of port p -/
def fromParent (s : State) (p : Nat) (m : PtpMsg) : Bool :=
  match s.ptp.parent with
  | some (q, f) => q == p && f.srcId == m.srcId && f.srcPort == m.srcPort
  | none => false

def slaveish (s : State) (p : Nat) : Bool := portState s p == 8 || portState s p == 9

/-- a Sync with its origin time (R352) -/
def syncRx (p : Nat) (m : PtpMsg) (t1 : Int) (s : State) : State :=
  if !slaveish s p || !fromParent s p m then s
  else if m.twoStep then modPort p (fun x => { x with sync := some (m.seq, none, rxTime s p, m.corr) }) s
  else syncIn p t1 (rxTime s p) m.corr s

/-- a Follow_Up with its precise origin time -/
def followRx (p : Nat) (m : PtpMsg) (t1 : Int) (s : State) : State :=
  if !slaveish s p || !fromParent s p m then s
  else
    match (ix s.ptp.port p).sync with
    | some (q, _, t2, c) => if q = m.seq then syncIn p t1 t2 (c + m.corr) s else s
    | none => s

/-- is a response meant for port p -/
def forMe (s : State) (p reqId reqPort : Nat) : Bool := reqId == ownClockId s && reqPort == p + 1

/-- a Delay_Resp with its receive time t4 (R351) -/
def delayRespRx (p : Nat) (m : PtpMsg) (t4 : Int) (reqId reqPort : Nat) (s : State) : State :=
  if isP2p s || !slaveish s p || !fromParent s p m || !forMe s p reqId reqPort then s
  else
    match (ix s.ptp.port p).dreq, (ix s.ptp.port p).syncDone with
    | some (q, some t3), some (t1, t2, c) =>
      if q = m.seq then delayIn p (roundDiv ((t2 - t1 - c) + (t4 - t3 - m.corr)) 2) (modPort p (fun x => { x with dreq := none }) s) else s
    | _, _ => s

/-- a Delay_Req on a MASTER port in E2E is answered (R357) -/
def delayReqRx (p : Nat) (m : PtpMsg) (s : State) : State :=
  if isP2p s || portState s p != 6 then s
  else sendOwn p { kind := 10, seq := m.seq, reqId := m.srcId, reqPort := m.srcPort, t := rxTime s p, corr := m.corr } s

/-- a Pdelay_Req is answered in P2P (R357) -/
def pdelayReqRx (p : Nat) (m : PtpMsg) (s : State) : State :=
  if !isP2p s then s
  else
    let one := on s (PTP_Pp_CFG_STEP p)
    sendOwn p { kind := 4, seq := m.seq, reqId := m.srcId, reqPort := m.srcPort, t := rxTime s p, corr := m.corr, oneStep := one
                launch := if one && (txSa s).isSome then some (launchAt s) else none } s

/-- the raw link delay of a peer-delay exchange, r being the neighbour rate ratio less 1 in 2^-48 (R351) -/
def linkDelay (s : State) (p : Nat) (t1 t4 turn_ c : Int) : Int :=
  let r := if on s (PTP_Pp_STAT_NRR_VALID p) then rdPair48 s (PTP_Pp_NRR_LO_R p) (PTP_Pp_NRR_HI_R p) else 0
  roundDiv ((t4 - t1) * (2 ^ 48 + r) - (turn_ + c) * 2 ^ 48) (2 ^ 49)

/-- a Pdelay_Resp: one-step completes the exchange, two-step waits for its Follow_Up (R351) -/
def pdelayRespRx (p : Nat) (m : PtpMsg) (t2 : Int) (reqId reqPort : Nat) (s : State) : State :=
  if !isP2p s || !forMe s p reqId reqPort then s
  else
    match (ix s.ptp.port p).pd with
    | some (q, some t1) =>
      if q != m.seq then s
      else if m.twoStep then modPort p (fun x => { x with pdResp := some (t2, rxTime s p, m.corr) }) s
      else delayIn p (linkDelay s p t1 (rxTime s p) 0 m.corr) (modPort p (fun x => { x with pd := none }) s)
    | _ => s

/-- the neighbour rate ratio over the last eight exchanges (R351) -/
def nrrIn (p : Nat) (t3 t4 : Int) (s : State) : State :=
  let l := ((t4.toNat, t3 - t4) :: (ix s.ptp.port p).nrr).take 8
  let s := modPort p (fun x => { x with nrr := l }) s
  if l.length < 8 then s
  else
    match slopeOf l with
    | some r => put (PTP_Pp_STAT_NRR_VALID p) 1 (putPairS (PTP_Pp_NRR_LO_R p) (PTP_Pp_NRR_HI_R p) r s)
    | none => s

/-- a Pdelay_Resp_Follow_Up with its t3 completes the exchange (R351) -/
def pdelayFupRx (p : Nat) (m : PtpMsg) (t3 : Int) (reqId reqPort : Nat) (s : State) : State :=
  if !isP2p s || !forMe s p reqId reqPort then s
  else
    match (ix s.ptp.port p).pd, (ix s.ptp.port p).pdResp with
    | some (q, some t1), some (t2, t4, c) =>
      if q != m.seq then s
      else
        let s := nrrIn p t3 t4 (modPort p (fun x => { x with pd := none, pdResp := none }) s)
        delayIn p (linkDelay s p t1 t4 (t3 - t2) (c + m.corr)) s
    | _, _ => s

/-- an Announce: the foreign masters of the port, the parent's data, the BMCA (R350, R356) -/
def announceRx (p : Nat) (m : PtpMsg) (a : AnnData) (s : State) : State :=
  if m.srcId = ownClockId s then s
  else
    let same (f : Foreign) : Bool := f.srcId == m.srcId && f.srcPort == m.srcPort
    let l := (ix s.ptp.port p).foreign
    let f : Foreign := match l.find? same with
      | some f => { f with ann := a, at_ := s.now, prev := some f.at_ }
      | none => { srcId := m.srcId, srcPort := m.srcPort, ann := a, at_ := s.now }
    let l := if l.any same then l.map (fun x => if same x then f else x) else if l.length < 5 then l ++ [f] else l
    let s := modPort p (fun x => { x with foreign := l }) s
    let s := if slaveish s p && fromParent s p m then
        let s := annRestart p (modPtp (fun x => { x with parent := some (p, f) }) s)
        let s := if portState s p = 9 then setSrc (16 + p) true (qlOfClass a.cls a.acc) s else s
        slotTimeInfo (16 + p) (if a.utcOk then some a.utcOff else none) (a.leap61 || a.leap59) a.leap59 s
      else if portState s p = 4 || portState s p = 7 then annRestart p s
      else s
    runBmca none s

/-! ### Timers -/

/-- Sync falls due on a MASTER port (R357) -/
def syncDue (p : Nat) (s : State) : State :=
  if portState s p != 6 || !ptpUp s then s
  else
    let x := ix s.ptp.port p
    let s := advanceTo x.syncAt s
    let s := modPort p (fun x => { x with syncAt := s.now + intvU (rdS s (PTP_Pp_INTV_LOG_SYNC p)), sSync := (x.sSync + 1) % 65536 }) s
    let one := on s (PTP_Pp_CFG_STEP p)
    sendOwn p { kind := 1, seq := x.sSync, oneStep := one, launch := if one && (txSa s).isSome then some (launchAt s) else none } s

/-- an announce interval: the BMCA runs, a MASTER port sends Announce (R350) -/
def annDue (p : Nat) (s : State) : State :=
  if portState s p < 4 || !ptpUp s then s
  else
    let x := ix s.ptp.port p
    let s := advanceTo x.annAt s
    let s := modPort p (fun x => { x with annAt := s.now + annU s p }) s
    let s := clkEval (runBmca none s)
    if portState s p = 6 then
      let ato := if on s PTP_CLK_CFG_ATOI then some (civilOffset s (utcOfTai s (todSec s))).1 else none
      let s := sendOwn p { kind := 12, seq := x.sAnn, ann := some (annOut s), ato := ato } s
      modPort p (fun x => { x with sAnn := (x.sAnn + 1) % 65536 }) s
    else s

/-- a delay request falls due: Delay_Req of a slave in E2E, in P2P Pdelay_Req of every port whose engine runs, whatever its state (R351) -/
def delayDue (p : Nat) (s : State) : State :=
  let p2p := isP2p s
  if !ptpUp s || (if p2p then portState s p < 4 && portState s p != 1 else !slaveish s p) then s
  else
    let x := ix s.ptp.port p
    let s := advanceTo x.dreqAt s
    let s := modPort p (fun x => { x with dreqAt := s.now + intvU (rdS s (PTP_Pp_INTV_LOG_DREQ p)), sDreq := (x.sDreq + 1) % 65536 }) s
    if p2p then sendOwn p { kind := 3, seq := x.sDreq } (modPort p (fun y => { y with pd := some (x.sDreq, none), pdResp := none }) s)
    else sendOwn p { kind := 2, seq := x.sDreq } (modPort p (fun y => { y with dreq := some (x.sDreq, none) }) s)

/-- the announce receipt timeout passes (R349) -/
def annTimeout (p : Nat) (s : State) : State :=
  match (ix s.ptp.port p).annDl with
  | none => s
  | some dl =>
    if portState s p < 4 || portState s p = 5 || portState s p = 6 || !ptpUp s then s
    else
      let s := advanceTo dl s
      let keep (f : Foreign) : Bool := decide (s.now < f.at_ + rd s (PTP_Pp_INTV_ANN_TO p) * annU s p)
      let s := modPort p (fun x => { x with foreign := x.foreign.filter keep, annDl := none }) s
      if slaveish s p then
        runBmca none (enterPort p 4 (dropParent p (raise 62 (some p) s)))
      else
        let s := runBmca (some p) s
        if portState s p = 4 || portState s p = 7 then annRestart p s else s

/-- the qualification timeout: PRE_MASTER to MASTER (R349) -/
def qualTimeout (p : Nat) (s : State) : State :=
  match (ix s.ptp.port p).qualDl with
  | some t => if portState s p = 5 && ptpUp s then enterPort p 6 (advanceTo t s) else s
  | none => s

/-- the oldest correction has waited 1 s: its Follow_Up will pass unchanged (R358) -/
def tcExpire (s : State) : State :=
  match s.ptp.tc with
  | [] => s
  | w :: r => modPtp (fun x => { x with tc := r }) (advanceTo (w.at_ + secU) s)

/-! ### Egress (R344, R346, R357, R358, R366) -/

/-- residence of a message in 2^-16 ns: device time scaled by the time DPLL's word (R358) -/
def residence (s : State) (t0 : Nat) : Int := roundDiv (((s.now - t0 : Nat) : Int) * (2 ^ 48 + wordOf s (timeDpll s))) ((t16T : Nat) : Int)

/-- frame e leaves port p now -/
def egressNow (p : Nat) (e : Egress) (s : State) : State :=
  let tx : Int := (now16 s : Int) + rdS s (PTP_Pp_TXLAT_LAT p)
  let stamp := (isEvent e && on s (PTP_Pp_TSQCFG_CAP_PTP p)) || (e.etMatch && on s (PTP_Pp_TSQCFG_CAP_ET p))
  let fl := unlockFlag s ||| (if isEvent e then 32 else 0) ||| (if e.etMatch then 64 else 0) ||| (if e.authOk then 128 else 0)
  let s := if stamp then portTsPush p tx.toNat (0x101 + 2 * p) fl s else s
  let total := match e.ingress with
    | some t0 => residence s t0 + e.link
    | none => 0
  let hit (w : TcWait) : Bool := w.port == p && w.domain == e.domain && w.srcId == e.srcId && w.seq == e.seq && decide (s.now ≤ w.at_ + secU)
  let late := if e.own || e.kind != 9 || !e.tc then none else s.ptp.tc.find? hit
  let out : Egress :=
    if e.own && e.kind = 1 && e.oneStep then { e with t := tx }
    else if e.own && e.kind = 4 && e.oneStep then { e with corr := e.corr + (tx - e.t) }
    else if e.ingress.isSome && e.oneStep then { e with corr := e.corr + total }
    else match late with
      | some w => { e with corr := e.corr + w.corr }
      | none => e
  let clk := txClock s p
  let s := modPort p (fun x => { x with sent := some { out with txHz := clk.1, txW := clk.2 } }) s
  if e.own then
    match e.kind with
    | 1 => if e.oneStep then s else sendOwn p { kind := 9, seq := e.seq, t := tx } s
    | 2 => modPort p (fun x => { x with dreq := if (x.dreq.map (fun d => d.1)) = some e.seq then some (e.seq, some tx) else x.dreq }) s
    | 3 => modPort p (fun x => { x with pd := if (x.pd.map (fun d => d.1)) = some e.seq then some (e.seq, some tx) else x.pd }) s
    | 4 => if e.oneStep then s else sendOwn p { kind := 11, seq := e.seq, reqId := e.reqId, reqPort := e.reqPort, t := tx, corr := e.corr } s
    | _ => s
  else
    let s := if late.isSome then modPtp (fun x => { x with tc := x.tc.filter (fun w => !hit w) }) s else s
    if e.tc && !e.oneStep && e.kind = 1 then
      modPtp (fun x => { x with tc := x.tc ++ [{ port := p, domain := e.domain, srcId := e.srcId, seq := e.seq, corr := total, at_ := s.now }] }) s
    else s

/-- does frame e of port p wait for an earlier one: an event message for every event message queued before it on the port, a Follow_Up
for its Sync (R36, R366) -/
def heldBehind (s : State) (p : Nat) (e : Egress) : Bool :=
  (List.range 8).any (fun j => (ix (ix s.ptp.port p).q j).any (fun x => decide (x.ord < e.ord)
    && ((isEvent e && isEvent x)
      || (e.kind == 9 && x.kind == 1 && x.domain == e.domain && x.srcId == e.srcId && x.srcPort == e.srcPort && x.seq == e.seq))))

/-- may the head of a queue leave now -/
def headReady (s : State) (p : Nat) (l : List Egress) : Bool :=
  match l with
  | [] => false
  | e :: _ => !heldBehind s p e && (match e.launch with
    | some t => decide (t ≤ s.now)
    | none => true)

/-- the head of the highest queue that may leave leaves port p (R342, R366) -/
def egressHead (p : Nat) (s : State) : State :=
  if !ptpUp s || !on s (PTP_Pp_STAT_LINK p) then s
  else
    match [7, 6, 5, 4, 3, 2, 1, 0].find? (fun j => headReady s p (ix (ix s.ptp.port p).q j)) with
    | none => s
    | some j =>
      match ix (ix s.ptp.port p).q j with
      | e :: r => egressNow p e (modPort p (fun x => { x with q := vset x.q j r }) s)
      | [] => s

/-- the fixed launch instant of the head of queue 7 arrives (R361) -/
def scheduledLaunch (p : Nat) (s : State) : State :=
  match ix (ix s.ptp.port p).q 7 with
  | e :: _ =>
    match e.launch with
    | some t => egressHead p (advanceTo t s)
    | none => s
  | [] => s

/-- event messages queued or held on port p are dropped and counted (R366, R371) -/
def dropEvents (p : Nat) (s : State) : State :=
  let n := ((List.range 8).map (fun j => ((ix (ix s.ptp.port p).q j).filter isEvent).length)).foldl (fun a b => a + b) 0
  let s := modPort p (fun x => { x with q := (List.range 8).foldl (fun v j => upd v j (fun l => l.filter (fun e => !isEvent e))) x.q }) s
  put (PTP_Pp_CNT0_DROP p) (min 65535 (rd s (PTP_Pp_CNT0_DROP p) + n)) s

/-! ### Links, SyncE, ESMC (R339, R362, R363) -/

/-- slot 22 + p judged (R115) -/
def synceSlot (p : Nat) (s : State) : State :=
  let ok := on s (PTP_Pp_STAT_LINK p) && on s (PTP_Pp_STAT_CDR_LOCK p) && on s (PTP_Pp_SE_CFG_SE_EN p) && on s (PTP_Pp_SE_STAT_ESMC_OK p)
  setSrc (22 + p) ok (ix s.ptp.port p).ql s

/-- the recovered clock of port p locks or unlocks (R362) -/
def cdrLock (p : Nat) (lock : Bool) (s : State) : State :=
  if !s.img.applied then s
  else
    let s := if on s (PTP_Pp_STAT_CDR_LOCK p) && !lock && on s (PTP_Pp_SE_CFG_SE_EN p) then raise 65 (some p) s else s
    synceSlot p (putB (PTP_Pp_STAT_CDR_LOCK p) (lock && on s (PTP_Pp_SE_CFG_SE_EN p)) s)

/-- the link of port p comes up at a speed, 0 to 3; half duplex keeps it down (R339), and none comes
up while the power-fail warning sheds the lanes (R419) -/
def linkRise (p speed : Nat) (half : Bool) (s : State) : State :=
  if !s.img.applied || !on s (PTP_Pp_CFG_EN p) || rd s (PTP_Pp_STAT_ERR p) = 1 || (on s NVM_STAT_PF_WARN && on s NVM_CFG_SHED) then s
  else if half && on s (PTP_Pp_CFG_AN p) then ptpErr (PTP_Pp_STAT_CFG_ERR p) true (put (PTP_Pp_STAT_ERR p) 5 s)
  else
    let s := if rd s (PTP_Pp_STAT_ERR p) = 5 then put (PTP_Pp_STAT_ERR p) 0 (put (PTP_Pp_STAT_CFG_ERR p) 0 s) else s
    let sd := rd s (PTP_Pp_CFG_SERDES p)
    let sp := if sd = 2 then 3 else if sd = 1 || !on s (PTP_Pp_CFG_AN p) then 2 else min speed 2
    let s := if on s (PTP_Pp_STAT_LINK p) then s else put PTP_EVT_LINK 1 s
    synceSlot p (portEval p (ptpCfgEval (s |> put (PTP_Pp_STAT_LINK p) 1 |> put (PTP_Pp_STAT_SPEED p) sp)))

/-- the link of port p goes down (R339, R349, R372) -/
def linkFall (p : Nat) (s : State) : State :=
  if !on s (PTP_Pp_STAT_LINK p) then s
  else
    let s := if on s (PTP_Pp_CFG_EN p) then raise 61 (some p) s else s
    let s := put PTP_EVT_LINK 1 (put (PTP_Pp_STAT_LINK p) 0 s)
    let s := dropEvents p s
    let s := if on s (PTP_Pp_STAT_CDR_LOCK p) && on s (PTP_Pp_SE_CFG_SE_EN p) then raise 65 (some p) s else s
    synceSlot p (portEval p (put (PTP_Pp_STAT_CDR_LOCK p) 0 s))

/-- INITIALIZING complete (R349) -/
def initDone (p : Nat) (s : State) : State := if portState s p = 1 && ptpUp s then enterPort p 4 s else s

/-- an ESMC PDU (R363) -/
def esmcRx (p : Nat) (event : Bool) (ssm : Nat) (ext : Option Nat) (s : State) : State :=
  if !ptpUp s || !on s (PTP_Pp_CFG_EN p) || !on s (PTP_Pp_STAT_LINK p) then s
  else
    let ql := qlOfSsm (on s (PTP_Pp_SE_CFG_OPT p)) ssm ext
    let s := if (ix s.ptp.port p).ql = ql then s else put PTP_EVT_ESMC_CHG 1 s
    let s := modPort p (fun x => { x with ql := ql, esmcAt := if event then x.esmcAt else some s.now }) s
    let s := s |> put (PTP_Pp_SE_STAT_RX_SSM p) ssm |> put (PTP_Pp_SE_STAT_RX_ESSM p) (ext.getD 0) |> putB (PTP_Pp_SE_STAT_RX_EXT p) ext.isSome
    synceSlot p (if event then s else put (PTP_Pp_SE_STAT_ESMC_OK p) 1 s)

/-- 5 s without an information PDU (R363) -/
def esmcTimeout (p : Nat) (s : State) : State :=
  match (ix s.ptp.port p).esmcAt with
  | none => s
  | some t =>
    let s := advanceTo (t + 5 * secU) s
    let s := modPort p (fun x => { x with esmcAt := none }) s
    let s := if on s (PTP_Pp_SE_CFG_SE_EN p) then raise 64 (some p) s else s
    synceSlot p (put (PTP_Pp_SE_STAT_ESMC_OK p) 0 s)

/-- the information PDU of each second (R364) -/
def esmcInfo (p : Nat) (s : State) : State :=
  if !esmcSends s p then s
  else
    let s := advanceTo (ix s.ptp.port p).esmcDue s
    esmcSend p false (modPort p (fun x => { x with esmcDue := s.now + secU }) s)

/-- the link of port p taken down and started again (R339): what the partner reported before is not known any more -/
def linkRestart (p : Nat) (s : State) : State :=
  portEval p (linkFall p (if rd s (PTP_Pp_STAT_ERR p) = 5 then ptpCfgEval (put (PTP_Pp_STAT_ERR p) 0 s) else s))

/-! ### Table operations (R369) -/

/-- FDB_CTL.GO with OP: 0 look up, 1 add static, 2 delete, 3 flush dynamic entries -/
def fdbOp (op : Nat) (s : State) : State :=
  let mac := rd s PTP_FDB_LO_MAC + rd s PTP_FDB_HI_MAC * 2 ^ 32
  let vid := rd s PTP_FDB_HI_VID
  let is (e : FdbEnt) : Bool := e.mac == mac && e.vid == vid
  let f := fdbFind s mac vid
  let s := s |> put PTP_FDB_CTL_OP op |> put PTP_FDB_CTL_GO 0
  match op with
  | 0 =>
    match f with
    | some e => s |> put PTP_FDB_CTL_FOUND 1 |> putB PTP_FDB_CTL_STATIC e.static_ |> put PTP_FDB_CTL_PORTS e.ports
    | none => s |> put PTP_FDB_CTL_FOUND 0 |> put PTP_FDB_CTL_STATIC 0
  | 1 =>
    let e : FdbEnt := { mac := mac, vid := vid, ports := rd s PTP_FDB_CTL_PORTS, static_ := true, seen := s.now }
    if f.isSome then put PTP_FDB_CTL_FULL 0 (modFdb (fun l => l.map (fun x => if is x then e else x)) s)
    else if 2048 ≤ s.ptp.fdb.length then put PTP_FDB_CTL_FULL 1 s
    else put PTP_FDB_CTL_FULL 0 (modFdb (fun l => l ++ [e]) s)
  | 2 => putB PTP_FDB_CTL_FOUND f.isSome (modFdb (fun l => l.filter (fun x => !is x)) s)
  | _ => modFdb (fun l => l.filter (fun x => x.static_)) s

/-- the dynamic entry seen longest ago reaches AGE (R341) -/
def fdbAge (s : State) : State :=
  let age := rd s PTP_SW_CFG_AGE * secU
  let dyn := s.ptp.fdb.filter (fun e => !e.static_)
  if age = 0 then s
  else
    match dyn.map (fun e => e.seen) with
    | [] => s
    | a :: r =>
      let s := advanceTo (r.foldl min a + age) s
      modFdb (fun l => l.filter (fun e => e.static_ || decide (s.now < e.seen + age))) s

/-! ### Tests, resets, isolation (R371) -/

def ptpTestGo (s : State) : State :=
  if !isolated s 12 then refuse s
  else s |> put PTP_TEST_GO 1 |> put PTP_TESTRES_DONE 0 |> modPtp (fun x => { x with testRun := true })

/-- the loopback test ends with a loop delay error in ps -/
def ptpTestDone (err : Int) (s : State) : State :=
  if !s.ptp.testRun then s
  else
    s |> modPtp (fun x => { x with testRun := false }) |> put PTP_TEST_GO 0 |> put PTP_TESTRES_DONE 1 |> putS PTP_TESTRES_ERR (satS 16 err)
      |> putB PTP_TESTRES_PASS (decide (err.natAbs ≤ 500))

/-- every port restarts in INITIALIZING -/
def portsRestart (s : State) : State := forEach (List.range 6) portInit s

/-- a reset of block PTP (R371) -/
def ptpReset (t0 : Nat) (s : State) : State :=
  let s := forEach (List.range 6) (fun p s =>
    let s := portTsGap p t0 (0x100 + 2 * p) (dropEvents p (portTsCut p s))
    let s := modPort p (fun x => { x with pd := none, pdResp := none, dreq := none, nrr := [], rejRun := 0 }) s
    s |> put (PTP_Pp_STAT_MPD_VALID p) 0 |> put (PTP_Pp_STAT_NRR_VALID p) 0) s
  portsRestart s

/-- PTP isolated: every port sends idle and forwards nothing; slots 16 to 27 follow their producer -/
def ptpIsolate (s : State) : State :=
  let s := forEach (List.range 6) (fun p s =>
    enterPort p 1 (dropParent p (modPort p (fun x => { x with foreign := [], q := Vector.replicate 8 [] }) (dropEvents p s)))) s
  slotsOfBlock 12 s

/-- writes of port settings: those of R353 restart the port, a filter change starts its group anew -/
def portWritten (p : Nat) (init link grp : Bool) (s : State) : State :=
  let s := ptpCfgEval s
  let s := if link then linkRestart p s else s
  let s := if grp then modPort p (fun x => { x with grpN := 0, grpSum := 0, grpBest := none }) s else s
  synceSlot p (portEval p (if init then portInit p s else s))

end Sys2Proof.Machine
end

