-- ==== Sys2Proof/Machine/Gen.lean ====
section
/-! DEFINITION. GEN: the clocks (R23, R27, R107, R225), the mode sequences (R46 to R53), isolation and release (R55, R56), what a
block reset does in each block (R457), the synthesiser test (R234). -/

namespace Sys2Proof.Machine
open Sys2Proof.Reg

/-! ### Clocks (R23, R27, R107, R208, R225) -/

/-- the least edges of SYSCLK_IN in a presence window (R106) -/
def presMin (s : State) : Nat :=
  match rd s RST_STRAP_CLKMODE with
  | 1 => 15
  | 2 => 30
  | _ => 6

/-- IN_SPEC of every DPLL judged again: the core froze or its alignment ended (R206) -/
def frozenEval (s : State) : State := forEach (List.range 8) inSpecEval s

/-- the core synthesiser loses lock (R23, R27): FROZEN after a first lock; before one, a fall of SYSCLK_PRES takes it back to its search
(R213) -/
def coreLost (pres : Bool) (s : State) : State :=
  let st := synState s 4
  if st = 3 then
    let s := synTouch 4 s
    let s := modSyn 4 (fun x => { x with fFrom := fNom s x.live }) s
    let s := s |> putSynState 4 6 |> put GEN_CLKSTAT_CORE_LOCK 0 |> put GEN_CLKSTAT_CORE_FROZEN 1 |> put GEN_CLKSTAT_RCLK_OK 0
    raise 33 none (minBreakAll (frozenEval (bump SYN_CORE_STAT_FREEZES s)))
  else if st = 2 && pres then putSynState 4 1 s
  else s

/-- what follows a fall of SYSCLK_PRES (R107, R108, R212) -/
def presGone (s : State) : State := forEach (List.range 4) synPresFall (coreLost true (warmStop s))

/-- SYSCLK_PRES falls -/
def presFall (s : State) : State := presGone (raise 11 none (put GEN_CLKSTAT_SYSCLK_PRES 0 s))

/-- what follows a rise of SYSCLK_PRES: a warm-up starts in the oven class, searches begin (R108, R208, R213) -/
def presBack (s : State) : State :=
  let s := if ovenClass s then warmStart s else s
  let s := if synState s 4 = 0 then startSearch 4 s else s
  forEach (List.range 4) synEval s

/-- SYSCLK_PRES rises -/
def presRise (s : State) : State := presBack (put GEN_CLKSTAT_SYSCLK_PRES 1 s)

/-- a presence window ends with its count of edges (R107); the detector runs from the first release after a loss of retention -/
def presWindow (edges : Nat) (s : State) : State :=
  if inSequence s && s.rst.lost then s
  else if edges < presMin s then
    let s := modClk (fun c => { c with pass := 0 }) s
    if on s GEN_CLKSTAT_SYSCLK_PRES then presFall s else s
  else
    let s := modClk (fun c => { c with pass := min 8 (c.pass + 1) }) s
    if s.clk.pass = 8 && !on s GEN_CLKSTAT_SYSCLK_PRES then presRise s else s

/-- the sources of parity checkers (R472) -/
def paritySources : List Nat := [1, 4, 9, 14, 20, 24, 31, 36, 42, 50, 53, 60, 67, 68, 78, 84, 85, 86, 91, 92]

def modFlt (f : FltS → FltS) (s : State) : State := { s with flt := f s.flt }

/-- the checkers of a list of sources are tested one after another, after those already waiting (R472) -/
def chkBegin (l : List Nat) (s : State) : State :=
  match l with
  | [] => s
  | a :: r =>
    if s.flt.chkEnd.isSome then modFlt (fun f => { f with chkQ := f.chkQ ++ l }) s
    else modFlt (fun f => { f with chkEnd := some (s.now + 2 * cycU), chkSrc := a, chkQ := r, chkDiv := none }) s

/-- the configuration of the core synthesiser by CLKMODE (R208); its frame is one period of SYSCLK_IN, to whose edges it is aligned (R214) -/
def coreLive (s : State) : SynLive :=
  let m := if rd s RST_STRAP_CLKMODE = 1 then 200 else if rd s RST_STRAP_CLKMODE = 2 then 100 else 500
  { refmode := 0, mint := m, mfrac := 0, frame := 2 * m }

/-- the first lock since L0: the time base, the time of day, the self-tests, the check-bit tests and the table builds begin (R136, R236,
R254, R472, R483) -/
def coreFirst (s : State) : State :=
  let load := aonGet s TKP_RTC_STAT_SET == 1 && aonGet s TKP_RTC_STAT_RUN == 1
  let s := modSyn 4 (fun x => { x with live := coreLive s, ph := 0, phT := s.now }) s
  let s := { s with tod := 0, tkp := { s.tkp with run := true, waitRtc := load }, pmu := { s.pmu with coarse0 := s.now } }
  chkBegin paritySources (selfTestBegin s)

/-- the core synthesiser declares lock (R212, R225): after a freeze CORE_FROZEN stays until its frame is aligned -/
def coreLocked (s : State) : State :=
  let st := synState s 4
  if (st = 2 || st = 6) && on s GEN_CLKSTAT_SYSCLK_PRES then
    let s := s |> putSynState 4 3 |> put GEN_CLKSTAT_CORE_LOCK 1
    let s := modClk (fun c => { c with rclkAt := s.now }) s
    if s.tkp.run then s else coreFirst s
  else s

/-- the core frame is aligned again (R225) -/
def coreAligned (s : State) : State :=
  if on s GEN_CLKSTAT_CORE_LOCK && on s GEN_CLKSTAT_CORE_FROZEN then frozenEval (put GEN_CLKSTAT_CORE_FROZEN 0 (modSyn 4 (fun x => { x with ph := 0, phT := s.now }) s)) else s

/-- an RCLK interval of 1024 cycles ends, n core cycles long: within 20 % of 8.192 MHz or not (R27) -/
def rclkInterval (n : Nat) (s : State) : State :=
  if !on s GEN_CLKSTAT_CORE_LOCK then s
  else
    let s := advanceTo (s.clk.rclkAt + n * cycU) s
    let s := modClk (fun c => { c with rclkAt := s.now }) s
    let ok := decide (n * 6553600 ≤ 409600000000) && decide (409600000000 ≤ n * 9830400)
    let s := if !ok && on s GEN_CLKSTAT_RCLK_OK then raise 2 none s else s
    putB GEN_CLKSTAT_RCLK_OK ok s

/-- FAILED entered (R213, R232) -/
def synFail (k : Nat) (s : State) : State := raise 34 (some k) (put (SYN_SYNk_EVT_SEARCH_FAIL k) 1 (putSynState k 7 s))

/-- a band search ends with the frequencies it measured in Hz (R211, R213): LOCKING in the band taken, or FAILED with its event and
source; the core synthesiser has no FAILED and searches on -/
def searchDone (k : Nat) (l : List Nat) (s : State) : State :=
  if synState s k != 1 || !on s GEN_CLKSTAT_SYSCLK_PRES then s
  else
    let f := if k = 4 then fNom s (coreLive s) else fNom s (ix s.syn k).live
    let b := bandTaken f l
    if k = 4 then (if inFineRange f b.2 then putSynState 4 2 (put SYN_CORE_STAT_BAND b.1 s) else s)
    else if inFineRange f b.2 then putSynState k 2 (put (SYN_SYNk_STAT_BAND k) b.1 s)
    else synFail k s

/-! ### Isolation and release (R55, R56) -/

def modGen (f : GenS → GenS) (s : State) : State := { s with gen := f s.gen }
def isoOf (s : State) (b : Nat) : IsoPhase := ix s.gen.iso b
def putIso (b : Nat) (p : IsoPhase) (s : State) : State := modGen (fun g => { g with iso := vset g.iso b p }) s

/-- the isolation of block b begins, requested in the present core cycle -/
def beginIso (b : Nat) (s : State) : State := modGen (fun g => { g with isoAt := vset g.isoAt b (cycleNow s + 1) }) (putIso b .isolating s)

/-- a partial reload is under way (R93) -/
def prRunning (s : State) : Bool := decide (7 ≤ rd s IMG_STATUS_STATE) && decide (rd s IMG_STATUS_STATE ≤ 9)

/-- the spare bank: the one that is not the run bank; RUN_BANK holds the pointer bank until a candidate was read (R78) -/
def spareBank (s : State) : Nat := 1 - rd s IMG_STATUS_RUN_BANK

/-- the target block of the reload under way, once the header has come (R62): a block from 0x4 to 0xE (R86) -/
def prTarget (s : State) : Option Nat :=
  let b := (mrd s (bankAt (spareBank s) + 0x22)).toNat
  if prRunning s && decide (0x24 ≤ s.img.dl) && decide (4 ≤ b) && decide (b ≤ 14) then some b else none

/-- IRIG-B frame lock lost: FLOCK clears, slot 29 is not valid, source 38 (R250) -/
def irigLost (s : State) : State :=
  if on s TKP_IRIGIN_STAT_FLOCK then
    setSrcOk 29 false (raise 38 none (put TKP_EVT_FLOCK 1 (put TKP_IRIGIN_STAT_FLOCK 0 (modTkp (fun t => { t with irigOk := 0, irigLast := none }) s))))
  else modTkp (fun t => { t with irigOk := 0, irigLast := none }) s

/-- what isolation does in block b (R56) -/
def isolateBlock (b : Nat) (s : State) : State :=
  match b with
  | 5 => unitsEval (pmuInterrupt s)
  | 6 => selIsolate s
  | 9 => gridHold (seqDrop (forEach (List.range 6) chanOff s))
  | 10 => modAst (fun a => { a with busy := none }) s
  | 11 => schIsolate s
  | 12 => ptpIsolate s
  | 13 => crlIsolate s
  | _ => s

/-- a TEST.GO written in the core cycle in which the isolation of its block is released is lost: DONE as it was, the host access fault
(R288, R304) -/
def goLost (go res : Fld) (stop : State → State) (s : State) : State :=
  if on s go && cycSet s go == 1 then haf 4 go.addr (stop (put res (cycWas s res) (put go 0 s))) else s

/-- what release does in block b (R56 and the owning chapters) -/
def releaseBlock (b : Nat) (s : State) : State :=
  match b with
  | 4 => refRestart s
  | 5 => unitsEval s
  | 6 => selRelease s
  | 7 =>
    let s := forEach (List.range 16) (fun n s => modOut n (fun o => { o with muted := false }) s) s
    let s := forEach (List.range 4) synEval s
    forEach (List.range 16) (fun n s =>
      let s := outEval n s
      if (ix s.out n).auto then moveOut n (wantedSyn s n) (modOut n (fun o => { o with auto := false }) s) else s) s
  | 8 => irigLost s
  | 9 => forEach (List.range 6) (fun n s => if chanMay s n then acquire n (hz48 (fGrid s)) true s else s)
      (goLost MNS_TEST_GO MNS_TESTRES_DONE (modMns (fun m => { m with testEnd := none })) s)
  | 10 => astEval true (goLost AST_TEST_GO AST_TESTRES_DONE (modAst (fun a => { a with testRun := false })) s)
  | 11 => schRelease s
  | 12 => portsRestart s
  | 13 => crlRelease s
  | 14 =>
    let s := match s.nvm.waitCause with
      | some c => beginSave c (modNvm (fun n => { n with waitCause := none }) s)
      | none => s
    progNext (wbOfferAgain s)
  | _ => s

/-- the MT exit: the lowest block still isolated is released, once no partial reload runs (R55, R60) -/
def mtNext (s : State) : State :=
  if !s.gen.mtRel || prRunning s then s
  else
    match (List.range 16).find? (fun b => isoOf s b != .none) with
    | some b => if isoOf s b = .isolated then putIso b .releasing s else s
    | none => s

/-- what follows once block b is isolated: what isolation does in it, the slots it produces, and its release where that is due -/
def isoFollow (b : Nat) (s : State) : State :=
  let s := slotsOfBlock b (isolateBlock b s)
  if s.gen.mtRel then mtNext s
  else if bitAt (rd s GEN_ISOLATE_ISO_REQ) (b - 4) then s else putIso b .releasing s

/-- block b has reached its isolated state: ISO_DONE (R55) -/
def isoDone (b : Nat) (s : State) : State :=
  if isoOf s b != .isolating then s else isoFollow b (putBit GEN_ISOLATE_ISO_DONE (b - 4) (putIso b .isolated s))

/-- what follows the release of block b: what it does, the slots it produces, the next block of an MT exit -/
def releaseFollow (b : Nat) (s : State) : State := mtNext (slotsOfBlock b (releaseBlock b s))

/-- block b has completed its release (R55) -/
def releaseDone (b : Nat) (s : State) : State :=
  let again := isoOf s b = .releasingAgain
  if isoOf s b != .releasing && !again then s
  else if prTarget s = some b then s
  else
    releaseFollow b (clearBit GEN_ISOLATE_ISO_DONE (b - 4) (putIso b (if again then .isolating else .none) s))

/-- the fields of GEN.MODE, bit 0 first -/
def modeFields : List Fld :=
  [GEN_MODE_MODE_TS, GEN_MODE_MODE_TC, GEN_MODE_MODE_FR, GEN_MODE_MODE_MS, GEN_MODE_MODE_AS, GEN_MODE_MODE_CA, GEN_MODE_MODE_MT, GEN_MODE_MODE_SE]

/-- GEN.MODE set to v -/
def putMode (v : Nat) (s : State) : State :=
  (modeFields.foldl (fun (p : Nat × State) f => (p.1 + 1, putB f (bitAt v p.1) p.2)) (0, s)).2

/-- the value of GEN.MODE -/
def modeVal (s : State) : Nat := modeFields.reverse.foldl (fun v f => 2 * v + rd s f) 0

/-- what stood before a write of GEN.MODE or GEN.ISOLATE kept for its core cycle -/
def genKeep (s : State) : State :=
  modGen (fun g => { g with wrAt := cycleNow s + 1, modeOld := modeVal s, reqOld := rd s GEN_ISOLATE_ISO_REQ, todoOld := g.todo, isoOld := g.iso }) s

/-- a write of GEN.ISOLATE (R55): v is the new ISO_REQ, bit n - 4 for block n -/
def isolateWrite (v : Nat) (s : State) : State :=
  if !mode s 6 || bitAt (rd s GEN_MODESTAT_IN_TRANSIT) 6 then refuse s
  else
    let s := put GEN_ISOLATE_ISO_REQ v (genKeep s)
    forEach (List.range 11) (fun j s =>
      let b := j + 4
      match isoOf s b, bitAt v j with
      | .none, true => beginIso b s
      | .releasing, true => putIso b .releasingAgain s
      | .isolated, false => putIso b .releasing s
      | .releasingAgain, false => putIso b .releasing s
      | _, _ => s) s

/-! ### Modes (R46 to R54) -/

/-- a sequence of mode bit i begins: an MT exit clears ISO_REQ and releases blocks (R55). A block requested again while still releasing
is released and not isolated once more: log entry 131, DESIGN CHOICE -/
def modeBegin (s : State) : State :=
  match s.gen.todo with
  | (6, false) :: _ =>
    let s := modGen (fun g => { g with mtRel := true, iso := g.iso.map (fun p => if p = .releasingAgain then .releasing else p) }) s
    mtNext (put GEN_ISOLATE_ISO_REQ 0 s)
  | _ => s

/-- what follows once bit i of EFFECTIVE has changed (R48 to R54) -/
def modeEffect (i : Nat) (entry : Bool) (s : State) : State :=
  match i with
  | 0 | 1 => ptpStale (portModes s)
  | 2 => if entry then forEach (List.range 6) (fun p s => if esmcSends s p then esmcSend p true s else s) s else esmcStop s
  | 4 => if entry then asEntered s else asLeft s
  | 5 => folEval s
  | 7 => folEval (if entry then seEntered (launchAt s) s else s)
  | _ => s

/-- what follows the sequence of bit i: what its mode does, then the next sequence, or MODECHG once none is left (R46 steps 7 and 8) -/
def modeFollow (i : Nat) (entry : Bool) (s : State) : State :=
  let s := modeEffect i entry s
  if s.gen.todo.isEmpty then put GEN_IRQ_STAT_MODECHG 1 (put GEN_MODESTAT_BUSY 0 s) else modeBegin s

/-- the sequence in hand completes (R46 steps 7 and 8); an MT exit completes when no block is isolated -/
def modeDone (s : State) : State :=
  match s.gen.todo with
  | [] => s
  | (i, entry) :: rest =>
    if i = 6 && !entry && ((List.range 16).any (fun b => isoOf s b != .none) || prRunning s) then s
    else
      let s := modGen (fun g => { g with todo := rest, mtRel := false }) s
      let s := clearBit GEN_MODESTAT_IN_TRANSIT i s
      modeFollow i entry (if entry then putBit GEN_MODESTAT_EFFECTIVE i s else clearBit GEN_MODESTAT_EFFECTIVE i s)

/-- the sequences that take EFFECTIVE from a to v (R46 steps 5 and 6) -/
def modeList (a v : Nat) : List (Nat × Bool) :=
  (([4, 3, 5, 0, 1, 2, 6, 7].filter (fun i => bitAt a i && !bitAt v i)).map (fun i => (i, false)))
    ++ (([7, 6, 2, 1, 0, 5, 3, 4].filter (fun i => bitAt v i && !bitAt a i)).map (fun i => (i, true)))

/-- an MT exit starts: the isolations requested in its own core cycle do not take place (R60) -/
def dropNewIso (s : State) : State :=
  forEach (List.range 16) (fun b s => if isoOf s b = .isolating && ix s.gen.isoAt b == cycleNow s + 1 then putIso b .none s else s) s

/-- GEN.MODE takes v and its sequences begin (R46 steps 3 and 4); what stood before is kept for its core cycle (R60) -/
def modeStart (v : Nat) (s : State) : State :=
  let a := rd s GEN_MODESTAT_EFFECTIVE
  let l := modeList a v
  let s := putMode v (genKeep s)
  let s := if l.contains (6, false) then dropNewIso s else s
  if l.isEmpty then s
  else modeBegin (modGen (fun g => { g with todo := l }) (s |> put GEN_MODESTAT_IN_TRANSIT (a ^^^ v) |> put GEN_MODESTAT_BUSY 1))

/-- a reset begins in the core cycle of a write of GEN.MODE or GEN.ISOLATE: the write is lost, no sequence starts (R60, R494) -/
def genUndo (s : State) : State :=
  if s.gen.wrAt != cycleNow s + 1 then s
  else
    let t := s.gen.todoOld.foldl (fun v p => setBit v p.1) 0
    let s := s |> putMode s.gen.modeOld |> put GEN_ISOLATE_ISO_REQ s.gen.reqOld |> put GEN_MODESTAT_IN_TRANSIT t |> putB GEN_MODESTAT_BUSY (t != 0)
    modGen (fun g => { g with todo := g.todoOld, mtRel := g.mtRel && !g.todoOld.isEmpty, iso := g.isoOld, wrAt := 0 }) s

/-- a write of GEN.MODE (R46): with BUSY = 1, or with the secure-mode lock against it (R44), it is ignored and sets REJECT -/
def modeWrite (v : Nat) (s : State) : State :=
  if on s GEN_MODESTAT_BUSY then refuse (put GEN_MODESTAT_REJECT 1 s)
  else if on s GEN_LOCK_SE_LOCK && bitAt v 7 != on s GEN_MODE_MODE_SE then haf 3 s.host.cur (put GEN_MODESTAT_REJECT 1 s)
  else modeStart v s

/-! ### Block resets (R457 and the owning chapters) -/

/-- what a reset of block b does as it begins; t0 is the time of day at which it began -/
def resetBlock (b t0 : Nat) (s : State) : State :=
  match b with
  | 4 => refRestart s
  | 5 => unitsEval (pmuReset s)
  | 6 => selBlockReset s
  | 7 =>
    let s := if on s SYN_TEST_GO then s |> put SYN_TEST_GO 0 |> put SYN_TESTRES_DONE 1 |> put SYN_TESTRES_PASS 0 else s
    let s := forEach (List.range 4) (fun k s => s |> put (SYN_SYNk_EVT_LOCK k) 0 |> put (SYN_SYNk_EVT_FROZEN k) 0 |> put (SYN_SYNk_EVT_SEARCH_FAIL k) 0
      |> put (SYN_SYNk_EVT_BAND_CHG k) 0 |> put (SYN_SYNk_EVT_ALIGNED k) 0 |> put (SYN_SYNk_EVT_COMMIT_DONE k) 0) s
    put SYN_STAT_COMMIT_PEND 0 { s with commit := [] }
  | 8 => irigLost (modTkp (fun t => { t with setSec := none }) (holdLines s))
  | 9 => zqGap t0 0x040 (gridHold (chansRestart (zqCut s)))
  | 10 => if s.ast.busy.isSome then modAst (fun a => { a with busy := some true }) s else s
  | 11 => schReset t0 s
  | 12 => ptpReset t0 s
  | 13 => crlBlockReset t0 s
  | 14 => pbClear s
  | _ => s

/-- what follows when block b leaves its reset -/
def resetEnds (b : Nat) (s : State) : State :=
  let s := match b with
    | 4 => refRestart s
    | 5 => unitsEval s
    | 6 => forEach (List.range 8) selEval s
    | 9 => chansRestart s
    | 10 => astEval false s
    | 11 => schResume s
    | 12 => portsRestart s
    | _ => s
  slotsOfBlock b s

/-! ### The synthesiser test (R234) -/

/-- a write of SYN.TEST.GO: the outputs of the named synthesiser move or stop, and it is muted (R234 steps 1 and 2) -/
def synTestGo (s : State) : State :=
  if !isolated s 7 then refuse s
  else muteSyn (rd s SYN_TEST_SYN) false (s |> put SYN_TEST_GO 1 |> put SYN_TESTRES_DONE 0)

/-- the test ends with what it measured: whether the synthesiser locked, whether the spur check passed, bands out of range, worst spur
(R234 steps 3 to 6). One that locked is aligned, whatever the bands; one that did not is FAILED (log entry 155); one not enabled
is OFF again (R213) -/
def synTestDone (lock ok : Bool) (nfail spur : Nat) (s : State) : State :=
  if !on s SYN_TEST_GO then s
  else
    let k := rd s SYN_TEST_SYN
    let s := s |> put SYN_TEST_GO 0 |> put SYN_TESTRES_DONE 1 |> putB SYN_TESTRES_PASS (lock && ok && nfail == 0)
      |> put SYN_TESTRES_NFAIL (min 255 nfail) |> put SYN_TESTRES_SPUR (min 65535 spur)
    if synState s k != 5 then s
    else if !on s (SYN_SYNk_CFG_EN k) then putSynState k 0 s
    else if lock then
      commitWake k (alignSyn k (modSyn k (fun x => { x with ever := true }) (s |> putSynState k 3 |> put (SYN_SYNk_EVT_LOCK k) 1)))
    else synFail k s

end Sys2Proof.Machine
end

