-- ==== Sys2Proof/Machine/RegWrite.lean ====
section
/-! DEFINITION. What a register write stores (R6, R9, R68, R495 to R511), without the effects the blocks give it: address
decoding, byte enables, access codes, windows, locks, and the batches of the always-on registers. IMG and the host port both
write through it. -/

namespace Sys2Proof.Machine
open Sys2Proof.Reg

/-- the decoded span of a block (R496) -/
def spanOf (b : Nat) : Nat :=
  match b with
  | 0 => 0x80 | 1 => 0x10 | 2 => 0x100 | 3 => 0x20 | 4 => 0x400 | 5 => 0x800 | 6 => 0x1000 | 7 => 0x800
  | 8 => 0x400 | 9 => 0x200 | 10 => 0x400 | 11 => 0x1000 | 12 => 0x1000 | 13 => 0x800 | 14 => 0x2000 | _ => 0x200

/-- block, alias and canonical word address of a host address (R495, R497) -/
def blockOf (a : Nat) : Nat := a / 2 ^ 20 % 16
def aliasOf (a : Nat) : Nat := a / 2 ^ 18 % 4
def wordAddr (a : Nat) : Nat := blockOf a * 2 ^ 20 + (a % 2 ^ 18) / 4 * 4 % spanOf (blockOf a)

/-- the 32-bit mask of byte enables (R9) -/
def beMask (be : Nat) : Nat :=
  (if bitAt be 0 then 0xFF else 0) + (if bitAt be 1 then 0xFF00 else 0) + (if bitAt be 2 then 0xFF0000 else 0)
    + (if bitAt be 3 then 0xFF000000 else 0)

/-- the fields of the register at a canonical word address, with access codes -/
def fieldsAt (addr : Nat) : List (Fld × Nat) :=
  match rowAt addr with
  | some r => r.flds.map (fun f => ({ addr := addr, hi := f.1, lo := f.2.1 }, f.2.2))
  | none => []

/-! ### Windows -/

/-- the partner entry PIDX selects, none while its address is 0 (R404) -/
def partnerSel (s : State) : Option Nat :=
  let a := rd s CRL_PIDX_ADDR
  if a = 0 then none else some (32 * rd s CRL_PIDX_LINK + a)

def isPartnerReg (addr : Nat) : Bool := decide (0xD00104 ≤ addr) && decide (addr ≤ 0xD00124)

/-- the counter-RAM word of a CHn_OPS or CHn_ONTIME register (R333, R415) -/
def cramOf (addr : Nat) : Option Nat :=
  if decide (0xB00100 ≤ addr) && decide (addr < 0xB00400) then
    let n := (addr - 0xB00100) / 16
    if addr % 16 = 8 then some (cramOps + n) else if addr % 16 = 12 then some (cramOn + n) else none
  else none

/-- a stored field, through its window where it has one (R333, R369, R404) -/
def stored (s : State) (f : Fld) : Nat :=
  if isPartnerReg f.addr then
    match partnerSel s with
    | some b => rdB s b f
    | none => 0
  else if f.addr = 0xC00114 then bitsOf (tabGet s.ptp.vlan (rd s PTP_VLAN_IDX_VID) 0) f.hi f.lo
  else if f.addr = 0xB00704 then tabGet s.sch.mem (rd s SCH_MEM_IDX_IDX) 0
  else match cramOf f.addr with
    | some i => cram s i
    | none => rd s f

/-- a field stored, through its window where it has one -/
def store (f : Fld) (v : Nat) (s : State) : State :=
  if isPartnerReg f.addr then
    match partnerSel s with
    | some b => putIn b f v s
    | none => s
  else if f.addr = 0xC00114 then
    let i := rd s PTP_VLAN_IDX_VID
    let old := tabGet s.ptp.vlan i 0
    let new := old - bitsOf old f.hi f.lo * 2 ^ f.lo + v % 2 ^ fldWidth f * 2 ^ f.lo
    { s with ptp := { s.ptp with vlan := tabPut s.ptp.vlan i new 0 } }
  else if f.addr = 0xB00704 then
    { s with sch := { s.sch with mem := tabPut s.sch.mem (rd s SCH_MEM_IDX_IDX) (v % 65536) 0 } }
  else match cramOf f.addr with
    | some i => putCram i v s
    | none => put f v s

/-- is the field a counter of R512: every RC field of sixteen bits, and the error counts of the receivers of time (R114, R256) -/
def isCounter (f : Fld) : Bool := fldWidth f == 16 || (fldWidth f == 8 && (f.addr == 0x400314 || f.addr == 0x400324 || f.addr == 0x80005C))

/-- is the field a holding register of a frequency result (R157) -/
def isGateHold (f : Fld) : Bool := decide (0x500000 ≤ f.addr) && decide (f.addr < 0x500600) && decide (0x50 ≤ f.addr % 128)

/-- the value of a field after a write of data under byte enables -/
def mergeField (f : Fld) (old be data : Nat) : Nat :=
  let m := bitsOf (beMask be) f.hi f.lo
  (clrMask old m) ||| (bitsOf data f.hi f.lo &&& m)

/-! ### Locks (R510, R511) -/

/-- is the register at addr a lock bit register -/
def isLockReg (addr : Nat) : Bool := addr == 0x24 || addr == 0x300014 || addr == 0xF00008 || addr == 0xF0000C

/-- would a write of data change a field whose lock is set (R511) -/
def lockHit (s : State) (addr be data : Nat) : Bool :=
  on s GEN_LOCK_SE_LOCK && !isLockReg addr
    && (fieldsAt addr).any (fun p => p.2 == 4 && mergeField p.1 (stored s p.1) be data != stored s p.1)

/-! ### Always-on batches (R509) -/

/-- the RWS group of a register address: 0 RTC, 1 RST.CAUSE -/
def rwsGroupOf (addr : Nat) : Option Nat :=
  if (fieldsAt addr).any (fun p => p.2 == 5) then some (if blockOf addr = 1 then 1 else 0) else none

/-- a write to a group: it opens a batch, joins it before the cut-off, or enters the next one; none when it finds four words -/
def rwsPost (g : Nat) (w : RwsWrite) (s : State) : Option State :=
  let x := ix s.aon.grp g
  match x.landAt with
  | none => some (grpPending (modGrp g (fun x => { x with batch := [w], landAt := some (slowEdgeAfter s.now 3) }) s) g)
  | some t =>
    if s.now + cycU ≤ t then
      if x.batch.length < 4 then some (modGrp g (fun x => { x with batch := x.batch ++ [w] }) s) else none
    else if x.nextB.length < 4 then some (modGrp g (fun x => { x with nextB := x.nextB ++ [w] }) s) else none

/-- may IMG's record enter a batch now, or must it wait (R68) -/
def rwsFree (s : State) (g : Nat) : Bool :=
  let x := ix s.aon.grp g
  match x.landAt with
  | none => true
  | some t => decide (s.now + cycU ≤ t) && decide (x.batch.length < 4)

/-! ### Storing a word -/

/-- is a WO field one that holds what is written (the staged operands of R440) -/
def woHolds (addr : Nat) : Bool := decide (0xF00100 ≤ addr) && decide (addr ≤ 0xF001BC)

/-- the fields of one register written: RW and RWL fields take the enabled bytes, lock bits only ever set, RO, RC and
reserved bits ignore the write (R6, R8, R511) -/
def storeWord (addr be data : Nat) (s : State) : State :=
  forEach (fieldsAt addr) (fun p s =>
    match p.2 with
    | 1 => store p.1 (mergeField p.1 (stored s p.1) be data) s
    | 4 =>
      let v := mergeField p.1 (stored s p.1) be data
      if isLockReg addr then store p.1 (stored s p.1 ||| v) s else store p.1 v s
    | 3 => if woHolds addr then store p.1 (mergeField p.1 (stored s p.1) be data) s else s
    | _ => s) s

/-- the value of a register as stored, every field in its place -/
def loadWord (s : State) (addr : Nat) : Nat :=
  (fieldsAt addr).foldl (fun v p => v + stored s p.1 * 2 ^ p.1.lo) 0

end Sys2Proof.Machine
end

