-- ==== Sys2Proof/Machine/Rst.lean ====
section
/-! DEFINITION. RST: the reset sources, their merging, the steps of a sequence and what each level does (R477 to R494 and the
reset rules of the blocks). The pins of R486 are derived: while a sequence runs they are as that rule states. -/

namespace Sys2Proof.Machine
open Sys2Proof.Reg

def modRst (f : RstS → RstS) (s : State) : State := { s with rst := f s.rst }

/-! ### What a level resets -/

/-- the fields of a list taken over from an old state -/
def carry (l : List Fld) (old : State) (s : State) : State := forEach l (fun f s => put f (rd old f) s) s

/-- the fields f i for each i below n -/
def fldsOf (n : Nat) (f : Nat → List Fld) : List Fld := (List.range n).flatMap f

/-- the collector in NORMAL with ALIVE running (R462, R475) -/
def fltNormal (s : State) : State :=
  { (ptpStale s |> put FLT_STAT_STATE 0 |> put FLT_STAT_ALIVE_STOP 0) with flt := { s.flt with quietEnd := none } }

/-- what a switching channel's ball and status keep through every reset (R318, R479) -/
def chanFields : List Fld := fldsOf 48 (fun n =>
  [SCH_CHn_STAT_STATE n, SCH_CHn_STAT_DRIVE n, SCH_CHn_STAT_FB n, SCH_CHn_STAT_BUSY n, SCH_CHn_STAT_FAILST n, SCH_CHn_STAT_IN_FAIL n])

/-- an L0 reset (R479): reset values; the always-on domain, the MRAM, the fuses, the presence detector and the switching balls stay -/
def resetL0 (s : State) : State :=
  let n : State :=
    { pending := s.pending, now := s.now, tempAt := s.now, free := s.free, mram := s.mram, mramJ := s.mramJ, otp := s.otp, aon := s.aon, rst := s.rst
      flt := { raised := s.flt.raised }
      clk := if s.rst.lost then {} else { pass := s.clk.pass, rdy := s.clk.rdy, rdyAt := s.clk.rdyAt }
      sch := { ch := s.sch.ch.map (fun c => { pulseEnd := c.pulseEnd, ball := c.ball, back := c.back }) } }
  let n := aonCopy n
  let n := grpPending (grpPending n 0) 1
  let n := if s.rst.por then n else carry chanFields s n
  if s.rst.lost then n else carry [GEN_CLKSTAT_SYSCLK_PRES] s n

/-- the fields an L1 reset keeps beside those of the switching channels, by the reset rule of each block -/
def warmFields : List Fld :=
  [GEN_ID_GRADE, GEN_CLKSTAT_TIME_DPLL, GEN_CLKSTAT_RCLK_OK, GEN_CLKSTAT_CORE_FROZEN, GEN_CLKSTAT_CORE_LOCK, GEN_CLKSTAT_SYSCLK_PRES,
   RST_CAUSE_PENDING, RST_STRAP_HOSTSEL, RST_STRAP_CLKMODE, RST_STRAP_BOOT, RST_MAP_FLT, RST_MAP_PIN, RST_MAP_POR,
   FLT_FIRST_VALID, FLT_FIRST_MULTI, FLT_FIRST_SRC, FLT_RECOV_COUNT,
   IMG_STATUS_SPARE_VALID, IMG_STATUS_PTR, IMG_STATUS_RUN_BANK, IMG_STATUS_SOURCE, IMG_ERR_CAND, IMG_ERR_SEG, IMG_ERR_PASS2, IMG_ERR_CODE,
   REF_SYSCLK_CLASS, REF_SYSCLK_OCXO_RDY, REF_SYSCLK_WARMING, REF_SYSCLK_WARM_TO, REF_SYSCLK_ELAPSED, REF_SYSCLK_WARM_MAX,
   SEL_TEMP_VALID, SEL_TEMP_T, SYN_CORE_STAT_STATE, SYN_CORE_STAT_BAND, SYN_CORE_STAT_FREEZES,
   TKP_STAT_TIME_SET, TKP_STAT_TIME_SRC, TKP_STAT_DAT_SRC, TKP_STAT_DAT, TKP_RTC_CTL_PENDING,
   MNS_GT_STAT_VALID, MNS_GT_STAT_EXTRAP, MNS_GT_STAT_AMBIG, MNS_GT_STAT_RESTORED, MNS_GT_STAT_D_VALID, MNS_GT_STAT_SRC,
   MNS_GT_CNT_LO_N, MNS_GT_CNT_HI_N, MNS_GT_PHASE_PHASE, MNS_GT_DEV_DEV, AST_STAT_GEN, CRL_DLQ_STAT_LOST,
   NVM_STAT_SAVE_RUN, NVM_STAT_PF_WARN, NVM_STAT_CRAM_BAD, NVM_STAT_WB_LEVEL, NVM_STAT_RESTORED, NVM_STAT_TIE, NVM_STAT_SKIP, NVM_STAT_SLOT,
   NVM_STAT_INVALID, NVM_STAT_LAST_CAUSE, NVM_SEQ_SEQ,
   SEC_STAT_STATE, SEC_STAT_APPROVED, SEC_STAT_IMG_AUTH, SEC_STAT_FUSE_OK, SEC_STAT_KEK_VALID, SEC_STAT_SIGNED_BOOT, SEC_STAT_DUK_KILL,
   SEC_STAT_USABLE, SEC_STAT_ERRTEST, SEC_STAT_ARB, SEC_FUSE_STAT_TORN, SEC_FUSE_STAT_LEFT]
  ++ rwsFields
  ++ fldsOf 3 (fun k => [FLT_STK_STK k, FLT_CSTK_CSTK k])
  ++ fldsOf 12 (fun n => [PMU_SKEWn_K n, PMU_PMn_CALSTAT_LOOP_LOCK n, PMU_PMn_CALSTAT_TABLE_VALID n, PMU_PMn_CALSTAT_SKEW_VALID n])
  ++ fldsOf 8 (fun d =>
    [SEL_DPLLd_STAT_STATE d, SEL_DPLLd_STAT_FSAT d, SEL_DPLLd_STAT_IN_SPEC d, SEL_DPLLd_STAT_MODEL_VALID d, SEL_DPLLd_STAT_RESTORED d,
     SEL_DPLLd_STAT_SANITY_ACT d, SEL_DPLLd_STAT_SANITY_FAIL d, SEL_DPLLd_STAT_TERMS d, SEL_DPLLd_FREQ_LO_W d, SEL_DPLLd_FREQ_HI_W d,
     SEL_DPLLd_HOFREQ_LO_WH d, SEL_DPLLd_HOFREQ_HI_AVG_VALID d, SEL_DPLLd_HOFREQ_HI_WH d, SEL_DPLLd_HOTE_TE d, SEL_DPLLd_A0_LO_A0 d,
     SEL_DPLLd_A0_HI_A0 d, SEL_DPLLd_A1_A1 d, SEL_DPLLd_C1_C1 d, SEL_DPLLd_C2_C2 d, SEL_DPLLd_MSTAT_COUNT d, SEL_DPLLd_MSTAT_BUCKETS d,
     SEL_DPLLd_MSTAT_RES d, SEL_DPLLd_MREF_THETA_W d, SEL_DPLLd_MREF_AGE d])
  ++ fldsOf 4 (fun k => [SYN_SYNk_STAT_STATE k, SYN_SYNk_STAT_BAND k, SYN_SYNk_STAT_PH_ALIGNED k, SYN_SYNk_STAT_CFG_ERR k, SYN_SYNk_STAT_WRATE_ACT k,
     SYN_SYNk_STAT_TDC_ERR k, SEC_SLOT_USE_USE k])
  ++ fldsOf 16 (fun n => [SYN_OUTn_STAT_STATE n, SYN_OUTn_STAT_SRC n, SYN_OUTn_STAT_ON_ALT n, SYN_OUTn_STAT_ALIGNED n, SYN_OUTn_STAT_CFG_ERR n,
     SYN_OUTn_STAT_ERR n])
  ++ fldsOf 2 (fun d => [AST_DAYd_DATE_YEAR d, AST_DAYd_DATE_MONTH d, AST_DAYd_DATE_DAY d, AST_DAYd_NOONEL_ELEV d] ++ fldsOf 17 (fun e =>
     [AST_DAYd_EVe_LO_SEC d e, AST_DAYd_EVe_HI_VALID d e, AST_DAYd_EVe_HI_NOEVT d e, AST_DAYd_EVe_HI_GRAZE d e, AST_DAYd_EVe_HI_MS d e,
      AST_DAYd_EVe_HI_SEC d e]))
  ++ fldsOf 6 (fun p => [PTP_Pp_STAT_LINK p, PTP_Pp_STAT_SPEED p, PTP_Pp_STAT_CDR_LOCK p])

/-- the registers of a command slot whose command was committed, or is cancelled after the reset (R336) -/
def rcFields (s : State) : List Fld := fldsOf 8 (fun k => if rcPhase s k = 1 || rcPhase s k = 2 then
  [SCH_RCk_STAT_PHASE k, SCH_RCk_STAT_DECISION k, SCH_RCk_STAT_ABORT_LATE k, SCH_RCk_STAT_ARMED k, SCH_RCk_STAT_TARGETS k,
   SCH_RCk_RES_FIRED k, SCH_RCk_RES_NOTFIRED k, SCH_RCk_RES_PENDING k] else [])

/-- what an L1 reset does to IMG: a running image is applied again (R85); FAILED stays (R83) -/
def imgL1 (old : State) (i : ImgS) : ImgS :=
  { struct_ := i.struct_, routes := i.routes, iostd := i.iostd, pinmux := i.pinmux, spareOk := i.spareOk, signed := i.signed
    secver := i.secver, keyIdx := i.keyIdx, initMode := i.initMode, reapply := old.img.applied || i.reapply, src := i.src }

/-- the stored identities of partner entries (R407) -/
def idKeys : List Nat :=
  [CRL_P_STAT_ID_VALID, CRL_P_STAT_NCH, CRL_P_STAT_PTYPE, CRL_P_ID_LO_ID, CRL_P_ID_HI_ID].map fldKey

/-- FORM and POL of every channel latched from the live registers of an applied image (R487) -/
def latchForms (s : State) : State :=
  if s.img.applied then
    modRst (fun r => { r with form := (List.range 48).foldl (fun v n => vset v n (rd s (SCH_CHn_CFG_FORM n) + 4 * rd s (SCH_CHn_CFG_POL n))) r.form }) s
  else s

/-- an L1 reset (R479): registers take their reset values but for what each block keeps; the queues empty, what they held is counted, and
each takes a gap record of the time the reset began (R39, R40) -/
def resetL1 (s : State) : State :=
  let t0 := s.rst.holdT
  let s := schClear (crlL1 (selL1 (gridHold (latchForms s))))
  let s := fuseTear (modSec (fun x => { x with svc := none, testing := x.testing && rd s SEC_STAT_STATE != 2 }) s)
  let failed := rd s IMG_STATUS_STATE == 15
  let old := s
  let s := { s with regs := tabErase s.regs (fun k => decide (k < 2 ^ 40) || !idKeys.contains (k % 2 ^ 40)) }
  let s := carry (rcFields old) old (carry warmFields old (carry chanFields old s))
  let s := if failed then put IMG_STATUS_STATE 15 s else s
  let s := { s with
    gen := {}, host := {}, img := imgL1 old s.img, commit := []
    flt := { raised := s.flt.raised, inst := s.flt.inst, irqBy := s.flt.irqBy, nmiBy := s.flt.nmiBy }
    pin := Vector.replicate 16 {}, selWas := Vector.replicate 8 none, todr := Vector.replicate 2 {}, todWas := Vector.replicate 2 none, slot := Vector.replicate 32 {}, est := Vector.replicate 32 {}
    unit := s.unit.map (fun u => { sq := u.sq, rq := u.rq }), pmu := { s.pmu with skewEnd := none, hold := Vector.replicate 3 [] }
    tkp := { s.tkp with setSec := none, latched := none, disVal := 0, disCnt := 0, lastErr := 0, rtcSync := none, irigLast := none, irigOk := 0, txHold := true, irigOut := none, held := (holdLines old).tkp.held }
    mns := { s.mns with ch := Vector.replicate 6 {}, seqLast := Vector.replicate 2 [], seqDir := Vector.replicate 2 0, testEnd := none }
    nvm := { s.nvm with marks := 0, pb := none, testRun := false, prog := if s.nvm.prog = 2 then 0 else s.nvm.prog }
    ast := { published := s.ast.published }
    sch := { s.sch with mem := [], testEnd := none, grpErr := 2 ^ 64 - 1, why := none, guardEnd := none }
    ptp := { port := s.ptp.port.map (fun p => { tsq := p.tsq, sSync := p.sSync, sAnn := p.sAnn, sDreq := p.sDreq })
             fdb := s.ptp.fdb.filter (fun e => e.static_), cLock := s.ptp.cLock, aLock := s.ptp.aLock } }
  let s := if old.nvm.pb.isSome then put NVM_PSTAT_REFUSED 1 s else s
  let s := oqGap t0 (let q := qEmpty s.sch.oq; oqTake (q.1, q.2, false) s)
  schCancel (fltNormal (gapAll t0 (emptyAll s)))

/-- an L2 reset (R479): an in-service download or a partial reload is abandoned (R85, R93), REJECT clears (R58); one that ends SAFE brings a recovery pass (R469) -/
def resetL2 (s : State) : State :=
  let safe := inSafe s
  let s := put GEN_MODESTAT_REJECT 0 (fltNormal s)
  let s := if safe && schState s = 3 then recoverAsk .rebuilt s else s
  let st := rd s IMG_STATUS_STATE
  let img := { s.img with dl := 0, dlService := false, shadow := none, abort := none }
  if (st = 5 && s.img.dlService) || st = 6 then
    s |> put IMG_STATUS_STATE 4 |> put IMG_STATUS_SPARE_VALID 0 |> fun s => { s with img := { img with spareOk := false } }
  else if prRunning s then mtNext (s |> put IMG_STATUS_STATE 4 |> put IMG_STATUS_PR_OUTCOME 2 |> fun s => { s with img := img })
  else s

/-! ### The sequence (R481, R482) -/

/-- the level a source asks for (R478) -/
def rstLevel (s : State) (src : Nat) : Nat :=
  if src = 0 then (if s.rst.lost then 0 else if resetMap s 0 = 2 then 1 else resetMap s 0) else resetMap s src

/-- is any source asserted -/
def rstAsserted (s : State) : Bool := s.rst.por || s.rst.pin || s.rst.flt

/-- the next step of the sequence from where none runs: step 2, a save to wait for, the next hold, or step 4 -/
def rstNext (s : State) : State :=
  if s.rst.held.contains s.rst.level then modRst (fun r => { r with phase := .wait }) s
  else
    let s := if s.rst.level = 0 && !s.rst.por && !s.rst.saved then modRst (fun r => { r with saved := true }) (saveWith 4 s) else s
    if s.rst.level = 0 && s.nvm.save.isSome then modRst (fun r => { r with phase := .save }) s
    else modRst (fun r => { r with phase := .hold r.level, holdEnd := s.now + 16 * rclkU, holdT := now16 s }) s

/-- the balls at an L0 entry (R487): fail states, or high impedance at a power-on -/
def rstBalls (s : State) : State :=
  if s.rst.por then modRst (fun r => { r with hiZ := true, form := Vector.replicate 48 0 }) s else allFail 50 (latchForms s)

/-- the host port goes off (R488, R525) -/
def hostOff (s : State) : State :=
  { s with host := { s.host with posted := [], holdHi := none, holdW := [], staged := none, heldHalf := none, rdata := [], rsize := 0 } }

/-- a field of the word that a host access addressed in the core cycle of the entry: a write is lost and a clearing read clears nothing,
what the hardware set or counted in the cycle standing (R494, log entry 132) -/
def entryField (p : Fld × Nat) (s : State) : State :=
  match p.2 with
  | 1 | 4 => put p.1 (cycWas s p.1) s
  | 2 => put p.1 (if isCounter p.1 then min (cycWas s p.1 + cycSet s p.1) (2 ^ fldWidth p.1 - 1) else cycWas s p.1 ||| cycSet s p.1) s
  | _ => s

/-- the host access of the core cycle in which a sequence begins is lost (R60, R494) -/
def entryUndo (s : State) : State :=
  if s.host.curAt = cycleNow s + 1 then forEach (fieldsAt (wordAddr s.host.cur)) entryField (forEach (List.range 8) stepUndo (genUndo s)) else s

/-- a source asserted: entry, or a deeper level (R481) -/
def rstAssert (src : Nat) (s : State) : State :=
  let l := rstLevel s src
  match s.rst.phase with
  | .run =>
    let s := hostOff (modRst (fun r => { r with level := l, held := [], saved := false, seen := 2 ^ src }) (entryUndo s))
    rstNext (if l = 0 then rstBalls s else s)
  | ph =>
    let deeper := decide (l < s.rst.level)
    let s := modRst (fun r => { r with seen := setBit r.seen src, level := min l r.level }) s
    let s := if l = 0 && (deeper || src = 0) then rstBalls s else s
    if deeper && ph = .wait then rstNext s else s

/-- what a level does, its hold complete -/
def rstReset (l : Nat) (s : State) : State :=
  let s := match l with
    | 0 => resetL0 s
    | 1 => resetL1 s
    | _ => resetL2 s
  modRst (fun r => { r with held := l :: r.held }) s

/-- a save that step 3 waits for has ended -/
def rstSaved (s : State) : State := if s.rst.phase = .save && s.nvm.save.isNone then rstNext s else s

/-- the hold step of a level completes (R482 step 3) -/
def rstHoldDone (s : State) : State :=
  match (rstSaved s).rst.phase with
  | .hold l => rstNext (rstReset l (advanceTo (rstSaved s).rst.holdEnd (rstSaved s)))
  | _ => s

/-! ### Sources (R477, R484, R489) -/

/-- the page bytes of a ring slot whose program was cut off: the slot is not valid (R416, R494) -/
def tearSave (s : State) : State :=
  match s.nvm.save with
  | none => s
  | some r => modNvm (fun n => { n with save := none }) (tearSlot r.slot (put NVM_STAT_SAVE_RUN 0 s))

/-- the falling and the rising threshold of rail i in mV: 0 VDD_CORE, 1 VDD_SD, 2 VDD_A18, 3 VDD_MRAM, 4 to 10 the VDD_IO banks; the retention
threshold of VDD_CORE (R489). The ±2 % are the detector's: a reading is the rail as the detector reads it. -/
def fallMv (i : Nat) : Nat := [720, 810, 1600, 1600].getD i 1500
def riseMv (i : Nat) : Nat := [740, 830, 1650, 1650].getD i 1550
def coreRetainMv : Nat := 600

/-- a bank of mv mV: 1 is 3.3 V, 2 is 1.8 V, 0 neither (R489) -/
def bankClass (mv : Nat) : Nat := if 2900 < mv then 1 else if mv < 2000 then 2 else 0

/-- the majority of three samples, bit by bit (R485) -/
def strapMajority (a b c : Nat) : Nat := (a &&& b) ||| (a &&& c) ||| (b &&& c)

/-- rail i falls below its threshold, to mv mV -/
def railFall (i mv : Nat) (s : State) : State :=
  if 11 ≤ i then s
  else
    let fresh_ := !s.rst.por
    let s := modRst (fun r => { r with
      low := vset r.low i true, por := true, porEnd := none, lost := r.lost || (i == 0 && decide (mv < coreRetainMv))
      rails := (if fresh_ then 0 else r.rails) ||| 2 ^ min i 4 }) s
    let s := if i = 0 || i = 3 then tearSave s else s
    if fresh_ then rstAssert 0 s else if s.rst.level != 0 && rstLevel s 0 = 0 then rstAssert 0 s else rstSaved s

/-- a rail passes its rising threshold: the power-on delay starts once every rail is up -/
def railRise (i : Nat) (s : State) : State :=
  let s := modRst (fun r => { r with low := vset r.low i false }) s
  if s.rst.por && s.rst.porEnd.isNone && !s.rst.low.toList.any (fun b => b) then modRst (fun r => { r with porEnd := some (s.now + 8192 * rclkU) }) s else s

/-- the power-on delay ends -/
def porDone (s : State) : State :=
  match s.rst.porEnd with
  | some t => modRst (fun r => { r with por := false, porEnd := none }) (advanceTo t s)
  | none => s

/-- RESET_N recognised low, high -/
def resetNLow (s : State) : State := if s.rst.pin then s else rstAssert 1 (modRst (fun r => { r with pin := true }) s)
def resetNHigh (s : State) : State := modRst (fun r => { r with pin := false }) s

/-- a chip-reset reaction: the FLT source for 16 RCLK cycles (R457, R477) -/
def fltReset (s : State) : State := rstAssert 2 (modRst (fun r => { r with flt := true, fltEnd := some (s.now + 16 * rclkU) }) s)

/-- the FLT pulse ends -/
def fltResetEnd (s : State) : State :=
  match s.rst.fltEnd with
  | some t => modRst (fun r => { r with flt := false, fltEnd := none }) (advanceTo t s)
  | none => s

/-! ### Release (R482 steps 5 to 7, R492) -/

/-- RST.CAUSE takes the sources and level of the sequence: the updates land within three slow edges (R492) -/
def causeUpdate (s : State) : State :=
  let r := s.rst
  let s := s |> aonHw 1 RST_CAUSE_LAST_LEVEL r.level |> aonHw 1 RST_CAUSE_LAST_SRC r.seen
  let s := if bitAt r.seen 2 then aonHw 1 RST_CAUSE_FLT 1 s else s
  let s := if bitAt r.seen 1 then aonHw 1 RST_CAUSE_PIN 1 s else s
  if bitAt r.seen 0 then s |> aonHw 1 RST_CAUSE_POR 1 |> aonHw 1 RST_CAUSE_RAIL r.rails |> aonHw 1 RST_CAUSE_FULL (b2n r.lost) else s

/-- after an L0 release: the core synthesiser searches once SYSCLK_IN is present (R208, R483) -/
def startL0 (s : State) : State :=
  let s := modNvm (fun n => { n with l0At := s.now }) s
  let s := if ovenClass s then putB REF_SYSCLK_OCXO_RDY s.clk.rdy s else s
  if on s GEN_CLKSTAT_SYSCLK_PRES then startSearch 4 s else s

/-- release: straps as sampled, d1 and bad from fuse sensing, banks in mV (R433, R485, R489) -/
def rstRelease (straps d1 : Nat) (bad : Bool) (banks : List Nat) (s : State) : State :=
  if s.rst.phase != .wait || rstAsserted s then s
  else
    let l := s.rst.level
    let s := if l = 0 then
        let s := senseFuses d1 bad (pass (515 * rclkU) s)
        let s := s |> put RST_STRAP_BOOT straps |> put RST_STRAP_CLKMODE (straps / 4) |> put RST_STRAP_HOSTSEL (straps / 16)
          |> put REF_SYSCLK_CLASS (straps / 4)
        modRst (fun r => { r with bank33 := (List.range 7).foldl (fun v i => vset v i (bankClass (banks.getD i 0))) r.bank33 }) s
      else s
    let s := causeUpdate (pass rclkU s)
    let s := modRst (fun r => { r with phase := .run, held := [], seen := 0, saved := false, lost := false }) s
    let s := if l = 0 then startL0 s else if s.flt.corrupt then raise 4 none s else s
    if l = 1 then slotsOfBlock 4 (forEach (List.range 8) dpllL1 s) else s

/-! ### The channel-form record (R487) -/

/-- first byte of the record -/
def formAt : Nat := pageAt 0x390 + 0x10

/-- the record's eighteen bytes for the forms and polarities of the image -/
def formBytes (s : State) : List Byte :=
  leBytes 18 ((List.range 48).foldl (fun v n => v + (rd s (SCH_CHn_CFG_FORM n) + 4 * rd s (SCH_CHn_CFG_POL n)) * 2 ^ (3 * n)) 0)

/-- the record written where it differs from the image's values -/
def formWrite (s : State) : State :=
  let l := formBytes s
  let r := l ++ leBytes 4 (crc32 l)
  if mrdList s formAt 22 = r then s else mwr formAt r s

/-- the record read after a power-on: the fail states are driven by its forms; a bad CRC counts as level form with POL 0 -/
def formRead (s : State) : State :=
  if !s.rst.hiZ then s
  else
    let l := mrdList s formAt 18
    let v := if crc32 l = leNat (mrdList s (formAt + 18) 4) then leNat l else 0
    let s := modRst (fun r => { r with form := (List.range 48).foldl (fun w n => vset w n (v / 2 ^ (3 * n) % 8)) r.form, hiZ := false }) s
    allFail 50 s

/-- the level of ball SWn: none while it is high impedance; the active level is low where POL is 1, as the image sets it or, before it, as
it was latched (R315, R487) -/
def swLevel (s : State) (n : Nat) : Option Bool :=
  if s.rst.hiZ then none
  else some (on s (SCH_CHn_STAT_DRIVE n) ^^ (if s.img.applied then on s (SCH_CHn_CFG_POL n) else bitAt (ix s.rst.form n) 2))

end Sys2Proof.Machine
end

