-- ==== Sys2Proof/Machine/Flt.lean ====
section
/-! DEFINITION. FLT: sources, reactions and instances (R453 to R457), the collector (R460 to R466), SAFE (R468, R469), forcing and
check-bit tests (R471, R472); and settle, what follows at the end of every command from what it raised or changed. -/

namespace Sys2Proof.Machine
open Sys2Proof.Reg

/-! ### Tables (R453 to R456, R467) -/

/-- the block a source belongs to (R456) -/
def srcBlock (i : Nat) : Nat :=
  if i ≤ 1 then 0 else if i ≤ 3 then 1 else if i ≤ 6 then 2 else if i ≤ 9 then 3 else if i ≤ 14 then 4 else if i ≤ 20 then 5
  else if i ≤ 31 then 6 else if i ≤ 36 then 7 else if i ≤ 42 then 8 else if i ≤ 50 then 9 else if i ≤ 53 then 10 else if i ≤ 60 then 11
  else if i ≤ 68 then 12 else if i ≤ 78 then 13 else if i ≤ 86 then 14 else 15

/-- is the reaction of a source fixed (R456) -/
def reactFixed (i : Nat) : Bool := i == 4 || i == 7 || decide (87 ≤ i)

/-- the default reaction of a source (R456); source 4 reads as 0x13 (R474) -/
def reactDefault (i : Nat) : Nat :=
  if i = 4 || i = 7 then 0x13
  else if [1, 5, 9, 11, 24, 31, 33, 42, 84, 85, 87, 88, 89, 91, 92].contains i then 0x03
  else if [14, 20, 36, 50, 53, 60, 67, 68, 78, 86].contains i then 0x05
  else if i ≤ 92 then 0x01 else 0

/-- the reaction of a source in force -/
def reactOf (s : State) (i : Nat) : Nat := tabGet s.flt.react i (reactDefault i)

/-- a reaction as a source keeps it: bit 2 only for blocks 4 to 14 (R455) -/
def reactStore (i v : Nat) : Nat :=
  let v := v % 32
  if 4 ≤ srcBlock i && srcBlock i ≤ 14 then v else clrBit v 2

/-- a reaction written; fixed and reserved sources keep theirs -/
def putReact (i v : Nat) (s : State) : State :=
  if reactFixed i then s else modFlt (fun f => { f with react := tabPut f.react i (reactStore i v) (reactDefault i) }) s

/-- a reaction written by the host applies from the next raise: a raise in the same core cycle has the old one (R474, R476) -/
def reactWrite (i v : Nat) (s : State) : State :=
  let c := cycleNow s + 1
  let was := if s.flt.reactAt = c then s.flt.reactWas else []
  let was := if was.any (fun p => p.1 == i) then was else (i, reactOf s i) :: was
  putReact i v (modFlt (fun f => { f with reactAt := c, reactWas := was }) s)

/-- the reaction a raise applies -/
def reactIn (s : State) (i : Nat) : Nat :=
  if s.flt.reactAt = cycleNow s + 1 then tabGet s.flt.reactWas i (reactOf s i) else reactOf s i

/-- the default settle window in µs (R467) -/
def settleDefault (b : Nat) : Nat :=
  match b with
  | 4 => 1000 | 5 => 10 | 6 => 100 | 7 => 10 | 8 => 100 | 9 => 100 | 10 => 10 | 11 => 60000 | 12 => 2000 | 13 => 1000 | 14 => 10
  | _ => 0

/-- the default consequential sources of a reset of block b (R467) -/
def maskDefault (b : Nat) : Nat :=
  match b with
  | 4 | 12 | 13 => 2 ^ 21 + 2 ^ 25
  | 6 => 2 ^ 21 + 2 ^ 22 + 2 ^ 25
  | 8 => 2 ^ 38
  | 9 => 2 ^ 47
  | 11 => 2 ^ 55 + 2 ^ 57
  | _ => 0

def settleOf (s : State) (b : Nat) : Nat := tabGet s.flt.settle b (settleDefault b)
def maskOf (s : State) (b : Nat) : Nat := tabGet s.flt.dmask b (maskDefault b)
def putSettle (b v : Nat) (s : State) : State :=
  if 4 ≤ b && b ≤ 14 then modFlt (fun f => { f with settle := tabPut f.settle b (v % 65536) (settleDefault b) }) s else s
def putMask (b v : Nat) (s : State) : State :=
  if 4 ≤ b && b ≤ 14 then modFlt (fun f => { f with dmask := tabPut f.dmask b (v % 2 ^ 96) (maskDefault b) }) s else s

/-- the instance mask of a source (R454) -/
def instOf (s : State) (i : Nat) : Nat := tabGet s.flt.inst i 0
def putInst (i v : Nat) (s : State) : State := modFlt (fun f => { f with inst := tabPut f.inst i (v % 2 ^ 32) 0 }) s

/-- is block b in its reset window (R466) -/
def inWindow (s : State) (b : Nat) : Bool := ix s.flt.win b != ResetWin.none
def anyWindow (s : State) : Bool := (List.range 16).any (inWindow s)

/-- the sources consequential now: the masks of every open window together, and of those that end in the present core cycle (R476) -/
def consequential (s : State) : Nat :=
  (List.range 16).foldl (fun m b => if inWindow s b then m ||| (ix s.flt.dep b).2 else m) (if s.flt.endAt = cycleNow s + 1 then s.flt.endMask else 0)

/-- the settle window of block b from now on, in the length in force for it (R474) -/
def settleUntil (s : State) (b : Nat) : ResetWin := .settle (s.now + orElse0 (ix s.flt.dep b).1 1 * usU)

/-! ### Fault state (R462 to R465) -/

/-- is IMG FAILED, a recovery download under verification included: only a successful one leaves it (R83, R465) -/
def imgIsFailed (s : State) : Bool := rd s IMG_STATUS_STATE == 15 || s.img.recovery

/-- the quiet period in units of time (R463) -/
def quietU (s : State) : Nat := clampN 1 65000 (rd s FLT_QUIET_QUIET) * msU

/-- QLEFT back to QUIET; it counts only in FAULT, with no window open and IMG not FAILED -/
def quietRestart (s : State) : State :=
  let run := rd s FLT_STAT_STATE == 1 && !anyWindow s && !imgIsFailed s
  modFlt (fun f => { f with quietEnd := if run then some (s.now + quietU s) else none }) s

/-- FAULT entered from NORMAL -/
def enterFault (s : State) : State := if rd s FLT_STAT_STATE = 0 then s |> put FLT_STAT_STATE 1 |> put FLT_EVT_FAULT 1 else s

/-- SAFE entered (R468, R469): ALIVE stopped, every channel in its fail state, the degraded class announced -/
def enterSafe (s : State) : State :=
  if rd s FLT_STAT_STATE = 2 then s
  else
    let s := s |> put FLT_STAT_STATE 2 |> put FLT_STAT_ALIVE_STOP 1 |> put FLT_EVT_SAFE 1
    ptpStale (allFail (if s.img.applied then 0 else 50) (modFlt (fun f => { f with quietEnd := none }) s))

/-- IMG enters FAILED (R83, R465): every channel in its fail state, QLEFT held -/
def enterFailed (s : State) : State := allFail 50 (modFlt (fun f => { f with quietEnd := none }) s)

/-- IMG has left FAILED: a full quiet period passes before FAULT ends (R465) -/
def leftFailed (s : State) : State := if rd s FLT_STAT_STATE = 1 then quietRestart s else s

/-- a block reset begins, with the dependency entry of the block as it stands; one asked for in the settle window restarts that window (R457, R476) -/
def blockReset (b : Nat) (s : State) : State :=
  match ix s.flt.win b with
  | .none =>
    let s := modFlt (fun f => { f with win := vset f.win b (.inReset (s.now + 32 * cycU)), dep := vset f.dep b (settleOf s b, maskOf s b) }) s
    slotsOfBlock b (resetBlock b (now16 s) s)
  | .inReset _ => s
  | .settle _ => modFlt (fun f => { f with win := vset f.win b (settleUntil s b) }) s

/-- a block reset ends: its settle window opens, and the block's checkers are tested (R472, R473 steps 3 and 4) -/
def blockResetEnd (b : Nat) (s : State) : State :=
  match ix s.flt.win b with
  | .inReset t =>
    let s := advanceTo t s
    let s := resetEnds b (modFlt (fun f => { f with win := vset f.win b (settleUntil s b) }) s)
    chkBegin (paritySources.filter (fun i => srcBlock i == b)) s
  | _ => s

/-- a settle window ends: QLEFT returns to QUIET (R463) -/
def settleWindowEnd (b : Nat) (s : State) : State :=
  match ix s.flt.win b with
  | .settle t =>
    let s := advanceTo t s
    let c := cycleNow s + 1
    quietRestart (modFlt (fun f => { f with
      win := vset f.win b .none, endAt := c, endMask := (if f.endAt = c then f.endMask else 0) ||| (ix f.dep b).2 }) s)
  | _ => s

/-- QLEFT reaches 0: NORMAL, ALIVE restarts, the recovery counter increases with a save of cause 5 (R462, R464) -/
def quietExpiry (s : State) : State :=
  match s.flt.quietEnd with
  | none => s
  | some t =>
    let s := modFlt (fun f => { f with quietEnd := none }) (advanceTo t s)
    let w := cram s cramRecovery
    let c := satInc (w % 65536) 65535
    let s := s |> put FLT_STAT_STATE 0 |> put FLT_STAT_ALIVE_STOP 0 |> put FLT_EVT_RECOVERED 1 |> put FLT_RECOV_COUNT c
      |> putCram cramRecovery (w - w % 65536 + c)
    let s := if w % 65536 = 65534 then raise 6 none s else s
    saveWith 5 s

/-! ### The collector (R457, R460, R461, R466, R470) -/

/-- bit i of a vector of three 32-bit words set -/
def vecSet (f : Nat → Fld) (i : Nat) (s : State) : State := putBit (f (i / 32)) (i % 32) s

/-- the sampling cycle: a core cycle while the core clock samples, a cycle of RCLK otherwise (R459) -/
def sampleCycle (s : State) : Nat := if on s GEN_CLKSTAT_CORE_LOCK || on s GEN_CLKSTAT_CORE_FROZEN then cycleNow s else s.now / rclkU

/-- FIRST takes the sources of one cycle; another source in the cycle of the capture makes it MULTI (R461) -/
def takeFirst (l : List Nat) (s : State) : State :=
  let c := sampleCycle s + 1
  let multi (s : State) : State :=
    s |> put FLT_FIRST_VALID 0 |> cycMark FLT_FIRST_VALID 0 |> put FLT_FIRST_MULTI 1 |> put FLT_FIRST_SRC 0x7F |> cycMark FLT_FIRST_SRC 0x7F
  if on s FLT_FIRST_MULTI then s
  else if on s FLT_FIRST_VALID then
    if s.flt.firstAt = c && l.any (fun i => i != rd s FLT_FIRST_SRC) then multi s else s
  else match l with
    | [] => s
    | [i] => modFlt (fun f => { f with firstAt := c }) (s |> put FLT_FIRST_VALID 1 |> put FLT_FIRST_SRC i |> cycMark FLT_FIRST_SRC i)
    | _ => multi s

/-- may source i be raised: not reserved, its block not held in reset (R453, R454) -/
def mayRaise (s : State) (i : Nat) : Bool :=
  let b := srcBlock i
  decide (i ≤ 92) && !inReset s b && !(seqHeld s && decide (4 ≤ b) && decide (b ≤ 14))

/-- the reaction that source i applies: IRQ alone in SAFE and for a block isolated for test (R469, R470) -/
def reactNow (s : State) (safe : Bool) (i : Nat) : Nat :=
  if safe || isolated s (srcBlock i) then reactIn s i % 2 else reactIn s i

/-- the raises of the command collected as those of one cycle -/
def collect (s : State) : State :=
  let l := s.flt.raised.filter (fun p => mayRaise s p.1)
  let s := modFlt (fun f => { f with raised := [] }) s
  let m := consequential s
  let s := forEach (l.filter (fun p => bitAt m p.1)) (fun p s => vecSet FLT_CSTK_CSTK p.1 s) s
  let l := l.filter (fun p => !bitAt m p.1)
  let src := (l.map (fun p => p.1)).eraseDups
  let s := forEach l (fun p s =>
    let s := vecSet FLT_STK_STK p.1 s
    match p.2 with
    | some j => putInst p.1 (setBit (instOf s p.1) j) s
    | none => s) s
  let s := takeFirst src s
  let safe := inSafe s || src.contains 4
  let r := src.map (fun i => (i, reactNow s safe i))
  let set (bit : Nat) (m : Nat) : Nat := r.foldl (fun m p => if bitAt p.2 bit then setBit m p.1 else m) m
  let any (bit : Nat) : Bool := r.any (fun p => bitAt p.2 bit)
  let s := modFlt (fun f => { f with irqBy := set 0 f.irqBy, nmiBy := set 1 f.nmiBy }) s
  let blocks := ((r.filter (fun p => bitAt p.2 2)).map (fun p => srcBlock p.1)).eraseDups
  let s := if src.contains 4 then enterSafe s else s
  let s := if any 4 then enterFault (put FLT_STAT_ALIVE_STOP 1 s) else s
  let s := if any 3 then fltReset s
    else if blocks = [] then s else forEach blocks blockReset (enterFault s)
  if any 1 || any 2 || any 4 then quietRestart s else s

/-! ### Forcing, tests, parity (R471, R472) -/

/-- a write of FORCEk (R471) -/
def force (k v : Nat) (s : State) : State :=
  if inSafe s then s
  else forEach (bitList 32 v) (fun i s =>
    let src := 32 * k + i
    if src = 4 && !mode s 6 then refuse s else raise src none s) s

/-- a write of CHKTEST with GO = 1 (R472) -/
def chkTest (src : Nat) (s : State) : State :=
  if !mode s 6 || !paritySources.contains src then refuse s
  else chkBegin [src] (s |> put FLT_CHKTEST_GO 1 |> put FLT_CHKTEST_SRC src)

/-- a single-bit error of an MRAM word, corrected (R409, R424) -/
def eccCorrected (s : State) : State := put NVM_EVT_ECC_COR 1 (bump NVM_PSTAT_ECC_CNT s)

/-- what the block makes of its own parity error (R414, R444, R450) -/
def parityEffect (src j : Nat) (s : State) : State :=
  match src with
  | 31 => raise 31 (some j) s
  | 85 => raise 85 none (put NVM_STAT_CRAM_BAD 1 s)
  | 91 => raise 91 none (if j < 32 then putKey j 0 [] s else s)
  | 92 => secError 0xE 92 s
  | _ => raise src none s

/-- a parity check fails: instance or slot j; stored whether a stored word of the collector's protected state is corrupt (R468); a
checker under test diverts it (R472) -/
def parityError (src j : Nat) (stored_ : Bool) (s : State) : State :=
  if !paritySources.contains src then s
  else if s.flt.chkEnd.isSome && s.flt.chkSrc == src then modFlt (fun f => { f with chkDiv := some j }) s
  else parityEffect src j (if src = 4 then modFlt (fun f => { f with corrupt := f.corrupt || stored_ }) s else s)

/-- a check-bit test ends; fired: the checker raised within its two cycles (R472); the next one waiting begins -/
def chkTestEnd (fired : Bool) (s : State) : State :=
  match s.flt.chkEnd with
  | none => s
  | some t =>
    let src := s.flt.chkSrc
    let div := s.flt.chkDiv
    let rest := s.flt.chkQ
    let s := modFlt (fun f => { f with chkEnd := none, chkQ := [], chkDiv := none }) (advanceTo t s)
    let s := if src = rd s FLT_CHKTEST_SRC && !rest.contains src then put FLT_CHKTEST_GO 0 s else s
    let s := s |> put FLT_CHKRES_DONE 1 |> putB FLT_CHKRES_PASS fired |> put FLT_CHKRES_SRC src |> put FLT_EVT_CHK_DONE 1
    let s := if fired then s else raise 5 none s
    let s := match div with
      | some j => parityEffect src j s
      | none => s
    chkBegin rest s

/-! ### Image tables (R72) -/

/-- a FLTREACT segment -/
def applyReact (quiet : Nat) (sets : List Nat) (s : State) : State :=
  forEach (List.range 96) (fun i s => putReact i (sets.getD i 0) s) (put FLT_QUIET_QUIET quiet s)

/-- an FLTDEP record -/
def applyDep (b settle mask : Nat) (s : State) : State := putMask b mask (putSettle b settle s)

/-! ### Sticky bits (R457, R474) -/

/-- a write of STKk: bits written 0 clear with their instance masks, but for a bit set in the same core cycle (R476) -/
def stkWrite (k v : Nat) (s : State) : State :=
  let v := v ||| cycSet s (FLT_STK_STK k)
  let gone := (List.range 32).filter (fun i => bitAt (rd s (FLT_STK_STK k)) i && !bitAt v i)
  let s := put (FLT_STK_STK k) (rd s (FLT_STK_STK k) &&& v) s
  forEach gone (fun i s =>
    modFlt (fun f => { f with irqBy := clrBit f.irqBy (32 * k + i), nmiBy := clrBit f.nmiBy (32 * k + i) }) (putInst (32 * k + i) 0 s)) s

def cstkWrite (k v : Nat) (s : State) : State := put (FLT_CSTK_CSTK k) (rd s (FLT_CSTK_CSTK k) &&& (v ||| cycSet s (FLT_CSTK_CSTK k))) s

/-- a write of RINST: instance bits written 0 clear -/
def rinstWrite (v : Nat) (s : State) : State := putInst (rd s FLT_RIDX_SRC) (instOf s (rd s FLT_RIDX_SRC) &&& v) s

/-- NMI_N asserted (R457, R465, R469) -/
def nmiNow (s : State) : Bool := !inSequence s && (s.flt.nmiBy != 0 || inSafe s || imgIsFailed s)

/-- the FLT interrupt (R457) -/
def fltIrq (s : State) : Bool :=
  s.flt.irqBy != 0 || (rd s FLT_EVT_EN_EN % 16) &&& (rd s FLT_EVT_SAFE + 2 * rd s FLT_EVT_FAULT + 4 * rd s FLT_EVT_RECOVERED + 8 * rd s FLT_EVT_CHK_DONE) != 0

/-! ### What follows at the end of a command -/

/-- a time set or jam reaches grid time, the civil views, AST and SCH (R240) -/
def followMove (s : State) : State :=
  match s.tkp.moved with
  | none => s
  | some d =>
    let s := gridMove d (modTkp (fun t => { t with moved := none, secAt := todSec s }) s)
    schMoved d (astEval true (civilUpdate s))

/-- what the command left for others to follow, once -/
def settleOnce (s : State) : State :=
  let s := followMove (forEach (List.range 8) selRun s)
  let s := if s.tkp.leapt then astEval true (modTkp (fun t => { t with leapt := false }) s) else s
  let s := if s.crl.dead = [] then s else schDead s
  let s := if s.sec.rekeyed then folEval (linksCfgEval (saEval (modSec (fun x => { x with rekeyed := false }) s))) else s
  let s := if s.ptp.stale || s.ptp.entered then ptpFollow s else s
  if s.flt.raised = [] then s else collect s

/-- has the command left nothing for others to follow (log entry 5) -/
def calm (s : State) : Bool :=
  (List.range 8).all (fun d => (ix s.sel d).due == 0) && s.tkp.moved.isNone && !s.tkp.leapt && s.crl.dead.isEmpty && !s.ptp.stale && !s.ptp.entered && !s.sec.rekeyed && s.flt.raised.isEmpty

/-- rounds of settleOnce until nothing is left, n at most -/
def settleN : Nat → State → State
  | 0, s => s
  | n + 1, s => if calm s then s else settleN n (settleOnce s)

/-- what the command left for others to follow, until nothing is left: eight rounds reach whatever a reaction brings about -/
def settle (s : State) : State := settleN 8 s

/-- the state between commands that u ends in, s being the state before: the queue of commands untouched, MRAM writes stored, fuse bits
kept, the model's own marks of the command in progress cleared -/
def closed (s u : State) : State :=
  { u with
    pending := s.pending, mram := memPutAll s.mram u.mramJ, mramJ := [], otp := s.otp ||| u.otp
    tkp := { u.tkp with moved := none, leapt := false }, crl := { u.crl with dead := [] }
    ptp := { u.ptp with stale := false, entered := false }, sel := u.sel.map (fun x => { x with due := 0 }), sec := { u.sec with rekeyed := false }, flt := { u.flt with raised := [] } }

/-- the outcome of a command that brings about t -/
def done (s t : State) : Host.Outcome State Fault Refusal := .next (closed s (settle t))

end Sys2Proof.Machine
end

