-- ==== Sys2Proof/Machine/WriteA.lean ====
section
/-! DEFINITION. What a write does beyond storing its fields, blocks REF, PMU, SEL and SYN (R94 to R235): why the block
refuses it, and what follows it. Configuration takes effect only once an image is applied (R82); action bits always do. -/

namespace Sys2Proof.Machine
open Sys2Proof.Reg

/-- a word written to a block: its canonical word address, its byte enables, its data -/
structure WordW where
  addr : Nat := 0
  be : Nat := 15
  data : Nat := 0
  deriving DecidableEq, Repr, Inhabited

/-- the offset of the word in its block -/
def wOff (w : WordW) : Nat := w.addr % 2 ^ 20

/-- is bit i written as 1 -/
def wBit (w : WordW) (i : Nat) : Bool := bitAt w.data i && bitAt (beMask w.be) i

/-- the value a field has after the write -/
def wVal (s : State) (w : WordW) (f : Fld) : Nat := mergeField f (stored s f) w.be w.data

/-- would the write change one of these fields -/
def wChanges (s : State) (w : WordW) (l : List Fld) : Bool := l.any (fun f => f.addr == w.addr && wVal s w f != stored s f)

/-- did a field differ before -/
def differ (old s : State) (l : List Fld) : Bool := l.any (fun f => rd old f != rd s f)

/-! ### REF -/

/-- after a write to input n: a change of LEG, POL, DIV, NOM or EN restarts its monitors (R98), other values take part at once -/
def refInput (n : Nat) (old s : State) : State :=
  let restart := differ old s [REF_INn_CFG_LEG n, REF_INn_CFG_POL n, REF_INn_CFG_DIV n, REF_INn_NOM_NOM n]
  let start := restart || differ old s [REF_INn_CFG_EN n]
  let s := if restart then slotDrop n s else s
  let s := if start then pinStart n s else s
  let s := pinErrEval n s
  let s := if differ old s [REF_INn_ACT_SET n, REF_INn_ACT_CLR n] && (ix s.pin n).run then
      pinActOk n (put (REF_INn_STAT_BUCKET n) (min (rd s (REF_INn_ACT_SET n)) (rd s (REF_INn_STAT_BUCKET n))) s)
    else s
  let s := if rd s (REF_INn_FM_THR n) = 0 && (ix s.pin n).run then put (REF_INn_STAT_FM_OK n) 1 s else s
  slotEval n s

/-- after a write to receiver k (R110): EN, the rate or the sentences it takes start it afresh -/
def refTod (k : Nat) (old s : State) : State :=
  let s := if differ old s [REF_TODk_CFG_EN k, REF_TODk_CFG_BAUD k, REF_TODk_CFG_SRC k, REF_TODk_CFG_SENSE k] then todStart k s else s
  let s := todErrEval k s
  let r := tabGet s.img.routes (0x120 + k) 255
  if r < 16 then slotEval r s else s

/-- does slot 29 take its QL from REF.SRCQL: code without control functions, or the extension disabled (R118) -/
def irigPlain (s : State) : Bool :=
  let c := rd s TKP_IRIGIN_STAT_CODE
  !on s TKP_IRIGIN_CFG_EXT || c == 2 || c == 3 || c == 6 || c == 7

/-- after a write to REF -/
def refWritten (w : WordW) (old s : State) : State :=
  let o := wOff w
  if o = 0x330 then (if warmOver s then warmEnd true s else s)
  else if !s.img.applied then s
  else if o < 0x200 then refInput (o / 32) old s
  else if o < 0x300 then slotEval (o % 0x100 / 8) s
  else if o = 0x310 then refTod 0 old s
  else if o = 0x320 then refTod 1 old s
  else if o = 0x334 && irigPlain s then setSrc 29 (ix s.slot 29).srcOk (rd s REF_SRCQL_IRIG_QL) s
  else s

/-! ### PMU -/

/-- a unit register of a slice that is not the lowest of its unit (R156) -/
def pmuAbsent (s : State) (o : Nat) : Bool := decide (o < 0x600) && o % 128 != 0x38 && unitSize s (o / 128) == 0

/-- does PMU refuse the write (R156, R158) -/
def pmuRefuses (s : State) (w : WordW) : Bool := pmuAbsent s (wOff w) || (wOff w == 0x610 && !isolated s 5)

/-- PMn_CTL: pops, flushes, restart (R141, R154) -/
def pmuCtl (b : Nat) (w : WordW) (s : State) : State :=
  s |> whenB (wBit w 3) (modUnit b (fun u => { u with sq := qPop u.sq })) |> whenB (wBit w 4) (modUnit b (fun u => { u with rq := qPop u.rq }))
    |> whenB (wBit w 1) (modUnit b (fun u => { u with sq := qFlush u.sq })) |> whenB (wBit w 2) (modUnit b (fun u => { u with rq := qFlush u.rq }))
    |> whenB (wBit w 0) (unitRestart b)

/-- after a write to PMU -/
def pmuWritten (w : WordW) (_ s : State) : State :=
  let o := wOff w
  let b := o / 128
  if o < 0x600 then
    if o % 128 = 0x18 then pmuCtl b w s
    else if o % 128 ≤ 0x14 && s.img.applied then unitRestart b (unitEval b s) else s
  else if o = 0x604 then
    let s := if wBit w 1 then { s with pmu := { s.pmu with rebuild := 4095 } } else s
    if wBit w 0 then skewStart s else s
  else s

/-! ### SEL -/

/-- is a MAN_SLOT outside DPLL_CAND asked for (R167) -/
def selBadSlot (s : State) (d : Nat) (w : WordW) : Bool :=
  let m := wVal s w (SEL_SELd_CFG_SELMODE d)
  (m == 1 || m == 2) && !bitAt (candMask s d) (wVal s w (SEL_SELd_CFG_MAN_SLOT d))

/-- is a phase step of a mode that is refused (R192) -/
def stepBad (s : State) (d : Nat) (w : WordW) : Bool :=
  let m := wVal s w (SEL_DPLLd_PSTEP_HI_MODE d)
  decide (2 ≤ m) || (m == 1 && rd s (SEL_DPLLd_SLEW_SLEW d) == 0)

/-- does SEL refuse the write -/
def selRefuses (s : State) (w : WordW) : Bool :=
  let o := wOff w
  if o < 0x200 then o % 64 == 0 && selBadSlot s (o / 64) w
  else decide (0x400 ≤ o) && decide (o < 0x800) && o % 128 == 0x24 && stepBad s (o % 0x400 / 128) w

/-- CTL.ABORT (R174) -/
def selAbort (d : Nat) (s : State) : State :=
  if inSwitch s d then
    let p := rd s (SEL_SELd_STAT_PEND_SLOT d)
    let w := selNow s d 0 true
    bridgeEval d (modSel d (fun x => { x with noTarget := some p }) (selEnd d 4 { s with selWas := vset s.selWas d (some w) }))
  else s

/-- CTL.DWELL_CLR (R173) -/
def dwellClr (d : Nat) (s : State) : State := if on s (SEL_SELd_STAT_DWELL_RUN d) then dwellEnd d s else s

/-- the step that PSTEP_LO and PSTEP_HI hold is carried out (R192) -/
def stepWritten (d : Nat) (s : State) : State :=
  let p := satS 48 (sgn 48 (rd s (SEL_DPLLd_PSTEP_LO_P d) + rd s (SEL_DPLLd_PSTEP_HI_P d) * 2 ^ 32))
  let s := modDpll d (fun x => { x with step := some (cycleNow s, p, rd s (SEL_DPLLd_PSTEP_HI_MODE d)) }) s
  if rd s (SEL_DPLLd_PSTEP_HI_MODE d) = 0 then stepNow d p (stepGap d p s) else slewAdd d p s

/-- CTL.MODEL_CLR (R190) -/
def modelClr (d : Nat) (s : State) : State :=
  let s := modelClear d s
  if dpllState s d = 3 then bridgeEval d (toFreerun d s) else s

/-- FR_WORD (R190) -/
def frWord (s : State) (d : Nat) : Int := sgn 48 (rd s (SEL_DPLLd_FRW_LO_FR_WORD d) + rd s (SEL_DPLLd_FRW_HI_FR_WORD d) * 2 ^ 32)

/-- FR_WORD written: in FREERUN it becomes the word, the slew term on top of it (R190, R192); the image of an L1 reset leaves the word that
R206 keeps -/
def frwWritten (d : Nat) (s : State) : State :=
  if dpllState s d = 0 && !s.img.reapply then
    wordPut d (frWord s d + (ix s.dpll d).slew) (modDpll d (fun x => { x with frw := some (cycleNow s, wordOf s d) }) s)
  else s

/-- is a partial reload moving its values, whose effects follow when all have moved (R87) -/
def committing (s : State) : Bool := !s.img.applied && rd s IMG_STATUS_STATE == 9

/-- after a write to a DPLL register at offset r -/
def dpllWritten (d r : Nat) (w : WordW) (old s : State) : State :=
  if committing s then s
  else if r = 0x24 then stepWritten d s
  else if r = 0x28 then
    if differ old s [SEL_DPLLd_SLEW_SLEW d] && on s (SEL_DPLLd_STAT_SLEWING d) then slewAdd d 0 s else s
  else if r = 0x30 then frwWritten d s
  else if r = 0x34 then s |> whenB (wBit w 0) (slewCancel d) |> whenB (wBit w 1) (modelClr d)
  else if r = 0x10 then (if on s (SEL_DPLLd_HOCFG_LEARN d) then s else minBreak d s)
  else if r = 0x14 then modelValidEval d s
  else s

/-- after a write of SELd_CFG that changes it: the target is computed, as a write of SELMODE where that changes; no dwell period runs on for
a DPLL made revertive (R173, log entry 147) -/
def selCfgWritten (d : Nat) (old s : State) : State :=
  let mode_ := differ old s [SEL_SELd_CFG_SELMODE d]
  let s := if on s (SEL_SELd_CFG_REVERT d) && on s (SEL_SELd_STAT_DWELL_RUN d) then
      modSel d (fun x => { x with dwellEnd := none }) (put (SEL_SELd_STAT_DWELL_RUN d) 0 s)
    else s
  if mode_ then selMark d 15 s
  else if differ old s [SEL_SELd_CFG_REVERT d, SEL_SELd_CFG_PBO d, SEL_SELd_CFG_QL_LIMIT d, SEL_SELd_CFG_MAN_SLOT d] then selMark d 11 s
  else s

/-- after a write to SEL -/
def selWritten (w : WordW) (old s : State) : State :=
  let o := wOff w
  let d := o / 64
  if o < 0x200 then
    if o % 64 = 0x24 then s |> whenB (wBit w 0) (selAbort d) |> whenB (wBit w 2) (dwellClr d) |> whenB (wBit w 1) (selEval d)
    else
      let s := if o % 64 = 4 then put (SEL_SELd_MASK_EN d) (rd s (SEL_SELd_MASK_EN d) &&& candMask s d) s else s
      if !s.img.applied then s
      else if o % 64 = 0 then selCfgWritten d old s
      else if o % 64 = 4 then (if differ old s [SEL_SELd_MASK_EN d] then selMark d 11 s else s)
      else if o % 64 ≤ 0x14 then (if differ old s [SEL_SELd_PRI_PRI d ((o % 64 - 8) / 4)] then selMark d 11 s else s)
      else if o % 64 = 0x20 then (if disChanged s d then selEval d s else s)
      else s
  else if decide (0x400 ≤ o) && decide (o < 0x800) then dpllWritten (o % 0x400 / 128) (o % 128) w old s
  else s

/-! ### SYN -/

/-- is the register one whose fields a commit makes live (R218) -/
def synShadowed (o : Nat) : Bool :=
  if o < 0x100 then decide (4 ≤ o % 64) && decide (o % 64 ≤ 0x14)
  else decide (0x400 ≤ o) && decide (o < 0x600) && decide (4 ≤ o % 32) && decide (o % 32 ≤ 0xC)

/-- does SYN refuse the write (R218, R219, R234) -/
def synRefuses (s : State) (w : WordW) : Bool :=
  let o := wOff w
  (synShadowed o && on s SYN_STAT_COMMIT_PEND)
    || (o == 0x180 && commitRefused s (w.data % 4) (bitsOf w.data 31 16) (bitAt w.data 2))
    || (o == 0x188 && wBit w 31 && !isolated s 7)

/-- CTL.RELOCK: MUTE and a full search, from FROZEN or FAILED (R213, R224, R234) -/
def synRelock (k : Nat) (s : State) : State :=
  if (synState s k = 6 || synState s k = 7) && !isolated s 7 then giveHeld k (muteSyn k true s) else s

/-- the live fine delay of output n sets out for FINE, ±500 at most (R220) -/
def fineMove (n : Nat) (s : State) : State := modOut n (fun x => { x with fineTo := clampI (rdS s (SYN_OUTn_FINE_FINE n)) 500 }) (fineFix n s)

/-- after a write of SYNk_CFG: the ramp of the applied word goes on from where it stands, while FROZEN once it leaves that state (R210,
R224) -/
def synCfgWritten (k : Nat) (s : State) : State :=
  let r := rd s (SYN_SYNk_CFG_WRATE k)
  let x := ix s.syn k
  synEval k (if synState s k = 6 then
    putB (SYN_SYNk_STAT_WRATE_ACT k) (r != 0 && x.held.isSome && x.held != some x.wa) (modSyn k (fun x => { x with wrate := r }) s)
    else wordTo k x.wd r s)

/-- after a write to output n -/
def outWritten (n r : Nat) (old s : State) : State :=
  if r = 0x10 then fineMove n s
  else if r = 0 then
    let s := outEval n s
    if differ old s [SYN_OUTn_CFG_SEL n] then moveOut n (wantedSyn s n) s else s
  else if r = 0x14 then outEval n s
  else s

/-- after a write to SYN -/
def synWritten (w : WordW) (old s : State) : State :=
  let o := wOff w
  let k := o / 64
  if o < 0x100 then
    if o % 64 = 0x1C then s |> whenB (wBit w 1) (synRelock k) |> whenB (wBit w 0) (askRealign k)
    else if o % 64 = 0 && s.img.applied then synCfgWritten k s else s
  else if o = 0x180 then commitAsk (w.data % 4) (bitsOf w.data 31 16) (bitAt w.data 2) s
  else if o = 0x188 then (if wBit w 31 then synTestGo s else s)
  else if decide (0x400 ≤ o) && decide (o < 0x600) && s.img.applied then outWritten (o % 0x400 / 32) (o % 32) old s
  else s

end Sys2Proof.Machine
end

