-- ==== Sys2Proof/Machine/WriteB.lean ====
section
/-! DEFINITION. What a write does beyond storing its fields, blocks TKP, MNS and AST (R236 to R304), and how the batches of the
always-on registers land (R509). -/

namespace Sys2Proof.Machine
open Sys2Proof.Reg

/-! ### The always-on domain (R6, R253 to R255, R492, R509) -/

/-- of the first x crystal cycles of windows of 2^21, those that a trim of magnitude m takes (R253, log entry 13) -/
def trimCycles (m x : Nat) : Nat := x / 2 ^ 21 * m + min (x % 2 ^ 21) m

/-- n crystal cycles pass: SUBSEC and SECONDS advance, TRIM applied (R253) -/
def crystalCycles (n : Nat) (s : State) : State :=
  if n = 0 || aonGet s TKP_RTC_STAT_RUN = 0 then s
  else
    let trim := sgn 16 (aonGet s TKP_RTC_CTL_TRIM)
    let w := s.aon.win
    let k := trimCycles trim.natAbs (w + n) - trimCycles trim.natAbs w
    let sub := aonGet s TKP_RTC_SEC_HI_SUBSEC + (if trim < 0 then n - k else n + k)
    let s := { s with aon := { s.aon with win := (w + n) % 2 ^ 21 } }
    s |> putRtcSec (rtcSec s + sub / 32768) |> aonPut TKP_RTC_SEC_HI_SUBSEC (sub % 32768)

/-- n crystal cycles that were counted had not come: SUBSEC and SECONDS go back (R253) -/
def crystalBack (n : Nat) (s : State) : State :=
  let trim := sgn 16 (aonGet s TKP_RTC_CTL_TRIM)
  let w := s.aon.win + 2 ^ 21
  let k := trimCycles trim.natAbs w - trimCycles trim.natAbs (w - n)
  let t := rtcSec s * 32768 + aonGet s TKP_RTC_SEC_HI_SUBSEC - (if trim < 0 then n - k else n + k)
  let s := { s with aon := { s.aon with win := (w - n) % 2 ^ 21 } }
  s |> putRtcSec (t / 32768) |> aonPut TKP_RTC_SEC_HI_SUBSEC (t % 32768)

/-- the domain brought up to the last slow edge at or before now -/
def aonPass (s : State) : State :=
  let e := slowEdges s.now
  crystalCycles (e - s.aon.edge) { s with aon := { s.aon with edge := e } }

/-- slot 31 is valid while the backup clock runs and holds a set time (R115) -/
def rtcSlot (s : State) : State :=
  let ok := aonGet s TKP_RTC_STAT_SET == 1 && aonGet s TKP_RTC_STAT_RUN == 1
  if (ix s.slot 31).srcOk = ok then s else setSrcOk 31 ok s

/-- DSYNC: a comparison within the last 10 s passed without a rewrite (R254) -/
def dsyncEval (s : State) : State :=
  aonPut TKP_RTC_STAT_DSYNC (b2n (match s.aon.lastOk with
    | some t => decide (s.now ≤ t + 10 * secU)
    | none => false)) s

/-- the always-on domain at an edge of the 32.768 kHz clock: the copies take the values as they stood before it, then hardware updates that
are due land (R6) -/
def refreshDomain (t : Nat) (s : State) : State :=
  let s := advanceTo t s
  let s := crystalCycles (slowEdges t - 1 - s.aon.edge) { s with aon := { s.aon with edge := max s.aon.edge (slowEdges t - 1) } }
  let s := dsyncEval (aonPass (aonCopy s))
  aonLandHw 1 t (aonLandHw 0 t s)

/-- an edge of the 32.768 kHz clock, slot 31 following (R6, R115) -/
def refreshAt (t : Nat) (s : State) : State := rtcSlot (refreshDomain t s)

/-- the always-on word at addr -/
def aonWord (s : State) (addr : Nat) : Nat :=
  (fieldsAt addr).foldl (fun v p => if p.2 = 5 then v + aonGet s p.1 * 2 ^ p.1.lo else v) 0

/-- the data an alias makes of old (R499): 0 plain, 1 set, 2 clear, 3 toggle -/
def aliasData (alias_ old data : Nat) : Nat :=
  match alias_ with
  | 1 => old ||| data
  | 2 => clrMask old data
  | 3 => old ^^^ data
  | _ => data

/-- one write of a batch lands (R255, R259, R492, R501) -/
def rwsLandOne (w : RwsWrite) (s : State) : State :=
  let v := aliasData w.alias_ (aonWord s w.addr) w.data
  let mrg (f : Fld) : Nat := mergeField f (aonGet s f) w.be v
  let hit (i : Nat) : Bool := bitAt (beMask w.be) i && bitAt v i
  let keep (f : Fld) (s : State) : State := aonPut f (aonGet s f &&& mrg f) s
  match w.addr with
  | 0x800080 => s |> aonPut TKP_RTC_CTL_DISC (mrg TKP_RTC_CTL_DISC) |> aonPut TKP_RTC_CTL_DAT (mrg TKP_RTC_CTL_DAT) |> aonPut TKP_RTC_CTL_TRIM (mrg TKP_RTC_CTL_TRIM)
  | 0x800084 => if hit 29 then aonPut TKP_RTC_STAT_OSC_FAIL 0 s else s
  | 0x800088 => aonPut TKP_RTC_SEC_LO_SECONDS (mrg TKP_RTC_SEC_LO_SECONDS) s
  | 0x80008C => s |> aonPut TKP_RTC_SEC_HI_SECONDS (mrg TKP_RTC_SEC_HI_SECONDS) |> aonPut TKP_RTC_SEC_HI_SUBSEC 0 |> aonPut TKP_RTC_STAT_SET 1
      |> modGrp 0 (fun x => { x with hw := x.hw.filter (fun e => e.2.1 != fldKey TKP_RTC_SEC_LO_SECONDS && e.2.1 != fldKey TKP_RTC_SEC_HI_SECONDS && e.2.1 != fldKey TKP_RTC_SEC_HI_SUBSEC) })
  | 0x100000 =>
    let s := s |> keep RST_CAUSE_FLT |> keep RST_CAUSE_PIN |> keep RST_CAUSE_POR
    if aonGet s RST_CAUSE_POR = 0 then s |> aonPut RST_CAUSE_FULL 0 |> aonPut RST_CAUSE_RAIL 0 else s
  | _ => s

/-- the records of an image that wait for a batch are posted while one takes them (R68) -/
def rwsPump : Nat → State → State
  | 0, s => s
  | n + 1, s =>
    match s.img.rws with
    | [] => s
    | c :: r =>
      match rwsGroupOf c.addr with
      | some g =>
        if rwsFree s g then
          let s := { s with img := { s.img with rws := r } }
          rwsPump n ((rwsPost g { addr := c.addr, alias_ := 0, be := c.be, data := c.val } s).getD s)
        else s
      | none => rwsPump n { s with img := { s.img with rws := r } }

/-- the batch in flight of group g lands at its slow edge, in issue order; the next one opens (R509) -/
def rwsLand (g : Nat) (s : State) : State :=
  match (ix s.aon.grp g).landAt with
  | none => s
  | some t =>
    let s := refreshAt t s
    let x := ix s.aon.grp g
    let s := forEach x.batch rwsLandOne s
    let s := modGrp g (fun x => { x with batch := x.nextB, nextB := [], landAt := if x.nextB = [] then none else some (slowEdgeAfter t 3) }) s
    rwsPump s.img.rws.length (rtcSlot (grpPending s g))

/-! ### TKP (R236 to R262) -/

/-- is the time DPLL ACQUIRING or LOCKED on a slot that carries time (R241) -/
def timeHeld (s : State) : Bool :=
  let d := timeDpll s
  (dpllState s d == 1 || dpllState s d == 2) && match actSlot s d with
    | some i => carriesTime s i
    | none => false

/-- does TKP refuse the write (R14, R241, R242) -/
def tkpRefuses (s : State) (w : WordW) : Bool :=
  let o := wOff w
  let set := wBit w 1
  let setSec := wBit w 2
  (o == 8 && ((set && setSec) || ((set || setSec) && timeHeld s)))
    || (o == 0x34 && decide (999999999 < wVal s w TKP_TSET_NS_NS))
    || (o == 0x44 && rd s (SEL_DPLLd_SLEW_SLEW (timeDpll s)) == 0)

/-- the seconds of the TSET registers -/
def tsetSec (s : State) : Nat := rd s TKP_TSET_SEC_LO_SEC + rd s TKP_TSET_SEC_HI_SEC * 2 ^ 32

/-- CTL.SET: the values are the time of day in the core cycle after the write (R241) -/
def tkpSet (s : State) : State :=
  let v := tsetSec s * secT + rd s TKP_TSET_NS_NS * nsT
  let s := advanceTo ((cycleNow s + 1) * cycU) s
  timeJump ((v : Int) - s.tod) 2 s

/-- CTL.SET_SEC: the seconds are latched for the first whole second at least 1 µs later (R241) -/
def tkpSetSec (s : State) : State :=
  modTkp (fun t => { t with setSec := some (tsetSec s, ceilDiv (s.tod + 1000 * nsT) secT) }) s

/-- CTL.LEAP_CANCEL (R245) -/
def leapCancel (s : State) : State :=
  if s.tkp.latched.isSome then s else s |> put TKP_STAT_LEAP_PEND 0 |> put TKP_STAT_LEAP_DEL 0

/-- CTL.RTC_SYNC waits for the next whole second (R255) -/
def rtcSyncAsk (s : State) : State := modTkp (fun t => { t with rtcSync := some (todSec s + 1) }) s

/-- a write of CTL -/
def tkpCtl (w : WordW) (s : State) : State :=
  s |> whenB (wBit w 0) snapTime |> whenB (wBit w 1) tkpSet |> whenB (wBit w 2) tkpSetSec |> whenB (wBit w 3) leapCancel
    |> whenB (wBit w 4) rtcSyncAsk

/-- a write of ADJ_HI: a slew of the time DPLL (R242) -/
def adjWritten (s : State) : State :=
  slewAdd (timeDpll s) (satS 48 (sgn 48 (rd s TKP_ADJ_LO_ADJ + rd s TKP_ADJ_HI_ADJ * 2 ^ 32))) s

/-- a write of UTC: the host's ΔAT when it forces it, and its announcement while it is the source (R244, R245) -/
def utcWritten (s : State) : State :=
  let s := if on s TKP_UTC_DAT_FORCE then takeDat 0 (rd s TKP_UTC_DAT_HOST) s else datOfSlot s
  let s := if leapFromSlot s then s else announceLeap 2 (on s TKP_UTC_HOST_LEAP) (on s TKP_UTC_HOST_DEL) s
  civilUpdate s

/-- the civil views follow; a change of the civil offset triggers AST (R246, R297) -/
def civilFollow (s : State) : State :=
  let c := s.tkp.civ
  let s := civilUpdate s
  if s.tkp.civ = c then s else astEval true s

/-- the QL that R118 gives slot 29 from the last frame -/
def irigQl (s : State) : Nat :=
  if irigPlain s then rd s REF_SRCQL_IRIG_QL
  else
    let q := rd s TKP_IRIGIN_STAT_TQ
    if q = 0 then 0 else if q ≤ 3 then 1 else if q = 4 then 2 else if q = 5 then 3 else if q = 6 then 5 else if q = 7 then 7 else if q ≤ 11 then 9 else 15

/-- after a write to TKP -/
def tkpWritten (w : WordW) (old s : State) : State :=
  let o := wOff w
  if o = 8 then tkpCtl w s
  else if o = 0x44 then adjWritten s
  else if !s.img.applied then s
  else if o = 0x48 then (let c := s.tkp.civ; let s := utcWritten s; if s.tkp.civ = c then s else astEval true s)
  else if o = 0x4C || decide (0x100 ≤ o) then civilFollow s
  else if o = 0x58 then
    if !on s TKP_IRIGIN_CFG_EN then irigLost s
    else if differ old s [TKP_IRIGIN_CFG_EXT] then setSrc 29 (ix s.slot 29).srcOk (irigQl s) s else s
  else s

/-! ### MNS (R263 to R288) -/

/-- does MNS refuse the write (R265, R287) -/
def mnsRefuses (s : State) (w : WordW) : Bool :=
  let o := wOff w
  (o == 0x100 && rd s IMG_STATUS_STATE != 3 && on s MNS_GT_CFG_EN && wChanges s w [MNS_GCFG_GRID_F]) || (o == 0x154 && wBit w 31 && !isolated s 9)

/-- after a write to channel n (R270) -/
def chanWritten (n : Nat) (s : State) : State :=
  let s := mnsErr (MNS_CHn_STAT_CFG_ERR n) (chErr s n) s
  if !chanMay s n then seqDrop (chanOff n s) else if chState s n = 0 then acquire n (hz48 (fGrid s)) true s else s

/-- a write of GCFG (R265, R268, R277) -/
def gcfgWritten (old s : State) : State :=
  let s := if differ old s [MNS_GCFG_GRID_F] then chansRestart s else s
  seqDrop (forEach (List.range 6) putDistorted s)

/-- CTL (R276, R279) -/
def mnsCtl (w : WordW) (s : State) : State :=
  s |> whenB (wBit w 0) mnsSnap |> whenB (wBit w 1) (modMns (fun m => { m with zq := qPop m.zq }))
    |> whenB (wBit w 2) (modMns (fun m => { m with zq := qFlush m.zq })) |> whenB (wBit w 3) (modGrid (fun g => { g with align := true }))

/-- TEST.GO: the channel's modulator takes its reference for 100 ms (R287) -/
def mnsTestGo (s : State) : State :=
  s |> put MNS_TEST_GO 1 |> put MNS_TESTRES_DONE 0 |> modMns (fun m => { m with testEnd := some (s.now + 100 * msU) })

/-- the test ends with the mean sample (R287) -/
def mnsTestDone (mean : Int) (s : State) : State :=
  match s.mns.testEnd with
  | none => s
  | some t =>
    advanceTo t s |> modMns (fun m => { m with testEnd := none }) |> put MNS_TEST_GO 0 |> put MNS_TESTRES_DONE 1
      |> putB MNS_TESTRES_PASS (decide ((mean - 4194304).natAbs ≤ 20972)) |> putS MNS_TESTRES_MEAN (satS 24 mean)

/-- after a write to MNS -/
def mnsWritten (w : WordW) (old s : State) : State :=
  let o := wOff w
  if o = 0x124 then mnsCtl w s
  else if o = 0x154 then (if wBit w 31 then mnsTestGo s else s)
  else if !s.img.applied then s
  else if decide (o < 0xC0) && decide (o % 32 ≤ 4) then chanWritten (o / 32) s
  else if o = 0x100 then gcfgWritten old s
  else if o = 0x108 then gtCfgChanged (on old MNS_GT_CFG_EN) s
  else s

/-! ### AST (R289 to R304) -/

/-- does AST refuse the write (R303) -/
def astRefuses (s : State) (w : WordW) : Bool := wOff w == 0x30 && wBit w 31 && !isolated s 10

/-- TEST.GO: the vector test runs (R303) -/
def astTestGo (s : State) : State := s |> put AST_TEST_GO 1 |> put AST_TESTRES_DONE 0 |> modAst (fun a => { a with testRun := true })

/-- the vector test ends with the first failing vector, if any (R300, R303) -/
def astTestDone (bad : Option Nat) (s : State) : State :=
  if !s.ast.testRun then s
  else
    s |> modAst (fun a => { a with testRun := false }) |> put AST_TEST_GO 0 |> put AST_TESTRES_DONE 1 |> putB AST_TESTRES_PASS bad.isNone
      |> put AST_TESTRES_FIRST (bad.getD 0)

/-- the fields whose change is a trigger of R297 -/
def siteFields : List Fld :=
  [AST_LAT_LAT, AST_LON_LON, AST_ALT_ALT, AST_ALT_DIP, AST_CFG_DUT1] ++ (List.range 4).flatMap (fun k => [AST_THRk_EN k, AST_THRk_ELEV k])

/-- after a write to AST -/
def astWritten (w : WordW) (old s : State) : State :=
  let o := wOff w
  if o = 0x30 then (if wBit w 31 then astTestGo s else s)
  else if !s.img.applied then s
  else if o = 0x20 then (if wBit w 0 then astEval true s else s)
  else if o < 0x20 then astEval (differ old s siteFields) s
  else s

end Sys2Proof.Machine
end

