-- ==== Sys2Proof/Machine/WriteC.lean ====
section
/-! DEFINITION. What a write does beyond storing its fields, blocks SCH, PTP, CRL and NVM (R305 to R427). -/

namespace Sys2Proof.Machine
open Sys2Proof.Reg

/-! ### SCH (R332 to R334) -/

/-- is member m listed by the group of a command slot that is neither IDLE nor DONE (R333) -/
def memberHeld (s : State) (m : Nat) : Bool :=
  (List.range 8).any (fun k =>
    let g := (ix s.sch.rc k).group
    !rcFree s k && decide (rd s (SCH_GRPg_MEM_START g) ≤ m) && decide (m < rd s (SCH_GRPg_MEM_START g) + rd s (SCH_GRPg_MEM_COUNT g)))

/-- does SCH refuse the write (R332 to R334) -/
def schRefuses (s : State) (w : WordW) : Bool :=
  let o := wOff w
  (o == 0x704 && memberHeld s (rd s SCH_MEM_IDX_IDX)) || (o == 0x900 && wBit w 31 && !isolated s 11)
    || (List.range 8).any (fun k => o == 0x788 + 0x20 * k && decide (999999999 < wVal s w (SCH_RCk_TF_HI_NS k)))

/-- RCk_CTL (R327, R329, R330): PLAIN makes the command a plain one whether or not ISSUE is set; slots 4 to 7 are the schedule's
(R334) -/
def rcCtl (k : Nat) (w : WordW) (s : State) : State :=
  let g := bitsOf w.data 21 16
  let act := bitsOf w.data 14 12
  let s := if wBit w 30 then (if 4 ≤ k then refuse s else rcAbort k s) else s
  if wBit w 29 then rcPlain k g act (wBit w 28) s else if wBit w 31 then rcIssue k g act s else s

/-- after a write to channel n: a form change, like an EN change, is judged with its pair (R315) -/
def swWritten (n : Nat) (s : State) : State := chanEval n s

/-- after a write to SCH -/
def schWritten (w : WordW) (s : State) : State :=
  let o := wOff w
  if o = 0x14 then s |> whenB (wBit w 0) entWrite |> whenB (wBit w 1) entRead
  else if o = 0x30 then schCmd (bitsOf w.data 18 16) (w.data % 65536) s
  else if o = 0x44 then
    s |> whenB (wBit w 31) (modSch (fun c => { c with oq := qPop c.oq })) |> whenB (wBit w 30) (modSch (fun c => { c with oq := qFlush c.oq }))
  else if decide (0x780 ≤ o) && decide (o < 0x880) then (if o % 0x20 = 0 then rcCtl ((o - 0x780) / 0x20) w s else s)
  else if o = 0x900 then (if wBit w 31 then schTestGo s else s)
  else if !s.img.applied then s
  else if o = 0 then schEval s
  else if decide (0x100 ≤ o) && decide (o < 0x400) then (if o % 16 = 0 then swWritten ((o - 0x100) / 16) s else s)
  else if decide (0x500 ≤ o) && decide (o ≤ 0x704) then groupsEval s
  else s

/-! ### PTP (R353, R367 to R369) -/

/-- does PTP refuse the write (R371) -/
def ptpRefuses (s : State) (w : WordW) : Bool := wOff w == 0x40 && wBit w 31 && !isolated s 12

/-- the SyncE configuration of port p written: the QL under its option, slot 22 + p (R115, R363) -/
def seWritten (p : Nat) (s : State) : State :=
  let ext := if on s (PTP_Pp_SE_STAT_RX_EXT p) then some (rd s (PTP_Pp_SE_STAT_RX_ESSM p)) else none
  let ql := qlOfSsm (on s (PTP_Pp_SE_CFG_OPT p)) (rd s (PTP_Pp_SE_STAT_RX_SSM p)) ext
  let s := if on s (PTP_Pp_SE_STAT_ESMC_OK p) then modPort p (fun x => { x with ql := ql }) s else s
  let s := if on s (PTP_Pp_SE_CFG_SE_EN p) then s else put (PTP_Pp_STAT_CDR_LOCK p) 0 s
  synceSlot p (ptpStale s)

/-- after a write to port p, register r -/
def portRegWritten (p r : Nat) (w : WordW) (old s : State) : State :=
  if r = 0x60 then
    s |> whenB (wBit w 0) (modPort p (fun x => { x with tsq := qPop x.tsq })) |> whenB (wBit w 1) (modPort p (fun x => { x with tsq := qFlush x.tsq }))
      |> whenB (wBit w 2) (linkRestart p)
  else if !s.img.applied then s
  else if r = 0 then
    portWritten p (differ old s [PTP_Pp_CFG_PTP_EN p, PTP_Pp_CFG_TRANSPORT p, PTP_Pp_CFG_STEP p, PTP_Pp_CFG_NFWD p, PTP_Pp_CFG_TAG p])
      (differ old s [PTP_Pp_CFG_SERDES p, PTP_Pp_CFG_AN p] || !on s (PTP_Pp_CFG_EN p)) false s
  else if r = 8 then
    portWritten p (differ old s [PTP_Pp_INTV_LOG_SYNC p, PTP_Pp_INTV_LOG_ANN p, PTP_Pp_INTV_LOG_DREQ p, PTP_Pp_INTV_ANN_TO p]) false false s
  else if r = 0x18 then portWritten p false false (differ old s [PTP_Pp_FILT_FMODE p, PTP_Pp_FILT_FN p]) s
  else if r = 0x38 then seWritten p s
  else s

/-- after a write to PTP -/
def ptpWritten (w : WordW) (old s : State) : State :=
  let o := wOff w
  if decide (0x400 ≤ o) && decide (o < 0x700) then portRegWritten ((o - 0x400) / 0x80) (o % 0x80) w old s
  else if o = 0x40 then (if wBit w 31 then ptpTestGo s else s)
  else if o = 0x10C then (if wBit w 31 then fdbOp (rd s PTP_FDB_CTL_OP) s else s)
  else if !s.img.applied then s
  else if o = 0 then
    let s := ptpCfgEval (ptpStale s)
    if differ old s [PTP_CLK_CFG_PROFILE, PTP_CLK_CFG_DOMAIN] then portsRestart s else s
  else if o ≤ 0xC then ptpStale s
  else if decide (0x200 ≤ o) && decide (o < 0x220) then ptpCfgEval s
  else s

/-! ### CRL (R403 to R405) -/

/-- does CRL refuse the write (R404, R405) -/
def crlRefuses (s : State) (w : WordW) : Bool :=
  (isPartnerReg w.addr && (partnerSel s).isNone) || (wOff w == 0x1AC && wBit w 31 && !isolated s 13)

/-- after a write to LKk_CFG: EN cleared or ROLE changed empties the link (R382) -/
def linkWritten (k : Nat) (old s : State) : State :=
  let stop := (on old (CRL_LKk_CFG_EN k) && !on s (CRL_LKk_CFG_EN k)) || differ old s [CRL_LKk_CFG_ROLE k]
  let start := on s (CRL_LKk_CFG_EN k) && (!on old (CRL_LKk_CFG_EN k) || differ old s [CRL_LKk_CFG_ROLE k])
  let s := if stop then linkStop k s else s
  let s := linkCfgEval k s
  folEval (if start then linkStart k s else s)

/-- P_CTL (R382, R400) -/
def partnerCtl (w : WordW) (s : State) : State :=
  let k := rd s CRL_PIDX_LINK
  let a := rd s CRL_PIDX_ADDR
  s |> whenB (wBit w 0) (forget k a) |> whenB (wBit w 1) (reneg k a) |> whenB (wBit w 2) (calStart k a)

/-- CTL (R389, R405) -/
def crlCtl (w : WordW) (s : State) : State :=
  let s := forEach (List.range 4) (fun k s =>
    s |> whenB (wBit w (8 + k)) (modLink k (fun l => { l with tsq := qPop l.tsq })) |> whenB (wBit w (12 + k)) (modLink k (fun l => { l with tsq := qFlush l.tsq }))) s
  s |> whenB (wBit w 2) dlqResend |> whenB (wBit w 1) dlqPop |> whenB (wBit w 0) lbiPop

/-- after a write to CRL -/
def crlWritten (w : WordW) (old s : State) : State :=
  let o := wOff w
  if o = 0x124 then partnerCtl w s
  else if o = 0x184 then lbData w.data s
  else if o = 0x188 then s |> whenB (wBit w 1) (modCrl (fun c => { c with staged := [] })) |> whenB (wBit w 0) lbPost
  else if o = 0x1A0 then crlCtl w s
  else if o = 0x1AC then (if wBit w 31 then crlTestGo s else s)
  else if !s.img.applied then s
  else if o < 0x100 then
    if o % 0x40 = 0 then linkWritten (o / 0x40) old s
    else if o % 0x40 = 0x14 then folEval (linkCfgEval (o / 0x40) s) else s
  else if isPartnerReg w.addr then linksCfgEval s
  else s

/-! ### NVM (R412, R417, R424, R426) -/

/-- does NVM refuse the write (R426); PB_PROG is refused by its own meaning (R34, R412) -/
def nvmRefuses (s : State) (w : WordW) : Bool :=
  (wOff w == 0x20 && wBit w 31 && (!isolated s 14 || !marchOk s (wVal s w NVM_TEST_FIRST) (wVal s w NVM_TEST_LAST)))

/-- TEST.GO: the march test starts (R426) -/
def nvmTestGo (s : State) : State := s |> put NVM_TEST_GO 1 |> put NVM_TESTRES_DONE 0 |> put NVM_TESTRES_STOPPED 0 |> modNvm (fun n => { n with testRun := true })

/-- the march test ends with the first failing page, if any (R424) -/
def nvmTestDone (bad : Option Nat) (s : State) : State :=
  if !s.nvm.testRun then s
  else
    s |> modNvm (fun n => { n with testRun := false }) |> put NVM_TEST_GO 0 |> put NVM_TESTRES_DONE 1 |> putB NVM_TESTRES_PASS bad.isNone
      |> put NVM_TESTRES_STOPPED 0 |> put NVM_TESTRES_FAILPAGE (bad.getD 0)

/-- after a write to NVM -/
def nvmWritten (w : WordW) (s : State) : State :=
  let o := wOff w
  if o = 0xC then s |> whenB (wBit w 2) pbClear |> whenB (wBit w 1) pbProg |> whenB (wBit w 0) (saveWith 3)
  else if o = 0x20 then (if wBit w 31 then nvmTestGo s else s)
  else if decide (0x400 ≤ o) && decide (o < 0x500) then pbMark ((o - 0x400) / 4) w.be s
  else s

end Sys2Proof.Machine
end

