-- ==== Sys2Proof/Machine/Apply.lean ====
section
/-! DEFINITION. A register write with all that follows it, and the application of an image (R58, R68, R82, R85, R87). -/

namespace Sys2Proof.Machine
open Sys2Proof.Reg

/-! ### One register write -/

/-- the GO bit of the TEST register at addr is 1: a test runs (a write to it has no effect until the test ends) -/
def testBusy (s : State) (addr : Nat) : Bool :=
  match addr with
  | 0x500610 => on s PMU_TEST_GO
  | 0x700188 => on s SYN_TEST_GO
  | 0x900154 => on s MNS_TEST_GO
  | 0xA00030 => on s AST_TEST_GO
  | 0xB00900 => on s SCH_TEST_GO
  | 0xC00040 => on s PTP_TEST_GO
  | 0xD001AC => on s CRL_TEST_GO
  | 0xE00020 => on s NVM_TEST_GO
  | _ => false

/-- does the block refuse the write -/
def blockRefuses (s : State) (w : WordW) : Bool :=
  match blockOf w.addr with
  | 5 => pmuRefuses s w
  | 6 => selRefuses s w
  | 7 => synRefuses s w
  | 8 => tkpRefuses s w
  | 9 => mnsRefuses s w
  | 10 => astRefuses s w
  | 11 => schRefuses s w
  | 12 => ptpRefuses s w
  | 13 => crlRefuses s w
  | 14 => nvmRefuses s w
  | _ => false

/-- what follows a write to blocks 4 to 14 -/
def blockWritten (w : WordW) (old s : State) : State :=
  match blockOf w.addr with
  | 4 => refWritten w old s
  | 5 => pmuWritten w old s
  | 6 => selWritten w old s
  | 7 => synWritten w old s
  | 8 => tkpWritten w old s
  | 9 => mnsWritten w old s
  | 10 => astWritten w old s
  | 11 => schWritten w s
  | 12 => ptpWritten w old s
  | 13 => crlWritten w old s
  | 14 => nvmWritten w s
  | _ => s

/-- a plain write to a register outside the always-on domain: refused by its block, or stored with what follows -/
def regWrite (w : WordW) (s : State) : State :=
  if testBusy s w.addr then s
  else if blockRefuses s w then refuse s
  else blockWritten w s (storeWord w.addr w.be w.data s)

/-- f without the host access faults it would raise: a write by IMG is no host access (R513) -/
def quietly (f : State → State) (s : State) : State :=
  let t := f s
  carry [GEN_HAF_VALID, GEN_HAF_CAUSE, GEN_HAF_ADDR, GEN_HAF_MORE] s
    { t with flt := { t.flt with raised := s.flt.raised ++ (t.flt.raised.drop s.flt.raised.length).filter (fun p => p.1 != 0) }, host := { t.host with haf := s.host.haf } }

/-- one record of an image; one for an always-on register waits for a batch that takes it (R68) -/
def imgWrite (c : CfgRec) (s : State) : State :=
  match rwsGroupOf c.addr with
  | some _ =>
    let s := { s with img := { s.img with rws := s.img.rws ++ [c] } }
    rwsPump s.img.rws.length s
  | none => quietly (regWrite { addr := c.addr, be := c.be, data := c.val }) s

/-- the records of an image in order -/
def applyRecs (l : List CfgRec) (s : State) : State := forEach l imgWrite s

/-! ### A partial reload (R87) -/

/-- does a write to the register act by itself, whatever bits it carries -/
def actsAlone (addr : Nat) : Bool :=
  addr == 0x700180 || addr == 0x800044 || addr == 0xB00030 || addr == 0xD00184

/-- the commit cycle: every value moves to its live register at once, then what follows their change, once for each register -/
def prApply (l : List CfgRec) (s : State) : State :=
  let t := applyRecs l { s with img := { s.img with applied := false } }
  let t := { t with img := { t.img with applied := true } }
  let l := l.filter (fun c => blockOf c.addr != 6 || !selRefuses t { addr := c.addr, be := c.be, data := c.val })
  forEach (((l.map (fun c => c.addr)).eraseDups).filter (fun a => !actsAlone a)) (fun a t => blockWritten { addr := a, be := 0, data := 0 } s t) t

/-! ### A full image (R58, R82) -/

/-- the time DPLL named: the one it replaces keeps the phase it had as its accumulator (R18, R185) -/
def putTimeDpll (d : Nat) (s : State) : State :=
  let a := timeDpll s
  if a = d then s else put GEN_CLKSTAT_TIME_DPLL d (modDpll a (fun x => { x with acc := (s.tod : Int) }) s)

/-- STRUCT in force: every candidate slot of a DPLL is enabled until a record says otherwise (R66) -/
def structMasks (s : State) : State := forEach (List.range 8) (fun d s => put (SEL_SELd_MASK_EN d) (candMask s d) s) s

/-- SYN with the image's values: at L0 they are live at once; at L1 what runs keeps its live values until its next frame tick (R218, R233) -/
def synApplied (again : Bool) (s : State) : State :=
  let differs (s : State) (k : Nat) : CommitS :=
    newCommit s k (((outsOf s k).filter (fun n => outShadow s n != outLive s n)).foldl setBit 0) (synShadow s k != (ix s.syn k).live) true s.now
  let s := if again then s else forEach (List.range 16) (fun n s => put (SYN_OUTn_STAT_SRC n) (wantedSyn s n) (putB (SYN_OUTn_STAT_ON_ALT n) (wantedSyn s n != (outSyn s n).1) s)) s
  let s := forEach (List.range 4) (fun k s =>
    if again && synState s k != 0 then
      let c := differs s k
      if c.mask = 0 && !c.mult then s else { s with commit := s.commit ++ [c] }
    else
      let s := modSyn k (fun x => { x with live := synShadow s k }) s
      forEach (outsOf s k) outGoLive s) s
  let s := forEach (List.range 4) synCfgWritten s
  forEach (List.range 16) (fun n s => moveOut n (wantedSyn s n) (outEval n (fineMove n s))) s

/-- TKP with the image's values: ΔAT at L0, the host's announcement, the civil views, slot 29 (R244, R245, R246, R261) -/
def tkpApplied (again : Bool) (s : State) : State :=
  let s := if again then s
    else if on s TKP_RTC_STAT_SET && !on s TKP_UTC_DAT_FORCE then takeDat 2 (aonGet s TKP_RTC_CTL_DAT) s
    else takeDat 0 (rd s TKP_UTC_DAT_HOST) s
  let s := setSrc 29 (ix s.slot 29).srcOk (irigQl s) (utcWritten s)
  setSrcOk 31 (aonGet s TKP_RTC_STAT_SET == 1 && aonGet s TKP_RTC_STAT_RUN == 1) (modTkp (fun t => { t with txHold := true }) s)

/-- SEL and the DPLLs with the image's values: after L0 a DPLL in FREERUN runs on FR_WORD (R190); a holdover that an L1 began is reported
at HO_DLY 0 (R202, R206) -/
def selApplied (again : Bool) (s : State) : State :=
  forEach (List.range 8) (fun d s =>
    let s := if again then s else frwWritten d s
    let s := selEval d (modelValidEval d s)
    let x := ix s.dpll d
    let s := if dpllState s d = 3 && !x.hoRep && rd s (SEL_DPLLd_HOCFG_HO_DLY d) = 0 then
        raise 26 (some d) (modDpll d (fun x => { x with hoRep := true }) s)
      else s
    inSpecEval d (showHoFreq d s)) s

/-- SCH with the image's values (R322, R331, R336) -/
def schApplied (again : Bool) (s : State) : State :=
  let s := groupsEval (forEach (List.range 48) chanEval s)
  schEval (modSch (fun c => { c with why := some (if again then .rebuilt else .l0), whyAt := s.now }) s)

/-- PTP and CRL with the image's values (R349, R381) -/
def netApplied (s : State) : State :=
  let s := ptpStale (forEach (List.range 6) (fun p s => synceSlot p (portEval p s)) (ptpCfgEval s))
  let s := linksCfgEval s
  folEval (forEach (List.range 4) (fun k s => if on s (CRL_LKk_CFG_EN k) then linkStart k s else s) s)

/-- MNS with the image's values: grid time starts anew at L0 and runs on at L1 (R279, R286) -/
def mnsApplied (again : Bool) (s : State) : State :=
  let s := forEach (List.range 6) chanWritten s
  if again then gridValid (gtCfgChanged true s)
  else gridValid (put MNS_GT_STAT_SRC (rd s MNS_GT_CFG_GT_CH) (mnsErr MNS_GT_STAT_CFG_ERR (gridErr s) s))

/-- a save that waited when an L1 reset ended the isolation of NVM runs now (R426), and the write-back queue goes on -/
def nvmApplied (s : State) : State :=
  progNext (match s.nvm.waitCause with
    | some c => beginSave c (modNvm (fun n => { n with waitCause := none }) s)
    | none => s)

/-- the image applied: every block takes up its configuration, the form record is written, the mode entries begin (R58, R82, R487) -/
def imageApplied (again : Bool) (initMode : Nat) (s : State) : State :=
  let s := refErrs (refRestart s)
  let s := unitsEval s
  let s := selApplied again (synApplied again s)
  let s := astEval true (tkpApplied again (mnsApplied again s))
  let s := netApplied (schApplied again s)
  let s := slotsAll (nvmApplied s)
  let s := leftFailed (if again then s else formWrite s)
  modeStart initMode s
where
  slotsAll (s : State) : State := forEach (List.range 32) slotEval s

end Sys2Proof.Machine
end

