-- ==== Sys2Proof/Machine/Img.lean ====
section
/-! DEFINITION. IMG operations: banks and pointer (R78, R79), boot (R80 to R85), downloads (R80, R88), partial reload (R86,
R87). -/

namespace Sys2Proof.Machine
open Sys2Proof.Reg

def imgState (s : State) : Nat := rd s IMG_STATUS_STATE
def putImgState (v : Nat) (s : State) : State := put IMG_STATUS_STATE v s

/-! ### Pointer and banks (R78) -/

/-- copy c of the pointer record: bank and sequence number where it is valid. DESIGN CHOICE, log entry 135: a bank byte above 1 makes it
not valid -/
def pointerCopy (s : State) (c : Nat) : Option (Nat × Nat) :=
  let l := mrdList s (pageAt 0x300 + 16 * c) 16
  if crc32 (l.take 12) = b32 l 12 && decide (b8 l 0 ≤ 1) then some (b8 l 0, b32 l 4) else none

/-- the pointer bank; with equal sequence numbers copy 0 names it (DESIGN CHOICE, log entry 135) -/
def pointerBank (s : State) : Nat :=
  match pointerCopy s 0, pointerCopy s 1 with
  | some a, some b => if a.2 < b.2 then b.1 else a.1
  | some a, none => a.1
  | none, some b => b.1
  | none, none => 0

/-- the pointer set to a bank: the copy with the lower sequence number, copy 0 where they are equal (log entry 135), is written with one
above the other's -/
def writePointer (bank : Nat) (s : State) : State :=
  let q (c : Nat) : Nat := match pointerCopy s c with
    | some p => p.2
    | none => 0
  let valid (c : Nat) : Bool := (pointerCopy s c).isSome
  let c := if !valid 0 then 0 else if !valid 1 then 1 else if q 0 ≤ q 1 then 0 else 1
  let rec_ := [BitVec.ofNat 8 bank, 0, 0, 0] ++ leBytes 4 (q (1 - c) + 1) ++ [0, 0, 0, 0]
  put IMG_STATUS_PTR bank (mwr (pageAt 0x300 + 16 * c) (rec_ ++ leBytes 4 (crc32 rec_)) s)

/-- before the spare bank is written the pointer names the run bank (R79) -/
def guardPointer (s : State) : State :=
  if rd s IMG_STATUS_PTR = spareBank s then writePointer (rd s IMG_STATUS_RUN_BANK) s else s

/-- the bank the candidate in hand is read from (R80) -/
def candBank (s : State) : Nat :=
  if s.img.reapply then rd s IMG_STATUS_RUN_BANK
  else if s.img.src = 0 then (rd s IMG_STATUS_PTR + s.img.cand) % 2 else spareBank s

/-- the bytes of the image in a bank, up to its IMGLEN -/
def bankBytes (s : State) (b : Nat) : List Byte :=
  let n := leNat (mrdList s (bankAt b + 8) 4)
  mrdList s (bankAt b) (clampN 64 98304 n)

/-! ### Verification -/

/-- bank voltages and I/O standards against one another; a bank that is neither refuses every image (R71, R489) -/
def stdMismatchOf (s : State) (l : List (Nat × Nat × Nat)) : Bool :=
  let want (b : Nat) : Nat := if ix s.rst.bank33 b = 1 then 2 else 1
  (List.range 7).any (fun b => ix s.rst.bank33 b = 0) || l.any (fun e =>
    let i := e.1 % 256
    match e.1 / 256 with
    | 0 => e.2.1 != want i
    | 1 => decide (e.2.1 ≤ 2) && e.2.1 != want (if i < 8 then 3 else 4)
    | 2 => decide (e.2.1 ≤ 2) && e.2.1 != want 1
    | _ => decide (e.2.1 ≤ 2) && e.2.1 != want 2)

/-- the KEK, derived again after a zeroisation (R446) -/
def kekNow (s : State) : Option (List Byte) := if rd s SEC_STAT_STATE = 2 then none else (deriveKek s).sec.kek

/-- the first record that would change a field whose lock is set, each judged with the records before it in place: P_CFG by the entry
that a PIDX record selects (R68) -/
def lockedRec : List CfgRec → State → Option CfgRec
  | [], _ => none
  | c :: r, s => if lockHit s c.addr c.be c.val then some c else lockedRec r (storeWord c.addr c.be c.val s)

/-- what pass 1 needs to know; service: an in-service download, part: a partial reload (R76, R81, R86) -/
def checkEnv (s : State) (l : List Byte) (service part : Bool) : CheckEnv :=
  let h := headerOf l
  { required := !s.img.reapply && (signedBoot s || bitAt h.initMode 7 || (service && mode s 7) || (part && (bitAt s.img.initMode 7 || mode s 7)))
    arb := arbCount s, usable := usable s, pkh := pkh s, kek := kekNow s, secOk := rd s SEC_STAT_STATE != 2, partialRun := part
    isoDone := rd s GEN_ISOLATE_ISO_DONE * 16, locked := fun l => (lockedRec l s).isSome, pmGang := s.img.struct_.pmGang
    stdMismatch := stdMismatchOf s, noSig := s.img.reapply, form := fun n => rd s (SCH_CHn_CFG_FORM n) }

/-- every candidate failed: FAILED and its source; a recovery download that fails raises the source again (R83, DESIGN CHOICE, log entry
136) -/
def imgFailed (s : State) : State :=
  raise 7 none (enterFailed (putImgState 15 { s with img := { s.img with reapply := false, dl := 0 } }))

/-- IMG.ERR recorded (R91). DESIGN CHOICE, log entry 137: an in-service download or a partial reload, which is no candidate of R80, leaves
in CAND the number of the last candidate -/
def putImgErr (code seg : Nat) (pass2 : Bool) (s : State) : State :=
  s |> put IMG_ERR_CODE code |> put IMG_ERR_SEG seg |> putB IMG_ERR_PASS2 pass2 |> put IMG_ERR_CAND s.img.cand

/-- the candidate in hand failed: the next one, or FAILED (R81 to R83, R85) -/
def candFailed (code seg : Nat) (pass2 : Bool) (s : State) : State :=
  let s := putImgErr code seg pass2 s
  if s.img.reapply || s.img.recovery || s.img.src = 3 then imgFailed { s with img := { s.img with recovery := false } }
  else if s.img.cand = 0 then
    let s := { s with img := { s.img with cand := 1, src := if s.img.src = 1 then 2 else s.img.src } }
    putImgState (if s.img.src = 0 then 2 else 1) s
  else imgFailed s

/-! ### Boot (R80, R84) -/

/-- may IMG begin (R24, R84, R420, R443) -/
def bootMay (s : State) : Bool :=
  imgState s == 0 && !inSequence s && on s GEN_CLKSTAT_CORE_LOCK && on s GEN_CLKSTAT_SYSCLK_PRES && s.nvm.loaded
    && (s.sec.ready || rd s SEC_STAT_STATE == 2)

/-- IMG begins: pointer read, flash read begun, or DL_WAIT (R80, R84 step 1); after an L1 the run bank is taken (R85) -/
def bootStart (s : State) : State :=
  if !bootMay s then s
  else if s.img.reapply then putImgState 2 s
  else
    let p := pointerBank s
    let s := s |> put IMG_STATUS_PTR p |> put IMG_STATUS_RUN_BANK p
    let s := { s with img := { s.img with cand := 0, dl := 0, dlService := false, recovery := false, work := none } }
    match rd s RST_STRAP_BOOT with
    | 1 => putImgState 1 { s with img := { s.img with src := 1 } }
    | 2 => putImgState 5 { s with img := { s.img with src := 3 } }
    | _ => putImgState 2 { s with img := { s.img with src := 0 } }

/-- a flash candidate was copied into the spare bank (R80, R84 step 2): bytes are what the flash held -/
def flashDone (bytes : List Byte) (s : State) : State :=
  if imgState s != 1 then s
  else if bytes.take 4 = [0xFF, 0xFF, 0xFF, 0xFF] then candFailed 0x12 255 false s
  else
    let s := guardPointer s
    putImgState 2 (mwr (bankAt (spareBank s)) (bytes.take (min 98304 (b32 bytes 8))) s)

/-- pass 1 of the candidate ends (R81) -/
def pass1Done (s : State) : State :=
  if imgState s != 2 then s
  else
    let l := bankBytes s (candBank s)
    match pass1 (checkEnv s l false false) false l with
    | some r => candFailed r.1 r.2 false s
    | none => putImgState 3 s

/-- the plain content of each segment of an image, with its entry -/
def segments (s : State) (l : List Byte) : List (SegEnt × Option (List Byte)) :=
  let h := headerOf l
  let env := checkEnv s l false false
  let dir := dirOf h l
  let cek := cekOf env l dir
  dir.map (fun e => (e, segBytes env h l cek e))

/-- the first segment whose SCRC or tag fails in pass 2, with its code (R82) -/
def pass2Fault (l : List Byte) (segs : List (SegEnt × Option (List Byte))) : Option (Nat × Nat) :=
  segs.findSome? (fun p =>
    if crc32 (cut l p.1.off p.1.len) != p.1.crc then some (0x0C, p.1.idx) else if p.2.isNone then some (0x0D, p.1.idx) else none)

/-- the content of the segment of a type, when present -/
def segOf (segs : List (SegEnt × Option (List Byte))) (t : Nat) : Option (List Byte) :=
  match segs.find? (fun p => p.1.type == t) with
  | some p => p.2
  | none => none

/-- the BLOCKCFG records in ascending block number, each in stored order (R68, R82) -/
def cfgRecs (segs : List (SegEnt × Option (List Byte))) : List CfgRec :=
  (List.range 16).flatMap (fun b => segs.flatMap (fun p =>
    if p.1.type = 2 && p.1.block = b then (chunks 30000 8 (p.2.getD [])).map (cfgRecOf b p.1.idx) else []))

/-- KEYWRAP records applied at L0 (R74, R438): a write by IMG does not restart the franking counters -/
def applyKeys (c : List Byte) (s : State) : State :=
  forEach (chunks 30000 44 c) (fun r s =>
    match kekNow s with
    | some k =>
      match Config.kwUnwrap k (r.drop 4) with
      | some key => putKey (b8 r 0) (b8 r 1) key.toList s
      | none => s
    | none => s) s

/-- PINMUX takes effect: the inputs of disabled balls are held low (R561) -/
def ballsApplied (s : State) : State :=
  let s := whenB (ballOff s ocxoBall) ovenFall s
  forEach ((List.range 48).filter (fun n => ballOff s (fbBall n))) (fun n s => put (SCH_CHn_STAT_FB n) 0 s) s

/-- the segments of an image before its BLOCKCFG records applied in the order of R82, the records left to be worked on -/
def applySegments (segs : List (SegEnt × Option (List Byte))) (s : State) : State :=
  let st := match segOf segs 1 with
    | some c => structOf c
    | none => structV1
  let stds := match segOf segs 5 with
    | some c => (stdsOf c).foldl (fun t e => tabPut t e.1 e.2.1 0) []
    | none => []
  let opts := match segOf segs 5 with
    | some c => (stdsOf c).foldl (fun t e => tabPut t (e.1 + 65536) e.2.2 0) stds
    | none => stds
  let pins := match segOf segs 4 with
    | some c => (chunks 30000 4 c).foldl (fun t r => tabPut t (b8 r 0 * 32 + b8 r 1) (b8 r 2 + 4 * b8 r 3) 0) []
    | none => []
  let routes := match segOf segs 3 with
    | some c => (routesOf c).foldl (fun t r => tabPut t r.1 r.2 255) []
    | none => []
  let s := ballsApplied (structMasks { s with img := { s.img with struct_ := st, iostd := opts, pinmux := pins, routes := routes } })
  let s := match segOf segs 6 with
    | some c => applyReact (b16 c 0) ((List.range 96).map (fun i => b16 c (4 + 2 * i))) s
    | none => s
  let s := match segOf segs 7 with
    | some c => forEach (chunks 30000 16 c) (fun r s => applyDep (b8 r 0) (b16 r 2) (leNat (r.drop 4)) s) s
    | none => s
  let s := if s.img.reapply then s else match segOf segs 10 with
    | some c => applyKeys c s
    | none => s
  { s with img := { s.img with work := some (cfgRecs segs) } }

/-- the records of the image in hand applied in stored order, up to one that must wait for a batch (R68, R82) -/
def workOn : List CfgRec → State → State
  | [], s => { s with img := { s.img with work := some [] } }
  | c :: r, s =>
    let waits := match rwsGroupOf c.addr with
      | some g => !rwsFree s g
      | none => false
    if waits then { s with img := { s.img with work := some (c :: r) } } else workOn r (imgWrite c s)

/-- what pass 2 does after the records: the schedule, the time DPLL, RUN and the mode entries (R82, R84 steps 4 and 5) -/
def pass2End (s : State) : State :=
  let bank := candBank s
  let l := bankBytes s bank
  let h := headerOf l
  let segs := segments s l
  let again := s.img.reapply
  let source := if s.img.recovery then 4 else s.img.src
  let s := if again || storeValid s then s else raise 82 none s
  let s := if again then schedRebuild s else match segOf segs 8 with
    | some c => schedSegment (b32 c 0) (b16 c 4) (chunks 30000 16 (c.drop 8)) s
    | none => schedRebuild s
  let s := putTimeDpll (if h.version = 1 then 0 else h.timeDpll) s
  let s := if again then s else
    s |> put IMG_STATUS_RUN_BANK bank |> put IMG_STATUS_SOURCE source |> putB SEC_STAT_IMG_AUTH h.signed
  let s := s |> put IMG_RUNID_IMAGE_ID h.imageId |> put IMG_STATUS_VERSION h.version
  let s := { s with img := { s.img with
    applied := true, reapply := false, recovery := false, dl := 0, work := none, initMode := h.initMode
    signed := h.signed, secver := h.effSecver, keyIdx := if h.signed then b8 l (h.sigAt + 4) else 0 } }
  imageApplied again h.initMode (putImgState 4 s)

/-- the application goes on while its records find their batches, and ends with the last of them (R68, R84) -/
def workNow (s : State) : State :=
  match s.img.work with
  | none => s
  | some l =>
    let s := workOn l s
    if s.img.work = some [] then pass2End s else s

/-- pass 2 ends but for waits on batches of always-on registers, whose landings carry it on (log entry 139), or its failure sends IMG on
(R82, R84 steps 4 and 5) -/
def pass2Done (s : State) : State :=
  if imgState s != 3 || s.img.work.isSome then s
  else
    let l := bankBytes s (candBank s)
    let segs := segments s l
    match pass2Fault l segs with
    | some r => candFailed r.1 r.2 true s
    | none => workNow (applySegments segs s)

/-! ### Downloads (R80, R88, R90) -/

/-- DL_START (R90) -/
def dlStart (s : State) : State :=
  if imgState s != 4 || on s IMG_LOCK_LOCK then refuse s
  else putImgState 5 (put IMG_STATUS_SPARE_VALID 0 { s with img := { s.img with dl := 0, dlService := true, spareOk := false } })

/-- IMGLEN of the download, once its first twelve bytes have come -/
def dlLen (s : State) : Nat := if s.img.dl < 12 then 98304 else leNat (mrdList s (bankAt (spareBank s) + 8) 4)

/-- the download ends in failure or abort: back to RUN, the spare bank not valid -/
def dlEnd (s : State) : State :=
  putImgState 4 (put IMG_STATUS_SPARE_VALID 0 { s with img := { s.img with dl := 0, dlService := false, spareOk := false } })

/-- a partial reload fails: at or before its commit cycle, the latter with PASS2 (R87 steps 6 and 7) -/
def prFailed (code seg : Nat) (pass2 : Bool) (s : State) : State :=
  let s := putImgErr code seg pass2 s |> put IMG_STATUS_PR_OUTCOME 3 |> putImgState 4
  mtNext (raise 8 none { s with img := { s.img with shadow := none, dl := 0 } })

/-- the words written are not the IMGLEN bytes of an image: code 0x13 (R80, R87 step 6, R88) -/
def dlFailed (s : State) : State :=
  let st := imgState s
  if st = 7 then prFailed 0x13 255 false s
  else if st = 15 then candFailed 0x13 255 false { s with img := { s.img with recovery := true, src := 3, cand := 0 } }
  else if s.img.dlService then dlEnd (putImgErr 0x13 255 false s)
  else candFailed 0x13 255 false s

/-- a word of IMG.DLDATA (R80, R92); a word beyond IMGLEN fails the download -/
def dlData (w : Nat) (s : State) : State :=
  let st := imgState s
  if st != 5 && st != 7 && st != 15 then refuse s
  else if decide (min 98304 (dlLen s) < s.img.dl + 4) then dlFailed s
  else
    let s := if s.img.dl = 0 then guardPointer s else s
    let s := mwr (bankAt (spareBank s) + s.img.dl) (leBytes 4 w) s
    { s with img := { s.img with dl := s.img.dl + 4 } }

/-- DL_DONE (R80, R87, R90): code 0x13 when the bytes are not IMGLEN; in FAILED only while a recovery download is under way -/
def dlDone (s : State) : State :=
  let st := imgState s
  if (st != 5 && st != 7 && st != 15) || (st = 15 && s.img.dl = 0) then refuse s
  else if s.img.dl != dlLen s then dlFailed s
  else if st = 7 then putImgState 8 s
  else if st = 15 then putImgState 2 { s with img := { s.img with recovery := true, src := 3, cand := 0 } }
  else putImgState (if s.img.dlService then 6 else 2) s

/-- a partial reload ends by abort: PR_OUTCOME 0b10; its shadow stands for the rest of the core cycle (R93) -/
def prEnd (s : State) : State :=
  let kept := if imgState s = 9 then s.img.shadow.map (fun x => (cycleNow s, x)) else none
  let s := putImgState 4 (put IMG_STATUS_PR_OUTCOME 2 s)
  mtNext { s with img := { s.img with shadow := none, dl := 0, abort := kept } }

/-- DL_ABORT (R90) -/
def dlAbort (s : State) : State :=
  let st := imgState s
  if st = 5 then
    if s.img.dlService then dlEnd s else { s with img := { s.img with dl := 0 } }
  else if st = 15 then { s with img := { s.img with dl := 0 } }
  else if st = 7 then prEnd s
  else refuse s

/-- verification of an in-service download ends (R88) -/
def dlVerifyDone (s : State) : State :=
  if imgState s != 6 then s
  else
    let l := bankBytes s (spareBank s)
    match pass1 (checkEnv s l true false) true l with
    | some r => dlEnd (putImgErr r.1 r.2 false s)
    | none => putImgState 4 (put IMG_STATUS_SPARE_VALID 1 { s with img := { s.img with spareOk := true, dlService := false, dl := 0 } })

/-- COMMIT (R88) -/
def imgCommit (s : State) : State :=
  if imgState s != 4 || on s IMG_LOCK_LOCK || !on s IMG_STATUS_SPARE_VALID then refuse s else writePointer (spareBank s) s

/-- ROLLFWD (R88) -/
def rollfwd (s : State) : State :=
  if imgState s != 4 || on s IMG_LOCK_LOCK || !s.img.signed || rd s SEC_STAT_STATE != 1 || s.sec.fuse.isSome
      || on s NVM_STAT_PF_WARN || on s NVM_STAT_SAVE_RUN then refuse s
  else if s.img.secver ≤ arbCount s then s
  else fuseBegin 9 ((2 ^ s.img.secver - 1) <<< (8 * 0xA0)) s

/-! ### Partial reload (R87) -/

/-- PR_START (R87 step 1); SPARE_VALID clears here, before any byte of the spare bank is written (DESIGN CHOICE, log entry 138) -/
def prStart (s : State) : State :=
  if imgState s != 4 || on s IMG_LOCK_LOCK || !mode s 6 then refuse s
  else
    let s := guardPointer (put IMG_STATUS_SPARE_VALID 0 s)
    putImgState 7 { s with img := { s.img with dl := 0, shadow := none, spareOk := false } }

/-- PR_ABORT (R90, R93) -/
def prAbort (s : State) : State :=
  let st := imgState s
  if st = 7 || st = 8 || st = 9 then prEnd s else refuse s

/-- pass 1 of a partial image ends (R87 steps 3, 4 and 6) -/
def prVerifyDone (s : State) : State :=
  if imgState s != 8 then s
  else
    let l := bankBytes s (spareBank s)
    let h := headerOf l
    let s := put IMG_STATUS_PR_BLOCK h.pBlock s
    let env := checkEnv s l false true
    match pass1 env true l with
    | some r => prFailed r.1 r.2 false s
    | none =>
      let dir := dirOf h l
      let cek := cekOf env l dir
      let segs := dir.map (fun e => (e, segBytes env h l cek e))
      let sched := match segOf segs 8 with
        | some c => some (b16 c 4, c.drop 8)
        | none => none
      let sh : Shadow := { recs := cfgRecs segs, routes := routesOf ((segOf segs 3).getD []), sched := sched }
      putImgState 9 { s with img := { s.img with shadow := some sh } }

/-- the shadow that a commit cycle now would move: that of the reload, or of one aborted in this core cycle (R93) -/
def commitShadow (s : State) : Option Shadow :=
  if imgState s = 9 then s.img.shadow
  else if imgState s = 4 then (match s.img.abort with
    | some (c, sh) => if c = cycleNow s then some sh else none
    | none => none)
  else none

/-- the routes of a partial reload in force, with the configuration errors that follow them (R110, R140) -/
def routesApply (l : List (Nat × Nat)) (s : State) : State :=
  let s := { s with img := { s.img with routes := l.foldl (fun t r => tabPut t r.1 r.2 255) s.img.routes } }
  if l.isEmpty then s else unitsEval (forEach (List.range 2) todErrEval s)

/-- the commit cycle (R87 steps 5 and 7) -/
def prCommit (s : State) : State :=
  match commitShadow s with
  | none => s
  | some sh =>
    match lockedRec sh.recs s with
    | some c => prFailed 0x0F c.seg true s
    | none =>
      let s := routesApply sh.routes (prApply sh.recs (put IMG_STATUS_STATE 9 { s with img := { s.img with shadow := none, abort := none, dl := 0 } }))
      let s := match sh.sched with
        | some (first, c) => schedReplace first (chunks 30000 16 c) s
        | none => s
      mtNext (slotsOfBlock (rd s IMG_STATUS_PR_BLOCK) (s |> put IMG_STATUS_PR_OUTCOME 1 |> putImgState 4))

end Sys2Proof.Machine
end

