-- ==== Sys2Proof/Machine/Aon.lean ====
section
/-! DEFINITION. The backup clock (R253 to R255): its second boundaries, discipline, trim, the load at L0, and what becomes of the always-on
domain when its oscillator or its supplies fail. -/

namespace Sys2Proof.Machine
open Sys2Proof.Reg

/-- SUBSEC's advance over the next n crystal cycles at the trim in force (R253) -/
def subAdvance (s : State) (n : Nat) : Nat :=
  let trim := sgn 16 (aonGet s TKP_RTC_CTL_TRIM)
  let k := trimCycles trim.natAbs (s.aon.win + n) - trimCycles trim.natAbs s.aon.win
  if trim < 0 then n - k else n + k

/-- the least n whose advance reaches need, bit by bit from 2^k down: lo cycles do not reach it -/
def leastCycles (s : State) (need : Nat) : Nat → Nat → Nat
  | 0, lo => lo + 1
  | k + 1, lo => leastCycles s need k (if subAdvance s (lo + 2 ^ k) < need then lo + 2 ^ k else lo)

/-- the slow edge of the backup clock's next second boundary -/
def nextRtcEdge (s : State) : Nat :=
  let s := aonPass s
  let need := 32768 - aonGet s TKP_RTC_SEC_HI_SUBSEC
  s.aon.edge + (if subAdvance s 1 ≥ need then 1 else leastCycles s need 18 1)

/-- the device time of the core cycle that stamps a slow edge (R254) -/
def stampOfEdge (e : Nat) : Nat := ceilDiv (e * slowU) cycU * cycU

/-- the backup clock less the time of day at the last slow edge, in 2^-16 ns -/
def rtcError (s : State) : Int :=
  let r : Int := ((rtcSec s * 32768 + aonGet s TKP_RTC_SEC_HI_SUBSEC) * 2000000000 : Nat)
  r - (t16 (todAt s (stampOfEdge s.aon.edge)) : Int)

/-- does discipline apply (R254) -/
def disciplined (s : State) : Bool :=
  let d := timeDpll s
  aonGet s TKP_RTC_CTL_DISC == 1 && on s TKP_STAT_TIME_SET
    && (dpllState s d == 2 || (dpllState s d == 3 && on s (SEL_DPLLd_STAT_IN_SPEC d)))

/-- SECONDS and SUBSEC rewritten from the time of day at the third slow edge to come (R254, R255) -/
def rtcRewrite (s : State) : State :=
  let t := todAt s (slowEdgeAfter s.now 3)
  let sec := t / secT
  s |> aonHw 0 TKP_RTC_SEC_LO_SECONDS sec |> aonHw 0 TKP_RTC_SEC_HI_SECONDS (sec / 2 ^ 32)
    |> aonHw 0 TKP_RTC_SEC_HI_SUBSEC (t % secT * 32768 / secT)

/-- the comparison of a second boundary (R254): beyond 61 µs a rewrite, otherwise another second of unbroken discipline -/
def rtcCompare (s : State) : State :=
  if !disciplined s then { s with aon := { s.aon with unbroken := 0 } }
  else
    let e := rtcError s
    if e.natAbs ≤ 61000 * 65536 then
      { s with aon := { s.aon with unbroken := s.aon.unbroken + 1, drift0 := if s.aon.unbroken = 0 then e else s.aon.drift0, lastOk := some s.now } }
    else rtcRewrite { s with aon := { s.aon with unbroken := 0 } }

/-- the phase noise of the crystal at a boundary in 2^-16 ns: a free value, of either sign (R255) -/
def crystalNoise (n : Nat) : Int := if n % 2 = 0 then ((n / 2 : Nat) : Int) else -((n / 2 : Nat) : Int)

/-- what a second boundary of the backup clock does: the comparison, and a sample of slot 31 while it is valid (R254, R255) -/
def rtcBoundary (s : State) : State :=
  let s := if s.tkp.run then rtcCompare s else s
  let s := dsyncEval s
  if s.tkp.run && (ix s.slot 31).srcOk && !isolated s 8 && live s 8 then
    let f := fresh s
    slotSample 31 (roundDiv (rtcError s + crystalNoise f.1) 163840 * 163840) f.2
  else s

/-- the next second boundary of the backup clock (R255) -/
def rtcSecond (s : State) : State :=
  if aonGet s TKP_RTC_STAT_RUN = 0 then s else rtcBoundary (refreshAt (nextRtcEdge s * slowU) s)

/-- after 1024 s of unbroken discipline TRIM takes off the drift seen over them, in TRIM units (R254) -/
def rtcTrim (s : State) : State :=
  if s.aon.unbroken ≤ 1024 then s
  else
    let e := rtcError s
    let d := roundDiv ((e - s.aon.drift0) * 2 ^ 21) (((s.aon.unbroken - 1) * 65536000000000 : Nat) : Int)
    let trim := clampI (sgn 16 (aonGet s TKP_RTC_CTL_TRIM) - d) 32767
    aonHw 0 TKP_RTC_CTL_TRIM (uns 16 trim) { s with aon := { s.aon with unbroken := 1, drift0 := e } }

/-- the load of the time of day at the first second boundary after CORE_LOCK (R254): no time set, no gap record -/
def rtcLoad (s : State) : State :=
  if !s.tkp.waitRtc || aonGet s TKP_RTC_STAT_RUN = 0 then s
  else
    let s := refreshAt (nextRtcEdge s * slowU) s
    let s := modTkp (fun t => { t with waitRtc := false }) { s with tod := rtcSec s * secT }
    let s := s |> put TKP_STAT_TIME_SET 1 |> put TKP_STAT_TIME_SRC 1
    ptpStale (if s.img.applied then astEval true (civilUpdate s) else s)

/-- the next edge of the 32.768 kHz clock: the copies are refreshed (R6); one that begins a second of the backup clock acts as that
second boundary -/
def refreshNext (s : State) : State :=
  let t := slowEdgeAfter s.now 1
  if aonGet s TKP_RTC_STAT_RUN = 1 && nextRtcEdge s * slowU = t then (if s.tkp.waitRtc then rtcLoad s else rtcSecond s) else refreshAt t s

/-- sixteen crystal cycles are missing, so the clock has not counted them (R253, R260) -/
def oscFail (s : State) : State :=
  if aonGet s TKP_RTC_STAT_RUN = 0 then s
  else
    let s := crystalBack 16 (aonPass s)
    let s := if aonGet s TKP_RTC_STAT_OSC_FAIL = 1 then s else raise 40 none s
    rtcSlot ({ s with aon := { s.aon with unbroken := 0 } } |> aonPut TKP_RTC_STAT_OSC_FAIL 1 |> aonPut TKP_RTC_STAT_RUN 0)

/-- the oscillator starts (R253) -/
def oscStart (s : State) : State := rtcSlot (aonPut TKP_RTC_STAT_RUN 1 (aonPass s))

/-- VBAT falls below 1.9 V (R255, R260) -/
def vbatFall (s : State) : State :=
  if aonGet s TKP_RTC_STAT_VBAT_LOW = 1 then s else raise 41 none (aonPut TKP_RTC_STAT_VBAT_LOW 1 s)

/-- both supplies of the domain are lost: every value returns to 0 (R255, R259, R492) -/
def vbatLoss (s : State) : State :=
  let s := { s with aon := { edge := slowEdges s.now } }
  rtcSlot (grpPending (grpPending s 0) 1)

end Sys2Proof.Machine
end

