-- ==== Sys2Proof/Machine/HostRead.lean ====
section
/-! DEFINITION. What a host read returns and does (R495 to R507): registers whose fields show what no field stores, the hold of
R507, the statistics hold of R157, clearing on read. -/

namespace Sys2Proof.Machine
open Sys2Proof.Reg

/-! ### Values that a read computes -/

/-- word j of a list of bytes, little-endian -/
def wordOfBytes (l : List Byte) (j : Nat) : Nat := leNat ((l.drop (4 * j)).take 4)

/-- the event word of a block AND its enables is not 0 -/
def evtIrq (s : State) (evt en : Nat) : Bool := (loadWord s evt &&& loadWord s en) != 0

/-- SEL.IRQ: bit d for SELd_EVT AND SELd_EVT_EN (R180) -/
def selIrq (s : State) : Nat := (List.range 8).foldl (fun v d => if evtIrq s (0x60002C + 64 * d) (0x600030 + 64 * d) then setBit v d else v) 0
/-- SEL.DPLL_IRQ: bit d for DPLLd_EVT AND DPLLd_EVT_EN (R203) -/
def dpllIrq (s : State) : Nat := (List.range 8).foldl (fun v d => if evtIrq s (0x60043C + 128 * d) (0x600440 + 128 * d) then setBit v d else v) 0
/-- SYN.IRQ: bit k for SYNk_EVT AND SYNk_EVT_EN, bit 4 for an output changed since the last read of its STAT (R231) -/
def synIrq (s : State) : Nat :=
  (List.range 4).foldl (fun v k => if evtIrq s (0x700024 + 64 * k) (0x700028 + 64 * k) then setBit v k else v)
    (if (List.range 16).any (fun n => (ix s.out n).chg) then 16 else 0)

/-- the interrupt of block n (R513) -/
def blockIrq (s : State) (n : Nat) : Bool :=
  match n with
  | 2 => fltIrq s
  | 4 => evtIrq s 0x400304 0x400308
  | 5 => evtIrq s 0x500608 0x50060C
  | 6 => selIrq s != 0
  | 7 => synIrq s != 0
  | 8 => evtIrq s 0x80000C 0x800010
  | 9 => evtIrq s 0x900128 0x90012C
  | 10 => evtIrq s 0xA00028 0xA0002C
  | 11 => evtIrq s 0xB00008 0xB0000C
  | 12 => evtIrq s 0xC00030 0xC00034
  | 13 => evtIrq s 0xD001A4 0xD001A8
  | 14 => evtIrq s 0xE00010 0xE00014
  | 15 => evtIrq s 0xF0002C 0xF00030
  | 16 => dpllIrq s != 0
  | _ => false

/-- GEN.IRQ_STAT (R513) -/
def irqStat (s : State) : Nat :=
  (List.range 17).foldl (fun v n => if blockIrq s n then setBit v n else v) (rd s GEN_IRQ_STAT_MODECHG)

/-- IRQ_N asserted (R523) -/
def irqNow (s : State) : Bool := !inSequence s && (irqStat s &&& rd s GEN_IRQ_EN_EN) != 0

/-- FLT.STAT.QLEFT in ms: held at QUIET while it does not count, 0 outside FAULT (R463) -/
def qleft (s : State) : Nat :=
  if rd s FLT_STAT_STATE != 1 then 0
  else match s.flt.quietEnd with
    | some t => ceilDiv (t - s.now) msU
    | none => clampN 1 65000 (rd s FLT_QUIET_QUIET)

/-- SLOTs_STAT.REMAIN in 10 ms, 0 in the core cycle before the slot qualifies (R119) -/
def remainOf (s : State) (i : Nat) : Nat :=
  match (ix s.slot i).qualEnd with
  | some t => ceilDiv (t - s.now - cycU) (10 * msU)
  | none => 0

/-- SYSCLK.ELAPSED (R108) -/
def elapsedOf (s : State) : Nat := if s.clk.warmRun then min 4095 (secSince s s.clk.warmAt) else s.clk.elapsed

/-- the entry of the next instance of channel n, while SCH runs (R332) -/
def nextEntry (s : State) (n : Nat) : Option Nat :=
  if schState s != 3 then none
  else
    let l := (validEnts s).filterMap (fun i => if (keysOf s (ent s i)).contains n then (pendAt s i n).map (fun j => (i, j)) else none)
    match earliest (l.map (fun p => p.2)) with
    | none => none
    | some j => (l.find? (fun p => p.2.t == j.t)).map (fun p => p.1)

/-- FUSE_STAT.LEFT: bits still to program (R436) -/
def fuseLeft (s : State) : Nat :=
  match s.sec.fuse with
  | none => rd s SEC_FUSE_STAT_LEFT
  | some r => r.todo.length - min r.todo.length ((s.now - r.start) / (20 * usU))

/-- LBI_HDR0 and LBI_DATA, DLQ_HDR and DLQ_DATA (R405) -/
def lbiHdr (s : State) : Nat :=
  match s.crl.lbi with
  | [] => 0
  | m :: _ => lbHeader m.link m.addr m.kind m.tag 0 m.payload.length
def lbiData (s : State) (j : Nat) : Nat :=
  match s.crl.lbi with
  | [] => 0
  | m :: _ => wordOfBytes m.payload j
def dlqHdr (s : State) : Nat :=
  match s.crl.dlq with
  | [] => 0
  | (t, r) :: _ => lbHeader t.link t.addr (dlqKind t.type) t.tag r t.payload.length
def dlqData (s : State) (j : Nat) : Nat :=
  match s.crl.dlq with
  | [] => 0
  | (t, _) :: _ => wordOfBytes t.payload j

/-- an 11-word statistics set (R159) -/
def statWord (s : State) (g j : Nat) : Nat := loadWord s (0x500700 + 64 * g + 4 * j)

/-- block-specific values: the field with its low bit at lo of the register at offset o, none where it is simply stored -/
def genShown (s : State) (o lo : Nat) : Option Nat :=
  if o = 4 && lo = 3 then some (b2n ((List.range 12).all (fun n => on s (PMU_PMn_CALSTAT_LOOP_LOCK n)) && !on s GEN_CLKSTAT_CORE_FROZEN))
  else if o = 0x14 then some (match lo with
    | 16 => irqStat s / 2 ^ 16
    | 7 => irqStat s / 2 ^ 7
    | 6 => irqStat s / 2 ^ 6
    | 4 => irqStat s / 2 ^ 4
    | 2 => irqStat s / 2 ^ 2
    | _ => rd s GEN_IRQ_STAT_MODECHG)
  else none

def fltShown (s : State) (o lo : Nat) : Option Nat :=
  let r := rd s FLT_RIDX_SRC
  let b := rd s FLT_DIDX_BLOCK
  match o, lo with
  | 0, 29 => some (b2n (on s FLT_STAT_ALIVE_STOP || imgIsFailed s))
  | 0, 28 => some (b2n (nmiNow s))
  | 0, 27 => some (b2n (!(on s GEN_CLKSTAT_CORE_LOCK || on s GEN_CLKSTAT_CORE_FROZEN)))
  | 0, 26 => some (b2n (imgIsFailed s))
  | 0, 0 => some (qleft s)
  | 0x38, 31 => some (b2n (reactFixed r && decide (r ≤ 92)))
  | 0x38, 0 => some (reactOf s r)
  | 0x3C, 0 => some (instOf s r)
  | 0x44, 0 => some (settleOf s b)
  | 0x48, 0 => some (maskOf s b)
  | 0x4C, 0 => some (maskOf s b / 2 ^ 32)
  | 0x50, 0 => some (maskOf s b / 2 ^ 64)
  | 0x54, 4 => some ((List.range 11).foldl (fun v j => if inWindow s (j + 4) then setBit v j else v) 0)
  | _, _ => none

def refShown (s : State) (o lo : Nat) : Option Nat :=
  if 0x200 ≤ o && o < 0x300 && o % 8 = 4 && lo = 0 then some (remainOf s (o % 0x100 / 8))
  else if o = 0x330 && lo = 12 then some (elapsedOf s) else none

def pmuShown (s : State) (o lo : Nat) : Option Nat :=
  let n := o / 128
  let r := o % 128
  if o < 0x600 then
    if r = 0x1C && lo = 28 then some (b2n ((List.range (unitSize s n)).any (fun j => sliceUncal s (n + j))))
    else if 0x20 ≤ r && r < 0x30 then some (headWord stampNat (ix s.unit n).sq ((r - 0x20) / 4))
    else if r = 0x30 && lo = 0 then some (ix s.unit n).sq.recs.length
    else if r = 0x34 && lo = 0 then some (ix s.unit n).rq.recs.length
    else if r = 0x38 && lo = 0 then some (tableAge s n)
    else if 0x40 ≤ r && r < 0x50 then some (headWord resNat (ix s.unit n).rq ((r - 0x40) / 4))
    else none
  else if o = 0x61C then some (linLive s (rd s PMU_LINIDX_SLICE) (rd s PMU_LINIDX_TAP))
  else none

def selShown (s : State) (o lo : Nat) : Option Nat :=
  let i := rd s SEL_FEST_IDX_SLOT
  if o = 0x208 then some (uns 48 (slotFreq s i).1)
  else if o = 0x20C then some (if lo = 31 then b2n (slotFreq s i).2 else uns 48 (slotFreq s i).1 / 2 ^ 32)
  else if o = 0x210 then some (selIrq s)
  else if o = 0x804 then some (dpllIrq s)
  else if 0x400 ≤ o && o < 0x800 && o % 128 = 0x7C && lo = 0 then
    let x := ix s.dpll (o % 0x400 / 128)
    some (if x.buckets = [] then 0 else min 65535 ((s.now - x.tW).toNat / (60 * secU)))
  else none

def mnsShown (s : State) (o lo : Nat) : Option Nat :=
  if o = 0x140 && lo = 0 then some s.mns.zq.recs.length
  else if 0x144 ≤ o && o < 0x154 then some (headWord stampNat s.mns.zq ((o - 0x144) / 4)) else none

def schShown (s : State) (o lo : Nat) : Option Nat :=
  if o = 4 && lo = 28 then some (b2n (entBusy s))
  else if o = 0x40 && lo = 0 then some s.sch.oq.recs.length
  else if 0x60 ≤ o && o < 0x80 then some (headWord outNat s.sch.oq ((o - 0x60) / 4))
  else if 0x100 ≤ o && o < 0x400 && o % 16 = 4 && lo = 12 then some (b2n (nextEntry s ((o - 0x100) / 16)).isSome)
  else if 0x100 ≤ o && o < 0x400 && o % 16 = 4 && lo = 0 then some ((nextEntry s ((o - 0x100) / 16)).getD 0)
  else none

def ptpShown (s : State) (o lo : Nat) : Option Nat :=
  let p := (o - 0x400) / 128
  if o < 0x400 then none
  else if o % 128 = 0x4C && lo = 0 then some (ix s.ptp.port p).tsq.recs.length
  else if 0x50 ≤ o % 128 && o % 128 < 0x60 then some (headWord stampNat (ix s.ptp.port p).tsq ((o % 128 - 0x50) / 4))
  else none

def crlShown (s : State) (o lo : Nat) : Option Nat :=
  let k := o / 64
  if o < 0x100 then
    if o % 64 = 0x2C && lo = 0 then some (ix s.crl.link k).tsq.recs.length
    else if 0x30 ≤ o % 64 then some (headWord stampNat (ix s.crl.link k).tsq ((o % 64 - 0x30) / 4)) else none
  else if 0x300 ≤ o then some (dlqData s ((o - 0x300) / 4))
  else if 0x200 ≤ o then some (lbiData s ((o - 0x200) / 4))
  else match o, lo with
    | 0x108, 8 => (partnerSel s).map (fun b => min 255 (heldFor s (b / 32) (b % 32)).length)
    | 0x18C, 16 => some (512 - s.crl.pool.length)
    | 0x18C, 0 => some s.crl.staged.length
    | 0x190, 0 => some s.crl.lbi.length
    | 0x194, _ => some (lbiHdr s)
    | 0x198, 0 => some s.crl.dlq.length
    | 0x19C, _ => some (dlqHdr s)
    | _, _ => none

def nvmShown (s : State) (o lo : Nat) : Option Nat :=
  if o = 0x1C && lo = 31 then some (b2n (pageBusy s (rd s NVM_PADDR_PAGE)))
  else if 0x800 ≤ o && o < 0x900 then some (leNat (mrdList s (pageAt (rd s NVM_PADDR_PAGE) + (o - 0x800)) 4))
  else if 0x1000 ≤ o then some (tabGet s.cyc.cram ((o - 0x1000) / 4) 0)
  else none

/-- FUSE_RDATA, LEFT of a running program; in ERROR no service output (R445) -/
def secShown (s : State) (o lo : Nat) : Option Nat :=
  if o = 0x24 then some (fuseWord s (rd s SEC_FUSE_RIDX_WORD))
  else if o = 0x1C && lo = 8 then some (fuseLeft s)
  else if decide (0x80 ≤ o) && decide (o < 0xA8) && rd s SEC_STAT_STATE == 2 then some 0 else none

/-- is the field a solar result in the core cycle of a publication: it shows the set before it (R304) -/
def isSolarHold (s : State) (f : Fld) : Bool := pubNow s && resultFields.contains f

/-- a field as a read shows it: computed where the register shows what no field stores -/
def shown (s : State) (f : Fld) : Nat :=
  let o := f.addr % 2 ^ 20
  let v := match blockOf f.addr with
    | 0 => genShown s o f.lo
    | 2 => fltShown s o f.lo
    | 4 => refShown s o f.lo
    | 5 => pmuShown s o f.lo
    | 6 => selShown s o f.lo
    | 7 => if o = 0x190 then some (if f.lo = 4 then synIrq s / 16 else synIrq s) else none
    | 9 => mnsShown s o f.lo
    | 11 => schShown s o f.lo
    | 12 => ptpShown s o f.lo
    | 13 => crlShown s o f.lo
    | 14 => nvmShown s o f.lo
    | 15 => secShown s o f.lo
    | _ => none
  match v with
  | some x => x % 2 ^ fldWidth f
  | none => if isCounter f then stored s f - cycSet s f else if isGateHold f || isSolarHold s f then cycWas s f else stored s f

/-- is the register one that reads 0: a unit register of a slice that is not the lowest of its unit (R156), the statistics of a
group without a four-slice unit (R159), a partner register while PIDX.ADDR is 0 (R404) -/
def readsZero (s : State) (addr : Nat) : Bool :=
  let o := addr % 2 ^ 20
  (blockOf addr == 5 && (pmuAbsent s o || (decide (0x700 ≤ o) && unitSize s (4 * ((o - 0x700) / 64)) != 4)))
    || (isPartnerReg addr && (partnerSel s).isNone)

/-- the bits of a field that hardware has set in the present core cycle -/
def cycNew (s : State) (f : Fld) : Nat := clrMask (cycSet s f) (cycWas s f)

/-- a field of access code a as a read shows it: of an RC field the bits set in the same core cycle still read as before (R512, R526) -/
def shownAs (s : State) (f : Fld) (a : Nat) : Nat :=
  if a = 2 && !isCounter f then clrMask (shown s f) (cycNew s f) else shown s f

/-- the value of a register as it stands; WO fields and reserved bits read 0 (R6, R8) -/
def liveWord (s : State) (addr : Nat) : Nat :=
  if readsZero s addr then 0
  else (fieldsAt addr).foldl (fun v p => if p.2 = 3 then v else v + shownAs s p.1 p.2 * 2 ^ p.1.lo) 0

/-! ### The hold of R507 -/

/-- values split into _LO and _HI words, the high word next above the low one: low word, how many, stride. Result sets of R157 and
R296 follow their own rules. -/
def widePairs : List (Nat × Nat × Nat) :=
  [(0x400018, 16, 0x20), (0x500010, 12, 0x80), (0x600034, 8, 0x40), (0x600208, 1, 0), (0x600420, 8, 0x80), (0x60042C, 8, 0x80),
   (0x600444, 8, 0x80), (0x600450, 8, 0x80), (0x60045C, 8, 0x80), (0x600464, 8, 0x80), (0x700008, 4, 0x40), (0x700010, 4, 0x40),
   (0x80001C, 1, 0), (0x800038, 1, 0), (0x800040, 1, 0), (0x800088, 1, 0), (0x900110, 1, 0), (0x900134, 1, 0)]
  ++ [(0xB00784, 8, 0x20), (0xC00004, 1, 0), (0xC00014, 1, 0), (0xC00020, 1, 0), (0xC00104, 1, 0), (0xC00420, 6, 0x80), (0xC00428, 6, 0x80),
   (0xC00430, 6, 0x80), (0xD0010C, 1, 0)]

/-- is addr the low word of such a value -/
def isWideLow (addr : Nat) : Bool := widePairs.any (fun p => (List.range p.2.1).any (fun i => p.1 + i * p.2.2 == addr))
/-- is addr a high word -/
def isWideHigh (addr : Nat) : Bool := decide (4 ≤ addr) && isWideLow (addr - 4)

/-- a word of a split value as a read of the high word takes it: an RO field that hardware updates in the core cycle of the read as it
stood before the update (R526) -/
def heldWord (s : State) (addr : Nat) : Nat :=
  if readsZero s addr then 0
  else (fieldsAt addr).foldl (fun v p =>
    if p.2 = 3 then v
    else v + (if p.2 = 0 && shown s p.1 == rd s p.1 then cycWas s p.1 else shownAs s p.1 p.2) * 2 ^ p.1.lo) 0

/-- a read of a high word loads the hold with the low word as it stands (R507) -/
def loadHold (addr : Nat) (s : State) : State :=
  { s with host := { s.host with holdHi := some addr, holdW := [(addr - 4, heldWord s (addr - 4))] } }

/-- a read of SSTAT loads the statistics hold of its group (R157) -/
def loadStats (g : Nat) (s : State) : State :=
  { s with pmu := { s.pmu with hold := vset s.pmu.hold g ((List.range 11).map (statWord s g)) } }

/-- the value a read of the word returns: held, or as it stands -/
def shownWord (s : State) (addr : Nat) : Nat :=
  let o := addr % 2 ^ 20
  if isWideLow addr && s.host.holdHi == some (addr + 4) then (s.host.holdW.headD (0, 0)).2
  else if blockOf addr = 5 && 0x700 ≤ o && o % 64 < 0x28 && !readsZero s addr then (ix s.pmu.hold ((o - 0x700) / 64)).getD (o % 64 / 4) 0
  else if isWideHigh addr then heldWord s addr
  else liveWord s addr

/-- what a clearing read of the enabled bytes leaves of an RC field: what was set or counted in the same core cycle survives (R6, R155,
R512) -/
def clearedField (s : State) (f : Fld) (be : Nat) : Nat :=
  let c := cycSet s f
  if isCounter f then min (mergeField f (stored s f - c) be 0 + c) (2 ^ fldWidth f - 1) else mergeField f (stored s f) be 0 ||| c

/-- the RC fields in the bytes read clear (R6) -/
def clearRead (addr be : Nat) (s : State) : State :=
  forEach (fieldsAt addr) (fun p s => if p.2 = 2 then store p.1 (clearedField s p.1 be) s else s) s

/-- what a read does beside returning a value: holds, OUTn_STAT's change flag (R231), clearing through the plain alias (R500) -/
def readEffect (addr be : Nat) (plain : Bool) (s : State) : State :=
  let o := addr % 2 ^ 20
  let s := if isWideHigh addr then loadHold addr s else s
  let s := if blockOf addr = 5 && 0x700 ≤ o && o % 64 = 0x28 && !readsZero s addr then loadStats ((o - 0x700) / 64) s else s
  let s := if blockOf addr = 7 && 0x400 ≤ o && o < 0x600 && o % 32 = 0x18 then modOut (o % 0x400 / 32) (fun x => { x with chg := false }) s else s
  if plain && !readsZero s addr then clearRead addr be s else s

/-- the word at addr read with its effects; offsets without a register read 0 (R498); SEC.RNG draws from the DRBG (R442) -/
def readWord (addr be : Nat) (plain : Bool) (s : State) : Nat × State :=
  if (rowAt addr).isNone then (0, s)
  else if addr = 0xF00028 then rngRead s
  else (shownWord s addr, readEffect addr be plain s)

/-! ### One access (R502, R504) -/

/-- the size of an access: 1, 2 or 4 bytes -/
def accSize (n : Nat) : Nat := if n = 1 then 1 else if n = 2 then 2 else 4

/-- the byte enables of an access of n bytes from byte b on -/
def enables (n b : Nat) : Nat := (2 ^ n - 1) <<< b % 16

/-- an access at address a of n bytes begins: its address kept as issued, misalignment reported (R504) -/
def beginAccess (a n : Nat) (s : State) : State :=
  let s := { s with host := { s.host with cur := a % 2 ^ 24, curAt := cycleNow s + 1 } }
  if a % n = 0 then s else haf 2 (a % 2 ^ 24) s

/-- a host read of n bytes at address a: what it returns -/
def hostRead (a n : Nat) (s : State) : Nat × State :=
  if inSequence s then (0, s)
  else
    let n := accSize n
    let s := beginAccess a n s
    let a := a - a % n
    let r := readWord (wordAddr a) (enables n (a % 4)) (aliasOf a == 0) s
    (r.1 / 2 ^ (8 * (a % 4)) % 2 ^ (8 * n), r.2)

end Sys2Proof.Machine
end

