-- ==== Sys2Proof/Machine/Learn.lean ====
section
/-! DEFINITION. What the DPLLs do once a second, a minute and an hour (R192, R195, R197 to R202), the temperature sensor (R199), and the
drift-model area of the non-volatile store (R198, R423). -/

namespace Sys2Proof.Machine
open Sys2Proof.Reg

/-! ### Once a second -/

/-- E_24: the largest maximum less the smallest minimum of g over the window (R201) -/
def gSpread (s : State) (d : Nat) : Int :=
  let g := (ix s.dpll d).buckets.filterMap (fun b => b.g)
  maxI (g.map (fun p => p.2)) - minI (g.map (fun p => p.1))

/-- the grid-time sanity check with what GACT does at its first failure (R201) -/
def sanityCheck (d : Nat) (s : State) : State :=
  let act := sanityAct s d
  let s := putB (SEL_DPLLd_STAT_SANITY_ACT d) act s
  match (ix s.dpll d).hoG with
  | none => s
  | some g0 =>
    if !act || on s (SEL_DPLLd_STAT_SANITY_FAIL d) || decide ((gridG s d - g0).natAbs ≤ gSpread s d + rd s (SEL_DPLLd_GTOL_GTOL d)) then s
    else
      let s := s |> put (SEL_DPLLd_STAT_SANITY_FAIL d) 1 |> put (SEL_DPLLd_EVT_SANITY d) 1 |> raise 28 (some d)
      let a := rd s (SEL_DPLLd_HOCFG_GACT d)
      let s := modDpll d (fun x => { x with hoAvg := x.hoAvg || bitAt a 0, specOff := x.specOff || bitAt a 1 }) s
      if bitAt a 0 then holdoverUpdate d (hoUses s d) s else s

/-- a second of DPLL d: in HOLDOVER the word, HOTE, IN_SPEC and the sanity check (R195, R200 to R202); in FREERUN a slew (R192) -/
def holdoverSecond (d : Nat) (s : State) : State :=
  match dpllState s d with
  | 3 =>
    let s := advanceTo (hoSecond s d) s
    let s := slewMove d (modDpll d (fun x => { x with updAt := s.now }) s)
    let s := sanityCheck d (holdoverUpdate d (hoUses s d) s)
    showHoFreq d (inSpecEval d s)
  | 0 =>
    if !on s (SEL_DPLLd_STAT_SLEWING d) then s
    else
      let old := (ix s.dpll d).slew
      let s := slewMove d (advanceTo ((ix s.dpll d).slewAt + secU) s)
      wordUpdate d (flimWord s d) (clampI (wordOf s d - old + (ix s.dpll d).slew) (flimWord s d)) s
  | _ => s

/-- HOLDOVER has lasted HO_DLY (R202 step 4) -/
def holdoverDelay (d : Nat) (s : State) : State :=
  if dpllState s d = 3 && !(ix s.dpll d).hoRep then
    raise 26 (some d) (modDpll d (fun x => { x with hoRep := true }) (advanceTo ((ix s.dpll d).hoAt + rd s (SEL_DPLLd_HOCFG_HO_DLY d) * msU) s))
  else s

/-! ### The temperature sensor (R199) -/

/-- a reading of t / 2^8 °C: source 30 at each one out of range, and once 600 s have passed without a change -/
def tempReading (t : Int) (s : State) : State :=
  let v := satS 18 t
  let s := if uns 16 v = rd s SEL_TEMP_T % 65536 then s else { s with tempAt := s.now, tempStuck := false }
  let out := decide (v < -14080) || decide (38400 < v)
  let stuck := decide (s.tempAt + 600 * secU ≤ s.now)
  let ok := !out && !stuck
  let s := if out || (stuck && !s.tempStuck) then raise 30 none s else s
  let s := { s with tempStuck := stuck }
  let s := s |> putS SEL_TEMP_T v |> putB SEL_TEMP_VALID ok
  let s := if ok then { s with tempHeld := v } else s
  let s := if ok && decide (v ≤ 32767) then s else minBreakAll s
  forEach (List.range 8) histPush s

/-! ### Minutes and hours (R197, R198, R201) -/

/-- the next whole minute of the device time base that has had no sample -/
def nextMinute (s : State) : Nat :=
  (if s.now % (60 * secU) = 0 && s.minAt != s.now then s.now / (60 * secU) else s.now / (60 * secU) + 1) * (60 * secU)

/-- g joins the bucket in progress of a LOCKED DPLL while slot 30 is valid (R201) -/
def bucketG (d : Nat) (s : State) : State :=
  if dpllState s d = 2 && on s MNS_GT_STAT_VALID then
    let g := gridG s d
    modDpll d (fun x => { x with openG := some (match x.openG with
      | some p => (min p.1 g, max p.2 g)
      | none => (g, g)) }) s
  else s

/-- the minute sample that DPLL d has just completed, if its conditions held (R197) -/
def minuteOf (s : State) (d : Nat) : Option MinSample :=
  if (ix s.dpll d).minOk && minCond s d && decide (60 * secU ≤ s.now) then
    let q := histSum (s.now - 60 * secU) s.now s.now (ix s.dpll d).hist
    let dt : Int := (60 * secU : Nat)
    some { t := (s.now : Int) - (30 * secU : Nat), w := roundDiv q.1 dt, th := roundDiv q.2 dt }
  else none

/-- the first minute sample after L0 confirms a restored model or discards what was restored (R198) -/
def confirmModel (d : Nat) (m : MinSample) (s : State) : State :=
  if !on s (SEL_DPLLd_STAT_RESTORED d) then s
  else
    let lim := 3 * rd s (SEL_DPLLd_MSTAT_RES d) * 4096
    let ok := decide ((m.w - wModel s d m.t.toNat m.th).natAbs ≤ lim)
    let s := put (SEL_DPLLd_STAT_RESTORED d) 0 s
    if ok then modelValidEval d (modDpll d (fun x => { x with buckets := x.buckets.map (fun b => { b with restored := false }) }) s)
    else refit d (modDpll d (fun x => { x with buckets := x.buckets.filter (fun b => !b.restored) }) s)

/-- a minute of DPLL d ends and the next begins -/
def minuteEnd (d : Nat) (s : State) : State :=
  let s := histPush d s
  let s := match minuteOf s d with
    | some m => modDpll d (fun x => { x with open_ := m :: x.open_ }) (confirmModel d m s)
    | none => s
  minStart d (modDpll d (fun x => { x with slots := x.slots + 1 }) s)

/-- a 60 s minute ends for every DPLL -/
def minuteSample (s : State) : State :=
  let s := advanceTo (nextMinute s) s
  let s := { s with minAt := s.now }
  if s.tkp.run && live s 6 && !isolated s 6 then forEach (List.range 8) minuteEnd s else s

/-- the header page and the bucket pages of DPLL d (R423): bytes 0 to 3 CLKMODE class, from byte 8 on each bucket's close in seconds
of the backup clock, 8 bytes each (0: none), bytes 252 to 255 the CRC; the layout is the model's (log entry 17) -/
def learnHeader (cls : Nat) (closes : List Nat) : List Byte :=
  let l := leBytes 8 cls ++ (List.range 24).flatMap (fun i => leBytes 8 (closes.getD i 0)) ++ leBytes 52 0
  l ++ leBytes 4 (crc32 l)

/-- a closed bucket's 32 bytes -/
def bucketBytes (b : Bucket) : List Byte :=
  let l := (Config.bucketCode (b.smp.map (fun m => (m.t - b.close, m.w, m.th))) b.g).toList
  l ++ leBytes 4 (crc32 l)

/-- seconds of the backup clock at device time t -/
def rtcAt (s : State) (t : Int) : Nat := ((rtcSec s : Int) - ((s.now : Int) - t) / (secU : Nat)).toNat

def learnPage (d : Nat) : Nat := 0x4A0 + 4 * d

/-- the write-back of DPLL d's closed buckets: two items of two pages (R198, R413) -/
def learnItems (s : State) (d : Nat) : List WbItem :=
  let bs := (ix s.dpll d).buckets
  let body := bs.flatMap bucketBytes
  let pg (i : Nat) : List Byte := let l := (body.drop (256 * i)).take 256; l ++ leBytes (256 - l.length) 0
  [{ owner := 1 + d, pages := [(learnPage d + 1, pg 0), (learnPage d + 2, pg 1)] },
   { owner := 1 + d, pages := [(learnPage d + 3, pg 2), (learnPage d, learnHeader (rd s RST_STRAP_CLKMODE % 4) (bs.map (fun b => rtcAt s b.close)))] }]

/-- the hour bucket of DPLL d closes, the model is fitted again and the buckets are written back -/
def bucketClose (d : Nat) (s : State) : State :=
  if (ix s.dpll d).slots < 60 || isolated s 6 then s
  else
    let s := modDpll d (fun x => { x with
      slots := 0, open_ := [], openG := none
      buckets := ({ close := s.now, smp := x.open_, g := x.openG } :: x.buckets).take 24 }) s
    forEach (learnItems s d) wbOffer (refit d s)

/-! ### Restore after L0 (R198, R423) -/

/-- bucket i of DPLL d as the store holds it, with its close in seconds of the backup clock; none for an empty or bad one -/
def learnBucket (s : State) (d i : Nat) : Option (Nat × List (Int × Int × Int) × Option (Int × Int)) :=
  let close := leNat (mrdList s (pageAt (learnPage d) + 8 + 8 * i) 8)
  let at_ := pageAt (learnPage d + 1) + 32 * i
  let l := mrdList s at_ 28
  if close = 0 || crc32 l != leNat (mrdList s (at_ + 28) 4) then none else some (close, Config.bucketOpen l)

/-- the buckets of DPLL d restored, but for those that R198 discards; a close that the backup clock has not reached yet is kept; then the fit, and RESTORED while any is left -/
def learnRestore (d : Nat) (s : State) : State :=
  let h := mrdList s (pageAt (learnPage d)) 252
  let now_ := rtcSec s
  if crc32 h != leNat (mrdList s (pageAt (learnPage d) + 252) 4) || leNat (h.take 8) != rd s RST_STRAP_CLKMODE % 4
      || aonGet s TKP_RTC_STAT_SET = 0 then s
  else
    let l := ((List.range 24).filterMap (learnBucket s d)).filter (fun b => decide (now_ ≤ b.1 + 86400))
    let bs : List Bucket := l.map (fun b =>
      let close : Int := (s.now : Int) - ((now_ : Int) - b.1) * ((secU : Nat) : Int)
      { close := close, smp := b.2.1.map (fun m => { t := close + m.1, w := m.2.1, th := m.2.2 }), g := b.2.2, restored := true })
    if bs = [] then s else put (SEL_DPLLd_STAT_MODEL_VALID d) 0 (refit d (put (SEL_DPLLd_STAT_RESTORED d) 1 (modDpll d (fun x => { x with buckets := bs }) s)))

end Sys2Proof.Machine
end

