-- ==== Sys2Proof/Machine/Host.lean ====
section
/-! DEFINITION. What a host write does (R488, R495 to R513), and the two ports: posted writes and frames (R515 to R519), half-word
pairing (R520 to R522). -/

namespace Sys2Proof.Machine
open Sys2Proof.Reg

/-! ### A write that its block takes -/

/-- the word a register holds after a write of v under byte enables -/
def mergeWord (old be v : Nat) : Nat := clrMask old (beMask be) ||| (v &&& beMask be)

/-- writes to GEN, FLT, IMG and SEC that act -/
def genWrite (w : WordW) (v : Nat) (s : State) : State :=
  if w.addr = 8 then (if bitAt w.be 0 then modeWrite (v % 256) s else s)
  else if w.addr = 0x10 then isolateWrite (bitsOf v 14 4) s
  else storeWord w.addr w.be w.data s

def fltWrite (w : WordW) (v : Nat) (s : State) : State :=
  let o := w.addr % 2 ^ 20
  let b := rd s FLT_DIDX_BLOCK
  let mask (k : Nat) : Nat := maskOf s b - maskOf s b / 2 ^ (32 * k) % 2 ^ 32 * 2 ^ (32 * k) + v * 2 ^ (32 * k)
  if 0x10 ≤ o && o < 0x1C then stkWrite ((o - 0x10) / 4) v s
  else if 0x1C ≤ o && o < 0x28 then cstkWrite ((o - 0x1C) / 4) v s
  else if 0x28 ≤ o && o < 0x34 then force ((o - 0x28) / 4) (w.data &&& beMask w.be) s
  else if o = 0x38 then
    let r := rd s FLT_RIDX_SRC
    if !bitAt w.be 0 then s else if reactFixed r then refuse s else reactWrite r (v % 32) s
  else if o = 0x3C then rinstWrite v s
  else if o = 0x44 then putSettle b (v % 65536) s
  else if 0x48 ≤ o && o < 0x54 then putMask b (mask ((o - 0x48) / 4)) s
  else if o = 0x58 then
    if on s FLT_CHKTEST_GO then s
    else if bitAt v 31 then chkTest (v % 128) s
    else if !mode s 6 || !paritySources.contains (v % 128) then refuse s else put FLT_CHKTEST_SRC (v % 128) s
  else storeWord w.addr w.be w.data s

/-- IMG.CTRL (R90): the key, then exactly one command -/
def imgCtrl (v : Nat) (s : State) : State :=
  let c := bitList 8 (v % 256 - v % 2)
  if v / 2 ^ 24 != 0x5A || decide (1 < c.length) then refuse s
  else match c with
    | [7] => rollfwd s
    | [6] => prAbort s
    | [5] => prStart s
    | [4] => imgCommit s
    | [3] => dlAbort s
    | [2] => dlDone s
    | [1] => dlStart s
    | _ => s

/-- SEC.CTL (R442, R443, R446) -/
def secCtl (v : Nat) (s : State) : State :=
  if v / 2 ^ 24 % 256 != 0x5A then refuse s
  else s |> whenB (bitAt v 2) reseed |> whenB (bitAt v 1 && s.sec.ready) selfTestBegin |> whenB (bitAt v 0) zeroise

def secWrite (w : WordW) (v : Nat) (s : State) : State :=
  let o := w.addr % 2 ^ 20
  if o = 4 then secCtl v s
  else if o = 0x10 then svcWrite (bitsOf v 31 24) (bitsOf v 23 20) (bitsOf v 19 15) (bitsOf v 14 12) (bitsOf v 7 0) s
  else if o = 0x18 then fuseWrite (bitsOf v 31 24) (bitsOf v 3 0) s
  else storeWord w.addr w.be w.data s

/-- a write taken by its block; v is the word as it would stand after it -/
def takeWrite (w : WordW) (v : Nat) (s : State) : State :=
  match blockOf w.addr with
  | 0 => genWrite w v s
  | 1 => storeWord w.addr w.be w.data s
  | 2 => fltWrite w v s
  | 3 => if w.addr = 0x300004 then imgCtrl v s else if w.addr = 0x30000C then dlData v s else storeWord w.addr w.be w.data s
  | 15 => secWrite w v s
  | _ => regWrite w s

/-! ### A host write (R488, R499, R503, R509 to R511) -/

/-- does the device refuse every host write to the register now: before RUN after an L0 or L1 (R488), or the target of a partial reload
(R87), or a partner register with PIDX.ADDR 0 (R404) -/
def hostBlocked (s : State) (addr : Nat) : Bool :=
  let b := blockOf addr
  (!s.img.applied && ((decide (4 ≤ b) && decide (b ≤ 14)) || addr == 8 || addr == 0x10)) || prTarget s == some b
    || (isPartnerReg addr && (partnerSel s).isNone)

/-- a write through an alias to the word at addr under byte enables, the data in its byte lanes -/
def writeWord (addr al be data : Nat) (s : State) : State :=
  if hostBlocked s addr then refuse s
  else
    match rowAt addr with
    | none => s
    | some r =>
      if r.whole && be != 15 then haf 1 s.host.cur s
      else
        match rwsGroupOf addr with
        | some g =>
          match rwsPost g { addr := addr, alias_ := al, be := be, data := data } s with
          | some t => t
          | none => refuse s
        | none =>
          let old := liveWord s addr
          let new := aliasData al old data
          if addr != 8 && lockHit s addr be new then haf 3 s.host.cur s
          else takeWrite { addr := addr, be := be, data := new } (mergeWord old be new) s

/-- a host write of n bytes at address a -/
def hostWrite (a n data : Nat) (s : State) : State :=
  if inSequence s then s
  else
    let n := accSize n
    let s := beginAccess a n s
    let a := a - a % n
    writeWord (wordAddr a) (aliasOf a) (enables n (a % 4)) (data % 2 ^ (8 * n) * 2 ^ (8 * (a % 4))) s

/-! ### Order: posted writes and a staged half come first (R506, R517, R522) -/

def modHost (f : HostS → HostS) (s : State) : State := { s with host := f s.host }

/-- the oldest posted write is carried out -/
def postedOne (s : State) : State :=
  match s.host.posted with
  | [] => s
  | p :: r => hostWrite p.addr p.size p.data (modHost (fun h => { h with posted := r }) s)

/-- n posted writes carried out -/
def postedRun : Nat → State → State
  | 0, s => s
  | n + 1, s => postedRun n (postedOne s)

/-- a staged half carried out alone, as a narrow write -/
def stagedAlone (s : State) : State :=
  match s.host.staged with
  | none => s
  | some (a, d, _) => hostWrite a 2 d (modHost (fun h => { h with staged := none }) s)

/-- everything issued before an access that completes no pair -/
def inOrder (s : State) : State :=
  modHost (fun h => { h with heldHalf := none }) (stagedAlone (postedRun s.host.posted.length s))

/-- what a read returns kept for the host -/
def putRead (n : Nat) (v : List Nat) (s : State) : State := modHost (fun h => { h with rdata := v, rsize := n }) s

/-- one host read, its data kept -/
def readOne (a n : Nat) (s : State) : State :=
  let r := hostRead a n (inOrder s)
  if inSequence s then s else putRead (accSize n) [r.1] r.2

/-- one host write, carried out at once -/
def writeOne (a n data : Nat) (s : State) : State := if inSequence s then s else hostWrite a n data (inOrder s)

/-- a whole word written to the register at addr through alias al -/
def writeReg (addr al data : Nat) (s : State) : State := writeOne (addr + al % 4 * 2 ^ 18) 4 data s

/-! ### The Quad-SPI port (R514 to R519) -/

/-- does the Quad-SPI port respond: strapped, no sequence running -/
def qspiOn (s : State) : Bool := rd s RST_STRAP_HOSTSEL == 0 && !inSequence s
/-- does the parallel port respond -/
def parOn (s : State) : Bool := rd s RST_STRAP_HOSTSEL == 1 && !inSequence s

/-- the next address of a burst (R505): A[17:2] wraps, A[23:18] stays -/
def burstNext (a : Nat) : Nat := a / 2 ^ 18 * 2 ^ 18 + (a + 4) % 2 ^ 18

/-- a protocol error at an address (R513, R519) -/
def protocolError (a : Nat) (s : State) : State := haf 5 (a % 2 ^ 24) s

/-- one item posted; a full buffer discards it (R517) -/
def post (a n data : Nat) (s : State) : State :=
  if 16 ≤ s.host.posted.length then modHost (fun h => { h with ovf := true }) s
  else modHost (fun h => { h with posted := h.posted ++ [{ addr := a, size := n, data := data }] }) s

/-- words posted from an address on; fixed ones to the one address -/
def postWords (fixed : Bool) : List (List Byte) → Nat → State → State
  | [], _, s => s
  | w :: r, a, s => postWords fixed r (if fixed then a else burstNext a) (post a 4 (leNat w) s)

/-- a WRITE or WRITE_FIXED frame with the bytes it carried: an incomplete last word is discarded with a protocol error -/
def qspiWrite (fixed : Bool) (a : Nat) (bytes : List Byte) (s : State) : State :=
  let s := postWords fixed ((chunks bytes.length 4 bytes).filter (fun w => w.length == 4)) a s
  if bytes.length % 4 = 0 then s else protocolError a s

/-- a WRITE8 or WRITE16 frame of an item of n bytes: too few are discarded, too many ignored, each with a protocol error -/
def qspiItem (n a : Nat) (bytes : List Byte) (s : State) : State :=
  let s := if n ≤ bytes.length then post a n (leNat (bytes.take n)) s else s
  if bytes.length = n then s else protocolError a s

/-- n words fetched from an address on -/
def fetchWords (fixed : Bool) : Nat → Nat → List Nat → State → List Nat × State
  | 0, _, l, s => (l, s)
  | n + 1, a, l, s => let r := hostRead a 4 s; fetchWords fixed n (if fixed then a else burstNext a) (l ++ [r.1]) r.2

/-- a READ or READ_FIXED frame of n words -/
def qspiRead (fixed : Bool) (a n : Nat) (s : State) : State :=
  let r := fetchWords fixed n a [] (inOrder s)
  putRead 4 r.1 r.2

/-- the STATUS byte (R515) -/
def statusByte (s : State) : Nat :=
  b2n (s.host.posted != []) + 2 * b2n (decide (16 ≤ s.host.posted.length)) + 4 * b2n s.host.ovf + 8 * b2n s.host.haf + 16 * b2n (irqNow s)
    + 32 * b2n (nmiNow s) + 64 * b2n (imgRun s)

/-- a STATUS frame: OVF and HAF clear -/
def qspiStatus (s : State) : State :=
  let v := statusByte s
  modHost (fun h => { h with status := v, ovf := false, haf := false }) s

/-! ### The parallel port (R520 to R522) -/

/-- the limit of a staged half -/
def pairU : Nat := 10 * usU

/-- a 2-byte write under pairing -/
def pairWrite (a data : Nat) (s : State) : State :=
  if a % 4 = 0 then
    let t := inOrder s
    modHost (fun h => { h with staged := some (a, data % 65536, t.now + pairU) }) t
  else
    match s.host.staged with
    | some (b, d, dl) =>
      if b + 2 = a && s.now ≤ dl then
        hostWrite b 4 (d + data % 65536 * 65536) (modHost (fun h => { h with staged := none, heldHalf := none }) s)
      else hostWrite a 2 data (inOrder s)
    | none => hostWrite a 2 data (inOrder s)

/-- a 2-byte read under pairing -/
def pairRead (a : Nat) (s : State) : State :=
  if a % 4 = 0 then
    let r := hostRead a 4 (inOrder s)
    putRead 2 [r.1 % 65536] (modHost (fun h => { h with heldHalf := some (a, r.1 / 65536) }) r.2)
  else
    match s.host.heldHalf with
    | some (b, v) =>
      if b + 2 = a then putRead 2 [v] (modHost (fun h => { h with heldHalf := none }) s)
      else readOne a 2 s
    | none => readOne a 2 s

/-- a write strobe: half-word address, byte enables (1 low byte, 2 high byte, 3 both), whether both strobes were low -/
def parWrite (a be : Nat) (both : Bool) (data : Nat) (s : State) : State :=
  let a := a / 2 * 2
  if both || be % 4 = 0 then protocolError a (inOrder s)
  else if be % 4 = 3 then (if on s GEN_HOSTCFG_PAIR then pairWrite a data s else hostWrite a 2 data (inOrder s))
  else if be % 4 = 1 then hostWrite a 1 data (inOrder s)
  else hostWrite (a + 1) 1 (data / 256) (inOrder s)

/-- a read strobe -/
def parRead (a be : Nat) (both : Bool) (s : State) : State :=
  let a := a / 2 * 2
  if both || be % 4 = 0 then protocolError a (inOrder s)
  else if be % 4 = 3 then (if on s GEN_HOSTCFG_PAIR then pairRead a s else readOne a 2 s)
  else if be % 4 = 1 then readOne a 1 s else readOne (a + 1) 1 s

/-- a staged half that waited 10 µs is carried out alone -/
def pairTimeout (s : State) : State :=
  match s.host.staged with
  | none => s
  | some (_, _, dl) => stagedAlone (advanceTo dl s)

end Sys2Proof.Machine
end

