-- ==== Sys2Proof/Machine/CmdCrl.lean ====
section
/-! DEFINITION. The commands of the Courier link (R373 to R408): frames that arrive, timers, the partner and letterbox registers. A
frame that arrives is taken as its kind names it; k is the link, a the address. -/

namespace Sys2Proof.Machine
open Sys2Proof.Reg

/-- f on link k, where there is such a link -/
def onLink (k : Nat) (f : State → State) (s : State) : State := whenB (k < 4) f s

/-- f for a frame that arrives on link k; with its RXD ball disabled the line is silent (R561) -/
def onLine (k : Nat) (f : State → State) (s : State) : State := whenB (k < 4 && !ballOff s (rxdBall k)) f s

/-- f on address a of link k -/
def onPartner (k a : Nat) (f : State → State) (s : State) : State := whenB (k < 4 && decide (1 ≤ a) && decide (a < 32)) f s

/-! ### Register accesses of a controller (R401) -/

/-- a host access made for a controller: none where it would raise the host access fault -/
def linkAccess (f : State → Nat × State) (s : State) : Option (Nat × State) :=
  let r := f (modHost (fun h => { h with haf := false }) s)
  if r.2.host.haf then none else some (r.1, modHost (fun h => { h with haf := s.host.haf }) r.2)

/-- n words read from an address on: the bytes, or none with what the words before the refused one did -/
def linkReads : Nat → Nat → List Byte → State → Option (List Byte) × State
  | 0, _, l, s => (some l, s)
  | n + 1, a, l, s =>
    match linkAccess (hostRead a 4) s with
    | none => (none, s)
    | some r => linkReads n (a + 4) (l ++ leBytes 4 r.1) r.2

/-- words written from an address on; false: one was refused -/
def linkWrites : List (List Byte) → Nat → State → Bool × State
  | [], _, s => (true, s)
  | w :: r, a, s =>
    match linkAccess (fun s => (0, hostWrite a 4 (leNat w) s)) s with
    | none => (false, s)
    | some x => linkWrites r (a + 4) x.2

/-- READ at a partner-role link: DATA, or NAK 3 for an access refused, 2 for an address the device does not have -/
def rxRead (k : Nat) (f : CrlFrame) (s : State) : State :=
  parRequest k 0x10 f (fun s =>
    let a := fieldAt f.payload 0 4
    let n := fieldAt f.payload 4 2
    let may := rd s (CRL_LKk_CFG_REMOTE k) == 1 || rd s (CRL_LKk_CFG_REMOTE k) == 2
    if !may || f.payload.length != 8 || n == 0 || decide (256 < n) || n % 4 != 0 then (nakResp f 3 0x10, s)
    else if 2 ^ 24 < a + n then (nakResp f 2 0x10, s)
    else
      let r := linkReads (n / 4) a [] s
      match r.1 with
      | some l => ((0x11, f.seq, l), r.2)
      | none => (nakResp f 3 0x10, r.2)) s

/-- WRITE at a partner-role link: ACK, or NAK -/
def rxWrite (k : Nat) (f : CrlFrame) (s : State) : State :=
  parRequest k 0x12 f (fun s =>
    let a := fieldAt f.payload 0 4
    let l := f.payload.drop 4
    if rd s (CRL_LKk_CFG_REMOTE k) != 2 || l.isEmpty || l.length % 4 != 0 then (nakResp f 3 0x12, s)
    else if 2 ^ 24 < a + l.length then (nakResp f 2 0x12, s)
    else
      let r := linkWrites (chunks l.length 4 l) a s
      (if r.1 then ackResp f else nakResp f 3 0x12, r.2)) s

/-! ### Frames -/

/-- POLL at a partner (R381) -/
def execPollCmd (dt k : Nat) (f : CrlFrame) (s : State) : Host.Outcome State Fault Refusal := done s (onLine k (rxPoll k f) (pass dt s))

/-- PRES at the controller (R382) -/
def execPresCmd (dt k : Nat) (f : CrlFrame) (s : State) : Host.Outcome State Fault Refusal := done s (onLine k (rxPres k f) (pass dt s))

/-- HELLO at a partner (R381) -/
def execHelloCmd (dt k : Nat) (f : CrlFrame) (s : State) : Host.Outcome State Fault Refusal := done s (onLine k (rxHello k f) (pass dt s))

/-- IDENT at the controller (R382) -/
def execIdentCmd (dt k : Nat) (f : CrlFrame) (s : State) : Host.Outcome State Fault Refusal := done s (onLine k (rxIdent k f) (pass dt s))

/-- NEG at a partner (R384) -/
def execNegCmd (dt k : Nat) (f : CrlFrame) (s : State) : Host.Outcome State Fault Refusal := done s (onLine k (rxNeg k f) (pass dt s))

/-- NEG_ACK at the controller (R384) -/
def execNegAck (dt k : Nat) (f : CrlFrame) (s : State) : Host.Outcome State Fault Refusal := done s (onLine k (rxNegAck k f) (pass dt s))

/-- NEG_CFM at a partner (R384) -/
def execNegCfm (dt k : Nat) (f : CrlFrame) (s : State) : Host.Outcome State Fault Refusal := done s (onLine k (rxNegCfm k f) (pass dt s))

/-- NEG_DONE at the controller (R384) -/
def execNegDone (dt k : Nat) (f : CrlFrame) (s : State) : Host.Outcome State Fault Refusal := done s (onLine k (rxNegDone k f) (pass dt s))

/-- READ at a partner (R401) -/
def execReadCmd (dt k : Nat) (f : CrlFrame) (s : State) : Host.Outcome State Fault Refusal := done s (onLine k (rxRead k f) (pass dt s))

/-- DATA at the controller (R401) -/
def execDataCmd (dt k : Nat) (f : CrlFrame) (s : State) : Host.Outcome State Fault Refusal := done s (onLine k (rxData k f) (pass dt s))

/-- WRITE at a partner (R401) -/
def execWriteCmd (dt k : Nat) (f : CrlFrame) (s : State) : Host.Outcome State Fault Refusal := done s (onLine k (rxWrite k f) (pass dt s))

/-- ACK at the controller (R377) -/
def execAckCmd (dt k : Nat) (f : CrlFrame) (s : State) : Host.Outcome State Fault Refusal := done s (onLine k (rxAck k f) (pass dt s))

/-- EVT_GET at a partner (R386) -/
def execEvtGet (dt k : Nat) (f : CrlFrame) (s : State) : Host.Outcome State Fault Refusal := done s (onLine k (rxEvtGet k f) (pass dt s))

/-- EVT at the controller (R386) -/
def execEvtCmd (dt k : Nat) (f : CrlFrame) (s : State) : Host.Outcome State Fault Refusal := done s (onLine k (rxEvt k f) (pass dt s))

/-- SWITCH at a partner (R385) -/
def execSwitchCmd (dt k : Nat) (f : CrlFrame) (s : State) : Host.Outcome State Fault Refusal := done s (onLine k (rxSwitch k f) (pass dt s))

/-- ARM at a partner (R385) -/
def execArmCmd (dt k : Nat) (f : CrlFrame) (s : State) : Host.Outcome State Fault Refusal := done s (onLine k (rxArm k f) (pass dt s))

/-- ARM_RSP at the controller (R327) -/
def execArmRsp (dt k : Nat) (f : CrlFrame) (s : State) : Host.Outcome State Fault Refusal := done s (onLine k (rxArmRsp k f) (pass dt s))

/-- COMMIT at a partner (R328) -/
def execCommitCmd (dt k : Nat) (f : CrlFrame) (s : State) : Host.Outcome State Fault Refusal := done s (onLine k (rxCommit k f) (pass dt s))

/-- CANCEL at a partner (R328) -/
def execCancelCmd (dt k : Nat) (f : CrlFrame) (s : State) : Host.Outcome State Fault Refusal := done s (onLine k (rxCancel k f) (pass dt s))

/-- TT_REQ at a partner (R395) -/
def execTtReq (dt k : Nat) (f : CrlFrame) (s : State) : Host.Outcome State Fault Refusal := done s (onLine k (rxTtReq k f) (pass dt s))

/-- TT_RESP at the controller (R395) -/
def execTtResp (dt k : Nat) (f : CrlFrame) (s : State) : Host.Outcome State Fault Refusal := done s (onLine k (rxTtResp k f) (pass dt s))

/-- TT_FUP at a partner (R398) -/
def execTtFup (dt k : Nat) (f : CrlFrame) (s : State) : Host.Outcome State Fault Refusal := done s (onLine k (rxTtFup k f) (pass dt s))

/-- NAK at the controller (R377) -/
def execNakCmd (dt k : Nat) (f : CrlFrame) (s : State) : Host.Outcome State Fault Refusal := done s (onLine k (rxNak k f) (pass dt s))

/-! ### Timers -/

/-- the earliest armed target of link k without commit reaches T_f (R328) -/
def execArmExpiry (k : Nat) (s : State) : Host.Outcome State Fault Refusal := done s (onLink k (armExpiry k) s)

/-- the fixed launch of TT_RESP (R395) -/
def execTtRespLaunch (k : Nat) (s : State) : Host.Outcome State Fault Refusal := done s (onLink k (ttLaunch k) s)

/-- RESP_TO passes without an accepted response (R378) -/
def execResponseTimeout (k : Nat) (s : State) : Host.Outcome State Fault Refusal := done s (onLink k (respTimeout k) s)

/-- a round falls due (R381) -/
def execRoundStart (k : Nat) (s : State) : Host.Outcome State Fault Refusal := done s (onLink k (roundStart k) s)

/-- the bus of link k becomes free (R379) -/
def execBusFree (dt k : Nat) (s : State) : Host.Outcome State Fault Refusal := done s (onLink k (busFree k) (pass dt s))

/-- the oldest transaction held for an address reaches PR_LIFE (R388) -/
def execPrExpiry (k a : Nat) (s : State) : Host.Outcome State Fault Refusal := done s (onPartner k a (prExpiry k a) s)

/-- RPER without a frame addressed to the link (R401) -/
def execSessionTimeout (k : Nat) (s : State) : Host.Outcome State Fault Refusal := done s (onLink k (sessionTimeout k) s)

/-- a time-transfer exchange falls due (R394) -/
def execTtExchangeDue (k a : Nat) (s : State) : Host.Outcome State Fault Refusal := done s (onPartner k a (ttDue k a) s)

/-- 2.5 s without an accepted exchange (R399) -/
def execCascadeTimeout (k : Nat) (s : State) : Host.Outcome State Fault Refusal := done s (onLink k (cascadeTimeout k) s)

/-- an extra exchange of a calibration run falls due (R400) -/
def execCalExchangeDue (k a : Nat) (s : State) : Host.Outcome State Fault Refusal := done s (onPartner k a (calDue k a) s)

/-- 2 s after CAL_START (R400) -/
def execCalTimeout (k a : Nat) (s : State) : Host.Outcome State Fault Refusal := done s (onPartner k a (calTimeout k a) s)

/-! ### Register commands -/

/-- a write of P_CTL, for the partner that PIDX selects (R404) -/
def partnerCtlPut (v : Nat) (s : State) : State := writeReg 0xD00124 0 v s

/-- a write of CRL.CTL (R405) -/
def crlCtlPut (v : Nat) (s : State) : State := writeReg 0xD001A0 0 v s

/-- P_CTL.CAL_START (R400) -/
def execCalStart (dt : Nat) (s : State) : Host.Outcome State Fault Refusal := done s (partnerCtlPut 4 (pass dt s))

/-- P_CTL.RENEG (R382) -/
def execRenegCmd (dt : Nat) (s : State) : Host.Outcome State Fault Refusal := done s (partnerCtlPut 2 (pass dt s))

/-- P_CTL.FORGET (R382) -/
def execForgetCmd (dt : Nat) (s : State) : Host.Outcome State Fault Refusal := done s (partnerCtlPut 1 (pass dt s))

/-- a write of register r (word offset) of link k (R382, R403) -/
def execLinkConfigWrite (dt k r al data : Nat) (s : State) : Host.Outcome State Fault Refusal :=
  done s (onLink k (whenB (r < 16) (writeReg (0xD00000 + 64 * k + 4 * r) al data)) (pass dt s))

/-- a write of LBO_DATA (R405) -/
def execLboDataWrite (dt data : Nat) (s : State) : Host.Outcome State Fault Refusal := done s (writeReg 0xD00184 0 data (pass dt s))

/-- LBO_CTL.POST (R402) -/
def execPostCmd (dt : Nat) (s : State) : Host.Outcome State Fault Refusal := done s (writeReg 0xD00188 0 1 (pass dt s))

/-- LBO_CTL.DISCARD (R405) -/
def execDiscardCmd (dt : Nat) (s : State) : Host.Outcome State Fault Refusal := done s (writeReg 0xD00188 0 2 (pass dt s))

/-- CTL.TSQ_FLUSH of link k (R405) -/
def execTsqFlush (dt k : Nat) (s : State) : Host.Outcome State Fault Refusal := done s (onLink k (crlCtlPut (2 ^ (12 + k))) (pass dt s))

/-- CTL.TSQ_POP of link k (R405) -/
def execTsqPop (dt k : Nat) (s : State) : Host.Outcome State Fault Refusal := done s (onLink k (crlCtlPut (2 ^ (8 + k))) (pass dt s))

/-- CTL.DLQ_RESEND (R389) -/
def execDlqResend (dt : Nat) (s : State) : Host.Outcome State Fault Refusal := done s (crlCtlPut 4 (pass dt s))

/-- CTL.DLQ_POP (R405) -/
def execDlqPop (dt : Nat) (s : State) : Host.Outcome State Fault Refusal := done s (crlCtlPut 2 (pass dt s))

/-- CTL.LBI_POP (R405) -/
def execLbiPop (dt : Nat) (s : State) : Host.Outcome State Fault Refusal := done s (crlCtlPut 1 (pass dt s))

/-- a write of CRL.TEST (R405) -/
def execCrlTestGo (dt al data : Nat) (s : State) : Host.Outcome State Fault Refusal := done s (writeReg 0xD001AC al data (pass dt s))

/-- the loopback test ends: every frame intact or not, mean loop delay in ns (R405) -/
def execCrlTestDone (dt : Nat) (ok : Bool) (loop : Nat) (s : State) : Host.Outcome State Fault Refusal :=
  done s (crlTestDone ok loop (pass dt s))

end Sys2Proof.Machine
end

