-- ==== Sys2Proof/Machine/CmdFlt.lean ====
section
/-! DEFINITION. The commands of fault collection (R453 to R476): forced faults, block resets and their windows, the quiet period,
check-bit tests, sticky bits, parity errors. -/

namespace Sys2Proof.Machine
open Sys2Proof.Reg

/-- a write of FORCEk (R471) -/
def execFaultForce (dt k al data : Nat) (s : State) : Host.Outcome State Fault Refusal :=
  done s (whenB (k < 3) (writeReg (0x200028 + 4 * k) al data) (pass dt s))

/-- the reset of block b ends (R473) -/
def execBlockResetEnd (b : Nat) (s : State) : Host.Outcome State Fault Refusal := done s (whenB (b < 16) (blockResetEnd b) s)

/-- the settle window of block b ends (R466) -/
def execSettleWindowEnd (b : Nat) (s : State) : Host.Outcome State Fault Refusal := done s (whenB (b < 16) (settleWindowEnd b) s)

/-- QLEFT reaches 0 (R462) -/
def execQuietExpiry (s : State) : Host.Outcome State Fault Refusal := done s (quietExpiry s)

/-- a write of CHKTEST (R472) -/
def execChktest (dt al data : Nat) (s : State) : Host.Outcome State Fault Refusal := done s (writeReg 0x200058 al data (pass dt s))

/-- the two cycles of a check-bit test end; fired: the checker raised (R472) -/
def execCheckBitTestEnd (fired : Bool) (s : State) : Host.Outcome State Fault Refusal := done s (chkTestEnd fired s)

/-- a write of STKk, or of CSTK(k - 3) (R474) -/
def execStickyClearWrite (dt k al data : Nat) (s : State) : Host.Outcome State Fault Refusal :=
  done s (whenB (k < 6) (writeReg (0x200010 + 4 * k) al data) (pass dt s))

/-- a write of RINST (R474) -/
def execRinstWrite (dt al data : Nat) (s : State) : Host.Outcome State Fault Refusal := done s (writeReg 0x20003C al data (pass dt s))

/-- a parity, ECC or state check fails (R456): the source of the check, instance or key slot j, whether a stored word of the
collector's protected state is corrupt (R468); one: a single bit, which the code of the MRAM corrects (R409) -/
def execParityError (dt src j : Nat) (stored one : Bool) (s : State) : Host.Outcome State Fault Refusal :=
  done s (if src = 84 && one then eccCorrected (pass dt s) else parityError src (j % 32) stored (pass dt s))

end Sys2Proof.Machine
end

