-- ==== Sys2Proof/Machine/CmdGen.lean ====
section
/-! DEFINITION. The commands of modes and isolation (R43 to R60), clocks and the oven (R22 to R27, R106 to R109), supplies and resets (R477
to R494). -/

namespace Sys2Proof.Machine
open Sys2Proof.Reg

/-! ### Modes and isolation -/

/-- a write of GEN.MODE (R46) -/
def execGenModeWrite (dt al data : Nat) (s : State) : Host.Outcome State Fault Refusal := done s (writeReg 0x8 al data (pass dt s))

/-- the mode sequence in hand completes (R46) -/
def execModeSequenceDone (dt : Nat) (s : State) : Host.Outcome State Fault Refusal := done s (modeDone (pass dt s))

/-- a write of GEN.ISOLATE (R55) -/
def execGenIsolateWrite (dt al data : Nat) (s : State) : Host.Outcome State Fault Refusal := done s (writeReg 0x10 al data (pass dt s))

/-- block b reaches its isolated state (R55) -/
def execIsolationDone (dt b : Nat) (s : State) : Host.Outcome State Fault Refusal := done s (isoDone b (pass dt s))

/-- block b completes its release (R55) -/
def execReleaseDone (dt b : Nat) (s : State) : Host.Outcome State Fault Refusal := done s (releaseDone b (pass dt s))

/-- a write of 1 to GEN.LOCK.SE_LOCK (R511) -/
def execSeLockWrite (dt : Nat) (s : State) : Host.Outcome State Fault Refusal := done s (writeReg 0x24 0 1 (pass dt s))

/-! ### Clocks and the oven -/

/-- a presence window of 12 RCLK cycles ends with its count of SYSCLK_IN edges (R107) -/
def execSysclkPresenceWindow (dt edges : Nat) (s : State) : Host.Outcome State Fault Refusal := done s (presWindow edges (pass dt s))

/-- the frame of the relocked core synthesiser is aligned (R225) -/
def execCoreAlignDone (dt : Nat) (s : State) : Host.Outcome State Fault Refusal := done s (coreAligned (pass dt s))

/-- an interval of 1024 RCLK cycles ends after n core cycles (R27) -/
def execRclkMeasurementEnd (n : Nat) (s : State) : Host.Outcome State Fault Refusal := done s (rclkInterval n s)

/-- OCXO_RDY rises (R108) -/
def execOcxoRdyRise (dt : Nat) (s : State) : Host.Outcome State Fault Refusal := done s (whenB (!ballOff s ocxoBall) ovenRise (pass dt s))

/-- OCXO_RDY falls (R108) -/
def execOcxoRdyFall (dt : Nat) (s : State) : Host.Outcome State Fault Refusal := done s (ovenFall (pass dt s))

/-- OCXO_RDY has held 1 for 1 s (R108) -/
def execWarmupEnd (s : State) : Host.Outcome State Fault Refusal := done s (warmNormal s)

/-- ELAPSED reaches WARM_MAX (R108) -/
def execWarmupTimeout (s : State) : Host.Outcome State Fault Refusal := done s (warmLimit s)

/-- a write of REF.SYSCLK.WARM_MAX (R109) -/
def execWarmMaxWrite (dt al data : Nat) (s : State) : Host.Outcome State Fault Refusal := done s (writeReg 0x400330 al data (pass dt s))

/-! ### Supplies and resets -/

/-- the detector of rail i reads mv mV, below its falling threshold or not (R477, R489) -/
def execRailFall (dt i mv : Nat) (s : State) : Host.Outcome State Fault Refusal := done s (whenB (mv < fallMv i) (railFall i mv) (pass dt s))

/-- a rail's detector reads it above its rising threshold or not (R489) -/
def execRailRise (dt : Nat) (x : RailAt) (s : State) : Host.Outcome State Fault Refusal :=
  done s (whenB (riseMv x.rail < x.mv) (railRise x.rail) (pass dt s))

/-- the power-on delay ends (R477) -/
def execPorDelayEnd (s : State) : Host.Outcome State Fault Refusal := done s (porDone s)

/-- RESET_N reads low at the n-th RCLK edge in a row: recognised from the fourth on (R484) -/
def execResetNLow (x : LevelFor) (s : State) : Host.Outcome State Fault Refusal := done s (whenB (4 ≤ x.n) resetNLow (pass x.dt s))

/-- RESET_N reads high at the n-th RCLK edge in a row: recognised from the fourth on (R484) -/
def execResetNHigh (x : LevelFor) (s : State) : Host.Outcome State Fault Refusal := done s (whenB (4 ≤ x.n) resetNHigh (pass x.dt s))

/-- the FLT chip-reset pulse ends (R477) -/
def execFltChipResetEnd (s : State) : Host.Outcome State Fault Refusal := done s (fltResetEnd s)

/-- the hold step of a reset level completes (R482) -/
def execResetHoldDone (s : State) : Host.Outcome State Fault Refusal := done s (rstHoldDone s)

/-- the sequencer releases the device (R482): three samples of the straps (bits 1-0 BOOT, 3-2 CLKMODE, 4 HOSTSEL), fuse bits that one sensing
pass read wrong, whether a Wilmir field still differs, the banks in mV -/
def execResetRelease (s1 s2 s3 d1 : Nat) (bad : Bool) (banks : List Nat) (s : State) : Host.Outcome State Fault Refusal :=
  done s (rstRelease (strapMajority s1 s2 s3) d1 bad banks s)

/-- loss of the main supply and of VBAT (R255, R259, R492) -/
def execSupplyAndVbatLoss (dt : Nat) (s : State) : Host.Outcome State Fault Refusal := done s (vbatLoss (pass dt s))

/-- the crystal oscillator starts (R253) -/
def execBackupOscillatorStart (dt : Nat) (s : State) : Host.Outcome State Fault Refusal := done s (oscStart (pass dt s))

/-- sixteen crystal cycles are missing (R253) -/
def execRtcOscFail (dt : Nat) (s : State) : Host.Outcome State Fault Refusal := done s (oscFail (pass dt s))

/-- VBAT is read, below 1.9 V or not (R255) -/
def execVbatLow (x : SupplyAt) (s : State) : Host.Outcome State Fault Refusal := done s (whenB (x.mv < 1900) vbatFall (pass x.dt s))

end Sys2Proof.Machine
end

