-- ==== Sys2Proof/Machine/CmdHost.lean ====
section
/-! DEFINITION. The commands of the host port and of the always-on batches: register accesses (R495 to R513), Quad-SPI frames (R515 to
R519), parallel strobes (R520 to R522), landings and refreshes (R6, R509). -/

namespace Sys2Proof.Machine
open Sys2Proof.Reg

/-- a host write of n bytes (R499 to R513) -/
def execRegisterWrite (dt addr n data : Nat) (s : State) : Host.Outcome State Fault Refusal := done s (writeOne addr n data (pass dt s))

/-- a host read of n bytes: RC fields in the bytes read clear (R6) -/
def execReadClear (dt addr n : Nat) (s : State) : Host.Outcome State Fault Refusal := done s (readOne addr n (pass dt s))

/-- a read of a high word loads the hold (R507) -/
def execHighWordRead (dt addr : Nat) (s : State) : Host.Outcome State Fault Refusal := done s (readOne (addr / 4 * 4) 4 (pass dt s))

/-- a read of STATg_SSTAT loads the statistics hold (R157) -/
def execSstatRead (dt g : Nat) (s : State) : Host.Outcome State Fault Refusal := done s (readOne (0x500728 + 64 * (g % 3)) 4 (pass dt s))

/-- a WRITE frame (R515, R517, R519) -/
def execQspiWrite (dt addr : Nat) (bytes : List Byte) (s : State) : Host.Outcome State Fault Refusal :=
  done s (whenB (qspiOn s) (qspiWrite false addr bytes) (pass dt s))

/-- a WRITE_FIXED frame -/
def execQspiWriteFixed (dt addr : Nat) (bytes : List Byte) (s : State) : Host.Outcome State Fault Refusal :=
  done s (whenB (qspiOn s) (qspiWrite true addr bytes) (pass dt s))

/-- a WRITE8 frame -/
def execQspiWrite8 (dt addr : Nat) (bytes : List Byte) (s : State) : Host.Outcome State Fault Refusal :=
  done s (whenB (qspiOn s) (qspiItem 1 addr bytes) (pass dt s))

/-- a WRITE16 frame -/
def execQspiWrite16 (dt addr : Nat) (bytes : List Byte) (s : State) : Host.Outcome State Fault Refusal :=
  done s (whenB (qspiOn s) (qspiItem 2 addr bytes) (pass dt s))

/-- a READ frame of n words (R516) -/
def execQspiRead (dt addr n : Nat) (s : State) : Host.Outcome State Fault Refusal := done s (whenB (qspiOn s) (qspiRead false addr n) (pass dt s))

/-- a READ_FIXED frame of n words -/
def execQspiReadFixed (dt addr n : Nat) (s : State) : Host.Outcome State Fault Refusal := done s (whenB (qspiOn s) (qspiRead true addr n) (pass dt s))

/-- a READ8 frame -/
def execQspiRead8 (dt addr : Nat) (s : State) : Host.Outcome State Fault Refusal := done s (whenB (qspiOn s) (readOne addr 1) (pass dt s))

/-- a READ16 frame -/
def execQspiRead16 (dt addr : Nat) (s : State) : Host.Outcome State Fault Refusal := done s (whenB (qspiOn s) (readOne addr 2) (pass dt s))

/-- a STATUS frame (R515) -/
def execQspiStatus (dt : Nat) (s : State) : Host.Outcome State Fault Refusal := done s (whenB (qspiOn s) qspiStatus (pass dt s))

/-- the oldest posted write is carried out (R517) -/
def execPostedWriteExecute (dt : Nat) (s : State) : Host.Outcome State Fault Refusal := done s (postedOne (pass dt s))

/-- a frame with a command that is not listed, or one that ends before its address is complete (R519); the address a capture shows is then open -/
def execQspiFrameError (dt : Nat) (s : State) : Host.Outcome State Fault Refusal :=
  done s (whenB (qspiOn s) (fun s => protocolError (fresh s).1 (fresh s).2) (pass dt s))

/-- a read strobe of the parallel port (R521, R522) -/
def execParallelRead (dt addr be : Nat) (both : Bool) (s : State) : Host.Outcome State Fault Refusal :=
  done s (whenB (parOn s) (parRead addr be both) (pass dt s))

/-- a write strobe of the parallel port (R521, R522) -/
def execParallelWrite (dt addr be : Nat) (both : Bool) (data : Nat) (s : State) : Host.Outcome State Fault Refusal :=
  done s (whenB (parOn s) (parWrite addr be both data) (pass dt s))

/-- a staged half waited 10 µs (R522) -/
def execHalfWordPairTimeout (s : State) : Host.Outcome State Fault Refusal := done s (pairTimeout s)

/-- the batch in flight of a group lands (R509): 0 the backup clock, 1 RST.CAUSE; pass 2 goes on where it waited for it (R68) -/
def execRwsBatchLand (g : Nat) (s : State) : Host.Outcome State Fault Refusal := done s (workNow (rwsLand (g % 2) s))

/-- the next edge of the 32.768 kHz clock refreshes the copies (R6) -/
def execAlwaysOnRefresh (s : State) : Host.Outcome State Fault Refusal := done s (refreshNext s)

/-- no command waits: one core cycle passes (log entry 1) -/
def idle (s : State) : Host.Outcome State Fault Refusal := done s (pass cycU s)

end Sys2Proof.Machine
end

