-- ==== Sys2Proof/Machine/CmdImg.lean ====
section
/-! DEFINITION. The commands of the configuration image: boot, passes, downloads, partial reload (R80 to R93). -/

namespace Sys2Proof.Machine
open Sys2Proof.Reg

/-- boot starts once R24 and SEC READY allow it (R84) -/
def execImgBootStart (dt : Nat) (s : State) : Host.Outcome State Fault Refusal := done s (bootStart (pass dt s))

/-- the flash candidate, given by its bytes, stands in the spare bank (R80) -/
def execFlashReadDone (dt : Nat) (bytes : List Byte) (s : State) : Host.Outcome State Fault Refusal := done s (flashDone bytes (pass dt s))

/-- pass 1 ends (R81) -/
def execPass1Done (dt : Nat) (s : State) : Host.Outcome State Fault Refusal := done s (pass1Done (pass dt s))

/-- pass 2 ends (R82) -/
def execPass2Done (dt : Nat) (s : State) : Host.Outcome State Fault Refusal := done s (pass2Done (pass dt s))

/-- a command of IMG.CTRL (R90): the key in the high half, its bit below -/
def imgCtrlWrite (v : Nat) (s : State) : State := writeReg 0x300004 0 (0x5A000000 + v) s

/-- IMG.CTRL.DL_START -/
def execDlStart (dt : Nat) (s : State) : Host.Outcome State Fault Refusal := done s (imgCtrlWrite 2 (pass dt s))

/-- a word of IMG.DLDATA (R80) -/
def execDldataWrite (dt data : Nat) (s : State) : Host.Outcome State Fault Refusal := done s (writeReg 0x30000C 0 data (pass dt s))

/-- IMG.CTRL.DL_DONE -/
def execDlDone (dt : Nat) (s : State) : Host.Outcome State Fault Refusal := done s (imgCtrlWrite 4 (pass dt s))

/-- IMG.CTRL.DL_ABORT -/
def execDlAbort (dt : Nat) (s : State) : Host.Outcome State Fault Refusal := done s (imgCtrlWrite 8 (pass dt s))

/-- verification of an in-service download ends (R88) -/
def execDlVerifyDone (dt : Nat) (s : State) : Host.Outcome State Fault Refusal := done s (dlVerifyDone (pass dt s))

/-- IMG.CTRL.COMMIT -/
def execImgCommit (dt : Nat) (s : State) : Host.Outcome State Fault Refusal := done s (imgCtrlWrite 16 (pass dt s))

/-- IMG.CTRL.PR_START -/
def execPrStart (dt : Nat) (s : State) : Host.Outcome State Fault Refusal := done s (imgCtrlWrite 32 (pass dt s))

/-- IMG.CTRL.PR_ABORT -/
def execPrAbort (dt : Nat) (s : State) : Host.Outcome State Fault Refusal := done s (imgCtrlWrite 64 (pass dt s))

/-- pass 1 of a partial image ends (R87) -/
def execPrVerifyDone (dt : Nat) (s : State) : Host.Outcome State Fault Refusal := done s (prVerifyDone (pass dt s))

/-- the commit cycle of a partial reload (R87) -/
def execPrCommitCycle (dt : Nat) (s : State) : Host.Outcome State Fault Refusal := done s (prCommit (pass dt s))

/-- IMG.CTRL.ROLLFWD -/
def execRollfwd (dt : Nat) (s : State) : Host.Outcome State Fault Refusal := done s (imgCtrlWrite 128 (pass dt s))

/-- a write of 1 to IMG.LOCK.LOCK (R92) -/
def execImgLockWrite (dt : Nat) (s : State) : Host.Outcome State Fault Refusal := done s (writeReg 0x300014 0 1 (pass dt s))

end Sys2Proof.Machine
end

