-- ==== Sys2Proof/Machine/CmdMns.lean ====
section
/-! DEFINITION. The commands of the mains phase engine and of the astronomical block (R263 to R304). -/

namespace Sys2Proof.Machine
open Sys2Proof.Reg

/-! ### Mains phase (R263 to R288) -/

/-- a 40 µs update of the six channels and of grid time; g joins the learning buckets (R201, R266) -/
def execMainsUpdate (xs : List Int) (s : State) : Host.Outcome State Fault Refusal :=
  done s (whenB (s.tkp.run && !seqHeld s) (fun s => forEach (List.range 8) bucketG (mnsUpdate xs s)) s)

/-- DROP_MAX cycles pass in DROPOUT (R270) -/
def execDropoutExpiry (n : Nat) (s : State) : Host.Outcome State Fault Refusal := done s (whenB (n < 6) (dropExpiry n) s)

/-- a nominal cycle passes after the last clipped sample (R264) -/
def execClipClear (n : Nat) (s : State) : Host.Outcome State Fault Refusal := done s (whenB (n < 6) (clipClear n) s)

/-- the predicted crossing of channel n arrives (R275) -/
def execZcPulse (n : Nat) (s : State) : Host.Outcome State Fault Refusal := done s (whenB (n < 6) (zcPulse n) s)

/-- the phase sequence of group g is classified (R277) -/
def execSequenceCheck (dt g : Nat) (s : State) : Host.Outcome State Fault Refusal :=
  done s (whenB (g < 2 && live s 9) (sequenceCheck g) (pass dt s))

/-- a bit of MNS.CTL -/
def mnsCtlWrite (v : Nat) (s : State) : State := writeReg 0x900124 0 v s

/-- CTL.SNAP (R283) -/
def execMnsSnap (dt : Nat) (s : State) : Host.Outcome State Fault Refusal := done s (mnsCtlWrite 1 (pass dt s))

/-- CTL.POP_ZQ (R276) -/
def execPopZq (dt : Nat) (s : State) : Host.Outcome State Fault Refusal := done s (mnsCtlWrite 2 (pass dt s))

/-- CTL.FLUSH_ZQ (R276) -/
def execFlushZq (dt : Nat) (s : State) : Host.Outcome State Fault Refusal := done s (mnsCtlWrite 4 (pass dt s))

/-- CTL.GT_ALIGN (R279) -/
def execGtAlign (dt : Nat) (s : State) : Host.Outcome State Fault Refusal := done s (mnsCtlWrite 8 (pass dt s))

/-- a write of GT_CFG (R280) -/
def execGtCfgWrite (dt al data : Nat) (s : State) : Host.Outcome State Fault Refusal := done s (writeReg 0x900108 al data (pass dt s))

/-- a write of GCFG (R265) -/
def execGridFWrite (dt al data : Nat) (s : State) : Host.Outcome State Fault Refusal := done s (writeReg 0x900100 al data (pass dt s))

/-- a write of MNS.TEST (R287) -/
def execMnsTestGo (dt al data : Nat) (s : State) : Host.Outcome State Fault Refusal := done s (writeReg 0x900154 al data (pass dt s))

/-- the modulator test ends with its mean sample (R287) -/
def execMnsTestDone (mean : Int) (s : State) : Host.Outcome State Fault Refusal := done s (mnsTestDone mean s)

/-! ### Astronomical block (R289 to R304) -/

/-- a write of register r (word offset, LAT to THR3) (R297) -/
def execAstSiteWrite (dt r al data : Nat) (s : State) : Host.Outcome State Fault Refusal :=
  done s (whenB (r < 8) (writeReg (0xA00000 + 4 * r) al data) (pass dt s))

/-- CTL.RECALC (R297) -/
def execRecalc (dt : Nat) (s : State) : Host.Outcome State Fault Refusal := done s (writeReg 0xA00020 0 1 (pass dt s))

/-- the computation in hand completes (R297) -/
def execAstComputeDone (dt : Nat) (s : State) : Host.Outcome State Fault Refusal := done s (astDone (pass dt s))

/-- the local civil midnight that ends the date of day 0 (R298) -/
def astMidnight (s : State) : State :=
  if astRolls s then astRoll (advanceTo (whenTod s (taiOfLocal s (dayOf s 0 + 1) 0 * secT)) s) else s

/-- local civil midnight (R298) -/
def execAstMidnight (s : State) : Host.Outcome State Fault Refusal := done s (astMidnight s)

/-- a write of AST.TEST (R303) -/
def execAstTestGo (dt al data : Nat) (s : State) : Host.Outcome State Fault Refusal := done s (writeReg 0xA00030 al data (pass dt s))

/-- the vector test ends with the first failing vector, if any (R303) -/
def execAstTestDone (dt : Nat) (bad : Option Nat) (s : State) : Host.Outcome State Fault Refusal := done s (astTestDone bad (pass dt s))

end Sys2Proof.Machine
end

