-- ==== Sys2Proof/Machine/CmdNvm.lean ====
section
/-! DEFINITION. The commands of the non-volatile store (R409 to R427) and of the power-fail warning (R491). -/

namespace Sys2Proof.Machine
open Sys2Proof.Reg

/-- the warning rises (R419, R491): PF_WARN, the event, source 3, a fuse program stopped after its present bit (R452), the save and the
shedding that CFG asks for -/
def pfWarn (s : State) : State :=
  if on s NVM_STAT_PF_WARN || s.rst.por then s
  else
    let s := fuseTear (raise 3 none (s |> put NVM_STAT_PF_WARN 1 |> put NVM_EVT_PF 1))
    let s := if on s NVM_CFG_PF_EN then saveWith 1 s else s
    if on s NVM_CFG_SHED then forEach (List.range 6) linkFall s else s

/-- VMAIN_SENSE has read at most a level for a time: below 1.200 V for 2 µs it warns (R491) -/
def execPowerFailWarning (x : SupplyFor) (s : State) : Host.Outcome State Fault Refusal :=
  done s (whenB (x.mv < 1200 && decide (2000 ≤ x.ns)) pfWarn (pass x.dt s))

/-- VMAIN_SENSE has read at least a level for a time: above 1.240 V for 1 ms the warning falls (R491) -/
def execPowerFailClear (x : SupplyFor) (s : State) : Host.Outcome State Fault Refusal :=
  done s (whenB (1240 < x.mv && decide (1000000 ≤ x.ns)) (put NVM_STAT_PF_WARN 0) (pass x.dt s))

/-- the next whole multiple of 2^PERIOD s since the release of the last L0 (R417) -/
def periodAt (s : State) : Nat :=
  let p := 2 ^ rd s NVM_CFG_PERIOD * secU
  let e := s.now - s.nvm.l0At
  s.nvm.l0At + (if e % p = 0 && p ≤ e && s.nvm.perAt != s.now then e / p else e / p + 1) * p

/-- a periodic save falls due (R417) -/
def periodSave (s : State) : State :=
  if rd s NVM_CFG_PERIOD = 0 || inSequence s then s
  else
    let s := advanceTo (periodAt s) s
    saveWith 2 (modNvm (fun n => { n with perAt := s.now }) s)

/-- a whole multiple of 2^PERIOD s arrives (R417) -/
def execPeriodicSave (s : State) : Host.Outcome State Fault Refusal := done s (periodSave s)

/-- a write of NVM.CTL -/
def nvmCtlWrite (v : Nat) (s : State) : State := writeReg 0xE0000C 0 v s

/-- CTL.SAVE (R417) -/
def execSaveCmd (dt : Nat) (s : State) : Host.Outcome State Fault Refusal := done s (nvmCtlWrite 1 (pass dt s))

/-- the running save ends (R418), or fails its verify twice (R411); a reset that waited for it goes on (R482) -/
def execSaveDone (dt : Nat) (ok : Bool) (s : State) : Host.Outcome State Fault Refusal :=
  done s (rstSaved ((if ok then saveDone else saveFailed) (pass dt s)))

/-- a page program ends with its verify (R411) -/
def execPageProgramDone (dt : Nat) (ok : Bool) (s : State) : Host.Outcome State Fault Refusal := done s (pageDone ok (pass dt s))

/-- a requester offers its item again (R413) -/
def execWriteBackOffer (dt : Nat) (s : State) : Host.Outcome State Fault Refusal := done s (wbOfferAgain (pass dt s))

/-- CTL.PB_PROG (R412) -/
def execPbProg (dt : Nat) (s : State) : Host.Outcome State Fault Refusal := done s (nvmCtlWrite 2 (pass dt s))

/-- CTL.PB_CLR (R424) -/
def execPbClr (dt : Nat) (s : State) : Host.Outcome State Fault Refusal := done s (nvmCtlWrite 4 (pass dt s))

/-- the transmit counts of every franking pair resume 2^16 above their saved values (R393) -/
def fcntResume (s : State) : State :=
  forEach (List.range 128) (fun i s => putCram64 (cramFcnt + 4 * i) ((cram64 s (cramFcnt + 4 * i) + 2 ^ 16) % 2 ^ 64) s) s

/-- what the counter RAM gives its owners (R282, R393, R420); SCH reads its own in the recovery pass (R323) -/
def ownersRestore (s : State) : State :=
  let s := put FLT_RECOV_COUNT (cram s cramRecovery % 65536) s
  if on s NVM_STAT_RESTORED then fcntResume (gridRestore s) else s

/-- after L0 the ring is read, the counter RAM loaded; the form record and the drift model are read (R198, R420, R421, R487) -/
def cramRestore (s : State) : State :=
  if s.nvm.loaded || inSequence s || !on s GEN_CLKSTAT_CORE_LOCK then s
  else
    let s := formRead (ownersRestore (ringRestore s))
    modNvm (fun n => { n with loaded := true }) (forEach (List.range 8) learnRestore s)

/-- the eight ring slots have been read (R420) -/
def execCounterRamRestore (dt : Nat) (s : State) : Host.Outcome State Fault Refusal := done s (cramRestore (pass dt s))

/-- a write of NVM.TEST (R426) -/
def execNvmTestGo (dt al data : Nat) (s : State) : Host.Outcome State Fault Refusal := done s (writeReg 0xE00020 al data (pass dt s))

/-- the march test ends with the first failing page, if any (R426) -/
def execNvmTestDone (dt : Nat) (bad : Option Nat) (s : State) : Host.Outcome State Fault Refusal := done s (nvmTestDone bad (pass dt s))

end Sys2Proof.Machine
end

