-- ==== Sys2Proof/Machine/CmdPmu.lean ====
section
/-! DEFINITION. The commands of the postmark units (R128 to R163). -/

namespace Sys2Proof.Machine
open Sys2Proof.Reg

/-- edges at the inputs of unit b within one reorder window of 8 PMCLK periods (R128 to R130, R138, R139, R145, R149) -/
def execEdgeCapture (dt b : Nat) (starts stops : List InEdge) (s : State) : Host.Outcome State Fault Refusal :=
  done s (whenB (b < 12) (unitEdges b (starts.map (fun e => (false, e)) ++ stops.map (fun e => (true, e)))) (pass dt s))

/-- when unit b's ordered captures have passed position p (R138) -/
def orderedTime (s : State) (p : Nat) : Nat := posTime s p + 8 * pmU

/-- the window of unit b's open start ends (R145) -/
def pairTimeoutAt (b : Nat) (s : State) : State :=
  match (ix s.unit b).pair with
  | .open_ p _ _ => openTimeout b (advanceTo (orderedTime s p + (wPost s b).toNat) s)
  | _ => s

/-- W_post passes without a stop (R145) -/
def execPairTimeout (b : Nat) (s : State) : Host.Outcome State Fault Refusal := done s (whenB (b < 12) (pairTimeoutAt b) s)

/-- the window of unit b's pending stop ends (R145) -/
def earlyStopAt (b : Nat) (s : State) : State :=
  match (ix s.unit b).pair with
  | .pend p _ _ => pendEarly b (advanceTo (orderedTime s p + (wPre s b).toNat) s)
  | _ => s

/-- W_pre passes without a start (R145) -/
def execEarlyStopExpiry (b : Nat) (s : State) : Host.Outcome State Fault Refusal := done s (whenB (b < 12) (earlyStopAt b) s)

/-- twice the gate of unit b has passed since its first edge (R149) -/
def nosigAt (b : Nat) (s : State) : State :=
  match (ix s.unit b).gate with
  | some g => gateEnd b true g (gateNow s b) (advanceTo (orderedTime s g.u0 + 2 * rd s (PMU_PMn_GATE_GATE b) * msU) s)
  | none => s

/-- the gate ends with NOSIG (R149) -/
def execGateNosigTimeout (b : Nat) (s : State) : Host.Outcome State Fault Refusal := done s (whenB (b < 12) (nosigAt b) s)

/-- a check of slice n's delay line finds the replica e taps from 512 (R132) -/
def execLoopCheck (dt n : Nat) (e : Int) (s : State) : Host.Outcome State Fault Refusal := done s (whenB (n < 12) (loopCheck n e) (pass dt s))

/-- the histogram of slice n is complete (R133) -/
def execTableReplace (dt n : Nat) (hist : List Nat) (s : State) : Host.Outcome State Fault Refusal :=
  done s (whenB (n < 12) (tableReplace n hist) (pass dt s))

/-- TABLE_AGE of slice n first exceeds AGE_MAX (R135, R160) -/
def tableAges (n : Nat) (s : State) : State :=
  let m := rd s PMU_CALCFG_AGE_MAX
  match (ix s.slice n).tabAt with
  | none => s
  | some t =>
    if m = 0 || (ix s.slice n).stale then s
    else
      let s := advanceTo (t + (m * 1000 + 1) * msU) s
      if sliceEnabled s n then raise 16 (some n) (modSlice n (fun x => { x with stale := true }) s) else s

/-- TABLE_AGE exceeds AGE_MAX (R135) -/
def execTableAgeExpiry (n : Nat) (s : State) : Host.Outcome State Fault Refusal := done s (whenB (n < 12) (tableAges n) s)

/-- CALCTL.SKEW_RUN (R134) -/
def execSkewRun (dt : Nat) (s : State) : Host.Outcome State Fault Refusal := done s (writeReg 0x500604 0 1 (pass dt s))

/-- 4096 common edges came on every slice; sums are Σ(u_n - u_0) by slice (R134) -/
def execSkewRunDone (dt : Nat) (sums : List Int) (s : State) : Host.Outcome State Fault Refusal :=
  done s (whenB s.pmu.skewEnd.isSome (skewDone sums) (pass dt s))

/-- 10 ms of a skew run have passed (R134) -/
def skewLate (s : State) : State :=
  match s.pmu.skewEnd with
  | some t => skewFail (advanceTo t s)
  | none => s

/-- a skew run fails after 10 ms (R134) -/
def execSkewRunTimeout (s : State) : Host.Outcome State Fault Refusal := done s (skewLate s)

/-- CALCTL.REBUILD (R158) -/
def execRebuildCmd (dt : Nat) (s : State) : Host.Outcome State Fault Refusal := done s (writeReg 0x500604 0 2 (pass dt s))

/-- a bit of unit b's CTL (R154) -/
def pmuCtlWrite (b v : Nat) (s : State) : State := whenB (b < 12) (writeReg (0x500018 + 128 * b) 0 v) s

/-- CTL.POP_SQ -/
def execPmuPopSq (dt b : Nat) (s : State) : Host.Outcome State Fault Refusal := done s (pmuCtlWrite b 8 (pass dt s))

/-- CTL.POP_RQ -/
def execPmuPopRq (dt b : Nat) (s : State) : Host.Outcome State Fault Refusal := done s (pmuCtlWrite b 16 (pass dt s))

/-- CTL.FLUSH_SQ -/
def execPmuFlushSq (dt b : Nat) (s : State) : Host.Outcome State Fault Refusal := done s (pmuCtlWrite b 2 (pass dt s))

/-- CTL.FLUSH_RQ -/
def execPmuFlushRq (dt b : Nat) (s : State) : Host.Outcome State Fault Refusal := done s (pmuCtlWrite b 4 (pass dt s))

/-- CTL.RESTART (R141) -/
def execUnitRestart (dt b : Nat) (s : State) : Host.Outcome State Fault Refusal := done s (pmuCtlWrite b 1 (pass dt s))

/-- a write of register r (word offset, CFG to NOM_HI) of unit b (R141) -/
def execUnitConfigWrite (dt b r al data : Nat) (s : State) : Host.Outcome State Fault Refusal :=
  done s (whenB (b < 12 && r < 6) (writeReg (0x500000 + 128 * b + 4 * r) al data) (pass dt s))

/-- a test pair in hand is measured at taps cs and cp (R162) -/
def testPairRun (cs cp : Nat) (s : State) : State :=
  if on s PMU_TEST_GO then put PMU_TEST_GO 0 (testPair (rd s PMU_TEST_UNIT) (rd s PMU_TEST_SEP) cs cp s) else s

/-- a write of PMU.TEST and the pair it starts, captured at taps cs and cp (R162) -/
def execTestPair (dt al data cs cp : Nat) (s : State) : Host.Outcome State Fault Refusal :=
  done s (testPairRun cs cp (writeReg 0x500610 al data (pass dt s)))

end Sys2Proof.Machine
end

