-- ==== Sys2Proof/Machine/CmdPtp.lean ====
section
/-! DEFINITION. The commands of packet timing (R338 to R372): frames and messages received, the timers of the ports, egress, links,
SyncE, the table operations. -/

namespace Sys2Proof.Machine
open Sys2Proof.Reg

/-- f on port p, where there is such a port -/
def onPort (p : Nat) (f : State → State) (s : State) : State := whenB (p < 6) f s

/-! ### Received frames -/

/-- the timestamp of a received frame of the EtherType captured (R346) -/
def stampEt (p : Nat) (h : FrameHdr) (s : State) : State :=
  if on s (PTP_Pp_TSQCFG_CAP_ET p) && h.etype == rd s (PTP_Pp_TSQCFG_ETYPE p) then
    portTsPush p (rxTime s p).toNat (0x100 + 2 * p) (unlockFlag s ||| 64) s
  else s

/-- a frame that is no PTP message: stamped where captured, then learned and forwarded (R341, R346) -/
def frameIn (p : Nat) (h : FrameHdr) (s : State) : State := if rxOk s p h then forward p h (fun _ => {}) (stampEt p h s) else s

/-- a frame received at port p (R341) -/
def execFrameReceive (dt p : Nat) (h : FrameHdr) (s : State) : Host.Outcome State Fault Refusal :=
  done s (onPort p (frameIn p h) (pass dt s))

/-- a Sync with its origin time (R352) -/
def execSyncReceive (dt p : Nat) (m : PtpMsg) (t1 : Int) (s : State) : Host.Outcome State Fault Refusal :=
  done s (onPort p (ptpRx p 1 m (syncRx p m t1)) (pass dt s))

/-- a Follow_Up with its precise origin time (R351) -/
def execFollowUpReceive (dt p : Nat) (m : PtpMsg) (t1 : Int) (s : State) : Host.Outcome State Fault Refusal :=
  done s (onPort p (ptpRx p 9 m (followRx p m t1)) (pass dt s))

/-- a Delay_Req (R357) -/
def execDelayReqReceive (dt p : Nat) (m : PtpMsg) (s : State) : Host.Outcome State Fault Refusal :=
  done s (onPort p (ptpRx p 2 m (delayReqRx p m)) (pass dt s))

/-- a Delay_Resp with its receive time and the requesting port (R351) -/
def execDelayRespReceive (dt p : Nat) (m : PtpMsg) (t4 : Int) (reqId reqPort : Nat) (s : State) : Host.Outcome State Fault Refusal :=
  done s (onPort p (ptpRx p 10 m (delayRespRx p m t4 reqId reqPort)) (pass dt s))

/-- an Announce (R350) -/
def execAnnounceReceive (dt p : Nat) (m : PtpMsg) (a : AnnData) (s : State) : Host.Outcome State Fault Refusal :=
  done s (onPort p (ptpRx p 12 m (announceRx p m a)) (pass dt s))

/-- a Pdelay_Req (R357) -/
def execPdelayReqReceive (dt p : Nat) (m : PtpMsg) (s : State) : Host.Outcome State Fault Refusal :=
  done s (onPort p (ptpRx p 3 m (pdelayReqRx p m)) (pass dt s))

/-- a Pdelay_Resp with its request receipt time (R351) -/
def execPdelayRespReceive (dt p : Nat) (m : PtpMsg) (t2 : Int) (reqId reqPort : Nat) (s : State) : Host.Outcome State Fault Refusal :=
  done s (onPort p (ptpRx p 4 m (pdelayRespRx p m t2 reqId reqPort)) (pass dt s))

/-- a Pdelay_Resp_Follow_Up with its response origin time (R351) -/
def execPdelayRespFollowUpReceive (dt p : Nat) (m : PtpMsg) (t3 : Int) (reqId reqPort : Nat) (s : State) :
    Host.Outcome State Fault Refusal :=
  done s (onPort p (ptpRx p 11 m (pdelayFupRx p m t3 reqId reqPort)) (pass dt s))

/-! ### Timers -/

/-- the Sync interval of port p ends (R357) -/
def execSyncInterval (p : Nat) (s : State) : Host.Outcome State Fault Refusal := done s (onPort p (syncDue p) s)

/-- an announce interval of port p ends (R350) -/
def execAnnounceInterval (p : Nat) (s : State) : Host.Outcome State Fault Refusal := done s (onPort p (annDue p) s)

/-- the delay-request interval of port p ends (R351) -/
def execDelayReqInterval (p : Nat) (s : State) : Host.Outcome State Fault Refusal := done s (onPort p (delayDue p) s)

/-- the announce receipt timeout of port p (R349) -/
def execAnnounceReceiptTimeout (p : Nat) (s : State) : Host.Outcome State Fault Refusal := done s (onPort p (annTimeout p) s)

/-- the qualification timeout of port p (R349) -/
def execQualificationTimeout (p : Nat) (s : State) : Host.Outcome State Fault Refusal := done s (onPort p (qualTimeout p) s)

/-- the oldest correction that waits for its Follow_Up reaches 1 s (R358) -/
def execFollowUpHoldExpiry (s : State) : Host.Outcome State Fault Refusal := done s (tcExpire s)

/-- the fixed launch instant at the head of queue 7 of port p (R361) -/
def execScheduledLaunch (p : Nat) (s : State) : Host.Outcome State Fault Refusal := done s (onPort p (scheduledLaunch p) s)

/-- a dynamic address-table entry reaches AGE (R341) -/
def execFdbAge (s : State) : Host.Outcome State Fault Refusal := done s (fdbAge s)

/-- the next frame leaves port p (R342, R344) -/
def execFrameEgress (dt p : Nat) (s : State) : Host.Outcome State Fault Refusal := done s (onPort p (egressHead p) (pass dt s))

/-! ### Links, SyncE, ESMC -/

/-- the link of port p comes up at a speed (R339) -/
def execLinkUp (dt p speed : Nat) (half : Bool) (s : State) : Host.Outcome State Fault Refusal :=
  done s (onPort p (linkRise p speed half) (pass dt s))

/-- the link of port p goes down (R339) -/
def execLinkDown (dt p : Nat) (s : State) : Host.Outcome State Fault Refusal := done s (onPort p (linkFall p) (pass dt s))

/-- INITIALIZING of port p completes (R349) -/
def execPortInitDone (dt p : Nat) (s : State) : Host.Outcome State Fault Refusal := done s (onPort p (initDone p) (pass dt s))

/-- the recovered clock of port p locks or unlocks (R362) -/
def execCdrLockChange (dt p : Nat) (lock : Bool) (s : State) : Host.Outcome State Fault Refusal :=
  done s (onPort p (cdrLock p lock) (pass dt s))

/-- an ESMC PDU with its SSM and any enhanced code (R363) -/
def execEsmcPduReceive (dt p : Nat) (event : Bool) (ssm : Nat) (ext : Option Nat) (s : State) : Host.Outcome State Fault Refusal :=
  done s (onPort p (esmcRx p event (ssm % 16) (ext.map (fun e => e % 256))) (pass dt s))

/-- 5 s without an information PDU at port p (R363) -/
def execEsmcTimeout (p : Nat) (s : State) : Host.Outcome State Fault Refusal := done s (onPort p (esmcTimeout p) s)

/-- the information PDU of port p falls due (R364) -/
def execEsmcInfoTx (p : Nat) (s : State) : Host.Outcome State Fault Refusal := done s (onPort p (esmcInfo p) s)

/-! ### Register commands -/

/-- a write of Pp_CTL (R368) -/
def portCtl (p v : Nat) (s : State) : State := onPort p (writeReg (0xC00460 + 128 * p) 0 v) s

/-- Pp_CTL.AN_RESTART (R339) -/
def execAnRestart (dt p : Nat) (s : State) : Host.Outcome State Fault Refusal := done s (portCtl p 4 (pass dt s))

/-- Pp_CTL.FLUSH (R346) -/
def execPortTsqFlush (dt p : Nat) (s : State) : Host.Outcome State Fault Refusal := done s (portCtl p 2 (pass dt s))

/-- Pp_CTL.POP (R346) -/
def execPortTsqPop (dt p : Nat) (s : State) : Host.Outcome State Fault Refusal := done s (portCtl p 1 (pass dt s))

/-- FDB_CTL with GO, an operation and a port mask (R369) -/
def fdbCtl (op ports : Nat) (s : State) : State := writeReg 0xC0010C 0 (2 ^ 31 + op * 2 ^ 29 + ports % 64) s

/-- look up the address in FDB_LO and FDB_HI -/
def execFdbLookup (dt : Nat) (s : State) : Host.Outcome State Fault Refusal := done s (fdbCtl 0 0 (pass dt s))

/-- add the address in FDB_LO and FDB_HI as a static entry of a port mask -/
def execFdbAdd (dt ports : Nat) (s : State) : Host.Outcome State Fault Refusal := done s (fdbCtl 1 ports (pass dt s))

/-- delete the address in FDB_LO and FDB_HI -/
def execFdbDelete (dt : Nat) (s : State) : Host.Outcome State Fault Refusal := done s (fdbCtl 2 0 (pass dt s))

/-- flush the dynamic entries -/
def execFdbFlush (dt : Nat) (s : State) : Host.Outcome State Fault Refusal := done s (fdbCtl 3 0 (pass dt s))

/-- a write of register r (word offset) of port p (R353) -/
def execPortConfigWrite (dt p r al data : Nat) (s : State) : Host.Outcome State Fault Refusal :=
  done s (onPort p (whenB (r < 25) (writeReg (0xC00400 + 128 * p + 4 * r) al data)) (pass dt s))

/-- a write of CLK_CFG (R353) -/
def execClkCfgWrite (dt al data : Nat) (s : State) : Host.Outcome State Fault Refusal := done s (writeReg 0xC00000 al data (pass dt s))

/-- a write of PTP.TEST (R371) -/
def execPtpTestGo (dt al data : Nat) (s : State) : Host.Outcome State Fault Refusal := done s (writeReg 0xC00040 al data (pass dt s))

/-- the loopback test ends with its loop delay error in ps (R371) -/
def execPtpTestDone (dt : Nat) (err : Int) (s : State) : Host.Outcome State Fault Refusal := done s (ptpTestDone err (pass dt s))

end Sys2Proof.Machine
end

