-- ==== Sys2Proof/Machine/CmdRef.lean ====
section
/-! DEFINITION. The commands of the reference inputs (R94 to R127): their configuration, edges, labels and slots. -/

namespace Sys2Proof.Machine
open Sys2Proof.Reg

/-- a write of register r (word offset) of input n (R97, R98) -/
def execInputConfigWrite (dt n r al data : Nat) (s : State) : Host.Outcome State Fault Refusal :=
  done s (whenB (n < 16 && r < 8) (writeReg (0x400000 + 32 * n + 4 * r) al data) (pass dt s))

/-- an edge of a leg of an input, rising or falling (R95, R100); the monitors run through isolation (R126) -/
def execReferenceEdge (dt : Nat) (e : LegEdge) (s : State) : Host.Outcome State Fault Refusal :=
  done s (whenB (e.n < 16 && live s 4 && !ballOff s (inBall e.n)) (legEdge e.n e.leg e.rise) (pass dt s))

/-- the next missing-edge instant of input n (R100) -/
def missingEdge (n : Nat) (s : State) : State :=
  if (ix s.pin n).run && (ix s.pin n).last.isSome then pinMiss n (advanceTo (ix s.pin n).miss s) else s

/-- an interval passes without an edge of input n (R100) -/
def execMissingEdge (n : Nat) (s : State) : Host.Outcome State Fault Refusal := done s (whenB (n < 16) (missingEdge n) s)

/-- the end of slot i's qualification time (R119) -/
def qualifyAtEnd (i : Nat) (s : State) : State :=
  match (ix s.slot i).qualEnd with
  | some t => slotQualify i (advanceTo t s)
  | none => s

/-- REMAIN of slot i reaches 0 (R119) -/
def execQualificationComplete (i : Nat) (s : State) : Host.Outcome State Fault Refusal := done s (whenB (i < 32) (qualifyAtEnd i) s)

/-- a write of REF.SLOTs_CFG (R121) -/
def execSlotCfgWrite (dt i al data : Nat) (s : State) : Host.Outcome State Fault Refusal :=
  done s (whenB (i < 32) (writeReg (0x400200 + 8 * i) al data) (pass dt s))

/-- a complete sentence at TOD_RXk (R111) -/
def execNmeaSentence (dt k : Nat) (bytes : List Byte) (s : State) : Host.Outcome State Fault Refusal :=
  done s (whenB (k < 2 && !ballOff s (todRxBall k)) (nmeaIn k bytes) (pass dt s))

/-- the label of receiver k times out (R112) -/
def execLabelTimeout (k : Nat) (s : State) : Host.Outcome State Fault Refusal := done s (whenB (k < 2) (labelLost k) s)

end Sys2Proof.Machine
end

