-- ==== Sys2Proof/Machine/CmdSch.lean ====
section
/-! DEFINITION. The commands of event scheduling and load switching (R305 to R337). -/

namespace Sys2Proof.Machine
open Sys2Proof.Reg

/-- ENT_CTL.WRITE (R308) -/
def execEntWrite (dt : Nat) (s : State) : Host.Outcome State Fault Refusal := done s (writeReg 0xB00014 0 1 (pass dt s))

/-- ENT_CTL.READ (R308) -/
def execEntRead (dt : Nat) (s : State) : Host.Outcome State Fault Refusal := done s (writeReg 0xB00014 0 2 (pass dt s))

/-- 1 ms before its base instant comparator n is loaded (R313) -/
def execComparatorLoad (n : Nat) (s : State) : Host.Outcome State Fault Refusal := done s (whenB (n < 48) (loadComp n) s)

/-- the loaded instant of channel n arrives (R314) -/
def execDispatchCmd (n : Nat) (s : State) : Host.Outcome State Fault Refusal := done s (whenB (n < 48) (dispatchAt n) s)

/-- the running pulse of channel n ends (R316) -/
def execPulseEnd (n : Nat) (s : State) : Host.Outcome State Fault Refusal := done s (whenB (n < 48) (pulseDone n) s)

/-- an edge of FBn (R317) -/
def execFeedbackEdge (dt n : Nat) (level : Bool) (s : State) : Host.Outcome State Fault Refusal :=
  done s (whenB (n < 48 && !ballOff s (fbBall n)) (fbEdge n level) (pass dt s))

/-- the earliest feedback window of channel n ends (R317) -/
def execFeedbackTimeout (n : Nat) (s : State) : Host.Outcome State Fault Refusal := done s (whenB (n < 48) (fbTimeout n) s)

/-- a second passes: SCAN_T, ONTIME, solar dates without an event (R310, R319, R322) -/
def execScanAdvance (s : State) : Host.Outcome State Fault Refusal :=
  done s (whenB (s.tkp.run && !seqHeld s) (fun s => noEvents (scanSecond s)) s)

/-- the recovery pass starts (R322) -/
def execRecoveryStart (dt : Nat) (s : State) : Host.Outcome State Fault Refusal := done s (recoverStart (pass dt s))

/-- the recovery pass completes (R323) -/
def execRecoveryDone (dt : Nat) (s : State) : Host.Outcome State Fault Refusal := done s (recoverDone (pass dt s))

/-- RLEAD before the next remote instant its SWITCH is issued (R325) -/
def execRemoteSend (s : State) : Host.Outcome State Fault Refusal := done s (remoteSend s)

/-- a write of SCH.CMD (R332) -/
def execSchCmd (dt al data : Nat) (s : State) : Host.Outcome State Fault Refusal := done s (writeReg 0xB00030 al data (pass dt s))

/-- a write of RCk_CTL -/
def rcCtlWrite (k v : Nat) (s : State) : State := whenB (k < 8) (writeReg (0xB00780 + 32 * k) 0 v) s

/-- RCk_CTL.ISSUE for group g and an action (R327) -/
def execIssueCmd (dt k g act : Nat) (s : State) : Host.Outcome State Fault Refusal :=
  done s (rcCtlWrite k (2 ^ 31 + g % 64 * 2 ^ 16 + act % 8 * 2 ^ 12) (pass dt s))

/-- RCk_CTL.ABORT (R329) -/
def execRcAbort (dt k : Nat) (s : State) : Host.Outcome State Fault Refusal := done s (rcCtlWrite k (2 ^ 30) (pass dt s))

/-- RCk_CTL.PLAIN, at once or at T_f (R330) -/
def execPlainCmd (dt k g act : Nat) (atOnce : Bool) (s : State) : Host.Outcome State Fault Refusal :=
  done s (rcCtlWrite k (2 ^ 29 + b2n atOnce * 2 ^ 28 + g % 64 * 2 ^ 16 + act % 8 * 2 ^ 12) (pass dt s))

/-- T_f - ALEAD of the next scheduled registered command (R327) -/
def execRcArmTime (s : State) : Host.Outcome State Fault Refusal := done s (rcArmTime s)

/-- T_d of slot k passes with a target not armed (R327) -/
def execRcDeadline (k : Nat) (s : State) : Host.Outcome State Fault Refusal := done s (whenB (k < 8) (rcDeadline k) s)

/-- a millisecond later what slot k's targets owe is asked again (R327) -/
def execRcCommitRetry (k : Nat) (s : State) : Host.Outcome State Fault Refusal := done s (whenB (k < 8) (rcRetry k) s)

/-- T_f of slot k -/
def rcFireAt (k : Nat) (s : State) : State :=
  if rcPhase s k = 2 && !(ix s.sch.rc k).fired && schActs s then rcFire k false (goTo16 (ix s.sch.rc k).tf s) else s

/-- T_f: committed local targets execute (R327) -/
def execRcFire (k : Nat) (s : State) : Host.Outcome State Fault Refusal := done s (whenB (k < 8) (rcFireAt k) s)

/-- T_f + 1 s: outcomes that are missing become PENDING records (R327) -/
def execRcPendingTimeout (k : Nat) (s : State) : Host.Outcome State Fault Refusal := done s (whenB (k < 8) (rcPending k) s)

/-- OQCTL.POP, through the set alias, which leaves the threshold beside it as it is (R320, R499) -/
def execOqPop (dt : Nat) (s : State) : Host.Outcome State Fault Refusal := done s (writeReg 0xB00044 1 (2 ^ 31) (pass dt s))

/-- OQCTL.FLUSH, through the set alias (R320, R499) -/
def execOqFlush (dt : Nat) (s : State) : Host.Outcome State Fault Refusal := done s (writeReg 0xB00044 1 (2 ^ 30) (pass dt s))

/-- a write of SCH.TEST (R334) -/
def execSchTestGo (dt al data : Nat) (s : State) : Host.Outcome State Fault Refusal := done s (writeReg 0xB00900 al data (pass dt s))

/-- the test edge fires with the error measured (R334) -/
def execSchTestDone (err : Int) (s : State) : Host.Outcome State Fault Refusal := done s (schTestDone err s)

end Sys2Proof.Machine
end

