-- ==== Sys2Proof/Machine/CmdSec.lean ====
section
/-! DEFINITION. The commands of the security functions (R428 to R452): fuses, key slots, services, the DRBG, self-tests. -/

namespace Sys2Proof.Machine
open Sys2Proof.Reg

/-! ### Fuses and locks -/

/-- a write of FUSE_CTL with a key and a field (R434) -/
def execFuseProgram (dt key field : Nat) (s : State) : Host.Outcome State Fault Refusal :=
  done s (writeReg 0xF00018 0 (key % 256 * 2 ^ 24 + field % 16) (pass dt s))

/-- the read-back of a fuse program ends (R436) -/
def execFuseProgramDone (ok : Bool) (s : State) : Host.Outcome State Fault Refusal := done s (fuseDone ok s)

/-- a write of 1 to LOCK.FUSE_LOCK (R449) -/
def execFuseLockWrite (dt : Nat) (s : State) : Host.Outcome State Fault Refusal := done s (writeReg 0xF00008 0 1 (pass dt s))

/-- a write of SLOT_LOCK (R439) -/
def execSlotLockWrite (dt al data : Nat) (s : State) : Host.Outcome State Fault Refusal := done s (writeReg 0xF0000C al data (pass dt s))

/-! ### Services -/

/-- a write of SVC with a key, an operation and its fields (R440, R441) -/
def svcRequest (key op slot usage len : Nat) (s : State) : State :=
  writeReg 0xF00010 0 (key % 256 * 2 ^ 24 + op * 2 ^ 20 + slot % 32 * 2 ^ 15 + usage % 8 * 2 ^ 12 + len % 256) s

/-- LOAD: the wrapped key in BUF0 to BUF9 into a slot for a usage -/
def execLoadCmd (dt key slot usage : Nat) (s : State) : Host.Outcome State Fault Refusal := done s (svcRequest key 1 slot usage 0 (pass dt s))

/-- CLEAR of a slot -/
def execClearCmd (dt key slot : Nat) (s : State) : Host.Outcome State Fault Refusal := done s (svcRequest key 2 slot 0 0 (pass dt s))

/-- WRAP of the key in BUF0 to BUF7 -/
def execWrapCmd (dt key : Nat) (s : State) : Host.Outcome State Fault Refusal := done s (svcRequest key 3 0 0 0 (pass dt s))

/-- SHA-256 of the first octets of BUF -/
def execSha256 (dt key len : Nat) (s : State) : Host.Outcome State Fault Refusal := done s (svcRequest key 4 0 0 len (pass dt s))

/-- HMAC of the first octets of BUF under a slot's key -/
def execHmacCmd (dt key slot len : Nat) (s : State) : Host.Outcome State Fault Refusal := done s (svcRequest key 5 slot 0 len (pass dt s))

/-- VERIFY of the signature in BUF -/
def execVerifyCmd (dt key : Nat) (s : State) : Host.Outcome State Fault Refusal := done s (svcRequest key 6 0 0 0 (pass dt s))

/-- the service in progress completes (R441) -/
def execServiceDone (dt : Nat) (s : State) : Host.Outcome State Fault Refusal := done s (svcDone (pass dt s))

/-! ### DRBG, self-tests, zeroisation -/

/-- a read of SEC.RNG (R442) -/
def execRngRead (dt : Nat) (s : State) : Host.Outcome State Fault Refusal := done s (readOne 0xF00028 4 (pass dt s))

/-- 2^20 requests or an hour: the DRBG reseeds (R442) -/
def execDrbgReseed (s : State) : Host.Outcome State Fault Refusal := done s (reseedDue s)

/-- a write of SEC.CTL with a key and a command bit -/
def secCtlWrite (key v : Nat) (s : State) : State := writeReg 0xF00004 0 (key % 256 * 2 ^ 24 + v) s

/-- CTL.RESEED (R442) -/
def execReseed (dt key : Nat) (s : State) : Host.Outcome State Fault Refusal := done s (secCtlWrite key 4 (pass dt s))

/-- CTL.SELFTEST (R443) -/
def execSelftest (dt key : Nat) (s : State) : Host.Outcome State Fault Refusal := done s (secCtlWrite key 2 (pass dt s))

/-- the self-tests end: code 0 all passed, else the ERRTEST code of the test that failed (R443, R449) -/
def execSelftestDone (dt code : Nat) (s : State) : Host.Outcome State Fault Refusal :=
  done s (whenB (code = 0 || code = 2 || (5 ≤ code && code ≤ 13)) (selfTestEnd code) (pass dt s))

/-- CTL.ZEROISE (R446) -/
def execZeroise (dt key : Nat) (s : State) : Host.Outcome State Fault Refusal := done s (secCtlWrite key 1 (pass dt s))

/-- a conditional entropy test fails: the repetition count test, or the adaptive proportion test (R444) -/
def execEntropyHealthFail (dt : Nat) (proportion : Bool) (s : State) : Host.Outcome State Fault Refusal :=
  done s (secError (if proportion then 4 else 3) 88 (pass dt s))

end Sys2Proof.Machine
end

