-- ==== Sys2Proof/Machine/CmdSel.lean ====
section
/-! DEFINITION. The commands of the selectors and DPLLs (R164 to R207). -/

namespace Sys2Proof.Machine
open Sys2Proof.Reg

/-- the hold-off timer of DPLL d's selector expires (R169) -/
def holdoffAt (d : Nat) (s : State) : State :=
  match (ix s.sel d).holdEnd with
  | some t => bridgeEval d (toPrepare d (selFix d (advanceTo t s)))
  | none => s

/-- the hold-off of a switch ends and PREPARE starts (R169 step 4) -/
def execHoldoffExpiry (d : Nat) (s : State) : Host.Outcome State Fault Refusal := done s (whenB (d < 8) (holdoffAt d) s)

/-- 2.5 s pass in PREPARE without a sample: the switch is abandoned and the target computed again (R171, log entry 148) -/
def prepareLate (d : Nat) (s : State) : State :=
  if selStage s d = 2 then selMark d 1 (bridgeEval d (selEnd d 3 (selFix d (advanceTo ((ix s.sel d).prepAt + 2500 * msU) s)))) else s

/-- a switch in PREPARE is abandoned after 2.5 s without a sample (R171) -/
def execPrepareTimeout (d : Nat) (s : State) : Host.Outcome State Fault Refusal := done s (whenB (d < 8) (prepareLate d) s)

/-- SETTLE of DPLL d's selector ends at its time -/
def settleAt (d : Nat) (s : State) : State :=
  match (ix s.sel d).settleEnd with
  | some t => settleEnd d (advanceTo t s)
  | none => s

/-- the settle period ends (R169 step 7) -/
def execSettleEnd (d : Nat) (s : State) : Host.Outcome State Fault Refusal := done s (whenB (d < 8) (settleAt d) s)

/-- the dwell period of DPLL d's selector ends at its time -/
def dwellAt (d : Nat) (s : State) : State :=
  match (ix s.sel d).dwellEnd with
  | some t => dwellEnd d (advanceTo t s)
  | none => s

/-- the dwell period ends (R173) -/
def execDwellEnd (d : Nat) (s : State) : Host.Outcome State Fault Refusal := done s (whenB (d < 8) (dwellAt d) s)

/-- a bit of selector d's CTL -/
def selCtlWrite (d v : Nat) (s : State) : State := whenB (d < 8) (writeReg (0x600024 + 64 * d) 0 v) s

/-- CTL.DWELL_CLR (R173) -/
def execDwellClr (dt d : Nat) (s : State) : Host.Outcome State Fault Refusal := done s (selCtlWrite d 4 (pass dt s))

/-- CTL.RERUN (R166) -/
def execRerunCmd (dt d : Nat) (s : State) : Host.Outcome State Fault Refusal := done s (selCtlWrite d 2 (pass dt s))

/-- CTL.ABORT (R174) -/
def execSelAbort (dt d : Nat) (s : State) : Host.Outcome State Fault Refusal := done s (selCtlWrite d 1 (pass dt s))

/-- a write of register r (word offset, CFG to PRI3) of selector d (R167) -/
def execSelectionConfigWrite (dt d r al data : Nat) (s : State) : Host.Outcome State Fault Refusal :=
  done s (whenB (d < 8 && r < 6) (writeReg (0x600000 + 64 * d + 4 * r) al data) (pass dt s))

/-- the frequency estimates are updated (R175) -/
def execFreqEstimateUpdate (dt : Nat) (s : State) : Host.Outcome State Fault Refusal :=
  done s (whenB (live s 6 && !isolated s 6) estAll (pass dt s))

/-- a phase sample of slot i; diff is source time less time of day in 2^-16 ns where the producer delivers it (R186) -/
def execPhaseSample (dt i : Nat) (diff : Int) (s : State) : Host.Outcome State Fault Refusal :=
  done s (whenB (i < 32) (slotSample i diff) (pass dt s))

/-- 2.5 s pass without a sample in forced selection (R191) -/
def forcedLate (d : Nat) (s : State) : State :=
  if selMode s d = 2 && (dpllState s d = 1 || dpllState s d = 2) then
    bridgeEval d (inputLost d (modSel d (fun x => { x with lost := true }) (advanceTo ((ix s.dpll d).smpAt + 2500 * msU) s)))
  else s

/-- the forced slot's input is lost (R191) -/
def execForcedSampleTimeout (d : Nat) (s : State) : Host.Outcome State Fault Refusal := done s (whenB (d < 8) (forcedLate d) s)

/-- a write of DPLLd_PSTEP_HI (R192) -/
def execPhaseStepWrite (dt d al data : Nat) (s : State) : Host.Outcome State Fault Refusal :=
  done s (whenB (d < 8) (writeReg (0x600424 + 128 * d) al data) (pass dt s))

/-- CTL.SLEW_CANCEL (R192) -/
def execSlewCancel (dt d : Nat) (s : State) : Host.Outcome State Fault Refusal :=
  done s (whenB (d < 8) (writeReg (0x600434 + 128 * d) 0 1) (pass dt s))

/-- CTL.MODEL_CLR (R190) -/
def execModelClr (dt d : Nat) (s : State) : Host.Outcome State Fault Refusal :=
  done s (whenB (d < 8) (writeReg (0x600434 + 128 * d) 0 2) (pass dt s))

/-- a write of DPLLd_FRW_HI (R190) -/
def execFrwHiWrite (dt d al data : Nat) (s : State) : Host.Outcome State Fault Refusal :=
  done s (whenB (d < 8) (writeReg (0x600430 + 128 * d) al data) (pass dt s))

/-- a second of HOLDOVER (R195, R200 to R202) -/
def execHoldoverSecond (d : Nat) (s : State) : Host.Outcome State Fault Refusal :=
  done s (whenB (d < 8 && live s 6 && !isolated s 6) (holdoverSecond d) s)

/-- HO_DLY passes in HOLDOVER (R202 step 4) -/
def execHoldoverDelayExpiry (d : Nat) (s : State) : Host.Outcome State Fault Refusal := done s (whenB (d < 8) (holdoverDelay d) s)

/-- a learning minute ends for every DPLL (R197) -/
def execMinuteSample (s : State) : Host.Outcome State Fault Refusal := done s (minuteSample s)

/-- the hour bucket of every DPLL with sixty minute slots closes (R197, R198) -/
def execBucketClose (dt : Nat) (s : State) : Host.Outcome State Fault Refusal := done s (forEach (List.range 8) bucketClose (pass dt s))

/-- the on-die sensor reads t / 2^8 °C (R199) -/
def execTempReading (dt : Nat) (t : Int) (s : State) : Host.Outcome State Fault Refusal := done s (tempReading t (pass dt s))

end Sys2Proof.Machine
end

