-- ==== Sys2Proof/Machine/CmdSyn.lean ====
section
/-! DEFINITION. The commands of the synthesisers and outputs (R208 to R235). Synthesiser 4 is the core synthesiser. -/

namespace Sys2Proof.Machine
open Sys2Proof.Reg

/-- the band search of synthesiser k ends, having measured band b₀ at centre Hz and b₀ - 1 and b₀ + 1 beside it (R211) -/
def execBandSearchDone (dt k centre : Nat) (beside : Nat × Nat) (s : State) : Host.Outcome State Fault Refusal :=
  done s (whenB (k < 5) (searchDone k [beside.1, centre, beside.2]) (pass dt s))

/-- the latest TDC error of synthesiser k in ps -/
def putTdc (k : Nat) (err : Int) (s : State) : State := if k < 4 then putS (SYN_SYNk_STAT_TDC_ERR k) (satS 16 err) s else s

/-- synthesiser k declares lock (R212) -/
def execSynthLockDeclared (dt k : Nat) (err : Int) (s : State) : Host.Outcome State Fault Refusal :=
  done s (whenB (k < 5 && on s GEN_CLKSTAT_SYSCLK_PRES) (fun s => putTdc k err (if k = 4 then coreLocked s else synLocked k s)) (pass dt s))

/-- synthesiser k declares loss of lock (R212) -/
def execSynthLockLost (dt k : Nat) (err : Int) (s : State) : Host.Outcome State Fault Refusal :=
  done s (whenB (k < 5) (fun s => putTdc k err (if k = 4 then coreLost false s else synFreeze k s)) (pass dt s))

/-- a write of SYN.COMMIT (R219) -/
def execSynCommit (dt al data : Nat) (s : State) : Host.Outcome State Fault Refusal := done s (writeReg 0x700180 al data (pass dt s))

/-- the commit whose boundary comes first; one on a synthesiser that has left LOCKED waits (R219) -/
def nextCommit (s : State) : Option CommitS :=
  (s.commit.filter (fun c => !c.wait)).foldl (fun b c =>
    match b with
    | none => some c
    | some x => if c.atT < x.atT then some c else some x) none

/-- the next commit boundary: the values go live; a synthesiser whose error they mend may start (R213, R219) -/
def commitBoundary (s : State) : State :=
  match nextCommit s with
  | some c => synEval c.k (commitNow c (advanceTo c.atT s))
  | none => s

/-- a commit boundary (R219) -/
def execCommitBoundary (s : State) : Host.Outcome State Fault Refusal := done s (commitBoundary s)

/-- the ramp of synthesiser k reaches the new f_nom (R222) -/
def execGlideDone (k : Nat) (s : State) : Host.Outcome State Fault Refusal := done s (whenB (k < 4) (glideDone k) s)

/-- the rate-limited applied word of synthesiser k reaches the delivered word (R210) -/
def execAppliedWordRampDone (k : Nat) (s : State) : Host.Outcome State Fault Refusal := done s (whenB (k < 4) (rampDone k) s)

/-- every output of muting synthesiser k is stopped or moved (R223) -/
def execMuteDone (dt k : Nat) (s : State) : Host.Outcome State Fault Refusal := done s (whenB (k < 4) (muteDone k) (pass dt s))

/-- a bit of synthesiser k's CTL -/
def synCtlWrite (k v : Nat) (s : State) : State := whenB (k < 4) (writeReg (0x70001C + 64 * k) 0 v) s

/-- CTL.REALIGN (R216) -/
def execRealignCmd (dt k : Nat) (s : State) : Host.Outcome State Fault Refusal := done s (synCtlWrite k 1 (pass dt s))

/-- the realignment of synthesiser k completes (R216) -/
def execRealignDone (dt k : Nat) (s : State) : Host.Outcome State Fault Refusal := done s (whenB (k < 4) (realignDone k) (pass dt s))

/-- CTL.RELOCK (R224) -/
def execRelockCmd (dt k : Nat) (s : State) : Host.Outcome State Fault Refusal := done s (synCtlWrite k 2 (pass dt s))

/-- output n starts (R226); the live fine delay moves from output start (R220, R235) -/
def execOutputStart (dt n : Nat) (s : State) : Host.Outcome State Fault Refusal := done s (whenB (n < 16) (outStart n) (pass dt s))

/-- output n has stopped (R226) -/
def execOutputStopDone (dt n : Nat) (s : State) : Host.Outcome State Fault Refusal := done s (whenB (n < 16) (outStopped n) (pass dt s))

/-- the move of output n completes (R227) -/
def execOutputMoveDone (dt n : Nat) (s : State) : Host.Outcome State Fault Refusal := done s (whenB (n < 16) (outMoved n) (pass dt s))

/-- a write of SYN.TEST (R234) -/
def execSynTestGo (dt al data : Nat) (s : State) : Host.Outcome State Fault Refusal := done s (writeReg 0x700188 al data (pass dt s))

/-- the test ends: the spur check, none where the synthesiser did not lock; bands that fell short, the worst spur (R234) -/
def execSynTestDone (dt : Nat) (check : Option Bool) (nfail spur : Nat) (s : State) : Host.Outcome State Fault Refusal :=
  done s (synTestDone check.isSome (check == some true) nfail spur (pass dt s))

end Sys2Proof.Machine
end

