-- ==== Sys2Proof/Machine/CmdTkp.lean ====
section
/-! DEFINITION. The commands of the timekeeper: time of day, leap seconds, serial and IRIG-B time, the backup clock (R236 to R262). -/

namespace Sys2Proof.Machine
open Sys2Proof.Reg

/-- a bit of TKP.CTL (R256) -/
def tkpCtlWrite (v : Nat) (s : State) : State := writeReg 0x800008 0 v s

/-- CTL.SNAP (R237) -/
def execSnapCmd (dt : Nat) (s : State) : Host.Outcome State Fault Refusal := done s (tkpCtlWrite 1 (pass dt s))

/-- CTL.SET (R241) -/
def execSetCmd (dt : Nat) (s : State) : Host.Outcome State Fault Refusal := done s (tkpCtlWrite 2 (pass dt s))

/-- CTL.SET_SEC (R241) -/
def execSetSec (dt : Nat) (s : State) : Host.Outcome State Fault Refusal := done s (tkpCtlWrite 4 (pass dt s))

/-- the waiting SET_SEC loads at its whole second (R241) -/
def setSecLoad (s : State) : State :=
  match s.tkp.setSec with
  | none => s
  | some (sec, at_) =>
    let s := modTkp (fun t => { t with setSec := none }) (advanceTo (whenTod s (at_ * secT)) s)
    timeJump (((sec * secT : Nat) : Int) - s.tod) 2 s

/-- the waiting SET_SEC loads (R241) -/
def execSetSecLoad (s : State) : Host.Outcome State Fault Refusal := done s (setSecLoad s)

/-- CTL.LEAP_CANCEL (R245) -/
def execLeapCancel (dt : Nat) (s : State) : Host.Outcome State Fault Refusal := done s (tkpCtlWrite 8 (pass dt s))

/-- CTL.RTC_SYNC (R255) -/
def execRtcSync (dt : Nat) (s : State) : Host.Outcome State Fault Refusal := done s (tkpCtlWrite 16 (pass dt s))

/-- a write of TKP.ADJ_HI (R242) -/
def execAdjHiWrite (dt al data : Nat) (s : State) : Host.Outcome State Fault Refusal := done s (writeReg 0x800044 al data (pass dt s))

/-- does the time DPLL track a time-carrying slot other than 30 (R239) -/
def tracksTime (s : State) : Bool :=
  let d := timeDpll s
  (dpllState s d == 1 || dpllState s d == 2) && match actAlive s d with
    | some i => carriesTime s i && i != 30
    | none => false

/-- the seconds test (R239) -/
def secondsCheck (s : State) : State :=
  let e := s.tkp.lastErr
  let stop (s : State) : State := put TKP_STAT_SEC_DIS 0 (modTkp (fun t => { t with disCnt := 0, disVal := 0 }) s)
  if !tracksTime s || e = 0 then stop s
  else
    let n := if s.tkp.disVal = e then s.tkp.disCnt + 1 else 1
    if n < orElse0 (rd s TKP_CFG_SEC_CONF) 1 then put TKP_STAT_SEC_DIS 1 (modTkp (fun t => { t with disCnt := n, disVal := e }) s)
    else timeJump (e * (secT : Int)) 3 (stop (raise 37 none (put TKP_EVT_SECDIS 1 s)))

/-- TKP tests the whole-second error (R239) -/
def execSecondsCheck (dt : Nat) (s : State) : Host.Outcome State Fault Refusal := done s (whenB (!isolated s 8 && live s 8) secondsCheck (pass dt s))

/-- the backup clock takes the time of day of the whole second just begun, SUBSEC 0 and SET (R255) -/
def rtcSyncNow (s : State) : State :=
  match s.tkp.rtcSync with
  | none => s
  | some at_ =>
    if todSec s < at_ then s
    else
      let sec := todSec s
      modTkp (fun t => { t with rtcSync := none }) (s |> aonHw 0 TKP_RTC_SEC_LO_SECONDS sec |> aonHw 0 TKP_RTC_SEC_HI_SECONDS (sec / 2 ^ 32)
        |> aonHw 0 TKP_RTC_SEC_HI_SUBSEC 0 |> aonHw 0 TKP_RTC_STAT_SET 1)

/-- the encoder begins the frame of the second just begun (R252) -/
def irigSend (s : State) : State :=
  modTkp (fun t => { t with irigOut := if on s TKP_IRIGOUT_CFG_EN && !isolated s 8 then some (todSec s, irigSyms (irigFrameOf s (todSec s))) else none }) s

/-- the time of day passes a whole second, the next one or one that another command has just passed: the 1PPS event, outputs that
waited for it, a waiting RTC_SYNC (R248, R252, R255, R261) -/
def ppsTick (s : State) : State :=
  if !s.tkp.run then s
  else
    let s := if todSec s = s.tkp.secAt then advanceTo (whenTod s ((todSec s + 1) * secT)) s else s
    let s := put TKP_EVT_PPS 1 (modTkp (fun t => { t with ppsSec := todSec s, secAt := todSec s }) s)
    let ap := s.img.applied
    let s := modTkp (fun t => { t with txHold := t.txHold && !ap, irigFrom := if t.txHold && ap then s.now else t.irigFrom }) s
    let s := if ap then modTkp (fun t => { t with held := Vector.replicate 3 none }) s else s
    let s := rtcSyncNow s
    if s.img.applied && live s 8 then irigSend s else s

/-- the next whole second of the time of day (R248) -/
def execPps (s : State) : Host.Outcome State Fault Refusal := done s (ppsTick s)

/-- 23:59:00 UTC of the leap day: the pending leap is latched (R245) -/
def leapLatch (s : State) : State :=
  if !on s TKP_STAT_LEAP_PEND || s.tkp.latched.isSome then s
  else
    let m := monthEnd (utcOfTai s (todSec s))
    latchLeap m (advanceTo (whenTod s ((m - 60 + deltaAT s) * secT)) s)

/-- the pending leap is latched (R245) -/
def execLeapLatch (s : State) : Host.Outcome State Fault Refusal := done s (leapLatch s)

/-- the latched leap executes at the end of 23:59:60, or of 23:59:58 (R245) -/
def leapExecute (s : State) : State :=
  match s.tkp.latched with
  | none => s
  | some m =>
    let t := if on s TKP_STAT_LEAP_DEL then m - 1 + deltaAT s else m + 1 + deltaAT s
    executeLeap (advanceTo (whenTod s (t * secT)) s)

/-- a leap second executes (R245) -/
def execLeapExecute (s : State) : Host.Outcome State Fault Refusal := done s (leapExecute s)

/-- a write of TKP.UTC (R244, R245) -/
def execUtcWrite (dt al data : Nat) (s : State) : Host.Outcome State Fault Refusal := done s (writeReg 0x800048 al data (pass dt s))

/-- the civil offset changes at an instant of its rule or table (R246, R247) -/
def execCivilOffsetChange (dt : Nat) (s : State) : Host.Outcome State Fault Refusal := done s (whenB s.img.applied civilFollow (pass dt s))

/-- output k sends the sentences of the second that began at the last 1PPS, once (R249) -/
def todSend (k : Nat) (s : State) : State :=
  if !on s (TKP_TODTXk_CFG_EN k) || s.tkp.txHold || isolated s 8 || !live s 8 || ix s.tkp.txSec k = s.tkp.ppsSec
      || todSec s != s.tkp.ppsSec then s
  else
    let sec := s.tkp.ppsSec
    let s := advanceTo (whenTod s (sec * secT + min (rd s (TKP_TODTXk_CFG_START k)) 989 * 1000000 * nsT)) s
    modTkp (fun t => { t with tx := vset t.tx k (txSentences s k sec), txSec := vset t.txSec k sec, txAt := vset t.txAt k s.tod }) s

/-- START ms after the 1PPS: the serial output sends (R249) -/
def execTodTxStart (k : Nat) (s : State) : Host.Outcome State Fault Refusal := done s (whenB (k < 2) (todSend k) s)

/-- is a decoded frame valid (R250) -/
def irigValid (s : State) (f : IrigFrame) : Bool :=
  f.markersOk && f.bcdOk && (f.parityOk || !on s TKP_IRIGIN_CFG_PAR)
    && decide (f.sec ≤ 60) && decide (f.min ≤ 59) && decide (f.hour ≤ 23) && decide (1 ≤ f.doy) && decide (f.doy ≤ 366) && decide (f.code < 8)

/-- the UTC second a frame names, that of the midnight to come for 23:59:60 (R243, R251) -/
def irigUtc (s : State) (f : IrigFrame) : Nat :=
  let cfg := rd s TKP_IRIGIN_CFG_YEAR
  let y := if 4 ≤ f.code then f.year else if cfg = 0 then (utcView s (todSec s)).year else cfg
  let t : Int := ((dayOfCivil y 1 1 + f.doy - 1) * 86400 + f.hour * 3600 + f.min * 60 + f.sec : Nat)
  let u : Int := match rd s TKP_IRIGIN_CFG_SCALE with
    | 1 => t + f.offMin * 60
    | 2 => t - s.tkp.civ * 60
    | _ => t
  u.toNat

/-- IRIGIN_STAT takes what the frame says -/
def irigShow (f : IrigFrame) (s : State) : State :=
  s |> put TKP_IRIGIN_STAT_CODE f.code |> put TKP_IRIGIN_STAT_TQ f.tq |> putB TKP_IRIGIN_STAT_LSP f.lsp |> putB TKP_IRIGIN_STAT_LS f.ls
    |> putB TKP_IRIGIN_STAT_DSP f.dsp |> putB TKP_IRIGIN_STAT_DST f.dst

/-- is a UTC count the midnight that ends a month -/
def monthEdge (u : Nat) : Bool := u % 86400 == 0 && (civilOfDay (u / 86400)).2.2 == 1

/-- does frame label b follow a by one second: an inserted 23:59:60, or a step over 23:59:59, at the end of a month too (R245, R250) -/
def irigFollows (a b : Nat) : Bool :=
  let x := a / 2
  let y := b / 2
  if b % 2 = 1 then y == x + 1 && a % 2 == 0
  else if a % 2 = 1 then y == x
  else y == x + 1 || (y == x + 2 && monthEdge y)

/-- a frame of the active slot that shows a leap while none is pending executes it (R245) -/
def irigLeap (a b : Nat) (s : State) : State :=
  if on s TKP_STAT_LEAP_PEND || s.tkp.latched.isSome || !on s TKP_IRIGIN_STAT_FLOCK || actSlot s (timeDpll s) != some 29 then s
  else if b % 2 = 1 then latchLeap (b / 2) (s |> put TKP_STAT_LEAP_PEND 1 |> put TKP_STAT_LEAP_DEL 0)
  else if a % 2 = 0 && b / 2 = a / 2 + 2 then executeLeap (put TKP_STAT_LEAP_DEL 1 s)
  else s

/-- a valid frame, whose on-time edge came age units ago: the succession, FLOCK, slot 29 (R245, R250, R251) -/
def irigAccept (age : Nat) (f : IrigFrame) (s : State) : State :=
  let u := irigUtc s f
  let b := 2 * u + (if f.sec = 60 then 1 else 0)
  let ok := match s.tkp.irigLast with
    | some a => irigFollows a b
    | none => true
  let s := match s.tkp.irigLast with
    | some a => if ok then irigLeap a b s else irigLost s
    | none => s
  let n := if ok then s.tkp.irigOk + 1 else 1
  let s := modTkp (fun t => { t with irigLast := some b, irigAt := s.now, irigOk := min n 8 }) (irigShow f s)
  let s := slotTimeInfo 29 none (f.lsp && on s TKP_IRIGIN_CFG_EXT) f.ls s
  let lock := decide (orElse0 (rd s TKP_IRIGIN_CFG_LOCK_N) 1 ≤ n)
  let s := if !on s TKP_IRIGIN_STAT_FLOCK && lock then s |> put TKP_IRIGIN_STAT_FLOCK 1 |> put TKP_EVT_FLOCK 1 else s
  if on s TKP_IRIGIN_STAT_FLOCK then
    slotSample 29 ((((u + deltaAT s) * 65536000000000 : Nat) : Int) - t16 (todAt s (s.now - age))) (setSrc 29 true (irigQl s) s)
  else s

/-- a hundred elements from a reference marker on have been received, each a high time and a period in ns; the leading edge of the marker
came age units ago (R250). A decoder that a reset restarted takes frames that began after the restart (R261) -/
def irigFrame (age : Nat) (els : List (Nat × Nat)) (s : State) : State :=
  let f := irigDecode els
  if !on s TKP_IRIGIN_CFG_EN || isolated s 8 || !live s 8 || !s.img.applied || tabGet s.img.routes 0x130 255 = 255
      || s.tkp.txHold || decide (s.now < s.tkp.irigFrom + age) then s
  else if irigValid s f then irigAccept age f s
  else
    let s := modTkp (fun t => { t with irigOk := 0, irigLast := if on s TKP_IRIGIN_STAT_FLOCK then t.irigLast else none }) s
    bump TKP_IRIGIN_STAT_ERRCNT s

/-- the elements of an IRIG-B frame are complete; its on-time edge came age units before (R250) -/
def execIrigFrame (dt age : Nat) (els : List (Nat × Nat)) (s : State) : Host.Outcome State Fault Refusal :=
  done s (whenB (!ballOff s (inBall (tabGet s.img.routes 0x130 255))) (irigFrame age els) (pass dt s))

/-- 2 s have passed without a valid frame (R250) -/
def irigLate (s : State) : State := if on s TKP_IRIGIN_STAT_FLOCK then irigLost (advanceTo (s.tkp.irigAt + 2 * secU) s) else s

/-- frame lock is lost (R250) -/
def execIrigFrameTimeout (s : State) : Host.Outcome State Fault Refusal := done s (irigLate s)

/-- a second boundary of the backup clock (R254, R255) -/
def execRtcSecond (s : State) : Host.Outcome State Fault Refusal := done s (rtcSecond s)

/-- 1024 s of unbroken discipline have passed (R254) -/
def execRtcTrimUpdate (dt : Nat) (s : State) : Host.Outcome State Fault Refusal := done s (rtcTrim (pass dt s))

/-- the load from the backup clock after L0 (R254) -/
def execRtcLoad (s : State) : Host.Outcome State Fault Refusal := done s (rtcLoad s)

/-- a write of TKP.RTC_SEC_HI (R255) -/
def execRtcSecHiWrite (dt al data : Nat) (s : State) : Host.Outcome State Fault Refusal := done s (writeReg 0x80008C al data (pass dt s))

end Sys2Proof.Machine
end

