-- ==== Sys2Proof/Machine/Dispatch.lean ====
section
/-! DEFINITION. The dispatch: one arm per command, each a direct call of its meaning. -/

namespace Sys2Proof.Machine

def exec (i : Instr) (s : State) : Host.Outcome State Fault Refusal :=
  match i with
  | .registerWrite dt addr n data => Sys2Proof.Machine.execRegisterWrite dt addr n data s
  | .readClear dt addr n => Sys2Proof.Machine.execReadClear dt addr n s
  | .highWordRead dt addr => Sys2Proof.Machine.execHighWordRead dt addr s
  | .sstatRead dt g => Sys2Proof.Machine.execSstatRead dt g s
  | .qspiWrite dt addr bytes => Sys2Proof.Machine.execQspiWrite dt addr bytes s
  | .qspiWriteFixed dt addr bytes => Sys2Proof.Machine.execQspiWriteFixed dt addr bytes s
  | .qspiWrite8 dt addr bytes => Sys2Proof.Machine.execQspiWrite8 dt addr bytes s
  | .qspiWrite16 dt addr bytes => Sys2Proof.Machine.execQspiWrite16 dt addr bytes s
  | .qspiRead dt addr n => Sys2Proof.Machine.execQspiRead dt addr n s
  | .qspiReadFixed dt addr n => Sys2Proof.Machine.execQspiReadFixed dt addr n s
  | .qspiRead8 dt addr => Sys2Proof.Machine.execQspiRead8 dt addr s
  | .qspiRead16 dt addr => Sys2Proof.Machine.execQspiRead16 dt addr s
  | .qspiStatus dt => Sys2Proof.Machine.execQspiStatus dt s
  | .postedWriteExecute dt => Sys2Proof.Machine.execPostedWriteExecute dt s
  | .parallelRead dt addr be both => Sys2Proof.Machine.execParallelRead dt addr be both s
  | .parallelWrite dt addr be both data => Sys2Proof.Machine.execParallelWrite dt addr be both data s
  | .halfWordPairTimeout => Sys2Proof.Machine.execHalfWordPairTimeout s
  | .rwsBatchLand g => Sys2Proof.Machine.execRwsBatchLand g s
  | .genModeWrite dt al data => Sys2Proof.Machine.execGenModeWrite dt al data s
  | .modeSequenceDone dt => Sys2Proof.Machine.execModeSequenceDone dt s
  | .genIsolateWrite dt al data => Sys2Proof.Machine.execGenIsolateWrite dt al data s
  | .isolationDone dt b => Sys2Proof.Machine.execIsolationDone dt b s
  | .releaseDone dt b => Sys2Proof.Machine.execReleaseDone dt b s
  | .seLockWrite dt => Sys2Proof.Machine.execSeLockWrite dt s
  | .sysclkPresenceWindow dt edges => Sys2Proof.Machine.execSysclkPresenceWindow dt edges s
  | .coreAlignDone dt => Sys2Proof.Machine.execCoreAlignDone dt s
  | .rclkMeasurementEnd n => Sys2Proof.Machine.execRclkMeasurementEnd n s
  | .ocxoRdyRise dt => Sys2Proof.Machine.execOcxoRdyRise dt s
  | .ocxoRdyFall dt => Sys2Proof.Machine.execOcxoRdyFall dt s
  | .warmupEnd => Sys2Proof.Machine.execWarmupEnd s
  | .warmupTimeout => Sys2Proof.Machine.execWarmupTimeout s
  | .warmMaxWrite dt al data => Sys2Proof.Machine.execWarmMaxWrite dt al data s
  | .railFall dt r mv => Sys2Proof.Machine.execRailFall dt r mv s
  | .railRise dt x => Sys2Proof.Machine.execRailRise dt x s
  | .porDelayEnd => Sys2Proof.Machine.execPorDelayEnd s
  | .resetNLow x => Sys2Proof.Machine.execResetNLow x s
  | .resetNHigh x => Sys2Proof.Machine.execResetNHigh x s
  | .fltChipResetEnd => Sys2Proof.Machine.execFltChipResetEnd s
  | .resetHoldDone => Sys2Proof.Machine.execResetHoldDone s
  | .resetRelease s1 s2 s3 d1 bad banks => Sys2Proof.Machine.execResetRelease s1 s2 s3 d1 bad banks s
  | .supplyAndVbatLoss dt => Sys2Proof.Machine.execSupplyAndVbatLoss dt s
  | .imgBootStart dt => Sys2Proof.Machine.execImgBootStart dt s
  | .flashReadDone dt bytes => Sys2Proof.Machine.execFlashReadDone dt bytes s
  | .pass1Done dt => Sys2Proof.Machine.execPass1Done dt s
  | .pass2Done dt => Sys2Proof.Machine.execPass2Done dt s
  | .dlStart dt => Sys2Proof.Machine.execDlStart dt s
  | .dldataWrite dt data => Sys2Proof.Machine.execDldataWrite dt data s
  | .dlDone dt => Sys2Proof.Machine.execDlDone dt s
  | .dlAbort dt => Sys2Proof.Machine.execDlAbort dt s
  | .dlVerifyDone dt => Sys2Proof.Machine.execDlVerifyDone dt s
  | .imgCommit dt => Sys2Proof.Machine.execImgCommit dt s
  | .prStart dt => Sys2Proof.Machine.execPrStart dt s
  | .prAbort dt => Sys2Proof.Machine.execPrAbort dt s
  | .prVerifyDone dt => Sys2Proof.Machine.execPrVerifyDone dt s
  | .prCommitCycle dt => Sys2Proof.Machine.execPrCommitCycle dt s
  | .rollfwd dt => Sys2Proof.Machine.execRollfwd dt s
  | .imgLockWrite dt => Sys2Proof.Machine.execImgLockWrite dt s
  | .inputConfigWrite dt n r al data => Sys2Proof.Machine.execInputConfigWrite dt n r al data s
  | .referenceEdge dt e => Sys2Proof.Machine.execReferenceEdge dt e s
  | .missingEdge n => Sys2Proof.Machine.execMissingEdge n s
  | .qualificationComplete slot => Sys2Proof.Machine.execQualificationComplete slot s
  | .slotCfgWrite dt slot al data => Sys2Proof.Machine.execSlotCfgWrite dt slot al data s
  | .nmeaSentence dt k bytes => Sys2Proof.Machine.execNmeaSentence dt k bytes s
  | .labelTimeout k => Sys2Proof.Machine.execLabelTimeout k s
  | .edgeCapture dt b starts stops => Sys2Proof.Machine.execEdgeCapture dt b starts stops s
  | .pairTimeout b => Sys2Proof.Machine.execPairTimeout b s
  | .earlyStopExpiry b => Sys2Proof.Machine.execEarlyStopExpiry b s
  | .gateNosigTimeout b => Sys2Proof.Machine.execGateNosigTimeout b s
  | .loopCheck dt n e => Sys2Proof.Machine.execLoopCheck dt n e s
  | .tableReplace dt n hist => Sys2Proof.Machine.execTableReplace dt n hist s
  | .tableAgeExpiry n => Sys2Proof.Machine.execTableAgeExpiry n s
  | .skewRun dt => Sys2Proof.Machine.execSkewRun dt s
  | .skewRunDone dt sums => Sys2Proof.Machine.execSkewRunDone dt sums s
  | .skewRunTimeout => Sys2Proof.Machine.execSkewRunTimeout s
  | .rebuildCmd dt => Sys2Proof.Machine.execRebuildCmd dt s
  | .pmuPopSq dt b => Sys2Proof.Machine.execPmuPopSq dt b s
  | .pmuPopRq dt b => Sys2Proof.Machine.execPmuPopRq dt b s
  | .pmuFlushSq dt b => Sys2Proof.Machine.execPmuFlushSq dt b s
  | .pmuFlushRq dt b => Sys2Proof.Machine.execPmuFlushRq dt b s
  | .unitRestart dt b => Sys2Proof.Machine.execUnitRestart dt b s
  | .unitConfigWrite dt b r al data => Sys2Proof.Machine.execUnitConfigWrite dt b r al data s
  | .testPair dt al data cs cp => Sys2Proof.Machine.execTestPair dt al data cs cp s
  | .holdoffExpiry d => Sys2Proof.Machine.execHoldoffExpiry d s
  | .prepareTimeout d => Sys2Proof.Machine.execPrepareTimeout d s
  | .settleEnd d => Sys2Proof.Machine.execSettleEnd d s
  | .dwellEnd d => Sys2Proof.Machine.execDwellEnd d s
  | .dwellClr dt d => Sys2Proof.Machine.execDwellClr dt d s
  | .rerunCmd dt d => Sys2Proof.Machine.execRerunCmd dt d s
  | .selAbort dt d => Sys2Proof.Machine.execSelAbort dt d s
  | .selectionConfigWrite dt d r al data => Sys2Proof.Machine.execSelectionConfigWrite dt d r al data s
  | .freqEstimateUpdate dt => Sys2Proof.Machine.execFreqEstimateUpdate dt s
  | .phaseSample dt slot diff => Sys2Proof.Machine.execPhaseSample dt slot diff s
  | .forcedSampleTimeout d => Sys2Proof.Machine.execForcedSampleTimeout d s
  | .phaseStepWrite dt d al data => Sys2Proof.Machine.execPhaseStepWrite dt d al data s
  | .slewCancel dt d => Sys2Proof.Machine.execSlewCancel dt d s
  | .modelClr dt d => Sys2Proof.Machine.execModelClr dt d s
  | .frwHiWrite dt d al data => Sys2Proof.Machine.execFrwHiWrite dt d al data s
  | .holdoverSecond d => Sys2Proof.Machine.execHoldoverSecond d s
  | .holdoverDelayExpiry d => Sys2Proof.Machine.execHoldoverDelayExpiry d s
  | .minuteSample => Sys2Proof.Machine.execMinuteSample s
  | .bucketClose dt => Sys2Proof.Machine.execBucketClose dt s
  | .tempReading dt t => Sys2Proof.Machine.execTempReading dt t s
  | .bandSearchDone dt k centre beside => Sys2Proof.Machine.execBandSearchDone dt k centre beside s
  | .synthLockDeclared dt k err => Sys2Proof.Machine.execSynthLockDeclared dt k err s
  | .synthLockLost dt k err => Sys2Proof.Machine.execSynthLockLost dt k err s
  | .synCommit dt al data => Sys2Proof.Machine.execSynCommit dt al data s
  | .commitBoundary => Sys2Proof.Machine.execCommitBoundary s
  | .glideDone k => Sys2Proof.Machine.execGlideDone k s
  | .muteDone dt k => Sys2Proof.Machine.execMuteDone dt k s
  | .realignCmd dt k => Sys2Proof.Machine.execRealignCmd dt k s
  | .realignDone dt k => Sys2Proof.Machine.execRealignDone dt k s
  | .relockCmd dt k => Sys2Proof.Machine.execRelockCmd dt k s
  | .outputStart dt n => Sys2Proof.Machine.execOutputStart dt n s
  | .outputStopDone dt n => Sys2Proof.Machine.execOutputStopDone dt n s
  | .outputMoveDone dt n => Sys2Proof.Machine.execOutputMoveDone dt n s
  | .synTestGo dt al data => Sys2Proof.Machine.execSynTestGo dt al data s
  | .synTestDone dt check nfail spur => Sys2Proof.Machine.execSynTestDone dt check nfail spur s
  | .snapCmd dt => Sys2Proof.Machine.execSnapCmd dt s
  | .setCmd dt => Sys2Proof.Machine.execSetCmd dt s
  | .setSec dt => Sys2Proof.Machine.execSetSec dt s
  | .setSecLoad => Sys2Proof.Machine.execSetSecLoad s
  | .leapCancel dt => Sys2Proof.Machine.execLeapCancel dt s
  | .rtcSync dt => Sys2Proof.Machine.execRtcSync dt s
  | .adjHiWrite dt al data => Sys2Proof.Machine.execAdjHiWrite dt al data s
  | .secondsCheck dt => Sys2Proof.Machine.execSecondsCheck dt s
  | .pps => Sys2Proof.Machine.execPps s
  | .leapLatch => Sys2Proof.Machine.execLeapLatch s
  | .leapExecute => Sys2Proof.Machine.execLeapExecute s
  | .utcWrite dt al data => Sys2Proof.Machine.execUtcWrite dt al data s
  | .civilOffsetChange dt => Sys2Proof.Machine.execCivilOffsetChange dt s
  | .todTxStart k => Sys2Proof.Machine.execTodTxStart k s
  | .irigFrame dt age els => Sys2Proof.Machine.execIrigFrame dt age els s
  | .irigFrameTimeout => Sys2Proof.Machine.execIrigFrameTimeout s
  | .rtcSecond => Sys2Proof.Machine.execRtcSecond s
  | .rtcTrimUpdate dt => Sys2Proof.Machine.execRtcTrimUpdate dt s
  | .rtcLoad => Sys2Proof.Machine.execRtcLoad s
  | .rtcSecHiWrite dt al data => Sys2Proof.Machine.execRtcSecHiWrite dt al data s
  | .rtcOscFail dt => Sys2Proof.Machine.execRtcOscFail dt s
  | .vbatLow x => Sys2Proof.Machine.execVbatLow x s
  | .mainsUpdate xs => Sys2Proof.Machine.execMainsUpdate xs s
  | .dropoutExpiry n => Sys2Proof.Machine.execDropoutExpiry n s
  | .clipClear n => Sys2Proof.Machine.execClipClear n s
  | .zcPulse n => Sys2Proof.Machine.execZcPulse n s
  | .sequenceCheck dt g => Sys2Proof.Machine.execSequenceCheck dt g s
  | .mnsSnap dt => Sys2Proof.Machine.execMnsSnap dt s
  | .popZq dt => Sys2Proof.Machine.execPopZq dt s
  | .flushZq dt => Sys2Proof.Machine.execFlushZq dt s
  | .gtAlign dt => Sys2Proof.Machine.execGtAlign dt s
  | .gtCfgWrite dt al data => Sys2Proof.Machine.execGtCfgWrite dt al data s
  | .gridFWrite dt al data => Sys2Proof.Machine.execGridFWrite dt al data s
  | .mnsTestGo dt al data => Sys2Proof.Machine.execMnsTestGo dt al data s
  | .mnsTestDone mean => Sys2Proof.Machine.execMnsTestDone mean s
  | .astSiteWrite dt r al data => Sys2Proof.Machine.execAstSiteWrite dt r al data s
  | .recalc dt => Sys2Proof.Machine.execRecalc dt s
  | .astComputeDone dt => Sys2Proof.Machine.execAstComputeDone dt s
  | .astMidnight => Sys2Proof.Machine.execAstMidnight s
  | .astTestGo dt al data => Sys2Proof.Machine.execAstTestGo dt al data s
  | .astTestDone dt bad => Sys2Proof.Machine.execAstTestDone dt bad s
  | .entWrite dt => Sys2Proof.Machine.execEntWrite dt s
  | .entRead dt => Sys2Proof.Machine.execEntRead dt s
  | .comparatorLoad n => Sys2Proof.Machine.execComparatorLoad n s
  | .dispatchCmd n => Sys2Proof.Machine.execDispatchCmd n s
  | .pulseEnd n => Sys2Proof.Machine.execPulseEnd n s
  | .feedbackEdge dt n level => Sys2Proof.Machine.execFeedbackEdge dt n level s
  | .feedbackTimeout n => Sys2Proof.Machine.execFeedbackTimeout n s
  | .scanAdvance => Sys2Proof.Machine.execScanAdvance s
  | .recoveryStart dt => Sys2Proof.Machine.execRecoveryStart dt s
  | .recoveryDone dt => Sys2Proof.Machine.execRecoveryDone dt s
  | .remoteSend => Sys2Proof.Machine.execRemoteSend s
  | .schCmd dt al data => Sys2Proof.Machine.execSchCmd dt al data s
  | .issueCmd dt k g act => Sys2Proof.Machine.execIssueCmd dt k g act s
  | .rcAbort dt k => Sys2Proof.Machine.execRcAbort dt k s
  | .plainCmd dt k g act atOnce => Sys2Proof.Machine.execPlainCmd dt k g act atOnce s
  | .rcArmTime => Sys2Proof.Machine.execRcArmTime s
  | .rcDeadline k => Sys2Proof.Machine.execRcDeadline k s
  | .rcCommitRetry k => Sys2Proof.Machine.execRcCommitRetry k s
  | .rcFire k => Sys2Proof.Machine.execRcFire k s
  | .rcPendingTimeout k => Sys2Proof.Machine.execRcPendingTimeout k s
  | .oqPop dt => Sys2Proof.Machine.execOqPop dt s
  | .oqFlush dt => Sys2Proof.Machine.execOqFlush dt s
  | .schTestGo dt al data => Sys2Proof.Machine.execSchTestGo dt al data s
  | .schTestDone err => Sys2Proof.Machine.execSchTestDone err s
  | .frameReceive dt p h => Sys2Proof.Machine.execFrameReceive dt p h s
  | .syncReceive dt p m t1 => Sys2Proof.Machine.execSyncReceive dt p m t1 s
  | .followUpReceive dt p m t1 => Sys2Proof.Machine.execFollowUpReceive dt p m t1 s
  | .delayReqReceive dt p m => Sys2Proof.Machine.execDelayReqReceive dt p m s
  | .delayRespReceive dt p m t4 reqId reqPort => Sys2Proof.Machine.execDelayRespReceive dt p m t4 reqId reqPort s
  | .announceReceive dt p m a => Sys2Proof.Machine.execAnnounceReceive dt p m a s
  | .pdelayReqReceive dt p m => Sys2Proof.Machine.execPdelayReqReceive dt p m s
  | .pdelayRespReceive dt p m t2 reqId reqPort => Sys2Proof.Machine.execPdelayRespReceive dt p m t2 reqId reqPort s
  | .pdelayRespFollowUpReceive dt p m t3 reqId reqPort => Sys2Proof.Machine.execPdelayRespFollowUpReceive dt p m t3 reqId reqPort s
  | .syncInterval p => Sys2Proof.Machine.execSyncInterval p s
  | .announceInterval p => Sys2Proof.Machine.execAnnounceInterval p s
  | .delayReqInterval p => Sys2Proof.Machine.execDelayReqInterval p s
  | .announceReceiptTimeout p => Sys2Proof.Machine.execAnnounceReceiptTimeout p s
  | .qualificationTimeout p => Sys2Proof.Machine.execQualificationTimeout p s
  | .followUpHoldExpiry => Sys2Proof.Machine.execFollowUpHoldExpiry s
  | .scheduledLaunch p => Sys2Proof.Machine.execScheduledLaunch p s
  | .fdbAge => Sys2Proof.Machine.execFdbAge s
  | .linkUp dt p speed half => Sys2Proof.Machine.execLinkUp dt p speed half s
  | .linkDown dt p => Sys2Proof.Machine.execLinkDown dt p s
  | .portInitDone dt p => Sys2Proof.Machine.execPortInitDone dt p s
  | .cdrLockChange dt p lock => Sys2Proof.Machine.execCdrLockChange dt p lock s
  | .esmcPduReceive dt p event ssm ext => Sys2Proof.Machine.execEsmcPduReceive dt p event ssm ext s
  | .esmcTimeout p => Sys2Proof.Machine.execEsmcTimeout p s
  | .esmcInfoTx p => Sys2Proof.Machine.execEsmcInfoTx p s
  | .anRestart dt p => Sys2Proof.Machine.execAnRestart dt p s
  | .portTsqFlush dt p => Sys2Proof.Machine.execPortTsqFlush dt p s
  | .portTsqPop dt p => Sys2Proof.Machine.execPortTsqPop dt p s
  | .fdbLookup dt => Sys2Proof.Machine.execFdbLookup dt s
  | .fdbAdd dt ports => Sys2Proof.Machine.execFdbAdd dt ports s
  | .fdbDelete dt => Sys2Proof.Machine.execFdbDelete dt s
  | .fdbFlush dt => Sys2Proof.Machine.execFdbFlush dt s
  | .portConfigWrite dt p r al data => Sys2Proof.Machine.execPortConfigWrite dt p r al data s
  | .clkCfgWrite dt al data => Sys2Proof.Machine.execClkCfgWrite dt al data s
  | .ptpTestGo dt al data => Sys2Proof.Machine.execPtpTestGo dt al data s
  | .ptpTestDone dt err => Sys2Proof.Machine.execPtpTestDone dt err s
  | .pollCmd dt k f => Sys2Proof.Machine.execPollCmd dt k f s
  | .presCmd dt k f => Sys2Proof.Machine.execPresCmd dt k f s
  | .helloCmd dt k f => Sys2Proof.Machine.execHelloCmd dt k f s
  | .identCmd dt k f => Sys2Proof.Machine.execIdentCmd dt k f s
  | .negCmd dt k f => Sys2Proof.Machine.execNegCmd dt k f s
  | .negAck dt k f => Sys2Proof.Machine.execNegAck dt k f s
  | .negCfm dt k f => Sys2Proof.Machine.execNegCfm dt k f s
  | .negDone dt k f => Sys2Proof.Machine.execNegDone dt k f s
  | .readCmd dt k f => Sys2Proof.Machine.execReadCmd dt k f s
  | .dataCmd dt k f => Sys2Proof.Machine.execDataCmd dt k f s
  | .writeCmd dt k f => Sys2Proof.Machine.execWriteCmd dt k f s
  | .ackCmd dt k f => Sys2Proof.Machine.execAckCmd dt k f s
  | .evtGet dt k f => Sys2Proof.Machine.execEvtGet dt k f s
  | .evtCmd dt k f => Sys2Proof.Machine.execEvtCmd dt k f s
  | .switchCmd dt k f => Sys2Proof.Machine.execSwitchCmd dt k f s
  | .armCmd dt k f => Sys2Proof.Machine.execArmCmd dt k f s
  | .armRsp dt k f => Sys2Proof.Machine.execArmRsp dt k f s
  | .commitCmd dt k f => Sys2Proof.Machine.execCommitCmd dt k f s
  | .cancelCmd dt k f => Sys2Proof.Machine.execCancelCmd dt k f s
  | .armExpiry k => Sys2Proof.Machine.execArmExpiry k s
  | .ttReq dt k f => Sys2Proof.Machine.execTtReq dt k f s
  | .ttRespLaunch k => Sys2Proof.Machine.execTtRespLaunch k s
  | .ttResp dt k f => Sys2Proof.Machine.execTtResp dt k f s
  | .ttFup dt k f => Sys2Proof.Machine.execTtFup dt k f s
  | .nakCmd dt k f => Sys2Proof.Machine.execNakCmd dt k f s
  | .responseTimeout k => Sys2Proof.Machine.execResponseTimeout k s
  | .roundStart k => Sys2Proof.Machine.execRoundStart k s
  | .busFree dt k => Sys2Proof.Machine.execBusFree dt k s
  | .prExpiry k a => Sys2Proof.Machine.execPrExpiry k a s
  | .sessionTimeout k => Sys2Proof.Machine.execSessionTimeout k s
  | .ttExchangeDue k a => Sys2Proof.Machine.execTtExchangeDue k a s
  | .cascadeTimeout k => Sys2Proof.Machine.execCascadeTimeout k s
  | .calStart dt => Sys2Proof.Machine.execCalStart dt s
  | .calExchangeDue k a => Sys2Proof.Machine.execCalExchangeDue k a s
  | .calTimeout k a => Sys2Proof.Machine.execCalTimeout k a s
  | .renegCmd dt => Sys2Proof.Machine.execRenegCmd dt s
  | .forgetCmd dt => Sys2Proof.Machine.execForgetCmd dt s
  | .linkConfigWrite dt k r al data => Sys2Proof.Machine.execLinkConfigWrite dt k r al data s
  | .lboDataWrite dt data => Sys2Proof.Machine.execLboDataWrite dt data s
  | .postCmd dt => Sys2Proof.Machine.execPostCmd dt s
  | .discardCmd dt => Sys2Proof.Machine.execDiscardCmd dt s
  | .tsqFlush dt k => Sys2Proof.Machine.execTsqFlush dt k s
  | .tsqPop dt k => Sys2Proof.Machine.execTsqPop dt k s
  | .dlqResend dt => Sys2Proof.Machine.execDlqResend dt s
  | .dlqPop dt => Sys2Proof.Machine.execDlqPop dt s
  | .lbiPop dt => Sys2Proof.Machine.execLbiPop dt s
  | .crlTestGo dt al data => Sys2Proof.Machine.execCrlTestGo dt al data s
  | .crlTestDone dt ok loop => Sys2Proof.Machine.execCrlTestDone dt ok loop s
  | .powerFailWarning x => Sys2Proof.Machine.execPowerFailWarning x s
  | .powerFailClear x => Sys2Proof.Machine.execPowerFailClear x s
  | .periodicSave => Sys2Proof.Machine.execPeriodicSave s
  | .saveCmd dt => Sys2Proof.Machine.execSaveCmd dt s
  | .saveDone dt ok => Sys2Proof.Machine.execSaveDone dt ok s
  | .pageProgramDone dt ok => Sys2Proof.Machine.execPageProgramDone dt ok s
  | .writeBackOffer dt => Sys2Proof.Machine.execWriteBackOffer dt s
  | .pbProg dt => Sys2Proof.Machine.execPbProg dt s
  | .pbClr dt => Sys2Proof.Machine.execPbClr dt s
  | .counterRamRestore dt => Sys2Proof.Machine.execCounterRamRestore dt s
  | .nvmTestGo dt al data => Sys2Proof.Machine.execNvmTestGo dt al data s
  | .nvmTestDone dt bad => Sys2Proof.Machine.execNvmTestDone dt bad s
  | .fuseProgram dt key field => Sys2Proof.Machine.execFuseProgram dt key field s
  | .fuseProgramDone ok => Sys2Proof.Machine.execFuseProgramDone ok s
  | .fuseLockWrite dt => Sys2Proof.Machine.execFuseLockWrite dt s
  | .slotLockWrite dt al data => Sys2Proof.Machine.execSlotLockWrite dt al data s
  | .loadCmd dt key slot usage => Sys2Proof.Machine.execLoadCmd dt key slot usage s
  | .clearCmd dt key slot => Sys2Proof.Machine.execClearCmd dt key slot s
  | .wrapCmd dt key => Sys2Proof.Machine.execWrapCmd dt key s
  | .sha256 dt key len => Sys2Proof.Machine.execSha256 dt key len s
  | .hmacCmd dt key slot len => Sys2Proof.Machine.execHmacCmd dt key slot len s
  | .verifyCmd dt key => Sys2Proof.Machine.execVerifyCmd dt key s
  | .serviceDone dt => Sys2Proof.Machine.execServiceDone dt s
  | .rngRead dt => Sys2Proof.Machine.execRngRead dt s
  | .drbgReseed => Sys2Proof.Machine.execDrbgReseed s
  | .reseed dt key => Sys2Proof.Machine.execReseed dt key s
  | .selftest dt key => Sys2Proof.Machine.execSelftest dt key s
  | .selftestDone dt code => Sys2Proof.Machine.execSelftestDone dt code s
  | .zeroise dt key => Sys2Proof.Machine.execZeroise dt key s
  | .entropyHealthFail dt proportion => Sys2Proof.Machine.execEntropyHealthFail dt proportion s
  | .faultForce dt k al data => Sys2Proof.Machine.execFaultForce dt k al data s
  | .blockResetEnd b => Sys2Proof.Machine.execBlockResetEnd b s
  | .settleWindowEnd b => Sys2Proof.Machine.execSettleWindowEnd b s
  | .quietExpiry => Sys2Proof.Machine.execQuietExpiry s
  | .chktest dt al data => Sys2Proof.Machine.execChktest dt al data s
  | .checkBitTestEnd fired => Sys2Proof.Machine.execCheckBitTestEnd fired s
  | .stickyClearWrite dt k al data => Sys2Proof.Machine.execStickyClearWrite dt k al data s
  | .rinstWrite dt al data => Sys2Proof.Machine.execRinstWrite dt al data s
  | .parityError dt src j stored one => Sys2Proof.Machine.execParityError dt src j stored one s
  | .frameEgress dt p => Sys2Proof.Machine.execFrameEgress dt p s
  | .alwaysOnRefresh => Sys2Proof.Machine.execAlwaysOnRefresh s
  | .backupOscillatorStart dt => Sys2Proof.Machine.execBackupOscillatorStart dt s
  | .qspiFrameError dt => Sys2Proof.Machine.execQspiFrameError dt s
  | .appliedWordRampDone k => Sys2Proof.Machine.execAppliedWordRampDone k s

end Sys2Proof.Machine
end

