-- ==== Sys2Proof/Machine/Pins.lean ====
section
/-! DEFINITION. What stands at the output balls, as it follows from the state: reset and configuration (R486, R487), the stop levels and
legs of an output (R215, R226, R228), the lines of TKP, the switching balls, ALIVE, IRQ_N and NMI_N, the flash (R80, R486). Nothing reads
these levels back. -/

namespace Sys2Proof.Machine
open Sys2Proof.Reg

/-- what an output ball shows: driven low or high, or high impedance with a pull (0 none, 1 up, 2 down) -/
inductive BallOut where
  | low
  | high
  | hiZ (pull : Nat)
  deriving DecidableEq, Repr, Inhabited

/-- a driven level -/
def driven (b : Bool) : BallOut := if b then .high else .low

/-- the other level of a driven ball -/
def BallOut.inv (b : BallOut) : BallOut :=
  match b with
  | .low => .high
  | .high => .low
  | .hiZ p => .hiZ p

/-- a ball that PINMUX disables drives nothing and has the record's pull (R561) -/
def unlessOff (s : State) (b : Nat × Nat) (v : BallOut) : BallOut := if ballOff s b then .hiZ (ballPull s b.1 b.2) else v

/-! ### OUT0 to OUT15 -/

/-- is the standard one of two LVCMOS legs (R70) -/
def twoLegs (std : Nat) : Bool := decide (std ≤ 2)

/-- slow slew of an LVCMOS output: IOSTD option bit 1 (R228) -/
def slowSlew (s : State) (n : Nat) : Bool := twoLegs (outStd s n) && bitAt (tabGet s.img.iostd (65536 + 256 + n) 0) 1

/-- the level of output n at device time t as its P leg shows it: low until its first start, the STOP level while stopped, its edges while
it runs (R215, R226) -/
def outP (s : State) (n t : Nat) : BallOut :=
  let o := ix s.out n
  if outState s n ≤ 1 then
    if !o.started then .low
    else match o.stop with
      | 1 => .high
      | 2 => .hiZ 0
      | _ => .low
  else driven (outHigh s n ((t : Int) - outLag s n).toNat)

/-- OUTn_N for a level of the P leg: inverted on a differential standard; as LEG selects on two legs (R226, R228) -/
def outN (s : State) (n : Nat) (p : BallOut) : BallOut :=
  if !twoLegs (outStd s n) then p.inv
  else match p, (ix s.out n).leg with
    | .hiZ w, _ => .hiZ w
    | _, 1 => p.inv
    | _, 2 => .low
    | _, _ => p

/-- the two balls of output n now: drivers off with weak pull-downs until IOSTD is applied (R486) -/
def outBalls (s : State) (n : Nat) : BallOut × BallOut :=
  if s.img.iostd.isEmpty && !s.img.applied then (.hiZ 2, .hiZ 2)
  else
    let p := outP s n s.now
    (unlessOff s (outBall n) p, unlessOff s (outBall n) (outN s n p))

/-! ### Other outputs -/

/-- SWn: high impedance with a pull-down until the form record is read (R487), else its level -/
def swBallOut (s : State) (n : Nat) : BallOut :=
  unlessOff s (swBall n) (match swLevel s n with
    | none => .hiZ 2
    | some b => driven b)

/-- TOD_TXk and IRIG_OUT: high and low until the image is applied (R249, R252, R486) -/
def txBallOut (s : State) (k : Nat) : BallOut := unlessOff s (todTxBall k) (driven (txLevel s k))
def irigBallOut (s : State) : BallOut := unlessOff s irigBall (driven (irigLevel s))

/-- does ALIVE toggle at RCLK ÷ 8192: low from reset entry to release, in FAILED and while a reaction or SAFE stops it (R83, R458, R486) -/
def aliveRuns (s : State) : Bool := !inSequence s && !imgIsFailed s && !on s FLT_STAT_ALIVE_STOP

/-- IRQ_N and NMI_N, active low (R457, R486) -/
def irqBall (s : State) : BallOut := driven (!irqNow s)
def nmiBall (s : State) : BallOut := driven (!nmiNow s)

/-- FLASH_CS_N, FLASH_CLK and FLASH_MOSI while no flash read runs: high impedance from an L0 until release; then CS_N high, CLK and MOSI
low (R486) -/
def flashIdle (s : State) : BallOut × BallOut × BallOut :=
  if inSequence s && s.rst.level == 0 then (.hiZ 0, .hiZ 0, .hiZ 0) else (.high, .low, .low)

end Sys2Proof.Machine
end

