-- ==== Sys2Proof/Safety.lean ====
section
/-! DEFINITION. What claims about the block are stated in: the invariant of the states between commands, when a command completes,
what it leaves as it was, and when the host port takes a write at once. -/

namespace Sys2Proof.Safety
open Sys2Proof.Machine Sys2Proof.Reg

/-- nothing of a command in progress is left: the model's own marks are clear and its MRAM writes are stored (log entry 5) -/
def Between (s : State) : Prop := calm s = true ∧ s.mramJ = []

/-- the invariant of the states between commands: the MRAM in canonical form, nothing of a command left -/
def Inv (s : State) : Prop := Memory.wf s.mram = true ∧ Between s

/-- the command c in state s answers a next state, and P holds of it -/
def Completes (c : Instr) (s : State) (P : State → Prop) : Prop := ∃ t, exec c s = .next t ∧ P t

/-- every register field but those listed reads in t as in s -/
def RegsBut (l : List Fld) (s t : State) : Prop := ∀ f : Fld, fldKey f ∉ l.map fldKey → rd t f = rd s f

/-- the field f of entry b of a banked register (a partner of R404), as RegsBut lists it -/
def inBank (b : Nat) (f : Fld) : Fld := { f with addr := f.addr + (b + 1) * 2 ^ 37 }

/-- every register field outside the listed address ranges (from, up to) reads in t as in s -/
def RegsOutside (l : List (Nat × Nat)) (s t : State) : Prop :=
  ∀ f : Fld, (∀ p ∈ l, fldKey f < 8 * p.1 ∨ 8 * p.2 ≤ fldKey f) → rd t f = rd s f

/-- the stores read in t as in s: every byte of the MRAM, every word of the counter RAM, every fuse -/
def StoresSame (s t : State) : Prop :=
  (∀ a, memGet t.mram a = memGet s.mram a) ∧ (∀ i, cram t i = cram s i) ∧ t.otp = s.otp

/-- the bytes l stand in the MRAM of t from address a on; every other byte of it, the counter RAM and the fuses read as in s -/
def BytesStored (a : Nat) (l : List Byte) (s t : State) : Prop :=
  (∀ x, memGet t.mram x = if a ≤ x ∧ x < a + l.length then l.getD (x - a) 0 else memGet s.mram x) ∧ (∀ i, cram t i = cram s i) ∧ t.otp = s.otp

/-- a host access would be carried out at once: no reset sequence runs, no posted write and no half waits (R506, R517, R522) -/
def HostIdle (s : State) : Prop := s.rst.phase = .run ∧ s.host.posted = [] ∧ s.host.staged = none

/-- the host port lets a write of the register at addr reach its block: an image has been applied, no partial reload of the block is
under way, no lock is set (R87, R488, R511) -/
def Open (s : State) (addr : Nat) : Prop :=
  HostIdle s ∧ s.img.applied = true ∧ prTarget s ≠ some (blockOf addr) ∧ rd s GEN_LOCK_SE_LOCK = 0

/-- the state in which a host access at addr acts, dt after s: the port keeps the address and the core cycle of the access and holds no
half (R494, R513, R522) -/
def Issued (addr dt : Nat) (s : State) : State :=
  modHost (fun h => { h with heldHalf := none, cur := addr, curAt := cycleNow (pass dt s) + 1 }) (pass dt s)

/-- the command c in state s answers the next state that v ends in: v is what the command itself brings about, and what others make of
it at the end of every command follows (settle: a time set, dead letters, PTP's data, the fault collector) -/
def Brings (c : Instr) (s v : State) : Prop := exec c s = .next (closed s (settle v))

/-- the command c in state s answers a next state, and P holds of what the command itself brings about there, the faults it raises and
whatever else others follow still waiting -/
def Effects (c : Instr) (s : State) (P : State → Prop) : Prop := ∃ v, Brings c s v ∧ P v

/-- the command c in state s brings about a state u of which P holds, and answers the next state that F, what others follow with, and
the end of the command make of it -/
def Leads (c : Instr) (s : State) (F : State → State) (P : State → Prop) : Prop := ∃ u, Brings c s (F u) ∧ P u

end Sys2Proof.Safety
end

