-- ==== Sys2Proof/Certificates/Slice0/Obligations.lean ====
section
/-! DEFINITION. The statements about the block, for the provers. Each docstring says what is stated; where a statement rests on a choice
of the model it names the assumption log's entry. -/

open Sys2Proof Sys2Proof.Machine Sys2Proof.Reg Sys2Proof.Safety

/-- For every state with a command c in front of its queue, step is exec of c on that state with the rest of the queue. On an empty
queue, between commands, step answers a next state in which one core cycle of device time has passed, no register and no store has
changed and the queue is still empty (the choice of the model, log entry 1). It rests on the model's choice of log entry 1. -/
def Obligations.StepRunsTheFrontOrPassesACycle : Prop :=
  (∀ (c : Instr) (rest : List Instr) (s : State), s.pending = c :: rest → step s = exec c { s with pending := rest })
    ∧ ∀ s : State, Between s → s.pending = [] →
      ∃ t, step s = .next t ∧ t.now = s.now + cycU ∧ t.pending = [] ∧ RegsBut [] s t ∧ StoresSame s t

/-- Every command, in every state, answers a next state whose queue of waiting commands is the one it had: no command faults and none
is refused. It rests on the model's choices of log entries 2, 3 and 10. -/
def Obligations.EveryCommandAnswers : Prop :=
  ∀ (c : Instr) (s : State), ∃ t, exec c s = .next t ∧ t.pending = s.pending

/-- From every state whose MRAM is in canonical form and in which nothing of a command is left, step answers only states of the same
kind: the MRAM in canonical form, its journal stored, no time set, dead letter, PTP change or fault raise left over. It rests on
the model's choices of log entries 1 and 5. -/
def Obligations.InvariantKept : Prop :=
  ∀ s t : State, Inv s → step s = .next t → Inv t

/-- The state right after reset has an empty MRAM list in canonical form and nothing of a command left. It rests on the model's
choices of log entries 6 and 18. -/
def Obligations.InvariantAtReset : Prop :=
  Inv State.reset

/-- Whatever the command, every fuse bit that is 1 before a step is 1 after it. It rests on the model's choice of log entry 6. -/
def Obligations.FusesOnlyEverSet : Prop :=
  ∀ s t : State, step s = .next t → s.otp &&& t.otp = s.otp

/-- A host write of 1, 2 or 4 bytes at an aligned address in the word of GEN.IRQ_EN, through any of the four aliases (plain, set,
clear, toggle), completes with the enabled bytes of the field changed by the alias rule and the others kept; every other register
and every store reads as before. It rests on the model's choices of log entries 20, 24 and 164. -/
def Obligations.HostWriteStoresTheEnabledBytes : Prop :=
  ∀ (dt al n b data : Nat) (s : State), Between s → HostIdle s → al < 4 → (n = 1 ∨ n = 2 ∨ n = 4) → b < 4 → b % n = 0 →
    Completes (.registerWrite dt (0x18 + b + al * 2 ^ 18) n data) s (fun t =>
      let be := (2 ^ n - 1) * 2 ^ b
      let w := data % 2 ^ (8 * n) * 2 ^ (8 * b)
      let old := rd s GEN_IRQ_EN_EN
      let new := if al = 0 then w else if al = 1 then old ||| w else if al = 2 then old ^^^ (old &&& w) else old ^^^ w
      (∀ i < 32, (rd t GEN_IRQ_EN_EN).testBit i = if be.testBit (i / 8) then new.testBit i else old.testBit i)
      ∧ RegsBut [GEN_IRQ_EN_EN] s t ∧ StoresSame s t ∧ t.now = s.now + dt)

/-- A 1- or 2-byte write of IMG.CTRL, a whole-word register, does nothing but raise the host access fault with cause 0x1 (R503). A
misaligned 4-byte read of GEN.IRQ_EN is carried out at the rounded address and raises it with cause 0x2 (R504). The first fault
sets VALID, CAUSE and ADDR with MORE 0; with VALID 1 already, only MORE counts, up to 7. Nothing else changes. It rests on the
model's choices of log entries 20 and 27. -/
def Obligations.RefusedHostAccessesAreCaptured : Prop :=
  ∀ (dt n b data : Nat) (s : State), Between s → HostIdle s →
    let caught (cause a : Nat) (v : State) : Prop :=
      v.flt.raised = [(0, none)] ∧ v.host.haf = true ∧ v.now = s.now + dt
      ∧ (if rd s GEN_HAF_VALID = 1 then rd v GEN_HAF_MORE = (if rd s GEN_HAF_MORE < 7 then rd s GEN_HAF_MORE + 1 else 7) ∧ RegsBut [GEN_HAF_MORE] s v
         else rd v GEN_HAF_VALID = 1 ∧ rd v GEN_HAF_CAUSE = cause ∧ rd v GEN_HAF_ADDR = a ∧ rd v GEN_HAF_MORE = 0
           ∧ RegsBut [GEN_HAF_VALID, GEN_HAF_CAUSE, GEN_HAF_ADDR, GEN_HAF_MORE] s v)
      ∧ StoresSame s v
    ((n = 1 ∨ n = 2) → b < 4 → b % n = 0 →
      Effects (.registerWrite dt (0x300004 + b) n data) s (caught 1 (0x300004 + b)))
    ∧ (0 < b → b < 4 → Effects (.readClear dt (0x18 + b) 4) s (fun v => caught 2 (0x18 + b) v ∧ v.host.rdata = [rd s GEN_IRQ_EN_EN % 2 ^ 32]))

/-- A 4-byte read of GEN.HAF returns its word and clears VALID, MORE, CAUSE and ADDR (R6). A read of the high word of the time of day
SNAP, of a DPLL word (any split value) returns the high word and keeps the low word as it stands in the one hold (R507). A read of
STATg_SSTAT of a group with a four-slice unit loads the eleven words of the group into its hold (R157). No other register and no
store changes. All this in a core cycle in which nothing was set or updated before the read; where HAF.VALID was set in the core
cycle of the read, the read returns VALID 0 and VALID stays 1 (R512, R526), and where a DPLL word was updated in it, the hold and
the read take the words before the update (R526). It rests on the model's choices of log entries 19, 21 and 164. -/
def Obligations.ReadClearsAndHolds : Prop :=
  ∀ (dt d g : Nat) (s : State), Between s → HostIdle s → d < 8 → g < 3 → (cycleOf s.now < cycleOf (s.now + dt) →
    let reads (v : Nat) (t : State) : Prop := t.host.rdata = [v % 2 ^ 32] ∧ t.host.rsize = 4 ∧ t.now = s.now + dt ∧ StoresSame s t
    Completes (.readClear dt 0x20 4) s (fun t =>
      reads (rd s GEN_HAF_VALID * 2 ^ 31 + rd s GEN_HAF_MORE * 2 ^ 28 + rd s GEN_HAF_CAUSE * 2 ^ 24 + rd s GEN_HAF_ADDR) t
      ∧ rd t GEN_HAF_VALID = 0 ∧ rd t GEN_HAF_MORE = 0 ∧ rd t GEN_HAF_CAUSE = 0 ∧ rd t GEN_HAF_ADDR = 0
      ∧ RegsBut [GEN_HAF_VALID, GEN_HAF_MORE, GEN_HAF_CAUSE, GEN_HAF_ADDR] s t)
    ∧ Completes (.highWordRead dt (0x600448 + 128 * d)) s (fun t =>
      reads (rd s (SEL_DPLLd_FREQ_HI_W d)) t ∧ t.host.holdHi = some (0x600448 + 128 * d)
      ∧ t.host.holdW = [(0x600444 + 128 * d, rd s (SEL_DPLLd_FREQ_LO_W d))] ∧ RegsBut [] s t)
    ∧ (∀ w, s.host.holdHi = some (0x600448 + 128 * d) → s.host.holdW = [(0x600444 + 128 * d, w)] →
      Completes (.readClear dt (0x600444 + 128 * d) 4) s (fun t => reads w t ∧ RegsBut [] s t))
    ∧ (unitSize s (4 * g) = 4 → Completes (.sstatRead dt g) s (fun t =>
      reads (loadWord s (0x500728 + 64 * g)) t ∧ ix t.pmu.hold g = (List.range 11).map (fun j => loadWord s (0x500700 + 64 * g + 4 * j)) ∧ RegsBut [] s t)))
    ∧ (cycleOf (s.now + dt) = cycleOf s.now → rd s GEN_HAF_VALID = 1 → cycSet s GEN_HAF_VALID = 1 → cycWas s GEN_HAF_VALID = 0 →
      rd s GEN_HAF_MORE < 8 → rd s GEN_HAF_CAUSE < 16 → rd s GEN_HAF_ADDR < 2 ^ 24 →
      Completes (.readClear dt 0x20 4) s (fun t => rd t GEN_HAF_VALID = 1 ∧ t.host.rdata.length = 1 ∧ (t.host.rdata.headD 0).testBit 31 = false))
    ∧ (cycleOf (s.now + dt) = cycleOf s.now →
      Completes (.highWordRead dt (0x600448 + 128 * d)) s (fun t =>
        t.host.holdW = [(0x600444 + 128 * d, cycWas s (SEL_DPLLd_FREQ_LO_W d))]
        ∧ t.host.rdata = [cycWas s (SEL_DPLLd_FREQ_HI_W d) % 2 ^ 32]))

/-- A WRITE frame of whole words posts each word at its burst address (A[17:2] wraps, A[23:18] stays), WRITE_FIXED at the one address,
WRITE8 and WRITE16 their one item; the posted-write buffer holds 16 items, an item that finds it full is discarded and sets OVF.
No register and no store changes. It rests on the model's choices of log entries 20 and 127. -/
def Obligations.QuadSpiWritesArePosted : Prop :=
  ∀ (dt addr : Nat) (bytes : List Byte) (s : State), Between s → qspiOn s = true → s.host.posted.length ≤ 16 →
    let posts (n : Nat) (l : List (Nat × Nat)) (t : State) : Prop :=
      t.host.posted = (s.host.posted ++ l.map (fun p => ({ addr := p.1, size := n, data := p.2 } : Posted))).take 16
      ∧ t.host.ovf = (s.host.ovf || decide (16 < s.host.posted.length + l.length)) ∧ t.now = s.now + dt ∧ RegsBut [] s t ∧ StoresSame s t
    let word (i : Nat) : Nat := leNat ((bytes.drop (4 * i)).take 4)
    (bytes.length % 4 = 0 →
      Completes (.qspiWrite dt addr bytes) s
        (posts 4 ((List.range (bytes.length / 4)).map (fun i => (addr / 2 ^ 18 * 2 ^ 18 + (addr + 4 * i) % 2 ^ 18, word i))))
      ∧ Completes (.qspiWriteFixed dt addr bytes) s (posts 4 ((List.range (bytes.length / 4)).map (fun i => (addr, word i)))))
    ∧ (bytes.length = 1 → Completes (.qspiWrite8 dt addr bytes) s (posts 1 [(addr, leNat bytes)]))
    ∧ (bytes.length = 2 → Completes (.qspiWrite16 dt addr bytes) s (posts 2 [(addr, leNat bytes)]))

/-- With nothing posted, READ and READ_FIXED of n words of GEN.IRQ_EN and READ8, READ16 of it return its value; STATUS returns its
byte and clears OVF and HAF; the oldest posted write is carried out as the same register write; a frame error raises the host
access fault with cause 0x5. It rests on the model's choices of log entries 20, 127 and 129. -/
def Obligations.QuadSpiReadsStatusAndErrors : Prop :=
  ∀ (dt n : Nat) (s : State), Between s → qspiOn s = true →
    let keeps (t : State) : Prop := t.now = s.now + dt ∧ RegsBut [] s t ∧ StoresSame s t
    let en := rd s GEN_IRQ_EN_EN
    (s.host.posted = [] → s.host.staged = none →
      Completes (.qspiRead dt 0x18 1) s (fun t => t.host.rdata = [en % 2 ^ 32] ∧ keeps t)
      ∧ Completes (.qspiReadFixed dt 0x18 n) s (fun t => t.host.rdata = List.replicate n (en % 2 ^ 32) ∧ keeps t)
      ∧ Completes (.qspiRead8 dt 0x19) s (fun t => t.host.rdata = [en / 2 ^ 8 % 2 ^ 8] ∧ t.host.rsize = 1 ∧ keeps t)
      ∧ Completes (.qspiRead16 dt 0x1A) s (fun t => t.host.rdata = [en / 2 ^ 16 % 2 ^ 16] ∧ t.host.rsize = 2 ∧ keeps t))
    ∧ Completes (.qspiStatus dt) s (fun t => t.host.ovf = false ∧ t.host.haf = false
      ∧ t.host.status.testBit 0 = (s.host.posted != []) ∧ t.host.status.testBit 2 = s.host.ovf ∧ t.host.status.testBit 3 = s.host.haf
      ∧ t.host.status.testBit 6 = (rd s IMG_STATUS_STATE == 4) ∧ keeps t)
    ∧ (∀ v rest, s.host.staged = none → s.host.posted = { addr := 0x18, size := 4, data := v } :: rest →
      Completes (.postedWriteExecute dt) s (fun t => t.host.posted = rest ∧ rd t GEN_IRQ_EN_EN = v % 2 ^ 32 ∧ t.now = s.now + dt
        ∧ RegsBut [GEN_IRQ_EN_EN] s t ∧ StoresSame s t))
    ∧ Effects (.qspiFrameError dt) s (fun v => v.flt.raised = [(0, none)] ∧ v.host.haf = true ∧ v.now = s.now + dt
      ∧ (rd s GEN_HAF_VALID ≠ 1 → rd v GEN_HAF_VALID = 1 ∧ rd v GEN_HAF_CAUSE = 5 ∧ rd v GEN_HAF_MORE = 0)
      ∧ RegsBut [GEN_HAF_VALID, GEN_HAF_CAUSE, GEN_HAF_ADDR, GEN_HAF_MORE] s v ∧ StoresSame s v)

/-- With PAIR = 1 and nothing waiting, a 2-byte write of the low half of GEN.IRQ_EN is staged for 10 µs; a 2-byte write of its high
half then completes one 4-byte write; a half left staged is carried out alone at its limit. A 2-byte read of the low half returns
it and holds the high half, which the read of the high half returns. With both strobes low nothing happens but the host access
fault with cause 0x5. With PAIR = 0 each half stands alone. It rests on the model's choices of log entries 20, 26 and 129. -/
def Obligations.ParallelPortPairsHalves : Prop :=
  ∀ (dt data : Nat) (s : State), Between s → parOn s = true → s.host.posted = [] →
    let en := rd s GEN_IRQ_EN_EN
    let keeps (l : List Fld) (t : State) : Prop := RegsBut l s t ∧ StoresSame s t
    (s.host.staged = none → rd s GEN_HOSTCFG_PAIR = 1 →
      Completes (.parallelWrite dt 0x18 3 false data) s (fun t =>
        t.host.staged = some (0x18, data % 65536, t.now + 10 * usU) ∧ t.now = s.now + dt ∧ keeps [] t)
      ∧ Completes (.parallelRead dt 0x18 3 false) s (fun t =>
        t.host.rdata = [en % 2 ^ 16] ∧ t.host.heldHalf = some (0x18, en % 2 ^ 32 / 2 ^ 16) ∧ t.now = s.now + dt ∧ keeps [] t)
      ∧ ∀ v, s.host.heldHalf = some (0x18, v) → Completes (.parallelRead dt 0x1A 3 false) s (fun t =>
        t.host.rdata = [v] ∧ t.host.heldHalf = none ∧ t.now = s.now + dt ∧ keeps [] t))
    ∧ (∀ low dl, s.host.staged = some (0x18, low, dl) →
      (rd s GEN_HOSTCFG_PAIR = 1 → low < 65536 → s.now + dt ≤ dl → Completes (.parallelWrite dt 0x1A 3 false data) s (fun t =>
        t.host.staged = none ∧ rd t GEN_IRQ_EN_EN = low + data % 65536 * 65536 ∧ t.now = s.now + dt ∧ keeps [GEN_IRQ_EN_EN] t))
      ∧ Completes .halfWordPairTimeout s (fun t =>
        t.host.staged = none ∧ rd t GEN_IRQ_EN_EN % 2 ^ 32 = en % 2 ^ 32 / 2 ^ 16 * 2 ^ 16 + low % 65536 ∧ t.now = max s.now dl ∧ keeps [GEN_IRQ_EN_EN] t))
    ∧ (s.host.staged = none → rd s GEN_HOSTCFG_PAIR = 0 →
      Completes (.parallelWrite dt 0x18 3 false data) s (fun t =>
        rd t GEN_IRQ_EN_EN % 2 ^ 32 = en % 2 ^ 32 / 2 ^ 16 * 2 ^ 16 + data % 65536 ∧ t.now = s.now + dt ∧ keeps [GEN_IRQ_EN_EN] t)
      ∧ Completes (.parallelRead dt 0x1A 3 false) s (fun t => t.host.rdata = [en / 2 ^ 16 % 2 ^ 16] ∧ t.now = s.now + dt ∧ keeps [] t))
    ∧ (s.host.staged = none → Effects (.parallelWrite dt 0x18 3 true data) s (fun v =>
      v.flt.raised = [(0, none)] ∧ v.now = s.now + dt
      ∧ (rd s GEN_HAF_VALID ≠ 1 → rd v GEN_HAF_VALID = 1 ∧ rd v GEN_HAF_CAUSE = 5 ∧ rd v GEN_HAF_ADDR = 0x18)
      ∧ keeps [GEN_HAF_VALID, GEN_HAF_CAUSE, GEN_HAF_ADDR, GEN_HAF_MORE] v))

/-- Each pop command (stamp and result queue of a postmark unit, zero-crossing queue, outcome queue, timestamp queue of a port and of
a link, inbound letterbox, dead-letter queue) answers the state whose queue has lost its head, an empty queue staying empty. Each
flush command of such a queue answers the state whose queue is empty with its sequence number, LOSS due and segment as they were;
DISCARD empties the staged letterbox words. Everything else is as the write found it. It rests on the model's choices of log
entries 25 and 159. -/
def Obligations.QueuePopsAndFlushes : Prop :=
  ∀ (dt b : Nat) (s : State), Between s →
    (b < 12 ∧ unitSize s b ≠ 0 → Open s (0x500018 + 128 * b) → exec (.pmuPopSq dt b) s = .next (modUnit b (fun u => { u with sq := qPop u.sq }) (Issued (0x500018 + 128 * b) dt s)))
    ∧ (b < 12 ∧ unitSize s b ≠ 0 → Open s (0x500018 + 128 * b) → exec (.pmuPopRq dt b) s = .next (modUnit b (fun u => { u with rq := qPop u.rq }) (Issued (0x500018 + 128 * b) dt s)))
    ∧ (Open s (0x900124) → exec (.popZq dt) s = .next (modMns (fun m => { m with zq := qPop m.zq }) (Issued (0x900124) dt s)))
    ∧ (Open s 0xB00044 → Completes (.oqPop dt) s (fun t => t.sch = { s.sch with oq := qPop s.sch.oq } ∧ rd t SCH_OQCTL_QTHR = rd s SCH_OQCTL_QTHR % 2 ^ 9
      ∧ t.now = s.now + dt ∧ RegsBut [SCH_OQCTL_QTHR] s t ∧ StoresSame s t))
    ∧ (b < 6 → Open s (0xC00460 + 128 * b) → exec (.portTsqPop dt b) s = .next (modPort b (fun p => { p with tsq := qPop p.tsq }) (Issued (0xC00460 + 128 * b) dt s)))
    ∧ (b < 4 → Open s (0xD001A0) → exec (.tsqPop dt b) s = .next (modLink b (fun l => { l with tsq := qPop l.tsq }) (Issued (0xD001A0) dt s)))
    ∧ (Open s (0xD001A0) → exec (.lbiPop dt) s = .next (modCrl (fun c => { c with lbi := c.lbi.tail }) (Issued (0xD001A0) dt s)))
    ∧ (Open s (0xD001A0) → exec (.dlqPop dt) s = .next (modCrl (fun c => { c with dlq := c.dlq.tail }) (Issued (0xD001A0) dt s)))
    ∧ (b < 12 ∧ unitSize s b ≠ 0 → Open s (0x500018 + 128 * b) → exec (.pmuFlushSq dt b) s = .next (modUnit b (fun u => { u with sq := qFlush u.sq }) (Issued (0x500018 + 128 * b) dt s)))
    ∧ (b < 12 ∧ unitSize s b ≠ 0 → Open s (0x500018 + 128 * b) → exec (.pmuFlushRq dt b) s = .next (modUnit b (fun u => { u with rq := qFlush u.rq }) (Issued (0x500018 + 128 * b) dt s)))
    ∧ (Open s (0x900124) → exec (.flushZq dt) s = .next (modMns (fun m => { m with zq := qFlush m.zq }) (Issued (0x900124) dt s)))
    ∧ (Open s 0xB00044 → Completes (.oqFlush dt) s (fun t => t.sch = { s.sch with oq := qFlush s.sch.oq } ∧ rd t SCH_OQCTL_QTHR = rd s SCH_OQCTL_QTHR % 2 ^ 9
      ∧ t.now = s.now + dt ∧ RegsBut [SCH_OQCTL_QTHR] s t ∧ StoresSame s t))
    ∧ (b < 6 → Open s (0xC00460 + 128 * b) → exec (.portTsqFlush dt b) s = .next (modPort b (fun p => { p with tsq := qFlush p.tsq }) (Issued (0xC00460 + 128 * b) dt s)))
    ∧ (b < 4 → Open s (0xD001A0) → exec (.tsqFlush dt b) s = .next (modLink b (fun l => { l with tsq := qFlush l.tsq }) (Issued (0xD001A0) dt s)))
    ∧ (Open s (0xD00188) → exec (.discardCmd dt) s = .next (modCrl (fun c => { c with staged := [] }) (Issued (0xD00188) dt s)))

/-- Through any alias on an open host port, a write of a configuration register (WARM_MAX, an input, a slot, a postmark unit, a
selector, a phase step, FRW_HI, COMMIT, ADJ_HI, UTC, GT_CFG, GCFG, a site register of AST, a PTP port, CLK_CFG, a Courier link)
stores the bits of each of its fields, changes no other register, and what its rule says then follows; COMMIT waits for its
boundary. It is refused with the host access fault, nothing stored, where the rule says so: a slice without a unit, a MAN_SLOT
outside the candidates, a step of MODE above 1 or of MODE 1 with SLEW 0, a commit that may not be taken, ADJ_HI with SLEW 0, a
change of GRID_F while grid time is on. It rests on the model's choices of log entries 24, 29, 30, 67, 69, 75, 81, 95, 147 and
161. -/
def Obligations.ConfigurationWritesAreStoredAndFollowed : Prop :=
  ∀ (dt n r al data : Nat) (s : State), Between s → al < 4 →
    let z (a : Nat) : State := Issued (a + al * 2 ^ 18) dt s
    let v (a : Nat) : Nat := aliasData al (liveWord (z a) a) (data % 2 ^ 32)
    let w (a : Nat) : State := storeWord a 15 (v a) (z a)
    let stored (a : Nat) (l : List Fld) (u : State) : Prop := u = w a ∧ (∀ f ∈ l, rd u f = v a / 2 ^ f.lo % 2 ^ fldWidth f)
      ∧ u.now = s.now + dt ∧ u.flt.raised = [] ∧ RegsBut l s u ∧ StoresSame s u
    (Open s (0x400330) → Leads (.warmMaxWrite dt al data) s (fun u => if warmOver u then warmEnd true u else u) (fun u => stored (0x400330) [REF_SYSCLK_WARM_MAX] u))
    ∧ (n < 16 → Open s (0x400000 + 32 * n) → Leads (.inputConfigWrite dt n 0 al data) s (refInput n (z (0x400000 + 32 * n))) (fun u => stored (0x400000 + 32 * n) [REF_INn_CFG_EN n, REF_INn_CFG_LEG n, REF_INn_CFG_POL n, REF_INn_CFG_QL n, REF_INn_CFG_DIV n] u))
    ∧ (n < 16 → r < 8 → Open s (0x400000 + 32 * n + 4 * r) → Leads (.inputConfigWrite dt n r al data) s (refInput n (z (0x400000 + 32 * n + 4 * r))) (fun u => u = w (0x400000 + 32 * n + 4 * r)))
    ∧ (n < 32 → Open s (0x400200 + 8 * n) → Leads (.slotCfgWrite dt n al data) s (slotEval n) (fun u => stored (0x400200 + 8 * n) [REF_SLOTs_CFG_OVR n, REF_SLOTs_CFG_OVR_QL n, REF_SLOTs_CFG_QUAL_TIME n] u))
    ∧ (n < 12 → r < 6 → unitSize s n ≠ 0 → Open s (0x500000 + 128 * n + 4 * r) → Leads (.unitConfigWrite dt n r al data) s (fun u => unitRestart n (unitEval n u)) (fun u => u = w (0x500000 + 128 * n + 4 * r)))
    ∧ (n < 12 → r < 6 → unitSize s n = 0 → Open s (0x500000 + 128 * n + 4 * r) → Brings (.unitConfigWrite dt n r al data) s (refuse (z (0x500000 + 128 * n + 4 * r))))
    ∧ (n < 8 → selBadSlot (z (0x600000 + 64 * n)) n ⟨0x600000 + 64 * n, 15, v (0x600000 + 64 * n)⟩ = false → Open s (0x600000 + 64 * n) → Leads (.selectionConfigWrite dt n 0 al data) s (selCfgWritten n (z (0x600000 + 64 * n))) (fun u => stored (0x600000 + 64 * n) [SEL_SELd_CFG_SELMODE n, SEL_SELd_CFG_REVERT n, SEL_SELd_CFG_PBO n, SEL_SELd_CFG_QL_LIMIT n, SEL_SELd_CFG_MAN_SLOT n] u))
    ∧ (n < 8 → selBadSlot (z (0x600000 + 64 * n)) n ⟨0x600000 + 64 * n, 15, v (0x600000 + 64 * n)⟩ = true → Open s (0x600000 + 64 * n) → Brings (.selectionConfigWrite dt n 0 al data) s (refuse (z (0x600000 + 64 * n))))
    ∧ (n < 8 → Open s (0x600004 + 64 * n) → Leads (.selectionConfigWrite dt n 1 al data) s (fun u => (fun x => if differ (z (0x600004 + 64 * n)) x [SEL_SELd_MASK_EN n] then selMark n 11 x else x) (put (SEL_SELd_MASK_EN n) (rd u (SEL_SELd_MASK_EN n) &&& candMask u n) u)) (fun u => stored (0x600004 + 64 * n) [SEL_SELd_MASK_EN n] u))
    ∧ (n < 8 → 2 ≤ r → r < 6 → Open s (0x600000 + 64 * n + 4 * r) → Leads (.selectionConfigWrite dt n r al data) s (fun u => if differ (z (0x600000 + 64 * n + 4 * r)) u [SEL_SELd_PRI_PRI n (r - 2)] then selMark n 11 u else u) (fun u => u = w (0x600000 + 64 * n + 4 * r)))
    ∧ (n < 8 → v (0x600424 + 128 * n) / 2 ^ 30 % 4 ≤ 1 → (v (0x600424 + 128 * n) / 2 ^ 30 % 4 = 1 → rd s (SEL_DPLLd_SLEW_SLEW n) ≠ 0) → Open s (0x600424 + 128 * n) → Leads (.phaseStepWrite dt n al data) s (stepWritten n) (fun u => stored (0x600424 + 128 * n) [SEL_DPLLd_PSTEP_HI_MODE n, SEL_DPLLd_PSTEP_HI_P n] u))
    ∧ (n < 8 → (2 ≤ v (0x600424 + 128 * n) / 2 ^ 30 % 4 ∨ (v (0x600424 + 128 * n) / 2 ^ 30 % 4 = 1 ∧ rd s (SEL_DPLLd_SLEW_SLEW n) = 0)) → Open s (0x600424 + 128 * n) → Brings (.phaseStepWrite dt n al data) s (refuse (z (0x600424 + 128 * n))))
    ∧ (n < 8 → Open s (0x600430 + 128 * n) → Leads (.frwHiWrite dt n al data) s (frwWritten n) (fun u => stored (0x600430 + 128 * n) [SEL_DPLLd_FRW_HI_FR_WORD n] u))
    ∧ (commitRefused (z 0x700180) (v 0x700180 % 4) (v 0x700180 / 2 ^ 16 % 2 ^ 16) ((v 0x700180).testBit 2) = false → Open s 0x700180 → Completes (.synCommit dt al data) s (fun t => rd t SYN_STAT_COMMIT_PEND = 1 ∧ t.commit = s.commit ++ [newCommit (z 0x700180) (v 0x700180 % 4) (v 0x700180 / 2 ^ 16 % 2 ^ 16) ((v 0x700180).testBit 2) false (s.now + dt + usU)] ∧ t.now = s.now + dt ∧ RegsBut [SYN_STAT_COMMIT_PEND] s t ∧ StoresSame s t))
    ∧ (commitRefused (z 0x700180) (v 0x700180 % 4) (v 0x700180 / 2 ^ 16 % 2 ^ 16) ((v 0x700180).testBit 2) = true → Open s 0x700180 → Brings (.synCommit dt al data) s (refuse (z 0x700180)))
    ∧ (rd s (SEL_DPLLd_SLEW_SLEW (timeDpll s)) ≠ 0 → Open s (0x800044) → Leads (.adjHiWrite dt al data) s (adjWritten) (fun u => stored (0x800044) [TKP_ADJ_HI_ADJ] u))
    ∧ (rd s (SEL_DPLLd_SLEW_SLEW (timeDpll s)) = 0 → Open s (0x800044) → Brings (.adjHiWrite dt al data) s (refuse (z (0x800044))))
    ∧ (Open s (0x800048) → Leads (.utcWrite dt al data) s (fun u => if (utcWritten u).tkp.civ = u.tkp.civ then utcWritten u else astEval true (utcWritten u)) (fun u => stored (0x800048) [TKP_UTC_DAT_HOST, TKP_UTC_HOST_LEAP, TKP_UTC_HOST_DEL, TKP_UTC_DAT_FORCE] u))
    ∧ (Open s (0x900108) → Leads (.gtCfgWrite dt al data) s (gtCfgChanged (on (z 0x900108) MNS_GT_CFG_EN)) (fun u => stored (0x900108) [MNS_GT_CFG_EN, MNS_GT_CFG_ALT_EN, MNS_GT_CFG_GT_CH, MNS_GT_CFG_GT_ALT] u))
    ∧ ((rd s MNS_GT_CFG_EN ≠ 1 ∨ v 0x900100 / 2 ^ 31 % 2 = rd s MNS_GCFG_GRID_F) → Open s (0x900100) → Leads (.gridFWrite dt al data) s (gcfgWritten (z 0x900100)) (fun u => stored (0x900100) [MNS_GCFG_GRID_F, MNS_GCFG_SEQ0_EN, MNS_GCFG_SEQ1_EN, MNS_GCFG_SEQ_TOL, MNS_GCFG_DIST_THR] u))
    ∧ (rd s MNS_GT_CFG_EN = 1 → v 0x900100 / 2 ^ 31 % 2 ≠ rd s MNS_GCFG_GRID_F → rd s IMG_STATUS_STATE ≠ 3 → Open s (0x900100) → Brings (.gridFWrite dt al data) s (refuse (z (0x900100))))
    ∧ (r < 8 → Open s (0xA00000 + 4 * r) → Leads (.astSiteWrite dt r al data) s (fun u => astEval (differ (z (0xA00000 + 4 * r)) u siteFields) u) (fun u => u = w (0xA00000 + 4 * r)))
    ∧ (Open s (0xA00000) → Leads (.astSiteWrite dt 0 al data) s (fun u => astEval (differ (z 0xA00000) u siteFields) u) (fun u => stored (0xA00000) [AST_LAT_LAT] u))
    ∧ (n < 6 → Open s (0xC00400 + 128 * n) → Leads (.portConfigWrite dt n 0 al data) s (fun u => portWritten n (differ (z (0xC00400 + 128 * n)) u [PTP_Pp_CFG_PTP_EN n, PTP_Pp_CFG_TRANSPORT n, PTP_Pp_CFG_STEP n, PTP_Pp_CFG_NFWD n, PTP_Pp_CFG_TAG n]) (differ (z (0xC00400 + 128 * n)) u [PTP_Pp_CFG_SERDES n, PTP_Pp_CFG_AN n] || !on u (PTP_Pp_CFG_EN n)) false u) (fun u => stored (0xC00400 + 128 * n) [PTP_Pp_CFG_EN n, PTP_Pp_CFG_SERDES n, PTP_Pp_CFG_AN n, PTP_Pp_CFG_PTP_EN n, PTP_Pp_CFG_TRANSPORT n, PTP_Pp_CFG_STEP n, PTP_Pp_CFG_NFWD n, PTP_Pp_CFG_TAG n, PTP_Pp_CFG_PTP_Q7 n, PTP_Pp_CFG_PVID n] u))
    ∧ (n < 6 → r < 25 → (rowAt (0xC00400 + 128 * n + 4 * r)).isSome → Open s (0xC00400 + 128 * n + 4 * r) → Leads (.portConfigWrite dt n r al data) s (fun u => portRegWritten n (4 * r) ⟨0xC00400 + 128 * n + 4 * r, 15, v (0xC00400 + 128 * n + 4 * r)⟩ (z (0xC00400 + 128 * n + 4 * r)) u) (fun u => u = w (0xC00400 + 128 * n + 4 * r)))
    ∧ (Open s (0xC00000) → Leads (.clkCfgWrite dt al data) s (fun u => if differ (z 0xC00000) (ptpCfgEval (ptpStale u)) [PTP_CLK_CFG_PROFILE, PTP_CLK_CFG_DOMAIN] then portsRestart (ptpCfgEval (ptpStale u)) else ptpCfgEval (ptpStale u)) (fun u => stored (0xC00000) [PTP_CLK_CFG_PROFILE, PTP_CLK_CFG_ATOI, PTP_CLK_CFG_DEGRADE, PTP_CLK_CFG_AUTH_TX, PTP_CLK_CFG_DOMAIN, PTP_CLK_CFG_PRIORITY1, PTP_CLK_CFG_PRIORITY2] u))
    ∧ (n < 4 → Open s (0xD00000 + 64 * n) → Leads (.linkConfigWrite dt n 0 al data) s (linkWritten n (z (0xD00000 + 64 * n))) (fun u => stored (0xD00000 + 64 * n) [CRL_LKk_CFG_EN n, CRL_LKk_CFG_ROLE n, CRL_LKk_CFG_REMOTE n, CRL_LKk_CFG_ADDR n, CRL_LKk_CFG_CBASE n, CRL_LKk_CFG_PROBE_N n] u))
    ∧ (n < 4 → 1 ≤ r → r < 16 → (rowAt (0xD00000 + 64 * n + 4 * r)).isSome → Open s (0xD00000 + 64 * n + 4 * r) → Leads (.linkConfigWrite dt n r al data) s (fun u => if r = 5 then folEval (linkCfgEval n u) else u) (fun u => u = w (0xD00000 + 64 * n + 4 * r)))

/-- On an idle host port, a 4-byte read at any aligned address whose decoded offset holds no register returns 0; a write there, once
an image is applied and with no partial reload of its block under way, is ignored and raises no fault. No register and no store
changes. -/
def Obligations.OffsetsWithoutARegister : Prop :=
  ∀ (dt a data : Nat) (s : State), Between s → HostIdle s → a % 4 = 0 → rowAt (wordAddr a) = none →
    let same (t : State) : Prop := t.flt = s.flt ∧ t.now = s.now + dt ∧ RegsBut [] s t ∧ StoresSame s t
    Completes (.readClear dt a 4) s (fun t => t.host.rdata = [0] ∧ same t)
    ∧ (s.img.applied = true → prTarget s ≠ some (blockOf (wordAddr a)) → isPartnerReg (wordAddr a) = false →
      Completes (.registerWrite dt a 4 data) s same)

/-- On an idle host port, a 4-byte read of any register at an aligned address through the set, clear or toggle alias returns the value
that the plain alias would return, and every field of the register that clears on read reads as before it. -/
def Obligations.AliasReadsNeverClear : Prop :=
  ∀ (dt a al : Nat) (s : State), Between s → HostIdle s → a % 4 = 0 → a / 2 ^ 18 % 4 = 0 → a < 2 ^ 24 → 1 ≤ al → al ≤ 3 →
    ∃ t, exec (.readClear dt a 4) s = .next t ∧ ∃ u, exec (.readClear dt (a + al * 2 ^ 18) 4) s = .next u
      ∧ u.host.rdata = t.host.rdata ∧ (wordAddr a ≠ 0xF00028 → RegsBut [] s u)
      ∧ ∀ p ∈ fieldsAt (wordAddr a), p.2 = 2 → rd u p.1 = rd s p.1

/-- With an image applied and no write refused, a write of GEN.MODE with BUSY = 0 and the secure-mode lock not against it stores its
eight bits; where a bit differs from EFFECTIVE, BUSY becomes 1, IN_TRANSIT the bits that differ, and the sequences wait: exits in
the order AS, MS, CA, TS, TC, FR, MT, SE, then entries in the order SE, MT, FR, TC, TS, CA, MS, AS; an isolation requested in the
core cycle of a write that starts an MT exit does not take place (R60); the first sequence begins. With BUSY = 1 it only sets
REJECT and raises the host access fault with cause 0x4, or 0x3 where the lock is against it. Nothing else changes. It rests on the
model's choices of log entries 4 and 5. -/
def Obligations.ModeWriteBeginsItsSequences : Prop :=
  ∀ (dt data : Nat) (s : State), Between s → HostIdle s → s.img.applied = true →
    let m := data % 256
    let a := rd s GEN_MODESTAT_EFFECTIVE
    let exits := [4, 3, 5, 0, 1, 2, 6, 7].filter (fun i => a.testBit i && !m.testBit i)
    let entries := [7, 6, 2, 1, 0, 5, 3, 4].filter (fun i => m.testBit i && !a.testBit i)
    let todo := exits.map (fun i => (i, false)) ++ entries.map (fun i => (i, true))
    let modes := [GEN_MODE_MODE_TS, GEN_MODE_MODE_TC, GEN_MODE_MODE_FR, GEN_MODE_MODE_MS, GEN_MODE_MODE_AS, GEN_MODE_MODE_CA, GEN_MODE_MODE_MT,
      GEN_MODE_MODE_SE]
    let hafs := [GEN_HAF_VALID, GEN_HAF_CAUSE, GEN_HAF_ADDR, GEN_HAF_MORE]
    let stores (t : State) : Prop := (∀ i < 8, rd t (modes.getD i GEN_MODE_MODE_TS) = (m.testBit i).toNat) ∧ t.now = s.now + dt ∧ StoresSame s t
    (rd s GEN_MODESTAT_BUSY = 0 → (rd s GEN_LOCK_SE_LOCK = 0 ∨ m / 128 = rd s GEN_MODE_MODE_SE) →
      (todo = [] → Completes (.genModeWrite dt 0 data) s (fun t => stores t ∧ RegsBut modes s t))
      ∧ (todo ≠ [] → Leads (.genModeWrite dt 0 data) s modeBegin (fun u =>
        stores u ∧ u.gen.todo = todo
        ∧ (∀ b < 16, ix u.gen.iso b = if (6, false) ∈ todo ∧ ix s.gen.iso b = .isolating ∧ ix s.gen.isoAt b = cycleOf (s.now + dt) + 1 then .none
          else ix s.gen.iso b) ∧ rd u GEN_MODESTAT_BUSY = 1 ∧ rd u GEN_MODESTAT_IN_TRANSIT = (a ^^^ m) % 256 ∧ u.flt.raised = []
        ∧ RegsBut (modes ++ [GEN_MODESTAT_BUSY, GEN_MODESTAT_IN_TRANSIT]) s u)))
    ∧ (rd s GEN_MODESTAT_BUSY = 1 ∨ (rd s GEN_MODESTAT_BUSY = 0 ∧ rd s GEN_LOCK_SE_LOCK = 1 ∧ rd s GEN_MODE_MODE_SE = 1 ∧ m < 128) →
      Effects (.genModeWrite dt 0 data) s (fun v => rd v GEN_MODESTAT_REJECT = 1 ∧ v.flt.raised = [(0, none)]
        ∧ (rd s GEN_HAF_VALID = 0 → rd v GEN_HAF_VALID = 1 ∧ rd v GEN_HAF_ADDR = 8 ∧ rd v GEN_HAF_CAUSE = if rd s GEN_MODESTAT_BUSY = 1 then 4 else 3)
        ∧ RegsBut (GEN_MODESTAT_REJECT :: hafs) s v ∧ StoresSame s v))

/-- The completion of the sequence in hand, of bit i, sets or clears bit i of EFFECTIVE and clears it in IN_TRANSIT, every other bit
staying; what the mode does follows, then the next sequence, or BUSY = 0 and MODECHG once none is left. An MT exit waits while a
block is isolated or a partial reload runs. It rests on the model's choices of log entries 4, 5 and 131. -/
def Obligations.ModeSequenceCompletes : Prop :=
  ∀ (dt i : Nat) (entry : Bool) (rest : List (Nat × Bool)) (s : State), Between s → s.gen.todo = (i, entry) :: rest → i < 8 →
    let held := i = 6 ∧ entry = false ∧ ((∃ b < 16, ix s.gen.iso b ≠ .none) ∨ (7 ≤ rd s IMG_STATUS_STATE ∧ rd s IMG_STATUS_STATE ≤ 9))
    (held → Completes (.modeSequenceDone dt) s (fun t => t.gen = s.gen ∧ t.now = s.now + dt ∧ RegsBut [] s t ∧ StoresSame s t))
    ∧ (¬held → Leads (.modeSequenceDone dt) s (modeFollow i entry) (fun u =>
      (∀ j < 8, (rd u GEN_MODESTAT_EFFECTIVE).testBit j = if j = i then entry else (rd s GEN_MODESTAT_EFFECTIVE).testBit j)
      ∧ (∀ j < 8, (rd u GEN_MODESTAT_IN_TRANSIT).testBit j = ((rd s GEN_MODESTAT_IN_TRANSIT).testBit j && j != i))
      ∧ u.gen.todo = rest ∧ u.now = s.now + dt ∧ u.flt.raised = []
      ∧ RegsBut [GEN_MODESTAT_EFFECTIVE, GEN_MODESTAT_IN_TRANSIT] s u ∧ StoresSame s u))
    ∧ (¬held → (i = 3 ∨ (i = 6 ∧ entry = true)) → rest = [] → Completes (.modeSequenceDone dt) s (fun t =>
      rd t GEN_MODESTAT_BUSY = 0 ∧ rd t GEN_IRQ_STAT_MODECHG = 1 ∧ (rd t GEN_MODESTAT_EFFECTIVE).testBit i = entry
      ∧ RegsBut [GEN_MODESTAT_EFFECTIVE, GEN_MODESTAT_IN_TRANSIT, GEN_MODESTAT_BUSY, GEN_IRQ_STAT_MODECHG] s t ∧ StoresSame s t))

/-- In MT with no MT exit under way, a write of GEN.ISOLATE stores ISO_REQ and moves each block: none to isolating and releasing to
releasing-again on a 1, isolated and releasing-again to releasing on a 0. At other times it is refused with the host access fault.
Reaching its isolated state sets the ISO_DONE bit of the block, completing its release, which waits while the block is the target
of a partial reload, clears it, no other bit of it changing; what isolation and release do in the block follows. A write of 1 sets
SE_LOCK. It rests on the model's choices of log entries 3, 4, 36 and 132. -/
def Obligations.BlocksAreIsolatedAndReleased : Prop :=
  ∀ (dt b data : Nat) (s : State), Between s →
    (HostIdle s → s.img.applied = true →
      ((rd s GEN_MODESTAT_EFFECTIVE).testBit 6 = true → (rd s GEN_MODESTAT_IN_TRANSIT).testBit 6 = false →
        Completes (.genIsolateWrite dt 0 data) s (fun t => rd t GEN_ISOLATE_ISO_REQ = data % 2 ^ 32 / 16 % 2 ^ 11
          ∧ (∀ j < 11, let p := ix s.gen.iso (j + 4); ix t.gen.iso (j + 4) =
              if data.testBit (j + 4) then (if p = .none then .isolating else if p = .releasing then .releasingAgain else p)
              else (if p = .isolated ∨ p = .releasingAgain then .releasing else p))
          ∧ t.now = s.now + dt ∧ RegsBut [GEN_ISOLATE_ISO_REQ] s t ∧ StoresSame s t))
      ∧ ((rd s GEN_MODESTAT_EFFECTIVE).testBit 6 = false ∨ (rd s GEN_MODESTAT_IN_TRANSIT).testBit 6 = true →
        Effects (.genIsolateWrite dt 0 data) s (fun v => v.flt.raised = [(0, none)] ∧ v.gen = s.gen
          ∧ RegsBut [GEN_HAF_VALID, GEN_HAF_CAUSE, GEN_HAF_ADDR, GEN_HAF_MORE] s v ∧ StoresSame s v)))
    ∧ (4 ≤ b → b ≤ 14 → ix s.gen.iso b = .isolating → Leads (.isolationDone dt b) s (isoFollow b) (fun u =>
      ix u.gen.iso b = .isolated ∧ (∀ j < 11, (rd u GEN_ISOLATE_ISO_DONE).testBit j = ((rd s GEN_ISOLATE_ISO_DONE).testBit j || j == b - 4))
      ∧ u.now = s.now + dt ∧ u.flt.raised = [] ∧ RegsBut [GEN_ISOLATE_ISO_DONE] s u ∧ StoresSame s u))
    ∧ (4 ≤ b → b ≤ 14 → (ix s.gen.iso b = .releasing ∨ ix s.gen.iso b = .releasingAgain) →
      prTarget s ≠ some b →
      Leads (.releaseDone dt b) s (releaseFollow b) (fun u =>
        ix u.gen.iso b = (if ix s.gen.iso b = .releasingAgain then .isolating else .none)
        ∧ (∀ j < 11, (rd u GEN_ISOLATE_ISO_DONE).testBit j = ((rd s GEN_ISOLATE_ISO_DONE).testBit j && j != b - 4))
        ∧ u.now = s.now + dt ∧ u.flt.raised = [] ∧ RegsBut [GEN_ISOLATE_ISO_DONE] s u ∧ StoresSame s u))
    ∧ (prTarget s = some b → Completes (.releaseDone dt b) s (fun t => t.gen = s.gen ∧ t.now = s.now + dt ∧ RegsBut [] s t ∧ StoresSame s t))
    ∧ (HostIdle s → Completes (.seLockWrite dt) s (fun t => rd t GEN_LOCK_SE_LOCK = 1 ∧ t.now = s.now + dt ∧ RegsBut [GEN_LOCK_SE_LOCK] s t ∧ StoresSame s t))

/-- A presence window with fewer edges than its class asks for makes SYSCLK_PRES 0 and raises source 11; the eighth window in a row
with enough makes it 1. The core frame aligned clears CORE_FROZEN. An RCLK interval of n core cycles gives RCLK_OK the answer
whether it lies within 20 % of 8.192 MHz; its fall raises source 2. OCXO_RDY follows its pin in the oven class, but for a ball on
the die only; its fall outside a warm-up raises source 13 and starts one. A warm-up ends normally 1 s after OCXO_RDY rose, or at
WARM_MAX with WARM_TO and source 12. It rests on the model's choices of log entries 2, 4, 38 and 39. -/
def Obligations.ClocksAndTheOven : Prop :=
  ∀ (dt n : Nat) (s : State), Between s → s.rst.phase = .run →
    let least := if rd s RST_STRAP_CLKMODE = 1 then 15 else if rd s RST_STRAP_CLKMODE = 2 then 30 else 6
    let oven := rd s REF_SYSCLK_CLASS = 3
    (n < least → rd s GEN_CLKSTAT_SYSCLK_PRES = 0 → Completes (.sysclkPresenceWindow dt n) s (fun t => t.clk.pass = 0 ∧ RegsBut [] s t ∧ StoresSame s t))
    ∧ (n < least → rd s GEN_CLKSTAT_SYSCLK_PRES = 1 → Leads (.sysclkPresenceWindow dt n) s presGone (fun u =>
      u.clk.pass = 0 ∧ rd u GEN_CLKSTAT_SYSCLK_PRES = 0 ∧ u.flt.raised = [(11, none)] ∧ RegsBut [GEN_CLKSTAT_SYSCLK_PRES] s u ∧ StoresSame s u))
    ∧ (least ≤ n → (s.clk.pass < 7 ∨ rd s GEN_CLKSTAT_SYSCLK_PRES = 1) → Completes (.sysclkPresenceWindow dt n) s (fun t =>
      t.clk.pass = min 8 (s.clk.pass + 1) ∧ RegsBut [] s t ∧ StoresSame s t))
    ∧ (least ≤ n → 7 ≤ s.clk.pass → rd s GEN_CLKSTAT_SYSCLK_PRES = 0 → Leads (.sysclkPresenceWindow dt n) s presBack (fun u =>
      u.clk.pass = 8 ∧ rd u GEN_CLKSTAT_SYSCLK_PRES = 1 ∧ u.flt.raised = [] ∧ RegsBut [GEN_CLKSTAT_SYSCLK_PRES] s u ∧ StoresSame s u))
    ∧ (rd s GEN_CLKSTAT_CORE_LOCK = 1 → rd s GEN_CLKSTAT_CORE_FROZEN = 1 → Leads (.coreAlignDone dt) s frozenEval (fun u =>
      rd u GEN_CLKSTAT_CORE_FROZEN = 0 ∧ u.now = s.now + dt ∧ u.flt.raised = [] ∧ RegsBut [GEN_CLKSTAT_CORE_FROZEN] s u ∧ StoresSame s u))
    ∧ (rd s GEN_CLKSTAT_CORE_LOCK = 1 →
      let good := n * 6553600 ≤ 1024 * 400000000 ∧ 1024 * 400000000 ≤ n * 9830400
      Effects (.rclkMeasurementEnd n) s (fun v => v.now = max s.now (s.clk.rclkAt + n * cycU) ∧ (rd v GEN_CLKSTAT_RCLK_OK = 1 ↔ good)
        ∧ v.flt.raised = (if ¬good ∧ rd s GEN_CLKSTAT_RCLK_OK = 1 then [(2, none)] else []) ∧ RegsBut [GEN_CLKSTAT_RCLK_OK] s v ∧ StoresSame s v))
    ∧ (ballOff s ocxoBall = true → Completes (.ocxoRdyRise dt) s (fun t => t.clk = s.clk ∧ t.now = s.now + dt ∧ RegsBut [] s t ∧ StoresSame s t))
    ∧ (ballOff s ocxoBall = false → Completes (.ocxoRdyRise dt) s (fun t => t.clk.rdy = true ∧ t.clk.rdyAt = (if s.clk.rdy then s.clk.rdyAt else s.now + dt)
      ∧ (oven → rd t REF_SYSCLK_OCXO_RDY = 1) ∧ (¬oven → RegsBut [] s t) ∧ RegsBut [REF_SYSCLK_OCXO_RDY] s t ∧ StoresSame s t))
    ∧ (¬oven → Completes (.ocxoRdyFall dt) s (fun t => t.clk.rdy = false ∧ RegsBut [] s t ∧ StoresSame s t))
    ∧ (oven → s.clk.warmRun = false → rd s REF_SYSCLK_WARMING = 0 → rd s GEN_CLKSTAT_SYSCLK_PRES = 1 →
      Leads (.ocxoRdyFall dt) s (fun u => raise 13 none (warmStart u)) (fun u => u.clk.rdy = false ∧ rd u REF_SYSCLK_OCXO_RDY = 0
        ∧ u.now = s.now + dt ∧ RegsBut [REF_SYSCLK_OCXO_RDY] s u ∧ StoresSame s u))
    ∧ (s.clk.warmRun = true → s.clk.rdy = true →
      max s.clk.warmAt s.clk.rdyAt + secU ≤ s.clk.warmAt + rd s REF_SYSCLK_WARM_MAX * secU →
      Completes .warmupEnd s (fun t => rd t REF_SYSCLK_WARMING = 0 ∧ t.clk.warmRun = false ∧ t.now = max s.now (max s.clk.warmAt s.clk.rdyAt + secU)
        ∧ RegsBut [REF_SYSCLK_WARMING] s t ∧ StoresSame s t))
    ∧ (s.clk.warmRun = true → s.clk.rdy = false → Effects .warmupTimeout s (fun v => rd v REF_SYSCLK_WARMING = 0 ∧ rd v REF_SYSCLK_WARM_TO = 1
      ∧ v.flt.raised = [(12, none)] ∧ v.now = max s.now (s.clk.warmAt + rd s REF_SYSCLK_WARM_MAX * secU)
      ∧ RegsBut [REF_SYSCLK_WARMING, REF_SYSCLK_WARM_TO] s v ∧ StoresSame s v))

/-- RESET_N read low at the fourth RCLK edge in a row, or a later one, while the device runs, no host access in the core cycle, begins
a sequence at the level RESETMAP gives it: for L1 and L2 the hold step of 16 RCLK cycles begins, the host port drops its posted
writes, its hold and a staged half, and no register changes; for L0 the balls take their fail states first. Fewer low or high
samples change nothing. Its rise, the end of the power-on delay and of the FLT pulse only end the source. A rail read below its
falling threshold asserts the power-on source and names its bit (VDD_CORE below 600 mV loses retention); the last rail to read
above its rising threshold starts the delay of 8192 RCLK cycles; a reading between the two does neither. It rests on the model's
choices of log entries 3, 38, 45, 46 and 132. -/
def Obligations.ResetSourcesBeginASequence : Prop :=
  ∀ (dt i n mv : Nat) (s : State), Between s →
    let same (t : State) : Prop := t.rst = s.rst ∧ t.now = s.now + dt ∧ RegsBut [] s t ∧ StoresSame s t
    let fall := [720, 810, 1600, 1600].getD i 1500
    let rise := [740, 830, 1650, 1650].getD i 1550
    let begins (src l : Nat) (u : State) : Prop := u.rst.level = l ∧ u.rst.held = [] ∧ u.rst.seen = 2 ^ src
      ∧ u.host.posted = [] ∧ u.host.holdHi = none ∧ u.host.staged = none ∧ u.host.heldHalf = none ∧ u.now = s.now + dt ∧ StoresSame s u
    (4 ≤ n → s.rst.phase = .run → s.rst.pin = false → s.host.curAt ≠ cycleOf (s.now + dt) + 1 → (resetMap s 1 = 1 ∨ resetMap s 1 = 2) → Completes (.resetNLow ⟨dt, n⟩) s (fun t =>
      begins 1 (resetMap s 1) t ∧ t.rst.pin = true ∧ t.rst.phase = .hold (resetMap s 1) ∧ t.rst.holdEnd = s.now + dt + 16 * rclkU ∧ RegsBut [] s t))
    ∧ (4 ≤ n → s.rst.phase = .run → s.rst.pin = false → s.host.curAt ≠ cycleOf (s.now + dt) + 1 → resetMap s 1 = 0 → Leads (.resetNLow ⟨dt, n⟩) s (fun u => rstNext (rstBalls u)) (fun u =>
      begins 1 0 u ∧ u.rst.pin = true ∧ u.flt.raised = [] ∧ RegsBut [] s u))
    ∧ (n < 4 → Completes (.resetNLow ⟨dt, n⟩) s same ∧ Completes (.resetNHigh ⟨dt, n⟩) s same)
    ∧ (4 ≤ n → Completes (.resetNHigh ⟨dt, n⟩) s (fun t => t.rst = { s.rst with pin := false } ∧ t.now = s.now + dt ∧ RegsBut [] s t ∧ StoresSame s t))
    ∧ (∀ d, s.rst.porEnd = some d → Completes .porDelayEnd s (fun t => t.rst = { s.rst with por := false, porEnd := none }
      ∧ t.now = max s.now d ∧ RegsBut [] s t ∧ StoresSame s t))
    ∧ (∀ d, s.rst.fltEnd = some d → Completes .fltChipResetEnd s (fun t => t.rst = { s.rst with flt := false, fltEnd := none }
      ∧ t.now = max s.now d ∧ RegsBut [] s t ∧ StoresSame s t))
    ∧ (fall ≤ mv → Completes (.railFall dt i mv) s same) ∧ (mv ≤ rise → Completes (.railRise dt ⟨i, mv⟩) s same)
    ∧ (i < 11 → mv < fall → s.rst.phase = .run → s.rst.por = false → s.nvm.save = none → Leads (.railFall dt i mv) s (rstAssert 0) (fun u =>
      ix u.rst.low i = true ∧ u.rst.por = true ∧ u.rst.porEnd = none ∧ u.rst.rails = 2 ^ min i 4 ∧ u.rst.lost = (s.rst.lost || (decide (mv < 600) && i == 0))
      ∧ u.now = s.now + dt ∧ u.flt.raised = [] ∧ RegsBut [] s u ∧ StoresSame s u))
    ∧ (i < 11 → rise < mv → s.rst.por = true → s.rst.porEnd = none → Completes (.railRise dt ⟨i, mv⟩) s (fun t => ix t.rst.low i = false
      ∧ t.rst.porEnd = (if ∀ j < 11, j ≠ i → ix s.rst.low j = false then some (s.now + dt + 8192 * rclkU) else none)
      ∧ t.rst.por = true ∧ t.now = s.now + dt ∧ RegsBut [] s t ∧ StoresSame s t))

/-- The hold step of an L0 reset leaves every register at its reset value but for the always-on copies, the presence of SYSCLK_IN and
what the switching channels keep, empties the counter RAM and the queues, and keeps the MRAM and the fuses. That of an L2 reset,
outside a download or a reload, changes only FLT STATE, ALIVE_STOP and REJECT. A release leaves the sequence, after an L0 takes
each strap as the majority of its three samples and classifies the banks, and posts the cause. Loss of both supplies returns the
always-on domain to 0. It rests on the model's choices of log entries 6, 38, 40, 41, 42, 43, 66 and 160. -/
def Obligations.ResetLevelsDoWhatTheyReach : Prop :=
  ∀ (dt s1 s2 s3 : Nat) (banks : List Nat) (s : State), Between s →
    let kept := rwsFields ++ chanFields ++ [GEN_CLKSTAT_SYSCLK_PRES, TKP_RTC_CTL_PENDING, RST_CAUSE_PENDING]
    (s.rst.phase = .hold 0 → s.rst.level = 0 → Completes .resetHoldDone s (fun t =>
      (∀ f, fldKey f ∉ kept.map fldKey → rd t f = resetOf (fldKey f)) ∧ t.cram = [] ∧ t.mram = s.mram ∧ t.otp = s.otp ∧ t.aon.val = s.aon.val
      ∧ t.sch.oq.recs = [] ∧ t.mns.zq.recs = [] ∧ (∀ b < 12, (ix t.unit b).sq.recs = [] ∧ (ix t.unit b).rq.recs = [])
      ∧ t.sec = {} ∧ t.now = max s.now s.rst.holdEnd ∧ t.rst.phase = .wait))
    ∧ (s.rst.phase = .hold 2 → s.rst.level = 2 → rd s IMG_STATUS_STATE = 4 → rd s FLT_STAT_STATE ≠ 2 → Effects .resetHoldDone s (fun v =>
      rd v FLT_STAT_STATE = 0 ∧ rd v FLT_STAT_ALIVE_STOP = 0 ∧ rd v GEN_MODESTAT_REJECT = 0 ∧ v.rst.phase = .wait ∧ v.now = max s.now s.rst.holdEnd
      ∧ v.flt.raised = [] ∧ RegsBut [FLT_STAT_STATE, FLT_STAT_ALIVE_STOP, GEN_MODESTAT_REJECT] s v ∧ StoresSame s v))
    ∧ (s.rst.phase = .wait → s.rst.por = false → s.rst.pin = false → s.rst.flt = false →
      (s.rst.level = 2 → s.flt.corrupt = false → Completes (.resetRelease s1 s2 s3 0 false banks) s (fun t =>
        t.rst.phase = .run ∧ t.rst.held = [] ∧ rd t RST_CAUSE_PENDING = 1 ∧ t.now = s.now + rclkU ∧ RegsBut [RST_CAUSE_PENDING] s t ∧ StoresSame s t))
      ∧ (s.rst.level = 0 → Leads (.resetRelease s1 s2 s3 0 false banks) s startL0 (fun u =>
        u.rst.phase = .run
        ∧ (∃ m, (∀ i < 5, m.testBit i = ((s1.testBit i && s2.testBit i) || (s1.testBit i && s3.testBit i) || (s2.testBit i && s3.testBit i)))
          ∧ rd u RST_STRAP_BOOT = m % 4 ∧ rd u RST_STRAP_CLKMODE = m / 4 % 4 ∧ rd u RST_STRAP_HOSTSEL = m / 16 % 2 ∧ rd u REF_SYSCLK_CLASS = m / 4 % 4)
        ∧ (∀ i < 7, ix u.rst.bank33 i = if 2900 < banks.getD i 0 then 1 else if banks.getD i 0 < 2000 then 2 else 0) ∧ rd u SEC_STAT_FUSE_OK = 1 ∧ u.sec.sensed = s.otp % 2 ^ 2048 ∧ u.now = s.now + 516 * rclkU
        ∧ rd u RST_CAUSE_PENDING = 1 ∧ u.flt.raised = [] ∧ StoresSame s u)))
    ∧ Leads (.supplyAndVbatLoss dt) s rtcSlot (fun u => u.aon = { edge := slowEdges (s.now + dt) } ∧ rd u TKP_RTC_CTL_PENDING = 0
      ∧ rd u RST_CAUSE_PENDING = 0 ∧ u.flt.raised = [] ∧ RegsBut [TKP_RTC_CTL_PENDING, RST_CAUSE_PENDING] s u ∧ StoresSame s u)

/-- Once the core is locked, the store restored and SEC ready, IMG begins: after an L1 the run bank is verified again, else BOOT names
the MRAM, the flash or the host, PTR and RUN_BANK the pointer bank. A flash image is copied byte for byte into the spare bank, a
blank one fails with code 0x12. Pass 1 ends in the next state, or the failing code is recorded and the second candidate tried,
FAILED after it. Pass 2 applies an image none of whose records goes to the always-on domain (one that does waits for its batch):
STATE 4, its bank, version and identity shown. It rests on the model's choices of log entries 3, 8, 31, 33, 34, 35, 44, 73, 133,
134, 135, 136, 137 and 139. -/
def Obligations.BootTakesACandidateImage : Prop :=
  ∀ (dt : Nat) (bytes : List Byte) (s : State), Between s →
    let z := pass dt s
    let keeps (l : List Fld) (t : State) : Prop := t.now = s.now + dt ∧ RegsBut l s t
    let errs (code seg : Nat) (p2 : Bool) (t : State) : Prop := rd t IMG_ERR_CODE = code % 256 ∧ rd t IMG_ERR_SEG = seg % 256
      ∧ rd t IMG_ERR_PASS2 = p2.toNat ∧ rd t IMG_ERR_CAND = s.img.cand % 256
    let errRegs := [IMG_STATUS_STATE, IMG_ERR_CODE, IMG_ERR_SEG, IMG_ERR_PASS2, IMG_ERR_CAND]
    (rd s IMG_STATUS_STATE = 0 → s.rst.phase = .run → rd s GEN_CLKSTAT_CORE_LOCK = 1 → rd s GEN_CLKSTAT_SYSCLK_PRES = 1 → s.nvm.loaded = true →
      (s.sec.ready = true ∨ rd s SEC_STAT_STATE = 2) → Completes (.imgBootStart dt) s (fun t =>
        (if s.img.reapply then rd t IMG_STATUS_STATE = 2 ∧ keeps [IMG_STATUS_STATE] t
         else rd t IMG_STATUS_STATE = (if rd s RST_STRAP_BOOT = 1 then 1 else if rd s RST_STRAP_BOOT = 2 then 5 else 2)
           ∧ rd t IMG_STATUS_PTR = pointerBank s % 2 ∧ rd t IMG_STATUS_RUN_BANK = pointerBank s % 2 ∧ t.img.cand = 0
           ∧ keeps [IMG_STATUS_STATE, IMG_STATUS_PTR, IMG_STATUS_RUN_BANK] t) ∧ StoresSame s t))
    ∧ (rd s IMG_STATUS_STATE = 1 →
      (bytes.take 4 ≠ [0xFF, 0xFF, 0xFF, 0xFF] → rd s IMG_STATUS_PTR ≠ spareBank s → Completes (.flashReadDone dt bytes) s (fun t =>
        rd t IMG_STATUS_STATE = 2 ∧ keeps [IMG_STATUS_STATE] t ∧ BytesStored (bankAt (spareBank s)) (bytes.take (min 98304 (b32 bytes 8))) s t))
      ∧ (bytes.take 4 = [0xFF, 0xFF, 0xFF, 0xFF] → s.img.cand = 0 → s.img.src = 1 → s.img.reapply = false → s.img.recovery = false →
        Completes (.flashReadDone dt bytes) s (fun t => rd t IMG_STATUS_STATE = 1 ∧ t.img.cand = 1 ∧ errs 0x12 255 false t ∧ keeps errRegs t ∧ StoresSame s t)))
    ∧ (rd s IMG_STATUS_STATE = 2 → ∀ l, l = bankBytes z (candBank z) →
      (pass1 (checkEnv z l false false) false l = none → Completes (.pass1Done dt) s (fun t =>
        rd t IMG_STATUS_STATE = 3 ∧ keeps [IMG_STATUS_STATE] t ∧ StoresSame s t))
      ∧ (∀ r, pass1 (checkEnv z l false false) false l = some r → s.img.reapply = false → s.img.recovery = false → s.img.src ≠ 3 →
        (s.img.cand = 0 → Completes (.pass1Done dt) s (fun t => rd t IMG_STATUS_STATE = (if s.img.src = 0 then 2 else 1) ∧ t.img.cand = 1
          ∧ errs r.1 r.2 false t ∧ keeps errRegs t ∧ StoresSame s t))
        ∧ (s.img.cand ≠ 0 → Leads (.pass1Done dt) s imgFailed (fun u => errs r.1 r.2 false u ∧ keeps errRegs u ∧ u.flt.raised = [] ∧ StoresSame s u))))
    ∧ (rd s IMG_STATUS_STATE = 3 → s.img.reapply = false → s.img.recovery = false → ∀ l, l = bankBytes z (candBank z) →
      pass2Fault l (segments z l) = none → s.img.work = none → (∀ c ∈ cfgRecs (segments z l), rwsGroupOf c.addr = none) → Leads (.pass2Done dt) s (imageApplied false (headerOf l).initMode) (fun u =>
        rd u IMG_STATUS_STATE = 4 ∧ u.img.applied = true ∧ rd u IMG_RUNID_IMAGE_ID = (headerOf l).imageId % 2 ^ 32
        ∧ rd u IMG_STATUS_VERSION = (headerOf l).version % 16 ∧ rd u IMG_STATUS_RUN_BANK = candBank z % 2 ∧ u.img.signed = (headerOf l).signed))

/-- In RUN with the lock open DL_START begins a download: STATE 5, SPARE_VALID 0. Each word of DLDATA lies little-endian at the next
address of the spare bank, every other byte of the MRAM as before, no register changed. A word beyond IMGLEN, and DL_DONE before
IMGLEN bytes, go back to RUN with code 0x13; DL_DONE of IMGLEN bytes goes to verification; DL_ABORT goes back to RUN; in FAILED
DL_DONE is refused while no recovery download is under way. Verification sets SPARE_VALID only on success. COMMIT makes the
pointer name the spare bank, writing one 16-byte copy of the record and no other byte. A write of 1 sets the lock. Each of these
commands in a state that does not allow it is refused with the host access fault. It rests on the model's choices of log entries
3, 8, 22, 32, 35, 133, 136 and 137. -/
def Obligations.DownloadsGoToTheSpareBank : Prop :=
  ∀ (dt data : Nat) (s : State), Between s → HostIdle s →
    let z := pass dt s
    let st := rd s IMG_STATUS_STATE
    let done_ (l : List Fld) (t : State) : Prop := t.now = s.now + dt ∧ RegsBut l s t ∧ StoresSame s t
    let refused (v : State) : Prop := v.flt.raised = [(0, none)] ∧ v.img = s.img
      ∧ RegsBut [GEN_HAF_VALID, GEN_HAF_CAUSE, GEN_HAF_ADDR, GEN_HAF_MORE] s v ∧ StoresSame s v
    let backToRun (l : List Fld) (t : State) : Prop := rd t IMG_STATUS_STATE = 4 ∧ rd t IMG_STATUS_SPARE_VALID = 0 ∧ t.img.dl = 0
      ∧ t.img.spareOk = false ∧ done_ (l ++ [IMG_STATUS_STATE, IMG_STATUS_SPARE_VALID]) t
    let errs := [IMG_ERR_CODE, IMG_ERR_SEG, IMG_ERR_PASS2, IMG_ERR_CAND]
    (st = 4 → rd s IMG_LOCK_LOCK = 0 → Completes (.dlStart dt) s (fun t => rd t IMG_STATUS_STATE = 5 ∧ rd t IMG_STATUS_SPARE_VALID = 0
      ∧ t.img.dl = 0 ∧ t.img.dlService = true ∧ done_ [IMG_STATUS_STATE, IMG_STATUS_SPARE_VALID] t))
    ∧ (st ≠ 4 ∨ rd s IMG_LOCK_LOCK = 1 → Effects (.dlStart dt) s refused ∧ Effects (.imgCommit dt) s refused)
    ∧ ((st = 5 ∨ st = 7 ∨ st = 15) → s.img.dl + 4 ≤ min 98304 (dlLen z) → (s.img.dl ≠ 0 ∨ rd s IMG_STATUS_PTR ≠ spareBank s) →
      Completes (.dldataWrite dt data) s (fun t => t.img.dl = s.img.dl + 4 ∧ t.now = s.now + dt ∧ RegsBut [] s t
        ∧ BytesStored (bankAt (spareBank s) + s.img.dl) (leBytes 4 (data % 2 ^ 32)) s t))
    ∧ (st = 5 → s.img.dlService = true →
      (min 98304 (dlLen z) < s.img.dl + 4 → Completes (.dldataWrite dt data) s (fun t => rd t IMG_ERR_CODE = 0x13 ∧ backToRun errs t))
      ∧ (s.img.dl = dlLen z → Completes (.dlDone dt) s (fun t => rd t IMG_STATUS_STATE = 6 ∧ done_ [IMG_STATUS_STATE] t))
      ∧ (s.img.dl ≠ dlLen z → Completes (.dlDone dt) s (fun t => rd t IMG_ERR_CODE = 0x13 ∧ backToRun errs t))
      ∧ Completes (.dlAbort dt) s (backToRun []))
    ∧ (st < 5 → Effects (.dlDone dt) s refused ∧ Effects (.dlAbort dt) s refused)
    ∧ (st = 15 → s.img.dl = 0 → Effects (.dlDone dt) s refused)
    ∧ (st = 6 → ∀ l, l = bankBytes z (spareBank s) →
      (pass1 (checkEnv z l true false) true l = none → Completes (.dlVerifyDone dt) s (fun t => rd t IMG_STATUS_STATE = 4
        ∧ rd t IMG_STATUS_SPARE_VALID = 1 ∧ t.img.spareOk = true ∧ done_ [IMG_STATUS_STATE, IMG_STATUS_SPARE_VALID] t))
      ∧ (∀ r, pass1 (checkEnv z l true false) true l = some r → Completes (.dlVerifyDone dt) s (fun t => rd t IMG_ERR_CODE = r.1 % 256 ∧ backToRun errs t)))
    ∧ (st = 4 → rd s IMG_LOCK_LOCK = 0 → rd s IMG_STATUS_SPARE_VALID = 1 → ∀ q : Nat → Nat,
      (∀ c, q c = ((pointerCopy s c).map (fun p => p.2)).getD 0) →
      let c := if pointerCopy s 0 = none then 0 else if pointerCopy s 1 = none then 1 else if q 0 ≤ q 1 then 0 else 1
      let words := [BitVec.ofNat 8 (spareBank s), 0, 0, 0] ++ leBytes 4 (q (1 - c) + 1) ++ [0, 0, 0, 0]
      Completes (.imgCommit dt) s (fun t => rd t IMG_STATUS_PTR = spareBank s % 2 ∧ t.now = s.now + dt ∧ RegsBut [IMG_STATUS_PTR] s t
        ∧ BytesStored (pageAt 0x300 + 16 * c) (words ++ leBytes 4 (crc32 words)) s t))
    ∧ Completes (.imgLockWrite dt) s (fun t => rd t IMG_LOCK_LOCK = 1 ∧ done_ [IMG_LOCK_LOCK] t)

/-- PR_START in MT and RUN with the lock open gives STATE 7 and SPARE_VALID 0; PR_ABORT of a reload under way gives RUN with
PR_OUTCOME 0b10; each is refused otherwise. Verification ends in STATE 9 with PR_BLOCK the target, or in failure: RUN, PR_OUTCOME
0b11, the code, source 8, no live register of the target changed. The commit cycle ends in RUN with PR_OUTCOME 0b01; where a
record would change a locked field, nothing is applied: PR_OUTCOME 0b11, code 0x0F, source 8. It rests on the model's choices of
log entries 3, 22, 29, 125, 133, 134, 137 and 138. -/
def Obligations.PartialReloadStepsToItsCommitCycle : Prop :=
  ∀ (dt : Nat) (s : State), Between s → HostIdle s →
    let z := pass dt s
    let st := rd s IMG_STATUS_STATE
    let keeps (l : List Fld) (t : State) : Prop := t.now = s.now + dt ∧ RegsBut l s t ∧ StoresSame s t
    let refused (v : State) : Prop := v.flt.raised = [(0, none)] ∧ v.img = s.img
      ∧ RegsBut [GEN_HAF_VALID, GEN_HAF_CAUSE, GEN_HAF_ADDR, GEN_HAF_MORE] s v ∧ StoresSame s v
    let failed (code : Nat) (v : State) : Prop := rd v IMG_STATUS_STATE = 4 ∧ rd v IMG_STATUS_PR_OUTCOME = 3 ∧ rd v IMG_ERR_CODE = code % 256
      ∧ v.flt.raised = [(8, none)] ∧ v.img.shadow = none
      ∧ keeps [IMG_STATUS_STATE, IMG_STATUS_PR_OUTCOME, IMG_STATUS_PR_BLOCK, IMG_ERR_CODE, IMG_ERR_SEG, IMG_ERR_PASS2, IMG_ERR_CAND] v
    (st = 4 → rd s IMG_LOCK_LOCK = 0 → (rd s GEN_MODESTAT_EFFECTIVE).testBit 6 = true → rd s IMG_STATUS_PTR ≠ spareBank s →
      Completes (.prStart dt) s (fun t => rd t IMG_STATUS_STATE = 7 ∧ rd t IMG_STATUS_SPARE_VALID = 0 ∧ t.img.dl = 0 ∧ t.img.shadow = none
        ∧ keeps [IMG_STATUS_STATE, IMG_STATUS_SPARE_VALID] t))
    ∧ ((st ≠ 4 ∨ rd s IMG_LOCK_LOCK = 1 ∨ (rd s GEN_MODESTAT_EFFECTIVE).testBit 6 = false) → Effects (.prStart dt) s refused)
    ∧ (7 ≤ st → st ≤ 9 → Completes (.prAbort dt) s (fun t => rd t IMG_STATUS_STATE = 4 ∧ rd t IMG_STATUS_PR_OUTCOME = 2 ∧ t.img.shadow = none
      ∧ keeps [IMG_STATUS_STATE, IMG_STATUS_PR_OUTCOME] t))
    ∧ (st < 7 → Effects (.prAbort dt) s refused)
    ∧ (st = 8 → ∀ l, l = bankBytes z (spareBank s) →
      (pass1 (checkEnv (put IMG_STATUS_PR_BLOCK (headerOf l).pBlock z) l false true) true l = none → Completes (.prVerifyDone dt) s (fun t =>
        rd t IMG_STATUS_STATE = 9 ∧ rd t IMG_STATUS_PR_BLOCK = (headerOf l).pBlock % 16 ∧ t.img.shadow.isSome = true
        ∧ keeps [IMG_STATUS_STATE, IMG_STATUS_PR_BLOCK] t))
      ∧ (∀ r, pass1 (checkEnv (put IMG_STATUS_PR_BLOCK (headerOf l).pBlock z) l false true) true l = some r → Effects (.prVerifyDone dt) s (failed r.1)))
    ∧ (st = 9 → ∀ sh, s.img.shadow = some sh →
      ((lockedRec sh.recs z).isSome = true → Effects (.prCommitCycle dt) s (failed 0x0F))
      ∧ ((lockedRec sh.recs z).isSome = false →
        Leads (.prCommitCycle dt) s (fun u => mtNext (slotsOfBlock (rd u IMG_STATUS_PR_BLOCK) u)) (fun u =>
          rd u IMG_STATUS_STATE = 4 ∧ rd u IMG_STATUS_PR_OUTCOME = 1)))

/-- An edge of an input whose monitors run is a reference edge on the edge that POL selects, of the leg that LEG selects on a single-
ended standard, the ball not disabled; the first and then every (DIV + 1)-th is a divided edge, the others only count. With no
phase threshold set, a divided edge of input n closes the interval since the last one: shorter than (1 - tol) of the nominal it
adds 1 to BUCKET up to SET, within the tolerance it counts as good and every LEAK-th good one in a row takes 1 off, longer than (1
+ tol) it adds the edges missed; under 10 ns it sets OVERSPEED. ACT_OK falls at SET or on OVERSPEED and rises at CLR. A missing
edge adds 1. Only registers of input n change before its slot is judged. It rests on the model's choices of log entries 2, 56 and
127. -/
def Obligations.InputMonitorsClassifyEveryInterval : Prop :=
  ∀ (dt n : Nat) (leg rise : Bool) (s : State), Between s → n < 16 → (ix s.pin n).run = true →
    let x := ix s.pin n
    let taken := (2 < tabGet s.img.iostd (512 + n) 3 ∨ leg = on s (REF_INn_CFG_LEG n)) ∧ rise ≠ on s (REF_INn_CFG_POL n) ∧ ballOff s (inBall n) = false
    let set := rd s (REF_INn_ACT_SET n)
    let old := rd s (REF_INn_STAT_BUCKET n)
    let ok (speed : Bool) (b : Nat) : Nat := if speed = true ∨ set ≤ b then 0 else if b ≤ rd s (REF_INn_ACT_CLR n) then 1
      else if rd s (REF_INn_STAT_ACT_OK n) = 1 then 1 else 0
    let regs := [REF_INn_STAT_BUCKET n, REF_INn_STAT_ACT_OK n, REF_INn_STAT_ACT_FAIL n, REF_INn_STAT_OVERSPEED n, REF_INn_STAT_FM_VALID n,
      REF_INn_STAT_WARM n, REF_INn_STAT_FM_OK n, REF_INn_STAT_FM_FAIL n, REF_INn_FOFF_LO_O n, REF_INn_FOFF_HI_O n]
    set < 256 → old < 256 →
    (¬taken → Completes (.referenceEdge dt ⟨n, leg, rise⟩) s (fun t => t.pin = s.pin ∧ t.now = s.now + dt ∧ RegsBut [] s t ∧ StoresSame s t))
    ∧ (live s 4 = true → taken → 0 < x.skip → Completes (.referenceEdge dt ⟨n, leg, rise⟩) s (fun t =>
      ix t.pin n = { x with skip := x.skip - 1 } ∧ t.now = s.now + dt ∧ RegsBut [] s t ∧ StoresSame s t))
    ∧ (live s 4 = true → taken → x.skip = 0 → rd s (REF_INn_PH_THR n) = 0 → ∀ l, x.last = some l →
      let i := s.now + dt - l
      let t := rd s (REF_INn_ACT_TOL n)
      let speed := decide (i < 10 * nsU) || decide (rd s (REF_INn_STAT_OVERSPEED n) = 1)
      let lhs := i * rd s (REF_INn_NOM_NOM n) * 256
      let missed := if x.miss < s.now + dt then 1 + (s.now + dt - x.miss - 1) / pinT s n else 0
      let leak := if rd s (REF_INn_ACT_LEAK n) = 0 then 1 else rd s (REF_INn_ACT_LEAK n)
      let good := if lhs < (256 - t) * 64 * secU then 0 else if lhs ≤ (256 + t) * 64 * secU then x.good + 1 else 0
      let b := if lhs < (256 - t) * 64 * secU then min set (old + 1)
        else if lhs ≤ (256 + t) * 64 * secU then (if (x.good + 1) % leak = 0 then old - 1 else old) else min set (old + missed)
      Leads (.referenceEdge dt ⟨n, leg, rise⟩) s (fun u => todPulse n (slotEval n u)) (fun u =>
        rd u (REF_INn_STAT_BUCKET n) = b ∧ rd u (REF_INn_STAT_ACT_OK n) = ok speed b ∧ (ix u.pin n).good = good
        ∧ (ix u.pin n).skip = rd s (REF_INn_CFG_DIV n) ∧ (ix u.pin n).last = some (s.now + dt) ∧ (ix u.pin n).miss = s.now + dt + pinLong s n
        ∧ (rd s (REF_INn_STAT_ACT_OK n) = 1 → ok speed b = 0 → rd u (REF_INn_STAT_ACT_FAIL n) = 1)
        ∧ u.now = s.now + dt ∧ u.flt.raised = [] ∧ RegsBut regs s u ∧ StoresSame s u))
    ∧ (x.last ≠ none →
      let b := min set (old + 1)
      Leads (.missingEdge n) s (slotEval n) (fun u =>
        rd u (REF_INn_STAT_BUCKET n) = b ∧ rd u (REF_INn_STAT_ACT_OK n) = ok (decide (rd s (REF_INn_STAT_OVERSPEED n) = 1)) b
        ∧ (ix u.pin n).good = 0 ∧ (ix u.pin n).miss = x.miss + pinT s n ∧ u.now = max s.now x.miss ∧ u.flt.raised = []
        ∧ RegsBut [REF_INn_STAT_BUCKET n, REF_INn_STAT_ACT_OK n, REF_INn_STAT_ACT_FAIL n] s u ∧ StoresSame s u))

/-- When REMAIN of a qualifying slot that stays valid reaches 0 the slot is QUALIFIED. A sentence, no label timeout due in its core
cycle, that R111 rejects only counts in ERRCNT; an accepted ZDA or RMC of the source in use is kept, RMC with its FIX code, and
its label goes to the pulse it names. A label timeout clears LBL_VALID and CONSEC. In each case the slot is judged afterwards and
nothing else changes before that. It rests on the model's choices of log entries 2, 30, 50, 51, 52, 68, 127, 140 and 141. -/
def Obligations.SlotsQualifyAndLabelsAreRead : Prop :=
  ∀ (dt i k : Nat) (bytes : List Byte) (s : State), Between s →
    let r := tabGet s.img.routes (0x120 + k) 255
    (∀ t, i < 32 → (ix s.slot i).qualEnd = some t → rd s (REF_SLOTs_STAT_STATE i) = 1 → slotMay (advanceTo t s) i = true →
      Leads (.qualificationComplete i) s (slotPublish i 1 (effQl (advanceTo t s) i)) (fun u =>
        rd u (REF_SLOTs_STAT_STATE i) = 2 ∧ (ix u.slot i).qualEnd = none ∧ u.now = max s.now t ∧ u.flt.raised = []
        ∧ RegsBut [REF_SLOTs_STAT_STATE i] s u ∧ StoresSame s u))
    ∧ (k < 2 → ballOff s (todRxBall k) = false → (∀ t, (ix s.todr k).labelEnd = some t → cycleOf (s.now + dt) < cycleOf t) → rd s (REF_TODk_CFG_EN k) = 1 → rd s (REF_TODk_STAT_CFG_ERR k) = 0 → live s 4 = true →
      (parseNmea bytes = none → Leads (.nmeaSentence dt k bytes) s (slotEval r) (fun u =>
        rd u (REF_TODk_STAT_ERRCNT k) = (if rd s (REF_TODk_STAT_ERRCNT k) < 255 then rd s (REF_TODk_STAT_ERRCNT k) + 1 else 255)
        ∧ u.now = s.now + dt ∧ u.flt.raised = [] ∧ RegsBut [REF_TODk_STAT_ERRCNT k] s u ∧ StoresSame s u))
      ∧ (∀ l, parseNmea bytes = some (.zda l) → rd s (REF_TODk_CFG_SRC k) = 1 →
        Leads (.nmeaSentence dt k bytes) s (fun u => slotEval (tabGet (giveLabel k l u).img.routes (0x120 + k) 255) (giveLabel k l u)) (fun u =>
          (ix u.todr k).zda = some l ∧ u.now = s.now + dt ∧ u.flt.raised = [] ∧ RegsBut [] s u ∧ StoresSame s u))
      ∧ (∀ l fix, parseNmea bytes = some (.rmc l fix) → rd s (REF_TODk_CFG_SRC k) = 2 → fix < 16 →
        Leads (.nmeaSentence dt k bytes) s (fun u => slotEval (tabGet (giveLabel k l u).img.routes (0x120 + k) 255) (giveLabel k l u)) (fun u =>
          (ix u.todr k).rmc = some l ∧ rd u (REF_TODk_STAT_FIX k) = fix ∧ u.now = s.now + dt ∧ u.flt.raised = []
          ∧ RegsBut [REF_TODk_STAT_FIX k] s u ∧ StoresSame s u)))
    ∧ (∀ t, k < 2 → (ix s.todr k).labelEnd = some t → Leads (.labelTimeout k) s (slotEval r) (fun u =>
      rd u (REF_TODk_STAT_LBL_VALID k) = 0 ∧ rd u (REF_TODk_STAT_CONSEC k) = 0 ∧ (ix u.todr k).labelEnd = none ∧ u.now = max s.now t
      ∧ u.flt.raised = [] ∧ RegsBut [REF_TODk_STAT_LBL_VALID k, REF_TODk_STAT_CONSEC k] s u ∧ StoresSame s u))

/-- In a unit of one slice that runs, an edge of its input's polarity that the prescaler passes: in stamp mode an edge at tap c enters
the stamp queue with its time, source, flags and sequence number (a route from a MNS crossing carries the crossing's instant,
which is another statement's); in interval mode a start finds the pairing idle and opens it, and a stop within W_post of the open
start gives the result round(D / 20) with COINC under 2048 and ORDER below 0. An edge within the dead time counts in LOST_EDGE. An
edge of the other polarity changes nothing; one that the prescaler keeps back only counts there. The order window and W_post
passing give a TIMEOUT result, the order window and W_pre passing count EARLY; both leave the pairing idle. Nothing else changes.
It rests on the model's choices of log entries 2, 16, 48, 57, 58 and 127. -/
def Obligations.EdgesAreStampedAndPaired : Prop :=
  ∀ (dt b c : Nat) (rise : Bool) (s : State), Between s → b < 12 → unitSize s b = 1 →
    let z := pass dt s
    let u0 := ix s.unit b
    let mode_ := rd s (PMU_PMn_CFG_MODE b)
    let edge : InEdge := ⟨rise, c, 0⟩
    let way (stop : Bool) : Nat := if stop then stopRoute s b else startRoute s b
    let seen (stop : Bool) : Prop := way stop ≠ 255 ∧ routeOff s (way stop) = false ∧ edgeTaken s b (way stop) stop edge = true
    let first (stop : Bool) : Prop := seen stop ∧ (if stop then u0.cntP else u0.cntS) = 0
    let pos := positionOf z b (c % 512) (coarseNow z)
    let time := stampTime z b (c % 512) (startRoute s b) (coarseNow z)
    let uncal := sliceUncal z b
    let free := ∀ t, (ix s.slice b).cap = some t → t + 4 * pmU ≤ s.now + dt
    let runs := rd s (PMU_PMn_STAT_STATE b) ≠ 0
    let result (i : Int) (flags : Nat) (q : Queue ResultRec) : Prop :=
      q.recs = u0.rq.recs ++ [{ interval := i, rflags := flags ||| (if u0.rq.loss then 64 else 0), seq := u0.rq.seq }]
      ∧ q.seq = (u0.rq.seq + 1) % 65536 ∧ q.loss = false
    let room := u0.rq.recs.length < 32 ∧ u0.rq.last = 0
    (runs → first false → free → mode_ = 0 → (way false < 48 ∨ 54 ≤ way false) → u0.sq.recs.length < 128 → u0.sq.last ≤ time →
      (∀ p, u0.sq.recs.getLast? = some p → stampKind.before (mkStamp time (sourceId (startRoute s b)) 0) p = false) →
      Completes (.edgeCapture dt b [edge] []) s (fun t =>
        (∃ fl, (ix t.unit b).sq.recs = u0.sq.recs ++ [⟨time, sourceId (startRoute s b), fl, u0.sq.seq⟩]
          ∧ fl.testBit 1 = uncal ∧ fl.testBit 2 = u0.sq.loss ∧ fl.testBit 3 = decide (dpllState s (timeDpll s) ≠ 2)
          ∧ fl.testBit 4 = decide (rd s (PMU_PMn_CFG_PRE_S b) ≠ 0) ∧ fl.testBit 0 = false ∧ fl.testBit 5 = false)
        ∧ (ix t.unit b).sq.seq = (u0.sq.seq + 1) % 65536 ∧ (ix t.unit b).sq.loss = false ∧ (ix t.slice b).cap = some (s.now + dt)
        ∧ (ix t.unit b).cntS = 1 % 2 ^ rd s (PMU_PMn_CFG_PRE_S b)
        ∧ t.now = s.now + dt ∧ RegsBut [PMU_IRQ_SQT] s t ∧ StoresSame s t))
    ∧ (runs → free → mode_ = 1 → rd s (PMU_PMn_CFG_SQ_EN b) = 0 →
      (u0.pair = .idle → first false → Completes (.edgeCapture dt b [edge] []) s (fun t => (ix t.unit b).pair = .open_ pos uncal false
        ∧ rd t (PMU_PMn_STAT_PAIR b) = 1 ∧ t.now = s.now + dt ∧ RegsBut [PMU_PMn_STAT_PAIR b] s t ∧ StoresSame s t))
      ∧ (∀ q u l, u0.pair = .open_ q u l → posDiff pos q ≤ wPost s b → room → first true → Completes (.edgeCapture dt b [] [edge]) s (fun t =>
        let d := posDiff pos q
        let flags := (if d.natAbs < 2048 then 4 else if d < 0 then 8 else 0) ||| ((if u || uncal then 2 else 0) ||| (if l then 64 else 0))
        result (if d.natAbs < 2048 then 0 else roundDiv d 20) flags (ix t.unit b).rq ∧ (ix t.unit b).pair = .idle ∧ rd t (PMU_PMn_STAT_PAIR b) = 0
        ∧ (rd t PMU_IRQ_RES).testBit b = true ∧ t.now = s.now + dt ∧ RegsBut [PMU_PMn_STAT_PAIR b, PMU_IRQ_RES] s t ∧ StoresSame s t)))
    ∧ (∀ stop, way stop ≠ 255 → edgeTaken s b (way stop) stop edge = false →
      Completes (.edgeCapture dt b (if stop then [] else [edge]) (if stop then [edge] else [])) s (fun t => t.unit = s.unit ∧ t.slice = s.slice ∧ t.now = s.now + dt ∧ RegsBut [] s t ∧ StoresSame s t))
    ∧ (runs → mode_ ≠ 2 → seen true → u0.cntP ≠ 0 → Completes (.edgeCapture dt b [] [edge]) s (fun t =>
      ix t.unit b = { u0 with cntP := (u0.cntP + 1) % 2 ^ rd s (PMU_PMn_CFG_PRE_P b) } ∧ t.slice = s.slice ∧ t.now = s.now + dt
      ∧ RegsBut [] s t ∧ StoresSame s t))
    ∧ (runs → first false → mode_ = 0 → (∃ t, (ix s.slice b).cap = some t ∧ s.now + dt < t + 4 * pmU) →
      Completes (.edgeCapture dt b [edge] []) s (fun t =>
      rd t (PMU_PMn_CNT_LOST_EDGE b) = (if rd s (PMU_PMn_CNT_LOST_EDGE b) < 65535 then rd s (PMU_PMn_CNT_LOST_EDGE b) + 1 else 65535)
      ∧ t.now = s.now + dt ∧ RegsBut [PMU_PMn_CNT_LOST_EDGE b] s t ∧ StoresSame s t))
    ∧ (∀ q u l, u0.pair = .open_ q u l → room → mode_ = 1 → Completes (.pairTimeout b) s (fun t =>
      result 0 (16 ||| ((if u then 2 else 0) ||| (if l then 64 else 0))) (ix t.unit b).rq ∧ (ix t.unit b).pair = .idle
      ∧ rd t (PMU_PMn_STAT_PAIR b) = 0 ∧ (rd t PMU_IRQ_RES).testBit b = true ∧ t.now = max s.now (orderedTime s q + (wPost s b).toNat)
      ∧ RegsBut [PMU_PMn_STAT_PAIR b, PMU_IRQ_RES] s t ∧ StoresSame s t))
    ∧ (∀ p u l, u0.pair = .pend p u l → Completes (.earlyStopExpiry b) s (fun t =>
      (ix t.unit b).pair = .idle ∧ rd t (PMU_PMn_STAT_PAIR b) = 0 ∧ t.now = max s.now (orderedTime s p + (wPre s b).toNat)
      ∧ rd t (PMU_PMn_CNT_EARLY b) = (if rd s (PMU_PMn_CNT_EARLY b) < 65535 then rd s (PMU_PMn_CNT_EARLY b) + 1 else 65535)
      ∧ RegsBut [PMU_PMn_STAT_PAIR b, PMU_PMn_CNT_EARLY b] s t ∧ StoresSame s t))

/-- A gate of unit b whose edges in order have passed twice its length ends at that instant with NOSIG: FA, OA, FB, OB and OBA
latched, 0 for a stream of fewer than three edges and for B in a unit of one slice, NSTAMP the edges of stream A, RSEQ one more,
the unit back in WAIT with no gate open. A write of RESTART to a unit that is not OFF discards its partial gate, pairing and
statistics, its queues kept, and puts it in WAIT, in stamp and interval modes in RUN; the gate it discards is kept aside for an
edge of the same core cycle that closes it. It rests on the model's choices of log entries 2, 3 and 57. -/
def Obligations.GatesEndAndUnitsRestart : Prop :=
  ∀ (dt b : Nat) (s : State), Between s → b < 12 → unitSize s b ≠ 0 →
    let u0 := ix s.unit b
    let fa := [PMU_PMn_FA_LO_FA b, PMU_PMn_FA_FA_HI_FA b, PMU_PMn_OA_LO_OA b, PMU_PMn_OA_OA_HI_OA b]
    let fb := [PMU_PMn_FB_LO_FB b, PMU_PMn_FB_FB_HI_FB b, PMU_PMn_OB_LO_OB b, PMU_PMn_OB_OB_HI_OB b]
    let oba := [PMU_PMn_OBA_LO_OBA b, PMU_PMn_OBA_OBA_HI_OBA b]
    let cleared (cut : Option (Nat × GateS × GateCfg)) (t : State) : Prop := (ix t.unit b) = { sq := u0.sq, rq := u0.rq, cut := cut } ∧ rd t (PMU_PMn_STAT_PAIR b) = 0
    (∀ g, u0.gate = some g → rd s (PMU_PMn_CFG_MODE b) = 2 → Completes (.gateNosigTimeout b) s (fun t =>
      t.now = max s.now (orderedTime s g.u0 + 2 * rd s (PMU_PMn_GATE_GATE b) * msU) ∧ (rd t (PMU_PMn_RSTAT_RFLAGS b)).testBit 7 = true
      ∧ rd t (PMU_PMn_RSTAT_RSEQ b) = (rd s (PMU_PMn_RSTAT_RSEQ b) + 1) % 65536 ∧ rd t (PMU_PMn_NSTAMP_N b) = min (2 ^ 32 - 1) g.strA.n
      ∧ (g.strA.n < 3 → ∀ f ∈ fa ++ oba, rd t f = 0) ∧ (g.strB.n < 3 ∨ unitSize s b = 1 → ∀ f ∈ fb ++ oba, rd t f = 0)
      ∧ (rd t PMU_IRQ_RES).testBit b = true ∧ rd t (PMU_PMn_STAT_STATE b) = 1 ∧ cleared none t
      ∧ RegsBut (fa ++ fb ++ oba ++ [PMU_PMn_NSTAMP_N b, PMU_PMn_RSTAT_RFLAGS b, PMU_PMn_RSTAT_RSEQ b, PMU_IRQ_RES, PMU_PMn_STAT_STATE b,
          PMU_PMn_STAT_PAIR b]) s t ∧ StoresSame s t))
    ∧ (Open s (0x500018 + 128 * b) →
      (rd s (PMU_PMn_STAT_STATE b) ≠ 0 → Completes (.unitRestart dt b) s (fun t =>
        cleared (u0.gate.map (fun g => (cycleNow (pass dt s), g, gateCfg s b))) t
        ∧ rd t (PMU_PMn_STAT_STATE b) = (if rd s (PMU_PMn_CFG_MODE b) ≤ 1 then 2 else 1) ∧ t.now = s.now + dt
        ∧ RegsBut [PMU_PMn_STAT_STATE b, PMU_PMn_STAT_PAIR b] s t ∧ StoresSame s t))
      ∧ (rd s (PMU_PMn_STAT_STATE b) = 0 → Completes (.unitRestart dt b) s (fun t => t.unit = s.unit ∧ t.now = s.now + dt ∧ RegsBut [] s t ∧ StoresSame s t)))

/-- A check within 1 tap counts as good and the 256th in a row sets LOOP_LOCK; beyond 4 taps it clears it, the fall raising source 15
for a slice of an enabled unit. A histogram of 2^20 captures replaces the live table: L[c] = round(2^20 (2 S + h_c) / (2 2^20)), S
the captures below tap c, TABLE_VALID 1, its age 0, delivered over path P-10 unless PMU is isolated; the last table that a REBUILD
waits for sets TABLE. A table older than AGE_MAX raises source 16 once. A skew run ends within 10 ms: K_n the rounded mean of its
4096 differences, SKEW_VALID 1, or SKEW_DONE with source 17 when one exceeds 131072 or the time passes. It rests on the model's
choices of log entries 3, 10, 16, 59, 62 and 130. -/
def Obligations.SlicesAreCalibrated : Prop :=
  ∀ (dt n : Nat) (e : Int) (hist : List Nat) (sums : List Int) (s : State), Between s → n < 12 →
    let lock := PMU_PMn_CALSTAT_LOOP_LOCK n
    let k (i : Nat) : Int := if i = 0 then 0 else roundDiv (sums.getD i 0) 4096
    let here (l : List Fld) (t : State) : Prop := t.now = s.now + dt ∧ RegsBut l s t ∧ StoresSame s t
    (let good := if e.natAbs ≤ 1 then (ix s.slice n).good + 1 else 0;
      Effects (.loopCheck dt n e) s (fun v => (ix v.slice n).good = min good 256
        ∧ rd v lock % 2 = (if 4 < e.natAbs then 0 else if 256 ≤ good then 1 else rd s lock % 2)
        ∧ v.flt.raised = (if 4 < e.natAbs ∧ rd s lock = 1 ∧ sliceEnabled s n = true then [(15, some n)] else []) ∧ here [lock] v))
    ∧ (hist.length = 512 → hist.foldl (fun a b => a + b) 0 = 2 ^ 20 → s.pmu.auto = true → Completes (.tableReplace dt n hist) s (fun t =>
      (∀ c < 512, linLive t n c = roundDivN (2 ^ 20 * (2 * (hist.take c).foldl (fun a b => a + b) 0 + hist.getD c 0)) (2 * 2 ^ 20))
      ∧ rd t (PMU_PMn_CALSTAT_TABLE_VALID n) = 1 ∧ (ix t.slice n).tabAt = some (s.now + dt) ∧ (ix t.slice n).stale = false
      ∧ ix t.pmu.p10 n = (if isolated s 5 = true then ix s.pmu.p10 n else (ix t.slice n).lin) ∧ t.pmu.rebuild = clrBit s.pmu.rebuild n
      ∧ rd t PMU_IRQ_TABLE = (if s.pmu.rebuild ≠ 0 ∧ clrBit s.pmu.rebuild n = 0 then 1 else rd s PMU_IRQ_TABLE)
      ∧ here [PMU_PMn_CALSTAT_TABLE_VALID n, PMU_IRQ_TABLE] t))
    ∧ (∀ t, (ix s.slice n).tabAt = some t → rd s PMU_CALCFG_AGE_MAX ≠ 0 → (ix s.slice n).stale = false → sliceEnabled s n = true → Effects (.tableAgeExpiry n) s (fun v =>
      v.flt.raised = [(16, some n)] ∧ (ix v.slice n).stale = true ∧ v.now = max s.now (t + (rd s PMU_CALCFG_AGE_MAX * 1000 + 1) * msU)
      ∧ RegsBut [] s v ∧ StoresSame s v))
    ∧ (Open s 0x500604 → Completes (.rebuildCmd dt) s (fun t => t.pmu.rebuild = 4095 ∧ here [] t)
      ∧ Completes (.skewRun dt) s (fun t => t.pmu.skewEnd = some (s.pmu.skewEnd.getD (s.now + dt + 10 * msU)) ∧ here [] t))
    ∧ (∀ d, s.pmu.skewEnd = some d →
      ((∀ i < 12, (k i).natAbs ≤ 131072) → Completes (.skewRunDone dt sums) s (fun t => t.pmu.skewEnd = none ∧ rd t PMU_IRQ_SKEW_DONE = 1
        ∧ (∀ i < 12, rdS t (PMU_SKEWn_K i) = k i ∧ rd t (PMU_PMn_CALSTAT_SKEW_VALID i) = 1)
        ∧ here (PMU_IRQ_SKEW_DONE :: ((List.range 12).map PMU_SKEWn_K ++ (List.range 12).map PMU_PMn_CALSTAT_SKEW_VALID)) t))
      ∧ ((∃ i < 12, 131072 < (k i).natAbs) → Effects (.skewRunDone dt sums) s (fun v => v.pmu.skewEnd = none ∧ rd v PMU_IRQ_SKEW_DONE = 1
        ∧ v.flt.raised = [(17, none)] ∧ here [PMU_IRQ_SKEW_DONE] v))
      ∧ Effects .skewRunTimeout s (fun v => v.pmu.skewEnd = none ∧ rd v PMU_IRQ_SKEW_DONE = 1 ∧ v.flt.raised = [(17, none)] ∧ v.now = max s.now d
        ∧ RegsBut [PMU_IRQ_SKEW_DONE] s v ∧ StoresSame s v))

/-- The hold-off of DPLL d ends: the switch goes to PREPARE with no sample collected. 2.5 s without a sample in PREPARE: the switch
ends with outcome 3 and EVT.ABANDON, BRIDGE 0, and the selector has its target to compute. SETTLE ends: IDLE, no pending slot,
EVT.SETTLED, and the target to compute. The dwell period ends: DWELL_RUN = 0, and the target to compute, as an input of it that
changed. 2.5 s without a sample in forced selection, tracking: the input is lost, and counts as lost from then on. Only these
fields change before the target is computed; device time moves to the timer when it is later. It rests on the model's choices of
log entries 2, 3, 65, 144, 145, 147 and 148. -/
def Obligations.SwitchStagesEndAtTheirTimes : Prop :=
  ∀ (d t : Nat) (s : State), Between s → d < 8 →
    let x := ix s.sel d
    (x.holdEnd = some t → Completes (.holdoffExpiry d) s (fun u =>
      rd u (SEL_SELd_STAT_STAGE d) = 2 ∧ rd u (SEL_DPLLd_STAT_BRIDGE d) = (if dpllState s d = 3 then 1 else 0)
      ∧ ix u.sel d = { x with holdEnd := none, prepSum := 0, prepCnt := 0, prepAt := max s.now t } ∧ u.now = max s.now t
      ∧ RegsBut [SEL_SELd_STAT_STAGE d, SEL_DPLLd_STAT_BRIDGE d] s u ∧ StoresSame s u))
    ∧ (rd s (SEL_SELd_STAT_STAGE d) = 2 → Effects (.prepareTimeout d) s (fun u =>
      rd u (SEL_SELd_STAT_STAGE d) = 0 ∧ rd u (SEL_SELd_STAT_PEND_SLOT d) = 0 ∧ rd u (SEL_SELd_STAT_LAST_OUT d) = 3
      ∧ rd u (SEL_SELd_EVT_ABANDON d) = 1 ∧ rd u (SEL_DPLLd_STAT_BRIDGE d) = 0
      ∧ ix u.sel d = { x with holdEnd := none, settleEnd := none, due := 1 }
      ∧ u.now = max s.now (x.prepAt + 2500 * msU) ∧ u.flt.raised = []
      ∧ RegsBut [SEL_DPLLd_STAT_BRIDGE d, SEL_SELd_STAT_STAGE d, SEL_SELd_STAT_PEND_SLOT d, SEL_SELd_STAT_LAST_OUT d, SEL_SELd_EVT_ABANDON d] s u ∧ StoresSame s u))
    ∧ (x.settleEnd = some t → Effects (.settleEnd d) s (fun u =>
      rd u (SEL_SELd_STAT_STAGE d) = 0 ∧ rd u (SEL_SELd_STAT_PEND_SLOT d) = 0 ∧ rd u (SEL_SELd_EVT_SETTLED d) = 1
      ∧ ix u.sel d = { x with holdEnd := none, settleEnd := none, due := 3 } ∧ u.now = max s.now t ∧ u.flt.raised = []
      ∧ RegsBut [SEL_SELd_STAT_STAGE d, SEL_SELd_STAT_PEND_SLOT d, SEL_SELd_EVT_SETTLED d] s u ∧ StoresSame s u))
    ∧ (x.dwellEnd = some t → Effects (.dwellEnd d) s (fun u =>
      rd u (SEL_SELd_STAT_DWELL_RUN d) = 0 ∧ ix u.sel d = { x with dwellEnd := none, due := 3 } ∧ u.now = max s.now t ∧ u.flt.raised = []
      ∧ RegsBut [SEL_SELd_STAT_DWELL_RUN d] s u ∧ StoresSame s u))
    ∧ (rd s (SEL_SELd_CFG_SELMODE d) = 2 → (dpllState s d = 1 ∨ dpllState s d = 2) →
      Leads (.forcedSampleTimeout d) s (fun u => bridgeEval d (inputLost d u)) (fun u =>
        ix u.sel d = { x with lost := true } ∧ u.now = max s.now ((ix s.dpll d).smpAt + 2500 * msU) ∧ u.flt.raised = [] ∧ RegsBut [] s u ∧ StoresSame s u))

/-- On an open host port: DWELL_CLR with the dwell running clears DWELL_RUN and the selector has its target to compute, as an input
that changed; with none running it changes nothing. RERUN has the target computed, an abort's suppression to end. ABORT in HOLDOFF
or PREPARE ends the switch with outcome 4 and EVT.ABANDON, the slot given up being suppressed as a target and BRIDGE 0; outside a
switch it changes nothing. It rests on the model's choices of log entries 3, 64, 67, 144, 145, 146 and 148. -/
def Obligations.SelectorCommands : Prop :=
  ∀ (dt d : Nat) (s : State), Between s → d < 8 → Open s (0x600024 + 64 * d) →
    let x := ix s.sel d
    (rd s (SEL_SELd_STAT_DWELL_RUN d) = 1 → Effects (.dwellClr dt d) s (fun u =>
      rd u (SEL_SELd_STAT_DWELL_RUN d) = 0 ∧ ix u.sel d = { x with dwellEnd := none, due := 3 } ∧ u.now = s.now + dt ∧ u.flt.raised = []
      ∧ RegsBut [SEL_SELd_STAT_DWELL_RUN d] s u ∧ StoresSame s u))
    ∧ (rd s (SEL_SELd_STAT_DWELL_RUN d) = 0 → Completes (.dwellClr dt d) s (fun t => t.sel = s.sel ∧ t.now = s.now + dt ∧ RegsBut [] s t ∧ StoresSame s t))
    ∧ Leads (.rerunCmd dt d) s (selMark d 3) (fun u => u = Issued (0x600024 + 64 * d) dt s)
    ∧ ((rd s (SEL_SELd_STAT_STAGE d) = 1 ∨ rd s (SEL_SELd_STAT_STAGE d) = 2) → Completes (.selAbort dt d) s (fun t =>
      rd t (SEL_SELd_STAT_STAGE d) = 0 ∧ rd t (SEL_SELd_STAT_PEND_SLOT d) = 0 ∧ rd t (SEL_SELd_STAT_LAST_OUT d) = 4
      ∧ rd t (SEL_SELd_EVT_ABANDON d) = 1 ∧ rd t (SEL_DPLLd_STAT_BRIDGE d) = 0 ∧ t.now = s.now + dt
      ∧ ix t.sel d = { x with holdEnd := none, settleEnd := none, noTarget := some (rd s (SEL_SELd_STAT_PEND_SLOT d)) }
      ∧ RegsBut [SEL_SELd_STAT_STAGE d, SEL_SELd_STAT_PEND_SLOT d, SEL_SELd_STAT_LAST_OUT d, SEL_SELd_EVT_ABANDON d, SEL_DPLLd_STAT_BRIDGE d] s t
      ∧ StoresSame s t))
    ∧ (rd s (SEL_SELd_STAT_STAGE d) = 0 ∨ rd s (SEL_SELd_STAT_STAGE d) = 4 → Completes (.selAbort dt d) s (fun t =>
      t.sel = s.sel ∧ t.now = s.now + dt ∧ RegsBut [] s t ∧ StoresSame s t))

/-- In a core cycle in which no selector has computed its target yet, a sample of the slot that DPLL d alone has active and that stays
eligible, tracked in ACQUIRING or LOCKED in automatic or manual selection, becomes PERR: reference less accumulator phase less
build-out plus written offset (a slew in progress up to now), saturated. Within W it adds 1 to LOCKCNT, otherwise LOCKCNT is 0;
LOCK_N in a row lock an ACQUIRING DPLL, UN in a row beyond 2 W return a LOCKED one to ACQUIRING. Only registers of this DPLL and
of the synthesisers change. A sample of a slot no DPLL uses changes no register. It rests on the model's choices of log entries
11, 63, 65, 127 and 142. -/
def Obligations.PhaseSamplesAreTracked : Prop :=
  ∀ (dt d i : Nat) (diff : Int) (s : State), Between s → d < 8 → i < 32 → live s 6 = true → isolated s 6 = false →
    (∀ k < 8, ∀ w, ix s.selWas k = some w → w.cyc < cycleNow (pass dt s)) →
    let free (e : Nat) : Prop := actSlot s e ≠ some i ∧ ¬(rd s (SEL_SELd_STAT_STAGE e) = 2 ∧ rd s (SEL_SELd_STAT_PEND_SLOT e) = i)
    let st := dpllState s d
    let pb := rdPair s (SEL_SELd_PBO_LO_B d) (SEL_SELd_PBO_HI_B d)
    let e : Int := sampleOf (pass dt s) d i diff - (if (rd s (SEL_SELd_PBO_HI_B d)).testBit 31 then (pb : Int) - 2 ^ 64 else (pb : Int)) + owNow (pass dt s) d
    let w := rd s (SEL_DPLLd_LOCKW_W d) * 4096
    let cnt := if e.natAbs ≤ w then (if rd s (SEL_DPLLd_STAT_LOCKCNT d) < 65535 then rd s (SEL_DPLLd_STAT_LOCKCNT d) + 1 else 65535) else 0
    let un := if 2 * w < e.natAbs then (ix s.dpll d).un + 1 else 0
    (actSlot s d = some i → (ix s.sel d).lost = false → eligible s d i = true → rd s (SEL_SELd_CFG_SELMODE d) ≠ 2 → (st = 1 ∨ st = 2) → d ≠ timeDpll s →
      ¬(rd s (SEL_SELd_STAT_STAGE d) = 2 ∧ rd s (SEL_SELd_STAT_PEND_SLOT d) = i) → (∀ k < 8, k ≠ d → free k) →
      Effects (.phaseSample dt i diff) s (fun v =>
        rdS v (SEL_DPLLd_PERR_E d) = satS 32 e ∧ rd v (SEL_DPLLd_STAT_LOCKCNT d) = cnt
        ∧ dpllState v d = (if st = 1 ∧ max 1 (rd s (SEL_DPLLd_LOCK_LOCK_N d)) ≤ cnt then 2
            else if st = 2 ∧ max 1 (rd s (SEL_DPLLd_LOCK_UN d)) ≤ un then 1 else st)
        ∧ (ix v.dpll d).smpAt = s.now + dt ∧ v.now = s.now + dt ∧ RegsOutside [(0x600400 + 128 * d, 0x600480 + 128 * d), (0x700000, 0x700100)] s v ∧ StoresSame s v))
    ∧ ((∀ k < 8, free k) → Completes (.phaseSample dt i diff) s (fun t => t.dpll = (pass dt s).dpll ∧ t.now = s.now + dt ∧ RegsBut [] s t ∧ StoresSame s t))

/-- A second of HOLDOVER with no slew pending sets w_h to w_avg, or to the model as it stood at entry plus the offset fixed then,
within FLIM, and the word to w_h with the slew term; HOTE shows the error bound. HO_DLY in HOLDOVER raises source 26 once. Outside
HOLDOVER and a slew in FREERUN a second changes nothing. An update of the estimates gives a slot 16 to 31 that is valid for the
window the least-squares slope of its samples, before disagreement is judged. A temperature reading is stored saturated; VALID
needs -55 to 150 degrees and a change within 600 s; each reading out of range raises source 30, and so does the first one after
600 s without a change. It rests on the model's choices of log entries 2, 12, 64, 70, 71, 72, 74, 142, 143 and 146. -/
def Obligations.HoldoverSecondsAndEstimates : Prop :=
  ∀ (dt d : Nat) (x : Int) (s : State), Between s → d < 8 →
    let st := dpllState s d
    let p := ix s.dpll d
    let t := max s.now (hoSecond s d)
    (live s 6 = true → isolated s 6 = false → st = 3 → rd s (SEL_DPLLd_PEND_LO_PEND d) = 0 → rd s (SEL_DPLLd_PEND_HI_PEND d) = 0 →
      (hoUses s d = false ∨ p.hoG = none) →
      let w := clampI (if hoUses s d = true then modelWord p.ho t (tempNow s) + p.hoDelta else p.wAvg) (flimWord s d)
      Effects (.holdoverSecond d) s (fun v => wordOf v d = satS 48 (clampI (w + p.slew) (flimWord s d)) ∧ (ix v.dpll d).wh = w
        ∧ rd v (SEL_DPLLd_HOTE_TE d) = min (ceilDiv (hoTe v d) (2 ^ 40)) (2 ^ 32 - 1) ∧ dpllState v d = 3 ∧ v.now = t ∧ (ix v.dpll d).updAt = t
        ∧ (∀ q ∈ v.flt.raised, q = (27, some d) ∨ q = (28, some d) ∨ q = (29, some d)) ∧ RegsOutside [(0x600400 + 128 * d, 0x600480 + 128 * d), (0x700000, 0x700100)] s v ∧ StoresSame s v))
    ∧ ((st = 1 ∨ st = 2 ∨ (st = 0 ∧ rd s (SEL_DPLLd_STAT_SLEWING d) = 0)) → exec (.holdoverSecond d) s = .next s)
    ∧ (st = 3 → p.hoRep = false → Effects (.holdoverDelayExpiry d) s (fun v => v.flt.raised = [(26, some d)] ∧ (ix v.dpll d).hoRep = true
      ∧ v.now = max s.now (p.hoAt + rd s (SEL_DPLLd_HOCFG_HO_DLY d) * msU) ∧ RegsBut [] s v ∧ StoresSame s v))
    ∧ (live s 6 = true → isolated s 6 = false → Leads (.freqEstimateUpdate dt) s estJudge (fun u =>
      let win := 2 ^ min 10 (rd s SEL_FEST_CFG_WIN) * secU
      (∀ i t0 f, 16 ≤ i → i < 32 → (ix s.est i).since = some t0 → t0 + win ≤ s.now + dt →
        slopeOf ((ix s.est i).smp.filter (fun q => decide (s.now + dt ≤ q.1 + win))) = some f → (ix u.est i).f = f ∧ (ix u.est i).valid = true)
      ∧ (∀ i, 16 ≤ i → i < 32 → (ix s.est i).since = none → (ix u.est i).valid = false)
      ∧ u.now = s.now + dt ∧ u.flt.raised = [] ∧ RegsBut [] s u ∧ StoresSame s u))
    ∧ (let r := satS 18 x
      let at_ := if uns 16 r = rd s SEL_TEMP_T % 65536 then s.tempAt else s.now + dt
      let stuck := at_ + 600 * secU ≤ s.now + dt
      let out := r < -14080 ∨ 38400 < r
      let ok := ¬out ∧ ¬stuck
      let told := uns 16 r = rd s SEL_TEMP_T % 65536 ∧ s.tempStuck = true
      Effects (.tempReading dt x) s (fun v => rdS v SEL_TEMP_T = r ∧ (rd v SEL_TEMP_VALID = 1 ↔ ok)
        ∧ v.flt.raised = (if out ∨ (stuck ∧ ¬told) then [(30, none)] else []) ∧ (ok → v.tempHeld = r) ∧ (¬ok → v.tempHeld = s.tempHeld)
        ∧ v.now = s.now + dt ∧ RegsBut [SEL_TEMP_T, SEL_TEMP_VALID] s v ∧ StoresSame s v))

/-- SEL not isolated, a minute with no model awaiting confirmation adds one minute slot to every DPLL and changes no register, and an
hour bucket closes for every DPLL with sixty slots: its samples become the youngest of at most 24 buckets. MODEL_CLR on an open
port empties the buckets, the coefficients and the average of DPLL d, and its minute in progress gives no sample. SLEW_CANCEL
keeps the part applied, takes the slew out of the word, clears PEND and SLEWING and gives no STEP_DONE. It rests on the model's
choices of log entries 12, 17, 70, 71, 126 and 143. -/
def Obligations.DriftModelsAreLearnedAndCleared : Prop :=
  ∀ (dt d : Nat) (s : State), Between s → d < 8 →
    let p := ix s.dpll d
    (s.tkp.run = true → live s 6 = true → isolated s 6 = false → (∀ k < 8, rd s (SEL_DPLLd_STAT_RESTORED k) = 0) →
      Completes .minuteSample s (fun t => (∀ k < 8, (ix t.dpll k).slots = (ix s.dpll k).slots + 1) ∧ t.minAt = t.now ∧ t.now = max s.now (nextMinute s)
        ∧ RegsBut [] s t ∧ StoresSame s t))
    ∧ Effects (.bucketClose dt) s (fun v => v.now = s.now + dt ∧ v.flt.raised = []
      ∧ (∀ k < 8, let q := ix s.dpll k
        (q.slots < 60 ∨ isolated s 6 = true → (ix v.dpll k).buckets = q.buckets ∧ (ix v.dpll k).slots = q.slots)
        ∧ (60 ≤ q.slots → isolated s 6 = false → (ix v.dpll k).buckets = ({ close := s.now + dt, smp := q.open_, g := q.openG } :: q.buckets).take 24
            ∧ (ix v.dpll k).slots = 0 ∧ (ix v.dpll k).open_ = []
            ∧ rd v (SEL_DPLLd_MSTAT_BUCKETS k) = min 24 (q.buckets.length + 1)))
      ∧ RegsOutside [(0x600400, 0x600800), (0xE00000, 0xE00400)] s v ∧ StoresSame s v)
    ∧ (Open s (0x600434 + 128 * d) → dpllState s d ≠ 3 → Completes (.modelClr dt d) s (fun t =>
      (ix t.dpll d).buckets = [] ∧ (ix t.dpll d).avgOk = false ∧ (ix t.dpll d).avgEver = p.avgEver ∧ (ix t.dpll d).minOk = false ∧ (ix t.dpll d).open_ = [] ∧ rd t (SEL_DPLLd_STAT_MODEL_VALID d) = 0
      ∧ rd t (SEL_DPLLd_STAT_TERMS d) = 0 ∧ rd t (SEL_DPLLd_STAT_RESTORED d) = 0 ∧ rd t (SEL_DPLLd_A0_LO_A0 d) = 0 ∧ rd t (SEL_DPLLd_A0_HI_A0 d) = 0
      ∧ rd t (SEL_DPLLd_A1_A1 d) = 0 ∧ rd t (SEL_DPLLd_C1_C1 d) = 0 ∧ rd t (SEL_DPLLd_C2_C2 d) = 0 ∧ rd t (SEL_DPLLd_MSTAT_COUNT d) = 0
      ∧ rd t (SEL_DPLLd_MSTAT_BUCKETS d) = 0 ∧ rd t (SEL_DPLLd_HOFREQ_HI_AVG_VALID d) = 0 ∧ t.now = s.now + dt
      ∧ RegsBut [SEL_DPLLd_STAT_MODEL_VALID d, SEL_DPLLd_STAT_TERMS d, SEL_DPLLd_STAT_RESTORED d, SEL_DPLLd_A0_LO_A0 d, SEL_DPLLd_A0_HI_A0 d,
          SEL_DPLLd_A1_A1 d, SEL_DPLLd_C1_C1 d, SEL_DPLLd_C2_C2 d, SEL_DPLLd_MREF_THETA_W d, SEL_DPLLd_MSTAT_COUNT d, SEL_DPLLd_MSTAT_BUCKETS d,
          SEL_DPLLd_MSTAT_RES d, SEL_DPLLd_HOFREQ_LO_WH d, SEL_DPLLd_HOFREQ_HI_WH d, SEL_DPLLd_HOFREQ_HI_AVG_VALID d] s t ∧ StoresSame s t))
    ∧ (Open s (0x600434 + 128 * d) →
      let pend := rdPair48 s (SEL_DPLLd_PEND_LO_PEND d) (SEL_DPLLd_PEND_HI_PEND d)
      let mv := clampI (roundDiv (p.slew * (((s.now + dt : Nat) : Int) - (p.slewAt : Int))) ((20 * 2 ^ 48 : Nat) : Int)) (pend.natAbs : Int)
      (pend = 0 → Completes (.slewCancel dt d) s (fun t => t.now = s.now + dt ∧ RegsBut [] s t ∧ StoresSame s t))
      ∧ (pend ≠ 0 → Effects (.slewCancel dt d) s (fun t => rd t (SEL_DPLLd_PEND_LO_PEND d) = 0 ∧ rd t (SEL_DPLLd_PEND_HI_PEND d) = 0
        ∧ rd t (SEL_DPLLd_STAT_SLEWING d) = 0 ∧ (ix t.dpll d).ow = p.ow + mv ∧ (ix t.dpll d).slew = 0
        ∧ wordOf t d = (if p.slew = 0 then wordOf s d else satS 48 (clampI (wordOf s d - p.slew) (flimWord s d)))
        ∧ (∀ q ∈ t.flt.raised, q = (29, some d)) ∧ rd t (SEL_DPLLd_EVT_STEP_DONE d) = rd s (SEL_DPLLd_EVT_STEP_DONE d)
        ∧ t.now = s.now + dt ∧ RegsOutside [(0x600400 + 128 * d, 0x600480 + 128 * d), (0x700000, 0x700100)] s t ∧ StoresSame s t)))

/-- With SYSCLK present a finished search takes, of the bands b0 - 1 to b0 + 1 it measured, one whose frequency none is nearer to
f_nom than: LOCKING in it where f_nom lies in its fine range, else FAILED with SEARCH_FAIL and source 34. Lock from LOCKING gives
LOCKED, EVT.LOCK and PH_ALIGNED, its frame counter on the steering accumulator, before its outputs are judged; lock from FROZEN
gives LOCKED with PH_ALIGNED 0. Loss of lock gives FROZEN at the frequency and the word of that instant, EVT.FROZEN and source 32
once it has locked. A ramp, a glide, a mute and a realignment end as their rules say. CTL.REALIGN asks for a realignment only
while PH_ALIGNED is 0; RELOCK mutes a FROZEN or FAILED one. The core synthesiser freezes the core clock. It rests on the model's
choices of log entries 2, 3, 4, 14, 55, 69, 80, 152, 153 and 154. -/
def Obligations.SynthesisersSearchLockAndFreeze : Prop :=
  ∀ (dt k f0 f1 f2 : Nat) (err : Int) (s : State), Between s → k < 4 →
    let st := rd s (SYN_SYNk_STAT_STATE k)
    let x := ix s.syn k
    let z := pass dt s
    let f := fNom s x.live
    let l := [f0, f1, f2]
    let b := bandTaken f l
    let gap (c : Nat) : Nat := ((c * hz41 : Nat) - f : Int).natAbs
    (rd s GEN_CLKSTAT_SYSCLK_PRES = 1 →
      ((∃ i < 3, b.1 + 1 = bandGuess f + i ∧ b.2 = l.getD i 0) ∧ (∀ i < 3, 1 ≤ bandGuess f + i → bandGuess f + i ≤ 256 → gap b.2 ≤ gap (l.getD i 0)))
      ∧ (st = 1 → inFineRange f b.2 = true → Completes (.bandSearchDone dt k f1 (f0, f2)) s (fun t => rd t (SYN_SYNk_STAT_STATE k) = 2
        ∧ rd t (SYN_SYNk_STAT_BAND k) = b.1 ∧ t.now = s.now + dt ∧ RegsBut [SYN_SYNk_STAT_STATE k, SYN_SYNk_STAT_BAND k] s t ∧ StoresSame s t))
      ∧ (st = 1 → inFineRange f b.2 = false → Effects (.bandSearchDone dt k f1 (f0, f2)) s (fun v => rd v (SYN_SYNk_STAT_STATE k) = 7
        ∧ rd v (SYN_SYNk_EVT_SEARCH_FAIL k) = 1
        ∧ v.flt.raised = [(34, some k)] ∧ v.now = s.now + dt ∧ RegsBut [SYN_SYNk_STAT_STATE k, SYN_SYNk_EVT_SEARCH_FAIL k] s v ∧ StoresSame s v))
      ∧ (st = 2 → Leads (.synthLockDeclared dt k err) s (fun u => putTdc k err (lockFollow k (outsBack k (commitAim k u)))) (fun u =>
        rd u (SYN_SYNk_STAT_STATE k) = 3 ∧ rd u (SYN_SYNk_EVT_LOCK k) = 1 ∧ rd u (SYN_SYNk_STAT_PH_ALIGNED k) = 1
        ∧ (rd s (SYN_SYNk_STAT_PH_ALIGNED k) = 0 → rd u (SYN_SYNk_EVT_ALIGNED k) = 1)
        ∧ ix u.syn k = { x with ever := true, realign := false, ph := alignedPhase z k, phT := s.now + dt } ∧ u.now = s.now + dt ∧ u.flt.raised = []
        ∧ RegsBut [SYN_SYNk_STAT_STATE k, SYN_SYNk_EVT_LOCK k, SYN_SYNk_STAT_PH_ALIGNED k, SYN_SYNk_EVT_ALIGNED k] s u ∧ StoresSame s u))
      ∧ (st = 6 → Leads (.synthLockDeclared dt k err) s (fun u => putTdc k err (giveHeld k (lockFollow k u))) (fun u =>
        rd u (SYN_SYNk_STAT_STATE k) = 3 ∧ rd u (SYN_SYNk_EVT_LOCK k) = 1 ∧ rd u (SYN_SYNk_STAT_PH_ALIGNED k) = 0
        ∧ (ix u.syn k).realign = (x.realign || decide (rd s (SYN_SYNk_CFG_AUTO_REALIGN k) = 1)) ∧ (ix u.syn k).phT = s.now + dt
        ∧ (ix u.syn k).held = x.held ∧ u.now = s.now + dt ∧ u.flt.raised = []
        ∧ RegsBut [SYN_SYNk_STAT_STATE k, SYN_SYNk_EVT_LOCK k, SYN_SYNk_STAT_PH_ALIGNED k] s u ∧ StoresSame s u)))
    ∧ ((st = 2 ∨ st = 3 ∨ st = 4) → x.ever = true → (∀ n < 16, (ix s.out n).moving ≠ some k) → Effects (.synthLockLost dt k err) s (fun v =>
      rd v (SYN_SYNk_STAT_STATE k) = 6 ∧ rd v (SYN_SYNk_EVT_FROZEN k) = 1 ∧ rdS v (SYN_SYNk_STAT_TDC_ERR k) = satS 16 err
      ∧ (ix v.syn k).fFrom = fAt z k (s.now + dt) ∧ (ix v.syn k).wa = appliedWord z k (s.now + dt) ∧ (ix v.syn k).wd = (ix v.syn k).wa
      ∧ (ix v.syn k).held = (if appliedWord z k (s.now + dt) = x.wd then none else some x.wd)
      ∧ v.flt.raised = [(32, some k)] ∧ v.now = s.now + dt
      ∧ RegsBut [SYN_SYNk_STAT_STATE k, SYN_SYNk_EVT_FROZEN k, SYN_SYNk_STAT_TDC_ERR k] s v ∧ StoresSame s v))
    ∧ (st = 4 → Completes (.glideDone k) s (fun t => rd t (SYN_SYNk_STAT_STATE k) = 3 ∧ t.now = max s.now x.glideEnd
      ∧ RegsBut [SYN_SYNk_STAT_STATE k] s t ∧ StoresSame s t))
    ∧ (rd s (SYN_SYNk_STAT_WRATE_ACT k) = 1 → x.wrate ≠ 0 → st ≠ 6 → Completes (.appliedWordRampDone k) s (fun t =>
      rd t (SYN_SYNk_STAT_WRATE_ACT k) = 0 ∧ (ix t.syn k).wa = x.wd
      ∧ t.now = max s.now (x.waAt + ceilDiv ((x.wd - x.wa).natAbs * (1000000000 * msU)) (x.wrate * 2 ^ 48))
      ∧ RegsBut [SYN_SYNk_STAT_WRATE_ACT k] s t ∧ StoresSame s t))
    ∧ (st = 5 → (∀ n < 16, rd s (SYN_OUTn_STAT_SRC n) = k → rd s (SYN_OUTn_STAT_STATE n) = 0) → rd s SYN_TEST_GO = 0 →
      Completes (.muteDone dt k) s (fun t => rd t (SYN_SYNk_STAT_STATE k) = 1 ∧ t.now = s.now + dt ∧ RegsBut [SYN_SYNk_STAT_STATE k] s t ∧ StoresSame s t))
    ∧ (Open s (0x70001C + 64 * k) →
      (rd s (SYN_SYNk_STAT_PH_ALIGNED k) = 0 → Completes (.realignCmd dt k) s (fun t => ix t.syn k = { x with realign := true } ∧ t.now = s.now + dt
        ∧ RegsBut [] s t ∧ StoresSame s t))
      ∧ (rd s (SYN_SYNk_STAT_PH_ALIGNED k) = 1 → Completes (.realignCmd dt k) s (fun t => t.syn = s.syn ∧ t.now = s.now + dt ∧ RegsBut [] s t ∧ StoresSame s t))
      ∧ ((st = 6 ∨ st = 7) → isolated s 7 = false → Leads (.relockCmd dt k) s (fun u => giveHeld k (clearOuts k true u)) (fun u => rd u (SYN_SYNk_STAT_STATE k) = 5
        ∧ rd u (SYN_SYNk_EVT_BAND_CHG k) = 1 ∧ u.now = s.now + dt ∧ u.flt.raised = [] ∧ RegsBut [SYN_SYNk_STAT_STATE k, SYN_SYNk_EVT_BAND_CHG k] s u ∧ StoresSame s u)))
    ∧ (st = 3 → x.realign = true → Leads (.realignDone dt k) s (fun u => outsBack k (commitAim k u)) (fun t => rd t (SYN_SYNk_STAT_PH_ALIGNED k) = 1
      ∧ (rd s (SYN_SYNk_STAT_PH_ALIGNED k) = 0 → rd t (SYN_SYNk_EVT_ALIGNED k) = 1) ∧ ix t.syn k = { x with realign := false, ph := alignedPhase z k, phT := s.now + dt } ∧ t.now = s.now + dt ∧ t.flt.raised = []
      ∧ RegsBut [SYN_SYNk_STAT_PH_ALIGNED k, SYN_SYNk_EVT_ALIGNED k] s t ∧ StoresSame s t))
    ∧ (rd s SYN_CORE_STAT_STATE = 3 → Leads (.synthLockLost dt 4 err) s (fun u => raise 33 none (minBreakAll (frozenEval u))) (fun u =>
      rd u SYN_CORE_STAT_STATE = 6 ∧ rd u GEN_CLKSTAT_CORE_LOCK = 0 ∧ rd u GEN_CLKSTAT_CORE_FROZEN = 1 ∧ rd u GEN_CLKSTAT_RCLK_OK = 0
      ∧ rd u SYN_CORE_STAT_FREEZES = (if rd s SYN_CORE_STAT_FREEZES < 65535 then rd s SYN_CORE_STAT_FREEZES + 1 else 65535)
      ∧ u.now = s.now + dt ∧ RegsBut [SYN_CORE_STAT_STATE, GEN_CLKSTAT_CORE_LOCK, GEN_CLKSTAT_CORE_FROZEN, GEN_CLKSTAT_RCLK_OK, SYN_CORE_STAT_FREEZES] s u
      ∧ StoresSame s u))

/-- An output STARTING on a LOCKED synthesiser becomes RUNNING at the next frame tick with ALIGNED 1. One STOPPING becomes OFF with
ALIGNED 0 once its high phase has ended; from then on its ball holds the level of STOP, low before its first start, inverted on
the N leg of a differential standard; a ball that PINMUX disables is high impedance. A move completes on its new synthesiser with
ALIGNED 1. At a commit boundary the shadow dividers of every listed output and, where asked, those of the synthesiser become the
live ones, COMMIT_DONE is set and COMMIT_PEND falls. It rests on the model's choices of log entries 3, 14, 69, 77, 78, 79, 81, 82,
152 and 154. -/
def Obligations.OutputsStartStopMoveAndCommit : Prop :=
  ∀ (dt n k : Nat) (c : CommitS) (s : State), Between s → n < 16 → k < 4 →
    let st := rd s (SYN_OUTn_STAT_STATE n)
    let o := ix s.out n
    (st = 1 → rd s (SYN_OUTn_STAT_SRC n) = k → rd s (SYN_SYNk_STAT_STATE k) = 3 → rd s (SYN_OUTn_CFG_EN n) = 1 → rd s (SYN_OUTn_STAT_CFG_ERR n) = 0 →
      Completes (.outputStart dt n) s (fun t => rd t (SYN_OUTn_STAT_STATE n) = 2 ∧ rd t (SYN_OUTn_STAT_ALIGNED n) = 1
        ∧ (ix t.out n).started = true ∧ (ix t.out n).fine = o.fine ∧ (ix t.out n).fineAt = t.now ∧ t.now = tickFrom (pass dt s) k (s.now + dt)
        ∧ RegsBut [SYN_OUTn_STAT_STATE n, SYN_OUTn_STAT_ALIGNED n] s t ∧ StoresSame s t))
    ∧ (st = 3 → rd s (SYN_OUTn_STAT_SRC n) = k → Leads (.outputStopDone dt n) s
      (fun u => let w := outEval n u; if on w (SYN_SYNk_CFG_EN k) then w else synEval k w) (fun u =>
        rd u (SYN_OUTn_STAT_STATE n) = 0 ∧ rd u (SYN_OUTn_STAT_ALIGNED n) = 0 ∧ ix u.out n = { o with chg := true } ∧ u.now = max (s.now + dt) o.fallAt
        ∧ u.flt.raised = [] ∧ RegsBut [SYN_OUTn_STAT_STATE n, SYN_OUTn_STAT_ALIGNED n] s u ∧ StoresSame s u))
    ∧ (st ≤ 1 → s.img.applied = true → ballOff s (outBall n) = false →
      let p : BallOut := if o.started = false then .low else if o.stop = 1 then .high else if o.stop = 2 then .hiZ 0 else .low
      (outBalls s n).1 = p ∧ (2 < tabGet s.img.iostd (256 + n) 3 → (outBalls s n).2 = p.inv))
    ∧ (ballOff s (outBall n) = true → s.img.applied = true → outBalls s n = (.hiZ (ballPull s (outBall n).1 (outBall n).2), .hiZ (ballPull s (outBall n).1 (outBall n).2)))
    ∧ (o.moving = some k → Leads (.outputMoveDone dt n) s (outEval n) (fun u =>
      rd u (SYN_OUTn_STAT_SRC n) = k ∧ (rd u (SYN_OUTn_STAT_ON_ALT n) = 1 ↔ k = (outSyn s n).2.1 ∧ k ≠ (outSyn s n).1)
      ∧ rd u (SYN_OUTn_STAT_ALIGNED n) = 1 ∧ (ix u.out n).moving = none ∧ (ix u.out n).fine = fineNow (pass dt s) n ∧ (ix u.out n).fineAt = s.now + dt ∧ u.now = s.now + dt ∧ u.flt.raised = []
      ∧ RegsBut [SYN_OUTn_STAT_SRC n, SYN_OUTn_STAT_ON_ALT n, SYN_OUTn_STAT_ALIGNED n] s u ∧ StoresSame s u))
    ∧ (nextCommit s = some c → c.k < 4 → c.l1 = false → Effects .commitBoundary s (fun v =>
      (ix v.syn c.k).live = (if c.mult then synShadow s c.k else (ix s.syn c.k).live)
      ∧ (∀ j < 16, outLive v j = if c.mask.testBit j then outShadow s j else outLive s j)
      ∧ rd v (SYN_SYNk_EVT_COMMIT_DONE c.k) = 1 ∧ rd v SYN_STAT_COMMIT_PEND = 0 ∧ v.commit.map (fun x => (x.k, x.mask, x.mult, x.l1)) = (s.commit.filter (fun x => x != c)).map (fun x => (x.k, x.mask, x.mult, x.l1))
      ∧ v.now = max s.now c.atT ∧ RegsOutside [(0x700000, 0x700800)] s v ∧ StoresSame s v))

/-- On an open host port: SNAP latches the time of day of its core cycle, rounded to 2^-16 ns (the whole second where one begins in
the cycle), and its UTC and civil views. SET makes the time of day the TSET value in the next core cycle, with TIME_SET, TIME_SRC
2 and EVT.SET; while the time DPLL tracks a slot that carries time it is refused. SET_SEC keeps the TSET seconds for the first
whole second at least 1 µs later; at that second the time of day becomes them. RTC_SYNC waits for the next whole second. It rests
on the model's choices of log entries 76, 84 and 89. -/
def Obligations.TimeOfDayIsReadAndSet : Prop :=
  ∀ (dt : Nat) (s : State), Between s → Open s 0x800008 →
    let p := pass dt s
    let t := snapOf p
    let u := utcView s (secOf16 t)
    let c := civilView s (secOf16 t)
    Completes (.snapCmd dt) s (fun v => rd v TKP_SNAP_FRAC_FRAC = fracOf16 t ∧ rd v TKP_SNAP_NS_NS = nsOf16 t
      ∧ rd v TKP_SNAP_SEC_LO_SEC = secOf16 t % 2 ^ 32 ∧ rd v TKP_SNAP_SEC_HI_SEC = secOf16 t / 2 ^ 32 % 2 ^ 16
      ∧ rd v TKP_SNAP_UTC_DATE_YEAR = u.year % 65536 ∧ rd v TKP_SNAP_UTC_DATE_MONTH = u.month % 256 ∧ rd v TKP_SNAP_UTC_DATE_DAY = u.day % 256
      ∧ rd v TKP_SNAP_UTC_TIME_HOUR = u.hour % 256 ∧ rd v TKP_SNAP_UTC_TIME_MIN = u.min % 256 ∧ rd v TKP_SNAP_UTC_TIME_SEC = u.sec % 256
      ∧ rd v TKP_SNAP_LOC_DATE_YEAR = c.year % 65536 ∧ rd v TKP_SNAP_LOC_DATE_MONTH = c.month % 256 ∧ rd v TKP_SNAP_LOC_DATE_DAY = c.day % 256
      ∧ rd v TKP_SNAP_LOC_TIME_HOUR = c.hour % 256 ∧ rd v TKP_SNAP_LOC_TIME_MIN = c.min % 256 ∧ rd v TKP_SNAP_LOC_TIME_SEC = c.sec % 256
      ∧ v.tod = p.tod ∧ v.now = s.now + dt
      ∧ RegsBut [TKP_SNAP_FRAC_FRAC, TKP_SNAP_NS_NS, TKP_SNAP_SEC_LO_SEC, TKP_SNAP_SEC_HI_SEC, TKP_SNAP_UTC_DATE_YEAR, TKP_SNAP_UTC_DATE_MONTH, TKP_SNAP_UTC_DATE_DAY, TKP_SNAP_UTC_TIME_WDAY, TKP_SNAP_UTC_TIME_HOUR, TKP_SNAP_UTC_TIME_MIN, TKP_SNAP_UTC_TIME_SEC,
          TKP_SNAP_LOC_DATE_YEAR, TKP_SNAP_LOC_DATE_MONTH, TKP_SNAP_LOC_DATE_DAY, TKP_SNAP_LOC_TIME_WDAY, TKP_SNAP_LOC_TIME_HOUR, TKP_SNAP_LOC_TIME_MIN, TKP_SNAP_LOC_TIME_SEC] s v ∧ StoresSame s v)
    ∧ (timeHeld s = false → Effects (.setCmd dt) s (fun v => v.tod = tsetSec s * secT + rd s TKP_TSET_NS_NS * nsT ∧ rd v TKP_STAT_TIME_SET = 1
      ∧ rd v TKP_STAT_TIME_SRC = 2 ∧ rd v TKP_EVT_SET = 1 ∧ v.now = (cycleNow p + 1) * cycU ∧ RegsOutside [(0x500000, 0x500800), (0x700000, 0x700100), (0x800004, 0x800008), (0x80000C, 0x800010), (0x900000, 0x900200), (0xC00000, 0xC01000), (0xD00000, 0xD00800)] s v ∧ StoresSame s v))
    ∧ (timeHeld s = true → Effects (.setCmd dt) s (fun v => v.tod = p.tod ∧ v.flt.raised = [(0, none)] ∧ v.now = s.now + dt
      ∧ RegsBut [GEN_HAF_VALID, GEN_HAF_CAUSE, GEN_HAF_ADDR, GEN_HAF_MORE] s v ∧ StoresSame s v))
    ∧ (timeHeld s = false → Completes (.setSec dt) s (fun v => v.tkp = { s.tkp with setSec := some (tsetSec s, ceilDiv (p.tod + 1000 * nsT) secT) }
      ∧ v.tod = p.tod ∧ v.now = s.now + dt ∧ RegsBut [] s v ∧ StoresSame s v))
    ∧ (∀ sec at_, s.tkp.setSec = some (sec, at_) → Effects .setSecLoad s (fun v => v.tod = sec * secT ∧ v.tkp.setSec = none
      ∧ rd v TKP_STAT_TIME_SET = 1 ∧ rd v TKP_STAT_TIME_SRC = 2 ∧ rd v TKP_EVT_SET = 1 ∧ v.now = max s.now (whenTod s (at_ * secT))
      ∧ RegsOutside [(0x500000, 0x500800), (0x700000, 0x700100), (0x800004, 0x800008), (0x80000C, 0x800010), (0x900000, 0x900200), (0xC00000, 0xC01000), (0xD00000, 0xD00800)] s v ∧ StoresSame s v))
    ∧ Completes (.rtcSync dt) s (fun v => v.tkp = { s.tkp with rtcSync := some (todSec p + 1) } ∧ v.tod = p.tod ∧ v.now = s.now + dt
      ∧ RegsBut [] s v ∧ StoresSame s v)

/-- A whole second of the running time of day sets EVT.PPS. The seconds test counts samples in a row with the same whole-second error;
SEC_CONF of them set EVT.SECDIS, raise source 37 and jam by that error, and a sample without one ends the count. LEAP_CANCEL
clears the pending leap before it is latched; one minute before its end the leap is latched; its execution moves DAT by one
second, clears the pending leap and sets EVT.LEAP. A civil offset change sets EVT.DST. It rests on the model's choices of log
entries 2, 49, 54, 83, 84 and 92. -/
def Obligations.SecondsLeapsAndCivilTime : Prop :=
  ∀ (dt : Nat) (s : State), Between s →
    (s.tkp.run = true → s.tkp.rtcSync = none → Completes .pps s (fun t => rd t TKP_EVT_PPS = 1 ∧ t.tkp.ppsSec = todSec t ∧ t.tkp.secAt = todSec t
      ∧ t.now = (if todSec s = s.tkp.secAt then max s.now (whenTod s ((todSec s + 1) * secT)) else s.now) ∧ RegsBut [TKP_EVT_PPS] s t ∧ StoresSame s t))
    ∧ (isolated s 8 = false → live s 8 = true →
      let e := s.tkp.lastErr
      let n := if s.tkp.disVal = e then s.tkp.disCnt + 1 else 1
      ((tracksTime s = false ∨ e = 0) → Completes (.secondsCheck dt) s (fun t => rd t TKP_STAT_SEC_DIS = 0 ∧ t.tkp.disCnt = 0 ∧ t.now = s.now + dt
        ∧ RegsBut [TKP_STAT_SEC_DIS] s t ∧ StoresSame s t))
      ∧ (tracksTime s = true → e ≠ 0 → n < max 1 (rd s TKP_CFG_SEC_CONF) → Completes (.secondsCheck dt) s (fun t => rd t TKP_STAT_SEC_DIS = 1
        ∧ t.tkp = { s.tkp with disCnt := n, disVal := e } ∧ t.now = s.now + dt ∧ RegsBut [TKP_STAT_SEC_DIS] s t ∧ StoresSame s t))
      ∧ (tracksTime s = true → e ≠ 0 → max 1 (rd s TKP_CFG_SEC_CONF) ≤ n → Effects (.secondsCheck dt) s (fun v => rd v TKP_EVT_SECDIS = 1
        ∧ rd v TKP_STAT_SEC_DIS = 0 ∧ (37, none) ∈ v.flt.raised ∧ v.tod = (((pass dt s).tod : Int) + e * (secT : Int)).toNat ∧ rd v TKP_STAT_TIME_SRC = 3
        ∧ v.now = s.now + dt ∧ RegsOutside [(0x500000, 0x500800), (0x700000, 0x700100), (0x800004, 0x800008), (0x80000C, 0x800010), (0x900000, 0x900200), (0xC00000, 0xC01000), (0xD00000, 0xD00800)] s v ∧ StoresSame s v)))
    ∧ (Open s 0x800008 → s.tkp.latched = none → Completes (.leapCancel dt) s (fun t => rd t TKP_STAT_LEAP_PEND = 0 ∧ rd t TKP_STAT_LEAP_DEL = 0
      ∧ t.now = s.now + dt ∧ RegsBut [TKP_STAT_LEAP_PEND, TKP_STAT_LEAP_DEL] s t ∧ StoresSame s t))
    ∧ (Open s 0x800008 → s.tkp.latched ≠ none → Completes (.leapCancel dt) s (fun t => t.tkp = s.tkp ∧ t.now = s.now + dt ∧ RegsBut [] s t ∧ StoresSame s t))
    ∧ (rd s TKP_STAT_LEAP_PEND = 1 → s.tkp.latched = none → let m := monthEnd (utcOfTai s (todSec s))
      Completes .leapLatch s (fun t => t.tkp = { s.tkp with latched := some m } ∧ t.now = max s.now (whenTod s ((m - 60 + deltaAT s) * secT))
        ∧ RegsBut [] s t ∧ StoresSame s t))
    ∧ (∀ m, s.tkp.latched = some m →
      let del := rd s TKP_STAT_LEAP_DEL = 1
      Leads .leapExecute s civilUpdate (fun u => rd u TKP_STAT_DAT = (if del then rd s TKP_STAT_DAT - 1 else rd s TKP_STAT_DAT + 1) % 256
        ∧ rd u TKP_STAT_LEAP_PEND = 0 ∧ rd u TKP_STAT_LEAP_DEL = 0 ∧ rd u TKP_EVT_LEAP = 1 ∧ rd u TKP_STAT_SEC_DIS = 0 ∧ u.tkp.latched = none
        ∧ u.now = max s.now (whenTod s ((if del then m - 1 + deltaAT s else m + 1 + deltaAT s) * secT)) ∧ u.flt.raised = []
        ∧ RegsBut [TKP_STAT_DAT, TKP_STAT_LEAP_PEND, TKP_STAT_LEAP_DEL, TKP_EVT_LEAP, TKP_STAT_SEC_DIS, TKP_RTC_CTL_PENDING] s u ∧ StoresSame s u))
    ∧ (s.img.applied = true →
      let c := civilOffset s (utcOfTai s (todSec (pass dt s)))
      let judged (u : State) : Prop := rd u TKP_STAT_CIV_ERR = (civErr s).toNat ∧ rd u TKP_STAT_DST_ACT = c.2.toNat ∧ u.tkp = { s.tkp with civ := c.1 }
        ∧ u.flt.raised = (if civErr s = true ∧ rd s TKP_STAT_CIV_ERR ≠ 1 then [(39, none)] else []) ∧ u.now = s.now + dt ∧ StoresSame s u
      (c.1 = s.tkp.civ → Effects (.civilOffsetChange dt) s (fun v => judged v ∧ RegsBut [TKP_STAT_CIV_ERR, TKP_STAT_DST_ACT] s v))
      ∧ (c.1 ≠ s.tkp.civ → Leads (.civilOffsetChange dt) s (astEval true) (fun u => judged u ∧ rd u TKP_EVT_DST = 1
        ∧ RegsBut [TKP_STAT_CIV_ERR, TKP_STAT_DST_ACT, TKP_EVT_DST] s u)))

/-- START ms after the 1PPS an enabled serial output sends the sentences of that second, once. The decoder reads the elements from
their high times and periods; a frame before its restart is not read. A frame that is not valid counts in ERRCNT and breaks the
succession. A valid frame in succession shows its control functions in IRIGIN_STAT; fewer than LOCK_N in a row give no lock, and
LOCK_N of them set FLOCK and EVT.FLOCK before slot 29 takes its sample. 2 s without a valid frame clear FLOCK, set EVT.FLOCK and
raise source 38 before slot 29 loses its validity. It rests on the model's choices of log entries 3, 49, 50, 53, 54, 85, 127 and
156. -/
def Obligations.SerialAndIrigTime : Prop :=
  ∀ (dt age k : Nat) (els : List (Nat × Nat)) (s : State), Between s →
    (k < 2 → rd s (TKP_TODTXk_CFG_EN k) = 1 → s.tkp.txHold = false → isolated s 8 = false → live s 8 = true → ix s.tkp.txSec k ≠ s.tkp.ppsSec →
      todSec s = s.tkp.ppsSec → Completes (.todTxStart k) s (fun t => ix t.tkp.tx k = txSentences s k s.tkp.ppsSec ∧ ix t.tkp.txSec k = s.tkp.ppsSec
        ∧ t.now = max s.now (whenTod s (s.tkp.ppsSec * secT + min (rd s (TKP_TODTXk_CFG_START k)) 989 * 1000000 * nsT)) ∧ RegsBut [] s t ∧ StoresSame s t))
    ∧ (rd s TKP_IRIGIN_CFG_EN = 1 → isolated s 8 = false → live s 8 = true → s.img.applied = true → tabGet s.img.routes 0x130 255 ≠ 255 →
      ballOff s (inBall (tabGet s.img.routes 0x130 255)) = false → s.tkp.txHold = false → s.tkp.irigFrom + age ≤ s.now + dt →
      let shows := [TKP_IRIGIN_STAT_CODE, TKP_IRIGIN_STAT_TQ, TKP_IRIGIN_STAT_LSP, TKP_IRIGIN_STAT_LS, TKP_IRIGIN_STAT_DSP, TKP_IRIGIN_STAT_DST]
      let p := pass dt s
      let f := irigDecode els
      let label := 2 * irigUtc p f + (if f.sec = 60 then 1 else 0)
      let shown (u : State) : Prop := rd u TKP_IRIGIN_STAT_CODE = f.code % 8 ∧ rd u TKP_IRIGIN_STAT_TQ = f.tq % 16 ∧ rd u TKP_IRIGIN_STAT_LSP = f.lsp.toNat
        ∧ rd u TKP_IRIGIN_STAT_LS = f.ls.toNat ∧ rd u TKP_IRIGIN_STAT_DSP = f.dsp.toNat ∧ rd u TKP_IRIGIN_STAT_DST = f.dst.toNat
        ∧ u.tkp = { s.tkp with irigLast := some label, irigAt := s.now + dt, irigOk := min (s.tkp.irigOk + 1) 8, slotDat := vset s.tkp.slotDat 29 none }
        ∧ u.now = s.now + dt ∧ StoresSame s u
      (irigValid s f = false → Completes (.irigFrame dt age els) s (fun t =>
        rd t TKP_IRIGIN_STAT_ERRCNT = (if rd s TKP_IRIGIN_STAT_ERRCNT < 255 then rd s TKP_IRIGIN_STAT_ERRCNT + 1 else 255) ∧ t.tkp.irigOk = 0
        ∧ t.now = s.now + dt ∧ RegsBut [TKP_IRIGIN_STAT_ERRCNT] s t ∧ StoresSame s t))
      ∧ (irigValid s f = true → (rd s TKP_UTC_DAT_FORCE = 1 ∨ actSlot s (timeDpll s) ≠ some 29) →
        (∀ a, s.tkp.irigLast = some a → irigFollows a label = true) →
        rd s TKP_IRIGIN_STAT_FLOCK = 0 →
        (s.tkp.irigOk + 1 < max 1 (rd s TKP_IRIGIN_CFG_LOCK_N) → Completes (.irigFrame dt age els) s (fun t => shown t ∧ RegsBut shows s t))
        ∧ (max 1 (rd s TKP_IRIGIN_CFG_LOCK_N) ≤ s.tkp.irigOk + 1 → Leads (.irigFrame dt age els) s
          (fun u => slotSample 29 ((((irigUtc p f + deltaAT u) * 65536000000000 : Nat) : Int) - t16 (todAt u (u.now - age))) (setSrc 29 true (irigQl u) u)) (fun u =>
            shown u ∧ rd u TKP_IRIGIN_STAT_FLOCK = 1 ∧ rd u TKP_EVT_FLOCK = 1 ∧ u.flt.raised = []
            ∧ RegsBut (shows ++ [TKP_IRIGIN_STAT_FLOCK, TKP_EVT_FLOCK]) s u))))
    ∧ (rd s TKP_IRIGIN_STAT_FLOCK = 1 → Leads .irigFrameTimeout s (setSrcOk 29 false) (fun u => rd u TKP_IRIGIN_STAT_FLOCK = 0 ∧ rd u TKP_EVT_FLOCK = 1
      ∧ u.tkp = { s.tkp with irigOk := 0, irigLast := none } ∧ u.flt.raised = [(38, none)] ∧ u.now = max s.now (s.tkp.irigAt + 2 * secU)
      ∧ RegsBut [TKP_IRIGIN_STAT_FLOCK, TKP_EVT_FLOCK] s u ∧ StoresSame s u))
    ∧ (rd s TKP_IRIGIN_STAT_FLOCK = 0 → exec .irigFrameTimeout s = .next s)

/-- A slow edge refreshes the copies of RST.CAUSE with the always-on values as they stood before it. A second boundary of the running
backup clock is stamped at its edge. A write of RTC_SEC_HI waits in a batch with PENDING set; the batch lands at its edge: SECONDS
high takes the data, SUBSEC is 0 and SET is 1. The load sets the time of day to SECONDS, with TIME_SRC 1. After 1024 s of
discipline a TRIM update is posted. The oscillator starts, fails with source 40, and VBAT below 1.9 V raises source 41 once. It
rests on the model's choices of log entries 2, 3, 10, 13, 86, 87, 90 and 91. -/
def Obligations.TheBackupClockAndItsBatches : Prop :=
  ∀ (dt data t : Nat) (s : State), Between s →
    let g := ix s.aon.grp 0
    let cause := [RST_CAUSE_FULL, RST_CAUSE_RAIL, RST_CAUSE_LAST_LEVEL, RST_CAUSE_LAST_SRC, RST_CAUSE_FLT, RST_CAUSE_PIN, RST_CAUSE_POR]
    let copied (u : State) : Prop := (∀ f ∈ cause, rd u f = aonGet s f % 2 ^ fldWidth f) ∧ u.flt.raised = []
      ∧ RegsBut (rwsFields ++ [TKP_RTC_CTL_PENDING, RST_CAUSE_PENDING]) s u ∧ StoresSame s u
    let run := aonGet s TKP_RTC_STAT_RUN = 1
    (¬(run ∧ nextRtcEdge s * slowU = slowEdgeAfter s.now 1) → Leads .alwaysOnRefresh s rtcSlot (fun u => copied u ∧ u.now = max s.now (slowEdgeAfter s.now 1)))
    ∧ (run → Leads .rtcSecond s (fun u => rtcBoundary (rtcSlot u)) (fun u => copied u ∧ u.now = max s.now (nextRtcEdge s * slowU)))
    ∧ (aonGet s TKP_RTC_STAT_RUN = 0 → exec .rtcSecond s = .next s)
    ∧ (run → s.tkp.waitRtc = true → Effects .rtcLoad s (fun v => rd v TKP_STAT_TIME_SET = 1 ∧ rd v TKP_STAT_TIME_SRC = 1 ∧ v.tod = rtcSec v * secT
      ∧ v.tkp.waitRtc = false ∧ v.now = max s.now (nextRtcEdge s * slowU)))
    ∧ (HostIdle s → s.img.applied = true → prTarget s ≠ some 8 → g.landAt = none → g.hw = [] → Completes (.rtcSecHiWrite dt 0 data) s (fun v =>
      ix v.aon.grp 0 = { g with batch := [{ addr := 0x80008C, alias_ := 0, be := 15, data := data % 2 ^ 32 }], landAt := some (slowEdgeAfter (s.now + dt) 3) }
      ∧ v.aon.val = s.aon.val ∧ rd v TKP_RTC_CTL_PENDING = 1 ∧ v.now = s.now + dt ∧ RegsBut [TKP_RTC_CTL_PENDING] s v ∧ StoresSame s v))
    ∧ (g.landAt = some t → g.batch = [{ addr := 0x80008C, alias_ := 0, be := 15, data := data }] → s.img.rws = [] → s.img.work = none → Effects (.rwsBatchLand 0) s (fun v =>
      aonGet v TKP_RTC_SEC_HI_SECONDS = data / 2 ^ 16 % 2 ^ 16 ∧ aonGet v TKP_RTC_SEC_HI_SUBSEC = 0 ∧ aonGet v TKP_RTC_STAT_SET = 1
      ∧ (ix v.aon.grp 0).batch = g.nextB ∧ (ix v.aon.grp 0).nextB = [] ∧ v.now = max s.now t))
    ∧ (g.landAt = none → exec (.rwsBatchLand 0) s = .next s)
    ∧ (1024 < s.aon.unbroken → Completes (.rtcTrimUpdate dt) s (fun v =>
      let p := pass dt s
      let d := roundDiv ((rtcError p - s.aon.drift0) * 2 ^ 21) (((s.aon.unbroken - 1) * 65536000000000 : Nat) : Int)
      v.aon.unbroken = 1 ∧ rd v TKP_RTC_CTL_PENDING = 1
      ∧ (ix v.aon.grp 0).hw = g.hw ++ [(slowEdgeAfter (s.now + dt) 3, fldKey TKP_RTC_CTL_TRIM, uns 16 (clampI (sgn 16 (aonGet s TKP_RTC_CTL_TRIM) - d) 32767))]
      ∧ v.now = s.now + dt ∧ RegsBut [TKP_RTC_CTL_PENDING] s v ∧ StoresSame s v))
    ∧ Leads (.backupOscillatorStart dt) s rtcSlot (fun u => aonGet u TKP_RTC_STAT_RUN = 1 ∧ u.now = s.now + dt ∧ u.flt.raised = [] ∧ RegsBut [] s u ∧ StoresSame s u)
    ∧ (aonGet s TKP_RTC_STAT_RUN ≠ 0 → Leads (.rtcOscFail dt) s rtcSlot (fun u => aonGet u TKP_RTC_STAT_RUN = 0 ∧ aonGet u TKP_RTC_STAT_OSC_FAIL = 1
      ∧ u.aon.unbroken = 0 ∧ u.flt.raised = (if aonGet s TKP_RTC_STAT_OSC_FAIL = 1 then [] else [(40, none)]) ∧ u.now = s.now + dt ∧ RegsBut [] s u ∧ StoresSame s u))
    ∧ (∀ mv, mv < 1900 → aonGet s TKP_RTC_STAT_VBAT_LOW = 0 → Effects (.vbatLow ⟨dt, mv⟩) s (fun v => aonGet v TKP_RTC_STAT_VBAT_LOW = 1 ∧ v.flt.raised = [(41, none)]
      ∧ v.now = s.now + dt ∧ RegsBut [] s v ∧ StoresSame s v))

/-- With grid time off an update happens at the next 40 µs instant: a channel not enabled is OFF, one enabled without error goes from
OFF to ACQUIRE at f_g, and only MNS registers change. DROP_MAX cycles in DROPOUT give LOST, and a nominal cycle without clipping
clears CLIP. A predicted crossing in TRACK pulses once, stamped with its predicted instant. Three agreeing cycles of a group set
SEQSTAT and EVT.SEQ, a change between ABC and ACB raises source 45, and a group not all VALID is unknown. SNAP latches every
channel and grid time; GT_ALIGN waits for the next crossing. It rests on the model's choices of log entries 2, 15, 70, 94, 95, 96,
127 and 157. -/
def Obligations.MainsChannelsAndSequences : Prop :=
  ∀ (dt n g : Nat) (xs : List Int) (s : State), Between s → n < 6 → g < 2 →
    let c := ix s.mns.ch n
    let st := rd s (MNS_CHn_STAT_STATE n)
    let seq := if g = 0 then MNS_SEQSTAT_G0 else MNS_SEQSTAT_G1
    let en := if g = 0 then rd s MNS_GCFG_SEQ0_EN = 1 else rd s MNS_GCFG_SEQ1_EN = 1
    let tracked := ∀ i < 3, rd s (MNS_CHn_STAT_STATE (3 * g + i)) = 2
    (s.tkp.run = true → seqHeld s = false → rd s MNS_GT_CFG_EN = 0 → s.mns.grid.run = false → Effects (.mainsUpdate xs) s (fun v =>
      v.now = max s.now (nextSample s) ∧ v.mns.at_ = v.now ∧ v.mns.t = v.tod
      ∧ (rd s (MNS_CHn_CFG_EN n) = 0 → rd v (MNS_CHn_STAT_STATE n) = 0)
      ∧ (rd s (MNS_CHn_CFG_EN n) = 1 → chErr s n = false → isolated s 9 = false → live s 9 = true → st = 0 →
          rd v (MNS_CHn_STAT_STATE n) = 1 ∧ (ix v.mns.ch n).f = hz48 (fGrid s) ∧ (ix v.mns.ch n).win = [])
      ∧ RegsOutside [(0x900000, 0x900200)] s v ∧ StoresSame s v))
    ∧ (st = 4 → Completes (.dropoutExpiry n) s (fun t => rd t (MNS_CHn_STAT_STATE n) = 5 ∧ (ix t.mns.ch n).ext = none ∧ t.now = max s.now c.drop
      ∧ RegsBut [MNS_CHn_STAT_STATE n] s t ∧ StoresSame s t))
    ∧ (rd s (MNS_CHn_STAT_CLIP n) = 1 → Completes (.clipClear n) s (fun t => rd t (MNS_CHn_STAT_CLIP n) = 0 ∧ t.now = max s.now (c.clipAt + tGridU s)
      ∧ RegsBut [MNS_CHn_STAT_CLIP n] s t ∧ StoresSame s t))
    ∧ (let m := c.phi / ((turn : Nat) : Int) + 1
      st = 2 → 0 < c.f → c.pulsed ≠ some m → live s 9 = true → Completes (.zcPulse n) s (fun t => (ix t.mns.ch n).pulsed = some m ∧ (ix t.mns.ch n).pulseT = predicted s n m
        ∧ t.now = max s.now (whenTod s ((c.t : Int) + roundDiv ((m * ((turn : Nat) : Int) - c.phi) * ((secT : Nat) : Int)) c.f).toNat)
        ∧ RegsBut [] s t ∧ StoresSame s t))
    ∧ (live s 9 = true →
      let k := seqClass s g
      let dir := ix s.mns.seqDir g
      (en → tracked → (ix s.mns.seqLast g).take 2 = [k, k] → rd s seq ≠ k → Effects (.sequenceCheck dt g) s (fun v => rd v seq = k ∧ rd v MNS_EVT_SEQ = 1
        ∧ v.flt.raised = (if (k = 1 ∨ k = 2) ∧ dir ≠ 0 ∧ dir ≠ k then [(45, some g)] else []) ∧ v.now = s.now + dt
        ∧ RegsBut [seq, MNS_EVT_SEQ] s v ∧ StoresSame s v))
      ∧ ((¬en ∨ ¬tracked) → Completes (.sequenceCheck dt g) s (fun t => rd t seq = 0 ∧ (rd s seq ≠ 0 → rd t MNS_EVT_SEQ = 1)
        ∧ ix t.mns.seqLast g = [] ∧ t.now = s.now + dt ∧ RegsBut [seq, MNS_EVT_SEQ] s t ∧ StoresSame s t)))
    ∧ (Open s 0x900124 → Completes (.gtAlign dt) s (fun t => t.mns = { s.mns with grid := { s.mns.grid with align := true } } ∧ t.now = s.now + dt
      ∧ RegsBut [] s t ∧ StoresSame s t))
    ∧ (Open s 0x900124 → Completes (.mnsSnap dt) s (fun t =>
      rd t (MNS_CHn_PHASE_PHASE n) = (roundDiv (c.phi % ((turn : Nat) : Int)) 65536).toNat % 2 ^ 32
      ∧ rd t (MNS_CHn_FREQ_FREQ n) = (roundDiv c.f ((2 ^ 28 : Nat) : Int)).toNat % 2 ^ 32 ∧ rd t (MNS_CHn_AMP_AMP n) = min 65535 c.amp
      ∧ rd t MNS_GT_CNT_LO_N = (s.mns.grid.p / ((turn : Nat) : Int)).toNat % 2 ^ 32
      ∧ rd t MNS_GT_PHASE_PHASE = (roundDiv (s.mns.grid.p % ((turn : Nat) : Int)) 65536).toNat % 2 ^ 32
      ∧ rdS t MNS_GT_DEV_DEV = satS 32 (roundDiv s.mns.grid.dev ((1000 * nsT : Nat) : Int))
      ∧ rd t MNS_SNAP_NS_NS = nsOf16 (t16 s.mns.t) ∧ rd t MNS_SNAP_SEC_LO_SEC = secOf16 (t16 s.mns.t) % 2 ^ 32
      ∧ t.mns = { s.mns with snapAt := cycleNow (pass dt s) + 1 } ∧ t.now = s.now + dt ∧ StoresSame s t
      ∧ RegsOutside [(0x900010, 0x900020), (0x900030, 0x900040), (0x900050, 0x900060), (0x900070, 0x900080), (0x900090, 0x9000A0), (0x9000B0, 0x9000C0),
        (0x900110, 0x900120), (0x900130, 0x90013C)] s t))

/-- RECALC of a READY table in use and without error, on an open port, in a core cycle in which none completed, starts a computation:
STATE is COMPUTE. A full computation that completes publishes both days: READY, EVT.DONE, GEN one higher, day 0 dated the local
civil date, and each threshold event in use; one with GRAZE 0 has the true code, and its instant lies within the bound of its
latitude. At local midnight day 1 becomes day 0, day 1 is blank with the date after, EVT.ROLL is set and GEN is one higher. Only
AST registers change. It rests on the model's choices of log entries 3, 9 and 97. -/
def Obligations.SolarTablesAreComputedAndRolled : Prop :=
  ∀ (dt e : Nat) (s : State), Between s → e < 17 →
    let gen := (rd s AST_STAT_GEN + 1) % 256
    (Open s 0xA00020 → (∀ c w, s.ast.done = some (c, w) → c < cycleNow (pass dt s)) → rd s AST_CFG_EN = 1 → rd s AST_STAT_STATE = 3 → astErr s = false → astRange (pass dt s) = false → isolated s 10 = false → live s 10 = true →
      Completes (.recalc dt) s (fun t => rd t AST_STAT_STATE = 2 ∧ t.ast = { s.ast with busy := some true, busyAt := cycleNow (pass dt s) + 1 } ∧ rd t AST_STAT_CFG_ERR = 0
        ∧ rd t AST_STAT_RANGE = 0 ∧ t.now = s.now + dt ∧ RegsBut [AST_STAT_STATE, AST_STAT_CFG_ERR, AST_STAT_RANGE] s t ∧ StoresSame s t))
    ∧ (s.ast.busy = some true → s.ast.busyAt ≠ cycleNow (pass dt s) + 1 → isolated s 10 = false → live s 10 = true → Completes (.astComputeDone dt) s (fun t =>
      let p := pass dt s
      let z := localDay p
      let i := solarIn p z e
      let r := solarCross i (e % 2 == 1)
      let u := Config.sun i (e % 2 == 1)
      rd t AST_STAT_STATE = 3 ∧ rd t AST_EVT_DONE = 1 ∧ rd t AST_STAT_GEN = gen ∧ t.ast = { s.ast with busy := none, published := true, pubAt := cycleNow p + 1, done := some (cycleNow p, s.ast.published) }
      ∧ rd t (AST_DAYd_DATE_YEAR 0) = (civilOfDay z).1 % 65536 ∧ rd t (AST_DAYd_DATE_MONTH 0) = (civilOfDay z).2.1 % 256
      ∧ rd t (AST_DAYd_DATE_DAY 0) = (civilOfDay z).2.2 % 256 ∧ rd t (AST_DAYd_DATE_DAY 1) = (civilOfDay (z + 1)).2.2 % 256
      ∧ (1 ≤ e → (solarThr s e).2 = true → rd t (AST_DAYd_EVe_HI_NOEVT 0 e) = r.1.val
          ∧ (∀ m, solarSlack i = some m → rd t (AST_DAYd_EVe_HI_GRAZE 0 e) = 0 → rd t (AST_DAYd_EVe_HI_NOEVT 0 e) = u.code.val
            ∧ (u.code = 0 → r.2.1 / 1000 < 2 ^ 48 →
                (((rd t (AST_DAYd_EVe_LO_SEC 0 e) + rd t (AST_DAYd_EVe_HI_SEC 0 e) * 2 ^ 32) * 1000 + rd t (AST_DAYd_EVe_HI_MS 0 e) : Nat)
                  - (if e % 2 = 1 then u.noon - u.dist else u.noon + u.dist : Nat) : Int).natAbs ≤ crossBound i + m)))
      ∧ ((solarThr s e).2 = false → rd t (AST_DAYd_EVe_HI_NOEVT 0 e) = 3 ∧ rd t (AST_DAYd_EVe_HI_VALID 0 e) = 0)
      ∧ t.now = s.now + dt ∧ RegsOutside [(0xA00024, 0xA0002C), (0xA00100, 0xA00300)] s t ∧ StoresSame s t))
    ∧ (astRolls s = true → Effects .astMidnight s (fun v =>
      let z := dayOf s 1
      rd v AST_EVT_ROLL = 1 ∧ rd v AST_STAT_GEN = gen ∧ rd v (AST_DAYd_DATE_YEAR 0) = (civilOfDay z).1 % 65536
      ∧ rd v (AST_DAYd_DATE_MONTH 0) = (civilOfDay z).2.1 % 256 ∧ rd v (AST_DAYd_DATE_DAY 0) = (civilOfDay z).2.2 % 256
      ∧ rd v (AST_DAYd_DATE_DAY 1) = (civilOfDay (z + 1)).2.2 % 256
      ∧ rd v (AST_DAYd_EVe_HI_NOEVT 0 e) = rd s (AST_DAYd_EVe_HI_NOEVT 1 e) % 4 ∧ rd v (AST_DAYd_EVe_HI_NOEVT 1 e) = 3
      ∧ v.now = max s.now (whenTod s (taiOfLocal s (dayOf s 0 + 1) 0 * secT)) ∧ (∀ q ∈ v.flt.raised, q = (51, none) ∨ q = (52, none))
      ∧ RegsOutside [(0xA00024, 0xA0002C), (0xA00100, 0xA00300)] s v ∧ StoresSame s v))

/-- ENT_CTL.READ shows the entry at ENT_IDX in D0 to D3. ENT_CTL.WRITE is refused while an entry write-back waits for a place or SCH
may not act; an entry that fails its check leaves its code in ENT_ERR and is refused; one that passes, and whose instant has not
come, becomes the entry, ENT_ERR is 0, ENT_DONE is set and its pages go to the store, every other entry as before. CMD outside RUN
and RECOVER is refused; on an idle level channel without feedback it sets STATE and DRIVE as its action says, clears IN_FAIL,
counts OPS when STATE changes, and its record is final at once. It rests on the model's choices of log entries 3, 18, 98, 99 and
103. -/
def Obligations.ScheduleEntriesAndCommandsAct : Prop :=
  ∀ (dt n act data : Nat) (s : State), Between s →
    let i := rd s SCH_ENT_IDX_IDX
    let code := entCheck (chForm s) (staged s)
    let haf : List Fld := [GEN_HAF_VALID, GEN_HAF_CAUSE, GEN_HAF_ADDR, GEN_HAF_MORE]
    (Open s 0xB00014 →
      Completes (.entRead dt) s (fun t => rd t (SCH_ENT_D_D 0) = (ent s i).w0 % 2 ^ 32 ∧ rd t (SCH_ENT_D_D 1) = (ent s i).w1 % 2 ^ 32
        ∧ rd t (SCH_ENT_D_D 2) = (ent s i).w2 % 2 ^ 32 ∧ rd t (SCH_ENT_D_D 3) = (ent s i).w3 % 2 ^ 32 ∧ t.sch = s.sch ∧ t.now = s.now + dt
        ∧ RegsBut [SCH_ENT_D_D 0, SCH_ENT_D_D 1, SCH_ENT_D_D 2, SCH_ENT_D_D 3] s t ∧ StoresSame s t)
      ∧ ((entBusy s = true ∨ live s 11 = false) → Effects (.entWrite dt) s (fun v => v.flt.raised = [(0, none)] ∧ v.sch = s.sch ∧ v.now = s.now + dt
        ∧ RegsBut haf s v ∧ StoresSame s v))
      ∧ (entBusy s = false → live s 11 = true →
        (code ≠ 0 → Effects (.entWrite dt) s (fun v => rd v SCH_STAT_ENT_ERR = code ∧ v.flt.raised = [(0, none)] ∧ v.sch = s.sch ∧ v.now = s.now + dt
          ∧ RegsBut (SCH_STAT_ENT_ERR :: haf) s v ∧ StoresSame s v))
        ∧ (code = 0 → (entValid (staged s) = false ∨ entTb (staged s) ≠ 0 ∨ now16 (pass dt s) < entAbs (staged s)) →
          Leads (.entWrite dt) s (entBack i) (fun u => rd u SCH_EVT_ENT_DONE = 1 ∧ rd u SCH_STAT_ENT_ERR = 0 ∧ ent u i = staged s
            ∧ (∀ j, j ≠ i → ent u j = ent s j) ∧ u.flt.raised = [] ∧ u.now = s.now + dt
            ∧ RegsBut [SCH_EVT_ENT_DONE, SCH_STAT_ENT_ERR, SCH_STAT_NVALID] s u ∧ StoresSame s u))))
    ∧ (Open s 0xB00030 →
      (schActs s = false → Effects (.schCmd dt 0 data) s (fun v => v.flt.raised = [(0, none)] ∧ v.sch = s.sch ∧ v.now = s.now + dt
        ∧ RegsBut haf s v ∧ StoresSame s v))
      ∧ (schActs s = true → n < 48 → act < 3 → chForm s n = 0 → chTakes s n act = true → rd s (SCH_CHn_CFG_FBEN n) = 0 → rd s (SCH_CHn_STAT_BUSY n) = 0 →
        Leads (.schCmd dt 0 (act * 2 ^ 16 + n)) s
          (fun u => let a : ActS := { rec_ := { t := now16 (pass dt s), origin := 3, target := n }, act := act }; finish s.sch.nextId a (execRec u a) u)
          (fun u => let v := actResult act (chStateOn s n)
            rd u (SCH_CHn_STAT_STATE n) = b2n v ∧ rd u (SCH_CHn_STAT_DRIVE n) = b2n v ∧ rd u (SCH_CHn_STAT_IN_FAIL n) = 0
            ∧ cram u (cramOps + n) = (if v = chStateOn s n then cram s (cramOps + n) else satInc (cram s (cramOps + n)) (2 ^ 32 - 1))
            ∧ u.sch.open_ = s.sch.open_ ++ [{ id := s.sch.nextId, target := n }] ∧ u.flt.raised = [] ∧ u.now = s.now + dt
            ∧ RegsBut [SCH_CHn_STAT_STATE n, SCH_CHn_STAT_DRIVE n, SCH_CHn_STAT_IN_FAIL n] s u
            ∧ (∀ a, memGet u.mram a = memGet s.mram a) ∧ u.otp = s.otp)))

/-- In RUN a comparator with one loadable instance and no qualifier holds it from 1 ms before its instant; with nothing loadable, or
outside RUN, nothing changes. A held instant arrives: the comparator is empty and its actions execute; a commanded level action
sets STATE and DRIVE and clears IN_FAIL. A pulse ends with BUSY 0, the driven ball inactive, DRIVE of the channel at its level,
and with it STATE of a level channel. A feedback edge (of a ball in use) shows in FB and resolves the action that waits for its
level; at the end of its window FB_FAIL and source 54. A second counts ONTIME of channels that are on. A pass starts where its
trigger asks for it, and over an empty schedule ends with RECOV set, STATE RUN, SCAN_T at t_R. With nothing remote due nothing is
sent; a plain remote target is sent RLEAD ahead. It rests on the model's choices of log entries 2, 3, 99, 100, 101, 102, 103, 107,
108 and 149. -/
def Obligations.ComparatorsPulsesFeedbackAndRecovery : Prop :=
  ∀ (dt n : Nat) (level : Bool) (s : State), Between s → n < 48 →
    let c := ix s.sch.ch n
    let at16 (t : Nat) : Nat := max s.now (whenTod s (t * t16T))
    (((schRuns s = false ∨ loadable s n = []) → exec (.comparatorLoad n) s = .next s)
      ∧ (∀ i j, schRuns s = true → loadable s n = [(i, j)] → c.load = [] → entQen (ent s i) = false →
        Completes (.comparatorLoad n) s (fun t => (ix t.sch.ch n).load = [{ at_ := j.t, base := j.t, act := entAct0 s i n j }]
          ∧ t.now = at16 (j.t - ms16 1) ∧ RegsBut [] s t ∧ StoresSame s t)))
    ∧ (((schRuns s = false ∨ c.load = []) → exec (.dispatchCmd n) s = .next s)
      ∧ (∀ l, schRuns s = true → c.load = [l] →
        Leads (.dispatchCmd n) s (fireLoads n [l]) (fun u => (ix u.sch.ch n).load = [] ∧ u.now = at16 l.at_ ∧ u.flt.raised = [] ∧ RegsBut [] s u ∧ StoresSame s u)
        ∧ (l.act.rec_.origin = 3 → l.act.act < 3 → chForm s n = 0 → chTakes s n l.act.act = true → rd s (SCH_CHn_CFG_FBEN n) = 0 → rd s (SCH_CHn_STAT_BUSY n) = 0 →
          Leads (.dispatchCmd n) s
            (fun u => let a : ActS := { l.act with rec_ := { l.act.rec_ with t := now16 (goTo16 l.at_ s) } }; finish s.sch.nextId a (execRec u a) u)
            (fun u => let v := actResult l.act.act (chStateOn s n)
              rd u (SCH_CHn_STAT_STATE n) = b2n v ∧ rd u (SCH_CHn_STAT_DRIVE n) = b2n v ∧ rd u (SCH_CHn_STAT_IN_FAIL n) = 0 ∧ u.now = at16 l.at_
              ∧ RegsBut [SCH_CHn_STAT_STATE n, SCH_CHn_STAT_DRIVE n, SCH_CHn_STAT_IN_FAIL n] s u))))
    ∧ ((rd s (SCH_CHn_STAT_BUSY n) = 0 → exec (.pulseEnd n) s = .next s)
      ∧ (rd s (SCH_CHn_STAT_BUSY n) = 1 → c.wait = [] → Completes (.pulseEnd n) s (fun t => rd t (SCH_CHn_STAT_BUSY n) = 0
        ∧ (c.ball ≠ n → rd t (SCH_CHn_STAT_DRIVE c.ball) = 0) ∧ rd t (SCH_CHn_STAT_DRIVE n) = b2n c.back ∧ t.now = max s.now c.pulseEnd
        ∧ rd t (SCH_CHn_STAT_STATE n) = (if failForm s n = 0 then b2n c.back else rd s (SCH_CHn_STAT_STATE n))
        ∧ RegsBut [SCH_CHn_STAT_BUSY n, SCH_CHn_STAT_STATE n, SCH_CHn_STAT_DRIVE n, SCH_CHn_STAT_DRIVE c.ball] s t ∧ StoresSame s t)))
    ∧ (let edge (t : State) : Prop := rd t (SCH_CHn_STAT_FB n) = b2n level ∧ ix t.sch.ch n = { c with fb := [], fbSeq := if s.img.applied || s.img.reapply then (c.fbSeq + 1) % 65536 else c.fbSeq }
        ∧ t.now = s.now + dt ∧ t.flt.raised = [] ∧ RegsBut [SCH_CHn_STAT_FB n] s t ∧ StoresSame s t
      (ballOff s (fbBall n) = true → Completes (.feedbackEdge dt n level) s (fun t => t.sch = s.sch ∧ t.now = s.now + dt ∧ RegsBut [] s t ∧ StoresSame s t))
      ∧ (ballOff s (fbBall n) = false → c.fb = [] → Completes (.feedbackEdge dt n level) s edge)
      ∧ (∀ w, ballOff s (fbBall n) = false → c.fb = [w] → w.want = (level ^^ on s (SCH_CHn_CFG_FBPOL n)) → s.now + dt ≤ w.dl →
        Leads (.feedbackEdge dt n level) s (finish w.id w.act
          { w.act.rec_ with fbpm := stampNat { t := now16 (pass dt s), src := 0x080 + n, flags := unlockFlag (pass dt s), seq := c.fbSeq } }) edge))
    ∧ ((c.fb = [] → exec (.feedbackTimeout n) s = .next s)
      ∧ (∀ w, c.fb = [w] → Leads (.feedbackTimeout n) s
        (fun u => let r := execRec u w.act; finish w.id w.act { r with flags := r.flags ||| flFbFail } u)
        (fun u => rd u SCH_EVT_FB_FAIL = 1 ∧ u.flt.raised = [(54, none)] ∧ (ix u.sch.ch n).fb = [] ∧ u.now = max s.now w.dl
          ∧ RegsBut [SCH_EVT_FB_FAIL] s u ∧ StoresSame s u)))
    ∧ (s.tkp.run = true → seqHeld s = false → rd s SCH_STAT_STATE = 1 → Completes .scanAdvance s (fun t =>
      (∀ m < 48, cram t (cramOn + m) = if rd s (SCH_CHn_STAT_STATE m) = 1 then satInc (cram s (cramOn + m)) (2 ^ 32 - 1) else cram s (cramOn + m))
      ∧ (∀ a, a < cramOn ∨ cramOn + 48 ≤ a → cram t a = cram s a)
      ∧ t.now = (if todSec s = s.sch.scanSec then at16 ((todSec s + 1) * 65536000000000) else s.now)
      ∧ RegsBut [] s t ∧ t.otp = s.otp ∧ (∀ a, memGet t.mram a = memGet s.mram a)))
    ∧ ((recoverMay s = false → Completes (.recoveryStart dt) s (fun t => t.sch = s.sch ∧ t.now = s.now + dt ∧ RegsBut [] s t ∧ StoresSame s t))
      ∧ (recoverMay s = true → s.sch.why ≠ some .l0 → Completes (.recoveryStart dt) s (fun t => rd t SCH_STAT_STATE = 2
        ∧ t.sch.tR = some (now16 (pass dt s)) ∧ t.now = s.now + dt ∧ RegsBut [SCH_STAT_STATE] s t ∧ StoresSame s t)))
    ∧ (∀ hi, s.sch.tR = some hi → rd s SCH_STAT_STATE = 2 → inSafe s = false → validEnts s = [] → s.sch.why ≠ some .modeAs →
      (s.sch.why ≠ some .l0 ∨ rd s SCH_CFG_RESTORE = 0) → (∀ k < 8, rcPhase s k ≠ 2) →
      Completes (.recoveryDone dt) s (fun t => rd t SCH_EVT_RECOV = 1 ∧ rd t SCH_STAT_STATE = 3 ∧ t.sch.tR = none ∧ t.sch.why = none
        ∧ cram64 t cramScan = secOf16 hi % 2 ^ 34 + nsOf16 hi * 2 ^ 34 ∧ t.now = s.now + dt ∧ RegsBut [SCH_EVT_RECOV, SCH_STAT_STATE] s t
        ∧ t.otp = s.otp ∧ (∀ a, memGet t.mram a = memGet s.mram a)))
    ∧ (((schRuns s = false ∨ (validEnts s = [] ∧ ∀ k < 8, rcPhase s k ≠ 2)) → exec .remoteSend s = .next s)
      ∧ (∀ k < 8, ∀ x, schRuns s = true → validEnts s = [] → (∀ m < 8, m ≠ k → rcPhase s m ≠ 2) → rcPhase s k = 2 → (ix s.sch.rc k).plain = true →
        (ix s.sch.rc k).fired = false → (ix s.sch.rc k).tgts = [x] → isRemote x.code = true → x.armed = false →
        Leads .remoteSend s (sendRemote x.code (ix s.sch.rc k).tf (rcAct s k x.code)) (fun u => (ix u.sch.rc k).tgts = [{ x with armed := true }]
          ∧ u.now = at16 ((ix s.sch.rc k).tf - ms16 (orElse0 (rd s SCH_CFG_RLEAD) 1)) ∧ u.flt.raised = [] ∧ RegsBut [] s u ∧ StoresSame s u)))

/-- ISSUE to a slot that is not free, or while SCH does not act, is refused. Over a sound group of local channels, early enough, the
command takes its slot: ARMED and TARGETS count, RES is 0, and it commits at once when every target arms. PLAIN for a later T_f
waits committed. ABORT of a committed command sets ABORT_LATE; of one not committed DECISION 3 and PHASE 3, the records following.
At T_d a command still arming is cancelled with source 56. Owed commits are asked again after 1 ms until T_f. At T_f a committed
local target executes. At T_f + 1 s the slot is done. A scheduled command without a free slot gets its record, with one it arms.
It rests on the model's choices of log entries 2, 3, 103, 104, 105, 106, 158 and 159. -/
def Obligations.RegisteredCommandsRunTheirSteps : Prop :=
  ∀ (dt k g act : Nat) (s : State), Between s → k < 4 → g < 64 → act < 4 →
    let addr := 0xB00780 + 32 * k
    let r := ix s.sch.rc k
    let ms := groupMembers s g
    let arms (c : Nat) : Bool := canArm s c act
    let at16 (t : Nat) : Nat := max s.now (whenTod s (t * t16T))
    let haf : List Fld := [GEN_HAF_VALID, GEN_HAF_CAUSE, GEN_HAF_ADDR, GEN_HAF_MORE]
    let slot (k : Nat) : List Fld := [SCH_RCk_STAT_PHASE k, SCH_RCk_STAT_DECISION k, SCH_RCk_STAT_ABORT_LATE k, SCH_RCk_STAT_ARMED k, SCH_RCk_STAT_TARGETS k,
      SCH_RCk_RES_FIRED k, SCH_RCk_RES_NOTFIRED k, SCH_RCk_RES_PENDING k]
    let counts (k : Nat) (armed : Nat) (t : State) : Prop := rd t (SCH_RCk_STAT_ABORT_LATE k) = 0 ∧ rd t (SCH_RCk_STAT_ARMED k) = armed % 2 ^ 12
      ∧ rd t (SCH_RCk_STAT_TARGETS k) = ms.length % 2 ^ 12 ∧ rd t (SCH_RCk_RES_FIRED k) = 0 ∧ rd t (SCH_RCk_RES_NOTFIRED k) = 0 ∧ rd t (SCH_RCk_RES_PENDING k) = 0
    (Open s addr →
      ((schActs s = false ∨ rcFree s k = false) → Effects (.issueCmd dt k g act) s (fun v => v.flt.raised = [(0, none)] ∧ v.sch = s.sch ∧ v.now = s.now + dt
        ∧ RegsBut haf s v ∧ StoresSame s v))
      ∧ (schActs s = true → rcFree s k = true → groupErr s g = false → (∀ c ∈ ms, isLocal c = true) →
        (now16 (pass dt s) + ms16 (rd s (SCH_GRPg_TIM_DL g)) + ms16 1 ≤ rcTf s k →
          Completes (.issueCmd dt k g act) s (fun t =>
            rd t (SCH_RCk_STAT_PHASE k) = (if ms.all arms then 2 else 1) ∧ rd t (SCH_RCk_STAT_DECISION k) = (if ms.all arms then 1 else 0)
            ∧ counts k (ms.filter arms).length t
            ∧ ix t.sch.rc k = { act := act, group := g, tf := rcTf s k, dl := rd s (SCH_GRPg_TIM_DL g), ident := s.sch.ident % 65535 + 1
                                tgts := ms.map (fun c => { code := c, armed := arms c }) }
            ∧ t.now = s.now + dt ∧ RegsBut (slot k) s t ∧ StoresSame s t))
        ∧ (now16 (pass dt s) < rcTf s k →
          Completes (.plainCmd dt k g act false) s (fun t => rd t (SCH_RCk_STAT_PHASE k) = 2 ∧ rd t (SCH_RCk_STAT_DECISION k) = 0 ∧ counts k 0 t
            ∧ ix t.sch.rc k = { plain := true, act := act, group := g, tf := rcTf s k, ident := s.sch.ident % 65535 + 1, tgts := ms.map (fun c => { code := c }) }
            ∧ t.now = s.now + dt ∧ RegsBut (slot k) s t ∧ StoresSame s t)))
      ∧ (rcPhase s k = 2 → r.plain = false → Completes (.rcAbort dt k) s (fun t => rd t (SCH_RCk_STAT_ABORT_LATE k) = 1 ∧ t.sch = s.sch ∧ t.now = s.now + dt
        ∧ RegsBut [SCH_RCk_STAT_ABORT_LATE k] s t ∧ StoresSame s t))
      ∧ (rcPhase s k = 1 → Leads (.rcAbort dt k) s (rcCancelRest k 3) (fun u => rd u (SCH_RCk_STAT_DECISION k) = 3 ∧ rd u (SCH_RCk_STAT_PHASE k) = 3
        ∧ u.sch = s.sch ∧ u.now = s.now + dt ∧ u.flt.raised = [] ∧ RegsBut [SCH_RCk_STAT_DECISION k, SCH_RCk_STAT_PHASE k] s u ∧ StoresSame s u)))
    ∧ ((rcPhase s k ≠ 1 → exec (.rcDeadline k) s = .next s)
      ∧ (rcPhase s k = 1 → r.plain = false → Leads (.rcDeadline k) s (rcCancelRest k 2) (fun u => rd u (SCH_RCk_STAT_DECISION k) = 2 ∧ rd u (SCH_RCk_STAT_PHASE k) = 3
        ∧ u.flt.raised = [(56, some k)] ∧ u.now = at16 (r.tf - ms16 r.dl) ∧ RegsBut [SCH_RCk_STAT_DECISION k, SCH_RCk_STAT_PHASE k] s u ∧ StoresSame s u)))
    ∧ (((∀ x ∈ r.tgts, x.owed = false) → exec (.rcCommitRetry k) s = .next s)
      ∧ (∀ x, r.tgts = [x] → x.owed = true → s.crl.pool = [] →
        (r.tf ≤ now16 (pass msU s) → Completes (.rcCommitRetry k) s (fun t => t.sch = s.sch ∧ t.now = s.now + msU ∧ RegsBut [] s t ∧ StoresSame s t))
        ∧ (now16 (pass msU s) < r.tf → Leads (.rcCommitRetry k) s (rcSend (if rd s (SCH_RCk_STAT_DECISION k) = 1 then 0x24 else 0x25) k x.code)
          (fun u => u.sch = s.sch ∧ u.now = s.now + msU ∧ u.flt.raised = [] ∧ RegsBut [] s u ∧ StoresSame s u))))
    ∧ ((rcPhase s k ≠ 2 → exec (.rcFire k) s = .next s)
      ∧ (∀ x, rcPhase s k = 2 → r.fired = false → schActs s = true → r.entry = 4096 → r.tgts = [x] → isLocal x.code = true →
        Leads (.rcFire k) s (chDo x.code [rcAct s k x.code]) (fun u => (ix u.sch.rc k).fired = true ∧ u.now = at16 r.tf ∧ u.flt.raised = []
          ∧ RegsBut [] s u ∧ StoresSame s u)))
    ∧ ((rcPhase s k ≠ 2 → exec (.rcPendingTimeout k) s = .next s)
      ∧ (rcPhase s k = 2 → r.fired = true → (∀ x ∈ r.tgts, x.final = true) → Completes (.rcPendingTimeout k) s (fun t => rd t (SCH_RCk_STAT_PHASE k) = 4
        ∧ rd t SCH_EVT_RC_DONE = (rd s SCH_EVT_RC_DONE ||| 2 ^ k) % 2 ^ 8 ∧ t.now = at16 (r.tf + 65536000000000)
        ∧ RegsBut [SCH_RCk_STAT_PHASE k, SCH_EVT_RC_DONE] s t ∧ StoresSame s t)))
    ∧ (((schRuns s = false ∨ validEnts s = []) → exec .rcArmTime s = .next s)
      ∧ (∀ i j, schRuns s = true → validEnts s = [i] → entKind (ent s i) = 3 → entTgt (ent s i) = g → entAct (ent s i) = act → pendAt s i 49 = some j → groupErr s g = false →
        let z := goTo16 (j.t - ms16 (rd s (SCH_GRPg_TIM_ALEAD g))) s
        (rcFree s 4 = false → rcFree s 5 = false → rcFree s 6 = false → rcFree s 7 = false →
          Leads .rcArmTime s (fun u => absSpent i (recordNow { t := j.t, entry := i, target := 49152 + g, result := 11 } u))
            (fun u => u.now = z.now ∧ u.flt.raised = [] ∧ RegsBut [] s u ∧ StoresSame s u))
        ∧ (rcFree s 4 = true → (∀ c ∈ ms, isLocal c = true) → now16 z + ms16 (rd s (SCH_GRPg_TIM_DL g)) + ms16 1 ≤ j.t →
          Completes .rcArmTime s (fun t => rd t (SCH_RCk_STAT_PHASE 4) = (if ms.all arms then 2 else 1)
            ∧ rd t (SCH_RCk_STAT_DECISION 4) = (if ms.all arms then 1 else 0) ∧ counts 4 (ms.filter arms).length t
            ∧ (ix t.sch.rc 4).tf = j.t ∧ (ix t.sch.rc 4).entry = i ∧ t.now = z.now ∧ RegsBut (slot 4) s t ∧ StoresSame s t))))

/-- Of a port that takes part, messages without a TLV while MODE_SE is 0: a two-step Sync of the parent waits for its Follow_Up; the
offset they give goes to OFM (no filter, in UNCALIBRATED); a Delay_Req is answered by a MASTER port with the receive time; the
first path delay, of Delay_Resp, one-step Pdelay_Resp and Pdelay_Resp_Follow_Up, goes to MPD; a Pdelay_Req is answered in P2P; an
Announce is kept as a foreign master and the BMCA runs, an own one is ignored. A message that is not for the state of the port
changes nothing. It rests on the model's choices of log entries 60, 61, 113, 114, 127 and 162. -/
def Obligations.PtpMessagesAreUsed : Prop :=
  ∀ (dt p : Nat) (m : PtpMsg) (a : AnnData) (t1 t2 t3 t4 : Int) (s : State), Between s → p < 6 →
    rxOk s p m.hdr = true → m.domain = rd s PTP_CLK_CFG_DOMAIN → rd s (PTP_Pp_CFG_PTP_EN p) = 1 → m.auth = none → mode s 7 = false →
    rd s (PTP_Pp_TSQCFG_CAP_PTP p) = 0 → rd s (PTP_Pp_TSQCFG_CAP_ET p) = 0 → 4 ≤ portState s p →
    let own (e : Egress) : Egress := { e with own := true, domain := rd s PTP_CLK_CFG_DOMAIN, srcId := ownClockId s, srcPort := p + 1, sa := txSa s
                                              dst := (ptpAddr s p e.kind).1, udp := (ptpAddr s p e.kind).2
                                              tag := if rd s (PTP_Pp_CFG_TAG p) = 1 then some (rd s (PTP_Pp_CFG_PVID p)) else none, ord := (ix s.ptp.port p).ord }
    let x := ix s.ptp.port p
    let room := qRoom s p 7 64 = true ∧ (mode s 7 = false ∨ (txSa s).isSome = true)
    let kept (t : State) : Prop := RegsBut [] s t ∧ StoresSame s t
    let rx := rxTime (pass dt s) p
    let same (t : State) : Prop := t.ptp = s.ptp ∧ t.now = s.now + dt ∧ kept t
    let mine := slaveish s p = true ∧ fromParent s p m = true
    let offs (mm : Int) (t : State) : Prop := rdPair t (PTP_Pp_OFM_LO_O p) (PTP_Pp_OFM_HI_O p) = uns 64 (mm - mpd s p - rdS s (PTP_Pp_ASYM_A p))
      ∧ (ix t.ptp.port p).passed = true ∧ t.now = s.now + dt ∧ RegsBut [PTP_Pp_OFM_LO_O p, PTP_Pp_OFM_HI_O p] s t ∧ StoresSame s t
    let raw := rd s (PTP_Pp_FILT_FMODE p) = 0 ∧ portState s p = 8 ∧ rd s (PTP_Pp_STAT_MPD_VALID p) = 0
    let delay (d : Int) (t : State) : Prop := rdPair t (PTP_Pp_MPD_LO_D p) (PTP_Pp_MPD_HI_D p) = uns 64 d ∧ rd t (PTP_Pp_STAT_MPD_VALID p) = 1
      ∧ (ix t.ptp.port p).rejRun = 0 ∧ t.now = s.now + dt ∧ RegsBut [PTP_Pp_MPD_LO_D p, PTP_Pp_MPD_HI_D p, PTP_Pp_STAT_MPD_VALID p] s t ∧ StoresSame s t
    let first := rd s (PTP_Pp_STAT_MPD_VALID p) = 0 ∧ x.passed = false
    let queued (e : Egress) (t : State) : Prop := ix (ix t.ptp.port p).q 7 = ix x.q 7 ++ [own e] ∧ t.now = s.now + dt ∧ kept t
    (mine → m.twoStep = true → Completes (.syncReceive dt p m t1) s (fun t => (ix t.ptp.port p).sync = some (m.seq, none, rx, m.corr) ∧ t.now = s.now + dt ∧ kept t))
    ∧ (mine → m.twoStep = false → raw → Completes (.syncReceive dt p m t1) s (fun t => offs (rx - t1 - m.corr) t
        ∧ (ix t.ptp.port p).syncDone = some (t1, rx, m.corr)))
    ∧ (¬ mine → Completes (.syncReceive dt p m t1) s same ∧ Completes (.followUpReceive dt p m t1) s same)
    ∧ (∀ y c, mine → x.sync = some (m.seq, y, t2, c) → raw → Completes (.followUpReceive dt p m t1) s (fun t => offs (t2 - t1 - (c + m.corr)) t
        ∧ (ix t.ptp.port p).syncDone = some (t1, t2, c + m.corr) ∧ (ix t.ptp.port p).sync = none))
    ∧ (isP2p s = false → portState s p = 6 → room → Completes (.delayReqReceive dt p m) s
        (queued { kind := 10, seq := m.seq, reqId := m.srcId, reqPort := m.srcPort, t := rx, corr := m.corr }))
    ∧ (portState s p ≠ 6 → Completes (.delayReqReceive dt p m) s same)
    ∧ (∀ u1 u2 c, isP2p s = false → mine → x.dreq = some (m.seq, some t3) → x.syncDone = some (u1, u2, c) → first →
        Completes (.delayRespReceive dt p m t4 (ownClockId s) (p + 1)) s (fun t => delay (roundDiv ((u2 - u1 - c) + (t4 - t3 - m.corr)) 2) t
          ∧ (ix t.ptp.port p).dreq = none))
    ∧ (m.srcId = ownClockId s → Completes (.announceReceive dt p m a) s same)
    ∧ (m.srcId ≠ ownClockId s → portState s p = 6 → x.foreign = [] → Leads (.announceReceive dt p m a) s (runBmca none)
        (fun u => (ix u.ptp.port p).foreign = [{ srcId := m.srcId, srcPort := m.srcPort, ann := a, at_ := s.now + dt }]
          ∧ u.flt.raised = [] ∧ u.now = s.now + dt ∧ kept u))
    ∧ (isP2p s = true → room → rd s (PTP_Pp_CFG_STEP p) = 0 → Completes (.pdelayReqReceive dt p m) s
        (queued { kind := 4, seq := m.seq, reqId := m.srcId, reqPort := m.srcPort, t := rx, corr := m.corr }))
    ∧ (isP2p s = false → Completes (.pdelayReqReceive dt p m) s same)
    ∧ (isP2p s = true → x.pd = some (m.seq, some t1) → m.twoStep = true → Completes (.pdelayRespReceive dt p m t2 (ownClockId s) (p + 1)) s
        (fun t => (ix t.ptp.port p).pdResp = some (t2, rx, m.corr) ∧ t.now = s.now + dt ∧ kept t))
    ∧ (isP2p s = true → x.pd = some (m.seq, some t1) → m.twoStep = false → first → Completes (.pdelayRespReceive dt p m t2 (ownClockId s) (p + 1)) s
        (fun t => delay (linkDelay s p t1 rx 0 m.corr) t ∧ (ix t.ptp.port p).pd = none))
    ∧ (∀ c, isP2p s = true → x.pd = some (m.seq, some t1) → x.pdResp = some (t2, t4, c) → x.nrr.length < 7 → first →
        Completes (.pdelayRespFollowUpReceive dt p m t3 (ownClockId s) (p + 1)) s (fun t => delay (linkDelay s p t1 t4 (t3 - t2) (c + m.corr)) t
          ∧ (ix t.ptp.port p).pd = none ∧ (ix t.ptp.port p).pdResp = none ∧ (ix t.ptp.port p).nrr = (t4.toNat, t3 - t4) :: x.nrr))

/-- A MASTER port sends Sync at its interval; an announce interval runs the BMCA and sends Announce in MASTER; a slave in E2E sends
Delay_Req and any port in P2P Pdelay_Req, its time still open. The announce receipt timeout of a slave raises source 62 and the
port listens; the qualification timeout makes PRE_MASTER MASTER. A correction held 1 s goes. The head of the highest ready queue
leaves; a one-step Sync carries its send time, a frame corrected in transit its residence and link delay; queue 7 holds a frame
until its fixed launch instant. A port whose state does not call for a timer, and a timer that does not run, leave everything as
it was. It rests on the model's choices of log entries 2, 3, 60, 61, 93, 112 and 113. -/
def Obligations.PtpTimersSendAndExpire : Prop :=
  ∀ (dt p : Nat) (s : State), Between s → p < 6 →
    let own (e : Egress) : Egress := { e with own := true, domain := rd s PTP_CLK_CFG_DOMAIN, srcId := ownClockId s, srcPort := p + 1, sa := txSa s
                                              dst := (ptpAddr s p e.kind).1, udp := (ptpAddr s p e.kind).2
                                              tag := if rd s (PTP_Pp_CFG_TAG p) = 1 then some (rd s (PTP_Pp_CFG_PVID p)) else none, ord := (ix s.ptp.port p).ord }
    let x := ix s.ptp.port p
    let room := qRoom s p 7 64 = true ∧ (mode s 7 = false ∨ (txSa s).isSome = true)
    let kept (t : State) : Prop := RegsBut [] s t ∧ StoresSame s t
    let queued (e : State → Egress) (t : State) : Prop := ix (ix t.ptp.port p).q 7 = ix x.q 7 ++ [own (e t)] ∧ kept t
    let st := portState s p
    let quiet := rd s (PTP_Pp_TSQCFG_CAP_PTP p) = 0 ∧ rd s (PTP_Pp_TSQCFG_CAP_ET p) = 0
    let tx (t : State) : Int := (now16 t : Int) + rdS s (PTP_Pp_TXLAT_LAT p)
    let out (t : State) (e : Egress) : Egress := { e with txHz := (txClock t p).1, txW := (txClock t p).2 }
    (st ≠ 6 → exec (.syncInterval p) s = .next s)
    ∧ (st = 6 → ptpUp s = true → room → Completes (.syncInterval p) s (fun t =>
        let one := rd s (PTP_Pp_CFG_STEP p) = 1
        queued (fun t => { kind := 1, seq := x.sSync, oneStep := decide one, launch := if one ∧ (txSa s).isSome = true then some (launchAt t) else none }) t
        ∧ (ix t.ptp.port p).sSync = (x.sSync + 1) % 65536 ∧ t.now = max s.now x.syncAt
        ∧ (ix t.ptp.port p).syncAt = t.now + intvU (rdS s (PTP_Pp_INTV_LOG_SYNC p))))
    ∧ (st < 4 → exec (.announceInterval p) s = .next s)
    ∧ (4 ≤ st → ptpUp s = true → Leads (.announceInterval p) s
        (fun u => let w := clkEval (runBmca none u)
          if portState w p = 6 then modPort p (fun y => { y with sAnn := (y.sAnn + 1) % 65536 }) (sendOwn p { kind := 12, seq := x.sAnn, ann := some (annOut w) } w)
          else w)
        (fun u => u.now = max s.now x.annAt ∧ (ix u.ptp.port p).annAt = u.now + annU s p ∧ u.flt.raised = [] ∧ kept u))
    ∧ (isP2p s = false → slaveish s p = false → exec (.delayReqInterval p) s = .next s)
    ∧ (isP2p s = false → slaveish s p = true → ptpUp s = true → room → Completes (.delayReqInterval p) s (fun t =>
        queued (fun _ => { kind := 2, seq := x.sDreq }) t ∧ (ix t.ptp.port p).dreq = some (x.sDreq, none) ∧ (ix t.ptp.port p).sDreq = (x.sDreq + 1) % 65536
        ∧ t.now = max s.now x.dreqAt ∧ (ix t.ptp.port p).dreqAt = t.now + intvU (rdS s (PTP_Pp_INTV_LOG_DREQ p))))
    ∧ (isP2p s = true → 4 ≤ st → ptpUp s = true → room → Completes (.delayReqInterval p) s (fun t =>
        queued (fun _ => { kind := 3, seq := x.sDreq }) t ∧ (ix t.ptp.port p).pd = some (x.sDreq, none) ∧ (ix t.ptp.port p).pdResp = none
        ∧ t.now = max s.now x.dreqAt))
    ∧ (x.annDl = none → exec (.announceReceiptTimeout p) s = .next s)
    ∧ (∀ dl, x.annDl = some dl → slaveish s p = true → ptpUp s = true → Leads (.announceReceiptTimeout p) s
        (fun u => runBmca none (enterPort p 4 (dropParent p u)))
        (fun u => u.flt.raised = [(62, some p)] ∧ (ix u.ptp.port p).annDl = none ∧ u.now = max s.now dl
          ∧ (ix u.ptp.port p).foreign = x.foreign.filter (fun f => decide (u.now < f.at_ + rd s (PTP_Pp_INTV_ANN_TO p) * annU s p)) ∧ kept u))
    ∧ (∀ dl, x.annDl = some dl → st = 4 → ptpUp s = true → Leads (.announceReceiptTimeout p) s
        (fun u => let w := runBmca (some p) u; if portState w p = 4 || portState w p = 7 then annRestart p w else w)
        (fun u => u.flt.raised = [] ∧ (ix u.ptp.port p).annDl = none ∧ u.now = max s.now dl ∧ kept u))
    ∧ (x.qualDl = none → exec (.qualificationTimeout p) s = .next s)
    ∧ (∀ q, x.qualDl = some q → st = 5 → ptpUp s = true → Completes (.qualificationTimeout p) s (fun t =>
        portState t p = 6 ∧ rd t PTP_EVT_PORT_STATE = 1 ∧ t.now = max s.now q
        ∧ ix t.ptp.port p = { x with qualDl := none, annDl := none, syncAt := t.now, annAt := t.now }
        ∧ RegsBut [PTP_Pp_STAT_STATE p, PTP_EVT_PORT_STATE] s t ∧ StoresSame s t))
    ∧ (s.ptp.tc = [] → exec .followUpHoldExpiry s = .next s)
    ∧ (∀ w r, s.ptp.tc = w :: r → Completes .followUpHoldExpiry s (fun t => t.ptp.tc = r ∧ t.now = max s.now (w.at_ + secU) ∧ kept t))
    ∧ (ix x.q 7 = [] → exec (.scheduledLaunch p) s = .next s)
    ∧ (∀ e r l, ix x.q 7 = e :: r → heldBehind s p e = false → e.launch = some l → ptpUp s = true → rd s (PTP_Pp_STAT_LINK p) = 1 → quiet →
        (e.own = true → e.kind = 1 → e.oneStep = true → Completes (.scheduledLaunch p) s (fun t => ix (ix t.ptp.port p).q 7 = r
          ∧ (ix t.ptp.port p).sent = some (out t { e with t := tx t }) ∧ t.now = max s.now l ∧ kept t))
        ∧ (∀ i, e.own = false → e.kind = 1 → e.tc = true → e.oneStep = true → e.ingress = some i → Completes (.scheduledLaunch p) s (fun t =>
          ix (ix t.ptp.port p).q 7 = r ∧ (ix t.ptp.port p).sent = some (out t { e with corr := e.corr + (residence t i + e.link) }) ∧ t.now = max s.now l ∧ kept t)))
    ∧ (ptpUp s = false → Completes (.frameEgress dt p) s (fun t => t.ptp = s.ptp ∧ t.now = s.now + dt ∧ kept t))
    ∧ (∀ j e r, j < 8 → ptpUp s = true → rd s (PTP_Pp_STAT_LINK p) = 1 → (∀ k < 8, j < k → ix x.q k = []) → ix x.q j = e :: r → heldBehind s p e = false → e.launch = none →
        Leads (.frameEgress dt p) s (egressNow p e) (fun u => ix (ix u.ptp.port p).q j = r ∧ u.flt.raised = [] ∧ u.now = s.now + dt ∧ kept u)
        ∧ (quiet → e.own = true → e.kind = 12 → e.tc = false → Completes (.frameEgress dt p) s (fun t => ix (ix t.ptp.port p).q j = r
          ∧ (ix t.ptp.port p).sent = some (out t e) ∧ t.now = s.now + dt ∧ kept t)))

/-- A link that comes up, full duplex, on an enabled sound port sets LINK, its SPEED and EVT.LINK, and the port and its SyncE slot are
judged; half duplex keeps it down, ERR 5; on a disabled port nothing changes. A link that falls, or is restarted by AN_RESTART,
clears LINK and CDR_LOCK, drops and counts queued event messages, raises source 61 of an enabled port, and 65 where a recovered
clock was in use. INITIALIZING ends in LISTENING. CDR_LOCK follows the recovered clock where SE_EN. An ESMC PDU shows its SSM and
code and gives the QL; 5 s without one clears ESMC_OK with source 64; the information PDU is queued with the QL the port
transmits. It rests on the model's choices of log entries 2, 3, 110, 112, 115, 127, 151 and 161. -/
def Obligations.LinksSynceAndEsmc : Prop :=
  ∀ (dt p speed ssm : Nat) (lock event : Bool) (ext : Option Nat) (s : State), Between s → p < 6 → ssm < 16 →
    let x := ix s.ptp.port p
    let same (t : State) : Prop := t.ptp = s.ptp ∧ t.now = s.now + dt ∧ RegsBut [] s t ∧ StoresSame s t
    let en := rd s (PTP_Pp_CFG_EN p) = 1
    let up := rd s (PTP_Pp_STAT_LINK p) = 1
    let se := rd s (PTP_Pp_SE_CFG_SE_EN p) = 1
    let fallen (u : State) : Prop := rd u (PTP_Pp_STAT_LINK p) = 0 ∧ rd u (PTP_Pp_STAT_CDR_LOCK p) = 0 ∧ rd u PTP_EVT_LINK = 1
      ∧ u.flt.raised = (if en then [(61, some p)] else []) ++ (if rd s (PTP_Pp_STAT_CDR_LOCK p) = 1 ∧ se then [(65, some p)] else [])
      ∧ (∀ j < 8, ix (ix u.ptp.port p).q j = (ix x.q j).filter (fun e => !isEvent e)) ∧ u.now = s.now + dt
      ∧ RegsBut [PTP_Pp_STAT_LINK p, PTP_Pp_STAT_CDR_LOCK p, PTP_EVT_LINK, PTP_Pp_CNT0_DROP p] s u ∧ StoresSame s u
    (¬ en → Completes (.linkUp dt p speed false) s same)
    ∧ (en → s.img.applied = true → rd s (PTP_Pp_STAT_ERR p) = 0 → (rd s NVM_STAT_PF_WARN = 0 ∨ rd s NVM_CFG_SHED = 0) → ¬ up →
        Leads (.linkUp dt p speed false) s (fun u => synceSlot p (portEval p (ptpCfgEval u))) (fun u => rd u (PTP_Pp_STAT_LINK p) = 1
          ∧ rd u (PTP_Pp_STAT_SPEED p) = (if rd s (PTP_Pp_CFG_SERDES p) = 2 then 3 else if rd s (PTP_Pp_CFG_SERDES p) = 1 ∨ rd s (PTP_Pp_CFG_AN p) = 0 then 2 else min speed 2)
          ∧ rd u PTP_EVT_LINK = 1 ∧ u.ptp = s.ptp ∧ u.flt.raised = [] ∧ u.now = s.now + dt
          ∧ RegsBut [PTP_Pp_STAT_LINK p, PTP_Pp_STAT_SPEED p, PTP_EVT_LINK] s u ∧ StoresSame s u))
    ∧ (en → s.img.applied = true → rd s (PTP_Pp_STAT_ERR p) ≠ 1 → (rd s NVM_STAT_PF_WARN = 0 ∨ rd s NVM_CFG_SHED = 0) → rd s (PTP_Pp_CFG_AN p) = 1 →
        Effects (.linkUp dt p speed true) s (fun v => rd v (PTP_Pp_STAT_ERR p) = 5 ∧ rd v (PTP_Pp_STAT_CFG_ERR p) = 1
          ∧ v.flt.raised = (if rd s (PTP_Pp_STAT_CFG_ERR p) = 0 then [(66, none)] else []) ∧ v.ptp = s.ptp ∧ v.now = s.now + dt
          ∧ RegsBut [PTP_Pp_STAT_ERR p, PTP_Pp_STAT_CFG_ERR p] s v ∧ StoresSame s v))
    ∧ (¬ up → Completes (.linkDown dt p) s same)
    ∧ (up → Leads (.linkDown dt p) s (fun u => synceSlot p (portEval p u)) fallen)
    ∧ (Open s (0xC00460 + 128 * p) → rd s (PTP_Pp_STAT_ERR p) ≠ 5 →
        (¬ up → Leads (.anRestart dt p) s (portEval p) (fun u => same u ∧ u.flt.raised = []))
        ∧ (up → Leads (.anRestart dt p) s (fun u => portEval p (synceSlot p (portEval p u))) fallen))
    ∧ (portState s p = 1 → ptpUp s = true → Completes (.portInitDone dt p) s (fun t => portState t p = 4 ∧ rd t PTP_EVT_PORT_STATE = 1
        ∧ ix t.ptp.port p = { x with annDl := some (t.now + rd s (PTP_Pp_INTV_ANN_TO p) * annU s p) } ∧ t.now = s.now + dt
        ∧ RegsBut [PTP_Pp_STAT_STATE p, PTP_EVT_PORT_STATE] s t ∧ StoresSame s t))
    ∧ (portState s p ≠ 1 → Completes (.portInitDone dt p) s same)
    ∧ (s.img.applied = true → Leads (.cdrLockChange dt p lock) s (synceSlot p) (fun u => rd u (PTP_Pp_STAT_CDR_LOCK p) = (if lock = true ∧ se then 1 else 0)
        ∧ u.flt.raised = (if rd s (PTP_Pp_STAT_CDR_LOCK p) = 1 ∧ lock = false ∧ se then [(65, some p)] else []) ∧ u.ptp = s.ptp ∧ u.now = s.now + dt
        ∧ RegsBut [PTP_Pp_STAT_CDR_LOCK p] s u ∧ StoresSame s u))
    ∧ (s.img.applied = false → Completes (.cdrLockChange dt p lock) s same)
    ∧ (ptpUp s = true → en → up → Leads (.esmcPduReceive dt p event ssm ext) s (synceSlot p) (fun u =>
        let ql := qlOfSsm (rd s (PTP_Pp_SE_CFG_OPT p) == 1) ssm (ext.map (fun e => e % 256))
        rd u (PTP_Pp_SE_STAT_RX_SSM p) = ssm ∧ rd u (PTP_Pp_SE_STAT_RX_ESSM p) = (ext.map (fun e => e % 256)).getD 0
        ∧ rd u (PTP_Pp_SE_STAT_RX_EXT p) = b2n ext.isSome ∧ (event = false → rd u (PTP_Pp_SE_STAT_ESMC_OK p) = 1) ∧ (x.ql ≠ ql → rd u PTP_EVT_ESMC_CHG = 1)
        ∧ ix u.ptp.port p = { x with ql := ql, esmcAt := if event then x.esmcAt else some (s.now + dt) } ∧ u.flt.raised = [] ∧ u.now = s.now + dt
        ∧ RegsBut [PTP_Pp_SE_STAT_RX_SSM p, PTP_Pp_SE_STAT_RX_ESSM p, PTP_Pp_SE_STAT_RX_EXT p, PTP_Pp_SE_STAT_ESMC_OK p, PTP_EVT_ESMC_CHG] s u
        ∧ StoresSame s u))
    ∧ (¬ up → Completes (.esmcPduReceive dt p event ssm ext) s same)
    ∧ (x.esmcAt = none → exec (.esmcTimeout p) s = .next s)
    ∧ (∀ a, x.esmcAt = some a → Leads (.esmcTimeout p) s (synceSlot p) (fun u => rd u (PTP_Pp_SE_STAT_ESMC_OK p) = 0
        ∧ u.flt.raised = (if se then [(64, some p)] else []) ∧ ix u.ptp.port p = { x with esmcAt := none } ∧ u.now = max s.now (a + 5 * secU)
        ∧ RegsBut [PTP_Pp_SE_STAT_ESMC_OK p] s u ∧ StoresSame s u))
    ∧ (esmcSends s p = false → exec (.esmcInfoTx p) s = .next s)
    ∧ (esmcSends s p = true → qRoom s p 7 64 = true → (∀ e ∈ ix x.q 7, e.kind ≠ 32) → Completes (.esmcInfoTx p) s (fun t =>
        let q := esmcQl s p
        let ssm := ssmOf (rd s (PTP_Pp_SE_CFG_OPT p) == 1) q.1
        rd t (PTP_Pp_SE_STAT_TX_SSM p) = ssm % 16 ∧ rd t (PTP_Pp_SE_STAT_TX_DNU p) = b2n q.2
        ∧ ix (ix t.ptp.port p).q 7 = ix x.q 7 ++ [{ kind := 32, own := true, ssm := ssm, ext := if rd s (PTP_Pp_SE_CFG_EXT p) = 1 then essmOf q.1 else none, cyc := cycleNow t + 1, ord := x.ord }]
        ∧ t.now = max s.now x.esmcDue ∧ (ix t.ptp.port p).esmcDue = t.now + secU
        ∧ RegsBut [PTP_Pp_SE_STAT_TX_SSM p, PTP_Pp_SE_STAT_TX_DNU p] s t ∧ StoresSame s t))

/-- A frame that may not enter changes nothing. One that may, of a VID the port is a member of, is learned on its port and queued at
its egress port by its PCP. FDB_CTL looks up, adds, deletes and flushes the entry of the address given; add to a full table sets
FULL; a dynamic entry that reaches AGE goes, static ones stay. It rests on the model's choices of log entries 111, 112, 127 and
151. -/
def Obligations.FramesAreForwardedAndAddressesKept : Prop :=
  ∀ (dt p q ports : Nat) (h : FrameHdr) (s : State), Between s → p < 6 → q < 6 → ports < 64 →
    let v := vidOf s p h
    let c := pcpOf h
    let j := bitsOf (rd s PTP_PCP_MAP_MAP) (3 * c + 2) (3 * c)
    let mac := rd s PTP_FDB_LO_MAC + rd s PTP_FDB_HI_MAC * 2 ^ 32
    let vid := rd s PTP_FDB_HI_VID
    let hit (e : FdbEnt) : Bool := e.mac == mac && e.vid == vid
    let frame : List Fld := [PTP_FDB_CTL_GO, PTP_FDB_CTL_OP, PTP_FDB_CTL_FOUND, PTP_FDB_CTL_FULL, PTP_FDB_CTL_STATIC, PTP_FDB_CTL_PORTS]
    let ended (op : Nat) (t : State) : Prop := rd t PTP_FDB_CTL_GO = 0 ∧ rd t PTP_FDB_CTL_OP = op ∧ t.now = s.now + dt ∧ RegsBut frame s t ∧ StoresSame s t
    (rxOk s p h = false → Completes (.frameReceive dt p h) s (fun t => t.ptp = s.ptp ∧ t.now = s.now + dt ∧ RegsBut [] s t ∧ StoresSame s t))
    ∧ (rxOk s p h = true → rd s (PTP_Pp_TSQCFG_CAP_ET p) = 0 → bitAt (vlanMember s v) p = true → isPtpFrame h = false → egressPorts s p h = [q] → qRoom s q j h.len = true →
        fdbFind s h.src v = none → s.ptp.fdb.length < 2048 → Completes (.frameReceive dt p h) s (fun t =>
          ix (ix t.ptp.port q).q j = ix (ix s.ptp.port q).q j ++ [{ len := h.len, untag := bitAt (vlanUntag s v) q, etMatch := h.etype == rd s (PTP_Pp_TSQCFG_ETYPE q), ord := (ix s.ptp.port q).ord }]
          ∧ t.ptp.fdb = s.ptp.fdb ++ [{ mac := h.src, vid := v, ports := 2 ^ p, seen := s.now + dt }] ∧ t.now = s.now + dt ∧ RegsBut [] s t ∧ StoresSame s t))
    ∧ (Open s 0xC0010C →
        (fdbFind s mac vid = none → Completes (.fdbLookup dt) s (fun t => rd t PTP_FDB_CTL_FOUND = 0 ∧ rd t PTP_FDB_CTL_STATIC = 0 ∧ t.ptp = s.ptp ∧ ended 0 t))
        ∧ (∀ e, fdbFind s mac vid = some e → Completes (.fdbLookup dt) s (fun t => rd t PTP_FDB_CTL_FOUND = 1 ∧ rd t PTP_FDB_CTL_STATIC = b2n e.static_
          ∧ rd t PTP_FDB_CTL_PORTS = e.ports % 64 ∧ t.ptp = s.ptp ∧ ended 0 t))
        ∧ (fdbFind s mac vid = none → s.ptp.fdb.length < 2048 → Completes (.fdbAdd dt ports) s (fun t => rd t PTP_FDB_CTL_FULL = 0
          ∧ t.ptp.fdb = s.ptp.fdb ++ [{ mac := mac, vid := vid, ports := ports, static_ := true, seen := s.now + dt }] ∧ ended 1 t))
        ∧ (fdbFind s mac vid = none → 2048 ≤ s.ptp.fdb.length → Completes (.fdbAdd dt ports) s (fun t => rd t PTP_FDB_CTL_FULL = 1
          ∧ t.ptp.fdb = s.ptp.fdb ∧ ended 1 t))
        ∧ Completes (.fdbDelete dt) s (fun t => rd t PTP_FDB_CTL_FOUND = b2n (fdbFind s mac vid).isSome ∧ t.ptp.fdb = s.ptp.fdb.filter (fun e => !hit e) ∧ ended 2 t)
        ∧ Completes (.fdbFlush dt) s (fun t => t.ptp.fdb = s.ptp.fdb.filter (fun e => e.static_) ∧ ended 3 t))
    ∧ ((rd s PTP_SW_CFG_AGE = 0 ∨ (s.ptp.fdb.filter (fun e => !e.static_)) = []) → exec .fdbAge s = .next s)
    ∧ (∀ a, rd s PTP_SW_CFG_AGE ≠ 0 → s.ptp.fdb.filter (fun e => !e.static_) = [a] → Completes .fdbAge s (fun t =>
        t.now = max s.now (a.seen + rd s PTP_SW_CFG_AGE * secU) ∧ t.ptp.fdb = s.ptp.fdb.filter (fun e => e.static_) ∧ RegsBut [] s t ∧ StoresSame s t))

/-- At a controller link, unfranked: PRES keeps a PRESENT partner (an event asked for when EVP); IDENT of an unknown partner is stored
and negotiation begins; NEG_ACK with the right version is confirmed, with none the partner is rejected; NEG_DONE makes the partner
PRESENT at its version; DATA and ACK complete their transaction, a letterbox one with its message; an empty EVT ends, another goes
to the letterbox and the next is asked for; ARM_RSP arms its target; NAK of a SWITCH ends it dead; TT_RESP gives the raw delay and
TT_FUP goes out at once. With no request on the line a frame is rejected and counted. It rests on the model's choices of log
entries 3, 8, 116, 117, 119, 127, 150 and 162. -/
def Obligations.ControllerUsesResponses : Prop :=
  ∀ (dt k : Nat) (c : CurReq) (f : CrlFrame) (t : Txn) (s : State), Between s → k < 4 → ctlUp s k = true → f.bad = false → f.dst = 0 → f.payload.length ≤ 256 →
    f.frank = none → mode s 7 = false → rd s (CRL_LKk_TSQCFG_CAP_ALL k) = 0 → rd s (CRL_LKk_TSQCFG_CAP_TT k) = 0 →
    let l := ix s.crl.link k
    let lk (t : State) : LinkS := ix t.crl.link k
    let at_ (fs : List Fld) (t : State) : Prop := t.now = s.now + dt ∧ RegsBut fs s t ∧ StoresSame s t
    let a := f.src
    let i := pIx k a
    let key := keyEn s k a = false
    let ask (y : Nat) : Prop := l.cur = some c ∧ c.addr = a ∧ f.seq = c.seq ∧ c.type = y ∧ l.roundDue = false ∧ 1 ≤ a ∧ a < 32
    let txn : Prop := c.txn = some t.id ∧ s.crl.pool.find? (fun x => x.id == t.id) = some t
    let rest := s.crl.pool.filter (fun x => x.id != t.id)
    let msg (kind : Nat) (p : List Byte) : LbiMsg := { link := t.link, addr := t.addr, kind := kind, tag := t.tag, payload := p }
    let room := s.crl.lbi.length < 64
    let post (kind : Nat) (p : List Byte) (u : State) : Prop := u.crl.pool = rest ∧ u.crl.lbi = s.crl.lbi ++ [msg kind p] ∧ rd u CRL_EVT_LBI = 1
      ∧ lk u = { l with cur := none } ∧ at_ [CRL_EVT_LBI] u
    let ends_ (u : State) : Prop := u.crl.pool = rest ∧ u.crl.lbi = s.crl.lbi ∧ lk u = { l with cur := none } ∧ u.flt.raised = [] ∧ at_ [] u
    (l.cur = none → l.rej = [] → Completes (.presCmd dt k f) s (fun u => rd u (CRL_LKk_CNT0_REJ k) = satInc (rd s (CRL_LKk_CNT0_REJ k)) 65535 % 2 ^ 16
      ∧ lk u = { l with rej := [s.now + dt] } ∧ at_ [CRL_LKk_CNT0_REJ k] u))
    ∧ (ask 1 → pState s k a = 2 →
        (f.evp = false → Completes (.presCmd dt k f) s (fun u => rdB u i CRL_P_STAT_MISSCNT = 0 ∧ lk u = { l with cur := none } ∧ at_ [inBank i CRL_P_STAT_MISSCNT] u))
        ∧ (f.evp = true → Leads (.presCmd dt k f) s (askEvent k a) (fun u => rdB u i CRL_P_STAT_MISSCNT = 0 ∧ lk u = { l with cur := none }
          ∧ u.flt.raised = [] ∧ at_ [inBank i CRL_P_STAT_MISSCNT] u)))
    ∧ ((ask 3 ∨ ask 1) → f.payload.length = 16 → byteAt f.payload 9 ≠ 0 → 1 ≤ byteAt f.payload 10 → byteAt f.payload 10 ≤ 16 →
        rdB s i CRL_P_STAT_ID_VALID = 0 → pState s k a ≠ 5 → Leads (.identCmd dt k f) s (negotiate k a) (fun u =>
          rdB u i CRL_P_ID_LO_ID = fieldAt f.payload 0 8 % 2 ^ 32 ∧ rdB u i CRL_P_ID_HI_ID = fieldAt f.payload 0 8 / 2 ^ 32 % 2 ^ 32
          ∧ rdB u i CRL_P_STAT_PTYPE = byteAt f.payload 8 % 8 ∧ rdB u i CRL_P_STAT_NCH = byteAt f.payload 10 - 1 ∧ rdB u i CRL_P_STAT_ID_VALID = 1
          ∧ rdB u i CRL_P_STAT_MISSCNT = 0 ∧ (ix u.crl.part i).vmap = byteAt f.payload 9 ∧ lk u = { l with cur := none } ∧ u.flt.raised = []
          ∧ at_ ([CRL_P_ID_LO_ID, CRL_P_ID_HI_ID, CRL_P_STAT_PTYPE, CRL_P_STAT_NCH, CRL_P_STAT_ID_VALID, CRL_P_STAT_MISSCNT].map (inBank i)) u))
    ∧ (ask 5 → pState s k a = 1 →
        (byteAt f.payload 1 = topVersion (vOffer s k a) (byteAt f.payload 0) → byteAt f.payload 1 ≠ 0 → key → Completes (.negAck dt k f) s (fun u =>
          lk u = { l with cur := none, neg := l.neg ++ [(a, 7)] } ∧ (ix u.crl.part i).chosen = byteAt f.payload 1 ∧ at_ [] u))
        ∧ (byteAt f.payload 1 = 0 → Leads (.negAck dt k f) s (reject k a 1) (fun u => lk u = { l with cur := none } ∧ u.flt.raised = [] ∧ at_ [] u)))
    ∧ (ask 7 → pState s k a = 1 → byteAt f.payload 0 = (ix s.crl.part i).chosen → key → Leads (.negDone dt k f) s (setPState k a 2) (fun u =>
        rdB u i CRL_P_STAT_VER = byteAt f.payload 0 % 4 ∧ lk u = { l with cur := none } ∧ u.flt.raised = [] ∧ at_ [inBank i CRL_P_STAT_VER] u))
    ∧ (ask 0x10 → txn → room → key → Completes (.dataCmd dt k f) s (post 1 f.payload))
    ∧ ((ask 0x12 ∨ ask 0x20) → txn → key → (t.type = 0x12 → room → Completes (.ackCmd dt k f) s (post 2 []))
        ∧ (t.type = 0x20 → t.rc = none → Completes (.ackCmd dt k f) s ends_))
    ∧ (ask 0x14 → txn → key → (f.payload = [] → Completes (.evtCmd dt k f) s ends_)
        ∧ (f.payload ≠ [] → byteAt f.payload 0 ≠ 1 → room → Leads (.evtCmd dt k f) s (askEvent k t.addr) (fun u => u.crl.pool = rest
          ∧ u.crl.lbi = s.crl.lbi ++ [{ link := k, addr := t.addr, kind := 3, payload := f.payload }] ∧ rd u CRL_EVT_LBI = 1 ∧ u.flt.raised = [] ∧ at_ [CRL_EVT_LBI] u)))
    ∧ (ask 0x22 → txn → key → (byteAt f.payload 2 ≠ 0 → Completes (.armRsp dt k f) s ends_)
        ∧ (∀ j code, t.rc = some (j, code) → byteAt f.payload 2 = 0 → Leads (.armRsp dt k f) s (rcArmed j (fieldAt f.payload 0 2) code) ends_))
    ∧ (txn → key → (ask 0x10 → t.host = true → room → Completes (.nakCmd dt k f) s (post 4 f.payload))
        ∧ (ask 0x20 → t.host = false → t.type = 0x20 → Effects (.nakCmd dt k f) s (fun v => v.crl.dead = [t.id] ∧ ends_ v)))
    ∧ (∀ x, ask 0x30 → txn → key → l.tt = some x → x.cal = false →
        let t4 : Int := (now16 (pass dt s) : Int) - rdS s (CRL_LKk_RXLAT_LAT k)
        let j := pIx k t.addr
        Leads (.ttResp dt k f) s (fun u => sendFrame k t.addr 0x32 x.seq false false (fupBody u j x.t1 t4) u) (fun u =>
          rdB u j CRL_P_DLY_D = uns 32 (satS 32 (rawDelay x.t1 (of12 f.payload : Nat) (of12 (f.payload.drop 12) : Nat) t4))
          ∧ lk u = { l with cur := none, tt := none } ∧ u.crl.pool = rest ∧ u.flt.raised = [] ∧ at_ [inBank j CRL_P_DLY_D] u))

/-- At a partner-role link, unfranked: POLL is answered PRES in a session and IDENT outside, HELLO IDENT. NEG chooses the highest
common version and ends the session; NEG_CFM of that version begins one. In a session READ and WRITE need REMOTE and act as host
accesses; EVT_GET acknowledges and sends the oldest event; SWITCH and ARM take a channel that can act or say why not; COMMIT
schedules what is armed, CANCEL disarms it, each unknown identity answered NAK 5; a repeated request gets the stored response. In
MODE_CA TT_REQ is stamped and its response launched 16 µs later, outside it has no answer; TT_FUP completes the exchange, a late
one is counted. It rests on the model's choices of log entries 3, 8, 116, 117, 120 and 127. -/
def Obligations.PartnerAnswersRequests : Prop :=
  ∀ (dt k v : Nat) (f : CrlFrame) (s : State), Between s → k < 4 → parUp s k = true → f.bad = false → f.dst = rd s (CRL_LKk_CFG_ADDR k) → f.payload.length ≤ 256 →
    f.frank = none → mode s 7 = false → rd s (CRL_LKk_KEY_KEY_EN k) = 0 → rd s (CRL_LKk_TSQCFG_CAP_ALL k) = 0 → rd s (CRL_LKk_TSQCFG_CAP_TT k) = 0 →
    let l := ix s.crl.link k
    let lk (t : State) : LinkS := ix t.crl.link k
    let at_ (fs : List Fld) (t : State) : Prop := t.now = s.now + dt ∧ RegsBut fs s t ∧ StoresSame s t
    let p := f.payload
    let resp (r : Nat × Nat × List Byte) (t : State) : Prop :=
      (lk t).sent = some (r.1, { src := rd s (CRL_LKk_CFG_ADDR k), evp := !(lk t).events.isEmpty, seq := r.2.1, payload := r.2.2 }) ∧ (lk t).frameAt = s.now + dt
    let sess := rd s (CRL_LKk_STAT_PSTATE k) = 2
    let ver := rd s (CRL_LKk_STAT_VER k)
    let new := sess ∧ f.retry = false
    let nak (code type : Nat) : Nat × Nat × List Byte := (0x3F, f.seq, [BitVec.ofNat 8 code, BitVec.ofNat 8 type, 0, 0])
    let ack : Nat × Nat × List Byte := (0x13, f.seq, [])
    let answers (r : Nat × Nat × List Byte) (fs : List Fld) (t : State) : Prop := resp r t ∧ (lk t).pSeq = some f.seq ∧ (lk t).resp = r ∧ at_ fs t
    let chan := rd s (CRL_LKk_CFG_CBASE k) + byteAt p 0
    let tf := (fieldAt p 4 6 * 1000000000 + fieldAt p 10 4) * 65536
    let id := fieldAt p 0 2
    let scheduled (n act ref : Nat) (t : State) : Prop := (ix t.sch.ch n).load = (ix s.sch.ch n).load
      ++ [{ at_ := tf, base := tf, act := { rec_ := { t := tf, origin := 3, target := n }, act := act, ref := some (k, ref) } }]
    (¬ sess → Completes (.pollCmd dt k f) s (fun t => resp (0x04, 0, identBody s) t ∧ at_ [] t))
    ∧ (sess → Completes (.pollCmd dt k f) s (fun t => resp (0x02, 0, []) t ∧ at_ [] t))
    ∧ Completes (.helloCmd dt k f) s (fun t => resp (0x04, 0, identBody s) t ∧ at_ [] t)
    ∧ (let c := topVersion 0x0E (byteAt p 0)
      Leads (.negCmd dt k f) s (fun u => sendResp k (0x06, 0, [0x0E, BitVec.ofNat 8 c, 0, 0])
          (put (CRL_LKk_STAT_PSTATE k) (if c = 0 then 0 else 1) (modPart (pIx k 0) (fun x => { x with chosen := c }) (folEval u))))
        (fun u => rd u (CRL_LKk_STAT_PSTATE k) = 0 ∧ rd u (CRL_LKk_STAT_VER k) = 0 ∧ u.flt.raised = [] ∧ at_ [CRL_LKk_STAT_PSTATE k, CRL_LKk_STAT_VER k] u))
    ∧ (let c := (ix s.crl.part (pIx k 0)).chosen
      c ≠ 0 → c < 4 → byteAt p 0 = c → Leads (.negCfm dt k f) s (fun u => folEval (sendResp k (0x08, f.seq, [BitVec.ofNat 8 c, 0, 0, 0]) u))
        (fun u => rd u (CRL_LKk_STAT_PSTATE k) = 2 ∧ rd u (CRL_LKk_STAT_VER k) = c ∧ u.flt.raised = [] ∧ at_ [CRL_LKk_STAT_PSTATE k, CRL_LKk_STAT_VER k] u))
    ∧ (new → rd s (CRL_LKk_CFG_REMOTE k) = 0 → Completes (.readCmd dt k f) s (answers (nak 3 0x10) []) ∧ Completes (.writeCmd dt k f) s (answers (nak 3 0x12) []))
    ∧ (new → rd s (CRL_LKk_CFG_REMOTE k) = 1 → p = leBytes 4 0x18 ++ [4, 0, 0, 0] →
        Completes (.readCmd dt k f) s (answers (0x11, f.seq, leBytes 4 (rd s GEN_IRQ_EN_EN)) []))
    ∧ (new → rd s (CRL_LKk_CFG_REMOTE k) = 2 → v < 2 ^ 32 → p = leBytes 4 0x18 ++ leBytes 4 v →
        Completes (.writeCmd dt k f) s (fun t => answers ack [GEN_IRQ_EN_EN] t ∧ rd t GEN_IRQ_EN_EN = v))
    ∧ (sess → f.retry = true → l.pSeq = some f.seq → Completes (.writeCmd dt k f) s (fun t => resp l.resp t ∧ at_ [] t))
    ∧ (new → (∀ e r, l.events.filter (fun e => e.1 != id) = e :: r → Completes (.evtGet dt k f) s (fun t => answers (0x15, e.1, e.2) [] t ∧ (lk t).events = e :: r))
        ∧ (l.events.filter (fun e => e.1 != id) = [] → Completes (.evtGet dt k f) s (fun t => answers (0x15, f.seq, []) [] t ∧ (lk t).events = [])))
    ∧ (new → 2 ≤ ver → (schActs s = false → Completes (.switchCmd dt k f) s (answers (nak 4 0x20) []))
        ∧ (schActs s = true → byteAt p 0 ≤ 15 → chTakes s chan (byteAt p 1) = true → now16 (pass dt s) < tf →
          Completes (.switchCmd dt k f) s (fun t => answers ack [] t ∧ scheduled chan (byteAt p 1) f.seq t)))
    ∧ (new → ver = 3 → (schActs s = false → Completes (.armCmd dt k f) s (fun t => answers (0x23, f.seq, (p.drop 2).take 2 ++ [4, 0]) [] t ∧ (lk t).armed = l.armed))
        ∧ (schActs s = true → byteAt p 0 ≤ 15 → canArm s chan (byteAt p 1) = true → Completes (.armCmd dt k f) s (fun t =>
          answers (0x23, f.seq, (p.drop 2).take 2 ++ [0, 0]) [] t
          ∧ (lk t).armed = l.armed ++ [{ ident := fieldAt p 2 2, chan := byteAt p 0, act := byteAt p 1, tf := tf }])))
    ∧ (new → ver = 3 → (l.armed.filter (fun a => a.ident == id) = [] → Completes (.commitCmd dt k f) s (answers (nak 5 0x24) []))
        ∧ (∀ a, l.armed = [a] → a.ident = id → a.committed = false → a.chan ≤ 15 → chTakes s (rd s (CRL_LKk_CFG_CBASE k) + a.chan) a.act = true → now16 (pass dt s) < a.tf →
          Completes (.commitCmd dt k f) s (fun t => answers ack [] t ∧ (lk t).armed = [{ a with committed := true }]
            ∧ (ix t.sch.ch (rd s (CRL_LKk_CFG_CBASE k) + a.chan)).load = (ix s.sch.ch (rd s (CRL_LKk_CFG_CBASE k) + a.chan)).load
              ++ [{ at_ := a.tf, base := a.tf, act := { rec_ := { t := a.tf, origin := 3, target := rd s (CRL_LKk_CFG_CBASE k) + a.chan }, act := a.act, ref := some (k, id) } }])))
    ∧ (new → ver = 3 → (l.armed.any (fun a => a.ident == id && !a.committed) = true → Completes (.cancelCmd dt k f) s (fun t => answers ack [] t
          ∧ (lk t).armed = l.armed.filter (fun a => a.ident != id)))
        ∧ (l.armed = [] → (∀ n < 48, (ix s.sch.ch n).load = []) → Completes (.cancelCmd dt k f) s (answers (nak 5 0x25) [])))
    ∧ (sess → mode s 5 = false → Completes (.ttReq dt k f) s (fun t => lk t = { l with frameAt := s.now + dt } ∧ at_ [] t))
    ∧ (sess → mode s 5 = true → ver < 2 → Completes (.ttReq dt k f) s (fun t => resp (nak 1 0x30) t ∧ at_ [] t))
    ∧ (sess → mode s 5 = true → 2 ≤ ver → Completes (.ttReq dt k f) s (fun t => (lk t).t2 = (now16 t : Int) - rdS s (CRL_LKk_RXLAT_LAT k) ∧ (lk t).ttSeq = some f.seq
        ∧ (∃ d : Nat, d < 32 * nsU ∧ (lk t).launch = some (((s.now + dt + 16 * usU : Nat) : Int) - 20 * rdS s (CRL_LKk_RXLAT_LAT k) + d).toNat)
        ∧ (lk t).frameAt = s.now + dt ∧ at_ [] t))
    ∧ (sess → l.launch.isSome = true → Completes (.ttFup dt k f) s (fun t => rd t CRL_FOL_CNT_FUP_LATE = satInc (rd s CRL_FOL_CNT_FUP_LATE) (2 ^ fldWidth CRL_FOL_CNT_FUP_LATE - 1) % 2 ^ fldWidth CRL_FOL_CNT_FUP_LATE
        ∧ at_ [CRL_FOL_CNT_FUP_LATE] t))
    ∧ (sess → l.launch = none → l.ttSeq = some f.seq → p.length = 48 → ((now16 (pass dt s) : Int) - l.t3).natAbs ≤ 65536000000 → bitAt (byteAt p 44) 3 = false →
        Leads (.ttFup dt k f) s (folTake k p (some (-(l.t2 - (of12 p : Nat) - rawDelay (of12 p : Nat) l.t2 l.t3 (of12 (p.drop 12) : Nat) - sgn 64 (fieldAt p 32 8)))))
          (fun u => lk u = { l with frameAt := s.now + dt, ttSeq := none } ∧ u.flt.raised = [] ∧ at_ [] u))

/-- An armed target without commit that reaches T_f disarms and is reported; TT_RESP leaves at its launch with its send time; a
request without a response counts NORESP and goes again while attempts are left, a round frame counts as missed; a round begins at
its period, or waits for the one under way; a free bus sends the head of the lowest class; a held transaction past PR_LIFE is
dead-lettered; a session, a cascade and a calibration run end at their limits; exchanges of time transfer are issued when due,
those of a calibration 1024 at most and only while MODE_CA stands. A timer that does not run leaves everything as it was. It rests
on the model's choices of log entries 2, 3, 117, 118, 150 and 161. -/
def Obligations.CourierTimersRun : Prop :=
  ∀ (dt k a : Nat) (s : State), Between s → k < 4 → 1 ≤ a → a < 32 →
    let l := ix s.crl.link k
    let lk (t : State) : LinkS := ix t.crl.link k
    let i := pIx k a
    let kept (fs : List Fld) (t : State) : Prop := RegsBut fs s t ∧ StoresSame s t
    (l.armed.filter (fun x => !x.committed) = [] → exec (.armExpiry k) s = .next s)
    ∧ (∀ x, l.armed = [x] → x.committed = false → x.tf ≤ now16 (goTo16 x.tf s) →
        let n := rd s (CRL_LKk_CFG_CBASE k) + x.chan
        Leads (.armExpiry k) s (fun u => finish s.sch.nextId { ref := some (k, x.ident) } { t := x.tf, origin := 3, target := n, result := 10 } u)
          (fun u => (lk u).armed = [] ∧ u.sch.open_ = s.sch.open_ ++ [{ id := s.sch.nextId, target := n }] ∧ u.now = max s.now (whenTod s (x.tf * t16T))
            ∧ u.flt.raised = [] ∧ kept [] u))
    ∧ (l.launch = none → exec (.ttRespLaunch k) s = .next s)
    ∧ (∀ t, l.launch = some t → Leads (.ttRespLaunch k) s
        (fun u => sendResp k (0x31, l.ttSeq.getD 0, time12 l.t2.toNat ++ time12 (lk u).t3.toNat) u)
        (fun u => lk u = { l with launch := none, t3 := (now16 u : Int) + rdS s (CRL_LKk_TXLAT_LAT k) } ∧ u.now = max s.now t ∧ u.flt.raised = [] ∧ kept [] u))
    ∧ (l.cur = none → exec (.responseTimeout k) s = .next s)
    ∧ (∀ c, l.cur = some c → ctlUp s k = true →
        let late (u : State) : Prop := rd u (CRL_LKk_CNT0_NORESP k) = satInc (rd s (CRL_LKk_CNT0_NORESP k)) 65535 % 2 ^ 16 ∧ u.crl = s.crl ∧ u.now = max s.now c.dl
          ∧ u.flt.raised = [] ∧ kept [CRL_LKk_CNT0_NORESP k] u
        ((c.type = 1 ∨ c.type = 3) → Leads (.responseTimeout k) s (fun u => reqEnd k (roundMiss k c.addr u)) late)
        ∧ (c.type ≠ 1 → c.type ≠ 3 → c.type ≠ 0x30 → c.att < retries s k → Leads (.responseTimeout k) s (sendReq k c true) late)
        ∧ (c.type ≠ 1 → c.type ≠ 3 → c.type ≠ 0x30 → retries s k ≤ c.att → Leads (.responseTimeout k) s (fun u => reqEnd k (exhausted k c u)) late))
    ∧ (ctlUp s k = false → exec (.roundStart k) s = .next s ∧ Completes (.busFree dt k) s (fun t => t.crl = s.crl ∧ t.now = s.now + dt ∧ kept [] t))
    ∧ (ctlUp s k = true → Completes (.roundStart k) s (fun t => t.now = max s.now l.roundAt ∧ kept [] t
        ∧ lk t = (if inRound s k then { l with roundAt := t.now + rper s k, roundDue := true }
          else { l with roundAt := t.now + rper s k, round := (roundList s k).1, probe := (roundList s k).2, roundNo := l.roundNo + 1, roundDue := false })))
    ∧ (∀ c b, c < 5 → 1 ≤ b → b < 32 → ctlUp s k = true → l.cur = none → (List.range 5).find? (fun c => !(candidates s k c).isEmpty) = some c →
        nextAfter (ix l.served c) (candidates s k c) = some b →
        let given (u : State) : Prop := lk u = { l with served := vset l.served c b } ∧ u.now = s.now + dt ∧ u.flt.raised = [] ∧ kept [] u
        (c = 3 → Leads (.busFree dt k) s (sendClass3 k b) given)
        ∧ (∀ t, c ≠ 3 → headOf s k b = some t → noKey s k b = false → Leads (.busFree dt k) s (sendTxn k t) given))
    ∧ ((rdB s i CRL_P_CFG_PR_LIFE = 0 ∨ pState s k a ≠ 4 ∨ heldFor s k a = []) → exec (.prExpiry k a) s = .next s)
    ∧ (∀ t r, rdB s i CRL_P_CFG_PR_LIFE ≠ 0 → pState s k a = 4 → heldFor s k a = t :: r → Leads (.prExpiry k a) s (poolDead 1 t.id)
        (fun u => u.crl = s.crl ∧ u.now = max s.now (t.heldAt.getD 0 + rdB s i CRL_P_CFG_PR_LIFE * 60 * secU) ∧ u.flt.raised = [] ∧ kept [] u))
    ∧ ((parUp s k = false ∨ rd s (CRL_LKk_STAT_PSTATE k) = 0) → exec (.sessionTimeout k) s = .next s)
    ∧ (parUp s k = true → rd s (CRL_LKk_STAT_PSTATE k) ≠ 0 → Leads (.sessionTimeout k) s folEval (fun u => rd u (CRL_LKk_STAT_PSTATE k) = 0 ∧ rd u (CRL_LKk_STAT_VER k) = 0
        ∧ u.now = max s.now (l.frameAt + rper s k) ∧ u.flt.raised = [] ∧ kept [CRL_LKk_STAT_PSTATE k, CRL_LKk_STAT_VER k] u))
    ∧ (ttWanted s k a = false → Completes (.ttExchangeDue k a) s (fun t => t.crl.pool = s.crl.pool ∧ t.now = s.now ∧ kept [] t))
    ∧ (ttServed s k a = true → Leads (.ttExchangeDue k a) s (fun u => (issueTxn { link := k, addr := a, type := 0x30 } u).2) (fun u =>
        u.now = max s.now (ix s.crl.part i).ttAt ∧ (ix u.crl.part i).ttAt = u.now + secU / 2 ^ min 6 (rd s (CRL_LKk_TT_TT_RATE k)) ∧ u.flt.raised = [] ∧ kept [] u))
    ∧ (l.exchAt = none → exec (.cascadeTimeout k) s = .next s)
    ∧ (∀ t, l.exchAt = some t → Leads (.cascadeTimeout k) s folEval (fun u => lk u = { l with exchAt := none } ∧ u.now = max s.now (t + 2 * secU + secU / 2)
        ∧ u.flt.raised = [] ∧ kept [] u))
    ∧ (rdB s i CRL_P_CAL_CAL_RUN = 0 → exec (.calExchangeDue k a) s = .next s ∧ exec (.calTimeout k a) s = .next s)
    ∧ (rdB s i CRL_P_CAL_CAL_RUN = 1 →
        let q := ix s.crl.part i
        let due (u : State) : Prop := u.now = max s.now q.calNext ∧ (ix u.crl.part i).calNext = q.calNext + msU ∧ u.crl.pool = s.crl.pool ∧ kept [] u
        (q.calAt + 1024 * msU ≤ q.calNext → exec (.calExchangeDue k a) s = .next s)
        ∧ (q.calNext < q.calAt + 1024 * msU →
          (ttMay s = true → Leads (.calExchangeDue k a) s (fun u => (issueTxn { link := k, addr := a, type := 0x30, tag := 1 } u).2) (fun u => due u ∧ u.flt.raised = []))
          ∧ (ttMay s = false → Completes (.calExchangeDue k a) s due))
        ∧ Completes (.calTimeout k a) s (fun t => rdB t i CRL_P_CAL_CAL_RUN = 0 ∧ rdB t i CRL_P_CAL_CAL_ERR = 1 ∧ rd t CRL_EVT_CAL = 1
          ∧ (ix t.crl.part i).calSmp = [] ∧ t.now = max s.now ((ix s.crl.part i).calAt + 2 * secU)
          ∧ kept [inBank i CRL_P_CAL_CAL_RUN, inBank i CRL_P_CAL_CAL_ERR, CRL_EVT_CAL] t))

/-- CAL_START of a PRESENT partner at version 2 or 3 starts a run, otherwise it is refused. RENEG of a REJECTED partner negotiates
again and is without effect on another. FORGET leaves the address VACANT without identity. A 65th word of LBO_DATA is refused,
another is staged. POST with a faulty message shows its code in REFUSE and is refused; a sound one to a PRESENT partner enters the
pool and empties the staged words. DLQ_RESEND posts the head again; a SWITCH there is refused. It rests on the model's choices of
log entries 3, 116, 118 and 150. -/
def Obligations.PartnerAndLetterboxCommands : Prop :=
  ∀ (dt k a : Nat) (data : Nat) (s : State), Between s → k < 4 → 1 ≤ a → a < 32 →
    let i := pIx k a
    let at_ (fs : List Fld) (t : State) : Prop := t.now = s.now + dt ∧ RegsBut fs s t ∧ StoresSame s t
    let haf : List Fld := [GEN_HAF_VALID, GEN_HAF_CAUSE, GEN_HAF_ADDR, GEN_HAF_MORE]
    let refused (fs : List Fld) (v : State) : Prop := v.flt.raised = [(0, none)] ∧ v.crl = s.crl ∧ at_ (fs ++ haf) v
    let code := postRefuse s (rd s CRL_LBO_HDR_LINK) (rd s CRL_LBO_HDR_ADDR) (if rd s CRL_LBO_HDR_KIND = 1 then 0x12 else 0x10) (rd s CRL_LBO_HDR_LEN) s.crl.staged.length
      ((s.crl.staged.flatMap (fun w => leBytes 4 w.toNat)).take (rd s CRL_LBO_HDR_LEN))
    let open_ (k a : Nat) : Prop := (pState s k a = 1 ∨ pState s k a = 2 ∨ pState s k a = 3) ∧ noKey s k a = false ∧ isolated s 13 = false
    (Open s 0xD00124 → rd s CRL_PIDX_LINK = k → rd s CRL_PIDX_ADDR = a →
        (pState s k a = 2 → 2 ≤ rdB s i CRL_P_STAT_VER → Completes (.calStart dt) s (fun t => rdB t i CRL_P_CAL_CAL_RUN = 1
          ∧ ix t.crl.part i = { ix s.crl.part i with calAt := s.now + dt, calNext := s.now + dt, calSmp := [] } ∧ at_ [inBank i CRL_P_CAL_CAL_RUN] t))
        ∧ (pState s k a ≠ 2 → Effects (.calStart dt) s (refused []))
        ∧ (pState s k a = 5 → Leads (.renegCmd dt) s (negotiate k a) (fun u => u.crl = s.crl ∧ u.flt.raised = [] ∧ at_ [] u))
        ∧ (pState s k a ≠ 5 → Completes (.renegCmd dt) s (fun t => t.crl = s.crl ∧ at_ [] t))
        ∧ Effects (.forgetCmd dt) s (fun v => pState v k a = 0 ∧ rdB v i CRL_P_STAT_ID_VALID = 0 ∧ rdB v i CRL_P_STAT_VER = 0 ∧ rdB v i CRL_P_STAT_MISSCNT = 0
          ∧ v.now = s.now + dt))
    ∧ (Open s 0xD00184 → (s.crl.staged.length < 64 → Completes (.lboDataWrite dt data) s (fun t => t.crl = { s.crl with staged := s.crl.staged ++ [BitVec.ofNat 32 data] } ∧ at_ [] t))
        ∧ (64 ≤ s.crl.staged.length → Effects (.lboDataWrite dt data) s (refused [])))
    ∧ (Open s 0xD00188 → (code ≠ 0 → Effects (.postCmd dt) s (fun v => rd v CRL_LBO_STAT_REFUSE = code ∧ refused [CRL_LBO_STAT_REFUSE] v))
        ∧ (code = 0 → open_ (rd s CRL_LBO_HDR_LINK) (rd s CRL_LBO_HDR_ADDR) → Completes (.postCmd dt) s (fun t => rd t CRL_LBO_STAT_REFUSE = 0
          ∧ t.crl = { s.crl with staged := [], nextId := s.crl.nextId + 1
                                 pool := s.crl.pool ++ [{ id := s.crl.nextId, link := rd s CRL_LBO_HDR_LINK, addr := rd s CRL_LBO_HDR_ADDR
                                                          type := if rd s CRL_LBO_HDR_KIND = 1 then 0x12 else 0x10, tag := rd s CRL_LBO_HDR_TAG, host := true
                                                          payload := (s.crl.staged.flatMap (fun w => leBytes 4 w.toNat)).take (rd s CRL_LBO_HDR_LEN) }] }
          ∧ at_ [CRL_LBO_STAT_REFUSE] t)))
    ∧ (Open s 0xD001A0 → (s.crl.dlq = [] → Completes (.dlqResend dt) s (fun t => t.crl = s.crl ∧ at_ [] t))
        ∧ (∀ t r rest, s.crl.dlq = (t, r) :: rest → t.type = 0x20 → Effects (.dlqResend dt) s (refused []))
        ∧ (∀ t r rest, s.crl.dlq = (t, r) :: rest → t.type = 0x10 → postRefuse s t.link t.addr t.type t.payload.length ((t.payload.length + 3) / 4) t.payload = 0 →
          open_ t.link t.addr → Completes (.dlqResend dt) s (fun u => rd u CRL_LBO_STAT_REFUSE = 0 ∧ u.crl.dlq = rest
            ∧ u.crl.pool = s.crl.pool ++ [{ id := s.crl.nextId, link := t.link, addr := t.addr, type := 0x10, tag := t.tag, host := true, payload := t.payload }]
            ∧ at_ [CRL_LBO_STAT_REFUSE] u)))

/-- The warning (VMAIN_SENSE below 1.200 V for 2 µs) sets PF_WARN and EVT.PF with source 3 and asks for what CFG says; it is cleared
above 1.240 V for 1 ms. A periodic save falls due at its multiple, SAVE asks for one of cause 3. A save waits for the page program
in progress; one that ends well writes its snapshot to its ring slot and no other byte, counts itself and shows its slot; one that
fails marks its slot INVALID with source 83. A page program that ends well writes its page and leaves the queue; the first failure
is repeated, the second reported; a host page writes its marked bytes alone, failing twice sets PB_FAIL too. After each the array
takes up the next request. A waiting item enters the queue when there is place. PB_PROG below page 0x500 is refused, otherwise the
marked bytes wait to be programmed; PB_CLR clears the buffer. A restore takes the one newest slot word for word, or with none
starts from zero with source 80. It rests on the model's choices of log entries 2, 3, 7, 45, 46, 109, 121, 122, 124, 129 and 163. -/
def Obligations.SavesProgramsAndRestores : Prop :=
  ∀ (dt mv ns : Nat) (ok : Bool) (s : State), Between s →
    let at_ (fs : List Fld) (t : State) : Prop := t.now = s.now + dt ∧ RegsBut fs s t
    let haf : List Fld := [GEN_HAF_VALID, GEN_HAF_CAUSE, GEN_HAF_ADDR, GEN_HAF_MORE]
    let nothing (t : State) : Prop := t.nvm = s.nvm ∧ at_ [] t ∧ StoresSame s t
    let page := rd s NVM_PADDR_PAGE
    let low := mv < 1200 ∧ 2000 ≤ ns
    let high := 1240 < mv ∧ 1000000 ≤ ns
    let after (wb : List WbItem) (pb : Bool) : Nat := if wb ≠ [] ∧ isolated s 14 = false then 1 else if pb then 2 else 0
    let idle := s.nvm.prog = 0 ∧ s.nvm.save = none
    ((¬ low ∨ rd s NVM_STAT_PF_WARN = 1) → Completes (.powerFailWarning ⟨dt, mv, ns⟩) s nothing)
    ∧ (low → rd s NVM_STAT_PF_WARN = 0 → s.rst.por = false → Leads (.powerFailWarning ⟨dt, mv, ns⟩) s
        (fun u => let w := fuseTear u
          let w := if rd s NVM_CFG_PF_EN = 1 then saveWith 1 w else w
          if rd s NVM_CFG_SHED = 1 then forEach (List.range 6) linkFall w else w)
        (fun u => rd u NVM_STAT_PF_WARN = 1 ∧ rd u NVM_EVT_PF = 1 ∧ u.flt.raised = [(3, none)] ∧ at_ [NVM_STAT_PF_WARN, NVM_EVT_PF] u ∧ StoresSame s u))
    ∧ (¬ high → Completes (.powerFailClear ⟨dt, mv, ns⟩) s nothing)
    ∧ (high → Completes (.powerFailClear ⟨dt, mv, ns⟩) s (fun t => rd t NVM_STAT_PF_WARN = 0 ∧ at_ [NVM_STAT_PF_WARN] t ∧ StoresSame s t))
    ∧ (rd s NVM_CFG_PERIOD = 0 → exec .periodicSave s = .next s)
    ∧ (rd s NVM_CFG_PERIOD ≠ 0 → s.rst.phase = .run → Leads .periodicSave s (saveWith 2) (fun u => u.now = max s.now (periodAt s) ∧ u.nvm = { s.nvm with perAt := u.now }
        ∧ u.flt.raised = [] ∧ RegsBut [] s u ∧ StoresSame s u))
    ∧ (Open s 0xE0000C → Leads (.saveCmd dt) s (saveWith 3) (fun u => u.nvm = s.nvm ∧ u.flt.raised = [] ∧ at_ [] u ∧ StoresSame s u)
        ∧ ((page < 0x500 ∨ s.nvm.pb.isSome = true ∨ isolated s 14 = true ∨ rd s NVM_STAT_SAVE_RUN = 1) → Effects (.pbProg dt) s (fun v => rd v NVM_PSTAT_REFUSED = 1 ∧ v.flt.raised = [(0, none)]
          ∧ v.nvm = s.nvm ∧ at_ (NVM_PSTAT_REFUSED :: haf) v ∧ StoresSame s v))
        ∧ (0x500 ≤ page → s.nvm.pb = none → rd s NVM_STAT_SAVE_RUN = 0 → isolated s 14 = false → s.nvm.markAt ≠ cycleNow (pass dt s) + 1 →
          Completes (.pbProg dt) s (fun t => rd t NVM_PSTAT_PB_PEND = 1
          ∧ t.nvm = { s.nvm with pb := some (page, s.nvm.marks, (List.range 64).flatMap (fun w => leBytes 4 (rd s (NVM_PBUF_DATA w))))
                                 prog := if idle then after s.nvm.wb true else s.nvm.prog }
          ∧ at_ [NVM_PSTAT_PB_PEND] t ∧ StoresSame s t))
        ∧ Completes (.pbClr dt) s (fun t => (∀ w < 64, rd t (NVM_PBUF_DATA w) = 0) ∧ t.nvm = { s.nvm with marks := 0 } ∧ at_ ((List.range 64).map NVM_PBUF_DATA) t ∧ StoresSame s t))
    ∧ (s.rst.phase = .run → (s.nvm.save = none ∨ s.nvm.prog ≠ 0) → Completes (.saveDone dt ok) s nothing)
    ∧ (∀ r, s.rst.phase = .run → s.nvm.save = some r → r.flush = false → s.nvm.prog = 0 →
        Completes (.saveDone dt true) s (fun t => rd t NVM_STAT_SAVE_RUN = 0 ∧ rd t NVM_EVT_SAVE_DONE = 1 ∧ rd t NVM_STAT_SLOT = r.slot % 8 ∧ rd t NVM_SEQ_SEQ = r.seq % 2 ^ 32
          ∧ (∀ x, memGet t.mram x = if ringAt r.slot ≤ x ∧ x < ringAt r.slot + 4096 then (cramBytes r.snap).getD (x - ringAt r.slot) 0 else memGet s.mram x)
          ∧ cram t 0 = r.saves % 2 ^ 32 ∧ (∀ i, i ≠ 0 → cram t i = cram s i) ∧ t.otp = s.otp ∧ t.nvm = { s.nvm with save := none, prog := after s.nvm.wb s.nvm.pb.isSome }
          ∧ at_ [NVM_STAT_SAVE_RUN, NVM_EVT_SAVE_DONE, NVM_STAT_SLOT, NVM_SEQ_SEQ, NVM_STAT_INVALID] t)
        ∧ Effects (.saveDone dt false) s (fun v => rd v NVM_STAT_SAVE_RUN = 0 ∧ rd v NVM_STAT_INVALID = (rd s NVM_STAT_INVALID ||| 2 ^ r.slot) % 2 ^ 8
          ∧ v.flt.raised = [(83, none)] ∧ v.nvm = { s.nvm with save := none, prog := after s.nvm.wb s.nvm.pb.isSome } ∧ at_ [NVM_STAT_SAVE_RUN, NVM_STAT_INVALID] v))
    ∧ (s.nvm.prog = 0 → Completes (.pageProgramDone dt ok) s nothing)
    ∧ (s.nvm.prog ≠ 0 → s.nvm.retry = false → Completes (.pageProgramDone dt false) s (fun t => t.nvm = { s.nvm with retry := true } ∧ at_ [] t ∧ StoresSame s t))
    ∧ (∀ ow p m q, isolated s 14 = false → s.nvm.save = none → s.nvm.prog = 1 → s.nvm.wb = { owner := ow, pages := p :: m } :: q →
        let rest : List WbItem := if m = [] then q else { owner := ow, pages := m } :: q
        let left (t : State) : Prop := t.nvm = { s.nvm with wb := rest, retry := false, prog := after rest s.nvm.pb.isSome }
          ∧ rd t NVM_STAT_WB_LEVEL = rest.length % 2 ^ fldWidth NVM_STAT_WB_LEVEL ∧ at_ [NVM_STAT_WB_LEVEL] t
        Completes (.pageProgramDone dt true) s (fun t => BytesStored (pageAt p.1) p.2 s t ∧ left t)
        ∧ (s.nvm.retry = true → Effects (.pageProgramDone dt false) s (fun v => v.flt.raised = [(83, none)] ∧ left v ∧ StoresSame s v)))
    ∧ (∀ p m l, s.nvm.prog = 2 → s.nvm.wb = [] → s.nvm.save = none → s.nvm.pb = some (p, m, l) →
        let left (t : State) : Prop := rd t NVM_PSTAT_PB_PEND = 0 ∧ rd t NVM_EVT_PROG_DONE = 1
          ∧ t.nvm = { s.nvm with pb := none, retry := false, prog := 0, marks := clrMask s.nvm.marks m }
        Completes (.pageProgramDone dt true) s (fun t => left t
          ∧ (∀ x, memGet t.mram x = if pageAt p ≤ x ∧ x < pageAt p + 256 ∧ m.testBit (x - pageAt p) = true then l.getD (x - pageAt p) 0 else memGet s.mram x)
          ∧ (∀ i, cram t i = cram s i) ∧ t.otp = s.otp ∧ at_ ([NVM_PSTAT_PB_PEND, NVM_EVT_PROG_DONE] ++ (List.range 64).map NVM_PBUF_DATA) t)
        ∧ (s.nvm.retry = true → Effects (.pageProgramDone dt false) s (fun v => rd v NVM_PSTAT_PB_FAIL = 1 ∧ v.flt.raised = [(83, none)] ∧ left v
          ∧ at_ ([NVM_PSTAT_PB_FAIL, NVM_PSTAT_PB_PEND, NVM_EVT_PROG_DONE] ++ (List.range 64).map NVM_PBUF_DATA) v ∧ StoresSame s v)))
    ∧ (s.nvm.offers = [] → Completes (.writeBackOffer dt) s nothing)
    ∧ (∀ it r, s.nvm.offers = it :: r → s.nvm.wb.length < 16 → isolated s 14 = false → Completes (.writeBackOffer dt) s (fun t =>
        t.nvm = { s.nvm with offers := r, wb := s.nvm.wb ++ [it], prog := if idle then 1 else s.nvm.prog } ∧ rd t NVM_STAT_WB_LEVEL = s.nvm.wb.length + 1 ∧ at_ [NVM_STAT_WB_LEVEL] t ∧ StoresSame s t))
    ∧ (s.nvm.loaded = true → Completes (.counterRamRestore dt) s nothing)
    ∧ (s.nvm.loaded = false → s.rst.phase = .run → rd s GEN_CLKSTAT_CORE_LOCK = 1 → Leads (.counterRamRestore dt) s
        (fun u => modNvm (fun n => { n with loaded := true }) (forEach (List.range 8) learnRestore (formRead (ownersRestore u))))
        (fun u => (∀ a, memGet u.mram a = memGet s.mram a) ∧ u.otp = s.otp
          ∧ at_ [NVM_STAT_INVALID, NVM_STAT_RESTORED, NVM_STAT_SLOT, NVM_SEQ_SEQ, NVM_STAT_TIE] u
          ∧ (newestSlots s = [] → rd u NVM_STAT_RESTORED = 0 ∧ (∀ i, cram u i = 0) ∧ (80, none) ∈ u.flt.raised)
          ∧ (∀ j, newestSlots s = [j] → rd u NVM_STAT_RESTORED = 1 ∧ rd u NVM_STAT_SLOT = j % 8 ∧ rd u NVM_SEQ_SEQ = ringSeq s j % 2 ^ 32
            ∧ ∀ i < 1024, cram u i = ringVal s j i 1)))

/-- A fuse write that a check refuses shows its code and is refused; one that passes runs: BUSY, LEFT the bits still to program. Its
end programs, a core cycle later effective, exactly the bits asked for, whatever they were before, and shows FUSE_DONE; a failed
read-back sets FAIL with source 90; without a program nothing happens. FUSE_LOCK is set by a write of 1, and locked slots stay
locked. ROLLFWD programs the anti-rollback bits below the running SECVER not yet programmed, none when the count has reached it,
and is refused where R88 says. It rests on the model's choices of log entries 3 and 123. -/
def Obligations.FusesAreProgrammedAndLocked : Prop :=
  ∀ (dt key field data : Nat) (s : State), Between s →
    let at_ (fs : List Fld) (t : State) : Prop := t.now = s.now + dt ∧ RegsBut fs s t ∧ StoresSame s t
    let haf : List Fld := [GEN_HAF_VALID, GEN_HAF_CAUSE, GEN_HAF_ADDR, GEN_HAF_MORE]

    let f := field % 16
    let w := fuseField f
    let code := fuseRefuse s (key % 256) f
    let todo := (bitList 2048 (bufNat s w.2 <<< w.1)).filter (fun i => !Nat.testBit s.otp i)
    (Open s 0xF00018 →
      (code ≠ 0 → Effects (.fuseProgram dt key field) s (fun v => rd v SEC_FUSE_STAT_REFUSE = code ∧ v.flt.raised = [(0, none)] ∧ v.sec = s.sec
        ∧ at_ (SEC_FUSE_STAT_REFUSE :: haf) v))
      ∧ (code = 0 → Completes (.fuseProgram dt key field) s (fun t => rd t SEC_FUSE_STAT_REFUSE = 0 ∧ rd t SEC_FUSE_STAT_BUSY = 1
        ∧ rd t SEC_FUSE_STAT_LEFT = todo.length % 2 ^ fldWidth SEC_FUSE_STAT_LEFT ∧ t.sec = { s.sec with fuse := some { field := f, todo := todo, start := s.now + dt } }
        ∧ at_ [SEC_FUSE_STAT_REFUSE, SEC_FUSE_STAT_BUSY, SEC_FUSE_STAT_LEFT] t)))
    ∧ (s.sec.fuse = none → exec (.fuseProgramDone true) s = .next s ∧ exec (.fuseProgramDone false) s = .next s)
    ∧ (∀ r, s.sec.fuse = some r →
      let ends := max s.now (r.start + (20 * r.todo.length + 10) * usU)
      Leads (.fuseProgramDone true) s fuseEffect (fun u => (∀ i, u.otp.testBit i = (s.otp.testBit i || r.todo.contains i))
        ∧ (∀ i, u.sec.sensed.testBit i = (s.sec.sensed.testBit i || r.todo.contains i)) ∧ u.sec.fuse = none ∧ rd u SEC_EVT_FUSE_DONE = 1 ∧ rd u SEC_FUSE_STAT_BUSY = 0
        ∧ rd u SEC_FUSE_STAT_LEFT = 0 ∧ u.flt.raised = [] ∧ u.now = (cycleOf ends + 1) * cycU ∧ RegsBut [SEC_EVT_FUSE_DONE, SEC_FUSE_STAT_BUSY, SEC_FUSE_STAT_LEFT] s u)
      ∧ Effects (.fuseProgramDone false) s (fun v => rd v SEC_FUSE_STAT_FAIL = 1 ∧ rd v SEC_FUSE_STAT_BUSY = 0 ∧ rd v SEC_FUSE_STAT_LEFT = 0 ∧ v.flt.raised = [(90, none)]
        ∧ v.sec.fuse = none ∧ (∀ i, v.otp.testBit i = true → s.otp.testBit i = true ∨ r.todo.contains i = true) ∧ v.now = ends
        ∧ RegsBut [SEC_FUSE_STAT_FAIL, SEC_FUSE_STAT_BUSY, SEC_FUSE_STAT_LEFT] s v))
    ∧ (Open s 0xF00008 → Completes (.fuseLockWrite dt) s (fun t => rd t SEC_LOCK_FUSE_LOCK = 1 ∧ t.sec = s.sec ∧ at_ [SEC_LOCK_FUSE_LOCK] t))
    ∧ (Open s 0xF0000C → Completes (.slotLockWrite dt 0 data) s (fun t => rd t SEC_SLOT_LOCK_LOCK = (rd s SEC_SLOT_LOCK_LOCK ||| data % 2 ^ 32) % 2 ^ 32
        ∧ t.sec = s.sec ∧ at_ [SEC_SLOT_LOCK_LOCK] t))
    ∧ (HostIdle s →
      let may := rd s IMG_STATUS_STATE = 4 ∧ rd s IMG_LOCK_LOCK ≠ 1 ∧ s.img.signed = true ∧ rd s SEC_STAT_STATE = 1 ∧ s.sec.fuse = none
        ∧ rd s NVM_STAT_PF_WARN ≠ 1 ∧ rd s NVM_STAT_SAVE_RUN ≠ 1
      let bars := (bitList 2048 ((2 ^ s.img.secver - 1) <<< (8 * 0xA0))).filter (fun i => !Nat.testBit s.otp i)
      (¬may → Effects (.rollfwd dt) s (fun v => v.flt.raised = [(0, none)] ∧ v.sec = s.sec ∧ at_ haf v))
      ∧ (may → s.img.secver ≤ arbCount s → Completes (.rollfwd dt) s (fun t => t.sec = s.sec ∧ at_ [] t))
      ∧ (may → arbCount s < s.img.secver → Completes (.rollfwd dt) s (fun t => rd t SEC_FUSE_STAT_BUSY = 1
        ∧ rd t SEC_FUSE_STAT_LEFT = bars.length % 2 ^ fldWidth SEC_FUSE_STAT_LEFT
        ∧ t.sec = { s.sec with fuse := some { field := 9, todo := bars, start := s.now + dt } } ∧ at_ [SEC_FUSE_STAT_BUSY, SEC_FUSE_STAT_LEFT] t)))

/-- A service is refused with a key other than 0x5A or while another is in progress; otherwise BUSY is 1, OUT reads 0 and it waits for
its end. At its end BUSY is 0, BUF reads 0, SVC_DONE is set and RESULT says what came of it: 1 when SEC is not READY; a CLEAR
empties its slot unless it is locked (2); LOAD of usage 0 gives 4; LOAD of a key that unwraps puts it in its slot and restarts the
franking counters that name the slot, as CLEAR does, one that does not gives 3; SHA-256 and WRAP give their value in OUT; VERIFY
gives 0 or 6, HMAC the tag under an HMAC key, 4 without one. With no service in progress nothing happens. It rests on the model's
choices of log entries 3, 8, 123 and 163. -/
def Obligations.ServicesAreTakenAndRun : Prop :=
  ∀ (dt key slot usage len : Nat) (s : State), Between s →
    let at_ (fs : List Fld) (t : State) : Prop := t.now = s.now + dt ∧ RegsBut fs s t ∧ StoresSame s t
    let haf : List Fld := [GEN_HAF_VALID, GEN_HAF_CAUSE, GEN_HAF_ADDR, GEN_HAF_MORE]

    let refused (v : State) : Prop := v.flt.raised = [(0, none)] ∧ v.sec = s.sec ∧ at_ haf v
    let ready := rd s SEC_STAT_STATE = 1
    let outs := (List.range 10).map SEC_OUT_DATA
    let bufs := (List.range 48).map SEC_BUF_DATA
    let taken (op sl us ln : Nat) (t : State) : Prop := rd t SEC_SVC_STAT_BUSY = 1 ∧ (∀ i < 10, rd t (SEC_OUT_DATA i) = 0)
      ∧ t.sec = { s.sec with svc := some { op := op, slot := sl, usage := us, len := ln } } ∧ at_ (SEC_SVC_STAT_BUSY :: outs) t
    let ended (result : Nat) (t : State) : Prop := rd t SEC_SVC_STAT_RESULT = result ∧ rd t SEC_SVC_STAT_BUSY = 0 ∧ rd t SEC_EVT_SVC_DONE = 1
      ∧ (∀ i < 48, rd t (SEC_BUF_DATA i) = 0) ∧ t.sec.svc = none ∧ t.now = s.now + dt
    let regs : List Fld := [SEC_SVC_STAT_RESULT, SEC_SVC_STAT_BUSY, SEC_EVT_SVC_DONE] ++ bufs
    let out (l : List Byte) (t : State) : Prop := ∀ i, 4 * i < l.length → rd t (SEC_OUT_DATA i) = leNat ((l.drop (4 * i)).take 4)
    (Open s 0xF00010 →
      (key % 256 = 0x5A → rd s SEC_SVC_STAT_BUSY = 0 →
        Completes (.loadCmd dt key slot usage) s (taken 1 (slot % 32) (usage % 8) (0))
        ∧ Completes (.clearCmd dt key slot) s (taken 2 (slot % 32) (0) (0))
        ∧ Completes (.wrapCmd dt key) s (taken 3 (0) (0) (0))
        ∧ Completes (.sha256 dt key len) s (taken 4 (0) (0) (len % 256))
        ∧ Completes (.hmacCmd dt key slot len) s (taken 5 (slot % 32) (0) (len % 256))
        ∧ Completes (.verifyCmd dt key) s (taken 6 (0) (0) (0)))
      ∧ ((key % 256 ≠ 0x5A ∨ rd s SEC_SVC_STAT_BUSY = 1) →
        Effects (.loadCmd dt key slot usage) s refused
        ∧ Effects (.clearCmd dt key slot) s refused
        ∧ Effects (.wrapCmd dt key) s refused
        ∧ Effects (.sha256 dt key len) s refused
        ∧ Effects (.hmacCmd dt key slot len) s refused
        ∧ Effects (.verifyCmd dt key) s refused))
    ∧ (s.sec.svc = none → Completes (.serviceDone dt) s (fun t => t.sec = s.sec ∧ at_ [] t))
    ∧ (∀ r, s.sec.svc = some r → s.sec.testing = false → r.ended = false →
      (¬ ready → Completes (.serviceDone dt) s (fun t => ended 1 t ∧ RegsBut regs s t ∧ StoresSame s t))
      ∧ (∀ kek, ready → s.sec.kek = some kek →
        let locked := (rd s SEC_SLOT_LOCK_LOCK).testBit r.slot = true
        let restarted (t : State) : Prop := ∀ i ∈ pairsOf s r.slot, cram64 t (cramFcnt + 4 * i) = 0 ∧ cram64 t (cramFcnt + 4 * i + 2) = 0
        (r.op = 1 → ¬ locked → r.usage = 0 → Completes (.serviceDone dt) s (fun t => ended 4 t ∧ RegsBut regs s t ∧ StoresSame s t))
        ∧ (r.op = 1 → ¬ locked → 1 ≤ r.usage → r.usage ≤ 3 → Config.kwUnwrap kek (bufBytes s 40) = none →
          Completes (.serviceDone dt) s (fun t => ended 3 t ∧ RegsBut regs s t ∧ StoresSame s t))
        ∧ (∀ v, r.op = 1 → ¬ locked → 1 ≤ r.usage → r.usage ≤ 3 → r.slot < 32 → Config.kwUnwrap kek (bufBytes s 40) = some v →
          Effects (.serviceDone dt) s (fun t => ended 0 t ∧ t.sec = { s.sec with svc := none, keys := vset s.sec.keys r.slot v.toList, rekeyed := true }
            ∧ slotUse t r.slot = r.usage ∧ restarted t ∧ t.flt.raised = [] ∧ RegsBut (SEC_SLOT_USE_USE (r.slot / 8) :: regs) s t))
        ∧ ((r.op = 1 ∨ r.op = 2) → locked → Completes (.serviceDone dt) s (fun t => ended 2 t ∧ t.sec.keys = s.sec.keys ∧ RegsBut regs s t ∧ StoresSame s t))
        ∧ (r.op = 2 → ¬ locked → r.slot < 32 → Effects (.serviceDone dt) s (fun t => ended 0 t ∧ t.sec = { s.sec with svc := none, keys := vset s.sec.keys r.slot [], rekeyed := true }
            ∧ slotUse t r.slot = 0 ∧ restarted t ∧ t.flt.raised = [] ∧ RegsBut (SEC_SLOT_USE_USE (r.slot / 8) :: regs) s t))
        ∧ (r.op = 3 → Completes (.serviceDone dt) s (fun t => ended 0 t ∧ out (Config.kwWrap kek (bufBytes s 32)).toList t ∧ RegsBut (regs ++ outs) s t ∧ StoresSame s t))
        ∧ (r.op = 4 → r.len ≤ 192 → Completes (.serviceDone dt) s (fun t => ended 0 t ∧ out (Config.sha256 (bufBytes s r.len)).toList t ∧ RegsBut (regs ++ outs) s t ∧ StoresSame s t))
        ∧ (r.op = 5 → r.len ≤ 192 → keyFor s r.slot 3 = none → Completes (.serviceDone dt) s (fun t => ended 4 t ∧ RegsBut regs s t ∧ StoresSame s t))
        ∧ (∀ k, r.op = 5 → r.len ≤ 192 → keyFor s r.slot 3 = some k → Completes (.serviceDone dt) s (fun t => ended 0 t ∧ out (Config.hmac k (bufBytes s r.len)).toList t
            ∧ RegsBut (regs ++ outs) s t ∧ StoresSame s t))
        ∧ (r.op = 6 → Completes (.serviceDone dt) s (fun t =>
            ended (if Config.ecdsaOk (bufBytes s 64) ((bufBytes s 160).drop 128) ((bufBytes s 128).drop 64) = true then 0 else 6) t ∧ RegsBut regs s t ∧ StoresSame s t))))

/-- In READY a read of RNG gives the next word of the DRBG, otherwise 0 with the host access fault. A reseed falls due after 2^20
requests or an hour; RESEED reseeds at once; a command with another key than 0x5A is refused. SELFTEST, once SEC has been READY,
makes it not READY until the tests end: all passed gives READY and APPROVED, a failure ERROR with its code and source 87. A
conditional entropy failure gives ERROR with source 88; in ERROR the source alone is raised. ZEROISE ends a service in progress
and empties every key slot and its usage, the KEK, the buffers and sets ZEROISED. It rests on the model's choices of log entries
3, 8, 123 and 163. -/
def Obligations.RandomSelfTestsAndZeroise : Prop :=
  ∀ (dt key code : Nat) (p : Bool) (s : State), Between s →
    let at_ (fs : List Fld) (t : State) : Prop := t.now = s.now + dt ∧ RegsBut fs s t ∧ StoresSame s t
    let haf : List Fld := [GEN_HAF_VALID, GEN_HAF_CAUSE, GEN_HAF_ADDR, GEN_HAF_MORE]

    let refused (v : State) : Prop := v.flt.raised = [(0, none)] ∧ v.sec = s.sec ∧ at_ haf v
    let ready := rd s SEC_STAT_STATE = 1
    let tests (c : Nat) : Prop := c = 0 ∨ c = 2 ∨ (5 ≤ c ∧ c ≤ 13)
    (HostIdle s → (ready → Completes (.rngRead dt) s (fun t => t.host.rdata = [(Config.drbg s.sec.seeds s.sec.req).toNat % 2 ^ 32] ∧ t.sec = { s.sec with req := s.sec.req + 1 } ∧ at_ [] t))
      ∧ (¬ ready → Effects (.rngRead dt) s (fun v => v.host.rdata = [0] ∧ refused v)))
    ∧ (¬ ready → exec .drbgReseed s = .next s)
    ∧ (ready → Completes .drbgReseed s (fun t => t.sec = { s.sec with seeds := s.sec.seeds + 1, req := 0, seedAt := t.now }
        ∧ t.now = (if 2 ^ 20 ≤ s.sec.req then s.now else max s.now (s.sec.seedAt + 3600 * secU)) ∧ RegsBut [] s t ∧ StoresSame s t))
    ∧ (Open s 0xF00004 → (key % 256 ≠ 0x5A → Effects (.reseed dt key) s refused ∧ Effects (.selftest dt key) s refused ∧ Effects (.zeroise dt key) s refused)
      ∧ (key % 256 = 0x5A →
        Completes (.reseed dt key) s (fun t => t.sec = { s.sec with seeds := s.sec.seeds + 1, req := 0, seedAt := s.now + dt } ∧ at_ [] t)
        ∧ (rd s SEC_STAT_STATE ≠ 2 → s.sec.ready = true → Completes (.selftest dt key) s (fun t => rd t SEC_STAT_STATE = 0 ∧ rd t SEC_STAT_APPROVED = 0 ∧ t.sec = { s.sec with testing := true }
          ∧ at_ [SEC_STAT_STATE, SEC_STAT_APPROVED] t))
        ∧ ((rd s SEC_STAT_STATE = 2 ∨ s.sec.ready = false) → Completes (.selftest dt key) s (fun t => t.sec = s.sec ∧ at_ [] t))
        ∧ Effects (.zeroise dt key) s (fun t => (∀ k < 32, ix t.sec.keys k = [] ∧ slotUse t k = 0) ∧ t.sec.kek = none ∧ rd t SEC_STAT_KEK_VALID = 0 ∧ rd t SEC_EVT_ZEROISED = 1
          ∧ rd t SEC_SLOT_LOCK_LOCK = 0 ∧ (∀ i < 48, rd t (SEC_BUF_DATA i) = 0) ∧ (∀ i < 10, rd t (SEC_OUT_DATA i) = 0) ∧ t.sec.seeds = s.sec.seeds + 1
          ∧ (s.sec.svc = none → t.sec.svc = none ∧ t.flt.raised = []
            ∧ at_ ([SEC_STAT_KEK_VALID, SEC_EVT_ZEROISED, SEC_SLOT_LOCK_LOCK] ++ (List.range 48).map SEC_BUF_DATA ++ (List.range 10).map SEC_OUT_DATA
              ++ (List.range 4).map SEC_SLOT_USE_USE) t)
          ∧ (∀ r, s.sec.svc = some r → s.sec.testing = true → s.sec.ready = true → t.sec.svc = some { r with ended := true })
          ∧ (∀ r, s.sec.svc = some r → s.sec.testing = false → t.sec.svc = none ∧ rd t SEC_SVC_STAT_BUSY = 0 ∧ rd t SEC_EVT_SVC_DONE = 1))))
    ∧ (¬ tests code → Completes (.selftestDone dt code) s (fun t => t.sec = s.sec ∧ at_ [] t))
    ∧ (s.sec.testing = false → Completes (.selftestDone dt code) s (fun t => t.sec = s.sec ∧ at_ [] t))
    ∧ (s.sec.testing = true → Completes (.selftestDone dt 0) s (fun t => rd t SEC_STAT_STATE = 1 ∧ rd t SEC_STAT_APPROVED = 1 ∧ rd t SEC_STAT_KEK_VALID = b2n (!dukKill s)
        ∧ t.sec.testing = false ∧ t.sec.ready = true ∧ t.sec.seeds = s.sec.seeds + 1 ∧ at_ [SEC_STAT_STATE, SEC_STAT_APPROVED, SEC_STAT_KEK_VALID] t))
    ∧ (s.sec.testing = true → rd s SEC_STAT_STATE ≠ 2 → code ≠ 0 → tests code → Effects (.selftestDone dt code) s (fun v => rd v SEC_STAT_STATE = 2 ∧ rd v SEC_STAT_APPROVED = 0 ∧ rd v SEC_STAT_ERRTEST = code
        ∧ rd v SEC_EVT_ERROR = 1 ∧ v.flt.raised = [(87, none)] ∧ v.sec = { s.sec with testing := false, rekeyed := true }
        ∧ at_ [SEC_STAT_STATE, SEC_STAT_APPROVED, SEC_STAT_ERRTEST, SEC_EVT_ERROR] v))
    ∧ (rd s SEC_STAT_STATE = 2 → Effects (.entropyHealthFail dt p) s (fun v => v.flt.raised = [(88, none)] ∧ v.sec = s.sec ∧ at_ [] v))
    ∧ (rd s SEC_STAT_STATE ≠ 2 → Effects (.entropyHealthFail dt p) s (fun v => rd v SEC_STAT_STATE = 2 ∧ rd v SEC_STAT_APPROVED = 0 ∧ rd v SEC_STAT_ERRTEST = (if p then 4 else 3) ∧ rd v SEC_EVT_ERROR = 1
        ∧ v.flt.raised = [(88, none)] ∧ v.sec = { s.sec with testing := false, rekeyed := true } ∧ at_ [SEC_STAT_STATE, SEC_STAT_APPROVED, SEC_STAT_ERRTEST, SEC_EVT_ERROR] v))

/-- In SAFE a force does nothing; source 4 outside MODE_MT is refused. Otherwise the forced source is raised; where its block may
raise, it is not consequential and its reaction is an interrupt alone, its sticky bit is set, FIRST takes it if FIRST is empty,
shows MULTI if it took another in the same sampling cycle, and stays otherwise, its interrupt is asked for, and no other register
changes. It rests on the model's choices of log entries 5 and 159. -/
def Obligations.FaultsAreForcedAndCollected : Prop :=
  ∀ (dt k i : Nat) (s : State), Between s → k < 3 → i < 32 →
    let src := 32 * k + i
    let a := 0x200028 + 4 * k
    let empty := rd s FLT_FIRST_VALID = 0 ∧ rd s FLT_FIRST_MULTI = 0
    let w := pass dt s
    let same := s.flt.firstAt = sampleCycle w + 1 ∧ rd s FLT_FIRST_SRC ≠ src
    Open s a →
      (inSafe s = true → Completes (.faultForce dt k 0 (2 ^ i)) s (fun t => t.flt = s.flt ∧ t.now = s.now + dt ∧ RegsBut [] s t ∧ StoresSame s t))
      ∧ (inSafe s = false → src = 4 → mode s 6 = false → Effects (.faultForce dt k 0 (2 ^ i)) s (fun v => v.flt.raised = [(0, none)] ∧ v.now = s.now + dt
          ∧ RegsBut [GEN_HAF_VALID, GEN_HAF_CAUSE, GEN_HAF_ADDR, GEN_HAF_MORE] s v ∧ StoresSame s v))
      ∧ (inSafe s = false → (src = 4 → mode s 6 = true) → Effects (.faultForce dt k 0 (2 ^ i)) s (fun v => v.flt = { s.flt with raised := [(src, none)] }
          ∧ v.now = s.now + dt ∧ RegsBut [] s v ∧ StoresSame s v))
      ∧ (inSafe s = false → src ≠ 4 → mayRaise s src = true → (consequential w).testBit src = false → reactIn w src = 1 →
          Completes (.faultForce dt k 0 (2 ^ i)) s (fun t => rd t (FLT_STK_STK k) = (rd s (FLT_STK_STK k) ||| 2 ^ i) % 2 ^ 32
            ∧ (empty → rd t FLT_FIRST_VALID = 1 ∧ rd t FLT_FIRST_SRC = src ∧ rd t FLT_FIRST_MULTI = 0)
            ∧ (rd s FLT_FIRST_MULTI = 0 → rd s FLT_FIRST_VALID = 1 → same → rd t FLT_FIRST_VALID = 0 ∧ rd t FLT_FIRST_MULTI = 1 ∧ rd t FLT_FIRST_SRC = 0x7F)
            ∧ ((rd s FLT_FIRST_MULTI = 1 ∨ (rd s FLT_FIRST_VALID = 1 ∧ ¬ same)) → rd t FLT_FIRST_VALID = rd s FLT_FIRST_VALID
              ∧ rd t FLT_FIRST_MULTI = rd s FLT_FIRST_MULTI ∧ rd t FLT_FIRST_SRC = rd s FLT_FIRST_SRC)
            ∧ t.flt = { s.flt with irqBy := s.flt.irqBy ||| 2 ^ src, firstAt := if empty then sampleCycle w + 1 else s.flt.firstAt } ∧ t.now = s.now + dt
            ∧ RegsBut [FLT_STK_STK k, FLT_FIRST_VALID, FLT_FIRST_MULTI, FLT_FIRST_SRC] s t ∧ StoresSame s t))

/-- A block reset ends at its time and opens the settle window; the window ends at its time and QLEFT counts again in FAULT. When
QLEFT ends the collector is NORMAL, ALIVE runs, RECOVERED is set and the recovery counter counts, a save of cause 5 following. A
check-bit test of a parity source runs in MODE_MT and is refused outside; its end shows its result, a checker that did not fire
raises source 5. Sticky bits and instance bits written 0 clear, but for a sticky bit set in that core cycle. A parity error raises
its source; a single-bit MRAM error is corrected and counted, one of the counter RAM sets CRAM_BAD, one of a key slot empties it.
It rests on the model's choices of log entries 2, 3, 5 and 47. -/
def Obligations.ResetWindowsQuietAndCheckTests : Prop :=
  ∀ (dt b k data src j : Nat) (s : State), Between s → b < 16 → k < 3 → j < 32 →
    let at_ (fs : List Fld) (t : State) : Prop := t.now = s.now + dt ∧ RegsBut fs s t ∧ StoresSame s t
    let haf : List Fld := [GEN_HAF_VALID, GEN_HAF_CAUSE, GEN_HAF_ADDR, GEN_HAF_MORE]
    let c := cram s cramRecovery
    let pb := paritySources.contains src = true
    (ix s.flt.win b = .none → exec (.blockResetEnd b) s = .next s ∧ exec (.settleWindowEnd b) s = .next s)
    ∧ (∀ t, ix s.flt.win b = .inReset t → Leads (.blockResetEnd b) s (fun u => chkBegin (paritySources.filter (fun i => srcBlock i == b)) (resetEnds b u)) (fun u =>
        u.now = max s.now t ∧ u.flt = { s.flt with win := vset s.flt.win b (.settle (u.now + orElse0 (ix s.flt.dep b).1 1 * usU)) } ∧ RegsBut [] s u ∧ StoresSame s u))
    ∧ (∀ t, ix s.flt.win b = .settle t → Completes (.settleWindowEnd b) s (fun u => u.now = max s.now t ∧ ix u.flt.win b = .none
        ∧ u.flt.quietEnd = (if rd s FLT_STAT_STATE = 1 ∧ anyWindow u = false ∧ imgIsFailed s = false then some (u.now + quietU s) else none)
        ∧ RegsBut [] s u ∧ StoresSame s u))
    ∧ (s.flt.quietEnd = none → exec .quietExpiry s = .next s)
    ∧ (∀ t, s.flt.quietEnd = some t → c % 65536 ≠ 65534 → Leads .quietExpiry s (saveWith 5) (fun u => rd u FLT_STAT_STATE = 0 ∧ rd u FLT_STAT_ALIVE_STOP = 0
        ∧ rd u FLT_EVT_RECOVERED = 1 ∧ rd u FLT_RECOV_COUNT = satInc (c % 65536) 65535 ∧ cram u cramRecovery = (c - c % 65536 + satInc (c % 65536) 65535) % 2 ^ 32
        ∧ (∀ i, i ≠ cramRecovery → cram u i = cram s i) ∧ u.flt = { s.flt with quietEnd := none } ∧ u.now = max s.now t
        ∧ RegsBut [FLT_STAT_STATE, FLT_STAT_ALIVE_STOP, FLT_EVT_RECOVERED, FLT_RECOV_COUNT] s u))
    ∧ (src < 128 → Open s 0x200058 → rd s FLT_CHKTEST_GO = 0 →
        (mode s 6 = true → pb → s.flt.chkEnd = none → Completes (.chktest dt 0 (2 ^ 31 + src)) s (fun t => rd t FLT_CHKTEST_GO = 1 ∧ rd t FLT_CHKTEST_SRC = src
          ∧ t.flt = { s.flt with chkEnd := some (t.now + 2 * cycU), chkSrc := src, chkQ := [], chkDiv := none } ∧ at_ [FLT_CHKTEST_GO, FLT_CHKTEST_SRC] t))
        ∧ ((mode s 6 = false ∨ ¬ pb) → Effects (.chktest dt 0 (2 ^ 31 + src)) s (fun v => v.flt = { s.flt with raised := [(0, none)] } ∧ at_ haf v)))
    ∧ (Open s 0x200058 → rd s FLT_CHKTEST_GO = 1 → Completes (.chktest dt 0 data) s (fun t => t.flt = s.flt ∧ at_ [] t))
    ∧ (s.flt.chkEnd = none → exec (.checkBitTestEnd true) s = .next s ∧ exec (.checkBitTestEnd false) s = .next s)
    ∧ (∀ t, s.flt.chkEnd = some t → s.flt.chkQ = [] → s.flt.chkDiv = none → s.flt.chkSrc < 128 →
        let ended (p : Nat) (u : State) : Prop := rd u FLT_CHKRES_DONE = 1 ∧ rd u FLT_CHKRES_PASS = p ∧ rd u FLT_CHKRES_SRC = s.flt.chkSrc ∧ rd u FLT_EVT_CHK_DONE = 1
          ∧ (s.flt.chkSrc = rd s FLT_CHKTEST_SRC → rd u FLT_CHKTEST_GO = 0) ∧ u.flt.chkEnd = none ∧ u.now = max s.now t
          ∧ RegsBut [FLT_CHKRES_DONE, FLT_CHKRES_PASS, FLT_CHKRES_SRC, FLT_EVT_CHK_DONE, FLT_CHKTEST_GO] s u ∧ StoresSame s u
        Completes (.checkBitTestEnd true) s (ended 1) ∧ Effects (.checkBitTestEnd false) s (fun v => ended 0 v ∧ v.flt.raised = [(5, none)]))
    ∧ (Open s (0x200010 + 4 * k) → Completes (.stickyClearWrite dt k 0 data) s (fun t => rd t (FLT_STK_STK k) = (rd s (FLT_STK_STK k) &&& (data ||| cycSet (pass dt s) (FLT_STK_STK k))) % 2 ^ 32 ∧ at_ [FLT_STK_STK k] t))
    ∧ (Open s (0x200010 + 4 * (k + 3)) → Completes (.stickyClearWrite dt (k + 3) 0 data) s (fun t => rd t (FLT_CSTK_CSTK k) = (rd s (FLT_CSTK_CSTK k) &&& (data ||| cycSet (pass dt s) (FLT_CSTK_CSTK k))) % 2 ^ 32
        ∧ t.flt = s.flt ∧ at_ [FLT_CSTK_CSTK k] t))
    ∧ (Open s 0x20003C → Completes (.rinstWrite dt 0 data) s (fun t => instOf t (rd s FLT_RIDX_SRC) = (instOf s (rd s FLT_RIDX_SRC) &&& data) % 2 ^ 32
        ∧ (∀ i, i ≠ rd s FLT_RIDX_SRC → instOf t i = instOf s i) ∧ at_ [] t))
    ∧ (¬ pb → src ≠ 84 → Completes (.parityError dt src j false false) s (fun t => t.flt = s.flt ∧ at_ [] t))
    ∧ (pb → src ≠ 31 → src ≠ 85 → src ≠ 91 → src ≠ 92 → s.flt.chkEnd = none → Effects (.parityError dt src j false false) s (fun v =>
        v.flt = { s.flt with raised := [(src, none)] } ∧ at_ [] v))
    ∧ Completes (.parityError dt 84 j false true) s (fun t => rd t NVM_EVT_ECC_COR = 1 ∧ rd t NVM_PSTAT_ECC_CNT = satInc (rd s NVM_PSTAT_ECC_CNT) 65535 % 2 ^ 16
        ∧ at_ [NVM_EVT_ECC_COR, NVM_PSTAT_ECC_CNT] t)
    ∧ (s.flt.chkEnd = none →
        Effects (.parityError dt 31 j false false) s (fun v => v.flt.raised = [(31, some j)] ∧ at_ [] v)
        ∧ Effects (.parityError dt 85 j false false) s (fun v => v.flt.raised = [(85, none)] ∧ rd v NVM_STAT_CRAM_BAD = 1 ∧ at_ [NVM_STAT_CRAM_BAD] v)
        ∧ Effects (.parityError dt 91 j false false) s (fun v => v.flt.raised = [(91, none)] ∧ ix v.sec.keys j = [] ∧ slotUse v j = 0 ∧ at_ [SEC_SLOT_USE_USE (j / 8)] v)
        ∧ (rd s SEC_STAT_STATE ≠ 2 → Effects (.parityError dt 92 j false false) s (fun v => v.flt.raised = [(92, none)] ∧ rd v SEC_STAT_STATE = 2 ∧ rd v SEC_STAT_ERRTEST = 14
          ∧ at_ [SEC_STAT_STATE, SEC_STAT_APPROVED, SEC_STAT_ERRTEST, SEC_EVT_ERROR] v)))

/-- With no test running, TEST.GO of an isolated SYN (which mutes its synthesiser), MNS, AST, SCH, PTP, CRL or NVM (over pages it may
march) starts the test: GO 1, DONE 0. In PMU the test pair of a one-slice unit less than four periods apart gives 0, another the
interval between its taps. In a block that is not isolated the write is refused with the host access fault. Each block test that
runs ends with GO 0, DONE 1 and the result that the hardware measured, saturated to its field, and PASS by the limit of its rule;
an end without a test changes nothing. A synthesiser muted for the test is OFF again, locked and aligned, or FAILED with source
34, as EN and its lock have it. Nothing else changes. It rests on the model's choices of log entries 3, 10, 24, 37, 62 and 155. -/
def Obligations.TestsStartInIsolationAndEnd : Prop :=
  ∀ (dt x cs cp n m : Nat) (err : Int) (lock ok : Bool) (bad : Option Nat) (s : State), Between s →
    let at_ (fs : List Fld) (t : State) : Prop := t.now = s.now + dt ∧ RegsBut fs s t ∧ StoresSame s t
    let haf : List Fld := [GEN_HAF_VALID, GEN_HAF_CAUSE, GEN_HAF_ADDR, GEN_HAF_MORE]
    let k := rd s SYN_TEST_SYN
    let match_ (b sep : Nat) (t : State) : Prop :=
      let e := if unitSize s b = 4 then b + 2 else if unitSize s b = 2 then b + 1 else b
      if e = b ∧ sep < 4 then rd t PMU_TESTRES_RESULT = 0
      else rd t PMU_TESTRES_RESULT = uns (fldWidth PMU_TESTRES_RESULT) (intervalOf (((sep * pmU : Nat) : Int) - linOf s e (cp % 512) - skewOf s e + linOf s b (cs % 512) + skewOf s b)).1
    (x < 2 ^ 31 → Open s 0x700188 → rd s SYN_TEST_GO = 0 →
        (isolated s 7 = true → Leads (.synTestGo dt 0 (2 ^ 31 + x)) s (muteSyn (x % 4) false) (fun u => rd u SYN_TEST_GO = 1 ∧ rd u SYN_TESTRES_DONE = 0 ∧ rd u SYN_TEST_SYN = x % 4
          ∧ u.flt.raised = [] ∧ at_ [SYN_TEST_GO, SYN_TESTRES_DONE, SYN_TEST_SYN] u))
        ∧ (isolated s 7 = false → Effects (.synTestGo dt 0 (2 ^ 31 + x)) s (fun v => v.flt.raised = [(0, none)] ∧ at_ haf v)))
    ∧ (x < 2 ^ 31 → Open s 0x900154 → rd s MNS_TEST_GO = 0 →
        (isolated s 9 = true → Completes (.mnsTestGo dt 0 (2 ^ 31 + x)) s (fun t => rd t MNS_TEST_GO = 1 ∧ rd t MNS_TESTRES_DONE = 0 ∧ t.mns = { s.mns with testEnd := some (s.now + dt + 100 * msU) }
          ∧ at_ [MNS_TEST_GO, MNS_TESTRES_DONE, MNS_TEST_CH] t))
        ∧ (isolated s 9 = false → Effects (.mnsTestGo dt 0 (2 ^ 31 + x)) s (fun v => v.flt.raised = [(0, none)] ∧ at_ haf v)))
    ∧ (x < 2 ^ 31 → Open s 0xA00030 → rd s AST_TEST_GO = 0 →
        (isolated s 10 = true → Completes (.astTestGo dt 0 (2 ^ 31 + x)) s (fun t => rd t AST_TEST_GO = 1 ∧ rd t AST_TESTRES_DONE = 0 ∧ t.ast = { s.ast with testRun := true }
          ∧ at_ [AST_TEST_GO, AST_TESTRES_DONE] t))
        ∧ (isolated s 10 = false → Effects (.astTestGo dt 0 (2 ^ 31 + x)) s (fun v => v.flt.raised = [(0, none)] ∧ at_ haf v)))
    ∧ (x < 2 ^ 31 → Open s 0xB00900 → rd s SCH_TEST_GO = 0 →
        (isolated s 11 = true → Completes (.schTestGo dt 0 (2 ^ 31 + x)) s (fun t => rd t SCH_TEST_GO = 1 ∧ rd t SCH_TESTRES_DONE = 0 ∧ t.sch = { s.sch with testEnd := some (s.now + dt + x % 2 ^ 16 * usU) }
          ∧ at_ [SCH_TEST_GO, SCH_TESTRES_DONE, SCH_TEST_DELAY] t))
        ∧ (isolated s 11 = false → Effects (.schTestGo dt 0 (2 ^ 31 + x)) s (fun v => v.flt.raised = [(0, none)] ∧ at_ haf v)))
    ∧ (x < 2 ^ 31 → Open s 0xC00040 → rd s PTP_TEST_GO = 0 →
        (isolated s 12 = true → Completes (.ptpTestGo dt 0 (2 ^ 31 + x)) s (fun t => rd t PTP_TEST_GO = 1 ∧ rd t PTP_TESTRES_DONE = 0 ∧ t.ptp = { s.ptp with testRun := true }
          ∧ at_ [PTP_TEST_GO, PTP_TESTRES_DONE, PTP_TEST_PORT] t))
        ∧ (isolated s 12 = false → Effects (.ptpTestGo dt 0 (2 ^ 31 + x)) s (fun v => v.flt.raised = [(0, none)] ∧ at_ haf v)))
    ∧ (x < 2 ^ 31 → Open s 0xD001AC → rd s CRL_TEST_GO = 0 →
        (isolated s 13 = true → Completes (.crlTestGo dt 0 (2 ^ 31 + x)) s (fun t => rd t CRL_TEST_GO = 1 ∧ rd t CRL_TESTRES_DONE = 0 ∧ t.crl = s.crl
          ∧ at_ [CRL_TEST_GO, CRL_TESTRES_DONE, CRL_TEST_EXT, CRL_TEST_LINK, CRL_TEST_COUNT] t))
        ∧ (isolated s 13 = false → Effects (.crlTestGo dt 0 (2 ^ 31 + x)) s (fun v => v.flt.raised = [(0, none)] ∧ at_ haf v)))
    ∧ (x < 2 ^ 31 → Open s 0xE00020 → rd s NVM_TEST_GO = 0 →
        (isolated s 14 = true → marchOk s (x % 2 ^ 11) (x / 2 ^ 16 % 2 ^ 11) = true → Completes (.nvmTestGo dt 0 (2 ^ 31 + x)) s (fun t => rd t NVM_TEST_GO = 1 ∧ rd t NVM_TESTRES_DONE = 0 ∧ rd t NVM_TESTRES_STOPPED = 0 ∧ t.nvm = { s.nvm with testRun := true }
          ∧ at_ [NVM_TEST_GO, NVM_TESTRES_DONE, NVM_TEST_LAST, NVM_TEST_FIRST, NVM_TESTRES_STOPPED] t))
        ∧ (isolated s 14 = false → Effects (.nvmTestGo dt 0 (2 ^ 31 + x)) s (fun v => v.flt.raised = [(0, none)] ∧ at_ haf v)))
    ∧ (x < 2 ^ 31 → Open s 0x500610 → rd s PMU_TEST_GO = 0 →
        (isolated s 5 = true → x < 2 ^ 28 →
          let b := x / 2 ^ 24 % 16
          let sep := x % 2 ^ 12
          let r := match_ b sep
          Completes (.testPair dt 0 (2 ^ 31 + x) cs cp) s (fun t => rd t PMU_TEST_GO = 0 ∧ r t ∧ at_ [PMU_TEST_GO, PMU_TEST_UNIT, PMU_TEST_SEP, PMU_TESTRES_RESULT] t))
        ∧ (isolated s 5 = false → Effects (.testPair dt 0 (2 ^ 31 + x) cs cp) s (fun v => v.flt.raised = [(0, none)] ∧ at_ haf v)))
    ∧ (rd s SYN_TEST_GO = 0 → Completes (.synTestDone dt (if lock then some ok else none) n m) s (at_ []))
    ∧ (rd s SYN_TEST_GO = 1 → k < 4 →
        let frame : List Fld := [SYN_TEST_GO, SYN_TESTRES_DONE, SYN_TESTRES_PASS, SYN_TESTRES_NFAIL, SYN_TESTRES_SPUR]
        let st := rd s (SYN_SYNk_STAT_STATE k)
        let res (fs : List Fld) (t : State) : Prop := rd t SYN_TEST_GO = 0 ∧ rd t SYN_TESTRES_DONE = 1 ∧ rd t SYN_TESTRES_PASS = b2n (lock && ok && n == 0)
          ∧ rd t SYN_TESTRES_NFAIL = min 255 n ∧ rd t SYN_TESTRES_SPUR = min 65535 m ∧ at_ (frame ++ fs) t
        (st ≠ 5 → Completes (.synTestDone dt (if lock then some ok else none) n m) s (res []))
        ∧ (st = 5 → rd s (SYN_SYNk_CFG_EN k) = 0 → Leads (.synTestDone dt (if lock then some ok else none) n m) s (putSynState k 0) (fun u => res [] u ∧ u.flt.raised = []))
        ∧ (st = 5 → rd s (SYN_SYNk_CFG_EN k) = 1 →
          (lock = false → Leads (.synTestDone dt (if lock then some ok else none) n m) s (synFail k) (fun u => res [] u ∧ u.flt.raised = []))
          ∧ (lock = true → Leads (.synTestDone dt (if lock then some ok else none) n m) s
            (fun u => commitWake k (alignSyn k (modSyn k (fun x => { x with ever := true }) (u |> putSynState k 3 |> put (SYN_SYNk_EVT_LOCK k) 1))))
            (fun u => res [] u ∧ u.flt.raised = [])))
        ∧ (st = 5 → (synFail k s).flt.raised = s.flt.raised ++ [(34, some k)] ∧ rd (synFail k s) (SYN_SYNk_STAT_STATE k) = 7))
    ∧ (s.mns.testEnd = none → exec (.mnsTestDone err) s = .next s)
    ∧ (∀ e, s.mns.testEnd = some e → Completes (.mnsTestDone err) s (fun t => rd t MNS_TEST_GO = 0 ∧ rd t MNS_TESTRES_DONE = 1 ∧ rdS t MNS_TESTRES_MEAN = satS 24 err
        ∧ rd t MNS_TESTRES_PASS = (if (err - 4194304).natAbs ≤ 20972 then 1 else 0) ∧ t.mns = { s.mns with testEnd := none } ∧ t.now = max s.now e
        ∧ RegsBut [MNS_TEST_GO, MNS_TESTRES_DONE, MNS_TESTRES_PASS, MNS_TESTRES_MEAN] s t ∧ StoresSame s t))
    ∧ (s.ast.testRun = false → Completes (.astTestDone dt bad) s (fun t => t.ast = s.ast ∧ at_ [] t))
    ∧ (s.ast.testRun = true → Completes (.astTestDone dt bad) s (fun t => rd t AST_TEST_GO = 0 ∧ rd t AST_TESTRES_DONE = 1 ∧ rd t AST_TESTRES_PASS = b2n bad.isNone
        ∧ rd t AST_TESTRES_FIRST = bad.getD 0 % 2 ^ 5 ∧ t.ast = { s.ast with testRun := false } ∧ at_ [AST_TEST_GO, AST_TESTRES_DONE, AST_TESTRES_PASS, AST_TESTRES_FIRST] t))
    ∧ (s.sch.testEnd = none → exec (.schTestDone err) s = .next s)
    ∧ (∀ e, s.sch.testEnd = some e → -32768 ≤ err → err ≤ 32767 → Completes (.schTestDone err) s (fun t => rd t SCH_TEST_GO = 0 ∧ rd t SCH_TESTRES_DONE = 1
        ∧ rdS t SCH_TESTRES_ERR = err ∧ t.sch = { s.sch with testEnd := none } ∧ t.now = max s.now e ∧ RegsBut [SCH_TEST_GO, SCH_TESTRES_DONE, SCH_TESTRES_ERR] s t ∧ StoresSame s t))
    ∧ (s.ptp.testRun = false → Completes (.ptpTestDone dt err) s (fun t => t.ptp = s.ptp ∧ at_ [] t))
    ∧ (s.ptp.testRun = true → Completes (.ptpTestDone dt err) s (fun t => rd t PTP_TEST_GO = 0 ∧ rd t PTP_TESTRES_DONE = 1 ∧ rdS t PTP_TESTRES_ERR = satS 16 err
        ∧ rd t PTP_TESTRES_PASS = (if err.natAbs ≤ 500 then 1 else 0) ∧ t.ptp = { s.ptp with testRun := false }
        ∧ at_ [PTP_TEST_GO, PTP_TESTRES_DONE, PTP_TESTRES_ERR, PTP_TESTRES_PASS] t))
    ∧ (rd s CRL_TEST_GO = 0 → Completes (.crlTestDone dt ok n) s (at_ []))
    ∧ (rd s CRL_TEST_GO = 1 → Completes (.crlTestDone dt ok n) s (fun t => rd t CRL_TEST_GO = 0 ∧ rd t CRL_TESTRES_DONE = 1 ∧ rd t CRL_TESTRES_PASS = b2n ok
        ∧ rd t CRL_TESTRES_LOOP = min n 65535 ∧ at_ [CRL_TEST_GO, CRL_TESTRES_DONE, CRL_TESTRES_PASS, CRL_TESTRES_LOOP] t))
    ∧ (s.nvm.testRun = false → Completes (.nvmTestDone dt bad) s (fun t => t.nvm = s.nvm ∧ at_ [] t))
    ∧ (s.nvm.testRun = true → Completes (.nvmTestDone dt bad) s (fun t => rd t NVM_TEST_GO = 0 ∧ rd t NVM_TESTRES_DONE = 1 ∧ rd t NVM_TESTRES_PASS = b2n bad.isNone
        ∧ rd t NVM_TESTRES_STOPPED = 0 ∧ rd t NVM_TESTRES_FAILPAGE = bad.getD 0 % 2 ^ 11 ∧ t.nvm = { s.nvm with testRun := false }
        ∧ at_ [NVM_TEST_GO, NVM_TESTRES_DONE, NVM_TESTRES_PASS, NVM_TESTRES_STOPPED, NVM_TESTRES_FAILPAGE] t))
end

