-- ==== Sys2Proof/Laws/State.lean ====
section
/-! SUPPORT. What each update of State leaves as it was and what it changes: one lemma per field and update. -/

namespace Sys2Proof.Machine

/-! ### put -/

@[simp] theorem put_pending (f : Fld) (v : Nat) (s : State) : (put f v s).pending = s.pending := (rfl)
@[simp] theorem put_now (f : Fld) (v : Nat) (s : State) : (put f v s).now = s.now := (rfl)
@[simp] theorem put_tod (f : Fld) (v : Nat) (s : State) : (put f v s).tod = s.tod := (rfl)
theorem put_regs (f : Fld) (v : Nat) (s : State) : (put f v s).regs = tabPut s.regs (fldKey f) (v % 2 ^ fldWidth f) (resetOf (fldKey f)) := (rfl)
theorem put_cyc (f : Fld) (v : Nat) (s : State) : (put f v s).cyc = if fldWidth f = 1 ∧ v % 2 = 1 then { s.cyc with set := tabPut s.cyc.set (fldKey f) 1 0 } else s.cyc := (rfl)
@[simp] theorem put_free (f : Fld) (v : Nat) (s : State) : (put f v s).free = s.free := (rfl)
@[simp] theorem put_mram (f : Fld) (v : Nat) (s : State) : (put f v s).mram = s.mram := (rfl)
@[simp] theorem put_mramJ (f : Fld) (v : Nat) (s : State) : (put f v s).mramJ = s.mramJ := (rfl)
@[simp] theorem put_cram (f : Fld) (v : Nat) (s : State) : (put f v s).cram = s.cram := (rfl)
@[simp] theorem put_otp (f : Fld) (v : Nat) (s : State) : (put f v s).otp = s.otp := (rfl)
@[simp] theorem put_tempHeld (f : Fld) (v : Nat) (s : State) : (put f v s).tempHeld = s.tempHeld := (rfl)
@[simp] theorem put_tempAt (f : Fld) (v : Nat) (s : State) : (put f v s).tempAt = s.tempAt := (rfl)
@[simp] theorem put_tempStuck (f : Fld) (v : Nat) (s : State) : (put f v s).tempStuck = s.tempStuck := (rfl)
@[simp] theorem put_minAt (f : Fld) (v : Nat) (s : State) : (put f v s).minAt = s.minAt := (rfl)
@[simp] theorem put_gen (f : Fld) (v : Nat) (s : State) : (put f v s).gen = s.gen := (rfl)
@[simp] theorem put_rst (f : Fld) (v : Nat) (s : State) : (put f v s).rst = s.rst := (rfl)
@[simp] theorem put_flt (f : Fld) (v : Nat) (s : State) : (put f v s).flt = s.flt := (rfl)
@[simp] theorem put_host (f : Fld) (v : Nat) (s : State) : (put f v s).host = s.host := (rfl)
@[simp] theorem put_aon (f : Fld) (v : Nat) (s : State) : (put f v s).aon = s.aon := (rfl)
@[simp] theorem put_img (f : Fld) (v : Nat) (s : State) : (put f v s).img = s.img := (rfl)
@[simp] theorem put_clk (f : Fld) (v : Nat) (s : State) : (put f v s).clk = s.clk := (rfl)
@[simp] theorem put_pin (f : Fld) (v : Nat) (s : State) : (put f v s).pin = s.pin := (rfl)
@[simp] theorem put_todr (f : Fld) (v : Nat) (s : State) : (put f v s).todr = s.todr := (rfl)
@[simp] theorem put_todWas (f : Fld) (v : Nat) (s : State) : (put f v s).todWas = s.todWas := (rfl)
@[simp] theorem put_slot (f : Fld) (v : Nat) (s : State) : (put f v s).slot = s.slot := (rfl)
@[simp] theorem put_pmu (f : Fld) (v : Nat) (s : State) : (put f v s).pmu = s.pmu := (rfl)
@[simp] theorem put_slice (f : Fld) (v : Nat) (s : State) : (put f v s).slice = s.slice := (rfl)
@[simp] theorem put_unit (f : Fld) (v : Nat) (s : State) : (put f v s).unit = s.unit := (rfl)
@[simp] theorem put_sel (f : Fld) (v : Nat) (s : State) : (put f v s).sel = s.sel := (rfl)
@[simp] theorem put_selWas (f : Fld) (v : Nat) (s : State) : (put f v s).selWas = s.selWas := (rfl)
@[simp] theorem put_dpll (f : Fld) (v : Nat) (s : State) : (put f v s).dpll = s.dpll := (rfl)
@[simp] theorem put_est (f : Fld) (v : Nat) (s : State) : (put f v s).est = s.est := (rfl)
@[simp] theorem put_syn (f : Fld) (v : Nat) (s : State) : (put f v s).syn = s.syn := (rfl)
@[simp] theorem put_out (f : Fld) (v : Nat) (s : State) : (put f v s).out = s.out := (rfl)
@[simp] theorem put_commit (f : Fld) (v : Nat) (s : State) : (put f v s).commit = s.commit := (rfl)
@[simp] theorem put_tkp (f : Fld) (v : Nat) (s : State) : (put f v s).tkp = s.tkp := (rfl)
@[simp] theorem put_mns (f : Fld) (v : Nat) (s : State) : (put f v s).mns = s.mns := (rfl)
@[simp] theorem put_nvm (f : Fld) (v : Nat) (s : State) : (put f v s).nvm = s.nvm := (rfl)
@[simp] theorem put_sec (f : Fld) (v : Nat) (s : State) : (put f v s).sec = s.sec := (rfl)
@[simp] theorem put_ast (f : Fld) (v : Nat) (s : State) : (put f v s).ast = s.ast := (rfl)
@[simp] theorem put_sch (f : Fld) (v : Nat) (s : State) : (put f v s).sch = s.sch := (rfl)
@[simp] theorem put_crl (f : Fld) (v : Nat) (s : State) : (put f v s).crl = s.crl := (rfl)
@[simp] theorem put_ptp (f : Fld) (v : Nat) (s : State) : (put f v s).ptp = s.ptp := (rfl)

/-! ### putIn -/

@[simp] theorem putIn_pending (b : Nat) (f : Fld) (v : Nat) (s : State) : (putIn b f v s).pending = s.pending := (rfl)
@[simp] theorem putIn_now (b : Nat) (f : Fld) (v : Nat) (s : State) : (putIn b f v s).now = s.now := (rfl)
@[simp] theorem putIn_tod (b : Nat) (f : Fld) (v : Nat) (s : State) : (putIn b f v s).tod = s.tod := (rfl)
theorem putIn_regs (b : Nat) (f : Fld) (v : Nat) (s : State) : (putIn b f v s).regs = tabPut s.regs (bankKey b f) (v % 2 ^ fldWidth f) 0 := (rfl)
@[simp] theorem putIn_cyc (b : Nat) (f : Fld) (v : Nat) (s : State) : (putIn b f v s).cyc = s.cyc := (rfl)
@[simp] theorem putIn_free (b : Nat) (f : Fld) (v : Nat) (s : State) : (putIn b f v s).free = s.free := (rfl)
@[simp] theorem putIn_mram (b : Nat) (f : Fld) (v : Nat) (s : State) : (putIn b f v s).mram = s.mram := (rfl)
@[simp] theorem putIn_mramJ (b : Nat) (f : Fld) (v : Nat) (s : State) : (putIn b f v s).mramJ = s.mramJ := (rfl)
@[simp] theorem putIn_cram (b : Nat) (f : Fld) (v : Nat) (s : State) : (putIn b f v s).cram = s.cram := (rfl)
@[simp] theorem putIn_otp (b : Nat) (f : Fld) (v : Nat) (s : State) : (putIn b f v s).otp = s.otp := (rfl)
@[simp] theorem putIn_tempHeld (b : Nat) (f : Fld) (v : Nat) (s : State) : (putIn b f v s).tempHeld = s.tempHeld := (rfl)
@[simp] theorem putIn_tempAt (b : Nat) (f : Fld) (v : Nat) (s : State) : (putIn b f v s).tempAt = s.tempAt := (rfl)
@[simp] theorem putIn_tempStuck (b : Nat) (f : Fld) (v : Nat) (s : State) : (putIn b f v s).tempStuck = s.tempStuck := (rfl)
@[simp] theorem putIn_minAt (b : Nat) (f : Fld) (v : Nat) (s : State) : (putIn b f v s).minAt = s.minAt := (rfl)
@[simp] theorem putIn_gen (b : Nat) (f : Fld) (v : Nat) (s : State) : (putIn b f v s).gen = s.gen := (rfl)
@[simp] theorem putIn_rst (b : Nat) (f : Fld) (v : Nat) (s : State) : (putIn b f v s).rst = s.rst := (rfl)
@[simp] theorem putIn_flt (b : Nat) (f : Fld) (v : Nat) (s : State) : (putIn b f v s).flt = s.flt := (rfl)
@[simp] theorem putIn_host (b : Nat) (f : Fld) (v : Nat) (s : State) : (putIn b f v s).host = s.host := (rfl)
@[simp] theorem putIn_aon (b : Nat) (f : Fld) (v : Nat) (s : State) : (putIn b f v s).aon = s.aon := (rfl)
@[simp] theorem putIn_img (b : Nat) (f : Fld) (v : Nat) (s : State) : (putIn b f v s).img = s.img := (rfl)
@[simp] theorem putIn_clk (b : Nat) (f : Fld) (v : Nat) (s : State) : (putIn b f v s).clk = s.clk := (rfl)
@[simp] theorem putIn_pin (b : Nat) (f : Fld) (v : Nat) (s : State) : (putIn b f v s).pin = s.pin := (rfl)
@[simp] theorem putIn_todr (b : Nat) (f : Fld) (v : Nat) (s : State) : (putIn b f v s).todr = s.todr := (rfl)
@[simp] theorem putIn_todWas (b : Nat) (f : Fld) (v : Nat) (s : State) : (putIn b f v s).todWas = s.todWas := (rfl)
@[simp] theorem putIn_slot (b : Nat) (f : Fld) (v : Nat) (s : State) : (putIn b f v s).slot = s.slot := (rfl)
@[simp] theorem putIn_pmu (b : Nat) (f : Fld) (v : Nat) (s : State) : (putIn b f v s).pmu = s.pmu := (rfl)
@[simp] theorem putIn_slice (b : Nat) (f : Fld) (v : Nat) (s : State) : (putIn b f v s).slice = s.slice := (rfl)
@[simp] theorem putIn_unit (b : Nat) (f : Fld) (v : Nat) (s : State) : (putIn b f v s).unit = s.unit := (rfl)
@[simp] theorem putIn_sel (b : Nat) (f : Fld) (v : Nat) (s : State) : (putIn b f v s).sel = s.sel := (rfl)
@[simp] theorem putIn_selWas (b : Nat) (f : Fld) (v : Nat) (s : State) : (putIn b f v s).selWas = s.selWas := (rfl)
@[simp] theorem putIn_dpll (b : Nat) (f : Fld) (v : Nat) (s : State) : (putIn b f v s).dpll = s.dpll := (rfl)
@[simp] theorem putIn_est (b : Nat) (f : Fld) (v : Nat) (s : State) : (putIn b f v s).est = s.est := (rfl)
@[simp] theorem putIn_syn (b : Nat) (f : Fld) (v : Nat) (s : State) : (putIn b f v s).syn = s.syn := (rfl)
@[simp] theorem putIn_out (b : Nat) (f : Fld) (v : Nat) (s : State) : (putIn b f v s).out = s.out := (rfl)
@[simp] theorem putIn_commit (b : Nat) (f : Fld) (v : Nat) (s : State) : (putIn b f v s).commit = s.commit := (rfl)
@[simp] theorem putIn_tkp (b : Nat) (f : Fld) (v : Nat) (s : State) : (putIn b f v s).tkp = s.tkp := (rfl)
@[simp] theorem putIn_mns (b : Nat) (f : Fld) (v : Nat) (s : State) : (putIn b f v s).mns = s.mns := (rfl)
@[simp] theorem putIn_nvm (b : Nat) (f : Fld) (v : Nat) (s : State) : (putIn b f v s).nvm = s.nvm := (rfl)
@[simp] theorem putIn_sec (b : Nat) (f : Fld) (v : Nat) (s : State) : (putIn b f v s).sec = s.sec := (rfl)
@[simp] theorem putIn_ast (b : Nat) (f : Fld) (v : Nat) (s : State) : (putIn b f v s).ast = s.ast := (rfl)
@[simp] theorem putIn_sch (b : Nat) (f : Fld) (v : Nat) (s : State) : (putIn b f v s).sch = s.sch := (rfl)
@[simp] theorem putIn_crl (b : Nat) (f : Fld) (v : Nat) (s : State) : (putIn b f v s).crl = s.crl := (rfl)
@[simp] theorem putIn_ptp (b : Nat) (f : Fld) (v : Nat) (s : State) : (putIn b f v s).ptp = s.ptp := (rfl)

/-! ### putCram -/

@[simp] theorem putCram_pending (i v : Nat) (s : State) : (putCram i v s).pending = s.pending := (rfl)
@[simp] theorem putCram_now (i v : Nat) (s : State) : (putCram i v s).now = s.now := (rfl)
@[simp] theorem putCram_tod (i v : Nat) (s : State) : (putCram i v s).tod = s.tod := (rfl)
@[simp] theorem putCram_regs (i v : Nat) (s : State) : (putCram i v s).regs = s.regs := (rfl)
@[simp] theorem putCram_cyc (i v : Nat) (s : State) : (putCram i v s).cyc = s.cyc := (rfl)
@[simp] theorem putCram_free (i v : Nat) (s : State) : (putCram i v s).free = s.free := (rfl)
@[simp] theorem putCram_mram (i v : Nat) (s : State) : (putCram i v s).mram = s.mram := (rfl)
@[simp] theorem putCram_mramJ (i v : Nat) (s : State) : (putCram i v s).mramJ = s.mramJ := (rfl)
@[simp] theorem putCram_cram (i v : Nat) (s : State) : (putCram i v s).cram = tabPut s.cram i (v % 2 ^ 32) 0 := (rfl)
@[simp] theorem putCram_otp (i v : Nat) (s : State) : (putCram i v s).otp = s.otp := (rfl)
@[simp] theorem putCram_tempHeld (i v : Nat) (s : State) : (putCram i v s).tempHeld = s.tempHeld := (rfl)
@[simp] theorem putCram_tempAt (i v : Nat) (s : State) : (putCram i v s).tempAt = s.tempAt := (rfl)
@[simp] theorem putCram_tempStuck (i v : Nat) (s : State) : (putCram i v s).tempStuck = s.tempStuck := (rfl)
@[simp] theorem putCram_minAt (i v : Nat) (s : State) : (putCram i v s).minAt = s.minAt := (rfl)
@[simp] theorem putCram_gen (i v : Nat) (s : State) : (putCram i v s).gen = s.gen := (rfl)
@[simp] theorem putCram_rst (i v : Nat) (s : State) : (putCram i v s).rst = s.rst := (rfl)
@[simp] theorem putCram_flt (i v : Nat) (s : State) : (putCram i v s).flt = s.flt := (rfl)
@[simp] theorem putCram_host (i v : Nat) (s : State) : (putCram i v s).host = s.host := (rfl)
@[simp] theorem putCram_aon (i v : Nat) (s : State) : (putCram i v s).aon = s.aon := (rfl)
@[simp] theorem putCram_img (i v : Nat) (s : State) : (putCram i v s).img = s.img := (rfl)
@[simp] theorem putCram_clk (i v : Nat) (s : State) : (putCram i v s).clk = s.clk := (rfl)
@[simp] theorem putCram_pin (i v : Nat) (s : State) : (putCram i v s).pin = s.pin := (rfl)
@[simp] theorem putCram_todr (i v : Nat) (s : State) : (putCram i v s).todr = s.todr := (rfl)
@[simp] theorem putCram_todWas (i v : Nat) (s : State) : (putCram i v s).todWas = s.todWas := (rfl)
@[simp] theorem putCram_slot (i v : Nat) (s : State) : (putCram i v s).slot = s.slot := (rfl)
@[simp] theorem putCram_pmu (i v : Nat) (s : State) : (putCram i v s).pmu = s.pmu := (rfl)
@[simp] theorem putCram_slice (i v : Nat) (s : State) : (putCram i v s).slice = s.slice := (rfl)
@[simp] theorem putCram_unit (i v : Nat) (s : State) : (putCram i v s).unit = s.unit := (rfl)
@[simp] theorem putCram_sel (i v : Nat) (s : State) : (putCram i v s).sel = s.sel := (rfl)
@[simp] theorem putCram_selWas (i v : Nat) (s : State) : (putCram i v s).selWas = s.selWas := (rfl)
@[simp] theorem putCram_dpll (i v : Nat) (s : State) : (putCram i v s).dpll = s.dpll := (rfl)
@[simp] theorem putCram_est (i v : Nat) (s : State) : (putCram i v s).est = s.est := (rfl)
@[simp] theorem putCram_syn (i v : Nat) (s : State) : (putCram i v s).syn = s.syn := (rfl)
@[simp] theorem putCram_out (i v : Nat) (s : State) : (putCram i v s).out = s.out := (rfl)
@[simp] theorem putCram_commit (i v : Nat) (s : State) : (putCram i v s).commit = s.commit := (rfl)
@[simp] theorem putCram_tkp (i v : Nat) (s : State) : (putCram i v s).tkp = s.tkp := (rfl)
@[simp] theorem putCram_mns (i v : Nat) (s : State) : (putCram i v s).mns = s.mns := (rfl)
@[simp] theorem putCram_nvm (i v : Nat) (s : State) : (putCram i v s).nvm = s.nvm := (rfl)
@[simp] theorem putCram_sec (i v : Nat) (s : State) : (putCram i v s).sec = s.sec := (rfl)
@[simp] theorem putCram_ast (i v : Nat) (s : State) : (putCram i v s).ast = s.ast := (rfl)
@[simp] theorem putCram_sch (i v : Nat) (s : State) : (putCram i v s).sch = s.sch := (rfl)
@[simp] theorem putCram_crl (i v : Nat) (s : State) : (putCram i v s).crl = s.crl := (rfl)
@[simp] theorem putCram_ptp (i v : Nat) (s : State) : (putCram i v s).ptp = s.ptp := (rfl)

/-! ### mwr -/

@[simp] theorem mwr_pending (a : Nat) (l : List Byte) (s : State) : (mwr a l s).pending = s.pending := (rfl)
@[simp] theorem mwr_now (a : Nat) (l : List Byte) (s : State) : (mwr a l s).now = s.now := (rfl)
@[simp] theorem mwr_tod (a : Nat) (l : List Byte) (s : State) : (mwr a l s).tod = s.tod := (rfl)
@[simp] theorem mwr_regs (a : Nat) (l : List Byte) (s : State) : (mwr a l s).regs = s.regs := (rfl)
@[simp] theorem mwr_cyc (a : Nat) (l : List Byte) (s : State) : (mwr a l s).cyc = s.cyc := (rfl)
@[simp] theorem mwr_free (a : Nat) (l : List Byte) (s : State) : (mwr a l s).free = s.free := (rfl)
@[simp] theorem mwr_mram (a : Nat) (l : List Byte) (s : State) : (mwr a l s).mram = s.mram := (rfl)
@[simp] theorem mwr_mramJ (a : Nat) (l : List Byte) (s : State) : (mwr a l s).mramJ = s.mramJ ++ (l.mapIdx (fun i b => (a + i, b))) := (rfl)
@[simp] theorem mwr_cram (a : Nat) (l : List Byte) (s : State) : (mwr a l s).cram = s.cram := (rfl)
@[simp] theorem mwr_otp (a : Nat) (l : List Byte) (s : State) : (mwr a l s).otp = s.otp := (rfl)
@[simp] theorem mwr_tempHeld (a : Nat) (l : List Byte) (s : State) : (mwr a l s).tempHeld = s.tempHeld := (rfl)
@[simp] theorem mwr_tempAt (a : Nat) (l : List Byte) (s : State) : (mwr a l s).tempAt = s.tempAt := (rfl)
@[simp] theorem mwr_tempStuck (a : Nat) (l : List Byte) (s : State) : (mwr a l s).tempStuck = s.tempStuck := (rfl)
@[simp] theorem mwr_minAt (a : Nat) (l : List Byte) (s : State) : (mwr a l s).minAt = s.minAt := (rfl)
@[simp] theorem mwr_gen (a : Nat) (l : List Byte) (s : State) : (mwr a l s).gen = s.gen := (rfl)
@[simp] theorem mwr_rst (a : Nat) (l : List Byte) (s : State) : (mwr a l s).rst = s.rst := (rfl)
@[simp] theorem mwr_flt (a : Nat) (l : List Byte) (s : State) : (mwr a l s).flt = s.flt := (rfl)
@[simp] theorem mwr_host (a : Nat) (l : List Byte) (s : State) : (mwr a l s).host = s.host := (rfl)
@[simp] theorem mwr_aon (a : Nat) (l : List Byte) (s : State) : (mwr a l s).aon = s.aon := (rfl)
@[simp] theorem mwr_img (a : Nat) (l : List Byte) (s : State) : (mwr a l s).img = s.img := (rfl)
@[simp] theorem mwr_clk (a : Nat) (l : List Byte) (s : State) : (mwr a l s).clk = s.clk := (rfl)
@[simp] theorem mwr_pin (a : Nat) (l : List Byte) (s : State) : (mwr a l s).pin = s.pin := (rfl)
@[simp] theorem mwr_todr (a : Nat) (l : List Byte) (s : State) : (mwr a l s).todr = s.todr := (rfl)
@[simp] theorem mwr_todWas (a : Nat) (l : List Byte) (s : State) : (mwr a l s).todWas = s.todWas := (rfl)
@[simp] theorem mwr_slot (a : Nat) (l : List Byte) (s : State) : (mwr a l s).slot = s.slot := (rfl)
@[simp] theorem mwr_pmu (a : Nat) (l : List Byte) (s : State) : (mwr a l s).pmu = s.pmu := (rfl)
@[simp] theorem mwr_slice (a : Nat) (l : List Byte) (s : State) : (mwr a l s).slice = s.slice := (rfl)
@[simp] theorem mwr_unit (a : Nat) (l : List Byte) (s : State) : (mwr a l s).unit = s.unit := (rfl)
@[simp] theorem mwr_sel (a : Nat) (l : List Byte) (s : State) : (mwr a l s).sel = s.sel := (rfl)
@[simp] theorem mwr_selWas (a : Nat) (l : List Byte) (s : State) : (mwr a l s).selWas = s.selWas := (rfl)
@[simp] theorem mwr_dpll (a : Nat) (l : List Byte) (s : State) : (mwr a l s).dpll = s.dpll := (rfl)
@[simp] theorem mwr_est (a : Nat) (l : List Byte) (s : State) : (mwr a l s).est = s.est := (rfl)
@[simp] theorem mwr_syn (a : Nat) (l : List Byte) (s : State) : (mwr a l s).syn = s.syn := (rfl)
@[simp] theorem mwr_out (a : Nat) (l : List Byte) (s : State) : (mwr a l s).out = s.out := (rfl)
@[simp] theorem mwr_commit (a : Nat) (l : List Byte) (s : State) : (mwr a l s).commit = s.commit := (rfl)
@[simp] theorem mwr_tkp (a : Nat) (l : List Byte) (s : State) : (mwr a l s).tkp = s.tkp := (rfl)
@[simp] theorem mwr_mns (a : Nat) (l : List Byte) (s : State) : (mwr a l s).mns = s.mns := (rfl)
@[simp] theorem mwr_nvm (a : Nat) (l : List Byte) (s : State) : (mwr a l s).nvm = s.nvm := (rfl)
@[simp] theorem mwr_sec (a : Nat) (l : List Byte) (s : State) : (mwr a l s).sec = s.sec := (rfl)
@[simp] theorem mwr_ast (a : Nat) (l : List Byte) (s : State) : (mwr a l s).ast = s.ast := (rfl)
@[simp] theorem mwr_sch (a : Nat) (l : List Byte) (s : State) : (mwr a l s).sch = s.sch := (rfl)
@[simp] theorem mwr_crl (a : Nat) (l : List Byte) (s : State) : (mwr a l s).crl = s.crl := (rfl)
@[simp] theorem mwr_ptp (a : Nat) (l : List Byte) (s : State) : (mwr a l s).ptp = s.ptp := (rfl)

/-! ### raise -/

@[simp] theorem raise_pending (i : Nat) (j : Option Nat) (s : State) : (raise i j s).pending = s.pending := (rfl)
@[simp] theorem raise_now (i : Nat) (j : Option Nat) (s : State) : (raise i j s).now = s.now := (rfl)
@[simp] theorem raise_tod (i : Nat) (j : Option Nat) (s : State) : (raise i j s).tod = s.tod := (rfl)
@[simp] theorem raise_regs (i : Nat) (j : Option Nat) (s : State) : (raise i j s).regs = s.regs := (rfl)
@[simp] theorem raise_cyc (i : Nat) (j : Option Nat) (s : State) : (raise i j s).cyc = s.cyc := (rfl)
@[simp] theorem raise_free (i : Nat) (j : Option Nat) (s : State) : (raise i j s).free = s.free := (rfl)
@[simp] theorem raise_mram (i : Nat) (j : Option Nat) (s : State) : (raise i j s).mram = s.mram := (rfl)
@[simp] theorem raise_mramJ (i : Nat) (j : Option Nat) (s : State) : (raise i j s).mramJ = s.mramJ := (rfl)
@[simp] theorem raise_cram (i : Nat) (j : Option Nat) (s : State) : (raise i j s).cram = s.cram := (rfl)
@[simp] theorem raise_otp (i : Nat) (j : Option Nat) (s : State) : (raise i j s).otp = s.otp := (rfl)
@[simp] theorem raise_tempHeld (i : Nat) (j : Option Nat) (s : State) : (raise i j s).tempHeld = s.tempHeld := (rfl)
@[simp] theorem raise_tempAt (i : Nat) (j : Option Nat) (s : State) : (raise i j s).tempAt = s.tempAt := (rfl)
@[simp] theorem raise_tempStuck (i : Nat) (j : Option Nat) (s : State) : (raise i j s).tempStuck = s.tempStuck := (rfl)
@[simp] theorem raise_minAt (i : Nat) (j : Option Nat) (s : State) : (raise i j s).minAt = s.minAt := (rfl)
@[simp] theorem raise_gen (i : Nat) (j : Option Nat) (s : State) : (raise i j s).gen = s.gen := (rfl)
@[simp] theorem raise_rst (i : Nat) (j : Option Nat) (s : State) : (raise i j s).rst = s.rst := (rfl)
@[simp] theorem raise_flt (i : Nat) (j : Option Nat) (s : State) : (raise i j s).flt = { s.flt with raised := s.flt.raised ++ [(i, j)] } := (rfl)
@[simp] theorem raise_host (i : Nat) (j : Option Nat) (s : State) : (raise i j s).host = s.host := (rfl)
@[simp] theorem raise_aon (i : Nat) (j : Option Nat) (s : State) : (raise i j s).aon = s.aon := (rfl)
@[simp] theorem raise_img (i : Nat) (j : Option Nat) (s : State) : (raise i j s).img = s.img := (rfl)
@[simp] theorem raise_clk (i : Nat) (j : Option Nat) (s : State) : (raise i j s).clk = s.clk := (rfl)
@[simp] theorem raise_pin (i : Nat) (j : Option Nat) (s : State) : (raise i j s).pin = s.pin := (rfl)
@[simp] theorem raise_todr (i : Nat) (j : Option Nat) (s : State) : (raise i j s).todr = s.todr := (rfl)
@[simp] theorem raise_todWas (i : Nat) (j : Option Nat) (s : State) : (raise i j s).todWas = s.todWas := (rfl)
@[simp] theorem raise_slot (i : Nat) (j : Option Nat) (s : State) : (raise i j s).slot = s.slot := (rfl)
@[simp] theorem raise_pmu (i : Nat) (j : Option Nat) (s : State) : (raise i j s).pmu = s.pmu := (rfl)
@[simp] theorem raise_slice (i : Nat) (j : Option Nat) (s : State) : (raise i j s).slice = s.slice := (rfl)
@[simp] theorem raise_unit (i : Nat) (j : Option Nat) (s : State) : (raise i j s).unit = s.unit := (rfl)
@[simp] theorem raise_sel (i : Nat) (j : Option Nat) (s : State) : (raise i j s).sel = s.sel := (rfl)
@[simp] theorem raise_selWas (i : Nat) (j : Option Nat) (s : State) : (raise i j s).selWas = s.selWas := (rfl)
@[simp] theorem raise_dpll (i : Nat) (j : Option Nat) (s : State) : (raise i j s).dpll = s.dpll := (rfl)
@[simp] theorem raise_est (i : Nat) (j : Option Nat) (s : State) : (raise i j s).est = s.est := (rfl)
@[simp] theorem raise_syn (i : Nat) (j : Option Nat) (s : State) : (raise i j s).syn = s.syn := (rfl)
@[simp] theorem raise_out (i : Nat) (j : Option Nat) (s : State) : (raise i j s).out = s.out := (rfl)
@[simp] theorem raise_commit (i : Nat) (j : Option Nat) (s : State) : (raise i j s).commit = s.commit := (rfl)
@[simp] theorem raise_tkp (i : Nat) (j : Option Nat) (s : State) : (raise i j s).tkp = s.tkp := (rfl)
@[simp] theorem raise_mns (i : Nat) (j : Option Nat) (s : State) : (raise i j s).mns = s.mns := (rfl)
@[simp] theorem raise_nvm (i : Nat) (j : Option Nat) (s : State) : (raise i j s).nvm = s.nvm := (rfl)
@[simp] theorem raise_sec (i : Nat) (j : Option Nat) (s : State) : (raise i j s).sec = s.sec := (rfl)
@[simp] theorem raise_ast (i : Nat) (j : Option Nat) (s : State) : (raise i j s).ast = s.ast := (rfl)
@[simp] theorem raise_sch (i : Nat) (j : Option Nat) (s : State) : (raise i j s).sch = s.sch := (rfl)
@[simp] theorem raise_crl (i : Nat) (j : Option Nat) (s : State) : (raise i j s).crl = s.crl := (rfl)
@[simp] theorem raise_ptp (i : Nat) (j : Option Nat) (s : State) : (raise i j s).ptp = s.ptp := (rfl)

/-! ### ptpStale -/

@[simp] theorem ptpStale_pending (s : State) : (ptpStale s).pending = s.pending := (rfl)
@[simp] theorem ptpStale_now (s : State) : (ptpStale s).now = s.now := (rfl)
@[simp] theorem ptpStale_tod (s : State) : (ptpStale s).tod = s.tod := (rfl)
@[simp] theorem ptpStale_regs (s : State) : (ptpStale s).regs = s.regs := (rfl)
@[simp] theorem ptpStale_cyc (s : State) : (ptpStale s).cyc = s.cyc := (rfl)
@[simp] theorem ptpStale_free (s : State) : (ptpStale s).free = s.free := (rfl)
@[simp] theorem ptpStale_mram (s : State) : (ptpStale s).mram = s.mram := (rfl)
@[simp] theorem ptpStale_mramJ (s : State) : (ptpStale s).mramJ = s.mramJ := (rfl)
@[simp] theorem ptpStale_cram (s : State) : (ptpStale s).cram = s.cram := (rfl)
@[simp] theorem ptpStale_otp (s : State) : (ptpStale s).otp = s.otp := (rfl)
@[simp] theorem ptpStale_tempHeld (s : State) : (ptpStale s).tempHeld = s.tempHeld := (rfl)
@[simp] theorem ptpStale_tempAt (s : State) : (ptpStale s).tempAt = s.tempAt := (rfl)
@[simp] theorem ptpStale_tempStuck (s : State) : (ptpStale s).tempStuck = s.tempStuck := (rfl)
@[simp] theorem ptpStale_minAt (s : State) : (ptpStale s).minAt = s.minAt := (rfl)
@[simp] theorem ptpStale_gen (s : State) : (ptpStale s).gen = s.gen := (rfl)
@[simp] theorem ptpStale_rst (s : State) : (ptpStale s).rst = s.rst := (rfl)
@[simp] theorem ptpStale_flt (s : State) : (ptpStale s).flt = s.flt := (rfl)
@[simp] theorem ptpStale_host (s : State) : (ptpStale s).host = s.host := (rfl)
@[simp] theorem ptpStale_aon (s : State) : (ptpStale s).aon = s.aon := (rfl)
@[simp] theorem ptpStale_img (s : State) : (ptpStale s).img = s.img := (rfl)
@[simp] theorem ptpStale_clk (s : State) : (ptpStale s).clk = s.clk := (rfl)
@[simp] theorem ptpStale_pin (s : State) : (ptpStale s).pin = s.pin := (rfl)
@[simp] theorem ptpStale_todr (s : State) : (ptpStale s).todr = s.todr := (rfl)
@[simp] theorem ptpStale_todWas (s : State) : (ptpStale s).todWas = s.todWas := (rfl)
@[simp] theorem ptpStale_slot (s : State) : (ptpStale s).slot = s.slot := (rfl)
@[simp] theorem ptpStale_pmu (s : State) : (ptpStale s).pmu = s.pmu := (rfl)
@[simp] theorem ptpStale_slice (s : State) : (ptpStale s).slice = s.slice := (rfl)
@[simp] theorem ptpStale_unit (s : State) : (ptpStale s).unit = s.unit := (rfl)
@[simp] theorem ptpStale_sel (s : State) : (ptpStale s).sel = s.sel := (rfl)
@[simp] theorem ptpStale_selWas (s : State) : (ptpStale s).selWas = s.selWas := (rfl)
@[simp] theorem ptpStale_dpll (s : State) : (ptpStale s).dpll = s.dpll := (rfl)
@[simp] theorem ptpStale_est (s : State) : (ptpStale s).est = s.est := (rfl)
@[simp] theorem ptpStale_syn (s : State) : (ptpStale s).syn = s.syn := (rfl)
@[simp] theorem ptpStale_out (s : State) : (ptpStale s).out = s.out := (rfl)
@[simp] theorem ptpStale_commit (s : State) : (ptpStale s).commit = s.commit := (rfl)
@[simp] theorem ptpStale_tkp (s : State) : (ptpStale s).tkp = s.tkp := (rfl)
@[simp] theorem ptpStale_mns (s : State) : (ptpStale s).mns = s.mns := (rfl)
@[simp] theorem ptpStale_nvm (s : State) : (ptpStale s).nvm = s.nvm := (rfl)
@[simp] theorem ptpStale_sec (s : State) : (ptpStale s).sec = s.sec := (rfl)
@[simp] theorem ptpStale_ast (s : State) : (ptpStale s).ast = s.ast := (rfl)
@[simp] theorem ptpStale_sch (s : State) : (ptpStale s).sch = s.sch := (rfl)
@[simp] theorem ptpStale_crl (s : State) : (ptpStale s).crl = s.crl := (rfl)
@[simp] theorem ptpStale_ptp (s : State) : (ptpStale s).ptp = { s.ptp with stale := true } := (rfl)

/-! ### modSel -/

@[simp] theorem modSel_pending (i : Nat) (f : SelS → SelS) (s : State) : (modSel i f s).pending = s.pending := (rfl)
@[simp] theorem modSel_now (i : Nat) (f : SelS → SelS) (s : State) : (modSel i f s).now = s.now := (rfl)
@[simp] theorem modSel_tod (i : Nat) (f : SelS → SelS) (s : State) : (modSel i f s).tod = s.tod := (rfl)
@[simp] theorem modSel_regs (i : Nat) (f : SelS → SelS) (s : State) : (modSel i f s).regs = s.regs := (rfl)
@[simp] theorem modSel_cyc (i : Nat) (f : SelS → SelS) (s : State) : (modSel i f s).cyc = s.cyc := (rfl)
@[simp] theorem modSel_free (i : Nat) (f : SelS → SelS) (s : State) : (modSel i f s).free = s.free := (rfl)
@[simp] theorem modSel_mram (i : Nat) (f : SelS → SelS) (s : State) : (modSel i f s).mram = s.mram := (rfl)
@[simp] theorem modSel_mramJ (i : Nat) (f : SelS → SelS) (s : State) : (modSel i f s).mramJ = s.mramJ := (rfl)
@[simp] theorem modSel_cram (i : Nat) (f : SelS → SelS) (s : State) : (modSel i f s).cram = s.cram := (rfl)
@[simp] theorem modSel_otp (i : Nat) (f : SelS → SelS) (s : State) : (modSel i f s).otp = s.otp := (rfl)
@[simp] theorem modSel_tempHeld (i : Nat) (f : SelS → SelS) (s : State) : (modSel i f s).tempHeld = s.tempHeld := (rfl)
@[simp] theorem modSel_tempAt (i : Nat) (f : SelS → SelS) (s : State) : (modSel i f s).tempAt = s.tempAt := (rfl)
@[simp] theorem modSel_tempStuck (i : Nat) (f : SelS → SelS) (s : State) : (modSel i f s).tempStuck = s.tempStuck := (rfl)
@[simp] theorem modSel_minAt (i : Nat) (f : SelS → SelS) (s : State) : (modSel i f s).minAt = s.minAt := (rfl)
@[simp] theorem modSel_gen (i : Nat) (f : SelS → SelS) (s : State) : (modSel i f s).gen = s.gen := (rfl)
@[simp] theorem modSel_rst (i : Nat) (f : SelS → SelS) (s : State) : (modSel i f s).rst = s.rst := (rfl)
@[simp] theorem modSel_flt (i : Nat) (f : SelS → SelS) (s : State) : (modSel i f s).flt = s.flt := (rfl)
@[simp] theorem modSel_host (i : Nat) (f : SelS → SelS) (s : State) : (modSel i f s).host = s.host := (rfl)
@[simp] theorem modSel_aon (i : Nat) (f : SelS → SelS) (s : State) : (modSel i f s).aon = s.aon := (rfl)
@[simp] theorem modSel_img (i : Nat) (f : SelS → SelS) (s : State) : (modSel i f s).img = s.img := (rfl)
@[simp] theorem modSel_clk (i : Nat) (f : SelS → SelS) (s : State) : (modSel i f s).clk = s.clk := (rfl)
@[simp] theorem modSel_pin (i : Nat) (f : SelS → SelS) (s : State) : (modSel i f s).pin = s.pin := (rfl)
@[simp] theorem modSel_todr (i : Nat) (f : SelS → SelS) (s : State) : (modSel i f s).todr = s.todr := (rfl)
@[simp] theorem modSel_todWas (i : Nat) (f : SelS → SelS) (s : State) : (modSel i f s).todWas = s.todWas := (rfl)
@[simp] theorem modSel_slot (i : Nat) (f : SelS → SelS) (s : State) : (modSel i f s).slot = s.slot := (rfl)
@[simp] theorem modSel_pmu (i : Nat) (f : SelS → SelS) (s : State) : (modSel i f s).pmu = s.pmu := (rfl)
@[simp] theorem modSel_slice (i : Nat) (f : SelS → SelS) (s : State) : (modSel i f s).slice = s.slice := (rfl)
@[simp] theorem modSel_unit (i : Nat) (f : SelS → SelS) (s : State) : (modSel i f s).unit = s.unit := (rfl)
@[simp] theorem modSel_sel (i : Nat) (f : SelS → SelS) (s : State) : (modSel i f s).sel = upd s.sel i f := (rfl)
@[simp] theorem modSel_selWas (i : Nat) (f : SelS → SelS) (s : State) : (modSel i f s).selWas = s.selWas := (rfl)
@[simp] theorem modSel_dpll (i : Nat) (f : SelS → SelS) (s : State) : (modSel i f s).dpll = s.dpll := (rfl)
@[simp] theorem modSel_est (i : Nat) (f : SelS → SelS) (s : State) : (modSel i f s).est = s.est := (rfl)
@[simp] theorem modSel_syn (i : Nat) (f : SelS → SelS) (s : State) : (modSel i f s).syn = s.syn := (rfl)
@[simp] theorem modSel_out (i : Nat) (f : SelS → SelS) (s : State) : (modSel i f s).out = s.out := (rfl)
@[simp] theorem modSel_commit (i : Nat) (f : SelS → SelS) (s : State) : (modSel i f s).commit = s.commit := (rfl)
@[simp] theorem modSel_tkp (i : Nat) (f : SelS → SelS) (s : State) : (modSel i f s).tkp = s.tkp := (rfl)
@[simp] theorem modSel_mns (i : Nat) (f : SelS → SelS) (s : State) : (modSel i f s).mns = s.mns := (rfl)
@[simp] theorem modSel_nvm (i : Nat) (f : SelS → SelS) (s : State) : (modSel i f s).nvm = s.nvm := (rfl)
@[simp] theorem modSel_sec (i : Nat) (f : SelS → SelS) (s : State) : (modSel i f s).sec = s.sec := (rfl)
@[simp] theorem modSel_ast (i : Nat) (f : SelS → SelS) (s : State) : (modSel i f s).ast = s.ast := (rfl)
@[simp] theorem modSel_sch (i : Nat) (f : SelS → SelS) (s : State) : (modSel i f s).sch = s.sch := (rfl)
@[simp] theorem modSel_crl (i : Nat) (f : SelS → SelS) (s : State) : (modSel i f s).crl = s.crl := (rfl)
@[simp] theorem modSel_ptp (i : Nat) (f : SelS → SelS) (s : State) : (modSel i f s).ptp = s.ptp := (rfl)

/-! ### modDpll -/

@[simp] theorem modDpll_pending (i : Nat) (f : DpllS → DpllS) (s : State) : (modDpll i f s).pending = s.pending := (rfl)
@[simp] theorem modDpll_now (i : Nat) (f : DpllS → DpllS) (s : State) : (modDpll i f s).now = s.now := (rfl)
@[simp] theorem modDpll_tod (i : Nat) (f : DpllS → DpllS) (s : State) : (modDpll i f s).tod = s.tod := (rfl)
@[simp] theorem modDpll_regs (i : Nat) (f : DpllS → DpllS) (s : State) : (modDpll i f s).regs = s.regs := (rfl)
@[simp] theorem modDpll_cyc (i : Nat) (f : DpllS → DpllS) (s : State) : (modDpll i f s).cyc = s.cyc := (rfl)
@[simp] theorem modDpll_free (i : Nat) (f : DpllS → DpllS) (s : State) : (modDpll i f s).free = s.free := (rfl)
@[simp] theorem modDpll_mram (i : Nat) (f : DpllS → DpllS) (s : State) : (modDpll i f s).mram = s.mram := (rfl)
@[simp] theorem modDpll_mramJ (i : Nat) (f : DpllS → DpllS) (s : State) : (modDpll i f s).mramJ = s.mramJ := (rfl)
@[simp] theorem modDpll_cram (i : Nat) (f : DpllS → DpllS) (s : State) : (modDpll i f s).cram = s.cram := (rfl)
@[simp] theorem modDpll_otp (i : Nat) (f : DpllS → DpllS) (s : State) : (modDpll i f s).otp = s.otp := (rfl)
@[simp] theorem modDpll_tempHeld (i : Nat) (f : DpllS → DpllS) (s : State) : (modDpll i f s).tempHeld = s.tempHeld := (rfl)
@[simp] theorem modDpll_tempAt (i : Nat) (f : DpllS → DpllS) (s : State) : (modDpll i f s).tempAt = s.tempAt := (rfl)
@[simp] theorem modDpll_tempStuck (i : Nat) (f : DpllS → DpllS) (s : State) : (modDpll i f s).tempStuck = s.tempStuck := (rfl)
@[simp] theorem modDpll_minAt (i : Nat) (f : DpllS → DpllS) (s : State) : (modDpll i f s).minAt = s.minAt := (rfl)
@[simp] theorem modDpll_gen (i : Nat) (f : DpllS → DpllS) (s : State) : (modDpll i f s).gen = s.gen := (rfl)
@[simp] theorem modDpll_rst (i : Nat) (f : DpllS → DpllS) (s : State) : (modDpll i f s).rst = s.rst := (rfl)
@[simp] theorem modDpll_flt (i : Nat) (f : DpllS → DpllS) (s : State) : (modDpll i f s).flt = s.flt := (rfl)
@[simp] theorem modDpll_host (i : Nat) (f : DpllS → DpllS) (s : State) : (modDpll i f s).host = s.host := (rfl)
@[simp] theorem modDpll_aon (i : Nat) (f : DpllS → DpllS) (s : State) : (modDpll i f s).aon = s.aon := (rfl)
@[simp] theorem modDpll_img (i : Nat) (f : DpllS → DpllS) (s : State) : (modDpll i f s).img = s.img := (rfl)
@[simp] theorem modDpll_clk (i : Nat) (f : DpllS → DpllS) (s : State) : (modDpll i f s).clk = s.clk := (rfl)
@[simp] theorem modDpll_pin (i : Nat) (f : DpllS → DpllS) (s : State) : (modDpll i f s).pin = s.pin := (rfl)
@[simp] theorem modDpll_todr (i : Nat) (f : DpllS → DpllS) (s : State) : (modDpll i f s).todr = s.todr := (rfl)
@[simp] theorem modDpll_todWas (i : Nat) (f : DpllS → DpllS) (s : State) : (modDpll i f s).todWas = s.todWas := (rfl)
@[simp] theorem modDpll_slot (i : Nat) (f : DpllS → DpllS) (s : State) : (modDpll i f s).slot = s.slot := (rfl)
@[simp] theorem modDpll_pmu (i : Nat) (f : DpllS → DpllS) (s : State) : (modDpll i f s).pmu = s.pmu := (rfl)
@[simp] theorem modDpll_slice (i : Nat) (f : DpllS → DpllS) (s : State) : (modDpll i f s).slice = s.slice := (rfl)
@[simp] theorem modDpll_unit (i : Nat) (f : DpllS → DpllS) (s : State) : (modDpll i f s).unit = s.unit := (rfl)
@[simp] theorem modDpll_sel (i : Nat) (f : DpllS → DpllS) (s : State) : (modDpll i f s).sel = s.sel := (rfl)
@[simp] theorem modDpll_selWas (i : Nat) (f : DpllS → DpllS) (s : State) : (modDpll i f s).selWas = s.selWas := (rfl)
@[simp] theorem modDpll_dpll (i : Nat) (f : DpllS → DpllS) (s : State) : (modDpll i f s).dpll = upd s.dpll i f := (rfl)
@[simp] theorem modDpll_est (i : Nat) (f : DpllS → DpllS) (s : State) : (modDpll i f s).est = s.est := (rfl)
@[simp] theorem modDpll_syn (i : Nat) (f : DpllS → DpllS) (s : State) : (modDpll i f s).syn = s.syn := (rfl)
@[simp] theorem modDpll_out (i : Nat) (f : DpllS → DpllS) (s : State) : (modDpll i f s).out = s.out := (rfl)
@[simp] theorem modDpll_commit (i : Nat) (f : DpllS → DpllS) (s : State) : (modDpll i f s).commit = s.commit := (rfl)
@[simp] theorem modDpll_tkp (i : Nat) (f : DpllS → DpllS) (s : State) : (modDpll i f s).tkp = s.tkp := (rfl)
@[simp] theorem modDpll_mns (i : Nat) (f : DpllS → DpllS) (s : State) : (modDpll i f s).mns = s.mns := (rfl)
@[simp] theorem modDpll_nvm (i : Nat) (f : DpllS → DpllS) (s : State) : (modDpll i f s).nvm = s.nvm := (rfl)
@[simp] theorem modDpll_sec (i : Nat) (f : DpllS → DpllS) (s : State) : (modDpll i f s).sec = s.sec := (rfl)
@[simp] theorem modDpll_ast (i : Nat) (f : DpllS → DpllS) (s : State) : (modDpll i f s).ast = s.ast := (rfl)
@[simp] theorem modDpll_sch (i : Nat) (f : DpllS → DpllS) (s : State) : (modDpll i f s).sch = s.sch := (rfl)
@[simp] theorem modDpll_crl (i : Nat) (f : DpllS → DpllS) (s : State) : (modDpll i f s).crl = s.crl := (rfl)
@[simp] theorem modDpll_ptp (i : Nat) (f : DpllS → DpllS) (s : State) : (modDpll i f s).ptp = s.ptp := (rfl)

/-! ### modPin -/

@[simp] theorem modPin_pending (i : Nat) (f : PinS → PinS) (s : State) : (modPin i f s).pending = s.pending := (rfl)
@[simp] theorem modPin_now (i : Nat) (f : PinS → PinS) (s : State) : (modPin i f s).now = s.now := (rfl)
@[simp] theorem modPin_tod (i : Nat) (f : PinS → PinS) (s : State) : (modPin i f s).tod = s.tod := (rfl)
@[simp] theorem modPin_regs (i : Nat) (f : PinS → PinS) (s : State) : (modPin i f s).regs = s.regs := (rfl)
@[simp] theorem modPin_cyc (i : Nat) (f : PinS → PinS) (s : State) : (modPin i f s).cyc = s.cyc := (rfl)
@[simp] theorem modPin_free (i : Nat) (f : PinS → PinS) (s : State) : (modPin i f s).free = s.free := (rfl)
@[simp] theorem modPin_mram (i : Nat) (f : PinS → PinS) (s : State) : (modPin i f s).mram = s.mram := (rfl)
@[simp] theorem modPin_mramJ (i : Nat) (f : PinS → PinS) (s : State) : (modPin i f s).mramJ = s.mramJ := (rfl)
@[simp] theorem modPin_cram (i : Nat) (f : PinS → PinS) (s : State) : (modPin i f s).cram = s.cram := (rfl)
@[simp] theorem modPin_otp (i : Nat) (f : PinS → PinS) (s : State) : (modPin i f s).otp = s.otp := (rfl)
@[simp] theorem modPin_tempHeld (i : Nat) (f : PinS → PinS) (s : State) : (modPin i f s).tempHeld = s.tempHeld := (rfl)
@[simp] theorem modPin_tempAt (i : Nat) (f : PinS → PinS) (s : State) : (modPin i f s).tempAt = s.tempAt := (rfl)
@[simp] theorem modPin_tempStuck (i : Nat) (f : PinS → PinS) (s : State) : (modPin i f s).tempStuck = s.tempStuck := (rfl)
@[simp] theorem modPin_minAt (i : Nat) (f : PinS → PinS) (s : State) : (modPin i f s).minAt = s.minAt := (rfl)
@[simp] theorem modPin_gen (i : Nat) (f : PinS → PinS) (s : State) : (modPin i f s).gen = s.gen := (rfl)
@[simp] theorem modPin_rst (i : Nat) (f : PinS → PinS) (s : State) : (modPin i f s).rst = s.rst := (rfl)
@[simp] theorem modPin_flt (i : Nat) (f : PinS → PinS) (s : State) : (modPin i f s).flt = s.flt := (rfl)
@[simp] theorem modPin_host (i : Nat) (f : PinS → PinS) (s : State) : (modPin i f s).host = s.host := (rfl)
@[simp] theorem modPin_aon (i : Nat) (f : PinS → PinS) (s : State) : (modPin i f s).aon = s.aon := (rfl)
@[simp] theorem modPin_img (i : Nat) (f : PinS → PinS) (s : State) : (modPin i f s).img = s.img := (rfl)
@[simp] theorem modPin_clk (i : Nat) (f : PinS → PinS) (s : State) : (modPin i f s).clk = s.clk := (rfl)
@[simp] theorem modPin_pin (i : Nat) (f : PinS → PinS) (s : State) : (modPin i f s).pin = upd s.pin i f := (rfl)
@[simp] theorem modPin_todr (i : Nat) (f : PinS → PinS) (s : State) : (modPin i f s).todr = s.todr := (rfl)
@[simp] theorem modPin_todWas (i : Nat) (f : PinS → PinS) (s : State) : (modPin i f s).todWas = s.todWas := (rfl)
@[simp] theorem modPin_slot (i : Nat) (f : PinS → PinS) (s : State) : (modPin i f s).slot = s.slot := (rfl)
@[simp] theorem modPin_pmu (i : Nat) (f : PinS → PinS) (s : State) : (modPin i f s).pmu = s.pmu := (rfl)
@[simp] theorem modPin_slice (i : Nat) (f : PinS → PinS) (s : State) : (modPin i f s).slice = s.slice := (rfl)
@[simp] theorem modPin_unit (i : Nat) (f : PinS → PinS) (s : State) : (modPin i f s).unit = s.unit := (rfl)
@[simp] theorem modPin_sel (i : Nat) (f : PinS → PinS) (s : State) : (modPin i f s).sel = s.sel := (rfl)
@[simp] theorem modPin_selWas (i : Nat) (f : PinS → PinS) (s : State) : (modPin i f s).selWas = s.selWas := (rfl)
@[simp] theorem modPin_dpll (i : Nat) (f : PinS → PinS) (s : State) : (modPin i f s).dpll = s.dpll := (rfl)
@[simp] theorem modPin_est (i : Nat) (f : PinS → PinS) (s : State) : (modPin i f s).est = s.est := (rfl)
@[simp] theorem modPin_syn (i : Nat) (f : PinS → PinS) (s : State) : (modPin i f s).syn = s.syn := (rfl)
@[simp] theorem modPin_out (i : Nat) (f : PinS → PinS) (s : State) : (modPin i f s).out = s.out := (rfl)
@[simp] theorem modPin_commit (i : Nat) (f : PinS → PinS) (s : State) : (modPin i f s).commit = s.commit := (rfl)
@[simp] theorem modPin_tkp (i : Nat) (f : PinS → PinS) (s : State) : (modPin i f s).tkp = s.tkp := (rfl)
@[simp] theorem modPin_mns (i : Nat) (f : PinS → PinS) (s : State) : (modPin i f s).mns = s.mns := (rfl)
@[simp] theorem modPin_nvm (i : Nat) (f : PinS → PinS) (s : State) : (modPin i f s).nvm = s.nvm := (rfl)
@[simp] theorem modPin_sec (i : Nat) (f : PinS → PinS) (s : State) : (modPin i f s).sec = s.sec := (rfl)
@[simp] theorem modPin_ast (i : Nat) (f : PinS → PinS) (s : State) : (modPin i f s).ast = s.ast := (rfl)
@[simp] theorem modPin_sch (i : Nat) (f : PinS → PinS) (s : State) : (modPin i f s).sch = s.sch := (rfl)
@[simp] theorem modPin_crl (i : Nat) (f : PinS → PinS) (s : State) : (modPin i f s).crl = s.crl := (rfl)
@[simp] theorem modPin_ptp (i : Nat) (f : PinS → PinS) (s : State) : (modPin i f s).ptp = s.ptp := (rfl)

/-! ### modTodr -/

@[simp] theorem modTodr_pending (i : Nat) (f : TodS → TodS) (s : State) : (modTodr i f s).pending = s.pending := (rfl)
@[simp] theorem modTodr_now (i : Nat) (f : TodS → TodS) (s : State) : (modTodr i f s).now = s.now := (rfl)
@[simp] theorem modTodr_tod (i : Nat) (f : TodS → TodS) (s : State) : (modTodr i f s).tod = s.tod := (rfl)
@[simp] theorem modTodr_regs (i : Nat) (f : TodS → TodS) (s : State) : (modTodr i f s).regs = s.regs := (rfl)
@[simp] theorem modTodr_cyc (i : Nat) (f : TodS → TodS) (s : State) : (modTodr i f s).cyc = s.cyc := (rfl)
@[simp] theorem modTodr_free (i : Nat) (f : TodS → TodS) (s : State) : (modTodr i f s).free = s.free := (rfl)
@[simp] theorem modTodr_mram (i : Nat) (f : TodS → TodS) (s : State) : (modTodr i f s).mram = s.mram := (rfl)
@[simp] theorem modTodr_mramJ (i : Nat) (f : TodS → TodS) (s : State) : (modTodr i f s).mramJ = s.mramJ := (rfl)
@[simp] theorem modTodr_cram (i : Nat) (f : TodS → TodS) (s : State) : (modTodr i f s).cram = s.cram := (rfl)
@[simp] theorem modTodr_otp (i : Nat) (f : TodS → TodS) (s : State) : (modTodr i f s).otp = s.otp := (rfl)
@[simp] theorem modTodr_tempHeld (i : Nat) (f : TodS → TodS) (s : State) : (modTodr i f s).tempHeld = s.tempHeld := (rfl)
@[simp] theorem modTodr_tempAt (i : Nat) (f : TodS → TodS) (s : State) : (modTodr i f s).tempAt = s.tempAt := (rfl)
@[simp] theorem modTodr_tempStuck (i : Nat) (f : TodS → TodS) (s : State) : (modTodr i f s).tempStuck = s.tempStuck := (rfl)
@[simp] theorem modTodr_minAt (i : Nat) (f : TodS → TodS) (s : State) : (modTodr i f s).minAt = s.minAt := (rfl)
@[simp] theorem modTodr_gen (i : Nat) (f : TodS → TodS) (s : State) : (modTodr i f s).gen = s.gen := (rfl)
@[simp] theorem modTodr_rst (i : Nat) (f : TodS → TodS) (s : State) : (modTodr i f s).rst = s.rst := (rfl)
@[simp] theorem modTodr_flt (i : Nat) (f : TodS → TodS) (s : State) : (modTodr i f s).flt = s.flt := (rfl)
@[simp] theorem modTodr_host (i : Nat) (f : TodS → TodS) (s : State) : (modTodr i f s).host = s.host := (rfl)
@[simp] theorem modTodr_aon (i : Nat) (f : TodS → TodS) (s : State) : (modTodr i f s).aon = s.aon := (rfl)
@[simp] theorem modTodr_img (i : Nat) (f : TodS → TodS) (s : State) : (modTodr i f s).img = s.img := (rfl)
@[simp] theorem modTodr_clk (i : Nat) (f : TodS → TodS) (s : State) : (modTodr i f s).clk = s.clk := (rfl)
@[simp] theorem modTodr_pin (i : Nat) (f : TodS → TodS) (s : State) : (modTodr i f s).pin = s.pin := (rfl)
@[simp] theorem modTodr_todr (i : Nat) (f : TodS → TodS) (s : State) : (modTodr i f s).todr = upd s.todr i f := (rfl)
@[simp] theorem modTodr_todWas (i : Nat) (f : TodS → TodS) (s : State) : (modTodr i f s).todWas = s.todWas := (rfl)
@[simp] theorem modTodr_slot (i : Nat) (f : TodS → TodS) (s : State) : (modTodr i f s).slot = s.slot := (rfl)
@[simp] theorem modTodr_pmu (i : Nat) (f : TodS → TodS) (s : State) : (modTodr i f s).pmu = s.pmu := (rfl)
@[simp] theorem modTodr_slice (i : Nat) (f : TodS → TodS) (s : State) : (modTodr i f s).slice = s.slice := (rfl)
@[simp] theorem modTodr_unit (i : Nat) (f : TodS → TodS) (s : State) : (modTodr i f s).unit = s.unit := (rfl)
@[simp] theorem modTodr_sel (i : Nat) (f : TodS → TodS) (s : State) : (modTodr i f s).sel = s.sel := (rfl)
@[simp] theorem modTodr_selWas (i : Nat) (f : TodS → TodS) (s : State) : (modTodr i f s).selWas = s.selWas := (rfl)
@[simp] theorem modTodr_dpll (i : Nat) (f : TodS → TodS) (s : State) : (modTodr i f s).dpll = s.dpll := (rfl)
@[simp] theorem modTodr_est (i : Nat) (f : TodS → TodS) (s : State) : (modTodr i f s).est = s.est := (rfl)
@[simp] theorem modTodr_syn (i : Nat) (f : TodS → TodS) (s : State) : (modTodr i f s).syn = s.syn := (rfl)
@[simp] theorem modTodr_out (i : Nat) (f : TodS → TodS) (s : State) : (modTodr i f s).out = s.out := (rfl)
@[simp] theorem modTodr_commit (i : Nat) (f : TodS → TodS) (s : State) : (modTodr i f s).commit = s.commit := (rfl)
@[simp] theorem modTodr_tkp (i : Nat) (f : TodS → TodS) (s : State) : (modTodr i f s).tkp = s.tkp := (rfl)
@[simp] theorem modTodr_mns (i : Nat) (f : TodS → TodS) (s : State) : (modTodr i f s).mns = s.mns := (rfl)
@[simp] theorem modTodr_nvm (i : Nat) (f : TodS → TodS) (s : State) : (modTodr i f s).nvm = s.nvm := (rfl)
@[simp] theorem modTodr_sec (i : Nat) (f : TodS → TodS) (s : State) : (modTodr i f s).sec = s.sec := (rfl)
@[simp] theorem modTodr_ast (i : Nat) (f : TodS → TodS) (s : State) : (modTodr i f s).ast = s.ast := (rfl)
@[simp] theorem modTodr_sch (i : Nat) (f : TodS → TodS) (s : State) : (modTodr i f s).sch = s.sch := (rfl)
@[simp] theorem modTodr_crl (i : Nat) (f : TodS → TodS) (s : State) : (modTodr i f s).crl = s.crl := (rfl)
@[simp] theorem modTodr_ptp (i : Nat) (f : TodS → TodS) (s : State) : (modTodr i f s).ptp = s.ptp := (rfl)

/-! ### modSlot -/

@[simp] theorem modSlot_pending (i : Nat) (f : SlotS → SlotS) (s : State) : (modSlot i f s).pending = s.pending := (rfl)
@[simp] theorem modSlot_now (i : Nat) (f : SlotS → SlotS) (s : State) : (modSlot i f s).now = s.now := (rfl)
@[simp] theorem modSlot_tod (i : Nat) (f : SlotS → SlotS) (s : State) : (modSlot i f s).tod = s.tod := (rfl)
@[simp] theorem modSlot_regs (i : Nat) (f : SlotS → SlotS) (s : State) : (modSlot i f s).regs = s.regs := (rfl)
@[simp] theorem modSlot_cyc (i : Nat) (f : SlotS → SlotS) (s : State) : (modSlot i f s).cyc = s.cyc := (rfl)
@[simp] theorem modSlot_free (i : Nat) (f : SlotS → SlotS) (s : State) : (modSlot i f s).free = s.free := (rfl)
@[simp] theorem modSlot_mram (i : Nat) (f : SlotS → SlotS) (s : State) : (modSlot i f s).mram = s.mram := (rfl)
@[simp] theorem modSlot_mramJ (i : Nat) (f : SlotS → SlotS) (s : State) : (modSlot i f s).mramJ = s.mramJ := (rfl)
@[simp] theorem modSlot_cram (i : Nat) (f : SlotS → SlotS) (s : State) : (modSlot i f s).cram = s.cram := (rfl)
@[simp] theorem modSlot_otp (i : Nat) (f : SlotS → SlotS) (s : State) : (modSlot i f s).otp = s.otp := (rfl)
@[simp] theorem modSlot_tempHeld (i : Nat) (f : SlotS → SlotS) (s : State) : (modSlot i f s).tempHeld = s.tempHeld := (rfl)
@[simp] theorem modSlot_tempAt (i : Nat) (f : SlotS → SlotS) (s : State) : (modSlot i f s).tempAt = s.tempAt := (rfl)
@[simp] theorem modSlot_tempStuck (i : Nat) (f : SlotS → SlotS) (s : State) : (modSlot i f s).tempStuck = s.tempStuck := (rfl)
@[simp] theorem modSlot_minAt (i : Nat) (f : SlotS → SlotS) (s : State) : (modSlot i f s).minAt = s.minAt := (rfl)
@[simp] theorem modSlot_gen (i : Nat) (f : SlotS → SlotS) (s : State) : (modSlot i f s).gen = s.gen := (rfl)
@[simp] theorem modSlot_rst (i : Nat) (f : SlotS → SlotS) (s : State) : (modSlot i f s).rst = s.rst := (rfl)
@[simp] theorem modSlot_flt (i : Nat) (f : SlotS → SlotS) (s : State) : (modSlot i f s).flt = s.flt := (rfl)
@[simp] theorem modSlot_host (i : Nat) (f : SlotS → SlotS) (s : State) : (modSlot i f s).host = s.host := (rfl)
@[simp] theorem modSlot_aon (i : Nat) (f : SlotS → SlotS) (s : State) : (modSlot i f s).aon = s.aon := (rfl)
@[simp] theorem modSlot_img (i : Nat) (f : SlotS → SlotS) (s : State) : (modSlot i f s).img = s.img := (rfl)
@[simp] theorem modSlot_clk (i : Nat) (f : SlotS → SlotS) (s : State) : (modSlot i f s).clk = s.clk := (rfl)
@[simp] theorem modSlot_pin (i : Nat) (f : SlotS → SlotS) (s : State) : (modSlot i f s).pin = s.pin := (rfl)
@[simp] theorem modSlot_todr (i : Nat) (f : SlotS → SlotS) (s : State) : (modSlot i f s).todr = s.todr := (rfl)
@[simp] theorem modSlot_todWas (i : Nat) (f : SlotS → SlotS) (s : State) : (modSlot i f s).todWas = s.todWas := (rfl)
@[simp] theorem modSlot_slot (i : Nat) (f : SlotS → SlotS) (s : State) : (modSlot i f s).slot = upd s.slot i f := (rfl)
@[simp] theorem modSlot_pmu (i : Nat) (f : SlotS → SlotS) (s : State) : (modSlot i f s).pmu = s.pmu := (rfl)
@[simp] theorem modSlot_slice (i : Nat) (f : SlotS → SlotS) (s : State) : (modSlot i f s).slice = s.slice := (rfl)
@[simp] theorem modSlot_unit (i : Nat) (f : SlotS → SlotS) (s : State) : (modSlot i f s).unit = s.unit := (rfl)
@[simp] theorem modSlot_sel (i : Nat) (f : SlotS → SlotS) (s : State) : (modSlot i f s).sel = s.sel := (rfl)
@[simp] theorem modSlot_selWas (i : Nat) (f : SlotS → SlotS) (s : State) : (modSlot i f s).selWas = s.selWas := (rfl)
@[simp] theorem modSlot_dpll (i : Nat) (f : SlotS → SlotS) (s : State) : (modSlot i f s).dpll = s.dpll := (rfl)
@[simp] theorem modSlot_est (i : Nat) (f : SlotS → SlotS) (s : State) : (modSlot i f s).est = s.est := (rfl)
@[simp] theorem modSlot_syn (i : Nat) (f : SlotS → SlotS) (s : State) : (modSlot i f s).syn = s.syn := (rfl)
@[simp] theorem modSlot_out (i : Nat) (f : SlotS → SlotS) (s : State) : (modSlot i f s).out = s.out := (rfl)
@[simp] theorem modSlot_commit (i : Nat) (f : SlotS → SlotS) (s : State) : (modSlot i f s).commit = s.commit := (rfl)
@[simp] theorem modSlot_tkp (i : Nat) (f : SlotS → SlotS) (s : State) : (modSlot i f s).tkp = s.tkp := (rfl)
@[simp] theorem modSlot_mns (i : Nat) (f : SlotS → SlotS) (s : State) : (modSlot i f s).mns = s.mns := (rfl)
@[simp] theorem modSlot_nvm (i : Nat) (f : SlotS → SlotS) (s : State) : (modSlot i f s).nvm = s.nvm := (rfl)
@[simp] theorem modSlot_sec (i : Nat) (f : SlotS → SlotS) (s : State) : (modSlot i f s).sec = s.sec := (rfl)
@[simp] theorem modSlot_ast (i : Nat) (f : SlotS → SlotS) (s : State) : (modSlot i f s).ast = s.ast := (rfl)
@[simp] theorem modSlot_sch (i : Nat) (f : SlotS → SlotS) (s : State) : (modSlot i f s).sch = s.sch := (rfl)
@[simp] theorem modSlot_crl (i : Nat) (f : SlotS → SlotS) (s : State) : (modSlot i f s).crl = s.crl := (rfl)
@[simp] theorem modSlot_ptp (i : Nat) (f : SlotS → SlotS) (s : State) : (modSlot i f s).ptp = s.ptp := (rfl)

/-! ### modEst -/

@[simp] theorem modEst_pending (i : Nat) (f : SlotEst → SlotEst) (s : State) : (modEst i f s).pending = s.pending := (rfl)
@[simp] theorem modEst_now (i : Nat) (f : SlotEst → SlotEst) (s : State) : (modEst i f s).now = s.now := (rfl)
@[simp] theorem modEst_tod (i : Nat) (f : SlotEst → SlotEst) (s : State) : (modEst i f s).tod = s.tod := (rfl)
@[simp] theorem modEst_regs (i : Nat) (f : SlotEst → SlotEst) (s : State) : (modEst i f s).regs = s.regs := (rfl)
@[simp] theorem modEst_cyc (i : Nat) (f : SlotEst → SlotEst) (s : State) : (modEst i f s).cyc = s.cyc := (rfl)
@[simp] theorem modEst_free (i : Nat) (f : SlotEst → SlotEst) (s : State) : (modEst i f s).free = s.free := (rfl)
@[simp] theorem modEst_mram (i : Nat) (f : SlotEst → SlotEst) (s : State) : (modEst i f s).mram = s.mram := (rfl)
@[simp] theorem modEst_mramJ (i : Nat) (f : SlotEst → SlotEst) (s : State) : (modEst i f s).mramJ = s.mramJ := (rfl)
@[simp] theorem modEst_cram (i : Nat) (f : SlotEst → SlotEst) (s : State) : (modEst i f s).cram = s.cram := (rfl)
@[simp] theorem modEst_otp (i : Nat) (f : SlotEst → SlotEst) (s : State) : (modEst i f s).otp = s.otp := (rfl)
@[simp] theorem modEst_tempHeld (i : Nat) (f : SlotEst → SlotEst) (s : State) : (modEst i f s).tempHeld = s.tempHeld := (rfl)
@[simp] theorem modEst_tempAt (i : Nat) (f : SlotEst → SlotEst) (s : State) : (modEst i f s).tempAt = s.tempAt := (rfl)
@[simp] theorem modEst_tempStuck (i : Nat) (f : SlotEst → SlotEst) (s : State) : (modEst i f s).tempStuck = s.tempStuck := (rfl)
@[simp] theorem modEst_minAt (i : Nat) (f : SlotEst → SlotEst) (s : State) : (modEst i f s).minAt = s.minAt := (rfl)
@[simp] theorem modEst_gen (i : Nat) (f : SlotEst → SlotEst) (s : State) : (modEst i f s).gen = s.gen := (rfl)
@[simp] theorem modEst_rst (i : Nat) (f : SlotEst → SlotEst) (s : State) : (modEst i f s).rst = s.rst := (rfl)
@[simp] theorem modEst_flt (i : Nat) (f : SlotEst → SlotEst) (s : State) : (modEst i f s).flt = s.flt := (rfl)
@[simp] theorem modEst_host (i : Nat) (f : SlotEst → SlotEst) (s : State) : (modEst i f s).host = s.host := (rfl)
@[simp] theorem modEst_aon (i : Nat) (f : SlotEst → SlotEst) (s : State) : (modEst i f s).aon = s.aon := (rfl)
@[simp] theorem modEst_img (i : Nat) (f : SlotEst → SlotEst) (s : State) : (modEst i f s).img = s.img := (rfl)
@[simp] theorem modEst_clk (i : Nat) (f : SlotEst → SlotEst) (s : State) : (modEst i f s).clk = s.clk := (rfl)
@[simp] theorem modEst_pin (i : Nat) (f : SlotEst → SlotEst) (s : State) : (modEst i f s).pin = s.pin := (rfl)
@[simp] theorem modEst_todr (i : Nat) (f : SlotEst → SlotEst) (s : State) : (modEst i f s).todr = s.todr := (rfl)
@[simp] theorem modEst_todWas (i : Nat) (f : SlotEst → SlotEst) (s : State) : (modEst i f s).todWas = s.todWas := (rfl)
@[simp] theorem modEst_slot (i : Nat) (f : SlotEst → SlotEst) (s : State) : (modEst i f s).slot = s.slot := (rfl)
@[simp] theorem modEst_pmu (i : Nat) (f : SlotEst → SlotEst) (s : State) : (modEst i f s).pmu = s.pmu := (rfl)
@[simp] theorem modEst_slice (i : Nat) (f : SlotEst → SlotEst) (s : State) : (modEst i f s).slice = s.slice := (rfl)
@[simp] theorem modEst_unit (i : Nat) (f : SlotEst → SlotEst) (s : State) : (modEst i f s).unit = s.unit := (rfl)
@[simp] theorem modEst_sel (i : Nat) (f : SlotEst → SlotEst) (s : State) : (modEst i f s).sel = s.sel := (rfl)
@[simp] theorem modEst_selWas (i : Nat) (f : SlotEst → SlotEst) (s : State) : (modEst i f s).selWas = s.selWas := (rfl)
@[simp] theorem modEst_dpll (i : Nat) (f : SlotEst → SlotEst) (s : State) : (modEst i f s).dpll = s.dpll := (rfl)
@[simp] theorem modEst_est (i : Nat) (f : SlotEst → SlotEst) (s : State) : (modEst i f s).est = upd s.est i f := (rfl)
@[simp] theorem modEst_syn (i : Nat) (f : SlotEst → SlotEst) (s : State) : (modEst i f s).syn = s.syn := (rfl)
@[simp] theorem modEst_out (i : Nat) (f : SlotEst → SlotEst) (s : State) : (modEst i f s).out = s.out := (rfl)
@[simp] theorem modEst_commit (i : Nat) (f : SlotEst → SlotEst) (s : State) : (modEst i f s).commit = s.commit := (rfl)
@[simp] theorem modEst_tkp (i : Nat) (f : SlotEst → SlotEst) (s : State) : (modEst i f s).tkp = s.tkp := (rfl)
@[simp] theorem modEst_mns (i : Nat) (f : SlotEst → SlotEst) (s : State) : (modEst i f s).mns = s.mns := (rfl)
@[simp] theorem modEst_nvm (i : Nat) (f : SlotEst → SlotEst) (s : State) : (modEst i f s).nvm = s.nvm := (rfl)
@[simp] theorem modEst_sec (i : Nat) (f : SlotEst → SlotEst) (s : State) : (modEst i f s).sec = s.sec := (rfl)
@[simp] theorem modEst_ast (i : Nat) (f : SlotEst → SlotEst) (s : State) : (modEst i f s).ast = s.ast := (rfl)
@[simp] theorem modEst_sch (i : Nat) (f : SlotEst → SlotEst) (s : State) : (modEst i f s).sch = s.sch := (rfl)
@[simp] theorem modEst_crl (i : Nat) (f : SlotEst → SlotEst) (s : State) : (modEst i f s).crl = s.crl := (rfl)
@[simp] theorem modEst_ptp (i : Nat) (f : SlotEst → SlotEst) (s : State) : (modEst i f s).ptp = s.ptp := (rfl)

/-! ### modSlice -/

@[simp] theorem modSlice_pending (i : Nat) (f : SliceS → SliceS) (s : State) : (modSlice i f s).pending = s.pending := (rfl)
@[simp] theorem modSlice_now (i : Nat) (f : SliceS → SliceS) (s : State) : (modSlice i f s).now = s.now := (rfl)
@[simp] theorem modSlice_tod (i : Nat) (f : SliceS → SliceS) (s : State) : (modSlice i f s).tod = s.tod := (rfl)
@[simp] theorem modSlice_regs (i : Nat) (f : SliceS → SliceS) (s : State) : (modSlice i f s).regs = s.regs := (rfl)
@[simp] theorem modSlice_cyc (i : Nat) (f : SliceS → SliceS) (s : State) : (modSlice i f s).cyc = s.cyc := (rfl)
@[simp] theorem modSlice_free (i : Nat) (f : SliceS → SliceS) (s : State) : (modSlice i f s).free = s.free := (rfl)
@[simp] theorem modSlice_mram (i : Nat) (f : SliceS → SliceS) (s : State) : (modSlice i f s).mram = s.mram := (rfl)
@[simp] theorem modSlice_mramJ (i : Nat) (f : SliceS → SliceS) (s : State) : (modSlice i f s).mramJ = s.mramJ := (rfl)
@[simp] theorem modSlice_cram (i : Nat) (f : SliceS → SliceS) (s : State) : (modSlice i f s).cram = s.cram := (rfl)
@[simp] theorem modSlice_otp (i : Nat) (f : SliceS → SliceS) (s : State) : (modSlice i f s).otp = s.otp := (rfl)
@[simp] theorem modSlice_tempHeld (i : Nat) (f : SliceS → SliceS) (s : State) : (modSlice i f s).tempHeld = s.tempHeld := (rfl)
@[simp] theorem modSlice_tempAt (i : Nat) (f : SliceS → SliceS) (s : State) : (modSlice i f s).tempAt = s.tempAt := (rfl)
@[simp] theorem modSlice_tempStuck (i : Nat) (f : SliceS → SliceS) (s : State) : (modSlice i f s).tempStuck = s.tempStuck := (rfl)
@[simp] theorem modSlice_minAt (i : Nat) (f : SliceS → SliceS) (s : State) : (modSlice i f s).minAt = s.minAt := (rfl)
@[simp] theorem modSlice_gen (i : Nat) (f : SliceS → SliceS) (s : State) : (modSlice i f s).gen = s.gen := (rfl)
@[simp] theorem modSlice_rst (i : Nat) (f : SliceS → SliceS) (s : State) : (modSlice i f s).rst = s.rst := (rfl)
@[simp] theorem modSlice_flt (i : Nat) (f : SliceS → SliceS) (s : State) : (modSlice i f s).flt = s.flt := (rfl)
@[simp] theorem modSlice_host (i : Nat) (f : SliceS → SliceS) (s : State) : (modSlice i f s).host = s.host := (rfl)
@[simp] theorem modSlice_aon (i : Nat) (f : SliceS → SliceS) (s : State) : (modSlice i f s).aon = s.aon := (rfl)
@[simp] theorem modSlice_img (i : Nat) (f : SliceS → SliceS) (s : State) : (modSlice i f s).img = s.img := (rfl)
@[simp] theorem modSlice_clk (i : Nat) (f : SliceS → SliceS) (s : State) : (modSlice i f s).clk = s.clk := (rfl)
@[simp] theorem modSlice_pin (i : Nat) (f : SliceS → SliceS) (s : State) : (modSlice i f s).pin = s.pin := (rfl)
@[simp] theorem modSlice_todr (i : Nat) (f : SliceS → SliceS) (s : State) : (modSlice i f s).todr = s.todr := (rfl)
@[simp] theorem modSlice_todWas (i : Nat) (f : SliceS → SliceS) (s : State) : (modSlice i f s).todWas = s.todWas := (rfl)
@[simp] theorem modSlice_slot (i : Nat) (f : SliceS → SliceS) (s : State) : (modSlice i f s).slot = s.slot := (rfl)
@[simp] theorem modSlice_pmu (i : Nat) (f : SliceS → SliceS) (s : State) : (modSlice i f s).pmu = s.pmu := (rfl)
@[simp] theorem modSlice_slice (i : Nat) (f : SliceS → SliceS) (s : State) : (modSlice i f s).slice = upd s.slice i f := (rfl)
@[simp] theorem modSlice_unit (i : Nat) (f : SliceS → SliceS) (s : State) : (modSlice i f s).unit = s.unit := (rfl)
@[simp] theorem modSlice_sel (i : Nat) (f : SliceS → SliceS) (s : State) : (modSlice i f s).sel = s.sel := (rfl)
@[simp] theorem modSlice_selWas (i : Nat) (f : SliceS → SliceS) (s : State) : (modSlice i f s).selWas = s.selWas := (rfl)
@[simp] theorem modSlice_dpll (i : Nat) (f : SliceS → SliceS) (s : State) : (modSlice i f s).dpll = s.dpll := (rfl)
@[simp] theorem modSlice_est (i : Nat) (f : SliceS → SliceS) (s : State) : (modSlice i f s).est = s.est := (rfl)
@[simp] theorem modSlice_syn (i : Nat) (f : SliceS → SliceS) (s : State) : (modSlice i f s).syn = s.syn := (rfl)
@[simp] theorem modSlice_out (i : Nat) (f : SliceS → SliceS) (s : State) : (modSlice i f s).out = s.out := (rfl)
@[simp] theorem modSlice_commit (i : Nat) (f : SliceS → SliceS) (s : State) : (modSlice i f s).commit = s.commit := (rfl)
@[simp] theorem modSlice_tkp (i : Nat) (f : SliceS → SliceS) (s : State) : (modSlice i f s).tkp = s.tkp := (rfl)
@[simp] theorem modSlice_mns (i : Nat) (f : SliceS → SliceS) (s : State) : (modSlice i f s).mns = s.mns := (rfl)
@[simp] theorem modSlice_nvm (i : Nat) (f : SliceS → SliceS) (s : State) : (modSlice i f s).nvm = s.nvm := (rfl)
@[simp] theorem modSlice_sec (i : Nat) (f : SliceS → SliceS) (s : State) : (modSlice i f s).sec = s.sec := (rfl)
@[simp] theorem modSlice_ast (i : Nat) (f : SliceS → SliceS) (s : State) : (modSlice i f s).ast = s.ast := (rfl)
@[simp] theorem modSlice_sch (i : Nat) (f : SliceS → SliceS) (s : State) : (modSlice i f s).sch = s.sch := (rfl)
@[simp] theorem modSlice_crl (i : Nat) (f : SliceS → SliceS) (s : State) : (modSlice i f s).crl = s.crl := (rfl)
@[simp] theorem modSlice_ptp (i : Nat) (f : SliceS → SliceS) (s : State) : (modSlice i f s).ptp = s.ptp := (rfl)

/-! ### modUnit -/

@[simp] theorem modUnit_pending (i : Nat) (f : UnitS → UnitS) (s : State) : (modUnit i f s).pending = s.pending := (rfl)
@[simp] theorem modUnit_now (i : Nat) (f : UnitS → UnitS) (s : State) : (modUnit i f s).now = s.now := (rfl)
@[simp] theorem modUnit_tod (i : Nat) (f : UnitS → UnitS) (s : State) : (modUnit i f s).tod = s.tod := (rfl)
@[simp] theorem modUnit_regs (i : Nat) (f : UnitS → UnitS) (s : State) : (modUnit i f s).regs = s.regs := (rfl)
@[simp] theorem modUnit_cyc (i : Nat) (f : UnitS → UnitS) (s : State) : (modUnit i f s).cyc = s.cyc := (rfl)
@[simp] theorem modUnit_free (i : Nat) (f : UnitS → UnitS) (s : State) : (modUnit i f s).free = s.free := (rfl)
@[simp] theorem modUnit_mram (i : Nat) (f : UnitS → UnitS) (s : State) : (modUnit i f s).mram = s.mram := (rfl)
@[simp] theorem modUnit_mramJ (i : Nat) (f : UnitS → UnitS) (s : State) : (modUnit i f s).mramJ = s.mramJ := (rfl)
@[simp] theorem modUnit_cram (i : Nat) (f : UnitS → UnitS) (s : State) : (modUnit i f s).cram = s.cram := (rfl)
@[simp] theorem modUnit_otp (i : Nat) (f : UnitS → UnitS) (s : State) : (modUnit i f s).otp = s.otp := (rfl)
@[simp] theorem modUnit_tempHeld (i : Nat) (f : UnitS → UnitS) (s : State) : (modUnit i f s).tempHeld = s.tempHeld := (rfl)
@[simp] theorem modUnit_tempAt (i : Nat) (f : UnitS → UnitS) (s : State) : (modUnit i f s).tempAt = s.tempAt := (rfl)
@[simp] theorem modUnit_tempStuck (i : Nat) (f : UnitS → UnitS) (s : State) : (modUnit i f s).tempStuck = s.tempStuck := (rfl)
@[simp] theorem modUnit_minAt (i : Nat) (f : UnitS → UnitS) (s : State) : (modUnit i f s).minAt = s.minAt := (rfl)
@[simp] theorem modUnit_gen (i : Nat) (f : UnitS → UnitS) (s : State) : (modUnit i f s).gen = s.gen := (rfl)
@[simp] theorem modUnit_rst (i : Nat) (f : UnitS → UnitS) (s : State) : (modUnit i f s).rst = s.rst := (rfl)
@[simp] theorem modUnit_flt (i : Nat) (f : UnitS → UnitS) (s : State) : (modUnit i f s).flt = s.flt := (rfl)
@[simp] theorem modUnit_host (i : Nat) (f : UnitS → UnitS) (s : State) : (modUnit i f s).host = s.host := (rfl)
@[simp] theorem modUnit_aon (i : Nat) (f : UnitS → UnitS) (s : State) : (modUnit i f s).aon = s.aon := (rfl)
@[simp] theorem modUnit_img (i : Nat) (f : UnitS → UnitS) (s : State) : (modUnit i f s).img = s.img := (rfl)
@[simp] theorem modUnit_clk (i : Nat) (f : UnitS → UnitS) (s : State) : (modUnit i f s).clk = s.clk := (rfl)
@[simp] theorem modUnit_pin (i : Nat) (f : UnitS → UnitS) (s : State) : (modUnit i f s).pin = s.pin := (rfl)
@[simp] theorem modUnit_todr (i : Nat) (f : UnitS → UnitS) (s : State) : (modUnit i f s).todr = s.todr := (rfl)
@[simp] theorem modUnit_todWas (i : Nat) (f : UnitS → UnitS) (s : State) : (modUnit i f s).todWas = s.todWas := (rfl)
@[simp] theorem modUnit_slot (i : Nat) (f : UnitS → UnitS) (s : State) : (modUnit i f s).slot = s.slot := (rfl)
@[simp] theorem modUnit_pmu (i : Nat) (f : UnitS → UnitS) (s : State) : (modUnit i f s).pmu = s.pmu := (rfl)
@[simp] theorem modUnit_slice (i : Nat) (f : UnitS → UnitS) (s : State) : (modUnit i f s).slice = s.slice := (rfl)
@[simp] theorem modUnit_unit (i : Nat) (f : UnitS → UnitS) (s : State) : (modUnit i f s).unit = upd s.unit i f := (rfl)
@[simp] theorem modUnit_sel (i : Nat) (f : UnitS → UnitS) (s : State) : (modUnit i f s).sel = s.sel := (rfl)
@[simp] theorem modUnit_selWas (i : Nat) (f : UnitS → UnitS) (s : State) : (modUnit i f s).selWas = s.selWas := (rfl)
@[simp] theorem modUnit_dpll (i : Nat) (f : UnitS → UnitS) (s : State) : (modUnit i f s).dpll = s.dpll := (rfl)
@[simp] theorem modUnit_est (i : Nat) (f : UnitS → UnitS) (s : State) : (modUnit i f s).est = s.est := (rfl)
@[simp] theorem modUnit_syn (i : Nat) (f : UnitS → UnitS) (s : State) : (modUnit i f s).syn = s.syn := (rfl)
@[simp] theorem modUnit_out (i : Nat) (f : UnitS → UnitS) (s : State) : (modUnit i f s).out = s.out := (rfl)
@[simp] theorem modUnit_commit (i : Nat) (f : UnitS → UnitS) (s : State) : (modUnit i f s).commit = s.commit := (rfl)
@[simp] theorem modUnit_tkp (i : Nat) (f : UnitS → UnitS) (s : State) : (modUnit i f s).tkp = s.tkp := (rfl)
@[simp] theorem modUnit_mns (i : Nat) (f : UnitS → UnitS) (s : State) : (modUnit i f s).mns = s.mns := (rfl)
@[simp] theorem modUnit_nvm (i : Nat) (f : UnitS → UnitS) (s : State) : (modUnit i f s).nvm = s.nvm := (rfl)
@[simp] theorem modUnit_sec (i : Nat) (f : UnitS → UnitS) (s : State) : (modUnit i f s).sec = s.sec := (rfl)
@[simp] theorem modUnit_ast (i : Nat) (f : UnitS → UnitS) (s : State) : (modUnit i f s).ast = s.ast := (rfl)
@[simp] theorem modUnit_sch (i : Nat) (f : UnitS → UnitS) (s : State) : (modUnit i f s).sch = s.sch := (rfl)
@[simp] theorem modUnit_crl (i : Nat) (f : UnitS → UnitS) (s : State) : (modUnit i f s).crl = s.crl := (rfl)
@[simp] theorem modUnit_ptp (i : Nat) (f : UnitS → UnitS) (s : State) : (modUnit i f s).ptp = s.ptp := (rfl)

/-! ### modSyn -/

@[simp] theorem modSyn_pending (i : Nat) (f : SynS → SynS) (s : State) : (modSyn i f s).pending = s.pending := (rfl)
@[simp] theorem modSyn_now (i : Nat) (f : SynS → SynS) (s : State) : (modSyn i f s).now = s.now := (rfl)
@[simp] theorem modSyn_tod (i : Nat) (f : SynS → SynS) (s : State) : (modSyn i f s).tod = s.tod := (rfl)
@[simp] theorem modSyn_regs (i : Nat) (f : SynS → SynS) (s : State) : (modSyn i f s).regs = s.regs := (rfl)
@[simp] theorem modSyn_cyc (i : Nat) (f : SynS → SynS) (s : State) : (modSyn i f s).cyc = s.cyc := (rfl)
@[simp] theorem modSyn_free (i : Nat) (f : SynS → SynS) (s : State) : (modSyn i f s).free = s.free := (rfl)
@[simp] theorem modSyn_mram (i : Nat) (f : SynS → SynS) (s : State) : (modSyn i f s).mram = s.mram := (rfl)
@[simp] theorem modSyn_mramJ (i : Nat) (f : SynS → SynS) (s : State) : (modSyn i f s).mramJ = s.mramJ := (rfl)
@[simp] theorem modSyn_cram (i : Nat) (f : SynS → SynS) (s : State) : (modSyn i f s).cram = s.cram := (rfl)
@[simp] theorem modSyn_otp (i : Nat) (f : SynS → SynS) (s : State) : (modSyn i f s).otp = s.otp := (rfl)
@[simp] theorem modSyn_tempHeld (i : Nat) (f : SynS → SynS) (s : State) : (modSyn i f s).tempHeld = s.tempHeld := (rfl)
@[simp] theorem modSyn_tempAt (i : Nat) (f : SynS → SynS) (s : State) : (modSyn i f s).tempAt = s.tempAt := (rfl)
@[simp] theorem modSyn_tempStuck (i : Nat) (f : SynS → SynS) (s : State) : (modSyn i f s).tempStuck = s.tempStuck := (rfl)
@[simp] theorem modSyn_minAt (i : Nat) (f : SynS → SynS) (s : State) : (modSyn i f s).minAt = s.minAt := (rfl)
@[simp] theorem modSyn_gen (i : Nat) (f : SynS → SynS) (s : State) : (modSyn i f s).gen = s.gen := (rfl)
@[simp] theorem modSyn_rst (i : Nat) (f : SynS → SynS) (s : State) : (modSyn i f s).rst = s.rst := (rfl)
@[simp] theorem modSyn_flt (i : Nat) (f : SynS → SynS) (s : State) : (modSyn i f s).flt = s.flt := (rfl)
@[simp] theorem modSyn_host (i : Nat) (f : SynS → SynS) (s : State) : (modSyn i f s).host = s.host := (rfl)
@[simp] theorem modSyn_aon (i : Nat) (f : SynS → SynS) (s : State) : (modSyn i f s).aon = s.aon := (rfl)
@[simp] theorem modSyn_img (i : Nat) (f : SynS → SynS) (s : State) : (modSyn i f s).img = s.img := (rfl)
@[simp] theorem modSyn_clk (i : Nat) (f : SynS → SynS) (s : State) : (modSyn i f s).clk = s.clk := (rfl)
@[simp] theorem modSyn_pin (i : Nat) (f : SynS → SynS) (s : State) : (modSyn i f s).pin = s.pin := (rfl)
@[simp] theorem modSyn_todr (i : Nat) (f : SynS → SynS) (s : State) : (modSyn i f s).todr = s.todr := (rfl)
@[simp] theorem modSyn_todWas (i : Nat) (f : SynS → SynS) (s : State) : (modSyn i f s).todWas = s.todWas := (rfl)
@[simp] theorem modSyn_slot (i : Nat) (f : SynS → SynS) (s : State) : (modSyn i f s).slot = s.slot := (rfl)
@[simp] theorem modSyn_pmu (i : Nat) (f : SynS → SynS) (s : State) : (modSyn i f s).pmu = s.pmu := (rfl)
@[simp] theorem modSyn_slice (i : Nat) (f : SynS → SynS) (s : State) : (modSyn i f s).slice = s.slice := (rfl)
@[simp] theorem modSyn_unit (i : Nat) (f : SynS → SynS) (s : State) : (modSyn i f s).unit = s.unit := (rfl)
@[simp] theorem modSyn_sel (i : Nat) (f : SynS → SynS) (s : State) : (modSyn i f s).sel = s.sel := (rfl)
@[simp] theorem modSyn_selWas (i : Nat) (f : SynS → SynS) (s : State) : (modSyn i f s).selWas = s.selWas := (rfl)
@[simp] theorem modSyn_dpll (i : Nat) (f : SynS → SynS) (s : State) : (modSyn i f s).dpll = s.dpll := (rfl)
@[simp] theorem modSyn_est (i : Nat) (f : SynS → SynS) (s : State) : (modSyn i f s).est = s.est := (rfl)
@[simp] theorem modSyn_syn (i : Nat) (f : SynS → SynS) (s : State) : (modSyn i f s).syn = upd s.syn i f := (rfl)
@[simp] theorem modSyn_out (i : Nat) (f : SynS → SynS) (s : State) : (modSyn i f s).out = s.out := (rfl)
@[simp] theorem modSyn_commit (i : Nat) (f : SynS → SynS) (s : State) : (modSyn i f s).commit = s.commit := (rfl)
@[simp] theorem modSyn_tkp (i : Nat) (f : SynS → SynS) (s : State) : (modSyn i f s).tkp = s.tkp := (rfl)
@[simp] theorem modSyn_mns (i : Nat) (f : SynS → SynS) (s : State) : (modSyn i f s).mns = s.mns := (rfl)
@[simp] theorem modSyn_nvm (i : Nat) (f : SynS → SynS) (s : State) : (modSyn i f s).nvm = s.nvm := (rfl)
@[simp] theorem modSyn_sec (i : Nat) (f : SynS → SynS) (s : State) : (modSyn i f s).sec = s.sec := (rfl)
@[simp] theorem modSyn_ast (i : Nat) (f : SynS → SynS) (s : State) : (modSyn i f s).ast = s.ast := (rfl)
@[simp] theorem modSyn_sch (i : Nat) (f : SynS → SynS) (s : State) : (modSyn i f s).sch = s.sch := (rfl)
@[simp] theorem modSyn_crl (i : Nat) (f : SynS → SynS) (s : State) : (modSyn i f s).crl = s.crl := (rfl)
@[simp] theorem modSyn_ptp (i : Nat) (f : SynS → SynS) (s : State) : (modSyn i f s).ptp = s.ptp := (rfl)

/-! ### modOut -/

@[simp] theorem modOut_pending (i : Nat) (f : OutS → OutS) (s : State) : (modOut i f s).pending = s.pending := (rfl)
@[simp] theorem modOut_now (i : Nat) (f : OutS → OutS) (s : State) : (modOut i f s).now = s.now := (rfl)
@[simp] theorem modOut_tod (i : Nat) (f : OutS → OutS) (s : State) : (modOut i f s).tod = s.tod := (rfl)
@[simp] theorem modOut_regs (i : Nat) (f : OutS → OutS) (s : State) : (modOut i f s).regs = s.regs := (rfl)
@[simp] theorem modOut_cyc (i : Nat) (f : OutS → OutS) (s : State) : (modOut i f s).cyc = s.cyc := (rfl)
@[simp] theorem modOut_free (i : Nat) (f : OutS → OutS) (s : State) : (modOut i f s).free = s.free := (rfl)
@[simp] theorem modOut_mram (i : Nat) (f : OutS → OutS) (s : State) : (modOut i f s).mram = s.mram := (rfl)
@[simp] theorem modOut_mramJ (i : Nat) (f : OutS → OutS) (s : State) : (modOut i f s).mramJ = s.mramJ := (rfl)
@[simp] theorem modOut_cram (i : Nat) (f : OutS → OutS) (s : State) : (modOut i f s).cram = s.cram := (rfl)
@[simp] theorem modOut_otp (i : Nat) (f : OutS → OutS) (s : State) : (modOut i f s).otp = s.otp := (rfl)
@[simp] theorem modOut_tempHeld (i : Nat) (f : OutS → OutS) (s : State) : (modOut i f s).tempHeld = s.tempHeld := (rfl)
@[simp] theorem modOut_tempAt (i : Nat) (f : OutS → OutS) (s : State) : (modOut i f s).tempAt = s.tempAt := (rfl)
@[simp] theorem modOut_tempStuck (i : Nat) (f : OutS → OutS) (s : State) : (modOut i f s).tempStuck = s.tempStuck := (rfl)
@[simp] theorem modOut_minAt (i : Nat) (f : OutS → OutS) (s : State) : (modOut i f s).minAt = s.minAt := (rfl)
@[simp] theorem modOut_gen (i : Nat) (f : OutS → OutS) (s : State) : (modOut i f s).gen = s.gen := (rfl)
@[simp] theorem modOut_rst (i : Nat) (f : OutS → OutS) (s : State) : (modOut i f s).rst = s.rst := (rfl)
@[simp] theorem modOut_flt (i : Nat) (f : OutS → OutS) (s : State) : (modOut i f s).flt = s.flt := (rfl)
@[simp] theorem modOut_host (i : Nat) (f : OutS → OutS) (s : State) : (modOut i f s).host = s.host := (rfl)
@[simp] theorem modOut_aon (i : Nat) (f : OutS → OutS) (s : State) : (modOut i f s).aon = s.aon := (rfl)
@[simp] theorem modOut_img (i : Nat) (f : OutS → OutS) (s : State) : (modOut i f s).img = s.img := (rfl)
@[simp] theorem modOut_clk (i : Nat) (f : OutS → OutS) (s : State) : (modOut i f s).clk = s.clk := (rfl)
@[simp] theorem modOut_pin (i : Nat) (f : OutS → OutS) (s : State) : (modOut i f s).pin = s.pin := (rfl)
@[simp] theorem modOut_todr (i : Nat) (f : OutS → OutS) (s : State) : (modOut i f s).todr = s.todr := (rfl)
@[simp] theorem modOut_todWas (i : Nat) (f : OutS → OutS) (s : State) : (modOut i f s).todWas = s.todWas := (rfl)
@[simp] theorem modOut_slot (i : Nat) (f : OutS → OutS) (s : State) : (modOut i f s).slot = s.slot := (rfl)
@[simp] theorem modOut_pmu (i : Nat) (f : OutS → OutS) (s : State) : (modOut i f s).pmu = s.pmu := (rfl)
@[simp] theorem modOut_slice (i : Nat) (f : OutS → OutS) (s : State) : (modOut i f s).slice = s.slice := (rfl)
@[simp] theorem modOut_unit (i : Nat) (f : OutS → OutS) (s : State) : (modOut i f s).unit = s.unit := (rfl)
@[simp] theorem modOut_sel (i : Nat) (f : OutS → OutS) (s : State) : (modOut i f s).sel = s.sel := (rfl)
@[simp] theorem modOut_selWas (i : Nat) (f : OutS → OutS) (s : State) : (modOut i f s).selWas = s.selWas := (rfl)
@[simp] theorem modOut_dpll (i : Nat) (f : OutS → OutS) (s : State) : (modOut i f s).dpll = s.dpll := (rfl)
@[simp] theorem modOut_est (i : Nat) (f : OutS → OutS) (s : State) : (modOut i f s).est = s.est := (rfl)
@[simp] theorem modOut_syn (i : Nat) (f : OutS → OutS) (s : State) : (modOut i f s).syn = s.syn := (rfl)
@[simp] theorem modOut_out (i : Nat) (f : OutS → OutS) (s : State) : (modOut i f s).out = upd s.out i f := (rfl)
@[simp] theorem modOut_commit (i : Nat) (f : OutS → OutS) (s : State) : (modOut i f s).commit = s.commit := (rfl)
@[simp] theorem modOut_tkp (i : Nat) (f : OutS → OutS) (s : State) : (modOut i f s).tkp = s.tkp := (rfl)
@[simp] theorem modOut_mns (i : Nat) (f : OutS → OutS) (s : State) : (modOut i f s).mns = s.mns := (rfl)
@[simp] theorem modOut_nvm (i : Nat) (f : OutS → OutS) (s : State) : (modOut i f s).nvm = s.nvm := (rfl)
@[simp] theorem modOut_sec (i : Nat) (f : OutS → OutS) (s : State) : (modOut i f s).sec = s.sec := (rfl)
@[simp] theorem modOut_ast (i : Nat) (f : OutS → OutS) (s : State) : (modOut i f s).ast = s.ast := (rfl)
@[simp] theorem modOut_sch (i : Nat) (f : OutS → OutS) (s : State) : (modOut i f s).sch = s.sch := (rfl)
@[simp] theorem modOut_crl (i : Nat) (f : OutS → OutS) (s : State) : (modOut i f s).crl = s.crl := (rfl)
@[simp] theorem modOut_ptp (i : Nat) (f : OutS → OutS) (s : State) : (modOut i f s).ptp = s.ptp := (rfl)

/-! ### modAst -/

@[simp] theorem modAst_pending (f : AstS → AstS) (s : State) : (modAst f s).pending = s.pending := (rfl)
@[simp] theorem modAst_now (f : AstS → AstS) (s : State) : (modAst f s).now = s.now := (rfl)
@[simp] theorem modAst_tod (f : AstS → AstS) (s : State) : (modAst f s).tod = s.tod := (rfl)
@[simp] theorem modAst_regs (f : AstS → AstS) (s : State) : (modAst f s).regs = s.regs := (rfl)
@[simp] theorem modAst_cyc (f : AstS → AstS) (s : State) : (modAst f s).cyc = s.cyc := (rfl)
@[simp] theorem modAst_free (f : AstS → AstS) (s : State) : (modAst f s).free = s.free := (rfl)
@[simp] theorem modAst_mram (f : AstS → AstS) (s : State) : (modAst f s).mram = s.mram := (rfl)
@[simp] theorem modAst_mramJ (f : AstS → AstS) (s : State) : (modAst f s).mramJ = s.mramJ := (rfl)
@[simp] theorem modAst_cram (f : AstS → AstS) (s : State) : (modAst f s).cram = s.cram := (rfl)
@[simp] theorem modAst_otp (f : AstS → AstS) (s : State) : (modAst f s).otp = s.otp := (rfl)
@[simp] theorem modAst_tempHeld (f : AstS → AstS) (s : State) : (modAst f s).tempHeld = s.tempHeld := (rfl)
@[simp] theorem modAst_tempAt (f : AstS → AstS) (s : State) : (modAst f s).tempAt = s.tempAt := (rfl)
@[simp] theorem modAst_tempStuck (f : AstS → AstS) (s : State) : (modAst f s).tempStuck = s.tempStuck := (rfl)
@[simp] theorem modAst_minAt (f : AstS → AstS) (s : State) : (modAst f s).minAt = s.minAt := (rfl)
@[simp] theorem modAst_gen (f : AstS → AstS) (s : State) : (modAst f s).gen = s.gen := (rfl)
@[simp] theorem modAst_rst (f : AstS → AstS) (s : State) : (modAst f s).rst = s.rst := (rfl)
@[simp] theorem modAst_flt (f : AstS → AstS) (s : State) : (modAst f s).flt = s.flt := (rfl)
@[simp] theorem modAst_host (f : AstS → AstS) (s : State) : (modAst f s).host = s.host := (rfl)
@[simp] theorem modAst_aon (f : AstS → AstS) (s : State) : (modAst f s).aon = s.aon := (rfl)
@[simp] theorem modAst_img (f : AstS → AstS) (s : State) : (modAst f s).img = s.img := (rfl)
@[simp] theorem modAst_clk (f : AstS → AstS) (s : State) : (modAst f s).clk = s.clk := (rfl)
@[simp] theorem modAst_pin (f : AstS → AstS) (s : State) : (modAst f s).pin = s.pin := (rfl)
@[simp] theorem modAst_todr (f : AstS → AstS) (s : State) : (modAst f s).todr = s.todr := (rfl)
@[simp] theorem modAst_todWas (f : AstS → AstS) (s : State) : (modAst f s).todWas = s.todWas := (rfl)
@[simp] theorem modAst_slot (f : AstS → AstS) (s : State) : (modAst f s).slot = s.slot := (rfl)
@[simp] theorem modAst_pmu (f : AstS → AstS) (s : State) : (modAst f s).pmu = s.pmu := (rfl)
@[simp] theorem modAst_slice (f : AstS → AstS) (s : State) : (modAst f s).slice = s.slice := (rfl)
@[simp] theorem modAst_unit (f : AstS → AstS) (s : State) : (modAst f s).unit = s.unit := (rfl)
@[simp] theorem modAst_sel (f : AstS → AstS) (s : State) : (modAst f s).sel = s.sel := (rfl)
@[simp] theorem modAst_selWas (f : AstS → AstS) (s : State) : (modAst f s).selWas = s.selWas := (rfl)
@[simp] theorem modAst_dpll (f : AstS → AstS) (s : State) : (modAst f s).dpll = s.dpll := (rfl)
@[simp] theorem modAst_est (f : AstS → AstS) (s : State) : (modAst f s).est = s.est := (rfl)
@[simp] theorem modAst_syn (f : AstS → AstS) (s : State) : (modAst f s).syn = s.syn := (rfl)
@[simp] theorem modAst_out (f : AstS → AstS) (s : State) : (modAst f s).out = s.out := (rfl)
@[simp] theorem modAst_commit (f : AstS → AstS) (s : State) : (modAst f s).commit = s.commit := (rfl)
@[simp] theorem modAst_tkp (f : AstS → AstS) (s : State) : (modAst f s).tkp = s.tkp := (rfl)
@[simp] theorem modAst_mns (f : AstS → AstS) (s : State) : (modAst f s).mns = s.mns := (rfl)
@[simp] theorem modAst_nvm (f : AstS → AstS) (s : State) : (modAst f s).nvm = s.nvm := (rfl)
@[simp] theorem modAst_sec (f : AstS → AstS) (s : State) : (modAst f s).sec = s.sec := (rfl)
@[simp] theorem modAst_ast (f : AstS → AstS) (s : State) : (modAst f s).ast = f s.ast := (rfl)
@[simp] theorem modAst_sch (f : AstS → AstS) (s : State) : (modAst f s).sch = s.sch := (rfl)
@[simp] theorem modAst_crl (f : AstS → AstS) (s : State) : (modAst f s).crl = s.crl := (rfl)
@[simp] theorem modAst_ptp (f : AstS → AstS) (s : State) : (modAst f s).ptp = s.ptp := (rfl)

/-! ### modFlt -/

@[simp] theorem modFlt_pending (f : FltS → FltS) (s : State) : (modFlt f s).pending = s.pending := (rfl)
@[simp] theorem modFlt_now (f : FltS → FltS) (s : State) : (modFlt f s).now = s.now := (rfl)
@[simp] theorem modFlt_tod (f : FltS → FltS) (s : State) : (modFlt f s).tod = s.tod := (rfl)
@[simp] theorem modFlt_regs (f : FltS → FltS) (s : State) : (modFlt f s).regs = s.regs := (rfl)
@[simp] theorem modFlt_cyc (f : FltS → FltS) (s : State) : (modFlt f s).cyc = s.cyc := (rfl)
@[simp] theorem modFlt_free (f : FltS → FltS) (s : State) : (modFlt f s).free = s.free := (rfl)
@[simp] theorem modFlt_mram (f : FltS → FltS) (s : State) : (modFlt f s).mram = s.mram := (rfl)
@[simp] theorem modFlt_mramJ (f : FltS → FltS) (s : State) : (modFlt f s).mramJ = s.mramJ := (rfl)
@[simp] theorem modFlt_cram (f : FltS → FltS) (s : State) : (modFlt f s).cram = s.cram := (rfl)
@[simp] theorem modFlt_otp (f : FltS → FltS) (s : State) : (modFlt f s).otp = s.otp := (rfl)
@[simp] theorem modFlt_tempHeld (f : FltS → FltS) (s : State) : (modFlt f s).tempHeld = s.tempHeld := (rfl)
@[simp] theorem modFlt_tempAt (f : FltS → FltS) (s : State) : (modFlt f s).tempAt = s.tempAt := (rfl)
@[simp] theorem modFlt_tempStuck (f : FltS → FltS) (s : State) : (modFlt f s).tempStuck = s.tempStuck := (rfl)
@[simp] theorem modFlt_minAt (f : FltS → FltS) (s : State) : (modFlt f s).minAt = s.minAt := (rfl)
@[simp] theorem modFlt_gen (f : FltS → FltS) (s : State) : (modFlt f s).gen = s.gen := (rfl)
@[simp] theorem modFlt_rst (f : FltS → FltS) (s : State) : (modFlt f s).rst = s.rst := (rfl)
@[simp] theorem modFlt_flt (f : FltS → FltS) (s : State) : (modFlt f s).flt = f s.flt := (rfl)
@[simp] theorem modFlt_host (f : FltS → FltS) (s : State) : (modFlt f s).host = s.host := (rfl)
@[simp] theorem modFlt_aon (f : FltS → FltS) (s : State) : (modFlt f s).aon = s.aon := (rfl)
@[simp] theorem modFlt_img (f : FltS → FltS) (s : State) : (modFlt f s).img = s.img := (rfl)
@[simp] theorem modFlt_clk (f : FltS → FltS) (s : State) : (modFlt f s).clk = s.clk := (rfl)
@[simp] theorem modFlt_pin (f : FltS → FltS) (s : State) : (modFlt f s).pin = s.pin := (rfl)
@[simp] theorem modFlt_todr (f : FltS → FltS) (s : State) : (modFlt f s).todr = s.todr := (rfl)
@[simp] theorem modFlt_todWas (f : FltS → FltS) (s : State) : (modFlt f s).todWas = s.todWas := (rfl)
@[simp] theorem modFlt_slot (f : FltS → FltS) (s : State) : (modFlt f s).slot = s.slot := (rfl)
@[simp] theorem modFlt_pmu (f : FltS → FltS) (s : State) : (modFlt f s).pmu = s.pmu := (rfl)
@[simp] theorem modFlt_slice (f : FltS → FltS) (s : State) : (modFlt f s).slice = s.slice := (rfl)
@[simp] theorem modFlt_unit (f : FltS → FltS) (s : State) : (modFlt f s).unit = s.unit := (rfl)
@[simp] theorem modFlt_sel (f : FltS → FltS) (s : State) : (modFlt f s).sel = s.sel := (rfl)
@[simp] theorem modFlt_selWas (f : FltS → FltS) (s : State) : (modFlt f s).selWas = s.selWas := (rfl)
@[simp] theorem modFlt_dpll (f : FltS → FltS) (s : State) : (modFlt f s).dpll = s.dpll := (rfl)
@[simp] theorem modFlt_est (f : FltS → FltS) (s : State) : (modFlt f s).est = s.est := (rfl)
@[simp] theorem modFlt_syn (f : FltS → FltS) (s : State) : (modFlt f s).syn = s.syn := (rfl)
@[simp] theorem modFlt_out (f : FltS → FltS) (s : State) : (modFlt f s).out = s.out := (rfl)
@[simp] theorem modFlt_commit (f : FltS → FltS) (s : State) : (modFlt f s).commit = s.commit := (rfl)
@[simp] theorem modFlt_tkp (f : FltS → FltS) (s : State) : (modFlt f s).tkp = s.tkp := (rfl)
@[simp] theorem modFlt_mns (f : FltS → FltS) (s : State) : (modFlt f s).mns = s.mns := (rfl)
@[simp] theorem modFlt_nvm (f : FltS → FltS) (s : State) : (modFlt f s).nvm = s.nvm := (rfl)
@[simp] theorem modFlt_sec (f : FltS → FltS) (s : State) : (modFlt f s).sec = s.sec := (rfl)
@[simp] theorem modFlt_ast (f : FltS → FltS) (s : State) : (modFlt f s).ast = s.ast := (rfl)
@[simp] theorem modFlt_sch (f : FltS → FltS) (s : State) : (modFlt f s).sch = s.sch := (rfl)
@[simp] theorem modFlt_crl (f : FltS → FltS) (s : State) : (modFlt f s).crl = s.crl := (rfl)
@[simp] theorem modFlt_ptp (f : FltS → FltS) (s : State) : (modFlt f s).ptp = s.ptp := (rfl)

/-! ### modGen -/

@[simp] theorem modGen_pending (f : GenS → GenS) (s : State) : (modGen f s).pending = s.pending := (rfl)
@[simp] theorem modGen_now (f : GenS → GenS) (s : State) : (modGen f s).now = s.now := (rfl)
@[simp] theorem modGen_tod (f : GenS → GenS) (s : State) : (modGen f s).tod = s.tod := (rfl)
@[simp] theorem modGen_regs (f : GenS → GenS) (s : State) : (modGen f s).regs = s.regs := (rfl)
@[simp] theorem modGen_cyc (f : GenS → GenS) (s : State) : (modGen f s).cyc = s.cyc := (rfl)
@[simp] theorem modGen_free (f : GenS → GenS) (s : State) : (modGen f s).free = s.free := (rfl)
@[simp] theorem modGen_mram (f : GenS → GenS) (s : State) : (modGen f s).mram = s.mram := (rfl)
@[simp] theorem modGen_mramJ (f : GenS → GenS) (s : State) : (modGen f s).mramJ = s.mramJ := (rfl)
@[simp] theorem modGen_cram (f : GenS → GenS) (s : State) : (modGen f s).cram = s.cram := (rfl)
@[simp] theorem modGen_otp (f : GenS → GenS) (s : State) : (modGen f s).otp = s.otp := (rfl)
@[simp] theorem modGen_tempHeld (f : GenS → GenS) (s : State) : (modGen f s).tempHeld = s.tempHeld := (rfl)
@[simp] theorem modGen_tempAt (f : GenS → GenS) (s : State) : (modGen f s).tempAt = s.tempAt := (rfl)
@[simp] theorem modGen_tempStuck (f : GenS → GenS) (s : State) : (modGen f s).tempStuck = s.tempStuck := (rfl)
@[simp] theorem modGen_minAt (f : GenS → GenS) (s : State) : (modGen f s).minAt = s.minAt := (rfl)
@[simp] theorem modGen_gen (f : GenS → GenS) (s : State) : (modGen f s).gen = f s.gen := (rfl)
@[simp] theorem modGen_rst (f : GenS → GenS) (s : State) : (modGen f s).rst = s.rst := (rfl)
@[simp] theorem modGen_flt (f : GenS → GenS) (s : State) : (modGen f s).flt = s.flt := (rfl)
@[simp] theorem modGen_host (f : GenS → GenS) (s : State) : (modGen f s).host = s.host := (rfl)
@[simp] theorem modGen_aon (f : GenS → GenS) (s : State) : (modGen f s).aon = s.aon := (rfl)
@[simp] theorem modGen_img (f : GenS → GenS) (s : State) : (modGen f s).img = s.img := (rfl)
@[simp] theorem modGen_clk (f : GenS → GenS) (s : State) : (modGen f s).clk = s.clk := (rfl)
@[simp] theorem modGen_pin (f : GenS → GenS) (s : State) : (modGen f s).pin = s.pin := (rfl)
@[simp] theorem modGen_todr (f : GenS → GenS) (s : State) : (modGen f s).todr = s.todr := (rfl)
@[simp] theorem modGen_todWas (f : GenS → GenS) (s : State) : (modGen f s).todWas = s.todWas := (rfl)
@[simp] theorem modGen_slot (f : GenS → GenS) (s : State) : (modGen f s).slot = s.slot := (rfl)
@[simp] theorem modGen_pmu (f : GenS → GenS) (s : State) : (modGen f s).pmu = s.pmu := (rfl)
@[simp] theorem modGen_slice (f : GenS → GenS) (s : State) : (modGen f s).slice = s.slice := (rfl)
@[simp] theorem modGen_unit (f : GenS → GenS) (s : State) : (modGen f s).unit = s.unit := (rfl)
@[simp] theorem modGen_sel (f : GenS → GenS) (s : State) : (modGen f s).sel = s.sel := (rfl)
@[simp] theorem modGen_selWas (f : GenS → GenS) (s : State) : (modGen f s).selWas = s.selWas := (rfl)
@[simp] theorem modGen_dpll (f : GenS → GenS) (s : State) : (modGen f s).dpll = s.dpll := (rfl)
@[simp] theorem modGen_est (f : GenS → GenS) (s : State) : (modGen f s).est = s.est := (rfl)
@[simp] theorem modGen_syn (f : GenS → GenS) (s : State) : (modGen f s).syn = s.syn := (rfl)
@[simp] theorem modGen_out (f : GenS → GenS) (s : State) : (modGen f s).out = s.out := (rfl)
@[simp] theorem modGen_commit (f : GenS → GenS) (s : State) : (modGen f s).commit = s.commit := (rfl)
@[simp] theorem modGen_tkp (f : GenS → GenS) (s : State) : (modGen f s).tkp = s.tkp := (rfl)
@[simp] theorem modGen_mns (f : GenS → GenS) (s : State) : (modGen f s).mns = s.mns := (rfl)
@[simp] theorem modGen_nvm (f : GenS → GenS) (s : State) : (modGen f s).nvm = s.nvm := (rfl)
@[simp] theorem modGen_sec (f : GenS → GenS) (s : State) : (modGen f s).sec = s.sec := (rfl)
@[simp] theorem modGen_ast (f : GenS → GenS) (s : State) : (modGen f s).ast = s.ast := (rfl)
@[simp] theorem modGen_sch (f : GenS → GenS) (s : State) : (modGen f s).sch = s.sch := (rfl)
@[simp] theorem modGen_crl (f : GenS → GenS) (s : State) : (modGen f s).crl = s.crl := (rfl)
@[simp] theorem modGen_ptp (f : GenS → GenS) (s : State) : (modGen f s).ptp = s.ptp := (rfl)

/-! ### modHost -/

@[simp] theorem modHost_pending (f : HostS → HostS) (s : State) : (modHost f s).pending = s.pending := (rfl)
@[simp] theorem modHost_now (f : HostS → HostS) (s : State) : (modHost f s).now = s.now := (rfl)
@[simp] theorem modHost_tod (f : HostS → HostS) (s : State) : (modHost f s).tod = s.tod := (rfl)
@[simp] theorem modHost_regs (f : HostS → HostS) (s : State) : (modHost f s).regs = s.regs := (rfl)
@[simp] theorem modHost_cyc (f : HostS → HostS) (s : State) : (modHost f s).cyc = s.cyc := (rfl)
@[simp] theorem modHost_free (f : HostS → HostS) (s : State) : (modHost f s).free = s.free := (rfl)
@[simp] theorem modHost_mram (f : HostS → HostS) (s : State) : (modHost f s).mram = s.mram := (rfl)
@[simp] theorem modHost_mramJ (f : HostS → HostS) (s : State) : (modHost f s).mramJ = s.mramJ := (rfl)
@[simp] theorem modHost_cram (f : HostS → HostS) (s : State) : (modHost f s).cram = s.cram := (rfl)
@[simp] theorem modHost_otp (f : HostS → HostS) (s : State) : (modHost f s).otp = s.otp := (rfl)
@[simp] theorem modHost_tempHeld (f : HostS → HostS) (s : State) : (modHost f s).tempHeld = s.tempHeld := (rfl)
@[simp] theorem modHost_tempAt (f : HostS → HostS) (s : State) : (modHost f s).tempAt = s.tempAt := (rfl)
@[simp] theorem modHost_tempStuck (f : HostS → HostS) (s : State) : (modHost f s).tempStuck = s.tempStuck := (rfl)
@[simp] theorem modHost_minAt (f : HostS → HostS) (s : State) : (modHost f s).minAt = s.minAt := (rfl)
@[simp] theorem modHost_gen (f : HostS → HostS) (s : State) : (modHost f s).gen = s.gen := (rfl)
@[simp] theorem modHost_rst (f : HostS → HostS) (s : State) : (modHost f s).rst = s.rst := (rfl)
@[simp] theorem modHost_flt (f : HostS → HostS) (s : State) : (modHost f s).flt = s.flt := (rfl)
@[simp] theorem modHost_host (f : HostS → HostS) (s : State) : (modHost f s).host = f s.host := (rfl)
@[simp] theorem modHost_aon (f : HostS → HostS) (s : State) : (modHost f s).aon = s.aon := (rfl)
@[simp] theorem modHost_img (f : HostS → HostS) (s : State) : (modHost f s).img = s.img := (rfl)
@[simp] theorem modHost_clk (f : HostS → HostS) (s : State) : (modHost f s).clk = s.clk := (rfl)
@[simp] theorem modHost_pin (f : HostS → HostS) (s : State) : (modHost f s).pin = s.pin := (rfl)
@[simp] theorem modHost_todr (f : HostS → HostS) (s : State) : (modHost f s).todr = s.todr := (rfl)
@[simp] theorem modHost_todWas (f : HostS → HostS) (s : State) : (modHost f s).todWas = s.todWas := (rfl)
@[simp] theorem modHost_slot (f : HostS → HostS) (s : State) : (modHost f s).slot = s.slot := (rfl)
@[simp] theorem modHost_pmu (f : HostS → HostS) (s : State) : (modHost f s).pmu = s.pmu := (rfl)
@[simp] theorem modHost_slice (f : HostS → HostS) (s : State) : (modHost f s).slice = s.slice := (rfl)
@[simp] theorem modHost_unit (f : HostS → HostS) (s : State) : (modHost f s).unit = s.unit := (rfl)
@[simp] theorem modHost_sel (f : HostS → HostS) (s : State) : (modHost f s).sel = s.sel := (rfl)
@[simp] theorem modHost_selWas (f : HostS → HostS) (s : State) : (modHost f s).selWas = s.selWas := (rfl)
@[simp] theorem modHost_dpll (f : HostS → HostS) (s : State) : (modHost f s).dpll = s.dpll := (rfl)
@[simp] theorem modHost_est (f : HostS → HostS) (s : State) : (modHost f s).est = s.est := (rfl)
@[simp] theorem modHost_syn (f : HostS → HostS) (s : State) : (modHost f s).syn = s.syn := (rfl)
@[simp] theorem modHost_out (f : HostS → HostS) (s : State) : (modHost f s).out = s.out := (rfl)
@[simp] theorem modHost_commit (f : HostS → HostS) (s : State) : (modHost f s).commit = s.commit := (rfl)
@[simp] theorem modHost_tkp (f : HostS → HostS) (s : State) : (modHost f s).tkp = s.tkp := (rfl)
@[simp] theorem modHost_mns (f : HostS → HostS) (s : State) : (modHost f s).mns = s.mns := (rfl)
@[simp] theorem modHost_nvm (f : HostS → HostS) (s : State) : (modHost f s).nvm = s.nvm := (rfl)
@[simp] theorem modHost_sec (f : HostS → HostS) (s : State) : (modHost f s).sec = s.sec := (rfl)
@[simp] theorem modHost_ast (f : HostS → HostS) (s : State) : (modHost f s).ast = s.ast := (rfl)
@[simp] theorem modHost_sch (f : HostS → HostS) (s : State) : (modHost f s).sch = s.sch := (rfl)
@[simp] theorem modHost_crl (f : HostS → HostS) (s : State) : (modHost f s).crl = s.crl := (rfl)
@[simp] theorem modHost_ptp (f : HostS → HostS) (s : State) : (modHost f s).ptp = s.ptp := (rfl)

/-! ### modNvm -/

@[simp] theorem modNvm_pending (f : NvmS → NvmS) (s : State) : (modNvm f s).pending = s.pending := (rfl)
@[simp] theorem modNvm_now (f : NvmS → NvmS) (s : State) : (modNvm f s).now = s.now := (rfl)
@[simp] theorem modNvm_tod (f : NvmS → NvmS) (s : State) : (modNvm f s).tod = s.tod := (rfl)
@[simp] theorem modNvm_regs (f : NvmS → NvmS) (s : State) : (modNvm f s).regs = s.regs := (rfl)
@[simp] theorem modNvm_cyc (f : NvmS → NvmS) (s : State) : (modNvm f s).cyc = s.cyc := (rfl)
@[simp] theorem modNvm_free (f : NvmS → NvmS) (s : State) : (modNvm f s).free = s.free := (rfl)
@[simp] theorem modNvm_mram (f : NvmS → NvmS) (s : State) : (modNvm f s).mram = s.mram := (rfl)
@[simp] theorem modNvm_mramJ (f : NvmS → NvmS) (s : State) : (modNvm f s).mramJ = s.mramJ := (rfl)
@[simp] theorem modNvm_cram (f : NvmS → NvmS) (s : State) : (modNvm f s).cram = s.cram := (rfl)
@[simp] theorem modNvm_otp (f : NvmS → NvmS) (s : State) : (modNvm f s).otp = s.otp := (rfl)
@[simp] theorem modNvm_tempHeld (f : NvmS → NvmS) (s : State) : (modNvm f s).tempHeld = s.tempHeld := (rfl)
@[simp] theorem modNvm_tempAt (f : NvmS → NvmS) (s : State) : (modNvm f s).tempAt = s.tempAt := (rfl)
@[simp] theorem modNvm_tempStuck (f : NvmS → NvmS) (s : State) : (modNvm f s).tempStuck = s.tempStuck := (rfl)
@[simp] theorem modNvm_minAt (f : NvmS → NvmS) (s : State) : (modNvm f s).minAt = s.minAt := (rfl)
@[simp] theorem modNvm_gen (f : NvmS → NvmS) (s : State) : (modNvm f s).gen = s.gen := (rfl)
@[simp] theorem modNvm_rst (f : NvmS → NvmS) (s : State) : (modNvm f s).rst = s.rst := (rfl)
@[simp] theorem modNvm_flt (f : NvmS → NvmS) (s : State) : (modNvm f s).flt = s.flt := (rfl)
@[simp] theorem modNvm_host (f : NvmS → NvmS) (s : State) : (modNvm f s).host = s.host := (rfl)
@[simp] theorem modNvm_aon (f : NvmS → NvmS) (s : State) : (modNvm f s).aon = s.aon := (rfl)
@[simp] theorem modNvm_img (f : NvmS → NvmS) (s : State) : (modNvm f s).img = s.img := (rfl)
@[simp] theorem modNvm_clk (f : NvmS → NvmS) (s : State) : (modNvm f s).clk = s.clk := (rfl)
@[simp] theorem modNvm_pin (f : NvmS → NvmS) (s : State) : (modNvm f s).pin = s.pin := (rfl)
@[simp] theorem modNvm_todr (f : NvmS → NvmS) (s : State) : (modNvm f s).todr = s.todr := (rfl)
@[simp] theorem modNvm_todWas (f : NvmS → NvmS) (s : State) : (modNvm f s).todWas = s.todWas := (rfl)
@[simp] theorem modNvm_slot (f : NvmS → NvmS) (s : State) : (modNvm f s).slot = s.slot := (rfl)
@[simp] theorem modNvm_pmu (f : NvmS → NvmS) (s : State) : (modNvm f s).pmu = s.pmu := (rfl)
@[simp] theorem modNvm_slice (f : NvmS → NvmS) (s : State) : (modNvm f s).slice = s.slice := (rfl)
@[simp] theorem modNvm_unit (f : NvmS → NvmS) (s : State) : (modNvm f s).unit = s.unit := (rfl)
@[simp] theorem modNvm_sel (f : NvmS → NvmS) (s : State) : (modNvm f s).sel = s.sel := (rfl)
@[simp] theorem modNvm_selWas (f : NvmS → NvmS) (s : State) : (modNvm f s).selWas = s.selWas := (rfl)
@[simp] theorem modNvm_dpll (f : NvmS → NvmS) (s : State) : (modNvm f s).dpll = s.dpll := (rfl)
@[simp] theorem modNvm_est (f : NvmS → NvmS) (s : State) : (modNvm f s).est = s.est := (rfl)
@[simp] theorem modNvm_syn (f : NvmS → NvmS) (s : State) : (modNvm f s).syn = s.syn := (rfl)
@[simp] theorem modNvm_out (f : NvmS → NvmS) (s : State) : (modNvm f s).out = s.out := (rfl)
@[simp] theorem modNvm_commit (f : NvmS → NvmS) (s : State) : (modNvm f s).commit = s.commit := (rfl)
@[simp] theorem modNvm_tkp (f : NvmS → NvmS) (s : State) : (modNvm f s).tkp = s.tkp := (rfl)
@[simp] theorem modNvm_mns (f : NvmS → NvmS) (s : State) : (modNvm f s).mns = s.mns := (rfl)
@[simp] theorem modNvm_nvm (f : NvmS → NvmS) (s : State) : (modNvm f s).nvm = f s.nvm := (rfl)
@[simp] theorem modNvm_sec (f : NvmS → NvmS) (s : State) : (modNvm f s).sec = s.sec := (rfl)
@[simp] theorem modNvm_ast (f : NvmS → NvmS) (s : State) : (modNvm f s).ast = s.ast := (rfl)
@[simp] theorem modNvm_sch (f : NvmS → NvmS) (s : State) : (modNvm f s).sch = s.sch := (rfl)
@[simp] theorem modNvm_crl (f : NvmS → NvmS) (s : State) : (modNvm f s).crl = s.crl := (rfl)
@[simp] theorem modNvm_ptp (f : NvmS → NvmS) (s : State) : (modNvm f s).ptp = s.ptp := (rfl)

/-! ### modMns -/

@[simp] theorem modMns_pending (f : MnsS → MnsS) (s : State) : (modMns f s).pending = s.pending := (rfl)
@[simp] theorem modMns_now (f : MnsS → MnsS) (s : State) : (modMns f s).now = s.now := (rfl)
@[simp] theorem modMns_tod (f : MnsS → MnsS) (s : State) : (modMns f s).tod = s.tod := (rfl)
@[simp] theorem modMns_regs (f : MnsS → MnsS) (s : State) : (modMns f s).regs = s.regs := (rfl)
@[simp] theorem modMns_cyc (f : MnsS → MnsS) (s : State) : (modMns f s).cyc = s.cyc := (rfl)
@[simp] theorem modMns_free (f : MnsS → MnsS) (s : State) : (modMns f s).free = s.free := (rfl)
@[simp] theorem modMns_mram (f : MnsS → MnsS) (s : State) : (modMns f s).mram = s.mram := (rfl)
@[simp] theorem modMns_mramJ (f : MnsS → MnsS) (s : State) : (modMns f s).mramJ = s.mramJ := (rfl)
@[simp] theorem modMns_cram (f : MnsS → MnsS) (s : State) : (modMns f s).cram = s.cram := (rfl)
@[simp] theorem modMns_otp (f : MnsS → MnsS) (s : State) : (modMns f s).otp = s.otp := (rfl)
@[simp] theorem modMns_tempHeld (f : MnsS → MnsS) (s : State) : (modMns f s).tempHeld = s.tempHeld := (rfl)
@[simp] theorem modMns_tempAt (f : MnsS → MnsS) (s : State) : (modMns f s).tempAt = s.tempAt := (rfl)
@[simp] theorem modMns_tempStuck (f : MnsS → MnsS) (s : State) : (modMns f s).tempStuck = s.tempStuck := (rfl)
@[simp] theorem modMns_minAt (f : MnsS → MnsS) (s : State) : (modMns f s).minAt = s.minAt := (rfl)
@[simp] theorem modMns_gen (f : MnsS → MnsS) (s : State) : (modMns f s).gen = s.gen := (rfl)
@[simp] theorem modMns_rst (f : MnsS → MnsS) (s : State) : (modMns f s).rst = s.rst := (rfl)
@[simp] theorem modMns_flt (f : MnsS → MnsS) (s : State) : (modMns f s).flt = s.flt := (rfl)
@[simp] theorem modMns_host (f : MnsS → MnsS) (s : State) : (modMns f s).host = s.host := (rfl)
@[simp] theorem modMns_aon (f : MnsS → MnsS) (s : State) : (modMns f s).aon = s.aon := (rfl)
@[simp] theorem modMns_img (f : MnsS → MnsS) (s : State) : (modMns f s).img = s.img := (rfl)
@[simp] theorem modMns_clk (f : MnsS → MnsS) (s : State) : (modMns f s).clk = s.clk := (rfl)
@[simp] theorem modMns_pin (f : MnsS → MnsS) (s : State) : (modMns f s).pin = s.pin := (rfl)
@[simp] theorem modMns_todr (f : MnsS → MnsS) (s : State) : (modMns f s).todr = s.todr := (rfl)
@[simp] theorem modMns_todWas (f : MnsS → MnsS) (s : State) : (modMns f s).todWas = s.todWas := (rfl)
@[simp] theorem modMns_slot (f : MnsS → MnsS) (s : State) : (modMns f s).slot = s.slot := (rfl)
@[simp] theorem modMns_pmu (f : MnsS → MnsS) (s : State) : (modMns f s).pmu = s.pmu := (rfl)
@[simp] theorem modMns_slice (f : MnsS → MnsS) (s : State) : (modMns f s).slice = s.slice := (rfl)
@[simp] theorem modMns_unit (f : MnsS → MnsS) (s : State) : (modMns f s).unit = s.unit := (rfl)
@[simp] theorem modMns_sel (f : MnsS → MnsS) (s : State) : (modMns f s).sel = s.sel := (rfl)
@[simp] theorem modMns_selWas (f : MnsS → MnsS) (s : State) : (modMns f s).selWas = s.selWas := (rfl)
@[simp] theorem modMns_dpll (f : MnsS → MnsS) (s : State) : (modMns f s).dpll = s.dpll := (rfl)
@[simp] theorem modMns_est (f : MnsS → MnsS) (s : State) : (modMns f s).est = s.est := (rfl)
@[simp] theorem modMns_syn (f : MnsS → MnsS) (s : State) : (modMns f s).syn = s.syn := (rfl)
@[simp] theorem modMns_out (f : MnsS → MnsS) (s : State) : (modMns f s).out = s.out := (rfl)
@[simp] theorem modMns_commit (f : MnsS → MnsS) (s : State) : (modMns f s).commit = s.commit := (rfl)
@[simp] theorem modMns_tkp (f : MnsS → MnsS) (s : State) : (modMns f s).tkp = s.tkp := (rfl)
@[simp] theorem modMns_mns (f : MnsS → MnsS) (s : State) : (modMns f s).mns = f s.mns := (rfl)
@[simp] theorem modMns_nvm (f : MnsS → MnsS) (s : State) : (modMns f s).nvm = s.nvm := (rfl)
@[simp] theorem modMns_sec (f : MnsS → MnsS) (s : State) : (modMns f s).sec = s.sec := (rfl)
@[simp] theorem modMns_ast (f : MnsS → MnsS) (s : State) : (modMns f s).ast = s.ast := (rfl)
@[simp] theorem modMns_sch (f : MnsS → MnsS) (s : State) : (modMns f s).sch = s.sch := (rfl)
@[simp] theorem modMns_crl (f : MnsS → MnsS) (s : State) : (modMns f s).crl = s.crl := (rfl)
@[simp] theorem modMns_ptp (f : MnsS → MnsS) (s : State) : (modMns f s).ptp = s.ptp := (rfl)

/-! ### modCrl -/

@[simp] theorem modCrl_pending (f : CrlS → CrlS) (s : State) : (modCrl f s).pending = s.pending := (rfl)
@[simp] theorem modCrl_now (f : CrlS → CrlS) (s : State) : (modCrl f s).now = s.now := (rfl)
@[simp] theorem modCrl_tod (f : CrlS → CrlS) (s : State) : (modCrl f s).tod = s.tod := (rfl)
@[simp] theorem modCrl_regs (f : CrlS → CrlS) (s : State) : (modCrl f s).regs = s.regs := (rfl)
@[simp] theorem modCrl_cyc (f : CrlS → CrlS) (s : State) : (modCrl f s).cyc = s.cyc := (rfl)
@[simp] theorem modCrl_free (f : CrlS → CrlS) (s : State) : (modCrl f s).free = s.free := (rfl)
@[simp] theorem modCrl_mram (f : CrlS → CrlS) (s : State) : (modCrl f s).mram = s.mram := (rfl)
@[simp] theorem modCrl_mramJ (f : CrlS → CrlS) (s : State) : (modCrl f s).mramJ = s.mramJ := (rfl)
@[simp] theorem modCrl_cram (f : CrlS → CrlS) (s : State) : (modCrl f s).cram = s.cram := (rfl)
@[simp] theorem modCrl_otp (f : CrlS → CrlS) (s : State) : (modCrl f s).otp = s.otp := (rfl)
@[simp] theorem modCrl_tempHeld (f : CrlS → CrlS) (s : State) : (modCrl f s).tempHeld = s.tempHeld := (rfl)
@[simp] theorem modCrl_tempAt (f : CrlS → CrlS) (s : State) : (modCrl f s).tempAt = s.tempAt := (rfl)
@[simp] theorem modCrl_tempStuck (f : CrlS → CrlS) (s : State) : (modCrl f s).tempStuck = s.tempStuck := (rfl)
@[simp] theorem modCrl_minAt (f : CrlS → CrlS) (s : State) : (modCrl f s).minAt = s.minAt := (rfl)
@[simp] theorem modCrl_gen (f : CrlS → CrlS) (s : State) : (modCrl f s).gen = s.gen := (rfl)
@[simp] theorem modCrl_rst (f : CrlS → CrlS) (s : State) : (modCrl f s).rst = s.rst := (rfl)
@[simp] theorem modCrl_flt (f : CrlS → CrlS) (s : State) : (modCrl f s).flt = s.flt := (rfl)
@[simp] theorem modCrl_host (f : CrlS → CrlS) (s : State) : (modCrl f s).host = s.host := (rfl)
@[simp] theorem modCrl_aon (f : CrlS → CrlS) (s : State) : (modCrl f s).aon = s.aon := (rfl)
@[simp] theorem modCrl_img (f : CrlS → CrlS) (s : State) : (modCrl f s).img = s.img := (rfl)
@[simp] theorem modCrl_clk (f : CrlS → CrlS) (s : State) : (modCrl f s).clk = s.clk := (rfl)
@[simp] theorem modCrl_pin (f : CrlS → CrlS) (s : State) : (modCrl f s).pin = s.pin := (rfl)
@[simp] theorem modCrl_todr (f : CrlS → CrlS) (s : State) : (modCrl f s).todr = s.todr := (rfl)
@[simp] theorem modCrl_todWas (f : CrlS → CrlS) (s : State) : (modCrl f s).todWas = s.todWas := (rfl)
@[simp] theorem modCrl_slot (f : CrlS → CrlS) (s : State) : (modCrl f s).slot = s.slot := (rfl)
@[simp] theorem modCrl_pmu (f : CrlS → CrlS) (s : State) : (modCrl f s).pmu = s.pmu := (rfl)
@[simp] theorem modCrl_slice (f : CrlS → CrlS) (s : State) : (modCrl f s).slice = s.slice := (rfl)
@[simp] theorem modCrl_unit (f : CrlS → CrlS) (s : State) : (modCrl f s).unit = s.unit := (rfl)
@[simp] theorem modCrl_sel (f : CrlS → CrlS) (s : State) : (modCrl f s).sel = s.sel := (rfl)
@[simp] theorem modCrl_selWas (f : CrlS → CrlS) (s : State) : (modCrl f s).selWas = s.selWas := (rfl)
@[simp] theorem modCrl_dpll (f : CrlS → CrlS) (s : State) : (modCrl f s).dpll = s.dpll := (rfl)
@[simp] theorem modCrl_est (f : CrlS → CrlS) (s : State) : (modCrl f s).est = s.est := (rfl)
@[simp] theorem modCrl_syn (f : CrlS → CrlS) (s : State) : (modCrl f s).syn = s.syn := (rfl)
@[simp] theorem modCrl_out (f : CrlS → CrlS) (s : State) : (modCrl f s).out = s.out := (rfl)
@[simp] theorem modCrl_commit (f : CrlS → CrlS) (s : State) : (modCrl f s).commit = s.commit := (rfl)
@[simp] theorem modCrl_tkp (f : CrlS → CrlS) (s : State) : (modCrl f s).tkp = s.tkp := (rfl)
@[simp] theorem modCrl_mns (f : CrlS → CrlS) (s : State) : (modCrl f s).mns = s.mns := (rfl)
@[simp] theorem modCrl_nvm (f : CrlS → CrlS) (s : State) : (modCrl f s).nvm = s.nvm := (rfl)
@[simp] theorem modCrl_sec (f : CrlS → CrlS) (s : State) : (modCrl f s).sec = s.sec := (rfl)
@[simp] theorem modCrl_ast (f : CrlS → CrlS) (s : State) : (modCrl f s).ast = s.ast := (rfl)
@[simp] theorem modCrl_sch (f : CrlS → CrlS) (s : State) : (modCrl f s).sch = s.sch := (rfl)
@[simp] theorem modCrl_crl (f : CrlS → CrlS) (s : State) : (modCrl f s).crl = f s.crl := (rfl)
@[simp] theorem modCrl_ptp (f : CrlS → CrlS) (s : State) : (modCrl f s).ptp = s.ptp := (rfl)

/-! ### modPtp -/

@[simp] theorem modPtp_pending (f : PtpS → PtpS) (s : State) : (modPtp f s).pending = s.pending := (rfl)
@[simp] theorem modPtp_now (f : PtpS → PtpS) (s : State) : (modPtp f s).now = s.now := (rfl)
@[simp] theorem modPtp_tod (f : PtpS → PtpS) (s : State) : (modPtp f s).tod = s.tod := (rfl)
@[simp] theorem modPtp_regs (f : PtpS → PtpS) (s : State) : (modPtp f s).regs = s.regs := (rfl)
@[simp] theorem modPtp_cyc (f : PtpS → PtpS) (s : State) : (modPtp f s).cyc = s.cyc := (rfl)
@[simp] theorem modPtp_free (f : PtpS → PtpS) (s : State) : (modPtp f s).free = s.free := (rfl)
@[simp] theorem modPtp_mram (f : PtpS → PtpS) (s : State) : (modPtp f s).mram = s.mram := (rfl)
@[simp] theorem modPtp_mramJ (f : PtpS → PtpS) (s : State) : (modPtp f s).mramJ = s.mramJ := (rfl)
@[simp] theorem modPtp_cram (f : PtpS → PtpS) (s : State) : (modPtp f s).cram = s.cram := (rfl)
@[simp] theorem modPtp_otp (f : PtpS → PtpS) (s : State) : (modPtp f s).otp = s.otp := (rfl)
@[simp] theorem modPtp_tempHeld (f : PtpS → PtpS) (s : State) : (modPtp f s).tempHeld = s.tempHeld := (rfl)
@[simp] theorem modPtp_tempAt (f : PtpS → PtpS) (s : State) : (modPtp f s).tempAt = s.tempAt := (rfl)
@[simp] theorem modPtp_tempStuck (f : PtpS → PtpS) (s : State) : (modPtp f s).tempStuck = s.tempStuck := (rfl)
@[simp] theorem modPtp_minAt (f : PtpS → PtpS) (s : State) : (modPtp f s).minAt = s.minAt := (rfl)
@[simp] theorem modPtp_gen (f : PtpS → PtpS) (s : State) : (modPtp f s).gen = s.gen := (rfl)
@[simp] theorem modPtp_rst (f : PtpS → PtpS) (s : State) : (modPtp f s).rst = s.rst := (rfl)
@[simp] theorem modPtp_flt (f : PtpS → PtpS) (s : State) : (modPtp f s).flt = s.flt := (rfl)
@[simp] theorem modPtp_host (f : PtpS → PtpS) (s : State) : (modPtp f s).host = s.host := (rfl)
@[simp] theorem modPtp_aon (f : PtpS → PtpS) (s : State) : (modPtp f s).aon = s.aon := (rfl)
@[simp] theorem modPtp_img (f : PtpS → PtpS) (s : State) : (modPtp f s).img = s.img := (rfl)
@[simp] theorem modPtp_clk (f : PtpS → PtpS) (s : State) : (modPtp f s).clk = s.clk := (rfl)
@[simp] theorem modPtp_pin (f : PtpS → PtpS) (s : State) : (modPtp f s).pin = s.pin := (rfl)
@[simp] theorem modPtp_todr (f : PtpS → PtpS) (s : State) : (modPtp f s).todr = s.todr := (rfl)
@[simp] theorem modPtp_todWas (f : PtpS → PtpS) (s : State) : (modPtp f s).todWas = s.todWas := (rfl)
@[simp] theorem modPtp_slot (f : PtpS → PtpS) (s : State) : (modPtp f s).slot = s.slot := (rfl)
@[simp] theorem modPtp_pmu (f : PtpS → PtpS) (s : State) : (modPtp f s).pmu = s.pmu := (rfl)
@[simp] theorem modPtp_slice (f : PtpS → PtpS) (s : State) : (modPtp f s).slice = s.slice := (rfl)
@[simp] theorem modPtp_unit (f : PtpS → PtpS) (s : State) : (modPtp f s).unit = s.unit := (rfl)
@[simp] theorem modPtp_sel (f : PtpS → PtpS) (s : State) : (modPtp f s).sel = s.sel := (rfl)
@[simp] theorem modPtp_selWas (f : PtpS → PtpS) (s : State) : (modPtp f s).selWas = s.selWas := (rfl)
@[simp] theorem modPtp_dpll (f : PtpS → PtpS) (s : State) : (modPtp f s).dpll = s.dpll := (rfl)
@[simp] theorem modPtp_est (f : PtpS → PtpS) (s : State) : (modPtp f s).est = s.est := (rfl)
@[simp] theorem modPtp_syn (f : PtpS → PtpS) (s : State) : (modPtp f s).syn = s.syn := (rfl)
@[simp] theorem modPtp_out (f : PtpS → PtpS) (s : State) : (modPtp f s).out = s.out := (rfl)
@[simp] theorem modPtp_commit (f : PtpS → PtpS) (s : State) : (modPtp f s).commit = s.commit := (rfl)
@[simp] theorem modPtp_tkp (f : PtpS → PtpS) (s : State) : (modPtp f s).tkp = s.tkp := (rfl)
@[simp] theorem modPtp_mns (f : PtpS → PtpS) (s : State) : (modPtp f s).mns = s.mns := (rfl)
@[simp] theorem modPtp_nvm (f : PtpS → PtpS) (s : State) : (modPtp f s).nvm = s.nvm := (rfl)
@[simp] theorem modPtp_sec (f : PtpS → PtpS) (s : State) : (modPtp f s).sec = s.sec := (rfl)
@[simp] theorem modPtp_ast (f : PtpS → PtpS) (s : State) : (modPtp f s).ast = s.ast := (rfl)
@[simp] theorem modPtp_sch (f : PtpS → PtpS) (s : State) : (modPtp f s).sch = s.sch := (rfl)
@[simp] theorem modPtp_crl (f : PtpS → PtpS) (s : State) : (modPtp f s).crl = s.crl := (rfl)
@[simp] theorem modPtp_ptp (f : PtpS → PtpS) (s : State) : (modPtp f s).ptp = f s.ptp := (rfl)

/-! ### modClk -/

@[simp] theorem modClk_pending (f : ClkS → ClkS) (s : State) : (modClk f s).pending = s.pending := (rfl)
@[simp] theorem modClk_now (f : ClkS → ClkS) (s : State) : (modClk f s).now = s.now := (rfl)
@[simp] theorem modClk_tod (f : ClkS → ClkS) (s : State) : (modClk f s).tod = s.tod := (rfl)
@[simp] theorem modClk_regs (f : ClkS → ClkS) (s : State) : (modClk f s).regs = s.regs := (rfl)
@[simp] theorem modClk_cyc (f : ClkS → ClkS) (s : State) : (modClk f s).cyc = s.cyc := (rfl)
@[simp] theorem modClk_free (f : ClkS → ClkS) (s : State) : (modClk f s).free = s.free := (rfl)
@[simp] theorem modClk_mram (f : ClkS → ClkS) (s : State) : (modClk f s).mram = s.mram := (rfl)
@[simp] theorem modClk_mramJ (f : ClkS → ClkS) (s : State) : (modClk f s).mramJ = s.mramJ := (rfl)
@[simp] theorem modClk_cram (f : ClkS → ClkS) (s : State) : (modClk f s).cram = s.cram := (rfl)
@[simp] theorem modClk_otp (f : ClkS → ClkS) (s : State) : (modClk f s).otp = s.otp := (rfl)
@[simp] theorem modClk_tempHeld (f : ClkS → ClkS) (s : State) : (modClk f s).tempHeld = s.tempHeld := (rfl)
@[simp] theorem modClk_tempAt (f : ClkS → ClkS) (s : State) : (modClk f s).tempAt = s.tempAt := (rfl)
@[simp] theorem modClk_tempStuck (f : ClkS → ClkS) (s : State) : (modClk f s).tempStuck = s.tempStuck := (rfl)
@[simp] theorem modClk_minAt (f : ClkS → ClkS) (s : State) : (modClk f s).minAt = s.minAt := (rfl)
@[simp] theorem modClk_gen (f : ClkS → ClkS) (s : State) : (modClk f s).gen = s.gen := (rfl)
@[simp] theorem modClk_rst (f : ClkS → ClkS) (s : State) : (modClk f s).rst = s.rst := (rfl)
@[simp] theorem modClk_flt (f : ClkS → ClkS) (s : State) : (modClk f s).flt = s.flt := (rfl)
@[simp] theorem modClk_host (f : ClkS → ClkS) (s : State) : (modClk f s).host = s.host := (rfl)
@[simp] theorem modClk_aon (f : ClkS → ClkS) (s : State) : (modClk f s).aon = s.aon := (rfl)
@[simp] theorem modClk_img (f : ClkS → ClkS) (s : State) : (modClk f s).img = s.img := (rfl)
@[simp] theorem modClk_clk (f : ClkS → ClkS) (s : State) : (modClk f s).clk = f s.clk := (rfl)
@[simp] theorem modClk_pin (f : ClkS → ClkS) (s : State) : (modClk f s).pin = s.pin := (rfl)
@[simp] theorem modClk_todr (f : ClkS → ClkS) (s : State) : (modClk f s).todr = s.todr := (rfl)
@[simp] theorem modClk_todWas (f : ClkS → ClkS) (s : State) : (modClk f s).todWas = s.todWas := (rfl)
@[simp] theorem modClk_slot (f : ClkS → ClkS) (s : State) : (modClk f s).slot = s.slot := (rfl)
@[simp] theorem modClk_pmu (f : ClkS → ClkS) (s : State) : (modClk f s).pmu = s.pmu := (rfl)
@[simp] theorem modClk_slice (f : ClkS → ClkS) (s : State) : (modClk f s).slice = s.slice := (rfl)
@[simp] theorem modClk_unit (f : ClkS → ClkS) (s : State) : (modClk f s).unit = s.unit := (rfl)
@[simp] theorem modClk_sel (f : ClkS → ClkS) (s : State) : (modClk f s).sel = s.sel := (rfl)
@[simp] theorem modClk_selWas (f : ClkS → ClkS) (s : State) : (modClk f s).selWas = s.selWas := (rfl)
@[simp] theorem modClk_dpll (f : ClkS → ClkS) (s : State) : (modClk f s).dpll = s.dpll := (rfl)
@[simp] theorem modClk_est (f : ClkS → ClkS) (s : State) : (modClk f s).est = s.est := (rfl)
@[simp] theorem modClk_syn (f : ClkS → ClkS) (s : State) : (modClk f s).syn = s.syn := (rfl)
@[simp] theorem modClk_out (f : ClkS → ClkS) (s : State) : (modClk f s).out = s.out := (rfl)
@[simp] theorem modClk_commit (f : ClkS → ClkS) (s : State) : (modClk f s).commit = s.commit := (rfl)
@[simp] theorem modClk_tkp (f : ClkS → ClkS) (s : State) : (modClk f s).tkp = s.tkp := (rfl)
@[simp] theorem modClk_mns (f : ClkS → ClkS) (s : State) : (modClk f s).mns = s.mns := (rfl)
@[simp] theorem modClk_nvm (f : ClkS → ClkS) (s : State) : (modClk f s).nvm = s.nvm := (rfl)
@[simp] theorem modClk_sec (f : ClkS → ClkS) (s : State) : (modClk f s).sec = s.sec := (rfl)
@[simp] theorem modClk_ast (f : ClkS → ClkS) (s : State) : (modClk f s).ast = s.ast := (rfl)
@[simp] theorem modClk_sch (f : ClkS → ClkS) (s : State) : (modClk f s).sch = s.sch := (rfl)
@[simp] theorem modClk_crl (f : ClkS → ClkS) (s : State) : (modClk f s).crl = s.crl := (rfl)
@[simp] theorem modClk_ptp (f : ClkS → ClkS) (s : State) : (modClk f s).ptp = s.ptp := (rfl)

/-! ### modRst -/

@[simp] theorem modRst_pending (f : RstS → RstS) (s : State) : (modRst f s).pending = s.pending := (rfl)
@[simp] theorem modRst_now (f : RstS → RstS) (s : State) : (modRst f s).now = s.now := (rfl)
@[simp] theorem modRst_tod (f : RstS → RstS) (s : State) : (modRst f s).tod = s.tod := (rfl)
@[simp] theorem modRst_regs (f : RstS → RstS) (s : State) : (modRst f s).regs = s.regs := (rfl)
@[simp] theorem modRst_cyc (f : RstS → RstS) (s : State) : (modRst f s).cyc = s.cyc := (rfl)
@[simp] theorem modRst_free (f : RstS → RstS) (s : State) : (modRst f s).free = s.free := (rfl)
@[simp] theorem modRst_mram (f : RstS → RstS) (s : State) : (modRst f s).mram = s.mram := (rfl)
@[simp] theorem modRst_mramJ (f : RstS → RstS) (s : State) : (modRst f s).mramJ = s.mramJ := (rfl)
@[simp] theorem modRst_cram (f : RstS → RstS) (s : State) : (modRst f s).cram = s.cram := (rfl)
@[simp] theorem modRst_otp (f : RstS → RstS) (s : State) : (modRst f s).otp = s.otp := (rfl)
@[simp] theorem modRst_tempHeld (f : RstS → RstS) (s : State) : (modRst f s).tempHeld = s.tempHeld := (rfl)
@[simp] theorem modRst_tempAt (f : RstS → RstS) (s : State) : (modRst f s).tempAt = s.tempAt := (rfl)
@[simp] theorem modRst_tempStuck (f : RstS → RstS) (s : State) : (modRst f s).tempStuck = s.tempStuck := (rfl)
@[simp] theorem modRst_minAt (f : RstS → RstS) (s : State) : (modRst f s).minAt = s.minAt := (rfl)
@[simp] theorem modRst_gen (f : RstS → RstS) (s : State) : (modRst f s).gen = s.gen := (rfl)
@[simp] theorem modRst_rst (f : RstS → RstS) (s : State) : (modRst f s).rst = f s.rst := (rfl)
@[simp] theorem modRst_flt (f : RstS → RstS) (s : State) : (modRst f s).flt = s.flt := (rfl)
@[simp] theorem modRst_host (f : RstS → RstS) (s : State) : (modRst f s).host = s.host := (rfl)
@[simp] theorem modRst_aon (f : RstS → RstS) (s : State) : (modRst f s).aon = s.aon := (rfl)
@[simp] theorem modRst_img (f : RstS → RstS) (s : State) : (modRst f s).img = s.img := (rfl)
@[simp] theorem modRst_clk (f : RstS → RstS) (s : State) : (modRst f s).clk = s.clk := (rfl)
@[simp] theorem modRst_pin (f : RstS → RstS) (s : State) : (modRst f s).pin = s.pin := (rfl)
@[simp] theorem modRst_todr (f : RstS → RstS) (s : State) : (modRst f s).todr = s.todr := (rfl)
@[simp] theorem modRst_todWas (f : RstS → RstS) (s : State) : (modRst f s).todWas = s.todWas := (rfl)
@[simp] theorem modRst_slot (f : RstS → RstS) (s : State) : (modRst f s).slot = s.slot := (rfl)
@[simp] theorem modRst_pmu (f : RstS → RstS) (s : State) : (modRst f s).pmu = s.pmu := (rfl)
@[simp] theorem modRst_slice (f : RstS → RstS) (s : State) : (modRst f s).slice = s.slice := (rfl)
@[simp] theorem modRst_unit (f : RstS → RstS) (s : State) : (modRst f s).unit = s.unit := (rfl)
@[simp] theorem modRst_sel (f : RstS → RstS) (s : State) : (modRst f s).sel = s.sel := (rfl)
@[simp] theorem modRst_selWas (f : RstS → RstS) (s : State) : (modRst f s).selWas = s.selWas := (rfl)
@[simp] theorem modRst_dpll (f : RstS → RstS) (s : State) : (modRst f s).dpll = s.dpll := (rfl)
@[simp] theorem modRst_est (f : RstS → RstS) (s : State) : (modRst f s).est = s.est := (rfl)
@[simp] theorem modRst_syn (f : RstS → RstS) (s : State) : (modRst f s).syn = s.syn := (rfl)
@[simp] theorem modRst_out (f : RstS → RstS) (s : State) : (modRst f s).out = s.out := (rfl)
@[simp] theorem modRst_commit (f : RstS → RstS) (s : State) : (modRst f s).commit = s.commit := (rfl)
@[simp] theorem modRst_tkp (f : RstS → RstS) (s : State) : (modRst f s).tkp = s.tkp := (rfl)
@[simp] theorem modRst_mns (f : RstS → RstS) (s : State) : (modRst f s).mns = s.mns := (rfl)
@[simp] theorem modRst_nvm (f : RstS → RstS) (s : State) : (modRst f s).nvm = s.nvm := (rfl)
@[simp] theorem modRst_sec (f : RstS → RstS) (s : State) : (modRst f s).sec = s.sec := (rfl)
@[simp] theorem modRst_ast (f : RstS → RstS) (s : State) : (modRst f s).ast = s.ast := (rfl)
@[simp] theorem modRst_sch (f : RstS → RstS) (s : State) : (modRst f s).sch = s.sch := (rfl)
@[simp] theorem modRst_crl (f : RstS → RstS) (s : State) : (modRst f s).crl = s.crl := (rfl)
@[simp] theorem modRst_ptp (f : RstS → RstS) (s : State) : (modRst f s).ptp = s.ptp := (rfl)

/-! ### modSch -/

@[simp] theorem modSch_pending (f : SchS → SchS) (s : State) : (modSch f s).pending = s.pending := (rfl)
@[simp] theorem modSch_now (f : SchS → SchS) (s : State) : (modSch f s).now = s.now := (rfl)
@[simp] theorem modSch_tod (f : SchS → SchS) (s : State) : (modSch f s).tod = s.tod := (rfl)
@[simp] theorem modSch_regs (f : SchS → SchS) (s : State) : (modSch f s).regs = s.regs := (rfl)
@[simp] theorem modSch_cyc (f : SchS → SchS) (s : State) : (modSch f s).cyc = s.cyc := (rfl)
@[simp] theorem modSch_free (f : SchS → SchS) (s : State) : (modSch f s).free = s.free := (rfl)
@[simp] theorem modSch_mram (f : SchS → SchS) (s : State) : (modSch f s).mram = s.mram := (rfl)
@[simp] theorem modSch_mramJ (f : SchS → SchS) (s : State) : (modSch f s).mramJ = s.mramJ := (rfl)
@[simp] theorem modSch_cram (f : SchS → SchS) (s : State) : (modSch f s).cram = s.cram := (rfl)
@[simp] theorem modSch_otp (f : SchS → SchS) (s : State) : (modSch f s).otp = s.otp := (rfl)
@[simp] theorem modSch_tempHeld (f : SchS → SchS) (s : State) : (modSch f s).tempHeld = s.tempHeld := (rfl)
@[simp] theorem modSch_tempAt (f : SchS → SchS) (s : State) : (modSch f s).tempAt = s.tempAt := (rfl)
@[simp] theorem modSch_tempStuck (f : SchS → SchS) (s : State) : (modSch f s).tempStuck = s.tempStuck := (rfl)
@[simp] theorem modSch_minAt (f : SchS → SchS) (s : State) : (modSch f s).minAt = s.minAt := (rfl)
@[simp] theorem modSch_gen (f : SchS → SchS) (s : State) : (modSch f s).gen = s.gen := (rfl)
@[simp] theorem modSch_rst (f : SchS → SchS) (s : State) : (modSch f s).rst = s.rst := (rfl)
@[simp] theorem modSch_flt (f : SchS → SchS) (s : State) : (modSch f s).flt = s.flt := (rfl)
@[simp] theorem modSch_host (f : SchS → SchS) (s : State) : (modSch f s).host = s.host := (rfl)
@[simp] theorem modSch_aon (f : SchS → SchS) (s : State) : (modSch f s).aon = s.aon := (rfl)
@[simp] theorem modSch_img (f : SchS → SchS) (s : State) : (modSch f s).img = s.img := (rfl)
@[simp] theorem modSch_clk (f : SchS → SchS) (s : State) : (modSch f s).clk = s.clk := (rfl)
@[simp] theorem modSch_pin (f : SchS → SchS) (s : State) : (modSch f s).pin = s.pin := (rfl)
@[simp] theorem modSch_todr (f : SchS → SchS) (s : State) : (modSch f s).todr = s.todr := (rfl)
@[simp] theorem modSch_todWas (f : SchS → SchS) (s : State) : (modSch f s).todWas = s.todWas := (rfl)
@[simp] theorem modSch_slot (f : SchS → SchS) (s : State) : (modSch f s).slot = s.slot := (rfl)
@[simp] theorem modSch_pmu (f : SchS → SchS) (s : State) : (modSch f s).pmu = s.pmu := (rfl)
@[simp] theorem modSch_slice (f : SchS → SchS) (s : State) : (modSch f s).slice = s.slice := (rfl)
@[simp] theorem modSch_unit (f : SchS → SchS) (s : State) : (modSch f s).unit = s.unit := (rfl)
@[simp] theorem modSch_sel (f : SchS → SchS) (s : State) : (modSch f s).sel = s.sel := (rfl)
@[simp] theorem modSch_selWas (f : SchS → SchS) (s : State) : (modSch f s).selWas = s.selWas := (rfl)
@[simp] theorem modSch_dpll (f : SchS → SchS) (s : State) : (modSch f s).dpll = s.dpll := (rfl)
@[simp] theorem modSch_est (f : SchS → SchS) (s : State) : (modSch f s).est = s.est := (rfl)
@[simp] theorem modSch_syn (f : SchS → SchS) (s : State) : (modSch f s).syn = s.syn := (rfl)
@[simp] theorem modSch_out (f : SchS → SchS) (s : State) : (modSch f s).out = s.out := (rfl)
@[simp] theorem modSch_commit (f : SchS → SchS) (s : State) : (modSch f s).commit = s.commit := (rfl)
@[simp] theorem modSch_tkp (f : SchS → SchS) (s : State) : (modSch f s).tkp = s.tkp := (rfl)
@[simp] theorem modSch_mns (f : SchS → SchS) (s : State) : (modSch f s).mns = s.mns := (rfl)
@[simp] theorem modSch_nvm (f : SchS → SchS) (s : State) : (modSch f s).nvm = s.nvm := (rfl)
@[simp] theorem modSch_sec (f : SchS → SchS) (s : State) : (modSch f s).sec = s.sec := (rfl)
@[simp] theorem modSch_ast (f : SchS → SchS) (s : State) : (modSch f s).ast = s.ast := (rfl)
@[simp] theorem modSch_sch (f : SchS → SchS) (s : State) : (modSch f s).sch = f s.sch := (rfl)
@[simp] theorem modSch_crl (f : SchS → SchS) (s : State) : (modSch f s).crl = s.crl := (rfl)
@[simp] theorem modSch_ptp (f : SchS → SchS) (s : State) : (modSch f s).ptp = s.ptp := (rfl)

/-! ### modSec -/

@[simp] theorem modSec_pending (f : SecS → SecS) (s : State) : (modSec f s).pending = s.pending := (rfl)
@[simp] theorem modSec_now (f : SecS → SecS) (s : State) : (modSec f s).now = s.now := (rfl)
@[simp] theorem modSec_tod (f : SecS → SecS) (s : State) : (modSec f s).tod = s.tod := (rfl)
@[simp] theorem modSec_regs (f : SecS → SecS) (s : State) : (modSec f s).regs = s.regs := (rfl)
@[simp] theorem modSec_cyc (f : SecS → SecS) (s : State) : (modSec f s).cyc = s.cyc := (rfl)
@[simp] theorem modSec_free (f : SecS → SecS) (s : State) : (modSec f s).free = s.free := (rfl)
@[simp] theorem modSec_mram (f : SecS → SecS) (s : State) : (modSec f s).mram = s.mram := (rfl)
@[simp] theorem modSec_mramJ (f : SecS → SecS) (s : State) : (modSec f s).mramJ = s.mramJ := (rfl)
@[simp] theorem modSec_cram (f : SecS → SecS) (s : State) : (modSec f s).cram = s.cram := (rfl)
@[simp] theorem modSec_otp (f : SecS → SecS) (s : State) : (modSec f s).otp = s.otp := (rfl)
@[simp] theorem modSec_tempHeld (f : SecS → SecS) (s : State) : (modSec f s).tempHeld = s.tempHeld := (rfl)
@[simp] theorem modSec_tempAt (f : SecS → SecS) (s : State) : (modSec f s).tempAt = s.tempAt := (rfl)
@[simp] theorem modSec_tempStuck (f : SecS → SecS) (s : State) : (modSec f s).tempStuck = s.tempStuck := (rfl)
@[simp] theorem modSec_minAt (f : SecS → SecS) (s : State) : (modSec f s).minAt = s.minAt := (rfl)
@[simp] theorem modSec_gen (f : SecS → SecS) (s : State) : (modSec f s).gen = s.gen := (rfl)
@[simp] theorem modSec_rst (f : SecS → SecS) (s : State) : (modSec f s).rst = s.rst := (rfl)
@[simp] theorem modSec_flt (f : SecS → SecS) (s : State) : (modSec f s).flt = s.flt := (rfl)
@[simp] theorem modSec_host (f : SecS → SecS) (s : State) : (modSec f s).host = s.host := (rfl)
@[simp] theorem modSec_aon (f : SecS → SecS) (s : State) : (modSec f s).aon = s.aon := (rfl)
@[simp] theorem modSec_img (f : SecS → SecS) (s : State) : (modSec f s).img = s.img := (rfl)
@[simp] theorem modSec_clk (f : SecS → SecS) (s : State) : (modSec f s).clk = s.clk := (rfl)
@[simp] theorem modSec_pin (f : SecS → SecS) (s : State) : (modSec f s).pin = s.pin := (rfl)
@[simp] theorem modSec_todr (f : SecS → SecS) (s : State) : (modSec f s).todr = s.todr := (rfl)
@[simp] theorem modSec_todWas (f : SecS → SecS) (s : State) : (modSec f s).todWas = s.todWas := (rfl)
@[simp] theorem modSec_slot (f : SecS → SecS) (s : State) : (modSec f s).slot = s.slot := (rfl)
@[simp] theorem modSec_pmu (f : SecS → SecS) (s : State) : (modSec f s).pmu = s.pmu := (rfl)
@[simp] theorem modSec_slice (f : SecS → SecS) (s : State) : (modSec f s).slice = s.slice := (rfl)
@[simp] theorem modSec_unit (f : SecS → SecS) (s : State) : (modSec f s).unit = s.unit := (rfl)
@[simp] theorem modSec_sel (f : SecS → SecS) (s : State) : (modSec f s).sel = s.sel := (rfl)
@[simp] theorem modSec_selWas (f : SecS → SecS) (s : State) : (modSec f s).selWas = s.selWas := (rfl)
@[simp] theorem modSec_dpll (f : SecS → SecS) (s : State) : (modSec f s).dpll = s.dpll := (rfl)
@[simp] theorem modSec_est (f : SecS → SecS) (s : State) : (modSec f s).est = s.est := (rfl)
@[simp] theorem modSec_syn (f : SecS → SecS) (s : State) : (modSec f s).syn = s.syn := (rfl)
@[simp] theorem modSec_out (f : SecS → SecS) (s : State) : (modSec f s).out = s.out := (rfl)
@[simp] theorem modSec_commit (f : SecS → SecS) (s : State) : (modSec f s).commit = s.commit := (rfl)
@[simp] theorem modSec_tkp (f : SecS → SecS) (s : State) : (modSec f s).tkp = s.tkp := (rfl)
@[simp] theorem modSec_mns (f : SecS → SecS) (s : State) : (modSec f s).mns = s.mns := (rfl)
@[simp] theorem modSec_nvm (f : SecS → SecS) (s : State) : (modSec f s).nvm = s.nvm := (rfl)
@[simp] theorem modSec_sec (f : SecS → SecS) (s : State) : (modSec f s).sec = f s.sec := (rfl)
@[simp] theorem modSec_ast (f : SecS → SecS) (s : State) : (modSec f s).ast = s.ast := (rfl)
@[simp] theorem modSec_sch (f : SecS → SecS) (s : State) : (modSec f s).sch = s.sch := (rfl)
@[simp] theorem modSec_crl (f : SecS → SecS) (s : State) : (modSec f s).crl = s.crl := (rfl)
@[simp] theorem modSec_ptp (f : SecS → SecS) (s : State) : (modSec f s).ptp = s.ptp := (rfl)

/-! ### modTkp -/

@[simp] theorem modTkp_pending (f : TkpS → TkpS) (s : State) : (modTkp f s).pending = s.pending := (rfl)
@[simp] theorem modTkp_now (f : TkpS → TkpS) (s : State) : (modTkp f s).now = s.now := (rfl)
@[simp] theorem modTkp_tod (f : TkpS → TkpS) (s : State) : (modTkp f s).tod = s.tod := (rfl)
@[simp] theorem modTkp_regs (f : TkpS → TkpS) (s : State) : (modTkp f s).regs = s.regs := (rfl)
@[simp] theorem modTkp_cyc (f : TkpS → TkpS) (s : State) : (modTkp f s).cyc = s.cyc := (rfl)
@[simp] theorem modTkp_free (f : TkpS → TkpS) (s : State) : (modTkp f s).free = s.free := (rfl)
@[simp] theorem modTkp_mram (f : TkpS → TkpS) (s : State) : (modTkp f s).mram = s.mram := (rfl)
@[simp] theorem modTkp_mramJ (f : TkpS → TkpS) (s : State) : (modTkp f s).mramJ = s.mramJ := (rfl)
@[simp] theorem modTkp_cram (f : TkpS → TkpS) (s : State) : (modTkp f s).cram = s.cram := (rfl)
@[simp] theorem modTkp_otp (f : TkpS → TkpS) (s : State) : (modTkp f s).otp = s.otp := (rfl)
@[simp] theorem modTkp_tempHeld (f : TkpS → TkpS) (s : State) : (modTkp f s).tempHeld = s.tempHeld := (rfl)
@[simp] theorem modTkp_tempAt (f : TkpS → TkpS) (s : State) : (modTkp f s).tempAt = s.tempAt := (rfl)
@[simp] theorem modTkp_tempStuck (f : TkpS → TkpS) (s : State) : (modTkp f s).tempStuck = s.tempStuck := (rfl)
@[simp] theorem modTkp_minAt (f : TkpS → TkpS) (s : State) : (modTkp f s).minAt = s.minAt := (rfl)
@[simp] theorem modTkp_gen (f : TkpS → TkpS) (s : State) : (modTkp f s).gen = s.gen := (rfl)
@[simp] theorem modTkp_rst (f : TkpS → TkpS) (s : State) : (modTkp f s).rst = s.rst := (rfl)
@[simp] theorem modTkp_flt (f : TkpS → TkpS) (s : State) : (modTkp f s).flt = s.flt := (rfl)
@[simp] theorem modTkp_host (f : TkpS → TkpS) (s : State) : (modTkp f s).host = s.host := (rfl)
@[simp] theorem modTkp_aon (f : TkpS → TkpS) (s : State) : (modTkp f s).aon = s.aon := (rfl)
@[simp] theorem modTkp_img (f : TkpS → TkpS) (s : State) : (modTkp f s).img = s.img := (rfl)
@[simp] theorem modTkp_clk (f : TkpS → TkpS) (s : State) : (modTkp f s).clk = s.clk := (rfl)
@[simp] theorem modTkp_pin (f : TkpS → TkpS) (s : State) : (modTkp f s).pin = s.pin := (rfl)
@[simp] theorem modTkp_todr (f : TkpS → TkpS) (s : State) : (modTkp f s).todr = s.todr := (rfl)
@[simp] theorem modTkp_todWas (f : TkpS → TkpS) (s : State) : (modTkp f s).todWas = s.todWas := (rfl)
@[simp] theorem modTkp_slot (f : TkpS → TkpS) (s : State) : (modTkp f s).slot = s.slot := (rfl)
@[simp] theorem modTkp_pmu (f : TkpS → TkpS) (s : State) : (modTkp f s).pmu = s.pmu := (rfl)
@[simp] theorem modTkp_slice (f : TkpS → TkpS) (s : State) : (modTkp f s).slice = s.slice := (rfl)
@[simp] theorem modTkp_unit (f : TkpS → TkpS) (s : State) : (modTkp f s).unit = s.unit := (rfl)
@[simp] theorem modTkp_sel (f : TkpS → TkpS) (s : State) : (modTkp f s).sel = s.sel := (rfl)
@[simp] theorem modTkp_selWas (f : TkpS → TkpS) (s : State) : (modTkp f s).selWas = s.selWas := (rfl)
@[simp] theorem modTkp_dpll (f : TkpS → TkpS) (s : State) : (modTkp f s).dpll = s.dpll := (rfl)
@[simp] theorem modTkp_est (f : TkpS → TkpS) (s : State) : (modTkp f s).est = s.est := (rfl)
@[simp] theorem modTkp_syn (f : TkpS → TkpS) (s : State) : (modTkp f s).syn = s.syn := (rfl)
@[simp] theorem modTkp_out (f : TkpS → TkpS) (s : State) : (modTkp f s).out = s.out := (rfl)
@[simp] theorem modTkp_commit (f : TkpS → TkpS) (s : State) : (modTkp f s).commit = s.commit := (rfl)
@[simp] theorem modTkp_tkp (f : TkpS → TkpS) (s : State) : (modTkp f s).tkp = f s.tkp := (rfl)
@[simp] theorem modTkp_mns (f : TkpS → TkpS) (s : State) : (modTkp f s).mns = s.mns := (rfl)
@[simp] theorem modTkp_nvm (f : TkpS → TkpS) (s : State) : (modTkp f s).nvm = s.nvm := (rfl)
@[simp] theorem modTkp_sec (f : TkpS → TkpS) (s : State) : (modTkp f s).sec = s.sec := (rfl)
@[simp] theorem modTkp_ast (f : TkpS → TkpS) (s : State) : (modTkp f s).ast = s.ast := (rfl)
@[simp] theorem modTkp_sch (f : TkpS → TkpS) (s : State) : (modTkp f s).sch = s.sch := (rfl)
@[simp] theorem modTkp_crl (f : TkpS → TkpS) (s : State) : (modTkp f s).crl = s.crl := (rfl)
@[simp] theorem modTkp_ptp (f : TkpS → TkpS) (s : State) : (modTkp f s).ptp = s.ptp := (rfl)

/-! ### cycMark -/

@[simp] theorem cycMark_pending (f : Fld) (v : Nat) (s : State) : (cycMark f v s).pending = s.pending := (rfl)
@[simp] theorem cycMark_now (f : Fld) (v : Nat) (s : State) : (cycMark f v s).now = s.now := (rfl)
@[simp] theorem cycMark_tod (f : Fld) (v : Nat) (s : State) : (cycMark f v s).tod = s.tod := (rfl)
@[simp] theorem cycMark_regs (f : Fld) (v : Nat) (s : State) : (cycMark f v s).regs = s.regs := (rfl)
@[simp] theorem cycMark_cyc (f : Fld) (v : Nat) (s : State) : (cycMark f v s).cyc = { s.cyc with set := tabPut s.cyc.set (fldKey f) v 0 } := (rfl)
@[simp] theorem cycMark_free (f : Fld) (v : Nat) (s : State) : (cycMark f v s).free = s.free := (rfl)
@[simp] theorem cycMark_mram (f : Fld) (v : Nat) (s : State) : (cycMark f v s).mram = s.mram := (rfl)
@[simp] theorem cycMark_mramJ (f : Fld) (v : Nat) (s : State) : (cycMark f v s).mramJ = s.mramJ := (rfl)
@[simp] theorem cycMark_cram (f : Fld) (v : Nat) (s : State) : (cycMark f v s).cram = s.cram := (rfl)
@[simp] theorem cycMark_otp (f : Fld) (v : Nat) (s : State) : (cycMark f v s).otp = s.otp := (rfl)
@[simp] theorem cycMark_tempHeld (f : Fld) (v : Nat) (s : State) : (cycMark f v s).tempHeld = s.tempHeld := (rfl)
@[simp] theorem cycMark_tempAt (f : Fld) (v : Nat) (s : State) : (cycMark f v s).tempAt = s.tempAt := (rfl)
@[simp] theorem cycMark_tempStuck (f : Fld) (v : Nat) (s : State) : (cycMark f v s).tempStuck = s.tempStuck := (rfl)
@[simp] theorem cycMark_minAt (f : Fld) (v : Nat) (s : State) : (cycMark f v s).minAt = s.minAt := (rfl)
@[simp] theorem cycMark_gen (f : Fld) (v : Nat) (s : State) : (cycMark f v s).gen = s.gen := (rfl)
@[simp] theorem cycMark_rst (f : Fld) (v : Nat) (s : State) : (cycMark f v s).rst = s.rst := (rfl)
@[simp] theorem cycMark_flt (f : Fld) (v : Nat) (s : State) : (cycMark f v s).flt = s.flt := (rfl)
@[simp] theorem cycMark_host (f : Fld) (v : Nat) (s : State) : (cycMark f v s).host = s.host := (rfl)
@[simp] theorem cycMark_aon (f : Fld) (v : Nat) (s : State) : (cycMark f v s).aon = s.aon := (rfl)
@[simp] theorem cycMark_img (f : Fld) (v : Nat) (s : State) : (cycMark f v s).img = s.img := (rfl)
@[simp] theorem cycMark_clk (f : Fld) (v : Nat) (s : State) : (cycMark f v s).clk = s.clk := (rfl)
@[simp] theorem cycMark_pin (f : Fld) (v : Nat) (s : State) : (cycMark f v s).pin = s.pin := (rfl)
@[simp] theorem cycMark_todr (f : Fld) (v : Nat) (s : State) : (cycMark f v s).todr = s.todr := (rfl)
@[simp] theorem cycMark_todWas (f : Fld) (v : Nat) (s : State) : (cycMark f v s).todWas = s.todWas := (rfl)
@[simp] theorem cycMark_slot (f : Fld) (v : Nat) (s : State) : (cycMark f v s).slot = s.slot := (rfl)
@[simp] theorem cycMark_pmu (f : Fld) (v : Nat) (s : State) : (cycMark f v s).pmu = s.pmu := (rfl)
@[simp] theorem cycMark_slice (f : Fld) (v : Nat) (s : State) : (cycMark f v s).slice = s.slice := (rfl)
@[simp] theorem cycMark_unit (f : Fld) (v : Nat) (s : State) : (cycMark f v s).unit = s.unit := (rfl)
@[simp] theorem cycMark_sel (f : Fld) (v : Nat) (s : State) : (cycMark f v s).sel = s.sel := (rfl)
@[simp] theorem cycMark_selWas (f : Fld) (v : Nat) (s : State) : (cycMark f v s).selWas = s.selWas := (rfl)
@[simp] theorem cycMark_dpll (f : Fld) (v : Nat) (s : State) : (cycMark f v s).dpll = s.dpll := (rfl)
@[simp] theorem cycMark_est (f : Fld) (v : Nat) (s : State) : (cycMark f v s).est = s.est := (rfl)
@[simp] theorem cycMark_syn (f : Fld) (v : Nat) (s : State) : (cycMark f v s).syn = s.syn := (rfl)
@[simp] theorem cycMark_out (f : Fld) (v : Nat) (s : State) : (cycMark f v s).out = s.out := (rfl)
@[simp] theorem cycMark_commit (f : Fld) (v : Nat) (s : State) : (cycMark f v s).commit = s.commit := (rfl)
@[simp] theorem cycMark_tkp (f : Fld) (v : Nat) (s : State) : (cycMark f v s).tkp = s.tkp := (rfl)
@[simp] theorem cycMark_mns (f : Fld) (v : Nat) (s : State) : (cycMark f v s).mns = s.mns := (rfl)
@[simp] theorem cycMark_nvm (f : Fld) (v : Nat) (s : State) : (cycMark f v s).nvm = s.nvm := (rfl)
@[simp] theorem cycMark_sec (f : Fld) (v : Nat) (s : State) : (cycMark f v s).sec = s.sec := (rfl)
@[simp] theorem cycMark_ast (f : Fld) (v : Nat) (s : State) : (cycMark f v s).ast = s.ast := (rfl)
@[simp] theorem cycMark_sch (f : Fld) (v : Nat) (s : State) : (cycMark f v s).sch = s.sch := (rfl)
@[simp] theorem cycMark_crl (f : Fld) (v : Nat) (s : State) : (cycMark f v s).crl = s.crl := (rfl)
@[simp] theorem cycMark_ptp (f : Fld) (v : Nat) (s : State) : (cycMark f v s).ptp = s.ptp := (rfl)

/-! ### modGrp -/

@[simp] theorem modGrp_pending (g : Nat) (f : RwsGroup → RwsGroup) (s : State) : (modGrp g f s).pending = s.pending := (rfl)
@[simp] theorem modGrp_now (g : Nat) (f : RwsGroup → RwsGroup) (s : State) : (modGrp g f s).now = s.now := (rfl)
@[simp] theorem modGrp_tod (g : Nat) (f : RwsGroup → RwsGroup) (s : State) : (modGrp g f s).tod = s.tod := (rfl)
@[simp] theorem modGrp_regs (g : Nat) (f : RwsGroup → RwsGroup) (s : State) : (modGrp g f s).regs = s.regs := (rfl)
@[simp] theorem modGrp_cyc (g : Nat) (f : RwsGroup → RwsGroup) (s : State) : (modGrp g f s).cyc = s.cyc := (rfl)
@[simp] theorem modGrp_free (g : Nat) (f : RwsGroup → RwsGroup) (s : State) : (modGrp g f s).free = s.free := (rfl)
@[simp] theorem modGrp_mram (g : Nat) (f : RwsGroup → RwsGroup) (s : State) : (modGrp g f s).mram = s.mram := (rfl)
@[simp] theorem modGrp_mramJ (g : Nat) (f : RwsGroup → RwsGroup) (s : State) : (modGrp g f s).mramJ = s.mramJ := (rfl)
@[simp] theorem modGrp_cram (g : Nat) (f : RwsGroup → RwsGroup) (s : State) : (modGrp g f s).cram = s.cram := (rfl)
@[simp] theorem modGrp_otp (g : Nat) (f : RwsGroup → RwsGroup) (s : State) : (modGrp g f s).otp = s.otp := (rfl)
@[simp] theorem modGrp_tempHeld (g : Nat) (f : RwsGroup → RwsGroup) (s : State) : (modGrp g f s).tempHeld = s.tempHeld := (rfl)
@[simp] theorem modGrp_tempAt (g : Nat) (f : RwsGroup → RwsGroup) (s : State) : (modGrp g f s).tempAt = s.tempAt := (rfl)
@[simp] theorem modGrp_tempStuck (g : Nat) (f : RwsGroup → RwsGroup) (s : State) : (modGrp g f s).tempStuck = s.tempStuck := (rfl)
@[simp] theorem modGrp_minAt (g : Nat) (f : RwsGroup → RwsGroup) (s : State) : (modGrp g f s).minAt = s.minAt := (rfl)
@[simp] theorem modGrp_gen (g : Nat) (f : RwsGroup → RwsGroup) (s : State) : (modGrp g f s).gen = s.gen := (rfl)
@[simp] theorem modGrp_rst (g : Nat) (f : RwsGroup → RwsGroup) (s : State) : (modGrp g f s).rst = s.rst := (rfl)
@[simp] theorem modGrp_flt (g : Nat) (f : RwsGroup → RwsGroup) (s : State) : (modGrp g f s).flt = s.flt := (rfl)
@[simp] theorem modGrp_host (g : Nat) (f : RwsGroup → RwsGroup) (s : State) : (modGrp g f s).host = s.host := (rfl)
@[simp] theorem modGrp_aon (g : Nat) (f : RwsGroup → RwsGroup) (s : State) : (modGrp g f s).aon = { s.aon with grp := upd s.aon.grp g f } := (rfl)
@[simp] theorem modGrp_img (g : Nat) (f : RwsGroup → RwsGroup) (s : State) : (modGrp g f s).img = s.img := (rfl)
@[simp] theorem modGrp_clk (g : Nat) (f : RwsGroup → RwsGroup) (s : State) : (modGrp g f s).clk = s.clk := (rfl)
@[simp] theorem modGrp_pin (g : Nat) (f : RwsGroup → RwsGroup) (s : State) : (modGrp g f s).pin = s.pin := (rfl)
@[simp] theorem modGrp_todr (g : Nat) (f : RwsGroup → RwsGroup) (s : State) : (modGrp g f s).todr = s.todr := (rfl)
@[simp] theorem modGrp_todWas (g : Nat) (f : RwsGroup → RwsGroup) (s : State) : (modGrp g f s).todWas = s.todWas := (rfl)
@[simp] theorem modGrp_slot (g : Nat) (f : RwsGroup → RwsGroup) (s : State) : (modGrp g f s).slot = s.slot := (rfl)
@[simp] theorem modGrp_pmu (g : Nat) (f : RwsGroup → RwsGroup) (s : State) : (modGrp g f s).pmu = s.pmu := (rfl)
@[simp] theorem modGrp_slice (g : Nat) (f : RwsGroup → RwsGroup) (s : State) : (modGrp g f s).slice = s.slice := (rfl)
@[simp] theorem modGrp_unit (g : Nat) (f : RwsGroup → RwsGroup) (s : State) : (modGrp g f s).unit = s.unit := (rfl)
@[simp] theorem modGrp_sel (g : Nat) (f : RwsGroup → RwsGroup) (s : State) : (modGrp g f s).sel = s.sel := (rfl)
@[simp] theorem modGrp_selWas (g : Nat) (f : RwsGroup → RwsGroup) (s : State) : (modGrp g f s).selWas = s.selWas := (rfl)
@[simp] theorem modGrp_dpll (g : Nat) (f : RwsGroup → RwsGroup) (s : State) : (modGrp g f s).dpll = s.dpll := (rfl)
@[simp] theorem modGrp_est (g : Nat) (f : RwsGroup → RwsGroup) (s : State) : (modGrp g f s).est = s.est := (rfl)
@[simp] theorem modGrp_syn (g : Nat) (f : RwsGroup → RwsGroup) (s : State) : (modGrp g f s).syn = s.syn := (rfl)
@[simp] theorem modGrp_out (g : Nat) (f : RwsGroup → RwsGroup) (s : State) : (modGrp g f s).out = s.out := (rfl)
@[simp] theorem modGrp_commit (g : Nat) (f : RwsGroup → RwsGroup) (s : State) : (modGrp g f s).commit = s.commit := (rfl)
@[simp] theorem modGrp_tkp (g : Nat) (f : RwsGroup → RwsGroup) (s : State) : (modGrp g f s).tkp = s.tkp := (rfl)
@[simp] theorem modGrp_mns (g : Nat) (f : RwsGroup → RwsGroup) (s : State) : (modGrp g f s).mns = s.mns := (rfl)
@[simp] theorem modGrp_nvm (g : Nat) (f : RwsGroup → RwsGroup) (s : State) : (modGrp g f s).nvm = s.nvm := (rfl)
@[simp] theorem modGrp_sec (g : Nat) (f : RwsGroup → RwsGroup) (s : State) : (modGrp g f s).sec = s.sec := (rfl)
@[simp] theorem modGrp_ast (g : Nat) (f : RwsGroup → RwsGroup) (s : State) : (modGrp g f s).ast = s.ast := (rfl)
@[simp] theorem modGrp_sch (g : Nat) (f : RwsGroup → RwsGroup) (s : State) : (modGrp g f s).sch = s.sch := (rfl)
@[simp] theorem modGrp_crl (g : Nat) (f : RwsGroup → RwsGroup) (s : State) : (modGrp g f s).crl = s.crl := (rfl)
@[simp] theorem modGrp_ptp (g : Nat) (f : RwsGroup → RwsGroup) (s : State) : (modGrp g f s).ptp = s.ptp := (rfl)

end Sys2Proof.Machine
end

