-- ==== Sys2Proof/Laws/Regs.lean ====
section
/-! SUPPORT. Sparse tables, register fields and what reads them after an update; bit and vector access. -/

namespace Sys2Proof.Machine

/-! ### Sparse tables -/

theorem tabGet_tabDel_same (t : Tab) (k d : Nat) : tabGet (tabDel t k) k d = d := by
  induction t with
  | nil => rfl
  | cons e r ih =>
    obtain ⟨a, v⟩ := e
    simp only [tabDel]
    split
    · exact ih
    · rename_i h; simp [tabGet, h, ih]

theorem tabGet_tabDel_ne (t : Tab) {k j : Nat} (d : Nat) (h : k ≠ j) : tabGet (tabDel t k) j d = tabGet t j d := by
  induction t with
  | nil => rfl
  | cons e r ih =>
    obtain ⟨a, v⟩ := e
    simp only [tabDel, tabGet]
    split
    · rename_i e; subst e; simp [h, ih]
    · simp [tabGet, ih]

theorem tabGet_tabIns_same (t : Tab) (k v d : Nat) : tabGet (tabIns t k v) k d = v := by
  induction t with
  | nil => simp [tabIns, tabGet]
  | cons e r ih =>
    obtain ⟨a, w⟩ := e
    simp only [tabIns]
    split
    · simp [tabGet]
    · split
      · simp [tabGet]
      · rename_i h; simp [tabGet, h, ih]

theorem tabGet_tabIns_ne (t : Tab) {k j : Nat} (v d : Nat) (h : k ≠ j) : tabGet (tabIns t k v) j d = tabGet t j d := by
  induction t with
  | nil => simp [tabIns, tabGet, h]
  | cons e r ih =>
    obtain ⟨a, w⟩ := e
    simp only [tabIns]
    split
    · simp [tabGet, h]
    · split
      · rename_i e; subst e; simp [tabGet, h]
      · simp [tabGet, ih]

/-- a key reads what was last put there -/
@[simp] theorem tabGet_tabPut_same (t : Tab) (k v d : Nat) : tabGet (tabPut t k v d) k d = v := by
  unfold tabPut
  split
  · rename_i h; rw [tabGet_tabDel_same, h]
  · exact tabGet_tabIns_same t k v d

/-- every other key reads as before -/
theorem tabGet_tabPut_ne (t : Tab) {k j : Nat} (v d e : Nat) (h : k ≠ j) : tabGet (tabPut t k v d) j e = tabGet t j e := by
  unfold tabPut
  split
  · exact tabGet_tabDel_ne t e h
  · exact tabGet_tabIns_ne t v e h

/-! ### Bits -/

/-- bit j after setting bit i -/
theorem testBit_setBit (w i j : Nat) : (setBit w i).testBit j = (w.testBit j || decide (i = j)) := by
  rw [setBit, Nat.testBit_or, Nat.one_shiftLeft, Nat.testBit_two_pow]

/-- bit j after clearing bit i -/
theorem testBit_clrBit (w i j : Nat) : (clrBit w i).testBit j = (w.testBit j && !decide (i = j)) := by
  unfold clrBit
  split
  · rename_i h
    have hp : 0 < 2 ^ i := Nat.two_pow_pos i
    have hr : w % 2 ^ i < 2 ^ i := Nat.mod_lt _ hp
    have h1 : w / 2 ^ i % 2 = 1 := by
      rw [Nat.testBit, Nat.shiftRight_eq_div_pow, Nat.one_and_eq_mod_two] at h; simpa using h
    have hw : w = 2 ^ i * (w / 2 ^ i) + w % 2 ^ i := (Nat.div_add_mod w (2 ^ i)).symm
    generalize w / 2 ^ i = q at *
    generalize w % 2 ^ i = r at *
    obtain ⟨p, rfl⟩ : ∃ p, q = 2 * p + 1 := ⟨q / 2, by omega⟩
    have hw2 : w - 2 ^ i = 2 ^ i * (2 * p) + r := by
      have : 2 ^ i * (2 * p + 1) = 2 ^ i * (2 * p) + 2 ^ i := by rw [Nat.mul_add]; omega
      omega
    rw [hw2, Nat.testBit_two_pow_mul_add _ hr]
    rw [hw, Nat.testBit_two_pow_mul_add _ hr]
    split
    · rename_i hj
      have : i ≠ j := by omega
      simp [this]
    · rename_i hj
      by_cases hk : i = j
      · subst hk; simp
      · obtain ⟨k, hk2⟩ : ∃ k, j - i = k + 1 := ⟨j - i - 1, by omega⟩
        rw [hk2, Nat.testBit_succ, Nat.testBit_succ]
        have h2 : (2 * p) / 2 = (2 * p + 1) / 2 := by omega
        rw [h2]; simp [hk]
  · rename_i h
    by_cases hk : i = j
    · subst hk; simp at h; simp [h]
    · simp [hk]

/-! ### Register fields -/

/-- a field reads what was put into it, cut to its width -/
@[simp] theorem rd_put_same (f : Fld) (v : Nat) (s : State) : rd (put f v s) f = v % 2 ^ fldWidth f := tabGet_tabPut_same _ _ _ _

/-- every other field reads as before -/
theorem rd_put_ne {f g : Fld} (v : Nat) (s : State) (h : fldKey f ≠ fldKey g) : rd (put f v s) g = rd s g :=
  tabGet_tabPut_ne _ _ _ _ h

/-- a field reads only the register file -/
theorem rd_congr {s t : State} (h : s.regs = t.regs) (f : Fld) : rd s f = rd t f := by unfold rd; rw [h]

theorem rdB_putIn_same (b : Nat) (f : Fld) (v : Nat) (s : State) : rdB (putIn b f v s) b f = v % 2 ^ fldWidth f := tabGet_tabPut_same _ _ _ _

theorem rdB_putIn_ne {b c : Nat} {f g : Fld} (v : Nat) (s : State) (h : bankKey b f ≠ bankKey c g) : rdB (putIn b f v s) c g = rdB s c g :=
  tabGet_tabPut_ne _ _ _ _ h

theorem rd_putIn_ne {b : Nat} {f g : Fld} (v : Nat) (s : State) (h : bankKey b f ≠ fldKey g) : rd (putIn b f v s) g = rd s g :=
  tabGet_tabPut_ne _ _ _ _ h

theorem rdB_put_ne {b : Nat} {f g : Fld} (v : Nat) (s : State) (h : fldKey f ≠ bankKey b g) : rdB (put f v s) b g = rdB s b g :=
  tabGet_tabPut_ne _ _ _ _ h

/-! The derived updates are puts. -/

@[simp] theorem putS_eq (f : Fld) (v : Int) (s : State) : putS f v s = put f (uns (fldWidth f) v) s := (rfl)
@[simp] theorem putB_eq (f : Fld) (b : Bool) (s : State) : putB f b s = put f (b2n b) s := (rfl)
@[simp] theorem putBit_eq (f : Fld) (i : Nat) (s : State) : putBit f i s = cycMark f (setBit (cycSet s f) i) (put f (setBit (rd s f) i) s) := (rfl)
@[simp] theorem clearBit_eq (f : Fld) (i : Nat) (s : State) : clearBit f i s = put f (clrBit (rd s f) i) s := (rfl)
@[simp] theorem bump_eq (f : Fld) (s : State) : bump f s = cycMark f (cycSet s f + 1) (put f (min (rd s f + 1) (2 ^ fldWidth f - 1)) s) := (rfl)
@[simp] theorem bumpWrap_eq (f : Fld) (s : State) : bumpWrap f s = put f (rd s f + 1) s := (rfl)
@[simp] theorem putPair_eq (lo hi : Fld) (v : Nat) (s : State) : putPair lo hi v s = put hi (v / 2 ^ 32) (put lo v s) := (rfl)
theorem on_eq (s : State) (f : Fld) : on s f = (rd s f == 1) := (rfl)

/-! The block-wise updates of one element. -/

@[simp] theorem modChan_eq (n : Nat) (f : ChanS → ChanS) (s : State) : modChan n f s = modMns (fun m => { m with ch := upd m.ch n f }) s := (rfl)
@[simp] theorem modGrid_eq (f : GridS → GridS) (s : State) : modGrid f s = modMns (fun m => { m with grid := f m.grid }) s := (rfl)
@[simp] theorem modLink_eq (k : Nat) (f : LinkS → LinkS) (s : State) : modLink k f s = modCrl (fun c => { c with link := upd c.link k f }) s := (rfl)
@[simp] theorem modPart_eq (i : Nat) (f : PartS → PartS) (s : State) : modPart i f s = modCrl (fun c => { c with part := upd c.part i f }) s := (rfl)
@[simp] theorem modPort_eq (p : Nat) (f : PortS → PortS) (s : State) : modPort p f s = modPtp (fun c => { c with port := upd c.port p f }) s := (rfl)
@[simp] theorem modFdb_eq (f : List FdbEnt → List FdbEnt) (s : State) : modFdb f s = modPtp (fun x => { x with fdb := f x.fdb }) s := (rfl)
@[simp] theorem modSw_eq (n : Nat) (f : ChanSw → ChanSw) (s : State) : modSw n f s = modSch (fun c => { c with ch := upd c.ch n f }) s := (rfl)
@[simp] theorem modRc_eq (k : Nat) (f : RcS → RcS) (s : State) : modRc k f s = modSch (fun c => { c with rc := upd c.rc k f }) s := (rfl)

/-! ### Reading a field after an update that leaves the register file -/

@[simp] theorem rd_putCram (i v : Nat) (s : State) (x : Fld) : rd (putCram i v s) x = rd s x := (rfl)
@[simp] theorem rd_mwr (a : Nat) (l : List Byte) (s : State) (x : Fld) : rd (mwr a l s) x = rd s x := (rfl)
@[simp] theorem rd_raise (i : Nat) (j : Option Nat) (s : State) (x : Fld) : rd (raise i j s) x = rd s x := (rfl)
@[simp] theorem rd_ptpStale (s : State) (x : Fld) : rd (ptpStale s) x = rd s x := (rfl)
@[simp] theorem rd_modSel (i : Nat) (f : SelS → SelS) (s : State) (x : Fld) : rd (modSel i f s) x = rd s x := (rfl)
@[simp] theorem rd_modDpll (i : Nat) (f : DpllS → DpllS) (s : State) (x : Fld) : rd (modDpll i f s) x = rd s x := (rfl)
@[simp] theorem rd_modPin (i : Nat) (f : PinS → PinS) (s : State) (x : Fld) : rd (modPin i f s) x = rd s x := (rfl)
@[simp] theorem rd_modTodr (i : Nat) (f : TodS → TodS) (s : State) (x : Fld) : rd (modTodr i f s) x = rd s x := (rfl)
@[simp] theorem rd_modSlot (i : Nat) (f : SlotS → SlotS) (s : State) (x : Fld) : rd (modSlot i f s) x = rd s x := (rfl)
@[simp] theorem rd_modEst (i : Nat) (f : SlotEst → SlotEst) (s : State) (x : Fld) : rd (modEst i f s) x = rd s x := (rfl)
@[simp] theorem rd_modSlice (i : Nat) (f : SliceS → SliceS) (s : State) (x : Fld) : rd (modSlice i f s) x = rd s x := (rfl)
@[simp] theorem rd_modUnit (i : Nat) (f : UnitS → UnitS) (s : State) (x : Fld) : rd (modUnit i f s) x = rd s x := (rfl)
@[simp] theorem rd_modSyn (i : Nat) (f : SynS → SynS) (s : State) (x : Fld) : rd (modSyn i f s) x = rd s x := (rfl)
@[simp] theorem rd_modOut (i : Nat) (f : OutS → OutS) (s : State) (x : Fld) : rd (modOut i f s) x = rd s x := (rfl)
@[simp] theorem rd_modAst (f : AstS → AstS) (s : State) (x : Fld) : rd (modAst f s) x = rd s x := (rfl)
@[simp] theorem rd_modFlt (f : FltS → FltS) (s : State) (x : Fld) : rd (modFlt f s) x = rd s x := (rfl)
@[simp] theorem rd_modGen (f : GenS → GenS) (s : State) (x : Fld) : rd (modGen f s) x = rd s x := (rfl)
@[simp] theorem rd_modHost (f : HostS → HostS) (s : State) (x : Fld) : rd (modHost f s) x = rd s x := (rfl)
@[simp] theorem rd_modNvm (f : NvmS → NvmS) (s : State) (x : Fld) : rd (modNvm f s) x = rd s x := (rfl)
@[simp] theorem rd_modMns (f : MnsS → MnsS) (s : State) (x : Fld) : rd (modMns f s) x = rd s x := (rfl)
@[simp] theorem rd_modCrl (f : CrlS → CrlS) (s : State) (x : Fld) : rd (modCrl f s) x = rd s x := (rfl)
@[simp] theorem rd_modPtp (f : PtpS → PtpS) (s : State) (x : Fld) : rd (modPtp f s) x = rd s x := (rfl)
@[simp] theorem rd_modClk (f : ClkS → ClkS) (s : State) (x : Fld) : rd (modClk f s) x = rd s x := (rfl)
@[simp] theorem rd_modRst (f : RstS → RstS) (s : State) (x : Fld) : rd (modRst f s) x = rd s x := (rfl)
@[simp] theorem rd_modSch (f : SchS → SchS) (s : State) (x : Fld) : rd (modSch f s) x = rd s x := (rfl)
@[simp] theorem rd_modSec (f : SecS → SecS) (s : State) (x : Fld) : rd (modSec f s) x = rd s x := (rfl)
@[simp] theorem rd_modTkp (f : TkpS → TkpS) (s : State) (x : Fld) : rd (modTkp f s) x = rd s x := (rfl)
@[simp] theorem rd_cycMark (f : Fld) (v : Nat) (s : State) (x : Fld) : rd (cycMark f v s) x = rd s x := (rfl)
@[simp] theorem rd_modGrp (g : Nat) (f : RwsGroup → RwsGroup) (s : State) (x : Fld) : rd (modGrp g f s) x = rd s x := (rfl)

/-! ### Control -/

@[simp] theorem whenB_true (f : State → State) (s : State) : whenB true f s = f s := (rfl)
@[simp] theorem whenB_false (f : State → State) (s : State) : whenB false f s = s := (rfl)
theorem whenB_pos {c : Bool} (h : c = true) (f : State → State) (s : State) : whenB c f s = f s := by simp [whenB, h]
theorem whenB_neg {c : Bool} (h : c = false) (f : State → State) (s : State) : whenB c f s = s := by simp [whenB, h]

@[simp] theorem forEach_nil {α : Type} (f : α → State → State) (s : State) : forEach [] f s = s := (rfl)
@[simp] theorem forEach_cons {α : Type} (a : α) (l : List α) (f : α → State → State) (s : State) :
    forEach (a :: l) f s = forEach l f (f a s) := (rfl)

/-- what each round keeps, the loop keeps -/
theorem forEach_keeps {α β : Type} (get : State → β) (l : List α) (f : α → State → State) (s : State)
    (h : ∀ a s, get (f a s) = get s) : get (forEach l f s) = get s := by
  induction l generalizing s with
  | nil => rfl
  | cons a r ih => rw [forEach_cons, ih, h]

/-! ### Vectors -/

theorem ix_upd_same {α : Type} [Inhabited α] {n : Nat} (v : Vector α n) {i : Nat} (f : α → α) (h : i < n) : ix (upd v i f) i = f (ix v i) := by
  simp [ix, upd, h]

theorem ix_upd_ne {α : Type} [Inhabited α] {n : Nat} (v : Vector α n) {i j : Nat} (f : α → α) (h : i ≠ j) : ix (upd v i f) j = ix v j := by
  unfold ix upd
  split
  · split
    · rw [Vector.getElem_set_ne]; exact h
    · rfl
  · rfl

theorem ix_vset_same {α : Type} [Inhabited α] {n : Nat} (v : Vector α n) {i : Nat} (x : α) (h : i < n) : ix (vset v i x) i = x := by
  simp [vset, ix_upd_same v _ h]

theorem ix_vset_ne {α : Type} [Inhabited α] {n : Nat} (v : Vector α n) {i j : Nat} (x : α) (h : i ≠ j) : ix (vset v i x) j = ix v j :=
  ix_upd_ne v _ h

end Sys2Proof.Machine
end

