-- ==== Sys2Proof/Laws/Time.lean ====
section
/-! SUPPORT. The passing of time (advanceTo, pass) and the end of a command (calm, settle, closed, done): all they can do. -/

namespace Sys2Proof.Machine

/-! ### advanceTo and pass: device time, the time of day and the accumulators move, nothing else does -/

@[simp] theorem advanceTo_pending (t : Nat) (s : State) : (advanceTo t s).pending = s.pending := by unfold advanceTo; repeat' (first | rfl | split)
@[simp] theorem pass_pending (n : Nat) (s : State) : (pass n s).pending = s.pending := advanceTo_pending _ s
@[simp] theorem advanceTo_regs (t : Nat) (s : State) : (advanceTo t s).regs = s.regs := by unfold advanceTo; repeat' (first | rfl | split)
@[simp] theorem pass_regs (n : Nat) (s : State) : (pass n s).regs = s.regs := advanceTo_regs _ s
@[simp] theorem advanceTo_free (t : Nat) (s : State) : (advanceTo t s).free = s.free := by unfold advanceTo; repeat' (first | rfl | split)
@[simp] theorem pass_free (n : Nat) (s : State) : (pass n s).free = s.free := advanceTo_free _ s
@[simp] theorem advanceTo_mram (t : Nat) (s : State) : (advanceTo t s).mram = s.mram := by unfold advanceTo; repeat' (first | rfl | split)
@[simp] theorem pass_mram (n : Nat) (s : State) : (pass n s).mram = s.mram := advanceTo_mram _ s
@[simp] theorem advanceTo_mramJ (t : Nat) (s : State) : (advanceTo t s).mramJ = s.mramJ := by unfold advanceTo; repeat' (first | rfl | split)
@[simp] theorem pass_mramJ (n : Nat) (s : State) : (pass n s).mramJ = s.mramJ := advanceTo_mramJ _ s
@[simp] theorem advanceTo_cram (t : Nat) (s : State) : (advanceTo t s).cram = s.cram := by unfold advanceTo; repeat' (first | rfl | split)
@[simp] theorem pass_cram (n : Nat) (s : State) : (pass n s).cram = s.cram := advanceTo_cram _ s
@[simp] theorem advanceTo_otp (t : Nat) (s : State) : (advanceTo t s).otp = s.otp := by unfold advanceTo; repeat' (first | rfl | split)
@[simp] theorem pass_otp (n : Nat) (s : State) : (pass n s).otp = s.otp := advanceTo_otp _ s
@[simp] theorem advanceTo_tempHeld (t : Nat) (s : State) : (advanceTo t s).tempHeld = s.tempHeld := by unfold advanceTo; repeat' (first | rfl | split)
@[simp] theorem pass_tempHeld (n : Nat) (s : State) : (pass n s).tempHeld = s.tempHeld := advanceTo_tempHeld _ s
@[simp] theorem advanceTo_tempAt (t : Nat) (s : State) : (advanceTo t s).tempAt = s.tempAt := by unfold advanceTo; repeat' (first | rfl | split)
@[simp] theorem pass_tempAt (n : Nat) (s : State) : (pass n s).tempAt = s.tempAt := advanceTo_tempAt _ s
@[simp] theorem advanceTo_tempStuck (t : Nat) (s : State) : (advanceTo t s).tempStuck = s.tempStuck := by unfold advanceTo; repeat' (first | rfl | split)
@[simp] theorem pass_tempStuck (n : Nat) (s : State) : (pass n s).tempStuck = s.tempStuck := advanceTo_tempStuck _ s
@[simp] theorem advanceTo_minAt (t : Nat) (s : State) : (advanceTo t s).minAt = s.minAt := by unfold advanceTo; repeat' (first | rfl | split)
@[simp] theorem pass_minAt (n : Nat) (s : State) : (pass n s).minAt = s.minAt := advanceTo_minAt _ s
@[simp] theorem advanceTo_gen (t : Nat) (s : State) : (advanceTo t s).gen = s.gen := by unfold advanceTo; repeat' (first | rfl | split)
@[simp] theorem pass_gen (n : Nat) (s : State) : (pass n s).gen = s.gen := advanceTo_gen _ s
@[simp] theorem advanceTo_rst (t : Nat) (s : State) : (advanceTo t s).rst = s.rst := by unfold advanceTo; repeat' (first | rfl | split)
@[simp] theorem pass_rst (n : Nat) (s : State) : (pass n s).rst = s.rst := advanceTo_rst _ s
@[simp] theorem advanceTo_flt (t : Nat) (s : State) : (advanceTo t s).flt = s.flt := by unfold advanceTo; repeat' (first | rfl | split)
@[simp] theorem pass_flt (n : Nat) (s : State) : (pass n s).flt = s.flt := advanceTo_flt _ s
@[simp] theorem advanceTo_host (t : Nat) (s : State) : (advanceTo t s).host = s.host := by unfold advanceTo; repeat' (first | rfl | split)
@[simp] theorem pass_host (n : Nat) (s : State) : (pass n s).host = s.host := advanceTo_host _ s
@[simp] theorem advanceTo_aon (t : Nat) (s : State) : (advanceTo t s).aon = s.aon := by unfold advanceTo; repeat' (first | rfl | split)
@[simp] theorem pass_aon (n : Nat) (s : State) : (pass n s).aon = s.aon := advanceTo_aon _ s
@[simp] theorem advanceTo_img (t : Nat) (s : State) : (advanceTo t s).img = s.img := by unfold advanceTo; repeat' (first | rfl | split)
@[simp] theorem pass_img (n : Nat) (s : State) : (pass n s).img = s.img := advanceTo_img _ s
@[simp] theorem advanceTo_clk (t : Nat) (s : State) : (advanceTo t s).clk = s.clk := by unfold advanceTo; repeat' (first | rfl | split)
@[simp] theorem pass_clk (n : Nat) (s : State) : (pass n s).clk = s.clk := advanceTo_clk _ s
@[simp] theorem advanceTo_pin (t : Nat) (s : State) : (advanceTo t s).pin = s.pin := by unfold advanceTo; repeat' (first | rfl | split)
@[simp] theorem pass_pin (n : Nat) (s : State) : (pass n s).pin = s.pin := advanceTo_pin _ s
@[simp] theorem advanceTo_todr (t : Nat) (s : State) : (advanceTo t s).todr = s.todr := by unfold advanceTo; repeat' (first | rfl | split)
@[simp] theorem pass_todr (n : Nat) (s : State) : (pass n s).todr = s.todr := advanceTo_todr _ s
@[simp] theorem advanceTo_todWas (t : Nat) (s : State) : (advanceTo t s).todWas = s.todWas := by unfold advanceTo; repeat' (first | rfl | split)
@[simp] theorem pass_todWas (n : Nat) (s : State) : (pass n s).todWas = s.todWas := advanceTo_todWas _ s
@[simp] theorem advanceTo_slot (t : Nat) (s : State) : (advanceTo t s).slot = s.slot := by unfold advanceTo; repeat' (first | rfl | split)
@[simp] theorem pass_slot (n : Nat) (s : State) : (pass n s).slot = s.slot := advanceTo_slot _ s
@[simp] theorem advanceTo_pmu (t : Nat) (s : State) : (advanceTo t s).pmu = s.pmu := by unfold advanceTo; repeat' (first | rfl | split)
@[simp] theorem pass_pmu (n : Nat) (s : State) : (pass n s).pmu = s.pmu := advanceTo_pmu _ s
@[simp] theorem advanceTo_slice (t : Nat) (s : State) : (advanceTo t s).slice = s.slice := by unfold advanceTo; repeat' (first | rfl | split)
@[simp] theorem pass_slice (n : Nat) (s : State) : (pass n s).slice = s.slice := advanceTo_slice _ s
@[simp] theorem advanceTo_unit (t : Nat) (s : State) : (advanceTo t s).unit = s.unit := by unfold advanceTo; repeat' (first | rfl | split)
@[simp] theorem pass_unit (n : Nat) (s : State) : (pass n s).unit = s.unit := advanceTo_unit _ s
@[simp] theorem advanceTo_sel (t : Nat) (s : State) : (advanceTo t s).sel = s.sel := by unfold advanceTo; repeat' (first | rfl | split)
@[simp] theorem pass_sel (n : Nat) (s : State) : (pass n s).sel = s.sel := advanceTo_sel _ s
@[simp] theorem advanceTo_selWas (t : Nat) (s : State) : (advanceTo t s).selWas = s.selWas := by unfold advanceTo; repeat' (first | rfl | split)
@[simp] theorem pass_selWas (n : Nat) (s : State) : (pass n s).selWas = s.selWas := advanceTo_selWas _ s
@[simp] theorem advanceTo_est (t : Nat) (s : State) : (advanceTo t s).est = s.est := by unfold advanceTo; repeat' (first | rfl | split)
@[simp] theorem pass_est (n : Nat) (s : State) : (pass n s).est = s.est := advanceTo_est _ s
@[simp] theorem advanceTo_syn (t : Nat) (s : State) : (advanceTo t s).syn = s.syn := by unfold advanceTo; repeat' (first | rfl | split)
@[simp] theorem pass_syn (n : Nat) (s : State) : (pass n s).syn = s.syn := advanceTo_syn _ s
@[simp] theorem advanceTo_out (t : Nat) (s : State) : (advanceTo t s).out = s.out := by unfold advanceTo; repeat' (first | rfl | split)
@[simp] theorem pass_out (n : Nat) (s : State) : (pass n s).out = s.out := advanceTo_out _ s
@[simp] theorem advanceTo_commit (t : Nat) (s : State) : (advanceTo t s).commit = s.commit := by unfold advanceTo; repeat' (first | rfl | split)
@[simp] theorem pass_commit (n : Nat) (s : State) : (pass n s).commit = s.commit := advanceTo_commit _ s
@[simp] theorem advanceTo_tkp (t : Nat) (s : State) : (advanceTo t s).tkp = s.tkp := by unfold advanceTo; repeat' (first | rfl | split)
@[simp] theorem pass_tkp (n : Nat) (s : State) : (pass n s).tkp = s.tkp := advanceTo_tkp _ s
@[simp] theorem advanceTo_mns (t : Nat) (s : State) : (advanceTo t s).mns = s.mns := by unfold advanceTo; repeat' (first | rfl | split)
@[simp] theorem pass_mns (n : Nat) (s : State) : (pass n s).mns = s.mns := advanceTo_mns _ s
@[simp] theorem advanceTo_nvm (t : Nat) (s : State) : (advanceTo t s).nvm = s.nvm := by unfold advanceTo; repeat' (first | rfl | split)
@[simp] theorem pass_nvm (n : Nat) (s : State) : (pass n s).nvm = s.nvm := advanceTo_nvm _ s
@[simp] theorem advanceTo_sec (t : Nat) (s : State) : (advanceTo t s).sec = s.sec := by unfold advanceTo; repeat' (first | rfl | split)
@[simp] theorem pass_sec (n : Nat) (s : State) : (pass n s).sec = s.sec := advanceTo_sec _ s
@[simp] theorem advanceTo_ast (t : Nat) (s : State) : (advanceTo t s).ast = s.ast := by unfold advanceTo; repeat' (first | rfl | split)
@[simp] theorem pass_ast (n : Nat) (s : State) : (pass n s).ast = s.ast := advanceTo_ast _ s
@[simp] theorem advanceTo_sch (t : Nat) (s : State) : (advanceTo t s).sch = s.sch := by unfold advanceTo; repeat' (first | rfl | split)
@[simp] theorem pass_sch (n : Nat) (s : State) : (pass n s).sch = s.sch := advanceTo_sch _ s
@[simp] theorem advanceTo_crl (t : Nat) (s : State) : (advanceTo t s).crl = s.crl := by unfold advanceTo; repeat' (first | rfl | split)
@[simp] theorem pass_crl (n : Nat) (s : State) : (pass n s).crl = s.crl := advanceTo_crl _ s
@[simp] theorem advanceTo_ptp (t : Nat) (s : State) : (advanceTo t s).ptp = s.ptp := by unfold advanceTo; repeat' (first | rfl | split)
@[simp] theorem pass_ptp (n : Nat) (s : State) : (pass n s).ptp = s.ptp := advanceTo_ptp _ s

@[simp] theorem advanceTo_now (t : Nat) (s : State) : (advanceTo t s).now = max s.now t := by
  unfold advanceTo
  split
  · omega
  · split <;> (simp only; omega)

@[simp] theorem pass_now (n : Nat) (s : State) : (pass n s).now = s.now + n := by simp [pass]

/-- the time of day after advanceTo (R236) -/
theorem advanceTo_tod (t : Nat) (s : State) (h : s.now ≤ t) (hr : s.tkp.run = true) :
    (advanceTo t s).tod = (accAdd s.tod (t - s.now) (wordOf s (timeDpll s))).toNat := by
  unfold advanceTo
  split
  · have : t = s.now := by omega
    subst this; simp [accAdd]
  · rfl

@[simp] theorem rd_advanceTo (t : Nat) (s : State) (f : Fld) : rd (advanceTo t s) f = rd s f := rd_congr (advanceTo_regs t s) f
@[simp] theorem rd_pass (n : Nat) (s : State) (f : Fld) : rd (pass n s) f = rd s f := rd_congr (pass_regs n s) f
@[simp] theorem pass_zero (s : State) : pass 0 s = s := by simp [pass, advanceTo]

/-! ### calm -/

theorem calm_iff (s : State) : calm s = true ↔
    (∀ d < 8, (ix s.sel d).due = 0) ∧ s.tkp.moved = none ∧ s.tkp.leapt = false ∧ s.crl.dead = [] ∧ s.ptp.stale = false ∧
      s.ptp.entered = false ∧ s.sec.rekeyed = false ∧ s.flt.raised = [] := by
  simp [calm, and_assoc]

/-- calm reads six fields of the state only -/
theorem calm_congr {s t : State} (h1 : s.tkp = t.tkp) (h2 : s.crl = t.crl) (h3 : s.ptp = t.ptp) (h4 : s.flt = t.flt) (h5 : s.sel = t.sel)
    (h6 : s.sec = t.sec) : calm s = calm t := by simp [calm, h1, h2, h3, h4, h5, h6]

@[simp] theorem calm_advanceTo (t : Nat) (s : State) : calm (advanceTo t s) = calm s := calm_congr (by simp) (by simp) (by simp) (by simp) (by simp) (by simp)
@[simp] theorem calm_pass (n : Nat) (s : State) : calm (pass n s) = calm s := calm_advanceTo _ s

@[simp] theorem calm_put (f : Fld) (v : Nat) (s : State) : calm (put f v s) = calm s := (rfl)
@[simp] theorem calm_putIn (b : Nat) (f : Fld) (v : Nat) (s : State) : calm (putIn b f v s) = calm s := (rfl)
@[simp] theorem calm_putCram (i v : Nat) (s : State) : calm (putCram i v s) = calm s := (rfl)
@[simp] theorem calm_mwr (a : Nat) (l : List Byte) (s : State) : calm (mwr a l s) = calm s := (rfl)
@[simp] theorem calm_modDpll (i : Nat) (f : DpllS → DpllS) (s : State) : calm (modDpll i f s) = calm s := (rfl)
@[simp] theorem calm_modPin (i : Nat) (f : PinS → PinS) (s : State) : calm (modPin i f s) = calm s := (rfl)
@[simp] theorem calm_modTodr (i : Nat) (f : TodS → TodS) (s : State) : calm (modTodr i f s) = calm s := (rfl)
@[simp] theorem calm_modSlot (i : Nat) (f : SlotS → SlotS) (s : State) : calm (modSlot i f s) = calm s := (rfl)
@[simp] theorem calm_modEst (i : Nat) (f : SlotEst → SlotEst) (s : State) : calm (modEst i f s) = calm s := (rfl)
@[simp] theorem calm_modSlice (i : Nat) (f : SliceS → SliceS) (s : State) : calm (modSlice i f s) = calm s := (rfl)
@[simp] theorem calm_modUnit (i : Nat) (f : UnitS → UnitS) (s : State) : calm (modUnit i f s) = calm s := (rfl)
@[simp] theorem calm_modSyn (i : Nat) (f : SynS → SynS) (s : State) : calm (modSyn i f s) = calm s := (rfl)
@[simp] theorem calm_modOut (i : Nat) (f : OutS → OutS) (s : State) : calm (modOut i f s) = calm s := (rfl)
@[simp] theorem calm_modAst (f : AstS → AstS) (s : State) : calm (modAst f s) = calm s := (rfl)
@[simp] theorem calm_modGen (f : GenS → GenS) (s : State) : calm (modGen f s) = calm s := (rfl)
@[simp] theorem calm_modHost (f : HostS → HostS) (s : State) : calm (modHost f s) = calm s := (rfl)
@[simp] theorem calm_modNvm (f : NvmS → NvmS) (s : State) : calm (modNvm f s) = calm s := (rfl)
@[simp] theorem calm_modMns (f : MnsS → MnsS) (s : State) : calm (modMns f s) = calm s := (rfl)
@[simp] theorem calm_modClk (f : ClkS → ClkS) (s : State) : calm (modClk f s) = calm s := (rfl)
@[simp] theorem calm_modRst (f : RstS → RstS) (s : State) : calm (modRst f s) = calm s := (rfl)
@[simp] theorem calm_modSch (f : SchS → SchS) (s : State) : calm (modSch f s) = calm s := (rfl)
@[simp] theorem calm_cycMark (f : Fld) (v : Nat) (s : State) : calm (cycMark f v s) = calm s := (rfl)
@[simp] theorem calm_modGrp (g : Nat) (f : RwsGroup → RwsGroup) (s : State) : calm (modGrp g f s) = calm s := (rfl)

/-! ### The end of a command -/

/-- a command that leaves nothing for others to follow ends as it stands -/
theorem settle_calm {s : State} (h : calm s = true) : settle s = s := by simp [settle, settleN, h]

/-- every command answers a next state -/
theorem done_next (s t : State) : done s t = .next (closed s (settle t)) := (rfl)

theorem done_calm (s : State) {t : State} (h : calm t = true) : done s t = .next (closed s t) := by rw [done_next, settle_calm h]

/-- nothing is left for others to follow once a command has ended -/
theorem calm_closed (s u : State) : calm (closed s u) = true := by
  rw [calm_iff]
  refine ⟨fun d hd => ?_, rfl, rfl, rfl, rfl, rfl, rfl, rfl⟩
  simp [closed, ix, hd]

@[simp] theorem closed_pending (s u : State) : (closed s u).pending = s.pending := (rfl)
@[simp] theorem closed_now (s u : State) : (closed s u).now = u.now := (rfl)
@[simp] theorem closed_tod (s u : State) : (closed s u).tod = u.tod := (rfl)
@[simp] theorem closed_regs (s u : State) : (closed s u).regs = u.regs := (rfl)
@[simp] theorem closed_cyc (s u : State) : (closed s u).cyc = u.cyc := (rfl)
@[simp] theorem closed_free (s u : State) : (closed s u).free = u.free := (rfl)
@[simp] theorem closed_mram (s u : State) : (closed s u).mram = memPutAll s.mram u.mramJ := (rfl)
@[simp] theorem closed_mramJ (s u : State) : (closed s u).mramJ = [] := (rfl)
@[simp] theorem closed_cram (s u : State) : (closed s u).cram = u.cram := (rfl)
@[simp] theorem closed_otp (s u : State) : (closed s u).otp = s.otp ||| u.otp := (rfl)
@[simp] theorem closed_tempHeld (s u : State) : (closed s u).tempHeld = u.tempHeld := (rfl)
@[simp] theorem closed_tempAt (s u : State) : (closed s u).tempAt = u.tempAt := (rfl)
@[simp] theorem closed_tempStuck (s u : State) : (closed s u).tempStuck = u.tempStuck := (rfl)
@[simp] theorem closed_minAt (s u : State) : (closed s u).minAt = u.minAt := (rfl)
@[simp] theorem closed_gen (s u : State) : (closed s u).gen = u.gen := (rfl)
@[simp] theorem closed_rst (s u : State) : (closed s u).rst = u.rst := (rfl)
@[simp] theorem closed_flt (s u : State) : (closed s u).flt = { u.flt with raised := [] } := (rfl)
@[simp] theorem closed_host (s u : State) : (closed s u).host = u.host := (rfl)
@[simp] theorem closed_aon (s u : State) : (closed s u).aon = u.aon := (rfl)
@[simp] theorem closed_img (s u : State) : (closed s u).img = u.img := (rfl)
@[simp] theorem closed_clk (s u : State) : (closed s u).clk = u.clk := (rfl)
@[simp] theorem closed_pin (s u : State) : (closed s u).pin = u.pin := (rfl)
@[simp] theorem closed_todr (s u : State) : (closed s u).todr = u.todr := (rfl)
@[simp] theorem closed_todWas (s u : State) : (closed s u).todWas = u.todWas := (rfl)
@[simp] theorem closed_slot (s u : State) : (closed s u).slot = u.slot := (rfl)
@[simp] theorem closed_pmu (s u : State) : (closed s u).pmu = u.pmu := (rfl)
@[simp] theorem closed_slice (s u : State) : (closed s u).slice = u.slice := (rfl)
@[simp] theorem closed_unit (s u : State) : (closed s u).unit = u.unit := (rfl)
@[simp] theorem closed_sel (s u : State) : (closed s u).sel = u.sel.map (fun x => { x with due := 0 }) := (rfl)
@[simp] theorem closed_selWas (s u : State) : (closed s u).selWas = u.selWas := (rfl)
@[simp] theorem closed_dpll (s u : State) : (closed s u).dpll = u.dpll := (rfl)
@[simp] theorem closed_est (s u : State) : (closed s u).est = u.est := (rfl)
@[simp] theorem closed_syn (s u : State) : (closed s u).syn = u.syn := (rfl)
@[simp] theorem closed_out (s u : State) : (closed s u).out = u.out := (rfl)
@[simp] theorem closed_commit (s u : State) : (closed s u).commit = u.commit := (rfl)
@[simp] theorem closed_tkp (s u : State) : (closed s u).tkp = { u.tkp with moved := none, leapt := false } := (rfl)
@[simp] theorem closed_mns (s u : State) : (closed s u).mns = u.mns := (rfl)
@[simp] theorem closed_nvm (s u : State) : (closed s u).nvm = u.nvm := (rfl)
@[simp] theorem closed_sec (s u : State) : (closed s u).sec = { u.sec with rekeyed := false } := (rfl)
@[simp] theorem closed_ast (s u : State) : (closed s u).ast = u.ast := (rfl)
@[simp] theorem closed_sch (s u : State) : (closed s u).sch = u.sch := (rfl)
@[simp] theorem closed_crl (s u : State) : (closed s u).crl = { u.crl with dead := [] } := (rfl)
@[simp] theorem closed_ptp (s u : State) : (closed s u).ptp = { u.ptp with stale := false, entered := false } := (rfl)
@[simp] theorem rd_closed (s u : State) (f : Fld) : rd (closed s u) f = rd u f := (rfl)

end Sys2Proof.Machine
end

