-- ==== Sys2Proof/Laws/Write.lean ====
section
/-! SUPPORT. The host port: what a write of a whole word comes to while nothing waits before it. -/

namespace Sys2Proof.Machine
open Sys2Proof.Reg Sys2Proof.Safety

theorem hostIdle_pass {n : Nat} {s : State} : HostIdle (pass n s) ↔ HostIdle s := by simp [HostIdle]

theorem inSequence_run {s : State} (h : s.rst.phase = .run) : inSequence s = false := by simp [inSequence, h]

@[simp] theorem inSequence_pass (n : Nat) (s : State) : inSequence (pass n s) = inSequence s := by simp [inSequence]

@[simp] theorem mrd_pass (n : Nat) (s : State) (a : Nat) : mrd (pass n s) a = mrd s a := by simp [mrd]

@[simp] theorem prTarget_pass (n : Nat) (s : State) : prTarget (pass n s) = prTarget s := by
  unfold pass advanceTo
  repeat' (first | rfl | split)

/-- a partial reload has a target from block 4 to block 14 only (R86) -/
theorem prTarget_block {s : State} {b : Nat} (h : b < 4 ∨ 14 < b) : prTarget s ≠ some b := by
  simp only [prTarget]
  split
  · rename_i e
    simp only [Bool.and_eq_true, decide_eq_true_eq] at e
    intro he; cases he; omega
  · simp

theorem open_pass {s : State} {a : Nat} (n : Nat) (h : Open s a) : Open (pass n s) a := by
  simpa [Open, HostIdle] using h

/-- what a host access of n bytes at an aligned address a leaves before it acts: nothing held, the address as issued kept -/
theorem inOrder_idle {s : State} (h : HostIdle s) : inOrder s = modHost (fun h => { h with heldHalf := none }) s := by
  simp [inOrder, h.2.1, h.2.2, postedRun, stagedAlone]

/-- a write of n bytes at an aligned address while nothing waits -/
theorem writeOne_idle {s : State} (h : HostIdle s) (a n data : Nat) (hn : accSize n = n) (hm : a % n = 0) :
    writeOne a n data s =
      writeWord (wordAddr a) (aliasOf a) (enables n (a % 4)) (data % 2 ^ (8 * n) * 2 ^ (8 * (a % 4)))
        (modHost (fun h => { h with heldHalf := none, cur := a % 2 ^ 24, curAt := cycleNow s + 1 }) s) := by
  simp [writeOne, inOrder_idle h, hostWrite, inSequence, h.1, hn, beginAccess, hm, modHost, cycleNow]

/-- a whole word written through alias al while nothing waits -/
theorem writeReg_idle {s : State} (h : HostIdle s) (addr al data : Nat) (h4 : addr % 4 = 0) :
    writeReg addr al data s =
      writeWord (wordAddr (addr + al % 4 * 2 ^ 18)) (aliasOf (addr + al % 4 * 2 ^ 18)) 15 (data % 2 ^ 32)
        (modHost (fun h => { h with heldHalf := none, cur := (addr + al % 4 * 2 ^ 18) % 2 ^ 24, curAt := cycleNow s + 1 }) s) := by
  have hm : (addr + al % 4 * 2 ^ 18) % 4 = 0 := by omega
  rw [writeReg, writeOne_idle h _ 4 _ rfl hm, hm]
  simp [enables]

/-- a write that nothing stops before the block -/
theorem writeWord_taken {s : State} {addr al be data : Nat} {r : RegRow} (hb : hostBlocked s addr = false) (hr : rowAt addr = some r)
    (hw : r.whole = false ∨ be = 15) (hg : rwsGroupOf addr = none) (hl : ∀ v, lockHit s addr be v = false) :
    writeWord addr al be data s =
      takeWrite { addr := addr, be := be, data := aliasData al (liveWord s addr) data }
        (mergeWord (liveWord s addr) be (aliasData al (liveWord s addr) data)) s := by
  rcases hw with hw | rfl <;> simp [writeWord, *]

/-- no lock bit stands in the way while SE_LOCK is 0 (R511) -/
theorem lockHit_unlocked {s : State} (h : rd s GEN_LOCK_SE_LOCK = 0) (addr be v : Nat) : lockHit s addr be v = false := by
  simp [lockHit, on, h]

/-- a plain write that the block takes -/
theorem writeWord_take {s : State} {addr data : Nat} {r : RegRow} (hb : hostBlocked s addr = false) (hr : rowAt addr = some r)
    (hg : rwsGroupOf addr = none) (hl : rd s GEN_LOCK_SE_LOCK = 0) :
    writeWord addr 0 15 data s =
      takeWrite { addr := addr, be := 15, data := data } (mergeWord (liveWord s addr) 15 data) s :=
  writeWord_taken hb hr (.inr rfl) hg (fun v => lockHit_unlocked hl addr 15 v)

/-- a register whose write an Open host port passes on to blocks 4 to 14 -/
theorem writeReg_open {s : State} {addr data : Nat} {r : RegRow} (h : Open s addr) (h4 : addr % 4 = 0) (hw : wordAddr addr = addr)
    (ha : aliasOf addr = 0) (hr : rowAt addr = some r) (hg : rwsGroupOf addr = none) (hp : isPartnerReg addr = false)
    (h24 : addr < 2 ^ 24) :
    writeReg addr 0 data s =
      takeWrite { addr := addr, be := 15, data := data % 2 ^ 32 }
        (mergeWord (liveWord (modHost (fun h => { h with heldHalf := none, cur := addr, curAt := cycleNow s + 1 }) s) addr) 15 (data % 2 ^ 32))
        (modHost (fun h => { h with heldHalf := none, cur := addr, curAt := cycleNow s + 1 }) s) := by
  rw [writeReg_idle h.1 _ _ _ h4]
  simp only [Nat.zero_mod, Nat.zero_mul, Nat.add_zero, hw, ha, Nat.mod_eq_of_lt h24]
  refine writeWord_take ?_ hr hg ?_
  · have hpr : prTarget (modHost (fun h => { h with heldHalf := none, cur := addr, curAt := cycleNow s + 1 }) s) ≠ some (blockOf addr) := h.2.2.1
    simp [hostBlocked, hp, h.2.1, hpr]
  · exact h.2.2.2

/-- a plain write that an Open host port passes on to a block of 4 to 14 -/
theorem writeReg_block {s : State} {dt addr data : Nat} {r : RegRow} (h : Open s addr) (h4 : addr % 4 = 0) (hw : wordAddr addr = addr)
    (ha : aliasOf addr = 0) (hr : rowAt addr = some r) (hg : rwsGroupOf addr = none) (hp : isPartnerReg addr = false)
    (h24 : addr < 2 ^ 24) (hk : 4 ≤ blockOf addr ∧ blockOf addr ≤ 14) :
    writeReg addr 0 data (pass dt s) = regWrite { addr := addr, be := 15, data := data % 2 ^ 32 } (Issued addr dt s) := by
  rw [writeReg_open (open_pass dt h) h4 hw ha hr hg hp h24]
  unfold takeWrite
  split <;> first | rfl | (rename_i e; simp only [e] at hk; omega)

@[simp] theorem issued_now (a dt : Nat) (s : State) : (Issued a dt s).now = s.now + dt := by simp [Issued]
@[simp] theorem rd_issued (a dt : Nat) (s : State) (f : Fld) : rd (Issued a dt s) f = rd s f := by simp [Issued]
@[simp] theorem issued_pending (a dt : Nat) (s : State) : (Issued a dt s).pending = s.pending := by simp [Issued]
@[simp] theorem issued_regs (a dt : Nat) (s : State) : (Issued a dt s).regs = s.regs := by simp [Issued]
@[simp] theorem issued_free (a dt : Nat) (s : State) : (Issued a dt s).free = s.free := by simp [Issued]
@[simp] theorem issued_mram (a dt : Nat) (s : State) : (Issued a dt s).mram = s.mram := by simp [Issued]
@[simp] theorem issued_mramJ (a dt : Nat) (s : State) : (Issued a dt s).mramJ = s.mramJ := by simp [Issued]
@[simp] theorem issued_cram (a dt : Nat) (s : State) : (Issued a dt s).cram = s.cram := by simp [Issued]
@[simp] theorem issued_otp (a dt : Nat) (s : State) : (Issued a dt s).otp = s.otp := by simp [Issued]
@[simp] theorem issued_tempHeld (a dt : Nat) (s : State) : (Issued a dt s).tempHeld = s.tempHeld := by simp [Issued]
@[simp] theorem issued_tempAt (a dt : Nat) (s : State) : (Issued a dt s).tempAt = s.tempAt := by simp [Issued]
@[simp] theorem issued_minAt (a dt : Nat) (s : State) : (Issued a dt s).minAt = s.minAt := by simp [Issued]
@[simp] theorem issued_gen (a dt : Nat) (s : State) : (Issued a dt s).gen = s.gen := by simp [Issued]
@[simp] theorem issued_rst (a dt : Nat) (s : State) : (Issued a dt s).rst = s.rst := by simp [Issued]
@[simp] theorem issued_flt (a dt : Nat) (s : State) : (Issued a dt s).flt = s.flt := by simp [Issued]
@[simp] theorem issued_aon (a dt : Nat) (s : State) : (Issued a dt s).aon = s.aon := by simp [Issued]
@[simp] theorem issued_img (a dt : Nat) (s : State) : (Issued a dt s).img = s.img := by simp [Issued]
@[simp] theorem issued_clk (a dt : Nat) (s : State) : (Issued a dt s).clk = s.clk := by simp [Issued]
@[simp] theorem issued_pin (a dt : Nat) (s : State) : (Issued a dt s).pin = s.pin := by simp [Issued]
@[simp] theorem issued_todr (a dt : Nat) (s : State) : (Issued a dt s).todr = s.todr := by simp [Issued]
@[simp] theorem issued_slot (a dt : Nat) (s : State) : (Issued a dt s).slot = s.slot := by simp [Issued]
@[simp] theorem issued_pmu (a dt : Nat) (s : State) : (Issued a dt s).pmu = s.pmu := by simp [Issued]
@[simp] theorem issued_slice (a dt : Nat) (s : State) : (Issued a dt s).slice = s.slice := by simp [Issued]
@[simp] theorem issued_unit (a dt : Nat) (s : State) : (Issued a dt s).unit = s.unit := by simp [Issued]
@[simp] theorem issued_sel (a dt : Nat) (s : State) : (Issued a dt s).sel = s.sel := by simp [Issued]
@[simp] theorem issued_est (a dt : Nat) (s : State) : (Issued a dt s).est = s.est := by simp [Issued]
@[simp] theorem issued_syn (a dt : Nat) (s : State) : (Issued a dt s).syn = s.syn := by simp [Issued]
@[simp] theorem issued_out (a dt : Nat) (s : State) : (Issued a dt s).out = s.out := by simp [Issued]
@[simp] theorem issued_commit (a dt : Nat) (s : State) : (Issued a dt s).commit = s.commit := by simp [Issued]
@[simp] theorem issued_tkp (a dt : Nat) (s : State) : (Issued a dt s).tkp = s.tkp := by simp [Issued]
@[simp] theorem issued_mns (a dt : Nat) (s : State) : (Issued a dt s).mns = s.mns := by simp [Issued]
@[simp] theorem issued_nvm (a dt : Nat) (s : State) : (Issued a dt s).nvm = s.nvm := by simp [Issued]
@[simp] theorem issued_sec (a dt : Nat) (s : State) : (Issued a dt s).sec = s.sec := by simp [Issued]
@[simp] theorem issued_ast (a dt : Nat) (s : State) : (Issued a dt s).ast = s.ast := by simp [Issued]
@[simp] theorem issued_sch (a dt : Nat) (s : State) : (Issued a dt s).sch = s.sch := by simp [Issued]
@[simp] theorem issued_crl (a dt : Nat) (s : State) : (Issued a dt s).crl = s.crl := by simp [Issued]
@[simp] theorem issued_ptp (a dt : Nat) (s : State) : (Issued a dt s).ptp = s.ptp := by simp [Issued]
theorem between_issued {a dt : Nat} {s : State} (h : Between s) : Between (Issued a dt s) := by simpa [Between, Issued] using h

/-- a write through an alias that an Open host port passes on to a block of 4 to 14 -/
theorem writeReg_alias {s : State} {dt addr al data : Nat} {r : RegRow} (h : Open s addr) (hal : al < 4) (h4 : addr % 4 = 0)
    (hw : wordAddr (addr + al * 2 ^ 18) = addr) (ha : aliasOf (addr + al * 2 ^ 18) = al) (hr : rowAt addr = some r)
    (hg : rwsGroupOf addr = none) (hp : isPartnerReg addr = false) (h24 : addr + al * 2 ^ 18 < 2 ^ 24)
    (hk : 4 ≤ blockOf addr ∧ blockOf addr ≤ 14) :
    writeReg addr al data (pass dt s) =
      regWrite { addr := addr, be := 15, data := aliasData al (liveWord (Issued (addr + al * 2 ^ 18) dt s) addr) (data % 2 ^ 32) }
        (Issued (addr + al * 2 ^ 18) dt s) := by
  rw [writeReg_idle (open_pass dt h).1 _ _ _ h4, Nat.mod_eq_of_lt hal, hw, ha, Nat.mod_eq_of_lt h24]
  have hb : hostBlocked (Issued (addr + al * 2 ^ 18) dt s) addr = false := by
    have hpr : prTarget (Issued (addr + al * 2 ^ 18) dt s) ≠ some (blockOf addr) := (open_pass dt h).2.2.1
    have hap : (Issued (addr + al * 2 ^ 18) dt s).img.applied = true := by simp only [issued_img]; exact h.2.1
    simp only [hostBlocked, hp, hap, Bool.not_true, Bool.false_and, Bool.false_or, Bool.or_false, beq_eq_false_iff_ne]
    exact hpr
  rw [show modHost _ (pass dt s) = Issued (addr + al * 2 ^ 18) dt s from rfl,
    writeWord_taken hb hr (.inr rfl) hg (fun v => lockHit_unlocked ((rd_issued _ _ _ _).trans h.2.2.2) addr 15 v)]
  unfold takeWrite
  split <;> first | rfl | (rename_i e; simp only [e] at hk; omega)

/-- a register write that its block takes -/
theorem regWrite_taken {w : WordW} {s : State} (hb : testBusy s w.addr = false) (hr : blockRefuses s w = false) :
    regWrite w s = blockWritten w s (storeWord w.addr w.be w.data s) := by simp [regWrite, hb, hr]

end Sys2Proof.Machine
end

