-- ==== Sys2Proof/Laws/Exec.lean ====
section
/-! SUPPORT. What every command has in common: it ends through `done`, answers a next state, leaves the queue of commands alone, keeps the
MRAM in canonical form and every fuse that is set; and the canonical form under every operation over the MRAM. -/

namespace Sys2Proof.Machine
open Sys2Proof.Safety

/-- every command ends through `done` -/
theorem exec_done (c : Instr) (s : State) : ∃ u, exec c s = done s u := by
  cases c <;> exact ⟨_, rfl⟩

theorem exec_next (c : Instr) (s : State) : ∃ u, exec c s = .next (closed s u) := by
  obtain ⟨u, h⟩ := exec_done c s
  exact ⟨settle u, h⟩

/-- no selector computation waiting, clearing the marks changes nothing -/
theorem selMap_calm {v : Vector SelS 8} (h : ∀ d < 8, (ix v d).due = 0) : v.map (fun x => ({ x with due := 0 } : SelS)) = v := by
  ext i hi
  have := h i hi
  simp only [ix, hi, dif_pos] at this
  rw [Vector.getElem_map, ← this]

/-- what ends between commands with the queue, the MRAM and the fuses as they were ends as it stands -/
theorem closed_self {s u : State} (h : Between u) (hp : u.pending = s.pending) (hm : u.mram = s.mram) (ho : u.otp = s.otp) :
    closed s u = u := by
  obtain ⟨hc, hj⟩ := h
  rw [calm_iff] at hc
  obtain ⟨hs, h1, h2, h3, h4, h5, h7, h6⟩ := hc
  have e5 : u.sel.map (fun x => ({ x with due := 0 } : SelS)) = u.sel := selMap_calm hs
  have e6 : ({ u.sec with rekeyed := false } : SecS) = u.sec := by generalize u.sec = x at *; cases x; simp_all
  have e1 : ({ u.tkp with moved := none, leapt := false } : TkpS) = u.tkp := by
    generalize u.tkp = x at *; cases x; simp_all
  have e2 : ({ u.crl with dead := [] } : CrlS) = u.crl := by generalize u.crl = x at *; cases x; simp_all
  have e3 : ({ u.ptp with stale := false, entered := false } : PtpS) = u.ptp := by generalize u.ptp = x at *; cases x; simp_all
  have e4 : ({ u.flt with raised := [] } : FltS) = u.flt := by generalize u.flt = x at *; cases x; simp_all
  unfold closed
  rw [e1, e2, e3, e4, e5, e6, ← hp, ← ho, Nat.or_self, ← hm, hj]
  cases u
  simp_all [memPutAll]

/-- a command whose effect leaves nothing to follow and touches neither MRAM nor fuses -/
theorem done_self {s u : State} (h : Between u) (hp : u.pending = s.pending) (hm : u.mram = s.mram) (ho : u.otp = s.otp) :
    done s u = .next u := by
  rw [done_calm s h.1, closed_self h hp hm ho]

/-! ### The MRAM -/

theorem memGet_memDel_same (m : List Host.Cell) (a : Nat) : memGet (memDel m a) a = memDefault := by
  induction m with
  | nil => rfl
  | cons e r ih =>
    obtain ⟨k, v⟩ := e
    simp only [memDel]
    split
    · exact ih
    · rename_i h; simp [memGet, h, ih]

theorem memGet_memDel_ne (m : List Host.Cell) {a b : Nat} (h : a ≠ b) : memGet (memDel m a) b = memGet m b := by
  induction m with
  | nil => rfl
  | cons e r ih =>
    obtain ⟨k, v⟩ := e
    simp only [memDel, memGet]
    split
    · rename_i e; subst e; simp [h, ih]
    · simp [memGet, ih]

theorem memGet_memIns_same (m : List Host.Cell) (a : Nat) (b : Byte) : memGet (memIns m a b) a = b := by
  induction m with
  | nil => simp [memIns, memGet]
  | cons e r ih =>
    obtain ⟨k, v⟩ := e
    simp only [memIns]
    split
    · simp [memGet]
    · split
      · simp [memGet]
      · rename_i h; simp [memGet, h, ih]

theorem memGet_memIns_ne (m : List Host.Cell) {a c : Nat} (b : Byte) (h : a ≠ c) : memGet (memIns m a b) c = memGet m c := by
  induction m with
  | nil => simp [memIns, memGet, h]
  | cons e r ih =>
    obtain ⟨k, v⟩ := e
    simp only [memIns]
    split
    · simp [memGet, h]
    · split
      · rename_i e; subst e; simp [memGet, h]
      · simp [memGet, ih]

/-- a byte reads what was last stored there -/
@[simp] theorem memGet_memPut_same (m : List Host.Cell) (a : Nat) (b : Byte) : memGet (memPut m a b) a = b := by
  unfold memPut
  split
  · rename_i h; rw [memGet_memDel_same, h]
  · exact memGet_memIns_same m a b

/-- every other byte reads as before -/
theorem memGet_memPut_ne (m : List Host.Cell) {a c : Nat} (b : Byte) (h : a ≠ c) : memGet (memPut m a b) c = memGet m c := by
  unfold memPut
  split
  · exact memGet_memDel_ne m h
  · exact memGet_memIns_ne m b h

/-- bytes stored from an address on, and every other byte as before -/
theorem memGet_memPutAll (m : List Host.Cell) (a : Nat) (l : List Byte) (x : Nat) :
    memGet (memPutAll m (l.mapIdx (fun i b => (a + i, b)))) x = if a ≤ x ∧ x < a + l.length then l.getD (x - a) 0 else memGet m x := by
  induction l generalizing m a with
  | nil => simp [memPutAll]
  | cons b r ih =>
    have e : (b :: r).mapIdx (fun i b => (a + i, b)) = (a, b) :: r.mapIdx (fun i b => (a + 1 + i, b)) := by
      simp [List.mapIdx_cons, Nat.add_assoc, Nat.add_comm 1]
    rw [e, memPutAll, List.foldl_cons]
    show memGet (memPutAll (memPut m a b) _) x = _
    rw [ih]
    by_cases h : x = a
    · subst h; simp
    · rw [memGet_memPut_ne m b (Ne.symm h)]
      by_cases h1 : a + 1 ≤ x ∧ x < a + 1 + r.length
      · have h2 : a ≤ x ∧ x < a + (b :: r).length := by simp; omega
        have h3 : x - a = (x - (a + 1)) + 1 := by omega
        rw [if_pos h1, if_pos h2, h3, List.getD_cons_succ]
      · have h2 : ¬(a ≤ x ∧ x < a + (b :: r).length) := by simp; omega
        rw [if_neg h1, if_neg h2]

theorem memWfFrom_mono {m : List Host.Cell} {i j : Nat} (h : i ≤ j) (hw : memWfFrom j m = true) : memWfFrom i m = true := by
  cases m with
  | nil => rfl
  | cons e r =>
    obtain ⟨k, v⟩ := e
    simp only [memWfFrom, Bool.and_eq_true, decide_eq_true_eq] at hw ⊢
    exact ⟨⟨by omega, hw.1.2⟩, hw.2⟩

theorem memWfFrom_memDel {m : List Host.Cell} {i : Nat} (a : Nat) (hw : memWfFrom i m = true) : memWfFrom i (memDel m a) = true := by
  induction m generalizing i with
  | nil => rfl
  | cons e r ih =>
    obtain ⟨k, v⟩ := e
    simp only [memWfFrom, Bool.and_eq_true, decide_eq_true_eq] at hw
    simp only [memDel]
    split
    · exact ih (memWfFrom_mono (by omega) hw.2)
    · simp only [memWfFrom, Bool.and_eq_true, decide_eq_true_eq]
      exact ⟨hw.1, ih hw.2⟩

theorem memWfFrom_memIns {m : List Host.Cell} {i a : Nat} {b : Byte} (hb : b ≠ memDefault) (ha : i ≤ a) (hw : memWfFrom i m = true) :
    memWfFrom i (memIns m a b) = true := by
  induction m generalizing i with
  | nil => simp [memIns, memWfFrom, ha, hb]
  | cons e r ih =>
    obtain ⟨k, v⟩ := e
    simp only [memWfFrom, Bool.and_eq_true, decide_eq_true_eq] at hw
    simp only [memIns]
    split
    · simp only [memWfFrom, Bool.and_eq_true, decide_eq_true_eq]
      exact ⟨⟨ha, hb⟩, ⟨by omega, hw.1.2⟩, hw.2⟩
    · split
      · rename_i h; subst h
        simp only [memWfFrom, Bool.and_eq_true, decide_eq_true_eq]
        exact ⟨⟨ha, hb⟩, hw.2⟩
      · simp only [memWfFrom, Bool.and_eq_true, decide_eq_true_eq]
        exact ⟨hw.1, ih (by omega) hw.2⟩

/-- storing one byte keeps the canonical form -/
theorem wf_memPut {m : List Host.Cell} (a : Nat) (b : Byte) (h : Memory.wf m = true) : Memory.wf (memPut m a b) = true := by
  unfold memPut
  split
  · exact memWfFrom_memDel a h
  · rename_i hb; exact memWfFrom_memIns hb (Nat.zero_le _) h

/-- storing a journal keeps the canonical form -/
theorem wf_memPutAll {m : List Host.Cell} (w : List Host.Cell) (h : Memory.wf m = true) : Memory.wf (memPutAll m w) = true := by
  induction w generalizing m with
  | nil => exact h
  | cons c r ih => exact ih (wf_memPut c.1 c.2 h)

theorem wf_closed {s : State} (u : State) (h : Memory.wf s.mram = true) : Memory.wf (closed s u).mram = true := wf_memPutAll _ h

end Sys2Proof.Machine
end

