-- ==== Sys2Proof/Laws/Keys.lean ====
section
/-! SUPPORT. The key and the width of every register field, for proofs that tell fields apart. -/

namespace Sys2Proof.Reg
open Sys2Proof.Machine

@[simp] theorem key_GEN_ID_PART : fldKey GEN_ID_PART = 16 := by simp only [fldKey, GEN_ID_PART]
@[simp] theorem width_GEN_ID_PART : fldWidth GEN_ID_PART = 16 := by simp only [fldWidth, GEN_ID_PART]
@[simp] theorem key_GEN_ID_GRADE : fldKey GEN_ID_GRADE = 12 := by simp only [fldKey, GEN_ID_GRADE]
@[simp] theorem width_GEN_ID_GRADE : fldWidth GEN_ID_GRADE = 4 := by simp only [fldWidth, GEN_ID_GRADE]
@[simp] theorem key_GEN_ID_STEPPING : fldKey GEN_ID_STEPPING = 8 := by simp only [fldKey, GEN_ID_STEPPING]
@[simp] theorem width_GEN_ID_STEPPING : fldWidth GEN_ID_STEPPING = 4 := by simp only [fldWidth, GEN_ID_STEPPING]
@[simp] theorem key_GEN_ID_IMGVER : fldKey GEN_ID_IMGVER = 0 := by simp only [fldKey, GEN_ID_IMGVER]
@[simp] theorem width_GEN_ID_IMGVER : fldWidth GEN_ID_IMGVER = 8 := by simp only [fldWidth, GEN_ID_IMGVER]
@[simp] theorem key_GEN_CLKSTAT_TIME_DPLL : fldKey GEN_CLKSTAT_TIME_DPLL = 37 := by simp only [fldKey, GEN_CLKSTAT_TIME_DPLL]
@[simp] theorem width_GEN_CLKSTAT_TIME_DPLL : fldWidth GEN_CLKSTAT_TIME_DPLL = 3 := by simp only [fldWidth, GEN_CLKSTAT_TIME_DPLL]
@[simp] theorem key_GEN_CLKSTAT_RCLK_OK : fldKey GEN_CLKSTAT_RCLK_OK = 36 := by simp only [fldKey, GEN_CLKSTAT_RCLK_OK]
@[simp] theorem width_GEN_CLKSTAT_RCLK_OK : fldWidth GEN_CLKSTAT_RCLK_OK = 1 := by simp only [fldWidth, GEN_CLKSTAT_RCLK_OK]
@[simp] theorem key_GEN_CLKSTAT_PMCLK_CAL : fldKey GEN_CLKSTAT_PMCLK_CAL = 35 := by simp only [fldKey, GEN_CLKSTAT_PMCLK_CAL]
@[simp] theorem width_GEN_CLKSTAT_PMCLK_CAL : fldWidth GEN_CLKSTAT_PMCLK_CAL = 1 := by simp only [fldWidth, GEN_CLKSTAT_PMCLK_CAL]
@[simp] theorem key_GEN_CLKSTAT_CORE_FROZEN : fldKey GEN_CLKSTAT_CORE_FROZEN = 34 := by simp only [fldKey, GEN_CLKSTAT_CORE_FROZEN]
@[simp] theorem width_GEN_CLKSTAT_CORE_FROZEN : fldWidth GEN_CLKSTAT_CORE_FROZEN = 1 := by simp only [fldWidth, GEN_CLKSTAT_CORE_FROZEN]
@[simp] theorem key_GEN_CLKSTAT_CORE_LOCK : fldKey GEN_CLKSTAT_CORE_LOCK = 33 := by simp only [fldKey, GEN_CLKSTAT_CORE_LOCK]
@[simp] theorem width_GEN_CLKSTAT_CORE_LOCK : fldWidth GEN_CLKSTAT_CORE_LOCK = 1 := by simp only [fldWidth, GEN_CLKSTAT_CORE_LOCK]
@[simp] theorem key_GEN_CLKSTAT_SYSCLK_PRES : fldKey GEN_CLKSTAT_SYSCLK_PRES = 32 := by simp only [fldKey, GEN_CLKSTAT_SYSCLK_PRES]
@[simp] theorem width_GEN_CLKSTAT_SYSCLK_PRES : fldWidth GEN_CLKSTAT_SYSCLK_PRES = 1 := by simp only [fldWidth, GEN_CLKSTAT_SYSCLK_PRES]
@[simp] theorem key_GEN_MODE_MODE_SE : fldKey GEN_MODE_MODE_SE = 71 := by simp only [fldKey, GEN_MODE_MODE_SE]
@[simp] theorem width_GEN_MODE_MODE_SE : fldWidth GEN_MODE_MODE_SE = 1 := by simp only [fldWidth, GEN_MODE_MODE_SE]
@[simp] theorem key_GEN_MODE_MODE_MT : fldKey GEN_MODE_MODE_MT = 70 := by simp only [fldKey, GEN_MODE_MODE_MT]
@[simp] theorem width_GEN_MODE_MODE_MT : fldWidth GEN_MODE_MODE_MT = 1 := by simp only [fldWidth, GEN_MODE_MODE_MT]
@[simp] theorem key_GEN_MODE_MODE_CA : fldKey GEN_MODE_MODE_CA = 69 := by simp only [fldKey, GEN_MODE_MODE_CA]
@[simp] theorem width_GEN_MODE_MODE_CA : fldWidth GEN_MODE_MODE_CA = 1 := by simp only [fldWidth, GEN_MODE_MODE_CA]
@[simp] theorem key_GEN_MODE_MODE_AS : fldKey GEN_MODE_MODE_AS = 68 := by simp only [fldKey, GEN_MODE_MODE_AS]
@[simp] theorem width_GEN_MODE_MODE_AS : fldWidth GEN_MODE_MODE_AS = 1 := by simp only [fldWidth, GEN_MODE_MODE_AS]
@[simp] theorem key_GEN_MODE_MODE_MS : fldKey GEN_MODE_MODE_MS = 67 := by simp only [fldKey, GEN_MODE_MODE_MS]
@[simp] theorem width_GEN_MODE_MODE_MS : fldWidth GEN_MODE_MODE_MS = 1 := by simp only [fldWidth, GEN_MODE_MODE_MS]
@[simp] theorem key_GEN_MODE_MODE_FR : fldKey GEN_MODE_MODE_FR = 66 := by simp only [fldKey, GEN_MODE_MODE_FR]
@[simp] theorem width_GEN_MODE_MODE_FR : fldWidth GEN_MODE_MODE_FR = 1 := by simp only [fldWidth, GEN_MODE_MODE_FR]
@[simp] theorem key_GEN_MODE_MODE_TC : fldKey GEN_MODE_MODE_TC = 65 := by simp only [fldKey, GEN_MODE_MODE_TC]
@[simp] theorem width_GEN_MODE_MODE_TC : fldWidth GEN_MODE_MODE_TC = 1 := by simp only [fldWidth, GEN_MODE_MODE_TC]
@[simp] theorem key_GEN_MODE_MODE_TS : fldKey GEN_MODE_MODE_TS = 64 := by simp only [fldKey, GEN_MODE_MODE_TS]
@[simp] theorem width_GEN_MODE_MODE_TS : fldWidth GEN_MODE_MODE_TS = 1 := by simp only [fldWidth, GEN_MODE_MODE_TS]
@[simp] theorem key_GEN_MODESTAT_IN_TRANSIT : fldKey GEN_MODESTAT_IN_TRANSIT = 112 := by simp only [fldKey, GEN_MODESTAT_IN_TRANSIT]
@[simp] theorem width_GEN_MODESTAT_IN_TRANSIT : fldWidth GEN_MODESTAT_IN_TRANSIT = 8 := by simp only [fldWidth, GEN_MODESTAT_IN_TRANSIT]
@[simp] theorem key_GEN_MODESTAT_REJECT : fldKey GEN_MODESTAT_REJECT = 105 := by simp only [fldKey, GEN_MODESTAT_REJECT]
@[simp] theorem width_GEN_MODESTAT_REJECT : fldWidth GEN_MODESTAT_REJECT = 1 := by simp only [fldWidth, GEN_MODESTAT_REJECT]
@[simp] theorem key_GEN_MODESTAT_BUSY : fldKey GEN_MODESTAT_BUSY = 104 := by simp only [fldKey, GEN_MODESTAT_BUSY]
@[simp] theorem width_GEN_MODESTAT_BUSY : fldWidth GEN_MODESTAT_BUSY = 1 := by simp only [fldWidth, GEN_MODESTAT_BUSY]
@[simp] theorem key_GEN_MODESTAT_EFFECTIVE : fldKey GEN_MODESTAT_EFFECTIVE = 96 := by simp only [fldKey, GEN_MODESTAT_EFFECTIVE]
@[simp] theorem width_GEN_MODESTAT_EFFECTIVE : fldWidth GEN_MODESTAT_EFFECTIVE = 8 := by simp only [fldWidth, GEN_MODESTAT_EFFECTIVE]
@[simp] theorem key_GEN_ISOLATE_ISO_DONE : fldKey GEN_ISOLATE_ISO_DONE = 148 := by simp only [fldKey, GEN_ISOLATE_ISO_DONE]
@[simp] theorem width_GEN_ISOLATE_ISO_DONE : fldWidth GEN_ISOLATE_ISO_DONE = 11 := by simp only [fldWidth, GEN_ISOLATE_ISO_DONE]
@[simp] theorem key_GEN_ISOLATE_ISO_REQ : fldKey GEN_ISOLATE_ISO_REQ = 132 := by simp only [fldKey, GEN_ISOLATE_ISO_REQ]
@[simp] theorem width_GEN_ISOLATE_ISO_REQ : fldWidth GEN_ISOLATE_ISO_REQ = 11 := by simp only [fldWidth, GEN_ISOLATE_ISO_REQ]
@[simp] theorem key_GEN_IRQ_STAT_DPLL : fldKey GEN_IRQ_STAT_DPLL = 176 := by simp only [fldKey, GEN_IRQ_STAT_DPLL]
@[simp] theorem width_GEN_IRQ_STAT_DPLL : fldWidth GEN_IRQ_STAT_DPLL = 1 := by simp only [fldWidth, GEN_IRQ_STAT_DPLL]
@[simp] theorem key_GEN_IRQ_STAT_BLK : fldKey GEN_IRQ_STAT_BLK = 167 := by simp only [fldKey, GEN_IRQ_STAT_BLK]
@[simp] theorem width_GEN_IRQ_STAT_BLK : fldWidth GEN_IRQ_STAT_BLK = 9 := by simp only [fldWidth, GEN_IRQ_STAT_BLK]
@[simp] theorem key_GEN_IRQ_STAT_SEL : fldKey GEN_IRQ_STAT_SEL = 166 := by simp only [fldKey, GEN_IRQ_STAT_SEL]
@[simp] theorem width_GEN_IRQ_STAT_SEL : fldWidth GEN_IRQ_STAT_SEL = 1 := by simp only [fldWidth, GEN_IRQ_STAT_SEL]
@[simp] theorem key_GEN_IRQ_STAT_BLK_4 : fldKey GEN_IRQ_STAT_BLK_4 = 164 := by simp only [fldKey, GEN_IRQ_STAT_BLK_4]
@[simp] theorem width_GEN_IRQ_STAT_BLK_4 : fldWidth GEN_IRQ_STAT_BLK_4 = 2 := by simp only [fldWidth, GEN_IRQ_STAT_BLK_4]
@[simp] theorem key_GEN_IRQ_STAT_FLT : fldKey GEN_IRQ_STAT_FLT = 162 := by simp only [fldKey, GEN_IRQ_STAT_FLT]
@[simp] theorem width_GEN_IRQ_STAT_FLT : fldWidth GEN_IRQ_STAT_FLT = 1 := by simp only [fldWidth, GEN_IRQ_STAT_FLT]
@[simp] theorem key_GEN_IRQ_STAT_MODECHG : fldKey GEN_IRQ_STAT_MODECHG = 160 := by simp only [fldKey, GEN_IRQ_STAT_MODECHG]
@[simp] theorem width_GEN_IRQ_STAT_MODECHG : fldWidth GEN_IRQ_STAT_MODECHG = 1 := by simp only [fldWidth, GEN_IRQ_STAT_MODECHG]
@[simp] theorem key_GEN_IRQ_EN_EN : fldKey GEN_IRQ_EN_EN = 192 := by simp only [fldKey, GEN_IRQ_EN_EN]
@[simp] theorem width_GEN_IRQ_EN_EN : fldWidth GEN_IRQ_EN_EN = 32 := by simp only [fldWidth, GEN_IRQ_EN_EN]
@[simp] theorem key_GEN_HOSTCFG_IRQ_OD : fldKey GEN_HOSTCFG_IRQ_OD = 225 := by simp only [fldKey, GEN_HOSTCFG_IRQ_OD]
@[simp] theorem width_GEN_HOSTCFG_IRQ_OD : fldWidth GEN_HOSTCFG_IRQ_OD = 1 := by simp only [fldWidth, GEN_HOSTCFG_IRQ_OD]
@[simp] theorem key_GEN_HOSTCFG_PAIR : fldKey GEN_HOSTCFG_PAIR = 224 := by simp only [fldKey, GEN_HOSTCFG_PAIR]
@[simp] theorem width_GEN_HOSTCFG_PAIR : fldWidth GEN_HOSTCFG_PAIR = 1 := by simp only [fldWidth, GEN_HOSTCFG_PAIR]
@[simp] theorem key_GEN_HAF_VALID : fldKey GEN_HAF_VALID = 287 := by simp only [fldKey, GEN_HAF_VALID]
@[simp] theorem width_GEN_HAF_VALID : fldWidth GEN_HAF_VALID = 1 := by simp only [fldWidth, GEN_HAF_VALID]
@[simp] theorem key_GEN_HAF_MORE : fldKey GEN_HAF_MORE = 284 := by simp only [fldKey, GEN_HAF_MORE]
@[simp] theorem width_GEN_HAF_MORE : fldWidth GEN_HAF_MORE = 3 := by simp only [fldWidth, GEN_HAF_MORE]
@[simp] theorem key_GEN_HAF_CAUSE : fldKey GEN_HAF_CAUSE = 280 := by simp only [fldKey, GEN_HAF_CAUSE]
@[simp] theorem width_GEN_HAF_CAUSE : fldWidth GEN_HAF_CAUSE = 4 := by simp only [fldWidth, GEN_HAF_CAUSE]
@[simp] theorem key_GEN_HAF_ADDR : fldKey GEN_HAF_ADDR = 256 := by simp only [fldKey, GEN_HAF_ADDR]
@[simp] theorem width_GEN_HAF_ADDR : fldWidth GEN_HAF_ADDR = 24 := by simp only [fldWidth, GEN_HAF_ADDR]
@[simp] theorem key_GEN_LOCK_SE_LOCK : fldKey GEN_LOCK_SE_LOCK = 288 := by simp only [fldKey, GEN_LOCK_SE_LOCK]
@[simp] theorem width_GEN_LOCK_SE_LOCK : fldWidth GEN_LOCK_SE_LOCK = 1 := by simp only [fldWidth, GEN_LOCK_SE_LOCK]
@[simp] theorem key_RST_CAUSE_PENDING : fldKey RST_CAUSE_PENDING = 8388639 := by simp only [fldKey, RST_CAUSE_PENDING]
@[simp] theorem width_RST_CAUSE_PENDING : fldWidth RST_CAUSE_PENDING = 1 := by simp only [fldWidth, RST_CAUSE_PENDING]
@[simp] theorem key_RST_CAUSE_FULL : fldKey RST_CAUSE_FULL = 8388625 := by simp only [fldKey, RST_CAUSE_FULL]
@[simp] theorem width_RST_CAUSE_FULL : fldWidth RST_CAUSE_FULL = 1 := by simp only [fldWidth, RST_CAUSE_FULL]
@[simp] theorem key_RST_CAUSE_RAIL : fldKey RST_CAUSE_RAIL = 8388620 := by simp only [fldKey, RST_CAUSE_RAIL]
@[simp] theorem width_RST_CAUSE_RAIL : fldWidth RST_CAUSE_RAIL = 5 := by simp only [fldWidth, RST_CAUSE_RAIL]
@[simp] theorem key_RST_CAUSE_LAST_LEVEL : fldKey RST_CAUSE_LAST_LEVEL = 8388618 := by simp only [fldKey, RST_CAUSE_LAST_LEVEL]
@[simp] theorem width_RST_CAUSE_LAST_LEVEL : fldWidth RST_CAUSE_LAST_LEVEL = 2 := by simp only [fldWidth, RST_CAUSE_LAST_LEVEL]
@[simp] theorem key_RST_CAUSE_LAST_SRC : fldKey RST_CAUSE_LAST_SRC = 8388613 := by simp only [fldKey, RST_CAUSE_LAST_SRC]
@[simp] theorem width_RST_CAUSE_LAST_SRC : fldWidth RST_CAUSE_LAST_SRC = 3 := by simp only [fldWidth, RST_CAUSE_LAST_SRC]
@[simp] theorem key_RST_CAUSE_FLT : fldKey RST_CAUSE_FLT = 8388610 := by simp only [fldKey, RST_CAUSE_FLT]
@[simp] theorem width_RST_CAUSE_FLT : fldWidth RST_CAUSE_FLT = 1 := by simp only [fldWidth, RST_CAUSE_FLT]
@[simp] theorem key_RST_CAUSE_PIN : fldKey RST_CAUSE_PIN = 8388609 := by simp only [fldKey, RST_CAUSE_PIN]
@[simp] theorem width_RST_CAUSE_PIN : fldWidth RST_CAUSE_PIN = 1 := by simp only [fldWidth, RST_CAUSE_PIN]
@[simp] theorem key_RST_CAUSE_POR : fldKey RST_CAUSE_POR = 8388608 := by simp only [fldKey, RST_CAUSE_POR]
@[simp] theorem width_RST_CAUSE_POR : fldWidth RST_CAUSE_POR = 1 := by simp only [fldWidth, RST_CAUSE_POR]
@[simp] theorem key_RST_STRAP_HOSTSEL : fldKey RST_STRAP_HOSTSEL = 8388644 := by simp only [fldKey, RST_STRAP_HOSTSEL]
@[simp] theorem width_RST_STRAP_HOSTSEL : fldWidth RST_STRAP_HOSTSEL = 1 := by simp only [fldWidth, RST_STRAP_HOSTSEL]
@[simp] theorem key_RST_STRAP_CLKMODE : fldKey RST_STRAP_CLKMODE = 8388642 := by simp only [fldKey, RST_STRAP_CLKMODE]
@[simp] theorem width_RST_STRAP_CLKMODE : fldWidth RST_STRAP_CLKMODE = 2 := by simp only [fldWidth, RST_STRAP_CLKMODE]
@[simp] theorem key_RST_STRAP_BOOT : fldKey RST_STRAP_BOOT = 8388640 := by simp only [fldKey, RST_STRAP_BOOT]
@[simp] theorem width_RST_STRAP_BOOT : fldWidth RST_STRAP_BOOT = 2 := by simp only [fldWidth, RST_STRAP_BOOT]
@[simp] theorem key_RST_MAP_FLT : fldKey RST_MAP_FLT = 8388676 := by simp only [fldKey, RST_MAP_FLT]
@[simp] theorem width_RST_MAP_FLT : fldWidth RST_MAP_FLT = 2 := by simp only [fldWidth, RST_MAP_FLT]
@[simp] theorem key_RST_MAP_PIN : fldKey RST_MAP_PIN = 8388674 := by simp only [fldKey, RST_MAP_PIN]
@[simp] theorem width_RST_MAP_PIN : fldWidth RST_MAP_PIN = 2 := by simp only [fldWidth, RST_MAP_PIN]
@[simp] theorem key_RST_MAP_POR : fldKey RST_MAP_POR = 8388672 := by simp only [fldKey, RST_MAP_POR]
@[simp] theorem width_RST_MAP_POR : fldWidth RST_MAP_POR = 2 := by simp only [fldWidth, RST_MAP_POR]
@[simp] theorem key_FLT_STAT_STATE : fldKey FLT_STAT_STATE = 16777246 := by simp only [fldKey, FLT_STAT_STATE]
@[simp] theorem width_FLT_STAT_STATE : fldWidth FLT_STAT_STATE = 2 := by simp only [fldWidth, FLT_STAT_STATE]
@[simp] theorem key_FLT_STAT_ALIVE_STOP : fldKey FLT_STAT_ALIVE_STOP = 16777245 := by simp only [fldKey, FLT_STAT_ALIVE_STOP]
@[simp] theorem width_FLT_STAT_ALIVE_STOP : fldWidth FLT_STAT_ALIVE_STOP = 1 := by simp only [fldWidth, FLT_STAT_ALIVE_STOP]
@[simp] theorem key_FLT_STAT_NMI : fldKey FLT_STAT_NMI = 16777244 := by simp only [fldKey, FLT_STAT_NMI]
@[simp] theorem width_FLT_STAT_NMI : fldWidth FLT_STAT_NMI = 1 := by simp only [fldWidth, FLT_STAT_NMI]
@[simp] theorem key_FLT_STAT_RCLK_SAMPLE : fldKey FLT_STAT_RCLK_SAMPLE = 16777243 := by simp only [fldKey, FLT_STAT_RCLK_SAMPLE]
@[simp] theorem width_FLT_STAT_RCLK_SAMPLE : fldWidth FLT_STAT_RCLK_SAMPLE = 1 := by simp only [fldWidth, FLT_STAT_RCLK_SAMPLE]
@[simp] theorem key_FLT_STAT_IMG_HOLD : fldKey FLT_STAT_IMG_HOLD = 16777242 := by simp only [fldKey, FLT_STAT_IMG_HOLD]
@[simp] theorem width_FLT_STAT_IMG_HOLD : fldWidth FLT_STAT_IMG_HOLD = 1 := by simp only [fldWidth, FLT_STAT_IMG_HOLD]
@[simp] theorem key_FLT_STAT_QLEFT : fldKey FLT_STAT_QLEFT = 16777216 := by simp only [fldKey, FLT_STAT_QLEFT]
@[simp] theorem width_FLT_STAT_QLEFT : fldWidth FLT_STAT_QLEFT = 16 := by simp only [fldWidth, FLT_STAT_QLEFT]
@[simp] theorem key_FLT_QUIET_QUIET : fldKey FLT_QUIET_QUIET = 16777248 := by simp only [fldKey, FLT_QUIET_QUIET]
@[simp] theorem width_FLT_QUIET_QUIET : fldWidth FLT_QUIET_QUIET = 16 := by simp only [fldWidth, FLT_QUIET_QUIET]
@[simp] theorem key_FLT_FIRST_VALID : fldKey FLT_FIRST_VALID = 16777311 := by simp only [fldKey, FLT_FIRST_VALID]
@[simp] theorem width_FLT_FIRST_VALID : fldWidth FLT_FIRST_VALID = 1 := by simp only [fldWidth, FLT_FIRST_VALID]
@[simp] theorem key_FLT_FIRST_MULTI : fldKey FLT_FIRST_MULTI = 16777310 := by simp only [fldKey, FLT_FIRST_MULTI]
@[simp] theorem width_FLT_FIRST_MULTI : fldWidth FLT_FIRST_MULTI = 1 := by simp only [fldWidth, FLT_FIRST_MULTI]
@[simp] theorem key_FLT_FIRST_SRC : fldKey FLT_FIRST_SRC = 16777280 := by simp only [fldKey, FLT_FIRST_SRC]
@[simp] theorem width_FLT_FIRST_SRC : fldWidth FLT_FIRST_SRC = 7 := by simp only [fldWidth, FLT_FIRST_SRC]
@[simp] theorem key_FLT_RECOV_COUNT : fldKey FLT_RECOV_COUNT = 16777312 := by simp only [fldKey, FLT_RECOV_COUNT]
@[simp] theorem width_FLT_RECOV_COUNT : fldWidth FLT_RECOV_COUNT = 16 := by simp only [fldWidth, FLT_RECOV_COUNT]
@[simp] theorem key_FLT_STK_STK (n : Nat) : fldKey (FLT_STK_STK n) = 16777344 + 32 * n := by simp only [fldKey, FLT_STK_STK]; omega
@[simp] theorem width_FLT_STK_STK (n : Nat) : fldWidth (FLT_STK_STK n) = 32 := by simp only [fldWidth, FLT_STK_STK]
@[simp] theorem key_FLT_CSTK_CSTK (n : Nat) : fldKey (FLT_CSTK_CSTK n) = 16777440 + 32 * n := by simp only [fldKey, FLT_CSTK_CSTK]; omega
@[simp] theorem width_FLT_CSTK_CSTK (n : Nat) : fldWidth (FLT_CSTK_CSTK n) = 32 := by simp only [fldWidth, FLT_CSTK_CSTK]
@[simp] theorem key_FLT_FORCE_FORCE (n : Nat) : fldKey (FLT_FORCE_FORCE n) = 16777536 + 32 * n := by simp only [fldKey, FLT_FORCE_FORCE]; omega
@[simp] theorem width_FLT_FORCE_FORCE (n : Nat) : fldWidth (FLT_FORCE_FORCE n) = 32 := by simp only [fldWidth, FLT_FORCE_FORCE]
@[simp] theorem key_FLT_RIDX_SRC : fldKey FLT_RIDX_SRC = 16777632 := by simp only [fldKey, FLT_RIDX_SRC]
@[simp] theorem width_FLT_RIDX_SRC : fldWidth FLT_RIDX_SRC = 7 := by simp only [fldWidth, FLT_RIDX_SRC]
@[simp] theorem key_FLT_REACT_FIXED : fldKey FLT_REACT_FIXED = 16777695 := by simp only [fldKey, FLT_REACT_FIXED]
@[simp] theorem width_FLT_REACT_FIXED : fldWidth FLT_REACT_FIXED = 1 := by simp only [fldWidth, FLT_REACT_FIXED]
@[simp] theorem key_FLT_REACT_REACT : fldKey FLT_REACT_REACT = 16777664 := by simp only [fldKey, FLT_REACT_REACT]
@[simp] theorem width_FLT_REACT_REACT : fldWidth FLT_REACT_REACT = 5 := by simp only [fldWidth, FLT_REACT_REACT]
@[simp] theorem key_FLT_RINST_INST : fldKey FLT_RINST_INST = 16777696 := by simp only [fldKey, FLT_RINST_INST]
@[simp] theorem width_FLT_RINST_INST : fldWidth FLT_RINST_INST = 32 := by simp only [fldWidth, FLT_RINST_INST]
@[simp] theorem key_FLT_DIDX_BLOCK : fldKey FLT_DIDX_BLOCK = 16777728 := by simp only [fldKey, FLT_DIDX_BLOCK]
@[simp] theorem width_FLT_DIDX_BLOCK : fldWidth FLT_DIDX_BLOCK = 4 := by simp only [fldWidth, FLT_DIDX_BLOCK]
@[simp] theorem key_FLT_DSETTLE_SETTLE : fldKey FLT_DSETTLE_SETTLE = 16777760 := by simp only [fldKey, FLT_DSETTLE_SETTLE]
@[simp] theorem width_FLT_DSETTLE_SETTLE : fldWidth FLT_DSETTLE_SETTLE = 16 := by simp only [fldWidth, FLT_DSETTLE_SETTLE]
@[simp] theorem key_FLT_DMASK_MASK (n : Nat) : fldKey (FLT_DMASK_MASK n) = 16777792 + 32 * n := by simp only [fldKey, FLT_DMASK_MASK]; omega
@[simp] theorem width_FLT_DMASK_MASK (n : Nat) : fldWidth (FLT_DMASK_MASK n) = 32 := by simp only [fldWidth, FLT_DMASK_MASK]
@[simp] theorem key_FLT_RSTBUSY_BUSY : fldKey FLT_RSTBUSY_BUSY = 16777892 := by simp only [fldKey, FLT_RSTBUSY_BUSY]
@[simp] theorem width_FLT_RSTBUSY_BUSY : fldWidth FLT_RSTBUSY_BUSY = 11 := by simp only [fldWidth, FLT_RSTBUSY_BUSY]
@[simp] theorem key_FLT_CHKTEST_GO : fldKey FLT_CHKTEST_GO = 16777951 := by simp only [fldKey, FLT_CHKTEST_GO]
@[simp] theorem width_FLT_CHKTEST_GO : fldWidth FLT_CHKTEST_GO = 1 := by simp only [fldWidth, FLT_CHKTEST_GO]
@[simp] theorem key_FLT_CHKTEST_SRC : fldKey FLT_CHKTEST_SRC = 16777920 := by simp only [fldKey, FLT_CHKTEST_SRC]
@[simp] theorem width_FLT_CHKTEST_SRC : fldWidth FLT_CHKTEST_SRC = 7 := by simp only [fldWidth, FLT_CHKTEST_SRC]
@[simp] theorem key_FLT_CHKRES_DONE : fldKey FLT_CHKRES_DONE = 16777983 := by simp only [fldKey, FLT_CHKRES_DONE]
@[simp] theorem width_FLT_CHKRES_DONE : fldWidth FLT_CHKRES_DONE = 1 := by simp only [fldWidth, FLT_CHKRES_DONE]
@[simp] theorem key_FLT_CHKRES_PASS : fldKey FLT_CHKRES_PASS = 16777982 := by simp only [fldKey, FLT_CHKRES_PASS]
@[simp] theorem width_FLT_CHKRES_PASS : fldWidth FLT_CHKRES_PASS = 1 := by simp only [fldWidth, FLT_CHKRES_PASS]
@[simp] theorem key_FLT_CHKRES_SRC : fldKey FLT_CHKRES_SRC = 16777952 := by simp only [fldKey, FLT_CHKRES_SRC]
@[simp] theorem width_FLT_CHKRES_SRC : fldWidth FLT_CHKRES_SRC = 7 := by simp only [fldWidth, FLT_CHKRES_SRC]
@[simp] theorem key_FLT_EVT_CHK_DONE : fldKey FLT_EVT_CHK_DONE = 16777987 := by simp only [fldKey, FLT_EVT_CHK_DONE]
@[simp] theorem width_FLT_EVT_CHK_DONE : fldWidth FLT_EVT_CHK_DONE = 1 := by simp only [fldWidth, FLT_EVT_CHK_DONE]
@[simp] theorem key_FLT_EVT_RECOVERED : fldKey FLT_EVT_RECOVERED = 16777986 := by simp only [fldKey, FLT_EVT_RECOVERED]
@[simp] theorem width_FLT_EVT_RECOVERED : fldWidth FLT_EVT_RECOVERED = 1 := by simp only [fldWidth, FLT_EVT_RECOVERED]
@[simp] theorem key_FLT_EVT_FAULT : fldKey FLT_EVT_FAULT = 16777985 := by simp only [fldKey, FLT_EVT_FAULT]
@[simp] theorem width_FLT_EVT_FAULT : fldWidth FLT_EVT_FAULT = 1 := by simp only [fldWidth, FLT_EVT_FAULT]
@[simp] theorem key_FLT_EVT_SAFE : fldKey FLT_EVT_SAFE = 16777984 := by simp only [fldKey, FLT_EVT_SAFE]
@[simp] theorem width_FLT_EVT_SAFE : fldWidth FLT_EVT_SAFE = 1 := by simp only [fldWidth, FLT_EVT_SAFE]
@[simp] theorem key_FLT_EVT_EN_EN : fldKey FLT_EVT_EN_EN = 16778016 := by simp only [fldKey, FLT_EVT_EN_EN]
@[simp] theorem width_FLT_EVT_EN_EN : fldWidth FLT_EVT_EN_EN = 32 := by simp only [fldWidth, FLT_EVT_EN_EN]
@[simp] theorem key_IMG_STATUS_PR_BLOCK : fldKey IMG_STATUS_PR_BLOCK = 25165844 := by simp only [fldKey, IMG_STATUS_PR_BLOCK]
@[simp] theorem width_IMG_STATUS_PR_BLOCK : fldWidth IMG_STATUS_PR_BLOCK = 4 := by simp only [fldWidth, IMG_STATUS_PR_BLOCK]
@[simp] theorem key_IMG_STATUS_PR_OUTCOME : fldKey IMG_STATUS_PR_OUTCOME = 25165842 := by simp only [fldKey, IMG_STATUS_PR_OUTCOME]
@[simp] theorem width_IMG_STATUS_PR_OUTCOME : fldWidth IMG_STATUS_PR_OUTCOME = 2 := by simp only [fldWidth, IMG_STATUS_PR_OUTCOME]
@[simp] theorem key_IMG_STATUS_SPARE_VALID : fldKey IMG_STATUS_SPARE_VALID = 25165841 := by simp only [fldKey, IMG_STATUS_SPARE_VALID]
@[simp] theorem width_IMG_STATUS_SPARE_VALID : fldWidth IMG_STATUS_SPARE_VALID = 1 := by simp only [fldWidth, IMG_STATUS_SPARE_VALID]
@[simp] theorem key_IMG_STATUS_PTR : fldKey IMG_STATUS_PTR = 25165840 := by simp only [fldKey, IMG_STATUS_PTR]
@[simp] theorem width_IMG_STATUS_PTR : fldWidth IMG_STATUS_PTR = 1 := by simp only [fldWidth, IMG_STATUS_PTR]
@[simp] theorem key_IMG_STATUS_RUN_BANK : fldKey IMG_STATUS_RUN_BANK = 25165839 := by simp only [fldKey, IMG_STATUS_RUN_BANK]
@[simp] theorem width_IMG_STATUS_RUN_BANK : fldWidth IMG_STATUS_RUN_BANK = 1 := by simp only [fldWidth, IMG_STATUS_RUN_BANK]
@[simp] theorem key_IMG_STATUS_SOURCE : fldKey IMG_STATUS_SOURCE = 25165836 := by simp only [fldKey, IMG_STATUS_SOURCE]
@[simp] theorem width_IMG_STATUS_SOURCE : fldWidth IMG_STATUS_SOURCE = 3 := by simp only [fldWidth, IMG_STATUS_SOURCE]
@[simp] theorem key_IMG_STATUS_VERSION : fldKey IMG_STATUS_VERSION = 25165828 := by simp only [fldKey, IMG_STATUS_VERSION]
@[simp] theorem width_IMG_STATUS_VERSION : fldWidth IMG_STATUS_VERSION = 4 := by simp only [fldWidth, IMG_STATUS_VERSION]
@[simp] theorem key_IMG_STATUS_STATE : fldKey IMG_STATUS_STATE = 25165824 := by simp only [fldKey, IMG_STATUS_STATE]
@[simp] theorem width_IMG_STATUS_STATE : fldWidth IMG_STATUS_STATE = 4 := by simp only [fldWidth, IMG_STATUS_STATE]
@[simp] theorem key_IMG_CTRL_KEY : fldKey IMG_CTRL_KEY = 25165880 := by simp only [fldKey, IMG_CTRL_KEY]
@[simp] theorem width_IMG_CTRL_KEY : fldWidth IMG_CTRL_KEY = 8 := by simp only [fldWidth, IMG_CTRL_KEY]
@[simp] theorem key_IMG_CTRL_ROLLFWD : fldKey IMG_CTRL_ROLLFWD = 25165863 := by simp only [fldKey, IMG_CTRL_ROLLFWD]
@[simp] theorem width_IMG_CTRL_ROLLFWD : fldWidth IMG_CTRL_ROLLFWD = 1 := by simp only [fldWidth, IMG_CTRL_ROLLFWD]
@[simp] theorem key_IMG_CTRL_PR_ABORT : fldKey IMG_CTRL_PR_ABORT = 25165862 := by simp only [fldKey, IMG_CTRL_PR_ABORT]
@[simp] theorem width_IMG_CTRL_PR_ABORT : fldWidth IMG_CTRL_PR_ABORT = 1 := by simp only [fldWidth, IMG_CTRL_PR_ABORT]
@[simp] theorem key_IMG_CTRL_PR_START : fldKey IMG_CTRL_PR_START = 25165861 := by simp only [fldKey, IMG_CTRL_PR_START]
@[simp] theorem width_IMG_CTRL_PR_START : fldWidth IMG_CTRL_PR_START = 1 := by simp only [fldWidth, IMG_CTRL_PR_START]
@[simp] theorem key_IMG_CTRL_COMMIT : fldKey IMG_CTRL_COMMIT = 25165860 := by simp only [fldKey, IMG_CTRL_COMMIT]
@[simp] theorem width_IMG_CTRL_COMMIT : fldWidth IMG_CTRL_COMMIT = 1 := by simp only [fldWidth, IMG_CTRL_COMMIT]
@[simp] theorem key_IMG_CTRL_DL_ABORT : fldKey IMG_CTRL_DL_ABORT = 25165859 := by simp only [fldKey, IMG_CTRL_DL_ABORT]
@[simp] theorem width_IMG_CTRL_DL_ABORT : fldWidth IMG_CTRL_DL_ABORT = 1 := by simp only [fldWidth, IMG_CTRL_DL_ABORT]
@[simp] theorem key_IMG_CTRL_DL_DONE : fldKey IMG_CTRL_DL_DONE = 25165858 := by simp only [fldKey, IMG_CTRL_DL_DONE]
@[simp] theorem width_IMG_CTRL_DL_DONE : fldWidth IMG_CTRL_DL_DONE = 1 := by simp only [fldWidth, IMG_CTRL_DL_DONE]
@[simp] theorem key_IMG_CTRL_DL_START : fldKey IMG_CTRL_DL_START = 25165857 := by simp only [fldKey, IMG_CTRL_DL_START]
@[simp] theorem width_IMG_CTRL_DL_START : fldWidth IMG_CTRL_DL_START = 1 := by simp only [fldWidth, IMG_CTRL_DL_START]
@[simp] theorem key_IMG_ERR_CAND : fldKey IMG_ERR_CAND = 25165912 := by simp only [fldKey, IMG_ERR_CAND]
@[simp] theorem width_IMG_ERR_CAND : fldWidth IMG_ERR_CAND = 8 := by simp only [fldWidth, IMG_ERR_CAND]
@[simp] theorem key_IMG_ERR_SEG : fldKey IMG_ERR_SEG = 25165904 := by simp only [fldKey, IMG_ERR_SEG]
@[simp] theorem width_IMG_ERR_SEG : fldWidth IMG_ERR_SEG = 8 := by simp only [fldWidth, IMG_ERR_SEG]
@[simp] theorem key_IMG_ERR_PASS2 : fldKey IMG_ERR_PASS2 = 25165896 := by simp only [fldKey, IMG_ERR_PASS2]
@[simp] theorem width_IMG_ERR_PASS2 : fldWidth IMG_ERR_PASS2 = 1 := by simp only [fldWidth, IMG_ERR_PASS2]
@[simp] theorem key_IMG_ERR_CODE : fldKey IMG_ERR_CODE = 25165888 := by simp only [fldKey, IMG_ERR_CODE]
@[simp] theorem width_IMG_ERR_CODE : fldWidth IMG_ERR_CODE = 8 := by simp only [fldWidth, IMG_ERR_CODE]
@[simp] theorem key_IMG_DLDATA_DATA : fldKey IMG_DLDATA_DATA = 25165920 := by simp only [fldKey, IMG_DLDATA_DATA]
@[simp] theorem width_IMG_DLDATA_DATA : fldWidth IMG_DLDATA_DATA = 32 := by simp only [fldWidth, IMG_DLDATA_DATA]
@[simp] theorem key_IMG_RUNID_IMAGE_ID : fldKey IMG_RUNID_IMAGE_ID = 25165952 := by simp only [fldKey, IMG_RUNID_IMAGE_ID]
@[simp] theorem width_IMG_RUNID_IMAGE_ID : fldWidth IMG_RUNID_IMAGE_ID = 32 := by simp only [fldWidth, IMG_RUNID_IMAGE_ID]
@[simp] theorem key_IMG_LOCK_LOCK : fldKey IMG_LOCK_LOCK = 25165984 := by simp only [fldKey, IMG_LOCK_LOCK]
@[simp] theorem width_IMG_LOCK_LOCK : fldWidth IMG_LOCK_LOCK = 1 := by simp only [fldWidth, IMG_LOCK_LOCK]
@[simp] theorem key_REF_INn_CFG_EN (n : Nat) : fldKey (REF_INn_CFG_EN n) = 33554463 + 256 * n := by simp only [fldKey, REF_INn_CFG_EN]; omega
@[simp] theorem width_REF_INn_CFG_EN (n : Nat) : fldWidth (REF_INn_CFG_EN n) = 1 := by simp only [fldWidth, REF_INn_CFG_EN]
@[simp] theorem key_REF_INn_CFG_LEG (n : Nat) : fldKey (REF_INn_CFG_LEG n) = 33554462 + 256 * n := by simp only [fldKey, REF_INn_CFG_LEG]; omega
@[simp] theorem width_REF_INn_CFG_LEG (n : Nat) : fldWidth (REF_INn_CFG_LEG n) = 1 := by simp only [fldWidth, REF_INn_CFG_LEG]
@[simp] theorem key_REF_INn_CFG_POL (n : Nat) : fldKey (REF_INn_CFG_POL n) = 33554461 + 256 * n := by simp only [fldKey, REF_INn_CFG_POL]; omega
@[simp] theorem width_REF_INn_CFG_POL (n : Nat) : fldWidth (REF_INn_CFG_POL n) = 1 := by simp only [fldWidth, REF_INn_CFG_POL]
@[simp] theorem key_REF_INn_CFG_QL (n : Nat) : fldKey (REF_INn_CFG_QL n) = 33554456 + 256 * n := by simp only [fldKey, REF_INn_CFG_QL]; omega
@[simp] theorem width_REF_INn_CFG_QL (n : Nat) : fldWidth (REF_INn_CFG_QL n) = 4 := by simp only [fldWidth, REF_INn_CFG_QL]
@[simp] theorem key_REF_INn_CFG_DIV (n : Nat) : fldKey (REF_INn_CFG_DIV n) = 33554432 + 256 * n := by simp only [fldKey, REF_INn_CFG_DIV]; omega
@[simp] theorem width_REF_INn_CFG_DIV (n : Nat) : fldWidth (REF_INn_CFG_DIV n) = 24 := by simp only [fldWidth, REF_INn_CFG_DIV]
@[simp] theorem key_REF_INn_NOM_NOM (n : Nat) : fldKey (REF_INn_NOM_NOM n) = 33554464 + 256 * n := by simp only [fldKey, REF_INn_NOM_NOM]; omega
@[simp] theorem width_REF_INn_NOM_NOM (n : Nat) : fldWidth (REF_INn_NOM_NOM n) = 32 := by simp only [fldWidth, REF_INn_NOM_NOM]
@[simp] theorem key_REF_INn_ACT_TOL (n : Nat) : fldKey (REF_INn_ACT_TOL n) = 33554520 + 256 * n := by simp only [fldKey, REF_INn_ACT_TOL]; omega
@[simp] theorem width_REF_INn_ACT_TOL (n : Nat) : fldWidth (REF_INn_ACT_TOL n) = 8 := by simp only [fldWidth, REF_INn_ACT_TOL]
@[simp] theorem key_REF_INn_ACT_SET (n : Nat) : fldKey (REF_INn_ACT_SET n) = 33554512 + 256 * n := by simp only [fldKey, REF_INn_ACT_SET]; omega
@[simp] theorem width_REF_INn_ACT_SET (n : Nat) : fldWidth (REF_INn_ACT_SET n) = 8 := by simp only [fldWidth, REF_INn_ACT_SET]
@[simp] theorem key_REF_INn_ACT_CLR (n : Nat) : fldKey (REF_INn_ACT_CLR n) = 33554504 + 256 * n := by simp only [fldKey, REF_INn_ACT_CLR]; omega
@[simp] theorem width_REF_INn_ACT_CLR (n : Nat) : fldWidth (REF_INn_ACT_CLR n) = 8 := by simp only [fldWidth, REF_INn_ACT_CLR]
@[simp] theorem key_REF_INn_ACT_LEAK (n : Nat) : fldKey (REF_INn_ACT_LEAK n) = 33554496 + 256 * n := by simp only [fldKey, REF_INn_ACT_LEAK]; omega
@[simp] theorem width_REF_INn_ACT_LEAK (n : Nat) : fldWidth (REF_INn_ACT_LEAK n) = 8 := by simp only [fldWidth, REF_INn_ACT_LEAK]
@[simp] theorem key_REF_INn_FM_GATE (n : Nat) : fldKey (REF_INn_FM_GATE n) = 33554556 + 256 * n := by simp only [fldKey, REF_INn_FM_GATE]; omega
@[simp] theorem width_REF_INn_FM_GATE (n : Nat) : fldWidth (REF_INn_FM_GATE n) = 4 := by simp only [fldWidth, REF_INn_FM_GATE]
@[simp] theorem key_REF_INn_FM_BASE (n : Nat) : fldKey (REF_INn_FM_BASE n) = 33554555 + 256 * n := by simp only [fldKey, REF_INn_FM_BASE]; omega
@[simp] theorem width_REF_INn_FM_BASE (n : Nat) : fldWidth (REF_INn_FM_BASE n) = 1 := by simp only [fldWidth, REF_INn_FM_BASE]
@[simp] theorem key_REF_INn_FM_THR (n : Nat) : fldKey (REF_INn_FM_THR n) = 33554528 + 256 * n := by simp only [fldKey, REF_INn_FM_THR]; omega
@[simp] theorem width_REF_INn_FM_THR (n : Nat) : fldWidth (REF_INn_FM_THR n) = 24 := by simp only [fldWidth, REF_INn_FM_THR]
@[simp] theorem key_REF_INn_PH_THR (n : Nat) : fldKey (REF_INn_PH_THR n) = 33554576 + 256 * n := by simp only [fldKey, REF_INn_PH_THR]; omega
@[simp] theorem width_REF_INn_PH_THR (n : Nat) : fldWidth (REF_INn_PH_THR n) = 16 := by simp only [fldWidth, REF_INn_PH_THR]
@[simp] theorem key_REF_INn_PH_DEC (n : Nat) : fldKey (REF_INn_PH_DEC n) = 33554560 + 256 * n := by simp only [fldKey, REF_INn_PH_DEC]; omega
@[simp] theorem width_REF_INn_PH_DEC (n : Nat) : fldWidth (REF_INn_PH_DEC n) = 16 := by simp only [fldWidth, REF_INn_PH_DEC]
@[simp] theorem key_REF_INn_STAT_BUCKET (n : Nat) : fldKey (REF_INn_STAT_BUCKET n) = 33554616 + 256 * n := by simp only [fldKey, REF_INn_STAT_BUCKET]; omega
@[simp] theorem width_REF_INn_STAT_BUCKET (n : Nat) : fldWidth (REF_INn_STAT_BUCKET n) = 8 := by simp only [fldWidth, REF_INn_STAT_BUCKET]
@[simp] theorem key_REF_INn_STAT_FM_VALID (n : Nat) : fldKey (REF_INn_STAT_FM_VALID n) = 33554607 + 256 * n := by simp only [fldKey, REF_INn_STAT_FM_VALID]; omega
@[simp] theorem width_REF_INn_STAT_FM_VALID (n : Nat) : fldWidth (REF_INn_STAT_FM_VALID n) = 1 := by simp only [fldWidth, REF_INn_STAT_FM_VALID]
@[simp] theorem key_REF_INn_STAT_WARM (n : Nat) : fldKey (REF_INn_STAT_WARM n) = 33554606 + 256 * n := by simp only [fldKey, REF_INn_STAT_WARM]; omega
@[simp] theorem width_REF_INn_STAT_WARM (n : Nat) : fldWidth (REF_INn_STAT_WARM n) = 1 := by simp only [fldWidth, REF_INn_STAT_WARM]
@[simp] theorem key_REF_INn_STAT_OVERSPEED (n : Nat) : fldKey (REF_INn_STAT_OVERSPEED n) = 33554600 + 256 * n := by simp only [fldKey, REF_INn_STAT_OVERSPEED]; omega
@[simp] theorem width_REF_INn_STAT_OVERSPEED (n : Nat) : fldWidth (REF_INn_STAT_OVERSPEED n) = 1 := by simp only [fldWidth, REF_INn_STAT_OVERSPEED]
@[simp] theorem key_REF_INn_STAT_CFG_ERR (n : Nat) : fldKey (REF_INn_STAT_CFG_ERR n) = 33554599 + 256 * n := by simp only [fldKey, REF_INn_STAT_CFG_ERR]; omega
@[simp] theorem width_REF_INn_STAT_CFG_ERR (n : Nat) : fldWidth (REF_INn_STAT_CFG_ERR n) = 1 := by simp only [fldWidth, REF_INn_STAT_CFG_ERR]
@[simp] theorem key_REF_INn_STAT_PH_HIT (n : Nat) : fldKey (REF_INn_STAT_PH_HIT n) = 33554598 + 256 * n := by simp only [fldKey, REF_INn_STAT_PH_HIT]; omega
@[simp] theorem width_REF_INn_STAT_PH_HIT (n : Nat) : fldWidth (REF_INn_STAT_PH_HIT n) = 1 := by simp only [fldWidth, REF_INn_STAT_PH_HIT]
@[simp] theorem key_REF_INn_STAT_ACT_FAIL (n : Nat) : fldKey (REF_INn_STAT_ACT_FAIL n) = 33554597 + 256 * n := by simp only [fldKey, REF_INn_STAT_ACT_FAIL]; omega
@[simp] theorem width_REF_INn_STAT_ACT_FAIL (n : Nat) : fldWidth (REF_INn_STAT_ACT_FAIL n) = 1 := by simp only [fldWidth, REF_INn_STAT_ACT_FAIL]
@[simp] theorem key_REF_INn_STAT_FM_FAIL (n : Nat) : fldKey (REF_INn_STAT_FM_FAIL n) = 33554596 + 256 * n := by simp only [fldKey, REF_INn_STAT_FM_FAIL]; omega
@[simp] theorem width_REF_INn_STAT_FM_FAIL (n : Nat) : fldWidth (REF_INn_STAT_FM_FAIL n) = 1 := by simp only [fldWidth, REF_INn_STAT_FM_FAIL]
@[simp] theorem key_REF_INn_STAT_FM_OK (n : Nat) : fldKey (REF_INn_STAT_FM_OK n) = 33554593 + 256 * n := by simp only [fldKey, REF_INn_STAT_FM_OK]; omega
@[simp] theorem width_REF_INn_STAT_FM_OK (n : Nat) : fldWidth (REF_INn_STAT_FM_OK n) = 1 := by simp only [fldWidth, REF_INn_STAT_FM_OK]
@[simp] theorem key_REF_INn_STAT_ACT_OK (n : Nat) : fldKey (REF_INn_STAT_ACT_OK n) = 33554592 + 256 * n := by simp only [fldKey, REF_INn_STAT_ACT_OK]; omega
@[simp] theorem width_REF_INn_STAT_ACT_OK (n : Nat) : fldWidth (REF_INn_STAT_ACT_OK n) = 1 := by simp only [fldWidth, REF_INn_STAT_ACT_OK]
@[simp] theorem key_REF_INn_FOFF_LO_O (n : Nat) : fldKey (REF_INn_FOFF_LO_O n) = 33554624 + 256 * n := by simp only [fldKey, REF_INn_FOFF_LO_O]; omega
@[simp] theorem width_REF_INn_FOFF_LO_O (n : Nat) : fldWidth (REF_INn_FOFF_LO_O n) = 32 := by simp only [fldWidth, REF_INn_FOFF_LO_O]
@[simp] theorem key_REF_INn_FOFF_HI_O (n : Nat) : fldKey (REF_INn_FOFF_HI_O n) = 33554656 + 256 * n := by simp only [fldKey, REF_INn_FOFF_HI_O]; omega
@[simp] theorem width_REF_INn_FOFF_HI_O (n : Nat) : fldWidth (REF_INn_FOFF_HI_O n) = 32 := by simp only [fldWidth, REF_INn_FOFF_HI_O]
@[simp] theorem key_REF_SLOTs_CFG_OVR (n : Nat) : fldKey (REF_SLOTs_CFG_OVR n) = 33558558 + 64 * n := by simp only [fldKey, REF_SLOTs_CFG_OVR]; omega
@[simp] theorem width_REF_SLOTs_CFG_OVR (n : Nat) : fldWidth (REF_SLOTs_CFG_OVR n) = 2 := by simp only [fldWidth, REF_SLOTs_CFG_OVR]
@[simp] theorem key_REF_SLOTs_CFG_OVR_QL (n : Nat) : fldKey (REF_SLOTs_CFG_OVR_QL n) = 33558552 + 64 * n := by simp only [fldKey, REF_SLOTs_CFG_OVR_QL]; omega
@[simp] theorem width_REF_SLOTs_CFG_OVR_QL (n : Nat) : fldWidth (REF_SLOTs_CFG_OVR_QL n) = 4 := by simp only [fldWidth, REF_SLOTs_CFG_OVR_QL]
@[simp] theorem key_REF_SLOTs_CFG_QUAL_TIME (n : Nat) : fldKey (REF_SLOTs_CFG_QUAL_TIME n) = 33558528 + 64 * n := by simp only [fldKey, REF_SLOTs_CFG_QUAL_TIME]; omega
@[simp] theorem width_REF_SLOTs_CFG_QUAL_TIME (n : Nat) : fldWidth (REF_SLOTs_CFG_QUAL_TIME n) = 16 := by simp only [fldWidth, REF_SLOTs_CFG_QUAL_TIME]
@[simp] theorem key_REF_SLOTs_STAT_EFF_QL (n : Nat) : fldKey (REF_SLOTs_STAT_EFF_QL n) = 33558588 + 64 * n := by simp only [fldKey, REF_SLOTs_STAT_EFF_QL]; omega
@[simp] theorem width_REF_SLOTs_STAT_EFF_QL (n : Nat) : fldWidth (REF_SLOTs_STAT_EFF_QL n) = 4 := by simp only [fldWidth, REF_SLOTs_STAT_EFF_QL]
@[simp] theorem key_REF_SLOTs_STAT_ADV_QL (n : Nat) : fldKey (REF_SLOTs_STAT_ADV_QL n) = 33558584 + 64 * n := by simp only [fldKey, REF_SLOTs_STAT_ADV_QL]; omega
@[simp] theorem width_REF_SLOTs_STAT_ADV_QL (n : Nat) : fldWidth (REF_SLOTs_STAT_ADV_QL n) = 4 := by simp only [fldWidth, REF_SLOTs_STAT_ADV_QL]
@[simp] theorem key_REF_SLOTs_STAT_STATE (n : Nat) : fldKey (REF_SLOTs_STAT_STATE n) = 33558582 + 64 * n := by simp only [fldKey, REF_SLOTs_STAT_STATE]; omega
@[simp] theorem width_REF_SLOTs_STAT_STATE (n : Nat) : fldWidth (REF_SLOTs_STAT_STATE n) = 2 := by simp only [fldWidth, REF_SLOTs_STAT_STATE]
@[simp] theorem key_REF_SLOTs_STAT_VALID (n : Nat) : fldKey (REF_SLOTs_STAT_VALID n) = 33558581 + 64 * n := by simp only [fldKey, REF_SLOTs_STAT_VALID]; omega
@[simp] theorem width_REF_SLOTs_STAT_VALID (n : Nat) : fldWidth (REF_SLOTs_STAT_VALID n) = 1 := by simp only [fldWidth, REF_SLOTs_STAT_VALID]
@[simp] theorem key_REF_SLOTs_STAT_REMAIN (n : Nat) : fldKey (REF_SLOTs_STAT_REMAIN n) = 33558560 + 64 * n := by simp only [fldKey, REF_SLOTs_STAT_REMAIN]; omega
@[simp] theorem width_REF_SLOTs_STAT_REMAIN (n : Nat) : fldWidth (REF_SLOTs_STAT_REMAIN n) = 16 := by simp only [fldWidth, REF_SLOTs_STAT_REMAIN]
@[simp] theorem key_REF_QLSUM_USABLE : fldKey REF_QLSUM_USABLE = 33560576 := by simp only [fldKey, REF_QLSUM_USABLE]
@[simp] theorem width_REF_QLSUM_USABLE : fldWidth REF_QLSUM_USABLE = 32 := by simp only [fldWidth, REF_QLSUM_USABLE]
@[simp] theorem key_REF_QEVT_CHANGE : fldKey REF_QEVT_CHANGE = 33560608 := by simp only [fldKey, REF_QEVT_CHANGE]
@[simp] theorem width_REF_QEVT_CHANGE : fldWidth REF_QEVT_CHANGE = 32 := by simp only [fldWidth, REF_QEVT_CHANGE]
@[simp] theorem key_REF_QEVT_EN_EN : fldKey REF_QEVT_EN_EN = 33560640 := by simp only [fldKey, REF_QEVT_EN_EN]
@[simp] theorem width_REF_QEVT_EN_EN : fldWidth REF_QEVT_EN_EN = 32 := by simp only [fldWidth, REF_QEVT_EN_EN]
@[simp] theorem key_REF_TODk_CFG_EN (n : Nat) : fldKey (REF_TODk_CFG_EN n) = 33560735 + 128 * n := by simp only [fldKey, REF_TODk_CFG_EN]; omega
@[simp] theorem width_REF_TODk_CFG_EN (n : Nat) : fldWidth (REF_TODk_CFG_EN n) = 1 := by simp only [fldWidth, REF_TODk_CFG_EN]
@[simp] theorem key_REF_TODk_CFG_SENSE (n : Nat) : fldKey (REF_TODk_CFG_SENSE n) = 33560734 + 128 * n := by simp only [fldKey, REF_TODk_CFG_SENSE]; omega
@[simp] theorem width_REF_TODk_CFG_SENSE (n : Nat) : fldWidth (REF_TODk_CFG_SENSE n) = 1 := by simp only [fldWidth, REF_TODk_CFG_SENSE]
@[simp] theorem key_REF_TODk_CFG_BAUD (n : Nat) : fldKey (REF_TODk_CFG_BAUD n) = 33560731 + 128 * n := by simp only [fldKey, REF_TODk_CFG_BAUD]; omega
@[simp] theorem width_REF_TODk_CFG_BAUD (n : Nat) : fldWidth (REF_TODk_CFG_BAUD n) = 3 := by simp only [fldWidth, REF_TODk_CFG_BAUD]
@[simp] theorem key_REF_TODk_CFG_SRC (n : Nat) : fldKey (REF_TODk_CFG_SRC n) = 33560729 + 128 * n := by simp only [fldKey, REF_TODk_CFG_SRC]; omega
@[simp] theorem width_REF_TODk_CFG_SRC (n : Nat) : fldWidth (REF_TODk_CFG_SRC n) = 2 := by simp only [fldWidth, REF_TODk_CFG_SRC]
@[simp] theorem key_REF_TODk_CFG_QL_VALID (n : Nat) : fldKey (REF_TODk_CFG_QL_VALID n) = 33560724 + 128 * n := by simp only [fldKey, REF_TODk_CFG_QL_VALID]; omega
@[simp] theorem width_REF_TODk_CFG_QL_VALID (n : Nat) : fldWidth (REF_TODk_CFG_QL_VALID n) = 4 := by simp only [fldWidth, REF_TODk_CFG_QL_VALID]
@[simp] theorem key_REF_TODk_CFG_QL_EST (n : Nat) : fldKey (REF_TODk_CFG_QL_EST n) = 33560720 + 128 * n := by simp only [fldKey, REF_TODk_CFG_QL_EST]; omega
@[simp] theorem width_REF_TODk_CFG_QL_EST (n : Nat) : fldWidth (REF_TODk_CFG_QL_EST n) = 4 := by simp only [fldWidth, REF_TODk_CFG_QL_EST]
@[simp] theorem key_REF_TODk_CFG_QL_NOLABEL (n : Nat) : fldKey (REF_TODk_CFG_QL_NOLABEL n) = 33560716 + 128 * n := by simp only [fldKey, REF_TODk_CFG_QL_NOLABEL]; omega
@[simp] theorem width_REF_TODk_CFG_QL_NOLABEL (n : Nat) : fldWidth (REF_TODk_CFG_QL_NOLABEL n) = 4 := by simp only [fldWidth, REF_TODk_CFG_QL_NOLABEL]
@[simp] theorem key_REF_TODk_CFG_CONF (n : Nat) : fldKey (REF_TODk_CFG_CONF n) = 33560712 + 128 * n := by simp only [fldKey, REF_TODk_CFG_CONF]; omega
@[simp] theorem width_REF_TODk_CFG_CONF (n : Nat) : fldWidth (REF_TODk_CFG_CONF n) = 4 := by simp only [fldWidth, REF_TODk_CFG_CONF]
@[simp] theorem key_REF_TODk_CFG_TIMEOUT (n : Nat) : fldKey (REF_TODk_CFG_TIMEOUT n) = 33560704 + 128 * n := by simp only [fldKey, REF_TODk_CFG_TIMEOUT]; omega
@[simp] theorem width_REF_TODk_CFG_TIMEOUT (n : Nat) : fldWidth (REF_TODk_CFG_TIMEOUT n) = 8 := by simp only [fldWidth, REF_TODk_CFG_TIMEOUT]
@[simp] theorem key_REF_TODk_STAT_ERRCNT (n : Nat) : fldKey (REF_TODk_STAT_ERRCNT n) = 33560760 + 128 * n := by simp only [fldKey, REF_TODk_STAT_ERRCNT]; omega
@[simp] theorem width_REF_TODk_STAT_ERRCNT (n : Nat) : fldWidth (REF_TODk_STAT_ERRCNT n) = 8 := by simp only [fldWidth, REF_TODk_STAT_ERRCNT]
@[simp] theorem key_REF_TODk_STAT_FIX (n : Nat) : fldKey (REF_TODk_STAT_FIX n) = 33560748 + 128 * n := by simp only [fldKey, REF_TODk_STAT_FIX]; omega
@[simp] theorem width_REF_TODk_STAT_FIX (n : Nat) : fldWidth (REF_TODk_STAT_FIX n) = 4 := by simp only [fldWidth, REF_TODk_STAT_FIX]
@[simp] theorem key_REF_TODk_STAT_LBL_VALID (n : Nat) : fldKey (REF_TODk_STAT_LBL_VALID n) = 33560747 + 128 * n := by simp only [fldKey, REF_TODk_STAT_LBL_VALID]; omega
@[simp] theorem width_REF_TODk_STAT_LBL_VALID (n : Nat) : fldWidth (REF_TODk_STAT_LBL_VALID n) = 1 := by simp only [fldWidth, REF_TODk_STAT_LBL_VALID]
@[simp] theorem key_REF_TODk_STAT_CFG_ERR (n : Nat) : fldKey (REF_TODk_STAT_CFG_ERR n) = 33560746 + 128 * n := by simp only [fldKey, REF_TODk_STAT_CFG_ERR]; omega
@[simp] theorem width_REF_TODk_STAT_CFG_ERR (n : Nat) : fldWidth (REF_TODk_STAT_CFG_ERR n) = 1 := by simp only [fldWidth, REF_TODk_STAT_CFG_ERR]
@[simp] theorem key_REF_TODk_STAT_CONSEC (n : Nat) : fldKey (REF_TODk_STAT_CONSEC n) = 33560736 + 128 * n := by simp only [fldKey, REF_TODk_STAT_CONSEC]; omega
@[simp] theorem width_REF_TODk_STAT_CONSEC (n : Nat) : fldWidth (REF_TODk_STAT_CONSEC n) = 8 := by simp only [fldWidth, REF_TODk_STAT_CONSEC]
@[simp] theorem key_REF_TODk_LBL_DATE_YEAR (n : Nat) : fldKey (REF_TODk_LBL_DATE_YEAR n) = 33560784 + 128 * n := by simp only [fldKey, REF_TODk_LBL_DATE_YEAR]; omega
@[simp] theorem width_REF_TODk_LBL_DATE_YEAR (n : Nat) : fldWidth (REF_TODk_LBL_DATE_YEAR n) = 16 := by simp only [fldWidth, REF_TODk_LBL_DATE_YEAR]
@[simp] theorem key_REF_TODk_LBL_DATE_MONTH (n : Nat) : fldKey (REF_TODk_LBL_DATE_MONTH n) = 33560776 + 128 * n := by simp only [fldKey, REF_TODk_LBL_DATE_MONTH]; omega
@[simp] theorem width_REF_TODk_LBL_DATE_MONTH (n : Nat) : fldWidth (REF_TODk_LBL_DATE_MONTH n) = 8 := by simp only [fldWidth, REF_TODk_LBL_DATE_MONTH]
@[simp] theorem key_REF_TODk_LBL_DATE_DAY (n : Nat) : fldKey (REF_TODk_LBL_DATE_DAY n) = 33560768 + 128 * n := by simp only [fldKey, REF_TODk_LBL_DATE_DAY]; omega
@[simp] theorem width_REF_TODk_LBL_DATE_DAY (n : Nat) : fldWidth (REF_TODk_LBL_DATE_DAY n) = 8 := by simp only [fldWidth, REF_TODk_LBL_DATE_DAY]
@[simp] theorem key_REF_TODk_LBL_TIME_HOUR (n : Nat) : fldKey (REF_TODk_LBL_TIME_HOUR n) = 33560816 + 128 * n := by simp only [fldKey, REF_TODk_LBL_TIME_HOUR]; omega
@[simp] theorem width_REF_TODk_LBL_TIME_HOUR (n : Nat) : fldWidth (REF_TODk_LBL_TIME_HOUR n) = 8 := by simp only [fldWidth, REF_TODk_LBL_TIME_HOUR]
@[simp] theorem key_REF_TODk_LBL_TIME_MIN (n : Nat) : fldKey (REF_TODk_LBL_TIME_MIN n) = 33560808 + 128 * n := by simp only [fldKey, REF_TODk_LBL_TIME_MIN]; omega
@[simp] theorem width_REF_TODk_LBL_TIME_MIN (n : Nat) : fldWidth (REF_TODk_LBL_TIME_MIN n) = 8 := by simp only [fldWidth, REF_TODk_LBL_TIME_MIN]
@[simp] theorem key_REF_TODk_LBL_TIME_SEC (n : Nat) : fldKey (REF_TODk_LBL_TIME_SEC n) = 33560800 + 128 * n := by simp only [fldKey, REF_TODk_LBL_TIME_SEC]; omega
@[simp] theorem width_REF_TODk_LBL_TIME_SEC (n : Nat) : fldWidth (REF_TODk_LBL_TIME_SEC n) = 8 := by simp only [fldWidth, REF_TODk_LBL_TIME_SEC]
@[simp] theorem key_REF_SYSCLK_CLASS : fldKey REF_SYSCLK_CLASS = 33560990 := by simp only [fldKey, REF_SYSCLK_CLASS]
@[simp] theorem width_REF_SYSCLK_CLASS : fldWidth REF_SYSCLK_CLASS = 2 := by simp only [fldWidth, REF_SYSCLK_CLASS]
@[simp] theorem key_REF_SYSCLK_OCXO_RDY : fldKey REF_SYSCLK_OCXO_RDY = 33560989 := by simp only [fldKey, REF_SYSCLK_OCXO_RDY]
@[simp] theorem width_REF_SYSCLK_OCXO_RDY : fldWidth REF_SYSCLK_OCXO_RDY = 1 := by simp only [fldWidth, REF_SYSCLK_OCXO_RDY]
@[simp] theorem key_REF_SYSCLK_WARMING : fldKey REF_SYSCLK_WARMING = 33560988 := by simp only [fldKey, REF_SYSCLK_WARMING]
@[simp] theorem width_REF_SYSCLK_WARMING : fldWidth REF_SYSCLK_WARMING = 1 := by simp only [fldWidth, REF_SYSCLK_WARMING]
@[simp] theorem key_REF_SYSCLK_WARM_TO : fldKey REF_SYSCLK_WARM_TO = 33560987 := by simp only [fldKey, REF_SYSCLK_WARM_TO]
@[simp] theorem width_REF_SYSCLK_WARM_TO : fldWidth REF_SYSCLK_WARM_TO = 1 := by simp only [fldWidth, REF_SYSCLK_WARM_TO]
@[simp] theorem key_REF_SYSCLK_ELAPSED : fldKey REF_SYSCLK_ELAPSED = 33560972 := by simp only [fldKey, REF_SYSCLK_ELAPSED]
@[simp] theorem width_REF_SYSCLK_ELAPSED : fldWidth REF_SYSCLK_ELAPSED = 12 := by simp only [fldWidth, REF_SYSCLK_ELAPSED]
@[simp] theorem key_REF_SYSCLK_WARM_MAX : fldKey REF_SYSCLK_WARM_MAX = 33560960 := by simp only [fldKey, REF_SYSCLK_WARM_MAX]
@[simp] theorem width_REF_SYSCLK_WARM_MAX : fldWidth REF_SYSCLK_WARM_MAX = 12 := by simp only [fldWidth, REF_SYSCLK_WARM_MAX]
@[simp] theorem key_REF_SRCQL_IRIG_QL : fldKey REF_SRCQL_IRIG_QL = 33560992 := by simp only [fldKey, REF_SRCQL_IRIG_QL]
@[simp] theorem width_REF_SRCQL_IRIG_QL : fldWidth REF_SRCQL_IRIG_QL = 4 := by simp only [fldWidth, REF_SRCQL_IRIG_QL]
@[simp] theorem key_PMU_PMn_CFG_EN (n : Nat) : fldKey (PMU_PMn_CFG_EN n) = 41943071 + 1024 * n := by simp only [fldKey, PMU_PMn_CFG_EN]; omega
@[simp] theorem width_PMU_PMn_CFG_EN (n : Nat) : fldWidth (PMU_PMn_CFG_EN n) = 1 := by simp only [fldWidth, PMU_PMn_CFG_EN]
@[simp] theorem key_PMU_PMn_CFG_MODE (n : Nat) : fldKey (PMU_PMn_CFG_MODE n) = 41943068 + 1024 * n := by simp only [fldKey, PMU_PMn_CFG_MODE]; omega
@[simp] theorem width_PMU_PMn_CFG_MODE (n : Nat) : fldWidth (PMU_PMn_CFG_MODE n) = 3 := by simp only [fldWidth, PMU_PMn_CFG_MODE]
@[simp] theorem key_PMU_PMn_CFG_BASE (n : Nat) : fldKey (PMU_PMn_CFG_BASE n) = 41943067 + 1024 * n := by simp only [fldKey, PMU_PMn_CFG_BASE]; omega
@[simp] theorem width_PMU_PMn_CFG_BASE (n : Nat) : fldWidth (PMU_PMn_CFG_BASE n) = 1 := by simp only [fldWidth, PMU_PMn_CFG_BASE]
@[simp] theorem key_PMU_PMn_CFG_SQ_EN (n : Nat) : fldKey (PMU_PMn_CFG_SQ_EN n) = 41943066 + 1024 * n := by simp only [fldKey, PMU_PMn_CFG_SQ_EN]; omega
@[simp] theorem width_PMU_PMn_CFG_SQ_EN (n : Nat) : fldWidth (PMU_PMn_CFG_SQ_EN n) = 1 := by simp only [fldWidth, PMU_PMn_CFG_SQ_EN]
@[simp] theorem key_PMU_PMn_CFG_INV_S (n : Nat) : fldKey (PMU_PMn_CFG_INV_S n) = 41943065 + 1024 * n := by simp only [fldKey, PMU_PMn_CFG_INV_S]; omega
@[simp] theorem width_PMU_PMn_CFG_INV_S (n : Nat) : fldWidth (PMU_PMn_CFG_INV_S n) = 1 := by simp only [fldWidth, PMU_PMn_CFG_INV_S]
@[simp] theorem key_PMU_PMn_CFG_INV_P (n : Nat) : fldKey (PMU_PMn_CFG_INV_P n) = 41943064 + 1024 * n := by simp only [fldKey, PMU_PMn_CFG_INV_P]; omega
@[simp] theorem width_PMU_PMn_CFG_INV_P (n : Nat) : fldWidth (PMU_PMn_CFG_INV_P n) = 1 := by simp only [fldWidth, PMU_PMn_CFG_INV_P]
@[simp] theorem key_PMU_PMn_CFG_PRE_S (n : Nat) : fldKey (PMU_PMn_CFG_PRE_S n) = 41943060 + 1024 * n := by simp only [fldKey, PMU_PMn_CFG_PRE_S]; omega
@[simp] theorem width_PMU_PMn_CFG_PRE_S (n : Nat) : fldWidth (PMU_PMn_CFG_PRE_S n) = 4 := by simp only [fldWidth, PMU_PMn_CFG_PRE_S]
@[simp] theorem key_PMU_PMn_CFG_PRE_P (n : Nat) : fldKey (PMU_PMn_CFG_PRE_P n) = 41943056 + 1024 * n := by simp only [fldKey, PMU_PMn_CFG_PRE_P]; omega
@[simp] theorem width_PMU_PMn_CFG_PRE_P (n : Nat) : fldWidth (PMU_PMn_CFG_PRE_P n) = 4 := by simp only [fldWidth, PMU_PMn_CFG_PRE_P]
@[simp] theorem key_PMU_PMn_CFG_QTHR (n : Nat) : fldKey (PMU_PMn_CFG_QTHR n) = 41943040 + 1024 * n := by simp only [fldKey, PMU_PMn_CFG_QTHR]; omega
@[simp] theorem width_PMU_PMn_CFG_QTHR (n : Nat) : fldWidth (PMU_PMn_CFG_QTHR n) = 10 := by simp only [fldWidth, PMU_PMn_CFG_QTHR]
@[simp] theorem key_PMU_PMn_WPOST_WPOST (n : Nat) : fldKey (PMU_PMn_WPOST_WPOST n) = 41943072 + 1024 * n := by simp only [fldKey, PMU_PMn_WPOST_WPOST]; omega
@[simp] theorem width_PMU_PMn_WPOST_WPOST (n : Nat) : fldWidth (PMU_PMn_WPOST_WPOST n) = 32 := by simp only [fldWidth, PMU_PMn_WPOST_WPOST]
@[simp] theorem key_PMU_PMn_WPRE_WPRE (n : Nat) : fldKey (PMU_PMn_WPRE_WPRE n) = 41943104 + 1024 * n := by simp only [fldKey, PMU_PMn_WPRE_WPRE]; omega
@[simp] theorem width_PMU_PMn_WPRE_WPRE (n : Nat) : fldWidth (PMU_PMn_WPRE_WPRE n) = 32 := by simp only [fldWidth, PMU_PMn_WPRE_WPRE]
@[simp] theorem key_PMU_PMn_GATE_GATE (n : Nat) : fldKey (PMU_PMn_GATE_GATE n) = 41943136 + 1024 * n := by simp only [fldKey, PMU_PMn_GATE_GATE]; omega
@[simp] theorem width_PMU_PMn_GATE_GATE (n : Nat) : fldWidth (PMU_PMn_GATE_GATE n) = 32 := by simp only [fldWidth, PMU_PMn_GATE_GATE]
@[simp] theorem key_PMU_PMn_NOM_LO_NOM (n : Nat) : fldKey (PMU_PMn_NOM_LO_NOM n) = 41943168 + 1024 * n := by simp only [fldKey, PMU_PMn_NOM_LO_NOM]; omega
@[simp] theorem width_PMU_PMn_NOM_LO_NOM (n : Nat) : fldWidth (PMU_PMn_NOM_LO_NOM n) = 32 := by simp only [fldWidth, PMU_PMn_NOM_LO_NOM]
@[simp] theorem key_PMU_PMn_NOM_HI_NOM (n : Nat) : fldKey (PMU_PMn_NOM_HI_NOM n) = 41943200 + 1024 * n := by simp only [fldKey, PMU_PMn_NOM_HI_NOM]; omega
@[simp] theorem width_PMU_PMn_NOM_HI_NOM (n : Nat) : fldWidth (PMU_PMn_NOM_HI_NOM n) = 32 := by simp only [fldWidth, PMU_PMn_NOM_HI_NOM]
@[simp] theorem key_PMU_PMn_CTL_POP_RQ (n : Nat) : fldKey (PMU_PMn_CTL_POP_RQ n) = 41943236 + 1024 * n := by simp only [fldKey, PMU_PMn_CTL_POP_RQ]; omega
@[simp] theorem width_PMU_PMn_CTL_POP_RQ (n : Nat) : fldWidth (PMU_PMn_CTL_POP_RQ n) = 1 := by simp only [fldWidth, PMU_PMn_CTL_POP_RQ]
@[simp] theorem key_PMU_PMn_CTL_POP_SQ (n : Nat) : fldKey (PMU_PMn_CTL_POP_SQ n) = 41943235 + 1024 * n := by simp only [fldKey, PMU_PMn_CTL_POP_SQ]; omega
@[simp] theorem width_PMU_PMn_CTL_POP_SQ (n : Nat) : fldWidth (PMU_PMn_CTL_POP_SQ n) = 1 := by simp only [fldWidth, PMU_PMn_CTL_POP_SQ]
@[simp] theorem key_PMU_PMn_CTL_FLUSH_RQ (n : Nat) : fldKey (PMU_PMn_CTL_FLUSH_RQ n) = 41943234 + 1024 * n := by simp only [fldKey, PMU_PMn_CTL_FLUSH_RQ]; omega
@[simp] theorem width_PMU_PMn_CTL_FLUSH_RQ (n : Nat) : fldWidth (PMU_PMn_CTL_FLUSH_RQ n) = 1 := by simp only [fldWidth, PMU_PMn_CTL_FLUSH_RQ]
@[simp] theorem key_PMU_PMn_CTL_FLUSH_SQ (n : Nat) : fldKey (PMU_PMn_CTL_FLUSH_SQ n) = 41943233 + 1024 * n := by simp only [fldKey, PMU_PMn_CTL_FLUSH_SQ]; omega
@[simp] theorem width_PMU_PMn_CTL_FLUSH_SQ (n : Nat) : fldWidth (PMU_PMn_CTL_FLUSH_SQ n) = 1 := by simp only [fldWidth, PMU_PMn_CTL_FLUSH_SQ]
@[simp] theorem key_PMU_PMn_CTL_RESTART (n : Nat) : fldKey (PMU_PMn_CTL_RESTART n) = 41943232 + 1024 * n := by simp only [fldKey, PMU_PMn_CTL_RESTART]; omega
@[simp] theorem width_PMU_PMn_CTL_RESTART (n : Nat) : fldWidth (PMU_PMn_CTL_RESTART n) = 1 := by simp only [fldWidth, PMU_PMn_CTL_RESTART]
@[simp] theorem key_PMU_PMn_STAT_CFG_ERR (n : Nat) : fldKey (PMU_PMn_STAT_CFG_ERR n) = 41943295 + 1024 * n := by simp only [fldKey, PMU_PMn_STAT_CFG_ERR]; omega
@[simp] theorem width_PMU_PMn_STAT_CFG_ERR (n : Nat) : fldWidth (PMU_PMn_STAT_CFG_ERR n) = 1 := by simp only [fldWidth, PMU_PMn_STAT_CFG_ERR]
@[simp] theorem key_PMU_PMn_STAT_STATE (n : Nat) : fldKey (PMU_PMn_STAT_STATE n) = 41943293 + 1024 * n := by simp only [fldKey, PMU_PMn_STAT_STATE]; omega
@[simp] theorem width_PMU_PMn_STAT_STATE (n : Nat) : fldWidth (PMU_PMn_STAT_STATE n) = 2 := by simp only [fldWidth, PMU_PMn_STAT_STATE]
@[simp] theorem key_PMU_PMn_STAT_UNCAL (n : Nat) : fldKey (PMU_PMn_STAT_UNCAL n) = 41943292 + 1024 * n := by simp only [fldKey, PMU_PMn_STAT_UNCAL]; omega
@[simp] theorem width_PMU_PMn_STAT_UNCAL (n : Nat) : fldWidth (PMU_PMn_STAT_UNCAL n) = 1 := by simp only [fldWidth, PMU_PMn_STAT_UNCAL]
@[simp] theorem key_PMU_PMn_STAT_PAIR (n : Nat) : fldKey (PMU_PMn_STAT_PAIR n) = 41943290 + 1024 * n := by simp only [fldKey, PMU_PMn_STAT_PAIR]; omega
@[simp] theorem width_PMU_PMn_STAT_PAIR (n : Nat) : fldWidth (PMU_PMn_STAT_PAIR n) = 2 := by simp only [fldWidth, PMU_PMn_STAT_PAIR]
@[simp] theorem key_PMU_PMn_SQ_HEAD (n j : Nat) : fldKey (PMU_PMn_SQ_HEAD n j) = 41943296 + 1024 * n + 32 * j := by simp only [fldKey, PMU_PMn_SQ_HEAD]; omega
@[simp] theorem width_PMU_PMn_SQ_HEAD (n j : Nat) : fldWidth (PMU_PMn_SQ_HEAD n j) = 32 := by simp only [fldWidth, PMU_PMn_SQ_HEAD]
@[simp] theorem key_PMU_PMn_SQSTAT_LOST (n : Nat) : fldKey (PMU_PMn_SQSTAT_LOST n) = 41943440 + 1024 * n := by simp only [fldKey, PMU_PMn_SQSTAT_LOST]; omega
@[simp] theorem width_PMU_PMn_SQSTAT_LOST (n : Nat) : fldWidth (PMU_PMn_SQSTAT_LOST n) = 16 := by simp only [fldWidth, PMU_PMn_SQSTAT_LOST]
@[simp] theorem key_PMU_PMn_SQSTAT_OVF (n : Nat) : fldKey (PMU_PMn_SQSTAT_OVF n) = 41943437 + 1024 * n := by simp only [fldKey, PMU_PMn_SQSTAT_OVF]; omega
@[simp] theorem width_PMU_PMn_SQSTAT_OVF (n : Nat) : fldWidth (PMU_PMn_SQSTAT_OVF n) = 1 := by simp only [fldWidth, PMU_PMn_SQSTAT_OVF]
@[simp] theorem key_PMU_PMn_SQSTAT_LEVEL (n : Nat) : fldKey (PMU_PMn_SQSTAT_LEVEL n) = 41943424 + 1024 * n := by simp only [fldKey, PMU_PMn_SQSTAT_LEVEL]; omega
@[simp] theorem width_PMU_PMn_SQSTAT_LEVEL (n : Nat) : fldWidth (PMU_PMn_SQSTAT_LEVEL n) = 10 := by simp only [fldWidth, PMU_PMn_SQSTAT_LEVEL]
@[simp] theorem key_PMU_PMn_RQSTAT_LOST (n : Nat) : fldKey (PMU_PMn_RQSTAT_LOST n) = 41943472 + 1024 * n := by simp only [fldKey, PMU_PMn_RQSTAT_LOST]; omega
@[simp] theorem width_PMU_PMn_RQSTAT_LOST (n : Nat) : fldWidth (PMU_PMn_RQSTAT_LOST n) = 16 := by simp only [fldWidth, PMU_PMn_RQSTAT_LOST]
@[simp] theorem key_PMU_PMn_RQSTAT_OVF (n : Nat) : fldKey (PMU_PMn_RQSTAT_OVF n) = 41943469 + 1024 * n := by simp only [fldKey, PMU_PMn_RQSTAT_OVF]; omega
@[simp] theorem width_PMU_PMn_RQSTAT_OVF (n : Nat) : fldWidth (PMU_PMn_RQSTAT_OVF n) = 1 := by simp only [fldWidth, PMU_PMn_RQSTAT_OVF]
@[simp] theorem key_PMU_PMn_RQSTAT_LEVEL (n : Nat) : fldKey (PMU_PMn_RQSTAT_LEVEL n) = 41943456 + 1024 * n := by simp only [fldKey, PMU_PMn_RQSTAT_LEVEL]; omega
@[simp] theorem width_PMU_PMn_RQSTAT_LEVEL (n : Nat) : fldWidth (PMU_PMn_RQSTAT_LEVEL n) = 10 := by simp only [fldWidth, PMU_PMn_RQSTAT_LEVEL]
@[simp] theorem key_PMU_PMn_CALSTAT_LOOP_LOCK (n : Nat) : fldKey (PMU_PMn_CALSTAT_LOOP_LOCK n) = 41943519 + 1024 * n := by simp only [fldKey, PMU_PMn_CALSTAT_LOOP_LOCK]; omega
@[simp] theorem width_PMU_PMn_CALSTAT_LOOP_LOCK (n : Nat) : fldWidth (PMU_PMn_CALSTAT_LOOP_LOCK n) = 1 := by simp only [fldWidth, PMU_PMn_CALSTAT_LOOP_LOCK]
@[simp] theorem key_PMU_PMn_CALSTAT_TABLE_VALID (n : Nat) : fldKey (PMU_PMn_CALSTAT_TABLE_VALID n) = 41943518 + 1024 * n := by simp only [fldKey, PMU_PMn_CALSTAT_TABLE_VALID]; omega
@[simp] theorem width_PMU_PMn_CALSTAT_TABLE_VALID (n : Nat) : fldWidth (PMU_PMn_CALSTAT_TABLE_VALID n) = 1 := by simp only [fldWidth, PMU_PMn_CALSTAT_TABLE_VALID]
@[simp] theorem key_PMU_PMn_CALSTAT_SKEW_VALID (n : Nat) : fldKey (PMU_PMn_CALSTAT_SKEW_VALID n) = 41943517 + 1024 * n := by simp only [fldKey, PMU_PMn_CALSTAT_SKEW_VALID]; omega
@[simp] theorem width_PMU_PMn_CALSTAT_SKEW_VALID (n : Nat) : fldWidth (PMU_PMn_CALSTAT_SKEW_VALID n) = 1 := by simp only [fldWidth, PMU_PMn_CALSTAT_SKEW_VALID]
@[simp] theorem key_PMU_PMn_CALSTAT_TABLE_AGE (n : Nat) : fldKey (PMU_PMn_CALSTAT_TABLE_AGE n) = 41943488 + 1024 * n := by simp only [fldKey, PMU_PMn_CALSTAT_TABLE_AGE]; omega
@[simp] theorem width_PMU_PMn_CALSTAT_TABLE_AGE (n : Nat) : fldWidth (PMU_PMn_CALSTAT_TABLE_AGE n) = 24 := by simp only [fldWidth, PMU_PMn_CALSTAT_TABLE_AGE]
@[simp] theorem key_PMU_PMn_CNT_LOST_EDGE (n : Nat) : fldKey (PMU_PMn_CNT_LOST_EDGE n) = 41943536 + 1024 * n := by simp only [fldKey, PMU_PMn_CNT_LOST_EDGE]; omega
@[simp] theorem width_PMU_PMn_CNT_LOST_EDGE (n : Nat) : fldWidth (PMU_PMn_CNT_LOST_EDGE n) = 16 := by simp only [fldWidth, PMU_PMn_CNT_LOST_EDGE]
@[simp] theorem key_PMU_PMn_CNT_EARLY (n : Nat) : fldKey (PMU_PMn_CNT_EARLY n) = 41943520 + 1024 * n := by simp only [fldKey, PMU_PMn_CNT_EARLY]; omega
@[simp] theorem width_PMU_PMn_CNT_EARLY (n : Nat) : fldWidth (PMU_PMn_CNT_EARLY n) = 16 := by simp only [fldWidth, PMU_PMn_CNT_EARLY]
@[simp] theorem key_PMU_PMn_RQ_HEAD (n j : Nat) : fldKey (PMU_PMn_RQ_HEAD n j) = 41943552 + 1024 * n + 32 * j := by simp only [fldKey, PMU_PMn_RQ_HEAD]; omega
@[simp] theorem width_PMU_PMn_RQ_HEAD (n j : Nat) : fldWidth (PMU_PMn_RQ_HEAD n j) = 32 := by simp only [fldWidth, PMU_PMn_RQ_HEAD]
@[simp] theorem key_PMU_PMn_FA_LO_FA (n : Nat) : fldKey (PMU_PMn_FA_LO_FA n) = 41943680 + 1024 * n := by simp only [fldKey, PMU_PMn_FA_LO_FA]; omega
@[simp] theorem width_PMU_PMn_FA_LO_FA (n : Nat) : fldWidth (PMU_PMn_FA_LO_FA n) = 32 := by simp only [fldWidth, PMU_PMn_FA_LO_FA]
@[simp] theorem key_PMU_PMn_FA_FA_HI_FA (n : Nat) : fldKey (PMU_PMn_FA_FA_HI_FA n) = 41943712 + 1024 * n := by simp only [fldKey, PMU_PMn_FA_FA_HI_FA]; omega
@[simp] theorem width_PMU_PMn_FA_FA_HI_FA (n : Nat) : fldWidth (PMU_PMn_FA_FA_HI_FA n) = 32 := by simp only [fldWidth, PMU_PMn_FA_FA_HI_FA]
@[simp] theorem key_PMU_PMn_OA_LO_OA (n : Nat) : fldKey (PMU_PMn_OA_LO_OA n) = 41943744 + 1024 * n := by simp only [fldKey, PMU_PMn_OA_LO_OA]; omega
@[simp] theorem width_PMU_PMn_OA_LO_OA (n : Nat) : fldWidth (PMU_PMn_OA_LO_OA n) = 32 := by simp only [fldWidth, PMU_PMn_OA_LO_OA]
@[simp] theorem key_PMU_PMn_OA_OA_HI_OA (n : Nat) : fldKey (PMU_PMn_OA_OA_HI_OA n) = 41943776 + 1024 * n := by simp only [fldKey, PMU_PMn_OA_OA_HI_OA]; omega
@[simp] theorem width_PMU_PMn_OA_OA_HI_OA (n : Nat) : fldWidth (PMU_PMn_OA_OA_HI_OA n) = 32 := by simp only [fldWidth, PMU_PMn_OA_OA_HI_OA]
@[simp] theorem key_PMU_PMn_FB_LO_FB (n : Nat) : fldKey (PMU_PMn_FB_LO_FB n) = 41943808 + 1024 * n := by simp only [fldKey, PMU_PMn_FB_LO_FB]; omega
@[simp] theorem width_PMU_PMn_FB_LO_FB (n : Nat) : fldWidth (PMU_PMn_FB_LO_FB n) = 32 := by simp only [fldWidth, PMU_PMn_FB_LO_FB]
@[simp] theorem key_PMU_PMn_FB_FB_HI_FB (n : Nat) : fldKey (PMU_PMn_FB_FB_HI_FB n) = 41943840 + 1024 * n := by simp only [fldKey, PMU_PMn_FB_FB_HI_FB]; omega
@[simp] theorem width_PMU_PMn_FB_FB_HI_FB (n : Nat) : fldWidth (PMU_PMn_FB_FB_HI_FB n) = 32 := by simp only [fldWidth, PMU_PMn_FB_FB_HI_FB]
@[simp] theorem key_PMU_PMn_OB_LO_OB (n : Nat) : fldKey (PMU_PMn_OB_LO_OB n) = 41943872 + 1024 * n := by simp only [fldKey, PMU_PMn_OB_LO_OB]; omega
@[simp] theorem width_PMU_PMn_OB_LO_OB (n : Nat) : fldWidth (PMU_PMn_OB_LO_OB n) = 32 := by simp only [fldWidth, PMU_PMn_OB_LO_OB]
@[simp] theorem key_PMU_PMn_OB_OB_HI_OB (n : Nat) : fldKey (PMU_PMn_OB_OB_HI_OB n) = 41943904 + 1024 * n := by simp only [fldKey, PMU_PMn_OB_OB_HI_OB]; omega
@[simp] theorem width_PMU_PMn_OB_OB_HI_OB (n : Nat) : fldWidth (PMU_PMn_OB_OB_HI_OB n) = 32 := by simp only [fldWidth, PMU_PMn_OB_OB_HI_OB]
@[simp] theorem key_PMU_PMn_OBA_LO_OBA (n : Nat) : fldKey (PMU_PMn_OBA_LO_OBA n) = 41943936 + 1024 * n := by simp only [fldKey, PMU_PMn_OBA_LO_OBA]; omega
@[simp] theorem width_PMU_PMn_OBA_LO_OBA (n : Nat) : fldWidth (PMU_PMn_OBA_LO_OBA n) = 32 := by simp only [fldWidth, PMU_PMn_OBA_LO_OBA]
@[simp] theorem key_PMU_PMn_OBA_OBA_HI_OBA (n : Nat) : fldKey (PMU_PMn_OBA_OBA_HI_OBA n) = 41943968 + 1024 * n := by simp only [fldKey, PMU_PMn_OBA_OBA_HI_OBA]; omega
@[simp] theorem width_PMU_PMn_OBA_OBA_HI_OBA (n : Nat) : fldWidth (PMU_PMn_OBA_OBA_HI_OBA n) = 32 := by simp only [fldWidth, PMU_PMn_OBA_OBA_HI_OBA]
@[simp] theorem key_PMU_PMn_NSTAMP_N (n : Nat) : fldKey (PMU_PMn_NSTAMP_N n) = 41944000 + 1024 * n := by simp only [fldKey, PMU_PMn_NSTAMP_N]; omega
@[simp] theorem width_PMU_PMn_NSTAMP_N (n : Nat) : fldWidth (PMU_PMn_NSTAMP_N n) = 32 := by simp only [fldWidth, PMU_PMn_NSTAMP_N]
@[simp] theorem key_PMU_PMn_RSTAT_RFLAGS (n : Nat) : fldKey (PMU_PMn_RSTAT_RFLAGS n) = 41944056 + 1024 * n := by simp only [fldKey, PMU_PMn_RSTAT_RFLAGS]; omega
@[simp] theorem width_PMU_PMn_RSTAT_RFLAGS (n : Nat) : fldWidth (PMU_PMn_RSTAT_RFLAGS n) = 8 := by simp only [fldWidth, PMU_PMn_RSTAT_RFLAGS]
@[simp] theorem key_PMU_PMn_RSTAT_RSEQ (n : Nat) : fldKey (PMU_PMn_RSTAT_RSEQ n) = 41944032 + 1024 * n := by simp only [fldKey, PMU_PMn_RSTAT_RSEQ]; omega
@[simp] theorem width_PMU_PMn_RSTAT_RSEQ (n : Nat) : fldWidth (PMU_PMn_RSTAT_RSEQ n) = 16 := by simp only [fldWidth, PMU_PMn_RSTAT_RSEQ]
@[simp] theorem key_PMU_CALCFG_AGE_MAX : fldKey PMU_CALCFG_AGE_MAX = 41955344 := by simp only [fldKey, PMU_CALCFG_AGE_MAX]
@[simp] theorem width_PMU_CALCFG_AGE_MAX : fldWidth PMU_CALCFG_AGE_MAX = 16 := by simp only [fldWidth, PMU_CALCFG_AGE_MAX]
@[simp] theorem key_PMU_CALCTL_REBUILD : fldKey PMU_CALCTL_REBUILD = 41955361 := by simp only [fldKey, PMU_CALCTL_REBUILD]
@[simp] theorem width_PMU_CALCTL_REBUILD : fldWidth PMU_CALCTL_REBUILD = 1 := by simp only [fldWidth, PMU_CALCTL_REBUILD]
@[simp] theorem key_PMU_CALCTL_SKEW_RUN : fldKey PMU_CALCTL_SKEW_RUN = 41955360 := by simp only [fldKey, PMU_CALCTL_SKEW_RUN]
@[simp] theorem width_PMU_CALCTL_SKEW_RUN : fldWidth PMU_CALCTL_SKEW_RUN = 1 := by simp only [fldWidth, PMU_CALCTL_SKEW_RUN]
@[simp] theorem key_PMU_IRQ_TABLE : fldKey PMU_IRQ_TABLE = 41955417 := by simp only [fldKey, PMU_IRQ_TABLE]
@[simp] theorem width_PMU_IRQ_TABLE : fldWidth PMU_IRQ_TABLE = 1 := by simp only [fldWidth, PMU_IRQ_TABLE]
@[simp] theorem key_PMU_IRQ_SKEW_DONE : fldKey PMU_IRQ_SKEW_DONE = 41955416 := by simp only [fldKey, PMU_IRQ_SKEW_DONE]
@[simp] theorem width_PMU_IRQ_SKEW_DONE : fldWidth PMU_IRQ_SKEW_DONE = 1 := by simp only [fldWidth, PMU_IRQ_SKEW_DONE]
@[simp] theorem key_PMU_IRQ_SQT : fldKey PMU_IRQ_SQT = 41955404 := by simp only [fldKey, PMU_IRQ_SQT]
@[simp] theorem width_PMU_IRQ_SQT : fldWidth PMU_IRQ_SQT = 12 := by simp only [fldWidth, PMU_IRQ_SQT]
@[simp] theorem key_PMU_IRQ_RES : fldKey PMU_IRQ_RES = 41955392 := by simp only [fldKey, PMU_IRQ_RES]
@[simp] theorem width_PMU_IRQ_RES : fldWidth PMU_IRQ_RES = 12 := by simp only [fldWidth, PMU_IRQ_RES]
@[simp] theorem key_PMU_IRQ_EN_EN : fldKey PMU_IRQ_EN_EN = 41955424 := by simp only [fldKey, PMU_IRQ_EN_EN]
@[simp] theorem width_PMU_IRQ_EN_EN : fldWidth PMU_IRQ_EN_EN = 32 := by simp only [fldWidth, PMU_IRQ_EN_EN]
@[simp] theorem key_PMU_TEST_GO : fldKey PMU_TEST_GO = 41955487 := by simp only [fldKey, PMU_TEST_GO]
@[simp] theorem width_PMU_TEST_GO : fldWidth PMU_TEST_GO = 1 := by simp only [fldWidth, PMU_TEST_GO]
@[simp] theorem key_PMU_TEST_UNIT : fldKey PMU_TEST_UNIT = 41955480 := by simp only [fldKey, PMU_TEST_UNIT]
@[simp] theorem width_PMU_TEST_UNIT : fldWidth PMU_TEST_UNIT = 4 := by simp only [fldWidth, PMU_TEST_UNIT]
@[simp] theorem key_PMU_TEST_SEP : fldKey PMU_TEST_SEP = 41955456 := by simp only [fldKey, PMU_TEST_SEP]
@[simp] theorem width_PMU_TEST_SEP : fldWidth PMU_TEST_SEP = 12 := by simp only [fldWidth, PMU_TEST_SEP]
@[simp] theorem key_PMU_TESTRES_RESULT : fldKey PMU_TESTRES_RESULT = 41955488 := by simp only [fldKey, PMU_TESTRES_RESULT]
@[simp] theorem width_PMU_TESTRES_RESULT : fldWidth PMU_TESTRES_RESULT = 32 := by simp only [fldWidth, PMU_TESTRES_RESULT]
@[simp] theorem key_PMU_LINIDX_SLICE : fldKey PMU_LINIDX_SLICE = 41955536 := by simp only [fldKey, PMU_LINIDX_SLICE]
@[simp] theorem width_PMU_LINIDX_SLICE : fldWidth PMU_LINIDX_SLICE = 4 := by simp only [fldWidth, PMU_LINIDX_SLICE]
@[simp] theorem key_PMU_LINIDX_TAP : fldKey PMU_LINIDX_TAP = 41955520 := by simp only [fldKey, PMU_LINIDX_TAP]
@[simp] theorem width_PMU_LINIDX_TAP : fldWidth PMU_LINIDX_TAP = 9 := by simp only [fldWidth, PMU_LINIDX_TAP]
@[simp] theorem key_PMU_LINDATA_L : fldKey PMU_LINDATA_L = 41955552 := by simp only [fldKey, PMU_LINDATA_L]
@[simp] theorem width_PMU_LINDATA_L : fldWidth PMU_LINDATA_L = 21 := by simp only [fldWidth, PMU_LINDATA_L]
@[simp] theorem key_PMU_SKEWn_K (n : Nat) : fldKey (PMU_SKEWn_K n) = 41955840 + 32 * n := by simp only [fldKey, PMU_SKEWn_K]; omega
@[simp] theorem width_PMU_SKEWn_K (n : Nat) : fldWidth (PMU_SKEWn_K n) = 32 := by simp only [fldWidth, PMU_SKEWn_K]
@[simp] theorem key_PMU_STATg_MEAN_LO_MEAN (n : Nat) : fldKey (PMU_STATg_MEAN_LO_MEAN n) = 41957376 + 512 * n := by simp only [fldKey, PMU_STATg_MEAN_LO_MEAN]; omega
@[simp] theorem width_PMU_STATg_MEAN_LO_MEAN (n : Nat) : fldWidth (PMU_STATg_MEAN_LO_MEAN n) = 32 := by simp only [fldWidth, PMU_STATg_MEAN_LO_MEAN]
@[simp] theorem key_PMU_STATg_MEAN_HI_MEAN (n : Nat) : fldKey (PMU_STATg_MEAN_HI_MEAN n) = 41957408 + 512 * n := by simp only [fldKey, PMU_STATg_MEAN_HI_MEAN]; omega
@[simp] theorem width_PMU_STATg_MEAN_HI_MEAN (n : Nat) : fldWidth (PMU_STATg_MEAN_HI_MEAN n) = 32 := by simp only [fldWidth, PMU_STATg_MEAN_HI_MEAN]
@[simp] theorem key_PMU_STATg_SD_LO_SD (n : Nat) : fldKey (PMU_STATg_SD_LO_SD n) = 41957440 + 512 * n := by simp only [fldKey, PMU_STATg_SD_LO_SD]; omega
@[simp] theorem width_PMU_STATg_SD_LO_SD (n : Nat) : fldWidth (PMU_STATg_SD_LO_SD n) = 32 := by simp only [fldWidth, PMU_STATg_SD_LO_SD]
@[simp] theorem key_PMU_STATg_SD_HI_SD (n : Nat) : fldKey (PMU_STATg_SD_HI_SD n) = 41957472 + 512 * n := by simp only [fldKey, PMU_STATg_SD_HI_SD]; omega
@[simp] theorem width_PMU_STATg_SD_HI_SD (n : Nat) : fldWidth (PMU_STATg_SD_HI_SD n) = 32 := by simp only [fldWidth, PMU_STATg_SD_HI_SD]
@[simp] theorem key_PMU_STATg_MIN_LO_MIN (n : Nat) : fldKey (PMU_STATg_MIN_LO_MIN n) = 41957504 + 512 * n := by simp only [fldKey, PMU_STATg_MIN_LO_MIN]; omega
@[simp] theorem width_PMU_STATg_MIN_LO_MIN (n : Nat) : fldWidth (PMU_STATg_MIN_LO_MIN n) = 32 := by simp only [fldWidth, PMU_STATg_MIN_LO_MIN]
@[simp] theorem key_PMU_STATg_MIN_HI_MIN (n : Nat) : fldKey (PMU_STATg_MIN_HI_MIN n) = 41957536 + 512 * n := by simp only [fldKey, PMU_STATg_MIN_HI_MIN]; omega
@[simp] theorem width_PMU_STATg_MIN_HI_MIN (n : Nat) : fldWidth (PMU_STATg_MIN_HI_MIN n) = 32 := by simp only [fldWidth, PMU_STATg_MIN_HI_MIN]
@[simp] theorem key_PMU_STATg_MAX_LO_MAX (n : Nat) : fldKey (PMU_STATg_MAX_LO_MAX n) = 41957568 + 512 * n := by simp only [fldKey, PMU_STATg_MAX_LO_MAX]; omega
@[simp] theorem width_PMU_STATg_MAX_LO_MAX (n : Nat) : fldWidth (PMU_STATg_MAX_LO_MAX n) = 32 := by simp only [fldWidth, PMU_STATg_MAX_LO_MAX]
@[simp] theorem key_PMU_STATg_MAX_HI_MAX (n : Nat) : fldKey (PMU_STATg_MAX_HI_MAX n) = 41957600 + 512 * n := by simp only [fldKey, PMU_STATg_MAX_HI_MAX]; omega
@[simp] theorem width_PMU_STATg_MAX_HI_MAX (n : Nat) : fldWidth (PMU_STATg_MAX_HI_MAX n) = 32 := by simp only [fldWidth, PMU_STATg_MAX_HI_MAX]
@[simp] theorem key_PMU_STATg_COUNT_N (n : Nat) : fldKey (PMU_STATg_COUNT_N n) = 41957632 + 512 * n := by simp only [fldKey, PMU_STATg_COUNT_N]; omega
@[simp] theorem width_PMU_STATg_COUNT_N (n : Nat) : fldWidth (PMU_STATg_COUNT_N n) = 25 := by simp only [fldWidth, PMU_STATg_COUNT_N]
@[simp] theorem key_PMU_STATg_EXCL_EXCL (n : Nat) : fldKey (PMU_STATg_EXCL_EXCL n) = 41957664 + 512 * n := by simp only [fldKey, PMU_STATg_EXCL_EXCL]; omega
@[simp] theorem width_PMU_STATg_EXCL_EXCL (n : Nat) : fldWidth (PMU_STATg_EXCL_EXCL n) = 32 := by simp only [fldWidth, PMU_STATg_EXCL_EXCL]
@[simp] theorem key_PMU_STATg_SSTAT_RFLAGS (n : Nat) : fldKey (PMU_STATg_SSTAT_RFLAGS n) = 41957720 + 512 * n := by simp only [fldKey, PMU_STATg_SSTAT_RFLAGS]; omega
@[simp] theorem width_PMU_STATg_SSTAT_RFLAGS (n : Nat) : fldWidth (PMU_STATg_SSTAT_RFLAGS n) = 8 := by simp only [fldWidth, PMU_STATg_SSTAT_RFLAGS]
@[simp] theorem key_PMU_STATg_SSTAT_SSEQ (n : Nat) : fldKey (PMU_STATg_SSTAT_SSEQ n) = 41957696 + 512 * n := by simp only [fldKey, PMU_STATg_SSTAT_SSEQ]; omega
@[simp] theorem width_PMU_STATg_SSTAT_SSEQ (n : Nat) : fldWidth (PMU_STATg_SSTAT_SSEQ n) = 16 := by simp only [fldWidth, PMU_STATg_SSTAT_SSEQ]
@[simp] theorem key_SEL_SELd_CFG_SELMODE (n : Nat) : fldKey (SEL_SELd_CFG_SELMODE n) = 50331678 + 512 * n := by simp only [fldKey, SEL_SELd_CFG_SELMODE]; omega
@[simp] theorem width_SEL_SELd_CFG_SELMODE (n : Nat) : fldWidth (SEL_SELd_CFG_SELMODE n) = 2 := by simp only [fldWidth, SEL_SELd_CFG_SELMODE]
@[simp] theorem key_SEL_SELd_CFG_REVERT (n : Nat) : fldKey (SEL_SELd_CFG_REVERT n) = 50331677 + 512 * n := by simp only [fldKey, SEL_SELd_CFG_REVERT]; omega
@[simp] theorem width_SEL_SELd_CFG_REVERT (n : Nat) : fldWidth (SEL_SELd_CFG_REVERT n) = 1 := by simp only [fldWidth, SEL_SELd_CFG_REVERT]
@[simp] theorem key_SEL_SELd_CFG_PBO (n : Nat) : fldKey (SEL_SELd_CFG_PBO n) = 50331676 + 512 * n := by simp only [fldKey, SEL_SELd_CFG_PBO]; omega
@[simp] theorem width_SEL_SELd_CFG_PBO (n : Nat) : fldWidth (SEL_SELd_CFG_PBO n) = 1 := by simp only [fldWidth, SEL_SELd_CFG_PBO]
@[simp] theorem key_SEL_SELd_CFG_QL_LIMIT (n : Nat) : fldKey (SEL_SELd_CFG_QL_LIMIT n) = 50331672 + 512 * n := by simp only [fldKey, SEL_SELd_CFG_QL_LIMIT]; omega
@[simp] theorem width_SEL_SELd_CFG_QL_LIMIT (n : Nat) : fldWidth (SEL_SELd_CFG_QL_LIMIT n) = 4 := by simp only [fldWidth, SEL_SELd_CFG_QL_LIMIT]
@[simp] theorem key_SEL_SELd_CFG_MAN_SLOT (n : Nat) : fldKey (SEL_SELd_CFG_MAN_SLOT n) = 50331664 + 512 * n := by simp only [fldKey, SEL_SELd_CFG_MAN_SLOT]; omega
@[simp] theorem width_SEL_SELd_CFG_MAN_SLOT (n : Nat) : fldWidth (SEL_SELd_CFG_MAN_SLOT n) = 5 := by simp only [fldWidth, SEL_SELd_CFG_MAN_SLOT]
@[simp] theorem key_SEL_SELd_MASK_EN (n : Nat) : fldKey (SEL_SELd_MASK_EN n) = 50331680 + 512 * n := by simp only [fldKey, SEL_SELd_MASK_EN]; omega
@[simp] theorem width_SEL_SELd_MASK_EN (n : Nat) : fldWidth (SEL_SELd_MASK_EN n) = 32 := by simp only [fldWidth, SEL_SELd_MASK_EN]
@[simp] theorem key_SEL_SELd_PRI_PRI (n j : Nat) : fldKey (SEL_SELd_PRI_PRI n j) = 50331712 + 512 * n + 32 * j := by simp only [fldKey, SEL_SELd_PRI_PRI]; omega
@[simp] theorem width_SEL_SELd_PRI_PRI (n j : Nat) : fldWidth (SEL_SELd_PRI_PRI n j) = 32 := by simp only [fldWidth, SEL_SELd_PRI_PRI]
@[simp] theorem key_SEL_SELd_TIMERS_HOLDOFF (n : Nat) : fldKey (SEL_SELd_TIMERS_HOLDOFF n) = 50331856 + 512 * n := by simp only [fldKey, SEL_SELd_TIMERS_HOLDOFF]; omega
@[simp] theorem width_SEL_SELd_TIMERS_HOLDOFF (n : Nat) : fldWidth (SEL_SELd_TIMERS_HOLDOFF n) = 16 := by simp only [fldWidth, SEL_SELd_TIMERS_HOLDOFF]
@[simp] theorem key_SEL_SELd_TIMERS_DWELL (n : Nat) : fldKey (SEL_SELd_TIMERS_DWELL n) = 50331840 + 512 * n := by simp only [fldKey, SEL_SELd_TIMERS_DWELL]; omega
@[simp] theorem width_SEL_SELd_TIMERS_DWELL (n : Nat) : fldWidth (SEL_SELd_TIMERS_DWELL n) = 16 := by simp only [fldWidth, SEL_SELd_TIMERS_DWELL]
@[simp] theorem key_SEL_SELd_SWCFG_PREP (n : Nat) : fldKey (SEL_SELd_SWCFG_PREP n) = 50331896 + 512 * n := by simp only [fldKey, SEL_SELd_SWCFG_PREP]; omega
@[simp] theorem width_SEL_SELd_SWCFG_PREP (n : Nat) : fldWidth (SEL_SELd_SWCFG_PREP n) = 8 := by simp only [fldWidth, SEL_SELd_SWCFG_PREP]
@[simp] theorem key_SEL_SELd_SWCFG_SETTLE (n : Nat) : fldKey (SEL_SELd_SWCFG_SETTLE n) = 50331872 + 512 * n := by simp only [fldKey, SEL_SELd_SWCFG_SETTLE]; omega
@[simp] theorem width_SEL_SELd_SWCFG_SETTLE (n : Nat) : fldWidth (SEL_SELd_SWCFG_SETTLE n) = 16 := by simp only [fldWidth, SEL_SELd_SWCFG_SETTLE]
@[simp] theorem key_SEL_SELd_DISCFG_THR (n : Nat) : fldKey (SEL_SELd_DISCFG_THR n) = 50331904 + 512 * n := by simp only [fldKey, SEL_SELd_DISCFG_THR]; omega
@[simp] theorem width_SEL_SELd_DISCFG_THR (n : Nat) : fldWidth (SEL_SELd_DISCFG_THR n) = 24 := by simp only [fldWidth, SEL_SELd_DISCFG_THR]
@[simp] theorem key_SEL_SELd_CTL_DWELL_CLR (n : Nat) : fldKey (SEL_SELd_CTL_DWELL_CLR n) = 50331938 + 512 * n := by simp only [fldKey, SEL_SELd_CTL_DWELL_CLR]; omega
@[simp] theorem width_SEL_SELd_CTL_DWELL_CLR (n : Nat) : fldWidth (SEL_SELd_CTL_DWELL_CLR n) = 1 := by simp only [fldWidth, SEL_SELd_CTL_DWELL_CLR]
@[simp] theorem key_SEL_SELd_CTL_RERUN (n : Nat) : fldKey (SEL_SELd_CTL_RERUN n) = 50331937 + 512 * n := by simp only [fldKey, SEL_SELd_CTL_RERUN]; omega
@[simp] theorem width_SEL_SELd_CTL_RERUN (n : Nat) : fldWidth (SEL_SELd_CTL_RERUN n) = 1 := by simp only [fldWidth, SEL_SELd_CTL_RERUN]
@[simp] theorem key_SEL_SELd_CTL_ABORT (n : Nat) : fldKey (SEL_SELd_CTL_ABORT n) = 50331936 + 512 * n := by simp only [fldKey, SEL_SELd_CTL_ABORT]; omega
@[simp] theorem width_SEL_SELd_CTL_ABORT (n : Nat) : fldWidth (SEL_SELd_CTL_ABORT n) = 1 := by simp only [fldWidth, SEL_SELd_CTL_ABORT]
@[simp] theorem key_SEL_SELd_STAT_ACT_SLOT (n : Nat) : fldKey (SEL_SELd_STAT_ACT_SLOT n) = 50331995 + 512 * n := by simp only [fldKey, SEL_SELd_STAT_ACT_SLOT]; omega
@[simp] theorem width_SEL_SELd_STAT_ACT_SLOT (n : Nat) : fldWidth (SEL_SELd_STAT_ACT_SLOT n) = 5 := by simp only [fldWidth, SEL_SELd_STAT_ACT_SLOT]
@[simp] theorem key_SEL_SELd_STAT_ACT_VALID (n : Nat) : fldKey (SEL_SELd_STAT_ACT_VALID n) = 50331994 + 512 * n := by simp only [fldKey, SEL_SELd_STAT_ACT_VALID]; omega
@[simp] theorem width_SEL_SELd_STAT_ACT_VALID (n : Nat) : fldWidth (SEL_SELd_STAT_ACT_VALID n) = 1 := by simp only [fldWidth, SEL_SELd_STAT_ACT_VALID]
@[simp] theorem key_SEL_SELd_STAT_PEND_SLOT (n : Nat) : fldKey (SEL_SELd_STAT_PEND_SLOT n) = 50331989 + 512 * n := by simp only [fldKey, SEL_SELd_STAT_PEND_SLOT]; omega
@[simp] theorem width_SEL_SELd_STAT_PEND_SLOT (n : Nat) : fldWidth (SEL_SELd_STAT_PEND_SLOT n) = 5 := by simp only [fldWidth, SEL_SELd_STAT_PEND_SLOT]
@[simp] theorem key_SEL_SELd_STAT_STAGE (n : Nat) : fldKey (SEL_SELd_STAT_STAGE n) = 50331986 + 512 * n := by simp only [fldKey, SEL_SELd_STAT_STAGE]; omega
@[simp] theorem width_SEL_SELd_STAT_STAGE (n : Nat) : fldWidth (SEL_SELd_STAT_STAGE n) = 3 := by simp only [fldWidth, SEL_SELd_STAT_STAGE]
@[simp] theorem key_SEL_SELd_STAT_ACT_QL (n : Nat) : fldKey (SEL_SELd_STAT_ACT_QL n) = 50331982 + 512 * n := by simp only [fldKey, SEL_SELd_STAT_ACT_QL]; omega
@[simp] theorem width_SEL_SELd_STAT_ACT_QL (n : Nat) : fldWidth (SEL_SELd_STAT_ACT_QL n) = 4 := by simp only [fldWidth, SEL_SELd_STAT_ACT_QL]
@[simp] theorem key_SEL_SELd_STAT_DWELL_RUN (n : Nat) : fldKey (SEL_SELd_STAT_DWELL_RUN n) = 50331981 + 512 * n := by simp only [fldKey, SEL_SELd_STAT_DWELL_RUN]; omega
@[simp] theorem width_SEL_SELd_STAT_DWELL_RUN (n : Nat) : fldWidth (SEL_SELd_STAT_DWELL_RUN n) = 1 := by simp only [fldWidth, SEL_SELd_STAT_DWELL_RUN]
@[simp] theorem key_SEL_SELd_STAT_DISAGREE (n : Nat) : fldKey (SEL_SELd_STAT_DISAGREE n) = 50331980 + 512 * n := by simp only [fldKey, SEL_SELd_STAT_DISAGREE]; omega
@[simp] theorem width_SEL_SELd_STAT_DISAGREE (n : Nat) : fldWidth (SEL_SELd_STAT_DISAGREE n) = 1 := by simp only [fldWidth, SEL_SELd_STAT_DISAGREE]
@[simp] theorem key_SEL_SELd_STAT_LAST_OUT (n : Nat) : fldKey (SEL_SELd_STAT_LAST_OUT n) = 50331976 + 512 * n := by simp only [fldKey, SEL_SELd_STAT_LAST_OUT]; omega
@[simp] theorem width_SEL_SELd_STAT_LAST_OUT (n : Nat) : fldWidth (SEL_SELd_STAT_LAST_OUT n) = 4 := by simp only [fldWidth, SEL_SELd_STAT_LAST_OUT]
@[simp] theorem key_SEL_SELd_STAT_LAST_WHY (n : Nat) : fldKey (SEL_SELd_STAT_LAST_WHY n) = 50331972 + 512 * n := by simp only [fldKey, SEL_SELd_STAT_LAST_WHY]; omega
@[simp] theorem width_SEL_SELd_STAT_LAST_WHY (n : Nat) : fldWidth (SEL_SELd_STAT_LAST_WHY n) = 4 := by simp only [fldWidth, SEL_SELd_STAT_LAST_WHY]
@[simp] theorem key_SEL_SELd_EVT_NOREF (n : Nat) : fldKey (SEL_SELd_EVT_NOREF n) = 50332005 + 512 * n := by simp only [fldKey, SEL_SELd_EVT_NOREF]; omega
@[simp] theorem width_SEL_SELd_EVT_NOREF (n : Nat) : fldWidth (SEL_SELd_EVT_NOREF n) = 1 := by simp only [fldWidth, SEL_SELd_EVT_NOREF]
@[simp] theorem key_SEL_SELd_EVT_DISAGREE (n : Nat) : fldKey (SEL_SELd_EVT_DISAGREE n) = 50332004 + 512 * n := by simp only [fldKey, SEL_SELd_EVT_DISAGREE]; omega
@[simp] theorem width_SEL_SELd_EVT_DISAGREE (n : Nat) : fldWidth (SEL_SELd_EVT_DISAGREE n) = 1 := by simp only [fldWidth, SEL_SELd_EVT_DISAGREE]
@[simp] theorem key_SEL_SELd_EVT_ABANDON (n : Nat) : fldKey (SEL_SELd_EVT_ABANDON n) = 50332003 + 512 * n := by simp only [fldKey, SEL_SELd_EVT_ABANDON]; omega
@[simp] theorem width_SEL_SELd_EVT_ABANDON (n : Nat) : fldWidth (SEL_SELd_EVT_ABANDON n) = 1 := by simp only [fldWidth, SEL_SELd_EVT_ABANDON]
@[simp] theorem key_SEL_SELd_EVT_COMMIT (n : Nat) : fldKey (SEL_SELd_EVT_COMMIT n) = 50332002 + 512 * n := by simp only [fldKey, SEL_SELd_EVT_COMMIT]; omega
@[simp] theorem width_SEL_SELd_EVT_COMMIT (n : Nat) : fldWidth (SEL_SELd_EVT_COMMIT n) = 1 := by simp only [fldWidth, SEL_SELd_EVT_COMMIT]
@[simp] theorem key_SEL_SELd_EVT_SETTLED (n : Nat) : fldKey (SEL_SELd_EVT_SETTLED n) = 50332001 + 512 * n := by simp only [fldKey, SEL_SELd_EVT_SETTLED]; omega
@[simp] theorem width_SEL_SELd_EVT_SETTLED (n : Nat) : fldWidth (SEL_SELd_EVT_SETTLED n) = 1 := by simp only [fldWidth, SEL_SELd_EVT_SETTLED]
@[simp] theorem key_SEL_SELd_EVT_BEGIN (n : Nat) : fldKey (SEL_SELd_EVT_BEGIN n) = 50332000 + 512 * n := by simp only [fldKey, SEL_SELd_EVT_BEGIN]; omega
@[simp] theorem width_SEL_SELd_EVT_BEGIN (n : Nat) : fldWidth (SEL_SELd_EVT_BEGIN n) = 1 := by simp only [fldWidth, SEL_SELd_EVT_BEGIN]
@[simp] theorem key_SEL_SELd_EVT_EN_EN (n : Nat) : fldKey (SEL_SELd_EVT_EN_EN n) = 50332032 + 512 * n := by simp only [fldKey, SEL_SELd_EVT_EN_EN]; omega
@[simp] theorem width_SEL_SELd_EVT_EN_EN (n : Nat) : fldWidth (SEL_SELd_EVT_EN_EN n) = 32 := by simp only [fldWidth, SEL_SELd_EVT_EN_EN]
@[simp] theorem key_SEL_SELd_PBO_LO_B (n : Nat) : fldKey (SEL_SELd_PBO_LO_B n) = 50332064 + 512 * n := by simp only [fldKey, SEL_SELd_PBO_LO_B]; omega
@[simp] theorem width_SEL_SELd_PBO_LO_B (n : Nat) : fldWidth (SEL_SELd_PBO_LO_B n) = 32 := by simp only [fldWidth, SEL_SELd_PBO_LO_B]
@[simp] theorem key_SEL_SELd_PBO_HI_B (n : Nat) : fldKey (SEL_SELd_PBO_HI_B n) = 50332096 + 512 * n := by simp only [fldKey, SEL_SELd_PBO_HI_B]; omega
@[simp] theorem width_SEL_SELd_PBO_HI_B (n : Nat) : fldWidth (SEL_SELd_PBO_HI_B n) = 32 := by simp only [fldWidth, SEL_SELd_PBO_HI_B]
@[simp] theorem key_SEL_SELd_DIS_SLOT_A (n : Nat) : fldKey (SEL_SELd_DIS_SLOT_A n) = 50332155 + 512 * n := by simp only [fldKey, SEL_SELd_DIS_SLOT_A]; omega
@[simp] theorem width_SEL_SELd_DIS_SLOT_A (n : Nat) : fldWidth (SEL_SELd_DIS_SLOT_A n) = 5 := by simp only [fldWidth, SEL_SELd_DIS_SLOT_A]
@[simp] theorem key_SEL_SELd_DIS_SLOT_B (n : Nat) : fldKey (SEL_SELd_DIS_SLOT_B n) = 50332150 + 512 * n := by simp only [fldKey, SEL_SELd_DIS_SLOT_B]; omega
@[simp] theorem width_SEL_SELd_DIS_SLOT_B (n : Nat) : fldWidth (SEL_SELd_DIS_SLOT_B n) = 5 := by simp only [fldWidth, SEL_SELd_DIS_SLOT_B]
@[simp] theorem key_SEL_SELd_DIS_THIRD (n : Nat) : fldKey (SEL_SELd_DIS_THIRD n) = 50332145 + 512 * n := by simp only [fldKey, SEL_SELd_DIS_THIRD]; omega
@[simp] theorem width_SEL_SELd_DIS_THIRD (n : Nat) : fldWidth (SEL_SELd_DIS_THIRD n) = 5 := by simp only [fldWidth, SEL_SELd_DIS_THIRD]
@[simp] theorem key_SEL_SELd_DIS_THIRD_VALID (n : Nat) : fldKey (SEL_SELd_DIS_THIRD_VALID n) = 50332144 + 512 * n := by simp only [fldKey, SEL_SELd_DIS_THIRD_VALID]; omega
@[simp] theorem width_SEL_SELd_DIS_THIRD_VALID (n : Nat) : fldWidth (SEL_SELd_DIS_THIRD_VALID n) = 1 := by simp only [fldWidth, SEL_SELd_DIS_THIRD_VALID]
@[simp] theorem key_SEL_SELd_DIS_RULE (n : Nat) : fldKey (SEL_SELd_DIS_RULE n) = 50332140 + 512 * n := by simp only [fldKey, SEL_SELd_DIS_RULE]; omega
@[simp] theorem width_SEL_SELd_DIS_RULE (n : Nat) : fldWidth (SEL_SELd_DIS_RULE n) = 4 := by simp only [fldWidth, SEL_SELd_DIS_RULE]
@[simp] theorem key_SEL_FEST_CFG_WIN : fldKey SEL_FEST_CFG_WIN = 50335744 := by simp only [fldKey, SEL_FEST_CFG_WIN]
@[simp] theorem width_SEL_FEST_CFG_WIN : fldWidth SEL_FEST_CFG_WIN = 4 := by simp only [fldWidth, SEL_FEST_CFG_WIN]
@[simp] theorem key_SEL_FEST_IDX_SLOT : fldKey SEL_FEST_IDX_SLOT = 50335776 := by simp only [fldKey, SEL_FEST_IDX_SLOT]
@[simp] theorem width_SEL_FEST_IDX_SLOT : fldWidth SEL_FEST_IDX_SLOT = 5 := by simp only [fldWidth, SEL_FEST_IDX_SLOT]
@[simp] theorem key_SEL_FEST_LO_F : fldKey SEL_FEST_LO_F = 50335808 := by simp only [fldKey, SEL_FEST_LO_F]
@[simp] theorem width_SEL_FEST_LO_F : fldWidth SEL_FEST_LO_F = 32 := by simp only [fldWidth, SEL_FEST_LO_F]
@[simp] theorem key_SEL_FEST_HI_VALID : fldKey SEL_FEST_HI_VALID = 50335871 := by simp only [fldKey, SEL_FEST_HI_VALID]
@[simp] theorem width_SEL_FEST_HI_VALID : fldWidth SEL_FEST_HI_VALID = 1 := by simp only [fldWidth, SEL_FEST_HI_VALID]
@[simp] theorem key_SEL_FEST_HI_F : fldKey SEL_FEST_HI_F = 50335840 := by simp only [fldKey, SEL_FEST_HI_F]
@[simp] theorem width_SEL_FEST_HI_F : fldWidth SEL_FEST_HI_F = 16 := by simp only [fldWidth, SEL_FEST_HI_F]
@[simp] theorem key_SEL_IRQ_DPLL : fldKey SEL_IRQ_DPLL = 50335872 := by simp only [fldKey, SEL_IRQ_DPLL]
@[simp] theorem width_SEL_IRQ_DPLL : fldWidth SEL_IRQ_DPLL = 8 := by simp only [fldWidth, SEL_IRQ_DPLL]
@[simp] theorem key_SEL_DPLLd_CFG_BW (n : Nat) : fldKey (SEL_DPLLd_CFG_BW n) = 50339866 + 1024 * n := by simp only [fldKey, SEL_DPLLd_CFG_BW]; omega
@[simp] theorem width_SEL_DPLLd_CFG_BW (n : Nat) : fldWidth (SEL_DPLLd_CFG_BW n) = 6 := by simp only [fldWidth, SEL_DPLLd_CFG_BW]
@[simp] theorem key_SEL_DPLLd_CFG_ACQ_BW (n : Nat) : fldKey (SEL_DPLLd_CFG_ACQ_BW n) = 50339860 + 1024 * n := by simp only [fldKey, SEL_DPLLd_CFG_ACQ_BW]; omega
@[simp] theorem width_SEL_DPLLd_CFG_ACQ_BW (n : Nat) : fldWidth (SEL_DPLLd_CFG_ACQ_BW n) = 6 := by simp only [fldWidth, SEL_DPLLd_CFG_ACQ_BW]
@[simp] theorem key_SEL_DPLLd_CFG_ACQ_EN (n : Nat) : fldKey (SEL_DPLLd_CFG_ACQ_EN n) = 50339859 + 1024 * n := by simp only [fldKey, SEL_DPLLd_CFG_ACQ_EN]; omega
@[simp] theorem width_SEL_DPLLd_CFG_ACQ_EN (n : Nat) : fldWidth (SEL_DPLLd_CFG_ACQ_EN n) = 1 := by simp only [fldWidth, SEL_DPLLd_CFG_ACQ_EN]
@[simp] theorem key_SEL_DPLLd_CFG_DAMP (n : Nat) : fldKey (SEL_DPLLd_CFG_DAMP n) = 50339857 + 1024 * n := by simp only [fldKey, SEL_DPLLd_CFG_DAMP]; omega
@[simp] theorem width_SEL_DPLLd_CFG_DAMP (n : Nat) : fldWidth (SEL_DPLLd_CFG_DAMP n) = 2 := by simp only [fldWidth, SEL_DPLLd_CFG_DAMP]
@[simp] theorem key_SEL_DPLLd_CFG_PSL (n : Nat) : fldKey (SEL_DPLLd_CFG_PSL n) = 50339840 + 1024 * n := by simp only [fldKey, SEL_DPLLd_CFG_PSL]; omega
@[simp] theorem width_SEL_DPLLd_CFG_PSL (n : Nat) : fldWidth (SEL_DPLLd_CFG_PSL n) = 16 := by simp only [fldWidth, SEL_DPLLd_CFG_PSL]
@[simp] theorem key_SEL_DPLLd_FLIM_FLIM (n : Nat) : fldKey (SEL_DPLLd_FLIM_FLIM n) = 50339872 + 1024 * n := by simp only [fldKey, SEL_DPLLd_FLIM_FLIM]; omega
@[simp] theorem width_SEL_DPLLd_FLIM_FLIM (n : Nat) : fldWidth (SEL_DPLLd_FLIM_FLIM n) = 24 := by simp only [fldWidth, SEL_DPLLd_FLIM_FLIM]
@[simp] theorem key_SEL_DPLLd_LOCK_LOCK_N (n : Nat) : fldKey (SEL_DPLLd_LOCK_LOCK_N n) = 50339920 + 1024 * n := by simp only [fldKey, SEL_DPLLd_LOCK_LOCK_N]; omega
@[simp] theorem width_SEL_DPLLd_LOCK_LOCK_N (n : Nat) : fldWidth (SEL_DPLLd_LOCK_LOCK_N n) = 16 := by simp only [fldWidth, SEL_DPLLd_LOCK_LOCK_N]
@[simp] theorem key_SEL_DPLLd_LOCK_UN (n : Nat) : fldKey (SEL_DPLLd_LOCK_UN n) = 50339912 + 1024 * n := by simp only [fldKey, SEL_DPLLd_LOCK_UN]; omega
@[simp] theorem width_SEL_DPLLd_LOCK_UN (n : Nat) : fldWidth (SEL_DPLLd_LOCK_UN n) = 8 := by simp only [fldWidth, SEL_DPLLd_LOCK_UN]
@[simp] theorem key_SEL_DPLLd_LOCKW_W (n : Nat) : fldKey (SEL_DPLLd_LOCKW_W n) = 50339936 + 1024 * n := by simp only [fldKey, SEL_DPLLd_LOCKW_W]; omega
@[simp] theorem width_SEL_DPLLd_LOCKW_W (n : Nat) : fldWidth (SEL_DPLLd_LOCKW_W n) = 24 := by simp only [fldWidth, SEL_DPLLd_LOCKW_W]
@[simp] theorem key_SEL_DPLLd_HOCFG_AVG (n : Nat) : fldKey (SEL_DPLLd_HOCFG_AVG n) = 50339996 + 1024 * n := by simp only [fldKey, SEL_DPLLd_HOCFG_AVG]; omega
@[simp] theorem width_SEL_DPLLd_HOCFG_AVG (n : Nat) : fldWidth (SEL_DPLLd_HOCFG_AVG n) = 4 := by simp only [fldWidth, SEL_DPLLd_HOCFG_AVG]
@[simp] theorem key_SEL_DPLLd_HOCFG_GUARD (n : Nat) : fldKey (SEL_DPLLd_HOCFG_GUARD n) = 50339992 + 1024 * n := by simp only [fldKey, SEL_DPLLd_HOCFG_GUARD]; omega
@[simp] theorem width_SEL_DPLLd_HOCFG_GUARD (n : Nat) : fldWidth (SEL_DPLLd_HOCFG_GUARD n) = 4 := by simp only [fldWidth, SEL_DPLLd_HOCFG_GUARD]
@[simp] theorem key_SEL_DPLLd_HOCFG_GACT (n : Nat) : fldKey (SEL_DPLLd_HOCFG_GACT n) = 50339990 + 1024 * n := by simp only [fldKey, SEL_DPLLd_HOCFG_GACT]; omega
@[simp] theorem width_SEL_DPLLd_HOCFG_GACT (n : Nat) : fldWidth (SEL_DPLLd_HOCFG_GACT n) = 2 := by simp only [fldWidth, SEL_DPLLd_HOCFG_GACT]
@[simp] theorem key_SEL_DPLLd_HOCFG_LEARN (n : Nat) : fldKey (SEL_DPLLd_HOCFG_LEARN n) = 50339989 + 1024 * n := by simp only [fldKey, SEL_DPLLd_HOCFG_LEARN]; omega
@[simp] theorem width_SEL_DPLLd_HOCFG_LEARN (n : Nat) : fldWidth (SEL_DPLLd_HOCFG_LEARN n) = 1 := by simp only [fldWidth, SEL_DPLLd_HOCFG_LEARN]
@[simp] theorem key_SEL_DPLLd_HOCFG_MODEL_USE (n : Nat) : fldKey (SEL_DPLLd_HOCFG_MODEL_USE n) = 50339988 + 1024 * n := by simp only [fldKey, SEL_DPLLd_HOCFG_MODEL_USE]; omega
@[simp] theorem width_SEL_DPLLd_HOCFG_MODEL_USE (n : Nat) : fldWidth (SEL_DPLLd_HOCFG_MODEL_USE n) = 1 := by simp only [fldWidth, SEL_DPLLd_HOCFG_MODEL_USE]
@[simp] theorem key_SEL_DPLLd_HOCFG_HO_DLY (n : Nat) : fldKey (SEL_DPLLd_HOCFG_HO_DLY n) = 50339968 + 1024 * n := by simp only [fldKey, SEL_DPLLd_HOCFG_HO_DLY]; omega
@[simp] theorem width_SEL_DPLLd_HOCFG_HO_DLY (n : Nat) : fldWidth (SEL_DPLLd_HOCFG_HO_DLY n) = 16 := by simp only [fldWidth, SEL_DPLLd_HOCFG_HO_DLY]
@[simp] theorem key_SEL_DPLLd_MODCFG_MODEL_MIN (n : Nat) : fldKey (SEL_DPLLd_MODCFG_MODEL_MIN n) = 50340016 + 1024 * n := by simp only [fldKey, SEL_DPLLd_MODCFG_MODEL_MIN]; omega
@[simp] theorem width_SEL_DPLLd_MODCFG_MODEL_MIN (n : Nat) : fldWidth (SEL_DPLLd_MODCFG_MODEL_MIN n) = 16 := by simp only [fldWidth, SEL_DPLLd_MODCFG_MODEL_MIN]
@[simp] theorem key_SEL_DPLLd_MODCFG_RES_MAX (n : Nat) : fldKey (SEL_DPLLd_MODCFG_RES_MAX n) = 50340000 + 1024 * n := by simp only [fldKey, SEL_DPLLd_MODCFG_RES_MAX]; omega
@[simp] theorem width_SEL_DPLLd_MODCFG_RES_MAX (n : Nat) : fldWidth (SEL_DPLLd_MODCFG_RES_MAX n) = 16 := by simp only [fldWidth, SEL_DPLLd_MODCFG_RES_MAX]
@[simp] theorem key_SEL_DPLLd_TEMAX_TEMAX (n : Nat) : fldKey (SEL_DPLLd_TEMAX_TEMAX n) = 50340032 + 1024 * n := by simp only [fldKey, SEL_DPLLd_TEMAX_TEMAX]; omega
@[simp] theorem width_SEL_DPLLd_TEMAX_TEMAX (n : Nat) : fldWidth (SEL_DPLLd_TEMAX_TEMAX n) = 32 := by simp only [fldWidth, SEL_DPLLd_TEMAX_TEMAX]
@[simp] theorem key_SEL_DPLLd_GTOL_GTOL (n : Nat) : fldKey (SEL_DPLLd_GTOL_GTOL n) = 50340064 + 1024 * n := by simp only [fldKey, SEL_DPLLd_GTOL_GTOL]; omega
@[simp] theorem width_SEL_DPLLd_GTOL_GTOL (n : Nat) : fldWidth (SEL_DPLLd_GTOL_GTOL n) = 16 := by simp only [fldWidth, SEL_DPLLd_GTOL_GTOL]
@[simp] theorem key_SEL_DPLLd_PSTEP_LO_P (n : Nat) : fldKey (SEL_DPLLd_PSTEP_LO_P n) = 50340096 + 1024 * n := by simp only [fldKey, SEL_DPLLd_PSTEP_LO_P]; omega
@[simp] theorem width_SEL_DPLLd_PSTEP_LO_P (n : Nat) : fldWidth (SEL_DPLLd_PSTEP_LO_P n) = 32 := by simp only [fldWidth, SEL_DPLLd_PSTEP_LO_P]
@[simp] theorem key_SEL_DPLLd_PSTEP_HI_MODE (n : Nat) : fldKey (SEL_DPLLd_PSTEP_HI_MODE n) = 50340158 + 1024 * n := by simp only [fldKey, SEL_DPLLd_PSTEP_HI_MODE]; omega
@[simp] theorem width_SEL_DPLLd_PSTEP_HI_MODE (n : Nat) : fldWidth (SEL_DPLLd_PSTEP_HI_MODE n) = 2 := by simp only [fldWidth, SEL_DPLLd_PSTEP_HI_MODE]
@[simp] theorem key_SEL_DPLLd_PSTEP_HI_P (n : Nat) : fldKey (SEL_DPLLd_PSTEP_HI_P n) = 50340128 + 1024 * n := by simp only [fldKey, SEL_DPLLd_PSTEP_HI_P]; omega
@[simp] theorem width_SEL_DPLLd_PSTEP_HI_P (n : Nat) : fldWidth (SEL_DPLLd_PSTEP_HI_P n) = 16 := by simp only [fldWidth, SEL_DPLLd_PSTEP_HI_P]
@[simp] theorem key_SEL_DPLLd_SLEW_SLEW (n : Nat) : fldKey (SEL_DPLLd_SLEW_SLEW n) = 50340160 + 1024 * n := by simp only [fldKey, SEL_DPLLd_SLEW_SLEW]; omega
@[simp] theorem width_SEL_DPLLd_SLEW_SLEW (n : Nat) : fldWidth (SEL_DPLLd_SLEW_SLEW n) = 16 := by simp only [fldWidth, SEL_DPLLd_SLEW_SLEW]
@[simp] theorem key_SEL_DPLLd_FRW_LO_FR_WORD (n : Nat) : fldKey (SEL_DPLLd_FRW_LO_FR_WORD n) = 50340192 + 1024 * n := by simp only [fldKey, SEL_DPLLd_FRW_LO_FR_WORD]; omega
@[simp] theorem width_SEL_DPLLd_FRW_LO_FR_WORD (n : Nat) : fldWidth (SEL_DPLLd_FRW_LO_FR_WORD n) = 32 := by simp only [fldWidth, SEL_DPLLd_FRW_LO_FR_WORD]
@[simp] theorem key_SEL_DPLLd_FRW_HI_FR_WORD (n : Nat) : fldKey (SEL_DPLLd_FRW_HI_FR_WORD n) = 50340224 + 1024 * n := by simp only [fldKey, SEL_DPLLd_FRW_HI_FR_WORD]; omega
@[simp] theorem width_SEL_DPLLd_FRW_HI_FR_WORD (n : Nat) : fldWidth (SEL_DPLLd_FRW_HI_FR_WORD n) = 16 := by simp only [fldWidth, SEL_DPLLd_FRW_HI_FR_WORD]
@[simp] theorem key_SEL_DPLLd_CTL_MODEL_CLR (n : Nat) : fldKey (SEL_DPLLd_CTL_MODEL_CLR n) = 50340257 + 1024 * n := by simp only [fldKey, SEL_DPLLd_CTL_MODEL_CLR]; omega
@[simp] theorem width_SEL_DPLLd_CTL_MODEL_CLR (n : Nat) : fldWidth (SEL_DPLLd_CTL_MODEL_CLR n) = 1 := by simp only [fldWidth, SEL_DPLLd_CTL_MODEL_CLR]
@[simp] theorem key_SEL_DPLLd_CTL_SLEW_CANCEL (n : Nat) : fldKey (SEL_DPLLd_CTL_SLEW_CANCEL n) = 50340256 + 1024 * n := by simp only [fldKey, SEL_DPLLd_CTL_SLEW_CANCEL]; omega
@[simp] theorem width_SEL_DPLLd_CTL_SLEW_CANCEL (n : Nat) : fldWidth (SEL_DPLLd_CTL_SLEW_CANCEL n) = 1 := by simp only [fldWidth, SEL_DPLLd_CTL_SLEW_CANCEL]
@[simp] theorem key_SEL_DPLLd_STAT_STATE (n : Nat) : fldKey (SEL_DPLLd_STAT_STATE n) = 50340318 + 1024 * n := by simp only [fldKey, SEL_DPLLd_STAT_STATE]; omega
@[simp] theorem width_SEL_DPLLd_STAT_STATE (n : Nat) : fldWidth (SEL_DPLLd_STAT_STATE n) = 2 := by simp only [fldWidth, SEL_DPLLd_STAT_STATE]
@[simp] theorem key_SEL_DPLLd_STAT_BRIDGE (n : Nat) : fldKey (SEL_DPLLd_STAT_BRIDGE n) = 50340317 + 1024 * n := by simp only [fldKey, SEL_DPLLd_STAT_BRIDGE]; omega
@[simp] theorem width_SEL_DPLLd_STAT_BRIDGE (n : Nat) : fldWidth (SEL_DPLLd_STAT_BRIDGE n) = 1 := by simp only [fldWidth, SEL_DPLLd_STAT_BRIDGE]
@[simp] theorem key_SEL_DPLLd_STAT_BW_CLAMP (n : Nat) : fldKey (SEL_DPLLd_STAT_BW_CLAMP n) = 50340316 + 1024 * n := by simp only [fldKey, SEL_DPLLd_STAT_BW_CLAMP]; omega
@[simp] theorem width_SEL_DPLLd_STAT_BW_CLAMP (n : Nat) : fldWidth (SEL_DPLLd_STAT_BW_CLAMP n) = 1 := by simp only [fldWidth, SEL_DPLLd_STAT_BW_CLAMP]
@[simp] theorem key_SEL_DPLLd_STAT_FSAT (n : Nat) : fldKey (SEL_DPLLd_STAT_FSAT n) = 50340315 + 1024 * n := by simp only [fldKey, SEL_DPLLd_STAT_FSAT]; omega
@[simp] theorem width_SEL_DPLLd_STAT_FSAT (n : Nat) : fldWidth (SEL_DPLLd_STAT_FSAT n) = 1 := by simp only [fldWidth, SEL_DPLLd_STAT_FSAT]
@[simp] theorem key_SEL_DPLLd_STAT_PSL_ACT (n : Nat) : fldKey (SEL_DPLLd_STAT_PSL_ACT n) = 50340314 + 1024 * n := by simp only [fldKey, SEL_DPLLd_STAT_PSL_ACT]; omega
@[simp] theorem width_SEL_DPLLd_STAT_PSL_ACT (n : Nat) : fldWidth (SEL_DPLLd_STAT_PSL_ACT n) = 1 := by simp only [fldWidth, SEL_DPLLd_STAT_PSL_ACT]
@[simp] theorem key_SEL_DPLLd_STAT_IN_SPEC (n : Nat) : fldKey (SEL_DPLLd_STAT_IN_SPEC n) = 50340313 + 1024 * n := by simp only [fldKey, SEL_DPLLd_STAT_IN_SPEC]; omega
@[simp] theorem width_SEL_DPLLd_STAT_IN_SPEC (n : Nat) : fldWidth (SEL_DPLLd_STAT_IN_SPEC n) = 1 := by simp only [fldWidth, SEL_DPLLd_STAT_IN_SPEC]
@[simp] theorem key_SEL_DPLLd_STAT_MODEL_VALID (n : Nat) : fldKey (SEL_DPLLd_STAT_MODEL_VALID n) = 50340312 + 1024 * n := by simp only [fldKey, SEL_DPLLd_STAT_MODEL_VALID]; omega
@[simp] theorem width_SEL_DPLLd_STAT_MODEL_VALID (n : Nat) : fldWidth (SEL_DPLLd_STAT_MODEL_VALID n) = 1 := by simp only [fldWidth, SEL_DPLLd_STAT_MODEL_VALID]
@[simp] theorem key_SEL_DPLLd_STAT_RESTORED (n : Nat) : fldKey (SEL_DPLLd_STAT_RESTORED n) = 50340311 + 1024 * n := by simp only [fldKey, SEL_DPLLd_STAT_RESTORED]; omega
@[simp] theorem width_SEL_DPLLd_STAT_RESTORED (n : Nat) : fldWidth (SEL_DPLLd_STAT_RESTORED n) = 1 := by simp only [fldWidth, SEL_DPLLd_STAT_RESTORED]
@[simp] theorem key_SEL_DPLLd_STAT_SANITY_ACT (n : Nat) : fldKey (SEL_DPLLd_STAT_SANITY_ACT n) = 50340310 + 1024 * n := by simp only [fldKey, SEL_DPLLd_STAT_SANITY_ACT]; omega
@[simp] theorem width_SEL_DPLLd_STAT_SANITY_ACT (n : Nat) : fldWidth (SEL_DPLLd_STAT_SANITY_ACT n) = 1 := by simp only [fldWidth, SEL_DPLLd_STAT_SANITY_ACT]
@[simp] theorem key_SEL_DPLLd_STAT_SANITY_FAIL (n : Nat) : fldKey (SEL_DPLLd_STAT_SANITY_FAIL n) = 50340309 + 1024 * n := by simp only [fldKey, SEL_DPLLd_STAT_SANITY_FAIL]; omega
@[simp] theorem width_SEL_DPLLd_STAT_SANITY_FAIL (n : Nat) : fldWidth (SEL_DPLLd_STAT_SANITY_FAIL n) = 1 := by simp only [fldWidth, SEL_DPLLd_STAT_SANITY_FAIL]
@[simp] theorem key_SEL_DPLLd_STAT_SLEWING (n : Nat) : fldKey (SEL_DPLLd_STAT_SLEWING n) = 50340308 + 1024 * n := by simp only [fldKey, SEL_DPLLd_STAT_SLEWING]; omega
@[simp] theorem width_SEL_DPLLd_STAT_SLEWING (n : Nat) : fldWidth (SEL_DPLLd_STAT_SLEWING n) = 1 := by simp only [fldWidth, SEL_DPLLd_STAT_SLEWING]
@[simp] theorem key_SEL_DPLLd_STAT_TERMS (n : Nat) : fldKey (SEL_DPLLd_STAT_TERMS n) = 50340304 + 1024 * n := by simp only [fldKey, SEL_DPLLd_STAT_TERMS]; omega
@[simp] theorem width_SEL_DPLLd_STAT_TERMS (n : Nat) : fldWidth (SEL_DPLLd_STAT_TERMS n) = 4 := by simp only [fldWidth, SEL_DPLLd_STAT_TERMS]
@[simp] theorem key_SEL_DPLLd_STAT_LOCKCNT (n : Nat) : fldKey (SEL_DPLLd_STAT_LOCKCNT n) = 50340288 + 1024 * n := by simp only [fldKey, SEL_DPLLd_STAT_LOCKCNT]; omega
@[simp] theorem width_SEL_DPLLd_STAT_LOCKCNT (n : Nat) : fldWidth (SEL_DPLLd_STAT_LOCKCNT n) = 16 := by simp only [fldWidth, SEL_DPLLd_STAT_LOCKCNT]
@[simp] theorem key_SEL_DPLLd_EVT_SANITY (n : Nat) : fldKey (SEL_DPLLd_EVT_SANITY n) = 50340326 + 1024 * n := by simp only [fldKey, SEL_DPLLd_EVT_SANITY]; omega
@[simp] theorem width_SEL_DPLLd_EVT_SANITY (n : Nat) : fldWidth (SEL_DPLLd_EVT_SANITY n) = 1 := by simp only [fldWidth, SEL_DPLLd_EVT_SANITY]
@[simp] theorem key_SEL_DPLLd_EVT_SPEC_LOST (n : Nat) : fldKey (SEL_DPLLd_EVT_SPEC_LOST n) = 50340325 + 1024 * n := by simp only [fldKey, SEL_DPLLd_EVT_SPEC_LOST]; omega
@[simp] theorem width_SEL_DPLLd_EVT_SPEC_LOST (n : Nat) : fldWidth (SEL_DPLLd_EVT_SPEC_LOST n) = 1 := by simp only [fldWidth, SEL_DPLLd_EVT_SPEC_LOST]
@[simp] theorem key_SEL_DPLLd_EVT_FSAT (n : Nat) : fldKey (SEL_DPLLd_EVT_FSAT n) = 50340324 + 1024 * n := by simp only [fldKey, SEL_DPLLd_EVT_FSAT]; omega
@[simp] theorem width_SEL_DPLLd_EVT_FSAT (n : Nat) : fldWidth (SEL_DPLLd_EVT_FSAT n) = 1 := by simp only [fldWidth, SEL_DPLLd_EVT_FSAT]
@[simp] theorem key_SEL_DPLLd_EVT_HOLDOVER (n : Nat) : fldKey (SEL_DPLLd_EVT_HOLDOVER n) = 50340323 + 1024 * n := by simp only [fldKey, SEL_DPLLd_EVT_HOLDOVER]; omega
@[simp] theorem width_SEL_DPLLd_EVT_HOLDOVER (n : Nat) : fldWidth (SEL_DPLLd_EVT_HOLDOVER n) = 1 := by simp only [fldWidth, SEL_DPLLd_EVT_HOLDOVER]
@[simp] theorem key_SEL_DPLLd_EVT_UNLOCK (n : Nat) : fldKey (SEL_DPLLd_EVT_UNLOCK n) = 50340322 + 1024 * n := by simp only [fldKey, SEL_DPLLd_EVT_UNLOCK]; omega
@[simp] theorem width_SEL_DPLLd_EVT_UNLOCK (n : Nat) : fldWidth (SEL_DPLLd_EVT_UNLOCK n) = 1 := by simp only [fldWidth, SEL_DPLLd_EVT_UNLOCK]
@[simp] theorem key_SEL_DPLLd_EVT_LOCK (n : Nat) : fldKey (SEL_DPLLd_EVT_LOCK n) = 50340321 + 1024 * n := by simp only [fldKey, SEL_DPLLd_EVT_LOCK]; omega
@[simp] theorem width_SEL_DPLLd_EVT_LOCK (n : Nat) : fldWidth (SEL_DPLLd_EVT_LOCK n) = 1 := by simp only [fldWidth, SEL_DPLLd_EVT_LOCK]
@[simp] theorem key_SEL_DPLLd_EVT_STEP_DONE (n : Nat) : fldKey (SEL_DPLLd_EVT_STEP_DONE n) = 50340320 + 1024 * n := by simp only [fldKey, SEL_DPLLd_EVT_STEP_DONE]; omega
@[simp] theorem width_SEL_DPLLd_EVT_STEP_DONE (n : Nat) : fldWidth (SEL_DPLLd_EVT_STEP_DONE n) = 1 := by simp only [fldWidth, SEL_DPLLd_EVT_STEP_DONE]
@[simp] theorem key_SEL_DPLLd_EVT_EN_EN (n : Nat) : fldKey (SEL_DPLLd_EVT_EN_EN n) = 50340352 + 1024 * n := by simp only [fldKey, SEL_DPLLd_EVT_EN_EN]; omega
@[simp] theorem width_SEL_DPLLd_EVT_EN_EN (n : Nat) : fldWidth (SEL_DPLLd_EVT_EN_EN n) = 32 := by simp only [fldWidth, SEL_DPLLd_EVT_EN_EN]
@[simp] theorem key_SEL_DPLLd_FREQ_LO_W (n : Nat) : fldKey (SEL_DPLLd_FREQ_LO_W n) = 50340384 + 1024 * n := by simp only [fldKey, SEL_DPLLd_FREQ_LO_W]; omega
@[simp] theorem width_SEL_DPLLd_FREQ_LO_W (n : Nat) : fldWidth (SEL_DPLLd_FREQ_LO_W n) = 32 := by simp only [fldWidth, SEL_DPLLd_FREQ_LO_W]
@[simp] theorem key_SEL_DPLLd_FREQ_HI_W (n : Nat) : fldKey (SEL_DPLLd_FREQ_HI_W n) = 50340416 + 1024 * n := by simp only [fldKey, SEL_DPLLd_FREQ_HI_W]; omega
@[simp] theorem width_SEL_DPLLd_FREQ_HI_W (n : Nat) : fldWidth (SEL_DPLLd_FREQ_HI_W n) = 32 := by simp only [fldWidth, SEL_DPLLd_FREQ_HI_W]
@[simp] theorem key_SEL_DPLLd_PERR_E (n : Nat) : fldKey (SEL_DPLLd_PERR_E n) = 50340448 + 1024 * n := by simp only [fldKey, SEL_DPLLd_PERR_E]; omega
@[simp] theorem width_SEL_DPLLd_PERR_E (n : Nat) : fldWidth (SEL_DPLLd_PERR_E n) = 32 := by simp only [fldWidth, SEL_DPLLd_PERR_E]
@[simp] theorem key_SEL_DPLLd_HOFREQ_LO_WH (n : Nat) : fldKey (SEL_DPLLd_HOFREQ_LO_WH n) = 50340480 + 1024 * n := by simp only [fldKey, SEL_DPLLd_HOFREQ_LO_WH]; omega
@[simp] theorem width_SEL_DPLLd_HOFREQ_LO_WH (n : Nat) : fldWidth (SEL_DPLLd_HOFREQ_LO_WH n) = 32 := by simp only [fldWidth, SEL_DPLLd_HOFREQ_LO_WH]
@[simp] theorem key_SEL_DPLLd_HOFREQ_HI_AVG_VALID (n : Nat) : fldKey (SEL_DPLLd_HOFREQ_HI_AVG_VALID n) = 50340543 + 1024 * n := by simp only [fldKey, SEL_DPLLd_HOFREQ_HI_AVG_VALID]; omega
@[simp] theorem width_SEL_DPLLd_HOFREQ_HI_AVG_VALID (n : Nat) : fldWidth (SEL_DPLLd_HOFREQ_HI_AVG_VALID n) = 1 := by simp only [fldWidth, SEL_DPLLd_HOFREQ_HI_AVG_VALID]
@[simp] theorem key_SEL_DPLLd_HOFREQ_HI_WH (n : Nat) : fldKey (SEL_DPLLd_HOFREQ_HI_WH n) = 50340512 + 1024 * n := by simp only [fldKey, SEL_DPLLd_HOFREQ_HI_WH]; omega
@[simp] theorem width_SEL_DPLLd_HOFREQ_HI_WH (n : Nat) : fldWidth (SEL_DPLLd_HOFREQ_HI_WH n) = 16 := by simp only [fldWidth, SEL_DPLLd_HOFREQ_HI_WH]
@[simp] theorem key_SEL_DPLLd_HOTE_TE (n : Nat) : fldKey (SEL_DPLLd_HOTE_TE n) = 50340544 + 1024 * n := by simp only [fldKey, SEL_DPLLd_HOTE_TE]; omega
@[simp] theorem width_SEL_DPLLd_HOTE_TE (n : Nat) : fldWidth (SEL_DPLLd_HOTE_TE n) = 32 := by simp only [fldWidth, SEL_DPLLd_HOTE_TE]
@[simp] theorem key_SEL_DPLLd_PEND_LO_PEND (n : Nat) : fldKey (SEL_DPLLd_PEND_LO_PEND n) = 50340576 + 1024 * n := by simp only [fldKey, SEL_DPLLd_PEND_LO_PEND]; omega
@[simp] theorem width_SEL_DPLLd_PEND_LO_PEND (n : Nat) : fldWidth (SEL_DPLLd_PEND_LO_PEND n) = 32 := by simp only [fldWidth, SEL_DPLLd_PEND_LO_PEND]
@[simp] theorem key_SEL_DPLLd_PEND_HI_PEND (n : Nat) : fldKey (SEL_DPLLd_PEND_HI_PEND n) = 50340608 + 1024 * n := by simp only [fldKey, SEL_DPLLd_PEND_HI_PEND]; omega
@[simp] theorem width_SEL_DPLLd_PEND_HI_PEND (n : Nat) : fldWidth (SEL_DPLLd_PEND_HI_PEND n) = 32 := by simp only [fldWidth, SEL_DPLLd_PEND_HI_PEND]
@[simp] theorem key_SEL_DPLLd_A0_LO_A0 (n : Nat) : fldKey (SEL_DPLLd_A0_LO_A0 n) = 50340640 + 1024 * n := by simp only [fldKey, SEL_DPLLd_A0_LO_A0]; omega
@[simp] theorem width_SEL_DPLLd_A0_LO_A0 (n : Nat) : fldWidth (SEL_DPLLd_A0_LO_A0 n) = 32 := by simp only [fldWidth, SEL_DPLLd_A0_LO_A0]
@[simp] theorem key_SEL_DPLLd_A0_HI_A0 (n : Nat) : fldKey (SEL_DPLLd_A0_HI_A0 n) = 50340672 + 1024 * n := by simp only [fldKey, SEL_DPLLd_A0_HI_A0]; omega
@[simp] theorem width_SEL_DPLLd_A0_HI_A0 (n : Nat) : fldWidth (SEL_DPLLd_A0_HI_A0 n) = 32 := by simp only [fldWidth, SEL_DPLLd_A0_HI_A0]
@[simp] theorem key_SEL_DPLLd_A1_A1 (n : Nat) : fldKey (SEL_DPLLd_A1_A1 n) = 50340704 + 1024 * n := by simp only [fldKey, SEL_DPLLd_A1_A1]; omega
@[simp] theorem width_SEL_DPLLd_A1_A1 (n : Nat) : fldWidth (SEL_DPLLd_A1_A1 n) = 32 := by simp only [fldWidth, SEL_DPLLd_A1_A1]
@[simp] theorem key_SEL_DPLLd_C1_C1 (n : Nat) : fldKey (SEL_DPLLd_C1_C1 n) = 50340736 + 1024 * n := by simp only [fldKey, SEL_DPLLd_C1_C1]; omega
@[simp] theorem width_SEL_DPLLd_C1_C1 (n : Nat) : fldWidth (SEL_DPLLd_C1_C1 n) = 32 := by simp only [fldWidth, SEL_DPLLd_C1_C1]
@[simp] theorem key_SEL_DPLLd_C2_C2 (n : Nat) : fldKey (SEL_DPLLd_C2_C2 n) = 50340768 + 1024 * n := by simp only [fldKey, SEL_DPLLd_C2_C2]; omega
@[simp] theorem width_SEL_DPLLd_C2_C2 (n : Nat) : fldWidth (SEL_DPLLd_C2_C2 n) = 32 := by simp only [fldWidth, SEL_DPLLd_C2_C2]
@[simp] theorem key_SEL_DPLLd_MSTAT_COUNT (n : Nat) : fldKey (SEL_DPLLd_MSTAT_COUNT n) = 50340821 + 1024 * n := by simp only [fldKey, SEL_DPLLd_MSTAT_COUNT]; omega
@[simp] theorem width_SEL_DPLLd_MSTAT_COUNT (n : Nat) : fldWidth (SEL_DPLLd_MSTAT_COUNT n) = 11 := by simp only [fldWidth, SEL_DPLLd_MSTAT_COUNT]
@[simp] theorem key_SEL_DPLLd_MSTAT_BUCKETS (n : Nat) : fldKey (SEL_DPLLd_MSTAT_BUCKETS n) = 50340816 + 1024 * n := by simp only [fldKey, SEL_DPLLd_MSTAT_BUCKETS]; omega
@[simp] theorem width_SEL_DPLLd_MSTAT_BUCKETS (n : Nat) : fldWidth (SEL_DPLLd_MSTAT_BUCKETS n) = 5 := by simp only [fldWidth, SEL_DPLLd_MSTAT_BUCKETS]
@[simp] theorem key_SEL_DPLLd_MSTAT_RES (n : Nat) : fldKey (SEL_DPLLd_MSTAT_RES n) = 50340800 + 1024 * n := by simp only [fldKey, SEL_DPLLd_MSTAT_RES]; omega
@[simp] theorem width_SEL_DPLLd_MSTAT_RES (n : Nat) : fldWidth (SEL_DPLLd_MSTAT_RES n) = 16 := by simp only [fldWidth, SEL_DPLLd_MSTAT_RES]
@[simp] theorem key_SEL_DPLLd_MREF_THETA_W (n : Nat) : fldKey (SEL_DPLLd_MREF_THETA_W n) = 50340848 + 1024 * n := by simp only [fldKey, SEL_DPLLd_MREF_THETA_W]; omega
@[simp] theorem width_SEL_DPLLd_MREF_THETA_W (n : Nat) : fldWidth (SEL_DPLLd_MREF_THETA_W n) = 16 := by simp only [fldWidth, SEL_DPLLd_MREF_THETA_W]
@[simp] theorem key_SEL_DPLLd_MREF_AGE (n : Nat) : fldKey (SEL_DPLLd_MREF_AGE n) = 50340832 + 1024 * n := by simp only [fldKey, SEL_DPLLd_MREF_AGE]; omega
@[simp] theorem width_SEL_DPLLd_MREF_AGE (n : Nat) : fldWidth (SEL_DPLLd_MREF_AGE n) = 16 := by simp only [fldWidth, SEL_DPLLd_MREF_AGE]
@[simp] theorem key_SEL_TEMP_VALID : fldKey SEL_TEMP_VALID = 50348063 := by simp only [fldKey, SEL_TEMP_VALID]
@[simp] theorem width_SEL_TEMP_VALID : fldWidth SEL_TEMP_VALID = 1 := by simp only [fldWidth, SEL_TEMP_VALID]
@[simp] theorem key_SEL_TEMP_T : fldKey SEL_TEMP_T = 50348032 := by simp only [fldKey, SEL_TEMP_T]
@[simp] theorem width_SEL_TEMP_T : fldWidth SEL_TEMP_T = 18 := by simp only [fldWidth, SEL_TEMP_T]
@[simp] theorem key_SEL_DPLL_IRQ_DPLL : fldKey SEL_DPLL_IRQ_DPLL = 50348064 := by simp only [fldKey, SEL_DPLL_IRQ_DPLL]
@[simp] theorem width_SEL_DPLL_IRQ_DPLL : fldWidth SEL_DPLL_IRQ_DPLL = 8 := by simp only [fldWidth, SEL_DPLL_IRQ_DPLL]
@[simp] theorem key_SYN_SYNk_CFG_EN (n : Nat) : fldKey (SYN_SYNk_CFG_EN n) = 58720287 + 512 * n := by simp only [fldKey, SYN_SYNk_CFG_EN]; omega
@[simp] theorem width_SYN_SYNk_CFG_EN (n : Nat) : fldWidth (SYN_SYNk_CFG_EN n) = 1 := by simp only [fldWidth, SYN_SYNk_CFG_EN]
@[simp] theorem key_SYN_SYNk_CFG_AUTO_REALIGN (n : Nat) : fldKey (SYN_SYNk_CFG_AUTO_REALIGN n) = 58720286 + 512 * n := by simp only [fldKey, SYN_SYNk_CFG_AUTO_REALIGN]; omega
@[simp] theorem width_SYN_SYNk_CFG_AUTO_REALIGN (n : Nat) : fldWidth (SYN_SYNk_CFG_AUTO_REALIGN n) = 1 := by simp only [fldWidth, SYN_SYNk_CFG_AUTO_REALIGN]
@[simp] theorem key_SYN_SYNk_CFG_WRATE (n : Nat) : fldKey (SYN_SYNk_CFG_WRATE n) = 58720256 + 512 * n := by simp only [fldKey, SYN_SYNk_CFG_WRATE]; omega
@[simp] theorem width_SYN_SYNk_CFG_WRATE (n : Nat) : fldWidth (SYN_SYNk_CFG_WRATE n) = 16 := by simp only [fldWidth, SYN_SYNk_CFG_WRATE]
@[simp] theorem key_SYN_SYNk_MULT_REFMODE (n : Nat) : fldKey (SYN_SYNk_MULT_REFMODE n) = 58720318 + 512 * n := by simp only [fldKey, SYN_SYNk_MULT_REFMODE]; omega
@[simp] theorem width_SYN_SYNk_MULT_REFMODE (n : Nat) : fldWidth (SYN_SYNk_MULT_REFMODE n) = 2 := by simp only [fldWidth, SYN_SYNk_MULT_REFMODE]
@[simp] theorem key_SYN_SYNk_MULT_MINT (n : Nat) : fldKey (SYN_SYNk_MULT_MINT n) = 58720288 + 512 * n := by simp only [fldKey, SYN_SYNk_MULT_MINT]; omega
@[simp] theorem width_SYN_SYNk_MULT_MINT (n : Nat) : fldWidth (SYN_SYNk_MULT_MINT n) = 11 := by simp only [fldWidth, SYN_SYNk_MULT_MINT]
@[simp] theorem key_SYN_SYNk_MFRAC_LO_MFRAC (n : Nat) : fldKey (SYN_SYNk_MFRAC_LO_MFRAC n) = 58720320 + 512 * n := by simp only [fldKey, SYN_SYNk_MFRAC_LO_MFRAC]; omega
@[simp] theorem width_SYN_SYNk_MFRAC_LO_MFRAC (n : Nat) : fldWidth (SYN_SYNk_MFRAC_LO_MFRAC n) = 32 := by simp only [fldWidth, SYN_SYNk_MFRAC_LO_MFRAC]
@[simp] theorem key_SYN_SYNk_MFRAC_HI_MFRAC (n : Nat) : fldKey (SYN_SYNk_MFRAC_HI_MFRAC n) = 58720352 + 512 * n := by simp only [fldKey, SYN_SYNk_MFRAC_HI_MFRAC]; omega
@[simp] theorem width_SYN_SYNk_MFRAC_HI_MFRAC (n : Nat) : fldWidth (SYN_SYNk_MFRAC_HI_MFRAC n) = 8 := by simp only [fldWidth, SYN_SYNk_MFRAC_HI_MFRAC]
@[simp] theorem key_SYN_SYNk_FRAME_LO_FRAME (n : Nat) : fldKey (SYN_SYNk_FRAME_LO_FRAME n) = 58720384 + 512 * n := by simp only [fldKey, SYN_SYNk_FRAME_LO_FRAME]; omega
@[simp] theorem width_SYN_SYNk_FRAME_LO_FRAME (n : Nat) : fldWidth (SYN_SYNk_FRAME_LO_FRAME n) = 32 := by simp only [fldWidth, SYN_SYNk_FRAME_LO_FRAME]
@[simp] theorem key_SYN_SYNk_FRAME_HI_FRAME (n : Nat) : fldKey (SYN_SYNk_FRAME_HI_FRAME n) = 58720416 + 512 * n := by simp only [fldKey, SYN_SYNk_FRAME_HI_FRAME]; omega
@[simp] theorem width_SYN_SYNk_FRAME_HI_FRAME (n : Nat) : fldWidth (SYN_SYNk_FRAME_HI_FRAME n) = 8 := by simp only [fldWidth, SYN_SYNk_FRAME_HI_FRAME]
@[simp] theorem key_SYN_SYNk_GLIDE_GLIDE (n : Nat) : fldKey (SYN_SYNk_GLIDE_GLIDE n) = 58720448 + 512 * n := by simp only [fldKey, SYN_SYNk_GLIDE_GLIDE]; omega
@[simp] theorem width_SYN_SYNk_GLIDE_GLIDE (n : Nat) : fldWidth (SYN_SYNk_GLIDE_GLIDE n) = 16 := by simp only [fldWidth, SYN_SYNk_GLIDE_GLIDE]
@[simp] theorem key_SYN_SYNk_CTL_RELOCK (n : Nat) : fldKey (SYN_SYNk_CTL_RELOCK n) = 58720481 + 512 * n := by simp only [fldKey, SYN_SYNk_CTL_RELOCK]; omega
@[simp] theorem width_SYN_SYNk_CTL_RELOCK (n : Nat) : fldWidth (SYN_SYNk_CTL_RELOCK n) = 1 := by simp only [fldWidth, SYN_SYNk_CTL_RELOCK]
@[simp] theorem key_SYN_SYNk_CTL_REALIGN (n : Nat) : fldKey (SYN_SYNk_CTL_REALIGN n) = 58720480 + 512 * n := by simp only [fldKey, SYN_SYNk_CTL_REALIGN]; omega
@[simp] theorem width_SYN_SYNk_CTL_REALIGN (n : Nat) : fldWidth (SYN_SYNk_CTL_REALIGN n) = 1 := by simp only [fldWidth, SYN_SYNk_CTL_REALIGN]
@[simp] theorem key_SYN_SYNk_STAT_STATE (n : Nat) : fldKey (SYN_SYNk_STAT_STATE n) = 58720541 + 512 * n := by simp only [fldKey, SYN_SYNk_STAT_STATE]; omega
@[simp] theorem width_SYN_SYNk_STAT_STATE (n : Nat) : fldWidth (SYN_SYNk_STAT_STATE n) = 3 := by simp only [fldWidth, SYN_SYNk_STAT_STATE]
@[simp] theorem key_SYN_SYNk_STAT_BAND (n : Nat) : fldKey (SYN_SYNk_STAT_BAND n) = 58720533 + 512 * n := by simp only [fldKey, SYN_SYNk_STAT_BAND]; omega
@[simp] theorem width_SYN_SYNk_STAT_BAND (n : Nat) : fldWidth (SYN_SYNk_STAT_BAND n) = 8 := by simp only [fldWidth, SYN_SYNk_STAT_BAND]
@[simp] theorem key_SYN_SYNk_STAT_PH_ALIGNED (n : Nat) : fldKey (SYN_SYNk_STAT_PH_ALIGNED n) = 58720532 + 512 * n := by simp only [fldKey, SYN_SYNk_STAT_PH_ALIGNED]; omega
@[simp] theorem width_SYN_SYNk_STAT_PH_ALIGNED (n : Nat) : fldWidth (SYN_SYNk_STAT_PH_ALIGNED n) = 1 := by simp only [fldWidth, SYN_SYNk_STAT_PH_ALIGNED]
@[simp] theorem key_SYN_SYNk_STAT_CFG_ERR (n : Nat) : fldKey (SYN_SYNk_STAT_CFG_ERR n) = 58720531 + 512 * n := by simp only [fldKey, SYN_SYNk_STAT_CFG_ERR]; omega
@[simp] theorem width_SYN_SYNk_STAT_CFG_ERR (n : Nat) : fldWidth (SYN_SYNk_STAT_CFG_ERR n) = 1 := by simp only [fldWidth, SYN_SYNk_STAT_CFG_ERR]
@[simp] theorem key_SYN_SYNk_STAT_WRATE_ACT (n : Nat) : fldKey (SYN_SYNk_STAT_WRATE_ACT n) = 58720530 + 512 * n := by simp only [fldKey, SYN_SYNk_STAT_WRATE_ACT]; omega
@[simp] theorem width_SYN_SYNk_STAT_WRATE_ACT (n : Nat) : fldWidth (SYN_SYNk_STAT_WRATE_ACT n) = 1 := by simp only [fldWidth, SYN_SYNk_STAT_WRATE_ACT]
@[simp] theorem key_SYN_SYNk_STAT_TDC_ERR (n : Nat) : fldKey (SYN_SYNk_STAT_TDC_ERR n) = 58720512 + 512 * n := by simp only [fldKey, SYN_SYNk_STAT_TDC_ERR]; omega
@[simp] theorem width_SYN_SYNk_STAT_TDC_ERR (n : Nat) : fldWidth (SYN_SYNk_STAT_TDC_ERR n) = 16 := by simp only [fldWidth, SYN_SYNk_STAT_TDC_ERR]
@[simp] theorem key_SYN_SYNk_EVT_SEARCH_FAIL (n : Nat) : fldKey (SYN_SYNk_EVT_SEARCH_FAIL n) = 58720549 + 512 * n := by simp only [fldKey, SYN_SYNk_EVT_SEARCH_FAIL]; omega
@[simp] theorem width_SYN_SYNk_EVT_SEARCH_FAIL (n : Nat) : fldWidth (SYN_SYNk_EVT_SEARCH_FAIL n) = 1 := by simp only [fldWidth, SYN_SYNk_EVT_SEARCH_FAIL]
@[simp] theorem key_SYN_SYNk_EVT_FROZEN (n : Nat) : fldKey (SYN_SYNk_EVT_FROZEN n) = 58720548 + 512 * n := by simp only [fldKey, SYN_SYNk_EVT_FROZEN]; omega
@[simp] theorem width_SYN_SYNk_EVT_FROZEN (n : Nat) : fldWidth (SYN_SYNk_EVT_FROZEN n) = 1 := by simp only [fldWidth, SYN_SYNk_EVT_FROZEN]
@[simp] theorem key_SYN_SYNk_EVT_LOCK (n : Nat) : fldKey (SYN_SYNk_EVT_LOCK n) = 58720547 + 512 * n := by simp only [fldKey, SYN_SYNk_EVT_LOCK]; omega
@[simp] theorem width_SYN_SYNk_EVT_LOCK (n : Nat) : fldWidth (SYN_SYNk_EVT_LOCK n) = 1 := by simp only [fldWidth, SYN_SYNk_EVT_LOCK]
@[simp] theorem key_SYN_SYNk_EVT_BAND_CHG (n : Nat) : fldKey (SYN_SYNk_EVT_BAND_CHG n) = 58720546 + 512 * n := by simp only [fldKey, SYN_SYNk_EVT_BAND_CHG]; omega
@[simp] theorem width_SYN_SYNk_EVT_BAND_CHG (n : Nat) : fldWidth (SYN_SYNk_EVT_BAND_CHG n) = 1 := by simp only [fldWidth, SYN_SYNk_EVT_BAND_CHG]
@[simp] theorem key_SYN_SYNk_EVT_COMMIT_DONE (n : Nat) : fldKey (SYN_SYNk_EVT_COMMIT_DONE n) = 58720545 + 512 * n := by simp only [fldKey, SYN_SYNk_EVT_COMMIT_DONE]; omega
@[simp] theorem width_SYN_SYNk_EVT_COMMIT_DONE (n : Nat) : fldWidth (SYN_SYNk_EVT_COMMIT_DONE n) = 1 := by simp only [fldWidth, SYN_SYNk_EVT_COMMIT_DONE]
@[simp] theorem key_SYN_SYNk_EVT_ALIGNED (n : Nat) : fldKey (SYN_SYNk_EVT_ALIGNED n) = 58720544 + 512 * n := by simp only [fldKey, SYN_SYNk_EVT_ALIGNED]; omega
@[simp] theorem width_SYN_SYNk_EVT_ALIGNED (n : Nat) : fldWidth (SYN_SYNk_EVT_ALIGNED n) = 1 := by simp only [fldWidth, SYN_SYNk_EVT_ALIGNED]
@[simp] theorem key_SYN_SYNk_EVT_EN_EN (n : Nat) : fldKey (SYN_SYNk_EVT_EN_EN n) = 58720576 + 512 * n := by simp only [fldKey, SYN_SYNk_EVT_EN_EN]; omega
@[simp] theorem width_SYN_SYNk_EVT_EN_EN (n : Nat) : fldWidth (SYN_SYNk_EVT_EN_EN n) = 32 := by simp only [fldWidth, SYN_SYNk_EVT_EN_EN]
@[simp] theorem key_SYN_CORE_STAT_STATE : fldKey SYN_CORE_STAT_STATE = 58722333 := by simp only [fldKey, SYN_CORE_STAT_STATE]
@[simp] theorem width_SYN_CORE_STAT_STATE : fldWidth SYN_CORE_STAT_STATE = 3 := by simp only [fldWidth, SYN_CORE_STAT_STATE]
@[simp] theorem key_SYN_CORE_STAT_BAND : fldKey SYN_CORE_STAT_BAND = 58722325 := by simp only [fldKey, SYN_CORE_STAT_BAND]
@[simp] theorem width_SYN_CORE_STAT_BAND : fldWidth SYN_CORE_STAT_BAND = 8 := by simp only [fldWidth, SYN_CORE_STAT_BAND]
@[simp] theorem key_SYN_CORE_STAT_FREEZES : fldKey SYN_CORE_STAT_FREEZES = 58722304 := by simp only [fldKey, SYN_CORE_STAT_FREEZES]
@[simp] theorem width_SYN_CORE_STAT_FREEZES : fldWidth SYN_CORE_STAT_FREEZES = 16 := by simp only [fldWidth, SYN_CORE_STAT_FREEZES]
@[simp] theorem key_SYN_COMMIT_OUT : fldKey SYN_COMMIT_OUT = 58723344 := by simp only [fldKey, SYN_COMMIT_OUT]
@[simp] theorem width_SYN_COMMIT_OUT : fldWidth SYN_COMMIT_OUT = 16 := by simp only [fldWidth, SYN_COMMIT_OUT]
@[simp] theorem key_SYN_COMMIT_MULT : fldKey SYN_COMMIT_MULT = 58723330 := by simp only [fldKey, SYN_COMMIT_MULT]
@[simp] theorem width_SYN_COMMIT_MULT : fldWidth SYN_COMMIT_MULT = 1 := by simp only [fldWidth, SYN_COMMIT_MULT]
@[simp] theorem key_SYN_COMMIT_SYN : fldKey SYN_COMMIT_SYN = 58723328 := by simp only [fldKey, SYN_COMMIT_SYN]
@[simp] theorem width_SYN_COMMIT_SYN : fldWidth SYN_COMMIT_SYN = 2 := by simp only [fldWidth, SYN_COMMIT_SYN]
@[simp] theorem key_SYN_STAT_COMMIT_PEND : fldKey SYN_STAT_COMMIT_PEND = 58723360 := by simp only [fldKey, SYN_STAT_COMMIT_PEND]
@[simp] theorem width_SYN_STAT_COMMIT_PEND : fldWidth SYN_STAT_COMMIT_PEND = 1 := by simp only [fldWidth, SYN_STAT_COMMIT_PEND]
@[simp] theorem key_SYN_TEST_GO : fldKey SYN_TEST_GO = 58723423 := by simp only [fldKey, SYN_TEST_GO]
@[simp] theorem width_SYN_TEST_GO : fldWidth SYN_TEST_GO = 1 := by simp only [fldWidth, SYN_TEST_GO]
@[simp] theorem key_SYN_TEST_SYN : fldKey SYN_TEST_SYN = 58723392 := by simp only [fldKey, SYN_TEST_SYN]
@[simp] theorem width_SYN_TEST_SYN : fldWidth SYN_TEST_SYN = 2 := by simp only [fldWidth, SYN_TEST_SYN]
@[simp] theorem key_SYN_TESTRES_DONE : fldKey SYN_TESTRES_DONE = 58723455 := by simp only [fldKey, SYN_TESTRES_DONE]
@[simp] theorem width_SYN_TESTRES_DONE : fldWidth SYN_TESTRES_DONE = 1 := by simp only [fldWidth, SYN_TESTRES_DONE]
@[simp] theorem key_SYN_TESTRES_PASS : fldKey SYN_TESTRES_PASS = 58723454 := by simp only [fldKey, SYN_TESTRES_PASS]
@[simp] theorem width_SYN_TESTRES_PASS : fldWidth SYN_TESTRES_PASS = 1 := by simp only [fldWidth, SYN_TESTRES_PASS]
@[simp] theorem key_SYN_TESTRES_NFAIL : fldKey SYN_TESTRES_NFAIL = 58723440 := by simp only [fldKey, SYN_TESTRES_NFAIL]
@[simp] theorem width_SYN_TESTRES_NFAIL : fldWidth SYN_TESTRES_NFAIL = 8 := by simp only [fldWidth, SYN_TESTRES_NFAIL]
@[simp] theorem key_SYN_TESTRES_SPUR : fldKey SYN_TESTRES_SPUR = 58723424 := by simp only [fldKey, SYN_TESTRES_SPUR]
@[simp] theorem width_SYN_TESTRES_SPUR : fldWidth SYN_TESTRES_SPUR = 16 := by simp only [fldWidth, SYN_TESTRES_SPUR]
@[simp] theorem key_SYN_IRQ_OUT : fldKey SYN_IRQ_OUT = 58723460 := by simp only [fldKey, SYN_IRQ_OUT]
@[simp] theorem width_SYN_IRQ_OUT : fldWidth SYN_IRQ_OUT = 1 := by simp only [fldWidth, SYN_IRQ_OUT]
@[simp] theorem key_SYN_IRQ_SYN : fldKey SYN_IRQ_SYN = 58723456 := by simp only [fldKey, SYN_IRQ_SYN]
@[simp] theorem width_SYN_IRQ_SYN : fldWidth SYN_IRQ_SYN = 4 := by simp only [fldWidth, SYN_IRQ_SYN]
@[simp] theorem key_SYN_OUTn_CFG_EN (n : Nat) : fldKey (SYN_OUTn_CFG_EN n) = 58728479 + 256 * n := by simp only [fldKey, SYN_OUTn_CFG_EN]; omega
@[simp] theorem width_SYN_OUTn_CFG_EN (n : Nat) : fldWidth (SYN_OUTn_CFG_EN n) = 1 := by simp only [fldWidth, SYN_OUTn_CFG_EN]
@[simp] theorem key_SYN_OUTn_CFG_SEL (n : Nat) : fldKey (SYN_OUTn_CFG_SEL n) = 58728478 + 256 * n := by simp only [fldKey, SYN_OUTn_CFG_SEL]; omega
@[simp] theorem width_SYN_OUTn_CFG_SEL (n : Nat) : fldWidth (SYN_OUTn_CFG_SEL n) = 1 := by simp only [fldWidth, SYN_OUTn_CFG_SEL]
@[simp] theorem key_SYN_OUTn_CFG_STOP (n : Nat) : fldKey (SYN_OUTn_CFG_STOP n) = 58728476 + 256 * n := by simp only [fldKey, SYN_OUTn_CFG_STOP]; omega
@[simp] theorem width_SYN_OUTn_CFG_STOP (n : Nat) : fldWidth (SYN_OUTn_CFG_STOP n) = 2 := by simp only [fldWidth, SYN_OUTn_CFG_STOP]
@[simp] theorem key_SYN_OUTn_CFG_LEG (n : Nat) : fldKey (SYN_OUTn_CFG_LEG n) = 58728474 + 256 * n := by simp only [fldKey, SYN_OUTn_CFG_LEG]; omega
@[simp] theorem width_SYN_OUTn_CFG_LEG (n : Nat) : fldWidth (SYN_OUTn_CFG_LEG n) = 2 := by simp only [fldWidth, SYN_OUTn_CFG_LEG]
@[simp] theorem key_SYN_OUTn_CFG_BYP (n : Nat) : fldKey (SYN_OUTn_CFG_BYP n) = 58728473 + 256 * n := by simp only [fldKey, SYN_OUTn_CFG_BYP]; omega
@[simp] theorem width_SYN_OUTn_CFG_BYP (n : Nat) : fldWidth (SYN_OUTn_CFG_BYP n) = 1 := by simp only [fldWidth, SYN_OUTn_CFG_BYP]
@[simp] theorem key_SYN_OUTn_DIV_DIV (n : Nat) : fldKey (SYN_OUTn_DIV_DIV n) = 58728480 + 256 * n := by simp only [fldKey, SYN_OUTn_DIV_DIV]; omega
@[simp] theorem width_SYN_OUTn_DIV_DIV (n : Nat) : fldWidth (SYN_OUTn_DIV_DIV n) = 32 := by simp only [fldWidth, SYN_OUTn_DIV_DIV]
@[simp] theorem key_SYN_OUTn_DIVX_HALF (n : Nat) : fldKey (SYN_OUTn_DIVX_HALF n) = 58728543 + 256 * n := by simp only [fldKey, SYN_OUTn_DIVX_HALF]; omega
@[simp] theorem width_SYN_OUTn_DIVX_HALF (n : Nat) : fldWidth (SYN_OUTn_DIVX_HALF n) = 1 := by simp only [fldWidth, SYN_OUTn_DIVX_HALF]
@[simp] theorem key_SYN_OUTn_DIVX_PRE (n : Nat) : fldKey (SYN_OUTn_DIVX_PRE n) = 58728540 + 256 * n := by simp only [fldKey, SYN_OUTn_DIVX_PRE]; omega
@[simp] theorem width_SYN_OUTn_DIVX_PRE (n : Nat) : fldWidth (SYN_OUTn_DIVX_PRE n) = 2 := by simp only [fldWidth, SYN_OUTn_DIVX_PRE]
@[simp] theorem key_SYN_OUTn_DIVX_COARSE (n : Nat) : fldKey (SYN_OUTn_DIVX_COARSE n) = 58728512 + 256 * n := by simp only [fldKey, SYN_OUTn_DIVX_COARSE]; omega
@[simp] theorem width_SYN_OUTn_DIVX_COARSE (n : Nat) : fldWidth (SYN_OUTn_DIVX_COARSE n) = 4 := by simp only [fldWidth, SYN_OUTn_DIVX_COARSE]
@[simp] theorem key_SYN_OUTn_COARSE_COARSE (n : Nat) : fldKey (SYN_OUTn_COARSE_COARSE n) = 58728544 + 256 * n := by simp only [fldKey, SYN_OUTn_COARSE_COARSE]; omega
@[simp] theorem width_SYN_OUTn_COARSE_COARSE (n : Nat) : fldWidth (SYN_OUTn_COARSE_COARSE n) = 32 := by simp only [fldWidth, SYN_OUTn_COARSE_COARSE]
@[simp] theorem key_SYN_OUTn_FINE_FINE (n : Nat) : fldKey (SYN_OUTn_FINE_FINE n) = 58728576 + 256 * n := by simp only [fldKey, SYN_OUTn_FINE_FINE]; omega
@[simp] theorem width_SYN_OUTn_FINE_FINE (n : Nat) : fldWidth (SYN_OUTn_FINE_FINE n) = 10 := by simp only [fldWidth, SYN_OUTn_FINE_FINE]
@[simp] theorem key_SYN_OUTn_FMAX_FMAX (n : Nat) : fldKey (SYN_OUTn_FMAX_FMAX n) = 58728608 + 256 * n := by simp only [fldKey, SYN_OUTn_FMAX_FMAX]; omega
@[simp] theorem width_SYN_OUTn_FMAX_FMAX (n : Nat) : fldWidth (SYN_OUTn_FMAX_FMAX n) = 32 := by simp only [fldWidth, SYN_OUTn_FMAX_FMAX]
@[simp] theorem key_SYN_OUTn_STAT_STATE (n : Nat) : fldKey (SYN_OUTn_STAT_STATE n) = 58728670 + 256 * n := by simp only [fldKey, SYN_OUTn_STAT_STATE]; omega
@[simp] theorem width_SYN_OUTn_STAT_STATE (n : Nat) : fldWidth (SYN_OUTn_STAT_STATE n) = 2 := by simp only [fldWidth, SYN_OUTn_STAT_STATE]
@[simp] theorem key_SYN_OUTn_STAT_SRC (n : Nat) : fldKey (SYN_OUTn_STAT_SRC n) = 58728668 + 256 * n := by simp only [fldKey, SYN_OUTn_STAT_SRC]; omega
@[simp] theorem width_SYN_OUTn_STAT_SRC (n : Nat) : fldWidth (SYN_OUTn_STAT_SRC n) = 2 := by simp only [fldWidth, SYN_OUTn_STAT_SRC]
@[simp] theorem key_SYN_OUTn_STAT_ON_ALT (n : Nat) : fldKey (SYN_OUTn_STAT_ON_ALT n) = 58728667 + 256 * n := by simp only [fldKey, SYN_OUTn_STAT_ON_ALT]; omega
@[simp] theorem width_SYN_OUTn_STAT_ON_ALT (n : Nat) : fldWidth (SYN_OUTn_STAT_ON_ALT n) = 1 := by simp only [fldWidth, SYN_OUTn_STAT_ON_ALT]
@[simp] theorem key_SYN_OUTn_STAT_ALIGNED (n : Nat) : fldKey (SYN_OUTn_STAT_ALIGNED n) = 58728666 + 256 * n := by simp only [fldKey, SYN_OUTn_STAT_ALIGNED]; omega
@[simp] theorem width_SYN_OUTn_STAT_ALIGNED (n : Nat) : fldWidth (SYN_OUTn_STAT_ALIGNED n) = 1 := by simp only [fldWidth, SYN_OUTn_STAT_ALIGNED]
@[simp] theorem key_SYN_OUTn_STAT_CFG_ERR (n : Nat) : fldKey (SYN_OUTn_STAT_CFG_ERR n) = 58728665 + 256 * n := by simp only [fldKey, SYN_OUTn_STAT_CFG_ERR]; omega
@[simp] theorem width_SYN_OUTn_STAT_CFG_ERR (n : Nat) : fldWidth (SYN_OUTn_STAT_CFG_ERR n) = 1 := by simp only [fldWidth, SYN_OUTn_STAT_CFG_ERR]
@[simp] theorem key_SYN_OUTn_STAT_ERR (n : Nat) : fldKey (SYN_OUTn_STAT_ERR n) = 58728662 + 256 * n := by simp only [fldKey, SYN_OUTn_STAT_ERR]; omega
@[simp] theorem width_SYN_OUTn_STAT_ERR (n : Nat) : fldWidth (SYN_OUTn_STAT_ERR n) = 3 := by simp only [fldWidth, SYN_OUTn_STAT_ERR]
@[simp] theorem key_TKP_CFG_JAM : fldKey TKP_CFG_JAM = 67108894 := by simp only [fldKey, TKP_CFG_JAM]
@[simp] theorem width_TKP_CFG_JAM : fldWidth TKP_CFG_JAM = 2 := by simp only [fldWidth, TKP_CFG_JAM]
@[simp] theorem key_TKP_CFG_SEC_CONF : fldKey TKP_CFG_SEC_CONF = 67108890 := by simp only [fldKey, TKP_CFG_SEC_CONF]
@[simp] theorem width_TKP_CFG_SEC_CONF : fldWidth TKP_CFG_SEC_CONF = 4 := by simp only [fldWidth, TKP_CFG_SEC_CONF]
@[simp] theorem key_TKP_CFG_JAM_THR : fldKey TKP_CFG_JAM_THR = 67108864 := by simp only [fldKey, TKP_CFG_JAM_THR]
@[simp] theorem width_TKP_CFG_JAM_THR : fldWidth TKP_CFG_JAM_THR = 16 := by simp only [fldWidth, TKP_CFG_JAM_THR]
@[simp] theorem key_TKP_STAT_TIME_SET : fldKey TKP_STAT_TIME_SET = 67108927 := by simp only [fldKey, TKP_STAT_TIME_SET]
@[simp] theorem width_TKP_STAT_TIME_SET : fldWidth TKP_STAT_TIME_SET = 1 := by simp only [fldWidth, TKP_STAT_TIME_SET]
@[simp] theorem key_TKP_STAT_TIME_SRC : fldKey TKP_STAT_TIME_SRC = 67108924 := by simp only [fldKey, TKP_STAT_TIME_SRC]
@[simp] theorem width_TKP_STAT_TIME_SRC : fldWidth TKP_STAT_TIME_SRC = 3 := by simp only [fldWidth, TKP_STAT_TIME_SRC]
@[simp] theorem key_TKP_STAT_LEAP_PEND : fldKey TKP_STAT_LEAP_PEND = 67108923 := by simp only [fldKey, TKP_STAT_LEAP_PEND]
@[simp] theorem width_TKP_STAT_LEAP_PEND : fldWidth TKP_STAT_LEAP_PEND = 1 := by simp only [fldWidth, TKP_STAT_LEAP_PEND]
@[simp] theorem key_TKP_STAT_LEAP_DEL : fldKey TKP_STAT_LEAP_DEL = 67108922 := by simp only [fldKey, TKP_STAT_LEAP_DEL]
@[simp] theorem width_TKP_STAT_LEAP_DEL : fldWidth TKP_STAT_LEAP_DEL = 1 := by simp only [fldWidth, TKP_STAT_LEAP_DEL]
@[simp] theorem key_TKP_STAT_LEAP_SRC : fldKey TKP_STAT_LEAP_SRC = 67108920 := by simp only [fldKey, TKP_STAT_LEAP_SRC]
@[simp] theorem width_TKP_STAT_LEAP_SRC : fldWidth TKP_STAT_LEAP_SRC = 2 := by simp only [fldWidth, TKP_STAT_LEAP_SRC]
@[simp] theorem key_TKP_STAT_DST_ACT : fldKey TKP_STAT_DST_ACT = 67108919 := by simp only [fldKey, TKP_STAT_DST_ACT]
@[simp] theorem width_TKP_STAT_DST_ACT : fldWidth TKP_STAT_DST_ACT = 1 := by simp only [fldWidth, TKP_STAT_DST_ACT]
@[simp] theorem key_TKP_STAT_DAT_SRC : fldKey TKP_STAT_DAT_SRC = 67108917 := by simp only [fldKey, TKP_STAT_DAT_SRC]
@[simp] theorem width_TKP_STAT_DAT_SRC : fldWidth TKP_STAT_DAT_SRC = 2 := by simp only [fldWidth, TKP_STAT_DAT_SRC]
@[simp] theorem key_TKP_STAT_SEC_DIS : fldKey TKP_STAT_SEC_DIS = 67108916 := by simp only [fldKey, TKP_STAT_SEC_DIS]
@[simp] theorem width_TKP_STAT_SEC_DIS : fldWidth TKP_STAT_SEC_DIS = 1 := by simp only [fldWidth, TKP_STAT_SEC_DIS]
@[simp] theorem key_TKP_STAT_CIV_ERR : fldKey TKP_STAT_CIV_ERR = 67108915 := by simp only [fldKey, TKP_STAT_CIV_ERR]
@[simp] theorem width_TKP_STAT_CIV_ERR : fldWidth TKP_STAT_CIV_ERR = 1 := by simp only [fldWidth, TKP_STAT_CIV_ERR]
@[simp] theorem key_TKP_STAT_DAT : fldKey TKP_STAT_DAT = 67108904 := by simp only [fldKey, TKP_STAT_DAT]
@[simp] theorem width_TKP_STAT_DAT : fldWidth TKP_STAT_DAT = 8 := by simp only [fldWidth, TKP_STAT_DAT]
@[simp] theorem key_TKP_CTL_RTC_SYNC : fldKey TKP_CTL_RTC_SYNC = 67108932 := by simp only [fldKey, TKP_CTL_RTC_SYNC]
@[simp] theorem width_TKP_CTL_RTC_SYNC : fldWidth TKP_CTL_RTC_SYNC = 1 := by simp only [fldWidth, TKP_CTL_RTC_SYNC]
@[simp] theorem key_TKP_CTL_LEAP_CANCEL : fldKey TKP_CTL_LEAP_CANCEL = 67108931 := by simp only [fldKey, TKP_CTL_LEAP_CANCEL]
@[simp] theorem width_TKP_CTL_LEAP_CANCEL : fldWidth TKP_CTL_LEAP_CANCEL = 1 := by simp only [fldWidth, TKP_CTL_LEAP_CANCEL]
@[simp] theorem key_TKP_CTL_SET_SEC : fldKey TKP_CTL_SET_SEC = 67108930 := by simp only [fldKey, TKP_CTL_SET_SEC]
@[simp] theorem width_TKP_CTL_SET_SEC : fldWidth TKP_CTL_SET_SEC = 1 := by simp only [fldWidth, TKP_CTL_SET_SEC]
@[simp] theorem key_TKP_CTL_SET : fldKey TKP_CTL_SET = 67108929 := by simp only [fldKey, TKP_CTL_SET]
@[simp] theorem width_TKP_CTL_SET : fldWidth TKP_CTL_SET = 1 := by simp only [fldWidth, TKP_CTL_SET]
@[simp] theorem key_TKP_CTL_SNAP : fldKey TKP_CTL_SNAP = 67108928 := by simp only [fldKey, TKP_CTL_SNAP]
@[simp] theorem width_TKP_CTL_SNAP : fldWidth TKP_CTL_SNAP = 1 := by simp only [fldWidth, TKP_CTL_SNAP]
@[simp] theorem key_TKP_EVT_FLOCK : fldKey TKP_EVT_FLOCK = 67108965 := by simp only [fldKey, TKP_EVT_FLOCK]
@[simp] theorem width_TKP_EVT_FLOCK : fldWidth TKP_EVT_FLOCK = 1 := by simp only [fldWidth, TKP_EVT_FLOCK]
@[simp] theorem key_TKP_EVT_SECDIS : fldKey TKP_EVT_SECDIS = 67108964 := by simp only [fldKey, TKP_EVT_SECDIS]
@[simp] theorem width_TKP_EVT_SECDIS : fldWidth TKP_EVT_SECDIS = 1 := by simp only [fldWidth, TKP_EVT_SECDIS]
@[simp] theorem key_TKP_EVT_DST : fldKey TKP_EVT_DST = 67108963 := by simp only [fldKey, TKP_EVT_DST]
@[simp] theorem width_TKP_EVT_DST : fldWidth TKP_EVT_DST = 1 := by simp only [fldWidth, TKP_EVT_DST]
@[simp] theorem key_TKP_EVT_LEAP : fldKey TKP_EVT_LEAP = 67108962 := by simp only [fldKey, TKP_EVT_LEAP]
@[simp] theorem width_TKP_EVT_LEAP : fldWidth TKP_EVT_LEAP = 1 := by simp only [fldWidth, TKP_EVT_LEAP]
@[simp] theorem key_TKP_EVT_SET : fldKey TKP_EVT_SET = 67108961 := by simp only [fldKey, TKP_EVT_SET]
@[simp] theorem width_TKP_EVT_SET : fldWidth TKP_EVT_SET = 1 := by simp only [fldWidth, TKP_EVT_SET]
@[simp] theorem key_TKP_EVT_PPS : fldKey TKP_EVT_PPS = 67108960 := by simp only [fldKey, TKP_EVT_PPS]
@[simp] theorem width_TKP_EVT_PPS : fldWidth TKP_EVT_PPS = 1 := by simp only [fldWidth, TKP_EVT_PPS]
@[simp] theorem key_TKP_EVT_EN_EN : fldKey TKP_EVT_EN_EN = 67108992 := by simp only [fldKey, TKP_EVT_EN_EN]
@[simp] theorem width_TKP_EVT_EN_EN : fldWidth TKP_EVT_EN_EN = 32 := by simp only [fldWidth, TKP_EVT_EN_EN]
@[simp] theorem key_TKP_SNAP_FRAC_FRAC : fldKey TKP_SNAP_FRAC_FRAC = 67109024 := by simp only [fldKey, TKP_SNAP_FRAC_FRAC]
@[simp] theorem width_TKP_SNAP_FRAC_FRAC : fldWidth TKP_SNAP_FRAC_FRAC = 16 := by simp only [fldWidth, TKP_SNAP_FRAC_FRAC]
@[simp] theorem key_TKP_SNAP_NS_NS : fldKey TKP_SNAP_NS_NS = 67109056 := by simp only [fldKey, TKP_SNAP_NS_NS]
@[simp] theorem width_TKP_SNAP_NS_NS : fldWidth TKP_SNAP_NS_NS = 30 := by simp only [fldWidth, TKP_SNAP_NS_NS]
@[simp] theorem key_TKP_SNAP_SEC_LO_SEC : fldKey TKP_SNAP_SEC_LO_SEC = 67109088 := by simp only [fldKey, TKP_SNAP_SEC_LO_SEC]
@[simp] theorem width_TKP_SNAP_SEC_LO_SEC : fldWidth TKP_SNAP_SEC_LO_SEC = 32 := by simp only [fldWidth, TKP_SNAP_SEC_LO_SEC]
@[simp] theorem key_TKP_SNAP_SEC_HI_SEC : fldKey TKP_SNAP_SEC_HI_SEC = 67109120 := by simp only [fldKey, TKP_SNAP_SEC_HI_SEC]
@[simp] theorem width_TKP_SNAP_SEC_HI_SEC : fldWidth TKP_SNAP_SEC_HI_SEC = 16 := by simp only [fldWidth, TKP_SNAP_SEC_HI_SEC]
@[simp] theorem key_TKP_SNAP_UTC_DATE_YEAR : fldKey TKP_SNAP_UTC_DATE_YEAR = 67109168 := by simp only [fldKey, TKP_SNAP_UTC_DATE_YEAR]
@[simp] theorem width_TKP_SNAP_UTC_DATE_YEAR : fldWidth TKP_SNAP_UTC_DATE_YEAR = 16 := by simp only [fldWidth, TKP_SNAP_UTC_DATE_YEAR]
@[simp] theorem key_TKP_SNAP_UTC_DATE_MONTH : fldKey TKP_SNAP_UTC_DATE_MONTH = 67109160 := by simp only [fldKey, TKP_SNAP_UTC_DATE_MONTH]
@[simp] theorem width_TKP_SNAP_UTC_DATE_MONTH : fldWidth TKP_SNAP_UTC_DATE_MONTH = 8 := by simp only [fldWidth, TKP_SNAP_UTC_DATE_MONTH]
@[simp] theorem key_TKP_SNAP_UTC_DATE_DAY : fldKey TKP_SNAP_UTC_DATE_DAY = 67109152 := by simp only [fldKey, TKP_SNAP_UTC_DATE_DAY]
@[simp] theorem width_TKP_SNAP_UTC_DATE_DAY : fldWidth TKP_SNAP_UTC_DATE_DAY = 8 := by simp only [fldWidth, TKP_SNAP_UTC_DATE_DAY]
@[simp] theorem key_TKP_SNAP_UTC_TIME_WDAY : fldKey TKP_SNAP_UTC_TIME_WDAY = 67109208 := by simp only [fldKey, TKP_SNAP_UTC_TIME_WDAY]
@[simp] theorem width_TKP_SNAP_UTC_TIME_WDAY : fldWidth TKP_SNAP_UTC_TIME_WDAY = 8 := by simp only [fldWidth, TKP_SNAP_UTC_TIME_WDAY]
@[simp] theorem key_TKP_SNAP_UTC_TIME_HOUR : fldKey TKP_SNAP_UTC_TIME_HOUR = 67109200 := by simp only [fldKey, TKP_SNAP_UTC_TIME_HOUR]
@[simp] theorem width_TKP_SNAP_UTC_TIME_HOUR : fldWidth TKP_SNAP_UTC_TIME_HOUR = 8 := by simp only [fldWidth, TKP_SNAP_UTC_TIME_HOUR]
@[simp] theorem key_TKP_SNAP_UTC_TIME_MIN : fldKey TKP_SNAP_UTC_TIME_MIN = 67109192 := by simp only [fldKey, TKP_SNAP_UTC_TIME_MIN]
@[simp] theorem width_TKP_SNAP_UTC_TIME_MIN : fldWidth TKP_SNAP_UTC_TIME_MIN = 8 := by simp only [fldWidth, TKP_SNAP_UTC_TIME_MIN]
@[simp] theorem key_TKP_SNAP_UTC_TIME_SEC : fldKey TKP_SNAP_UTC_TIME_SEC = 67109184 := by simp only [fldKey, TKP_SNAP_UTC_TIME_SEC]
@[simp] theorem width_TKP_SNAP_UTC_TIME_SEC : fldWidth TKP_SNAP_UTC_TIME_SEC = 8 := by simp only [fldWidth, TKP_SNAP_UTC_TIME_SEC]
@[simp] theorem key_TKP_SNAP_LOC_DATE_YEAR : fldKey TKP_SNAP_LOC_DATE_YEAR = 67109232 := by simp only [fldKey, TKP_SNAP_LOC_DATE_YEAR]
@[simp] theorem width_TKP_SNAP_LOC_DATE_YEAR : fldWidth TKP_SNAP_LOC_DATE_YEAR = 16 := by simp only [fldWidth, TKP_SNAP_LOC_DATE_YEAR]
@[simp] theorem key_TKP_SNAP_LOC_DATE_MONTH : fldKey TKP_SNAP_LOC_DATE_MONTH = 67109224 := by simp only [fldKey, TKP_SNAP_LOC_DATE_MONTH]
@[simp] theorem width_TKP_SNAP_LOC_DATE_MONTH : fldWidth TKP_SNAP_LOC_DATE_MONTH = 8 := by simp only [fldWidth, TKP_SNAP_LOC_DATE_MONTH]
@[simp] theorem key_TKP_SNAP_LOC_DATE_DAY : fldKey TKP_SNAP_LOC_DATE_DAY = 67109216 := by simp only [fldKey, TKP_SNAP_LOC_DATE_DAY]
@[simp] theorem width_TKP_SNAP_LOC_DATE_DAY : fldWidth TKP_SNAP_LOC_DATE_DAY = 8 := by simp only [fldWidth, TKP_SNAP_LOC_DATE_DAY]
@[simp] theorem key_TKP_SNAP_LOC_TIME_WDAY : fldKey TKP_SNAP_LOC_TIME_WDAY = 67109272 := by simp only [fldKey, TKP_SNAP_LOC_TIME_WDAY]
@[simp] theorem width_TKP_SNAP_LOC_TIME_WDAY : fldWidth TKP_SNAP_LOC_TIME_WDAY = 8 := by simp only [fldWidth, TKP_SNAP_LOC_TIME_WDAY]
@[simp] theorem key_TKP_SNAP_LOC_TIME_HOUR : fldKey TKP_SNAP_LOC_TIME_HOUR = 67109264 := by simp only [fldKey, TKP_SNAP_LOC_TIME_HOUR]
@[simp] theorem width_TKP_SNAP_LOC_TIME_HOUR : fldWidth TKP_SNAP_LOC_TIME_HOUR = 8 := by simp only [fldWidth, TKP_SNAP_LOC_TIME_HOUR]
@[simp] theorem key_TKP_SNAP_LOC_TIME_MIN : fldKey TKP_SNAP_LOC_TIME_MIN = 67109256 := by simp only [fldKey, TKP_SNAP_LOC_TIME_MIN]
@[simp] theorem width_TKP_SNAP_LOC_TIME_MIN : fldWidth TKP_SNAP_LOC_TIME_MIN = 8 := by simp only [fldWidth, TKP_SNAP_LOC_TIME_MIN]
@[simp] theorem key_TKP_SNAP_LOC_TIME_SEC : fldKey TKP_SNAP_LOC_TIME_SEC = 67109248 := by simp only [fldKey, TKP_SNAP_LOC_TIME_SEC]
@[simp] theorem width_TKP_SNAP_LOC_TIME_SEC : fldWidth TKP_SNAP_LOC_TIME_SEC = 8 := by simp only [fldWidth, TKP_SNAP_LOC_TIME_SEC]
@[simp] theorem key_TKP_TSET_NS_NS : fldKey TKP_TSET_NS_NS = 67109280 := by simp only [fldKey, TKP_TSET_NS_NS]
@[simp] theorem width_TKP_TSET_NS_NS : fldWidth TKP_TSET_NS_NS = 30 := by simp only [fldWidth, TKP_TSET_NS_NS]
@[simp] theorem key_TKP_TSET_SEC_LO_SEC : fldKey TKP_TSET_SEC_LO_SEC = 67109312 := by simp only [fldKey, TKP_TSET_SEC_LO_SEC]
@[simp] theorem width_TKP_TSET_SEC_LO_SEC : fldWidth TKP_TSET_SEC_LO_SEC = 32 := by simp only [fldWidth, TKP_TSET_SEC_LO_SEC]
@[simp] theorem key_TKP_TSET_SEC_HI_SEC : fldKey TKP_TSET_SEC_HI_SEC = 67109344 := by simp only [fldKey, TKP_TSET_SEC_HI_SEC]
@[simp] theorem width_TKP_TSET_SEC_HI_SEC : fldWidth TKP_TSET_SEC_HI_SEC = 16 := by simp only [fldWidth, TKP_TSET_SEC_HI_SEC]
@[simp] theorem key_TKP_ADJ_LO_ADJ : fldKey TKP_ADJ_LO_ADJ = 67109376 := by simp only [fldKey, TKP_ADJ_LO_ADJ]
@[simp] theorem width_TKP_ADJ_LO_ADJ : fldWidth TKP_ADJ_LO_ADJ = 32 := by simp only [fldWidth, TKP_ADJ_LO_ADJ]
@[simp] theorem key_TKP_ADJ_HI_ADJ : fldKey TKP_ADJ_HI_ADJ = 67109408 := by simp only [fldKey, TKP_ADJ_HI_ADJ]
@[simp] theorem width_TKP_ADJ_HI_ADJ : fldWidth TKP_ADJ_HI_ADJ = 16 := by simp only [fldWidth, TKP_ADJ_HI_ADJ]
@[simp] theorem key_TKP_UTC_DAT_HOST : fldKey TKP_UTC_DAT_HOST = 67109464 := by simp only [fldKey, TKP_UTC_DAT_HOST]
@[simp] theorem width_TKP_UTC_DAT_HOST : fldWidth TKP_UTC_DAT_HOST = 8 := by simp only [fldWidth, TKP_UTC_DAT_HOST]
@[simp] theorem key_TKP_UTC_HOST_LEAP : fldKey TKP_UTC_HOST_LEAP = 67109463 := by simp only [fldKey, TKP_UTC_HOST_LEAP]
@[simp] theorem width_TKP_UTC_HOST_LEAP : fldWidth TKP_UTC_HOST_LEAP = 1 := by simp only [fldWidth, TKP_UTC_HOST_LEAP]
@[simp] theorem key_TKP_UTC_HOST_DEL : fldKey TKP_UTC_HOST_DEL = 67109462 := by simp only [fldKey, TKP_UTC_HOST_DEL]
@[simp] theorem width_TKP_UTC_HOST_DEL : fldWidth TKP_UTC_HOST_DEL = 1 := by simp only [fldWidth, TKP_UTC_HOST_DEL]
@[simp] theorem key_TKP_UTC_DAT_FORCE : fldKey TKP_UTC_DAT_FORCE = 67109461 := by simp only [fldKey, TKP_UTC_DAT_FORCE]
@[simp] theorem width_TKP_UTC_DAT_FORCE : fldWidth TKP_UTC_DAT_FORCE = 1 := by simp only [fldWidth, TKP_UTC_DAT_FORCE]
@[simp] theorem key_TKP_CIVIL_RULE : fldKey TKP_CIVIL_RULE = 67109502 := by simp only [fldKey, TKP_CIVIL_RULE]
@[simp] theorem width_TKP_CIVIL_RULE : fldWidth TKP_CIVIL_RULE = 2 := by simp only [fldWidth, TKP_CIVIL_RULE]
@[simp] theorem key_TKP_CIVIL_ZONE : fldKey TKP_CIVIL_ZONE = 67109488 := by simp only [fldKey, TKP_CIVIL_ZONE]
@[simp] theorem width_TKP_CIVIL_ZONE : fldWidth TKP_CIVIL_ZONE = 8 := by simp only [fldWidth, TKP_CIVIL_ZONE]
@[simp] theorem key_TKP_CIVIL_DST_OFF : fldKey TKP_CIVIL_DST_OFF = 67109480 := by simp only [fldKey, TKP_CIVIL_DST_OFF]
@[simp] theorem width_TKP_CIVIL_DST_OFF : fldWidth TKP_CIVIL_DST_OFF = 4 := by simp only [fldWidth, TKP_CIVIL_DST_OFF]
@[simp] theorem key_TKP_TODTXk_CFG_EN (n : Nat) : fldKey (TKP_TODTXk_CFG_EN n) = 67109535 + 32 * n := by simp only [fldKey, TKP_TODTXk_CFG_EN]; omega
@[simp] theorem width_TKP_TODTXk_CFG_EN (n : Nat) : fldWidth (TKP_TODTXk_CFG_EN n) = 1 := by simp only [fldWidth, TKP_TODTXk_CFG_EN]
@[simp] theorem key_TKP_TODTXk_CFG_BAUD (n : Nat) : fldKey (TKP_TODTXk_CFG_BAUD n) = 67109532 + 32 * n := by simp only [fldKey, TKP_TODTXk_CFG_BAUD]; omega
@[simp] theorem width_TKP_TODTXk_CFG_BAUD (n : Nat) : fldWidth (TKP_TODTXk_CFG_BAUD n) = 3 := by simp only [fldWidth, TKP_TODTXk_CFG_BAUD]
@[simp] theorem key_TKP_TODTXk_CFG_SENT (n : Nat) : fldKey (TKP_TODTXk_CFG_SENT n) = 67109530 + 32 * n := by simp only [fldKey, TKP_TODTXk_CFG_SENT]; omega
@[simp] theorem width_TKP_TODTXk_CFG_SENT (n : Nat) : fldWidth (TKP_TODTXk_CFG_SENT n) = 2 := by simp only [fldWidth, TKP_TODTXk_CFG_SENT]
@[simp] theorem key_TKP_TODTXk_CFG_START (n : Nat) : fldKey (TKP_TODTXk_CFG_START n) = 67109520 + 32 * n := by simp only [fldKey, TKP_TODTXk_CFG_START]; omega
@[simp] theorem width_TKP_TODTXk_CFG_START (n : Nat) : fldWidth (TKP_TODTXk_CFG_START n) = 10 := by simp only [fldWidth, TKP_TODTXk_CFG_START]
@[simp] theorem key_TKP_TODTXk_CFG_TALKER (n : Nat) : fldKey (TKP_TODTXk_CFG_TALKER n) = 67109504 + 32 * n := by simp only [fldKey, TKP_TODTXk_CFG_TALKER]; omega
@[simp] theorem width_TKP_TODTXk_CFG_TALKER (n : Nat) : fldWidth (TKP_TODTXk_CFG_TALKER n) = 16 := by simp only [fldWidth, TKP_TODTXk_CFG_TALKER]
@[simp] theorem key_TKP_IRIGIN_CFG_EN : fldKey TKP_IRIGIN_CFG_EN = 67109599 := by simp only [fldKey, TKP_IRIGIN_CFG_EN]
@[simp] theorem width_TKP_IRIGIN_CFG_EN : fldWidth TKP_IRIGIN_CFG_EN = 1 := by simp only [fldWidth, TKP_IRIGIN_CFG_EN]
@[simp] theorem key_TKP_IRIGIN_CFG_EXT : fldKey TKP_IRIGIN_CFG_EXT = 67109598 := by simp only [fldKey, TKP_IRIGIN_CFG_EXT]
@[simp] theorem width_TKP_IRIGIN_CFG_EXT : fldWidth TKP_IRIGIN_CFG_EXT = 1 := by simp only [fldWidth, TKP_IRIGIN_CFG_EXT]
@[simp] theorem key_TKP_IRIGIN_CFG_PAR : fldKey TKP_IRIGIN_CFG_PAR = 67109597 := by simp only [fldKey, TKP_IRIGIN_CFG_PAR]
@[simp] theorem width_TKP_IRIGIN_CFG_PAR : fldWidth TKP_IRIGIN_CFG_PAR = 1 := by simp only [fldWidth, TKP_IRIGIN_CFG_PAR]
@[simp] theorem key_TKP_IRIGIN_CFG_SCALE : fldKey TKP_IRIGIN_CFG_SCALE = 67109595 := by simp only [fldKey, TKP_IRIGIN_CFG_SCALE]
@[simp] theorem width_TKP_IRIGIN_CFG_SCALE : fldWidth TKP_IRIGIN_CFG_SCALE = 2 := by simp only [fldWidth, TKP_IRIGIN_CFG_SCALE]
@[simp] theorem key_TKP_IRIGIN_CFG_LOCK_N : fldKey TKP_IRIGIN_CFG_LOCK_N = 67109592 := by simp only [fldKey, TKP_IRIGIN_CFG_LOCK_N]
@[simp] theorem width_TKP_IRIGIN_CFG_LOCK_N : fldWidth TKP_IRIGIN_CFG_LOCK_N = 3 := by simp only [fldWidth, TKP_IRIGIN_CFG_LOCK_N]
@[simp] theorem key_TKP_IRIGIN_CFG_YEAR : fldKey TKP_IRIGIN_CFG_YEAR = 67109568 := by simp only [fldKey, TKP_IRIGIN_CFG_YEAR]
@[simp] theorem width_TKP_IRIGIN_CFG_YEAR : fldWidth TKP_IRIGIN_CFG_YEAR = 16 := by simp only [fldWidth, TKP_IRIGIN_CFG_YEAR]
@[simp] theorem key_TKP_IRIGIN_STAT_FLOCK : fldKey TKP_IRIGIN_STAT_FLOCK = 67109631 := by simp only [fldKey, TKP_IRIGIN_STAT_FLOCK]
@[simp] theorem width_TKP_IRIGIN_STAT_FLOCK : fldWidth TKP_IRIGIN_STAT_FLOCK = 1 := by simp only [fldWidth, TKP_IRIGIN_STAT_FLOCK]
@[simp] theorem key_TKP_IRIGIN_STAT_CODE : fldKey TKP_IRIGIN_STAT_CODE = 67109628 := by simp only [fldKey, TKP_IRIGIN_STAT_CODE]
@[simp] theorem width_TKP_IRIGIN_STAT_CODE : fldWidth TKP_IRIGIN_STAT_CODE = 3 := by simp only [fldWidth, TKP_IRIGIN_STAT_CODE]
@[simp] theorem key_TKP_IRIGIN_STAT_TQ : fldKey TKP_IRIGIN_STAT_TQ = 67109624 := by simp only [fldKey, TKP_IRIGIN_STAT_TQ]
@[simp] theorem width_TKP_IRIGIN_STAT_TQ : fldWidth TKP_IRIGIN_STAT_TQ = 4 := by simp only [fldWidth, TKP_IRIGIN_STAT_TQ]
@[simp] theorem key_TKP_IRIGIN_STAT_LSP : fldKey TKP_IRIGIN_STAT_LSP = 67109623 := by simp only [fldKey, TKP_IRIGIN_STAT_LSP]
@[simp] theorem width_TKP_IRIGIN_STAT_LSP : fldWidth TKP_IRIGIN_STAT_LSP = 1 := by simp only [fldWidth, TKP_IRIGIN_STAT_LSP]
@[simp] theorem key_TKP_IRIGIN_STAT_LS : fldKey TKP_IRIGIN_STAT_LS = 67109622 := by simp only [fldKey, TKP_IRIGIN_STAT_LS]
@[simp] theorem width_TKP_IRIGIN_STAT_LS : fldWidth TKP_IRIGIN_STAT_LS = 1 := by simp only [fldWidth, TKP_IRIGIN_STAT_LS]
@[simp] theorem key_TKP_IRIGIN_STAT_DSP : fldKey TKP_IRIGIN_STAT_DSP = 67109621 := by simp only [fldKey, TKP_IRIGIN_STAT_DSP]
@[simp] theorem width_TKP_IRIGIN_STAT_DSP : fldWidth TKP_IRIGIN_STAT_DSP = 1 := by simp only [fldWidth, TKP_IRIGIN_STAT_DSP]
@[simp] theorem key_TKP_IRIGIN_STAT_DST : fldKey TKP_IRIGIN_STAT_DST = 67109620 := by simp only [fldKey, TKP_IRIGIN_STAT_DST]
@[simp] theorem width_TKP_IRIGIN_STAT_DST : fldWidth TKP_IRIGIN_STAT_DST = 1 := by simp only [fldWidth, TKP_IRIGIN_STAT_DST]
@[simp] theorem key_TKP_IRIGIN_STAT_ERRCNT : fldKey TKP_IRIGIN_STAT_ERRCNT = 67109608 := by simp only [fldKey, TKP_IRIGIN_STAT_ERRCNT]
@[simp] theorem width_TKP_IRIGIN_STAT_ERRCNT : fldWidth TKP_IRIGIN_STAT_ERRCNT = 8 := by simp only [fldWidth, TKP_IRIGIN_STAT_ERRCNT]
@[simp] theorem key_TKP_IRIGOUT_CFG_EN : fldKey TKP_IRIGOUT_CFG_EN = 67109663 := by simp only [fldKey, TKP_IRIGOUT_CFG_EN]
@[simp] theorem width_TKP_IRIGOUT_CFG_EN : fldWidth TKP_IRIGOUT_CFG_EN = 1 := by simp only [fldWidth, TKP_IRIGOUT_CFG_EN]
@[simp] theorem key_TKP_IRIGOUT_CFG_CODE : fldKey TKP_IRIGOUT_CFG_CODE = 67109660 := by simp only [fldKey, TKP_IRIGOUT_CFG_CODE]
@[simp] theorem width_TKP_IRIGOUT_CFG_CODE : fldWidth TKP_IRIGOUT_CFG_CODE = 3 := by simp only [fldWidth, TKP_IRIGOUT_CFG_CODE]
@[simp] theorem key_TKP_IRIGOUT_CFG_SCALE : fldKey TKP_IRIGOUT_CFG_SCALE = 67109658 := by simp only [fldKey, TKP_IRIGOUT_CFG_SCALE]
@[simp] theorem width_TKP_IRIGOUT_CFG_SCALE : fldWidth TKP_IRIGOUT_CFG_SCALE = 2 := by simp only [fldWidth, TKP_IRIGOUT_CFG_SCALE]
@[simp] theorem key_TKP_IRIGOUT_CFG_EXT : fldKey TKP_IRIGOUT_CFG_EXT = 67109657 := by simp only [fldKey, TKP_IRIGOUT_CFG_EXT]
@[simp] theorem width_TKP_IRIGOUT_CFG_EXT : fldWidth TKP_IRIGOUT_CFG_EXT = 1 := by simp only [fldWidth, TKP_IRIGOUT_CFG_EXT]
@[simp] theorem key_TKP_RTC_CTL_PENDING : fldKey TKP_RTC_CTL_PENDING = 67109919 := by simp only [fldKey, TKP_RTC_CTL_PENDING]
@[simp] theorem width_TKP_RTC_CTL_PENDING : fldWidth TKP_RTC_CTL_PENDING = 1 := by simp only [fldWidth, TKP_RTC_CTL_PENDING]
@[simp] theorem key_TKP_RTC_CTL_DISC : fldKey TKP_RTC_CTL_DISC = 67109918 := by simp only [fldKey, TKP_RTC_CTL_DISC]
@[simp] theorem width_TKP_RTC_CTL_DISC : fldWidth TKP_RTC_CTL_DISC = 1 := by simp only [fldWidth, TKP_RTC_CTL_DISC]
@[simp] theorem key_TKP_RTC_CTL_DAT : fldKey TKP_RTC_CTL_DAT = 67109904 := by simp only [fldKey, TKP_RTC_CTL_DAT]
@[simp] theorem width_TKP_RTC_CTL_DAT : fldWidth TKP_RTC_CTL_DAT = 8 := by simp only [fldWidth, TKP_RTC_CTL_DAT]
@[simp] theorem key_TKP_RTC_CTL_TRIM : fldKey TKP_RTC_CTL_TRIM = 67109888 := by simp only [fldKey, TKP_RTC_CTL_TRIM]
@[simp] theorem width_TKP_RTC_CTL_TRIM : fldWidth TKP_RTC_CTL_TRIM = 16 := by simp only [fldWidth, TKP_RTC_CTL_TRIM]
@[simp] theorem key_TKP_RTC_STAT_SET : fldKey TKP_RTC_STAT_SET = 67109951 := by simp only [fldKey, TKP_RTC_STAT_SET]
@[simp] theorem width_TKP_RTC_STAT_SET : fldWidth TKP_RTC_STAT_SET = 1 := by simp only [fldWidth, TKP_RTC_STAT_SET]
@[simp] theorem key_TKP_RTC_STAT_RUN : fldKey TKP_RTC_STAT_RUN = 67109950 := by simp only [fldKey, TKP_RTC_STAT_RUN]
@[simp] theorem width_TKP_RTC_STAT_RUN : fldWidth TKP_RTC_STAT_RUN = 1 := by simp only [fldWidth, TKP_RTC_STAT_RUN]
@[simp] theorem key_TKP_RTC_STAT_OSC_FAIL : fldKey TKP_RTC_STAT_OSC_FAIL = 67109949 := by simp only [fldKey, TKP_RTC_STAT_OSC_FAIL]
@[simp] theorem width_TKP_RTC_STAT_OSC_FAIL : fldWidth TKP_RTC_STAT_OSC_FAIL = 1 := by simp only [fldWidth, TKP_RTC_STAT_OSC_FAIL]
@[simp] theorem key_TKP_RTC_STAT_VBAT_LOW : fldKey TKP_RTC_STAT_VBAT_LOW = 67109948 := by simp only [fldKey, TKP_RTC_STAT_VBAT_LOW]
@[simp] theorem width_TKP_RTC_STAT_VBAT_LOW : fldWidth TKP_RTC_STAT_VBAT_LOW = 1 := by simp only [fldWidth, TKP_RTC_STAT_VBAT_LOW]
@[simp] theorem key_TKP_RTC_STAT_DSYNC : fldKey TKP_RTC_STAT_DSYNC = 67109947 := by simp only [fldKey, TKP_RTC_STAT_DSYNC]
@[simp] theorem width_TKP_RTC_STAT_DSYNC : fldWidth TKP_RTC_STAT_DSYNC = 1 := by simp only [fldWidth, TKP_RTC_STAT_DSYNC]
@[simp] theorem key_TKP_RTC_SEC_LO_SECONDS : fldKey TKP_RTC_SEC_LO_SECONDS = 67109952 := by simp only [fldKey, TKP_RTC_SEC_LO_SECONDS]
@[simp] theorem width_TKP_RTC_SEC_LO_SECONDS : fldWidth TKP_RTC_SEC_LO_SECONDS = 32 := by simp only [fldWidth, TKP_RTC_SEC_LO_SECONDS]
@[simp] theorem key_TKP_RTC_SEC_HI_SECONDS : fldKey TKP_RTC_SEC_HI_SECONDS = 67110000 := by simp only [fldKey, TKP_RTC_SEC_HI_SECONDS]
@[simp] theorem width_TKP_RTC_SEC_HI_SECONDS : fldWidth TKP_RTC_SEC_HI_SECONDS = 16 := by simp only [fldWidth, TKP_RTC_SEC_HI_SECONDS]
@[simp] theorem key_TKP_RTC_SEC_HI_SUBSEC : fldKey TKP_RTC_SEC_HI_SUBSEC = 67109984 := by simp only [fldKey, TKP_RTC_SEC_HI_SUBSEC]
@[simp] theorem width_TKP_RTC_SEC_HI_SUBSEC : fldWidth TKP_RTC_SEC_HI_SUBSEC = 15 := by simp only [fldWidth, TKP_RTC_SEC_HI_SUBSEC]
@[simp] theorem key_TKP_DSTk_T_T (n : Nat) : fldKey (TKP_DSTk_T_T n) = 67110912 + 64 * n := by simp only [fldKey, TKP_DSTk_T_T]; omega
@[simp] theorem width_TKP_DSTk_T_T (n : Nat) : fldWidth (TKP_DSTk_T_T n) = 32 := by simp only [fldWidth, TKP_DSTk_T_T]
@[simp] theorem key_TKP_DSTk_O_VALID (n : Nat) : fldKey (TKP_DSTk_O_VALID n) = 67110975 + 64 * n := by simp only [fldKey, TKP_DSTk_O_VALID]; omega
@[simp] theorem width_TKP_DSTk_O_VALID (n : Nat) : fldWidth (TKP_DSTk_O_VALID n) = 1 := by simp only [fldWidth, TKP_DSTk_O_VALID]
@[simp] theorem key_TKP_DSTk_O_DST (n : Nat) : fldKey (TKP_DSTk_O_DST n) = 67110974 + 64 * n := by simp only [fldKey, TKP_DSTk_O_DST]; omega
@[simp] theorem width_TKP_DSTk_O_DST (n : Nat) : fldWidth (TKP_DSTk_O_DST n) = 1 := by simp only [fldWidth, TKP_DSTk_O_DST]
@[simp] theorem key_TKP_DSTk_O_OFFSET (n : Nat) : fldKey (TKP_DSTk_O_OFFSET n) = 67110944 + 64 * n := by simp only [fldKey, TKP_DSTk_O_OFFSET]; omega
@[simp] theorem width_TKP_DSTk_O_OFFSET (n : Nat) : fldWidth (TKP_DSTk_O_OFFSET n) = 16 := by simp only [fldWidth, TKP_DSTk_O_OFFSET]
@[simp] theorem key_MNS_CHn_CFG_EN (n : Nat) : fldKey (MNS_CHn_CFG_EN n) = 75497503 + 256 * n := by simp only [fldKey, MNS_CHn_CFG_EN]; omega
@[simp] theorem width_MNS_CHn_CFG_EN (n : Nat) : fldWidth (MNS_CHn_CFG_EN n) = 1 := by simp only [fldWidth, MNS_CHn_CFG_EN]
@[simp] theorem key_MNS_CHn_CFG_INV (n : Nat) : fldKey (MNS_CHn_CFG_INV n) = 75497502 + 256 * n := by simp only [fldKey, MNS_CHn_CFG_INV]; omega
@[simp] theorem width_MNS_CHn_CFG_INV (n : Nat) : fldWidth (MNS_CHn_CFG_INV n) = 1 := by simp only [fldWidth, MNS_CHn_CFG_INV]
@[simp] theorem key_MNS_CHn_CFG_WCYC (n : Nat) : fldKey (MNS_CHn_CFG_WCYC n) = 75497500 + 256 * n := by simp only [fldKey, MNS_CHn_CFG_WCYC]; omega
@[simp] theorem width_MNS_CHn_CFG_WCYC (n : Nat) : fldWidth (MNS_CHn_CFG_WCYC n) = 2 := by simp only [fldWidth, MNS_CHn_CFG_WCYC]
@[simp] theorem key_MNS_CHn_CFG_FWIN (n : Nat) : fldKey (MNS_CHn_CFG_FWIN n) = 75497494 + 256 * n := by simp only [fldKey, MNS_CHn_CFG_FWIN]; omega
@[simp] theorem width_MNS_CHn_CFG_FWIN (n : Nat) : fldWidth (MNS_CHn_CFG_FWIN n) = 6 := by simp only [fldWidth, MNS_CHn_CFG_FWIN]
@[simp] theorem key_MNS_CHn_CFG_VALID_N (n : Nat) : fldKey (MNS_CHn_CFG_VALID_N n) = 75497488 + 256 * n := by simp only [fldKey, MNS_CHn_CFG_VALID_N]; omega
@[simp] theorem width_MNS_CHn_CFG_VALID_N (n : Nat) : fldWidth (MNS_CHn_CFG_VALID_N n) = 6 := by simp only [fldWidth, MNS_CHn_CFG_VALID_N]
@[simp] theorem key_MNS_CHn_CFG_DROP_MAX (n : Nat) : fldKey (MNS_CHn_CFG_DROP_MAX n) = 75497480 + 256 * n := by simp only [fldKey, MNS_CHn_CFG_DROP_MAX]; omega
@[simp] theorem width_MNS_CHn_CFG_DROP_MAX (n : Nat) : fldWidth (MNS_CHn_CFG_DROP_MAX n) = 8 := by simp only [fldWidth, MNS_CHn_CFG_DROP_MAX]
@[simp] theorem key_MNS_CHn_CFG_PJUMP (n : Nat) : fldKey (MNS_CHn_CFG_PJUMP n) = 75497472 + 256 * n := by simp only [fldKey, MNS_CHn_CFG_PJUMP]; omega
@[simp] theorem width_MNS_CHn_CFG_PJUMP (n : Nat) : fldWidth (MNS_CHn_CFG_PJUMP n) = 8 := by simp only [fldWidth, MNS_CHn_CFG_PJUMP]
@[simp] theorem key_MNS_CHn_LIM_AMIN (n : Nat) : fldKey (MNS_CHn_LIM_AMIN n) = 75497520 + 256 * n := by simp only [fldKey, MNS_CHn_LIM_AMIN]; omega
@[simp] theorem width_MNS_CHn_LIM_AMIN (n : Nat) : fldWidth (MNS_CHn_LIM_AMIN n) = 16 := by simp only [fldWidth, MNS_CHn_LIM_AMIN]
@[simp] theorem key_MNS_CHn_LIM_ADROP (n : Nat) : fldKey (MNS_CHn_LIM_ADROP n) = 75497504 + 256 * n := by simp only [fldKey, MNS_CHn_LIM_ADROP]; omega
@[simp] theorem width_MNS_CHn_LIM_ADROP (n : Nat) : fldWidth (MNS_CHn_LIM_ADROP n) = 16 := by simp only [fldWidth, MNS_CHn_LIM_ADROP]
@[simp] theorem key_MNS_CHn_PHCAL_PHCAL (n : Nat) : fldKey (MNS_CHn_PHCAL_PHCAL n) = 75497536 + 256 * n := by simp only [fldKey, MNS_CHn_PHCAL_PHCAL]; omega
@[simp] theorem width_MNS_CHn_PHCAL_PHCAL (n : Nat) : fldWidth (MNS_CHn_PHCAL_PHCAL n) = 32 := by simp only [fldWidth, MNS_CHn_PHCAL_PHCAL]
@[simp] theorem key_MNS_CHn_STAT_STATE (n : Nat) : fldKey (MNS_CHn_STAT_STATE n) = 75497597 + 256 * n := by simp only [fldKey, MNS_CHn_STAT_STATE]; omega
@[simp] theorem width_MNS_CHn_STAT_STATE (n : Nat) : fldWidth (MNS_CHn_STAT_STATE n) = 3 := by simp only [fldWidth, MNS_CHn_STAT_STATE]
@[simp] theorem key_MNS_CHn_STAT_VALID (n : Nat) : fldKey (MNS_CHn_STAT_VALID n) = 75497596 + 256 * n := by simp only [fldKey, MNS_CHn_STAT_VALID]; omega
@[simp] theorem width_MNS_CHn_STAT_VALID (n : Nat) : fldWidth (MNS_CHn_STAT_VALID n) = 1 := by simp only [fldWidth, MNS_CHn_STAT_VALID]
@[simp] theorem key_MNS_CHn_STAT_CLIP (n : Nat) : fldKey (MNS_CHn_STAT_CLIP n) = 75497595 + 256 * n := by simp only [fldKey, MNS_CHn_STAT_CLIP]; omega
@[simp] theorem width_MNS_CHn_STAT_CLIP (n : Nat) : fldWidth (MNS_CHn_STAT_CLIP n) = 1 := by simp only [fldWidth, MNS_CHn_STAT_CLIP]
@[simp] theorem key_MNS_CHn_STAT_DISTORTED (n : Nat) : fldKey (MNS_CHn_STAT_DISTORTED n) = 75497594 + 256 * n := by simp only [fldKey, MNS_CHn_STAT_DISTORTED]; omega
@[simp] theorem width_MNS_CHn_STAT_DISTORTED (n : Nat) : fldWidth (MNS_CHn_STAT_DISTORTED n) = 1 := by simp only [fldWidth, MNS_CHn_STAT_DISTORTED]
@[simp] theorem key_MNS_CHn_STAT_CFG_ERR (n : Nat) : fldKey (MNS_CHn_STAT_CFG_ERR n) = 75497593 + 256 * n := by simp only [fldKey, MNS_CHn_STAT_CFG_ERR]; omega
@[simp] theorem width_MNS_CHn_STAT_CFG_ERR (n : Nat) : fldWidth (MNS_CHn_STAT_CFG_ERR n) = 1 := by simp only [fldWidth, MNS_CHn_STAT_CFG_ERR]
@[simp] theorem key_MNS_CHn_PHASE_PHASE (n : Nat) : fldKey (MNS_CHn_PHASE_PHASE n) = 75497600 + 256 * n := by simp only [fldKey, MNS_CHn_PHASE_PHASE]; omega
@[simp] theorem width_MNS_CHn_PHASE_PHASE (n : Nat) : fldWidth (MNS_CHn_PHASE_PHASE n) = 32 := by simp only [fldWidth, MNS_CHn_PHASE_PHASE]
@[simp] theorem key_MNS_CHn_FREQ_FREQ (n : Nat) : fldKey (MNS_CHn_FREQ_FREQ n) = 75497632 + 256 * n := by simp only [fldKey, MNS_CHn_FREQ_FREQ]; omega
@[simp] theorem width_MNS_CHn_FREQ_FREQ (n : Nat) : fldWidth (MNS_CHn_FREQ_FREQ n) = 32 := by simp only [fldWidth, MNS_CHn_FREQ_FREQ]
@[simp] theorem key_MNS_CHn_AMP_AMP (n : Nat) : fldKey (MNS_CHn_AMP_AMP n) = 75497680 + 256 * n := by simp only [fldKey, MNS_CHn_AMP_AMP]; omega
@[simp] theorem width_MNS_CHn_AMP_AMP (n : Nat) : fldWidth (MNS_CHn_AMP_AMP n) = 16 := by simp only [fldWidth, MNS_CHn_AMP_AMP]
@[simp] theorem key_MNS_CHn_AMP_DIST (n : Nat) : fldKey (MNS_CHn_AMP_DIST n) = 75497664 + 256 * n := by simp only [fldKey, MNS_CHn_AMP_DIST]; omega
@[simp] theorem width_MNS_CHn_AMP_DIST (n : Nat) : fldWidth (MNS_CHn_AMP_DIST n) = 16 := by simp only [fldWidth, MNS_CHn_AMP_DIST]
@[simp] theorem key_MNS_CHn_DFDT_DFDT (n : Nat) : fldKey (MNS_CHn_DFDT_DFDT n) = 75497696 + 256 * n := by simp only [fldKey, MNS_CHn_DFDT_DFDT]; omega
@[simp] theorem width_MNS_CHn_DFDT_DFDT (n : Nat) : fldWidth (MNS_CHn_DFDT_DFDT n) = 32 := by simp only [fldWidth, MNS_CHn_DFDT_DFDT]
@[simp] theorem key_MNS_GCFG_GRID_F : fldKey MNS_GCFG_GRID_F = 75499551 := by simp only [fldKey, MNS_GCFG_GRID_F]
@[simp] theorem width_MNS_GCFG_GRID_F : fldWidth MNS_GCFG_GRID_F = 1 := by simp only [fldWidth, MNS_GCFG_GRID_F]
@[simp] theorem key_MNS_GCFG_SEQ0_EN : fldKey MNS_GCFG_SEQ0_EN = 75499550 := by simp only [fldKey, MNS_GCFG_SEQ0_EN]
@[simp] theorem width_MNS_GCFG_SEQ0_EN : fldWidth MNS_GCFG_SEQ0_EN = 1 := by simp only [fldWidth, MNS_GCFG_SEQ0_EN]
@[simp] theorem key_MNS_GCFG_SEQ1_EN : fldKey MNS_GCFG_SEQ1_EN = 75499549 := by simp only [fldKey, MNS_GCFG_SEQ1_EN]
@[simp] theorem width_MNS_GCFG_SEQ1_EN : fldWidth MNS_GCFG_SEQ1_EN = 1 := by simp only [fldWidth, MNS_GCFG_SEQ1_EN]
@[simp] theorem key_MNS_GCFG_SEQ_TOL : fldKey MNS_GCFG_SEQ_TOL = 75499536 := by simp only [fldKey, MNS_GCFG_SEQ_TOL]
@[simp] theorem width_MNS_GCFG_SEQ_TOL : fldWidth MNS_GCFG_SEQ_TOL = 8 := by simp only [fldWidth, MNS_GCFG_SEQ_TOL]
@[simp] theorem key_MNS_GCFG_DIST_THR : fldKey MNS_GCFG_DIST_THR = 75499520 := by simp only [fldKey, MNS_GCFG_DIST_THR]
@[simp] theorem width_MNS_GCFG_DIST_THR : fldWidth MNS_GCFG_DIST_THR = 16 := by simp only [fldWidth, MNS_GCFG_DIST_THR]
@[simp] theorem key_MNS_SEQSTAT_G0 : fldKey MNS_SEQSTAT_G0 = 75499582 := by simp only [fldKey, MNS_SEQSTAT_G0]
@[simp] theorem width_MNS_SEQSTAT_G0 : fldWidth MNS_SEQSTAT_G0 = 2 := by simp only [fldWidth, MNS_SEQSTAT_G0]
@[simp] theorem key_MNS_SEQSTAT_G1 : fldKey MNS_SEQSTAT_G1 = 75499580 := by simp only [fldKey, MNS_SEQSTAT_G1]
@[simp] theorem width_MNS_SEQSTAT_G1 : fldWidth MNS_SEQSTAT_G1 = 2 := by simp only [fldWidth, MNS_SEQSTAT_G1]
@[simp] theorem key_MNS_GT_CFG_EN : fldKey MNS_GT_CFG_EN = 75499615 := by simp only [fldKey, MNS_GT_CFG_EN]
@[simp] theorem width_MNS_GT_CFG_EN : fldWidth MNS_GT_CFG_EN = 1 := by simp only [fldWidth, MNS_GT_CFG_EN]
@[simp] theorem key_MNS_GT_CFG_ALT_EN : fldKey MNS_GT_CFG_ALT_EN = 75499614 := by simp only [fldKey, MNS_GT_CFG_ALT_EN]
@[simp] theorem width_MNS_GT_CFG_ALT_EN : fldWidth MNS_GT_CFG_ALT_EN = 1 := by simp only [fldWidth, MNS_GT_CFG_ALT_EN]
@[simp] theorem key_MNS_GT_CFG_GT_CH : fldKey MNS_GT_CFG_GT_CH = 75499608 := by simp only [fldKey, MNS_GT_CFG_GT_CH]
@[simp] theorem width_MNS_GT_CFG_GT_CH : fldWidth MNS_GT_CFG_GT_CH = 3 := by simp only [fldWidth, MNS_GT_CFG_GT_CH]
@[simp] theorem key_MNS_GT_CFG_GT_ALT : fldKey MNS_GT_CFG_GT_ALT = 75499604 := by simp only [fldKey, MNS_GT_CFG_GT_ALT]
@[simp] theorem width_MNS_GT_CFG_GT_ALT : fldWidth MNS_GT_CFG_GT_ALT = 3 := by simp only [fldWidth, MNS_GT_CFG_GT_ALT]
@[simp] theorem key_MNS_GT_STAT_VALID : fldKey MNS_GT_STAT_VALID = 75499647 := by simp only [fldKey, MNS_GT_STAT_VALID]
@[simp] theorem width_MNS_GT_STAT_VALID : fldWidth MNS_GT_STAT_VALID = 1 := by simp only [fldWidth, MNS_GT_STAT_VALID]
@[simp] theorem key_MNS_GT_STAT_EXTRAP : fldKey MNS_GT_STAT_EXTRAP = 75499646 := by simp only [fldKey, MNS_GT_STAT_EXTRAP]
@[simp] theorem width_MNS_GT_STAT_EXTRAP : fldWidth MNS_GT_STAT_EXTRAP = 1 := by simp only [fldWidth, MNS_GT_STAT_EXTRAP]
@[simp] theorem key_MNS_GT_STAT_AMBIG : fldKey MNS_GT_STAT_AMBIG = 75499645 := by simp only [fldKey, MNS_GT_STAT_AMBIG]
@[simp] theorem width_MNS_GT_STAT_AMBIG : fldWidth MNS_GT_STAT_AMBIG = 1 := by simp only [fldWidth, MNS_GT_STAT_AMBIG]
@[simp] theorem key_MNS_GT_STAT_RESTORED : fldKey MNS_GT_STAT_RESTORED = 75499644 := by simp only [fldKey, MNS_GT_STAT_RESTORED]
@[simp] theorem width_MNS_GT_STAT_RESTORED : fldWidth MNS_GT_STAT_RESTORED = 1 := by simp only [fldWidth, MNS_GT_STAT_RESTORED]
@[simp] theorem key_MNS_GT_STAT_CFG_ERR : fldKey MNS_GT_STAT_CFG_ERR = 75499643 := by simp only [fldKey, MNS_GT_STAT_CFG_ERR]
@[simp] theorem width_MNS_GT_STAT_CFG_ERR : fldWidth MNS_GT_STAT_CFG_ERR = 1 := by simp only [fldWidth, MNS_GT_STAT_CFG_ERR]
@[simp] theorem key_MNS_GT_STAT_D_VALID : fldKey MNS_GT_STAT_D_VALID = 75499642 := by simp only [fldKey, MNS_GT_STAT_D_VALID]
@[simp] theorem width_MNS_GT_STAT_D_VALID : fldWidth MNS_GT_STAT_D_VALID = 1 := by simp only [fldWidth, MNS_GT_STAT_D_VALID]
@[simp] theorem key_MNS_GT_STAT_SRC : fldKey MNS_GT_STAT_SRC = 75499637 := by simp only [fldKey, MNS_GT_STAT_SRC]
@[simp] theorem width_MNS_GT_STAT_SRC : fldWidth MNS_GT_STAT_SRC = 3 := by simp only [fldWidth, MNS_GT_STAT_SRC]
@[simp] theorem key_MNS_GT_CNT_LO_N : fldKey MNS_GT_CNT_LO_N = 75499648 := by simp only [fldKey, MNS_GT_CNT_LO_N]
@[simp] theorem width_MNS_GT_CNT_LO_N : fldWidth MNS_GT_CNT_LO_N = 32 := by simp only [fldWidth, MNS_GT_CNT_LO_N]
@[simp] theorem key_MNS_GT_CNT_HI_N : fldKey MNS_GT_CNT_HI_N = 75499680 := by simp only [fldKey, MNS_GT_CNT_HI_N]
@[simp] theorem width_MNS_GT_CNT_HI_N : fldWidth MNS_GT_CNT_HI_N = 32 := by simp only [fldWidth, MNS_GT_CNT_HI_N]
@[simp] theorem key_MNS_GT_PHASE_PHASE : fldKey MNS_GT_PHASE_PHASE = 75499712 := by simp only [fldKey, MNS_GT_PHASE_PHASE]
@[simp] theorem width_MNS_GT_PHASE_PHASE : fldWidth MNS_GT_PHASE_PHASE = 32 := by simp only [fldWidth, MNS_GT_PHASE_PHASE]
@[simp] theorem key_MNS_GT_DEV_DEV : fldKey MNS_GT_DEV_DEV = 75499744 := by simp only [fldKey, MNS_GT_DEV_DEV]
@[simp] theorem width_MNS_GT_DEV_DEV : fldWidth MNS_GT_DEV_DEV = 32 := by simp only [fldWidth, MNS_GT_DEV_DEV]
@[simp] theorem key_MNS_GT_STEP_STEP : fldKey MNS_GT_STEP_STEP = 75499776 := by simp only [fldKey, MNS_GT_STEP_STEP]
@[simp] theorem width_MNS_GT_STEP_STEP : fldWidth MNS_GT_STEP_STEP = 32 := by simp only [fldWidth, MNS_GT_STEP_STEP]
@[simp] theorem key_MNS_CTL_GT_ALIGN : fldKey MNS_CTL_GT_ALIGN = 75499811 := by simp only [fldKey, MNS_CTL_GT_ALIGN]
@[simp] theorem width_MNS_CTL_GT_ALIGN : fldWidth MNS_CTL_GT_ALIGN = 1 := by simp only [fldWidth, MNS_CTL_GT_ALIGN]
@[simp] theorem key_MNS_CTL_FLUSH_ZQ : fldKey MNS_CTL_FLUSH_ZQ = 75499810 := by simp only [fldKey, MNS_CTL_FLUSH_ZQ]
@[simp] theorem width_MNS_CTL_FLUSH_ZQ : fldWidth MNS_CTL_FLUSH_ZQ = 1 := by simp only [fldWidth, MNS_CTL_FLUSH_ZQ]
@[simp] theorem key_MNS_CTL_POP_ZQ : fldKey MNS_CTL_POP_ZQ = 75499809 := by simp only [fldKey, MNS_CTL_POP_ZQ]
@[simp] theorem width_MNS_CTL_POP_ZQ : fldWidth MNS_CTL_POP_ZQ = 1 := by simp only [fldWidth, MNS_CTL_POP_ZQ]
@[simp] theorem key_MNS_CTL_SNAP : fldKey MNS_CTL_SNAP = 75499808 := by simp only [fldKey, MNS_CTL_SNAP]
@[simp] theorem width_MNS_CTL_SNAP : fldWidth MNS_CTL_SNAP = 1 := by simp only [fldWidth, MNS_CTL_SNAP]
@[simp] theorem key_MNS_EVT_PJUMP : fldKey MNS_EVT_PJUMP = 75499856 := by simp only [fldKey, MNS_EVT_PJUMP]
@[simp] theorem width_MNS_EVT_PJUMP : fldWidth MNS_EVT_PJUMP = 6 := by simp only [fldWidth, MNS_EVT_PJUMP]
@[simp] theorem key_MNS_EVT_VALID_CHG : fldKey MNS_EVT_VALID_CHG = 75499848 := by simp only [fldKey, MNS_EVT_VALID_CHG]
@[simp] theorem width_MNS_EVT_VALID_CHG : fldWidth MNS_EVT_VALID_CHG = 6 := by simp only [fldWidth, MNS_EVT_VALID_CHG]
@[simp] theorem key_MNS_EVT_GT_SRC : fldKey MNS_EVT_GT_SRC = 75499845 := by simp only [fldKey, MNS_EVT_GT_SRC]
@[simp] theorem width_MNS_EVT_GT_SRC : fldWidth MNS_EVT_GT_SRC = 1 := by simp only [fldWidth, MNS_EVT_GT_SRC]
@[simp] theorem key_MNS_EVT_GT_ALIGN : fldKey MNS_EVT_GT_ALIGN = 75499844 := by simp only [fldKey, MNS_EVT_GT_ALIGN]
@[simp] theorem width_MNS_EVT_GT_ALIGN : fldWidth MNS_EVT_GT_ALIGN = 1 := by simp only [fldWidth, MNS_EVT_GT_ALIGN]
@[simp] theorem key_MNS_EVT_SEQ : fldKey MNS_EVT_SEQ = 75499843 := by simp only [fldKey, MNS_EVT_SEQ]
@[simp] theorem width_MNS_EVT_SEQ : fldWidth MNS_EVT_SEQ = 1 := by simp only [fldWidth, MNS_EVT_SEQ]
@[simp] theorem key_MNS_EVT_ZQT : fldKey MNS_EVT_ZQT = 75499842 := by simp only [fldKey, MNS_EVT_ZQT]
@[simp] theorem width_MNS_EVT_ZQT : fldWidth MNS_EVT_ZQT = 1 := by simp only [fldWidth, MNS_EVT_ZQT]
@[simp] theorem key_MNS_EVT_EN_EN : fldKey MNS_EVT_EN_EN = 75499872 := by simp only [fldKey, MNS_EVT_EN_EN]
@[simp] theorem width_MNS_EVT_EN_EN : fldWidth MNS_EVT_EN_EN = 32 := by simp only [fldWidth, MNS_EVT_EN_EN]
@[simp] theorem key_MNS_SNAP_NS_NS : fldKey MNS_SNAP_NS_NS = 75499904 := by simp only [fldKey, MNS_SNAP_NS_NS]
@[simp] theorem width_MNS_SNAP_NS_NS : fldWidth MNS_SNAP_NS_NS = 30 := by simp only [fldWidth, MNS_SNAP_NS_NS]
@[simp] theorem key_MNS_SNAP_SEC_LO_SEC : fldKey MNS_SNAP_SEC_LO_SEC = 75499936 := by simp only [fldKey, MNS_SNAP_SEC_LO_SEC]
@[simp] theorem width_MNS_SNAP_SEC_LO_SEC : fldWidth MNS_SNAP_SEC_LO_SEC = 32 := by simp only [fldWidth, MNS_SNAP_SEC_LO_SEC]
@[simp] theorem key_MNS_SNAP_SEC_HI_SEC : fldKey MNS_SNAP_SEC_HI_SEC = 75499968 := by simp only [fldKey, MNS_SNAP_SEC_HI_SEC]
@[simp] theorem width_MNS_SNAP_SEC_HI_SEC : fldWidth MNS_SNAP_SEC_HI_SEC = 32 := by simp only [fldWidth, MNS_SNAP_SEC_HI_SEC]
@[simp] theorem key_MNS_ZQCFG_NEG_EN : fldKey MNS_ZQCFG_NEG_EN = 75500024 := by simp only [fldKey, MNS_ZQCFG_NEG_EN]
@[simp] theorem width_MNS_ZQCFG_NEG_EN : fldWidth MNS_ZQCFG_NEG_EN = 6 := by simp only [fldWidth, MNS_ZQCFG_NEG_EN]
@[simp] theorem key_MNS_ZQCFG_POS_EN : fldKey MNS_ZQCFG_POS_EN = 75500016 := by simp only [fldKey, MNS_ZQCFG_POS_EN]
@[simp] theorem width_MNS_ZQCFG_POS_EN : fldWidth MNS_ZQCFG_POS_EN = 6 := by simp only [fldWidth, MNS_ZQCFG_POS_EN]
@[simp] theorem key_MNS_ZQCFG_QTHR : fldKey MNS_ZQCFG_QTHR = 75500000 := by simp only [fldKey, MNS_ZQCFG_QTHR]
@[simp] theorem width_MNS_ZQCFG_QTHR : fldWidth MNS_ZQCFG_QTHR = 9 := by simp only [fldWidth, MNS_ZQCFG_QTHR]
@[simp] theorem key_MNS_ZQSTAT_LOST : fldKey MNS_ZQSTAT_LOST = 75500048 := by simp only [fldKey, MNS_ZQSTAT_LOST]
@[simp] theorem width_MNS_ZQSTAT_LOST : fldWidth MNS_ZQSTAT_LOST = 16 := by simp only [fldWidth, MNS_ZQSTAT_LOST]
@[simp] theorem key_MNS_ZQSTAT_OVF : fldKey MNS_ZQSTAT_OVF = 75500045 := by simp only [fldKey, MNS_ZQSTAT_OVF]
@[simp] theorem width_MNS_ZQSTAT_OVF : fldWidth MNS_ZQSTAT_OVF = 1 := by simp only [fldWidth, MNS_ZQSTAT_OVF]
@[simp] theorem key_MNS_ZQSTAT_LEVEL : fldKey MNS_ZQSTAT_LEVEL = 75500032 := by simp only [fldKey, MNS_ZQSTAT_LEVEL]
@[simp] theorem width_MNS_ZQSTAT_LEVEL : fldWidth MNS_ZQSTAT_LEVEL = 9 := by simp only [fldWidth, MNS_ZQSTAT_LEVEL]
@[simp] theorem key_MNS_ZQ_HEAD (n : Nat) : fldKey (MNS_ZQ_HEAD n) = 75500064 + 32 * n := by simp only [fldKey, MNS_ZQ_HEAD]; omega
@[simp] theorem width_MNS_ZQ_HEAD (n : Nat) : fldWidth (MNS_ZQ_HEAD n) = 32 := by simp only [fldWidth, MNS_ZQ_HEAD]
@[simp] theorem key_MNS_TEST_GO : fldKey MNS_TEST_GO = 75500223 := by simp only [fldKey, MNS_TEST_GO]
@[simp] theorem width_MNS_TEST_GO : fldWidth MNS_TEST_GO = 1 := by simp only [fldWidth, MNS_TEST_GO]
@[simp] theorem key_MNS_TEST_CH : fldKey MNS_TEST_CH = 75500192 := by simp only [fldKey, MNS_TEST_CH]
@[simp] theorem width_MNS_TEST_CH : fldWidth MNS_TEST_CH = 3 := by simp only [fldWidth, MNS_TEST_CH]
@[simp] theorem key_MNS_TESTRES_DONE : fldKey MNS_TESTRES_DONE = 75500255 := by simp only [fldKey, MNS_TESTRES_DONE]
@[simp] theorem width_MNS_TESTRES_DONE : fldWidth MNS_TESTRES_DONE = 1 := by simp only [fldWidth, MNS_TESTRES_DONE]
@[simp] theorem key_MNS_TESTRES_PASS : fldKey MNS_TESTRES_PASS = 75500254 := by simp only [fldKey, MNS_TESTRES_PASS]
@[simp] theorem width_MNS_TESTRES_PASS : fldWidth MNS_TESTRES_PASS = 1 := by simp only [fldWidth, MNS_TESTRES_PASS]
@[simp] theorem key_MNS_TESTRES_MEAN : fldKey MNS_TESTRES_MEAN = 75500224 := by simp only [fldKey, MNS_TESTRES_MEAN]
@[simp] theorem width_MNS_TESTRES_MEAN : fldWidth MNS_TESTRES_MEAN = 24 := by simp only [fldWidth, MNS_TESTRES_MEAN]
@[simp] theorem key_AST_LAT_LAT : fldKey AST_LAT_LAT = 83886080 := by simp only [fldKey, AST_LAT_LAT]
@[simp] theorem width_AST_LAT_LAT : fldWidth AST_LAT_LAT = 32 := by simp only [fldWidth, AST_LAT_LAT]
@[simp] theorem key_AST_LON_LON : fldKey AST_LON_LON = 83886112 := by simp only [fldKey, AST_LON_LON]
@[simp] theorem width_AST_LON_LON : fldWidth AST_LON_LON = 32 := by simp only [fldWidth, AST_LON_LON]
@[simp] theorem key_AST_ALT_ALT : fldKey AST_ALT_ALT = 83886160 := by simp only [fldKey, AST_ALT_ALT]
@[simp] theorem width_AST_ALT_ALT : fldWidth AST_ALT_ALT = 16 := by simp only [fldWidth, AST_ALT_ALT]
@[simp] theorem key_AST_ALT_DIP : fldKey AST_ALT_DIP = 83886159 := by simp only [fldKey, AST_ALT_DIP]
@[simp] theorem width_AST_ALT_DIP : fldWidth AST_ALT_DIP = 1 := by simp only [fldWidth, AST_ALT_DIP]
@[simp] theorem key_AST_CFG_EN : fldKey AST_CFG_EN = 83886207 := by simp only [fldKey, AST_CFG_EN]
@[simp] theorem width_AST_CFG_EN : fldWidth AST_CFG_EN = 1 := by simp only [fldWidth, AST_CFG_EN]
@[simp] theorem key_AST_CFG_DUT1 : fldKey AST_CFG_DUT1 = 83886192 := by simp only [fldKey, AST_CFG_DUT1]
@[simp] theorem width_AST_CFG_DUT1 : fldWidth AST_CFG_DUT1 = 8 := by simp only [fldWidth, AST_CFG_DUT1]
@[simp] theorem key_AST_THRk_EN (n : Nat) : fldKey (AST_THRk_EN n) = 83886239 + 32 * n := by simp only [fldKey, AST_THRk_EN]; omega
@[simp] theorem width_AST_THRk_EN (n : Nat) : fldWidth (AST_THRk_EN n) = 1 := by simp only [fldWidth, AST_THRk_EN]
@[simp] theorem key_AST_THRk_ELEV (n : Nat) : fldKey (AST_THRk_ELEV n) = 83886208 + 32 * n := by simp only [fldKey, AST_THRk_ELEV]; omega
@[simp] theorem width_AST_THRk_ELEV (n : Nat) : fldWidth (AST_THRk_ELEV n) = 16 := by simp only [fldWidth, AST_THRk_ELEV]
@[simp] theorem key_AST_CTL_RECALC : fldKey AST_CTL_RECALC = 83886336 := by simp only [fldKey, AST_CTL_RECALC]
@[simp] theorem width_AST_CTL_RECALC : fldWidth AST_CTL_RECALC = 1 := by simp only [fldWidth, AST_CTL_RECALC]
@[simp] theorem key_AST_STAT_STATE : fldKey AST_STAT_STATE = 83886397 := by simp only [fldKey, AST_STAT_STATE]
@[simp] theorem width_AST_STAT_STATE : fldWidth AST_STAT_STATE = 3 := by simp only [fldWidth, AST_STAT_STATE]
@[simp] theorem key_AST_STAT_CFG_ERR : fldKey AST_STAT_CFG_ERR = 83886396 := by simp only [fldKey, AST_STAT_CFG_ERR]
@[simp] theorem width_AST_STAT_CFG_ERR : fldWidth AST_STAT_CFG_ERR = 1 := by simp only [fldWidth, AST_STAT_CFG_ERR]
@[simp] theorem key_AST_STAT_RANGE : fldKey AST_STAT_RANGE = 83886395 := by simp only [fldKey, AST_STAT_RANGE]
@[simp] theorem width_AST_STAT_RANGE : fldWidth AST_STAT_RANGE = 1 := by simp only [fldWidth, AST_STAT_RANGE]
@[simp] theorem key_AST_STAT_GEN : fldKey AST_STAT_GEN = 83886384 := by simp only [fldKey, AST_STAT_GEN]
@[simp] theorem width_AST_STAT_GEN : fldWidth AST_STAT_GEN = 8 := by simp only [fldWidth, AST_STAT_GEN]
@[simp] theorem key_AST_EVT_HALT : fldKey AST_EVT_HALT = 83886402 := by simp only [fldKey, AST_EVT_HALT]
@[simp] theorem width_AST_EVT_HALT : fldWidth AST_EVT_HALT = 1 := by simp only [fldWidth, AST_EVT_HALT]
@[simp] theorem key_AST_EVT_ROLL : fldKey AST_EVT_ROLL = 83886401 := by simp only [fldKey, AST_EVT_ROLL]
@[simp] theorem width_AST_EVT_ROLL : fldWidth AST_EVT_ROLL = 1 := by simp only [fldWidth, AST_EVT_ROLL]
@[simp] theorem key_AST_EVT_DONE : fldKey AST_EVT_DONE = 83886400 := by simp only [fldKey, AST_EVT_DONE]
@[simp] theorem width_AST_EVT_DONE : fldWidth AST_EVT_DONE = 1 := by simp only [fldWidth, AST_EVT_DONE]
@[simp] theorem key_AST_EVT_EN_EN : fldKey AST_EVT_EN_EN = 83886432 := by simp only [fldKey, AST_EVT_EN_EN]
@[simp] theorem width_AST_EVT_EN_EN : fldWidth AST_EVT_EN_EN = 32 := by simp only [fldWidth, AST_EVT_EN_EN]
@[simp] theorem key_AST_TEST_GO : fldKey AST_TEST_GO = 83886495 := by simp only [fldKey, AST_TEST_GO]
@[simp] theorem width_AST_TEST_GO : fldWidth AST_TEST_GO = 1 := by simp only [fldWidth, AST_TEST_GO]
@[simp] theorem key_AST_TESTRES_DONE : fldKey AST_TESTRES_DONE = 83886527 := by simp only [fldKey, AST_TESTRES_DONE]
@[simp] theorem width_AST_TESTRES_DONE : fldWidth AST_TESTRES_DONE = 1 := by simp only [fldWidth, AST_TESTRES_DONE]
@[simp] theorem key_AST_TESTRES_PASS : fldKey AST_TESTRES_PASS = 83886526 := by simp only [fldKey, AST_TESTRES_PASS]
@[simp] theorem width_AST_TESTRES_PASS : fldWidth AST_TESTRES_PASS = 1 := by simp only [fldWidth, AST_TESTRES_PASS]
@[simp] theorem key_AST_TESTRES_FIRST : fldKey AST_TESTRES_FIRST = 83886496 := by simp only [fldKey, AST_TESTRES_FIRST]
@[simp] theorem width_AST_TESTRES_FIRST : fldWidth AST_TESTRES_FIRST = 5 := by simp only [fldWidth, AST_TESTRES_FIRST]
@[simp] theorem key_AST_DAYd_EVe_LO_SEC (n j : Nat) : fldKey (AST_DAYd_EVe_LO_SEC n j) = 83888128 + 2048 * n + 64 * j := by simp only [fldKey, AST_DAYd_EVe_LO_SEC]; omega
@[simp] theorem width_AST_DAYd_EVe_LO_SEC (n j : Nat) : fldWidth (AST_DAYd_EVe_LO_SEC n j) = 32 := by simp only [fldWidth, AST_DAYd_EVe_LO_SEC]
@[simp] theorem key_AST_DAYd_EVe_HI_VALID (n j : Nat) : fldKey (AST_DAYd_EVe_HI_VALID n j) = 83888191 + 2048 * n + 64 * j := by simp only [fldKey, AST_DAYd_EVe_HI_VALID]; omega
@[simp] theorem width_AST_DAYd_EVe_HI_VALID (n j : Nat) : fldWidth (AST_DAYd_EVe_HI_VALID n j) = 1 := by simp only [fldWidth, AST_DAYd_EVe_HI_VALID]
@[simp] theorem key_AST_DAYd_EVe_HI_NOEVT (n j : Nat) : fldKey (AST_DAYd_EVe_HI_NOEVT n j) = 83888189 + 2048 * n + 64 * j := by simp only [fldKey, AST_DAYd_EVe_HI_NOEVT]; omega
@[simp] theorem width_AST_DAYd_EVe_HI_NOEVT (n j : Nat) : fldWidth (AST_DAYd_EVe_HI_NOEVT n j) = 2 := by simp only [fldWidth, AST_DAYd_EVe_HI_NOEVT]
@[simp] theorem key_AST_DAYd_EVe_HI_GRAZE (n j : Nat) : fldKey (AST_DAYd_EVe_HI_GRAZE n j) = 83888188 + 2048 * n + 64 * j := by simp only [fldKey, AST_DAYd_EVe_HI_GRAZE]; omega
@[simp] theorem width_AST_DAYd_EVe_HI_GRAZE (n j : Nat) : fldWidth (AST_DAYd_EVe_HI_GRAZE n j) = 1 := by simp only [fldWidth, AST_DAYd_EVe_HI_GRAZE]
@[simp] theorem key_AST_DAYd_EVe_HI_MS (n j : Nat) : fldKey (AST_DAYd_EVe_HI_MS n j) = 83888176 + 2048 * n + 64 * j := by simp only [fldKey, AST_DAYd_EVe_HI_MS]; omega
@[simp] theorem width_AST_DAYd_EVe_HI_MS (n j : Nat) : fldWidth (AST_DAYd_EVe_HI_MS n j) = 10 := by simp only [fldWidth, AST_DAYd_EVe_HI_MS]
@[simp] theorem key_AST_DAYd_EVe_HI_SEC (n j : Nat) : fldKey (AST_DAYd_EVe_HI_SEC n j) = 83888160 + 2048 * n + 64 * j := by simp only [fldKey, AST_DAYd_EVe_HI_SEC]; omega
@[simp] theorem width_AST_DAYd_EVe_HI_SEC (n j : Nat) : fldWidth (AST_DAYd_EVe_HI_SEC n j) = 16 := by simp only [fldWidth, AST_DAYd_EVe_HI_SEC]
@[simp] theorem key_AST_DAYd_DATE_YEAR (n : Nat) : fldKey (AST_DAYd_DATE_YEAR n) = 83889232 + 2048 * n := by simp only [fldKey, AST_DAYd_DATE_YEAR]; omega
@[simp] theorem width_AST_DAYd_DATE_YEAR (n : Nat) : fldWidth (AST_DAYd_DATE_YEAR n) = 16 := by simp only [fldWidth, AST_DAYd_DATE_YEAR]
@[simp] theorem key_AST_DAYd_DATE_MONTH (n : Nat) : fldKey (AST_DAYd_DATE_MONTH n) = 83889224 + 2048 * n := by simp only [fldKey, AST_DAYd_DATE_MONTH]; omega
@[simp] theorem width_AST_DAYd_DATE_MONTH (n : Nat) : fldWidth (AST_DAYd_DATE_MONTH n) = 8 := by simp only [fldWidth, AST_DAYd_DATE_MONTH]
@[simp] theorem key_AST_DAYd_DATE_DAY (n : Nat) : fldKey (AST_DAYd_DATE_DAY n) = 83889216 + 2048 * n := by simp only [fldKey, AST_DAYd_DATE_DAY]; omega
@[simp] theorem width_AST_DAYd_DATE_DAY (n : Nat) : fldWidth (AST_DAYd_DATE_DAY n) = 8 := by simp only [fldWidth, AST_DAYd_DATE_DAY]
@[simp] theorem key_AST_DAYd_NOONEL_ELEV (n : Nat) : fldKey (AST_DAYd_NOONEL_ELEV n) = 83889248 + 2048 * n := by simp only [fldKey, AST_DAYd_NOONEL_ELEV]; omega
@[simp] theorem width_AST_DAYd_NOONEL_ELEV (n : Nat) : fldWidth (AST_DAYd_NOONEL_ELEV n) = 16 := by simp only [fldWidth, AST_DAYd_NOONEL_ELEV]
@[simp] theorem key_SCH_CFG_EN : fldKey SCH_CFG_EN = 92274719 := by simp only [fldKey, SCH_CFG_EN]
@[simp] theorem width_SCH_CFG_EN : fldWidth SCH_CFG_EN = 1 := by simp only [fldWidth, SCH_CFG_EN]
@[simp] theorem key_SCH_CFG_RESTORE : fldKey SCH_CFG_RESTORE = 92274718 := by simp only [fldKey, SCH_CFG_RESTORE]
@[simp] theorem width_SCH_CFG_RESTORE : fldWidth SCH_CFG_RESTORE = 1 := by simp only [fldWidth, SCH_CFG_RESTORE]
@[simp] theorem key_SCH_CFG_RWIN : fldKey SCH_CFG_RWIN = 92274704 := by simp only [fldKey, SCH_CFG_RWIN]
@[simp] theorem width_SCH_CFG_RWIN : fldWidth SCH_CFG_RWIN = 8 := by simp only [fldWidth, SCH_CFG_RWIN]
@[simp] theorem key_SCH_CFG_RLEAD : fldKey SCH_CFG_RLEAD = 92274688 := by simp only [fldKey, SCH_CFG_RLEAD]
@[simp] theorem width_SCH_CFG_RLEAD : fldWidth SCH_CFG_RLEAD = 16 := by simp only [fldWidth, SCH_CFG_RLEAD]
@[simp] theorem key_SCH_STAT_STATE : fldKey SCH_STAT_STATE = 92274749 := by simp only [fldKey, SCH_STAT_STATE]
@[simp] theorem width_SCH_STAT_STATE : fldWidth SCH_STAT_STATE = 3 := by simp only [fldWidth, SCH_STAT_STATE]
@[simp] theorem key_SCH_STAT_ENT_BUSY : fldKey SCH_STAT_ENT_BUSY = 92274748 := by simp only [fldKey, SCH_STAT_ENT_BUSY]
@[simp] theorem width_SCH_STAT_ENT_BUSY : fldWidth SCH_STAT_ENT_BUSY = 1 := by simp only [fldWidth, SCH_STAT_ENT_BUSY]
@[simp] theorem key_SCH_STAT_ENT_ERR : fldKey SCH_STAT_ENT_ERR = 92274744 := by simp only [fldKey, SCH_STAT_ENT_ERR]
@[simp] theorem width_SCH_STAT_ENT_ERR : fldWidth SCH_STAT_ENT_ERR = 4 := by simp only [fldWidth, SCH_STAT_ENT_ERR]
@[simp] theorem key_SCH_STAT_NVALID : fldKey SCH_STAT_NVALID = 92274720 := by simp only [fldKey, SCH_STAT_NVALID]
@[simp] theorem width_SCH_STAT_NVALID : fldWidth SCH_STAT_NVALID = 13 := by simp only [fldWidth, SCH_STAT_NVALID]
@[simp] theorem key_SCH_EVT_RC_DONE : fldKey SCH_EVT_RC_DONE = 92274760 := by simp only [fldKey, SCH_EVT_RC_DONE]
@[simp] theorem width_SCH_EVT_RC_DONE : fldWidth SCH_EVT_RC_DONE = 8 := by simp only [fldWidth, SCH_EVT_RC_DONE]
@[simp] theorem key_SCH_EVT_FB_FAIL : fldKey SCH_EVT_FB_FAIL = 92274755 := by simp only [fldKey, SCH_EVT_FB_FAIL]
@[simp] theorem width_SCH_EVT_FB_FAIL : fldWidth SCH_EVT_FB_FAIL = 1 := by simp only [fldWidth, SCH_EVT_FB_FAIL]
@[simp] theorem key_SCH_EVT_RECOV : fldKey SCH_EVT_RECOV = 92274754 := by simp only [fldKey, SCH_EVT_RECOV]
@[simp] theorem width_SCH_EVT_RECOV : fldWidth SCH_EVT_RECOV = 1 := by simp only [fldWidth, SCH_EVT_RECOV]
@[simp] theorem key_SCH_EVT_OQT : fldKey SCH_EVT_OQT = 92274753 := by simp only [fldKey, SCH_EVT_OQT]
@[simp] theorem width_SCH_EVT_OQT : fldWidth SCH_EVT_OQT = 1 := by simp only [fldWidth, SCH_EVT_OQT]
@[simp] theorem key_SCH_EVT_ENT_DONE : fldKey SCH_EVT_ENT_DONE = 92274752 := by simp only [fldKey, SCH_EVT_ENT_DONE]
@[simp] theorem width_SCH_EVT_ENT_DONE : fldWidth SCH_EVT_ENT_DONE = 1 := by simp only [fldWidth, SCH_EVT_ENT_DONE]
@[simp] theorem key_SCH_EVT_EN_EN : fldKey SCH_EVT_EN_EN = 92274784 := by simp only [fldKey, SCH_EVT_EN_EN]
@[simp] theorem width_SCH_EVT_EN_EN : fldWidth SCH_EVT_EN_EN = 32 := by simp only [fldWidth, SCH_EVT_EN_EN]
@[simp] theorem key_SCH_ENT_IDX_IDX : fldKey SCH_ENT_IDX_IDX = 92274816 := by simp only [fldKey, SCH_ENT_IDX_IDX]
@[simp] theorem width_SCH_ENT_IDX_IDX : fldWidth SCH_ENT_IDX_IDX = 12 := by simp only [fldWidth, SCH_ENT_IDX_IDX]
@[simp] theorem key_SCH_ENT_CTL_READ : fldKey SCH_ENT_CTL_READ = 92274849 := by simp only [fldKey, SCH_ENT_CTL_READ]
@[simp] theorem width_SCH_ENT_CTL_READ : fldWidth SCH_ENT_CTL_READ = 1 := by simp only [fldWidth, SCH_ENT_CTL_READ]
@[simp] theorem key_SCH_ENT_CTL_WRITE : fldKey SCH_ENT_CTL_WRITE = 92274848 := by simp only [fldKey, SCH_ENT_CTL_WRITE]
@[simp] theorem width_SCH_ENT_CTL_WRITE : fldWidth SCH_ENT_CTL_WRITE = 1 := by simp only [fldWidth, SCH_ENT_CTL_WRITE]
@[simp] theorem key_SCH_ENT_D_D (n : Nat) : fldKey (SCH_ENT_D_D n) = 92274880 + 32 * n := by simp only [fldKey, SCH_ENT_D_D]; omega
@[simp] theorem width_SCH_ENT_D_D (n : Nat) : fldWidth (SCH_ENT_D_D n) = 32 := by simp only [fldWidth, SCH_ENT_D_D]
@[simp] theorem key_SCH_CMD_ACT : fldKey SCH_CMD_ACT = 92275088 := by simp only [fldKey, SCH_CMD_ACT]
@[simp] theorem width_SCH_CMD_ACT : fldWidth SCH_CMD_ACT = 3 := by simp only [fldWidth, SCH_CMD_ACT]
@[simp] theorem key_SCH_CMD_TARGET : fldKey SCH_CMD_TARGET = 92275072 := by simp only [fldKey, SCH_CMD_TARGET]
@[simp] theorem width_SCH_CMD_TARGET : fldWidth SCH_CMD_TARGET = 16 := by simp only [fldWidth, SCH_CMD_TARGET]
@[simp] theorem key_SCH_OQSTAT_LOST : fldKey SCH_OQSTAT_LOST = 92275216 := by simp only [fldKey, SCH_OQSTAT_LOST]
@[simp] theorem width_SCH_OQSTAT_LOST : fldWidth SCH_OQSTAT_LOST = 16 := by simp only [fldWidth, SCH_OQSTAT_LOST]
@[simp] theorem key_SCH_OQSTAT_OVF : fldKey SCH_OQSTAT_OVF = 92275213 := by simp only [fldKey, SCH_OQSTAT_OVF]
@[simp] theorem width_SCH_OQSTAT_OVF : fldWidth SCH_OQSTAT_OVF = 1 := by simp only [fldWidth, SCH_OQSTAT_OVF]
@[simp] theorem key_SCH_OQSTAT_LEVEL : fldKey SCH_OQSTAT_LEVEL = 92275200 := by simp only [fldKey, SCH_OQSTAT_LEVEL]
@[simp] theorem width_SCH_OQSTAT_LEVEL : fldWidth SCH_OQSTAT_LEVEL = 9 := by simp only [fldWidth, SCH_OQSTAT_LEVEL]
@[simp] theorem key_SCH_OQCTL_POP : fldKey SCH_OQCTL_POP = 92275263 := by simp only [fldKey, SCH_OQCTL_POP]
@[simp] theorem width_SCH_OQCTL_POP : fldWidth SCH_OQCTL_POP = 1 := by simp only [fldWidth, SCH_OQCTL_POP]
@[simp] theorem key_SCH_OQCTL_FLUSH : fldKey SCH_OQCTL_FLUSH = 92275262 := by simp only [fldKey, SCH_OQCTL_FLUSH]
@[simp] theorem width_SCH_OQCTL_FLUSH : fldWidth SCH_OQCTL_FLUSH = 1 := by simp only [fldWidth, SCH_OQCTL_FLUSH]
@[simp] theorem key_SCH_OQCTL_QTHR : fldKey SCH_OQCTL_QTHR = 92275232 := by simp only [fldKey, SCH_OQCTL_QTHR]
@[simp] theorem width_SCH_OQCTL_QTHR : fldWidth SCH_OQCTL_QTHR = 9 := by simp only [fldWidth, SCH_OQCTL_QTHR]
@[simp] theorem key_SCH_OQ_HEAD (n : Nat) : fldKey (SCH_OQ_HEAD n) = 92275456 + 32 * n := by simp only [fldKey, SCH_OQ_HEAD]; omega
@[simp] theorem width_SCH_OQ_HEAD (n : Nat) : fldWidth (SCH_OQ_HEAD n) = 32 := by simp only [fldWidth, SCH_OQ_HEAD]
@[simp] theorem key_SCH_CHn_CFG_EN (n : Nat) : fldKey (SCH_CHn_CFG_EN n) = 92276767 + 128 * n := by simp only [fldKey, SCH_CHn_CFG_EN]; omega
@[simp] theorem width_SCH_CHn_CFG_EN (n : Nat) : fldWidth (SCH_CHn_CFG_EN n) = 1 := by simp only [fldWidth, SCH_CHn_CFG_EN]
@[simp] theorem key_SCH_CHn_CFG_FORM (n : Nat) : fldKey (SCH_CHn_CFG_FORM n) = 92276765 + 128 * n := by simp only [fldKey, SCH_CHn_CFG_FORM]; omega
@[simp] theorem width_SCH_CHn_CFG_FORM (n : Nat) : fldWidth (SCH_CHn_CFG_FORM n) = 2 := by simp only [fldWidth, SCH_CHn_CFG_FORM]
@[simp] theorem key_SCH_CHn_CFG_POL (n : Nat) : fldKey (SCH_CHn_CFG_POL n) = 92276764 + 128 * n := by simp only [fldKey, SCH_CHn_CFG_POL]; omega
@[simp] theorem width_SCH_CHn_CFG_POL (n : Nat) : fldWidth (SCH_CHn_CFG_POL n) = 1 := by simp only [fldWidth, SCH_CHn_CFG_POL]
@[simp] theorem key_SCH_CHn_CFG_FBEN (n : Nat) : fldKey (SCH_CHn_CFG_FBEN n) = 92276763 + 128 * n := by simp only [fldKey, SCH_CHn_CFG_FBEN]; omega
@[simp] theorem width_SCH_CHn_CFG_FBEN (n : Nat) : fldWidth (SCH_CHn_CFG_FBEN n) = 1 := by simp only [fldWidth, SCH_CHn_CFG_FBEN]
@[simp] theorem key_SCH_CHn_CFG_FBPOL (n : Nat) : fldKey (SCH_CHn_CFG_FBPOL n) = 92276762 + 128 * n := by simp only [fldKey, SCH_CHn_CFG_FBPOL]; omega
@[simp] theorem width_SCH_CHn_CFG_FBPOL (n : Nat) : fldWidth (SCH_CHn_CFG_FBPOL n) = 1 := by simp only [fldWidth, SCH_CHn_CFG_FBPOL]
@[simp] theorem key_SCH_CHn_CFG_PWIDTH (n : Nat) : fldKey (SCH_CHn_CFG_PWIDTH n) = 92276752 + 128 * n := by simp only [fldKey, SCH_CHn_CFG_PWIDTH]; omega
@[simp] theorem width_SCH_CHn_CFG_PWIDTH (n : Nat) : fldWidth (SCH_CHn_CFG_PWIDTH n) = 8 := by simp only [fldWidth, SCH_CHn_CFG_PWIDTH]
@[simp] theorem key_SCH_CHn_CFG_FB_WIN (n : Nat) : fldKey (SCH_CHn_CFG_FB_WIN n) = 92276736 + 128 * n := by simp only [fldKey, SCH_CHn_CFG_FB_WIN]; omega
@[simp] theorem width_SCH_CHn_CFG_FB_WIN (n : Nat) : fldWidth (SCH_CHn_CFG_FB_WIN n) = 16 := by simp only [fldWidth, SCH_CHn_CFG_FB_WIN]
@[simp] theorem key_SCH_CHn_STAT_STATE (n : Nat) : fldKey (SCH_CHn_STAT_STATE n) = 92276799 + 128 * n := by simp only [fldKey, SCH_CHn_STAT_STATE]; omega
@[simp] theorem width_SCH_CHn_STAT_STATE (n : Nat) : fldWidth (SCH_CHn_STAT_STATE n) = 1 := by simp only [fldWidth, SCH_CHn_STAT_STATE]
@[simp] theorem key_SCH_CHn_STAT_DRIVE (n : Nat) : fldKey (SCH_CHn_STAT_DRIVE n) = 92276798 + 128 * n := by simp only [fldKey, SCH_CHn_STAT_DRIVE]; omega
@[simp] theorem width_SCH_CHn_STAT_DRIVE (n : Nat) : fldWidth (SCH_CHn_STAT_DRIVE n) = 1 := by simp only [fldWidth, SCH_CHn_STAT_DRIVE]
@[simp] theorem key_SCH_CHn_STAT_FB (n : Nat) : fldKey (SCH_CHn_STAT_FB n) = 92276797 + 128 * n := by simp only [fldKey, SCH_CHn_STAT_FB]; omega
@[simp] theorem width_SCH_CHn_STAT_FB (n : Nat) : fldWidth (SCH_CHn_STAT_FB n) = 1 := by simp only [fldWidth, SCH_CHn_STAT_FB]
@[simp] theorem key_SCH_CHn_STAT_BUSY (n : Nat) : fldKey (SCH_CHn_STAT_BUSY n) = 92276796 + 128 * n := by simp only [fldKey, SCH_CHn_STAT_BUSY]; omega
@[simp] theorem width_SCH_CHn_STAT_BUSY (n : Nat) : fldWidth (SCH_CHn_STAT_BUSY n) = 1 := by simp only [fldWidth, SCH_CHn_STAT_BUSY]
@[simp] theorem key_SCH_CHn_STAT_FAILST (n : Nat) : fldKey (SCH_CHn_STAT_FAILST n) = 92276794 + 128 * n := by simp only [fldKey, SCH_CHn_STAT_FAILST]; omega
@[simp] theorem width_SCH_CHn_STAT_FAILST (n : Nat) : fldWidth (SCH_CHn_STAT_FAILST n) = 2 := by simp only [fldWidth, SCH_CHn_STAT_FAILST]
@[simp] theorem key_SCH_CHn_STAT_IN_FAIL (n : Nat) : fldKey (SCH_CHn_STAT_IN_FAIL n) = 92276793 + 128 * n := by simp only [fldKey, SCH_CHn_STAT_IN_FAIL]; omega
@[simp] theorem width_SCH_CHn_STAT_IN_FAIL (n : Nat) : fldWidth (SCH_CHn_STAT_IN_FAIL n) = 1 := by simp only [fldWidth, SCH_CHn_STAT_IN_FAIL]
@[simp] theorem key_SCH_CHn_STAT_CFG_ERR (n : Nat) : fldKey (SCH_CHn_STAT_CFG_ERR n) = 92276792 + 128 * n := by simp only [fldKey, SCH_CHn_STAT_CFG_ERR]; omega
@[simp] theorem width_SCH_CHn_STAT_CFG_ERR (n : Nat) : fldWidth (SCH_CHn_STAT_CFG_ERR n) = 1 := by simp only [fldWidth, SCH_CHn_STAT_CFG_ERR]
@[simp] theorem key_SCH_CHn_STAT_NEXT_V (n : Nat) : fldKey (SCH_CHn_STAT_NEXT_V n) = 92276780 + 128 * n := by simp only [fldKey, SCH_CHn_STAT_NEXT_V]; omega
@[simp] theorem width_SCH_CHn_STAT_NEXT_V (n : Nat) : fldWidth (SCH_CHn_STAT_NEXT_V n) = 1 := by simp only [fldWidth, SCH_CHn_STAT_NEXT_V]
@[simp] theorem key_SCH_CHn_STAT_NEXT (n : Nat) : fldKey (SCH_CHn_STAT_NEXT n) = 92276768 + 128 * n := by simp only [fldKey, SCH_CHn_STAT_NEXT]; omega
@[simp] theorem width_SCH_CHn_STAT_NEXT (n : Nat) : fldWidth (SCH_CHn_STAT_NEXT n) = 12 := by simp only [fldWidth, SCH_CHn_STAT_NEXT]
@[simp] theorem key_SCH_CHn_OPS_OPS (n : Nat) : fldKey (SCH_CHn_OPS_OPS n) = 92276800 + 128 * n := by simp only [fldKey, SCH_CHn_OPS_OPS]; omega
@[simp] theorem width_SCH_CHn_OPS_OPS (n : Nat) : fldWidth (SCH_CHn_OPS_OPS n) = 32 := by simp only [fldWidth, SCH_CHn_OPS_OPS]
@[simp] theorem key_SCH_CHn_ONTIME_SECS (n : Nat) : fldKey (SCH_CHn_ONTIME_SECS n) = 92276832 + 128 * n := by simp only [fldKey, SCH_CHn_ONTIME_SECS]; omega
@[simp] theorem width_SCH_CHn_ONTIME_SECS (n : Nat) : fldWidth (SCH_CHn_ONTIME_SECS n) = 32 := by simp only [fldWidth, SCH_CHn_ONTIME_SECS]
@[simp] theorem key_SCH_HOLh_VALID (n : Nat) : fldKey (SCH_HOLh_VALID n) = 92282911 + 32 * n := by simp only [fldKey, SCH_HOLh_VALID]; omega
@[simp] theorem width_SCH_HOLh_VALID (n : Nat) : fldWidth (SCH_HOLh_VALID n) = 1 := by simp only [fldWidth, SCH_HOLh_VALID]
@[simp] theorem key_SCH_HOLh_YEAR (n : Nat) : fldKey (SCH_HOLh_YEAR n) = 92282904 + 32 * n := by simp only [fldKey, SCH_HOLh_YEAR]; omega
@[simp] theorem width_SCH_HOLh_YEAR (n : Nat) : fldWidth (SCH_HOLh_YEAR n) = 7 := by simp only [fldWidth, SCH_HOLh_YEAR]
@[simp] theorem key_SCH_HOLh_MONTH (n : Nat) : fldKey (SCH_HOLh_MONTH n) = 92282900 + 32 * n := by simp only [fldKey, SCH_HOLh_MONTH]; omega
@[simp] theorem width_SCH_HOLh_MONTH (n : Nat) : fldWidth (SCH_HOLh_MONTH n) = 4 := by simp only [fldWidth, SCH_HOLh_MONTH]
@[simp] theorem key_SCH_HOLh_DAY (n : Nat) : fldKey (SCH_HOLh_DAY n) = 92282895 + 32 * n := by simp only [fldKey, SCH_HOLh_DAY]; omega
@[simp] theorem width_SCH_HOLh_DAY (n : Nat) : fldWidth (SCH_HOLh_DAY n) = 5 := by simp only [fldWidth, SCH_HOLh_DAY]
@[simp] theorem key_SCH_HOLh_CLASS (n : Nat) : fldKey (SCH_HOLh_CLASS n) = 92282880 + 32 * n := by simp only [fldKey, SCH_HOLh_CLASS]; omega
@[simp] theorem width_SCH_HOLh_CLASS (n : Nat) : fldWidth (SCH_HOLh_CLASS n) = 8 := by simp only [fldWidth, SCH_HOLh_CLASS]
@[simp] theorem key_SCH_GRPg_MEM_START (n : Nat) : fldKey (SCH_GRPg_MEM_START n) = 92284944 + 64 * n := by simp only [fldKey, SCH_GRPg_MEM_START]; omega
@[simp] theorem width_SCH_GRPg_MEM_START (n : Nat) : fldWidth (SCH_GRPg_MEM_START n) = 9 := by simp only [fldWidth, SCH_GRPg_MEM_START]
@[simp] theorem key_SCH_GRPg_MEM_COUNT (n : Nat) : fldKey (SCH_GRPg_MEM_COUNT n) = 92284928 + 64 * n := by simp only [fldKey, SCH_GRPg_MEM_COUNT]; omega
@[simp] theorem width_SCH_GRPg_MEM_COUNT (n : Nat) : fldWidth (SCH_GRPg_MEM_COUNT n) = 10 := by simp only [fldWidth, SCH_GRPg_MEM_COUNT]
@[simp] theorem key_SCH_GRPg_TIM_ALEAD (n : Nat) : fldKey (SCH_GRPg_TIM_ALEAD n) = 92284976 + 64 * n := by simp only [fldKey, SCH_GRPg_TIM_ALEAD]; omega
@[simp] theorem width_SCH_GRPg_TIM_ALEAD (n : Nat) : fldWidth (SCH_GRPg_TIM_ALEAD n) = 16 := by simp only [fldWidth, SCH_GRPg_TIM_ALEAD]
@[simp] theorem key_SCH_GRPg_TIM_DL (n : Nat) : fldKey (SCH_GRPg_TIM_DL n) = 92284960 + 64 * n := by simp only [fldKey, SCH_GRPg_TIM_DL]; omega
@[simp] theorem width_SCH_GRPg_TIM_DL (n : Nat) : fldWidth (SCH_GRPg_TIM_DL n) = 16 := by simp only [fldWidth, SCH_GRPg_TIM_DL]
@[simp] theorem key_SCH_MEM_IDX_IDX : fldKey SCH_MEM_IDX_IDX = 92289024 := by simp only [fldKey, SCH_MEM_IDX_IDX]
@[simp] theorem width_SCH_MEM_IDX_IDX : fldWidth SCH_MEM_IDX_IDX = 9 := by simp only [fldWidth, SCH_MEM_IDX_IDX]
@[simp] theorem key_SCH_MEM_DATA_CODE : fldKey SCH_MEM_DATA_CODE = 92289056 := by simp only [fldKey, SCH_MEM_DATA_CODE]
@[simp] theorem width_SCH_MEM_DATA_CODE : fldWidth SCH_MEM_DATA_CODE = 16 := by simp only [fldWidth, SCH_MEM_DATA_CODE]
@[simp] theorem key_SCH_RCk_CTL_ISSUE (n : Nat) : fldKey (SCH_RCk_CTL_ISSUE n) = 92290079 + 256 * n := by simp only [fldKey, SCH_RCk_CTL_ISSUE]; omega
@[simp] theorem width_SCH_RCk_CTL_ISSUE (n : Nat) : fldWidth (SCH_RCk_CTL_ISSUE n) = 1 := by simp only [fldWidth, SCH_RCk_CTL_ISSUE]
@[simp] theorem key_SCH_RCk_CTL_ABORT (n : Nat) : fldKey (SCH_RCk_CTL_ABORT n) = 92290078 + 256 * n := by simp only [fldKey, SCH_RCk_CTL_ABORT]; omega
@[simp] theorem width_SCH_RCk_CTL_ABORT (n : Nat) : fldWidth (SCH_RCk_CTL_ABORT n) = 1 := by simp only [fldWidth, SCH_RCk_CTL_ABORT]
@[simp] theorem key_SCH_RCk_CTL_PLAIN (n : Nat) : fldKey (SCH_RCk_CTL_PLAIN n) = 92290077 + 256 * n := by simp only [fldKey, SCH_RCk_CTL_PLAIN]; omega
@[simp] theorem width_SCH_RCk_CTL_PLAIN (n : Nat) : fldWidth (SCH_RCk_CTL_PLAIN n) = 1 := by simp only [fldWidth, SCH_RCk_CTL_PLAIN]
@[simp] theorem key_SCH_RCk_CTL_NOW (n : Nat) : fldKey (SCH_RCk_CTL_NOW n) = 92290076 + 256 * n := by simp only [fldKey, SCH_RCk_CTL_NOW]; omega
@[simp] theorem width_SCH_RCk_CTL_NOW (n : Nat) : fldWidth (SCH_RCk_CTL_NOW n) = 1 := by simp only [fldWidth, SCH_RCk_CTL_NOW]
@[simp] theorem key_SCH_RCk_CTL_GROUP (n : Nat) : fldKey (SCH_RCk_CTL_GROUP n) = 92290064 + 256 * n := by simp only [fldKey, SCH_RCk_CTL_GROUP]; omega
@[simp] theorem width_SCH_RCk_CTL_GROUP (n : Nat) : fldWidth (SCH_RCk_CTL_GROUP n) = 6 := by simp only [fldWidth, SCH_RCk_CTL_GROUP]
@[simp] theorem key_SCH_RCk_CTL_ACT (n : Nat) : fldKey (SCH_RCk_CTL_ACT n) = 92290060 + 256 * n := by simp only [fldKey, SCH_RCk_CTL_ACT]; omega
@[simp] theorem width_SCH_RCk_CTL_ACT (n : Nat) : fldWidth (SCH_RCk_CTL_ACT n) = 3 := by simp only [fldWidth, SCH_RCk_CTL_ACT]
@[simp] theorem key_SCH_RCk_TF_LO_SEC (n : Nat) : fldKey (SCH_RCk_TF_LO_SEC n) = 92290080 + 256 * n := by simp only [fldKey, SCH_RCk_TF_LO_SEC]; omega
@[simp] theorem width_SCH_RCk_TF_LO_SEC (n : Nat) : fldWidth (SCH_RCk_TF_LO_SEC n) = 32 := by simp only [fldWidth, SCH_RCk_TF_LO_SEC]
@[simp] theorem key_SCH_RCk_TF_HI_SEC (n : Nat) : fldKey (SCH_RCk_TF_HI_SEC n) = 92290142 + 256 * n := by simp only [fldKey, SCH_RCk_TF_HI_SEC]; omega
@[simp] theorem width_SCH_RCk_TF_HI_SEC (n : Nat) : fldWidth (SCH_RCk_TF_HI_SEC n) = 2 := by simp only [fldWidth, SCH_RCk_TF_HI_SEC]
@[simp] theorem key_SCH_RCk_TF_HI_NS (n : Nat) : fldKey (SCH_RCk_TF_HI_NS n) = 92290112 + 256 * n := by simp only [fldKey, SCH_RCk_TF_HI_NS]; omega
@[simp] theorem width_SCH_RCk_TF_HI_NS (n : Nat) : fldWidth (SCH_RCk_TF_HI_NS n) = 30 := by simp only [fldWidth, SCH_RCk_TF_HI_NS]
@[simp] theorem key_SCH_RCk_STAT_PHASE (n : Nat) : fldKey (SCH_RCk_STAT_PHASE n) = 92290172 + 256 * n := by simp only [fldKey, SCH_RCk_STAT_PHASE]; omega
@[simp] theorem width_SCH_RCk_STAT_PHASE (n : Nat) : fldWidth (SCH_RCk_STAT_PHASE n) = 4 := by simp only [fldWidth, SCH_RCk_STAT_PHASE]
@[simp] theorem key_SCH_RCk_STAT_DECISION (n : Nat) : fldKey (SCH_RCk_STAT_DECISION n) = 92290170 + 256 * n := by simp only [fldKey, SCH_RCk_STAT_DECISION]; omega
@[simp] theorem width_SCH_RCk_STAT_DECISION (n : Nat) : fldWidth (SCH_RCk_STAT_DECISION n) = 2 := by simp only [fldWidth, SCH_RCk_STAT_DECISION]
@[simp] theorem key_SCH_RCk_STAT_ABORT_LATE (n : Nat) : fldKey (SCH_RCk_STAT_ABORT_LATE n) = 92290169 + 256 * n := by simp only [fldKey, SCH_RCk_STAT_ABORT_LATE]; omega
@[simp] theorem width_SCH_RCk_STAT_ABORT_LATE (n : Nat) : fldWidth (SCH_RCk_STAT_ABORT_LATE n) = 1 := by simp only [fldWidth, SCH_RCk_STAT_ABORT_LATE]
@[simp] theorem key_SCH_RCk_STAT_ARMED (n : Nat) : fldKey (SCH_RCk_STAT_ARMED n) = 92290156 + 256 * n := by simp only [fldKey, SCH_RCk_STAT_ARMED]; omega
@[simp] theorem width_SCH_RCk_STAT_ARMED (n : Nat) : fldWidth (SCH_RCk_STAT_ARMED n) = 12 := by simp only [fldWidth, SCH_RCk_STAT_ARMED]
@[simp] theorem key_SCH_RCk_STAT_TARGETS (n : Nat) : fldKey (SCH_RCk_STAT_TARGETS n) = 92290144 + 256 * n := by simp only [fldKey, SCH_RCk_STAT_TARGETS]; omega
@[simp] theorem width_SCH_RCk_STAT_TARGETS (n : Nat) : fldWidth (SCH_RCk_STAT_TARGETS n) = 12 := by simp only [fldWidth, SCH_RCk_STAT_TARGETS]
@[simp] theorem key_SCH_RCk_RES_FIRED (n : Nat) : fldKey (SCH_RCk_RES_FIRED n) = 92290196 + 256 * n := by simp only [fldKey, SCH_RCk_RES_FIRED]; omega
@[simp] theorem width_SCH_RCk_RES_FIRED (n : Nat) : fldWidth (SCH_RCk_RES_FIRED n) = 10 := by simp only [fldWidth, SCH_RCk_RES_FIRED]
@[simp] theorem key_SCH_RCk_RES_NOTFIRED (n : Nat) : fldKey (SCH_RCk_RES_NOTFIRED n) = 92290186 + 256 * n := by simp only [fldKey, SCH_RCk_RES_NOTFIRED]; omega
@[simp] theorem width_SCH_RCk_RES_NOTFIRED (n : Nat) : fldWidth (SCH_RCk_RES_NOTFIRED n) = 10 := by simp only [fldWidth, SCH_RCk_RES_NOTFIRED]
@[simp] theorem key_SCH_RCk_RES_PENDING (n : Nat) : fldKey (SCH_RCk_RES_PENDING n) = 92290176 + 256 * n := by simp only [fldKey, SCH_RCk_RES_PENDING]; omega
@[simp] theorem width_SCH_RCk_RES_PENDING (n : Nat) : fldWidth (SCH_RCk_RES_PENDING n) = 10 := by simp only [fldWidth, SCH_RCk_RES_PENDING]
@[simp] theorem key_SCH_TEST_GO : fldKey SCH_TEST_GO = 92293151 := by simp only [fldKey, SCH_TEST_GO]
@[simp] theorem width_SCH_TEST_GO : fldWidth SCH_TEST_GO = 1 := by simp only [fldWidth, SCH_TEST_GO]
@[simp] theorem key_SCH_TEST_DELAY : fldKey SCH_TEST_DELAY = 92293120 := by simp only [fldKey, SCH_TEST_DELAY]
@[simp] theorem width_SCH_TEST_DELAY : fldWidth SCH_TEST_DELAY = 16 := by simp only [fldWidth, SCH_TEST_DELAY]
@[simp] theorem key_SCH_TESTRES_DONE : fldKey SCH_TESTRES_DONE = 92293183 := by simp only [fldKey, SCH_TESTRES_DONE]
@[simp] theorem width_SCH_TESTRES_DONE : fldWidth SCH_TESTRES_DONE = 1 := by simp only [fldWidth, SCH_TESTRES_DONE]
@[simp] theorem key_SCH_TESTRES_ERR : fldKey SCH_TESTRES_ERR = 92293152 := by simp only [fldKey, SCH_TESTRES_ERR]
@[simp] theorem width_SCH_TESTRES_ERR : fldWidth SCH_TESTRES_ERR = 16 := by simp only [fldWidth, SCH_TESTRES_ERR]
@[simp] theorem key_PTP_CLK_CFG_PROFILE : fldKey PTP_CLK_CFG_PROFILE = 100663325 := by simp only [fldKey, PTP_CLK_CFG_PROFILE]
@[simp] theorem width_PTP_CLK_CFG_PROFILE : fldWidth PTP_CLK_CFG_PROFILE = 3 := by simp only [fldWidth, PTP_CLK_CFG_PROFILE]
@[simp] theorem key_PTP_CLK_CFG_ATOI : fldKey PTP_CLK_CFG_ATOI = 100663324 := by simp only [fldKey, PTP_CLK_CFG_ATOI]
@[simp] theorem width_PTP_CLK_CFG_ATOI : fldWidth PTP_CLK_CFG_ATOI = 1 := by simp only [fldWidth, PTP_CLK_CFG_ATOI]
@[simp] theorem key_PTP_CLK_CFG_DEGRADE : fldKey PTP_CLK_CFG_DEGRADE = 100663323 := by simp only [fldKey, PTP_CLK_CFG_DEGRADE]
@[simp] theorem width_PTP_CLK_CFG_DEGRADE : fldWidth PTP_CLK_CFG_DEGRADE = 1 := by simp only [fldWidth, PTP_CLK_CFG_DEGRADE]
@[simp] theorem key_PTP_CLK_CFG_AUTH_TX : fldKey PTP_CLK_CFG_AUTH_TX = 100663322 := by simp only [fldKey, PTP_CLK_CFG_AUTH_TX]
@[simp] theorem width_PTP_CLK_CFG_AUTH_TX : fldWidth PTP_CLK_CFG_AUTH_TX = 1 := by simp only [fldWidth, PTP_CLK_CFG_AUTH_TX]
@[simp] theorem key_PTP_CLK_CFG_DOMAIN : fldKey PTP_CLK_CFG_DOMAIN = 100663312 := by simp only [fldKey, PTP_CLK_CFG_DOMAIN]
@[simp] theorem width_PTP_CLK_CFG_DOMAIN : fldWidth PTP_CLK_CFG_DOMAIN = 8 := by simp only [fldWidth, PTP_CLK_CFG_DOMAIN]
@[simp] theorem key_PTP_CLK_CFG_PRIORITY1 : fldKey PTP_CLK_CFG_PRIORITY1 = 100663304 := by simp only [fldKey, PTP_CLK_CFG_PRIORITY1]
@[simp] theorem width_PTP_CLK_CFG_PRIORITY1 : fldWidth PTP_CLK_CFG_PRIORITY1 = 8 := by simp only [fldWidth, PTP_CLK_CFG_PRIORITY1]
@[simp] theorem key_PTP_CLK_CFG_PRIORITY2 : fldKey PTP_CLK_CFG_PRIORITY2 = 100663296 := by simp only [fldKey, PTP_CLK_CFG_PRIORITY2]
@[simp] theorem width_PTP_CLK_CFG_PRIORITY2 : fldWidth PTP_CLK_CFG_PRIORITY2 = 8 := by simp only [fldWidth, PTP_CLK_CFG_PRIORITY2]
@[simp] theorem key_PTP_CLK_ID_LO_ID : fldKey PTP_CLK_ID_LO_ID = 100663328 := by simp only [fldKey, PTP_CLK_ID_LO_ID]
@[simp] theorem width_PTP_CLK_ID_LO_ID : fldWidth PTP_CLK_ID_LO_ID = 32 := by simp only [fldWidth, PTP_CLK_ID_LO_ID]
@[simp] theorem key_PTP_CLK_ID_HI_ID : fldKey PTP_CLK_ID_HI_ID = 100663360 := by simp only [fldKey, PTP_CLK_ID_HI_ID]
@[simp] theorem width_PTP_CLK_ID_HI_ID : fldWidth PTP_CLK_ID_HI_ID = 32 := by simp only [fldWidth, PTP_CLK_ID_HI_ID]
@[simp] theorem key_PTP_CLK_Q_CLASS_OVR_EN : fldKey PTP_CLK_Q_CLASS_OVR_EN = 100663423 := by simp only [fldKey, PTP_CLK_Q_CLASS_OVR_EN]
@[simp] theorem width_PTP_CLK_Q_CLASS_OVR_EN : fldWidth PTP_CLK_Q_CLASS_OVR_EN = 1 := by simp only [fldWidth, PTP_CLK_Q_CLASS_OVR_EN]
@[simp] theorem key_PTP_CLK_Q_CLASS_OVR : fldKey PTP_CLK_Q_CLASS_OVR = 100663408 := by simp only [fldKey, PTP_CLK_Q_CLASS_OVR]
@[simp] theorem width_PTP_CLK_Q_CLASS_OVR : fldWidth PTP_CLK_Q_CLASS_OVR = 8 := by simp only [fldWidth, PTP_CLK_Q_CLASS_OVR]
@[simp] theorem key_PTP_CLK_Q_VARIANCE : fldKey PTP_CLK_Q_VARIANCE = 100663392 := by simp only [fldKey, PTP_CLK_Q_VARIANCE]
@[simp] theorem width_PTP_CLK_Q_VARIANCE : fldWidth PTP_CLK_Q_VARIANCE = 16 := by simp only [fldWidth, PTP_CLK_Q_VARIANCE]
@[simp] theorem key_PTP_CLK_STAT_CLASS : fldKey PTP_CLK_STAT_CLASS = 100663448 := by simp only [fldKey, PTP_CLK_STAT_CLASS]
@[simp] theorem width_PTP_CLK_STAT_CLASS : fldWidth PTP_CLK_STAT_CLASS = 8 := by simp only [fldWidth, PTP_CLK_STAT_CLASS]
@[simp] theorem key_PTP_CLK_STAT_ACCURACY : fldKey PTP_CLK_STAT_ACCURACY = 100663440 := by simp only [fldKey, PTP_CLK_STAT_ACCURACY]
@[simp] theorem width_PTP_CLK_STAT_ACCURACY : fldWidth PTP_CLK_STAT_ACCURACY = 8 := by simp only [fldWidth, PTP_CLK_STAT_ACCURACY]
@[simp] theorem key_PTP_CLK_STAT_GM : fldKey PTP_CLK_STAT_GM = 100663439 := by simp only [fldKey, PTP_CLK_STAT_GM]
@[simp] theorem width_PTP_CLK_STAT_GM : fldWidth PTP_CLK_STAT_GM = 1 := by simp only [fldWidth, PTP_CLK_STAT_GM]
@[simp] theorem key_PTP_CLK_STAT_BCTYPE : fldKey PTP_CLK_STAT_BCTYPE = 100663438 := by simp only [fldKey, PTP_CLK_STAT_BCTYPE]
@[simp] theorem width_PTP_CLK_STAT_BCTYPE : fldWidth PTP_CLK_STAT_BCTYPE = 1 := by simp only [fldWidth, PTP_CLK_STAT_BCTYPE]
@[simp] theorem key_PTP_CLK_STAT_SLAVE_PORT : fldKey PTP_CLK_STAT_SLAVE_PORT = 100663435 := by simp only [fldKey, PTP_CLK_STAT_SLAVE_PORT]
@[simp] theorem width_PTP_CLK_STAT_SLAVE_PORT : fldWidth PTP_CLK_STAT_SLAVE_PORT = 3 := by simp only [fldWidth, PTP_CLK_STAT_SLAVE_PORT]
@[simp] theorem key_PTP_CLK_STAT_CFG_ERR : fldKey PTP_CLK_STAT_CFG_ERR = 100663434 := by simp only [fldKey, PTP_CLK_STAT_CFG_ERR]
@[simp] theorem width_PTP_CLK_STAT_CFG_ERR : fldWidth PTP_CLK_STAT_CFG_ERR = 1 := by simp only [fldWidth, PTP_CLK_STAT_CFG_ERR]
@[simp] theorem key_PTP_CLK_STAT_TIME_SOURCE : fldKey PTP_CLK_STAT_TIME_SOURCE = 100663424 := by simp only [fldKey, PTP_CLK_STAT_TIME_SOURCE]
@[simp] theorem width_PTP_CLK_STAT_TIME_SOURCE : fldWidth PTP_CLK_STAT_TIME_SOURCE = 8 := by simp only [fldWidth, PTP_CLK_STAT_TIME_SOURCE]
@[simp] theorem key_PTP_PARENT_LO_ID : fldKey PTP_PARENT_LO_ID = 100663456 := by simp only [fldKey, PTP_PARENT_LO_ID]
@[simp] theorem width_PTP_PARENT_LO_ID : fldWidth PTP_PARENT_LO_ID = 32 := by simp only [fldWidth, PTP_PARENT_LO_ID]
@[simp] theorem key_PTP_PARENT_HI_ID : fldKey PTP_PARENT_HI_ID = 100663488 := by simp only [fldKey, PTP_PARENT_HI_ID]
@[simp] theorem width_PTP_PARENT_HI_ID : fldWidth PTP_PARENT_HI_ID = 32 := by simp only [fldWidth, PTP_PARENT_HI_ID]
@[simp] theorem key_PTP_PARENT_PORT_STEPS : fldKey PTP_PARENT_PORT_STEPS = 100663536 := by simp only [fldKey, PTP_PARENT_PORT_STEPS]
@[simp] theorem width_PTP_PARENT_PORT_STEPS : fldWidth PTP_PARENT_PORT_STEPS = 16 := by simp only [fldWidth, PTP_PARENT_PORT_STEPS]
@[simp] theorem key_PTP_PARENT_PORT_PORT : fldKey PTP_PARENT_PORT_PORT = 100663520 := by simp only [fldKey, PTP_PARENT_PORT_PORT]
@[simp] theorem width_PTP_PARENT_PORT_PORT : fldWidth PTP_PARENT_PORT_PORT = 16 := by simp only [fldWidth, PTP_PARENT_PORT_PORT]
@[simp] theorem key_PTP_GM_LO_ID : fldKey PTP_GM_LO_ID = 100663552 := by simp only [fldKey, PTP_GM_LO_ID]
@[simp] theorem width_PTP_GM_LO_ID : fldWidth PTP_GM_LO_ID = 32 := by simp only [fldWidth, PTP_GM_LO_ID]
@[simp] theorem key_PTP_GM_HI_ID : fldKey PTP_GM_HI_ID = 100663584 := by simp only [fldKey, PTP_GM_HI_ID]
@[simp] theorem width_PTP_GM_HI_ID : fldWidth PTP_GM_HI_ID = 32 := by simp only [fldWidth, PTP_GM_HI_ID]
@[simp] theorem key_PTP_GM_Q_CLASS : fldKey PTP_GM_Q_CLASS = 100663640 := by simp only [fldKey, PTP_GM_Q_CLASS]
@[simp] theorem width_PTP_GM_Q_CLASS : fldWidth PTP_GM_Q_CLASS = 8 := by simp only [fldWidth, PTP_GM_Q_CLASS]
@[simp] theorem key_PTP_GM_Q_ACCURACY : fldKey PTP_GM_Q_ACCURACY = 100663632 := by simp only [fldKey, PTP_GM_Q_ACCURACY]
@[simp] theorem width_PTP_GM_Q_ACCURACY : fldWidth PTP_GM_Q_ACCURACY = 8 := by simp only [fldWidth, PTP_GM_Q_ACCURACY]
@[simp] theorem key_PTP_GM_Q_VARIANCE : fldKey PTP_GM_Q_VARIANCE = 100663616 := by simp only [fldKey, PTP_GM_Q_VARIANCE]
@[simp] theorem width_PTP_GM_Q_VARIANCE : fldWidth PTP_GM_Q_VARIANCE = 16 := by simp only [fldWidth, PTP_GM_Q_VARIANCE]
@[simp] theorem key_PTP_GM_PRI_PRIORITY1 : fldKey PTP_GM_PRI_PRIORITY1 = 100663656 := by simp only [fldKey, PTP_GM_PRI_PRIORITY1]
@[simp] theorem width_PTP_GM_PRI_PRIORITY1 : fldWidth PTP_GM_PRI_PRIORITY1 = 8 := by simp only [fldWidth, PTP_GM_PRI_PRIORITY1]
@[simp] theorem key_PTP_GM_PRI_PRIORITY2 : fldKey PTP_GM_PRI_PRIORITY2 = 100663648 := by simp only [fldKey, PTP_GM_PRI_PRIORITY2]
@[simp] theorem width_PTP_GM_PRI_PRIORITY2 : fldWidth PTP_GM_PRI_PRIORITY2 = 8 := by simp only [fldWidth, PTP_GM_PRI_PRIORITY2]
@[simp] theorem key_PTP_EVT_AUTH_FAIL : fldKey PTP_EVT_AUTH_FAIL = 100663685 := by simp only [fldKey, PTP_EVT_AUTH_FAIL]
@[simp] theorem width_PTP_EVT_AUTH_FAIL : fldWidth PTP_EVT_AUTH_FAIL = 1 := by simp only [fldWidth, PTP_EVT_AUTH_FAIL]
@[simp] theorem key_PTP_EVT_ESMC_CHG : fldKey PTP_EVT_ESMC_CHG = 100663684 := by simp only [fldKey, PTP_EVT_ESMC_CHG]
@[simp] theorem width_PTP_EVT_ESMC_CHG : fldWidth PTP_EVT_ESMC_CHG = 1 := by simp only [fldWidth, PTP_EVT_ESMC_CHG]
@[simp] theorem key_PTP_EVT_CLASS_CHG : fldKey PTP_EVT_CLASS_CHG = 100663683 := by simp only [fldKey, PTP_EVT_CLASS_CHG]
@[simp] theorem width_PTP_EVT_CLASS_CHG : fldWidth PTP_EVT_CLASS_CHG = 1 := by simp only [fldWidth, PTP_EVT_CLASS_CHG]
@[simp] theorem key_PTP_EVT_PARENT_CHG : fldKey PTP_EVT_PARENT_CHG = 100663682 := by simp only [fldKey, PTP_EVT_PARENT_CHG]
@[simp] theorem width_PTP_EVT_PARENT_CHG : fldWidth PTP_EVT_PARENT_CHG = 1 := by simp only [fldWidth, PTP_EVT_PARENT_CHG]
@[simp] theorem key_PTP_EVT_PORT_STATE : fldKey PTP_EVT_PORT_STATE = 100663681 := by simp only [fldKey, PTP_EVT_PORT_STATE]
@[simp] theorem width_PTP_EVT_PORT_STATE : fldWidth PTP_EVT_PORT_STATE = 1 := by simp only [fldWidth, PTP_EVT_PORT_STATE]
@[simp] theorem key_PTP_EVT_LINK : fldKey PTP_EVT_LINK = 100663680 := by simp only [fldKey, PTP_EVT_LINK]
@[simp] theorem width_PTP_EVT_LINK : fldWidth PTP_EVT_LINK = 1 := by simp only [fldWidth, PTP_EVT_LINK]
@[simp] theorem key_PTP_EVT_EN_EN : fldKey PTP_EVT_EN_EN = 100663712 := by simp only [fldKey, PTP_EVT_EN_EN]
@[simp] theorem width_PTP_EVT_EN_EN : fldWidth PTP_EVT_EN_EN = 32 := by simp only [fldWidth, PTP_EVT_EN_EN]
@[simp] theorem key_PTP_TEST_GO : fldKey PTP_TEST_GO = 100663839 := by simp only [fldKey, PTP_TEST_GO]
@[simp] theorem width_PTP_TEST_GO : fldWidth PTP_TEST_GO = 1 := by simp only [fldWidth, PTP_TEST_GO]
@[simp] theorem key_PTP_TEST_PORT : fldKey PTP_TEST_PORT = 100663808 := by simp only [fldKey, PTP_TEST_PORT]
@[simp] theorem width_PTP_TEST_PORT : fldWidth PTP_TEST_PORT = 3 := by simp only [fldWidth, PTP_TEST_PORT]
@[simp] theorem key_PTP_TESTRES_DONE : fldKey PTP_TESTRES_DONE = 100663871 := by simp only [fldKey, PTP_TESTRES_DONE]
@[simp] theorem width_PTP_TESTRES_DONE : fldWidth PTP_TESTRES_DONE = 1 := by simp only [fldWidth, PTP_TESTRES_DONE]
@[simp] theorem key_PTP_TESTRES_PASS : fldKey PTP_TESTRES_PASS = 100663870 := by simp only [fldKey, PTP_TESTRES_PASS]
@[simp] theorem width_PTP_TESTRES_PASS : fldWidth PTP_TESTRES_PASS = 1 := by simp only [fldWidth, PTP_TESTRES_PASS]
@[simp] theorem key_PTP_TESTRES_ERR : fldKey PTP_TESTRES_ERR = 100663840 := by simp only [fldKey, PTP_TESTRES_ERR]
@[simp] theorem width_PTP_TESTRES_ERR : fldWidth PTP_TESTRES_ERR = 16 := by simp only [fldWidth, PTP_TESTRES_ERR]
@[simp] theorem key_PTP_SW_CFG_MAXFRAME : fldKey PTP_SW_CFG_MAXFRAME = 100665360 := by simp only [fldKey, PTP_SW_CFG_MAXFRAME]
@[simp] theorem width_PTP_SW_CFG_MAXFRAME : fldWidth PTP_SW_CFG_MAXFRAME = 16 := by simp only [fldWidth, PTP_SW_CFG_MAXFRAME]
@[simp] theorem key_PTP_SW_CFG_AGE : fldKey PTP_SW_CFG_AGE = 100665344 := by simp only [fldKey, PTP_SW_CFG_AGE]
@[simp] theorem width_PTP_SW_CFG_AGE : fldWidth PTP_SW_CFG_AGE = 16 := by simp only [fldWidth, PTP_SW_CFG_AGE]
@[simp] theorem key_PTP_FDB_LO_MAC : fldKey PTP_FDB_LO_MAC = 100665376 := by simp only [fldKey, PTP_FDB_LO_MAC]
@[simp] theorem width_PTP_FDB_LO_MAC : fldWidth PTP_FDB_LO_MAC = 32 := by simp only [fldWidth, PTP_FDB_LO_MAC]
@[simp] theorem key_PTP_FDB_HI_VID : fldKey PTP_FDB_HI_VID = 100665424 := by simp only [fldKey, PTP_FDB_HI_VID]
@[simp] theorem width_PTP_FDB_HI_VID : fldWidth PTP_FDB_HI_VID = 12 := by simp only [fldWidth, PTP_FDB_HI_VID]
@[simp] theorem key_PTP_FDB_HI_MAC : fldKey PTP_FDB_HI_MAC = 100665408 := by simp only [fldKey, PTP_FDB_HI_MAC]
@[simp] theorem width_PTP_FDB_HI_MAC : fldWidth PTP_FDB_HI_MAC = 16 := by simp only [fldWidth, PTP_FDB_HI_MAC]
@[simp] theorem key_PTP_FDB_CTL_GO : fldKey PTP_FDB_CTL_GO = 100665471 := by simp only [fldKey, PTP_FDB_CTL_GO]
@[simp] theorem width_PTP_FDB_CTL_GO : fldWidth PTP_FDB_CTL_GO = 1 := by simp only [fldWidth, PTP_FDB_CTL_GO]
@[simp] theorem key_PTP_FDB_CTL_OP : fldKey PTP_FDB_CTL_OP = 100665469 := by simp only [fldKey, PTP_FDB_CTL_OP]
@[simp] theorem width_PTP_FDB_CTL_OP : fldWidth PTP_FDB_CTL_OP = 2 := by simp only [fldWidth, PTP_FDB_CTL_OP]
@[simp] theorem key_PTP_FDB_CTL_FOUND : fldKey PTP_FDB_CTL_FOUND = 100665468 := by simp only [fldKey, PTP_FDB_CTL_FOUND]
@[simp] theorem width_PTP_FDB_CTL_FOUND : fldWidth PTP_FDB_CTL_FOUND = 1 := by simp only [fldWidth, PTP_FDB_CTL_FOUND]
@[simp] theorem key_PTP_FDB_CTL_FULL : fldKey PTP_FDB_CTL_FULL = 100665467 := by simp only [fldKey, PTP_FDB_CTL_FULL]
@[simp] theorem width_PTP_FDB_CTL_FULL : fldWidth PTP_FDB_CTL_FULL = 1 := by simp only [fldWidth, PTP_FDB_CTL_FULL]
@[simp] theorem key_PTP_FDB_CTL_STATIC : fldKey PTP_FDB_CTL_STATIC = 100665466 := by simp only [fldKey, PTP_FDB_CTL_STATIC]
@[simp] theorem width_PTP_FDB_CTL_STATIC : fldWidth PTP_FDB_CTL_STATIC = 1 := by simp only [fldWidth, PTP_FDB_CTL_STATIC]
@[simp] theorem key_PTP_FDB_CTL_PORTS : fldKey PTP_FDB_CTL_PORTS = 100665440 := by simp only [fldKey, PTP_FDB_CTL_PORTS]
@[simp] theorem width_PTP_FDB_CTL_PORTS : fldWidth PTP_FDB_CTL_PORTS = 6 := by simp only [fldWidth, PTP_FDB_CTL_PORTS]
@[simp] theorem key_PTP_VLAN_IDX_VID : fldKey PTP_VLAN_IDX_VID = 100665472 := by simp only [fldKey, PTP_VLAN_IDX_VID]
@[simp] theorem width_PTP_VLAN_IDX_VID : fldWidth PTP_VLAN_IDX_VID = 12 := by simp only [fldWidth, PTP_VLAN_IDX_VID]
@[simp] theorem key_PTP_VLAN_DATA_UNTAG : fldKey PTP_VLAN_DATA_UNTAG = 100665512 := by simp only [fldKey, PTP_VLAN_DATA_UNTAG]
@[simp] theorem width_PTP_VLAN_DATA_UNTAG : fldWidth PTP_VLAN_DATA_UNTAG = 6 := by simp only [fldWidth, PTP_VLAN_DATA_UNTAG]
@[simp] theorem key_PTP_VLAN_DATA_MEMBER : fldKey PTP_VLAN_DATA_MEMBER = 100665504 := by simp only [fldKey, PTP_VLAN_DATA_MEMBER]
@[simp] theorem width_PTP_VLAN_DATA_MEMBER : fldWidth PTP_VLAN_DATA_MEMBER = 6 := by simp only [fldWidth, PTP_VLAN_DATA_MEMBER]
@[simp] theorem key_PTP_PCP_MAP_MAP : fldKey PTP_PCP_MAP_MAP = 100665536 := by simp only [fldKey, PTP_PCP_MAP_MAP]
@[simp] theorem width_PTP_PCP_MAP_MAP : fldWidth PTP_PCP_MAP_MAP = 24 := by simp only [fldWidth, PTP_PCP_MAP_MAP]
@[simp] theorem key_PTP_SAi_CFG_VALID (n : Nat) : fldKey (PTP_SAi_CFG_VALID n) = 100667423 + 64 * n := by simp only [fldKey, PTP_SAi_CFG_VALID]; omega
@[simp] theorem width_PTP_SAi_CFG_VALID (n : Nat) : fldWidth (PTP_SAi_CFG_VALID n) = 1 := by simp only [fldWidth, PTP_SAi_CFG_VALID]
@[simp] theorem key_PTP_SAi_CFG_TX (n : Nat) : fldKey (PTP_SAi_CFG_TX n) = 100667422 + 64 * n := by simp only [fldKey, PTP_SAi_CFG_TX]; omega
@[simp] theorem width_PTP_SAi_CFG_TX (n : Nat) : fldWidth (PTP_SAi_CFG_TX n) = 1 := by simp only [fldWidth, PTP_SAi_CFG_TX]
@[simp] theorem key_PTP_SAi_CFG_SLOT (n : Nat) : fldKey (PTP_SAi_CFG_SLOT n) = 100667416 + 64 * n := by simp only [fldKey, PTP_SAi_CFG_SLOT]; omega
@[simp] theorem width_PTP_SAi_CFG_SLOT (n : Nat) : fldWidth (PTP_SAi_CFG_SLOT n) = 5 := by simp only [fldWidth, PTP_SAi_CFG_SLOT]
@[simp] theorem key_PTP_SAi_CFG_SPP (n : Nat) : fldKey (PTP_SAi_CFG_SPP n) = 100667408 + 64 * n := by simp only [fldKey, PTP_SAi_CFG_SPP]; omega
@[simp] theorem width_PTP_SAi_CFG_SPP (n : Nat) : fldWidth (PTP_SAi_CFG_SPP n) = 8 := by simp only [fldWidth, PTP_SAi_CFG_SPP]
@[simp] theorem key_PTP_SAi_CFG_DOMAIN (n : Nat) : fldKey (PTP_SAi_CFG_DOMAIN n) = 100667400 + 64 * n := by simp only [fldKey, PTP_SAi_CFG_DOMAIN]; omega
@[simp] theorem width_PTP_SAi_CFG_DOMAIN (n : Nat) : fldWidth (PTP_SAi_CFG_DOMAIN n) = 8 := by simp only [fldWidth, PTP_SAi_CFG_DOMAIN]
@[simp] theorem key_PTP_SAi_CFG_CFG_ERR (n : Nat) : fldKey (PTP_SAi_CFG_CFG_ERR n) = 100667392 + 64 * n := by simp only [fldKey, PTP_SAi_CFG_CFG_ERR]; omega
@[simp] theorem width_PTP_SAi_CFG_CFG_ERR (n : Nat) : fldWidth (PTP_SAi_CFG_CFG_ERR n) = 1 := by simp only [fldWidth, PTP_SAi_CFG_CFG_ERR]
@[simp] theorem key_PTP_SAi_KEYID_KEYID (n : Nat) : fldKey (PTP_SAi_KEYID_KEYID n) = 100667424 + 64 * n := by simp only [fldKey, PTP_SAi_KEYID_KEYID]; omega
@[simp] theorem width_PTP_SAi_KEYID_KEYID (n : Nat) : fldWidth (PTP_SAi_KEYID_KEYID n) = 32 := by simp only [fldWidth, PTP_SAi_KEYID_KEYID]
@[simp] theorem key_PTP_Pp_CFG_EN (n : Nat) : fldKey (PTP_Pp_CFG_EN n) = 100671519 + 1024 * n := by simp only [fldKey, PTP_Pp_CFG_EN]; omega
@[simp] theorem width_PTP_Pp_CFG_EN (n : Nat) : fldWidth (PTP_Pp_CFG_EN n) = 1 := by simp only [fldWidth, PTP_Pp_CFG_EN]
@[simp] theorem key_PTP_Pp_CFG_SERDES (n : Nat) : fldKey (PTP_Pp_CFG_SERDES n) = 100671517 + 1024 * n := by simp only [fldKey, PTP_Pp_CFG_SERDES]; omega
@[simp] theorem width_PTP_Pp_CFG_SERDES (n : Nat) : fldWidth (PTP_Pp_CFG_SERDES n) = 2 := by simp only [fldWidth, PTP_Pp_CFG_SERDES]
@[simp] theorem key_PTP_Pp_CFG_AN (n : Nat) : fldKey (PTP_Pp_CFG_AN n) = 100671516 + 1024 * n := by simp only [fldKey, PTP_Pp_CFG_AN]; omega
@[simp] theorem width_PTP_Pp_CFG_AN (n : Nat) : fldWidth (PTP_Pp_CFG_AN n) = 1 := by simp only [fldWidth, PTP_Pp_CFG_AN]
@[simp] theorem key_PTP_Pp_CFG_PTP_EN (n : Nat) : fldKey (PTP_Pp_CFG_PTP_EN n) = 100671515 + 1024 * n := by simp only [fldKey, PTP_Pp_CFG_PTP_EN]; omega
@[simp] theorem width_PTP_Pp_CFG_PTP_EN (n : Nat) : fldWidth (PTP_Pp_CFG_PTP_EN n) = 1 := by simp only [fldWidth, PTP_Pp_CFG_PTP_EN]
@[simp] theorem key_PTP_Pp_CFG_TRANSPORT (n : Nat) : fldKey (PTP_Pp_CFG_TRANSPORT n) = 100671513 + 1024 * n := by simp only [fldKey, PTP_Pp_CFG_TRANSPORT]; omega
@[simp] theorem width_PTP_Pp_CFG_TRANSPORT (n : Nat) : fldWidth (PTP_Pp_CFG_TRANSPORT n) = 2 := by simp only [fldWidth, PTP_Pp_CFG_TRANSPORT]
@[simp] theorem key_PTP_Pp_CFG_STEP (n : Nat) : fldKey (PTP_Pp_CFG_STEP n) = 100671512 + 1024 * n := by simp only [fldKey, PTP_Pp_CFG_STEP]; omega
@[simp] theorem width_PTP_Pp_CFG_STEP (n : Nat) : fldWidth (PTP_Pp_CFG_STEP n) = 1 := by simp only [fldWidth, PTP_Pp_CFG_STEP]
@[simp] theorem key_PTP_Pp_CFG_NFWD (n : Nat) : fldKey (PTP_Pp_CFG_NFWD n) = 100671511 + 1024 * n := by simp only [fldKey, PTP_Pp_CFG_NFWD]; omega
@[simp] theorem width_PTP_Pp_CFG_NFWD (n : Nat) : fldWidth (PTP_Pp_CFG_NFWD n) = 1 := by simp only [fldWidth, PTP_Pp_CFG_NFWD]
@[simp] theorem key_PTP_Pp_CFG_TAG (n : Nat) : fldKey (PTP_Pp_CFG_TAG n) = 100671510 + 1024 * n := by simp only [fldKey, PTP_Pp_CFG_TAG]; omega
@[simp] theorem width_PTP_Pp_CFG_TAG (n : Nat) : fldWidth (PTP_Pp_CFG_TAG n) = 1 := by simp only [fldWidth, PTP_Pp_CFG_TAG]
@[simp] theorem key_PTP_Pp_CFG_PTP_Q7 (n : Nat) : fldKey (PTP_Pp_CFG_PTP_Q7 n) = 100671509 + 1024 * n := by simp only [fldKey, PTP_Pp_CFG_PTP_Q7]; omega
@[simp] theorem width_PTP_Pp_CFG_PTP_Q7 (n : Nat) : fldWidth (PTP_Pp_CFG_PTP_Q7 n) = 1 := by simp only [fldWidth, PTP_Pp_CFG_PTP_Q7]
@[simp] theorem key_PTP_Pp_CFG_PVID (n : Nat) : fldKey (PTP_Pp_CFG_PVID n) = 100671488 + 1024 * n := by simp only [fldKey, PTP_Pp_CFG_PVID]; omega
@[simp] theorem width_PTP_Pp_CFG_PVID (n : Nat) : fldWidth (PTP_Pp_CFG_PVID n) = 12 := by simp only [fldWidth, PTP_Pp_CFG_PVID]
@[simp] theorem key_PTP_Pp_STAT_LINK (n : Nat) : fldKey (PTP_Pp_STAT_LINK n) = 100671551 + 1024 * n := by simp only [fldKey, PTP_Pp_STAT_LINK]; omega
@[simp] theorem width_PTP_Pp_STAT_LINK (n : Nat) : fldWidth (PTP_Pp_STAT_LINK n) = 1 := by simp only [fldWidth, PTP_Pp_STAT_LINK]
@[simp] theorem key_PTP_Pp_STAT_SPEED (n : Nat) : fldKey (PTP_Pp_STAT_SPEED n) = 100671549 + 1024 * n := by simp only [fldKey, PTP_Pp_STAT_SPEED]; omega
@[simp] theorem width_PTP_Pp_STAT_SPEED (n : Nat) : fldWidth (PTP_Pp_STAT_SPEED n) = 2 := by simp only [fldWidth, PTP_Pp_STAT_SPEED]
@[simp] theorem key_PTP_Pp_STAT_CDR_LOCK (n : Nat) : fldKey (PTP_Pp_STAT_CDR_LOCK n) = 100671548 + 1024 * n := by simp only [fldKey, PTP_Pp_STAT_CDR_LOCK]; omega
@[simp] theorem width_PTP_Pp_STAT_CDR_LOCK (n : Nat) : fldWidth (PTP_Pp_STAT_CDR_LOCK n) = 1 := by simp only [fldWidth, PTP_Pp_STAT_CDR_LOCK]
@[simp] theorem key_PTP_Pp_STAT_CFG_ERR (n : Nat) : fldKey (PTP_Pp_STAT_CFG_ERR n) = 100671547 + 1024 * n := by simp only [fldKey, PTP_Pp_STAT_CFG_ERR]; omega
@[simp] theorem width_PTP_Pp_STAT_CFG_ERR (n : Nat) : fldWidth (PTP_Pp_STAT_CFG_ERR n) = 1 := by simp only [fldWidth, PTP_Pp_STAT_CFG_ERR]
@[simp] theorem key_PTP_Pp_STAT_ERR (n : Nat) : fldKey (PTP_Pp_STAT_ERR n) = 100671544 + 1024 * n := by simp only [fldKey, PTP_Pp_STAT_ERR]; omega
@[simp] theorem width_PTP_Pp_STAT_ERR (n : Nat) : fldWidth (PTP_Pp_STAT_ERR n) = 3 := by simp only [fldWidth, PTP_Pp_STAT_ERR]
@[simp] theorem key_PTP_Pp_STAT_STATE (n : Nat) : fldKey (PTP_Pp_STAT_STATE n) = 100671540 + 1024 * n := by simp only [fldKey, PTP_Pp_STAT_STATE]; omega
@[simp] theorem width_PTP_Pp_STAT_STATE (n : Nat) : fldWidth (PTP_Pp_STAT_STATE n) = 4 := by simp only [fldWidth, PTP_Pp_STAT_STATE]
@[simp] theorem key_PTP_Pp_STAT_MPD_VALID (n : Nat) : fldKey (PTP_Pp_STAT_MPD_VALID n) = 100671539 + 1024 * n := by simp only [fldKey, PTP_Pp_STAT_MPD_VALID]; omega
@[simp] theorem width_PTP_Pp_STAT_MPD_VALID (n : Nat) : fldWidth (PTP_Pp_STAT_MPD_VALID n) = 1 := by simp only [fldWidth, PTP_Pp_STAT_MPD_VALID]
@[simp] theorem key_PTP_Pp_STAT_NRR_VALID (n : Nat) : fldKey (PTP_Pp_STAT_NRR_VALID n) = 100671538 + 1024 * n := by simp only [fldKey, PTP_Pp_STAT_NRR_VALID]; omega
@[simp] theorem width_PTP_Pp_STAT_NRR_VALID (n : Nat) : fldWidth (PTP_Pp_STAT_NRR_VALID n) = 1 := by simp only [fldWidth, PTP_Pp_STAT_NRR_VALID]
@[simp] theorem key_PTP_Pp_INTV_LOG_SYNC (n : Nat) : fldKey (PTP_Pp_INTV_LOG_SYNC n) = 100671576 + 1024 * n := by simp only [fldKey, PTP_Pp_INTV_LOG_SYNC]; omega
@[simp] theorem width_PTP_Pp_INTV_LOG_SYNC (n : Nat) : fldWidth (PTP_Pp_INTV_LOG_SYNC n) = 8 := by simp only [fldWidth, PTP_Pp_INTV_LOG_SYNC]
@[simp] theorem key_PTP_Pp_INTV_LOG_ANN (n : Nat) : fldKey (PTP_Pp_INTV_LOG_ANN n) = 100671568 + 1024 * n := by simp only [fldKey, PTP_Pp_INTV_LOG_ANN]; omega
@[simp] theorem width_PTP_Pp_INTV_LOG_ANN (n : Nat) : fldWidth (PTP_Pp_INTV_LOG_ANN n) = 8 := by simp only [fldWidth, PTP_Pp_INTV_LOG_ANN]
@[simp] theorem key_PTP_Pp_INTV_LOG_DREQ (n : Nat) : fldKey (PTP_Pp_INTV_LOG_DREQ n) = 100671560 + 1024 * n := by simp only [fldKey, PTP_Pp_INTV_LOG_DREQ]; omega
@[simp] theorem width_PTP_Pp_INTV_LOG_DREQ (n : Nat) : fldWidth (PTP_Pp_INTV_LOG_DREQ n) = 8 := by simp only [fldWidth, PTP_Pp_INTV_LOG_DREQ]
@[simp] theorem key_PTP_Pp_INTV_ANN_TO (n : Nat) : fldKey (PTP_Pp_INTV_ANN_TO n) = 100671552 + 1024 * n := by simp only [fldKey, PTP_Pp_INTV_ANN_TO]; omega
@[simp] theorem width_PTP_Pp_INTV_ANN_TO (n : Nat) : fldWidth (PTP_Pp_INTV_ANN_TO n) = 8 := by simp only [fldWidth, PTP_Pp_INTV_ANN_TO]
@[simp] theorem key_PTP_Pp_TXLAT_LAT (n : Nat) : fldKey (PTP_Pp_TXLAT_LAT n) = 100671584 + 1024 * n := by simp only [fldKey, PTP_Pp_TXLAT_LAT]; omega
@[simp] theorem width_PTP_Pp_TXLAT_LAT (n : Nat) : fldWidth (PTP_Pp_TXLAT_LAT n) = 32 := by simp only [fldWidth, PTP_Pp_TXLAT_LAT]
@[simp] theorem key_PTP_Pp_RXLAT_LAT (n : Nat) : fldKey (PTP_Pp_RXLAT_LAT n) = 100671616 + 1024 * n := by simp only [fldKey, PTP_Pp_RXLAT_LAT]; omega
@[simp] theorem width_PTP_Pp_RXLAT_LAT (n : Nat) : fldWidth (PTP_Pp_RXLAT_LAT n) = 32 := by simp only [fldWidth, PTP_Pp_RXLAT_LAT]
@[simp] theorem key_PTP_Pp_ASYM_A (n : Nat) : fldKey (PTP_Pp_ASYM_A n) = 100671648 + 1024 * n := by simp only [fldKey, PTP_Pp_ASYM_A]; omega
@[simp] theorem width_PTP_Pp_ASYM_A (n : Nat) : fldWidth (PTP_Pp_ASYM_A n) = 32 := by simp only [fldWidth, PTP_Pp_ASYM_A]
@[simp] theorem key_PTP_Pp_FILT_FMODE (n : Nat) : fldKey (PTP_Pp_FILT_FMODE n) = 100671710 + 1024 * n := by simp only [fldKey, PTP_Pp_FILT_FMODE]; omega
@[simp] theorem width_PTP_Pp_FILT_FMODE (n : Nat) : fldWidth (PTP_Pp_FILT_FMODE n) = 2 := by simp only [fldWidth, PTP_Pp_FILT_FMODE]
@[simp] theorem key_PTP_Pp_FILT_FN (n : Nat) : fldKey (PTP_Pp_FILT_FN n) = 100671704 + 1024 * n := by simp only [fldKey, PTP_Pp_FILT_FN]; omega
@[simp] theorem width_PTP_Pp_FILT_FN (n : Nat) : fldWidth (PTP_Pp_FILT_FN n) = 4 := by simp only [fldWidth, PTP_Pp_FILT_FN]
@[simp] theorem key_PTP_Pp_FILT_DLY_FILT (n : Nat) : fldKey (PTP_Pp_FILT_DLY_FILT n) = 100671696 + 1024 * n := by simp only [fldKey, PTP_Pp_FILT_DLY_FILT]; omega
@[simp] theorem width_PTP_Pp_FILT_DLY_FILT (n : Nat) : fldWidth (PTP_Pp_FILT_DLY_FILT n) = 4 := by simp only [fldWidth, PTP_Pp_FILT_DLY_FILT]
@[simp] theorem key_PTP_Pp_FILT_DLY_REJ (n : Nat) : fldKey (PTP_Pp_FILT_DLY_REJ n) = 100671680 + 1024 * n := by simp only [fldKey, PTP_Pp_FILT_DLY_REJ]; omega
@[simp] theorem width_PTP_Pp_FILT_DLY_REJ (n : Nat) : fldWidth (PTP_Pp_FILT_DLY_REJ n) = 16 := by simp only [fldWidth, PTP_Pp_FILT_DLY_REJ]
@[simp] theorem key_PTP_Pp_LPRIO_MASTER_ONLY (n : Nat) : fldKey (PTP_Pp_LPRIO_MASTER_ONLY n) = 100671720 + 1024 * n := by simp only [fldKey, PTP_Pp_LPRIO_MASTER_ONLY]; omega
@[simp] theorem width_PTP_Pp_LPRIO_MASTER_ONLY (n : Nat) : fldWidth (PTP_Pp_LPRIO_MASTER_ONLY n) = 1 := by simp only [fldWidth, PTP_Pp_LPRIO_MASTER_ONLY]
@[simp] theorem key_PTP_Pp_LPRIO_LOCAL_PRIO (n : Nat) : fldKey (PTP_Pp_LPRIO_LOCAL_PRIO n) = 100671712 + 1024 * n := by simp only [fldKey, PTP_Pp_LPRIO_LOCAL_PRIO]; omega
@[simp] theorem width_PTP_Pp_LPRIO_LOCAL_PRIO (n : Nat) : fldWidth (PTP_Pp_LPRIO_LOCAL_PRIO n) = 8 := by simp only [fldWidth, PTP_Pp_LPRIO_LOCAL_PRIO]
@[simp] theorem key_PTP_Pp_MPD_LO_D (n : Nat) : fldKey (PTP_Pp_MPD_LO_D n) = 100671744 + 1024 * n := by simp only [fldKey, PTP_Pp_MPD_LO_D]; omega
@[simp] theorem width_PTP_Pp_MPD_LO_D (n : Nat) : fldWidth (PTP_Pp_MPD_LO_D n) = 32 := by simp only [fldWidth, PTP_Pp_MPD_LO_D]
@[simp] theorem key_PTP_Pp_MPD_HI_D (n : Nat) : fldKey (PTP_Pp_MPD_HI_D n) = 100671776 + 1024 * n := by simp only [fldKey, PTP_Pp_MPD_HI_D]; omega
@[simp] theorem width_PTP_Pp_MPD_HI_D (n : Nat) : fldWidth (PTP_Pp_MPD_HI_D n) = 32 := by simp only [fldWidth, PTP_Pp_MPD_HI_D]
@[simp] theorem key_PTP_Pp_OFM_LO_O (n : Nat) : fldKey (PTP_Pp_OFM_LO_O n) = 100671808 + 1024 * n := by simp only [fldKey, PTP_Pp_OFM_LO_O]; omega
@[simp] theorem width_PTP_Pp_OFM_LO_O (n : Nat) : fldWidth (PTP_Pp_OFM_LO_O n) = 32 := by simp only [fldWidth, PTP_Pp_OFM_LO_O]
@[simp] theorem key_PTP_Pp_OFM_HI_O (n : Nat) : fldKey (PTP_Pp_OFM_HI_O n) = 100671840 + 1024 * n := by simp only [fldKey, PTP_Pp_OFM_HI_O]; omega
@[simp] theorem width_PTP_Pp_OFM_HI_O (n : Nat) : fldWidth (PTP_Pp_OFM_HI_O n) = 32 := by simp only [fldWidth, PTP_Pp_OFM_HI_O]
@[simp] theorem key_PTP_Pp_NRR_LO_R (n : Nat) : fldKey (PTP_Pp_NRR_LO_R n) = 100671872 + 1024 * n := by simp only [fldKey, PTP_Pp_NRR_LO_R]; omega
@[simp] theorem width_PTP_Pp_NRR_LO_R (n : Nat) : fldWidth (PTP_Pp_NRR_LO_R n) = 32 := by simp only [fldWidth, PTP_Pp_NRR_LO_R]
@[simp] theorem key_PTP_Pp_NRR_HI_R (n : Nat) : fldKey (PTP_Pp_NRR_HI_R n) = 100671904 + 1024 * n := by simp only [fldKey, PTP_Pp_NRR_HI_R]; omega
@[simp] theorem width_PTP_Pp_NRR_HI_R (n : Nat) : fldWidth (PTP_Pp_NRR_HI_R n) = 32 := by simp only [fldWidth, PTP_Pp_NRR_HI_R]
@[simp] theorem key_PTP_Pp_SE_CFG_SE_EN (n : Nat) : fldKey (PTP_Pp_SE_CFG_SE_EN n) = 100671967 + 1024 * n := by simp only [fldKey, PTP_Pp_SE_CFG_SE_EN]; omega
@[simp] theorem width_PTP_Pp_SE_CFG_SE_EN (n : Nat) : fldWidth (PTP_Pp_SE_CFG_SE_EN n) = 1 := by simp only [fldWidth, PTP_Pp_SE_CFG_SE_EN]
@[simp] theorem key_PTP_Pp_SE_CFG_OPT (n : Nat) : fldKey (PTP_Pp_SE_CFG_OPT n) = 100671966 + 1024 * n := by simp only [fldKey, PTP_Pp_SE_CFG_OPT]; omega
@[simp] theorem width_PTP_Pp_SE_CFG_OPT (n : Nat) : fldWidth (PTP_Pp_SE_CFG_OPT n) = 1 := by simp only [fldWidth, PTP_Pp_SE_CFG_OPT]
@[simp] theorem key_PTP_Pp_SE_CFG_EXT (n : Nat) : fldKey (PTP_Pp_SE_CFG_EXT n) = 100671965 + 1024 * n := by simp only [fldKey, PTP_Pp_SE_CFG_EXT]; omega
@[simp] theorem width_PTP_Pp_SE_CFG_EXT (n : Nat) : fldWidth (PTP_Pp_SE_CFG_EXT n) = 1 := by simp only [fldWidth, PTP_Pp_SE_CFG_EXT]
@[simp] theorem key_PTP_Pp_SE_CFG_ESMC_TX (n : Nat) : fldKey (PTP_Pp_SE_CFG_ESMC_TX n) = 100671964 + 1024 * n := by simp only [fldKey, PTP_Pp_SE_CFG_ESMC_TX]; omega
@[simp] theorem width_PTP_Pp_SE_CFG_ESMC_TX (n : Nat) : fldWidth (PTP_Pp_SE_CFG_ESMC_TX n) = 1 := by simp only [fldWidth, PTP_Pp_SE_CFG_ESMC_TX]
@[simp] theorem key_PTP_Pp_SE_CFG_QL_HO (n : Nat) : fldKey (PTP_Pp_SE_CFG_QL_HO n) = 100671956 + 1024 * n := by simp only [fldKey, PTP_Pp_SE_CFG_QL_HO]; omega
@[simp] theorem width_PTP_Pp_SE_CFG_QL_HO (n : Nat) : fldWidth (PTP_Pp_SE_CFG_QL_HO n) = 4 := by simp only [fldWidth, PTP_Pp_SE_CFG_QL_HO]
@[simp] theorem key_PTP_Pp_SE_STAT_RX_SSM (n : Nat) : fldKey (PTP_Pp_SE_STAT_RX_SSM n) = 100671996 + 1024 * n := by simp only [fldKey, PTP_Pp_SE_STAT_RX_SSM]; omega
@[simp] theorem width_PTP_Pp_SE_STAT_RX_SSM (n : Nat) : fldWidth (PTP_Pp_SE_STAT_RX_SSM n) = 4 := by simp only [fldWidth, PTP_Pp_SE_STAT_RX_SSM]
@[simp] theorem key_PTP_Pp_SE_STAT_RX_ESSM (n : Nat) : fldKey (PTP_Pp_SE_STAT_RX_ESSM n) = 100671988 + 1024 * n := by simp only [fldKey, PTP_Pp_SE_STAT_RX_ESSM]; omega
@[simp] theorem width_PTP_Pp_SE_STAT_RX_ESSM (n : Nat) : fldWidth (PTP_Pp_SE_STAT_RX_ESSM n) = 8 := by simp only [fldWidth, PTP_Pp_SE_STAT_RX_ESSM]
@[simp] theorem key_PTP_Pp_SE_STAT_RX_EXT (n : Nat) : fldKey (PTP_Pp_SE_STAT_RX_EXT n) = 100671987 + 1024 * n := by simp only [fldKey, PTP_Pp_SE_STAT_RX_EXT]; omega
@[simp] theorem width_PTP_Pp_SE_STAT_RX_EXT (n : Nat) : fldWidth (PTP_Pp_SE_STAT_RX_EXT n) = 1 := by simp only [fldWidth, PTP_Pp_SE_STAT_RX_EXT]
@[simp] theorem key_PTP_Pp_SE_STAT_ESMC_OK (n : Nat) : fldKey (PTP_Pp_SE_STAT_ESMC_OK n) = 100671986 + 1024 * n := by simp only [fldKey, PTP_Pp_SE_STAT_ESMC_OK]; omega
@[simp] theorem width_PTP_Pp_SE_STAT_ESMC_OK (n : Nat) : fldWidth (PTP_Pp_SE_STAT_ESMC_OK n) = 1 := by simp only [fldWidth, PTP_Pp_SE_STAT_ESMC_OK]
@[simp] theorem key_PTP_Pp_SE_STAT_TX_SSM (n : Nat) : fldKey (PTP_Pp_SE_STAT_TX_SSM n) = 100671982 + 1024 * n := by simp only [fldKey, PTP_Pp_SE_STAT_TX_SSM]; omega
@[simp] theorem width_PTP_Pp_SE_STAT_TX_SSM (n : Nat) : fldWidth (PTP_Pp_SE_STAT_TX_SSM n) = 4 := by simp only [fldWidth, PTP_Pp_SE_STAT_TX_SSM]
@[simp] theorem key_PTP_Pp_SE_STAT_TX_DNU (n : Nat) : fldKey (PTP_Pp_SE_STAT_TX_DNU n) = 100671981 + 1024 * n := by simp only [fldKey, PTP_Pp_SE_STAT_TX_DNU]; omega
@[simp] theorem width_PTP_Pp_SE_STAT_TX_DNU (n : Nat) : fldWidth (PTP_Pp_SE_STAT_TX_DNU n) = 1 := by simp only [fldWidth, PTP_Pp_SE_STAT_TX_DNU]
@[simp] theorem key_PTP_Pp_CNT0_AUTH_FAIL (n : Nat) : fldKey (PTP_Pp_CNT0_AUTH_FAIL n) = 100672016 + 1024 * n := by simp only [fldKey, PTP_Pp_CNT0_AUTH_FAIL]; omega
@[simp] theorem width_PTP_Pp_CNT0_AUTH_FAIL (n : Nat) : fldWidth (PTP_Pp_CNT0_AUTH_FAIL n) = 16 := by simp only [fldWidth, PTP_Pp_CNT0_AUTH_FAIL]
@[simp] theorem key_PTP_Pp_CNT0_DROP (n : Nat) : fldKey (PTP_Pp_CNT0_DROP n) = 100672000 + 1024 * n := by simp only [fldKey, PTP_Pp_CNT0_DROP]; omega
@[simp] theorem width_PTP_Pp_CNT0_DROP (n : Nat) : fldWidth (PTP_Pp_CNT0_DROP n) = 16 := by simp only [fldWidth, PTP_Pp_CNT0_DROP]
@[simp] theorem key_PTP_Pp_CNT1_DLY_REJ (n : Nat) : fldKey (PTP_Pp_CNT1_DLY_REJ n) = 100672048 + 1024 * n := by simp only [fldKey, PTP_Pp_CNT1_DLY_REJ]; omega
@[simp] theorem width_PTP_Pp_CNT1_DLY_REJ (n : Nat) : fldWidth (PTP_Pp_CNT1_DLY_REJ n) = 16 := by simp only [fldWidth, PTP_Pp_CNT1_DLY_REJ]
@[simp] theorem key_PTP_Pp_CNT1_TC_NOKEY (n : Nat) : fldKey (PTP_Pp_CNT1_TC_NOKEY n) = 100672032 + 1024 * n := by simp only [fldKey, PTP_Pp_CNT1_TC_NOKEY]; omega
@[simp] theorem width_PTP_Pp_CNT1_TC_NOKEY (n : Nat) : fldWidth (PTP_Pp_CNT1_TC_NOKEY n) = 16 := by simp only [fldWidth, PTP_Pp_CNT1_TC_NOKEY]
@[simp] theorem key_PTP_Pp_TSQCFG_CAP_PTP (n : Nat) : fldKey (PTP_Pp_TSQCFG_CAP_PTP n) = 100672095 + 1024 * n := by simp only [fldKey, PTP_Pp_TSQCFG_CAP_PTP]; omega
@[simp] theorem width_PTP_Pp_TSQCFG_CAP_PTP (n : Nat) : fldWidth (PTP_Pp_TSQCFG_CAP_PTP n) = 1 := by simp only [fldWidth, PTP_Pp_TSQCFG_CAP_PTP]
@[simp] theorem key_PTP_Pp_TSQCFG_CAP_ET (n : Nat) : fldKey (PTP_Pp_TSQCFG_CAP_ET n) = 100672094 + 1024 * n := by simp only [fldKey, PTP_Pp_TSQCFG_CAP_ET]; omega
@[simp] theorem width_PTP_Pp_TSQCFG_CAP_ET (n : Nat) : fldWidth (PTP_Pp_TSQCFG_CAP_ET n) = 1 := by simp only [fldWidth, PTP_Pp_TSQCFG_CAP_ET]
@[simp] theorem key_PTP_Pp_TSQCFG_QTHR (n : Nat) : fldKey (PTP_Pp_TSQCFG_QTHR n) = 100672080 + 1024 * n := by simp only [fldKey, PTP_Pp_TSQCFG_QTHR]; omega
@[simp] theorem width_PTP_Pp_TSQCFG_QTHR (n : Nat) : fldWidth (PTP_Pp_TSQCFG_QTHR n) = 9 := by simp only [fldWidth, PTP_Pp_TSQCFG_QTHR]
@[simp] theorem key_PTP_Pp_TSQCFG_ETYPE (n : Nat) : fldKey (PTP_Pp_TSQCFG_ETYPE n) = 100672064 + 1024 * n := by simp only [fldKey, PTP_Pp_TSQCFG_ETYPE]; omega
@[simp] theorem width_PTP_Pp_TSQCFG_ETYPE (n : Nat) : fldWidth (PTP_Pp_TSQCFG_ETYPE n) = 16 := by simp only [fldWidth, PTP_Pp_TSQCFG_ETYPE]
@[simp] theorem key_PTP_Pp_TSQSTAT_LOST (n : Nat) : fldKey (PTP_Pp_TSQSTAT_LOST n) = 100672112 + 1024 * n := by simp only [fldKey, PTP_Pp_TSQSTAT_LOST]; omega
@[simp] theorem width_PTP_Pp_TSQSTAT_LOST (n : Nat) : fldWidth (PTP_Pp_TSQSTAT_LOST n) = 16 := by simp only [fldWidth, PTP_Pp_TSQSTAT_LOST]
@[simp] theorem key_PTP_Pp_TSQSTAT_OVF (n : Nat) : fldKey (PTP_Pp_TSQSTAT_OVF n) = 100672109 + 1024 * n := by simp only [fldKey, PTP_Pp_TSQSTAT_OVF]; omega
@[simp] theorem width_PTP_Pp_TSQSTAT_OVF (n : Nat) : fldWidth (PTP_Pp_TSQSTAT_OVF n) = 1 := by simp only [fldWidth, PTP_Pp_TSQSTAT_OVF]
@[simp] theorem key_PTP_Pp_TSQSTAT_LEVEL (n : Nat) : fldKey (PTP_Pp_TSQSTAT_LEVEL n) = 100672096 + 1024 * n := by simp only [fldKey, PTP_Pp_TSQSTAT_LEVEL]; omega
@[simp] theorem width_PTP_Pp_TSQSTAT_LEVEL (n : Nat) : fldWidth (PTP_Pp_TSQSTAT_LEVEL n) = 9 := by simp only [fldWidth, PTP_Pp_TSQSTAT_LEVEL]
@[simp] theorem key_PTP_Pp_TSQ_HEAD (n j : Nat) : fldKey (PTP_Pp_TSQ_HEAD n j) = 100672128 + 1024 * n + 32 * j := by simp only [fldKey, PTP_Pp_TSQ_HEAD]; omega
@[simp] theorem width_PTP_Pp_TSQ_HEAD (n j : Nat) : fldWidth (PTP_Pp_TSQ_HEAD n j) = 32 := by simp only [fldWidth, PTP_Pp_TSQ_HEAD]
@[simp] theorem key_PTP_Pp_CTL_AN_RESTART (n : Nat) : fldKey (PTP_Pp_CTL_AN_RESTART n) = 100672258 + 1024 * n := by simp only [fldKey, PTP_Pp_CTL_AN_RESTART]; omega
@[simp] theorem width_PTP_Pp_CTL_AN_RESTART (n : Nat) : fldWidth (PTP_Pp_CTL_AN_RESTART n) = 1 := by simp only [fldWidth, PTP_Pp_CTL_AN_RESTART]
@[simp] theorem key_PTP_Pp_CTL_FLUSH (n : Nat) : fldKey (PTP_Pp_CTL_FLUSH n) = 100672257 + 1024 * n := by simp only [fldKey, PTP_Pp_CTL_FLUSH]; omega
@[simp] theorem width_PTP_Pp_CTL_FLUSH (n : Nat) : fldWidth (PTP_Pp_CTL_FLUSH n) = 1 := by simp only [fldWidth, PTP_Pp_CTL_FLUSH]
@[simp] theorem key_PTP_Pp_CTL_POP (n : Nat) : fldKey (PTP_Pp_CTL_POP n) = 100672256 + 1024 * n := by simp only [fldKey, PTP_Pp_CTL_POP]; omega
@[simp] theorem width_PTP_Pp_CTL_POP (n : Nat) : fldWidth (PTP_Pp_CTL_POP n) = 1 := by simp only [fldWidth, PTP_Pp_CTL_POP]
@[simp] theorem key_CRL_LKk_CFG_EN (n : Nat) : fldKey (CRL_LKk_CFG_EN n) = 109051935 + 512 * n := by simp only [fldKey, CRL_LKk_CFG_EN]; omega
@[simp] theorem width_CRL_LKk_CFG_EN (n : Nat) : fldWidth (CRL_LKk_CFG_EN n) = 1 := by simp only [fldWidth, CRL_LKk_CFG_EN]
@[simp] theorem key_CRL_LKk_CFG_ROLE (n : Nat) : fldKey (CRL_LKk_CFG_ROLE n) = 109051934 + 512 * n := by simp only [fldKey, CRL_LKk_CFG_ROLE]; omega
@[simp] theorem width_CRL_LKk_CFG_ROLE (n : Nat) : fldWidth (CRL_LKk_CFG_ROLE n) = 1 := by simp only [fldWidth, CRL_LKk_CFG_ROLE]
@[simp] theorem key_CRL_LKk_CFG_REMOTE (n : Nat) : fldKey (CRL_LKk_CFG_REMOTE n) = 109051932 + 512 * n := by simp only [fldKey, CRL_LKk_CFG_REMOTE]; omega
@[simp] theorem width_CRL_LKk_CFG_REMOTE (n : Nat) : fldWidth (CRL_LKk_CFG_REMOTE n) = 2 := by simp only [fldWidth, CRL_LKk_CFG_REMOTE]
@[simp] theorem key_CRL_LKk_CFG_ADDR (n : Nat) : fldKey (CRL_LKk_CFG_ADDR n) = 109051924 + 512 * n := by simp only [fldKey, CRL_LKk_CFG_ADDR]; omega
@[simp] theorem width_CRL_LKk_CFG_ADDR (n : Nat) : fldWidth (CRL_LKk_CFG_ADDR n) = 5 := by simp only [fldWidth, CRL_LKk_CFG_ADDR]
@[simp] theorem key_CRL_LKk_CFG_CBASE (n : Nat) : fldKey (CRL_LKk_CFG_CBASE n) = 109051918 + 512 * n := by simp only [fldKey, CRL_LKk_CFG_CBASE]; omega
@[simp] theorem width_CRL_LKk_CFG_CBASE (n : Nat) : fldWidth (CRL_LKk_CFG_CBASE n) = 6 := by simp only [fldWidth, CRL_LKk_CFG_CBASE]
@[simp] theorem key_CRL_LKk_CFG_PROBE_N (n : Nat) : fldKey (CRL_LKk_CFG_PROBE_N n) = 109051912 + 512 * n := by simp only [fldKey, CRL_LKk_CFG_PROBE_N]; omega
@[simp] theorem width_CRL_LKk_CFG_PROBE_N (n : Nat) : fldWidth (CRL_LKk_CFG_PROBE_N n) = 6 := by simp only [fldWidth, CRL_LKk_CFG_PROBE_N]
@[simp] theorem key_CRL_LKk_TIM_RPER (n : Nat) : fldKey (CRL_LKk_TIM_RPER n) = 109051952 + 512 * n := by simp only [fldKey, CRL_LKk_TIM_RPER]; omega
@[simp] theorem width_CRL_LKk_TIM_RPER (n : Nat) : fldWidth (CRL_LKk_TIM_RPER n) = 16 := by simp only [fldWidth, CRL_LKk_TIM_RPER]
@[simp] theorem key_CRL_LKk_TIM_RESP_TO (n : Nat) : fldKey (CRL_LKk_TIM_RESP_TO n) = 109051944 + 512 * n := by simp only [fldKey, CRL_LKk_TIM_RESP_TO]; omega
@[simp] theorem width_CRL_LKk_TIM_RESP_TO (n : Nat) : fldWidth (CRL_LKk_TIM_RESP_TO n) = 8 := by simp only [fldWidth, CRL_LKk_TIM_RESP_TO]
@[simp] theorem key_CRL_LKk_TIM_RETRY (n : Nat) : fldKey (CRL_LKk_TIM_RETRY n) = 109051940 + 512 * n := by simp only [fldKey, CRL_LKk_TIM_RETRY]; omega
@[simp] theorem width_CRL_LKk_TIM_RETRY (n : Nat) : fldWidth (CRL_LKk_TIM_RETRY n) = 4 := by simp only [fldWidth, CRL_LKk_TIM_RETRY]
@[simp] theorem key_CRL_LKk_TIM_MISS (n : Nat) : fldKey (CRL_LKk_TIM_MISS n) = 109051936 + 512 * n := by simp only [fldKey, CRL_LKk_TIM_MISS]; omega
@[simp] theorem width_CRL_LKk_TIM_MISS (n : Nat) : fldWidth (CRL_LKk_TIM_MISS n) = 4 := by simp only [fldWidth, CRL_LKk_TIM_MISS]
@[simp] theorem key_CRL_LKk_TXLAT_LAT (n : Nat) : fldKey (CRL_LKk_TXLAT_LAT n) = 109051968 + 512 * n := by simp only [fldKey, CRL_LKk_TXLAT_LAT]; omega
@[simp] theorem width_CRL_LKk_TXLAT_LAT (n : Nat) : fldWidth (CRL_LKk_TXLAT_LAT n) = 32 := by simp only [fldWidth, CRL_LKk_TXLAT_LAT]
@[simp] theorem key_CRL_LKk_RXLAT_LAT (n : Nat) : fldKey (CRL_LKk_RXLAT_LAT n) = 109052000 + 512 * n := by simp only [fldKey, CRL_LKk_RXLAT_LAT]; omega
@[simp] theorem width_CRL_LKk_RXLAT_LAT (n : Nat) : fldWidth (CRL_LKk_RXLAT_LAT n) = 32 := by simp only [fldWidth, CRL_LKk_RXLAT_LAT]
@[simp] theorem key_CRL_LKk_TT_TT_RATE (n : Nat) : fldKey (CRL_LKk_TT_TT_RATE n) = 109052060 + 512 * n := by simp only [fldKey, CRL_LKk_TT_TT_RATE]; omega
@[simp] theorem width_CRL_LKk_TT_TT_RATE (n : Nat) : fldWidth (CRL_LKk_TT_TT_RATE n) = 4 := by simp only [fldWidth, CRL_LKk_TT_TT_RATE]
@[simp] theorem key_CRL_LKk_TT_DTOL (n : Nat) : fldKey (CRL_LKk_TT_DTOL n) = 109052032 + 512 * n := by simp only [fldKey, CRL_LKk_TT_DTOL]; omega
@[simp] theorem width_CRL_LKk_TT_DTOL (n : Nat) : fldWidth (CRL_LKk_TT_DTOL n) = 16 := by simp only [fldWidth, CRL_LKk_TT_DTOL]
@[simp] theorem key_CRL_LKk_KEY_KEY_EN (n : Nat) : fldKey (CRL_LKk_KEY_KEY_EN n) = 109052095 + 512 * n := by simp only [fldKey, CRL_LKk_KEY_KEY_EN]; omega
@[simp] theorem width_CRL_LKk_KEY_KEY_EN (n : Nat) : fldWidth (CRL_LKk_KEY_KEY_EN n) = 1 := by simp only [fldWidth, CRL_LKk_KEY_KEY_EN]
@[simp] theorem key_CRL_LKk_KEY_KEYSLOT (n : Nat) : fldKey (CRL_LKk_KEY_KEYSLOT n) = 109052088 + 512 * n := by simp only [fldKey, CRL_LKk_KEY_KEYSLOT]; omega
@[simp] theorem width_CRL_LKk_KEY_KEYSLOT (n : Nat) : fldWidth (CRL_LKk_KEY_KEYSLOT n) = 5 := by simp only [fldWidth, CRL_LKk_KEY_KEYSLOT]
@[simp] theorem key_CRL_LKk_STAT_PSTATE (n : Nat) : fldKey (CRL_LKk_STAT_PSTATE n) = 109052126 + 512 * n := by simp only [fldKey, CRL_LKk_STAT_PSTATE]; omega
@[simp] theorem width_CRL_LKk_STAT_PSTATE (n : Nat) : fldWidth (CRL_LKk_STAT_PSTATE n) = 2 := by simp only [fldWidth, CRL_LKk_STAT_PSTATE]
@[simp] theorem key_CRL_LKk_STAT_VER (n : Nat) : fldKey (CRL_LKk_STAT_VER n) = 109052124 + 512 * n := by simp only [fldKey, CRL_LKk_STAT_VER]; omega
@[simp] theorem width_CRL_LKk_STAT_VER (n : Nat) : fldWidth (CRL_LKk_STAT_VER n) = 2 := by simp only [fldWidth, CRL_LKk_STAT_VER]
@[simp] theorem key_CRL_LKk_STAT_CFG_ERR (n : Nat) : fldKey (CRL_LKk_STAT_CFG_ERR n) = 109052123 + 512 * n := by simp only [fldKey, CRL_LKk_STAT_CFG_ERR]; omega
@[simp] theorem width_CRL_LKk_STAT_CFG_ERR (n : Nat) : fldWidth (CRL_LKk_STAT_CFG_ERR n) = 1 := by simp only [fldWidth, CRL_LKk_STAT_CFG_ERR]
@[simp] theorem key_CRL_LKk_STAT_ERR (n : Nat) : fldKey (CRL_LKk_STAT_ERR n) = 109052120 + 512 * n := by simp only [fldKey, CRL_LKk_STAT_ERR]; omega
@[simp] theorem width_CRL_LKk_STAT_ERR (n : Nat) : fldWidth (CRL_LKk_STAT_ERR n) = 3 := by simp only [fldWidth, CRL_LKk_STAT_ERR]
@[simp] theorem key_CRL_LKk_CNT0_REJ (n : Nat) : fldKey (CRL_LKk_CNT0_REJ n) = 109052144 + 512 * n := by simp only [fldKey, CRL_LKk_CNT0_REJ]; omega
@[simp] theorem width_CRL_LKk_CNT0_REJ (n : Nat) : fldWidth (CRL_LKk_CNT0_REJ n) = 16 := by simp only [fldWidth, CRL_LKk_CNT0_REJ]
@[simp] theorem key_CRL_LKk_CNT0_NORESP (n : Nat) : fldKey (CRL_LKk_CNT0_NORESP n) = 109052128 + 512 * n := by simp only [fldKey, CRL_LKk_CNT0_NORESP]; omega
@[simp] theorem width_CRL_LKk_CNT0_NORESP (n : Nat) : fldWidth (CRL_LKk_CNT0_NORESP n) = 16 := by simp only [fldWidth, CRL_LKk_CNT0_NORESP]
@[simp] theorem key_CRL_LKk_CNT1_FRANK_FAIL (n : Nat) : fldKey (CRL_LKk_CNT1_FRANK_FAIL n) = 109052176 + 512 * n := by simp only [fldKey, CRL_LKk_CNT1_FRANK_FAIL]; omega
@[simp] theorem width_CRL_LKk_CNT1_FRANK_FAIL (n : Nat) : fldWidth (CRL_LKk_CNT1_FRANK_FAIL n) = 16 := by simp only [fldWidth, CRL_LKk_CNT1_FRANK_FAIL]
@[simp] theorem key_CRL_LKk_CNT1_REPLAY (n : Nat) : fldKey (CRL_LKk_CNT1_REPLAY n) = 109052160 + 512 * n := by simp only [fldKey, CRL_LKk_CNT1_REPLAY]; omega
@[simp] theorem width_CRL_LKk_CNT1_REPLAY (n : Nat) : fldWidth (CRL_LKk_CNT1_REPLAY n) = 16 := by simp only [fldWidth, CRL_LKk_CNT1_REPLAY]
@[simp] theorem key_CRL_LKk_PRES_PRESENT (n : Nat) : fldKey (CRL_LKk_PRES_PRESENT n) = 109052192 + 512 * n := by simp only [fldKey, CRL_LKk_PRES_PRESENT]; omega
@[simp] theorem width_CRL_LKk_PRES_PRESENT (n : Nat) : fldWidth (CRL_LKk_PRES_PRESENT n) = 32 := by simp only [fldWidth, CRL_LKk_PRES_PRESENT]
@[simp] theorem key_CRL_LKk_TSQCFG_CAP_TT (n : Nat) : fldKey (CRL_LKk_TSQCFG_CAP_TT n) = 109052255 + 512 * n := by simp only [fldKey, CRL_LKk_TSQCFG_CAP_TT]; omega
@[simp] theorem width_CRL_LKk_TSQCFG_CAP_TT (n : Nat) : fldWidth (CRL_LKk_TSQCFG_CAP_TT n) = 1 := by simp only [fldWidth, CRL_LKk_TSQCFG_CAP_TT]
@[simp] theorem key_CRL_LKk_TSQCFG_CAP_ALL (n : Nat) : fldKey (CRL_LKk_TSQCFG_CAP_ALL n) = 109052254 + 512 * n := by simp only [fldKey, CRL_LKk_TSQCFG_CAP_ALL]; omega
@[simp] theorem width_CRL_LKk_TSQCFG_CAP_ALL (n : Nat) : fldWidth (CRL_LKk_TSQCFG_CAP_ALL n) = 1 := by simp only [fldWidth, CRL_LKk_TSQCFG_CAP_ALL]
@[simp] theorem key_CRL_LKk_TSQCFG_QTHR (n : Nat) : fldKey (CRL_LKk_TSQCFG_QTHR n) = 109052224 + 512 * n := by simp only [fldKey, CRL_LKk_TSQCFG_QTHR]; omega
@[simp] theorem width_CRL_LKk_TSQCFG_QTHR (n : Nat) : fldWidth (CRL_LKk_TSQCFG_QTHR n) = 7 := by simp only [fldWidth, CRL_LKk_TSQCFG_QTHR]
@[simp] theorem key_CRL_LKk_TSQSTAT_LOST (n : Nat) : fldKey (CRL_LKk_TSQSTAT_LOST n) = 109052272 + 512 * n := by simp only [fldKey, CRL_LKk_TSQSTAT_LOST]; omega
@[simp] theorem width_CRL_LKk_TSQSTAT_LOST (n : Nat) : fldWidth (CRL_LKk_TSQSTAT_LOST n) = 16 := by simp only [fldWidth, CRL_LKk_TSQSTAT_LOST]
@[simp] theorem key_CRL_LKk_TSQSTAT_OVF (n : Nat) : fldKey (CRL_LKk_TSQSTAT_OVF n) = 109052269 + 512 * n := by simp only [fldKey, CRL_LKk_TSQSTAT_OVF]; omega
@[simp] theorem width_CRL_LKk_TSQSTAT_OVF (n : Nat) : fldWidth (CRL_LKk_TSQSTAT_OVF n) = 1 := by simp only [fldWidth, CRL_LKk_TSQSTAT_OVF]
@[simp] theorem key_CRL_LKk_TSQSTAT_LEVEL (n : Nat) : fldKey (CRL_LKk_TSQSTAT_LEVEL n) = 109052256 + 512 * n := by simp only [fldKey, CRL_LKk_TSQSTAT_LEVEL]; omega
@[simp] theorem width_CRL_LKk_TSQSTAT_LEVEL (n : Nat) : fldWidth (CRL_LKk_TSQSTAT_LEVEL n) = 10 := by simp only [fldWidth, CRL_LKk_TSQSTAT_LEVEL]
@[simp] theorem key_CRL_LKk_TSQ_HEAD (n j : Nat) : fldKey (CRL_LKk_TSQ_HEAD n j) = 109052288 + 512 * n + 32 * j := by simp only [fldKey, CRL_LKk_TSQ_HEAD]; omega
@[simp] theorem width_CRL_LKk_TSQ_HEAD (n j : Nat) : fldWidth (CRL_LKk_TSQ_HEAD n j) = 32 := by simp only [fldWidth, CRL_LKk_TSQ_HEAD]
@[simp] theorem key_CRL_PIDX_LINK : fldKey CRL_PIDX_LINK = 109053957 := by simp only [fldKey, CRL_PIDX_LINK]
@[simp] theorem width_CRL_PIDX_LINK : fldWidth CRL_PIDX_LINK = 2 := by simp only [fldWidth, CRL_PIDX_LINK]
@[simp] theorem key_CRL_PIDX_ADDR : fldKey CRL_PIDX_ADDR = 109053952 := by simp only [fldKey, CRL_PIDX_ADDR]
@[simp] theorem width_CRL_PIDX_ADDR : fldWidth CRL_PIDX_ADDR = 5 := by simp only [fldWidth, CRL_PIDX_ADDR]
@[simp] theorem key_CRL_P_CFG_EXPECT : fldKey CRL_P_CFG_EXPECT = 109054015 := by simp only [fldKey, CRL_P_CFG_EXPECT]
@[simp] theorem width_CRL_P_CFG_EXPECT : fldWidth CRL_P_CFG_EXPECT = 1 := by simp only [fldWidth, CRL_P_CFG_EXPECT]
@[simp] theorem key_CRL_P_CFG_KEY_EN : fldKey CRL_P_CFG_KEY_EN = 109054014 := by simp only [fldKey, CRL_P_CFG_KEY_EN]
@[simp] theorem width_CRL_P_CFG_KEY_EN : fldWidth CRL_P_CFG_KEY_EN = 1 := by simp only [fldWidth, CRL_P_CFG_KEY_EN]
@[simp] theorem key_CRL_P_CFG_TT_EN : fldKey CRL_P_CFG_TT_EN = 109054013 := by simp only [fldKey, CRL_P_CFG_TT_EN]
@[simp] theorem width_CRL_P_CFG_TT_EN : fldWidth CRL_P_CFG_TT_EN = 1 := by simp only [fldWidth, CRL_P_CFG_TT_EN]
@[simp] theorem key_CRL_P_CFG_KEYSLOT : fldKey CRL_P_CFG_KEYSLOT = 109054008 := by simp only [fldKey, CRL_P_CFG_KEYSLOT]
@[simp] theorem width_CRL_P_CFG_KEYSLOT : fldWidth CRL_P_CFG_KEYSLOT = 5 := by simp only [fldWidth, CRL_P_CFG_KEYSLOT]
@[simp] theorem key_CRL_P_CFG_VMAX : fldKey CRL_P_CFG_VMAX = 109054006 := by simp only [fldKey, CRL_P_CFG_VMAX]
@[simp] theorem width_CRL_P_CFG_VMAX : fldWidth CRL_P_CFG_VMAX = 2 := by simp only [fldWidth, CRL_P_CFG_VMAX]
@[simp] theorem key_CRL_P_CFG_PR_MAX : fldKey CRL_P_CFG_PR_MAX = 109053992 := by simp only [fldKey, CRL_P_CFG_PR_MAX]
@[simp] theorem width_CRL_P_CFG_PR_MAX : fldWidth CRL_P_CFG_PR_MAX = 8 := by simp only [fldWidth, CRL_P_CFG_PR_MAX]
@[simp] theorem key_CRL_P_CFG_PR_LIFE : fldKey CRL_P_CFG_PR_LIFE = 109053984 := by simp only [fldKey, CRL_P_CFG_PR_LIFE]
@[simp] theorem width_CRL_P_CFG_PR_LIFE : fldWidth CRL_P_CFG_PR_LIFE = 8 := by simp only [fldWidth, CRL_P_CFG_PR_LIFE]
@[simp] theorem key_CRL_P_STAT_STATE : fldKey CRL_P_STAT_STATE = 109054045 := by simp only [fldKey, CRL_P_STAT_STATE]
@[simp] theorem width_CRL_P_STAT_STATE : fldWidth CRL_P_STAT_STATE = 3 := by simp only [fldWidth, CRL_P_STAT_STATE]
@[simp] theorem key_CRL_P_STAT_VER : fldKey CRL_P_STAT_VER = 109054043 := by simp only [fldKey, CRL_P_STAT_VER]
@[simp] theorem width_CRL_P_STAT_VER : fldWidth CRL_P_STAT_VER = 2 := by simp only [fldWidth, CRL_P_STAT_VER]
@[simp] theorem key_CRL_P_STAT_RJ : fldKey CRL_P_STAT_RJ = 109054040 := by simp only [fldKey, CRL_P_STAT_RJ]
@[simp] theorem width_CRL_P_STAT_RJ : fldWidth CRL_P_STAT_RJ = 3 := by simp only [fldWidth, CRL_P_STAT_RJ]
@[simp] theorem key_CRL_P_STAT_PTYPE : fldKey CRL_P_STAT_PTYPE = 109054037 := by simp only [fldKey, CRL_P_STAT_PTYPE]
@[simp] theorem width_CRL_P_STAT_PTYPE : fldWidth CRL_P_STAT_PTYPE = 3 := by simp only [fldWidth, CRL_P_STAT_PTYPE]
@[simp] theorem key_CRL_P_STAT_ID_VALID : fldKey CRL_P_STAT_ID_VALID = 109054036 := by simp only [fldKey, CRL_P_STAT_ID_VALID]
@[simp] theorem width_CRL_P_STAT_ID_VALID : fldWidth CRL_P_STAT_ID_VALID = 1 := by simp only [fldWidth, CRL_P_STAT_ID_VALID]
@[simp] theorem key_CRL_P_STAT_NCH : fldKey CRL_P_STAT_NCH = 109054032 := by simp only [fldKey, CRL_P_STAT_NCH]
@[simp] theorem width_CRL_P_STAT_NCH : fldWidth CRL_P_STAT_NCH = 4 := by simp only [fldWidth, CRL_P_STAT_NCH]
@[simp] theorem key_CRL_P_STAT_HELD : fldKey CRL_P_STAT_HELD = 109054024 := by simp only [fldKey, CRL_P_STAT_HELD]
@[simp] theorem width_CRL_P_STAT_HELD : fldWidth CRL_P_STAT_HELD = 8 := by simp only [fldWidth, CRL_P_STAT_HELD]
@[simp] theorem key_CRL_P_STAT_MISSCNT : fldKey CRL_P_STAT_MISSCNT = 109054016 := by simp only [fldKey, CRL_P_STAT_MISSCNT]
@[simp] theorem width_CRL_P_STAT_MISSCNT : fldWidth CRL_P_STAT_MISSCNT = 8 := by simp only [fldWidth, CRL_P_STAT_MISSCNT]
@[simp] theorem key_CRL_P_ID_LO_ID : fldKey CRL_P_ID_LO_ID = 109054048 := by simp only [fldKey, CRL_P_ID_LO_ID]
@[simp] theorem width_CRL_P_ID_LO_ID : fldWidth CRL_P_ID_LO_ID = 32 := by simp only [fldWidth, CRL_P_ID_LO_ID]
@[simp] theorem key_CRL_P_ID_HI_ID : fldKey CRL_P_ID_HI_ID = 109054080 := by simp only [fldKey, CRL_P_ID_HI_ID]
@[simp] theorem width_CRL_P_ID_HI_ID : fldWidth CRL_P_ID_HI_ID = 32 := by simp only [fldWidth, CRL_P_ID_HI_ID]
@[simp] theorem key_CRL_P_CABD_CABLE_D : fldKey CRL_P_CABD_CABLE_D = 109054112 := by simp only [fldKey, CRL_P_CABD_CABLE_D]
@[simp] theorem width_CRL_P_CABD_CABLE_D : fldWidth CRL_P_CABD_CABLE_D = 32 := by simp only [fldWidth, CRL_P_CABD_CABLE_D]
@[simp] theorem key_CRL_P_ASYM_ASYM : fldKey CRL_P_ASYM_ASYM = 109054144 := by simp only [fldKey, CRL_P_ASYM_ASYM]
@[simp] theorem width_CRL_P_ASYM_ASYM : fldWidth CRL_P_ASYM_ASYM = 32 := by simp only [fldWidth, CRL_P_ASYM_ASYM]
@[simp] theorem key_CRL_P_DLY_D : fldKey CRL_P_DLY_D = 109054176 := by simp only [fldKey, CRL_P_DLY_D]
@[simp] theorem width_CRL_P_DLY_D : fldWidth CRL_P_DLY_D = 32 := by simp only [fldWidth, CRL_P_DLY_D]
@[simp] theorem key_CRL_P_CAL_CALV : fldKey CRL_P_CAL_CALV = 109054239 := by simp only [fldKey, CRL_P_CAL_CALV]
@[simp] theorem width_CRL_P_CAL_CALV : fldWidth CRL_P_CAL_CALV = 1 := by simp only [fldWidth, CRL_P_CAL_CALV]
@[simp] theorem key_CRL_P_CAL_CAL_RUN : fldKey CRL_P_CAL_CAL_RUN = 109054238 := by simp only [fldKey, CRL_P_CAL_CAL_RUN]
@[simp] theorem width_CRL_P_CAL_CAL_RUN : fldWidth CRL_P_CAL_CAL_RUN = 1 := by simp only [fldWidth, CRL_P_CAL_CAL_RUN]
@[simp] theorem key_CRL_P_CAL_CAL_ERR : fldKey CRL_P_CAL_CAL_ERR = 109054237 := by simp only [fldKey, CRL_P_CAL_CAL_ERR]
@[simp] theorem width_CRL_P_CAL_CAL_ERR : fldWidth CRL_P_CAL_CAL_ERR = 1 := by simp only [fldWidth, CRL_P_CAL_CAL_ERR]
@[simp] theorem key_CRL_P_CAL_CAL_SD : fldKey CRL_P_CAL_CAL_SD = 109054208 := by simp only [fldKey, CRL_P_CAL_CAL_SD]
@[simp] theorem width_CRL_P_CAL_CAL_SD : fldWidth CRL_P_CAL_CAL_SD = 16 := by simp only [fldWidth, CRL_P_CAL_CAL_SD]
@[simp] theorem key_CRL_P_CTL_CAL_START : fldKey CRL_P_CTL_CAL_START = 109054242 := by simp only [fldKey, CRL_P_CTL_CAL_START]
@[simp] theorem width_CRL_P_CTL_CAL_START : fldWidth CRL_P_CTL_CAL_START = 1 := by simp only [fldWidth, CRL_P_CTL_CAL_START]
@[simp] theorem key_CRL_P_CTL_RENEG : fldKey CRL_P_CTL_RENEG = 109054241 := by simp only [fldKey, CRL_P_CTL_RENEG]
@[simp] theorem width_CRL_P_CTL_RENEG : fldWidth CRL_P_CTL_RENEG = 1 := by simp only [fldWidth, CRL_P_CTL_RENEG]
@[simp] theorem key_CRL_P_CTL_FORGET : fldKey CRL_P_CTL_FORGET = 109054240 := by simp only [fldKey, CRL_P_CTL_FORGET]
@[simp] theorem width_CRL_P_CTL_FORGET : fldWidth CRL_P_CTL_FORGET = 1 := by simp only [fldWidth, CRL_P_CTL_FORGET]
@[simp] theorem key_CRL_FOL_STAT_VALID : fldKey CRL_FOL_STAT_VALID = 109054495 := by simp only [fldKey, CRL_FOL_STAT_VALID]
@[simp] theorem width_CRL_FOL_STAT_VALID : fldWidth CRL_FOL_STAT_VALID = 1 := by simp only [fldWidth, CRL_FOL_STAT_VALID]
@[simp] theorem key_CRL_FOL_STAT_LINK : fldKey CRL_FOL_STAT_LINK = 109054493 := by simp only [fldKey, CRL_FOL_STAT_LINK]
@[simp] theorem width_CRL_FOL_STAT_LINK : fldWidth CRL_FOL_STAT_LINK = 2 := by simp only [fldWidth, CRL_FOL_STAT_LINK]
@[simp] theorem key_CRL_FOL_STAT_TFLAGS : fldKey CRL_FOL_STAT_TFLAGS = 109054488 := by simp only [fldKey, CRL_FOL_STAT_TFLAGS]
@[simp] theorem width_CRL_FOL_STAT_TFLAGS : fldWidth CRL_FOL_STAT_TFLAGS = 5 := by simp only [fldWidth, CRL_FOL_STAT_TFLAGS]
@[simp] theorem key_CRL_FOL_STAT_QL : fldKey CRL_FOL_STAT_QL = 109054484 := by simp only [fldKey, CRL_FOL_STAT_QL]
@[simp] theorem width_CRL_FOL_STAT_QL : fldWidth CRL_FOL_STAT_QL = 4 := by simp only [fldWidth, CRL_FOL_STAT_QL]
@[simp] theorem key_CRL_FOL_Q_CLASS : fldKey CRL_FOL_Q_CLASS = 109054520 := by simp only [fldKey, CRL_FOL_Q_CLASS]
@[simp] theorem width_CRL_FOL_Q_CLASS : fldWidth CRL_FOL_Q_CLASS = 8 := by simp only [fldWidth, CRL_FOL_Q_CLASS]
@[simp] theorem key_CRL_FOL_Q_ACCURACY : fldKey CRL_FOL_Q_ACCURACY = 109054512 := by simp only [fldKey, CRL_FOL_Q_ACCURACY]
@[simp] theorem width_CRL_FOL_Q_ACCURACY : fldWidth CRL_FOL_Q_ACCURACY = 8 := by simp only [fldWidth, CRL_FOL_Q_ACCURACY]
@[simp] theorem key_CRL_FOL_Q_DAT : fldKey CRL_FOL_Q_DAT = 109054504 := by simp only [fldKey, CRL_FOL_Q_DAT]
@[simp] theorem width_CRL_FOL_Q_DAT : fldWidth CRL_FOL_Q_DAT = 8 := by simp only [fldWidth, CRL_FOL_Q_DAT]
@[simp] theorem key_CRL_FOL_OFF_SAMPLE : fldKey CRL_FOL_OFF_SAMPLE = 109054528 := by simp only [fldKey, CRL_FOL_OFF_SAMPLE]
@[simp] theorem width_CRL_FOL_OFF_SAMPLE : fldWidth CRL_FOL_OFF_SAMPLE = 32 := by simp only [fldWidth, CRL_FOL_OFF_SAMPLE]
@[simp] theorem key_CRL_FOL_CNT_DREJ : fldKey CRL_FOL_CNT_DREJ = 109054576 := by simp only [fldKey, CRL_FOL_CNT_DREJ]
@[simp] theorem width_CRL_FOL_CNT_DREJ : fldWidth CRL_FOL_CNT_DREJ = 16 := by simp only [fldWidth, CRL_FOL_CNT_DREJ]
@[simp] theorem key_CRL_FOL_CNT_FUP_LATE : fldKey CRL_FOL_CNT_FUP_LATE = 109054560 := by simp only [fldKey, CRL_FOL_CNT_FUP_LATE]
@[simp] theorem width_CRL_FOL_CNT_FUP_LATE : fldWidth CRL_FOL_CNT_FUP_LATE = 16 := by simp only [fldWidth, CRL_FOL_CNT_FUP_LATE]
@[simp] theorem key_CRL_LBO_HDR_LINK : fldKey CRL_LBO_HDR_LINK = 109055006 := by simp only [fldKey, CRL_LBO_HDR_LINK]
@[simp] theorem width_CRL_LBO_HDR_LINK : fldWidth CRL_LBO_HDR_LINK = 2 := by simp only [fldWidth, CRL_LBO_HDR_LINK]
@[simp] theorem key_CRL_LBO_HDR_ADDR : fldKey CRL_LBO_HDR_ADDR = 109055000 := by simp only [fldKey, CRL_LBO_HDR_ADDR]
@[simp] theorem width_CRL_LBO_HDR_ADDR : fldWidth CRL_LBO_HDR_ADDR = 5 := by simp only [fldWidth, CRL_LBO_HDR_ADDR]
@[simp] theorem key_CRL_LBO_HDR_KIND : fldKey CRL_LBO_HDR_KIND = 109054996 := by simp only [fldKey, CRL_LBO_HDR_KIND]
@[simp] theorem width_CRL_LBO_HDR_KIND : fldWidth CRL_LBO_HDR_KIND = 1 := by simp only [fldWidth, CRL_LBO_HDR_KIND]
@[simp] theorem key_CRL_LBO_HDR_TAG : fldKey CRL_LBO_HDR_TAG = 109054988 := by simp only [fldKey, CRL_LBO_HDR_TAG]
@[simp] theorem width_CRL_LBO_HDR_TAG : fldWidth CRL_LBO_HDR_TAG = 8 := by simp only [fldWidth, CRL_LBO_HDR_TAG]
@[simp] theorem key_CRL_LBO_HDR_LEN : fldKey CRL_LBO_HDR_LEN = 109054976 := by simp only [fldKey, CRL_LBO_HDR_LEN]
@[simp] theorem width_CRL_LBO_HDR_LEN : fldWidth CRL_LBO_HDR_LEN = 9 := by simp only [fldWidth, CRL_LBO_HDR_LEN]
@[simp] theorem key_CRL_LBO_DATA_DATA : fldKey CRL_LBO_DATA_DATA = 109055008 := by simp only [fldKey, CRL_LBO_DATA_DATA]
@[simp] theorem width_CRL_LBO_DATA_DATA : fldWidth CRL_LBO_DATA_DATA = 32 := by simp only [fldWidth, CRL_LBO_DATA_DATA]
@[simp] theorem key_CRL_LBO_CTL_DISCARD : fldKey CRL_LBO_CTL_DISCARD = 109055041 := by simp only [fldKey, CRL_LBO_CTL_DISCARD]
@[simp] theorem width_CRL_LBO_CTL_DISCARD : fldWidth CRL_LBO_CTL_DISCARD = 1 := by simp only [fldWidth, CRL_LBO_CTL_DISCARD]
@[simp] theorem key_CRL_LBO_CTL_POST : fldKey CRL_LBO_CTL_POST = 109055040 := by simp only [fldKey, CRL_LBO_CTL_POST]
@[simp] theorem width_CRL_LBO_CTL_POST : fldWidth CRL_LBO_CTL_POST = 1 := by simp only [fldWidth, CRL_LBO_CTL_POST]
@[simp] theorem key_CRL_LBO_STAT_REFUSE : fldKey CRL_LBO_STAT_REFUSE = 109055100 := by simp only [fldKey, CRL_LBO_STAT_REFUSE]
@[simp] theorem width_CRL_LBO_STAT_REFUSE : fldWidth CRL_LBO_STAT_REFUSE = 4 := by simp only [fldWidth, CRL_LBO_STAT_REFUSE]
@[simp] theorem key_CRL_LBO_STAT_POOL_FREE : fldKey CRL_LBO_STAT_POOL_FREE = 109055088 := by simp only [fldKey, CRL_LBO_STAT_POOL_FREE]
@[simp] theorem width_CRL_LBO_STAT_POOL_FREE : fldWidth CRL_LBO_STAT_POOL_FREE = 10 := by simp only [fldWidth, CRL_LBO_STAT_POOL_FREE]
@[simp] theorem key_CRL_LBO_STAT_STAGED : fldKey CRL_LBO_STAT_STAGED = 109055072 := by simp only [fldKey, CRL_LBO_STAT_STAGED]
@[simp] theorem width_CRL_LBO_STAT_STAGED : fldWidth CRL_LBO_STAT_STAGED = 7 := by simp only [fldWidth, CRL_LBO_STAT_STAGED]
@[simp] theorem key_CRL_LBI_STAT_LOST : fldKey CRL_LBI_STAT_LOST = 109055120 := by simp only [fldKey, CRL_LBI_STAT_LOST]
@[simp] theorem width_CRL_LBI_STAT_LOST : fldWidth CRL_LBI_STAT_LOST = 16 := by simp only [fldWidth, CRL_LBI_STAT_LOST]
@[simp] theorem key_CRL_LBI_STAT_OVF : fldKey CRL_LBI_STAT_OVF = 109055117 := by simp only [fldKey, CRL_LBI_STAT_OVF]
@[simp] theorem width_CRL_LBI_STAT_OVF : fldWidth CRL_LBI_STAT_OVF = 1 := by simp only [fldWidth, CRL_LBI_STAT_OVF]
@[simp] theorem key_CRL_LBI_STAT_LEVEL : fldKey CRL_LBI_STAT_LEVEL = 109055104 := by simp only [fldKey, CRL_LBI_STAT_LEVEL]
@[simp] theorem width_CRL_LBI_STAT_LEVEL : fldWidth CRL_LBI_STAT_LEVEL = 10 := by simp only [fldWidth, CRL_LBI_STAT_LEVEL]
@[simp] theorem key_CRL_LBI_HDR0_HDR : fldKey CRL_LBI_HDR0_HDR = 109055136 := by simp only [fldKey, CRL_LBI_HDR0_HDR]
@[simp] theorem width_CRL_LBI_HDR0_HDR : fldWidth CRL_LBI_HDR0_HDR = 32 := by simp only [fldWidth, CRL_LBI_HDR0_HDR]
@[simp] theorem key_CRL_DLQ_STAT_LOST : fldKey CRL_DLQ_STAT_LOST = 109055184 := by simp only [fldKey, CRL_DLQ_STAT_LOST]
@[simp] theorem width_CRL_DLQ_STAT_LOST : fldWidth CRL_DLQ_STAT_LOST = 16 := by simp only [fldWidth, CRL_DLQ_STAT_LOST]
@[simp] theorem key_CRL_DLQ_STAT_OVF : fldKey CRL_DLQ_STAT_OVF = 109055181 := by simp only [fldKey, CRL_DLQ_STAT_OVF]
@[simp] theorem width_CRL_DLQ_STAT_OVF : fldWidth CRL_DLQ_STAT_OVF = 1 := by simp only [fldWidth, CRL_DLQ_STAT_OVF]
@[simp] theorem key_CRL_DLQ_STAT_LEVEL : fldKey CRL_DLQ_STAT_LEVEL = 109055168 := by simp only [fldKey, CRL_DLQ_STAT_LEVEL]
@[simp] theorem width_CRL_DLQ_STAT_LEVEL : fldWidth CRL_DLQ_STAT_LEVEL = 10 := by simp only [fldWidth, CRL_DLQ_STAT_LEVEL]
@[simp] theorem key_CRL_DLQ_HDR_HDR : fldKey CRL_DLQ_HDR_HDR = 109055200 := by simp only [fldKey, CRL_DLQ_HDR_HDR]
@[simp] theorem width_CRL_DLQ_HDR_HDR : fldWidth CRL_DLQ_HDR_HDR = 32 := by simp only [fldWidth, CRL_DLQ_HDR_HDR]
@[simp] theorem key_CRL_CTL_TSQ_FLUSH : fldKey CRL_CTL_TSQ_FLUSH = 109055244 := by simp only [fldKey, CRL_CTL_TSQ_FLUSH]
@[simp] theorem width_CRL_CTL_TSQ_FLUSH : fldWidth CRL_CTL_TSQ_FLUSH = 4 := by simp only [fldWidth, CRL_CTL_TSQ_FLUSH]
@[simp] theorem key_CRL_CTL_TSQ_POP : fldKey CRL_CTL_TSQ_POP = 109055240 := by simp only [fldKey, CRL_CTL_TSQ_POP]
@[simp] theorem width_CRL_CTL_TSQ_POP : fldWidth CRL_CTL_TSQ_POP = 4 := by simp only [fldWidth, CRL_CTL_TSQ_POP]
@[simp] theorem key_CRL_CTL_DLQ_RESEND : fldKey CRL_CTL_DLQ_RESEND = 109055234 := by simp only [fldKey, CRL_CTL_DLQ_RESEND]
@[simp] theorem width_CRL_CTL_DLQ_RESEND : fldWidth CRL_CTL_DLQ_RESEND = 1 := by simp only [fldWidth, CRL_CTL_DLQ_RESEND]
@[simp] theorem key_CRL_CTL_DLQ_POP : fldKey CRL_CTL_DLQ_POP = 109055233 := by simp only [fldKey, CRL_CTL_DLQ_POP]
@[simp] theorem width_CRL_CTL_DLQ_POP : fldWidth CRL_CTL_DLQ_POP = 1 := by simp only [fldWidth, CRL_CTL_DLQ_POP]
@[simp] theorem key_CRL_CTL_LBI_POP : fldKey CRL_CTL_LBI_POP = 109055232 := by simp only [fldKey, CRL_CTL_LBI_POP]
@[simp] theorem width_CRL_CTL_LBI_POP : fldWidth CRL_CTL_LBI_POP = 1 := by simp only [fldWidth, CRL_CTL_LBI_POP]
@[simp] theorem key_CRL_EVT_CAL : fldKey CRL_EVT_CAL = 109055272 := by simp only [fldKey, CRL_EVT_CAL]
@[simp] theorem width_CRL_EVT_CAL : fldWidth CRL_EVT_CAL = 1 := by simp only [fldWidth, CRL_EVT_CAL]
@[simp] theorem key_CRL_EVT_CASCADE : fldKey CRL_EVT_CASCADE = 109055271 := by simp only [fldKey, CRL_EVT_CASCADE]
@[simp] theorem width_CRL_EVT_CASCADE : fldWidth CRL_EVT_CASCADE = 1 := by simp only [fldWidth, CRL_EVT_CASCADE]
@[simp] theorem key_CRL_EVT_IDCHG : fldKey CRL_EVT_IDCHG = 109055270 := by simp only [fldKey, CRL_EVT_IDCHG]
@[simp] theorem width_CRL_EVT_IDCHG : fldWidth CRL_EVT_IDCHG = 1 := by simp only [fldWidth, CRL_EVT_IDCHG]
@[simp] theorem key_CRL_EVT_REJECT : fldKey CRL_EVT_REJECT = 109055269 := by simp only [fldKey, CRL_EVT_REJECT]
@[simp] theorem width_CRL_EVT_REJECT : fldWidth CRL_EVT_REJECT = 1 := by simp only [fldWidth, CRL_EVT_REJECT]
@[simp] theorem key_CRL_EVT_ABSENT : fldKey CRL_EVT_ABSENT = 109055268 := by simp only [fldKey, CRL_EVT_ABSENT]
@[simp] theorem width_CRL_EVT_ABSENT : fldWidth CRL_EVT_ABSENT = 1 := by simp only [fldWidth, CRL_EVT_ABSENT]
@[simp] theorem key_CRL_EVT_PRESENT : fldKey CRL_EVT_PRESENT = 109055267 := by simp only [fldKey, CRL_EVT_PRESENT]
@[simp] theorem width_CRL_EVT_PRESENT : fldWidth CRL_EVT_PRESENT = 1 := by simp only [fldWidth, CRL_EVT_PRESENT]
@[simp] theorem key_CRL_EVT_DLQ : fldKey CRL_EVT_DLQ = 109055266 := by simp only [fldKey, CRL_EVT_DLQ]
@[simp] theorem width_CRL_EVT_DLQ : fldWidth CRL_EVT_DLQ = 1 := by simp only [fldWidth, CRL_EVT_DLQ]
@[simp] theorem key_CRL_EVT_LBI : fldKey CRL_EVT_LBI = 109055265 := by simp only [fldKey, CRL_EVT_LBI]
@[simp] theorem width_CRL_EVT_LBI : fldWidth CRL_EVT_LBI = 1 := by simp only [fldWidth, CRL_EVT_LBI]
@[simp] theorem key_CRL_EVT_TSQT : fldKey CRL_EVT_TSQT = 109055264 := by simp only [fldKey, CRL_EVT_TSQT]
@[simp] theorem width_CRL_EVT_TSQT : fldWidth CRL_EVT_TSQT = 1 := by simp only [fldWidth, CRL_EVT_TSQT]
@[simp] theorem key_CRL_EVT_EN_EN : fldKey CRL_EVT_EN_EN = 109055296 := by simp only [fldKey, CRL_EVT_EN_EN]
@[simp] theorem width_CRL_EVT_EN_EN : fldWidth CRL_EVT_EN_EN = 32 := by simp only [fldWidth, CRL_EVT_EN_EN]
@[simp] theorem key_CRL_TEST_GO : fldKey CRL_TEST_GO = 109055359 := by simp only [fldKey, CRL_TEST_GO]
@[simp] theorem width_CRL_TEST_GO : fldWidth CRL_TEST_GO = 1 := by simp only [fldWidth, CRL_TEST_GO]
@[simp] theorem key_CRL_TEST_EXT : fldKey CRL_TEST_EXT = 109055358 := by simp only [fldKey, CRL_TEST_EXT]
@[simp] theorem width_CRL_TEST_EXT : fldWidth CRL_TEST_EXT = 1 := by simp only [fldWidth, CRL_TEST_EXT]
@[simp] theorem key_CRL_TEST_LINK : fldKey CRL_TEST_LINK = 109055336 := by simp only [fldKey, CRL_TEST_LINK]
@[simp] theorem width_CRL_TEST_LINK : fldWidth CRL_TEST_LINK = 2 := by simp only [fldWidth, CRL_TEST_LINK]
@[simp] theorem key_CRL_TEST_COUNT : fldKey CRL_TEST_COUNT = 109055328 := by simp only [fldKey, CRL_TEST_COUNT]
@[simp] theorem width_CRL_TEST_COUNT : fldWidth CRL_TEST_COUNT = 8 := by simp only [fldWidth, CRL_TEST_COUNT]
@[simp] theorem key_CRL_TESTRES_DONE : fldKey CRL_TESTRES_DONE = 109055391 := by simp only [fldKey, CRL_TESTRES_DONE]
@[simp] theorem width_CRL_TESTRES_DONE : fldWidth CRL_TESTRES_DONE = 1 := by simp only [fldWidth, CRL_TESTRES_DONE]
@[simp] theorem key_CRL_TESTRES_PASS : fldKey CRL_TESTRES_PASS = 109055390 := by simp only [fldKey, CRL_TESTRES_PASS]
@[simp] theorem width_CRL_TESTRES_PASS : fldWidth CRL_TESTRES_PASS = 1 := by simp only [fldWidth, CRL_TESTRES_PASS]
@[simp] theorem key_CRL_TESTRES_LOOP : fldKey CRL_TESTRES_LOOP = 109055360 := by simp only [fldKey, CRL_TESTRES_LOOP]
@[simp] theorem width_CRL_TESTRES_LOOP : fldWidth CRL_TESTRES_LOOP = 16 := by simp only [fldWidth, CRL_TESTRES_LOOP]
@[simp] theorem key_CRL_LBI_DATA_DATA (n : Nat) : fldKey (CRL_LBI_DATA_DATA n) = 109056000 + 32 * n := by simp only [fldKey, CRL_LBI_DATA_DATA]; omega
@[simp] theorem width_CRL_LBI_DATA_DATA (n : Nat) : fldWidth (CRL_LBI_DATA_DATA n) = 32 := by simp only [fldWidth, CRL_LBI_DATA_DATA]
@[simp] theorem key_CRL_DLQ_DATA_DATA (n : Nat) : fldKey (CRL_DLQ_DATA_DATA n) = 109058048 + 32 * n := by simp only [fldKey, CRL_DLQ_DATA_DATA]; omega
@[simp] theorem width_CRL_DLQ_DATA_DATA (n : Nat) : fldWidth (CRL_DLQ_DATA_DATA n) = 32 := by simp only [fldWidth, CRL_DLQ_DATA_DATA]
@[simp] theorem key_NVM_CFG_PF_EN : fldKey NVM_CFG_PF_EN = 117440543 := by simp only [fldKey, NVM_CFG_PF_EN]
@[simp] theorem width_NVM_CFG_PF_EN : fldWidth NVM_CFG_PF_EN = 1 := by simp only [fldWidth, NVM_CFG_PF_EN]
@[simp] theorem key_NVM_CFG_SHED : fldKey NVM_CFG_SHED = 117440542 := by simp only [fldKey, NVM_CFG_SHED]
@[simp] theorem width_NVM_CFG_SHED : fldWidth NVM_CFG_SHED = 1 := by simp only [fldWidth, NVM_CFG_SHED]
@[simp] theorem key_NVM_CFG_PERIOD : fldKey NVM_CFG_PERIOD = 117440536 := by simp only [fldKey, NVM_CFG_PERIOD]
@[simp] theorem width_NVM_CFG_PERIOD : fldWidth NVM_CFG_PERIOD = 4 := by simp only [fldWidth, NVM_CFG_PERIOD]
@[simp] theorem key_NVM_STAT_SAVE_RUN : fldKey NVM_STAT_SAVE_RUN = 117440575 := by simp only [fldKey, NVM_STAT_SAVE_RUN]
@[simp] theorem width_NVM_STAT_SAVE_RUN : fldWidth NVM_STAT_SAVE_RUN = 1 := by simp only [fldWidth, NVM_STAT_SAVE_RUN]
@[simp] theorem key_NVM_STAT_PF_WARN : fldKey NVM_STAT_PF_WARN = 117440574 := by simp only [fldKey, NVM_STAT_PF_WARN]
@[simp] theorem width_NVM_STAT_PF_WARN : fldWidth NVM_STAT_PF_WARN = 1 := by simp only [fldWidth, NVM_STAT_PF_WARN]
@[simp] theorem key_NVM_STAT_CRAM_BAD : fldKey NVM_STAT_CRAM_BAD = 117440573 := by simp only [fldKey, NVM_STAT_CRAM_BAD]
@[simp] theorem width_NVM_STAT_CRAM_BAD : fldWidth NVM_STAT_CRAM_BAD = 1 := by simp only [fldWidth, NVM_STAT_CRAM_BAD]
@[simp] theorem key_NVM_STAT_WB_LEVEL : fldKey NVM_STAT_WB_LEVEL = 117440568 := by simp only [fldKey, NVM_STAT_WB_LEVEL]
@[simp] theorem width_NVM_STAT_WB_LEVEL : fldWidth NVM_STAT_WB_LEVEL = 5 := by simp only [fldWidth, NVM_STAT_WB_LEVEL]
@[simp] theorem key_NVM_STAT_RESTORED : fldKey NVM_STAT_RESTORED = 117440567 := by simp only [fldKey, NVM_STAT_RESTORED]
@[simp] theorem width_NVM_STAT_RESTORED : fldWidth NVM_STAT_RESTORED = 1 := by simp only [fldWidth, NVM_STAT_RESTORED]
@[simp] theorem key_NVM_STAT_TIE : fldKey NVM_STAT_TIE = 117440566 := by simp only [fldKey, NVM_STAT_TIE]
@[simp] theorem width_NVM_STAT_TIE : fldWidth NVM_STAT_TIE = 1 := by simp only [fldWidth, NVM_STAT_TIE]
@[simp] theorem key_NVM_STAT_SKIP : fldKey NVM_STAT_SKIP = 117440565 := by simp only [fldKey, NVM_STAT_SKIP]
@[simp] theorem width_NVM_STAT_SKIP : fldWidth NVM_STAT_SKIP = 1 := by simp only [fldWidth, NVM_STAT_SKIP]
@[simp] theorem key_NVM_STAT_SLOT : fldKey NVM_STAT_SLOT = 117440560 := by simp only [fldKey, NVM_STAT_SLOT]
@[simp] theorem width_NVM_STAT_SLOT : fldWidth NVM_STAT_SLOT = 3 := by simp only [fldWidth, NVM_STAT_SLOT]
@[simp] theorem key_NVM_STAT_INVALID : fldKey NVM_STAT_INVALID = 117440552 := by simp only [fldKey, NVM_STAT_INVALID]
@[simp] theorem width_NVM_STAT_INVALID : fldWidth NVM_STAT_INVALID = 8 := by simp only [fldWidth, NVM_STAT_INVALID]
@[simp] theorem key_NVM_STAT_LAST_CAUSE : fldKey NVM_STAT_LAST_CAUSE = 117440544 := by simp only [fldKey, NVM_STAT_LAST_CAUSE]
@[simp] theorem width_NVM_STAT_LAST_CAUSE : fldWidth NVM_STAT_LAST_CAUSE = 3 := by simp only [fldWidth, NVM_STAT_LAST_CAUSE]
@[simp] theorem key_NVM_SEQ_SEQ : fldKey NVM_SEQ_SEQ = 117440576 := by simp only [fldKey, NVM_SEQ_SEQ]
@[simp] theorem width_NVM_SEQ_SEQ : fldWidth NVM_SEQ_SEQ = 32 := by simp only [fldWidth, NVM_SEQ_SEQ]
@[simp] theorem key_NVM_CTL_PB_CLR : fldKey NVM_CTL_PB_CLR = 117440610 := by simp only [fldKey, NVM_CTL_PB_CLR]
@[simp] theorem width_NVM_CTL_PB_CLR : fldWidth NVM_CTL_PB_CLR = 1 := by simp only [fldWidth, NVM_CTL_PB_CLR]
@[simp] theorem key_NVM_CTL_PB_PROG : fldKey NVM_CTL_PB_PROG = 117440609 := by simp only [fldKey, NVM_CTL_PB_PROG]
@[simp] theorem width_NVM_CTL_PB_PROG : fldWidth NVM_CTL_PB_PROG = 1 := by simp only [fldWidth, NVM_CTL_PB_PROG]
@[simp] theorem key_NVM_CTL_SAVE : fldKey NVM_CTL_SAVE = 117440608 := by simp only [fldKey, NVM_CTL_SAVE]
@[simp] theorem width_NVM_CTL_SAVE : fldWidth NVM_CTL_SAVE = 1 := by simp only [fldWidth, NVM_CTL_SAVE]
@[simp] theorem key_NVM_EVT_ECC_COR : fldKey NVM_EVT_ECC_COR = 117440643 := by simp only [fldKey, NVM_EVT_ECC_COR]
@[simp] theorem width_NVM_EVT_ECC_COR : fldWidth NVM_EVT_ECC_COR = 1 := by simp only [fldWidth, NVM_EVT_ECC_COR]
@[simp] theorem key_NVM_EVT_PROG_DONE : fldKey NVM_EVT_PROG_DONE = 117440642 := by simp only [fldKey, NVM_EVT_PROG_DONE]
@[simp] theorem width_NVM_EVT_PROG_DONE : fldWidth NVM_EVT_PROG_DONE = 1 := by simp only [fldWidth, NVM_EVT_PROG_DONE]
@[simp] theorem key_NVM_EVT_SAVE_DONE : fldKey NVM_EVT_SAVE_DONE = 117440641 := by simp only [fldKey, NVM_EVT_SAVE_DONE]
@[simp] theorem width_NVM_EVT_SAVE_DONE : fldWidth NVM_EVT_SAVE_DONE = 1 := by simp only [fldWidth, NVM_EVT_SAVE_DONE]
@[simp] theorem key_NVM_EVT_PF : fldKey NVM_EVT_PF = 117440640 := by simp only [fldKey, NVM_EVT_PF]
@[simp] theorem width_NVM_EVT_PF : fldWidth NVM_EVT_PF = 1 := by simp only [fldWidth, NVM_EVT_PF]
@[simp] theorem key_NVM_EVT_EN_EN : fldKey NVM_EVT_EN_EN = 117440672 := by simp only [fldKey, NVM_EVT_EN_EN]
@[simp] theorem width_NVM_EVT_EN_EN : fldWidth NVM_EVT_EN_EN = 32 := by simp only [fldWidth, NVM_EVT_EN_EN]
@[simp] theorem key_NVM_PADDR_PAGE : fldKey NVM_PADDR_PAGE = 117440704 := by simp only [fldKey, NVM_PADDR_PAGE]
@[simp] theorem width_NVM_PADDR_PAGE : fldWidth NVM_PADDR_PAGE = 11 := by simp only [fldWidth, NVM_PADDR_PAGE]
@[simp] theorem key_NVM_PSTAT_BUSY : fldKey NVM_PSTAT_BUSY = 117440767 := by simp only [fldKey, NVM_PSTAT_BUSY]
@[simp] theorem width_NVM_PSTAT_BUSY : fldWidth NVM_PSTAT_BUSY = 1 := by simp only [fldWidth, NVM_PSTAT_BUSY]
@[simp] theorem key_NVM_PSTAT_PB_PEND : fldKey NVM_PSTAT_PB_PEND = 117440766 := by simp only [fldKey, NVM_PSTAT_PB_PEND]
@[simp] theorem width_NVM_PSTAT_PB_PEND : fldWidth NVM_PSTAT_PB_PEND = 1 := by simp only [fldWidth, NVM_PSTAT_PB_PEND]
@[simp] theorem key_NVM_PSTAT_REFUSED : fldKey NVM_PSTAT_REFUSED = 117440765 := by simp only [fldKey, NVM_PSTAT_REFUSED]
@[simp] theorem width_NVM_PSTAT_REFUSED : fldWidth NVM_PSTAT_REFUSED = 1 := by simp only [fldWidth, NVM_PSTAT_REFUSED]
@[simp] theorem key_NVM_PSTAT_PB_FAIL : fldKey NVM_PSTAT_PB_FAIL = 117440764 := by simp only [fldKey, NVM_PSTAT_PB_FAIL]
@[simp] theorem width_NVM_PSTAT_PB_FAIL : fldWidth NVM_PSTAT_PB_FAIL = 1 := by simp only [fldWidth, NVM_PSTAT_PB_FAIL]
@[simp] theorem key_NVM_PSTAT_ECC_CNT : fldKey NVM_PSTAT_ECC_CNT = 117440736 := by simp only [fldKey, NVM_PSTAT_ECC_CNT]
@[simp] theorem width_NVM_PSTAT_ECC_CNT : fldWidth NVM_PSTAT_ECC_CNT = 16 := by simp only [fldWidth, NVM_PSTAT_ECC_CNT]
@[simp] theorem key_NVM_TEST_GO : fldKey NVM_TEST_GO = 117440799 := by simp only [fldKey, NVM_TEST_GO]
@[simp] theorem width_NVM_TEST_GO : fldWidth NVM_TEST_GO = 1 := by simp only [fldWidth, NVM_TEST_GO]
@[simp] theorem key_NVM_TEST_LAST : fldKey NVM_TEST_LAST = 117440784 := by simp only [fldKey, NVM_TEST_LAST]
@[simp] theorem width_NVM_TEST_LAST : fldWidth NVM_TEST_LAST = 11 := by simp only [fldWidth, NVM_TEST_LAST]
@[simp] theorem key_NVM_TEST_FIRST : fldKey NVM_TEST_FIRST = 117440768 := by simp only [fldKey, NVM_TEST_FIRST]
@[simp] theorem width_NVM_TEST_FIRST : fldWidth NVM_TEST_FIRST = 11 := by simp only [fldWidth, NVM_TEST_FIRST]
@[simp] theorem key_NVM_TESTRES_DONE : fldKey NVM_TESTRES_DONE = 117440831 := by simp only [fldKey, NVM_TESTRES_DONE]
@[simp] theorem width_NVM_TESTRES_DONE : fldWidth NVM_TESTRES_DONE = 1 := by simp only [fldWidth, NVM_TESTRES_DONE]
@[simp] theorem key_NVM_TESTRES_PASS : fldKey NVM_TESTRES_PASS = 117440830 := by simp only [fldKey, NVM_TESTRES_PASS]
@[simp] theorem width_NVM_TESTRES_PASS : fldWidth NVM_TESTRES_PASS = 1 := by simp only [fldWidth, NVM_TESTRES_PASS]
@[simp] theorem key_NVM_TESTRES_STOPPED : fldKey NVM_TESTRES_STOPPED = 117440829 := by simp only [fldKey, NVM_TESTRES_STOPPED]
@[simp] theorem width_NVM_TESTRES_STOPPED : fldWidth NVM_TESTRES_STOPPED = 1 := by simp only [fldWidth, NVM_TESTRES_STOPPED]
@[simp] theorem key_NVM_TESTRES_FAILPAGE : fldKey NVM_TESTRES_FAILPAGE = 117440800 := by simp only [fldKey, NVM_TESTRES_FAILPAGE]
@[simp] theorem width_NVM_TESTRES_FAILPAGE : fldWidth NVM_TESTRES_FAILPAGE = 11 := by simp only [fldWidth, NVM_TESTRES_FAILPAGE]
@[simp] theorem key_NVM_PBUF_DATA (n : Nat) : fldKey (NVM_PBUF_DATA n) = 117448704 + 32 * n := by simp only [fldKey, NVM_PBUF_DATA]; omega
@[simp] theorem width_NVM_PBUF_DATA (n : Nat) : fldWidth (NVM_PBUF_DATA n) = 32 := by simp only [fldWidth, NVM_PBUF_DATA]
@[simp] theorem key_NVM_PREAD_DATA (n : Nat) : fldKey (NVM_PREAD_DATA n) = 117456896 + 32 * n := by simp only [fldKey, NVM_PREAD_DATA]; omega
@[simp] theorem width_NVM_PREAD_DATA (n : Nat) : fldWidth (NVM_PREAD_DATA n) = 32 := by simp only [fldWidth, NVM_PREAD_DATA]
@[simp] theorem key_NVM_CRAM_DATA (n : Nat) : fldKey (NVM_CRAM_DATA n) = 117473280 + 32 * n := by simp only [fldKey, NVM_CRAM_DATA]; omega
@[simp] theorem width_NVM_CRAM_DATA (n : Nat) : fldWidth (NVM_CRAM_DATA n) = 32 := by simp only [fldWidth, NVM_CRAM_DATA]
@[simp] theorem key_SEC_STAT_STATE : fldKey SEC_STAT_STATE = 125829150 := by simp only [fldKey, SEC_STAT_STATE]
@[simp] theorem width_SEC_STAT_STATE : fldWidth SEC_STAT_STATE = 2 := by simp only [fldWidth, SEC_STAT_STATE]
@[simp] theorem key_SEC_STAT_APPROVED : fldKey SEC_STAT_APPROVED = 125829149 := by simp only [fldKey, SEC_STAT_APPROVED]
@[simp] theorem width_SEC_STAT_APPROVED : fldWidth SEC_STAT_APPROVED = 1 := by simp only [fldWidth, SEC_STAT_APPROVED]
@[simp] theorem key_SEC_STAT_IMG_AUTH : fldKey SEC_STAT_IMG_AUTH = 125829148 := by simp only [fldKey, SEC_STAT_IMG_AUTH]
@[simp] theorem width_SEC_STAT_IMG_AUTH : fldWidth SEC_STAT_IMG_AUTH = 1 := by simp only [fldWidth, SEC_STAT_IMG_AUTH]
@[simp] theorem key_SEC_STAT_FUSE_OK : fldKey SEC_STAT_FUSE_OK = 125829147 := by simp only [fldKey, SEC_STAT_FUSE_OK]
@[simp] theorem width_SEC_STAT_FUSE_OK : fldWidth SEC_STAT_FUSE_OK = 1 := by simp only [fldWidth, SEC_STAT_FUSE_OK]
@[simp] theorem key_SEC_STAT_KEK_VALID : fldKey SEC_STAT_KEK_VALID = 125829146 := by simp only [fldKey, SEC_STAT_KEK_VALID]
@[simp] theorem width_SEC_STAT_KEK_VALID : fldWidth SEC_STAT_KEK_VALID = 1 := by simp only [fldWidth, SEC_STAT_KEK_VALID]
@[simp] theorem key_SEC_STAT_SIGNED_BOOT : fldKey SEC_STAT_SIGNED_BOOT = 125829145 := by simp only [fldKey, SEC_STAT_SIGNED_BOOT]
@[simp] theorem width_SEC_STAT_SIGNED_BOOT : fldWidth SEC_STAT_SIGNED_BOOT = 1 := by simp only [fldWidth, SEC_STAT_SIGNED_BOOT]
@[simp] theorem key_SEC_STAT_DUK_KILL : fldKey SEC_STAT_DUK_KILL = 125829144 := by simp only [fldKey, SEC_STAT_DUK_KILL]
@[simp] theorem width_SEC_STAT_DUK_KILL : fldWidth SEC_STAT_DUK_KILL = 1 := by simp only [fldWidth, SEC_STAT_DUK_KILL]
@[simp] theorem key_SEC_STAT_USABLE : fldKey SEC_STAT_USABLE = 125829140 := by simp only [fldKey, SEC_STAT_USABLE]
@[simp] theorem width_SEC_STAT_USABLE : fldWidth SEC_STAT_USABLE = 4 := by simp only [fldWidth, SEC_STAT_USABLE]
@[simp] theorem key_SEC_STAT_ERRTEST : fldKey SEC_STAT_ERRTEST = 125829136 := by simp only [fldKey, SEC_STAT_ERRTEST]
@[simp] theorem width_SEC_STAT_ERRTEST : fldWidth SEC_STAT_ERRTEST = 4 := by simp only [fldWidth, SEC_STAT_ERRTEST]
@[simp] theorem key_SEC_STAT_ARB : fldKey SEC_STAT_ARB = 125829120 := by simp only [fldKey, SEC_STAT_ARB]
@[simp] theorem width_SEC_STAT_ARB : fldWidth SEC_STAT_ARB = 7 := by simp only [fldWidth, SEC_STAT_ARB]
@[simp] theorem key_SEC_CTL_KEY : fldKey SEC_CTL_KEY = 125829176 := by simp only [fldKey, SEC_CTL_KEY]
@[simp] theorem width_SEC_CTL_KEY : fldWidth SEC_CTL_KEY = 8 := by simp only [fldWidth, SEC_CTL_KEY]
@[simp] theorem key_SEC_CTL_RESEED : fldKey SEC_CTL_RESEED = 125829154 := by simp only [fldKey, SEC_CTL_RESEED]
@[simp] theorem width_SEC_CTL_RESEED : fldWidth SEC_CTL_RESEED = 1 := by simp only [fldWidth, SEC_CTL_RESEED]
@[simp] theorem key_SEC_CTL_SELFTEST : fldKey SEC_CTL_SELFTEST = 125829153 := by simp only [fldKey, SEC_CTL_SELFTEST]
@[simp] theorem width_SEC_CTL_SELFTEST : fldWidth SEC_CTL_SELFTEST = 1 := by simp only [fldWidth, SEC_CTL_SELFTEST]
@[simp] theorem key_SEC_CTL_ZEROISE : fldKey SEC_CTL_ZEROISE = 125829152 := by simp only [fldKey, SEC_CTL_ZEROISE]
@[simp] theorem width_SEC_CTL_ZEROISE : fldWidth SEC_CTL_ZEROISE = 1 := by simp only [fldWidth, SEC_CTL_ZEROISE]
@[simp] theorem key_SEC_LOCK_FUSE_LOCK : fldKey SEC_LOCK_FUSE_LOCK = 125829184 := by simp only [fldKey, SEC_LOCK_FUSE_LOCK]
@[simp] theorem width_SEC_LOCK_FUSE_LOCK : fldWidth SEC_LOCK_FUSE_LOCK = 1 := by simp only [fldWidth, SEC_LOCK_FUSE_LOCK]
@[simp] theorem key_SEC_SLOT_LOCK_LOCK : fldKey SEC_SLOT_LOCK_LOCK = 125829216 := by simp only [fldKey, SEC_SLOT_LOCK_LOCK]
@[simp] theorem width_SEC_SLOT_LOCK_LOCK : fldWidth SEC_SLOT_LOCK_LOCK = 32 := by simp only [fldWidth, SEC_SLOT_LOCK_LOCK]
@[simp] theorem key_SEC_SVC_KEY : fldKey SEC_SVC_KEY = 125829272 := by simp only [fldKey, SEC_SVC_KEY]
@[simp] theorem width_SEC_SVC_KEY : fldWidth SEC_SVC_KEY = 8 := by simp only [fldWidth, SEC_SVC_KEY]
@[simp] theorem key_SEC_SVC_OP : fldKey SEC_SVC_OP = 125829268 := by simp only [fldKey, SEC_SVC_OP]
@[simp] theorem width_SEC_SVC_OP : fldWidth SEC_SVC_OP = 4 := by simp only [fldWidth, SEC_SVC_OP]
@[simp] theorem key_SEC_SVC_SLOT : fldKey SEC_SVC_SLOT = 125829263 := by simp only [fldKey, SEC_SVC_SLOT]
@[simp] theorem width_SEC_SVC_SLOT : fldWidth SEC_SVC_SLOT = 5 := by simp only [fldWidth, SEC_SVC_SLOT]
@[simp] theorem key_SEC_SVC_USAGE : fldKey SEC_SVC_USAGE = 125829260 := by simp only [fldKey, SEC_SVC_USAGE]
@[simp] theorem width_SEC_SVC_USAGE : fldWidth SEC_SVC_USAGE = 3 := by simp only [fldWidth, SEC_SVC_USAGE]
@[simp] theorem key_SEC_SVC_LEN : fldKey SEC_SVC_LEN = 125829248 := by simp only [fldKey, SEC_SVC_LEN]
@[simp] theorem width_SEC_SVC_LEN : fldWidth SEC_SVC_LEN = 8 := by simp only [fldWidth, SEC_SVC_LEN]
@[simp] theorem key_SEC_SVC_STAT_BUSY : fldKey SEC_SVC_STAT_BUSY = 125829311 := by simp only [fldKey, SEC_SVC_STAT_BUSY]
@[simp] theorem width_SEC_SVC_STAT_BUSY : fldWidth SEC_SVC_STAT_BUSY = 1 := by simp only [fldWidth, SEC_SVC_STAT_BUSY]
@[simp] theorem key_SEC_SVC_STAT_RESULT : fldKey SEC_SVC_STAT_RESULT = 125829280 := by simp only [fldKey, SEC_SVC_STAT_RESULT]
@[simp] theorem width_SEC_SVC_STAT_RESULT : fldWidth SEC_SVC_STAT_RESULT = 4 := by simp only [fldWidth, SEC_SVC_STAT_RESULT]
@[simp] theorem key_SEC_FUSE_CTL_KEY : fldKey SEC_FUSE_CTL_KEY = 125829336 := by simp only [fldKey, SEC_FUSE_CTL_KEY]
@[simp] theorem width_SEC_FUSE_CTL_KEY : fldWidth SEC_FUSE_CTL_KEY = 8 := by simp only [fldWidth, SEC_FUSE_CTL_KEY]
@[simp] theorem key_SEC_FUSE_CTL_FIELD : fldKey SEC_FUSE_CTL_FIELD = 125829312 := by simp only [fldKey, SEC_FUSE_CTL_FIELD]
@[simp] theorem width_SEC_FUSE_CTL_FIELD : fldWidth SEC_FUSE_CTL_FIELD = 4 := by simp only [fldWidth, SEC_FUSE_CTL_FIELD]
@[simp] theorem key_SEC_FUSE_STAT_BUSY : fldKey SEC_FUSE_STAT_BUSY = 125829375 := by simp only [fldKey, SEC_FUSE_STAT_BUSY]
@[simp] theorem width_SEC_FUSE_STAT_BUSY : fldWidth SEC_FUSE_STAT_BUSY = 1 := by simp only [fldWidth, SEC_FUSE_STAT_BUSY]
@[simp] theorem key_SEC_FUSE_STAT_FAIL : fldKey SEC_FUSE_STAT_FAIL = 125829374 := by simp only [fldKey, SEC_FUSE_STAT_FAIL]
@[simp] theorem width_SEC_FUSE_STAT_FAIL : fldWidth SEC_FUSE_STAT_FAIL = 1 := by simp only [fldWidth, SEC_FUSE_STAT_FAIL]
@[simp] theorem key_SEC_FUSE_STAT_TORN : fldKey SEC_FUSE_STAT_TORN = 125829373 := by simp only [fldKey, SEC_FUSE_STAT_TORN]
@[simp] theorem width_SEC_FUSE_STAT_TORN : fldWidth SEC_FUSE_STAT_TORN = 1 := by simp only [fldWidth, SEC_FUSE_STAT_TORN]
@[simp] theorem key_SEC_FUSE_STAT_LEFT : fldKey SEC_FUSE_STAT_LEFT = 125829352 := by simp only [fldKey, SEC_FUSE_STAT_LEFT]
@[simp] theorem width_SEC_FUSE_STAT_LEFT : fldWidth SEC_FUSE_STAT_LEFT = 16 := by simp only [fldWidth, SEC_FUSE_STAT_LEFT]
@[simp] theorem key_SEC_FUSE_STAT_REFUSE : fldKey SEC_FUSE_STAT_REFUSE = 125829344 := by simp only [fldKey, SEC_FUSE_STAT_REFUSE]
@[simp] theorem width_SEC_FUSE_STAT_REFUSE : fldWidth SEC_FUSE_STAT_REFUSE = 4 := by simp only [fldWidth, SEC_FUSE_STAT_REFUSE]
@[simp] theorem key_SEC_FUSE_RIDX_WORD : fldKey SEC_FUSE_RIDX_WORD = 125829376 := by simp only [fldKey, SEC_FUSE_RIDX_WORD]
@[simp] theorem width_SEC_FUSE_RIDX_WORD : fldWidth SEC_FUSE_RIDX_WORD = 6 := by simp only [fldWidth, SEC_FUSE_RIDX_WORD]
@[simp] theorem key_SEC_FUSE_RDATA_DATA : fldKey SEC_FUSE_RDATA_DATA = 125829408 := by simp only [fldKey, SEC_FUSE_RDATA_DATA]
@[simp] theorem width_SEC_FUSE_RDATA_DATA : fldWidth SEC_FUSE_RDATA_DATA = 32 := by simp only [fldWidth, SEC_FUSE_RDATA_DATA]
@[simp] theorem key_SEC_RNG_DATA : fldKey SEC_RNG_DATA = 125829440 := by simp only [fldKey, SEC_RNG_DATA]
@[simp] theorem width_SEC_RNG_DATA : fldWidth SEC_RNG_DATA = 32 := by simp only [fldWidth, SEC_RNG_DATA]
@[simp] theorem key_SEC_EVT_ERROR : fldKey SEC_EVT_ERROR = 125829475 := by simp only [fldKey, SEC_EVT_ERROR]
@[simp] theorem width_SEC_EVT_ERROR : fldWidth SEC_EVT_ERROR = 1 := by simp only [fldWidth, SEC_EVT_ERROR]
@[simp] theorem key_SEC_EVT_FUSE_DONE : fldKey SEC_EVT_FUSE_DONE = 125829474 := by simp only [fldKey, SEC_EVT_FUSE_DONE]
@[simp] theorem width_SEC_EVT_FUSE_DONE : fldWidth SEC_EVT_FUSE_DONE = 1 := by simp only [fldWidth, SEC_EVT_FUSE_DONE]
@[simp] theorem key_SEC_EVT_SVC_DONE : fldKey SEC_EVT_SVC_DONE = 125829473 := by simp only [fldKey, SEC_EVT_SVC_DONE]
@[simp] theorem width_SEC_EVT_SVC_DONE : fldWidth SEC_EVT_SVC_DONE = 1 := by simp only [fldWidth, SEC_EVT_SVC_DONE]
@[simp] theorem key_SEC_EVT_ZEROISED : fldKey SEC_EVT_ZEROISED = 125829472 := by simp only [fldKey, SEC_EVT_ZEROISED]
@[simp] theorem width_SEC_EVT_ZEROISED : fldWidth SEC_EVT_ZEROISED = 1 := by simp only [fldWidth, SEC_EVT_ZEROISED]
@[simp] theorem key_SEC_EVT_EN_EN : fldKey SEC_EVT_EN_EN = 125829504 := by simp only [fldKey, SEC_EVT_EN_EN]
@[simp] theorem width_SEC_EVT_EN_EN : fldWidth SEC_EVT_EN_EN = 32 := by simp only [fldWidth, SEC_EVT_EN_EN]
@[simp] theorem key_SEC_SLOT_USE_USE (n : Nat) : fldKey (SEC_SLOT_USE_USE n) = 125829632 + 32 * n := by simp only [fldKey, SEC_SLOT_USE_USE]; omega
@[simp] theorem width_SEC_SLOT_USE_USE (n : Nat) : fldWidth (SEC_SLOT_USE_USE n) = 32 := by simp only [fldWidth, SEC_SLOT_USE_USE]
@[simp] theorem key_SEC_OUT_DATA (n : Nat) : fldKey (SEC_OUT_DATA n) = 125830144 + 32 * n := by simp only [fldKey, SEC_OUT_DATA]; omega
@[simp] theorem width_SEC_OUT_DATA (n : Nat) : fldWidth (SEC_OUT_DATA n) = 32 := by simp only [fldWidth, SEC_OUT_DATA]
@[simp] theorem key_SEC_BUF_DATA (n : Nat) : fldKey (SEC_BUF_DATA n) = 125831168 + 32 * n := by simp only [fldKey, SEC_BUF_DATA]; omega
@[simp] theorem width_SEC_BUF_DATA (n : Nat) : fldWidth (SEC_BUF_DATA n) = 32 := by simp only [fldWidth, SEC_BUF_DATA]

end Sys2Proof.Reg
end

