-- ==== Sys2Proof/WellFormed.lean ====
section
/-! DEFINITION. Which commands can arrive at all: every operand within the range that its register, field or wire gives it. -/

namespace Sys2Proof

/-- a 32-bit word (R5) -/
def word (v : Nat) : Bool := decide (v < 2 ^ 32)

/-- an access of 1, 2 or 4 bytes (R502) -/
def accessSize (n : Nat) : Bool := n == 1 || n == 2 || n == 4

/-- the operands of a command within their ranges -/
def Instr.wf (i : Instr) : Bool :=
  match i with
  | .registerWrite _ addr n data => decide (addr < 2 ^ 24) && word data && accessSize n
  | .readClear _ addr n => decide (addr < 2 ^ 24) && accessSize n
  | .highWordRead _ addr => decide (addr < 2 ^ 24)
  | .sstatRead _ g => decide (g < 3)
  | .qspiWrite _ addr _ => decide (addr < 2 ^ 24)
  | .qspiWriteFixed _ addr _ => decide (addr < 2 ^ 24)
  | .qspiWrite8 _ addr _ => decide (addr < 2 ^ 24)
  | .qspiWrite16 _ addr _ => decide (addr < 2 ^ 24)
  | .qspiRead _ addr _ => decide (addr < 2 ^ 24)
  | .qspiReadFixed _ addr _ => decide (addr < 2 ^ 24)
  | .qspiRead8 _ addr => decide (addr < 2 ^ 24)
  | .qspiRead16 _ addr => decide (addr < 2 ^ 24)
  | .qspiStatus _ => true
  | .postedWriteExecute _ => true
  | .parallelRead _ addr be _ => decide (addr < 2 ^ 24) && decide (be < 4)
  | .parallelWrite _ addr be _ data => decide (addr < 2 ^ 24) && decide (be < 4) && decide (data < 65536)
  | .halfWordPairTimeout => true
  | .rwsBatchLand g => decide (g < 2)
  | .genModeWrite _ al data => decide (al < 4) && word data
  | .modeSequenceDone _ => true
  | .genIsolateWrite _ al data => decide (al < 4) && word data
  | .isolationDone _ b => decide (4 ≤ b) && decide (b < 15)
  | .releaseDone _ b => decide (4 ≤ b) && decide (b < 15)
  | .seLockWrite _ => true
  | .sysclkPresenceWindow _ _ => true
  | .coreAlignDone _ => true
  | .rclkMeasurementEnd _ => true
  | .ocxoRdyRise _ => true
  | .ocxoRdyFall _ => true
  | .warmupEnd => true
  | .warmupTimeout => true
  | .warmMaxWrite _ al data => decide (al < 4) && word data
  | .railFall _ i mv => decide (i < 11) && decide (mv < 4096)
  | .railRise _ x => decide (x.rail < 11) && decide (x.mv < 4096)
  | .porDelayEnd => true
  | .resetNLow _ => true
  | .resetNHigh _ => true
  | .fltChipResetEnd => true
  | .resetHoldDone => true
  | .resetRelease s1 s2 s3 _ _ banks => decide (s1 < 32) && decide (s2 < 32) && decide (s3 < 32) && banks.length == 7 && banks.all (fun mv => decide (mv < 4096))
  | .supplyAndVbatLoss _ => true
  | .imgBootStart _ => true
  | .flashReadDone _ _ => true
  | .pass1Done _ => true
  | .pass2Done _ => true
  | .dlStart _ => true
  | .dldataWrite _ data => word data
  | .dlDone _ => true
  | .dlAbort _ => true
  | .dlVerifyDone _ => true
  | .imgCommit _ => true
  | .prStart _ => true
  | .prAbort _ => true
  | .prVerifyDone _ => true
  | .prCommitCycle _ => true
  | .rollfwd _ => true
  | .imgLockWrite _ => true
  | .inputConfigWrite _ n r al data => decide (al < 4) && word data && decide (n < 16) && decide (r < 8)
  | .referenceEdge _ e => decide (e.n < 16)
  | .missingEdge n => decide (n < 16)
  | .qualificationComplete i => decide (i < 32)
  | .slotCfgWrite _ i al data => decide (al < 4) && word data && decide (i < 32)
  | .nmeaSentence _ k _ => decide (k < 2)
  | .labelTimeout k => decide (k < 2)
  | .edgeCapture _ b starts stops => decide (b < 12) && starts.all (fun e => decide (e.tap < 512) && decide (e.age < 8))
    && stops.all (fun e => decide (e.tap < 512) && decide (e.age < 8))
  | .pairTimeout b => decide (b < 12)
  | .earlyStopExpiry b => decide (b < 12)
  | .gateNosigTimeout b => decide (b < 12)
  | .loopCheck _ n _ => decide (n < 12)
  | .tableReplace _ n _ => decide (n < 12)
  | .tableAgeExpiry n => decide (n < 12)
  | .skewRun _ => true
  | .skewRunDone _ _ => true
  | .skewRunTimeout => true
  | .rebuildCmd _ => true
  | .pmuPopSq _ b => decide (b < 12)
  | .pmuPopRq _ b => decide (b < 12)
  | .pmuFlushSq _ b => decide (b < 12)
  | .pmuFlushRq _ b => decide (b < 12)
  | .unitRestart _ b => decide (b < 12)
  | .unitConfigWrite _ b r al data => decide (al < 4) && word data && decide (b < 12) && decide (r < 6)
  | .testPair _ al data _ _ => decide (al < 4) && word data
  | .holdoffExpiry d => decide (d < 8)
  | .prepareTimeout d => decide (d < 8)
  | .settleEnd d => decide (d < 8)
  | .dwellEnd d => decide (d < 8)
  | .dwellClr _ d => decide (d < 8)
  | .rerunCmd _ d => decide (d < 8)
  | .selAbort _ d => decide (d < 8)
  | .selectionConfigWrite _ d r al data => decide (al < 4) && word data && decide (d < 8) && decide (r < 6)
  | .freqEstimateUpdate _ => true
  | .phaseSample _ i _ => decide (i < 32)
  | .forcedSampleTimeout d => decide (d < 8)
  | .phaseStepWrite _ d al data => decide (al < 4) && word data && decide (d < 8)
  | .slewCancel _ d => decide (d < 8)
  | .modelClr _ d => decide (d < 8)
  | .frwHiWrite _ d al data => decide (al < 4) && word data && decide (d < 8)
  | .holdoverSecond d => decide (d < 8)
  | .holdoverDelayExpiry d => decide (d < 8)
  | .minuteSample => true
  | .bucketClose _ => true
  | .tempReading _ _ => true
  | .bandSearchDone _ k _ _ => decide (k < 5)
  | .synthLockDeclared _ k _ => decide (k < 5)
  | .synthLockLost _ k _ => decide (k < 5)
  | .synCommit _ al data => decide (al < 4) && word data
  | .commitBoundary => true
  | .glideDone k => decide (k < 4)
  | .muteDone _ k => decide (k < 4)
  | .realignCmd _ k => decide (k < 4)
  | .realignDone _ k => decide (k < 4)
  | .relockCmd _ k => decide (k < 4)
  | .outputStart _ n => decide (n < 16)
  | .outputStopDone _ n => decide (n < 16)
  | .outputMoveDone _ n => decide (n < 16)
  | .synTestGo _ al data => decide (al < 4) && word data
  | .synTestDone _ _ _ _ => true
  | .snapCmd _ => true
  | .setCmd _ => true
  | .setSec _ => true
  | .setSecLoad => true
  | .leapCancel _ => true
  | .rtcSync _ => true
  | .adjHiWrite _ al data => decide (al < 4) && word data
  | .secondsCheck _ => true
  | .pps => true
  | .leapLatch => true
  | .leapExecute => true
  | .utcWrite _ al data => decide (al < 4) && word data
  | .civilOffsetChange _ => true
  | .todTxStart k => decide (k < 2)
  | .irigFrame _ _ els => els.length == 100
  | .irigFrameTimeout => true
  | .rtcSecond => true
  | .rtcTrimUpdate _ => true
  | .rtcLoad => true
  | .rtcSecHiWrite _ al data => decide (al < 4) && word data
  | .rtcOscFail _ => true
  | .vbatLow x => decide (x.mv < 4096)
  | .mainsUpdate xs => xs.length == 6 && xs.all (fun x => decide (-8388608 ≤ x) && decide (x ≤ 8388607))
  | .dropoutExpiry n => decide (n < 6)
  | .clipClear n => decide (n < 6)
  | .zcPulse n => decide (n < 6)
  | .sequenceCheck _ g => decide (g < 2)
  | .mnsSnap _ => true
  | .popZq _ => true
  | .flushZq _ => true
  | .gtAlign _ => true
  | .gtCfgWrite _ al data => decide (al < 4) && word data
  | .gridFWrite _ al data => decide (al < 4) && word data
  | .mnsTestGo _ al data => decide (al < 4) && word data
  | .mnsTestDone mean => decide (-8388608 ≤ mean) && decide (mean ≤ 8388607)
  | .astSiteWrite _ r al data => decide (al < 4) && word data && decide (r < 8)
  | .recalc _ => true
  | .astComputeDone _ => true
  | .astMidnight => true
  | .astTestGo _ al data => decide (al < 4) && word data
  | .astTestDone _ _ => true
  | .entWrite _ => true
  | .entRead _ => true
  | .comparatorLoad n => decide (n < 48)
  | .dispatchCmd n => decide (n < 48)
  | .pulseEnd n => decide (n < 48)
  | .feedbackEdge _ n _ => decide (n < 48)
  | .feedbackTimeout n => decide (n < 48)
  | .scanAdvance => true
  | .recoveryStart _ => true
  | .recoveryDone _ => true
  | .remoteSend => true
  | .schCmd _ al data => decide (al < 4) && word data
  | .issueCmd _ k g act => decide (act < 8) && decide (k < 8) && decide (g < 64)
  | .rcAbort _ k => decide (k < 8)
  | .plainCmd _ k g act _ => decide (act < 8) && decide (k < 8) && decide (g < 64)
  | .rcArmTime => true
  | .rcDeadline k => decide (k < 8)
  | .rcCommitRetry k => decide (k < 8)
  | .rcFire k => decide (k < 8)
  | .rcPendingTimeout k => decide (k < 8)
  | .oqPop _ => true
  | .oqFlush _ => true
  | .schTestGo _ al data => decide (al < 4) && word data
  | .schTestDone _ => true
  | .frameReceive _ p _ => decide (p < 6)
  | .syncReceive _ p _ _ => decide (p < 6)
  | .followUpReceive _ p _ _ => decide (p < 6)
  | .delayReqReceive _ p _ => decide (p < 6)
  | .delayRespReceive _ p _ _ _ _ => decide (p < 6)
  | .announceReceive _ p _ _ => decide (p < 6)
  | .pdelayReqReceive _ p _ => decide (p < 6)
  | .pdelayRespReceive _ p _ _ _ _ => decide (p < 6)
  | .pdelayRespFollowUpReceive _ p _ _ _ _ => decide (p < 6)
  | .syncInterval p => decide (p < 6)
  | .announceInterval p => decide (p < 6)
  | .delayReqInterval p => decide (p < 6)
  | .announceReceiptTimeout p => decide (p < 6)
  | .qualificationTimeout p => decide (p < 6)
  | .followUpHoldExpiry => true
  | .scheduledLaunch p => decide (p < 6)
  | .fdbAge => true
  | .linkUp _ p speed _ => decide (p < 6) && decide (speed < 4)
  | .linkDown _ p => decide (p < 6)
  | .portInitDone _ p => decide (p < 6)
  | .cdrLockChange _ p _ => decide (p < 6)
  | .esmcPduReceive _ p _ ssm _ => decide (p < 6) && decide (ssm < 16)
  | .esmcTimeout p => decide (p < 6)
  | .esmcInfoTx p => decide (p < 6)
  | .anRestart _ p => decide (p < 6)
  | .portTsqFlush _ p => decide (p < 6)
  | .portTsqPop _ p => decide (p < 6)
  | .fdbLookup _ => true
  | .fdbAdd _ ports => decide (ports < 64)
  | .fdbDelete _ => true
  | .fdbFlush _ => true
  | .portConfigWrite _ p r al data => decide (al < 4) && word data && decide (r < 25) && decide (p < 6)
  | .clkCfgWrite _ al data => decide (al < 4) && word data
  | .ptpTestGo _ al data => decide (al < 4) && word data
  | .ptpTestDone _ _ => true
  | .pollCmd _ k _ => decide (k < 4)
  | .presCmd _ k _ => decide (k < 4)
  | .helloCmd _ k _ => decide (k < 4)
  | .identCmd _ k _ => decide (k < 4)
  | .negCmd _ k _ => decide (k < 4)
  | .negAck _ k _ => decide (k < 4)
  | .negCfm _ k _ => decide (k < 4)
  | .negDone _ k _ => decide (k < 4)
  | .readCmd _ k _ => decide (k < 4)
  | .dataCmd _ k _ => decide (k < 4)
  | .writeCmd _ k _ => decide (k < 4)
  | .ackCmd _ k _ => decide (k < 4)
  | .evtGet _ k _ => decide (k < 4)
  | .evtCmd _ k _ => decide (k < 4)
  | .switchCmd _ k _ => decide (k < 4)
  | .armCmd _ k _ => decide (k < 4)
  | .armRsp _ k _ => decide (k < 4)
  | .commitCmd _ k _ => decide (k < 4)
  | .cancelCmd _ k _ => decide (k < 4)
  | .armExpiry k => decide (k < 4)
  | .ttReq _ k _ => decide (k < 4)
  | .ttRespLaunch k => decide (k < 4)
  | .ttResp _ k _ => decide (k < 4)
  | .ttFup _ k _ => decide (k < 4)
  | .nakCmd _ k _ => decide (k < 4)
  | .responseTimeout k => decide (k < 4)
  | .roundStart k => decide (k < 4)
  | .busFree _ k => decide (k < 4)
  | .prExpiry k a => decide (k < 4) && decide (1 ≤ a) && decide (a < 32)
  | .sessionTimeout k => decide (k < 4)
  | .ttExchangeDue k a => decide (k < 4) && decide (1 ≤ a) && decide (a < 32)
  | .cascadeTimeout k => decide (k < 4)
  | .calStart _ => true
  | .calExchangeDue k a => decide (k < 4) && decide (1 ≤ a) && decide (a < 32)
  | .calTimeout k a => decide (k < 4) && decide (1 ≤ a) && decide (a < 32)
  | .renegCmd _ => true
  | .forgetCmd _ => true
  | .linkConfigWrite _ k r al data => decide (al < 4) && word data && decide (r < 16) && decide (k < 4)
  | .lboDataWrite _ data => word data
  | .postCmd _ => true
  | .discardCmd _ => true
  | .tsqFlush _ k => decide (k < 4)
  | .tsqPop _ k => decide (k < 4)
  | .dlqResend _ => true
  | .dlqPop _ => true
  | .lbiPop _ => true
  | .crlTestGo _ al data => decide (al < 4) && word data
  | .crlTestDone _ _ _ => true
  | .powerFailWarning x => decide (x.mv < 4096)
  | .powerFailClear x => decide (x.mv < 4096)
  | .periodicSave => true
  | .saveCmd _ => true
  | .saveDone _ _ => true
  | .pageProgramDone _ _ => true
  | .writeBackOffer _ => true
  | .pbProg _ => true
  | .pbClr _ => true
  | .counterRamRestore _ => true
  | .nvmTestGo _ al data => decide (al < 4) && word data
  | .nvmTestDone _ _ => true
  | .fuseProgram _ key field => decide (key < 256) && decide (field < 16)
  | .fuseProgramDone _ => true
  | .fuseLockWrite _ => true
  | .slotLockWrite _ al data => decide (al < 4) && word data
  | .loadCmd _ key slot usage => decide (key < 256) && decide (slot < 32) && decide (usage < 8)
  | .clearCmd _ key slot => decide (key < 256) && decide (slot < 32)
  | .wrapCmd _ key => decide (key < 256)
  | .sha256 _ key len => decide (key < 256) && decide (len < 256)
  | .hmacCmd _ key slot len => decide (key < 256) && decide (slot < 32) && decide (len < 256)
  | .verifyCmd _ key => decide (key < 256)
  | .serviceDone _ => true
  | .rngRead _ => true
  | .drbgReseed => true
  | .reseed _ key => decide (key < 256)
  | .selftest _ key => decide (key < 256)
  | .selftestDone _ code => decide (code ≤ 13)
  | .zeroise _ key => decide (key < 256)
  | .entropyHealthFail _ _ => true
  | .faultForce _ k al data => decide (al < 4) && word data && decide (k < 3)
  | .blockResetEnd b => decide (b < 16)
  | .settleWindowEnd b => decide (b < 16)
  | .quietExpiry => true
  | .chktest _ al data => decide (al < 4) && word data
  | .checkBitTestEnd _ => true
  | .stickyClearWrite _ k al data => decide (al < 4) && word data && decide (k < 6)
  | .rinstWrite _ al data => decide (al < 4) && word data
  | .parityError _ src j _ _ => decide (src < 93) && decide (j < 32)
  | .frameEgress _ p => decide (p < 6)
  | .alwaysOnRefresh => true
  | .backupOscillatorStart _ => true
  | .qspiFrameError _ => true
  | .appliedWordRampDone k => decide (k < 4)

end Sys2Proof
end

