-- ==== Sys2Proof/Tests/Slice0.lean ====
section
/-! SUPPORT. Tests of the model: the worked examples and tables of the spec by one or two commands each, the operands that Instr.wf
refuses, and for every statement states and operands that meet the hypotheses of each of its clauses together. -/

set_option Elab.async false
set_option maxRecDepth 10000
set_option synthInstance.maxSize 100000
set_option synthInstance.maxHeartbeats 2000000

namespace Sys2Proof.Tests
open Sys2Proof.Machine Sys2Proof.Reg Sys2Proof.Safety

/-- a state with fields set -/
def withRegs (l : List (Fld × Nat)) (s : State) : State := l.foldl (fun s x => put x.1 x.2 s) s

/-- the state as a core cycle begins -/
def cc (s : State) : State := { s with cyc := { regs := s.regs, cram := s.cram } }

/-- a booted device: an image applied, STATE 4, the core locked to SYSCLK -/
def base : State :=
  cc (withRegs [(IMG_STATUS_STATE, 4), (GEN_CLKSTAT_CORE_LOCK, 1), (GEN_CLKSTAT_SYSCLK_PRES, 1)]
    { State.reset with img := { State.reset.img with applied := true } })

/-- the state a command leads to -/
def after (c : Instr) (s : State) : State :=
  match exec c s with
  | .next t => t
  | _ => s

def afterAll (l : List Instr) (s : State) : State := l.foldl (fun s c => after c s) s

def bytesOfText (t : String) : List Byte := t.toList.map (fun c => BitVec.ofNat 8 c.toNat)

/-! ### The spec's worked examples -/

/-- the stamp of the worked example after R15: 1 778 384 896.250 000 000 5 s, source 30, sequence 0x0123 -/
theorem test_stamp_words :
    (List.range 4).map (fun j => stampNat { t := (1778384896 * 1000000000 + 250000000) * 65536 + 0x8000, src := 30, seq := 0x0123 } / 2 ^ (32 * j) % 2 ^ 32)
      = [0x1E000123, 0xCA020000, 0x00003B9A, 0x00006A00] := by decide +kernel

/-- R504, R500: the set alias of REF.QEVT reads slot 2's bit and leaves it; one byte at the plain address clears bits [7:0]; R497: offset
0x704 is the same register -/
def changed : State := cc (withRegs [(REF_QEVT_CHANGE, 4 + 2 ^ 20)] base)
theorem test_alias_read_keeps : (after (.readClear 0 0x440304 4) changed).host.rdata = [4 + 2 ^ 20] ∧ rd (after (.readClear 0 0x440304 4) changed) REF_QEVT_CHANGE = 4 + 2 ^ 20 := by
  decide +kernel
theorem test_byte_read_clears : (after (.readClear 0 0x400304 1) changed).host.rdata = [4] ∧ rd (after (.readClear 0 0x400304 1) changed) REF_QEVT_CHANGE = 2 ^ 20 := by
  decide +kernel
theorem test_ignored_offset_bits : rd (after (.readClear 0 0x400704 4) changed) REF_QEVT_CHANGE = 0 := by decide +kernel

/-- the worked example of chapter 19: the applied word −99 774 942 reads 0xFFFF_FFFF in FREQ_HI and 0xFA0D_8E22 in FREQ_LO -/
def steered : State := cc (setWord 0 (-99774942) base)
theorem test_frequency_words : (after (.highWordRead 0 0x600448) steered).host.rdata = [0xFFFFFFFF]
    ∧ (after (.readClear 0 0x600444 4) (after (.highWordRead 0 0x600448) steered)).host.rdata = [0xFA0D8E22] := by decide +kernel

/-- the cabinet in maintenance (chapter 2): MODE_MT set through the set alias gives EFFECTIVE 0xDF; ISO_REQ of MNS reads 0x0200_0200 once
isolated -/
def cabinet : State := withRegs [(GEN_MODESTAT_EFFECTIVE, 0x9F), (GEN_MODE_MODE_SE, 1), (GEN_MODE_MODE_AS, 1), (GEN_MODE_MODE_MS, 1), (GEN_MODE_MODE_FR, 1),
  (GEN_MODE_MODE_TC, 1), (GEN_MODE_MODE_TS, 1)] base
def inTest : State := afterAll [.genModeWrite 0 1 0x40, .modeSequenceDone 0] cabinet
theorem test_mt_entry : rd inTest GEN_MODESTAT_EFFECTIVE = 0xDF ∧ rd inTest GEN_MODESTAT_BUSY = 0 := by decide +kernel
theorem test_isolation : (after (.readClear 0 0x10 4) (afterAll [.genIsolateWrite 0 0 0x200, .isolationDone 0 9] inTest)).host.rdata = [0x02000200] := by
  decide +kernel

/-- the leap second at the promenade (chapter 9): TAI 1 830 297 637 is 23:59:60, local 00:59:60, and the ZDA sentence of that second -/
def leaping : State :=
  { withRegs [(TKP_STAT_DAT, 37), (TKP_CIVIL_ZONE, 4), (TKP_CIVIL_RULE, 1), (TKP_CIVIL_DST_OFF, 4), (TKP_TODTXk_CFG_TALKER 0, 0x474E), (TKP_STAT_TIME_SET, 1)] base
    with tkp := { base.tkp with run := true, latched := some (1830297637 - 37) } }
theorem test_leap_views : utcView leaping 1830297637 = { year := 2027, month := 12, day := 31, wday := 4, hour := 23, min := 59, sec := 60 }
    ∧ civilView leaping 1830297637 = { year := 2028, month := 1, day := 1, wday := 5, hour := 0, min := 59, sec := 60 } := by decide +kernel
theorem test_zda : zdaSentence leaping 0 1830297637 = bytesOfText "$GNZDA,235960.00,31,12,2027,01,00*74" ++ [13, 10] := by decide +kernel

/-- the CRC-32 of the image and the save slots over the usual check string -/
theorem test_crc : crc32 (bytesOfText "123456789") = 0xCBF43926 := by decide +kernel

/-! ### One command each -/

/-- R499: plain, set, clear and toggle aliases of GEN.IRQ_EN, and a refused write to the ID -/
def enabled : State := withRegs [(GEN_IRQ_EN_EN, 0x0F)] base
theorem test_aliases : (List.range 4).map (fun al => rd (after (.registerWrite 0 (0x18 + al * 0x40000) 4 0x33) enabled) GEN_IRQ_EN_EN) = [0x33, 0x3F, 0x0C, 0x3C] := by
  decide +kernel
/-- R513: a misaligned access is cause 2 with its address, and the first of two faults is kept -/
theorem test_haf : rd (after (.registerWrite 0 0x1A 4 1) enabled) GEN_HAF_CAUSE = 2 ∧ rd (after (.registerWrite 0 0x1A 4 1) enabled) GEN_HAF_ADDR = 0x1A := by decide +kernel
/-- R457, R461: a forced source sets its sticky bit and FIRST -/
theorem test_force : rd (after (.faultForce 0 1 0 8) base) (FLT_STK_STK 1) = 8 ∧ rd (after (.faultForce 0 1 0 8) base) FLT_FIRST_SRC = 35 := by decide +kernel
/-- R517: a posted write waits and is carried out in its turn -/
theorem test_posted : (after (.qspiWrite16 0 0x18 [0x34, 0x12]) enabled).host.posted = [{ addr := 0x18, size := 2, data := 0x1234 }]
    ∧ rd (afterAll [.qspiWrite16 0 0x18 [0x34, 0x12], .postedWriteExecute 0] enabled) GEN_IRQ_EN_EN = 0x1234 := by decide +kernel
/-- R434, R436: a write of FAIL_FORM bits refused by a locked fuse array, and accepted without -/
def secReady : State := withRegs [(SEC_STAT_STATE, 1), (SEC_BUF_DATA 0, 5)] base
theorem test_fuse : rd (after (.fuseProgram 0 0x5A 6) secReady) SEC_FUSE_STAT_LEFT = 2
    ∧ rd (after (.fuseProgram 0 0x5A 6) (after (.fuseLockWrite 0) secReady)) SEC_FUSE_STAT_REFUSE = 1 := by decide +kernel
/-- R411: the warning sets PF_WARN and source 3's sticky bit -/
theorem test_power_fail : rd (after (.powerFailWarning ⟨0, 1199, 2000⟩) base) NVM_STAT_PF_WARN = 1 ∧ rd (after (.powerFailWarning ⟨0, 1199, 2000⟩) base) (FLT_STK_STK 0) = 8 := by decide +kernel
/-- every table word spells no command: no row of the table gives bits -/
theorem test_no_words : decodeTableWord 32 0 = none ∧ (base.withFetchWord 32 7) = base := by decide +kernel
/-- a step takes the front of the queue, and with none a cycle passes -/
theorem test_step : step { base with pending := [.minuteSample, .pps] } = exec .minuteSample { base with pending := [.pps] } := by rfl

/-! ### Ill-formed commands: for every check of Instr.wf a command that fails it alone, beside the well-formed one -/

theorem test_wf_1 :
    Instr.wf (.registerWrite 0 0 4 0) = true
    ∧ Instr.wf (.registerWrite 0 (2 ^ 24) 4 0) = false
    ∧ Instr.wf (.registerWrite 0 0 4 (2 ^ 32)) = false
    ∧ Instr.wf (.registerWrite 0 0 3 0) = false
    ∧ Instr.wf (.readClear 0 0 4) = true
    ∧ Instr.wf (.readClear 0 (2 ^ 24) 4) = false
    ∧ Instr.wf (.readClear 0 0 3) = false
    ∧ Instr.wf (.highWordRead 0 0) = true
    ∧ Instr.wf (.highWordRead 0 (2 ^ 24)) = false
    ∧ Instr.wf (.sstatRead 0 0) = true
    ∧ Instr.wf (.sstatRead 0 3) = false
    ∧ Instr.wf (.qspiWrite 0 0 []) = true
    ∧ Instr.wf (.qspiWrite 0 (2 ^ 24) []) = false
    ∧ Instr.wf (.qspiWriteFixed 0 0 []) = true
    ∧ Instr.wf (.qspiWriteFixed 0 (2 ^ 24) []) = false
    ∧ Instr.wf (.qspiWrite8 0 0 []) = true
    ∧ Instr.wf (.qspiWrite8 0 (2 ^ 24) []) = false
    ∧ Instr.wf (.qspiWrite16 0 0 []) = true
    ∧ Instr.wf (.qspiWrite16 0 (2 ^ 24) []) = false
    ∧ Instr.wf (.qspiRead 0 0 0) = true
    ∧ Instr.wf (.qspiRead 0 (2 ^ 24) 0) = false
    ∧ Instr.wf (.qspiReadFixed 0 0 0) = true
    ∧ Instr.wf (.qspiReadFixed 0 (2 ^ 24) 0) = false
    ∧ Instr.wf (.qspiRead8 0 0) = true
    ∧ Instr.wf (.qspiRead8 0 (2 ^ 24)) = false
    ∧ Instr.wf (.qspiRead16 0 0) = true
    ∧ Instr.wf (.qspiRead16 0 (2 ^ 24)) = false
    ∧ Instr.wf (.parallelRead 0 0 0 false) = true
    ∧ Instr.wf (.parallelRead 0 (2 ^ 24) 0 false) = false
    ∧ Instr.wf (.parallelRead 0 0 4 false) = false
    ∧ Instr.wf (.parallelWrite 0 0 0 false 0) = true
    ∧ Instr.wf (.parallelWrite 0 (2 ^ 24) 0 false 0) = false
    ∧ Instr.wf (.parallelWrite 0 0 4 false 0) = false
    ∧ Instr.wf (.parallelWrite 0 0 0 false 65536) = false
    ∧ Instr.wf (.rwsBatchLand 0) = true
    ∧ Instr.wf (.rwsBatchLand 2) = false
    ∧ Instr.wf (.genModeWrite 0 0 0) = true
    ∧ Instr.wf (.genModeWrite 0 4 0) = false
    ∧ Instr.wf (.genModeWrite 0 0 (2 ^ 32)) = false
    ∧ Instr.wf (.genIsolateWrite 0 0 0) = true := by decide

theorem test_wf_2 :
    Instr.wf (.genIsolateWrite 0 4 0) = false
    ∧ Instr.wf (.genIsolateWrite 0 0 (2 ^ 32)) = false
    ∧ Instr.wf (.isolationDone 0 4) = true
    ∧ Instr.wf (.isolationDone 0 3) = false
    ∧ Instr.wf (.isolationDone 0 15) = false
    ∧ Instr.wf (.releaseDone 0 4) = true
    ∧ Instr.wf (.releaseDone 0 3) = false
    ∧ Instr.wf (.releaseDone 0 15) = false
    ∧ Instr.wf (.warmMaxWrite 0 0 0) = true
    ∧ Instr.wf (.warmMaxWrite 0 4 0) = false
    ∧ Instr.wf (.warmMaxWrite 0 0 (2 ^ 32)) = false
    ∧ Instr.wf (.railFall 0 0 0) = true
    ∧ Instr.wf (.railFall 0 11 0) = false
    ∧ Instr.wf (.railFall 0 0 4096) = false
    ∧ Instr.wf (.railRise 0 {}) = true
    ∧ Instr.wf (.railRise 0 { rail := 11 }) = false
    ∧ Instr.wf (.railRise 0 { mv := 4096 }) = false
    ∧ Instr.wf (.resetRelease 0 0 0 0 false [0, 0, 0, 0, 0, 0, 0]) = true
    ∧ Instr.wf (.resetRelease 32 0 0 0 false [0, 0, 0, 0, 0, 0, 0]) = false
    ∧ Instr.wf (.resetRelease 0 32 0 0 false [0, 0, 0, 0, 0, 0, 0]) = false
    ∧ Instr.wf (.resetRelease 0 0 32 0 false [0, 0, 0, 0, 0, 0, 0]) = false
    ∧ Instr.wf (.resetRelease 0 0 0 0 false []) = false
    ∧ Instr.wf (.resetRelease 0 0 0 0 false [4096, 0, 0, 0, 0, 0, 0]) = false
    ∧ Instr.wf (.dldataWrite 0 0) = true
    ∧ Instr.wf (.dldataWrite 0 (2 ^ 32)) = false
    ∧ Instr.wf (.inputConfigWrite 0 0 0 0 0) = true
    ∧ Instr.wf (.inputConfigWrite 0 0 0 4 0) = false
    ∧ Instr.wf (.inputConfigWrite 0 0 0 0 (2 ^ 32)) = false
    ∧ Instr.wf (.inputConfigWrite 0 16 0 0 0) = false
    ∧ Instr.wf (.inputConfigWrite 0 0 8 0 0) = false
    ∧ Instr.wf (.referenceEdge 0 {}) = true
    ∧ Instr.wf (.referenceEdge 0 { n := 16 }) = false
    ∧ Instr.wf (.missingEdge 0) = true
    ∧ Instr.wf (.missingEdge 16) = false
    ∧ Instr.wf (.qualificationComplete 0) = true
    ∧ Instr.wf (.qualificationComplete 32) = false
    ∧ Instr.wf (.slotCfgWrite 0 0 0 0) = true
    ∧ Instr.wf (.slotCfgWrite 0 0 4 0) = false
    ∧ Instr.wf (.slotCfgWrite 0 0 0 (2 ^ 32)) = false
    ∧ Instr.wf (.slotCfgWrite 0 32 0 0) = false := by decide

theorem test_wf_3 :
    Instr.wf (.nmeaSentence 0 0 []) = true
    ∧ Instr.wf (.nmeaSentence 0 2 []) = false
    ∧ Instr.wf (.labelTimeout 0) = true
    ∧ Instr.wf (.labelTimeout 2) = false
    ∧ Instr.wf (.edgeCapture 0 0 [] []) = true
    ∧ Instr.wf (.edgeCapture 0 12 [] []) = false
    ∧ Instr.wf (.edgeCapture 0 0 [{ tap := 512 }] []) = false
    ∧ Instr.wf (.edgeCapture 0 0 [{ age := 8 }] []) = false
    ∧ Instr.wf (.edgeCapture 0 0 [] [{ tap := 512 }]) = false
    ∧ Instr.wf (.edgeCapture 0 0 [] [{ age := 8 }]) = false
    ∧ Instr.wf (.pairTimeout 0) = true
    ∧ Instr.wf (.pairTimeout 12) = false
    ∧ Instr.wf (.earlyStopExpiry 0) = true
    ∧ Instr.wf (.earlyStopExpiry 12) = false
    ∧ Instr.wf (.gateNosigTimeout 0) = true
    ∧ Instr.wf (.gateNosigTimeout 12) = false
    ∧ Instr.wf (.loopCheck 0 0 0) = true
    ∧ Instr.wf (.loopCheck 0 12 0) = false
    ∧ Instr.wf (.tableReplace 0 0 []) = true
    ∧ Instr.wf (.tableReplace 0 12 []) = false
    ∧ Instr.wf (.tableAgeExpiry 0) = true
    ∧ Instr.wf (.tableAgeExpiry 12) = false
    ∧ Instr.wf (.pmuPopSq 0 0) = true
    ∧ Instr.wf (.pmuPopSq 0 12) = false
    ∧ Instr.wf (.pmuPopRq 0 0) = true
    ∧ Instr.wf (.pmuPopRq 0 12) = false
    ∧ Instr.wf (.pmuFlushSq 0 0) = true
    ∧ Instr.wf (.pmuFlushSq 0 12) = false
    ∧ Instr.wf (.pmuFlushRq 0 0) = true
    ∧ Instr.wf (.pmuFlushRq 0 12) = false
    ∧ Instr.wf (.unitRestart 0 0) = true
    ∧ Instr.wf (.unitRestart 0 12) = false
    ∧ Instr.wf (.unitConfigWrite 0 0 0 0 0) = true
    ∧ Instr.wf (.unitConfigWrite 0 0 0 4 0) = false
    ∧ Instr.wf (.unitConfigWrite 0 0 0 0 (2 ^ 32)) = false
    ∧ Instr.wf (.unitConfigWrite 0 12 0 0 0) = false
    ∧ Instr.wf (.unitConfigWrite 0 0 6 0 0) = false
    ∧ Instr.wf (.testPair 0 0 0 0 0) = true
    ∧ Instr.wf (.testPair 0 4 0 0 0) = false
    ∧ Instr.wf (.testPair 0 0 (2 ^ 32) 0 0) = false := by decide

theorem test_wf_4 :
    Instr.wf (.holdoffExpiry 0) = true
    ∧ Instr.wf (.holdoffExpiry 8) = false
    ∧ Instr.wf (.prepareTimeout 0) = true
    ∧ Instr.wf (.prepareTimeout 8) = false
    ∧ Instr.wf (.settleEnd 0) = true
    ∧ Instr.wf (.settleEnd 8) = false
    ∧ Instr.wf (.dwellEnd 0) = true
    ∧ Instr.wf (.dwellEnd 8) = false
    ∧ Instr.wf (.dwellClr 0 0) = true
    ∧ Instr.wf (.dwellClr 0 8) = false
    ∧ Instr.wf (.rerunCmd 0 0) = true
    ∧ Instr.wf (.rerunCmd 0 8) = false
    ∧ Instr.wf (.selAbort 0 0) = true
    ∧ Instr.wf (.selAbort 0 8) = false
    ∧ Instr.wf (.selectionConfigWrite 0 0 0 0 0) = true
    ∧ Instr.wf (.selectionConfigWrite 0 0 0 4 0) = false
    ∧ Instr.wf (.selectionConfigWrite 0 0 0 0 (2 ^ 32)) = false
    ∧ Instr.wf (.selectionConfigWrite 0 8 0 0 0) = false
    ∧ Instr.wf (.selectionConfigWrite 0 0 6 0 0) = false
    ∧ Instr.wf (.phaseSample 0 0 0) = true
    ∧ Instr.wf (.phaseSample 0 32 0) = false
    ∧ Instr.wf (.forcedSampleTimeout 0) = true
    ∧ Instr.wf (.forcedSampleTimeout 8) = false
    ∧ Instr.wf (.phaseStepWrite 0 0 0 0) = true
    ∧ Instr.wf (.phaseStepWrite 0 0 4 0) = false
    ∧ Instr.wf (.phaseStepWrite 0 0 0 (2 ^ 32)) = false
    ∧ Instr.wf (.phaseStepWrite 0 8 0 0) = false
    ∧ Instr.wf (.slewCancel 0 0) = true
    ∧ Instr.wf (.slewCancel 0 8) = false
    ∧ Instr.wf (.modelClr 0 0) = true
    ∧ Instr.wf (.modelClr 0 8) = false
    ∧ Instr.wf (.frwHiWrite 0 0 0 0) = true
    ∧ Instr.wf (.frwHiWrite 0 0 4 0) = false
    ∧ Instr.wf (.frwHiWrite 0 0 0 (2 ^ 32)) = false
    ∧ Instr.wf (.frwHiWrite 0 8 0 0) = false
    ∧ Instr.wf (.holdoverSecond 0) = true
    ∧ Instr.wf (.holdoverSecond 8) = false
    ∧ Instr.wf (.holdoverDelayExpiry 0) = true
    ∧ Instr.wf (.holdoverDelayExpiry 8) = false
    ∧ Instr.wf (.bandSearchDone 0 0 0 (0, 0)) = true := by decide

theorem test_wf_5 :
    Instr.wf (.bandSearchDone 0 5 0 (0, 0)) = false
    ∧ Instr.wf (.synthLockDeclared 0 0 0) = true
    ∧ Instr.wf (.synthLockDeclared 0 5 0) = false
    ∧ Instr.wf (.synthLockLost 0 0 0) = true
    ∧ Instr.wf (.synthLockLost 0 5 0) = false
    ∧ Instr.wf (.synCommit 0 0 0) = true
    ∧ Instr.wf (.synCommit 0 4 0) = false
    ∧ Instr.wf (.synCommit 0 0 (2 ^ 32)) = false
    ∧ Instr.wf (.glideDone 0) = true
    ∧ Instr.wf (.glideDone 4) = false
    ∧ Instr.wf (.muteDone 0 0) = true
    ∧ Instr.wf (.muteDone 0 4) = false
    ∧ Instr.wf (.realignCmd 0 0) = true
    ∧ Instr.wf (.realignCmd 0 4) = false
    ∧ Instr.wf (.realignDone 0 0) = true
    ∧ Instr.wf (.realignDone 0 4) = false
    ∧ Instr.wf (.relockCmd 0 0) = true
    ∧ Instr.wf (.relockCmd 0 4) = false
    ∧ Instr.wf (.outputStart 0 0) = true
    ∧ Instr.wf (.outputStart 0 16) = false
    ∧ Instr.wf (.outputStopDone 0 0) = true
    ∧ Instr.wf (.outputStopDone 0 16) = false
    ∧ Instr.wf (.outputMoveDone 0 0) = true
    ∧ Instr.wf (.outputMoveDone 0 16) = false
    ∧ Instr.wf (.synTestGo 0 0 0) = true
    ∧ Instr.wf (.synTestGo 0 4 0) = false
    ∧ Instr.wf (.synTestGo 0 0 (2 ^ 32)) = false
    ∧ Instr.wf (.adjHiWrite 0 0 0) = true
    ∧ Instr.wf (.adjHiWrite 0 4 0) = false
    ∧ Instr.wf (.adjHiWrite 0 0 (2 ^ 32)) = false
    ∧ Instr.wf (.utcWrite 0 0 0) = true
    ∧ Instr.wf (.utcWrite 0 4 0) = false
    ∧ Instr.wf (.utcWrite 0 0 (2 ^ 32)) = false
    ∧ Instr.wf (.todTxStart 0) = true
    ∧ Instr.wf (.todTxStart 2) = false
    ∧ Instr.wf (.irigFrame 0 0 [0, 0, 0, 0, 0, 0, 0, 0, 0, 0, 0, 0, 0, 0, 0, 0, 0, 0, 0, 0, 0, 0, 0, 0, 0, 0, 0, 0, 0, 0, 0, 0, 0, 0, 0, 0, 0, 0, 0, 0, 0, 0, 0, 0, 0, 0, 0, 0, 0, 0, 0, 0, 0, 0, 0, 0, 0, 0, 0, 0, 0, 0, 0, 0, 0, 0, 0, 0, 0, 0, 0, 0, 0, 0, 0, 0, 0, 0, 0, 0, 0, 0, 0, 0, 0, 0, 0, 0, 0, 0, 0, 0, 0, 0, 0, 0, 0, 0, 0, 0]) = true
    ∧ Instr.wf (.irigFrame 0 0 []) = false
    ∧ Instr.wf (.rtcSecHiWrite 0 0 0) = true
    ∧ Instr.wf (.rtcSecHiWrite 0 4 0) = false
    ∧ Instr.wf (.rtcSecHiWrite 0 0 (2 ^ 32)) = false := by decide

theorem test_wf_6 :
    Instr.wf (.vbatLow {}) = true
    ∧ Instr.wf (.vbatLow { mv := 4096 }) = false
    ∧ Instr.wf (.mainsUpdate [0, 0, 0, 0, 0, 0]) = true
    ∧ Instr.wf (.mainsUpdate []) = false
    ∧ Instr.wf (.mainsUpdate [0, 8388608, 0, 0, 0, 0]) = false
    ∧ Instr.wf (.mainsUpdate [0, 0, 0, 0, -8388609, 0]) = false
    ∧ Instr.wf (.dropoutExpiry 0) = true
    ∧ Instr.wf (.dropoutExpiry 6) = false
    ∧ Instr.wf (.clipClear 0) = true
    ∧ Instr.wf (.clipClear 6) = false
    ∧ Instr.wf (.zcPulse 0) = true
    ∧ Instr.wf (.zcPulse 6) = false
    ∧ Instr.wf (.sequenceCheck 0 0) = true
    ∧ Instr.wf (.sequenceCheck 0 2) = false
    ∧ Instr.wf (.gtCfgWrite 0 0 0) = true
    ∧ Instr.wf (.gtCfgWrite 0 4 0) = false
    ∧ Instr.wf (.gtCfgWrite 0 0 (2 ^ 32)) = false
    ∧ Instr.wf (.gridFWrite 0 0 0) = true
    ∧ Instr.wf (.gridFWrite 0 4 0) = false
    ∧ Instr.wf (.gridFWrite 0 0 (2 ^ 32)) = false
    ∧ Instr.wf (.mnsTestGo 0 0 0) = true
    ∧ Instr.wf (.mnsTestGo 0 4 0) = false
    ∧ Instr.wf (.mnsTestGo 0 0 (2 ^ 32)) = false
    ∧ Instr.wf (.mnsTestDone 0) = true
    ∧ Instr.wf (.mnsTestDone (-8388609)) = false
    ∧ Instr.wf (.mnsTestDone 8388608) = false
    ∧ Instr.wf (.astSiteWrite 0 0 0 0) = true
    ∧ Instr.wf (.astSiteWrite 0 0 4 0) = false
    ∧ Instr.wf (.astSiteWrite 0 0 0 (2 ^ 32)) = false
    ∧ Instr.wf (.astSiteWrite 0 8 0 0) = false
    ∧ Instr.wf (.astTestGo 0 0 0) = true
    ∧ Instr.wf (.astTestGo 0 4 0) = false
    ∧ Instr.wf (.astTestGo 0 0 (2 ^ 32)) = false
    ∧ Instr.wf (.comparatorLoad 0) = true
    ∧ Instr.wf (.comparatorLoad 48) = false
    ∧ Instr.wf (.dispatchCmd 0) = true
    ∧ Instr.wf (.dispatchCmd 48) = false
    ∧ Instr.wf (.pulseEnd 0) = true
    ∧ Instr.wf (.pulseEnd 48) = false
    ∧ Instr.wf (.feedbackEdge 0 0 false) = true := by decide

theorem test_wf_7 :
    Instr.wf (.feedbackEdge 0 48 false) = false
    ∧ Instr.wf (.feedbackTimeout 0) = true
    ∧ Instr.wf (.feedbackTimeout 48) = false
    ∧ Instr.wf (.schCmd 0 0 0) = true
    ∧ Instr.wf (.schCmd 0 4 0) = false
    ∧ Instr.wf (.schCmd 0 0 (2 ^ 32)) = false
    ∧ Instr.wf (.issueCmd 0 0 0 0) = true
    ∧ Instr.wf (.issueCmd 0 0 0 8) = false
    ∧ Instr.wf (.issueCmd 0 8 0 0) = false
    ∧ Instr.wf (.issueCmd 0 0 64 0) = false
    ∧ Instr.wf (.rcAbort 0 0) = true
    ∧ Instr.wf (.rcAbort 0 8) = false
    ∧ Instr.wf (.plainCmd 0 0 0 0 false) = true
    ∧ Instr.wf (.plainCmd 0 0 0 8 false) = false
    ∧ Instr.wf (.plainCmd 0 8 0 0 false) = false
    ∧ Instr.wf (.plainCmd 0 0 64 0 false) = false
    ∧ Instr.wf (.rcDeadline 0) = true
    ∧ Instr.wf (.rcDeadline 8) = false
    ∧ Instr.wf (.rcCommitRetry 0) = true
    ∧ Instr.wf (.rcCommitRetry 8) = false
    ∧ Instr.wf (.rcFire 0) = true
    ∧ Instr.wf (.rcFire 8) = false
    ∧ Instr.wf (.rcPendingTimeout 0) = true
    ∧ Instr.wf (.rcPendingTimeout 8) = false
    ∧ Instr.wf (.schTestGo 0 0 0) = true
    ∧ Instr.wf (.schTestGo 0 4 0) = false
    ∧ Instr.wf (.schTestGo 0 0 (2 ^ 32)) = false
    ∧ Instr.wf (.frameReceive 0 0 {}) = true
    ∧ Instr.wf (.frameReceive 0 6 {}) = false
    ∧ Instr.wf (.syncReceive 0 0 {} 0) = true
    ∧ Instr.wf (.syncReceive 0 6 {} 0) = false
    ∧ Instr.wf (.followUpReceive 0 0 {} 0) = true
    ∧ Instr.wf (.followUpReceive 0 6 {} 0) = false
    ∧ Instr.wf (.delayReqReceive 0 0 {}) = true
    ∧ Instr.wf (.delayReqReceive 0 6 {}) = false
    ∧ Instr.wf (.delayRespReceive 0 0 {} 0 0 0) = true
    ∧ Instr.wf (.delayRespReceive 0 6 {} 0 0 0) = false
    ∧ Instr.wf (.announceReceive 0 0 {} {}) = true
    ∧ Instr.wf (.announceReceive 0 6 {} {}) = false
    ∧ Instr.wf (.pdelayReqReceive 0 0 {}) = true := by decide

theorem test_wf_8 :
    Instr.wf (.pdelayReqReceive 0 6 {}) = false
    ∧ Instr.wf (.pdelayRespReceive 0 0 {} 0 0 0) = true
    ∧ Instr.wf (.pdelayRespReceive 0 6 {} 0 0 0) = false
    ∧ Instr.wf (.pdelayRespFollowUpReceive 0 0 {} 0 0 0) = true
    ∧ Instr.wf (.pdelayRespFollowUpReceive 0 6 {} 0 0 0) = false
    ∧ Instr.wf (.syncInterval 0) = true
    ∧ Instr.wf (.syncInterval 6) = false
    ∧ Instr.wf (.announceInterval 0) = true
    ∧ Instr.wf (.announceInterval 6) = false
    ∧ Instr.wf (.delayReqInterval 0) = true
    ∧ Instr.wf (.delayReqInterval 6) = false
    ∧ Instr.wf (.announceReceiptTimeout 0) = true
    ∧ Instr.wf (.announceReceiptTimeout 6) = false
    ∧ Instr.wf (.qualificationTimeout 0) = true
    ∧ Instr.wf (.qualificationTimeout 6) = false
    ∧ Instr.wf (.scheduledLaunch 0) = true
    ∧ Instr.wf (.scheduledLaunch 6) = false
    ∧ Instr.wf (.linkUp 0 0 0 false) = true
    ∧ Instr.wf (.linkUp 0 6 0 false) = false
    ∧ Instr.wf (.linkUp 0 0 4 false) = false
    ∧ Instr.wf (.linkDown 0 0) = true
    ∧ Instr.wf (.linkDown 0 6) = false
    ∧ Instr.wf (.portInitDone 0 0) = true
    ∧ Instr.wf (.portInitDone 0 6) = false
    ∧ Instr.wf (.cdrLockChange 0 0 false) = true
    ∧ Instr.wf (.cdrLockChange 0 6 false) = false
    ∧ Instr.wf (.esmcPduReceive 0 0 false 0 none) = true
    ∧ Instr.wf (.esmcPduReceive 0 6 false 0 none) = false
    ∧ Instr.wf (.esmcPduReceive 0 0 false 16 none) = false
    ∧ Instr.wf (.esmcTimeout 0) = true
    ∧ Instr.wf (.esmcTimeout 6) = false
    ∧ Instr.wf (.esmcInfoTx 0) = true
    ∧ Instr.wf (.esmcInfoTx 6) = false
    ∧ Instr.wf (.anRestart 0 0) = true
    ∧ Instr.wf (.anRestart 0 6) = false
    ∧ Instr.wf (.portTsqFlush 0 0) = true
    ∧ Instr.wf (.portTsqFlush 0 6) = false
    ∧ Instr.wf (.portTsqPop 0 0) = true
    ∧ Instr.wf (.portTsqPop 0 6) = false
    ∧ Instr.wf (.fdbAdd 0 0) = true := by decide

theorem test_wf_9 :
    Instr.wf (.fdbAdd 0 64) = false
    ∧ Instr.wf (.portConfigWrite 0 0 0 0 0) = true
    ∧ Instr.wf (.portConfigWrite 0 0 0 4 0) = false
    ∧ Instr.wf (.portConfigWrite 0 0 0 0 (2 ^ 32)) = false
    ∧ Instr.wf (.portConfigWrite 0 0 25 0 0) = false
    ∧ Instr.wf (.portConfigWrite 0 6 0 0 0) = false
    ∧ Instr.wf (.clkCfgWrite 0 0 0) = true
    ∧ Instr.wf (.clkCfgWrite 0 4 0) = false
    ∧ Instr.wf (.clkCfgWrite 0 0 (2 ^ 32)) = false
    ∧ Instr.wf (.ptpTestGo 0 0 0) = true
    ∧ Instr.wf (.ptpTestGo 0 4 0) = false
    ∧ Instr.wf (.ptpTestGo 0 0 (2 ^ 32)) = false
    ∧ Instr.wf (.pollCmd 0 0 {}) = true
    ∧ Instr.wf (.pollCmd 0 4 {}) = false
    ∧ Instr.wf (.presCmd 0 0 {}) = true
    ∧ Instr.wf (.presCmd 0 4 {}) = false
    ∧ Instr.wf (.helloCmd 0 0 {}) = true
    ∧ Instr.wf (.helloCmd 0 4 {}) = false
    ∧ Instr.wf (.identCmd 0 0 {}) = true
    ∧ Instr.wf (.identCmd 0 4 {}) = false
    ∧ Instr.wf (.negCmd 0 0 {}) = true
    ∧ Instr.wf (.negCmd 0 4 {}) = false
    ∧ Instr.wf (.negAck 0 0 {}) = true
    ∧ Instr.wf (.negAck 0 4 {}) = false
    ∧ Instr.wf (.negCfm 0 0 {}) = true
    ∧ Instr.wf (.negCfm 0 4 {}) = false
    ∧ Instr.wf (.negDone 0 0 {}) = true
    ∧ Instr.wf (.negDone 0 4 {}) = false
    ∧ Instr.wf (.readCmd 0 0 {}) = true
    ∧ Instr.wf (.readCmd 0 4 {}) = false
    ∧ Instr.wf (.dataCmd 0 0 {}) = true
    ∧ Instr.wf (.dataCmd 0 4 {}) = false
    ∧ Instr.wf (.writeCmd 0 0 {}) = true
    ∧ Instr.wf (.writeCmd 0 4 {}) = false
    ∧ Instr.wf (.ackCmd 0 0 {}) = true
    ∧ Instr.wf (.ackCmd 0 4 {}) = false
    ∧ Instr.wf (.evtGet 0 0 {}) = true
    ∧ Instr.wf (.evtGet 0 4 {}) = false
    ∧ Instr.wf (.evtCmd 0 0 {}) = true
    ∧ Instr.wf (.evtCmd 0 4 {}) = false := by decide

theorem test_wf_10 :
    Instr.wf (.switchCmd 0 0 {}) = true
    ∧ Instr.wf (.switchCmd 0 4 {}) = false
    ∧ Instr.wf (.armCmd 0 0 {}) = true
    ∧ Instr.wf (.armCmd 0 4 {}) = false
    ∧ Instr.wf (.armRsp 0 0 {}) = true
    ∧ Instr.wf (.armRsp 0 4 {}) = false
    ∧ Instr.wf (.commitCmd 0 0 {}) = true
    ∧ Instr.wf (.commitCmd 0 4 {}) = false
    ∧ Instr.wf (.cancelCmd 0 0 {}) = true
    ∧ Instr.wf (.cancelCmd 0 4 {}) = false
    ∧ Instr.wf (.armExpiry 0) = true
    ∧ Instr.wf (.armExpiry 4) = false
    ∧ Instr.wf (.ttReq 0 0 {}) = true
    ∧ Instr.wf (.ttReq 0 4 {}) = false
    ∧ Instr.wf (.ttRespLaunch 0) = true
    ∧ Instr.wf (.ttRespLaunch 4) = false
    ∧ Instr.wf (.ttResp 0 0 {}) = true
    ∧ Instr.wf (.ttResp 0 4 {}) = false
    ∧ Instr.wf (.ttFup 0 0 {}) = true
    ∧ Instr.wf (.ttFup 0 4 {}) = false
    ∧ Instr.wf (.nakCmd 0 0 {}) = true
    ∧ Instr.wf (.nakCmd 0 4 {}) = false
    ∧ Instr.wf (.responseTimeout 0) = true
    ∧ Instr.wf (.responseTimeout 4) = false
    ∧ Instr.wf (.roundStart 0) = true
    ∧ Instr.wf (.roundStart 4) = false
    ∧ Instr.wf (.busFree 0 0) = true
    ∧ Instr.wf (.busFree 0 4) = false
    ∧ Instr.wf (.prExpiry 0 1) = true
    ∧ Instr.wf (.prExpiry 4 1) = false
    ∧ Instr.wf (.prExpiry 0 0) = false
    ∧ Instr.wf (.prExpiry 0 32) = false
    ∧ Instr.wf (.sessionTimeout 0) = true
    ∧ Instr.wf (.sessionTimeout 4) = false
    ∧ Instr.wf (.ttExchangeDue 0 1) = true
    ∧ Instr.wf (.ttExchangeDue 4 1) = false
    ∧ Instr.wf (.ttExchangeDue 0 0) = false
    ∧ Instr.wf (.ttExchangeDue 0 32) = false
    ∧ Instr.wf (.cascadeTimeout 0) = true
    ∧ Instr.wf (.cascadeTimeout 4) = false := by decide

theorem test_wf_11 :
    Instr.wf (.calExchangeDue 0 1) = true
    ∧ Instr.wf (.calExchangeDue 4 1) = false
    ∧ Instr.wf (.calExchangeDue 0 0) = false
    ∧ Instr.wf (.calExchangeDue 0 32) = false
    ∧ Instr.wf (.calTimeout 0 1) = true
    ∧ Instr.wf (.calTimeout 4 1) = false
    ∧ Instr.wf (.calTimeout 0 0) = false
    ∧ Instr.wf (.calTimeout 0 32) = false
    ∧ Instr.wf (.linkConfigWrite 0 0 0 0 0) = true
    ∧ Instr.wf (.linkConfigWrite 0 0 0 4 0) = false
    ∧ Instr.wf (.linkConfigWrite 0 0 0 0 (2 ^ 32)) = false
    ∧ Instr.wf (.linkConfigWrite 0 0 16 0 0) = false
    ∧ Instr.wf (.linkConfigWrite 0 4 0 0 0) = false
    ∧ Instr.wf (.lboDataWrite 0 0) = true
    ∧ Instr.wf (.lboDataWrite 0 (2 ^ 32)) = false
    ∧ Instr.wf (.tsqFlush 0 0) = true
    ∧ Instr.wf (.tsqFlush 0 4) = false
    ∧ Instr.wf (.tsqPop 0 0) = true
    ∧ Instr.wf (.tsqPop 0 4) = false
    ∧ Instr.wf (.crlTestGo 0 0 0) = true
    ∧ Instr.wf (.crlTestGo 0 4 0) = false
    ∧ Instr.wf (.crlTestGo 0 0 (2 ^ 32)) = false
    ∧ Instr.wf (.powerFailWarning {}) = true
    ∧ Instr.wf (.powerFailWarning { mv := 4096 }) = false
    ∧ Instr.wf (.powerFailClear {}) = true
    ∧ Instr.wf (.powerFailClear { mv := 4096 }) = false
    ∧ Instr.wf (.nvmTestGo 0 0 0) = true
    ∧ Instr.wf (.nvmTestGo 0 4 0) = false
    ∧ Instr.wf (.nvmTestGo 0 0 (2 ^ 32)) = false
    ∧ Instr.wf (.fuseProgram 0 0 0) = true
    ∧ Instr.wf (.fuseProgram 0 256 0) = false
    ∧ Instr.wf (.fuseProgram 0 0 16) = false
    ∧ Instr.wf (.slotLockWrite 0 0 0) = true
    ∧ Instr.wf (.slotLockWrite 0 4 0) = false
    ∧ Instr.wf (.slotLockWrite 0 0 (2 ^ 32)) = false
    ∧ Instr.wf (.loadCmd 0 0 0 0) = true
    ∧ Instr.wf (.loadCmd 0 256 0 0) = false
    ∧ Instr.wf (.loadCmd 0 0 32 0) = false
    ∧ Instr.wf (.loadCmd 0 0 0 8) = false
    ∧ Instr.wf (.clearCmd 0 0 0) = true := by decide

theorem test_wf_12 :
    Instr.wf (.clearCmd 0 256 0) = false
    ∧ Instr.wf (.clearCmd 0 0 32) = false
    ∧ Instr.wf (.wrapCmd 0 0) = true
    ∧ Instr.wf (.wrapCmd 0 256) = false
    ∧ Instr.wf (.sha256 0 0 0) = true
    ∧ Instr.wf (.sha256 0 256 0) = false
    ∧ Instr.wf (.sha256 0 0 256) = false
    ∧ Instr.wf (.hmacCmd 0 0 0 0) = true
    ∧ Instr.wf (.hmacCmd 0 256 0 0) = false
    ∧ Instr.wf (.hmacCmd 0 0 32 0) = false
    ∧ Instr.wf (.hmacCmd 0 0 0 256) = false
    ∧ Instr.wf (.verifyCmd 0 0) = true
    ∧ Instr.wf (.verifyCmd 0 256) = false
    ∧ Instr.wf (.reseed 0 0) = true
    ∧ Instr.wf (.reseed 0 256) = false
    ∧ Instr.wf (.selftest 0 0) = true
    ∧ Instr.wf (.selftest 0 256) = false
    ∧ Instr.wf (.selftestDone 0 0) = true
    ∧ Instr.wf (.selftestDone 0 14) = false
    ∧ Instr.wf (.zeroise 0 0) = true
    ∧ Instr.wf (.zeroise 0 256) = false
    ∧ Instr.wf (.faultForce 0 0 0 0) = true
    ∧ Instr.wf (.faultForce 0 0 4 0) = false
    ∧ Instr.wf (.faultForce 0 0 0 (2 ^ 32)) = false
    ∧ Instr.wf (.faultForce 0 3 0 0) = false
    ∧ Instr.wf (.blockResetEnd 0) = true
    ∧ Instr.wf (.blockResetEnd 16) = false
    ∧ Instr.wf (.settleWindowEnd 0) = true
    ∧ Instr.wf (.settleWindowEnd 16) = false
    ∧ Instr.wf (.chktest 0 0 0) = true
    ∧ Instr.wf (.chktest 0 4 0) = false
    ∧ Instr.wf (.chktest 0 0 (2 ^ 32)) = false
    ∧ Instr.wf (.stickyClearWrite 0 0 0 0) = true
    ∧ Instr.wf (.stickyClearWrite 0 0 4 0) = false
    ∧ Instr.wf (.stickyClearWrite 0 0 0 (2 ^ 32)) = false
    ∧ Instr.wf (.stickyClearWrite 0 6 0 0) = false
    ∧ Instr.wf (.rinstWrite 0 0 0) = true
    ∧ Instr.wf (.rinstWrite 0 4 0) = false
    ∧ Instr.wf (.rinstWrite 0 0 (2 ^ 32)) = false
    ∧ Instr.wf (.parityError 0 0 0 false false) = true := by decide

theorem test_wf_13 :
    Instr.wf (.parityError 0 93 0 false false) = false
    ∧ Instr.wf (.parityError 0 0 32 false false) = false
    ∧ Instr.wf (.frameEgress 0 0) = true
    ∧ Instr.wf (.frameEgress 0 6) = false
    ∧ Instr.wf (.appliedWordRampDone 0) = true
    ∧ Instr.wf (.appliedWordRampDone 4) = false := by decide

/-! ### The hypotheses of the statements. For every statement a theorem named after it, in the chapters' order: for each of its clauses operands
(in the comment before it) and a state that meet all its hypotheses together. What a hypothesis says of the opaque cryptography of Config
cannot be decided by evaluation: such a clause is shown with its other hypotheses. -/

namespace WA

def q1 : State := { base with pending := [.minuteSample, .pps] }
def rest_1 := [Instr.pps]
def haf1 : State := base |> put GEN_HAF_VALID 1 |> put GEN_HAF_MORE 7 |> put GEN_HAF_CAUSE 3 |> put GEN_HAF_ADDR 0x30 |> put GEN_IRQ_EN_EN 0x12345678
def haf0 : State := base |> put GEN_IRQ_EN_EN 0x92345678
def st3 : State := (put GEN_HAF_MORE 3 haf1)
def q2 : State := { haf1 with host := { haf1.host with holdHi := some (0x600448 + 128 * 7), holdW := [(0x600444 + 128 * 7, 77)] } } |> put (SEL_DPLLd_FREQ_HI_W 7) 0x80000001 |> put (SEL_DPLLd_FREQ_LO_W 7) 6 |> put (PMU_PMn_CFG_EN 8) 1

theorem witness_StepRunsTheFrontOrPassesACycle :
    -- c = Instr.minuteSample, rest = rest_1, s = q1
    (q1.pending = Instr.minuteSample :: rest_1)
    -- s = base
    ∧ (Between base ∧ base.pending = []) := by
  simp only [Between]
  decide +kernel

theorem witness_HostWriteStoresTheEnabledBytes :
    -- dt = 3, al = 0, n = 1, b = 0, data = 2779115535, s = haf1
    (Between haf1 ∧ HostIdle haf1 ∧ 0 < 4 ∧ (1 = 1 ∨ 1 = 2 ∨ 1 = 4) ∧ 0 % 1 = 0)
    -- dt = 3, al = 3, n = 4, b = 0, data = 2779115535, s = haf1
    ∧ (Between haf1 ∧ HostIdle haf1 ∧ 3 < 4 ∧ (4 = 1 ∨ 4 = 2 ∨ 4 = 4) ∧ 0 < 4 ∧ 0 % 4 = 0) := by
  simp only [HostIdle, Between]
  decide +kernel

theorem witness_RefusedHostAccessesAreCaptured :
    -- dt = 3, n = 1, b = 0, data = 5, s = haf0
    (Between haf0 ∧ HostIdle haf0 ∧ (1 = 1 ∨ 1 = 2) ∧ 0 < 4 ∧ 0 % 1 = 0)
    -- dt = 3, n = 2, b = 2, data = 5, s = st3
    ∧ (Between st3 ∧ HostIdle st3 ∧ (2 = 1 ∨ 2 = 2) ∧ 2 < 4 ∧ 2 % 2 = 0)
    -- dt = 3, n = 1, b = 2, data = 5, s = haf0
    ∧ (Between haf0 ∧ HostIdle haf0 ∧ 0 < 2 ∧ 2 < 4)
    -- dt = 3, n = 1, b = 3, data = 5, s = st3
    ∧ (Between st3 ∧ HostIdle st3 ∧ 0 < 3 ∧ 3 < 4) := by
  simp only [HostIdle, Between]
  decide +kernel

theorem witness_ReadClearsAndHolds :
    -- dt = 3, d = 7, g = 2, s = q2
    (Between q2 ∧ HostIdle q2 ∧ 7 < 8 ∧ 2 < 3 ∧ cycleOf (q2.now + 3) = cycleOf q2.now ∧ rd q2 GEN_HAF_VALID = 1 ∧ cycSet q2 GEN_HAF_VALID = 1 ∧ cycWas q2 GEN_HAF_VALID = 0 ∧ rd q2 GEN_HAF_MORE < 8 ∧ rd q2 GEN_HAF_CAUSE < 16 ∧ rd q2 GEN_HAF_ADDR < 2 ^ 24)
    ∧ (Between q2 ∧ HostIdle q2 ∧ 7 < 8 ∧ 2 < 3 ∧ cycleOf (q2.now + 3) = cycleOf q2.now) := by
  simp only [HostIdle, Between]
  decide +kernel

end WA

namespace WB

def haf1 : State := base |> put GEN_HAF_VALID 1 |> put GEN_HAF_MORE 7 |> put GEN_HAF_CAUSE 3 |> put GEN_HAF_ADDR 0x30 |> put GEN_IRQ_EN_EN 0x12345678
def q2 : State := { haf1 with host := { haf1.host with holdHi := some (0x600448 + 128 * 7), holdW := [(0x600444 + 128 * 7, 77)] }, img := { haf1.img with struct_ := { haf1.img.struct_ with pmGang := 12 } } } |> put (SEL_DPLLd_FREQ_HI_W 7) 0x80000001 |> put (SEL_DPLLd_FREQ_LO_W 7) 6 |> put (PMU_PMn_CFG_EN 8) 1
def q3 : State := haf1 |> put RST_STRAP_HOSTSEL 0
def q4 : State := { base with host := { base.host with posted := List.replicate 15 { addr := 0x18, size := 4, data := 5 }, ovf := true, haf := true } }
def by1 : List Byte := [1]
def by2 : List Byte := [1,2]
def by8 : List Byte := [1,2,3,4,5,6,7,8]
def rest_1 := List.replicate 14 ({ addr := 0x18, size := 4, data := 5 } : Posted)
def p0 : State := haf1 |> put RST_STRAP_HOSTSEL 1
def p1 : State := modHost (fun h => { h with heldHalf := some (0x18, 0x1234) }) p0
def p2 : State := modHost (fun h => { h with staged := some (0x18, 0x9999, 500) }) p0
def p3 : State := put GEN_HOSTCFG_PAIR 0 p0
def p4 : State := put GEN_HAF_VALID 0 p3
def u1 : State := { base with img := { base.img with struct_ := { base.img.struct_ with pmGang := 0 } } }
def st2 : State := cc q2
def q2b : State := put GEN_HAF_VALID 1 (cc (put GEN_HAF_VALID 0 q2)) |> put (SEL_DPLLd_FREQ_LO_W 7) 99

theorem witness_ReadClearsAndHolds_2 :
    -- dt = 4, d = 7, g = 0, s = q2b
    (Between q2b ∧ HostIdle q2b ∧ 7 < 8 ∧ 0 < 3 ∧ cycleOf (q2b.now + 4) = cycleOf q2b.now ∧ rd q2b GEN_HAF_VALID = 1 ∧ cycSet q2b GEN_HAF_VALID = 1 ∧ cycWas q2b GEN_HAF_VALID = 0 ∧ rd q2b GEN_HAF_MORE < 8 ∧ rd q2b GEN_HAF_CAUSE < 16 ∧ rd q2b GEN_HAF_ADDR < 2 ^ 24)
    ∧ (Between q2b ∧ HostIdle q2b ∧ 7 < 8 ∧ 0 < 3 ∧ cycleOf (q2b.now + 4) = cycleOf q2b.now)
    -- dt = 4000000, d = 7, g = 2, s = st2
    ∧ (Between st2 ∧ HostIdle st2 ∧ 7 < 8 ∧ 2 < 3 ∧ cycleOf st2.now < cycleOf (st2.now + 4000000))
    -- dt = 4000000, d = 7, g = 0, s = st2
    ∧ (Between st2 ∧ HostIdle st2 ∧ 7 < 8 ∧ 0 < 3 ∧ cycleOf st2.now < cycleOf (st2.now + 4000000))
    -- dt = 4000000, d = 7, g = 2, s = st2, w = 77
    ∧ (Between st2 ∧ HostIdle st2 ∧ 7 < 8 ∧ 2 < 3 ∧ cycleOf st2.now < cycleOf (st2.now + 4000000) ∧ st2.host.holdHi = some (6292552 + 128 * 7) ∧ st2.host.holdW = [(6292548 + 128 * 7, 77)])
    -- dt = 4000000, d = 7, g = 0, s = st2, w = 77
    ∧ (Between st2 ∧ HostIdle st2 ∧ 7 < 8 ∧ 0 < 3 ∧ cycleOf st2.now < cycleOf (st2.now + 4000000) ∧ st2.host.holdHi = some (6292552 + 128 * 7) ∧ st2.host.holdW = [(6292548 + 128 * 7, 77)])
    -- dt = 4000000, d = 7, g = 0, s = st2
    ∧ (Between st2 ∧ HostIdle st2 ∧ 7 < 8 ∧ 0 < 3 ∧ cycleOf st2.now < cycleOf (st2.now + 4000000) ∧ unitSize st2 (4 * 0) = 4) := by
  simp only [HostIdle, Between]
  decide +kernel

theorem witness_QuadSpiWritesArePosted :
    -- dt = 3, addr = 262140, bytes = by1, s = q3
    (Between q3 ∧ qspiOn q3 = true ∧ q3.host.posted.length ≤ 16 ∧ by1.length = 1)
    -- dt = 3, addr = 262140, bytes = by1, s = q4
    ∧ (Between q4 ∧ qspiOn q4 = true ∧ q4.host.posted.length ≤ 16 ∧ by1.length = 1)
    -- dt = 3, addr = 262140, bytes = by2, s = q3
    ∧ (Between q3 ∧ qspiOn q3 = true ∧ q3.host.posted.length ≤ 16 ∧ by2.length = 2)
    -- dt = 3, addr = 262140, bytes = by2, s = q4
    ∧ (Between q4 ∧ qspiOn q4 = true ∧ q4.host.posted.length ≤ 16 ∧ by2.length = 2)
    -- dt = 3, addr = 262140, bytes = by8, s = q3
    ∧ (Between q3 ∧ qspiOn q3 = true ∧ q3.host.posted.length ≤ 16 ∧ by8.length % 4 = 0)
    -- dt = 3, addr = 262140, bytes = by8, s = q4
    ∧ (Between q4 ∧ qspiOn q4 = true ∧ q4.host.posted.length ≤ 16 ∧ by8.length % 4 = 0) := by
  simp only [Between]
  decide +kernel

theorem witness_QuadSpiReadsStatusAndErrors :
    -- dt = 3, n = 3, s = q3
    (Between q3 ∧ qspiOn q3 = true ∧ q3.host.posted = [] ∧ q3.host.staged = none)
    ∧ (Between q3 ∧ qspiOn q3 = true)
    -- dt = 3, n = 3, s = q4
    ∧ (Between q4 ∧ qspiOn q4 = true)
    -- dt = 3, n = 3, s = q4, v = 5, rest = rest_1
    ∧ (Between q4 ∧ qspiOn q4 = true ∧ q4.host.staged = none ∧ q4.host.posted = { addr := 24, size := 4, data := 5 } :: rest_1) := by
  simp only [Between]
  decide +kernel

theorem witness_ParallelPortPairsHalves :
    -- dt = 3, data = 126989, s = p0
    (Between p0 ∧ parOn p0 = true ∧ p0.host.posted = [] ∧ p0.host.staged = none ∧ rd p0 GEN_HOSTCFG_PAIR = 1)
    -- dt = 3, data = 126989, s = p1
    ∧ (Between p1 ∧ parOn p1 = true ∧ p1.host.posted = [] ∧ p1.host.staged = none ∧ rd p1 GEN_HOSTCFG_PAIR = 1)
    -- dt = 3, data = 126989, s = p0
    ∧ (Between p0 ∧ parOn p0 = true ∧ p0.host.posted = [] ∧ p0.host.staged = none)
    -- dt = 3, data = 126989, s = p4
    ∧ (Between p4 ∧ parOn p4 = true ∧ p4.host.posted = [] ∧ p4.host.staged = none)
    -- dt = 3, data = 126989, s = p1, v = 4660
    ∧ (Between p1 ∧ parOn p1 = true ∧ p1.host.posted = [] ∧ p1.host.staged = none ∧ rd p1 GEN_HOSTCFG_PAIR = 1 ∧ p1.host.heldHalf = some (24, 4660))
    -- dt = 3, data = 126989, s = p2, low = 39321, dl = 500
    ∧ (Between p2 ∧ parOn p2 = true ∧ p2.host.posted = [] ∧ p2.host.staged = some (24, 39321, 500) ∧ rd p2 GEN_HOSTCFG_PAIR = 1 ∧ 39321 < 65536 ∧ p2.now + 3 ≤ 500)
    ∧ (Between p2 ∧ parOn p2 = true ∧ p2.host.posted = [] ∧ p2.host.staged = some (24, 39321, 500))
    -- dt = 3, data = 126989, s = p3
    ∧ (Between p3 ∧ parOn p3 = true ∧ p3.host.posted = [] ∧ p3.host.staged = none ∧ rd p3 GEN_HOSTCFG_PAIR = 0)
    -- dt = 3, data = 126989, s = p4
    ∧ (Between p4 ∧ parOn p4 = true ∧ p4.host.posted = [] ∧ p4.host.staged = none ∧ rd p4 GEN_HOSTCFG_PAIR = 0) := by
  simp only [Between]
  decide +kernel

theorem witness_QueuePopsAndFlushes :
    -- dt = 3, b = 3, s = u1
    (Between u1 ∧ (3 < 12 ∧ unitSize u1 3 ≠ 0) ∧ Open u1 (5242904 + 128 * 3))
    -- dt = 3, b = 11, s = u1
    ∧ (Between u1 ∧ (11 < 12 ∧ unitSize u1 11 ≠ 0) ∧ Open u1 (5242904 + 128 * 11))
    -- dt = 3, b = 3, s = u1
    ∧ (Between u1 ∧ Open u1 9437476)
    ∧ (Between u1 ∧ Open u1 11534404)
    ∧ (Between u1 ∧ 3 < 6 ∧ Open u1 (12584032 + 128 * 3))
    -- dt = 3, b = 5, s = u1
    ∧ (Between u1 ∧ 5 < 6 ∧ Open u1 (12584032 + 128 * 5))
    -- dt = 3, b = 3, s = u1
    ∧ (Between u1 ∧ 3 < 4 ∧ Open u1 13631904)
    ∧ (Between u1 ∧ Open u1 13631904)
    ∧ (Between u1 ∧ Open u1 13631880) := by
  simp only [Open, HostIdle, Between]
  decide +kernel

end WB

namespace WC

def w1 : State := { base with img := { base.img with struct_ := { base.img.struct_ with pmGang := 4, dpllCand := List.replicate 8 0xE000FFFF } } , clk := { base.clk with warmRun := true } } |> put (SEL_DPLLd_SLEW_SLEW 0) 5 |> put (SEL_DPLLd_SLEW_SLEW 3) 5 |> put (SEL_DPLLd_PSTEP_LO_P 3) 77 |> put REF_SYSCLK_WARM_MAX 500 |> put (REF_INn_CFG_DIV 3) 5
def w2 : State := w1 |> put (SEL_DPLLd_SLEW_SLEW 0) 0 |> put (SEL_DPLLd_SLEW_SLEW 3) 0 |> put MNS_GT_CFG_EN 1
def w3 : State := w1 |> put MNS_GT_CFG_EN 1 |> put SYN_STAT_COMMIT_PEND 1
def st1 : State := (put GEN_HAF_VALID 1 w1)

theorem witness_OffsetsWithoutARegister :
    -- dt = 3, a = 1020, data = 5, s = w1
    (Between w1 ∧ HostIdle w1 ∧ 1020 % 4 = 0 ∧ rowAt (wordAddr 1020) = none)
    -- dt = 3, a = 4195320, data = 5, s = w1
    ∧ (Between w1 ∧ HostIdle w1 ∧ 4195320 % 4 = 0 ∧ rowAt (wordAddr 4195320) = none)
    -- dt = 3, a = 1020, data = 5, s = w1
    ∧ (Between w1 ∧ HostIdle w1 ∧ 1020 % 4 = 0 ∧ rowAt (wordAddr 1020) = none ∧ w1.img.applied = true ∧ prTarget w1 ≠ some (blockOf (wordAddr 1020)) ∧ isPartnerReg (wordAddr 1020) = false)
    -- dt = 3, a = 4195320, data = 5, s = w1
    ∧ (Between w1 ∧ HostIdle w1 ∧ 4195320 % 4 = 0 ∧ rowAt (wordAddr 4195320) = none ∧ w1.img.applied = true ∧ prTarget w1 ≠ some (blockOf (wordAddr 4195320)) ∧ isPartnerReg (wordAddr 4195320) = false) := by
  simp only [HostIdle, Between]
  decide +kernel

theorem witness_AliasReadsNeverClear :
    -- dt = 3, a = 32, al = 1, s = st1
    (Between st1 ∧ HostIdle st1 ∧ 32 % 4 = 0 ∧ 32 / 2 ^ 18 % 4 = 0 ∧ 32 < 2 ^ 24 ∧ 1 ≤ 1 ∧ 1 ≤ 3)
    -- dt = 3, a = 4195076, al = 3, s = st1
    ∧ (Between st1 ∧ HostIdle st1 ∧ 4195076 % 4 = 0 ∧ 4195076 / 2 ^ 18 % 4 = 0 ∧ 4195076 < 2 ^ 24 ∧ 1 ≤ 3 ∧ 3 ≤ 3) := by
  simp only [HostIdle, Between]
  decide +kernel

theorem witness_ConfigurationWritesAreStoredAndFollowed :
    -- dt = 3, n = 3, r = 2, al = 0, data = 1516175363, s = w1
    (Between w1 ∧ 0 < 4 ∧ Open w1 4195120)
    ∧ (Between w1 ∧ 0 < 4 ∧ 3 < 16 ∧ Open w1 (4194304 + 32 * 3))
    ∧ (Between w1 ∧ 0 < 4 ∧ 3 < 16 ∧ 2 < 8 ∧ Open w1 (4194304 + 32 * 3 + 4 * 2))
    ∧ (Between w1 ∧ 0 < 4 ∧ 3 < 32 ∧ Open w1 (4194816 + 8 * 3))
    ∧ (Between w1 ∧ 0 < 4 ∧ 3 < 12 ∧ 2 < 6 ∧ unitSize w1 3 = 0 ∧ Open w1 (5242880 + 128 * 3 + 4 * 2))
    -- dt = 3, n = 3, r = 2, al = 0, data = 16387, s = w2
    ∧ (Between w2 ∧ 0 < 4 ∧ 3 < 12 ∧ 2 < 6 ∧ unitSize w2 3 = 0 ∧ Open w2 (5242880 + 128 * 3 + 4 * 2))
    -- dt = 3, n = 3, r = 2, al = 0, data = 1516175363, s = w1
    ∧ (Between w1 ∧ 0 < 4 ∧ 3 < 8 ∧ selBadSlot (Issued (6291456 + 64 * 3 + 0 * 2 ^ 18) 3 w1) 3 { addr := 6291456 + 64 * 3, data := aliasData 0 (liveWord (Issued (6291456 + 64 * 3 + 0 * 2 ^ 18) 3 w1) (6291456 + 64 * 3)) (1516175363 % 2 ^ 32) } = false ∧ Open w1 (6291456 + 64 * 3))
    ∧ (Between w1 ∧ 0 < 4 ∧ 3 < 8 ∧ Open w1 (6291460 + 64 * 3))
    ∧ (Between w1 ∧ 0 < 4 ∧ 3 < 8 ∧ 2 ≤ 2 ∧ 2 < 6 ∧ Open w1 (6291456 + 64 * 3 + 4 * 2))
    ∧ (Between w1 ∧ 0 < 4 ∧ 3 < 8 ∧ aliasData 0 (liveWord (Issued (6292516 + 128 * 3 + 0 * 2 ^ 18) 3 w1) (6292516 + 128 * 3)) (1516175363 % 2 ^ 32) / 2 ^ 30 % 4 ≤ 1 ∧ (aliasData 0 (liveWord (Issued (6292516 + 128 * 3 + 0 * 2 ^ 18) 3 w1) (6292516 + 128 * 3)) (1516175363 % 2 ^ 32) / 2 ^ 30 % 4 = 1 → rd w1 (SEL_DPLLd_SLEW_SLEW 3) ≠ 0) ∧ Open w1 (6292516 + 128 * 3))
    ∧ (Between w1 ∧ 0 < 4 ∧ 3 < 8 ∧ Open w1 (6292528 + 128 * 3))
    ∧ (Between w1 ∧ 0 < 4 ∧ commitRefused (Issued (7340416 + 0 * 2 ^ 18) 3 w1) (aliasData 0 (liveWord (Issued (7340416 + 0 * 2 ^ 18) 3 w1) 7340416) (1516175363 % 2 ^ 32) % 4) (aliasData 0 (liveWord (Issued (7340416 + 0 * 2 ^ 18) 3 w1) 7340416) (1516175363 % 2 ^ 32) / 2 ^ 16 % 2 ^ 16) ((aliasData 0 (liveWord (Issued (7340416 + 0 * 2 ^ 18) 3 w1) 7340416) (1516175363 % 2 ^ 32)).testBit 2) = true ∧ Open w1 7340416)
    ∧ (Between w1 ∧ 0 < 4 ∧ rd w1 (SEL_DPLLd_SLEW_SLEW (timeDpll w1)) ≠ 0 ∧ Open w1 8388676)
    -- dt = 3, n = 1, r = 2, al = 0, data = 3227451394, s = w3
    ∧ (Between w3 ∧ 0 < 4 ∧ rd w3 (SEL_DPLLd_SLEW_SLEW (timeDpll w3)) ≠ 0 ∧ Open w3 8388676)
    -- dt = 3, n = 3, r = 2, al = 0, data = 1516175363, s = w1
    ∧ (Between w1 ∧ 0 < 4 ∧ Open w1 8388680)
    ∧ (Between w1 ∧ 0 < 4 ∧ Open w1 9437448)
    ∧ (Between w1 ∧ 0 < 4 ∧ (rd w1 MNS_GT_CFG_EN ≠ 1 ∨ aliasData 0 (liveWord (Issued (9437440 + 0 * 2 ^ 18) 3 w1) 9437440) (1516175363 % 2 ^ 32) / 2 ^ 31 % 2 = rd w1 MNS_GCFG_GRID_F) ∧ Open w1 9437440)
    ∧ (Between w1 ∧ 0 < 4 ∧ 2 < 8 ∧ Open w1 (10485760 + 4 * 2))
    ∧ (Between w1 ∧ 0 < 4 ∧ Open w1 10485760)
    ∧ (Between w1 ∧ 0 < 4 ∧ 3 < 6 ∧ Open w1 (12583936 + 128 * 3))
    ∧ (Between w1 ∧ 0 < 4 ∧ 3 < 6 ∧ 2 < 25 ∧ (rowAt (12583936 + 128 * 3 + 4 * 2)).isSome = true ∧ Open w1 (12583936 + 128 * 3 + 4 * 2))
    ∧ (Between w1 ∧ 0 < 4 ∧ Open w1 12582912)
    ∧ (Between w1 ∧ 0 < 4 ∧ 3 < 4 ∧ Open w1 (13631488 + 64 * 3))
    ∧ (Between w1 ∧ 0 < 4 ∧ 3 < 4 ∧ 1 ≤ 2 ∧ 2 < 16 ∧ (rowAt (13631488 + 64 * 3 + 4 * 2)).isSome = true ∧ Open w1 (13631488 + 64 * 3 + 4 * 2))
    -- dt = 3, n = 3, r = 2, al = 3, data = 3227451394, s = w1
    ∧ (Between w1 ∧ 3 < 4 ∧ 3 < 8 ∧ (2 ≤ aliasData 3 (liveWord (Issued (6292516 + 128 * 3 + 3 * 2 ^ 18) 3 w1) (6292516 + 128 * 3)) (3227451394 % 2 ^ 32) / 2 ^ 30 % 4 ∨ aliasData 3 (liveWord (Issued (6292516 + 128 * 3 + 3 * 2 ^ 18) 3 w1) (6292516 + 128 * 3)) (3227451394 % 2 ^ 32) / 2 ^ 30 % 4 = 1 ∧ rd w1 (SEL_DPLLd_SLEW_SLEW 3) = 0) ∧ Open w1 (6292516 + 128 * 3))
    -- dt = 3, n = 1, r = 2, al = 0, data = 1516175363, s = w2
    ∧ (Between w2 ∧ 0 < 4 ∧ rd w2 (SEL_DPLLd_SLEW_SLEW (timeDpll w2)) = 0 ∧ Open w2 8388676)
    -- dt = 3, n = 1, r = 2, al = 1, data = 3227451395, s = w2
    ∧ (Between w2 ∧ 1 < 4 ∧ rd w2 MNS_GT_CFG_EN = 1 ∧ aliasData 1 (liveWord (Issued (9437440 + 1 * 2 ^ 18) 3 w2) 9437440) (3227451395 % 2 ^ 32) / 2 ^ 31 % 2 ≠ rd w2 MNS_GCFG_GRID_F ∧ rd w2 IMG_STATUS_STATE ≠ 3 ∧ Open w2 9437440)
    -- dt = 3, n = 1, r = 2, al = 0, data = 3227451394, s = w3
    ∧ (Between w3 ∧ 0 < 4 ∧ rd w3 MNS_GT_CFG_EN = 1 ∧ aliasData 0 (liveWord (Issued (9437440 + 0 * 2 ^ 18) 3 w3) 9437440) (3227451394 % 2 ^ 32) / 2 ^ 31 % 2 ≠ rd w3 MNS_GCFG_GRID_F ∧ rd w3 IMG_STATUS_STATE ≠ 3 ∧ Open w3 9437440)
    -- dt = 3, n = 0, r = 2, al = 0, data = 16387, s = w3
    ∧ (Between w3 ∧ 0 < 4 ∧ 0 < 12 ∧ 2 < 6 ∧ unitSize w3 0 ≠ 0 ∧ Open w3 (5242880 + 128 * 0 + 4 * 2)) := by
  simp only [Open, HostIdle, Between]
  decide +kernel

end WC

namespace WC3

def st1 : State := { base with img := { base.img with pinmux := [(11*32+17,1)] } }
def st2 : State := { base with img := { base.img with pinmux := [(11*32+17,1)] } }

theorem witness_ConfigurationWritesAreStoredAndFollowed_2 :
    -- dt = 3, n = 3, r = 2, al = 0, data = 2147483648, s = base
    (Between base ∧ 0 < 4 ∧ Open base 4195120)
    ∧ (Between base ∧ 0 < 4 ∧ 3 < 16 ∧ Open base (4194304 + 32 * 3))
    ∧ (Between base ∧ 0 < 4 ∧ 3 < 16 ∧ 2 < 8 ∧ Open base (4194304 + 32 * 3 + 4 * 2))
    ∧ (Between base ∧ 0 < 4 ∧ 3 < 32 ∧ Open base (4194816 + 8 * 3))
    ∧ (Between base ∧ 0 < 4 ∧ 3 < 8 ∧ Open base (6291460 + 64 * 3))
    ∧ (Between base ∧ 0 < 4 ∧ 3 < 8 ∧ 2 ≤ 2 ∧ 2 < 6 ∧ Open base (6291456 + 64 * 3 + 4 * 2))
    ∧ (Between base ∧ 0 < 4 ∧ 3 < 8 ∧ Open base (6292528 + 128 * 3))
    ∧ (Between base ∧ 0 < 4 ∧ Open base 8388680)
    ∧ (Between base ∧ 0 < 4 ∧ Open base 9437448)
    ∧ (Between base ∧ 0 < 4 ∧ 2 < 8 ∧ Open base (10485760 + 4 * 2))
    ∧ (Between base ∧ 0 < 4 ∧ Open base 10485760)
    ∧ (Between base ∧ 0 < 4 ∧ 3 < 6 ∧ Open base (12583936 + 128 * 3))
    ∧ (Between base ∧ 0 < 4 ∧ 3 < 6 ∧ 2 < 25 ∧ (rowAt (12583936 + 128 * 3 + 4 * 2)).isSome = true ∧ Open base (12583936 + 128 * 3 + 4 * 2))
    ∧ (Between base ∧ 0 < 4 ∧ Open base 12582912)
    ∧ (Between base ∧ 0 < 4 ∧ 3 < 4 ∧ Open base (13631488 + 64 * 3))
    ∧ (Between base ∧ 0 < 4 ∧ 3 < 4 ∧ 1 ≤ 2 ∧ 2 < 16 ∧ (rowAt (13631488 + 64 * 3 + 4 * 2)).isSome = true ∧ Open base (13631488 + 64 * 3 + 4 * 2))
    ∧ (Between base ∧ 0 < 4 ∧ 3 < 12 ∧ 2 < 6 ∧ unitSize base 3 ≠ 0 ∧ Open base (5242880 + 128 * 3 + 4 * 2))
    -- dt = 3, n = 3, r = 2, al = 0, data = 1073741824, s = st1
    ∧ (Between st1 ∧ 0 < 4 ∧ 3 < 8 ∧ selBadSlot (Issued (6291456 + 64 * 3 + 0 * 2 ^ 18) 3 st1) 3 { addr := 6291456 + 64 * 3, data := aliasData 0 (liveWord (Issued (6291456 + 64 * 3 + 0 * 2 ^ 18) 3 st1) (6291456 + 64 * 3)) (1073741824 % 2 ^ 32) } = true ∧ Open st1 (6291456 + 64 * 3)) := by
  simp only [Open, HostIdle, Between]
  decide +kernel

theorem witness_ClocksAndTheOven :
    -- dt = 3, n = 3, s = st2
    (Between st2 ∧ st2.rst.phase = SeqPhase.run ∧ (3 < if rd st2 RST_STRAP_CLKMODE = 1 then 15 else if rd st2 RST_STRAP_CLKMODE = 2 then 30 else 6) ∧ rd st2 GEN_CLKSTAT_SYSCLK_PRES = 1)
    ∧ (Between st2 ∧ st2.rst.phase = SeqPhase.run ∧ rd st2 GEN_CLKSTAT_CORE_LOCK = 1)
    ∧ (Between st2 ∧ st2.rst.phase = SeqPhase.run ∧ ballOff st2 ocxoBall = true)
    ∧ (Between st2 ∧ st2.rst.phase = SeqPhase.run ∧ (¬rd st2 REF_SYSCLK_CLASS = 3)) := by
  simp only [Between]
  decide +kernel

end WC3

namespace WD

def w1 : State := { base with img := { base.img with struct_ := { base.img.struct_ with pmGang := 4, dpllCand := List.replicate 8 0xE000FFFF } } , syn := vset base.syn 3 { (ix base.syn 3) with live := { refmode := 0, mint := 500, mfrac := 0, frame := 1000 } } }

theorem witness_ConfigurationWritesAreStoredAndFollowed_3 :
    -- dt = 3, n = 3, r = 2, al = 0, data = 3, s = w1
    (Between w1 ∧ 0 < 4 ∧ 3 < 8 ∧ selBadSlot (Issued (6291456 + 64 * 3 + 0 * 2 ^ 18) 3 w1) 3 { addr := 6291456 + 64 * 3, data := aliasData 0 (liveWord (Issued (6291456 + 64 * 3 + 0 * 2 ^ 18) 3 w1) (6291456 + 64 * 3)) (3 % 2 ^ 32) } = false ∧ Open w1 (6291456 + 64 * 3))
    ∧ (Between w1 ∧ 0 < 4 ∧ 3 < 8 ∧ aliasData 0 (liveWord (Issued (6292516 + 128 * 3 + 0 * 2 ^ 18) 3 w1) (6292516 + 128 * 3)) (3 % 2 ^ 32) / 2 ^ 30 % 4 ≤ 1 ∧ (aliasData 0 (liveWord (Issued (6292516 + 128 * 3 + 0 * 2 ^ 18) 3 w1) (6292516 + 128 * 3)) (3 % 2 ^ 32) / 2 ^ 30 % 4 = 1 → rd w1 (SEL_DPLLd_SLEW_SLEW 3) ≠ 0) ∧ Open w1 (6292516 + 128 * 3))
    -- dt = 3, n = 3, r = 2, al = 0, data = 1074855939, s = w1
    ∧ (Between w1 ∧ 0 < 4 ∧ commitRefused (Issued (7340416 + 0 * 2 ^ 18) 3 w1) (aliasData 0 (liveWord (Issued (7340416 + 0 * 2 ^ 18) 3 w1) 7340416) (1074855939 % 2 ^ 32) % 4) (aliasData 0 (liveWord (Issued (7340416 + 0 * 2 ^ 18) 3 w1) 7340416) (1074855939 % 2 ^ 32) / 2 ^ 16 % 2 ^ 16) ((aliasData 0 (liveWord (Issued (7340416 + 0 * 2 ^ 18) 3 w1) 7340416) (1074855939 % 2 ^ 32)).testBit 2) = true ∧ Open w1 7340416)
    -- dt = 3, n = 3, r = 2, al = 0, data = 3, s = w1
    ∧ (Between w1 ∧ 0 < 4 ∧ (rd w1 MNS_GT_CFG_EN ≠ 1 ∨ aliasData 0 (liveWord (Issued (9437440 + 0 * 2 ^ 18) 3 w1) 9437440) (3 % 2 ^ 32) / 2 ^ 31 % 2 = rd w1 MNS_GCFG_GRID_F) ∧ Open w1 9437440)
    -- dt = 3, n = 3, r = 2, al = 0, data = 1074855939, s = w1
    ∧ (Between w1 ∧ 0 < 4 ∧ 3 < 8 ∧ (2 ≤ aliasData 0 (liveWord (Issued (6292516 + 128 * 3 + 0 * 2 ^ 18) 3 w1) (6292516 + 128 * 3)) (1074855939 % 2 ^ 32) / 2 ^ 30 % 4 ∨ aliasData 0 (liveWord (Issued (6292516 + 128 * 3 + 0 * 2 ^ 18) 3 w1) (6292516 + 128 * 3)) (1074855939 % 2 ^ 32) / 2 ^ 30 % 4 = 1 ∧ rd w1 (SEL_DPLLd_SLEW_SLEW 3) = 0) ∧ Open w1 (6292516 + 128 * 3))
    ∧ (Between w1 ∧ 0 < 4 ∧ rd w1 (SEL_DPLLd_SLEW_SLEW (timeDpll w1)) = 0 ∧ Open w1 8388676)
    ∧ (Between w1 ∧ 0 < 4 ∧ 3 < 8 ∧ selBadSlot (Issued (6291456 + 64 * 3 + 0 * 2 ^ 18) 3 w1) 3 { addr := 6291456 + 64 * 3, data := aliasData 0 (liveWord (Issued (6291456 + 64 * 3 + 0 * 2 ^ 18) 3 w1) (6291456 + 64 * 3)) (1074855939 % 2 ^ 32) } = true ∧ Open w1 (6291456 + 64 * 3))
    -- dt = 3, n = 3, r = 2, al = 0, data = 3, s = w1
    ∧ (Between w1 ∧ 0 < 4 ∧ commitRefused (Issued (7340416 + 0 * 2 ^ 18) 3 w1) (aliasData 0 (liveWord (Issued (7340416 + 0 * 2 ^ 18) 3 w1) 7340416) (3 % 2 ^ 32) % 4) (aliasData 0 (liveWord (Issued (7340416 + 0 * 2 ^ 18) 3 w1) 7340416) (3 % 2 ^ 32) / 2 ^ 16 % 2 ^ 16) ((aliasData 0 (liveWord (Issued (7340416 + 0 * 2 ^ 18) 3 w1) 7340416) (3 % 2 ^ 32)).testBit 2) = false ∧ Open w1 7340416) := by
  simp only [Open, HostIdle, Between]
  decide +kernel

end WD

namespace WE

def m1 : State := base |> put GEN_MODESTAT_EFFECTIVE 0x28
def m2 : State := m1 |> put GEN_MODE_MODE_SE 1 |> put GEN_LOCK_SE_LOCK 1
def m3 : State := m1 |> put GEN_MODESTAT_BUSY 1
def seqSt (i : Nat) (e : Bool) (rest : List (Nat × Bool)) : State := { (put GEN_MODESTAT_EFFECTIVE 0x58 base |> put GEN_MODESTAT_IN_TRANSIT 0xFF |> put GEN_MODESTAT_BUSY 1) with gen := { base.gen with todo := (i, e) :: rest } }
def rest0 : List (Nat × Bool) := []
def rest1 : List (Nat × Bool) := [(7, true)]
def st1 : State := seqSt 3 true []
def st2 : State := seqSt 6 true []
def st4 : State := modGen (fun g => { g with iso := vset g.iso 15 .isolated }) (seqSt 6 false rest1)
def st5 : State := put IMG_STATUS_STATE 9 (seqSt 6 false rest1)
def st8 : State := (seqSt 4 false [])
def is (p : IsoPhase) (b : Nat) : State := modGen (fun g => { g with iso := vset g.iso b p }) (put GEN_MODESTAT_EFFECTIVE 0x40 base |> put GEN_ISOLATE_ISO_DONE 0x403)
def isos : State := modGen (fun g => { g with iso := vset (vset (vset (vset g.iso 4 .isolating) 5 .isolated) 6 .releasing) 14 .releasingAgain }) (put GEN_MODESTAT_EFFECTIVE 0x40 base)
def st9 : State := put GEN_MODESTAT_IN_TRANSIT 0x40 isos
def st10 : State := is .isolating 14
def st12 : State := is .releasingAgain 14
def clk (c : Nat) (pres pass : Nat) : State := { (put RST_STRAP_CLKMODE c base |> put REF_SYSCLK_CLASS c |> put GEN_CLKSTAT_SYSCLK_PRES pres) with clk := { base.clk with pass := pass } }
def st13 : State := clk 0 0 6
def st14 : State := clk 1 0 7
def st15 : State := clk 2 1 8
def st16 : State := clk 3 1 8
def cl5 : State := put GEN_CLKSTAT_CORE_FROZEN 1 (put GEN_CLKSTAT_RCLK_OK 1 (clk 3 1 8)) |> put REF_SYSCLK_WARM_MAX 500
def st17 : State := { (put IMG_STATUS_STATE 9 (is .releasing 4)) with mram := [(bankAt 1 + 0x22, 4)], img := { base.img with dl := 96 } }
def st18 : State := modGen (fun g => { g with iso := vset g.iso 4 .isolating, isoAt := vset g.isoAt 4 1 }) (put GEN_MODESTAT_EFFECTIVE 0x40 base)
def st19 : State := { cl5 with img := { cl5.img with spareOk := false } }
def st20 : State := { cl5 with clk := { cl5.clk with warmRun := true, rdy := true } }
def st21 : State := { cl5 with clk := { cl5.clk with warmRun := true, rdy := false } }

theorem witness_ClocksAndTheOven_2 :
    -- dt = 3, n = 0, s = st21
    (Between st21 ∧ st21.rst.phase = SeqPhase.run ∧ (0 < if rd st21 RST_STRAP_CLKMODE = 1 then 15 else if rd st21 RST_STRAP_CLKMODE = 2 then 30 else 6) ∧ rd st21 GEN_CLKSTAT_SYSCLK_PRES = 1)
    -- dt = 3, n = 3, s = st21
    ∧ (Between st21 ∧ st21.rst.phase = SeqPhase.run ∧ rd st21 GEN_CLKSTAT_CORE_LOCK = 1)
    -- dt = 3, n = 5, s = st15
    ∧ (Between st15 ∧ st15.rst.phase = SeqPhase.run ∧ (¬rd st15 REF_SYSCLK_CLASS = 3))
    -- dt = 3, n = 5, s = st13
    ∧ (Between st13 ∧ st13.rst.phase = SeqPhase.run ∧ (5 < if rd st13 RST_STRAP_CLKMODE = 1 then 15 else if rd st13 RST_STRAP_CLKMODE = 2 then 30 else 6) ∧ rd st13 GEN_CLKSTAT_SYSCLK_PRES = 0)
    -- dt = 3, n = 14, s = st14
    ∧ (Between st14 ∧ st14.rst.phase = SeqPhase.run ∧ (14 < if rd st14 RST_STRAP_CLKMODE = 1 then 15 else if rd st14 RST_STRAP_CLKMODE = 2 then 30 else 6) ∧ rd st14 GEN_CLKSTAT_SYSCLK_PRES = 0)
    -- dt = 3, n = 5, s = st13
    ∧ (Between st13 ∧ st13.rst.phase = SeqPhase.run ∧ ballOff st13 ocxoBall = false)
    -- dt = 3, n = 3, s = st21
    ∧ (Between st21 ∧ st21.rst.phase = SeqPhase.run ∧ ballOff st21 ocxoBall = false)
    -- dt = 3, n = 5, s = st16
    ∧ (Between st16 ∧ st16.rst.phase = SeqPhase.run ∧ rd st16 REF_SYSCLK_CLASS = 3 ∧ st16.clk.warmRun = false ∧ rd st16 REF_SYSCLK_WARMING = 0 ∧ rd st16 GEN_CLKSTAT_SYSCLK_PRES = 1)
    -- dt = 3, n = 3, s = cl5
    ∧ (Between cl5 ∧ cl5.rst.phase = SeqPhase.run ∧ rd cl5 REF_SYSCLK_CLASS = 3 ∧ cl5.clk.warmRun = false ∧ rd cl5 REF_SYSCLK_WARMING = 0 ∧ rd cl5 GEN_CLKSTAT_SYSCLK_PRES = 1)
    -- dt = 3, n = 6, s = st13
    ∧ (Between st13 ∧ st13.rst.phase = SeqPhase.run ∧ ((if rd st13 RST_STRAP_CLKMODE = 1 then 15 else if rd st13 RST_STRAP_CLKMODE = 2 then 30 else 6) ≤ 6) ∧ (st13.clk.pass < 7 ∨ rd st13 GEN_CLKSTAT_SYSCLK_PRES = 1))
    -- dt = 3, n = 50000, s = st21
    ∧ (Between st21 ∧ st21.rst.phase = SeqPhase.run ∧ ((if rd st21 RST_STRAP_CLKMODE = 1 then 15 else if rd st21 RST_STRAP_CLKMODE = 2 then 30 else 6) ≤ 50000) ∧ (st21.clk.pass < 7 ∨ rd st21 GEN_CLKSTAT_SYSCLK_PRES = 1))
    -- dt = 3, n = 15, s = st14
    ∧ (Between st14 ∧ st14.rst.phase = SeqPhase.run ∧ ((if rd st14 RST_STRAP_CLKMODE = 1 then 15 else if rd st14 RST_STRAP_CLKMODE = 2 then 30 else 6) ≤ 15) ∧ 7 ≤ st14.clk.pass ∧ rd st14 GEN_CLKSTAT_SYSCLK_PRES = 0)
    -- dt = 3, n = 62500, s = st14
    ∧ (Between st14 ∧ st14.rst.phase = SeqPhase.run ∧ ((if rd st14 RST_STRAP_CLKMODE = 1 then 15 else if rd st14 RST_STRAP_CLKMODE = 2 then 30 else 6) ≤ 62500) ∧ 7 ≤ st14.clk.pass ∧ rd st14 GEN_CLKSTAT_SYSCLK_PRES = 0)
    -- dt = 3, n = 3, s = st19
    ∧ (Between st19 ∧ st19.rst.phase = SeqPhase.run ∧ rd st19 GEN_CLKSTAT_CORE_LOCK = 1 ∧ rd st19 GEN_CLKSTAT_CORE_FROZEN = 1)
    -- dt = 3, n = 3, s = st21
    ∧ (Between st21 ∧ st21.rst.phase = SeqPhase.run ∧ rd st21 GEN_CLKSTAT_CORE_LOCK = 1 ∧ rd st21 GEN_CLKSTAT_CORE_FROZEN = 1)
    -- dt = 3, n = 3, s = st20
    ∧ (Between st20 ∧ st20.rst.phase = SeqPhase.run ∧ st20.clk.warmRun = true ∧ st20.clk.rdy = true ∧ max st20.clk.warmAt st20.clk.rdyAt + secU ≤ st20.clk.warmAt + rd st20 REF_SYSCLK_WARM_MAX * secU)
    -- dt = 3, n = 3, s = st21
    ∧ (Between st21 ∧ st21.rst.phase = SeqPhase.run ∧ st21.clk.warmRun = true ∧ st21.clk.rdy = false) := by
  simp only [Between]
  decide +kernel

theorem witness_ModeWriteBeginsItsSequences :
    -- dt = 3, data = 296, s = m1
    (Between m1 ∧ HostIdle m1 ∧ m1.img.applied = true ∧ rd m1 GEN_MODESTAT_BUSY = 0 ∧ (rd m1 GEN_LOCK_SE_LOCK = 0 ∨ 296 % 256 / 128 = rd m1 GEN_MODE_MODE_SE) ∧ List.map (fun i => (i, false)) (List.filter (fun i => (rd m1 GEN_MODESTAT_EFFECTIVE).testBit i && !(296 % 256).testBit i) [4, 3, 5, 0, 1, 2, 6, 7]) ++ List.map (fun i => (i, true)) (List.filter (fun i => (296 % 256).testBit i && !(rd m1 GEN_MODESTAT_EFFECTIVE).testBit i) [7, 6, 2, 1, 0, 5, 3, 4]) = [])
    -- dt = 3, data = 193, s = m1
    ∧ (Between m1 ∧ HostIdle m1 ∧ m1.img.applied = true ∧ rd m1 GEN_MODESTAT_BUSY = 0 ∧ (rd m1 GEN_LOCK_SE_LOCK = 0 ∨ 193 % 256 / 128 = rd m1 GEN_MODE_MODE_SE) ∧ List.map (fun i => (i, false)) (List.filter (fun i => (rd m1 GEN_MODESTAT_EFFECTIVE).testBit i && !(193 % 256).testBit i) [4, 3, 5, 0, 1, 2, 6, 7]) ++ List.map (fun i => (i, true)) (List.filter (fun i => (193 % 256).testBit i && !(rd m1 GEN_MODESTAT_EFFECTIVE).testBit i) [7, 6, 2, 1, 0, 5, 3, 4]) ≠ [])
    -- dt = 3, data = 8, s = st18
    ∧ (Between st18 ∧ HostIdle st18 ∧ st18.img.applied = true ∧ rd st18 GEN_MODESTAT_BUSY = 0 ∧ (rd st18 GEN_LOCK_SE_LOCK = 0 ∨ 8 % 256 / 128 = rd st18 GEN_MODE_MODE_SE) ∧ List.map (fun i => (i, false)) (List.filter (fun i => (rd st18 GEN_MODESTAT_EFFECTIVE).testBit i && !(8 % 256).testBit i) [4, 3, 5, 0, 1, 2, 6, 7]) ++ List.map (fun i => (i, true)) (List.filter (fun i => (8 % 256).testBit i && !(rd st18 GEN_MODESTAT_EFFECTIVE).testBit i) [7, 6, 2, 1, 0, 5, 3, 4]) ≠ [])
    -- dt = 3, data = 296, s = m2
    ∧ (Between m2 ∧ HostIdle m2 ∧ m2.img.applied = true ∧ (rd m2 GEN_MODESTAT_BUSY = 1 ∨ rd m2 GEN_MODESTAT_BUSY = 0 ∧ rd m2 GEN_LOCK_SE_LOCK = 1 ∧ rd m2 GEN_MODE_MODE_SE = 1 ∧ 296 % 256 < 128))
    -- dt = 3, data = 193, s = m3
    ∧ (Between m3 ∧ HostIdle m3 ∧ m3.img.applied = true ∧ (rd m3 GEN_MODESTAT_BUSY = 1 ∨ rd m3 GEN_MODESTAT_BUSY = 0 ∧ rd m3 GEN_LOCK_SE_LOCK = 1 ∧ rd m3 GEN_MODE_MODE_SE = 1 ∧ 193 % 256 < 128)) := by
  simp only [HostIdle, Between]
  decide +kernel

theorem witness_ModeSequenceCompletes :
    -- dt = 3, i = 3, entry = true, rest = rest0, s = st1
    (Between st1 ∧ st1.gen.todo = (3, true) :: rest0 ∧ 3 < 8 ∧ (¬(3 = 6 ∧ true = false ∧ ((∃ b < 16, ix st1.gen.iso b ≠ IsoPhase.none) ∨ 7 ≤ rd st1 IMG_STATUS_STATE ∧ rd st1 IMG_STATUS_STATE ≤ 9))))
    -- dt = 3, i = 4, entry = false, rest = rest0, s = st8
    ∧ (Between st8 ∧ st8.gen.todo = (4, false) :: rest0 ∧ 4 < 8 ∧ (¬(4 = 6 ∧ false = false ∧ ((∃ b < 16, ix st8.gen.iso b ≠ IsoPhase.none) ∨ 7 ≤ rd st8 IMG_STATUS_STATE ∧ rd st8 IMG_STATUS_STATE ≤ 9))))
    -- dt = 3, i = 3, entry = true, rest = rest0, s = st1
    ∧ (Between st1 ∧ st1.gen.todo = (3, true) :: rest0 ∧ 3 < 8 ∧ (¬(3 = 6 ∧ true = false ∧ ((∃ b < 16, ix st1.gen.iso b ≠ IsoPhase.none) ∨ 7 ≤ rd st1 IMG_STATUS_STATE ∧ rd st1 IMG_STATUS_STATE ≤ 9))) ∧ (3 = 3 ∨ 3 = 6 ∧ true = true) ∧ rest0 = [])
    -- dt = 3, i = 6, entry = true, rest = rest0, s = st2
    ∧ (Between st2 ∧ st2.gen.todo = (6, true) :: rest0 ∧ 6 < 8 ∧ (¬(6 = 6 ∧ true = false ∧ ((∃ b < 16, ix st2.gen.iso b ≠ IsoPhase.none) ∨ 7 ≤ rd st2 IMG_STATUS_STATE ∧ rd st2 IMG_STATUS_STATE ≤ 9))) ∧ (6 = 3 ∨ 6 = 6 ∧ true = true) ∧ rest0 = [])
    -- dt = 3, i = 6, entry = false, rest = rest1, s = st4
    ∧ (Between st4 ∧ st4.gen.todo = (6, false) :: rest1 ∧ 6 < 8 ∧ (6 = 6 ∧ false = false ∧ ((∃ b < 16, ix st4.gen.iso b ≠ IsoPhase.none) ∨ 7 ≤ rd st4 IMG_STATUS_STATE ∧ rd st4 IMG_STATUS_STATE ≤ 9)))
    -- dt = 3, i = 6, entry = false, rest = rest1, s = st5
    ∧ (Between st5 ∧ st5.gen.todo = (6, false) :: rest1 ∧ 6 < 8 ∧ (6 = 6 ∧ false = false ∧ ((∃ b < 16, ix st5.gen.iso b ≠ IsoPhase.none) ∨ 7 ≤ rd st5 IMG_STATUS_STATE ∧ rd st5 IMG_STATUS_STATE ≤ 9))) := by
  simp only [Between]
  decide +kernel

theorem witness_BlocksAreIsolatedAndReleased :
    -- dt = 3, b = 4, data = 4294967280, s = isos
    (Between isos ∧ HostIdle isos ∧ isos.img.applied = true ∧ (rd isos GEN_MODESTAT_EFFECTIVE).testBit 6 = true ∧ (rd isos GEN_MODESTAT_IN_TRANSIT).testBit 6 = false)
    -- dt = 3, b = 4, data = 0, s = st17
    ∧ (Between st17 ∧ HostIdle st17 ∧ st17.img.applied = true ∧ (rd st17 GEN_MODESTAT_EFFECTIVE).testBit 6 = true ∧ (rd st17 GEN_MODESTAT_IN_TRANSIT).testBit 6 = false)
    -- dt = 3, b = 4, data = 4294967280, s = isos
    ∧ (Between isos ∧ 4 ≤ 4 ∧ 4 ≤ 14 ∧ ix isos.gen.iso 4 = IsoPhase.isolating)
    -- dt = 3, b = 14, data = 16464, s = st10
    ∧ (Between st10 ∧ 4 ≤ 14 ∧ 14 ≤ 14 ∧ ix st10.gen.iso 14 = IsoPhase.isolating)
    -- dt = 3, b = 4, data = 4294967280, s = isos
    ∧ (Between isos ∧ HostIdle isos)
    -- dt = 3, b = 4, data = 0, s = st17
    ∧ (Between st17 ∧ HostIdle st17)
    -- dt = 3, b = 14, data = 16464, s = st9
    ∧ (Between st9 ∧ HostIdle st9 ∧ st9.img.applied = true ∧ ((rd st9 GEN_MODESTAT_EFFECTIVE).testBit 6 = false ∨ (rd st9 GEN_MODESTAT_IN_TRANSIT).testBit 6 = true))
    ∧ (Between st9 ∧ 4 ≤ 14 ∧ 14 ≤ 14 ∧ (ix st9.gen.iso 14 = IsoPhase.releasing ∨ ix st9.gen.iso 14 = IsoPhase.releasingAgain) ∧ prTarget st9 ≠ some 14)
    -- dt = 3, b = 14, data = 16464, s = st12
    ∧ (Between st12 ∧ 4 ≤ 14 ∧ 14 ≤ 14 ∧ (ix st12.gen.iso 14 = IsoPhase.releasing ∨ ix st12.gen.iso 14 = IsoPhase.releasingAgain) ∧ prTarget st12 ≠ some 14)
    -- dt = 3, b = 4, data = 0, s = st17
    ∧ (Between st17 ∧ prTarget st17 = some 4) := by
  simp only [HostIdle, Between]
  decide +kernel

end WE

namespace WE2

def rs (m : Nat) : State := { base with sec := { base.sec with sensed := m * 2 ^ (8 * 0xBC + 2) }, host := { base.host with posted := [{ addr := 0x18, size := 4, data := 5 }], holdHi := some 4 } }
def st1 : State := rs 0
def st2 : State := rs 1
def st3 : State := rs 2
def rp : State := { base with rst := { base.rst with por := true, low := vset base.rst.low 3 true, porEnd := some 70, fltEnd := some 9 } }
def rp2 : State := { base with rst := { base.rst with por := true, low := vset (vset base.rst.low 3 true) 10 true } }
def st4 : State := { rp with rst := { rp.rst with porEnd := none } }
def bks : List Nat := [3300,1800,2500,2900,2000,1999,2901]
def h0 : State := { base with rst := { base.rst with phase := .hold 0, level := 0, holdEnd := 99 }, mram := [(3, 4)], cram := [(2,5)] } |> put GEN_IRQ_EN_EN 77 |> put SYN_STAT_COMMIT_PEND 1
def h2 : State := { h0 with rst := { h0.rst with phase := .hold 2, level := 2 } }
def hw (l : Nat) : State := { h0 with rst := { h0.rst with phase := .wait, level := l }, otp := 2^5 }
def st5 : State := hw 2
def st6 : State := hw 0
def h1a : State := { h0 with aon := { h0.aon with val := [(5, 6)] } }

theorem witness_ResetSourcesBeginASequence :
    -- dt = 3, i = 0, n = 4, mv = 500, s = st1
    (Between st1 ∧ 4 ≤ 4 ∧ st1.rst.phase = SeqPhase.run ∧ st1.rst.pin = false ∧ st1.host.curAt ≠ cycleOf (st1.now + 3) + 1 ∧ resetMap st1 1 = 0)
    -- dt = 3, i = 3, n = 9, mv = 500, s = st4
    ∧ (Between st4 ∧ 4 ≤ 9 ∧ st4.rst.phase = SeqPhase.run ∧ st4.rst.pin = false ∧ st4.host.curAt ≠ cycleOf (st4.now + 3) + 1 ∧ resetMap st4 1 = 0)
    -- dt = 3, i = 0, n = 4, mv = 500, s = st1
    ∧ (Between st1 ∧ 4 ≤ 4)
    -- dt = 3, i = 3, n = 9, mv = 500, s = st4
    ∧ (Between st4 ∧ 4 ≤ 9)
    -- dt = 3, i = 0, n = 4, mv = 500, s = st1
    ∧ (Between st1 ∧ 500 ≤ [740, 830, 1650, 1650].getD 0 1550)
    -- dt = 3, i = 0, n = 9, mv = 735, s = st4
    ∧ (Between st4 ∧ 735 ≤ [740, 830, 1650, 1650].getD 0 1550)
    -- dt = 3, i = 0, n = 4, mv = 500, s = st1
    ∧ (Between st1 ∧ 0 < 11 ∧ 500 < [720, 810, 1600, 1600].getD 0 1500 ∧ st1.rst.phase = SeqPhase.run ∧ st1.rst.por = false ∧ st1.nvm.save = none)
    -- dt = 3, i = 10, n = 4, mv = 1400, s = st3
    ∧ (Between st3 ∧ 10 < 11 ∧ 1400 < [720, 810, 1600, 1600].getD 10 1500 ∧ st3.rst.phase = SeqPhase.run ∧ st3.rst.por = false ∧ st3.nvm.save = none)
    -- dt = 3, i = 0, n = 4, mv = 500, s = st2
    ∧ (Between st2 ∧ 4 ≤ 4 ∧ st2.rst.phase = SeqPhase.run ∧ st2.rst.pin = false ∧ st2.host.curAt ≠ cycleOf (st2.now + 3) + 1 ∧ (resetMap st2 1 = 1 ∨ resetMap st2 1 = 2))
    -- dt = 3, i = 0, n = 4, mv = 500, s = st3
    ∧ (Between st3 ∧ 4 ≤ 4 ∧ st3.rst.phase = SeqPhase.run ∧ st3.rst.pin = false ∧ st3.host.curAt ≠ cycleOf (st3.now + 3) + 1 ∧ (resetMap st3 1 = 1 ∨ resetMap st3 1 = 2))
    -- dt = 3, i = 0, n = 4, mv = 1400, s = st1
    ∧ (Between st1 ∧ [720, 810, 1600, 1600].getD 0 1500 ≤ 1400)
    -- dt = 3, i = 0, n = 9, mv = 1700, s = st4
    ∧ (Between st4 ∧ [720, 810, 1600, 1600].getD 0 1500 ≤ 1700)
    -- dt = 3, i = 0, n = 3, mv = 500, s = st1
    ∧ (Between st1 ∧ 3 < 4)
    -- dt = 3, i = 0, n = 3, mv = 500, s = st3
    ∧ (Between st3 ∧ 3 < 4)
    -- dt = 3, i = 3, n = 9, mv = 500, s = rp, d = 70
    ∧ (Between rp ∧ rp.rst.porEnd = some 70)
    -- dt = 3, i = 3, n = 9, mv = 500, s = rp, d = 9
    ∧ (Between rp ∧ rp.rst.fltEnd = some 9)
    -- dt = 3, i = 3, n = 9, mv = 500, s = st4, d = 9
    ∧ (Between st4 ∧ st4.rst.fltEnd = some 9)
    -- dt = 3, i = 3, n = 9, mv = 1700, s = rp2
    ∧ (Between rp2 ∧ 3 < 11 ∧ [740, 830, 1650, 1650].getD 3 1550 < 1700 ∧ rp2.rst.por = true ∧ rp2.rst.porEnd = none)
    -- dt = 3, i = 0, n = 9, mv = 1700, s = st4
    ∧ (Between st4 ∧ 0 < 11 ∧ [740, 830, 1650, 1650].getD 0 1550 < 1700 ∧ st4.rst.por = true ∧ st4.rst.porEnd = none) := by
  simp only [Between]
  decide +kernel

theorem witness_ResetLevelsDoWhatTheyReach :
    -- dt = 3, s1 = 22, s2 = 21, s3 = 7, banks = bks, s = h0
    (Between h0 ∧ h0.rst.phase = SeqPhase.hold 0 ∧ h0.rst.level = 0)
    -- dt = 3, s1 = 22, s2 = 21, s3 = 7, banks = bks, s = h1a
    ∧ (Between h1a ∧ h1a.rst.phase = SeqPhase.hold 0 ∧ h1a.rst.level = 0)
    -- dt = 3, s1 = 22, s2 = 21, s3 = 7, banks = bks, s = h0
    ∧ (Between h0)
    -- dt = 3, s1 = 22, s2 = 21, s3 = 7, banks = bks, s = h1a
    ∧ (Between h1a)
    -- dt = 3, s1 = 22, s2 = 21, s3 = 7, banks = bks, s = h2
    ∧ (Between h2 ∧ h2.rst.phase = SeqPhase.hold 2 ∧ h2.rst.level = 2 ∧ rd h2 IMG_STATUS_STATE = 4 ∧ rd h2 FLT_STAT_STATE ≠ 2)
    -- dt = 3, s1 = 22, s2 = 21, s3 = 7, banks = bks, s = st5
    ∧ (Between st5 ∧ st5.rst.phase = SeqPhase.wait ∧ st5.rst.por = false ∧ st5.rst.pin = false ∧ st5.rst.flt = false ∧ st5.rst.level = 2 ∧ st5.flt.corrupt = false)
    -- dt = 3, s1 = 22, s2 = 21, s3 = 7, banks = bks, s = st6
    ∧ (Between st6 ∧ st6.rst.phase = SeqPhase.wait ∧ st6.rst.por = false ∧ st6.rst.pin = false ∧ st6.rst.flt = false ∧ st6.rst.level = 0) := by
  simp only [Between]
  decide +kernel

end WE2

namespace WG

def imgBytes : List Byte := leBytes 96 0xA000F0080A8F20802000000080000005000000402000000000000000000000000000000000000000000000000BB1B15D700FF0000000000000000000000001234000000007120000100000060000004014E594C59
def partBytes : List Byte := leBytes 96 0xA000F0080A8F2080200000008000000500000040200000000000000000000000000000000000000000000000099E3AF340004FF00000000000000000000001234000000007120000100000060000404014E594C59
def bankOf (b : Nat) (l : List Byte) : List Host.Cell := ((List.range l.length).map (fun i => (bankAt b + i, l.getD i 0))).filter (fun c => c.2 != 0)
def st (n : Nat) : State := put IMG_STATUS_STATE n base
def boot (b : Nat) : State := { put RST_STRAP_BOOT b (put SEC_STAT_STATE 1 (st 0)) with nvm := { base.nvm with loaded := true }, sec := { base.sec with ready := true } }
def by0 : List Byte := [0xFF, 0xFF, 0xFF, 0xFF, 0]
def st1 : State := boot 0
def st4 : State := { boot 1 with img := { base.img with reapply := true } }
def fl1 : State := { st 1 with img := { base.img with src := 1 } }
def p1 : State := { st 2 with mram := bankOf 0 imgBytes }
def p1c1 : State := { st 2 with img := { base.img with cand := 1 } }
def st5 : State := st 2
def p2 : State := { st 3 with mram := bankOf 0 imgBytes }
def dl5 (n : Nat) : State := { put IMG_STATUS_RUN_BANK 1 (st 5) with img := { base.img with dl := n, dlService := true }, mram := bankOf 0 imgBytes }
def st6 : State := put IMG_LOCK_LOCK 1 base
def st8 : State := dl5 4
def st9 : State := dl5 96
def st10 : State := dl5 8
def st11 : State := put IMG_STATUS_STATE 6 (dl5 0)
def st12 : State := st 6
def nq (c : Nat) : Nat := 0
def cm : State := put IMG_STATUS_SPARE_VALID 1 base
def st13 : State := put GEN_MODESTAT_EFFECTIVE 0x40 base
def st14 : State := st 7
def pr8 : State := put GEN_ISOLATE_ISO_DONE 1 (put IMG_STATUS_RUN_BANK 1 { st 8 with mram := bankOf 0 partBytes })
def st16 : State := put GEN_ISOLATE_ISO_DONE 0 pr8
def pr9 (sh : Shadow) : State := put IMG_STATUS_PR_BLOCK 4 { st 9 with img := { base.img with shadow := some sh } }
def sh1 : Shadow := { recs := [{ addr := 0x400200, be := 15, val := 9, seg := 0 }] }
def sh2 : Shadow := { recs := [{ addr := 0x8, be := 15, val := 0x80, seg := 0 }] }
def st17 : State := pr9 sh1
def st18 : State := st 15
def lk : State := put GEN_LOCK_SE_LOCK 1 (pr9 sh2)
def rr : Nat × Nat := (1, 255)
def st19 : State := st 8
def st20 : State := st 6
def st21 : State := st 2

theorem witness_BootTakesACandidateImage :
    -- dt = 3, bytes = imgBytes, s = st1
    (Between st1 ∧ rd st1 IMG_STATUS_STATE = 0 ∧ st1.rst.phase = SeqPhase.run ∧ rd st1 GEN_CLKSTAT_CORE_LOCK = 1 ∧ rd st1 GEN_CLKSTAT_SYSCLK_PRES = 1 ∧ st1.nvm.loaded = true ∧ (st1.sec.ready = true ∨ rd st1 SEC_STAT_STATE = 2))
    -- dt = 3, bytes = imgBytes, s = st4
    ∧ (Between st4 ∧ rd st4 IMG_STATUS_STATE = 0 ∧ st4.rst.phase = SeqPhase.run ∧ rd st4 GEN_CLKSTAT_CORE_LOCK = 1 ∧ rd st4 GEN_CLKSTAT_SYSCLK_PRES = 1 ∧ st4.nvm.loaded = true ∧ (st4.sec.ready = true ∨ rd st4 SEC_STAT_STATE = 2))
    -- dt = 3, bytes = imgBytes, s = fl1
    ∧ (Between fl1 ∧ rd fl1 IMG_STATUS_STATE = 1 ∧ List.take 4 imgBytes ≠ [255, 255, 255, 255] ∧ rd fl1 IMG_STATUS_PTR ≠ spareBank fl1)
    -- dt = 3, bytes = by0, s = fl1
    ∧ (Between fl1 ∧ rd fl1 IMG_STATUS_STATE = 1 ∧ List.take 4 by0 = [255, 255, 255, 255] ∧ fl1.img.cand = 0 ∧ fl1.img.src = 1 ∧ fl1.img.reapply = false ∧ fl1.img.recovery = false)
    -- dt = 3, bytes = by0, s = p1
    ∧ (Between p1 ∧ rd p1 IMG_STATUS_STATE = 2 ∧ bankBytes (Machine.pass 3 p1) (candBank (Machine.pass 3 p1)) = bankBytes (Machine.pass 3 p1) (candBank (Machine.pass 3 p1)) ∧ pass1 (checkEnv (Machine.pass 3 p1) (bankBytes (Machine.pass 3 p1) (candBank (Machine.pass 3 p1))) false false) false (bankBytes (Machine.pass 3 p1) (candBank (Machine.pass 3 p1))) = none)
    -- dt = 3, bytes = by0, s = st5
    ∧ (Between st5 ∧ rd st5 IMG_STATUS_STATE = 2 ∧ bankBytes (Machine.pass 3 st5) (candBank (Machine.pass 3 st5)) = bankBytes (Machine.pass 3 st5) (candBank (Machine.pass 3 st5)) ∧ pass1 (checkEnv (Machine.pass 3 st5) (bankBytes (Machine.pass 3 st5) (candBank (Machine.pass 3 st5))) false false) false (bankBytes (Machine.pass 3 st5) (candBank (Machine.pass 3 st5))) = some ((pass1 (checkEnv (Machine.pass 3 st5) (bankBytes (Machine.pass 3 st5) (candBank (Machine.pass 3 st5))) false false) false (bankBytes (Machine.pass 3 st5) (candBank (Machine.pass 3 st5)))).get!) ∧ st5.img.reapply = false ∧ st5.img.recovery = false ∧ st5.img.src ≠ 3 ∧ st5.img.cand = 0)
    -- dt = 3, bytes = by0, s = st21, r = rr
    ∧ (Between st21 ∧ rd st21 IMG_STATUS_STATE = 2 ∧ bankBytes (Machine.pass 3 st21) (candBank (Machine.pass 3 st21)) = bankBytes (Machine.pass 3 st21) (candBank (Machine.pass 3 st21)) ∧ pass1 (checkEnv (Machine.pass 3 st21) (bankBytes (Machine.pass 3 st21) (candBank (Machine.pass 3 st21))) false false) false (bankBytes (Machine.pass 3 st21) (candBank (Machine.pass 3 st21))) = some rr ∧ st21.img.reapply = false ∧ st21.img.recovery = false ∧ st21.img.src ≠ 3 ∧ st21.img.cand = 0)
    -- dt = 3, bytes = by0, s = p1c1
    ∧ (Between p1c1 ∧ rd p1c1 IMG_STATUS_STATE = 2 ∧ bankBytes (Machine.pass 3 p1c1) (candBank (Machine.pass 3 p1c1)) = bankBytes (Machine.pass 3 p1c1) (candBank (Machine.pass 3 p1c1)) ∧ pass1 (checkEnv (Machine.pass 3 p1c1) (bankBytes (Machine.pass 3 p1c1) (candBank (Machine.pass 3 p1c1))) false false) false (bankBytes (Machine.pass 3 p1c1) (candBank (Machine.pass 3 p1c1))) = some ((pass1 (checkEnv (Machine.pass 3 p1c1) (bankBytes (Machine.pass 3 p1c1) (candBank (Machine.pass 3 p1c1))) false false) false (bankBytes (Machine.pass 3 p1c1) (candBank (Machine.pass 3 p1c1)))).get!) ∧ p1c1.img.reapply = false ∧ p1c1.img.recovery = false ∧ p1c1.img.src ≠ 3 ∧ p1c1.img.cand ≠ 0)
    -- dt = 3, bytes = by0, s = p1c1, r = rr
    ∧ (Between p1c1 ∧ rd p1c1 IMG_STATUS_STATE = 2 ∧ bankBytes (Machine.pass 3 p1c1) (candBank (Machine.pass 3 p1c1)) = bankBytes (Machine.pass 3 p1c1) (candBank (Machine.pass 3 p1c1)) ∧ pass1 (checkEnv (Machine.pass 3 p1c1) (bankBytes (Machine.pass 3 p1c1) (candBank (Machine.pass 3 p1c1))) false false) false (bankBytes (Machine.pass 3 p1c1) (candBank (Machine.pass 3 p1c1))) = some rr ∧ p1c1.img.reapply = false ∧ p1c1.img.recovery = false ∧ p1c1.img.src ≠ 3 ∧ p1c1.img.cand ≠ 0)
    -- dt = 3, bytes = by0, s = p2
    ∧ (Between p2 ∧ rd p2 IMG_STATUS_STATE = 3 ∧ p2.img.reapply = false ∧ p2.img.recovery = false ∧ bankBytes (Machine.pass 3 p2) (candBank (Machine.pass 3 p2)) = bankBytes (Machine.pass 3 p2) (candBank (Machine.pass 3 p2)) ∧ pass2Fault (bankBytes (Machine.pass 3 p2) (candBank (Machine.pass 3 p2))) (segments (Machine.pass 3 p2) (bankBytes (Machine.pass 3 p2) (candBank (Machine.pass 3 p2)))) = none ∧ p2.img.work = none ∧ (∀ c ∈ cfgRecs (segments (Machine.pass 3 p2) (bankBytes (Machine.pass 3 p2) (candBank (Machine.pass 3 p2)))), rwsGroupOf c.addr = none)) := by
  simp only [Between]
  decide +kernel

theorem witness_DownloadsGoToTheSpareBank :
    -- dt = 3, data = 305419896, s = base
    (Between base ∧ HostIdle base ∧ rd base IMG_STATUS_STATE = 4 ∧ rd base IMG_LOCK_LOCK = 0)
    -- dt = 3, data = 305419896, s = cm
    ∧ (Between cm ∧ HostIdle cm ∧ rd cm IMG_STATUS_STATE = 4 ∧ rd cm IMG_LOCK_LOCK = 0)
    -- dt = 3, data = 305419896, s = base
    ∧ (Between base ∧ HostIdle base ∧ rd base IMG_STATUS_STATE < 5)
    -- dt = 3, data = 305419896, s = cm
    ∧ (Between cm ∧ HostIdle cm ∧ rd cm IMG_STATUS_STATE < 5)
    -- dt = 3, data = 305419896, s = base
    ∧ (Between base ∧ HostIdle base)
    -- dt = 3, data = 4, s = st20
    ∧ (Between st20 ∧ HostIdle st20)
    -- dt = 3, data = 305419896, s = st6
    ∧ (Between st6 ∧ HostIdle st6 ∧ (rd st6 IMG_STATUS_STATE ≠ 4 ∨ rd st6 IMG_LOCK_LOCK = 1))
    -- dt = 3, data = 4, s = st20
    ∧ (Between st20 ∧ HostIdle st20 ∧ (rd st20 IMG_STATUS_STATE ≠ 4 ∨ rd st20 IMG_LOCK_LOCK = 1))
    -- dt = 3, data = 305419896, s = st8
    ∧ (Between st8 ∧ HostIdle st8 ∧ (rd st8 IMG_STATUS_STATE = 5 ∨ rd st8 IMG_STATUS_STATE = 7 ∨ rd st8 IMG_STATUS_STATE = 15) ∧ st8.img.dl + 4 ≤ min 98304 (dlLen (Machine.pass 3 st8)) ∧ (st8.img.dl ≠ 0 ∨ rd st8 IMG_STATUS_PTR ≠ spareBank st8))
    -- dt = 3, data = 4, s = st18
    ∧ (Between st18 ∧ HostIdle st18 ∧ (rd st18 IMG_STATUS_STATE = 5 ∨ rd st18 IMG_STATUS_STATE = 7 ∨ rd st18 IMG_STATUS_STATE = 15) ∧ st18.img.dl + 4 ≤ min 98304 (dlLen (Machine.pass 3 st18)) ∧ (st18.img.dl ≠ 0 ∨ rd st18 IMG_STATUS_PTR ≠ spareBank st18))
    -- dt = 3, data = 305419896, s = st8
    ∧ (Between st8 ∧ HostIdle st8 ∧ rd st8 IMG_STATUS_STATE = 5 ∧ st8.img.dlService = true ∧ st8.img.dl ≠ dlLen (Machine.pass 3 st8))
    -- dt = 3, data = 305419896, s = st10
    ∧ (Between st10 ∧ HostIdle st10 ∧ rd st10 IMG_STATUS_STATE = 5 ∧ st10.img.dlService = true ∧ st10.img.dl ≠ dlLen (Machine.pass 3 st10))
    -- dt = 3, data = 305419896, s = st8
    ∧ (Between st8 ∧ HostIdle st8 ∧ rd st8 IMG_STATUS_STATE = 5 ∧ st8.img.dlService = true)
    -- dt = 3, data = 305419896, s = st10
    ∧ (Between st10 ∧ HostIdle st10 ∧ rd st10 IMG_STATUS_STATE = 5 ∧ st10.img.dlService = true)
    -- dt = 3, data = 305419896, s = st9
    ∧ (Between st9 ∧ HostIdle st9 ∧ rd st9 IMG_STATUS_STATE = 5 ∧ st9.img.dlService = true ∧ min 98304 (dlLen (Machine.pass 3 st9)) < st9.img.dl + 4)
    ∧ (Between st9 ∧ HostIdle st9 ∧ rd st9 IMG_STATUS_STATE = 5 ∧ st9.img.dlService = true ∧ st9.img.dl = dlLen (Machine.pass 3 st9))
    -- dt = 3, data = 305419896, s = st11, l = bankBytes (Machine.pass 3 st11) (spareBank st11)
    ∧ (Between st11 ∧ HostIdle st11 ∧ rd st11 IMG_STATUS_STATE = 6 ∧ bankBytes (Machine.pass 3 st11) (spareBank st11) = bankBytes (Machine.pass 3 st11) (spareBank st11) ∧ pass1 (checkEnv (Machine.pass 3 st11) (bankBytes (Machine.pass 3 st11) (spareBank st11)) true false) true (bankBytes (Machine.pass 3 st11) (spareBank st11)) = none)
    -- dt = 3, data = 305419896, s = st12, l = bankBytes (Machine.pass 3 st12) (spareBank st12)
    ∧ (Between st12 ∧ HostIdle st12 ∧ rd st12 IMG_STATUS_STATE = 6 ∧ bankBytes (Machine.pass 3 st12) (spareBank st12) = bankBytes (Machine.pass 3 st12) (spareBank st12) ∧ pass1 (checkEnv (Machine.pass 3 st12) (bankBytes (Machine.pass 3 st12) (spareBank st12)) true false) true (bankBytes (Machine.pass 3 st12) (spareBank st12)) = some ((pass1 (checkEnv (Machine.pass 3 st12) (bankBytes (Machine.pass 3 st12) (spareBank st12)) true false) true (bankBytes (Machine.pass 3 st12) (spareBank st12))).get!))
    -- dt = 3, data = 4, s = st20, l = bankBytes (Machine.pass 3 st20) (spareBank st20), r = rr
    ∧ (Between st20 ∧ HostIdle st20 ∧ rd st20 IMG_STATUS_STATE = 6 ∧ bankBytes (Machine.pass 3 st20) (spareBank st20) = bankBytes (Machine.pass 3 st20) (spareBank st20) ∧ pass1 (checkEnv (Machine.pass 3 st20) (bankBytes (Machine.pass 3 st20) (spareBank st20)) true false) true (bankBytes (Machine.pass 3 st20) (spareBank st20)) = some rr)
    -- dt = 3, data = 305419896, s = cm, q = nq
    ∧ (Between cm ∧ HostIdle cm ∧ rd cm IMG_STATUS_STATE = 4 ∧ rd cm IMG_LOCK_LOCK = 0 ∧ rd cm IMG_STATUS_SPARE_VALID = 1)
    -- dt = 3, data = 4, s = st18
    ∧ (Between st18 ∧ HostIdle st18 ∧ rd st18 IMG_STATUS_STATE = 15 ∧ st18.img.dl = 0) := by
  simp only [HostIdle, Between]
  decide +kernel

theorem witness_PartialReloadStepsToItsCommitCycle :
    -- dt = 3, s = st13
    (Between st13 ∧ HostIdle st13 ∧ rd st13 IMG_STATUS_STATE = 4 ∧ rd st13 IMG_LOCK_LOCK = 0 ∧ (rd st13 GEN_MODESTAT_EFFECTIVE).testBit 6 = true ∧ rd st13 IMG_STATUS_PTR ≠ spareBank st13)
    ∧ (Between st13 ∧ HostIdle st13 ∧ rd st13 IMG_STATUS_STATE < 7)
    -- dt = 3, s = base
    ∧ (Between base ∧ HostIdle base ∧ rd base IMG_STATUS_STATE < 7)
    ∧ (Between base ∧ HostIdle base ∧ (rd base IMG_STATUS_STATE ≠ 4 ∨ rd base IMG_LOCK_LOCK = 1 ∨ (rd base GEN_MODESTAT_EFFECTIVE).testBit 6 = false))
    -- dt = 3, s = st19
    ∧ (Between st19 ∧ HostIdle st19 ∧ (rd st19 IMG_STATUS_STATE ≠ 4 ∨ rd st19 IMG_LOCK_LOCK = 1 ∨ (rd st19 GEN_MODESTAT_EFFECTIVE).testBit 6 = false))
    -- dt = 3, s = st14
    ∧ (Between st14 ∧ HostIdle st14 ∧ 7 ≤ rd st14 IMG_STATUS_STATE ∧ rd st14 IMG_STATUS_STATE ≤ 9)
    -- dt = 3, s = st19
    ∧ (Between st19 ∧ HostIdle st19 ∧ 7 ≤ rd st19 IMG_STATUS_STATE ∧ rd st19 IMG_STATUS_STATE ≤ 9)
    -- dt = 3, s = pr8, l = bankBytes (Machine.pass 3 pr8) (spareBank pr8)
    ∧ (Between pr8 ∧ HostIdle pr8 ∧ rd pr8 IMG_STATUS_STATE = 8 ∧ bankBytes (Machine.pass 3 pr8) (spareBank pr8) = bankBytes (Machine.pass 3 pr8) (spareBank pr8) ∧ pass1 (checkEnv (put IMG_STATUS_PR_BLOCK (headerOf (bankBytes (Machine.pass 3 pr8) (spareBank pr8))).pBlock (Machine.pass 3 pr8)) (bankBytes (Machine.pass 3 pr8) (spareBank pr8)) false true) true (bankBytes (Machine.pass 3 pr8) (spareBank pr8)) = none)
    -- dt = 3, s = st16, l = bankBytes (Machine.pass 3 st16) (spareBank st16)
    ∧ (Between st16 ∧ HostIdle st16 ∧ rd st16 IMG_STATUS_STATE = 8 ∧ bankBytes (Machine.pass 3 st16) (spareBank st16) = bankBytes (Machine.pass 3 st16) (spareBank st16) ∧ pass1 (checkEnv (put IMG_STATUS_PR_BLOCK (headerOf (bankBytes (Machine.pass 3 st16) (spareBank st16))).pBlock (Machine.pass 3 st16)) (bankBytes (Machine.pass 3 st16) (spareBank st16)) false true) true (bankBytes (Machine.pass 3 st16) (spareBank st16)) = some ((pass1 (checkEnv (put IMG_STATUS_PR_BLOCK (headerOf (bankBytes (Machine.pass 3 st16) (spareBank st16))).pBlock (Machine.pass 3 st16)) (bankBytes (Machine.pass 3 st16) (spareBank st16)) false true) true (bankBytes (Machine.pass 3 st16) (spareBank st16))).get!))
    -- dt = 3, s = st19, l = bankBytes (Machine.pass 3 st19) (spareBank st19), r = rr
    ∧ (Between st19 ∧ HostIdle st19 ∧ rd st19 IMG_STATUS_STATE = 8 ∧ bankBytes (Machine.pass 3 st19) (spareBank st19) = bankBytes (Machine.pass 3 st19) (spareBank st19) ∧ pass1 (checkEnv (put IMG_STATUS_PR_BLOCK (headerOf (bankBytes (Machine.pass 3 st19) (spareBank st19))).pBlock (Machine.pass 3 st19)) (bankBytes (Machine.pass 3 st19) (spareBank st19)) false true) true (bankBytes (Machine.pass 3 st19) (spareBank st19)) = some rr)
    -- dt = 3, s = st17, sh = sh1
    ∧ (Between st17 ∧ HostIdle st17 ∧ rd st17 IMG_STATUS_STATE = 9 ∧ st17.img.shadow = some sh1 ∧ (lockedRec sh1.recs (Machine.pass 3 st17)).isSome = false)
    -- dt = 3, s = lk, sh = sh2
    ∧ (Between lk ∧ HostIdle lk ∧ rd lk IMG_STATUS_STATE = 9 ∧ lk.img.shadow = some sh2 ∧ (lockedRec sh2.recs (Machine.pass 3 lk)).isSome = true) := by
  simp only [HostIdle, Between]
  decide +kernel

/-- the pointer sequence of DownloadsGoToTheSpareBank, for the MRAM without a valid copy -/
theorem witness_DownloadsGoToTheSpareBank_q : ∀ c, nq c = ((pointerCopy cm c).map (fun p => p.2)).getD 0 := by
  intro c
  have h : mrdList cm (pageAt 0x300 + 16 * c) 16 = List.replicate 16 memDefault := rfl
  unfold pointerCopy nq
  rw [h]
  decide +kernel

end WG

namespace WRef

def by0 : List Byte := [1,2,3]
def zda : List Byte := [36, 71, 80, 90, 68, 65, 44, 49, 50, 48, 48, 48, 48, 46, 48, 48, 44, 48, 49, 44, 48, 50, 44, 50, 48, 50, 52, 44, 48, 48, 44, 48, 48, 42, 54, 50, 13, 10]
def rmc : List Byte := leBytes 63 0xA0D38352A412C2C2C3432323031302C302E302C302E302C452C30302E30303030302C4E2C30302E303030302C412C30302E3030303032312C434D52504724
def pin (x : PinS) (b : Nat) (set_ clr : Nat) : State := modPin 15 (fun _ => x) (base |> put (REF_INn_CFG_EN 15) 1 |> put (REF_INn_NOM_NOM 15) 640000 |> put (REF_INn_ACT_TOL 15) 10 |> put (REF_INn_ACT_SET 15) set_ |> put (REF_INn_ACT_CLR 15) clr |> put (REF_INn_ACT_LEAK 15) 2 |> put (REF_INn_STAT_BUCKET 15) b |> put (REF_INn_STAT_ACT_OK 15) 1)
def x0 : PinS := { run := true, last := some 0, good := 1, miss := 10000000000000 }
def st1 : State := pin {x0 with skip := 2} 3 4 2
def st2 : State := pin x0 3 4 2
def st5 : State := put (REF_INn_STAT_ACT_OK 15) 0 (pin x0 3 8 2)
def tod (src : Nat) : State := base |> put (REF_TODk_CFG_EN 1) 1 |> put (REF_TODk_CFG_SRC 1) src |> put (REF_TODk_STAT_ERRCNT 1) 255
def st6 : State := tod 1
def st7 : State := tod 2
def qs : State := put (REF_SLOTs_STAT_STATE 31) 1 { base with slot := vset base.slot 31 { srcOk := true, srcQl := 2, qualEnd := some 9 } }
def st8 : State := { base with todr := vset base.todr 1 { labelEnd := some 9 } }

theorem witness_InputMonitorsClassifyEveryInterval :
    -- dt = secU / 10000, n = 15, leg = true, rise = true, s = st1
    (Between st1 ∧ 15 < 16 ∧ (ix st1.pin 15).run = true ∧ rd st1 (REF_INn_ACT_SET 15) < 256 ∧ rd st1 (REF_INn_STAT_BUCKET 15) < 256 ∧ live st1 4 = true ∧ ((2 < tabGet st1.img.iostd (512 + 15) 3 ∨ true = on st1 (REF_INn_CFG_LEG 15)) ∧ true ≠ on st1 (REF_INn_CFG_POL 15) ∧ ballOff st1 (inBall 15) = false) ∧ 0 < (ix st1.pin 15).skip)
    -- dt = secU / 10000, n = 15, leg = false, rise = true, s = st1
    ∧ (Between st1 ∧ 15 < 16 ∧ (ix st1.pin 15).run = true ∧ rd st1 (REF_INn_ACT_SET 15) < 256 ∧ rd st1 (REF_INn_STAT_BUCKET 15) < 256 ∧ live st1 4 = true ∧ ((2 < tabGet st1.img.iostd (512 + 15) 3 ∨ false = on st1 (REF_INn_CFG_LEG 15)) ∧ true ≠ on st1 (REF_INn_CFG_POL 15) ∧ ballOff st1 (inBall 15) = false) ∧ 0 < (ix st1.pin 15).skip)
    -- dt = secU / 10000, n = 15, leg = true, rise = true, s = st1
    ∧ (Between st1 ∧ 15 < 16 ∧ (ix st1.pin 15).run = true ∧ rd st1 (REF_INn_ACT_SET 15) < 256 ∧ rd st1 (REF_INn_STAT_BUCKET 15) < 256 ∧ (ix st1.pin 15).last ≠ none)
    -- dt = secU / 10000, n = 15, leg = true, rise = true, s = st5
    ∧ (Between st5 ∧ 15 < 16 ∧ (ix st5.pin 15).run = true ∧ rd st5 (REF_INn_ACT_SET 15) < 256 ∧ rd st5 (REF_INn_STAT_BUCKET 15) < 256 ∧ (ix st5.pin 15).last ≠ none)
    -- dt = secU / 10000, n = 15, leg = true, rise = true, s = st2, l = 0
    ∧ (Between st2 ∧ 15 < 16 ∧ (ix st2.pin 15).run = true ∧ rd st2 (REF_INn_ACT_SET 15) < 256 ∧ rd st2 (REF_INn_STAT_BUCKET 15) < 256 ∧ live st2 4 = true ∧ ((2 < tabGet st2.img.iostd (512 + 15) 3 ∨ true = on st2 (REF_INn_CFG_LEG 15)) ∧ true ≠ on st2 (REF_INn_CFG_POL 15) ∧ ballOff st2 (inBall 15) = false) ∧ (ix st2.pin 15).skip = 0 ∧ rd st2 (REF_INn_PH_THR 15) = 0 ∧ (ix st2.pin 15).last = some 0)
    -- dt = secU / 10000, n = 15, leg = false, rise = true, s = st5, l = 0
    ∧ (Between st5 ∧ 15 < 16 ∧ (ix st5.pin 15).run = true ∧ rd st5 (REF_INn_ACT_SET 15) < 256 ∧ rd st5 (REF_INn_STAT_BUCKET 15) < 256 ∧ live st5 4 = true ∧ ((2 < tabGet st5.img.iostd (512 + 15) 3 ∨ false = on st5 (REF_INn_CFG_LEG 15)) ∧ true ≠ on st5 (REF_INn_CFG_POL 15) ∧ ballOff st5 (inBall 15) = false) ∧ (ix st5.pin 15).skip = 0 ∧ rd st5 (REF_INn_PH_THR 15) = 0 ∧ (ix st5.pin 15).last = some 0)
    -- dt = secU / 10000, n = 15, leg = true, rise = false, s = st1
    ∧ (Between st1 ∧ 15 < 16 ∧ (ix st1.pin 15).run = true ∧ rd st1 (REF_INn_ACT_SET 15) < 256 ∧ rd st1 (REF_INn_STAT_BUCKET 15) < 256 ∧ (¬((2 < tabGet st1.img.iostd (512 + 15) 3 ∨ true = on st1 (REF_INn_CFG_LEG 15)) ∧ false ≠ on st1 (REF_INn_CFG_POL 15) ∧ ballOff st1 (inBall 15) = false)))
    -- dt = secU / 10000, n = 15, leg = false, rise = false, s = st5
    ∧ (Between st5 ∧ 15 < 16 ∧ (ix st5.pin 15).run = true ∧ rd st5 (REF_INn_ACT_SET 15) < 256 ∧ rd st5 (REF_INn_STAT_BUCKET 15) < 256 ∧ (¬((2 < tabGet st5.img.iostd (512 + 15) 3 ∨ false = on st5 (REF_INn_CFG_LEG 15)) ∧ false ≠ on st5 (REF_INn_CFG_POL 15) ∧ ballOff st5 (inBall 15) = false))) := by
  simp only [Between]
  decide +kernel

theorem witness_SlotsQualifyAndLabelsAreRead :
    -- dt = 4, i = 7, k = 1, bytes = by0, s = st6
    (Between st6 ∧ 1 < 2 ∧ ballOff st6 (todRxBall 1) = false ∧ (∀ t ∈ (ix st6.todr 1).labelEnd, cycleOf (st6.now + 4) < cycleOf t) ∧ rd st6 (REF_TODk_CFG_EN 1) = 1 ∧ rd st6 (REF_TODk_STAT_CFG_ERR 1) = 0 ∧ live st6 4 = true ∧ parseNmea by0 = none)
    -- dt = 4, i = 7, k = 1, bytes = by0, s = st7
    ∧ (Between st7 ∧ 1 < 2 ∧ ballOff st7 (todRxBall 1) = false ∧ (∀ t ∈ (ix st7.todr 1).labelEnd, cycleOf (st7.now + 4) < cycleOf t) ∧ rd st7 (REF_TODk_CFG_EN 1) = 1 ∧ rd st7 (REF_TODk_STAT_CFG_ERR 1) = 0 ∧ live st7 4 = true ∧ parseNmea by0 = none)
    -- dt = 4, i = 7, k = 1, bytes = zda, s = st6, l = 3413577600
    ∧ (Between st6 ∧ 1 < 2 ∧ ballOff st6 (todRxBall 1) = false ∧ (∀ t ∈ (ix st6.todr 1).labelEnd, cycleOf (st6.now + 4) < cycleOf t) ∧ rd st6 (REF_TODk_CFG_EN 1) = 1 ∧ rd st6 (REF_TODk_STAT_CFG_ERR 1) = 0 ∧ live st6 4 = true ∧ parseNmea zda = some (Sentence.zda 3413577600) ∧ rd st6 (REF_TODk_CFG_SRC 1) = 1)
    -- dt = 4, i = 7, k = 1, bytes = rmc, s = st7, l = 3413577600, fix = 1
    ∧ (Between st7 ∧ 1 < 2 ∧ ballOff st7 (todRxBall 1) = false ∧ (∀ t ∈ (ix st7.todr 1).labelEnd, cycleOf (st7.now + 4) < cycleOf t) ∧ rd st7 (REF_TODk_CFG_EN 1) = 1 ∧ rd st7 (REF_TODk_STAT_CFG_ERR 1) = 0 ∧ live st7 4 = true ∧ parseNmea rmc = some (Sentence.rmc 3413577600 1) ∧ rd st7 (REF_TODk_CFG_SRC 1) = 2 ∧ 1 < 16)
    -- dt = 4, i = 31, k = 1, bytes = by0, s = qs, t = 9
    ∧ (Between qs ∧ 31 < 32 ∧ (ix qs.slot 31).qualEnd = some 9 ∧ rd qs (REF_SLOTs_STAT_STATE 31) = 1 ∧ slotMay (advanceTo 9 qs) 31 = true)
    -- dt = 4, i = 31, k = 1, bytes = by0, s = st8, t = 9
    ∧ (Between st8 ∧ 1 < 2 ∧ (ix st8.todr 1).labelEnd = some 9) := by
  simp only [Between]
  decide +kernel

end WRef

namespace WPmu

def ub (mode st : Nat) (u : UnitS) (sl : SliceS) : State :=
  cc { (base |> put (PMU_PMn_CFG_MODE 11) mode |> put (PMU_PMn_CFG_EN 11) 1 |> put (PMU_PMn_STAT_STATE 11) st |> put (PMU_PMn_WPOST_WPOST 11) 1000 |> put (PMU_PMn_WPRE_WPRE 11) 100
      |> put (PMU_PMn_GATE_GATE 11) 10 |> put (PMU_PMn_CNT_EARLY 11) 65535 |> put (PMU_PMn_CNT_LOST_EDGE 11) 65534)
    with unit := vset base.unit 11 u, slice := vset base.slice 11 sl, img := { base.img with routes := [(267, 4), (283, 5)] } , pmu := { base.pmu with auto := true } }
def op (q : Nat) (u l : Bool) : UnitS := { pair := .open_ q u l }
def st1 : State := ub 0 2 { sq := { seq := 10, loss := true } } {}
def st2 : State := ub 1 2 { cntP := 3 } {}
def st4 : State := ub 0 2 {} { cap := some (6 * pmU) }
def st5 : State := ub 0 2 {} { cap := some (6 * pmU + 1) }
def st7 : State := ub 1 2 (op 100 true true) {}
def st9 : State := ub 1 2 { pair := .pend 7 false true } {}
def st10 : State := ub 1 2 { cntP := 3 } {}
def q_11 := positionOf (Machine.pass (10 * pmU) (ub 0 2 {} {})) 11 6 (coarseNow (Machine.pass (10 * pmU) (ub 0 2 {} {}))) + 3000
def st12 : State := ub 1 2 (op (positionOf (Machine.pass (10 * pmU) (ub 0 2 {} {})) 11 6 (coarseNow (Machine.pass (10 * pmU) (ub 0 2 {} {}))) + 3000) true true) {}
def st13 : State := ub 0 2 {} { cap := some (6 * pmU + 1) }
def gg1 : GateS := { u0 := 77, strA := { n := 2, u0 := 4, su := 10, siu := 40 }, strB := { n := 2 } }
def gg2 : GateS := { u0 := 77, strA := { n := 5, u0 := 4, su := 10, siu := 40 }, strB := { n := 6, u0 := 4, su := 10, siu := 50 } }
def gu : UnitS := { gate := some { u0 := 77, strA := { n := 2, u0 := 4, su := 10, siu := 40 }, strB := { n := 2 } } }
def st14 : State := ub 2 2 { gate := some { u0 := 77, strA := { n := 5, u0 := 4, su := 10, siu := 40 }, strB := { n := 6, u0 := 4, su := 10, siu := 50 } } } {}
def st15 : State := ub 2 2 gu {}
def st16 : State := ub 1 2 {} {}
def st17 : State := ub 0 0 {} {}
def e_18 := (0:Int)
def hist_22 := List.replicate 512 2048
def sums_23 : List Int := [1,2,3]
def st24 : State := put PMU_CALCFG_AGE_MAX 3 (ub 1 2 {} { good := 255, tabAt := some 9 })
def st25 : State := put (PMU_PMn_CALSTAT_LOOP_LOCK 11) 1 (ub 1 2 {} {})
def e_26 := (0:Int)
def hist_27 := List.replicate 512 2048
def sums_28 : List Int := [0, 4096*131072, -4096*131072]
def sums_29 : List Int := [0, 4096*131073]
def st30 : State := { (ub 1 2 {} {}) with pmu := { base.pmu with skewEnd := some 9 } }

theorem witness_EdgesAreStampedAndPaired :
    -- dt = 10 * pmU, b = 11, c = 600, rise = true, s = st1
    (Between st1 ∧ 11 < 12 ∧ unitSize st1 11 = 1 ∧ rd st1 (PMU_PMn_STAT_STATE 11) ≠ 0 ∧ (((if false = true then stopRoute st1 11 else startRoute st1 11) ≠ 255 ∧ routeOff st1 (if false = true then stopRoute st1 11 else startRoute st1 11) = false ∧ edgeTaken st1 11 (if false = true then stopRoute st1 11 else startRoute st1 11) false { tap := 600 } = true) ∧ (if false = true then (ix st1.unit 11).cntP else (ix st1.unit 11).cntS) = 0) ∧ (∀ t ∈ (ix st1.slice 11).cap, t + 4 * pmU ≤ st1.now + 10 * pmU) ∧ rd st1 (PMU_PMn_CFG_MODE 11) = 0 ∧ ((if false = true then stopRoute st1 11 else startRoute st1 11) < 48 ∨ 54 ≤ if false = true then stopRoute st1 11 else startRoute st1 11) ∧ (ix st1.unit 11).sq.recs.length < 128 ∧ (ix st1.unit 11).sq.last ≤ stampTime (Machine.pass (10 * pmU) st1) 11 (600 % 512) (startRoute st1 11) (coarseNow (Machine.pass (10 * pmU) st1)) ∧ (∀ p ∈ (ix st1.unit 11).sq.recs.getLast?, stampKind.before (mkStamp (stampTime (Machine.pass (10 * pmU) st1) 11 (600 % 512) (startRoute st1 11) (coarseNow (Machine.pass (10 * pmU) st1))) (sourceId (startRoute st1 11)) 0) p = false))
    -- dt = 10 * pmU, b = 11, c = 600, rise = true, s = st4
    ∧ (Between st4 ∧ 11 < 12 ∧ unitSize st4 11 = 1 ∧ rd st4 (PMU_PMn_STAT_STATE 11) ≠ 0 ∧ (((if false = true then stopRoute st4 11 else startRoute st4 11) ≠ 255 ∧ routeOff st4 (if false = true then stopRoute st4 11 else startRoute st4 11) = false ∧ edgeTaken st4 11 (if false = true then stopRoute st4 11 else startRoute st4 11) false { tap := 600 } = true) ∧ (if false = true then (ix st4.unit 11).cntP else (ix st4.unit 11).cntS) = 0) ∧ (∀ t ∈ (ix st4.slice 11).cap, t + 4 * pmU ≤ st4.now + 10 * pmU) ∧ rd st4 (PMU_PMn_CFG_MODE 11) = 0 ∧ ((if false = true then stopRoute st4 11 else startRoute st4 11) < 48 ∨ 54 ≤ if false = true then stopRoute st4 11 else startRoute st4 11) ∧ (ix st4.unit 11).sq.recs.length < 128 ∧ (ix st4.unit 11).sq.last ≤ stampTime (Machine.pass (10 * pmU) st4) 11 (600 % 512) (startRoute st4 11) (coarseNow (Machine.pass (10 * pmU) st4)) ∧ (∀ p ∈ (ix st4.unit 11).sq.recs.getLast?, stampKind.before (mkStamp (stampTime (Machine.pass (10 * pmU) st4) 11 (600 % 512) (startRoute st4 11) (coarseNow (Machine.pass (10 * pmU) st4))) (sourceId (startRoute st4 11)) 0) p = false))
    -- dt = 10 * pmU, b = 11, c = 600, rise = true, s = st2
    ∧ (Between st2 ∧ 11 < 12 ∧ unitSize st2 11 = 1 ∧ rd st2 (PMU_PMn_STAT_STATE 11) ≠ 0 ∧ (∀ t ∈ (ix st2.slice 11).cap, t + 4 * pmU ≤ st2.now + 10 * pmU) ∧ rd st2 (PMU_PMn_CFG_MODE 11) = 1 ∧ rd st2 (PMU_PMn_CFG_SQ_EN 11) = 0 ∧ (ix st2.unit 11).pair = PairSt.idle ∧ (((if false = true then stopRoute st2 11 else startRoute st2 11) ≠ 255 ∧ routeOff st2 (if false = true then stopRoute st2 11 else startRoute st2 11) = false ∧ edgeTaken st2 11 (if false = true then stopRoute st2 11 else startRoute st2 11) false { tap := 600 } = true) ∧ (if false = true then (ix st2.unit 11).cntP else (ix st2.unit 11).cntS) = 0))
    -- dt = 10 * pmU, b = 11, c = 6, rise = true, s = st10
    ∧ (Between st10 ∧ 11 < 12 ∧ unitSize st10 11 = 1 ∧ rd st10 (PMU_PMn_STAT_STATE 11) ≠ 0 ∧ (∀ t ∈ (ix st10.slice 11).cap, t + 4 * pmU ≤ st10.now + 10 * pmU) ∧ rd st10 (PMU_PMn_CFG_MODE 11) = 1 ∧ rd st10 (PMU_PMn_CFG_SQ_EN 11) = 0 ∧ (ix st10.unit 11).pair = PairSt.idle ∧ (((if false = true then stopRoute st10 11 else startRoute st10 11) ≠ 255 ∧ routeOff st10 (if false = true then stopRoute st10 11 else startRoute st10 11) = false ∧ edgeTaken st10 11 (if false = true then stopRoute st10 11 else startRoute st10 11) false { tap := 6 } = true) ∧ (if false = true then (ix st10.unit 11).cntP else (ix st10.unit 11).cntS) = 0))
    -- dt = 10 * pmU, b = 11, c = 600, rise = true, s = st2
    ∧ (Between st2 ∧ 11 < 12 ∧ unitSize st2 11 = 1 ∧ rd st2 (PMU_PMn_STAT_STATE 11) ≠ 0 ∧ rd st2 (PMU_PMn_CFG_MODE 11) ≠ 2 ∧ ((if true = true then stopRoute st2 11 else startRoute st2 11) ≠ 255 ∧ routeOff st2 (if true = true then stopRoute st2 11 else startRoute st2 11) = false ∧ edgeTaken st2 11 (if true = true then stopRoute st2 11 else startRoute st2 11) true { tap := 600 } = true) ∧ (ix st2.unit 11).cntP ≠ 0)
    -- dt = 10 * pmU, b = 11, c = 6, rise = true, s = st10
    ∧ (Between st10 ∧ 11 < 12 ∧ unitSize st10 11 = 1 ∧ rd st10 (PMU_PMn_STAT_STATE 11) ≠ 0 ∧ rd st10 (PMU_PMn_CFG_MODE 11) ≠ 2 ∧ ((if true = true then stopRoute st10 11 else startRoute st10 11) ≠ 255 ∧ routeOff st10 (if true = true then stopRoute st10 11 else startRoute st10 11) = false ∧ edgeTaken st10 11 (if true = true then stopRoute st10 11 else startRoute st10 11) true { tap := 6 } = true) ∧ (ix st10.unit 11).cntP ≠ 0)
    -- dt = 10 * pmU, b = 11, c = 600, rise = true, s = st5
    ∧ (Between st5 ∧ 11 < 12 ∧ unitSize st5 11 = 1 ∧ rd st5 (PMU_PMn_STAT_STATE 11) ≠ 0 ∧ (((if false = true then stopRoute st5 11 else startRoute st5 11) ≠ 255 ∧ routeOff st5 (if false = true then stopRoute st5 11 else startRoute st5 11) = false ∧ edgeTaken st5 11 (if false = true then stopRoute st5 11 else startRoute st5 11) false { tap := 600 } = true) ∧ (if false = true then (ix st5.unit 11).cntP else (ix st5.unit 11).cntS) = 0) ∧ rd st5 (PMU_PMn_CFG_MODE 11) = 0 ∧ (∃ t, (ix st5.slice 11).cap = some t ∧ st5.now + 10 * pmU < t + 4 * pmU))
    -- dt = 10 * pmU, b = 11, c = 6, rise = true, s = st13
    ∧ (Between st13 ∧ 11 < 12 ∧ unitSize st13 11 = 1 ∧ rd st13 (PMU_PMn_STAT_STATE 11) ≠ 0 ∧ (((if false = true then stopRoute st13 11 else startRoute st13 11) ≠ 255 ∧ routeOff st13 (if false = true then stopRoute st13 11 else startRoute st13 11) = false ∧ edgeTaken st13 11 (if false = true then stopRoute st13 11 else startRoute st13 11) false { tap := 6 } = true) ∧ (if false = true then (ix st13.unit 11).cntP else (ix st13.unit 11).cntS) = 0) ∧ rd st13 (PMU_PMn_CFG_MODE 11) = 0 ∧ (∃ t, (ix st13.slice 11).cap = some t ∧ st13.now + 10 * pmU < t + 4 * pmU))
    -- dt = 10 * pmU, b = 11, c = 600, rise = true, s = st7, q = 100, u = true, l = true
    ∧ (Between st7 ∧ 11 < 12 ∧ unitSize st7 11 = 1 ∧ rd st7 (PMU_PMn_STAT_STATE 11) ≠ 0 ∧ (∀ t ∈ (ix st7.slice 11).cap, t + 4 * pmU ≤ st7.now + 10 * pmU) ∧ rd st7 (PMU_PMn_CFG_MODE 11) = 1 ∧ rd st7 (PMU_PMn_CFG_SQ_EN 11) = 0 ∧ (ix st7.unit 11).pair = PairSt.open_ 100 true true ∧ posDiff (positionOf (Machine.pass (10 * pmU) st7) 11 (600 % 512) (coarseNow (Machine.pass (10 * pmU) st7))) 100 ≤ wPost st7 11 ∧ ((ix st7.unit 11).rq.recs.length < 32 ∧ (ix st7.unit 11).rq.last = 0) ∧ (((if true = true then stopRoute st7 11 else startRoute st7 11) ≠ 255 ∧ routeOff st7 (if true = true then stopRoute st7 11 else startRoute st7 11) = false ∧ edgeTaken st7 11 (if true = true then stopRoute st7 11 else startRoute st7 11) true { tap := 600 } = true) ∧ (if true = true then (ix st7.unit 11).cntP else (ix st7.unit 11).cntS) = 0))
    -- dt = 10 * pmU, b = 11, c = 6, rise = true, s = st12, q = q_11, u = true, l = true
    ∧ (Between st12 ∧ 11 < 12 ∧ unitSize st12 11 = 1 ∧ rd st12 (PMU_PMn_STAT_STATE 11) ≠ 0 ∧ (∀ t ∈ (ix st12.slice 11).cap, t + 4 * pmU ≤ st12.now + 10 * pmU) ∧ rd st12 (PMU_PMn_CFG_MODE 11) = 1 ∧ rd st12 (PMU_PMn_CFG_SQ_EN 11) = 0 ∧ (ix st12.unit 11).pair = PairSt.open_ q_11 true true ∧ posDiff (positionOf (Machine.pass (10 * pmU) st12) 11 (6 % 512) (coarseNow (Machine.pass (10 * pmU) st12))) q_11 ≤ wPost st12 11 ∧ ((ix st12.unit 11).rq.recs.length < 32 ∧ (ix st12.unit 11).rq.last = 0) ∧ (((if true = true then stopRoute st12 11 else startRoute st12 11) ≠ 255 ∧ routeOff st12 (if true = true then stopRoute st12 11 else startRoute st12 11) = false ∧ edgeTaken st12 11 (if true = true then stopRoute st12 11 else startRoute st12 11) true { tap := 6 } = true) ∧ (if true = true then (ix st12.unit 11).cntP else (ix st12.unit 11).cntS) = 0))
    -- dt = 10 * pmU, b = 11, c = 600, rise = true, s = st7, q = 100, u = true, l = true
    ∧ (Between st7 ∧ 11 < 12 ∧ unitSize st7 11 = 1 ∧ (ix st7.unit 11).pair = PairSt.open_ 100 true true ∧ ((ix st7.unit 11).rq.recs.length < 32 ∧ (ix st7.unit 11).rq.last = 0) ∧ rd st7 (PMU_PMn_CFG_MODE 11) = 1)
    -- dt = 10 * pmU, b = 11, c = 6, rise = true, s = st12, q = q_11, u = true, l = true
    ∧ (Between st12 ∧ 11 < 12 ∧ unitSize st12 11 = 1 ∧ (ix st12.unit 11).pair = PairSt.open_ q_11 true true ∧ ((ix st12.unit 11).rq.recs.length < 32 ∧ (ix st12.unit 11).rq.last = 0) ∧ rd st12 (PMU_PMn_CFG_MODE 11) = 1)
    -- dt = 10 * pmU, b = 11, c = 600, rise = true, s = st9, p = 7, u = false, l = true
    ∧ (Between st9 ∧ 11 < 12 ∧ unitSize st9 11 = 1 ∧ (ix st9.unit 11).pair = PairSt.pend 7 false true)
    -- dt = 10 * pmU, b = 11, c = 600, rise = false, s = st1, stop = true
    ∧ (Between st1 ∧ 11 < 12 ∧ unitSize st1 11 = 1 ∧ ((if true = true then stopRoute st1 11 else startRoute st1 11) ≠ 255) ∧ (edgeTaken st1 11 (if true = true then stopRoute st1 11 else startRoute st1 11) true { rise := false, tap := 600 } = false))
    -- dt = 10 * pmU, b = 11, c = 6, rise = false, s = st13, stop = false
    ∧ (Between st13 ∧ 11 < 12 ∧ unitSize st13 11 = 1 ∧ ((if false = true then stopRoute st13 11 else startRoute st13 11) ≠ 255) ∧ (edgeTaken st13 11 (if false = true then stopRoute st13 11 else startRoute st13 11) false { rise := false, tap := 6 } = false)) := by
  simp only [Between]
  decide +kernel

theorem witness_GatesEndAndUnitsRestart :
    -- dt = 5, b = 11, s = st14, g = gg2
    (Between st14 ∧ 11 < 12 ∧ unitSize st14 11 ≠ 0 ∧ (ix st14.unit 11).gate = some gg2 ∧ rd st14 (PMU_PMn_CFG_MODE 11) = 2)
    -- dt = 5, b = 11, s = st15, g = gg1
    ∧ (Between st15 ∧ 11 < 12 ∧ unitSize st15 11 ≠ 0 ∧ (ix st15.unit 11).gate = some gg1 ∧ rd st15 (PMU_PMn_CFG_MODE 11) = 2)
    -- dt = 5, b = 11, s = st14
    ∧ (Between st14 ∧ 11 < 12 ∧ unitSize st14 11 ≠ 0 ∧ Open st14 (5242904 + 128 * 11) ∧ rd st14 (PMU_PMn_STAT_STATE 11) ≠ 0)
    -- dt = 5, b = 11, s = st16
    ∧ (Between st16 ∧ 11 < 12 ∧ unitSize st16 11 ≠ 0 ∧ Open st16 (5242904 + 128 * 11) ∧ rd st16 (PMU_PMn_STAT_STATE 11) ≠ 0)
    -- dt = 5, b = 11, s = st17
    ∧ (Between st17 ∧ 11 < 12 ∧ unitSize st17 11 ≠ 0 ∧ Open st17 (5242904 + 128 * 11) ∧ rd st17 (PMU_PMn_STAT_STATE 11) = 0) := by
  simp only [Open, HostIdle, Between]
  decide +kernel

theorem witness_SlicesAreCalibrated :
    -- dt = 5, n = 11, e = e_18, hist = hist_22, sums = sums_23, s = st24
    (Between st24 ∧ 11 < 12)
    -- dt = 5, n = 11, e = e_26, hist = hist_27, sums = sums_28, s = st30
    ∧ (Between st30 ∧ 11 < 12)
    -- dt = 5, n = 11, e = e_18, hist = hist_22, sums = sums_23, s = st24
    ∧ (Between st24 ∧ 11 < 12 ∧ hist_22.length = 512 ∧ List.foldl (fun a b => a + b) 0 hist_22 = 2 ^ 20 ∧ st24.pmu.auto = true)
    -- dt = 5, n = 11, e = e_18, hist = hist_22, sums = sums_23, s = st25
    ∧ (Between st25 ∧ 11 < 12 ∧ hist_22.length = 512 ∧ List.foldl (fun a b => a + b) 0 hist_22 = 2 ^ 20 ∧ st25.pmu.auto = true)
    -- dt = 5, n = 11, e = e_18, hist = hist_22, sums = sums_23, s = st24, t = 9
    ∧ (Between st24 ∧ 11 < 12 ∧ (ix st24.slice 11).tabAt = some 9 ∧ rd st24 PMU_CALCFG_AGE_MAX ≠ 0 ∧ (ix st24.slice 11).stale = false ∧ sliceEnabled st24 11 = true)
    -- dt = 5, n = 11, e = e_18, hist = hist_22, sums = sums_23, s = st24
    ∧ (Between st24 ∧ 11 < 12 ∧ Open st24 5244420)
    -- dt = 5, n = 11, e = e_26, hist = hist_27, sums = sums_28, s = st30
    ∧ (Between st30 ∧ 11 < 12 ∧ Open st30 5244420)
    -- dt = 5, n = 11, e = e_26, hist = hist_27, sums = sums_28, s = st30, d = 9
    ∧ (Between st30 ∧ 11 < 12 ∧ st30.pmu.skewEnd = some 9 ∧ (∀ i < 12, (if i = 0 then 0 else roundDiv (sums_28.getD i 0) 4096).natAbs ≤ 131072))
    ∧ (Between st30 ∧ 11 < 12 ∧ st30.pmu.skewEnd = some 9)
    -- dt = 5, n = 11, e = e_26, hist = hist_27, sums = sums_29, s = st30, d = 9
    ∧ (Between st30 ∧ 11 < 12 ∧ st30.pmu.skewEnd = some 9 ∧ (∃ i < 12, 131072 < (if i = 0 then 0 else roundDiv (sums_29.getD i 0) 4096).natAbs)) := by
  simp only [Open, HostIdle, Between]
  decide +kernel

end WPmu

namespace WSel

def lk (l : List (Fld × Nat)) (s : State) : State := l.foldl (fun s x => put x.1 x.2 s) s
def T0 : Nat := 1700000000
def run : State := cc { base with now := 123456789, rst := { base.rst with phase := .run }, tkp := { base.tkp with run := true }, tod := T0 * secT + 777, flt := { base.flt with inst := [] } }
def sl (f : SelS → SelS) (l : List (Fld × Nat)) : State := lk l { run with sel := vset run.sel 6 (f (ix run.sel 6)) }
def st1 : State := sl (fun x => { x with holdEnd := some 999999999999, prepSum := 5 }) [(SEL_SELd_STAT_STAGE 6, 1)]
def st2 : State := sl (fun x => { x with prepAt := 88888 }) [(SEL_SELd_STAT_STAGE 6, 2), (SEL_SELd_STAT_PEND_SLOT 6, 5)]
def st3 : State := sl (fun x => { x with settleEnd := some 999999999999 }) [(SEL_SELd_STAT_STAGE 6, 4)]
def st4 : State := sl (fun x => { x with dwellEnd := some 999999999999 }) [(SEL_SELd_STAT_DWELL_RUN 6, 1)]
def st5 : State := sl id [(SEL_SELd_CFG_SELMODE 6, 2), (SEL_DPLLd_STAT_STATE 6, 2), (SEL_SELd_STAT_ACT_VALID 6, 1), (SEL_SELd_STAT_ACT_SLOT 6, 4)]
def st6 : State := sl id []
def st7 : State := sl (fun x => { x with dwellEnd := some 999999999999 }) [(SEL_SELd_STAT_DWELL_RUN 6, 1)]
def st8 : State := sl (fun x => { x with holdEnd := some 999999999999, prepSum := 5 }) [(SEL_SELd_STAT_STAGE 6, 1), (SEL_SELd_STAT_PEND_SLOT 6, 5), (SEL_DPLLd_STAT_BRIDGE 6, 1)]

theorem witness_SwitchStagesEndAtTheirTimes :
    -- d = 6, t = 999999999999, s = st1
    (Between st1 ∧ 6 < 8 ∧ (ix st1.sel 6).holdEnd = some 999999999999)
    -- d = 6, t = 999999999999, s = st2
    ∧ (Between st2 ∧ 6 < 8 ∧ rd st2 (SEL_SELd_STAT_STAGE 6) = 2)
    -- d = 6, t = 999999999999, s = st3
    ∧ (Between st3 ∧ 6 < 8 ∧ (ix st3.sel 6).settleEnd = some 999999999999)
    -- d = 6, t = 999999999999, s = st4
    ∧ (Between st4 ∧ 6 < 8 ∧ (ix st4.sel 6).dwellEnd = some 999999999999)
    -- d = 6, t = 999999999999, s = st5
    ∧ (Between st5 ∧ 6 < 8 ∧ rd st5 (SEL_SELd_CFG_SELMODE 6) = 2 ∧ (dpllState st5 6 = 1 ∨ dpllState st5 6 = 2)) := by
  simp only [Between]
  decide +kernel

theorem witness_SelectorCommands :
    -- dt = 5, d = 6, s = st6
    (Between st6 ∧ 6 < 8 ∧ Open st6 (6291492 + 64 * 6) ∧ rd st6 (SEL_SELd_STAT_DWELL_RUN 6) = 0)
    -- dt = 5, d = 6, s = st8
    ∧ (Between st8 ∧ 6 < 8 ∧ Open st8 (6291492 + 64 * 6) ∧ rd st8 (SEL_SELd_STAT_DWELL_RUN 6) = 0)
    -- dt = 5, d = 6, s = st6
    ∧ (Between st6 ∧ 6 < 8 ∧ Open st6 (6291492 + 64 * 6))
    -- dt = 5, d = 6, s = st8
    ∧ (Between st8 ∧ 6 < 8 ∧ Open st8 (6291492 + 64 * 6))
    -- dt = 5, d = 6, s = st6
    ∧ (Between st6 ∧ 6 < 8 ∧ Open st6 (6291492 + 64 * 6) ∧ (rd st6 (SEL_SELd_STAT_STAGE 6) = 0 ∨ rd st6 (SEL_SELd_STAT_STAGE 6) = 4))
    -- dt = 5, d = 6, s = st7
    ∧ (Between st7 ∧ 6 < 8 ∧ Open st7 (6291492 + 64 * 6) ∧ (rd st7 (SEL_SELd_STAT_STAGE 6) = 0 ∨ rd st7 (SEL_SELd_STAT_STAGE 6) = 4))
    ∧ (Between st7 ∧ 6 < 8 ∧ Open st7 (6291492 + 64 * 6) ∧ rd st7 (SEL_SELd_STAT_DWELL_RUN 6) = 1)
    -- dt = 5, d = 6, s = st8
    ∧ (Between st8 ∧ 6 < 8 ∧ Open st8 (6291492 + 64 * 6) ∧ (rd st8 (SEL_SELd_STAT_STAGE 6) = 1 ∨ rd st8 (SEL_SELd_STAT_STAGE 6) = 2)) := by
  simp only [Open, HostIdle, Between]
  decide +kernel

end WSel

namespace WDpll

def dp (st : Nat) (x : DpllS) (y : SelS) : State :=
  { (base |> put (SEL_DPLLd_STAT_STATE 7) st |> put (SEL_DPLLd_LOCKW_W 7) 100 |> put (SEL_DPLLd_LOCK_LOCK_N 7) 3 |> put (SEL_DPLLd_LOCK_UN 7) 2 |> put (SEL_DPLLd_STAT_LOCKCNT 7) 2
      |> put (SEL_SELd_STAT_ACT_VALID 7) 1 |> put (SEL_SELd_STAT_ACT_SLOT 7) 31 |> put (SEL_SELd_STAT_STAGE 7) 2 |> put (SEL_SELd_STAT_PEND_SLOT 7) 3 |> put (SEL_SELd_PBO_HI_B 7) 0x80000000
      |> put (SEL_SELd_STAT_ACT_VALID 1) 1 |> put (SEL_SELd_STAT_ACT_SLOT 1) 30 |> put (SEL_DPLLd_FLIM_FLIM 7) 5000 |> put (REF_SLOTs_STAT_STATE 31) 2 |> put (REF_SLOTs_STAT_EFF_QL 31) 2 |> put (SEL_SELd_MASK_EN 7) 0xFFFFFFFF |> put (SEL_SELd_CFG_QL_LIMIT 7) 15)
    with dpll := vset base.dpll 7 x, sel := vset base.sel 7 y, img := { base.img with struct_ := { base.img.struct_ with dpllCand := List.replicate 8 (2^32-1) } } }
def px : DpllS := { ow := 9223372036854775807, un := 1 }
def diff_1 := (100:Int)
def st2 : State := dp 1 px {}
def st5 : State := dp 2 { un := 1 } {}
def diff_6 := (100:Int)
def st7 : State := dp 1 {} {}
def hoM (x : State) : State := x |> put (SEL_DPLLd_STAT_MODEL_VALID 7) 1 |> put (SEL_DPLLd_HOCFG_MODEL_USE 7) 1 |> put (SEL_DPLLd_TEMAX_TEMAX 7) 3
def ho (_m a : Bool) (sl : Int) : DpllS := { ho := { a0 := -5000, a1 := 77, c1 := 3, ok := true }, hoAvg := a, wAvg := 123456, slew := sl, hoDelta := -77, hoAt := 0, lockAt := 0 }
def x_9 := (5:Int)
def st11 : State := dp 3 (ho false false 5) {}
def st13 : State := hoM <| dp 3 (ho true true 1000000000000) {}
def st14 : State := dp 1 {} {}
def tmp (h at_ : Nat) : State := { (put SEL_TEMP_T (uns 16 5) (put SEL_TEMP_VALID 1 base)) with now := 601 * secU, tempAt := at_, tempHeld := 7, tempStuck := decide (h = 1) }
def x_19 := (5:Int)
def st25 : State := tmp 1 0
def lr : State := { base with tkp := { base.tkp with run := true }, dpll := vset base.dpll 7 { slots := 60, open_ := [⟨1,2,3⟩], buckets := List.replicate 24 { close := 4 } } }
def mc : State := put (SEL_DPLLd_A1_A1 7) 5 (put (SEL_DPLLd_PEND_LO_PEND 7) 70000 (put (SEL_DPLLd_STAT_SLEWING 7) 1 (dp 2 { slew := 400, avgOk := true } {}))) |> put (SEL_DPLLd_FREQ_LO_W 7) 1000
def st26 : State := put (SEL_DPLLd_PEND_HI_PEND 7) 0x8000 mc

theorem witness_PhaseSamplesAreTracked :
    -- dt = 5000, d = 7, i = 31, diff = diff_1, s = st2
    (Between st2 ∧ 7 < 8 ∧ 31 < 32 ∧ live st2 6 = true ∧ isolated st2 6 = false ∧ (∀ k < 8, ∀ (w : SelWas), ix st2.selWas k = some w → w.cyc < cycleNow (Machine.pass 5000 st2)) ∧ actSlot st2 7 = some 31 ∧ (ix st2.sel 7).lost = false ∧ eligible st2 7 31 = true ∧ rd st2 (SEL_SELd_CFG_SELMODE 7) ≠ 2 ∧ (dpllState st2 7 = 1 ∨ dpllState st2 7 = 2) ∧ 7 ≠ timeDpll st2 ∧ (¬(rd st2 (SEL_SELd_STAT_STAGE 7) = 2 ∧ rd st2 (SEL_SELd_STAT_PEND_SLOT 7) = 31)) ∧ (∀ k < 8, k ≠ 7 → actSlot st2 k ≠ some 31 ∧ ¬(rd st2 (SEL_SELd_STAT_STAGE k) = 2 ∧ rd st2 (SEL_SELd_STAT_PEND_SLOT k) = 31)))
    -- dt = 5000, d = 7, i = 31, diff = diff_1, s = st5
    ∧ (Between st5 ∧ 7 < 8 ∧ 31 < 32 ∧ live st5 6 = true ∧ isolated st5 6 = false ∧ (∀ k < 8, ∀ (w : SelWas), ix st5.selWas k = some w → w.cyc < cycleNow (Machine.pass 5000 st5)) ∧ actSlot st5 7 = some 31 ∧ (ix st5.sel 7).lost = false ∧ eligible st5 7 31 = true ∧ rd st5 (SEL_SELd_CFG_SELMODE 7) ≠ 2 ∧ (dpllState st5 7 = 1 ∨ dpllState st5 7 = 2) ∧ 7 ≠ timeDpll st5 ∧ (¬(rd st5 (SEL_SELd_STAT_STAGE 7) = 2 ∧ rd st5 (SEL_SELd_STAT_PEND_SLOT 7) = 31)) ∧ (∀ k < 8, k ≠ 7 → actSlot st5 k ≠ some 31 ∧ ¬(rd st5 (SEL_SELd_STAT_STAGE k) = 2 ∧ rd st5 (SEL_SELd_STAT_PEND_SLOT k) = 31)))
    -- dt = 5000, d = 7, i = 0, diff = diff_6, s = st7
    ∧ (Between st7 ∧ 7 < 8 ∧ 0 < 32 ∧ live st7 6 = true ∧ isolated st7 6 = false ∧ (∀ k < 8, ∀ (w : SelWas), ix st7.selWas k = some w → w.cyc < cycleNow (Machine.pass 5000 st7)) ∧ (∀ k < 8, actSlot st7 k ≠ some 0 ∧ ¬(rd st7 (SEL_SELd_STAT_STAGE k) = 2 ∧ rd st7 (SEL_SELd_STAT_PEND_SLOT k) = 0)))
    -- dt = 5000, d = 7, i = 0, diff = diff_6, s = base
    ∧ (Between base ∧ 7 < 8 ∧ 0 < 32 ∧ live base 6 = true ∧ isolated base 6 = false ∧ (∀ k < 8, ∀ (w : SelWas), ix base.selWas k = some w → w.cyc < cycleNow (Machine.pass 5000 base)) ∧ (∀ k < 8, actSlot base k ≠ some 0 ∧ ¬(rd base (SEL_SELd_STAT_STAGE k) = 2 ∧ rd base (SEL_SELd_STAT_PEND_SLOT k) = 0))) := by
  simp only [Between]
  decide +kernel

theorem witness_HoldoverSecondsAndEstimates :
    -- dt = 50000, d = 7, x = x_9, s = st11
    (Between st11 ∧ 7 < 8 ∧ live st11 6 = true ∧ isolated st11 6 = false ∧ dpllState st11 7 = 3 ∧ rd st11 (SEL_DPLLd_PEND_LO_PEND 7) = 0 ∧ rd st11 (SEL_DPLLd_PEND_HI_PEND 7) = 0 ∧ (hoUses st11 7 = false ∨ (ix st11.dpll 7).hoG = none))
    -- dt = 50000, d = 7, x = x_9, s = st13
    ∧ (Between st13 ∧ 7 < 8 ∧ live st13 6 = true ∧ isolated st13 6 = false ∧ dpllState st13 7 = 3 ∧ rd st13 (SEL_DPLLd_PEND_LO_PEND 7) = 0 ∧ rd st13 (SEL_DPLLd_PEND_HI_PEND 7) = 0 ∧ (hoUses st13 7 = false ∨ (ix st13.dpll 7).hoG = none))
    -- dt = 50000, d = 7, x = x_9, s = st11
    ∧ (Between st11 ∧ 7 < 8 ∧ dpllState st11 7 = 3 ∧ (ix st11.dpll 7).hoRep = false)
    -- dt = 50000, d = 7, x = x_9, s = st13
    ∧ (Between st13 ∧ 7 < 8 ∧ dpllState st13 7 = 3 ∧ (ix st13.dpll 7).hoRep = false)
    -- dt = 50000, d = 7, x = x_9, s = st11
    ∧ (Between st11 ∧ 7 < 8 ∧ live st11 6 = true ∧ isolated st11 6 = false)
    -- dt = 0, d = 7, x = x_19, s = st25
    ∧ (Between st25 ∧ 7 < 8 ∧ live st25 6 = true ∧ isolated st25 6 = false)
    -- dt = 50000, d = 7, x = x_9, s = st11
    ∧ (Between st11 ∧ 7 < 8)
    -- dt = 0, d = 7, x = x_19, s = st25
    ∧ (Between st25 ∧ 7 < 8)
    -- dt = 50000, d = 7, x = x_9, s = st14
    ∧ (Between st14 ∧ 7 < 8 ∧ (dpllState st14 7 = 1 ∨ dpllState st14 7 = 2 ∨ dpllState st14 7 = 0 ∧ rd st14 (SEL_DPLLd_STAT_SLEWING 7) = 0))
    -- dt = 0, d = 7, x = x_19, s = st25
    ∧ (Between st25 ∧ 7 < 8 ∧ (dpllState st25 7 = 1 ∨ dpllState st25 7 = 2 ∨ dpllState st25 7 = 0 ∧ rd st25 (SEL_DPLLd_STAT_SLEWING 7) = 0)) := by
  simp only [Between]
  decide +kernel

theorem witness_DriftModelsAreLearnedAndCleared :
    -- dt = 5, d = 7, s = lr
    (Between lr ∧ 7 < 8 ∧ lr.tkp.run = true ∧ live lr 6 = true ∧ isolated lr 6 = false ∧ (∀ k < 8, rd lr (SEL_DPLLd_STAT_RESTORED k) = 0))
    ∧ (Between lr ∧ 7 < 8)
    -- dt = 50000000000, d = 7, s = st26
    ∧ (Between st26 ∧ 7 < 8)
    -- dt = 5, d = 7, s = lr
    ∧ (Between lr ∧ 7 < 8 ∧ Open lr (6292532 + 128 * 7) ∧ dpllState lr 7 ≠ 3)
    -- dt = 50000000000, d = 7, s = st26
    ∧ (Between st26 ∧ 7 < 8 ∧ Open st26 (6292532 + 128 * 7) ∧ dpllState st26 7 ≠ 3)
    -- dt = 5, d = 7, s = lr
    ∧ (Between lr ∧ 7 < 8 ∧ Open lr (6292532 + 128 * 7) ∧ rdPair48 lr (SEL_DPLLd_PEND_LO_PEND 7) (SEL_DPLLd_PEND_HI_PEND 7) = 0)
    -- dt = 50000000000, d = 7, s = mc
    ∧ (Between mc ∧ 7 < 8 ∧ Open mc (6292532 + 128 * 7) ∧ rdPair48 mc (SEL_DPLLd_PEND_LO_PEND 7) (SEL_DPLLd_PEND_HI_PEND 7) ≠ 0)
    -- dt = 50000000000, d = 7, s = st26
    ∧ (Between st26 ∧ 7 < 8 ∧ Open st26 (6292532 + 128 * 7) ∧ rdPair48 st26 (SEL_DPLLd_PEND_LO_PEND 7) (SEL_DPLLd_PEND_HI_PEND 7) ≠ 0) := by
  simp only [Open, HostIdle, Between]
  decide +kernel

end WDpll

namespace WSyn

def sy (st : Nat) (x : SynS) : State :=
  { (base |> put (SYN_SYNk_STAT_STATE 3) st |> put (SYN_SYNk_CFG_WRATE 3) 50 |> put (SYN_SYNk_STAT_WRATE_ACT 3) 1 |> put (SYN_SYNk_CFG_EN 3) 1 |> put (SYN_OUTn_STAT_SRC 15) 3)
    with syn := vset base.syn 3 x }
def lv : SynLive := { refmode := 0, mint := 500, mfrac := 0, frame := 1000 }
def err_1 := (40000:Int)
def st3 : State := sy 1 { live := lv}
def st4 : State := sy 2 { live := lv, ever := true }
def st5 : State := put (SYN_SYNk_STAT_PH_ALIGNED 3) 1 (sy 3 { live := lv, ever := true, realign := true })
def st6 : State := sy 4 { live := lv, ever := true, wd := 7000, wa := -9000, wrate := 50, glideEnd := 99 }
def err_7 := (40000:Int)
def st8 : State := sy 6 { live := lv}
def st9 : State := sy 5 { live := lv, ever := true }
def st10 : State := sy 7 { live := lv, ever := true, realign := true }
def st11 : State := put SYN_CORE_STAT_STATE 3 (sy 3 { live := lv, realign := true })
def ou (st : Nat) (o : OutS) : State :=
  { (sy 3 { live := lv }) with out := vset base.out 15 o } |> put (SYN_OUTn_STAT_STATE 15) st |> put (SYN_OUTn_CFG_EN 15) 1 |> put (SYN_OUTn_FINE_FINE 15) 700 |> put (SYN_SYNk_STAT_PH_ALIGNED 3) 1
def c_12 : CommitS := { k := 3, mask := 0x8000, mult := true, atT := 99 }
def st13 : State := ou 1 {}
def st17 : State := put (SYN_SYNk_CFG_EN 3) 0 (ou 3 {})
def st18 : State := ou 3 {}
def st19 : State := ou 2 { moving := some 3 }
def st20 : State := { (ou 2 {}) with commit := [{ k := 3, mask := 0x8000, mult := true, atT := 99 }] }
def st21 : State := { put SYN_STAT_COMMIT_PEND 1 (ou 2 {}) with commit := [{ k := 3, mask := 0x8000, mult := true, atT := 99 }, { k := 1, mask := 0, mult := true, atT := 100 }] }

theorem witness_SynthesisersSearchLockAndFreeze :
    -- dt = 5, k = 3, f0 = 5000000000, f1 = 5000003000, f2 = 5004000000, err = err_1, s = st3
    (Between st3 ∧ 3 < 4 ∧ rd st3 GEN_CLKSTAT_SYSCLK_PRES = 1 ∧ rd st3 (SYN_SYNk_STAT_STATE 3) = 1 ∧ inFineRange (fNom st3 (ix st3.syn 3).live) (bandTaken (fNom st3 (ix st3.syn 3).live) [5000000000, 5000003000, 5004000000]).2 = true)
    -- dt = 5, k = 3, f0 = 7, f1 = 5100000000, f2 = 5004000000, err = err_1, s = st3
    ∧ (Between st3 ∧ 3 < 4 ∧ rd st3 GEN_CLKSTAT_SYSCLK_PRES = 1 ∧ rd st3 (SYN_SYNk_STAT_STATE 3) = 1 ∧ inFineRange (fNom st3 (ix st3.syn 3).live) (bandTaken (fNom st3 (ix st3.syn 3).live) [7, 5100000000, 5004000000]).2 = true)
    -- dt = 5, k = 3, f0 = 5000000000, f1 = 5000003000, f2 = 5004000000, err = err_1, s = st3
    ∧ (Between st3 ∧ 3 < 4 ∧ Open st3 (7340060 + 64 * 3) ∧ rd st3 (SYN_SYNk_STAT_PH_ALIGNED 3) = 0)
    -- dt = 5, k = 3, f0 = 5, f1 = 6, f2 = 7, err = err_7, s = st11
    ∧ (Between st11 ∧ 3 < 4 ∧ Open st11 (7340060 + 64 * 3) ∧ rd st11 (SYN_SYNk_STAT_PH_ALIGNED 3) = 0)
    -- dt = 5, k = 3, f0 = 5000000000, f1 = 5000003000, f2 = 5004000000, err = err_1, s = st4
    ∧ (Between st4 ∧ 3 < 4 ∧ rd st4 GEN_CLKSTAT_SYSCLK_PRES = 1 ∧ rd st4 (SYN_SYNk_STAT_STATE 3) = 2)
    ∧ (Between st4 ∧ 3 < 4 ∧ (rd st4 (SYN_SYNk_STAT_STATE 3) = 2 ∨ rd st4 (SYN_SYNk_STAT_STATE 3) = 3 ∨ rd st4 (SYN_SYNk_STAT_STATE 3) = 4) ∧ (ix st4.syn 3).ever = true ∧ (∀ n < 16, (ix st4.out n).moving ≠ some 3))
    -- dt = 5, k = 3, f0 = 5000000000, f1 = 5000003000, f2 = 5004000000, err = err_1, s = st6
    ∧ (Between st6 ∧ 3 < 4 ∧ (rd st6 (SYN_SYNk_STAT_STATE 3) = 2 ∨ rd st6 (SYN_SYNk_STAT_STATE 3) = 3 ∨ rd st6 (SYN_SYNk_STAT_STATE 3) = 4) ∧ (ix st6.syn 3).ever = true ∧ (∀ n < 16, (ix st6.out n).moving ≠ some 3))
    -- dt = 5, k = 3, f0 = 5000000000, f1 = 5000003000, f2 = 5004000000, err = err_1, s = st5
    ∧ (Between st5 ∧ 3 < 4 ∧ Open st5 (7340060 + 64 * 3) ∧ rd st5 (SYN_SYNk_STAT_PH_ALIGNED 3) = 1)
    ∧ (Between st5 ∧ 3 < 4 ∧ rd st5 (SYN_SYNk_STAT_STATE 3) = 3 ∧ (ix st5.syn 3).realign = true)
    -- dt = 5, k = 3, f0 = 5, f1 = 6, f2 = 7, err = err_7, s = st11
    ∧ (Between st11 ∧ 3 < 4 ∧ rd st11 (SYN_SYNk_STAT_STATE 3) = 3 ∧ (ix st11.syn 3).realign = true)
    -- dt = 5, k = 3, f0 = 5000000000, f1 = 5000003000, f2 = 5004000000, err = err_1, s = st6
    ∧ (Between st6 ∧ 3 < 4 ∧ rd st6 (SYN_SYNk_STAT_STATE 3) = 4)
    ∧ (Between st6 ∧ 3 < 4 ∧ rd st6 (SYN_SYNk_STAT_WRATE_ACT 3) = 1 ∧ (ix st6.syn 3).wrate ≠ 0 ∧ rd st6 (SYN_SYNk_STAT_STATE 3) ≠ 6)
    -- dt = 5, k = 3, f0 = 5000000000, f1 = 5100000000, f2 = 9, err = err_1, s = st3
    ∧ (Between st3 ∧ 3 < 4 ∧ rd st3 GEN_CLKSTAT_SYSCLK_PRES = 1 ∧ rd st3 (SYN_SYNk_STAT_STATE 3) = 1 ∧ inFineRange (fNom st3 (ix st3.syn 3).live) (bandTaken (fNom st3 (ix st3.syn 3).live) [5000000000, 5100000000, 9]).2 = false)
    -- dt = 5, k = 3, f0 = 7, f1 = 5100000000, f2 = 9, err = err_1, s = st3
    ∧ (Between st3 ∧ 3 < 4 ∧ rd st3 GEN_CLKSTAT_SYSCLK_PRES = 1 ∧ rd st3 (SYN_SYNk_STAT_STATE 3) = 1 ∧ inFineRange (fNom st3 (ix st3.syn 3).live) (bandTaken (fNom st3 (ix st3.syn 3).live) [7, 5100000000, 9]).2 = false)
    -- dt = 5, k = 3, f0 = 5, f1 = 6, f2 = 7, err = err_7, s = st8
    ∧ (Between st8 ∧ 3 < 4 ∧ rd st8 GEN_CLKSTAT_SYSCLK_PRES = 1 ∧ rd st8 (SYN_SYNk_STAT_STATE 3) = 6)
    ∧ (Between st8 ∧ 3 < 4 ∧ Open st8 (7340060 + 64 * 3) ∧ (rd st8 (SYN_SYNk_STAT_STATE 3) = 6 ∨ rd st8 (SYN_SYNk_STAT_STATE 3) = 7) ∧ isolated st8 7 = false)
    -- dt = 5, k = 3, f0 = 5, f1 = 6, f2 = 7, err = err_7, s = st10
    ∧ (Between st10 ∧ 3 < 4 ∧ Open st10 (7340060 + 64 * 3) ∧ (rd st10 (SYN_SYNk_STAT_STATE 3) = 6 ∨ rd st10 (SYN_SYNk_STAT_STATE 3) = 7) ∧ isolated st10 7 = false)
    -- dt = 5, k = 3, f0 = 5, f1 = 6, f2 = 7, err = err_7, s = st9
    ∧ (Between st9 ∧ 3 < 4 ∧ rd st9 (SYN_SYNk_STAT_STATE 3) = 5 ∧ (∀ n < 16, rd st9 (SYN_OUTn_STAT_SRC n) = 3 → rd st9 (SYN_OUTn_STAT_STATE n) = 0) ∧ rd st9 SYN_TEST_GO = 0)
    -- dt = 5, k = 3, f0 = 5, f1 = 6, f2 = 7, err = err_7, s = st11
    ∧ (Between st11 ∧ 3 < 4 ∧ rd st11 SYN_CORE_STAT_STATE = 3) := by
  simp only [Open, HostIdle, Between]
  decide +kernel

theorem witness_OutputsStartStopMoveAndCommit :
    -- dt = 5, n = 15, k = 3, c = c_12, s = st13
    (Between st13 ∧ 15 < 16 ∧ 3 < 4 ∧ rd st13 (SYN_OUTn_STAT_STATE 15) = 1 ∧ rd st13 (SYN_OUTn_STAT_SRC 15) = 3 ∧ rd st13 (SYN_SYNk_STAT_STATE 3) = 3 ∧ rd st13 (SYN_OUTn_CFG_EN 15) = 1 ∧ rd st13 (SYN_OUTn_STAT_CFG_ERR 15) = 0)
    -- dt = 5, n = 15, k = 3, c = c_12, s = st17
    ∧ (Between st17 ∧ 15 < 16 ∧ 3 < 4 ∧ rd st17 (SYN_OUTn_STAT_STATE 15) = 3 ∧ rd st17 (SYN_OUTn_STAT_SRC 15) = 3)
    -- dt = 5, n = 15, k = 3, c = c_12, s = st18
    ∧ (Between st18 ∧ 15 < 16 ∧ 3 < 4 ∧ rd st18 (SYN_OUTn_STAT_STATE 15) = 3 ∧ rd st18 (SYN_OUTn_STAT_SRC 15) = 3)
    -- dt = 5, n = 15, k = 3, c = c_12, s = st19
    ∧ (Between st19 ∧ 15 < 16 ∧ 3 < 4 ∧ (ix st19.out 15).moving = some 3)
    -- dt = 5, n = 15, k = 3, c = c_12, s = st20
    ∧ (Between st20 ∧ 15 < 16 ∧ 3 < 4 ∧ nextCommit st20 = some c_12 ∧ c_12.k < 4 ∧ c_12.l1 = false)
    -- dt = 5, n = 15, k = 3, c = c_12, s = st21
    ∧ (Between st21 ∧ 15 < 16 ∧ 3 < 4 ∧ nextCommit st21 = some c_12 ∧ c_12.k < 4 ∧ c_12.l1 = false) := by
  simp only [Between]
  decide +kernel

end WSyn

namespace WTkp

def tk (x : TkpS) : State :=
  { (base |> put TKP_TSET_SEC_LO_SEC 0x10000000 |> put TKP_TSET_SEC_HI_SEC 1 |> put TKP_TSET_NS_NS 999999999 |> put TKP_STAT_DAT 37 |> put TKP_CIVIL_ZONE 4 |> put TKP_CIVIL_RULE 1 |> put TKP_CIVIL_DST_OFF 4)
    with tkp := x, tod := 1700000000 * secT + 12345 }
def track (d : Nat) (slot : Nat) (s : State) : State := s |> put (SEL_DPLLd_STAT_STATE d) 2 |> put (SEL_SELd_STAT_ACT_VALID d) 1 |> put (SEL_SELd_STAT_ACT_SLOT d) slot
def st1 : State := tk { run := true }
def st2 : State := track 0 29 (tk { run := true, setSec := some (1700000077, 1700000001) })
def st3 : State := tk { run := true, setSec := some (1700000077, 1700000001), secAt := 1700000000 }
def st4 : State := tk { run := true, secAt := 1700000000, civ := 3 }
def st5 : State := put TKP_STAT_LEAP_PEND 1 (track 0 29 (tk { run := true, secAt := 1699999999, lastErr := -3, disVal := -3, disCnt := 3 }))
def st6 : State := put TKP_CFG_SEC_CONF 5 (track 0 29 (tk { run := true, secAt := 1699999999, lastErr := -3, disVal := -3, disCnt := 3 }))
def st7 : State := put TKP_CFG_SEC_CONF 5 (track 0 29 (tk { run := true, secAt := 1699999999, lastErr := -3, disVal := -3, disCnt := 4 }))
def st8 : State := track 0 29 (tk { run := true, lastErr := 0 })
def lt : State := tk { run := true, latched := some 1700000077, civ := 60 }
def st9 : State := put TKP_STAT_LEAP_DEL 1 lt
def st10 : State := put TKP_CIVIL_ZONE 128 lt
def hi (x : Nat) : Nat × Nat := (if x = 0 then 2000000 else if x = 1 then 5000000 else 8000000, 10000000)
def fr : List (Nat × Nat) := (irigSyms { code := 5, sec := 60, min := 59, hour := 23, doy := 366, year := 2024, lsp := true, dst := true, tq := 15 }).map hi
def fr2 : List (Nat × Nat) := fr.set 3 (9500000, 10000000)
def ir (x : TkpS) : State := { (tk x |> put TKP_IRIGIN_CFG_EN 1 |> put TKP_IRIGIN_CFG_PAR 1 |> put TKP_IRIGIN_CFG_LOCK_N 3 |> put (TKP_TODTXk_CFG_EN 1) 1 |> put (TKP_TODTXk_CFG_START 1) 1000 |> put TKP_IRIGIN_STAT_ERRCNT 255) with img := { base.img with routes := [(0x130, 3)] } }
def st11 : State := ir { run := true, ppsSec := 1700000000 }
def st12 : State := ir { run := true, irigOk := 2 }
def st13 : State := put TKP_IRIGIN_STAT_FLOCK 1 (ir { run := true, irigOk := 2, irigAt := 7 })
def st14 : State := ir { run := true, irigOk := 7, irigAt := 0, irigLast := some (2 * 1735689599) }
def ao (l : List (Fld × Nat)) (f : State → State) : State := f { (tk { run := true, waitRtc := true }) with aon := { base.aon with val := (l.map (fun p => (fldKey p.1, p.2))) } }
def st15 : State := ao [(RST_CAUSE_FULL, 1)] id
def st16 : State := ao [(TKP_RTC_STAT_RUN, 1)] id
def st17 : State := ao [(TKP_RTC_STAT_RUN, 1), (TKP_RTC_STAT_OSC_FAIL, 1), (TKP_RTC_SEC_HI_SUBSEC, 32767)] id
def st18 : State := ao [(TKP_RTC_CTL_TRIM, 0x8001)] (fun s => { s with aon := { s.aon with unbroken := 1025, drift0 := 50, grp := vset s.aon.grp 0 { batch := [{ addr := 0x80008C, alias_ := 0, be := 15, data := 0x12348000 }], landAt := some 77 } } })

theorem witness_TimeOfDayIsReadAndSet :
    -- dt = 5, s = st1
    (Between st1 ∧ Open st1 8388616)
    -- dt = 5, s = st3
    ∧ (Between st3 ∧ Open st3 8388616)
    -- dt = 5, s = st1
    ∧ (Between st1 ∧ Open st1 8388616 ∧ timeHeld st1 = false)
    -- dt = 5, s = st3
    ∧ (Between st3 ∧ Open st3 8388616 ∧ timeHeld st3 = false)
    -- dt = 5, s = st2
    ∧ (Between st2 ∧ Open st2 8388616 ∧ timeHeld st2 = true)
    -- dt = 5, s = st2, sec = 1700000077, at_ = 1700000001
    ∧ (Between st2 ∧ Open st2 8388616 ∧ st2.tkp.setSec = some (1700000077, 1700000001))
    -- dt = 5, s = st3, sec = 1700000077, at_ = 1700000001
    ∧ (Between st3 ∧ Open st3 8388616 ∧ st3.tkp.setSec = some (1700000077, 1700000001)) := by
  simp only [Open, HostIdle, Between]
  decide +kernel

theorem witness_SecondsLeapsAndCivilTime :
    -- dt = 5, s = st4
    (Between st4 ∧ st4.tkp.run = true ∧ st4.tkp.rtcSync = none)
    -- dt = 5, s = st10
    ∧ (Between st10 ∧ st10.tkp.run = true ∧ st10.tkp.rtcSync = none)
    -- dt = 5, s = st4
    ∧ (Between st4 ∧ isolated st4 8 = false ∧ live st4 8 = true ∧ (tracksTime st4 = false ∨ st4.tkp.lastErr = 0))
    -- dt = 5, s = st10
    ∧ (Between st10 ∧ isolated st10 8 = false ∧ live st10 8 = true ∧ (tracksTime st10 = false ∨ st10.tkp.lastErr = 0))
    -- dt = 5, s = st4
    ∧ (Between st4 ∧ Open st4 8388616 ∧ st4.tkp.latched = none)
    -- dt = 5, s = st8
    ∧ (Between st8 ∧ Open st8 8388616 ∧ st8.tkp.latched = none)
    -- dt = 5, s = st4
    ∧ (Between st4 ∧ st4.img.applied = true ∧ (civilOffset st4 (utcOfTai st4 (todSec (Machine.pass 5 st4)))).1 ≠ st4.tkp.civ)
    -- dt = 5, s = st10
    ∧ (Between st10 ∧ st10.img.applied = true ∧ (civilOffset st10 (utcOfTai st10 (todSec (Machine.pass 5 st10)))).1 ≠ st10.tkp.civ)
    -- dt = 5, s = st5
    ∧ (Between st5 ∧ isolated st5 8 = false ∧ live st5 8 = true ∧ tracksTime st5 = true ∧ st5.tkp.lastErr ≠ 0 ∧ (max 1 (rd st5 TKP_CFG_SEC_CONF) ≤ if st5.tkp.disVal = st5.tkp.lastErr then st5.tkp.disCnt + 1 else 1))
    -- dt = 5, s = st7
    ∧ (Between st7 ∧ isolated st7 8 = false ∧ live st7 8 = true ∧ tracksTime st7 = true ∧ st7.tkp.lastErr ≠ 0 ∧ (max 1 (rd st7 TKP_CFG_SEC_CONF) ≤ if st7.tkp.disVal = st7.tkp.lastErr then st7.tkp.disCnt + 1 else 1))
    -- dt = 5, s = st5
    ∧ (Between st5 ∧ rd st5 TKP_STAT_LEAP_PEND = 1 ∧ st5.tkp.latched = none)
    -- dt = 5, s = st6
    ∧ (Between st6 ∧ isolated st6 8 = false ∧ live st6 8 = true ∧ tracksTime st6 = true ∧ st6.tkp.lastErr ≠ 0 ∧ ((if st6.tkp.disVal = st6.tkp.lastErr then st6.tkp.disCnt + 1 else 1) < max 1 (rd st6 TKP_CFG_SEC_CONF)))
    -- dt = 5, s = lt
    ∧ (Between lt ∧ Open lt 8388616 ∧ lt.tkp.latched ≠ none)
    -- dt = 5, s = st10
    ∧ (Between st10 ∧ Open st10 8388616 ∧ st10.tkp.latched ≠ none)
    -- dt = 5, s = lt, m = 1700000077
    ∧ (Between lt ∧ lt.tkp.latched = some 1700000077)
    -- dt = 5, s = st10, m = 1700000077
    ∧ (Between st10 ∧ st10.tkp.latched = some 1700000077)
    -- dt = 5, s = lt
    ∧ (Between lt ∧ lt.img.applied = true ∧ (civilOffset lt (utcOfTai lt (todSec (Machine.pass 5 lt)))).1 = lt.tkp.civ)
    -- dt = 5, s = st9
    ∧ (Between st9 ∧ st9.img.applied = true ∧ (civilOffset st9 (utcOfTai st9 (todSec (Machine.pass 5 st9)))).1 = st9.tkp.civ) := by
  simp only [Open, HostIdle, Between]
  decide +kernel

theorem witness_SerialAndIrigTime :
    -- dt = 5, age = 1, k = 1, els = fr, s = st11
    (Between st11 ∧ 1 < 2 ∧ rd st11 (TKP_TODTXk_CFG_EN 1) = 1 ∧ st11.tkp.txHold = false ∧ isolated st11 8 = false ∧ live st11 8 = true ∧ ix st11.tkp.txSec 1 ≠ st11.tkp.ppsSec ∧ todSec st11 = st11.tkp.ppsSec)
    ∧ (Between st11 ∧ rd st11 TKP_IRIGIN_CFG_EN = 1 ∧ isolated st11 8 = false ∧ live st11 8 = true ∧ st11.img.applied = true ∧ tabGet st11.img.routes 304 255 ≠ 255 ∧ ballOff st11 (inBall (tabGet st11.img.routes 304 255)) = false ∧ st11.tkp.txHold = false ∧ st11.tkp.irigFrom + 1 ≤ st11.now + 5 ∧ irigValid st11 (irigDecode fr) = true ∧ (rd st11 TKP_UTC_DAT_FORCE = 1 ∨ actSlot st11 (timeDpll st11) ≠ some 29) ∧ (∀ (a : ℕ), st11.tkp.irigLast = some a → irigFollows a (2 * irigUtc (Machine.pass 5 st11) (irigDecode fr) + if (irigDecode fr).sec = 60 then 1 else 0) = true) ∧ rd st11 TKP_IRIGIN_STAT_FLOCK = 0 ∧ st11.tkp.irigOk + 1 < max 1 (rd st11 TKP_IRIGIN_CFG_LOCK_N))
    ∧ (Between st11 ∧ rd st11 TKP_IRIGIN_STAT_FLOCK = 0)
    -- dt = secU, age = 1, k = 1, els = fr, s = st14
    ∧ (Between st14 ∧ rd st14 TKP_IRIGIN_STAT_FLOCK = 0)
    -- dt = 5, age = 1, k = 1, els = fr, s = st12
    ∧ (Between st12 ∧ rd st12 TKP_IRIGIN_CFG_EN = 1 ∧ isolated st12 8 = false ∧ live st12 8 = true ∧ st12.img.applied = true ∧ tabGet st12.img.routes 304 255 ≠ 255 ∧ ballOff st12 (inBall (tabGet st12.img.routes 304 255)) = false ∧ st12.tkp.txHold = false ∧ st12.tkp.irigFrom + 1 ≤ st12.now + 5 ∧ irigValid st12 (irigDecode fr) = true ∧ (rd st12 TKP_UTC_DAT_FORCE = 1 ∨ actSlot st12 (timeDpll st12) ≠ some 29) ∧ (∀ (a : ℕ), st12.tkp.irigLast = some a → irigFollows a (2 * irigUtc (Machine.pass 5 st12) (irigDecode fr) + if (irigDecode fr).sec = 60 then 1 else 0) = true) ∧ rd st12 TKP_IRIGIN_STAT_FLOCK = 0 ∧ max 1 (rd st12 TKP_IRIGIN_CFG_LOCK_N) ≤ st12.tkp.irigOk + 1)
    -- dt = secU, age = 1, k = 1, els = fr, s = st14
    ∧ (Between st14 ∧ rd st14 TKP_IRIGIN_CFG_EN = 1 ∧ isolated st14 8 = false ∧ live st14 8 = true ∧ st14.img.applied = true ∧ tabGet st14.img.routes 304 255 ≠ 255 ∧ ballOff st14 (inBall (tabGet st14.img.routes 304 255)) = false ∧ st14.tkp.txHold = false ∧ st14.tkp.irigFrom + 1 ≤ st14.now + secU ∧ irigValid st14 (irigDecode fr) = true ∧ (rd st14 TKP_UTC_DAT_FORCE = 1 ∨ actSlot st14 (timeDpll st14) ≠ some 29) ∧ (∀ (a : ℕ), st14.tkp.irigLast = some a → irigFollows a (2 * irigUtc (Machine.pass secU st14) (irigDecode fr) + if (irigDecode fr).sec = 60 then 1 else 0) = true) ∧ rd st14 TKP_IRIGIN_STAT_FLOCK = 0 ∧ max 1 (rd st14 TKP_IRIGIN_CFG_LOCK_N) ≤ st14.tkp.irigOk + 1)
    -- dt = 5, age = 1, k = 1, els = fr, s = st13
    ∧ (Between st13 ∧ rd st13 TKP_IRIGIN_STAT_FLOCK = 1)
    -- dt = 5, age = 1, k = 1, els = fr2, s = st11
    ∧ (Between st11 ∧ rd st11 TKP_IRIGIN_CFG_EN = 1 ∧ isolated st11 8 = false ∧ live st11 8 = true ∧ st11.img.applied = true ∧ tabGet st11.img.routes 304 255 ≠ 255 ∧ ballOff st11 (inBall (tabGet st11.img.routes 304 255)) = false ∧ st11.tkp.txHold = false ∧ st11.tkp.irigFrom + 1 ≤ st11.now + 5 ∧ irigValid st11 (irigDecode fr2) = false)
    -- dt = 5, age = 1, k = 1, els = fr2, s = st13
    ∧ (Between st13 ∧ rd st13 TKP_IRIGIN_CFG_EN = 1 ∧ isolated st13 8 = false ∧ live st13 8 = true ∧ st13.img.applied = true ∧ tabGet st13.img.routes 304 255 ≠ 255 ∧ ballOff st13 (inBall (tabGet st13.img.routes 304 255)) = false ∧ st13.tkp.txHold = false ∧ st13.tkp.irigFrom + 1 ≤ st13.now + 5 ∧ irigValid st13 (irigDecode fr2) = false) := by
  simp only [Between]
  decide +kernel

theorem witness_TheBackupClockAndItsBatches :
    -- dt = 5, data = 305430528, t = 77, s = st15
    (Between st15 ∧ (¬(aonGet st15 TKP_RTC_STAT_RUN = 1 ∧ nextRtcEdge st15 * slowU = slowEdgeAfter st15.now 1)))
    -- dt = 5, data = 305430528, t = 77, s = st18
    ∧ (Between st18 ∧ (¬(aonGet st18 TKP_RTC_STAT_RUN = 1 ∧ nextRtcEdge st18 * slowU = slowEdgeAfter st18.now 1)))
    -- dt = 5, data = 305430528, t = 77, s = st15
    ∧ (Between st15 ∧ aonGet st15 TKP_RTC_STAT_RUN = 0)
    -- dt = 5, data = 305430528, t = 77, s = st18
    ∧ (Between st18 ∧ aonGet st18 TKP_RTC_STAT_RUN = 0)
    -- dt = 5, data = 305430528, t = 77, s = st15
    ∧ (Between st15 ∧ HostIdle st15 ∧ st15.img.applied = true ∧ prTarget st15 ≠ some 8 ∧ (ix st15.aon.grp 0).landAt = none ∧ (ix st15.aon.grp 0).hw = [])
    -- dt = 5, data = 305430528, t = 77, s = st17
    ∧ (Between st17 ∧ HostIdle st17 ∧ st17.img.applied = true ∧ prTarget st17 ≠ some 8 ∧ (ix st17.aon.grp 0).landAt = none ∧ (ix st17.aon.grp 0).hw = [])
    -- dt = 5, data = 305430528, t = 77, s = st15
    ∧ (Between st15 ∧ (ix st15.aon.grp 0).landAt = none)
    -- dt = 5, data = 305430528, t = 77, s = st17
    ∧ (Between st17 ∧ (ix st17.aon.grp 0).landAt = none)
    -- dt = 5, data = 305430528, t = 77, s = st15
    ∧ (Between st15)
    -- dt = 5, data = 305430528, t = 77, s = st18
    ∧ (Between st18)
    -- dt = 5, data = 305430528, t = 77, s = st15, mv = 1899
    ∧ (Between st15 ∧ 1899 < 1900 ∧ aonGet st15 TKP_RTC_STAT_VBAT_LOW = 0)
    -- dt = 5, data = 305430528, t = 77, s = st18, mv = 1899
    ∧ (Between st18 ∧ 1899 < 1900 ∧ aonGet st18 TKP_RTC_STAT_VBAT_LOW = 0)
    -- dt = 5, data = 305430528, t = 77, s = st16
    ∧ (Between st16 ∧ aonGet st16 TKP_RTC_STAT_RUN = 1)
    -- dt = 5, data = 305430528, t = 77, s = st17
    ∧ (Between st17 ∧ aonGet st17 TKP_RTC_STAT_RUN = 1)
    -- dt = 5, data = 305430528, t = 77, s = st16
    ∧ (Between st16 ∧ aonGet st16 TKP_RTC_STAT_RUN = 1 ∧ st16.tkp.waitRtc = true)
    -- dt = 5, data = 305430528, t = 77, s = st17
    ∧ (Between st17 ∧ aonGet st17 TKP_RTC_STAT_RUN = 1 ∧ st17.tkp.waitRtc = true)
    -- dt = 5, data = 305430528, t = 77, s = st16
    ∧ (Between st16 ∧ aonGet st16 TKP_RTC_STAT_RUN ≠ 0)
    -- dt = 5, data = 305430528, t = 77, s = st17
    ∧ (Between st17 ∧ aonGet st17 TKP_RTC_STAT_RUN ≠ 0)
    -- dt = 5, data = 305430528, t = 77, s = st18
    ∧ (Between st18 ∧ (ix st18.aon.grp 0).landAt = some 77 ∧ (ix st18.aon.grp 0).batch = [{ addr := 8388748, alias_ := 0, be := 15, data := 305430528 }] ∧ st18.img.rws = [] ∧ st18.img.work = none)
    ∧ (Between st18 ∧ 1024 < st18.aon.unbroken) := by
  simp only [HostIdle, Between]
  decide +kernel

end WTkp

namespace WMns

def mn (st : Nat) (c : ChanS) (f : MnsS → MnsS) : State :=
  { ((List.range 6).foldl (fun s i => put (MNS_CHn_STAT_STATE i) 2 s) base |> put (MNS_CHn_STAT_STATE 5) st |> put (MNS_CHn_STAT_CLIP 5) 1 |> put (MNS_CHn_CFG_EN 5) 1 |> put MNS_GCFG_SEQ1_EN 1 |> put (MNS_CHn_LIM_AMIN 5) 5)
    with tkp := { base.tkp with run := true }, tod := 1700000000 * secT + 777, mns := f { base.mns with ch := vset base.mns.ch 5 c } }
def xs6 : List Int := [1000, -5, 7, 32767, -32768, 0]
def st1 : State := mn 0 {} id
def st2 : State := put (MNS_CHn_CFG_EN 5) 0 (mn 4 { ext := some 5, drop := 88 } id)
def ch2 : ChanS := { f := 50 * 2 ^ 48, phi := 300 * 2 ^ 48 + 2 ^ 47, t := 1700000000 * secT, amp := 70000 }
def sl (l : List Nat) (d : Nat) : MnsS → MnsS := fun m => { m with seqLast := vset m.seqLast 1 l, seqDir := vset m.seqDir 1 d, grid := { m.grid with p := 2 ^ 50 + 5, dev := 123456789012 * 2 ^ 40 }, t := 1700000000 * secT }
def st3 : State := mn 2 ch2 (sl [seqClass (mn 2 ch2 id) 1, seqClass (mn 2 ch2 id) 1] 2)
def ch3 (p : Int) : ChanS := { f := 50 * 2 ^ 48, phi := p, t := 1700000000 * secT, amp := 70000 }
def m3 : State := mn 2 ch2 (fun m => sl [1, 1] 2 { m with ch := Vector.ofFn (fun i => ch3 (if i.val = 3 then 0 else if i.val = 4 then -(2:Int)^64/3 else if i.val = 5 then -(2:Int)^65/3 else 5)) })
def st5 : State := put MNS_SEQSTAT_G1 2 (mn 3 ch2 (sl [1] 2))
def as_ (st : Nat) (x : AstS) : State := { (put AST_CFG_EN 1 (put AST_STAT_STATE st base) |> put TKP_STAT_TIME_SET 1 |> put (AST_THRk_EN 3) 1 |> put AST_STAT_GEN 255 |> put (AST_DAYd_DATE_YEAR 0) 2024 |> put (AST_DAYd_DATE_MONTH 0) 2 |> put (AST_DAYd_DATE_DAY 0) 28|> put (AST_DAYd_DATE_YEAR 1) 2024 |> put (AST_DAYd_DATE_MONTH 1) 2 |> put (AST_DAYd_DATE_DAY 1) 29 |> put (AST_DAYd_EVe_HI_NOEVT 1 3) 1) with tod := 1709163000 * secT, ast := x, tkp := { base.tkp with run := true } }
def st6 : State := as_ 3 { done := some (5, true) }
def st8 : State := as_ 2 { busy := some true }
def st9 : State := as_ 3 { published := true }

theorem witness_MainsChannelsAndSequences :
    -- dt = 5, n = 5, g = 1, xs = xs6, s = st1
    (Between st1 ∧ 5 < 6 ∧ 1 < 2 ∧ st1.tkp.run = true ∧ seqHeld st1 = false ∧ rd st1 MNS_GT_CFG_EN = 0 ∧ st1.mns.grid.run = false)
    -- dt = 5, n = 5, g = 1, xs = xs6, s = st5
    ∧ (Between st5 ∧ 5 < 6 ∧ 1 < 2 ∧ st5.tkp.run = true ∧ seqHeld st5 = false ∧ rd st5 MNS_GT_CFG_EN = 0 ∧ st5.mns.grid.run = false)
    -- dt = 5, n = 5, g = 1, xs = xs6, s = st1
    ∧ (Between st1 ∧ 5 < 6 ∧ 1 < 2 ∧ rd st1 (MNS_CHn_STAT_CLIP 5) = 1)
    -- dt = 5, n = 5, g = 1, xs = xs6, s = st5
    ∧ (Between st5 ∧ 5 < 6 ∧ 1 < 2 ∧ rd st5 (MNS_CHn_STAT_CLIP 5) = 1)
    -- dt = 5, n = 5, g = 1, xs = xs6, s = st1
    ∧ (Between st1 ∧ 5 < 6 ∧ 1 < 2 ∧ live st1 9 = true ∧ ((¬if 1 = 0 then rd st1 MNS_GCFG_SEQ0_EN = 1 else rd st1 MNS_GCFG_SEQ1_EN = 1) ∨ ¬∀ i < 3, rd st1 (MNS_CHn_STAT_STATE (3 * 1 + i)) = 2))
    -- dt = 5, n = 5, g = 1, xs = xs6, s = st5
    ∧ (Between st5 ∧ 5 < 6 ∧ 1 < 2 ∧ live st5 9 = true ∧ ((¬if 1 = 0 then rd st5 MNS_GCFG_SEQ0_EN = 1 else rd st5 MNS_GCFG_SEQ1_EN = 1) ∨ ¬∀ i < 3, rd st5 (MNS_CHn_STAT_STATE (3 * 1 + i)) = 2))
    -- dt = 5, n = 5, g = 1, xs = xs6, s = st1
    ∧ (Between st1 ∧ 5 < 6 ∧ 1 < 2 ∧ Open st1 9437476)
    -- dt = 5, n = 5, g = 1, xs = xs6, s = st5
    ∧ (Between st5 ∧ 5 < 6 ∧ 1 < 2 ∧ Open st5 9437476)
    -- dt = 5, n = 5, g = 1, xs = xs6, s = st2
    ∧ (Between st2 ∧ 5 < 6 ∧ 1 < 2 ∧ rd st2 (MNS_CHn_STAT_STATE 5) = 4)
    -- dt = 5, n = 5, g = 1, xs = xs6, s = st3
    ∧ (Between st3 ∧ 5 < 6 ∧ 1 < 2 ∧ rd st3 (MNS_CHn_STAT_STATE 5) = 2 ∧ 0 < (ix st3.mns.ch 5).f ∧ (ix st3.mns.ch 5).pulsed ≠ some ((ix st3.mns.ch 5).phi / ↑turn + 1) ∧ live st3 9 = true)
    -- dt = 5, n = 5, g = 1, xs = xs6, s = m3
    ∧ (Between m3 ∧ 5 < 6 ∧ 1 < 2 ∧ rd m3 (MNS_CHn_STAT_STATE 5) = 2 ∧ 0 < (ix m3.mns.ch 5).f ∧ (ix m3.mns.ch 5).pulsed ≠ some ((ix m3.mns.ch 5).phi / ↑turn + 1) ∧ live m3 9 = true)
    -- dt = 5, n = 5, g = 1, xs = xs6, s = st3
    ∧ (Between st3 ∧ 5 < 6 ∧ 1 < 2 ∧ live st3 9 = true ∧ (if 1 = 0 then rd st3 MNS_GCFG_SEQ0_EN = 1 else rd st3 MNS_GCFG_SEQ1_EN = 1) ∧ (∀ i < 3, rd st3 (MNS_CHn_STAT_STATE (3 * 1 + i)) = 2) ∧ List.take 2 (ix st3.mns.seqLast 1) = [seqClass st3 1, seqClass st3 1] ∧ (rd st3 (if 1 = 0 then MNS_SEQSTAT_G0 else MNS_SEQSTAT_G1) ≠ seqClass st3 1))
    -- dt = 5, n = 5, g = 1, xs = xs6, s = m3
    ∧ (Between m3 ∧ 5 < 6 ∧ 1 < 2 ∧ live m3 9 = true ∧ (if 1 = 0 then rd m3 MNS_GCFG_SEQ0_EN = 1 else rd m3 MNS_GCFG_SEQ1_EN = 1) ∧ (∀ i < 3, rd m3 (MNS_CHn_STAT_STATE (3 * 1 + i)) = 2) ∧ List.take 2 (ix m3.mns.seqLast 1) = [seqClass m3 1, seqClass m3 1] ∧ (rd m3 (if 1 = 0 then MNS_SEQSTAT_G0 else MNS_SEQSTAT_G1) ≠ seqClass m3 1)) := by
  simp only [Open, HostIdle, Between]
  decide +kernel

theorem witness_SolarTablesAreComputedAndRolled :
    -- dt = 7 * cycU, e = 0, s = st6
    (Between st6 ∧ 0 < 17 ∧ Open st6 10485792 ∧ (∀ q ∈ st6.ast.done, q.1 < cycleNow (Machine.pass (7 * cycU) st6)) ∧ rd st6 AST_CFG_EN = 1 ∧ rd st6 AST_STAT_STATE = 3 ∧ astErr st6 = false ∧ astRange (Machine.pass (7 * cycU) st6) = false ∧ isolated st6 10 = false ∧ live st6 10 = true)
    -- dt = 7 * cycU, e = 15, s = st9
    ∧ (Between st9 ∧ 15 < 17 ∧ Open st9 10485792 ∧ (∀ q ∈ st9.ast.done, q.1 < cycleNow (Machine.pass (7 * cycU) st9)) ∧ rd st9 AST_CFG_EN = 1 ∧ rd st9 AST_STAT_STATE = 3 ∧ astErr st9 = false ∧ astRange (Machine.pass (7 * cycU) st9) = false ∧ isolated st9 10 = false ∧ live st9 10 = true)
    -- dt = 7 * cycU, e = 0, s = st8
    ∧ (Between st8 ∧ 0 < 17 ∧ st8.ast.busy = some true ∧ st8.ast.busyAt ≠ cycleNow (Machine.pass (7 * cycU) st8) + 1 ∧ isolated st8 10 = false ∧ live st8 10 = true)
    -- dt = 7 * cycU, e = 15, s = st8
    ∧ (Between st8 ∧ 15 < 17 ∧ st8.ast.busy = some true ∧ st8.ast.busyAt ≠ cycleNow (Machine.pass (7 * cycU) st8) + 1 ∧ isolated st8 10 = false ∧ live st8 10 = true)
    -- dt = 7 * cycU, e = 0, s = st9
    ∧ (Between st9 ∧ 0 < 17 ∧ astRolls st9 = true)
    -- dt = 7 * cycU, e = 15, s = st9
    ∧ (Between st9 ∧ 15 < 17 ∧ astRolls st9 = true) := by
  simp only [Open, HostIdle, Between]
  decide +kernel

end WMns

namespace WSch

def T0 : Nat := 1700000000
def sc (st : Nat) (f : State → State) : State :=
  f <| cc { (base |> put SCH_STAT_STATE st |> put (SCH_CHn_CFG_EN 47) 1 |> put (SCH_CHn_CFG_EN 46) 1 |> put (SCH_CHn_STAT_IN_FAIL 47) 0 |> put (SCH_CHn_STAT_IN_FAIL 46) 0 |> put TKP_STAT_TIME_SET 1 |> put SCH_ENT_IDX_IDX 4095
        |> put (SCH_GRPg_MEM_COUNT 63) 2 |> put (SCH_GRPg_MEM_START 63) 510 |> put (SCH_GRPg_TIM_DL 63) 5 |> put (SCH_GRPg_TIM_ALEAD 63) 10)
    with tkp := { base.tkp with run := true, secAt := T0 }, tod := T0 * secT + 777, sch := { base.sch with mem := [(510, 46), (511, 47)], scanSec := T0 } }
def w0 (kind tgt act : Nat) : Nat := 2^31 + kind * 2^18 + tgt * 2^7 + act * 2^20
def stage (w : Nat) (sec : Nat) (s : State) : State := s |> put (SCH_ENT_D_D 0) w |> put (SCH_ENT_D_D 1) 0 |> put (SCH_ENT_D_D 2) sec |> put (SCH_ENT_D_D 3) 5
def e1 : State := sc 3 (stage (w0 0 47 1) (T0 + 5))
def putE (i : Nat) (w sec : Nat) (s : State) : State := { s with sch := { s.sch with ents := [(4*i, w), (4*i+2, sec), (4*i+3, 5)] } }
def st1 : State := sc 1 (stage (w0 0 47 1 + 1) (T0 + 5))
def st2 : State := putE 4095 5 6 (put (SCH_CHn_STAT_STATE 47) 1 e1)
def st3 : State := { e1 with nvm := { e1.nvm with offers := [{ owner := 0 }] } }
def ch (f : ChanSw → ChanSw) (s : State) : State := { s with sch := { s.sch with ch := vset s.sch.ch 47 (f (ix s.sch.ch 47)) } }
def r1 : State := sc 3 (putE 4095 (w0 0 47 1) (T0 + 5))
def fbw : FbWait := { id := 3, want := true, dl := 900000000000000 }
def j_4 : Inst := { t := (T0 + 5) * 65536000000000 + 5 * 65536 }
def st5 : State := sc 1 id
def st7 : State := put (SCH_CHn_STAT_BUSY 47) 1 (sc 3 (ch (fun c => { c with ball := 46, back := true, pulseEnd := 99, fb := [fbw] })))
def st8 : State := put (SCH_CHn_STAT_BUSY 47) 1 (sc 3 (ch (fun c => { c with ball := 47, back := false, pulseEnd := 99, fb := [fbw] })))
def st11 : State := put (SCH_CHn_STAT_STATE 47) 1 (sc 1 id)
def st12 : State := sc 2 (fun s => { s with sch := { s.sch with tR := some (T0 * 65536000000000 + 7 * 65536) } })
def rcs (k ph : Nat) (r : RcS) (s : State) : State := put (SCH_RCk_STAT_PHASE k) ph { s with sch := { s.sch with rc := vset s.sch.rc k r } }
def x47 : TgtS := { code := 47 }
def xr : TgtS := { code := 16384 + 47 * 16 }
def st13 : State := sc 3 (rcs 7 2 { plain := true, act := 1, group := 63, tf := (T0 + 5) * 65536000000000, tgts := [xr] })
def tfr (s : State) : State := s |> put (SCH_RCk_TF_LO_SEC 3) (T0 + 5) |> put (SCH_RCk_TF_HI_NS 3) 999999999
def st14 : State := sc 3 tfr
def st15 : State := sc 1 id
def st16 : State := put (SCH_CHn_STAT_IN_FAIL 47) 1 (sc 3 tfr)
def x_17 := { x47 with owed := true }
def x_18 := { x47 with owed := true, final := true }
def st19 : State := sc 3 (rcs 3 2 { act := 1, group := 63, tf := (T0 + 5) * 65536000000000, tgts := [{ x47 with owed := true }] })
def st20 : State := sc 3 (rcs 3 1 { act := 1, group := 63, dl := 5, tf := (T0 + 5) * 65536000000000, tgts := [x47] })
def st21 : State := sc 3 (rcs 3 2 { act := 1, group := 63, tf := T0 * 65536000000000, tgts := [{ x47 with owed := true, final := true }], fired := true })
def ge : State := sc 3 (putE 4095 (w0 3 63 1) (T0 + 5))
def j_22 : Inst := { t := (T0 + 5) * 65536000000000 + 5 * 65536 }
def st23 : State := [4,5,6,7].foldl (fun s k => rcs k 2 { tf := (T0 + 50) * 65536000000000 } s) ge
def x_24 := { x47 with owed := true }
def st25 : State := sc 3 (rcs 3 2 { act := 1, group := 63, tf := (T0 + 5) * 65536000000000, tgts := [{ x47 with owed := true }] })
def st26 : State := sc 3 (rcs 3 2 { act := 1, group := 63, tf := T0 * 65536000000000 - 9, tgts := [{ x47 with owed := true }] })
def st28 : State := sc 3 (rcs 3 2 { act := 1, group := 63, tf := T0 * 65536000000000 - 9, tgts := [{ x47 with owed := true, final := true }, x47], fired := true })
def offS : State := let s := sc 3 id; { s with img := { s.img with pinmux := [((fbBall 47).1 * 32 + (fbBall 47).2, 1)] } }

theorem witness_ScheduleEntriesAndCommandsAct :
    -- dt = 5, n = 47, act = 0, data = 77, s = e1
    (Between e1 ∧ Open e1 11534356)
    -- dt = 5, n = 47, act = 0, data = 77, s = st3
    ∧ (Between st3 ∧ Open st3 11534356)
    -- dt = 5, n = 47, act = 0, data = 77, s = e1
    ∧ (Between e1 ∧ Open e1 11534356 ∧ entBusy e1 = false ∧ live e1 11 = true ∧ entCheck (chForm e1) (staged e1) = 0 ∧ (entValid (staged e1) = false ∨ entTb (staged e1) ≠ 0 ∨ now16 (Machine.pass 5 e1) < entAbs (staged e1)))
    -- dt = 5, n = 47, act = 0, data = 77, s = st2
    ∧ (Between st2 ∧ Open st2 11534356 ∧ entBusy st2 = false ∧ live st2 11 = true ∧ entCheck (chForm st2) (staged st2) = 0 ∧ (entValid (staged st2) = false ∨ entTb (staged st2) ≠ 0 ∨ now16 (Machine.pass 5 st2) < entAbs (staged st2)))
    -- dt = 5, n = 47, act = 0, data = 77, s = e1
    ∧ (Between e1 ∧ Open e1 11534384 ∧ schActs e1 = true ∧ 47 < 48 ∧ 0 < 3 ∧ chForm e1 47 = 0 ∧ chTakes e1 47 0 = true ∧ rd e1 (SCH_CHn_CFG_FBEN 47) = 0 ∧ rd e1 (SCH_CHn_STAT_BUSY 47) = 0)
    -- dt = 5, n = 47, act = 2, data = 77, s = st3
    ∧ (Between st3 ∧ Open st3 11534384 ∧ schActs st3 = true ∧ 47 < 48 ∧ 2 < 3 ∧ chForm st3 47 = 0 ∧ chTakes st3 47 2 = true ∧ rd st3 (SCH_CHn_CFG_FBEN 47) = 0 ∧ rd st3 (SCH_CHn_STAT_BUSY 47) = 0)
    -- dt = 5, n = 47, act = 0, data = 77, s = st1
    ∧ (Between st1 ∧ Open st1 11534356 ∧ entBusy st1 = false ∧ live st1 11 = true ∧ entCheck (chForm st1) (staged st1) ≠ 0)
    ∧ (Between st1 ∧ Open st1 11534384 ∧ schActs st1 = false)
    -- dt = 5, n = 47, act = 0, data = 77, s = st3
    ∧ (Between st3 ∧ Open st3 11534356 ∧ (entBusy st3 = true ∨ live st3 11 = false)) := by
  simp only [Open, HostIdle, Between]
  decide +kernel

theorem witness_ComparatorsPulsesFeedbackAndRecovery :
    -- dt = 5, n = 47, level = true, s = r1, i = 4095, j = j_4
    (Between r1 ∧ 47 < 48 ∧ schRuns r1 = true ∧ loadable r1 47 = [(4095, j_4)] ∧ (ix r1.sch.ch 47).load = [] ∧ entQen (ent r1 4095) = false)
    -- dt = 5, n = 47, level = true, s = r1
    ∧ (Between r1 ∧ 47 < 48 ∧ (schRuns r1 = false ∨ (ix r1.sch.ch 47).load = []))
    -- dt = 5, n = 47, level = true, s = offS
    ∧ (Between offS ∧ 47 < 48 ∧ (schRuns offS = false ∨ (ix offS.sch.ch 47).load = []))
    -- dt = 5, n = 47, level = true, s = r1
    ∧ (Between r1 ∧ 47 < 48 ∧ rd r1 (SCH_CHn_STAT_BUSY 47) = 0)
    -- dt = 5, n = 47, level = true, s = offS
    ∧ (Between offS ∧ 47 < 48 ∧ rd offS (SCH_CHn_STAT_BUSY 47) = 0)
    -- dt = 5, n = 47, level = true, s = r1
    ∧ (Between r1 ∧ 47 < 48 ∧ ballOff r1 (fbBall 47) = false ∧ (ix r1.sch.ch 47).fb = [])
    -- dt = 5, n = 47, level = true, s = st13
    ∧ (Between st13 ∧ 47 < 48 ∧ ballOff st13 (fbBall 47) = false ∧ (ix st13.sch.ch 47).fb = [])
    -- dt = 5, n = 47, level = true, s = r1
    ∧ (Between r1 ∧ 47 < 48 ∧ (ix r1.sch.ch 47).fb = [])
    -- dt = 5, n = 47, level = true, s = offS
    ∧ (Between offS ∧ 47 < 48 ∧ (ix offS.sch.ch 47).fb = [])
    -- dt = 5, n = 47, level = true, s = r1
    ∧ (Between r1 ∧ 47 < 48 ∧ recoverMay r1 = false)
    -- dt = 5, n = 47, level = true, s = offS
    ∧ (Between offS ∧ 47 < 48 ∧ recoverMay offS = false)
    -- dt = 5, n = 47, level = true, s = st5
    ∧ (Between st5 ∧ 47 < 48 ∧ (schRuns st5 = false ∨ loadable st5 47 = []))
    -- dt = 5, n = 47, level = true, s = offS
    ∧ (Between offS ∧ 47 < 48 ∧ (schRuns offS = false ∨ loadable offS 47 = []))
    -- dt = 5, n = 47, level = true, s = st5
    ∧ (Between st5 ∧ 47 < 48 ∧ st5.tkp.run = true ∧ seqHeld st5 = false ∧ rd st5 SCH_STAT_STATE = 1)
    -- dt = 5, n = 47, level = true, s = st11
    ∧ (Between st11 ∧ 47 < 48 ∧ st11.tkp.run = true ∧ seqHeld st11 = false ∧ rd st11 SCH_STAT_STATE = 1)
    -- dt = 5, n = 47, level = true, s = st5
    ∧ (Between st5 ∧ 47 < 48 ∧ recoverMay st5 = true ∧ st5.sch.why ≠ some RecovWhy.l0)
    -- dt = 5, n = 47, level = true, s = st11
    ∧ (Between st11 ∧ 47 < 48 ∧ recoverMay st11 = true ∧ st11.sch.why ≠ some RecovWhy.l0)
    -- dt = 5, n = 47, level = true, s = st5
    ∧ (Between st5 ∧ 47 < 48 ∧ (schRuns st5 = false ∨ validEnts st5 = [] ∧ ∀ k < 8, rcPhase st5 k ≠ 2))
    -- dt = 5, n = 47, level = true, s = offS
    ∧ (Between offS ∧ 47 < 48 ∧ (schRuns offS = false ∨ validEnts offS = [] ∧ ∀ k < 8, rcPhase offS k ≠ 2))
    -- dt = 5, n = 47, level = true, s = st7
    ∧ (Between st7 ∧ 47 < 48 ∧ rd st7 (SCH_CHn_STAT_BUSY 47) = 1 ∧ (ix st7.sch.ch 47).wait = [])
    -- dt = 5, n = 47, level = true, s = st8
    ∧ (Between st8 ∧ 47 < 48 ∧ rd st8 (SCH_CHn_STAT_BUSY 47) = 1 ∧ (ix st8.sch.ch 47).wait = [])
    -- dt = 5, n = 47, level = true, s = st12, hi = 111411200000000000458752
    ∧ (Between st12 ∧ 47 < 48 ∧ st12.sch.tR = some 111411200000000000458752 ∧ rd st12 SCH_STAT_STATE = 2 ∧ inSafe st12 = false ∧ validEnts st12 = [] ∧ st12.sch.why ≠ some RecovWhy.modeAs ∧ (st12.sch.why ≠ some RecovWhy.l0 ∨ rd st12 SCH_CFG_RESTORE = 0) ∧ (∀ k < 8, rcPhase st12 k ≠ 2))
    -- dt = 5, n = 47, level = true, s = st13, k = 7, x = xr
    ∧ (Between st13 ∧ 47 < 48 ∧ 7 < 8 ∧ schRuns st13 = true ∧ validEnts st13 = [] ∧ (∀ m < 8, m ≠ 7 → rcPhase st13 m ≠ 2) ∧ rcPhase st13 7 = 2 ∧ (ix st13.sch.rc 7).plain = true ∧ (ix st13.sch.rc 7).fired = false ∧ (ix st13.sch.rc 7).tgts = [xr] ∧ isRemote xr.code = true ∧ xr.armed = false)
    -- dt = 5, n = 47, level = true, s = offS
    ∧ (Between offS ∧ 47 < 48 ∧ ballOff offS (fbBall 47) = true) := by
  simp only [Between]
  decide +kernel

theorem witness_RegisteredCommandsRunTheirSteps :
    -- dt = 5, k = 3, g = 63, act = 0, s = st14
    (Between st14 ∧ 3 < 4 ∧ 63 < 64 ∧ 0 < 4 ∧ Open st14 (11536256 + 32 * 3) ∧ schActs st14 = true ∧ rcFree st14 3 = true ∧ groupErr st14 63 = false ∧ (∀ c ∈ groupMembers st14 63, isLocal c = true) ∧ now16 (Machine.pass 5 st14) + ms16 (rd st14 (SCH_GRPg_TIM_DL 63)) + ms16 1 ≤ rcTf st14 3)
    -- dt = 5, k = 3, g = 63, act = 3, s = st16
    ∧ (Between st16 ∧ 3 < 4 ∧ 63 < 64 ∧ Open st16 (11536256 + 32 * 3) ∧ schActs st16 = true ∧ rcFree st16 3 = true ∧ groupErr st16 63 = false ∧ (∀ c ∈ groupMembers st16 63, isLocal c = true) ∧ now16 (Machine.pass 5 st16) + ms16 (rd st16 (SCH_GRPg_TIM_DL 63)) + ms16 1 ≤ rcTf st16 3)
    -- dt = 5, k = 3, g = 63, act = 0, s = st14
    ∧ (Between st14 ∧ 3 < 4 ∧ 63 < 64 ∧ 0 < 4 ∧ Open st14 (11536256 + 32 * 3) ∧ schActs st14 = true ∧ rcFree st14 3 = true ∧ groupErr st14 63 = false ∧ (∀ c ∈ groupMembers st14 63, isLocal c = true) ∧ now16 (Machine.pass 5 st14) < rcTf st14 3)
    -- dt = 5, k = 3, g = 63, act = 3, s = st16
    ∧ (Between st16 ∧ 3 < 4 ∧ 63 < 64 ∧ Open st16 (11536256 + 32 * 3) ∧ schActs st16 = true ∧ rcFree st16 3 = true ∧ groupErr st16 63 = false ∧ (∀ c ∈ groupMembers st16 63, isLocal c = true) ∧ now16 (Machine.pass 5 st16) < rcTf st16 3)
    -- dt = 5, k = 3, g = 63, act = 0, s = st14
    ∧ (Between st14 ∧ 3 < 4 ∧ 63 < 64 ∧ 0 < 4 ∧ rcPhase st14 3 ≠ 1)
    -- dt = 5, k = 3, g = 63, act = 1, s = st28
    ∧ (Between st28 ∧ 3 < 4 ∧ 63 < 64 ∧ 1 < 4 ∧ rcPhase st28 3 ≠ 1)
    -- dt = 5, k = 3, g = 63, act = 0, s = st14
    ∧ (Between st14 ∧ 3 < 4 ∧ 63 < 64 ∧ 0 < 4 ∧ (∀ x ∈ (ix st14.sch.rc 3).tgts, x.owed = false))
    -- dt = 5, k = 3, g = 63, act = 1, s = st23
    ∧ (Between st23 ∧ 3 < 4 ∧ 63 < 64 ∧ 1 < 4 ∧ (∀ x ∈ (ix st23.sch.rc 3).tgts, x.owed = false))
    -- dt = 5, k = 3, g = 63, act = 0, s = st14
    ∧ (Between st14 ∧ 3 < 4 ∧ 63 < 64 ∧ 0 < 4 ∧ rcPhase st14 3 ≠ 2)
    -- dt = 5, k = 3, g = 63, act = 1, s = st23
    ∧ (Between st23 ∧ 3 < 4 ∧ 63 < 64 ∧ 1 < 4 ∧ rcPhase st23 3 ≠ 2)
    -- dt = 5, k = 3, g = 63, act = 0, s = st14
    ∧ (Between st14 ∧ 3 < 4 ∧ 63 < 64 ∧ 0 < 4 ∧ (schRuns st14 = false ∨ validEnts st14 = []))
    -- dt = 5, k = 3, g = 63, act = 1, s = st28
    ∧ (Between st28 ∧ 3 < 4 ∧ 63 < 64 ∧ 1 < 4 ∧ (schRuns st28 = false ∨ validEnts st28 = []))
    -- dt = 5, k = 3, g = 63, act = 0, s = st15
    ∧ (Between st15 ∧ 3 < 4 ∧ 63 < 64 ∧ 0 < 4 ∧ Open st15 (11536256 + 32 * 3) ∧ (schActs st15 = false ∨ rcFree st15 3 = false))
    -- dt = 5, k = 3, g = 63, act = 1, s = st28
    ∧ (Between st28 ∧ 3 < 4 ∧ 63 < 64 ∧ 1 < 4 ∧ Open st28 (11536256 + 32 * 3) ∧ (schActs st28 = false ∨ rcFree st28 3 = false))
    -- dt = 5, k = 3, g = 63, act = 1, s = st19
    ∧ (Between st19 ∧ 3 < 4 ∧ 63 < 64 ∧ 1 < 4 ∧ Open st19 (11536256 + 32 * 3) ∧ rcPhase st19 3 = 2 ∧ (ix st19.sch.rc 3).plain = false)
    -- dt = 5, k = 3, g = 63, act = 1, s = st28
    ∧ (Between st28 ∧ 3 < 4 ∧ 63 < 64 ∧ 1 < 4 ∧ Open st28 (11536256 + 32 * 3) ∧ rcPhase st28 3 = 2 ∧ (ix st28.sch.rc 3).plain = false)
    -- dt = 5, k = 3, g = 63, act = 1, s = st19, x = x_17
    ∧ (Between st19 ∧ 3 < 4 ∧ 63 < 64 ∧ 1 < 4 ∧ (ix st19.sch.rc 3).tgts = [x_17] ∧ x_17.owed = true ∧ st19.crl.pool = [] ∧ now16 (Machine.pass msU st19) < (ix st19.sch.rc 3).tf)
    -- dt = 5, k = 3, g = 63, act = 1, s = st25, x = x_24
    ∧ (Between st25 ∧ 3 < 4 ∧ 63 < 64 ∧ 1 < 4 ∧ (ix st25.sch.rc 3).tgts = [x_24] ∧ x_24.owed = true ∧ st25.crl.pool = [] ∧ now16 (Machine.pass msU st25) < (ix st25.sch.rc 3).tf)
    -- dt = 5, k = 3, g = 63, act = 1, s = st19, x = x_17
    ∧ (Between st19 ∧ 3 < 4 ∧ 63 < 64 ∧ 1 < 4 ∧ rcPhase st19 3 = 2 ∧ (ix st19.sch.rc 3).fired = false ∧ schActs st19 = true ∧ (ix st19.sch.rc 3).entry = 4096 ∧ (ix st19.sch.rc 3).tgts = [x_17] ∧ isLocal x_17.code = true)
    -- dt = 5, k = 3, g = 63, act = 1, s = st26, x = x_24
    ∧ (Between st26 ∧ 3 < 4 ∧ 63 < 64 ∧ 1 < 4 ∧ rcPhase st26 3 = 2 ∧ (ix st26.sch.rc 3).fired = false ∧ schActs st26 = true ∧ (ix st26.sch.rc 3).entry = 4096 ∧ (ix st26.sch.rc 3).tgts = [x_24] ∧ isLocal x_24.code = true)
    -- dt = 5, k = 3, g = 63, act = 1, s = st20
    ∧ (Between st20 ∧ 3 < 4 ∧ 63 < 64 ∧ 1 < 4 ∧ Open st20 (11536256 + 32 * 3) ∧ rcPhase st20 3 = 1)
    ∧ (Between st20 ∧ 3 < 4 ∧ 63 < 64 ∧ 1 < 4 ∧ rcPhase st20 3 = 1 ∧ (ix st20.sch.rc 3).plain = false)
    -- dt = 5, k = 3, g = 63, act = 1, s = st21, x = x_18
    ∧ (Between st21 ∧ 3 < 4 ∧ 63 < 64 ∧ 1 < 4 ∧ (ix st21.sch.rc 3).tgts = [x_18] ∧ x_18.owed = true ∧ st21.crl.pool = [] ∧ (ix st21.sch.rc 3).tf ≤ now16 (Machine.pass msU st21))
    -- dt = 5, k = 3, g = 63, act = 1, s = st26, x = x_24
    ∧ (Between st26 ∧ 3 < 4 ∧ 63 < 64 ∧ 1 < 4 ∧ (ix st26.sch.rc 3).tgts = [x_24] ∧ x_24.owed = true ∧ st26.crl.pool = [] ∧ (ix st26.sch.rc 3).tf ≤ now16 (Machine.pass msU st26))
    -- dt = 5, k = 3, g = 63, act = 1, s = st21
    ∧ (Between st21 ∧ 3 < 4 ∧ 63 < 64 ∧ 1 < 4 ∧ rcPhase st21 3 = 2 ∧ (ix st21.sch.rc 3).fired = true ∧ (∀ x ∈ (ix st21.sch.rc 3).tgts, x.final = true))
    -- dt = 5, k = 3, g = 63, act = 1, s = ge, i = 4095, j = j_22
    ∧ (Between ge ∧ 3 < 4 ∧ 63 < 64 ∧ 1 < 4 ∧ schRuns ge = true ∧ validEnts ge = [4095] ∧ entKind (ent ge 4095) = 3 ∧ entTgt (ent ge 4095) = 63 ∧ entAct (ent ge 4095) = 1 ∧ pendAt ge 4095 49 = some j_22 ∧ groupErr ge 63 = false ∧ rcFree ge 4 = true ∧ (∀ c ∈ groupMembers ge 63, isLocal c = true) ∧ now16 (goTo16 (j_22.t - ms16 (rd ge (SCH_GRPg_TIM_ALEAD 63))) ge) + ms16 (rd ge (SCH_GRPg_TIM_DL 63)) + ms16 1 ≤ j_22.t)
    -- dt = 5, k = 3, g = 63, act = 1, s = st23, i = 4095, j = j_22
    ∧ (Between st23 ∧ 3 < 4 ∧ 63 < 64 ∧ 1 < 4 ∧ schRuns st23 = true ∧ validEnts st23 = [4095] ∧ entKind (ent st23 4095) = 3 ∧ entTgt (ent st23 4095) = 63 ∧ entAct (ent st23 4095) = 1 ∧ pendAt st23 4095 49 = some j_22 ∧ groupErr st23 63 = false ∧ rcFree st23 4 = false ∧ rcFree st23 5 = false ∧ rcFree st23 6 = false ∧ rcFree st23 7 = false) := by
  simp only [Open, HostIdle, Between]
  decide +kernel

end WSch

namespace WPtp

def po (st : Nat) (f : PtpS → PtpS) (g : PortS → PortS) (s : State := base) : State :=
  let s := { (s |> put (PTP_Pp_CFG_EN 3) 1 |> put (PTP_Pp_CFG_PTP_EN 3) 1 |> put (PTP_Pp_STAT_LINK 3) 1 |> put (PTP_Pp_STAT_STATE 3) st |> put (PTP_Pp_CFG_SERDES 3) 0
    |> put (PTP_Pp_RXLAT_LAT 3) 700 |> put (PTP_Pp_TXLAT_LAT 3) 0xFFFF0000 |> put (PTP_Pp_ASYM_A 3) 0xFFFFFFF0 |> put (PTP_Pp_CFG_PVID 3) 5 |> put (PTP_Pp_CFG_STEP 3) 0 |> put PTP_CLK_ID_LO_ID 77
    |> put (PTP_Pp_INTV_ANN_TO 3) 3)
    with tkp := { base.tkp with run := true }, tod := 1700000000 * secT + 777 * 2 ^ 55 }
  { s with ptp := f { s.ptp with port := vset s.ptp.port 3 (g (ix s.ptp.port 3)) } }
def par (x : PtpS) : PtpS := { x with parent := some (3, { srcId := 7, srcPort := 2, ann := { gmId := 7 } }) }
def mT : PtpMsg := { srcId := 7, srcPort := 2, seq := 9, corr := 300, twoStep := true, hdr := { etype := 0x88F7 } }
def mO : PtpMsg := { mT with twoStep := false }
def mX : PtpMsg := { mT with srcId := 77 }
def an : AnnData := { gmId := 7, cls := 6, acc := 33, p1 := 1 }
def TT : Int := 1700000000 * 1000000000 * 65536
def p2p (s : State) : State := put PTP_CLK_CFG_PROFILE 1 s
def st1 : State := po 8 par id
def st4 : State := po 6 id id
def st5 : State := po 9 par (fun x => { x with dreq := some (9, some (TT + 77)), syncDone := some (TT + 1, TT + 444, 44) })
def st6 : State := po 6 id id (p2p base)
def st7 : State := po 8 par (fun x => { x with pd := some (9, some (TT + 5)), pdResp := some (TT + 900, TT + 7777, 44) }) (p2p base)
def st8 : State := put (PTP_Pp_CFG_TAG 3) 1 (put (PTP_Pp_STAT_NRR_VALID 3) 1 (put (PTP_Pp_NRR_LO_R 3) 12345678 (po 9 par (fun x => { x with pd := some (9, some (TT + 5)), pdResp := some (TT + 900, TT + 7777, 44), nrr := [(1, 2), (3, 4)] }) (p2p base))))
def eg : Egress := { own := true, kind := 1, oneStep := true, seq := 3, launch := some 55 }
def eg2 : Egress := { own := false, kind := 1, oneStep := true, tc := true, ingress := some 3, link := 88, launch := some 55, corr := 9 }
def eg3 : Egress := { own := true, kind := 12, seq := 3 }
def q7 (j : Nat) (e : List Egress) (x : PortS) : PortS := { x with q := vset x.q j e }
def w_10 : TcWait := { port := 3, at_ := 777 }
def st11 : State := po 6 id (fun x => { x with sSync := 65535, syncAt := 99, annAt := 88, sAnn := 7 })
def st12 : State := po 8 par (fun x => { x with sDreq := 65535, dreqAt := 88, annDl := some 999 })
def st13 : State := po 6 id (fun x => { x with sDreq := 65535, dreqAt := 88, pdResp := some (1, 2, 3) }) (p2p base)
def st14 : State := po 4 id (fun x => { x with annDl := some 999 })
def st15 : State := po 5 id (fun x => { x with qualDl := some 9999 })
def st16 : State := po 3 (fun x => { x with tc := [{ port := 3, at_ := 777 }] }) id
def st17 : State := po 6 id id (modGen (fun g => { g with iso := vset g.iso 12 .isolated }) base)
def st19 : State := po 6 id (q7 7 [eg])
def st20 : State := po 6 id (q7 7 [eg2])
def st21 : State := po 6 id (q7 7 [eg3])
def st22 : State := po 6 id (q7 2 [{ eg2 with launch := none }])
def st23 : State := put (PTP_Pp_TSQCFG_CAP_PTP 3) 1 (po 6 id (q7 7 [eg3]))
def lk (l : List (Fld × Nat)) (s : State) : State := l.foldl (fun s x => put x.1 x.2 s) s
def st24 : State := lk [(PTP_Pp_CFG_EN 3, 0), (PTP_Pp_STAT_LINK 3, 0)] (po 3 id id)
def st25 : State := lk [(PTP_Pp_STAT_LINK 3, 0), (PTP_Pp_CFG_SERDES 3, 1)] (po 2 id (fun x => { x with esmcAt := some 99 }))
def st27 : State := lk [(PTP_Pp_STAT_CDR_LOCK 3, 1), (PTP_Pp_SE_CFG_SE_EN 3, 1), (PTP_Pp_SE_STAT_RX_SSM 3, 9)] (po 1 id (q7 2 [eg, { }, eg3]))
def st28 : State := put (PTP_Pp_SE_CFG_SE_EN 3) 1 (po 6 par (fun x => { x with esmcAt := some 99 }))
def es (x : Option Nat) (st : State → State) : State := st ({ base with img := { base.img with struct_ := { base.img.struct_ with synceDpll := 2, syncePorts := 8 } } } |> put GEN_MODESTAT_EFFECTIVE 4 |> put (PTP_Pp_SE_CFG_ESMC_TX 3) 1 |> put (PTP_Pp_SE_CFG_EXT 3) 1 |> put (SEL_SELd_STAT_ACT_VALID 2) (if x.isSome then 1 else 0) |> put (SEL_SELd_STAT_ACT_SLOT 2) (x.getD 0) |> put (SEL_SELd_STAT_ACT_QL 2) 2)
def st30 : State := es none (fun b => po 6 id id b)
def fr1 : FrameHdr := { dst := 0x123456, src := 0xABCDEF, tag := some (5, 3), etype := 0x800 }
def fr2 : FrameHdr := { fr1 with tag := none, bad := true }
def fr3 : FrameHdr := { fr1 with tag := none, len := 1500 }
def fd (f : PtpS → PtpS) : State := po 6 (fun x => f { x with vlan := [(5, 63 + 8*64)] }) id (lk [(PTP_Pp_CFG_EN 5, 1), (PTP_Pp_STAT_LINK 5, 1), (PTP_FDB_LO_MAC, 0x123456), (PTP_FDB_HI_VID, 5), (PTP_PCP_MAP_MAP, 0x53977), (PTP_SW_CFG_AGE, 300)] base)
def f1 : FdbEnt := { mac := 0x123456, vid := 5, ports := 33 }
def full : List FdbEnt := (List.range 2048).map (fun i => { mac := i, vid := 9, ports := 1 })
def e_33 := { f1 with static_ := true }
def st34 : State := fd id
def st35 : State := fd (fun x => { x with fdb := [f1] })
def st36 : State := fd (fun x => { x with fdb := [{ f1 with static_ := true }] })
def st37 : State := fd (fun x => { x with fdb := full })
def st38 : State := put PTP_SW_CFG_AGE 0 (fd id)
def st39 : State := lk [(PTP_Pp_CFG_AN 3, 1), (PTP_Pp_STAT_LINK 3, 0)] (po 2 id id)
def st40 : State := lk [(PTP_Pp_CFG_AN 3, 1), (PTP_Pp_STAT_LINK 3, 1), (PTP_Pp_STAT_CDR_LOCK 3, 1)] (po 2 id id { base with img := { base.img with applied := false } })

theorem witness_PtpMessagesAreUsed :
    -- dt = 5, p = 3, m = mT, a = an, t1 = TT + 5, t2 = TT + 900, t3 = TT + 77, t4 = TT + 7777, s = st1
    (Between st1 ∧ 3 < 6 ∧ rxOk st1 3 mT.hdr = true ∧ mT.domain = rd st1 PTP_CLK_CFG_DOMAIN ∧ rd st1 (PTP_Pp_CFG_PTP_EN 3) = 1 ∧ mT.auth = none ∧ mode st1 7 = false ∧ rd st1 (PTP_Pp_TSQCFG_CAP_PTP 3) = 0 ∧ rd st1 (PTP_Pp_TSQCFG_CAP_ET 3) = 0 ∧ 4 ≤ portState st1 3 ∧ (slaveish st1 3 = true ∧ fromParent st1 3 mT = true) ∧ mT.twoStep = true)
    -- dt = 5, p = 3, m = mT, a = an, t1 = TT + 5, t2 = TT + 900, t3 = TT + 77, t4 = TT + 7777, s = st8
    ∧ (Between st8 ∧ 3 < 6 ∧ rxOk st8 3 mT.hdr = true ∧ mT.domain = rd st8 PTP_CLK_CFG_DOMAIN ∧ rd st8 (PTP_Pp_CFG_PTP_EN 3) = 1 ∧ mT.auth = none ∧ mode st8 7 = false ∧ rd st8 (PTP_Pp_TSQCFG_CAP_PTP 3) = 0 ∧ rd st8 (PTP_Pp_TSQCFG_CAP_ET 3) = 0 ∧ 4 ≤ portState st8 3 ∧ (slaveish st8 3 = true ∧ fromParent st8 3 mT = true) ∧ mT.twoStep = true)
    -- dt = 5, p = 3, m = mT, a = an, t1 = TT + 5, t2 = TT + 900, t3 = TT + 77, t4 = TT + 7777, s = st1
    ∧ (Between st1 ∧ 3 < 6 ∧ rxOk st1 3 mT.hdr = true ∧ mT.domain = rd st1 PTP_CLK_CFG_DOMAIN ∧ rd st1 (PTP_Pp_CFG_PTP_EN 3) = 1 ∧ mT.auth = none ∧ mode st1 7 = false ∧ rd st1 (PTP_Pp_TSQCFG_CAP_PTP 3) = 0 ∧ rd st1 (PTP_Pp_TSQCFG_CAP_ET 3) = 0 ∧ 4 ≤ portState st1 3 ∧ portState st1 3 ≠ 6)
    -- dt = 5, p = 3, m = mX, a = an, t1 = TT + 5, t2 = TT + 900, t3 = TT + 77, t4 = TT + 7777, s = st8
    ∧ (Between st8 ∧ 3 < 6 ∧ rxOk st8 3 mX.hdr = true ∧ mX.domain = rd st8 PTP_CLK_CFG_DOMAIN ∧ rd st8 (PTP_Pp_CFG_PTP_EN 3) = 1 ∧ mX.auth = none ∧ mode st8 7 = false ∧ rd st8 (PTP_Pp_TSQCFG_CAP_PTP 3) = 0 ∧ rd st8 (PTP_Pp_TSQCFG_CAP_ET 3) = 0 ∧ 4 ≤ portState st8 3 ∧ portState st8 3 ≠ 6)
    -- dt = 5, p = 3, m = mT, a = an, t1 = TT + 5, t2 = TT + 900, t3 = TT + 77, t4 = TT + 7777, s = st1
    ∧ (Between st1 ∧ 3 < 6 ∧ rxOk st1 3 mT.hdr = true ∧ mT.domain = rd st1 PTP_CLK_CFG_DOMAIN ∧ rd st1 (PTP_Pp_CFG_PTP_EN 3) = 1 ∧ mT.auth = none ∧ mode st1 7 = false ∧ rd st1 (PTP_Pp_TSQCFG_CAP_PTP 3) = 0 ∧ rd st1 (PTP_Pp_TSQCFG_CAP_ET 3) = 0 ∧ 4 ≤ portState st1 3 ∧ isP2p st1 = false)
    -- dt = 5, p = 3, m = mX, a = an, t1 = TT + 5, t2 = TT + 900, t3 = TT + 77, t4 = TT + 7777, s = st5
    ∧ (Between st5 ∧ 3 < 6 ∧ rxOk st5 3 mX.hdr = true ∧ mX.domain = rd st5 PTP_CLK_CFG_DOMAIN ∧ rd st5 (PTP_Pp_CFG_PTP_EN 3) = 1 ∧ mX.auth = none ∧ mode st5 7 = false ∧ rd st5 (PTP_Pp_TSQCFG_CAP_PTP 3) = 0 ∧ rd st5 (PTP_Pp_TSQCFG_CAP_ET 3) = 0 ∧ 4 ≤ portState st5 3 ∧ isP2p st5 = false)
    -- dt = 5, p = 3, m = mT, a = an, t1 = TT + 5, t2 = TT + 900, t3 = TT + 77, t4 = TT + 7777, s = st4
    ∧ (Between st4 ∧ 3 < 6 ∧ rxOk st4 3 mT.hdr = true ∧ mT.domain = rd st4 PTP_CLK_CFG_DOMAIN ∧ rd st4 (PTP_Pp_CFG_PTP_EN 3) = 1 ∧ mT.auth = none ∧ mode st4 7 = false ∧ rd st4 (PTP_Pp_TSQCFG_CAP_PTP 3) = 0 ∧ rd st4 (PTP_Pp_TSQCFG_CAP_ET 3) = 0 ∧ 4 ≤ portState st4 3 ∧ (¬(slaveish st4 3 = true ∧ fromParent st4 3 mT = true)))
    -- dt = 5, p = 3, m = mX, a = an, t1 = TT + 5, t2 = TT + 900, t3 = TT + 77, t4 = TT + 7777, s = st8
    ∧ (Between st8 ∧ 3 < 6 ∧ rxOk st8 3 mX.hdr = true ∧ mX.domain = rd st8 PTP_CLK_CFG_DOMAIN ∧ rd st8 (PTP_Pp_CFG_PTP_EN 3) = 1 ∧ mX.auth = none ∧ mode st8 7 = false ∧ rd st8 (PTP_Pp_TSQCFG_CAP_PTP 3) = 0 ∧ rd st8 (PTP_Pp_TSQCFG_CAP_ET 3) = 0 ∧ 4 ≤ portState st8 3 ∧ (¬(slaveish st8 3 = true ∧ fromParent st8 3 mX = true)))
    -- dt = 5, p = 3, m = mT, a = an, t1 = TT + 5, t2 = TT + 900, t3 = TT + 77, t4 = TT + 7777, s = st4
    ∧ (Between st4 ∧ 3 < 6 ∧ rxOk st4 3 mT.hdr = true ∧ mT.domain = rd st4 PTP_CLK_CFG_DOMAIN ∧ rd st4 (PTP_Pp_CFG_PTP_EN 3) = 1 ∧ mT.auth = none ∧ mode st4 7 = false ∧ rd st4 (PTP_Pp_TSQCFG_CAP_PTP 3) = 0 ∧ rd st4 (PTP_Pp_TSQCFG_CAP_ET 3) = 0 ∧ 4 ≤ portState st4 3 ∧ isP2p st4 = false ∧ portState st4 3 = 6 ∧ (qRoom st4 3 7 64 = true ∧ (mode st4 7 = false ∨ (txSa st4).isSome = true)))
    -- dt = 5, p = 3, m = mX, a = an, t1 = TT + 5, t2 = TT + 900, t3 = TT + 77, t4 = TT + 7777, s = st4
    ∧ (Between st4 ∧ 3 < 6 ∧ rxOk st4 3 mX.hdr = true ∧ mX.domain = rd st4 PTP_CLK_CFG_DOMAIN ∧ rd st4 (PTP_Pp_CFG_PTP_EN 3) = 1 ∧ mX.auth = none ∧ mode st4 7 = false ∧ rd st4 (PTP_Pp_TSQCFG_CAP_PTP 3) = 0 ∧ rd st4 (PTP_Pp_TSQCFG_CAP_ET 3) = 0 ∧ 4 ≤ portState st4 3 ∧ isP2p st4 = false ∧ portState st4 3 = 6 ∧ (qRoom st4 3 7 64 = true ∧ (mode st4 7 = false ∨ (txSa st4).isSome = true)))
    -- dt = 5, p = 3, m = mT, a = an, t1 = TT + 5, t2 = TT + 900, t3 = TT + 77, t4 = TT + 7777, s = st4
    ∧ (Between st4 ∧ 3 < 6 ∧ rxOk st4 3 mT.hdr = true ∧ mT.domain = rd st4 PTP_CLK_CFG_DOMAIN ∧ rd st4 (PTP_Pp_CFG_PTP_EN 3) = 1 ∧ mT.auth = none ∧ mode st4 7 = false ∧ rd st4 (PTP_Pp_TSQCFG_CAP_PTP 3) = 0 ∧ rd st4 (PTP_Pp_TSQCFG_CAP_ET 3) = 0 ∧ 4 ≤ portState st4 3 ∧ mT.srcId ≠ ownClockId st4 ∧ portState st4 3 = 6 ∧ (ix st4.ptp.port 3).foreign = [])
    -- dt = 5, p = 3, m = mO, a = an, t1 = TT + 5, t2 = TT + 900, t3 = TT + 77, t4 = TT + 7777, s = st6
    ∧ (Between st6 ∧ 3 < 6 ∧ rxOk st6 3 mO.hdr = true ∧ mO.domain = rd st6 PTP_CLK_CFG_DOMAIN ∧ rd st6 (PTP_Pp_CFG_PTP_EN 3) = 1 ∧ mO.auth = none ∧ mode st6 7 = false ∧ rd st6 (PTP_Pp_TSQCFG_CAP_PTP 3) = 0 ∧ rd st6 (PTP_Pp_TSQCFG_CAP_ET 3) = 0 ∧ 4 ≤ portState st6 3 ∧ mO.srcId ≠ ownClockId st6 ∧ portState st6 3 = 6 ∧ (ix st6.ptp.port 3).foreign = [])
    -- dt = 5, p = 3, m = mT, a = an, t1 = TT + 5, t2 = TT + 900, t3 = TT + 77, t4 = TT + 7777, s = st6
    ∧ (Between st6 ∧ 3 < 6 ∧ rxOk st6 3 mT.hdr = true ∧ mT.domain = rd st6 PTP_CLK_CFG_DOMAIN ∧ rd st6 (PTP_Pp_CFG_PTP_EN 3) = 1 ∧ mT.auth = none ∧ mode st6 7 = false ∧ rd st6 (PTP_Pp_TSQCFG_CAP_PTP 3) = 0 ∧ rd st6 (PTP_Pp_TSQCFG_CAP_ET 3) = 0 ∧ 4 ≤ portState st6 3 ∧ isP2p st6 = true ∧ (qRoom st6 3 7 64 = true ∧ (mode st6 7 = false ∨ (txSa st6).isSome = true)) ∧ rd st6 (PTP_Pp_CFG_STEP 3) = 0)
    -- dt = 5, p = 3, m = mX, a = an, t1 = TT + 5, t2 = TT + 900, t3 = TT + 77, t4 = TT + 7777, s = st8
    ∧ (Between st8 ∧ 3 < 6 ∧ rxOk st8 3 mX.hdr = true ∧ mX.domain = rd st8 PTP_CLK_CFG_DOMAIN ∧ rd st8 (PTP_Pp_CFG_PTP_EN 3) = 1 ∧ mX.auth = none ∧ mode st8 7 = false ∧ rd st8 (PTP_Pp_TSQCFG_CAP_PTP 3) = 0 ∧ rd st8 (PTP_Pp_TSQCFG_CAP_ET 3) = 0 ∧ 4 ≤ portState st8 3 ∧ isP2p st8 = true ∧ (qRoom st8 3 7 64 = true ∧ (mode st8 7 = false ∨ (txSa st8).isSome = true)) ∧ rd st8 (PTP_Pp_CFG_STEP 3) = 0)
    -- dt = 5, p = 3, m = mT, a = an, t1 = TT + 5, t2 = TT + 900, t3 = TT + 77, t4 = TT + 7777, s = st7
    ∧ (Between st7 ∧ 3 < 6 ∧ rxOk st7 3 mT.hdr = true ∧ mT.domain = rd st7 PTP_CLK_CFG_DOMAIN ∧ rd st7 (PTP_Pp_CFG_PTP_EN 3) = 1 ∧ mT.auth = none ∧ mode st7 7 = false ∧ rd st7 (PTP_Pp_TSQCFG_CAP_PTP 3) = 0 ∧ rd st7 (PTP_Pp_TSQCFG_CAP_ET 3) = 0 ∧ 4 ≤ portState st7 3 ∧ isP2p st7 = true ∧ (ix st7.ptp.port 3).pd = some (mT.seq, some (TT + 5)) ∧ mT.twoStep = true)
    -- dt = 5, p = 3, m = mX, a = an, t1 = TT + 5, t2 = TT + 900, t3 = TT + 77, t4 = TT + 7777, s = st8
    ∧ (Between st8 ∧ 3 < 6 ∧ rxOk st8 3 mX.hdr = true ∧ mX.domain = rd st8 PTP_CLK_CFG_DOMAIN ∧ rd st8 (PTP_Pp_CFG_PTP_EN 3) = 1 ∧ mX.auth = none ∧ mode st8 7 = false ∧ rd st8 (PTP_Pp_TSQCFG_CAP_PTP 3) = 0 ∧ rd st8 (PTP_Pp_TSQCFG_CAP_ET 3) = 0 ∧ 4 ≤ portState st8 3 ∧ isP2p st8 = true ∧ (ix st8.ptp.port 3).pd = some (mX.seq, some (TT + 5)) ∧ mX.twoStep = true)
    -- dt = 5, p = 3, m = mO, a = an, t1 = TT + 5, t2 = TT + 900, t3 = TT + 77, t4 = TT + 7777, s = st1
    ∧ (Between st1 ∧ 3 < 6 ∧ rxOk st1 3 mO.hdr = true ∧ mO.domain = rd st1 PTP_CLK_CFG_DOMAIN ∧ rd st1 (PTP_Pp_CFG_PTP_EN 3) = 1 ∧ mO.auth = none ∧ mode st1 7 = false ∧ rd st1 (PTP_Pp_TSQCFG_CAP_PTP 3) = 0 ∧ rd st1 (PTP_Pp_TSQCFG_CAP_ET 3) = 0 ∧ 4 ≤ portState st1 3 ∧ (slaveish st1 3 = true ∧ fromParent st1 3 mO = true) ∧ mO.twoStep = false ∧ (rd st1 (PTP_Pp_FILT_FMODE 3) = 0 ∧ portState st1 3 = 8 ∧ rd st1 (PTP_Pp_STAT_MPD_VALID 3) = 0))
    -- dt = 5, p = 3, m = mO, a = an, t1 = TT + 5, t2 = TT + 900, t3 = TT + 77, t4 = TT + 7777, s = st7
    ∧ (Between st7 ∧ 3 < 6 ∧ rxOk st7 3 mO.hdr = true ∧ mO.domain = rd st7 PTP_CLK_CFG_DOMAIN ∧ rd st7 (PTP_Pp_CFG_PTP_EN 3) = 1 ∧ mO.auth = none ∧ mode st7 7 = false ∧ rd st7 (PTP_Pp_TSQCFG_CAP_PTP 3) = 0 ∧ rd st7 (PTP_Pp_TSQCFG_CAP_ET 3) = 0 ∧ 4 ≤ portState st7 3 ∧ (slaveish st7 3 = true ∧ fromParent st7 3 mO = true) ∧ mO.twoStep = false ∧ (rd st7 (PTP_Pp_FILT_FMODE 3) = 0 ∧ portState st7 3 = 8 ∧ rd st7 (PTP_Pp_STAT_MPD_VALID 3) = 0))
    ∧ (Between st7 ∧ 3 < 6 ∧ rxOk st7 3 mO.hdr = true ∧ mO.domain = rd st7 PTP_CLK_CFG_DOMAIN ∧ rd st7 (PTP_Pp_CFG_PTP_EN 3) = 1 ∧ mO.auth = none ∧ mode st7 7 = false ∧ rd st7 (PTP_Pp_TSQCFG_CAP_PTP 3) = 0 ∧ rd st7 (PTP_Pp_TSQCFG_CAP_ET 3) = 0 ∧ 4 ≤ portState st7 3 ∧ isP2p st7 = true ∧ (ix st7.ptp.port 3).pd = some (mO.seq, some (TT + 5)) ∧ mO.twoStep = false ∧ (rd st7 (PTP_Pp_STAT_MPD_VALID 3) = 0 ∧ (ix st7.ptp.port 3).passed = false))
    -- dt = 5, p = 3, m = mO, a = an, t1 = TT + 5, t2 = TT + 900, t3 = TT + 77, t4 = TT + 7777, s = st8
    ∧ (Between st8 ∧ 3 < 6 ∧ rxOk st8 3 mO.hdr = true ∧ mO.domain = rd st8 PTP_CLK_CFG_DOMAIN ∧ rd st8 (PTP_Pp_CFG_PTP_EN 3) = 1 ∧ mO.auth = none ∧ mode st8 7 = false ∧ rd st8 (PTP_Pp_TSQCFG_CAP_PTP 3) = 0 ∧ rd st8 (PTP_Pp_TSQCFG_CAP_ET 3) = 0 ∧ 4 ≤ portState st8 3 ∧ isP2p st8 = true ∧ (ix st8.ptp.port 3).pd = some (mO.seq, some (TT + 5)) ∧ mO.twoStep = false ∧ (rd st8 (PTP_Pp_STAT_MPD_VALID 3) = 0 ∧ (ix st8.ptp.port 3).passed = false))
    -- dt = 5, p = 3, m = mX, a = an, t1 = TT + 5, t2 = TT + 900, t3 = TT + 77, t4 = TT + 7777, s = st1
    ∧ (Between st1 ∧ 3 < 6 ∧ rxOk st1 3 mX.hdr = true ∧ mX.domain = rd st1 PTP_CLK_CFG_DOMAIN ∧ rd st1 (PTP_Pp_CFG_PTP_EN 3) = 1 ∧ mX.auth = none ∧ mode st1 7 = false ∧ rd st1 (PTP_Pp_TSQCFG_CAP_PTP 3) = 0 ∧ rd st1 (PTP_Pp_TSQCFG_CAP_ET 3) = 0 ∧ 4 ≤ portState st1 3 ∧ mX.srcId = ownClockId st1)
    -- dt = 5, p = 3, m = mX, a = an, t1 = TT + 5, t2 = TT + 900, t3 = TT + 77, t4 = TT + 7777, s = st8
    ∧ (Between st8 ∧ 3 < 6 ∧ rxOk st8 3 mX.hdr = true ∧ mX.domain = rd st8 PTP_CLK_CFG_DOMAIN ∧ rd st8 (PTP_Pp_CFG_PTP_EN 3) = 1 ∧ mX.auth = none ∧ mode st8 7 = false ∧ rd st8 (PTP_Pp_TSQCFG_CAP_PTP 3) = 0 ∧ rd st8 (PTP_Pp_TSQCFG_CAP_ET 3) = 0 ∧ 4 ≤ portState st8 3 ∧ mX.srcId = ownClockId st8) := by
  simp only [Between]
  decide +kernel

theorem witness_PtpTimersSendAndExpire :
    -- dt = 5, p = 3, s = st11
    (Between st11 ∧ 3 < 6 ∧ portState st11 3 = 6 ∧ ptpUp st11 = true ∧ (qRoom st11 3 7 64 = true ∧ (mode st11 7 = false ∨ (txSa st11).isSome = true)))
    -- dt = 5, p = 3, s = st23
    ∧ (Between st23 ∧ 3 < 6 ∧ portState st23 3 = 6 ∧ ptpUp st23 = true ∧ (qRoom st23 3 7 64 = true ∧ (mode st23 7 = false ∨ (txSa st23).isSome = true)))
    -- dt = 5, p = 3, s = st11
    ∧ (Between st11 ∧ 3 < 6 ∧ 4 ≤ portState st11 3 ∧ ptpUp st11 = true)
    -- dt = 5, p = 3, s = st23
    ∧ (Between st23 ∧ 3 < 6 ∧ 4 ≤ portState st23 3 ∧ ptpUp st23 = true)
    -- dt = 5, p = 3, s = st11
    ∧ (Between st11 ∧ 3 < 6 ∧ isP2p st11 = false ∧ slaveish st11 3 = false)
    -- dt = 5, p = 3, s = st23
    ∧ (Between st23 ∧ 3 < 6 ∧ isP2p st23 = false ∧ slaveish st23 3 = false)
    -- dt = 5, p = 3, s = st11
    ∧ (Between st11 ∧ 3 < 6 ∧ (ix st11.ptp.port 3).annDl = none)
    -- dt = 5, p = 3, s = st23
    ∧ (Between st23 ∧ 3 < 6 ∧ (ix st23.ptp.port 3).annDl = none)
    -- dt = 5, p = 3, s = st11
    ∧ (Between st11 ∧ 3 < 6 ∧ (ix st11.ptp.port 3).qualDl = none)
    -- dt = 5, p = 3, s = st23
    ∧ (Between st23 ∧ 3 < 6 ∧ (ix st23.ptp.port 3).qualDl = none)
    -- dt = 5, p = 3, s = st11
    ∧ (Between st11 ∧ 3 < 6 ∧ st11.ptp.tc = [])
    -- dt = 5, p = 3, s = st23
    ∧ (Between st23 ∧ 3 < 6 ∧ st23.ptp.tc = [])
    -- dt = 5, p = 3, s = st11
    ∧ (Between st11 ∧ 3 < 6 ∧ ix (ix st11.ptp.port 3).q 7 = [])
    -- dt = 5, p = 3, s = st22
    ∧ (Between st22 ∧ 3 < 6 ∧ ix (ix st22.ptp.port 3).q 7 = [])
    -- dt = 5, p = 3, s = st12
    ∧ (Between st12 ∧ 3 < 6 ∧ portState st12 3 ≠ 6)
    -- dt = 5, p = 3, s = st16
    ∧ (Between st16 ∧ 3 < 6 ∧ portState st16 3 ≠ 6)
    -- dt = 5, p = 3, s = st12
    ∧ (Between st12 ∧ 3 < 6 ∧ isP2p st12 = false ∧ slaveish st12 3 = true ∧ ptpUp st12 = true ∧ (qRoom st12 3 7 64 = true ∧ (mode st12 7 = false ∨ (txSa st12).isSome = true)))
    -- dt = 5, p = 3, s = st12, dl = 999
    ∧ (Between st12 ∧ 3 < 6 ∧ (ix st12.ptp.port 3).annDl = some 999 ∧ slaveish st12 3 = true ∧ ptpUp st12 = true)
    -- dt = 5, p = 3, s = st13
    ∧ (Between st13 ∧ 3 < 6 ∧ isP2p st13 = true ∧ 4 ≤ portState st13 3 ∧ ptpUp st13 = true ∧ (qRoom st13 3 7 64 = true ∧ (mode st13 7 = false ∨ (txSa st13).isSome = true)))
    -- dt = 5, p = 3, s = st14, dl = 999
    ∧ (Between st14 ∧ 3 < 6 ∧ (ix st14.ptp.port 3).annDl = some 999 ∧ portState st14 3 = 4 ∧ ptpUp st14 = true)
    -- dt = 5, p = 3, s = st15, q = 9999
    ∧ (Between st15 ∧ 3 < 6 ∧ (ix st15.ptp.port 3).qualDl = some 9999 ∧ portState st15 3 = 5 ∧ ptpUp st15 = true)
    -- dt = 5, p = 3, s = st16
    ∧ (Between st16 ∧ 3 < 6 ∧ portState st16 3 < 4)
    -- dt = 5, p = 3, s = st16, w = w_10, r = []
    ∧ (Between st16 ∧ 3 < 6 ∧ st16.ptp.tc = [w_10])
    -- dt = 5, p = 3, s = st17
    ∧ (Between st17 ∧ 3 < 6 ∧ ptpUp st17 = false)
    -- dt = 5, p = 3, s = st19, e = eg, r = [], l = 55
    ∧ (Between st19 ∧ 3 < 6 ∧ ix (ix st19.ptp.port 3).q 7 = [eg] ∧ heldBehind st19 3 eg = false ∧ eg.launch = some 55 ∧ ptpUp st19 = true ∧ rd st19 (PTP_Pp_STAT_LINK 3) = 1 ∧ (rd st19 (PTP_Pp_TSQCFG_CAP_PTP 3) = 0 ∧ rd st19 (PTP_Pp_TSQCFG_CAP_ET 3) = 0) ∧ eg.own = true ∧ eg.kind = 1 ∧ eg.oneStep = true)
    -- dt = 5, p = 3, s = st20, e = eg2, r = [], l = 55, i = 3
    ∧ (Between st20 ∧ 3 < 6 ∧ ix (ix st20.ptp.port 3).q 7 = [eg2] ∧ heldBehind st20 3 eg2 = false ∧ eg2.launch = some 55 ∧ ptpUp st20 = true ∧ rd st20 (PTP_Pp_STAT_LINK 3) = 1 ∧ (rd st20 (PTP_Pp_TSQCFG_CAP_PTP 3) = 0 ∧ rd st20 (PTP_Pp_TSQCFG_CAP_ET 3) = 0) ∧ eg2.own = false ∧ eg2.kind = 1 ∧ eg2.tc = true ∧ eg2.oneStep = true ∧ eg2.ingress = some 3)
    -- dt = 5, p = 3, s = st21, j = 7, e = eg3, r = []
    ∧ (Between st21 ∧ 3 < 6 ∧ 7 < 8 ∧ ptpUp st21 = true ∧ rd st21 (PTP_Pp_STAT_LINK 3) = 1 ∧ (∀ k < 8, 7 < k → ix (ix st21.ptp.port 3).q k = []) ∧ ix (ix st21.ptp.port 3).q 7 = [eg3] ∧ heldBehind st21 3 eg3 = false ∧ eg3.launch = none)
    -- dt = 5, p = 3, s = st23, j = 7, e = eg3, r = []
    ∧ (Between st23 ∧ 3 < 6 ∧ 7 < 8 ∧ ptpUp st23 = true ∧ rd st23 (PTP_Pp_STAT_LINK 3) = 1 ∧ (∀ k < 8, 7 < k → ix (ix st23.ptp.port 3).q k = []) ∧ ix (ix st23.ptp.port 3).q 7 = [eg3] ∧ heldBehind st23 3 eg3 = false ∧ eg3.launch = none)
    -- dt = 5, p = 3, s = st21, j = 7, e = eg3, r = []
    ∧ (Between st21 ∧ 3 < 6 ∧ 7 < 8 ∧ ptpUp st21 = true ∧ rd st21 (PTP_Pp_STAT_LINK 3) = 1 ∧ (∀ k < 8, 7 < k → ix (ix st21.ptp.port 3).q k = []) ∧ ix (ix st21.ptp.port 3).q 7 = [eg3] ∧ heldBehind st21 3 eg3 = false ∧ eg3.launch = none ∧ (rd st21 (PTP_Pp_TSQCFG_CAP_PTP 3) = 0 ∧ rd st21 (PTP_Pp_TSQCFG_CAP_ET 3) = 0) ∧ eg3.own = true ∧ eg3.kind = 12 ∧ eg3.tc = false) := by
  simp only [Between]
  decide +kernel

theorem witness_LinksSynceAndEsmc :
    -- dt = 5, p = 3, speed = 3, ssm = 4, lock = true, event = true, ext = none, s = st24
    (Between st24 ∧ 3 < 6 ∧ 4 < 16 ∧ (¬rd st24 (PTP_Pp_CFG_EN 3) = 1))
    -- dt = 5, p = 3, speed = 3, ssm = 15, lock = true, event = true, ext = none, s = st24
    ∧ (Between st24 ∧ 3 < 6 ∧ 15 < 16 ∧ (¬rd st24 (PTP_Pp_CFG_EN 3) = 1))
    -- dt = 5, p = 3, speed = 3, ssm = 4, lock = true, event = true, ext = none, s = st24
    ∧ (Between st24 ∧ 3 < 6 ∧ 4 < 16 ∧ (¬rd st24 (PTP_Pp_STAT_LINK 3) = 1))
    -- dt = 5, p = 3, speed = 3, ssm = 4, lock = true, event = true, ext = none, s = st39
    ∧ (Between st39 ∧ 3 < 6 ∧ 4 < 16 ∧ (¬rd st39 (PTP_Pp_STAT_LINK 3) = 1))
    -- dt = 5, p = 3, speed = 3, ssm = 4, lock = true, event = true, ext = none, s = st24
    ∧ (Between st24 ∧ 3 < 6 ∧ 4 < 16 ∧ Open st24 (12584032 + 128 * 3) ∧ rd st24 (PTP_Pp_STAT_ERR 3) ≠ 5 ∧ (¬rd st24 (PTP_Pp_STAT_LINK 3) = 1))
    -- dt = 5, p = 3, speed = 3, ssm = 4, lock = true, event = true, ext = none, s = st39
    ∧ (Between st39 ∧ 3 < 6 ∧ 4 < 16 ∧ Open st39 (12584032 + 128 * 3) ∧ rd st39 (PTP_Pp_STAT_ERR 3) ≠ 5 ∧ (¬rd st39 (PTP_Pp_STAT_LINK 3) = 1))
    -- dt = 5, p = 3, speed = 3, ssm = 4, lock = true, event = true, ext = none, s = st24
    ∧ (Between st24 ∧ 3 < 6 ∧ 4 < 16 ∧ portState st24 3 ≠ 1)
    -- dt = 5, p = 3, speed = 3, ssm = 4, lock = true, event = true, ext = none, s = st40
    ∧ (Between st40 ∧ 3 < 6 ∧ 4 < 16 ∧ portState st40 3 ≠ 1)
    -- dt = 5, p = 3, speed = 3, ssm = 4, lock = true, event = true, ext = none, s = st24
    ∧ (Between st24 ∧ 3 < 6 ∧ 4 < 16 ∧ st24.img.applied = true)
    -- dt = 5, p = 3, speed = 3, ssm = 4, lock = true, event = true, ext = none, s = st39
    ∧ (Between st39 ∧ 3 < 6 ∧ 4 < 16 ∧ st39.img.applied = true)
    -- dt = 5, p = 3, speed = 3, ssm = 4, lock = true, event = true, ext = none, s = st24
    ∧ (Between st24 ∧ 3 < 6 ∧ 4 < 16 ∧ (ix st24.ptp.port 3).esmcAt = none)
    ∧ (Between st24 ∧ 3 < 6 ∧ 4 < 16 ∧ esmcSends st24 3 = false)
    -- dt = 5, p = 3, speed = 3, ssm = 4, lock = true, event = true, ext = none, s = st40
    ∧ (Between st40 ∧ 3 < 6 ∧ 4 < 16 ∧ esmcSends st40 3 = false)
    -- dt = 5, p = 3, speed = 3, ssm = 4, lock = true, event = true, ext = none, s = st25
    ∧ (Between st25 ∧ 3 < 6 ∧ 4 < 16 ∧ rd st25 (PTP_Pp_CFG_EN 3) = 1 ∧ st25.img.applied = true ∧ rd st25 (PTP_Pp_STAT_ERR 3) = 0 ∧ (rd st25 NVM_STAT_PF_WARN = 0 ∨ rd st25 NVM_CFG_SHED = 0) ∧ (¬rd st25 (PTP_Pp_STAT_LINK 3) = 1))
    -- dt = 5, p = 3, speed = 3, ssm = 4, lock = true, event = true, ext = none, s = st39
    ∧ (Between st39 ∧ 3 < 6 ∧ 4 < 16 ∧ rd st39 (PTP_Pp_CFG_EN 3) = 1 ∧ st39.img.applied = true ∧ rd st39 (PTP_Pp_STAT_ERR 3) = 0 ∧ (rd st39 NVM_STAT_PF_WARN = 0 ∨ rd st39 NVM_CFG_SHED = 0) ∧ (¬rd st39 (PTP_Pp_STAT_LINK 3) = 1))
    -- dt = 5, p = 3, speed = 3, ssm = 4, lock = true, event = true, ext = none, s = st25, a = 99
    ∧ (Between st25 ∧ 3 < 6 ∧ 4 < 16 ∧ (ix st25.ptp.port 3).esmcAt = some 99)
    -- dt = 5, p = 3, speed = 3, ssm = 15, lock = true, event = true, ext = none, s = st28, a = 99
    ∧ (Between st28 ∧ 3 < 6 ∧ 15 < 16 ∧ (ix st28.ptp.port 3).esmcAt = some 99)
    -- dt = 5, p = 3, speed = 3, ssm = 4, lock = true, event = true, ext = none, s = st27
    ∧ (Between st27 ∧ 3 < 6 ∧ 4 < 16 ∧ rd st27 (PTP_Pp_STAT_LINK 3) = 1)
    ∧ (Between st27 ∧ 3 < 6 ∧ 4 < 16 ∧ Open st27 (12584032 + 128 * 3) ∧ rd st27 (PTP_Pp_STAT_ERR 3) ≠ 5 ∧ rd st27 (PTP_Pp_STAT_LINK 3) = 1)
    ∧ (Between st27 ∧ 3 < 6 ∧ 4 < 16 ∧ portState st27 3 = 1 ∧ ptpUp st27 = true)
    -- dt = 5, p = 3, speed = 3, ssm = 15, lock = true, event = true, ext = none, s = st27
    ∧ (Between st27 ∧ 3 < 6 ∧ 15 < 16 ∧ portState st27 3 = 1 ∧ ptpUp st27 = true)
    -- dt = 5, p = 3, speed = 3, ssm = 4, lock = true, event = true, ext = none, s = st27
    ∧ (Between st27 ∧ 3 < 6 ∧ 4 < 16 ∧ ptpUp st27 = true ∧ rd st27 (PTP_Pp_CFG_EN 3) = 1 ∧ rd st27 (PTP_Pp_STAT_LINK 3) = 1)
    -- dt = 5, p = 3, speed = 3, ssm = 4, lock = true, event = true, ext = none, s = st30
    ∧ (Between st30 ∧ 3 < 6 ∧ 4 < 16 ∧ esmcSends st30 3 = true ∧ qRoom st30 3 7 64 = true ∧ (∀ e ∈ ix (ix st30.ptp.port 3).q 7, e.kind ≠ 32))
    -- dt = 5, p = 3, speed = 3, ssm = 4, lock = true, event = true, ext = none, s = st39
    ∧ (Between st39 ∧ 3 < 6 ∧ 4 < 16 ∧ rd st39 (PTP_Pp_CFG_EN 3) = 1 ∧ st39.img.applied = true ∧ rd st39 (PTP_Pp_STAT_ERR 3) ≠ 1 ∧ (rd st39 NVM_STAT_PF_WARN = 0 ∨ rd st39 NVM_CFG_SHED = 0) ∧ rd st39 (PTP_Pp_CFG_AN 3) = 1)
    -- dt = 5, p = 3, speed = 3, ssm = 4, lock = true, event = true, ext = none, s = st40
    ∧ (Between st40 ∧ 3 < 6 ∧ 4 < 16 ∧ st40.img.applied = false) := by
  simp only [Open, HostIdle, Between]
  decide +kernel

theorem witness_FramesAreForwardedAndAddressesKept :
    -- dt = 5, p = 3, q = 5, ports = 63, h = fr1, s = st34
    (Between st34 ∧ 3 < 6 ∧ 5 < 6 ∧ 63 < 64 ∧ rxOk st34 3 fr1 = true ∧ rd st34 (PTP_Pp_TSQCFG_CAP_ET 3) = 0 ∧ bitAt (vlanMember st34 (vidOf st34 3 fr1)) 3 = true ∧ isPtpFrame fr1 = false ∧ egressPorts st34 3 fr1 = [5] ∧ qRoom st34 5 (bitsOf (rd st34 PTP_PCP_MAP_MAP) (3 * pcpOf fr1 + 2) (3 * pcpOf fr1)) fr1.len = true ∧ fdbFind st34 fr1.src (vidOf st34 3 fr1) = none ∧ st34.ptp.fdb.length < 2048)
    -- dt = 5, p = 3, q = 5, ports = 32, h = fr3, s = st38
    ∧ (Between st38 ∧ 3 < 6 ∧ 5 < 6 ∧ 32 < 64 ∧ rxOk st38 3 fr3 = true ∧ rd st38 (PTP_Pp_TSQCFG_CAP_ET 3) = 0 ∧ bitAt (vlanMember st38 (vidOf st38 3 fr3)) 3 = true ∧ isPtpFrame fr3 = false ∧ egressPorts st38 3 fr3 = [5] ∧ qRoom st38 5 (bitsOf (rd st38 PTP_PCP_MAP_MAP) (3 * pcpOf fr3 + 2) (3 * pcpOf fr3)) fr3.len = true ∧ fdbFind st38 fr3.src (vidOf st38 3 fr3) = none ∧ st38.ptp.fdb.length < 2048)
    -- dt = 5, p = 3, q = 5, ports = 63, h = fr1, s = st34
    ∧ (Between st34 ∧ 3 < 6 ∧ 5 < 6 ∧ 63 < 64 ∧ Open st34 12583180 ∧ fdbFind st34 (rd st34 PTP_FDB_LO_MAC + rd st34 PTP_FDB_HI_MAC * 2 ^ 32) (rd st34 PTP_FDB_HI_VID) = none)
    -- dt = 5, p = 3, q = 5, ports = 32, h = fr1, s = st38
    ∧ (Between st38 ∧ 3 < 6 ∧ 5 < 6 ∧ 32 < 64 ∧ Open st38 12583180 ∧ fdbFind st38 (rd st38 PTP_FDB_LO_MAC + rd st38 PTP_FDB_HI_MAC * 2 ^ 32) (rd st38 PTP_FDB_HI_VID) = none)
    -- dt = 5, p = 3, q = 5, ports = 63, h = fr1, s = st34
    ∧ (Between st34 ∧ 3 < 6 ∧ 5 < 6 ∧ 63 < 64 ∧ Open st34 12583180 ∧ fdbFind st34 (rd st34 PTP_FDB_LO_MAC + rd st34 PTP_FDB_HI_MAC * 2 ^ 32) (rd st34 PTP_FDB_HI_VID) = none ∧ st34.ptp.fdb.length < 2048)
    -- dt = 5, p = 3, q = 5, ports = 32, h = fr1, s = st38
    ∧ (Between st38 ∧ 3 < 6 ∧ 5 < 6 ∧ 32 < 64 ∧ Open st38 12583180 ∧ fdbFind st38 (rd st38 PTP_FDB_LO_MAC + rd st38 PTP_FDB_HI_MAC * 2 ^ 32) (rd st38 PTP_FDB_HI_VID) = none ∧ st38.ptp.fdb.length < 2048)
    -- dt = 5, p = 3, q = 5, ports = 63, h = fr1, s = st34
    ∧ (Between st34 ∧ 3 < 6 ∧ 5 < 6 ∧ 63 < 64 ∧ Open st34 12583180)
    -- dt = 5, p = 3, q = 5, ports = 32, h = fr1, s = st38
    ∧ (Between st38 ∧ 3 < 6 ∧ 5 < 6 ∧ 32 < 64 ∧ Open st38 12583180)
    -- dt = 5, p = 3, q = 5, ports = 63, h = fr1, s = st34
    ∧ (Between st34 ∧ 3 < 6 ∧ 5 < 6 ∧ 63 < 64 ∧ (rd st34 PTP_SW_CFG_AGE = 0 ∨ List.filter (fun e => !e.static_) st34.ptp.fdb = []))
    -- dt = 5, p = 3, q = 5, ports = 32, h = fr1, s = st38
    ∧ (Between st38 ∧ 3 < 6 ∧ 5 < 6 ∧ 32 < 64 ∧ (rd st38 PTP_SW_CFG_AGE = 0 ∨ List.filter (fun e => !e.static_) st38.ptp.fdb = []))
    -- dt = 5, p = 3, q = 5, ports = 63, h = fr1, s = st35, e = f1
    ∧ (Between st35 ∧ 3 < 6 ∧ 5 < 6 ∧ 63 < 64 ∧ Open st35 12583180 ∧ fdbFind st35 (rd st35 PTP_FDB_LO_MAC + rd st35 PTP_FDB_HI_MAC * 2 ^ 32) (rd st35 PTP_FDB_HI_VID) = some f1)
    -- dt = 5, p = 3, q = 5, ports = 32, h = fr1, s = st36, e = e_33
    ∧ (Between st36 ∧ 3 < 6 ∧ 5 < 6 ∧ 32 < 64 ∧ Open st36 12583180 ∧ fdbFind st36 (rd st36 PTP_FDB_LO_MAC + rd st36 PTP_FDB_HI_MAC * 2 ^ 32) (rd st36 PTP_FDB_HI_VID) = some e_33)
    -- dt = 5, p = 3, q = 5, ports = 63, h = fr1, s = st35, a = f1
    ∧ (Between st35 ∧ 3 < 6 ∧ 5 < 6 ∧ 63 < 64 ∧ rd st35 PTP_SW_CFG_AGE ≠ 0 ∧ List.filter (fun e => !e.static_) st35.ptp.fdb = [f1])
    -- dt = 5, p = 3, q = 5, ports = 32, h = fr1, s = st35, a = f1
    ∧ (Between st35 ∧ 3 < 6 ∧ 5 < 6 ∧ 32 < 64 ∧ rd st35 PTP_SW_CFG_AGE ≠ 0 ∧ List.filter (fun e => !e.static_) st35.ptp.fdb = [f1])
    -- dt = 5, p = 3, q = 5, ports = 63, h = fr1, s = st37
    ∧ (Between st37 ∧ 3 < 6 ∧ 5 < 6 ∧ 63 < 64 ∧ Open st37 12583180 ∧ fdbFind st37 (rd st37 PTP_FDB_LO_MAC + rd st37 PTP_FDB_HI_MAC * 2 ^ 32) (rd st37 PTP_FDB_HI_VID) = none ∧ 2048 ≤ st37.ptp.fdb.length)
    -- dt = 5, p = 3, q = 5, ports = 32, h = fr1, s = st37
    ∧ (Between st37 ∧ 3 < 6 ∧ 5 < 6 ∧ 32 < 64 ∧ Open st37 12583180 ∧ fdbFind st37 (rd st37 PTP_FDB_LO_MAC + rd st37 PTP_FDB_HI_MAC * 2 ^ 32) (rd st37 PTP_FDB_HI_VID) = none ∧ 2048 ≤ st37.ptp.fdb.length)
    -- dt = 5, p = 3, q = 5, ports = 63, h = fr2, s = st34
    ∧ (Between st34 ∧ 3 < 6 ∧ 5 < 6 ∧ 63 < 64 ∧ rxOk st34 3 fr2 = false)
    -- dt = 5, p = 3, q = 5, ports = 32, h = fr2, s = st38
    ∧ (Between st38 ∧ 3 < 6 ∧ 5 < 6 ∧ 32 < 64 ∧ rxOk st38 3 fr2 = false) := by
  simp only [Open, HostIdle, Between]
  decide +kernel

end WPtp

namespace WPtp2

def po (st : Nat) (f : PtpS → PtpS) (g : PortS → PortS) (s : State := base) : State :=
  let s := { (s |> put (PTP_Pp_CFG_EN 3) 1 |> put (PTP_Pp_CFG_PTP_EN 3) 1 |> put (PTP_Pp_STAT_LINK 3) 1 |> put (PTP_Pp_STAT_STATE 3) st |> put (PTP_Pp_CFG_SERDES 3) 0
    |> put (PTP_Pp_RXLAT_LAT 3) 700 |> put (PTP_Pp_TXLAT_LAT 3) 0xFFFF0000 |> put (PTP_Pp_ASYM_A 3) 0xFFFFFFF0 |> put (PTP_Pp_CFG_PVID 3) 5 |> put (PTP_Pp_CFG_STEP 3) 0 |> put PTP_CLK_ID_LO_ID 77
    |> put (PTP_Pp_INTV_ANN_TO 3) 3)
    with tkp := { base.tkp with run := true }, tod := 1700000000 * secT + 777 * 2 ^ 55 }
  { s with ptp := f { s.ptp with port := vset s.ptp.port 3 (g (ix s.ptp.port 3)) } }
def par (x : PtpS) : PtpS := { x with parent := some (3, { srcId := 7, srcPort := 2, ann := { gmId := 7 } }) }
def mT : PtpMsg := { srcId := 7, srcPort := 2, seq := 9, corr := 300, twoStep := true, hdr := { etype := 0x88F7 } }
def an : AnnData := { gmId := 7, cls := 6, acc := 33, p1 := 1 }
def TT : Int := 1700000000 * 1000000000 * 65536
def p2p (s : State) : State := put PTP_CLK_CFG_PROFILE 1 s
def st3 : State := po 8 par (fun x => { x with sync := some (9, none, TT + 900, 44) })
def st5 : State := po 9 par (fun x => { x with dreq := some (9, some (TT + 77)), syncDone := some (TT + 1, TT + 444, 44) })
def st7 : State := po 8 par (fun x => { x with pd := some (9, some (TT + 5)), pdResp := some (TT + 900, TT + 7777, 44) }) (p2p base)
def st8 : State := put (PTP_Pp_CFG_TAG 3) 1 (put (PTP_Pp_STAT_NRR_VALID 3) 1 (put (PTP_Pp_NRR_LO_R 3) 12345678 (po 9 par (fun x => { x with pd := some (9, some (TT + 5)), pdResp := some (TT + 900, TT + 7777, 44), nrr := [(1, 2), (3, 4)] }) (p2p base))))
def es (x : Option Nat) (st : State → State) : State := st ({ base with img := { base.img with struct_ := { base.img.struct_ with synceDpll := 2, syncePorts := 8 } } } |> put GEN_MODESTAT_EFFECTIVE 4 |> put (PTP_Pp_SE_CFG_ESMC_TX 3) 1 |> put (PTP_Pp_SE_CFG_EXT 3) 1 |> put (SEL_SELd_STAT_ACT_VALID 2) (if x.isSome then 1 else 0) |> put (SEL_SELd_STAT_ACT_SLOT 2) (x.getD 0) |> put (SEL_SELd_STAT_ACT_QL 2) 2)
def st25 : State := es (some 25) (fun b => po 6 id id b)
def st26 : State := es (some 22) (fun b => po 6 id id b)

theorem witness_LinksSynceAndEsmc_2 :
    -- dt = 5, p = 3, speed = 3, ssm = 4, lock = true, event = true, ext = none, s = st25
    (Between st25 ∧ 3 < 6 ∧ 4 < 16 ∧ (ix st25.ptp.port 3).esmcAt = none)
    -- dt = 5, p = 3, speed = 3, ssm = 4, lock = true, event = true, ext = none, s = st26
    ∧ (Between st26 ∧ 3 < 6 ∧ 4 < 16 ∧ rd st26 (PTP_Pp_STAT_LINK 3) = 1)
    ∧ (Between st26 ∧ 3 < 6 ∧ 4 < 16 ∧ Open st26 (12584032 + 128 * 3) ∧ rd st26 (PTP_Pp_STAT_ERR 3) ≠ 5 ∧ rd st26 (PTP_Pp_STAT_LINK 3) = 1)
    ∧ (Between st26 ∧ 3 < 6 ∧ 4 < 16 ∧ ptpUp st26 = true ∧ rd st26 (PTP_Pp_CFG_EN 3) = 1 ∧ rd st26 (PTP_Pp_STAT_LINK 3) = 1)
    ∧ (Between st26 ∧ 3 < 6 ∧ 4 < 16 ∧ esmcSends st26 3 = true ∧ qRoom st26 3 7 64 = true ∧ (∀ e ∈ ix (ix st26.ptp.port 3).q 7, e.kind ≠ 32)) := by
  simp only [Open, HostIdle, Between]
  decide +kernel

theorem witness_PtpMessagesAreUsed_2 :
    -- dt = 5, p = 3, m = mT, a = an, t1 = TT + 5, t2 = TT + 900, t3 = TT + 77, t4 = TT + 7777, s = st3, y = none, c = 44
    (Between st3 ∧ 3 < 6 ∧ rxOk st3 3 mT.hdr = true ∧ mT.domain = rd st3 PTP_CLK_CFG_DOMAIN ∧ rd st3 (PTP_Pp_CFG_PTP_EN 3) = 1 ∧ mT.auth = none ∧ mode st3 7 = false ∧ rd st3 (PTP_Pp_TSQCFG_CAP_PTP 3) = 0 ∧ rd st3 (PTP_Pp_TSQCFG_CAP_ET 3) = 0 ∧ 4 ≤ portState st3 3 ∧ (slaveish st3 3 = true ∧ fromParent st3 3 mT = true) ∧ (ix st3.ptp.port 3).sync = some (mT.seq, none, TT + 900, 44) ∧ (rd st3 (PTP_Pp_FILT_FMODE 3) = 0 ∧ portState st3 3 = 8 ∧ rd st3 (PTP_Pp_STAT_MPD_VALID 3) = 0))
    -- dt = 5, p = 3, m = mT, a = an, t1 = TT + 5, t2 = TT + 900, t3 = TT + 77, t4 = TT + 7777, s = st5, u1 = TT + 1, u2 = TT + 444, c = 44
    ∧ (Between st5 ∧ 3 < 6 ∧ rxOk st5 3 mT.hdr = true ∧ mT.domain = rd st5 PTP_CLK_CFG_DOMAIN ∧ rd st5 (PTP_Pp_CFG_PTP_EN 3) = 1 ∧ mT.auth = none ∧ mode st5 7 = false ∧ rd st5 (PTP_Pp_TSQCFG_CAP_PTP 3) = 0 ∧ rd st5 (PTP_Pp_TSQCFG_CAP_ET 3) = 0 ∧ 4 ≤ portState st5 3 ∧ isP2p st5 = false ∧ (slaveish st5 3 = true ∧ fromParent st5 3 mT = true) ∧ (ix st5.ptp.port 3).dreq = some (mT.seq, some (TT + 77)) ∧ (ix st5.ptp.port 3).syncDone = some (TT + 1, TT + 444, 44) ∧ (rd st5 (PTP_Pp_STAT_MPD_VALID 3) = 0 ∧ (ix st5.ptp.port 3).passed = false))
    -- dt = 5, p = 3, m = mT, a = an, t1 = TT + 5, t2 = TT + 900, t3 = TT + 77, t4 = TT + 7777, s = st7, c = 44
    ∧ (Between st7 ∧ 3 < 6 ∧ rxOk st7 3 mT.hdr = true ∧ mT.domain = rd st7 PTP_CLK_CFG_DOMAIN ∧ rd st7 (PTP_Pp_CFG_PTP_EN 3) = 1 ∧ mT.auth = none ∧ mode st7 7 = false ∧ rd st7 (PTP_Pp_TSQCFG_CAP_PTP 3) = 0 ∧ rd st7 (PTP_Pp_TSQCFG_CAP_ET 3) = 0 ∧ 4 ≤ portState st7 3 ∧ isP2p st7 = true ∧ (ix st7.ptp.port 3).pd = some (mT.seq, some (TT + 5)) ∧ (ix st7.ptp.port 3).pdResp = some (TT + 900, TT + 7777, 44) ∧ (ix st7.ptp.port 3).nrr.length < 7 ∧ (rd st7 (PTP_Pp_STAT_MPD_VALID 3) = 0 ∧ (ix st7.ptp.port 3).passed = false))
    -- dt = 5, p = 3, m = mT, a = an, t1 = TT + 5, t2 = TT + 900, t3 = TT + 77, t4 = TT + 7777, s = st8, c = 44
    ∧ (Between st8 ∧ 3 < 6 ∧ rxOk st8 3 mT.hdr = true ∧ mT.domain = rd st8 PTP_CLK_CFG_DOMAIN ∧ rd st8 (PTP_Pp_CFG_PTP_EN 3) = 1 ∧ mT.auth = none ∧ mode st8 7 = false ∧ rd st8 (PTP_Pp_TSQCFG_CAP_PTP 3) = 0 ∧ rd st8 (PTP_Pp_TSQCFG_CAP_ET 3) = 0 ∧ 4 ≤ portState st8 3 ∧ isP2p st8 = true ∧ (ix st8.ptp.port 3).pd = some (mT.seq, some (TT + 5)) ∧ (ix st8.ptp.port 3).pdResp = some (TT + 900, TT + 7777, 44) ∧ (ix st8.ptp.port 3).nrr.length < 7 ∧ (rd st8 (PTP_Pp_STAT_MPD_VALID 3) = 0 ∧ (ix st8.ptp.port 3).passed = false)) := by
  simp only [Between]
  decide +kernel

end WPtp2

namespace WCrl

def T0 : Nat := 1700000000
def TT : Nat := T0 * 1000000000 * 65536
def lnk (role : Nat) (g : LinkS → LinkS) (f : CrlS → CrlS) (fs : List (Fld × Nat)) (bs : List (Fld × Nat)) (s : State := base) : State :=
  let s := { (s |> put (CRL_LKk_CFG_EN 2) 1 |> put (CRL_LKk_CFG_ROLE 2) role |> put (CRL_LKk_TIM_RETRY 2) 3 |> put (CRL_LKk_RXLAT_LAT 2) 0xFFFFFF00 |> put (CRL_LKk_TXLAT_LAT 2) 77 |> put (CRL_LKk_CFG_ADDR 2) 4 |> put (CRL_LKk_CFG_CBASE 2) 32 |> put SCH_STAT_STATE 3
    |> put (SCH_CHn_CFG_EN 47) 1 |> put (SCH_CHn_STAT_IN_FAIL 47) 0 |> put TKP_STAT_TIME_SET 1)
    with tkp := { base.tkp with run := true }, tod := T0 * secT + 777 }
  let s := { s with crl := f { s.crl with link := vset s.crl.link 2 (g (ix s.crl.link 2)) } }
  let s := fs.foldl (fun s x => put x.1 x.2 s) s
  bs.foldl (fun s x => putIn 69 x.1 x.2 s) s
def cq (y : Nat) : CurReq := { addr := 5, type := y, seq := 9, att := 1, dl := 999999999999, txn := if 16 ≤ y then some 7 else none }
def tx (y : Nat) : Txn := { id := 7, link := 2, addr := 5, type := y, tag := 33, host := y ≤ 0x12, seq := some 9, payload := [1, 2, 3] }
def ctl (y ty st : Nat) (g : LinkS → LinkS := id) (f : CrlS → CrlS := id) : State := lnk 0 (fun l => g { l with cur := some (cq y) }) (fun c => f { c with pool := [{ tx ty with id := 3, addr := 6 }, tx ty] }) [] [(CRL_P_STAT_STATE, st), (CRL_P_CFG_VMAX, 3), (CRL_P_STAT_MISSCNT, 2), (CRL_P_STAT_VER, 3)]
def fr (p : List Byte) (evp : Bool := false) : CrlFrame := { src := 5, seq := 9, payload := p, evp := evp }
def idp : List Byte := [1,2,3,4,5,6,7,200, 2, 14, 7, 3, 0, 0, 0, 0]
def b48 : List Byte := (List.range 24).map (fun i => BitVec.ofNat 8 (i * 7 + 3))
def c_1 := cq 0
def f_2 := fr []
def st3 : State := lnk 0 id id [] []
def c_4 := cq 1
def f_5 := fr idp
def f_6 := fr [] true
def f_7 := fr []
def st8 : State := ctl 1 0 2
def c_10 := cq 3
def f_11 := fr idp
def st12 : State := ctl 3 0 0
def c_14 := cq 5
def f_15 := fr [6, 2, 0, 0]
def f_16 := fr [15, 3, 0, 0]
def f_17 := fr [6, 0, 0, 0]
def st18 : State := ctl 5 0 1
def c_19 := cq 7
def f_20 := fr [3, 2, 0, 0]
def st21 : State := ctl 7 0 1 id (fun c => { c with part := vset c.part 69 { chosen := 3 } })
def c_22 := cq 0x10
def f_23 := fr [3, 2, 0, 0]
def st24 : State := ctl 0x10 0x10 2
def c_25 := cq 0x12
def f_26 := fr []
def st27 : State := ctl 0x12 0x12 2
def c_28 := cq 0x20
def f_29 := fr []
def f_30 := fr [4, 0x20, 0, 0]
def st31 : State := ctl 0x20 0x20 2
def c_32 := cq 0x14
def f_33 := fr []
def f_34 := fr [4, 0x20, 0, 0]
def st36 : State := ctl 0x14 0x14 2
def c_37 := cq 0x22
def f_38 := fr [2, 1, 0, 0]
def f_39 := fr [4, 0x20, 3, 0]
def t_40 := { tx 0x22 with rc := some (3, 16384 + 2 * 1024 + 5 * 16) }
def st41 : State := ctl 0x22 0x22 2 id (fun c => { c with pool := [{ tx 0x22 with rc := some (3, 16384 + 2 * 1024 + 5 * 16) }] })
def tt1 : TtS := { addr := 5, seq := 44, t1 := TT - 70000000 }
def c_42 := cq 0x30
def f_43 := fr (time12 (TT - 60000000) ++ time12 (TT - 50000000))
def f_44 := fr b48
def st45 : State := ctl 0x30 0x30 2 (fun l => { l with tt := some tt1 })
def pf (p : List Byte) (retry : Bool := false) : CrlFrame := { dst := 4, seq := 9, payload := p, retry := retry }
def part (st v : Nat) (g : LinkS → LinkS := id) (fs : List (Fld × Nat) := []) : State := lnk 1 g (fun c => { c with part := vset c.part 64 { chosen := 2 } }) ([(CRL_LKk_STAT_PSTATE 2, st), (CRL_LKk_STAT_VER 2, v), (CRL_LKk_KEY_KEY_EN 2, 0)] ++ fs) []
def ev (n : Nat) (b : Nat) : Nat × List Byte := (n, [BitVec.ofNat 8 b, 7, 7, 7])
def f_46 := pf [9, 9, 0, 0]
def f_47 := pf [2, 2, 0, 0]
def f_49 := pf [6, 1]
def st50 : State := part 0 0
def st51 : State := part 2 3
def st52 : State := part 1 1
def f_53 := pf (leBytes 4 0x18 ++ [4,0,0,0])
def f_54 := pf (leBytes 4 0x18 ++ leBytes 4 0x12345678)
def f_55 := pf [] true
def st56 : State := part 2 2 id [(CRL_LKk_CFG_REMOTE 2, 1), (GEN_IRQ_EN_EN, 0x80000001)]
def st57 : State := part 2 2 (fun l => { l with pSeq := some 9, resp := (0x11, 9, [1, 2, 3]), events := [ev 3 1] }) [(CRL_LKk_CFG_REMOTE 2, 2)]
def e_59 := ev 4 2
def r_60 := [ev 5 6]
def f_61 := pf [3, 0]
def st63 : State := part 2 1 (fun l => { l with events := [ev 3 1, ev 4 2, ev 5 6] })
def swf (c act ident : Nat) (t : Nat) : CrlFrame := pf ([BitVec.ofNat 8 c, BitVec.ofNat 8 act, BitVec.ofNat 8 ident, 0] ++ leBytes 6 t ++ leBytes 4 999999999)
def tF : Nat := ((T0 + 5) * 1000000000 + 999999999) * 65536
def arm (co : Bool) : ArmedS := { ident := 15 + 256, chan := 15, act := 2, tf := tF, committed := co }
def f_66 := pf [9, 9, 0, 0]
def st67 : State := part 2 3 id [(GEN_MODESTAT_EFFECTIVE, 32)]
def st68 : State := part 2 1 id [(GEN_MODESTAT_EFFECTIVE, 32)]
def f_69 := swf 15 2 1 (T0 + 5)
def f_70 := swf 15 0 1 (T0 - 5)
def st71 : State := part 2 3
def st72 : State := part 2 2 id [(SCH_STAT_STATE, 1)]
def st73 : State := part 2 3 id [(SCH_STAT_STATE, 1)]
def a_74 := arm false
def f_75 := pf [15, 1]
def f_76 := pf [16, 1]
def st77 : State := part 2 3 (fun l => { l with armed := [arm false] })
def st79 : State := part 2 3
def f_80 := pf b48
def f_82 := pf (time12 (TT - 60000000) ++ time12 (TT - 50000000) ++ leBytes 8 12345 ++ leBytes 8 (2^64 - 5) ++ leBytes 4 4 ++ leBytes 4 0)
def f_83 := pf (time12 (TT - 60000000) ++ time12 (TT - 50000000) ++ leBytes 8 12345 ++ leBytes 8 (2^64 - 5) ++ leBytes 4 8 ++ leBytes 4 0)
def st84 : State := part 2 1 id [(GEN_MODESTAT_EFFECTIVE, 32)]
def st85 : State := part 2 2 id [(GEN_MODESTAT_EFFECTIVE, 32)]
def st87 : State := part 2 2 (fun l => { l with launch := some 99999 })
def st88 : State := part 2 2 (fun l => { l with ttSeq := some 9, t2 := TT - 300000, t3 := TT - 200000 })

theorem witness_ControllerUsesResponses :
    -- dt = 5, k = 2, c = c_1, f = f_2, t = tx 0, s = st3
    (Between st3 ∧ 2 < 4 ∧ ctlUp st3 2 = true ∧ f_2.bad = false ∧ f_2.dst = 0 ∧ f_2.payload.length ≤ 256 ∧ f_2.frank = none ∧ mode st3 7 = false ∧ rd st3 (CRL_LKk_TSQCFG_CAP_ALL 2) = 0 ∧ rd st3 (CRL_LKk_TSQCFG_CAP_TT 2) = 0 ∧ (ix st3.crl.link 2).cur = none ∧ (ix st3.crl.link 2).rej = [])
    -- dt = 5, k = 2, c = c_4, f = f_5, t = tx 0, s = st8
    ∧ (Between st8 ∧ 2 < 4 ∧ ctlUp st8 2 = true ∧ f_5.bad = false ∧ f_5.dst = 0 ∧ f_5.payload.length ≤ 256 ∧ f_5.frank = none ∧ mode st8 7 = false ∧ rd st8 (CRL_LKk_TSQCFG_CAP_ALL 2) = 0 ∧ rd st8 (CRL_LKk_TSQCFG_CAP_TT 2) = 0 ∧ ((ix st8.crl.link 2).cur = some c_4 ∧ c_4.addr = f_5.src ∧ f_5.seq = c_4.seq ∧ c_4.type = 1 ∧ (ix st8.crl.link 2).roundDue = false ∧ 1 ≤ f_5.src ∧ f_5.src < 32) ∧ pState st8 2 f_5.src = 2 ∧ f_5.evp = false)
    -- dt = 5, k = 2, c = c_4, f = f_7, t = tx 0, s = st8
    ∧ (Between st8 ∧ 2 < 4 ∧ ctlUp st8 2 = true ∧ f_7.bad = false ∧ f_7.dst = 0 ∧ f_7.payload.length ≤ 256 ∧ f_7.frank = none ∧ mode st8 7 = false ∧ rd st8 (CRL_LKk_TSQCFG_CAP_ALL 2) = 0 ∧ rd st8 (CRL_LKk_TSQCFG_CAP_TT 2) = 0 ∧ ((ix st8.crl.link 2).cur = some c_4 ∧ c_4.addr = f_7.src ∧ f_7.seq = c_4.seq ∧ c_4.type = 1 ∧ (ix st8.crl.link 2).roundDue = false ∧ 1 ≤ f_7.src ∧ f_7.src < 32) ∧ pState st8 2 f_7.src = 2 ∧ f_7.evp = false)
    -- dt = 5, k = 2, c = c_4, f = f_5, t = tx 0, s = st8
    ∧ (Between st8 ∧ 2 < 4 ∧ ctlUp st8 2 = true ∧ f_5.bad = false ∧ f_5.dst = 0 ∧ f_5.payload.length ≤ 256 ∧ f_5.frank = none ∧ mode st8 7 = false ∧ rd st8 (CRL_LKk_TSQCFG_CAP_ALL 2) = 0 ∧ rd st8 (CRL_LKk_TSQCFG_CAP_TT 2) = 0 ∧ ((ix st8.crl.link 2).cur = some c_4 ∧ c_4.addr = f_5.src ∧ f_5.seq = c_4.seq ∧ c_4.type = 3 ∧ (ix st8.crl.link 2).roundDue = false ∧ 1 ≤ f_5.src ∧ f_5.src < 32 ∨ (ix st8.crl.link 2).cur = some c_4 ∧ c_4.addr = f_5.src ∧ f_5.seq = c_4.seq ∧ c_4.type = 1 ∧ (ix st8.crl.link 2).roundDue = false ∧ 1 ≤ f_5.src ∧ f_5.src < 32) ∧ f_5.payload.length = 16 ∧ byteAt f_5.payload 9 ≠ 0 ∧ 1 ≤ byteAt f_5.payload 10 ∧ byteAt f_5.payload 10 ≤ 16 ∧ rdB st8 (pIx 2 f_5.src) CRL_P_STAT_ID_VALID = 0 ∧ pState st8 2 f_5.src ≠ 5)
    -- dt = 5, k = 2, c = c_10, f = f_11, t = tx 0, s = st12
    ∧ (Between st12 ∧ 2 < 4 ∧ ctlUp st12 2 = true ∧ f_11.bad = false ∧ f_11.dst = 0 ∧ f_11.payload.length ≤ 256 ∧ f_11.frank = none ∧ mode st12 7 = false ∧ rd st12 (CRL_LKk_TSQCFG_CAP_ALL 2) = 0 ∧ rd st12 (CRL_LKk_TSQCFG_CAP_TT 2) = 0 ∧ ((ix st12.crl.link 2).cur = some c_10 ∧ c_10.addr = f_11.src ∧ f_11.seq = c_10.seq ∧ c_10.type = 3 ∧ (ix st12.crl.link 2).roundDue = false ∧ 1 ≤ f_11.src ∧ f_11.src < 32 ∨ (ix st12.crl.link 2).cur = some c_10 ∧ c_10.addr = f_11.src ∧ f_11.seq = c_10.seq ∧ c_10.type = 1 ∧ (ix st12.crl.link 2).roundDue = false ∧ 1 ≤ f_11.src ∧ f_11.src < 32) ∧ f_11.payload.length = 16 ∧ byteAt f_11.payload 9 ≠ 0 ∧ 1 ≤ byteAt f_11.payload 10 ∧ byteAt f_11.payload 10 ≤ 16 ∧ rdB st12 (pIx 2 f_11.src) CRL_P_STAT_ID_VALID = 0 ∧ pState st12 2 f_11.src ≠ 5)
    -- dt = 5, k = 2, c = c_4, f = f_6, t = tx 0, s = st8
    ∧ (Between st8 ∧ 2 < 4 ∧ ctlUp st8 2 = true ∧ f_6.bad = false ∧ f_6.dst = 0 ∧ f_6.payload.length ≤ 256 ∧ f_6.frank = none ∧ mode st8 7 = false ∧ rd st8 (CRL_LKk_TSQCFG_CAP_ALL 2) = 0 ∧ rd st8 (CRL_LKk_TSQCFG_CAP_TT 2) = 0 ∧ ((ix st8.crl.link 2).cur = some c_4 ∧ c_4.addr = f_6.src ∧ f_6.seq = c_4.seq ∧ c_4.type = 1 ∧ (ix st8.crl.link 2).roundDue = false ∧ 1 ≤ f_6.src ∧ f_6.src < 32) ∧ pState st8 2 f_6.src = 2 ∧ f_6.evp = true)
    -- dt = 5, k = 2, c = c_14, f = f_15, t = tx 0, s = st18
    ∧ (Between st18 ∧ 2 < 4 ∧ ctlUp st18 2 = true ∧ f_15.bad = false ∧ f_15.dst = 0 ∧ f_15.payload.length ≤ 256 ∧ f_15.frank = none ∧ mode st18 7 = false ∧ rd st18 (CRL_LKk_TSQCFG_CAP_ALL 2) = 0 ∧ rd st18 (CRL_LKk_TSQCFG_CAP_TT 2) = 0 ∧ ((ix st18.crl.link 2).cur = some c_14 ∧ c_14.addr = f_15.src ∧ f_15.seq = c_14.seq ∧ c_14.type = 5 ∧ (ix st18.crl.link 2).roundDue = false ∧ 1 ≤ f_15.src ∧ f_15.src < 32) ∧ pState st18 2 f_15.src = 1 ∧ byteAt f_15.payload 1 = topVersion (vOffer st18 2 f_15.src) (byteAt f_15.payload 0) ∧ byteAt f_15.payload 1 ≠ 0 ∧ keyEn st18 2 f_15.src = false)
    -- dt = 5, k = 2, c = c_14, f = f_16, t = tx 0, s = st18
    ∧ (Between st18 ∧ 2 < 4 ∧ ctlUp st18 2 = true ∧ f_16.bad = false ∧ f_16.dst = 0 ∧ f_16.payload.length ≤ 256 ∧ f_16.frank = none ∧ mode st18 7 = false ∧ rd st18 (CRL_LKk_TSQCFG_CAP_ALL 2) = 0 ∧ rd st18 (CRL_LKk_TSQCFG_CAP_TT 2) = 0 ∧ ((ix st18.crl.link 2).cur = some c_14 ∧ c_14.addr = f_16.src ∧ f_16.seq = c_14.seq ∧ c_14.type = 5 ∧ (ix st18.crl.link 2).roundDue = false ∧ 1 ≤ f_16.src ∧ f_16.src < 32) ∧ pState st18 2 f_16.src = 1 ∧ byteAt f_16.payload 1 = topVersion (vOffer st18 2 f_16.src) (byteAt f_16.payload 0) ∧ byteAt f_16.payload 1 ≠ 0 ∧ keyEn st18 2 f_16.src = false)
    -- dt = 5, k = 2, c = c_14, f = f_17, t = tx 0, s = st18
    ∧ (Between st18 ∧ 2 < 4 ∧ ctlUp st18 2 = true ∧ f_17.bad = false ∧ f_17.dst = 0 ∧ f_17.payload.length ≤ 256 ∧ f_17.frank = none ∧ mode st18 7 = false ∧ rd st18 (CRL_LKk_TSQCFG_CAP_ALL 2) = 0 ∧ rd st18 (CRL_LKk_TSQCFG_CAP_TT 2) = 0 ∧ ((ix st18.crl.link 2).cur = some c_14 ∧ c_14.addr = f_17.src ∧ f_17.seq = c_14.seq ∧ c_14.type = 5 ∧ (ix st18.crl.link 2).roundDue = false ∧ 1 ≤ f_17.src ∧ f_17.src < 32) ∧ pState st18 2 f_17.src = 1 ∧ byteAt f_17.payload 1 = 0)
    -- dt = 5, k = 2, c = c_19, f = f_20, t = tx 0, s = st21
    ∧ (Between st21 ∧ 2 < 4 ∧ ctlUp st21 2 = true ∧ f_20.bad = false ∧ f_20.dst = 0 ∧ f_20.payload.length ≤ 256 ∧ f_20.frank = none ∧ mode st21 7 = false ∧ rd st21 (CRL_LKk_TSQCFG_CAP_ALL 2) = 0 ∧ rd st21 (CRL_LKk_TSQCFG_CAP_TT 2) = 0 ∧ ((ix st21.crl.link 2).cur = some c_19 ∧ c_19.addr = f_20.src ∧ f_20.seq = c_19.seq ∧ c_19.type = 7 ∧ (ix st21.crl.link 2).roundDue = false ∧ 1 ≤ f_20.src ∧ f_20.src < 32) ∧ pState st21 2 f_20.src = 1 ∧ byteAt f_20.payload 0 = (ix st21.crl.part (pIx 2 f_20.src)).chosen ∧ keyEn st21 2 f_20.src = false)
    -- dt = 5, k = 2, c = c_22, f = f_23, t = tx 16, s = st24
    ∧ (Between st24 ∧ 2 < 4 ∧ ctlUp st24 2 = true ∧ f_23.bad = false ∧ f_23.dst = 0 ∧ f_23.payload.length ≤ 256 ∧ f_23.frank = none ∧ mode st24 7 = false ∧ rd st24 (CRL_LKk_TSQCFG_CAP_ALL 2) = 0 ∧ rd st24 (CRL_LKk_TSQCFG_CAP_TT 2) = 0 ∧ ((ix st24.crl.link 2).cur = some c_22 ∧ c_22.addr = f_23.src ∧ f_23.seq = c_22.seq ∧ c_22.type = 16 ∧ (ix st24.crl.link 2).roundDue = false ∧ 1 ≤ f_23.src ∧ f_23.src < 32) ∧ (c_22.txn = some (tx 16).id ∧ List.find? (fun x => x.id == (tx 16).id) st24.crl.pool = some (tx 16)) ∧ st24.crl.lbi.length < 64 ∧ keyEn st24 2 f_23.src = false)
    ∧ (Between st24 ∧ 2 < 4 ∧ ctlUp st24 2 = true ∧ f_23.bad = false ∧ f_23.dst = 0 ∧ f_23.payload.length ≤ 256 ∧ f_23.frank = none ∧ mode st24 7 = false ∧ rd st24 (CRL_LKk_TSQCFG_CAP_ALL 2) = 0 ∧ rd st24 (CRL_LKk_TSQCFG_CAP_TT 2) = 0 ∧ (c_22.txn = some (tx 16).id ∧ List.find? (fun x => x.id == (tx 16).id) st24.crl.pool = some (tx 16)) ∧ keyEn st24 2 f_23.src = false ∧ ((ix st24.crl.link 2).cur = some c_22 ∧ c_22.addr = f_23.src ∧ f_23.seq = c_22.seq ∧ c_22.type = 16 ∧ (ix st24.crl.link 2).roundDue = false ∧ 1 ≤ f_23.src ∧ f_23.src < 32) ∧ (tx 16).host = true ∧ st24.crl.lbi.length < 64)
    -- dt = 5, k = 2, c = c_25, f = f_26, t = tx 18, s = st27
    ∧ (Between st27 ∧ 2 < 4 ∧ ctlUp st27 2 = true ∧ f_26.bad = false ∧ f_26.dst = 0 ∧ f_26.payload.length ≤ 256 ∧ f_26.frank = none ∧ mode st27 7 = false ∧ rd st27 (CRL_LKk_TSQCFG_CAP_ALL 2) = 0 ∧ rd st27 (CRL_LKk_TSQCFG_CAP_TT 2) = 0 ∧ ((ix st27.crl.link 2).cur = some c_25 ∧ c_25.addr = f_26.src ∧ f_26.seq = c_25.seq ∧ c_25.type = 18 ∧ (ix st27.crl.link 2).roundDue = false ∧ 1 ≤ f_26.src ∧ f_26.src < 32 ∨ (ix st27.crl.link 2).cur = some c_25 ∧ c_25.addr = f_26.src ∧ f_26.seq = c_25.seq ∧ c_25.type = 32 ∧ (ix st27.crl.link 2).roundDue = false ∧ 1 ≤ f_26.src ∧ f_26.src < 32) ∧ (c_25.txn = some (tx 18).id ∧ List.find? (fun x => x.id == (tx 18).id) st27.crl.pool = some (tx 18)) ∧ keyEn st27 2 f_26.src = false ∧ (tx 18).type = 18 ∧ st27.crl.lbi.length < 64)
    -- dt = 5, k = 2, c = c_28, f = f_29, t = tx 32, s = st31
    ∧ (Between st31 ∧ 2 < 4 ∧ ctlUp st31 2 = true ∧ f_29.bad = false ∧ f_29.dst = 0 ∧ f_29.payload.length ≤ 256 ∧ f_29.frank = none ∧ mode st31 7 = false ∧ rd st31 (CRL_LKk_TSQCFG_CAP_ALL 2) = 0 ∧ rd st31 (CRL_LKk_TSQCFG_CAP_TT 2) = 0 ∧ ((ix st31.crl.link 2).cur = some c_28 ∧ c_28.addr = f_29.src ∧ f_29.seq = c_28.seq ∧ c_28.type = 18 ∧ (ix st31.crl.link 2).roundDue = false ∧ 1 ≤ f_29.src ∧ f_29.src < 32 ∨ (ix st31.crl.link 2).cur = some c_28 ∧ c_28.addr = f_29.src ∧ f_29.seq = c_28.seq ∧ c_28.type = 32 ∧ (ix st31.crl.link 2).roundDue = false ∧ 1 ≤ f_29.src ∧ f_29.src < 32) ∧ (c_28.txn = some (tx 32).id ∧ List.find? (fun x => x.id == (tx 32).id) st31.crl.pool = some (tx 32)) ∧ keyEn st31 2 f_29.src = false ∧ (tx 32).type = 32 ∧ (tx 32).rc = none)
    -- dt = 5, k = 2, c = c_28, f = f_30, t = tx 32, s = st31
    ∧ (Between st31 ∧ 2 < 4 ∧ ctlUp st31 2 = true ∧ f_30.bad = false ∧ f_30.dst = 0 ∧ f_30.payload.length ≤ 256 ∧ f_30.frank = none ∧ mode st31 7 = false ∧ rd st31 (CRL_LKk_TSQCFG_CAP_ALL 2) = 0 ∧ rd st31 (CRL_LKk_TSQCFG_CAP_TT 2) = 0 ∧ ((ix st31.crl.link 2).cur = some c_28 ∧ c_28.addr = f_30.src ∧ f_30.seq = c_28.seq ∧ c_28.type = 18 ∧ (ix st31.crl.link 2).roundDue = false ∧ 1 ≤ f_30.src ∧ f_30.src < 32 ∨ (ix st31.crl.link 2).cur = some c_28 ∧ c_28.addr = f_30.src ∧ f_30.seq = c_28.seq ∧ c_28.type = 32 ∧ (ix st31.crl.link 2).roundDue = false ∧ 1 ≤ f_30.src ∧ f_30.src < 32) ∧ (c_28.txn = some (tx 32).id ∧ List.find? (fun x => x.id == (tx 32).id) st31.crl.pool = some (tx 32)) ∧ keyEn st31 2 f_30.src = false ∧ (tx 32).type = 32 ∧ (tx 32).rc = none)
    -- dt = 5, k = 2, c = c_28, f = f_29, t = tx 32, s = st31
    ∧ (Between st31 ∧ 2 < 4 ∧ ctlUp st31 2 = true ∧ f_29.bad = false ∧ f_29.dst = 0 ∧ f_29.payload.length ≤ 256 ∧ f_29.frank = none ∧ mode st31 7 = false ∧ rd st31 (CRL_LKk_TSQCFG_CAP_ALL 2) = 0 ∧ rd st31 (CRL_LKk_TSQCFG_CAP_TT 2) = 0 ∧ (c_28.txn = some (tx 32).id ∧ List.find? (fun x => x.id == (tx 32).id) st31.crl.pool = some (tx 32)) ∧ keyEn st31 2 f_29.src = false ∧ ((ix st31.crl.link 2).cur = some c_28 ∧ c_28.addr = f_29.src ∧ f_29.seq = c_28.seq ∧ c_28.type = 32 ∧ (ix st31.crl.link 2).roundDue = false ∧ 1 ≤ f_29.src ∧ f_29.src < 32) ∧ (tx 32).host = false ∧ (tx 32).type = 32)
    -- dt = 5, k = 2, c = c_28, f = f_30, t = tx 32, s = st31
    ∧ (Between st31 ∧ 2 < 4 ∧ ctlUp st31 2 = true ∧ f_30.bad = false ∧ f_30.dst = 0 ∧ f_30.payload.length ≤ 256 ∧ f_30.frank = none ∧ mode st31 7 = false ∧ rd st31 (CRL_LKk_TSQCFG_CAP_ALL 2) = 0 ∧ rd st31 (CRL_LKk_TSQCFG_CAP_TT 2) = 0 ∧ (c_28.txn = some (tx 32).id ∧ List.find? (fun x => x.id == (tx 32).id) st31.crl.pool = some (tx 32)) ∧ keyEn st31 2 f_30.src = false ∧ ((ix st31.crl.link 2).cur = some c_28 ∧ c_28.addr = f_30.src ∧ f_30.seq = c_28.seq ∧ c_28.type = 32 ∧ (ix st31.crl.link 2).roundDue = false ∧ 1 ≤ f_30.src ∧ f_30.src < 32) ∧ (tx 32).host = false ∧ (tx 32).type = 32)
    -- dt = 5, k = 2, c = c_32, f = f_33, t = tx 20, s = st36
    ∧ (Between st36 ∧ 2 < 4 ∧ ctlUp st36 2 = true ∧ f_33.bad = false ∧ f_33.dst = 0 ∧ f_33.payload.length ≤ 256 ∧ f_33.frank = none ∧ mode st36 7 = false ∧ rd st36 (CRL_LKk_TSQCFG_CAP_ALL 2) = 0 ∧ rd st36 (CRL_LKk_TSQCFG_CAP_TT 2) = 0 ∧ ((ix st36.crl.link 2).cur = some c_32 ∧ c_32.addr = f_33.src ∧ f_33.seq = c_32.seq ∧ c_32.type = 20 ∧ (ix st36.crl.link 2).roundDue = false ∧ 1 ≤ f_33.src ∧ f_33.src < 32) ∧ (c_32.txn = some (tx 20).id ∧ List.find? (fun x => x.id == (tx 20).id) st36.crl.pool = some (tx 20)) ∧ keyEn st36 2 f_33.src = false ∧ f_33.payload = [])
    -- dt = 5, k = 2, c = c_32, f = f_34, t = tx 20, s = st36
    ∧ (Between st36 ∧ 2 < 4 ∧ ctlUp st36 2 = true ∧ f_34.bad = false ∧ f_34.dst = 0 ∧ f_34.payload.length ≤ 256 ∧ f_34.frank = none ∧ mode st36 7 = false ∧ rd st36 (CRL_LKk_TSQCFG_CAP_ALL 2) = 0 ∧ rd st36 (CRL_LKk_TSQCFG_CAP_TT 2) = 0 ∧ ((ix st36.crl.link 2).cur = some c_32 ∧ c_32.addr = f_34.src ∧ f_34.seq = c_32.seq ∧ c_32.type = 20 ∧ (ix st36.crl.link 2).roundDue = false ∧ 1 ≤ f_34.src ∧ f_34.src < 32) ∧ (c_32.txn = some (tx 20).id ∧ List.find? (fun x => x.id == (tx 20).id) st36.crl.pool = some (tx 20)) ∧ keyEn st36 2 f_34.src = false ∧ f_34.payload ≠ [] ∧ byteAt f_34.payload 0 ≠ 1 ∧ st36.crl.lbi.length < 64)
    -- dt = 5, k = 2, c = c_37, f = f_38, t = t_40, s = st41, j = 3, code = 16384 + 2 * 1024 + 5 * 16
    ∧ (Between st41 ∧ 2 < 4 ∧ ctlUp st41 2 = true ∧ f_38.bad = false ∧ f_38.dst = 0 ∧ f_38.payload.length ≤ 256 ∧ f_38.frank = none ∧ mode st41 7 = false ∧ rd st41 (CRL_LKk_TSQCFG_CAP_ALL 2) = 0 ∧ rd st41 (CRL_LKk_TSQCFG_CAP_TT 2) = 0 ∧ ((ix st41.crl.link 2).cur = some c_37 ∧ c_37.addr = f_38.src ∧ f_38.seq = c_37.seq ∧ c_37.type = 34 ∧ (ix st41.crl.link 2).roundDue = false ∧ 1 ≤ f_38.src ∧ f_38.src < 32) ∧ (c_37.txn = some t_40.id ∧ List.find? (fun x => x.id == t_40.id) st41.crl.pool = some t_40) ∧ keyEn st41 2 f_38.src = false ∧ t_40.rc = some (3, 16384 + 2 * 1024 + 5 * 16) ∧ byteAt f_38.payload 2 = 0)
    -- dt = 5, k = 2, c = c_37, f = f_39, t = t_40, s = st41
    ∧ (Between st41 ∧ 2 < 4 ∧ ctlUp st41 2 = true ∧ f_39.bad = false ∧ f_39.dst = 0 ∧ f_39.payload.length ≤ 256 ∧ f_39.frank = none ∧ mode st41 7 = false ∧ rd st41 (CRL_LKk_TSQCFG_CAP_ALL 2) = 0 ∧ rd st41 (CRL_LKk_TSQCFG_CAP_TT 2) = 0 ∧ ((ix st41.crl.link 2).cur = some c_37 ∧ c_37.addr = f_39.src ∧ f_39.seq = c_37.seq ∧ c_37.type = 34 ∧ (ix st41.crl.link 2).roundDue = false ∧ 1 ≤ f_39.src ∧ f_39.src < 32) ∧ (c_37.txn = some t_40.id ∧ List.find? (fun x => x.id == t_40.id) st41.crl.pool = some t_40) ∧ keyEn st41 2 f_39.src = false ∧ byteAt f_39.payload 2 ≠ 0)
    -- dt = 5, k = 2, c = c_42, f = f_43, t = tx 48, s = st45, x = tt1
    ∧ (Between st45 ∧ 2 < 4 ∧ ctlUp st45 2 = true ∧ f_43.bad = false ∧ f_43.dst = 0 ∧ f_43.payload.length ≤ 256 ∧ f_43.frank = none ∧ mode st45 7 = false ∧ rd st45 (CRL_LKk_TSQCFG_CAP_ALL 2) = 0 ∧ rd st45 (CRL_LKk_TSQCFG_CAP_TT 2) = 0 ∧ ((ix st45.crl.link 2).cur = some c_42 ∧ c_42.addr = f_43.src ∧ f_43.seq = c_42.seq ∧ c_42.type = 48 ∧ (ix st45.crl.link 2).roundDue = false ∧ 1 ≤ f_43.src ∧ f_43.src < 32) ∧ (c_42.txn = some (tx 48).id ∧ List.find? (fun x => x.id == (tx 48).id) st45.crl.pool = some (tx 48)) ∧ keyEn st45 2 f_43.src = false ∧ (ix st45.crl.link 2).tt = some tt1 ∧ tt1.cal = false)
    -- dt = 5, k = 2, c = c_42, f = f_44, t = tx 48, s = st45, x = tt1
    ∧ (Between st45 ∧ 2 < 4 ∧ ctlUp st45 2 = true ∧ f_44.bad = false ∧ f_44.dst = 0 ∧ f_44.payload.length ≤ 256 ∧ f_44.frank = none ∧ mode st45 7 = false ∧ rd st45 (CRL_LKk_TSQCFG_CAP_ALL 2) = 0 ∧ rd st45 (CRL_LKk_TSQCFG_CAP_TT 2) = 0 ∧ ((ix st45.crl.link 2).cur = some c_42 ∧ c_42.addr = f_44.src ∧ f_44.seq = c_42.seq ∧ c_42.type = 48 ∧ (ix st45.crl.link 2).roundDue = false ∧ 1 ≤ f_44.src ∧ f_44.src < 32) ∧ (c_42.txn = some (tx 48).id ∧ List.find? (fun x => x.id == (tx 48).id) st45.crl.pool = some (tx 48)) ∧ keyEn st45 2 f_44.src = false ∧ (ix st45.crl.link 2).tt = some tt1 ∧ tt1.cal = false) := by
  simp only [Between]
  decide +kernel

theorem witness_PartnerAnswersRequests :
    -- dt = 5, k = 2, v = 43981, f = f_46, s = st50
    (Between st50 ∧ 2 < 4 ∧ parUp st50 2 = true ∧ f_46.bad = false ∧ f_46.dst = rd st50 (CRL_LKk_CFG_ADDR 2) ∧ f_46.payload.length ≤ 256 ∧ f_46.frank = none ∧ mode st50 7 = false ∧ rd st50 (CRL_LKk_KEY_KEY_EN 2) = 0 ∧ rd st50 (CRL_LKk_TSQCFG_CAP_ALL 2) = 0 ∧ rd st50 (CRL_LKk_TSQCFG_CAP_TT 2) = 0 ∧ (¬rd st50 (CRL_LKk_STAT_PSTATE 2) = 2))
    -- dt = 5, k = 2, v = 43981, f = f_49, s = st52
    ∧ (Between st52 ∧ 2 < 4 ∧ parUp st52 2 = true ∧ f_49.bad = false ∧ f_49.dst = rd st52 (CRL_LKk_CFG_ADDR 2) ∧ f_49.payload.length ≤ 256 ∧ f_49.frank = none ∧ mode st52 7 = false ∧ rd st52 (CRL_LKk_KEY_KEY_EN 2) = 0 ∧ rd st52 (CRL_LKk_TSQCFG_CAP_ALL 2) = 0 ∧ rd st52 (CRL_LKk_TSQCFG_CAP_TT 2) = 0 ∧ (¬rd st52 (CRL_LKk_STAT_PSTATE 2) = 2))
    -- dt = 5, k = 2, v = 43981, f = f_46, s = st50
    ∧ (Between st50 ∧ 2 < 4 ∧ parUp st50 2 = true ∧ f_46.bad = false ∧ f_46.dst = rd st50 (CRL_LKk_CFG_ADDR 2) ∧ f_46.payload.length ≤ 256 ∧ f_46.frank = none ∧ mode st50 7 = false ∧ rd st50 (CRL_LKk_KEY_KEY_EN 2) = 0 ∧ rd st50 (CRL_LKk_TSQCFG_CAP_ALL 2) = 0 ∧ rd st50 (CRL_LKk_TSQCFG_CAP_TT 2) = 0)
    -- dt = 5, k = 2, v = 0, f = f_83, s = st88
    ∧ (Between st88 ∧ 2 < 4 ∧ parUp st88 2 = true ∧ f_83.bad = false ∧ f_83.dst = rd st88 (CRL_LKk_CFG_ADDR 2) ∧ f_83.payload.length ≤ 256 ∧ f_83.frank = none ∧ mode st88 7 = false ∧ rd st88 (CRL_LKk_KEY_KEY_EN 2) = 0 ∧ rd st88 (CRL_LKk_TSQCFG_CAP_ALL 2) = 0 ∧ rd st88 (CRL_LKk_TSQCFG_CAP_TT 2) = 0)
    -- dt = 5, k = 2, v = 43981, f = f_46, s = st51
    ∧ (Between st51 ∧ 2 < 4 ∧ parUp st51 2 = true ∧ f_46.bad = false ∧ f_46.dst = rd st51 (CRL_LKk_CFG_ADDR 2) ∧ f_46.payload.length ≤ 256 ∧ f_46.frank = none ∧ mode st51 7 = false ∧ rd st51 (CRL_LKk_KEY_KEY_EN 2) = 0 ∧ rd st51 (CRL_LKk_TSQCFG_CAP_ALL 2) = 0 ∧ rd st51 (CRL_LKk_TSQCFG_CAP_TT 2) = 0 ∧ rd st51 (CRL_LKk_STAT_PSTATE 2) = 2)
    -- dt = 5, k = 2, v = 0, f = f_83, s = st88
    ∧ (Between st88 ∧ 2 < 4 ∧ parUp st88 2 = true ∧ f_83.bad = false ∧ f_83.dst = rd st88 (CRL_LKk_CFG_ADDR 2) ∧ f_83.payload.length ≤ 256 ∧ f_83.frank = none ∧ mode st88 7 = false ∧ rd st88 (CRL_LKk_KEY_KEY_EN 2) = 0 ∧ rd st88 (CRL_LKk_TSQCFG_CAP_ALL 2) = 0 ∧ rd st88 (CRL_LKk_TSQCFG_CAP_TT 2) = 0 ∧ rd st88 (CRL_LKk_STAT_PSTATE 2) = 2)
    -- dt = 5, k = 2, v = 43981, f = f_46, s = st51
    ∧ (Between st51 ∧ 2 < 4 ∧ parUp st51 2 = true ∧ f_46.bad = false ∧ f_46.dst = rd st51 (CRL_LKk_CFG_ADDR 2) ∧ f_46.payload.length ≤ 256 ∧ f_46.frank = none ∧ mode st51 7 = false ∧ rd st51 (CRL_LKk_KEY_KEY_EN 2) = 0 ∧ rd st51 (CRL_LKk_TSQCFG_CAP_ALL 2) = 0 ∧ rd st51 (CRL_LKk_TSQCFG_CAP_TT 2) = 0 ∧ (rd st51 (CRL_LKk_STAT_PSTATE 2) = 2 ∧ f_46.retry = false) ∧ rd st51 (CRL_LKk_CFG_REMOTE 2) = 0)
    -- dt = 5, k = 2, v = 0, f = f_83, s = st88
    ∧ (Between st88 ∧ 2 < 4 ∧ parUp st88 2 = true ∧ f_83.bad = false ∧ f_83.dst = rd st88 (CRL_LKk_CFG_ADDR 2) ∧ f_83.payload.length ≤ 256 ∧ f_83.frank = none ∧ mode st88 7 = false ∧ rd st88 (CRL_LKk_KEY_KEY_EN 2) = 0 ∧ rd st88 (CRL_LKk_TSQCFG_CAP_ALL 2) = 0 ∧ rd st88 (CRL_LKk_TSQCFG_CAP_TT 2) = 0 ∧ (rd st88 (CRL_LKk_STAT_PSTATE 2) = 2 ∧ f_83.retry = false) ∧ rd st88 (CRL_LKk_CFG_REMOTE 2) = 0)
    -- dt = 5, k = 2, v = 43981, f = f_46, s = st51
    ∧ (Between st51 ∧ 2 < 4 ∧ parUp st51 2 = true ∧ f_46.bad = false ∧ f_46.dst = rd st51 (CRL_LKk_CFG_ADDR 2) ∧ f_46.payload.length ≤ 256 ∧ f_46.frank = none ∧ mode st51 7 = false ∧ rd st51 (CRL_LKk_KEY_KEY_EN 2) = 0 ∧ rd st51 (CRL_LKk_TSQCFG_CAP_ALL 2) = 0 ∧ rd st51 (CRL_LKk_TSQCFG_CAP_TT 2) = 0 ∧ (rd st51 (CRL_LKk_STAT_PSTATE 2) = 2 ∧ f_46.retry = false) ∧ List.filter (fun e => e.1 != fieldAt f_46.payload 0 2) (ix st51.crl.link 2).events = [])
    -- dt = 5, k = 2, v = 0, f = f_83, s = st88
    ∧ (Between st88 ∧ 2 < 4 ∧ parUp st88 2 = true ∧ f_83.bad = false ∧ f_83.dst = rd st88 (CRL_LKk_CFG_ADDR 2) ∧ f_83.payload.length ≤ 256 ∧ f_83.frank = none ∧ mode st88 7 = false ∧ rd st88 (CRL_LKk_KEY_KEY_EN 2) = 0 ∧ rd st88 (CRL_LKk_TSQCFG_CAP_ALL 2) = 0 ∧ rd st88 (CRL_LKk_TSQCFG_CAP_TT 2) = 0 ∧ (rd st88 (CRL_LKk_STAT_PSTATE 2) = 2 ∧ f_83.retry = false) ∧ List.filter (fun e => e.1 != fieldAt f_83.payload 0 2) (ix st88.crl.link 2).events = [])
    -- dt = 5, k = 2, v = 43981, f = f_46, s = st51
    ∧ (Between st51 ∧ 2 < 4 ∧ parUp st51 2 = true ∧ f_46.bad = false ∧ f_46.dst = rd st51 (CRL_LKk_CFG_ADDR 2) ∧ f_46.payload.length ≤ 256 ∧ f_46.frank = none ∧ mode st51 7 = false ∧ rd st51 (CRL_LKk_KEY_KEY_EN 2) = 0 ∧ rd st51 (CRL_LKk_TSQCFG_CAP_ALL 2) = 0 ∧ rd st51 (CRL_LKk_TSQCFG_CAP_TT 2) = 0 ∧ (rd st51 (CRL_LKk_STAT_PSTATE 2) = 2 ∧ f_46.retry = false) ∧ rd st51 (CRL_LKk_STAT_VER 2) = 3 ∧ List.filter (fun a => a.ident == fieldAt f_46.payload 0 2) (ix st51.crl.link 2).armed = [])
    -- dt = 5, k = 2, v = 0, f = f_76, s = st79
    ∧ (Between st79 ∧ 2 < 4 ∧ parUp st79 2 = true ∧ f_76.bad = false ∧ f_76.dst = rd st79 (CRL_LKk_CFG_ADDR 2) ∧ f_76.payload.length ≤ 256 ∧ f_76.frank = none ∧ mode st79 7 = false ∧ rd st79 (CRL_LKk_KEY_KEY_EN 2) = 0 ∧ rd st79 (CRL_LKk_TSQCFG_CAP_ALL 2) = 0 ∧ rd st79 (CRL_LKk_TSQCFG_CAP_TT 2) = 0 ∧ (rd st79 (CRL_LKk_STAT_PSTATE 2) = 2 ∧ f_76.retry = false) ∧ rd st79 (CRL_LKk_STAT_VER 2) = 3 ∧ List.filter (fun a => a.ident == fieldAt f_76.payload 0 2) (ix st79.crl.link 2).armed = [])
    -- dt = 5, k = 2, v = 43981, f = f_46, s = st51
    ∧ (Between st51 ∧ 2 < 4 ∧ parUp st51 2 = true ∧ f_46.bad = false ∧ f_46.dst = rd st51 (CRL_LKk_CFG_ADDR 2) ∧ f_46.payload.length ≤ 256 ∧ f_46.frank = none ∧ mode st51 7 = false ∧ rd st51 (CRL_LKk_KEY_KEY_EN 2) = 0 ∧ rd st51 (CRL_LKk_TSQCFG_CAP_ALL 2) = 0 ∧ rd st51 (CRL_LKk_TSQCFG_CAP_TT 2) = 0 ∧ (rd st51 (CRL_LKk_STAT_PSTATE 2) = 2 ∧ f_46.retry = false) ∧ rd st51 (CRL_LKk_STAT_VER 2) = 3 ∧ (ix st51.crl.link 2).armed = [] ∧ (∀ n < 48, (ix st51.sch.ch n).load = []))
    -- dt = 5, k = 2, v = 0, f = f_76, s = st79
    ∧ (Between st79 ∧ 2 < 4 ∧ parUp st79 2 = true ∧ f_76.bad = false ∧ f_76.dst = rd st79 (CRL_LKk_CFG_ADDR 2) ∧ f_76.payload.length ≤ 256 ∧ f_76.frank = none ∧ mode st79 7 = false ∧ rd st79 (CRL_LKk_KEY_KEY_EN 2) = 0 ∧ rd st79 (CRL_LKk_TSQCFG_CAP_ALL 2) = 0 ∧ rd st79 (CRL_LKk_TSQCFG_CAP_TT 2) = 0 ∧ (rd st79 (CRL_LKk_STAT_PSTATE 2) = 2 ∧ f_76.retry = false) ∧ rd st79 (CRL_LKk_STAT_VER 2) = 3 ∧ (ix st79.crl.link 2).armed = [] ∧ (∀ n < 48, (ix st79.sch.ch n).load = []))
    -- dt = 5, k = 2, v = 43981, f = f_46, s = st51
    ∧ (Between st51 ∧ 2 < 4 ∧ parUp st51 2 = true ∧ f_46.bad = false ∧ f_46.dst = rd st51 (CRL_LKk_CFG_ADDR 2) ∧ f_46.payload.length ≤ 256 ∧ f_46.frank = none ∧ mode st51 7 = false ∧ rd st51 (CRL_LKk_KEY_KEY_EN 2) = 0 ∧ rd st51 (CRL_LKk_TSQCFG_CAP_ALL 2) = 0 ∧ rd st51 (CRL_LKk_TSQCFG_CAP_TT 2) = 0 ∧ rd st51 (CRL_LKk_STAT_PSTATE 2) = 2 ∧ mode st51 5 = false)
    -- dt = 5, k = 2, v = 0, f = f_83, s = st88
    ∧ (Between st88 ∧ 2 < 4 ∧ parUp st88 2 = true ∧ f_83.bad = false ∧ f_83.dst = rd st88 (CRL_LKk_CFG_ADDR 2) ∧ f_83.payload.length ≤ 256 ∧ f_83.frank = none ∧ mode st88 7 = false ∧ rd st88 (CRL_LKk_KEY_KEY_EN 2) = 0 ∧ rd st88 (CRL_LKk_TSQCFG_CAP_ALL 2) = 0 ∧ rd st88 (CRL_LKk_TSQCFG_CAP_TT 2) = 0 ∧ rd st88 (CRL_LKk_STAT_PSTATE 2) = 2 ∧ mode st88 5 = false)
    -- dt = 5, k = 2, v = 43981, f = f_47, s = st50
    ∧ (Between st50 ∧ 2 < 4 ∧ parUp st50 2 = true ∧ f_47.bad = false ∧ f_47.dst = rd st50 (CRL_LKk_CFG_ADDR 2) ∧ f_47.payload.length ≤ 256 ∧ f_47.frank = none ∧ mode st50 7 = false ∧ rd st50 (CRL_LKk_KEY_KEY_EN 2) = 0 ∧ rd st50 (CRL_LKk_TSQCFG_CAP_ALL 2) = 0 ∧ rd st50 (CRL_LKk_TSQCFG_CAP_TT 2) = 0 ∧ (ix st50.crl.part (pIx 2 0)).chosen ≠ 0 ∧ (ix st50.crl.part (pIx 2 0)).chosen < 4 ∧ byteAt f_47.payload 0 = (ix st50.crl.part (pIx 2 0)).chosen)
    -- dt = 5, k = 2, v = 43981, f = f_47, s = st52
    ∧ (Between st52 ∧ 2 < 4 ∧ parUp st52 2 = true ∧ f_47.bad = false ∧ f_47.dst = rd st52 (CRL_LKk_CFG_ADDR 2) ∧ f_47.payload.length ≤ 256 ∧ f_47.frank = none ∧ mode st52 7 = false ∧ rd st52 (CRL_LKk_KEY_KEY_EN 2) = 0 ∧ rd st52 (CRL_LKk_TSQCFG_CAP_ALL 2) = 0 ∧ rd st52 (CRL_LKk_TSQCFG_CAP_TT 2) = 0 ∧ (ix st52.crl.part (pIx 2 0)).chosen ≠ 0 ∧ (ix st52.crl.part (pIx 2 0)).chosen < 4 ∧ byteAt f_47.payload 0 = (ix st52.crl.part (pIx 2 0)).chosen)
    -- dt = 5, k = 2, v = 305419896, f = f_53, s = st56
    ∧ (Between st56 ∧ 2 < 4 ∧ parUp st56 2 = true ∧ f_53.bad = false ∧ f_53.dst = rd st56 (CRL_LKk_CFG_ADDR 2) ∧ f_53.payload.length ≤ 256 ∧ f_53.frank = none ∧ mode st56 7 = false ∧ rd st56 (CRL_LKk_KEY_KEY_EN 2) = 0 ∧ rd st56 (CRL_LKk_TSQCFG_CAP_ALL 2) = 0 ∧ rd st56 (CRL_LKk_TSQCFG_CAP_TT 2) = 0 ∧ (rd st56 (CRL_LKk_STAT_PSTATE 2) = 2 ∧ f_53.retry = false) ∧ rd st56 (CRL_LKk_CFG_REMOTE 2) = 1 ∧ f_53.payload = leBytes 4 24 ++ [4, 0, 0, 0])
    -- dt = 5, k = 2, v = 305419896, f = f_54, s = st57
    ∧ (Between st57 ∧ 2 < 4 ∧ parUp st57 2 = true ∧ f_54.bad = false ∧ f_54.dst = rd st57 (CRL_LKk_CFG_ADDR 2) ∧ f_54.payload.length ≤ 256 ∧ f_54.frank = none ∧ mode st57 7 = false ∧ rd st57 (CRL_LKk_KEY_KEY_EN 2) = 0 ∧ rd st57 (CRL_LKk_TSQCFG_CAP_ALL 2) = 0 ∧ rd st57 (CRL_LKk_TSQCFG_CAP_TT 2) = 0 ∧ (rd st57 (CRL_LKk_STAT_PSTATE 2) = 2 ∧ f_54.retry = false) ∧ rd st57 (CRL_LKk_CFG_REMOTE 2) = 2 ∧ 305419896 < 2 ^ 32 ∧ f_54.payload = leBytes 4 24 ++ leBytes 4 305419896)
    -- dt = 5, k = 2, v = 305419896, f = f_55, s = st57
    ∧ (Between st57 ∧ 2 < 4 ∧ parUp st57 2 = true ∧ f_55.bad = false ∧ f_55.dst = rd st57 (CRL_LKk_CFG_ADDR 2) ∧ f_55.payload.length ≤ 256 ∧ f_55.frank = none ∧ mode st57 7 = false ∧ rd st57 (CRL_LKk_KEY_KEY_EN 2) = 0 ∧ rd st57 (CRL_LKk_TSQCFG_CAP_ALL 2) = 0 ∧ rd st57 (CRL_LKk_TSQCFG_CAP_TT 2) = 0 ∧ rd st57 (CRL_LKk_STAT_PSTATE 2) = 2 ∧ f_55.retry = true ∧ (ix st57.crl.link 2).pSeq = some f_55.seq)
    -- dt = 5, k = 2, v = 0, f = f_61, s = st63, e = e_59, r = r_60
    ∧ (Between st63 ∧ 2 < 4 ∧ parUp st63 2 = true ∧ f_61.bad = false ∧ f_61.dst = rd st63 (CRL_LKk_CFG_ADDR 2) ∧ f_61.payload.length ≤ 256 ∧ f_61.frank = none ∧ mode st63 7 = false ∧ rd st63 (CRL_LKk_KEY_KEY_EN 2) = 0 ∧ rd st63 (CRL_LKk_TSQCFG_CAP_ALL 2) = 0 ∧ rd st63 (CRL_LKk_TSQCFG_CAP_TT 2) = 0 ∧ (rd st63 (CRL_LKk_STAT_PSTATE 2) = 2 ∧ f_61.retry = false) ∧ List.filter (fun e => e.1 != fieldAt f_61.payload 0 2) (ix st63.crl.link 2).events = e_59 :: r_60)
    -- dt = 5, k = 2, v = 0, f = f_66, s = st67
    ∧ (Between st67 ∧ 2 < 4 ∧ parUp st67 2 = true ∧ f_66.bad = false ∧ f_66.dst = rd st67 (CRL_LKk_CFG_ADDR 2) ∧ f_66.payload.length ≤ 256 ∧ f_66.frank = none ∧ mode st67 7 = false ∧ rd st67 (CRL_LKk_KEY_KEY_EN 2) = 0 ∧ rd st67 (CRL_LKk_TSQCFG_CAP_ALL 2) = 0 ∧ rd st67 (CRL_LKk_TSQCFG_CAP_TT 2) = 0 ∧ rd st67 (CRL_LKk_STAT_PSTATE 2) = 2 ∧ mode st67 5 = true ∧ 2 ≤ rd st67 (CRL_LKk_STAT_VER 2))
    -- dt = 5, k = 2, v = 0, f = f_83, s = st85
    ∧ (Between st85 ∧ 2 < 4 ∧ parUp st85 2 = true ∧ f_83.bad = false ∧ f_83.dst = rd st85 (CRL_LKk_CFG_ADDR 2) ∧ f_83.payload.length ≤ 256 ∧ f_83.frank = none ∧ mode st85 7 = false ∧ rd st85 (CRL_LKk_KEY_KEY_EN 2) = 0 ∧ rd st85 (CRL_LKk_TSQCFG_CAP_ALL 2) = 0 ∧ rd st85 (CRL_LKk_TSQCFG_CAP_TT 2) = 0 ∧ rd st85 (CRL_LKk_STAT_PSTATE 2) = 2 ∧ mode st85 5 = true ∧ 2 ≤ rd st85 (CRL_LKk_STAT_VER 2))
    -- dt = 5, k = 2, v = 0, f = f_66, s = st68
    ∧ (Between st68 ∧ 2 < 4 ∧ parUp st68 2 = true ∧ f_66.bad = false ∧ f_66.dst = rd st68 (CRL_LKk_CFG_ADDR 2) ∧ f_66.payload.length ≤ 256 ∧ f_66.frank = none ∧ mode st68 7 = false ∧ rd st68 (CRL_LKk_KEY_KEY_EN 2) = 0 ∧ rd st68 (CRL_LKk_TSQCFG_CAP_ALL 2) = 0 ∧ rd st68 (CRL_LKk_TSQCFG_CAP_TT 2) = 0 ∧ rd st68 (CRL_LKk_STAT_PSTATE 2) = 2 ∧ mode st68 5 = true ∧ rd st68 (CRL_LKk_STAT_VER 2) < 2)
    -- dt = 5, k = 2, v = 0, f = f_83, s = st84
    ∧ (Between st84 ∧ 2 < 4 ∧ parUp st84 2 = true ∧ f_83.bad = false ∧ f_83.dst = rd st84 (CRL_LKk_CFG_ADDR 2) ∧ f_83.payload.length ≤ 256 ∧ f_83.frank = none ∧ mode st84 7 = false ∧ rd st84 (CRL_LKk_KEY_KEY_EN 2) = 0 ∧ rd st84 (CRL_LKk_TSQCFG_CAP_ALL 2) = 0 ∧ rd st84 (CRL_LKk_TSQCFG_CAP_TT 2) = 0 ∧ rd st84 (CRL_LKk_STAT_PSTATE 2) = 2 ∧ mode st84 5 = true ∧ rd st84 (CRL_LKk_STAT_VER 2) < 2)
    -- dt = 5, k = 2, v = 0, f = f_69, s = st71
    ∧ (Between st71 ∧ 2 < 4 ∧ parUp st71 2 = true ∧ f_69.bad = false ∧ f_69.dst = rd st71 (CRL_LKk_CFG_ADDR 2) ∧ f_69.payload.length ≤ 256 ∧ f_69.frank = none ∧ mode st71 7 = false ∧ rd st71 (CRL_LKk_KEY_KEY_EN 2) = 0 ∧ rd st71 (CRL_LKk_TSQCFG_CAP_ALL 2) = 0 ∧ rd st71 (CRL_LKk_TSQCFG_CAP_TT 2) = 0 ∧ (rd st71 (CRL_LKk_STAT_PSTATE 2) = 2 ∧ f_69.retry = false) ∧ 2 ≤ rd st71 (CRL_LKk_STAT_VER 2) ∧ schActs st71 = true ∧ byteAt f_69.payload 0 ≤ 15 ∧ chTakes st71 (rd st71 (CRL_LKk_CFG_CBASE 2) + byteAt f_69.payload 0) (byteAt f_69.payload 1) = true ∧ now16 (Machine.pass 5 st71) < (fieldAt f_69.payload 4 6 * 1000000000 + fieldAt f_69.payload 10 4) * 65536)
    ∧ (Between st71 ∧ 2 < 4 ∧ parUp st71 2 = true ∧ f_69.bad = false ∧ f_69.dst = rd st71 (CRL_LKk_CFG_ADDR 2) ∧ f_69.payload.length ≤ 256 ∧ f_69.frank = none ∧ mode st71 7 = false ∧ rd st71 (CRL_LKk_KEY_KEY_EN 2) = 0 ∧ rd st71 (CRL_LKk_TSQCFG_CAP_ALL 2) = 0 ∧ rd st71 (CRL_LKk_TSQCFG_CAP_TT 2) = 0 ∧ (rd st71 (CRL_LKk_STAT_PSTATE 2) = 2 ∧ f_69.retry = false) ∧ rd st71 (CRL_LKk_STAT_VER 2) = 3 ∧ schActs st71 = true ∧ byteAt f_69.payload 0 ≤ 15 ∧ canArm st71 (rd st71 (CRL_LKk_CFG_CBASE 2) + byteAt f_69.payload 0) (byteAt f_69.payload 1) = true)
    -- dt = 5, k = 2, v = 0, f = f_75, s = st79
    ∧ (Between st79 ∧ 2 < 4 ∧ parUp st79 2 = true ∧ f_75.bad = false ∧ f_75.dst = rd st79 (CRL_LKk_CFG_ADDR 2) ∧ f_75.payload.length ≤ 256 ∧ f_75.frank = none ∧ mode st79 7 = false ∧ rd st79 (CRL_LKk_KEY_KEY_EN 2) = 0 ∧ rd st79 (CRL_LKk_TSQCFG_CAP_ALL 2) = 0 ∧ rd st79 (CRL_LKk_TSQCFG_CAP_TT 2) = 0 ∧ (rd st79 (CRL_LKk_STAT_PSTATE 2) = 2 ∧ f_75.retry = false) ∧ rd st79 (CRL_LKk_STAT_VER 2) = 3 ∧ schActs st79 = true ∧ byteAt f_75.payload 0 ≤ 15 ∧ canArm st79 (rd st79 (CRL_LKk_CFG_CBASE 2) + byteAt f_75.payload 0) (byteAt f_75.payload 1) = true)
    -- dt = 5, k = 2, v = 0, f = f_69, s = st72
    ∧ (Between st72 ∧ 2 < 4 ∧ parUp st72 2 = true ∧ f_69.bad = false ∧ f_69.dst = rd st72 (CRL_LKk_CFG_ADDR 2) ∧ f_69.payload.length ≤ 256 ∧ f_69.frank = none ∧ mode st72 7 = false ∧ rd st72 (CRL_LKk_KEY_KEY_EN 2) = 0 ∧ rd st72 (CRL_LKk_TSQCFG_CAP_ALL 2) = 0 ∧ rd st72 (CRL_LKk_TSQCFG_CAP_TT 2) = 0 ∧ (rd st72 (CRL_LKk_STAT_PSTATE 2) = 2 ∧ f_69.retry = false) ∧ 2 ≤ rd st72 (CRL_LKk_STAT_VER 2) ∧ schActs st72 = false)
    -- dt = 5, k = 2, v = 0, f = f_70, s = st73
    ∧ (Between st73 ∧ 2 < 4 ∧ parUp st73 2 = true ∧ f_70.bad = false ∧ f_70.dst = rd st73 (CRL_LKk_CFG_ADDR 2) ∧ f_70.payload.length ≤ 256 ∧ f_70.frank = none ∧ mode st73 7 = false ∧ rd st73 (CRL_LKk_KEY_KEY_EN 2) = 0 ∧ rd st73 (CRL_LKk_TSQCFG_CAP_ALL 2) = 0 ∧ rd st73 (CRL_LKk_TSQCFG_CAP_TT 2) = 0 ∧ (rd st73 (CRL_LKk_STAT_PSTATE 2) = 2 ∧ f_70.retry = false) ∧ 2 ≤ rd st73 (CRL_LKk_STAT_VER 2) ∧ schActs st73 = false)
    -- dt = 5, k = 2, v = 0, f = f_69, s = st73
    ∧ (Between st73 ∧ 2 < 4 ∧ parUp st73 2 = true ∧ f_69.bad = false ∧ f_69.dst = rd st73 (CRL_LKk_CFG_ADDR 2) ∧ f_69.payload.length ≤ 256 ∧ f_69.frank = none ∧ mode st73 7 = false ∧ rd st73 (CRL_LKk_KEY_KEY_EN 2) = 0 ∧ rd st73 (CRL_LKk_TSQCFG_CAP_ALL 2) = 0 ∧ rd st73 (CRL_LKk_TSQCFG_CAP_TT 2) = 0 ∧ (rd st73 (CRL_LKk_STAT_PSTATE 2) = 2 ∧ f_69.retry = false) ∧ rd st73 (CRL_LKk_STAT_VER 2) = 3 ∧ schActs st73 = false)
    -- dt = 5, k = 2, v = 0, f = f_70, s = st73
    ∧ (Between st73 ∧ 2 < 4 ∧ parUp st73 2 = true ∧ f_70.bad = false ∧ f_70.dst = rd st73 (CRL_LKk_CFG_ADDR 2) ∧ f_70.payload.length ≤ 256 ∧ f_70.frank = none ∧ mode st73 7 = false ∧ rd st73 (CRL_LKk_KEY_KEY_EN 2) = 0 ∧ rd st73 (CRL_LKk_TSQCFG_CAP_ALL 2) = 0 ∧ rd st73 (CRL_LKk_TSQCFG_CAP_TT 2) = 0 ∧ (rd st73 (CRL_LKk_STAT_PSTATE 2) = 2 ∧ f_70.retry = false) ∧ rd st73 (CRL_LKk_STAT_VER 2) = 3 ∧ schActs st73 = false)
    -- dt = 5, k = 2, v = 0, f = f_75, s = st77, a = a_74
    ∧ (Between st77 ∧ 2 < 4 ∧ parUp st77 2 = true ∧ f_75.bad = false ∧ f_75.dst = rd st77 (CRL_LKk_CFG_ADDR 2) ∧ f_75.payload.length ≤ 256 ∧ f_75.frank = none ∧ mode st77 7 = false ∧ rd st77 (CRL_LKk_KEY_KEY_EN 2) = 0 ∧ rd st77 (CRL_LKk_TSQCFG_CAP_ALL 2) = 0 ∧ rd st77 (CRL_LKk_TSQCFG_CAP_TT 2) = 0 ∧ (rd st77 (CRL_LKk_STAT_PSTATE 2) = 2 ∧ f_75.retry = false) ∧ rd st77 (CRL_LKk_STAT_VER 2) = 3 ∧ (ix st77.crl.link 2).armed = [a_74] ∧ a_74.ident = fieldAt f_75.payload 0 2 ∧ a_74.committed = false ∧ a_74.chan ≤ 15 ∧ chTakes st77 (rd st77 (CRL_LKk_CFG_CBASE 2) + a_74.chan) a_74.act = true ∧ now16 (Machine.pass 5 st77) < a_74.tf)
    -- dt = 5, k = 2, v = 0, f = f_75, s = st77
    ∧ (Between st77 ∧ 2 < 4 ∧ parUp st77 2 = true ∧ f_75.bad = false ∧ f_75.dst = rd st77 (CRL_LKk_CFG_ADDR 2) ∧ f_75.payload.length ≤ 256 ∧ f_75.frank = none ∧ mode st77 7 = false ∧ rd st77 (CRL_LKk_KEY_KEY_EN 2) = 0 ∧ rd st77 (CRL_LKk_TSQCFG_CAP_ALL 2) = 0 ∧ rd st77 (CRL_LKk_TSQCFG_CAP_TT 2) = 0 ∧ (rd st77 (CRL_LKk_STAT_PSTATE 2) = 2 ∧ f_75.retry = false) ∧ rd st77 (CRL_LKk_STAT_VER 2) = 3 ∧ ((ix st77.crl.link 2).armed.any fun a => a.ident == fieldAt f_75.payload 0 2 && !a.committed) = true)
    -- dt = 5, k = 2, v = 0, f = f_80, s = st87
    ∧ (Between st87 ∧ 2 < 4 ∧ parUp st87 2 = true ∧ f_80.bad = false ∧ f_80.dst = rd st87 (CRL_LKk_CFG_ADDR 2) ∧ f_80.payload.length ≤ 256 ∧ f_80.frank = none ∧ mode st87 7 = false ∧ rd st87 (CRL_LKk_KEY_KEY_EN 2) = 0 ∧ rd st87 (CRL_LKk_TSQCFG_CAP_ALL 2) = 0 ∧ rd st87 (CRL_LKk_TSQCFG_CAP_TT 2) = 0 ∧ rd st87 (CRL_LKk_STAT_PSTATE 2) = 2 ∧ (ix st87.crl.link 2).launch.isSome = true)
    -- dt = 5, k = 2, v = 0, f = f_83, s = st87
    ∧ (Between st87 ∧ 2 < 4 ∧ parUp st87 2 = true ∧ f_83.bad = false ∧ f_83.dst = rd st87 (CRL_LKk_CFG_ADDR 2) ∧ f_83.payload.length ≤ 256 ∧ f_83.frank = none ∧ mode st87 7 = false ∧ rd st87 (CRL_LKk_KEY_KEY_EN 2) = 0 ∧ rd st87 (CRL_LKk_TSQCFG_CAP_ALL 2) = 0 ∧ rd st87 (CRL_LKk_TSQCFG_CAP_TT 2) = 0 ∧ rd st87 (CRL_LKk_STAT_PSTATE 2) = 2 ∧ (ix st87.crl.link 2).launch.isSome = true)
    -- dt = 5, k = 2, v = 0, f = f_82, s = st88
    ∧ (Between st88 ∧ 2 < 4 ∧ parUp st88 2 = true ∧ f_82.bad = false ∧ f_82.dst = rd st88 (CRL_LKk_CFG_ADDR 2) ∧ f_82.payload.length ≤ 256 ∧ f_82.frank = none ∧ mode st88 7 = false ∧ rd st88 (CRL_LKk_KEY_KEY_EN 2) = 0 ∧ rd st88 (CRL_LKk_TSQCFG_CAP_ALL 2) = 0 ∧ rd st88 (CRL_LKk_TSQCFG_CAP_TT 2) = 0 ∧ rd st88 (CRL_LKk_STAT_PSTATE 2) = 2 ∧ (ix st88.crl.link 2).launch = none ∧ (ix st88.crl.link 2).ttSeq = some f_82.seq ∧ f_82.payload.length = 48 ∧ (↑(now16 (Machine.pass 5 st88)) - (ix st88.crl.link 2).t3).natAbs ≤ 65536000000 ∧ bitAt (byteAt f_82.payload 44) 3 = false)
    -- dt = 5, k = 2, v = 0, f = f_83, s = st88
    ∧ (Between st88 ∧ 2 < 4 ∧ parUp st88 2 = true ∧ f_83.bad = false ∧ f_83.dst = rd st88 (CRL_LKk_CFG_ADDR 2) ∧ f_83.payload.length ≤ 256 ∧ f_83.frank = none ∧ mode st88 7 = false ∧ rd st88 (CRL_LKk_KEY_KEY_EN 2) = 0 ∧ rd st88 (CRL_LKk_TSQCFG_CAP_ALL 2) = 0 ∧ rd st88 (CRL_LKk_TSQCFG_CAP_TT 2) = 0 ∧ rd st88 (CRL_LKk_STAT_PSTATE 2) = 2 ∧ (ix st88.crl.link 2).launch = none ∧ (ix st88.crl.link 2).ttSeq = some f_83.seq ∧ f_83.payload.length = 48 ∧ (↑(now16 (Machine.pass 5 st88)) - (ix st88.crl.link 2).t3).natAbs ≤ 65536000000 ∧ bitAt (byteAt f_83.payload 44) 3 = false) := by
  simp only [Between]
  decide +kernel

end WCrl

namespace WCrl2

def T0 : Nat := 1700000000
def TT : Nat := T0 * 1000000000 * 65536
def lnk (role : Nat) (g : LinkS → LinkS) (f : CrlS → CrlS) (fs : List (Fld × Nat)) (bs : List (Fld × Nat)) (s : State := base) : State :=
  let s := { (s |> put (CRL_LKk_CFG_EN 2) 1 |> put (CRL_LKk_CFG_ROLE 2) role |> put (CRL_LKk_TIM_RETRY 2) 3 |> put (CRL_LKk_RXLAT_LAT 2) 0xFFFFFF00 |> put (CRL_LKk_TXLAT_LAT 2) 77 |> put (CRL_LKk_CFG_ADDR 2) 4 |> put (CRL_LKk_CFG_CBASE 2) 32 |> put SCH_STAT_STATE 3
    |> put (SCH_CHn_CFG_EN 47) 1 |> put (SCH_CHn_STAT_IN_FAIL 47) 0 |> put TKP_STAT_TIME_SET 1)
    with tkp := { base.tkp with run := true }, tod := T0 * secT + 777 }
  let s := { s with crl := f { s.crl with link := vset s.crl.link 2 (g (ix s.crl.link 2)) } }
  let s := fs.foldl (fun s x => put x.1 x.2 s) s
  bs.foldl (fun s x => putIn 69 x.1 x.2 s) s
def cq (y : Nat) : CurReq := { addr := 5, type := y, seq := 9, att := 1, dl := 999999999999, txn := if 16 ≤ y then some 7 else none }
def tx (y : Nat) : Txn := { id := 7, link := 2, addr := 5, type := y, tag := 33, host := y ≤ 0x12, seq := some 9, payload := [1, 2, 3] }
def ctl (y ty st : Nat) (g : LinkS → LinkS := id) (f : CrlS → CrlS := id) : State := lnk 0 (fun l => g { l with cur := some (cq y) }) (fun c => f { c with pool := [{ tx ty with id := 3, addr := 6 }, tx ty] }) [] [(CRL_P_STAT_STATE, st), (CRL_P_CFG_VMAX, 3), (CRL_P_STAT_MISSCNT, 2), (CRL_P_STAT_VER, 3)]
def part (st v : Nat) (g : LinkS → LinkS := id) (fs : List (Fld × Nat) := []) : State := lnk 1 g (fun c => { c with part := vset c.part 64 { chosen := 2 } }) ([(CRL_LKk_STAT_PSTATE 2, st), (CRL_LKk_STAT_VER 2, v), (CRL_LKk_KEY_KEY_EN 2, 0)] ++ fs) []
def tF : Nat := ((T0 + 5) * 1000000000 + 999999999) * 65536
def arm (co : Bool) : ArmedS := { ident := 15 + 256, chan := 15, act := 2, tf := tF, committed := co }
def x_1 := { arm false with tf := TT - 5 }
def st2 : State := part 2 3 (fun l => { l with armed := [{ arm false with tf := TT - 5 }], exchAt := some 77 })
def st3 : State := part 2 3 (fun l => { l with launch := some 99999999, ttSeq := some 8, t2 := TT - 7, armed := [arm true] })
def st4 : State := part 0 0
def st6 : State := ctl 1 0 2
def st7 : State := ctl 0x10 0x10 2
def st10 : State := ctl 0x10 0x10 2 (fun l => { l with cur := some { cq 0x10 with att := 3 } })
def free (g : LinkS → LinkS) (f : CrlS → CrlS) : State := lnk 0 g f [] [(CRL_P_STAT_STATE, 2), (CRL_P_CFG_VMAX, 3), (CRL_P_STAT_MISSCNT, 2), (CRL_P_STAT_VER, 3)]
def st13 : State := free (fun l => { l with round := [(6, false), (5, true)] }) id
def st14 : State := free (fun l => { l with served := vset l.served 4 6 }) (fun c => { c with pool := [tx 0x10] })
def st15 : State := free id (fun c => { c with pool := [tx 0x20] })
def held : State := lnk 0 id (fun c => { c with pool := [{ tx 0x10 with heldAt := some 77 }] }) [] [(CRL_P_STAT_STATE, 4), (CRL_P_CFG_PR_LIFE, 3), (CRL_P_STAT_VER, 3)]
def ttw (cr : Nat) : State := lnk 0 id (fun c => { c with part := vset c.part 69 { ttAt := 88, calAt := 99, calNext := 777, calSmp := [5] } }) [(GEN_MODESTAT_EFFECTIVE, 32), (CRL_LKk_TT_TT_RATE 2, 7)] [(CRL_P_STAT_STATE, 2), (CRL_P_CFG_TT_EN, 1), (CRL_P_STAT_VER, 3), (CRL_P_CAL_CAL_RUN, cr)] { base with img := { base.img with struct_ := { base.img.struct_ with cascade := 15 } } }
def t_16 := { tx 0x10 with heldAt := some 77 }
def st17 : State := ttw 1
def st18 : State := ttw 0
def st19 : State := put GEN_MODESTAT_EFFECTIVE 0 (ttw 1)
def st20 : State := modPart 69 (fun p => { p with calNext := 99 + 1024 * msU }) (ttw 1)
def st21 : State := lnk 0 id id [(CRL_PIDX_LINK, 2), (CRL_PIDX_ADDR, 5)] [(CRL_P_STAT_STATE, 2), (CRL_P_STAT_VER, 2), (CRL_P_STAT_ID_VALID, 1)]
def st22 : State := lnk 0 id id [(CRL_PIDX_LINK, 2), (CRL_PIDX_ADDR, 5)] [(CRL_P_STAT_STATE, 5), (CRL_P_STAT_VER, 2), (CRL_P_STAT_ID_VALID, 1)]
def st23 : State := lnk 0 id id [(CRL_PIDX_LINK, 2), (CRL_PIDX_ADDR, 5)] [(CRL_P_STAT_STATE, 4), (CRL_P_STAT_MISSCNT, 2), (CRL_P_STAT_ID_VALID, 1)]
def st24 : State := lnk 0 id (fun c => { c with staged := List.replicate 64 7 }) [] []
def st : List Word := [0x18, 0x00020004]
def t_25 := { tx 0x10 with payload := [0x18, 0, 0, 0, 4, 0, 2, 0] }
def rest_26 : List (Txn × Nat) := []
def st27 : State := lnk 0 id (fun c => { c with staged := st, dlq := [(tx 0x20, 3)] }) [(CRL_LBO_HDR_LINK, 2), (CRL_LBO_HDR_ADDR, 5), (CRL_LBO_HDR_LEN, 8), (CRL_LBO_HDR_TAG, 99)] [(CRL_P_STAT_STATE, 2)]
def st28 : State := lnk 0 id (fun c => { c with staged := st, dlq := [({ tx 0x10 with payload := [0x18, 0, 0, 0, 4, 0, 2, 0] }, 3)] }) [(CRL_LBO_HDR_LINK, 2), (CRL_LBO_HDR_ADDR, 5), (CRL_LBO_HDR_LEN, 6), (CRL_LBO_HDR_TAG, 99), (CRL_LBO_HDR_KIND, 1)] [(CRL_P_STAT_STATE, 2)]
def st29 : State := lnk 0 id (fun c => { c with staged := st, dlq := [({ tx 0x10 with payload := [0x18, 0, 0, 0, 4, 0, 2, 0] }, 3)] }) [(CRL_LBO_HDR_LINK, 2), (CRL_LBO_HDR_ADDR, 5), (CRL_LBO_HDR_LEN, 8), (CRL_LBO_HDR_TAG, 99), (CRL_LBO_HDR_KIND, 1)] [(CRL_P_STAT_STATE, 2)]

theorem witness_CourierTimersRun :
    -- dt = 5, k = 2, a = 5, s = st2, x = x_1
    (Between st2 ∧ 2 < 4 ∧ 1 ≤ 5 ∧ 5 < 32 ∧ (ix st2.crl.link 2).armed = [x_1] ∧ x_1.committed = false ∧ x_1.tf ≤ now16 (goTo16 x_1.tf st2))
    -- dt = 5, k = 2, a = 5, s = st2
    ∧ (Between st2 ∧ 2 < 4 ∧ 1 ≤ 5 ∧ 5 < 32 ∧ (ix st2.crl.link 2).launch = none)
    -- dt = 5, k = 2, a = 5, s = st20
    ∧ (Between st20 ∧ 2 < 4 ∧ 1 ≤ 5 ∧ 5 < 32 ∧ (ix st20.crl.link 2).launch = none)
    -- dt = 5, k = 2, a = 5, s = st2
    ∧ (Between st2 ∧ 2 < 4 ∧ 1 ≤ 5 ∧ 5 < 32 ∧ (ix st2.crl.link 2).cur = none)
    ∧ (Between st2 ∧ 2 < 4 ∧ 1 ≤ 5 ∧ 5 < 32 ∧ ctlUp st2 2 = false)
    ∧ (Between st2 ∧ 2 < 4 ∧ 1 ≤ 5 ∧ 5 < 32 ∧ (rdB st2 (pIx 2 5) CRL_P_CFG_PR_LIFE = 0 ∨ pState st2 2 5 ≠ 4 ∨ heldFor st2 2 5 = []))
    -- dt = 5, k = 2, a = 5, s = st20
    ∧ (Between st20 ∧ 2 < 4 ∧ 1 ≤ 5 ∧ 5 < 32 ∧ (rdB st20 (pIx 2 5) CRL_P_CFG_PR_LIFE = 0 ∨ pState st20 2 5 ≠ 4 ∨ heldFor st20 2 5 = []))
    -- dt = 5, k = 2, a = 5, s = st2
    ∧ (Between st2 ∧ 2 < 4 ∧ 1 ≤ 5 ∧ 5 < 32 ∧ parUp st2 2 = true ∧ rd st2 (CRL_LKk_STAT_PSTATE 2) ≠ 0)
    ∧ (Between st2 ∧ 2 < 4 ∧ 1 ≤ 5 ∧ 5 < 32 ∧ ttWanted st2 2 5 = false)
    -- dt = 5, k = 2, a = 5, s = st19
    ∧ (Between st19 ∧ 2 < 4 ∧ 1 ≤ 5 ∧ 5 < 32 ∧ ttWanted st19 2 5 = false)
    -- dt = 5, k = 2, a = 5, s = st2, t = 77
    ∧ (Between st2 ∧ 2 < 4 ∧ 1 ≤ 5 ∧ 5 < 32 ∧ (ix st2.crl.link 2).exchAt = some 77)
    -- dt = 5, k = 2, a = 5, s = st2
    ∧ (Between st2 ∧ 2 < 4 ∧ 1 ≤ 5 ∧ 5 < 32 ∧ rdB st2 (pIx 2 5) CRL_P_CAL_CAL_RUN = 0)
    -- dt = 5, k = 2, a = 5, s = st18
    ∧ (Between st18 ∧ 2 < 4 ∧ 1 ≤ 5 ∧ 5 < 32 ∧ rdB st18 (pIx 2 5) CRL_P_CAL_CAL_RUN = 0)
    -- dt = 5, k = 2, a = 5, s = st3
    ∧ (Between st3 ∧ 2 < 4 ∧ 1 ≤ 5 ∧ 5 < 32 ∧ List.filter (fun x => !x.committed) (ix st3.crl.link 2).armed = [])
    -- dt = 5, k = 2, a = 5, s = st20
    ∧ (Between st20 ∧ 2 < 4 ∧ 1 ≤ 5 ∧ 5 < 32 ∧ List.filter (fun x => !x.committed) (ix st20.crl.link 2).armed = [])
    -- dt = 5, k = 2, a = 5, s = st3, t = 99999999
    ∧ (Between st3 ∧ 2 < 4 ∧ 1 ≤ 5 ∧ 5 < 32 ∧ (ix st3.crl.link 2).launch = some 99999999)
    -- dt = 5, k = 2, a = 5, s = st3
    ∧ (Between st3 ∧ 2 < 4 ∧ 1 ≤ 5 ∧ 5 < 32 ∧ (ix st3.crl.link 2).exchAt = none)
    -- dt = 5, k = 2, a = 5, s = st20
    ∧ (Between st20 ∧ 2 < 4 ∧ 1 ≤ 5 ∧ 5 < 32 ∧ (ix st20.crl.link 2).exchAt = none)
    -- dt = 5, k = 2, a = 5, s = st4
    ∧ (Between st4 ∧ 2 < 4 ∧ 1 ≤ 5 ∧ 5 < 32 ∧ (parUp st4 2 = false ∨ rd st4 (CRL_LKk_STAT_PSTATE 2) = 0))
    -- dt = 5, k = 2, a = 5, s = st20
    ∧ (Between st20 ∧ 2 < 4 ∧ 1 ≤ 5 ∧ 5 < 32 ∧ (parUp st20 2 = false ∨ rd st20 (CRL_LKk_STAT_PSTATE 2) = 0))
    -- dt = 5, k = 2, a = 5, s = st6
    ∧ (Between st6 ∧ 2 < 4 ∧ 1 ≤ 5 ∧ 5 < 32 ∧ (ix st6.crl.link 2).cur = some ((ix st6.crl.link 2).cur.get!) ∧ ctlUp st6 2 = true ∧ (((ix st6.crl.link 2).cur.get!).type = 1 ∨ ((ix st6.crl.link 2).cur.get!).type = 3))
    -- dt = 5, k = 2, a = 5, s = st6
    ∧ (Between st6 ∧ 2 < 4 ∧ 1 ≤ 5 ∧ 5 < 32 ∧ ctlUp st6 2 = true)
    -- dt = 5, k = 2, a = 5, s = st20
    ∧ (Between st20 ∧ 2 < 4 ∧ 1 ≤ 5 ∧ 5 < 32 ∧ ctlUp st20 2 = true)
    -- dt = 5, k = 2, a = 5, s = st7
    ∧ (Between st7 ∧ 2 < 4 ∧ 1 ≤ 5 ∧ 5 < 32 ∧ (ix st7.crl.link 2).cur = some ((ix st7.crl.link 2).cur.get!) ∧ ctlUp st7 2 = true ∧ ((ix st7.crl.link 2).cur.get!).type ≠ 1 ∧ ((ix st7.crl.link 2).cur.get!).type ≠ 3 ∧ ((ix st7.crl.link 2).cur.get!).type ≠ 48 ∧ ((ix st7.crl.link 2).cur.get!).att < retries st7 2)
    -- dt = 5, k = 2, a = 5, s = st10
    ∧ (Between st10 ∧ 2 < 4 ∧ 1 ≤ 5 ∧ 5 < 32 ∧ (ix st10.crl.link 2).cur = some ((ix st10.crl.link 2).cur.get!) ∧ ctlUp st10 2 = true ∧ ((ix st10.crl.link 2).cur.get!).type ≠ 1 ∧ ((ix st10.crl.link 2).cur.get!).type ≠ 3 ∧ ((ix st10.crl.link 2).cur.get!).type ≠ 48 ∧ retries st10 2 ≤ ((ix st10.crl.link 2).cur.get!).att)
    -- dt = 5, k = 2, a = 5, s = st13, c = 3, b = 5
    ∧ (Between st13 ∧ 2 < 4 ∧ 1 ≤ 5 ∧ 5 < 32 ∧ 3 < 5 ∧ ctlUp st13 2 = true ∧ (ix st13.crl.link 2).cur = none ∧ List.find? (fun c => !(candidates st13 2 c).isEmpty) (List.range 5) = some 3 ∧ nextAfter (ix (ix st13.crl.link 2).served 3) (candidates st13 2 3) = some 5 ∧ 3 = 3)
    -- dt = 5, k = 2, a = 5, s = st14, c = 4, b = 5, t = tx 16
    ∧ (Between st14 ∧ 2 < 4 ∧ 1 ≤ 5 ∧ 5 < 32 ∧ 4 < 5 ∧ ctlUp st14 2 = true ∧ (ix st14.crl.link 2).cur = none ∧ List.find? (fun c => !(candidates st14 2 c).isEmpty) (List.range 5) = some 4 ∧ nextAfter (ix (ix st14.crl.link 2).served 4) (candidates st14 2 4) = some 5 ∧ 4 ≠ 3 ∧ headOf st14 2 5 = some (tx 16) ∧ noKey st14 2 5 = false)
    -- dt = 5, k = 2, a = 5, s = st15, c = 2, b = 5, t = tx 32
    ∧ (Between st15 ∧ 2 < 4 ∧ 1 ≤ 5 ∧ 5 < 32 ∧ 2 < 5 ∧ ctlUp st15 2 = true ∧ (ix st15.crl.link 2).cur = none ∧ List.find? (fun c => !(candidates st15 2 c).isEmpty) (List.range 5) = some 2 ∧ nextAfter (ix (ix st15.crl.link 2).served 2) (candidates st15 2 2) = some 5 ∧ 2 ≠ 3 ∧ headOf st15 2 5 = some (tx 32) ∧ noKey st15 2 5 = false)
    -- dt = 5, k = 2, a = 5, s = held, t = t_16, r = []
    ∧ (Between held ∧ 2 < 4 ∧ 1 ≤ 5 ∧ 5 < 32 ∧ rdB held (pIx 2 5) CRL_P_CFG_PR_LIFE ≠ 0 ∧ pState held 2 5 = 4 ∧ heldFor held 2 5 = [t_16])
    -- dt = 5, k = 2, a = 5, s = st17
    ∧ (Between st17 ∧ 2 < 4 ∧ 1 ≤ 5 ∧ 5 < 32 ∧ ttServed st17 2 5 = true)
    -- dt = 5, k = 2, a = 5, s = st20
    ∧ (Between st20 ∧ 2 < 4 ∧ 1 ≤ 5 ∧ 5 < 32 ∧ ttServed st20 2 5 = true)
    -- dt = 5, k = 2, a = 5, s = st17
    ∧ (Between st17 ∧ 2 < 4 ∧ 1 ≤ 5 ∧ 5 < 32 ∧ rdB st17 (pIx 2 5) CRL_P_CAL_CAL_RUN = 1 ∧ (ix st17.crl.part (pIx 2 5)).calNext < (ix st17.crl.part (pIx 2 5)).calAt + 1024 * msU ∧ ttMay st17 = true)
    ∧ (Between st17 ∧ 2 < 4 ∧ 1 ≤ 5 ∧ 5 < 32 ∧ rdB st17 (pIx 2 5) CRL_P_CAL_CAL_RUN = 1)
    -- dt = 5, k = 2, a = 5, s = st20
    ∧ (Between st20 ∧ 2 < 4 ∧ 1 ≤ 5 ∧ 5 < 32 ∧ rdB st20 (pIx 2 5) CRL_P_CAL_CAL_RUN = 1)
    -- dt = 5, k = 2, a = 5, s = st19
    ∧ (Between st19 ∧ 2 < 4 ∧ 1 ≤ 5 ∧ 5 < 32 ∧ rdB st19 (pIx 2 5) CRL_P_CAL_CAL_RUN = 1 ∧ (ix st19.crl.part (pIx 2 5)).calNext < (ix st19.crl.part (pIx 2 5)).calAt + 1024 * msU ∧ ttMay st19 = false)
    -- dt = 5, k = 2, a = 5, s = st20
    ∧ (Between st20 ∧ 2 < 4 ∧ 1 ≤ 5 ∧ 5 < 32 ∧ rdB st20 (pIx 2 5) CRL_P_CAL_CAL_RUN = 1 ∧ (ix st20.crl.part (pIx 2 5)).calAt + 1024 * msU ≤ (ix st20.crl.part (pIx 2 5)).calNext) := by
  simp only [Between]
  decide +kernel

theorem witness_PartnerAndLetterboxCommands :
    -- dt = 5, k = 2, a = 5, data = 2882400001, s = st21
    (Between st21 ∧ 2 < 4 ∧ 1 ≤ 5 ∧ 5 < 32 ∧ Open st21 13631780 ∧ rd st21 CRL_PIDX_LINK = 2 ∧ rd st21 CRL_PIDX_ADDR = 5 ∧ pState st21 2 5 = 2 ∧ 2 ≤ rdB st21 (pIx 2 5) CRL_P_STAT_VER)
    ∧ (Between st21 ∧ 2 < 4 ∧ 1 ≤ 5 ∧ 5 < 32 ∧ Open st21 13631780 ∧ rd st21 CRL_PIDX_LINK = 2 ∧ rd st21 CRL_PIDX_ADDR = 5 ∧ pState st21 2 5 ≠ 5)
    -- dt = 5, k = 2, a = 5, data = 2882400001, s = st23
    ∧ (Between st23 ∧ 2 < 4 ∧ 1 ≤ 5 ∧ 5 < 32 ∧ Open st23 13631780 ∧ rd st23 CRL_PIDX_LINK = 2 ∧ rd st23 CRL_PIDX_ADDR = 5 ∧ pState st23 2 5 ≠ 5)
    -- dt = 5, k = 2, a = 5, data = 2882400001, s = st21
    ∧ (Between st21 ∧ 2 < 4 ∧ 1 ≤ 5 ∧ 5 < 32 ∧ Open st21 13631780 ∧ rd st21 CRL_PIDX_LINK = 2 ∧ rd st21 CRL_PIDX_ADDR = 5)
    -- dt = 5, k = 2, a = 5, data = 2882400001, s = st23
    ∧ (Between st23 ∧ 2 < 4 ∧ 1 ≤ 5 ∧ 5 < 32 ∧ Open st23 13631780 ∧ rd st23 CRL_PIDX_LINK = 2 ∧ rd st23 CRL_PIDX_ADDR = 5)
    -- dt = 5, k = 2, a = 5, data = 2882400001, s = st21
    ∧ (Between st21 ∧ 2 < 4 ∧ 1 ≤ 5 ∧ 5 < 32 ∧ Open st21 13631876 ∧ st21.crl.staged.length < 64)
    -- dt = 5, k = 2, a = 5, data = 2882400001, s = st29
    ∧ (Between st29 ∧ 2 < 4 ∧ 1 ≤ 5 ∧ 5 < 32 ∧ Open st29 13631876 ∧ st29.crl.staged.length < 64)
    -- dt = 5, k = 2, a = 5, data = 2882400001, s = st21
    ∧ (Between st21 ∧ 2 < 4 ∧ 1 ≤ 5 ∧ 5 < 32 ∧ Open st21 13631880 ∧ (postRefuse st21 (rd st21 CRL_LBO_HDR_LINK) (rd st21 CRL_LBO_HDR_ADDR) (if rd st21 CRL_LBO_HDR_KIND = 1 then 18 else 16) (rd st21 CRL_LBO_HDR_LEN) st21.crl.staged.length (List.take (rd st21 CRL_LBO_HDR_LEN) (List.flatMap (fun w => leBytes 4 (BitVec.toNat w)) st21.crl.staged)) ≠ 0))
    -- dt = 5, k = 2, a = 5, data = 2882400001, s = st24
    ∧ (Between st24 ∧ 2 < 4 ∧ 1 ≤ 5 ∧ 5 < 32 ∧ Open st24 13631880 ∧ (postRefuse st24 (rd st24 CRL_LBO_HDR_LINK) (rd st24 CRL_LBO_HDR_ADDR) (if rd st24 CRL_LBO_HDR_KIND = 1 then 18 else 16) (rd st24 CRL_LBO_HDR_LEN) st24.crl.staged.length (List.take (rd st24 CRL_LBO_HDR_LEN) (List.flatMap (fun w => leBytes 4 (BitVec.toNat w)) st24.crl.staged)) ≠ 0))
    -- dt = 5, k = 2, a = 5, data = 2882400001, s = st21
    ∧ (Between st21 ∧ 2 < 4 ∧ 1 ≤ 5 ∧ 5 < 32 ∧ Open st21 13631904 ∧ st21.crl.dlq = [])
    -- dt = 5, k = 2, a = 5, data = 2882400001, s = st24
    ∧ (Between st24 ∧ 2 < 4 ∧ 1 ≤ 5 ∧ 5 < 32 ∧ Open st24 13631904 ∧ st24.crl.dlq = [])
    -- dt = 5, k = 2, a = 5, data = 2882400001, s = st22
    ∧ (Between st22 ∧ 2 < 4 ∧ 1 ≤ 5 ∧ 5 < 32 ∧ Open st22 13631780 ∧ rd st22 CRL_PIDX_LINK = 2 ∧ rd st22 CRL_PIDX_ADDR = 5 ∧ pState st22 2 5 ≠ 2)
    -- dt = 5, k = 2, a = 5, data = 2882400001, s = st23
    ∧ (Between st23 ∧ 2 < 4 ∧ 1 ≤ 5 ∧ 5 < 32 ∧ Open st23 13631780 ∧ rd st23 CRL_PIDX_LINK = 2 ∧ rd st23 CRL_PIDX_ADDR = 5 ∧ pState st23 2 5 ≠ 2)
    -- dt = 5, k = 2, a = 5, data = 2882400001, s = st22
    ∧ (Between st22 ∧ 2 < 4 ∧ 1 ≤ 5 ∧ 5 < 32 ∧ Open st22 13631780 ∧ rd st22 CRL_PIDX_LINK = 2 ∧ rd st22 CRL_PIDX_ADDR = 5 ∧ pState st22 2 5 = 5)
    -- dt = 5, k = 2, a = 5, data = 2882400001, s = st24
    ∧ (Between st24 ∧ 2 < 4 ∧ 1 ≤ 5 ∧ 5 < 32 ∧ Open st24 13631876 ∧ 64 ≤ st24.crl.staged.length)
    -- dt = 5, k = 2, a = 5, data = 2882400001, s = st27
    ∧ (Between st27 ∧ 2 < 4 ∧ 1 ≤ 5 ∧ 5 < 32 ∧ Open st27 13631880 ∧ (postRefuse st27 (rd st27 CRL_LBO_HDR_LINK) (rd st27 CRL_LBO_HDR_ADDR) (if rd st27 CRL_LBO_HDR_KIND = 1 then 18 else 16) (rd st27 CRL_LBO_HDR_LEN) st27.crl.staged.length (List.take (rd st27 CRL_LBO_HDR_LEN) (List.flatMap (fun w => leBytes 4 (BitVec.toNat w)) st27.crl.staged)) = 0) ∧ ((pState st27 (rd st27 CRL_LBO_HDR_LINK) (rd st27 CRL_LBO_HDR_ADDR) = 1 ∨ pState st27 (rd st27 CRL_LBO_HDR_LINK) (rd st27 CRL_LBO_HDR_ADDR) = 2 ∨ pState st27 (rd st27 CRL_LBO_HDR_LINK) (rd st27 CRL_LBO_HDR_ADDR) = 3) ∧ noKey st27 (rd st27 CRL_LBO_HDR_LINK) (rd st27 CRL_LBO_HDR_ADDR) = false ∧ isolated st27 13 = false))
    -- dt = 5, k = 2, a = 5, data = 2882400001, s = st29
    ∧ (Between st29 ∧ 2 < 4 ∧ 1 ≤ 5 ∧ 5 < 32 ∧ Open st29 13631880 ∧ (postRefuse st29 (rd st29 CRL_LBO_HDR_LINK) (rd st29 CRL_LBO_HDR_ADDR) (if rd st29 CRL_LBO_HDR_KIND = 1 then 18 else 16) (rd st29 CRL_LBO_HDR_LEN) st29.crl.staged.length (List.take (rd st29 CRL_LBO_HDR_LEN) (List.flatMap (fun w => leBytes 4 (BitVec.toNat w)) st29.crl.staged)) = 0) ∧ ((pState st29 (rd st29 CRL_LBO_HDR_LINK) (rd st29 CRL_LBO_HDR_ADDR) = 1 ∨ pState st29 (rd st29 CRL_LBO_HDR_LINK) (rd st29 CRL_LBO_HDR_ADDR) = 2 ∨ pState st29 (rd st29 CRL_LBO_HDR_LINK) (rd st29 CRL_LBO_HDR_ADDR) = 3) ∧ noKey st29 (rd st29 CRL_LBO_HDR_LINK) (rd st29 CRL_LBO_HDR_ADDR) = false ∧ isolated st29 13 = false))
    -- dt = 5, k = 2, a = 5, data = 2882400001, s = st27, t = tx 32, r = 3, rest = rest_26
    ∧ (Between st27 ∧ 2 < 4 ∧ 1 ≤ 5 ∧ 5 < 32 ∧ Open st27 13631904 ∧ st27.crl.dlq = (tx 32, 3) :: rest_26 ∧ (tx 32).type = 32)
    -- dt = 5, k = 2, a = 5, data = 2882400001, s = st28, t = t_25, r = 3, rest = rest_26
    ∧ (Between st28 ∧ 2 < 4 ∧ 1 ≤ 5 ∧ 5 < 32 ∧ Open st28 13631904 ∧ st28.crl.dlq = (t_25, 3) :: rest_26 ∧ t_25.type = 16 ∧ postRefuse st28 t_25.link t_25.addr t_25.type t_25.payload.length ((t_25.payload.length + 3) / 4) t_25.payload = 0 ∧ ((pState st28 t_25.link t_25.addr = 1 ∨ pState st28 t_25.link t_25.addr = 2 ∨ pState st28 t_25.link t_25.addr = 3) ∧ noKey st28 t_25.link t_25.addr = false ∧ isolated st28 13 = false))
    -- dt = 5, k = 2, a = 5, data = 2882400001, s = st29, t = t_25, r = 3, rest = rest_26
    ∧ (Between st29 ∧ 2 < 4 ∧ 1 ≤ 5 ∧ 5 < 32 ∧ Open st29 13631904 ∧ st29.crl.dlq = (t_25, 3) :: rest_26 ∧ t_25.type = 16 ∧ postRefuse st29 t_25.link t_25.addr t_25.type t_25.payload.length ((t_25.payload.length + 3) / 4) t_25.payload = 0 ∧ ((pState st29 t_25.link t_25.addr = 1 ∨ pState st29 t_25.link t_25.addr = 2 ∨ pState st29 t_25.link t_25.addr = 3) ∧ noKey st29 t_25.link t_25.addr = false ∧ isolated st29 13 = false)) := by
  simp only [Open, HostIdle, Between]
  decide +kernel

end WCrl2

namespace WCrl3

def T0 : Nat := 1700000000
def TT : Nat := T0 * 1000000000 * 65536
def lnk (role : Nat) (g : LinkS → LinkS) (f : CrlS → CrlS) (fs : List (Fld × Nat)) (bs : List (Fld × Nat)) (s : State := base) : State :=
  let s := { (s |> put (CRL_LKk_CFG_EN 2) 1 |> put (CRL_LKk_CFG_ROLE 2) role |> put (CRL_LKk_TIM_RETRY 2) 3 |> put (CRL_LKk_RXLAT_LAT 2) 0xFFFFFF00 |> put (CRL_LKk_TXLAT_LAT 2) 77 |> put (CRL_LKk_CFG_ADDR 2) 4 |> put (CRL_LKk_CFG_CBASE 2) 32 |> put SCH_STAT_STATE 3
    |> put (SCH_CHn_CFG_EN 47) 1 |> put (SCH_CHn_STAT_IN_FAIL 47) 0 |> put TKP_STAT_TIME_SET 1)
    with tkp := { base.tkp with run := true }, tod := T0 * secT + 777 }
  let s := { s with crl := f { s.crl with link := vset s.crl.link 2 (g (ix s.crl.link 2)) } }
  let s := fs.foldl (fun s x => put x.1 x.2 s) s
  bs.foldl (fun s x => putIn 69 x.1 x.2 s) s
def cq (y : Nat) : CurReq := { addr := 5, type := y, seq := 9, att := 1, dl := 999999999999, txn := if 16 ≤ y then some 7 else none }
def tx (y : Nat) : Txn := { id := 7, link := 2, addr := 5, type := y, tag := 33, host := y ≤ 0x12, seq := some 9, payload := [1, 2, 3] }
def ctl (y ty st : Nat) (g : LinkS → LinkS := id) (f : CrlS → CrlS := id) : State := lnk 0 (fun l => g { l with cur := some (cq y) }) (fun c => f { c with pool := [{ tx ty with id := 3, addr := 6 }, tx ty] }) [] [(CRL_P_STAT_STATE, st), (CRL_P_CFG_VMAX, 3), (CRL_P_STAT_MISSCNT, 2), (CRL_P_STAT_VER, 3)]
def part (st v : Nat) (g : LinkS → LinkS := id) (fs : List (Fld × Nat) := []) : State := lnk 1 g (fun c => { c with part := vset c.part 64 { chosen := 2 } }) ([(CRL_LKk_STAT_PSTATE 2, st), (CRL_LKk_STAT_VER 2, v), (CRL_LKk_KEY_KEY_EN 2, 0)] ++ fs) []
def tF : Nat := ((T0 + 5) * 1000000000 + 999999999) * 65536
def arm (co : Bool) : ArmedS := { ident := 15 + 256, chan := 15, act := 2, tf := tF, committed := co }
def c_2 := cq 3
def c_3 := cq 0x10
def c_5 := { cq 0x10 with att := 3 }
def st6 : State := part 2 3 (fun l => { l with armed := [{ arm false with tf := TT - 5 }], exchAt := some 77 })
def st7 : State := part 2 3 (fun l => { l with launch := some 99999999, ttSeq := some 8, t2 := TT - 7, armed := [arm true] })
def st9 : State := ctl 0x10 0x10 2
def st10 : State := ctl 3 0 4
def st11 : State := ctl 0x10 0x10 2 (fun l => { l with cur := some { cq 0x10 with att := 3 } })

theorem witness_CourierTimersRun_2 :
    -- dt = 5, k = 2, a = 5, s = st7
    (Between st7 ∧ 2 < 4 ∧ 1 ≤ 5 ∧ 5 < 32 ∧ (ix st7.crl.link 2).cur = none)
    ∧ (Between st7 ∧ 2 < 4 ∧ 1 ≤ 5 ∧ 5 < 32 ∧ ctlUp st7 2 = false)
    ∧ (Between st7 ∧ 2 < 4 ∧ 1 ≤ 5 ∧ 5 < 32 ∧ parUp st7 2 = true ∧ rd st7 (CRL_LKk_STAT_PSTATE 2) ≠ 0)
    -- dt = 5, k = 2, a = 5, s = st6, t = 77
    ∧ (Between st6 ∧ 2 < 4 ∧ 1 ≤ 5 ∧ 5 < 32 ∧ (ix st6.crl.link 2).exchAt = some 77)
    -- dt = 5, k = 2, a = 5, s = st7, t = 99999999
    ∧ (Between st7 ∧ 2 < 4 ∧ 1 ≤ 5 ∧ 5 < 32 ∧ (ix st7.crl.link 2).launch = some 99999999)
    -- dt = 5, k = 2, a = 5, s = st10, c = c_2
    ∧ (Between st10 ∧ 2 < 4 ∧ 1 ≤ 5 ∧ 5 < 32 ∧ (ix st10.crl.link 2).cur = some c_2 ∧ ctlUp st10 2 = true ∧ (c_2.type = 1 ∨ c_2.type = 3))
    -- dt = 5, k = 2, a = 5, s = st9, c = c_3
    ∧ (Between st9 ∧ 2 < 4 ∧ 1 ≤ 5 ∧ 5 < 32 ∧ (ix st9.crl.link 2).cur = some c_3 ∧ ctlUp st9 2 = true ∧ c_3.type ≠ 1 ∧ c_3.type ≠ 3 ∧ c_3.type ≠ 48 ∧ c_3.att < retries st9 2)
    -- dt = 5, k = 2, a = 5, s = st11, c = c_5
    ∧ (Between st11 ∧ 2 < 4 ∧ 1 ≤ 5 ∧ 5 < 32 ∧ (ix st11.crl.link 2).cur = some c_5 ∧ ctlUp st11 2 = true ∧ c_5.type ≠ 1 ∧ c_5.type ≠ 3 ∧ c_5.type ≠ 48 ∧ retries st11 2 ≤ c_5.att) := by
  simp only [Between]
  decide +kernel

end WCrl3

namespace WNvm

def lk (l : List (Fld × Nat)) (s : State) : State := l.foldl (fun s x => put x.1 x.2 s) s
def T0 : Nat := 1700000000
def run : State := cc { base with now := 123456789, rst := { base.rst with phase := .run }, tkp := { base.tkp with run := true }, tod := T0 * secT + 777, flt := { base.flt with inst := [] } }
def nv (f : NvmS → NvmS) (l : List (Fld × Nat)) (s : State := run) : State := lk l { s with nvm := f s.nvm }
def sr : SaveRun := { cause := 3, slot := 5, seq := 77, saves := 9, snap := [(0, 9), (5, 1234)] }
def pg : List Byte := (List.range 256).map (fun i => BitVec.ofNat 8 (i * 3))
def wi : WbItem := { owner := 2, pages := [(0x400, pg)] }
def st1 : State := nv id []
def st2 : State := nv id [(NVM_STAT_PF_WARN, 1), (NVM_CFG_PERIOD, 3)]
def st3 : State := nv (fun n => { n with loaded := true, perAt := 5 }) [(NVM_CFG_PF_EN, 1), (NVM_CFG_SHED, 1), (NVM_CFG_PERIOD, 31), (PTP_Pp_STAT_LINK 3, 1)]
def st5 : State := nv (fun n => { n with save := some sr, pb := some (0x501, 3, pg) }) [(NVM_PADDR_PAGE, 0x500), (NVM_STAT_SAVE_RUN, 1)]
def st6 : State := nv (fun n => { n with save := some sr, wb := [wi], prog := 1 }) []
def st7 : State := nv (fun n => { n with save := some sr, wb := [wi] }) []
def st8 : State := nv (fun n => { n with marks := 2 ^ 255 + 3}) [(NVM_PADDR_PAGE, 0x500), (NVM_PBUF_DATA 63, 0xFFFFFFFF)]
def p_10 := (0x400, pg)
def m_11 : List (Nat × List Byte) := []
def m_12 := [(0x401, pg)]
def q_13 : List WbItem := []
def st14 : State := nv (fun n => { n with wb := [wi], prog := 1 }) []
def st15 : State := nv (fun n => { n with wb := [wi], prog := 1, retry := true, pb := some (0x501, 3, pg) }) []
def st16 : State := nv (fun n => { n with wb := [{ wi with pages := [(0x400, pg), (0x401, pg)] }], prog := 1, retry := true, pb := some (0x501, 3, pg) }) []
def r_17 : List WbItem := []
def st18 : State := nv (fun n => { n with wb := List.replicate 15 wi, offers := [wi] }) []
def st19 : State := nv (fun n => { n with marks := 2 ^ 255 + 7, pb := some (0x501, 2 ^ 255 + 3, pg), loaded := true, prog := 2 }) [(NVM_PBUF_DATA 0, 7), (NVM_PBUF_DATA 63, 0xFFFFFFFF)]
def st20 : State := nv (fun n => { n with marks := 2 ^ 255 + 7, pb := some (0x501, 2 ^ 255 + 3, pg), loaded := true, prog := 2, retry := true }) [(NVM_PBUF_DATA 0, 7), (NVM_PBUF_DATA 63, 0xFFFFFFFF)]
def ring : State := saveWith 3 { (nv id [(GEN_CLKSTAT_CORE_LOCK, 1)]) with cram := [(5, 1234)] }
def saved : State := match Sys2Proof.Machine.execSaveDone 5 true ring with | .next t => { t with cram := [(3, 3)], nvm := { t.nvm with loaded := false } } | _ => ring

theorem witness_SavesProgramsAndRestores :
    -- dt = 5, mv = 1199, ns = 1999, ok = true, s = st1
    (Between st1 ∧ (¬(1199 < 1200 ∧ 2000 ≤ 1999) ∨ rd st1 NVM_STAT_PF_WARN = 1))
    -- dt = 5, mv = 1241, ns = 1000000, ok = true, s = saved
    ∧ (Between saved ∧ (¬(1241 < 1200 ∧ 2000 ≤ 1000000) ∨ rd saved NVM_STAT_PF_WARN = 1))
    -- dt = 5, mv = 1199, ns = 1999, ok = true, s = st1
    ∧ (Between st1 ∧ (¬(1240 < 1199 ∧ 1000000 ≤ 1999)))
    -- dt = 5, mv = 1241, ns = 2000, ok = true, s = saved
    ∧ (Between saved ∧ (¬(1240 < 1241 ∧ 1000000 ≤ 2000)))
    -- dt = 5, mv = 1199, ns = 1999, ok = true, s = st1
    ∧ (Between st1 ∧ rd st1 NVM_CFG_PERIOD = 0)
    -- dt = 5, mv = 1199, ns = 1999, ok = true, s = saved
    ∧ (Between saved ∧ rd saved NVM_CFG_PERIOD = 0)
    -- dt = 5, mv = 1199, ns = 1999, ok = true, s = st1
    ∧ (Between st1 ∧ Open st1 14680076)
    -- dt = 5, mv = 1199, ns = 1999, ok = true, s = saved
    ∧ (Between saved ∧ Open saved 14680076)
    -- dt = 5, mv = 1199, ns = 1999, ok = true, s = st1
    ∧ (Between st1 ∧ Open st1 14680076 ∧ (rd st1 NVM_PADDR_PAGE < 1280 ∨ st1.nvm.pb.isSome = true ∨ isolated st1 14 = true ∨ rd st1 NVM_STAT_SAVE_RUN = 1))
    -- dt = 5, mv = 1199, ns = 1999, ok = true, s = saved
    ∧ (Between saved ∧ Open saved 14680076 ∧ (rd saved NVM_PADDR_PAGE < 1280 ∨ saved.nvm.pb.isSome = true ∨ isolated saved 14 = true ∨ rd saved NVM_STAT_SAVE_RUN = 1))
    -- dt = 5, mv = 1199, ns = 1999, ok = true, s = st1
    ∧ (Between st1 ∧ st1.rst.phase = SeqPhase.run ∧ (st1.nvm.save = none ∨ st1.nvm.prog ≠ 0))
    -- dt = 5, mv = 1199, ns = 1999, ok = true, s = saved
    ∧ (Between saved ∧ saved.rst.phase = SeqPhase.run ∧ (saved.nvm.save = none ∨ saved.nvm.prog ≠ 0))
    -- dt = 5, mv = 1199, ns = 1999, ok = true, s = st1
    ∧ (Between st1 ∧ st1.nvm.prog = 0)
    -- dt = 5, mv = 1199, ns = 1999, ok = true, s = saved
    ∧ (Between saved ∧ saved.nvm.prog = 0)
    -- dt = 5, mv = 1199, ns = 1999, ok = true, s = st1
    ∧ (Between st1 ∧ st1.nvm.offers = [])
    -- dt = 5, mv = 1199, ns = 1999, ok = true, s = saved
    ∧ (Between saved ∧ saved.nvm.offers = [])
    -- dt = 5, mv = 1199, ns = 1999, ok = true, s = st1
    ∧ (Between st1 ∧ st1.nvm.loaded = false ∧ st1.rst.phase = SeqPhase.run ∧ rd st1 GEN_CLKSTAT_CORE_LOCK = 1)
    -- dt = 5, mv = 1199, ns = 1999, ok = true, s = saved
    ∧ (Between saved ∧ saved.nvm.loaded = false ∧ saved.rst.phase = SeqPhase.run ∧ rd saved GEN_CLKSTAT_CORE_LOCK = 1)
    -- dt = 5, mv = 1199, ns = 1999, ok = true, s = st2
    ∧ (Between st2 ∧ rd st2 NVM_CFG_PERIOD ≠ 0 ∧ st2.rst.phase = SeqPhase.run)
    -- dt = 5, mv = 1199, ns = 1999, ok = true, s = st3
    ∧ (Between st3 ∧ rd st3 NVM_CFG_PERIOD ≠ 0 ∧ st3.rst.phase = SeqPhase.run)
    ∧ (Between st3 ∧ st3.nvm.loaded = true)
    -- dt = 5, mv = 1199, ns = 1999, ok = true, s = st20
    ∧ (Between st20 ∧ st20.nvm.loaded = true)
    -- dt = 5, mv = 1199, ns = 2000, ok = true, s = st1
    ∧ (Between st1 ∧ (1199 < 1200 ∧ 2000 ≤ 2000) ∧ rd st1 NVM_STAT_PF_WARN = 0 ∧ st1.rst.por = false)
    -- dt = 5, mv = 1199, ns = 1000000, ok = true, s = saved
    ∧ (Between saved ∧ (1199 < 1200 ∧ 2000 ≤ 1000000) ∧ rd saved NVM_STAT_PF_WARN = 0 ∧ saved.rst.por = false)
    -- dt = 5, mv = 1241, ns = 1000000, ok = true, s = st1
    ∧ (Between st1 ∧ (1240 < 1241 ∧ 1000000 ≤ 1000000))
    -- dt = 5, mv = 1241, ns = 1000000, ok = true, s = saved
    ∧ (Between saved ∧ (1240 < 1241 ∧ 1000000 ≤ 1000000))
    -- dt = 5, mv = 1199, ns = 1999, ok = true, s = st5, r = sr
    ∧ (Between st5 ∧ st5.rst.phase = SeqPhase.run ∧ st5.nvm.save = some sr ∧ sr.flush = false ∧ st5.nvm.prog = 0)
    -- dt = 5, mv = 1199, ns = 1999, ok = true, s = st7, r = sr
    ∧ (Between st7 ∧ st7.rst.phase = SeqPhase.run ∧ st7.nvm.save = some sr ∧ sr.flush = false ∧ st7.nvm.prog = 0)
    -- dt = 5, mv = 1199, ns = 1999, ok = true, s = st6
    ∧ (Between st6 ∧ st6.nvm.prog ≠ 0 ∧ st6.nvm.retry = false)
    -- dt = 5, mv = 1199, ns = 1999, ok = true, s = st19
    ∧ (Between st19 ∧ st19.nvm.prog ≠ 0 ∧ st19.nvm.retry = false)
    -- dt = 5, mv = 1199, ns = 1999, ok = true, s = st8
    ∧ (Between st8 ∧ Open st8 14680076 ∧ 1280 ≤ rd st8 NVM_PADDR_PAGE ∧ st8.nvm.pb = none ∧ rd st8 NVM_STAT_SAVE_RUN = 0 ∧ isolated st8 14 = false ∧ st8.nvm.markAt ≠ cycleNow (Machine.pass 5 st8) + 1)
    -- dt = 5, mv = 1199, ns = 1999, ok = true, s = st14, ow = 2, p = p_10, m = m_11, q = q_13
    ∧ (Between st14 ∧ isolated st14 14 = false ∧ st14.nvm.save = none ∧ st14.nvm.prog = 1 ∧ st14.nvm.wb = { owner := 2, pages := p_10 :: m_11 } :: q_13)
    -- dt = 5, mv = 1199, ns = 1999, ok = true, s = st16, ow = 2, p = p_10, m = m_12, q = q_13
    ∧ (Between st16 ∧ isolated st16 14 = false ∧ st16.nvm.save = none ∧ st16.nvm.prog = 1 ∧ st16.nvm.wb = { owner := 2, pages := p_10 :: m_12 } :: q_13)
    -- dt = 5, mv = 1199, ns = 1999, ok = true, s = st15, ow = 2, p = p_10, m = m_11, q = q_13
    ∧ (Between st15 ∧ isolated st15 14 = false ∧ st15.nvm.save = none ∧ st15.nvm.prog = 1 ∧ st15.nvm.wb = { owner := 2, pages := p_10 :: m_11 } :: q_13 ∧ st15.nvm.retry = true)
    -- dt = 5, mv = 1199, ns = 1999, ok = true, s = st16, ow = 2, p = p_10, m = m_12, q = q_13
    ∧ (Between st16 ∧ isolated st16 14 = false ∧ st16.nvm.save = none ∧ st16.nvm.prog = 1 ∧ st16.nvm.wb = { owner := 2, pages := p_10 :: m_12 } :: q_13 ∧ st16.nvm.retry = true)
    -- dt = 5, mv = 1199, ns = 1999, ok = true, s = st18, it = wi, r = r_17
    ∧ (Between st18 ∧ st18.nvm.offers = wi :: r_17 ∧ st18.nvm.wb.length < 16 ∧ isolated st18 14 = false)
    -- dt = 5, mv = 1199, ns = 1999, ok = true, s = st19, p = 1281, m = 2 ^ 255 + 3, l = pg
    ∧ (Between st19 ∧ st19.nvm.prog = 2 ∧ st19.nvm.wb = [] ∧ st19.nvm.save = none ∧ st19.nvm.pb = some (1281, 2 ^ 255 + 3, pg))
    -- dt = 5, mv = 1199, ns = 1999, ok = true, s = st20, p = 1281, m = 2 ^ 255 + 3, l = pg
    ∧ (Between st20 ∧ st20.nvm.prog = 2 ∧ st20.nvm.wb = [] ∧ st20.nvm.save = none ∧ st20.nvm.pb = some (1281, 2 ^ 255 + 3, pg))
    ∧ (Between st20 ∧ st20.nvm.prog = 2 ∧ st20.nvm.wb = [] ∧ st20.nvm.save = none ∧ st20.nvm.pb = some (1281, 2 ^ 255 + 3, pg) ∧ st20.nvm.retry = true) := by
  simp only [Open, HostIdle, Between]
  decide +kernel

end WNvm

namespace WSec

def lk (l : List (Fld × Nat)) (s : State) : State := l.foldl (fun s x => put x.1 x.2 s) s
def T0 : Nat := 1700000000
def run : State := cc { base with now := 123456789, rst := { base.rst with phase := .run }, tkp := { base.tkp with run := true }, tod := T0 * secT + 777, flt := { base.flt with inst := [] } }
def se (f : SecS → SecS) (l : List (Fld × Nat)) (s : State := run) : State := lk ((SEC_STAT_STATE, 1) :: l) { s with sec := f s.sec }
def fz : FuseRun := { field := 4, todo := [1508, 1509, 3], start := 123456 }
def st1 : State := se id [(SEC_BUF_DATA 0, 0x15), (SEC_SLOT_LOCK_LOCK, 6)]
def st2 : State := { se (fun x => { x with fuse := some fz }) [] with otp := 2 ^ 3 }
def im (n : Nat) (x : Bool) : State := let s := se id []; { s with img := { s.img with signed := x, secver := n } }
def st3 : State := im 3 true
def st4 : State := im 0 true
def st5 : State := im 5 false
def dt10 : List Byte := (List.range 32).map (fun i => BitVec.ofNat 8 (i * 3))
def sv (op sl us ln : Nat) (l : List (Fld × Nat)) : State := se (fun x => { x with svc := some { op := op, slot := sl, usage := us, len := ln }, kek := some dt10, keys := vset x.keys 7 dt10 }) ([(SEC_SVC_STAT_BUSY, 1), (SEC_BUF_DATA 3, 99)] ++ l)
def svr (op sl us ln : Nat) : SvcRun := { op := op, slot := sl, usage := us, len := ln }
def st6 : State := se id []
def st7 : State := se id [(SEC_SVC_STAT_BUSY, 1), (SEC_OUT_DATA 9, 7)]
def r_8 := svr 1 7 2 0
def r_9 := svr 1 7 0 0
def r_10 := svr 2 7 0 0
def r_11 := svr 3 0 0 0
def r_12 := svr 4 0 0 192
def r_13 := svr 4 0 0 191
def r_14 := svr 5 7 0 192
def r_15 := svr 6 0 0 0
def st16 : State := sv 1 7 2 0 []
def st17 : State := sv 1 7 0 0 []
def st18 : State := sv 1 7 2 0 [(SEC_SLOT_LOCK_LOCK, 128)]
def st19 : State := sv 2 7 0 0 [(SEC_SLOT_USE_USE 0, 0xF2345678)]
def st20 : State := sv 2 7 0 0 [(SEC_SLOT_LOCK_LOCK, 128)]
def st21 : State := sv 3 0 0 0 []
def st22 : State := sv 4 0 0 192 []
def st23 : State := sv 4 0 0 191 []
def st24 : State := sv 5 7 0 192 [(SEC_SLOT_USE_USE 0, 0xF2345678)]
def st25 : State := sv 5 7 0 192 [(SEC_SLOT_USE_USE 0, 0x32345678)]
def st26 : State := sv 6 0 0 0 []
def st27 : State := sv 1 7 2 0 [(SEC_STAT_STATE, 2)]
def st28 : State := putIn 69 CRL_P_CFG_KEYSLOT 7 (sv 2 7 0 0 [(SEC_SLOT_USE_USE 0, 0xF2345678)])
def st29 : State := se (fun x => { x with req := 2 ^ 20, seeds := 6 }) []
def st31 : State := se (fun x => { x with testing := true }) [(SEC_STAT_STATE, 0)]
def st32 : State := se id [(SEC_STAT_STATE, 2)]
def st33 : State := se (fun x => { x with fuse := some fz, testing := true }) []
def st34 : State := se (fun x => { x with ready := true }) []
def st36 : State := modSec (fun x => { x with testing := true, ready := true }) (sv 1 7 2 0 [])

theorem witness_FusesAreProgrammedAndLocked :
    -- dt = 5, key = 90, field = 4, data = 2147483649, s = st1
    (Between st1 ∧ Open st1 15728664 ∧ fuseRefuse st1 (90 % 256) (4 % 16) ≠ 0)
    -- dt = 5, key = 0, field = 0, data = 0, s = st5
    ∧ (Between st5 ∧ Open st5 15728664 ∧ fuseRefuse st5 (0 % 256) (0 % 16) ≠ 0)
    -- dt = 5, key = 90, field = 4, data = 2147483649, s = st1
    ∧ (Between st1 ∧ st1.sec.fuse = none)
    -- dt = 5, key = 0, field = 0, data = 0, s = st5
    ∧ (Between st5 ∧ st5.sec.fuse = none)
    -- dt = 5, key = 90, field = 4, data = 2147483649, s = st1
    ∧ (Between st1 ∧ Open st1 15728648)
    -- dt = 5, key = 0, field = 0, data = 0, s = st5
    ∧ (Between st5 ∧ Open st5 15728648)
    -- dt = 5, key = 90, field = 4, data = 2147483649, s = st1
    ∧ (Between st1 ∧ Open st1 15728652)
    -- dt = 5, key = 0, field = 0, data = 0, s = st5
    ∧ (Between st5 ∧ Open st5 15728652)
    -- dt = 5, key = 90, field = 4, data = 2147483649, s = st1
    ∧ (Between st1 ∧ HostIdle st1 ∧ (¬(rd st1 IMG_STATUS_STATE = 4 ∧ rd st1 IMG_LOCK_LOCK ≠ 1 ∧ st1.img.signed = true ∧ rd st1 SEC_STAT_STATE = 1 ∧ st1.sec.fuse = none ∧ rd st1 NVM_STAT_PF_WARN ≠ 1 ∧ rd st1 NVM_STAT_SAVE_RUN ≠ 1)))
    -- dt = 5, key = 0, field = 0, data = 0, s = st5
    ∧ (Between st5 ∧ HostIdle st5 ∧ (¬(rd st5 IMG_STATUS_STATE = 4 ∧ rd st5 IMG_LOCK_LOCK ≠ 1 ∧ st5.img.signed = true ∧ rd st5 SEC_STAT_STATE = 1 ∧ st5.sec.fuse = none ∧ rd st5 NVM_STAT_PF_WARN ≠ 1 ∧ rd st5 NVM_STAT_SAVE_RUN ≠ 1)))
    -- dt = 5, key = 90, field = 4, data = 2147483649, s = st2
    ∧ (Between st2 ∧ st2.sec.fuse = some (st2.sec.fuse.get!))
    -- dt = 5, key = 90, field = 6, data = 2147483649, s = st1
    ∧ (Between st1 ∧ Open st1 15728664 ∧ fuseRefuse st1 (90 % 256) (6 % 16) = 0)
    -- dt = 5, key = 90, field = 17, data = 2147483649, s = st1
    ∧ (Between st1 ∧ Open st1 15728664 ∧ fuseRefuse st1 (90 % 256) (17 % 16) = 0)
    -- dt = 5, key = 0, field = 0, data = 0, s = st3
    ∧ (Between st3 ∧ HostIdle st3 ∧ (rd st3 IMG_STATUS_STATE = 4 ∧ rd st3 IMG_LOCK_LOCK ≠ 1 ∧ st3.img.signed = true ∧ rd st3 SEC_STAT_STATE = 1 ∧ st3.sec.fuse = none ∧ rd st3 NVM_STAT_PF_WARN ≠ 1 ∧ rd st3 NVM_STAT_SAVE_RUN ≠ 1) ∧ arbCount st3 < st3.img.secver)
    -- dt = 5, key = 0, field = 0, data = 0, s = st4
    ∧ (Between st4 ∧ HostIdle st4 ∧ (rd st4 IMG_STATUS_STATE = 4 ∧ rd st4 IMG_LOCK_LOCK ≠ 1 ∧ st4.img.signed = true ∧ rd st4 SEC_STAT_STATE = 1 ∧ st4.sec.fuse = none ∧ rd st4 NVM_STAT_PF_WARN ≠ 1 ∧ rd st4 NVM_STAT_SAVE_RUN ≠ 1) ∧ st4.img.secver ≤ arbCount st4) := by
  simp only [Open, HostIdle, Between]
  decide +kernel

theorem witness_ServicesAreTakenAndRun :
    -- dt = 5, key = 90, slot = 63, usage = 11, len = 300, s = st6
    (Between st6 ∧ Open st6 15728656 ∧ 90 % 256 = 90 ∧ rd st6 SEC_SVC_STAT_BUSY = 0)
    -- dt = 5, key = 346, slot = 63, usage = 11, len = 300, s = st6
    ∧ (Between st6 ∧ Open st6 15728656 ∧ 346 % 256 = 90 ∧ rd st6 SEC_SVC_STAT_BUSY = 0)
    -- dt = 5, key = 90, slot = 63, usage = 11, len = 300, s = st6
    ∧ (Between st6 ∧ st6.sec.svc = none)
    -- dt = 5, key = 90, slot = 63, usage = 11, len = 300, s = st7
    ∧ (Between st7 ∧ st7.sec.svc = none)
    ∧ (Between st7 ∧ Open st7 15728656 ∧ (90 % 256 ≠ 90 ∨ rd st7 SEC_SVC_STAT_BUSY = 1))
    -- dt = 5, key = 0, slot = 7, usage = 2, len = 0, s = st28
    ∧ (Between st28 ∧ Open st28 15728656 ∧ (0 % 256 ≠ 90 ∨ rd st28 SEC_SVC_STAT_BUSY = 1))
    -- dt = 5, key = 0, slot = 7, usage = 2, len = 0, s = st16, r = r_8, kek = dt10
    ∧ (Between st16 ∧ st16.sec.svc = some r_8 ∧ st16.sec.testing = false ∧ r_8.ended = false ∧ rd st16 SEC_STAT_STATE = 1 ∧ st16.sec.kek = some dt10 ∧ r_8.op = 1 ∧ (¬(rd st16 SEC_SLOT_LOCK_LOCK).testBit r_8.slot = true) ∧ 1 ≤ r_8.usage ∧ r_8.usage ≤ 3)
    -- dt = 5, key = 0, slot = 7, usage = 2, len = 0, s = st17, r = r_9, kek = dt10
    ∧ (Between st17 ∧ st17.sec.svc = some r_9 ∧ st17.sec.testing = false ∧ r_9.ended = false ∧ rd st17 SEC_STAT_STATE = 1 ∧ st17.sec.kek = some dt10 ∧ r_9.op = 1 ∧ (¬(rd st17 SEC_SLOT_LOCK_LOCK).testBit r_9.slot = true) ∧ r_9.usage = 0)
    -- dt = 5, key = 0, slot = 7, usage = 2, len = 0, s = st18, r = r_8, kek = dt10
    ∧ (Between st18 ∧ st18.sec.svc = some r_8 ∧ st18.sec.testing = false ∧ r_8.ended = false ∧ rd st18 SEC_STAT_STATE = 1 ∧ st18.sec.kek = some dt10 ∧ (r_8.op = 1 ∨ r_8.op = 2) ∧ (rd st18 SEC_SLOT_LOCK_LOCK).testBit r_8.slot = true)
    -- dt = 5, key = 0, slot = 7, usage = 2, len = 0, s = st20, r = r_10, kek = dt10
    ∧ (Between st20 ∧ st20.sec.svc = some r_10 ∧ st20.sec.testing = false ∧ r_10.ended = false ∧ rd st20 SEC_STAT_STATE = 1 ∧ st20.sec.kek = some dt10 ∧ (r_10.op = 1 ∨ r_10.op = 2) ∧ (rd st20 SEC_SLOT_LOCK_LOCK).testBit r_10.slot = true)
    -- dt = 5, key = 0, slot = 7, usage = 2, len = 0, s = st19, r = r_10, kek = dt10
    ∧ (Between st19 ∧ st19.sec.svc = some r_10 ∧ st19.sec.testing = false ∧ r_10.ended = false ∧ rd st19 SEC_STAT_STATE = 1 ∧ st19.sec.kek = some dt10 ∧ r_10.op = 2 ∧ (¬(rd st19 SEC_SLOT_LOCK_LOCK).testBit r_10.slot = true) ∧ r_10.slot < 32)
    -- dt = 5, key = 0, slot = 7, usage = 2, len = 0, s = st28, r = r_10, kek = dt10
    ∧ (Between st28 ∧ st28.sec.svc = some r_10 ∧ st28.sec.testing = false ∧ r_10.ended = false ∧ rd st28 SEC_STAT_STATE = 1 ∧ st28.sec.kek = some dt10 ∧ r_10.op = 2 ∧ (¬(rd st28 SEC_SLOT_LOCK_LOCK).testBit r_10.slot = true) ∧ r_10.slot < 32)
    -- dt = 5, key = 0, slot = 7, usage = 2, len = 0, s = st21, r = r_11, kek = dt10
    ∧ (Between st21 ∧ st21.sec.svc = some r_11 ∧ st21.sec.testing = false ∧ r_11.ended = false ∧ rd st21 SEC_STAT_STATE = 1 ∧ st21.sec.kek = some dt10 ∧ r_11.op = 3)
    -- dt = 5, key = 0, slot = 7, usage = 2, len = 0, s = st22, r = r_12, kek = dt10
    ∧ (Between st22 ∧ st22.sec.svc = some r_12 ∧ st22.sec.testing = false ∧ r_12.ended = false ∧ rd st22 SEC_STAT_STATE = 1 ∧ st22.sec.kek = some dt10 ∧ r_12.op = 4 ∧ r_12.len ≤ 192)
    -- dt = 5, key = 0, slot = 7, usage = 2, len = 0, s = st23, r = r_13, kek = dt10
    ∧ (Between st23 ∧ st23.sec.svc = some r_13 ∧ st23.sec.testing = false ∧ r_13.ended = false ∧ rd st23 SEC_STAT_STATE = 1 ∧ st23.sec.kek = some dt10 ∧ r_13.op = 4 ∧ r_13.len ≤ 192)
    -- dt = 5, key = 0, slot = 7, usage = 2, len = 0, s = st24, r = r_14, kek = dt10
    ∧ (Between st24 ∧ st24.sec.svc = some r_14 ∧ st24.sec.testing = false ∧ r_14.ended = false ∧ rd st24 SEC_STAT_STATE = 1 ∧ st24.sec.kek = some dt10 ∧ r_14.op = 5 ∧ r_14.len ≤ 192 ∧ keyFor st24 r_14.slot 3 = none)
    -- dt = 5, key = 0, slot = 7, usage = 2, len = 0, s = st25, r = r_14, kek = dt10, k = dt10
    ∧ (Between st25 ∧ st25.sec.svc = some r_14 ∧ st25.sec.testing = false ∧ r_14.ended = false ∧ rd st25 SEC_STAT_STATE = 1 ∧ st25.sec.kek = some dt10 ∧ r_14.op = 5 ∧ r_14.len ≤ 192 ∧ keyFor st25 r_14.slot 3 = some dt10)
    -- dt = 5, key = 0, slot = 7, usage = 2, len = 0, s = st26, r = r_15, kek = dt10
    ∧ (Between st26 ∧ st26.sec.svc = some r_15 ∧ st26.sec.testing = false ∧ r_15.ended = false ∧ rd st26 SEC_STAT_STATE = 1 ∧ st26.sec.kek = some dt10 ∧ r_15.op = 6)
    -- dt = 5, key = 0, slot = 7, usage = 2, len = 0, s = st27, r = r_8
    ∧ (Between st27 ∧ st27.sec.svc = some r_8 ∧ st27.sec.testing = false ∧ r_8.ended = false ∧ (¬rd st27 SEC_STAT_STATE = 1)) := by
  simp only [Open, HostIdle, Between]
  decide +kernel

theorem witness_RandomSelfTestsAndZeroise :
    -- dt = 5, key = 90, code = 13, p = true, s = st29
    (Between st29 ∧ HostIdle st29 ∧ rd st29 SEC_STAT_STATE = 1)
    -- dt = 5, key = 90, code = 13, p = true, s = st36
    ∧ (Between st36 ∧ HostIdle st36 ∧ rd st36 SEC_STAT_STATE = 1)
    -- dt = 5, key = 90, code = 13, p = true, s = st29
    ∧ (Between st29 ∧ rd st29 SEC_STAT_STATE = 1)
    -- dt = 5, key = 90, code = 13, p = true, s = st36
    ∧ (Between st36 ∧ rd st36 SEC_STAT_STATE = 1)
    -- dt = 5, key = 90, code = 13, p = true, s = st29
    ∧ (Between st29 ∧ Open st29 15728644 ∧ 90 % 256 = 90)
    -- dt = 5, key = 90, code = 13, p = true, s = st36
    ∧ (Between st36 ∧ Open st36 15728644 ∧ 90 % 256 = 90)
    -- dt = 5, key = 90, code = 13, p = true, s = st29
    ∧ (Between st29 ∧ Open st29 15728644 ∧ 90 % 256 = 90 ∧ (rd st29 SEC_STAT_STATE = 2 ∨ st29.sec.ready = false))
    -- dt = 5, key = 90, code = 13, p = true, s = st33
    ∧ (Between st33 ∧ Open st33 15728644 ∧ 90 % 256 = 90 ∧ (rd st33 SEC_STAT_STATE = 2 ∨ st33.sec.ready = false))
    -- dt = 5, key = 90, code = 13, p = true, s = st29
    ∧ (Between st29 ∧ st29.sec.testing = false)
    -- dt = 5, key = 90, code = 13, p = true, s = st34
    ∧ (Between st34 ∧ st34.sec.testing = false)
    -- dt = 5, key = 90, code = 13, p = true, s = st29
    ∧ (Between st29 ∧ rd st29 SEC_STAT_STATE ≠ 2)
    -- dt = 5, key = 90, code = 13, p = true, s = st36
    ∧ (Between st36 ∧ rd st36 SEC_STAT_STATE ≠ 2)
    -- dt = 5, key = 90, code = 13, p = true, s = st31
    ∧ (Between st31 ∧ HostIdle st31 ∧ (¬rd st31 SEC_STAT_STATE = 1))
    -- dt = 5, key = 90, code = 13, p = true, s = st32
    ∧ (Between st32 ∧ HostIdle st32 ∧ (¬rd st32 SEC_STAT_STATE = 1))
    -- dt = 5, key = 90, code = 13, p = true, s = st31
    ∧ (Between st31 ∧ (¬rd st31 SEC_STAT_STATE = 1))
    -- dt = 5, key = 90, code = 13, p = true, s = st32
    ∧ (Between st32 ∧ (¬rd st32 SEC_STAT_STATE = 1))
    -- dt = 5, key = 90, code = 13, p = true, s = st31
    ∧ (Between st31 ∧ st31.sec.testing = true)
    -- dt = 5, key = 90, code = 13, p = true, s = st36
    ∧ (Between st36 ∧ st36.sec.testing = true)
    -- dt = 5, key = 90, code = 13, p = true, s = st31
    ∧ (Between st31 ∧ st31.sec.testing = true ∧ rd st31 SEC_STAT_STATE ≠ 2 ∧ 13 ≠ 0 ∧ (13 = 0 ∨ 13 = 2 ∨ 5 ≤ 13 ∧ 13 ≤ 13))
    -- dt = 5, key = 90, code = 2, p = true, s = st36
    ∧ (Between st36 ∧ st36.sec.testing = true ∧ rd st36 SEC_STAT_STATE ≠ 2 ∧ 2 ≠ 0 ∧ (2 = 0 ∨ 2 = 2 ∨ 5 ≤ 2 ∧ 2 ≤ 13))
    -- dt = 5, key = 90, code = 13, p = true, s = st32
    ∧ (Between st32 ∧ rd st32 SEC_STAT_STATE = 2)
    -- dt = 5, key = 90, code = 13, p = true, s = st34
    ∧ (Between st34 ∧ Open st34 15728644 ∧ 90 % 256 = 90 ∧ rd st34 SEC_STAT_STATE ≠ 2 ∧ st34.sec.ready = true)
    -- dt = 5, key = 90, code = 13, p = true, s = st36
    ∧ (Between st36 ∧ Open st36 15728644 ∧ 90 % 256 = 90 ∧ rd st36 SEC_STAT_STATE ≠ 2 ∧ st36.sec.ready = true)
    -- dt = 5, key = 90, code = 1, p = true, s = st29
    ∧ (Between st29 ∧ (¬(1 = 0 ∨ 1 = 2 ∨ 5 ≤ 1 ∧ 1 ≤ 13)))
    -- dt = 5, key = 90, code = 1, p = true, s = st36
    ∧ (Between st36 ∧ (¬(1 = 0 ∨ 1 = 2 ∨ 5 ≤ 1 ∧ 1 ≤ 13)))
    -- dt = 5, key = 7, code = 13, p = true, s = st29
    ∧ (Between st29 ∧ Open st29 15728644 ∧ 7 % 256 ≠ 90)
    -- dt = 5, key = 7, code = 13, p = true, s = st36
    ∧ (Between st36 ∧ Open st36 15728644 ∧ 7 % 256 ≠ 90) := by
  simp only [Open, HostIdle, Between]
  decide +kernel

end WSec

namespace WFlt

def lk (l : List (Fld × Nat)) (s : State) : State := l.foldl (fun s x => put x.1 x.2 s) s
def T0 : Nat := 1700000000
def run : State := cc { base with now := 123456789, rst := { base.rst with phase := .run }, tkp := { base.tkp with run := true }, tod := T0 * secT + 777, flt := { base.flt with inst := [] } }
def st1 : State := lk [(FLT_STAT_STATE, 2)] run
def st2 : State := lk [(GEN_MODESTAT_EFFECTIVE, 64), (FLT_FIRST_VALID, 1), (FLT_FIRST_SRC, 9)] run
def fl (f : FltS → FltS) (l : List (Fld × Nat)) : State := lk l { run with flt := f run.flt }
def st3 : State := fl (fun f => { f with win := vset f.win 7 (.inReset 999) }) [(SYN_TEST_GO, 1)]
def st4 : State := fl (fun f => { f with win := vset f.win 7 (.settle 999) }) [(FLT_STAT_STATE, 1)]
def st5 : State := fl (fun f => { f with win := vset (vset f.win 7 (.settle 999)) 8 (.settle 9999999) }) [(FLT_STAT_STATE, 1)]
def st6 : State := fl (fun f => { f with quietEnd := some 999999999999 }) [(FLT_STAT_STATE, 1), (FLT_STAT_ALIVE_STOP, 1)]
def st7 : State := fl id [(GEN_MODESTAT_EFFECTIVE, 64)]
def st8 : State := fl (fun f => { f with inst := [(31, 0xFFFF0000)] }) [(FLT_RIDX_SRC, 31), (FLT_STK_STK 2, 0xFF000001), (FLT_CSTK_CSTK 2, 0xFF000001)]
def st9 : State := fl (fun f => { f with chkEnd := some 999999999999, chkSrc := 31 }) [(FLT_CHKTEST_GO, 1), (FLT_CHKTEST_SRC, 31)]
def st10 : State := fl (fun f => { f with chkEnd := some 999999999999, chkSrc := 20 }) [(FLT_CHKTEST_GO, 1), (FLT_CHKTEST_SRC, 31)]
def ff : State := lk [(GEN_MODESTAT_EFFECTIVE, 64), (FLT_FIRST_VALID, 1), (FLT_FIRST_SRC, 9)] run
def st12 : State := put FLT_FIRST_MULTI 1 (put FLT_FIRST_VALID 0 ff)

theorem witness_FaultsAreForcedAndCollected :
    -- dt = 5, k = 0, i = 4, s = run
    (Between run ∧ 0 < 3 ∧ 4 < 32 ∧ Open run (2097192 + 4 * 0) ∧ inSafe run = false ∧ 32 * 0 + 4 = 4 ∧ mode run 6 = false)
    -- dt = 5, k = 0, i = 4, s = st1
    ∧ (Between st1 ∧ 0 < 3 ∧ 4 < 32 ∧ Open st1 (2097192 + 4 * 0) ∧ inSafe st1 = true)
    -- dt = 5, k = 2, i = 9, s = st1
    ∧ (Between st1 ∧ 2 < 3 ∧ 9 < 32 ∧ Open st1 (2097192 + 4 * 2) ∧ inSafe st1 = true)
    -- dt = 5, k = 0, i = 4, s = st2
    ∧ (Between st2 ∧ 0 < 3 ∧ 4 < 32 ∧ Open st2 (2097192 + 4 * 0) ∧ inSafe st2 = false ∧ (32 * 0 + 4 = 4 → mode st2 6 = true))
    -- dt = 5, k = 0, i = 9, s = st12
    ∧ (Between st12 ∧ 0 < 3 ∧ 9 < 32 ∧ Open st12 (2097192 + 4 * 0) ∧ inSafe st12 = false ∧ (32 * 0 + 9 = 4 → mode st12 6 = true))
    -- dt = 5, k = 0, i = 8, s = run
    ∧ (Between run ∧ 0 < 3 ∧ 8 < 32 ∧ Open run (2097192 + 4 * 0) ∧ inSafe run = false ∧ 32 * 0 + 8 ≠ 4 ∧ mayRaise run (32 * 0 + 8) = true ∧ (consequential (Machine.pass 5 run)).testBit (32 * 0 + 8) = false ∧ reactIn (Machine.pass 5 run) (32 * 0 + 8) = 1)
    -- dt = 5, k = 0, i = 8, s = st12
    ∧ (Between st12 ∧ 0 < 3 ∧ 8 < 32 ∧ Open st12 (2097192 + 4 * 0) ∧ inSafe st12 = false ∧ 32 * 0 + 8 ≠ 4 ∧ mayRaise st12 (32 * 0 + 8) = true ∧ (consequential (Machine.pass 5 st12)).testBit (32 * 0 + 8) = false ∧ reactIn (Machine.pass 5 st12) (32 * 0 + 8) = 1) := by
  simp only [Open, HostIdle, Between]
  decide +kernel

theorem witness_ResetWindowsQuietAndCheckTests :
    -- dt = 5, b = 7, k = 2, data = 252645135, src = 31, j = 7, s = run
    (Between run ∧ 7 < 16 ∧ 2 < 3 ∧ 7 < 32 ∧ ix run.flt.win 7 = ResetWin.none)
    -- dt = 5, b = 7, k = 2, data = 252645135, src = 31, j = 7, s = st10
    ∧ (Between st10 ∧ 7 < 16 ∧ 2 < 3 ∧ 7 < 32 ∧ ix st10.flt.win 7 = ResetWin.none)
    -- dt = 5, b = 7, k = 2, data = 252645135, src = 31, j = 7, s = run
    ∧ (Between run ∧ 7 < 16 ∧ 2 < 3 ∧ 7 < 32 ∧ run.flt.quietEnd = none)
    -- dt = 5, b = 7, k = 2, data = 252645135, src = 31, j = 7, s = st10
    ∧ (Between st10 ∧ 7 < 16 ∧ 2 < 3 ∧ 7 < 32 ∧ st10.flt.quietEnd = none)
    -- dt = 5, b = 7, k = 2, data = 252645135, src = 31, j = 7, s = run
    ∧ (Between run ∧ 7 < 16 ∧ 2 < 3 ∧ 7 < 32 ∧ 31 < 128 ∧ Open run 2097240 ∧ rd run FLT_CHKTEST_GO = 0 ∧ (mode run 6 = false ∨ ¬paritySources.contains 31 = true))
    -- dt = 5, b = 7, k = 2, data = 252645135, src = 84, j = 7, s = st8
    ∧ (Between st8 ∧ 7 < 16 ∧ 2 < 3 ∧ 7 < 32 ∧ 84 < 128 ∧ Open st8 2097240 ∧ rd st8 FLT_CHKTEST_GO = 0 ∧ (mode st8 6 = false ∨ ¬paritySources.contains 84 = true))
    -- dt = 5, b = 7, k = 2, data = 252645135, src = 31, j = 7, s = run
    ∧ (Between run ∧ 7 < 16 ∧ 2 < 3 ∧ 7 < 32 ∧ run.flt.chkEnd = none)
    -- dt = 5, b = 7, k = 2, data = 252645135, src = 31, j = 7, s = st8
    ∧ (Between st8 ∧ 7 < 16 ∧ 2 < 3 ∧ 7 < 32 ∧ st8.flt.chkEnd = none)
    -- dt = 5, b = 7, k = 2, data = 252645135, src = 31, j = 7, s = run
    ∧ (Between run ∧ 7 < 16 ∧ 2 < 3 ∧ 7 < 32 ∧ Open run (2097168 + 4 * 2))
    -- dt = 5, b = 7, k = 2, data = 252645135, src = 31, j = 7, s = st10
    ∧ (Between st10 ∧ 7 < 16 ∧ 2 < 3 ∧ 7 < 32 ∧ Open st10 (2097168 + 4 * 2))
    -- dt = 5, b = 7, k = 2, data = 252645135, src = 31, j = 7, s = run
    ∧ (Between run ∧ 7 < 16 ∧ 2 < 3 ∧ 7 < 32 ∧ Open run (2097168 + 4 * (2 + 3)))
    -- dt = 5, b = 7, k = 2, data = 252645135, src = 31, j = 7, s = st10
    ∧ (Between st10 ∧ 7 < 16 ∧ 2 < 3 ∧ 7 < 32 ∧ Open st10 (2097168 + 4 * (2 + 3)))
    -- dt = 5, b = 7, k = 2, data = 252645135, src = 31, j = 7, s = run
    ∧ (Between run ∧ 7 < 16 ∧ 2 < 3 ∧ 7 < 32 ∧ Open run 2097212)
    -- dt = 5, b = 7, k = 2, data = 252645135, src = 31, j = 7, s = st10
    ∧ (Between st10 ∧ 7 < 16 ∧ 2 < 3 ∧ 7 < 32 ∧ Open st10 2097212)
    -- dt = 5, b = 7, k = 2, data = 252645135, src = 31, j = 7, s = run
    ∧ (Between run ∧ 7 < 16 ∧ 2 < 3 ∧ 7 < 32)
    -- dt = 5, b = 7, k = 2, data = 252645135, src = 31, j = 7, s = st10
    ∧ (Between st10 ∧ 7 < 16 ∧ 2 < 3 ∧ 7 < 32)
    -- dt = 5, b = 7, k = 2, data = 252645135, src = 31, j = 7, s = run
    ∧ (Between run ∧ 7 < 16 ∧ 2 < 3 ∧ 7 < 32 ∧ run.flt.chkEnd = none ∧ rd run SEC_STAT_STATE ≠ 2)
    -- dt = 5, b = 7, k = 2, data = 252645135, src = 31, j = 7, s = st8
    ∧ (Between st8 ∧ 7 < 16 ∧ 2 < 3 ∧ 7 < 32 ∧ st8.flt.chkEnd = none ∧ rd st8 SEC_STAT_STATE ≠ 2)
    -- dt = 5, b = 7, k = 2, data = 252645135, src = 31, j = 7, s = st3, t = 999
    ∧ (Between st3 ∧ 7 < 16 ∧ 2 < 3 ∧ 7 < 32 ∧ ix st3.flt.win 7 = ResetWin.inReset 999)
    -- dt = 5, b = 7, k = 1, data = 252645135, src = 31, j = 7, s = st3, t = 999
    ∧ (Between st3 ∧ 7 < 16 ∧ 1 < 3 ∧ 7 < 32 ∧ ix st3.flt.win 7 = ResetWin.inReset 999)
    -- dt = 5, b = 7, k = 2, data = 252645135, src = 31, j = 7, s = st4, t = 999
    ∧ (Between st4 ∧ 7 < 16 ∧ 2 < 3 ∧ 7 < 32 ∧ ix st4.flt.win 7 = ResetWin.settle 999)
    -- dt = 5, b = 7, k = 1, data = 252645135, src = 31, j = 7, s = st5, t = 999
    ∧ (Between st5 ∧ 7 < 16 ∧ 1 < 3 ∧ 7 < 32 ∧ ix st5.flt.win 7 = ResetWin.settle 999)
    -- dt = 5, b = 7, k = 2, data = 252645135, src = 31, j = 7, s = st6, t = 999999999999
    ∧ (Between st6 ∧ 7 < 16 ∧ 2 < 3 ∧ 7 < 32 ∧ st6.flt.quietEnd = some 999999999999 ∧ cram st6 cramRecovery % 65536 ≠ 65534)
    -- dt = 5, b = 7, k = 1, data = 252645135, src = 31, j = 7, s = st6, t = 999999999999
    ∧ (Between st6 ∧ 7 < 16 ∧ 1 < 3 ∧ 7 < 32 ∧ st6.flt.quietEnd = some 999999999999 ∧ cram st6 cramRecovery % 65536 ≠ 65534)
    -- dt = 5, b = 7, k = 2, data = 252645135, src = 7, j = 7, s = run
    ∧ (Between run ∧ 7 < 16 ∧ 2 < 3 ∧ 7 < 32 ∧ (¬paritySources.contains 7 = true) ∧ 7 ≠ 84)
    -- dt = 5, b = 7, k = 2, data = 252645135, src = 7, j = 7, s = st10
    ∧ (Between st10 ∧ 7 < 16 ∧ 2 < 3 ∧ 7 < 32 ∧ (¬paritySources.contains 7 = true) ∧ 7 ≠ 84)
    -- dt = 5, b = 7, k = 2, data = 252645135, src = 31, j = 7, s = st7
    ∧ (Between st7 ∧ 7 < 16 ∧ 2 < 3 ∧ 7 < 32 ∧ 31 < 128 ∧ Open st7 2097240 ∧ rd st7 FLT_CHKTEST_GO = 0 ∧ mode st7 6 = true ∧ paritySources.contains 31 = true ∧ st7.flt.chkEnd = none)
    -- dt = 5, b = 7, k = 2, data = 252645135, src = 84, j = 7, s = st7
    ∧ (Between st7 ∧ 7 < 16 ∧ 2 < 3 ∧ 7 < 32 ∧ 84 < 128 ∧ Open st7 2097240 ∧ rd st7 FLT_CHKTEST_GO = 0 ∧ mode st7 6 = true ∧ paritySources.contains 84 = true ∧ st7.flt.chkEnd = none)
    -- dt = 5, b = 7, k = 2, data = 252645135, src = 31, j = 7, s = st9
    ∧ (Between st9 ∧ 7 < 16 ∧ 2 < 3 ∧ 7 < 32 ∧ Open st9 2097240 ∧ rd st9 FLT_CHKTEST_GO = 1)
    -- dt = 5, b = 7, k = 2, data = 252645135, src = 31, j = 7, s = st10
    ∧ (Between st10 ∧ 7 < 16 ∧ 2 < 3 ∧ 7 < 32 ∧ Open st10 2097240 ∧ rd st10 FLT_CHKTEST_GO = 1)
    -- dt = 5, b = 7, k = 2, data = 252645135, src = 31, j = 7, s = st9, t = 999999999999
    ∧ (Between st9 ∧ 7 < 16 ∧ 2 < 3 ∧ 7 < 32 ∧ st9.flt.chkEnd = some 999999999999 ∧ st9.flt.chkQ = [] ∧ st9.flt.chkDiv = none ∧ st9.flt.chkSrc < 128)
    -- dt = 5, b = 7, k = 2, data = 252645135, src = 31, j = 7, s = st10, t = 999999999999
    ∧ (Between st10 ∧ 7 < 16 ∧ 2 < 3 ∧ 7 < 32 ∧ st10.flt.chkEnd = some 999999999999 ∧ st10.flt.chkQ = [] ∧ st10.flt.chkDiv = none ∧ st10.flt.chkSrc < 128)
    -- dt = 5, b = 7, k = 2, data = 252645135, src = 20, j = 7, s = st7
    ∧ (Between st7 ∧ 7 < 16 ∧ 2 < 3 ∧ 7 < 32 ∧ paritySources.contains 20 = true ∧ 20 ≠ 31 ∧ 20 ≠ 85 ∧ 20 ≠ 91 ∧ 20 ≠ 92 ∧ st7.flt.chkEnd = none)
    -- dt = 5, b = 7, k = 2, data = 252645135, src = 84, j = 7, s = st8
    ∧ (Between st8 ∧ 7 < 16 ∧ 2 < 3 ∧ 7 < 32 ∧ paritySources.contains 84 = true ∧ 84 ≠ 31 ∧ 84 ≠ 85 ∧ 84 ≠ 91 ∧ 84 ≠ 92 ∧ st8.flt.chkEnd = none) := by
  simp only [Open, HostIdle, Between]
  decide +kernel

end WFlt

namespace WTest

def lk (l : List (Fld × Nat)) (s : State) : State := l.foldl (fun s x => put x.1 x.2 s) s
def T0 : Nat := 1700000000
def run : State := cc { base with now := 123456789, rst := { base.rst with phase := .run }, tkp := { base.tkp with run := true }, tod := T0 * secT + 777, flt := { base.flt with inst := [] } }
def iso (b : Nat) (s : State) : State := modGen (fun g => { g with iso := vset g.iso b .isolated }) s
def all : State := lk [(GEN_MODESTAT_EFFECTIVE, 64), (PMU_TEST_UNIT, 3)] ([5,7,9,10,11,12,13,14].foldl (fun s b => iso b s) run)
def st1 : State := lk [(SYN_TEST_GO, 1), (SYN_TEST_SYN, 2)] all
def st2 : State := lk [(SYN_TEST_GO, 1), (SYN_TEST_SYN, 2), (SYN_SYNk_STAT_STATE 2, 5)] all
def st3 : State := lk [(SYN_TEST_GO, 1), (SYN_TEST_SYN, 2), (SYN_SYNk_STAT_STATE 2, 5), (SYN_SYNk_CFG_EN 2, 1)] all
def st4 : State := lk [(SYN_TEST_GO, 1), (SYN_TEST_SYN, 2), (CRL_TEST_GO, 1)] { all with mns := { all.mns with testEnd := some 99999999999 }, ast := { all.ast with testRun := true }, ptp := { all.ptp with testRun := true }, nvm := { all.nvm with testRun := true }, sch := { all.sch with testEnd := some 99999999999 } }

theorem witness_TestsStartInIsolationAndEnd :
    -- dt = 5, x = 2147483647, cs = 3, cp = 800, n = 300, m = 70000, err = 4194304 + 20972, lock = true, ok = true, bad = none, s = all
    (Between all ∧ 2147483647 < 2 ^ 31 ∧ Open all 7340424 ∧ rd all SYN_TEST_GO = 0 ∧ isolated all 7 = true)
    -- dt = 5, x = 83821824, cs = 3, cp = 800, n = 300, m = 70000, err = 4194304 + 20972, lock = true, ok = true, bad = none, s = all
    ∧ (Between all ∧ 83821824 < 2 ^ 31 ∧ Open all 7340424 ∧ rd all SYN_TEST_GO = 0 ∧ isolated all 7 = true)
    -- dt = 5, x = 2147483647, cs = 3, cp = 800, n = 300, m = 70000, err = 4194304 + 20972, lock = true, ok = true, bad = none, s = all
    ∧ (Between all ∧ 2147483647 < 2 ^ 31 ∧ Open all 9437524 ∧ rd all MNS_TEST_GO = 0 ∧ isolated all 9 = true)
    -- dt = 5, x = 0, cs = 3, cp = 800, n = 300, m = 70000, err = -32769, ok = true, bad = none, s = st4
    ∧ (Between st4 ∧ 0 < 2 ^ 31 ∧ Open st4 9437524 ∧ rd st4 MNS_TEST_GO = 0 ∧ isolated st4 9 = true)
    -- dt = 5, x = 2147483647, cs = 3, cp = 800, n = 300, m = 70000, err = 4194304 + 20972, lock = true, ok = true, bad = none, s = all
    ∧ (Between all ∧ 2147483647 < 2 ^ 31 ∧ Open all 10485808 ∧ rd all AST_TEST_GO = 0 ∧ isolated all 10 = true)
    -- dt = 5, x = 0, cs = 3, cp = 800, n = 300, m = 70000, err = -32769, ok = true, bad = none, s = st4
    ∧ (Between st4 ∧ 0 < 2 ^ 31 ∧ Open st4 10485808 ∧ rd st4 AST_TEST_GO = 0 ∧ isolated st4 10 = true)
    -- dt = 5, x = 2147483647, cs = 3, cp = 800, n = 300, m = 70000, err = 4194304 + 20972, lock = true, ok = true, bad = none, s = all
    ∧ (Between all ∧ 2147483647 < 2 ^ 31 ∧ Open all 11536640 ∧ rd all SCH_TEST_GO = 0 ∧ isolated all 11 = true)
    -- dt = 5, x = 0, cs = 3, cp = 800, n = 300, m = 70000, err = -32769, ok = true, bad = none, s = st4
    ∧ (Between st4 ∧ 0 < 2 ^ 31 ∧ Open st4 11536640 ∧ rd st4 SCH_TEST_GO = 0 ∧ isolated st4 11 = true)
    -- dt = 5, x = 2147483647, cs = 3, cp = 800, n = 300, m = 70000, err = 4194304 + 20972, lock = true, ok = true, bad = none, s = all
    ∧ (Between all ∧ 2147483647 < 2 ^ 31 ∧ Open all 12582976 ∧ rd all PTP_TEST_GO = 0 ∧ isolated all 12 = true)
    -- dt = 5, x = 0, cs = 3, cp = 800, n = 300, m = 70000, err = -32769, ok = true, bad = none, s = st4
    ∧ (Between st4 ∧ 0 < 2 ^ 31 ∧ Open st4 12582976 ∧ rd st4 PTP_TEST_GO = 0 ∧ isolated st4 12 = true)
    -- dt = 5, x = 2147483647, cs = 3, cp = 800, n = 300, m = 70000, err = 4194304 + 20972, lock = true, ok = true, bad = none, s = all
    ∧ (Between all ∧ 2147483647 < 2 ^ 31 ∧ Open all 13631916 ∧ rd all CRL_TEST_GO = 0 ∧ isolated all 13 = true)
    -- dt = 5, x = 83821824, cs = 3, cp = 800, n = 300, m = 70000, err = 4194304 + 20972, lock = true, ok = true, bad = none, s = st3
    ∧ (Between st3 ∧ 83821824 < 2 ^ 31 ∧ Open st3 13631916 ∧ rd st3 CRL_TEST_GO = 0 ∧ isolated st3 13 = true)
    -- dt = 5, x = 2147483647, cs = 3, cp = 800, n = 300, m = 70000, err = 4194304 + 20972, lock = true, ok = true, bad = none, s = all
    ∧ (Between all ∧ 2147483647 < 2 ^ 31 ∧ Open all 14680096 ∧ rd all NVM_TEST_GO = 0 ∧ isolated all 14 = true ∧ marchOk all (2147483647 % 2 ^ 11) (2147483647 / 2 ^ 16 % 2 ^ 11) = true)
    -- dt = 5, x = 83821824, cs = 3, cp = 800, n = 300, m = 70000, err = 4194304 + 20972, lock = true, ok = true, bad = none, s = st3
    ∧ (Between st3 ∧ 83821824 < 2 ^ 31 ∧ Open st3 14680096 ∧ rd st3 NVM_TEST_GO = 0 ∧ isolated st3 14 = true ∧ marchOk st3 (83821824 % 2 ^ 11) (83821824 / 2 ^ 16 % 2 ^ 11) = true)
    -- dt = 5, x = 2147483647, cs = 3, cp = 800, n = 300, m = 70000, err = 4194304 + 20972, lock = true, ok = true, bad = none, s = all
    ∧ (Between all ∧ rd all SYN_TEST_GO = 0)
    -- dt = 5, x = 2147483647, cs = 3, cp = 800, n = 300, m = 70000, err = 4194304 + 20972, lock = true, ok = true, bad = none, s = run
    ∧ (Between run ∧ rd run SYN_TEST_GO = 0)
    -- dt = 5, x = 2147483647, cs = 3, cp = 800, n = 300, m = 70000, err = 4194304 + 20972, lock = true, ok = true, bad = none, s = all
    ∧ (Between all ∧ all.mns.testEnd = none)
    -- dt = 5, x = 2147483647, cs = 3, cp = 800, n = 300, m = 70000, err = 4194304 + 20972, lock = true, ok = true, bad = none, s = st3
    ∧ (Between st3 ∧ st3.mns.testEnd = none)
    -- dt = 5, x = 2147483647, cs = 3, cp = 800, n = 300, m = 70000, err = 4194304 + 20972, lock = true, ok = true, bad = none, s = all
    ∧ (Between all ∧ all.ast.testRun = false)
    -- dt = 5, x = 2147483647, cs = 3, cp = 800, n = 300, m = 70000, err = 4194304 + 20972, lock = true, ok = true, bad = none, s = st3
    ∧ (Between st3 ∧ st3.ast.testRun = false)
    -- dt = 5, x = 2147483647, cs = 3, cp = 800, n = 300, m = 70000, err = 4194304 + 20972, lock = true, ok = true, bad = none, s = all
    ∧ (Between all ∧ all.sch.testEnd = none)
    -- dt = 5, x = 2147483647, cs = 3, cp = 800, n = 300, m = 70000, err = 4194304 + 20972, lock = true, ok = true, bad = none, s = st3
    ∧ (Between st3 ∧ st3.sch.testEnd = none)
    -- dt = 5, x = 2147483647, cs = 3, cp = 800, n = 300, m = 70000, err = 4194304 + 20972, lock = true, ok = true, bad = none, s = all
    ∧ (Between all ∧ all.ptp.testRun = false)
    -- dt = 5, x = 2147483647, cs = 3, cp = 800, n = 300, m = 70000, err = 4194304 + 20972, lock = true, ok = true, bad = none, s = st3
    ∧ (Between st3 ∧ st3.ptp.testRun = false)
    -- dt = 5, x = 2147483647, cs = 3, cp = 800, n = 300, m = 70000, err = 4194304 + 20972, lock = true, ok = true, bad = none, s = all
    ∧ (Between all ∧ rd all CRL_TEST_GO = 0)
    -- dt = 5, x = 2147483647, cs = 3, cp = 800, n = 300, m = 70000, err = 4194304 + 20972, lock = true, ok = true, bad = none, s = st3
    ∧ (Between st3 ∧ rd st3 CRL_TEST_GO = 0)
    -- dt = 5, x = 2147483647, cs = 3, cp = 800, n = 300, m = 70000, err = 4194304 + 20972, lock = true, ok = true, bad = none, s = all
    ∧ (Between all ∧ all.nvm.testRun = false)
    -- dt = 5, x = 2147483647, cs = 3, cp = 800, n = 300, m = 70000, err = 4194304 + 20972, lock = true, ok = true, bad = none, s = st3
    ∧ (Between st3 ∧ st3.nvm.testRun = false)
    -- dt = 5, x = 2147483647, cs = 3, cp = 800, n = 300, m = 70000, err = 4194304 + 20972, lock = true, ok = true, bad = none, s = run
    ∧ (Between run ∧ 2147483647 < 2 ^ 31 ∧ Open run 7340424 ∧ rd run SYN_TEST_GO = 0 ∧ isolated run 7 = false)
    -- dt = 5, x = 83821824, cs = 3, cp = 800, n = 300, m = 70000, err = 4194304 + 20972, lock = true, ok = true, bad = none, s = run
    ∧ (Between run ∧ 83821824 < 2 ^ 31 ∧ Open run 7340424 ∧ rd run SYN_TEST_GO = 0 ∧ isolated run 7 = false)
    -- dt = 5, x = 2147483647, cs = 3, cp = 800, n = 300, m = 70000, err = 4194304 + 20972, lock = true, ok = true, bad = none, s = run
    ∧ (Between run ∧ 2147483647 < 2 ^ 31 ∧ Open run 9437524 ∧ rd run MNS_TEST_GO = 0 ∧ isolated run 9 = false)
    -- dt = 5, x = 83821824, cs = 3, cp = 800, n = 300, m = 70000, err = 4194304 + 20972, lock = true, ok = true, bad = none, s = run
    ∧ (Between run ∧ 83821824 < 2 ^ 31 ∧ Open run 9437524 ∧ rd run MNS_TEST_GO = 0 ∧ isolated run 9 = false)
    -- dt = 5, x = 2147483647, cs = 3, cp = 800, n = 300, m = 70000, err = 4194304 + 20972, lock = true, ok = true, bad = none, s = run
    ∧ (Between run ∧ 2147483647 < 2 ^ 31 ∧ Open run 10485808 ∧ rd run AST_TEST_GO = 0 ∧ isolated run 10 = false)
    -- dt = 5, x = 83821824, cs = 3, cp = 800, n = 300, m = 70000, err = 4194304 + 20972, lock = true, ok = true, bad = none, s = run
    ∧ (Between run ∧ 83821824 < 2 ^ 31 ∧ Open run 10485808 ∧ rd run AST_TEST_GO = 0 ∧ isolated run 10 = false)
    -- dt = 5, x = 2147483647, cs = 3, cp = 800, n = 300, m = 70000, err = 4194304 + 20972, lock = true, ok = true, bad = none, s = run
    ∧ (Between run ∧ 2147483647 < 2 ^ 31 ∧ Open run 11536640 ∧ rd run SCH_TEST_GO = 0 ∧ isolated run 11 = false)
    -- dt = 5, x = 83821824, cs = 3, cp = 800, n = 300, m = 70000, err = 4194304 + 20972, lock = true, ok = true, bad = none, s = run
    ∧ (Between run ∧ 83821824 < 2 ^ 31 ∧ Open run 11536640 ∧ rd run SCH_TEST_GO = 0 ∧ isolated run 11 = false)
    -- dt = 5, x = 2147483647, cs = 3, cp = 800, n = 300, m = 70000, err = 4194304 + 20972, lock = true, ok = true, bad = none, s = run
    ∧ (Between run ∧ 2147483647 < 2 ^ 31 ∧ Open run 12582976 ∧ rd run PTP_TEST_GO = 0 ∧ isolated run 12 = false)
    -- dt = 5, x = 83821824, cs = 3, cp = 800, n = 300, m = 70000, err = 4194304 + 20972, lock = true, ok = true, bad = none, s = run
    ∧ (Between run ∧ 83821824 < 2 ^ 31 ∧ Open run 12582976 ∧ rd run PTP_TEST_GO = 0 ∧ isolated run 12 = false)
    -- dt = 5, x = 2147483647, cs = 3, cp = 800, n = 300, m = 70000, err = 4194304 + 20972, lock = true, ok = true, bad = none, s = run
    ∧ (Between run ∧ 2147483647 < 2 ^ 31 ∧ Open run 13631916 ∧ rd run CRL_TEST_GO = 0 ∧ isolated run 13 = false)
    -- dt = 5, x = 83821824, cs = 3, cp = 800, n = 300, m = 70000, err = 4194304 + 20972, lock = true, ok = true, bad = none, s = run
    ∧ (Between run ∧ 83821824 < 2 ^ 31 ∧ Open run 13631916 ∧ rd run CRL_TEST_GO = 0 ∧ isolated run 13 = false)
    -- dt = 5, x = 2147483647, cs = 3, cp = 800, n = 300, m = 70000, err = 4194304 + 20972, lock = true, ok = true, bad = none, s = run
    ∧ (Between run ∧ 2147483647 < 2 ^ 31 ∧ Open run 14680096 ∧ rd run NVM_TEST_GO = 0 ∧ isolated run 14 = false)
    -- dt = 5, x = 83821824, cs = 3, cp = 800, n = 300, m = 70000, err = 4194304 + 20972, lock = true, ok = true, bad = none, s = run
    ∧ (Between run ∧ 83821824 < 2 ^ 31 ∧ Open run 14680096 ∧ rd run NVM_TEST_GO = 0 ∧ isolated run 14 = false)
    -- dt = 5, x = 2147483647, cs = 3, cp = 800, n = 300, m = 70000, err = 4194304 + 20972, lock = true, ok = true, bad = none, s = run
    ∧ (Between run ∧ 2147483647 < 2 ^ 31 ∧ Open run 5244432 ∧ rd run PMU_TEST_GO = 0 ∧ isolated run 5 = false)
    -- dt = 5, x = 83821824, cs = 3, cp = 800, n = 300, m = 70000, err = 4194304 + 20972, lock = true, ok = true, bad = none, s = run
    ∧ (Between run ∧ 83821824 < 2 ^ 31 ∧ Open run 5244432 ∧ rd run PMU_TEST_GO = 0 ∧ isolated run 5 = false)
    -- dt = 5, x = 2147483647, cs = 3, cp = 800, n = 300, m = 70000, err = 4194304 + 20972, lock = true, ok = true, bad = none, s = st1
    ∧ (Between st1 ∧ rd st1 SYN_TEST_GO = 1 ∧ rd st1 SYN_TEST_SYN < 4 ∧ rd st1 (SYN_SYNk_STAT_STATE (rd st1 SYN_TEST_SYN)) ≠ 5)
    -- dt = 5, x = 0, cs = 3, cp = 800, n = 300, m = 70000, err = -32769, ok = true, bad = none, s = st4
    ∧ (Between st4 ∧ rd st4 SYN_TEST_GO = 1 ∧ rd st4 SYN_TEST_SYN < 4 ∧ rd st4 (SYN_SYNk_STAT_STATE (rd st4 SYN_TEST_SYN)) ≠ 5)
    -- dt = 5, x = 2147483647, cs = 3, cp = 800, n = 300, m = 70000, err = 4194304 + 20972, lock = true, ok = true, bad = none, s = st2
    ∧ (Between st2 ∧ rd st2 SYN_TEST_GO = 1 ∧ rd st2 SYN_TEST_SYN < 4 ∧ rd st2 (SYN_SYNk_STAT_STATE (rd st2 SYN_TEST_SYN)) = 5 ∧ rd st2 (SYN_SYNk_CFG_EN (rd st2 SYN_TEST_SYN)) = 0)
    -- dt = 5, x = 2147483647, cs = 3, cp = 800, n = 300, m = 70000, err = 4194304 + 20972, lock = true, ok = true, bad = none, s = st3
    ∧ (Between st3 ∧ rd st3 SYN_TEST_GO = 1 ∧ rd st3 SYN_TEST_SYN < 4 ∧ rd st3 (SYN_SYNk_STAT_STATE (rd st3 SYN_TEST_SYN)) = 5 ∧ rd st3 (SYN_SYNk_CFG_EN (rd st3 SYN_TEST_SYN)) = 1 ∧ true = true)
    -- dt = 5, x = 2147483647, cs = 3, cp = 800, n = 300, m = 70000, err = 4194304 + 20972, lock = false, ok = true, bad = none, s = st3
    ∧ (Between st3 ∧ rd st3 SYN_TEST_GO = 1 ∧ rd st3 SYN_TEST_SYN < 4 ∧ rd st3 (SYN_SYNk_STAT_STATE (rd st3 SYN_TEST_SYN)) = 5 ∧ rd st3 (SYN_SYNk_CFG_EN (rd st3 SYN_TEST_SYN)) = 1 ∧ false = false)
    -- dt = 5, x = 33554555, cs = 3, cp = 800, n = 300, m = 70000, err = 4194304 + 20972, lock = true, ok = true, bad = none, s = all
    ∧ (Between all ∧ 33554555 < 2 ^ 31 ∧ Open all 5244432 ∧ rd all PMU_TEST_GO = 0 ∧ isolated all 5 = true ∧ 33554555 < 2 ^ 28)
    -- dt = 5, x = 0, cs = 3, cp = 800, n = 300, m = 70000, err = -32769, ok = true, bad = none, s = st4
    ∧ (Between st4 ∧ 0 < 2 ^ 31 ∧ Open st4 5244432 ∧ rd st4 PMU_TEST_GO = 0 ∧ isolated st4 5 = true ∧ 0 < 2 ^ 28)
    -- dt = 5, x = 0, cs = 3, cp = 800, n = 300, m = 70000, err = -32769, ok = true, bad = none, s = st4, e = 99999999999
    ∧ (Between st4 ∧ st4.mns.testEnd = some 99999999999)
    -- dt = 5, x = 0, cs = 3, cp = 800, n = 300, m = 70000, err = -32769, ok = true, bad = none, s = st4
    ∧ (Between st4 ∧ st4.ast.testRun = true)
    ∧ (Between st4 ∧ st4.ptp.testRun = true)
    ∧ (Between st4 ∧ rd st4 CRL_TEST_GO = 1)
    ∧ (Between st4 ∧ st4.nvm.testRun = true)
    -- dt = 5, x = 0, cs = 3, cp = 800, n = 300, m = 70000, err = -500, ok = true, bad = none, s = st4, e = 99999999999
    ∧ (Between st4 ∧ st4.sch.testEnd = some 99999999999 ∧ -32768 ≤ -500 ∧ -500 ≤ 32767) := by
  simp only [Open, HostIdle, Between]
  decide +kernel

end WTest

/-- a step from a state with a command waiting, as FusesOnlyEverSet asks for it -/
theorem witness_FusesOnlyEverSet : ∃ t, step { base with pending := [.minuteSample, .pps] } = .next t := ⟨_, rfl⟩


/-- the same from a state that keeps the invariant, with a byte in the MRAM -/
def kept : State := { base with pending := [.minuteSample, .pps], mram := [(5, 1)] }
theorem witness_InvariantKept : Inv kept ∧ ∃ t, step kept = .next t := ⟨by simp only [Safety.Inv, Between]; decide +kernel, _, rfl⟩
end Sys2Proof.Tests
end

/-! Host reads (O8): what a plain 4-byte read comes to while nothing waits before it, the fields that a read shows as they
are stored, clearing on read, the hold of R507 and the statistics hold of R157. -/

namespace Sys2Proof.Machine
open Sys2Proof.Reg Sys2Proof.Safety

/-! ### The record of the core cycle -/

/-- in a later core cycle the record begins anew: the fields as they stand, nothing set or counted -/
theorem cyc_pass_later {dt : Nat} {s : State} (h : cycleOf s.now < cycleOf (s.now + dt)) :
    (pass dt s).cyc = { regs := s.regs, cram := s.cram } := by
  have hn : ¬ s.now + dt ≤ s.now := by
    intro hle
    rw [show dt = 0 by omega] at h
    exact absurd h (by simp)
  have hc : cycleOf (s.now + dt) ≠ cycleOf s.now := by omega
  unfold pass advanceTo
  rw [if_neg hn]
  split <;> simp [cycleAt, hc]

/-- within the core cycle the record stays -/
theorem cyc_pass_same {dt : Nat} {s : State} (h : cycleOf (s.now + dt) = cycleOf s.now) : (pass dt s).cyc = s.cyc := by
  unfold pass advanceTo
  repeat' split
  all_goals simp [cycleAt, h]

theorem cycWas_pass_later {dt : Nat} {s : State} (h : cycleOf s.now < cycleOf (s.now + dt)) (f : Fld) : cycWas (pass dt s) f = rd s f := by
  simp [cycWas, rd, cyc_pass_later h]

theorem cycSet_pass_later {dt : Nat} {s : State} (h : cycleOf s.now < cycleOf (s.now + dt)) (f : Fld) : cycSet (pass dt s) f = 0 := by
  simp [cycSet, cyc_pass_later h, tabGet]

theorem cycWas_pass_same {dt : Nat} {s : State} (h : cycleOf (s.now + dt) = cycleOf s.now) (f : Fld) : cycWas (pass dt s) f = cycWas s f := by
  simp [cycWas, cyc_pass_same h]

theorem cycSet_pass_same {dt : Nat} {s : State} (h : cycleOf (s.now + dt) = cycleOf s.now) (f : Fld) : cycSet (pass dt s) f = cycSet s f := by
  simp [cycSet, cyc_pass_same h]

@[simp] theorem cycWas_issued (a dt : Nat) (s : State) (f : Fld) : cycWas (Issued a dt s) f = cycWas (pass dt s) f := (rfl)
@[simp] theorem cycSet_issued (a dt : Nat) (s : State) (f : Fld) : cycSet (Issued a dt s) f = cycSet (pass dt s) f := (rfl)

/-- a field put leaves the marks of the others -/
theorem cycSet_put_ne {f g : Fld} (v : Nat) (s : State) (h : fldKey f ≠ fldKey g) : cycSet (put f v s) g = cycSet s g := by
  unfold cycSet
  rw [put_cyc]
  split
  · exact tabGet_tabPut_ne s.cyc.set 1 0 0 h
  · rfl

/-! ### A read of a whole word -/

/-- an aligned access begins with its address and core cycle kept, and nothing reported (R494, R504) -/
theorem beginAccess_aligned {a n : Nat} (h : a % n = 0) (s : State) :
    beginAccess a n s = modHost (fun h => { h with cur := a % 2 ^ 24, curAt := cycleNow s + 1 }) s := by
  unfold beginAccess
  exact if_pos h

/-- a register other than SEC.RNG is shown and the read has its effects -/
theorem readWord_row {addr : Nat} (hr : (rowAt addr).isSome = true) (hb : addr ≠ 0xF00028) (be : Nat) (plain : Bool) (s : State) :
    readWord addr be plain s = (shownWord s addr, readEffect addr be plain s) := by
  unfold readWord
  rw [if_neg (by cases h : rowAt addr <;> simp_all), if_neg hb]

/-- the address of a register that a plain 4-byte read reaches, SEC.RNG apart -/
abbrev PlainWord (addr : Nat) : Prop :=
  addr % 4 = 0 ∧ addr < 2 ^ 24 ∧ wordAddr addr = addr ∧ aliasOf addr = 0 ∧ (rowAt addr).isSome = true ∧ addr ≠ 0xF00028

/-- a plain 4-byte read while no reset sequence runs (R502) -/
theorem hostRead_word {s : State} {addr : Nat} (hs : inSequence s = false) (h : PlainWord addr) :
    hostRead addr 4 s =
      (shownWord (modHost (fun h => { h with cur := addr, curAt := cycleNow s + 1 }) s) addr % 2 ^ 32,
        readEffect addr 15 true (modHost (fun h => { h with cur := addr, curAt := cycleNow s + 1 }) s)) := by
  obtain ⟨h4, h24, hw, ha, hr, hb⟩ := h
  have hn : accSize 4 = 4 := rfl
  have he : enables 4 0 = 15 := rfl
  simp only [hostRead, hs, Bool.false_eq_true, if_false, hn, beginAccess_aligned h4, h4, Nat.sub_zero, hw, ha, he, readWord_row hr hb,
    Nat.mul_zero, Nat.pow_zero, Nat.div_one, beq_self_eq_true, Nat.mod_eq_of_lt h24]

/-- a plain 4-byte read while nothing waits (R502, R506) -/
theorem readOne_word {s : State} {addr : Nat} (h : HostIdle s) (dt : Nat) (ha : PlainWord addr) :
    readOne addr 4 (pass dt s) =
      putRead 4 [shownWord (Issued addr dt s) addr % 2 ^ 32] (readEffect addr 15 true (Issued addr dt s)) := by
  have hs : inSequence (pass dt s) = false := by rw [inSequence_pass, inSequence_run h.1]
  have hi : inSequence (inOrder (pass dt s)) = false := by rw [inOrder_idle (hostIdle_pass.2 h)]; exact hs
  unfold readOne
  rw [if_neg (by simp [hs]), hostRead_word hi ha, inOrder_idle (hostIdle_pass.2 h)]
  rfl

/-! ### What a read leaves as it was -/

/-- u stands between commands dt after s, with the stores of s and the same commands waiting -/
structure Later (dt : Nat) (s u : State) : Prop where
  between : Between u
  pending : u.pending = s.pending
  mram : u.mram = s.mram
  cram : u.cram = s.cram
  otp : u.otp = s.otp
  now : u.now = s.now + dt

theorem later_issued {s : State} (h : Between s) (addr dt : Nat) : Later dt s (Issued addr dt s) where
  between := between_issued h
  pending := issued_pending addr dt s
  mram := issued_mram addr dt s
  cram := issued_cram addr dt s
  otp := issued_otp addr dt s
  now := issued_now addr dt s

namespace Later
variable {dt : Nat} {s u : State}

theorem modHost (h : Later dt s u) (f : HostS → HostS) : Later dt s (modHost f u) :=
  ⟨h.between, h.pending, h.mram, h.cram, h.otp, h.now⟩

theorem put (h : Later dt s u) (f : Fld) (v : Nat) : Later dt s (put f v u) :=
  ⟨h.between, h.pending, h.mram, h.cram, h.otp, h.now⟩

theorem loadStats (h : Later dt s u) (g : Nat) : Later dt s (loadStats g u) :=
  ⟨h.between, h.pending, h.mram, h.cram, h.otp, h.now⟩

theorem storesSame (h : Later dt s u) : StoresSame s u :=
  ⟨fun a => by rw [h.mram], fun i => by unfold Machine.cram; rw [h.cram], h.otp⟩

end Later

@[simp] theorem putRead_rdata (n : Nat) (v : List Nat) (s : State) : (putRead n v s).host.rdata = v := (rfl)

/-- a command that is one read while nothing waits ends with the word it shows kept and the effects of the read done -/
theorem completes_readOne {c : Instr} {dt addr : Nat} {s u : State} {P : State → Prop} (hc : exec c s = done s (readOne addr 4 (pass dt s)))
    (hi : HostIdle s) (ha : PlainWord addr) (hu : readEffect addr 15 true (Issued addr dt s) = u) (hl : Later dt s u)
    (hP : P (putRead 4 [shownWord (Issued addr dt s) addr % 2 ^ 32] u)) : Completes c s P := by
  have hl' := hl.modHost (fun h => { h with rdata := [shownWord (Issued addr dt s) addr % 2 ^ 32], rsize := 4 })
  refine ⟨_, ?_, hP⟩
  rw [hc, readOne_word hi dt ha, hu]
  exact done_self hl'.between hl'.pending hl'.mram hl'.otp

/-! ### Fields that a read shows as they are stored -/

/-- the register at addr has no window: its fields are stored where they stand -/
abbrev Windowless (addr : Nat) : Prop := isPartnerReg addr = false ∧ addr ≠ 0xC00114 ∧ addr ≠ 0xB00704 ∧ cramOf addr = none

theorem stored_eq_rd {f : Fld} (h : Windowless f.addr) (s : State) : stored s f = rd s f := by
  obtain ⟨hp, hv, hm, hc⟩ := h
  simp [stored, hp, hv, hm, hc]

theorem store_eq_put {f : Fld} (h : Windowless f.addr) (v : Nat) (s : State) : store f v s = put f v s := by
  obtain ⟨hp, hv, hm, hc⟩ := h
  simp [store, hp, hv, hm, hc]

/-- the solar results are fields of AST -/
theorem resultFields_ast : ∀ f ∈ resultFields, blockOf f.addr = 10 := by decide +kernel

/-- where the block computes nothing, a field of GEN, PMU or SEL that is no counter with new counts and no gate result shows what is stored -/
theorem shown_eq_stored {f : Fld} {s : State}
    (hb : (blockOf f.addr = 0 ∧ genShown s (f.addr % 2 ^ 20) f.lo = none) ∨ (blockOf f.addr = 5 ∧ pmuShown s (f.addr % 2 ^ 20) f.lo = none)
      ∨ (blockOf f.addr = 6 ∧ selShown s (f.addr % 2 ^ 20) f.lo = none))
    (hc : isCounter f = true → cycSet s f = 0) (hg : isGateHold f = false) : shown s f = stored s f := by
  have hr : resultFields.contains f = false := by
    rw [List.contains_eq_mem, decide_eq_false_iff_not]
    intro hm
    have := resultFields_ast f hm
    omega
  have hn : (if isCounter f then stored s f - cycSet s f else if isGateHold f || isSolarHold s f then cycWas s f else stored s f) = stored s f := by
    simp only [isSolarHold, hg, hr, Bool.and_false, Bool.or_false, Bool.false_eq_true, if_false]
    split
    · rename_i h; rw [hc h, Nat.sub_zero]
    · rfl
  unfold shown
  rcases hb with ⟨hb, h⟩ | ⟨hb, h⟩ | ⟨hb, h⟩ <;> simp only [hb, h, hn]

/-! ### Clearing on read (R6, R512) -/

/-- clearing the low w bits leaves nothing of a field of w bits -/
theorem clrMask_mod_or (x c w : Nat) : (clrMask x (2 ^ w - 1) ||| c) % 2 ^ w = c % 2 ^ w := by
  apply Nat.eq_of_testBit_eq
  intro i
  simp only [clrMask, Nat.testBit_mod_two_pow, Nat.testBit_or, Nat.testBit_xor, Nat.testBit_and, Nat.testBit_two_pow_sub_one]
  by_cases h : i < w <;> simp [h]

theorem clrMask_le (x m : Nat) : clrMask x m ≤ x := by
  have h : clrMask x m = x &&& clrMask x m := by
    apply Nat.eq_of_testBit_eq
    intro i
    simp only [clrMask, Nat.testBit_and, Nat.testBit_xor]
    cases x.testBit i <;> simp
  rw [h]
  exact Nat.and_le_left

/-- a clearing read of all bytes leaves of a field that is no counter what was set in the core cycle -/
theorem clearedField_mod {f : Fld} (s : State) (hc : isCounter f = false) (hm : bitsOf (beMask 15) f.hi f.lo = 2 ^ fldWidth f - 1) :
    clearedField s f 15 % 2 ^ fldWidth f = cycSet s f % 2 ^ fldWidth f := by
  have h0 : bitsOf 0 f.hi f.lo = 0 := by simp [bitsOf]
  simp only [clearedField, hc, Bool.false_eq_true, if_false, mergeField, h0, hm, Nat.zero_and, Nat.or_zero, clrMask_mod_or]

/-- a read that finds no RC field clears nothing -/
theorem clearRead_noRC {addr : Nat} (h : ∀ p ∈ fieldsAt addr, p.2 ≠ 2) (be : Nat) (s : State) : clearRead addr be s = s := by
  unfold clearRead
  generalize fieldsAt addr = l at h
  induction l with
  | nil => rfl
  | cons p r ih =>
    rw [forEach_cons, if_neg (h p (by simp))]
    exact ih (fun q hq => h q (by simp [hq]))

/-- the field f as a clearing read of all bytes leaves it -/
def clearField (f : Fld) (s : State) : State := put f (clearedField s f 15) s

/-- a read that finds the RC fields l clears them -/
theorem clearRead_RC {addr : Nat} {l : List Fld} (hf : fieldsAt addr = l.map (fun f => (f, 2))) (hw : ∀ f ∈ l, Windowless f.addr) (s : State) :
    clearRead addr 15 s = forEach l clearField s := by
  unfold clearRead
  rw [hf]
  clear hf
  induction l generalizing s with
  | nil => rfl
  | cons a r ih =>
    rw [List.map_cons, forEach_cons, forEach_cons, ih (fun f h => hw f (List.mem_cons_of_mem a h)), if_pos rfl,
      store_eq_put (hw a List.mem_cons_self)]
    rfl

/-- the fields whose keys are not listed read as before a clearing read of l -/
theorem rd_clearFields_ne (l : List Fld) (s : State) : RegsBut l s (forEach l clearField s) := by
  induction l generalizing s with
  | nil => exact fun f _ => rfl
  | cons a r ih =>
    intro f hf
    simp only [List.map_cons, List.mem_cons, not_or] at hf
    rw [forEach_cons, ih _ f hf.2]
    exact rd_put_ne _ s (Ne.symm hf.1)

/-- after a clearing read of all bytes of l a field of l reads what was set in it in the core cycle -/
theorem rd_clearFields (l : List Fld) (s : State) (hd : (l.map fldKey).Nodup)
    (hl : ∀ f ∈ l, isCounter f = false ∧ bitsOf (beMask 15) f.hi f.lo = 2 ^ fldWidth f - 1) :
    ∀ f ∈ l, rd (forEach l clearField s) f = cycSet s f % 2 ^ fldWidth f := by
  induction l generalizing s with
  | nil => simp
  | cons a r ih =>
    rw [List.map_cons, List.nodup_cons] at hd
    intro f hf
    rw [forEach_cons]
    rcases List.mem_cons.1 hf with rfl | hr
    · obtain ⟨hc, hm⟩ := hl f hf
      rw [rd_clearFields_ne r _ f hd.1, clearField, rd_put_same, clearedField_mod s hc hm]
    · have hne : fldKey a ≠ fldKey f := fun e => hd.1 (e ▸ List.mem_map_of_mem hr)
      rw [ih _ hd.2 (fun g hg => hl g (List.mem_cons_of_mem a hg)) f hr, clearField, cycSet_put_ne _ _ hne]

theorem Later.clearFields {dt : Nat} {s u : State} (h : Later dt s u) (l : List Fld) : Later dt s (forEach l clearField u) := by
  induction l generalizing u with
  | nil => exact h
  | cons a r ih => exact ih (h.put a _)

/-! ### GEN.HAF -/

/-- the fields of GEN.HAF -/
def hafFields : List Fld := [GEN_HAF_VALID, GEN_HAF_MORE, GEN_HAF_CAUSE, GEN_HAF_ADDR]

theorem fieldsAt_haf : fieldsAt 0x20 = hafFields.map (fun f => (f, 2)) := by decide

theorem plainWord_haf : PlainWord 0x20 := by decide

theorem windowless_haf : ∀ f ∈ hafFields, Windowless f.addr := by decide

theorem shown_haf (s : State) : ∀ f ∈ hafFields, shown s f = rd s f := by
  intro f hf
  have ha : f.addr = 0x20 := by revert f; decide
  have hc : isCounter f = false := by revert f; decide
  rw [← stored_eq_rd (windowless_haf f hf)]
  exact shown_eq_stored (.inl ⟨by rw [ha]; rfl, by rw [ha]; rfl⟩) (by simp [hc]) (by simp [isGateHold, ha])

/-- a field of HAF as a read shows it: the bits set in the core cycle read as before (R526) -/
theorem shownAs_haf (s : State) {f : Fld} (hf : f ∈ hafFields) : shownAs s f 2 = clrMask (rd s f) (cycNew s f) := by
  have hc : isCounter f = false := by revert f; decide
  simp [shownAs, hc, shown_haf s f hf]

/-- the word of HAF -/
theorem shownWord_haf (s : State) : shownWord s 0x20 =
    clrMask (rd s GEN_HAF_VALID) (cycNew s GEN_HAF_VALID) * 2 ^ 31 + clrMask (rd s GEN_HAF_MORE) (cycNew s GEN_HAF_MORE) * 2 ^ 28
      + clrMask (rd s GEN_HAF_CAUSE) (cycNew s GEN_HAF_CAUSE) * 2 ^ 24 + clrMask (rd s GEN_HAF_ADDR) (cycNew s GEN_HAF_ADDR) := by
  have hl : isWideLow 0x20 = false := by decide
  have hh : isWideHigh 0x20 = false := by decide
  have hz : readsZero s 0x20 = false := rfl
  have hw : shownWord s 0x20 = liveWord s 0x20 := by simp [shownWord, hl, hh, blockOf]
  rw [hw, ← shownAs_haf s (show GEN_HAF_VALID ∈ hafFields by decide), ← shownAs_haf s (show GEN_HAF_MORE ∈ hafFields by decide),
    ← shownAs_haf s (show GEN_HAF_CAUSE ∈ hafFields by decide), ← shownAs_haf s (show GEN_HAF_ADDR ∈ hafFields by decide)]
  simp [liveWord, hz, fieldsAt_haf, hafFields, GEN_HAF_VALID, GEN_HAF_MORE, GEN_HAF_CAUSE, GEN_HAF_ADDR]

/-- a read of HAF clears its fields -/
theorem readEffect_haf (s : State) : readEffect 0x20 15 true s = forEach hafFields clearField s := by
  have hh : isWideHigh 0x20 = false := by decide
  have hz : readsZero s 0x20 = false := rfl
  simp [readEffect, hh, hz, blockOf, clearRead_RC fieldsAt_haf windowless_haf]

/-- after a read of HAF each of its fields reads what was set in the core cycle -/
theorem rd_hafCleared (s : State) : ∀ f ∈ hafFields, rd (forEach hafFields clearField s) f = cycSet s f % 2 ^ fldWidth f :=
  rd_clearFields hafFields s (by decide) (by decide)

/-- a read of HAF in a core cycle in which nothing was set before returns its word and clears it (R6) -/
theorem completes_readHaf_later {dt : Nat} {s : State} (hb : Between s) (hi : HostIdle s) (hc : cycleOf s.now < cycleOf (s.now + dt)) :
    Completes (.readClear dt 0x20 4) s (fun t =>
      (t.host.rdata = [(rd s GEN_HAF_VALID * 2 ^ 31 + rd s GEN_HAF_MORE * 2 ^ 28 + rd s GEN_HAF_CAUSE * 2 ^ 24 + rd s GEN_HAF_ADDR) % 2 ^ 32]
        ∧ t.host.rsize = 4 ∧ t.now = s.now + dt ∧ StoresSame s t)
      ∧ rd t GEN_HAF_VALID = 0 ∧ rd t GEN_HAF_MORE = 0 ∧ rd t GEN_HAF_CAUSE = 0 ∧ rd t GEN_HAF_ADDR = 0
      ∧ RegsBut [GEN_HAF_VALID, GEN_HAF_MORE, GEN_HAF_CAUSE, GEN_HAF_ADDR] s t) := by
  have hl := (later_issued hb 0x20 dt).clearFields hafFields
  have h0 : ∀ f ∈ hafFields, rd (forEach hafFields clearField (Issued 0x20 dt s)) f = 0 := by
    intro f hf
    rw [rd_hafCleared _ f hf, cycSet_issued, cycSet_pass_later hc, Nat.zero_mod]
  have hw : shownWord (Issued 0x20 dt s) 0x20 =
      rd s GEN_HAF_VALID * 2 ^ 31 + rd s GEN_HAF_MORE * 2 ^ 28 + rd s GEN_HAF_CAUSE * 2 ^ 24 + rd s GEN_HAF_ADDR := by
    simp [shownWord_haf, cycNew, cycSet_pass_later hc, clrMask]
  have hr : RegsBut hafFields s (forEach hafFields clearField (Issued 0x20 dt s)) := fun f hf =>
    (rd_clearFields_ne hafFields _ f hf).trans (rd_issued 0x20 dt s f)
  refine completes_readOne rfl hi plainWord_haf (readEffect_haf _) hl ⟨⟨by rw [hw, putRead_rdata], rfl, hl.now, hl.storesSame⟩, ?_, ?_, ?_, ?_, hr⟩
  all_goals exact h0 _ (by decide)

/-- where VALID was set in the core cycle of the read, the read returns it 0 and leaves it 1 (R512, R526) -/
theorem completes_readHaf_same {dt : Nat} {s : State} (hb : Between s) (hi : HostIdle s) (hc : cycleOf (s.now + dt) = cycleOf s.now)
    (hv : rd s GEN_HAF_VALID = 1) (hset : cycSet s GEN_HAF_VALID = 1) (hwas : cycWas s GEN_HAF_VALID = 0)
    (hm : rd s GEN_HAF_MORE < 8) (hcause : rd s GEN_HAF_CAUSE < 16) (ha : rd s GEN_HAF_ADDR < 2 ^ 24) :
    Completes (.readClear dt 0x20 4) s (fun t =>
      rd t GEN_HAF_VALID = 1 ∧ t.host.rdata.length = 1 ∧ (t.host.rdata.headD 0).testBit 31 = false) := by
  have hl := (later_issued hb 0x20 dt).clearFields hafFields
  have h1 : rd (forEach hafFields clearField (Issued 0x20 dt s)) GEN_HAF_VALID = 1 := by
    rw [rd_hafCleared _ _ (by decide), cycSet_issued, cycSet_pass_same hc, hset]
    rfl
  have hn : clrMask (rd (Issued 0x20 dt s) GEN_HAF_VALID) (cycNew (Issued 0x20 dt s) GEN_HAF_VALID) = 0 := by
    rw [rd_issued, cycNew, cycSet_issued, cycSet_pass_same hc, cycWas_issued, cycWas_pass_same hc, hv, hset, hwas]
    rfl
  have hw : shownWord (Issued 0x20 dt s) 0x20 < 2 ^ 31 := by
    have h2 := clrMask_le (rd (Issued 0x20 dt s) GEN_HAF_MORE) (cycNew (Issued 0x20 dt s) GEN_HAF_MORE)
    have h3 := clrMask_le (rd (Issued 0x20 dt s) GEN_HAF_CAUSE) (cycNew (Issued 0x20 dt s) GEN_HAF_CAUSE)
    have h4 := clrMask_le (rd (Issued 0x20 dt s) GEN_HAF_ADDR) (cycNew (Issued 0x20 dt s) GEN_HAF_ADDR)
    rw [rd_issued] at h2 h3 h4
    rw [shownWord_haf, hn]
    simp only [rd_issued]
    omega
  refine completes_readOne rfl hi plainWord_haf (readEffect_haf _) hl ⟨h1, rfl, ?_⟩
  rw [putRead_rdata, List.headD_cons]
  exact Nat.testBit_lt_two_pow (lt_of_le_of_lt (Nat.mod_le _ _) hw)

/-! ### The words of a DPLL (R507) -/

/-- a register of one field that hardware updates is held as the core cycle began (R526) -/
theorem heldWord_single {s : State} {addr : Nat} {f : Fld} (hf : fieldsAt addr = [(f, 0)]) (hlo : f.lo = 0) (hz : readsZero s addr = false)
    (hs : shown s f = rd s f) : heldWord s addr = cycWas s f := by
  simp [heldWord, hf, hlo, hz, hs]

/-- a SEL register shows its fields -/
theorem readsZero_sel {addr : Nat} (hb : blockOf addr = 6) (hp : isPartnerReg addr = false) (s : State) : readsZero s addr = false := by
  simp [readsZero, hb, hp]

/-- SEL computes nothing outside the estimates, the interrupt words and the drift age (R175, R180, R203) -/
theorem selShown_none {o : Nat} (h : o ≠ 0x208 ∧ o ≠ 0x20C ∧ o ≠ 0x210 ∧ o ≠ 0x804 ∧ o % 128 ≠ 0x7C) (s : State) (lo : Nat) :
    selShown s o lo = none := by
  obtain ⟨h1, h2, h3, h4, h5⟩ := h
  simp [selShown, h1, h2, h3, h4, h5]

/-- the word at addr of SEL is the one RO field f, stored where it stands -/
abbrev SelWord (addr : Nat) (f : Fld) : Prop :=
  PlainWord addr ∧ blockOf addr = 6 ∧ Windowless addr ∧ fieldsAt addr = [(f, 0)] ∧ f.addr = addr ∧ f.lo = 0 ∧ isCounter f = false
    ∧ addr % 2 ^ 20 ≠ 0x208 ∧ addr % 2 ^ 20 ≠ 0x20C ∧ addr % 2 ^ 20 ≠ 0x210 ∧ addr % 2 ^ 20 ≠ 0x804 ∧ addr % 2 ^ 20 % 128 ≠ 0x7C

theorem selWord_freqLo : ∀ d < 8, SelWord (0x600444 + 128 * d) (SEL_DPLLd_FREQ_LO_W d) := by decide
theorem selWord_freqHi : ∀ d < 8, SelWord (0x600448 + 128 * d) (SEL_DPLLd_FREQ_HI_W d) := by decide

theorem shown_selWord {addr : Nat} {f : Fld} (h : SelWord addr f) (s : State) : shown s f = rd s f := by
  obtain ⟨-, hb, hw, -, ha, hlo, hc, ho⟩ := h
  subst ha
  have hg : isGateHold f = false := by
    have : ¬ f.addr < 0x500600 := by unfold blockOf at hb; omega
    simp [isGateHold, this]
  rw [← stored_eq_rd hw]
  exact shown_eq_stored (.inr (.inr ⟨hb, selShown_none ho s f.lo⟩)) (by simp [hc]) hg

/-- a word of SEL is held as the core cycle began -/
theorem heldWord_selWord {addr : Nat} {f : Fld} (h : SelWord addr f) (s : State) : heldWord s addr = cycWas s f := by
  have hs := shown_selWord h s
  obtain ⟨-, hb, ⟨hp, -⟩, hf, -, hlo, -⟩ := h
  exact heldWord_single hf hlo (readsZero_sel hb hp s) hs

/-- a read of a word of SEL loads the hold where it is a high word, and does nothing else -/
theorem readEffect_selWord {addr : Nat} {f : Fld} (h : SelWord addr f) (s : State) :
    readEffect addr 15 true s = if isWideHigh addr then loadHold addr s else s := by
  obtain ⟨-, hb, ⟨hp, -⟩, hf, -⟩ := h
  have hc : ∀ p ∈ fieldsAt addr, p.2 ≠ 2 := by simp [hf]
  simp [readEffect, hb, readsZero_sel hb hp, clearRead_noRC hc]

/-- the addresses of a DPLL's words are the low and the high word of a split value -/
theorem freq_isWide : ∀ d < 8, isWideLow (0x600444 + 128 * d) = true ∧ isWideHigh (0x600444 + 128 * d) = false
    ∧ isWideLow (0x600448 + 128 * d) = false ∧ isWideHigh (0x600448 + 128 * d) = true := by decide

/-- the state in which the high word of DPLL d has been read, but for the data: the hold has the low word as the core cycle began -/
def freqHeld (dt d : Nat) (s : State) : State :=
  modHost (fun h => { h with holdHi := some (0x600448 + 128 * d), holdW := [(0x600444 + 128 * d, cycWas (pass dt s) (SEL_DPLLd_FREQ_LO_W d))] })
    (Issued (0x600448 + 128 * d) dt s)

theorem readEffect_freqHi (dt : Nat) (s : State) {d : Nat} (hd : d < 8) :
    readEffect (0x600448 + 128 * d) 15 true (Issued (0x600448 + 128 * d) dt s) = freqHeld dt d s := by
  obtain ⟨-, -, -, hhigh⟩ := freq_isWide d hd
  have h4 : 0x600448 + 128 * d - 4 = 0x600444 + 128 * d := by omega
  rw [readEffect_selWord (selWord_freqHi d hd), if_pos hhigh, loadHold, h4, heldWord_selWord (selWord_freqLo d hd)]
  rfl

theorem shownWord_freqHi (dt : Nat) (s : State) {d : Nat} (hd : d < 8) :
    shownWord (Issued (0x600448 + 128 * d) dt s) (0x600448 + 128 * d) = cycWas (pass dt s) (SEL_DPLLd_FREQ_HI_W d) := by
  obtain ⟨-, -, hlow, hhigh⟩ := freq_isWide d hd
  obtain ⟨-, hblock, -⟩ := selWord_freqHi d hd
  have hs : shownWord (Issued (0x600448 + 128 * d) dt s) (0x600448 + 128 * d) = heldWord (Issued (0x600448 + 128 * d) dt s) (0x600448 + 128 * d) := by
    simp [shownWord, hlow, hhigh, hblock]
  rw [hs, heldWord_selWord (selWord_freqHi d hd), cycWas_issued]

/-- a read of the high word of a DPLL returns it, and holds the low word, as they were when the core cycle of the read began (R507, R526) -/
theorem completes_freqHiRead {s : State} (hb : Between s) (hi : HostIdle s) (dt : Nat) {d : Nat} (hd : d < 8) :
    Completes (.highWordRead dt (0x600448 + 128 * d)) s (fun t =>
      (t.host.rdata = [cycWas (pass dt s) (SEL_DPLLd_FREQ_HI_W d) % 2 ^ 32] ∧ t.host.rsize = 4 ∧ t.now = s.now + dt ∧ StoresSame s t)
      ∧ t.host.holdHi = some (0x600448 + 128 * d) ∧ t.host.holdW = [(0x600444 + 128 * d, cycWas (pass dt s) (SEL_DPLLd_FREQ_LO_W d))]
      ∧ RegsBut [] s t) := by
  have hl : Later dt s (freqHeld dt d s) := (later_issued hb (0x600448 + 128 * d) dt).modHost _
  have hc : exec (.highWordRead dt (0x600448 + 128 * d)) s = done s (readOne (0x600448 + 128 * d) 4 (pass dt s)) := by
    have h4 : (0x600448 + 128 * d) / 4 * 4 = 0x600448 + 128 * d := by omega
    change done s (readOne ((0x600448 + 128 * d) / 4 * 4) 4 (pass dt s)) = _
    rw [h4]
  have hr : RegsBut [] s (freqHeld dt d s) := fun f _ => rd_issued (0x600448 + 128 * d) dt s f
  refine completes_readOne hc hi (selWord_freqHi d hd).1 (readEffect_freqHi dt s hd) hl ⟨⟨?_, rfl, hl.now, hl.storesSame⟩, rfl, rfl, hr⟩
  rw [shownWord_freqHi dt s hd, putRead_rdata]

/-- a read of a held low word returns the hold (R507) -/
theorem completes_heldLowRead {s : State} (hb : Between s) (hi : HostIdle s) (dt : Nat) {d w : Nat} (hd : d < 8)
    (hh : s.host.holdHi = some (0x600448 + 128 * d)) (hw : s.host.holdW = [(0x600444 + 128 * d, w)]) :
    Completes (.readClear dt (0x600444 + 128 * d) 4) s (fun t =>
      (t.host.rdata = [w % 2 ^ 32] ∧ t.host.rsize = 4 ∧ t.now = s.now + dt ∧ StoresSame s t) ∧ RegsBut [] s t) := by
  obtain ⟨hlow, hhigh, -, -⟩ := freq_isWide d hd
  have hwl := selWord_freqLo d hd
  have hread : readEffect (0x600444 + 128 * d) 15 true (Issued (0x600444 + 128 * d) dt s) = Issued (0x600444 + 128 * d) dt s := by
    rw [readEffect_selWord hwl, if_neg (by simp [hhigh])]
  have hword : shownWord (Issued (0x600444 + 128 * d) dt s) (0x600444 + 128 * d) = w := by
    have h4 : 0x600444 + 128 * d + 4 = 0x600448 + 128 * d := by omega
    simp [shownWord, hlow, h4, Issued, hh, hw]
  have hl := later_issued hb (0x600444 + 128 * d) dt
  have hr : RegsBut [] s (Issued (0x600444 + 128 * d) dt s) := fun f _ => rd_issued _ dt s f
  refine completes_readOne rfl hi hwl.1 hread hl ⟨⟨?_, rfl, hl.now, hl.storesSame⟩, hr⟩
  rw [hword, putRead_rdata]

/-! ### The statistics hold (R157) -/

theorem stored_issued (a dt : Nat) (s : State) (f : Fld) : stored (Issued a dt s) f = stored s f := by
  simp [stored, partnerSel, rdB, cram]

theorem loadWord_issued (a dt : Nat) (s : State) (addr : Nat) : loadWord (Issued a dt s) addr = loadWord s addr := by
  simp only [loadWord, stored_issued]

theorem unitSize_issued (a dt : Nat) (s : State) (n : Nat) : unitSize (Issued a dt s) n = unitSize s n := by
  simp only [unitSize, issued_img]

/-- what the address of SSTAT of a group is in the map -/
theorem sstat_addr : ∀ g < 3, PlainWord (0x500728 + 64 * g) ∧ isWideLow (0x500728 + 64 * g) = false ∧ isWideHigh (0x500728 + 64 * g) = false
    ∧ blockOf (0x500728 + 64 * g) = 5 ∧ isPartnerReg (0x500728 + 64 * g) = false ∧ (0x500728 + 64 * g) % 2 ^ 20 = 0x728 + 64 * g
    ∧ fieldsAt (0x500728 + 64 * g) = [(PMU_STATg_SSTAT_RFLAGS g, 0), (PMU_STATg_SSTAT_SSEQ g, 0)] := by decide

/-- the statistics of a group with a four-slice unit do not read 0 (R159) -/
theorem readsZero_sstat {s : State} {g : Nat} (hg : g < 3) (hu : unitSize s (4 * g) = 4) : readsZero s (0x500728 + 64 * g) = false := by
  obtain ⟨-, -, -, -, hp, ho, -⟩ := sstat_addr g hg
  have hd : (0x728 + 64 * g - 0x700) / 64 = g := by omega
  have hlt : ¬ 0x728 + 64 * g < 0x600 := by omega
  simp only [readsZero, pmuAbsent, ho, hp, hd, hu, hlt]
  simp

/-- SSTAT shows what is stored where none of its fields has counted in the core cycle -/
theorem liveWord_sstat {s : State} {g : Nat} (hg : g < 3) (hu : unitSize s (4 * g) = 4) (hc : ∀ f, cycSet s f = 0) :
    liveWord s (0x500728 + 64 * g) = loadWord s (0x500728 + 64 * g) := by
  obtain ⟨-, -, -, hb, -, ho, hf⟩ := sstat_addr g hg
  have hn (lo : Nat) : pmuShown s (0x728 + 64 * g) lo = none := by
    have h1 : ¬ 0x728 + 64 * g < 0x600 := by omega
    have h2 : 0x728 + 64 * g ≠ 0x61C := by omega
    simp only [pmuShown, h1, h2, if_false]
  have hs : ∀ f : Fld, f.addr = 0x500728 + 64 * g → shown s f = stored s f := by
    intro f ha
    have hgate : isGateHold f = false := by
      have : ¬ f.addr < 0x500600 := by omega
      simp [isGateHold, this]
    exact shown_eq_stored (.inr (.inl ⟨by rw [ha, hb], by rw [ha, ho, hn]⟩)) (fun _ => hc f) hgate
  have h1 := hs (PMU_STATg_SSTAT_RFLAGS g) rfl
  have h2 := hs (PMU_STATg_SSTAT_SSEQ g) rfl
  simp [liveWord, readsZero_sstat hg hu, loadWord, hf, shownAs, h1, h2]

theorem readEffect_sstat {s : State} {g : Nat} (hg : g < 3) (hu : unitSize s (4 * g) = 4) :
    readEffect (0x500728 + 64 * g) 15 true s = loadStats g s := by
  obtain ⟨-, -, hh, hb, -, ho, hf⟩ := sstat_addr g hg
  have hrc : ∀ p ∈ fieldsAt (0x500728 + 64 * g), p.2 ≠ 2 := by simp [hf]
  have hd : (0x728 + 64 * g - 0x700) / 64 = g := by omega
  have hm : (0x728 + 64 * g) % 64 = 0x28 := by omega
  have hle : 0x700 ≤ 0x728 + 64 * g := by omega
  have hz := readsZero_sstat hg hu
  simp only [readEffect, hh, hb, ho, hd, hm, hle, clearRead_noRC hrc]
  simp [hz]

theorem shownWord_sstat {s : State} {g : Nat} (hg : g < 3) : shownWord s (0x500728 + 64 * g) = liveWord s (0x500728 + 64 * g) := by
  obtain ⟨-, hl, hh, hb, -, ho, -⟩ := sstat_addr g hg
  have hm : (0x728 + 64 * g) % 64 = 0x28 := by omega
  simp only [shownWord, hl, hh, hb, ho, hm]
  simp

/-- a read of SSTAT of a group with a four-slice unit loads its eleven words into the hold (R157) -/
theorem completes_sstatRead {s : State} (hb : Between s) (hi : HostIdle s) {dt g : Nat} (hg : g < 3)
    (hc : cycleOf s.now < cycleOf (s.now + dt)) (hu : unitSize s (4 * g) = 4) :
    Completes (.sstatRead dt g) s (fun t =>
      (t.host.rdata = [loadWord s (0x500728 + 64 * g) % 2 ^ 32] ∧ t.host.rsize = 4 ∧ t.now = s.now + dt ∧ StoresSame s t)
      ∧ ix t.pmu.hold g = (List.range 11).map (fun j => loadWord s (0x500700 + 64 * g + 4 * j)) ∧ RegsBut [] s t) := by
  have hu' : unitSize (Issued (0x500728 + 64 * g) dt s) (4 * g) = 4 := by rw [unitSize_issued, hu]
  have hl := (later_issued hb (0x500728 + 64 * g) dt).loadStats g
  have he : exec (.sstatRead dt g) s = done s (readOne (0x500728 + 64 * g) 4 (pass dt s)) := by
    change done s (readOne (0x500728 + 64 * (g % 3)) 4 (pass dt s)) = _
    rw [Nat.mod_eq_of_lt hg]
  have hr : RegsBut [] s (loadStats g (Issued (0x500728 + 64 * g) dt s)) := fun f _ => rd_issued (0x500728 + 64 * g) dt s f
  refine completes_readOne he hi (sstat_addr g hg).1 (readEffect_sstat hg hu') hl ⟨⟨?_, rfl, hl.now, hl.storesSame⟩, ?_, hr⟩
  · rw [shownWord_sstat hg, liveWord_sstat hg hu' (fun f => by rw [cycSet_issued, cycSet_pass_later hc]), loadWord_issued, putRead_rdata]
  · change ix (vset _ g _) g = _
    rw [ix_vset_same _ _ hg]
    simp [statWord, loadWord_issued]

/-! ### The obligation -/

theorem completes_mono {c : Instr} {s : State} {P Q : State → Prop} (h : Completes c s P) (hpq : ∀ t, P t → Q t) : Completes c s Q := by
  obtain ⟨t, he, hp⟩ := h
  exact ⟨t, he, hpq t hp⟩

/-- Settles O8: a read is its effects on the state in which the access is carried out, and the record of the core cycle tells what was set
or updated in that cycle. -/
theorem readClearsAndHolds : Obligations.ReadClearsAndHolds := by
  unfold Obligations.ReadClearsAndHolds
  intro dt d g s hb hi hd hg
  have hfreq := completes_freqHiRead hb hi dt hd
  refine ⟨fun hc => ⟨completes_readHaf_later hb hi hc, ?_, fun w hh hw => completes_heldLowRead hb hi dt hd hh hw,
    completes_sstatRead hb hi hg hc⟩, completes_readHaf_same hb hi, fun hc => ?_⟩
  · rw [cycWas_pass_later hc, cycWas_pass_later hc] at hfreq
    exact hfreq
  · rw [cycWas_pass_same hc, cycWas_pass_same hc] at hfreq
    exact completes_mono hfreq fun t ⟨⟨hdata, _⟩, _, hhold, _⟩ => ⟨hhold, hdata⟩

end Sys2Proof.Machine

/-! The batches of the always-on registers (O40): what RWS_BATCH_LAND does while its group has no batch in flight. -/

namespace Sys2Proof.BackupClock
open Sys2Proof.Machine Sys2Proof.Reg Sys2Proof.Safety

/-- nothing lands while a group has no batch in flight (R509) -/
theorem rwsLand_no_batch {g : Nat} {s : State} (h : (ix s.aon.grp g).landAt = none) : rwsLand g s = s := by
  simp [rwsLand, h]

/-- without a batch in flight RWS_BATCH_LAND is pass 2 going on, and nothing else (R68) -/
theorem exec_rwsBatchLand_no_batch {s : State} (h : (ix s.aon.grp 0).landAt = none) : exec (.rwsBatchLand 0) s = done s (workNow s) := by
  change done s (workNow (rwsLand 0 s)) = _
  rw [rwsLand_no_batch h]

/-- Pass 2 has two records left (R68): one for RTC_CTL, whose group has no batch, and one for RST.CAUSE, whose batch is past the cut-off
one core cycle before it lands. -/
def recordsLeft : State :=
  { now := 3 * slowU - 1
    aon := { grp := vset (Vector.replicate 2 {}) 1 { batch := [{ addr := 0x100000, alias_ := 0, be := 15, data := 0 }], landAt := some (3 * slowU) } }
    img := { work := some [{ addr := 0x800080, be := 15, val := 5 }, { addr := 0x100000, be := 15, val := 0 }] } }

theorem recordsLeft_between : Between recordsLeft := by
  simp only [Between]
  decide

/-- the first record opens a batch of the backup clock's group -/
theorem workNow_recordsLeft_landAt : (ix (workNow recordsLeft).aon.grp 0).landAt = some (5 * slowU) := by decide

theorem workNow_recordsLeft_calm : calm (workNow recordsLeft) = true := by decide

/-- RWS_BATCH_LAND without a batch of its group changes a state in which pass 2 can go on -/
theorem exec_rwsBatchLand_recordsLeft : exec (.rwsBatchLand 0) recordsLeft ≠ .next recordsLeft := by
  rw [exec_rwsBatchLand_no_batch (by decide), done_calm _ workNow_recordsLeft_calm]
  intro h
  injection h with h
  have hl : (ix (workNow recordsLeft).aon.grp 0).landAt = (ix recordsLeft.aon.grp 0).landAt := by
    rw [← closed_aon recordsLeft (workNow recordsLeft), h]
  rw [workNow_recordsLeft_landAt] at hl
  exact absurd hl (by decide)

/-- Refutes O40: the clause that RWS_BATCH_LAND of a group without a batch in flight changes nothing does not ask that pass 2 has no records
left, and the command carries pass 2 on whether a batch landed or not (R68). In recordsLeft it posts the write of RTC_CTL, so that the
group has a batch in flight afterwards. -/
theorem not_theBackupClockAndItsBatches : ¬ Obligations.TheBackupClockAndItsBatches := by
  unfold Obligations.TheBackupClockAndItsBatches
  intro h
  obtain ⟨-, -, -, -, -, -, no_batch, -⟩ := h 0 0 0 recordsLeft recordsLeft_between
  exact exec_rwsBatchLand_recordsLeft (no_batch (by decide))

end Sys2Proof.BackupClock

/-! The clocks and the oven (O19): what a presence window, the alignment of the core frame, an RCLK interval, the pin of the oven and the
ends of a warm-up come to, case by case. -/

namespace Sys2Proof.Clocks
open Sys2Proof.Machine Sys2Proof.Reg Sys2Proof.Safety

/-! ### What the clocks leave alone -/

/-- u has the waiting commands and the stores of s, and no MRAM write more -/
structure Kept (s u : State) : Prop where
  pending : u.pending = s.pending
  mram : u.mram = s.mram
  mramJ : u.mramJ = s.mramJ
  cram : u.cram = s.cram
  otp : u.otp = s.otp

theorem kept_pass (dt : Nat) (s : State) : Kept s (pass dt s) := ⟨by simp, by simp, by simp, by simp, by simp⟩

theorem kept_advanceTo (t : Nat) (s : State) : Kept s (advanceTo t s) := ⟨by simp, by simp, by simp, by simp, by simp⟩

namespace Kept
variable {s u : State}

theorem put (h : Kept s u) (f : Fld) (v : Nat) : Kept s (put f v u) := ⟨h.pending, h.mram, h.mramJ, h.cram, h.otp⟩

theorem modClk (h : Kept s u) (f : ClkS → ClkS) : Kept s (modClk f u) := ⟨h.pending, h.mram, h.mramJ, h.cram, h.otp⟩

theorem modSyn (h : Kept s u) (k : Nat) (f : SynS → SynS) : Kept s (modSyn k f u) := ⟨h.pending, h.mram, h.mramJ, h.cram, h.otp⟩

theorem raise (h : Kept s u) (i : Nat) (j : Option Nat) : Kept s (raise i j u) := ⟨h.pending, h.mram, h.mramJ, h.cram, h.otp⟩

theorem storesSame (h : Kept s u) : StoresSame s u :=
  ⟨fun a => by rw [h.mram], fun i => by unfold Machine.cram; rw [h.cram], h.otp⟩

end Kept

/-- a command that brings about u, with nothing left for others to follow, ends in u -/
theorem completes_of_kept {c : Instr} {s u : State} {P : State → Prop} (hc : exec c s = done s u) (hb : Between s) (hk : Kept s u)
    (hq : calm u = calm s) (hP : P u) : Completes c s P := by
  obtain ⟨hcalm, hj⟩ := hb
  exact ⟨u, hc.trans (done_self ⟨hq.trans hcalm, hk.mramJ.trans hj⟩ hk.pending hk.mram hk.otp), hP⟩

/-- between commands no fault waits for the collector -/
theorem raised_of_between {s : State} (h : Between s) : s.flt.raised = [] := by
  obtain ⟨hcalm, -⟩ := h
  obtain ⟨-, -, -, -, -, -, -, hr⟩ := (calm_iff s).1 hcalm
  exact hr

theorem regsBut_of_rd {s u : State} (h : ∀ f, rd u f = rd s f) (l : List Fld) : RegsBut l s u := fun f _ => h f

/-- putting a listed field changes listed fields only -/
theorem regsBut_put {l : List Fld} {s u : State} (h : RegsBut l s u) {f : Fld} (hf : f ∈ l) (v : Nat) : RegsBut l s (put f v u) := by
  intro g hg
  have hne : fldKey f ≠ fldKey g := fun e => hg (e ▸ List.mem_map_of_mem hf)
  rw [rd_put_ne v u hne, h g hg]

theorem regsBut_raise {l : List Fld} {s u : State} (h : RegsBut l s u) (i : Nat) (j : Option Nat) : RegsBut l s (raise i j u) := h

theorem regsBut_trans {l : List Fld} {s u v : State} (h1 : RegsBut l s u) (h2 : RegsBut l u v) : RegsBut l s v :=
  fun f hf => (h2 f hf).trans (h1 f hf)

theorem on_eq_true {s : State} {f : Fld} (h : rd s f = 1) : on s f = true := by simp [on, h]

theorem on_eq_false {s : State} {f : Fld} (h : rd s f = 0) : on s f = false := by simp [on, h]

/-! ### Presence of SYSCLK_IN (R107) -/

theorem presMin_eq (s : State) : presMin s = if rd s RST_STRAP_CLKMODE = 1 then 15 else if rd s RST_STRAP_CLKMODE = 2 then 30 else 6 := by
  unfold presMin
  split <;> simp_all

@[simp] theorem presMin_pass (dt : Nat) (s : State) : presMin (pass dt s) = presMin s := by simp [presMin]

/-- the count of passing windows restarts -/
def windowFailed (s : State) : State := modClk (fun c => { c with pass := 0 }) s

/-- one more window has passed -/
def windowPassed (s : State) : State := modClk (fun c => { c with pass := min 8 (c.pass + 1) }) s

theorem presWindow_few {n : Nat} {s : State} (hs : inSequence s = false) (hn : n < presMin s) :
    presWindow n s = if on s GEN_CLKSTAT_SYSCLK_PRES then presFall (windowFailed s) else windowFailed s := by
  simp only [presWindow, hs, Bool.false_and, Bool.false_eq_true, if_false, if_pos hn]
  rfl

theorem presWindow_enough {n : Nat} {s : State} (hs : inSequence s = false) (hn : presMin s ≤ n) :
    presWindow n s = if (windowPassed s).clk.pass = 8 && !on s GEN_CLKSTAT_SYSCLK_PRES then presRise (windowPassed s) else windowPassed s := by
  simp only [presWindow, hs, Bool.false_and, Bool.false_eq_true, if_false, if_neg (Nat.not_lt.2 hn)]
  rfl

section
variable {dt n : Nat} {s : State}

/-- a failing window while SYSCLK_PRES is 0 -/
theorem completes_window_few_absent (hb : Between s) (hr : s.rst.phase = .run) (hn : n < presMin s) (hp : rd s GEN_CLKSTAT_SYSCLK_PRES = 0) :
    Completes (.sysclkPresenceWindow dt n) s (fun t => t.clk.pass = 0 ∧ RegsBut [] s t ∧ StoresSame s t) := by
  have hk : Kept s (windowFailed (pass dt s)) := (kept_pass dt s).modClk _
  have he : exec (.sysclkPresenceWindow dt n) s = done s (windowFailed (pass dt s)) := by
    change done s (presWindow n (pass dt s)) = _
    rw [presWindow_few (by simp [inSequence_run hr]) (by simpa using hn), on_eq_false (by simpa using hp)]
    rfl
  exact completes_of_kept he hb hk (by simp [windowFailed]) ⟨rfl, regsBut_of_rd (by simp [windowFailed]) _, hk.storesSame⟩

/-- a failing window while SYSCLK_PRES is 1: it falls, with source 11 -/
theorem leads_window_few_present (hb : Between s) (hr : s.rst.phase = .run) (hn : n < presMin s) (hp : rd s GEN_CLKSTAT_SYSCLK_PRES = 1) :
    Leads (.sysclkPresenceWindow dt n) s presGone (fun u =>
      u.clk.pass = 0 ∧ rd u GEN_CLKSTAT_SYSCLK_PRES = 0 ∧ u.flt.raised = [(11, none)] ∧ RegsBut [GEN_CLKSTAT_SYSCLK_PRES] s u ∧ StoresSame s u) := by
  have hk : Kept s (windowFailed (pass dt s)) := (kept_pass dt s).modClk _
  have hregs : RegsBut [GEN_CLKSTAT_SYSCLK_PRES] s (windowFailed (pass dt s)) := regsBut_of_rd (by simp [windowFailed]) _
  have he : Brings (.sysclkPresenceWindow dt n) s (presFall (windowFailed (pass dt s))) := by
    change done s (presWindow n (pass dt s)) = _
    rw [presWindow_few (by simp [inSequence_run hr]) (by simpa using hn), on_eq_true (by simpa using hp)]
    rfl
  refine ⟨_, he, rfl, by simp, ?_, regsBut_raise (regsBut_put hregs (by simp) 0) 11 none, ((hk.put _ 0).raise 11 none).storesSame⟩
  simp [windowFailed, raised_of_between hb]

/-- a passing window that is not the eighth in a row, or that finds SYSCLK_PRES 1 -/
theorem completes_window_enough (hb : Between s) (hr : s.rst.phase = .run) (hn : presMin s ≤ n)
    (hp : s.clk.pass < 7 ∨ rd s GEN_CLKSTAT_SYSCLK_PRES = 1) :
    Completes (.sysclkPresenceWindow dt n) s (fun t => t.clk.pass = min 8 (s.clk.pass + 1) ∧ RegsBut [] s t ∧ StoresSame s t) := by
  have hk : Kept s (windowPassed (pass dt s)) := (kept_pass dt s).modClk _
  have hpass : (windowPassed (pass dt s)).clk.pass = min 8 (s.clk.pass + 1) := by simp [windowPassed]
  have hno : (decide ((windowPassed (pass dt s)).clk.pass = 8) && !on (pass dt s) GEN_CLKSTAT_SYSCLK_PRES) = false := by
    rw [hpass]
    rcases hp with hp | hp
    · rw [decide_eq_false (by omega), Bool.false_and]
    · rw [on_eq_true (by simpa using hp), Bool.not_true, Bool.and_false]
  have he : exec (.sysclkPresenceWindow dt n) s = done s (windowPassed (pass dt s)) := by
    change done s (presWindow n (pass dt s)) = _
    rw [presWindow_enough (by simp [inSequence_run hr]) (by simpa using hn), hno]
    rfl
  exact completes_of_kept he hb hk (by simp [windowPassed]) ⟨hpass, regsBut_of_rd (by simp [windowPassed]) _, hk.storesSame⟩

/-- the eighth passing window in a row: SYSCLK_PRES rises -/
theorem leads_window_eighth (hb : Between s) (hr : s.rst.phase = .run) (hn : presMin s ≤ n) (h7 : 7 ≤ s.clk.pass)
    (hp : rd s GEN_CLKSTAT_SYSCLK_PRES = 0) :
    Leads (.sysclkPresenceWindow dt n) s presBack (fun u =>
      u.clk.pass = 8 ∧ rd u GEN_CLKSTAT_SYSCLK_PRES = 1 ∧ u.flt.raised = [] ∧ RegsBut [GEN_CLKSTAT_SYSCLK_PRES] s u ∧ StoresSame s u) := by
  have hk : Kept s (windowPassed (pass dt s)) := (kept_pass dt s).modClk _
  have hregs : RegsBut [GEN_CLKSTAT_SYSCLK_PRES] s (windowPassed (pass dt s)) := regsBut_of_rd (by simp [windowPassed]) _
  have hpass : (windowPassed (pass dt s)).clk.pass = 8 := by
    have hmin : (windowPassed (pass dt s)).clk.pass = min 8 (s.clk.pass + 1) := by simp [windowPassed]
    omega
  have he : Brings (.sysclkPresenceWindow dt n) s (presRise (windowPassed (pass dt s))) := by
    change done s (presWindow n (pass dt s)) = _
    rw [presWindow_enough (by simp [inSequence_run hr]) (by simpa using hn), hpass, on_eq_false (by simpa using hp)]
    rfl
  refine ⟨_, he, hpass, by simp, ?_, regsBut_put hregs (by simp) 1, (hk.put _ 1).storesSame⟩
  simp [windowPassed, raised_of_between hb]

end

/-! ### The core frame and RCLK (R225, R27) -/

/-- the frame of the core synthesiser begins now and CORE_FROZEN is 0 -/
def frameAligned (s : State) : State := put GEN_CLKSTAT_CORE_FROZEN 0 (modSyn 4 (fun x => { x with ph := 0, phT := s.now }) s)

theorem coreAligned_frozen {s : State} (hl : rd s GEN_CLKSTAT_CORE_LOCK = 1) (hf : rd s GEN_CLKSTAT_CORE_FROZEN = 1) :
    coreAligned s = frozenEval (frameAligned s) := by
  simp only [coreAligned, on_eq_true hl, on_eq_true hf, Bool.and_self, if_true]
  rfl

theorem leads_coreAlignDone {dt : Nat} {s : State} (hb : Between s) (hl : rd s GEN_CLKSTAT_CORE_LOCK = 1) (hf : rd s GEN_CLKSTAT_CORE_FROZEN = 1) :
    Leads (.coreAlignDone dt) s frozenEval (fun u =>
      rd u GEN_CLKSTAT_CORE_FROZEN = 0 ∧ u.now = s.now + dt ∧ u.flt.raised = [] ∧ RegsBut [GEN_CLKSTAT_CORE_FROZEN] s u ∧ StoresSame s u) := by
  have he : Brings (.coreAlignDone dt) s (frozenEval (frameAligned (pass dt s))) := by
    change done s (coreAligned (pass dt s)) = _
    rw [coreAligned_frozen (by simpa using hl) (by simpa using hf)]
    rfl
  refine ⟨_, he, by simp [frameAligned], by simp [frameAligned], by simp [frameAligned, raised_of_between hb], ?_, ?_⟩
  · exact regsBut_put (regsBut_of_rd (by simp) _) (by simp) 0
  · exact (((kept_pass dt s).modSyn 4 _).put _ 0).storesSame

/-- 1024 RCLK cycles of n core cycles of 2.5 ns each lie within 20 % of 8.192 MHz -/
def rclkGood (n : Nat) : Prop := n * 6553600 ≤ 1024 * 400000000 ∧ 1024 * 400000000 ≤ n * 9830400

/-- the next RCLK interval begins at the end of one of n core cycles -/
def rclkMeasured (n : Nat) (s : State) : State :=
  modClk (fun c => { c with rclkAt := max s.now (s.clk.rclkAt + n * cycU) }) (advanceTo (s.clk.rclkAt + n * cycU) s)

@[simp] theorem rd_rclkMeasured (n : Nat) (s : State) (f : Fld) : rd (rclkMeasured n s) f = rd s f := by simp [rclkMeasured]

theorem kept_rclkMeasured (n : Nat) (s : State) : Kept s (rclkMeasured n s) := (kept_advanceTo _ s).modClk _

theorem rclkInterval_good {n : Nat} {s : State} (hl : rd s GEN_CLKSTAT_CORE_LOCK = 1) (hg : rclkGood n) :
    rclkInterval n s = put GEN_CLKSTAT_RCLK_OK 1 (rclkMeasured n s) := by
  obtain ⟨hlow, hhigh⟩ := hg
  simp [rclkInterval, on_eq_true hl, rclkMeasured, hlow, hhigh, b2n]

theorem rclkInterval_bad {n : Nat} {s : State} (hl : rd s GEN_CLKSTAT_CORE_LOCK = 1) (hg : ¬ rclkGood n) :
    rclkInterval n s = put GEN_CLKSTAT_RCLK_OK 0 (if rd s GEN_CLKSTAT_RCLK_OK = 1 then raise 2 none (rclkMeasured n s) else rclkMeasured n s) := by
  have hno : (decide (n * 6553600 ≤ 409600000000) && decide (409600000000 ≤ n * 9830400)) = false := by
    rw [← Bool.decide_and, decide_eq_false_iff_not]
    exact hg
  simp [rclkInterval, on_eq_true hl, rclkMeasured, hno, b2n, on_eq]

theorem effects_rclkMeasurementEnd {n : Nat} {s : State} {_ : Decidable (rclkGood n)} (hb : Between s) (hl : rd s GEN_CLKSTAT_CORE_LOCK = 1) :
    Effects (.rclkMeasurementEnd n) s (fun v => v.now = max s.now (s.clk.rclkAt + n * cycU) ∧ (rd v GEN_CLKSTAT_RCLK_OK = 1 ↔ rclkGood n)
      ∧ v.flt.raised = (if ¬rclkGood n ∧ rd s GEN_CLKSTAT_RCLK_OK = 1 then [(2, none)] else []) ∧ RegsBut [GEN_CLKSTAT_RCLK_OK] s v ∧ StoresSame s v) := by
  have hk := kept_rclkMeasured n s
  have hnow : (rclkMeasured n s).now = max s.now (s.clk.rclkAt + n * cycU) := by simp [rclkMeasured]
  have hraised : (rclkMeasured n s).flt.raised = [] := by simp [rclkMeasured, raised_of_between hb]
  have hregs : RegsBut [GEN_CLKSTAT_RCLK_OK] s (rclkMeasured n s) := regsBut_of_rd (by simp) _
  refine ⟨rclkInterval n s, rfl, ?_⟩
  by_cases hg : rclkGood n
  · rw [rclkInterval_good hl hg]
    exact ⟨by simpa using hnow, by simp [hg], by simp [hg, hraised], regsBut_put hregs (by simp) 1, (hk.put _ 1).storesSame⟩
  · rw [rclkInterval_bad hl hg]
    by_cases hok : rd s GEN_CLKSTAT_RCLK_OK = 1
    · rw [if_pos hok]
      exact ⟨by simpa using hnow, by simp [hg], by simp [hg, hok, hraised], regsBut_put (regsBut_raise hregs 2 none) (by simp) 0, ((hk.raise 2 none).put _ 0).storesSame⟩
    · rw [if_neg hok]
      exact ⟨by simpa using hnow, by simp [hg], by simp [hok, hraised], regsBut_put hregs (by simp) 0, (hk.put _ 0).storesSame⟩

/-! ### OCXO_RDY (R108, R561) -/

/-- the pin of the oven reads high: since now, or since it rose before -/
def ovenPinHigh (s : State) : State := modClk (fun c => { c with rdy := true, rdyAt := if c.rdy then c.rdyAt else s.now }) s

/-- the pin of the oven reads low -/
def ovenPinLow (s : State) : State := modClk (fun c => { c with rdy := false }) s

theorem clk_pinHigh {c : ClkS} (h : c.rdy = true) (t : Nat) : { c with rdy := true, rdyAt := if c.rdy then c.rdyAt else t } = c := by
  cases c
  simp_all

theorem ovenRise_eq (s : State) : ovenRise s = if ovenClass s then put REF_SYSCLK_OCXO_RDY 1 (ovenPinHigh s) else ovenPinHigh s := by
  have hpin : (if s.clk.rdy then s else modClk (fun c => { c with rdy := true, rdyAt := s.now }) s) = ovenPinHigh s := by
    cases h : s.clk.rdy with
    | true => simp only [ovenPinHigh, modClk, clk_pinHigh h, if_true]
    | false => simp [ovenPinHigh, modClk, h]
  have hclass : ovenClass (ovenPinHigh s) = ovenClass s := rfl
  simp only [ovenRise, hpin, hclass]

section
variable {dt : Nat} {s : State}

/-- a disabled ball hides the rise of the pin -/
theorem completes_rise_ballOff (hb : Between s) (hoff : ballOff s ocxoBall = true) :
    Completes (.ocxoRdyRise dt) s (fun t => t.clk = s.clk ∧ t.now = s.now + dt ∧ RegsBut [] s t ∧ StoresSame s t) := by
  have he : exec (.ocxoRdyRise dt) s = done s (pass dt s) := by
    change done s (whenB (!ballOff s ocxoBall) ovenRise (pass dt s)) = _
    rw [hoff, Bool.not_true, whenB_false]
  exact completes_of_kept he hb (kept_pass dt s) (by simp) ⟨by simp, by simp, regsBut_of_rd (by simp) _, (kept_pass dt s).storesSame⟩

theorem completes_rise (hb : Between s) (hoff : ballOff s ocxoBall = false) :
    Completes (.ocxoRdyRise dt) s (fun t => t.clk.rdy = true ∧ t.clk.rdyAt = (if s.clk.rdy then s.clk.rdyAt else s.now + dt)
      ∧ (rd s REF_SYSCLK_CLASS = 3 → rd t REF_SYSCLK_OCXO_RDY = 1) ∧ (¬ rd s REF_SYSCLK_CLASS = 3 → RegsBut [] s t)
      ∧ RegsBut [REF_SYSCLK_OCXO_RDY] s t ∧ StoresSame s t) := by
  have hk : Kept s (ovenPinHigh (pass dt s)) := (kept_pass dt s).modClk _
  have hrd : ∀ f, rd (ovenPinHigh (pass dt s)) f = rd s f := by simp [ovenPinHigh]
  have hat : (ovenPinHigh (pass dt s)).clk.rdyAt = if s.clk.rdy then s.clk.rdyAt else s.now + dt := by simp [ovenPinHigh]
  have he : exec (.ocxoRdyRise dt) s = done s (ovenRise (pass dt s)) := by
    change done s (whenB (!ballOff s ocxoBall) ovenRise (pass dt s)) = _
    rw [hoff, Bool.not_false, whenB_true]
  rw [ovenRise_eq] at he
  by_cases hc : rd s REF_SYSCLK_CLASS = 3
  · rw [if_pos (by simp [ovenClass, hc])] at he
    exact completes_of_kept he hb (hk.put _ 1) (by simp [ovenPinHigh])
      ⟨rfl, hat, fun _ => by simp, fun h => absurd hc h, regsBut_put (regsBut_of_rd hrd _) (by simp) 1, (hk.put _ 1).storesSame⟩
  · rw [if_neg (by simp [ovenClass, hc])] at he
    exact completes_of_kept he hb hk (by simp [ovenPinHigh])
      ⟨rfl, hat, fun h => absurd h hc, fun _ => regsBut_of_rd hrd _, regsBut_of_rd hrd _, hk.storesSame⟩

/-- outside the oven class a fall of the pin changes no register -/
theorem completes_fall_other (hb : Between s) (hc : ¬ rd s REF_SYSCLK_CLASS = 3) :
    Completes (.ocxoRdyFall dt) s (fun t => t.clk.rdy = false ∧ RegsBut [] s t ∧ StoresSame s t) := by
  have hk : Kept s (ovenPinLow (pass dt s)) := (kept_pass dt s).modClk _
  have hclass : ovenClass (ovenPinLow (pass dt s)) = false := by simp [ovenClass, ovenPinLow, hc]
  have he : exec (.ocxoRdyFall dt) s = done s (ovenPinLow (pass dt s)) := by
    change done s (if !ovenClass (ovenPinLow (pass dt s)) then ovenPinLow (pass dt s) else _) = _
    rw [hclass, Bool.not_false, if_pos rfl]
  exact completes_of_kept he hb hk (by simp [ovenPinLow]) ⟨rfl, regsBut_of_rd (by simp [ovenPinLow]) _, hk.storesSame⟩

end

/-! ### Warm-up (R108) -/

@[simp] theorem minBreakAll_regs (s : State) : (minBreakAll s).regs = s.regs :=
  forEach_keeps (·.regs) (List.range 8) minBreak s fun d u => modDpll_regs d _ u

theorem minWarm_regs (s : State) : (minWarm s).regs = s.regs := by
  simp only [minWarm]
  split
  · rw [forEach_keeps (·.regs) (List.range 8) _ _ fun d u => modDpll_regs d _ u, minBreakAll_regs]
  · rw [minBreakAll_regs]

theorem warmStop_regs (s : State) : (warmStop s).regs = s.regs := by
  unfold warmStop
  split <;> rfl

@[simp] theorem rd_warmStop (s : State) (f : Fld) : rd (warmStop s) f = rd s f := rd_congr (warmStop_regs s) f

/-- the end of a warm-up puts WARMING and, at its limit, WARM_TO -/
theorem regsBut_warmEnd (b : Bool) (s : State) : RegsBut [REF_SYSCLK_WARMING, REF_SYSCLK_WARM_TO] s (warmEnd b s) := by
  have h : RegsBut [REF_SYSCLK_WARMING, REF_SYSCLK_WARM_TO] s (put REF_SYSCLK_WARMING 0 (warmStop s)) :=
    regsBut_put (regsBut_of_rd (by simp) _) (by simp) 0
  cases b with
  | false => exact h
  | true => exact regsBut_raise (regsBut_put h (by simp) 1) 12 none

/-- a warm-up as it starts, before WARM_MAX is looked at -/
def warmBegun (s : State) : State :=
  minWarm (modClk (fun c => { c with warmRun := true, warmAt := s.now, elapsed := 0 }) (put REF_SYSCLK_WARMING 1 s))

theorem rd_warmBegun (s : State) (f : Fld) : rd (warmBegun s) f = rd (put REF_SYSCLK_WARMING 1 s) f := by
  rw [warmBegun, rd_congr (minWarm_regs _), rd_modClk]

theorem warmStart_eq (s : State) :
    warmStart s = if rd (warmBegun s) REF_SYSCLK_WARM_MAX = 0 then warmEnd true (warmBegun s) else warmBegun s := (rfl)

/-- the start of a warm-up puts WARMING and, where WARM_MAX is 0, WARM_TO -/
theorem regsBut_warmStart (s : State) : RegsBut [REF_SYSCLK_WARMING, REF_SYSCLK_WARM_TO] s (warmStart s) := by
  have h : RegsBut [REF_SYSCLK_WARMING, REF_SYSCLK_WARM_TO] s (put REF_SYSCLK_WARMING 1 s) :=
    regsBut_put (regsBut_of_rd (fun _ => rfl) _) (by simp) 1
  have hb := regsBut_trans h (regsBut_of_rd (rd_warmBegun s) _)
  rw [warmStart_eq]
  split
  · exact regsBut_trans hb (regsBut_warmEnd true _)
  · exact hb

/-- OCXO_RDY as a fall of the pin in the oven class leaves it -/
def ovenReadyLost (s : State) : State := put REF_SYSCLK_OCXO_RDY 0 (ovenPinLow s)

/-- in the oven class, outside a warm-up and with SYSCLK_IN present, a fall of the pin starts a warm-up -/
theorem ovenFall_warmed {s : State} (hc : rd s REF_SYSCLK_CLASS = 3) (hr : s.clk.warmRun = false) (hw : rd s REF_SYSCLK_WARMING = 0)
    (hp : rd s GEN_CLKSTAT_SYSCLK_PRES = 1) : ovenFall s = raise 13 none (warmStart (ovenReadyLost s)) := by
  have hclass : ovenClass (ovenPinLow s) = true := by simp [ovenClass, ovenPinLow, hc]
  have hover : warmOver (ovenReadyLost s) = false := by simp [warmOver, ovenReadyLost, ovenPinLow, hr]
  have hwarming : on (ovenReadyLost s) REF_SYSCLK_WARMING = false := on_eq_false (by
    rw [ovenReadyLost, rd_put_ne _ _ (by simp)]; simpa [ovenPinLow] using hw)
  have hpres : on (warmStart (ovenReadyLost s)) GEN_CLKSTAT_SYSCLK_PRES = true := on_eq_true (by
    rw [regsBut_warmStart _ _ (by simp), ovenReadyLost, rd_put_ne _ _ (by simp)]; simpa [ovenPinLow] using hp)
  change (if !ovenClass (ovenPinLow s) then ovenPinLow s else
    let u := if warmOver (ovenReadyLost s) then warmEnd true (ovenReadyLost s) else ovenReadyLost s
    if on u REF_SYSCLK_WARMING then u
    else if on (warmStart u) GEN_CLKSTAT_SYSCLK_PRES then raise 13 none (warmStart u) else warmStop (raise 13 none (warmStart u))) = _
  simp [hclass, hover, hwarming, hpres]

theorem leads_fall_warmed {dt : Nat} {s : State} (hc : rd s REF_SYSCLK_CLASS = 3) (hr : s.clk.warmRun = false)
    (hw : rd s REF_SYSCLK_WARMING = 0) (hp : rd s GEN_CLKSTAT_SYSCLK_PRES = 1) :
    Leads (.ocxoRdyFall dt) s (fun u => raise 13 none (warmStart u)) (fun u => u.clk.rdy = false ∧ rd u REF_SYSCLK_OCXO_RDY = 0
      ∧ u.now = s.now + dt ∧ RegsBut [REF_SYSCLK_OCXO_RDY] s u ∧ StoresSame s u) := by
  have he : Brings (.ocxoRdyFall dt) s (raise 13 none (warmStart (ovenReadyLost (pass dt s)))) := by
    change done s (ovenFall (pass dt s)) = _
    rw [ovenFall_warmed (by simpa using hc) (by simpa using hr) (by simpa using hw) (by simpa using hp)]
    rfl
  refine ⟨_, he, rfl, by simp [ovenReadyLost], by simp [ovenReadyLost, ovenPinLow], ?_, ?_⟩
  · exact regsBut_put (regsBut_of_rd (by simp [ovenPinLow]) _) (by simp) 0
  · exact (((kept_pass dt s).modClk _).put _ 0).storesSame

/-- a running warm-up that stops counting now -/
def warmHeld (s : State) : State := modClk (fun c => { c with warmRun := false, elapsed := min 4095 (secSince s c.warmAt) }) s

theorem warmStop_running {s : State} (h : s.clk.warmRun = true) : warmStop s = warmHeld s := if_pos h

/-- the normal end of a warm-up -/
theorem completes_warmupEnd {s : State} (hb : Between s) (hrun : s.clk.warmRun = true) (hrdy : s.clk.rdy = true)
    (hle : max s.clk.warmAt s.clk.rdyAt + secU ≤ s.clk.warmAt + rd s REF_SYSCLK_WARM_MAX * secU) :
    Completes .warmupEnd s (fun t => rd t REF_SYSCLK_WARMING = 0 ∧ t.clk.warmRun = false ∧ t.now = max s.now (max s.clk.warmAt s.clk.rdyAt + secU)
      ∧ RegsBut [REF_SYSCLK_WARMING] s t ∧ StoresSame s t) := by
  have hstop : warmStop (advanceTo (warmReady s) s) = warmHeld (advanceTo (warmReady s) s) := warmStop_running (by simpa using hrun)
  have hk : Kept s (put REF_SYSCLK_WARMING 0 (warmHeld (advanceTo (warmReady s) s))) := ((kept_advanceTo _ s).modClk _).put _ 0
  have hok : warmOk s = true := by simp only [warmOk, hrun, hrdy, warmReady, hle, decide_true, Bool.and_self]
  have he : exec .warmupEnd s = done s (put REF_SYSCLK_WARMING 0 (warmHeld (advanceTo (warmReady s) s))) := by
    change done s (warmNormal s) = _
    rw [warmNormal, if_pos hok, ← hstop]
    rfl
  refine completes_of_kept he hb hk (by simp [warmHeld]) ⟨by simp, rfl, by simp [warmHeld, warmReady], ?_, hk.storesSame⟩
  exact regsBut_put (regsBut_of_rd (by simp [warmHeld]) _) (by simp) 0

/-- the end of a warm-up at its limit -/
theorem effects_warmupTimeout {s : State} (hb : Between s) (hrun : s.clk.warmRun = true) (hrdy : s.clk.rdy = false) :
    Effects .warmupTimeout s (fun v => rd v REF_SYSCLK_WARMING = 0 ∧ rd v REF_SYSCLK_WARM_TO = 1
      ∧ v.flt.raised = [(12, none)] ∧ v.now = max s.now (s.clk.warmAt + rd s REF_SYSCLK_WARM_MAX * secU)
      ∧ RegsBut [REF_SYSCLK_WARMING, REF_SYSCLK_WARM_TO] s v ∧ StoresSame s v) := by
  have hno : warmOk s = false := by simp [warmOk, hrdy]
  have hv : warmLimit s = raise 12 none (put REF_SYSCLK_WARM_TO 1 (put REF_SYSCLK_WARMING 0
      (warmHeld (advanceTo (s.clk.warmAt + rd s REF_SYSCLK_WARM_MAX * secU) s)))) := by
    rw [warmLimit, hrun, hno, ← warmStop_running (by simpa using hrun)]
    rfl
  refine ⟨warmLimit s, rfl, ?_⟩
  rw [hv]
  refine ⟨?_, by simp, by simp [warmHeld, raised_of_between hb], by simp [warmHeld], ?_, ?_⟩
  · rw [rd_raise, rd_put_ne _ _ (by simp), rd_put_same, Nat.zero_mod]
  · exact regsBut_raise (regsBut_put (regsBut_put (regsBut_of_rd (by simp [warmHeld]) _) (by simp) 0) (by simp) 1) 12 none
  · exact (((((kept_advanceTo _ s).modClk _).put _ 0).put _ 1).raise 12 none).storesSame

/-! ### The obligation -/

/-- Settles O19: each command brings about a chain of updates of registers and clock marks, one chain for each case. -/
theorem clocksAndTheOven : Obligations.ClocksAndTheOven := by
  unfold Obligations.ClocksAndTheOven
  intro dt n s hb hr
  rw [← presMin_eq]
  intro least oven
  exact ⟨completes_window_few_absent hb hr, leads_window_few_present hb hr, completes_window_enough hb hr, leads_window_eighth hb hr,
    leads_coreAlignDone hb, effects_rclkMeasurementEnd hb, completes_rise_ballOff hb, completes_rise hb, completes_fall_other hb,
    leads_fall_warmed, completes_warmupEnd hb, effects_warmupTimeout hb⟩

end Sys2Proof.Clocks

/-! Modes and isolation (O16, O17, O18): the writes of GEN.MODE, GEN.ISOLATE and GEN.LOCK, the completion of a mode sequence, of an isolation
and of a release, case by case. -/

namespace Sys2Proof.Clocks.Kept
open Sys2Proof.Machine Sys2Proof.Reg

variable {s u : State}

theorem modGen (h : Kept s u) (f : GenS → GenS) : Kept s (modGen f u) := ⟨h.pending, h.mram, h.mramJ, h.cram, h.otp⟩

theorem cycMark (h : Kept s u) (f : Fld) (v : Nat) : Kept s (cycMark f v u) := ⟨h.pending, h.mram, h.mramJ, h.cram, h.otp⟩

theorem haf (h : Kept s u) (cause addr : Nat) : Kept s (haf cause addr u) := by
  have hr : Kept s (Machine.raise 0 none { u with host := { u.host with haf := true } }) := ⟨h.pending, h.mram, h.mramJ, h.cram, h.otp⟩
  unfold Machine.haf
  dsimp only
  split
  · exact hr.put _ _
  · exact (((((hr.put _ 1).put _ cause).cycMark _ cause).put _ addr).cycMark _ addr).put _ 0

end Sys2Proof.Clocks.Kept

namespace Sys2Proof.Modes
open Sys2Proof.Machine Sys2Proof.Reg Sys2Proof.Safety Sys2Proof.Clocks

/-! ### What the modes leave alone -/

/-- u stands dt after s, with the stores, the waiting commands and the model's marks of s and every field but those listed -/
structure Within (dt : Nat) (l : List Fld) (s u : State) : Prop where
  now : u.now = s.now + dt
  regs : RegsBut l s u
  kept : Kept s u
  quiet : calm u = calm s

theorem within_pass (dt : Nat) (l : List Fld) (s : State) : Within dt l s (pass dt s) :=
  ⟨by simp, regsBut_of_rd (by simp) l, kept_pass dt s, by simp⟩

theorem within_issued (addr dt : Nat) (l : List Fld) (s : State) : Within dt l s (Issued addr dt s) :=
  ⟨by simp, regsBut_of_rd (by simp) l, ⟨by simp, by simp, by simp, by simp, by simp⟩, by simp [Issued]⟩

namespace Within
variable {dt : Nat} {l : List Fld} {s u : State}

theorem put (h : Within dt l s u) {f : Fld} (hf : f ∈ l) (v : Nat) : Within dt l s (put f v u) :=
  ⟨h.now, regsBut_put h.regs hf v, h.kept.put f v, h.quiet⟩

theorem modGen (h : Within dt l s u) (f : GenS → GenS) : Within dt l s (modGen f u) := ⟨h.now, h.regs, h.kept.modGen f, h.quiet⟩

theorem cycMark (h : Within dt l s u) (f : Fld) (v : Nat) : Within dt l s (cycMark f v u) := ⟨h.now, h.regs, h.kept.cycMark f v, h.quiet⟩

theorem putBit (h : Within dt l s u) {f : Fld} (hf : f ∈ l) (i : Nat) : Within dt l s (putBit f i u) := (h.put hf _).cycMark f _

theorem clearBit (h : Within dt l s u) {f : Fld} (hf : f ∈ l) (i : Nat) : Within dt l s (clearBit f i u) := h.put hf _

theorem forEach {α : Type} {f : α → State → State} (hf : ∀ a v, Within dt l s v → Within dt l s (f a v)) (xs : List α)
    (h : Within dt l s u) : Within dt l s (forEach xs f u) := by
  induction xs generalizing u with
  | nil => exact h
  | cons a r ih => exact ih (hf a u h)

theorem storesSame (h : Within dt l s u) : StoresSame s u := h.kept.storesSame

/-- no fault is raised -/
theorem raised (h : Within dt l s u) (hb : Between s) : u.flt.raised = [] :=
  raised_of_between ⟨h.quiet.trans hb.1, h.kept.mramJ.trans hb.2⟩

theorem completes (h : Within dt l s u) {c : Instr} {P : State → Prop} (hc : exec c s = done s u) (hb : Between s) (hP : P u) :
    Completes c s P :=
  completes_of_kept hc hb h.kept h.quiet hP

end Within

/-! ### One bit of a field -/

theorem testBit_putBit {f : Fld} {i j : Nat} (hj : j < fldWidth f) (s : State) :
    (rd (putBit f i s) f).testBit j = ((rd s f).testBit j || j == i) := by
  rw [show (j == i) = decide (i = j) from decide_eq_decide.2 eq_comm]
  simp [Nat.testBit_mod_two_pow, testBit_setBit, hj]

theorem testBit_clearBit {f : Fld} {i j : Nat} (hj : j < fldWidth f) (s : State) :
    (rd (clearBit f i s) f).testBit j = ((rd s f).testBit j && j != i) := by
  rw [show (j != i) = !decide (i = j) from congrArg (!·) (decide_eq_decide.2 eq_comm)]
  simp [Nat.testBit_mod_two_pow, testBit_clrBit, hj]

/-! ### The host access fault (R513) -/

theorem haf_raised (cause addr : Nat) (s : State) : (haf cause addr s).flt.raised = s.flt.raised ++ [(0, none)] := by
  unfold haf
  dsimp only
  split <;> rfl

theorem haf_gen (cause addr : Nat) (s : State) : (haf cause addr s).gen = s.gen := by
  unfold haf
  dsimp only
  split <;> rfl

/-- the host access fault changes the fields of HAF only -/
theorem regsBut_haf {l : List Fld} {s u : State} (h : RegsBut l s u) (hl : ∀ f ∈ hafFields, f ∈ l) (cause addr : Nat) :
    RegsBut l s (haf cause addr u) := by
  have hr : RegsBut l s (raise 0 none { u with host := { u.host with haf := true } }) := h
  unfold haf
  dsimp only
  split
  · exact regsBut_put hr (hl _ (by simp [hafFields])) _
  · refine regsBut_put ?_ (hl _ (by simp [hafFields])) _
    exact regsBut_put (regsBut_put (regsBut_put hr (hl _ (by simp [hafFields])) 1) (hl _ (by simp [hafFields])) cause)
      (hl _ (by simp [hafFields])) addr

/-- the first host access fault is captured with its cause and address -/
theorem rd_haf_first {s : State} (h : rd s GEN_HAF_VALID = 0) (cause addr : Nat) :
    rd (haf cause addr s) GEN_HAF_VALID = 1 ∧ rd (haf cause addr s) GEN_HAF_ADDR = addr % 2 ^ 24
      ∧ rd (haf cause addr s) GEN_HAF_CAUSE = cause % 2 ^ 4 := by
  have hoff : on (raise 0 none { s with host := { s.host with haf := true } }) GEN_HAF_VALID = false := on_eq_false h
  unfold haf
  simp only [hoff, Bool.false_eq_true, if_false]
  refine ⟨?_, ?_, ?_⟩ <;> simp [rd_put_ne]

/-! ### A plain write of a register of GEN -/

/-- the address of a register of GEN that keeps no batch -/
abbrev GenReg (addr : Nat) : Prop := PlainWord addr ∧ blockOf addr = 0 ∧ rwsGroupOf addr = none ∧ isPartnerReg addr = false

/-- a plain write of a register of GEN while nothing waits: GEN takes it, unless it waits for the image or a lock stands in its way
(R488, R511) -/
theorem writeReg_gen {s : State} {dt addr data : Nat} (hi : HostIdle s) (hg : GenReg addr)
    (ha : s.img.applied = true ∨ addr ≠ 8 ∧ addr ≠ 0x10) (hl : addr = 8 ∨ ∀ v, lockHit (Issued addr dt s) addr 15 v = false) :
    writeReg addr 0 data (pass dt s) =
      genWrite { addr := addr, be := 15, data := data % 2 ^ 32 } (mergeWord (liveWord (Issued addr dt s) addr) 15 (data % 2 ^ 32))
        (Issued addr dt s) := by
  obtain ⟨⟨h4, h24, hw, hal, hr, -⟩, hblk, hgrp, hp⟩ := hg
  obtain ⟨r, hr⟩ := Option.isSome_iff_exists.1 hr
  have hpr : prTarget (Issued addr dt s) ≠ some 0 := prTarget_block (.inl (by omega))
  have hfree : hostBlocked (Issued addr dt s) addr = false := by
    rcases ha with ha | ⟨h8, h10⟩
    · simp [hostBlocked, hblk, hp, hpr, ha]
    · simp [hostBlocked, hblk, hp, hpr, h8, h10]
  have hunlocked : ∀ v, (addr != 8 && lockHit (Issued addr dt s) addr 15 v) = false := by
    intro v
    rcases hl with rfl | hl
    · rfl
    · rw [hl v, Bool.and_false]
  rw [writeReg_idle (hostIdle_pass.2 hi) _ _ _ h4]
  simp only [Nat.zero_mod, Nat.zero_mul, Nat.add_zero, hw, hal, Nat.mod_eq_of_lt h24]
  change writeWord addr 0 15 (data % 2 ^ 32) (Issued addr dt s) = _
  simp only [writeWord, hfree, hr, hgrp, aliasData, hunlocked, takeWrite, hblk, bne_self_eq_false, Bool.and_false, Bool.false_eq_true,
    if_false]

/-- the low 32 bits of a word written with all byte enables are the data -/
theorem mergeWord_all (old data : Nat) : mergeWord old 15 (data % 2 ^ 32) % 2 ^ 32 = data % 2 ^ 32 := by
  have hm : beMask 15 = 2 ^ 32 - 1 := by decide
  rw [mergeWord, hm, clrMask_mod_or, Nat.and_two_pow_sub_one_eq_mod, Nat.mod_mod, Nat.mod_mod]

/-! ### Writes of GEN.MODE (R44, R46, R60) -/

theorem genReg_mode : GenReg 8 := by decide +kernel

theorem genWrite_mode (data v : Nat) (s : State) : genWrite { addr := 8, be := 15, data := data } v s = modeWrite (v % 256) s := by
  simp [genWrite, bitAt]

/-- a write of GEN.MODE acts on its low eight bits -/
theorem exec_genModeWrite {s : State} (dt data : Nat) (hi : HostIdle s) (ha : s.img.applied = true) :
    exec (.genModeWrite dt 0 data) s = done s (modeWrite (data % 256) (Issued 8 dt s)) := by
  have hv := mergeWord_all (liveWord (Issued 8 dt s) 8) data
  change done s (writeReg 8 0 data (pass dt s)) = _
  rw [writeReg_gen hi genReg_mode (.inl ha) (.inl rfl), genWrite_mode]
  congr 2
  omega

/-- with BUSY = 0 and the lock not against it, GEN.MODE takes the value written -/
theorem modeWrite_start {s : State} {m : Nat} (hm : m < 256) (hbusy : rd s GEN_MODESTAT_BUSY = 0)
    (hlock : rd s GEN_LOCK_SE_LOCK = 0 ∨ m / 128 = rd s GEN_MODE_MODE_SE) : modeWrite m s = modeStart m s := by
  have hfree : (on s GEN_LOCK_SE_LOCK && bitAt m 7 != on s GEN_MODE_MODE_SE) = false := by
    rcases hlock with h | h
    · rw [on_eq_false h, Bool.false_and]
    · have hse : bitAt m 7 = on s GEN_MODE_MODE_SE := by
        rw [on, ← h, bitAt, Nat.testBit_eq_decide_div_mod_eq, Nat.mod_eq_of_lt (show m / 2 ^ 7 < 2 by omega)]
        rfl
      rw [hse, bne_self_eq_false, Bool.and_false]
  simp only [modeWrite, on_eq_false hbusy, hfree, Bool.false_eq_true, if_false]

/-- with BUSY = 1, or with the lock against it, a write of GEN.MODE sets REJECT and is the host access fault -/
theorem modeWrite_reject {s : State} {m : Nat} (hno : rd s GEN_MODESTAT_BUSY = 1
      ∨ (rd s GEN_MODESTAT_BUSY = 0 ∧ rd s GEN_LOCK_SE_LOCK = 1 ∧ rd s GEN_MODE_MODE_SE = 1 ∧ m < 128)) :
    modeWrite m s = haf (if rd s GEN_MODESTAT_BUSY = 1 then 4 else 3) s.host.cur (put GEN_MODESTAT_REJECT 1 s) := by
  rcases hno with hbusy | ⟨hbusy, hlock, hse, hm⟩
  · simp only [modeWrite, on_eq_true hbusy, hbusy, if_true]
    rfl
  · have h7 : bitAt m 7 = false := Nat.testBit_lt_two_pow (by omega)
    simp [modeWrite, on_eq_false hbusy, on_eq_true hlock, on_eq_true hse, hbusy, h7]

/-- a refused write of GEN.MODE -/
theorem effects_modeWrite_reject {dt data : Nat} {s : State} (hb : Between s) (hi : HostIdle s) (ha : s.img.applied = true)
    (hno : rd s GEN_MODESTAT_BUSY = 1
      ∨ (rd s GEN_MODESTAT_BUSY = 0 ∧ rd s GEN_LOCK_SE_LOCK = 1 ∧ rd s GEN_MODE_MODE_SE = 1 ∧ data % 256 < 128)) :
    Effects (.genModeWrite dt 0 data) s (fun v => rd v GEN_MODESTAT_REJECT = 1 ∧ v.flt.raised = [(0, none)]
      ∧ (rd s GEN_HAF_VALID = 0 → rd v GEN_HAF_VALID = 1 ∧ rd v GEN_HAF_ADDR = 8 ∧ rd v GEN_HAF_CAUSE = if rd s GEN_MODESTAT_BUSY = 1 then 4 else 3)
      ∧ RegsBut (GEN_MODESTAT_REJECT :: [GEN_HAF_VALID, GEN_HAF_CAUSE, GEN_HAF_ADDR, GEN_HAF_MORE]) s v ∧ StoresSame s v) := by
  have hw := (within_issued 8 dt (GEN_MODESTAT_REJECT :: [GEN_HAF_VALID, GEN_HAF_CAUSE, GEN_HAF_ADDR, GEN_HAF_MORE]) s).put List.mem_cons_self 1
  have he := exec_genModeWrite dt data hi ha
  rw [modeWrite_reject (by simpa using hno)] at he
  refine ⟨_, he, ?_, ?_, fun hv => ?_, regsBut_haf hw.regs (by simp [hafFields]) _ _, (hw.kept.haf _ _).storesSame⟩
  · rw [regsBut_haf (l := hafFields) (fun _ _ => rfl) (fun _ h => h) _ _ _ (by simp [hafFields])]
    simp
  · rw [haf_raised, hw.raised hb, List.nil_append]
  · obtain ⟨hvalid, haddr, hcause⟩ := rd_haf_first (s := put GEN_MODESTAT_REJECT 1 (Issued 8 dt s)) (by simpa [rd_put_ne] using hv)
      (if rd s GEN_MODESTAT_BUSY = 1 then 4 else 3) 8
    rw [rd_issued]
    refine ⟨hvalid, haddr, hcause.trans ?_⟩
    split <;> rfl

theorem putMode_eq (v : Nat) (s : State) : putMode v s =
    put GEN_MODE_MODE_SE (b2n (bitAt v 7)) (put GEN_MODE_MODE_MT (b2n (bitAt v 6)) (put GEN_MODE_MODE_CA (b2n (bitAt v 5))
      (put GEN_MODE_MODE_AS (b2n (bitAt v 4)) (put GEN_MODE_MODE_MS (b2n (bitAt v 3)) (put GEN_MODE_MODE_FR (b2n (bitAt v 2))
        (put GEN_MODE_MODE_TC (b2n (bitAt v 1)) (put GEN_MODE_MODE_TS (b2n (bitAt v 0)) s))))))) := (rfl)

theorem b2n_mod_two (b : Bool) : b2n b % 2 = b.toNat := by cases b <;> rfl

/-- each field of GEN.MODE reads its bit of the value put -/
theorem rd_putMode (v : Nat) (s : State) : ∀ i < 8, rd (putMode v s) (modeFields.getD i GEN_MODE_MODE_TS) = (v.testBit i).toNat := by
  intro i hi
  rw [putMode_eq]
  interval_cases i <;> simp [modeFields, rd_put_ne, b2n_mod_two, bitAt]

theorem Within.putMode {dt : Nat} {l : List Fld} {s u : State} (h : Within dt l s u) (hl : ∀ f ∈ modeFields, f ∈ l) (v : Nat) :
    Within dt l s (putMode v u) := by
  simp only [modeFields, List.forall_mem_cons] at hl
  obtain ⟨hts, htc, hfr, hms, has, hca, hmt, hse, -⟩ := hl
  exact (((((((h.put hts _).put htc _).put hfr _).put hms _).put has _).put hca _).put hmt _).put hse _

/-- what a write of GEN.MODE stores: its eight bits, no store and no command more -/
def ModeStored (dt m : Nat) (s t : State) : Prop :=
  (∀ i < 8, rd t (modeFields.getD i GEN_MODE_MODE_TS) = (m.testBit i).toNat) ∧ t.now = s.now + dt ∧ StoresSame s t

/-- a write of GEN.MODE that differs from EFFECTIVE in no bit -/
theorem completes_modeWrite_same {dt data : Nat} {s : State} (hb : Between s) (hi : HostIdle s) (ha : s.img.applied = true)
    (hbusy : rd s GEN_MODESTAT_BUSY = 0) (hlock : rd s GEN_LOCK_SE_LOCK = 0 ∨ data % 256 / 128 = rd s GEN_MODE_MODE_SE)
    (ht : modeList (rd s GEN_MODESTAT_EFFECTIVE) (data % 256) = []) :
    Completes (.genModeWrite dt 0 data) s (fun t => ModeStored dt (data % 256) s t ∧ RegsBut modeFields s t) := by
  have hw := ((within_issued 8 dt modeFields s).modGen _).putMode (u := genKeep (Issued 8 dt s)) (fun _ h => h) (data % 256)
  refine hw.completes ?_ hb ⟨⟨rd_putMode _ _, hw.now, hw.storesSame⟩, hw.regs⟩
  rw [exec_genModeWrite dt data hi ha, modeWrite_start (Nat.mod_lt _ (by decide)) (by simpa using hbusy) (by simpa using hlock)]
  simp [modeStart, ht]

/-- phase by phase: where round a of a loop changes the phase of block k a only, that block ends with what its round makes of the phase it
began with; I is what the rounds keep -/
theorem isoOf_forEach {f : Nat → State → State} {k : Nat → Nat} {g : Nat → IsoPhase → IsoPhase} {I : State → Prop}
    (hk : ∀ a b, k a = k b → a = b) (hI : ∀ a u, I u → I (f a u)) {xs : List Nat} (hs : ∀ a ∈ xs, ∀ u, I u → isoOf (f a u) (k a) = g a (isoOf u (k a)))
    (ho : ∀ a u b, k a ≠ b → isoOf (f a u) b = isoOf u b) (hnd : xs.Nodup) {s : State} (h0 : I s) :
    ∀ a ∈ xs, isoOf (forEach xs f s) (k a) = g a (isoOf s (k a)) := by
  have hout : ∀ (ys : List Nat) (u : State) (b : Nat), (∀ a ∈ ys, k a ≠ b) → isoOf (forEach ys f u) b = isoOf u b := by
    intro ys
    induction ys with
    | nil => intro u b _; rfl
    | cons c r ih =>
      intro u b hb
      rw [forEach_cons, ih _ _ (fun a ha => hb a (by simp [ha])), ho c u b (hb c (by simp))]
  induction xs generalizing s with
  | nil => intro a ha; simp at ha
  | cons c r ih =>
    obtain ⟨hc, hr⟩ := List.nodup_cons.1 hnd
    intro a ha
    rw [forEach_cons]
    rcases List.mem_cons.1 ha with rfl | har
    · rw [hout r _ _ (fun b hb e => hc (hk b a e ▸ hb)), hs a (by simp) s h0]
    · rw [ih (fun b hb => hs b (by simp [hb])) hr (hI c s h0) a har, ho c s (k a) (fun e => hc (hk c a e ▸ har))]

theorem isoOf_putIso_same {b : Nat} (hb : b < 16) (p : IsoPhase) (s : State) : isoOf (putIso b p s) b = p := ix_vset_same _ _ hb

theorem isoOf_putIso_ne {b c : Nat} (h : b ≠ c) (p : IsoPhase) (s : State) : isoOf (putIso b p s) c = isoOf s c := ix_vset_ne _ _ h

/-- one round of a starting MT exit: the isolation of block b, requested in the present core cycle, does not take place -/
def dropRound (b : Nat) (s : State) : State := if isoOf s b = .isolating && ix s.gen.isoAt b == cycleNow s + 1 then putIso b .none s else s

theorem dropNewIso_eq (s : State) : dropNewIso s = forEach (List.range 16) dropRound s := (rfl)

theorem isoOf_dropRound_same {b : Nat} (hb : b < 16) (s : State) :
    isoOf (dropRound b s) b = if isoOf s b = .isolating ∧ ix s.gen.isoAt b = cycleNow s + 1 then .none else isoOf s b := by
  simp only [dropRound, Bool.and_eq_true, decide_eq_true_eq, beq_iff_eq]
  split
  · exact isoOf_putIso_same hb _ s
  · rfl

theorem isoOf_dropRound_ne {b c : Nat} (h : b ≠ c) (s : State) : isoOf (dropRound b s) c = isoOf s c := by
  unfold dropRound
  split
  · exact isoOf_putIso_ne h _ s
  · rfl

theorem Within.dropNewIso {dt : Nat} {l : List Fld} {s u : State} (h : Within dt l s u) : Within dt l s (dropNewIso u) := by
  rw [dropNewIso_eq]
  refine Within.forEach (fun b v hv => ?_) _ h
  unfold dropRound
  split
  · exact hv.modGen _
  · exact hv

/-- a starting MT exit drops the isolations requested in its own core cycle, and no other phase changes (R60) -/
theorem isoOf_dropNewIso (s : State) : ∀ b < 16, isoOf (dropNewIso s) b =
    if isoOf s b = .isolating ∧ ix s.gen.isoAt b = cycleNow s + 1 then .none else isoOf s b := by
  intro b hb
  rw [dropNewIso_eq]
  refine isoOf_forEach (k := id) (g := fun b p => if p = .isolating ∧ ix s.gen.isoAt b = cycleNow s + 1 then .none else p)
    (I := fun u => u.gen.isoAt = s.gen.isoAt ∧ u.now = s.now) (fun _ _ h => h) (fun a u hu => ?_) (fun a ha u hu => ?_) (fun a u c hc => ?_)
    List.nodup_range ⟨rfl, rfl⟩ b (List.mem_range.2 hb)
  · unfold dropRound
    split <;> exact hu
  · obtain ⟨hat, hnow⟩ := hu
    rw [id, isoOf_dropRound_same (List.mem_range.1 ha), cycleNow, hat, hnow]
    rfl
  · exact isoOf_dropRound_ne hc u

/-- GEN.MODE holds m, the isolations that a starting MT exit forbids are dropped; no sequence waits yet -/
def modeTaken (m : Nat) (s : State) : State :=
  if (modeList (rd s GEN_MODESTAT_EFFECTIVE) m).contains (6, false) then dropNewIso (putMode m (genKeep s)) else putMode m (genKeep s)

/-- the sequences of a write of GEN.MODE wait, the first one not begun -/
def modeWaiting (m : Nat) (s : State) : State :=
  modGen (fun g => { g with todo := modeList (rd s GEN_MODESTAT_EFFECTIVE) m })
    (put GEN_MODESTAT_BUSY 1 (put GEN_MODESTAT_IN_TRANSIT (rd s GEN_MODESTAT_EFFECTIVE ^^^ m) (modeTaken m s)))

theorem modeStart_waiting {m : Nat} {s : State} (h : modeList (rd s GEN_MODESTAT_EFFECTIVE) m ≠ []) :
    modeStart m s = modeBegin (modeWaiting m s) := by
  have he : (modeList (rd s GEN_MODESTAT_EFFECTIVE) m).isEmpty = false := by simpa using h
  simp only [modeStart, he, Bool.false_eq_true, if_false]
  rfl

/-- the fields that a write of GEN.MODE changes when it starts sequences -/
def modeStartFields : List Fld := modeFields ++ [GEN_MODESTAT_BUSY, GEN_MODESTAT_IN_TRANSIT]

theorem within_modeTaken {dt m : Nat} {l : List Fld} {s u : State} (h : Within dt l s u) (hl : ∀ f ∈ modeFields, f ∈ l) :
    Within dt l s (modeTaken m u) := by
  have hput := (h.modGen _).putMode (u := genKeep u) hl m
  unfold modeTaken
  split
  · exact hput.dropNewIso
  · exact hput

theorem within_modeWaiting {dt m : Nat} {s u : State} (h : Within dt modeStartFields s u) : Within dt modeStartFields s (modeWaiting m u) :=
  (((within_modeTaken h (by simp +contextual [modeStartFields])).put (by simp [modeStartFields]) _).put (by simp [modeStartFields]) 1).modGen _

theorem regs_dropNewIso (s : State) : (dropNewIso s).regs = s.regs := by
  rw [dropNewIso_eq]
  refine forEach_keeps (·.regs) _ _ _ fun b u => ?_
  unfold dropRound
  split <;> rfl

theorem rd_modeTaken (m : Nat) (s : State) (f : Fld) : rd (modeTaken m s) f = rd (putMode m (genKeep s)) f := by
  unfold modeTaken
  split
  · exact rd_congr (regs_dropNewIso _) f
  · rfl

theorem putMode_gen (m : Nat) (s : State) : (putMode m s).gen = s.gen := by simp [putMode_eq]

theorem putMode_now (m : Nat) (s : State) : (putMode m s).now = s.now := by simp [putMode_eq]

/-- the phases of the blocks as a write of GEN.MODE leaves them before its first sequence begins -/
theorem isoOf_modeTaken (m : Nat) (s : State) : ∀ b < 16, isoOf (modeTaken m s) b =
    if (6, false) ∈ modeList (rd s GEN_MODESTAT_EFFECTIVE) m ∧ isoOf s b = .isolating ∧ ix s.gen.isoAt b = cycleNow s + 1 then .none
    else isoOf s b := by
  intro b hb
  by_cases h : (6, false) ∈ modeList (rd s GEN_MODESTAT_EFFECTIVE) m
  · rw [modeTaken, if_pos (by simpa using h), isoOf_dropNewIso _ b hb]
    simp [h, isoOf, cycleNow, putMode_gen, putMode_now, genKeep]
  · rw [modeTaken, if_neg (by simpa using h)]
    simp [h, isoOf, putMode_gen, genKeep]

/-- a write of GEN.MODE that differs from EFFECTIVE -/
theorem leads_modeWrite {dt data : Nat} {s : State} (hb : Between s) (hi : HostIdle s) (ha : s.img.applied = true)
    (hbusy : rd s GEN_MODESTAT_BUSY = 0) (hlock : rd s GEN_LOCK_SE_LOCK = 0 ∨ data % 256 / 128 = rd s GEN_MODE_MODE_SE)
    (ht : modeList (rd s GEN_MODESTAT_EFFECTIVE) (data % 256) ≠ []) :
    Leads (.genModeWrite dt 0 data) s modeBegin (fun u =>
      ModeStored dt (data % 256) s u ∧ u.gen.todo = modeList (rd s GEN_MODESTAT_EFFECTIVE) (data % 256)
      ∧ (∀ b < 16, ix u.gen.iso b = if (6, false) ∈ modeList (rd s GEN_MODESTAT_EFFECTIVE) (data % 256) ∧ ix s.gen.iso b = .isolating
          ∧ ix s.gen.isoAt b = cycleOf (s.now + dt) + 1 then .none else ix s.gen.iso b)
      ∧ rd u GEN_MODESTAT_BUSY = 1 ∧ rd u GEN_MODESTAT_IN_TRANSIT = (rd s GEN_MODESTAT_EFFECTIVE ^^^ data % 256) % 256 ∧ u.flt.raised = []
      ∧ RegsBut (modeFields ++ [GEN_MODESTAT_BUSY, GEN_MODESTAT_IN_TRANSIT]) s u) := by
  have hw := within_modeWaiting (m := data % 256) (within_issued 8 dt modeStartFields s)
  have he : Brings (.genModeWrite dt 0 data) s (modeBegin (modeWaiting (data % 256) (Issued 8 dt s))) := by
    rw [← modeStart_waiting (by simpa using ht), ← modeWrite_start (Nat.mod_lt _ (by decide)) (by simpa using hbusy) (by simpa using hlock)]
    exact exec_genModeWrite dt data hi ha
  refine ⟨_, he, ⟨fun i hlt => ?_, hw.now, hw.storesSame⟩, ?_, fun b hlt => ?_, ?_, ?_, hw.raised hb, hw.regs⟩
  · rw [← rd_putMode (data % 256) (genKeep (Issued 8 dt s)) i hlt, ← rd_modeTaken]
    interval_cases i <;> simp [modeWaiting, modeFields, rd_put_ne]
  · simp [modeWaiting]
  · have hiso := isoOf_modeTaken (data % 256) (Issued 8 dt s) b hlt
    simpa [isoOf, cycleNow, modeWaiting] using hiso
  · simp [modeWaiting]
  · simp [modeWaiting, rd_put_ne]

/-! ### The completion of a mode sequence (R46) -/

/-- an MT exit cannot complete: a block is isolated, or a partial reload runs -/
def exitHeld (i : Nat) (entry : Bool) (s : State) : Prop :=
  i = 6 ∧ entry = false ∧ ((∃ b < 16, ix s.gen.iso b ≠ .none) ∨ (7 ≤ rd s IMG_STATUS_STATE ∧ rd s IMG_STATUS_STATE ≤ 9))

theorem exitHeld_iff (i : Nat) (entry : Bool) (s : State) : exitHeld i entry s ↔
    (i = 6 && !entry && ((List.range 16).any (fun b => isoOf s b != .none) || prRunning s)) = true := by
  simp [exitHeld, prRunning, isoOf, and_assoc]

/-- the sequence of bit i has completed: its bit of EFFECTIVE and of IN_TRANSIT changed, rest still to run -/
def sequenceEnded (i : Nat) (entry : Bool) (rest : List (Nat × Bool)) (s : State) : State :=
  let t := clearBit GEN_MODESTAT_IN_TRANSIT i (modGen (fun g => { g with todo := rest, mtRel := false }) s)
  if entry then putBit GEN_MODESTAT_EFFECTIVE i t else clearBit GEN_MODESTAT_EFFECTIVE i t

section
variable {dt i : Nat} {entry : Bool} {rest : List (Nat × Bool)} {s : State}

theorem modeDone_held (ht : s.gen.todo = (i, entry) :: rest) (hh : exitHeld i entry s) : modeDone s = s := by
  simp only [modeDone, ht, (exitHeld_iff i entry s).1 hh, if_true]

theorem modeDone_ended (ht : s.gen.todo = (i, entry) :: rest) (hh : ¬ exitHeld i entry s) :
    modeDone s = modeFollow i entry (sequenceEnded i entry rest s) := by
  simp only [modeDone, ht, Bool.eq_false_iff.2 (mt (exitHeld_iff i entry s).2 hh), Bool.false_eq_true, if_false]
  rfl

theorem exitHeld_pass : exitHeld i entry (pass dt s) ↔ exitHeld i entry s := by simp [exitHeld]

theorem within_sequenceEnded {l : List Fld} {u : State} (h : Within dt l s u) (he : GEN_MODESTAT_EFFECTIVE ∈ l)
    (ht : GEN_MODESTAT_IN_TRANSIT ∈ l) : Within dt l s (sequenceEnded i entry rest u) := by
  have hclear := (h.modGen (fun g => { g with todo := rest, mtRel := false })).clearBit ht i
  cases entry with
  | false => exact hclear.clearBit he i
  | true => exact hclear.putBit he i

/-- bit i of EFFECTIVE takes the side of its sequence, the others stay -/
theorem effective_sequenceEnded : ∀ j < 8, (rd (sequenceEnded i entry rest s) GEN_MODESTAT_EFFECTIVE).testBit j =
    if j = i then entry else (rd s GEN_MODESTAT_EFFECTIVE).testBit j := by
  intro j hj
  have hsame : rd (clearBit GEN_MODESTAT_IN_TRANSIT i (modGen (fun g => { g with todo := rest, mtRel := false }) s)) GEN_MODESTAT_EFFECTIVE
      = rd s GEN_MODESTAT_EFFECTIVE := by simp [rd_put_ne]
  cases entry with
  | false =>
    rw [sequenceEnded, if_neg Bool.false_ne_true, testBit_clearBit (by simpa using hj), hsame]
    split_ifs with h
    · simp [h]
    · simp [bne_iff_ne.2 h]
  | true =>
    rw [sequenceEnded, if_pos rfl, testBit_putBit (by simpa using hj), hsame]
    split_ifs with h
    · simp [h]
    · simp [beq_eq_false_iff_ne.2 h]

/-- bit i of IN_TRANSIT is cleared, the others stay -/
theorem inTransit_sequenceEnded : ∀ j < 8, (rd (sequenceEnded i entry rest s) GEN_MODESTAT_IN_TRANSIT).testBit j =
    ((rd s GEN_MODESTAT_IN_TRANSIT).testBit j && j != i) := by
  intro j hj
  have hlast : rd (sequenceEnded i entry rest s) GEN_MODESTAT_IN_TRANSIT =
      rd (clearBit GEN_MODESTAT_IN_TRANSIT i (modGen (fun g => { g with todo := rest, mtRel := false }) s)) GEN_MODESTAT_IN_TRANSIT := by
    cases entry <;> simp [sequenceEnded, rd_put_ne]
  rw [hlast, testBit_clearBit (by simpa using hj), rd_modGen]

theorem todo_sequenceEnded : (sequenceEnded i entry rest s).gen.todo = rest := by cases entry <;> rfl

/-- the sequence in hand of a held MT exit waits -/
theorem completes_modeDone_held (hb : Between s) (ht : s.gen.todo = (i, entry) :: rest) (hh : exitHeld i entry s) :
    Completes (.modeSequenceDone dt) s (fun t => t.gen = s.gen ∧ t.now = s.now + dt ∧ RegsBut [] s t ∧ StoresSame s t) := by
  have hw := within_pass dt [] s
  refine hw.completes ?_ hb ⟨by simp, hw.now, hw.regs, hw.storesSame⟩
  change done s (modeDone (pass dt s)) = _
  rw [modeDone_held (by simpa using ht) (exitHeld_pass.2 hh)]

theorem exec_modeDone_ended (ht : s.gen.todo = (i, entry) :: rest) (hh : ¬ exitHeld i entry s) :
    exec (.modeSequenceDone dt) s = done s (modeFollow i entry (sequenceEnded i entry rest (pass dt s))) := by
  change done s (modeDone (pass dt s)) = _
  rw [modeDone_ended (by simpa using ht) (mt exitHeld_pass.1 hh)]

theorem leads_modeDone (hb : Between s) (ht : s.gen.todo = (i, entry) :: rest) (hh : ¬ exitHeld i entry s) :
    Leads (.modeSequenceDone dt) s (modeFollow i entry) (fun u =>
      (∀ j < 8, (rd u GEN_MODESTAT_EFFECTIVE).testBit j = if j = i then entry else (rd s GEN_MODESTAT_EFFECTIVE).testBit j)
      ∧ (∀ j < 8, (rd u GEN_MODESTAT_IN_TRANSIT).testBit j = ((rd s GEN_MODESTAT_IN_TRANSIT).testBit j && j != i))
      ∧ u.gen.todo = rest ∧ u.now = s.now + dt ∧ u.flt.raised = []
      ∧ RegsBut [GEN_MODESTAT_EFFECTIVE, GEN_MODESTAT_IN_TRANSIT] s u ∧ StoresSame s u) := by
  have hw := within_sequenceEnded (i := i) (entry := entry) (rest := rest)
    (within_pass dt [GEN_MODESTAT_EFFECTIVE, GEN_MODESTAT_IN_TRANSIT] s) (by simp) (by simp)
  refine ⟨_, exec_modeDone_ended ht hh, fun j hj => ?_, fun j hj => ?_, todo_sequenceEnded, hw.now, hw.raised hb, hw.regs, hw.storesSame⟩
  · rw [effective_sequenceEnded j hj, rd_pass]
  · rw [inTransit_sequenceEnded j hj, rd_pass]

/-- nothing follows an entry or exit of MS, and an entry of MT, but the end of the change -/
theorem modeFollow_last (hi : i = 3 ∨ (i = 6 ∧ entry = true)) (ht : s.gen.todo = []) :
    modeFollow i entry s = put GEN_IRQ_STAT_MODECHG 1 (put GEN_MODESTAT_BUSY 0 s) := by
  have heffect : modeEffect i entry s = s := by rcases hi with rfl | ⟨rfl, -⟩ <;> rfl
  simp only [modeFollow, heffect, ht, List.isEmpty_nil, if_true]

theorem completes_modeDone_last (hb : Between s) (ht : s.gen.todo = (i, entry) :: rest) (hlt : i < 8) (hh : ¬ exitHeld i entry s)
    (hi : i = 3 ∨ (i = 6 ∧ entry = true)) (hr : rest = []) :
    Completes (.modeSequenceDone dt) s (fun t =>
      rd t GEN_MODESTAT_BUSY = 0 ∧ rd t GEN_IRQ_STAT_MODECHG = 1 ∧ (rd t GEN_MODESTAT_EFFECTIVE).testBit i = entry
      ∧ RegsBut [GEN_MODESTAT_EFFECTIVE, GEN_MODESTAT_IN_TRANSIT, GEN_MODESTAT_BUSY, GEN_IRQ_STAT_MODECHG] s t ∧ StoresSame s t) := by
  have hw := ((within_sequenceEnded (i := i) (entry := entry) (rest := rest)
    (within_pass dt [GEN_MODESTAT_EFFECTIVE, GEN_MODESTAT_IN_TRANSIT, GEN_MODESTAT_BUSY, GEN_IRQ_STAT_MODECHG] s) (by simp) (by simp)).put
      (f := GEN_MODESTAT_BUSY) (by simp) 0).put (f := GEN_IRQ_STAT_MODECHG) (by simp) 1
  have heff : (rd (sequenceEnded i entry rest (pass dt s)) GEN_MODESTAT_EFFECTIVE).testBit i = entry := by
    rw [effective_sequenceEnded i hlt, if_pos rfl]
  refine hw.completes ?_ hb ⟨by simp [rd_put_ne], by simp, by simpa [rd_put_ne] using heff, hw.regs, hw.storesSame⟩
  rw [exec_modeDone_ended ht hh, modeFollow_last hi (todo_sequenceEnded.trans hr)]

end

/-! ### Writes of GEN.ISOLATE (R55) -/

theorem genReg_isolate : GenReg 0x10 := by decide +kernel

/-- no field of GEN.ISOLATE is under the lock -/
theorem lockHit_isolate (s : State) (v : Nat) : lockHit s 0x10 15 v = false := by
  have hf : fieldsAt 0x10 = [(GEN_ISOLATE_ISO_DONE, 0), (GEN_ISOLATE_ISO_REQ, 1)] := by decide +kernel
  simp [lockHit, hf]

theorem genWrite_isolate (data v : Nat) (s : State) : genWrite { addr := 0x10, be := 15, data := data } v s = isolateWrite (bitsOf v 14 4) s := by
  simp [genWrite]

/-- the bits of ISO_REQ in a word written to GEN.ISOLATE -/
def isoReqOf (data : Nat) : Nat := data % 2 ^ 32 / 16 % 2 ^ 11

theorem testBit_isoReqOf {data j : Nat} (hj : j < 11) : (isoReqOf data).testBit j = data.testBit (j + 4) := by
  rw [isoReqOf, show (16 : Nat) = 2 ^ 4 from rfl, Nat.testBit_mod_two_pow, Nat.testBit_div_two_pow, Nat.testBit_mod_two_pow]
  simp [hj, show j + 4 < 32 by omega]

theorem exec_genIsolateWrite {s : State} (dt data : Nat) (hi : HostIdle s) (ha : s.img.applied = true) :
    exec (.genIsolateWrite dt 0 data) s = done s (isolateWrite (isoReqOf data) (Issued 0x10 dt s)) := by
  have hv := mergeWord_all (liveWord (Issued 0x10 dt s) 0x10) data
  change done s (writeReg 0x10 0 data (pass dt s)) = _
  rw [writeReg_gen hi genReg_isolate (.inl ha) (.inr (lockHit_isolate _)), genWrite_isolate]
  congr 2
  rw [bitsOf, Nat.shiftRight_eq_div_pow, isoReqOf]
  omega

/-- what a write of GEN.ISOLATE makes of the phase of a block: req is its bit of ISO_REQ (R55) -/
def isoAsked (req : Bool) (p : IsoPhase) : IsoPhase :=
  if req then (if p = .none then .isolating else if p = .releasing then .releasingAgain else p)
  else (if p = .isolated ∨ p = .releasingAgain then .releasing else p)

/-- one round of a write of GEN.ISOLATE: block j + 4 is asked to be isolated or released -/
def isoRound (v j : Nat) (s : State) : State :=
  match isoOf s (j + 4), bitAt v j with
  | .none, true => beginIso (j + 4) s
  | .releasing, true => putIso (j + 4) .releasingAgain s
  | .isolated, false => putIso (j + 4) .releasing s
  | .releasingAgain, false => putIso (j + 4) .releasing s
  | _, _ => s

theorem isolateWrite_taken {s : State} {v : Nat} (hm : mode s 6 = true) (ht : bitAt (rd s GEN_MODESTAT_IN_TRANSIT) 6 = false) :
    isolateWrite v s = forEach (List.range 11) (isoRound v) (put GEN_ISOLATE_ISO_REQ v (genKeep s)) := by
  simp only [isolateWrite, hm, ht, Bool.not_true, Bool.or_false, Bool.false_eq_true, if_false]
  rfl

theorem isolateWrite_refused {s : State} {v : Nat} (h : mode s 6 = false ∨ bitAt (rd s GEN_MODESTAT_IN_TRANSIT) 6 = true) :
    isolateWrite v s = refuse s := by
  have hno : (!mode s 6 || bitAt (rd s GEN_MODESTAT_IN_TRANSIT) 6) = true := by simpa using h
  simp only [isolateWrite, hno, if_true]

/-- ISO_REQ is stored before the blocks are asked -/
theorem isoOf_isolateStored (v a dt : Nat) (s : State) (b : Nat) :
    isoOf (put GEN_ISOLATE_ISO_REQ v (genKeep (Issued a dt s))) b = ix s.gen.iso b := by simp [isoOf, genKeep]

theorem isoOf_beginIso {b c : Nat} (s : State) : isoOf (beginIso b s) c = isoOf (putIso b .isolating s) c := (rfl)

theorem isoOf_isoRound_same {j : Nat} (hj : j < 11) (v : Nat) (s : State) :
    isoOf (isoRound v j s) (j + 4) = isoAsked (bitAt v j) (isoOf s (j + 4)) := by
  have hb : j + 4 < 16 := by omega
  cases hp : isoOf s (j + 4) <;> cases hv : bitAt v j <;> simp [isoRound, isoAsked, hp, hv, isoOf_beginIso, isoOf_putIso_same hb]

theorem isoOf_isoRound_ne {j b : Nat} (hb : j + 4 ≠ b) (v : Nat) (s : State) : isoOf (isoRound v j s) b = isoOf s b := by
  cases hp : isoOf s (j + 4) <;> cases hv : bitAt v j <;> simp [isoRound, hp, hv, isoOf_beginIso, isoOf_putIso_ne hb]

/-- the rounds of a write of GEN.ISOLATE, one for each block -/
theorem isoOf_isoRounds (v : Nat) (s : State) : ∀ j < 11,
    isoOf (forEach (List.range 11) (isoRound v) s) (j + 4) = isoAsked (bitAt v j) (isoOf s (j + 4)) := fun j hj =>
  isoOf_forEach (k := (· + 4)) (g := fun j p => isoAsked (bitAt v j) p) (I := fun _ => True) (fun _ _ h => Nat.add_right_cancel h)
    (fun _ _ h => h) (fun _ h u _ => isoOf_isoRound_same (List.mem_range.1 h) v u) (fun _ u _ h => isoOf_isoRound_ne h v u)
    List.nodup_range trivial j (List.mem_range.2 hj)

theorem rd_isoRound (v j : Nat) (s : State) (f : Fld) : rd (isoRound v j s) f = rd s f := by
  unfold isoRound
  split <;> rfl

theorem Within.isoRound {dt v j : Nat} {l : List Fld} {s u : State} (h : Within dt l s u) : Within dt l s (isoRound v j u) := by
  unfold Modes.isoRound
  split
  · exact (h.modGen _).modGen _
  · exact h.modGen _
  · exact h.modGen _
  · exact h.modGen _
  · exact h

section
variable {dt b data : Nat} {s : State}

theorem completes_isolateWrite (hb : Between s) (hi : HostIdle s) (ha : s.img.applied = true)
    (hm : (rd s GEN_MODESTAT_EFFECTIVE).testBit 6 = true) (ht : (rd s GEN_MODESTAT_IN_TRANSIT).testBit 6 = false) :
    Completes (.genIsolateWrite dt 0 data) s (fun t => rd t GEN_ISOLATE_ISO_REQ = isoReqOf data
      ∧ (∀ j < 11, ix t.gen.iso (j + 4) = isoAsked (data.testBit (j + 4)) (ix s.gen.iso (j + 4)))
      ∧ t.now = s.now + dt ∧ RegsBut [GEN_ISOLATE_ISO_REQ] s t ∧ StoresSame s t) := by
  have hstored : Within dt [GEN_ISOLATE_ISO_REQ] s (put GEN_ISOLATE_ISO_REQ (isoReqOf data) (genKeep (Issued 0x10 dt s))) :=
    ((within_issued 0x10 dt _ s).modGen _).put (List.mem_singleton_self _) _
  have hw := Within.forEach (f := isoRound (isoReqOf data)) (fun _ _ hv => hv.isoRound) (List.range 11) hstored
  refine hw.completes ?_ hb ⟨?_, fun j hj => ?_, hw.now, hw.regs, hw.storesSame⟩
  · rw [exec_genIsolateWrite dt data hi ha, isolateWrite_taken (by simpa [mode, bitAt] using hm) (by simpa [bitAt] using ht)]
  · rw [forEach_keeps (fun u => rd u GEN_ISOLATE_ISO_REQ) _ _ _ (fun j u => rd_isoRound _ j u _), rd_put_same]
    simp [isoReqOf]
  · have hiso := isoOf_isoRounds (isoReqOf data) (put GEN_ISOLATE_ISO_REQ (isoReqOf data) (genKeep (Issued 0x10 dt s))) j hj
    rw [bitAt, testBit_isoReqOf hj, isoOf_isolateStored] at hiso
    simpa only [isoOf] using hiso

theorem effects_isolateWrite_refused (hb : Between s) (hi : HostIdle s) (ha : s.img.applied = true)
    (hno : (rd s GEN_MODESTAT_EFFECTIVE).testBit 6 = false ∨ (rd s GEN_MODESTAT_IN_TRANSIT).testBit 6 = true) :
    Effects (.genIsolateWrite dt 0 data) s (fun v => v.flt.raised = [(0, none)] ∧ v.gen = s.gen
      ∧ RegsBut [GEN_HAF_VALID, GEN_HAF_CAUSE, GEN_HAF_ADDR, GEN_HAF_MORE] s v ∧ StoresSame s v) := by
  have hw := within_issued 0x10 dt [GEN_HAF_VALID, GEN_HAF_CAUSE, GEN_HAF_ADDR, GEN_HAF_MORE] s
  have he := exec_genIsolateWrite dt data hi ha
  rw [isolateWrite_refused (by simpa [mode, bitAt] using hno), refuse] at he
  refine ⟨_, he, ?_, ?_, regsBut_haf hw.regs (by simp [hafFields]) _ _, (hw.kept.haf _ _).storesSame⟩
  · rw [haf_raised, hw.raised hb, List.nil_append]
  · rw [haf_gen, issued_gen]

/-! ### Isolated, released, locked (R55, R93, R511) -/

theorem leads_isolationDone (hb : Between s) (h4 : 4 ≤ b) (h14 : b ≤ 14) (hp : ix s.gen.iso b = .isolating) :
    Leads (.isolationDone dt b) s (isoFollow b) (fun u =>
      ix u.gen.iso b = .isolated ∧ (∀ j < 11, (rd u GEN_ISOLATE_ISO_DONE).testBit j = ((rd s GEN_ISOLATE_ISO_DONE).testBit j || j == b - 4))
      ∧ u.now = s.now + dt ∧ u.flt.raised = [] ∧ RegsBut [GEN_ISOLATE_ISO_DONE] s u ∧ StoresSame s u) := by
  have hw := ((within_pass dt [GEN_ISOLATE_ISO_DONE] s).modGen (fun g => { g with iso := vset g.iso b .isolated })).putBit
    (List.mem_singleton_self GEN_ISOLATE_ISO_DONE) (b - 4)
  have he : Brings (.isolationDone dt b) s (isoFollow b (putBit GEN_ISOLATE_ISO_DONE (b - 4) (putIso b .isolated (pass dt s)))) := by
    change done s (isoDone b (pass dt s)) = _
    simp only [isoDone, isoOf, pass_gen, hp, bne_self_eq_false, Bool.false_eq_true, if_false]
    rfl
  refine ⟨_, he, isoOf_putIso_same (by omega) .isolated (pass dt s), fun j hj => ?_, hw.now, hw.raised hb, hw.regs, hw.storesSame⟩
  rw [testBit_putBit (by simpa using hj)]
  simp [putIso]

theorem leads_releaseDone (hb : Between s) (h4 : 4 ≤ b) (h14 : b ≤ 14) (hp : ix s.gen.iso b = .releasing ∨ ix s.gen.iso b = .releasingAgain)
    (ht : prTarget s ≠ some b) :
    Leads (.releaseDone dt b) s (releaseFollow b) (fun u =>
      ix u.gen.iso b = (if ix s.gen.iso b = .releasingAgain then .isolating else .none)
      ∧ (∀ j < 11, (rd u GEN_ISOLATE_ISO_DONE).testBit j = ((rd s GEN_ISOLATE_ISO_DONE).testBit j && j != b - 4))
      ∧ u.now = s.now + dt ∧ u.flt.raised = [] ∧ RegsBut [GEN_ISOLATE_ISO_DONE] s u ∧ StoresSame s u) := by
  have hw := ((within_pass dt [GEN_ISOLATE_ISO_DONE] s).modGen
    (fun g => { g with iso := vset g.iso b (if ix s.gen.iso b = .releasingAgain then .isolating else .none) })).clearBit
      (List.mem_singleton_self GEN_ISOLATE_ISO_DONE) (b - 4)
  have he : Brings (.releaseDone dt b) s (releaseFollow b (clearBit GEN_ISOLATE_ISO_DONE (b - 4)
      (putIso b (if ix s.gen.iso b = .releasingAgain then .isolating else .none) (pass dt s)))) := by
    change done s (releaseDone b (pass dt s)) = _
    rcases hp with hp | hp <;> simp [releaseDone, isoOf, hp, ht, done]
  refine ⟨_, he, isoOf_putIso_same (by omega) _ (pass dt s), fun j hj => ?_, hw.now, hw.raised hb, hw.regs, hw.storesSame⟩
  rw [testBit_clearBit (by simpa using hj)]
  simp [putIso]

/-- the release of the target block of a partial reload waits -/
theorem completes_releaseDone_target (hb : Between s) (ht : prTarget s = some b) :
    Completes (.releaseDone dt b) s (fun t => t.gen = s.gen ∧ t.now = s.now + dt ∧ RegsBut [] s t ∧ StoresSame s t) := by
  have hw := within_pass dt [] s
  refine hw.completes ?_ hb ⟨by simp, hw.now, hw.regs, hw.storesSame⟩
  change done s (releaseDone b (pass dt s)) = _
  simp only [releaseDone, prTarget_pass, ht, if_true, ite_self]

theorem genReg_lock : GenReg 0x24 := by decide +kernel

/-- a 1 written to GEN.LOCK sets SE_LOCK -/
theorem genWrite_lock (v : Nat) (s : State) : genWrite { addr := 0x24, be := 15, data := 1 } v s =
    put GEN_LOCK_SE_LOCK (rd s GEN_LOCK_SE_LOCK ||| mergeField GEN_LOCK_SE_LOCK (rd s GEN_LOCK_SE_LOCK) 15 1) s := by
  have hf : fieldsAt 0x24 = [(GEN_LOCK_SE_LOCK, 4)] := by decide +kernel
  have hw : Windowless GEN_LOCK_SE_LOCK.addr := by decide +kernel
  simp [genWrite, storeWord, hf, isLockReg, stored_eq_rd hw, store_eq_put hw]

/-- SE_LOCK takes a 1 from a word of value 1 -/
theorem mergeField_lock (x : Nat) : mergeField GEN_LOCK_SE_LOCK x 15 1 % 2 = 1 := by
  have hm : bitsOf (beMask 15) GEN_LOCK_SE_LOCK.hi GEN_LOCK_SE_LOCK.lo = 2 ^ 1 - 1 := by decide
  have hd : bitsOf 1 GEN_LOCK_SE_LOCK.hi GEN_LOCK_SE_LOCK.lo = 1 := by decide
  rw [mergeField, hm, hd]
  exact clrMask_mod_or x 1 1

theorem completes_seLockWrite (hb : Between s) (hi : HostIdle s) :
    Completes (.seLockWrite dt) s (fun t => rd t GEN_LOCK_SE_LOCK = 1 ∧ t.now = s.now + dt ∧ RegsBut [GEN_LOCK_SE_LOCK] s t ∧ StoresSame s t) := by
  have hw := (within_issued 0x24 dt [GEN_LOCK_SE_LOCK] s).put (List.mem_singleton_self _)
    (rd s GEN_LOCK_SE_LOCK ||| mergeField GEN_LOCK_SE_LOCK (rd s GEN_LOCK_SE_LOCK) 15 1)
  refine hw.completes ?_ hb ⟨?_, hw.now, hw.regs, hw.storesSame⟩
  · change done s (writeReg 0x24 0 1 (pass dt s)) = _
    rw [writeReg_gen hi genReg_lock (.inr (by decide)) (.inr fun v => by simp [lockHit, isLockReg]), Nat.mod_eq_of_lt (by decide), genWrite_lock,
      rd_issued]
  · rw [rd_put_same, width_GEN_LOCK_SE_LOCK, Nat.pow_one, Nat.or_mod_two_eq_one]
    exact .inr (mergeField_lock _)

end

/-! ### The obligations -/

/-- Settles O16: a write of GEN.MODE is refused, stores its bits alone, or stores them and leaves the sequences of modeList waiting. -/
theorem modeWriteBeginsItsSequences : Obligations.ModeWriteBeginsItsSequences := by
  unfold Obligations.ModeWriteBeginsItsSequences
  intro dt data s hb hi ha
  exact ⟨fun hbusy hlock => ⟨completes_modeWrite_same hb hi ha hbusy hlock, leads_modeWrite hb hi ha hbusy hlock⟩,
    effects_modeWrite_reject hb hi ha⟩

/-- Settles O17: the end of a sequence changes one bit of EFFECTIVE and of IN_TRANSIT, unless it is an MT exit that is held. -/
theorem modeSequenceCompletes : Obligations.ModeSequenceCompletes := by
  unfold Obligations.ModeSequenceCompletes
  intro dt i entry rest s hb ht hlt
  exact ⟨completes_modeDone_held hb ht, leads_modeDone hb ht, completes_modeDone_last hb ht hlt⟩

/-- Settles O18: a write of GEN.ISOLATE acts on each block by its own phase; the ends of isolation and release change one phase and one bit. -/
theorem blocksAreIsolatedAndReleased : Obligations.BlocksAreIsolatedAndReleased := by
  unfold Obligations.BlocksAreIsolatedAndReleased
  intro dt b data s hb
  exact ⟨fun hi ha => ⟨completes_isolateWrite hb hi ha, effects_isolateWrite_refused hb hi ha⟩, leads_isolationDone hb,
    leads_releaseDone hb, completes_releaseDone_target hb, completes_seLockWrite hb⟩

end Sys2Proof.Modes

/-! The configuration image (O22, O23, O24, O55): boot, downloads into the spare bank and the pointer record, partial reloads, fuse programs
and the fuse locks. Every command comes to the operation it names under its guard; what it changes is collected in `Within` as the operation
is built up, and a refusal is the host access fault in every case. Pass 2 applies the image it began with because no segment and no record
of an image moves the bank or the bytes it is read from. -/

namespace Sys2Proof.Clocks.Kept
open Sys2Proof.Machine Sys2Proof.Reg
variable {s u : State}

theorem modSec (h : Kept s u) (f : SecS → SecS) : Kept s (modSec f u) := ⟨h.pending, h.mram, h.mramJ, h.cram, h.otp⟩

end Sys2Proof.Clocks.Kept

namespace Sys2Proof.Modes
open Sys2Proof.Machine Sys2Proof.Reg Sys2Proof.Safety Sys2Proof.Clocks

/-- a whole-word write of a register of GEN, RST, FLT, IMG or SEC that no lock stands in the way of is taken by its block while the
host port is idle; MODE and ISOLATE of GEN wait for an image (R488, R511) -/
theorem writeReg_system {s : State} {dt addr data : Nat} (hi : HostIdle s) (hw : PlainWord addr) (hblk : blockOf addr < 4 ∨ 14 < blockOf addr)
    (hgrp : rwsGroupOf addr = none) (hp : isPartnerReg addr = false) (ha : addr ≠ 8 ∧ addr ≠ 0x10)
    (hl : ∀ v, lockHit (Issued addr dt s) addr 15 v = false) :
    writeReg addr 0 data (pass dt s) =
      takeWrite { addr := addr, be := 15, data := data % 2 ^ 32 } (mergeWord (liveWord (Issued addr dt s) addr) 15 (data % 2 ^ 32))
        (Issued addr dt s) := by
  obtain ⟨h4, h24, hword, hal, hr, -⟩ := hw
  obtain ⟨r, hr⟩ := Option.isSome_iff_exists.1 hr
  obtain ⟨h8, h10⟩ := ha
  have hpr : prTarget (Issued addr dt s) ≠ some (blockOf addr) := prTarget_block hblk
  have hrange : (decide (4 ≤ blockOf addr) && decide (blockOf addr ≤ 14)) = false := by
    rw [← Bool.decide_and, decide_eq_false_iff_not]
    omega
  have hfree : hostBlocked (Issued addr dt s) addr = false := by simp [hostBlocked, hp, hpr, h8, h10, hrange]
  rw [writeReg_idle (hostIdle_pass.2 hi) _ _ _ h4]
  simp only [Nat.zero_mod, Nat.zero_mul, Nat.add_zero, hword, hal, Nat.mod_eq_of_lt h24]
  exact writeWord_taken hfree hr (.inr rfl) hgrp hl

end Sys2Proof.Modes

namespace Sys2Proof.ConfigImage
open Sys2Proof.Machine Sys2Proof.Reg Sys2Proof.Safety Sys2Proof.Clocks Sys2Proof.Modes

/-! ### IMG's own state -/

/-- IMG's own state changed by f -/
def modImg (f : ImgS → ImgS) (s : State) : State := { s with img := f s.img }

@[simp] theorem modImg_img (f : ImgS → ImgS) (s : State) : (modImg f s).img = f s.img := (rfl)
@[simp] theorem rd_modImg (f : ImgS → ImgS) (s : State) (x : Fld) : rd (modImg f s) x = rd s x := (rfl)

@[simp] theorem rd_putImgState (v : Nat) (s : State) : rd (putImgState v s) IMG_STATUS_STATE = v % 16 := rd_put_same _ _ _

theorem rd_putImgState_ne {g : Fld} (v : Nat) (s : State) (h : fldKey IMG_STATUS_STATE ≠ fldKey g) : rd (putImgState v s) g = rd s g :=
  rd_put_ne v s h

theorem within_modImg {dt : Nat} {l : List Fld} {s u : State} (h : Within dt l s u) (f : ImgS → ImgS) : Within dt l s (modImg f u) :=
  ⟨h.now, h.regs, ⟨h.kept.pending, h.kept.mram, h.kept.mramJ, h.kept.cram, h.kept.otp⟩, h.quiet⟩

theorem within_putImgState {dt : Nat} {l : List Fld} {s u : State} (h : Within dt l s u) (hf : IMG_STATUS_STATE ∈ l) (v : Nat) :
    Within dt l s (putImgState v u) := h.put hf v

/-- the host access fault leaves time, IMG's and SEC's own state -/
theorem haf_frame (cause addr : Nat) (s : State) :
    (haf cause addr s).img = s.img ∧ (haf cause addr s).sec = s.sec ∧ (haf cause addr s).now = s.now := by
  unfold haf
  dsimp only
  split <;> simp

/-- the fields of HAF in the order in which the obligations list them -/
abbrev hafRegs : List Fld := [GEN_HAF_VALID, GEN_HAF_CAUSE, GEN_HAF_ADDR, GEN_HAF_MORE]

theorem mem_hafRegs : ∀ f ∈ hafFields, f ∈ hafRegs := by simp [hafFields]

/-- v follows u with a command refused: the host access fault is raised and HAF shows it, and nothing else changes (R513) -/
structure Refused (dt : Nat) (l : List Fld) (s u v : State) : Prop where
  raised : v.flt.raised = [(0, none)]
  img : v.img = u.img
  sec : v.sec = u.sec
  now : v.now = s.now + dt
  shows : RegsBut hafFields u v
  regs : RegsBut l s v
  stores : StoresSame s v

theorem refused_of_within {dt : Nat} {l : List Fld} {s u : State} (hw : Within dt l s u) (hl : ∀ f ∈ hafFields, f ∈ l) (hb : Between s) :
    Refused dt l s u (refuse u) := by
  obtain ⟨himg, hsec, hnow⟩ := haf_frame 4 u.host.cur u
  refine ⟨?_, himg, hsec, hnow.trans hw.now, ?_, regsBut_haf hw.regs hl _ _, (hw.kept.haf _ _).storesSame⟩
  · rw [refuse, haf_raised, hw.raised hb, List.nil_append]
  · exact regsBut_haf (regsBut_of_rd (fun _ => rfl) _) (fun _ hf => hf) _ _

/-! ### Commands that store bytes in the MRAM -/

theorem mramJ_of_between {s : State} (h : Between s) : s.mramJ = [] := h.2

/-- a command whose one MRAM write is of bytes at a ends with them stored and every other byte as before -/
theorem completes_stored {c : Instr} {dt a : Nat} {l : List Fld} {bytes : List Byte} {s u : State} {P : State → Prop}
    (hc : exec c s = done s (mwr a bytes u)) (hw : Within dt l s u) (hb : Between s)
    (hP : ∀ t, t.img = u.img → t.now = s.now + dt → (∀ f, rd t f = rd u f) → RegsBut l s t → BytesStored a bytes s t → P t) :
    Completes c s P := by
  have hq : calm (mwr a bytes u) = true := hw.quiet.trans hb.1
  refine ⟨closed s (mwr a bytes u), hc.trans (done_calm s hq), hP _ rfl hw.now (fun _ => rfl) hw.regs ⟨fun x => ?_, fun i => ?_, ?_⟩⟩
  · rw [closed_mram, mwr_mramJ, hw.kept.mramJ, mramJ_of_between hb, List.nil_append, memGet_memPutAll]
  · exact hw.storesSame.2.1 i
  · rw [closed_otp, mwr_otp, hw.kept.otp, Nat.or_self]

/-! ### IMG.CTRL (R90) -/

theorem img_ctrl : PlainWord 0x300004 ∧ rwsGroupOf 0x300004 = none ∧ isPartnerReg 0x300004 = false
    ∧ ∀ p ∈ fieldsAt 0x300004, p.2 = 3 := by decide +kernel

/-- CTRL has write-only fields alone and reads 0 -/
theorem liveWord_wo {addr : Nat} (h : ∀ p ∈ fieldsAt addr, p.2 = 3) (s : State) : liveWord s addr = 0 := by
  have hf : ∀ (l : List (Fld × Nat)), (∀ p ∈ l, p.2 = 3) →
      l.foldl (fun v p => if p.2 = 3 then v else v + shownAs s p.1 p.2 * 2 ^ p.1.lo) 0 = 0 := by
    intro l hl
    induction l with
    | nil => rfl
    | cons p r ih => rw [List.foldl_cons, if_pos (hl p List.mem_cons_self)]; exact ih fun q hq => hl q (List.mem_cons_of_mem p hq)
  rw [liveWord, hf _ h, ite_self]

/-- write-only fields have no lock -/
theorem lockHit_wo {addr : Nat} (h : ∀ p ∈ fieldsAt addr, p.2 = 3) (s : State) (be v : Nat) : lockHit s addr be v = false := by
  have hno : ((fieldsAt addr).any fun p => p.2 == 4 && mergeField p.1 (stored s p.1) be v != stored s p.1) = false :=
    List.any_eq_false.2 fun p hp => by simp [h p hp]
  rw [lockHit, hno, Bool.and_false]

theorem mergeWord_zero (v : Nat) : mergeWord 0 15 (v % 2 ^ 32) = v % 2 ^ 32 := by
  have hm : beMask 15 = 2 ^ 32 - 1 := by decide
  have h0 : clrMask 0 (2 ^ 32 - 1) = 0 := by decide
  rw [mergeWord, hm, h0, Nat.zero_or, Nat.and_two_pow_sub_one_eq_mod, Nat.mod_mod]

/-- the state in which a write of IMG.CTRL acts -/
abbrev atCtrl (dt : Nat) (s : State) : State := Issued 0x300004 dt s

/-- a command given to IMG.CTRL under its key is carried out while the host port is idle -/
theorem imgCtrlWrite_idle {s : State} {dt v : Nat} (hi : HostIdle s) (hv : v < 256) :
    imgCtrlWrite v (pass dt s) = imgCtrl (0x5A000000 + v) (atCtrl dt s) := by
  obtain ⟨hword, hgrp, hp, hwo⟩ := img_ctrl
  rw [imgCtrlWrite, writeReg_system hi hword (.inl (by decide)) hgrp hp (by decide) (fun _ => lockHit_wo hwo _ _ _), liveWord_wo hwo,
    mergeWord_zero, Nat.mod_eq_of_lt (by omega)]
  simp only [takeWrite, show blockOf 0x300004 = 3 from rfl, if_true]

section
variable {dt : Nat} {s : State}

theorem exec_dlStart (hi : HostIdle s) : exec (.dlStart dt) s = done s (dlStart (atCtrl dt s)) :=
  congrArg (done s) (imgCtrlWrite_idle (v := 2) hi (by decide))

theorem exec_dlDone (hi : HostIdle s) : exec (.dlDone dt) s = done s (dlDone (atCtrl dt s)) :=
  congrArg (done s) (imgCtrlWrite_idle (v := 4) hi (by decide))

theorem exec_dlAbort (hi : HostIdle s) : exec (.dlAbort dt) s = done s (dlAbort (atCtrl dt s)) :=
  congrArg (done s) (imgCtrlWrite_idle (v := 8) hi (by decide))

theorem exec_imgCommit (hi : HostIdle s) : exec (.imgCommit dt) s = done s (imgCommit (atCtrl dt s)) :=
  congrArg (done s) (imgCtrlWrite_idle (v := 16) hi (by decide))

theorem exec_prStart (hi : HostIdle s) : exec (.prStart dt) s = done s (prStart (atCtrl dt s)) :=
  congrArg (done s) (imgCtrlWrite_idle (v := 32) hi (by decide))

theorem exec_prAbort (hi : HostIdle s) : exec (.prAbort dt) s = done s (prAbort (atCtrl dt s)) :=
  congrArg (done s) (imgCtrlWrite_idle (v := 64) hi (by decide))

theorem exec_rollfwd (hi : HostIdle s) : exec (.rollfwd dt) s = done s (rollfwd (atCtrl dt s)) :=
  congrArg (done s) (imgCtrlWrite_idle (v := 128) hi (by decide))

end

/-! ### Lock registers (R449, R511) -/

/-- a write of a lock register, which holds the one field f, sets bits of it -/
theorem storeWord_lock {addr : Nat} {f : Fld} (hf : fieldsAt addr = [(f, 4)]) (hlock : isLockReg addr = true) (hw : Windowless f.addr)
    (data : Nat) (s : State) : storeWord addr 15 data s = put f (rd s f ||| mergeField f (rd s f) 15 data) s := by
  simp [storeWord, hf, hlock, stored_eq_rd hw, store_eq_put hw]

/-- the bits set are those of the data -/
theorem lockField_mod {f : Fld} (hm : bitsOf (beMask 15) f.hi f.lo = 2 ^ fldWidth f - 1) (old data : Nat) :
    (old ||| mergeField f old 15 data) % 2 ^ fldWidth f = (old ||| bitsOf data f.hi f.lo) % 2 ^ fldWidth f := by
  rw [Nat.or_mod_two_pow, Nat.or_mod_two_pow (a := old) (b := bitsOf data f.hi f.lo), mergeField, hm, clrMask_mod_or,
    Nat.and_two_pow_sub_one_eq_mod, Nat.mod_mod]

/-- the address of a lock register that holds the one field f -/
abbrev LockReg (addr : Nat) (f : Fld) : Prop :=
  PlainWord addr ∧ (blockOf addr < 4 ∨ 14 < blockOf addr) ∧ rwsGroupOf addr = none ∧ isPartnerReg addr = false ∧ addr ≠ 8 ∧ addr ≠ 0x10
    ∧ fieldsAt addr = [(f, 4)] ∧ isLockReg addr = true ∧ Windowless f.addr ∧ bitsOf (beMask 15) f.hi f.lo = 2 ^ fldWidth f - 1

/-- a whole-word write of a lock register sets the bits of its field that are 1 in the data, and nothing else changes -/
theorem completes_lockWrite {c : Instr} {dt addr data : Nat} {f : Fld} {s : State} (hb : Between s) (hi : HostIdle s) (hr : LockReg addr f)
    (hc : exec c s = done s (writeReg addr 0 data (pass dt s)))
    (ht : ∀ d v u, takeWrite { addr := addr, be := 15, data := d } v u = storeWord addr 15 d u) :
    Completes c s (fun t => rd t f = (rd s f ||| bitsOf (data % 2 ^ 32) f.hi f.lo) % 2 ^ fldWidth f ∧ t.sec = s.sec
      ∧ t.now = s.now + dt ∧ RegsBut [f] s t ∧ StoresSame s t) := by
  obtain ⟨hword, hblk, hgrp, hp, h8, h10, hf, hlock, hw, hm⟩ := hr
  have hput := (within_issued addr dt [f] s).put (List.mem_singleton_self f) (rd s f ||| mergeField f (rd s f) 15 (data % 2 ^ 32))
  refine hput.completes ?_ hb ⟨?_, by simp, hput.now, hput.regs, hput.storesSame⟩
  · rw [hc, writeReg_system hi hword hblk hgrp hp ⟨h8, h10⟩ (fun _ => by simp [lockHit, hlock]), ht, storeWord_lock hf hlock hw, rd_issued]
  · rw [rd_put_same, lockField_mod hm]

theorem img_lock : LockReg 0x300014 IMG_LOCK_LOCK := by decide +kernel

/-- a write of 1 sets IMG's lock -/
theorem completes_imgLockWrite {dt : Nat} {s : State} (hb : Between s) (hi : HostIdle s) :
    Completes (.imgLockWrite dt) s (fun t => rd t IMG_LOCK_LOCK = 1 ∧ t.now = s.now + dt ∧ RegsBut [IMG_LOCK_LOCK] s t ∧ StoresSame s t) :=
  completes_mono (completes_lockWrite hb hi img_lock rfl fun _ _ _ => by
    simp [takeWrite, show blockOf 0x300014 = 3 from rfl]) fun t ⟨hlock, _, hrest⟩ => by
    refine ⟨?_, hrest⟩
    rw [hlock, width_IMG_LOCK_LOCK, Nat.pow_one, Nat.or_mod_two_eq_one]
    exact .inr (by decide)

/-! ### The record of a failure (R91) -/

/-- the fields of IMG.ERR -/
def errFields : List Fld := [IMG_ERR_CODE, IMG_ERR_SEG, IMG_ERR_PASS2, IMG_ERR_CAND]

theorem putImgErr_eq (code seg : Nat) (p2 : Bool) (s : State) : putImgErr code seg p2 s =
    put IMG_ERR_CAND s.img.cand (put IMG_ERR_PASS2 (b2n p2) (put IMG_ERR_SEG seg (put IMG_ERR_CODE code s))) := (rfl)

theorem within_putImgErr {dt : Nat} {l : List Fld} {s u : State} (h : Within dt l s u) (hl : ∀ f ∈ errFields, f ∈ l) (code seg : Nat) (p2 : Bool) :
    Within dt l s (putImgErr code seg p2 u) := by
  simp only [errFields, List.forall_mem_cons] at hl
  obtain ⟨hcode, hseg, hpass, hcand, -⟩ := hl
  exact (((h.put hcode _).put hseg _).put hpass _).put hcand _

/-- IMG.ERR shows the code, the segment, the pass and the candidate -/
theorem rd_putImgErr (code seg : Nat) (p2 : Bool) (s : State) :
    rd (putImgErr code seg p2 s) IMG_ERR_CODE = code % 256 ∧ rd (putImgErr code seg p2 s) IMG_ERR_SEG = seg % 256
      ∧ rd (putImgErr code seg p2 s) IMG_ERR_PASS2 = p2.toNat ∧ rd (putImgErr code seg p2 s) IMG_ERR_CAND = s.img.cand % 256 := by
  rw [putImgErr_eq]
  refine ⟨?_, ?_, ?_, ?_⟩ <;> simp [rd_put_ne, b2n_mod_two]

@[simp] theorem putImgErr_img (code seg : Nat) (p2 : Bool) (s : State) : (putImgErr code seg p2 s).img = s.img := (rfl)

/-! ### Downloads (R80, R88, R90) -/

section
variable {dt : Nat} {s u : State}

theorem dlStart_open (hst : rd u IMG_STATUS_STATE = 4) (hl : rd u IMG_LOCK_LOCK = 0) : dlStart u =
    putImgState 5 (put IMG_STATUS_SPARE_VALID 0 (modImg (fun i => { i with dl := 0, dlService := true, spareOk := false }) u)) := by
  simp only [dlStart, imgState, hst, on_eq_false hl, bne_self_eq_false, Bool.or_self, Bool.false_eq_true, if_false]
  rfl

theorem dlStart_refused (h : rd u IMG_STATUS_STATE ≠ 4 ∨ rd u IMG_LOCK_LOCK = 1) : dlStart u = refuse u :=
  if_pos (by simpa [imgState, on] using h)

theorem imgCommit_refused (h : rd u IMG_STATUS_STATE ≠ 4 ∨ rd u IMG_LOCK_LOCK = 1) : imgCommit u = refuse u :=
  if_pos (by simp only [Bool.or_eq_true, Bool.or_assoc]; rcases h with h | h <;> simp [imgState, on, h])

theorem completes_dlStart (hb : Between s) (hi : HostIdle s) (hst : rd s IMG_STATUS_STATE = 4) (hl : rd s IMG_LOCK_LOCK = 0) :
    Completes (.dlStart dt) s (fun t => rd t IMG_STATUS_STATE = 5 ∧ rd t IMG_STATUS_SPARE_VALID = 0 ∧ t.img.dl = 0 ∧ t.img.dlService = true
      ∧ t.now = s.now + dt ∧ RegsBut [IMG_STATUS_STATE, IMG_STATUS_SPARE_VALID] s t ∧ StoresSame s t) := by
  have hw := within_putImgState ((within_modImg (within_issued 0x300004 dt [IMG_STATUS_STATE, IMG_STATUS_SPARE_VALID] s)
    (fun i => { i with dl := 0, dlService := true, spareOk := false })).put (f := IMG_STATUS_SPARE_VALID) (by simp) 0) (by simp) 5
  refine hw.completes ?_ hb ⟨by simp, by simp [putImgState, rd_put_ne], rfl, rfl, hw.now, hw.regs, hw.storesSame⟩
  rw [exec_dlStart hi, dlStart_open (by simpa using hst) (by simpa using hl)]

/-- a command of CTRL refused -/
theorem effects_ctrlRefused {c : Instr} (hc : exec c s = done s (refuse (atCtrl dt s))) (hb : Between s) :
    Effects c s (fun v => v.flt.raised = [(0, none)] ∧ v.img = s.img
      ∧ RegsBut hafRegs s v ∧ StoresSame s v) := by
  have hr := refused_of_within (within_issued 0x300004 dt hafRegs s) mem_hafRegs hb
  exact ⟨_, hc, hr.raised, hr.img.trans (issued_img _ _ _), hr.regs, hr.stores⟩

/-- DL_DONE and DL_ABORT need a download under way -/
theorem dlDone_refused (h : rd u IMG_STATUS_STATE < 5 ∨ (rd u IMG_STATUS_STATE = 15 ∧ u.img.dl = 0)) : dlDone u = refuse u :=
  if_pos (by
    rcases h with h | ⟨h, hdl⟩
    · have h5 : rd u IMG_STATUS_STATE ≠ 5 ∧ rd u IMG_STATUS_STATE ≠ 7 ∧ rd u IMG_STATUS_STATE ≠ 15 := by omega
      simp [imgState, h5]
    · simp [imgState, h, hdl])

theorem dlAbort_refused (h : rd u IMG_STATUS_STATE < 5) : dlAbort u = refuse u := by
  have h5 : rd u IMG_STATUS_STATE ≠ 5 ∧ rd u IMG_STATUS_STATE ≠ 15 ∧ rd u IMG_STATUS_STATE ≠ 7 := by omega
  simp [dlAbort, imgState, h5]

/-- the device goes back to RUN after a download that failed or was aborted: the spare bank is not valid -/
def BackToRun (dt : Nat) (l : List Fld) (s t : State) : Prop :=
  rd t IMG_STATUS_STATE = 4 ∧ rd t IMG_STATUS_SPARE_VALID = 0 ∧ t.img.dl = 0 ∧ t.img.spareOk = false
    ∧ t.now = s.now + dt ∧ RegsBut (l ++ [IMG_STATUS_STATE, IMG_STATUS_SPARE_VALID]) s t ∧ StoresSame s t

theorem dlEnd_eq (u : State) : dlEnd u =
    putImgState 4 (put IMG_STATUS_SPARE_VALID 0 (modImg (fun i => { i with dl := 0, dlService := false, spareOk := false }) u)) := (rfl)

theorem completes_dlEnd {c : Instr} {l : List Fld} (hb : Between s) (hc : exec c s = done s (dlEnd u))
    (hu : Within dt (l ++ [IMG_STATUS_STATE, IMG_STATUS_SPARE_VALID]) s u) :
    Completes c s (fun t => rd t IMG_ERR_CODE = rd u IMG_ERR_CODE ∧ BackToRun dt l s t) := by
  have hw := within_putImgState ((within_modImg hu (fun i => { i with dl := 0, dlService := false, spareOk := false })).put
    (f := IMG_STATUS_SPARE_VALID) (by simp) 0) (by simp) 4
  exact hw.completes (hc.trans (congrArg _ (dlEnd_eq u))) hb
    ⟨by simp [putImgState, rd_put_ne], by simp, by simp [putImgState, rd_put_ne], rfl, rfl, hw.now, hw.regs, hw.storesSame⟩

/-- a download that fails goes back to RUN with its code in ERR -/
theorem completes_dlEnd_err {c : Instr} {code seg : Nat} (hb : Between s) (hc : exec c s = done s (dlEnd (putImgErr code seg false u)))
    (hu : Within dt (errFields ++ [IMG_STATUS_STATE, IMG_STATUS_SPARE_VALID]) s u) :
    Completes c s (fun t => rd t IMG_ERR_CODE = code % 256 ∧ BackToRun dt errFields s t) := by
  have hw := within_putImgErr hu (fun f hf => List.mem_append_left _ hf) code seg false
  rw [← (rd_putImgErr code seg false u).1]
  exact completes_dlEnd hb hc hw

theorem dlFailed_service (hst : rd u IMG_STATUS_STATE = 5) (hs : u.img.dlService = true) : dlFailed u = dlEnd (putImgErr 0x13 255 false u) := by
  simp [dlFailed, imgState, hst, hs]

/-! #### Words of DLDATA -/

theorem img_dldata : PlainWord 0x30000C ∧ rwsGroupOf 0x30000C = none ∧ isPartnerReg 0x30000C = false
    ∧ ∀ p ∈ fieldsAt 0x30000C, p.2 = 3 := by decide +kernel

theorem exec_dldataWrite (hi : HostIdle s) (data : Nat) :
    exec (.dldataWrite dt data) s = done s (dlData (data % 2 ^ 32) (Issued 0x30000C dt s)) := by
  obtain ⟨hword, hgrp, hp, hwo⟩ := img_dldata
  change done s (writeReg 0x30000C 0 data (pass dt s)) = _
  rw [writeReg_system hi hword (.inl (by decide)) hgrp hp (by decide) (fun _ => lockHit_wo hwo _ _ _), liveWord_wo hwo, mergeWord_zero]
  simp [takeWrite, show blockOf 0x30000C = 3 from rfl]

/-- before the spare bank is written the pointer stays where it does not name it -/
theorem guardPointer_same (h : rd u IMG_STATUS_PTR ≠ spareBank u) : guardPointer u = u := if_neg h

/-- a word within IMGLEN is stored at the next address of the spare bank -/
theorem dlData_stored {w : Nat} (hst : rd u IMG_STATUS_STATE = 5 ∨ rd u IMG_STATUS_STATE = 7 ∨ rd u IMG_STATUS_STATE = 15)
    (hlen : u.img.dl + 4 ≤ min 98304 (dlLen u)) (hp : u.img.dl ≠ 0 ∨ rd u IMG_STATUS_PTR ≠ spareBank u) :
    dlData w u = mwr (bankAt (spareBank u) + u.img.dl) (leBytes 4 w) (modImg (fun i => { i with dl := i.dl + 4 }) u) := by
  have hno : (imgState u != 5 && imgState u != 7 && imgState u != 15) = false := by rcases hst with h | h | h <;> simp [imgState, h]
  have hguard : (if u.img.dl = 0 then guardPointer u else u) = u := by
    split
    · next h0 => exact guardPointer_same (hp.resolve_left (not_not_intro h0))
    · rfl
  simp only [dlData, hno, decide_eq_false (show ¬ min 98304 (dlLen u) < u.img.dl + 4 by omega), Bool.false_eq_true, if_false, hguard]
  rfl

theorem dlData_beyond {w : Nat} (hst : rd u IMG_STATUS_STATE = 5) (hs : u.img.dlService = true) (hlen : min 98304 (dlLen u) < u.img.dl + 4) :
    dlData w u = dlEnd (putImgErr 0x13 255 false u) := by
  have hno : (imgState u != 5 && imgState u != 7 && imgState u != 15) = false := by simp [imgState, hst]
  simp only [dlData, hno, decide_eq_true hlen, Bool.false_eq_true, if_false, if_true, dlFailed_service hst hs]

theorem dlLen_issued (addr : Nat) : dlLen (Issued addr dt s) = dlLen (pass dt s) := (rfl)

theorem completes_dldata_stored {data : Nat} (hb : Between s) (hi : HostIdle s)
    (hst : rd s IMG_STATUS_STATE = 5 ∨ rd s IMG_STATUS_STATE = 7 ∨ rd s IMG_STATUS_STATE = 15)
    (hlen : s.img.dl + 4 ≤ min 98304 (dlLen (pass dt s))) (hp : s.img.dl ≠ 0 ∨ rd s IMG_STATUS_PTR ≠ spareBank s) :
    Completes (.dldataWrite dt data) s (fun t => t.img.dl = s.img.dl + 4 ∧ t.now = s.now + dt ∧ RegsBut [] s t
      ∧ BytesStored (bankAt (spareBank s) + s.img.dl) (leBytes 4 (data % 2 ^ 32)) s t) := by
  have hspare : spareBank (Issued 0x30000C dt s) = spareBank s := by simp [spareBank]
  have he := exec_dldataWrite (dt := dt) hi data
  rw [dlData_stored (by simpa using hst) (by rw [dlLen_issued, issued_img]; exact hlen) (by simpa [hspare] using hp), hspare, issued_img] at he
  exact completes_stored he (within_modImg (within_issued 0x30000C dt [] s) _) hb
    fun t himg hnow _ hregs hbytes => ⟨by simp [himg], hnow, hregs, hbytes⟩

theorem completes_dldata_beyond {data : Nat} (hb : Between s) (hi : HostIdle s) (hst : rd s IMG_STATUS_STATE = 5)
    (hs : s.img.dlService = true) (hlen : min 98304 (dlLen (pass dt s)) < s.img.dl + 4) :
    Completes (.dldataWrite dt data) s (fun t => rd t IMG_ERR_CODE = 0x13 ∧ BackToRun dt errFields s t) := by
  have he := exec_dldataWrite (dt := dt) hi data
  rw [dlData_beyond (by simpa using hst) (by simpa using hs) (by rw [dlLen_issued, issued_img]; exact hlen)] at he
  exact completes_dlEnd_err hb he (within_issued 0x30000C dt _ s)

end

section
variable {dt : Nat} {s u : State}

/-! #### DL_DONE, DL_ABORT and verification -/

theorem dlDone_verify (hst : rd u IMG_STATUS_STATE = 5) (hs : u.img.dlService = true) (hlen : u.img.dl = dlLen u) : dlDone u = putImgState 6 u := by
  simp [dlDone, imgState, hst, hs, ← hlen]

theorem dlDone_short (hst : rd u IMG_STATUS_STATE = 5) (hs : u.img.dlService = true) (hlen : u.img.dl ≠ dlLen u) :
    dlDone u = dlEnd (putImgErr 0x13 255 false u) := by
  simp [dlDone, imgState, hst, hlen, dlFailed_service hst hs]

theorem dlAbort_service (hst : rd u IMG_STATUS_STATE = 5) (hs : u.img.dlService = true) : dlAbort u = dlEnd u := by
  simp [dlAbort, imgState, hst, hs]

theorem completes_dlDone (hb : Between s) (hi : HostIdle s) (hst : rd s IMG_STATUS_STATE = 5) (hs : s.img.dlService = true)
    (hlen : s.img.dl = dlLen (pass dt s)) :
    Completes (.dlDone dt) s (fun t => rd t IMG_STATUS_STATE = 6 ∧ t.now = s.now + dt ∧ RegsBut [IMG_STATUS_STATE] s t ∧ StoresSame s t) := by
  have hw := within_putImgState (within_issued 0x300004 dt [IMG_STATUS_STATE] s) (by simp) 6
  refine hw.completes ?_ hb ⟨by simp, hw.now, hw.regs, hw.storesSame⟩
  rw [exec_dlDone hi, dlDone_verify (by simpa using hst) (by simpa using hs) (by rw [dlLen_issued, issued_img]; exact hlen)]

theorem completes_dlDone_short (hb : Between s) (hi : HostIdle s) (hst : rd s IMG_STATUS_STATE = 5) (hs : s.img.dlService = true)
    (hlen : s.img.dl ≠ dlLen (pass dt s)) :
    Completes (.dlDone dt) s (fun t => rd t IMG_ERR_CODE = 0x13 ∧ BackToRun dt errFields s t) := by
  have he := exec_dlDone (dt := dt) hi
  rw [dlDone_short (by simpa using hst) (by simpa using hs) (by rw [dlLen_issued, issued_img]; exact hlen)] at he
  exact completes_dlEnd_err hb he (within_issued 0x300004 dt _ s)

theorem completes_dlAbort (hb : Between s) (hi : HostIdle s) (hst : rd s IMG_STATUS_STATE = 5) (hs : s.img.dlService = true) :
    Completes (.dlAbort dt) s (BackToRun dt [] s) := by
  have he := exec_dlAbort (dt := dt) hi
  rw [dlAbort_service (by simpa using hst) (by simpa using hs)] at he
  exact completes_mono (completes_dlEnd (l := []) hb he (within_issued 0x300004 dt _ s)) fun _ h => h.2

/-- what verification of the spare bank finds -/
abbrev verified (z : State) : Option (Nat × Nat) := pass1 (checkEnv z (bankBytes z (spareBank z)) true false) true (bankBytes z (spareBank z))

theorem dlVerifyDone_passed (hst : rd u IMG_STATUS_STATE = 6) (h : verified u = none) : dlVerifyDone u =
    putImgState 4 (put IMG_STATUS_SPARE_VALID 1 (modImg (fun i => { i with spareOk := true, dlService := false, dl := 0 }) u)) := by
  simp only [dlVerifyDone, imgState, hst, bne_self_eq_false, Bool.false_eq_true, if_false, h]
  rfl

theorem dlVerifyDone_failed (hst : rd u IMG_STATUS_STATE = 6) {r : Nat × Nat} (h : verified u = some r) :
    dlVerifyDone u = dlEnd (putImgErr r.1 r.2 false u) := by
  simp only [dlVerifyDone, imgState, hst, bne_self_eq_false, Bool.false_eq_true, if_false, h]

theorem completes_dlVerifyDone (hb : Between s) (hst : rd s IMG_STATUS_STATE = 6) (h : verified (pass dt s) = none) :
    Completes (.dlVerifyDone dt) s (fun t => rd t IMG_STATUS_STATE = 4 ∧ rd t IMG_STATUS_SPARE_VALID = 1 ∧ t.img.spareOk = true
      ∧ t.now = s.now + dt ∧ RegsBut [IMG_STATUS_STATE, IMG_STATUS_SPARE_VALID] s t ∧ StoresSame s t) := by
  have hw := within_putImgState ((within_modImg (within_pass dt [IMG_STATUS_STATE, IMG_STATUS_SPARE_VALID] s)
    (fun i => { i with spareOk := true, dlService := false, dl := 0 })).put (f := IMG_STATUS_SPARE_VALID) (by simp) 1) (by simp) 4
  refine hw.completes (congrArg (done s) (dlVerifyDone_passed (by simpa using hst) h)) hb
    ⟨by simp, by simp [putImgState, rd_put_ne], rfl, hw.now, hw.regs, hw.storesSame⟩

theorem completes_dlVerifyDone_failed (hb : Between s) (hst : rd s IMG_STATUS_STATE = 6) {r : Nat × Nat} (h : verified (pass dt s) = some r) :
    Completes (.dlVerifyDone dt) s (fun t => rd t IMG_ERR_CODE = r.1 % 256 ∧ BackToRun dt errFields s t) :=
  completes_dlEnd_err hb (congrArg (done s) (dlVerifyDone_failed (by simpa using hst) h)) (within_pass dt _ s)

/-! #### COMMIT (R88): the pointer record -/

/-- the sequence number of a copy of the pointer record, 0 where the copy is not valid -/
def pointerSeq (s : State) (c : Nat) : Nat := ((pointerCopy s c).map (fun p => p.2)).getD 0

/-- the copy that the next pointer record overwrites: one that is not valid, else the older -/
def pointerSlot (s : State) : Nat :=
  if pointerCopy s 0 = none then 0 else if pointerCopy s 1 = none then 1 else if pointerSeq s 0 ≤ pointerSeq s 1 then 0 else 1

/-- a pointer record that names a bank, its CRC behind it -/
def pointerRecord (bank seq : Nat) : List Byte :=
  let words := [BitVec.ofNat 8 bank, 0, 0, 0] ++ leBytes 4 seq ++ [0, 0, 0, 0]
  words ++ leBytes 4 (crc32 words)

theorem writePointer_eq (bank : Nat) (s : State) : writePointer bank s = put IMG_STATUS_PTR bank
    (mwr (pageAt 0x300 + 16 * pointerSlot s) (pointerRecord bank (pointerSeq s (1 - pointerSlot s) + 1)) s) := by
  cases h0 : pointerCopy s 0 with
  | none => cases h1 : pointerCopy s 1 <;> simp [writePointer, pointerSlot, pointerSeq, pointerRecord, h0, h1]
  | some p =>
    cases h1 : pointerCopy s 1 with
    | none => simp [writePointer, pointerSlot, pointerSeq, pointerRecord, h0, h1]
    | some q => by_cases h : p.2 ≤ q.2 <;> simp [writePointer, pointerSlot, pointerSeq, pointerRecord, h0, h1, h]

@[simp] theorem mrdList_issued (addr a n : Nat) : mrdList (Issued addr dt s) a n = mrdList s a n := by
  rw [mrdList, issued_mramJ, issued_mram, mrdList]
  simp [mrd]

theorem pointerCopy_issued (addr c : Nat) : pointerCopy (Issued addr dt s) c = pointerCopy s c := by simp [pointerCopy]

theorem pointerSeq_issued (addr c : Nat) : pointerSeq (Issued addr dt s) c = pointerSeq s c := by
  simp [pointerSeq, pointerCopy_issued]

theorem pointerSlot_issued (addr : Nat) : pointerSlot (Issued addr dt s) = pointerSlot s := by
  rw [pointerSlot, pointerSeq_issued, pointerSeq_issued, pointerCopy_issued, pointerCopy_issued, pointerSlot]

theorem imgCommit_open (hst : rd u IMG_STATUS_STATE = 4) (hl : rd u IMG_LOCK_LOCK = 0) (hv : rd u IMG_STATUS_SPARE_VALID = 1) :
    imgCommit u = writePointer (spareBank u) u := by
  simp [imgCommit, imgState, on, hst, hl, hv]

theorem spareBank_issued (addr : Nat) : spareBank (Issued addr dt s) = spareBank s := by simp [spareBank]

/-- COMMIT writes one copy of the pointer record and shows the bank in PTR -/
theorem completes_imgCommit (hb : Between s) (hi : HostIdle s) (hst : rd s IMG_STATUS_STATE = 4) (hl : rd s IMG_LOCK_LOCK = 0)
    (hv : rd s IMG_STATUS_SPARE_VALID = 1) :
    Completes (.imgCommit dt) s (fun t => rd t IMG_STATUS_PTR = spareBank s % 2 ∧ t.now = s.now + dt ∧ RegsBut [IMG_STATUS_PTR] s t
      ∧ BytesStored (pageAt 0x300 + 16 * pointerSlot s) (pointerRecord (spareBank s) (pointerSeq s (1 - pointerSlot s) + 1)) s t) := by
  have he := exec_imgCommit (dt := dt) hi
  rw [imgCommit_open (by simpa using hst) (by simpa using hl) (by simpa using hv), writePointer_eq, spareBank_issued, pointerSlot_issued,
    pointerSeq_issued] at he
  have hw := (within_issued 0x300004 dt [IMG_STATUS_PTR] s).put (List.mem_singleton_self _) (spareBank s)
  refine completes_stored (u := put IMG_STATUS_PTR (spareBank s) (atCtrl dt s)) he hw hb fun t _ hnow hrd hregs hbytes => ⟨?_, hnow, hregs, hbytes⟩
  rw [hrd, rd_put_same, width_IMG_STATUS_PTR, Nat.pow_one]

end

/-- Settles O23: each download command under its guard, and the refusals; the bytes of a word and of the pointer record by the one MRAM
write that either command makes. -/
theorem downloadsGoToTheSpareBank : Obligations.DownloadsGoToTheSpareBank := by
  unfold Obligations.DownloadsGoToTheSpareBank
  intro dt data s hb hi z st done_ refused backToRun errs
  refine ⟨completes_dlStart hb hi, fun h => ⟨?_, ?_⟩, completes_dldata_stored hb hi, fun hst hs => ?_, fun h => ⟨?_, ?_⟩, fun h h0 => ?_,
    ?_, ?_, completes_imgLockWrite hb hi⟩
  · exact effects_ctrlRefused ((exec_dlStart hi).trans (congrArg _ (dlStart_refused (by simpa using h)))) hb
  · exact effects_ctrlRefused ((exec_imgCommit hi).trans (congrArg _ (imgCommit_refused (by simpa using h)))) hb
  · exact ⟨completes_dldata_beyond hb hi hst hs, completes_dlDone hb hi hst hs, completes_dlDone_short hb hi hst hs,
      completes_dlAbort hb hi hst hs⟩
  · exact effects_ctrlRefused ((exec_dlDone hi).trans (congrArg _ (dlDone_refused (.inl (by simpa using h))))) hb
  · exact effects_ctrlRefused ((exec_dlAbort hi).trans (congrArg _ (dlAbort_refused (by simpa using h)))) hb
  · exact effects_ctrlRefused ((exec_dlDone hi).trans (congrArg _ (dlDone_refused (.inr (by simpa using And.intro h h0))))) hb
  · intro hst l hl
    rw [show spareBank s = spareBank z by simp [z, spareBank]] at hl
    subst hl
    exact ⟨completes_dlVerifyDone hb hst, fun r hr => completes_dlVerifyDone_failed (dt := dt) (r := r) hb hst hr⟩
  · intro hst hl hv q hq
    obtain rfl : q = pointerSeq s := funext hq
    exact completes_imgCommit hb hi hst hl hv

/-! ### Partial reloads (R86, R87, R90) -/

/-- a waiting MT exit goes on in GEN's own state alone -/
theorem mtNext_modGen (s : State) : ∃ f, mtNext s = modGen f s := by
  unfold mtNext
  split
  · exact ⟨id, rfl⟩
  · split
    · split
      · exact ⟨_, rfl⟩
      · exact ⟨id, rfl⟩
    · exact ⟨id, rfl⟩

theorem within_mtNext {dt : Nat} {l : List Fld} {s u : State} (h : Within dt l s u) : Within dt l s (mtNext u) := by
  obtain ⟨f, hf⟩ := mtNext_modGen u
  rw [hf]
  exact h.modGen f

@[simp] theorem mtNext_img (s : State) : (mtNext s).img = s.img := by
  obtain ⟨f, hf⟩ := mtNext_modGen s
  rw [hf]
  rfl

@[simp] theorem mtNext_flt (s : State) : (mtNext s).flt = s.flt := by
  obtain ⟨f, hf⟩ := mtNext_modGen s
  rw [hf]
  rfl

@[simp] theorem mtNext_now (s : State) : (mtNext s).now = s.now := by
  obtain ⟨f, hf⟩ := mtNext_modGen s
  rw [hf]
  rfl

@[simp] theorem rd_mtNext (s : State) (x : Fld) : rd (mtNext s) x = rd s x := by
  obtain ⟨f, hf⟩ := mtNext_modGen s
  rw [hf]
  rfl

theorem kept_mtNext {s u : State} (h : Kept s u) : Kept s (mtNext u) := by
  obtain ⟨f, hf⟩ := mtNext_modGen u
  rw [hf]
  exact h.modGen f

section
variable {dt : Nat} {s u : State}

/-! #### PR_START and PR_ABORT -/

theorem mode_eq_testBit (s : State) (i : Nat) : mode s i = (rd s GEN_MODESTAT_EFFECTIVE).testBit i := (rfl)

theorem prStart_open (hst : rd u IMG_STATUS_STATE = 4) (hl : rd u IMG_LOCK_LOCK = 0) (hm : mode u 6 = true) (hp : rd u IMG_STATUS_PTR ≠ spareBank u) :
    prStart u = putImgState 7 (modImg (fun i => { i with dl := 0, shadow := none, spareOk := false }) (put IMG_STATUS_SPARE_VALID 0 u)) := by
  have hguard : guardPointer (put IMG_STATUS_SPARE_VALID 0 u) = put IMG_STATUS_SPARE_VALID 0 u :=
    guardPointer_same (by simpa [spareBank, rd_put_ne] using hp)
  simp only [prStart, imgState, hst, on_eq_false hl, hm, hguard, bne_self_eq_false, Bool.not_true, Bool.or_self, Bool.false_eq_true, if_false]
  rfl

theorem prStart_refused (h : rd u IMG_STATUS_STATE ≠ 4 ∨ rd u IMG_LOCK_LOCK = 1 ∨ mode u 6 = false) : prStart u = refuse u :=
  if_pos (by rcases h with h | h | h <;> simp [imgState, on, h])

theorem prAbort_running (h7 : 7 ≤ rd u IMG_STATUS_STATE) (h9 : rd u IMG_STATUS_STATE ≤ 9) : prAbort u = prEnd u :=
  if_pos (by
    have h : rd u IMG_STATUS_STATE = 7 ∨ rd u IMG_STATUS_STATE = 8 ∨ rd u IMG_STATUS_STATE = 9 := by omega
    rcases h with h | h | h <;> simp [imgState, h])

theorem prAbort_refused (h : rd u IMG_STATUS_STATE < 7) : prAbort u = refuse u :=
  if_neg (by
    have hno : rd u IMG_STATUS_STATE ≠ 7 ∧ rd u IMG_STATUS_STATE ≠ 8 ∧ rd u IMG_STATUS_STATE ≠ 9 := by omega
    simp [imgState, hno])

theorem completes_prStart (hb : Between s) (hi : HostIdle s) (hst : rd s IMG_STATUS_STATE = 4) (hl : rd s IMG_LOCK_LOCK = 0)
    (hm : (rd s GEN_MODESTAT_EFFECTIVE).testBit 6 = true) (hp : rd s IMG_STATUS_PTR ≠ spareBank s) :
    Completes (.prStart dt) s (fun t => rd t IMG_STATUS_STATE = 7 ∧ rd t IMG_STATUS_SPARE_VALID = 0 ∧ t.img.dl = 0 ∧ t.img.shadow = none
      ∧ t.now = s.now + dt ∧ RegsBut [IMG_STATUS_STATE, IMG_STATUS_SPARE_VALID] s t ∧ StoresSame s t) := by
  have hw := within_putImgState (within_modImg ((within_issued 0x300004 dt [IMG_STATUS_STATE, IMG_STATUS_SPARE_VALID] s).put
    (f := IMG_STATUS_SPARE_VALID) (by simp) 0) (fun i => { i with dl := 0, shadow := none, spareOk := false })) (by simp) 7
  refine hw.completes ?_ hb ⟨by simp, by simp [putImgState, rd_put_ne], rfl, rfl, hw.now, hw.regs, hw.storesSame⟩
  rw [exec_prStart hi, prStart_open (by simpa using hst) (by simpa using hl) (by simpa [mode_eq_testBit] using hm)
    (by simpa [spareBank_issued] using hp)]

/-- the shadow that an aborted reload keeps for the rest of its core cycle -/
def keptShadow (s : State) : Option (Nat × Shadow) := if imgState s = 9 then s.img.shadow.map (fun x => (cycleNow s, x)) else none

theorem prEnd_eq (s : State) : prEnd s =
    mtNext (modImg (fun i => { i with shadow := none, dl := 0, abort := keptShadow s }) (putImgState 4 (put IMG_STATUS_PR_OUTCOME 2 s))) := (rfl)

theorem completes_prAbort (hb : Between s) (hi : HostIdle s) (h7 : 7 ≤ rd s IMG_STATUS_STATE) (h9 : rd s IMG_STATUS_STATE ≤ 9) :
    Completes (.prAbort dt) s (fun t => rd t IMG_STATUS_STATE = 4 ∧ rd t IMG_STATUS_PR_OUTCOME = 2 ∧ t.img.shadow = none
      ∧ t.now = s.now + dt ∧ RegsBut [IMG_STATUS_STATE, IMG_STATUS_PR_OUTCOME] s t ∧ StoresSame s t) := by
  have hw := within_mtNext (within_modImg (within_putImgState ((within_issued 0x300004 dt [IMG_STATUS_STATE, IMG_STATUS_PR_OUTCOME] s).put
    (f := IMG_STATUS_PR_OUTCOME) (by simp) 2) (by simp) 4) (fun i => { i with shadow := none, dl := 0, abort := keptShadow (atCtrl dt s) }))
  refine hw.completes ?_ hb ⟨by simp, by simp [putImgState, rd_put_ne], by simp, hw.now, hw.regs, hw.storesSame⟩
  rw [exec_prAbort hi, prAbort_running (by simpa using h7) (by simpa using h9), prEnd_eq]

/-! #### A reload that fails -/

/-- the state of a failed reload before its fault is raised and a waiting MT exit goes on -/
def prStopped (code seg : Nat) (pass2 : Bool) (s : State) : State :=
  modImg (fun i => { i with shadow := none, dl := 0 }) (putImgState 4 (put IMG_STATUS_PR_OUTCOME 3 (putImgErr code seg pass2 s)))

theorem prFailed_eq (code seg : Nat) (pass2 : Bool) (s : State) : prFailed code seg pass2 s = mtNext (raise 8 none (prStopped code seg pass2 s)) := (rfl)

/-- the fields that a failed reload changes -/
def prFields : List Fld := [IMG_STATUS_STATE, IMG_STATUS_PR_OUTCOME, IMG_STATUS_PR_BLOCK] ++ errFields

/-- a failed reload: back to RUN, PR_OUTCOME 0b11, the code, source 8 -/
def PrFailed (dt code : Nat) (s v : State) : Prop :=
  rd v IMG_STATUS_STATE = 4 ∧ rd v IMG_STATUS_PR_OUTCOME = 3 ∧ rd v IMG_ERR_CODE = code % 256 ∧ v.flt.raised = [(8, none)] ∧ v.img.shadow = none
    ∧ v.now = s.now + dt ∧ RegsBut prFields s v ∧ StoresSame s v

theorem within_prStopped {code seg : Nat} {pass2 : Bool} (h : Within dt prFields s u) : Within dt prFields s (prStopped code seg pass2 u) :=
  within_modImg (within_putImgState ((within_putImgErr h (fun _ hf => List.mem_append_right _ hf) code seg pass2).put
    (f := IMG_STATUS_PR_OUTCOME) (by simp [prFields]) 3) (by simp [prFields]) 4) _

theorem effects_prFailed {c : Instr} {code seg : Nat} {pass2 : Bool} (hb : Between s) (hc : exec c s = done s (prFailed code seg pass2 u))
    (hu : Within dt prFields s u) : Effects c s (PrFailed dt code s) := by
  have hw := within_prStopped (code := code) (seg := seg) (pass2 := pass2) hu
  have hcode : rd (prStopped code seg pass2 u) IMG_ERR_CODE = code % 256 := by
    rw [prStopped, rd_modImg, rd_putImgState_ne _ _ (by simp), rd_put_ne _ _ (by simp), (rd_putImgErr code seg pass2 u).1]
  refine ⟨_, hc, ?_, ?_, ?_, ?_, ?_, ?_, ?_, (kept_mtNext (hw.kept.raise _ _)).storesSame⟩
  · simp [prFailed_eq, prStopped]
  · simp [prFailed_eq, prStopped, putImgState, rd_put_ne]
  · simp [prFailed_eq, hcode]
  · simp [prFailed_eq, hw.raised hb]
  · simp [prFailed_eq, prStopped]
  · simp [prFailed_eq, hw.now]
  · intro f hf
    rw [prFailed_eq, rd_mtNext, rd_raise, hw.regs f hf]

/-! #### Verification and the commit cycle -/

/-- what verification of a partial image finds, PR_BLOCK showing its target -/
abbrev prVerified (z : State) : Option (Nat × Nat) :=
  pass1 (checkEnv (put IMG_STATUS_PR_BLOCK (headerOf (bankBytes z (spareBank z))).pBlock z) (bankBytes z (spareBank z)) false true) true
    (bankBytes z (spareBank z))

theorem prVerifyDone_passed (hst : rd u IMG_STATUS_STATE = 8) (h : prVerified u = none) : ∃ sh, prVerifyDone u =
    putImgState 9 (modImg (fun i => { i with shadow := some sh }) (put IMG_STATUS_PR_BLOCK (headerOf (bankBytes u (spareBank u))).pBlock u)) := by
  simp only [prVerifyDone, imgState, hst, bne_self_eq_false, Bool.false_eq_true, if_false, h]
  exact ⟨_, rfl⟩

theorem prVerifyDone_failed (hst : rd u IMG_STATUS_STATE = 8) {r : Nat × Nat} (h : prVerified u = some r) : prVerifyDone u =
    prFailed r.1 r.2 false (put IMG_STATUS_PR_BLOCK (headerOf (bankBytes u (spareBank u))).pBlock u) := by
  simp only [prVerifyDone, imgState, hst, bne_self_eq_false, Bool.false_eq_true, if_false, h]

theorem completes_prVerifyDone (hb : Between s) (hst : rd s IMG_STATUS_STATE = 8) (h : prVerified (pass dt s) = none) :
    Completes (.prVerifyDone dt) s (fun t => rd t IMG_STATUS_STATE = 9
      ∧ rd t IMG_STATUS_PR_BLOCK = (headerOf (bankBytes (pass dt s) (spareBank (pass dt s)))).pBlock % 16 ∧ t.img.shadow.isSome = true
      ∧ t.now = s.now + dt ∧ RegsBut [IMG_STATUS_STATE, IMG_STATUS_PR_BLOCK] s t ∧ StoresSame s t) := by
  obtain ⟨sh, hsh⟩ := prVerifyDone_passed (by simpa using hst) h
  have hw := within_putImgState (within_modImg ((within_pass dt [IMG_STATUS_STATE, IMG_STATUS_PR_BLOCK] s).put (f := IMG_STATUS_PR_BLOCK)
    (by simp) (headerOf (bankBytes (pass dt s) (spareBank (pass dt s)))).pBlock) (fun i => { i with shadow := some sh })) (by simp) 9
  exact hw.completes (congrArg (done s) hsh) hb ⟨by simp, by simp [putImgState, rd_put_ne], rfl, hw.now, hw.regs, hw.storesSame⟩

theorem effects_prVerifyDone_failed (hb : Between s) (hst : rd s IMG_STATUS_STATE = 8) {r : Nat × Nat} (h : prVerified (pass dt s) = some r) :
    Effects (.prVerifyDone dt) s (PrFailed dt r.1 s) :=
  effects_prFailed hb (congrArg (done s) (prVerifyDone_failed (by simpa using hst) h)) ((within_pass dt _ s).put (by simp [prFields]) _)

theorem commitShadow_waiting (hst : rd u IMG_STATUS_STATE = 9) : commitShadow u = u.img.shadow := if_pos hst

theorem effects_prCommitCycle_locked (hb : Between s) (hst : rd s IMG_STATUS_STATE = 9) {sh : Shadow} (hs : s.img.shadow = some sh)
    (h : (lockedRec sh.recs (pass dt s)).isSome = true) : Effects (.prCommitCycle dt) s (PrFailed dt 0x0F s) := by
  obtain ⟨c, hc⟩ := Option.isSome_iff_exists.1 h
  have hsh : commitShadow (pass dt s) = some sh := (commitShadow_waiting (by simpa using hst)).trans (by simpa using hs)
  have he : prCommit (pass dt s) = prFailed 0x0F c.seg true (pass dt s) := by simp only [prCommit, hsh, hc]
  exact effects_prFailed hb (congrArg (done s) he) (within_pass dt _ s)

/-- the records, the routes and the schedule of a reload moved to the live registers -/
def reloaded (sh : Shadow) (s : State) : State :=
  let t := routesApply sh.routes (prApply sh.recs (put IMG_STATUS_STATE 9 (modImg (fun i => { i with shadow := none, abort := none, dl := 0 }) s)))
  match sh.sched with
  | some (first, c) => schedReplace first (chunks 30000 16 c) t
  | none => t

theorem prCommit_open {sh : Shadow} (hs : commitShadow u = some sh) (h : lockedRec sh.recs u = none) : prCommit u =
    mtNext (slotsOfBlock (rd (reloaded sh u) IMG_STATUS_PR_BLOCK) (putImgState 4 (put IMG_STATUS_PR_OUTCOME 1 (reloaded sh u)))) := by
  simp only [prCommit, hs, h]
  rfl

theorem leads_prCommitCycle (hst : rd s IMG_STATUS_STATE = 9) {sh : Shadow} (hs : s.img.shadow = some sh)
    (h : (lockedRec sh.recs (pass dt s)).isSome = false) :
    Leads (.prCommitCycle dt) s (fun u => mtNext (slotsOfBlock (rd u IMG_STATUS_PR_BLOCK) u)) (fun u =>
      rd u IMG_STATUS_STATE = 4 ∧ rd u IMG_STATUS_PR_OUTCOME = 1) := by
  have hsh : commitShadow (pass dt s) = some sh := (commitShadow_waiting (by simpa using hst)).trans (by simpa using hs)
  have hblock : ∀ v, rd (putImgState 4 (put IMG_STATUS_PR_OUTCOME 1 v)) IMG_STATUS_PR_BLOCK = rd v IMG_STATUS_PR_BLOCK := fun v => by
    simp [putImgState, rd_put_ne]
  refine ⟨putImgState 4 (put IMG_STATUS_PR_OUTCOME 1 (reloaded sh (pass dt s))), ?_, by simp, by simp [putImgState, rd_put_ne]⟩
  simp only [hblock]
  exact congrArg (done s) (prCommit_open hsh (Option.isNone_iff_eq_none.1 (by simpa using h)))

end

/-- Settles O24: PR_START and PR_ABORT under their guards; verification and the commit cycle by what the check of the image and of the
locks finds, a failure of either by the one rule for failed reloads. -/
theorem partialReloadStepsToItsCommitCycle : Obligations.PartialReloadStepsToItsCommitCycle := by
  unfold Obligations.PartialReloadStepsToItsCommitCycle
  intro dt s hb hi z st keeps refused failed
  refine ⟨completes_prStart hb hi, fun h => ?_, completes_prAbort hb hi, fun h => ?_, fun hst l hl => ?_, fun hst sh hs => ?_⟩
  · exact effects_ctrlRefused ((exec_prStart hi).trans (congrArg _ (prStart_refused (by simpa [mode_eq_testBit] using h)))) hb
  · exact effects_ctrlRefused ((exec_prAbort hi).trans (congrArg _ (prAbort_refused (by simpa using h)))) hb
  · rw [show spareBank s = spareBank z by simp [z, spareBank]] at hl
    subst hl
    exact ⟨completes_prVerifyDone hb hst, fun r hr => effects_prVerifyDone_failed (dt := dt) (r := r) hb hst hr⟩
  · exact ⟨effects_prCommitCycle_locked hb hst hs, leads_prCommitCycle hst hs⟩

/-! ### Fuse programs (R434 to R436) -/

/-- SEC's fuse program set to r -/
def putFuse (r : Option FuseRun) (s : State) : State := modSec (fun x => { x with fuse := r }) s

@[simp] theorem putFuse_sec (r : Option FuseRun) (s : State) : (putFuse r s).sec = { s.sec with fuse := r } := (rfl)
@[simp] theorem putFuse_now (r : Option FuseRun) (s : State) : (putFuse r s).now = s.now := (rfl)
@[simp] theorem putFuse_otp (r : Option FuseRun) (s : State) : (putFuse r s).otp = s.otp := (rfl)
@[simp] theorem putFuse_flt (r : Option FuseRun) (s : State) : (putFuse r s).flt = s.flt := (rfl)
@[simp] theorem rd_putFuse (r : Option FuseRun) (s : State) (x : Fld) : rd (putFuse r s) x = rd s x := (rfl)

theorem within_putFuse {dt : Nat} {l : List Fld} {s u : State} (h : Within dt l s u) (r : Option FuseRun) : Within dt l s (putFuse r u) :=
  ⟨h.now, h.regs, h.kept.modSec _, h.quiet⟩

/-- the bits of a mask that are still to program -/
def unburnt (v : Nat) (s : State) : List Nat := (bitList 2048 v).filter (fun i => !Nat.testBit s.otp i)

theorem fuseBegin_eq (f v : Nat) (s : State) : fuseBegin f v s = put SEC_FUSE_STAT_LEFT (unburnt v s).length
    (put SEC_FUSE_STAT_BUSY 1 (putFuse (some { field := f, todo := unburnt v s, start := s.now }) s)) := (rfl)

theorem within_fuseBegin {dt f v : Nat} {l : List Fld} {s u : State} (h : Within dt l s u) (hbusy : SEC_FUSE_STAT_BUSY ∈ l)
    (hleft : SEC_FUSE_STAT_LEFT ∈ l) : Within dt l s (fuseBegin f v u) := ((within_putFuse h _).put hbusy _).put hleft _

section
variable {dt : Nat} {s u : State}

/-! #### What the checks of a fuse write look at -/

theorem mrd_issued (addr a : Nat) : mrd (Issued addr dt s) a = mrd s a := by simp [mrd]

theorem bufNat_issued (addr n : Nat) : bufNat (Issued addr dt s) n = bufNat s n := by simp [bufNat, bufBytes]

theorem bankKeyIdx_issued (addr n : Nat) : bankKeyIdx (Issued addr dt s) n = bankKeyIdx s n := by simp [bankKeyIdx, mrd_issued]

theorem fuseRulesOk_issued (addr f v : Nat) : fuseRulesOk (Issued addr dt s) f v = fuseRulesOk s f v := by
  unfold fuseRulesOk
  simp [pkh, fuseBytes, on, bankKeyIdx_issued, usable, signedBoot]

theorem fuseRefuse_issued (addr k f : Nat) : fuseRefuse (Issued addr dt s) k f = fuseRefuse s k f := by
  simp [fuseRefuse, on, bufNat_issued, fuseRulesOk_issued]

theorem fuseRefuse_lt (s : State) (k f : Nat) : fuseRefuse s k f < 2 ^ 4 := by
  unfold fuseRefuse
  dsimp only
  repeat' split
  all_goals decide

theorem bufNat_put_refuse (c n : Nat) (s : State) : bufNat (put SEC_FUSE_STAT_REFUSE c s) n = bufNat s n := by
  have hrd : ∀ i, rd (put SEC_FUSE_STAT_REFUSE c s) (SEC_BUF_DATA i) = rd s (SEC_BUF_DATA i) := fun i =>
    rd_put_ne _ _ (by simp only [key_SEC_FUSE_STAT_REFUSE, key_SEC_BUF_DATA]; omega)
  simp [bufNat, bufBytes, hrd]

/-! #### A fuse write -/

theorem fuseWrite_refused {k f : Nat} (h : fuseRefuse u k f ≠ 0) : fuseWrite k f u = refuse (put SEC_FUSE_STAT_REFUSE (fuseRefuse u k f) u) :=
  if_pos (bne_iff_ne.2 h)

theorem fuseWrite_taken {k f : Nat} (h : fuseRefuse u k f = 0) :
    fuseWrite k f u = fuseBegin f (bufNat u (fuseField f).2 <<< (fuseField f).1) (put SEC_FUSE_STAT_REFUSE 0 u) := by
  simp [fuseWrite, h, bufNat_put_refuse]

theorem sec_fuseCtl : PlainWord 0xF00018 ∧ rwsGroupOf 0xF00018 = none ∧ isPartnerReg 0xF00018 = false
    ∧ ∀ p ∈ fieldsAt 0xF00018, p.2 = 3 := by decide +kernel

theorem exec_fuseProgram (hi : HostIdle s) (key field : Nat) :
    exec (.fuseProgram dt key field) s = done s (fuseWrite (key % 256) (field % 16) (Issued 0xF00018 dt s)) := by
  obtain ⟨hword, hgrp, hp, hwo⟩ := sec_fuseCtl
  have hlt : key % 256 * 2 ^ 24 + field % 16 < 2 ^ 32 := by omega
  have hkey : bitsOf (key % 256 * 2 ^ 24 + field % 16) 31 24 = key % 256 := by
    simp only [bitsOf, Nat.shiftRight_eq_div_pow]
    omega
  have hfield : bitsOf (key % 256 * 2 ^ 24 + field % 16) 3 0 = field % 16 := by
    simp only [bitsOf, Nat.shiftRight_eq_div_pow]
    omega
  change done s (writeReg 0xF00018 0 (key % 256 * 2 ^ 24 + field % 16) (pass dt s)) = _
  rw [writeReg_system hi hword (.inr (by decide)) hgrp hp (by decide) (fun _ => lockHit_wo hwo _ _ _), liveWord_wo hwo, mergeWord_zero,
    Nat.mod_eq_of_lt hlt]
  simp only [takeWrite, show blockOf 0xF00018 = 15 from rfl, secWrite, show 0xF00018 % 2 ^ 20 = 0x18 from rfl, hkey, hfield]
  rfl

theorem effects_fuseProgram_refused (hb : Between s) (hi : HostIdle s) {key field : Nat} (h : fuseRefuse s (key % 256) (field % 16) ≠ 0) :
    Effects (.fuseProgram dt key field) s (fun v => rd v SEC_FUSE_STAT_REFUSE = fuseRefuse s (key % 256) (field % 16) ∧ v.flt.raised = [(0, none)]
      ∧ v.sec = s.sec ∧ v.now = s.now + dt ∧ RegsBut (SEC_FUSE_STAT_REFUSE :: hafRegs) s v ∧ StoresSame s v) := by
  have he := exec_fuseProgram (dt := dt) hi key field
  rw [fuseWrite_refused (by rwa [fuseRefuse_issued]), fuseRefuse_issued] at he
  have hr := refused_of_within ((within_issued 0xF00018 dt (SEC_FUSE_STAT_REFUSE :: hafRegs) s).put List.mem_cons_self
    (fuseRefuse s (key % 256) (field % 16))) (fun _ hf => List.mem_cons_of_mem _ (mem_hafRegs _ hf)) hb
  refine ⟨_, he, ?_, hr.raised, by simp [hr.sec], hr.now, hr.regs, hr.stores⟩
  rw [hr.shows _ (by simp [hafFields]), rd_put_same, width_SEC_FUSE_STAT_REFUSE, Nat.mod_eq_of_lt (fuseRefuse_lt _ _ _)]

theorem completes_fuseProgram (hb : Between s) (hi : HostIdle s) {key field : Nat} (h : fuseRefuse s (key % 256) (field % 16) = 0) :
    Completes (.fuseProgram dt key field) s (fun t =>
      let todo := unburnt (bufNat s (fuseField (field % 16)).2 <<< (fuseField (field % 16)).1) s
      rd t SEC_FUSE_STAT_REFUSE = 0 ∧ rd t SEC_FUSE_STAT_BUSY = 1 ∧ rd t SEC_FUSE_STAT_LEFT = todo.length % 2 ^ fldWidth SEC_FUSE_STAT_LEFT
      ∧ t.sec = { s.sec with fuse := some { field := field % 16, todo := todo, start := s.now + dt } }
      ∧ t.now = s.now + dt ∧ RegsBut [SEC_FUSE_STAT_REFUSE, SEC_FUSE_STAT_BUSY, SEC_FUSE_STAT_LEFT] s t ∧ StoresSame s t) := by
  have he := exec_fuseProgram (dt := dt) hi key field
  rw [fuseWrite_taken (by rwa [fuseRefuse_issued]), bufNat_issued] at he
  have hw := within_fuseBegin (f := field % 16) (v := bufNat s (fuseField (field % 16)).2 <<< (fuseField (field % 16)).1)
    ((within_issued 0xF00018 dt [SEC_FUSE_STAT_REFUSE, SEC_FUSE_STAT_BUSY, SEC_FUSE_STAT_LEFT] s).put (f := SEC_FUSE_STAT_REFUSE) (by simp) 0)
    (by simp) (by simp)
  refine hw.completes he hb ⟨?_, ?_, ?_, ?_, hw.now, hw.regs, hw.storesSame⟩
  · simp [fuseBegin_eq, rd_put_ne]
  · simp [fuseBegin_eq, rd_put_ne]
  · simp [fuseBegin_eq, unburnt]
  · simp [fuseBegin_eq, unburnt]

/-! #### The end of a fuse program (R436) -/

/-- the bits of a list programmed into an array, whatever it held -/
theorem testBit_programmed (l : List Nat) (v i : Nat) :
    (l.foldl (fun v i => v ||| (1 <<< i)) v).testBit i = (v.testBit i || l.contains i) := by
  induction l generalizing v with
  | nil => simp
  | cons a r ih =>
    rw [List.foldl_cons, ih, Nat.testBit_or, Nat.one_shiftLeft, Nat.testBit_two_pow, List.contains_cons, Bool.or_assoc,
      show decide (a = i) = (i == a) from decide_eq_decide.2 eq_comm]

@[simp] theorem burn_otp (l : List Nat) (s : State) : (burn l s).otp = l.foldl (fun v i => v ||| (1 <<< i)) s.otp := (rfl)
@[simp] theorem burn_sec (l : List Nat) (s : State) : (burn l s).sec = s.sec := (rfl)
@[simp] theorem burn_flt (l : List Nat) (s : State) : (burn l s).flt = s.flt := (rfl)
@[simp] theorem burn_now (l : List Nat) (s : State) : (burn l s).now = s.now := (rfl)
@[simp] theorem rd_burn (l : List Nat) (s : State) (f : Fld) : rd (burn l s) f = rd s f := (rfl)

/-- a free value drawn leaves all else -/
@[simp] theorem fresh_frame (s : State) : (fresh s).2.otp = s.otp ∧ (fresh s).2.sec = s.sec ∧ (fresh s).2.flt = s.flt ∧ (fresh s).2.now = s.now :=
  ⟨rfl, rfl, rfl, rfl⟩

@[simp] theorem rd_fresh (s : State) (f : Fld) : rd (fresh s).2 f = rd s f := (rfl)

/-- the time at which the read-back of the program r ends -/
def fuseEnds (s : State) (r : FuseRun) : Nat := max s.now (r.start + (20 * r.todo.length + 10) * usU)

/-- the read-back of the program r has ended, its outcome still to show -/
def fuseRead (s : State) (r : FuseRun) : State :=
  put SEC_FUSE_STAT_LEFT 0 (put SEC_FUSE_STAT_BUSY 0 (putFuse none (advanceTo (r.start + (20 * r.todo.length + 10) * usU) s)))

/-- the bits of the program r stand in the array and in the sensed copy -/
def fuseBurnt (s : State) (r : FuseRun) : State :=
  modSec (fun x => { x with sensed := r.todo.foldl (fun v i => v ||| (1 <<< i)) x.sensed }) (burn r.todo (fuseRead s r))

/-- the begin of the core cycle after t -/
def nextCycle (t : Nat) : Nat := (cycleOf t + 1) * cycU

/-- a program whose read-back passed, in the core cycle in which its bits take effect -/
def fusePassed (s : State) (r : FuseRun) : State := advanceTo (nextCycle (fuseBurnt s r).now) (put SEC_EVT_FUSE_DONE 1 (fuseBurnt s r))

/-- the read-back of the program r failed, any of its bits programmed -/
def fuseFailed (s : State) (r : FuseRun) : State :=
  put SEC_FUSE_STAT_FAIL 1 (burn (r.todo.filter (fun i => Nat.testBit (fresh (fuseRead s r)).1 i)) (fresh (fuseRead s r)).2)

theorem fuseDone_none (ok : Bool) (h : s.sec.fuse = none) : fuseDone ok s = s := by simp [fuseDone, h]

theorem fuseDone_pass {r : FuseRun} (h : s.sec.fuse = some r) : fuseDone true s = fuseEffect (fusePassed s r) := by
  simp only [fuseDone, h]
  rfl

theorem fuseDone_fail {r : FuseRun} (h : s.sec.fuse = some r) : fuseDone false s = raise 90 none (fuseFailed s r) := by
  simp only [fuseDone, h]
  rfl

@[simp] theorem fuseRead_otp (r : FuseRun) : (fuseRead s r).otp = s.otp := by simp [fuseRead]
@[simp] theorem fuseRead_sec (r : FuseRun) : (fuseRead s r).sec = { s.sec with fuse := none } := by simp [fuseRead]
@[simp] theorem fuseRead_flt (r : FuseRun) : (fuseRead s r).flt = s.flt := by simp [fuseRead]
@[simp] theorem fuseRead_now (r : FuseRun) : (fuseRead s r).now = fuseEnds s r := by simp [fuseRead, fuseEnds]

theorem rd_fuseRead (r : FuseRun) : rd (fuseRead s r) SEC_FUSE_STAT_BUSY = 0 ∧ rd (fuseRead s r) SEC_FUSE_STAT_LEFT = 0 := by
  simp [fuseRead, rd_put_ne]

theorem regsBut_fuseRead {l : List Fld} (r : FuseRun) (hb : SEC_FUSE_STAT_BUSY ∈ l) (hl : SEC_FUSE_STAT_LEFT ∈ l) : RegsBut l s (fuseRead s r) :=
  regsBut_put (regsBut_put (regsBut_of_rd (fun f => by simp) l) hb 0) hl 0

@[simp] theorem fuseBurnt_otp (r : FuseRun) : (fuseBurnt s r).otp = r.todo.foldl (fun v i => v ||| (1 <<< i)) s.otp := by
  simp [fuseBurnt]

@[simp] theorem fuseBurnt_sec (r : FuseRun) : (fuseBurnt s r).sec =
    { s.sec with fuse := none, sensed := r.todo.foldl (fun v i => v ||| (1 <<< i)) s.sec.sensed } := by
  simp [fuseBurnt]

@[simp] theorem fuseBurnt_flt (r : FuseRun) : (fuseBurnt s r).flt = s.flt := by simp [fuseBurnt]

@[simp] theorem fuseBurnt_now (r : FuseRun) : (fuseBurnt s r).now = fuseEnds s r := by simp [fuseBurnt]

theorem rd_fuseBurnt (r : FuseRun) (f : Fld) : rd (fuseBurnt s r) f = rd (fuseRead s r) f :=
  (rd_modSec _ _ _).trans (rd_burn _ _ _)

theorem rd_fusePassed (r : FuseRun) (f : Fld) : rd (fusePassed s r) f = rd (put SEC_EVT_FUSE_DONE 1 (fuseBurnt s r)) f := rd_advanceTo _ _ _

theorem max_nextCycle (t : Nat) : max t (nextCycle t) = nextCycle t :=
  max_eq_right (by
    have h := Nat.lt_div_mul_add (a := t) (b := cycU) (by decide)
    rw [nextCycle, cycleOf, Nat.add_mul, Nat.one_mul]
    exact h.le)

theorem fusePassed_now (r : FuseRun) : (fusePassed s r).now = nextCycle (fuseEnds s r) := by
  rw [fusePassed, advanceTo_now, put_now, fuseBurnt_now, max_nextCycle]

theorem leads_fuseProgramDone (hb : Between s) {r : FuseRun} (h : s.sec.fuse = some r) :
    Leads (.fuseProgramDone true) s fuseEffect (fun u => (∀ i, u.otp.testBit i = (s.otp.testBit i || r.todo.contains i))
      ∧ (∀ i, u.sec.sensed.testBit i = (s.sec.sensed.testBit i || r.todo.contains i)) ∧ u.sec.fuse = none ∧ rd u SEC_EVT_FUSE_DONE = 1
      ∧ rd u SEC_FUSE_STAT_BUSY = 0 ∧ rd u SEC_FUSE_STAT_LEFT = 0 ∧ u.flt.raised = [] ∧ u.now = nextCycle (fuseEnds s r)
      ∧ RegsBut [SEC_EVT_FUSE_DONE, SEC_FUSE_STAT_BUSY, SEC_FUSE_STAT_LEFT] s u) := by
  obtain ⟨hbusy, hleft⟩ := rd_fuseRead (s := s) r
  refine ⟨fusePassed s r, congrArg (done s) (fuseDone_pass h), fun i => ?_, fun i => ?_, ?_, ?_, ?_, ?_, ?_, fusePassed_now r, fun f hf => ?_⟩
  · rw [fusePassed, advanceTo_otp, put_otp, fuseBurnt_otp, testBit_programmed]
  · rw [fusePassed, advanceTo_sec, put_sec, fuseBurnt_sec, testBit_programmed]
  · rw [fusePassed, advanceTo_sec, put_sec, fuseBurnt_sec]
  · rw [rd_fusePassed, rd_put_same, width_SEC_EVT_FUSE_DONE, Nat.pow_one]
  · rw [rd_fusePassed, rd_put_ne _ _ (by simp), rd_fuseBurnt, hbusy]
  · rw [rd_fusePassed, rd_put_ne _ _ (by simp), rd_fuseBurnt, hleft]
  · rw [fusePassed, advanceTo_flt, put_flt, fuseBurnt_flt, raised_of_between hb]
  · rw [rd_fusePassed, regsBut_put (regsBut_of_rd (rd_fuseBurnt r) _) (by simp) 1 f hf, regsBut_fuseRead r (by simp) (by simp) f hf]

theorem effects_fuseProgramDone_failed (hb : Between s) {r : FuseRun} (h : s.sec.fuse = some r) :
    Effects (.fuseProgramDone false) s (fun v => rd v SEC_FUSE_STAT_FAIL = 1 ∧ rd v SEC_FUSE_STAT_BUSY = 0 ∧ rd v SEC_FUSE_STAT_LEFT = 0
      ∧ v.flt.raised = [(90, none)] ∧ v.sec.fuse = none
      ∧ (∀ i, v.otp.testBit i = true → s.otp.testBit i = true ∨ r.todo.contains i = true) ∧ v.now = fuseEnds s r
      ∧ RegsBut [SEC_FUSE_STAT_FAIL, SEC_FUSE_STAT_BUSY, SEC_FUSE_STAT_LEFT] s v) := by
  obtain ⟨hbusy, hleft⟩ := rd_fuseRead (s := s) r
  refine ⟨raise 90 none (fuseFailed s r), congrArg (done s) (fuseDone_fail h), ?_, ?_, ?_, ?_, ?_, fun i hi => ?_, ?_, fun f hf => ?_⟩
  · rw [rd_raise, fuseFailed, rd_put_same, width_SEC_FUSE_STAT_FAIL, Nat.pow_one]
  · rw [rd_raise, fuseFailed, rd_put_ne _ _ (by simp), rd_burn, rd_fresh, hbusy]
  · rw [rd_raise, fuseFailed, rd_put_ne _ _ (by simp), rd_burn, rd_fresh, hleft]
  · simp [fuseFailed, raised_of_between hb]
  · simp [fuseFailed]
  · have hotp : (raise 90 none (fuseFailed s r)).otp =
        (r.todo.filter (fun i => Nat.testBit (fresh (fuseRead s r)).1 i)).foldl (fun v i => v ||| (1 <<< i)) s.otp := by
      simp [fuseFailed]
    rw [hotp, testBit_programmed, Bool.or_eq_true, List.contains_iff_mem, List.mem_filter] at hi
    exact hi.imp_right fun hm => List.contains_iff_mem.2 hm.1
  · simp [fuseFailed]
  · rw [rd_raise, fuseFailed, regsBut_put (regsBut_of_rd (fun g => (rd_burn _ _ g).trans (rd_fresh _ g)) _) (by simp) 1 f hf,
      regsBut_fuseRead r (by simp) (by simp) f hf]

theorem exec_fuseProgramDone_idle (hb : Between s) (ok : Bool) (h : s.sec.fuse = none) : exec (.fuseProgramDone ok) s = .next s :=
  (congrArg (done s) (fuseDone_none ok h)).trans (done_self hb rfl rfl rfl)

/-! ### The fuse lock and the slot locks (R439, R449) -/

theorem sec_lock : LockReg 0xF00008 SEC_LOCK_FUSE_LOCK := by decide +kernel

theorem sec_slotLock : LockReg 0xF0000C SEC_SLOT_LOCK_LOCK := by decide +kernel

theorem completes_fuseLockWrite (hb : Between s) (hi : HostIdle s) : Completes (.fuseLockWrite dt) s (fun t =>
    rd t SEC_LOCK_FUSE_LOCK = 1 ∧ t.sec = s.sec ∧ t.now = s.now + dt ∧ RegsBut [SEC_LOCK_FUSE_LOCK] s t ∧ StoresSame s t) :=
  completes_mono (completes_lockWrite hb hi sec_lock rfl fun _ _ _ => by simp [takeWrite, show blockOf 0xF00008 = 15 from rfl, secWrite])
    fun t ⟨hlock, hrest⟩ => by
      refine ⟨?_, hrest⟩
      rw [hlock, width_SEC_LOCK_FUSE_LOCK, Nat.pow_one, Nat.or_mod_two_eq_one]
      exact .inr (by decide)

theorem completes_slotLockWrite (hb : Between s) (hi : HostIdle s) (data : Nat) : Completes (.slotLockWrite dt 0 data) s (fun t =>
    rd t SEC_SLOT_LOCK_LOCK = (rd s SEC_SLOT_LOCK_LOCK ||| data % 2 ^ 32) % 2 ^ 32 ∧ t.sec = s.sec ∧ t.now = s.now + dt
      ∧ RegsBut [SEC_SLOT_LOCK_LOCK] s t ∧ StoresSame s t) :=
  completes_mono (completes_lockWrite (data := data) hb hi sec_slotLock rfl fun _ _ _ => by
      simp [takeWrite, show blockOf 0xF0000C = 15 from rfl, secWrite])
    fun t ⟨hlock, hrest⟩ => by
      refine ⟨?_, hrest⟩
      have hbits : bitsOf (data % 2 ^ 32) 31 0 = data % 2 ^ 32 := Nat.mod_mod _ _
      rw [hlock, width_SEC_SLOT_LOCK_LOCK, show SEC_SLOT_LOCK_LOCK.hi = 31 from rfl, show SEC_SLOT_LOCK_LOCK.lo = 0 from rfl, hbits]

/-! ### ROLLFWD (R88) -/

/-- R88 allows ROLLFWD -/
abbrev MayRoll (s : State) : Prop :=
  rd s IMG_STATUS_STATE = 4 ∧ rd s IMG_LOCK_LOCK ≠ 1 ∧ s.img.signed = true ∧ rd s SEC_STAT_STATE = 1 ∧ s.sec.fuse = none
    ∧ rd s NVM_STAT_PF_WARN ≠ 1 ∧ rd s NVM_STAT_SAVE_RUN ≠ 1

theorem rollfwd_refused (h : ¬ MayRoll u) : rollfwd u = refuse u := if_pos (by
  rw [← Bool.not_eq_false]
  refine mt (fun hno => ?_) h
  simpa [imgState, on, and_assoc] using hno)

theorem rollfwd_may (h : MayRoll u) : rollfwd u =
    if u.img.secver ≤ arbCount u then u else fuseBegin 9 ((2 ^ u.img.secver - 1) <<< (8 * 0xA0)) u := if_neg (by
  obtain ⟨hst, hl, hsig, hsec, hf, hpf, hsave⟩ := h
  simp [imgState, on, hst, hl, hsig, hsec, hf, hpf, hsave])

theorem mayRoll_issued (addr : Nat) : MayRoll (Issued addr dt s) ↔ MayRoll s := by simp [MayRoll]

theorem arbCount_issued (addr : Nat) : arbCount (Issued addr dt s) = arbCount s := by simp [arbCount]

theorem effects_rollfwd_refused (hb : Between s) (hi : HostIdle s) (h : ¬ MayRoll s) : Effects (.rollfwd dt) s (fun v =>
    v.flt.raised = [(0, none)] ∧ v.sec = s.sec ∧ v.now = s.now + dt ∧ RegsBut hafRegs s v ∧ StoresSame s v) := by
  have hr := refused_of_within (within_issued 0x300004 dt hafRegs s) mem_hafRegs hb
  refine ⟨_, (exec_rollfwd hi).trans (congrArg _ (rollfwd_refused (mt (mayRoll_issued _).1 h))), hr.raised, ?_, hr.now, hr.regs, hr.stores⟩
  rw [hr.sec, issued_sec]

theorem completes_rollfwd_none (hb : Between s) (hi : HostIdle s) (h : MayRoll s) (hn : s.img.secver ≤ arbCount s) :
    Completes (.rollfwd dt) s (fun t => t.sec = s.sec ∧ t.now = s.now + dt ∧ RegsBut [] s t ∧ StoresSame s t) := by
  have hw := within_issued 0x300004 dt [] s
  refine hw.completes ?_ hb ⟨by simp, hw.now, hw.regs, hw.storesSame⟩
  rw [exec_rollfwd hi, rollfwd_may ((mayRoll_issued _).2 h), arbCount_issued, issued_img, if_pos hn]

theorem completes_rollfwd (hb : Between s) (hi : HostIdle s) (h : MayRoll s) (hn : arbCount s < s.img.secver) :
    Completes (.rollfwd dt) s (fun t =>
      let bars := unburnt ((2 ^ s.img.secver - 1) <<< (8 * 0xA0)) s
      rd t SEC_FUSE_STAT_BUSY = 1 ∧ rd t SEC_FUSE_STAT_LEFT = bars.length % 2 ^ fldWidth SEC_FUSE_STAT_LEFT
      ∧ t.sec = { s.sec with fuse := some { field := 9, todo := bars, start := s.now + dt } } ∧ t.now = s.now + dt
      ∧ RegsBut [SEC_FUSE_STAT_BUSY, SEC_FUSE_STAT_LEFT] s t ∧ StoresSame s t) := by
  have hw := within_fuseBegin (f := 9) (v := (2 ^ s.img.secver - 1) <<< (8 * 0xA0))
    (within_issued 0x300004 dt [SEC_FUSE_STAT_BUSY, SEC_FUSE_STAT_LEFT] s) (by simp) (by simp)
  refine hw.completes ?_ hb ⟨?_, ?_, ?_, hw.now, hw.regs, hw.storesSame⟩
  · rw [exec_rollfwd hi, rollfwd_may ((mayRoll_issued _).2 h), arbCount_issued, issued_img, if_neg hn.not_ge]
  · simp [fuseBegin_eq, rd_put_ne]
  · simp [fuseBegin_eq, unburnt]
  · simp [fuseBegin_eq, unburnt]

end

/-- Settles O55: a fuse write and ROLLFWD under their checks, the two ends of a program by the bits its list holds, the locks by the
one rule for lock registers. -/
theorem fusesAreProgrammedAndLocked : Obligations.FusesAreProgrammedAndLocked := by
  unfold Obligations.FusesAreProgrammedAndLocked
  intro dt key field data s hb at_ haf f w code todo
  refine ⟨fun ho => ⟨effects_fuseProgram_refused hb ho.1, completes_fuseProgram hb ho.1⟩,
    fun h => ⟨exec_fuseProgramDone_idle hb true h, exec_fuseProgramDone_idle hb false h⟩,
    fun r h => ⟨leads_fuseProgramDone hb h, effects_fuseProgramDone_failed hb h⟩,
    fun ho => completes_fuseLockWrite hb ho.1, fun ho => completes_slotLockWrite hb ho.1 data, fun hi => ?_⟩
  exact ⟨effects_rollfwd_refused hb hi, completes_rollfwd_none hb hi, completes_rollfwd hb hi⟩

/-! ### What applying an image leaves alone (R68, R82)

Pass 2 ends with the bank and the bytes that it began with. For that `imgView` collects what they depend on, and one lemma for each operation that
a segment or a record of an image can reach says that it keeps `imgView`: none of them writes the MRAM, and what they put lies outside block 3. -/

/-- what names and holds an image: IMG's own state, the MRAM, the pointer bank and the run bank -/
def imgView (s : State) : ImgS × List Host.Cell × List Host.Cell × Nat × Nat :=
  (s.img, s.mram, s.mramJ, rd s IMG_STATUS_PTR, rd s IMG_STATUS_RUN_BANK)

theorem imgView_put_ne {f : Fld} (hptr : fldKey f ≠ fldKey IMG_STATUS_PTR) (hrun : fldKey f ≠ fldKey IMG_STATUS_RUN_BANK) (v : Nat) (s : State) :
    imgView (put f v s) = imgView s := by
  simp [imgView, rd_put_ne _ _ hptr, rd_put_ne _ _ hrun]

/-- the registers of the blocks below IMG -/
@[simp] theorem imgView_put_below {f : Fld} (h : fldKey f < 25165824) (v : Nat) (s : State) : imgView (put f v s) = imgView s :=
  imgView_put_ne (by rw [key_IMG_STATUS_PTR]; omega) (by rw [key_IMG_STATUS_RUN_BANK]; omega) v s

/-- the key of a register of a block above IMG -/
def AboveImg (k : Nat) : Prop := 33554432 ≤ k

@[simp] theorem aboveImg_of_le {k : Nat} (h : 33554432 ≤ k) : AboveImg k := h

/-- the keys of a family of registers rise from that of its first one -/
@[simp] theorem aboveImg_add {a : Nat} (h : 33554432 ≤ a) (b : Nat) : AboveImg (a + b) := h.trans (Nat.le_add_right a b)
@[simp] theorem aboveImg_add_add {a : Nat} (h : 33554432 ≤ a) (b c : Nat) : AboveImg (a + b + c) :=
  aboveImg_add (h.trans (Nat.le_add_right a b)) c

@[simp] theorem imgView_put_above {f : Fld} (h : AboveImg (fldKey f)) (v : Nat) (s : State) : imgView (put f v s) = imgView s := by
  unfold AboveImg at h
  exact imgView_put_ne (by rw [key_IMG_STATUS_PTR]; omega) (by rw [key_IMG_STATUS_RUN_BANK]; omega) v s

@[simp] theorem imgView_ite (c : Prop) [Decidable c] (a b : State) : imgView (if c then a else b) = if c then imgView a else imgView b :=
  apply_ite imgView c a b

theorem imgView_forEach_mem {α : Type} {f : α → State → State} (l : List α) (s : State) (hf : ∀ a ∈ l, ∀ u, imgView (f a u) = imgView u) :
    imgView (forEach l f s) = imgView s := by
  induction l generalizing s with
  | nil => rfl
  | cons a r ih => rw [forEach_cons, ih _ fun b hb => hf b (List.mem_cons_of_mem a hb), hf a List.mem_cons_self]

@[simp] theorem imgView_forEach {α : Type} {f : α → State → State} (l : List α) (s : State) (hf : ∀ a u, imgView (f a u) = imgView u) :
    imgView (forEach l f s) = imgView s := forEach_keeps imgView l f s hf

@[simp] theorem imgView_whenB {f : State → State} (c : Bool) (s : State) (hf : imgView (f s) = imgView s) : imgView (whenB c f s) = imgView s := by
  cases c
  · rfl
  · exact hf

@[simp] theorem imgView_putIn (b : Nat) (f : Fld) (v : Nat) (s : State) : imgView (putIn b f v s) = imgView s := by
  have hptr : bankKey b f ≠ fldKey IMG_STATUS_PTR := by
    rw [bankKey, key_IMG_STATUS_PTR]
    omega
  have hrun : bankKey b f ≠ fldKey IMG_STATUS_RUN_BANK := by
    rw [bankKey, key_IMG_STATUS_RUN_BANK]
    omega
  simp [imgView, rd_putIn_ne _ _ hptr, rd_putIn_ne _ _ hrun]

@[simp] theorem imgView_cycMark (f : Fld) (v : Nat) (s : State) : imgView (cycMark f v s) = imgView s := (rfl)
@[simp] theorem imgView_raise (i : Nat) (j : Option Nat) (s : State) : imgView (raise i j s) = imgView s := (rfl)
@[simp] theorem imgView_advanceTo (t : Nat) (s : State) : imgView (advanceTo t s) = imgView s := by simp [imgView]
@[simp] theorem imgView_putCram (i v : Nat) (s : State) : imgView (putCram i v s) = imgView s := (rfl)
@[simp] theorem imgView_modClk (f : ClkS → ClkS) (s : State) : imgView (modClk f s) = imgView s := (rfl)
@[simp] theorem imgView_modSel (k : Nat) (f : SelS → SelS) (s : State) : imgView (modSel k f s) = imgView s := (rfl)
@[simp] theorem imgView_modSlot (k : Nat) (f : SlotS → SlotS) (s : State) : imgView (modSlot k f s) = imgView s := (rfl)
@[simp] theorem imgView_modPin (k : Nat) (f : PinS → PinS) (s : State) : imgView (modPin k f s) = imgView s := (rfl)
@[simp] theorem imgView_modTodr (k : Nat) (f : TodS → TodS) (s : State) : imgView (modTodr k f s) = imgView s := (rfl)
@[simp] theorem imgView_modEst (k : Nat) (f : SlotEst → SlotEst) (s : State) : imgView (modEst k f s) = imgView s := (rfl)
@[simp] theorem imgView_modUnit (k : Nat) (f : UnitS → UnitS) (s : State) : imgView (modUnit k f s) = imgView s := (rfl)
@[simp] theorem imgView_modDpll (k : Nat) (f : DpllS → DpllS) (s : State) : imgView (modDpll k f s) = imgView s := (rfl)
@[simp] theorem imgView_modSyn (k : Nat) (f : SynS → SynS) (s : State) : imgView (modSyn k f s) = imgView s := (rfl)
@[simp] theorem imgView_modOut (k : Nat) (f : OutS → OutS) (s : State) : imgView (modOut k f s) = imgView s := (rfl)
@[simp] theorem imgView_modMns (f : MnsS → MnsS) (s : State) : imgView (modMns f s) = imgView s := (rfl)
@[simp] theorem imgView_modPtp (f : PtpS → PtpS) (s : State) : imgView (modPtp f s) = imgView s := (rfl)
@[simp] theorem imgView_modCrl (f : CrlS → CrlS) (s : State) : imgView (modCrl f s) = imgView s := (rfl)
@[simp] theorem imgView_modTkp (f : TkpS → TkpS) (s : State) : imgView (modTkp f s) = imgView s := (rfl)
@[simp] theorem imgView_modAst (f : AstS → AstS) (s : State) : imgView (modAst f s) = imgView s := (rfl)
@[simp] theorem imgView_modSch (f : SchS → SchS) (s : State) : imgView (modSch f s) = imgView s := (rfl)
@[simp] theorem imgView_modNvm (f : NvmS → NvmS) (s : State) : imgView (modNvm f s) = imgView s := (rfl)
@[simp] theorem imgView_modFlt (f : FltS → FltS) (s : State) : imgView (modFlt f s) = imgView s := (rfl)
@[simp] theorem imgView_modSec (f : SecS → SecS) (s : State) : imgView (modSec f s) = imgView s := (rfl)

@[simp] theorem imgView_withTod (s : State) (x : Nat) : imgView { s with tod := x } = imgView s := (rfl)
@[simp] theorem imgView_withFree (s : State) (x : Nat) : imgView { s with free := x } = imgView s := (rfl)
@[simp] theorem imgView_withPmu (s : State) (x : PmuS) : imgView { s with pmu := x } = imgView s := (rfl)
@[simp] theorem imgView_withSelWas (s : State) (x : Vector (Option SelWas) 8) : imgView { s with selWas := x } = imgView s := (rfl)
@[simp] theorem imgView_withCommit (s : State) (x : List CommitS) : imgView { s with commit := x } = imgView s := (rfl)
@[simp] theorem imgView_withTkp (s : State) (x : TkpS) : imgView { s with tkp := x } = imgView s := (rfl)
@[simp] theorem imgView_withPtp (s : State) (x : PtpS) : imgView { s with ptp := x } = imgView s := (rfl)
@[simp] theorem imgView_withSch (s : State) (x : SchS) : imgView { s with sch := x } = imgView s := (rfl)
@[simp] theorem imgView_withFltHost (s : State) (x : FltS) (y : HostS) : imgView { s with flt := x, host := y } = imgView s := (rfl)

section
variable {f g h k : Fld}

@[simp] theorem imgView_bumpBy (hf : AboveImg (fldKey f)) (n : Nat) (s : State) : imgView (bumpBy f n s) = imgView s := by
  simp [bumpBy, hf]

@[simp] theorem imgView_evtBack (hf : AboveImg (fldKey f)) (s : State) : imgView (evtBack f s) = imgView s := imgView_put_above hf _ s

@[simp] theorem imgView_countLost (hf : AboveImg (fldKey f)) (hg : AboveImg (fldKey g)) (i : Nat) (j : Option Nat) (n : Nat) (full : Bool) (s : State) :
    imgView (countLost f g i j n full s) = imgView s := by simp [countLost, hf, hg]

@[simp] theorem imgView_mnsErr (hf : AboveImg (fldKey f)) (e : Bool) (s : State) : imgView (mnsErr f e s) = imgView s := by
  simp [mnsErr, hf]

@[simp] theorem imgView_ptpErr (hf : AboveImg (fldKey f)) (e : Bool) (s : State) : imgView (ptpErr f e s) = imgView s := by
  simp [ptpErr, hf]

@[simp] theorem imgView_putPair (hf : AboveImg (fldKey f)) (hg : AboveImg (fldKey g)) (v : Nat) (s : State) :
    imgView (putPair f g v s) = imgView s := by simp [putPair, hf, hg]

@[simp] theorem imgView_putPairS (hf : AboveImg (fldKey f)) (hg : AboveImg (fldKey g)) (v : Int) (s : State) :
    imgView (putPairS f g v s) = imgView s := imgView_putPair hf hg _ s

@[simp] theorem imgView_putDate (hf : AboveImg (fldKey f)) (hg : AboveImg (fldKey g)) (hh : AboveImg (fldKey h)) (x : DateTime) (s : State) :
    imgView (putDate f g h x s) = imgView s := by simp [putDate, hf, hg, hh]

@[simp] theorem imgView_putTime (hf : AboveImg (fldKey f)) (hg : AboveImg (fldKey g)) (hh : AboveImg (fldKey h)) (hk : AboveImg (fldKey k))
    (x : DateTime) (s : State) : imgView (putTime f g h k x s) = imgView s := by simp [putTime, hf, hg, hh, hk]

end

/-! #### Faults and the oven -/

@[simp] theorem imgView_haf (a b : Nat) (s : State) : imgView (haf a b s) = imgView s := by simp [haf]

@[simp] theorem imgView_refuse (s : State) : imgView (refuse s) = imgView s := by simp [refuse]

@[simp] theorem imgView_warmStop (s : State) : imgView (warmStop s) = imgView s := by simp [warmStop]

@[simp] theorem imgView_warmEnd (a : Bool) (s : State) : imgView (warmEnd a s) = imgView s := by simp [warmEnd]

/-! #### REF and its slots -/

@[simp] theorem imgView_selMark (a b : Nat) (s : State) : imgView (selMark a b s) = imgView s := by simp [selMark]

@[simp] theorem imgView_selEval (a : Nat) (s : State) : imgView (selEval a s) = imgView s := by simp [selEval]

@[simp] theorem imgView_selSlotChanged (a : Nat) (s : State) : imgView (selSlotChanged a s) = imgView s := by simp [selSlotChanged]

@[simp] theorem imgView_slotPublish (a b c : Nat) (s : State) : imgView (slotPublish a b c s) = imgView s := by simp [slotPublish]

@[simp] theorem imgView_slotDrop (a : Nat) (s : State) : imgView (slotDrop a s) = imgView s := by simp [slotDrop]

@[simp] theorem imgView_slotEval (a : Nat) (s : State) : imgView (slotEval a s) = imgView s := by simp [slotEval]

@[simp] theorem imgView_pinStart (a : Nat) (s : State) : imgView (pinStart a s) = imgView s := by simp [pinStart]

@[simp] theorem imgView_pinErrEval (a : Nat) (s : State) : imgView (pinErrEval a s) = imgView s := by simp [pinErrEval]

@[simp] theorem imgView_pinActOk (a : Nat) (s : State) : imgView (pinActOk a s) = imgView s := by simp [pinActOk]

@[simp] theorem imgView_refInput (a : Nat) (old s : State) : imgView (refInput a old s) = imgView s := by simp [refInput]

@[simp] theorem imgView_todStart (a : Nat) (s : State) : imgView (todStart a s) = imgView s := by simp [todStart]

@[simp] theorem imgView_todErrEval (a : Nat) (s : State) : imgView (todErrEval a s) = imgView s := by simp [todErrEval]

@[simp] theorem imgView_refTod (a : Nat) (old s : State) : imgView (refTod a old s) = imgView s := by simp [refTod]

@[simp] theorem imgView_setSrc (a : Nat) (b : Bool) (c : Nat) (s : State) : imgView (setSrc a b c s) = imgView s := by simp [setSrc]

@[simp] theorem imgView_refWritten (a : WordW) (old s : State) : imgView (refWritten a old s) = imgView s := by simp [refWritten]

/-! #### PMU -/

@[simp] theorem imgView_unitClear (a : Nat) (s : State) : imgView (unitClear a s) = imgView s := by simp [unitClear]

@[simp] theorem imgView_unitWait (a : Nat) (s : State) : imgView (unitWait a s) = imgView s := by simp [unitWait]

@[simp] theorem imgView_unitRestart (a : Nat) (s : State) : imgView (unitRestart a s) = imgView s := by simp [unitRestart]

@[simp] theorem imgView_pmuCtl (a : Nat) (b : WordW) (s : State) : imgView (pmuCtl a b s) = imgView s := by simp [pmuCtl]

@[simp] theorem imgView_unitEval (a : Nat) (s : State) : imgView (unitEval a s) = imgView s := by simp [unitEval]

@[simp] theorem imgView_skewStart (s : State) : imgView (skewStart s) = imgView s := by
  unfold skewStart
  split <;> rfl

@[simp] theorem imgView_pmuWritten (a : WordW) (old s : State) : imgView (pmuWritten a old s) = imgView s := by simp [pmuWritten]

/-! #### SEL -/

@[simp] theorem imgView_dwellEnd (a : Nat) (s : State) : imgView (dwellEnd a s) = imgView s := by simp [dwellEnd]

@[simp] theorem imgView_dwellClr (a : Nat) (s : State) : imgView (dwellClr a s) = imgView s := by simp [dwellClr]

@[simp] theorem imgView_bridgeEval (a : Nat) (s : State) : imgView (bridgeEval a s) = imgView s := by simp [bridgeEval]

@[simp] theorem imgView_selIdle (a : Nat) (s : State) : imgView (selIdle a s) = imgView s := by simp [selIdle]

@[simp] theorem imgView_selEnd (a b : Nat) (s : State) : imgView (selEnd a b s) = imgView s := by simp [selEnd]

@[simp] theorem imgView_selAbort (a : Nat) (s : State) : imgView (selAbort a s) = imgView s := by simp [selAbort]

@[simp] theorem imgView_selCfgWritten (a : Nat) (old s : State) : imgView (selCfgWritten a old s) = imgView s := by simp [selCfgWritten]

/-! #### DPLLs: steps, words and the model -/

@[simp] theorem imgView_moveAcc (a : Nat) (b : Int) (s : State) : imgView (moveAcc a b s) = imgView s := by simp [moveAcc]

@[simp] theorem imgView_askRealign (a : Nat) (s : State) : imgView (askRealign a s) = imgView s := by simp [askRealign]

@[simp] theorem imgView_unalignSyn (a : Nat) (s : State) : imgView (unalignSyn a s) = imgView s := by simp [unalignSyn]

@[simp] theorem imgView_unalign (a : Nat) (s : State) : imgView (unalign a s) = imgView s := by simp [unalign]

@[simp] theorem imgView_stepNow (a : Nat) (b : Int) (s : State) : imgView (stepNow a b s) = imgView s := by simp [stepNow]

@[simp] theorem imgView_rqTake (a : Nat) (b : Queue ResultRec × Nat × Bool) (s : State) : imgView (rqTake a b s) = imgView s := by simp [rqTake]

@[simp] theorem imgView_sqTake (a : Nat) (b : Queue Postmark × Nat × Bool) (s : State) : imgView (sqTake a b s) = imgView s := by simp [sqTake]

@[simp] theorem imgView_sqLevel (a : Nat) (s : State) : imgView (sqLevel a s) = imgView s := by simp [sqLevel]

@[simp] theorem imgView_unitStep (a b : Nat) (c : Int) (s : State) : imgView (unitStep a b c s) = imgView s := by simp [unitStep]

@[simp] theorem imgView_zqLevel (s : State) : imgView (zqLevel s) = imgView s := by simp [zqLevel]

@[simp] theorem imgView_zqTake (a : Queue Postmark × Nat × Bool) (s : State) : imgView (zqTake a s) = imgView s := by simp [zqTake]

@[simp] theorem imgView_portTsTake (a : Nat) (b : Queue Postmark × Nat × Bool) (s : State) : imgView (portTsTake a b s) = imgView s :=
  by simp [portTsTake]

@[simp] theorem imgView_linkTsLevel (a : Nat) (s : State) : imgView (linkTsLevel a s) = imgView s := by simp [linkTsLevel]

@[simp] theorem imgView_linkTsTake (a : Nat) (b : Queue Postmark × Nat × Bool) (s : State) : imgView (linkTsTake a b s) = imgView s :=
  by simp [linkTsTake]

@[simp] theorem imgView_stepAll (a : Nat) (b : Int) (s : State) : imgView (stepAll a b s) = imgView s := by simp [stepAll]

@[simp] theorem imgView_stepGap (a : Nat) (b : Int) (s : State) : imgView (stepGap a b s) = imgView s := by simp [stepGap]

@[simp] theorem imgView_histPush (a : Nat) (s : State) : imgView (histPush a s) = imgView s := by simp [histPush]

@[simp] theorem imgView_fineFix (a : Nat) (s : State) : imgView (fineFix a s) = imgView s := by simp [fineFix]

@[simp] theorem imgView_synTouch (a : Nat) (s : State) : imgView (synTouch a s) = imgView s := by simp [synTouch]

@[simp] theorem imgView_commitAim (a : Nat) (s : State) : imgView (commitAim a s) = imgView s := by simp [commitAim]

@[simp] theorem imgView_wordTo (a : Nat) (b : Int) (c : Nat) (s : State) : imgView (wordTo a b c s) = imgView s := by simp [wordTo]

@[simp] theorem imgView_deliverTo (a : Nat) (b : Int) (s : State) : imgView (deliverTo a b s) = imgView s := by simp [deliverTo]

@[simp] theorem imgView_setWord (a : Nat) (b : Int) (s : State) : imgView (setWord a b s) = imgView s := by simp [setWord]

@[simp] theorem imgView_wordLim (a : Nat) (b c : Int) (s : State) : imgView (wordLim a b c s) = imgView s := by
  unfold wordLim
  dsimp only
  split <;> simp

@[simp] theorem imgView_wordPut (a : Nat) (b : Int) (s : State) : imgView (wordPut a b s) = imgView s := by simp [wordPut]

@[simp] theorem imgView_slewSet (a : Nat) (b : Int) (s : State) : imgView (slewSet a b s) = imgView s := by simp [slewSet]

@[simp] theorem imgView_slewAdd (a : Nat) (b : Int) (s : State) : imgView (slewAdd a b s) = imgView s := by simp [slewAdd]

@[simp] theorem imgView_stepWritten (a : Nat) (s : State) : imgView (stepWritten a s) = imgView s := by simp [stepWritten]

@[simp] theorem imgView_frwWritten (a : Nat) (s : State) : imgView (frwWritten a s) = imgView s := by simp [frwWritten]

@[simp] theorem imgView_avgDrop (a : Nat) (s : State) : imgView (avgDrop a s) = imgView s := by simp [avgDrop]

@[simp] theorem imgView_minBreak (a : Nat) (s : State) : imgView (minBreak a s) = imgView s := by simp [minBreak]

@[simp] theorem imgView_showHoFreq (a : Nat) (s : State) : imgView (showHoFreq a s) = imgView s := by simp [showHoFreq]

@[simp] theorem imgView_modelValidEval (a : Nat) (s : State) : imgView (modelValidEval a s) = imgView s := by simp [modelValidEval]

@[simp] theorem imgView_refit (a : Nat) (s : State) : imgView (refit a s) = imgView s := by simp [refit]

@[simp] theorem imgView_modelClear (a : Nat) (s : State) : imgView (modelClear a s) = imgView s := by simp [modelClear]

@[simp] theorem imgView_lockUndo (a : Nat) (s : State) : imgView (lockUndo a s) = imgView s := by simp [lockUndo]

@[simp] theorem imgView_avgUpdate (a : Nat) (s : State) : imgView (avgUpdate a s) = imgView s := by simp [avgUpdate]

@[simp] theorem imgView_ptpStale (s : State) : imgView (ptpStale s) = imgView s := by simp [ptpStale]

@[simp] theorem imgView_inSpecEval (a : Nat) (s : State) : imgView (inSpecEval a s) = imgView s := by simp [inSpecEval]

@[simp] theorem imgView_putDpllState (a b : Nat) (s : State) : imgView (putDpllState a b s) = imgView s := by
  unfold putDpllState
  extract_lets s1 old s2 s3 p s4 s5 s6 s7 s8
  have h1 : imgView s1 = imgView s := by simp [s1]
  have h3 : imgView s3 = imgView s := by simp [s3, s2, h1]
  have h4 : imgView s4 = imgView s := by simp [s4, h3]
  have h6 : imgView s6 = imgView s := by simp [s6, s5, h4]
  have h8 : imgView s8 = imgView s := by simp [s8, s7, h6]
  split
  · exact h1
  · simp [h8]

@[simp] theorem imgView_toFreerun (a : Nat) (s : State) : imgView (toFreerun a s) = imgView s := by simp [toFreerun]

@[simp] theorem imgView_modelClr (a : Nat) (s : State) : imgView (modelClr a s) = imgView s := by simp [modelClr]

@[simp] theorem imgView_slewCancel (a : Nat) (s : State) : imgView (slewCancel a s) = imgView s := by simp [slewCancel]

@[simp] theorem imgView_dpllWritten (a b : Nat) (c : WordW) (old s : State) : imgView (dpllWritten a b c old s) = imgView s := by simp [dpllWritten]

@[simp] theorem imgView_selWritten (a : WordW) (old s : State) : imgView (selWritten a old s) = imgView s := by simp [selWritten]

/-! #### SYN -/

@[simp] theorem imgView_giveHeld (a : Nat) (s : State) : imgView (giveHeld a s) = imgView s := by
  unfold giveHeld
  split <;> simp

@[simp] theorem imgView_putOutErr (a b : Nat) (s : State) : imgView (putOutErr a b s) = imgView s := by simp [putOutErr]

@[simp] theorem imgView_moveOut (a b : Nat) (s : State) : imgView (moveOut a b s) = imgView s := by simp [moveOut]

@[simp] theorem imgView_putOutState (a b : Nat) (s : State) : imgView (putOutState a b s) = imgView s := by simp [putOutState]

@[simp] theorem imgView_stopOut (a : Nat) (s : State) : imgView (stopOut a s) = imgView s := by
  unfold stopOut
  split <;> simp

@[simp] theorem imgView_clearOuts (a : Nat) (b : Bool) (s : State) : imgView (clearOuts a b s) = imgView s := by simp [clearOuts]

@[simp] theorem imgView_commitHold (a : Nat) (s : State) : imgView (commitHold a s) = imgView s := by simp [commitHold]

@[simp] theorem imgView_abandonMoves (a : Nat) (s : State) : imgView (abandonMoves a s) = imgView s := imgView_forEach _ _ fun n u => by simp

@[simp] theorem imgView_putSynState (a b : Nat) (s : State) : imgView (putSynState a b s) = imgView s := by simp [putSynState]

@[simp] theorem imgView_muteSyn (a : Nat) (b : Bool) (s : State) : imgView (muteSyn a b s) = imgView s := by simp [muteSyn]

@[simp] theorem imgView_synRelock (a : Nat) (s : State) : imgView (synRelock a s) = imgView s := by simp [synRelock]

@[simp] theorem imgView_startSearch (a : Nat) (s : State) : imgView (startSearch a s) = imgView s := by simp [startSearch]

@[simp] theorem imgView_synEval (a : Nat) (s : State) : imgView (synEval a s) = imgView s := by simp [synEval]

@[simp] theorem imgView_synCfgWritten (a : Nat) (s : State) : imgView (synCfgWritten a s) = imgView s := by simp [synCfgWritten]

@[simp] theorem imgView_commitAsk (a b : Nat) (c : Bool) (s : State) : imgView (commitAsk a b c s) = imgView s := by simp [commitAsk]

@[simp] theorem imgView_synTestGo (s : State) : imgView (synTestGo s) = imgView s := by simp [synTestGo]

@[simp] theorem imgView_fineMove (a : Nat) (s : State) : imgView (fineMove a s) = imgView s := by simp [fineMove]

@[simp] theorem imgView_outEval (a : Nat) (s : State) : imgView (outEval a s) = imgView s := by simp [outEval]

@[simp] theorem imgView_outWritten (a b : Nat) (old s : State) : imgView (outWritten a b old s) = imgView s := by simp [outWritten]

@[simp] theorem imgView_synWritten (a : WordW) (old s : State) : imgView (synWritten a old s) = imgView s := by simp [synWritten]

/-! #### TKP -/

@[simp] theorem imgView_rtcSyncAsk (s : State) : imgView (rtcSyncAsk s) = imgView s := by simp [rtcSyncAsk]

@[simp] theorem imgView_leapCancel (s : State) : imgView (leapCancel s) = imgView s := by simp [leapCancel]

@[simp] theorem imgView_tkpSetSec (s : State) : imgView (tkpSetSec s) = imgView s := by simp [tkpSetSec]

@[simp] theorem imgView_timeJump (a : Int) (b : Nat) (s : State) : imgView (timeJump a b s) = imgView s := by
  unfold timeJump
  extract_lets s1 s2 s3 sec s4
  have h1 : imgView s1 = imgView s := imgView_stepAll _ _ s
  clear_value s1
  have h3 : imgView s3 = imgView s := by simp [s3, s2, h1]
  have h4 : imgView s4 = imgView s := (imgView_forEach _ _ fun k u => by simp).trans h3
  clear_value s4
  simp [h4]

@[simp] theorem imgView_tkpSet (s : State) : imgView (tkpSet s) = imgView s := by simp [tkpSet]

@[simp] theorem imgView_snapTime (s : State) : imgView (snapTime s) = imgView s := by simp [snapTime]

@[simp] theorem imgView_tkpCtl (a : WordW) (s : State) : imgView (tkpCtl a s) = imgView s := by simp [tkpCtl]

@[simp] theorem imgView_adjWritten (s : State) : imgView (adjWritten s) = imgView s := by simp [adjWritten]

@[simp] theorem imgView_takeDat (a b : Nat) (s : State) : imgView (takeDat a b s) = imgView s := by simp [takeDat]

@[simp] theorem imgView_datOfSlot (s : State) : imgView (datOfSlot s) = imgView s := by
  unfold datOfSlot
  split
  · rfl
  · split <;> simp

@[simp] theorem imgView_announceLeap (a : Nat) (b c : Bool) (s : State) : imgView (announceLeap a b c s) = imgView s := by simp [announceLeap]

@[simp] theorem imgView_civilUpdate (s : State) : imgView (civilUpdate s) = imgView s := by
  unfold civilUpdate
  extract_lets e c s1 s2 s3
  have h1 : imgView s1 = imgView s := by simp [s1]
  have h3 : imgView s3 = imgView s := by simp [s3, s2, h1]
  clear_value s3
  split
  · rfl
  · split <;> simp [h3]

@[simp] theorem imgView_utcWritten (s : State) : imgView (utcWritten s) = imgView s := by simp [utcWritten]

/-! #### AST -/

@[simp] theorem imgView_astJudge (s : State) : imgView (astJudge s) = imgView s := by simp [astJudge]

@[simp] theorem imgView_publish (s : State) : imgView (publish s) = imgView s := by simp [publish]

@[simp] theorem imgView_putEvent (a b c d : Nat) (e : Bool) (s : State) : imgView (putEvent a b c d e s) = imgView s := by simp [putEvent]

@[simp] theorem imgView_blankDay (a : Nat) (s : State) : imgView (blankDay a s) = imgView s := by simp [blankDay]

@[simp] theorem imgView_putAstState (a : Nat) (s : State) : imgView (putAstState a s) = imgView s := by simp [putAstState]

@[simp] theorem imgView_unpublish (s : State) : imgView (unpublish s) = imgView s := by
  have hkeys : ∀ f ∈ AST_STAT_GEN :: AST_EVT_DONE :: resultFields, 33554432 ≤ fldKey f := by decide +kernel
  unfold unpublish
  split
  · rfl
  · split
    · rfl
    · rw [imgView_modAst, imgView_forEach_mem _ _ fun f hf u => imgView_put_above (hkeys f hf) _ u]

@[simp] theorem imgView_astCompute (s : State) : imgView (astCompute s) = imgView s := by simp [astCompute]

@[simp] theorem imgView_astEval (a : Bool) (s : State) : imgView (astEval a s) = imgView s := by
  unfold astEval
  dsimp only
  repeat' split
  all_goals simp

@[simp] theorem imgView_civilFollow (s : State) : imgView (civilFollow s) = imgView s := by simp [civilFollow]

@[simp] theorem imgView_setSrcOk (a : Nat) (b : Bool) (s : State) : imgView (setSrcOk a b s) = imgView s := by simp [setSrcOk]

@[simp] theorem imgView_irigLost (s : State) : imgView (irigLost s) = imgView s := by simp [irigLost]

@[simp] theorem imgView_tkpWritten (a : WordW) (old s : State) : imgView (tkpWritten a old s) = imgView s := by simp [tkpWritten]

/-! #### MNS -/

@[simp] theorem imgView_mnsSnap (s : State) : imgView (mnsSnap s) = imgView s := by
  unfold mnsSnap
  extract_lets s1 s2 g n t
  have h2 : imgView s2 = imgView s := imgView_forEach _ _ fun n u => by simp
  clear_value s2 g n t
  simp [h2]

@[simp] theorem imgView_mnsCtl (a : WordW) (s : State) : imgView (mnsCtl a s) = imgView s := by simp [mnsCtl]

@[simp] theorem imgView_mnsTestGo (s : State) : imgView (mnsTestGo s) = imgView s := by simp [mnsTestGo]

@[simp] theorem imgView_putSeq (a b : Nat) (s : State) : imgView (putSeq a b s) = imgView s := by
  unfold putSeq
  dsimp only
  repeat' split
  all_goals simp

@[simp] theorem imgView_sequenceCheck (a : Nat) (s : State) : imgView (sequenceCheck a s) = imgView s := by simp [sequenceCheck]

@[simp] theorem imgView_seqDrop (s : State) : imgView (seqDrop s) = imgView s := by simp [seqDrop]

@[simp] theorem imgView_putChState (a b : Nat) (s : State) : imgView (putChState a b s) = imgView s := by simp [putChState]

@[simp] theorem imgView_chanOff (a : Nat) (s : State) : imgView (chanOff a s) = imgView s := by simp [chanOff]

@[simp] theorem imgView_acquire (a : Nat) (b : Int) (c : Bool) (s : State) : imgView (acquire a b c s) = imgView s := by simp [acquire]

@[simp] theorem imgView_chanWritten (a : Nat) (s : State) : imgView (chanWritten a s) = imgView s := by simp [chanWritten]

@[simp] theorem imgView_chansRestart (s : State) : imgView (chansRestart s) = imgView s := by simp [chansRestart]

@[simp] theorem imgView_putDistorted (a : Nat) (s : State) : imgView (putDistorted a s) = imgView s := by simp [putDistorted]

@[simp] theorem imgView_gcfgWritten (old s : State) : imgView (gcfgWritten old s) = imgView s := by simp [gcfgWritten]

@[simp] theorem imgView_gridValid (s : State) : imgView (gridValid s) = imgView s := by simp [gridValid]

@[simp] theorem imgView_gridStop (s : State) : imgView (gridStop s) = imgView s := by simp [gridStop]

@[simp] theorem imgView_dropD (s : State) : imgView (dropD s) = imgView s := by simp [dropD]

@[simp] theorem imgView_switchGrid (a : Nat) (s : State) : imgView (switchGrid a s) = imgView s := by simp [switchGrid]

@[simp] theorem imgView_startExtrap (a : Int) (s : State) : imgView (startExtrap a s) = imgView s := by simp [startExtrap]

@[simp] theorem imgView_gtCfgChanged (a : Bool) (s : State) : imgView (gtCfgChanged a s) = imgView s := by simp [gtCfgChanged]

@[simp] theorem imgView_mnsWritten (a : WordW) (old s : State) : imgView (mnsWritten a old s) = imgView s := by simp [mnsWritten]

@[simp] theorem imgView_astTestGo (s : State) : imgView (astTestGo s) = imgView s := by simp [astTestGo]

@[simp] theorem imgView_astWritten (a : WordW) (old s : State) : imgView (astWritten a old s) = imgView s := by simp [astWritten]

/-! #### SCH -/

@[simp] theorem imgView_entRead (s : State) : imgView (entRead s) = imgView s := by simp [entRead]

@[simp] theorem imgView_putEnt (a : Nat) (b : EntW) (s : State) : imgView (putEnt a b s) = imgView s := by simp [putEnt]

@[simp] theorem imgView_replaceEnt (a : Nat) (b : EntW) (s : State) : imgView (replaceEnt a b s) = imgView s := by simp [replaceEnt]

@[simp] theorem imgView_openPlace (a : Nat) (s : State) : imgView (openPlace a s).2 = imgView s := by simp [openPlace]

@[simp] theorem imgView_oqTake (a : Queue OutRec × Nat × Bool) (s : State) : imgView (oqTake a s) = imgView s := by simp [oqTake]

@[simp] theorem imgView_oqLevel (s : State) : imgView (oqLevel s) = imgView s := by simp [oqLevel]

@[simp] theorem imgView_oqIn (a : OutRec) (s : State) : imgView (oqIn a s) = imgView s := by simp [oqIn]

@[simp] theorem imgView_emitReady (s : State) : imgView (emitReady s) = imgView s := by simp [emitReady]

@[simp] theorem imgView_closePlace (a : Nat) (b : OutRec) (s : State) : imgView (closePlace a b s) = imgView s := by simp [closePlace]

@[simp] theorem imgView_recordNow (a : OutRec) (s : State) : imgView (recordNow a s) = imgView s := by simp [recordNow]

@[simp] theorem imgView_progNext (s : State) : imgView (progNext s) = imgView s := by simp [progNext]

@[simp] theorem imgView_wbOffer (a : WbItem) (s : State) : imgView (wbOffer a s) = imgView s := by simp [wbOffer]

@[simp] theorem imgView_entBack (a : Nat) (s : State) : imgView (entBack a s) = imgView s := by simp [entBack]

@[simp] theorem imgView_entWrite (s : State) : imgView (entWrite s) = imgView s := by simp [entWrite]

@[simp] theorem imgView_absSpent (a : Nat) (s : State) : imgView (absSpent a s) = imgView s := by simp [absSpent]

@[simp] theorem imgView_absPassed (a : Nat) (s : State) : imgView (absPassed a s) = imgView s := by simp [absPassed]

@[simp] theorem imgView_rcDone (a : Nat) (s : State) : imgView (rcDone a s) = imgView s := by simp [rcDone]

@[simp] theorem imgView_rcFinal (a b c d : Nat) (s : State) : imgView (rcFinal a b c d s) = imgView s := by
  unfold rcFinal
  dsimp only
  repeat' split
  all_goals simp

@[simp] theorem imgView_linkEvent (a : Nat) (b : List Byte) (s : State) : imgView (linkEvent a b s) = imgView s := by simp [linkEvent]

@[simp] theorem imgView_finish (a : Nat) (b : ActS) (c : OutRec) (s : State) : imgView (finish a b c s) = imgView s := by
  unfold finish
  dsimp only
  repeat' split
  all_goals simp

@[simp] theorem imgView_targetErr (a : ActS) (s : State) : imgView (targetErr a s) = imgView s := by simp [targetErr]

@[simp] theorem imgView_awaitFb (a b : Nat) (c : ActS) (d e : Bool) (s : State) : imgView (awaitFb a b c d e s) = imgView s := by simp [awaitFb]

@[simp] theorem imgView_bumpOps (a : Nat) (s : State) : imgView (bumpOps a s) = imgView s := by simp [bumpOps]

@[simp] theorem imgView_startPulse (a b : Nat) (c : Bool) (d : Nat) (s : State) : imgView (startPulse a b c d s) = imgView s := by simp [startPulse]

@[simp] theorem imgView_putCram64 (a b : Nat) (s : State) : imgView (putCram64 a b s) = imgView s := by simp [putCram64]

@[simp] theorem imgView_putChanState (a : Nat) (b : Bool) (s : State) : imgView (putChanState a b s) = imgView s := by simp [putChanState]

@[simp] theorem imgView_chOne (a : Nat) (b : Bool) (c : Nat) (d : ActS) (s : State) : imgView (chOne a b c d s) = imgView s := by
  unfold chOne
  dsimp only
  repeat' split
  all_goals simp

@[simp] theorem imgView_chRun (a : Nat) (l : List (Nat × ActS)) (s : State) : imgView (chRun a l s) = imgView s := by
  induction l generalizing s with
  | nil => rfl
  | cons p r ih =>
    unfold chRun
    split
    · simp
    · rw [ih, imgView_chOne]

@[simp] theorem imgView_chDo (a : Nat) (b : List ActS) (s : State) : imgView (chDo a b s) = imgView s := by
  have hopen : ∀ (l : List ActS) (x : List (Nat × ActS) × State),
      imgView (l.foldl (fun x c => (x.1 ++ [((openPlace a x.2).1, c)], (openPlace a x.2).2)) x).2 = imgView x.2 := by
    intro l
    induction l with
    | nil => exact fun _ => rfl
    | cons c r ih => exact fun x => (ih _).trans (imgView_openPlace _ _)
  rw [chDo, imgView_forEach _ _ fun c u => by simp, imgView_chRun, hopen]

@[simp] theorem imgView_deadLetter (a : Nat) (b : Txn) (s : State) : imgView (deadLetter a b s) = imgView s := by simp [deadLetter]

@[simp] theorem imgView_issueTxn (a : Txn) (s : State) : imgView (issueTxn a s).2 = imgView s := by simp [issueTxn]

@[simp] theorem imgView_schDead (s : State) : imgView (schDead s) = imgView s := by simp [schDead]

@[simp] theorem imgView_putRemOn (a : Nat) (b : Bool) (s : State) : imgView (putRemOn a b s) = imgView s := by simp [putRemOn]

@[simp] theorem imgView_sendRemote (a b : Nat) (c : ActS) (s : State) : imgView (sendRemote a b c s) = imgView s := by simp [sendRemote]

@[simp] theorem imgView_schCmd (a b : Nat) (s : State) : imgView (schCmd a b s) = imgView s := by simp [schCmd]

@[simp] theorem imgView_rcSend (a b c : Nat) (s : State) : imgView (rcSend a b c s) = imgView s := by simp [rcSend]

@[simp] theorem imgView_modTgt (a b : Nat) (c : (TgtS → TgtS)) (s : State) : imgView (modTgt a b c s) = imgView s := by simp [modTgt]

@[simp] theorem imgView_rcRecord (a b c : Nat) (s : State) : imgView (rcRecord a b c s) = imgView s := by simp [rcRecord]

@[simp] theorem imgView_rcCancelRest (a b : Nat) (s : State) : imgView (rcCancelRest a b s) = imgView s := by simp [rcCancelRest]

@[simp] theorem imgView_rcCancel (a b : Nat) (s : State) : imgView (rcCancel a b s) = imgView s := by simp [rcCancel]

@[simp] theorem imgView_poolDrop (a : Nat) (s : State) : imgView (poolDrop a s) = imgView s := by simp [poolDrop]

@[simp] theorem imgView_rcAbort (a : Nat) (s : State) : imgView (rcAbort a s) = imgView s := by
  unfold rcAbort
  extract_lets r sent s1 s2 s3
  have h2 : imgView s2 = imgView s := by simp [s2, s1]
  have h3 : imgView s3 = imgView s := by
    refine (imgView_forEach _ _ fun x u => ?_).trans h2
    split <;> simp
  clear_value s3
  split
  · simp
  · split
    · simp
    · split
      · rfl
      · rw [imgView_forEach _ _ fun t u => by simp, h3]
  · split <;> simp
  · rfl

@[simp] theorem imgView_groupErrRec (a b c d : Nat) (s : State) : imgView (groupErrRec a b c d s) = imgView s := by simp [groupErrRec]

@[simp] theorem imgView_rcCommit (a : Nat) (s : State) : imgView (rcCommit a s) = imgView s := by simp [rcCommit]

@[simp] theorem imgView_rcCheck (a : Nat) (s : State) : imgView (rcCheck a s) = imgView s := by simp [rcCheck]

@[simp] theorem imgView_rcStart (a : Nat) (b : Bool) (c d e f g : Nat) (s : State) : imgView (rcStart a b c d e f g s) = imgView s :=
  by simp [rcStart]

@[simp] theorem imgView_rcFire (a : Nat) (b : Bool) (s : State) : imgView (rcFire a b s) = imgView s := by simp [rcFire]

@[simp] theorem imgView_rcPlain (a b c : Nat) (d : Bool) (s : State) : imgView (rcPlain a b c d s) = imgView s := by simp [rcPlain]

@[simp] theorem imgView_rcIssue (a b c : Nat) (s : State) : imgView (rcIssue a b c s) = imgView s := by simp [rcIssue]

@[simp] theorem imgView_rcCtl (a : Nat) (b : WordW) (s : State) : imgView (rcCtl a b s) = imgView s := by simp [rcCtl]

@[simp] theorem imgView_schTestGo (s : State) : imgView (schTestGo s) = imgView s := by simp [schTestGo]

@[simp] theorem imgView_clearLoads (s : State) : imgView (clearLoads s) = imgView s := by simp [clearLoads]

@[simp] theorem imgView_schEval (s : State) : imgView (schEval s) = imgView s := by simp [schEval]

@[simp] theorem imgView_chanEval (a : Nat) (s : State) : imgView (chanEval a s) = imgView s := by simp [chanEval]

@[simp] theorem imgView_swWritten (a : Nat) (s : State) : imgView (swWritten a s) = imgView s := by simp [swWritten]

@[simp] theorem imgView_groupsEval (s : State) : imgView (groupsEval s) = imgView s := by simp [groupsEval]

@[simp] theorem imgView_schWritten (a : WordW) (s : State) : imgView (schWritten a s) = imgView s := by simp [schWritten]

/-! #### PTP -/

@[simp] theorem imgView_annRestart (a : Nat) (s : State) : imgView (annRestart a s) = imgView s := by simp [annRestart]

@[simp] theorem imgView_enterPort (a b : Nat) (s : State) : imgView (enterPort a b s) = imgView s := by
  unfold enterPort
  dsimp only
  repeat' split
  all_goals simp

@[simp] theorem imgView_dropParent (a : Nat) (s : State) : imgView (dropParent a s) = imgView s := by
  unfold dropParent
  split
  · split <;> simp
  · rfl

@[simp] theorem imgView_portEval (a : Nat) (s : State) : imgView (portEval a s) = imgView s := by simp [portEval]

@[simp] theorem imgView_dropEvents (a : Nat) (s : State) : imgView (dropEvents a s) = imgView s := by simp [dropEvents]

@[simp] theorem imgView_synceSlot (a : Nat) (s : State) : imgView (synceSlot a s) = imgView s := by simp [synceSlot]

@[simp] theorem imgView_linkFall (a : Nat) (s : State) : imgView (linkFall a s) = imgView s := by simp [linkFall]

@[simp] theorem imgView_saEval (s : State) : imgView (saEval s) = imgView s := by
  unfold saEval
  split
  · rfl
  · exact imgView_forEach _ _ fun i u => by simp

@[simp] theorem imgView_ptpCfgEval (s : State) : imgView (ptpCfgEval s) = imgView s := by
  unfold ptpCfgEval
  split
  · rfl
  · rw [imgView_saEval, imgView_forEach _ _ fun p u => by simp, imgView_ptpErr (by simp)]

@[simp] theorem imgView_linkRestart (a : Nat) (s : State) : imgView (linkRestart a s) = imgView s := by simp [linkRestart]

@[simp] theorem imgView_portInit (a : Nat) (s : State) : imgView (portInit a s) = imgView s := by simp [portInit]

@[simp] theorem imgView_portWritten (a : Nat) (b c d : Bool) (s : State) : imgView (portWritten a b c d s) = imgView s := by simp [portWritten]

@[simp] theorem imgView_seWritten (a : Nat) (s : State) : imgView (seWritten a s) = imgView s := by simp [seWritten]

@[simp] theorem imgView_portRegWritten (a b : Nat) (c : WordW) (old s : State) : imgView (portRegWritten a b c old s) = imgView s :=
  by simp [portRegWritten]

@[simp] theorem imgView_ptpTestGo (s : State) : imgView (ptpTestGo s) = imgView s := by simp [ptpTestGo]

@[simp] theorem imgView_fdbOp (a : Nat) (s : State) : imgView (fdbOp a s) = imgView s := by
  unfold fdbOp
  dsimp only
  repeat' split
  all_goals simp

@[simp] theorem imgView_portsRestart (s : State) : imgView (portsRestart s) = imgView s := by simp [portsRestart]

@[simp] theorem imgView_ptpWritten (a : WordW) (old s : State) : imgView (ptpWritten a old s) = imgView s := by simp [ptpWritten]

/-! #### CRL -/

@[simp] theorem imgView_calStart (a b : Nat) (s : State) : imgView (calStart a b s) = imgView s := by simp [calStart]

@[simp] theorem imgView_calEnd (a : Nat) (b : Bool) (s : State) : imgView (calEnd a b s) = imgView s := by simp [calEnd]

@[simp] theorem imgView_calFail (a : Nat) (s : State) : imgView (calFail a s) = imgView s := by simp [calFail]

@[simp] theorem imgView_poolDead (a b : Nat) (s : State) : imgView (poolDead a b s) = imgView s := by
  unfold poolDead
  split <;> simp

@[simp] theorem imgView_dropAbove (a b : Nat) (s : State) : imgView (dropAbove a b s) = imgView s := by simp [dropAbove]

@[simp] theorem imgView_releaseHeld (a b : Nat) (s : State) : imgView (releaseHeld a b s) = imgView s := by simp [releaseHeld]

@[simp] theorem imgView_modTxn (a : Nat) (b : (Txn → Txn)) (s : State) : imgView (modTxn a b s) = imgView s := by simp [modTxn]

@[simp] theorem imgView_holdAll (a b : Nat) (s : State) : imgView (holdAll a b s) = imgView s := by simp [holdAll]

@[simp] theorem imgView_setPState (a b c : Nat) (s : State) : imgView (setPState a b c s) = imgView s := by
  unfold setPState
  dsimp only
  repeat' split
  all_goals simp

@[simp] theorem imgView_negotiate (a b : Nat) (s : State) : imgView (negotiate a b s) = imgView s := by simp [negotiate]

@[simp] theorem imgView_reneg (a b : Nat) (s : State) : imgView (reneg a b s) = imgView s := by simp [reneg]

@[simp] theorem imgView_flushTxns (a b : Nat) (s : State) : imgView (flushTxns a b s) = imgView s := by simp [flushTxns]

@[simp] theorem imgView_dropOwed (a b : Nat) (s : State) : imgView (dropOwed a b s) = imgView s := by simp [dropOwed]

@[simp] theorem imgView_makeVacant (a b : Nat) (s : State) : imgView (makeVacant a b s) = imgView s := by simp [makeVacant]

@[simp] theorem imgView_forget (a b : Nat) (s : State) : imgView (forget a b s) = imgView s := by simp [forget]

@[simp] theorem imgView_partnerCtl (a : WordW) (s : State) : imgView (partnerCtl a s) = imgView s := by simp [partnerCtl]

@[simp] theorem imgView_lbData (a : Nat) (s : State) : imgView (lbData a s) = imgView s := by simp [lbData]

@[simp] theorem imgView_postTxn (a b c d e f : Nat) (g : List Byte) (s : State) : imgView (postTxn a b c d e f g s).2 = imgView s := by
  unfold postTxn
  dsimp only
  repeat' split
  all_goals simp

@[simp] theorem imgView_lbPost (s : State) : imgView (lbPost s) = imgView s := by simp [lbPost]

@[simp] theorem imgView_lbiPop (s : State) : imgView (lbiPop s) = imgView s := by simp [lbiPop]

@[simp] theorem imgView_dlqPop (s : State) : imgView (dlqPop s) = imgView s := by simp [dlqPop]

@[simp] theorem imgView_dlqResend (s : State) : imgView (dlqResend s) = imgView s := by
  unfold dlqResend
  dsimp only
  repeat' split
  all_goals simp

@[simp] theorem imgView_crlCtl (a : WordW) (s : State) : imgView (crlCtl a s) = imgView s := by simp [crlCtl]

@[simp] theorem imgView_crlTestGo (s : State) : imgView (crlTestGo s) = imgView s := by simp [crlTestGo]

@[simp] theorem imgView_folPublish (a : Option Nat) (s : State) : imgView (folPublish a s) = imgView s := by
  unfold folPublish
  dsimp only
  repeat' split
  all_goals simp

@[simp] theorem imgView_folEval (s : State) : imgView (folEval s) = imgView s := by
  unfold folEval
  extract_lets s1 s2 s3
  have h1 : imgView s1 = imgView s := imgView_forEach _ _ fun k u => by simp
  have h2 : imgView s2 = imgView s := by simp [s2, h1]
  have h3 : imgView s3 = imgView s := by
    simp only [s3]
    split
    · simp [h1, h2]
    · exact h1
  clear_value s3
  split
  · simp [h3]
  · split <;> simp [h3]

@[simp] theorem imgView_endSession (a : Nat) (s : State) : imgView (endSession a s) = imgView s := by simp [endSession]

@[simp] theorem imgView_linkStop (a : Nat) (s : State) : imgView (linkStop a s) = imgView s := by simp [linkStop]

@[simp] theorem imgView_linkCfgEval (a : Nat) (s : State) : imgView (linkCfgEval a s) = imgView s := by simp [linkCfgEval]

@[simp] theorem imgView_linkStart (a : Nat) (s : State) : imgView (linkStart a s) = imgView s := by simp [linkStart]

@[simp] theorem imgView_linkWritten (a : Nat) (old s : State) : imgView (linkWritten a old s) = imgView s := by simp [linkWritten]

@[simp] theorem imgView_linksCfgEval (s : State) : imgView (linksCfgEval s) = imgView s := by simp [linksCfgEval]

@[simp] theorem imgView_crlWritten (a : WordW) (old s : State) : imgView (crlWritten a old s) = imgView s := by simp [crlWritten]

/-! #### NVM -/

@[simp] theorem imgView_stopMarch (s : State) : imgView (stopMarch s) = imgView s := by simp [stopMarch]

@[simp] theorem imgView_beginSave (a : Nat) (s : State) : imgView (beginSave a s) = imgView s := by simp [beginSave]

@[simp] theorem imgView_triggerSave (a : Nat) (s : State) : imgView (triggerSave a s) = imgView s := by
  unfold triggerSave
  split <;> simp

@[simp] theorem imgView_putScanT (a : Nat) (s : State) : imgView (putScanT a s) = imgView s := by simp [putScanT]

@[simp] theorem imgView_scanMove (s : State) : imgView (scanMove s) = imgView s := by
  unfold scanMove
  dsimp only
  repeat' split
  all_goals simp

@[simp] theorem imgView_saveWith (a : Nat) (s : State) : imgView (saveWith a s) = imgView s := by simp [saveWith]

@[simp] theorem imgView_pbProg (s : State) : imgView (pbProg s) = imgView s := by simp [pbProg]

@[simp] theorem imgView_pbClear (s : State) : imgView (pbClear s) = imgView s := by
  rw [pbClear, imgView_forEach _ _ fun w u => by simp, imgView_modNvm]

@[simp] theorem imgView_nvmTestGo (s : State) : imgView (nvmTestGo s) = imgView s := by simp [nvmTestGo]

@[simp] theorem imgView_pbMark (a b : Nat) (s : State) : imgView (pbMark a b s) = imgView s := by simp [pbMark]

@[simp] theorem imgView_nvmWritten (a : WordW) (s : State) : imgView (nvmWritten a s) = imgView s := by simp [nvmWritten]

/-! #### What follows a write to a block -/

@[simp] theorem imgView_blockWritten (a : WordW) (old s : State) : imgView (blockWritten a old s) = imgView s := by
  unfold blockWritten
  split <;> simp

/-! #### The segments of an image -/

@[simp] theorem imgView_minBreakAll (s : State) : imgView (minBreakAll s) = imgView s := by simp [minBreakAll]

@[simp] theorem imgView_minWarm (s : State) : imgView (minWarm s) = imgView s := by simp [minWarm]

@[simp] theorem imgView_warmStart (s : State) : imgView (warmStart s) = imgView s := by simp [warmStart]

@[simp] theorem imgView_ovenFall (s : State) : imgView (ovenFall s) = imgView s := by simp [ovenFall]

@[simp] theorem imgView_ballsApplied (s : State) : imgView (ballsApplied s) = imgView s := by
  rw [ballsApplied, imgView_forEach _ _ fun n u => by simp, imgView_whenB _ _ (imgView_ovenFall s)]

@[simp] theorem imgView_structMasks (s : State) : imgView (structMasks s) = imgView s := imgView_forEach _ _ fun d u => by simp

@[simp] theorem imgView_putReact (a b : Nat) (s : State) : imgView (putReact a b s) = imgView s := by simp [putReact]

@[simp] theorem imgView_applyReact (a : Nat) (b : List Nat) (s : State) : imgView (applyReact a b s) = imgView s := by simp [applyReact]

@[simp] theorem imgView_putMask (a b : Nat) (s : State) : imgView (putMask a b s) = imgView s := by simp [putMask]

@[simp] theorem imgView_putSettle (a b : Nat) (s : State) : imgView (putSettle a b s) = imgView s := by simp [putSettle]

@[simp] theorem imgView_applyDep (a b c : Nat) (s : State) : imgView (applyDep a b c s) = imgView s := by simp [applyDep]

@[simp] theorem imgView_putSlotUse (a b : Nat) (s : State) : imgView (putSlotUse a b s) = imgView s := by simp [putSlotUse]

@[simp] theorem imgView_putKey (a b : Nat) (c : List Byte) (s : State) : imgView (putKey a b c s) = imgView s := by simp [putKey]

@[simp] theorem imgView_applyKeys (a : List Byte) (s : State) : imgView (applyKeys a s) = imgView s := imgView_forEach _ _ fun r u => by
    split
    · split <;> simp
    · rfl

/-! #### A record of an image (R68) -/

/-- fields stored as the pointer bank or the run bank are -/
def Stored (f : Fld) : Prop := fldKey f = fldKey IMG_STATUS_PTR ∨ fldKey f = fldKey IMG_STATUS_RUN_BANK

theorem imgView_store {f : Fld} (h : ¬ Stored f) (v : Nat) (s : State) : imgView (store f v s) = imgView s := by
  obtain ⟨hptr, hrun⟩ := not_or.1 h
  have hput : imgView (put f v s) = imgView s := imgView_put_ne hptr hrun v s
  unfold store
  split
  · split <;> simp
  · split
    · exact imgView_withPtp s _
    · split
      · exact imgView_withSch s _
      · split
        · simp
        · exact hput

/-- the fields of the four system blocks lie in a word -/
theorem lo_of_system : ∀ b < 4, ∀ r ∈ regRows b, ∀ f ∈ r.flds, f.2.1 < 32 := by decide +kernel

/-- STATUS of IMG shows its fields and stores none that is written (R90) -/
theorem status_readOnly : ∀ a ∈ [0x2FFFFE, 0x2FFFFF, 0x300000, 0x300001, 0x300002], ∀ p ∈ fieldsAt a, p.2 ≠ 1 ∧ p.2 ≠ 3 ∧ p.2 ≠ 4 := by decide +kernel

theorem not_stored {addr : Nat} {p : Fld × Nat} (hp : p ∈ fieldsAt addr) (hc : p.2 = 1 ∨ p.2 = 3 ∨ p.2 = 4) : ¬ Stored p.1 := by
  intro h
  have hmem := hp
  unfold fieldsAt at hmem
  split at hmem
  case h_2 => exact absurd hmem List.not_mem_nil
  case h_1 r hr =>
  obtain ⟨f, hf, rfl⟩ := List.mem_map.1 hmem
  have hkey : addr * 8 + f.2.1 = 25165840 ∨ addr * 8 + f.2.1 = 25165839 := by
    rwa [Stored, key_IMG_STATUS_PTR, key_IMG_STATUS_RUN_BANK] at h
  have hlo : f.2.1 < 32 := lo_of_system (addr / 2 ^ 20) (by omega) r (List.mem_of_find?_eq_some hr) f hf
  have ha : addr ∈ [0x2FFFFE, 0x2FFFFF, 0x300000, 0x300001, 0x300002] := by
    simp only [List.mem_cons, List.not_mem_nil, or_false]
    clear hr hf hp hmem h
    omega
  obtain ⟨h1, h3, h4⟩ := status_readOnly addr ha _ hp
  rcases hc with hc | hc | hc
  · exact h1 hc
  · exact h3 hc
  · exact h4 hc

@[simp] theorem imgView_storeWord (addr be data : Nat) (s : State) : imgView (storeWord addr be data s) = imgView s := by
  refine imgView_forEach_mem _ _ fun p hp u => ?_
  split
  next hc => exact imgView_store (not_stored hp (.inl hc)) _ u
  next hc =>
    have hs := not_stored hp (.inr (.inr hc))
    split
    · exact imgView_store hs _ u
    · exact imgView_store hs _ u
  next hc =>
    split
    · exact imgView_store (not_stored hp (.inr (.inl hc))) _ u
    · rfl
  next => rfl

@[simp] theorem imgView_regWrite (w : WordW) (s : State) : imgView (regWrite w s) = imgView s := by
  unfold regWrite
  split
  · rfl
  · split <;> simp

theorem imgView_carry {l : List Fld} (hl : ∀ f ∈ l, fldKey f < 25165824) (old s : State) : imgView (carry l old s) = imgView s :=
  imgView_forEach_mem _ _ fun f hf u => imgView_put_below (hl f hf) _ u

theorem imgView_quietly {f : State → State} (hf : ∀ u, imgView (f u) = imgView u) (s : State) : imgView (quietly f s) = imgView s := by
  rw [quietly, imgView_carry (by simp), imgView_withFltHost, hf]

theorem imgView_imgWrite {c : CfgRec} (h : rwsGroupOf c.addr = none) (s : State) : imgView (imgWrite c s) = imgView s := by
  simp only [imgWrite, h]
  exact imgView_quietly (imgView_regWrite _) s

/-! #### The segments and the records of an image in hand -/

/-- t takes its candidate from where s does -/
structure SameSource (s t : State) : Prop where
  reapply : t.img.reapply = s.img.reapply
  src : t.img.src = s.img.src
  cand : t.img.cand = s.img.cand
  mram : t.mram = s.mram
  mramJ : t.mramJ = s.mramJ
  ptr : rd t IMG_STATUS_PTR = rd s IMG_STATUS_PTR
  runBank : rd t IMG_STATUS_RUN_BANK = rd s IMG_STATUS_RUN_BANK

theorem SameSource.of_imgView {s t u : State} (h : SameSource s t) (hv : imgView u = imgView t) : SameSource s u := by
  simp only [imgView, Prod.mk.injEq] at hv
  obtain ⟨himg, hmram, hj, hptr, hrun⟩ := hv
  exact ⟨himg ▸ h.reapply, himg ▸ h.src, himg ▸ h.cand, hmram.trans h.mram, hj.trans h.mramJ, hptr.trans h.ptr, hrun.trans h.runBank⟩

theorem SameSource.candBank {s t : State} (h : SameSource s t) : candBank t = candBank s := by
  simp only [Machine.candBank, spareBank, h.reapply, h.src, h.cand, h.ptr, h.runBank]

theorem SameSource.mrdList {s t : State} (h : SameSource s t) (a n : Nat) : mrdList t a n = mrdList s a n := by
  have hrd : mrd t = mrd s := by
    funext x
    rw [mrd, mrd, h.mram, h.mramJ]
  rw [Machine.mrdList, Machine.mrdList, h.mram, h.mramJ, hrd]

theorem SameSource.bankBytes {s t : State} (h : SameSource s t) (b : Nat) : bankBytes t b = bankBytes s b := by
  simp only [Machine.bankBytes, h.mrdList]

/-- the segments of an image leave its bank and its bytes, and its records wait -/
theorem sameSource_applySegments (segs : List (SegEnt × Option (List Byte))) (s : State) :
    SameSource s (applySegments segs s) ∧ (applySegments segs s).img.work = some (cfgRecs segs) := by
  unfold applySegments
  extract_lets st stds opts pins routes i s1 s2 s3 s4 j
  have h1 : SameSource s s1 := by
    refine SameSource.of_imgView (t := modImg (fun i => { i with struct_ := st, iostd := opts, pinmux := pins, routes := routes }) s)
      ⟨rfl, rfl, rfl, rfl, rfl, rfl, rfl⟩ ?_
    simp only [s1, imgView_ballsApplied, imgView_structMasks]
    rfl
  clear_value s1
  have h2 : imgView s2 = imgView s1 := by
    simp only [s2]
    split <;> simp
  have h3 : imgView s3 = imgView s1 := by
    refine Eq.trans ?_ h2
    simp only [s3]
    split
    · exact imgView_forEach _ _ fun r u => by simp
    · rfl
  have h4 : imgView s4 = imgView s1 := by
    refine Eq.trans ?_ h3
    simp only [s4]
    split
    · rfl
    · split <;> simp
  clear_value s4
  obtain ⟨hre, hsrc, hcand, hmram, hj, hptr, hrun⟩ := h1.of_imgView h4
  exact ⟨⟨hre, hsrc, hcand, hmram, hj, hptr, hrun⟩, rfl⟩

/-- records that wait for no batch leave the bank and its bytes, and none is left (R68) -/
theorem sameSource_workOn (l : List CfgRec) (s t : State) (h : SameSource s t) (hl : ∀ c ∈ l, rwsGroupOf c.addr = none) :
    SameSource s (workOn l t) ∧ (workOn l t).img.work = some [] := by
  induction l generalizing t with
  | nil =>
    obtain ⟨hre, hsrc, hcand, hmram, hj, hptr, hrun⟩ := h
    exact ⟨⟨hre, hsrc, hcand, hmram, hj, hptr, hrun⟩, rfl⟩
  | cons c r ih =>
    have hc := hl c List.mem_cons_self
    have hw : workOn (c :: r) t = workOn r (imgWrite c t) := by simp only [workOn, hc, Bool.false_eq_true, if_false]
    rw [hw]
    exact ih _ (h.of_imgView (imgView_imgWrite hc t)) fun d hd => hl d (List.mem_cons_of_mem c hd)

/-- the image applied as far as pass 2 goes before the blocks take up their configuration -/
theorem pass2End_applied {s : State} (hre : s.img.reapply = false) : ∃ u, pass2End s = imageApplied false (headerOf (bankBytes s (candBank s))).initMode u
    ∧ rd u IMG_STATUS_STATE = 4 ∧ u.img.applied = true ∧ u.img.signed = (headerOf (bankBytes s (candBank s))).signed
    ∧ rd u IMG_RUNID_IMAGE_ID = (headerOf (bankBytes s (candBank s))).imageId % 2 ^ 32
    ∧ rd u IMG_STATUS_VERSION = (headerOf (bankBytes s (candBank s))).version % 16
    ∧ rd u IMG_STATUS_RUN_BANK = candBank s % 2 := by
  unfold pass2End
  extract_lets bank l h segs again source s1 s2 s3 s4 s5 i s6
  have hagain : again = false := hre
  clear_value s3
  have h6 : ∀ f, fldKey IMG_STATUS_STATE ≠ fldKey f → rd (putImgState 4 s6) f = rd s5 f := fun f hf => rd_putImgState_ne 4 s6 hf
  refine ⟨putImgState 4 s6, by rw [hagain], by simp, rfl, rfl, ?_, ?_, ?_⟩
  · rw [h6 _ (by simp)]
    simp [s5, h, l, bank, rd_put_ne]
  · rw [h6 _ (by simp)]
    simp [s5, h, l, bank]
  · rw [h6 _ (by simp)]
    simp [s5, s4, hagain, bank, rd_put_ne]

/-! ### Pass 2 (R82) -/

theorem pass2Done_sound {s : State} (hst : rd s IMG_STATUS_STATE = 3) (hw : s.img.work = none)
    (hf : pass2Fault (bankBytes s (candBank s)) (segments s (bankBytes s (candBank s))) = none) :
    pass2Done s = workNow (applySegments (segments s (bankBytes s (candBank s))) s) := by
  simp [pass2Done, imgState, hst, hw, hf]

theorem workNow_ends {s : State} {l : List CfgRec} (hl : s.img.work = some l) (hw : (workOn l s).img.work = some []) :
    workNow s = pass2End (workOn l s) := by
  simp only [workNow, hl, hw, if_true]

/-- pass 2 of an image whose records wait for no batch applies it -/
theorem leads_pass2Done {dt : Nat} {s : State} (hst : rd s IMG_STATUS_STATE = 3) (hre : s.img.reapply = false) (hw : s.img.work = none)
    {l : List Byte} (hl : l = bankBytes (pass dt s) (candBank (pass dt s))) (hf : pass2Fault l (segments (pass dt s) l) = none)
    (hrecs : ∀ c ∈ cfgRecs (segments (pass dt s) l), rwsGroupOf c.addr = none) :
    Leads (.pass2Done dt) s (imageApplied false (headerOf l).initMode) (fun u =>
      rd u IMG_STATUS_STATE = 4 ∧ u.img.applied = true ∧ rd u IMG_RUNID_IMAGE_ID = (headerOf l).imageId % 2 ^ 32
      ∧ rd u IMG_STATUS_VERSION = (headerOf l).version % 16 ∧ rd u IMG_STATUS_RUN_BANK = candBank (pass dt s) % 2
      ∧ u.img.signed = (headerOf l).signed) := by
  subst hl
  obtain ⟨hseg, hwork⟩ := sameSource_applySegments (segments (pass dt s) (bankBytes (pass dt s) (candBank (pass dt s)))) (pass dt s)
  obtain ⟨hsame, hnone⟩ := sameSource_workOn _ _ _ hseg hrecs
  obtain ⟨u, hu, hstate, happlied, hsigned, hid, hver, hbank⟩ := pass2End_applied (hsame.reapply.trans (by simpa using hre))
  rw [hsame.candBank, hsame.bankBytes] at hu hsigned hid hver
  rw [hsame.candBank] at hbank
  have he : pass2Done (pass dt s) = imageApplied false (headerOf (bankBytes (pass dt s) (candBank (pass dt s)))).initMode u := by
    rw [pass2Done_sound (by simpa using hst) (by simpa using hw) hf, workNow_ends hwork hnone, hu]
  exact ⟨u, congrArg (done s) he, hstate, happlied, hid, hver, hbank, hsigned⟩

/-! ### IMG begins (R80, R84) -/

section
variable {dt : Nat} {s u : State}

theorem sameSource_pass : SameSource s (pass dt s) := ⟨by simp, by simp, by simp, by simp, by simp, by simp, by simp⟩

theorem SameSource.pointerBank {t : State} (h : SameSource s t) : pointerBank t = pointerBank s := by
  have hc : ∀ c, pointerCopy t c = pointerCopy s c := fun c => by simp only [pointerCopy, h.mrdList]
  simp only [Machine.pointerBank, hc]

/-- IMG has what it waits for -/
abbrev MayBegin (s : State) : Prop :=
  rd s IMG_STATUS_STATE = 0 ∧ s.rst.phase = .run ∧ rd s GEN_CLKSTAT_CORE_LOCK = 1 ∧ rd s GEN_CLKSTAT_SYSCLK_PRES = 1 ∧ s.nvm.loaded = true
    ∧ (s.sec.ready = true ∨ rd s SEC_STAT_STATE = 2)

theorem bootMay_of (h : MayBegin u) : bootMay u = true := by
  obtain ⟨hst, hph, hlock, hpres, hnvm, hsec⟩ := h
  simpa [bootMay, imgState, on, hst, hlock, hpres, hnvm, inSequence_run hph] using hsec

theorem mayBegin_pass (h : MayBegin s) : MayBegin (pass dt s) := by simpa [MayBegin] using h

theorem bootStart_again (h : MayBegin u) (hre : u.img.reapply = true) : bootStart u = putImgState 2 u := by
  simp [bootStart, bootMay_of h, hre]

/-- the first state and the first candidate that a BOOT strap names -/
def bootState (boot : Nat) : Nat := if boot = 1 then 1 else if boot = 2 then 5 else 2
def bootSrc (boot : Nat) : Nat := if boot = 1 then 1 else if boot = 2 then 3 else 0

/-- IMG's own state as the first candidate is taken -/
def bootImg (src : Nat) (i : ImgS) : ImgS := { i with cand := 0, dl := 0, dlService := false, recovery := false, work := none, src := src }

theorem bootStart_first (h : MayBegin u) (hre : u.img.reapply = false) : bootStart u =
    putImgState (bootState (rd u RST_STRAP_BOOT)) (modImg (bootImg (bootSrc (rd u RST_STRAP_BOOT)))
      (put IMG_STATUS_RUN_BANK (pointerBank u) (put IMG_STATUS_PTR (pointerBank u) u))) := by
  have hboot : ∀ v w, rd (put IMG_STATUS_RUN_BANK v (put IMG_STATUS_PTR w u)) RST_STRAP_BOOT = rd u RST_STRAP_BOOT := fun v w => by
    simp [rd_put_ne]
  simp only [bootStart, bootMay_of h, hre, Bool.not_true, Bool.false_eq_true, if_false]
  split
  next hb =>
    have hb : rd u RST_STRAP_BOOT = 1 := (hboot _ _).symm.trans hb
    rw [hb]
    rfl
  next hb =>
    have hb : rd u RST_STRAP_BOOT = 2 := (hboot _ _).symm.trans hb
    rw [hb]
    rfl
  next h1 h2 =>
    have h1 : rd u RST_STRAP_BOOT ≠ 1 := fun e => h1 ((hboot _ _).trans e)
    have h2 : rd u RST_STRAP_BOOT ≠ 2 := fun e => h2 ((hboot _ _).trans e)
    rw [bootState, bootSrc, if_neg h1, if_neg h2, if_neg h1, if_neg h2]
    rfl

theorem bootState_mod (boot : Nat) : bootState boot % 16 = bootState boot := by
  unfold bootState
  split
  · rfl
  · split <;> rfl

theorem completes_imgBootStart (hb : Between s) (h : MayBegin s) : Completes (.imgBootStart dt) s (fun t =>
    (if s.img.reapply then rd t IMG_STATUS_STATE = 2 ∧ t.now = s.now + dt ∧ RegsBut [IMG_STATUS_STATE] s t
     else rd t IMG_STATUS_STATE = bootState (rd s RST_STRAP_BOOT)
       ∧ rd t IMG_STATUS_PTR = pointerBank s % 2 ∧ rd t IMG_STATUS_RUN_BANK = pointerBank s % 2 ∧ t.img.cand = 0
       ∧ t.now = s.now + dt ∧ RegsBut [IMG_STATUS_STATE, IMG_STATUS_PTR, IMG_STATUS_RUN_BANK] s t) ∧ StoresSame s t) := by
  cases hre : s.img.reapply with
  | true =>
    have hw := within_putImgState (within_pass dt [IMG_STATUS_STATE] s) (by simp) 2
    refine hw.completes (congrArg (done s) (bootStart_again (mayBegin_pass h) (by simpa using hre))) hb ⟨?_, hw.storesSame⟩
    exact ⟨by simp, hw.now, hw.regs⟩
  | false =>
    have he := bootStart_first (mayBegin_pass (dt := dt) h) (by simpa using hre)
    rw [sameSource_pass.pointerBank, rd_pass] at he
    have hw := within_putImgState (within_modImg (((within_pass dt [IMG_STATUS_STATE, IMG_STATUS_PTR, IMG_STATUS_RUN_BANK] s).put
      (f := IMG_STATUS_PTR) (by simp) (pointerBank s)).put (f := IMG_STATUS_RUN_BANK) (by simp) (pointerBank s))
      (bootImg (bootSrc (rd s RST_STRAP_BOOT)))) (by simp) (bootState (rd s RST_STRAP_BOOT))
    refine hw.completes (congrArg (done s) he) hb ⟨?_, hw.storesSame⟩
    exact ⟨by rw [rd_putImgState, bootState_mod], by simp [putImgState, rd_put_ne], by simp [putImgState, rd_put_ne], rfl, hw.now, hw.regs⟩

/-! ### A candidate that fails (R81 to R83) -/

/-- IMG's own state as the second candidate is taken: after the flash the other copy of it -/
def secondImg (i : ImgS) : ImgS := { i with cand := 1, src := if i.src = 1 then 2 else i.src }

theorem candFailed_first {code seg : Nat} {p2 : Bool} (hre : u.img.reapply = false) (hrec : u.img.recovery = false) (hsrc : u.img.src ≠ 3)
    (hc : u.img.cand = 0) : candFailed code seg p2 u =
    putImgState (if u.img.src = 0 then 2 else 1) (modImg secondImg (putImgErr code seg p2 u)) := by
  have hs : (secondImg u.img).src = 0 ↔ u.img.src = 0 := by
    unfold secondImg
    dsimp only
    split <;> omega
  have hif : (if (secondImg u.img).src = 0 then 2 else 1) = if u.img.src = 0 then 2 else 1 := if_congr hs rfl rfl
  have hno : ¬ ((putImgErr code seg p2 u).img.reapply || (putImgErr code seg p2 u).img.recovery
      || decide ((putImgErr code seg p2 u).img.src = 3)) = true := by simp [hre, hrec, hsrc]
  have h0 : (putImgErr code seg p2 u).img.cand = 0 := hc
  rw [← hif, candFailed, if_neg hno, if_pos h0]
  rfl

theorem candFailed_last {code seg : Nat} {p2 : Bool} (hre : u.img.reapply = false) (hrec : u.img.recovery = false) (hsrc : u.img.src ≠ 3)
    (hc : u.img.cand ≠ 0) : candFailed code seg p2 u = imgFailed (putImgErr code seg p2 u) := by
  simp only [candFailed, putImgErr_img, hre, hrec, Bool.or_self, Bool.false_or, decide_eq_true_eq, if_neg hsrc, if_neg hc]

/-- IMG.ERR of t names the failure of the candidate that s had in hand -/
def ErrShown (code seg : Nat) (p2 : Bool) (s t : State) : Prop :=
  rd t IMG_ERR_CODE = code % 256 ∧ rd t IMG_ERR_SEG = seg % 256 ∧ rd t IMG_ERR_PASS2 = p2.toNat ∧ rd t IMG_ERR_CAND = s.img.cand % 256

/-- the fields that a failed candidate changes -/
abbrev failFields : List Fld := IMG_STATUS_STATE :: errFields

theorem errShown_putImgErr (code seg : Nat) (p2 : Bool) : ErrShown code seg p2 s (putImgErr code seg p2 (pass dt s)) := by
  have h := rd_putImgErr code seg p2 (pass dt s)
  rwa [pass_img] at h

theorem within_passErr (code seg : Nat) (p2 : Bool) : Within dt failFields s (putImgErr code seg p2 (pass dt s)) :=
  within_putImgErr (within_pass dt failFields s) (fun _ hf => List.mem_cons_of_mem _ hf) code seg p2

/-- the first candidate fails: its failure is recorded and the second one tried -/
theorem completes_candFailed {c : Instr} {code seg : Nat} {p2 : Bool} (hb : Between s) (hc : exec c s = done s (candFailed code seg p2 (pass dt s)))
    (hre : s.img.reapply = false) (hrec : s.img.recovery = false) (hsrc : s.img.src ≠ 3) (h0 : s.img.cand = 0) :
    Completes c s (fun t => rd t IMG_STATUS_STATE = (if s.img.src = 0 then 2 else 1) ∧ t.img.cand = 1 ∧ ErrShown code seg p2 s t
      ∧ (t.now = s.now + dt ∧ RegsBut failFields s t) ∧ StoresSame s t) := by
  rw [candFailed_first (by simpa using hre) (by simpa using hrec) (by simpa using hsrc) (by simpa using h0), pass_img] at hc
  have hw := within_putImgState (within_modImg (within_passErr (dt := dt) (s := s) code seg p2) secondImg) List.mem_cons_self
    (if s.img.src = 0 then 2 else 1)
  obtain ⟨hcode, hseg, hpass, hcand⟩ := errShown_putImgErr (dt := dt) (s := s) code seg p2
  refine hw.completes hc hb ⟨?_, rfl, ⟨?_, ?_, ?_, ?_⟩, ⟨hw.now, hw.regs⟩, hw.storesSame⟩
  · rw [rd_putImgState]
    split <;> rfl
  · rw [rd_putImgState_ne _ _ (by simp), rd_modImg, hcode]
  · rw [rd_putImgState_ne _ _ (by simp), rd_modImg, hseg]
  · rw [rd_putImgState_ne _ _ (by simp), rd_modImg, hpass]
  · rw [rd_putImgState_ne _ _ (by simp), rd_modImg, hcand]

/-! ### The flash candidate (R80) -/

theorem flashDone_copied {bytes : List Byte} (hst : rd u IMG_STATUS_STATE = 1) (hne : bytes.take 4 ≠ [0xFF, 0xFF, 0xFF, 0xFF])
    (hp : rd u IMG_STATUS_PTR ≠ spareBank u) : flashDone bytes u =
    putImgState 2 (mwr (bankAt (spareBank u)) (bytes.take (min 98304 (b32 bytes 8))) u) := by
  simp only [flashDone, imgState, hst, bne_self_eq_false, Bool.false_eq_true, if_false, if_neg hne, guardPointer_same hp]

theorem flashDone_blank {bytes : List Byte} (hst : rd u IMG_STATUS_STATE = 1) (hne : bytes.take 4 = [0xFF, 0xFF, 0xFF, 0xFF]) :
    flashDone bytes u = candFailed 0x12 255 false u := by
  simp only [flashDone, imgState, hst, bne_self_eq_false, Bool.false_eq_true, if_false, if_pos hne]

theorem completes_flashReadDone (hb : Between s) {bytes : List Byte} (hst : rd s IMG_STATUS_STATE = 1)
    (hne : bytes.take 4 ≠ [0xFF, 0xFF, 0xFF, 0xFF]) (hp : rd s IMG_STATUS_PTR ≠ spareBank s) : Completes (.flashReadDone dt bytes) s (fun t =>
      rd t IMG_STATUS_STATE = 2 ∧ (t.now = s.now + dt ∧ RegsBut [IMG_STATUS_STATE] s t)
      ∧ BytesStored (bankAt (spareBank s)) (bytes.take (min 98304 (b32 bytes 8))) s t) := by
  have hspare : spareBank (pass dt s) = spareBank s := by simp [spareBank]
  have he := flashDone_copied (u := pass dt s) (by simpa using hst) hne (by simpa [hspare] using hp)
  rw [hspare] at he
  have hw := within_putImgState (within_pass dt [IMG_STATUS_STATE] s) (by simp) 2
  refine completes_stored (u := putImgState 2 (pass dt s)) (congrArg (done s) he) hw hb fun t _ hnow hrd hregs hbytes => ⟨?_, ⟨hnow, hregs⟩, hbytes⟩
  rw [hrd, rd_putImgState]

theorem completes_flashReadDone_blank (hb : Between s) {bytes : List Byte} (hst : rd s IMG_STATUS_STATE = 1)
    (hblank : bytes.take 4 = [0xFF, 0xFF, 0xFF, 0xFF]) (hc : s.img.cand = 0) (hsrc : s.img.src = 1) (hre : s.img.reapply = false)
    (hrec : s.img.recovery = false) : Completes (.flashReadDone dt bytes) s (fun t =>
      rd t IMG_STATUS_STATE = 1 ∧ t.img.cand = 1 ∧ ErrShown 0x12 255 false s t ∧ (t.now = s.now + dt ∧ RegsBut failFields s t) ∧ StoresSame s t) := by
  have he := congrArg (done s) (flashDone_blank (u := pass dt s) (by simpa using hst) hblank)
  refine completes_mono (completes_candFailed hb he hre hrec (by omega) hc) fun t ⟨hstate, hrest⟩ => ⟨?_, hrest⟩
  rw [hstate, hsrc]
  rfl

/-! ### Pass 1 (R81) -/

/-- what pass 1 finds in the candidate in hand -/
abbrev candVerdict (z : State) : Option (Nat × Nat) := pass1 (checkEnv z (bankBytes z (candBank z)) false false) false (bankBytes z (candBank z))

theorem pass1Done_passed (hst : rd u IMG_STATUS_STATE = 2) (h : candVerdict u = none) : pass1Done u = putImgState 3 u := by
  simp only [pass1Done, imgState, hst, bne_self_eq_false, Bool.false_eq_true, if_false, h]

theorem pass1Done_failed (hst : rd u IMG_STATUS_STATE = 2) {r : Nat × Nat} (h : candVerdict u = some r) :
    pass1Done u = candFailed r.1 r.2 false u := by
  simp only [pass1Done, imgState, hst, bne_self_eq_false, Bool.false_eq_true, if_false, h]

theorem completes_pass1Done (hb : Between s) (hst : rd s IMG_STATUS_STATE = 2) (h : candVerdict (pass dt s) = none) :
    Completes (.pass1Done dt) s (fun t => rd t IMG_STATUS_STATE = 3 ∧ (t.now = s.now + dt ∧ RegsBut [IMG_STATUS_STATE] s t) ∧ StoresSame s t) := by
  have hw := within_putImgState (within_pass dt [IMG_STATUS_STATE] s) (by simp) 3
  exact hw.completes (congrArg (done s) (pass1Done_passed (by simpa using hst) h)) hb ⟨by simp, ⟨hw.now, hw.regs⟩, hw.storesSame⟩

theorem leads_pass1Done_failed (hb : Between s) (hst : rd s IMG_STATUS_STATE = 2) {r : Nat × Nat} (h : candVerdict (pass dt s) = some r)
    (hre : s.img.reapply = false) (hrec : s.img.recovery = false) (hsrc : s.img.src ≠ 3) (hc : s.img.cand ≠ 0) :
    Leads (.pass1Done dt) s imgFailed (fun u => ErrShown r.1 r.2 false s u ∧ (u.now = s.now + dt ∧ RegsBut failFields s u) ∧ u.flt.raised = []
      ∧ StoresSame s u) := by
  have hw := within_passErr (dt := dt) (s := s) r.1 r.2 false
  have he : pass1Done (pass dt s) = imgFailed (putImgErr r.1 r.2 false (pass dt s)) := by
    rw [pass1Done_failed (by simpa using hst) h, candFailed_last (by simpa using hre) (by simpa using hrec) (by simpa using hsrc) (by simpa using hc)]
  exact ⟨_, congrArg (done s) he, errShown_putImgErr r.1 r.2 false, ⟨hw.now, hw.regs⟩, hw.raised hb, hw.storesSame⟩

end

/-- Settles O22: the begin of IMG by the strap; the flash read and pass 1 by what they find, a failed candidate by one rule; pass 2 because
no segment and no record of an image moves the bank or the bytes it is read from. -/
theorem bootTakesACandidateImage : Obligations.BootTakesACandidateImage := by
  unfold Obligations.BootTakesACandidateImage
  intro dt bytes s hb z keeps errs errRegs
  refine ⟨fun hst hph hlock hpres hnvm hsec => completes_imgBootStart hb ⟨hst, hph, hlock, hpres, hnvm, hsec⟩,
    fun hst => ⟨completes_flashReadDone hb hst, completes_flashReadDone_blank hb hst⟩, fun hst l hl => ?_,
    fun hst hre _ l hl hf hw hrecs => leads_pass2Done hst hre hw hl hf hrecs⟩
  subst hl
  refine ⟨completes_pass1Done hb hst, fun r hr hre hrec hsrc => ⟨fun h0 => ?_, leads_pass1Done_failed hb hst hr hre hrec hsrc⟩⟩
  exact completes_candFailed hb (congrArg (done s) (pass1Done_failed (by simpa using hst) hr)) hre hrec hsrc h0

end Sys2Proof.ConfigImage

/-! Configuration writes (O13): MNS tells a change of GRID_F from what the register file holds, of whatever width. -/

namespace Sys2Proof.ConfigWrites
open Sys2Proof.Machine Sys2Proof.Reg Sys2Proof.Safety

/-- Grid time is on, the host port is open, and the register file holds 2 in GRID_F, a field of one bit. -/
def gridFTwo : State :=
  put MNS_GT_CFG_EN 1 { regs := [(fldKey MNS_GCFG_GRID_F, 2)], rst := { phase := .run }, img := { applied := true } }

theorem gridFTwo_between : Between gridFTwo := by
  simp only [Between]
  decide

theorem gridFTwo_open : Open gridFTwo 0x900100 := by
  simp only [Open, HostIdle]
  decide

/-- the bit written differs from the number held in GRID_F -/
theorem gridFTwo_bit_ne (old : Nat) : aliasData 0 old (0 % 2 ^ 32) / 2 ^ 31 % 2 ≠ rd gridFTwo MNS_GCFG_GRID_F := by
  have h2 : rd gridFTwo MNS_GCFG_GRID_F = 2 := by decide
  have hlt := Nat.mod_lt (aliasData 0 old (0 % 2 ^ 32) / 2 ^ 31) (show 0 < 2 by decide)
  omega

/-- a write of GRID_F = 0 leaves the 2 as it is under its one-bit mask, so MNS sees no change and takes the write -/
theorem gridFTwo_not_refused : blockRefuses (Issued 0x900100 0 gridFTwo) { addr := 0x900100, be := 15, data := 0 } = false := by decide +kernel

/-- the write is stored, and what follows a write of GCFG follows -/
theorem writeReg_gridFTwo : writeReg 0x900100 0 0 (pass 0 gridFTwo) =
    gcfgWritten (Issued 0x900100 0 gridFTwo) (storeWord 0x900100 15 0 (Issued 0x900100 0 gridFTwo)) := by
  obtain ⟨r, hr⟩ : ∃ r, rowAt 0x900100 = some r := ⟨_, rfl⟩
  rw [writeReg_block gridFTwo_open (by decide) (by decide) (by decide) hr (by decide) (by decide) (by decide) (by decide)]
  exact regWrite_taken rfl gridFTwo_not_refused

/-- no host access fault comes of the write -/
theorem gridFWrite_gridFTwo_no_haf : (settle (writeReg 0x900100 0 0 (pass 0 gridFTwo))).host.haf = false := by
  rw [writeReg_gridFTwo]
  decide +kernel

/-- a refused write would leave one -/
theorem refused_gridFTwo_haf : (settle (refuse (Issued 0x900100 0 gridFTwo))).host.haf = true := by decide +kernel

/-- the write is not answered as a refused one -/
theorem not_brings_gridFTwo_refused : ¬ Brings (.gridFWrite 0 0 0) gridFTwo (refuse (Issued 0x900100 0 gridFTwo)) := by
  intro h
  change Host.Outcome.next (closed gridFTwo (settle (writeReg 0x900100 0 0 (pass 0 gridFTwo)))) = _ at h
  injection h with h
  have hhaf : (settle (writeReg 0x900100 0 0 (pass 0 gridFTwo))).host.haf = (settle (refuse (Issued 0x900100 0 gridFTwo))).host.haf := by
    rw [← closed_host gridFTwo, h, closed_host]
  rw [gridFWrite_gridFTwo_no_haf, refused_gridFTwo_haf] at hhaf
  exact absurd hhaf (by decide)

/-- Refutes O13: the clause that a change of GRID_F is refused while grid time is on compares the bit written with the number the register
file holds in GRID_F, and does not ask that this number fits the field's one bit. MNS compares the field before and after the write under its
mask (R265): in gridFTwo, which holds 2 there, a write of 0 differs from the 2 and yet leaves it, so MNS takes the write. -/
theorem not_configurationWritesAreStoredAndFollowed : ¬ Obligations.ConfigurationWritesAreStoredAndFollowed := by
  unfold Obligations.ConfigurationWritesAreStoredAndFollowed
  intro h
  obtain ⟨-, -, -, -, -, -, -, -, -, -, -, -, -, -, -, -, -, -, -, -, gridF_refused, -⟩ := h 0 0 0 0 0 gridFTwo gridFTwo_between (by decide)
  exact not_brings_gridFTwo_refused (gridF_refused (by decide) (gridFTwo_bit_ne _) (by decide) gridFTwo_open)

end Sys2Proof.ConfigWrites

/-! Reference inputs (O25, O26): the edges of an input and its missing edges through the activity, frequency and phase monitors, the end of
a slot's qualification, and the sentences and label timeouts of the time-of-day receivers. Each operation has one lemma for the fields it may
change (`Within`), and the monitors' counts are followed in `Counted`. -/

namespace Sys2Proof.Clocks.Kept
open Sys2Proof.Machine Sys2Proof.Reg
variable {s u v : State}

theorem modPin (h : Kept s u) (n : Nat) (f : PinS → PinS) : Kept s (modPin n f u) := ⟨h.pending, h.mram, h.mramJ, h.cram, h.otp⟩

theorem modTodr (h : Kept s u) (k : Nat) (f : TodS → TodS) : Kept s (modTodr k f u) := ⟨h.pending, h.mram, h.mramJ, h.cram, h.otp⟩

theorem modSlot (h : Kept s u) (i : Nat) (f : SlotS → SlotS) : Kept s (modSlot i f u) := ⟨h.pending, h.mram, h.mramJ, h.cram, h.otp⟩

theorem trans (h : Kept s u) (h' : Kept u v) : Kept s v :=
  ⟨h'.pending.trans h.pending, h'.mram.trans h.mram, h'.mramJ.trans h.mramJ, h'.cram.trans h.cram, h'.otp.trans h.otp⟩

end Sys2Proof.Clocks.Kept

namespace Sys2Proof.Modes
open Sys2Proof.Machine Sys2Proof.Reg Sys2Proof.Safety Sys2Proof.Clocks

theorem within_self (l : List Fld) (s : State) : Within 0 l s s := by simpa using within_pass 0 l s

/-- device time moves on to t, or stays where it is past t -/
theorem within_advanceTo (t : Nat) (l : List Fld) (s : State) : Within (t - s.now) l s (advanceTo t s) :=
  ⟨by rw [advanceTo_now]; omega, regsBut_of_rd (by simp) l, kept_advanceTo t s, by simp⟩

namespace Within
variable {dt : Nat} {l l' : List Fld} {s u v : State}

theorem modPin (h : Within dt l s u) (n : Nat) (f : PinS → PinS) : Within dt l s (modPin n f u) := ⟨h.now, h.regs, h.kept.modPin n f, h.quiet⟩

theorem modTodr (h : Within dt l s u) (k : Nat) (f : TodS → TodS) : Within dt l s (modTodr k f u) := ⟨h.now, h.regs, h.kept.modTodr k f, h.quiet⟩

theorem modSlot (h : Within dt l s u) (i : Nat) (f : SlotS → SlotS) : Within dt l s (modSlot i f u) := ⟨h.now, h.regs, h.kept.modSlot i f, h.quiet⟩

theorem ite {c : Prop} [Decidable c] (hu : Within dt l s u) (hv : Within dt l s v) : Within dt l s (if c then u else v) := by
  split
  · exact hu
  · exact hv

/-- what happens at once in u, to fields among those listed, happens within the command -/
theorem trans (h : Within dt l s u) (h' : Within 0 l' u v) (hl : ∀ f ∈ l', f ∈ l) : Within dt l s v where
  now := h'.now.trans h.now
  regs := regsBut_trans h.regs fun f hf => h'.regs f fun hf' => by
    obtain ⟨g, hg, he⟩ := List.mem_map.1 hf'
    exact hf (List.mem_map.2 ⟨g, hl g hg, he⟩)
  kept := h.kept.trans h'.kept
  quiet := h'.quiet.trans h.quiet

/-- a field with another key than those listed reads as before -/
theorem rd_eq (h : Within dt l s u) {f : Fld} (hf : fldKey f ∉ l.map fldKey) : rd u f = rd s f := h.regs f hf

end Within

end Sys2Proof.Modes

namespace Sys2Proof.ReferenceInputs
open Sys2Proof.Machine Sys2Proof.Reg Sys2Proof.Safety Sys2Proof.Clocks Sys2Proof.Modes

/-! ### The activity monitor (R100) -/

theorem pinT_congr {s u : State} {n : Nat} (h : rd u (REF_INn_NOM_NOM n) = rd s (REF_INn_NOM_NOM n)) : pinT u n = pinT s n := by
  rw [pinT, pinT, h]

theorem pinLong_congr {s u : State} {n : Nat} (hn : rd u (REF_INn_NOM_NOM n) = rd s (REF_INn_NOM_NOM n))
    (ht : rd u (REF_INn_ACT_TOL n) = rd s (REF_INn_ACT_TOL n)) : pinLong u n = pinLong s n := by
  rw [pinLong, pinLong, hn, ht]

theorem within_pinEvents (n k : Nat) (s : State) : Within 0 [REF_INn_STAT_BUCKET n] s (pinEvents n k s) :=
  ((within_self _ s).put (List.mem_singleton_self _) _).modPin n _

/-- events fill BUCKET up to SET -/
theorem rd_pinEvents_bucket {n : Nat} {s : State} (hset : rd s (REF_INn_ACT_SET n) < 256) (k : Nat) :
    rd (pinEvents n k s) (REF_INn_STAT_BUCKET n) = min (rd s (REF_INn_ACT_SET n)) (rd s (REF_INn_STAT_BUCKET n) + k) := by
  have hlt : min (rd s (REF_INn_ACT_SET n)) (rd s (REF_INn_STAT_BUCKET n) + k) < 256 := by omega
  simp [pinEvents, Nat.mod_eq_of_lt hlt]

/-- events end the row of good intervals and change nothing else of the monitor -/
theorem pinEvents_pin {n : Nat} (hn : n < 16) (k : Nat) (s : State) : ix (pinEvents n k s).pin n = { ix s.pin n with good := 0 } :=
  ix_upd_same s.pin _ hn

/-- ACT_OK as BUCKET and OVERSPEED make it -/
def actOk (s : State) (n : Nat) : Bool :=
  if on s (REF_INn_STAT_OVERSPEED n) || decide (rd s (REF_INn_ACT_SET n) ≤ rd s (REF_INn_STAT_BUCKET n)) then false
  else if rd s (REF_INn_STAT_BUCKET n) ≤ rd s (REF_INn_ACT_CLR n) then true else on s (REF_INn_STAT_ACT_OK n)

theorem pinActOk_eq (n : Nat) (s : State) : pinActOk n s =
    if on s (REF_INn_STAT_ACT_OK n) && !actOk s n then put (REF_INn_STAT_ACT_FAIL n) 1 (putB (REF_INn_STAT_ACT_OK n) (actOk s n) s)
    else putB (REF_INn_STAT_ACT_OK n) (actOk s n) s := (rfl)

/-- the fields that follow BUCKET -/
def actFields (n : Nat) : List Fld := [REF_INn_STAT_ACT_OK n, REF_INn_STAT_ACT_FAIL n]

theorem within_pinActOk (n : Nat) (s : State) : Within 0 (actFields n) s (pinActOk n s) := by
  have hok := (within_self (actFields n) s).put (f := REF_INn_STAT_ACT_OK n) (by simp [actFields]) (b2n (actOk s n))
  rw [pinActOk_eq]
  exact (hok.put (by simp [actFields]) 1).ite hok

@[simp] theorem pinActOk_pin (n : Nat) (s : State) : (pinActOk n s).pin = s.pin := by
  rw [pinActOk_eq]
  split <;> rfl

theorem b2n_lt (b : Bool) : b2n b < 2 := by cases b <;> decide

theorem rd_pinActOk_ok (n : Nat) (s : State) : rd (pinActOk n s) (REF_INn_STAT_ACT_OK n) = b2n (actOk s n) := by
  have h := Nat.mod_eq_of_lt (b2n_lt (actOk s n))
  rw [pinActOk_eq]
  split <;> simp [rd_put_ne, h]

/-- the fall of ACT_OK is recorded (R105) -/
theorem rd_pinActOk_fail {n : Nat} {s : State} (hwas : rd s (REF_INn_STAT_ACT_OK n) = 1) (hok : actOk s n = false) :
    rd (pinActOk n s) (REF_INn_STAT_ACT_FAIL n) = 1 := by
  rw [pinActOk_eq, on_eq_true hwas, hok]
  simp

/-- ACT_OK after a judgement with OVERSPEED speed and BUCKET b, from what s holds -/
def actOkValue (s : State) (n : Nat) (speed : Bool) (b : Nat) : Nat :=
  if speed = true ∨ rd s (REF_INn_ACT_SET n) ≤ b then 0 else if b ≤ rd s (REF_INn_ACT_CLR n) then 1
  else if rd s (REF_INn_STAT_ACT_OK n) = 1 then 1 else 0

/-- u follows s with the counts of input n's activity monitor taken: OVERSPEED, BUCKET and the row of good intervals -/
structure Counted (n : Nat) (s u : State) (speed : Bool) (bucket good : Nat) : Prop where
  overspeed : on u (REF_INn_STAT_OVERSPEED n) = speed
  bucket : rd u (REF_INn_STAT_BUCKET n) = bucket
  pin : ix u.pin n = { ix s.pin n with good := good }
  within : Within 0 [REF_INn_STAT_OVERSPEED n, REF_INn_STAT_BUCKET n] s u

theorem Counted.actOk_eq {n : Nat} {s u : State} {speed : Bool} {b g : Nat} (h : Counted n s u speed b g) :
    b2n (actOk u n) = actOkValue s n speed b := by
  have hset : rd u (REF_INn_ACT_SET n) = rd s (REF_INn_ACT_SET n) := h.within.rd_eq (by simp)
  have hclr : rd u (REF_INn_ACT_CLR n) = rd s (REF_INn_ACT_CLR n) := h.within.rd_eq (by simp)
  have hwas : rd u (REF_INn_STAT_ACT_OK n) = rd s (REF_INn_STAT_ACT_OK n) := h.within.rd_eq (by simp)
  rw [actOk, actOkValue, h.overspeed, h.bucket, hset, hclr, on, hwas]
  cases speed
  · by_cases hs : rd s (REF_INn_ACT_SET n) ≤ b
    · simp [hs, b2n]
    · by_cases hc : b ≤ rd s (REF_INn_ACT_CLR n) <;> simp [hs, hc, b2n]
  · simp [b2n]

/-! ### Intervals (R100) -/

/-- OVERSPEED as an interval of i units leaves it: set under 10 ns -/
def speedSeen (n i : Nat) (s : State) : State := if i < 10 * nsU then put (REF_INn_STAT_OVERSPEED n) 1 s else s

/-- counts as they stand -/
theorem counted_self (n : Nat) (s : State) :
    Counted n s s (decide (rd s (REF_INn_STAT_OVERSPEED n) = 1)) (rd s (REF_INn_STAT_BUCKET n)) (ix s.pin n).good :=
  ⟨rfl, rfl, rfl, within_self _ s⟩

theorem counted_speedSeen (n i : Nat) (s : State) :
    Counted n s (speedSeen n i s) (decide (i < 10 * nsU) || decide (rd s (REF_INn_STAT_OVERSPEED n) = 1)) (rd s (REF_INn_STAT_BUCKET n))
      (ix s.pin n).good := by
  unfold speedSeen
  split
  case isTrue h => exact ⟨by simp [on, h], by simp [rd_put_ne], rfl, (within_self _ s).put (by simp) 1⟩
  case isFalse h =>
    rw [decide_eq_false h, Bool.false_or]
    exact counted_self n s

theorem Counted.events {n : Nat} {s u : State} {speed : Bool} {b g : Nat} (h : Counted n s u speed b g) (hn : n < 16)
    (hset : rd s (REF_INn_ACT_SET n) < 256) (k : Nat) :
    Counted n s (pinEvents n k u) speed (min (rd s (REF_INn_ACT_SET n)) (b + k)) 0 := by
  have hset' : rd u (REF_INn_ACT_SET n) = rd s (REF_INn_ACT_SET n) := h.within.rd_eq (by simp)
  have hev := within_pinEvents n k u
  refine ⟨?_, ?_, ?_, h.within.trans hev (by simp)⟩
  · rw [on, hev.rd_eq (by simp)]
    exact h.overspeed
  · rw [rd_pinEvents_bucket (hset' ▸ hset), hset', h.bucket]
  · rw [pinEvents_pin hn, h.pin]

/-- input n has counted one more good interval in a row -/
def goodCounted (n : Nat) (u : State) : State := modPin n (fun x => { x with good := (ix u.pin n).good + 1 }) u

theorem Counted.good {n : Nat} {s u : State} {speed : Bool} {b g : Nat} (h : Counted n s u speed b g) (hn : n < 16) :
    Counted n s (goodCounted n u) speed b (g + 1) := by
  refine ⟨h.overspeed, h.bucket, ?_, h.within.modPin n _⟩
  rw [goodCounted, modPin_pin, ix_upd_same _ _ hn, h.pin]

/-- a leak takes 1 off BUCKET -/
theorem Counted.leak {n : Nat} {s u : State} {speed : Bool} {b g : Nat} (h : Counted n s u speed b g) (hb : b < 256) :
    Counted n s (put (REF_INn_STAT_BUCKET n) (b - 1) u) speed (b - 1) g := by
  have hlt : b - 1 < 256 := by omega
  refine ⟨?_, by simp [Nat.mod_eq_of_lt hlt], h.pin, h.within.put (by simp) _⟩
  rw [on, rd_put_ne _ _ (by simp)]
  exact h.overspeed

/-- the length of the interval that ends now, in units of a 256th of a period (R100) -/
def intervalUnits (s : State) (n l : Nat) : Nat := (s.now - l) * rd s (REF_INn_NOM_NOM n) * 256

/-- BUCKET after the interval that began at l -/
def bucketAfter (s : State) (n l : Nat) : Nat :=
  if intervalUnits s n l < (256 - rd s (REF_INn_ACT_TOL n)) * 64 * secU then min (rd s (REF_INn_ACT_SET n)) (rd s (REF_INn_STAT_BUCKET n) + 1)
  else if intervalUnits s n l ≤ (256 + rd s (REF_INn_ACT_TOL n)) * 64 * secU then
    (if ((ix s.pin n).good + 1) % orElse0 (rd s (REF_INn_ACT_LEAK n)) 1 = 0 then rd s (REF_INn_STAT_BUCKET n) - 1 else rd s (REF_INn_STAT_BUCKET n))
  else min (rd s (REF_INn_ACT_SET n)) (rd s (REF_INn_STAT_BUCKET n) + pinMissed s n)

/-- the row of good intervals after the interval that began at l -/
def goodAfter (s : State) (n l : Nat) : Nat :=
  if intervalUnits s n l < (256 - rd s (REF_INn_ACT_TOL n)) * 64 * secU then 0
  else if intervalUnits s n l ≤ (256 + rd s (REF_INn_ACT_TOL n)) * 64 * secU then (ix s.pin n).good + 1 else 0

/-- OVERSPEED after the interval that began at l -/
def speedAfter (s : State) (n l : Nat) : Bool := decide (s.now - l < 10 * nsU) || decide (rd s (REF_INn_STAT_OVERSPEED n) = 1)

theorem pinInterval_eq {n l : Nat} {s : State} (hl : (ix s.pin n).last = some l) : pinInterval n s =
    if intervalUnits s n l < (256 - rd s (REF_INn_ACT_TOL n)) * 64 * secU then pinEvents n 1 (speedSeen n (s.now - l) s)
    else if intervalUnits s n l ≤ (256 + rd s (REF_INn_ACT_TOL n)) * 64 * secU then
      (if ((ix (speedSeen n (s.now - l) s).pin n).good + 1) % orElse0 (rd (goodCounted n (speedSeen n (s.now - l) s)) (REF_INn_ACT_LEAK n)) 1 = 0 then
        put (REF_INn_STAT_BUCKET n) (rd (goodCounted n (speedSeen n (s.now - l) s)) (REF_INn_STAT_BUCKET n) - 1) (goodCounted n (speedSeen n (s.now - l) s))
      else goodCounted n (speedSeen n (s.now - l) s))
    else pinEvents n (pinMissed (speedSeen n (s.now - l) s) n) (speedSeen n (s.now - l) s) := by
  unfold pinInterval
  rw [hl]
  rfl

/-- the missing edges do not hang on OVERSPEED -/
theorem pinMissed_counted {n : Nat} {s u : State} {speed : Bool} {b : Nat} (h : Counted n s u speed b (ix s.pin n).good) :
    pinMissed u n = pinMissed s n := by
  have hpin : ix u.pin n = ix s.pin n := h.pin
  have hnow : u.now = s.now := h.within.now
  rw [pinMissed, pinMissed, hpin, hnow, pinT_congr (h.within.rd_eq (by simp))]

/-- a divided edge classifies the interval it closes -/
theorem counted_pinInterval {n l : Nat} {s : State} (hn : n < 16) (hset : rd s (REF_INn_ACT_SET n) < 256)
    (hold : rd s (REF_INn_STAT_BUCKET n) < 256) (hl : (ix s.pin n).last = some l) :
    Counted n s (pinInterval n s) (speedAfter s n l) (bucketAfter s n l) (goodAfter s n l) := by
  have hc := counted_speedSeen n (s.now - l) s
  have hg := hc.good hn
  have hpin : ix (speedSeen n (s.now - l) s).pin n = ix s.pin n := hc.pin
  rw [pinInterval_eq hl, bucketAfter, goodAfter, speedAfter, hpin, hg.bucket, hg.within.rd_eq (by simp), pinMissed_counted hc]
  by_cases hshort : intervalUnits s n l < (256 - rd s (REF_INn_ACT_TOL n)) * 64 * secU
  · simp only [if_pos hshort]
    exact hc.events hn hset 1
  · by_cases hgood : intervalUnits s n l ≤ (256 + rd s (REF_INn_ACT_TOL n)) * 64 * secU
    · simp only [if_neg hshort, if_pos hgood]
      by_cases hleak : ((ix s.pin n).good + 1) % orElse0 (rd s (REF_INn_ACT_LEAK n)) 1 = 0
      · simp only [if_pos hleak]
        exact hg.leak hold
      · simp only [if_neg hleak]
        exact hg
    · simp only [if_neg hshort, if_neg hgood]
      exact hc.events hn hset _

/-! ### The frequency and the phase-hit monitor (R102, R104) -/

/-- the fields that the frequency monitor shows its result in -/
def freqFields (n : Nat) : List Fld :=
  [REF_INn_STAT_FM_VALID n, REF_INn_STAT_WARM n, REF_INn_STAT_FM_OK n, REF_INn_STAT_FM_FAIL n, REF_INn_FOFF_LO_O n, REF_INn_FOFF_HI_O n]

theorem within_pinFmOk {n : Nat} {s u : State} (h : Within 0 (freqFields n) s u) (r : Int) : Within 0 (freqFields n) s (pinFmOk n r u) := by
  unfold pinFmOk
  exact ((h.put (by simp [freqFields]) _).put (by simp [freqFields]) 1).ite (h.put (by simp [freqFields]) _)

@[simp] theorem pinFmOk_pin (n : Nat) (r : Int) (s : State) : (pinFmOk n r s).pin = s.pin :=
  (apply_ite State.pin _ _ _).trans (ite_self _)

theorem putPairS_pin (lo hi : Fld) (v : Int) (s : State) : (putPairS lo hi v s).pin = s.pin := (rfl)

theorem within_pinFreq (n : Nat) (s : State) : Within 0 (freqFields n) s (pinFreq n s) := by
  have h := within_self (freqFields n) s
  unfold pinFreq
  dsimp only
  split
  case h_1 => exact h.modPin n _
  case h_2 t0 _ =>
    refine (h.modPin n _).ite (within_pinFmOk ?_ _)
    exact ((((h.modPin n _).put (by simp [freqFields]) 1).put (by simp [freqFields]) _).put (by simp [freqFields]) _).put (by simp [freqFields]) _

/-- u has the count of divided edges and the row of good intervals of input n as s has them -/
def SameCounts (n : Nat) (s u : State) : Prop := (ix u.pin n).skip = (ix s.pin n).skip ∧ (ix u.pin n).good = (ix s.pin n).good

theorem sameCounts_upd {n : Nat} (hn : n < 16) {f : PinS → PinS} {s u : State} (h : u.pin = upd s.pin n f)
    (hf : ∀ x, (f x).skip = x.skip ∧ (f x).good = x.good) : SameCounts n s u := by
  rw [SameCounts, h, ix_upd_same _ _ hn]
  exact hf _

theorem sameCounts_pinFreq {n : Nat} (hn : n < 16) (s : State) : SameCounts n s (pinFreq n s) := by
  unfold pinFreq
  dsimp only
  split
  case h_1 => exact sameCounts_upd hn (modPin_pin _ _ _) fun _ => ⟨rfl, rfl⟩
  case h_2 =>
    split
    · exact sameCounts_upd hn (modPin_pin _ _ _) fun _ => ⟨rfl, rfl⟩
    · rw [SameCounts, pinFmOk_pin, putPairS_pin, putB_eq, put_pin, put_pin, modPin_pin, ix_upd_same _ _ hn]
      exact ⟨rfl, rfl⟩

/-- without a threshold no phase hit is seen -/
theorem phaseHit_noThreshold {n : Nat} {s : State} (h : rd s (REF_INn_PH_THR n) = 0) (d : Nat) : phaseHit s n d = false := by
  simp [phaseHit, h]

/-- without a threshold the phase-hit monitor only counts -/
theorem pinPhase_noThreshold {n : Nat} {s : State} (h : rd s (REF_INn_PH_THR n) = 0) :
    pinPhase n s = s ∨ ∃ f : PinS → PinS, (∀ x, (f x).skip = x.skip ∧ (f x).good = x.good) ∧ pinPhase n s = modPin n f s := by
  unfold pinPhase
  split
  case h_1 => exact .inl rfl
  case h_2 t0 _ =>
    simp only [phaseHit_noThreshold h, Bool.false_eq_true, if_false]
    split
    · exact .inl rfl
    · split
      · exact .inr ⟨fun x => { x with phN := x.phN + 1 }, fun _ => ⟨rfl, rfl⟩, rfl⟩
      · exact .inr ⟨fun x => { x with ph0 := some s.now, phN := 0 }, fun _ => ⟨rfl, rfl⟩, rfl⟩

theorem within_pinPhase {n : Nat} {s : State} (h : rd s (REF_INn_PH_THR n) = 0) : Within 0 [] s (pinPhase n s) := by
  rcases pinPhase_noThreshold h with he | ⟨f, -, he⟩ <;> rw [he]
  · exact within_self _ s
  · exact (within_self _ s).modPin n f

theorem sameCounts_pinPhase {n : Nat} (hn : n < 16) {s : State} (h : rd s (REF_INn_PH_THR n) = 0) : SameCounts n s (pinPhase n s) := by
  rcases pinPhase_noThreshold h with he | ⟨f, hf, he⟩ <;> rw [he]
  · exact ⟨rfl, rfl⟩
  · exact sameCounts_upd hn rfl hf

/-! ### Edges (R95, R96) -/

theorem edgeSelected_iff (s : State) (n : Nat) (leg rise : Bool) : edgeSelected s n leg rise = true ↔
    (2 < tabGet s.img.iostd (512 + n) 3 ∨ leg = on s (REF_INn_CFG_LEG n)) ∧ rise ≠ on s (REF_INn_CFG_POL n) := by
  simp [edgeSelected]

@[simp] theorem edgeSelected_pass (dt : Nat) (s : State) (n : Nat) (leg rise : Bool) : edgeSelected (pass dt s) n leg rise = edgeSelected s n leg rise := by
  simp [edgeSelected, on]

section
variable {n : Nat} {leg rise : Bool} {s : State}

theorem legEdge_other (h : edgeSelected s n leg rise = false) : legEdge n leg rise s = s := by simp [legEdge, h]

theorem legEdge_counted (hrun : (ix s.pin n).run = true) (hsel : edgeSelected s n leg rise = true) (hskip : 0 < (ix s.pin n).skip) :
    legEdge n leg rise s = modPin n (fun x => { x with skip := x.skip - 1 }) s := by simp [legEdge, hrun, hsel, hskip]

/-- the count to the next divided edge begins -/
def skipBegun (n : Nat) (s : State) : State := modPin n (fun x => { x with skip := rd s (REF_INn_CFG_DIV n) }) s

theorem legEdge_divided (hrun : (ix s.pin n).run = true) (hsel : edgeSelected s n leg rise = true) (hskip : (ix s.pin n).skip = 0) :
    legEdge n leg rise s = pinEdge n (skipBegun n s) := by
  simp [legEdge, hrun, hsel, hskip, skipBegun]

end

/-- dt later, at a divided edge of input n, the monitors yet to take it -/
def edgeAt (dt n : Nat) (s : State) : State := skipBegun n (pass dt s)

@[simp] theorem rd_edgeAt (dt n : Nat) (s : State) (f : Fld) : rd (edgeAt dt n s) f = rd s f := by simp [edgeAt, skipBegun]

@[simp] theorem edgeAt_now (dt n : Nat) (s : State) : (edgeAt dt n s).now = s.now + dt := by simp [edgeAt, skipBegun]

theorem edgeAt_pin (dt : Nat) {n : Nat} (hn : n < 16) (s : State) :
    ix (edgeAt dt n s).pin n = { ix s.pin n with skip := rd s (REF_INn_CFG_DIV n) } := by
  rw [edgeAt, skipBegun, modPin_pin, ix_upd_same _ _ hn, pass_pin, rd_pass]

theorem actOkValue_edgeAt (dt n : Nat) (s : State) : actOkValue (edgeAt dt n s) n = actOkValue s n := by
  funext speed b
  simp only [actOkValue, rd_edgeAt]

theorem edgeAt_skip (dt : Nat) {n : Nat} (hn : n < 16) (s : State) : (ix (edgeAt dt n s).pin n).skip = rd s (REF_INn_CFG_DIV n) := by
  rw [edgeAt_pin dt hn]

theorem within_edgeAt (dt n : Nat) (l : List Fld) (s : State) : Within dt l s (edgeAt dt n s) := (within_pass dt l s).modPin n _

/-- the monitors of input n have taken a divided edge -/
def monitored (n : Nat) (s : State) : State := pinPhase n (pinFreq n (pinActOk n (pinInterval n s)))

/-- the next interval of input n begins now -/
def intervalBegun (n : Nat) (s : State) : State := modPin n (fun x => { x with last := some s.now, miss := s.now + pinLong s n }) s

theorem pinEdge_eq (n : Nat) (s : State) : pinEdge n s = todPulse n (slotEval n (intervalBegun n (monitored n s))) := (rfl)

/-- the fields a divided edge writes, in the order in which the obligation lists them -/
def edgeFields (n : Nat) : List Fld :=
  [REF_INn_STAT_BUCKET n, REF_INn_STAT_ACT_OK n, REF_INn_STAT_ACT_FAIL n, REF_INn_STAT_OVERSPEED n, REF_INn_STAT_FM_VALID n,
    REF_INn_STAT_WARM n, REF_INn_STAT_FM_OK n, REF_INn_STAT_FM_FAIL n, REF_INn_FOFF_LO_O n, REF_INn_FOFF_HI_O n]

/-- what a divided edge brings about in the monitors of input n -/
structure Monitored (n : Nat) (s u : State) (speed : Bool) (b g : Nat) : Prop where
  bucket : rd u (REF_INn_STAT_BUCKET n) = b
  ok : rd u (REF_INn_STAT_ACT_OK n) = actOkValue s n speed b
  fail : rd s (REF_INn_STAT_ACT_OK n) = 1 → actOkValue s n speed b = 0 → rd u (REF_INn_STAT_ACT_FAIL n) = 1
  good : (ix u.pin n).good = g
  skip : (ix u.pin n).skip = (ix s.pin n).skip
  within : Within 0 (edgeFields n) s u

theorem monitored_of_counted {n : Nat} {s u : State} {speed : Bool} {b g : Nat} (hn : n < 16) (hthr : rd s (REF_INn_PH_THR n) = 0)
    (h : Counted n s u speed b g) : Monitored n s (pinPhase n (pinFreq n (pinActOk n u))) speed b g := by
  have hact := within_pinActOk n u
  have hfreq := within_pinFreq n (pinActOk n u)
  have hthr' : rd (pinFreq n (pinActOk n u)) (REF_INn_PH_THR n) = 0 := by
    rw [hfreq.rd_eq (by simp [freqFields]), hact.rd_eq (by simp [actFields]), h.within.rd_eq (by simp), hthr]
  have hlast : Within 0 (freqFields n) (pinActOk n u) (pinPhase n (pinFreq n (pinActOk n u))) := hfreq.trans (within_pinPhase hthr') (by simp)
  obtain ⟨hskipF, hgoodF⟩ := sameCounts_pinFreq hn (pinActOk n u)
  obtain ⟨hskipP, hgoodP⟩ := sameCounts_pinPhase hn hthr'
  refine ⟨?_, ?_, fun hwas hok => ?_, ?_, ?_, ?_⟩
  · rw [hlast.rd_eq (by simp [freqFields]), hact.rd_eq (by simp [actFields]), h.bucket]
  · rw [hlast.rd_eq (by simp [freqFields]), rd_pinActOk_ok, h.actOk_eq]
  · rw [hlast.rd_eq (by simp [freqFields])]
    refine rd_pinActOk_fail ((h.within.rd_eq (by simp)).trans hwas) ?_
    rw [← h.actOk_eq] at hok
    cases hb : actOk u n
    · rfl
    · rw [hb] at hok
      exact absurd hok (by decide)
  · rw [hgoodP, hgoodF, pinActOk_pin, h.pin]
  · rw [hskipP, hskipF, pinActOk_pin, h.pin]
  · have hall : Within 0 (edgeFields n) s u := (within_self _ s).trans h.within (by simp [edgeFields])
    exact (hall.trans hact (by simp [edgeFields, actFields])).trans hlast (by simp [edgeFields, freqFields])

/-! ### The commands -/

theorem exec_referenceEdge (dt n : Nat) (leg rise : Bool) (s : State) : exec (.referenceEdge dt ⟨n, leg, rise⟩) s =
    done s (whenB (n < 16 && live s 4 && !ballOff s (inBall n)) (legEdge n leg rise) (pass dt s)) := (rfl)

/-- an edge that a leg, a polarity or a disabled ball keeps from being a reference edge -/
theorem completes_referenceEdge_other {dt n : Nat} {leg rise : Bool} {s : State} (hb : Between s)
    (h : edgeSelected s n leg rise = false ∨ ballOff s (inBall n) = true) :
    Completes (.referenceEdge dt ⟨n, leg, rise⟩) s (fun t => t.pin = s.pin ∧ t.now = s.now + dt ∧ RegsBut [] s t ∧ StoresSame s t) := by
  have hw := within_pass dt [] s
  refine hw.completes ?_ hb ⟨by simp, hw.now, hw.regs, hw.storesSame⟩
  rw [exec_referenceEdge]
  rcases h with h | h
  · rw [whenB, legEdge_other (by simpa using h), ite_self]
  · simp [h]

section
variable {dt n : Nat} {leg rise : Bool} {s : State} (hb : Between s) (hn : n < 16) (hrun : (ix s.pin n).run = true) (hlive : live s 4 = true)
  (hball : ballOff s (inBall n) = false) (hsel : edgeSelected s n leg rise = true)
include hn hrun hlive hball hsel

theorem brings_referenceEdge_divided (hskip : (ix s.pin n).skip = 0) :
    Brings (.referenceEdge dt ⟨n, leg, rise⟩) s (todPulse n (slotEval n (intervalBegun n (monitored n (edgeAt dt n s))))) := by
  have h := legEdge_divided (leg := leg) (rise := rise) (s := pass dt s) (by simpa using hrun) (by simpa using hsel) (by simpa using hskip)
  rw [pinEdge_eq] at h
  change exec _ s = done s _
  rw [exec_referenceEdge, edgeAt, ← h]
  simp [hn, hlive, hball]

include hb

/-- a reference edge that is no divided edge -/
theorem completes_referenceEdge_counted (hskip : 0 < (ix s.pin n).skip) :
    Completes (.referenceEdge dt ⟨n, leg, rise⟩) s (fun t =>
      ix t.pin n = { ix s.pin n with skip := (ix s.pin n).skip - 1 } ∧ t.now = s.now + dt ∧ RegsBut [] s t ∧ StoresSame s t) := by
  have hw := (within_pass dt [] s).modPin n (fun x => { x with skip := x.skip - 1 })
  refine hw.completes ?_ hb ⟨?_, hw.now, hw.regs, hw.storesSame⟩
  · rw [exec_referenceEdge, ← legEdge_counted (leg := leg) (rise := rise) (by simpa using hrun) (by simpa using hsel) (by simpa using hskip)]
    simp [hn, hlive, hball]
  · rw [modPin_pin, ix_upd_same _ _ hn, pass_pin]

/-- a divided edge -/
theorem leads_referenceEdge_divided (hskip : (ix s.pin n).skip = 0) (hthr : rd s (REF_INn_PH_THR n) = 0) (hset : rd s (REF_INn_ACT_SET n) < 256)
    (hold : rd s (REF_INn_STAT_BUCKET n) < 256) {l : Nat} (hl : (ix s.pin n).last = some l) :
    Leads (.referenceEdge dt ⟨n, leg, rise⟩) s (fun u => todPulse n (slotEval n u)) (fun u =>
      rd u (REF_INn_STAT_BUCKET n) = bucketAfter (edgeAt dt n s) n l
      ∧ rd u (REF_INn_STAT_ACT_OK n) = actOkValue s n (speedAfter (edgeAt dt n s) n l) (bucketAfter (edgeAt dt n s) n l)
      ∧ (ix u.pin n).good = goodAfter (edgeAt dt n s) n l
      ∧ (ix u.pin n).skip = rd s (REF_INn_CFG_DIV n) ∧ (ix u.pin n).last = some (s.now + dt) ∧ (ix u.pin n).miss = s.now + dt + pinLong s n
      ∧ (rd s (REF_INn_STAT_ACT_OK n) = 1 → actOkValue s n (speedAfter (edgeAt dt n s) n l) (bucketAfter (edgeAt dt n s) n l) = 0 →
          rd u (REF_INn_STAT_ACT_FAIL n) = 1)
      ∧ u.now = s.now + dt ∧ u.flt.raised = [] ∧ RegsBut (edgeFields n) s u ∧ StoresSame s u) := by
  have hrd (f : Fld) : rd (edgeAt dt n s) f = rd s f := rd_edgeAt dt n s f
  have hc := counted_pinInterval hn (by rwa [hrd]) (by rwa [hrd]) ((congrArg PinS.last (edgeAt_pin dt hn s)).trans hl)
  have hm : Monitored n (edgeAt dt n s) (monitored n (edgeAt dt n s)) _ _ _ := monitored_of_counted hn (by rwa [hrd]) hc
  have hw : Within dt (edgeFields n) s (monitored n (edgeAt dt n s)) := (within_edgeAt dt n _ s).trans hm.within fun _ h => h
  have hwu : Within dt (edgeFields n) s (intervalBegun n (monitored n (edgeAt dt n s))) := hw.modPin n _
  have hok := actOkValue_edgeAt dt n s
  have hlong : pinLong (monitored n (edgeAt dt n s)) n = pinLong s n :=
    pinLong_congr (hw.rd_eq (by simp [edgeFields])) (hw.rd_eq (by simp [edgeFields]))
  have hpinU : ix (intervalBegun n (monitored n (edgeAt dt n s))).pin n =
      { ix (monitored n (edgeAt dt n s)).pin n with last := some (s.now + dt), miss := s.now + dt + pinLong s n } := by
    rw [intervalBegun, modPin_pin, ix_upd_same _ _ hn, hlong, hw.now]
  refine ⟨_, brings_referenceEdge_divided hn hrun hlive hball hsel hskip, hm.bucket, hm.ok.trans (by rw [hok]), ?_, ?_, ?_, ?_, ?_, hwu.now, hwu.raised hb, hwu.regs, hwu.storesSame⟩
  · rw [hpinU, ← hm.good]
  · rw [hpinU, ← edgeAt_skip dt hn s, ← hm.skip]
  · rw [hpinU]
  · rw [hpinU]
  · exact fun hwas hzero => hm.fail ((hrd _).trans hwas) (by rwa [hok])

end

/-! ### Missing edges (R100) -/

section
variable {n : Nat} {s : State}

/-- one missing-edge event has been counted and judged -/
def missCounted (n : Nat) (s : State) : State := pinActOk n (pinEvents n 1 s)

/-- the next missing-edge instant of input n lies one period later -/
def missBegun (n : Nat) (s : State) : State := modPin n (fun x => { x with miss := x.miss + pinT s n }) s

/-- a missing-edge instant of a running input that has had an edge -/
theorem missingEdge_running (hrun : (ix s.pin n).run = true) (hlast : (ix s.pin n).last ≠ none) :
    missingEdge n s = slotEval n (missBegun n (missCounted n (advanceTo (ix s.pin n).miss s))) := by
  have h : ((ix s.pin n).run && (ix s.pin n).last.isSome) = true := by simpa [Option.isSome_iff_ne_none] using ⟨hrun, hlast⟩
  have h' : ((ix (advanceTo (ix s.pin n).miss s).pin n).run && (ix (advanceTo (ix s.pin n).miss s).pin n).last.isSome) = true := by simpa using h
  rw [missingEdge, if_pos h, pinMiss, if_pos h']
  rfl

theorem exec_missingEdge (n : Nat) (s : State) : exec (.missingEdge n) s = done s (whenB (n < 16) (missingEdge n) s) := (rfl)

/-- a missing edge adds 1 to BUCKET, ends the row of good intervals, and ACT_OK is judged -/
theorem leads_missingEdge (hb : Between s) (hn : n < 16) (hrun : (ix s.pin n).run = true) (hlast : (ix s.pin n).last ≠ none)
    (hset : rd s (REF_INn_ACT_SET n) < 256) :
    Leads (.missingEdge n) s (slotEval n) (fun u =>
      rd u (REF_INn_STAT_BUCKET n) = min (rd s (REF_INn_ACT_SET n)) (rd s (REF_INn_STAT_BUCKET n) + 1)
      ∧ rd u (REF_INn_STAT_ACT_OK n) = actOkValue s n (decide (rd s (REF_INn_STAT_OVERSPEED n) = 1))
          (min (rd s (REF_INn_ACT_SET n)) (rd s (REF_INn_STAT_BUCKET n) + 1))
      ∧ (ix u.pin n).good = 0 ∧ (ix u.pin n).miss = (ix s.pin n).miss + pinT s n ∧ u.now = max s.now (ix s.pin n).miss ∧ u.flt.raised = []
      ∧ RegsBut [REF_INn_STAT_BUCKET n, REF_INn_STAT_ACT_OK n, REF_INn_STAT_ACT_FAIL n] s u ∧ StoresSame s u) := by
  have hz := counted_self n (advanceTo (ix s.pin n).miss s)
  rw [rd_advanceTo, rd_advanceTo, advanceTo_pin] at hz
  have hc := hz.events hn (by simpa using hset) 1
  have hact := within_pinActOk n (pinEvents n 1 (advanceTo (ix s.pin n).miss s))
  have hw := ((within_advanceTo (ix s.pin n).miss [REF_INn_STAT_BUCKET n, REF_INn_STAT_ACT_OK n, REF_INn_STAT_ACT_FAIL n] s).trans
    (within_pinEvents n 1 _) (by simp)).trans hact (by simp [actFields])
  have hT : pinT (missCounted n (advanceTo (ix s.pin n).miss s)) n = pinT s n := pinT_congr (hw.rd_eq (by simp))
  have hwu : Within _ _ s (missBegun n (missCounted n (advanceTo (ix s.pin n).miss s))) := hw.modPin n _
  have hpin : ix (missBegun n (missCounted n (advanceTo (ix s.pin n).miss s))).pin n =
      { ix s.pin n with good := 0, miss := (ix s.pin n).miss + pinT s n } := by
    rw [missBegun, modPin_pin, ix_upd_same _ _ hn, hT, missCounted, pinActOk_pin, hc.pin, advanceTo_pin]
  refine ⟨_, ?_, ?_, ?_, by rw [hpin], by rw [hpin], by rw [hwu.now]; omega, hwu.raised hb, hwu.regs, hwu.storesSame⟩
  · change exec _ s = done s _
    rw [exec_missingEdge, whenB_pos (decide_eq_true hn), missingEdge_running hrun hlast]
  · rw [missBegun, rd_modPin, missCounted, hact.rd_eq (by simp [actFields]), hc.bucket, rd_advanceTo]
  · rw [missBegun, rd_modPin, missCounted, rd_pinActOk_ok, hc.actOk_eq]
    simp [actOkValue]

end

/-! ### The obligation on the monitors -/

section
variable {n l : Nat} (dt : Nat) (hn : n < 16) (s : State)
include hn

/-- the missing edges due before the divided edge -/
theorem pinMissed_edgeAt (hl : (ix s.pin n).last = some l) : pinMissed (edgeAt dt n s) n =
    if (ix s.pin n).miss < s.now + dt then 1 + (s.now + dt - (ix s.pin n).miss - 1) / pinT s n else 0 := by
  simp only [pinMissed, edgeAt_pin dt hn, edgeAt_now, hl, pinT_congr (rd_edgeAt dt n s _), Option.isSome_some, Bool.true_and, decide_eq_true_eq]

/-- BUCKET after the divided edge, from what stands before the command -/
theorem bucketAfter_edgeAt (hl : (ix s.pin n).last = some l) : bucketAfter (edgeAt dt n s) n l =
    if (s.now + dt - l) * rd s (REF_INn_NOM_NOM n) * 256 < (256 - rd s (REF_INn_ACT_TOL n)) * 64 * secU then
      min (rd s (REF_INn_ACT_SET n)) (rd s (REF_INn_STAT_BUCKET n) + 1)
    else if (s.now + dt - l) * rd s (REF_INn_NOM_NOM n) * 256 ≤ (256 + rd s (REF_INn_ACT_TOL n)) * 64 * secU then
      (if ((ix s.pin n).good + 1) % (if rd s (REF_INn_ACT_LEAK n) = 0 then 1 else rd s (REF_INn_ACT_LEAK n)) = 0 then
        rd s (REF_INn_STAT_BUCKET n) - 1 else rd s (REF_INn_STAT_BUCKET n))
    else min (rd s (REF_INn_ACT_SET n)) (rd s (REF_INn_STAT_BUCKET n)
      + if (ix s.pin n).miss < s.now + dt then 1 + (s.now + dt - (ix s.pin n).miss - 1) / pinT s n else 0) := by
  simp only [bucketAfter, intervalUnits, edgeAt_now, rd_edgeAt, edgeAt_pin dt hn, pinMissed_edgeAt dt hn s hl, orElse0]

theorem goodAfter_edgeAt : goodAfter (edgeAt dt n s) n l =
    if (s.now + dt - l) * rd s (REF_INn_NOM_NOM n) * 256 < (256 - rd s (REF_INn_ACT_TOL n)) * 64 * secU then 0
    else if (s.now + dt - l) * rd s (REF_INn_NOM_NOM n) * 256 ≤ (256 + rd s (REF_INn_ACT_TOL n)) * 64 * secU then (ix s.pin n).good + 1 else 0 := by
  simp only [goodAfter, intervalUnits, edgeAt_now, rd_edgeAt, edgeAt_pin dt hn]

end

theorem speedAfter_edgeAt (dt n l : Nat) (s : State) : speedAfter (edgeAt dt n s) n l =
    (decide (s.now + dt - l < 10 * nsU) || decide (rd s (REF_INn_STAT_OVERSPEED n) = 1)) := by
  rw [speedAfter, edgeAt_now, rd_edgeAt]

/-- Settles O25: an edge is none of the input's, only counted, or a divided edge, which counts the interval it closes, judges ACT_OK and
goes through the frequency and the phase monitor, each within fields of its own. -/
theorem inputMonitorsClassifyEveryInterval : Obligations.InputMonitorsClassifyEveryInterval := by
  unfold Obligations.InputMonitorsClassifyEveryInterval
  intro dt n leg rise s hb hn hrun x taken set old ok regs hset hold
  refine ⟨fun hno => completes_referenceEdge_other hb ?_, fun hlive ⟨hleg, hpol, hball⟩ hskip => ?_,
    fun hlive ⟨hleg, hpol, hball⟩ hskip hthr l hl => ?_, fun hlast => leads_missingEdge hb hn hrun hlast hset⟩
  · by_contra h
    simp only [not_or, Bool.not_eq_false, Bool.not_eq_true] at h
    obtain ⟨hleg, hpol⟩ := (edgeSelected_iff s n leg rise).1 h.1
    exact hno ⟨hleg, hpol, h.2⟩
  · exact completes_referenceEdge_counted hb hn hrun hlive hball ((edgeSelected_iff s n leg rise).2 ⟨hleg, hpol⟩) hskip
  · have h := leads_referenceEdge_divided (dt := dt) hb hn hrun hlive hball ((edgeSelected_iff s n leg rise).2 ⟨hleg, hpol⟩) hskip hthr hset hold hl
    rw [bucketAfter_edgeAt dt hn s hl, goodAfter_edgeAt dt hn s, speedAfter_edgeAt] at h
    exact h

/-! ### Qualification of a slot (R119) -/

/-- slot i is QUALIFIED and its time no longer runs -/
def qualified (i : Nat) (s : State) : State := modSlot i (fun x => { x with qualEnd := none }) (put (REF_SLOTs_STAT_STATE i) 2 s)

theorem slotQualify_may {i : Nat} {s : State} (hst : rd s (REF_SLOTs_STAT_STATE i) = 1) (hmay : slotMay s i = true) :
    slotQualify i s = slotPublish i 1 (effQl s i) (qualified i s) := by
  simp only [slotQualify, hst, hmay, decide_true, Bool.and_self, if_true]
  rfl

theorem exec_qualificationComplete (i : Nat) (s : State) : exec (.qualificationComplete i) s = done s (whenB (i < 32) (qualifyAtEnd i) s) := (rfl)

/-- the time of a qualifying slot that may qualify ends -/
theorem leads_qualificationComplete {i t : Nat} {s : State} (hb : Between s) (hi : i < 32) (ht : (ix s.slot i).qualEnd = some t)
    (hst : rd s (REF_SLOTs_STAT_STATE i) = 1) (hmay : slotMay (advanceTo t s) i = true) :
    Leads (.qualificationComplete i) s (slotPublish i 1 (effQl (advanceTo t s) i)) (fun u =>
      rd u (REF_SLOTs_STAT_STATE i) = 2 ∧ (ix u.slot i).qualEnd = none ∧ u.now = max s.now t ∧ u.flt.raised = []
      ∧ RegsBut [REF_SLOTs_STAT_STATE i] s u ∧ StoresSame s u) := by
  have hw : Within _ _ s (qualified i (advanceTo t s)) := ((within_advanceTo t [REF_SLOTs_STAT_STATE i] s).put (List.mem_singleton_self _) 2).modSlot i _
  refine ⟨_, ?_, by simp [qualified], ?_, by rw [hw.now]; omega, hw.raised hb, hw.regs, hw.storesSame⟩
  · change exec _ s = done s _
    rw [exec_qualificationComplete, whenB_pos (decide_eq_true hi), qualifyAtEnd, ht]
    exact congrArg (done s) (slotQualify_may (by simpa using hst) hmay)
  · rw [qualified, modSlot_slot, ix_upd_same _ _ hi]

/-! ### Sentences and label timeouts (R111, R112, R113) -/

@[simp] theorem live_pass (dt : Nat) (s : State) (b : Nat) : live (pass dt s) b = live s b := by
  simp [live, seqHeld, inSequence, inReset]

/-- the sentence is kept with what stood before it for its core cycle (R127) -/
def sentenceKept (k : Nat) (bytes : List Byte) (s : State) : State :=
  { s with todWas := vset s.todWas k (some { cyc := cycleNow s, bytes := bytes, was := ix s.todr k }) }

/-- the state in which a sentence acts, dt later -/
def sentenceAt (dt k : Nat) (bytes : List Byte) (s : State) : State := sentenceKept k bytes (pass dt s)

@[simp] theorem rd_sentenceAt (dt k : Nat) (bytes : List Byte) (s : State) (f : Fld) : rd (sentenceAt dt k bytes s) f = rd s f := rd_pass dt s f

@[simp] theorem sentenceAt_todr (dt k : Nat) (bytes : List Byte) (s : State) : (sentenceAt dt k bytes s).todr = s.todr := pass_todr dt s

@[simp] theorem sentenceAt_img (dt k : Nat) (bytes : List Byte) (s : State) : (sentenceAt dt k bytes s).img = s.img := pass_img dt s

@[simp] theorem sentenceAt_now (dt k : Nat) (bytes : List Byte) (s : State) : (sentenceAt dt k bytes s).now = s.now + dt := pass_now dt s

theorem within_sentenceAt (dt k : Nat) (bytes : List Byte) (l : List Fld) (s : State) : Within dt l s (sentenceAt dt k bytes s) := by
  obtain ⟨hnow, hregs, hkept, hquiet⟩ := within_pass dt l s
  exact ⟨hnow, hregs, ⟨hkept.pending, hkept.mram, hkept.mramJ, hkept.cram, hkept.otp⟩, hquiet⟩

/-- a label timeout of a later core cycle leaves the receiver as it is -/
theorem labelDue_later {k : Nat} {s : State} (h : ∀ t, (ix s.todr k).labelEnd = some t → cycleOf s.now < cycleOf t) : labelDue k s = s := by
  unfold labelDue
  split
  case h_1 t ht => exact if_neg (Nat.not_le.2 (h t ht))
  case h_2 => rfl

section
variable {k : Nat} {bytes : List Byte} {s : State}

/-- the slot of receiver k is judged -/
def receiverJudged (k : Nat) (s : State) : State := slotEval (tabGet s.img.routes (0x120 + k) 255) s

theorem sentenceIn_rejected (hdue : labelDue k s = s) (hp : parseNmea bytes = none) :
    sentenceIn k bytes s = receiverJudged k (bump (REF_TODk_STAT_ERRCNT k) s) := by
  simp only [sentenceIn, hdue, hp]
  rfl

theorem sentenceIn_zda {l : Nat} (hdue : labelDue k s = s) (hp : parseNmea bytes = some (.zda l)) (hsrc : rd s (REF_TODk_CFG_SRC k) = 1) :
    sentenceIn k bytes s = receiverJudged k (giveLabel k l (modTodr k (fun x => { x with zda := some l }) s)) := by
  simp [sentenceIn, hdue, hp, hsrc, receiverJudged]

theorem sentenceIn_rmc {l fix : Nat} (hdue : labelDue k s = s) (hp : parseNmea bytes = some (.rmc l fix)) (hsrc : rd s (REF_TODk_CFG_SRC k) = 2) :
    sentenceIn k bytes s =
      receiverJudged k (giveLabel k l (put (REF_TODk_STAT_FIX k) fix (modTodr k (fun x => { x with rmc := some l }) s))) := by
  simp [sentenceIn, hdue, hp, hsrc, receiverJudged]

end

theorem exec_nmeaSentence (dt k : Nat) (bytes : List Byte) (s : State) :
    exec (.nmeaSentence dt k bytes) s = done s (whenB (k < 2 && !ballOff s (todRxBall k)) (nmeaIn k bytes) (pass dt s)) := (rfl)

section
variable {dt k : Nat} {bytes : List Byte} {s : State} (hb : Between s) (hk : k < 2) (hball : ballOff s (todRxBall k) = false)
  (hdue : ∀ t, (ix s.todr k).labelEnd = some t → cycleOf (s.now + dt) < cycleOf t) (hen : rd s (REF_TODk_CFG_EN k) = 1)
  (herr : rd s (REF_TODk_STAT_CFG_ERR k) = 0) (hlive : live s 4 = true)

include hk hball hen herr hlive in
/-- a complete sentence reaches a receiver that is on -/
theorem exec_nmeaSentence_on : exec (.nmeaSentence dt k bytes) s = done s (sentenceIn k bytes (sentenceAt dt k bytes s)) := by
  have hcond : (!on (pass dt s) (REF_TODk_CFG_EN k) || on (pass dt s) (REF_TODk_STAT_CFG_ERR k) || !live (pass dt s) 4) = false := by
    simp [on, hen, herr, hlive]
  rw [exec_nmeaSentence, whenB_pos (by simp [hk, hball]), nmeaIn, hcond]
  rfl

include hdue in
theorem labelDue_sentenceAt : labelDue k (sentenceAt dt k bytes s) = sentenceAt dt k bytes s := labelDue_later (by simpa using hdue)

include hb hk hball hdue hen herr hlive

/-- a rejected sentence only counts -/
theorem leads_nmeaSentence_rejected (hp : parseNmea bytes = none) :
    Leads (.nmeaSentence dt k bytes) s (slotEval (tabGet s.img.routes (0x120 + k) 255)) (fun u =>
      rd u (REF_TODk_STAT_ERRCNT k) = (if rd s (REF_TODk_STAT_ERRCNT k) < 255 then rd s (REF_TODk_STAT_ERRCNT k) + 1 else 255)
      ∧ u.now = s.now + dt ∧ u.flt.raised = [] ∧ RegsBut [REF_TODk_STAT_ERRCNT k] s u ∧ StoresSame s u) := by
  have hw : Within dt [REF_TODk_STAT_ERRCNT k] s (bump (REF_TODk_STAT_ERRCNT k) (sentenceAt dt k bytes s)) :=
    ((within_sentenceAt dt k bytes _ s).put (List.mem_singleton_self _) _).cycMark _ _
  refine ⟨_, ?_, ?_, hw.now, hw.raised hb, hw.regs, hw.storesSame⟩
  · change exec _ s = done s _
    rw [exec_nmeaSentence_on hk hball hen herr hlive, sentenceIn_rejected (labelDue_sentenceAt hdue) hp]
    simp [receiverJudged]
  · simp only [bump_eq, rd_cycMark, rd_put_same, rd_sentenceAt, width_REF_TODk_STAT_ERRCNT]
    split <;> omega

/-- a ZDA of the source in use is kept and gives its label -/
theorem leads_nmeaSentence_zda {l : Nat} (hp : parseNmea bytes = some (.zda l)) (hsrc : rd s (REF_TODk_CFG_SRC k) = 1) :
    Leads (.nmeaSentence dt k bytes) s (fun u => receiverJudged k (giveLabel k l u)) (fun u =>
      (ix u.todr k).zda = some l ∧ u.now = s.now + dt ∧ u.flt.raised = [] ∧ RegsBut [] s u ∧ StoresSame s u) := by
  have hw := (within_sentenceAt dt k bytes [] s).modTodr k (fun x => { x with zda := some l })
  refine ⟨_, ?_, ?_, hw.now, hw.raised hb, hw.regs, hw.storesSame⟩
  · change exec _ s = done s _
    rw [exec_nmeaSentence_on hk hball hen herr hlive, sentenceIn_zda (labelDue_sentenceAt hdue) hp (by simpa using hsrc)]
  · rw [modTodr_todr, ix_upd_same _ _ hk]

/-- an RMC of the source in use is kept with its FIX code and gives its label -/
theorem leads_nmeaSentence_rmc {l fix : Nat} (hp : parseNmea bytes = some (.rmc l fix)) (hsrc : rd s (REF_TODk_CFG_SRC k) = 2) (hfix : fix < 16) :
    Leads (.nmeaSentence dt k bytes) s (fun u => receiverJudged k (giveLabel k l u)) (fun u =>
      (ix u.todr k).rmc = some l ∧ rd u (REF_TODk_STAT_FIX k) = fix ∧ u.now = s.now + dt ∧ u.flt.raised = []
      ∧ RegsBut [REF_TODk_STAT_FIX k] s u ∧ StoresSame s u) := by
  have hw := ((within_sentenceAt dt k bytes [REF_TODk_STAT_FIX k] s).modTodr k (fun x => { x with rmc := some l })).put
    (List.mem_singleton_self _) fix
  refine ⟨_, ?_, ?_, ?_, hw.now, hw.raised hb, hw.regs, hw.storesSame⟩
  · change exec _ s = done s _
    rw [exec_nmeaSentence_on hk hball hen herr hlive, sentenceIn_rmc (labelDue_sentenceAt hdue) hp (by simpa using hsrc)]
  · rw [put_todr, modTodr_todr, ix_upd_same _ _ hk]
  · simp [Nat.mod_eq_of_lt hfix]

end

theorem exec_labelTimeout (k : Nat) (s : State) : exec (.labelTimeout k) s = done s (whenB (k < 2) (labelLost k) s) := (rfl)

/-- a label timeout clears LBL_VALID and CONSEC -/
theorem leads_labelTimeout {k t : Nat} {s : State} (hb : Between s) (hk : k < 2) (ht : (ix s.todr k).labelEnd = some t) :
    Leads (.labelTimeout k) s (slotEval (tabGet s.img.routes (0x120 + k) 255)) (fun u =>
      rd u (REF_TODk_STAT_LBL_VALID k) = 0 ∧ rd u (REF_TODk_STAT_CONSEC k) = 0 ∧ (ix u.todr k).labelEnd = none ∧ u.now = max s.now t
      ∧ u.flt.raised = [] ∧ RegsBut [REF_TODk_STAT_LBL_VALID k, REF_TODk_STAT_CONSEC k] s u ∧ StoresSame s u) := by
  have hw : Within _ _ s (labelOut k (advanceTo t s)) :=
    (((within_advanceTo t [REF_TODk_STAT_LBL_VALID k, REF_TODk_STAT_CONSEC k] s).put (by simp) 0).put (by simp) 0).modTodr k _
  refine ⟨_, ?_, by simp [labelOut, rd_put_ne], by simp [labelOut], ?_, by rw [hw.now]; omega, hw.raised hb, hw.regs, hw.storesSame⟩
  · change exec _ s = done s _
    rw [exec_labelTimeout, whenB_pos (decide_eq_true hk), labelLost, ht]
    simp [labelOut]
  · rw [labelOut, modTodr_todr, ix_upd_same _ _ hk]

/-- Settles O26: the end of a qualification, a sentence by what R111 makes of it, and a label timeout, each by its one update before the slot
is judged. -/
theorem slotsQualifyAndLabelsAreRead : Obligations.SlotsQualifyAndLabelsAreRead := by
  unfold Obligations.SlotsQualifyAndLabelsAreRead
  intro dt i k bytes s hb r
  exact ⟨fun t => leads_qualificationComplete hb, fun hk hball hdue hen herr hlive =>
      ⟨leads_nmeaSentence_rejected hb hk hball hdue hen herr hlive, fun l => leads_nmeaSentence_zda hb hk hball hdue hen herr hlive,
        fun l fix => leads_nmeaSentence_rmc hb hk hball hdue hen herr hlive⟩,
    fun t hk => leads_labelTimeout hb hk⟩

end Sys2Proof.ReferenceInputs

/-! Postmark units (O27, O28, O29, O60): the edges of a unit of one slice through its prescaler and its slice into the stamp queue and the
pairing, and the windows of a pair. -/

namespace Sys2Proof.Clocks.Kept
open Sys2Proof.Machine Sys2Proof.Reg
variable {s u : State}

theorem modUnit (h : Kept s u) (b : Nat) (f : UnitS → UnitS) : Kept s (modUnit b f u) := ⟨h.pending, h.mram, h.mramJ, h.cram, h.otp⟩

theorem modSlice (h : Kept s u) (n : Nat) (f : SliceS → SliceS) : Kept s (modSlice n f u) := ⟨h.pending, h.mram, h.mramJ, h.cram, h.otp⟩

end Sys2Proof.Clocks.Kept

namespace Sys2Proof.Modes.Within
open Sys2Proof.Machine Sys2Proof.Reg Sys2Proof.Safety Sys2Proof.Clocks
variable {dt : Nat} {l : List Fld} {s u : State}

theorem modUnit (h : Within dt l s u) (b : Nat) (f : UnitS → UnitS) : Within dt l s (modUnit b f u) := ⟨h.now, h.regs, h.kept.modUnit b f, h.quiet⟩

theorem modSlice (h : Within dt l s u) (n : Nat) (f : SliceS → SliceS) : Within dt l s (modSlice n f u) :=
  ⟨h.now, h.regs, h.kept.modSlice n f, h.quiet⟩

theorem bump (h : Within dt l s u) {f : Fld} (hf : f ∈ l) : Within dt l s (bump f u) := (h.put hf _).cycMark f _

end Sys2Proof.Modes.Within

namespace Sys2Proof.PostmarkUnits
open Sys2Proof.Machine Sys2Proof.Reg Sys2Proof.Safety Sys2Proof.Clocks Sys2Proof.Modes

/-! ### Record queues (R36, R37, R42, R153) -/

section
variable {α : Type} {k : RecKind α} {a : α} {q : Queue α}

/-- the queue with a record accepted at its tail -/
def joined (k : RecKind α) (cy : Nat) (a : α) (q : Queue α) : Queue α :=
  { recs := q.recs ++ [k.fin q.seq q.loss a], seq := (q.seq + 1) % 65536, loss := false, last := max q.last (k.time a), cyc := cy, cycN := qFresh cy q + 1 }

/-- a record that leaves before none of the younger ones goes to their front -/
theorem qMerge_front {l : List α} (h : ∀ p, l.head? = some p → k.before a p = false) (n : Nat) : qMerge k a n l = a :: l := by
  cases n with
  | zero => rfl
  | succ n =>
    cases l with
    | nil => rfl
    | cons p r => simp [qMerge, h p rfl]

/-- a record neither too early nor too many, which leaves before no earlier one, joins the tail -/
theorem qPut_joins {cap : Nat} (cy : Nat) (hlast : q.last ≤ k.time a) (hroom : q.recs.length < cap)
    (horder : ∀ p, q.recs.getLast? = some p → k.before (k.fin q.seq q.loss a) p = false) : qPut k cap cy a q = (joined k cy a q, 0, false) := by
  have hmerge : ∀ n, qMerge k (k.fin q.seq q.loss a) n q.recs.reverse = k.fin q.seq q.loss a :: q.recs.reverse :=
    qMerge_front fun p hp => horder p (by rwa [List.head?_reverse] at hp)
  rw [qPut, if_neg (Nat.not_lt.2 hlast), if_neg (Nat.not_le.2 hroom), qAccept, hmerge]
  simp [joined]

end

/-! ### What passing time leaves of a unit -/

section
variable (dt b : Nat) (s : State)

@[simp] theorem unitSize_pass : unitSize (pass dt s) b = unitSize s b := by simp [unitSize]
@[simp] theorem unitMode_pass : unitMode (pass dt s) b = unitMode s b := by simp [unitMode]
@[simp] theorem unitState_pass : unitState (pass dt s) b = unitState s b := by simp [unitState]
@[simp] theorem startRoute_pass : startRoute (pass dt s) b = startRoute s b := by simp [startRoute]
@[simp] theorem stopRoute_pass : stopRoute (pass dt s) b = stopRoute s b := by simp [stopRoute]
@[simp] theorem routeOff_pass (r : Nat) : routeOff (pass dt s) r = routeOff s r := by simp [routeOff, ballOff, ballCode]
@[simp] theorem wPost_pass : wPost (pass dt s) b = wPost s b := by simp [wPost]
@[simp] theorem timeDpll_pass : timeDpll (pass dt s) = timeDpll s := by simp [timeDpll]
@[simp] theorem dpllState_pass (d : Nat) : dpllState (pass dt s) d = dpllState s d := by simp [dpllState]
@[simp] theorem sliceFree_pass (t : Nat) : sliceFree (pass dt s) b t = sliceFree s b t := by simp [sliceFree]
@[simp] theorem edgeTaken_pass (r : Nat) (stop : Bool) (e : InEdge) : edgeTaken (pass dt s) b r stop e = edgeTaken s b r stop e := by
  simp [edgeTaken, on]

end

/-! ### An edge and the prescaler (R95, R139) -/

/-- the route of the start or the stop input of unit b -/
def inputRoute (s : State) (b : Nat) (stop : Bool) : Nat := if stop then stopRoute s b else startRoute s b

/-- the edges its prescaler has seen since the last it passed -/
def inputCount (s : State) (b : Nat) (stop : Bool) : Nat := if stop then (ix s.unit b).cntP else (ix s.unit b).cntS

/-- the edge comes over a route in use, of the polarity that the input takes -/
def Seen (s : State) (b : Nat) (stop : Bool) (e : InEdge) : Prop :=
  inputRoute s b stop ≠ 255 ∧ routeOff s (inputRoute s b stop) = false ∧ edgeTaken s b (inputRoute s b stop) stop e = true

/-- the prescaler has counted one edge more -/
def counted (b : Nat) (stop : Bool) (s : State) : State := (preCount b stop s).2

@[simp] theorem inputRoute_pass (dt b : Nat) (stop : Bool) (s : State) : inputRoute (pass dt s) b stop = inputRoute s b stop := by simp [inputRoute]
@[simp] theorem inputCount_pass (dt b : Nat) (stop : Bool) (s : State) : inputCount (pass dt s) b stop = inputCount s b stop := by simp [inputCount]

theorem seen_pass {dt b : Nat} {stop : Bool} {s : State} {e : InEdge} : Seen (pass dt s) b stop e ↔ Seen s b stop e := by simp [Seen]

theorem preCount_eq (b : Nat) (stop : Bool) (s : State) : preCount b stop s = (inputCount s b stop == 0, counted b stop s) := (rfl)

section
variable {b c : Nat} {stop rise : Bool} {s : State}

/-- an edge of the other polarity is not taken -/
theorem takeEdge_other {e : InEdge} (h : edgeTaken s b (inputRoute s b stop) stop e = false) : takeEdge b stop e s = ([], s) := by
  unfold takeEdge
  exact if_pos (by rw [inputRoute] at h; simp [h])

/-- an edge that is seen reaches the prescaler -/
theorem takeEdge_guard {e : InEdge} (h : Seen s b stop e) (hm : stop = false ∨ unitMode s b ≠ 2) :
    (decide (inputRoute s b stop = 255) || routeOff s (inputRoute s b stop) || !edgeTaken s b (inputRoute s b stop) stop e
      || (stop && unitMode s b == 2 && unitSize s b == 1)) = false := by
  obtain ⟨hroute, hoff, htaken⟩ := h
  rcases hm with rfl | hm
  · simp [hroute, hoff, htaken]
  · simp [hroute, hoff, htaken, hm]

/-- an edge that the prescaler keeps back only counts there -/
theorem takeEdge_kept_back {e : InEdge} (h : Seen s b stop e) (hm : stop = false ∨ unitMode s b ≠ 2) (hc : inputCount s b stop ≠ 0) :
    takeEdge b stop e s = ([], counted b stop s) := by
  unfold takeEdge
  dsimp only
  rw [preCount_eq]
  exact (if_neg (Bool.not_eq_true _ ▸ takeEdge_guard h hm)).trans (if_pos (by simp [hc]))

/-! ### Captures (R129, R130, R138) -/

/-- what becomes of an edge that slice b takes at tap c -/
def capture (b : Nat) (stop : Bool) (c : Nat) (s : State) : CapEv where
  stop := stop
  p := positionOf s b (c % 512) (coarseNow s)
  t := edgeTime s b (c % 512) (inputRoute s b stop) (coarseNow s)
  flags := (if sliceUncal s b then flUncal else 0) ||| unlockFlag s
    ||| (if rd s (if stop then PMU_PMn_CFG_PRE_P b else PMU_PMn_CFG_PRE_S b) = 0 then 0 else flPresc) ||| (if stop then 32 else 0)
  uncal := sliceUncal s b

/-- slice b has taken an edge now, and the next one goes to the other slice of its pair -/
def captured (b : Nat) (stop : Bool) (c : Nat) (s : State) : State :=
  modUnit b (fun u => if stop then { u with altP := !u.altP } else { u with altS := !u.altS })
    (modSlice b (fun x => { x with cap := some s.now, capT := edgeTime s b (c % 512) (inputRoute s b stop) (coarseNow s) }) (counted b stop s))

/-- an edge that slice b is blind to, at its uncalibrated position -/
def blind (stop : Bool) (c : Nat) (s : State) : CapEv where
  stop := stop
  p := uns 76 (((coarseNow s * pmU : Nat) : Int) - (2048 * (c % 512) + 1024 : Nat))
  lost := true

/-- a unit of one slice captures with it, once its dead time is over -/
theorem sliceFor_one (h : unitSize s b = 1) (stop : Bool) (t : Nat) : sliceFor s b stop t = if sliceFree s b t then some b else none := by
  simp [sliceFor, h]

/-- an edge that passes the prescaler of a unit of one slice is captured -/
theorem takeEdge_captured (h : Seen s b stop ⟨rise, c, 0⟩) (hm : stop = false ∨ unitMode s b ≠ 2) (hc : inputCount s b stop = 0)
    (hsize : unitSize s b = 1) (hfree : sliceFree s b s.now = true) :
    takeEdge b stop ⟨rise, c, 0⟩ s = ([capture b stop c s], captured b stop c s) := by
  have hslice : sliceFor (counted b stop s) b stop s.now = some b := (sliceFor_one (s := counted b stop s) hsize stop s.now).trans (if_pos hfree)
  unfold takeEdge
  dsimp only
  rw [preCount_eq]
  refine (if_neg (Bool.not_eq_true _ ▸ takeEdge_guard h hm)).trans ((if_neg (by simp [hc])).trans ?_)
  simp only [Nat.zero_mul, Nat.sub_zero]
  rw [show (counted b stop s).now = s.now from rfl, hslice]
  rfl

/-- within the dead time of the slice it is lost -/
theorem takeEdge_blind (h : Seen s b stop ⟨rise, c, 0⟩) (hm : stop = false ∨ unitMode s b ≠ 2) (hc : inputCount s b stop = 0)
    (hsize : unitSize s b = 1) (hfree : sliceFree s b s.now = false) :
    takeEdge b stop ⟨rise, c, 0⟩ s = ([blind stop c s], counted b stop s) := by
  have hslice : sliceFor (counted b stop s) b stop s.now = none :=
    (sliceFor_one (s := counted b stop s) hsize stop s.now).trans (if_neg (Bool.not_eq_true _ ▸ hfree))
  unfold takeEdge
  dsimp only
  rw [preCount_eq]
  refine (if_neg (Bool.not_eq_true _ ▸ takeEdge_guard h hm)).trans ((if_neg (by simp [hc])).trans ?_)
  simp only [Nat.zero_mul, Nat.sub_zero]
  rw [show (counted b stop s).now = s.now from rfl, hslice]
  rfl

@[simp] theorem rd_counted (b : Nat) (stop : Bool) (s : State) (f : Fld) : rd (counted b stop s) f = rd s f := (rfl)
@[simp] theorem unitMode_counted (b : Nat) (stop : Bool) (s : State) : unitMode (counted b stop s) b = unitMode s b := (rfl)
@[simp] theorem unitState_counted (b : Nat) (stop : Bool) (s : State) : unitState (counted b stop s) b = unitState s b := (rfl)
@[simp] theorem captured_now (b : Nat) (stop : Bool) (c : Nat) (s : State) : (captured b stop c s).now = s.now := (rfl)
@[simp] theorem cycleNow_captured (b : Nat) (stop : Bool) (c : Nat) (s : State) : cycleNow (captured b stop c s) = cycleNow s := by simp [cycleNow]
@[simp] theorem unitSize_captured (b : Nat) (stop : Bool) (c : Nat) (s : State) : unitSize (captured b stop c s) b = unitSize s b := (rfl)
@[simp] theorem unitMode_captured (b : Nat) (stop : Bool) (c : Nat) (s : State) : unitMode (captured b stop c s) b = unitMode s b := (rfl)
@[simp] theorem unitState_captured (b : Nat) (stop : Bool) (c : Nat) (s : State) : unitState (captured b stop c s) b = unitState s b := (rfl)
@[simp] theorem startRoute_captured (b : Nat) (stop : Bool) (c : Nat) (s : State) : startRoute (captured b stop c s) b = startRoute s b := (rfl)
@[simp] theorem wPost_captured (b : Nat) (stop : Bool) (c : Nat) (s : State) : wPost (captured b stop c s) b = wPost s b := (rfl)
@[simp] theorem rd_captured (b : Nat) (stop : Bool) (c : Nat) (s : State) (f : Fld) : rd (captured b stop c s) f = rd s f := (rfl)

/-- one edge in a reorder window: what the slices take of it is used at once -/
theorem unitEdges_one {e : InEdge} {s' : State} {l : List CapEv} (h : takeEdge b stop e s = (l, s')) (hl : l.length ≤ 1)
    (hsize : unitSize s b ≠ 0) (hrun : unitState s b ≠ 0) : unitEdges b [(stop, e)] s = forEach l (useCapture b) s' := by
  have horder : orderBy capBefore l = l := by
    match l, hl with
    | [], _ => rfl
    | [_], _ => rfl
  have harr : arrivals [(stop, e)] = [(stop, e)] := rfl
  simp only [unitEdges, hsize, hrun, decide_false, Bool.or_self, Bool.false_eq_true, if_false, harr, List.foldl_cons, List.foldl_nil, h,
    List.nil_append, horder]

/-- an edge that nothing is taken of changes nothing but what it counts -/
theorem unitEdges_none {e : InEdge} (h : takeEdge b stop e s = ([], s)) : unitEdges b [(stop, e)] s = s := by
  by_cases hrun : unitSize s b = 0 ∨ unitState s b = 0
  · exact if_pos (by simpa using hrun)
  · rw [not_or] at hrun
    exact unitEdges_one h (by simp) hrun.1 hrun.2

end

/-! ### Into the queues (R144, R147, R152) -/

section
variable {dt b : Nat} {l : List Fld} {s u : State}

theorem within_sqLevel (h : Within dt l s u) (hl : PMU_IRQ_SQT ∈ l) (b : Nat) : Within dt l s (sqLevel b u) := by
  unfold sqLevel
  exact (h.putBit hl b).ite h

@[simp] theorem sqLevel_unit (b : Nat) (s : State) : (sqLevel b s).unit = s.unit := by
  unfold sqLevel
  dsimp only
  split <;> rfl

@[simp] theorem sqLevel_slice (b : Nat) (s : State) : (sqLevel b s).slice = s.slice := by
  unfold sqLevel
  dsimp only
  split <;> rfl

/-- the postmark of an edge of unit b joins its stamp queue -/
def stamped (b t src flags : Nat) (s : State) : State :=
  modUnit b (fun u => { u with sq := joined stampKind (cycleNow s) (mkStamp t src flags) (ix s.unit b).sq }) s

/-- a result of unit b joins its result queue -/
def resultJoined (b : Nat) (x : Int) (flags : Nat) (s : State) : State :=
  modUnit b (fun u => { u with rq := joined resKind (cycleNow s) { interval := x, rflags := flags } (ix s.unit b).rq }) s

/-- what leaves last of a stamp queue does not depend on the flags and the number of the new stamp -/
theorem stampKind_before_fin (n : Nat) (loss : Bool) (t src flags flags' : Nat) (p : Postmark) :
    stampKind.before (stampKind.fin n loss (mkStamp t src flags)) p = stampKind.before (mkStamp t src flags') p := (rfl)

theorem sqPush_joins {t src flags : Nat} (hsize : unitSize s b = 1) (hlast : (ix s.unit b).sq.last ≤ t) (hroom : (ix s.unit b).sq.recs.length < 128)
    (horder : ∀ p, (ix s.unit b).sq.recs.getLast? = some p → stampKind.before (mkStamp t src 0) p = false) :
    sqPush b t src flags s = sqLevel b (stamped b t src flags s) := by
  unfold sqPush
  rw [hsize, qPut_joins (k := stampKind) (cycleNow s) hlast hroom
    (fun p hp => (stampKind_before_fin _ _ t src flags 0 p).trans (horder p hp))]
  rfl

theorem rqPush_joins {x : Int} {flags : Nat} (hsize : unitSize s b = 1) (hlast : (ix s.unit b).rq.last = 0) (hroom : (ix s.unit b).rq.recs.length < 32) :
    rqPush b x flags s = putBit PMU_IRQ_RES b (resultJoined b x flags s) := by
  unfold rqPush
  rw [hsize, qPut_joins (k := resKind) (cycleNow s) hlast.le hroom (fun _ _ => rfl)]
  rfl

/-- bits 1 to 4 of a stamp's flags show its four facts, bits 0 and 5 are 0 -/
theorem testBit_stampFlags (uncal unlock presc loss : Bool) : ∀ fl, fl = clrBit ((if uncal then 2 else 0) ||| (if unlock then 8 else 0) ||| (if presc then 16 else 0) ||| 0) 2 ||| (if loss then 4 else 0) →
    fl.testBit 1 = uncal ∧ fl.testBit 2 = loss ∧ fl.testBit 3 = unlock ∧ fl.testBit 4 = presc ∧ fl.testBit 0 = false ∧ fl.testBit 5 = false := by
  rintro _ rfl
  revert uncal unlock presc loss
  decide

end

/-! ### Edges in stamp mode -/

section
variable {dt b c : Nat} {stop rise : Bool} {s : State}

theorem within_counted {l : List Fld} (dt b : Nat) (stop : Bool) (s : State) : Within dt l s (counted b stop (pass dt s)) := (within_pass dt l s).modUnit b _

theorem within_captured {l : List Fld} (dt b : Nat) (stop : Bool) (c : Nat) (s : State) : Within dt l s (captured b stop c (pass dt s)) :=
  ((within_counted dt b stop s).modSlice b _).modUnit b _

theorem useCapture_stamps {x : CapEv} (hrun : unitState s b ≠ 0) (hlost : x.lost = false) (hstop : x.stop = false) (hmode : unitMode s b = 0) :
    useCapture b x s = sqPush b x.t (sourceId (startRoute s b)) x.flags s := by
  simp [useCapture, hrun, hlost, hstop, hmode]

theorem exec_edgeCapture_one (hlt : b < 12) (stop : Bool) (e : InEdge) (s : State) :
    exec (.edgeCapture dt b (if stop then [] else [e]) (if stop then [e] else [])) s = done s (unitEdges b [(stop, e)] (pass dt s)) := by
  cases stop <;> exact congrArg (done s) (whenB_pos (decide_eq_true hlt) _ _)

theorem counted_unit (hlt : b < 12) (stop : Bool) (s : State) : ix (counted b stop s).unit b =
    if stop then { ix s.unit b with cntP := ((ix s.unit b).cntP + 1) % 2 ^ rd s (PMU_PMn_CFG_PRE_P b) }
    else { ix s.unit b with cntS := ((ix s.unit b).cntS + 1) % 2 ^ rd s (PMU_PMn_CFG_PRE_S b) } := by
  cases stop <;> exact ix_upd_same _ _ hlt

theorem captured_unit (hlt : b < 12) (stop : Bool) (c : Nat) (s : State) : ix (captured b stop c s).unit b =
    if stop then { ix (counted b stop s).unit b with altP := !(ix (counted b stop s).unit b).altP }
    else { ix (counted b stop s).unit b with altS := !(ix (counted b stop s).unit b).altS } := by
  cases stop <;> exact ix_upd_same _ _ hlt

/-- a capture leaves the queues and the pairing of its unit -/
theorem captured_keeps (hlt : b < 12) (stop : Bool) (c : Nat) (s : State) : (ix (captured b stop c s).unit b).sq = (ix s.unit b).sq
    ∧ (ix (captured b stop c s).unit b).rq = (ix s.unit b).rq ∧ (ix (captured b stop c s).unit b).pair = (ix s.unit b).pair := by
  cases stop <;> simp [captured_unit hlt, counted_unit hlt]

theorem captured_cap (hlt : b < 12) (stop : Bool) (c : Nat) (s : State) : (ix (captured b stop c s).slice b).cap = some s.now :=
  congrArg SliceS.cap (ix_upd_same _ _ hlt)

/-- the dead time is over (R138) -/
theorem sliceFree_of_past {t : Nat} (h : ∀ p, (ix s.slice b).cap = some p → p + 4 * pmU ≤ t) : sliceFree s b t = true := by
  unfold sliceFree
  split
  · next p hp => exact decide_eq_true (h p hp)
  · rfl

/-- no route from a MNS crossing: the time of the stamp is the captured one -/
theorem edgeTime_captured {n c r k : Nat} (h : r < 48 ∨ 54 ≤ r) : edgeTime s n c r k = stampTime s n c r k := by
  have hr : (decide (48 ≤ r) && decide (r < 54)) = false := by
    rw [← Bool.decide_and, decide_eq_false_iff_not]
    omega
  simp [edgeTime, hr]

/-- what an edge that passes comes to: captured, then used -/
theorem exec_edgeCapture_captured (hlt : b < 12) (hsize : unitSize s b = 1) (hrun : unitState s b ≠ 0) (hseen : Seen s b stop ⟨rise, c, 0⟩)
    (hm : stop = false ∨ unitMode s b ≠ 2) (hc : inputCount s b stop = 0) (hfree : sliceFree s b (s.now + dt) = true) :
    exec (.edgeCapture dt b (if stop then [] else [⟨rise, c, 0⟩]) (if stop then [⟨rise, c, 0⟩] else [])) s
      = done s (useCapture b (capture b stop c (pass dt s)) (captured b stop c (pass dt s))) := by
  rw [exec_edgeCapture_one hlt, unitEdges_one (takeEdge_captured (seen_pass.2 hseen) (by simpa using hm) (by simpa using hc) (by simpa using hsize)
    (by simpa using hfree)) le_rfl (by simp [hsize]) (by simpa using hrun)]
  rfl

/-- the flags of a start's stamp, before its LOSS mark -/
theorem capture_flags_start (s : State) : (capture b false c s).flags = (if sliceUncal s b then 2 else 0)
    ||| (if decide (dpllState s (timeDpll s) ≠ 2) then 8 else 0) ||| (if decide (rd s (PMU_PMn_CFG_PRE_S b) ≠ 0) then 16 else 0) ||| 0 := by
  simp [capture, flUncal, flPresc, unlockFlag, flUnlock]

theorem completes_edgeCapture_stamp (hb : Between s) (hlt : b < 12) (hsize : unitSize s b = 1) (hrun : unitState s b ≠ 0)
    (hseen : Seen s b false ⟨rise, c, 0⟩) (hc : inputCount s b false = 0) (hfree : ∀ t, (ix s.slice b).cap = some t → t + 4 * pmU ≤ s.now + dt)
    (hmode : unitMode s b = 0) (hroute : startRoute s b < 48 ∨ 54 ≤ startRoute s b) (hroom : (ix s.unit b).sq.recs.length < 128) {time : Nat}
    (htime : time = stampTime (pass dt s) b (c % 512) (startRoute s b) (coarseNow (pass dt s)))
    (hlast : (ix s.unit b).sq.last ≤ time)
    (horder : ∀ p, (ix s.unit b).sq.recs.getLast? = some p → stampKind.before (mkStamp time (sourceId (startRoute s b)) 0) p = false) :
    Completes (.edgeCapture dt b [⟨rise, c, 0⟩] []) s (fun t =>
      (∃ fl, (ix t.unit b).sq.recs = (ix s.unit b).sq.recs ++ [⟨time, sourceId (startRoute s b), fl, (ix s.unit b).sq.seq⟩]
        ∧ fl.testBit 1 = sliceUncal (pass dt s) b ∧ fl.testBit 2 = (ix s.unit b).sq.loss ∧ fl.testBit 3 = decide (dpllState s (timeDpll s) ≠ 2)
        ∧ fl.testBit 4 = decide (rd s (PMU_PMn_CFG_PRE_S b) ≠ 0) ∧ fl.testBit 0 = false ∧ fl.testBit 5 = false)
      ∧ (ix t.unit b).sq.seq = ((ix s.unit b).sq.seq + 1) % 65536 ∧ (ix t.unit b).sq.loss = false ∧ (ix t.slice b).cap = some (s.now + dt)
      ∧ (ix t.unit b).cntS = 1 % 2 ^ rd s (PMU_PMn_CFG_PRE_S b)
      ∧ t.now = s.now + dt ∧ RegsBut [PMU_IRQ_SQT] s t ∧ StoresSame s t) := by
  have ht : (capture b false c (pass dt s)).t = time := by
    rw [htime]
    exact (edgeTime_captured (by simpa [inputRoute] using hroute)).trans (by simp [inputRoute])
  obtain ⟨hsq, -, -⟩ := captured_keeps hlt false c (pass dt s)
  rw [pass_unit] at hsq
  have huse : useCapture b (capture b false c (pass dt s)) (captured b false c (pass dt s)) =
      sqLevel b (stamped b time (sourceId (startRoute s b)) (capture b false c (pass dt s)).flags (captured b false c (pass dt s))) := by
    rw [useCapture_stamps (s := captured b false c (pass dt s)) (by simpa using hrun) rfl rfl (by simpa using hmode), ht,
      show startRoute (captured b false c (pass dt s)) b = startRoute s b by simp,
      sqPush_joins (by simpa using hsize) (by simpa [hsq] using hlast) (by simpa [hsq] using hroom) (by simpa [hsq] using horder)]
  have hw : Within dt [PMU_IRQ_SQT] s (sqLevel b (stamped b time (sourceId (startRoute s b)) (capture b false c (pass dt s)).flags
      (captured b false c (pass dt s)))) := within_sqLevel ((within_captured dt b false c s).modUnit b _) (by simp) b
  have hq : (ix (sqLevel b (stamped b time (sourceId (startRoute s b)) (capture b false c (pass dt s)).flags
      (captured b false c (pass dt s)))).unit b).sq = joined stampKind (cycleNow (pass dt s))
        (mkStamp time (sourceId (startRoute s b)) (capture b false c (pass dt s)).flags) (ix s.unit b).sq := by
    rw [sqLevel_unit, stamped, modUnit_unit, ix_upd_same _ _ hlt, hsq, cycleNow_captured]
  refine hw.completes ((exec_edgeCapture_captured hlt hsize hrun hseen (.inl rfl) hc (sliceFree_of_past hfree)).trans (congrArg _ huse)) hb
    ⟨⟨_, ?_, testBit_stampFlags _ _ _ _ _ rfl⟩, ?_, ?_, ?_, ?_, hw.now, hw.regs, hw.storesSame⟩
  · rw [hq, capture_flags_start]
    simp only [rd_pass, dpllState_pass, timeDpll_pass, joined, stampKind, mkStamp, flLoss]
  · rw [hq]
    rfl
  · rw [hq]
    rfl
  · rw [sqLevel_slice]
    exact (captured_cap hlt false c (pass dt s)).trans (by rw [pass_now])
  · have hcnt : (ix s.unit b).cntS = 0 := hc
    rw [sqLevel_unit, stamped, modUnit_unit, ix_upd_same _ _ hlt]
    simp [captured_unit hlt, counted_unit hlt, hcnt]

/-- an edge within the dead time of its slice counts in LOST_EDGE, and what runs is marked as having lost one (R138, R146) -/
def lostCounted (b : Nat) (s : State) : State :=
  modUnit b (fun u => { u with gate := u.gate.map (fun g => { g with loss := true }), sLoss := true }) (bump (PMU_PMn_CNT_LOST_EDGE b) s)

theorem useCapture_lost {x : CapEv} (hrun : unitState s b ≠ 0) (hlost : x.lost = true) (hmode : unitMode s b = 0) :
    useCapture b x s = lostCounted b s := by
  have hmode' : unitMode (lostCounted b s) b = 0 := by
    simpa [unitMode, lostCounted, bump, bumpBy, rd_put_ne] using hmode
  unfold useCapture edgeLost
  rw [if_neg hrun, if_pos hlost]
  exact if_pos (by rw [← lostCounted, hmode']; rfl)

theorem rd_bump (f : Fld) (s : State) : rd (bump f s) f = min (rd s f + 1) (2 ^ fldWidth f - 1) % 2 ^ fldWidth f := by simp

theorem completes_edgeCapture_lost (hb : Between s) (hlt : b < 12) (hsize : unitSize s b = 1) (hrun : unitState s b ≠ 0)
    (hseen : Seen s b false ⟨rise, c, 0⟩) (hc : inputCount s b false = 0) (hmode : unitMode s b = 0)
    (hdead : ∃ t, (ix s.slice b).cap = some t ∧ s.now + dt < t + 4 * pmU) :
    Completes (.edgeCapture dt b [⟨rise, c, 0⟩] []) s (fun t =>
      rd t (PMU_PMn_CNT_LOST_EDGE b) = (if rd s (PMU_PMn_CNT_LOST_EDGE b) < 65535 then rd s (PMU_PMn_CNT_LOST_EDGE b) + 1 else 65535)
      ∧ t.now = s.now + dt ∧ RegsBut [PMU_PMn_CNT_LOST_EDGE b] s t ∧ StoresSame s t) := by
  obtain ⟨t, ht, hdead⟩ := hdead
  have hblind : sliceFree (pass dt s) b (pass dt s).now = false := by simp [sliceFree, ht, hdead]
  have hw : Within dt [PMU_PMn_CNT_LOST_EDGE b] s (lostCounted b (counted b false (pass dt s))) :=
    ((within_counted dt b false s).bump (List.mem_singleton_self _)).modUnit b _
  have he : exec (.edgeCapture dt b [⟨rise, c, 0⟩] []) s = done s (lostCounted b (counted b false (pass dt s))) := by
    rw [show exec (.edgeCapture dt b [⟨rise, c, 0⟩] []) s = _ from exec_edgeCapture_one hlt false ⟨rise, c, 0⟩ s,
      unitEdges_one (takeEdge_blind (seen_pass.2 hseen) (.inl rfl) (by simpa using hc) (by simpa using hsize) hblind) le_rfl (by simp [hsize])
        (by simpa using hrun)]
    exact congrArg (done s) (useCapture_lost (by simpa using hrun) rfl (by simpa using hmode))
  refine hw.completes he hb ⟨?_, hw.now, hw.regs, hw.storesSame⟩
  have hcount : rd (lostCounted b (counted b false (pass dt s))) (PMU_PMn_CNT_LOST_EDGE b) = min (rd s (PMU_PMn_CNT_LOST_EDGE b) + 1) 65535 % 65536 :=
    (rd_bump _ (counted b false (pass dt s))).trans (by simp)
  rw [hcount]
  split <;> omega

/-! ### Edges that are not taken -/

theorem completes_edgeCapture_other (hb : Between s) (hlt : b < 12) {e : InEdge} (h : edgeTaken s b (inputRoute s b stop) stop e = false) :
    Completes (.edgeCapture dt b (if stop then [] else [e]) (if stop then [e] else [])) s (fun t =>
      t.unit = s.unit ∧ t.slice = s.slice ∧ t.now = s.now + dt ∧ RegsBut [] s t ∧ StoresSame s t) := by
  have hw := within_pass dt [] s
  refine hw.completes ?_ hb ⟨by simp, by simp, hw.now, hw.regs, hw.storesSame⟩
  rw [exec_edgeCapture_one hlt, unitEdges_none (takeEdge_other (by simpa using h))]

theorem completes_edgeCapture_kept_back (hb : Between s) (hlt : b < 12) (hsize : unitSize s b = 1) (hrun : unitState s b ≠ 0) (hmode : unitMode s b ≠ 2)
    {e : InEdge} (hseen : Seen s b true e) (hc : (ix s.unit b).cntP ≠ 0) :
    Completes (.edgeCapture dt b [] [e]) s (fun t =>
      ix t.unit b = { ix s.unit b with cntP := ((ix s.unit b).cntP + 1) % 2 ^ rd s (PMU_PMn_CFG_PRE_P b) } ∧ t.slice = s.slice ∧ t.now = s.now + dt
      ∧ RegsBut [] s t ∧ StoresSame s t) := by
  have hw : Within dt [] s (counted b true (pass dt s)) := within_counted dt b true s
  have hkept : takeEdge b true e (pass dt s) = ([], counted b true (pass dt s)) :=
    takeEdge_kept_back (seen_pass.2 hseen) (.inr (by simpa using hmode)) (by simpa [inputCount] using hc)
  refine hw.completes ?_ hb ⟨?_, ?_, hw.now, hw.regs, hw.storesSame⟩
  · rw [show exec (.edgeCapture dt b [] [e]) s = _ from exec_edgeCapture_one hlt true e s,
      unitEdges_one hkept (by simp) (by simp [hsize]) (by simpa using hrun)]
    rfl
  · simp [counted_unit hlt]
  · exact pass_slice dt s

end

/-! ### The pairing (R145, R146, R151) -/

section
variable {dt b c : Nat} {stop rise : Bool} {l : List Fld} {s u : State}

theorem within_putPair_ (h : Within dt l s u) (hl : PMU_PMn_STAT_PAIR b ∈ l) (p : PairSt) : Within dt l s (putPair_ b p u) := (h.modUnit b _).put hl _

theorem ix_unit_putPair_ (hlt : b < 12) (p : PairSt) (s : State) : ix (putPair_ b p s).unit b = { ix s.unit b with pair := p } := ix_upd_same _ _ hlt

theorem useCapture_pairs {x : CapEv} (hrun : unitState s b ≠ 0) (hlost : x.lost = false) (hmode : unitMode s b = 1)
    (hsq : rd s (PMU_PMn_CFG_SQ_EN b) = 0) : useCapture b x s = if x.stop then pairStop b x.p x.uncal s else pairStart b x.p x.uncal s := by
  cases hstop : x.stop <;> simp [useCapture, hrun, hlost, hmode, hstop, on_eq_false hsq]

/-- the pairing ends with a result in the queue -/
def pairClosed (b : Nat) (x : Int) (flags : Nat) (s : State) : State := putBit PMU_IRQ_RES b (resultJoined b x flags (putPair_ b .idle s))

theorem within_pairClosed (h : Within dt l s u) (hl : PMU_PMn_STAT_PAIR b ∈ l) (hl' : PMU_IRQ_RES ∈ l) (x : Int) (flags : Nat) :
    Within dt l s (pairClosed b x flags u) := ((within_putPair_ h hl .idle).modUnit b _).putBit hl' b

theorem pairResult_closes {x : Int} {flags : Nat} (hlt : b < 12) (hsize : unitSize s b = 1) (hmode : unitMode s b = 1)
    (hlast : (ix s.unit b).rq.last = 0) (hroom : (ix s.unit b).rq.recs.length < 32) :
    pairResult b x flags (putPair_ b .idle s) = pairClosed b x flags s := by
  have hrq : rqPush b x flags (putPair_ b .idle s) = pairClosed b x flags s :=
    rqPush_joins hsize (by rw [ix_unit_putPair_ hlt]; exact hlast) (by rw [ix_unit_putPair_ hlt]; exact hroom)
  have hw : Within 0 [PMU_PMn_STAT_PAIR b, PMU_IRQ_RES] s (pairClosed b x flags s) := within_pairClosed (within_self _ s) (by simp) (by simp) x flags
  have hmode' : unitMode (pairClosed b x flags s) b = 1 := (hw.rd_eq (by simp; omega)).trans hmode
  unfold pairResult
  rw [hrq]
  exact if_pos (by rw [hmode']; rfl)

/-- the numbered result, with its LOSS mark -/
theorem resKind_fin (n : Nat) (loss : Bool) (x : Int) (flags : Nat) : resKind.fin n loss { interval := x, rflags := flags } =
    { interval := x, rflags := flags ||| (if loss then 64 else 0), seq := n } := by
  cases loss <;> simp [resKind]

theorem pairClosed_shows (hlt : b < 12) (x : Int) (flags : Nat) (s : State) :
    (ix (pairClosed b x flags s).unit b).rq.recs = (ix s.unit b).rq.recs
        ++ [{ interval := x, rflags := flags ||| (if (ix s.unit b).rq.loss then 64 else 0), seq := (ix s.unit b).rq.seq }]
      ∧ (ix (pairClosed b x flags s).unit b).rq.seq = ((ix s.unit b).rq.seq + 1) % 65536 ∧ (ix (pairClosed b x flags s).unit b).rq.loss = false
      ∧ (ix (pairClosed b x flags s).unit b).pair = .idle ∧ rd (pairClosed b x flags s) (PMU_PMn_STAT_PAIR b) = 0
      ∧ (rd (pairClosed b x flags s) PMU_IRQ_RES).testBit b = true := by
  have hunit : ix (pairClosed b x flags s).unit b = { ix s.unit b with
      pair := .idle, rq := joined resKind (cycleNow s) { interval := x, rflags := flags } (ix s.unit b).rq } := by
    have hj : ix (pairClosed b x flags s).unit b = _ := ix_upd_same (putPair_ b .idle s).unit _ hlt
    rw [hj, ix_unit_putPair_ hlt]
    rfl
  rw [hunit]
  refine ⟨congrArg (fun r => _ ++ [r]) (resKind_fin _ _ x flags), rfl, rfl, rfl, ?_, ?_⟩
  · have hne : fldKey PMU_IRQ_RES ≠ fldKey (PMU_PMn_STAT_PAIR b) := by simp; omega
    rw [pairClosed, putBit_eq, rd_cycMark, rd_put_ne _ _ hne]
    simp [resultJoined, putPair_]
  · rw [pairClosed, testBit_putBit (by simpa using hlt)]
    simp

/-- the interval of a pair and its flags (R146) -/
theorem intervalOf_eq (d : Int) : intervalOf d = (if d.natAbs < 2048 then 0 else roundDiv d 20, if d.natAbs < 2048 then 4 else if d < 0 then 8 else 0) := by
  unfold intervalOf
  split <;> rfl

theorem completes_edgeCapture_open (hb : Between s) (hlt : b < 12) (hsize : unitSize s b = 1) (hrun : unitState s b ≠ 0)
    (hseen : Seen s b false ⟨rise, c, 0⟩) (hc : inputCount s b false = 0) (hfree : ∀ t, (ix s.slice b).cap = some t → t + 4 * pmU ≤ s.now + dt)
    (hmode : unitMode s b = 1) (hsq : rd s (PMU_PMn_CFG_SQ_EN b) = 0) (hpair : (ix s.unit b).pair = .idle) :
    Completes (.edgeCapture dt b [⟨rise, c, 0⟩] []) s (fun t =>
      (ix t.unit b).pair = .open_ (positionOf (pass dt s) b (c % 512) (coarseNow (pass dt s))) (sliceUncal (pass dt s) b) false
      ∧ rd t (PMU_PMn_STAT_PAIR b) = 1 ∧ t.now = s.now + dt ∧ RegsBut [PMU_PMn_STAT_PAIR b] s t ∧ StoresSame s t) := by
  obtain ⟨-, -, hpair'⟩ := captured_keeps hlt false c (pass dt s)
  rw [pass_unit, hpair] at hpair'
  have hw : Within dt [PMU_PMn_STAT_PAIR b] s (putPair_ b (.open_ (capture b false c (pass dt s)).p (capture b false c (pass dt s)).uncal false)
      (captured b false c (pass dt s))) := within_putPair_ (within_captured dt b false c s) (List.mem_singleton_self _) _
  refine hw.completes ((exec_edgeCapture_captured hlt hsize hrun hseen (.inl rfl) hc (sliceFree_of_past hfree)).trans (congrArg _ ?_)) hb
    ⟨?_, ?_, hw.now, hw.regs, hw.storesSame⟩
  · rw [useCapture_pairs (by simpa using hrun) rfl (by simpa using hmode) (by simpa using hsq), pairStart, hpair']
    rfl
  · rw [ix_unit_putPair_ hlt]
    rfl
  · simp [putPair_]

/-- a stop within W_post of the open start ends the pairing with their interval -/
theorem pairStop_open {p q : Nat} {u l uncal : Bool} (hpair : (ix s.unit b).pair = .open_ q u l) (hin : posDiff p q ≤ wPost s b) :
    pairStop b p uncal s = pairResult b (intervalOf (posDiff p q)).1 ((intervalOf (posDiff p q)).2 ||| pairFlags (u || uncal) l)
      (putPair_ b .idle s) := by
  rw [pairStop, hpair]
  exact if_pos hin

theorem completes_edgeCapture_close (hb : Between s) (hlt : b < 12) (hsize : unitSize s b = 1) (hrun : unitState s b ≠ 0)
    (hseen : Seen s b true ⟨rise, c, 0⟩) (hc : inputCount s b true = 0) (hfree : ∀ t, (ix s.slice b).cap = some t → t + 4 * pmU ≤ s.now + dt)
    (hmode : unitMode s b = 1) (hsq : rd s (PMU_PMn_CFG_SQ_EN b) = 0) {q : Nat} {u l : Bool} (hpair : (ix s.unit b).pair = .open_ q u l)
    {d : Int} (hd : d = posDiff (positionOf (pass dt s) b (c % 512) (coarseNow (pass dt s))) q) (hin : d ≤ wPost s b)
    (hroom : (ix s.unit b).rq.recs.length < 32) (hlast : (ix s.unit b).rq.last = 0) :
    Completes (.edgeCapture dt b [] [⟨rise, c, 0⟩]) s (fun t =>
      let flags := (if d.natAbs < 2048 then 4 else if d < 0 then 8 else 0) ||| ((if u || sliceUncal (pass dt s) b then 2 else 0) ||| (if l then 64 else 0))
      ((ix t.unit b).rq.recs = (ix s.unit b).rq.recs
          ++ [⟨if d.natAbs < 2048 then 0 else roundDiv d 20, flags ||| (if (ix s.unit b).rq.loss then 64 else 0), (ix s.unit b).rq.seq⟩]
        ∧ (ix t.unit b).rq.seq = ((ix s.unit b).rq.seq + 1) % 65536 ∧ (ix t.unit b).rq.loss = false)
      ∧ (ix t.unit b).pair = .idle ∧ rd t (PMU_PMn_STAT_PAIR b) = 0
      ∧ (rd t PMU_IRQ_RES).testBit b = true ∧ t.now = s.now + dt ∧ RegsBut [PMU_PMn_STAT_PAIR b, PMU_IRQ_RES] s t ∧ StoresSame s t) := by
  obtain ⟨-, hrq, hpair'⟩ := captured_keeps hlt true c (pass dt s)
  rw [pass_unit] at hrq hpair'
  rw [hpair] at hpair'
  have hw := within_pairClosed (b := b) (within_captured (l := [PMU_PMn_STAT_PAIR b, PMU_IRQ_RES]) dt b true c s) (by simp) (by simp) (intervalOf d).1
    ((intervalOf d).2 ||| pairFlags (u || sliceUncal (pass dt s) b) l)
  obtain ⟨hrecs, hseq, hloss, hidle, hstat, hirq⟩ := pairClosed_shows hlt (intervalOf d).1
    ((intervalOf d).2 ||| pairFlags (u || sliceUncal (pass dt s) b) l) (captured b true c (pass dt s))
  rw [hrq] at hrecs hseq
  refine hw.completes ((exec_edgeCapture_captured hlt hsize hrun hseen (.inr (by omega)) hc (sliceFree_of_past hfree)).trans (congrArg _ ?_)) hb
    ⟨⟨?_, hseq, hloss⟩, hidle, hstat, hirq, hw.now, hw.regs, hw.storesSame⟩
  · rw [useCapture_pairs (by simpa using hrun) rfl (by simpa using hmode) (by simpa using hsq)]
    refine (pairStop_open hpair' (by simpa [capture, ← hd] using hin)).trans ?_
    rw [pairResult_closes hlt (by simpa using hsize) (by simpa using hmode) (by rw [hrq]; exact hlast) (by rw [hrq]; exact hroom), hd]
    rfl
  · rw [hrecs, intervalOf_eq]
    rfl

/-! ### The windows of a pair pass (R145) -/

theorem exec_pairTimeout (hlt : b < 12) (s : State) : exec (.pairTimeout b) s = done s (pairTimeoutAt b s) :=
  congrArg (done s) (whenB_pos (decide_eq_true hlt) _ _)

theorem exec_earlyStopExpiry (hlt : b < 12) (s : State) : exec (.earlyStopExpiry b) s = done s (earlyStopAt b s) :=
  congrArg (done s) (whenB_pos (decide_eq_true hlt) _ _)

theorem completes_pairTimeout (hb : Between s) (hlt : b < 12) (hsize : unitSize s b = 1) (hmode : unitMode s b = 1) {q : Nat} {u l : Bool}
    (hpair : (ix s.unit b).pair = .open_ q u l) (hroom : (ix s.unit b).rq.recs.length < 32) (hlast : (ix s.unit b).rq.last = 0) :
    Completes (.pairTimeout b) s (fun t =>
      ((ix t.unit b).rq.recs = (ix s.unit b).rq.recs
          ++ [⟨0, (16 ||| ((if u then 2 else 0) ||| (if l then 64 else 0))) ||| (if (ix s.unit b).rq.loss then 64 else 0), (ix s.unit b).rq.seq⟩]
        ∧ (ix t.unit b).rq.seq = ((ix s.unit b).rq.seq + 1) % 65536 ∧ (ix t.unit b).rq.loss = false)
      ∧ (ix t.unit b).pair = .idle ∧ rd t (PMU_PMn_STAT_PAIR b) = 0 ∧ (rd t PMU_IRQ_RES).testBit b = true
      ∧ t.now = max s.now (orderedTime s q + (wPost s b).toNat) ∧ RegsBut [PMU_PMn_STAT_PAIR b, PMU_IRQ_RES] s t ∧ StoresSame s t) := by
  have hw := within_pairClosed (b := b) (within_advanceTo (orderedTime s q + (wPost s b).toNat) [PMU_PMn_STAT_PAIR b, PMU_IRQ_RES] s)
    (by simp) (by simp) 0 (16 ||| pairFlags u l)
  obtain ⟨hrecs, hseq, hloss, hidle, hstat, hirq⟩ := pairClosed_shows hlt 0 (16 ||| pairFlags u l) (advanceTo (orderedTime s q + (wPost s b).toNat) s)
  rw [advanceTo_unit] at hrecs hseq
  refine hw.completes ((exec_pairTimeout hlt s).trans (congrArg _ ?_)) hb
    ⟨⟨hrecs, hseq, hloss⟩, hidle, hstat, hirq, hw.now.trans add_tsub_eq_max, hw.regs, hw.storesSame⟩
  rw [pairTimeoutAt, hpair]
  simp only [openTimeout, advanceTo_unit, hpair]
  exact pairResult_closes hlt (by simpa [unitSize] using hsize) (by simpa [unitMode] using hmode) (by simpa using hlast) (by simpa using hroom)

theorem completes_earlyStopExpiry (hb : Between s) (hlt : b < 12) {p : Nat} {u l : Bool} (hpair : (ix s.unit b).pair = .pend p u l) :
    Completes (.earlyStopExpiry b) s (fun t =>
      (ix t.unit b).pair = .idle ∧ rd t (PMU_PMn_STAT_PAIR b) = 0 ∧ t.now = max s.now (orderedTime s p + (wPre s b).toNat)
      ∧ rd t (PMU_PMn_CNT_EARLY b) = (if rd s (PMU_PMn_CNT_EARLY b) < 65535 then rd s (PMU_PMn_CNT_EARLY b) + 1 else 65535)
      ∧ RegsBut [PMU_PMn_STAT_PAIR b, PMU_PMn_CNT_EARLY b] s t ∧ StoresSame s t) := by
  have hw : Within _ [PMU_PMn_STAT_PAIR b, PMU_PMn_CNT_EARLY b] s
      (bump (PMU_PMn_CNT_EARLY b) (putPair_ b .idle (advanceTo (orderedTime s p + (wPre s b).toNat) s))) :=
    (within_putPair_ (within_advanceTo _ _ s) (by simp) .idle).bump (by simp)
  refine hw.completes ((exec_earlyStopExpiry hlt s).trans (congrArg _ ?_)) hb ⟨?_, ?_, hw.now.trans add_tsub_eq_max, ?_, hw.regs, hw.storesSame⟩
  · simp only [earlyStopAt, hpair, pendEarly, advanceTo_unit]
  · exact congrArg UnitS.pair (ix_unit_putPair_ hlt .idle _)
  · rw [bump_eq, rd_cycMark, rd_put_ne _ _ (by simp)]
    simp [putPair_]
  · have hcount : rd (bump (PMU_PMn_CNT_EARLY b) (putPair_ b .idle (advanceTo (orderedTime s p + (wPre s b).toNat) s))) (PMU_PMn_CNT_EARLY b)
        = min (rd s (PMU_PMn_CNT_EARLY b) + 1) 65535 % 65536 := (rd_bump _ _).trans (by simp [putPair_, rd_put_ne])
    rw [hcount]
    split <;> omega

end

/-- Settles O27: a single edge is taken, counted or lost as its route, the prescaler and the dead time have it; what is taken joins the stamp
queue or moves the pairing, and the windows of a pair end it. -/
theorem edgesAreStampedAndPaired : Obligations.EdgesAreStampedAndPaired := by
  unfold Obligations.EdgesAreStampedAndPaired
  intro dt b c rise s hb hlt hsize z u0 mode_ edge way seen first pos time uncal free runs result room
  refine ⟨fun hrun ⟨hseen, hc⟩ hfree hmode hroute hroom hlast horder => ?_, fun hrun hfree hmode hsq => ⟨fun hpair ⟨hseen, hc⟩ => ?_, fun q u l hpair hin hroom ⟨hseen, hc⟩ => ?_⟩, 
    fun stop _ hother => ?_, fun hrun hmode hseen hc => ?_, fun hrun ⟨hseen, hc⟩ hmode hdead => ?_, fun q u l hpair ⟨hroom, hlast⟩ hmode => ?_, fun p u l hpair => ?_⟩
  · exact completes_edgeCapture_stamp hb hlt hsize hrun hseen hc hfree hmode hroute hroom rfl hlast horder
  · exact completes_edgeCapture_open hb hlt hsize hrun hseen hc hfree hmode hsq hpair
  · exact completes_edgeCapture_close hb hlt hsize hrun hseen hc hfree hmode hsq hpair rfl hin hroom.1 hroom.2
  · exact completes_edgeCapture_other hb hlt hother
  · exact completes_edgeCapture_kept_back hb hlt hsize hrun hmode hseen hc
  · exact completes_edgeCapture_lost hb hlt hsize hrun hseen hc hmode hdead
  · exact completes_pairTimeout hb hlt hsize hmode hpair hroom hlast
  · exact completes_earlyStopExpiry hb hlt hpair

end Sys2Proof.PostmarkUnits

/-! Postmark units, what does not hold (O28, O60): the gate that a restart sets aside and the test pair are stated by values of the core cycle in
which the command before ended, where the model takes those of the core cycle in which they act. -/

namespace Sys2Proof.PostmarkUnits
open Sys2Proof.Machine Sys2Proof.Reg Sys2Proof.Safety

/-- PMU runs behind an open host port -/
def openPmu : State := { rst := { phase := .run }, img := { applied := true } }

/-! ### A restart (R149, R163) -/

/-- unit 0 runs a gate that began in the core cycle in which GATE was set to 10 ms -/
def gateSetThisCycle : State :=
  put (PMU_PMn_GATE_GATE 0) 10 (put (PMU_PMn_STAT_STATE 0) 2 (put (PMU_PMn_CFG_MODE 0) 2 (modUnit 0 (fun u => { u with gate := some {} }) openPmu)))

theorem gateSetThisCycle_between : Between gateSetThisCycle := by
  simp only [Between]
  decide

theorem gateSetThisCycle_open : Open gateSetThisCycle 0x500018 := by
  simp only [Open, HostIdle]
  decide

/-- GATE as the core cycle of gateSetThisCycle began -/
theorem gateCfg_gateSetThisCycle : (gateCfg gateSetThisCycle 0).gate = 0 := by decide +kernel

/-- a restart one core cycle later keeps the gate aside to be judged by the 10 ms with which that core cycle began -/
theorem cut_unitRestart_gateSetThisCycle :
    ((ix (closed gateSetThisCycle (settle (pmuCtlWrite 0 1 (pass cycU gateSetThisCycle)))).unit 0).cut.map fun c => c.2.2.gate) = some 10 := by
  decide +kernel

/-- Refutes O28: the gate that a RESTART discards is kept aside with its configuration as the core cycle of the RESTART began, which is what an
edge of that core cycle is judged by. The statement writes the configuration as the core cycle of the state before began; where GATE was set
after that and a core cycle has passed since, the two differ. -/
theorem not_gatesEndAndUnitsRestart : ¬ Obligations.GatesEndAndUnitsRestart := by
  unfold Obligations.GatesEndAndUnitsRestart
  intro h
  obtain ⟨-, hrestart⟩ := h cycU 0 gateSetThisCycle gateSetThisCycle_between (by decide) (by decide)
  obtain ⟨hrunning, -⟩ := hrestart gateSetThisCycle_open
  obtain ⟨t, ht, ⟨hunit, -⟩, -⟩ := hrunning (by decide)
  have ht : closed gateSetThisCycle (settle (pmuCtlWrite 0 1 (pass cycU gateSetThisCycle))) = t := by
    injection ht
  have hgate : (ix gateSetThisCycle.unit 0).gate = some {} := by decide
  have hcut := cut_unitRestart_gateSetThisCycle
  rw [ht, hunit, hgate, Option.map_some, Option.map_some, gateCfg_gateSetThisCycle] at hcut
  exact absurd hcut (by decide)

/-! ### The test pair (R162, R163) -/

/-- PMU is isolated, and the table of slice 0 has been replaced in the present core cycle by the one it has after reset -/
def tableThisCycle : State :=
  modSlice 0 (fun x => { x with tabAt := some 0, old := [(0, 100000)] }) (modGen (fun g => { g with iso := vset g.iso 5 .isolated }) openPmu)

theorem tableThisCycle_between : Between tableThisCycle := by
  simp only [Between]
  decide

theorem tableThisCycle_open : Open tableThisCycle 0x500610 := by
  simp only [Open, HostIdle]
  decide

/-- the new table stands one core cycle later: the pair of unit 0 four periods apart, captured at taps 0 and 1, is 2048 units shorter than they
are -/
theorem result_testPair_tableThisCycle :
    rd (closed tableThisCycle (settle (testPairRun 0 1 (writeReg 0x500610 0 (2 ^ 31 + 4) (pass cycU tableThisCycle))))) PMU_TESTRES_RESULT
      = uns 32 (intervalOf (4 * pmU - 2048)).1 := by
  decide +kernel

/-- Refutes O60: the test pair is captured after the write that starts it, by the tables of its own core cycle. The statement reads the tables
of the state before, where a table replaced in that core cycle still stands as it was: one core cycle later the replaced one counts, and the
result differs: 209613 in place of 214562 of 2^-16 ns in tableThisCycle. -/
theorem not_testsStartInIsolationAndEnd : ¬ Obligations.TestsStartInIsolationAndEnd := by
  unfold Obligations.TestsStartInIsolationAndEnd
  intro h
  obtain ⟨-, -, -, -, -, -, -, hpair, -⟩ := h cycU 4 0 1 0 0 0 true true none tableThisCycle tableThisCycle_between
  obtain ⟨hiso, -⟩ := hpair (by decide) tableThisCycle_open (by decide)
  obtain ⟨t, ht, -, hres, -⟩ := hiso (by decide) (by decide)
  have ht : closed tableThisCycle (settle (testPairRun 0 1 (writeReg 0x500610 0 (2 ^ 31 + 4) (pass cycU tableThisCycle)))) = t := by
    injection ht
  have hmodel := result_testPair_tableThisCycle
  rw [ht] at hmodel
  rw [hmodel] at hres
  revert hres
  decide +kernel

end Sys2Proof.PostmarkUnits

/-! Postmark units, what does not hold (O29): the loop check is stated by bit 0 of LOOP_LOCK, where the model takes the field as 1 or not. -/

namespace Sys2Proof.PostmarkUnits
open Sys2Proof.Machine Sys2Proof.Reg Sys2Proof.Safety

/-! ### What settling leaves alone

The statement asks what a loop check itself brings about, before others follow. So that the end of the command shows what LOOP_LOCK was then, one
lemma for each operation that settling can reach says that it keeps LOOP_LOCK of slice 0: no follower puts that field, and the entry of a reset
sequence gives back only fields that the host can write. -/

/-- LOOP_LOCK of slice 0 -/
def loopLock (s : State) : Nat := rd s (PMU_PMn_CALSTAT_LOOP_LOCK 0)

/-- the key of a field other than LOOP_LOCK of slice 0 -/
def OffLock (k : Nat) : Prop := k ≠ 41943519

/-- the keys below PMU -/
@[simp] theorem offLock_of_lt {k : Nat} (h : k < 41943040) : OffLock k := by unfold OffLock; omega

/-- the keys above the units of PMU; those of a family rise from that of its first one -/
@[simp] theorem offLock_of_le {k : Nat} (h : 41955328 ≤ k) : OffLock k := by unfold OffLock; omega
@[simp] theorem offLock_add {a : Nat} (h : 41955328 ≤ a) (b : Nat) : OffLock (a + b) := offLock_of_le (h.trans (Nat.le_add_right a b))
@[simp] theorem offLock_add_add {a : Nat} (h : 41955328 ≤ a) (b c : Nat) : OffLock (a + b + c) := offLock_add (h.trans (Nat.le_add_right a b)) c

/-- the keys of a family of words whose field does not lie in bit 31 -/
@[simp] theorem offLock_family {a c : Nat} (ha : a % 32 ≠ 31) (hc : c % 32 = 0) (n : Nat) : OffLock (a + c * n) := by
  have hn : c * n % 32 = 0 := by rw [Nat.mul_mod, hc, Nat.zero_mul, Nat.zero_mod]
  unfold OffLock
  omega

/-- the keys of the words of the units of PMU other than CALSTAT -/
@[simp] theorem offLock_unit {a : Nat} (h : a % 1024 ≠ 479) (n : Nat) : OffLock (a + 1024 * n) := by
  unfold OffLock
  omega

@[simp] theorem loopLock_put {f : Fld} (h : OffLock (fldKey f)) (v : Nat) (s : State) : loopLock (put f v s) = loopLock s :=
  rd_put_ne v s (by rwa [key_PMU_PMn_CALSTAT_LOOP_LOCK])

@[simp] theorem loopLock_ite (c : Prop) [Decidable c] (a b : State) : loopLock (if c then a else b) = if c then loopLock a else loopLock b :=
  apply_ite loopLock c a b

theorem loopLock_forEach_mem {α : Type} {f : α → State → State} (l : List α) (s : State)
    (hf : ∀ a ∈ l, ∀ u, loopLock (f a u) = loopLock u) : loopLock (forEach l f s) = loopLock s := by
  induction l generalizing s with
  | nil => rfl
  | cons a r ih => rw [forEach_cons, ih _ fun b hb => hf b (List.mem_cons_of_mem a hb), hf a List.mem_cons_self]

@[simp] theorem loopLock_forEach {α : Type} {f : α → State → State} (l : List α) (s : State) (hf : ∀ a u, loopLock (f a u) = loopLock u) :
    loopLock (forEach l f s) = loopLock s := forEach_keeps loopLock l f s hf

@[simp] theorem loopLock_whenB {f : State → State} (c : Bool) (s : State) (hf : loopLock (f s) = loopLock s) :
    loopLock (whenB c f s) = loopLock s := by
  cases c
  · rfl
  · exact hf

@[simp] theorem loopLock_cycMark (f : Fld) (v : Nat) (s : State) : loopLock (cycMark f v s) = loopLock s := (rfl)

@[simp] theorem loopLock_withTod (s : State) (x : Nat) : loopLock { s with tod := x } = loopLock s := (rfl)
@[simp] theorem loopLock_withFree (s : State) (x : Nat) : loopLock { s with free := x } = loopLock s := (rfl)
@[simp] theorem loopLock_withMramJ (s : State) (x : List Host.Cell) : loopLock { s with mramJ := x } = loopLock s := (rfl)
@[simp] theorem loopLock_withSelWas (s : State) (x : Vector (Option SelWas) 8) : loopLock { s with selWas := x } = loopLock s := (rfl)
@[simp] theorem loopLock_withCommit (s : State) (x : List CommitS) : loopLock { s with commit := x } = loopLock s := (rfl)
@[simp] theorem loopLock_withTkp (s : State) (x : TkpS) : loopLock { s with tkp := x } = loopLock s := (rfl)
@[simp] theorem loopLock_withPtp (s : State) (x : PtpS) : loopLock { s with ptp := x } = loopLock s := (rfl)
@[simp] theorem loopLock_withHost (s : State) (x : HostS) : loopLock { s with host := x } = loopLock s := (rfl)

@[simp] theorem loopLock_modSel (k : Nat) (f : SelS → SelS) (s : State) : loopLock (modSel k f s) = loopLock s := (rfl)
@[simp] theorem loopLock_modDpll (k : Nat) (f : DpllS → DpllS) (s : State) : loopLock (modDpll k f s) = loopLock s := (rfl)
@[simp] theorem loopLock_modPin (k : Nat) (f : PinS → PinS) (s : State) : loopLock (modPin k f s) = loopLock s := (rfl)
@[simp] theorem loopLock_modTodr (k : Nat) (f : TodS → TodS) (s : State) : loopLock (modTodr k f s) = loopLock s := (rfl)
@[simp] theorem loopLock_modSlot (k : Nat) (f : SlotS → SlotS) (s : State) : loopLock (modSlot k f s) = loopLock s := (rfl)
@[simp] theorem loopLock_modEst (k : Nat) (f : SlotEst → SlotEst) (s : State) : loopLock (modEst k f s) = loopLock s := (rfl)
@[simp] theorem loopLock_modUnit (k : Nat) (f : UnitS → UnitS) (s : State) : loopLock (modUnit k f s) = loopLock s := (rfl)
@[simp] theorem loopLock_modSyn (k : Nat) (f : SynS → SynS) (s : State) : loopLock (modSyn k f s) = loopLock s := (rfl)
@[simp] theorem loopLock_modOut (k : Nat) (f : OutS → OutS) (s : State) : loopLock (modOut k f s) = loopLock s := (rfl)
@[simp] theorem loopLock_raise (i : Nat) (j : Option Nat) (s : State) : loopLock (raise i j s) = loopLock s := (rfl)
@[simp] theorem loopLock_modAst (f : AstS → AstS) (s : State) : loopLock (modAst f s) = loopLock s := (rfl)
@[simp] theorem loopLock_modMns (f : MnsS → MnsS) (s : State) : loopLock (modMns f s) = loopLock s := (rfl)
@[simp] theorem loopLock_modCrl (f : CrlS → CrlS) (s : State) : loopLock (modCrl f s) = loopLock s := (rfl)
@[simp] theorem loopLock_modLink (k : Nat) (f : LinkS → LinkS) (s : State) : loopLock (modLink k f s) = loopLock s := (rfl)
@[simp] theorem loopLock_modPtp (f : PtpS → PtpS) (s : State) : loopLock (modPtp f s) = loopLock s := (rfl)
@[simp] theorem loopLock_modNvm (f : NvmS → NvmS) (s : State) : loopLock (modNvm f s) = loopLock s := (rfl)
@[simp] theorem loopLock_modSec (f : SecS → SecS) (s : State) : loopLock (modSec f s) = loopLock s := (rfl)
@[simp] theorem loopLock_modTkp (f : TkpS → TkpS) (s : State) : loopLock (modTkp f s) = loopLock s := (rfl)
@[simp] theorem loopLock_modSch (f : SchS → SchS) (s : State) : loopLock (modSch f s) = loopLock s := (rfl)
@[simp] theorem loopLock_modFlt (f : FltS → FltS) (s : State) : loopLock (modFlt f s) = loopLock s := (rfl)
@[simp] theorem loopLock_modGen (f : GenS → GenS) (s : State) : loopLock (modGen f s) = loopLock s := (rfl)
@[simp] theorem loopLock_modRst (f : RstS → RstS) (s : State) : loopLock (modRst f s) = loopLock s := (rfl)

/-! #### Fields, device time and the queues of PMU -/

@[simp] theorem loopLock_putB {f : Fld} (hf : OffLock (fldKey f)) (b : Bool) (s : State) : loopLock (putB f b s) = loopLock s := by simp [putB, hf]

@[simp] theorem loopLock_putBit {f : Fld} (hf : OffLock (fldKey f)) (i : Nat) (s : State) : loopLock (putBit f i s) = loopLock s := by
  simp [putBit, hf]

@[simp] theorem loopLock_clearBit {f : Fld} (hf : OffLock (fldKey f)) (i : Nat) (s : State) : loopLock (clearBit f i s) = loopLock s := by
  simp [clearBit, hf]

@[simp] theorem loopLock_bumpBy {f : Fld} (hf : OffLock (fldKey f)) (n : Nat) (s : State) : loopLock (bumpBy f n s) = loopLock s := by
  simp [bumpBy, hf]

@[simp] theorem loopLock_bump {f : Fld} (hf : OffLock (fldKey f)) (s : State) : loopLock (bump f s) = loopLock s := by simp [bump, hf]

@[simp] theorem loopLock_bumpWrap {f : Fld} (hf : OffLock (fldKey f)) (s : State) : loopLock (bumpWrap f s) = loopLock s := by simp [bumpWrap, hf]

@[simp] theorem loopLock_putPair {f g : Fld} (hf : OffLock (fldKey f)) (hg : OffLock (fldKey g)) (v : Nat) (s : State) :
    loopLock (putPair f g v s) = loopLock s := by simp [putPair, hf, hg]

@[simp] theorem loopLock_putPairS {f g : Fld} (hf : OffLock (fldKey f)) (hg : OffLock (fldKey g)) (v : Int) (s : State) :
    loopLock (putPairS f g v s) = loopLock s := loopLock_putPair hf hg _ s

@[simp] theorem loopLock_advanceTo (t : Nat) (s : State) : loopLock (advanceTo t s) = loopLock s := by simp [loopLock]

@[simp] theorem loopLock_ptpStale (s : State) : loopLock (ptpStale s) = loopLock s := by simp [ptpStale]

@[simp] theorem loopLock_countLost {f g : Fld} (hf : OffLock (fldKey f)) (hg : OffLock (fldKey g)) (i : Nat) (j : Option Nat) (n : Nat) (full : Bool)
    (s : State) : loopLock (countLost f g i j n full s) = loopLock s := by simp [countLost, hf, hg]

@[simp] theorem loopLock_sqLevel (a : Nat) (s : State) : loopLock (sqLevel a s) = loopLock s := by simp [sqLevel]

@[simp] theorem loopLock_sqTake (a : Nat) (b : Queue Postmark × Nat × Bool) (s : State) : loopLock (sqTake a b s) = loopLock s := by simp [sqTake]

@[simp] theorem loopLock_rqTake (a : Nat) (b : Queue ResultRec × Nat × Bool) (s : State) : loopLock (rqTake a b s) = loopLock s := by simp [rqTake]

@[simp] theorem loopLock_unitGap (b t src : Nat) (s : State) : loopLock (unitGap b t src s) = loopLock s := by simp [unitGap]

@[simp] theorem loopLock_unitCut (b : Nat) (s : State) : loopLock (unitCut b s) = loopLock s := by simp [unitCut]

/-! #### TKP and AST -/

@[simp] theorem loopLock_civilUpdate (s : State) : loopLock (civilUpdate s) = loopLock s := by
  unfold civilUpdate
  extract_lets e c s1 s2 s3
  have h1 : loopLock s1 = loopLock s := by simp [s1]
  have h3 : loopLock s3 = loopLock s := by simp [s3, s2, h1]
  clear_value s3
  split
  · rfl
  · split <;> simp [h3]

@[simp] theorem loopLock_holdLines (s : State) : loopLock (holdLines s) = loopLock s := by simp [holdLines]

@[simp] theorem loopLock_putEvent (a b c d : Nat) (e : Bool) (s : State) : loopLock (putEvent a b c d e s) = loopLock s := by simp [putEvent]

@[simp] theorem loopLock_blankDay (a : Nat) (s : State) : loopLock (blankDay a s) = loopLock s := by simp [blankDay]

@[simp] theorem loopLock_publish (s : State) : loopLock (publish s) = loopLock s := by simp [publish]

@[simp] theorem loopLock_putAstState (a : Nat) (s : State) : loopLock (putAstState a s) = loopLock s := by simp [putAstState]

@[simp] theorem loopLock_astJudge (s : State) : loopLock (astJudge s) = loopLock s := by simp [astJudge]

@[simp] theorem loopLock_unpublish (s : State) : loopLock (unpublish s) = loopLock s := by
  have hkeys : ∀ f ∈ AST_STAT_GEN :: AST_EVT_DONE :: resultFields, 41955328 ≤ fldKey f := by decide +kernel
  unfold unpublish
  split
  · rfl
  · split
    · rfl
    · rw [loopLock_modAst, loopLock_forEach_mem _ _ fun f hf u => loopLock_put (offLock_of_le (hkeys f hf)) _ u]

@[simp] theorem loopLock_astCompute (s : State) : loopLock (astCompute s) = loopLock s := by simp [astCompute]

@[simp] theorem loopLock_astEval (a : Bool) (s : State) : loopLock (astEval a s) = loopLock s := by
  unfold astEval
  dsimp only
  repeat' split
  all_goals simp

/-! #### Queues of MNS, CRL and PTP -/

@[simp] theorem loopLock_zqTake (a : Queue Postmark × Nat × Bool) (s : State) : loopLock (zqTake a s) = loopLock s := by simp [zqTake]

@[simp] theorem loopLock_zqLevel (s : State) : loopLock (zqLevel s) = loopLock s := by simp [zqLevel]

@[simp] theorem loopLock_zqGap (t src : Nat) (s : State) : loopLock (zqGap t src s) = loopLock s := by simp [zqGap]

@[simp] theorem loopLock_linkTsTake (a : Nat) (b : Queue Postmark × Nat × Bool) (s : State) : loopLock (linkTsTake a b s) = loopLock s :=
  by simp [linkTsTake]

@[simp] theorem loopLock_linkTsLevel (a : Nat) (s : State) : loopLock (linkTsLevel a s) = loopLock s := by simp [linkTsLevel]

@[simp] theorem loopLock_linkTsGap (k t src : Nat) (s : State) : loopLock (linkTsGap k t src s) = loopLock s := by simp [linkTsGap]

@[simp] theorem loopLock_portTsTake (a : Nat) (b : Queue Postmark × Nat × Bool) (s : State) : loopLock (portTsTake a b s) = loopLock s :=
  by simp [portTsTake]

@[simp] theorem loopLock_portTsGap (p t src : Nat) (s : State) : loopLock (portTsGap p t src s) = loopLock s := by simp [portTsGap]

@[simp] theorem loopLock_zqCut (s : State) : loopLock (zqCut s) = loopLock s := by simp [zqCut]

@[simp] theorem loopLock_portTsCut (p : Nat) (s : State) : loopLock (portTsCut p s) = loopLock s := by simp [portTsCut]

@[simp] theorem loopLock_linkTsCut (k : Nat) (s : State) : loopLock (linkTsCut k s) = loopLock s := by simp [linkTsCut]

/-! #### Memories and saves -/

@[simp] theorem loopLock_mwr (a : Nat) (l : List Byte) (s : State) : loopLock (mwr a l s) = loopLock s := by simp [mwr]

@[simp] theorem loopLock_putCram (i v : Nat) (s : State) : loopLock (putCram i v s) = loopLock s := (rfl)

@[simp] theorem loopLock_putCram64 (a b : Nat) (s : State) : loopLock (putCram64 a b s) = loopLock s := by simp [putCram64]

@[simp] theorem loopLock_stopMarch (s : State) : loopLock (stopMarch s) = loopLock s := by simp [stopMarch]

@[simp] theorem loopLock_beginSave (a : Nat) (s : State) : loopLock (beginSave a s) = loopLock s := by simp [beginSave]

@[simp] theorem loopLock_triggerSave (a : Nat) (s : State) : loopLock (triggerSave a s) = loopLock s := by
  unfold triggerSave
  split <;> simp

@[simp] theorem loopLock_progNext (s : State) : loopLock (progNext s) = loopLock s := by simp [progNext]

theorem loopLock_foldl {α : Type} {f : State → α → State} (l : List α) (s : State) (hf : ∀ u a, loopLock (f u a) = loopLock u) :
    loopLock (l.foldl f s) = loopLock s := loopLock_forEach (f := fun a u => f u a) l s fun a u => hf u a

@[simp] theorem loopLock_flushWb (s : State) : loopLock (flushWb s) = loopLock s := by
  have hpages : ∀ (u : State) (it : WbItem), loopLock (it.pages.foldl (fun u p => mwr (pageAt p.1) p.2 u) u) = loopLock u :=
    fun u it => loopLock_foldl _ _ fun u p => loopLock_mwr _ _ u
  simp [flushWb, loopLock_foldl _ _ hpages]

@[simp] theorem loopLock_wbOffer (a : WbItem) (s : State) : loopLock (wbOffer a s) = loopLock s := by simp [wbOffer]

@[simp] theorem loopLock_pbClear (s : State) : loopLock (pbClear s) = loopLock s := by
  rw [pbClear, loopLock_forEach _ _ fun w u => by simp, loopLock_modNvm]

@[simp] theorem loopLock_linkEvent (a : Nat) (b : List Byte) (s : State) : loopLock (linkEvent a b s) = loopLock s := by simp [linkEvent]

/-! #### DPLLs -/

@[simp] theorem loopLock_fineFix (a : Nat) (s : State) : loopLock (fineFix a s) = loopLock s := by simp [fineFix]

@[simp] theorem loopLock_synTouch (a : Nat) (s : State) : loopLock (synTouch a s) = loopLock s := by simp [synTouch]

@[simp] theorem loopLock_commitAim (a : Nat) (s : State) : loopLock (commitAim a s) = loopLock s := by simp [commitAim]

@[simp] theorem loopLock_wordTo (a : Nat) (b : Int) (c : Nat) (s : State) : loopLock (wordTo a b c s) = loopLock s := by simp [wordTo]

@[simp] theorem loopLock_deliverTo (a : Nat) (b : Int) (s : State) : loopLock (deliverTo a b s) = loopLock s := by simp [deliverTo]

@[simp] theorem loopLock_setWord (a : Nat) (b : Int) (s : State) : loopLock (setWord a b s) = loopLock s := by simp [setWord]

@[simp] theorem loopLock_histPush (a : Nat) (s : State) : loopLock (histPush a s) = loopLock s := by simp [histPush]

@[simp] theorem loopLock_avgUpdate (a : Nat) (s : State) : loopLock (avgUpdate a s) = loopLock s := by simp [avgUpdate]

@[simp] theorem loopLock_showHoFreq (a : Nat) (s : State) : loopLock (showHoFreq a s) = loopLock s := by simp [showHoFreq]

@[simp] theorem loopLock_wordLim (a : Nat) (b c : Int) (s : State) : loopLock (wordLim a b c s) = loopLock s := by
  unfold wordLim
  dsimp only
  split <;> simp

@[simp] theorem loopLock_wordPut (a : Nat) (b : Int) (s : State) : loopLock (wordPut a b s) = loopLock s := by simp [wordPut]

@[simp] theorem loopLock_wordUpdate (d : Nat) (lim w : Int) (s : State) : loopLock (wordUpdate d lim w s) = loopLock s := by
  unfold wordUpdate
  dsimp only
  split
  · rw [loopLock_put (by simp), loopLock_wordLim]
  · exact loopLock_wordLim d lim w s

@[simp] theorem loopLock_holdoverUpdate (d : Nat) (uses : Bool) (s : State) : loopLock (holdoverUpdate d uses s) = loopLock s := by
  simp [holdoverUpdate]

@[simp] theorem loopLock_inSpecEval (a : Nat) (s : State) : loopLock (inSpecEval a s) = loopLock s := by simp [inSpecEval]

@[simp] theorem loopLock_minBreak (a : Nat) (s : State) : loopLock (minBreak a s) = loopLock s := by simp [minBreak]

@[simp] theorem loopLock_evtBack {f : Fld} (hf : OffLock (fldKey f)) (s : State) : loopLock (evtBack f s) = loopLock s := loopLock_put hf _ s

@[simp] theorem loopLock_lockUndo (a : Nat) (s : State) : loopLock (lockUndo a s) = loopLock s := by simp [lockUndo]

@[simp] theorem loopLock_putDpllState (a b : Nat) (s : State) : loopLock (putDpllState a b s) = loopLock s := by
  unfold putDpllState
  extract_lets s1 old s2 s3 p s4 s5 s6 s7 s8
  have h1 : loopLock s1 = loopLock s := by simp [s1]
  have h3 : loopLock s3 = loopLock s := by simp [s3, s2, h1]
  have h4 : loopLock s4 = loopLock s := by simp [s4, h3]
  have h6 : loopLock s6 = loopLock s := by simp [s6, s5, h4]
  have h8 : loopLock s8 = loopLock s := by simp [s8, s7, h6]
  split
  · exact h1
  · simp [h8]

@[simp] theorem loopLock_restartInteg (d : Nat) (s : State) : loopLock (restartInteg d s) = loopLock s := by simp [restartInteg]

@[simp] theorem loopLock_frwUndo (d : Nat) (s : State) : loopLock (frwUndo d s) = loopLock s := by
  unfold frwUndo
  split <;> simp

@[simp] theorem loopLock_toAcquiring (d : Nat) (s : State) : loopLock (toAcquiring d s) = loopLock s := by simp [toAcquiring]

@[simp] theorem loopLock_toFreerun (a : Nat) (s : State) : loopLock (toFreerun a s) = loopLock s := by simp [toFreerun]

@[simp] theorem loopLock_enterHoldover (d : Nat) (s : State) : loopLock (enterHoldover d s) = loopLock s := by simp [enterHoldover]

@[simp] theorem loopLock_inputLost (d : Nat) (s : State) : loopLock (inputLost d s) = loopLock s := by simp [inputLost]

@[simp] theorem loopLock_moveAcc (a : Nat) (b : Int) (s : State) : loopLock (moveAcc a b s) = loopLock s := by simp [moveAcc]

@[simp] theorem loopLock_slewSet (a : Nat) (b : Int) (s : State) : loopLock (slewSet a b s) = loopLock s := by simp [slewSet]

@[simp] theorem loopLock_stepUndo (d : Nat) (s : State) : loopLock (stepUndo d s) = loopLock s := by
  unfold stepUndo
  split <;> simp

@[simp] theorem loopLock_avgDrop (a : Nat) (s : State) : loopLock (avgDrop a s) = loopLock s := by simp [avgDrop]

/-! #### The selectors -/

@[simp] theorem loopLock_disEval (d : Nat) (s : State) : loopLock (disEval d s) = loopLock s := by
  unfold disEval
  split <;> simp

@[simp] theorem loopLock_selMark (a b : Nat) (s : State) : loopLock (selMark a b s) = loopLock s := by simp [selMark]

@[simp] theorem loopLock_selEval (a : Nat) (s : State) : loopLock (selEval a s) = loopLock s := by simp [selEval]

@[simp] theorem loopLock_selFix (d : Nat) (s : State) : loopLock (selFix d s) = loopLock s := by simp [selFix]

@[simp] theorem loopLock_evtTo {f : Fld} (hf : OffLock (fldKey f)) (v : Nat) (s : State) : loopLock (evtTo f v s) = loopLock s := by simp [evtTo, hf]

@[simp] theorem loopLock_selBack (d : Nat) (w : SelWas) (s : State) : loopLock (selBack d w s) = loopLock s := by simp [selBack]

@[simp] theorem loopLock_bridgeEval (a : Nat) (s : State) : loopLock (bridgeEval a s) = loopLock s := by simp [bridgeEval]

@[simp] theorem loopLock_selIdle (a : Nat) (s : State) : loopLock (selIdle a s) = loopLock s := by simp [selIdle]

@[simp] theorem loopLock_selEnd (a b : Nat) (s : State) : loopLock (selEnd a b s) = loopLock s := by simp [selEnd]

@[simp] theorem loopLock_toPrepare (d : Nat) (s : State) : loopLock (toPrepare d s) = loopLock s := by simp [toPrepare]

@[simp] theorem loopLock_selBegin (d t why : Nat) (noHold : Bool) (s : State) : loopLock (selBegin d t why noHold s) = loopLock s := by
  simp [selBegin]

@[simp] theorem loopLock_selNone (d : Nat) (s : State) : loopLock (selNone d s) = loopLock s := by simp [selNone]

@[simp] theorem loopLock_forcedEval (d : Nat) (s : State) : loopLock (forcedEval d s) = loopLock s := by simp [forcedEval]

@[simp] theorem loopLock_lossEval (d : Nat) (s : State) : loopLock (lossEval d s) = loopLock s := by
  unfold lossEval
  split <;> simp

@[simp] theorem loopLock_actQlEval (d : Nat) (s : State) : loopLock (actQlEval d s) = loopLock s := by
  unfold actQlEval
  split <;> simp

@[simp] theorem loopLock_selTry (d t : Nat) (noHold : Bool) (s : State) : loopLock (selTry d t noHold s) = loopLock s := by simp [selTry]

@[simp] theorem loopLock_selCompute (d bits : Nat) (s : State) : loopLock (selCompute d bits s) = loopLock s := by
  unfold selCompute
  extract_lets u
  have hu : loopLock u = loopLock s := by simp [u]
  clear_value u
  split
  · simp [hu]
  next was v newLoss modeWr p target t ht =>
    have hv : loopLock v = loopLock s := by simp [v, hu]
    simp [hv]

@[simp] theorem loopLock_selRun (d : Nat) (s : State) : loopLock (selRun d s) = loopLock s := by
  unfold selRun
  extract_lets due u again bits v w x
  have hu : loopLock u = loopLock s := by simp [u]
  have hv : loopLock v = loopLock s := by
    clear_value again
    simp only [v]
    split <;> simp [hu]
  have hx : loopLock x = loopLock s := by simp [x, hv]
  clear_value u v x
  simp [hu, hx]

@[simp] theorem loopLock_selSlotChanged (a : Nat) (s : State) : loopLock (selSlotChanged a s) = loopLock s := by simp [selSlotChanged]

@[simp] theorem loopLock_selProducer (i : Nat) (s : State) : loopLock (selProducer i s) = loopLock s := by simp [selProducer]

@[simp] theorem loopLock_dropActive (d why : Nat) (s : State) : loopLock (dropActive d why s) = loopLock s := by simp [dropActive]

@[simp] theorem loopLock_selBlockReset (s : State) : loopLock (selBlockReset s) = loopLock s := by simp [selBlockReset]

/-! #### Slots and inputs -/

@[simp] theorem loopLock_slotPublish (a b c : Nat) (s : State) : loopLock (slotPublish a b c s) = loopLock s := by simp [slotPublish]

@[simp] theorem loopLock_slotDrop (a : Nat) (s : State) : loopLock (slotDrop a s) = loopLock s := by simp [slotDrop]

@[simp] theorem loopLock_slotEval (a : Nat) (s : State) : loopLock (slotEval a s) = loopLock s := by simp [slotEval]

@[simp] theorem loopLock_setSrc (a : Nat) (b : Bool) (c : Nat) (s : State) : loopLock (setSrc a b c s) = loopLock s := by simp [setSrc]

@[simp] theorem loopLock_setSrcOk (a : Nat) (b : Bool) (s : State) : loopLock (setSrcOk a b s) = loopLock s := by simp [setSrcOk]

@[simp] theorem loopLock_slotsOfBlock (b : Nat) (s : State) : loopLock (slotsOfBlock b s) = loopLock s := by simp [slotsOfBlock]

@[simp] theorem loopLock_pinStart (a : Nat) (s : State) : loopLock (pinStart a s) = loopLock s := by simp [pinStart]

@[simp] theorem loopLock_todStart (a : Nat) (s : State) : loopLock (todStart a s) = loopLock s := by simp [todStart]

@[simp] theorem loopLock_refRestart (s : State) : loopLock (refRestart s) = loopLock s := by simp [refRestart]

/-! #### The clock's state, PTP and ESMC -/

@[simp] theorem loopLock_recordLock (s : State) : loopLock (recordLock s) = loopLock s := by
  unfold recordLock
  dsimp only
  split
  · rfl
  · split <;> rw [loopLock_put (by simp), loopLock_withPtp]

@[simp] theorem loopLock_clkEval (s : State) : loopLock (clkEval s) = loopLock s := by simp [clkEval]

@[simp] theorem loopLock_ptpErr {f : Fld} (hf : OffLock (fldKey f)) (e : Bool) (s : State) : loopLock (ptpErr f e s) = loopLock s := by
  simp [ptpErr, hf]

@[simp] theorem loopLock_saEval (s : State) : loopLock (saEval s) = loopLock s := by
  unfold saEval
  split
  · rfl
  · exact loopLock_forEach _ _ fun i u => by simp

@[simp] theorem loopLock_enqueue (p j : Nat) (e : Egress) (s : State) : loopLock (enqueue p j e s) = loopLock s := by simp [enqueue]

@[simp] theorem loopLock_esmcSend (p : Nat) (event : Bool) (s : State) : loopLock (esmcSend p event s) = loopLock s := by simp [esmcSend]

@[simp] theorem loopLock_esmcEval (s : State) : loopLock (esmcEval s) = loopLock s := by simp [esmcEval]

@[simp] theorem loopLock_ptpFollow (s : State) : loopLock (ptpFollow s) = loopLock s := by simp [ptpFollow]

/-! #### SCH -/

@[simp] theorem loopLock_putEnt (a : Nat) (b : EntW) (s : State) : loopLock (putEnt a b s) = loopLock s := by simp [putEnt]

@[simp] theorem loopLock_entBack (a : Nat) (s : State) : loopLock (entBack a s) = loopLock s := by simp [entBack]

@[simp] theorem loopLock_putScanT (a : Nat) (s : State) : loopLock (putScanT a s) = loopLock s := by simp [putScanT]

@[simp] theorem loopLock_putLast (i x : Nat) (j : Inst) (s : State) : loopLock (putLast i x j s) = loopLock s := by simp [putLast]

@[simp] theorem loopLock_absSpent (a : Nat) (s : State) : loopLock (absSpent a s) = loopLock s := by simp [absSpent]

@[simp] theorem loopLock_absPassed (a : Nat) (s : State) : loopLock (absPassed a s) = loopLock s := by simp [absPassed]

@[simp] theorem loopLock_oqTake (a : Queue OutRec × Nat × Bool) (s : State) : loopLock (oqTake a s) = loopLock s := by simp [oqTake]

@[simp] theorem loopLock_oqLevel (s : State) : loopLock (oqLevel s) = loopLock s := by simp [oqLevel]

@[simp] theorem loopLock_oqIn (a : OutRec) (s : State) : loopLock (oqIn a s) = loopLock s := by simp [oqIn]

@[simp] theorem loopLock_oqGap (t : Nat) (s : State) : loopLock (oqGap t s) = loopLock s := by simp [oqGap]

@[simp] theorem loopLock_emitReady (s : State) : loopLock (emitReady s) = loopLock s := by simp [emitReady]

@[simp] theorem loopLock_openPlace (a : Nat) (s : State) : loopLock (openPlace a s).2 = loopLock s := by simp [openPlace]

@[simp] theorem loopLock_closePlace (a : Nat) (b : OutRec) (s : State) : loopLock (closePlace a b s) = loopLock s := by simp [closePlace]

@[simp] theorem loopLock_rcDone (a : Nat) (s : State) : loopLock (rcDone a s) = loopLock s := by simp [rcDone]

@[simp] theorem loopLock_rcFinal (a b c d : Nat) (s : State) : loopLock (rcFinal a b c d s) = loopLock s := by
  unfold rcFinal
  dsimp only
  repeat' split
  all_goals simp

@[simp] theorem loopLock_finish (a : Nat) (b : ActS) (c : OutRec) (s : State) : loopLock (finish a b c s) = loopLock s := by
  unfold finish
  dsimp only
  repeat' split
  all_goals simp

@[simp] theorem loopLock_putChanState (a : Nat) (b : Bool) (s : State) : loopLock (putChanState a b s) = loopLock s := by simp [putChanState]

@[simp] theorem loopLock_bumpOps (a : Nat) (s : State) : loopLock (bumpOps a s) = loopLock s := by simp [bumpOps]

@[simp] theorem loopLock_startPulse (a b : Nat) (c : Bool) (d : Nat) (s : State) : loopLock (startPulse a b c d s) = loopLock s := by
  simp [startPulse]

@[simp] theorem loopLock_awaitFb (a b : Nat) (c : ActS) (d e : Bool) (s : State) : loopLock (awaitFb a b c d e s) = loopLock s := by simp [awaitFb]

@[simp] theorem loopLock_chOne (a : Nat) (b : Bool) (c : Nat) (d : ActS) (s : State) : loopLock (chOne a b c d s) = loopLock s := by
  unfold chOne
  dsimp only
  repeat' split
  all_goals simp

@[simp] theorem loopLock_chRun (a : Nat) (l : List (Nat × ActS)) (s : State) : loopLock (chRun a l s) = loopLock s := by
  induction l generalizing s with
  | nil => rfl
  | cons p r ih =>
    unfold chRun
    split
    · simp
    · rw [ih, loopLock_chOne]

@[simp] theorem loopLock_targetErr (a : ActS) (s : State) : loopLock (targetErr a s) = loopLock s := by simp [targetErr]

@[simp] theorem loopLock_chDo (a : Nat) (b : List ActS) (s : State) : loopLock (chDo a b s) = loopLock s := by
  have hopen : ∀ (l : List ActS) (x : List (Nat × ActS) × State),
      loopLock (l.foldl (fun x c => (x.1 ++ [((openPlace a x.2).1, c)], (openPlace a x.2).2)) x).2 = loopLock x.2 := by
    intro l
    induction l with
    | nil => exact fun _ => rfl
    | cons c r ih => exact fun x => (ih _).trans (loopLock_openPlace _ _)
  rw [chDo, loopLock_forEach _ _ fun c u => by simp, loopLock_chRun, hopen]

@[simp] theorem loopLock_pulseOff (n : Nat) (s : State) : loopLock (pulseOff n s) = loopLock s := by simp [pulseOff]

@[simp] theorem loopLock_dropWaiting (n : Nat) (s : State) : loopLock (dropWaiting n s) = loopLock s := by simp [dropWaiting]

@[simp] theorem loopLock_cutPulse (n : Nat) (s : State) : loopLock (cutPulse n s) = loopLock s := by simp [cutPulse]

@[simp] theorem loopLock_chFail (n ms : Nat) (s : State) : loopLock (chFail n ms s) = loopLock s := by simp [chFail]

@[simp] theorem loopLock_allFail (ms : Nat) (s : State) : loopLock (allFail ms s) = loopLock s := by simp [allFail]

@[simp] theorem loopLock_schDead (s : State) : loopLock (schDead s) = loopLock s := by simp [schDead]

@[simp] theorem loopLock_fireLoads (n : Nat) (l : List LoadedS) (s : State) : loopLock (fireLoads n l s) = loopLock s := by simp [fireLoads]

@[simp] theorem loopLock_scanMove (s : State) : loopLock (scanMove s) = loopLock s := by
  unfold scanMove
  dsimp only
  repeat' split
  all_goals simp

@[simp] theorem loopLock_saveWith (a : Nat) (s : State) : loopLock (saveWith a s) = loopLock s := by simp [saveWith]

@[simp] theorem loopLock_recoverAsk (w : RecovWhy) (s : State) : loopLock (recoverAsk w s) = loopLock s := by simp [recoverAsk]

@[simp] theorem loopLock_clearLoads (s : State) : loopLock (clearLoads s) = loopLock s := by simp [clearLoads]

@[simp] theorem loopLock_lateInstances (s : State) : loopLock (lateInstances s) = loopLock s := by simp [lateInstances]

@[simp] theorem loopLock_schMoved (d : Int) (s : State) : loopLock (schMoved d s) = loopLock s := by simp [schMoved]

@[simp] theorem loopLock_setEnts (l : List (Nat × EntW)) (s : State) : loopLock (setEnts l s) = loopLock s := by simp [setEnts]

@[simp] theorem loopLock_rebuildEnts (s : State) : loopLock (rebuildEnts s) = loopLock s := by simp [rebuildEnts]

@[simp] theorem loopLock_schClear (s : State) : loopLock (schClear s) = loopLock s := by simp [schClear]

@[simp] theorem loopLock_schReset (t0 : Nat) (s : State) : loopLock (schReset t0 s) = loopLock s := by simp [schReset]

/-! #### CRL -/

@[simp] theorem loopLock_linkCfgEval (a : Nat) (s : State) : loopLock (linkCfgEval a s) = loopLock s := by simp [linkCfgEval]

@[simp] theorem loopLock_linksCfgEval (s : State) : loopLock (linksCfgEval s) = loopLock s := by simp [linksCfgEval]

@[simp] theorem loopLock_folPublish (a : Option Nat) (s : State) : loopLock (folPublish a s) = loopLock s := by
  unfold folPublish
  dsimp only
  repeat' split
  all_goals simp

@[simp] theorem loopLock_folEval (s : State) : loopLock (folEval s) = loopLock s := by
  unfold folEval
  extract_lets s1 s2 s3
  have h1 : loopLock s1 = loopLock s := loopLock_forEach _ _ fun k u => by simp
  have h2 : loopLock s2 = loopLock s := by simp [s2, h1]
  have h3 : loopLock s3 = loopLock s := by
    simp only [s3]
    split
    · simp [h1, h2]
    · exact h1
  clear_value s3
  split
  · simp [h3]
  · split <;> simp [h3]

@[simp] theorem loopLock_abandonFrames (k : Nat) (s : State) : loopLock (abandonFrames k s) = loopLock s := by
  unfold abandonFrames
  extract_lets u v
  have hu : loopLock u = loopLock s := by
    simp only [u]
    split
    · split <;> simp
    · rfl
  rw [loopLock_modCrl, loopLock_modLink, hu]

@[simp] theorem loopLock_crlBlockReset (t0 : Nat) (s : State) : loopLock (crlBlockReset t0 s) = loopLock s := by simp [crlBlockReset]

/-! #### MNS -/

@[simp] theorem loopLock_putChState (a b : Nat) (s : State) : loopLock (putChState a b s) = loopLock s := by simp [putChState]

@[simp] theorem loopLock_acquire (a : Nat) (b : Int) (c : Bool) (s : State) : loopLock (acquire a b c s) = loopLock s := by simp [acquire]

@[simp] theorem loopLock_chanOff (a : Nat) (s : State) : loopLock (chanOff a s) = loopLock s := by simp [chanOff]

@[simp] theorem loopLock_gridValid (s : State) : loopLock (gridValid s) = loopLock s := by simp [gridValid]

@[simp] theorem loopLock_dropD (s : State) : loopLock (dropD s) = loopLock s := by simp [dropD]

@[simp] theorem loopLock_startExtrap (a : Int) (s : State) : loopLock (startExtrap a s) = loopLock s := by simp [startExtrap]

@[simp] theorem loopLock_gridKeep (s : State) : loopLock (gridKeep s) = loopLock s := by simp [gridKeep]

@[simp] theorem loopLock_putSeq (a b : Nat) (s : State) : loopLock (putSeq a b s) = loopLock s := by
  unfold putSeq
  dsimp only
  repeat' split
  all_goals simp

@[simp] theorem loopLock_sequenceCheck (a : Nat) (s : State) : loopLock (sequenceCheck a s) = loopLock s := by simp [sequenceCheck]

@[simp] theorem loopLock_seqDrop (s : State) : loopLock (seqDrop s) = loopLock s := by simp [seqDrop]

@[simp] theorem loopLock_gridMove (d : Int) (s : State) : loopLock (gridMove d s) = loopLock s := by simp [gridMove]

@[simp] theorem loopLock_chansRestart (s : State) : loopLock (chansRestart s) = loopLock s := by simp [chansRestart]

@[simp] theorem loopLock_gridHold (s : State) : loopLock (gridHold s) = loopLock s := by simp [gridHold]

/-! #### PMU -/

@[simp] theorem loopLock_unitClear (a : Nat) (s : State) : loopLock (unitClear a s) = loopLock s := by simp [unitClear]

@[simp] theorem loopLock_unitWait (a : Nat) (s : State) : loopLock (unitWait a s) = loopLock s := by simp [unitWait]

@[simp] theorem loopLock_unitEval (a : Nat) (s : State) : loopLock (unitEval a s) = loopLock s := by simp [unitEval]

@[simp] theorem loopLock_unitsEval (s : State) : loopLock (unitsEval s) = loopLock s := by simp [unitsEval]

@[simp] theorem loopLock_pmuInterrupt (s : State) : loopLock (pmuInterrupt s) = loopLock s := loopLock_forEach _ _ fun b u => by simp

@[simp] theorem loopLock_pmuReset (s : State) : loopLock (pmuReset s) = loopLock s := by simp [pmuReset]

/-! #### PTP ports -/

@[simp] theorem loopLock_annRestart (a : Nat) (s : State) : loopLock (annRestart a s) = loopLock s := by simp [annRestart]

@[simp] theorem loopLock_enterPort (a b : Nat) (s : State) : loopLock (enterPort a b s) = loopLock s := by
  unfold enterPort
  dsimp only
  repeat' split
  all_goals simp

@[simp] theorem loopLock_dropParent (a : Nat) (s : State) : loopLock (dropParent a s) = loopLock s := by
  unfold dropParent
  split
  · split <;> simp
  · rfl

@[simp] theorem loopLock_portEval (a : Nat) (s : State) : loopLock (portEval a s) = loopLock s := by simp [portEval]

@[simp] theorem loopLock_portInit (a : Nat) (s : State) : loopLock (portInit a s) = loopLock s := by simp [portInit]

@[simp] theorem loopLock_dropEvents (a : Nat) (s : State) : loopLock (dropEvents a s) = loopLock s := by simp [dropEvents]

@[simp] theorem loopLock_portsRestart (s : State) : loopLock (portsRestart s) = loopLock s := by simp [portsRestart]

@[simp] theorem loopLock_ptpReset (t0 : Nat) (s : State) : loopLock (ptpReset t0 s) = loopLock s := by
  rw [ptpReset, loopLock_portsRestart, loopLock_forEach _ _ fun p u => by simp]

/-! #### Modes and block resets -/

@[simp] theorem loopLock_irigLost (s : State) : loopLock (irigLost s) = loopLock s := by simp [irigLost]

@[simp] theorem loopLock_putMode (v : Nat) (s : State) : loopLock (putMode v s) = loopLock s := by simp [putMode, modeFields]

@[simp] theorem loopLock_genUndo (s : State) : loopLock (genUndo s) = loopLock s := by simp [genUndo]

@[simp] theorem loopLock_resetBlock (b t0 : Nat) (s : State) : loopLock (resetBlock b t0 s) = loopLock s := by
  unfold resetBlock
  split
  case h_4 => rw [loopLock_put (by simp), loopLock_withCommit, loopLock_forEach _ _ fun k u => by simp]; simp
  all_goals simp

/-! #### The reset sequence -/

@[simp] theorem loopLock_latchForms (s : State) : loopLock (latchForms s) = loopLock s := by simp [latchForms]

@[simp] theorem loopLock_rstNext (s : State) : loopLock (rstNext s) = loopLock s := by simp [rstNext]

@[simp] theorem loopLock_rstBalls (s : State) : loopLock (rstBalls s) = loopLock s := by simp [rstBalls]

@[simp] theorem loopLock_hostOff (s : State) : loopLock (hostOff s) = loopLock s := by simp [hostOff]

/-- the fields of the blocks up to PMU lie in a word -/
theorem lo_of_upToPmu : ∀ b < 6, ∀ r ∈ regRows b, ∀ f ∈ r.flds, f.2.1 < 32 := by decide +kernel

/-- LOOP_LOCK is none of the fields that a host access changes -/
theorem loopLock_readOnly : ∀ a ∈ [0x500038, 0x500039, 0x50003A, 0x50003B], ∀ p ∈ fieldsAt a,
    p.2 = 1 ∨ p.2 = 2 ∨ p.2 = 4 → fldKey p.1 ≠ 41943519 := by decide +kernel

theorem offLock_of_access {addr : Nat} {p : Fld × Nat} (hp : p ∈ fieldsAt addr) (hc : p.2 = 1 ∨ p.2 = 2 ∨ p.2 = 4) : OffLock (fldKey p.1) := by
  intro hkey
  have hmem := hp
  unfold fieldsAt at hmem
  split at hmem
  case h_2 => exact absurd hmem List.not_mem_nil
  case h_1 r hr =>
    obtain ⟨f, hf, hfp⟩ := List.mem_map.1 hmem
    have haddr : addr * 8 + f.2.1 = 41943519 := by rwa [← hfp] at hkey
    have hlo : f.2.1 < 32 := lo_of_upToPmu (addr / 2 ^ 20) (by omega) r (List.mem_of_find?_eq_some hr) f hf
    have ha : addr ∈ [0x500038, 0x500039, 0x50003A, 0x50003B] := by
      simp only [List.mem_cons, List.not_mem_nil, or_false]
      clear hr hf hp hmem hkey hfp hc
      omega
    exact loopLock_readOnly addr ha p hp hc hkey

theorem loopLock_entryField {addr : Nat} {p : Fld × Nat} (hp : p ∈ fieldsAt addr) (s : State) : loopLock (entryField p s) = loopLock s := by
  have hoff := offLock_of_access hp
  unfold entryField
  split
  next hc => exact loopLock_put (hoff (.inl hc)) _ s
  next hc => exact loopLock_put (hoff (.inr (.inr hc))) _ s
  next hc => exact loopLock_put (hoff (.inr (.inl hc))) _ s
  next => rfl

@[simp] theorem loopLock_entryUndo (s : State) : loopLock (entryUndo s) = loopLock s := by
  unfold entryUndo
  split
  · rw [loopLock_forEach_mem _ _ fun p hp u => loopLock_entryField hp u]
    simp
  · rfl

@[simp] theorem loopLock_rstAssert (src : Nat) (s : State) : loopLock (rstAssert src s) = loopLock s := by
  unfold rstAssert
  dsimp only
  split <;> simp

@[simp] theorem loopLock_fltReset (s : State) : loopLock (fltReset s) = loopLock s := by simp [fltReset]

/-! #### The collector -/

@[simp] theorem loopLock_putInst (i v : Nat) (s : State) : loopLock (putInst i v s) = loopLock s := by simp [putInst]

@[simp] theorem loopLock_quietRestart (s : State) : loopLock (quietRestart s) = loopLock s := by simp [quietRestart]

@[simp] theorem loopLock_enterFault (s : State) : loopLock (enterFault s) = loopLock s := by simp [enterFault]

@[simp] theorem loopLock_enterSafe (s : State) : loopLock (enterSafe s) = loopLock s := by simp [enterSafe]

@[simp] theorem loopLock_blockReset (b : Nat) (s : State) : loopLock (blockReset b s) = loopLock s := by
  unfold blockReset
  split <;> simp

@[simp] theorem loopLock_vecSet {f : Nat → Fld} (hf : ∀ k, OffLock (fldKey (f k))) (i : Nat) (s : State) :
    loopLock (vecSet f i s) = loopLock s := by
  simp [vecSet, hf]

@[simp] theorem loopLock_takeFirst (l : List Nat) (s : State) : loopLock (takeFirst l s) = loopLock s := by
  unfold takeFirst
  extract_lets c multi
  have hmulti : ∀ u, loopLock (multi u) = loopLock u := fun u => by simp [multi]
  clear_value multi
  split
  · rfl
  · split
    · simp [hmulti]
    · split <;> simp [hmulti]

@[simp] theorem loopLock_collect (s : State) : loopLock (collect s) = loopLock s := by
  unfold collect
  extract_lets l s1 m s2 l' src s3 s4 safe r set any s5 blocks s6 s7 s8
  have h2 : loopLock s2 = loopLock s := loopLock_forEach _ _ fun p u => loopLock_vecSet (fun k => by simp) p.1 u
  have h3 : loopLock s3 = loopLock s := by
    rw [← h2]
    refine loopLock_forEach _ _ fun p u => ?_
    dsimp only
    split <;> simp
  have h5 : loopLock s5 = loopLock s := by simp [s5, s4, h3]
  have h6 : loopLock s6 = loopLock s := by
    clear_value s5
    simp [s6, h5]
  have h7 : loopLock s7 = loopLock s := by
    clear_value s6
    simp [s7, h6]
  have h8 : loopLock s8 = loopLock s := by
    clear_value s7
    simp [s8, h7]
  clear_value s8
  simp [h8]

/-! #### Settling -/

@[simp] theorem loopLock_followMove (s : State) : loopLock (followMove s) = loopLock s := by
  unfold followMove
  split <;> simp

@[simp] theorem loopLock_settleOnce (s : State) : loopLock (settleOnce s) = loopLock s := by simp [settleOnce]

theorem loopLock_settleN (n : Nat) (s : State) : loopLock (settleN n s) = loopLock s := by
  induction n generalizing s with
  | zero => rfl
  | succ n ih => simp [settleN, ih]

@[simp] theorem loopLock_settle (s : State) : loopLock (settle s) = loopLock s := loopLock_settleN 8 s

/-- the end of a command leaves LOOP_LOCK as the command itself brought it about -/
@[simp] theorem loopLock_closed (s u : State) : loopLock (closed s u) = loopLock u := (rfl)

/-- what a command itself brings about has the LOOP_LOCK of the state that the command answers -/
theorem loopLock_of_brings {c : Instr} {s t v : State} (hv : Brings c s v) (ht : exec c s = .next t) : loopLock v = loopLock t := by
  have hnext : Host.Outcome.next (closed s (settle v)) = .next t := hv.symm.trans ht
  injection hnext with hclosed
  rw [← hclosed, loopLock_closed, loopLock_settle]

/-! ### The loop check (R132) -/

/-- LOOP_LOCK of slice 0 holds 3, a value that one bit cannot have; everything else is as before the first reset -/
def lockHoldsThree : State := { regs := [(fldKey (PMU_PMn_CALSTAT_LOOP_LOCK 0), 3)] }

theorem lockHoldsThree_between : Between lockHoldsThree := by
  simp only [Between]
  decide

/-- a check that finds the replica 5 taps off leaves a LOOP_LOCK that is not 1 as it is -/
theorem loopLock_loopCheck_lockHoldsThree : loopLock (loopCheck 0 5 (pass 0 lockHoldsThree)) = 3 := by decide +kernel

/-- Refutes O29: a check beyond 4 taps clears a LOOP_LOCK of 1 and leaves any other value as it is. The statement has it even in any case, and no
hypothesis of it says that the field holds the value of one bit. -/
theorem not_slicesAreCalibrated : ¬ Obligations.SlicesAreCalibrated := by
  unfold Obligations.SlicesAreCalibrated
  intro h
  obtain ⟨hcheck, -⟩ := h 0 0 5 [] [] lockHoldsThree lockHoldsThree_between (by decide)
  obtain ⟨v, hv, -, hlock, -⟩ := hcheck
  have hv3 : loopLock v = 3 := by
    rw [loopLock_of_brings hv (done_next _ _), loopLock_closed, loopLock_settle]
    exact loopLock_loopCheck_lockHoldsThree
  have hodd : loopLock v % 2 = 0 := hlock
  rw [hv3] at hodd
  exact absurd hodd (by decide)

end Sys2Proof.PostmarkUnits

/-! Reference selection (O30, O31, O33): the ends of the stages of a switch and of the dwell period, the commands of a selector, the seconds of
a holdover, the frequency estimates and the temperature. What a selector does before it computes its target is followed in `Within`; what a
second of HOLDOVER changes is collected in `Delivered`, for the synthesisers, and `HeldOver`, for the DPLL. -/

namespace Sys2Proof.Clocks.Kept
open Sys2Proof.Machine Sys2Proof.Reg
variable {s u : State}

theorem modSel (h : Kept s u) (d : Nat) (f : SelS → SelS) : Kept s (modSel d f u) := ⟨h.pending, h.mram, h.mramJ, h.cram, h.otp⟩

theorem selFix (h : Kept s u) (d : Nat) : Kept s (selFix d u) := ⟨h.pending, h.mram, h.mramJ, h.cram, h.otp⟩

end Sys2Proof.Clocks.Kept

namespace Sys2Proof.Modes
open Sys2Proof.Machine Sys2Proof.Reg Sys2Proof.Safety Sys2Proof.Clocks

/-- a change of a selector that gives it nothing to compute leaves nothing to follow -/
theorem calm_modSel {f : SelS → SelS} (hf : ∀ x, (f x).due = x.due) (d : Nat) (s : State) : calm (modSel d f s) = calm s := by
  have hdue : ∀ k, (ix (modSel d f s).sel k).due = (ix s.sel k).due := by
    intro k
    rw [modSel_sel]
    by_cases hk : d = k
    · subst hk
      by_cases hd : d < 8
      · rw [ix_upd_same _ _ hd, hf]
      · simp [ix, hd]
    · rw [ix_upd_ne _ _ hk]
  simp only [calm, hdue]
  rfl

namespace Within
variable {dt : Nat} {l : List Fld} {s u : State}

theorem modSel (h : Within dt l s u) (d : Nat) {f : SelS → SelS} (hf : ∀ x, (f x).due = x.due) : Within dt l s (modSel d f u) :=
  ⟨h.now, h.regs, h.kept.modSel d f, (calm_modSel hf d u).trans h.quiet⟩

theorem selFix (h : Within dt l s u) (d : Nat) : Within dt l s (selFix d u) := ⟨h.now, h.regs, h.kept.selFix d, h.quiet⟩

end Within

end Sys2Proof.Modes

namespace Sys2Proof.ReferenceSelection
open Sys2Proof.Machine Sys2Proof.Reg Sys2Proof.Safety Sys2Proof.Clocks Sys2Proof.Modes

/-! ### A selector -/

theorem ix_modSel_same {d : Nat} (hd : d < 8) (f : SelS → SelS) (s : State) : ix (modSel d f s).sel d = f (ix s.sel d) := ix_upd_same _ _ hd

/-- between commands no selector has anything to compute -/
theorem due_of_between {d : Nat} {s : State} (hb : Between s) (hd : d < 8) : (ix s.sel d).due = 0 := by
  obtain ⟨hcalm, -⟩ := hb
  obtain ⟨hdue, -⟩ := (calm_iff s).1 hcalm
  exact hdue d hd

theorem add_sub_eq_max (a b : Nat) : a + (b - a) = max a b := by omega

section
variable {dt d bits : Nat} {l : List Fld} {s u : State}

/-- what a command brings about for a selector is left for it to compute from: nothing else follows -/
theorem effects_marked (h : Within dt l s u) (hb : Between s) :
    (selMark d bits u).now = s.now + dt ∧ (selMark d bits u).flt.raised = [] ∧ RegsBut l s (selMark d bits u) ∧ StoresSame s (selMark d bits u) :=
  ⟨h.now, h.raised hb, h.regs, h.storesSame⟩

@[simp] theorem selFix_now : (selFix d s).now = s.now := (rfl)
@[simp] theorem selFix_sel : (selFix d s).sel = s.sel := (rfl)
@[simp] theorem rd_selFix (f : Fld) : rd (selFix d s) f = rd s f := (rfl)

theorem selMark_sel (hd : d < 8) (bits : Nat) (s : State) :
    ix (selMark d bits s).sel d = { ix s.sel d with due := (ix s.sel d).due ||| bits } := ix_modSel_same hd _ s

end

/-! #### BRIDGE (R191) -/

theorem within_bridgeEval {dt d : Nat} {l : List Fld} {s u : State} (h : Within dt l s u) (hl : SEL_DPLLd_STAT_BRIDGE d ∈ l) :
    Within dt l s (bridgeEval d u) := h.put hl _

theorem rd_bridge_bridgeEval (d : Nat) (s : State) :
    rd (bridgeEval d s) (SEL_DPLLd_STAT_BRIDGE d) = if dpllState s d = 3 ∧ inSwitch s d = true then 1 else 0 := by
  rw [bridgeEval, putB_eq, rd_put_same]
  by_cases h3 : dpllState s d = 3 <;> cases hsw : inSwitch s d <;> simp [h3, b2n]

/-- the fields of the selectors lie below those of the DPLLs -/
theorem rd_bridgeEval_sel {d : Nat} {f : Fld} (s : State) (h : fldKey f < 50340317) : rd (bridgeEval d s) f = rd s f :=
  rd_put_ne _ s (by rw [key_SEL_DPLLd_STAT_BRIDGE]; omega)

/-! #### The end of a switch (R169, R178) -/

theorem inSwitch_iff (s : State) (d : Nat) : inSwitch s d = true ↔ rd s (SEL_SELd_STAT_STAGE d) = 1 ∨ rd s (SEL_SELd_STAT_STAGE d) = 2 := by
  simp [inSwitch, selStage]

theorem within_selIdle {dt d : Nat} {l : List Fld} {s u : State} (h : Within dt l s u) (hstage : SEL_SELd_STAT_STAGE d ∈ l)
    (hpend : SEL_SELd_STAT_PEND_SLOT d ∈ l) : Within dt l s (selIdle d u) := ((h.put hstage 0).put hpend 0).modSel d fun _ => rfl

theorem rd_selIdle_stage (d : Nat) (s : State) : rd (selIdle d s) (SEL_SELd_STAT_STAGE d) = 0 := by
  simp [selIdle, rd_put_ne]

theorem rd_selIdle_pend (d : Nat) (s : State) : rd (selIdle d s) (SEL_SELd_STAT_PEND_SLOT d) = 0 := by
  simp [selIdle]

theorem rd_selIdle_ne {d : Nat} {f : Fld} (s : State) (hstage : fldKey (SEL_SELd_STAT_STAGE d) ≠ fldKey f)
    (hpend : fldKey (SEL_SELd_STAT_PEND_SLOT d) ≠ fldKey f) : rd (selIdle d s) f = rd s f := by
  rw [selIdle, rd_modSel, rd_put_ne _ _ hpend, rd_put_ne _ _ hstage]

theorem selIdle_sel {d : Nat} (hd : d < 8) (s : State) : ix (selIdle d s).sel d = { ix s.sel d with holdEnd := none, settleEnd := none } :=
  ix_modSel_same hd _ _

/-- the fields that the end of a switch without commit writes, BRIDGE among them, in the order in which O31 lists them -/
def endFields (d : Nat) : List Fld :=
  [SEL_SELd_STAT_STAGE d, SEL_SELd_STAT_PEND_SLOT d, SEL_SELd_STAT_LAST_OUT d, SEL_SELd_EVT_ABANDON d, SEL_DPLLd_STAT_BRIDGE d]

section
variable {d code : Nat} {s : State}

theorem selEnd_inSwitch (h : inSwitch s d = true) :
    selEnd d code s = selIdle d (put (SEL_SELd_EVT_ABANDON d) 1 (put (SEL_SELd_STAT_LAST_OUT d) code s)) := if_pos h

theorem within_selEnd {dt : Nat} {l : List Fld} {s₀ : State} (h : Within dt l s₀ s) (hl : ∀ f ∈ endFields d, f ∈ l) :
    Within dt l s₀ (selEnd d code s) := by
  simp only [endFields, List.forall_mem_cons] at hl
  obtain ⟨hstage, hpend, hout, habandon, -, -⟩ := hl
  exact (within_selIdle ((h.put hout _).put habandon _) hstage hpend).ite h

/-- what a switch that ends without commit shows -/
theorem rd_selEnd (h : inSwitch s d = true) (hcode : code < 16) :
    rd (selEnd d code s) (SEL_SELd_STAT_STAGE d) = 0 ∧ rd (selEnd d code s) (SEL_SELd_STAT_PEND_SLOT d) = 0
      ∧ rd (selEnd d code s) (SEL_SELd_STAT_LAST_OUT d) = code ∧ rd (selEnd d code s) (SEL_SELd_EVT_ABANDON d) = 1 := by
  rw [selEnd_inSwitch h]
  refine ⟨rd_selIdle_stage d _, rd_selIdle_pend d _, ?_, ?_⟩
  · rw [rd_selIdle_ne _ (by simp) (by simp), rd_put_ne _ _ (by simp), rd_put_same]
    simp [Nat.mod_eq_of_lt hcode]
  · rw [rd_selIdle_ne _ (by simp) (by simp), rd_put_same]
    simp

theorem selEnd_sel (hd : d < 8) (h : inSwitch s d = true) :
    ix (selEnd d code s).sel d = { ix s.sel d with holdEnd := none, settleEnd := none } := by
  rw [selEnd_inSwitch h, selIdle_sel hd]
  rfl

end

/-- a switch of selector d has ended with an outcome, and BRIDGE has followed -/
def switchEnded (d code : Nat) (s : State) : State := bridgeEval d (selEnd d code s)

/-- what the end of a switch without commit shows -/
structure Abandoned (d code : Nat) (u : State) : Prop where
  stage : rd u (SEL_SELd_STAT_STAGE d) = 0
  pend : rd u (SEL_SELd_STAT_PEND_SLOT d) = 0
  out : rd u (SEL_SELd_STAT_LAST_OUT d) = code
  abandon : rd u (SEL_SELd_EVT_ABANDON d) = 1
  bridge : rd u (SEL_DPLLd_STAT_BRIDGE d) = 0

section
variable {d code : Nat} {s : State}

theorem within_switchEnded {dt : Nat} {l : List Fld} {s₀ : State} (h : Within dt l s₀ s) (hl : ∀ f ∈ endFields d, f ∈ l) :
    Within dt l s₀ (switchEnded d code s) := within_bridgeEval (within_selEnd h hl) (hl _ (by simp [endFields]))

theorem abandoned_switchEnded (hd : d < 8) (h : inSwitch s d = true) (hcode : code < 16) : Abandoned d code (switchEnded d code s) := by
  obtain ⟨hstage, hpend, hout, habandon⟩ := rd_selEnd h hcode
  have hno : ¬ (dpllState (selEnd d code s) d = 3 ∧ inSwitch (selEnd d code s) d = true) := by
    rw [inSwitch_iff, hstage]
    omega
  refine ⟨?_, ?_, ?_, ?_, (rd_bridge_bridgeEval d _).trans (if_neg hno)⟩
  · rw [switchEnded, rd_bridgeEval_sel _ (by simp; omega), hstage]
  · rw [switchEnded, rd_bridgeEval_sel _ (by simp; omega), hpend]
  · rw [switchEnded, rd_bridgeEval_sel _ (by simp; omega), hout]
  · rw [switchEnded, rd_bridgeEval_sel _ (by simp; omega), habandon]

theorem switchEnded_sel (hd : d < 8) (h : inSwitch s d = true) :
    ix (switchEnded d code s).sel d = { ix s.sel d with holdEnd := none, settleEnd := none } := selEnd_sel hd h

end

/-! ### The stages of a switch (R169, R171, R173, R191) -/

section
variable {d t : Nat} {s : State}

/-- the hold-off has ended: PREPARE begins with no sample collected -/
theorem completes_holdoffExpiry (hb : Between s) (hd : d < 8) (h : (ix s.sel d).holdEnd = some t) :
    Completes (.holdoffExpiry d) s (fun u =>
      rd u (SEL_SELd_STAT_STAGE d) = 2 ∧ rd u (SEL_DPLLd_STAT_BRIDGE d) = (if dpllState s d = 3 then 1 else 0)
      ∧ ix u.sel d = { ix s.sel d with holdEnd := none, prepSum := 0, prepCnt := 0, prepAt := max s.now t } ∧ u.now = max s.now t
      ∧ RegsBut [SEL_SELd_STAT_STAGE d, SEL_DPLLd_STAT_BRIDGE d] s u ∧ StoresSame s u) := by
  have hw : Within (t - s.now) [SEL_SELd_STAT_STAGE d, SEL_DPLLd_STAT_BRIDGE d] s (toPrepare d (selFix d (advanceTo t s))) :=
    (((within_advanceTo t _ s).selFix d).put (by simp) 2).modSel d fun _ => rfl
  have hbridge := within_bridgeEval (d := d) hw (by simp)
  have hstage : rd (toPrepare d (selFix d (advanceTo t s))) (SEL_SELd_STAT_STAGE d) = 2 := by simp [toPrepare]
  have hst : dpllState (toPrepare d (selFix d (advanceTo t s))) d = dpllState s d := hw.rd_eq (by simp; omega)
  refine hbridge.completes ?_ hb ⟨?_, ?_, ?_, ?_, hbridge.regs, hbridge.storesSame⟩
  · change done s (whenB (d < 8) (holdoffAt d) s) = _
    simp only [hd, decide_true, whenB_true, holdoffAt, h]
  · rw [rd_bridgeEval_sel _ (by simp; omega), hstage]
  · simp only [rd_bridge_bridgeEval, hst, inSwitch_iff, hstage, or_true, and_true]
  · refine (ix_modSel_same hd _ _).trans ?_
    simp [selFix]
  · rw [hbridge.now, add_sub_eq_max]

theorem prepareLate_preparing (h : rd s (SEL_SELd_STAT_STAGE d) = 2) :
    prepareLate d s = selMark d 1 (switchEnded d 3 (selFix d (advanceTo ((ix s.sel d).prepAt + 2500 * msU) s))) := if_pos h

/-- a switch in PREPARE is abandoned at t, and the target is to compute -/
theorem effects_abandoned {c : Instr} (hb : Between s) (hd : d < 8) (h : rd s (SEL_SELd_STAT_STAGE d) = 2)
    (he : exec c s = done s (selMark d 1 (switchEnded d 3 (selFix d (advanceTo t s))))) :
    Effects c s (fun u =>
      rd u (SEL_SELd_STAT_STAGE d) = 0 ∧ rd u (SEL_SELd_STAT_PEND_SLOT d) = 0 ∧ rd u (SEL_SELd_STAT_LAST_OUT d) = 3
      ∧ rd u (SEL_SELd_EVT_ABANDON d) = 1 ∧ rd u (SEL_DPLLd_STAT_BRIDGE d) = 0
      ∧ ix u.sel d = { ix s.sel d with holdEnd := none, settleEnd := none, due := 1 } ∧ u.now = max s.now t ∧ u.flt.raised = []
      ∧ RegsBut [SEL_DPLLd_STAT_BRIDGE d, SEL_SELd_STAT_STAGE d, SEL_SELd_STAT_PEND_SLOT d, SEL_SELd_STAT_LAST_OUT d, SEL_SELd_EVT_ABANDON d] s u
      ∧ StoresSame s u) := by
  have hsw : inSwitch (selFix d (advanceTo t s)) d = true := (inSwitch_iff _ _).2 (.inr (by simpa using h))
  have hw := within_switchEnded (d := d) (code := 3) ((within_advanceTo t
    [SEL_DPLLd_STAT_BRIDGE d, SEL_SELd_STAT_STAGE d, SEL_SELd_STAT_PEND_SLOT d, SEL_SELd_STAT_LAST_OUT d, SEL_SELd_EVT_ABANDON d] s).selFix d)
    (by simp [endFields])
  obtain ⟨hstage, hpend, hout, habandon, hbridge⟩ := abandoned_switchEnded (code := 3) hd hsw (by omega)
  obtain ⟨hnow, hraised, hregs, hstores⟩ := effects_marked (d := d) (bits := 1) hw hb
  refine ⟨_, he, hstage, hpend, hout, habandon, hbridge, ?_, hnow.trans (add_sub_eq_max _ _), hraised, hregs, hstores⟩
  rw [selMark_sel hd, switchEnded_sel hd hsw]
  simp [due_of_between hb hd]

/-- 2.5 s have passed in PREPARE without a sample -/
theorem exec_prepareTimeout (hd : d < 8) (h : rd s (SEL_SELd_STAT_STAGE d) = 2) : exec (.prepareTimeout d) s =
    done s (selMark d 1 (switchEnded d 3 (selFix d (advanceTo ((ix s.sel d).prepAt + 2500 * msU) s)))) := by
  rw [← prepareLate_preparing h]
  change done s (whenB (d < 8) (prepareLate d) s) = _
  rw [decide_eq_true hd, whenB_true]

/-- SETTLE has ended -/
theorem effects_settleEnd (hb : Between s) (hd : d < 8) (h : (ix s.sel d).settleEnd = some t) :
    Effects (.settleEnd d) s (fun u =>
      rd u (SEL_SELd_STAT_STAGE d) = 0 ∧ rd u (SEL_SELd_STAT_PEND_SLOT d) = 0 ∧ rd u (SEL_SELd_EVT_SETTLED d) = 1
      ∧ ix u.sel d = { ix s.sel d with holdEnd := none, settleEnd := none, due := 3 } ∧ u.now = max s.now t ∧ u.flt.raised = []
      ∧ RegsBut [SEL_SELd_STAT_STAGE d, SEL_SELd_STAT_PEND_SLOT d, SEL_SELd_EVT_SETTLED d] s u ∧ StoresSame s u) := by
  have hw : Within (t - s.now) [SEL_SELd_STAT_STAGE d, SEL_SELd_STAT_PEND_SLOT d, SEL_SELd_EVT_SETTLED d] s
      (put (SEL_SELd_EVT_SETTLED d) 1 (selIdle d (selFix d (advanceTo t s)))) :=
    (within_selIdle ((within_advanceTo t _ s).selFix d) (by simp) (by simp)).put (by simp) 1
  obtain ⟨hnow, hraised, hregs, hstores⟩ := effects_marked (d := d) (bits := 3) hw hb
  refine ⟨settleEnd d (advanceTo t s), ?_, ?_, ?_, ?_, ?_, ?_, hraised, hregs, hstores⟩
  · change done s (whenB (d < 8) (settleAt d) s) = _
    simp only [hd, decide_true, whenB_true, settleAt, h]
    rfl
  · exact (rd_put_ne _ _ (by simp)).trans (rd_selIdle_stage d _)
  · exact (rd_put_ne _ _ (by simp)).trans (rd_selIdle_pend d _)
  · exact (rd_put_same _ _ _).trans (by simp)
  · have hsel : ix (put (SEL_SELd_EVT_SETTLED d) 1 (selIdle d (selFix d (advanceTo t s)))).sel d
        = { ix s.sel d with holdEnd := none, settleEnd := none } := by
      refine (selIdle_sel hd _).trans ?_
      simp [selFix]
    refine (selMark_sel hd 3 _).trans ?_
    rw [hsel]
    simp [due_of_between hb hd]
  · exact hnow.trans (add_sub_eq_max _ _)

/-- the end of a dwell period, at whatever time it comes -/
theorem effects_dwellEnded {c : Instr} {dt : Nat} {u : State} (hb : Between s) (hd : d < 8) (hw : Within dt [SEL_SELd_STAT_DWELL_RUN d] s u)
    (hsel : u.sel = s.sel) (he : exec c s = done s (dwellEnd d u)) :
    Effects c s (fun v => rd v (SEL_SELd_STAT_DWELL_RUN d) = 0 ∧ ix v.sel d = { ix s.sel d with dwellEnd := none, due := 3 }
      ∧ v.now = s.now + dt ∧ v.flt.raised = [] ∧ RegsBut [SEL_SELd_STAT_DWELL_RUN d] s v ∧ StoresSame s v) := by
  have hended : Within dt [SEL_SELd_STAT_DWELL_RUN d] s (modSel d (fun x => { x with dwellEnd := none }) (put (SEL_SELd_STAT_DWELL_RUN d) 0 u)) :=
    (hw.put (by simp) 0).modSel d fun _ => rfl
  refine ⟨dwellEnd d u, he, ?_, ?_, effects_marked (d := d) (bits := 3) hended hb⟩
  · simp [dwellEnd, selEval, selMark]
  · have hix : ix (modSel d (fun x => { x with dwellEnd := none }) (put (SEL_SELd_STAT_DWELL_RUN d) 0 u)).sel d
        = { ix s.sel d with dwellEnd := none } := by
      rw [ix_modSel_same hd, put_sel, hsel]
    refine (selMark_sel hd 3 _).trans ?_
    rw [hix]
    simp [due_of_between hb hd]

/-- 2.5 s have passed without a sample in forced selection -/
theorem leads_forcedSampleTimeout (hb : Between s) (hd : d < 8) (hmode : rd s (SEL_SELd_CFG_SELMODE d) = 2)
    (hst : dpllState s d = 1 ∨ dpllState s d = 2) :
    Leads (.forcedSampleTimeout d) s (fun u => bridgeEval d (inputLost d u)) (fun u =>
      ix u.sel d = { ix s.sel d with lost := true } ∧ u.now = max s.now ((ix s.dpll d).smpAt + 2500 * msU) ∧ u.flt.raised = []
      ∧ RegsBut [] s u ∧ StoresSame s u) := by
  have hw := (within_advanceTo ((ix s.dpll d).smpAt + 2500 * msU) [] s).modSel d (f := fun x => { x with lost := true }) fun _ => rfl
  refine ⟨_, ?_, ?_, hw.now.trans (add_sub_eq_max _ _), hw.raised hb, hw.regs, hw.storesSame⟩
  · change done s (whenB (d < 8) (forcedLate d) s) = _
    have hcond : (decide (selMode s d = 2) && (decide (dpllState s d = 1) || decide (dpllState s d = 2))) = true := by simp [selMode, hmode, hst]
    simp only [hd, decide_true, whenB_true, forcedLate, hcond, if_true]
    rfl
  · rw [ix_modSel_same hd, advanceTo_sel]

end

/-- Settles O30: each end of a stage is a chain of updates of one selector, which leaves the target to compute or nothing. -/
theorem switchStagesEndAtTheirTimes : Obligations.SwitchStagesEndAtTheirTimes := by
  unfold Obligations.SwitchStagesEndAtTheirTimes
  intro d t s hb hd
  refine ⟨completes_holdoffExpiry hb hd, fun h => effects_abandoned hb hd h (exec_prepareTimeout hd h), effects_settleEnd hb hd, fun h => ?_,
    leads_forcedSampleTimeout hb hd⟩
  rw [← add_sub_eq_max]
  refine effects_dwellEnded hb hd (within_advanceTo t _ s) (advanceTo_sel t s) ?_
  change done s (whenB (d < 8) (dwellAt d) s) = _
  simp only [hd, decide_true, whenB_true, dwellAt, h]

/-! ### The commands of a selector (R166, R173, R174) -/

theorem plainWord_selCtl : ∀ d < 8, PlainWord (0x600024 + 64 * d) := by decide +kernel

/-- the bits of SELd_CTL are written only, and none is stored -/
theorem fieldsAt_selCtl : ∀ d < 8,
    fieldsAt (0x600024 + 64 * d) = [(SEL_SELd_CTL_DWELL_CLR d, 3), (SEL_SELd_CTL_RERUN d, 3), (SEL_SELd_CTL_ABORT d, 3)] := by decide +kernel

/-- a word written whole to the SELd_CTL of selector d -/
def ctlWord (d v : Nat) : WordW := { addr := 0x600024 + 64 * d, be := 15, data := v % 2 ^ 32 }

section
variable {dt d : Nat} {s : State}

theorem storeWord_selCtl (hd : d < 8) (be v : Nat) (s : State) : storeWord (0x600024 + 64 * d) be v s = s := by
  have hno : woHolds (0x600024 + 64 * d) = false := by
    simp only [woHolds, Bool.and_eq_false_iff, decide_eq_false_iff_not]
    omega
  simp only [storeWord, fieldsAt_selCtl d hd, forEach_cons, hno]
  rfl

theorem testBusy_selCtl (hd : d < 8) (s : State) : testBusy s (0x600024 + 64 * d) = false := by
  interval_cases d <;> rfl

theorem blockOf_selCtl (hd : d < 8) : blockOf (0x600024 + 64 * d) = 6 := by
  unfold blockOf
  omega

theorem wOff_ctlWord (hd : d < 8) (v : Nat) : wOff (ctlWord d v) = 0x24 + 64 * d := by
  simp only [wOff, ctlWord]
  omega

/-- SEL refuses no write of SELd_CTL (R167, R192) -/
theorem selRefuses_selCtl (hd : d < 8) (v : Nat) (s : State) : selRefuses s (ctlWord d v) = false := by
  have hlt : 0x24 + 64 * d < 0x200 := by omega
  have hmod : (0x24 + 64 * d) % 64 = 0x24 := by omega
  simp [selRefuses, wOff_ctlWord hd, hlt, hmod]

theorem wBit_ctlWord {i : Nat} (hi : i < 32) (v : Nat) : wBit (ctlWord d v) i = bitAt v i := by
  have hm : beMask 15 = 2 ^ 32 - 1 := by decide
  simp [wBit, ctlWord, bitAt, hm, Nat.testBit_mod_two_pow, Nat.testBit_two_pow_sub_one, hi, -Nat.reducePow, -Nat.reduceSub]

/-- a write of SELd_CTL carries out ABORT, then DWELL_CLR, then RERUN -/
theorem selWritten_selCtl (hd : d < 8) (v : Nat) (old s : State) : selWritten (ctlWord d v) old s =
    whenB (bitAt v 1) (selEval d) (whenB (bitAt v 2) (dwellClr d) (whenB (bitAt v 0) (selAbort d) s)) := by
  have hlt : 0x24 + 64 * d < 0x200 := by omega
  have hmod : (0x24 + 64 * d) % 64 = 0x24 := by omega
  have hdiv : (0x24 + 64 * d) / 64 = d := by omega
  simp only [selWritten, wOff_ctlWord hd, hlt, hmod, hdiv, if_true, wBit_ctlWord (show 0 < 32 by decide), wBit_ctlWord (show 1 < 32 by decide),
    wBit_ctlWord (show 2 < 32 by decide)]

/-- a bit of SELd_CTL written on an open host port reaches its selector -/
theorem selCtlWrite_open (hd : d < 8) (ho : Open s (0x600024 + 64 * d)) (v : Nat) : selCtlWrite d v (pass dt s) =
    whenB (bitAt v 1) (selEval d) (whenB (bitAt v 2) (dwellClr d) (whenB (bitAt v 0) (selAbort d) (Issued (0x600024 + 64 * d) dt s))) := by
  obtain ⟨h4, h24, hword, hal, hrow, -⟩ := plainWord_selCtl d hd
  obtain ⟨r, hr⟩ := Option.isSome_iff_exists.1 hrow
  have hblk := blockOf_selCtl hd
  have hgrp : rwsGroupOf (0x600024 + 64 * d) = none := by simp [rwsGroupOf, fieldsAt_selCtl d hd]
  have hp : isPartnerReg (0x600024 + 64 * d) = false := by
    simp only [isPartnerReg, Bool.and_eq_false_iff, decide_eq_false_iff_not]
    omega
  have hno : blockRefuses (Issued (0x600024 + 64 * d) dt s) (ctlWord d v) = false := by
    simp only [blockRefuses, ctlWord, hblk]
    exact selRefuses_selCtl hd v _
  rw [selCtlWrite, decide_eq_true hd, whenB_true, writeReg_block ho h4 hword hal hr hgrp hp h24 (by omega)]
  refine (regWrite_taken (w := ctlWord d v) (testBusy_selCtl hd _) hno).trans ?_
  simp only [blockWritten, ctlWord, hblk, storeWord_selCtl hd]
  exact selWritten_selCtl hd v _ _

end

/-! #### CTL.ABORT (R174) -/

/-- selector d as it stands kept for a later command of the same core cycle -/
def selNoted (d : Nat) (w : SelWas) (s : State) : State := { s with selWas := vset s.selWas d (some w) }

theorem within_selNoted {dt d : Nat} {l : List Fld} {s u : State} (h : Within dt l s u) (w : SelWas) : Within dt l s (selNoted d w u) :=
  ⟨h.now, h.regs, ⟨h.kept.pending, h.kept.mram, h.kept.mramJ, h.kept.cram, h.kept.otp⟩, h.quiet⟩

section
variable {dt d : Nat} {s : State}

theorem exec_selAbort (hd : d < 8) (ho : Open s (0x600024 + 64 * d)) :
    exec (.selAbort dt d) s = done s (selAbort d (Issued (0x600024 + 64 * d) dt s)) := by
  change done s (selCtlWrite d 1 (pass dt s)) = _
  rw [selCtlWrite_open hd ho]
  rfl

theorem exec_dwellClr (hd : d < 8) (ho : Open s (0x600024 + 64 * d)) :
    exec (.dwellClr dt d) s = done s (dwellClr d (Issued (0x600024 + 64 * d) dt s)) := by
  change done s (selCtlWrite d 4 (pass dt s)) = _
  rw [selCtlWrite_open hd ho]
  rfl

theorem exec_rerunCmd (hd : d < 8) (ho : Open s (0x600024 + 64 * d)) :
    exec (.rerunCmd dt d) s = done s (selMark d 3 (Issued (0x600024 + 64 * d) dt s)) := by
  change done s (selCtlWrite d 2 (pass dt s)) = _
  rw [selCtlWrite_open hd ho]
  rfl

/-- an access that finds nothing to do passes time alone -/
theorem completes_issued {c : Instr} {a : Nat} (hb : Between s) (he : exec c s = done s (Issued a dt s)) :
    Completes c s (fun t => t.sel = s.sel ∧ t.now = s.now + dt ∧ RegsBut [] s t ∧ StoresSame s t) := by
  have hw := within_issued a dt [] s
  exact hw.completes he hb ⟨by simp, hw.now, hw.regs, hw.storesSame⟩

/-- a switch ended by an abort, the slot it gives up suppressed as a target -/
def aborted (d p : Nat) (s : State) : State := modSel d (fun x => { x with noTarget := some p }) (switchEnded d 4 s)

theorem completes_aborted {c : Instr} {p : Nat} {u : State} (hb : Between s) (hd : d < 8) (hw : Within dt (endFields d) s u) (hsel : u.sel = s.sel)
    (hsw : inSwitch u d = true) (he : exec c s = done s (aborted d p u)) :
    Completes c s (fun t =>
      rd t (SEL_SELd_STAT_STAGE d) = 0 ∧ rd t (SEL_SELd_STAT_PEND_SLOT d) = 0 ∧ rd t (SEL_SELd_STAT_LAST_OUT d) = 4
      ∧ rd t (SEL_SELd_EVT_ABANDON d) = 1 ∧ rd t (SEL_DPLLd_STAT_BRIDGE d) = 0 ∧ t.now = s.now + dt
      ∧ ix t.sel d = { ix s.sel d with holdEnd := none, settleEnd := none, noTarget := some p } ∧ RegsBut (endFields d) s t ∧ StoresSame s t) := by
  obtain ⟨hstage, hpend, hout, habandon, hbridge⟩ := abandoned_switchEnded (code := 4) hd hsw (by omega)
  have hended : Within dt (endFields d) s (aborted d p u) := (within_switchEnded hw fun _ h => h).modSel d fun _ => rfl
  refine hended.completes he hb ⟨hstage, hpend, hout, habandon, hbridge, hended.now, ?_, hended.regs, hended.storesSame⟩
  rw [aborted, ix_modSel_same hd, switchEnded_sel hd hsw, hsel]

theorem selAbort_inSwitch (h : inSwitch s d = true) :
    selAbort d s = aborted d (rd s (SEL_SELd_STAT_PEND_SLOT d)) (selNoted d (selNow s d 0 true) s) := if_pos h

theorem selAbort_idle (h : inSwitch s d = false) : selAbort d s = s := by simp [selAbort, h]

/-- Settles O31: on an open host port each bit of SELd_CTL reaches its selector alone, since none is stored and SEL refuses none. -/
theorem selectorCommands : Obligations.SelectorCommands := by
  unfold Obligations.SelectorCommands
  intro dt d s hb hd ho x
  have hw (l : List Fld) := within_issued (0x600024 + 64 * d) dt l s
  refine ⟨fun hrun => ?_, fun hrun => completes_issued (a := 0x600024 + 64 * d) hb ?_, ⟨_, exec_rerunCmd hd ho, rfl⟩, fun hstage => ?_,
    fun hstage => completes_issued (a := 0x600024 + 64 * d) hb ?_⟩
  · refine effects_dwellEnded hb hd (hw _) (issued_sel _ dt s) ?_
    rw [exec_dwellClr hd ho, dwellClr, on_eq_true (by simpa using hrun), if_pos rfl]
  · rw [exec_dwellClr hd ho, dwellClr, on_eq_false (by simpa using hrun), if_neg (by decide)]
  · have hsw : inSwitch (Issued (0x600024 + 64 * d) dt s) d = true := (inSwitch_iff _ _).2 (by simpa using hstage)
    have he := exec_selAbort (dt := dt) hd ho
    rw [selAbort_inSwitch hsw, rd_issued] at he
    exact completes_aborted hb hd (within_selNoted (hw _) _) (issued_sel (0x600024 + 64 * d) dt s) hsw he
  · have hsw : inSwitch (Issued (0x600024 + 64 * d) dt s) d = false := by
      rw [← Bool.not_eq_true, inSwitch_iff, rd_issued]
      omega
    rw [exec_selAbort hd ho, selAbort_idle hsw]

end

end Sys2Proof.ReferenceSelection

/-! A second of HOLDOVER (O33): the word delivered to the synthesisers, what is shown of it, and the word itself. -/

namespace Sys2Proof.Clocks.Kept
open Sys2Proof.Machine Sys2Proof.Reg
variable {s u : State}

theorem modOut (h : Kept s u) (n : Nat) (f : OutS → OutS) : Kept s (modOut n f u) := ⟨h.pending, h.mram, h.mramJ, h.cram, h.otp⟩

theorem modDpll (h : Kept s u) (d : Nat) (f : DpllS → DpllS) : Kept s (modDpll d f u) := ⟨h.pending, h.mram, h.mramJ, h.cram, h.otp⟩

theorem modEst (h : Kept s u) (i : Nat) (f : SlotEst → SlotEst) : Kept s (modEst i f u) := ⟨h.pending, h.mram, h.mramJ, h.cram, h.otp⟩

end Sys2Proof.Clocks.Kept

namespace Sys2Proof.ReferenceSelection
open Sys2Proof.Machine Sys2Proof.Reg Sys2Proof.Safety Sys2Proof.Clocks Sys2Proof.Modes

/-! ### A word delivered to the synthesisers (R184, R210) -/

/-- the fields that the delivery of a word writes -/
def wrateFields : List Fld := [SYN_SYNk_STAT_WRATE_ACT 0, SYN_SYNk_STAT_WRATE_ACT 1, SYN_SYNk_STAT_WRATE_ACT 2, SYN_SYNk_STAT_WRATE_ACT 3]

/-- u is s after words were delivered to synthesisers -/
structure Delivered (s u : State) : Prop where
  now : u.now = s.now
  regs : RegsBut wrateFields s u
  kept : Kept s u
  flt : u.flt = s.flt
  dpll : u.dpll = s.dpll
  tempHeld : u.tempHeld = s.tempHeld

theorem delivered_self (s : State) : Delivered s s := ⟨rfl, fun _ _ => rfl, ⟨rfl, rfl, rfl, rfl, rfl⟩, rfl, rfl, rfl⟩

namespace Delivered
variable {s u : State}

theorem put (h : Delivered s u) {f : Fld} (hf : f ∈ wrateFields) (v : Nat) : Delivered s (put f v u) :=
  ⟨h.now, regsBut_put h.regs hf v, h.kept.put f v, h.flt, h.dpll, h.tempHeld⟩

theorem modSyn (h : Delivered s u) (k : Nat) (f : SynS → SynS) : Delivered s (modSyn k f u) :=
  ⟨h.now, h.regs, h.kept.modSyn k f, h.flt, h.dpll, h.tempHeld⟩

theorem modOut (h : Delivered s u) (n : Nat) (f : OutS → OutS) : Delivered s (modOut n f u) :=
  ⟨h.now, h.regs, h.kept.modOut n f, h.flt, h.dpll, h.tempHeld⟩

theorem forEach {α : Type} {f : α → State → State} (xs : List α) (hf : ∀ a ∈ xs, ∀ v, Delivered s v → Delivered s (f a v))
    (h : Delivered s u) : Delivered s (forEach xs f u) := by
  induction xs generalizing u with
  | nil => exact h
  | cons a r ih => exact ih (fun b hb => hf b (List.mem_cons_of_mem a hb)) (hf a List.mem_cons_self u h)

theorem synTouch (h : Delivered s u) (k : Nat) : Delivered s (synTouch k u) :=
  (Delivered.forEach _ (fun n _ _ hv => hv.modOut n _) h).modSyn k _

theorem commitAim (h : Delivered s u) (k : Nat) : Delivered s (commitAim k u) := by
  unfold Machine.commitAim
  split
  · exact h
  · exact ⟨h.now, h.regs, ⟨h.kept.pending, h.kept.mram, h.kept.mramJ, h.kept.cram, h.kept.otp⟩, h.flt, h.dpll, h.tempHeld⟩

theorem wordTo (h : Delivered s u) {k : Nat} (hk : SYN_SYNk_STAT_WRATE_ACT k ∈ wrateFields) (w : Int) (r : Nat) : Delivered s (wordTo k w r u) :=
  (((h.synTouch k).modSyn k _).put hk _).commitAim k

theorem deliverTo (h : Delivered s u) {k : Nat} (hk : SYN_SYNk_STAT_WRATE_ACT k ∈ wrateFields) (w : Int) : Delivered s (deliverTo k w u) := by
  unfold Machine.deliverTo
  dsimp only
  split
  · exact (h.modSyn k _).put hk _
  · exact h.wordTo hk w _

end Delivered

/-- the word of a DPLL put in its registers -/
def wordStored (d : Nat) (w : Int) (s : State) : State := putPairS (SEL_DPLLd_FREQ_LO_W d) (SEL_DPLLd_FREQ_HI_W d) w s

/-- a word is stored, and then delivered -/
theorem delivered_setWord (d : Nat) (w : Int) (s : State) : Delivered (wordStored d (satS 48 w) s) (setWord d w s) := by
  refine Delivered.forEach _ (fun k hk v hv => hv.deliverTo ?_ _) (delivered_self _)
  have hlt : k < 4 := List.mem_range.1 (List.mem_of_mem_filter hk)
  interval_cases k <;> simp [wrateFields]

/-! #### The word read back (R10, R184) -/

theorem satS_bounds (i : Int) : -(2 ^ 47 - 1) ≤ satS 48 i ∧ satS 48 i ≤ 2 ^ 47 - 1 := by
  simp only [satS, clampI]
  split <;> omega

/-- a word that fits 48 bits is read as it was stored -/
theorem wordOf_wordStored (d : Nat) (s : State) {w : Int} (hw : -(2 ^ 47 - 1) ≤ w ∧ w ≤ 2 ^ 47 - 1) : wordOf (wordStored d w s) d = w := by
  have hlo : rd (wordStored d w s) (SEL_DPLLd_FREQ_LO_W d) = uns 64 w % 2 ^ 32 := by
    simp [wordStored, putPairS, rd_put_ne]
  have hhi : rd (wordStored d w s) (SEL_DPLLd_FREQ_HI_W d) = uns 64 w / 2 ^ 32 % 2 ^ 32 := by
    simp [wordStored, putPairS]
  obtain ⟨u, hu⟩ : ∃ u : Nat, uns 64 w = u := ⟨_, rfl⟩
  have hmod : (u : Int) = w % 2 ^ 64 := by
    rw [← hu, uns]
    omega
  simp only [wordOf, rdPair48, hlo, hhi, hu, sgn]
  split <;> omega

theorem wordOf_congr {d : Nat} {s u : State} (hlo : rd u (SEL_DPLLd_FREQ_LO_W d) = rd s (SEL_DPLLd_FREQ_LO_W d))
    (hhi : rd u (SEL_DPLLd_FREQ_HI_W d) = rd s (SEL_DPLLd_FREQ_HI_W d)) : wordOf u d = wordOf s d := by
  simp only [wordOf, rdPair48, hlo, hhi]

theorem wordOf_setWord {d : Nat} (hd : d < 8) (w : Int) (s : State) : wordOf (setWord d w s) d = satS 48 w := by
  have hdel := delivered_setWord d w s
  rw [← wordOf_wordStored d s (satS_bounds w)]
  exact wordOf_congr (hdel.regs _ (by simp [wrateFields]; omega)) (hdel.regs _ (by simp [wrateFields]; omega))

/-! ### What is shown of a holdover (R189, R200, R201, R203) -/

/-- the fields that show what becomes of the word of DPLL d in HOLDOVER -/
def statusFields (d : Nat) : List Fld :=
  [SEL_DPLLd_STAT_FSAT d, SEL_DPLLd_EVT_FSAT d, SEL_DPLLd_STAT_SANITY_ACT d, SEL_DPLLd_STAT_SANITY_FAIL d, SEL_DPLLd_EVT_SANITY d,
    SEL_DPLLd_STAT_IN_SPEC d, SEL_DPLLd_HOTE_TE d, SEL_DPLLd_EVT_SPEC_LOST d, SEL_DPLLd_HOFREQ_LO_WH d, SEL_DPLLd_HOFREQ_HI_WH d,
    SEL_DPLLd_HOFREQ_HI_AVG_VALID d]

/-- the fields that a second of HOLDOVER writes -/
def holdoverFields (d : Nat) : List Fld := SEL_DPLLd_FREQ_LO_W d :: SEL_DPLLd_FREQ_HI_W d :: (statusFields d ++ wrateFields)

/-- the fields that the word of a holdover and its error bound follow from -/
def settingFields (d : Nat) : List Fld :=
  [SEL_DPLLd_STAT_STATE d, SEL_DPLLd_FLIM_FLIM d, SEL_DPLLd_LOCKW_W d, SEL_DPLLd_MODCFG_RES_MAX d, SEL_DPLLd_HOCFG_MODEL_USE d,
    SEL_DPLLd_STAT_MODEL_VALID d, SEL_TEMP_VALID, SEL_TEMP_T]

theorem settingFields_off {d : Nat} (hd : d < 8) : ∀ f ∈ settingFields d, fldKey f ∉ (holdoverFields d).map fldKey := by
  simp [settingFields, holdoverFields, statusFields, wrateFields]
  omega

/-- the faults of a DPLL that a second of HOLDOVER can raise: IN_SPEC lost, sanity failed, the frequency limit reached -/
def holdoverFaults (d : Nat) : List (Nat × Option Nat) := [(27, some d), (28, some d), (29, some d)]

/-- u is s with fields put that show what becomes of the word, and faults raised -/
structure Shown (d : Nat) (s u : State) : Prop where
  now : u.now = s.now
  regs : RegsBut (statusFields d) s u
  kept : Kept s u
  raised : ∀ q ∈ u.flt.raised, q ∈ s.flt.raised ∨ q ∈ holdoverFaults d
  dpll : u.dpll = s.dpll
  tempHeld : u.tempHeld = s.tempHeld

theorem shown_self (d : Nat) (s : State) : Shown d s s := ⟨rfl, fun _ _ => rfl, ⟨rfl, rfl, rfl, rfl, rfl⟩, fun _ h => .inl h, rfl, rfl⟩

namespace Shown
variable {d : Nat} {s u v : State}

theorem put (h : Shown d s u) {f : Fld} (hf : f ∈ statusFields d) (v : Nat) : Shown d s (put f v u) :=
  ⟨h.now, regsBut_put h.regs hf v, h.kept.put f v, h.raised, h.dpll, h.tempHeld⟩

theorem raise (h : Shown d s u) {i : Nat} (hi : (i, some d) ∈ holdoverFaults d) : Shown d s (raise i (some d) u) := by
  refine ⟨h.now, h.regs, h.kept.raise i _, fun q hq => ?_, h.dpll, h.tempHeld⟩
  rcases List.mem_append.1 hq with hq | hq
  · exact h.raised q hq
  · rw [List.mem_singleton.1 hq]
    exact .inr hi

theorem ite {c : Prop} [Decidable c] (hu : Shown d s u) (hv : Shown d s v) : Shown d s (if c then u else v) := by
  split
  · exact hu
  · exact hv

theorem inSpecEval (h : Shown d s u) : Shown d s (inSpecEval d u) := by
  have hput : ∀ a b, Shown d s (Machine.put (SEL_DPLLd_HOTE_TE d) a (putB (SEL_DPLLd_STAT_IN_SPEC d) b u)) := fun a b =>
    (h.put (by simp [statusFields]) _).put (by simp [statusFields]) a
  exact (((hput _ _).put (by simp [statusFields]) 1).raise (by simp [holdoverFaults])).ite (hput _ _)

theorem showHoFreq (h : Shown d s u) : Shown d s (showHoFreq d u) :=
  ((h.put (by simp [statusFields]) _).put (by simp [statusFields]) _).put (by simp [statusFields]) _

theorem wordOf_eq (h : Shown d s u) : wordOf u d = wordOf s d :=
  wordOf_congr (h.regs _ (by simp [statusFields])) (h.regs _ (by simp [statusFields]))

end Shown

/-- FSAT is judged on the word that has been set (R189) -/
theorem shown_wordUpdate (d : Nat) (lim w : Int) (s : State) : Shown d (setWord d w s) (wordUpdate d lim w s) := by
  have hset := shown_self d (setWord d w s)
  have hlim : Shown d (setWord d w s) (wordLim d lim w s) :=
    (((hset.put (by simp [statusFields]) 1).put (by simp [statusFields]) 1).raise (by simp [holdoverFaults])).ite hset
  exact (hlim.put (by simp [statusFields]) 0).ite hlim

/-! ### The word of a holdover (R195) -/

/-- a DPLL without what a second of HOLDOVER itself sets -/
def heldPart (x : DpllS) : DpllS := { x with wh := 0, hoAvg := false, specOff := false }

/-- u is s after words of a holdover of DPLL d were computed, set and shown -/
structure HeldOver (d : Nat) (s u : State) : Prop where
  now : u.now = s.now
  regs : RegsBut (holdoverFields d) s u
  kept : Kept s u
  raised : ∀ q ∈ u.flt.raised, q ∈ s.flt.raised ∨ q ∈ holdoverFaults d
  dpll : heldPart (ix u.dpll d) = heldPart (ix s.dpll d)
  tempHeld : u.tempHeld = s.tempHeld

theorem regsBut_mono {l l' : List Fld} {s u : State} (h : RegsBut l s u) (hl : ∀ f ∈ l, f ∈ l') : RegsBut l' s u := fun f hf =>
  h f fun hm => by
    obtain ⟨g, hg, he⟩ := List.mem_map.1 hm
    exact hf (List.mem_map.2 ⟨g, hl g hg, he⟩)

theorem heldOver_self (d : Nat) (s : State) : HeldOver d s s := ⟨rfl, fun _ _ => rfl, ⟨rfl, rfl, rfl, rfl, rfl⟩, fun _ h => .inl h, rfl, rfl⟩

namespace HeldOver
variable {d : Nat} {s u v : State}

theorem trans (h : HeldOver d s u) (h' : HeldOver d u v) : HeldOver d s v where
  now := h'.now.trans h.now
  regs := regsBut_trans h.regs h'.regs
  kept := h.kept.trans h'.kept
  raised := fun q hq => (h'.raised q hq).elim (h.raised q) .inr
  dpll := h'.dpll.trans h.dpll
  tempHeld := h'.tempHeld.trans h.tempHeld

theorem of_shown (h : Shown d s u) : HeldOver d s u :=
  ⟨h.now, regsBut_mono h.regs (by simp +contextual [holdoverFields]), h.kept, h.raised, by rw [h.dpll], h.tempHeld⟩

theorem of_delivered (h : Delivered s u) : HeldOver d s u :=
  ⟨h.now, regsBut_mono h.regs (by simp +contextual [holdoverFields]), h.kept, fun q hq => .inl (h.flt ▸ hq), by rw [h.dpll], h.tempHeld⟩

theorem wordStored (h : HeldOver d s u) (w : Int) : HeldOver d s (wordStored d w u) :=
  ⟨h.now, regsBut_put (regsBut_put h.regs (by simp [holdoverFields]) _) (by simp [holdoverFields]) _, (h.kept.put _ _).put _ _, h.raised, h.dpll,
    h.tempHeld⟩

theorem modDpll (h : HeldOver d s u) (hd : d < 8) {f : DpllS → DpllS} (hf : ∀ x, heldPart (f x) = heldPart x) : HeldOver d s (modDpll d f u) :=
  ⟨h.now, h.regs, h.kept.modDpll d f, h.raised, by rw [modDpll_dpll, ix_upd_same _ _ hd, hf, h.dpll], h.tempHeld⟩

theorem rd_eq (h : HeldOver d s u) (hd : d < 8) {f : Fld} (hf : f ∈ settingFields d) : rd u f = rd s f := h.regs f (settingFields_off hd f hf)

theorem state_eq (h : HeldOver d s u) (hd : d < 8) : dpllState u d = dpllState s d := h.rd_eq hd (by simp [settingFields])

theorem flim_eq (h : HeldOver d s u) (hd : d < 8) : flimWord u d = flimWord s d := congrArg flimOf (h.rd_eq hd (by simp [settingFields]))

theorem on_eq (h : HeldOver d s u) (hd : d < 8) {f : Fld} (hf : f ∈ settingFields d) : on u f = on s f := by
  simp only [on, h.rd_eq hd hf]

theorem temp_eq (h : HeldOver d s u) (hd : d < 8) : tempNow u = tempNow s := by
  have ht := h.rd_eq hd (show SEL_TEMP_T ∈ settingFields d by simp [settingFields])
  simp only [tempNow, rdS, h.on_eq hd (show SEL_TEMP_VALID ∈ settingFields d by simp [settingFields]), ht, h.tempHeld]

theorem part (h : HeldOver d s u) {α : Type} (f : DpllS → α) : f (heldPart (ix u.dpll d)) = f (heldPart (ix s.dpll d)) := congrArg f h.dpll

theorem slew_eq (h : HeldOver d s u) : (ix u.dpll d).slew = (ix s.dpll d).slew := h.part (·.slew)

theorem hoG_eq (h : HeldOver d s u) : (ix u.dpll d).hoG = (ix s.dpll d).hoG := h.part (·.hoG)

theorem updAt_eq (h : HeldOver d s u) : (ix u.dpll d).updAt = (ix s.dpll d).updAt := h.part (·.updAt)

theorem holdoverWord_eq (h : HeldOver d s u) (hd : d < 8) (uses : Bool) : holdoverWord u d uses = holdoverWord s d uses := by
  have hho : (ix u.dpll d).ho = (ix s.dpll d).ho := h.part (·.ho)
  have hdelta : (ix u.dpll d).hoDelta = (ix s.dpll d).hoDelta := h.part (·.hoDelta)
  have havg : (ix u.dpll d).wAvg = (ix s.dpll d).wAvg := h.part (·.wAvg)
  simp only [holdoverWord, h.now, h.temp_eq hd, h.flim_eq hd, hho, hdelta, havg]

/-- only fields of DPLL d and of the synthesisers have changed -/
theorem regsOutside (h : HeldOver d s u) : RegsOutside [(0x600400 + 128 * d, 0x600480 + 128 * d), (0x700000, 0x700100)] s u := by
  intro f hf
  refine h.regs f ?_
  simp [holdoverFields, statusFields, wrateFields] at hf ⊢
  omega

end HeldOver

/-- DPLL d runs on the word w_h = w with its slew term -/
structure OnWord (d : Nat) (w : Int) (s : State) : Prop where
  wh : (ix s.dpll d).wh = w
  word : wordOf s d = satS 48 (clampI (w + (ix s.dpll d).slew) (flimWord s d))

theorem OnWord.shown {d : Nat} {w : Int} {s u : State} (h : OnWord d w s) (hd : d < 8) (hu : Shown d s u) : OnWord d w u :=
  ⟨by rw [hu.dpll, h.wh], by rw [hu.wordOf_eq, h.word, hu.dpll, (HeldOver.of_shown hu).flim_eq hd]⟩

section
variable {d : Nat} {uses : Bool} {s : State}

/-- w_h computed, the word not yet set -/
def heldComputed (d : Nat) (uses : Bool) (s : State) : State := modDpll d (fun x => { x with wh := holdoverWord s d uses }) s

theorem holdoverUpdate_eq (hd : d < 8) : holdoverUpdate d uses s = wordUpdate d (flimWord s d)
    (clampI (holdoverWord s d uses + (ix s.dpll d).slew) (flimWord s d)) (heldComputed d uses s) := by
  have hix : ix (heldComputed d uses s).dpll d = { ix s.dpll d with wh := holdoverWord s d uses } := ix_upd_same _ _ hd
  change wordUpdate d (flimWord s d) (clampI ((ix (heldComputed d uses s).dpll d).wh + (ix (heldComputed d uses s).dpll d).slew) (flimWord s d))
    (heldComputed d uses s) = _
  rw [hix]

theorem heldOver_setWord (w : Int) : HeldOver d s (setWord d w s) :=
  ((heldOver_self d s).wordStored _).trans (.of_delivered (delivered_setWord d w s))

theorem heldOver_heldComputed (hd : d < 8) : HeldOver d s (heldComputed d uses s) := (heldOver_self d s).modDpll hd fun _ => rfl

theorem heldOver_holdoverUpdate (hd : d < 8) : HeldOver d s (holdoverUpdate d uses s) := by
  rw [holdoverUpdate_eq hd]
  exact ((heldOver_heldComputed hd).trans (heldOver_setWord _)).trans (.of_shown (shown_wordUpdate d _ _ _))

/-- the word computed is the word in force -/
theorem onWord_holdoverUpdate (hd : d < 8) : OnWord d (holdoverWord s d uses) (holdoverUpdate d uses s) := by
  have hheld := heldOver_holdoverUpdate (uses := uses) (s := s) hd
  have hshown := shown_wordUpdate d (flimWord s d) (clampI (holdoverWord s d uses + (ix s.dpll d).slew) (flimWord s d)) (heldComputed d uses s)
  refine ⟨?_, ?_⟩
  · rw [holdoverUpdate_eq hd, hshown.dpll, (delivered_setWord d _ _).dpll]
    exact congrArg DpllS.wh (ix_upd_same s.dpll _ hd)
  · rw [hheld.slew_eq, hheld.flim_eq hd, holdoverUpdate_eq hd, hshown.wordOf_eq, wordOf_setWord hd]

end

/-! #### The sanity check (R201) -/

/-- SANITY_ACT as it stands now -/
def sanityJudged (d : Nat) (s : State) : State := putB (SEL_DPLLd_STAT_SANITY_ACT d) (sanityAct s d) s

/-- a first failure of the sanity check, reported -/
def sanityReported (d : Nat) (s : State) : State := raise 28 (some d) (put (SEL_DPLLd_EVT_SANITY d) 1 (put (SEL_DPLLd_STAT_SANITY_FAIL d) 1 s))

/-- what GACT makes of a failure, before the word follows -/
def sanityActed (d a : Nat) (s : State) : State := modDpll d (fun x => { x with hoAvg := x.hoAvg || bitAt a 0, specOff := x.specOff || bitAt a 1 }) s

section
variable {d : Nat} {w : Int} {s : State}

/-- a sanity check judges SANITY_ACT, and where a g was fixed at entry it may report a failure and act as GACT says -/
theorem sanityCheck_cases (d : Nat) (s : State) : sanityCheck d s = sanityJudged d s ∨ ((ix s.dpll d).hoG ≠ none ∧ ∃ a,
    sanityCheck d s = (if bitAt a 0 then holdoverUpdate d (hoUses (sanityActed d a (sanityReported d (sanityJudged d s))) d)
      (sanityActed d a (sanityReported d (sanityJudged d s))) else sanityActed d a (sanityReported d (sanityJudged d s)))) := by
  cases hg : (ix s.dpll d).hoG with
  | none =>
    left
    have hj : (ix (sanityJudged d s).dpll d).hoG = none := hg
    simp only [sanityCheck, sanityJudged] at hj ⊢
    rw [hj]
  | some g =>
    have hj : (ix (sanityJudged d s).dpll d).hoG = some g := hg
    simp only [sanityCheck, sanityJudged] at hj ⊢
    rw [hj]
    dsimp only
    split
    · exact .inl rfl
    · exact .inr ⟨by simp, _, rfl⟩

theorem shown_sanityJudged (d : Nat) (s : State) : Shown d s (sanityJudged d s) := (shown_self d s).put (by simp [statusFields]) _

theorem shown_sanityReported (d : Nat) (s : State) : Shown d s (sanityReported d (sanityJudged d s)) :=
  (((shown_sanityJudged d s).put (by simp [statusFields]) 1).put (by simp [statusFields]) 1).raise (by simp [holdoverFaults])

theorem heldOver_sanityActed (hd : d < 8) (a : Nat) (s : State) : HeldOver d s (sanityActed d a (sanityReported d (sanityJudged d s))) :=
  (HeldOver.of_shown (shown_sanityReported d s)).modDpll hd fun _ => rfl

theorem heldOver_sanityCheck (hd : d < 8) : HeldOver d s (sanityCheck d s) := by
  rcases sanityCheck_cases d s with h | ⟨-, a, h⟩
  · rw [h]
    exact .of_shown (shown_sanityJudged d s)
  · rw [h]
    split
    · exact (heldOver_sanityActed hd a s).trans (heldOver_holdoverUpdate hd)
    · exact heldOver_sanityActed hd a s

/-- a holdover that does not use the model does not come to use it by a failure of the sanity check -/
theorem hoUses_sanityActed (hd : d < 8) (h : hoUses s d = false) (a : Nat) :
    hoUses (sanityActed d a (sanityReported d (sanityJudged d s))) d = false := by
  have hheld := heldOver_sanityActed hd a s
  have havg : (ix (sanityActed d a (sanityReported d (sanityJudged d s))).dpll d).hoAvg = ((ix s.dpll d).hoAvg || bitAt a 0) :=
    congrArg DpllS.hoAvg (ix_upd_same s.dpll _ hd)
  have huse := hheld.rd_eq hd (show SEL_DPLLd_HOCFG_MODEL_USE d ∈ settingFields d by simp [settingFields])
  have hvalid := hheld.rd_eq hd (show SEL_DPLLd_STAT_MODEL_VALID d ∈ settingFields d by simp [settingFields])
  simp only [hoUses, on, Bool.and_eq_false_iff, Bool.not_eq_false'] at h
  simp only [hoUses, on, huse, hvalid, havg, Bool.and_eq_false_iff, Bool.not_eq_false', Bool.or_eq_true]
  exact h.imp_right .inl

/-- the sanity check leaves the word, where it is w_avg already or no g was fixed at entry -/
theorem onWord_sanityCheck (hd : d < 8) (h : OnWord d w s)
    (hno : (hoUses s d = false ∧ holdoverWord s d false = w) ∨ (ix s.dpll d).hoG = none) : OnWord d w (sanityCheck d s) := by
  rcases sanityCheck_cases d s with hs | ⟨hg, a, hs⟩
  · rw [hs]
    exact h.shown hd (shown_sanityJudged d s)
  · obtain ⟨hmodel, hword⟩ := hno.resolve_right hg
    rw [hs, hoUses_sanityActed hd hmodel]
    split
    · rw [← hword, ← (heldOver_sanityActed hd a s).holdoverWord_eq hd]
      exact onWord_holdoverUpdate hd
    · obtain ⟨hwh, hwd⟩ := h.shown hd (shown_sanityReported d s)
      have hix : ix (sanityActed d a (sanityReported d (sanityJudged d s))).dpll d = _ := ix_upd_same (sanityReported d (sanityJudged d s)).dpll _ hd
      exact ⟨by rw [hix, ← hwh], by rw [hix]; exact hwd⟩

end

/-! ### HOTE (R200) -/

theorem Shown.hoTe_eq {d : Nat} {s u : State} (h : Shown d s u) (hd : d < 8) : hoTe u d = hoTe s d := by
  have hheld := HeldOver.of_shown h
  have huses : hoUses u d = hoUses s d := by
    simp only [hoUses, h.dpll, hheld.on_eq hd (show SEL_DPLLd_HOCFG_MODEL_USE d ∈ settingFields d by simp [settingFields]),
      hheld.on_eq hd (show SEL_DPLLd_STAT_MODEL_VALID d ∈ settingFields d by simp [settingFields])]
  rw [hoTe, hoTe, hoSigma, hoSigma, secSince, secSince, huses, h.now, h.dpll,
    hheld.rd_eq hd (show SEL_DPLLd_LOCKW_W d ∈ settingFields d by simp [settingFields]),
    hheld.rd_eq hd (show SEL_DPLLd_MODCFG_RES_MAX d ∈ settingFields d by simp [settingFields])]

/-- the error bound of a holdover, in the units of HOTE -/
def hoteShown (d : Nat) (s : State) : Nat := min (ceilDiv (hoTe s d) (2 ^ 40)) (2 ^ 32 - 1)

/-- IN_SPEC judged and the error bound shown, in HOLDOVER -/
def specShown (d : Nat) (ok : Bool) (s : State) : State := put (SEL_DPLLd_HOTE_TE d) (hoteShown d s) (putB (SEL_DPLLd_STAT_IN_SPEC d) ok s)

/-- the loss of IN_SPEC reported -/
def specLost (d : Nat) (s : State) : State := raise 27 (some d) (put (SEL_DPLLd_EVT_SPEC_LOST d) 1 s)

theorem inSpecEval_holdover {d : Nat} {s : State} (h : dpllState s d = 3) :
    ∃ ok lost, inSpecEval d s = whenB lost (specLost d) (specShown d ok s) := by
  simp only [inSpecEval, h, if_true]
  exact ⟨_, _, rfl⟩

theorem rd_hote_specShown (d : Nat) (ok : Bool) (s : State) : rd (specShown d ok s) (SEL_DPLLd_HOTE_TE d) = hoteShown d s := by
  rw [specShown, rd_put_same, width_SEL_DPLLd_HOTE_TE, hoteShown]
  omega

theorem rd_hote_inSpecEval {d : Nat} {s : State} (h : dpllState s d = 3) : rd (inSpecEval d s) (SEL_DPLLd_HOTE_TE d) = hoteShown d s := by
  obtain ⟨ok, lost, he⟩ := inSpecEval_holdover h
  rw [he]
  cases lost
  · rw [whenB_false, rd_hote_specShown]
  · rw [whenB_true, specLost, rd_raise, rd_put_ne _ _ (by simp), rd_hote_specShown]

end Sys2Proof.ReferenceSelection

/-! A second of HOLDOVER put together, and the delay of its report (O33). -/

namespace Sys2Proof.ReferenceSelection
open Sys2Proof.Machine Sys2Proof.Reg Sys2Proof.Safety Sys2Proof.Clocks Sys2Proof.Modes

/-! ### Device time moves on (R185) -/

/-- what the rounds of a loop over the DPLLs keep of each, the loop keeps of it -/
theorem ix_foldl_upd_keeps {α β : Type} [Inhabited α] {n d : Nat} (part : α → β) (f : Nat → α → α) (hf : ∀ k x, part (f k x) = part x)
    (hd : d < n) (l : List Nat) (v : Vector α n) : part (ix (l.foldl (fun v k => upd v k (f k)) v) d) = part (ix v d) := by
  induction l generalizing v with
  | nil => rfl
  | cons k r ih =>
    rw [List.foldl_cons, ih]
    by_cases hk : k = d
    · rw [hk, ix_upd_same _ _ hd, hf]
    · rw [ix_upd_ne _ _ hk]

/-- a DPLL without its accumulator -/
def accOff (x : DpllS) : DpllS := { x with acc := 0 }

/-- the accumulator of a DPLL moved on by n units at the word w -/
def accMoved (n : Nat) (w : Int) (x : DpllS) : DpllS := { x with acc := accAdd x.acc n w }

theorem advanceTo_dpll (t : Nat) (s : State) : (advanceTo t s).dpll = s.dpll
    ∨ (advanceTo t s).dpll = (List.range 8).foldl (fun v k => upd v k (accMoved (t - s.now) (wordOf s k))) s.dpll := by
  unfold advanceTo
  split
  · exact .inl rfl
  · split
    · exact .inr rfl
    · exact .inl rfl

/-- of a DPLL time moves the accumulator alone -/
theorem accOff_advanceTo {d : Nat} (hd : d < 8) (t : Nat) (s : State) : accOff (ix (advanceTo t s).dpll d) = accOff (ix s.dpll d) := by
  rcases advanceTo_dpll t s with h | h
  · rw [h]
  · rw [h]
    exact ix_foldl_upd_keeps accOff (fun k => accMoved (t - s.now) (wordOf s k)) (fun _ _ => rfl) hd _ _

/-! ### The start of a second (R192, R195) -/

/-- a DPLL whose latest update was at time t -/
def updatedAt (t : Nat) (x : DpllS) : DpllS := { x with updAt := t }

/-- a second of the holdover of DPLL d begins at t -/
def secondBegun (d t : Nat) (s : State) : State := modDpll d (updatedAt (advanceTo t s).now) (advanceTo t s)

section
variable {d t : Nat} {s : State}

theorem secondBegun_now (d t : Nat) (s : State) : (secondBegun d t s).now = max s.now t := advanceTo_now _ _

theorem rd_secondBegun (d t : Nat) (s : State) (f : Fld) : rd (secondBegun d t s) f = rd s f := rd_advanceTo _ s f

theorem on_secondBegun (d t : Nat) (s : State) (f : Fld) : on (secondBegun d t s) f = on s f := by rw [on, rd_secondBegun, on]

/-- what a part of a DPLL shows that is neither its accumulator nor the time of its latest update -/
theorem secondBegun_part (hd : d < 8) {α : Type} (part : DpllS → α) (hp : ∀ x t, part (updatedAt t (accOff x)) = part x) :
    part (ix (secondBegun d t s).dpll d) = part (ix s.dpll d) := by
  have hix : ix (secondBegun d t s).dpll d = updatedAt (advanceTo t s).now (ix (advanceTo t s).dpll d) :=
    ix_upd_same _ _ hd
  rw [hix, ← hp (ix s.dpll d) (advanceTo t s).now, ← accOff_advanceTo hd t s, ← hp _ (advanceTo t s).now]
  rfl

theorem hoUses_secondBegun (hd : d < 8) : hoUses (secondBegun d t s) d = hoUses s d := by
  simp only [hoUses, on_secondBegun, secondBegun_part (s := s) hd (·.hoAvg) fun _ _ => rfl]

theorem tempNow_secondBegun : tempNow (secondBegun d t s) = tempNow s := by
  have hheld : (secondBegun d t s).tempHeld = s.tempHeld := advanceTo_tempHeld _ _
  simp only [tempNow, on_secondBegun, rdS, rd_secondBegun, hheld]

/-- w_h of a second of HOLDOVER: w_avg, or the model as it stood at entry, at the time and the temperature of that second -/
theorem holdoverWord_secondBegun (hd : d < 8) (uses : Bool) : holdoverWord (secondBegun d t s) d uses =
    clampI (if uses = true then modelWord (ix s.dpll d).ho ((max s.now t : Nat) : Int) (tempNow s) + (ix s.dpll d).hoDelta
      else (ix s.dpll d).wAvg) (flimWord s d) := by
  have hho := secondBegun_part (t := t) (s := s) hd (·.ho) fun _ _ => rfl
  have hdelta := secondBegun_part (t := t) (s := s) hd (·.hoDelta) fun _ _ => rfl
  have havg := secondBegun_part (t := t) (s := s) hd (·.wAvg) fun _ _ => rfl
  rw [holdoverWord, flimWord, rd_secondBegun, tempNow_secondBegun, secondBegun_now, hho, hdelta, havg, flimWord]

theorem slewMove_of_none (h : pendOf s d = 0) : slewMove d s = s := if_pos h

theorem pendOf_eq_zero (hlo : rd s (SEL_DPLLd_PEND_LO_PEND d) = 0) (hhi : rd s (SEL_DPLLd_PEND_HI_PEND d) = 0) : pendOf s d = 0 := by
  rw [pendOf, rdPair48, hlo, hhi]
  rfl

/-! ### A second without a slew -/

/-- the words of a second of HOLDOVER with no slew pending, before IN_SPEC is judged -/
def secondHeld (d t : Nat) (s : State) : State := sanityCheck d (holdoverUpdate d (hoUses s d) (secondBegun d t s))

theorem holdoverSecond_of_no_slew (hd : d < 8) (hst : dpllState s d = 3) (hpend : pendOf s d = 0) (ht : t = hoSecond s d) :
    holdoverSecond d s = showHoFreq d (inSpecEval d (secondHeld d t s)) := by
  have hnone : slewMove d (secondBegun d t s) = secondBegun d t s :=
    slewMove_of_none (by simpa only [pendOf, rdPair48, rd_secondBegun] using hpend)
  have hsecond : holdoverSecond d s = showHoFreq d (inSpecEval d (sanityCheck d
      (holdoverUpdate d (hoUses (slewMove d (secondBegun d t s)) d) (slewMove d (secondBegun d t s))))) := by
    simp only [holdoverSecond, hst, ht]
    rfl
  rw [hsecond, hnone, hoUses_secondBegun hd, secondHeld]

theorem heldOver_secondHeld (hd : d < 8) : HeldOver d (secondBegun d t s) (secondHeld d t s) :=
  (heldOver_holdoverUpdate hd).trans (heldOver_sanityCheck hd)

theorem holdoverUpdate_dpll (hd : d < 8) (uses : Bool) : (holdoverUpdate d uses s).dpll = (heldComputed d uses s).dpll := by
  rw [holdoverUpdate_eq hd, (shown_wordUpdate d _ _ _).dpll, (delivered_setWord d _ _).dpll]
  rfl

theorem hoUses_holdoverUpdate (hd : d < 8) (uses : Bool) : hoUses (holdoverUpdate d uses s) d = hoUses s d := by
  have hheld := heldOver_holdoverUpdate (uses := uses) (s := s) hd
  have havg : (ix (holdoverUpdate d uses s).dpll d).hoAvg = (ix s.dpll d).hoAvg := by
    rw [holdoverUpdate_dpll hd, heldComputed, modDpll_dpll, ix_upd_same _ _ hd]
  simp only [hoUses, havg, hheld.on_eq hd (show SEL_DPLLd_HOCFG_MODEL_USE d ∈ settingFields d by simp [settingFields]),
    hheld.on_eq hd (show SEL_DPLLd_STAT_MODEL_VALID d ∈ settingFields d by simp [settingFields])]

/-- the sanity check of a second leaves the word that the second has set -/
theorem onWord_secondHeld (hd : d < 8) (hno : hoUses s d = false ∨ (ix s.dpll d).hoG = none) :
    OnWord d (holdoverWord (secondBegun d t s) d (hoUses s d)) (secondHeld d t s) := by
  refine onWord_sanityCheck hd (onWord_holdoverUpdate hd) (hno.imp (fun h => ⟨?_, ?_⟩) fun h => ?_)
  · rw [hoUses_holdoverUpdate hd, hoUses_secondBegun hd, h]
  · rw [(heldOver_holdoverUpdate hd).holdoverWord_eq hd, h]
  · rw [(heldOver_holdoverUpdate hd).hoG_eq, secondBegun_part hd (·.hoG) fun _ _ => rfl, h]

end

/-! ### What a second brings about -/

section
variable {d t : Nat} {s : State}

theorem exec_holdoverSecond (hd : d < 8) (hlive : live s 6 = true) (hiso : isolated s 6 = false) :
    exec (.holdoverSecond d) s = done s (holdoverSecond d s) := by
  change done s (whenB (d < 8 && live s 6 && !isolated s 6) (holdoverSecond d) s) = _
  simp only [hd, decide_true, hlive, hiso, Bool.not_false, Bool.and_self, whenB_true]

theorem effects_holdoverSecond (hb : Between s) (hd : d < 8) (hlive : live s 6 = true) (hiso : isolated s 6 = false) (hst : dpllState s d = 3)
    (hpend : pendOf s d = 0) (ht : t = hoSecond s d) (hno : hoUses s d = false ∨ (ix s.dpll d).hoG = none) {w : Int}
    (hw : w = holdoverWord (secondBegun d t s) d (hoUses s d)) :
    Effects (.holdoverSecond d) s (fun v => wordOf v d = satS 48 (clampI (w + (ix s.dpll d).slew) (flimWord s d)) ∧ (ix v.dpll d).wh = w
      ∧ rd v (SEL_DPLLd_HOTE_TE d) = hoteShown d v ∧ dpllState v d = 3 ∧ v.now = max s.now t
      ∧ (ix v.dpll d).updAt = max s.now t
      ∧ (∀ q ∈ v.flt.raised, q = (27, some d) ∨ q = (28, some d) ∨ q = (29, some d))
      ∧ RegsOutside [(0x600400 + 128 * d, 0x600480 + 128 * d), (0x700000, 0x700100)] s v ∧ StoresSame s v) := by
  have hshown : Shown d (secondHeld d t s) (showHoFreq d (inSpecEval d (secondHeld d t s))) := (shown_self d _).inSpecEval.showHoFreq
  have hheld : HeldOver d (secondBegun d t s) (showHoFreq d (inSpecEval d (secondHeld d t s))) := (heldOver_secondHeld hd).trans (.of_shown hshown)
  obtain ⟨hwh, hword⟩ := (onWord_secondHeld hd hno).shown hd hshown
  have hkept : Kept s (showHoFreq d (inSpecEval d (secondHeld d t s))) := ((kept_advanceTo t s).modDpll d _).trans hheld.kept
  have hst3 : dpllState (secondHeld d t s) d = 3 := by
    rw [(heldOver_secondHeld hd).state_eq hd, dpllState, rd_secondBegun]
    exact hst
  refine ⟨_, (exec_holdoverSecond hd hlive hiso).trans (congrArg (done s) (holdoverSecond_of_no_slew hd hst hpend ht)), ?_, hwh.trans hw.symm, ?_,
    ?_, ?_, ?_, fun q hq => ?_, fun f hf => ?_, hkept.storesSame⟩
  · rw [hword, hheld.slew_eq, secondBegun_part hd (·.slew) fun _ _ => rfl, hheld.flim_eq hd, flimWord, rd_secondBegun, hw, flimWord]
  · have hte : ∀ u, rd (showHoFreq d u) (SEL_DPLLd_HOTE_TE d) = rd u (SEL_DPLLd_HOTE_TE d) := fun u => by simp [showHoFreq, rd_put_ne]
    rw [hte, rd_hote_inSpecEval hst3, hoteShown, hoteShown, hshown.hoTe_eq hd]
  · rw [(HeldOver.of_shown hshown).state_eq hd, hst3]
  · rw [hheld.now, secondBegun_now]
  · have hupd : (ix (secondBegun d t s).dpll d).updAt = (advanceTo t s).now := congrArg DpllS.updAt (ix_upd_same _ _ hd)
    rw [hheld.updAt_eq, hupd, advanceTo_now]
  · have hraised : (secondBegun d t s).flt.raised = [] := (congrArg FltS.raised (advanceTo_flt t s)).trans (raised_of_between hb)
    rcases hheld.raised q hq with h | h
    · simp [hraised] at h
    · simpa [holdoverFaults] using h
  · rw [hheld.regsOutside f hf, rd_secondBegun]

/-- in ACQUIRING, in LOCKED and in a FREERUN without a slew a second does nothing -/
theorem holdoverSecond_idle (h : dpllState s d = 1 ∨ dpllState s d = 2 ∨ (dpllState s d = 0 ∧ rd s (SEL_DPLLd_STAT_SLEWING d) = 0)) :
    holdoverSecond d s = s := by
  rcases h with h | h | ⟨h, hslew⟩
  · simp only [holdoverSecond, h]
  · simp only [holdoverSecond, h]
  · simp only [holdoverSecond, h, on_eq_false hslew, Bool.not_false, if_true]

theorem exec_holdoverSecond_idle (hb : Between s)
    (h : dpllState s d = 1 ∨ dpllState s d = 2 ∨ (dpllState s d = 0 ∧ rd s (SEL_DPLLd_STAT_SLEWING d) = 0)) :
    exec (.holdoverSecond d) s = .next s := by
  change done s (whenB (d < 8 && live s 6 && !isolated s 6) (holdoverSecond d) s) = _
  have hsame : ∀ c, whenB c (holdoverSecond d) s = s := by
    intro c
    cases c
    · exact whenB_false _ _
    · rw [whenB_true, holdoverSecond_idle h]
  rw [hsame]
  exact done_self hb rfl rfl rfl

/-! ### HO_DLY (R202) -/

/-- a holdover reported at time t -/
def holdoverReported (d t : Nat) (s : State) : State := raise 26 (some d) (modDpll d (fun x => { x with hoRep := true }) (advanceTo t s))

theorem effects_holdoverReported {c : Instr} {t : Nat} (hb : Between s) (hd : d < 8) (he : exec c s = done s (holdoverReported d t s)) :
    Effects c s (fun v => v.flt.raised = [(26, some d)] ∧ (ix v.dpll d).hoRep = true ∧ v.now = max s.now t ∧ RegsBut [] s v ∧ StoresSame s v) := by
  have hkept : Kept s (holdoverReported d t s) := ((kept_advanceTo t s).modDpll d _).raise 26 (some d)
  refine ⟨_, he, ?_, congrArg DpllS.hoRep (ix_upd_same _ _ hd), advanceTo_now t s, fun f _ => rd_advanceTo t s f, hkept.storesSame⟩
  simp [holdoverReported, raised_of_between hb]

theorem exec_holdoverDelayExpiry (hd : d < 8) (hst : dpllState s d = 3) (hrep : (ix s.dpll d).hoRep = false) :
    exec (.holdoverDelayExpiry d) s = done s (holdoverReported d ((ix s.dpll d).hoAt + rd s (SEL_DPLLd_HOCFG_HO_DLY d) * msU) s) := by
  change done s (whenB (d < 8) (holdoverDelay d) s) = _
  simp only [hd, decide_true, whenB_true, holdoverDelay, hst, hrep, Bool.not_false, Bool.and_self, if_true, holdoverReported]

end

end Sys2Proof.ReferenceSelection

/-! The frequency estimates and the temperature sensor (O33). -/

namespace Sys2Proof.ReferenceSelection
open Sys2Proof.Machine Sys2Proof.Reg Sys2Proof.Safety Sys2Proof.Clocks Sys2Proof.Modes

/-! ### The estimates (R175) -/

/-- the window of the estimates -/
def estWindow (s : State) : Nat := 2 ^ min 10 (rd s SEL_FEST_CFG_WIN) * secU

/-- an estimate no window has yet passed for -/
def estInvalid (e : SlotEst) : SlotEst := { e with valid := false }

/-- an estimate brought up to date -/
def estAt (f : Int) (e : SlotEst) : SlotEst := { e with f := f, valid := true }

/-- a free value of the model taken -/
def freeTaken (s : State) : State := { s with free := s.free + 1 }

/-- an estimate updated over a window of any length -/
def estStep (win i : Nat) (s : State) : State :=
  if !(ix s.est i).since.elim false (fun t0 => decide (t0 + win ≤ s.now)) then modEst i estInvalid s
  else match slopeOf ((ix s.est i).smp.filter (fun q => decide (s.now ≤ q.1 + win))) with
    | some f => modEst i (estAt f) s
    | none => modEst i (estAt (sgn 48 (Config.freeNat s.free))) (freeTaken s)

theorem estUpdate_eq (i : Nat) (s : State) : estUpdate i s = estStep (estWindow s) i s := (rfl)

/-- an update of an estimate gives it a value or makes it invalid -/
theorem estUpdate_cases (i : Nat) (s : State) : estUpdate i s = modEst i estInvalid s ∨ (∃ f, estUpdate i s = modEst i (estAt f) s)
    ∨ ∃ f, estUpdate i s = modEst i (estAt f) (freeTaken s) := by
  rw [estUpdate_eq, estStep]
  split
  · exact .inl rfl
  · split
    · exact .inr (.inl ⟨_, rfl⟩)
    · exact .inr (.inr ⟨_, rfl⟩)

theorem within_estUpdate {dt : Nat} {l : List Fld} {s u : State} (h : Within dt l s u) (i : Nat) : Within dt l s (estUpdate i u) := by
  have hmod : ∀ f, Within dt l s (modEst i f u) := fun f => ⟨h.now, h.regs, h.kept.modEst i f, h.quiet⟩
  rcases estUpdate_cases i u with he | ⟨f, he⟩ | ⟨f, he⟩
  · rw [he]
    exact hmod _
  · rw [he]
    exact hmod _
  · rw [he]
    exact ⟨h.now, h.regs, ⟨h.kept.pending, h.kept.mram, h.kept.mramJ, h.kept.cram, h.kept.otp⟩, h.quiet⟩

section
variable {i : Nat} {s : State}

theorem est_estUpdate_ne {j : Nat} (hij : i ≠ j) (s : State) : ix (estUpdate i s).est j = ix s.est j := by
  rcases estUpdate_cases i s with h | ⟨f, h⟩ | ⟨f, h⟩
  · rw [h]
    exact ix_upd_ne _ _ hij
  · rw [h]
    exact ix_upd_ne _ _ hij
  · rw [h]
    exact ix_upd_ne _ _ hij

theorem valid_estUpdate_of_open (hi : i < 32) (h : (ix s.est i).since = none) : (ix (estUpdate i s).est i).valid = false := by
  have he : estUpdate i s = modEst i estInvalid s := by
    rw [estUpdate_eq, estStep, h, Option.elim_none, Bool.not_false, if_pos rfl]
  rw [he, modEst_est, ix_upd_same _ _ hi, estInvalid]

theorem estStep_of_slope {win t0 : Nat} {f : Int} (h : (ix s.est i).since = some t0) (hfull : t0 + win ≤ s.now)
    (hf : slopeOf ((ix s.est i).smp.filter (fun q => decide (s.now ≤ q.1 + win))) = some f) : estStep win i s = modEst i (estAt f) s := by
  rw [estStep, h, Option.elim_some, decide_eq_true hfull, hf]
  rfl

/-- a full window has passed: the estimate is the slope of the samples in it -/
theorem est_estUpdate_of_slope (hi : i < 32) {t0 : Nat} {f : Int} (h : (ix s.est i).since = some t0) (hfull : t0 + estWindow s ≤ s.now)
    (hf : slopeOf ((ix s.est i).smp.filter (fun q => decide (s.now ≤ q.1 + estWindow s))) = some f) :
    ix (estUpdate i s).est i = estAt f (ix s.est i) := by
  rw [estUpdate_eq, estStep_of_slope h hfull hf, modEst_est, ix_upd_same _ _ hi]

theorem est_updates_notMem {xs : List Nat} (hi : i ∉ xs) (s : State) : ix (forEach xs estUpdate s).est i = ix s.est i := by
  induction xs generalizing s with
  | nil => rfl
  | cons a r ih =>
    rw [forEach_cons, ih (List.not_mem_of_not_mem_cons hi), est_estUpdate_ne (List.ne_of_not_mem_cons hi).symm]

/-- each estimate is updated once, from a state that is s but for the estimates before it -/
theorem est_updates {xs : List Nat} (hn : xs.Nodup) (hi : i ∈ xs) (s : State) : ∃ v, v.now = s.now ∧ estWindow v = estWindow s
    ∧ ix v.est i = ix s.est i ∧ ix (forEach xs estUpdate s).est i = ix (estUpdate i v).est i := by
  induction xs generalizing s with
  | nil => exact absurd hi List.not_mem_nil
  | cons a r ih =>
    obtain ⟨har, hnr⟩ := List.nodup_cons.1 hn
    by_cases ha : a = i
    · subst ha
      exact ⟨s, rfl, rfl, rfl, est_updates_notMem har _⟩
    · obtain ⟨v, hnow, hwin, hv, hres⟩ := ih hnr ((List.mem_cons.1 hi).resolve_left (Ne.symm ha)) (estUpdate a s)
      have hw : Within 0 [] s (estUpdate a s) := within_estUpdate ⟨rfl, fun _ _ => rfl, ⟨rfl, rfl, rfl, rfl, rfl⟩, rfl⟩ a
      refine ⟨v, hnow.trans hw.now, hwin.trans ?_, hv.trans (est_estUpdate_ne ha s), hres⟩
      simp only [estWindow, hw.rd_eq (f := SEL_FEST_CFG_WIN) (by simp)]

end

/-- the slots that have an estimate -/
def estSlots : List Nat := (List.range 16).map (fun j => 16 + j)

theorem mem_estSlots {i : Nat} (hi : 16 ≤ i) (hi' : i < 32) : i ∈ estSlots :=
  List.mem_map.2 ⟨i - 16, List.mem_range.2 (by omega), by omega⟩

theorem nodup_estSlots : estSlots.Nodup := by decide

section
variable {dt : Nat} {s : State}

/-- all estimates updated -/
def estUpdated (dt : Nat) (s : State) : State := forEach estSlots estUpdate (pass dt s)

theorem within_estUpdated (dt : Nat) (s : State) : Within dt [] s (estUpdated dt s) :=
  (within_pass dt [] s).forEach (fun i _ hv => within_estUpdate hv i) estSlots

theorem estWindow_pass (dt : Nat) (s : State) : estWindow (pass dt s) = estWindow s := by simp [estWindow]

theorem est_estUpdated {i t0 : Nat} {f : Int} (hi : 16 ≤ i) (hi' : i < 32) (h : (ix s.est i).since = some t0)
    (hfull : t0 + estWindow s ≤ s.now + dt)
    (hf : slopeOf ((ix s.est i).smp.filter (fun q => decide (s.now + dt ≤ q.1 + estWindow s))) = some f) :
    ix (estUpdated dt s).est i = estAt f (ix s.est i) := by
  obtain ⟨v, hnow, hwin, hv, hres⟩ := est_updates nodup_estSlots (mem_estSlots hi hi') (pass dt s)
  rw [pass_now] at hnow
  rw [estWindow_pass] at hwin
  rw [pass_est] at hv
  rw [estUpdated, hres, est_estUpdate_of_slope (f := f) hi' (hv ▸ h) (by rw [hwin, hnow]; exact hfull) (by rw [hwin, hnow, hv]; exact hf), hv]

theorem valid_estUpdated_of_open {i : Nat} (hi : 16 ≤ i) (hi' : i < 32) (h : (ix s.est i).since = none) :
    (ix (estUpdated dt s).est i).valid = false := by
  obtain ⟨v, -, -, hv, hres⟩ := est_updates nodup_estSlots (mem_estSlots hi hi') (pass dt s)
  rw [pass_est] at hv
  rw [estUpdated, hres, valid_estUpdate_of_open hi' (hv ▸ h)]

theorem brings_estUpdated (hlive : live s 6 = true) (hiso : isolated s 6 = false) :
    Brings (.freqEstimateUpdate dt) s (estJudge (estUpdated dt s)) := by
  change done s (whenB (live s 6 && !isolated s 6) estAll (pass dt s)) = _
  simp only [hlive, hiso, Bool.not_false, Bool.and_self, whenB_true]
  rfl

end

/-! ### The temperature (R199) -/

/-- the state of the DPLLs replaced -/
def withDplls (v : Vector DpllS 8) (s : State) : State := { s with dpll := v }

/-- a loop over the DPLLs that replaces the state of each replaces the states of the DPLLs -/
theorem forEach_withDplls {α : Type} {f : α → State → State} (hf : ∀ a s, ∃ v, f a s = withDplls v s) (xs : List α) (s : State) :
    ∃ v, forEach xs f s = withDplls v s := by
  induction xs generalizing s with
  | nil => exact ⟨s.dpll, rfl⟩
  | cons a r ih =>
    obtain ⟨v, hv⟩ := hf a s
    obtain ⟨w, hw⟩ := ih (withDplls v s)
    exact ⟨w, by rw [forEach_cons, hv, hw]; rfl⟩

theorem histPush_withDplls (d : Nat) (s : State) : ∃ v, histPush d s = withDplls v s := by
  unfold histPush
  split
  · exact ⟨_, rfl⟩
  · exact ⟨s.dpll, rfl⟩

theorem minBreakAll_withDplls (s : State) : ∃ v, minBreakAll s = withDplls v s :=
  forEach_withDplls (fun _ _ => ⟨_, rfl⟩) (List.range 8) s

/-- a reading compared with the one before: one that differs is a change -/
def tempCompared (r : Int) (s : State) : State :=
  if uns 16 r = rd s SEL_TEMP_T % 65536 then s else { s with tempAt := s.now, tempStuck := false }

/-- a reading judged: is it out of range, has the sensor been stuck for 600 s -/
def tempJudged (out stuck : Bool) (s : State) : State := { (if out || (stuck && !s.tempStuck) then raise 30 none s else s) with tempStuck := stuck }

/-- a reading stored, and whether it holds -/
def tempStored (r : Int) (ok : Bool) (s : State) : State :=
  if ok then { putB SEL_TEMP_VALID ok (putS SEL_TEMP_T r s) with tempHeld := r } else putB SEL_TEMP_VALID ok (putS SEL_TEMP_T r s)

/-- outside -55 to 150 degrees -/
def tempOut (r : Int) : Bool := decide (r < -14080) || decide (38400 < r)

/-- no change for 600 s -/
def tempFrozen (s : State) : Bool := decide (s.tempAt + 600 * secU ≤ s.now)

/-- what a reading does to the sensor's own state -/
def tempTaken (r : Int) (out stuck : Bool) (s : State) : State := tempStored r (!out && !stuck) (tempJudged out stuck s)

/-- of a reading the DPLLs take note in their own state only -/
theorem noted_withDplls (known : Bool) (s : State) : ∃ v, forEach (List.range 8) histPush (if known then s else minBreakAll s) = withDplls v s := by
  have hbreak : ∃ v, (if known then s else minBreakAll s) = withDplls v s := by
    cases known
    · exact minBreakAll_withDplls s
    · exact ⟨s.dpll, rfl⟩
  obtain ⟨v, hv⟩ := hbreak
  obtain ⟨w, hw⟩ := forEach_withDplls histPush_withDplls (List.range 8) (withDplls v s)
  exact ⟨w, by rw [hv, hw]; rfl⟩

theorem tempReading_eq (x : Int) (s : State) : ∃ v, tempReading x s =
    withDplls v (tempTaken (satS 18 x) (tempOut (satS 18 x)) (tempFrozen (tempCompared (satS 18 x) s)) (tempCompared (satS 18 x) s)) :=
  noted_withDplls (!tempOut (satS 18 x) && !tempFrozen (tempCompared (satS 18 x) s) && decide (satS 18 x ≤ 32767)) _

theorem b2n_eq_one_iff (b : Bool) : b2n b = 1 ↔ b = true := by
  cases b
  · decide
  · decide

theorem rd_tempCompared (r : Int) (s : State) (f : Fld) : rd (tempCompared r s) f = rd s f := by
  unfold tempCompared
  split
  · rfl
  · rfl

theorem kept_tempCompared (r : Int) (s : State) : Kept s (tempCompared r s) := by
  unfold tempCompared
  split
  · exact ⟨rfl, rfl, rfl, rfl, rfl⟩
  · exact ⟨rfl, rfl, rfl, rfl, rfl⟩

/-- of the sensor's own state a comparison sets the time of the latest change and whether a stuck sensor has been reported since -/
theorem tempCompared_parts (r : Int) (s : State) : (tempCompared r s).now = s.now ∧ (tempCompared r s).flt = s.flt
    ∧ (tempCompared r s).tempHeld = s.tempHeld
    ∧ (tempCompared r s).tempAt = (if uns 16 r = rd s SEL_TEMP_T % 65536 then s.tempAt else s.now)
    ∧ ((tempCompared r s).tempStuck = true ↔ uns 16 r = rd s SEL_TEMP_T % 65536 ∧ s.tempStuck = true) := by
  by_cases h : uns 16 r = rd s SEL_TEMP_T % 65536
  · simp [tempCompared, h]
  · simp [tempCompared, h]

theorem rd_tempJudged (out stuck : Bool) (s : State) (f : Fld) : rd (tempJudged out stuck s) f = rd s f := by
  unfold tempJudged
  split
  · rfl
  · rfl

theorem kept_tempJudged (out stuck : Bool) (s : State) : Kept s (tempJudged out stuck s) := by
  unfold tempJudged
  split
  · exact ⟨rfl, rfl, rfl, rfl, rfl⟩
  · exact ⟨rfl, rfl, rfl, rfl, rfl⟩

theorem tempJudged_parts (out stuck : Bool) (s : State) : (tempJudged out stuck s).now = s.now ∧ (tempJudged out stuck s).tempHeld = s.tempHeld
    ∧ (tempJudged out stuck s).flt.raised = (if out || (stuck && !s.tempStuck) then s.flt.raised ++ [(30, none)] else s.flt.raised) := by
  unfold tempJudged
  split
  · exact ⟨rfl, rfl, rfl⟩
  · exact ⟨rfl, rfl, rfl⟩

/-- a reading put in its registers -/
def tempPut (r : Int) (ok : Bool) (s : State) : State := putB SEL_TEMP_VALID ok (putS SEL_TEMP_T r s)

theorem rd_tempStored (r : Int) (ok : Bool) (s : State) (f : Fld) : rd (tempStored r ok s) f = rd (tempPut r ok s) f := by
  cases ok
  · rfl
  · rfl

theorem kept_tempStored (r : Int) (ok : Bool) (s : State) : Kept s (tempStored r ok s) := by
  cases ok
  · exact ⟨rfl, rfl, rfl, rfl, rfl⟩
  · exact ⟨rfl, rfl, rfl, rfl, rfl⟩

theorem tempStored_parts (r : Int) (ok : Bool) (s : State) : (tempStored r ok s).now = s.now ∧ (tempStored r ok s).flt = s.flt
    ∧ (tempStored r ok s).tempHeld = (if ok then r else s.tempHeld) := by
  cases ok
  · exact ⟨rfl, rfl, rfl⟩
  · exact ⟨rfl, rfl, rfl⟩

/-- a value that fits 18 bits is read as it was stored -/
theorem sgn_uns_satS (x : Int) : sgn 18 (uns 18 (satS 18 x) % 2 ^ 18) = satS 18 x := by
  obtain ⟨r, hr⟩ : ∃ r, satS 18 x = r := ⟨_, rfl⟩
  have hlo : -(2 ^ 17 - 1) ≤ r ∧ r ≤ 2 ^ 17 - 1 := by
    rw [← hr]
    simp only [satS, clampI]
    split <;> omega
  have hmod : ((uns 18 r : Nat) : Int) = r % 2 ^ 18 := by
    rw [uns]
    omega
  rw [hr, sgn]
  split <;> omega

theorem rdS_tempStored (x : Int) (ok : Bool) (s : State) : rdS (tempStored (satS 18 x) ok s) SEL_TEMP_T = satS 18 x := by
  rw [rdS, rd_tempStored, tempPut, putB_eq, rd_put_ne _ _ (by simp), putS, rd_put_same, width_SEL_TEMP_T, sgn_uns_satS]

theorem rd_valid_tempStored (r : Int) (ok : Bool) (s : State) : rd (tempStored r ok s) SEL_TEMP_VALID = b2n ok := by
  rw [rd_tempStored, tempPut, putB_eq, rd_put_same]
  cases ok
  · rfl
  · rfl

theorem regsBut_tempStored (r : Int) (ok : Bool) (s : State) : RegsBut [SEL_TEMP_T, SEL_TEMP_VALID] s (tempStored r ok s) := by
  have hput : RegsBut [SEL_TEMP_T, SEL_TEMP_VALID] s (tempPut r ok s) :=
    regsBut_put (regsBut_put (regsBut_of_rd (fun _ => rfl) _) (by simp) _) (by simp) _
  exact fun f hf => (rd_tempStored r ok s f).trans (hput f hf)

/-- what a reading makes of the sensor's state; ok is what VALID shows of it -/
theorem tempTaken_parts {out stuck ok : Bool} (hok : (!out && !stuck) = ok) (r : Int) (s : State) : (tempTaken r out stuck s).now = s.now
    ∧ rd (tempTaken r out stuck s) SEL_TEMP_VALID = b2n ok ∧ (tempTaken r out stuck s).tempHeld = (if ok then r else s.tempHeld)
    ∧ (tempTaken r out stuck s).flt.raised = (if out || (stuck && !s.tempStuck) then s.flt.raised ++ [(30, none)] else s.flt.raised) := by
  obtain ⟨hnowJ, hheldJ, hraisedJ⟩ := tempJudged_parts out stuck s
  obtain ⟨hnowS, hfltS, hheldS⟩ := tempStored_parts r ok (tempJudged out stuck s)
  rw [tempTaken, hok]
  exact ⟨hnowS.trans hnowJ, rd_valid_tempStored r ok _, by rw [hheldS, hheldJ], by rw [hfltS, hraisedJ]⟩

theorem kept_tempTaken (r : Int) (out stuck : Bool) (s : State) : Kept s (tempTaken r out stuck s) :=
  (kept_tempJudged out stuck s).trans (kept_tempStored r _ _)

theorem regsBut_tempTaken (r : Int) (out stuck : Bool) (s : State) : RegsBut [SEL_TEMP_T, SEL_TEMP_VALID] s (tempTaken r out stuck s) :=
  regsBut_trans (regsBut_of_rd (rd_tempJudged out stuck s) _) (regsBut_tempStored r _ _)

/-- a reading is stored saturated, and what it says of the sensor is judged against the one before -/
theorem effects_tempReading {dt : Nat} {s : State} (hb : Between s) (x : Int) {r : Int} (hr : satS 18 x = r) {stuck ok : Bool}
    (hstuck : tempFrozen (tempCompared r (pass dt s)) = stuck) (hok : (!tempOut r && !stuck) = ok) :
    Effects (.tempReading dt x) s (fun v => rdS v SEL_TEMP_T = r ∧ rd v SEL_TEMP_VALID = b2n ok
      ∧ v.flt.raised = (if tempOut r || (stuck && !(tempCompared r (pass dt s)).tempStuck) then [(30, none)] else [])
      ∧ v.tempHeld = (if ok then r else s.tempHeld) ∧ v.now = s.now + dt ∧ RegsBut [SEL_TEMP_T, SEL_TEMP_VALID] s v ∧ StoresSame s v) := by
  obtain ⟨v, hv⟩ := tempReading_eq x (pass dt s)
  obtain ⟨hnow, hflt, hheld, -, -⟩ := tempCompared_parts r (pass dt s)
  have hcompared : RegsBut [SEL_TEMP_T, SEL_TEMP_VALID] s (tempCompared r (pass dt s)) :=
    regsBut_of_rd (fun f => by rw [rd_tempCompared, rd_pass]) _
  have hkept := (kept_pass dt s).trans (kept_tempCompared r _)
  rw [hr, hstuck] at hv
  rw [pass_now] at hnow
  rw [pass_flt] at hflt
  rw [pass_tempHeld] at hheld
  generalize tempCompared r (pass dt s) = u at *
  obtain ⟨hnowT, hvalid, hheldT, hraised⟩ := tempTaken_parts hok r u
  rw [hflt, raised_of_between hb, List.nil_append] at hraised
  refine ⟨withDplls v (tempTaken r (tempOut r) stuck u), congrArg (done s) hv, ?_, hvalid, hraised, hheldT.trans (by rw [hheld]), hnowT.trans hnow,
    regsBut_trans hcompared (regsBut_tempTaken r _ _ u), (hkept.trans (kept_tempTaken r _ _ u)).storesSame⟩
  rw [← hr]
  exact rdS_tempStored x _ _

/-- Settles O33: a second of HOLDOVER by the chain from its word to what is shown of it, an estimate by its one turn in the loop, a
temperature by the comparison, the judgement and the store of a reading. -/
theorem holdoverSecondsAndEstimates : Obligations.HoldoverSecondsAndEstimates := by
  unfold Obligations.HoldoverSecondsAndEstimates
  intro dt d x s hb hd
  refine ⟨fun hlive hiso hst hlo hhi hno => ?_, exec_holdoverSecond_idle hb, fun hst hrep => ?_, fun hlive hiso => ?_, ?_⟩
  · exact effects_holdoverSecond hb hd hlive hiso hst (pendOf_eq_zero hlo hhi) rfl hno (holdoverWord_secondBegun hd _).symm
  · exact effects_holdoverReported hb hd (exec_holdoverDelayExpiry hd hst hrep)
  · have hw := within_estUpdated dt s
    refine ⟨estUpdated dt s, brings_estUpdated hlive hiso, fun i t0 f hi hi' h hfull hf => ?_, fun i hi hi' h => valid_estUpdated_of_open hi hi' h,
      hw.now, hw.raised hb, hw.regs, hw.storesSame⟩
    rw [est_estUpdated hi hi' h hfull hf]
    exact ⟨rfl, rfl⟩
  · intro r at_ stuck out ok told
    have hout : tempOut r = true ↔ out := by simp [tempOut, out]
    obtain ⟨hnow, -, -, hat, htold⟩ := tempCompared_parts r (pass dt s)
    have hstuck : tempFrozen (tempCompared r (pass dt s)) = true ↔ stuck := by
      rw [tempFrozen, decide_eq_true_iff, hat, hnow, rd_pass, pass_now, pass_tempAt]
    rw [rd_pass, pass_tempStuck] at htold
    obtain ⟨v, hv, hT, hvalid, hraised, hheld, hrest⟩ := effects_tempReading hb x (r := r) rfl rfl rfl
    have hok : (!tempOut r && !tempFrozen (tempCompared r (pass dt s))) = true ↔ ok := by
      rw [Bool.and_eq_true, Bool.not_eq_true', Bool.not_eq_true', ← Bool.not_eq_true, ← Bool.not_eq_true, hout, hstuck]
    refine ⟨v, hv, hT, ?_, ?_, ?_, ?_, hrest⟩
    · rw [hvalid, b2n_eq_one_iff, hok]
    · rw [hraised]
      refine if_congr ?_ rfl rfl
      rw [Bool.or_eq_true, Bool.and_eq_true, Bool.not_eq_true', ← Bool.not_eq_true, hout, hstuck, htold]
    · intro h
      rw [hheld, if_pos (hok.2 h)]
    · intro h
      rw [hheld, if_neg (fun e => h (hok.1 e))]

end Sys2Proof.ReferenceSelection

/-! The loops over the DPLLs (O32, O34): a loop that one DPLL alone answers, and a loop in which each DPLL is reached once. -/

namespace Sys2Proof.Modes.Within
open Sys2Proof.Machine Sys2Proof.Reg Sys2Proof.Safety Sys2Proof.Clocks
variable {dt : Nat} {l : List Fld} {s u : State}

theorem modDpll (h : Within dt l s u) (d : Nat) (f : DpllS → DpllS) : Within dt l s (modDpll d f u) :=
  ⟨h.now, h.regs, h.kept.modDpll d f, h.quiet⟩

theorem modEst (h : Within dt l s u) (i : Nat) (f : SlotEst → SlotEst) : Within dt l s (modEst i f u) :=
  ⟨h.now, h.regs, h.kept.modEst i f, h.quiet⟩

end Sys2Proof.Modes.Within

namespace Sys2Proof.ReferenceSelection
open Sys2Proof.Machine Sys2Proof.Reg Sys2Proof.Safety Sys2Proof.Clocks Sys2Proof.Modes

section
variable {α : Type} {l : List α} {f : α → State → State} {s : State}

/-- a loop that no element answers does nothing -/
theorem forEach_none (h : ∀ k ∈ l, f k s = s) : forEach l f s = s := by
  induction l with
  | nil => rfl
  | cons k r ih => rw [forEach_cons, h k List.mem_cons_self, ih fun j hj => h j (List.mem_cons_of_mem k hj)]

/-- a loop that one element alone answers, before and after its turn, comes to that turn -/
theorem forEach_only {d : α} (hn : l.Nodup) (hd : d ∈ l) (hbefore : ∀ k ∈ l, k ≠ d → f k s = s)
    (hafter : ∀ k ∈ l, k ≠ d → f k (f d s) = f d s) : forEach l f s = f d s := by
  induction l with
  | nil => exact absurd hd List.not_mem_nil
  | cons k r ih =>
    obtain ⟨hkr, hnr⟩ := List.nodup_cons.1 hn
    rw [forEach_cons]
    by_cases hk : k = d
    · subst hk
      exact forEach_none fun j hj => hafter j (List.mem_cons_of_mem k hj) fun e => hkr (e ▸ hj)
    · rw [hbefore k List.mem_cons_self hk]
      exact ih hnr ((List.mem_cons.1 hd).resolve_left (Ne.symm hk)) (fun j hj => hbefore j (List.mem_cons_of_mem k hj))
        fun j hj => hafter j (List.mem_cons_of_mem k hj)

/-- what every turn of a loop keeps holds after it -/
theorem forEach_holds {P : State → Prop} (hP : ∀ k ∈ l, ∀ u, P u → P (f k u)) (h : P s) : P (forEach l f s) := by
  induction l generalizing s with
  | nil => exact h
  | cons k r ih => exact ih (fun j hj => hP j (List.mem_cons_of_mem k hj)) (hP k List.mem_cons_self s h)

/-- the turn of d turns P into Q; the turns before it keep P and those after it keep Q -/
theorem forEach_turn {d : α} {P Q : State → Prop} (hn : l.Nodup) (hd : d ∈ l) (hP : ∀ k ∈ l, k ≠ d → ∀ u, P u → P (f k u))
    (hturn : ∀ u, P u → Q (f d u)) (hQ : ∀ k ∈ l, k ≠ d → ∀ u, Q u → Q (f k u)) (h : P s) : Q (forEach l f s) := by
  induction l generalizing s with
  | nil => exact absurd hd List.not_mem_nil
  | cons k r ih =>
    obtain ⟨hkr, hnr⟩ := List.nodup_cons.1 hn
    rw [forEach_cons]
    by_cases hk : k = d
    · subst hk
      exact forEach_holds (fun j hj => hQ j (List.mem_cons_of_mem k hj) fun e => hkr (e ▸ hj)) (hturn s h)
    · exact ih hnr ((List.mem_cons.1 hd).resolve_left (Ne.symm hk)) (fun j hj => hP j (List.mem_cons_of_mem k hj))
        (fun j hj => hQ j (List.mem_cons_of_mem k hj)) (hP k List.mem_cons_self hk s h)

end

theorem live_advanceTo (t b : Nat) (s : State) : live (advanceTo t s) b = live s b := by
  rw [live, seqHeld, inSequence, advanceTo_rst, inReset, advanceTo_flt]
  rfl

theorem isolated_advanceTo (t b : Nat) (s : State) : isolated (advanceTo t s) b = isolated s b := by
  rw [isolated, advanceTo_gen, isolated]

/-- a change of a DPLL leaves the parts of every DPLL that it does not set -/
theorem dpll_modDpll {d k : Nat} {f : DpllS → DpllS} {s : State} {α : Type} (part : DpllS → α) (hp : ∀ x, part (f x) = part x) :
    part (ix (modDpll d f s).dpll k) = part (ix s.dpll k) := by
  rw [modDpll_dpll]
  by_cases hdk : d = k
  · subst hdk
    by_cases hd : d < 8
    · rw [ix_upd_same _ _ hd, hp]
    · simp [upd, hd]
  · rw [ix_upd_ne _ _ hdk]

/-- what a part of a DPLL shows that is not its accumulator stays as time passes -/
theorem dpll_pass {d : Nat} (hd : d < 8) {α : Type} (part : DpllS → α) (hp : ∀ x, part (accOff x) = part x) {dt : Nat} {s : State} :
    part (ix (pass dt s).dpll d) = part (ix s.dpll d) := by
  rw [← hp (ix (Machine.pass dt s).dpll d), ← hp (ix s.dpll d)]
  exact congrArg part (accOff_advanceTo hd _ s)

end Sys2Proof.ReferenceSelection

/-! A phase sample at the phase detectors (O32): the DPLLs that do not use its slot, the error of the one that tracks it, its judgement for lock
and the loop. What the loop and the judgement may change of the tracking DPLL is collected in `Followed`. -/

namespace Sys2Proof.ReferenceSelection
open Sys2Proof.Machine Sys2Proof.Reg Sys2Proof.Safety Sys2Proof.Clocks Sys2Proof.Modes

/-! ### A DPLL that does not use the slot (R186) -/

/-- DPLL k neither has slot i active nor collects it in PREPARE, and its selector has computed no target in this core cycle -/
structure Unused (k i : Nat) (s : State) : Prop where
  active : actSlot s k ≠ some i
  pend : ¬ (rd s (SEL_SELd_STAT_STAGE k) = 2 ∧ rd s (SEL_SELd_STAT_PEND_SLOT k) = i)
  fresh : ∀ w, ix s.selWas k = some w → w.cyc < cycleNow s

section
variable {k d i : Nat} {diff : Int} {s u : State}

/-- no PREPARE is given back that no computation of this core cycle has ended -/
theorem prepBack_of_fresh (h : ∀ w, ix s.selWas d = some w → w.cyc < cycleNow s) : prepBack d i s = s := by
  unfold prepBack
  cases hw : ix s.selWas d with
  | none => rfl
  | some w =>
    have hold : (w.cyc == cycleNow s) = false := beq_false_of_ne (h w hw).ne
    simp [hold]

theorem not_collected (h : ¬ (rd s (SEL_SELd_STAT_STAGE d) = 2 ∧ rd s (SEL_SELd_STAT_PEND_SLOT d) = i)) :
    (selStage s d == 2 && rd s (SEL_SELd_STAT_PEND_SLOT d) == i) = false := by
  rw [← Bool.not_eq_true, Bool.and_eq_true, beq_iff_eq, beq_iff_eq]
  exact h

theorem dpllSample_unused (h : Unused k i s) : dpllSample k i diff s = s := by
  have hact : (actSlot s k == some i) = false := beq_false_of_ne h.active
  simp [dpllSample, prepBack_of_fresh h.fresh, hact, not_collected h.pend]

theorem actSlot_congr (h : ∀ f ∈ [SEL_SELd_STAT_ACT_VALID k, SEL_SELd_STAT_ACT_SLOT k], rd u f = rd s f) : actSlot u k = actSlot s k := by
  unfold actSlot on
  rw [h _ (by simp), h (SEL_SELd_STAT_ACT_SLOT k) (by simp)]

theorem Unused.congr (h : Unused k i s) (hnow : u.now = s.now) (hwas : u.selWas = s.selWas) (hregs : ∀ f ∈ [SEL_SELd_STAT_ACT_VALID k,
      SEL_SELd_STAT_ACT_SLOT k, SEL_SELd_STAT_STAGE k, SEL_SELd_STAT_PEND_SLOT k], rd u f = rd s f) : Unused k i u := by
  refine ⟨?_, ?_, ?_⟩
  · rw [actSlot_congr fun f hf => hregs f (by simp at hf ⊢; tauto)]
    exact h.active
  · rw [hregs _ (by simp), hregs _ (by simp)]
    exact h.pend
  · rw [hwas, cycleNow, hnow]
    exact h.fresh

/-! ### The DPLL that tracks the slot (R186) -/

/-- the error of a sample x: less the build-out, plus the written offset with the slew in progress -/
def phaseError (d : Nat) (x : Int) (s : State) : Int :=
  x - rdPair s (SEL_SELd_PBO_LO_B d) (SEL_SELd_PBO_HI_B d) + owNow s d + (if bitAt (rd s (SEL_SELd_PBO_HI_B d)) 31 then 2 ^ 64 else 0)

/-- a sample of the slot that DPLL d has active, in automatic or manual selection, is tracked -/
theorem dpllSample_active (hlive : live s 6 = true) (hiso : isolated s 6 = false) (hact : actSlot s d = some i) (hlost : (ix s.sel d).lost = false)
    (helig : eligible s d i = true) (hmode : rd s (SEL_SELd_CFG_SELMODE d) ≠ 2) (htime : d ≠ timeDpll s)
    (hpend : ¬ (rd s (SEL_SELd_STAT_STAGE d) = 2 ∧ rd s (SEL_SELd_STAT_PEND_SLOT d) = i))
    (hfresh : ∀ w, ix s.selWas d = some w → w.cyc < cycleNow s) : dpllSample d i diff s =
      trackSample d i (phaseError d (sampleOf s d i diff) s) (modSel d (fun y => { y with lost := false }) s) := by
  have hforced : (selMode s d == 2) = false := beq_false_of_ne hmode
  have hother : d ≠ timeDpll (modSel d (fun y => { y with lost := false }) s) := htime
  simp only [dpllSample, prepBack_of_fresh hfresh, hiso, hlive, hact, hlost, helig, hforced, not_collected hpend, hother, Bool.not_true,
    Bool.or_self, Bool.false_eq_true, if_false, beq_self_eq_true, Bool.not_false, Bool.and_self, Bool.false_or, if_true,
    Bool.false_and]
  rfl

end

/-! ### What tracking leaves alone -/

/-- u is s after fields of the list l and parts of the state of DPLL d other than the time of its latest sample were changed -/
structure Followed (d : Nat) (l : List Fld) (s u : State) : Prop where
  now : u.now = s.now
  regs : RegsBut l s u
  kept : Kept s u
  selWas : u.selWas = s.selWas
  smpAt : (ix u.dpll d).smpAt = (ix s.dpll d).smpAt

theorem followed_self (d : Nat) (l : List Fld) (s : State) : Followed d l s s := ⟨rfl, fun _ _ => rfl, ⟨rfl, rfl, rfl, rfl, rfl⟩, rfl, rfl⟩

/-! #### The words of the synthesisers -/

theorem selWas_synTouch (k : Nat) (s : State) : (synTouch k s).selWas = s.selWas :=
  forEach_keeps (·.selWas) _ (fun n => fineFix n) s fun _ _ => rfl

theorem selWas_commitAim (k : Nat) (s : State) : (commitAim k s).selWas = s.selWas := by
  unfold commitAim
  split <;> rfl

theorem selWas_deliverTo (k : Nat) (w : Int) (s : State) : (deliverTo k w s).selWas = s.selWas := by
  unfold deliverTo
  dsimp only
  split
  · rfl
  · exact (selWas_commitAim k _).trans (selWas_synTouch k s)

theorem selWas_setWord (d : Nat) (w : Int) (s : State) : (setWord d w s).selWas = s.selWas :=
  forEach_keeps (·.selWas) _ (fun k => deliverTo k (satS 48 w)) (wordStored d (satS 48 w) s) fun k u => selWas_deliverTo k _ u

theorem selWas_wordLim (d : Nat) (lim w : Int) (s : State) : (wordLim d lim w s).selWas = s.selWas := by
  unfold wordLim
  dsimp only
  split
  · exact selWas_setWord d w s
  · exact selWas_setWord d w s

theorem selWas_wordUpdate (d : Nat) (lim w : Int) (s : State) : (wordUpdate d lim w s).selWas = s.selWas := by
  unfold wordUpdate
  dsimp only
  split
  · exact selWas_wordLim d lim w s
  · exact selWas_wordLim d lim w s

theorem selWas_inSpecEval (d : Nat) (s : State) : (inSpecEval d s).selWas = s.selWas := by
  unfold inSpecEval
  extract_lets st te ok was s1 s2
  split <;> rfl

theorem heldOver_wordUpdate (d : Nat) (lim w : Int) (s : State) : HeldOver d s (wordUpdate d lim w s) :=
  (heldOver_setWord w).trans (.of_shown (shown_wordUpdate d lim w s))

namespace Followed
variable {d : Nat} {l : List Fld} {s u v : State}

theorem trans (h : Followed d l s u) (h' : Followed d l u v) : Followed d l s v :=
  ⟨h'.now.trans h.now, regsBut_trans h.regs h'.regs, h.kept.trans h'.kept, h'.selWas.trans h.selWas, h'.smpAt.trans h.smpAt⟩

theorem mono {l' : List Fld} (h : Followed d l s u) (hl : ∀ f ∈ l, f ∈ l') : Followed d l' s u :=
  ⟨h.now, regsBut_mono h.regs hl, h.kept, h.selWas, h.smpAt⟩

theorem put (h : Followed d l s u) {f : Fld} (hf : f ∈ l) (v : Nat) : Followed d l s (put f v u) :=
  ⟨h.now, regsBut_put h.regs hf v, h.kept.put f v, h.selWas, h.smpAt⟩

theorem cycMark (h : Followed d l s u) (f : Fld) (v : Nat) : Followed d l s (cycMark f v u) :=
  ⟨h.now, h.regs, h.kept.cycMark f v, h.selWas, h.smpAt⟩

theorem raise (h : Followed d l s u) (i : Nat) (j : Option Nat) : Followed d l s (raise i j u) :=
  ⟨h.now, h.regs, h.kept.raise i j, h.selWas, h.smpAt⟩

theorem withPtp (h : Followed d l s u) (p : PtpS) : Followed d l s { u with ptp := p } :=
  ⟨h.now, h.regs, ⟨h.kept.pending, h.kept.mram, h.kept.mramJ, h.kept.cram, h.kept.otp⟩, h.selWas, h.smpAt⟩

theorem modDpll (h : Followed d l s u) {f : DpllS → DpllS} (hf : ∀ x, (f x).smpAt = x.smpAt := by intro; rfl) :
    Followed d l s (modDpll d f u) :=
  ⟨h.now, h.regs, h.kept.modDpll d f, h.selWas, (dpll_modDpll (·.smpAt) hf).trans h.smpAt⟩

theorem ite {c : Prop} [Decidable c] (hu : Followed d l s u) (hv : Followed d l s v) : Followed d l s (if c then u else v) := by
  split
  · exact hu
  · exact hv

theorem of_heldOver (h : HeldOver d s u) (hwas : u.selWas = s.selWas) : Followed d (holdoverFields d) s u :=
  ⟨h.now, h.regs, h.kept, hwas, h.part (·.smpAt)⟩

theorem of_shown (h : Shown d s u) (hwas : u.selWas = s.selWas) : Followed d (statusFields d) s u :=
  ⟨h.now, h.regs, h.kept, hwas, by rw [h.dpll]⟩

theorem rd_eq (h : Followed d l s u) {f : Fld} (hf : fldKey f ∉ l.map fldKey) : rd u f = rd s f := h.regs f hf

theorem inSpecEval (h : Followed d l s u) (hl : ∀ f ∈ statusFields d, f ∈ l) : Followed d l s (inSpecEval d u) :=
  h.trans (mono (of_shown (shown_self d u).inSpecEval (selWas_inSpecEval d u)) hl)

theorem showHoFreq (h : Followed d l s u) (hl : ∀ f ∈ statusFields d, f ∈ l) : Followed d l s (showHoFreq d u) :=
  h.trans (mono (of_shown (shown_self d u).showHoFreq rfl) hl)

theorem wordUpdate (h : Followed d l s u) (hl : ∀ f ∈ holdoverFields d, f ∈ l) (lim w : Int) : Followed d l s (wordUpdate d lim w u) :=
  h.trans (mono (of_heldOver (heldOver_wordUpdate d lim w u) (selWas_wordUpdate d lim w u)) hl)

theorem histPush (h : Followed d l s u) : Followed d l s (histPush d u) := h.modDpll.ite h

theorem avgUpdate (h : Followed d l s u) : Followed d l s (avgUpdate d u) := h.modDpll.ite h

theorem putPairS (h : Followed d l s u) {lo hi : Fld} (hlo : lo ∈ l) (hhi : hi ∈ l) (v : Int) : Followed d l s (putPairS lo hi v u) :=
  (h.put hlo _).put hhi _

end Followed

/-! ### A change of state (R190) -/

/-- the fields that show a change of state of DPLL d, beside STATE -/
def eventFields (d : Nat) : List Fld := SEL_DPLLd_EVT_LOCK d :: SEL_DPLLd_EVT_UNLOCK d :: SEL_DPLLd_STAT_BRIDGE d :: statusFields d

/-- the fields that a judgement for lock writes -/
def lockFields (d : Nat) : List Fld := SEL_DPLLd_STAT_LOCKCNT d :: SEL_DPLLd_STAT_STATE d :: eventFields d

section
variable {d st i : Nat} {e : Int} {s : State}

theorem followed_lockUndo (d : Nat) (s : State) : Followed d (SEL_DPLLd_STAT_STATE d :: eventFields d) s (lockUndo d s) :=
  ((((followed_self d _ s).put (by simp) 1).put (by simp [eventFields]) _).cycMark _ 0).ite (followed_self d _ s)

theorem rd_state_put (hst : st < 4) : dpllState (put (SEL_DPLLd_STAT_STATE d) st s) d = st := by
  rw [dpllState, rd_put_same, width_SEL_DPLLd_STAT_STATE]
  omega

/-- a change of state sets STATE, and what follows it leaves STATE -/
theorem putDpllState_via (hst : st < 4) (s : State) : ∃ v, Followed d (SEL_DPLLd_STAT_STATE d :: eventFields d) s v ∧ dpllState v d = st
    ∧ Followed d (eventFields d) v (putDpllState d st s) := by
  unfold putDpllState
  extract_lets s1 old s2 s3 p s4 s5 s6 s7 s8
  have h1 : Followed d (SEL_DPLLd_STAT_STATE d :: eventFields d) s s1 := (followed_self d _ s).ite (followed_lockUndo d s)
  split
  next h => exact ⟨s1, h1, h, followed_self d _ s1⟩
  next =>
    have hstatus : ∀ f ∈ statusFields d, f ∈ eventFields d := by simp +contextual [eventFields]
    have h3 : Followed d (SEL_DPLLd_STAT_STATE d :: eventFields d) s s3 := ((h1.avgUpdate.ite h1).put (by simp) st).withPtp _
    have h4 : Followed d (eventFields d) s3 s4 := ((followed_self d _ s3).withPtp _).ite (followed_self d _ s3)
    have h5 : Followed d (eventFields d) s3 s5 := ((h4.modDpll).put (by simp [eventFields]) 1).histPush.ite h4
    have h6 : Followed d (eventFields d) s3 s6 :=
      (((h5.put (by simp [eventFields]) 1).raise 25 (some d)).modDpll).ite h5
    have h7 : Followed d (eventFields d) s3 s7 := ((h6.put (by simp [eventFields, statusFields]) _).cycMark _ 0).ite h6
    have h8 : Followed d (eventFields d) s3 s8 := (((h7.put (by simp [eventFields, statusFields]) 0).put (by simp [eventFields, statusFields])
      0).put (by simp [eventFields]) 0).ite h6
    exact ⟨s3, h3, rd_state_put hst, (h8.showHoFreq hstatus).inSpecEval hstatus⟩

theorem state_putDpllState (hst : st < 4) : dpllState (putDpllState d st s) d = st := by
  obtain ⟨v, -, hv, hf⟩ := putDpllState_via (d := d) hst s
  exact (hf.rd_eq (f := SEL_DPLLd_STAT_STATE d) (by simp [eventFields, statusFields])).trans hv

theorem followed_putDpllState (hst : st < 4) : Followed d (SEL_DPLLd_STAT_STATE d :: eventFields d) s (putDpllState d st s) := by
  obtain ⟨v, hv, -, hf⟩ := putDpllState_via (d := d) hst s
  exact hv.trans (hf.mono fun f hf => List.mem_cons_of_mem _ hf)

theorem lockcnt_putDpllState (hst : st < 4) : rd (putDpllState d st s) (SEL_DPLLd_STAT_LOCKCNT d) = rd s (SEL_DPLLd_STAT_LOCKCNT d) :=
  (followed_putDpllState hst).rd_eq (by simp [eventFields, statusFields])

/-! ### The judgement for lock (R190) -/

/-- the samples within W in a row, with one of error e -/
def lockCount (d : Nat) (e : Int) (s : State) : Nat :=
  if e.natAbs ≤ rd s (SEL_DPLLd_LOCKW_W d) * 4096 then
    (if rd s (SEL_DPLLd_STAT_LOCKCNT d) < 65535 then rd s (SEL_DPLLd_STAT_LOCKCNT d) + 1 else 65535)
  else 0

/-- the samples beyond 2 W in a row, with one of error e -/
def unCount (d : Nat) (e : Int) (s : State) : Nat :=
  if 2 * (rd s (SEL_DPLLd_LOCKW_W d) * 4096) < e.natAbs then (ix s.dpll d).un + 1 else 0

/-- LOCKCNT after a sample of error e -/
def countShown (d : Nat) (e : Int) (s : State) : State :=
  if (e.natAbs : Int) ≤ (rd s (SEL_DPLLd_LOCKW_W d) * 4096 : Nat) then bump (SEL_DPLLd_STAT_LOCKCNT d) s else put (SEL_DPLLd_STAT_LOCKCNT d) 0 s

/-- a sample of error e counted -/
def counted (d : Nat) (e : Int) (s : State) : State :=
  modDpll d (fun x => { x with un := if 2 * ((rd s (SEL_DPLLd_LOCKW_W d) * 4096 : Nat) : Int) < (e.natAbs : Int) then x.un + 1 else 0 })
    (countShown d e s)

/-- DPLL d locked or unlocked by what has been counted -/
def lockJudged (d : Nat) (s : State) : State :=
  if dpllState s d = 1 ∧ max 1 (rd s (SEL_DPLLd_LOCK_LOCK_N d)) ≤ rd s (SEL_DPLLd_STAT_LOCKCNT d) then putDpllState d 2 s
  else if dpllState s d = 2 ∧ max 1 (rd s (SEL_DPLLd_LOCK_UN d)) ≤ (ix s.dpll d).un then putDpllState d 1 (put (SEL_DPLLd_STAT_LOCKCNT d) 0 s)
  else s

theorem orElse0_one (n : Nat) : orElse0 n 1 = max 1 n := by
  unfold orElse0
  split <;> omega

theorem lockJudged_eq (d : Nat) (s : State) : lockJudged d s =
    if dpllState s d = 1 && decide (orElse0 (rd s (SEL_DPLLd_LOCK_LOCK_N d)) 1 ≤ rd s (SEL_DPLLd_STAT_LOCKCNT d)) then putDpllState d 2 s
    else if dpllState s d = 2 && decide (orElse0 (rd s (SEL_DPLLd_LOCK_UN d)) 1 ≤ (ix s.dpll d).un) then
      putDpllState d 1 (put (SEL_DPLLd_STAT_LOCKCNT d) 0 s)
    else s :=
  if_congr (by simp [orElse0_one]) rfl (if_congr (by simp [orElse0_one]) rfl rfl)

theorem countShown_gen (d : Nat) (e : Int) (s : State) : (countShown d e s).gen = s.gen := by
  unfold countShown
  split <;> rfl

theorem countShown_dpll (d : Nat) (e : Int) (s : State) : (countShown d e s).dpll = s.dpll := by
  unfold countShown
  split <;> rfl

/-- SEL not isolated, a sample is counted and the lock judged by the count -/
theorem lockSample_eq (hiso : isolated s 6 = false) : lockSample d e s = lockJudged d (counted d e s) := by
  have hfree : isolated (counted d e s) 6 = false := by
    have hgen : (counted d e s).gen = s.gen := countShown_gen d e s
    rw [← hiso, isolated, hgen, isolated]
  rw [lockJudged_eq]
  exact if_neg (Bool.eq_false_iff.1 hfree)

theorem followed_counted (d : Nat) (e : Int) (s : State) : Followed d [SEL_DPLLd_STAT_LOCKCNT d] s (counted d e s) := by
  have hself := followed_self d [SEL_DPLLd_STAT_LOCKCNT d] s
  have hshown : Followed d [SEL_DPLLd_STAT_LOCKCNT d] s (countShown d e s) :=
    ((hself.put (by simp) _).cycMark _ _).ite (hself.put (by simp) 0)
  exact hshown.modDpll

theorem lockcnt_counted (d : Nat) (e : Int) (s : State) : rd (counted d e s) (SEL_DPLLd_STAT_LOCKCNT d) = lockCount d e s := by
  rw [counted, rd_modDpll, countShown, lockCount]
  simp only [Int.ofNat_le]
  split
  · rw [bump_eq, rd_cycMark, rd_put_same, width_SEL_DPLLd_STAT_LOCKCNT]
    split <;> omega
  · rw [rd_put_same, Nat.zero_mod]

theorem un_counted (hd : d < 8) (e : Int) (s : State) : (ix (counted d e s).dpll d).un = unCount d e s := by
  rw [counted, modDpll_dpll, ix_upd_same _ _ hd, countShown_dpll, unCount]
  exact if_congr (by omega) rfl rfl

theorem followed_lockJudged (d : Nat) (s : State) : Followed d (lockFields d) s (lockJudged d s) := by
  have hchange : ∀ st u, st < 4 → Followed d (lockFields d) s u → Followed d (lockFields d) s (putDpllState d st u) := fun st u hst hu =>
    hu.trans ((followed_putDpllState hst).mono fun f hf => List.mem_cons_of_mem _ hf)
  have hself := followed_self d (lockFields d) s
  exact (hchange 2 s (by omega) hself).ite ((hchange 1 _ (by omega) (hself.put (by simp [lockFields]) 0)).ite hself)

/-- what a judgement makes of STATE and of LOCKCNT, which is 0 where the lock is lost -/
theorem lockJudged_shows (hun : 0 < (ix s.dpll d).un → rd s (SEL_DPLLd_STAT_LOCKCNT d) = 0) :
    rd (lockJudged d s) (SEL_DPLLd_STAT_LOCKCNT d) = rd s (SEL_DPLLd_STAT_LOCKCNT d)
      ∧ dpllState (lockJudged d s) d = (if dpllState s d = 1 ∧ max 1 (rd s (SEL_DPLLd_LOCK_LOCK_N d)) ≤ rd s (SEL_DPLLd_STAT_LOCKCNT d) then 2
        else if dpllState s d = 2 ∧ max 1 (rd s (SEL_DPLLd_LOCK_UN d)) ≤ (ix s.dpll d).un then 1 else dpllState s d) := by
  unfold lockJudged
  split
  next => exact ⟨lockcnt_putDpllState (by omega), state_putDpllState (by omega)⟩
  next =>
    split
    next h =>
      refine ⟨?_, state_putDpllState (by omega)⟩
      rw [lockcnt_putDpllState (by omega), rd_put_same, hun (by omega), Nat.zero_mod]
    next => exact ⟨rfl, rfl⟩

end

/-! ### The loop (R187, R192) -/

/-- the fields that an update of the loop writes -/
def loopFields (d : Nat) : List Fld :=
  SEL_DPLLd_STAT_BW_CLAMP d :: SEL_DPLLd_STAT_PSL_ACT d :: SEL_DPLLd_PEND_LO_PEND d :: SEL_DPLLd_PEND_HI_PEND d :: SEL_DPLLd_STAT_SLEWING d
    :: SEL_DPLLd_EVT_STEP_DONE d :: holdoverFields d

section
variable {d i : Nat} {e : Int} {s u : State}

theorem Followed.slewMove (h : Followed d (loopFields d) s u) : Followed d (loopFields d) s (slewMove d u) := by
  unfold Machine.slewMove
  extract_lets pend mv left s1 s2
  have h2 : Followed d (loopFields d) s s2 := h.modDpll.putPairS (by simp [loopFields]) (by simp [loopFields]) _
  exact h.ite (((h2.put (by simp [loopFields]) 0).put (by simp [loopFields]) 1).ite h2)

theorem followed_loopUpdate (d i : Nat) (sum : Int) (n : Nat) (s : State) : Followed d (loopFields d) s (loopUpdate d i sum n s) := by
  unfold loopUpdate
  extract_lets dt c r s1 damp s2 x lim integ p0 psl pl p w s3 s4
  have h1 : Followed d (loopFields d) s s1 := (followed_self d _ s).put (by simp [loopFields]) _
  have h2 : Followed d (loopFields d) s s2 := (h1.modDpll).slewMove
  have h4 : Followed d (loopFields d) s s4 := (h2.put (by simp [loopFields]) _).modDpll
  exact ((h4.wordUpdate (by simp +contextual [loopFields]) lim w).histPush.avgUpdate).showHoFreq
    (by simp +contextual [loopFields, holdoverFields])

/-- the sample joins its group, and a full group updates the loop -/
def grouped (d i : Nat) (e : Int) (s : State) : State :=
  if groupSize s i ≤ (ix s.dpll d).gcnt + 1 then loopUpdate d i ((ix s.dpll d).gsum + e) ((ix s.dpll d).gcnt + 1) s
  else modDpll d (fun x => { x with gsum := x.gsum + e, gcnt := x.gcnt + 1 }) s

theorem followed_grouped (d i : Nat) (e : Int) (s : State) : Followed d (loopFields d) s (grouped d i e s) :=
  (followed_loopUpdate d i _ _ s).ite ((followed_self d _ s).modDpll)

/-! ### A tracked sample (R186, R187, R190) -/

/-- a sample of error e taken at DPLL d -/
def sampled (d : Nat) (e : Int) (s : State) : State :=
  modDpll d (fun x => { x with smpAt := s.now }) (putS (SEL_DPLLd_PERR_E d) (satS 32 e) s)

theorem rd_sampled_ne {f : Fld} (h : fldKey (SEL_DPLLd_PERR_E d) ≠ fldKey f) : rd (sampled d e s) f = rd s f := by
  rw [sampled, rd_modDpll, putS_eq, rd_put_ne _ _ h]

theorem smpAt_sampled (hd : d < 8) : (ix (sampled d e s).dpll d).smpAt = s.now := by
  rw [sampled, modDpll_dpll, ix_upd_same _ _ hd]

/-- a value that fits 32 bits is read as it was stored -/
theorem sgn_uns_satS_32 (x : Int) : sgn 32 (uns 32 (satS 32 x) % 2 ^ 32) = satS 32 x := by
  obtain ⟨r, hr⟩ : ∃ r, satS 32 x = r := ⟨_, rfl⟩
  have hlo : -(2 ^ 31 - 1) ≤ r ∧ r ≤ 2 ^ 31 - 1 := by
    rw [← hr]
    simp only [satS, clampI]
    split <;> omega
  have hmod : ((uns 32 r : Nat) : Int) = r % 2 ^ 32 := by
    rw [uns]
    omega
  rw [hr, sgn]
  split <;> omega

theorem rdS_perr_sampled : rdS (sampled d e s) (SEL_DPLLd_PERR_E d) = satS 32 e := by
  rw [rdS, sampled, rd_modDpll, putS_eq, rd_put_same, width_SEL_DPLLd_PERR_E, sgn_uns_satS_32]

/-- outside HOLDOVER a tracked sample is taken, judged for lock, and joins its group -/
theorem trackSample_eq (hst : dpllState s d ≠ 3) (hiso : isolated s 6 = false) :
    trackSample d i e s = grouped d i e (lockJudged d (counted d e (sampled d e s))) := by
  have hst' : dpllState (sampled d e s) d ≠ 3 := by
    rw [dpllState, rd_sampled_ne (by simp)]
    exact hst
  have hskip : (if dpllState (sampled d e s) d = 3 then toAcquiring d (sampled d e s) else sampled d e s) = sampled d e s := if_neg hst'
  rw [← lockSample_eq (s := sampled d e s) hiso]
  exact congrArg (fun u => grouped d i e (lockSample d e u)) hskip

/-- the fields that a tracked sample writes -/
def trackFields (d : Nat) : List Fld := SEL_DPLLd_PERR_E d :: (lockFields d ++ loopFields d)

/-- v is s after DPLL d tracked a sample of error e -/
structure Tracked (d : Nat) (e : Int) (s v : State) : Prop where
  perr : rdS v (SEL_DPLLd_PERR_E d) = satS 32 e
  count : rd v (SEL_DPLLd_STAT_LOCKCNT d) = lockCount d e s
  state : dpllState v d = (if dpllState s d = 1 ∧ max 1 (rd s (SEL_DPLLd_LOCK_LOCK_N d)) ≤ lockCount d e s then 2
    else if dpllState s d = 2 ∧ max 1 (rd s (SEL_DPLLd_LOCK_UN d)) ≤ unCount d e s then 1 else dpllState s d)
  smpAt : (ix v.dpll d).smpAt = s.now
  now : v.now = s.now
  regs : RegsBut (trackFields d) s v
  kept : Kept s v
  selWas : v.selWas = s.selWas

/-- a sample beyond 2 W lies beyond W -/
theorem lockCount_of_unCount (h : 0 < unCount d e s) : lockCount d e s = 0 := by
  refine if_neg fun hin => ?_
  rw [unCount, if_neg (by omega)] at h
  exact absurd h (Nat.lt_irrefl 0)

theorem lockCount_sampled : lockCount d e (sampled d e s) = lockCount d e s := by
  rw [lockCount, rd_sampled_ne (by simp), rd_sampled_ne (by simp), lockCount]

theorem unCount_sampled (hd : d < 8) : unCount d e (sampled d e s) = unCount d e s := by
  have hun : (ix (sampled d e s).dpll d).un = (ix s.dpll d).un := by
    rw [sampled, modDpll_dpll, ix_upd_same _ _ hd, putS_eq, put_dpll]
  rw [unCount, rd_sampled_ne (by simp), hun, unCount]

theorem tracked_trackSample (hd : d < 8) (hst : dpllState s d ≠ 3) (hiso : isolated s 6 = false) : Tracked d e s (trackSample d i e s) := by
  have hcount := followed_counted d e (sampled d e s)
  have hgroup := followed_grouped d i e (lockJudged d (counted d e (sampled d e s)))
  have hafter : Followed d (lockFields d ++ loopFields d) (sampled d e s) (grouped d i e (lockJudged d (counted d e (sampled d e s)))) :=
    ((hcount.mono (by simp [lockFields])).trans ((followed_lockJudged d _).mono (by simp +contextual))).trans (hgroup.mono (by simp +contextual))
  have hun := un_counted hd e (sampled d e s)
  have hcnt := lockcnt_counted d e (sampled d e s)
  rw [unCount_sampled hd] at hun
  rw [lockCount_sampled] at hcnt
  obtain ⟨hshown, hstate⟩ := lockJudged_shows (d := d) (s := counted d e (sampled d e s)) (by rw [hun, hcnt]; exact lockCount_of_unCount)
  have hbefore : ∀ {f}, fldKey (SEL_DPLLd_STAT_LOCKCNT d) ≠ fldKey f → fldKey (SEL_DPLLd_PERR_E d) ≠ fldKey f →
      rd (counted d e (sampled d e s)) f = rd s f := fun hc hp => (hcount.rd_eq (by simpa using hc.symm)).trans (rd_sampled_ne hp)
  rw [trackSample_eq hst hiso]
  refine ⟨?_, ?_, ?_, hafter.smpAt.trans (smpAt_sampled hd), hafter.now, ?_, ?_, hafter.selWas⟩
  · rw [rdS, hafter.rd_eq (by simp [lockFields, eventFields, loopFields, holdoverFields, statusFields, wrateFields]; omega)]
    exact rdS_perr_sampled
  · rw [hgroup.rd_eq (by simp [loopFields, holdoverFields, statusFields, wrateFields]; omega), hshown, hcnt]
  · rw [dpllState, hgroup.rd_eq (by simp [loopFields, holdoverFields, statusFields, wrateFields]; omega)]
    have hst' : dpllState (counted d e (sampled d e s)) d = dpllState s d := hbefore (by simp) (by simp)
    rw [hcnt, hun, hbefore (by simp) (by simp), hbefore (by simp) (by simp), hst'] at hstate
    exact hstate
  · exact regsBut_trans (u := sampled d e s) (regsBut_put (regsBut_of_rd (fun _ => rfl) _) (by simp [trackFields]) _)
      (regsBut_mono hafter.regs (by simp +contextual [trackFields]))
  · exact Kept.trans (u := sampled d e s) ⟨rfl, rfl, rfl, rfl, rfl⟩ hafter.kept

/-- only fields of the DPLL and of the synthesisers have changed -/
theorem Tracked.regsOutside {v : State} (h : Tracked d e s v) :
    RegsOutside [(0x600400 + 128 * d, 0x600480 + 128 * d), (0x700000, 0x700100)] s v := by
  intro f hf
  refine h.regs f ?_
  simp [trackFields, lockFields, eventFields, loopFields, holdoverFields, statusFields, wrateFields] at hf ⊢
  omega

theorem Tracked.unused {k : Nat} {v : State} (h : Tracked d e s v) (hk : k < 8) (hu : Unused k i s) : Unused k i v := by
  refine hu.congr h.now h.selWas fun f hf => h.regsOutside f ?_
  simp at hf ⊢
  rcases hf with rfl | rfl | rfl | rfl <;> simp <;> omega

end

/-! ### The command -/

section
variable {dt d i k : Nat} {diff : Int} {s : State}

/-- the state in which a sample reaches the phase detectors: its frequency estimate has kept it -/
def arrived (dt i : Nat) (diff : Int) (s : State) : State := estSample i diff (pass dt s)

/-- a sample kept for an estimate changes the estimate alone -/
theorem arrived_keeps {α : Type} (get : State → α) (h : ∀ f u, get (modEst i f u) = get u) : get (arrived dt i diff s) = get (pass dt s) := by
  unfold arrived estSample
  split
  · exact h _ _
  · rfl

theorem rd_arrived (f : Fld) : rd (arrived dt i diff s) f = rd s f :=
  (arrived_keeps (rd · f) fun _ _ => rfl).trans (rd_pass dt s f)

theorem within_arrived (dt i : Nat) (diff : Int) (s : State) : Within dt [] s (arrived dt i diff s) := by
  unfold arrived estSample
  split
  · exact (within_pass dt [] s).modEst i _
  · exact within_pass dt [] s

theorem exec_phaseSample (hi : i < 32) :
    exec (.phaseSample dt i diff) s = done s (forEach (List.range 8) (fun d => dpllSample d i diff) (arrived dt i diff s)) := by
  change done s (whenB (i < 32) (slotSample i diff) (pass dt s)) = _
  rw [decide_eq_true hi, whenB_true]
  rfl

theorem unused_arrived (hact : actSlot s k ≠ some i)
    (hpend : ¬ (rd s (SEL_SELd_STAT_STAGE k) = 2 ∧ rd s (SEL_SELd_STAT_PEND_SLOT k) = i))
    (hfresh : ∀ w, ix s.selWas k = some w → w.cyc < cycleNow (pass dt s)) : Unused k i (arrived dt i diff s) := by
  refine ⟨?_, by rwa [rd_arrived, rd_arrived], ?_⟩
  · rwa [actSlot_congr fun f _ => rd_arrived f]
  · rw [arrived_keeps (fun u => ix u.selWas k) fun _ _ => rfl, arrived_keeps cycleNow fun _ _ => rfl, pass_selWas]
    exact hfresh

theorem phaseError_eq (d : Nat) (x : Int) (s : State) : phaseError d x s =
    x - (if (rd s (SEL_SELd_PBO_HI_B d)).testBit 31 then (rdPair s (SEL_SELd_PBO_LO_B d) (SEL_SELd_PBO_HI_B d) : Int) - 2 ^ 64
      else (rdPair s (SEL_SELd_PBO_LO_B d) (SEL_SELd_PBO_HI_B d) : Int)) + owNow s d := by
  unfold phaseError bitAt
  split <;> omega

/-- the state in which DPLL d tracks a sample: its input is not lost -/
def tracking (dt d i : Nat) (diff : Int) (s : State) : State := modSel d (fun y => { y with lost := false }) (arrived dt i diff s)

/-- a sample of the slot that DPLL d alone uses, and tracks, is followed by DPLL d alone -/
theorem brings_phaseSample (hi : i < 32) (hd : d < 8) (hlive : live s 6 = true) (hiso : isolated s 6 = false)
    (hst : dpllState s d ≠ 3) (hact : actSlot s d = some i) (hlost : (ix s.sel d).lost = false) (helig : eligible s d i = true)
    (hmode : rd s (SEL_SELd_CFG_SELMODE d) ≠ 2) (htime : d ≠ timeDpll s)
    (hpend : ¬ (rd s (SEL_SELd_STAT_STAGE d) = 2 ∧ rd s (SEL_SELd_STAT_PEND_SLOT d) = i))
    (hfresh : ∀ w, ix s.selWas d = some w → w.cyc < cycleNow (pass dt s))
    (hother : ∀ k < 8, k ≠ d → Unused k i (arrived dt i diff s)) :
    ∃ v, Brings (.phaseSample dt i diff) s v
      ∧ Tracked d (phaseError d (sampleOf (pass dt s) d i diff) (pass dt s)) (tracking dt d i diff s) v := by
  have hiso' : isolated (arrived dt i diff s) 6 = false := by
    rw [arrived_keeps (isolated · 6) fun _ _ => rfl, Machine.pass, isolated_advanceTo]
    exact hiso
  have hlive' : live (arrived dt i diff s) 6 = true := by
    rw [arrived_keeps (live · 6) fun _ _ => rfl, Machine.pass, live_advanceTo]
    exact hlive
  have helig' : eligible (arrived dt i diff s) d i = true := by
    rw [arrived_keeps (eligible · d i) fun _ _ => rfl, eligible, candMask, slotQualified, effQl, pass_img, rd_pass, rd_pass, rd_pass, rd_pass]
    exact helig
  have hsample := dpllSample_active (diff := diff) hlive' hiso' ((actSlot_congr fun f _ => rd_arrived f).trans hact)
    (by rwa [arrived_keeps (fun u => (ix u.sel d).lost) fun _ _ => rfl, pass_sel]) helig' (by rwa [rd_arrived])
    (by rwa [timeDpll, rd_arrived]) (by rwa [rd_arrived, rd_arrived])
    (by rwa [arrived_keeps (fun u => ix u.selWas d) fun _ _ => rfl, arrived_keeps cycleNow fun _ _ => rfl, pass_selWas])
  rw [arrived_keeps (fun u => phaseError d (sampleOf u d i diff) u) fun _ _ => rfl] at hsample
  have htracked := tracked_trackSample (s := tracking dt d i diff s) (i := i)
    (e := phaseError d (sampleOf (pass dt s) d i diff) (pass dt s)) hd (by rwa [dpllState, tracking, rd_modSel, rd_arrived]) hiso'
  refine ⟨_, (exec_phaseSample hi).trans (congrArg (done s) ?_), htracked⟩
  rw [← tracking] at hsample
  rw [← hsample] at htracked ⊢
  refine forEach_only List.nodup_range (List.mem_range.2 hd) (fun k hk hne => dpllSample_unused (hother k (List.mem_range.1 hk) hne))
    fun k hk hne => ?_
  have hk8 := List.mem_range.1 hk
  exact dpllSample_unused (htracked.unused hk8 ((hother k hk8 hne).congr rfl rfl fun _ _ => rfl))

/-- Settles O32: of the loop over the phase detectors the one DPLL that uses the slot answers; its error is judged on the registers of before the
sample, since what counts, judges and filters it leaves the fields that show the others. -/
theorem phaseSamplesAreTracked : Obligations.PhaseSamplesAreTracked := by
  unfold Obligations.PhaseSamplesAreTracked
  intro dt d i diff s hb hd hi hlive hiso hfresh free st pb e w cnt un
  refine ⟨fun hact hlost helig hmode hst htime hpend hother => ?_, fun hfree => ?_⟩
  · obtain ⟨v, hv, h⟩ := brings_phaseSample (diff := diff) hi hd hlive hiso (by omega) hact hlost helig hmode htime hpend (hfresh d hd)
      fun k hk hne => unused_arrived (hother k hk hne).1 (hother k hk hne).2 (hfresh k hk)
    have he : phaseError d (sampleOf (pass dt s) d i diff) (pass dt s) = e := by
      rw [phaseError_eq]
      simp only [rdPair, rd_pass]
      rfl
    have hrd : ∀ f, rd (tracking dt d i diff s) f = rd s f := rd_arrived
    have hun : (ix (tracking dt d i diff s).dpll d).un = (ix s.dpll d).un :=
      (arrived_keeps (fun u => (ix u.dpll d).un) fun _ _ => rfl).trans (dpll_pass hd (·.un) fun _ => rfl)
    have hcnt : lockCount d e (tracking dt d i diff s) = cnt := by
      simp only [lockCount, hrd]
      rfl
    have hunc : unCount d e (tracking dt d i diff s) = un := by
      simp only [unCount, hrd, hun]
      rfl
    have hnow : (tracking dt d i diff s).now = s.now + dt := (within_arrived dt i diff s).now
    rw [he] at h
    have hout := h.regsOutside
    obtain ⟨hperr, hcount, hstate, hsmp, hvnow, -, hkept, -⟩ := h
    refine ⟨v, hv, hperr, hcount.trans hcnt, ?_, hsmp.trans hnow, hvnow.trans hnow, fun f hf => (hout f hf).trans (hrd f),
      (((within_arrived dt i diff s).kept.modSel d _).trans hkept).storesSame⟩
    rw [hstate, hcnt, hunc, hrd, hrd, dpllState, hrd]
    rfl
  · have hnone : forEach (List.range 8) (fun d => dpllSample d i diff) (arrived dt i diff s) = arrived dt i diff s :=
      forEach_none fun k hk => dpllSample_unused (unused_arrived (hfree k (List.mem_range.1 hk)).1 (hfree k (List.mem_range.1 hk)).2
        (hfresh k (List.mem_range.1 hk)))
    have hw := within_arrived dt i diff s
    exact hw.completes ((exec_phaseSample hi).trans (congrArg (done s) hnone)) hb
      ⟨arrived_keeps (·.dpll) fun _ _ => rfl, hw.now, hw.regs, hw.storesSame⟩

end

end Sys2Proof.ReferenceSelection

/-! Learning minutes, hour buckets and the commands of a DPLL (O34): a minute changes the DPLLs' own state alone, an hour bucket is closed DPLL by
DPLL, and a write of DPLLd_CTL reaches its DPLL since none of its bits is stored. -/

namespace Sys2Proof.ReferenceSelection
open Sys2Proof.Machine Sys2Proof.Reg Sys2Proof.Safety Sys2Proof.Clocks Sys2Proof.Modes

/-! ### A minute (R197) -/

theorem upd_upd {α : Type} {n : Nat} (v : Vector α n) (i : Nat) (f g : α → α) : upd (upd v i f) i g = upd v i (g ∘ f) := by
  by_cases h : i < n
  · simp [upd, h]
  · simp [upd, h]

theorem upd_id {α : Type} {n : Nat} (v : Vector α n) (i : Nat) : upd v i id = v := by
  by_cases h : i < n
  · simp [upd, h]
  · simp [upd, h]

/-- a DPLL without its history -/
def histOff (x : DpllS) : DpllS := { x with hist := [] }

section
variable {d k n t : Nat} {m : MinSample} {s u : State}

theorem modDpll_modDpll (d : Nat) (f g : DpllS → DpllS) (s : State) : modDpll d g (modDpll d f s) = modDpll d (g ∘ f) s :=
  congrArg (withDplls · s) (upd_upd s.dpll d f g)

theorem modDpll_id (d : Nat) (s : State) : modDpll d id s = s := congrArg (withDplls · s) (upd_id s.dpll d)

theorem noted_modDpll (c : Prop) [Decidable c] (g : DpllS → List (Nat × Int × Int)) (d : Nat) (s : State) :
    ∃ h, (if c then modDpll d (fun x => { x with hist := g x }) s else s) = modDpll d h s ∧ ∀ x, histOff (h x) = histOff x := by
  split
  · exact ⟨_, rfl, fun _ => rfl⟩
  · exact ⟨id, (modDpll_id d s).symm, fun _ => rfl⟩

/-- of DPLL d a note of its word changes the history alone -/
theorem histPush_modDpll (d : Nat) (s : State) : ∃ h, histPush d s = modDpll d h s ∧ ∀ x, histOff (h x) = histOff x :=
  noted_modDpll _ _ d s

theorem confirmModel_of_confirmed (h : rd s (SEL_DPLLd_STAT_RESTORED d) = 0) : confirmModel d m s = s := by
  simp [confirmModel, on_eq_false h]

/-- with no model awaiting confirmation a minute changes the DPLL's own state alone, and adds one slot to it -/
theorem minuteEnd_modDpll (h : rd s (SEL_DPLLd_STAT_RESTORED d) = 0) :
    ∃ f, minuteEnd d s = modDpll d f s ∧ ∀ x, (f x).slots = x.slots + 1 := by
  obtain ⟨p, hp, hsame⟩ := histPush_modDpll d s
  have hslots : ∀ x, (p x).slots = x.slots := fun x => (congrArg DpllS.slots (hsame x) :)
  have hrest : rd (modDpll d p s) (SEL_DPLLd_STAT_RESTORED d) = 0 := h
  unfold minuteEnd minStart
  rw [hp]
  dsimp only
  cases minuteOf (modDpll d p s) d with
  | none =>
    simp only [modDpll_modDpll]
    refine ⟨_, rfl, fun x => ?_⟩
    exact congrArg (· + 1) (hslots x)
  | some m =>
    simp only [confirmModel_of_confirmed hrest, modDpll_modDpll]
    refine ⟨_, rfl, fun x => ?_⟩
    exact congrArg (· + 1) (hslots x)

/-- a minute ends at time t -/
def minuteBegun (t : Nat) (s : State) : State := { advanceTo t s with minAt := (advanceTo t s).now }

theorem within_minuteBegun (t : Nat) (s : State) : Within (t - s.now) [] s (minuteBegun t s) := by
  have h := within_advanceTo t [] s
  exact ⟨h.now, h.regs, ⟨h.kept.pending, h.kept.mram, h.kept.mramJ, h.kept.cram, h.kept.otp⟩, h.quiet⟩

theorem minuteSample_eq (hrun : s.tkp.run = true) (hlive : live s 6 = true) (hiso : isolated s 6 = false) (ht : t = nextMinute s) :
    minuteSample s = forEach (List.range 8) minuteEnd (minuteBegun t s) := by
  have hlive' : live (minuteBegun t s) 6 = live s 6 := live_advanceTo t 6 s
  have hiso' : isolated (minuteBegun t s) 6 = isolated s 6 := isolated_advanceTo t 6 s
  have hrun' : (minuteBegun t s).tkp = s.tkp := advanceTo_tkp t s
  have hall : ((minuteBegun t s).tkp.run && live (minuteBegun t s) 6 && !isolated (minuteBegun t s) 6) = true := by
    rw [hlive', hiso', hrun', hrun, hlive, hiso]
    rfl
  subst ht
  exact if_pos hall

/-- the minutes of the DPLLs leave everything but the DPLLs' own state -/
theorem within_minutes (hw : Within n [] s u) (hrest : ∀ k < 8, rd s (SEL_DPLLd_STAT_RESTORED k) = 0) :
    Within n [] s (forEach (List.range 8) minuteEnd u) ∧ (forEach (List.range 8) minuteEnd u).minAt = u.minAt := by
  refine forEach_holds (P := fun v => Within n [] s v ∧ v.minAt = u.minAt) (fun k hk v hv => ?_) ⟨hw, rfl⟩
  obtain ⟨f, hf, -⟩ := minuteEnd_modDpll (d := k) (s := v) ((hv.1.rd_eq (by simp)).trans (hrest k (List.mem_range.1 hk)))
  rw [hf]
  exact ⟨hv.1.modDpll k f, hv.2⟩

/-- every DPLL has one slot more -/
theorem slots_minutes (hw : Within n [] s u) (hrest : ∀ k < 8, rd s (SEL_DPLLd_STAT_RESTORED k) = 0) (hk : k < 8) :
    (ix (forEach (List.range 8) minuteEnd u).dpll k).slots = (ix u.dpll k).slots + 1 := by
  have hstep : ∀ j < 8, ∀ v, Within n [] s v → ∃ f, minuteEnd j v = modDpll j f v ∧ ∀ x, (f x).slots = x.slots + 1 := fun j hj v hv =>
    minuteEnd_modDpll ((hv.rd_eq (by simp)).trans (hrest j hj))
  have hother : ∀ c j, j ∈ List.range 8 → j ≠ k → ∀ v, Within n [] s v ∧ (ix v.dpll k).slots = c →
      Within n [] s (minuteEnd j v) ∧ (ix (minuteEnd j v).dpll k).slots = c := fun c j hj hjk v hv => by
    obtain ⟨f, hf, -⟩ := hstep j (List.mem_range.1 hj) v hv.1
    rw [hf]
    exact ⟨hv.1.modDpll j f, by rw [modDpll_dpll, ix_upd_ne _ _ hjk, hv.2]⟩
  refine (forEach_turn (Q := fun v => Within n [] s v ∧ (ix v.dpll k).slots = (ix u.dpll k).slots + 1) List.nodup_range (List.mem_range.2 hk)
    (hother _) (fun v hv => ?_) (hother _) ⟨hw, rfl⟩).2
  obtain ⟨f, hf, hslots⟩ := hstep k hk v hv.1
  rw [hf]
  exact ⟨hv.1.modDpll k f, by rw [modDpll_dpll, ix_upd_same _ _ hk, hslots, hv.2]⟩

theorem completes_minuteSample (hb : Between s) (hrun : s.tkp.run = true) (hlive : live s 6 = true) (hiso : isolated s 6 = false)
    (hrest : ∀ k < 8, rd s (SEL_DPLLd_STAT_RESTORED k) = 0) (ht : t = nextMinute s) :
    Completes .minuteSample s (fun u => (∀ k < 8, (ix u.dpll k).slots = (ix s.dpll k).slots + 1) ∧ u.minAt = u.now
      ∧ u.now = max s.now t ∧ RegsBut [] s u ∧ StoresSame s u) := by
  obtain ⟨hw, hmin⟩ := within_minutes (within_minuteBegun t s) hrest
  have hnow := hw.now.trans (add_sub_eq_max _ _)
  refine hw.completes (congrArg (done s) (minuteSample_eq hrun hlive hiso ht)) hb ⟨fun k hk => ?_, ?_, hnow, hw.regs, hw.storesSame⟩
  · have hslots : (accOff (ix (advanceTo t s).dpll k)).slots = (accOff (ix s.dpll k)).slots := congrArg DpllS.slots (accOff_advanceTo hk t s)
    rw [slots_minutes (within_minuteBegun t s) hrest hk]
    exact congrArg (· + 1) hslots
  · rw [hmin, hnow]
    exact advanceTo_now t s

end

/-! ### The model fitted again (R197, R198) -/

/-- the fields that show the drift model of DPLL d -/
def modelFields (d : Nat) : List Fld :=
  [SEL_DPLLd_STAT_MODEL_VALID d, SEL_DPLLd_STAT_TERMS d, SEL_DPLLd_A0_LO_A0 d, SEL_DPLLd_A0_HI_A0 d, SEL_DPLLd_A1_A1 d, SEL_DPLLd_C1_C1 d,
    SEL_DPLLd_C2_C2 d, SEL_DPLLd_MREF_THETA_W d, SEL_DPLLd_MSTAT_COUNT d, SEL_DPLLd_MSTAT_BUCKETS d, SEL_DPLLd_MSTAT_RES d]

/-- u is s after fields of the list l, the state of DPLL d and what nothing follows were changed -/
structure Learned (d : Nat) (l : List Fld) (s u : State) : Prop where
  within : Within 0 l s u
  gen : u.gen = s.gen
  others : ∀ k, k ≠ d → ix u.dpll k = ix s.dpll k

theorem learned_self (d : Nat) (l : List Fld) (s : State) : Learned d l s s := ⟨within_self l s, rfl, fun _ _ => rfl⟩

namespace Learned
variable {d : Nat} {l : List Fld} {s u v : State}

theorem put (h : Learned d l s u) {f : Fld} (hf : f ∈ l) (v : Nat) : Learned d l s (put f v u) := ⟨h.within.put hf v, h.gen, h.others⟩

theorem modDpll (h : Learned d l s u) (f : DpllS → DpllS) : Learned d l s (modDpll d f u) :=
  ⟨h.within.modDpll d f, h.gen, fun k hk => by rw [modDpll_dpll, ix_upd_ne _ _ hk.symm, h.others k hk]⟩

theorem modNvm (h : Learned d l s u) (f : NvmS → NvmS) : Learned d l s (modNvm f u) :=
  ⟨⟨h.within.now, h.within.regs, ⟨h.within.kept.pending, h.within.kept.mram, h.within.kept.mramJ, h.within.kept.cram, h.within.kept.otp⟩,
    h.within.quiet⟩, h.gen, h.others⟩

theorem withFree (h : Learned d l s u) (n : Nat) : Learned d l s { u with free := n } :=
  ⟨⟨h.within.now, h.within.regs, ⟨h.within.kept.pending, h.within.kept.mram, h.within.kept.mramJ, h.within.kept.cram, h.within.kept.otp⟩,
    h.within.quiet⟩, h.gen, h.others⟩

theorem ite {c : Prop} [Decidable c] (hu : Learned d l s u) (hv : Learned d l s v) : Learned d l s (if c then u else v) := by
  split
  · exact hu
  · exact hv

theorem trans (h : Learned d l s u) (h' : Learned d l u v) : Learned d l s v :=
  ⟨h.within.trans h'.within fun _ hf => hf, h'.gen.trans h.gen, fun k hk => (h'.others k hk).trans (h.others k hk)⟩

theorem mono {l' : List Fld} (h : Learned d l s u) (hl : ∀ f ∈ l, f ∈ l') : Learned d l' s u :=
  ⟨(within_self l' s).trans h.within hl, h.gen, h.others⟩

theorem histPush (h : Learned d l s u) : Learned d l s (histPush d u) := (h.modDpll _).ite h

theorem progNext (h : Learned d l s u) : Learned d l s (progNext u) := h.ite ((h.modNvm _).ite ((h.modNvm _).ite h))

theorem wbOffer (h : Learned d l s u) (hl : NVM_STAT_WB_LEVEL ∈ l) (it : WbItem) : Learned d l s (wbOffer it u) :=
  (((h.modNvm _).put hl _).progNext).ite (h.modNvm _)

theorem wbOffers (h : Learned d l s u) (hl : NVM_STAT_WB_LEVEL ∈ l) (its : List WbItem) : Learned d l s (forEach its Machine.wbOffer u) :=
  forEach_holds (fun it _ _ hv => hv.wbOffer hl it) h

theorem refit (h : Learned d l s u) (hl : ∀ f ∈ modelFields d, f ∈ l) : Learned d l s (refit d u) := by
  refine h.trans (mono ?_ hl)
  have hput : ∀ {v : State} {f : Fld} (n : Nat), f ∈ modelFields d → Learned d (modelFields d) u v →
      Learned d (modelFields d) u (Machine.put f n v) :=
    fun n hf hv => hv.put hf n
  unfold Machine.refit modelValidEval
  extract_lets smp f v w a
  have hw : Learned d (modelFields d) u w := ((learned_self d _ u).withFree _).modDpll _
  iterate 11 refine hput _ (by simp [modelFields]) ?_
  exact hw

end Learned

/-- a DPLL whose model has been fitted -/
def fitted (t : Int) (was : Option (Nat × HoModel)) (x : DpllS) : DpllS := { x with tW := t, mWas := was }

section
variable {d k : Nat} {s : State}

theorem refit_dpll (d : Nat) (s : State) : ∃ t was, (refit d s).dpll = upd s.dpll d (fitted t was) := ⟨_, _, rfl⟩

/-- what a part of the DPLL shows that a fit does not set -/
theorem refit_part (hd : d < 8) {α : Type} (part : DpllS → α) (hp : ∀ t was x, part (fitted t was x) = part x) :
    part (ix (refit d s).dpll d) = part (ix s.dpll d) := by
  obtain ⟨t, was, h⟩ := refit_dpll d s
  rw [h, ix_upd_same _ _ hd, hp]

theorem wbOffer_dpll (it : WbItem) (s : State) : (wbOffer it s).dpll = s.dpll := by
  unfold wbOffer progNext
  repeat' split
  all_goals rfl

theorem rd_buckets_refit (hd : d < 8) : rd (refit d s) (SEL_DPLLd_MSTAT_BUCKETS d) = (ix s.dpll d).buckets.length % 32 := by
  simp [refit, modelValidEval, rd_put_ne, ix_upd_same _ _ hd]

/-! ### An hour bucket (R197, R198) -/

/-- the bucket in progress closed at time t, before those of the latest 24 hours -/
def bucketShut (t : Nat) (x : DpllS) : DpllS :=
  { x with slots := 0, open_ := [], openG := none, buckets := ({ close := t, smp := x.open_, g := x.openG } :: x.buckets).take 24 }

/-- an hour bucket of DPLL d closed and the model fitted again -/
def bucketFitted (d : Nat) (s : State) : State := refit d (modDpll d (bucketShut s.now) s)

/-- the fields that the close of an hour bucket writes -/
def bucketFields (d : Nat) : List Fld := NVM_STAT_WB_LEVEL :: modelFields d

theorem bucketClose_short (h : (ix s.dpll d).slots < 60 ∨ isolated s 6 = true) : bucketClose d s = s := by
  refine if_pos ?_
  rcases h with h | h
  · simp [h]
  · simp [h]

theorem bucketClose_full (h : 60 ≤ (ix s.dpll d).slots) (hiso : isolated s 6 = false) :
    bucketClose d s = forEach (learnItems (modDpll d (bucketShut s.now) s) d) wbOffer (bucketFitted d s) := by
  refine if_neg ?_
  simp [hiso, h]

theorem learned_bucketFitted (d : Nat) (s : State) : Learned d (bucketFields d) s (bucketFitted d s) :=
  ((learned_self d _ s).modDpll _).refit (by simp +contextual [bucketFields])

theorem learned_bucketClose (d : Nat) (s : State) : Learned d (bucketFields d) s (bucketClose d s) :=
  (learned_self d _ s).ite ((learned_bucketFitted d s).wbOffers (by simp [bucketFields]) _)

/-- v shows the bucket in progress of DPLL d, which was x, closed at time t -/
structure BucketShown (d t : Nat) (x : DpllS) (v : State) : Prop where
  buckets : (ix v.dpll d).buckets = (bucketShut t x).buckets
  slots : (ix v.dpll d).slots = 0
  open_ : (ix v.dpll d).open_ = []
  count : rd v (SEL_DPLLd_MSTAT_BUCKETS d) = min 24 (x.buckets.length + 1)

theorem bucketClose_shows (hd : d < 8) (h : 60 ≤ (ix s.dpll d).slots) (hiso : isolated s 6 = false) :
    BucketShown d s.now (ix s.dpll d) (bucketClose d s) := by
  have hshut : ix (modDpll d (bucketShut s.now) s).dpll d = bucketShut s.now (ix s.dpll d) := ix_upd_same _ _ hd
  have hoffer : ∀ its u, (forEach its wbOffer u).dpll = u.dpll := fun its u => forEach_keeps (·.dpll) its wbOffer u wbOffer_dpll
  have hlen : (bucketShut s.now (ix s.dpll d)).buckets.length = min 24 ((ix s.dpll d).buckets.length + 1) := by
    simp only [bucketShut, List.length_take, List.length_cons]
  rw [bucketClose_full h hiso]
  refine ⟨?_, ?_, ?_, ?_⟩
  · rw [hoffer, bucketFitted, refit_part hd (·.buckets) fun _ _ _ => rfl, hshut]
  · rw [hoffer, bucketFitted, refit_part hd (·.slots) fun _ _ _ => rfl, hshut, bucketShut]
  · rw [hoffer, bucketFitted, refit_part hd (·.open_) fun _ _ _ => rfl, hshut, bucketShut]
  · rw [((learned_self d [NVM_STAT_WB_LEVEL] _).wbOffers (by simp) _).within.rd_eq (f := SEL_DPLLd_MSTAT_BUCKETS d) (by simp; omega),
      bucketFitted, rd_buckets_refit hd, hshut, hlen]
    omega

/-- the fields of the DPLLs and of NVM, as O34 bounds them -/
abbrev learnSpans : List (Nat × Nat) := [(0x600400, 0x600800), (0xE00000, 0xE00400)]

/-- u is s after hour buckets were closed -/
structure BucketsClosed (s u : State) : Prop where
  now : u.now = s.now
  regs : RegsOutside learnSpans s u
  kept : Kept s u
  quiet : calm u = calm s
  gen : u.gen = s.gen

theorem BucketsClosed.close {u : State} (h : BucketsClosed s u) (hd : d < 8) : BucketsClosed s (bucketClose d u) := by
  obtain ⟨⟨hnow, hregs, hkept, hquiet⟩, hgen, -⟩ := learned_bucketClose d u
  refine ⟨hnow.trans h.now, fun f hf => (hregs f ?_).trans (h.regs f hf), h.kept.trans hkept, hquiet.trans h.quiet, hgen.trans h.gen⟩
  simp [bucketFields, modelFields] at hf ⊢
  omega

theorem BucketsClosed.isolated_eq {u : State} (h : BucketsClosed s u) : isolated u 6 = isolated s 6 := by
  rw [isolated, h.gen, isolated]

theorem bucketsClosed_self (s : State) : BucketsClosed s s := ⟨rfl, fun _ _ => rfl, ⟨rfl, rfl, rfl, rfl, rfl⟩, rfl, rfl⟩

/-- the hour buckets of all DPLLs -/
def allClosed (s : State) : State := forEach (List.range 8) bucketClose s

theorem bucketsClosed_allClosed (s : State) : BucketsClosed s (allClosed s) :=
  forEach_holds (fun _ hk _ hv => hv.close (List.mem_range.1 hk)) (bucketsClosed_self s)

/-- a DPLL whose bucket does not close, or none while SEL is isolated, is left as it was -/
theorem allClosed_short (h : (ix s.dpll k).slots < 60 ∨ isolated s 6 = true) : ix (allClosed s).dpll k = ix s.dpll k := by
  refine (forEach_holds (P := fun v => BucketsClosed s v ∧ ix v.dpll k = ix s.dpll k) (fun j hj v hv => ?_) ⟨bucketsClosed_self s, rfl⟩).2
  refine ⟨hv.1.close (List.mem_range.1 hj), ?_⟩
  by_cases hjk : k = j
  · subst hjk
    rw [bucketClose_short (by rwa [hv.2, hv.1.isolated_eq]), hv.2]
  · rw [(learned_bucketClose j v).others k hjk, hv.2]

/-- a DPLL with sixty minute slots has its bucket closed, and the closes of the others leave it -/
theorem allClosed_full (hk : k < 8) (h : 60 ≤ (ix s.dpll k).slots) (hiso : isolated s 6 = false) :
    BucketShown k s.now (ix s.dpll k) (allClosed s) := by
  refine forEach_turn (P := fun v => BucketsClosed s v ∧ ix v.dpll k = ix s.dpll k) (Q := BucketShown k s.now (ix s.dpll k))
    List.nodup_range (List.mem_range.2 hk) (fun j hj hjk v hv => ?_) (fun v hv => ?_) (fun j hj hjk v hv => ?_) ⟨bucketsClosed_self s, rfl⟩
  · exact ⟨hv.1.close (List.mem_range.1 hj), by rw [(learned_bucketClose j v).others k hjk.symm, hv.2]⟩
  · obtain ⟨hv, hx⟩ := hv
    rw [← hx, ← hv.now]
    exact bucketClose_shows hk (by rwa [hx]) (by rwa [hv.isolated_eq])
  · have hj8 := List.mem_range.1 hj
    have hsame := (learned_bucketClose j v).others k hjk.symm
    obtain ⟨hbuckets, hslots, hopen, hcount⟩ := hv
    refine ⟨by rw [hsame, hbuckets], by rw [hsame, hslots], by rw [hsame, hopen], ?_⟩
    rw [(learned_bucketClose j v).within.rd_eq (by simp [bucketFields, modelFields]; omega), hcount]

end

/-! ### DPLLd_CTL (R190, R192) -/

theorem plainWord_dpllCtl : ∀ d < 8, PlainWord (0x600434 + 128 * d) := by decide +kernel

/-- the bits of DPLLd_CTL are written only, and none is stored -/
theorem fieldsAt_dpllCtl : ∀ d < 8, fieldsAt (0x600434 + 128 * d) = [(SEL_DPLLd_CTL_MODEL_CLR d, 3), (SEL_DPLLd_CTL_SLEW_CANCEL d, 3)] := by
  decide +kernel

/-- a word written whole to the DPLLd_CTL of DPLL d -/
def dpllCtlWord (d v : Nat) : WordW := { addr := 0x600434 + 128 * d, be := 15, data := v % 2 ^ 32 }

section
variable {dt d : Nat} {s : State}

theorem storeWord_dpllCtl (hd : d < 8) (be v : Nat) (s : State) : storeWord (0x600434 + 128 * d) be v s = s := by
  have hno : woHolds (0x600434 + 128 * d) = false := by
    simp only [woHolds, Bool.and_eq_false_iff, decide_eq_false_iff_not]
    omega
  simp only [storeWord, fieldsAt_dpllCtl d hd, forEach_cons, hno]
  rfl

theorem testBusy_dpllCtl (hd : d < 8) (s : State) : testBusy s (0x600434 + 128 * d) = false := by
  interval_cases d <;> rfl

theorem blockOf_dpllCtl (hd : d < 8) : blockOf (0x600434 + 128 * d) = 6 := by
  unfold blockOf
  omega

theorem wOff_dpllCtlWord (hd : d < 8) (v : Nat) : wOff (dpllCtlWord d v) = 0x434 + 128 * d := by
  simp only [wOff, dpllCtlWord]
  omega

theorem wBit_dpllCtlWord {i : Nat} (hi : i < 32) (v : Nat) : wBit (dpllCtlWord d v) i = bitAt v i := by
  have hm : beMask 15 = 2 ^ 32 - 1 := by decide
  simp [wBit, dpllCtlWord, bitAt, hm, Nat.testBit_mod_two_pow, Nat.testBit_two_pow_sub_one, hi, -Nat.reducePow, -Nat.reduceSub]

/-- SEL refuses no write of DPLLd_CTL (R167, R192) -/
theorem selRefuses_dpllCtl (hd : d < 8) (v : Nat) (s : State) : selRefuses s (dpllCtlWord d v) = false := by
  have hge : ¬ 0x434 + 128 * d < 0x200 := by omega
  have hmod : (0x434 + 128 * d) % 128 = 0x34 := by omega
  simp [selRefuses, wOff_dpllCtlWord hd, hge, hmod]

/-- outside a partial reload a write of DPLLd_CTL carries out SLEW_CANCEL, then MODEL_CLR -/
theorem selWritten_dpllCtl (hd : d < 8) (v : Nat) (old : State) (happ : s.img.applied = true) : selWritten (dpllCtlWord d v) old s =
    whenB (bitAt v 1) (modelClr d) (whenB (bitAt v 0) (slewCancel d) s) := by
  have hge : ¬ 0x434 + 128 * d < 0x200 := by omega
  have hin : (decide (0x400 ≤ 0x434 + 128 * d) && decide (0x434 + 128 * d < 0x800)) = true := by
    rw [Bool.and_eq_true, decide_eq_true_eq, decide_eq_true_eq]
    omega
  have hmod : (0x434 + 128 * d) % 128 = 0x34 := by omega
  have hdiv : (0x434 + 128 * d) % 0x400 / 128 = d := by omega
  have hrun : committing s = false := by simp [committing, happ]
  simp only [selWritten, dpllWritten, wOff_dpllCtlWord hd, if_neg hge, hin, hmod, hdiv, hrun, if_true, wBit_dpllCtlWord (show 0 < 32 by decide),
    wBit_dpllCtlWord (show 1 < 32 by decide), Bool.false_eq_true, if_false]
  rfl

/-- a bit of DPLLd_CTL written on an open host port reaches its DPLL -/
theorem writeReg_dpllCtl (hd : d < 8) (ho : Open s (0x600434 + 128 * d)) (v : Nat) : writeReg (0x600434 + 128 * d) 0 v (pass dt s) =
    whenB (bitAt v 1) (modelClr d) (whenB (bitAt v 0) (slewCancel d) (Issued (0x600434 + 128 * d) dt s)) := by
  obtain ⟨h4, h24, hword, hal, hrow, -⟩ := plainWord_dpllCtl d hd
  obtain ⟨r, hr⟩ := Option.isSome_iff_exists.1 hrow
  have hblk := blockOf_dpllCtl hd
  have hgrp : rwsGroupOf (0x600434 + 128 * d) = none := by simp [rwsGroupOf, fieldsAt_dpllCtl d hd]
  have hp : isPartnerReg (0x600434 + 128 * d) = false := by
    simp only [isPartnerReg, Bool.and_eq_false_iff, decide_eq_false_iff_not]
    omega
  have hno : blockRefuses (Issued (0x600434 + 128 * d) dt s) (dpllCtlWord d v) = false := by
    simp only [blockRefuses, dpllCtlWord, hblk]
    exact selRefuses_dpllCtl hd v _
  have happ : (Issued (0x600434 + 128 * d) dt s).img.applied = true := by
    rw [issued_img]
    exact ho.2.1
  rw [writeReg_block ho h4 hword hal hr hgrp hp h24 (by omega)]
  refine (regWrite_taken (w := dpllCtlWord d v) (testBusy_dpllCtl hd _) hno).trans ?_
  simp only [blockWritten, dpllCtlWord, hblk, storeWord_dpllCtl hd]
  exact selWritten_dpllCtl hd v _ happ

theorem exec_modelClr (hd : d < 8) (ho : Open s (0x600434 + 128 * d)) :
    exec (.modelClr dt d) s = done s (modelClr d (Issued (0x600434 + 128 * d) dt s)) := by
  change done s (whenB (d < 8) (writeReg (0x600434 + 128 * d) 0 2) (pass dt s)) = _
  rw [decide_eq_true hd, whenB_true, writeReg_dpllCtl hd ho, show bitAt 2 0 = false from rfl, show bitAt 2 1 = true from rfl, whenB_false, whenB_true]

theorem exec_slewCancel (hd : d < 8) (ho : Open s (0x600434 + 128 * d)) :
    exec (.slewCancel dt d) s = done s (slewCancel d (Issued (0x600434 + 128 * d) dt s)) := by
  change done s (whenB (d < 8) (writeReg (0x600434 + 128 * d) 0 1) (pass dt s)) = _
  rw [decide_eq_true hd, whenB_true, writeReg_dpllCtl hd ho, show bitAt 1 0 = true from rfl, show bitAt 1 1 = false from rfl, whenB_true, whenB_false]

end

/-! ### MODEL_CLR (R190) -/

/-- the fields that MODEL_CLR writes, in the order in which O34 lists them -/
def clearFields (d : Nat) : List Fld :=
  [SEL_DPLLd_STAT_MODEL_VALID d, SEL_DPLLd_STAT_TERMS d, SEL_DPLLd_STAT_RESTORED d, SEL_DPLLd_A0_LO_A0 d, SEL_DPLLd_A0_HI_A0 d,
    SEL_DPLLd_A1_A1 d, SEL_DPLLd_C1_C1 d, SEL_DPLLd_C2_C2 d, SEL_DPLLd_MREF_THETA_W d, SEL_DPLLd_MSTAT_COUNT d, SEL_DPLLd_MSTAT_BUCKETS d,
    SEL_DPLLd_MSTAT_RES d, SEL_DPLLd_HOFREQ_LO_WH d, SEL_DPLLd_HOFREQ_HI_WH d, SEL_DPLLd_HOFREQ_HI_AVG_VALID d]

/-- a DPLL without its buckets and the bucket in progress, at time t -/
def bucketsDropped (t : Nat) (x : DpllS) : DpllS := { x with buckets := [], open_ := [], openG := none, lockAt := t }

/-- a DPLL without its buckets, the bucket and the minute in progress and its average, at time t -/
def learntOff (t : Nat) (w th : Int) (x : DpllS) : DpllS :=
  { bucketsDropped t x with minOk := false, avgOk := false, wAvg := w, thAvg := th, hist := [] }

/-- the buckets and the average of DPLL d dropped, the model not yet fitted again -/
def learntDropped (d : Nat) (s : State) : State :=
  put (SEL_DPLLd_STAT_RESTORED d) 0 (avgDrop d (minBreak d (modDpll d (bucketsDropped s.now) s)))

section
variable {dt d : Nat} {s : State}

/-- a DPLL without what a fit and a note of its word set -/
def unfitted (x : DpllS) : DpllS := { x with tW := 0, mWas := none, hist := [] }

/-- MODEL_CLR fits over no sample and shows no model -/
def modelEmptied (d : Nat) (s : State) : State := put (SEL_DPLLd_STAT_MODEL_VALID d) 0 (put (SEL_DPLLd_STAT_TERMS d) 0 (refit d s))

theorem modelClear_eq (d : Nat) (s : State) : modelClear d s = histPush d (showHoFreq d (modelEmptied d (learntDropped d s))) := (rfl)

theorem showHoFreq_dpll (d : Nat) (s : State) : (showHoFreq d s).dpll = s.dpll := (rfl)

theorem rd_histPush (d : Nat) (s : State) (f : Fld) : rd (histPush d s) f = rd s f := by
  obtain ⟨p, hp, -⟩ := histPush_modDpll d s
  rw [hp, rd_modDpll]

theorem learned_modelClear (d : Nat) (s : State) : Learned d (clearFields d) s (modelClear d s) := by
  have hdrop : Learned d (clearFields d) s (learntDropped d s) :=
    (((((learned_self d _ s).modDpll _).modDpll _).withFree _).modDpll _).put (by simp [clearFields]) 0
  have hfit := hdrop.refit (by simp +contextual [modelFields, clearFields])
  exact (((((hfit.put (by simp [clearFields]) 0).put (by simp [clearFields]) 0).put (by simp [clearFields]) _).put (by simp [clearFields]) _).put
    (by simp [clearFields]) _).histPush

/-- of the DPLL the buckets, the bucket and the minute in progress and the average are gone -/
theorem learntDropped_dpll (hd : d < 8) (s : State) : ∃ w th, ix (learntDropped d s).dpll d = learntOff s.now w th (ix s.dpll d) := by
  refine ⟨sgn 48 (Config.freeNat s.free), sgn 18 (Config.freeNat s.free / 2 ^ 48), ?_⟩
  simp [learntDropped, avgDrop, minBreak, ix_upd_same _ _ hd, bucketsDropped, learntOff]

theorem unfitted_modelEmptied (hd : d < 8) (s : State) : unfitted (ix (modelEmptied d s).dpll d) = unfitted (ix s.dpll d) := by
  rw [modelEmptied, put_dpll, put_dpll]
  exact refit_part hd unfitted fun _ _ _ => rfl

theorem unfitted_modelClear (hd : d < 8) (s : State) : unfitted (ix (modelClear d s).dpll d) = unfitted (ix (learntDropped d s).dpll d) := by
  obtain ⟨p, hp, hsame⟩ := histPush_modDpll d (showHoFreq d (modelEmptied d (learntDropped d s)))
  have hnote : ∀ x, unfitted (p x) = unfitted x := fun x => (congrArg unfitted (hsame x) :)
  rw [modelClear_eq, hp, dpll_modDpll unfitted hnote, showHoFreq_dpll, unfitted_modelEmptied hd]

/-- a fit over no sample gives a model of zeros -/
theorem rd_refit_empty (hd : d < 8) (h : (ix s.dpll d).buckets = []) :
    ∀ f ∈ [SEL_DPLLd_A0_LO_A0 d, SEL_DPLLd_A0_HI_A0 d, SEL_DPLLd_A1_A1 d, SEL_DPLLd_C1_C1 d, SEL_DPLLd_C2_C2 d, SEL_DPLLd_MSTAT_COUNT d,
      SEL_DPLLd_MSTAT_BUCKETS d], rd (refit d s) f = 0 := by
  have hnone : windowSamples s d = [] := by simp [windowSamples, h]
  have hfit : fitModel [] s.free = {} := rfl
  simp [refit, hnone, hfit, modelValidEval, rd_put_ne, ix_upd_same _ _ hd, h, uns]

/-- what MODEL_CLR shows -/
theorem rd_modelClear (hd : d < 8) (s : State) : ∀ f ∈ [SEL_DPLLd_STAT_MODEL_VALID d, SEL_DPLLd_STAT_TERMS d, SEL_DPLLd_STAT_RESTORED d,
    SEL_DPLLd_A0_LO_A0 d, SEL_DPLLd_A0_HI_A0 d, SEL_DPLLd_A1_A1 d, SEL_DPLLd_C1_C1 d, SEL_DPLLd_C2_C2 d, SEL_DPLLd_MSTAT_COUNT d,
    SEL_DPLLd_MSTAT_BUCKETS d, SEL_DPLLd_HOFREQ_HI_AVG_VALID d], rd (modelClear d s) f = 0 := by
  obtain ⟨w, th, hx⟩ := learntDropped_dpll hd s
  have hempty := rd_refit_empty (s := learntDropped d s) hd (by rw [hx]; rfl)
  have hrest : rd (refit d (learntDropped d s)) (SEL_DPLLd_STAT_RESTORED d) = 0 := by
    rw [((learned_self d (modelFields d) _).refit fun _ h => h).within.rd_eq (by simp [modelFields]), learntDropped, rd_put_same, Nat.zero_mod]
  have havg : (ix (refit d (learntDropped d s)).dpll d).avgOk = false := by
    rw [refit_part hd (·.avgOk) fun _ _ _ => rfl, hx, learntOff]
  rw [modelClear_eq]
  simp only [List.forall_mem_cons] at hempty ⊢
  simp [rd_histPush, showHoFreq, havg, b2n, modelEmptied, rd_put_ne, hempty, hrest]

theorem modelClr_tracking (hst : dpllState s d ≠ 3) : modelClr d s = modelClear d s := by
  have hst' : dpllState (modelClear d s) d ≠ 3 := by
    rw [dpllState, (learned_modelClear d s).within.rd_eq (by simp [clearFields])]
    exact hst
  exact if_neg hst'

theorem completes_modelClr (hb : Between s) (hd : d < 8) (ho : Open s (0x600434 + 128 * d)) (hst : dpllState s d ≠ 3) :
    Completes (.modelClr dt d) s (fun t => (∃ n w th, unfitted (ix t.dpll d) = unfitted (learntOff n w th (ix (pass dt s).dpll d)))
      ∧ (∀ f ∈ [SEL_DPLLd_STAT_MODEL_VALID d, SEL_DPLLd_STAT_TERMS d, SEL_DPLLd_STAT_RESTORED d, SEL_DPLLd_A0_LO_A0 d, SEL_DPLLd_A0_HI_A0 d,
        SEL_DPLLd_A1_A1 d, SEL_DPLLd_C1_C1 d, SEL_DPLLd_C2_C2 d, SEL_DPLLd_MSTAT_COUNT d, SEL_DPLLd_MSTAT_BUCKETS d,
        SEL_DPLLd_HOFREQ_HI_AVG_VALID d], rd t f = 0)
      ∧ t.now = s.now + dt ∧ RegsBut (clearFields d) s t ∧ StoresSame s t) := by
  have he := exec_modelClr (dt := dt) hd ho
  rw [modelClr_tracking (by rwa [dpllState, rd_issued])] at he
  have hclear := (learned_modelClear d (Issued (0x600434 + 128 * d) dt s)).within
  have hw := (within_issued (0x600434 + 128 * d) dt (clearFields d) s).trans hclear fun _ hf => hf
  obtain ⟨w, th, hx⟩ := learntDropped_dpll hd (Issued (0x600434 + 128 * d) dt s)
  refine hw.completes he hb ⟨⟨(Issued (0x600434 + 128 * d) dt s).now, w, th, ?_⟩, rd_modelClear hd _, hw.now, hw.regs, hw.storesSame⟩
  rw [unfitted_modelClear hd, hx]
  rfl

end

/-! ### SLEW_CANCEL (R192) -/

/-- the fields that SLEW_CANCEL writes -/
def cancelFields (d : Nat) : List Fld := SEL_DPLLd_PEND_LO_PEND d :: SEL_DPLLd_PEND_HI_PEND d :: SEL_DPLLd_STAT_SLEWING d :: holdoverFields d

/-- the part of a slew that has been applied is kept -/
def slewKept (d : Nat) (s : State) : State := modDpll d (fun x => { x with ow := owNow s d }) s

/-- no slew is pending any more, the word not yet changed -/
def slewDropped (d : Nat) (s : State) : State :=
  modDpll d (fun x => { x with slew := 0, slewAt := s.now }) (putPairS (SEL_DPLLd_PEND_LO_PEND d) (SEL_DPLLd_PEND_HI_PEND d) 0 s)

/-- the slew of DPLL d, which was a, taken out of its word -/
def slewOut (d : Nat) (a : Int) (s : State) : State :=
  if a = 0 then s else wordPut d (clampI (wordOf s d - a) (flimWord s d)) s

section
variable {dt d : Nat} {a : Int} {s : State}

theorem slewRate_zero (d : Nat) (s : State) : slewRate s d 0 = 0 := by simp [slewRate]

theorem slewSet_zero (d : Nat) (s : State) : slewSet d 0 s = histPush d (slewOut d (ix s.dpll d).slew (slewDropped d s)) := by
  unfold slewSet
  rw [slewRate_zero]
  exact congrArg (histPush d) (if_congr eq_comm rfl (by rw [Int.add_zero]; rfl))

theorem slewCancel_pending (hpend : pendOf s d ≠ 0) : slewCancel d s = put (SEL_DPLLd_STAT_SLEWING d) 0 (slewSet d 0 (slewKept d s)) := if_neg hpend

theorem shown_wordLim (d : Nat) (lim w : Int) (s : State) : Shown d (setWord d w s) (wordLim d lim w s) := by
  have hset := shown_self d (setWord d w s)
  exact (((hset.put (by simp [statusFields]) 1).put (by simp [statusFields]) 1).raise (by simp [holdoverFaults])).ite hset

/-- a word set between updates raises at most that the frequency limit is reached -/
theorem raised_wordLim (d : Nat) (lim w : Int) (s : State) : ∀ q ∈ (wordLim d lim w s).flt.raised, q ∈ s.flt.raised ∨ q = (29, some d) := by
  have hflt : (setWord d w s).flt = s.flt := (delivered_setWord d w s).flt
  intro q hq
  unfold wordLim at hq
  dsimp only at hq
  split at hq
  · simpa [hflt] using hq
  · rw [hflt] at hq
    exact .inl hq

theorem heldOver_slewOut (d : Nat) (a : Int) (s : State) : HeldOver d s (slewOut d a s) := by
  unfold slewOut
  split
  · exact heldOver_self d s
  · exact (heldOver_setWord _).trans (.of_shown (shown_wordLim d _ _ _))

theorem raised_slewOut (d : Nat) (a : Int) (s : State) : ∀ q ∈ (slewOut d a s).flt.raised, q ∈ s.flt.raised ∨ q = (29, some d) := by
  unfold slewOut
  split
  · exact fun q hq => .inl hq
  · exact raised_wordLim d _ _ s

theorem wordOf_slewOut (hd : d < 8) (a : Int) (s : State) :
    wordOf (slewOut d a s) d = if a = 0 then wordOf s d else satS 48 (clampI (wordOf s d - a) (flimWord s d)) := by
  unfold slewOut
  split
  · rfl
  · rw [wordPut, (shown_wordLim d _ _ s).wordOf_eq, wordOf_setWord hd]

theorem followed_slewOut (d : Nat) (a : Int) (s : State) : Followed d (holdoverFields d) s (slewOut d a s) := by
  refine .of_heldOver (heldOver_slewOut d a s) ?_
  unfold slewOut
  split
  · rfl
  · exact selWas_wordLim d _ _ s

/-- a pending slew cancelled -/
def slewCancelled (d : Nat) (s : State) : State :=
  put (SEL_DPLLd_STAT_SLEWING d) 0 (histPush d (slewOut d (ix s.dpll d).slew (slewDropped d (slewKept d s))))

theorem slewCancel_eq (hpend : pendOf s d ≠ 0) : slewCancel d s = slewCancelled d s := by
  have hslew : (ix (slewKept d s).dpll d).slew = (ix s.dpll d).slew := dpll_modDpll (·.slew) fun _ => rfl
  rw [slewCancel_pending hpend, slewSet_zero, hslew, slewCancelled]

theorem followed_slewDropped (d : Nat) (s : State) : Followed d (cancelFields d) s (slewDropped d (slewKept d s)) :=
  ((followed_self d _ s).modDpll.putPairS (by simp [cancelFields]) (by simp [cancelFields]) 0).modDpll

theorem followed_slewCancelled (d : Nat) (s : State) : Followed d (cancelFields d) s (slewCancelled d s) :=
  (((followed_slewDropped d s).trans ((followed_slewOut d _ _).mono (by simp +contextual [cancelFields]))).histPush).put (by simp [cancelFields]) 0

/-- what a cancelled slew leaves shown as pending -/
theorem rd_slewCancelled (d : Nat) (s : State) : rd (slewCancelled d s) (SEL_DPLLd_PEND_LO_PEND d) = 0
    ∧ rd (slewCancelled d s) (SEL_DPLLd_PEND_HI_PEND d) = 0 ∧ rd (slewCancelled d s) (SEL_DPLLd_STAT_SLEWING d) = 0 := by
  have hout := followed_slewOut d (ix s.dpll d).slew (slewDropped d (slewKept d s))
  refine ⟨?_, ?_, ?_⟩
  · rw [slewCancelled, rd_put_ne _ _ (by simp), rd_histPush, hout.rd_eq (by simp [holdoverFields, statusFields, wrateFields]; omega)]
    simp [slewDropped, putPairS, rd_put_ne, uns]
  · rw [slewCancelled, rd_put_ne _ _ (by simp), rd_histPush, hout.rd_eq (by simp [holdoverFields, statusFields, wrateFields]; omega)]
    simp [slewDropped, putPairS, uns]
  · rw [slewCancelled, rd_put_same, Nat.zero_mod]

/-- a DPLL without what a word and a note of it set -/
def wordOff (x : DpllS) : DpllS := histOff (heldPart x)

/-- the part of the slew applied is in O_w, and the slew is out of the word -/
theorem dpll_slewCancelled (hd : d < 8) (s : State) :
    (ix (slewCancelled d s).dpll d).ow = owNow s d ∧ (ix (slewCancelled d s).dpll d).slew = 0 := by
  obtain ⟨p, hp, hsame⟩ := histPush_modDpll d (slewOut d (ix s.dpll d).slew (slewDropped d (slewKept d s)))
  have hheld := (heldOver_slewOut d (ix s.dpll d).slew (slewDropped d (slewKept d s))).dpll
  have hpart : wordOff (ix (slewCancelled d s).dpll d) = wordOff (ix (slewDropped d (slewKept d s)).dpll d) := by
    have hnote : ∀ x, wordOff (p x) = wordOff x := fun x => (congrArg heldPart (hsame x) :)
    rw [slewCancelled, put_dpll, hp, dpll_modDpll wordOff hnote, wordOff, hheld, wordOff]
  have hdrop : ix (slewDropped d (slewKept d s)).dpll d = { ix s.dpll d with ow := owNow s d, slew := 0, slewAt := s.now } := by
    have hkept : ix (putPairS (SEL_DPLLd_PEND_LO_PEND d) (SEL_DPLLd_PEND_HI_PEND d) 0 (slewKept d s)).dpll d = { ix s.dpll d with ow := owNow s d } :=
      ix_upd_same _ _ hd
    rw [slewDropped, modDpll_dpll, ix_upd_same _ _ hd, hkept]
    rfl
  rw [hdrop] at hpart
  exact ⟨(congrArg DpllS.ow hpart :), (congrArg DpllS.slew hpart :)⟩

theorem wordOf_slewCancelled (hd : d < 8) (s : State) : wordOf (slewCancelled d s) d =
    if (ix s.dpll d).slew = 0 then wordOf s d else satS 48 (clampI (wordOf s d - (ix s.dpll d).slew) (flimWord s d)) := by
  have hdrop : ∀ f ∈ [SEL_DPLLd_FREQ_LO_W d, SEL_DPLLd_FREQ_HI_W d, SEL_DPLLd_FLIM_FLIM d], rd (slewDropped d (slewKept d s)) f = rd s f := by
    simp [slewDropped, slewKept, putPairS, rd_put_ne]
  have hword : wordOf (slewDropped d (slewKept d s)) d = wordOf s d := wordOf_congr (hdrop _ (by simp)) (hdrop _ (by simp))
  have hlim : flimWord (slewDropped d (slewKept d s)) d = flimWord s d := congrArg flimOf (hdrop _ (by simp))
  have hlast : ∀ f, fldKey (SEL_DPLLd_STAT_SLEWING d) ≠ fldKey f →
      rd (slewCancelled d s) f = rd (slewOut d (ix s.dpll d).slew (slewDropped d (slewKept d s))) f := fun f hf =>
    (rd_put_ne _ _ hf).trans (rd_histPush d _ f)
  rw [wordOf_congr (hlast _ (by simp)) (hlast _ (by simp)), wordOf_slewOut hd, hword, hlim]

/-- a cancelled slew raises at most that the frequency limit is reached -/
theorem raised_slewCancelled (d : Nat) (s : State) : ∀ q ∈ (slewCancelled d s).flt.raised, q ∈ s.flt.raised ∨ q = (29, some d) := by
  obtain ⟨p, hp, -⟩ := histPush_modDpll d (slewOut d (ix s.dpll d).slew (slewDropped d (slewKept d s)))
  have hflt : (slewCancelled d s).flt = (slewOut d (ix s.dpll d).slew (slewDropped d (slewKept d s))).flt := by
    rw [slewCancelled, hp]
    rfl
  rw [hflt]
  exact raised_slewOut d _ _

theorem effects_slewCancel (hb : Between s) (hd : d < 8) (ho : Open s (0x600434 + 128 * d)) (hpend : pendOf s d ≠ 0) :
    Effects (.slewCancel dt d) s (fun t => rd t (SEL_DPLLd_PEND_LO_PEND d) = 0 ∧ rd t (SEL_DPLLd_PEND_HI_PEND d) = 0
        ∧ rd t (SEL_DPLLd_STAT_SLEWING d) = 0 ∧ (ix t.dpll d).ow = owNow (pass dt s) d ∧ (ix t.dpll d).slew = 0
        ∧ wordOf t d = (if (ix s.dpll d).slew = 0 then wordOf s d else satS 48 (clampI (wordOf s d - (ix s.dpll d).slew) (flimWord s d)))
        ∧ (∀ q ∈ t.flt.raised, q = (29, some d)) ∧ rd t (SEL_DPLLd_EVT_STEP_DONE d) = rd s (SEL_DPLLd_EVT_STEP_DONE d)
        ∧ t.now = s.now + dt ∧ RegsOutside [(0x600400 + 128 * d, 0x600480 + 128 * d), (0x700000, 0x700100)] s t ∧ StoresSame s t) := by
  obtain ⟨u, hu⟩ : ∃ u, Issued (0x600434 + 128 * d) dt s = u := ⟨_, rfl⟩
  have hrd : ∀ f, rd u f = rd s f := by
    rw [← hu]
    exact rd_issued _ dt s
  have hw : Within dt [] s u := hu ▸ within_issued _ dt [] s
  have hpend' : pendOf u d ≠ 0 := by
    rw [pendOf, rdPair48, hrd, hrd]
    exact hpend
  have hword : wordOf u d = wordOf s d := wordOf_congr (hrd _) (hrd _)
  have hlim : flimWord u d = flimWord s d := congrArg flimOf (hrd _)
  have hslew : (ix u.dpll d).slew = (ix s.dpll d).slew := hu ▸ dpll_pass hd (·.slew) fun _ => rfl
  have how : owNow u d = owNow (pass dt s) d := hu ▸ rfl
  have he : exec (.slewCancel dt d) s = done s (slewCancelled d u) := by
    rw [exec_slewCancel hd ho, hu, slewCancel_eq hpend']
  have hf := followed_slewCancelled d u
  have hwc := wordOf_slewCancelled hd u
  obtain ⟨hlo, hhi, hslewing⟩ := rd_slewCancelled d u
  obtain ⟨howc, hslewc⟩ := dpll_slewCancelled hd u
  rw [hword, hlim, hslew] at hwc
  refine ⟨slewCancelled d u, he, hlo, hhi, hslewing, howc.trans how, hslewc, hwc, fun q hq => ?_, ?_, hf.now.trans hw.now, fun f hout => ?_,
    (hw.kept.trans hf.kept).storesSame⟩
  · refine (raised_slewCancelled d u q hq).resolve_left ?_
    rw [hw.raised hb]
    exact List.not_mem_nil
  · exact (hf.rd_eq (f := SEL_DPLLd_EVT_STEP_DONE d) (by simp [cancelFields, holdoverFields, statusFields, wrateFields]; omega)).trans (hrd _)
  · refine (hf.regs f ?_).trans (hrd f)
    simp [cancelFields, holdoverFields, statusFields, wrateFields] at hout ⊢
    omega

end

/-! ### The four commands -/

section
variable {dt d k : Nat} {s : State}

theorem effects_bucketClose (hb : Between s) : Effects (.bucketClose dt) s (fun v => v.now = s.now + dt ∧ v.flt.raised = []
    ∧ (∀ k < 8,
      ((ix s.dpll k).slots < 60 ∨ isolated s 6 = true → (ix v.dpll k).buckets = (ix s.dpll k).buckets ∧ (ix v.dpll k).slots = (ix s.dpll k).slots)
      ∧ (60 ≤ (ix s.dpll k).slots → isolated s 6 = false → BucketShown k (s.now + dt) (ix (pass dt s).dpll k) v))
    ∧ RegsOutside learnSpans s v ∧ StoresSame s v) := by
  have hslots : ∀ k < 8, (ix (pass dt s).dpll k).slots = (ix s.dpll k).slots := fun k hk => dpll_pass hk (·.slots) fun _ => rfl
  have hiso : isolated (pass dt s) 6 = isolated s 6 := isolated_advanceTo _ 6 s
  obtain ⟨hnow, hregs, hkept, hquiet, -⟩ := bucketsClosed_allClosed (pass dt s)
  have hcalm : Between (allClosed (pass dt s)) :=
    ⟨(hquiet.trans (calm_pass dt s)).trans hb.1, (hkept.mramJ.trans (kept_pass dt s).mramJ).trans hb.2⟩
  refine ⟨allClosed (pass dt s), rfl, hnow.trans (pass_now dt s), raised_of_between hcalm, fun k hk => ⟨fun h => ?_, fun h hfree => ?_⟩,
    fun f hf => (hregs f hf).trans (rd_pass dt s f), ((kept_pass dt s).trans hkept).storesSame⟩
  · rw [allClosed_short (by rwa [hslots k hk, hiso])]
    exact ⟨dpll_pass hk (·.buckets) fun _ => rfl, hslots k hk⟩
  · rw [← pass_now dt s]
    exact allClosed_full hk (by rwa [hslots k hk]) (hiso.trans hfree)

/-- O_w with the slew in progress, dt after s -/
theorem owNow_pass (hd : d < 8) : owNow (pass dt s) d = (ix s.dpll d).ow
    + clampI (roundDiv ((ix s.dpll d).slew * (((s.now + dt : Nat) : Int) - ((ix s.dpll d).slewAt : Int))) ((20 * 2 ^ 48 : Nat) : Int))
      ((rdPair48 s (SEL_DPLLd_PEND_LO_PEND d) (SEL_DPLLd_PEND_HI_PEND d)).natAbs : Int) := by
  have how : (ix (pass dt s).dpll d).ow = (ix s.dpll d).ow := dpll_pass hd (·.ow) fun _ => rfl
  have hslew : (ix (pass dt s).dpll d).slew = (ix s.dpll d).slew := dpll_pass hd (·.slew) fun _ => rfl
  have hat : (ix (pass dt s).dpll d).slewAt = (ix s.dpll d).slewAt := dpll_pass hd (·.slewAt) fun _ => rfl
  simp only [owNow, slewMoved, pendOf, rdPair48, rd_pass, pass_now, how, hslew, hat]

/-- with no slew pending SLEW_CANCEL changes nothing -/
theorem within_slewCancel_none (hpend : pendOf s d = 0) : Within dt [] s (slewCancel d (Issued (0x600434 + 128 * d) dt s)) := by
  have hnone : pendOf (Issued (0x600434 + 128 * d) dt s) d = 0 := by
    rw [pendOf, rdPair48, rd_issued, rd_issued]
    exact hpend
  rw [slewCancel, if_pos hnone]
  exact within_issued _ dt [] s

end

/-- Settles O34: a minute is one change of each DPLL's own state, the closes of the hour buckets reach each DPLL once, and a write of DPLLd_CTL
stores no bit, so what MODEL_CLR and SLEW_CANCEL do of it is all that it does. -/
theorem driftModelsAreLearnedAndCleared : Obligations.DriftModelsAreLearnedAndCleared := by
  unfold Obligations.DriftModelsAreLearnedAndCleared
  intro dt d s hb hd p
  refine ⟨fun hrun hlive hiso hrest => completes_minuteSample hb hrun hlive hiso hrest rfl, ?_, fun ho hst => ?_, fun ho => ⟨fun hnone => ?_,
    fun hpend => ?_⟩⟩
  · obtain ⟨v, hv, hnow, hraised, hdplls, hregs, hstores⟩ := effects_bucketClose (dt := dt) hb
    refine ⟨v, hv, hnow, hraised, fun k hk => ?_, hregs, hstores⟩
    obtain ⟨hshort, hfull⟩ := hdplls k hk
    refine ⟨hshort, fun h hiso => ?_⟩
    obtain ⟨hbuckets, hslots, hopen, hcount⟩ := hfull h hiso
    have hwas : (ix (pass dt s).dpll k).buckets = (ix s.dpll k).buckets := dpll_pass hk (·.buckets) fun _ => rfl
    have hsmp : (ix (pass dt s).dpll k).open_ = (ix s.dpll k).open_ := dpll_pass hk (·.open_) fun _ => rfl
    have hg : (ix (pass dt s).dpll k).openG = (ix s.dpll k).openG := dpll_pass hk (·.openG) fun _ => rfl
    rw [bucketShut, hwas, hsmp, hg] at hbuckets
    rw [hwas] at hcount
    exact ⟨hbuckets, hslots, hopen, hcount⟩
  · obtain ⟨t, ht, ⟨n, w, th, hx⟩, hz, hnow, hregs, hstores⟩ := completes_modelClr (dt := dt) hb hd ho hst
    have hever : (ix (pass dt s).dpll d).avgEver = p.avgEver := dpll_pass hd (·.avgEver) fun _ => rfl
    simp only [List.forall_mem_cons] at hz
    obtain ⟨hvalid, hterms, hrestored, hlo, hhi, h1, h2, h3, hcount, hbuckets, havg, -⟩ := hz
    exact ⟨t, ht, (congrArg DpllS.buckets hx :), (congrArg DpllS.avgOk hx :), (congrArg DpllS.avgEver hx :).trans hever,
      (congrArg DpllS.minOk hx :), (congrArg DpllS.open_ hx :), hvalid, hterms, hrestored, hlo, hhi, h1, h2, h3, hcount, hbuckets, havg, hnow,
      hregs, hstores⟩
  · have hw := within_slewCancel_none (dt := dt) hnone
    exact hw.completes (exec_slewCancel hd ho) hb ⟨hw.now, hw.regs, hw.storesSame⟩
  · have h := effects_slewCancel (dt := dt) hb hd ho hpend
    rw [owNow_pass hd] at h
    exact h

end Sys2Proof.ReferenceSelection

/-! Synthesisers and outputs (O35, O36): what their operations leave alone. The counter of a synthesiser and the fine delays of its outputs
taken as they stand, a new grid of outputs and the times of commits are each an update of one part of the state; `Within` is kept by every
one of them. -/

namespace Sys2Proof.Synthesis
open Sys2Proof.Machine Sys2Proof.Reg Sys2Proof.Safety Sys2Proof.Clocks Sys2Proof.Modes Sys2Proof.ReferenceSelection

/-! ### Updates of outputs and commits -/

/-- s with other outputs -/
def withOuts (v : Vector OutS 16) (s : State) : State := { s with out := v }

/-- s with other commits -/
def withCommits (c : List CommitS) (s : State) : State := { s with commit := c }

@[simp] theorem withOuts_now (v : Vector OutS 16) (s : State) : (withOuts v s).now = s.now := (rfl)
@[simp] theorem withOuts_flt (v : Vector OutS 16) (s : State) : (withOuts v s).flt = s.flt := (rfl)
@[simp] theorem withOuts_syn (v : Vector OutS 16) (s : State) : (withOuts v s).syn = s.syn := (rfl)
@[simp] theorem withOuts_out (v : Vector OutS 16) (s : State) : (withOuts v s).out = v := (rfl)
@[simp] theorem rd_withOuts (v : Vector OutS 16) (s : State) (f : Fld) : rd (withOuts v s) f = rd s f := (rfl)
theorem withOuts_withOuts (v w : Vector OutS 16) (s : State) : withOuts w (withOuts v s) = withOuts w s := (rfl)
theorem modSyn_withOuts (k : Nat) (f : SynS → SynS) (v : Vector OutS 16) (s : State) : modSyn k f (withOuts v s) = withOuts v (modSyn k f s) := (rfl)
@[simp] theorem withCommits_now (c : List CommitS) (s : State) : (withCommits c s).now = s.now := (rfl)
@[simp] theorem withCommits_flt (c : List CommitS) (s : State) : (withCommits c s).flt = s.flt := (rfl)
@[simp] theorem withCommits_syn (c : List CommitS) (s : State) : (withCommits c s).syn = s.syn := (rfl)
@[simp] theorem withCommits_out (c : List CommitS) (s : State) : (withCommits c s).out = s.out := (rfl)
@[simp] theorem withCommits_commit (c : List CommitS) (s : State) : (withCommits c s).commit = c := (rfl)
@[simp] theorem rd_withCommits (c : List CommitS) (s : State) (f : Fld) : rd (withCommits c s) f = rd s f := (rfl)

section
variable {dt : Nat} {l : List Fld} {s u : State}

theorem within_withOuts (h : Within dt l s u) (v : Vector OutS 16) : Within dt l s (withOuts v u) :=
  ⟨h.now, h.regs, ⟨h.kept.pending, h.kept.mram, h.kept.mramJ, h.kept.cram, h.kept.otp⟩, h.quiet⟩

theorem within_withCommits (h : Within dt l s u) (c : List CommitS) : Within dt l s (withCommits c u) :=
  ⟨h.now, h.regs, ⟨h.kept.pending, h.kept.mram, h.kept.mramJ, h.kept.cram, h.kept.otp⟩, h.quiet⟩

theorem within_modSyn (h : Within dt l s u) (k : Nat) (f : SynS → SynS) : Within dt l s (modSyn k f u) :=
  ⟨h.now, h.regs, h.kept.modSyn k f, h.quiet⟩

theorem within_modOut (h : Within dt l s u) (n : Nat) (f : OutS → OutS) : Within dt l s (modOut n f u) :=
  ⟨h.now, h.regs, h.kept.modOut n f, h.quiet⟩

end

/-- a part that a change of one element leaves is left in every element -/
theorem ix_upd_part {α β : Type} [Inhabited α] {n : Nat} {f : α → α} (part : α → β) (hf : ∀ x, part (f x) = part x) (v : Vector α n) (i j : Nat) :
    part (ix (upd v i f) j) = part (ix v j) := by
  by_cases hij : i = j
  · subst hij
    by_cases hi : i < n
    · rw [ix_upd_same v f hi, hf]
    · simp [upd, hi]
  · rw [ix_upd_ne v f hij]

/-- a loop that changes outputs only, each time but for one part of an output, leaves that part of every output -/
theorem forEach_outs {α β : Type} (part : OutS → β) {f : α → State → State}
    (hf : ∀ a s, ∃ n g, f a s = modOut n g s ∧ ∀ x, part (g x) = part x) (l : List α) (s : State) :
    ∃ v, forEach l f s = withOuts v s ∧ ∀ j, part (ix v j) = part (ix s.out j) := by
  induction l generalizing s with
  | nil => exact ⟨s.out, rfl, fun _ => rfl⟩
  | cons a r ih =>
    obtain ⟨n, g, hg, hpart⟩ := hf a s
    obtain ⟨v, hv, hsame⟩ := ih (f a s)
    refine ⟨v, by rw [forEach_cons, hv, hg]; rfl, fun j => (hsame j).trans ?_⟩
    rw [hg, modOut_out, ix_upd_part part hpart]

/-! ### The counter of a synthesiser, the grid of its outputs (R214, R216, R220) -/

/-- an output without its live fine delay -/
def fineOff (o : OutS) : OutS := { o with fine := 0, fineAt := 0 }

/-- an output without the marks of its grid -/
def gridOff (o : OutS) : OutS := { o with fallAt := 0, quiet := 0, low := 0 }

/-- a frame counter that stands at p at device time t -/
def countedAt (p t : Nat) (x : SynS) : SynS := { x with ph := p, phT := t }

theorem synTouch_eq (k : Nat) (s : State) : ∃ v, synTouch k s = withOuts v (modSyn k (countedAt (phaseAt s k s.now) s.now) s)
    ∧ ∀ j, fineOff (ix v j) = fineOff (ix s.out j) := by
  obtain ⟨v, hv, hsame⟩ := forEach_outs fineOff (f := fineFix) (fun n s => ⟨n, _, rfl, fun _ => rfl⟩) (outsOf s k) s
  exact ⟨v, by rw [synTouch, hv]; rfl, hsame⟩

theorem regrid_eq (l : List Nat) (f : State → State) (s : State) :
    ∃ v, regrid l f s = withOuts v (f s) ∧ ∀ j, gridOff (ix v j) = gridOff (ix (f s).out j) := by
  unfold regrid
  extract_lets was
  refine forEach_outs gridOff (fun p s => ?_) was (f s)
  exact ⟨p.1, _, rfl, fun _ => rfl⟩

/-! ### Commits and the state of a synthesiser (R213, R219) -/

/-- what a commit asks for: its synthesiser, its outputs, whether the synthesiser's own values take part, whether an L1 reset asked -/
def commitAsked (c : CommitS) : Nat × Nat × Bool × Bool := (c.k, c.mask, c.mult, c.l1)

theorem map_commitAsked {f : CommitS → CommitS} (hf : ∀ c, commitAsked (f c) = commitAsked c) (l : List CommitS) :
    (l.map f).map commitAsked = l.map commitAsked := by
  rw [List.map_map]
  exact List.map_congr_left fun c _ => hf c

/-- an aim at a new boundary leaves what the commits ask for -/
theorem commitAim_eq (k : Nat) (s : State) : ∃ c, commitAim k s = withCommits c s ∧ c.map commitAsked = s.commit.map commitAsked := by
  unfold commitAim
  split
  · exact ⟨s.commit, rfl, rfl⟩
  · exact ⟨_, rfl, map_commitAsked (fun c => by split <;> rfl) _⟩

/-- so does the wait for LOCKED -/
theorem commitHold_eq (k : Nat) (s : State) : ∃ c, commitHold k s = withCommits c s ∧ c.map commitAsked = s.commit.map commitAsked :=
  ⟨_, rfl, map_commitAsked (fun c => by split <;> rfl) _⟩

section
variable {dt : Nat} {l : List Fld} {s u : State}

theorem within_synTouch (h : Within dt l s u) (k : Nat) : Within dt l s (synTouch k u) := by
  obtain ⟨v, hv, -⟩ := synTouch_eq k u
  rw [hv]
  exact within_withOuts (within_modSyn h k _) v

theorem within_fresh (h : Within dt l s u) : Within dt l s (fresh u).2 :=
  ⟨h.now, h.regs, ⟨h.kept.pending, h.kept.mram, h.kept.mramJ, h.kept.cram, h.kept.otp⟩, h.quiet⟩

theorem within_commitAim (h : Within dt l s u) (k : Nat) : Within dt l s (commitAim k u) := by
  obtain ⟨c, hc, -⟩ := commitAim_eq k u
  rw [hc]
  exact within_withCommits h c

end

theorem synState_of_lt {k : Nat} (hk : k < 4) (s : State) : synState s k = rd s (SYN_SYNk_STAT_STATE k) := if_neg (by omega)

/-- no move is abandoned where none goes to k -/
theorem abandonMoves_none {k : Nat} {s : State} (h : ∀ n < 16, (ix s.out n).moving ≠ some k) : abandonMoves k s = s := by
  have hnone : (List.range 16).filter (fun n => (ix s.out n).moving == some k) = [] := by
    rw [List.filter_eq_nil_iff]
    intro n hn
    simpa using h n (List.mem_range.1 hn)
  rw [abandonMoves, hnone, forEach_nil]

/-- the state of a synthesiser set: its commits may have to wait, and a move to it is abandoned only where it leaves LOCKED -/
theorem putSynState_eq {k : Nat} (hk : k < 4) (v : Nat) (s : State) : ∃ c, c.map commitAsked = s.commit.map commitAsked
    ∧ putSynState k v s = if synState s k = 3 ∧ v ≠ 3 then abandonMoves k (withCommits c (put (SYN_SYNk_STAT_STATE k) v s))
      else withCommits c (put (SYN_SYNk_STAT_STATE k) v s) := by
  obtain ⟨c, hc, hsame⟩ : ∃ c, (if v = 0 || v = 3 || v = 4 then put (SYN_SYNk_STAT_STATE k) v s else commitHold k (put (SYN_SYNk_STAT_STATE k) v s)) =
      withCommits c (put (SYN_SYNk_STAT_STATE k) v s) ∧ c.map commitAsked = s.commit.map commitAsked := by
    split
    · exact ⟨s.commit, rfl, rfl⟩
    · exact commitHold_eq k _
  refine ⟨c, hsame, ?_⟩
  unfold putSynState
  rw [if_neg (show k ≠ 4 by omega)]
  dsimp only
  rw [hc]
  simp

/-- where no move can be abandoned, the state set is its field and the wait of its commits -/
theorem putSynState_stay {k v : Nat} (hk : k < 4) {s : State} (h : rd s (SYN_SYNk_STAT_STATE k) = 3 → v = 3 ∨ ∀ n < 16, (ix s.out n).moving ≠ some k) :
    ∃ c, putSynState k v s = withCommits c (put (SYN_SYNk_STAT_STATE k) v s) := by
  obtain ⟨c, -, hc⟩ := putSynState_eq hk v s
  refine ⟨c, hc.trans ?_⟩
  split
  · rename_i hleft
    obtain ⟨hwas, hv⟩ := hleft
    rw [synState_of_lt hk] at hwas
    exact abandonMoves_none ((h hwas).resolve_left hv)
  · rfl

end Sys2Proof.Synthesis

/-! What a search takes, its end, and the frame counter aligned (O35; R211, R213, R214, R216). -/

namespace Sys2Proof.Synthesis
open Sys2Proof.Machine Sys2Proof.Reg Sys2Proof.Safety Sys2Proof.Clocks Sys2Proof.Modes Sys2Proof.ReferenceSelection

/-! ### The band taken (R211) -/

/-- how far a centre in Hz lies from f -/
def centreGap (f c : Nat) : Nat :=
  let c := c * hz41
  if c ≤ f then f - c else c - f

theorem centreGap_eq (f c : Nat) : centreGap f c = ((c * hz41 : Nat) - f : Int).natAbs := by
  unfold centreGap
  generalize c * hz41 = x
  dsimp only
  split <;> omega

/-- of a band and the bands after it the one nearest to f, the earlier of two equally near -/
def nearestBand (f : Nat) (a : Nat × Nat) (r : List (Nat × Nat)) : Nat × Nat :=
  r.foldl (fun x y => if centreGap f y.2 < centreGap f x.2 then y else x) a

theorem nearestBand_spec (f : Nat) (a : Nat × Nat) (r : List (Nat × Nat)) :
    nearestBand f a r ∈ a :: r ∧ ∀ b ∈ a :: r, centreGap f (nearestBand f a r).2 ≤ centreGap f b.2 := by
  induction r generalizing a with
  | nil => simp [nearestBand]
  | cons b r ih =>
    have hstep : nearestBand f a (b :: r) = nearestBand f (if centreGap f b.2 < centreGap f a.2 then b else a) r := rfl
    rw [hstep]
    split
    · rename_i hlt
      obtain ⟨hmem, hle⟩ := ih b
      exact ⟨List.mem_cons_of_mem a hmem, List.forall_mem_cons.2 ⟨(hle b List.mem_cons_self).trans hlt.le, hle⟩⟩
    · rename_i hnear
      obtain ⟨hmem, hle⟩ := ih a
      obtain ⟨ha, hr⟩ := List.forall_mem_cons.1 hle
      refine ⟨?_, List.forall_mem_cons.2 ⟨ha, List.forall_mem_cons.2 ⟨ha.trans (not_lt.1 hnear), hr⟩⟩⟩
      rcases List.mem_cons.1 hmem with h | h
      · rw [h]
        exact List.mem_cons_self
      · exact List.mem_cons_of_mem a (List.mem_cons_of_mem b h)

/-- the bands measured around band b, each with its centre -/
def bandsMeasured (b : Nat) (l : List Nat) : List (Nat × Nat) :=
  ((List.range 3).filter (fun i => decide (1 ≤ b + i) && decide (b + i ≤ 256))).map (fun i => (b + i - 1, l.getD i 0))

theorem mem_bandsMeasured {b : Nat} {l : List Nat} {p : Nat × Nat} :
    p ∈ bandsMeasured b l ↔ ∃ i < 3, 1 ≤ b + i ∧ b + i ≤ 256 ∧ (b + i - 1, l.getD i 0) = p := by
  simp [bandsMeasured, and_assoc]

/-- The band taken is the nearest of those measured. The kernel would count out the quotient in `bandGuess` if it unfolded `bandTaken` at its
arguments, so the function is unfolded and its guess made general first. -/
theorem bandTaken_eq {f : Nat} {l : List Nat} {a : Nat × Nat} {r : List (Nat × Nat)} (h : bandsMeasured (bandGuess f) l = a :: r) :
    bandTaken f l = nearestBand f a r := by
  obtain ⟨taken, htaken⟩ : ∃ taken, taken = bandTaken := ⟨_, rfl⟩
  rw [← htaken]
  delta bandTaken at htaken
  generalize bandGuess = guess at htaken h
  rw [htaken]
  beta_reduce
  extract_lets b far cand
  rw [show cand = a :: r from h]
  rfl

/-- the band taken is one of those measured, and none of them is nearer to f -/
theorem bandTaken_nearest (f : Nat) (l : List Nat) : bandTaken f l ∈ bandsMeasured (bandGuess f) l
    ∧ ∀ p ∈ bandsMeasured (bandGuess f) l, centreGap f (bandTaken f l).2 ≤ centreGap f p.2 := by
  have hle : bandGuess f ≤ 255 := by
    unfold bandGuess
    exact Nat.min_le_left _ _
  have hmid : (bandGuess f + 1 - 1, l.getD 1 0) ∈ bandsMeasured (bandGuess f) l := mem_bandsMeasured.2 ⟨1, by omega, by omega, by omega, rfl⟩
  obtain ⟨a, r, har⟩ := List.exists_cons_of_ne_nil (List.ne_nil_of_mem hmid)
  rw [bandTaken_eq har, har]
  exact nearestBand_spec f a r

theorem bandTaken_lt (f : Nat) (l : List Nat) : (bandTaken f l).1 < 256 := by
  obtain ⟨i, -, hlo, hhi, hb⟩ := mem_bandsMeasured.1 (bandTaken_nearest f l).1
  rw [← hb]
  omega

/-- the band taken is the one at b₀ - 1, b₀ or b₀ + 1 that none of those between 0 and 255 is nearer than -/
theorem bandTaken_spec (f : Nat) (l : List Nat) : (∃ i < 3, (bandTaken f l).1 + 1 = bandGuess f + i ∧ (bandTaken f l).2 = l.getD i 0)
    ∧ ∀ i < 3, 1 ≤ bandGuess f + i → bandGuess f + i ≤ 256 → centreGap f (bandTaken f l).2 ≤ centreGap f (l.getD i 0) := by
  obtain ⟨hmem, hnear⟩ := bandTaken_nearest f l
  obtain ⟨i, hi, hlo, hhi, hb⟩ := mem_bandsMeasured.1 hmem
  refine ⟨⟨i, hi, ?_, ?_⟩, fun j hj h1 h256 => hnear (_, l.getD j 0) (mem_bandsMeasured.2 ⟨j, hj, h1, h256, rfl⟩)⟩
  · rw [← hb]
    omega
  · rw [← hb]

/-! ### The end of a band search (R211, R213) -/

theorem fNom_congr {s u : State} (h : rd u RST_STRAP_CLKMODE = rd s RST_STRAP_CLKMODE) (v : SynLive) : fNom u v = fNom s v := by
  unfold fNom fSys
  rw [h]

@[simp] theorem fNom_pass (dt : Nat) (s : State) (v : SynLive) : fNom (pass dt s) v = fNom s v := fNom_congr (rd_pass dt s _) v

section
variable {dt k : Nat} {l : List Fld} {s u : State}

/-- the state of a synthesiser set within a command -/
theorem within_putSynState (h : Within dt l s u) (hk : k < 4) (hl : SYN_SYNk_STAT_STATE k ∈ l) {v : Nat}
    (hstay : rd u (SYN_SYNk_STAT_STATE k) = 3 → v = 3 ∨ ∀ n < 16, (ix u.out n).moving ≠ some k) : Within dt l s (putSynState k v u) := by
  obtain ⟨c, hc⟩ := putSynState_stay hk hstay
  rw [hc]
  exact within_withCommits (h.put hl v) c

theorem rd_putSynState (hk : k < 4) {v : Nat} (hv : v < 8)
    (hstay : rd s (SYN_SYNk_STAT_STATE k) = 3 → v = 3 ∨ ∀ n < 16, (ix s.out n).moving ≠ some k) :
    rd (putSynState k v s) (SYN_SYNk_STAT_STATE k) = v := by
  obtain ⟨c, hc⟩ := putSynState_stay hk hstay
  rw [hc, rd_withCommits, rd_put_same, width_SYN_SYNk_STAT_STATE]
  omega

variable {f0 f1 f2 : Nat} {ms : List Nat}

theorem searchDone_eq (hk : k < 4) (hst : rd s (SYN_SYNk_STAT_STATE k) = 1) (hpres : rd s GEN_CLKSTAT_SYSCLK_PRES = 1) :
    searchDone k ms s = if inFineRange (fNom s (ix s.syn k).live) (bandTaken (fNom s (ix s.syn k).live) ms).2
      then putSynState k 2 (put (SYN_SYNk_STAT_BAND k) (bandTaken (fNom s (ix s.syn k).live) ms).1 s) else synFail k s := by
  have hne : k ≠ 4 := by omega
  simp [searchDone, synState_of_lt hk, hst, on_eq_true hpres, hne]

theorem exec_bandSearchDone (hk : k < 4) :
    exec (.bandSearchDone dt k f1 (f0, f2)) s = done s (searchDone k [f0, f1, f2] (pass dt s)) := by
  change done s (whenB (k < 5) (searchDone k [f0, f1, f2]) (pass dt s)) = _
  rw [decide_eq_true (show k < 5 by omega), whenB_true]

theorem completes_bandSearchDone (hb : Between s) (hk : k < 4) (hpres : rd s GEN_CLKSTAT_SYSCLK_PRES = 1) (hst : rd s (SYN_SYNk_STAT_STATE k) = 1)
    (hin : inFineRange (fNom s (ix s.syn k).live) (bandTaken (fNom s (ix s.syn k).live) [f0, f1, f2]).2 = true) :
    Completes (.bandSearchDone dt k f1 (f0, f2)) s (fun t => rd t (SYN_SYNk_STAT_STATE k) = 2
      ∧ rd t (SYN_SYNk_STAT_BAND k) = (bandTaken (fNom s (ix s.syn k).live) [f0, f1, f2]).1 ∧ t.now = s.now + dt
      ∧ RegsBut [SYN_SYNk_STAT_STATE k, SYN_SYNk_STAT_BAND k] s t ∧ StoresSame s t) := by
  have hlt := bandTaken_lt (fNom s (ix s.syn k).live) [f0, f1, f2]
  have he := exec_bandSearchDone (dt := dt) (s := s) (f0 := f0) (f1 := f1) (f2 := f2) hk
  rw [searchDone_eq hk (by simpa using hst) (by simpa using hpres), pass_syn, fNom_pass, if_pos hin] at he
  generalize (bandTaken (fNom s (ix s.syn k).live) [f0, f1, f2]).1 = b at he hlt ⊢
  obtain ⟨c, hc⟩ := putSynState_stay (v := 2) hk (s := put (SYN_SYNk_STAT_BAND k) b (pass dt s)) (by simp [rd_put_ne, hst])
  rw [hc] at he
  have hw : Within dt [SYN_SYNk_STAT_STATE k, SYN_SYNk_STAT_BAND k] s
      (withCommits c (put (SYN_SYNk_STAT_STATE k) 2 (put (SYN_SYNk_STAT_BAND k) b (pass dt s)))) :=
    within_withCommits (((within_pass dt _ s).put (by simp) b).put (by simp) 2) c
  refine hw.completes he hb ⟨by simp, ?_, hw.now, hw.regs, hw.storesSame⟩
  rw [rd_withCommits, rd_put_ne _ _ (by simp), rd_put_same, width_SYN_SYNk_STAT_BAND]
  omega

theorem effects_bandSearchDone_failed (hb : Between s) (hk : k < 4) (hpres : rd s GEN_CLKSTAT_SYSCLK_PRES = 1) (hst : rd s (SYN_SYNk_STAT_STATE k) = 1)
    (hout : inFineRange (fNom s (ix s.syn k).live) (bandTaken (fNom s (ix s.syn k).live) [f0, f1, f2]).2 = false) :
    Effects (.bandSearchDone dt k f1 (f0, f2)) s (fun v => rd v (SYN_SYNk_STAT_STATE k) = 7 ∧ rd v (SYN_SYNk_EVT_SEARCH_FAIL k) = 1
      ∧ v.flt.raised = [(34, some k)] ∧ v.now = s.now + dt ∧ RegsBut [SYN_SYNk_STAT_STATE k, SYN_SYNk_EVT_SEARCH_FAIL k] s v ∧ StoresSame s v) := by
  have he := exec_bandSearchDone (dt := dt) (s := s) (f0 := f0) (f1 := f1) (f2 := f2) hk
  rw [searchDone_eq hk (by simpa using hst) (by simpa using hpres), pass_syn, fNom_pass, hout, if_neg Bool.false_ne_true, synFail] at he
  obtain ⟨c, hc⟩ := putSynState_stay (v := 7) hk (s := pass dt s) (by simp [hst])
  rw [hc] at he
  have hw : Within dt [SYN_SYNk_STAT_STATE k, SYN_SYNk_EVT_SEARCH_FAIL k] s
      (put (SYN_SYNk_EVT_SEARCH_FAIL k) 1 (withCommits c (put (SYN_SYNk_STAT_STATE k) 7 (pass dt s)))) :=
    (within_withCommits ((within_pass dt _ s).put (by simp) 7) c).put (by simp) 1
  refine ⟨_, he, by simp [rd_put_ne], by simp, ?_, hw.now, regsBut_raise hw.regs 34 _, (hw.kept.raise 34 _).storesSame⟩
  simp [raised_of_between hb]

end

/-! ### The frame counter taken onto the steering accumulator (R214, R216) -/

/-- a frame counter that stands at p at device time t, its realignment done -/
def alignedAt (p t : Nat) (x : SynS) : SynS := { x with realign := false, ph := p, phT := t }

/-- PH_ALIGNED of k rises, with its event where it was 0 -/
def alignShown (k : Nat) (s : State) : State :=
  if on s (SYN_SYNk_STAT_PH_ALIGNED k) then s else s |> put (SYN_SYNk_STAT_PH_ALIGNED k) 1 |> put (SYN_SYNk_EVT_ALIGNED k) 1

/-- the frame counter of k takes its aligned value: its outputs follow onto the new grid, those moved away not yet back -/
def frameTaken (k : Nat) (s : State) : State :=
  alignShown k (regrid (outsOf s k) (fun s => modSyn k (alignedAt (alignedPhase s k) s.now) s) (synTouch k s))

section
variable {dt k : Nat} {l : List Fld} {s u : State}

/-- where the counter is aligned rests on the live values, the strap and the accumulators -/
theorem alignedPhase_modSyn {f : SynS → SynS} (hf : ∀ x, (f x).live = x.live) (s : State) : alignedPhase (modSyn k f s) k = alignedPhase s k := by
  have hlive : (ix (upd s.syn k f) k).live = (ix s.syn k).live := ix_upd_part (·.live) hf s.syn k k
  unfold alignedPhase
  rw [modSyn_syn]
  dsimp only
  rw [hlive]
  rfl

theorem alignedPhase_withOuts (v : Vector OutS 16) (s : State) : alignedPhase (withOuts v s) k = alignedPhase s k := (rfl)

theorem alignedPhase_put {f : Fld} (hclk : fldKey f ≠ fldKey RST_STRAP_CLKMODE) (htime : fldKey f ≠ fldKey GEN_CLKSTAT_TIME_DPLL) (v : Nat)
    (s : State) : alignedPhase (put f v s) k = alignedPhase s k := by
  have hnom : ∀ x, fNom (put f v s) x = fNom s x := fNom_congr (rd_put_ne v s hclk)
  have hacc : ∀ d, accOf (put f v s) d = accOf s d := fun d => by
    unfold accOf timeDpll
    rw [rd_put_ne v s htime]
    rfl
  unfold alignedPhase
  dsimp only
  rw [put_syn, put_img, hnom, hacc]

theorem frameTaken_eq (k : Nat) (s : State) : ∃ v, frameTaken k s =
    alignShown k (withOuts v (modSyn k (alignedAt (alignedPhase s k) s.now) (modSyn k (countedAt (phaseAt s k s.now) s.now) s))) := by
  obtain ⟨v, hv, -⟩ := synTouch_eq k s
  obtain ⟨w, hw, -⟩ := regrid_eq (outsOf s k) (fun s => modSyn k (alignedAt (alignedPhase s k) s.now) s) (synTouch k s)
  have hph : alignedPhase (synTouch k s) k = alignedPhase s k := by
    rw [hv, alignedPhase_withOuts, alignedPhase_modSyn (f := countedAt _ _) (fun _ => rfl)]
  refine ⟨w, ?_⟩
  rw [frameTaken, hw, hph, hv, modSyn_withOuts, withOuts_withOuts]
  rfl

theorem within_alignShown (h : Within dt l s u) (hal : SYN_SYNk_STAT_PH_ALIGNED k ∈ l) (hev : SYN_SYNk_EVT_ALIGNED k ∈ l) :
    Within dt l s (alignShown k u) := h.ite ((h.put hal 1).put hev 1)

theorem alignShown_syn (k : Nat) (s : State) : (alignShown k s).syn = s.syn := by
  unfold alignShown
  split <;> rfl

theorem rd_alignShown_aligned (k : Nat) (s : State) : rd (alignShown k s) (SYN_SYNk_STAT_PH_ALIGNED k) = 1 := by
  unfold alignShown
  split
  · rename_i h
    simpa [on] using h
  · simp [rd_put_ne]

theorem rd_alignShown_event (h : rd s (SYN_SYNk_STAT_PH_ALIGNED k) = 0) : rd (alignShown k s) (SYN_SYNk_EVT_ALIGNED k) = 1 := by
  simp [alignShown, on_eq_false h]

theorem within_frameTaken (h : Within dt l s u) (hal : SYN_SYNk_STAT_PH_ALIGNED k ∈ l) (hev : SYN_SYNk_EVT_ALIGNED k ∈ l) :
    Within dt l s (frameTaken k u) := by
  obtain ⟨v, hv⟩ := frameTaken_eq k u
  rw [hv]
  exact within_alignShown (within_withOuts (within_modSyn (within_modSyn h k _) k _) v) hal hev

theorem syn_frameTaken (hk : k < 4) (s : State) : ix (frameTaken k s).syn k = alignedAt (alignedPhase s k) s.now (ix s.syn k) := by
  obtain ⟨v, hv⟩ := frameTaken_eq k s
  have h5 : k < 5 := by omega
  rw [hv, alignShown_syn, withOuts_syn, modSyn_syn, ix_upd_same _ _ h5, modSyn_syn, ix_upd_same _ _ h5]
  rfl

theorem rd_frameTaken_aligned (k : Nat) (s : State) : rd (frameTaken k s) (SYN_SYNk_STAT_PH_ALIGNED k) = 1 := by
  obtain ⟨v, hv⟩ := frameTaken_eq k s
  rw [hv, rd_alignShown_aligned]

theorem rd_frameTaken_event (h : rd s (SYN_SYNk_STAT_PH_ALIGNED k) = 0) : rd (frameTaken k s) (SYN_SYNk_EVT_ALIGNED k) = 1 := by
  obtain ⟨v, hv⟩ := frameTaken_eq k s
  rw [hv]
  exact rd_alignShown_event h

theorem rd_frameTaken_ne {f : Fld} (hf : fldKey f ∉ [SYN_SYNk_STAT_PH_ALIGNED k, SYN_SYNk_EVT_ALIGNED k].map fldKey) (s : State) :
    rd (frameTaken k s) f = rd s f := (within_frameTaken (within_self _ s) (by simp) (by simp)).rd_eq hf

end

end Sys2Proof.Synthesis

/-! Lock, its loss, and the ends of glides, ramps and mutes (O35; R212, R213, R216, R224, R225). -/

namespace Sys2Proof.Synthesis
open Sys2Proof.Machine Sys2Proof.Reg Sys2Proof.Safety Sys2Proof.Clocks Sys2Proof.Modes Sys2Proof.ReferenceSelection

/-! ### Lock (R212, R213, R224) -/

/-- from LOCKING a synthesiser is LOCKED for the first time, its frame not yet aligned -/
def lockEntered (k : Nat) (s : State) : State :=
  modSyn k (fun x => { x with ever := true }) (put (SYN_SYNk_EVT_LOCK k) 1 (putSynState k 3 s))

/-- a realignment is owed where c holds, and where it was -/
def owedIf (c : Bool) (x : SynS) : SynS := { x with realign := x.realign || c }

/-- where the frame counter of k stands after a freeze is a free value -/
def counterFound (k : Nat) (s : State) : State :=
  modSyn k (fun x => { x with ph := (fresh (synTouch k s)).1 % (x.live.frame * hpU), phT := s.now }) (fresh (synTouch k s)).2

/-- from FROZEN a synthesiser is LOCKED again with PH_ALIGNED 0 -/
def lockRegained (k : Nat) (s : State) : State := unalignSyn k (put (SYN_SYNk_EVT_LOCK k) 1 (putSynState k 3 (counterFound k s)))

section
variable {dt k : Nat} {err : Int} {l : List Fld} {s u : State}

theorem alignedPhase_withCommits (c : List CommitS) (s : State) : alignedPhase (withCommits c s) k = alignedPhase s k := (rfl)

theorem alignedPhase_lockEntered (hk : k < 4) (s : State) : alignedPhase (lockEntered k s) k = alignedPhase s k := by
  obtain ⟨c, hc⟩ := putSynState_stay (v := 3) hk (s := s) (fun _ => .inl rfl)
  rw [lockEntered, alignedPhase_modSyn (f := fun x => { x with ever := true }) (fun _ => rfl), alignedPhase_put (by simp; omega) (by simp; omega), hc,
    alignedPhase_withCommits, alignedPhase_put (by simp; omega) (by simp; omega)]

theorem within_lockEntered (h : Within dt l s u) (hk : k < 4) (hst : SYN_SYNk_STAT_STATE k ∈ l) (hev : SYN_SYNk_EVT_LOCK k ∈ l) :
    Within dt l s (lockEntered k u) :=
  within_modSyn ((within_putSynState h hk hst fun _ => .inl rfl).put hev 1) k _

theorem rd_lockEntered_state (hk : k < 4) (s : State) : rd (lockEntered k s) (SYN_SYNk_STAT_STATE k) = 3 := by
  rw [lockEntered, rd_modSyn, rd_put_ne _ _ (by simp)]
  exact rd_putSynState hk (by decide) fun _ => .inl rfl

theorem syn_lockEntered (hk : k < 4) (s : State) : ix (lockEntered k s).syn k = { ix s.syn k with ever := true } := by
  obtain ⟨c, hc⟩ := putSynState_stay (v := 3) hk (s := s) (fun _ => .inl rfl)
  rw [lockEntered, modSyn_syn, ix_upd_same _ _ (show k < 5 by omega), hc]
  rfl

theorem exec_synthLockDeclared (hk : k < 4) (hpres : rd s GEN_CLKSTAT_SYSCLK_PRES = 1) :
    exec (.synthLockDeclared dt k err) s = done s (putTdc k err (synLocked k (pass dt s))) := by
  change done s (whenB (k < 5 && on s GEN_CLKSTAT_SYSCLK_PRES) _ (pass dt s)) = _
  rw [on_eq_true hpres, decide_eq_true (show k < 5 by omega), Bool.and_self, whenB_true, if_neg (show k ≠ 4 by omega)]

theorem synLocked_locking (hk : k < 4) (hst : rd s (SYN_SYNk_STAT_STATE k) = 2) :
    synLocked k s = lockFollow k (outsBack k (commitAim k (frameTaken k (lockEntered k s)))) := by
  rw [synLocked, synState_of_lt hk, hst, if_pos rfl]
  rfl

theorem leads_lock_locking (hb : Between s) (hk : k < 4) (hpres : rd s GEN_CLKSTAT_SYSCLK_PRES = 1) (hst : rd s (SYN_SYNk_STAT_STATE k) = 2) :
    Leads (.synthLockDeclared dt k err) s (fun u => putTdc k err (lockFollow k (outsBack k (commitAim k u)))) (fun u =>
      rd u (SYN_SYNk_STAT_STATE k) = 3 ∧ rd u (SYN_SYNk_EVT_LOCK k) = 1 ∧ rd u (SYN_SYNk_STAT_PH_ALIGNED k) = 1
      ∧ (rd s (SYN_SYNk_STAT_PH_ALIGNED k) = 0 → rd u (SYN_SYNk_EVT_ALIGNED k) = 1)
      ∧ ix u.syn k = { ix s.syn k with ever := true, realign := false, ph := alignedPhase (pass dt s) k, phT := s.now + dt }
      ∧ u.now = s.now + dt ∧ u.flt.raised = []
      ∧ RegsBut [SYN_SYNk_STAT_STATE k, SYN_SYNk_EVT_LOCK k, SYN_SYNk_STAT_PH_ALIGNED k, SYN_SYNk_EVT_ALIGNED k] s u ∧ StoresSame s u) := by
  have he := exec_synthLockDeclared (dt := dt) (err := err) hk hpres
  rw [synLocked_locking hk ((rd_pass _ _ _).trans hst)] at he
  have hin : Within dt [SYN_SYNk_STAT_STATE k, SYN_SYNk_EVT_LOCK k] s (lockEntered k (pass dt s)) :=
    within_lockEntered (within_pass dt _ s) hk (by simp) (by simp)
  have hw : Within dt [SYN_SYNk_STAT_STATE k, SYN_SYNk_EVT_LOCK k, SYN_SYNk_STAT_PH_ALIGNED k, SYN_SYNk_EVT_ALIGNED k] s
      (frameTaken k (lockEntered k (pass dt s))) :=
    within_frameTaken (within_lockEntered (within_pass dt _ s) hk (by simp) (by simp)) (by simp) (by simp)
  refine ⟨_, he, ?_, ?_, rd_frameTaken_aligned k _, fun hph => rd_frameTaken_event ?_, ?_, hw.now, hw.raised hb, hw.regs, hw.storesSame⟩
  · rw [rd_frameTaken_ne (by simp), rd_lockEntered_state hk]
  · rw [rd_frameTaken_ne (by simp)]
    simp [lockEntered]
  · rw [hin.rd_eq (by simp), hph]
  · rw [syn_frameTaken hk, alignedPhase_lockEntered hk, syn_lockEntered hk, hin.now, pass_syn]
    rfl

theorem unalignSyn_eq (k : Nat) (s : State) :
    unalignSyn k s = modSyn k (owedIf (rd s (SYN_SYNk_CFG_AUTO_REALIGN k) == 1)) (put (SYN_SYNk_STAT_PH_ALIGNED k) 0 s) := by
  have hauto : on (put (SYN_SYNk_STAT_PH_ALIGNED k) 0 s) (SYN_SYNk_CFG_AUTO_REALIGN k) = (rd s (SYN_SYNk_CFG_AUTO_REALIGN k) == 1) := by
    rw [on, rd_put_ne _ _ (by simp)]
  have hal : on (put (SYN_SYNk_STAT_PH_ALIGNED k) 0 s) (SYN_SYNk_STAT_PH_ALIGNED k) = false := on_eq_false (by simp)
  unfold unalignSyn
  dsimp only
  rw [hauto]
  cases rd s (SYN_SYNk_CFG_AUTO_REALIGN k) == 1 with
  | true =>
    have howed : owedIf true = fun x => { x with realign := true } := funext fun x => by simp [owedIf]
    simp [askRealign, hal, howed]
  | false =>
    have hid : owedIf false = id := funext fun x => by simp [owedIf]
    rw [hid, if_neg Bool.false_ne_true, modSyn, upd_id]

theorem within_counterFound (h : Within dt l s u) (k : Nat) : Within dt l s (counterFound k u) :=
  within_modSyn (within_fresh (within_synTouch h k)) k _

theorem syn_counterFound (hk : k < 4) (s : State) : ∃ p, ix (counterFound k s).syn k = countedAt p s.now (ix s.syn k) := by
  obtain ⟨v, hv, -⟩ := synTouch_eq k s
  have h5 : k < 5 := by omega
  have htouch : ix (fresh (synTouch k s)).2.syn k = countedAt (phaseAt s k s.now) s.now (ix s.syn k) := by
    rw [hv]
    exact ix_upd_same _ _ h5
  refine ⟨(fresh (synTouch k s)).1 % ((ix s.syn k).live.frame * hpU), ?_⟩
  rw [counterFound, modSyn_syn, ix_upd_same _ _ h5, htouch]
  rfl

theorem within_lockRegained (h : Within dt l s u) (hk : k < 4) (hst : SYN_SYNk_STAT_STATE k ∈ l) (hev : SYN_SYNk_EVT_LOCK k ∈ l)
    (hal : SYN_SYNk_STAT_PH_ALIGNED k ∈ l) : Within dt l s (lockRegained k u) := by
  rw [lockRegained, unalignSyn_eq]
  exact within_modSyn (((within_putSynState (within_counterFound h k) hk hst fun _ => .inl rfl).put hev 1).put hal 0) k _

theorem rd_lockRegained (hk : k < 4) (s : State) : rd (lockRegained k s) (SYN_SYNk_STAT_STATE k) = 3 ∧ rd (lockRegained k s) (SYN_SYNk_EVT_LOCK k) = 1
    ∧ rd (lockRegained k s) (SYN_SYNk_STAT_PH_ALIGNED k) = 0 := by
  rw [lockRegained, unalignSyn_eq]
  refine ⟨?_, by simp [rd_put_ne], by simp⟩
  rw [rd_modSyn, rd_put_ne _ _ (by simp), rd_put_ne _ _ (by simp)]
  exact rd_putSynState hk (by decide) fun _ => .inl rfl

theorem syn_lockRegained (hk : k < 4) (s : State) : ∃ p, ix (lockRegained k s).syn k =
    owedIf (rd s (SYN_SYNk_CFG_AUTO_REALIGN k) == 1) (countedAt p s.now (ix s.syn k)) := by
  obtain ⟨p, hp⟩ := syn_counterFound hk s
  obtain ⟨c, hc⟩ := putSynState_stay (v := 3) hk (s := counterFound k s) (fun _ => .inl rfl)
  have hauto : rd (put (SYN_SYNk_EVT_LOCK k) 1 (putSynState k 3 (counterFound k s))) (SYN_SYNk_CFG_AUTO_REALIGN k) = rd s (SYN_SYNk_CFG_AUTO_REALIGN k) :=
    ((within_putSynState (within_counterFound (within_self [SYN_SYNk_STAT_STATE k, SYN_SYNk_EVT_LOCK k] s) k) hk (by simp) fun _ => .inl rfl).put
      (by simp) 1).rd_eq (by simp)
  refine ⟨p, ?_⟩
  rw [lockRegained, unalignSyn_eq, hauto, modSyn_syn, ix_upd_same _ _ (show k < 5 by omega), ← hp, hc]
  rfl

theorem synLocked_frozen (hk : k < 4) (hst : rd s (SYN_SYNk_STAT_STATE k) = 6) : synLocked k s = giveHeld k (lockFollow k (lockRegained k s)) := by
  rw [synLocked, synState_of_lt hk, hst, if_neg (by decide), if_pos rfl]
  rfl

theorem leads_lock_frozen (hb : Between s) (hk : k < 4) (hpres : rd s GEN_CLKSTAT_SYSCLK_PRES = 1) (hst : rd s (SYN_SYNk_STAT_STATE k) = 6) :
    Leads (.synthLockDeclared dt k err) s (fun u => putTdc k err (giveHeld k (lockFollow k u))) (fun u =>
      rd u (SYN_SYNk_STAT_STATE k) = 3 ∧ rd u (SYN_SYNk_EVT_LOCK k) = 1 ∧ rd u (SYN_SYNk_STAT_PH_ALIGNED k) = 0
      ∧ (ix u.syn k).realign = ((ix s.syn k).realign || decide (rd s (SYN_SYNk_CFG_AUTO_REALIGN k) = 1)) ∧ (ix u.syn k).phT = s.now + dt
      ∧ (ix u.syn k).held = (ix s.syn k).held ∧ u.now = s.now + dt ∧ u.flt.raised = []
      ∧ RegsBut [SYN_SYNk_STAT_STATE k, SYN_SYNk_EVT_LOCK k, SYN_SYNk_STAT_PH_ALIGNED k] s u ∧ StoresSame s u) := by
  have he := exec_synthLockDeclared (dt := dt) (err := err) hk hpres
  rw [synLocked_frozen hk ((rd_pass _ _ _).trans hst)] at he
  have hw : Within dt [SYN_SYNk_STAT_STATE k, SYN_SYNk_EVT_LOCK k, SYN_SYNk_STAT_PH_ALIGNED k] s (lockRegained k (pass dt s)) :=
    within_lockRegained (within_pass dt _ s) hk (by simp) (by simp) (by simp)
  obtain ⟨hstate, hlock, hal⟩ := rd_lockRegained hk (pass dt s)
  obtain ⟨p, hx⟩ := syn_lockRegained hk (pass dt s)
  rw [rd_pass, pass_now, pass_syn] at hx
  exact ⟨_, he, hstate, hlock, hal, (congrArg SynS.realign hx :), (congrArg SynS.phT hx :), (congrArg SynS.held hx :), hw.now, hw.raised hb,
    hw.regs, hw.storesSame⟩

end

/-! ### Loss of lock (R212, R224) -/

/-- a value that fits a field of w bits is read as it was stored -/
theorem sgn_uns_satS_of_pos {w : Nat} (hw : 0 < w) (x : Int) : sgn w (uns w (satS w x) % 2 ^ w) = satS w x := by
  obtain ⟨p, rfl⟩ : ∃ p, w = p + 1 := ⟨w - 1, by omega⟩
  obtain ⟨r, hr⟩ : ∃ r, satS (p + 1) x = r := ⟨_, rfl⟩
  have hpos := Nat.two_pow_pos p
  have hpow : 2 ^ (p + 1) = 2 * 2 ^ p := Nat.pow_succ'
  rw [hr]
  simp only [satS, clampI, sgn, uns, Nat.add_sub_cancel, hpow, Nat.mod_mod] at hr ⊢
  generalize 2 ^ p = m at hr hpos ⊢
  have hlo : -(m - 1 : Int) ≤ r ∧ r ≤ (m - 1 : Int) := by
    rw [← hr]
    split <;> omega
  rcases lt_or_ge r 0 with hneg | hnn
  · have hmod : (r % ((2 * m : Nat) : Int)).toNat = (r + 2 * m).toNat := by
      rw [← Int.add_emod_right, Int.emod_eq_of_lt] <;> push_cast <;> omega
    rw [hmod, Nat.mod_eq_of_lt (by omega), if_neg (by omega)]
    omega
  · have hmod : (r % ((2 * m : Nat) : Int)).toNat = r.toNat := by
      rw [Int.emod_eq_of_lt] <;> push_cast <;> omega
    rw [hmod, Nat.mod_eq_of_lt (by omega), if_pos (by omega)]
    omega

/-- a synthesiser that froze at frequency f and word wa at time t: the rest of a ramp of the word waits -/
def frozenAt (f : Nat) (wa : Int) (t : Nat) (x : SynS) : SynS :=
  { x with fFrom := f, wa := wa, wd := wa, waAt := t, held := if wa = x.wd then none else some x.wd }

/-- FROZEN as it is entered: the DCO keeps its frequency and its word -/
def freezeEntered (k : Nat) (s : State) : State :=
  put (SYN_SYNk_EVT_FROZEN k) 1
    (putSynState k 6 (modSyn k (frozenAt (fAt s k s.now) (appliedWord s k s.now) s.now) (synTouch k s)))

section
variable {dt k : Nat} {err : Int} {l : List Fld} {s u : State}

/-- neither the frequency nor the word of a synthesiser rests on its counter -/
theorem fAt_countedAt (hk : k < 4) (p t at_ : Nat) (v : Vector OutS 16) (s : State) :
    fAt (withOuts v (modSyn k (countedAt p t) s)) k at_ = fAt s k at_ := by
  unfold fAt
  dsimp only
  rw [withOuts_syn, modSyn_syn, ix_upd_same _ _ (show k < 5 by omega)]
  rfl

theorem appliedWord_countedAt (hk : k < 4) (p t at_ : Nat) (v : Vector OutS 16) (s : State) :
    appliedWord (withOuts v (modSyn k (countedAt p t) s)) k at_ = appliedWord s k at_ := by
  unfold appliedWord
  rw [withOuts_syn, modSyn_syn, ix_upd_same _ _ (show k < 5 by omega)]
  rfl

theorem freezeSyn_eq (hk : k < 4) (s : State) : freezeSyn k s = raise 32 (some k) (freezeEntered k s) := by
  obtain ⟨v, hv, -⟩ := synTouch_eq k s
  have hf : fAt (synTouch k s) k (synTouch k s).now = fAt s k s.now := by
    rw [hv]
    exact fAt_countedAt hk _ _ _ v s
  have hw : appliedWord (synTouch k s) k (synTouch k s).now = appliedWord s k s.now := by
    rw [hv]
    exact appliedWord_countedAt hk _ _ _ v s
  have hnow : (synTouch k s).now = s.now := by
    rw [hv]
    rfl
  unfold freezeSyn
  dsimp only
  rw [hf, hw, hnow]
  rfl

/-- no output moves to k where none did before -/
theorem freezeEntered_stay (hmv : ∀ n < 16, (ix s.out n).moving ≠ some k) (f : SynS → SynS) :
    ∀ n < 16, (ix (modSyn k f (synTouch k s)).out n).moving ≠ some k := by
  obtain ⟨v, hv, hsame⟩ := synTouch_eq k s
  intro n hn
  have hmoving : (ix v n).moving = (ix s.out n).moving := (congrArg OutS.moving (hsame n) :)
  rw [hv, modSyn_out, withOuts_out, hmoving]
  exact hmv n hn

theorem within_freezeEntered (h : Within dt l s u) (hk : k < 4) (hmv : ∀ n < 16, (ix u.out n).moving ≠ some k) (hst : SYN_SYNk_STAT_STATE k ∈ l)
    (hev : SYN_SYNk_EVT_FROZEN k ∈ l) : Within dt l s (freezeEntered k u) :=
  (within_putSynState (within_modSyn (within_synTouch h k) k _) hk hst fun _ => .inr (freezeEntered_stay hmv _)).put hev 1

theorem rd_freezeEntered (hk : k < 4) (hmv : ∀ n < 16, (ix s.out n).moving ≠ some k) :
    rd (freezeEntered k s) (SYN_SYNk_STAT_STATE k) = 6 ∧ rd (freezeEntered k s) (SYN_SYNk_EVT_FROZEN k) = 1 := by
  refine ⟨?_, by simp [freezeEntered]⟩
  rw [freezeEntered, rd_put_ne _ _ (by simp)]
  exact rd_putSynState hk (by decide) fun _ => .inr (freezeEntered_stay hmv _)

theorem syn_freezeEntered (hk : k < 4) (hmv : ∀ n < 16, (ix s.out n).moving ≠ some k) : ix (freezeEntered k s).syn k =
    frozenAt (fAt s k s.now) (appliedWord s k s.now) s.now (countedAt (phaseAt s k s.now) s.now (ix s.syn k)) := by
  obtain ⟨v, hv, -⟩ := synTouch_eq k s
  have h5 : k < 5 := by omega
  obtain ⟨c, hc⟩ := putSynState_stay (v := 6) hk fun _ =>
    .inr (freezeEntered_stay hmv (frozenAt (fAt s k s.now) (appliedWord s k s.now) s.now))
  rw [freezeEntered, hc, put_syn, withCommits_syn, put_syn, modSyn_syn, ix_upd_same _ _ h5, hv, withOuts_syn, modSyn_syn, ix_upd_same _ _ h5]

theorem putTdc_of_lt (hk : k < 4) (err : Int) (s : State) : putTdc k err s = putS (SYN_SYNk_STAT_TDC_ERR k) (satS 16 err) s := if_pos hk

theorem synFreeze_eq (hk : k < 4) (hst : rd s (SYN_SYNk_STAT_STATE k) = 2 ∨ rd s (SYN_SYNk_STAT_STATE k) = 3 ∨ rd s (SYN_SYNk_STAT_STATE k) = 4)
    (hever : (ix s.syn k).ever = true) : synFreeze k s = raise 32 (some k) (freezeEntered k s) := by
  have hrun : (synState s k = 2 || synState s k = 3 || synState s k = 4) = true := by
    rw [synState_of_lt hk]
    simpa [or_assoc] using hst
  rw [synFreeze, hrun, hever, Bool.and_self, if_pos rfl, freezeSyn_eq hk]

theorem exec_synthLockLost (hk : k < 4) : exec (.synthLockLost dt k err) s = done s (putTdc k err (synFreeze k (pass dt s))) := by
  change done s (whenB (k < 5) _ (pass dt s)) = _
  rw [decide_eq_true (show k < 5 by omega), whenB_true, if_neg (show k ≠ 4 by omega)]

theorem effects_lockLost (hb : Between s) (hk : k < 4)
    (hst : rd s (SYN_SYNk_STAT_STATE k) = 2 ∨ rd s (SYN_SYNk_STAT_STATE k) = 3 ∨ rd s (SYN_SYNk_STAT_STATE k) = 4)
    (hever : (ix s.syn k).ever = true) (hmv : ∀ n < 16, (ix s.out n).moving ≠ some k) :
    Effects (.synthLockLost dt k err) s (fun v =>
      rd v (SYN_SYNk_STAT_STATE k) = 6 ∧ rd v (SYN_SYNk_EVT_FROZEN k) = 1 ∧ rdS v (SYN_SYNk_STAT_TDC_ERR k) = satS 16 err
      ∧ ix v.syn k = frozenAt (fAt (pass dt s) k (s.now + dt)) (appliedWord (pass dt s) k (s.now + dt)) (s.now + dt)
          (countedAt (phaseAt (pass dt s) k (s.now + dt)) (s.now + dt) (ix s.syn k))
      ∧ v.flt.raised = [(32, some k)] ∧ v.now = s.now + dt
      ∧ RegsBut [SYN_SYNk_STAT_STATE k, SYN_SYNk_EVT_FROZEN k, SYN_SYNk_STAT_TDC_ERR k] s v ∧ StoresSame s v) := by
  have hmv' : ∀ n < 16, (ix (pass dt s).out n).moving ≠ some k := by simpa using hmv
  have he := exec_synthLockLost (dt := dt) (err := err) (s := s) hk
  rw [synFreeze_eq hk (by simpa using hst) (by simpa using hever), putTdc_of_lt hk] at he
  have hw : Within dt [SYN_SYNk_STAT_STATE k, SYN_SYNk_EVT_FROZEN k, SYN_SYNk_STAT_TDC_ERR k] s (freezeEntered k (pass dt s)) :=
    within_freezeEntered (within_pass dt _ s) hk hmv' (by simp) (by simp)
  obtain ⟨hstate, hfrozen⟩ := rd_freezeEntered hk hmv'
  have hx := syn_freezeEntered hk hmv'
  rw [pass_now, pass_syn] at hx
  refine ⟨_, he, ?_, ?_, ?_, hx, ?_, hw.now, regsBut_put (regsBut_raise hw.regs 32 _) (by simp) _, ((hw.kept.raise 32 _).put _ _).storesSame⟩
  · rw [putS_eq, rd_put_ne _ _ (by simp), rd_raise, hstate]
  · rw [putS_eq, rd_put_ne _ _ (by simp), rd_raise, hfrozen]
  · rw [rdS, putS_eq, rd_put_same, width_SYN_SYNk_STAT_TDC_ERR, sgn_uns_satS_of_pos (by decide)]
  · rw [putS_eq, put_flt, raise_flt, hw.raised hb, List.nil_append]

end

/-! ### The ends of a ramp, a glide and a mute (R210, R222, R223) -/

section
variable {dt k : Nat} {s : State}

theorem completes_glideDone (hb : Between s) (hk : k < 4) (hst : rd s (SYN_SYNk_STAT_STATE k) = 4) :
    Completes (.glideDone k) s (fun t => rd t (SYN_SYNk_STAT_STATE k) = 3 ∧ t.now = max s.now (ix s.syn k).glideEnd
      ∧ RegsBut [SYN_SYNk_STAT_STATE k] s t ∧ StoresSame s t) := by
  have he : exec (.glideDone k) s = done s (commitAim k (putSynState k 3 (synTouch k (advanceTo (ix s.syn k).glideEnd s)))) := by
    change done s (whenB (k < 4) (glideDone k) s) = _
    rw [decide_eq_true hk, whenB_true, glideDone, synState_of_lt hk, hst, if_pos rfl]
  have hset := within_putSynState (within_synTouch (within_advanceTo (ix s.syn k).glideEnd [SYN_SYNk_STAT_STATE k] s) k) hk (by simp)
    (v := 3) fun _ => .inl rfl
  have hw := within_commitAim hset k
  refine hw.completes he hb ⟨?_, hw.now.trans (add_sub_eq_max _ _), hw.regs, hw.storesSame⟩
  obtain ⟨c, hc, -⟩ := commitAim_eq k (putSynState k 3 (synTouch k (advanceTo (ix s.syn k).glideEnd s)))
  rw [hc, rd_withCommits]
  exact rd_putSynState hk (by decide) fun _ => .inl rfl

/-- the applied word stands at the word delivered -/
def wordReached (w : Int) (t : Nat) (x : SynS) : SynS := { x with wa := w, waAt := t }

theorem completes_appliedWordRampDone (hb : Between s) (hk : k < 4) (hact : rd s (SYN_SYNk_STAT_WRATE_ACT k) = 1)
    (hrate : (ix s.syn k).wrate ≠ 0) (hst : rd s (SYN_SYNk_STAT_STATE k) ≠ 6) :
    Completes (.appliedWordRampDone k) s (fun t => rd t (SYN_SYNk_STAT_WRATE_ACT k) = 0 ∧ (ix t.syn k).wa = (ix s.syn k).wd
      ∧ t.now = max s.now (rampEnd (ix s.syn k)) ∧ RegsBut [SYN_SYNk_STAT_WRATE_ACT k] s t ∧ StoresSame s t) := by
  have hrun : (!on s (SYN_SYNk_STAT_WRATE_ACT k) || decide ((ix s.syn k).wrate = 0) || decide (synState s k = 6)) = false := by
    simp [synState_of_lt hk, on_eq_true hact, hrate, hst]
  have he : exec (.appliedWordRampDone k) s = done s (put (SYN_SYNk_STAT_WRATE_ACT k) 0
      (modSyn k (wordReached (ix s.syn k).wd (synTouch k (advanceTo (rampEnd (ix s.syn k)) s)).now) (synTouch k (advanceTo (rampEnd (ix s.syn k)) s)))) := by
    change done s (whenB (k < 4) (rampDone k) s) = _
    rw [decide_eq_true hk, whenB_true, rampDone]
    dsimp only
    rw [hrun, if_neg Bool.false_ne_true]
    rfl
  have hw := (within_modSyn (within_synTouch (within_advanceTo (rampEnd (ix s.syn k)) [SYN_SYNk_STAT_WRATE_ACT k] s) k) k
    (wordReached (ix s.syn k).wd (synTouch k (advanceTo (rampEnd (ix s.syn k)) s)).now)).put (f := SYN_SYNk_STAT_WRATE_ACT k) (by simp) 0
  refine hw.completes he hb ⟨by simp, ?_, hw.now.trans (add_sub_eq_max _ _), hw.regs, hw.storesSame⟩
  rw [put_syn, modSyn_syn, ix_upd_same _ _ (show k < 5 by omega)]
  rfl

theorem completes_muteDone (hb : Between s) (hk : k < 4) (hst : rd s (SYN_SYNk_STAT_STATE k) = 5)
    (hoff : ∀ n < 16, rd s (SYN_OUTn_STAT_SRC n) = k → rd s (SYN_OUTn_STAT_STATE n) = 0) (hgo : rd s SYN_TEST_GO = 0) :
    Completes (.muteDone dt k) s (fun t => rd t (SYN_SYNk_STAT_STATE k) = 1 ∧ t.now = s.now + dt ∧ RegsBut [SYN_SYNk_STAT_STATE k] s t
      ∧ StoresSame s t) := by
  have hall : (outsOf (pass dt s) k).all (fun n => outState (pass dt s) n == 0) = true := by
    simpa [outsOf, outState, imp_iff_not_or] using hoff
  have hstay : rd (pass dt s) (SYN_SYNk_STAT_STATE k) = 3 → 1 = 3 ∨ ∀ n < 16, (ix (pass dt s).out n).moving ≠ some k := by simp [hst]
  have he : exec (.muteDone dt k) s = done s (putSynState k 1 (pass dt s)) := by
    change done s (whenB (k < 4) (muteDone k) (pass dt s)) = _
    rw [decide_eq_true hk, whenB_true, muteDone, hall, synState_of_lt hk, rd_pass, hst, on_eq_false (f := SYN_TEST_GO) (by simpa using hgo)]
    rfl
  have hw := within_putSynState (within_pass dt [SYN_SYNk_STAT_STATE k] s) hk (by simp) hstay
  exact hw.completes he hb ⟨rd_putSynState hk (by decide) hstay, hw.now, hw.regs, hw.storesSame⟩

end

end Sys2Proof.Synthesis

/-! SYNk_CTL, realignment and the core synthesiser; O35 settled. -/

namespace Sys2Proof.Synthesis
open Sys2Proof.Machine Sys2Proof.Reg Sys2Proof.Safety Sys2Proof.Clocks Sys2Proof.Modes Sys2Proof.ReferenceSelection

/-! ### SYNk_CTL (R216, R224) -/

theorem plainWord_synCtl : ∀ k < 4, PlainWord (0x70001C + 64 * k) := by decide +kernel

/-- the bits of SYNk_CTL are written only, and none is stored -/
theorem fieldsAt_synCtl : ∀ k < 4, fieldsAt (0x70001C + 64 * k) = [(SYN_SYNk_CTL_RELOCK k, 3), (SYN_SYNk_CTL_REALIGN k, 3)] := by
  decide +kernel

/-- a word written whole to the SYNk_CTL of synthesiser k -/
def synCtlWord (k v : Nat) : WordW := { addr := 0x70001C + 64 * k, be := 15, data := v % 2 ^ 32 }

/-- MUTE entered for a band change, the outputs not yet moved or stopped -/
def muteEntered (k : Nat) (s : State) : State := s |> synTouch k |> putSynState k 5 |> put (SYN_SYNk_EVT_BAND_CHG k) 1

section
variable {dt k : Nat} {s : State}

theorem storeWord_synCtl (hk : k < 4) (be v : Nat) (s : State) : storeWord (0x70001C + 64 * k) be v s = s := by
  have hno : woHolds (0x70001C + 64 * k) = false := by
    simp only [woHolds, Bool.and_eq_false_iff, decide_eq_false_iff_not]
    omega
  simp only [storeWord, fieldsAt_synCtl k hk, forEach_cons, hno]
  rfl

theorem testBusy_synCtl (hk : k < 4) (s : State) : testBusy s (0x70001C + 64 * k) = false := by
  interval_cases k <;> rfl

theorem blockOf_synCtl (hk : k < 4) : blockOf (0x70001C + 64 * k) = 7 := by
  unfold blockOf
  omega

theorem wOff_synCtlWord (hk : k < 4) (v : Nat) : wOff (synCtlWord k v) = 0x1C + 64 * k := by
  simp only [wOff, synCtlWord]
  omega

theorem wBit_synCtlWord {i : Nat} (hi : i < 32) (v : Nat) : wBit (synCtlWord k v) i = bitAt v i := by
  have hm : beMask 15 = 2 ^ 32 - 1 := by decide
  simp [wBit, synCtlWord, bitAt, hm, Nat.testBit_mod_two_pow, Nat.testBit_two_pow_sub_one, hi, -Nat.reducePow, -Nat.reduceSub]

/-- SYN refuses no write of SYNk_CTL (R218, R219, R234) -/
theorem synRefuses_synCtl (hk : k < 4) (v : Nat) (s : State) : synRefuses s (synCtlWord k v) = false := by
  have hlt : 0x1C + 64 * k < 0x100 := by omega
  have hmod : (0x1C + 64 * k) % 64 = 0x1C := by omega
  have hcommit : 0x1C + 64 * k ≠ 0x180 := by omega
  have htest : 0x1C + 64 * k ≠ 0x188 := by omega
  simp [synRefuses, synShadowed, wOff_synCtlWord hk, hlt, hmod, hcommit, htest]

/-- a write of SYNk_CTL carries out RELOCK, then REALIGN -/
theorem synWritten_synCtl (hk : k < 4) (v : Nat) (old s : State) :
    synWritten (synCtlWord k v) old s = whenB (bitAt v 0) (askRealign k) (whenB (bitAt v 1) (synRelock k) s) := by
  have hlt : 0x1C + 64 * k < 0x100 := by omega
  have hmod : (0x1C + 64 * k) % 64 = 0x1C := by omega
  have hdiv : (0x1C + 64 * k) / 64 = k := by omega
  simp only [synWritten, wOff_synCtlWord hk, if_pos hlt, hmod, hdiv, if_true, wBit_synCtlWord (show 0 < 32 by decide),
    wBit_synCtlWord (show 1 < 32 by decide)]

/-- a bit of SYNk_CTL written on an open host port reaches its synthesiser -/
theorem synCtlWrite_open (hk : k < 4) (ho : Open s (0x70001C + 64 * k)) (v : Nat) : synCtlWrite k v (pass dt s) =
    whenB (bitAt v 0) (askRealign k) (whenB (bitAt v 1) (synRelock k) (Issued (0x70001C + 64 * k) dt s)) := by
  obtain ⟨h4, h24, hword, hal, hrow, -⟩ := plainWord_synCtl k hk
  obtain ⟨r, hr⟩ := Option.isSome_iff_exists.1 hrow
  have hblk := blockOf_synCtl hk
  have hgrp : rwsGroupOf (0x70001C + 64 * k) = none := by simp [rwsGroupOf, fieldsAt_synCtl k hk]
  have hp : isPartnerReg (0x70001C + 64 * k) = false := by
    simp only [isPartnerReg, Bool.and_eq_false_iff, decide_eq_false_iff_not]
    omega
  have hno : blockRefuses (Issued (0x70001C + 64 * k) dt s) (synCtlWord k v) = false := by
    simp only [blockRefuses, synCtlWord, hblk]
    exact synRefuses_synCtl hk v _
  rw [synCtlWrite, decide_eq_true hk, whenB_true, writeReg_block ho h4 hword hal hr hgrp hp h24 (by omega)]
  refine (regWrite_taken (w := synCtlWord k v) (testBusy_synCtl hk _) hno).trans ?_
  simp only [blockWritten, synCtlWord, hblk, storeWord_synCtl hk]
  exact synWritten_synCtl hk v _ _

theorem exec_realignCmd (hk : k < 4) (ho : Open s (0x70001C + 64 * k)) :
    exec (.realignCmd dt k) s = done s (askRealign k (Issued (0x70001C + 64 * k) dt s)) := by
  change done s (synCtlWrite k 1 (pass dt s)) = _
  rw [synCtlWrite_open hk ho, show bitAt 1 0 = true from rfl, show bitAt 1 1 = false from rfl, whenB_true, whenB_false]

theorem exec_relockCmd (hk : k < 4) (ho : Open s (0x70001C + 64 * k)) :
    exec (.relockCmd dt k) s = done s (synRelock k (Issued (0x70001C + 64 * k) dt s)) := by
  change done s (synCtlWrite k 2 (pass dt s)) = _
  rw [synCtlWrite_open hk ho, show bitAt 2 0 = false from rfl, show bitAt 2 1 = true from rfl, whenB_true, whenB_false]

/-- CTL.REALIGN while PH_ALIGNED is 0 -/
theorem completes_realignCmd (hb : Between s) (hk : k < 4) (ho : Open s (0x70001C + 64 * k)) (hal : rd s (SYN_SYNk_STAT_PH_ALIGNED k) = 0) :
    Completes (.realignCmd dt k) s (fun t => ix t.syn k = { ix s.syn k with realign := true } ∧ t.now = s.now + dt ∧ RegsBut [] s t
      ∧ StoresSame s t) := by
  have he := exec_realignCmd (dt := dt) hk ho
  rw [askRealign, on_eq_false (by simpa using hal), if_neg Bool.false_ne_true] at he
  have hw := within_modSyn (within_issued (0x70001C + 64 * k) dt [] s) k (fun x => { x with realign := true })
  refine hw.completes he hb ⟨?_, hw.now, hw.regs, hw.storesSame⟩
  rw [modSyn_syn, issued_syn, ix_upd_same _ _ (show k < 5 by omega)]

/-- CTL.REALIGN while PH_ALIGNED is 1 -/
theorem completes_realignCmd_aligned (hb : Between s) (hk : k < 4) (ho : Open s (0x70001C + 64 * k)) (hal : rd s (SYN_SYNk_STAT_PH_ALIGNED k) = 1) :
    Completes (.realignCmd dt k) s (fun t => t.syn = s.syn ∧ t.now = s.now + dt ∧ RegsBut [] s t ∧ StoresSame s t) := by
  have he := exec_realignCmd (dt := dt) hk ho
  rw [askRealign, on_eq_true (by simpa using hal), if_pos rfl] at he
  have hw := within_issued (0x70001C + 64 * k) dt [] s
  exact hw.completes he hb ⟨issued_syn _ _ _, hw.now, hw.regs, hw.storesSame⟩

theorem synRelock_eq (hk : k < 4) (hst : rd s (SYN_SYNk_STAT_STATE k) = 6 ∨ rd s (SYN_SYNk_STAT_STATE k) = 7) (hiso : isolated s 7 = false) :
    synRelock k s = giveHeld k (clearOuts k true (muteEntered k s)) := by
  have hrun : ((synState s k = 6 || synState s k = 7) && !isolated s 7) = true := by
    rw [synState_of_lt hk, hiso]
    simpa using hst
  exact if_pos hrun

theorem leads_relockCmd (hb : Between s) (hk : k < 4) (ho : Open s (0x70001C + 64 * k))
    (hst : rd s (SYN_SYNk_STAT_STATE k) = 6 ∨ rd s (SYN_SYNk_STAT_STATE k) = 7) (hiso : isolated s 7 = false) :
    Leads (.relockCmd dt k) s (fun u => giveHeld k (clearOuts k true u)) (fun u => rd u (SYN_SYNk_STAT_STATE k) = 5
      ∧ rd u (SYN_SYNk_EVT_BAND_CHG k) = 1 ∧ u.now = s.now + dt ∧ u.flt.raised = []
      ∧ RegsBut [SYN_SYNk_STAT_STATE k, SYN_SYNk_EVT_BAND_CHG k] s u ∧ StoresSame s u) := by
  have he := exec_relockCmd (dt := dt) hk ho
  have hiso' : isolated (Issued (0x70001C + 64 * k) dt s) 7 = false := by
    rw [isolated, issued_gen]
    exact hiso
  rw [synRelock_eq hk (by simpa using hst) hiso'] at he
  have htouch : Within dt [SYN_SYNk_STAT_STATE k, SYN_SYNk_EVT_BAND_CHG k] s (synTouch k (Issued (0x70001C + 64 * k) dt s)) :=
    within_synTouch (within_issued _ dt _ s) k
  have hwas : rd (synTouch k (Issued (0x70001C + 64 * k) dt s)) (SYN_SYNk_STAT_STATE k) = rd s (SYN_SYNk_STAT_STATE k) := by
    rw [(within_synTouch (within_self [] _) k).rd_eq (by simp), rd_issued]
  have hstay : rd (synTouch k (Issued (0x70001C + 64 * k) dt s)) (SYN_SYNk_STAT_STATE k) = 3 →
      5 = 3 ∨ ∀ n < 16, (ix (synTouch k (Issued (0x70001C + 64 * k) dt s)).out n).moving ≠ some k := by
    rw [hwas]
    omega
  have hw := (within_putSynState htouch hk (by simp) hstay).put (f := SYN_SYNk_EVT_BAND_CHG k) (by simp) 1
  refine ⟨muteEntered k (Issued (0x70001C + 64 * k) dt s), he, ?_, by simp [muteEntered], hw.now, hw.raised hb, hw.regs, hw.storesSame⟩
  rw [muteEntered, rd_put_ne _ _ (by simp)]
  exact rd_putSynState hk (by decide) hstay

/-! ### A realignment completes (R216) -/

theorem leads_realignDone (hb : Between s) (hk : k < 4) (hst : rd s (SYN_SYNk_STAT_STATE k) = 3) (hre : (ix s.syn k).realign = true) :
    Leads (.realignDone dt k) s (fun u => outsBack k (commitAim k u)) (fun t => rd t (SYN_SYNk_STAT_PH_ALIGNED k) = 1
      ∧ (rd s (SYN_SYNk_STAT_PH_ALIGNED k) = 0 → rd t (SYN_SYNk_EVT_ALIGNED k) = 1)
      ∧ ix t.syn k = { ix s.syn k with realign := false, ph := alignedPhase (pass dt s) k, phT := s.now + dt } ∧ t.now = s.now + dt
      ∧ t.flt.raised = [] ∧ RegsBut [SYN_SYNk_STAT_PH_ALIGNED k, SYN_SYNk_EVT_ALIGNED k] s t ∧ StoresSame s t) := by
  have he : exec (.realignDone dt k) s = done s (outsBack k (commitAim k (frameTaken k (pass dt s)))) := by
    change done s (whenB (k < 4) (realignDone k) (pass dt s)) = _
    rw [decide_eq_true hk, whenB_true, realignDone, pass_syn, hre, synState_of_lt hk, rd_pass, hst]
    rfl
  have hw : Within dt [SYN_SYNk_STAT_PH_ALIGNED k, SYN_SYNk_EVT_ALIGNED k] s (frameTaken k (pass dt s)) :=
    within_frameTaken (within_pass dt _ s) (by simp) (by simp)
  refine ⟨_, he, rd_frameTaken_aligned k _, fun hph => rd_frameTaken_event ((rd_pass _ _ _).trans hph), ?_, hw.now, hw.raised hb, hw.regs,
    hw.storesSame⟩
  rw [syn_frameTaken hk, pass_now, pass_syn]
  rfl

end

/-! ### The core synthesiser (R23, R27, R225) -/

/-- the fields that a freeze of the core synthesiser writes -/
def coreFields : List Fld :=
  [SYN_CORE_STAT_STATE, GEN_CLKSTAT_CORE_LOCK, GEN_CLKSTAT_CORE_FROZEN, GEN_CLKSTAT_RCLK_OK, SYN_CORE_STAT_FREEZES]

/-- the core synthesiser as it freezes at its nominal frequency, the freeze not yet counted -/
def coreFrozen (s : State) : State :=
  modSyn 4 (fun x => { x with fFrom := fNom (synTouch 4 s) x.live }) (synTouch 4 s)
    |> put SYN_CORE_STAT_STATE 6 |> put GEN_CLKSTAT_CORE_LOCK 0 |> put GEN_CLKSTAT_CORE_FROZEN 1 |> put GEN_CLKSTAT_RCLK_OK 0

section
variable {dt : Nat} {err : Int} {s : State}

theorem coreLost_locked (hst : rd s SYN_CORE_STAT_STATE = 3) (pres : Bool) :
    coreLost pres s = raise 33 none (minBreakAll (frozenEval (bump SYN_CORE_STAT_FREEZES (coreFrozen s)))) := by
  have hcore : synState s 4 = 3 := hst
  rw [coreLost, hcore, if_pos rfl]
  rfl

theorem exec_synthLockLost_core : exec (.synthLockLost dt 4 err) s = done s (coreLost false (pass dt s)) := (rfl)

theorem within_coreFrozen (dt : Nat) (s : State) : Within dt coreFields s (coreFrozen (pass dt s)) :=
  ((((within_modSyn (within_synTouch (within_pass dt _ s) 4) 4 _).put (by simp [coreFields]) 6).put (by simp [coreFields]) 0).put
    (by simp [coreFields]) 1).put (by simp [coreFields]) 0

theorem leads_coreLockLost (hst : rd s SYN_CORE_STAT_STATE = 3) :
    Leads (.synthLockLost dt 4 err) s (fun u => raise 33 none (minBreakAll (frozenEval u))) (fun u =>
      rd u SYN_CORE_STAT_STATE = 6 ∧ rd u GEN_CLKSTAT_CORE_LOCK = 0 ∧ rd u GEN_CLKSTAT_CORE_FROZEN = 1 ∧ rd u GEN_CLKSTAT_RCLK_OK = 0
      ∧ rd u SYN_CORE_STAT_FREEZES = (if rd s SYN_CORE_STAT_FREEZES < 65535 then rd s SYN_CORE_STAT_FREEZES + 1 else 65535)
      ∧ u.now = s.now + dt ∧ RegsBut coreFields s u ∧ StoresSame s u) := by
  have he := exec_synthLockLost_core (dt := dt) (err := err) (s := s)
  rw [coreLost_locked ((rd_pass _ _ _).trans hst)] at he
  have hfrozen := within_coreFrozen dt s
  have hw := hfrozen.bump (f := SYN_CORE_STAT_FREEZES) (by simp [coreFields])
  have hcount : rd (coreFrozen (pass dt s)) SYN_CORE_STAT_FREEZES = rd s SYN_CORE_STAT_FREEZES := by
    rw [coreFrozen, rd_put_ne _ _ (by simp), rd_put_ne _ _ (by simp), rd_put_ne _ _ (by simp), rd_put_ne _ _ (by simp), rd_modSyn,
      (within_synTouch (within_pass dt [] s) 4).rd_eq (by simp)]
  refine ⟨_, he, ?_, ?_, ?_, ?_, ?_, hw.now, hw.regs, hw.storesSame⟩
  · simp [coreFrozen, rd_put_ne]
  · simp [coreFrozen, rd_put_ne]
  · simp [coreFrozen, rd_put_ne]
  · simp [coreFrozen, rd_put_ne]
  · rw [bump_eq, rd_cycMark, rd_put_same, hcount, width_SYN_CORE_STAT_FREEZES]
    split <;> omega

end

/-! ### The obligation -/

/-- Settles O35: every event of a synthesiser is a chain of updates of its fields and its own state, one chain for each state it comes in; what
its outputs and commits do then follows. -/
theorem synthesisersSearchLockAndFreeze : Obligations.SynthesisersSearchLockAndFreeze := by
  unfold Obligations.SynthesisersSearchLockAndFreeze
  intro dt k f0 f1 f2 err s hb hk
  dsimp only
  refine ⟨fun hpres => ⟨?_, completes_bandSearchDone hb hk hpres, effects_bandSearchDone_failed hb hk hpres, leads_lock_locking hb hk hpres,
    leads_lock_frozen hb hk hpres⟩, fun hst hever hmv => ?_, completes_glideDone hb hk, completes_appliedWordRampDone hb hk, completes_muteDone hb hk,
    fun ho => ⟨completes_realignCmd hb hk ho, completes_realignCmd_aligned hb hk ho, leads_relockCmd hb hk ho⟩, leads_realignDone hb hk,
    leads_coreLockLost⟩
  · have h := bandTaken_spec (fNom s (ix s.syn k).live) [f0, f1, f2]
    simp only [centreGap_eq] at h
    exact h
  · obtain ⟨v, hv, hstate, hfrozen, htdc, hx, hraised, hnow, hregs, hstores⟩ := effects_lockLost (dt := dt) (err := err) hb hk hst hever hmv
    have hwa : (ix v.syn k).wa = appliedWord (pass dt s) k (s.now + dt) := (congrArg SynS.wa hx :)
    exact ⟨v, hv, hstate, hfrozen, htdc, (congrArg SynS.fFrom hx :), hwa, (congrArg SynS.wd hx :).trans hwa.symm, (congrArg SynS.held hx :), hraised,
      hnow, hregs, hstores⟩

end Sys2Proof.Synthesis

/-! What outputs and synthesisers do at once (O36): to be judged, to start, to stop, to be moved or muted changes neither the time, nor the values
that are live, nor what the commits ask for, and no register but the fields of `workFields`; to go live changes the live values besides. -/

namespace Sys2Proof.Synthesis
open Sys2Proof.Machine Sys2Proof.Reg Sys2Proof.Safety Sys2Proof.Clocks Sys2Proof.Modes Sys2Proof.ReferenceSelection

/-! ### The fields written and the values kept -/

/-- the fields of synthesiser k that its states write -/
def synFields (k : Nat) : List Fld := [SYN_SYNk_STAT_STATE k, SYN_SYNk_STAT_CFG_ERR k, SYN_SYNk_EVT_BAND_CHG k]

/-- the fields of output n that its states write -/
def outFields (n : Nat) : List Fld := [SYN_OUTn_STAT_STATE n, SYN_OUTn_STAT_ERR n, SYN_OUTn_STAT_CFG_ERR n, SYN_OUTn_STAT_ALIGNED n]

/-- the fields that the states of synthesisers and outputs write -/
def workFields : List Fld := (List.range 4).flatMap synFields ++ (List.range 16).flatMap outFields

theorem synFields_sub {k : Nat} (hk : k < 4) {f : Fld} (hf : f ∈ synFields k) : f ∈ workFields :=
  List.mem_append_left _ (List.mem_flatMap.2 ⟨k, List.mem_range.2 hk, hf⟩)

theorem outFields_sub {n : Nat} (hn : n < 16) {f : Fld} (hf : f ∈ outFields n) : f ∈ workFields :=
  List.mem_append_right _ (List.mem_flatMap.2 ⟨n, List.mem_range.2 hn, hf⟩)

/-- the live values of an output -/
def outVals (o : OutS) : OutVals := { div := o.div, half := o.half, pre := o.pre, coarse := o.coarse }

theorem outLive_eq (s : State) (n : Nat) : outLive s n = outVals (ix s.out n) := (rfl)

/-- u comes of s at once by work of its outputs and synthesisers: in u the synthesisers run on sv and the outputs on ov -/
structure Works (sv : Nat → SynLive) (ov : Nat → OutVals) (s u : State) : Prop where
  now : u.now = s.now
  regs : RegsBut workFields s u
  kept : Kept s u
  live : ∀ k, (ix u.syn k).live = sv k
  outs : ∀ n, outVals (ix u.out n) = ov n
  commits : u.commit.map commitAsked = s.commit.map commitAsked

theorem works_self (s : State) : Works (fun k => (ix s.syn k).live) (outLive s) s s :=
  ⟨rfl, fun _ _ => rfl, ⟨rfl, rfl, rfl, rfl, rfl⟩, fun _ => rfl, fun n => (outLive_eq s n).symm, rfl⟩

/-- a field is none of those written by the work of outputs and synthesisers if its key is none of theirs -/
theorem not_workFields {f : Fld} (hs : ∀ k < 4, ∀ g ∈ synFields k, fldKey g ≠ fldKey f) (ho : ∀ n < 16, ∀ g ∈ outFields n, fldKey g ≠ fldKey f) :
    fldKey f ∉ workFields.map fldKey := by
  intro h
  obtain ⟨g, hg, hkey⟩ := List.mem_map.1 h
  rcases List.mem_append.1 hg with hg | hg
  · obtain ⟨k, hk, hgk⟩ := List.mem_flatMap.1 hg
    exact hs k (List.mem_range.1 hk) g hgk hkey
  · obtain ⟨n, hn, hgn⟩ := List.mem_flatMap.1 hg
    exact ho n (List.mem_range.1 hn) g hgn hkey

namespace Works
variable {sv : Nat → SynLive} {ov : Nat → OutVals} {k n : Nat} {s u v : State}

theorem put (h : Works sv ov s u) {f : Fld} (hf : f ∈ workFields) (x : Nat) : Works sv ov s (put f x u) :=
  ⟨h.now, regsBut_put h.regs hf x, h.kept.put f x, h.live, h.outs, h.commits⟩

theorem raise (h : Works sv ov s u) (i : Nat) (j : Option Nat) : Works sv ov s (raise i j u) :=
  ⟨h.now, h.regs, h.kept.raise i j, h.live, h.outs, h.commits⟩

theorem modOut (h : Works sv ov s u) (n : Nat) {f : OutS → OutS} (hf : ∀ o, outVals (f o) = outVals o := by exact fun _ => rfl) :
    Works sv ov s (modOut n f u) :=
  ⟨h.now, h.regs, h.kept.modOut n f, h.live, fun j => (ix_upd_part outVals hf u.out n j).trans (h.outs j), h.commits⟩

theorem modSyn (h : Works sv ov s u) (k : Nat) {f : SynS → SynS} (hf : ∀ x, (f x).live = x.live := by exact fun _ => rfl) :
    Works sv ov s (modSyn k f u) :=
  ⟨h.now, h.regs, h.kept.modSyn k f, fun j => (ix_upd_part (·.live) hf u.syn k j).trans (h.live j), h.outs, h.commits⟩

theorem withOuts (h : Works sv ov s u) {w : Vector OutS 16} (hw : ∀ j, outVals (ix w j) = ov j) : Works sv ov s (withOuts w u) :=
  ⟨h.now, h.regs, ⟨h.kept.pending, h.kept.mram, h.kept.mramJ, h.kept.cram, h.kept.otp⟩, h.live, hw, h.commits⟩

theorem withCommits (h : Works sv ov s u) {c : List CommitS} (hc : c.map commitAsked = u.commit.map commitAsked) :
    Works sv ov s (withCommits c u) :=
  ⟨h.now, h.regs, ⟨h.kept.pending, h.kept.mram, h.kept.mramJ, h.kept.cram, h.kept.otp⟩, h.live, h.outs, hc.trans h.commits⟩

theorem ite {c : Prop} [Decidable c] (hu : Works sv ov s u) (hv : Works sv ov s v) : Works sv ov s (if c then u else v) := by
  split
  · exact hu
  · exact hv

theorem loop {α : Type} {l : List α} {f : α → State → State} (hf : ∀ a ∈ l, ∀ u, Works sv ov s u → Works sv ov s (f a u))
    (h : Works sv ov s u) : Works sv ov s (forEach l f u) := forEach_holds hf h

/-- a field with another key than those written reads as before -/
theorem rd_eq (h : Works sv ov s u) {f : Fld} (hs : ∀ k < 4, ∀ g ∈ synFields k, fldKey g ≠ fldKey f := by intro k hk; simp [synFields] <;> omega)
    (ho : ∀ n < 16, ∀ g ∈ outFields n, fldKey g ≠ fldKey f := by intro n hn; simp [outFields] <;> omega) : rd u f = rd s f :=
  h.regs f (not_workFields hs ho)

/-- a field of output n written -/
theorem putOut (h : Works sv ov s u) (hn : n < 16) {f : Fld} (x : Nat) (hf : f ∈ outFields n := by simp [outFields]) : Works sv ov s (Machine.put f x u) :=
  h.put (outFields_sub hn hf) x

/-- a field of synthesiser k written -/
theorem putSyn (h : Works sv ov s u) (hk : k < 4) {f : Fld} (x : Nat) (hf : f ∈ synFields k := by simp [synFields]) : Works sv ov s (Machine.put f x u) :=
  h.put (synFields_sub hk hf) x

/-! ### Outputs -/

theorem putOutState (h : Works sv ov s u) (hn : n < 16) (x : Nat) : Works sv ov s (putOutState n x u) := by
  unfold Machine.putOutState
  exact h.ite ((h.modOut n).putOut hn x)

theorem putOutErr (h : Works sv ov s u) (hn : n < 16) (code : Nat) : Works sv ov s (putOutErr n code u) := by
  unfold Machine.putOutErr putB
  extract_lets was w w'
  have hw : Works sv ov s w := (h.putOut hn code).putOut hn _
  have hw' : Works sv ov s w' := hw.ite (hw.modOut n)
  exact (hw'.raise 35 (some n)).ite hw'

theorem fineFix (h : Works sv ov s u) (n : Nat) : Works sv ov s (fineFix n u) := by
  unfold Machine.fineFix
  exact h.modOut n

theorem stopOut (h : Works sv ov s u) (hn : n < 16) : Works sv ov s (stopOut n u) := by
  unfold Machine.stopOut
  split
  · exact ((h.fineFix n).modOut n).putOutState hn 3
  · exact h.putOutState hn 0
  · exact h

theorem moveOut (h : Works sv ov s u) (hn : n < 16) (k : Nat) : Works sv ov s (moveOut n k u) := by
  unfold Machine.moveOut
  exact h.ite (((h.modOut n).putOut hn 0).ite ((h.modOut n).putOutErr hn 5))

theorem clearOuts (h : Works sv ov s u) (k : Nat) (band : Bool) : Works sv ov s (clearOuts k band u) := by
  unfold Machine.clearOuts
  refine h.loop fun n hn w hw => ?_
  have hlt : n < 16 := List.mem_range.1 (List.mem_of_mem_filter hn)
  exact ((hw.modOut n).moveOut hlt _).ite ((hw.modOut n).stopOut hlt)

theorem outEval (h : Works sv ov s u) (hn : n < 16) : Works sv ov s (outEval n u) := by
  unfold Machine.outEval
  refine h.ite ?_
  extract_lets k live w o e e' w'
  have hw' : Works sv ov s w' := (h.modOut n).putOutErr hn _
  exact (hw'.stopOut hn).ite ((hw'.putOutState hn 1).ite hw')

/-! ### Synthesisers -/

theorem synTouch (h : Works sv ov s u) (k : Nat) : Works sv ov s (synTouch k u) := by
  obtain ⟨w, hw, hsame⟩ := synTouch_eq k u
  rw [hw]
  exact (h.modSyn k).withOuts fun j => (congrArg outVals (hsame j)).trans (h.outs j)

theorem commitAim (h : Works sv ov s u) (k : Nat) : Works sv ov s (commitAim k u) := by
  obtain ⟨c, hc, hsame⟩ := commitAim_eq k u
  rw [hc]
  exact h.withCommits hsame

theorem abandonMoves (h : Works sv ov s u) (k : Nat) : Works sv ov s (abandonMoves k u) := by
  unfold Machine.abandonMoves
  refine h.loop fun n hn w hw => ?_
  have hlt : n < 16 := List.mem_range.1 (List.mem_of_mem_filter hn)
  exact ((hw.modOut n).putOut hlt 1).putOutErr hlt 5

theorem putSynState (h : Works sv ov s u) (hk : k < 4) (x : Nat) : Works sv ov s (putSynState k x u) := by
  obtain ⟨c, hsame, hc⟩ := putSynState_eq hk x u
  have hput : Works sv ov s (Synthesis.withCommits c (Machine.put (SYN_SYNk_STAT_STATE k) x u)) := (h.putSyn hk x).withCommits hsame
  rw [hc]
  exact (hput.abandonMoves k).ite hput

theorem muteSyn (h : Works sv ov s u) (hk : k < 4) (band : Bool) : Works sv ov s (muteSyn k band u) := by
  unfold Machine.muteSyn
  exact (((h.synTouch k).putSynState hk 5).putSyn hk 1).clearOuts k band

theorem synEval (h : Works sv ov s u) (hk : k < 4) : Works sv ov s (synEval k u) := by
  unfold Machine.synEval putB startSearch
  refine h.ite ?_
  extract_lets w w'
  have hw : Works sv ov s w := h.putSyn hk _
  have hstop : Works sv ov s w' := hw.loop fun n hn _ hv => (hv.modOut n).stopOut (List.mem_range.1 (List.mem_of_mem_filter hn))
  exact ((hw.putSynState hk 1).ite hw).ite (hw.ite ((hstop.putSynState hk 0).ite hstop))

end Works

end Sys2Proof.Synthesis

/-! Outputs start, stop and move; the levels of their balls (O36; R226 to R228, R561). -/

namespace Sys2Proof.Synthesis
open Sys2Proof.Machine Sys2Proof.Reg Sys2Proof.Safety Sys2Proof.Clocks Sys2Proof.Modes Sys2Proof.ReferenceSelection

/-! ### The next frame tick (R214) -/

theorem le_leastT (m : Nat) (p : Nat → Bool) (lo : Nat) : lo ≤ leastT m p lo := by
  induction m generalizing lo with
  | zero => exact le_rfl
  | succ m ih =>
    rw [leastT]
    split
    · exact ih lo
    · exact (Nat.le_add_right lo _).trans (ih _)

/-- the next tick does not lie in the past -/
theorem le_tickFrom (s : State) (k t : Nat) : t ≤ tickFrom s k t := by
  unfold tickFrom
  dsimp only
  split
  · exact le_rfl
  · exact le_leastT 60 _ t

/-! ### An output starts (R226) -/

/-- an output started at device time t, no new high phase before quiet -/
def startedAt (t quiet : Nat) (o : OutS) : OutS := { o with started := true, fallAt := t, quiet := quiet, low := 0, fineAt := t }

/-- an output whose state has changed -/
def marked (o : OutS) : OutS := { o with chg := true }

theorem putOutState_eq {n v : Nat} {s : State} (h : rd s (SYN_OUTn_STAT_STATE n) ≠ v) :
    putOutState n v s = put (SYN_OUTn_STAT_STATE n) v (modOut n marked s) := if_neg h

section
variable {dt n k : Nat} {l : List Fld} {s u : State}

theorem within_putOutState (h : Within dt l s u) (hl : SYN_OUTn_STAT_STATE n ∈ l) (v : Nat) : Within dt l s (putOutState n v u) :=
  h.ite ((within_modOut h n _).put hl v)

/-- device time moves on to t within a command -/
theorem within_thenTo (h : Within dt l s u) (t : Nat) : Within (max (s.now + dt) t - s.now) l s (advanceTo t u) where
  now := by
    rw [advanceTo_now, h.now]
    omega
  regs := regsBut_trans h.regs (regsBut_of_rd (by simp) l)
  kept := h.kept.trans (kept_advanceTo t u)
  quiet := by simpa using h.quiet

theorem ix_putOutState {v : Nat} (hn : n < 16) (h : rd s (SYN_OUTn_STAT_STATE n) ≠ v) : ix (putOutState n v s).out n = marked (ix s.out n) := by
  rw [putOutState_eq h]
  exact ix_upd_same _ _ hn

theorem rd_putOutState {v : Nat} (hv : v < 4) (h : rd s (SYN_OUTn_STAT_STATE n) ≠ v) : rd (putOutState n v s) (SYN_OUTn_STAT_STATE n) = v := by
  rw [putOutState_eq h, rd_put_same, width_SYN_OUTn_STAT_STATE]
  omega

theorem rd_putOutState_ne (v : Nat) {f : Fld} (hf : fldKey (SYN_OUTn_STAT_STATE n) ≠ fldKey f) (s : State) : rd (putOutState n v s) f = rd s f :=
  (within_putOutState (within_self [SYN_OUTn_STAT_STATE n] s) (by simp) v).rd_eq (by simpa using hf.symm)

/-- an output on its grid from now on, its state not yet shown -/
def outBegun (n : Nat) (s : State) : State :=
  put (SYN_OUTn_STAT_ALIGNED n) 1 (modOut n (startedAt s.now (quietTo s n (gridRise s n s.now))) s)

theorem rd_outBegun_aligned (n : Nat) (s : State) : rd (outBegun n s) (SYN_OUTn_STAT_ALIGNED n) = 1 := by simp [outBegun]

theorem outStart_eq (hst : rd s (SYN_OUTn_STAT_STATE n) = 1) (hsrc : rd s (SYN_OUTn_STAT_SRC n) = k) (hk : k < 4)
    (hlock : rd s (SYN_SYNk_STAT_STATE k) = 3) (hen : rd s (SYN_OUTn_CFG_EN n) = 1) (herr : rd s (SYN_OUTn_STAT_CFG_ERR n) = 0) :
    outStart n s = putOutState n 2 (outBegun n (advanceTo (tickFrom s k s.now) s)) := by
  have hrun : (outState s n = 1 && synState s k == 3 && (on s (SYN_OUTn_CFG_EN n) || !s.img.applied) && !on s (SYN_OUTn_STAT_CFG_ERR n)) = true := by
    rw [outState, hst, synState_of_lt hk, hlock, on_eq_true hen, on_eq_false herr]
    rfl
  unfold outStart
  rw [hsrc]
  exact if_pos hrun

theorem completes_outputStart (hb : Between s) (hn : n < 16) (hk : k < 4) (hst : rd s (SYN_OUTn_STAT_STATE n) = 1)
    (hsrc : rd s (SYN_OUTn_STAT_SRC n) = k) (hlock : rd s (SYN_SYNk_STAT_STATE k) = 3) (hen : rd s (SYN_OUTn_CFG_EN n) = 1)
    (herr : rd s (SYN_OUTn_STAT_CFG_ERR n) = 0) :
    Completes (.outputStart dt n) s (fun t => rd t (SYN_OUTn_STAT_STATE n) = 2 ∧ rd t (SYN_OUTn_STAT_ALIGNED n) = 1
      ∧ (ix t.out n).started = true ∧ (ix t.out n).fine = (ix s.out n).fine ∧ (ix t.out n).fineAt = t.now
      ∧ t.now = tickFrom (pass dt s) k (s.now + dt) ∧ RegsBut [SYN_OUTn_STAT_STATE n, SYN_OUTn_STAT_ALIGNED n] s t ∧ StoresSame s t) := by
  have hlate := le_tickFrom (pass dt s) k (s.now + dt)
  have he : exec (.outputStart dt n) s = done s (putOutState n 2 (outBegun n (advanceTo (tickFrom (pass dt s) k (s.now + dt)) (pass dt s)))) := by
    change done s (whenB (n < 16) (outStart n) (pass dt s)) = _
    rw [decide_eq_true hn, whenB_true, outStart_eq (by simpa using hst) (by simpa using hsrc) hk (by simpa using hlock) (by simpa using hen)
      (by simpa using herr), pass_now]
  generalize tickFrom (pass dt s) k (s.now + dt) = t at he hlate ⊢
  have htick : (advanceTo t (pass dt s)).now = t := by
    rw [advanceTo_now, pass_now]
    omega
  have hwas : rd (outBegun n (advanceTo t (pass dt s))) (SYN_OUTn_STAT_STATE n) ≠ 2 := by simp [outBegun, rd_put_ne, hst]
  have hw : Within (max (s.now + dt) t - s.now) [SYN_OUTn_STAT_STATE n, SYN_OUTn_STAT_ALIGNED n] s
      (putOutState n 2 (outBegun n (advanceTo t (pass dt s)))) :=
    within_putOutState ((within_modOut (within_thenTo (within_pass dt _ s) t) n _).put (by simp) 1) (by simp) 2
  have hnow : (putOutState n 2 (outBegun n (advanceTo t (pass dt s)))).now = t := by
    have := hw.now
    omega
  have hout : ix (putOutState n 2 (outBegun n (advanceTo t (pass dt s)))).out n = marked (startedAt t
      (quietTo (advanceTo t (pass dt s)) n (gridRise (advanceTo t (pass dt s)) n t)) (ix s.out n)) := by
    rw [ix_putOutState hn hwas, outBegun, put_out, modOut_out, ix_upd_same _ _ hn, htick, advanceTo_out, pass_out]
  refine hw.completes he hb ⟨rd_putOutState (by decide) hwas, ?_, by rw [hout]; rfl, by rw [hout]; rfl, by rw [hout, hnow]; rfl, hnow, hw.regs,
    hw.storesSame⟩
  rw [rd_putOutState_ne _ (by simp), rd_outBegun_aligned]

/-! ### An output stops (R226) -/

/-- an output taken to OFF, not yet judged -/
def outOff (n : Nat) (s : State) : State := putOutState n 0 (put (SYN_OUTn_STAT_ALIGNED n) 0 s)

/-- a stopped output judged; its synthesiser k ends where it was only waiting for it -/
theorem exec_outputStopDone (hn : n < 16) (hst : rd s (SYN_OUTn_STAT_STATE n) = 3) (hsrc : rd s (SYN_OUTn_STAT_SRC n) = k) :
    exec (.outputStopDone dt n) s = done s (let w := outEval n (outOff n (advanceTo (ix s.out n).fallAt (pass dt s)))
      if on w (SYN_SYNk_CFG_EN k) then w else synEval k w) := by
  have hkeep : rd (outEval n (outOff n (advanceTo (ix s.out n).fallAt (pass dt s)))) (SYN_OUTn_STAT_SRC n) = k := by
    rw [((works_self _).outEval hn).rd_eq, outOff, rd_putOutState_ne _ (by simp),
      rd_put_ne _ _ (by simp), rd_advanceTo, rd_pass, hsrc]
  change done s (whenB (n < 16) (outStopped n) (pass dt s)) = _
  rw [decide_eq_true hn, whenB_true, outStopped, outState, rd_pass, hst, if_pos rfl, pass_out]
  change done s (let w := outEval n (outOff n (advanceTo (ix s.out n).fallAt (pass dt s)))
    if on w (SYN_SYNk_CFG_EN (rd w (SYN_OUTn_STAT_SRC n))) then w else synEval (rd w (SYN_OUTn_STAT_SRC n)) w) = _
  dsimp only
  rw [hkeep]

theorem leads_outputStopDone (hb : Between s) (hn : n < 16) (hst : rd s (SYN_OUTn_STAT_STATE n) = 3) (hsrc : rd s (SYN_OUTn_STAT_SRC n) = k) :
    Leads (.outputStopDone dt n) s (fun u => let w := outEval n u; if on w (SYN_SYNk_CFG_EN k) then w else synEval k w) (fun u =>
      rd u (SYN_OUTn_STAT_STATE n) = 0 ∧ rd u (SYN_OUTn_STAT_ALIGNED n) = 0 ∧ ix u.out n = { ix s.out n with chg := true }
      ∧ u.now = max (s.now + dt) (ix s.out n).fallAt ∧ u.flt.raised = [] ∧ RegsBut [SYN_OUTn_STAT_STATE n, SYN_OUTn_STAT_ALIGNED n] s u
      ∧ StoresSame s u) := by
  have hwas : rd (put (SYN_OUTn_STAT_ALIGNED n) 0 (advanceTo (ix s.out n).fallAt (pass dt s))) (SYN_OUTn_STAT_STATE n) ≠ 0 := by simp [rd_put_ne, hst]
  have hw : Within (max (s.now + dt) (ix s.out n).fallAt - s.now) [SYN_OUTn_STAT_STATE n, SYN_OUTn_STAT_ALIGNED n] s
      (outOff n (advanceTo (ix s.out n).fallAt (pass dt s))) :=
    within_putOutState ((within_thenTo (within_pass dt _ s) (ix s.out n).fallAt).put (by simp) 0) (by simp) 0
  refine ⟨_, exec_outputStopDone hn hst hsrc, rd_putOutState (by decide) hwas, ?_, ?_, ?_, hw.raised hb, hw.regs, hw.storesSame⟩
  · rw [outOff, rd_putOutState_ne _ (by simp)]
    simp
  · rw [outOff, ix_putOutState hn hwas, put_out, advanceTo_out, pass_out]
    rfl
  · have := hw.now
    omega

end

/-! ### The level of a ball (R226, R561) -/

section
variable {n : Nat} {s : State}

/-- the level an output that does not run holds: that of STOP, low before its first start -/
def heldLevel (o : OutS) : BallOut := if o.started = false then .low else if o.stop = 1 then .high else if o.stop = 2 then .hiZ 0 else .low

theorem outP_held (h : rd s (SYN_OUTn_STAT_STATE n) ≤ 1) (t : Nat) : outP s n t = heldLevel (ix s.out n) := by
  unfold outP heldLevel outState
  dsimp only
  rw [if_pos h]
  cases (ix s.out n).started with
  | false => rfl
  | true =>
    match (ix s.out n).stop with
    | 0 | 1 | 2 => rfl
    | m + 3 => rfl

/-- both legs of an output while an image is applied -/
theorem outBalls_applied (ha : s.img.applied = true) : outBalls s n = (unlessOff s (outBall n) (outP s n s.now),
    unlessOff s (outBall n) (outN s n (outP s n s.now))) := by
  rw [outBalls, ha, Bool.not_true, Bool.and_false, if_neg Bool.false_ne_true]

theorem outBalls_held (h : rd s (SYN_OUTn_STAT_STATE n) ≤ 1) (ha : s.img.applied = true) (hoff : ballOff s (outBall n) = false) :
    (outBalls s n).1 = heldLevel (ix s.out n) ∧ (2 < tabGet s.img.iostd (256 + n) 3 → (outBalls s n).2 = (heldLevel (ix s.out n)).inv) := by
  rw [outBalls_applied ha, outP_held h]
  simp only [unlessOff, hoff, if_neg Bool.false_ne_true]
  refine ⟨trivial, fun hdiff => ?_⟩
  have hlegs : twoLegs (outStd s n) = false := decide_eq_false (Nat.not_le.2 hdiff)
  unfold outN
  rw [hlegs, Bool.not_false, if_pos rfl]

theorem outBalls_off (hoff : ballOff s (outBall n) = true) (ha : s.img.applied = true) :
    outBalls s n = (.hiZ (ballPull s (outBall n).1 (outBall n).2), .hiZ (ballPull s (outBall n).1 (outBall n).2)) := by
  rw [outBalls_applied ha]
  simp only [unlessOff, hoff, if_true]

end

/-! ### A move completes (R227, R228) -/

section
variable {dt n k : Nat} {s : State}

/-- an output whose move has completed -/
def settledOn (fine : Int) (t : Nat) (o : OutS) : OutS := { o with fine := fine, fineAt := t, moving := none }

/-- output n shown on synthesiser k, its main or its alternate one by os -/
def sourceShown (n k : Nat) (os : Nat × Nat × Bool) (s : State) : State :=
  s |> put (SYN_OUTn_STAT_SRC n) k |> putB (SYN_OUTn_STAT_ON_ALT n) (k == os.2.1 && k != os.1)

/-- the fine delay of output n as it stands, its move over -/
def outSettled (n : Nat) (s : State) : State := modOut n (settledOn (fineNow s n) s.now) s

theorem outSettled_eq (n : Nat) (s : State) : modOut n (fun o => { o with moving := none }) (fineFix n s) = outSettled n s := by
  simp only [outSettled, fineFix, modOut, upd_upd]
  rfl

/-- a move completed, the output not yet judged -/
def outArrived (n k : Nat) (s : State) : State := put (SYN_OUTn_STAT_ALIGNED n) 1 (regrid [n] (sourceShown n k (outSyn s n)) (outSettled n s))

theorem exec_outputMoveDone (hn : n < 16) (hmv : (ix s.out n).moving = some k) :
    exec (.outputMoveDone dt n) s = done s (outEval n (outArrived n k (pass dt s))) := by
  change done s (whenB (n < 16) (outMoved n) (pass dt s)) = _
  rw [decide_eq_true hn, whenB_true, outMoved, pass_out, hmv]
  dsimp only
  rw [outSettled_eq]
  rfl

theorem outArrived_eq (n k : Nat) (s : State) : ∃ v, outArrived n k s = put (SYN_OUTn_STAT_ALIGNED n) 1 (withOuts v (sourceShown n k (outSyn s n) s))
    ∧ gridOff (ix v n) = gridOff (ix (upd s.out n (settledOn (fineNow s n) s.now)) n) := by
  obtain ⟨v, hv, hsame⟩ := regrid_eq [n] (sourceShown n k (outSyn s n)) (outSettled n s)
  have hshown : withOuts v (sourceShown n k (outSyn s n) (outSettled n s)) = withOuts v (sourceShown n k (outSyn s n) s) := rfl
  exact ⟨v, by rw [outArrived, hv, hshown], hsame n⟩

theorem leads_outputMoveDone (hb : Between s) (hn : n < 16) (hk : k < 4) (hmv : (ix s.out n).moving = some k) :
    Leads (.outputMoveDone dt n) s (outEval n) (fun u => rd u (SYN_OUTn_STAT_SRC n) = k
      ∧ (rd u (SYN_OUTn_STAT_ON_ALT n) = 1 ↔ k = (outSyn s n).2.1 ∧ k ≠ (outSyn s n).1)
      ∧ rd u (SYN_OUTn_STAT_ALIGNED n) = 1 ∧ (ix u.out n).moving = none ∧ (ix u.out n).fine = fineNow (pass dt s) n
      ∧ (ix u.out n).fineAt = s.now + dt ∧ u.now = s.now + dt ∧ u.flt.raised = []
      ∧ RegsBut [SYN_OUTn_STAT_SRC n, SYN_OUTn_STAT_ON_ALT n, SYN_OUTn_STAT_ALIGNED n] s u ∧ StoresSame s u) := by
  obtain ⟨v, hv, hout⟩ := outArrived_eq n k (pass dt s)
  have hos : outSyn (pass dt s) n = outSyn s n := by rw [outSyn, pass_img]; rfl
  have hw : Within dt [SYN_OUTn_STAT_SRC n, SYN_OUTn_STAT_ON_ALT n, SYN_OUTn_STAT_ALIGNED n] s (outArrived n k (pass dt s)) := by
    rw [hv]
    exact (within_withOuts (((within_pass dt _ s).put (by simp) k).put (by simp) _) v).put (by simp) 1
  rw [ix_upd_same _ _ hn, pass_now, pass_out] at hout
  refine ⟨_, exec_outputMoveDone hn hmv, ?_, ?_, by simp [outArrived], ?_, ?_, ?_, hw.now, hw.raised hb, hw.regs, hw.storesSame⟩
  · rw [hv]
    simp [sourceShown, putB, rd_put_ne]
    omega
  · rw [hv, rd_put_ne _ _ (by simp), rd_withOuts, sourceShown, putB, rd_put_same, hos]
    simp [b2n_mod_two]
  · rw [hv]
    exact (congrArg OutS.moving hout :)
  · rw [hv]
    exact (congrArg OutS.fine hout :)
  · rw [hv]
    exact (congrArg OutS.fineAt hout :)

end

end Sys2Proof.Synthesis

/-! A commit makes its values live (R219, R220); O36 settled. -/

namespace Sys2Proof.Synthesis
open Sys2Proof.Machine Sys2Proof.Reg Sys2Proof.Safety Sys2Proof.Clocks Sys2Proof.Modes Sys2Proof.ReferenceSelection

/-! ### Values go live (R220 to R222) -/

namespace Works
variable {sv : Nat → SynLive} {ov : Nat → OutVals} {k n : Nat} {s u : State}

theorem setLive (h : Works sv ov s u) (hk : k < 4) (v : SynLive) :
    Works (Function.update sv k v) ov s (Machine.modSyn k (fun x => { x with live := v }) u) := by
  refine ⟨h.now, h.regs, h.kept.modSyn k _, fun j => ?_, h.outs, h.commits⟩
  by_cases hj : j = k
  · subst hj
    rw [modSyn_syn, ix_upd_same _ _ (show j < 5 by omega), Function.update_self]
  · rw [modSyn_syn, ix_upd_ne _ _ (Ne.symm hj), Function.update_of_ne hj, h.live]

theorem goLive (h : Works sv ov s u) (hk : k < 4) (v : SynLive) : Works (Function.update sv k v) ov s (goLive k v u) := by
  unfold Machine.goLive
  extract_lets w f0 f1 st live rate df dt
  have hw : Works sv ov s w := h.synTouch k
  exact (hw.setLive hk v).ite ((((hw.setLive hk v).modSyn k).putSynState hk 4).ite ((hw.muteSyn hk true).setLive hk v))

theorem outShadow_eq (h : Works sv ov s u) (n : Nat) : outShadow u n = outShadow s n := by
  simp only [outShadow, h.rd_eq (f := SYN_OUTn_DIV_DIV n), h.rd_eq (f := SYN_OUTn_DIVX_HALF n), h.rd_eq (f := SYN_OUTn_DIVX_PRE n),
    h.rd_eq (f := SYN_OUTn_COARSE_COARSE n), h.rd_eq (f := SYN_OUTn_DIVX_COARSE n)]

theorem outGoLive (h : Works sv ov s u) (hn : n < 16) : Works sv (Function.update ov n (outShadow s n)) s (outGoLive n u) := by
  unfold Machine.outGoLive
  rw [h.outShadow_eq n]
  dsimp only
  obtain ⟨w, hw, hsame⟩ := regrid_eq [n] (Machine.modOut n (fun o => { o with
    div := (outShadow s n).div, half := (outShadow s n).half, pre := (outShadow s n).pre, coarse := (outShadow s n).coarse, kept := false })) (Machine.fineFix n u)
  rw [hw]
  have hfix := h.fineFix n
  refine ⟨h.now, h.regs, ⟨h.kept.pending, h.kept.mram, h.kept.mramJ, h.kept.cram, h.kept.otp⟩, h.live, fun j => ?_, h.commits⟩
  refine (congrArg outVals (hsame j) :).trans ?_
  rw [modOut_out]
  by_cases hj : j = n
  · subst hj
    rw [ix_upd_same _ _ hn, Function.update_self]
    rfl
  · rw [ix_upd_ne _ _ (Ne.symm hj), Function.update_of_ne hj]
    exact hfix.outs j

theorem outsGoLive (h : Works sv ov s u) {l : List Nat} (hl : ∀ n ∈ l, n < 16) :
    Works sv (fun j => if j ∈ l then outShadow s j else ov j) s (forEach l Machine.outGoLive u) := by
  induction l generalizing ov u with
  | nil => simpa using h
  | cons n r ih =>
    have hr := ih (h.outGoLive (hl n List.mem_cons_self)) fun j hj => hl j (List.mem_cons_of_mem n hj)
    have hvals : (fun j => if j ∈ n :: r then outShadow s j else ov j) =
        fun j => if j ∈ r then outShadow s j else Function.update ov n (outShadow s n) j := by
      funext j
      by_cases hj : j = n
      · simp [hj]
      · simp [hj]
    rw [hvals]
    exact hr

end Works

/-! ### The commit boundary (R219) -/

/-- commit c done, its values not yet live -/
def committed (c : CommitS) (s : State) : State :=
  put SYN_STAT_COMMIT_PEND 0 (put (SYN_SYNk_EVT_COMMIT_DONE c.k) 1 (withCommits (s.commit.filter (fun x => x != c)) s))

/-- the values of commit c taken by its outputs and, where it asks for that, by its synthesiser -/
def valuesTaken (c : CommitS) (s : State) : State :=
  if c.mult then goLive c.k (synShadow s c.k) (forEach (bitList 16 c.mask) outGoLive s) else forEach (bitList 16 c.mask) outGoLive s

section
variable {c : CommitS} {l : List Fld} {s u : State}

/-- a commit of the host takes every value it lists -/
theorem commitNow_eq (hl : c.l1 = false) (s : State) :
    commitNow c s = commitAim c.k (forEach (List.range 16) outEval (valuesTaken c (committed c s))) := by
  unfold commitNow valuesTaken
  simp [hl]
  rfl

/-- the values that are live once the host's commit c has been carried out in s -/
theorem works_commit (hk : c.k < 4) (s : State) :
    Works (if c.mult then Function.update (fun j => (ix s.syn j).live) c.k (synShadow s c.k) else fun j => (ix s.syn j).live)
      (fun j => if j ∈ bitList 16 c.mask then outShadow s j else outLive s j) s
      (synEval c.k (commitAim c.k (forEach (List.range 16) outEval (valuesTaken c s)))) := by
  have houts := (works_self s).outsGoLive (l := bitList 16 c.mask) fun n hn => List.mem_range.1 (List.mem_of_mem_filter hn)
  have htaken : Works (if c.mult then Function.update (fun j => (ix s.syn j).live) c.k (synShadow s c.k) else fun j => (ix s.syn j).live)
      (fun j => if j ∈ bitList 16 c.mask then outShadow s j else outLive s j) s (valuesTaken c s) := by
    unfold valuesTaken
    split
    · exact houts.goLive hk _
    · exact houts
  exact ((htaken.loop fun n hn _ hw => hw.outEval (List.mem_range.1 hn)).commitAim c.k).synEval hk

theorem rd_committed {f : Fld} (hpend : fldKey SYN_STAT_COMMIT_PEND ≠ fldKey f) (hdone : fldKey (SYN_SYNk_EVT_COMMIT_DONE c.k) ≠ fldKey f) (s : State) :
    rd (committed c s) f = rd s f := by
  rw [committed, rd_put_ne _ _ hpend, rd_put_ne _ _ hdone, rd_withCommits]

/-- at its boundary a commit leaves the shadow values of a synthesiser -/
theorem synShadow_committed (hk : c.k < 4) (t : Nat) (s : State) : synShadow (committed c (advanceTo t s)) c.k = synShadow s c.k := by
  have hrd : ∀ f ∈ [SYN_SYNk_MULT_REFMODE c.k, SYN_SYNk_MULT_MINT c.k, SYN_SYNk_MFRAC_LO_MFRAC c.k, SYN_SYNk_MFRAC_HI_MFRAC c.k,
      SYN_SYNk_FRAME_LO_FRAME c.k, SYN_SYNk_FRAME_HI_FRAME c.k], rd (committed c (advanceTo t s)) f = rd s f := by
    intro f hf
    rw [rd_committed (by revert f; simp; omega) (by revert f; simp), rd_advanceTo]
  simp [synShadow, hrd]

/-- and those of an output -/
theorem outShadow_committed (c : CommitS) (n t : Nat) (s : State) : outShadow (committed c (advanceTo t s)) n = outShadow s n := by
  have hrd : ∀ f ∈ [SYN_OUTn_DIV_DIV n, SYN_OUTn_DIVX_HALF n, SYN_OUTn_DIVX_PRE n, SYN_OUTn_COARSE_COARSE n, SYN_OUTn_DIVX_COARSE n],
      rd (committed c (advanceTo t s)) f = rd s f := by
    intro f hf
    rw [rd_committed (by revert f; simp; omega) (by revert f; simp; omega), rd_advanceTo]
  simp [outShadow, hrd]

theorem mem_bitList_iff {j : Nat} (hj : j < 16) (w : Nat) : j ∈ bitList 16 w ↔ w.testBit j = true := by
  simp [bitList, hj]

theorem exec_commitBoundary (hc : nextCommit s = some c) (hl : c.l1 = false) : exec .commitBoundary s = done s (synEval c.k (commitAim c.k
    (forEach (List.range 16) outEval (valuesTaken c (committed c (advanceTo c.atT s)))))) := by
  change done s (commitBoundary s) = _
  rw [commitBoundary, hc]
  dsimp only
  rw [commitNow_eq hl]

theorem effects_commitBoundary (hc : nextCommit s = some c) (hk : c.k < 4) (hl : c.l1 = false) : Effects .commitBoundary s (fun v =>
    (ix v.syn c.k).live = (if c.mult then synShadow s c.k else (ix s.syn c.k).live)
    ∧ (∀ j < 16, outLive v j = if c.mask.testBit j then outShadow s j else outLive s j)
    ∧ rd v (SYN_SYNk_EVT_COMMIT_DONE c.k) = 1 ∧ rd v SYN_STAT_COMMIT_PEND = 0
    ∧ v.commit.map commitAsked = (s.commit.filter (fun x => x != c)).map commitAsked
    ∧ v.now = max s.now c.atT ∧ RegsOutside [(0x700000, 0x700800)] s v ∧ StoresSame s v) := by
  have h := works_commit hk (committed c (advanceTo c.atT s))
  have hkept : Kept s (committed c (advanceTo c.atT s)) := (within_withCommits (within_advanceTo c.atT [] s) _).kept.put _ _ |>.put _ _
  have hlive := h.live c.k
  refine ⟨_, exec_commitBoundary hc hl, ?_, fun j hj => ?_, ?_, ?_, ?_, ?_, fun f hf => ?_, (hkept.trans h.kept).storesSame⟩
  · rw [hlive, synShadow_committed hk]
    cases c.mult with
    | true => simp
    | false => simp [committed]
  · rw [outLive_eq, h.outs j, outShadow_committed]
    simp [mem_bitList_iff hj, outLive, committed]
  · rw [h.rd_eq, committed, rd_put_ne _ _ (by simp; omega)]
    simp
  · rw [h.rd_eq, committed]
    simp
  · rw [h.commits]
    simp [committed]
  · rw [h.now]
    exact advanceTo_now _ _
  · have hrange := hf _ List.mem_cons_self
    rw [h.rd_eq (f := f), rd_committed ?_ ?_, rd_advanceTo]
    all_goals simp; omega

end

/-! ### The obligation -/

/-- Settles O36: a start, a stop and a move each bring an output's own update before it is judged; a commit's work is followed through every output
and synthesiser it reaches, of which only going live changes live values. -/
theorem outputsStartStopMoveAndCommit : Obligations.OutputsStartStopMoveAndCommit := by
  unfold Obligations.OutputsStartStopMoveAndCommit
  intro dt n k c s hb hn hk
  dsimp only
  exact ⟨completes_outputStart hb hn hk, leads_outputStopDone hb hn, outBalls_held, outBalls_off, leads_outputMoveDone hb hn hk,
    effects_commitBoundary⟩

end Sys2Proof.Synthesis

/-! Time sets and jams (O37, O38): what the gap records of a time discontinuity do to the queues and the synthesisers, and a time set or jam as
its own three fields and the change of TKP on top of that. -/

namespace Sys2Proof.Clocks.Kept
open Sys2Proof.Machine

variable {s u : State}

theorem modMns (h : Kept s u) (f : MnsS → MnsS) : Kept s (modMns f u) := ⟨h.pending, h.mram, h.mramJ, h.cram, h.otp⟩

theorem modPtp (h : Kept s u) (f : PtpS → PtpS) : Kept s (modPtp f u) := ⟨h.pending, h.mram, h.mramJ, h.cram, h.otp⟩

theorem modCrl (h : Kept s u) (f : CrlS → CrlS) : Kept s (modCrl f u) := ⟨h.pending, h.mram, h.mramJ, h.cram, h.otp⟩

theorem modTkp (h : Kept s u) (f : TkpS → TkpS) : Kept s (modTkp f u) := ⟨h.pending, h.mram, h.mramJ, h.cram, h.otp⟩

theorem modGrp (h : Kept s u) (g : Nat) (f : RwsGroup → RwsGroup) : Kept s (modGrp g f u) := ⟨h.pending, h.mram, h.mramJ, h.cram, h.otp⟩

theorem modRst (h : Kept s u) (f : RstS → RstS) : Kept s (modRst f u) := ⟨h.pending, h.mram, h.mramJ, h.cram, h.otp⟩

theorem withTod (h : Kept s u) (t : Nat) : Kept s { u with tod := t } := ⟨h.pending, h.mram, h.mramJ, h.cram, h.otp⟩

end Sys2Proof.Clocks.Kept

namespace Sys2Proof.Timekeeping
open Sys2Proof.Machine Sys2Proof.Reg Sys2Proof.Safety Sys2Proof.Clocks Sys2Proof.Modes

/-! ### Address ranges -/

/-- the field lies in one of the ranges -/
def InSpans (l : List (Nat × Nat)) (f : Fld) : Prop := ∃ p ∈ l, 8 * p.1 ≤ fldKey f ∧ fldKey f < 8 * p.2

theorem regsOutside_self (l : List (Nat × Nat)) (s : State) : RegsOutside l s s := fun _ _ => rfl

theorem regsOutside_put {l : List (Nat × Nat)} {s u : State} (h : RegsOutside l s u) {f : Fld} (hf : InSpans l f) (v : Nat) :
    RegsOutside l s (put f v u) := by
  intro g hg
  obtain ⟨p, hp, hlo, hhi⟩ := hf
  have hne : fldKey f ≠ fldKey g := by
    have := hg p hp
    omega
  rw [rd_put_ne v u hne, h g hg]

/-! ### The gap records of a time discontinuity (R38, R41) -/

/-- the registers of the queues that take a gap record, and those of the four synthesisers -/
def stepSpans : List (Nat × Nat) :=
  [(0x500000, 0x500800), (0x700000, 0x700100), (0x900000, 0x900200), (0xC00000, 0xC01000), (0xD00000, 0xD00800)]

/-- u differs from s by queues, synthesisers and what their registers show; the faults raised join those before -/
structure Stepped (s u : State) : Prop where
  now : u.now = s.now
  tod : u.tod = s.tod
  tkp : u.tkp = s.tkp
  regs : RegsOutside stepSpans s u
  kept : Kept s u
  raised : s.flt.raised ⊆ u.flt.raised

theorem stepped_self (s : State) : Stepped s s := ⟨rfl, rfl, rfl, regsOutside_self _ s, ⟨rfl, rfl, rfl, rfl, rfl⟩, fun _ h => h⟩

namespace Stepped
variable {s u v : State}

theorem put (h : Stepped s u) {f : Fld} (hf : InSpans stepSpans f) (x : Nat) : Stepped s (put f x u) :=
  ⟨h.now, h.tod, h.tkp, regsOutside_put h.regs hf x, h.kept.put f x, h.raised⟩

theorem cycMark (h : Stepped s u) (f : Fld) (x : Nat) : Stepped s (cycMark f x u) := ⟨h.now, h.tod, h.tkp, h.regs, h.kept.cycMark f x, h.raised⟩

theorem raise (h : Stepped s u) (i : Nat) (j : Option Nat) : Stepped s (raise i j u) :=
  ⟨h.now, h.tod, h.tkp, h.regs, h.kept.raise i j, fun _ hx => List.mem_append_left _ (h.raised hx)⟩

theorem modUnit (h : Stepped s u) (b : Nat) (f : UnitS → UnitS) : Stepped s (modUnit b f u) := ⟨h.now, h.tod, h.tkp, h.regs, h.kept.modUnit b f, h.raised⟩

theorem modMns (h : Stepped s u) (f : MnsS → MnsS) : Stepped s (modMns f u) := ⟨h.now, h.tod, h.tkp, h.regs, h.kept.modMns f, h.raised⟩

theorem modPtp (h : Stepped s u) (f : PtpS → PtpS) : Stepped s (modPtp f u) := ⟨h.now, h.tod, h.tkp, h.regs, h.kept.modPtp f, h.raised⟩

theorem modCrl (h : Stepped s u) (f : CrlS → CrlS) : Stepped s (modCrl f u) := ⟨h.now, h.tod, h.tkp, h.regs, h.kept.modCrl f, h.raised⟩

theorem modSyn (h : Stepped s u) (k : Nat) (f : SynS → SynS) : Stepped s (modSyn k f u) := ⟨h.now, h.tod, h.tkp, h.regs, h.kept.modSyn k f, h.raised⟩

theorem ite {c : Prop} [Decidable c] (hu : Stepped s u) (hv : Stepped s v) : Stepped s (if c then u else v) := by
  split
  · exact hu
  · exact hv

theorem whenB {f : State → State} (h : Stepped s u) (hf : Stepped s (f u)) (c : Bool) : Stepped s (whenB c f u) := hf.ite h

theorem forEach {α : Type} {f : α → State → State} (l : List α) (hf : ∀ a ∈ l, ∀ w, Stepped s w → Stepped s (f a w)) (h : Stepped s u) :
    Stepped s (forEach l f u) := by
  induction l generalizing u with
  | nil => exact h
  | cons a r ih => exact ih (fun b hb => hf b (List.mem_cons_of_mem a hb)) (hf a List.mem_cons_self u h)

theorem putBit (h : Stepped s u) {f : Fld} (hf : InSpans stepSpans f) (i : Nat) : Stepped s (putBit f i u) := (h.put hf _).cycMark f _

/-- what a queue lost is counted, and its overflow raised (R153) -/
theorem countLost (h : Stepped s u) {lost ovf : Fld} (hl : InSpans stepSpans lost) (ho : InSpans stepSpans ovf) (src : Nat) (j : Option Nat)
    (n : Nat) (full : Bool) : Stepped s (countLost lost ovf src j n full u) :=
  have hc : Stepped s (Machine.put ovf 1 (bumpBy lost n u)) := ((h.put hl _).cycMark lost _).put ho 1
  h.ite ((hc.raise src j).ite hc)

/-! #### The queues of PMU -/

section
variable {b : Nat}

theorem sqTake (h : Stepped s u) (hb : b < 12) (r : Queue Postmark × Nat × Bool) : Stepped s (sqTake b r u) :=
  (h.modUnit b _).countLost (by simp [InSpans, stepSpans]; omega) (by simp [InSpans, stepSpans]; omega) _ _ _ _

theorem rqTake (h : Stepped s u) (hb : b < 12) (r : Queue ResultRec × Nat × Bool) : Stepped s (rqTake b r u) :=
  (h.modUnit b _).countLost (by simp [InSpans, stepSpans]; omega) (by simp [InSpans, stepSpans]; omega) _ _ _ _

theorem sqLevel (h : Stepped s u) (b : Nat) : Stepped s (sqLevel b u) := (h.putBit (by simp [InSpans, stepSpans]) b).ite h

theorem unitStep (h : Stepped s u) (hb : b < 12) (t : Nat) (d : Int) : Stepped s (unitStep b t d u) :=
  have hq := (h.sqTake hb (qStep stampKind (128 * unitSize u b) (cycleNow u) true (stampMove d) (mkStamp t 0x120 flGap) (ix u.unit b).sq)).rqTake hb _
  (hq.sqLevel b).ite hq

end

/-! #### The queues of MNS, PTP and CRL -/

theorem zqTake (h : Stepped s u) (r : Queue Postmark × Nat × Bool) : Stepped s (zqTake r u) :=
  (h.modMns _).countLost (by simp [InSpans, stepSpans]) (by simp [InSpans, stepSpans]) _ _ _ _

theorem zqLevel (h : Stepped s u) : Stepped s (zqLevel u) := (h.put (by simp [InSpans, stepSpans]) 1).ite h

theorem portTsTake (h : Stepped s u) {p : Nat} (hp : p < 6) (r : Queue Postmark × Nat × Bool) : Stepped s (portTsTake p r u) :=
  (h.modPtp _).countLost (by simp [InSpans, stepSpans]; omega) (by simp [InSpans, stepSpans]; omega) _ _ _ _

theorem linkTsTake (h : Stepped s u) {k : Nat} (hk : k < 4) (r : Queue Postmark × Nat × Bool) : Stepped s (linkTsTake k r u) :=
  (h.modCrl _).countLost (by simp [InSpans, stepSpans]; omega) (by simp [InSpans, stepSpans]; omega) _ _ _ _

theorem linkTsLevel (h : Stepped s u) (k : Nat) : Stepped s (linkTsLevel k u) := (h.put (by simp [InSpans, stepSpans]) 1).ite h

theorem stepAll (h : Stepped s u) (t : Nat) (d : Int) : Stepped s (stepAll t d u) := by
  have hunits := h.forEach (f := fun b w => Machine.unitStep b t d w) (unitsOf u) fun b hb w hw =>
    hw.unitStep (List.mem_range.1 (List.mem_filter.1 hb).1) t d
  have hzq (r : Queue Postmark × Nat × Bool) (c : Bool) := (hunits.zqTake r).whenB (hunits.zqTake r).zqLevel c
  exact ((hzq _ _).forEach (List.range 6) fun p hp w hw => hw.portTsTake (List.mem_range.1 hp) _).forEach (List.range 4) fun k hk w hw =>
    have hl := hw.linkTsTake (List.mem_range.1 hk) _
    hl.whenB (hl.linkTsLevel k) _

/-! #### The synthesisers a DPLL steers (R216) -/

theorem unalignSyn (h : Stepped s u) {k : Nat} (hk : k < 4) : Stepped s (unalignSyn k u) :=
  have hp : Stepped s (Machine.put (SYN_SYNk_STAT_PH_ALIGNED k) 0 u) := h.put (by simp [InSpans, stepSpans]; omega) 0
  (hp.ite (hp.modSyn k _)).ite hp

theorem unalign (h : Stepped s u) (d : Nat) : Stepped s (unalign d u) :=
  h.forEach _ fun _ hk _ hw => (hw.unalignSyn (List.mem_range.1 (List.mem_filter.1 hk).1)).ite hw

theorem rd_eq (h : Stepped s u) {f : Fld} (hf : ∀ p ∈ stepSpans, fldKey f < 8 * p.1 ∨ 8 * p.2 ≤ fldKey f) : rd u f = rd s f := h.regs f hf

end Stepped

/-! ### A time set or jam (R238, R240, R241) -/

/-- the labels of the time-of-day receivers move by the whole seconds of the jump -/
def labelsMoved (d : Int) (s : State) : State :=
  forEach (List.range 2) (fun k s => modTodr k (fun x => { x with lblDelta := x.lblDelta - roundDiv d ((secT : Nat) : Int) }) s) s

/-- TKP after a jump by d: what follows it waits, and the seconds test begins anew -/
def jumpedTkp (d : Int) (x : TkpS) : TkpS := { x with moved := some (x.moved.getD 0 + d), lastErr := 0, disCnt := 0, disVal := 0 }

/-- a jump of source src as STAT and EVT show it -/
def jumpShown (src : Nat) (s : State) : State := s |> put TKP_STAT_TIME_SET 1 |> put TKP_STAT_TIME_SRC src |> put TKP_EVT_SET 1

/-- the time of day moved by d -/
def todMoved (d : Int) (s : State) : State := { s with tod := ((s.tod : Int) + d).toNat }

theorem timeJump_eq (d : Int) (src : Nat) (s : State) : timeJump d src s =
    unalign (timeDpll (labelsMoved d (jumpShown src (todMoved d (stepAll (now16 s) (roundDiv d (t16T : Int)) s)))))
      (modTkp (jumpedTkp d) (labelsMoved d (jumpShown src (todMoved d (stepAll (now16 s) (roundDiv d (t16T : Int)) s))))) := (rfl)

/-- v is s after a jump by d of source src -/
structure Jumped (d : Int) (src : Nat) (s v : State) : Prop where
  now : v.now = s.now
  tod : v.tod = ((s.tod : Int) + d).toNat
  tkp : v.tkp = jumpedTkp d s.tkp
  regs : RegsOutside stepSpans (jumpShown src s) v
  kept : Kept s v
  raised : s.flt.raised ⊆ v.flt.raised

/-- a field after a put: what was put, cut to the width, where it has the same key -/
theorem rd_put_eq (f g : Fld) (v : Nat) (s : State) : rd (put f v s) g = if fldKey f = fldKey g then v % 2 ^ fldWidth f else rd s g := by
  split
  · rename_i h
    rw [← rd_put_same f v s, rd, rd, h]
  · rename_i h
    exact rd_put_ne v s h

theorem rd_jumpShown_congr {src : Nat} {s u : State} {f : Fld} (h : rd u f = rd s f) : rd (jumpShown src u) f = rd (jumpShown src s) f := by
  simp only [jumpShown, rd_put_eq, h]

theorem jumped_timeJump (d : Int) (src : Nat) (s : State) : Jumped d src s (timeJump d src s) := by
  have hq := (stepped_self s).stepAll (now16 s) (roundDiv d (t16T : Int))
  rw [timeJump_eq]
  generalize stepAll (now16 s) (roundDiv d (t16T : Int)) s = q at hq ⊢
  generalize timeDpll (labelsMoved d (jumpShown src (todMoved d q))) = k
  have hu := (stepped_self (modTkp (jumpedTkp d) (labelsMoved d (jumpShown src (todMoved d q))))).unalign k
  have hkept : Kept s (modTkp (jumpedTkp d) (labelsMoved d (jumpShown src (todMoved d q)))) :=
    (((((hq.kept.withTod _).put _ _).put _ _).put _ _).modTodr 0 _).modTodr 1 _ |>.modTkp _
  exact {
    now := hu.now.trans hq.now
    tod := hu.tod.trans (by rw [← hq.tod]; rfl)
    tkp := hu.tkp.trans (by rw [← hq.tkp]; rfl)
    regs := fun f hf => (hu.rd_eq hf).trans (rd_jumpShown_congr (u := todMoved d q) (hq.rd_eq hf))
    kept := hkept.trans hu.kept
    raised := fun x hx => hu.raised (hq.raised hx) }

namespace Jumped
variable {d : Int} {src : Nat} {s v : State}

theorem rd_eq (h : Jumped d src s v) {f : Fld} (hf : ∀ p ∈ stepSpans, fldKey f < 8 * p.1 ∨ 8 * p.2 ≤ fldKey f) :
    rd v f = rd (jumpShown src s) f := h.regs f hf

/-- STAT and EVT show the jump (R241) -/
theorem shows (h : Jumped d src s v) (hsrc : src < 4) :
    rd v TKP_STAT_TIME_SET = 1 ∧ rd v TKP_STAT_TIME_SRC = src ∧ rd v TKP_EVT_SET = 1 := by
  refine ⟨?_, ?_, ?_⟩
  all_goals rw [h.rd_eq (by simp [stepSpans])]; simp [jumpShown, rd_put_eq]
  omega

end Jumped

/-- the words that a time set or jam reaches: STAT and EVT of TKP beside those of its gap records -/
def jumpSpans : List (Nat × Nat) :=
  [(0x500000, 0x500800), (0x700000, 0x700100), (0x800004, 0x800008), (0x80000C, 0x800010), (0x900000, 0x900200), (0xC00000, 0xC01000),
    (0xD00000, 0xD00800)]

theorem regsOutside_trans {l : List (Nat × Nat)} {s u v : State} (h : RegsOutside l s u) (h' : RegsOutside l u v) : RegsOutside l s v :=
  fun f hf => (h' f hf).trans (h f hf)

theorem Jumped.regsOutside {d : Int} {src : Nat} {s v : State} (h : Jumped d src s v) : RegsOutside jumpSpans s v := by
  have hshown : RegsOutside jumpSpans s (jumpShown src s) :=
    regsOutside_put (regsOutside_put (regsOutside_put (regsOutside_self _ s) (by simp [InSpans, jumpSpans]) _) (by simp [InSpans, jumpSpans]) _)
      (by simp [InSpans, jumpSpans]) _
  refine regsOutside_trans hshown fun f hf => h.regs f fun p hp => hf p ?_
  simp only [stepSpans, jumpSpans, List.mem_cons] at hp ⊢
  tauto

end Sys2Proof.Timekeeping

/-! The commands of TKP.CTL (O37, O38): SNAP, SET, SET_SEC, LEAP_CANCEL and RTC_SYNC each reach TKP alone, or the write is refused. -/

namespace Sys2Proof.Modes.Within
open Sys2Proof.Machine

variable {dt : Nat} {l : List Fld} {s u : State}

/-- a change of TKP that leaves no jump and no leap to follow -/
theorem modTkp (h : Within dt l s u) {f : TkpS → TkpS} (hm : ∀ x, (f x).moved = x.moved := by intro; rfl)
    (hl : ∀ x, (f x).leapt = x.leapt := by intro; rfl) : Within dt l s (modTkp f u) :=
  ⟨h.now, h.regs, h.kept.modTkp f, (by simp [calm, hm, hl] : calm (Machine.modTkp f u) = calm u).trans h.quiet⟩

end Sys2Proof.Modes.Within

namespace Sys2Proof.Timekeeping
open Sys2Proof.Machine Sys2Proof.Reg Sys2Proof.Safety Sys2Proof.Clocks Sys2Proof.Modes Sys2Proof.ConfigImage

/-! ### A write of TKP.CTL (R256) -/

theorem plainWord_tkpCtl : PlainWord 0x800008 := by decide +kernel

/-- the bits of TKP.CTL are written only, and none is stored -/
theorem fieldsAt_tkpCtl : fieldsAt 0x800008 =
    [(TKP_CTL_RTC_SYNC, 3), (TKP_CTL_LEAP_CANCEL, 3), (TKP_CTL_SET_SEC, 3), (TKP_CTL_SET, 3), (TKP_CTL_SNAP, 3)] := by decide +kernel

/-- a word written whole to TKP.CTL -/
def tkpWord (v : Nat) : WordW := { addr := 0x800008, be := 15, data := v % 2 ^ 32 }

/-- the state in which a write of TKP.CTL issued dt after s acts -/
abbrev atTkp (dt : Nat) (s : State) : State := Issued 0x800008 dt s

theorem storeWord_tkpCtl (be v : Nat) (s : State) : storeWord 0x800008 be v s = s := by
  simp only [storeWord, fieldsAt_tkpCtl, forEach_cons]
  rfl

theorem wBit_tkpWord {i : Nat} (hi : i < 32) (v : Nat) : wBit (tkpWord v) i = bitAt v i := by
  have hm : beMask 15 = 2 ^ 32 - 1 := by decide
  simp [wBit, tkpWord, bitAt, hm, Nat.testBit_mod_two_pow, Nat.testBit_two_pow_sub_one, hi, -Nat.reducePow, -Nat.reduceSub]

/-- SET and SET_SEC together are refused, and either of them while the time DPLL tracks a slot that carries time (R241) -/
theorem tkpRefuses_tkpCtl (v : Nat) (s : State) :
    tkpRefuses s (tkpWord v) = ((bitAt v 1 && bitAt v 2) || ((bitAt v 1 || bitAt v 2) && timeHeld s)) := by
  have ho : wOff (tkpWord v) = 8 := by simp [wOff, tkpWord]
  simp [tkpRefuses, ho, wBit_tkpWord]

theorem tkpCtl_tkpWord (v : Nat) (s : State) : tkpCtl (tkpWord v) s =
    whenB (bitAt v 4) rtcSyncAsk (whenB (bitAt v 3) leapCancel (whenB (bitAt v 2) tkpSetSec (whenB (bitAt v 1) tkpSet
      (whenB (bitAt v 0) snapTime s)))) := by
  simp [tkpCtl, wBit_tkpWord]

theorem blockOf_tkpCtl : blockOf 0x800008 = 8 := by decide

theorem blockRefuses_tkpCtl (v : Nat) (s : State) : blockRefuses s (tkpWord v) = tkpRefuses s (tkpWord v) := by
  simp only [blockRefuses, tkpWord, blockOf_tkpCtl]

theorem blockWritten_tkpCtl (v : Nat) (old s : State) : blockWritten (tkpWord v) old s = tkpCtl (tkpWord v) s := by
  simp [blockWritten, tkpWritten, tkpWord, wOff, blockOf_tkpCtl]

section
variable {dt : Nat} {s : State}

theorem tkpCtlWrite_eq (ho : Open s 0x800008) (v : Nat) : tkpCtlWrite v (pass dt s) = regWrite (tkpWord v) (atTkp dt s) := by
  obtain ⟨h4, h24, hword, hal, hrow, -⟩ := plainWord_tkpCtl
  obtain ⟨r, hr⟩ := Option.isSome_iff_exists.1 hrow
  have hgrp : rwsGroupOf 0x800008 = none := by simp [rwsGroupOf, fieldsAt_tkpCtl]
  exact writeReg_block ho h4 hword hal hr hgrp rfl h24 (by decide)

/-- a bit of TKP.CTL written on an open host port reaches TKP, unless it is refused -/
theorem tkpCtlWrite_taken (ho : Open s 0x800008) {v : Nat} (hno : tkpRefuses (atTkp dt s) (tkpWord v) = false) :
    tkpCtlWrite v (pass dt s) = tkpCtl (tkpWord v) (atTkp dt s) := by
  rw [tkpCtlWrite_eq ho]
  refine (regWrite_taken (w := tkpWord v) rfl ((blockRefuses_tkpCtl v _).trans hno)).trans ?_
  exact (blockWritten_tkpCtl v _ _).trans (congrArg _ (storeWord_tkpCtl 15 (v % 2 ^ 32) _))

theorem tkpCtlWrite_refused (ho : Open s 0x800008) {v : Nat} (hno : tkpRefuses (atTkp dt s) (tkpWord v) = true) :
    tkpCtlWrite v (pass dt s) = refuse (atTkp dt s) := by
  rw [tkpCtlWrite_eq ho, regWrite, if_neg (by simp [testBusy, tkpWord]), blockRefuses_tkpCtl, if_pos hno]

theorem timeHeld_atTkp : timeHeld (atTkp dt s) = timeHeld s := by
  simp [timeHeld, dpllState, timeDpll, actSlot, carriesTime, recvOf, on]

theorem exec_snapCmd (ho : Open s 0x800008) : exec (.snapCmd dt) s = done s (snapTime (atTkp dt s)) := by
  change done s (tkpCtlWrite 1 (pass dt s)) = _
  rw [tkpCtlWrite_taken ho (by rw [tkpRefuses_tkpCtl]; rfl), tkpCtl_tkpWord]
  rfl

theorem exec_setCmd (ho : Open s 0x800008) (h : timeHeld s = false) : exec (.setCmd dt) s = done s (tkpSet (atTkp dt s)) := by
  change done s (tkpCtlWrite 2 (pass dt s)) = _
  rw [tkpCtlWrite_taken ho (by rw [tkpRefuses_tkpCtl, timeHeld_atTkp, h]; rfl), tkpCtl_tkpWord]
  rfl

theorem exec_setCmd_refused (ho : Open s 0x800008) (h : timeHeld s = true) : exec (.setCmd dt) s = done s (refuse (atTkp dt s)) := by
  change done s (tkpCtlWrite 2 (pass dt s)) = _
  rw [tkpCtlWrite_refused ho (by rw [tkpRefuses_tkpCtl, timeHeld_atTkp, h]; rfl)]

theorem exec_setSec (ho : Open s 0x800008) (h : timeHeld s = false) : exec (.setSec dt) s = done s (tkpSetSec (atTkp dt s)) := by
  change done s (tkpCtlWrite 4 (pass dt s)) = _
  rw [tkpCtlWrite_taken ho (by rw [tkpRefuses_tkpCtl, timeHeld_atTkp, h]; rfl), tkpCtl_tkpWord]
  rfl

theorem exec_leapCancel (ho : Open s 0x800008) : exec (.leapCancel dt) s = done s (leapCancel (atTkp dt s)) := by
  change done s (tkpCtlWrite 8 (pass dt s)) = _
  rw [tkpCtlWrite_taken ho (by rw [tkpRefuses_tkpCtl]; rfl), tkpCtl_tkpWord]
  rfl

theorem exec_rtcSync (ho : Open s 0x800008) : exec (.rtcSync dt) s = done s (rtcSyncAsk (atTkp dt s)) := by
  change done s (tkpCtlWrite 16 (pass dt s)) = _
  rw [tkpCtlWrite_taken ho (by rw [tkpRefuses_tkpCtl]; rfl), tkpCtl_tkpWord]
  rfl

end

/-! ### SNAP (R237) -/

/-- the registers that SNAP latches -/
def snapFields : List Fld :=
  [TKP_SNAP_FRAC_FRAC, TKP_SNAP_NS_NS, TKP_SNAP_SEC_LO_SEC, TKP_SNAP_SEC_HI_SEC, TKP_SNAP_UTC_DATE_YEAR, TKP_SNAP_UTC_DATE_MONTH,
    TKP_SNAP_UTC_DATE_DAY, TKP_SNAP_UTC_TIME_WDAY, TKP_SNAP_UTC_TIME_HOUR, TKP_SNAP_UTC_TIME_MIN, TKP_SNAP_UTC_TIME_SEC, TKP_SNAP_LOC_DATE_YEAR,
    TKP_SNAP_LOC_DATE_MONTH, TKP_SNAP_LOC_DATE_DAY, TKP_SNAP_LOC_TIME_WDAY, TKP_SNAP_LOC_TIME_HOUR, TKP_SNAP_LOC_TIME_MIN, TKP_SNAP_LOC_TIME_SEC]

theorem within_putDate {dt : Nat} {l : List Fld} {s u : State} (h : Within dt l s u) {y m d : Fld} (hl : ∀ f ∈ [y, m, d], f ∈ l) (x : DateTime) :
    Within dt l s (putDate y m d x u) :=
  ((h.put (hl y (by simp)) _).put (hl m (by simp)) _).put (hl d (by simp)) _

theorem within_putTime {dt : Nat} {l : List Fld} {s u : State} (h : Within dt l s u) {w h' m c : Fld} (hl : ∀ f ∈ [w, h', m, c], f ∈ l) (x : DateTime) :
    Within dt l s (putTime w h' m c x u) :=
  (((h.put (hl w (by simp)) _).put (hl h' (by simp)) _).put (hl m (by simp)) _).put (hl c (by simp)) _

theorem within_snapTime {dt : Nat} {s u : State} (h : Within dt snapFields s u) : Within dt snapFields s (snapTime u) :=
  within_putTime (within_putDate (within_putTime (within_putDate ((((h.put (by simp [snapFields]) _).put (by simp [snapFields]) _).put
    (by simp [snapFields]) _).put (by simp [snapFields]) _) (by simp [snapFields]) _) (by simp [snapFields]) _) (by simp [snapFields]) _)
    (by simp [snapFields]) _

/-- the views of a second read registers and TKP alone -/
theorem leapShown_congr {s u : State} (hr : rd u = rd s) (ht : u.tkp = s.tkp) : leapShown u = leapShown s := by
  unfold leapShown on
  rw [hr, ht]

theorem utcView_congr {s u : State} (hr : rd u = rd s) (ht : u.tkp = s.tkp) : utcView u = utcView s := by
  unfold utcView utcCount deltaAT
  rw [leapShown_congr hr ht, hr]

theorem civErr_congr {s u : State} (hr : rd u = rd s) : civErr u = civErr s := by
  unfold civErr rdS on
  rw [hr]

theorem civilOffset_congr {s u : State} (hr : rd u = rd s) : civilOffset u = civilOffset s := by
  unfold civilOffset rdS on
  rw [civErr_congr hr, hr]

theorem civilView_congr {s u : State} (hr : rd u = rd s) (ht : u.tkp = s.tkp) : civilView u = civilView s := by
  unfold civilView utcCount deltaAT
  rw [leapShown_congr hr ht, civilOffset_congr hr, hr]

theorem snapOf_atTkp (dt : Nat) (s : State) : snapOf (atTkp dt s) = snapOf (pass dt s) := (rfl)

/-- the date and time fields take a date and time cut to their widths -/
structure DateShown (v : State) (year month day hour min sec : Fld) (x : DateTime) : Prop where
  year : rd v year = x.year % 65536
  month : rd v month = x.month % 256
  day : rd v day = x.day % 256
  hour : rd v hour = x.hour % 256
  min : rd v min = x.min % 256
  sec : rd v sec = x.sec % 256

theorem snapTime_utc (s : State) : DateShown (snapTime s) TKP_SNAP_UTC_DATE_YEAR TKP_SNAP_UTC_DATE_MONTH TKP_SNAP_UTC_DATE_DAY
    TKP_SNAP_UTC_TIME_HOUR TKP_SNAP_UTC_TIME_MIN TKP_SNAP_UTC_TIME_SEC (utcView s (secOf16 (snapOf s))) := by
  constructor <;> simp [snapTime, putDate, putTime, rd_put_eq]

theorem snapTime_loc (s : State) : DateShown (snapTime s) TKP_SNAP_LOC_DATE_YEAR TKP_SNAP_LOC_DATE_MONTH TKP_SNAP_LOC_DATE_DAY
    TKP_SNAP_LOC_TIME_HOUR TKP_SNAP_LOC_TIME_MIN TKP_SNAP_LOC_TIME_SEC (civilView s (secOf16 (snapOf s))) := by
  constructor <;> simp [snapTime, putDate, putTime, rd_put_eq]

theorem snapTime_time (s : State) : rd (snapTime s) TKP_SNAP_FRAC_FRAC = fracOf16 (snapOf s) ∧ rd (snapTime s) TKP_SNAP_NS_NS = nsOf16 (snapOf s)
    ∧ rd (snapTime s) TKP_SNAP_SEC_LO_SEC = secOf16 (snapOf s) % 2 ^ 32 ∧ rd (snapTime s) TKP_SNAP_SEC_HI_SEC = secOf16 (snapOf s) / 2 ^ 32 % 2 ^ 16 := by
  have hfrac : fracOf16 (snapOf s) < 2 ^ 16 := Nat.mod_lt _ (by decide)
  have hns : nsOf16 (snapOf s) < 1000000000 := Nat.mod_lt _ (by decide)
  simp [snapTime, putDate, putTime, rd_put_eq]
  omega

end Sys2Proof.Timekeeping

/-! The time of day read and set (O37). -/

namespace Sys2Proof.Timekeeping
open Sys2Proof.Machine Sys2Proof.Reg Sys2Proof.Safety Sys2Proof.Clocks Sys2Proof.Modes Sys2Proof.ConfigImage

section
variable {dt : Nat} {s : State}

theorem rd_atTkp (dt : Nat) (s : State) : rd (atTkp dt s) = rd s := funext fun _ => rd_issued _ _ _ _

theorem atTkp_tod (dt : Nat) (s : State) : (atTkp dt s).tod = (pass dt s).tod := (rfl)

theorem tsetSec_congr {s u : State} (hr : rd u = rd s) : tsetSec u = tsetSec s := by
  unfold tsetSec
  rw [hr]

/-! ### SNAP (R237) -/

theorem snapTime_tod (s : State) : (snapTime s).tod = s.tod := by
  simp [snapTime, putDate, putTime]

theorem completes_snapCmd (hb : Between s) (ho : Open s 0x800008) : Completes (.snapCmd dt) s (fun v =>
    (rd v TKP_SNAP_FRAC_FRAC = fracOf16 (snapOf (pass dt s)) ∧ rd v TKP_SNAP_NS_NS = nsOf16 (snapOf (pass dt s))
      ∧ rd v TKP_SNAP_SEC_LO_SEC = secOf16 (snapOf (pass dt s)) % 2 ^ 32 ∧ rd v TKP_SNAP_SEC_HI_SEC = secOf16 (snapOf (pass dt s)) / 2 ^ 32 % 2 ^ 16)
    ∧ DateShown v TKP_SNAP_UTC_DATE_YEAR TKP_SNAP_UTC_DATE_MONTH TKP_SNAP_UTC_DATE_DAY TKP_SNAP_UTC_TIME_HOUR TKP_SNAP_UTC_TIME_MIN
      TKP_SNAP_UTC_TIME_SEC (utcView s (secOf16 (snapOf (pass dt s))))
    ∧ DateShown v TKP_SNAP_LOC_DATE_YEAR TKP_SNAP_LOC_DATE_MONTH TKP_SNAP_LOC_DATE_DAY TKP_SNAP_LOC_TIME_HOUR TKP_SNAP_LOC_TIME_MIN
      TKP_SNAP_LOC_TIME_SEC (civilView s (secOf16 (snapOf (pass dt s))))
    ∧ v.tod = (pass dt s).tod ∧ v.now = s.now + dt ∧ RegsBut snapFields s v ∧ StoresSame s v) := by
  have hw := within_snapTime (within_issued 0x800008 dt snapFields s)
  have htime := snapTime_time (atTkp dt s)
  have hutc := snapTime_utc (atTkp dt s)
  have hloc := snapTime_loc (atTkp dt s)
  rw [snapOf_atTkp] at htime
  rw [snapOf_atTkp, utcView_congr (rd_atTkp dt s) (issued_tkp _ _ _)] at hutc
  rw [snapOf_atTkp, civilView_congr (rd_atTkp dt s) (issued_tkp _ _ _)] at hloc
  exact hw.completes (exec_snapCmd ho) hb ⟨htime, hutc, hloc, (snapTime_tod _).trans (atTkp_tod dt s), hw.now, hw.regs, hw.storesSame⟩

/-! ### SET (R241) -/

/-- the time of day that the TSET registers name -/
def tsetTod (s : State) : Nat := tsetSec s * secT + rd s TKP_TSET_NS_NS * nsT

theorem tkpSet_eq (s : State) : tkpSet s =
    timeJump ((tsetTod s : Int) - ((advanceTo (nextCycle s.now) s).tod : Int)) 2 (advanceTo (nextCycle s.now) s) := by
  unfold tkpSet tsetTod nextCycle cycleNow
  rfl

theorem todSet (a b : Nat) : ((b : Int) + ((a : Int) - b)).toNat = a := by omega

/-- a set or jam begun in u, which stands in for s, within the ranges it reaches -/
theorem Jumped.regsOutside_of_rd {d : Int} {src : Nat} {s u v : State} (h : Jumped d src u v) (hr : ∀ f, rd u f = rd s f) :
    RegsOutside jumpSpans s v :=
  regsOutside_trans (fun f _ => hr f) h.regsOutside

theorem effects_setCmd (ho : Open s 0x800008) (h : timeHeld s = false) : Effects (.setCmd dt) s (fun v =>
    v.tod = tsetSec s * secT + rd s TKP_TSET_NS_NS * nsT ∧ rd v TKP_STAT_TIME_SET = 1 ∧ rd v TKP_STAT_TIME_SRC = 2 ∧ rd v TKP_EVT_SET = 1
      ∧ v.now = (cycleNow (pass dt s) + 1) * cycU ∧ RegsOutside jumpSpans s v ∧ StoresSame s v) := by
  have hj := jumped_timeJump ((tsetTod (atTkp dt s) : Int) - ((advanceTo (nextCycle (atTkp dt s).now) (atTkp dt s)).tod : Int)) 2
    (advanceTo (nextCycle (atTkp dt s).now) (atTkp dt s))
  rw [← tkpSet_eq] at hj
  obtain ⟨hset, hsrc, hevt⟩ := hj.shows (by decide)
  have hkept : Kept s (advanceTo (nextCycle (atTkp dt s).now) (atTkp dt s)) :=
    (within_issued 0x800008 dt [] s).kept.trans (kept_advanceTo _ _)
  refine ⟨_, exec_setCmd ho h, ?_, hset, hsrc, hevt, ?_, hj.regsOutside_of_rd (by simp), (hkept.trans hj.kept).storesSame⟩
  · rw [hj.tod, todSet, tsetTod, tsetSec_congr (rd_atTkp dt s), rd_atTkp]
  · rw [hj.now, advanceTo_now, max_nextCycle]
    simp [nextCycle, cycleNow]

theorem haf_tod (cause addr : Nat) (s : State) : (haf cause addr s).tod = s.tod := by
  unfold haf
  dsimp only
  split <;> simp

theorem effects_setCmd_refused (hb : Between s) (ho : Open s 0x800008) (h : timeHeld s = true) : Effects (.setCmd dt) s (fun v =>
    v.tod = (pass dt s).tod ∧ v.flt.raised = [(0, none)] ∧ v.now = s.now + dt ∧ RegsBut hafRegs s v ∧ StoresSame s v) := by
  have hr := refused_of_within (within_issued 0x800008 dt hafRegs s) mem_hafRegs hb
  exact ⟨_, exec_setCmd_refused ho h, haf_tod _ _ _, hr.raised, hr.now, hr.regs, hr.stores⟩

/-! ### SET_SEC (R241) -/

theorem completes_setSec (hb : Between s) (ho : Open s 0x800008) (h : timeHeld s = false) : Completes (.setSec dt) s (fun v =>
    v.tkp = { s.tkp with setSec := some (tsetSec s, ceilDiv ((pass dt s).tod + 1000 * nsT) secT) }
      ∧ v.tod = (pass dt s).tod ∧ v.now = s.now + dt ∧ RegsBut [] s v ∧ StoresSame s v) := by
  have hw := (within_issued 0x800008 dt [] s).modTkp
    (f := fun t => { t with setSec := some (tsetSec (atTkp dt s), ceilDiv ((atTkp dt s).tod + 1000 * nsT) secT) })
  refine hw.completes (exec_setSec ho h) hb ⟨?_, rfl, hw.now, hw.regs, hw.storesSame⟩
  rw [modTkp_tkp, issued_tkp, tsetSec_congr (rd_atTkp dt s), atTkp_tod]

/-- the state of the whole second at which a waiting SET_SEC loads, with nothing waiting any more -/
def secDue (at_ : Nat) (s : State) : State := modTkp (fun t => { t with setSec := none }) (advanceTo (whenTod s (at_ * secT)) s)

theorem setSecLoad_waiting {sec at_ : Nat} (h : s.tkp.setSec = some (sec, at_)) :
    setSecLoad s = timeJump (((sec * secT : Nat) : Int) - (secDue at_ s).tod) 2 (secDue at_ s) := by
  simp only [setSecLoad, h, secDue]

theorem exec_setSecLoad (s : State) : exec .setSecLoad s = done s (setSecLoad s) := (rfl)

theorem effects_setSecLoad {sec at_ : Nat} (h : s.tkp.setSec = some (sec, at_)) : Effects .setSecLoad s (fun v =>
    v.tod = sec * secT ∧ v.tkp.setSec = none ∧ rd v TKP_STAT_TIME_SET = 1 ∧ rd v TKP_STAT_TIME_SRC = 2 ∧ rd v TKP_EVT_SET = 1
      ∧ v.now = max s.now (whenTod s (at_ * secT)) ∧ RegsOutside jumpSpans s v ∧ StoresSame s v) := by
  have hj := jumped_timeJump (((sec * secT : Nat) : Int) - (secDue at_ s).tod) 2 (secDue at_ s)
  rw [← setSecLoad_waiting h] at hj
  obtain ⟨hset, hsrc, hevt⟩ := hj.shows (by decide)
  have hkept : Kept s (secDue at_ s) := (kept_advanceTo _ s).modTkp _
  refine ⟨_, exec_setSecLoad s, ?_, ?_, hset, hsrc, hevt, ?_, hj.regsOutside_of_rd (by simp [secDue]), (hkept.trans hj.kept).storesSame⟩
  · rw [hj.tod, todSet]
  · simp [hj.tkp, jumpedTkp, secDue]
  · rw [hj.now, secDue, modTkp_now, advanceTo_now]

/-! ### RTC_SYNC (R255) -/

theorem completes_rtcSync (hb : Between s) (ho : Open s 0x800008) : Completes (.rtcSync dt) s (fun v =>
    v.tkp = { s.tkp with rtcSync := some (todSec (pass dt s) + 1) } ∧ v.tod = (pass dt s).tod ∧ v.now = s.now + dt ∧ RegsBut [] s v
      ∧ StoresSame s v) := by
  have hw := (within_issued 0x800008 dt [] s).modTkp (f := fun t => { t with rtcSync := some (todSec (atTkp dt s) + 1) })
  refine hw.completes (exec_rtcSync ho) hb ⟨?_, rfl, hw.now, hw.regs, hw.storesSame⟩
  rw [modTkp_tkp, issued_tkp]
  rfl

end

/-! ### The obligation -/

/-- Settles O37: a write of TKP.CTL reaches TKP alone; SNAP by the chain of its fields, SET and the load of SET_SEC by what a jump leaves
alone and the three fields it shows. -/
theorem timeOfDayIsReadAndSet : Obligations.TimeOfDayIsReadAndSet := by
  unfold Obligations.TimeOfDayIsReadAndSet
  intro dt s hb ho
  refine ⟨?_, effects_setCmd ho, effects_setCmd_refused hb ho, completes_setSec hb ho, fun sec at_ => effects_setSecLoad, completes_rtcSync hb ho⟩
  refine completes_mono (completes_snapCmd hb ho) fun v ⟨⟨hfrac, hns, hlo, hhi⟩, hu, hl, hrest⟩ => ?_
  exact ⟨hfrac, hns, hlo, hhi, hu.year, hu.month, hu.day, hu.hour, hu.min, hu.sec, hl.year, hl.month, hl.day, hl.hour, hl.min, hl.sec, hrest⟩

end Sys2Proof.Timekeeping

/-! The 1PPS, the seconds test, leap seconds and the civil offset (O38), command by command. -/

namespace Sys2Proof.Timekeeping
open Sys2Proof.Machine Sys2Proof.Reg Sys2Proof.Safety Sys2Proof.Clocks Sys2Proof.Modes Sys2Proof.ReferenceSelection

section
variable {dt : Nat} {s u : State}

/-! ### 1PPS (R248) -/

/-- the instant of the 1PPS: the next whole second, or now where another command has just passed one -/
def ppsReached (s : State) : State := if todSec s = s.tkp.secAt then advanceTo (whenTod s ((todSec s + 1) * secT)) s else s

/-- the event of the 1PPS, and the second it began -/
def ppsMarked (s : State) : State := put TKP_EVT_PPS 1 (modTkp (fun t => { t with ppsSec := todSec s, secAt := todSec s }) s)

/-- what a reset held back begins with the first whole second after the image (R261) -/
def heldBegins (s : State) : State :=
  modTkp (fun t => { t with txHold := t.txHold && !s.img.applied, irigFrom := if t.txHold && s.img.applied then s.now else t.irigFrom }) s

/-- the messages held over the image are dropped -/
def heldDropped (s : State) : State := modTkp (fun t => { t with held := Vector.replicate 3 none }) s

theorem rtcSyncNow_none (h : s.tkp.rtcSync = none) : rtcSyncNow s = s := by
  simp only [rtcSyncNow, h]

/-- u is s at its 1PPS, with other changes of TKP that leave the event and the second as they are -/
structure SecondBegun (s u : State) : Prop where
  within : Within ((ppsReached s).now - s.now) [TKP_EVT_PPS] s u
  evt : rd u TKP_EVT_PPS = 1
  ppsSec : u.tkp.ppsSec = todSec u
  secAt : u.tkp.secAt = todSec u
  rtcSync : u.tkp.rtcSync = s.tkp.rtcSync

namespace SecondBegun

theorem modTkp (h : SecondBegun s u) {f : TkpS → TkpS} (hm : ∀ x, (f x).moved = x.moved := by intro; rfl)
    (hl : ∀ x, (f x).leapt = x.leapt := by intro; rfl) (hp : ∀ x, (f x).ppsSec = x.ppsSec := by intro; rfl)
    (hs : ∀ x, (f x).secAt = x.secAt := by intro; rfl) (hr : ∀ x, (f x).rtcSync = x.rtcSync := by intro; rfl) :
    SecondBegun s (modTkp f u) :=
  ⟨h.within.modTkp hm hl, h.evt, (hp _).trans h.ppsSec, (hs _).trans h.secAt, (hr _).trans h.rtcSync⟩

theorem ite {v : State} {c : Prop} [Decidable c] (hu : SecondBegun s u) (hv : SecondBegun s v) : SecondBegun s (if c then u else v) := by
  split
  · exact hu
  · exact hv

end SecondBegun

theorem ppsReached_now (s : State) :
    (ppsReached s).now = if todSec s = s.tkp.secAt then max s.now (whenTod s ((todSec s + 1) * secT)) else s.now := by
  unfold ppsReached
  split
  · exact advanceTo_now _ _
  · rfl

theorem ppsReached_tkp (s : State) : (ppsReached s).tkp = s.tkp := by
  unfold ppsReached
  split
  · exact advanceTo_tkp _ _
  · rfl

theorem within_ppsReached (l : List Fld) (s : State) : Within ((ppsReached s).now - s.now) l s (ppsReached s) := by
  unfold ppsReached
  split
  · rw [advanceTo_now, show ∀ a b : Nat, max a b - a = b - a from fun a b => by omega]
    exact within_advanceTo _ l s
  · rw [Nat.sub_self]
    exact within_self l s

theorem secondBegun_marked (s : State) : SecondBegun s (ppsMarked (ppsReached s)) :=
  ⟨((within_ppsReached _ s).modTkp).put (by simp) 1, by simp [ppsMarked], by simp [ppsMarked, todSec], by simp [ppsMarked, todSec],
    by simp [ppsMarked, ppsReached_tkp]⟩

theorem ppsTick_eq (hrun : s.tkp.run = true) : ppsTick s =
    (let h := heldBegins (ppsMarked (ppsReached s))
    let w := rtcSyncNow (if (ppsMarked (ppsReached s)).img.applied then heldDropped h else h)
    if w.img.applied && live w 8 then irigSend w else w) := by
  simp only [ppsTick, hrun]
  rfl

theorem secondBegun_ppsTick (hrun : s.tkp.run = true) (hsync : s.tkp.rtcSync = none) : SecondBegun s (ppsTick s) := by
  have hbegins : SecondBegun s (heldBegins (ppsMarked (ppsReached s))) := (secondBegun_marked s).modTkp
  have hdropped : SecondBegun s (heldDropped (heldBegins (ppsMarked (ppsReached s)))) := hbegins.modTkp
  have hheld := hdropped.ite (c := (ppsMarked (ppsReached s)).img.applied = true) hbegins
  rw [ppsTick_eq hrun]
  dsimp only
  rw [rtcSyncNow_none (hheld.rtcSync.trans hsync)]
  exact hheld.modTkp.ite hheld

theorem completes_pps (hb : Between s) (hrun : s.tkp.run = true) (hsync : s.tkp.rtcSync = none) : Completes .pps s (fun t => rd t TKP_EVT_PPS = 1
    ∧ t.tkp.ppsSec = todSec t ∧ t.tkp.secAt = todSec t
    ∧ t.now = (if todSec s = s.tkp.secAt then max s.now (whenTod s ((todSec s + 1) * secT)) else s.now) ∧ RegsBut [TKP_EVT_PPS] s t
    ∧ StoresSame s t) := by
  have h := secondBegun_ppsTick hrun hsync
  have hle : s.now ≤ (ppsReached s).now := by
    rw [ppsReached_now]
    split
    · exact Nat.le_max_left _ _
    · exact Nat.le_refl _
  refine h.within.completes rfl hb ⟨h.evt, h.ppsSec, h.secAt, ?_, h.within.regs, h.within.storesSame⟩
  rw [h.within.now, Nat.add_sub_cancel' hle, ppsReached_now]

/-! ### The seconds test (R239) -/

/-- the count of the seconds test ends -/
def secondsEnded (s : State) : State := put TKP_STAT_SEC_DIS 0 (modTkp (fun t => { t with disCnt := 0, disVal := 0 }) s)

/-- n samples in a row disagree by e -/
def secondsCounted (n : Nat) (e : Int) (s : State) : State :=
  put TKP_STAT_SEC_DIS 1 (modTkp (fun t => { t with disCnt := n, disVal := e }) s)

/-- the disagreement of the seconds is reported and its count ends -/
def secondsReported (s : State) : State := secondsEnded (raise 37 none (put TKP_EVT_SECDIS 1 s))

/-- the samples in a row that disagree by as much as the last one, this one with them -/
def secondsRow (s : State) : Nat := if s.tkp.disVal = s.tkp.lastErr then s.tkp.disCnt + 1 else 1

theorem secondsCheck_none (h : tracksTime s = false ∨ s.tkp.lastErr = 0) : secondsCheck s = secondsEnded s := by
  unfold secondsCheck
  exact if_pos (by simpa using h)

theorem secondsCheck_off (ht : tracksTime s = true) (he : s.tkp.lastErr ≠ 0) : secondsCheck s =
    if secondsRow s < max 1 (rd s TKP_CFG_SEC_CONF) then secondsCounted (secondsRow s) s.tkp.lastErr s
    else timeJump (s.tkp.lastErr * (secT : Int)) 3 (secondsReported s) := by
  unfold secondsCheck
  rw [orElse0_one]
  exact if_neg (by simpa using And.intro ht he)

theorem tracksTime_pass (dt : Nat) (s : State) : tracksTime (pass dt s) = tracksTime s := by
  simp [tracksTime, actAlive, carriesTime, recvOf, actSlot, on]

theorem exec_secondsCheck (hiso : isolated s 8 = false) (hlive : live s 8 = true) :
    exec (.secondsCheck dt) s = done s (secondsCheck (pass dt s)) := by
  change done s (whenB (!isolated s 8 && live s 8) secondsCheck (pass dt s)) = _
  rw [hiso, hlive]
  rfl

theorem completes_secondsEnded (hb : Between s) (hiso : isolated s 8 = false) (hlive : live s 8 = true)
    (h : tracksTime s = false ∨ s.tkp.lastErr = 0) : Completes (.secondsCheck dt) s (fun t => rd t TKP_STAT_SEC_DIS = 0 ∧ t.tkp.disCnt = 0
      ∧ t.now = s.now + dt ∧ RegsBut [TKP_STAT_SEC_DIS] s t ∧ StoresSame s t) := by
  have hw : Within dt [TKP_STAT_SEC_DIS] s (secondsEnded (pass dt s)) := ((within_pass dt _ s).modTkp).put (by simp) 0
  have he := exec_secondsCheck (dt := dt) hiso hlive
  rw [secondsCheck_none (by simpa [tracksTime_pass] using h)] at he
  exact hw.completes he hb ⟨by simp [secondsEnded], rfl, hw.now, hw.regs, hw.storesSame⟩

theorem secondsRow_pass (dt : Nat) (s : State) : secondsRow (pass dt s) = secondsRow s := by simp [secondsRow]

theorem exec_secondsOff (hiso : isolated s 8 = false) (hlive : live s 8 = true) (ht : tracksTime s = true) (he : s.tkp.lastErr ≠ 0) :
    exec (.secondsCheck dt) s = done s (if secondsRow s < max 1 (rd s TKP_CFG_SEC_CONF)
      then secondsCounted (secondsRow s) s.tkp.lastErr (pass dt s)
      else timeJump (s.tkp.lastErr * (secT : Int)) 3 (secondsReported (pass dt s))) := by
  rw [exec_secondsCheck hiso hlive, secondsCheck_off ((tracksTime_pass dt s).trans ht) (by simpa using he), secondsRow_pass, rd_pass, pass_tkp]

theorem completes_secondsCounted (hb : Between s) (hiso : isolated s 8 = false) (hlive : live s 8 = true) (ht : tracksTime s = true)
    (he : s.tkp.lastErr ≠ 0) (hn : secondsRow s < max 1 (rd s TKP_CFG_SEC_CONF)) : Completes (.secondsCheck dt) s (fun t =>
      rd t TKP_STAT_SEC_DIS = 1 ∧ t.tkp = { s.tkp with disCnt := secondsRow s, disVal := s.tkp.lastErr } ∧ t.now = s.now + dt
      ∧ RegsBut [TKP_STAT_SEC_DIS] s t ∧ StoresSame s t) := by
  have hw : Within dt [TKP_STAT_SEC_DIS] s (secondsCounted (secondsRow s) s.tkp.lastErr (pass dt s)) :=
    ((within_pass dt _ s).modTkp).put (by simp) 1
  have hc := exec_secondsOff (dt := dt) hiso hlive ht he
  rw [if_pos hn] at hc
  exact hw.completes hc hb ⟨by simp [secondsCounted], by simp [secondsCounted], hw.now, hw.regs, hw.storesSame⟩

theorem regsOutside_secondsReported (dt : Nat) (s : State) : RegsOutside jumpSpans s (secondsReported (pass dt s)) := by
  have hpass : RegsOutside jumpSpans s (pass dt s) := fun f _ => rd_pass dt s f
  have hevt : RegsOutside jumpSpans s (put TKP_EVT_SECDIS 1 (pass dt s)) := regsOutside_put hpass (by simp [InSpans, jumpSpans]) 1
  have hended : RegsOutside jumpSpans s (modTkp (fun t => { t with disCnt := 0, disVal := 0 }) (raise 37 none (put TKP_EVT_SECDIS 1 (pass dt s)))) := hevt
  exact regsOutside_put hended (by simp [InSpans, jumpSpans]) 0

theorem effects_secondsJam (hiso : isolated s 8 = false) (hlive : live s 8 = true) (ht : tracksTime s = true)
    (he : s.tkp.lastErr ≠ 0) (hn : max 1 (rd s TKP_CFG_SEC_CONF) ≤ secondsRow s) : Effects (.secondsCheck dt) s (fun v =>
      rd v TKP_EVT_SECDIS = 1 ∧ rd v TKP_STAT_SEC_DIS = 0 ∧ (37, none) ∈ v.flt.raised
      ∧ v.tod = (((pass dt s).tod : Int) + s.tkp.lastErr * (secT : Int)).toNat ∧ rd v TKP_STAT_TIME_SRC = 3 ∧ v.now = s.now + dt
      ∧ RegsOutside jumpSpans s v ∧ StoresSame s v) := by
  have hj := jumped_timeJump (s.tkp.lastErr * (secT : Int)) 3 (secondsReported (pass dt s))
  have hc := exec_secondsOff (dt := dt) hiso hlive ht he
  rw [if_neg (Nat.not_lt.2 hn)] at hc
  obtain ⟨-, hsrc, -⟩ := hj.shows (by decide)
  have hkept : Kept s (secondsReported (pass dt s)) := ((((kept_pass dt s).put _ 1).raise 37 none).modTkp _).put _ 0
  refine ⟨_, hc, ?_, ?_, ?_, ?_, hsrc, ?_, regsOutside_trans (regsOutside_secondsReported dt s) hj.regsOutside, (hkept.trans hj.kept).storesSame⟩
  · rw [hj.rd_eq (by simp [stepSpans])]
    simp [jumpShown, secondsReported, secondsEnded, rd_put_eq]
  · rw [hj.rd_eq (by simp [stepSpans])]
    simp [jumpShown, secondsReported, secondsEnded, rd_put_eq]
  · exact hj.raised (by simp [secondsReported, secondsEnded])
  · rw [hj.tod]
    simp [secondsReported, secondsEnded]
  · rw [hj.now]
    simp [secondsReported, secondsEnded]

/-! ### Leap seconds (R245) -/

theorem completes_leapCancel_open (hb : Between s) (ho : Open s 0x800008) (h : s.tkp.latched = none) :
    Completes (.leapCancel dt) s (fun t => rd t TKP_STAT_LEAP_PEND = 0 ∧ rd t TKP_STAT_LEAP_DEL = 0 ∧ t.now = s.now + dt
      ∧ RegsBut [TKP_STAT_LEAP_PEND, TKP_STAT_LEAP_DEL] s t ∧ StoresSame s t) := by
  have hw := ((within_issued 0x800008 dt [TKP_STAT_LEAP_PEND, TKP_STAT_LEAP_DEL] s).put (f := TKP_STAT_LEAP_PEND) (by simp) 0).put
    (f := TKP_STAT_LEAP_DEL) (by simp) 0
  have he := exec_leapCancel (dt := dt) ho
  rw [leapCancel, issued_tkp, h] at he
  exact hw.completes he hb ⟨by simp [rd_put_eq], by simp, hw.now, hw.regs, hw.storesSame⟩

theorem completes_leapCancel_latched (hb : Between s) (ho : Open s 0x800008) (h : s.tkp.latched ≠ none) :
    Completes (.leapCancel dt) s (fun t => t.tkp = s.tkp ∧ t.now = s.now + dt ∧ RegsBut [] s t ∧ StoresSame s t) := by
  have hw := within_issued 0x800008 dt [] s
  have he := exec_leapCancel (dt := dt) ho
  rw [leapCancel, issued_tkp, if_pos (Option.isSome_iff_ne_none.2 h)] at he
  exact hw.completes he hb ⟨issued_tkp _ _ _, hw.now, hw.regs, hw.storesSame⟩

/-- the UTC midnight at which a leap pending now would come -/
def leapMidnight (s : State) : Nat := monthEnd (utcOfTai s (todSec s))

theorem leapLatch_pending (hp : rd s TKP_STAT_LEAP_PEND = 1) (h : s.tkp.latched = none) :
    leapLatch s = modTkp (fun t => { t with latched := some (leapMidnight s) }) (advanceTo (whenTod s ((leapMidnight s - 60 + deltaAT s) * secT)) s) := by
  simp only [leapLatch, on_eq_true hp, h]
  rfl

theorem completes_leapLatch (hb : Between s) (hp : rd s TKP_STAT_LEAP_PEND = 1) (h : s.tkp.latched = none) : Completes .leapLatch s (fun t =>
    t.tkp = { s.tkp with latched := some (leapMidnight s) } ∧ t.now = max s.now (whenTod s ((leapMidnight s - 60 + deltaAT s) * secT))
      ∧ RegsBut [] s t ∧ StoresSame s t) := by
  have hw := (within_advanceTo (whenTod s ((leapMidnight s - 60 + deltaAT s) * secT)) [] s).modTkp
    (f := fun t => { t with latched := some (leapMidnight s) })
  exact hw.completes (congrArg (done s) (leapLatch_pending hp h)) hb ⟨by simp, hw.now.trans (add_sub_eq_max _ _), hw.regs, hw.storesSame⟩

/-- the second of the time of day at which a leap latched for midnight m executes -/
def leapSecond (s : State) (m : Nat) : Nat := if rd s TKP_STAT_LEAP_DEL = 1 then m - 1 + deltaAT s else m + 1 + deltaAT s

/-- ΔAT after the leap -/
def leapDat (s : State) : Nat := if rd s TKP_STAT_LEAP_DEL = 1 then rd s TKP_STAT_DAT - 1 else rd s TKP_STAT_DAT + 1

theorem leapSecond_eq (s : State) (m : Nat) :
    (if on s TKP_STAT_LEAP_DEL then m - 1 + deltaAT s else m + 1 + deltaAT s) = leapSecond s m := by
  simp only [leapSecond, on, beq_iff_eq]

theorem leapDat_eq (s : State) : (if on s TKP_STAT_LEAP_DEL then deltaAT s - 1 else deltaAT s + 1) = leapDat s := by
  simp only [leapDat, deltaAT, on, beq_iff_eq]

/-- the marks of TKP that an executed leap clears, and the one it leaves for AST -/
def leapTaken (x : TkpS) : TkpS := { x with latched := none, disCnt := 0, leapt := true }

/-- what STAT and EVT show of an executed leap -/
def leapExecuted (s : State) : State :=
  modTkp leapTaken s |> put TKP_STAT_DAT (leapDat s) |> put TKP_STAT_LEAP_PEND 0 |> put TKP_STAT_LEAP_DEL 0 |> put TKP_EVT_LEAP 1
    |> put TKP_STAT_SEC_DIS 0

/-- the update of a field of the backup clock or the reset cause that waits for its slow edge -/
def hwWaits (g : Nat) (f : Fld) (v : Nat) (s : State) : State :=
  modGrp g (fun x => { x with hw := x.hw ++ [(slowEdgeAfter s.now 3, fldKey f, v % 2 ^ fldWidth f)] }) s

theorem rd_hwWaits (g : Nat) (f : Fld) (v : Nat) (s : State) (x : Fld) : rd (hwWaits g f v s) x = rd s x := by simp [hwWaits]

theorem executeLeap_eq (s : State) : executeLeap s = civilUpdate (aonHw 0 TKP_RTC_CTL_DAT (leapDat s) (leapExecuted s)) := by
  unfold executeLeap
  rw [leapDat_eq]
  rfl

theorem kept_grpPending (h : Kept s u) (g : Nat) : Kept s (grpPending u g) := h.put _ _

theorem kept_aonHw (h : Kept s u) (g : Nat) (f : Fld) (v : Nat) : Kept s (aonHw g f v u) := kept_grpPending (h.modGrp g _) g

theorem aonHw_zero (f : Fld) (v : Nat) (s : State) :
    aonHw 0 f v s = put TKP_RTC_CTL_PENDING (b2n ((ix (hwWaits 0 f v s).aon.grp 0).landAt.isSome || !(ix (hwWaits 0 f v s).aon.grp 0).hw.isEmpty)) (hwWaits 0 f v s) := (rfl)

/-- what an executed leap changes before the civil offset follows -/
def leapFields : List Fld := [TKP_STAT_DAT, TKP_STAT_LEAP_PEND, TKP_STAT_LEAP_DEL, TKP_EVT_LEAP, TKP_STAT_SEC_DIS, TKP_RTC_CTL_PENDING]

theorem regsBut_leapExecuted (s : State) : RegsBut leapFields s (leapExecuted s) :=
  have h0 : RegsBut leapFields s (modTkp leapTaken s) := fun _ _ => rfl
  regsBut_put (regsBut_put (regsBut_put (regsBut_put (regsBut_put h0 (by simp [leapFields]) _) (by simp [leapFields]) _) (by simp [leapFields]) _)
    (by simp [leapFields]) _) (by simp [leapFields]) _

theorem kept_leapExecuted (s : State) : Kept s (leapExecuted s) :=
  (((((⟨rfl, rfl, rfl, rfl, rfl⟩ : Kept s (modTkp leapTaken s)).put _ _).put _ _).put _ _).put _ _).put _ _

theorem exec_leapExecute (s : State) : exec .leapExecute s = done s (leapExecute s) := (rfl)

theorem leapExecute_latched {m : Nat} (h : s.tkp.latched = some m) :
    leapExecute s = executeLeap (advanceTo (whenTod s (leapSecond s m * secT)) s) := by
  simp only [leapExecute, h, leapSecond_eq]

theorem leads_leapExecute (hb : Between s) {m : Nat} (h : s.tkp.latched = some m) : Leads .leapExecute s civilUpdate (fun u =>
    rd u TKP_STAT_DAT = leapDat s % 256 ∧ rd u TKP_STAT_LEAP_PEND = 0 ∧ rd u TKP_STAT_LEAP_DEL = 0 ∧ rd u TKP_EVT_LEAP = 1
      ∧ rd u TKP_STAT_SEC_DIS = 0 ∧ u.tkp.latched = none ∧ u.now = max s.now (whenTod s (leapSecond s m * secT)) ∧ u.flt.raised = []
      ∧ RegsBut leapFields s u ∧ StoresSame s u) := by
  have hdat : leapDat (advanceTo (whenTod s (leapSecond s m * secT)) s) = leapDat s := by simp [leapDat]
  have hkept := kept_advanceTo (whenTod s (leapSecond s m * secT)) s
  have hnow := advanceTo_now (whenTod s (leapSecond s m * secT)) s
  have hregs : RegsBut leapFields s (advanceTo (whenTod s (leapSecond s m * secT)) s) := fun f _ => rd_advanceTo _ _ f
  have hraised : (advanceTo (whenTod s (leapSecond s m * secT)) s).flt.raised = [] := by simp [raised_of_between hb]
  have he := exec_leapExecute s
  rw [leapExecute_latched h, executeLeap_eq, hdat] at he
  generalize advanceTo (whenTod s (leapSecond s m * secT)) s = a at *
  refine ⟨_, he, ?_, ?_, ?_, ?_, ?_, ?_, ?_, ?_, ?_, (kept_aonHw (hkept.trans (kept_leapExecuted a)) 0 _ _).storesSame⟩
  · simp [aonHw_zero, hwWaits, leapExecuted, rd_put_eq, hdat]
  · simp [aonHw_zero, hwWaits, leapExecuted, rd_put_eq]
  · simp [aonHw_zero, hwWaits, leapExecuted, rd_put_eq]
  · simp [aonHw_zero, hwWaits, leapExecuted, rd_put_eq]
  · simp [aonHw_zero, hwWaits, leapExecuted, rd_put_eq]
  · simp [aonHw_zero, hwWaits, leapExecuted, leapTaken]
  · simp [aonHw_zero, hwWaits, leapExecuted, hnow]
  · simp [aonHw_zero, hwWaits, leapExecuted, hraised]
  · rw [aonHw_zero]
    exact regsBut_put (regsBut_trans (regsBut_trans hregs (regsBut_leapExecuted a)) (regsBut_of_rd (rd_hwWaits _ _ _ _) _)) (by simp [leapFields]) _

/-! ### The civil offset (R246, R247) -/

/-- source 39 is raised where CIV_ERR rises -/
def civErrRaised (s : State) : State := if civErr s && !on s TKP_STAT_CIV_ERR then raise 39 none s else s

/-- the civil offset and DST_ACT of the second that the time of day is in -/
def civNow (s : State) : Int × Bool := civilOffset s (utcOfTai s (todSec s))

/-- CIV_ERR and DST_ACT follow, the offset not yet -/
def civShown (s : State) : State := putB TKP_STAT_DST_ACT (civNow s).2 (putB TKP_STAT_CIV_ERR (civErr s) (civErrRaised s))

theorem civShown_tkp (s : State) : (civShown s).tkp = s.tkp := by
  simp only [civShown, civErrRaised]
  split <;> rfl

theorem civilUpdate_eq (h : s.img.applied = true) : civilUpdate s =
    if (civNow s).1 = s.tkp.civ then civShown s else put TKP_EVT_DST 1 (modTkp (fun t => { t with civ := (civNow s).1 }) (civShown s)) := by
  unfold civilUpdate
  rw [h, ← civShown_tkp s]
  rfl

theorem civilFollow_same (h : s.img.applied = true) (hc : (civNow s).1 = s.tkp.civ) : civilFollow s = civShown s := by
  simp only [civilFollow, civilUpdate_eq h, if_pos hc, civShown_tkp, if_true]

theorem civilFollow_moved (h : s.img.applied = true) (hc : (civNow s).1 ≠ s.tkp.civ) :
    civilFollow s = astEval true (put TKP_EVT_DST 1 (modTkp (fun t => { t with civ := (civNow s).1 }) (civShown s))) := by
  simp only [civilFollow, civilUpdate_eq h, if_neg hc, put_tkp, modTkp_tkp]

/-- what the civil configuration comes to at the end of the command, the offset c of the second its parameter -/
structure CivilJudged (dt : Nat) (c : Int × Bool) (s u : State) : Prop where
  civErr : rd u TKP_STAT_CIV_ERR = (civErr s).toNat
  dstAct : rd u TKP_STAT_DST_ACT = c.2.toNat
  tkp : u.tkp = { s.tkp with civ := c.1 }
  raised : u.flt.raised = if Machine.civErr s = true ∧ rd s TKP_STAT_CIV_ERR ≠ 1 then [(39, none)] else []
  now : u.now = s.now + dt
  stores : StoresSame s u

theorem civErrRaised_raised (h : s.flt.raised = []) :
    (civErrRaised s).flt.raised = if Machine.civErr s = true ∧ rd s TKP_STAT_CIV_ERR ≠ 1 then [(39, none)] else [] := by
  simp only [civErrRaised, on, Bool.and_eq_true, Bool.not_eq_true', beq_eq_false_iff_ne]
  split
  · simp [h]
  · exact h

theorem civErrRaised_now (s : State) : (civErrRaised s).now = s.now := by
  unfold civErrRaised
  split <;> rfl

theorem rd_civErrRaised (s : State) (f : Fld) : rd (civErrRaised s) f = rd s f := by
  unfold civErrRaised
  split <;> rfl

theorem kept_civErrRaised (h : Kept s u) : Kept s (civErrRaised u) := by
  unfold civErrRaised
  split
  · exact h.raise 39 none
  · exact h

theorem kept_civShown (h : Kept s u) : Kept s (civShown u) := ((kept_civErrRaised h).put _ _).put _ _

theorem regsBut_civShown (dt : Nat) (l : List Fld) (s : State) :
    RegsBut (TKP_STAT_CIV_ERR :: TKP_STAT_DST_ACT :: l) s (civShown (pass dt s)) :=
  regsBut_put (regsBut_put (regsBut_of_rd (fun f => by rw [rd_civErrRaised, rd_pass]) _) (by simp) _) (by simp) _

theorem civErr_pass (dt : Nat) (s : State) : civErr (pass dt s) = civErr s := civErr_congr (funext (rd_pass dt s))

theorem civNow_pass (dt : Nat) (s : State) : civNow (pass dt s) = civilOffset s (utcOfTai s (todSec (pass dt s))) := by
  unfold civNow utcOfTai utcCount deltaAT
  rw [rd_pass, civilOffset_congr (funext (rd_pass dt s))]

theorem civShown_judged (hb : Between s) (hc : (civNow (pass dt s)).1 = s.tkp.civ) : CivilJudged dt (civNow (pass dt s)) s (civShown (pass dt s)) where
  civErr := by simp [civShown, rd_put_eq, civErr_pass, b2n_mod_two]
  dstAct := by simp [civShown, b2n_mod_two]
  tkp := by rw [civShown_tkp, pass_tkp, hc]
  raised := by
    have h := civErrRaised_raised (s := pass dt s) (by rw [pass_flt, raised_of_between hb])
    rw [civErr_pass, rd_pass] at h
    exact h
  now := (civErrRaised_now _).trans (pass_now dt s)
  stores := (kept_civShown (kept_pass dt s)).storesSame

theorem civShown_now (s : State) : (civShown s).now = s.now := civErrRaised_now s

theorem civShown_flt (s : State) : (civShown s).flt = (civErrRaised s).flt := (rfl)

theorem civMoved_judged {c : Int × Bool} (hc : civNow (pass dt s) = c) (hb : Between s) :
    CivilJudged dt c s (put TKP_EVT_DST 1 (modTkp (fun t => { t with civ := c.1 }) (civShown (pass dt s)))) where
  civErr := by simp [civShown, rd_put_eq, civErr_pass, b2n_mod_two]
  dstAct := by simp [civShown, rd_put_eq, hc, b2n_mod_two]
  tkp := by rw [put_tkp, modTkp_tkp, civShown_tkp, pass_tkp]
  raised := by
    have h := civErrRaised_raised (s := pass dt s) (by rw [pass_flt, raised_of_between hb])
    rw [civErr_pass, rd_pass] at h
    rw [put_flt, modTkp_flt, civShown_flt, h]
  now := by rw [put_now, modTkp_now, civShown_now, pass_now]
  stores := (((kept_civShown (kept_pass dt s)).modTkp _).put _ 1).storesSame

theorem exec_civilOffsetChange (h : s.img.applied = true) : exec (.civilOffsetChange dt) s = done s (civilFollow (pass dt s)) := by
  change done s (whenB s.img.applied civilFollow (pass dt s)) = _
  rw [h]
  rfl

theorem effects_civilOffsetChange (hb : Between s) (h : s.img.applied = true) (hc : (civNow (pass dt s)).1 = s.tkp.civ) :
    Effects (.civilOffsetChange dt) s (fun v =>
      CivilJudged dt (civNow (pass dt s)) s v ∧ RegsBut [TKP_STAT_CIV_ERR, TKP_STAT_DST_ACT] s v) := by
  have he := exec_civilOffsetChange (dt := dt) h
  rw [civilFollow_same (by rwa [pass_img]) (by rwa [pass_tkp])] at he
  exact ⟨_, he, civShown_judged hb hc, regsBut_civShown dt [] s⟩

theorem leads_civilOffsetChange (hb : Between s) (h : s.img.applied = true) (hc : (civNow (pass dt s)).1 ≠ s.tkp.civ) :
    Leads (.civilOffsetChange dt) s (astEval true) (fun u => CivilJudged dt (civNow (pass dt s)) s u ∧ rd u TKP_EVT_DST = 1
      ∧ RegsBut [TKP_STAT_CIV_ERR, TKP_STAT_DST_ACT, TKP_EVT_DST] s u) := by
  have he := exec_civilOffsetChange (dt := dt) h
  rw [civilFollow_moved (by rwa [pass_img]) (by rwa [pass_tkp])] at he
  have hregs := regsBut_civShown dt [TKP_EVT_DST] s
  exact ⟨_, he, civMoved_judged rfl hb, by simp, regsBut_put (regsBut_trans hregs (regsBut_of_rd (rd_modTkp _ _) _)) (by simp) 1⟩

end

/-! ### The obligation -/

/-- Settles O38: the events of TKP one by one. The 1PPS, the latching of a leap and the count of the seconds test reach a field or two and
TKP alone; the jam of the seconds test is a time jump; an executed leap and a civil offset change end in what others follow with. -/
theorem secondsLeapsAndCivilTime : Obligations.SecondsLeapsAndCivilTime := by
  unfold Obligations.SecondsLeapsAndCivilTime
  intro dt s hb
  refine ⟨completes_pps hb, fun hiso hlive => ⟨completes_secondsEnded hb hiso hlive, completes_secondsCounted hb hiso hlive,
    effects_secondsJam hiso hlive⟩, completes_leapCancel_open hb, completes_leapCancel_latched hb, completes_leapLatch hb, fun m h => leads_leapExecute hb h,
    fun h => ⟨fun hc => ?_, fun hc => ?_⟩⟩
  · rw [← civNow_pass] at hc ⊢
    obtain ⟨v, he, hj, hregs⟩ := effects_civilOffsetChange hb h hc
    exact ⟨v, he, ⟨hj.civErr, hj.dstAct, hj.tkp, hj.raised, hj.now, hj.stores⟩, hregs⟩
  · rw [← civNow_pass] at hc ⊢
    obtain ⟨u, he, hj, hevt, hregs⟩ := leads_civilOffsetChange hb h hc
    exact ⟨u, he, ⟨hj.civErr, hj.dstAct, hj.tkp, hj.raised, hj.now, hj.stores⟩, hevt, hregs⟩

end Sys2Proof.Timekeeping

/-! Serial time output and the IRIG-B decoder (O39): the sentences of a second, and what a frame of the decoder or its absence brings about. -/

namespace Sys2Proof.Timekeeping
open Sys2Proof.Machine Sys2Proof.Reg Sys2Proof.Safety Sys2Proof.Clocks Sys2Proof.Modes Sys2Proof.ReferenceSelection

section
variable {dt age k : Nat} {els : List (Nat × Nat)} {f : IrigFrame} {s u : State}

/-! ### Serial output (R249) -/

theorem nmeaStatus_congr (hr : rd u = rd s) : nmeaStatus u = nmeaStatus s := by
  unfold nmeaStatus dpllState timeDpll on
  rw [hr]

theorem talker_congr (hr : rd u = rd s) (k : Nat) : talker u k = talker s k := by
  unfold talker
  rw [hr]

theorem utcOfTai_congr (hr : rd u = rd s) (tai : Nat) : utcOfTai u tai = utcOfTai s tai := by
  unfold utcOfTai utcCount deltaAT
  rw [hr]

/-- the sentences are a matter of the registers and of TKP alone -/
theorem txSentences_congr (hr : rd u = rd s) (ht : u.tkp = s.tkp) (k tai : Nat) : txSentences u k tai = txSentences s k tai := by
  unfold txSentences zdaSentence rmcSentence
  rw [utcView_congr hr ht, civilOffset_congr hr, utcOfTai_congr hr, nmeaStatus_congr hr, talker_congr hr, hr]

/-- the instant at which output k sends the sentences of the last 1PPS's second -/
def txStart (k : Nat) (s : State) : Nat := whenTod s (s.tkp.ppsSec * secT + min (rd s (TKP_TODTXk_CFG_START k)) 989 * 1000000 * nsT)

/-- output k sends the sentences of a second -/
def todSent (k sec : Nat) (s : State) : State :=
  modTkp (fun t => { t with tx := vset t.tx k (txSentences s k sec), txSec := vset t.txSec k sec, txAt := vset t.txAt k s.tod }) s

theorem todSend_due (hen : rd s (TKP_TODTXk_CFG_EN k) = 1) (hhold : s.tkp.txHold = false) (hiso : isolated s 8 = false) (hlive : live s 8 = true)
    (hnew : ix s.tkp.txSec k ≠ s.tkp.ppsSec) (hsec : todSec s = s.tkp.ppsSec) : todSend k s = todSent k s.tkp.ppsSec (advanceTo (txStart k s) s) := by
  unfold todSend
  exact if_neg (by simp [on, hen, hhold, hiso, hlive, hnew, hsec])

theorem exec_todTxStart (hk : k < 2) (s : State) : exec (.todTxStart k) s = done s (todSend k s) := by
  change done s (whenB (k < 2) (todSend k) s) = _
  rw [whenB_pos (decide_eq_true hk)]

theorem completes_todTxStart (hb : Between s) (hk : k < 2) (hen : rd s (TKP_TODTXk_CFG_EN k) = 1) (hhold : s.tkp.txHold = false)
    (hiso : isolated s 8 = false) (hlive : live s 8 = true) (hnew : ix s.tkp.txSec k ≠ s.tkp.ppsSec) (hsec : todSec s = s.tkp.ppsSec) :
    Completes (.todTxStart k) s (fun t => ix t.tkp.tx k = txSentences s k s.tkp.ppsSec ∧ ix t.tkp.txSec k = s.tkp.ppsSec
      ∧ t.now = max s.now (txStart k s) ∧ RegsBut [] s t ∧ StoresSame s t) := by
  have hw : Within (txStart k s - s.now) [] s (todSent k s.tkp.ppsSec (advanceTo (txStart k s) s)) := (within_advanceTo (txStart k s) [] s).modTkp
  have he := exec_todTxStart hk s
  rw [todSend_due hen hhold hiso hlive hnew hsec] at he
  have hsame := txSentences_congr (funext (rd_advanceTo (txStart k s) s)) (advanceTo_tkp (txStart k s) s) k s.tkp.ppsSec
  refine hw.completes he hb ⟨?_, ?_, hw.now.trans (add_sub_eq_max _ _), hw.regs, hw.storesSame⟩
  · rw [todSent, modTkp_tkp, ix_vset_same _ _ hk, hsame]
  · rw [todSent, modTkp_tkp, ix_vset_same _ _ hk]

/-! ### A frame of the IRIG-B decoder (R250) -/

/-- the decoder takes frames: enabled, wired to an input whose ball reads, and running -/
structure IrigReads (dt age : Nat) (s : State) : Prop where
  en : rd s TKP_IRIGIN_CFG_EN = 1
  iso : isolated s 8 = false
  live : live s 8 = true
  applied : s.img.applied = true
  route : tabGet s.img.routes 0x130 255 ≠ 255
  ball : ballOff s (inBall (tabGet s.img.routes 0x130 255)) = false
  hold : s.tkp.txHold = false
  since : s.tkp.irigFrom + age ≤ s.now + dt

/-- a frame that is not valid breaks the succession; its label is kept while FLOCK is 1 -/
def irigBroken (s : State) : State :=
  modTkp (fun t => { t with irigOk := 0, irigLast := if on s TKP_IRIGIN_STAT_FLOCK then t.irigLast else none }) s

theorem exec_irigFrame (h : IrigReads dt age s) : exec (.irigFrame dt age els) s = done s
    (if irigValid (pass dt s) (irigDecode els) then irigAccept age (irigDecode els) (pass dt s)
      else bump TKP_IRIGIN_STAT_ERRCNT (irigBroken (pass dt s))) := by
  change done s (whenB (!ballOff s (inBall (tabGet s.img.routes 0x130 255))) (irigFrame age els) (pass dt s)) = _
  have hiso : isolated (pass dt s) 8 = false := (isolated_advanceTo _ 8 s).trans h.iso
  have hlive : Machine.live (pass dt s) 8 = true := (live_advanceTo _ 8 s).trans h.live
  have hsince : ¬ s.now + dt < s.tkp.irigFrom + age := Nat.not_lt.2 h.since
  rw [h.ball, Bool.not_false, whenB_true]
  unfold irigFrame
  exact congrArg (done s) (if_neg (by simp [on, h.en, h.applied, h.route, h.hold, hiso, hlive, hsince]))

theorem irigValid_pass (dt : Nat) (s : State) (f : IrigFrame) : irigValid (pass dt s) f = irigValid s f := by simp [irigValid, on]

theorem completes_irigFrame_invalid (hb : Between s) (h : IrigReads dt age s) (hv : irigValid s (irigDecode els) = false) :
    Completes (.irigFrame dt age els) s (fun t =>
      rd t TKP_IRIGIN_STAT_ERRCNT = (if rd s TKP_IRIGIN_STAT_ERRCNT < 255 then rd s TKP_IRIGIN_STAT_ERRCNT + 1 else 255) ∧ t.tkp.irigOk = 0
      ∧ t.now = s.now + dt ∧ RegsBut [TKP_IRIGIN_STAT_ERRCNT] s t ∧ StoresSame s t) := by
  have hbroken : Within dt [TKP_IRIGIN_STAT_ERRCNT] s (irigBroken (pass dt s)) := (within_pass dt _ s).modTkp
  have hw := hbroken.bump (f := TKP_IRIGIN_STAT_ERRCNT) (by simp)
  have he := exec_irigFrame (els := els) h
  rw [irigValid_pass, hv] at he
  refine hw.completes he hb ⟨?_, by simp [irigBroken], hw.now, hw.regs, hw.storesSame⟩
  simp only [bump_eq, irigBroken, rd_modTkp]
  simp
  split <;> omega

/-- the label of a frame: its UTC second twice, one more for 23:59:60 -/
def irigLabel (f : IrigFrame) (s : State) : Nat := 2 * irigUtc s f + (if f.sec = 60 then 1 else 0)

/-- slot 29 has no ΔAT of its own -/
def noSlotDat (s : State) : State := modTkp (fun t => { t with slotDat := vset t.slotDat 29 none }) s

/-- frame lock is reached -/
def irigLocked (s : State) : State := s |> put TKP_IRIGIN_STAT_FLOCK 1 |> put TKP_EVT_FLOCK 1

/-- slot 29 is valid and takes the sample of a frame that names UTC second utc, whose on-time edge came age units ago -/
def irigSample (age utc : Nat) (u : State) : State :=
  slotSample 29 ((((utc + deltaAT u) * 65536000000000 : Nat) : Int) - t16 (todAt u (u.now - age))) (setSrc 29 true (irigQl u) u)

/-- no leap follows a frame before frame lock -/
theorem irigLeap_unlocked (hl : rd s TKP_IRIGIN_STAT_FLOCK = 0) (a b : Nat) : irigLeap a b s = s := by
  simp [irigLeap, on, hl]

/-- the announcement of slot 29 concerns the time DPLL only where it is its active slot and DAT_FORCE is 0 -/
theorem slotTimeInfo_aside (h : rd s TKP_UTC_DAT_FORCE = 1 ∨ actSlot s (timeDpll s) ≠ some 29) (leap del : Bool) :
    slotTimeInfo 29 none leap del s = noSlotDat s := by
  have hcond : (on s TKP_UTC_DAT_FORCE || actSlot s (timeDpll s) != some 29) = true := by
    rcases h with h | h
    · rw [on_eq_true h, Bool.true_or]
    · rw [bne_iff_ne.2 h, Bool.or_true]
  exact if_pos hcond

/-- the control functions of a frame in IRIGIN_STAT -/
def showFields : List Fld :=
  [TKP_IRIGIN_STAT_CODE, TKP_IRIGIN_STAT_TQ, TKP_IRIGIN_STAT_LSP, TKP_IRIGIN_STAT_LS, TKP_IRIGIN_STAT_DSP, TKP_IRIGIN_STAT_DST]

/-- what a frame shows, and TKP with its label after n frames in succession -/
def irigShown (f : IrigFrame) (n : Nat) (s : State) : State :=
  modTkp (fun t => { t with irigLast := some (irigLabel f s), irigAt := s.now, irigOk := min n 8 }) (irigShow f s)

/-- the slot's message, frame lock and the sample of slot 29, for the n-th frame in succession shown in u -/
def irigFollowed (age utc n : Nat) (f : IrigFrame) (u : State) : State :=
  let w := slotTimeInfo 29 none (f.lsp && on u TKP_IRIGIN_CFG_EXT) f.ls u
  let v := if !on w TKP_IRIGIN_STAT_FLOCK && decide (orElse0 (rd w TKP_IRIGIN_CFG_LOCK_N) 1 ≤ n) then irigLocked w else w
  if on v TKP_IRIGIN_STAT_FLOCK then irigSample age utc v else v

theorem irigAccept_first (h : s.tkp.irigLast = none) :
    irigAccept age f s = irigFollowed age (irigUtc s f) (s.tkp.irigOk + 1) f (irigShown f (s.tkp.irigOk + 1) s) := by
  simp only [irigAccept, h]
  rfl

theorem irigAccept_next {a : Nat} (h : s.tkp.irigLast = some a) (hok : irigFollows a (irigLabel f s) = true)
    (hl : rd s TKP_IRIGIN_STAT_FLOCK = 0) :
    irigAccept age f s = irigFollowed age (irigUtc s f) (s.tkp.irigOk + 1) f (irigShown f (s.tkp.irigOk + 1) s) := by
  unfold irigLabel at hok
  simp only [irigAccept, h, hok, if_true, irigLeap_unlocked hl]
  rfl

theorem within_irigShow {l : List Fld} (h : Within dt l s u) (hl : ∀ g ∈ showFields, g ∈ l) (f : IrigFrame) : Within dt l s (irigShow f u) :=
  (((((h.put (hl _ (by simp [showFields])) _).put (hl _ (by simp [showFields])) _).put (hl _ (by simp [showFields])) _).put
    (hl _ (by simp [showFields])) _).put (hl _ (by simp [showFields])) _).put (hl _ (by simp [showFields])) _

theorem within_irigShown {l : List Fld} (h : Within dt l s u) (hl : ∀ g ∈ showFields, g ∈ l) (f : IrigFrame) (n : Nat) :
    Within dt l s (irigShown f n u) := (within_irigShow h hl f).modTkp

/-- fields other than the six control functions read as before a frame is shown -/
theorem rd_irigShown {g : Fld} (hg : fldKey g ∉ showFields.map fldKey) (n : Nat) (s : State) : rd (irigShown f n s) g = rd s g :=
  (within_irigShown (within_self showFields s) (fun _ h => h) f n).rd_eq hg

theorem rd_noSlotDat (s : State) (g : Fld) : rd (noSlotDat s) g = rd s g := rd_modTkp _ s g

theorem timeDpll_irigShown (n : Nat) (s : State) : timeDpll (irigShown f n s) = timeDpll s := rd_irigShown (by simp [showFields]) n s

theorem actSlot_irigShown (d n : Nat) (s : State) : actSlot (irigShown f n s) d = actSlot s d :=
  actSlot_congr fun g hg => by
    rcases List.mem_pair.1 hg with rfl | rfl
    · exact rd_irigShown (by simp [showFields]; omega) n s
    · exact rd_irigShown (by simp [showFields]; omega) n s

theorem irigFollowed_unlocked (hslot : rd s TKP_UTC_DAT_FORCE = 1 ∨ actSlot s (timeDpll s) ≠ some 29) (hl : rd s TKP_IRIGIN_STAT_FLOCK = 0)
    (n utc : Nat) : irigFollowed age utc n f (irigShown f n s) = if max 1 (rd s TKP_IRIGIN_CFG_LOCK_N) ≤ n
      then irigSample age utc (irigLocked (noSlotDat (irigShown f n s))) else noSlotDat (irigShown f n s) := by
  have hslot' : rd (irigShown f n s) TKP_UTC_DAT_FORCE = 1 ∨ actSlot (irigShown f n s) (timeDpll (irigShown f n s)) ≠ some 29 := by
    rw [rd_irigShown (by simp [showFields]), timeDpll_irigShown, actSlot_irigShown]
    exact hslot
  have hfl : on (noSlotDat (irigShown f n s)) TKP_IRIGIN_STAT_FLOCK = false := 
    on_eq_false (by rw [rd_noSlotDat, rd_irigShown (by simp [showFields]), hl])
  have hn : rd (noSlotDat (irigShown f n s)) TKP_IRIGIN_CFG_LOCK_N = rd s TKP_IRIGIN_CFG_LOCK_N := by
    rw [rd_noSlotDat, rd_irigShown (by simp [showFields])]
  have hlocked : on (irigLocked (noSlotDat (irigShown f n s))) TKP_IRIGIN_STAT_FLOCK = true := on_eq_true (by simp [irigLocked, rd_put_eq])
  unfold irigFollowed
  simp only [slotTimeInfo_aside hslot', hfl, hn, orElse0_one, Bool.not_false, Bool.true_and]
  by_cases h : max 1 (rd s TKP_IRIGIN_CFG_LOCK_N) ≤ n
  · simp only [h, decide_true, if_true, hlocked]
  · simp only [h, decide_false, if_false, Bool.false_eq_true, hfl]

/-- a valid frame in succession before frame lock: shown, and with LOCK_N in a row frame lock and the sample of slot 29 -/
theorem irigAccept_unlocked (hslot : rd s TKP_UTC_DAT_FORCE = 1 ∨ actSlot s (timeDpll s) ≠ some 29)
    (hok : ∀ a, s.tkp.irigLast = some a → irigFollows a (irigLabel f s) = true) (hl : rd s TKP_IRIGIN_STAT_FLOCK = 0) :
    irigAccept age f s = if max 1 (rd s TKP_IRIGIN_CFG_LOCK_N) ≤ s.tkp.irigOk + 1
      then irigSample age (irigUtc s f) (irigLocked (noSlotDat (irigShown f (s.tkp.irigOk + 1) s)))
      else noSlotDat (irigShown f (s.tkp.irigOk + 1) s) := by
  rw [← irigFollowed_unlocked hslot hl]
  cases hlast : s.tkp.irigLast with
  | none => exact irigAccept_first hlast
  | some a => exact irigAccept_next hlast (hok a hlast) hl

/-- TKP after a valid frame in succession, dt after s -/
def frameTkp (dt : Nat) (f : IrigFrame) (s : State) : TkpS := { s.tkp with
  irigLast := some (irigLabel f (pass dt s))
  irigAt := s.now + dt
  irigOk := min (s.tkp.irigOk + 1) 8
  slotDat := vset s.tkp.slotDat 29 none }

/-- what a valid frame shows in registers and TKP, dt after s -/
structure FrameShown (dt : Nat) (f : IrigFrame) (s u : State) : Prop where
  code : rd u TKP_IRIGIN_STAT_CODE = f.code % 8
  tq : rd u TKP_IRIGIN_STAT_TQ = f.tq % 16
  lsp : rd u TKP_IRIGIN_STAT_LSP = f.lsp.toNat
  ls : rd u TKP_IRIGIN_STAT_LS = f.ls.toNat
  dsp : rd u TKP_IRIGIN_STAT_DSP = f.dsp.toNat
  dst : rd u TKP_IRIGIN_STAT_DST = f.dst.toNat
  tkp : u.tkp = frameTkp dt f s
  now : u.now = s.now + dt
  stores : StoresSame s u

/-- a valid frame shown, dt after s -/
def frameTaken (dt : Nat) (f : IrigFrame) (s : State) : State := noSlotDat (irigShown f (s.tkp.irigOk + 1) (pass dt s))

theorem within_noSlotDat {l : List Fld} (h : Within dt l s u) : Within dt l s (noSlotDat u) := h.modTkp

theorem within_frameTaken {l : List Fld} (hl : ∀ g ∈ showFields, g ∈ l) : Within dt l s (frameTaken dt f s) :=
  within_noSlotDat (within_irigShown (within_pass dt l s) hl f _)

theorem irigShow_tkp (f : IrigFrame) (s : State) : (irigShow f s).tkp = s.tkp := (rfl)

theorem frameTaken_tkp : (frameTaken dt f s).tkp = frameTkp dt f s := by
  simp [frameTaken, frameTkp, noSlotDat, irigShown, irigShow_tkp]

theorem frameShown_taken (dt : Nat) (f : IrigFrame) (s : State) : FrameShown dt f s (frameTaken dt f s) where
  code := by simp [frameTaken, noSlotDat, irigShown, irigShow, rd_put_eq]
  tq := by simp [frameTaken, noSlotDat, irigShown, irigShow, rd_put_eq]
  lsp := by simp [frameTaken, noSlotDat, irigShown, irigShow, rd_put_eq, b2n_mod_two]
  ls := by simp [frameTaken, noSlotDat, irigShown, irigShow, rd_put_eq, b2n_mod_two]
  dsp := by simp [frameTaken, noSlotDat, irigShown, irigShow, rd_put_eq, b2n_mod_two]
  dst := by simp [frameTaken, noSlotDat, irigShown, irigShow, b2n_mod_two]
  tkp := frameTaken_tkp
  now := (within_frameTaken fun _ h => h).now
  stores := (within_frameTaken fun _ h => h).storesSame

/-- frame lock changes FLOCK and EVT.FLOCK alone -/
theorem frameShown_locked (h : FrameShown dt f s u) : FrameShown dt f s (irigLocked u) where
  code := by simp [irigLocked, rd_put_eq, h.code]
  tq := by simp [irigLocked, rd_put_eq, h.tq]
  lsp := by simp [irigLocked, rd_put_eq, h.lsp]
  ls := by simp [irigLocked, rd_put_eq, h.ls]
  dsp := by simp [irigLocked, rd_put_eq, h.dsp]
  dst := by simp [irigLocked, rd_put_eq, h.dst]
  tkp := h.tkp
  now := h.now
  stores := h.stores

/-- the frame is valid, finds the decoder before frame lock, and follows the one before; its announcement does not concern the time DPLL -/
structure IrigFollows (dt : Nat) (f : IrigFrame) (s : State) : Prop where
  valid : irigValid s f = true
  aside : rd s TKP_UTC_DAT_FORCE = 1 ∨ actSlot s (timeDpll s) ≠ some 29
  follows : ∀ a, s.tkp.irigLast = some a → irigFollows a (irigLabel f (pass dt s)) = true
  unlocked : rd s TKP_IRIGIN_STAT_FLOCK = 0

theorem actSlot_pass (dt d : Nat) (s : State) : actSlot (pass dt s) d = actSlot s d := actSlot_congr fun g _ => rd_pass dt s g

theorem exec_irigFrame_follows (h : IrigReads dt age s) (hf : IrigFollows dt (irigDecode els) s) : exec (.irigFrame dt age els) s = done s
    (if max 1 (rd s TKP_IRIGIN_CFG_LOCK_N) ≤ s.tkp.irigOk + 1
      then irigSample age (irigUtc (pass dt s) (irigDecode els)) (irigLocked (frameTaken dt (irigDecode els) s))
      else frameTaken dt (irigDecode els) s) := by
  have hslot : rd (pass dt s) TKP_UTC_DAT_FORCE = 1 ∨ actSlot (pass dt s) (timeDpll (pass dt s)) ≠ some 29 := by
    rw [rd_pass, PostmarkUnits.timeDpll_pass, actSlot_pass]
    exact hf.aside
  rw [exec_irigFrame h, irigValid_pass, if_pos hf.valid, irigAccept_unlocked hslot (by simpa using hf.follows) (by simpa using hf.unlocked),
    rd_pass, pass_tkp]
  rfl

theorem completes_irigFrame_shown (hb : Between s) (h : IrigReads dt age s) (hf : IrigFollows dt (irigDecode els) s)
    (hn : s.tkp.irigOk + 1 < max 1 (rd s TKP_IRIGIN_CFG_LOCK_N)) : Completes (.irigFrame dt age els) s (fun t =>
      FrameShown dt (irigDecode els) s t ∧ RegsBut showFields s t) := by
  have he := exec_irigFrame_follows h hf
  rw [if_neg (Nat.not_le.2 hn)] at he
  have hw : Within dt showFields s (frameTaken dt (irigDecode els) s) := within_frameTaken fun _ h => h
  exact hw.completes he hb ⟨frameShown_taken dt _ s, hw.regs⟩

/-- what the frame that reaches frame lock changes -/
def lockFields : List Fld := showFields ++ [TKP_IRIGIN_STAT_FLOCK, TKP_EVT_FLOCK]

theorem leads_irigFrame_locked (hb : Between s) (h : IrigReads dt age s) (hf : IrigFollows dt (irigDecode els) s)
    (hn : max 1 (rd s TKP_IRIGIN_CFG_LOCK_N) ≤ s.tkp.irigOk + 1) :
    Leads (.irigFrame dt age els) s (irigSample age (irigUtc (pass dt s) (irigDecode els))) (fun u => FrameShown dt (irigDecode els) s u
      ∧ rd u TKP_IRIGIN_STAT_FLOCK = 1 ∧ rd u TKP_EVT_FLOCK = 1 ∧ u.flt.raised = [] ∧ RegsBut lockFields s u) := by
  have he := exec_irigFrame_follows h hf
  rw [if_pos hn] at he
  have htaken : Within dt lockFields s (frameTaken dt (irigDecode els) s) := within_frameTaken fun g hg => List.mem_append_left _ hg
  have hw := (htaken.put (f := TKP_IRIGIN_STAT_FLOCK) (by simp [lockFields]) 1).put (f := TKP_EVT_FLOCK) (by simp [lockFields]) 1
  exact ⟨_, he, frameShown_locked (frameShown_taken dt _ s), by simp [irigLocked, rd_put_eq], by simp [irigLocked], hw.raised hb, hw.regs⟩

/-! ### No valid frame for 2 s (R250) -/

/-- the decoder begins anew, no frame in succession -/
def irigDropped (s : State) : State := modTkp (fun t => { t with irigOk := 0, irigLast := none }) s

/-- frame lock is lost, slot 29 not yet -/
def lockLost (s : State) : State := raise 38 none (put TKP_EVT_FLOCK 1 (put TKP_IRIGIN_STAT_FLOCK 0 (irigDropped s)))

theorem irigLost_locked (h : rd s TKP_IRIGIN_STAT_FLOCK = 1) : irigLost s = setSrcOk 29 false (lockLost s) := by
  simp only [irigLost, on_eq_true h, if_true]
  rfl

/-- 2 s after the last valid frame -/
def irigDeadline (s : State) : Nat := s.tkp.irigAt + 2 * secU

theorem irigLate_locked (h : rd s TKP_IRIGIN_STAT_FLOCK = 1) : irigLate s = setSrcOk 29 false (lockLost (advanceTo (irigDeadline s) s)) := by
  rw [irigLate, on_eq_true h, if_pos rfl, irigLost_locked (by rwa [rd_advanceTo])]
  rfl

theorem exec_irigFrameTimeout (s : State) : exec .irigFrameTimeout s = done s (irigLate s) := (rfl)

theorem leads_irigFrameTimeout (hb : Between s) (h : rd s TKP_IRIGIN_STAT_FLOCK = 1) : Leads .irigFrameTimeout s (setSrcOk 29 false) (fun u =>
    rd u TKP_IRIGIN_STAT_FLOCK = 0 ∧ rd u TKP_EVT_FLOCK = 1 ∧ u.tkp = { s.tkp with irigOk := 0, irigLast := none } ∧ u.flt.raised = [(38, none)]
      ∧ u.now = max s.now (irigDeadline s) ∧ RegsBut [TKP_IRIGIN_STAT_FLOCK, TKP_EVT_FLOCK] s u ∧ StoresSame s u) := by
  have hdropped : Within (irigDeadline s - s.now) [TKP_IRIGIN_STAT_FLOCK, TKP_EVT_FLOCK] s (irigDropped (advanceTo (irigDeadline s) s)) :=
    (within_advanceTo _ _ s).modTkp
  have hw := (hdropped.put (f := TKP_IRIGIN_STAT_FLOCK) (by simp) 0).put (f := TKP_EVT_FLOCK) (by simp) 1
  refine ⟨_, (exec_irigFrameTimeout s).trans (congrArg (done s) (irigLate_locked h)), by simp [lockLost, rd_put_eq], by simp [lockLost], by simp [lockLost, irigDropped], ?_,
    by simp [lockLost, irigDropped], regsBut_raise hw.regs 38 none, (hw.kept.raise 38 none).storesSame⟩
  simp [lockLost, irigDropped, raised_of_between hb]

theorem exec_irigFrameTimeout_unlocked (hb : Between s) (h : rd s TKP_IRIGIN_STAT_FLOCK = 0) : exec .irigFrameTimeout s = .next s := by
  have hlate : irigLate s = s := by
    rw [irigLate, on_eq_false h]
    rfl
  rw [exec_irigFrameTimeout, hlate, done_self hb rfl rfl rfl]

end

/-! ### The obligation -/

/-- Settles O39: a sending output and a frame that is not valid reach TKP and one counter alone; a valid frame in succession passes the chain
of IRIGIN_STAT, TKP's label and slot 29's ΔAT, and LOCK_N of them add FLOCK before the sample of slot 29. -/
theorem serialAndIrigTime : Obligations.SerialAndIrigTime := by
  unfold Obligations.SerialAndIrigTime
  intro dt age k els s hb
  refine ⟨completes_todTxStart hb, fun hen hiso hlive happ hroute hball hhold hsince => ?_, leads_irigFrameTimeout hb,
    exec_irigFrameTimeout_unlocked hb⟩
  have hreads : IrigReads dt age s := ⟨hen, hiso, hlive, happ, hroute, hball, hhold, hsince⟩
  refine ⟨completes_irigFrame_invalid hb hreads, fun hv haside hok hl => ?_⟩
  have hf : IrigFollows dt (irigDecode els) s := ⟨hv, haside, hok, hl⟩
  refine ⟨fun hn => ?_, fun hn => ?_⟩
  · obtain ⟨t, he, hs, hregs⟩ := completes_irigFrame_shown hb hreads hf hn
    exact ⟨t, he, ⟨hs.code, hs.tq, hs.lsp, hs.ls, hs.dsp, hs.dst, hs.tkp, hs.now, hs.stores⟩, hregs⟩
  · obtain ⟨u, he, hs, hlock⟩ := leads_irigFrame_locked hb hreads hf hn
    exact ⟨u, he, ⟨hs.code, hs.tq, hs.lsp, hs.ls, hs.dsp, hs.dst, hs.tkp, hs.now, hs.stores⟩, hlock⟩

end Sys2Proof.Timekeeping

/-! The hold steps and the release of a reset sequence (O21), and the loss of both supplies. -/

namespace Sys2Proof.Resets
open Sys2Proof.Machine Sys2Proof.Reg Sys2Proof.Safety Sys2Proof.Clocks Sys2Proof.Modes Sys2Proof.Timekeeping

section
variable {s u a : State}

/-! ### The hold step of L0 (R479) -/

/-- the registers that an L0 reset can leave at another value than their reset value -/
def heldFields : List Fld := rwsFields ++ chanFields ++ [GEN_CLKSTAT_SYSCLK_PRES, TKP_RTC_CTL_PENDING, RST_CAUSE_PENDING]

/-- the state without its registers -/
def offRegs (s : State) : State := { s with regs := [], cyc := {} }

/-- u is a with other values of the listed fields, and nothing else -/
structure Rewritten (l : List Fld) (a u : State) : Prop where
  regs : RegsBut l a u
  rest : offRegs u = offRegs a

namespace Rewritten
variable {l : List Fld}

theorem put (h : Rewritten l a u) {f : Fld} (hf : f ∈ l) (v : Nat) : Rewritten l a (put f v u) := ⟨regsBut_put h.regs hf v, h.rest⟩

theorem forEach {α : Type} {f : α → Fld} {v : α → State → Nat} (xs : List α) (h : Rewritten l a u) (hl : ∀ x ∈ xs, f x ∈ l) :
    Rewritten l a (forEach xs (fun x s => Machine.put (f x) (v x s) s) u) := by
  induction xs generalizing u with
  | nil => exact h
  | cons x r ih => exact ih (h.put (hl x List.mem_cons_self) _) fun y hy => hl y (List.mem_cons_of_mem x hy)

theorem ite {c : Prop} [Decidable c] {v : State} (hu : Rewritten l a u) (hv : Rewritten l a v) : Rewritten l a (if c then u else v) := by
  split
  · exact hu
  · exact hv

theorem aonCopy (h : Rewritten l a u) (hl : ∀ f ∈ rwsFields, f ∈ l) : Rewritten l a (aonCopy u) := h.forEach (f := id) rwsFields hl

theorem carry (h : Rewritten l a u) {fs : List Fld} (hl : ∀ f ∈ fs, f ∈ l) (old : State) : Rewritten l a (carry fs old u) := h.forEach (f := id) fs hl

theorem grpPending (h : Rewritten l a u) (ht : TKP_RTC_CTL_PENDING ∈ l) (hr : RST_CAUSE_PENDING ∈ l) (g : Nat) : Rewritten l a (grpPending u g) := by
  unfold Machine.grpPending
  split
  · exact h.put ht _
  · exact h.put hr _

theorem sec_eq (h : Rewritten l a u) : u.sec = a.sec := (congrArg State.sec h.rest : (offRegs u).sec = (offRegs a).sec)

end Rewritten

/-- what an L0 reset begins with: reset values, beside what the fuses, the MRAM, the always-on domain and the presence detector hold -/
def coldState (s : State) : State where
  pending := s.pending
  now := s.now
  tempAt := s.now
  free := s.free
  mram := s.mram
  mramJ := s.mramJ
  otp := s.otp
  aon := s.aon
  rst := s.rst
  flt := { raised := s.flt.raised }
  clk := if s.rst.lost then {} else { pass := s.clk.pass, rdy := s.clk.rdy, rdyAt := s.clk.rdyAt }
  sch := { ch := s.sch.ch.map (fun c => { pulseEnd := c.pulseEnd, ball := c.ball, back := c.back }) }

theorem rd_coldState (s : State) (f : Fld) : rd (coldState s) f = resetOf (fldKey f) := (rfl)

theorem mem_heldFields : (∀ f ∈ rwsFields, f ∈ heldFields) ∧ (∀ f ∈ chanFields, f ∈ heldFields) ∧ GEN_CLKSTAT_SYSCLK_PRES ∈ heldFields
    ∧ TKP_RTC_CTL_PENDING ∈ heldFields ∧ RST_CAUSE_PENDING ∈ heldFields := by
  simp only [heldFields, List.mem_append]
  exact ⟨fun f h => .inl (.inl h), fun f h => .inl (.inr h), by simp, by simp, by simp⟩

theorem rewritten_resetL0 (s : State) : Rewritten heldFields (coldState s) (resetL0 s) := by
  obtain ⟨hrws, hchan, hpres, htkp, hrst⟩ := mem_heldFields
  have h0 : Rewritten heldFields (coldState s) (coldState s) := ⟨fun _ _ => rfl, rfl⟩
  have h1 := ((h0.aonCopy hrws).grpPending htkp hrst 0).grpPending htkp hrst 1
  have h2 := h1.ite (c := s.rst.por = true) (h1.carry hchan s)
  exact h2.ite (h2.carry (by simpa using hpres) s)

/-- the level's hold step is done and the sequence waits for its release -/
def levelHeld (l : Nat) (s : State) : State := modRst (fun r => { r with phase := .wait }) (modRst (fun r => { r with held := l :: r.held }) s)

theorem rd_levelHeld (l : Nat) (s : State) (f : Fld) : rd (levelHeld l s) f = rd s f := by simp [levelHeld]

theorem rstNext_held (h : s.rst.held.contains s.rst.level = true) : rstNext s = modRst (fun r => { r with phase := .wait }) s := by
  rw [rstNext, if_pos h]

/-- the hold step of the sequence's own level, with nothing to save -/
theorem rstHoldDone_eq {l : Nat} (hp : s.rst.phase = .hold l) : rstHoldDone s = rstNext (rstReset l (advanceTo s.rst.holdEnd s)) := by
  have hs : rstSaved s = s := by simp [rstSaved, hp]
  simp only [rstHoldDone, hs, hp]

theorem rstHoldDone_zero (hp : s.rst.phase = .hold 0) (hl : s.rst.level = 0) :
    rstHoldDone s = levelHeld 0 (resetL0 (advanceTo s.rst.holdEnd s)) := by
  have hrst : (resetL0 (advanceTo s.rst.holdEnd s)).rst = s.rst :=
    (congrArg State.rst (rewritten_resetL0 (advanceTo s.rst.holdEnd s)).rest).trans (advanceTo_rst _ _)
  rw [rstHoldDone_eq hp, rstReset, rstNext_held (by simp [hrst, hl])]
  rfl

theorem ix_replicate {α : Type} [Inhabited α] {n i : Nat} (h : i < n) (x : α) : ix (Vector.replicate n x) i = x := by simp [ix, h]

theorem calm_coldState (h : s.flt.raised = []) : calm (coldState s) = true := by
  rw [calm_iff]
  simp +contextual [coldState, h, ix_replicate]

theorem calm_of_offRegs (h : offRegs u = offRegs a) : calm u = calm a :=
  (congrArg calm h : calm (offRegs u) = calm (offRegs a))

theorem exec_resetHoldDone (s : State) : exec .resetHoldDone s = done s (rstHoldDone s) := (rfl)

theorem completes_resetHoldDone_zero (hb : Between s) (hp : s.rst.phase = .hold 0) (hl : s.rst.level = 0) : Completes .resetHoldDone s (fun t =>
    (∀ f, fldKey f ∉ heldFields.map fldKey → rd t f = resetOf (fldKey f)) ∧ t.cram = [] ∧ t.mram = s.mram ∧ t.otp = s.otp ∧ t.aon.val = s.aon.val
      ∧ t.sch.oq.recs = [] ∧ t.mns.zq.recs = [] ∧ (∀ b < 12, (ix t.unit b).sq.recs = [] ∧ (ix t.unit b).rq.recs = [])
      ∧ t.sec = {} ∧ t.now = max s.now s.rst.holdEnd ∧ t.rst.phase = .wait) := by
  have he := (exec_resetHoldDone s).trans (congrArg (done s) (rstHoldDone_zero hp hl))
  have hraised : (advanceTo s.rst.holdEnd s).flt.raised = [] := by rw [advanceTo_flt, raised_of_between hb]
  have hk := kept_advanceTo s.rst.holdEnd s
  have hnow := advanceTo_now s.rst.holdEnd s
  have haon := advanceTo_aon s.rst.holdEnd s
  generalize advanceTo s.rst.holdEnd s = a at *
  obtain ⟨hregs, hrest⟩ := rewritten_resetL0 a
  generalize resetL0 a = u at *
  have hcalm := (calm_of_offRegs hrest).trans (calm_coldState hraised)
  have hpending := (congrArg State.pending hrest).trans hk.pending
  have hmram := (congrArg State.mram hrest).trans hk.mram
  have hmramJ := (congrArg State.mramJ hrest).trans hk.mramJ
  have hotp := (congrArg State.otp hrest).trans hk.otp
  have hunit : u.unit = Vector.replicate 12 {} := (congrArg State.unit hrest : (offRegs u).unit = (offRegs (coldState a)).unit)
  refine ⟨_, he.trans (done_self ⟨hcalm, hmramJ.trans hb.2⟩ hpending hmram hotp),
    fun f hf => by rw [rd_levelHeld, hregs f hf, rd_coldState], congrArg State.cram hrest, hmram, hotp,
    congrArg AonS.val ((congrArg State.aon hrest).trans haon), congrArg (·.sch.oq.recs) hrest, congrArg (·.mns.zq.recs) hrest, fun b hlt => ?_,
    congrArg State.sec hrest, (congrArg State.now hrest).trans hnow, rfl⟩
  rw [levelHeld, modRst_unit, modRst_unit, hunit, ix_replicate hlt]
  exact ⟨rfl, rfl⟩

/-! ### The hold step of L2 (R479) -/

/-- what an L2 reset does in RUN, outside a download and a reload, and not in SAFE -/
def warmReset (s : State) : State := put GEN_MODESTAT_REJECT 0 (fltNormal s)

theorem rd_fltNormal {f : Fld} (hs : fldKey FLT_STAT_STATE ≠ fldKey f) (ha : fldKey FLT_STAT_ALIVE_STOP ≠ fldKey f) (s : State) :
    rd (fltNormal s) f = rd s f :=
  calc rd (fltNormal s) f
    _ = rd (put FLT_STAT_ALIVE_STOP 0 (put FLT_STAT_STATE 0 (ptpStale s))) f := rfl
    _ = rd s f := by rw [rd_put_ne _ _ ha, rd_put_ne _ _ hs]; rfl

theorem resetL2_running (hi : rd s IMG_STATUS_STATE = 4) (hf : rd s FLT_STAT_STATE ≠ 2) : resetL2 s = warmReset s := by
  have hsafe : inSafe s = false := beq_false_of_ne hf
  have hst : rd (put GEN_MODESTAT_REJECT 0 (fltNormal s)) IMG_STATUS_STATE = 4 := by
    rw [rd_put_ne _ _ (by simp), rd_fltNormal (by simp) (by simp), hi]
  simp [resetL2, hsafe, hst, prRunning, warmReset]

theorem warmReset_fields (s : State) : rd (warmReset s) FLT_STAT_STATE = 0 ∧ rd (warmReset s) FLT_STAT_ALIVE_STOP = 0
    ∧ rd (warmReset s) GEN_MODESTAT_REJECT = 0 := by
  have hflt : ∀ f, rd (fltNormal s) f = rd (put FLT_STAT_ALIVE_STOP 0 (put FLT_STAT_STATE 0 (ptpStale s))) f := fun _ => rfl
  simp [warmReset, rd_put_eq, hflt]

theorem regsBut_warmReset (s : State) : RegsBut [FLT_STAT_STATE, FLT_STAT_ALIVE_STOP, GEN_MODESTAT_REJECT] s (warmReset s) := by
  refine regsBut_put (fun f hf => ?_) (by simp) 0
  simp only [List.map_cons, List.map_nil, List.mem_cons, not_or] at hf
  obtain ⟨hs, ha, -⟩ := hf
  exact rd_fltNormal (Ne.symm hs) (Ne.symm ha) s

theorem warmReset_rst (s : State) : (warmReset s).rst = s.rst := (rfl)

theorem warmReset_now (s : State) : (warmReset s).now = s.now := (rfl)

theorem warmReset_raised (s : State) : (warmReset s).flt.raised = s.flt.raised := (rfl)

theorem kept_warmReset (s : State) : Kept s (warmReset s) := ⟨rfl, rfl, rfl, rfl, rfl⟩

theorem rstReset_two (s : State) : rstReset 2 s = modRst (fun r => { r with held := 2 :: r.held }) (resetL2 s) := (rfl)

theorem rstHoldDone_two (hp : s.rst.phase = .hold 2) (hl : s.rst.level = 2) (hi : rd s IMG_STATUS_STATE = 4) (hf : rd s FLT_STAT_STATE ≠ 2) :
    rstHoldDone s = levelHeld 2 (warmReset (advanceTo s.rst.holdEnd s)) := by
  have hrst : (warmReset (advanceTo s.rst.holdEnd s)).rst = s.rst := by rw [warmReset_rst, advanceTo_rst]
  rw [rstHoldDone_eq hp, rstReset_two, resetL2_running (by simpa using hi) (by simpa using hf), rstNext_held (by simp [hrst, hl])]
  rfl

theorem effects_resetHoldDone_two (hb : Between s) (hp : s.rst.phase = .hold 2) (hl : s.rst.level = 2) (hi : rd s IMG_STATUS_STATE = 4)
    (hf : rd s FLT_STAT_STATE ≠ 2) : Effects .resetHoldDone s (fun v => rd v FLT_STAT_STATE = 0 ∧ rd v FLT_STAT_ALIVE_STOP = 0
      ∧ rd v GEN_MODESTAT_REJECT = 0 ∧ v.rst.phase = .wait ∧ v.now = max s.now s.rst.holdEnd ∧ v.flt.raised = []
      ∧ RegsBut [FLT_STAT_STATE, FLT_STAT_ALIVE_STOP, GEN_MODESTAT_REJECT] s v ∧ StoresSame s v) := by
  have he := (exec_resetHoldDone s).trans (congrArg (done s) (rstHoldDone_two hp hl hi hf))
  have hk := kept_advanceTo s.rst.holdEnd s
  have hnow := advanceTo_now s.rst.holdEnd s
  have hregs : RegsBut [FLT_STAT_STATE, FLT_STAT_ALIVE_STOP, GEN_MODESTAT_REJECT] s (advanceTo s.rst.holdEnd s) := fun f _ => rd_advanceTo _ _ f
  have hraised : (advanceTo s.rst.holdEnd s).flt.raised = [] := by rw [advanceTo_flt, raised_of_between hb]
  generalize advanceTo s.rst.holdEnd s = p at *
  obtain ⟨hstate, halive, hrej⟩ := warmReset_fields p
  have hheld : RegsBut [FLT_STAT_STATE, FLT_STAT_ALIVE_STOP, GEN_MODESTAT_REJECT] s (levelHeld 2 (warmReset p)) :=
    regsBut_trans (regsBut_trans hregs (regsBut_warmReset p)) (regsBut_of_rd (rd_levelHeld 2 _) _)
  refine ⟨_, he, by rw [rd_levelHeld, hstate], by rw [rd_levelHeld, halive], by rw [rd_levelHeld, hrej], rfl, ?_, ?_, hheld,
    (((hk.trans (kept_warmReset p)).modRst _).modRst _).storesSame⟩
  · rw [levelHeld, modRst_now, modRst_now, warmReset_now, hnow]
  · rw [levelHeld, modRst_flt, modRst_flt, warmReset_raised, hraised]

end

/-! ### The release (R482, R485, R492) -/

section
variable {dt : Nat} {l : List Fld} {s u : State}

theorem within_modGrp (h : Within dt l s u) (g : Nat) (f : RwsGroup → RwsGroup) : Within dt l s (modGrp g f u) :=
  ⟨h.now, h.regs, h.kept.modGrp g f, h.quiet⟩

theorem within_modRst (h : Within dt l s u) (f : RstS → RstS) : Within dt l s (modRst f u) := ⟨h.now, h.regs, h.kept.modRst f, h.quiet⟩

theorem within_thenPass (h : Within dt l s u) (n : Nat) : Within (dt + n) l s (pass n u) where
  now := by rw [pass_now, h.now, Nat.add_assoc]
  regs := regsBut_trans h.regs (regsBut_of_rd (rd_pass n u) l)
  kept := h.kept.trans (kept_pass n u)
  quiet := (calm_pass n u).trans h.quiet

/-- a change of RST.CAUSE that waits for its slow edge -/
theorem aonHw_cause (f : Fld) (v : Nat) (s : State) :
    aonHw 1 f v s = put RST_CAUSE_PENDING (b2n ((ix (hwWaits 1 f v s).aon.grp 1).landAt.isSome || !(ix (hwWaits 1 f v s).aon.grp 1).hw.isEmpty))
      (hwWaits 1 f v s) := (rfl)

theorem within_aonHw_cause (h : Within dt l s u) (hl : RST_CAUSE_PENDING ∈ l) (f : Fld) (v : Nat) : Within dt l s (aonHw 1 f v u) :=
  (within_modGrp h 1 _).put hl _

theorem pending_aonHw_cause (f : Fld) (v : Nat) (s : State) : rd (aonHw 1 f v s) RST_CAUSE_PENDING = 1 := by
  have hw : (ix (hwWaits 1 f v s).aon.grp 1).hw = (ix s.aon.grp 1).hw ++ [(slowEdgeAfter s.now 3, fldKey f, v % 2 ^ fldWidth f)] :=
    congrArg RwsGroup.hw (ix_upd_same s.aon.grp _ (by decide))
  rw [aonHw_cause, rd_put_same, hw]
  simp [b2n]

/-- what holds after the first change of RST.CAUSE and outlasts each further one -/
theorem causeUpdate_holds {P : State → Prop} (hP : ∀ f v w, P w → P (aonHw 1 f v w)) (h : P (aonHw 1 RST_CAUSE_LAST_LEVEL s.rst.level s)) :
    P (causeUpdate s) := by
  have hite : ∀ {c : Bool} {w w' : State}, P w → P w' → P (if c then w else w') := fun {c} _ _ hw hw' => by
    cases c
    · exact hw'
    · exact hw
  have hsrc := hP RST_CAUSE_LAST_SRC s.rst.seen _ h
  have hflt := hite (c := bitAt s.rst.seen 2) (hP RST_CAUSE_FLT 1 _ hsrc) hsrc
  have hpin := hite (c := bitAt s.rst.seen 1) (hP RST_CAUSE_PIN 1 _ hflt) hflt
  exact hite (c := bitAt s.rst.seen 0) (hP _ _ _ (hP _ _ _ (hP _ _ _ hpin))) hpin

theorem within_causeUpdate (h : Within dt l s u) (hl : RST_CAUSE_PENDING ∈ l) : Within dt l s (causeUpdate u) :=
  causeUpdate_holds (fun _ _ _ hw => within_aonHw_cause hw hl _ _) (within_aonHw_cause h hl _ _)

theorem pending_causeUpdate (s : State) : rd (causeUpdate s) RST_CAUSE_PENDING = 1 :=
  causeUpdate_holds (P := fun w => rd w RST_CAUSE_PENDING = 1) (fun f v w _ => pending_aonHw_cause f v w) (pending_aonHw_cause _ _ s)

theorem causeUpdate_rst (s : State) : (causeUpdate s).rst = s.rst := causeUpdate_holds (P := fun w => w.rst = s.rst) (fun _ _ _ h => h) rfl

theorem causeUpdate_flt (s : State) : (causeUpdate s).flt = s.flt := causeUpdate_holds (P := fun w => w.flt = s.flt) (fun _ _ _ h => h) rfl

theorem causeUpdate_sec (s : State) : (causeUpdate s).sec = s.sec := causeUpdate_holds (P := fun w => w.sec = s.sec) (fun _ _ _ h => h) rfl

theorem rd_causeUpdate {f : Fld} (hf : fldKey RST_CAUSE_PENDING ≠ fldKey f) (s : State) : rd (causeUpdate s) f = rd s f :=
  (within_causeUpdate (within_self [RST_CAUSE_PENDING] s) (by simp)).rd_eq (by simpa using hf.symm)

/-- the sequence ends -/
def seqEnded (s : State) : State := modRst (fun r => { r with phase := .run, held := [], seen := 0, saved := false, lost := false }) s

/-- the cause is posted after n and the sequence ends -/
def causePosted (n : Nat) (s : State) : State := seqEnded (causeUpdate (pass n s))

theorem within_seqEnded (h : Within dt l s u) : Within dt l s (seqEnded u) := within_modRst h _

theorem within_causePosted (h : Within dt l s u) (hl : RST_CAUSE_PENDING ∈ l) (n : Nat) : Within (dt + n) l s (causePosted n u) :=
  within_seqEnded (within_causeUpdate (within_thenPass h n) hl)

theorem pending_causePosted (n : Nat) (s : State) : rd (causePosted n s) RST_CAUSE_PENDING = 1 := pending_causeUpdate (pass n s)

theorem rd_causePosted {f : Fld} (hf : fldKey RST_CAUSE_PENDING ≠ fldKey f) (n : Nat) (s : State) : rd (causePosted n s) f = rd s f :=
  (rd_causeUpdate hf (pass n s)).trans (rd_pass n s f)

theorem causePosted_flt (n : Nat) (s : State) : (causePosted n s).flt = s.flt := (causeUpdate_flt (pass n s)).trans (pass_flt n s)

theorem causePosted_sec (n : Nat) (s : State) : (causePosted n s).sec = s.sec := (causeUpdate_sec (pass n s)).trans (pass_sec n s)

theorem causePosted_rst (n : Nat) (s : State) :
    (causePosted n s).rst = { s.rst with phase := .run, held := [], seen := 0, saved := false, lost := false } := by
  rw [causePosted, seqEnded, modRst_rst, causeUpdate_rst, pass_rst]

/-- fuses sensed after n, straps and supply banks taken: what the release after an L0 begins with -/
def coldSampled (n straps d1 : Nat) (bad : Bool) (banks : List Nat) (s : State) : State :=
  modRst (fun r => { r with bank33 := (List.range 7).foldl (fun v i => vset v i (bankClass (banks.getD i 0))) r.bank33 })
    (senseFuses d1 bad (pass n s) |> put RST_STRAP_BOOT straps |> put RST_STRAP_CLKMODE (straps / 4)
      |> put RST_STRAP_HOSTSEL (straps / 16) |> put REF_SYSCLK_CLASS (straps / 4))

/-- the sequence waits for its release and no source is asserted -/
structure Releasable (s : State) : Prop where
  phase : s.rst.phase = .wait
  por : s.rst.por = false
  pin : s.rst.pin = false
  flt : s.rst.flt = false

variable {straps d1 : Nat} {bad : Bool} {banks : List Nat}

theorem Releasable.ready (h : Releasable s) : (s.rst.phase != .wait || rstAsserted s) = false := by
  simp [rstAsserted, h.phase, h.por, h.pin, h.flt]

theorem rstRelease_two (h : Releasable s) (hl : s.rst.level = 2) (hc : s.flt.corrupt = false) :
    rstRelease straps d1 bad banks s = causePosted rclkU s := by
  have hcorrupt : (causePosted rclkU s).flt.corrupt = false := by rw [causePosted_flt, hc]
  unfold causePosted seqEnded at hcorrupt ⊢
  simp [rstRelease, h.ready, hl, hcorrupt, -modRst_flt]

theorem rstRelease_zero (h : Releasable s) (hl : s.rst.level = 0) :
    rstRelease straps d1 bad banks s = startL0 (causePosted rclkU (coldSampled (515 * rclkU) straps d1 bad banks s)) := by
  simp [rstRelease, h.ready, hl, causePosted, seqEnded, coldSampled]

theorem exec_resetRelease (s1 s2 s3 d1 : Nat) (bad : Bool) (banks : List Nat) (s : State) :
    exec (.resetRelease s1 s2 s3 d1 bad banks) s = done s (rstRelease (strapMajority s1 s2 s3) d1 bad banks s) := (rfl)

variable {s1 s2 s3 : Nat}

theorem completes_resetRelease_two (hb : Between s) (h : Releasable s) (hl : s.rst.level = 2) (hc : s.flt.corrupt = false) :
    Completes (.resetRelease s1 s2 s3 0 false banks) s (fun t => t.rst.phase = .run ∧ t.rst.held = [] ∧ rd t RST_CAUSE_PENDING = 1
      ∧ t.now = s.now + rclkU ∧ RegsBut [RST_CAUSE_PENDING] s t ∧ StoresSame s t) := by
  have hw := within_causePosted (within_self [RST_CAUSE_PENDING] s) (by simp) rclkU
  have he := exec_resetRelease s1 s2 s3 0 false banks s
  rw [rstRelease_two h hl hc] at he
  rw [Nat.zero_add] at hw
  exact hw.completes he hb ⟨by rw [causePosted_rst], by rw [causePosted_rst], pending_causePosted _ _, hw.now, hw.regs, hw.storesSame⟩

/-! #### Fuses and straps (R433, R485) -/

/-- the registers that follow the fuses -/
def fuseFields : List Fld :=
  [SEC_STAT_SIGNED_BOOT, SEC_STAT_DUK_KILL, SEC_STAT_USABLE, SEC_STAT_ARB, GEN_ID_GRADE, RST_MAP_POR, RST_MAP_PIN, RST_MAP_FLT]
    ++ (List.range 48).map SCH_CHn_STAT_FAILST

/-- the registers that a release after an L0 writes -/
def releaseFields : List Fld :=
  fuseFields ++ [SEC_STAT_FUSE_OK, RST_STRAP_BOOT, RST_STRAP_CLKMODE, RST_STRAP_HOSTSEL, REF_SYSCLK_CLASS, RST_CAUSE_PENDING]

/-- the fields of SEC, GEN and RST follow the sensed fuses -/
def fuseShown (s : State) : State :=
  s |> putB SEC_STAT_SIGNED_BOOT (signedBoot s) |> putB SEC_STAT_DUK_KILL (dukKill s) |> put SEC_STAT_USABLE (usable s)
    |> put SEC_STAT_ARB (arbCount s) |> put GEN_ID_GRADE (fuseBits s.sec.sensed (8 * 0xBF) 4)
    |> put RST_MAP_POR (fuseBits s.sec.sensed (8 * 0xBC) 2) |> put RST_MAP_PIN (fuseBits s.sec.sensed (8 * 0xBC + 2) 2)
    |> put RST_MAP_FLT (fuseBits s.sec.sensed (8 * 0xBC + 4) 2)

theorem fuseEffect_eq (s : State) :
    fuseEffect s = forEach (List.range 48) (fun n w => put (SCH_CHn_STAT_FAILST n) (failFuse w n) w) (fuseShown s) := (rfl)

theorem rewritten_fuseShown (s : State) : Rewritten fuseFields s (fuseShown s) := by
  have h0 : Rewritten fuseFields s s := ⟨fun _ _ => rfl, rfl⟩
  have hm : ∀ f ∈ [SEC_STAT_SIGNED_BOOT, SEC_STAT_DUK_KILL, SEC_STAT_USABLE, SEC_STAT_ARB, GEN_ID_GRADE, RST_MAP_POR, RST_MAP_PIN, RST_MAP_FLT],
    f ∈ fuseFields := fun _ hf => List.mem_append_left _ hf
  exact (((((((h0.put (hm _ (by simp)) _).put (hm _ (by simp)) _).put (hm _ (by simp)) _).put (hm _ (by simp)) _).put (hm _ (by simp)) _).put
    (hm _ (by simp)) _).put (hm _ (by simp)) _).put (hm _ (by simp)) _

theorem rewritten_fuseEffect (s : State) : Rewritten fuseFields s (fuseEffect s) := by
  rw [fuseEffect_eq]
  exact (rewritten_fuseShown s).forEach (List.range 48) fun n hn => List.mem_append_right _ (List.mem_map_of_mem hn)

theorem fuseEffect_sec (s : State) : (fuseEffect s).sec = s.sec := (rewritten_fuseEffect s).sec_eq

theorem Rewritten.within {v : State} (h : Rewritten l u v) (hw : Within dt l s u) : Within dt l s v where
  now := (congrArg State.now h.rest).trans hw.now
  regs := regsBut_trans hw.regs h.regs
  kept := ⟨(congrArg State.pending h.rest).trans hw.kept.pending, (congrArg State.mram h.rest).trans hw.kept.mram,
    (congrArg State.mramJ h.rest).trans hw.kept.mramJ, (congrArg State.cram h.rest).trans hw.kept.cram, (congrArg State.otp h.rest).trans hw.kept.otp⟩
  quiet := (calm_of_offRegs h.rest).trans hw.quiet

theorem Rewritten.mono {l' : List Fld} {v : State} (h : Rewritten l u v) (hl : ∀ f ∈ l, f ∈ l') : Rewritten l' u v :=
  ⟨ReferenceSelection.regsBut_mono h.regs hl, h.rest⟩

/-- the sensed copy takes the fuses -/
def fusesSensed (s : State) : State := modSec (fun x => { x with sensed := s.otp % 2 ^ 2048 }) s

theorem fusesSensed_sec (s : State) : (fusesSensed s).sec = { s.sec with sensed := s.otp % 2 ^ 2048 } := modSec_sec _ s

/-- the fuses sensed after n, both passes alike -/
def coldSensed (n : Nat) (s : State) : State := fuseEffect (put SEC_STAT_FUSE_OK 1 (fusesSensed (pass n s)))

theorem senseFuses_good (s : State) : senseFuses 0 false s = fuseEffect (put SEC_STAT_FUSE_OK 1 (fusesSensed s)) := by
  rw [senseFuses, Nat.or_zero]
  rfl

theorem within_fusesSensed (h : Within dt l s u) : Within dt l s (fusesSensed u) :=
  ⟨h.now, h.regs, ⟨h.kept.pending, h.kept.mram, h.kept.mramJ, h.kept.cram, h.kept.otp⟩, h.quiet⟩

theorem within_coldSensed (n : Nat) (s : State) : Within n releaseFields s (coldSensed n s) :=
  ((rewritten_fuseEffect _).mono fun _ hf => List.mem_append_left _ hf).within
    ((within_fusesSensed (within_pass n releaseFields s)).put (by simp [releaseFields]) 1)

theorem coldSensed_fuseOk (n : Nat) (s : State) : rd (coldSensed n s) SEC_STAT_FUSE_OK = 1 := by
  have h := (rewritten_fuseEffect (put SEC_STAT_FUSE_OK 1 (fusesSensed (pass n s)))).regs SEC_STAT_FUSE_OK (by simp [fuseFields]; omega)
  rw [coldSensed, h]
  simp

theorem coldSensed_sensed (n : Nat) (s : State) : (coldSensed n s).sec.sensed = s.otp % 2 ^ 2048 := by
  rw [coldSensed, fuseEffect_sec, put_sec, fusesSensed_sec, pass_otp]

theorem within_coldSampled (n straps : Nat) (banks : List Nat) (s : State) : Within n releaseFields s (coldSampled n straps 0 false banks s) := by
  have h := ((((within_coldSensed n s).put (f := RST_STRAP_BOOT) (by simp [releaseFields]) straps).put (f := RST_STRAP_CLKMODE)
    (by simp [releaseFields]) (straps / 4)).put (f := RST_STRAP_HOSTSEL) (by simp [releaseFields]) (straps / 16)).put (f := REF_SYSCLK_CLASS)
    (by simp [releaseFields]) (straps / 4)
  rw [coldSampled, senseFuses_good]
  exact within_modRst h _

/-- element i of a vector after a loop that gives every element below n its value -/
theorem ix_foldl_vset {α : Type} [Inhabited α] {k n i : Nat} (g : Nat → α) (v : Vector α k) (hn : n ≤ k) (hi : i < n) :
    ix ((List.range n).foldl (fun v j => vset v j (g j)) v) i = g i := by
  induction n with
  | zero => exact absurd hi (Nat.not_lt_zero i)
  | succ n ih =>
    rw [List.range_succ, List.foldl_append, List.foldl_cons, List.foldl_nil]
    by_cases h : i = n
    · subst h
      exact ix_vset_same _ _ (by omega)
    · rw [ix_vset_ne _ _ (Ne.symm h), ih (by omega) (by omega)]

theorem coldSampled_straps (n straps : Nat) (banks : List Nat) (s : State) : rd (coldSampled n straps 0 false banks s) RST_STRAP_BOOT = straps % 4
    ∧ rd (coldSampled n straps 0 false banks s) RST_STRAP_CLKMODE = straps / 4 % 4 ∧ rd (coldSampled n straps 0 false banks s) RST_STRAP_HOSTSEL = straps / 16 % 2
    ∧ rd (coldSampled n straps 0 false banks s) REF_SYSCLK_CLASS = straps / 4 % 4 := by
  simp [coldSampled, rd_put_eq]

theorem coldSampled_fuseOk (n straps : Nat) (banks : List Nat) (s : State) : rd (coldSampled n straps 0 false banks s) SEC_STAT_FUSE_OK = 1 := by
  have h := coldSensed_fuseOk n s
  rw [coldSensed] at h
  simpa [coldSampled, senseFuses_good, rd_put_eq] using h

theorem coldSampled_sensed (n straps : Nat) (banks : List Nat) (s : State) : (coldSampled n straps 0 false banks s).sec.sensed = s.otp % 2 ^ 2048 := by
  have h := coldSensed_sensed n s
  rw [coldSensed] at h
  rw [coldSampled, senseFuses_good, modRst_sec, put_sec, put_sec, put_sec, put_sec, h]

theorem coldSampled_bank33 (n straps : Nat) (banks : List Nat) (s : State) {i : Nat} (hi : i < 7) :
    ix (coldSampled n straps 0 false banks s).rst.bank33 i = bankClass (banks.getD i 0) := by
  rw [coldSampled, modRst_rst]
  exact ix_foldl_vset (fun j => bankClass (banks.getD j 0)) _ (by decide) hi

theorem testBit_strapMajority (i : Nat) : (strapMajority s1 s2 s3).testBit i =
    ((s1.testBit i && s2.testBit i) || (s1.testBit i && s3.testBit i) || (s2.testBit i && s3.testBit i)) := by
  simp [strapMajority]

theorem leads_resetRelease_zero (hb : Between s) (h : Releasable s) (hl : s.rst.level = 0) :
    Leads (.resetRelease s1 s2 s3 0 false banks) s startL0 (fun u => u.rst.phase = .run
      ∧ (∃ m, (∀ i < 5, m.testBit i = ((s1.testBit i && s2.testBit i) || (s1.testBit i && s3.testBit i) || (s2.testBit i && s3.testBit i)))
        ∧ rd u RST_STRAP_BOOT = m % 4 ∧ rd u RST_STRAP_CLKMODE = m / 4 % 4 ∧ rd u RST_STRAP_HOSTSEL = m / 16 % 2 ∧ rd u REF_SYSCLK_CLASS = m / 4 % 4)
      ∧ (∀ i < 7, ix u.rst.bank33 i = if 2900 < banks.getD i 0 then 1 else if banks.getD i 0 < 2000 then 2 else 0) ∧ rd u SEC_STAT_FUSE_OK = 1
      ∧ u.sec.sensed = s.otp % 2 ^ 2048 ∧ u.now = s.now + 516 * rclkU ∧ rd u RST_CAUSE_PENDING = 1 ∧ u.flt.raised = [] ∧ StoresSame s u) := by
  have he := exec_resetRelease s1 s2 s3 0 false banks s
  rw [rstRelease_zero h hl] at he
  have hw := within_causePosted (within_coldSampled (515 * rclkU) (strapMajority s1 s2 s3) banks s) (by simp [releaseFields]) rclkU
  obtain ⟨hboot, hclk, hhost, hclass⟩ := coldSampled_straps (515 * rclkU) (strapMajority s1 s2 s3) banks s
  refine ⟨_, he, by rw [causePosted_rst], ⟨strapMajority s1 s2 s3, fun i _ => testBit_strapMajority i, ?_, ?_, ?_, ?_⟩, fun i hi => ?_, ?_, ?_, ?_,
    pending_causePosted _ _, hw.raised hb, hw.storesSame⟩
  · rw [rd_causePosted (by simp), hboot]
  · rw [rd_causePosted (by simp), hclk]
  · rw [rd_causePosted (by simp), hhost]
  · rw [rd_causePosted (by simp), hclass]
  · rw [causePosted_rst, coldSampled_bank33 _ _ _ _ hi, bankClass]
  · rw [rd_causePosted (by simp), coldSampled_fuseOk]
  · rw [causePosted_sec, coldSampled_sensed]
  · rw [hw.now, ← Nat.succ_mul]

/-! ### Loss of both supplies (R255, R259, R492) -/

/-- the always-on domain at 0, the PENDING bits not yet -/
def aonLost (s : State) : State := { s with aon := { edge := slowEdges s.now } }

theorem grpPending_aonLost (s : State) : grpPending (grpPending (aonLost s) 0) 1 = put RST_CAUSE_PENDING 0 (put TKP_RTC_CTL_PENDING 0 (aonLost s)) := by
  have hgrp : ∀ g < 2, ix (aonLost s).aon.grp g = {} := fun g hg => ix_replicate hg _
  simp [grpPending, hgrp, b2n]

theorem vbatLoss_eq (s : State) : vbatLoss s = rtcSlot (put RST_CAUSE_PENDING 0 (put TKP_RTC_CTL_PENDING 0 (aonLost s))) := by
  rw [← grpPending_aonLost]
  rfl

theorem within_aonLost (h : Within dt l s u) : Within dt l s (aonLost u) :=
  ⟨h.now, h.regs, ⟨h.kept.pending, h.kept.mram, h.kept.mramJ, h.kept.cram, h.kept.otp⟩, h.quiet⟩

theorem exec_supplyAndVbatLoss (dt : Nat) (s : State) : exec (.supplyAndVbatLoss dt) s = done s (vbatLoss (pass dt s)) := (rfl)

theorem leads_supplyAndVbatLoss (hb : Between s) : Leads (.supplyAndVbatLoss dt) s rtcSlot (fun u => u.aon = { edge := slowEdges (s.now + dt) }
    ∧ rd u TKP_RTC_CTL_PENDING = 0 ∧ rd u RST_CAUSE_PENDING = 0 ∧ u.flt.raised = [] ∧ RegsBut [TKP_RTC_CTL_PENDING, RST_CAUSE_PENDING] s u
    ∧ StoresSame s u) := by
  have he := exec_supplyAndVbatLoss dt s
  rw [vbatLoss_eq] at he
  have hw := ((within_aonLost (within_pass dt [TKP_RTC_CTL_PENDING, RST_CAUSE_PENDING] s)).put (f := TKP_RTC_CTL_PENDING) (by simp) 0).put
    (f := RST_CAUSE_PENDING) (by simp) 0
  refine ⟨_, he, ?_, by simp [rd_put_eq], by simp, hw.raised hb, hw.regs, hw.storesSame⟩
  simp [aonLost]

end

/-! ### The obligation -/

/-- Settles O21: the hold step of L0 is a fresh state with the kept registers carried over, that of L2 a change of three fields; a release
is the sampling of fuses and straps, the posting of the cause and the end of the sequence. -/
theorem resetLevelsDoWhatTheyReach : Obligations.ResetLevelsDoWhatTheyReach := by
  unfold Obligations.ResetLevelsDoWhatTheyReach
  intro dt s1 s2 s3 banks s hb
  refine ⟨completes_resetHoldDone_zero hb, effects_resetHoldDone_two hb, fun hphase hpor hpin hflt => ?_, leads_supplyAndVbatLoss hb⟩
  have h : Releasable s := ⟨hphase, hpor, hpin, hflt⟩
  exact ⟨completes_resetRelease_two hb h, leads_resetRelease_zero hb h⟩

end Sys2Proof.Resets
